-- ==== Sys2Proof/Word.lean ====
section
/-!
DEFINITION. The word types and their plainest arithmetic.
-/
namespace Sys2Proof

/-- One byte. -/
abbrev Byte := BitVec 8

/-- One 32-bit register word. -/
abbrev Word := BitVec 32

/-- `v` truncated to `w` bits, as a register field of `w` bits holds it. -/
def trunc (w v : Nat) : Nat := v % 2 ^ w

/-- Bit `b` of `v`. -/
def bit (v b : Nat) : Bool := v.testBit b

/-- Bits `[hi:lo]` of `v`. -/
def slice (v hi lo : Nat) : Nat := v / 2 ^ lo % 2 ^ (hi + 1 - lo)

/-- `v` with bit `b` set. -/
def setBit (v b : Nat) : Nat := v ||| 2 ^ b

/-- `v` with bit `b` clear. -/
def clrBit (v b : Nat) : Nat := if v.testBit b then v - 2 ^ b else v

/-- A Bool as a one-bit field. -/
def b2n (b : Bool) : Nat := if b then 1 else 0

/-- The signed value of a `w`-bit field. -/
def toSigned (w v : Nat) : Int := if v % 2 ^ w < 2 ^ (w - 1) then (v % 2 ^ w : Nat) else ((v % 2 ^ w : Nat) : Int) - 2 ^ w

/-- The `w`-bit field that holds a signed value, wrapping. -/
def ofSigned (w : Nat) (v : Int) : Nat := (v % 2 ^ w).toNat

/-- `v` clamped to `lo` to `hi`. -/
def clampN (lo hi v : Nat) : Nat := if v < lo then lo else if hi < v then hi else v

/-- `v` clamped to `lo` to `hi`. -/
def clampI (lo hi v : Int) : Int := if v < lo then lo else if hi < v then hi else v

/-- 0 acts as 1, a rule many configuration fields carry. -/
def nz (v : Nat) : Nat := if v = 0 then 1 else v

/-- The little-endian bytes of a value (R8). -/
def leBytes : Nat → Nat → List Nat
  | 0, _ => []
  | n + 1, v => v % 256 :: leBytes n (v / 256)

/-- The big-endian bytes of a value, as on-disc structures record it (R9). -/
def beBytes (n v : Nat) : List Nat := (leBytes n v).reverse

/-- The value of little-endian bytes (R8). -/
def ofLe : List Nat → Nat
  | [] => 0
  | b :: bs => b % 256 + 256 * ofLe bs

/-- The value of big-endian bytes (R9). -/
def ofBe (bs : List Nat) : Nat := ofLe bs.reverse

end Sys2Proof
end

