-- ==== Sys2Proof/Syntax.lean ====
section
/-!
DEFINITION. The commands of the block, one constructor per row of the opcode table.
-/
namespace Sys2Proof

/-- The two heads (R75). -/
inductive Head | L | U
  deriving DecidableEq, Repr

/-- A head's number: 0 for L, 1 for U. -/
def Head.n : Head → Nat
  | .L => 0
  | .U => 1

/-- A block of the HSL FEC stream (R85): data of a stream, or a control block. -/
inductive FecBlock
  | data (stream seq : BitVec 8) (samples : BitVec 240)
  | control (type tag : BitVec 8) (body : BitVec 240)
  deriving DecidableEq, Repr

/-- A corrected FEC codeword: its blocks in order and the symbols corrected (R84, R119). -/
structure CodewordIn where
  blocks : List FecBlock
  corrected : Nat
  /-- Mean commanded power per beam over the 100 ns a monitor sample covers, 10 µW units (R335). -/
  power : List Nat
  deriving DecidableEq, Repr

/-- The pages of a head's link group and its actuator link (R75). -/
inductive LinkPage | hsl0 | hsl1 | htx | acl
  deriving DecidableEq, Repr

/-- The control field of a training frame (R93). -/
structure TrainingFrame where
  window : Nat
  tap : Fin 4
  action : Fin 4
  preset : Fin 16
  ready : Bool
  last : Bool
  crcOk : Bool
  /-- Front-end tap settings and receiver codes as agreed so far: TX_FFE and RX_EQ words. -/
  ffe : BitVec 16
  eq : BitVec 32
  deriving DecidableEq, Repr

/-- The limits of a profile channel (R151). -/
inductive PgLimit | v | a | j
  deriving DecidableEq, Repr

/-- What the commutation unit measures in a PWM period (R199 to R202). -/
structure PwmSample where
  /-- Two usable windows were found or made. -/
  usable : Bool
  /-- Observer speed, signed, 1/16 rpm. -/
  obs : Int
  /-- Comparator speed, signed, rpm. -/
  cmp : Int
  /-- Currents in the d-q frame, mA. -/
  iq : Int
  id' : Int
  /-- Rotor angle of the observer, 2^−16 revolution. -/
  angle : Nat
  /-- Bus, mV. -/
  mv : Nat
  /-- Chopper current, mA. -/
  chop : Nat
  /-- Highest phase current, mA. -/
  ma : Nat
  deriving DecidableEq, Repr

/-- Why a start fails (R205). -/
inductive StartFail | observer | notStopped | noEdge
  deriving DecidableEq, Repr

/-- A cluster for the encoder (R324). -/
structure ClusterIn where
  head : Head
  /-- PSA of sector 0 of the slot the cluster is going to. -/
  psa : Nat
  /-- LBA of sector 0, or none outside the user address space. -/
  lba : Option Nat
  stream : Nat
  compressed : Bool
  /-- Sectors the host supplied: bit s for sector s. -/
  mask : Nat
  /-- 32 payloads of 2,048 bytes, after stages 1 and 2 of R20; the cipher of stage 3 is the command's. -/
  sectors : List (List Nat)
  deriving DecidableEq, Repr

/-- An OPC run's trigger and findings (R340, R341). -/
structure OpcIn where
  head : Head
  layer : Nat
  install : Bool
  /-- For each data beam and step 0 to 15, Ep and En of x1 over each 256-sample block. -/
  blocks : List (List (List (Rat × Rat)))
  /-- Measuring revolutions in which H was true. -/
  badRevs : Nat
  /-- The head began a recording, or a trip occurred. -/
  disturbed : Bool
  /-- The head stopped following during the run. -/
  lostTrack : Bool
  deriving DecidableEq, Repr

/-- What ends the validity of an OPC result (R338). -/
inductive OpcEnd | discRemoved | speedChanged | temperature | hours | rpcLimit
  deriving DecidableEq, Repr

/-- A verify read (R356). -/
structure VerifyIn where
  psa : Nat
  /-- 0 Decoded, 1 Failed, 2 Blank, 3 Inconsistent. -/
  outcome : Fin 4
  /-- Failed codewords and the worst column's 2e + f. -/
  cwFail : Nat
  rs : Nat
  /-- SQUALL decoded the cluster after a failed read. -/
  recovered : Bool
  deriving DecidableEq, Repr

/-- A position in a search window: its offset from E, the bits in which it differs from the expected body, and the two
bits that follow (R258). -/
structure SyncCand where
  offset : Int
  diff : Nat
  ident : Fin 4
  deriving DecidableEq, Repr

/-- A parity error found in a way of the line cache (R373): in a data byte, or in its tag or state, with the dirty bit
itself in error or not. -/
inductive CachePar | data | tag (dirtyBit : Bool)
  deriving DecidableEq, Repr

/-- What a DRAM read finds wrong in a chunk (R387), with the syndrome of bits [9:0] or the flag read. -/
inductive ChunkErr | flagBit | single (synd : BitVec 10) | address (synd : BitVec 10) | double (synd : BitVec 10) | badFlag (flag : BitVec 6)
  deriving DecidableEq, Repr


/-- A SUBMIT with GO (R417): its requester and tag, and whether it arrives during steps 2 and 3 of the one before. -/
structure Submit where
  req : Fin 28
  tag : BitVec 12
  early : Bool
  deriving DecidableEq, Repr

/-- What a claim is on: the intake, the vault's request page, a mailbox (R414, R478, R495). -/
inductive ClaimOf | trf | vlq | mbx (m : Fin 8)
  deriving DecidableEq, Repr

/-- An entry of a descriptor list (R416). -/
structure Descriptor where
  addr : BitVec 64
  len : BitVec 32
  flags : BitVec 32
  deriving DecidableEq, Repr

/-- An access to the vault's message buffers through their data registers (R495). -/
inductive VlqAccess | reqRead | reqWrite (v : BitVec 32) | rspRead
  deriving DecidableEq, Repr

/-- A regulator's reading over the PMBus (R550): whether it succeeded, STATUS_WORD, output in mV and current in 10 mA. -/
structure PmbRead where
  entry : Fin 8
  ok : Bool
  status : BitVec 16
  vout : BitVec 16
  iout : BitVec 16
  deriving DecidableEq, Repr

/-- How a raw PMBus transaction ends (R551). -/
structure PmbEnd where
  data : BitVec 16
  nack : Bool
  pecErr : Bool
  timeout : Bool
  deriving DecidableEq, Repr

/-- A DCZ cluster read at mount: its PSA, whether every sector passes R57 and the trailer R58, the trailer's write
sequence number, and its payload (R66, R570). -/
structure MountBlock where
  psa : BitVec 32
  ok : Bool
  wseq : BitVec 64
  bytes : List (BitVec 8)
  deriving DecidableEq, Repr

/-- What a mount finds on the disc (R570): on a DLA disc its variant code, DCZ blocks, NEXT_RUN of each side-layer, the
verdict on the replacement of each relocation left open (0 passes, 1 fails, 2 the side cannot be written), and for each
side whether each Seal Record copy recorded now verifies; on a legacy disc what its standard gives. -/
inductive MountIn
  | dla (variant : BitVec 8) (blocks : List MountBlock) (nextRun : List (BitVec 9)) (relocs : List (Fin 3)) (seals : List (List Bool))
  | legacy (profile : BitVec 16) (layers : BitVec 4) (lastLba : BitVec 32) (blank readOnly : Bool) (nwa : Option Nat)
  deriving DecidableEq, Repr

/-- How a start goes (R384, R494, R559, R565): the PROF strap, the DRAM channels that fail to
train at 8,533 MT/s and whether 6,400 MT/s fails too, the DRAM fitted (0, 1, 2: 4, 8, 16 GiB), and whether the tag of each store copy verifies. -/
structure BootIn where
  prof : Bool
  slow : BitVec 2
  dead : Bool
  cap : Fin 3
  tags : List Bool
  deriving DecidableEq, Repr

/-- The port an MMC command arrives on: UAS with its tag, or Bulk-Only Transport (R461). SATA carries them in PACKET. -/
inductive MmcVia | uas (tag : BitVec 16) | bot
  deriving DecidableEq, Repr

/-- A write to the PCIe configuration space (R457 to R459): Bus Master Enable, the size codes of device control, MSI-X
enable and function mask, D3hot, or any other register by its offset. -/
inductive PcieCfg
  | command (bme : Bool)
  | devControl (mps mrrs : BitVec 3)
  | msix (en mask : Bool)
  | power (d3hot : Bool)
  | other (addr : BitVec 12) (v : BitVec 32)
  deriving DecidableEq, Repr

/-- A library command (R471). -/
inductive LibCmd
  | readStatus
  | regRead (addr : BitVec 24)
  | regWrite (addr : BitVec 24) (v : BitVec 32)
  | mbxSend (len : BitVec 8) (words : List (BitVec 32))
  | mbxRecv
  | mbxAck
  | modeReq (mode flags : BitVec 8)
  | unknown
  deriving DecidableEq, Repr

/-- The commands of spec/opcode_table.json, one constructor per row, in the table's order.
Operands are what the command brings from outside: a value written, a sample, an address, an outcome measured there. -/
inductive Instr
  /-- POWER_ON_RESET (R558). The straps as sampled and how the start goes -/
  | powerOnReset (boot : BootIn) (limSel : Fin 4)
  /-- PIN_RESET (R566). RST_N low for at least 1 µs -/
  | pinReset
  /-- DEVICE_RESET (R566). The key written with GO, and the requester -/
  | deviceReset (key : BitVec 16) (req : Fin 28)
  /-- WATCHDOG_EXPIRED (R566). WDOG_MS without a kick -/
  | watchdogExpired
  /-- WDOG_KICK (R566). 1 written -/
  | wdogKick
  /-- RESET_RELEASE (R567). The trigger has ended; how the start goes -/
  | resetRelease (boot : BootIn)
  /-- RCV_DATA_WRITE (R564). The value written -/
  | rcvDataWrite (v : BitVec 32)
  /-- BOOT_CTL_WRITE (R562). The fields written with GO -/
  | bootCtlWrite (prefer trial confirm : Bool)
  /-- DRIVE_READY (R565). Steps 6 to 8 of R565 have ended -/
  | driveReady
  /-- TAP_RESET (R566). A test logic reset -/
  | tapReset
  /-- FUNCTION_LEVEL_RESET (R459). The host's request -/
  | functionLevelReset
  /-- USB_BUS_RESET (R566). The host's request -/
  | usbBusReset
  /-- USB_ATTACHMENT_CHANGE (R482). The link reached, as STATUS.ATTACH (0 detached); the alternate setting in use (0 none, 1 Bulk-Only, 2 UAS); link training failed -/
  | usbAttachmentChange (attach : Fin 6) (alt : Fin 3) (failed : Bool)
  /-- PCIE_TUNNEL_CHANGE (R455). The tunnels now set up; the alternate setting in use over the USB3 tunnel; the host refused a tunnel -/
  | pcieTunnelChange (pcie usb3 : Bool) (alt : Fin 3) (refused : Bool)
  /-- SATA_LINK_CHANGE (R482). The speed reached, as STATUS.SPEED (0 down); out-of-band signalling failed -/
  | sataLinkChange (speed : Fin 4) (failed : Bool)
  /-- COMRESET (R462). The host's request -/
  | comreset
  /-- PRIORITY_SLOT (R82). A window's priority slot on an HSL lane and the ns its delivery took, or none where it is absent. -/
  | prioritySlot (head : Head) (link : Fin 2) (slot : Option (BitVec 120)) (ns : Nat)
  /-- SERVO_TICK (R83). The 400 kHz servo tick, with the load angles the sleds' stepper units estimate, in electrical degrees, and the longest release-to-last-bit time of each ACL, ns. -/
  | servoTick (laL laU : Nat) (latL latU : BitVec 9)
  /-- SERVO_STALE (R106). 64 consecutive valid slots with the same eight samples have arrived on the lane. -/
  | servoStale (head : Head) (link : Fin 2)
  /-- FEC_CODEWORD (R88). An RS(544,514) codeword as FEC decoding leaves it: its twenty blocks and the symbols corrected, or none where it is uncorrectable. -/
  | fecCodeword (head : Head) (link : Fin 2) (cw : Option CodewordIn)
  /-- MONITOR_STREAM_ABSENT (R106). No 0x30 block for 1 µs. -/
  | monitorStreamAbsent (head : Head)
  /-- LANE_DOWN (R106). The lane's down condition is met, in window `window`. -/
  | laneDown (head : Head) (link : Fin 2) (window : Nat)
  /-- LANE_DEGRADED (R106). A millisecond ends in which the lane corrected `corrected` symbols. -/
  | laneDegraded (head : Head) (link : Fin 2) (corrected : Nat)
  /-- LINK_ENABLE (R93). CTRL.EN of a link page is written. -/
  | linkEnable (head : Head) (page : LinkPage) (en : Bool)
  /-- LINK_TRAIN (R93). 1 is written to TRAIN of a link page. -/
  | linkTrain (head : Head) (page : LinkPage)
  /-- TRAINING_FRAME (R93). A window's training frame arrives on an HSL lane. -/
  | trainingFrame (head : Head) (link : Fin 2) (frame : TrainingFrame)
  /-- TRAINING_TIMEOUT (R94). 50 ms from the trigger without ACTIVE, with the cause found. -/
  | trainingTimeout (head : Head) (cause : BitVec 8)
  /-- CONTROL_RESPONSE (R101). A control block arrives on HSL lane 0. -/
  | controlResponse (head : Head) (type tag : BitVec 8) (body : BitVec 240)
  /-- CONTROL_MESSAGE_TIMEOUT (R101). 2 µs without an answer to the message with this tag. -/
  | controlMessageTimeout (head : Head) (tag : BitVec 8)
  /-- HTX_MSG_GO (R103). 1 is written to MSG_CTRL.GO. -/
  | htxMsgGo (head : Head)
  /-- UNDERRUN (R100). A write symbol cannot be sent 1 µs before its emission. -/
  | underrun (head : Head)
  /-- COIL_DRIVER_FAULT (R115). FLT_N has been asserted for 1 µs. -/
  | coilDriverFault (head : Head)
  /-- FLT_N_RELEASE (R115). FLT_N is released; `restart` when the head is restarted with it. -/
  | fltNRelease (head : Head) (restart : Bool)
  /-- NOP (R128). The word at engine `e`'s PC, with its bits [25:0]. -/
  | nop (e : Fin 20) (w : BitVec 26)
  /-- ADD (R128). As NOP. -/
  | add (e : Fin 20) (w : BitVec 26)
  /-- SUB (R128). As NOP. -/
  | sub (e : Fin 20) (w : BitVec 26)
  /-- NEG (R128). As NOP. -/
  | neg (e : Fin 20) (w : BitVec 26)
  /-- ABS (R128). As NOP. -/
  | abs (e : Fin 20) (w : BitVec 26)
  /-- MIN (R128). As NOP. -/
  | min (e : Fin 20) (w : BitVec 26)
  /-- MAX (R128). As NOP. -/
  | max (e : Fin 20) (w : BitVec 26)
  /-- LIM (R128). As NOP. -/
  | lim (e : Fin 20) (w : BitVec 26)
  /-- AND (R128). As NOP. -/
  | and (e : Fin 20) (w : BitVec 26)
  /-- OR (R128). As NOP. -/
  | or (e : Fin 20) (w : BitVec 26)
  /-- XOR (R128). As NOP. -/
  | xor (e : Fin 20) (w : BitVec 26)
  /-- MOV (R128). As NOP. -/
  | mov (e : Fin 20) (w : BitVec 26)
  /-- SHL (R128). As NOP. -/
  | shl (e : Fin 20) (w : BitVec 26)
  /-- SHR (R128). As NOP. -/
  | shr (e : Fin 20) (w : BitVec 26)
  /-- MUL (R128). As NOP. -/
  | mul (e : Fin 20) (w : BitVec 26)
  /-- MAC (R128). As NOP. -/
  | mac (e : Fin 20) (w : BitVec 26)
  /-- MSU (R128). As NOP. -/
  | msu (e : Fin 20) (w : BitVec 26)
  /-- CLRA (R128). As NOP. -/
  | clra (e : Fin 20) (w : BitVec 26)
  /-- LDA (R128). As NOP. -/
  | lda (e : Fin 20) (w : BitVec 26)
  /-- MVA (R128). As NOP. -/
  | mva (e : Fin 20) (w : BitVec 26)
  /-- LDH (R128). As NOP. -/
  | ldh (e : Fin 20) (w : BitVec 26)
  /-- LDL (R128). As NOP. -/
  | ldl (e : Fin 20) (w : BitVec 26)
  /-- LD (R128). As NOP; `bad` when the data memory word read fails its parity. -/
  | load (e : Fin 20) (w : BitVec 26) (bad : Bool)
  /-- ST (R128). As NOP. -/
  | store (e : Fin 20) (w : BitVec 26)
  /-- SETX (R128). As NOP. -/
  | setx (e : Fin 20) (w : BitVec 26)
  /-- MOVX (R128). As NOP. -/
  | movx (e : Fin 20) (w : BitVec 26)
  /-- IN (R128). As NOP. -/
  | inPort (e : Fin 20) (w : BitVec 26)
  /-- OUT (R128). As NOP. -/
  | outPort (e : Fin 20) (w : BitVec 26)
  /-- CMP (R128). As NOP. -/
  | cmp (e : Fin 20) (w : BitVec 26)
  /-- TST (R128). As NOP. -/
  | tst (e : Fin 20) (w : BitVec 26)
  /-- BR (R128). As NOP. -/
  | branch (e : Fin 20) (w : BitVec 26)
  /-- CALL (R128). As NOP. -/
  | call (e : Fin 20) (w : BitVec 26)
  /-- RET (R128). As NOP. -/
  | ret (e : Fin 20) (w : BitVec 26)
  /-- WAIT (R130). As NOP. -/
  | wait (e : Fin 20) (w : BitVec 26)
  /-- ENGINE_WAKE (R130). Events, by WAIT mask bit, arrive at the engine. -/
  | engineWake (e : Fin 20) (events : BitVec 6)
  /-- HOOK (R142). As NOP. -/
  | hook (e : Fin 20) (w : BitVec 26)
  /-- RETC (R143). As NOP. -/
  | retc (e : Fin 20) (w : BitVec 26)
  /-- TRAP (R128). As NOP. -/
  | trap (e : Fin 20) (w : BitVec 26)
  /-- RESUME (R147). As NOP. -/
  | resume (e : Fin 20) (w : BitVec 26)
  /-- RGL (R128). As NOP; the access is issued. -/
  | rgl (e : Fin 20) (w : BitVec 26)
  /-- RGS (R128). As NOP; the access is issued. -/
  | rgs (e : Fin 20) (w : BitVec 26)
  /-- RG_COMPLETE (R128). The engine's register access is performed and completes, `cycles` engine cycles after its issue. -/
  | rgComplete (e : Fin 20) (cycles : Nat)
  /-- RG_TIMEOUT (R128). The engine's register access has not completed within 4 µs. -/
  | rgTimeout (e : Fin 20)
  /-- JI (R128). As NOP. -/
  | ji (e : Fin 20) (w : BitVec 26)
  /-- NANO_WORD (R133). The two-level micro-word at engine `e`'s PC; `bad` when a data memory word it reads fails its parity. -/
  | nanoWord (e : Fin 20) (w : BitVec 32) (bad : Bool)
  /-- CUSTOMER_BUDGET_EXHAUSTED (R143). The customer routine has executed its budget of cycles. -/
  | customerBudgetExhausted (e : Fin 20)
  /-- TICK_OVERRUN (R131). A tick arrives while the engine is not in a WAIT that names it. -/
  | tickOverrun (e : Fin 20)
  /-- ENGINE_HALT (R157). CTRL.HALT is written. -/
  | engineHalt (e : Fin 20) (halt : Bool)
  /-- ENGINE_STEP (R157). 1 is written to CTRL.STEP. -/
  | engineStep (e : Fin 20)
  /-- DOORBELL (R130). 1 is written to CTRL.DOORBELL. -/
  | doorbell (e : Fin 20)
  /-- CNT_CLR (R157). 1 is written to CTRL.CLR_CNT. -/
  | cntClr (e : Fin 20)
  /-- DM_DATA_ACCESS (R157). DM_DATA is written, or read where there is no data, by requester `req`. -/
  | dmDataAccess (e : Fin 20) (req : Nat) (data : Option (BitVec 32))
  /-- STORE_WINDOW_WRITE (R138). A write to a micro-store or nano-store window, by the boot ROM loader or by a requester. -/
  | storeWindowWrite (loader : Bool) (req : Nat) (addr : BitVec 24) (data : BitVec 32)
  /-- CUSTOMER_REGION_WRITE (R140). A window write to a customer region word. -/
  | customerRegionWrite (e : Fin 20) (word : Fin 1024) (data : BitVec 32)
  /-- CUST_ARM (R141). CUST_CTRL.ARM is written. -/
  | custArm (e : Fin 20) (arm : Bool)
  /-- CUST_ARMED (R141). The CRC of the customer region is complete. -/
  | custArmed (e : Fin 20)
  /-- PG_TICK (R149). The profile generator's servo tick. -/
  | pgTick
  /-- PG_GO (R152). 1 is written to PG_CTRL.GO. -/
  | pgGo (ch : Fin 4)
  /-- PG_STOP (R151). 1 is written to PG_CTRL.STOP. -/
  | pgStop (ch : Fin 4)
  /-- PG_LIMIT_WRITE (R151). V_MAX, A_MAX or J_MAX is written. -/
  | pgLimitWrite (ch : Fin 4) (limit : PgLimit) (value : BitVec 64)
  /-- PG_TARGET_WRITE (R151). TGT is written. -/
  | pgTargetWrite (ch : Fin 4) (target : BitVec 48)
  /-- PLAUS_REARM (R154). 1 is written to PLAUS_CFG.REARM. -/
  | plausRearm (e : Fin 20)
  /-- BANK_SWAP (R163). 1 is written to LOOP_CTRL.SWAP of a loop engine: 0 focus, 1 tracking, 2 tilt. -/
  | bankSwap (head : Head) (loop : Fin 3)
  /-- FOCUS_ACQUIRE (R165). 1 is written to LOOP_CTRL.ACQUIRE of the focus engine. -/
  | focusAcquire (head : Head)
  /-- FOCUS_SWEEP_END (R165). A focus sweep ends without capture. -/
  | focusSweepEnd (head : Head)
  /-- TRACKING_ACQUIRE (R168). Tracking capture is requested. -/
  | trackingAcquire (head : Head)
  /-- LOOP_PARK (R192). 1 is written to LOOP_CTRL.PARK. -/
  | loopPark (head : Head) (loop : Fin 3)
  /-- FOCUS_LOST (R167). FS or FE has been out of bounds on LOSS_N ticks. -/
  | focusLost (head : Head) (byFs : Bool)
  /-- TRACKING_LOST (R170). abs(TE) has exceeded LOSS_THR on LOSS_N ticks. -/
  | trackingLost (head : Head) (te : BitVec 32)
  /-- LOST_FEEDBACK (R175). A loop engine takes the lost-feedback path. -/
  | lostFeedback (head : Head) (cause : Fin 7) (loop : Fin 3)
  /-- RE_ACQUISITION (R175). A re-acquisition starts when none runs, and otherwise ends, with its address confirmed or not. -/
  | reAcquisition (head : Head) (confirmed : Bool)
  /-- JUMP_GAP_START (R176). The jump gap start of a head, with each data beam's summed monitor samples and EXPECTED values over the revolution, and the channel bits between the last two track starts. -/
  | jumpGapStart (head : Head) (mon : List (Nat × Nat)) (nrev : Option (BitVec 24))
  /-- GAP_JUMP_FAIL (R179). The head is not on track 100 µs after the gap start, or H rose during the move. -/
  | gapJumpFail (head : Head)
  /-- LAYER_JUMP (R180). SE11 makes a single-layer jump. -/
  | layerJump (head : Head) (target : Fin 8)
  /-- LAYER_JUMP_FAIL (R181). No capture by 400 µs, or the confirmed layer is not the target. -/
  | layerJumpFail (head : Head) (confirm : Bool) (layer : Fin 8)
  /-- SEEK (R182). 1 is written to SEEK.GO. -/
  | seek (head : Head)
  /-- PWM_PERIOD (R199). A PWM period ends with what the commutation unit measured in it. -/
  | pwmPeriod (m : PwmSample)
  /-- SPINDLE_START (R203). 1 is written to CTRL.START. -/
  | spindleStart
  /-- CATCH_END (R203). The catch measurement ends: signed speed, and whether comparator edges came. -/
  | catchEnd (rpm : Int) (edges : Bool)
  /-- ALIGN_END (R204). ALIGN_MS have passed. -/
  | alignEnd
  /-- HANDOFF (R204). The open-loop ramp has reached HANDOFF_RPM. -/
  | handoff
  /-- SPEED_OK (R204). The speed has stayed within SPD_TOL of the target for four revolutions. -/
  | speedOk
  /-- START_FAIL (R205). A start fails under R205. -/
  | startFail (cause : StartFail) (rpm : Nat)
  /-- SPINDLE_STOP (R208). 1 is written to CTRL.STOP. -/
  | spindleStop
  /-- SPINDLE_STOPPED (R208). The spindle is below 60 rpm with its braking ended, after this time. -/
  | spindleStopped (ms : Nat)
  /-- OVS_CLR (R218). 1 is written to CTRL.OVS_CLR. -/
  | ovsClr
  /-- TARGET_WRITE (R206). TARGET is written. -/
  | targetWrite (rpm : BitVec 13) (clv : Bool)
  /-- OVERSPEED (R218). Either speed has exceeded the OTP limit for 1 ms. -/
  | overspeed (rpm : Nat) (comparator : Bool)
  /-- OBSERVER_LOST (R219). The observer is lost. -/
  | observerLost (obs cmp : Nat)
  /-- SE8_STOPPED (R221). SE8 has entered HALTED or FAULTED. -/
  | se8Stopped
  /-- BRK_G_ON (R214). The bus rises above BRK_ON. -/
  | brkGOn (mv : Nat)
  /-- BRK_G_OFF (R214). The bus falls below BRK_OFF. -/
  | brkGOff (mv : Nat)
  /-- CHOPPER_FAULT (R215). A chopper current check fails. -/
  | chopperFault (shorted : Bool) (ma : Nat)
  /-- BUS_OV (R217). The bus reaches 13.8 V, or 15.0 V. -/
  | busOv (mv : Nat)
  /-- SPINCMD_CHANGE (R211). The pin's filtered input: x in 2^−16 units, or the frequency in Hz. -/
  | spincmdChange (raw : BitVec 16)
  /-- SPINCMD_LOST (R213). The signal has been invalid for the period of R210. -/
  | spincmdLost (raw : BitVec 16)
  /-- SPINCMD_RECOVERED (R213). A valid signal has lasted FILT_MS. -/
  | spincmdRecovered
  /-- SLED_STALL (R226). LA has exceeded LA_STALL on STALL_N ticks at I_MAX. -/
  | sledStall (head : Head) (la : Nat)
  /-- SLED_COIL_FAULT (R226). A sled coil current exceeds the OTP limit. -/
  | sledCoilFault (head : Head) (coil : Fin 2) (ma : Nat)
  /-- SLED_STOP (R227). 1 is written to CTRL.STOP. -/
  | sledStop (head : Head)
  /-- HARD_STOP_REST (R227). The channel is at rest after a hard stop. -/
  | hardStopRest (head : Head)
  /-- SLED_ENGINE_STOPPED (R228). SE9 or SE10 has entered HALTED or FAULTED. -/
  | sledEngineStopped (head : Head)
  /-- HOME (R229). 1 is written to CTRL.HOME. -/
  | home (head : Head)
  /-- HOME_SWITCH_EDGE (R229). A debounced edge of HOME. -/
  | homeSwitchEdge (head : Head) (asserted : Bool)
  /-- HOMING_FAIL (R229). A homing fails. -/
  | homingFail (head : Head) (cause : Fin 5)
  /-- SWITCH_GLITCH (R230). A raw assertion shorter than DEB_US. -/
  | switchGlitch (head : Head)
  /-- LIMIT_TRIP (R231). A debounced assertion of HOME or OUTER outside homing. -/
  | limitTrip (head : Head) (outer : Bool)
  /-- TED_WINDOW (R247). A 1,024-bit timing window ends with this TED_RMS, in this frame slot. -/
  | tedWindow (head : Head) (beam : Fin 8) (rms : BitVec 16) (slot : Nat)
  /-- ACQUISITION_FAILED (R247). Timing, or frame, lock has not set within ACQ_REVS revolutions. -/
  | acquisitionFailed (head : Head) (beam : Fin 8) (frame : Bool)
  /-- GAIN_STEP (R244). G has stayed outside 0.5 to 2.0 for 10 ms. -/
  | gainStep (head : Head) (beam : Fin 8)
  /-- EQ_RESET (R251). 1 is written to CTRL.EQ_RESET. -/
  | eqReset (head : Head) (beam : Fin 8)
  /-- SYNC_MARK (R259). An expected mark position: the positions sought, and whether it lies inside a declared defect or a blank slot. -/
  | syncMark (head : Head) (beam : Fin 8) (secondary : Bool) (cands : List SyncCand) (sheltered : Bool)
  /-- FLOCK_GAINED (R263). Three candidates at exact spacing agree with the map. -/
  | flockGained (head : Head) (beam : Fin 8)
  /-- FRAME_DELIVERY (R256). A frame of the beam ends; with the samples of the ten streams since the last command that carried them. -/
  | frameDelivery (head : Head) (beam : Fin 8) (rf : List (List Int))
  /-- FRAME_SLOT_END (R264). A frame slot ends: mean abs(x3) in 1/256 of full scale, ENV_NOW, and the mean of ENV_NOW over the last 4,096 good bits. -/
  | frameSlotEnd (head : Head) (beam : Fin 8) (level : Nat) (env : Nat) (ref : Nat)
  /-- CQI_WINDOW (R273). An MSE window ends. -/
  | cqiWindow (head : Head) (beam : Fin 8) (mse : BitVec 32)
  /-- DEFECT_START (R268). A beam's envelope has dropped, or a link defect arrives (no beam), the first covered sample this many channel bits ago. -/
  | defectStart (head : Head) (beam : Option (Fin 10)) (ago : Nat) (rf : List (List Int))
  /-- DEFECT_END (R268). A beam's envelope, or the link, has recovered; channel bits in defect. -/
  | defectEnd (head : Head) (beam : Option (Fin 10)) (bits : Nat) (rf : List (List Int))
  /-- HEAD_DEFECT_END (R269). HOLD_EXT after the condition of H ended: its length in channel bits and 0.1 µs, the beams and the lowest envelope. -/
  | headDefectEnd (head : Head) (bits : Nat) (tenths : Nat) (beams : BitVec 10) (envMin : BitVec 16)
  /-- DEF_LONG (R271). H has been true for longer than LONG_US. -/
  | defLong (head : Head) (us : Nat) (beams : BitVec 10)
  /-- DEF_FIFO_POP (R286). 1 is written to DEF_FIFO_STATUS.POP. -/
  | defFifoPop (head : Head)
  /-- WOBBLE_WORD (R48). Twelve slots' wobble bits of a carrier. -/
  | wobbleWord (head : Head) (stream : Fin 2) (word : BitVec 48)
  /-- POS_LOST (R266). Neither carrier has yielded a checked word for one revolution, or SE11 clears POS.valid. -/
  | posLost (head : Head)
  /-- MODE_CFG_WRITE (R278). MODE_CFG.MODE is written. -/
  | modeCfgWrite (head : Head) (mode : Fin 8)
  /-- PUSH_PULL_BALANCE (R275). GO of operation 1, with the amplitudes measured over 256 crossings. -/
  | pushPullBalance (head : Head) (layer : Fin 8) (al ag : BitVec 16)
  /-- SA_PRESET_CAL (R276). GO of operation 2. -/
  | saPresetCal (head : Head) (layer : Fin 8)
  /-- RADIAL_TILT_CAL (R276). GO of operation 3. -/
  | radialTiltCal (head : Head) (layer : Fin 8) (zone : Fin 16)
  /-- TANGENTIAL_TILT_CAL (R276). GO of operation 4. -/
  | tangentialTiltCal (head : Head) (layer : Fin 8) (zone : Fin 16)
  /-- FOCUS_OFFSET_CAL (R276). GO of operation 5. -/
  | focusOffsetCal (head : Head) (layer : Fin 8)
  /-- CAL_SWEEP_POINT (R276). A sweep point's revolutions end: mean CQI of the eight data beams, and whether they include H. -/
  | calSweepPoint (head : Head) (cqi : Nat) (h : Bool)
  /-- CAL_FAIL (R277). A calibration fails. -/
  | calFail (head : Head) (cause : Fin 5)
  /-- CODEWORD_DECODED (R291). An LDPC core takes codeword w of the cluster at this PSA of sector 0, from the frames delivered. -/
  | codewordDecoded (psa : BitVec 32) (w : Fin 30)
  /-- CLUSTER_OUTCOME (R299). Column decoding and the sector checks of the cluster at this PSA; on a legacy disc, of 32 sectors from this LBA: each payload, or none where its standard's final check fails. -/
  | clusterOutcome (psa : BitVec 32) (legacy : List (Option (List (BitVec 8))))
  /-- SQUALL_SLOT_FREE (R302). A SQUALL slot is free. -/
  | squallSlotFree
  /-- SQUALL_REREAD (R303). A re-read of the held cluster has been delivered and its codewords decoded. On a legacy disc, what the re-read found. -/
  | squallReread (psa : BitVec 32) (legacy : List (Option (List (BitVec 8))))
  /-- SQUALL_CALIBRATION (R306). Rung 2: for operations 5 and 3, CQI_BEST, CQI_START and CAL_RESULT, or none for a failed one. -/
  | squallCalibration (psa : BitVec 32) (cal5 cal3 : Option (Nat × Nat × BitVec 32))
  /-- SQUALL_TIME_LIMIT (R308). SQ_TIME_MS has passed since the ladder started. -/
  | squallTimeLimit (psa : BitVec 32)
  /-- SQUALL_ABANDON (R310). Every command that needs the cluster has ended. -/
  | squallAbandon (psa : BitVec 32)
  /-- RELOCATION (R351). The oldest queued relocation of a side tries a slot; its verification read. -/
  | relocation (side : Fin 2) (verified : Bool)
  /-- CRC_TEST_START (R320). 1 is written to TEST_CTRL.START. -/
  | crcTestStart
  /-- CRC_TEST_DATA (R320). TEST_DATA is written. -/
  | crcTestData (data : BitVec 32)
  /-- CRC_TEST_FINISH (R320). 1 is written to TEST_CTRL.FINISH. -/
  | crcTestFinish
  /-- XFER_CHECK_COMPARE (R316). The transfer check value of a write with XCHK is compared. -/
  | xferCheckCompare (tag : BitVec 12)
  /-- CLUSTER_ENCODE (R324). A cluster of 32 sector payloads reaches the encoder. -/
  | clusterEncode (c : ClusterIn)
  /-- OPC_RUN (R340). A power calibration run, with what its measuring revolutions found. -/
  | opcRun (r : OpcIn)
  /-- OPC_INVALIDATE (R338). One of the ends of a result's validity. -/
  | opcInvalidate (head : Head) (layer : Fin 8) (why : OpcEnd)
  /-- RECORDING_ARM (R342). The first frame slot of a recording, its lanes' slots, and the instant WRITE_ARM names. -/
  | recordingArm (head : Head) (psas : List Nat) (window offset seq : Nat)
  /-- RECORDING_SUSPEND (R343). A clean suspension is requested, with its cause of R343. -/
  | recordingSuspend (head : Head) (cause : Fin 7)
  /-- RELINK (R344). The head meets the first unrecorded slot again, with `ahead` clusters encoded; the instant WRITE_ARM names. -/
  | relink (head : Head) (ahead window offset seq : Nat)
  /-- ABANDONED_RE_RECORDING (R346). The oldest abandoned user cluster is recorded in a spare slot and verified. -/
  | abandonedReRecording (head : Head) (verified : Bool)
  /-- DCZ_BLOCK_RE_RECORDING (R646). The oldest abandoned DCZ block is recorded again. -/
  | dczBlockReRecording (head : Head)
  /-- FRONTIER_CHECKPOINT (R348). A cluster needs a checkpoint. -/
  | frontierCheckpoint (cluster : Nat)
  /-- FIRST_RECORDING (R349). The records of R349 that the disc still lacks -/
  | firstRecording
  /-- SEAL_RUN (R353). A waiting seal runs; the verification of each copy in turn, and the steps completed before a reset, a lost disc or a head leaving service stops it, 6 for none. -/
  | sealRun (side : Fin 2) (copies : List Bool) (steps : Fin 7)
  /-- VERIFY_PASS (R356). A cluster's verify read. -/
  | verifyPass (v : VerifyIn)
  /-- BOOST (R337). CTRL.BOOST of an LPW page is written. -/
  | boost (head : Head) (on : Bool)
  /-- LPW_ENABLE (R334). CTRL.EN of an LPW page is written. -/
  | lpwEnable (head : Head) (en : Bool)
  /-- CACHE_REQUEST (R365). A requester reads `len` bytes or writes bytes within one line; the parity error its line shows. -/
  | cacheRequest (cls : Fin 7) (addr : BitVec 34) (len : Nat) (data : Option (List (BitVec 8))) (par : Option CachePar)
  /-- EVICTION_COMPLETE (R367). The DRAM controller reports the way's dirty line written. -/
  | evictionComplete (set : Fin 4096) (way : Fin 16)
  /-- FILL_COMPLETE (R369). Fill data arrive for a way; what the read of its chunks finds. -/
  | fillComplete (set : Fin 4096) (way : Fin 16) (errs : List (Fin 8 × ChunkErr))
  /-- CLEAN (R370). GO with OP 1; parity errors met, by 16 × set + way. -/
  | clean (par : List (Nat × CachePar))
  /-- INVALIDATE (R370). GO with OP 2; parity errors met. -/
  | invalidate (par : List (Nat × CachePar))
  /-- FLUSH (R370). GO with OP 3; parity errors met. -/
  | flush (par : List (Nat × CachePar))
  /-- ZERO (R370). GO with OP 4; parity errors met. -/
  | zero (par : List (Nat × CachePar))
  /-- MAINT_DONE (R371). The running operation has examined its range. -/
  | maintDone
  /-- STAGING_RESERVE (R376). A staging buffer is wanted for the cluster at this PSA. -/
  | stagingReserve (psa : BitVec 32) (write : Bool)
  /-- STAGING_RELEASE (R376). The cluster's buffer is read out for the last time; bits found flipped, by byte of the buffer. -/
  | stagingRelease (psa : BitVec 32) (errs : List (Nat × BitVec 13))
  /-- SCRUB (R381). The scrubber reads the next word; bits flipped since it was written. -/
  | scrub (errs : List (Fin 32 × BitVec 13))
  /-- SBF_TEST_EN (R383). A write of SBF.CTRL.TEST_EN. -/
  | sbfTestEn (en : Bool)
  /-- TEST_WRITE_DATA (R383). TEST_CTRL.GO with OP 1. -/
  | testWriteData
  /-- TEST_WRITE_CHECK (R383). TEST_CTRL.GO with OP 2. -/
  | testWriteCheck
  /-- TEST_WRITE_BOTH (R383). TEST_CTRL.GO with OP 3. -/
  | testWriteBoth
  /-- TEST_RAW_READ (R383). TEST_CTRL.GO with OP 4. -/
  | testRawRead
  /-- COMPRESS_JOB (R397). GO with OP 0. -/
  | compressJob (lane : Fin 4)
  /-- INFLATE_JOB (R407). GO with OP 1. -/
  | inflateJob (lane : Fin 4)
  /-- RECORD_COMPLETE (R406). The record in progress ends: for a record flush the input bytes it holds; for a compress job its DEFLATE data. -/
  | recordComplete (lane : Fin 4) (taken : Nat) (deflate : List (BitVec 8))
  /-- JOB_DONE (R404). The job has ended its input and last record; its mean input rate. -/
  | jobDone (lane : Fin 4) (mbps : BitVec 16)
  /-- OUTPUT_EXHAUSTED (R403). The lane has more output and no space: the input taken since GO, and the record's output so far. -/
  | outputExhausted (lane : Fin 4) (taken : Nat) (out : List (BitVec 8))
  /-- JOB_RESUME (R403). A write of CTRL.RESUME. -/
  | jobResume (lane : Fin 4)
  /-- JOB_ABORT (R404). A write of CTRL.ABORT, or of EN with 0. -/
  | jobAbort (lane : Fin 4) (off : Bool)
  /-- BLOCK_FLUSH (R401). A write of CTRL.FLUSH. -/
  | blockFlush (lane : Fin 4)
  /-- RECORD_FLUSH (R401). A write of CTRL.FLUSH_REC. -/
  | recordFlush (lane : Fin 4)
  /-- FLUSH_COMPLETE (R401). A pending flush completes: the input taken since GO, and the output of the record in progress. -/
  | flushComplete (lane : Fin 4) (taken : Nat) (out : List (BitVec 8))
  /-- TRF_CLAIM (R414). The requesters that read TRF.CLAIM in one cycle. -/
  | trfClaim (reqs : List (Fin 28))
  /-- CLAIM_RELEASE (R414). A write of 1 to CLAIM_REL.REL. -/
  | claimRelease (what : ClaimOf) (req : Fin 28)
  /-- CLAIM_TIMEOUT (R414). The claim's timeout has passed since it was acquired -/
  | claimTimeout (what : ClaimOf)
  /-- READ (R427). SUBMIT with OPCODE 0x01; the other fields are those of the TRF page. -/
  | read (sub : Submit)
  /-- WRITE (R347). SUBMIT with OPCODE 0x02. -/
  | write (sub : Submit)
  /-- VERIFY (R427). SUBMIT with OPCODE 0x03. -/
  | verify (sub : Submit)
  /-- SEAL (R352). SUBMIT with OPCODE 0x04. -/
  | seal (sub : Submit)
  /-- STREAM_OPEN (R434). SUBMIT with OPCODE 0x05. -/
  | streamOpen (sub : Submit)
  /-- STREAM_CLOSE (R437). SUBMIT with OPCODE 0x06. -/
  | streamClose (sub : Submit)
  /-- OFFLOAD (R447). SUBMIT with OPCODE 0x07; the offload block and the source as fetched from host memory, and the buffer area the job uses. -/
  | offload (sub : Submit) (block data : List (BitVec 8)) (work : BitVec 34)
  /-- SELF_TEST_SHORT (R444). SUBMIT with OPCODE 0x08 and ARG0 1; the status each segment ends with when it runs. -/
  | selfTestShort (sub : Submit) (plan : List (BitVec 8))
  /-- SELF_TEST_EXTENDED (R444). SUBMIT with OPCODE 0x08 and ARG0 2; the status each segment ends with when it runs. -/
  | selfTestExtended (sub : Submit) (plan : List (BitVec 8))
  /-- SELF_TEST_STOP (R445). SUBMIT with OPCODE 0x08 and ARG0 3. -/
  | selfTestStop (sub : Submit)
  /-- ABORT (R440). SUBMIT with OPCODE 0x09. -/
  | abort (sub : Submit)
  /-- MOUNT (R569). SUBMIT with OPCODE 0x0A -/
  | mount (sub : Submit)
  /-- UNMOUNT (R576). SUBMIT with OPCODE 0x0B; without one, an UNMOUNT that waits goes on -/
  | unmount (sub : Option Submit)
  /-- SET_MODE (R446). SUBMIT with OPCODE 0x0C -/
  | setMode (sub : Submit)
  /-- COMMAND_EXPANSION (R428). The oldest command not wholly expanded is expanded. -/
  | commandExpansion
  /-- WRITE_DATA_ARRIVED (R428). A write's data: its bytes of one cluster, by cluster index; for a compressed stream all its bytes and the records they compress to. -/
  | writeDataArrived (tag : BitVec 12) (cluster : Nat) (data records : List (BitVec 8))
  /-- BAND_CHOICE (R429). A head's scheduler chooses its next band. -/
  | bandChoice (head : Head)
  /-- READ_REVOLUTION_START (R431). A head is to read the clusters at these PSAs in its next revolution. -/
  | readRevolutionStart (head : Head) (psas : List (BitVec 32))
  /-- HEAD_OUT_OF_SERVICE (R433). A head leaves service. -/
  | headOutOfService (head : Head)
  /-- COMPLETION_POST (R422). A command's entry is due; whether each entry write fails on the bus or at the host. -/
  | completionPost (tag : BitVec 12) (fails : List Bool)
  /-- RING_HEAD_WRITE (R422). The consumer writes HEAD. -/
  | ringHeadWrite (ring : Fin 4) (head : BitVec 16) (fails : List Bool)
  /-- RING_ENABLE (R424). A write of a ring's CFG register. -/
  | ringEnable (ring : Fin 4) (cfg : BitVec 32) (fails : List Bool)
  /-- COALESCING_TIMER (R423). COAL_US has passed since the first entry not signalled. -/
  | coalescingTimer (ring : Fin 4)
  /-- HOST_DMA_FAILED (R416). A host memory access of a command fails: 0 data read, 1 data write, 2 descriptor fetch. -/
  | hostDmaFailed (tag : BitVec 12) (kind : Fin 3)
  /-- DESCRIPTOR_FETCH (R416). The next entries of a command's descriptor list. -/
  | descriptorFetch (tag : BitVec 12) (entries : List Descriptor)
  /-- STREAM_SPILL (R436). A command's stream needs a context; whether the access to the spill area fails. -/
  | streamSpill (tag : BitVec 12) (fail : Bool)
  /-- RESTART_RESUME (R442). RESTART with ACTION 1. -/
  | restartResume (req : Fin 256)
  /-- DISCARD_LATER (R442). RESTART with ACTION 2. -/
  | discardLater (req : Fin 256)
  /-- DISCARD_ALL (R442). RESTART with ACTION 3. -/
  | discardAll (req : Fin 256)
  /-- SELF_TEST_YIELD_END (R445). YIELD_MS have passed since the last other command completed. -/
  | selfTestYieldEnd
  /-- MODE_ENTRY_DEFERRED (R446). The last outstanding command has completed -/
  | modeEntryDeferred
  /-- ABORT_TASK (R461). The UAS tag of the target -/
  | abortTask (tag : BitVec 16)
  /-- ABORT_TASK_SET (R461). The request -/
  | abortTaskSet
  /-- LOGICAL_UNIT_RESET (R461). The request -/
  | logicalUnitReset
  /-- BULK_ONLY_MASS_STORAGE_RESET (R461). The request -/
  | bulkOnlyMassStorageReset
  /-- GET_MAX_LUN (R461). The request -/
  | getMaxLun
  /-- SATA_NOP (R462). The command -/
  | sataNop
  /-- DEVICE_RESET_ATA (R462). The command -/
  | deviceResetAta
  /-- EXECUTE_DEVICE_DIAGNOSTIC (R462). The command -/
  | executeDeviceDiagnostic
  /-- PACKET (R462). The MMC command's 12 bytes, its data-out, the byte count limit, and FISes received with a bad CRC since the last PACKET -/
  | packet (cdb data : List (BitVec 8)) (limit : BitVec 16) (crcErrors : BitVec 16)
  /-- IDENTIFY_PACKET_DEVICE (R462). The command -/
  | identifyPacketDevice
  /-- STANDBY_IMMEDIATE (R462). The command -/
  | standbyImmediate
  /-- IDLE_IMMEDIATE (R462). The command -/
  | idleImmediate
  /-- CHECK_POWER_MODE (R462). The command -/
  | checkPowerMode
  /-- SLEEP (R462). The command -/
  | sleep
  /-- SET_FEATURES (R462). The subcommand and the sector count register -/
  | setFeatures (feature count : BitVec 8)
  /-- UNSUPPORTED_ATA_COMMAND (R462). The opcode -/
  | unsupportedAtaCommand (op : BitVec 8)
  /-- TEST_UNIT_READY (R465). The port -/
  | testUnitReady (via : MmcVia)
  /-- REQUEST_SENSE (R465). The port and the command block -/
  | requestSense (via : MmcVia) (cdb : List (BitVec 8))
  /-- INQUIRY (R465). The port and the command block -/
  | inquiry (via : MmcVia) (cdb : List (BitVec 8))
  /-- FORMAT_UNIT (R465). The port and the format descriptor list -/
  | formatUnit (via : MmcVia) (data : List (BitVec 8))
  /-- START_STOP_UNIT (R465). The port and the command block -/
  | startStopUnit (via : MmcVia) (cdb : List (BitVec 8))
  /-- PREVENT_ALLOW_MEDIUM_REMOVAL (R465). The port and the command block -/
  | preventAllowMediumRemoval (via : MmcVia) (cdb : List (BitVec 8))
  /-- READ_FORMAT_CAPACITIES (R465). The port and the command block -/
  | readFormatCapacities (via : MmcVia) (cdb : List (BitVec 8))
  /-- READ_CAPACITY (R465). The port -/
  | readCapacity (via : MmcVia)
  /-- READ_10 (R465). The port and the command block -/
  | read10 (via : MmcVia) (cdb : List (BitVec 8))
  /-- READ_12 (R465). The port and the command block -/
  | read12 (via : MmcVia) (cdb : List (BitVec 8))
  /-- WRITE_10 (R465). The port and the command block; its data arrive as WRITE_DATA_ARRIVED -/
  | write10 (via : MmcVia) (cdb : List (BitVec 8))
  /-- WRITE_12 (R465). As WRITE_10 -/
  | write12 (via : MmcVia) (cdb : List (BitVec 8))
  /-- VERIFY_10 (R465). The port and the command block -/
  | verify10 (via : MmcVia) (cdb : List (BitVec 8))
  /-- SYNCHRONIZE_CACHE (R465). The port -/
  | synchronizeCache (via : MmcVia)
  /-- READ_TOC (R466). The port, the command block, and on a legacy disc what its standard answers -/
  | readToc (via : MmcVia) (cdb found : List (BitVec 8))
  /-- READ_DISC_INFORMATION (R466). As READ_TOC -/
  | readDiscInformation (via : MmcVia) (cdb found : List (BitVec 8))
  /-- READ_TRACK_INFORMATION (R466). As READ_TOC -/
  | readTrackInformation (via : MmcVia) (cdb found : List (BitVec 8))
  /-- GET_CONFIGURATION (R467). The port and the command block -/
  | getConfiguration (via : MmcVia) (cdb : List (BitVec 8))
  /-- GET_EVENT_STATUS_NOTIFICATION (R469). The port and the command block -/
  | getEventStatusNotification (via : MmcVia) (cdb : List (BitVec 8))
  /-- RESERVE_TRACK (R465). The port and the command block -/
  | reserveTrack (via : MmcVia) (cdb : List (BitVec 8))
  /-- CLOSE_TRACK_SESSION (R465). The port and the command block -/
  | closeTrackSession (via : MmcVia) (cdb : List (BitVec 8))
  /-- SEND_OPC_INFORMATION (R465). The port -/
  | sendOpcInformation (via : MmcVia)
  /-- MODE_SELECT_10 (R465). The port and the parameter list -/
  | modeSelect10 (via : MmcVia) (data : List (BitVec 8))
  /-- MODE_SENSE_10 (R465). The port and the command block -/
  | modeSense10 (via : MmcVia) (cdb : List (BitVec 8))
  /-- READ_BUFFER_CAPACITY (R465). The port and the command block -/
  | readBufferCapacity (via : MmcVia) (cdb : List (BitVec 8))
  /-- GET_PERFORMANCE (R465). The port and the command block -/
  | getPerformance (via : MmcVia) (cdb : List (BitVec 8))
  /-- MECHANISM_STATUS (R465). The port and the command block -/
  | mechanismStatus (via : MmcVia) (cdb : List (BitVec 8))
  /-- READ_DISC_STRUCTURE (R465). The port, the command block, and the structure as read from the disc -/
  | readDiscStructure (via : MmcVia) (cdb found : List (BitVec 8))
  /-- SET_STREAMING (R465). The port -/
  | setStreaming (via : MmcVia)
  /-- SET_CD_SPEED (R465). The port -/
  | setCdSpeed (via : MmcVia)
  /-- READ_CD (R465). The port and the command block -/
  | readCd (via : MmcVia) (cdb : List (BitVec 8))
  /-- ZV_SEAL (R465). The port and the command block -/
  | zvSeal (via : MmcVia) (cdb : List (BitVec 8))
  /-- ZV_DLA_STATE (R465). The port -/
  | zvDlaState (via : MmcVia)
  /-- ZV_SET_MODE (R465). The port and the command block -/
  | zvSetMode (via : MmcVia) (cdb : List (BitVec 8))
  /-- ZV_VAULT (R501). The port, the command block and the request -/
  | zvVault (via : MmcVia) (cdb data : List (BitVec 8))
  /-- UNSUPPORTED_MMC_COMMAND (R465). The port and the opcode -/
  | unsupportedMmcCommand (via : MmcVia) (op : BitVec 8)
  /-- ENTDAA (R470). The address assigned -/
  | entdaa (addr : BitVec 7)
  /-- SETDASA (R470). The static address called and the address assigned -/
  | setdasa (static addr : BitVec 7)
  /-- SETNEWDA (R470). The address assigned -/
  | setnewda (addr : BitVec 7)
  /-- RSTDAA (R470). The command -/
  | rstdaa
  /-- ENEC (R470). The events byte; bit 0 for in-band interrupts -/
  | enec (events : BitVec 8)
  /-- DISEC (R470). As ENEC -/
  | disec (events : BitVec 8)
  /-- GETPID (R470). The command -/
  | getpid
  /-- GETBCR (R470). The command -/
  | getbcr
  /-- GETDCR (R470). The command -/
  | getdcr
  /-- GETSTATUS (R470). The command -/
  | getstatus
  /-- GETMWL (R470). The command -/
  | getmwl
  /-- GETMRL (R470). The command -/
  | getmrl
  /-- SETMWL (R470). The length -/
  | setmwl (n : BitVec 16)
  /-- SETMRL (R470). The length -/
  | setmrl (n : BitVec 16)
  /-- RSTACT (R470). The defining byte -/
  | rstact (action : BitVec 8)
  /-- LIBRARY_PRIVATE_READ (R471). The read -/
  | libraryPrivateRead
  /-- READ_STATUS (R471). The private write -/
  | readStatus
  /-- REG_READ (R471). The window address -/
  | regRead (addr : BitVec 24)
  /-- REG_WRITE (R471). The window address and the value -/
  | regWrite (addr : BitVec 24) (v : BitVec 32)
  /-- MBX_SEND (R471). The length and the words -/
  | mbxSend (len : BitVec 8) (words : List (BitVec 32))
  /-- MBX_RECV (R471). The private write -/
  | mbxRecv
  /-- MBX_ACK (R471). The private write -/
  | mbxAck
  /-- MODE_REQ (R471). The mode, and the byte with FORCE -/
  | modeReq (mode flags : BitVec 8)
  /-- IN_BAND_INTERRUPT (R472). Whether the controller NACKs it -/
  | inBandInterrupt (nacked : Bool)
  /-- IBI_RETRY (R472). Whether the controller NACKs it -/
  | ibiRetry (nacked : Bool)
  /-- CLAMP_REQ_ASSERTED (R474). The debounced input -/
  | clampReqAsserted
  /-- UNLOAD (R474). The unload goes on -/
  | unload
  /-- CLAMP_REQ_RELEASED (R475). The debounced input -/
  | clampReqReleased
  /-- UNLOAD_LATE (R474). The time has passed -/
  | unloadLate
  /-- DISC_LOST (R475). The debounced input -/
  | discLost
  /-- DISC_PRES_ASSERTED (R476). The debounced input -/
  | discPresAsserted
  /-- GUST (R477). The mailbox, the requester and the value -/
  | gust (m : Fin 8) (req : Fin 28) (v : BitVec 32)
  /-- MAILBOX_ACK (R477). The mailbox, and whether a WITHDRAW arrives in the same cycle -/
  | mailboxAck (m : Fin 8) (withdraw : Bool)
  /-- WITHDRAW (R479). The mailbox -/
  | withdraw (m : Fin 8)
  /-- MBX_CLAIM (R478). The mailbox and the requesters that read its CLAIM in one cycle -/
  | mbxClaim (m : Fin 8) (reqs : List (Fin 28))
  /-- MAILBOX_DATA_WRITE (R478). The mailbox, the word, the requester and the value -/
  | mailboxDataWrite (m : Fin 8) (word : Fin 16) (req : Fin 28) (v : BitVec 32)
  /-- ACK_TIMEOUT (R480). The mailbox -/
  | ackTimeout (m : Fin 8)
  /-- VLQ_CLAIM (R495). Reads of VLQ.CLAIM in one cycle, by requester -/
  | vlqClaim (reqs : List (Fin 28))
  /-- VLQ_INDEX_ACCESS (R495). An access to REQ_DATA or RSP_DATA -/
  | vlqIndexAccess (req : Fin 28) (acc : VlqAccess)
  /-- VAULT_REQUEST_COPY (R496). Step 2 of R496 -/
  | vaultRequestCopy
  /-- VAULT_RESPONSE (R496). Step 3 of R496 -/
  | vaultResponse
  /-- GET_INFO (R498). The vault performs the request it has copied -/
  | getInfo
  /-- GET_NONCE (R500). As GET_INFO; `entropy` is the health test the entropy source failed -/
  | getNonce (entropy : Option (BitVec 8))
  /-- GET_IDENTITY (R498). As GET_INFO -/
  | getIdentity
  /-- GET_CERT (R498). As GET_INFO -/
  | getCert
  /-- QUOTE (R523). As GET_INFO -/
  | quote
  /-- CLAIM (R504). As GET_INFO; programming was interrupted before the marker; the store write failed -/
  | claim (cut storeFails : Bool)
  /-- TRANSFER (R505). As CLAIM -/
  | transfer (cut storeFails : Bool)
  /-- SET_POLICY (R507). As GET_INFO; the store write failed -/
  | setPolicy (storeFails : Bool)
  /-- COMMIT_POLICY (R507). As GET_INFO; programming was interrupted at this count -/
  | commitPolicy (cut : Option (BitVec 9))
  /-- IMPORT_WRAP_KEY (R510). As SET_POLICY -/
  | importWrapKey (storeFails : Bool)
  /-- PREPARE_DISC (R511). As GET_INFO -/
  | prepareDisc
  /-- DISC_UNLOCK (R514). As GET_INFO -/
  | discUnlock
  /-- DISC_LOCK (R516). As GET_INFO -/
  | discLock
  /-- VERIFY_IMAGE (R521). As GET_INFO -/
  | verifyImage
  /-- COMMIT_SVN (R520). As COMMIT_POLICY -/
  | commitSvn (cut : Option (BitVec 8))
  /-- LOG_CLEAR (R524). As GET_INFO -/
  | logClear
  /-- NONCE_EXPIRY (R500). 600 s have passed since the requester's nonce was issued -/
  | nonceExpiry (req : Fin 28)
  /-- INTERNAL_SCAN (R526). Instruction 0x40 + code -/
  | internalScan (code : Fin 16)
  /-- PWR_MODE_REQ (R530). The value written with GO -/
  | pwrModeReq (mode : BitVec 3) (force : Bool)
  /-- ACTIVE_MODE_CHANGE (R531). The active mode in force changes -/
  | activeModeChange
  /-- MODE_REACHED (R531). SPEED_OK after a change -/
  | modeReached
  /-- CALM_ENTRY (R532). Entry goes on as far as it can; regulators whose transaction failed -/
  | calmEntry (fails : List (Fin 8))
  /-- CALM_EXIT (R533). As CALM_ENTRY -/
  | calmExit (fails : List (Fin 8))
  /-- LULL_ENTRY (R534). As CALM_ENTRY -/
  | lullEntry (fails : List (Fin 8))
  /-- LULL_WAKE (R536). The wake sources seen, and whether every check of R536 passed -/
  | lullWake (src : BitVec 4) (sound : Bool)
  /-- LULL_WINDOW_ACCESS (R537). An access, and the data of a write -/
  | lullWindowAccess (req : Fin 28) (addr : BitVec 24) (wdata : Option (BitVec 32))
  /-- THERMAL_SAMPLE (R538). The readings, 1/8 °C, signed -/
  | thermalSample (raw : Vector (BitVec 12) 8)
  /-- THERMAL_RETURN (R539). RET_S seconds at or below the return level have passed -/
  | thermalReturn
  /-- VMOT_WARNING (R542). The bus, mV -/
  | vmotWarning (mv : BitVec 16)
  /-- CORE_WARNING (R542). The core, mV -/
  | coreWarning (mv : BitVec 12)
  /-- WARNING_END (R543). The 12 V warning's end or the core's; lowest level, mV, and duration -/
  | warningEnd (core : Bool) (low : BitVec 16) (us : Nat)
  /-- VMOT_RESET_LEVEL (R544). The bus, mV -/
  | vmotResetLevel (mv : BitVec 16)
  /-- VMOT_RESET_RECOVERY (R544). Lowest level, mV, and duration -/
  | vmotResetRecovery (low : BitVec 16) (us : Nat)
  /-- OVER_VOLTAGE_WARNING (R545). The bus, mV -/
  | overVoltageWarning (mv : BitVec 16)
  /-- OVER_VOLTAGE_TRIP (R545). The bus, mV -/
  | overVoltageTrip (mv : BitVec 16)
  /-- OVER_VOLTAGE_RECOVERY (R545). As VMOT_RESET_RECOVERY -/
  | overVoltageRecovery (low : BitVec 16) (us : Nat)
  /-- CORE_RESET_LEVEL (R546). The core, mV -/
  | coreResetLevel (mv : BitVec 12)
  /-- PMBUS_POLL (R550). The readings -/
  | pmbusPoll (reads : List PmbRead)
  /-- PMB_ALERT (R550). STATUS_WORD by entry -/
  | pmbAlert (words : List (Fin 8 × BitVec 16))
  /-- PMB_CMD (R551). GO, or the transaction's end -/
  | pmbCmd (result : Option PmbEnd)
  /-- CLOCK_CHECK (R552). Islands more than 1 % off, the measured island's frequency, the 32.768 kHz oscillator present, its error -/
  | clockCheck (off : BitVec 8) (khz : BitVec 21) (lf : Bool) (ppm : BitVec 16)
  /-- REFERENCE_LOST (R552). Absent or off by more than 0.5 % for 10 µs -/
  | referenceLost
  /-- PLL_UNLOCK (R552). The island whose phase-locked loop lost lock -/
  | pllUnlock (island : Fin 8)
  /-- DLA_MOUNT (R570). The mount reaches step 8 with what it read -/
  | dlaMount (m : MountIn)
  /-- MOUNT_FAIL (R569). The cause of R569 and the step of R570 reached -/
  | mountFail (cause : Fin 5) (step : Fin 9)
  /-- EVENT_ARRIVAL (R581). The oldest event of a source on its way reaches the recorder -/
  | eventArrival (src : BitVec 8)
  /-- EVENT_COMMIT (R581). The oldest buffered record's commit time; `ok` is false where the flash program fails -/
  | eventCommit (ok : Bool)
  /-- DROP_EPISODE_END (R581). The buffer has room after drops -/
  | dropEpisodeEnd
  /-- POST_CTRL (R583). A master's write of GO -/
  | postCtrl (req : Fin 28)
  /-- LOG_CLEAR_RUN (R585). The clear runs; `flushed` buffered records could be written to the former area -/
  | logClearRun (flushed : Fin 17)
  /-- RD_IDX_WRITE (R586). The index written -/
  | rdIdxWrite (n : BitVec 14)
  /-- COUNTER_OVERFLOW (R587). A counter at its maximum counts once more -/
  | counterOverflow (n : Fin 64)
  /-- PMC_HOLD (R588). The value written -/
  | pmcHold (on : Bool)
  /-- VAL_WRITE (R587). A counter preset -/
  | valWrite (n : Fin 64) (v : BitVec 32)
  /-- TAG_SEED (R590). The seed written -/
  | tagSeed (v : BitVec 32)
  /-- REC_POP (R591). 1 written -/
  | recPop
  /-- STILL_FREEZE (R592). By the pin, or by the register -/
  | stillFreeze (pin : Bool)
  /-- STILL_RELEASE (R593). The pin deasserts, or RELEASE is written -/
  | stillRelease (pin : Bool)
  /-- EXTEST (R594). Levels captured at the balls, and the bits shifted in -/
  | extest (captured shifted : Nat)
  /-- IDCODE (R594). The data register shifted out -/
  | idcode
  /-- SAMPLE_PRELOAD (R594). As EXTEST -/
  | samplePreload (captured shifted : Nat)
  /-- WINDOW (R594). The data register at Update: [63] write, [55:32] address, [31:0] data -/
  | window (w : BitVec 64)
  /-- STILL_READ (R595). The instruction loaded and the chains shifted out -/
  | stillRead
  /-- BYPASS (R594). Also every code not listed -/
  | bypass
  /-- SEM_ACQUIRE (R596). Reads of a semaphore in one cycle, by requester -/
  | semAcquire (n : Fin 32) (reqs : List (Fin 28))
  /-- SEM_REL (R596). A release, by a requester -/
  | semRel (n : Fin 32) (req : Fin 28)
  /-- FORCE_REL (R596). A forced release, by a requester -/
  | forceRel (n : Fin 32) (req : Fin 28)
  /-- REGISTER_WRITE (R611). The requester, the address, the size in bytes and the value -/
  | registerWrite (req : Fin 28) (addr : BitVec 24) (size : Fin 16) (v : BitVec 64)
  /-- PAIR_LO_READ (R609). The requester and the address -/
  | pairLoRead (req : Fin 28) (addr : BitVec 24)
  /-- PAIR_LO_WRITE (R609). The requester, the address and the value -/
  | pairLoWrite (req : Fin 28) (addr : BitVec 24) (v : BitVec 32)
  /-- PAIR_COMMIT_TIMEOUT (R609). The requester whose write is held -/
  | pairCommitTimeout (req : Fin 28)
  /-- RCL_READ (R11). The requester, the address and the size in bytes -/
  | rclRead (req : Fin 28) (addr : BitVec 24) (size : Fin 16)
  /-- PAGE_TIMEOUT (R612). The access, and the data of a write -/
  | pageTimeout (req : Fin 28) (addr : BitVec 24) (wdata : Option (BitVec 32))
  /-- CORE_HALT (R617). The value written to PPC.CTRL -/
  | coreHalt (v : BitVec 32)
  /-- POWER_LOSS (R558). Buffered records that could still be written (R547) -/
  | powerLoss (flushed : Fin 17)
  /-- DISC_PRES_DEASSERTED (R476). The debounced input -/
  | discPresDeasserted
  /-- HOST_LINK_RESUME (R480). Whether the link has instead entered a low-power state -/
  | hostLinkResume (low : Bool)
  /-- PCIE_CONFIGURATION_WRITE (R458). The register written -/
  | pcieConfigurationWrite (w : PcieCfg)
  /-- MSI_X_TABLE_WRITE (R616). The entry, its 32-bit word (address low and high, data, vector control) and the value -/
  | msiXTableWrite (entry : Fin 32) (word : Fin 4) (v : BitVec 32)
  /-- MODE_DEFER_TIMEOUT (R446). PWR_DEFER_MS have passed -/
  | modeDeferTimeout
  /-- BOOT_CONTROL_COPY_RECORDED (R562). The copy is recorded -/
  | bootControlCopyRecorded
  /-- RECOVERY_WRITE_DONE (R564). The write or erase has ended -/
  | recoveryWriteDone
  /-- LOG_AREA_ERASE_DONE (R585). The erase has ended, or failed -/
  | logAreaEraseDone (ok : Bool)
  /-- WOBBLE_NOT_LOCKED (R285). The wobble has not locked within one revolution of EN. -/
  | wobbleNotLocked (head : Head)
  /-- UNKNOWN_LIBRARY_COMMAND (R471). The command code -/
  | unknownLibraryCommand (code : BitVec 8)
  deriving DecidableEq, Repr

end Sys2Proof
end

