-- ==== Sys2Proof/Decode.lean ====
section
/-!
DEFINITION. The commands of the table's rows that give bits: no row of the table gives any.
-/
namespace Sys2Proof

/-- The command a word spells by the table's bits; the table's rows give none, so no word spells a command. -/
def decodeTableWord (_nbits _w : Nat) : Option Instr := none

end Sys2Proof
end

