-- ==== Sys2Proof/Config.lean ====
section
/-!
DEFINITION. Values the spec leaves open: OTP contents, free values, and the functions of outside standards.
None has a body, so nothing can be proved about its value.
-/
namespace Sys2Proof

/-- The OTP word behind a register field (limits, serial number, identifiers); log entry 3. -/
opaque Config.otpWord : Nat → Nat

/-- OTP peak power of a beam of a head, 10 µW units (R102); log entry 3. -/
opaque Config.peakPower : Nat → Nat → Nat

/-- A fresh value the spec leaves open, by the state's counter of them; log entry 4. -/
opaque Config.freeNat : Nat → Nat

/-- OTP phase-current limit of the spindle, mA (R207); log entry 3. -/
opaque Config.phaseLimit : Nat

/-- OTP coil-current limit of the sleds, mA (R225); log entry 3. -/
opaque Config.sledLimit : Nat

/-- The q-axis current, mA, at a PI controller output of 1.0 (R207 gives the gains no unit); log entry 5. -/
opaque Config.spdScale : Nat

/-- Interpolator coefficient of a phase and tap (R245 gives the filter no coefficients); log entry 6. -/
opaque Config.interp : Nat → Nat → Rat

/-- Channel rate over linear velocity at 1× of a legacy format, bits a metre: C1 / V1 of R92, by MODE; log entry 7. -/
opaque Config.legacyBits : Nat → Nat

/-! The vault's secrets and the functions of its outside standards (R491 to R523); log entries 3 and 8. -/

/-- The device secret of the OTP, 32 bytes (R492). -/
opaque Config.deviceSecret : List Nat

/-- The vendor root of the OTP, 64 bytes (R492). -/
opaque Config.vendorRoot : List Nat

/-- The boot ROM's contents, as it measures itself (R522). -/
opaque Config.bootRom : List Nat

/-- Zhevhel's certificate of the identity key (R498). -/
opaque Config.certificate : List Nat

/-- ML-DSA.KeyGen's public key of a seed. -/
opaque Config.dsaPublic : List Nat → List Nat

/-- An ML-DSA-87 signature by a seed's private key over a digest, with a context and fresh randomness. -/
opaque Config.dsaSign : List Nat → List Nat → List Nat → Nat → List Nat

/-- Whether an ML-DSA-87 signature verifies: public key, digest, context, signature. -/
opaque Config.dsaVerify : List Nat → List Nat → List Nat → List Nat → Bool

/-- ML-KEM.KeyGen's encapsulation key of seeds d and z. -/
opaque Config.kemPublic : List Nat → List Nat → List Nat

/-- ML-KEM-1024 decapsulation: seeds d and z, and the ciphertext. -/
opaque Config.kemDecap : List Nat → List Nat → List Nat → List Nat

/-! What the ports answer where neither the spec nor the standard it names settles it; log entry 9. -/

/-- Words 1 to 255 of IDENTIFY PACKET DEVICE (R462). -/
opaque Config.identifyWord : Nat → Nat

/-- The firmware version of INQUIRY, four characters (R465). -/
opaque Config.firmwareVersion : List Nat

/-- The capacity READ BUFFER CAPACITY reports, bytes (R465). -/
opaque Config.bufferCapacity : Nat

end Sys2Proof
end

