-- ==== Sys2Proof/Machine/Fields.lean ====
section
/-!
DEFINITION. What a register field is: its place in a page, its access type (R11) and its reset value.
-/
namespace Sys2Proof.Machine

/-- Access types of R11. -/
inductive Acc
  | rw | ro | w1c | w1s | wo | rcl | raq
  deriving DecidableEq, Repr

/-- Where a field's reset value comes from. -/
inductive Rst
  /-- The table's value. -/
  | val (n : Nat)
  /-- By the PROF strap (R29): the value for PROF = 1, then for PROF = 0. -/
  | prof (one nil : Nat)
  /-- By register address: the value elsewhere, then the exceptions. -/
  | byAddr (other : Nat) (at' : List (Nat × Nat))
  /-- From the OTP, which the spec gives no contents for. -/
  | otp
  deriving DecidableEq, Repr

/-- A register field, or an array of them. -/
structure Fld where
  off : Nat
  lo : Nat
  width : Nat
  acc : Acc
  rst : Rst
  stride : Nat
  count : Nat
  stride2 : Nat
  count2 : Nat
  deriving DecidableEq, Repr

/-- A field of a single register. -/
def reg (off lo width : Nat) (acc : Acc) (rst : Rst) : Fld := ⟨off, lo, width, acc, rst, 0, 1, 0, 1⟩

/-- A field of an array of registers. -/
def regs (off lo width : Nat) (acc : Acc) (rst : Rst) (stride count : Nat) : Fld :=
  ⟨off, lo, width, acc, rst, stride, count, 0, 1⟩

/-- A field of an array of arrays of registers. -/
def regs2 (off lo width : Nat) (acc : Acc) (rst : Rst) (stride count stride2 count2 : Nat) : Fld :=
  ⟨off, lo, width, acc, rst, stride, count, stride2, count2⟩

/-- Entry `i` of an array field. -/
def Fld.ix (f : Fld) (i : Nat) : Fld := { f with off := f.off + f.stride * i }

/-- Entry `j` of entry `i` of an array of arrays. -/
def Fld.ix2 (f : Fld) (i j : Nat) : Fld := { f with off := f.off + f.stride * i + f.stride2 * j }

/-- The key a field's value is held under: its page, offset and lowest bit. -/
def Fld.key (f : Fld) (p : Nat) : Nat := (p * 4096 + f.off) * 32 + f.lo

/-- The reset value of a field of page `p` (R605 and the page tables). -/
def Rst.value (prof : Bool) (addr lo : Nat) : Rst → Nat
  | .val n => n
  | .prof one nil => if prof then one else nil
  | .byAddr d xs => ((xs.find? (fun x => x.1 = addr)).map Prod.snd).getD d
  | .otp => Config.otpWord (addr * 32 + lo)

/-- The reset value of a field of page `p`. -/
def Fld.reset (f : Fld) (p : Nat) (prof : Bool) : Nat := trunc f.width (f.rst.value prof (p * 4096 + f.off) f.lo)

/-! The common header (R605). -/

/-- INT_STATUS of any page. -/
def hdrIntStatus : Fld := reg 0x010 0 32 .w1c (.val 0)
/-- INT_ENABLE of any page. -/
def hdrIntEnable : Fld := reg 0x014 0 32 .rw (.val 0)
/-- STICKY of any page. -/
def hdrSticky : Fld := reg 0x01C 0 32 .w1c (.val 0)
/-- FAULT_CODE of any page. -/
def hdrFault : Fld := reg 0x020 0 8 .ro (.val 0)

end Sys2Proof.Machine
end

