-- ==== Sys2Proof/Machine/FieldsA.lean ====
section
/-!
DEFINITION. Register fields of the pages of the links, control engines, loops, spindle and sleds (spec chapters 03 to 06).
One definition per field, as the tables of the rules named give it: offset, lowest bit, width, access type, reset value, and for an array its stride and count.
Names are the spec's register and field names.
-/
namespace Sys2Proof.Machine

namespace HSL
/-- Page index of HSL_L0 to HSL_U1 (R604). -/
def page (head link : Nat) : Nat := 0x30 + 2 * head + link
/-! Fields of R119 (03_head_links). -/
def CTRL_EN : Fld := reg 0x008 0 1 .rw (.val 0)
def CTRL_TRAIN : Fld := reg 0x008 1 1 .wo (.val 0)
def CTRL_AUTO_RETRAIN : Fld := reg 0x008 2 1 .rw (.val 1)
def STATUS_STATE : Fld := reg 0x00C 0 3 .ro (.val 0)
def STATUS_DEGRADED : Fld := reg 0x00C 3 1 .ro (.val 0)
def STATUS_SLOST : Fld := reg 0x00C 4 1 .ro (.val 0)
def STATUS_STALE : Fld := reg 0x00C 5 1 .ro (.val 0)
def STATUS_TICK_INVALID : Fld := reg 0x00C 6 1 .ro (.val 0)
def INT_STATUS : Fld := reg 0x010 0 8 .w1c (.val 0)
def INT_ENABLE : Fld := reg 0x014 0 8 .rw (.val 0)
def STICKY : Fld := reg 0x01C 0 6 .w1c (.val 0)
def FAULT_CODE : Fld := reg 0x020 0 8 .ro (.val 0)
def CFG_DECIM : Fld := reg 0x040 0 2 .rw (.val 0)
def DEG_CFG_DEG_THR : Fld := reg 0x044 0 16 .rw (.val 0x400)
def DEG_CFG_DEG_MS : Fld := reg 0x044 16 8 .rw (.val 0x10)
def CW_CNT_LO : Fld := reg 0x048 0 32 .ro (.val 0)
def CW_CNT_HI : Fld := reg 0x04C 0 32 .ro (.val 0)
def CORR_SYM_CNT : Fld := reg 0x050 0 32 .ro (.val 0)
def UNCORR_CW_CNT : Fld := reg 0x054 0 32 .ro (.val 0)
def SLOT_ERR_CNT : Fld := reg 0x058 0 32 .ro (.val 0)
def SEQ_GAP_CNT : Fld := reg 0x05C 0 32 .ro (.val 0)
def SERVO_CNT_INVALID_TICKS : Fld := reg 0x060 0 16 .ro (.val 0)
def SERVO_CNT_STALE_EVENTS : Fld := reg 0x060 16 16 .ro (.val 0)
def RX_EQ_CTLE : Fld := reg 0x064 0 8 .ro (.val 0)
def RX_EQ_DFE1 : Fld := reg 0x064 8 8 .ro (.val 0)
def RX_EQ_EYE_H : Fld := reg 0x064 16 8 .ro (.val 0)
def RX_EQ_EYE_W : Fld := reg 0x064 24 8 .ro (.val 0)
def TX_FFE_CM2 : Fld := reg 0x068 0 4 .ro (.val 0)
def TX_FFE_CM1 : Fld := reg 0x068 4 4 .ro (.val 0)
def TX_FFE_C0 : Fld := reg 0x068 8 4 .ro (.val 0)
def TX_FFE_CP1 : Fld := reg 0x068 12 4 .ro (.val 0)
def FS_RX_FS : Fld := reg 0x06C 0 12 .ro (.val 0)
def FS_RX_DECIM_ACT : Fld := reg 0x06C 12 2 .ro (.val 0)
def CAPS_LO : Fld := reg 0x070 0 32 .ro (.val 0)
def CAPS_HI : Fld := reg 0x074 0 32 .ro (.val 0)
def SLOT_LAT_MAX : Fld := reg 0x078 0 8 .rcl (.val 0)
def TRAIN_CNT : Fld := reg 0x07C 0 8 .ro (.val 0)
/-! Bits of INT_STATUS (i), STICKY (k). -/
def iUP : Nat := 0
def iDOWN : Nat := 1
def iDEGRADED : Nat := 2
def iUNCORR : Nat := 3
def iSLOST : Nat := 4
def iSTALE : Nat := 5
def iSEQ_GAP : Nat := 6
def iTRAIN_FAIL : Nat := 7
def kCORR_SAT : Nat := 0
def kUNCORR_SAT : Nat := 1
def kSLOT_ERR_SAT : Nat := 2
def kSERVO_OVERRUN : Nat := 3
def kSEQ_GAP_SAT : Nat := 4
def kUNDERSAMPLE : Nat := 5
def fields0 : List Fld := [ CTRL_EN, CTRL_TRAIN, CTRL_AUTO_RETRAIN, STATUS_STATE, STATUS_DEGRADED, STATUS_SLOST, STATUS_STALE, STATUS_TICK_INVALID, INT_STATUS, INT_ENABLE, STICKY, FAULT_CODE, CFG_DECIM, DEG_CFG_DEG_THR, DEG_CFG_DEG_MS, CW_CNT_LO, CW_CNT_HI, CORR_SYM_CNT, UNCORR_CW_CNT, SLOT_ERR_CNT, SEQ_GAP_CNT, SERVO_CNT_INVALID_TICKS, SERVO_CNT_STALE_EVENTS, RX_EQ_CTLE, RX_EQ_DFE1, RX_EQ_EYE_H, RX_EQ_EYE_W, TX_FFE_CM2, TX_FFE_CM1, TX_FFE_C0, TX_FFE_CP1, FS_RX_FS, FS_RX_DECIM_ACT, CAPS_LO, CAPS_HI, SLOT_LAT_MAX, TRAIN_CNT ]
/-- Every field of the page, in table order. -/
def fields : List Fld := fields0
end HSL

namespace HTX
/-- Page index of HTX_L to HTX_U (R604). -/
def page (head : Nat) : Nat := 0x34 + head
/-! Fields of R120 (03_head_links). -/
def CTRL_EN : Fld := reg 0x008 0 1 .rw (.val 0)
def CTRL_TRAIN : Fld := reg 0x008 1 1 .wo (.val 0)
def STATUS_STATE : Fld := reg 0x00C 0 3 .ro (.val 0)
def STATUS_WRITE_EN : Fld := reg 0x00C 3 1 .ro (.val 0)
def STATUS_KILL : Fld := reg 0x00C 4 1 .ro (.val 0)
def STATUS_MSG_BUSY : Fld := reg 0x00C 5 1 .ro (.val 0)
def INT_STATUS : Fld := reg 0x010 0 7 .w1c (.val 0)
def INT_ENABLE : Fld := reg 0x014 0 7 .rw (.val 0)
def STICKY : Fld := reg 0x01C 0 3 .w1c (.val 0)
def FS_CMD_FS_MS : Fld := reg 0x040 0 12 .rw (.val 0x5DC)
def FS_CMD_FS_AUTO : Fld := reg 0x040 15 1 .rw (.val 1)
def FS_ACT_FS : Fld := reg 0x044 0 12 .ro (.val 0)
def MSG_CTRL_TYPE : Fld := reg 0x048 0 8 .rw (.val 0)
def MSG_CTRL_TAG : Fld := reg 0x048 8 8 .ro (.val 0)
def MSG_CTRL_GO : Fld := reg 0x048 16 1 .wo (.val 0)
def MSG_CTRL_BUSY : Fld := reg 0x048 17 1 .ro (.val 0)
def MSG_CTRL_RESULT : Fld := reg 0x048 18 2 .ro (.val 0)
def MSG_ARG : Fld := regs 0x04C 0 32 .rw (.val 0) 0x4 8
def MSG_RESP : Fld := regs 0x06C 0 32 .ro (.val 0) 0x4 8
def KILL_CNT : Fld := reg 0x08C 0 32 .ro (.val 0)
def UNDERRUN_CNT : Fld := reg 0x090 0 32 .ro (.val 0)
def WR_SYM_CNT_LO : Fld := reg 0x094 0 32 .ro (.val 0)
def WR_SYM_CNT_HI : Fld := reg 0x098 0 32 .ro (.val 0)
def CLAMP_CNT : Fld := reg 0x09C 0 32 .ro (.val 0)
def FAULT_CODE : Fld := reg 0x020 0 8 .ro (.val 0)
/-! Bits of INT_STATUS (i), STICKY (k). -/
def iUP : Nat := 0
def iDOWN : Nat := 1
def iKILL : Nat := 2
def iMSG_DONE : Nat := 3
def iMSG_FAIL : Nat := 4
def iUNDERRUN : Nat := 5
def iTRAIN_FAIL : Nat := 6
def kUNDERRUN : Nat := 0
def kCLAMPED : Nat := 1
def kCNT_SAT : Nat := 2
def fields0 : List Fld := [ CTRL_EN, CTRL_TRAIN, STATUS_STATE, STATUS_WRITE_EN, STATUS_KILL, STATUS_MSG_BUSY, INT_STATUS, INT_ENABLE, STICKY, FS_CMD_FS_MS, FS_CMD_FS_AUTO, FS_ACT_FS, MSG_CTRL_TYPE, MSG_CTRL_TAG, MSG_CTRL_GO, MSG_CTRL_BUSY, MSG_CTRL_RESULT, MSG_ARG, MSG_RESP, KILL_CNT, UNDERRUN_CNT, WR_SYM_CNT_LO, WR_SYM_CNT_HI, CLAMP_CNT, FAULT_CODE ]
/-- Every field of the page, in table order. -/
def fields : List Fld := fields0
end HTX

namespace ACL
/-- Page index of ACL_L to ACL_U (R604). -/
def page (head : Nat) : Nat := 0x38 + head
/-! Fields of R121 (03_head_links). -/
def CTRL_EN : Fld := reg 0x008 0 1 .rw (.val 0)
def CTRL_FORCE_SAFE : Fld := reg 0x008 1 1 .rw (.val 0)
def STATUS_ACTIVE : Fld := reg 0x00C 0 1 .ro (.val 0)
def STATUS_SAFE : Fld := reg 0x00C 1 1 .ro (.val 0)
def STATUS_FLT : Fld := reg 0x00C 2 1 .ro (.val 0)
def STATUS_TICK : Fld := reg 0x00C 8 4 .ro (.val 0)
def INT_STATUS : Fld := reg 0x010 0 3 .w1c (.val 0)
def INT_ENABLE : Fld := reg 0x014 0 3 .rw (.val 0)
def STICKY : Fld := reg 0x01C 0 2 .w1c (.val 0)
def COIL_EN_EN : Fld := reg 0x040 0 5 .rw (.val 0x1F)
def CMD_VALUE : Fld := regs 0x044 0 16 .ro (.val 0) 0x4 8
def CMD_HOLD : Fld := regs 0x044 16 1 .ro (.val 0) 0x4 8
def CMD_SAFE : Fld := regs 0x044 17 1 .ro (.val 0) 0x4 8
def LIMIT : Fld := regs 0x064 0 15 .ro (.otp) 0x4 8
def FRAME_CNT : Fld := reg 0x084 0 32 .ro (.val 0)
def CLAMP_CNT : Fld := reg 0x088 0 32 .ro (.val 0)
def LAT_MAX : Fld := reg 0x08C 0 9 .rcl (.val 0)
def FAULT_CODE : Fld := reg 0x020 0 8 .ro (.val 0)
/-! Bits of INT_STATUS (i), STICKY (k). -/
def iDRV_FAULT : Nat := 0
def iCLAMP : Nat := 1
def iSPACING : Nat := 2
def kCLAMP_SAT : Nat := 0
def kFRAME_SAT : Nat := 1
def fields0 : List Fld := [ CTRL_EN, CTRL_FORCE_SAFE, STATUS_ACTIVE, STATUS_SAFE, STATUS_FLT, STATUS_TICK, INT_STATUS, INT_ENABLE, STICKY, COIL_EN_EN, CMD_VALUE, CMD_HOLD, CMD_SAFE, LIMIT, FRAME_CNT, CLAMP_CNT, LAT_MAX, FAULT_CODE ]
/-- Every field of the page, in table order. -/
def fields : List Fld := fields0
end ACL

namespace ENG
/-- Page index of SE0 to CE7 (R604). -/
def page (e : Nat) : Nat := 0x50 + e
/-! Fields of R157 (04_control_engines). -/
def CTRL_HALT : Fld := reg 0x008 0 1 .rw (.val 0)
def CTRL_STEP : Fld := reg 0x008 1 1 .wo (.val 0)
def CTRL_DOORBELL : Fld := reg 0x008 2 1 .wo (.val 0)
def CTRL_CLR_CNT : Fld := reg 0x008 3 1 .wo (.val 0)
def STATUS_STATE : Fld := reg 0x00C 0 3 .ro (.val 0)
def STATUS_CUST_ACTIVE : Fld := reg 0x00C 3 1 .ro (.val 0)
def STATUS_UFMT : Fld := reg 0x00C 4 1 .ro (.val 0)
def STATUS_LOCKED : Fld := reg 0x00C 5 1 .ro (.val 0)
def STATUS_H : Fld := reg 0x00C 6 1 .ro (.val 0)
def STATUS_PF : Fld := reg 0x00C 7 1 .ro (.val 0)
def STATUS_ARMED : Fld := reg 0x00C 8 1 .ro (.val 0)
def INT_STATUS : Fld := reg 0x010 0 8 .w1c (.val 0)
def INT_ENABLE : Fld := reg 0x014 0 8 .rw (.val 0)
def STICKY : Fld := reg 0x01C 0 7 .w1c (.val 0)
def FAULT_CODE : Fld := reg 0x020 0 8 .ro (.val 0)
def PC : Fld := reg 0x040 0 13 .ro (.val 0)
def CYC_MAX : Fld := reg 0x040 16 16 .rcl (.val 0)
def TICK_CNT : Fld := reg 0x044 0 32 .ro (.val 0)
def OVR_CNT : Fld := reg 0x048 0 16 .ro (.val 0)
def TRAP_CNT : Fld := reg 0x048 16 16 .ro (.val 0)
def DM_ADDR_ADDR : Fld := reg 0x04C 0 12 .rw (.val 0)
def DM_ADDR_AUTO_INC : Fld := reg 0x04C 16 1 .rw (.val 0)
def DM_DATA : Fld := reg 0x050 0 32 .rw (.val 0)
def CUST_CTRL_ARM : Fld := reg 0x054 0 1 .rw (.val 0)
def CUST_CTRL_OUT_EN : Fld := reg 0x054 1 6 .rw (.val 0)
def CUST_CTRL_BUDGET : Fld := reg 0x054 16 10 .rw (.val 0x40)
def CUST_HOOKS_EN : Fld := reg 0x058 0 16 .rw (.val 0)
def CUST_STATUS_LAST_FAIL : Fld := reg 0x05C 0 8 .ro (.val 0)
def CUST_STATUS_LAST_HOOK : Fld := reg 0x05C 8 4 .ro (.val 0)
def CUST_STATUS_TRAP_ARG : Fld := reg 0x05C 12 4 .ro (.val 0)
def CUST_STATUS_ENTRIES : Fld := reg 0x05C 16 16 .ro (.val 0)
def CUST_CRC : Fld := reg 0x060 0 32 .ro (.val 0)
def PLAUS_CFG_EN : Fld := reg 0x064 0 1 .rw (.val 0)
def PLAUS_CFG_REARM : Fld := reg 0x064 1 1 .wo (.val 0)
def PLAUS_CFG_DELAY : Fld := reg 0x064 4 4 .rw (.val 1)
def PLAUS_CFG_RES_N : Fld := reg 0x064 8 8 .rw (.val 8)
def PLAUS_CFG_IN_PORT : Fld := reg 0x064 16 8 .rw (.val 0)
def PLAUS_CFG_OUT_PORT : Fld := reg 0x064 24 8 .rw (.val 0x80)
def MODEL_A1 : Fld := reg 0x068 0 32 .rw (.val 0)
def MODEL_A2 : Fld := reg 0x06C 0 32 .rw (.val 0)
def MODEL_B : Fld := reg 0x070 0 32 .rw (.val 0)
def RES_THR : Fld := reg 0x074 0 32 .rw (.val 0x7FFFFFFF)
def RES_LAST : Fld := reg 0x078 0 32 .ro (.val 0)
def FRAME : Fld := regs 0x080 0 32 .ro (.val 0) 0x4 32
/-! Bits of INT_STATUS (i), STICKY (k). -/
def iTRAP : Nat := 0
def iHALTED : Nat := 1
def iFAULTED : Nat := 2
def iCUST_FAIL : Nat := 3
def iPLAUS_FAIL : Nat := 4
def iTICK_OVR : Nat := 5
def iLOCK_WR : Nat := 6
def iCUST_WR : Nat := 7
def kSAT : Nat := 0
def kACC_SAT : Nat := 1
def kWCONFLICT : Nat := 2
def kTICK_OVR : Nat := 3
def kLOCK_WR : Nat := 4
def kCUST_WR : Nat := 5
def kCNT_SAT : Nat := 6
def fields0 : List Fld := [ CTRL_HALT, CTRL_STEP, CTRL_DOORBELL, CTRL_CLR_CNT, STATUS_STATE, STATUS_CUST_ACTIVE, STATUS_UFMT, STATUS_LOCKED, STATUS_H, STATUS_PF, STATUS_ARMED, INT_STATUS, INT_ENABLE, STICKY, FAULT_CODE, PC, CYC_MAX, TICK_CNT, OVR_CNT, TRAP_CNT, DM_ADDR_ADDR, DM_ADDR_AUTO_INC, DM_DATA, CUST_CTRL_ARM, CUST_CTRL_OUT_EN, CUST_CTRL_BUDGET, CUST_HOOKS_EN, CUST_STATUS_LAST_FAIL, CUST_STATUS_LAST_HOOK, CUST_STATUS_TRAP_ARG, CUST_STATUS_ENTRIES, CUST_CRC, PLAUS_CFG_EN, PLAUS_CFG_REARM, PLAUS_CFG_DELAY, PLAUS_CFG_RES_N, PLAUS_CFG_IN_PORT, PLAUS_CFG_OUT_PORT, MODEL_A1, MODEL_A2 ]
def fields1 : List Fld := [ MODEL_B, RES_THR, RES_LAST, FRAME ]
/-- Every field of the page, in table order. -/
def fields : List Fld := fields0 ++ fields1
end ENG

namespace LOOP
/-- Page index of SE0 to SE6 (R604). -/
def page (e : Nat) : Nat := 0x50 + e
/-! Fields of R192 (05_focus_tracking_layers). -/
def LOOP_CTRL_EN : Fld := reg 0x100 0 1 .rw (.val 0)
def LOOP_CTRL_SWAP : Fld := reg 0x100 1 1 .wo (.val 0)
def LOOP_CTRL_ACQUIRE : Fld := reg 0x100 2 1 .wo (.val 0)
def LOOP_CTRL_PARK : Fld := reg 0x100 3 1 .wo (.val 0)
def LOOP_STATUS_STATE : Fld := reg 0x104 0 3 .ro (.val 0)
def LOOP_STATUS_SETTLED : Fld := reg 0x104 3 1 .ro (.val 0)
def LOOP_STATUS_BANK : Fld := reg 0x104 4 1 .ro (.val 0)
def LOOP_STATUS_SWAP_PEND : Fld := reg 0x104 5 1 .ro (.val 0)
def LOOP_STATUS_XFF_VALID : Fld := reg 0x104 6 1 .ro (.val 0)
def LOOP_STATUS_HOLD_RUN : Fld := reg 0x104 8 8 .ro (.val 0)
def LOSS_CFG_LOSS_N : Fld := reg 0x108 0 8 .rw (.val 4)
def LOSS_CFG_HOLD_MAX : Fld := reg 0x108 8 8 .rw (.val 8)
def LOSS_CFG_DEF_HOLD_MAX : Fld := reg 0x108 16 8 .rw (.val 0x50)
def LOSS_CFG_SETTLE_N : Fld := reg 0x108 24 8 .rw (.val 8)
def LOSS_THR : Fld := reg 0x10C 0 32 .rw (.byAddr 0x7FFFFFFF [(0x5010C, 0x08000000), (0x5410C, 0x08000000), (0x5110C, 0x20000000), (0x5510C, 0x20000000)])
def SETTLE_THR : Fld := reg 0x110 0 32 .rw (.val 0x4000000)
def ERR_LAST : Fld := reg 0x114 0 32 .ro (.val 0)
def INTEG : Fld := reg 0x118 0 32 .ro (.val 0)
def OUT_LAST : Fld := reg 0x11C 0 16 .ro (.val 0)
def LOSSES : Fld := reg 0x120 0 16 .ro (.val 0)
def HOLDS : Fld := reg 0x120 16 16 .ro (.val 0)
def LOST_CNT : Fld := reg 0x124 0 16 .ro (.val 0)
def ACQ_CNT : Fld := reg 0x124 16 16 .ro (.val 0)
def fields0 : List Fld := [ LOOP_CTRL_EN, LOOP_CTRL_SWAP, LOOP_CTRL_ACQUIRE, LOOP_CTRL_PARK, LOOP_STATUS_STATE, LOOP_STATUS_SETTLED, LOOP_STATUS_BANK, LOOP_STATUS_SWAP_PEND, LOOP_STATUS_XFF_VALID, LOOP_STATUS_HOLD_RUN, LOSS_CFG_LOSS_N, LOSS_CFG_HOLD_MAX, LOSS_CFG_DEF_HOLD_MAX, LOSS_CFG_SETTLE_N, LOSS_THR, SETTLE_THR, ERR_LAST, INTEG, OUT_LAST, LOSSES, HOLDS, LOST_CNT, ACQ_CNT ]
/-- Every field of the page, in table order. -/
def fields : List Fld := fields0
end LOOP

namespace FOC
/-- Page index of SE0 to SE4 (R604). -/
def page (head : Nat) : Nat := 0x50 + 4 * head
/-! Fields of R193 (05_focus_tracking_layers). -/
def FOC_CFG_TARGET_LAYER : Fld := reg 0x140 0 3 .rw (.val 0)
def FOC_CFG_SWEEPS : Fld := reg 0x140 4 4 .rw (.val 3)
def FOC_CFG_RETRACT_MS : Fld := reg 0x140 8 8 .rw (.val 2)
def CAP_FS_THR : Fld := reg 0x144 0 32 .rw (.val 0x10000000)
def CAP_WIN : Fld := reg 0x148 0 32 .rw (.val 0x8000000)
def FE_LOSS : Fld := reg 0x14C 0 32 .rw (.val 0x60000000)
def SWEEP_VEL : Fld := reg 0x150 0 32 .rw (.val 0x1312D00)
def SWEEP_LEN : Fld := reg 0x154 0 32 .rw (.val 0x927C0)
def RETRACT_POS : Fld := reg 0x158 0 16 .rw (.val 0x8800)
def LAYER_Z : Fld := regs 0x15C 0 32 .rw (.val 0) 0x4 8
def FS_LAST : Fld := reg 0x17C 0 32 .ro (.val 0)
def LAYERS_SEEN : Fld := reg 0x180 0 4 .ro (.val 0)
def fields0 : List Fld := [ FOC_CFG_TARGET_LAYER, FOC_CFG_SWEEPS, FOC_CFG_RETRACT_MS, CAP_FS_THR, CAP_WIN, FE_LOSS, SWEEP_VEL, SWEEP_LEN, RETRACT_POS, LAYER_Z, FS_LAST, LAYERS_SEEN ]
/-- Every field of the page, in table order. -/
def fields : List Fld := fields0
end FOC

namespace TRK
/-- Page index of SE1 to SE5 (R604). -/
def page (head : Nat) : Nat := 0x51 + 4 * head
/-! Fields of R194 (05_focus_tracking_layers). -/
def TRK_CFG_POL_MODE : Fld := reg 0x140 0 2 .rw (.val 0)
def TRK_CFG_SRC : Fld := reg 0x140 2 1 .rw (.val 0)
def TRK_CFG_PULL_FREQ : Fld := reg 0x140 8 8 .rw (.val 0x14)
def TRK_CFG_POL_ACT : Fld := reg 0x140 16 1 .ro (.val 0)
def CROSS_FREQ : Fld := reg 0x144 0 16 .ro (.val 0)
def LS_LAST : Fld := reg 0x148 0 32 .ro (.val 0)
def TRK_BAL : Fld := regs 0x14C 0 32 .rw (.val 0x40000000) 0x4 8
def fields0 : List Fld := [ TRK_CFG_POL_MODE, TRK_CFG_SRC, TRK_CFG_PULL_FREQ, TRK_CFG_POL_ACT, CROSS_FREQ, LS_LAST, TRK_BAL ]
/-- Every field of the page, in table order. -/
def fields : List Fld := fields0
end TRK

namespace TLT
/-- Page index of SE2 to SE6 (R604). -/
def page (head : Nat) : Nat := 0x52 + 4 * head
/-! Fields of R195 (05_focus_tracking_layers). -/
def TS_CFG_SA_LOOP_EN : Fld := reg 0x140 0 1 .rw (.val 0)
def TS_CFG_TTILT_EN : Fld := reg 0x140 1 1 .rw (.val 0)
def TS_CFG_SA_RAMP_US : Fld := reg 0x140 16 12 .rw (.val 0x12C)
def SA_KI : Fld := reg 0x144 0 32 .rw (.val 0x10000)
def SA_I_LIM : Fld := reg 0x148 0 32 .rw (.val 0x10000000)
def SA_OFS : Fld := reg 0x14C 0 32 .rw (.val 0)
def SA_INTEG : Fld := reg 0x150 0 32 .ro (.val 0)
def SA_PRESET : Fld := regs 0x154 0 16 .rw (.val 0) 0x4 8
def TTILT : Fld := regs 0x174 0 16 .rw (.val 0) 0x4 16
def RTOFS : Fld := regs 0x1B4 0 32 .rw (.val 0) 0x4 16
def ZONE : Fld := reg 0x1F4 0 4 .ro (.val 0)
def fields0 : List Fld := [ TS_CFG_SA_LOOP_EN, TS_CFG_TTILT_EN, TS_CFG_SA_RAMP_US, SA_KI, SA_I_LIM, SA_OFS, SA_INTEG, SA_PRESET, TTILT, RTOFS, ZONE ]
/-- Every field of the page, in table order. -/
def fields : List Fld := fields0
end TLT

namespace LPS
/-- Page index of SE3 to SE7 (R604). -/
def page (head : Nat) : Nat := 0x53 + 4 * head
/-! Fields of R196 (05_focus_tracking_layers). -/
def LPS_CTRL_EN : Fld := reg 0x100 0 1 .rw (.val 1)
def LPS_CTRL_READ_SUP : Fld := reg 0x100 1 1 .rw (.val 1)
def LPS_STATUS_DEV : Fld := reg 0x104 0 10 .w1c (.val 0)
def LPS_STATUS_TRIPPED : Fld := reg 0x104 16 1 .ro (.val 0)
def LPS_CFG_TOL_PCT : Fld := reg 0x108 0 8 .rw (.val 0xA)
def LPS_CFG_N : Fld := reg 0x108 8 4 .rw (.val 4)
def LPS_CFG_FLOOR : Fld := reg 0x108 16 12 .rw (.val 0x10)
def MON_SAMPLE : Fld := regs 0x10C 0 12 .ro (.val 0) 0x4 10
def MON_EXPECTED : Fld := regs 0x10C 16 12 .ro (.val 0) 0x4 10
def TRIP_CNT : Fld := reg 0x134 0 32 .ro (.val 0)
def DEV_CNT : Fld := reg 0x138 0 32 .ro (.val 0)
def fields0 : List Fld := [ LPS_CTRL_EN, LPS_CTRL_READ_SUP, LPS_STATUS_DEV, LPS_STATUS_TRIPPED, LPS_CFG_TOL_PCT, LPS_CFG_N, LPS_CFG_FLOOR, MON_SAMPLE, MON_EXPECTED, TRIP_CNT, DEV_CNT ]
/-- Every field of the page, in table order. -/
def fields : List Fld := fields0
end LPS

namespace MC
/-- Page index of SE11 (R604). -/
def page : Nat := 0x5B
/-! Fields of R197 (05_focus_tracking_layers). -/
def MC_CTRL_FOLLOW_L : Fld := reg 0x100 0 1 .rw (.val 0)
def MC_CTRL_FOLLOW_U : Fld := reg 0x100 1 1 .rw (.val 0)
def MC_CTRL_XFF_EN : Fld := reg 0x100 2 1 .rw (.val 0)
def MC_STATUS_STATE_L : Fld := reg 0x104 0 4 .ro (.val 0)
def MC_STATUS_STATE_U : Fld := reg 0x104 4 4 .ro (.val 0)
def SEEK_L_GROUP : Fld := reg 0x108 0 15 .rw (.val 0)
def SEEK_U_GROUP : Fld := reg 0x10C 0 15 .rw (.val 0)
def SEEK_L_LAYER : Fld := reg 0x108 16 3 .rw (.val 0)
def SEEK_U_LAYER : Fld := reg 0x10C 16 3 .rw (.val 0)
def SEEK_L_GO : Fld := reg 0x108 31 1 .wo (.val 0)
def SEEK_U_GO : Fld := reg 0x10C 31 1 .wo (.val 0)
def POS_L_POS : Fld := reg 0x110 0 32 .ro (.val 0)
def POS_U_POS : Fld := reg 0x114 0 32 .ro (.val 0)
def GJ_CFG_SETTLE_N : Fld := reg 0x118 0 8 .rw (.val 6)
def GJ_CFG_FAIL_MAX : Fld := reg 0x118 8 8 .rw (.val 3)
def SEEK_CFG_FINE_MAX : Fld := reg 0x11C 0 18 .rw (.val 0x400)
def SEEK_CFG_FINE_TRIES : Fld := reg 0x11C 20 4 .rw (.val 4)
def SEEK_CFG_COARSE_TRIES : Fld := reg 0x11C 24 4 .rw (.val 2)
def LJ_V : Fld := reg 0x120 0 32 .rw (.val 0x1E848)
def LJ_A : Fld := reg 0x124 0 32 .rw (.val 0x2625A0)
def LJ_J : Fld := reg 0x128 0 32 .rw (.val 0x2FAF080)
def LJ_TRIES : Fld := reg 0x12C 0 4 .rw (.val 2)
def GJ_CNT_L : Fld := reg 0x130 0 32 .ro (.val 0)
def GJ_CNT_U : Fld := reg 0x134 0 32 .ro (.val 0)
def GJ_FAIL : Fld := reg 0x138 0 32 .ro (.val 0)
def LJ_CNT : Fld := reg 0x13C 0 32 .ro (.val 0)
def SEEK_CNT : Fld := reg 0x140 0 32 .ro (.val 0)
def SEEK_FAIL : Fld := reg 0x144 0 32 .ro (.val 0)
def SEEK_MAX : Fld := reg 0x148 0 32 .rcl (.val 0)
def MC_INT : Fld := reg 0x14C 0 12 .w1c (.val 0)
def MC_INT_EN_EN : Fld := reg 0x150 0 12 .rw (.val 0)
/-! Bits of INT_STATUS (i), STICKY (k) and MC_INT (m). -/
def mSEEK_DONE_L : Nat := 0
def mSEEK_DONE_U : Nat := 1
def mSEEK_FAIL_L : Nat := 2
def mSEEK_FAIL_U : Nat := 3
def mGJ_FAIL_L : Nat := 4
def mGJ_FAIL_U : Nat := 5
def mLJ_FAIL_L : Nat := 6
def mLJ_FAIL_U : Nat := 7
def mLOST_L : Nat := 8
def mLOST_U : Nat := 9
def mSEEK_REJ_L : Nat := 10
def mSEEK_REJ_U : Nat := 11
def fields0 : List Fld := [ MC_CTRL_FOLLOW_L, MC_CTRL_FOLLOW_U, MC_CTRL_XFF_EN, MC_STATUS_STATE_L, MC_STATUS_STATE_U, SEEK_L_GROUP, SEEK_U_GROUP, SEEK_L_LAYER, SEEK_U_LAYER, SEEK_L_GO, SEEK_U_GO, POS_L_POS, POS_U_POS, GJ_CFG_SETTLE_N, GJ_CFG_FAIL_MAX, SEEK_CFG_FINE_MAX, SEEK_CFG_FINE_TRIES, SEEK_CFG_COARSE_TRIES, LJ_V, LJ_A, LJ_J, LJ_TRIES, GJ_CNT_L, GJ_CNT_U, GJ_FAIL, LJ_CNT, SEEK_CNT, SEEK_FAIL, SEEK_MAX, MC_INT, MC_INT_EN_EN ]
/-- Every field of the page, in table order. -/
def fields : List Fld := fields0
end MC

namespace MOT
/-- Page index of MOT (R604). -/
def page : Nat := 0x44
/-! Fields of R198 (05_focus_tracking_layers). -/
def CTRL_EN : Fld := reg 0x008 0 1 .rw (.val 1)
def STATUS_MOVING : Fld := reg 0x00C 0 4 .ro (.val 0)
def INT_STATUS : Fld := reg 0x010 0 8 .w1c (.val 0)
def INT_ENABLE : Fld := reg 0x014 0 8 .rw (.val 0)
def STICKY : Fld := reg 0x01C 0 16 .w1c (.val 0)
def PG_CTRL_MODE : Fld := regs 0x040 0 1 .rw (.val 0) 0x40 4
def PG_CTRL_GO : Fld := regs 0x040 1 1 .wo (.val 0) 0x40 4
def PG_CTRL_STOP : Fld := regs 0x040 2 1 .wo (.val 0) 0x40 4
def PG_STATE_STATE : Fld := regs 0x044 0 3 .ro (.val 0) 0x40 4
def PG_STATE_DEFERRED : Fld := regs 0x044 8 1 .ro (.val 0) 0x40 4
def PG_STATE_SEG : Fld := regs 0x044 16 5 .ro (.val 0) 0x40 4
def TGT_LO : Fld := regs 0x048 0 32 .rw (.val 0) 0x40 4
def TGT_HI : Fld := regs 0x04C 0 32 .rw (.val 0) 0x40 4
def POS_LO : Fld := regs 0x050 0 32 .ro (.val 0) 0x40 4
def POS_HI : Fld := regs 0x054 0 32 .ro (.val 0) 0x40 4
def VEL : Fld := regs 0x058 0 32 .ro (.val 0) 0x40 4
def ACC : Fld := regs 0x05C 0 32 .ro (.val 0) 0x40 4
def V_MAX_LO : Fld := regs 0x060 0 32 .rw (.byAddr 400000 [(0x440E0, 28000000), (0x44120, 28000000)]) 0x40 4
def V_MAX_HI : Fld := regs 0x064 0 32 .rw (.byAddr 0 [(0x440E4, 0), (0x44124, 0)]) 0x40 4
def A_MAX_LO : Fld := regs 0x068 0 32 .rw (.byAddr 20000000 [(0x440E8, 4135628800), (0x44128, 4135628800)]) 0x40 4
def A_MAX_HI : Fld := regs 0x06C 0 32 .rw (.byAddr 0 [(0x440EC, 325), (0x4412C, 325)]) 0x40 4
def J_MAX_LO : Fld := regs 0x070 0 32 .rw (.byAddr 4000000000 [(0x440F0, 239534080), (0x44130, 239534080)]) 0x40 4
def J_MAX_HI : Fld := regs 0x074 0 32 .rw (.byAddr 0 [(0x440F4, 16298145), (0x44134, 16298145)]) 0x40 4
def TBL_LEN : Fld := regs 0x078 0 6 .rw (.val 0) 0x40 4
def MOVE_TICKS : Fld := regs 0x07C 0 32 .ro (.val 0) 0x40 4
/-! Fields of R232 (06_spindle_and_sled). -/
def DUR : Fld := regs2 0x800 0 24 .rw (.val 0) 0x200 4 0x10 32
def END_POS_LO : Fld := regs2 0x804 0 32 .rw (.val 0) 0x200 4 0x10 32
def END_POS_HI : Fld := regs2 0x808 0 16 .rw (.val 0) 0x200 4 0x10 32
def END_VEL : Fld := regs2 0x80C 0 32 .rw (.val 0) 0x200 4 0x10 32
/-! Fields of R605 (18_register_pages). -/
def FAULT_CODE : Fld := reg 0x020 0 8 .ro (.val 0)
/-! Bits of INT_STATUS (i), STICKY (k). -/
def iDONE : Nat := 0
def iSHORT_STOP : Nat := 4
def kLIMIT : Nat := 0
def kLIMIT_DEFERRED : Nat := 4
def kTGT_BUSY : Nat := 8
def kZERO_LIM : Nat := 12
def fields0 : List Fld := [ CTRL_EN, STATUS_MOVING, INT_STATUS, INT_ENABLE, STICKY, PG_CTRL_MODE, PG_CTRL_GO, PG_CTRL_STOP, PG_STATE_STATE, PG_STATE_DEFERRED, PG_STATE_SEG, TGT_LO, TGT_HI, POS_LO, POS_HI, VEL, ACC, V_MAX_LO, V_MAX_HI, A_MAX_LO, A_MAX_HI, J_MAX_LO, J_MAX_HI, TBL_LEN, MOVE_TICKS, DUR, END_POS_LO, END_POS_HI, END_VEL, FAULT_CODE ]
/-- Every field of the page, in table order. -/
def fields : List Fld := fields0
end MOT

namespace SPN
/-- Page index of SPN (R604). -/
def page : Nat := 0x40
/-! Fields of R234 (06_spindle_and_sled). -/
def CTRL_EN : Fld := reg 0x008 0 1 .rw (.val 0)
def CTRL_START : Fld := reg 0x008 1 1 .wo (.val 0)
def CTRL_STOP : Fld := reg 0x008 2 1 .wo (.val 0)
def CTRL_BRAKE_EN : Fld := reg 0x008 3 1 .rw (.val 1)
def CTRL_CHOP_EN : Fld := reg 0x008 4 1 .rw (.val 1)
def CTRL_CATCH_EN : Fld := reg 0x008 5 1 .rw (.val 1)
def CTRL_OVS_CLR : Fld := reg 0x008 6 1 .wo (.val 0)
def STATUS_STATE : Fld := reg 0x00C 0 4 .ro (.val 0)
def STATUS_DIR : Fld := reg 0x00C 4 1 .ro (.val 0)
def STATUS_SPEED_OK : Fld := reg 0x00C 5 1 .ro (.val 0)
def STATUS_OBS_LOCK : Fld := reg 0x00C 6 1 .ro (.val 0)
def STATUS_ANGLE_VALID : Fld := reg 0x00C 7 1 .ro (.val 0)
def STATUS_CHOP_FAULT : Fld := reg 0x00C 8 1 .ro (.val 0)
def STATUS_OVERSPEED : Fld := reg 0x00C 9 1 .ro (.val 0)
def STATUS_LOSS_BRAKE : Fld := reg 0x00C 10 1 .ro (.val 0)
def STATUS_SPINCMD_LOST : Fld := reg 0x00C 11 1 .ro (.val 0)
def STATUS_SPINCMD_STOP : Fld := reg 0x00C 12 1 .ro (.val 0)
def STATUS_REGEN : Fld := reg 0x00C 13 1 .ro (.val 0)
def INT_STATUS : Fld := reg 0x010 0 9 .w1c (.val 0)
def INT_ENABLE : Fld := reg 0x014 0 9 .rw (.val 0)
def STICKY : Fld := reg 0x01C 0 4 .w1c (.val 0)
def FAULT_CODE : Fld := reg 0x020 0 8 .ro (.val 0)
def TARGET_RPM : Fld := reg 0x040 0 13 .rw (.val 0)
def TARGET_SPD_MODE : Fld := reg 0x040 16 1 .rw (.val 0)
def CLV_CFG_VEL : Fld := reg 0x044 0 16 .rw (.val 0)
def SPEED_EFF_RPM : Fld := reg 0x048 0 13 .ro (.val 0)
def SPEED_EFF_CEIL_ACT : Fld := reg 0x048 15 1 .ro (.val 0)
def SPEED_EST : Fld := reg 0x04C 0 32 .ro (.val 0)
def ANGLE_ANGLE : Fld := reg 0x050 0 16 .ro (.val 0)
def ANGLE_VALID : Fld := reg 0x050 31 1 .ro (.val 0)
def ANGLE_OFS : Fld := reg 0x054 0 16 .ro (.val 0)
def PWM_CFG_FREQ_KHZ : Fld := reg 0x058 0 8 .rw (.val 0x28)
def PWM_CFG_DEAD : Fld := reg 0x058 8 10 .rw (.val 0x28)
def SHUNT_CFG_TMIN : Fld := reg 0x05C 0 8 .rw (.val 0x64)
def SHUNT_CFG_SETTLE : Fld := reg 0x05C 8 8 .rw (.val 0x3C)
def SHUNT_CFG_GAIN : Fld := reg 0x05C 16 2 .rw (.val 1)
def MOTOR_POLE_PAIRS : Fld := reg 0x060 0 4 .rw (.val 4)
def MOTOR_RS : Fld := reg 0x060 16 16 .rw (.val 0x320)
def MOTOR2_LS : Fld := reg 0x064 0 16 .rw (.val 0x1F4)
def MOTOR2_KE : Fld := reg 0x064 16 16 .rw (.val 0x3E8)
def CUR_CFG_I_MAX : Fld := reg 0x068 0 16 .rw (.val 0xFA0)
def CUR_CFG_ALIGN_I : Fld := reg 0x068 16 16 .rw (.val 0x5DC)
def START_CFG_CATCH_MS : Fld := reg 0x06C 0 8 .rw (.val 0x14)
def START_CFG_ALIGN_MS : Fld := reg 0x06C 8 8 .rw (.val 0x64)
def START_CFG_HANDOFF_RPM : Fld := reg 0x06C 16 16 .rw (.val 0x12C)
def RAMP_CFG_RAMP : Fld := reg 0x070 0 16 .rw (.val 0x3E8)
def RAMP_CFG_ACC : Fld := reg 0x070 16 16 .rw (.val 0xBB8)
def BRAKE_CFG_BRK_ON : Fld := reg 0x074 0 16 .rw (.val 0x3390)
def BRAKE_CFG_BRK_OFF : Fld := reg 0x074 16 16 .rw (.val 0x3264)
def CHOP_CFG_CHOP_MIN : Fld := reg 0x078 0 16 .rw (.val 0x1F4)
def CHOP_CFG_CHOP_MAX : Fld := reg 0x078 16 16 .rw (.val 0x2710)
def LOSS_CFG_LOSS_W : Fld := reg 0x07C 0 16 .rw (.val 0xFA0)
def VBUS : Fld := reg 0x080 0 16 .ro (.val 0)
def CHOP_I : Fld := reg 0x084 0 16 .ro (.val 0)
def SPINCMD_CFG_EN : Fld := reg 0x088 0 1 .rw (.prof 1 0)
def SPINCMD_CFG_FORM : Fld := reg 0x088 1 2 .rw (.val 1)
def SPINCMD_CFG_LOSS_ACT : Fld := reg 0x088 3 1 .rw (.val 1)
def SPINCMD_CFG_FILT_MS : Fld := reg 0x088 8 8 .rw (.val 0xA)
def SPINCMD_CFG_STOP_RPM : Fld := reg 0x088 16 16 .rw (.val 0x12C)
def SPINCMD_MAP_LO : Fld := reg 0x08C 0 16 .rw (.val 0x1999)
def SPINCMD_MAP_HI : Fld := reg 0x08C 16 16 .rw (.val 0xE666)
def SPINCMD_FREQ_SCALE : Fld := reg 0x090 0 16 .rw (.val 0x3E8)
def SPINCMD_VAL_CMD_RPM : Fld := reg 0x094 0 13 .ro (.val 0)
def SPINCMD_VAL_RAW : Fld := reg 0x094 16 16 .ro (.val 0)
def START_CNT : Fld := reg 0x098 0 16 .ro (.val 0)
def CATCH_CNT : Fld := reg 0x098 16 16 .ro (.val 0)
def REUSE_CNT : Fld := reg 0x09C 0 32 .ro (.val 0)
def OVS_CNT : Fld := reg 0x0A0 0 16 .ro (.val 0)
def OBS_LOSS_CNT : Fld := reg 0x0A0 16 16 .ro (.val 0)
def CHOP_FAULT_CNT : Fld := reg 0x0A4 0 16 .ro (.val 0)
def CUR_PEAK : Fld := reg 0x0A8 0 16 .rcl (.val 0)
/-! Bits of INT_STATUS (i), STICKY (k). -/
def iSPEED_OK : Nat := 0
def iSTART_FAIL : Nat := 1
def iOBS_LOST : Nat := 2
def iCHOP_FAULT : Nat := 3
def iOVERSPEED : Nat := 4
def iBUS_OV : Nat := 5
def iSPINCMD_LOST : Nat := 6
def iSPINCMD_CHG : Nat := 7
def iSTOPPED : Nat := 8
def kREUSE : Nat := 0
def kCUR_LIM : Nat := 1
def kTGT_CLAMP : Nat := 2
def kCNT_SAT : Nat := 3
def fields0 : List Fld := [ CTRL_EN, CTRL_START, CTRL_STOP, CTRL_BRAKE_EN, CTRL_CHOP_EN, CTRL_CATCH_EN, CTRL_OVS_CLR, STATUS_STATE, STATUS_DIR, STATUS_SPEED_OK, STATUS_OBS_LOCK, STATUS_ANGLE_VALID, STATUS_CHOP_FAULT, STATUS_OVERSPEED, STATUS_LOSS_BRAKE, STATUS_SPINCMD_LOST, STATUS_SPINCMD_STOP, STATUS_REGEN, INT_STATUS, INT_ENABLE, STICKY, FAULT_CODE, TARGET_RPM, TARGET_SPD_MODE, CLV_CFG_VEL, SPEED_EFF_RPM, SPEED_EFF_CEIL_ACT, SPEED_EST, ANGLE_ANGLE, ANGLE_VALID, ANGLE_OFS, PWM_CFG_FREQ_KHZ, PWM_CFG_DEAD, SHUNT_CFG_TMIN, SHUNT_CFG_SETTLE, SHUNT_CFG_GAIN, MOTOR_POLE_PAIRS, MOTOR_RS, MOTOR2_LS, MOTOR2_KE ]
def fields1 : List Fld := [ CUR_CFG_I_MAX, CUR_CFG_ALIGN_I, START_CFG_CATCH_MS, START_CFG_ALIGN_MS, START_CFG_HANDOFF_RPM, RAMP_CFG_RAMP, RAMP_CFG_ACC, BRAKE_CFG_BRK_ON, BRAKE_CFG_BRK_OFF, CHOP_CFG_CHOP_MIN, CHOP_CFG_CHOP_MAX, LOSS_CFG_LOSS_W, VBUS, CHOP_I, SPINCMD_CFG_EN, SPINCMD_CFG_FORM, SPINCMD_CFG_LOSS_ACT, SPINCMD_CFG_FILT_MS, SPINCMD_CFG_STOP_RPM, SPINCMD_MAP_LO, SPINCMD_MAP_HI, SPINCMD_FREQ_SCALE, SPINCMD_VAL_CMD_RPM, SPINCMD_VAL_RAW, START_CNT, CATCH_CNT, REUSE_CNT, OVS_CNT, OBS_LOSS_CNT, CHOP_FAULT_CNT, CUR_PEAK ]
/-- Every field of the page, in table order. -/
def fields : List Fld := fields0 ++ fields1
end SPN

namespace SLD
/-- Page index of SLD_L to SLD_U (R604). -/
def page (head : Nat) : Nat := 0x41 + head
/-! Fields of R235 (06_spindle_and_sled). -/
def CTRL_EN : Fld := reg 0x008 0 1 .rw (.val 0)
def CTRL_HOME : Fld := reg 0x008 1 1 .wo (.val 0)
def CTRL_STOP : Fld := reg 0x008 2 1 .wo (.val 0)
def CTRL_FOLLOW : Fld := reg 0x008 3 1 .rw (.val 0)
def STATUS_STATE : Fld := reg 0x00C 0 3 .ro (.val 0)
def STATUS_HOMED : Fld := reg 0x00C 3 1 .ro (.val 0)
def STATUS_HOME_SW : Fld := reg 0x00C 4 1 .ro (.val 0)
def STATUS_OUTER_SW : Fld := reg 0x00C 5 1 .ro (.val 0)
def STATUS_BOOST : Fld := reg 0x00C 6 1 .ro (.val 0)
def STATUS_LA_VALID : Fld := reg 0x00C 7 1 .ro (.val 0)
def INT_STATUS : Fld := reg 0x010 0 7 .w1c (.val 0)
def INT_ENABLE : Fld := reg 0x014 0 7 .rw (.val 0)
def STICKY : Fld := reg 0x01C 0 3 .w1c (.val 0)
def FAULT_CODE : Fld := reg 0x020 0 8 .ro (.val 0)
def MECH_STEP_LEN : Fld := reg 0x040 0 24 .rw (.val 0x9600)
def MECH_DIR_INV : Fld := reg 0x040 31 1 .rw (.val 0)
def HOME_R : Fld := reg 0x044 0 32 .rw (.val 0x5910)
def SOFT_MIN : Fld := reg 0x048 0 32 .rw (.val 0x5BCC)
def SOFT_MAX : Fld := reg 0x04C 0 32 .rw (.val 0xE484)
def HOME_CFG_HOME_V : Fld := reg 0x050 0 16 .rw (.val 0x1388)
def HOME_CFG_HOME_V2 : Fld := reg 0x050 16 16 .rw (.val 0x1F4)
def HOME_CFG2_BACKOFF : Fld := reg 0x054 0 16 .rw (.val 0x1F4)
def HOME_CFG2_SEARCH_MAX : Fld := reg 0x054 16 16 .rw (.val 0x9C40)
def SW_CFG_DEB_US : Fld := reg 0x058 0 12 .rw (.val 0xC8)
def SW_CFG_HOME_POL : Fld := reg 0x058 12 1 .rw (.val 0)
def SW_CFG_OUTER_POL : Fld := reg 0x058 13 1 .rw (.val 0)
def SW_CFG_CHATTER_MAX : Fld := reg 0x058 16 8 .rw (.val 8)
def CUR_CFG_I_RUN : Fld := reg 0x05C 0 12 .rw (.val 0x190)
def CUR_CFG_I_HOLD : Fld := reg 0x05C 16 12 .rw (.val 0x96)
def CUR_CFG2_I_MAX : Fld := reg 0x060 0 12 .rw (.val 0x320)
def CUR_CFG2_I_STEP : Fld := reg 0x060 16 12 .rw (.val 0x32)
def LOAD_CFG_LA_LO : Fld := reg 0x064 0 8 .rw (.val 0x14)
def LOAD_CFG_LA_HI : Fld := reg 0x064 8 8 .rw (.val 0x2D)
def LOAD_CFG_LA_STALL : Fld := reg 0x064 16 8 .rw (.val 0x50)
def LOAD_CFG_STALL_N : Fld := reg 0x064 24 8 .rw (.val 0x28)
def LOAD_CFG2_LA_VMIN : Fld := reg 0x068 0 16 .rw (.val 0x1388)
def LOAD_CFG2_HOLD_DELAY_MS : Fld := reg 0x068 16 8 .rw (.val 0x32)
def CHOP_CFG_PWM : Fld := reg 0x06C 0 8 .rw (.val 0x32)
def CHOP_CFG_DECAY : Fld := reg 0x06C 8 2 .rw (.val 1)
def POS : Fld := reg 0x070 0 32 .ro (.val 0)
def OFS : Fld := reg 0x074 0 32 .ro (.val 0)
def LOAD_LA : Fld := reg 0x078 0 8 .ro (.val 0)
def LOAD_I_ACT : Fld := reg 0x078 16 12 .ro (.val 0)
def HOME_LAT : Fld := reg 0x07C 0 32 .ro (.val 0)
def HOME_CNT : Fld := reg 0x080 0 16 .ro (.val 0)
def STALL_CNT : Fld := reg 0x080 16 16 .ro (.val 0)
def TRIP_CNT : Fld := reg 0x084 0 16 .ro (.val 0)
def GLITCH_CNT : Fld := reg 0x084 16 16 .ro (.val 0)
def CHATTER_LAST : Fld := reg 0x088 0 8 .ro (.val 0)
/-! Bits of INT_STATUS (i), STICKY (k). -/
def iHOMED : Nat := 0
def iHOME_FAIL : Nat := 1
def iSTALL : Nat := 2
def iLIMIT_TRIP : Nat := 3
def iCHATTER : Nat := 4
def iSOFT_LIMIT : Nat := 5
def iCOIL_FAULT : Nat := 6
def kSOFT_LIMIT : Nat := 0
def kGLITCH : Nat := 1
def kCNT_SAT : Nat := 2
def fields0 : List Fld := [ CTRL_EN, CTRL_HOME, CTRL_STOP, CTRL_FOLLOW, STATUS_STATE, STATUS_HOMED, STATUS_HOME_SW, STATUS_OUTER_SW, STATUS_BOOST, STATUS_LA_VALID, INT_STATUS, INT_ENABLE, STICKY, FAULT_CODE, MECH_STEP_LEN, MECH_DIR_INV, HOME_R, SOFT_MIN, SOFT_MAX, HOME_CFG_HOME_V, HOME_CFG_HOME_V2, HOME_CFG2_BACKOFF, HOME_CFG2_SEARCH_MAX, SW_CFG_DEB_US, SW_CFG_HOME_POL, SW_CFG_OUTER_POL, SW_CFG_CHATTER_MAX, CUR_CFG_I_RUN, CUR_CFG_I_HOLD, CUR_CFG2_I_MAX, CUR_CFG2_I_STEP, LOAD_CFG_LA_LO, LOAD_CFG_LA_HI, LOAD_CFG_LA_STALL, LOAD_CFG_STALL_N, LOAD_CFG2_LA_VMIN, LOAD_CFG2_HOLD_DELAY_MS, CHOP_CFG_PWM, CHOP_CFG_DECAY, POS ]
def fields1 : List Fld := [ OFS, LOAD_LA, LOAD_I_ACT, HOME_LAT, HOME_CNT, STALL_CNT, TRIP_CNT, GLITCH_CNT, CHATTER_LAST ]
/-- Every field of the page, in table order. -/
def fields : List Fld := fields0 ++ fields1
end SLD

namespace SPS
/-- Page index of SE8 (R604). -/
def page : Nat := 0x58
/-! Fields of R236 (06_spindle_and_sled). -/
def SPD_KP : Fld := reg 0x100 0 32 .rw (.val 0x2000000)
def SPD_KI : Fld := reg 0x104 0 32 .rw (.val 0x80000)
def SPD_ERR : Fld := reg 0x108 0 32 .ro (.val 0)
def IQ_REF : Fld := reg 0x10C 0 16 .ro (.val 0)
def ID_REF : Fld := reg 0x10C 16 16 .ro (.val 0)
def SPD_TOL : Fld := reg 0x110 0 16 .rw (.val 0x1F4)
def WR_TOL : Fld := reg 0x114 0 16 .rw (.val 0x2710)
def OBS_TOL : Fld := reg 0x118 0 8 .rw (.val 5)
def fields0 : List Fld := [ SPD_KP, SPD_KI, SPD_ERR, IQ_REF, ID_REF, SPD_TOL, WR_TOL, OBS_TOL ]
/-- Every field of the page, in table order. -/
def fields : List Fld := fields0
end SPS

namespace SLF
/-- Page index of SE9 to SE10 (R604). -/
def page (head : Nat) : Nat := 0x59 + head
/-! Fields of R237 (06_spindle_and_sled). -/
def FOLLOW_KL : Fld := reg 0x100 0 32 .rw (.val 0x40000000)
def FOLLOW_KC : Fld := reg 0x104 0 32 .rw (.val 0x40000000)
def FOLLOW_KF : Fld := reg 0x108 0 32 .rw (.val 0x7D0)
def V_FOLLOW : Fld := reg 0x10C 0 16 .rw (.val 0x3E8)
def DEADBAND : Fld := reg 0x110 0 32 .rw (.val 0x1000000)
def F_LAST : Fld := reg 0x114 0 32 .ro (.val 0)
def fields0 : List Fld := [ FOLLOW_KL, FOLLOW_KC, FOLLOW_KF, V_FOLLOW, DEADBAND, F_LAST ]
/-- Every field of the page, in table order. -/
def fields : List Fld := fields0
end SLF

end Sys2Proof.Machine
end

