-- ==== Sys2Proof/Machine/FieldsB.lean ====
section
/-!
DEFINITION. Register fields of the pages of the read channel, decoding and writing (spec chapters 07 to 09).
One definition per field, as the tables of the rules named give it: offset, lowest bit, width, access type, reset value, and for an array its stride and count.
Names are the spec's register and field names.
-/
namespace Sys2Proof.Machine

namespace CHN
/-- Page index of CHN_L0 to CHN_U9 (R604). -/
def page (head beam : Nat) : Nat := 0x70 + 0x10 * head + beam
/-! Fields of R284 (07_read_channel). -/
def CTRL_EN : Fld := reg 0x008 0 1 .rw (.val 0)
def CTRL_ADAPT_EN : Fld := reg 0x008 1 1 .rw (.val 1)
def CTRL_HOLD : Fld := reg 0x008 2 1 .rw (.val 0)
def CTRL_EQ_RESET : Fld := reg 0x008 3 1 .wo (.val 0)
def CTRL_CNT_CLR : Fld := reg 0x008 4 1 .wo (.val 0)
def STATUS_TLOCK : Fld := reg 0x00C 0 1 .ro (.val 0)
def STATUS_FLOCK : Fld := reg 0x00C 1 1 .ro (.val 0)
def STATUS_DEF : Fld := reg 0x00C 2 1 .ro (.val 0)
def STATUS_HOLDING : Fld := reg 0x00C 3 1 .ro (.val 0)
def STATUS_DARK : Fld := reg 0x00C 4 1 .ro (.val 0)
def STATUS_BLANK : Fld := reg 0x00C 5 1 .ro (.val 0)
def STATUS_ADAPTING : Fld := reg 0x00C 6 1 .ro (.val 0)
def STATUS_WRITING : Fld := reg 0x00C 7 1 .ro (.val 0)
def STATUS_FRAME_ID : Fld := reg 0x00C 8 4 .ro (.val 0)
def STATUS_FLY_RUN : Fld := reg 0x00C 12 4 .ro (.val 0)
def STATUS_PROV : Fld := reg 0x00C 16 1 .ro (.val 0)
def INT_STATUS : Fld := reg 0x010 0 8 .w1c (.val 0)
def INT_ENABLE : Fld := reg 0x014 0 8 .rw (.val 0)
def STICKY : Fld := reg 0x01C 0 6 .w1c (.val 0)
def FAULT_CODE : Fld := reg 0x020 0 8 .ro (.val 0)
def FE_CFG_OFS_SH : Fld := reg 0x040 0 4 .rw (.val 0xA)
def FE_CFG_ASYM_SH : Fld := reg 0x040 4 4 .rw (.val 8)
def FE_CFG_ASYM_EN : Fld := reg 0x040 8 1 .rw (.val 1)
def FE_STATE_OFS : Fld := reg 0x044 0 16 .ro (.val 0)
def FE_STATE_ASYM : Fld := reg 0x044 16 16 .ro (.val 0)
def AGC_CFG_AGC_TGT : Fld := reg 0x048 0 12 .rw (.val 0x600)
def AGC_CFG_AGC_SH : Fld := reg 0x048 16 4 .rw (.val 6)
def AGC_GAIN : Fld := reg 0x04C 0 16 .ro (.val 0x1000)
def TR_CFG_KP_SH : Fld := reg 0x050 0 5 .rw (.val 6)
def TR_CFG_KI_SH : Fld := reg 0x050 8 5 .rw (.val 0xE)
def TR_CFG_FREQ_LIM : Fld := reg 0x050 16 12 .rw (.val 0x7D0)
def TR_STEP : Fld := reg 0x054 0 32 .ro (.val 0)
def TED_RMS : Fld := reg 0x058 0 16 .ro (.val 0)
def LOCK_CFG_LOCK_THR : Fld := reg 0x05C 0 16 .rw (.val 0x800)
def LOCK_CFG_UNLOCK_THR : Fld := reg 0x05C 16 16 .rw (.val 0x1800)
def EQ_CFG_MU_OWN_SH : Fld := reg 0x060 0 4 .rw (.val 0xC)
def EQ_CFG_MU_NBR_SH : Fld := reg 0x060 4 4 .rw (.val 0xD)
def EQ_CFG_LEAK_SH : Fld := reg 0x060 8 4 .rw (.val 0xF)
def EQ_CFG_DEC_DELAY : Fld := reg 0x060 16 6 .rw (.val 0x18)
def EQ_CFG_NBR_EN : Fld := reg 0x060 24 1 .rw (.val 1)
def TGT_A_G0 : Fld := reg 0x064 0 8 .rw (.val 0x10)
def TGT_A_G1 : Fld := reg 0x064 8 8 .rw (.val 0x30)
def TGT_A_G2 : Fld := reg 0x064 16 8 .rw (.val 0x40)
def TGT_A_G3 : Fld := reg 0x064 24 8 .rw (.val 0x30)
def TGT_B_G4 : Fld := reg 0x068 0 8 .rw (.val 0x10)
def TGT_B_TGT_PEND : Fld := reg 0x068 8 1 .ro (.val 0)
def DET_CFG_LLR_GAIN : Fld := reg 0x06C 0 8 .rw (.val 0x40)
def DET_CFG_LLR_SH : Fld := reg 0x06C 8 4 .rw (.val 4)
def DET_CFG_ZERO_LLR : Fld := reg 0x06C 12 1 .rw (.val 1)
def DET_CFG_TRACEBACK : Fld := reg 0x06C 16 6 .rw (.val 0x30)
def DET_CFG_LEG_ERAS : Fld := reg 0x06C 24 8 .rw (.val 0x20)
def SYNC_CFG_SYNC_ERR : Fld := reg 0x070 0 3 .rw (.val 2)
def SYNC_CFG_SYNC_WIN : Fld := reg 0x070 4 4 .rw (.val 4)
def SYNC_CFG_GAP_WIN : Fld := reg 0x070 8 8 .rw (.val 0x18)
def SYNC_CFG_REACQ_WIN : Fld := reg 0x070 16 8 .rw (.val 0x10)
def SYNC_CFG_FLY_MAX : Fld := reg 0x070 24 4 .rw (.val 6)
def DEF_CFG_DROP_THR : Fld := reg 0x074 0 8 .rw (.val 0x80)
def DEF_CFG_RECOV_THR : Fld := reg 0x074 8 8 .rw (.val 0xC0)
def DEF_CFG_QUAL_NS : Fld := reg 0x074 16 8 .rw (.val 0x28)
def DEF_CFG_REC_NS : Fld := reg 0x074 24 8 .rw (.val 0x32)
def DEF_CFG2_PRE_BITS : Fld := reg 0x078 0 8 .rw (.val 0x20)
def DEF_CFG2_POST_BITS : Fld := reg 0x078 8 8 .rw (.val 0x20)
def DEF_CFG2_BLANK_THR : Fld := reg 0x078 16 8 .rw (.val 0x20)
def ENV_ENV_REF : Fld := reg 0x07C 0 16 .ro (.val 0)
def ENV_ENV_NOW : Fld := reg 0x07C 16 16 .ro (.val 0)
def EQ_TAP_EVEN : Fld := regs 0x080 0 14 .rw (.val 0) 0x4 16
def EQ_TAP_ODD : Fld := regs 0x080 16 14 .rw (.byAddr 0 [(0x7008C, 0x1000), (0x7108C, 0x1000), (0x7208C, 0x1000), (0x7308C, 0x1000), (0x7408C, 0x1000), (0x7508C, 0x1000), (0x7608C, 0x1000), (0x7708C, 0x1000), (0x7808C, 0x1000), (0x7908C, 0x1000), (0x8008C, 0x1000), (0x8108C, 0x1000), (0x8208C, 0x1000), (0x8308C, 0x1000), (0x8408C, 0x1000), (0x8508C, 0x1000), (0x8608C, 0x1000), (0x8708C, 0x1000), (0x8808C, 0x1000), (0x8908C, 0x1000)]) 0x4 16
def CQI_CFG_WIN_EXP : Fld := reg 0x0C0 0 4 .rw (.val 4)
def CQI_CFG_LOW_LLR : Fld := reg 0x0C0 8 6 .rw (.val 4)
def CQI_CFG_CQI_FLOOR : Fld := reg 0x0C0 16 12 .rw (.val 0x78)
def CQI : Fld := reg 0x0C4 0 12 .ro (.val 0)
def CQI_MIN : Fld := reg 0x0C8 0 12 .rcl (.val 0xFFF)
def MSE : Fld := reg 0x0CC 0 32 .ro (.val 0)
def SYNC_FOUND : Fld := reg 0x0D0 0 32 .ro (.val 0)
def SYNC_MISSED : Fld := reg 0x0D4 0 32 .ro (.val 0)
def FALSE_SYNC : Fld := reg 0x0D8 0 16 .ro (.val 0)
def SLIPS : Fld := reg 0x0D8 16 16 .ro (.val 0)
def DEF_CNT : Fld := reg 0x0DC 0 32 .ro (.val 0)
def DEF_BITS : Fld := reg 0x0E0 0 32 .ro (.val 0)
def ERAS_BYTES : Fld := reg 0x0E4 0 32 .ro (.val 0)
def LOW_LLR_CNT : Fld := reg 0x0E8 0 32 .ro (.val 0)
def TLOCK_LOSS : Fld := reg 0x0EC 0 16 .ro (.val 0)
def FLOCK_LOSS : Fld := reg 0x0EC 16 16 .ro (.val 0)
def BLANK_SLOTS : Fld := reg 0x0F0 0 32 .ro (.val 0)
def ID_MISS : Fld := reg 0x0F4 0 16 .ro (.val 0)
/-! Bits of INT_STATUS (i), STICKY (k). -/
def iTLOCK_LOST : Nat := 0
def iFLOCK_LOST : Nat := 1
def iFLOCK_GAINED : Nat := 2
def iSLIP : Nat := 3
def iFALSE_SYNC : Nat := 4
def iEQ_BOUND : Nat := 5
def iCQI_LOW : Nat := 6
def iID_LOST : Nat := 7
def kOFS_SAT : Nat := 0
def kAGC_SAT : Nat := 1
def kTAP_SAT : Nat := 2
def kLLR_SAT : Nat := 3
def kFREQ_SAT : Nat := 4
def kCNT_SAT : Nat := 5
def fields0 : List Fld := [ CTRL_EN, CTRL_ADAPT_EN, CTRL_HOLD, CTRL_EQ_RESET, CTRL_CNT_CLR, STATUS_TLOCK, STATUS_FLOCK, STATUS_DEF, STATUS_HOLDING, STATUS_DARK, STATUS_BLANK, STATUS_ADAPTING, STATUS_WRITING, STATUS_FRAME_ID, STATUS_FLY_RUN, STATUS_PROV, INT_STATUS, INT_ENABLE, STICKY, FAULT_CODE, FE_CFG_OFS_SH, FE_CFG_ASYM_SH, FE_CFG_ASYM_EN, FE_STATE_OFS, FE_STATE_ASYM, AGC_CFG_AGC_TGT, AGC_CFG_AGC_SH, AGC_GAIN, TR_CFG_KP_SH, TR_CFG_KI_SH, TR_CFG_FREQ_LIM, TR_STEP, TED_RMS, LOCK_CFG_LOCK_THR, LOCK_CFG_UNLOCK_THR, EQ_CFG_MU_OWN_SH, EQ_CFG_MU_NBR_SH, EQ_CFG_LEAK_SH, EQ_CFG_DEC_DELAY, EQ_CFG_NBR_EN ]
def fields1 : List Fld := [ TGT_A_G0, TGT_A_G1, TGT_A_G2, TGT_A_G3, TGT_B_G4, TGT_B_TGT_PEND, DET_CFG_LLR_GAIN, DET_CFG_LLR_SH, DET_CFG_ZERO_LLR, DET_CFG_TRACEBACK, DET_CFG_LEG_ERAS, SYNC_CFG_SYNC_ERR, SYNC_CFG_SYNC_WIN, SYNC_CFG_GAP_WIN, SYNC_CFG_REACQ_WIN, SYNC_CFG_FLY_MAX, DEF_CFG_DROP_THR, DEF_CFG_RECOV_THR, DEF_CFG_QUAL_NS, DEF_CFG_REC_NS, DEF_CFG2_PRE_BITS, DEF_CFG2_POST_BITS, DEF_CFG2_BLANK_THR, ENV_ENV_REF, ENV_ENV_NOW, EQ_TAP_EVEN, EQ_TAP_ODD, CQI_CFG_WIN_EXP, CQI_CFG_LOW_LLR, CQI_CFG_CQI_FLOOR, CQI, CQI_MIN, MSE, SYNC_FOUND, SYNC_MISSED, FALSE_SYNC, SLIPS, DEF_CNT, DEF_BITS, ERAS_BYTES ]
def fields2 : List Fld := [ LOW_LLR_CNT, TLOCK_LOSS, FLOCK_LOSS, BLANK_SLOTS, ID_MISS ]
/-- Every field of the page, in table order. -/
def fields : List Fld := fields0 ++ fields1 ++ fields2
end CHN

namespace CHC
/-- Page index of CHN_LC to CHN_UC (R604). -/
def page (head : Nat) : Nat := 0x7A + 0x10 * head
/-! Fields of R285 (07_read_channel). -/
def CTRL_EN : Fld := reg 0x008 0 1 .rw (.val 0)
def CTRL_HDEF_EN : Fld := reg 0x008 1 1 .rw (.val 1)
def CTRL_WOB_EN : Fld := reg 0x008 2 1 .rw (.val 1)
def CTRL_CNT_CLR : Fld := reg 0x008 3 1 .wo (.val 0)
def STATUS_H : Fld := reg 0x00C 0 1 .ro (.val 0)
def STATUS_FLOCK_D0 : Fld := reg 0x00C 1 1 .ro (.val 0)
def STATUS_POS_VALID : Fld := reg 0x00C 2 1 .ro (.val 0)
def STATUS_WRITING : Fld := reg 0x00C 3 1 .ro (.val 0)
def STATUS_WOB_LOCK0 : Fld := reg 0x00C 4 1 .ro (.val 0)
def STATUS_WOB_LOCK1 : Fld := reg 0x00C 5 1 .ro (.val 0)
def STATUS_IN_GAP : Fld := reg 0x00C 6 1 .ro (.val 0)
def STATUS_LG : Fld := reg 0x00C 7 1 .ro (.val 0)
def STATUS_MODE : Fld := reg 0x00C 8 3 .ro (.val 0)
def INT_STATUS : Fld := reg 0x010 0 5 .w1c (.val 0)
def INT_ENABLE : Fld := reg 0x014 0 5 .rw (.val 0)
def STICKY : Fld := reg 0x01C 0 2 .w1c (.val 0)
def FAULT_CODE : Fld := reg 0x020 0 8 .ro (.val 0)
def MODE_CFG_MODE : Fld := reg 0x040 0 3 .rw (.val 0)
def HDEF_CFG_HEAD_N : Fld := reg 0x044 0 4 .rw (.val 1)
def HDEF_CFG_DEF_SRC : Fld := reg 0x044 4 10 .rw (.val 0x3FF)
def HDEF_CFG_HOLD_EXT : Fld := reg 0x044 16 8 .rw (.val 0xA)
def HDEF_CFG_LONG_US : Fld := reg 0x044 24 8 .rw (.val 0xC8)
def N_REV : Fld := reg 0x048 0 24 .ro (.val 0)
def N_VALID : Fld := reg 0x048 31 1 .ro (.val 0)
def POS : Fld := reg 0x04C 0 32 .ro (.val 0)
def GROUP : Fld := reg 0x050 0 15 .ro (.val 0)
def FSLOT : Fld := reg 0x050 16 13 .ro (.val 0)
def CSLOT : Fld := reg 0x054 0 20 .ro (.val 0)
def CFRAME : Fld := reg 0x054 20 9 .ro (.val 0)
def WOB_ERR0 : Fld := reg 0x058 0 16 .ro (.val 0)
def WOB_ERR1 : Fld := reg 0x058 16 16 .ro (.val 0)
def HDEF_CNT : Fld := reg 0x05C 0 32 .ro (.val 0)
def HDEF_TIME : Fld := reg 0x060 0 32 .ro (.val 0)
def HDEF_LAST : Fld := reg 0x064 0 16 .ro (.val 0)
def HDEF_BEAMS : Fld := reg 0x064 16 10 .ro (.val 0)
def PP_MEAS_A_L : Fld := reg 0x068 0 16 .ro (.val 0)
def PP_MEAS_A_G : Fld := reg 0x068 16 16 .ro (.val 0)
def PP_STATUS_VALID : Fld := reg 0x06C 0 1 .ro (.val 0)
/-! Bits of INT_STATUS (i), STICKY (k). -/
def iDEF_START : Nat := 0
def iDEF_END : Nat := 1
def iDEF_LONG : Nat := 2
def iPOS_LOST : Nat := 3
def iPOS_MISMATCH : Nat := 4
def kCNT_SAT : Nat := 0
def kMODE_REJ : Nat := 1
def fields0 : List Fld := [ CTRL_EN, CTRL_HDEF_EN, CTRL_WOB_EN, CTRL_CNT_CLR, STATUS_H, STATUS_FLOCK_D0, STATUS_POS_VALID, STATUS_WRITING, STATUS_WOB_LOCK0, STATUS_WOB_LOCK1, STATUS_IN_GAP, STATUS_LG, STATUS_MODE, INT_STATUS, INT_ENABLE, STICKY, FAULT_CODE, MODE_CFG_MODE, HDEF_CFG_HEAD_N, HDEF_CFG_DEF_SRC, HDEF_CFG_HOLD_EXT, HDEF_CFG_LONG_US, N_REV, N_VALID, POS, GROUP, FSLOT, CSLOT, CFRAME, WOB_ERR0, WOB_ERR1, HDEF_CNT, HDEF_TIME, HDEF_LAST, HDEF_BEAMS, PP_MEAS_A_L, PP_MEAS_A_G, PP_STATUS_VALID ]
/-- Every field of the page, in table order. -/
def fields : List Fld := fields0
end CHC

namespace EQS
/-- Page index of CE0 to CE4 (R604). -/
def page (head : Nat) : Nat := 0x5C + 4 * head
/-! Fields of R286 (07_read_channel). -/
def EQS_CFG_SAVE_EN : Fld := reg 0x100 0 1 .rw (.val 1)
def EQS_CFG_RESTORE_EN : Fld := reg 0x100 1 1 .rw (.val 1)
def EQS_CFG_DIV_EN : Fld := reg 0x100 2 1 .rw (.val 1)
def NBR_MAX : Fld := reg 0x104 0 14 .rw (.val 0x800)
def EQ_RESTORES : Fld := reg 0x108 0 16 .ro (.val 0)
def SETS_VALID : Fld := reg 0x108 16 8 .ro (.val 0)
def fields0 : List Fld := [ EQS_CFG_SAVE_EN, EQS_CFG_RESTORE_EN, EQS_CFG_DIV_EN, NBR_MAX, EQ_RESTORES, SETS_VALID ]
/-- Every field of the page, in table order. -/
def fields : List Fld := fields0
end EQS

namespace ACQ
/-- Page index of CE1 to CE5 (R604). -/
def page (head : Nat) : Nat := 0x5D + 4 * head
/-! Fields of R286 (07_read_channel). -/
def ACQ_CFG_ACQ_REVS : Fld := reg 0x100 0 8 .rw (.val 4)
def MAP_STATE_VALID : Fld := reg 0x104 0 1 .ro (.val 0)
def MAP_STATE_LAYER : Fld := reg 0x104 1 3 .ro (.val 0)
def ACQ_FAIL : Fld := reg 0x108 0 16 .ro (.val 0)
def fields0 : List Fld := [ ACQ_CFG_ACQ_REVS, MAP_STATE_VALID, MAP_STATE_LAYER, ACQ_FAIL ]
/-- Every field of the page, in table order. -/
def fields : List Fld := fields0
end ACQ

namespace DFF
/-- Page index of CE2 to CE6 (R604). -/
def page (head : Nat) : Nat := 0x5E + 4 * head
/-! Fields of R286 (07_read_channel). -/
def DEF_FIFO_STATUS_COUNT : Fld := reg 0x100 0 5 .ro (.val 0)
def DEF_FIFO_STATUS_OVF : Fld := reg 0x100 8 1 .w1c (.val 0)
def DEF_FIFO_STATUS_POP : Fld := reg 0x100 31 1 .wo (.val 0)
def START_CSLOT : Fld := reg 0x104 0 20 .ro (.val 0)
def START_FRAME : Fld := reg 0x104 20 9 .ro (.val 0)
def LENGTH : Fld := reg 0x108 0 32 .ro (.val 0)
def BEAMS : Fld := reg 0x10C 0 10 .ro (.val 0)
def ENV_MIN : Fld := reg 0x10C 16 16 .ro (.val 0)
def fields0 : List Fld := [ DEF_FIFO_STATUS_COUNT, DEF_FIFO_STATUS_OVF, DEF_FIFO_STATUS_POP, START_CSLOT, START_FRAME, LENGTH, BEAMS, ENV_MIN ]
/-- Every field of the page, in table order. -/
def fields : List Fld := fields0
end DFF

namespace CLE
/-- Page index of CE3 to CE7 (R604). -/
def page (head : Nat) : Nat := 0x5F + 4 * head
/-! Fields of R286 (07_read_channel). -/
def CAL_CMD_OP : Fld := reg 0x100 0 3 .rw (.val 0)
def CAL_CMD_LAYER : Fld := reg 0x100 4 3 .rw (.val 0)
def CAL_CMD_ZONE : Fld := reg 0x100 8 4 .rw (.val 0)
def CAL_CMD_GO : Fld := reg 0x100 31 1 .wo (.val 0)
def CAL_CFG_POINTS : Fld := reg 0x104 0 8 .rw (.val 7)
def CAL_CFG_REVS : Fld := reg 0x104 8 8 .rw (.val 2)
def CAL_CFG_STEP : Fld := reg 0x104 16 16 .rw (.val 0x200)
def CAL_STATUS_STATE : Fld := reg 0x108 0 2 .ro (.val 0)
def CAL_STATUS_EDGE : Fld := reg 0x108 2 1 .ro (.val 0)
def CAL_STATUS_CAUSE : Fld := reg 0x108 8 8 .ro (.val 0)
def CAL_RESULT : Fld := reg 0x10C 0 32 .ro (.val 0)
def CQI_BEST : Fld := reg 0x110 0 12 .ro (.val 0)
def CQI_START : Fld := reg 0x110 16 12 .ro (.val 0)
def GAIN_STEPS : Fld := reg 0x114 0 16 .ro (.val 0)
def fields0 : List Fld := [ CAL_CMD_OP, CAL_CMD_LAYER, CAL_CMD_ZONE, CAL_CMD_GO, CAL_CFG_POINTS, CAL_CFG_REVS, CAL_CFG_STEP, CAL_STATUS_STATE, CAL_STATUS_EDGE, CAL_STATUS_CAUSE, CAL_RESULT, CQI_BEST, CQI_START, GAIN_STEPS ]
/-- Every field of the page, in table order. -/
def fields : List Fld := fields0
end CLE

namespace DEC
/-- Page index of DEC (R604). -/
def page : Nat := 0x90
/-! Fields of R319 (08_scratch_survival_and_decoding). -/
def CTRL_EN : Fld := reg 0x008 0 1 .rw (.val 1)
def CTRL_CNT_CLR : Fld := reg 0x008 1 1 .wo (.val 0)
def CTRL_SQ_EN : Fld := reg 0x008 2 1 .rw (.val 1)
def STATUS_CORES_BUSY : Fld := reg 0x00C 0 5 .ro (.val 0)
def STATUS_SQ_ACTIVE : Fld := reg 0x00C 8 7 .ro (.val 0)
def STATUS_SQ_ZEPHYR : Fld := reg 0x00C 16 1 .ro (.val 0)
def INT_STATUS : Fld := reg 0x010 0 8 .w1c (.val 0)
def INT_ENABLE : Fld := reg 0x014 0 8 .rw (.val 0)
def STICKY : Fld := reg 0x01C 0 4 .w1c (.val 0)
def FAULT_CODE : Fld := reg 0x020 0 8 .ro (.val 0)
def LDPC_CFG_MAX_ITER : Fld := reg 0x040 0 6 .rw (.val 0x14)
def LDPC_CFG_NORM : Fld := reg 0x040 8 4 .rw (.val 0xC)
def LDPC_CFG_STALL_START : Fld := reg 0x040 12 6 .rw (.val 8)
def LDPC_CFG_STALL_ITER : Fld := reg 0x040 18 4 .rw (.val 5)
def SKIP_CFG_ERAS_SKIP : Fld := reg 0x044 0 12 .rw (.val 0x400)
def RS_CFG_MARGIN : Fld := reg 0x048 0 4 .rw (.val 4)
def RS_CFG_EMAX : Fld := reg 0x048 8 4 .rw (.val 8)
def RS_CFG_CW_SUSPECT : Fld := reg 0x048 16 8 .rw (.val 0x18)
def VFY_CFG_VFY_CW_FAIL : Fld := reg 0x04C 0 5 .rw (.val 1)
def VFY_CFG_VFY_RS : Fld := reg 0x04C 8 6 .rw (.val 0xC)
def MARG_CFG_MARG_2EF : Fld := reg 0x050 0 6 .rw (.val 0x18)
def MARG_CFG_MARG_CW : Fld := reg 0x050 8 5 .rw (.val 3)
def CW_CNT_LO : Fld := reg 0x054 0 32 .ro (.val 0)
def CW_CNT_HI : Fld := reg 0x058 0 32 .ro (.val 0)
def CW_FAIL_CNT : Fld := reg 0x05C 0 32 .ro (.val 0)
def ITER_SUM_LO : Fld := reg 0x060 0 32 .ro (.val 0)
def ITER_SUM_HI : Fld := reg 0x064 0 32 .ro (.val 0)
def ITER_MAX : Fld := reg 0x068 0 6 .rcl (.val 0)
def CW_SKIP_CNT : Fld := reg 0x06C 0 32 .ro (.val 0)
def RS_ERR_CNT : Fld := reg 0x070 0 32 .ro (.val 0)
def RS_ERAS_CNT : Fld := reg 0x074 0 32 .ro (.val 0)
def RS_COL_FAIL : Fld := reg 0x078 0 32 .ro (.val 0)
def FALSE_CONV_CNT : Fld := reg 0x07C 0 32 .ro (.val 0)
def CL_CNT_LO : Fld := reg 0x080 0 32 .ro (.val 0)
def CL_CNT_HI : Fld := reg 0x084 0 32 .ro (.val 0)
def CL_FAIL_CNT : Fld := reg 0x088 0 32 .ro (.val 0)
def CL_BLANK_CNT : Fld := reg 0x08C 0 32 .ro (.val 0)
def INCONS_CNT : Fld := reg 0x090 0 32 .ro (.val 0)
def LAST_PSA : Fld := reg 0x094 0 32 .ro (.val 0)
def LAST_CW : Fld := reg 0x098 0 30 .ro (.val 0)
def LAST_RS_MAX_2EF : Fld := reg 0x09C 0 6 .ro (.val 0)
def LAST_RS_ROWS_ERASED : Fld := reg 0x09C 8 6 .ro (.val 0)
def LAST_RS_PASS2 : Fld := reg 0x09C 16 1 .ro (.val 0)
def SQ_CFG_MAX_RUNG : Fld := reg 0x100 0 3 .rw (.val 6)
def SQ_CFG_CAL_EN : Fld := reg 0x100 3 1 .rw (.val 1)
def SQ_CFG_SPEED_EN : Fld := reg 0x100 4 1 .rw (.val 1)
def SQ_CFG_RELOC_EN : Fld := reg 0x100 5 1 .rw (.val 1)
def SQ_CFG_RELOC_MARG : Fld := reg 0x100 6 1 .rw (.val 0)
def SQ_CFG_REPLACE_RUNG : Fld := reg 0x100 8 3 .rw (.val 3)
def SQ_TIME_MS : Fld := reg 0x104 0 16 .rw (.val 0xBB8)
def SQ_PWR_PWR_STEP : Fld := reg 0x108 0 8 .rw (.val 0xA)
def SQ_PWR_CAL_MIN : Fld := reg 0x108 8 8 .rw (.val 5)
def SQ_PWR_CAL_HOLD_S : Fld := reg 0x108 16 16 .rw (.val 0x3C)
def SQ_TGT_A : Fld := reg 0x10C 0 32 .rw (.val 0x28402808)
def SQ_TGT_B : Fld := reg 0x110 0 8 .rw (.val 8)
def SQ_ENTERED : Fld := reg 0x114 0 32 .ro (.val 0)
def SQ_RECOVERED : Fld := reg 0x118 0 32 .ro (.val 0)
def SQ_UNRECOVERED : Fld := reg 0x11C 0 32 .ro (.val 0)
def RECOV_R1 : Fld := reg 0x120 0 16 .ro (.val 0)
def RECOV_R3 : Fld := reg 0x120 16 16 .ro (.val 0)
def RECOV_R4 : Fld := reg 0x124 0 16 .ro (.val 0)
def RECOV_R5 : Fld := reg 0x124 16 16 .ro (.val 0)
def RECOV_R6 : Fld := reg 0x128 0 16 .ro (.val 0)
def SQ_ABANDONED : Fld := reg 0x128 16 16 .ro (.val 0)
def BACKLOG : Fld := reg 0x12C 0 11 .ro (.val 0)
def SQ_TIME_MAX : Fld := reg 0x130 0 16 .rcl (.val 0)
def RELOC_QUEUED : Fld := reg 0x134 0 16 .ro (.val 0)
def RELOC_REFUSED : Fld := reg 0x134 16 16 .ro (.val 0)
def CAL_INSTALLED : Fld := reg 0x138 0 16 .ro (.val 0)
/-! Bits of INT_STATUS (i), STICKY (k). -/
def iCL_FAIL : Nat := 0
def iSQ_RECOV : Nat := 1
def iSQ_UNREC : Nat := 2
def iFALSE_CONV : Nat := 3
def iINCONSISTENT : Nat := 4
def iBACKLOG : Nat := 5
def iRELOC : Nat := 6
def iMARGINAL : Nat := 7
def kCNT_SAT : Nat := 0
def kCOMB_SAT : Nat := 1
def kPOST_SAT : Nat := 2
def kBACKLOG_FULL : Nat := 3
def fields0 : List Fld := [ CTRL_EN, CTRL_CNT_CLR, CTRL_SQ_EN, STATUS_CORES_BUSY, STATUS_SQ_ACTIVE, STATUS_SQ_ZEPHYR, INT_STATUS, INT_ENABLE, STICKY, FAULT_CODE, LDPC_CFG_MAX_ITER, LDPC_CFG_NORM, LDPC_CFG_STALL_START, LDPC_CFG_STALL_ITER, SKIP_CFG_ERAS_SKIP, RS_CFG_MARGIN, RS_CFG_EMAX, RS_CFG_CW_SUSPECT, VFY_CFG_VFY_CW_FAIL, VFY_CFG_VFY_RS, MARG_CFG_MARG_2EF, MARG_CFG_MARG_CW, CW_CNT_LO, CW_CNT_HI, CW_FAIL_CNT, ITER_SUM_LO, ITER_SUM_HI, ITER_MAX, CW_SKIP_CNT, RS_ERR_CNT, RS_ERAS_CNT, RS_COL_FAIL, FALSE_CONV_CNT, CL_CNT_LO, CL_CNT_HI, CL_FAIL_CNT, CL_BLANK_CNT, INCONS_CNT, LAST_PSA, LAST_CW ]
def fields1 : List Fld := [ LAST_RS_MAX_2EF, LAST_RS_ROWS_ERASED, LAST_RS_PASS2, SQ_CFG_MAX_RUNG, SQ_CFG_CAL_EN, SQ_CFG_SPEED_EN, SQ_CFG_RELOC_EN, SQ_CFG_RELOC_MARG, SQ_CFG_REPLACE_RUNG, SQ_TIME_MS, SQ_PWR_PWR_STEP, SQ_PWR_CAL_MIN, SQ_PWR_CAL_HOLD_S, SQ_TGT_A, SQ_TGT_B, SQ_ENTERED, SQ_RECOVERED, SQ_UNRECOVERED, RECOV_R1, RECOV_R3, RECOV_R4, RECOV_R5, RECOV_R6, SQ_ABANDONED, BACKLOG, SQ_TIME_MAX, RELOC_QUEUED, RELOC_REFUSED, CAL_INSTALLED ]
/-- Every field of the page, in table order. -/
def fields : List Fld := fields0 ++ fields1
end DEC

namespace CRC
/-- Page index of CRC (R604). -/
def page : Nat := 0x91
/-! Fields of R320 (08_scratch_survival_and_decoding). -/
def CTRL_CNT_CLR : Fld := reg 0x008 0 1 .wo (.val 0)
def STATUS_TEST_BUSY : Fld := reg 0x00C 0 1 .ro (.val 0)
def INT_STATUS : Fld := reg 0x010 0 4 .w1c (.val 0)
def INT_ENABLE : Fld := reg 0x014 0 4 .rw (.val 0)
def STICKY : Fld := reg 0x01C 0 1 .w1c (.val 0)
def FAULT_CODE : Fld := reg 0x020 0 8 .ro (.val 0)
def SECT_CHK_LO : Fld := reg 0x040 0 32 .ro (.val 0)
def SECT_CHK_HI : Fld := reg 0x044 0 32 .ro (.val 0)
def SECT_FAIL_CNT : Fld := reg 0x048 0 32 .ro (.val 0)
def TRL_FAIL_CNT : Fld := reg 0x04C 0 32 .ro (.val 0)
def LAST_FAIL_PSA : Fld := reg 0x050 0 32 .ro (.val 0)
def SECT_GEN_LO : Fld := reg 0x054 0 32 .ro (.val 0)
def SECT_GEN_HI : Fld := reg 0x058 0 32 .ro (.val 0)
def XFER_CNT : Fld := reg 0x05C 0 32 .ro (.val 0)
def XFER_MISMATCH_CNT : Fld := reg 0x060 0 32 .ro (.val 0)
def LAST_XFER_TAG : Fld := reg 0x064 0 12 .ro (.val 0)
def LAST_XFER_LO : Fld := reg 0x068 0 32 .ro (.val 0)
def LAST_XFER_HI : Fld := reg 0x06C 0 32 .ro (.val 0)
def TEST_CTRL_CLASS : Fld := reg 0x070 0 1 .rw (.val 0)
def TEST_CTRL_START : Fld := reg 0x070 1 1 .wo (.val 0)
def TEST_CTRL_FINISH : Fld := reg 0x070 2 1 .wo (.val 0)
def TEST_CTRL_LAST_BYTES : Fld := reg 0x070 4 2 .rw (.val 0)
def TEST_DATA : Fld := reg 0x074 0 32 .wo (.val 0)
def TEST_RESULT_LO : Fld := reg 0x078 0 32 .ro (.val 0)
def TEST_RESULT_HI : Fld := reg 0x07C 0 32 .ro (.val 0)
/-! Bits of INT_STATUS (i), STICKY (k). -/
def iSECT_FAIL : Nat := 0
def iTRL_FAIL : Nat := 1
def iXFER_MISMATCH : Nat := 2
def iTEST_DONE : Nat := 3
def kCNT_SAT : Nat := 0
def fields0 : List Fld := [ CTRL_CNT_CLR, STATUS_TEST_BUSY, INT_STATUS, INT_ENABLE, STICKY, FAULT_CODE, SECT_CHK_LO, SECT_CHK_HI, SECT_FAIL_CNT, TRL_FAIL_CNT, LAST_FAIL_PSA, SECT_GEN_LO, SECT_GEN_HI, XFER_CNT, XFER_MISMATCH_CNT, LAST_XFER_TAG, LAST_XFER_LO, LAST_XFER_HI, TEST_CTRL_CLASS, TEST_CTRL_START, TEST_CTRL_FINISH, TEST_CTRL_LAST_BYTES, TEST_DATA, TEST_RESULT_LO, TEST_RESULT_HI ]
/-- Every field of the page, in table order. -/
def fields : List Fld := fields0
end CRC

namespace XTS
/-- Page index of XTS (R604). -/
def page : Nat := 0x93
/-! Fields of R321 (08_scratch_survival_and_decoding). -/
def STATUS_KEY_LOADED : Fld := reg 0x00C 0 1 .ro (.val 0)
def STATUS_ENC_DISC : Fld := reg 0x00C 1 1 .ro (.val 0)
def STATUS_ENFORCED : Fld := reg 0x00C 2 1 .ro (.val 0)
def STATUS_PASS : Fld := reg 0x00C 3 1 .ro (.val 0)
def INT_STATUS : Fld := reg 0x010 0 2 .w1c (.val 0)
def INT_ENABLE : Fld := reg 0x014 0 2 .rw (.val 0)
def STICKY : Fld := reg 0x01C 0 1 .w1c (.val 0)
def FAULT_CODE : Fld := reg 0x020 0 8 .ro (.val 0)
def ENC_SECT_LO : Fld := reg 0x040 0 32 .ro (.val 0)
def ENC_SECT_HI : Fld := reg 0x044 0 32 .ro (.val 0)
def DEC_SECT_LO : Fld := reg 0x048 0 32 .ro (.val 0)
def DEC_SECT_HI : Fld := reg 0x04C 0 32 .ro (.val 0)
def KEY_MISS_CNT : Fld := reg 0x050 0 32 .ro (.val 0)
def FLAG_MISMATCH_CNT : Fld := reg 0x054 0 32 .ro (.val 0)
def KEY_LOADS : Fld := reg 0x058 0 16 .ro (.val 0)
/-! Bits of INT_STATUS (i), STICKY (k). -/
def iKEY_MISSING : Nat := 0
def iFLAG_MISMATCH : Nat := 1
def kCNT_SAT : Nat := 0
def fields0 : List Fld := [ STATUS_KEY_LOADED, STATUS_ENC_DISC, STATUS_ENFORCED, STATUS_PASS, INT_STATUS, INT_ENABLE, STICKY, FAULT_CODE, ENC_SECT_LO, ENC_SECT_HI, DEC_SECT_LO, DEC_SECT_HI, KEY_MISS_CNT, FLAG_MISMATCH_CNT, KEY_LOADS ]
/-- Every field of the page, in table order. -/
def fields : List Fld := fields0
end XTS

namespace ENC
/-- Page index of ENC (R604). -/
def page : Nat := 0x92
/-! Fields of R359 (09_writing). -/
def CTRL_EN : Fld := reg 0x008 0 1 .rw (.val 1)
def CTRL_CNT_CLR : Fld := reg 0x008 1 1 .wo (.val 0)
def CTRL_AUTO_VFY : Fld := reg 0x008 2 1 .rw (.val 0)
def CTRL_SUSPEND : Fld := reg 0x008 3 1 .rw (.val 0)
def STATUS_WRITING_L : Fld := reg 0x00C 0 1 .ro (.val 0)
def STATUS_WRITING_U : Fld := reg 0x00C 1 1 .ro (.val 0)
def STATUS_SUSP_L : Fld := reg 0x00C 2 1 .ro (.val 0)
def STATUS_SUSP_U : Fld := reg 0x00C 3 1 .ro (.val 0)
def STATUS_SEAL_0 : Fld := reg 0x00C 4 2 .ro (.val 0)
def STATUS_SEAL_1 : Fld := reg 0x00C 6 2 .ro (.val 0)
def STATUS_FRONTIER_VALID : Fld := reg 0x00C 8 1 .ro (.val 0)
def INT_STATUS : Fld := reg 0x010 0 7 .w1c (.val 0)
def INT_ENABLE : Fld := reg 0x014 0 7 .rw (.val 0)
def STICKY : Fld := reg 0x01C 0 1 .w1c (.val 0)
def FAULT_CODE : Fld := reg 0x020 0 8 .ro (.val 0)
def FRONTIER : Fld := reg 0x040 0 32 .ro (.val 0)
def CKPT_FRONTIER : Fld := reg 0x044 0 32 .ro (.val 0)
def CKPT_STEP : Fld := reg 0x048 0 32 .rw (.val 0x40000)
def WSEQ_LO : Fld := reg 0x04C 0 32 .ro (.val 0)
def WSEQ_HI : Fld := reg 0x050 0 32 .ro (.val 0)
def WSEQ_LIM_LO : Fld := reg 0x054 0 32 .ro (.val 0)
def WSEQ_LIM_HI : Fld := reg 0x058 0 32 .ro (.val 0)
def SUSP_CFG_STARVE_FR : Fld := reg 0x05C 0 8 .rw (.val 4)
def SUSP_CFG_RESUME_CL : Fld := reg 0x05C 8 8 .rw (.val 2)
def CL_ENC_LO : Fld := reg 0x060 0 32 .ro (.val 0)
def CL_ENC_HI : Fld := reg 0x064 0 32 .ro (.val 0)
def DCZ_BLOCKS : Fld := reg 0x068 0 16 .ro (.val 0)
def CKPT_CNT : Fld := reg 0x068 16 16 .ro (.val 0)
def ABANDON_CNT : Fld := reg 0x06C 0 16 .ro (.val 0)
def REPL_CNT : Fld := reg 0x06C 16 16 .ro (.val 0)
def LAST_ABANDON_PSA : Fld := reg 0x070 0 32 .ro (.val 0)
def WO_VIOL_CNT : Fld := reg 0x074 0 16 .ro (.val 0)
def VFY_FAIL_CNT : Fld := reg 0x074 16 16 .ro (.val 0)
/-! Bits of INT_STATUS (i), STICKY (k). -/
def iSUSPENDED : Nat := 0
def iABANDONED : Nat := 1
def iREPL_FAIL : Nat := 2
def iWO_VIOL : Nat := 3
def iSEAL_DONE : Nat := 4
def iCKPT : Nat := 5
def iVFY_FAIL : Nat := 6
def kCNT_SAT : Nat := 0
def fields0 : List Fld := [ CTRL_EN, CTRL_CNT_CLR, CTRL_AUTO_VFY, CTRL_SUSPEND, STATUS_WRITING_L, STATUS_WRITING_U, STATUS_SUSP_L, STATUS_SUSP_U, STATUS_SEAL_0, STATUS_SEAL_1, STATUS_FRONTIER_VALID, INT_STATUS, INT_ENABLE, STICKY, FAULT_CODE, FRONTIER, CKPT_FRONTIER, CKPT_STEP, WSEQ_LO, WSEQ_HI, WSEQ_LIM_LO, WSEQ_LIM_HI, SUSP_CFG_STARVE_FR, SUSP_CFG_RESUME_CL, CL_ENC_LO, CL_ENC_HI, DCZ_BLOCKS, CKPT_CNT, ABANDON_CNT, REPL_CNT, LAST_ABANDON_PSA, WO_VIOL_CNT, VFY_FAIL_CNT ]
/-- Every field of the page, in table order. -/
def fields : List Fld := fields0
end ENC

namespace LPW
/-- Page index of LPW_L to LPW_U (R604). -/
def page (head : Nat) : Nat := 0xA0 + head
/-! Fields of R360 (09_writing). -/
def CTRL_EN : Fld := reg 0x008 0 1 .rw (.val 0)
def CTRL_CNT_CLR : Fld := reg 0x008 1 1 .wo (.val 0)
def CTRL_MON_EN : Fld := reg 0x008 2 1 .rw (.val 1)
def CTRL_BOOST : Fld := reg 0x008 3 1 .rw (.val 0)
def STATUS_WRITING : Fld := reg 0x00C 0 1 .ro (.val 0)
def STATUS_SUSPENDED : Fld := reg 0x00C 1 1 .ro (.val 0)
def STATUS_KILL : Fld := reg 0x00C 2 1 .ro (.val 0)
def STATUS_TBL_PEND : Fld := reg 0x00C 3 1 .ro (.val 0)
def STATUS_BOOST_ACT : Fld := reg 0x00C 4 1 .ro (.val 0)
def STATUS_LAYER : Fld := reg 0x00C 8 3 .ro (.val 0)
def STATUS_ZONE : Fld := reg 0x00C 12 2 .ro (.val 0)
def INT_STATUS : Fld := reg 0x010 0 6 .w1c (.val 0)
def INT_ENABLE : Fld := reg 0x014 0 6 .rw (.val 0)
def STICKY : Fld := reg 0x01C 0 3 .w1c (.val 0)
def FAULT_CODE : Fld := reg 0x020 0 8 .ro (.val 0)
def READ_PWR : Fld := reg 0x040 0 16 .rw (.val 0x64)
def BOOST_PCT : Fld := reg 0x044 0 8 .rw (.val 0)
def MON_CFG_MON_OFS : Fld := reg 0x048 0 12 .rw (.val 0)
def MON_CFG_MON_DLY : Fld := reg 0x048 16 8 .rw (.val 0x28)
def MON_K : Fld := regs 0x04C 0 16 .rw (.val 0x640) 0x4 10
def RPC_CFG_RPC_STEP : Fld := reg 0x074 0 8 .rw (.val 0xA)
def RPC_CFG_RPC_DEAD : Fld := reg 0x074 8 8 .rw (.val 5)
def RPC_CFG_RPC_MAX : Fld := reg 0x074 16 8 .rw (.val 0xF)
def RPC_CORR : Fld := regs 0x078 0 16 .rw (.val 0x4000) 0x4 8
def PW_EVEN : Fld := regs 0x100 0 16 .rw (.val 0) 0x4 32
def PW_ODD : Fld := regs 0x100 16 16 .rw (.val 0) 0x4 32
def FRAMES_LO : Fld := reg 0x180 0 32 .ro (.val 0)
def FRAMES_HI : Fld := reg 0x184 0 32 .ro (.val 0)
def SUSP_CNT : Fld := reg 0x188 0 16 .ro (.val 0)
def RELINK_CNT : Fld := reg 0x188 16 16 .ro (.val 0)
def ABANDON_CNT : Fld := reg 0x18C 0 16 .ro (.val 0)
def PWR_MSG_CNT : Fld := reg 0x18C 16 16 .ro (.val 0)
def EDGE_MERGE_CNT : Fld := reg 0x190 0 32 .ro (.val 0)
def DS1 : Fld := regs2 0x800 0 8 .rw (.val 0) 0x40 32 0x4 4
def DS2 : Fld := regs2 0x800 8 8 .rw (.val 0) 0x40 32 0x4 4
def DS3 : Fld := regs2 0x800 16 8 .rw (.val 0) 0x40 32 0x4 4
def DS4 : Fld := regs2 0x800 24 8 .rw (.val 0) 0x40 32 0x4 4
def DE1 : Fld := regs2 0x810 0 8 .rw (.val 0) 0x40 32 0x4 4
def DE2 : Fld := regs2 0x810 8 8 .rw (.val 0) 0x40 32 0x4 4
def DE3 : Fld := regs2 0x810 16 8 .rw (.val 0) 0x40 32 0x4 4
def DE4 : Fld := regs2 0x810 24 8 .rw (.val 0) 0x40 32 0x4 4
def TTOP : Fld := regs 0x820 0 8 .rw (.val 0) 0x40 32
def TLP : Fld := regs 0x820 8 8 .rw (.val 0) 0x40 32
def TCOOL : Fld := regs 0x820 16 8 .rw (.val 0) 0x40 32
def RATIO_BIAS : Fld := regs 0x824 0 8 .rw (.val 0) 0x40 32
def RATIO_COOL : Fld := regs 0x824 8 8 .rw (.val 0) 0x40 32
def RATIO_MID : Fld := regs 0x824 16 8 .rw (.val 0) 0x40 32
def RATIO_LAST : Fld := regs 0x824 24 8 .rw (.val 0) 0x40 32
def ZSCALE : Fld := regs 0x828 0 16 .rw (.val 0) 0x40 32
/-! Bits of INT_STATUS (i), STICKY (k). -/
def iSUSPENDED : Nat := 0
def iRELINKED : Nat := 1
def iABANDONED : Nat := 2
def iUNDERRUN : Nat := 3
def iPWR_SET_FAIL : Nat := 4
def iRPC_LIMIT : Nat := 5
def kCNT_SAT : Nat := 0
def kEDGE_MERGE : Nat := 1
def kRPC_SAT : Nat := 2
def fields0 : List Fld := [ CTRL_EN, CTRL_CNT_CLR, CTRL_MON_EN, CTRL_BOOST, STATUS_WRITING, STATUS_SUSPENDED, STATUS_KILL, STATUS_TBL_PEND, STATUS_BOOST_ACT, STATUS_LAYER, STATUS_ZONE, INT_STATUS, INT_ENABLE, STICKY, FAULT_CODE, READ_PWR, BOOST_PCT, MON_CFG_MON_OFS, MON_CFG_MON_DLY, MON_K, RPC_CFG_RPC_STEP, RPC_CFG_RPC_DEAD, RPC_CFG_RPC_MAX, RPC_CORR, PW_EVEN, PW_ODD, FRAMES_LO, FRAMES_HI, SUSP_CNT, RELINK_CNT, ABANDON_CNT, PWR_MSG_CNT, EDGE_MERGE_CNT, DS1, DS2, DS3, DS4, DE1, DE2, DE3 ]
def fields1 : List Fld := [ DE4, TTOP, TLP, TCOOL, RATIO_BIAS, RATIO_COOL, RATIO_MID, RATIO_LAST, ZSCALE ]
/-- Every field of the page, in table order. -/
def fields : List Fld := fields0 ++ fields1
end LPW

namespace CAL
/-- Page index of CAL (R604). -/
def page : Nat := 0xA8
/-! Fields of R361 (09_writing). -/
def CTRL_EN : Fld := reg 0x008 0 1 .rw (.val 1)
def CTRL_CNT_CLR : Fld := reg 0x008 1 1 .wo (.val 0)
def STATUS_STATE_L : Fld := reg 0x00C 0 2 .ro (.val 0)
def STATUS_STATE_U : Fld := reg 0x00C 2 2 .ro (.val 0)
def INT_STATUS : Fld := reg 0x010 0 5 .w1c (.val 0)
def INT_ENABLE : Fld := reg 0x014 0 5 .rw (.val 0)
def STICKY : Fld := reg 0x01C 0 1 .w1c (.val 0)
def FAULT_CODE : Fld := reg 0x020 0 8 .ro (.val 0)
def OPC_CMD_HEAD : Fld := reg 0x040 0 1 .rw (.val 0)
def OPC_CMD_LAYER : Fld := reg 0x040 1 3 .rw (.val 0)
def OPC_CMD_INSTALL : Fld := reg 0x040 4 1 .rw (.val 0)
def OPC_CMD_GO : Fld := reg 0x040 31 1 .wo (.val 0)
def OPC_CFG_P_START : Fld := reg 0x044 0 16 .rw (.val 0x258)
def OPC_CFG_P_STEP : Fld := reg 0x044 16 8 .rw (.val 0x19)
def OPC_TRIG_OPC_DT : Fld := reg 0x048 0 8 .rw (.val 0xA)
def OPC_TRIG_OPC_HOURS : Fld := reg 0x048 8 8 .rw (.val 0x18)
def BETA_TGT : Fld := regs 0x04C 0 16 .rw (.val 0x51F) 0x4 8
def OPC_VALID_L : Fld := reg 0x06C 0 8 .ro (.val 0)
def OPC_VALID_U : Fld := reg 0x06C 8 8 .ro (.val 0)
def RES : Fld := regs 0x070 0 16 .ro (.val 0) 0x4 8
def RES_STEP : Fld := regs 0x070 16 4 .ro (.val 0) 0x4 8
def NEXT_RUN_EVEN : Fld := regs 0x090 0 9 .ro (.val 0) 0x4 8
def NEXT_RUN_ODD : Fld := regs 0x090 16 9 .ro (.val 0) 0x4 8
def OPC_CNT : Fld := reg 0x0B0 0 16 .ro (.val 0)
def OPC_FAIL_CNT : Fld := reg 0x0B0 16 16 .ro (.val 0)
def BETA_SEL : Fld := reg 0x0B4 0 3 .rw (.val 0)
def BETA_STEP : Fld := regs 0x0C0 0 16 .ro (.val 0) 0x4 16
/-! Bits of INT_STATUS (i), STICKY (k). -/
def iOPC_DONE_L : Nat := 0
def iOPC_DONE_U : Nat := 1
def iOPC_FAIL_L : Nat := 2
def iOPC_FAIL_U : Nat := 3
def iPCZ_LOW : Nat := 4
def kCNT_SAT : Nat := 0
def fields0 : List Fld := [ CTRL_EN, CTRL_CNT_CLR, STATUS_STATE_L, STATUS_STATE_U, INT_STATUS, INT_ENABLE, STICKY, FAULT_CODE, OPC_CMD_HEAD, OPC_CMD_LAYER, OPC_CMD_INSTALL, OPC_CMD_GO, OPC_CFG_P_START, OPC_CFG_P_STEP, OPC_TRIG_OPC_DT, OPC_TRIG_OPC_HOURS, BETA_TGT, OPC_VALID_L, OPC_VALID_U, RES, RES_STEP, NEXT_RUN_EVEN, NEXT_RUN_ODD, OPC_CNT, OPC_FAIL_CNT, BETA_SEL, BETA_STEP ]
/-- Every field of the page, in table order. -/
def fields : List Fld := fields0
end CAL

end Sys2Proof.Machine
end

