-- ==== Sys2Proof/Machine/FieldsC.lean ====
section
/-!
DEFINITION. Register fields of the pages of the buffers, compression, intake and ports (spec chapters 10 to 13).
One definition per field, as the tables of the rules named give it: offset, lowest bit, width, access type, reset value, and for an array its stride and count.
Names are the spec's register and field names.
-/
namespace Sys2Proof.Machine

namespace LCH
/-- Page index of LCH (R604). -/
def page : Nat := 0xC0
/-! Fields of R391 (10_buffers). -/
def CTRL_CNT_CLR : Fld := reg 0x008 0 1 .wo (.val 0)
def STATUS_MAINT_BUSY : Fld := reg 0x00C 0 1 .ro (.val 0)
def STATUS_EVICTING : Fld := reg 0x00C 1 1 .ro (.val 0)
def INT_STATUS : Fld := reg 0x010 0 5 .w1c (.val 0)
def INT_ENABLE : Fld := reg 0x014 0 5 .rw (.val 0)
def STICKY : Fld := reg 0x01C 0 3 .w1c (.val 0)
def FAULT_CODE : Fld := reg 0x020 0 8 .ro (.val 0)
def WAY_LOCK : Fld := reg 0x040 0 16 .rw (.val 0)
def CLASS_CFG_WAYS : Fld := regs 0x044 0 16 .rw (.val 0xFFFF) 0x4 7
def MAINT_ADDR_LO : Fld := reg 0x060 0 32 .rw (.val 0)
def MAINT_ADDR_HI : Fld := reg 0x064 0 2 .rw (.val 0)
def MAINT_LINES : Fld := reg 0x068 0 27 .rw (.val 0)
def MAINT_CMD_OP : Fld := reg 0x06C 0 3 .rw (.val 0)
def MAINT_CMD_ALL : Fld := reg 0x06C 4 1 .rw (.val 0)
def MAINT_CMD_FORCE : Fld := reg 0x06C 5 1 .rw (.val 0)
def MAINT_CMD_GO : Fld := reg 0x06C 31 1 .wo (.val 0)
def MAINT_STATUS_LINES_DONE : Fld := reg 0x070 0 27 .ro (.val 0)
def MAINT_STATUS_BUSY : Fld := reg 0x070 31 1 .ro (.val 0)
def LOCK_SKIPPED : Fld := reg 0x074 0 32 .ro (.val 0)
def PAR_ADDR_LO : Fld := reg 0x078 0 32 .ro (.val 0)
def PAR_ADDR_HI : Fld := reg 0x07C 0 2 .ro (.val 0)
def HIT_CNT : Fld := regs 0x080 0 32 .ro (.val 0) 0x8 7
def MISS_CNT : Fld := regs 0x084 0 32 .ro (.val 0) 0x8 7
def EVICT_CNT : Fld := reg 0x0B8 0 32 .ro (.val 0)
def EVICT_WAIT_CNT : Fld := reg 0x0BC 0 32 .ro (.val 0)
def ZALLOC_CNT : Fld := reg 0x0C0 0 32 .ro (.val 0)
def PAR_REFETCH_CNT : Fld := reg 0x0C4 0 16 .ro (.val 0)
def PAR_FATAL_CNT : Fld := reg 0x0C4 16 16 .ro (.val 0)
def POISON_CNT : Fld := reg 0x0C8 0 32 .ro (.val 0)
def NOALLOC_CNT : Fld := reg 0x0CC 0 32 .ro (.val 0)
def DISCARD_CNT : Fld := reg 0x0D0 0 32 .ro (.val 0)
def DIRTY_LINES : Fld := reg 0x0D4 0 17 .ro (.val 0)
/-! Bits of INT_STATUS (i), STICKY (k). -/
def iMAINT_DONE : Nat := 0
def iPAR_REFETCH : Nat := 1
def iPAR_FATAL : Nat := 2
def iLOCK_SKIP : Nat := 3
def iPOISON_HIT : Nat := 4
def kCNT_SAT : Nat := 0
def kMAINT_REJ : Nat := 1
def kNOALLOC : Nat := 2
def fields0 : List Fld := [ CTRL_CNT_CLR, STATUS_MAINT_BUSY, STATUS_EVICTING, INT_STATUS, INT_ENABLE, STICKY, FAULT_CODE, WAY_LOCK, CLASS_CFG_WAYS, MAINT_ADDR_LO, MAINT_ADDR_HI, MAINT_LINES, MAINT_CMD_OP, MAINT_CMD_ALL, MAINT_CMD_FORCE, MAINT_CMD_GO, MAINT_STATUS_LINES_DONE, MAINT_STATUS_BUSY, LOCK_SKIPPED, PAR_ADDR_LO, PAR_ADDR_HI, HIT_CNT, MISS_CNT, EVICT_CNT, EVICT_WAIT_CNT, ZALLOC_CNT, PAR_REFETCH_CNT, PAR_FATAL_CNT, POISON_CNT, NOALLOC_CNT, DISCARD_CNT, DIRTY_LINES ]
/-- Every field of the page, in table order. -/
def fields : List Fld := fields0
end LCH

namespace SBF
/-- Page index of SBF (R604). -/
def page : Nat := 0xC1
/-! Fields of R392 (10_buffers). -/
def CTRL_CNT_CLR : Fld := reg 0x008 0 1 .wo (.val 0)
def CTRL_SCRUB_EN : Fld := reg 0x008 1 1 .rw (.val 1)
def CTRL_TEST_EN : Fld := reg 0x008 2 1 .rw (.val 0)
def STATUS_BUFS_FREE : Fld := reg 0x00C 0 10 .ro (.val 0x200)
def STATUS_TEST_ACT : Fld := reg 0x00C 16 1 .ro (.val 0)
def INT_STATUS : Fld := reg 0x010 0 3 .w1c (.val 0)
def INT_ENABLE : Fld := reg 0x014 0 3 .rw (.val 0)
def STICKY : Fld := reg 0x01C 0 2 .w1c (.val 0)
def FAULT_CODE : Fld := reg 0x020 0 8 .ro (.val 0)
def SCRUB_CFG_INTERVAL : Fld := reg 0x040 0 16 .rw (.val 0x400)
def SCRUB_POS : Fld := reg 0x044 0 20 .ro (.val 0)
def SCRUB_PASSES : Fld := reg 0x048 0 32 .ro (.val 0)
def CORR_CNT : Fld := reg 0x04C 0 32 .ro (.val 0)
def UNCORR_CNT : Fld := reg 0x050 0 32 .ro (.val 0)
def LAST_ERR_ADDR : Fld := reg 0x054 0 25 .ro (.val 0)
def BUFS_MIN : Fld := reg 0x058 0 10 .rcl (.val 0x200)
def TEST_ADDR : Fld := reg 0x05C 0 23 .rw (.val 0)
def TEST_DATA : Fld := reg 0x060 0 32 .rw (.val 0)
def TEST_CHECK : Fld := reg 0x064 0 20 .rw (.val 0)
def TEST_CTRL_OP : Fld := reg 0x068 0 3 .rw (.val 0)
def TEST_CTRL_GO : Fld := reg 0x068 31 1 .wo (.val 0)
/-! Bits of INT_STATUS (i), STICKY (k). -/
def iCORR : Nat := 0
def iUNCORR : Nat := 1
def iTEST_DONE : Nat := 2
def kCNT_SAT : Nat := 0
def kTEST_REJ : Nat := 1
def fields0 : List Fld := [ CTRL_CNT_CLR, CTRL_SCRUB_EN, CTRL_TEST_EN, STATUS_BUFS_FREE, STATUS_TEST_ACT, INT_STATUS, INT_ENABLE, STICKY, FAULT_CODE, SCRUB_CFG_INTERVAL, SCRUB_POS, SCRUB_PASSES, CORR_CNT, UNCORR_CNT, LAST_ERR_ADDR, BUFS_MIN, TEST_ADDR, TEST_DATA, TEST_CHECK, TEST_CTRL_OP, TEST_CTRL_GO ]
/-- Every field of the page, in table order. -/
def fields : List Fld := fields0
end SBF

namespace DRM
/-- Page index of DRM (R604). -/
def page : Nat := 0xC2
/-! Fields of R393 (10_buffers). -/
def CTRL_EN : Fld := reg 0x008 0 1 .rw (.val 0)
def CTRL_CNT_CLR : Fld := reg 0x008 1 1 .wo (.val 0)
def CTRL_CORR_WB : Fld := reg 0x008 2 1 .rw (.val 1)
def STATUS_TRAINED : Fld := reg 0x00C 0 1 .ro (.val 0)
def STATUS_CH0_OK : Fld := reg 0x00C 1 1 .ro (.val 0)
def STATUS_CH1_OK : Fld := reg 0x00C 2 1 .ro (.val 0)
def STATUS_SLOW : Fld := reg 0x00C 3 1 .ro (.val 0)
def STATUS_CAP : Fld := reg 0x00C 4 3 .ro (.val 0)
def INT_STATUS : Fld := reg 0x010 0 5 .w1c (.val 0)
def INT_ENABLE : Fld := reg 0x014 0 5 .rw (.val 0)
def STICKY : Fld := reg 0x01C 0 1 .w1c (.val 0)
def FAULT_CODE : Fld := reg 0x020 0 8 .ro (.val 0)
def USABLE_MB : Fld := reg 0x040 0 16 .ro (.val 0)
def CORR_CNT : Fld := reg 0x044 0 32 .ro (.val 0)
def UNCORR_CNT : Fld := reg 0x048 0 32 .ro (.val 0)
def ADDR_ERR_CNT : Fld := reg 0x04C 0 32 .ro (.val 0)
def POISON_WR_CNT : Fld := reg 0x050 0 32 .ro (.val 0)
def POISON_RD_CNT : Fld := reg 0x054 0 32 .ro (.val 0)
def ERR_ADDR_LO : Fld := reg 0x058 0 32 .ro (.val 0)
def ERR_ADDR_HI : Fld := reg 0x05C 0 2 .ro (.val 0)
def ERR_SYND : Fld := reg 0x060 0 10 .ro (.val 0)
def ERR_FLAG : Fld := reg 0x060 10 6 .ro (.val 0)
def RD_LINES_LO : Fld := reg 0x064 0 32 .ro (.val 0)
def RD_LINES_HI : Fld := reg 0x068 0 32 .ro (.val 0)
def WR_LINES_LO : Fld := reg 0x06C 0 32 .ro (.val 0)
def WR_LINES_HI : Fld := reg 0x070 0 32 .ro (.val 0)
def RMW_CNT : Fld := reg 0x074 0 32 .ro (.val 0)
/-! Bits of INT_STATUS (i), STICKY (k). -/
def iCORR : Nat := 0
def iUNCORR : Nat := 1
def iADDR_ERR : Nat := 2
def iPOISON_RD : Nat := 3
def iTRAIN_FAIL : Nat := 4
def kCNT_SAT : Nat := 0
def fields0 : List Fld := [ CTRL_EN, CTRL_CNT_CLR, CTRL_CORR_WB, STATUS_TRAINED, STATUS_CH0_OK, STATUS_CH1_OK, STATUS_SLOW, STATUS_CAP, INT_STATUS, INT_ENABLE, STICKY, FAULT_CODE, USABLE_MB, CORR_CNT, UNCORR_CNT, ADDR_ERR_CNT, POISON_WR_CNT, POISON_RD_CNT, ERR_ADDR_LO, ERR_ADDR_HI, ERR_SYND, ERR_FLAG, RD_LINES_LO, RD_LINES_HI, WR_LINES_LO, WR_LINES_HI, RMW_CNT ]
/-- Every field of the page, in table order. -/
def fields : List Fld := fields0
end DRM

namespace CMP
/-- Page index of CMP0 to CMP3 (R604). -/
def page (lane : Nat) : Nat := 0xB0 + lane
/-! Fields of R413 (11_compression). -/
def CTRL_EN : Fld := reg 0x008 0 1 .rw (.val 1)
def CTRL_CNT_CLR : Fld := reg 0x008 1 1 .wo (.val 0)
def CTRL_GO : Fld := reg 0x008 2 1 .wo (.val 0)
def CTRL_ABORT : Fld := reg 0x008 3 1 .wo (.val 0)
def CTRL_RESUME : Fld := reg 0x008 4 1 .wo (.val 0)
def CTRL_FLUSH : Fld := reg 0x008 5 1 .wo (.val 0)
def CTRL_FLUSH_REC : Fld := reg 0x008 6 1 .wo (.val 0)
def STATUS_STATE : Fld := reg 0x00C 0 3 .ro (.val 0)
def STATUS_FLUSH_PEND : Fld := reg 0x00C 3 1 .ro (.val 0)
def STATUS_VFY_PEND : Fld := reg 0x00C 4 1 .ro (.val 0)
def INT_STATUS : Fld := reg 0x010 0 7 .w1c (.val 0)
def INT_ENABLE : Fld := reg 0x014 0 7 .rw (.val 0)
def STICKY : Fld := reg 0x01C 0 4 .w1c (.val 0)
def FAULT_CODE : Fld := reg 0x020 0 8 .ro (.val 0)
def JOB_CFG_OP : Fld := reg 0x040 0 1 .rw (.val 0)
def JOB_CFG_LEVEL : Fld := reg 0x040 1 4 .rw (.val 6)
def JOB_CFG_ALIGN : Fld := reg 0x040 5 1 .rw (.val 0)
def JOB_CFG_VERIFY : Fld := reg 0x040 6 1 .rw (.val 1)
def JOB_CFG_RECORD_EXP : Fld := reg 0x040 8 4 .rw (.val 4)
def JOB_CFG_BLOCK_EXP : Fld := reg 0x040 12 3 .rw (.val 4)
def SRC_ADDR_LO : Fld := reg 0x044 0 32 .rw (.val 0)
def SRC_ADDR_HI : Fld := reg 0x048 0 2 .rw (.val 0)
def SRC_LEN : Fld := reg 0x04C 0 32 .rw (.val 0)
def DST_ADDR_LO : Fld := reg 0x050 0 32 .rw (.val 0)
def DST_ADDR_HI : Fld := reg 0x054 0 2 .rw (.val 0)
def DST_LEN : Fld := reg 0x058 0 32 .rw (.val 0)
def CHAIN_ADDR_LO : Fld := reg 0x05C 0 32 .rw (.val 0)
def CHAIN_ADDR_HI : Fld := reg 0x060 0 2 .rw (.val 0)
def CHAIN_LEN : Fld := reg 0x064 0 32 .rw (.val 0)
def IN_CONSUMED : Fld := reg 0x068 0 32 .ro (.val 0)
def OUT_PRODUCED : Fld := reg 0x06C 0 32 .ro (.val 0)
def DST_USED : Fld := reg 0x070 0 32 .ro (.val 0)
def CHAIN_USED : Fld := reg 0x074 0 32 .ro (.val 0)
def RECORDS : Fld := reg 0x078 0 32 .ro (.val 0)
def FLUSH_IN : Fld := reg 0x07C 0 32 .ro (.val 0)
def FLUSH_OUT : Fld := reg 0x080 0 32 .ro (.val 0)
def ERR_OFFSET : Fld := reg 0x084 0 32 .ro (.val 0)
def ERR_RECORD : Fld := reg 0x088 0 32 .ro (.val 0)
def JOB_TAG : Fld := reg 0x08C 0 16 .rw (.val 0)
def BYTES_IN_LO : Fld := reg 0x090 0 32 .ro (.val 0)
def BYTES_IN_HI : Fld := reg 0x094 0 32 .ro (.val 0)
def BYTES_OUT_LO : Fld := reg 0x098 0 32 .ro (.val 0)
def BYTES_OUT_HI : Fld := reg 0x09C 0 32 .ro (.val 0)
def JOBS : Fld := reg 0x0A0 0 32 .ro (.val 0)
def ERRORS : Fld := reg 0x0A4 0 16 .ro (.val 0)
def VFY_FAILS : Fld := reg 0x0A4 16 16 .ro (.val 0)
def STORED_RECORDS : Fld := reg 0x0A8 0 32 .ro (.val 0)
def RATE_LAST : Fld := reg 0x0AC 0 16 .ro (.val 0)
/-! Bits of INT_STATUS (i), STICKY (k). -/
def iDONE : Nat := 0
def iSTOPPED : Nat := 1
def iERROR : Nat := 2
def iFLUSHED : Nat := 3
def iCHAINED : Nat := 4
def iVFY_FAIL : Nat := 5
def iABORTED : Nat := 6
def kCNT_SAT : Nat := 0
def kGO_REJ : Nat := 1
def kFLUSH_REJ : Nat := 2
def kRESUME_REJ : Nat := 3
def fields0 : List Fld := [ CTRL_EN, CTRL_CNT_CLR, CTRL_GO, CTRL_ABORT, CTRL_RESUME, CTRL_FLUSH, CTRL_FLUSH_REC, STATUS_STATE, STATUS_FLUSH_PEND, STATUS_VFY_PEND, INT_STATUS, INT_ENABLE, STICKY, FAULT_CODE, JOB_CFG_OP, JOB_CFG_LEVEL, JOB_CFG_ALIGN, JOB_CFG_VERIFY, JOB_CFG_RECORD_EXP, JOB_CFG_BLOCK_EXP, SRC_ADDR_LO, SRC_ADDR_HI, SRC_LEN, DST_ADDR_LO, DST_ADDR_HI, DST_LEN, CHAIN_ADDR_LO, CHAIN_ADDR_HI, CHAIN_LEN, IN_CONSUMED, OUT_PRODUCED, DST_USED, CHAIN_USED, RECORDS, FLUSH_IN, FLUSH_OUT, ERR_OFFSET, ERR_RECORD, JOB_TAG, BYTES_IN_LO ]
def fields1 : List Fld := [ BYTES_IN_HI, BYTES_OUT_LO, BYTES_OUT_HI, JOBS, ERRORS, VFY_FAILS, STORED_RECORDS, RATE_LAST ]
/-- Every field of the page, in table order. -/
def fields : List Fld := fields0 ++ fields1
end CMP

namespace TRF
/-- Page index of TRF (R604). -/
def page : Nat := 0x10
/-! Fields of R450 (12_command_intake). -/
def CTRL_EN : Fld := reg 0x008 0 1 .rw (.val 0)
def CTRL_CNT_CLR : Fld := reg 0x008 1 1 .wo (.val 0)
def STATUS_STATE : Fld := reg 0x00C 0 2 .ro (.val 0)
def STATUS_OUTSTANDING : Fld := reg 0x00C 16 13 .ro (.val 0)
def INT_STATUS : Fld := reg 0x010 0 6 .w1c (.val 0)
def INT_ENABLE : Fld := reg 0x014 0 6 .rw (.val 0)
def STICKY : Fld := reg 0x01C 0 2 .w1c (.val 0)
def FAULT_CODE : Fld := reg 0x020 0 8 .ro (.val 0)
def CLAIM_HOLDER : Fld := reg 0x040 0 8 .raq (.val 0)
def CLAIM_HELD_OTHER : Fld := reg 0x040 31 1 .raq (.val 0)
def CLAIM_REL_REL : Fld := reg 0x044 0 1 .wo (.val 0)
def CMD_OPCODE : Fld := reg 0x048 0 8 .rw (.val 0)
def CMD_FLAGS : Fld := reg 0x048 8 8 .rw (.val 0)
def CMD_CQ : Fld := reg 0x048 16 2 .rw (.val 0)
def LBA : Fld := reg 0x04C 0 32 .rw (.val 0)
def COUNT : Fld := reg 0x050 0 24 .rw (.val 0)
def HOST_ADDR_LO : Fld := reg 0x054 0 32 .rw (.val 0)
def HOST_ADDR_HI : Fld := reg 0x058 0 32 .rw (.val 0)
def STREAM : Fld := reg 0x05C 0 16 .rw (.val 0)
def ARG0 : Fld := reg 0x060 0 32 .rw (.val 0)
def ARG1 : Fld := reg 0x064 0 32 .rw (.val 0)
def XCHK_LO : Fld := reg 0x068 0 32 .rw (.val 0)
def XCHK_HI : Fld := reg 0x06C 0 32 .rw (.val 0)
def SUBMIT_TAG : Fld := reg 0x070 0 12 .wo (.val 0)
def SUBMIT_GO : Fld := reg 0x070 31 1 .wo (.val 0)
def RESULT_CODE : Fld := reg 0x074 0 4 .ro (.val 0)
def RESULT_TAG : Fld := reg 0x074 4 12 .ro (.val 0)
def RESULT_REQ : Fld := reg 0x074 16 8 .ro (.val 0)
def SEQ : Fld := reg 0x078 0 32 .ro (.val 0)
def FREEZE_CFG_MASK : Fld := reg 0x07C 0 9 .rw (.val 0x100)
def FREEZE_CFG_HALT : Fld := reg 0x07C 16 1 .rw (.val 0)
def FROZEN_REQ : Fld := reg 0x080 0 28 .ro (.val 0)
def RESTART_ACTION : Fld := reg 0x084 0 2 .wo (.val 0)
def RESTART_REQ : Fld := reg 0x084 8 8 .wo (.val 0)
def TAGS_LOW : Fld := reg 0x088 0 13 .rw (.val 0xFC0)
def FW_TAGS_FIRST : Fld := reg 0x08C 0 12 .rw (.val 0)
def FW_TAGS_COUNT : Fld := reg 0x08C 16 13 .rw (.val 0)
def CLAIM_TO_US : Fld := reg 0x090 0 16 .rw (.val 0x40)
def TAG_QUERY : Fld := reg 0x094 0 12 .rw (.val 0)
def TAG_STATE_IN_USE : Fld := reg 0x098 0 1 .ro (.val 0)
def TAG_STATE_PHASE : Fld := reg 0x098 1 2 .ro (.val 0)
def TAG_STATE_OPCODE : Fld := reg 0x098 8 8 .ro (.val 0)
def TAG_STATE_REQ : Fld := reg 0x098 16 8 .ro (.val 0)
def TAG_SEQ : Fld := reg 0x09C 0 32 .ro (.val 0)
def ACCEPT_CNT : Fld := reg 0x0A0 0 32 .ro (.val 0)
def REFUSE_CNT : Fld := reg 0x0A4 0 32 .ro (.val 0)
def OUTSTANDING_MAX : Fld := reg 0x0A8 0 13 .rcl (.val 0)
def PWR_DEFER_MS : Fld := reg 0x0AC 0 16 .rw (.val 0x2710)
def YIELD_MS : Fld := reg 0x0B0 0 16 .rw (.val 0x64)
/-! Bits of INT_STATUS (i), STICKY (k). -/
def iFROZEN : Nat := 0
def iTAGS_FULL : Nat := 1
def iTAGS_LOW : Nat := 2
def iREFUSED : Nat := 3
def iCLAIM_TIMEOUT : Nat := 4
def iRESTARTED : Nat := 5
def kCNT_SAT : Nat := 0
def kNOT_OWNER : Nat := 1
def fields0 : List Fld := [ CTRL_EN, CTRL_CNT_CLR, STATUS_STATE, STATUS_OUTSTANDING, INT_STATUS, INT_ENABLE, STICKY, FAULT_CODE, CLAIM_HOLDER, CLAIM_HELD_OTHER, CLAIM_REL_REL, CMD_OPCODE, CMD_FLAGS, CMD_CQ, LBA, COUNT, HOST_ADDR_LO, HOST_ADDR_HI, STREAM, ARG0, ARG1, XCHK_LO, XCHK_HI, SUBMIT_TAG, SUBMIT_GO, RESULT_CODE, RESULT_TAG, RESULT_REQ, SEQ, FREEZE_CFG_MASK, FREEZE_CFG_HALT, FROZEN_REQ, RESTART_ACTION, RESTART_REQ, TAGS_LOW, FW_TAGS_FIRST, FW_TAGS_COUNT, CLAIM_TO_US, TAG_QUERY, TAG_STATE_IN_USE ]
def fields1 : List Fld := [ TAG_STATE_PHASE, TAG_STATE_OPCODE, TAG_STATE_REQ, TAG_SEQ, ACCEPT_CNT, REFUSE_CNT, OUTSTANDING_MAX, PWR_DEFER_MS, YIELD_MS ]
/-- Every field of the page, in table order. -/
def fields : List Fld := fields0 ++ fields1
end TRF

namespace CPL
/-- Page index of CPL (R604). -/
def page : Nat := 0x11
/-! Fields of R451 (12_command_intake). -/
def CTRL_CNT_CLR : Fld := reg 0x008 0 1 .wo (.val 0)
def STATUS_FULL : Fld := reg 0x00C 0 4 .ro (.val 0)
def INT_STATUS : Fld := reg 0x010 0 12 .w1c (.val 0)
def INT_ENABLE : Fld := reg 0x014 0 12 .rw (.val 0)
def STICKY : Fld := reg 0x01C 0 1 .w1c (.val 0)
def FAULT_CODE : Fld := reg 0x020 0 8 .ro (.val 0)
def BASE_LO : Fld := regs 0x040 0 32 .rw (.val 0) 0x20 4
def BASE_HI : Fld := regs 0x044 0 32 .rw (.val 0) 0x20 4
def CFG_EN : Fld := regs 0x048 0 1 .rw (.val 0) 0x20 4
def CFG_LOCAL : Fld := regs 0x048 1 1 .rw (.val 0) 0x20 4
def CFG_SIZE_EXP : Fld := regs 0x048 8 5 .rw (.val 4) 0x20 4
def CFG_VECTOR : Fld := regs 0x048 16 5 .rw (.val 0) 0x20 4
def CFG_COAL_CNT : Fld := regs 0x048 24 8 .rw (.val 1) 0x20 4
def COAL_US : Fld := regs 0x04C 0 16 .rw (.val 0) 0x20 4
def TAIL : Fld := regs 0x050 0 16 .ro (.val 0) 0x20 4
def PHASE : Fld := regs 0x050 16 1 .ro (.val 1) 0x20 4
def HEAD : Fld := regs 0x054 0 16 .rw (.val 0) 0x20 4
def POSTED_CNT : Fld := regs 0x058 0 32 .ro (.val 0) 0x20 4
def FULL_CNT : Fld := regs 0x05C 0 32 .ro (.val 0) 0x20 4
/-! Bits of INT_STATUS (i), STICKY (k). -/
def iPOSTED : Nat := 0
def iFULL : Nat := 4
def iWR_FAIL : Nat := 8
def kCNT_SAT : Nat := 0
def fields0 : List Fld := [ CTRL_CNT_CLR, STATUS_FULL, INT_STATUS, INT_ENABLE, STICKY, FAULT_CODE, BASE_LO, BASE_HI, CFG_EN, CFG_LOCAL, CFG_SIZE_EXP, CFG_VECTOR, CFG_COAL_CNT, COAL_US, TAIL, PHASE, HEAD, POSTED_CNT, FULL_CNT ]
/-- Every field of the page, in table order. -/
def fields : List Fld := fields0
end CPL

namespace ZRG
/-- Page index of ZRG (R604). -/
def page : Nat := 0x12
/-! Fields of R452 (12_command_intake). -/
def CTRL_EN : Fld := reg 0x008 0 1 .rw (.val 1)
def CTRL_CNT_CLR : Fld := reg 0x008 1 1 .wo (.val 0)
def STATUS_POLICY_ACT : Fld := reg 0x00C 0 2 .ro (.val 0)
def STATUS_HOLDING_L : Fld := reg 0x00C 2 1 .ro (.val 0)
def STATUS_HOLDING_U : Fld := reg 0x00C 3 1 .ro (.val 0)
def INT_STATUS : Fld := reg 0x010 0 2 .w1c (.val 0)
def INT_ENABLE : Fld := reg 0x014 0 2 .rw (.val 0)
def STICKY : Fld := reg 0x01C 0 1 .w1c (.val 0)
def FAULT_CODE : Fld := reg 0x020 0 8 .ro (.val 0)
def POLICY : Fld := reg 0x040 0 2 .rw (.prof 0 1)
def AGE_MS : Fld := reg 0x044 0 16 .rw (.val 0x1F4)
def BUF_FLOOR : Fld := reg 0x048 0 10 .rw (.val 0x10)
def RING_L : Fld := reg 0x04C 0 18 .ro (.val 0)
def RING_U : Fld := reg 0x050 0 18 .ro (.val 0)
def NONEMPTY : Fld := reg 0x054 0 18 .ro (.val 0)
def BITMAP_IDX : Fld := reg 0x058 0 13 .rw (.val 0)
def BITMAP_WORD : Fld := reg 0x05C 0 32 .ro (.val 0)
def RING_QUERY : Fld := reg 0x060 0 18 .rw (.val 0)
def RING_DEPTH : Fld := reg 0x064 0 24 .ro (.val 0)
def REQ_QUEUED : Fld := reg 0x068 0 21 .ro (.val 0)
def REQ_MAX : Fld := reg 0x06C 0 21 .rcl (.val 0)
def HOLD_REVS : Fld := reg 0x070 0 32 .ro (.val 0)
def SWEEPS_L : Fld := reg 0x074 0 16 .ro (.val 0)
def SWEEPS_U : Fld := reg 0x074 16 16 .ro (.val 0)
def AGE_FORCES : Fld := reg 0x078 0 32 .ro (.val 0)
/-! Bits of INT_STATUS (i), STICKY (k). -/
def iPOOL_EMPTY : Nat := 0
def iAGE_FORCED : Nat := 1
def kCNT_SAT : Nat := 0
def fields0 : List Fld := [ CTRL_EN, CTRL_CNT_CLR, STATUS_POLICY_ACT, STATUS_HOLDING_L, STATUS_HOLDING_U, INT_STATUS, INT_ENABLE, STICKY, FAULT_CODE, POLICY, AGE_MS, BUF_FLOOR, RING_L, RING_U, NONEMPTY, BITMAP_IDX, BITMAP_WORD, RING_QUERY, RING_DEPTH, REQ_QUEUED, REQ_MAX, HOLD_REVS, SWEEPS_L, SWEEPS_U, AGE_FORCES ]
/-- Every field of the page, in table order. -/
def fields : List Fld := fields0
end ZRG

namespace ERL
/-- Page index of ERL (R604). -/
def page : Nat := 0x13
/-! Fields of R453 (12_command_intake). -/
def CTRL_CNT_CLR : Fld := reg 0x008 0 1 .wo (.val 0)
def INT_STATUS : Fld := reg 0x010 0 1 .w1c (.val 0)
def INT_ENABLE : Fld := reg 0x014 0 1 .rw (.val 0)
def STICKY : Fld := reg 0x01C 0 1 .w1c (.val 0)
def FAULT_CODE : Fld := reg 0x020 0 8 .ro (.val 0)
def NEXT : Fld := reg 0x040 0 5 .ro (.val 0)
def WRITTEN_CNT : Fld := reg 0x044 0 32 .ro (.val 0)
def OVERWRITTEN : Fld := reg 0x048 0 32 .rw (.val 0)
def ENTRY_SEQ : Fld := regs 0x800 0 32 .ro (.val 0) 0x40 32
def TAG : Fld := regs 0x804 0 12 .ro (.val 0) 0x40 32
def OPCODE : Fld := regs 0x804 16 8 .ro (.val 0) 0x40 32
def STATUS : Fld := regs 0x804 24 8 .ro (.val 0) 0x40 32
def SEQ : Fld := regs 0x808 0 32 .ro (.val 0) 0x40 32
def LBA : Fld := regs 0x80C 0 32 .ro (.val 0) 0x40 32
def COUNT : Fld := regs 0x810 0 24 .ro (.val 0) 0x40 32
def FIRST_LBA : Fld := regs 0x814 0 32 .ro (.val 0) 0x40 32
def SECTOR_MASK : Fld := regs 0x818 0 32 .ro (.val 0) 0x40 32
def PSA : Fld := regs 0x81C 0 32 .ro (.val 0) 0x40 32
def CAUSE : Fld := regs 0x820 0 16 .ro (.val 0) 0x40 32
def RUNG : Fld := regs 0x820 16 8 .ro (.val 0) 0x40 32
def READS : Fld := regs 0x820 24 8 .ro (.val 0) 0x40 32
def DETAIL : Fld := regs 0x824 0 32 .ro (.val 0) 0x40 32
def TIME_LO : Fld := regs 0x828 0 32 .ro (.val 0) 0x40 32
def TIME_HI : Fld := regs 0x82C 0 32 .ro (.val 0) 0x40 32
def OP_TIME : Fld := regs 0x830 0 32 .ro (.val 0) 0x40 32
def FROZE : Fld := regs 0x834 0 1 .ro (.val 0) 0x40 32
def HEAD_OOS : Fld := regs 0x834 1 1 .ro (.val 0) 0x40 32
def PARTIAL : Fld := regs 0x834 2 1 .ro (.val 0) 0x40 32
def REQ : Fld := regs 0x834 8 8 .ro (.val 0) 0x40 32
def ENTRY_SEQ2 : Fld := regs 0x83C 0 32 .ro (.val 0) 0x40 32
/-! Bits of INT_STATUS (i), STICKY (k). -/
def iLOGGED : Nat := 0
def kCNT_SAT : Nat := 0
def fields0 : List Fld := [ CTRL_CNT_CLR, INT_STATUS, INT_ENABLE, STICKY, FAULT_CODE, NEXT, WRITTEN_CNT, OVERWRITTEN, ENTRY_SEQ, TAG, OPCODE, STATUS, SEQ, LBA, COUNT, FIRST_LBA, SECTOR_MASK, PSA, CAUSE, RUNG, READS, DETAIL, TIME_LO, TIME_HI, OP_TIME, FROZE, HEAD_OOS, PARTIAL, REQ, ENTRY_SEQ2 ]
/-- Every field of the page, in table order. -/
def fields : List Fld := fields0
end ERL

namespace STM
/-- Page index of STM (R604). -/
def page : Nat := 0x14
/-! Fields of R454 (12_command_intake). -/
def CTRL_CNT_CLR : Fld := reg 0x008 0 1 .wo (.val 0)
def INT_STATUS : Fld := reg 0x010 0 2 .w1c (.val 0)
def INT_ENABLE : Fld := reg 0x014 0 2 .rw (.val 0)
def STICKY : Fld := reg 0x01C 0 1 .w1c (.val 0)
def FAULT_CODE : Fld := reg 0x020 0 8 .ro (.val 0)
def SPILL_BASE_LO : Fld := reg 0x040 0 32 .rw (.val 0)
def SPILL_BASE_HI : Fld := reg 0x044 0 2 .rw (.val 0)
def QUERY_ID : Fld := reg 0x048 0 16 .rw (.val 0)
def Q_STATE_OPEN : Fld := reg 0x04C 0 1 .ro (.val 0)
def Q_STATE_RESIDENT : Fld := reg 0x04C 1 1 .ro (.val 0)
def Q_STATE_COMPRESSED : Fld := reg 0x04C 2 1 .ro (.val 0)
def Q_STATE_LEVEL : Fld := reg 0x04C 3 4 .ro (.val 0)
def Q_STATE_SLOT : Fld := reg 0x04C 8 8 .ro (.val 0)
def Q_STATE_OUTSTANDING : Fld := reg 0x04C 16 16 .ro (.val 0)
def Q_NEXT_LBA : Fld := reg 0x050 0 32 .ro (.val 0)
def Q_END_LBA : Fld := reg 0x054 0 32 .ro (.val 0)
def Q_WRITTEN : Fld := reg 0x058 0 32 .ro (.val 0)
def OPEN_CNT : Fld := reg 0x05C 0 15 .ro (.val 0)
def RESIDENT_CNT : Fld := reg 0x060 0 9 .ro (.val 0)
def SPILLS : Fld := reg 0x064 0 32 .ro (.val 0)
def FILLS : Fld := reg 0x068 0 32 .ro (.val 0)
def SPILL_WAIT : Fld := reg 0x06C 0 32 .ro (.val 0)
/-! Bits of INT_STATUS (i), STICKY (k). -/
def iSPILL : Nat := 0
def iWAITING : Nat := 1
def kCNT_SAT : Nat := 0
def fields0 : List Fld := [ CTRL_CNT_CLR, INT_STATUS, INT_ENABLE, STICKY, FAULT_CODE, SPILL_BASE_LO, SPILL_BASE_HI, QUERY_ID, Q_STATE_OPEN, Q_STATE_RESIDENT, Q_STATE_COMPRESSED, Q_STATE_LEVEL, Q_STATE_SLOT, Q_STATE_OUTSTANDING, Q_NEXT_LBA, Q_END_LBA, Q_WRITTEN, OPEN_CNT, RESIDENT_CNT, SPILLS, FILLS, SPILL_WAIT ]
/-- Every field of the page, in table order. -/
def fields : List Fld := fields0
end STM

namespace USB
/-- Page index of HIF_USB (R604). -/
def page : Nat := 0x20
/-! Fields of R484 (13_host_and_library_ports). -/
def CTRL_EN : Fld := reg 0x008 0 1 .rw (.val 1)
def CTRL_CNT_CLR : Fld := reg 0x008 1 1 .wo (.val 0)
def CTRL_UAS_EN : Fld := reg 0x008 2 1 .rw (.val 1)
def CTRL_PCIE_TUN_EN : Fld := reg 0x008 3 1 .rw (.val 1)
def CTRL_LPM_EN : Fld := reg 0x008 4 1 .rw (.val 1)
def CTRL_DISCONNECT : Fld := reg 0x008 5 1 .rw (.val 0)
def STATUS_ATTACH : Fld := reg 0x00C 0 3 .ro (.val 0)
def STATUS_PCIE_UP : Fld := reg 0x00C 3 1 .ro (.val 0)
def STATUS_USB3_TUN_UP : Fld := reg 0x00C 4 1 .ro (.val 0)
def STATUS_UAS_ACTIVE : Fld := reg 0x00C 5 1 .ro (.val 0)
def STATUS_BOT_ACTIVE : Fld := reg 0x00C 6 1 .ro (.val 0)
def STATUS_LOW_POWER : Fld := reg 0x00C 7 1 .ro (.val 0)
def INT_STATUS : Fld := reg 0x010 0 7 .w1c (.val 0)
def INT_ENABLE : Fld := reg 0x014 0 7 .rw (.val 0)
def STICKY : Fld := reg 0x01C 0 1 .w1c (.val 0)
def FAULT_CODE : Fld := reg 0x020 0 8 .ro (.val 0)
def USB_ID_VID : Fld := reg 0x040 0 16 .ro (.otp)
def USB_ID_PID : Fld := reg 0x040 16 16 .ro (.otp)
def PCI_ID_VENDOR : Fld := reg 0x044 0 16 .ro (.otp)
def PCI_ID_SUBSYS : Fld := reg 0x044 16 16 .ro (.otp)
def PCIE_STATE_MPS : Fld := reg 0x048 0 3 .ro (.val 0)
def PCIE_STATE_MRRS : Fld := reg 0x048 4 3 .ro (.val 2)
def PCIE_STATE_BME : Fld := reg 0x048 8 1 .ro (.val 0)
def PCIE_STATE_MSIX_EN : Fld := reg 0x048 9 1 .ro (.val 0)
def PCIE_STATE_D3HOT : Fld := reg 0x048 10 1 .ro (.val 0)
def LINK_ERR_CNT : Fld := reg 0x04C 0 32 .ro (.val 0)
def TO_HOST_LO : Fld := reg 0x050 0 32 .ro (.val 0)
def TO_HOST_HI : Fld := reg 0x054 0 32 .ro (.val 0)
def FROM_HOST_LO : Fld := reg 0x058 0 32 .ro (.val 0)
def FROM_HOST_HI : Fld := reg 0x05C 0 32 .ro (.val 0)
def MMC_CMD_CNT : Fld := reg 0x060 0 32 .ro (.val 0)
def MMC_REJ_CNT : Fld := reg 0x064 0 16 .ro (.val 0)
def LAST_REJ_OP : Fld := reg 0x064 16 8 .ro (.val 0)
def UAS_QDEPTH : Fld := reg 0x068 0 6 .rw (.val 0x20)
/-! Bits of INT_STATUS (i), STICKY (k). -/
def iATTACHED : Nat := 0
def iDETACHED : Nat := 1
def iPCIE_UP : Nat := 2
def iPCIE_DOWN : Nat := 3
def iBUS_RESET : Nat := 4
def iFLR : Nat := 5
def iMMC_REJ : Nat := 6
def kCNT_SAT : Nat := 0
def fields0 : List Fld := [ CTRL_EN, CTRL_CNT_CLR, CTRL_UAS_EN, CTRL_PCIE_TUN_EN, CTRL_LPM_EN, CTRL_DISCONNECT, STATUS_ATTACH, STATUS_PCIE_UP, STATUS_USB3_TUN_UP, STATUS_UAS_ACTIVE, STATUS_BOT_ACTIVE, STATUS_LOW_POWER, INT_STATUS, INT_ENABLE, STICKY, FAULT_CODE, USB_ID_VID, USB_ID_PID, PCI_ID_VENDOR, PCI_ID_SUBSYS, PCIE_STATE_MPS, PCIE_STATE_MRRS, PCIE_STATE_BME, PCIE_STATE_MSIX_EN, PCIE_STATE_D3HOT, LINK_ERR_CNT, TO_HOST_LO, TO_HOST_HI, FROM_HOST_LO, FROM_HOST_HI, MMC_CMD_CNT, MMC_REJ_CNT, LAST_REJ_OP, UAS_QDEPTH ]
/-- Every field of the page, in table order. -/
def fields : List Fld := fields0
end USB

namespace SATA
/-- Page index of HIF_SATA (R604). -/
def page : Nat := 0x21
/-! Fields of R485 (13_host_and_library_ports). -/
def CTRL_EN : Fld := reg 0x008 0 1 .rw (.val 1)
def CTRL_CNT_CLR : Fld := reg 0x008 1 1 .wo (.val 0)
def CTRL_AN_EN : Fld := reg 0x008 2 1 .rw (.val 1)
def CTRL_PM_EN : Fld := reg 0x008 3 1 .rw (.val 1)
def STATUS_SPEED : Fld := reg 0x00C 0 2 .ro (.val 0)
def STATUS_PHY_RDY : Fld := reg 0x00C 2 1 .ro (.val 0)
def STATUS_PM : Fld := reg 0x00C 3 2 .ro (.val 0)
def STATUS_CMD_ACTIVE : Fld := reg 0x00C 5 1 .ro (.val 0)
def INT_STATUS : Fld := reg 0x010 0 6 .w1c (.val 0)
def INT_ENABLE : Fld := reg 0x014 0 6 .rw (.val 0)
def STICKY : Fld := reg 0x01C 0 1 .w1c (.val 0)
def FAULT_CODE : Fld := reg 0x020 0 8 .ro (.val 0)
def PKT_CNT : Fld := reg 0x040 0 32 .ro (.val 0)
def MMC_REJ_CNT : Fld := reg 0x044 0 16 .ro (.val 0)
def LAST_REJ_OP : Fld := reg 0x044 16 8 .ro (.val 0)
def FIS_CRC_ERR_CNT : Fld := reg 0x048 0 32 .ro (.val 0)
def BYTES_LO : Fld := reg 0x04C 0 32 .ro (.val 0)
def BYTES_HI : Fld := reg 0x050 0 32 .ro (.val 0)
def BYTE_LIMIT : Fld := reg 0x054 0 16 .ro (.val 0)
/-! Bits of INT_STATUS (i), STICKY (k). -/
def iLINK_UP : Nat := 0
def iLINK_DOWN : Nat := 1
def iCOMRESET : Nat := 2
def iDEVICE_RESET : Nat := 3
def iAN_SENT : Nat := 4
def iMMC_REJ : Nat := 5
def kCNT_SAT : Nat := 0
def fields0 : List Fld := [ CTRL_EN, CTRL_CNT_CLR, CTRL_AN_EN, CTRL_PM_EN, STATUS_SPEED, STATUS_PHY_RDY, STATUS_PM, STATUS_CMD_ACTIVE, INT_STATUS, INT_ENABLE, STICKY, FAULT_CODE, PKT_CNT, MMC_REJ_CNT, LAST_REJ_OP, FIS_CRC_ERR_CNT, BYTES_LO, BYTES_HI, BYTE_LIMIT ]
/-- Every field of the page, in table order. -/
def fields : List Fld := fields0
end SATA

namespace LIB
/-- Page index of LIB (R604). -/
def page : Nat := 0x22
/-! Fields of R486 (13_host_and_library_ports). -/
def CTRL_EN : Fld := reg 0x008 0 1 .rw (.prof 1 0)
def CTRL_CNT_CLR : Fld := reg 0x008 1 1 .wo (.val 0)
def CTRL_IBI_EN : Fld := reg 0x008 2 1 .rw (.val 1)
def CTRL_AUTO_MOUNT : Fld := reg 0x008 3 1 .rw (.val 1)
def CTRL_CLAMP_EN : Fld := reg 0x008 4 1 .rw (.val 1)
def STATUS_DA_VALID : Fld := reg 0x00C 0 1 .ro (.val 0)
def STATUS_DA : Fld := reg 0x00C 1 7 .ro (.val 0)
def STATUS_CLAMP_REQ : Fld := reg 0x00C 8 1 .ro (.val 0)
def STATUS_CLAMP_OK : Fld := reg 0x00C 9 1 .ro (.val 0)
def STATUS_DISC_PRES : Fld := reg 0x00C 10 1 .ro (.val 0)
def STATUS_UNLOAD_PEND : Fld := reg 0x00C 11 1 .ro (.val 0)
def INT_STATUS : Fld := reg 0x010 0 9 .w1c (.val 0)
def INT_ENABLE : Fld := reg 0x014 0 9 .rw (.val 0)
def STICKY : Fld := reg 0x01C 0 1 .w1c (.val 0)
def FAULT_CODE : Fld := reg 0x020 0 8 .ro (.val 0)
def STATIC_ADDR : Fld := reg 0x040 0 7 .rw (.val 0x5A)
def PID_LO : Fld := reg 0x044 0 32 .ro (.otp)
def PID_HI : Fld := reg 0x048 0 16 .ro (.otp)
def BCR : Fld := reg 0x04C 0 8 .ro (.val 6)
def DCR : Fld := reg 0x04C 8 8 .ro (.val 0)
def CLAMP_CFG_DEB_MS : Fld := reg 0x050 0 8 .rw (.val 0xA)
def CLAMP_CFG_UNLOAD_TO_S : Fld := reg 0x050 8 16 .rw (.val 0x78)
def IBI_SRC_LIB_INT : Fld := reg 0x054 0 1 .rw (.val 1)
def IBI_SRC_GUST_OUT3 : Fld := reg 0x054 1 1 .rw (.val 1)
def CMD_CNT : Fld := reg 0x058 0 32 .ro (.val 0)
def CMD_ERR_CNT : Fld := reg 0x05C 0 16 .ro (.val 0)
def LAST_ERR : Fld := reg 0x05C 16 8 .ro (.val 0)
/-! Bits of INT_STATUS (i), STICKY (k). -/
def iDA_ASSIGNED : Nat := 0
def iCLAMP_REQ_ON : Nat := 1
def iCLAMP_REQ_OFF : Nat := 2
def iDISC_IN : Nat := 3
def iDISC_OUT : Nat := 4
def iDISC_LOST : Nat := 5
def iIBI_NACK : Nat := 6
def iCMD_ERR : Nat := 7
def iUNLOAD_LATE : Nat := 8
def kCNT_SAT : Nat := 0
def fields0 : List Fld := [ CTRL_EN, CTRL_CNT_CLR, CTRL_IBI_EN, CTRL_AUTO_MOUNT, CTRL_CLAMP_EN, STATUS_DA_VALID, STATUS_DA, STATUS_CLAMP_REQ, STATUS_CLAMP_OK, STATUS_DISC_PRES, STATUS_UNLOAD_PEND, INT_STATUS, INT_ENABLE, STICKY, FAULT_CODE, STATIC_ADDR, PID_LO, PID_HI, BCR, DCR, CLAMP_CFG_DEB_MS, CLAMP_CFG_UNLOAD_TO_S, IBI_SRC_LIB_INT, IBI_SRC_GUST_OUT3, CMD_CNT, CMD_ERR_CNT, LAST_ERR ]
/-- Every field of the page, in table order. -/
def fields : List Fld := fields0
end LIB

namespace MBX
/-- Page index of MBX (R604). -/
def page : Nat := 0x6
/-! Fields of R487 (13_host_and_library_ports). -/
def CTRL_CNT_CLR : Fld := reg 0x008 0 1 .wo (.val 0)
def STATUS_FULL : Fld := reg 0x00C 0 8 .ro (.val 0)
def INT_STATUS : Fld := reg 0x010 0 24 .w1c (.val 0)
def INT_ENABLE : Fld := reg 0x014 0 24 .rw (.val 0)
def STICKY : Fld := reg 0x01C 0 4 .w1c (.val 0)
def FAULT_CODE : Fld := reg 0x020 0 8 .ro (.val 0)
def CFG_ACK_TO_MS : Fld := reg 0x040 0 16 .rw (.val 0x3E8)
def CFG_WAKE_EN : Fld := reg 0x040 16 1 .rw (.val 1)
def REJ_REQ : Fld := reg 0x044 0 8 .ro (.val 0)
def REJ_MBX : Fld := reg 0x044 8 3 .ro (.val 0)
def MSTAT_FULL : Fld := regs 0x100 0 1 .ro (.val 0) 0x80 8
def MSTAT_CLAIMED : Fld := regs 0x100 1 1 .ro (.val 0) 0x80 8
def MSTAT_OWNER : Fld := regs 0x100 8 8 .ro (.val 0) 0x80 8
def MSTAT_LEN : Fld := regs 0x100 16 5 .ro (.val 0) 0x80 8
def MSTAT_SEQ : Fld := regs 0x100 24 8 .ro (.val 0) 0x80 8
def GUST_LEN : Fld := regs 0x104 0 5 .wo (.val 0) 0x80 8
def GUST_RING : Fld := regs 0x104 31 1 .wo (.val 0) 0x80 8
def ACK_ACK : Fld := regs 0x108 0 1 .wo (.val 0) 0x80 8
def ACK_WITHDRAW : Fld := regs 0x108 1 1 .wo (.val 0) 0x80 8
def CLAIM_HOLDER : Fld := regs 0x10C 0 8 .raq (.val 0) 0x80 8
def CLAIM_HELD_OTHER : Fld := regs 0x10C 31 1 .raq (.val 0) 0x80 8
def CLAIM_REL_REL : Fld := regs 0x110 0 1 .wo (.val 0) 0x80 8
def DELIV_CNT : Fld := regs 0x114 0 32 .ro (.val 0) 0x80 8
def TIMEOUT_CNT : Fld := regs 0x118 0 16 .ro (.val 0) 0x80 8
def REJ_CNT : Fld := regs 0x118 16 16 .ro (.val 0) 0x80 8
def DATA : Fld := regs2 0x140 0 32 .rw (.val 0) 0x80 8 0x4 16
/-! Bits of INT_STATUS (i), STICKY (k). -/
def iGUST : Nat := 0
def iACKED : Nat := 8
def iACK_TIMEOUT : Nat := 16
def kCNT_SAT : Nat := 0
def kWR_FULL : Nat := 1
def kNOT_OWNER : Nat := 2
def kLATE_ACK : Nat := 3
def fields0 : List Fld := [ CTRL_CNT_CLR, STATUS_FULL, INT_STATUS, INT_ENABLE, STICKY, FAULT_CODE, CFG_ACK_TO_MS, CFG_WAKE_EN, REJ_REQ, REJ_MBX, MSTAT_FULL, MSTAT_CLAIMED, MSTAT_OWNER, MSTAT_LEN, MSTAT_SEQ, GUST_LEN, GUST_RING, ACK_ACK, ACK_WITHDRAW, CLAIM_HOLDER, CLAIM_HELD_OTHER, CLAIM_REL_REL, DELIV_CNT, TIMEOUT_CNT, REJ_CNT, DATA ]
/-- Every field of the page, in table order. -/
def fields : List Fld := fields0
end MBX

end Sys2Proof.Machine
end

