-- ==== Sys2Proof/Machine/FieldsD.lean ====
section
/-!
DEFINITION. Register fields of the pages of the secrets, power, start-up, observation and policy core pages (spec chapters 14 to 18).
One definition per field, as the tables of the rules named give it: offset, lowest bit, width, access type, reset value, and for an array its stride and count.
Names are the spec's register and field names.
-/
namespace Sys2Proof.Machine

namespace VLQ
/-- Page index of VLQ (R604). -/
def page : Nat := 0xD0
/-! Fields of R528 (14_secrets). -/
def CTRL_GO : Fld := reg 0x008 0 1 .wo (.val 0)
def CTRL_CNT_CLR : Fld := reg 0x008 1 1 .wo (.val 0)
def STATUS_STATE : Fld := reg 0x00C 0 2 .ro (.val 0)
def STATUS_LOCKED_OUT : Fld := reg 0x00C 2 1 .ro (.val 0)
def STATUS_STORE_LOST : Fld := reg 0x00C 3 1 .ro (.val 0)
def STATUS_KEY_LOADED : Fld := reg 0x00C 4 1 .ro (.val 0)
def INT_STATUS : Fld := reg 0x010 0 5 .w1c (.val 0)
def INT_ENABLE : Fld := reg 0x014 0 5 .rw (.val 0)
def STICKY : Fld := reg 0x01C 0 3 .w1c (.val 0)
def FAULT_CODE : Fld := reg 0x020 0 8 .ro (.val 0)
def CLAIM_HOLDER : Fld := reg 0x040 0 8 .raq (.val 0)
def CLAIM_HELD_OTHER : Fld := reg 0x040 31 1 .raq (.val 0)
def CLAIM_REL_REL : Fld := reg 0x044 0 1 .wo (.val 0)
def REQ_IDX_IDX : Fld := reg 0x048 0 12 .rw (.val 0)
def REQ_IDX_AUTO_INC : Fld := reg 0x048 16 1 .rw (.val 1)
def REQ_DATA : Fld := reg 0x04C 0 32 .rw (.val 0)
def RSP_IDX_IDX : Fld := reg 0x050 0 12 .rw (.val 0)
def RSP_IDX_AUTO_INC : Fld := reg 0x050 16 1 .rw (.val 1)
def RSP_DATA : Fld := reg 0x054 0 32 .ro (.val 0)
def RESULT_CODE : Fld := reg 0x058 0 8 .ro (.val 0)
def RESULT_OP : Fld := reg 0x058 8 16 .ro (.val 0)
def CLAIM_TO_MS : Fld := reg 0x05C 0 16 .rw (.val 0x3E8)
def OWNER_STATE_STATE : Fld := reg 0x060 0 2 .ro (.val 0)
def OWNER_STATE_SLOT : Fld := reg 0x060 2 2 .ro (.val 0)
def OWNER_STATE_SLOTS_USED : Fld := reg 0x060 4 3 .ro (.val 0)
def OWNER_STATE_POLICY_VER : Fld := reg 0x060 16 9 .ro (.val 0)
def POLICY_FLOOR : Fld := reg 0x064 0 9 .ro (.val 0)
def ROLLBACK : Fld := reg 0x068 0 8 .ro (.val 0)
def RUN_SVN : Fld := reg 0x068 8 8 .ro (.val 0)
def POLICY_NEW_DISC : Fld := reg 0x06C 0 2 .ro (.val 0)
def POLICY_FLAGS : Fld := reg 0x06C 4 4 .ro (.val 0)
def POLICY_WRAP_KEYS : Fld := reg 0x06C 16 5 .ro (.val 0)
def REQ_CNT : Fld := reg 0x070 0 32 .ro (.val 0)
def REFUSE_CNT : Fld := reg 0x074 0 32 .ro (.val 0)
def VAULT_SEQ : Fld := reg 0x078 0 32 .ro (.val 0)
def OWNER_HASH : Fld := regs 0x080 0 32 .ro (.val 0) 0x4 16
/-! Bits of INT_STATUS (i), STICKY (k). -/
def iDONE : Nat := 0
def iREFUSED : Nat := 1
def iCLAIM_TIMEOUT : Nat := 2
def iZEROISED : Nat := 3
def iLOCKOUT : Nat := 4
def kCNT_SAT : Nat := 0
def kNOT_OWNER : Nat := 1
def kIDX_OVF : Nat := 2
def fields0 : List Fld := [ CTRL_GO, CTRL_CNT_CLR, STATUS_STATE, STATUS_LOCKED_OUT, STATUS_STORE_LOST, STATUS_KEY_LOADED, INT_STATUS, INT_ENABLE, STICKY, FAULT_CODE, CLAIM_HOLDER, CLAIM_HELD_OTHER, CLAIM_REL_REL, REQ_IDX_IDX, REQ_IDX_AUTO_INC, REQ_DATA, RSP_IDX_IDX, RSP_IDX_AUTO_INC, RSP_DATA, RESULT_CODE, RESULT_OP, CLAIM_TO_MS, OWNER_STATE_STATE, OWNER_STATE_SLOT, OWNER_STATE_SLOTS_USED, OWNER_STATE_POLICY_VER, POLICY_FLOOR, ROLLBACK, RUN_SVN, POLICY_NEW_DISC, POLICY_FLAGS, POLICY_WRAP_KEYS, REQ_CNT, REFUSE_CNT, VAULT_SEQ, OWNER_HASH ]
/-- Every field of the page, in table order. -/
def fields : List Fld := fields0
end VLQ

namespace PWR
/-- Page index of PWR (R604). -/
def page : Nat := 0x2
/-! Fields of R555 (15_power_and_supply). -/
def CTRL_CNT_CLR : Fld := reg 0x008 0 1 .wo (.val 0)
def STATUS_MODE : Fld := reg 0x00C 0 3 .ro (.val 3)
def STATUS_REQ : Fld := reg 0x00C 3 3 .ro (.prof 0 1)
def STATUS_CEILING : Fld := reg 0x00C 6 2 .ro (.val 0)
def STATUS_TRANSITION : Fld := reg 0x00C 8 1 .ro (.val 0)
def STATUS_DEFERRED : Fld := reg 0x00C 9 1 .ro (.val 0)
def STATUS_VMOT_WARN : Fld := reg 0x00C 10 1 .ro (.val 0)
def STATUS_VMOT_RST : Fld := reg 0x00C 11 1 .ro (.val 0)
def STATUS_VMOT_OVW : Fld := reg 0x00C 12 1 .ro (.val 0)
def STATUS_VMOT_OVT : Fld := reg 0x00C 13 1 .ro (.val 0)
def STATUS_CORE_WARN : Fld := reg 0x00C 14 1 .ro (.val 0)
def STATUS_THERM_TRIP : Fld := reg 0x00C 15 1 .ro (.val 0)
def INT_STATUS : Fld := reg 0x010 0 12 .w1c (.val 0)
def INT_ENABLE : Fld := reg 0x014 0 12 .rw (.val 0)
def STICKY : Fld := reg 0x01C 0 5 .w1c (.val 0)
def FAULT_CODE : Fld := reg 0x020 0 8 .ro (.val 0)
def MODE_REQ_MODE : Fld := reg 0x040 0 3 .rw (.val 0)
def MODE_REQ_FORCE : Fld := reg 0x040 8 1 .rw (.val 0)
def MODE_REQ_GO : Fld := reg 0x040 31 1 .wo (.val 0)
def DEFAULT_MODE : Fld := reg 0x044 0 3 .rw (.prof 0 1)
def THERM_CFG_GALE_RET : Fld := reg 0x048 0 8 .rw (.val 0x78)
def THERM_CFG_CALM_RET : Fld := reg 0x048 8 8 .rw (.val 0x82)
def THERM_CFG_RET_S : Fld := reg 0x048 16 8 .rw (.val 0xA)
def TEMP_NOW : Fld := regs 0x04C 0 12 .ro (.val 0) 0x4 8
def TEMP_PEAK : Fld := regs 0x04C 16 12 .rcl (.val 0) 0x4 8
def HOT_SENSOR : Fld := reg 0x06C 0 3 .ro (.val 0)
def HOT_READING : Fld := reg 0x06C 4 12 .ro (.val 0)
def VMOT : Fld := reg 0x070 0 16 .ro (.val 0)
def VMOT_MIN : Fld := reg 0x070 16 16 .rcl (.val 0xFFFF)
def VCORE : Fld := reg 0x074 0 12 .ro (.val 0)
def VCORE_MIN : Fld := reg 0x074 16 12 .rcl (.val 0xFFF)
def VMOT_WARN_CNT : Fld := reg 0x078 0 16 .ro (.val 0)
def CORE_WARN_CNT : Fld := reg 0x078 16 16 .ro (.val 0)
def VMOT_RST_CNT : Fld := reg 0x07C 0 16 .ro (.val 0)
def OV_CNT : Fld := reg 0x07C 16 16 .ro (.val 0)
def THERM_STEPS : Fld := reg 0x080 0 16 .ro (.val 0)
def THERM_CALM : Fld := reg 0x080 16 16 .ro (.val 0)
def TRANS_MS : Fld := reg 0x084 0 16 .ro (.val 0)
def WAKE_SRC : Fld := reg 0x088 0 4 .ro (.val 0)
def WAKE_EN : Fld := reg 0x08C 0 4 .rw (.val 0xF)
def WAKE_RD_CNT : Fld := reg 0x090 0 16 .ro (.val 0)
def PMB_CFG_EN : Fld := reg 0x0A0 0 1 .rw (.val 0)
def PMB_CFG_PEC_EN : Fld := reg 0x0A0 1 1 .rw (.val 1)
def PMB_CFG_SPEED : Fld := reg 0x0A0 2 1 .rw (.val 1)
def PMB_CFG_POLL_MS : Fld := reg 0x0A0 8 8 .rw (.val 0xA)
def PMB_CMD_ADDR : Fld := reg 0x0A4 0 7 .rw (.val 0)
def PMB_CMD_CODE : Fld := reg 0x0A4 8 8 .rw (.val 0)
def PMB_CMD_LEN : Fld := reg 0x0A4 16 2 .rw (.val 0)
def PMB_CMD_READ : Fld := reg 0x0A4 18 1 .rw (.val 0)
def PMB_CMD_GO : Fld := reg 0x0A4 31 1 .wo (.val 0)
def PMB_DATA : Fld := reg 0x0A8 0 16 .rw (.val 0)
def PMB_STATUS_BUSY : Fld := reg 0x0AC 0 1 .ro (.val 0)
def PMB_STATUS_NACK : Fld := reg 0x0AC 1 1 .ro (.val 0)
def PMB_STATUS_PEC_ERR : Fld := reg 0x0AC 2 1 .ro (.val 0)
def PMB_STATUS_TIMEOUT : Fld := reg 0x0AC 3 1 .ro (.val 0)
def REG_CFG_ADDR : Fld := regs 0x100 0 7 .rw (.val 0) 0x10 8
def REG_CFG_VALID : Fld := regs 0x100 7 1 .rw (.val 0) 0x10 8
def REG_CFG_RAIL : Fld := regs 0x100 8 4 .rw (.val 0) 0x10 8
def REG_CFG_CALM_ACT : Fld := regs 0x100 12 2 .rw (.val 0) 0x10 8
def REG_CFG_LULL_ACT : Fld := regs 0x100 14 2 .rw (.val 0) 0x10 8
def REG_CFG_POLL : Fld := regs 0x100 16 1 .rw (.val 1) 0x10 8
def VOUT_LOW : Fld := regs 0x104 0 16 .rw (.val 0) 0x10 8
def VOUT : Fld := regs 0x108 0 16 .ro (.val 0) 0x10 8
def IOUT : Fld := regs 0x108 16 16 .ro (.val 0) 0x10 8
def STATUS_WORD : Fld := regs 0x10C 0 16 .ro (.val 0) 0x10 8
def FAULT_CNT : Fld := regs 0x10C 16 16 .ro (.val 0) 0x10 8
/-! Bits of INT_STATUS (i), STICKY (k). -/
def iMODE_DONE : Nat := 0
def iTHERM_STEP : Nat := 1
def iTHERM_RETURN : Nat := 2
def iVMOT_WARN : Nat := 3
def iVMOT_RECOV : Nat := 4
def iVMOT_RST : Nat := 5
def iVMOT_OV : Nat := 6
def iCORE_WARN : Nat := 7
def iCORE_RECOV : Nat := 8
def iPMB_FAULT : Nat := 9
def iPMB_DONE : Nat := 10
def iWAKE : Nat := 11
def kCNT_SAT : Nat := 0
def kPMB_NACK : Nat := 1
def kPMB_PEC : Nat := 2
def kPMB_REJ : Nat := 3
def kMODE_REJ : Nat := 4
def fields0 : List Fld := [ CTRL_CNT_CLR, STATUS_MODE, STATUS_REQ, STATUS_CEILING, STATUS_TRANSITION, STATUS_DEFERRED, STATUS_VMOT_WARN, STATUS_VMOT_RST, STATUS_VMOT_OVW, STATUS_VMOT_OVT, STATUS_CORE_WARN, STATUS_THERM_TRIP, INT_STATUS, INT_ENABLE, STICKY, FAULT_CODE, MODE_REQ_MODE, MODE_REQ_FORCE, MODE_REQ_GO, DEFAULT_MODE, THERM_CFG_GALE_RET, THERM_CFG_CALM_RET, THERM_CFG_RET_S, TEMP_NOW, TEMP_PEAK, HOT_SENSOR, HOT_READING, VMOT, VMOT_MIN, VCORE, VCORE_MIN, VMOT_WARN_CNT, CORE_WARN_CNT, VMOT_RST_CNT, OV_CNT, THERM_STEPS, THERM_CALM, TRANS_MS, WAKE_SRC, WAKE_EN ]
def fields1 : List Fld := [ WAKE_RD_CNT, PMB_CFG_EN, PMB_CFG_PEC_EN, PMB_CFG_SPEED, PMB_CFG_POLL_MS, PMB_CMD_ADDR, PMB_CMD_CODE, PMB_CMD_LEN, PMB_CMD_READ, PMB_CMD_GO, PMB_DATA, PMB_STATUS_BUSY, PMB_STATUS_NACK, PMB_STATUS_PEC_ERR, PMB_STATUS_TIMEOUT, REG_CFG_ADDR, REG_CFG_VALID, REG_CFG_RAIL, REG_CFG_CALM_ACT, REG_CFG_LULL_ACT, REG_CFG_POLL, VOUT_LOW, VOUT, IOUT, STATUS_WORD, FAULT_CNT ]
/-- Every field of the page, in table order. -/
def fields : List Fld := fields0 ++ fields1
end PWR

namespace CLK
/-- Page index of CLK (R604). -/
def page : Nat := 0x1
/-! Fields of R556 (15_power_and_supply). -/
def CTRL_CNT_CLR : Fld := reg 0x008 0 1 .wo (.val 0)
def STATUS_REF_OK : Fld := reg 0x00C 0 1 .ro (.val 0)
def STATUS_LF_OK : Fld := reg 0x00C 1 1 .ro (.val 0)
def STATUS_LOCK : Fld := reg 0x00C 8 8 .ro (.val 0)
def STATUS_STOPPED : Fld := reg 0x00C 16 8 .ro (.val 0)
def INT_STATUS : Fld := reg 0x010 0 4 .w1c (.val 0)
def INT_ENABLE : Fld := reg 0x014 0 4 .rw (.val 0)
def STICKY : Fld := reg 0x01C 0 1 .w1c (.val 0)
def FAULT_CODE : Fld := reg 0x020 0 8 .ro (.val 0)
def MEAS_SEL : Fld := reg 0x040 0 3 .rw (.val 0)
def MEAS_KHZ : Fld := reg 0x044 0 21 .ro (.val 0)
def UNLOCK_CNT : Fld := reg 0x048 0 16 .ro (.val 0)
def FREQ_ERR_CNT : Fld := reg 0x048 16 16 .ro (.val 0)
def LF_PPM : Fld := reg 0x04C 0 16 .ro (.val 0)
/-! Bits of INT_STATUS (i), STICKY (k). -/
def iREF_LOST : Nat := 0
def iLF_LOST : Nat := 1
def iUNLOCK : Nat := 2
def iFREQ_ERR : Nat := 3
def kCNT_SAT : Nat := 0
def fields0 : List Fld := [ CTRL_CNT_CLR, STATUS_REF_OK, STATUS_LF_OK, STATUS_LOCK, STATUS_STOPPED, INT_STATUS, INT_ENABLE, STICKY, FAULT_CODE, MEAS_SEL, MEAS_KHZ, UNLOCK_CNT, FREQ_ERR_CNT, LF_PPM ]
/-- Every field of the page, in table order. -/
def fields : List Fld := fields0
end CLK

namespace DEV
/-- Page index of DEV (R604). -/
def page : Nat := 0x0
/-! Fields of R578 (16_startup_reset_recovery). -/
def CTRL_CNT_CLR : Fld := reg 0x008 0 1 .wo (.val 0)
def STATUS_BOOT_STATE : Fld := reg 0x00C 0 3 .ro (.val 0)
def STATUS_SLOT : Fld := reg 0x00C 3 1 .ro (.val 0)
def STATUS_TRIAL : Fld := reg 0x00C 4 1 .ro (.val 0)
def STATUS_BOOT_CTL_BUSY : Fld := reg 0x00C 5 1 .ro (.val 0)
def STATUS_RCV_BUSY : Fld := reg 0x00C 6 1 .ro (.val 0)
def INT_STATUS : Fld := reg 0x010 0 5 .w1c (.val 0)
def INT_ENABLE : Fld := reg 0x014 0 5 .rw (.val 0)
def STICKY : Fld := reg 0x01C 0 3 .w1c (.val 0)
def FAULT_CODE : Fld := reg 0x020 0 8 .ro (.val 0)
def CHIP_ID_PART : Fld := reg 0x040 0 16 .ro (.val 0x8816)
def CHIP_ID_STEPPING : Fld := reg 0x040 16 8 .ro (.val 0xB0)
def CHIP_ID_ES : Fld := reg 0x040 24 1 .ro (.otp)
def SERIAL_LO : Fld := reg 0x044 0 32 .ro (.otp)
def SERIAL_HI : Fld := reg 0x048 0 32 .ro (.otp)
def STRAP_PROF : Fld := reg 0x04C 0 1 .ro (.prof 1 0)
def STRAP_LIM_SEL : Fld := reg 0x04C 1 2 .ro (.val 0)
def RESET_CAUSE : Fld := reg 0x050 0 9 .ro (.val 1)
def RESET_HIST : Fld := reg 0x054 0 9 .w1c (.val 1)
def RESET_KEY : Fld := reg 0x058 0 16 .wo (.val 0)
def RESET_GO : Fld := reg 0x058 31 1 .wo (.val 0)
def WDOG_CFG_WDOG_MS : Fld := reg 0x05C 0 16 .rw (.val 0x7D0)
def WDOG_CFG_EN : Fld := reg 0x05C 16 1 .rw (.val 1)
def WDOG_KICK : Fld := reg 0x060 0 1 .wo (.val 0)
def BOOT_CTL_PREFER : Fld := reg 0x064 0 1 .rw (.val 0)
def BOOT_CTL_TRIAL : Fld := reg 0x064 1 1 .rw (.val 0)
def BOOT_CTL_CONFIRM : Fld := reg 0x064 2 1 .rw (.val 0)
def BOOT_CTL_GO : Fld := reg 0x064 31 1 .wo (.val 0)
def BOOT_INFO_TRIES : Fld := reg 0x068 0 8 .ro (.val 0)
def BOOT_INFO_SVN : Fld := reg 0x068 8 8 .ro (.val 0)
def BOOT_INFO_FALLBACK : Fld := reg 0x068 16 1 .ro (.val 0)
def BOOT_INFO_CAUSE_A : Fld := reg 0x068 17 3 .ro (.val 0)
def BOOT_INFO_CAUSE_B : Fld := reg 0x068 20 3 .ro (.val 0)
def POWER_CYCLES : Fld := reg 0x06C 0 24 .ro (.val 0)
def OP_TIME : Fld := reg 0x070 0 32 .ro (.val 0)
def TIME_LO : Fld := reg 0x074 0 32 .ro (.val 0)
def TIME_HI : Fld := reg 0x078 0 32 .ro (.val 0)
def BOOT_MS : Fld := reg 0x07C 0 16 .ro (.val 0)
def RCV_ADDR : Fld := reg 0x080 0 26 .rw (.val 0)
def RCV_DATA : Fld := reg 0x084 0 32 .wo (.val 0)
def RESET_CNT : Fld := reg 0x088 0 16 .ro (.val 0)
def WDOG_CNT : Fld := reg 0x088 16 16 .ro (.val 0)
/-! Bits of INT_STATUS (i), STICKY (k). -/
def iFW_STARTED : Nat := 0
def iREADY : Nat := 1
def iRECOVERY : Nat := 2
def iFALLBACK : Nat := 3
def iBOOT_CTL_DONE : Nat := 4
def kCNT_SAT : Nat := 0
def kRCV_REJ : Nat := 1
def kRESET_KEY_BAD : Nat := 2
def fields0 : List Fld := [ CTRL_CNT_CLR, STATUS_BOOT_STATE, STATUS_SLOT, STATUS_TRIAL, STATUS_BOOT_CTL_BUSY, STATUS_RCV_BUSY, INT_STATUS, INT_ENABLE, STICKY, FAULT_CODE, CHIP_ID_PART, CHIP_ID_STEPPING, CHIP_ID_ES, SERIAL_LO, SERIAL_HI, STRAP_PROF, STRAP_LIM_SEL, RESET_CAUSE, RESET_HIST, RESET_KEY, RESET_GO, WDOG_CFG_WDOG_MS, WDOG_CFG_EN, WDOG_KICK, BOOT_CTL_PREFER, BOOT_CTL_TRIAL, BOOT_CTL_CONFIRM, BOOT_CTL_GO, BOOT_INFO_TRIES, BOOT_INFO_SVN, BOOT_INFO_FALLBACK, BOOT_INFO_CAUSE_A, BOOT_INFO_CAUSE_B, POWER_CYCLES, OP_TIME, TIME_LO, TIME_HI, BOOT_MS, RCV_ADDR, RCV_DATA ]
def fields1 : List Fld := [ RESET_CNT, WDOG_CNT ]
/-- Every field of the page, in table order. -/
def fields : List Fld := fields0 ++ fields1
end DEV

namespace EVR
/-- Page index of EVR (R604). -/
def page : Nat := 0x3
/-! Fields of R600 (17_observation). -/
def CTRL_CNT_CLR : Fld := reg 0x008 0 1 .wo (.val 0)
def STATUS_FULL : Fld := reg 0x00C 0 1 .ro (.val 0)
def STATUS_CLEARING : Fld := reg 0x00C 1 1 .ro (.val 0)
def STATUS_ERASING : Fld := reg 0x00C 2 1 .ro (.val 0)
def STATUS_AREA : Fld := reg 0x00C 3 1 .ro (.val 0)
def INT_STATUS : Fld := reg 0x010 0 3 .w1c (.val 0)
def INT_ENABLE : Fld := reg 0x014 0 3 .rw (.val 0)
def STICKY : Fld := reg 0x01C 0 3 .w1c (.val 0)
def FAULT_CODE : Fld := reg 0x020 0 8 .ro (.val 0)
def CFG_COMMIT_MS : Fld := reg 0x040 0 16 .rw (.val 0x64)
def COUNT : Fld := reg 0x044 0 15 .ro (.val 0)
def BUF_USED : Fld := reg 0x048 0 5 .ro (.val 0)
def DROP_CNT : Fld := reg 0x04C 0 32 .ro (.val 0)
def FULL_DROP_CNT : Fld := reg 0x050 0 32 .ro (.val 0)
def RD_IDX : Fld := reg 0x054 0 14 .rw (.val 0)
def RD_STATUS_VALID : Fld := reg 0x058 0 1 .ro (.val 0)
def RD_STATUS_RANGE : Fld := reg 0x058 1 1 .ro (.val 0)
def RD_STATUS_CRC_BAD : Fld := reg 0x058 2 1 .ro (.val 0)
def RD_DATA : Fld := regs 0x05C 0 32 .ro (.val 0) 0x4 8
def POST_CODE : Fld := reg 0x07C 0 16 .rw (.val 0)
def POST_P : Fld := regs 0x080 0 32 .rw (.val 0) 0x4 3
def POST_CTRL_GO : Fld := reg 0x08C 0 1 .wo (.val 0)
/-! Bits of INT_STATUS (i), STICKY (k). -/
def iFULL : Nat := 0
def iDROPPED : Nat := 1
def iCLEARED : Nat := 2
def kCNT_SAT : Nat := 0
def kDROPPED : Nat := 1
def kPOST_REJ : Nat := 2
def fields0 : List Fld := [ CTRL_CNT_CLR, STATUS_FULL, STATUS_CLEARING, STATUS_ERASING, STATUS_AREA, INT_STATUS, INT_ENABLE, STICKY, FAULT_CODE, CFG_COMMIT_MS, COUNT, BUF_USED, DROP_CNT, FULL_DROP_CNT, RD_IDX, RD_STATUS_VALID, RD_STATUS_RANGE, RD_STATUS_CRC_BAD, RD_DATA, POST_CODE, POST_P, POST_CTRL_GO ]
/-- Every field of the page, in table order. -/
def fields : List Fld := fields0
end EVR

namespace PMC
/-- Page index of PMC (R604). -/
def page : Nat := 0x4
/-! Fields of R601 (17_observation). -/
def CTRL_HOLD : Fld := reg 0x008 0 1 .rw (.val 0)
def CTRL_CNT_CLR : Fld := reg 0x008 1 1 .wo (.val 0)
def INT_STATUS : Fld := reg 0x010 0 2 .w1c (.val 0)
def INT_ENABLE : Fld := reg 0x014 0 2 .rw (.val 0)
def STICKY : Fld := reg 0x01C 0 2 .w1c (.val 0)
def FAULT_CODE : Fld := reg 0x020 0 8 .ro (.val 0)
def OVF_LO : Fld := reg 0x040 0 32 .w1c (.val 0)
def OVF_HI : Fld := reg 0x044 0 32 .w1c (.val 0)
def TAG_CFG_EN : Fld := reg 0x048 0 1 .rw (.val 0)
def TAG_CFG_RATE_EXP : Fld := reg 0x048 1 5 .rw (.val 0xA)
def TAG_CFG_OPMASK : Fld := reg 0x048 8 4 .rw (.val 0xF)
def TAG_SEED : Fld := reg 0x04C 0 32 .wo (.val 0)
def REC_HEAD : Fld := reg 0x050 0 6 .ro (.val 0)
def REC_COUNT : Fld := reg 0x050 8 7 .ro (.val 0)
def REC_RESERVED : Fld := reg 0x050 16 7 .ro (.val 0)
def REC_POP : Fld := reg 0x054 0 1 .wo (.val 0)
def TAGGED_CNT : Fld := reg 0x058 0 32 .ro (.val 0)
def TAG_MISSED : Fld := reg 0x05C 0 32 .ro (.val 0)
def CNT_CFG_SEL : Fld := regs 0x100 0 8 .rw (.val 0) 0x4 64
def CNT_CFG_INST : Fld := regs 0x100 8 8 .rw (.val 0xFF) 0x4 64
def CNT_CFG_WIDTH : Fld := regs 0x100 16 2 .rw (.val 1) 0x4 64
def CNT_CFG_SAT : Fld := regs 0x100 18 1 .rw (.val 0) 0x4 64
def CNT_CFG_EN : Fld := regs 0x100 19 1 .rw (.val 0) 0x4 64
def VAL : Fld := regs 0x200 0 32 .rw (.val 0) 0x4 64
/-! Bits of INT_STATUS (i), STICKY (k). -/
def iOVF : Nat := 0
def iREC_READY : Nat := 1
def kCNT_SAT : Nat := 0
def kREC_FULL : Nat := 1
def fields0 : List Fld := [ CTRL_HOLD, CTRL_CNT_CLR, INT_STATUS, INT_ENABLE, STICKY, FAULT_CODE, OVF_LO, OVF_HI, TAG_CFG_EN, TAG_CFG_RATE_EXP, TAG_CFG_OPMASK, TAG_SEED, REC_HEAD, REC_COUNT, REC_RESERVED, REC_POP, TAGGED_CNT, TAG_MISSED, CNT_CFG_SEL, CNT_CFG_INST, CNT_CFG_WIDTH, CNT_CFG_SAT, CNT_CFG_EN, VAL ]
/-- Every field of the page, in table order. -/
def fields : List Fld := fields0
end PMC

namespace SEM
/-- Page index of SEM (R604). -/
def page : Nat := 0x5
/-! Fields of R602 (17_observation). -/
def CTRL_CNT_CLR : Fld := reg 0x008 0 1 .wo (.val 0)
def STICKY : Fld := reg 0x01C 0 2 .w1c (.val 0)
def FAULT_CODE : Fld := reg 0x020 0 8 .ro (.val 0)
def SEM_HOLDER : Fld := regs 0x040 0 8 .raq (.val 0) 0x4 32
def SEM_HELD_OTHER : Fld := regs 0x040 31 1 .raq (.val 0) 0x4 32
def SEM_REL_SEM : Fld := reg 0x0C0 0 5 .wo (.val 0)
def SEM_REL_GO : Fld := reg 0x0C0 31 1 .wo (.val 0)
def FORCE_REL_SEM : Fld := reg 0x0C4 0 5 .wo (.val 0)
def FORCE_REL_GO : Fld := reg 0x0C4 31 1 .wo (.val 0)
def HELD : Fld := reg 0x0C8 0 32 .ro (.val 0)
def CONTEST_CNT : Fld := reg 0x0CC 0 32 .ro (.val 0)
/-! Bits of INT_STATUS (i), STICKY (k). -/
def kCNT_SAT : Nat := 0
def kNOT_OWNER : Nat := 1
def fields0 : List Fld := [ CTRL_CNT_CLR, STICKY, FAULT_CODE, SEM_HOLDER, SEM_HELD_OTHER, SEM_REL_SEM, SEM_REL_GO, FORCE_REL_SEM, FORCE_REL_GO, HELD, CONTEST_CNT ]
/-- Every field of the page, in table order. -/
def fields : List Fld := fields0
end SEM

namespace STL
/-- Page index of STL (R604). -/
def page : Nat := 0x7
/-! Fields of R603 (17_observation). -/
def CTRL_FREEZE : Fld := reg 0x008 0 1 .w1s (.val 0)
def CTRL_RELEASE : Fld := reg 0x008 1 1 .wo (.val 0)
def STATUS_FROZEN : Fld := reg 0x00C 0 1 .ro (.val 0)
def STATUS_FREEZING : Fld := reg 0x00C 1 1 .ro (.val 0)
def STATUS_PIN : Fld := reg 0x00C 2 1 .ro (.val 0)
def STATUS_READOUT : Fld := reg 0x00C 3 1 .ro (.val 0)
def INT_STATUS : Fld := reg 0x010 0 2 .w1c (.val 0)
def INT_ENABLE : Fld := reg 0x014 0 2 .rw (.val 0)
def STICKY : Fld := reg 0x01C 0 1 .w1c (.val 0)
def FAULT_CODE : Fld := reg 0x020 0 8 .ro (.val 0)
def FREEZE_TIME_LO : Fld := reg 0x040 0 32 .ro (.val 0)
def FREEZE_TIME_HI : Fld := reg 0x044 0 32 .ro (.val 0)
def FREEZE_CNT : Fld := reg 0x048 0 16 .ro (.val 0)
def READOUT_CNT : Fld := reg 0x048 16 16 .ro (.val 0)
def CHAIN_LEN : Fld := regs 0x04C 0 32 .ro (.val 0) 0x4 7
/-! Bits of INT_STATUS (i), STICKY (k). -/
def iFROZEN : Nat := 0
def iRELEASED : Nat := 1
def kCNT_SAT : Nat := 0
def fields0 : List Fld := [ CTRL_FREEZE, CTRL_RELEASE, STATUS_FROZEN, STATUS_FREEZING, STATUS_PIN, STATUS_READOUT, INT_STATUS, INT_ENABLE, STICKY, FAULT_CODE, FREEZE_TIME_LO, FREEZE_TIME_HI, FREEZE_CNT, READOUT_CNT, CHAIN_LEN ]
/-- Every field of the page, in table order. -/
def fields : List Fld := fields0
end STL

namespace PPC
/-- Page index of PPC (R604). -/
def page : Nat := 0x68
/-! Fields of R617 (18_register_pages). -/
def CTRL_HALT : Fld := reg 0x008 0 4 .rw (.val 0)
def CTRL_CNT_CLR : Fld := reg 0x008 4 1 .wo (.val 0)
def STATUS_RUNNING : Fld := reg 0x00C 0 4 .ro (.val 0)
def STATUS_WFI : Fld := reg 0x00C 4 4 .ro (.val 0)
def STATUS_HALTED : Fld := reg 0x00C 8 4 .ro (.val 0)
def INT_STATUS : Fld := reg 0x010 0 5 .w1c (.val 0)
def INT_ENABLE : Fld := reg 0x014 0 5 .rw (.val 0)
def STICKY : Fld := reg 0x01C 0 2 .w1c (.val 0)
def FAULT_CODE : Fld := reg 0x020 0 8 .ro (.val 0)
def PC_LO : Fld := regs 0x040 0 32 .ro (.val 0) 0x8 4
def PC_HI : Fld := regs 0x044 0 32 .ro (.val 0) 0x8 4
def INSTRET_LO : Fld := regs 0x060 0 32 .ro (.val 0) 0x8 4
def INSTRET_HI : Fld := regs 0x064 0 32 .ro (.val 0) 0x8 4
def L2_HIT_CNT : Fld := reg 0x080 0 32 .ro (.val 0)
def L2_MISS_CNT : Fld := reg 0x084 0 32 .ro (.val 0)
def BERR_ADDR_ADDR : Fld := reg 0x0A0 0 24 .ro (.val 0)
def BERR_ADDR_WRITE : Fld := reg 0x0A0 31 1 .ro (.val 0)
def BERR_INFO_REQ : Fld := reg 0x0A4 0 8 .ro (.val 0)
def BERR_INFO_CAUSE : Fld := reg 0x0A4 8 4 .ro (.val 0)
def BERR_DATA : Fld := reg 0x0A8 0 32 .ro (.val 0)
def BERR_TIME_LO : Fld := reg 0x0AC 0 32 .ro (.val 0)
def BERR_TIME_HI : Fld := reg 0x0B0 0 32 .ro (.val 0)
def BERR_CNT : Fld := reg 0x0B4 0 32 .ro (.val 0)
def BERR_REQ : Fld := reg 0x0B8 0 28 .w1c (.val 0)
def PEND : Fld := regs 0x100 0 32 .ro (.val 0) 0x4 8
def ROUTE_VECTOR : Fld := regs 0x400 0 5 .rw (.val 0) 0x4 256
def ROUTE_MSIX_EN : Fld := regs 0x400 5 1 .rw (.val 0) 0x4 256
def ROUTE_INT_N_EN : Fld := regs 0x400 6 1 .rw (.byAddr 0 [(0x68484, 1), (0x68488, 1)]) 0x4 256
def ROUTE_CORE_MASK : Fld := regs 0x400 8 4 .rw (.val 0xF) 0x4 256
/-! Bits of INT_STATUS (i), STICKY (k). -/
def iCORE_FAULT : Nat := 0
def iBUS_ERR : Nat := 4
def kCNT_SAT : Nat := 0
def kBERR_OVF : Nat := 1
def fields0 : List Fld := [ CTRL_HALT, CTRL_CNT_CLR, STATUS_RUNNING, STATUS_WFI, STATUS_HALTED, INT_STATUS, INT_ENABLE, STICKY, FAULT_CODE, PC_LO, PC_HI, INSTRET_LO, INSTRET_HI, L2_HIT_CNT, L2_MISS_CNT, BERR_ADDR_ADDR, BERR_ADDR_WRITE, BERR_INFO_REQ, BERR_INFO_CAUSE, BERR_DATA, BERR_TIME_LO, BERR_TIME_HI, BERR_CNT, BERR_REQ, PEND, ROUTE_VECTOR, ROUTE_MSIX_EN, ROUTE_INT_N_EN, ROUTE_CORE_MASK ]
/-- Every field of the page, in table order. -/
def fields : List Fld := fields0
end PPC

namespace FMT
/-- Page index of FMT (R604). -/
def page : Nat := 0xE0
/-! Fields of R618 (18_register_pages). -/
def STATUS_STATE : Fld := reg 0x00C 0 3 .ro (.val 0)
def STATUS_UNCLEAN : Fld := reg 0x00C 3 1 .ro (.val 0)
def STATUS_BLANK : Fld := reg 0x00C 4 1 .ro (.val 0)
def STATUS_READ_ONLY : Fld := reg 0x00C 5 1 .ro (.val 0)
def STATUS_LEGACY : Fld := reg 0x00C 6 1 .ro (.val 0)
def INT_STATUS : Fld := reg 0x010 0 4 .w1c (.val 0)
def INT_ENABLE : Fld := reg 0x014 0 4 .rw (.val 0)
def STICKY : Fld := reg 0x01C 0 1 .w1c (.val 0)
def FAULT_CODE : Fld := reg 0x020 0 8 .ro (.val 0)
def MEDIA_VARIANT : Fld := reg 0x040 0 8 .ro (.val 0)
def MEDIA_PROFILE : Fld := reg 0x040 8 16 .ro (.val 0)
def MEDIA_LAYERS : Fld := reg 0x040 24 4 .ro (.val 0)
def DISC_ID_LO : Fld := reg 0x044 0 32 .ro (.val 0)
def DISC_ID_HI : Fld := reg 0x048 0 32 .ro (.val 0)
def LAST_LBA : Fld := reg 0x04C 0 32 .ro (.val 0)
def SEAL_SEAL_0 : Fld := reg 0x050 0 2 .ro (.val 0)
def SEAL_SEAL_1 : Fld := reg 0x050 2 2 .ro (.val 0)
def SEAL_COPIES_0 : Fld := reg 0x050 4 2 .ro (.val 0)
def SEAL_COPIES_1 : Fld := reg 0x050 6 2 .ro (.val 0)
def ENC_DESC : Fld := reg 0x054 0 2 .ro (.val 0)
def ENC_KEY_LOADED : Fld := reg 0x054 2 1 .ro (.val 0)
def ENC_WITHHELD : Fld := reg 0x054 3 3 .ro (.val 0)
def WRAP_ID : Fld := regs 0x058 0 32 .ro (.val 0) 0x4 4
def MOUNT_FAIL_CAUSE : Fld := reg 0x068 0 4 .ro (.val 0)
def MOUNT_FAIL_STEP : Fld := reg 0x068 4 4 .ro (.val 0)
def MOUNT_MS : Fld := reg 0x06C 0 16 .ro (.val 0)
def INTENTS_DONE : Fld := reg 0x070 0 8 .ro (.val 0)
def INTENTS_ABANDONED : Fld := reg 0x070 8 8 .ro (.val 0)
def INTENTS_LEFT : Fld := reg 0x070 16 8 .ro (.val 0)
def DCZ_FREE_0 : Fld := reg 0x074 0 16 .ro (.val 0)
def DCZ_FREE_1 : Fld := reg 0x074 16 16 .ro (.val 0)
def SPARE_FREE_0 : Fld := reg 0x078 0 32 .ro (.val 0)
def SPARE_FREE_1 : Fld := reg 0x07C 0 32 .ro (.val 0)
def MOUNT_CNT : Fld := reg 0x080 0 32 .ro (.val 0)
def DLGEN : Fld := regs 0x100 0 32 .ro (.val 0) 0x4 16
/-! Bits of INT_STATUS (i), STICKY (k). -/
def iMOUNTED : Nat := 0
def iUNMOUNTED : Nat := 1
def iMOUNT_FAIL : Nat := 2
def iSEAL_CHANGE : Nat := 3
def kCNT_SAT : Nat := 0
def fields0 : List Fld := [ STATUS_STATE, STATUS_UNCLEAN, STATUS_BLANK, STATUS_READ_ONLY, STATUS_LEGACY, INT_STATUS, INT_ENABLE, STICKY, FAULT_CODE, MEDIA_VARIANT, MEDIA_PROFILE, MEDIA_LAYERS, DISC_ID_LO, DISC_ID_HI, LAST_LBA, SEAL_SEAL_0, SEAL_SEAL_1, SEAL_COPIES_0, SEAL_COPIES_1, ENC_DESC, ENC_KEY_LOADED, ENC_WITHHELD, WRAP_ID, MOUNT_FAIL_CAUSE, MOUNT_FAIL_STEP, MOUNT_MS, INTENTS_DONE, INTENTS_ABANDONED, INTENTS_LEFT, DCZ_FREE_0, DCZ_FREE_1, SPARE_FREE_0, SPARE_FREE_1, MOUNT_CNT, DLGEN ]
/-- Every field of the page, in table order. -/
def fields : List Fld := fields0
end FMT

end Sys2Proof.Machine
end

