-- ==== Sys2Proof/Machine/Store.lean ====
section
/-!
DEFINITION. Sparse data by key: a list of key and value pairs, keys strictly rising.
Registers, memories and per-instance records are all held in one.
-/
namespace Sys2Proof.Machine

/-- Values by key, keys strictly rising. -/
abbrev Store (α : Type) := List (Nat × α)

/-- The value stored under a key, or none. -/
def Store.find {α : Type} : Store α → Nat → Option α
  | [], _ => none
  | (k', v) :: m, k => if k' = k then some v else Store.find m k

/-- The store with the key's entry removed. -/
def Store.erase {α : Type} : Store α → Nat → Store α
  | [], _ => []
  | (k', v) :: m, k => if k' = k then Store.erase m k else (k', v) :: Store.erase m k

/-- The store with the key's entry set. -/
def Store.insert {α : Type} : Store α → Nat → α → Store α
  | [], k, v => [(k, v)]
  | (k', v') :: m, k, v =>
    if k' = k then (k, v) :: m else if k < k' then (k, v) :: (k', v') :: m else (k', v') :: Store.insert m k v

/-- What a key reads as; an unlisted key reads as `d`. -/
def Store.get {α : Type} (m : Store α) (k : Nat) (d : α) : α := (m.find k).getD d

/-- The store after a write; a value equal to what an unlisted key reads as is not listed. -/
def Store.put {α : Type} [DecidableEq α] (m : Store α) (k : Nat) (v d : α) : Store α :=
  if v = d then m.erase k else m.insert k v

/-- Keys strictly rise. -/
def Store.sorted {α : Type} : Store α → Bool
  | [] => true
  | [_] => true
  | (k, _) :: (k', v') :: m => decide (k < k') && Store.sorted ((k', v') :: m)

/-- The canonical form: keys strictly rise and no entry equals what an unlisted key reads as. -/
def Store.wf {α : Type} [DecidableEq α] (d : α) (m : Store α) : Bool :=
  m.sorted && m.all (fun kv => decide (kv.2 ≠ d))

/-- The keys listed. -/
def Store.keys {α : Type} (m : Store α) : List Nat := m.map Prod.fst

/-- The store without the keys that `p` picks. -/
def Store.dropKeys {α : Type} (p : Nat → Bool) (m : Store α) : Store α := m.filter (fun kv => !p kv.1)

end Sys2Proof.Machine
end

