-- ==== Sys2Proof/Machine/State.lean ====
section
/-!
DEFINITION. The machine's state as plain data, and the state right after reset.
Register fields are held in `regs` by page and place; an unlisted field reads as its reset value (Fields files).
Every other field holds state that the spec gives the machine outside the register window.
Default values are the reset values.
-/
namespace Sys2Proof.Machine

/-- An event on its way to the recorder front end (R580, R581). -/
structure Ev where
  code : Nat
  src : Nat
  p0 : Nat
  p1 : Nat
  p2 : Nat
  /-- Posted through POST_CTRL (R583). -/
  posted : Bool
  deriving DecidableEq, Repr

/-- An MSI-X table entry (R457, PCIe MSI-X); after reset an entry is masked. -/
structure MsixEntry where
  addr : Nat := 0
  data : Nat := 0
  masked : Bool := true
  deriving DecidableEq, Repr

/-- What the block sends out, oldest first in `State.out`. -/
inductive Out
  /-- An MSI-X message (R616, R423). -/
  | msix (vector addr data : Nat)
  /-- A register-window read's data, to its requester (R611, R613). -/
  | readData (req data : Nat)
  /-- Bytes shifted out of the test access port (R594, R595). -/
  | tap (bits : Nat)
  /-- Levels driven on the balls by EXTEST, in the order of the boundary register (R594). -/
  | pins (bits : Nat)
  /-- A control message on an HTX lane (R101). -/
  | htxMsg (head type tag args : Nat)
  /-- A subframe on an ACL (R110, R112). -/
  | acl (head coil value tick : Nat) (hold safe : Bool)
  /-- A training frame control field on an HTX lane (R93). -/
  | training (head : Nat)
  /-- Invalid samples delivered to a beam channel or wobble stream (R88). -/
  | missing (head stream count : Nat)
  /-- A sled's commanded position, 1/256 µm (R223). -/
  | sledStep (sled : Nat) (pos : Int)
  /-- Write symbols of a frame slot on a beam (R99, R330). -/
  | symbols (head beam : Nat) (syms : List Nat)
  /-- A whole cluster recorded at a slot other than by the encoder's stream: a DCZ block or a replacement, as 480 frames. -/
  | recorded (psa : Nat) (frames : List (List Nat))
  /-- The line cache's answer to a read: bytes, or none for a poisoned response or a bus error (R363, R374). -/
  | cacheData (cls addr : Nat) (data : Option (List Nat))
  /-- A write to host memory (R416, R427, R447). -/
  | hostWrite (addr : Nat) (data : List Nat)
  /-- A completion entry written: ring, place, whether in buffer memory, and its 32 bytes (R422). -/
  | entry (ring tail addr : Nat) (loc : Bool) (data : List Nat)
  /-- Data bytes to the host on an MMC-based port: 0 UAS, 1 BOT, 2 SATA (R464). -/
  | portData (port id : Nat) (bytes : List Nat)
  /-- SCSI status and sense of an MMC command: status, key, ASC, ASCQ, INFORMATION when VALID (R468). -/
  | portStatus (port id status key asc ascq : Nat) (info : Option Nat)
  /-- An ATA command's end: error register, sector count, and data returned (R462). -/
  | ata (error count : Nat) (data : List Nat)
  /-- The packet signature after a reset of the SATA port (R462). -/
  | signature
  /-- A Set Device Bits FIS with N (R463). -/
  | notify
  /-- Bytes of a USB control transfer's data stage (R461). -/
  | usbControl (bytes : List Nat)
  /-- Bytes returned on the library port (R470, R471). -/
  | i3c (bytes : List Nat)
  /-- An in-band interrupt's bytes (R472). -/
  | ibi (bytes : List Nat)
  /-- A PMBus write: address, command code and data (R549, R551). -/
  | pmbus (addr code data : Nat)
  /-- An I3C completion or a stalled access performed for a requester after LULL (R537). -/
  | lateRead (req data : Nat)
  deriving DecidableEq, Repr

/-- An Intent Journal entry (R351). -/
structure Intent where
  op : Nat
  state : Nat
  side : Nat
  layer : Nat
  gen : Nat
  seq : Nat
  a : Nat
  b : Nat
  deriving DecidableEq, Repr

/-- A block of the Disc Control Zone recorded or read (R63, R64). -/
structure DczBlock where
  type : Nat
  side : Nat
  /-- Layer the block describes. -/
  layer : Nat
  gen : Nat
  seq : Nat
  /-- PSA of sector 0 of the slot it lies in. -/
  psa : Nat
  payload : List Nat
  deriving DecidableEq, Repr

/-- A relocation queued on a side (R311, R346, R351). -/
structure Reloc where
  home : Nat
  /-- Slots tried. -/
  tries : Nat := 0
  /-- PSA of sector 0 of the slot its payloads were read from. -/
  src : Nat
  /-- Payloads as recorded there. -/
  sectors : List (List Nat)
  /-- Requested by a failed verification (R356). -/
  verify : Bool := false
  deriving DecidableEq, Repr

/-- How a cluster read or write ended, for the commands that need it (R309, R346). -/
inductive ClKind | good | recovered | unrecovered | blank | written | writeFault | keyRequired
  deriving DecidableEq, Repr

/-- A cluster's end: its sectors that passed and their payloads, and whether the command layer has a poisoned sector. -/
structure ClusterEnd where
  kind : ClKind
  /-- Sectors that passed (R309). -/
  mask : Nat := 0xFFFFFFFF
  /-- Sectors that hold host data, from the trailer (R58). -/
  written : Nat := 0xFFFFFFFF
  /-- Payloads by sector. -/
  sectors : Store (List Nat) := []
  /-- Sectors of compressed streams, from header flag [7]. -/
  stream : Nat := 0
  /-- A written cluster whose verification has passed (R356). -/
  verified : Bool := false
  /-- Highest SQUALL rung reached, reads made, code of the event behind a failure and its reason (R443). -/
  rung : Nat := 0
  reads : Nat := 0
  cause : Nat := 0
  detail : Nat := 0
  deriving DecidableEq, Repr

/-- What the device knows of the mounted disc beyond the FMT page (R46, R63 to R69, R347 to R353). -/
structure DiscSt where
  variant : Nat := 0
  id : Nat := 0
  /-- Sides that hold a Disc Identity, one bit each. -/
  identities : Nat := 0
  /-- Seal layers that hold a valid Encryption Descriptor, bit 8 × side + layer. -/
  descriptors : Nat := 0
  /-- State of the Encryption Descriptor, when one governs (R67). -/
  enc : Option Nat := none
  /-- Replacement by home cluster, of the governing Defect Lists (R62). -/
  defects : Store Nat := []
  /-- Replacements verified whose Defect List generation is not yet recorded. -/
  pending : Store Nat := []
  /-- Replacement slots named in relocation entries of the journal. -/
  named : List Nat := []
  /-- DCZ slots used, per side-layer (8 × side + layer). -/
  dczUsed : Store Nat := []
  /-- Next DCZ sequence number. -/
  dczSeq : Nat := 1
  /-- Blocks recorded, or read at mount, oldest first. -/
  blocks : List DczBlock := []
  /-- Journal entries, oldest first. -/
  intents : List Intent := []
  /-- Clusters recorded since the mount, by PSA of sector 0: their write sequence numbers. -/
  written : Store Nat := []
  /-- One more than the highest unit recorded per side-layer (R355). -/
  highWater : Store Nat := []
  /-- Relocations queued, oldest first. -/
  relocs : List Reloc := []
  /-- A user cluster has been recorded on the disc. -/
  userWritten : Bool := false
  /-- Seal layers that hold a valid Seal Record copy, bit 8 × side + layer (R68). -/
  sealCopies : Nat := 0
  /-- Next writable address of a BD-R disc (R350). -/
  nwa : Option Nat := none
  /-- Reserved recording ranges of a BD-R disc: next writable address and end (R350, R465). -/
  ranges : List (Nat × Nat) := []
  /-- Sides a SEAL waits for under R352, one bit each. -/
  sealWait : Nat := 0
  deriving DecidableEq, Repr

/-- A tick value handed to the servo island: eight segment means and the lane's validity (R83). -/
structure TickVal where
  vals : List Nat
  valid : Bool
  deriving DecidableEq, Repr

/-- An HSL lane beyond its page (R82, R83, R87, R88, R106). -/
structure LaneSt where
  /-- WINDOW of the last slot received. -/
  window : Option Nat := none
  /-- Consecutive invalid slots. -/
  badSlots : Nat := 0
  /-- Consecutive uncorrectable codewords. -/
  badCws : Nat := 0
  /-- Codewords decoded in a row, for the lock of R94 step 4. -/
  goodCws : Nat := 0
  /-- Valid slots in a row, for the lock of R94 step 4. -/
  goodSlots : Nat := 0
  /-- Samples of the last valid slot. -/
  samples : List Nat := []
  /-- Consecutive valid slots with those samples. -/
  same : Nat := 0
  /-- Per-segment sums of the current tick's valid slots. -/
  sums : List Nat := []
  /-- Valid slots in the current tick. -/
  valid : Nat := 0
  /-- Consecutive invalid ticks. -/
  badTicks : Nat := 0
  /-- Tick values waiting at the crossing, oldest first, at most two. -/
  crossing : List TickVal := []
  /-- Training: frames found, ready and last seen (R93, R94). -/
  found : Bool := false
  ready : Bool := false
  last : Bool := false
  /-- The tick value last presented to the servo island (R159). -/
  cur : TickVal := ⟨[], false⟩
  /-- Last SEQ per stream. -/
  seqs : Store Nat := []
  /-- Consecutive ms above DEG_THR. -/
  degMs : Nat := 0
  deriving DecidableEq, Repr

/-- A control message awaiting its answer (R101). -/
structure Msg where
  type : Nat
  args : Nat
  tag : Nat
  /-- Times sent. -/
  sends : Nat
  /-- Sent for HTX.MSG_CTRL (R103). -/
  own : Bool
  deriving DecidableEq, Repr

/-- A head's links beyond their pages (R93 to R116). -/
structure LinkSt where
  /-- Bring-up attempts since the group was started. -/
  attempts : Nat := 0
  /-- Control messages outstanding. -/
  msgs : List Msg := []
  /-- Next control message tag. -/
  tag : Nat := 0
  /-- Power table confirmed by the front end: key 8 × beam + level, 10 µW units (R99, R334). -/
  power : Store Nat := []
  /-- Emitter selected (R101). -/
  emitter : Nat := 0
  /-- GAP flag of the HTX slots. -/
  gap : Bool := false
  /-- RF rate last sent by SET_FS, MS/s (R89). -/
  fs : Nat := 0
  /-- WRITE_ARM sent: window index, symbol offset, START_SEQ (R100). -/
  arm : Option (Nat × Nat × Nat) := none
  /-- HTX slots sent carry KILL (R104). -/
  killSlots : Bool := false
  /-- SAFE held by FLT_N until the head is restarted (R115). -/
  fltSafe : Bool := false
  /-- Front-end temperature, signed 0.125 °C (R86). -/
  feTemp : Int := 0
  /-- FLT_N pin asserted. -/
  fltPin : Bool := false
  /-- Tick count of the link, modulo 16 (R110). -/
  tick : Nat := 0
  /-- Coils whose engine issued a command since the last tick, with VALUE, HOLD and SAFE (R112). -/
  coilCmd : Store (Nat × Bool) := []
  /-- Device time of the last command released (R113). -/
  released : Option Nat := none
  deriving DecidableEq, Repr

/-- A cluster being recorded or waiting to be recorded again (R345, R346, R646). -/
structure Emission where
  /-- PSA of sector 0 of the slot. -/
  psa : Nat
  /-- PSA of sector 0 of the home slot. -/
  home : Nat
  /-- A DCZ block rather than a user cluster. -/
  dcz : Bool := false
  /-- Write sequence number. -/
  wseq : Nat := 0
  /-- Frame slots emitted. -/
  frames : Nat := 0
  /-- Replacement slots tried since it was abandoned (R346, R351). -/
  tries : Nat := 0
  deriving DecidableEq, Repr

/-- A head's recording beyond its pages (R342 to R346, R334). -/
structure RecSt where
  /-- Clusters in emission, one a lane. -/
  emitting : List Emission := []
  /-- Cause of the suspension in force (R343). -/
  suspended : Option Nat := none
  /-- Revolutions the suspension has lasted. -/
  suspRevs : Nat := 0
  /-- Clusters abandoned and not yet recorded again. -/
  abandoned : List Emission := []
  /-- A power entry failed: nothing is recorded until CTRL.EN is written 0 then 1 (R334). -/
  blocked : Bool := false
  /-- Power entries of the table in force not yet confirmed: key 8 × beam + level (R334). -/
  unsent : Store Nat := []
  /-- The head recorded in the revolution just ending (R336). -/
  recorded : Bool := false
  /-- Write symbols of a boost are being sent (R337). -/
  boosting : Bool := false
  deriving DecidableEq, Repr

/-- The condition flags of a control engine that its instructions set (R122, R126); H and PF are STATUS.H and STATUS.PF. -/
structure Flags where
  n : Bool := false
  z : Bool := false
  v : Bool := false
  c : Bool := false
  deriving DecidableEq, Repr

/-- A register access an engine has issued (R128). -/
structure RgOp where
  addr : Nat
  /-- Data of an RGS; none for an RGL. -/
  data : Option (BitVec 32)
  /-- Destination of an RGL. -/
  dest : Nat
  /-- The two-level micro-word whose slot 3 issued it; it writes nothing before the access completes (R135, R145). -/
  nano : Option (BitVec 32) := none
  deriving DecidableEq, Repr

/-- The registers of a control engine (R122). -/
structure Regs where
  q : Store (BitVec 32) := []
  ac0 : BitVec 72 := 0
  ac1 : BitVec 72 := 0
  x : Store (BitVec 12) := []
  flags : Flags := {}
  /-- Return stack entries 0 to 7, and the return stack pointer, 0 to 8. -/
  stack : Store (BitVec 13) := []
  sp : Nat := 0
  deriving DecidableEq, Repr

/-- A customer routine running: what was saved at entry, and its counts (R142, R143). -/
structure Cust where
  saved : Regs
  ret : BitVec 13
  hook : Nat
  /-- Nested CALLs inside the region. -/
  depth : Nat := 0
  deriving DecidableEq, Repr

/-- A control engine beyond its page (R122 to R155). -/
structure EngSt where
  r : Regs := {}
  cust : Option Cust := none
  /-- Mask of the WAIT in force. -/
  mask : Nat := 0
  /-- Events kept for the next WAIT, one per bit. -/
  events : Nat := 0
  /-- Port 0xF0. -/
  woke : Nat := 0
  /-- Frames latched. -/
  frameSeq : Nat := 0
  rg : Option RgOp := none
  /-- Last value written to each output port. -/
  ports : Store (BitVec 32) := []
  /-- Cycles since the last tick (CYC_MAX). -/
  cyc : Nat := 0
  /-- Registers whose result of the word before is not ready yet: Q0 to Q15 are 0 to 15, AC0 and AC1 16 and 17 (R128). -/
  late : List Nat := []
  /-- State the engine was in when it was halted. -/
  before : Nat := 1
  /-- A CRC of the customer region is being computed. -/
  arming : Bool := false
  /-- Monitor: p[k−1], p[k−2], consecutive exceedings, seeded, and u of the last ticks, newest first (R153 to R155). -/
  p1 : Int := 0
  p2 : Int := 0
  exceed : Nat := 0
  seeded : Bool := false
  us : List Int := []
  deriving DecidableEq, Repr

/-- A profile generator channel beyond its page (R149 to R152). Units are channel units and ticks. -/
structure PgSt where
  pos : Rat := 0
  vel : Rat := 0
  acc : Rat := 0
  /-- What is left of the move: jerk and duration of each phase in turn. -/
  plan : List (Rat × Rat) := []
  /-- Position the move ends at. -/
  dest : Rat := 0
  /-- Ticks since the move, or the segment, began. -/
  ticks : Nat := 0
  /-- Ticks since the whole move began. -/
  total : Nat := 0
  /-- Segment in force as latched: duration, start position and velocity, end position and velocity. -/
  seg : Option (Nat × Rat × Rat × Rat × Rat) := none
  /-- TBL_LEN as latched at the segment's start. -/
  segs : Nat := 0
  /-- Limits of the channel in force: V, A, J, in units a second; none while the page's are. -/
  inForce : Option (Nat × Nat × Nat) := none
  deriving DecidableEq, Repr

/-- A loop engine's filter and counting state (R161, R164, R167, R171). -/
structure LoopSt where
  i : Int := 0
  v1 : Int := 0
  v2 : Int := 0
  w1a : Int := 0
  w1b : Int := 0
  w2a : Int := 0
  w2b : Int := 0
  /-- Ticks in a row outside the loss threshold. -/
  lossRun : Nat := 0
  /-- Ticks in a row inside SETTLE_THR. -/
  settleRun : Nat := 0
  /-- Ticks in a row with H. -/
  hRun : Nat := 0
  /-- Ticks in a row with the error's lane invalid. -/
  invalidRun : Nat := 0
  /-- Coil command when a jump began, Q1.31. -/
  held : Int := 0
  /-- Last coil command, Q1.31. -/
  u : Int := 0
  /-- Last error sampled for sign changes, and the ticks since its last change. -/
  last : Int := 0
  since : Nat := 0
  /-- Sign changes of TE in the last 64 ticks, newest in bit 0 (R168). -/
  crossings : Nat := 0
  /-- A ramp of the coil VALUE: from, to, ticks in all and ticks done; the loop enters PARKED at its end. -/
  ramp : Option (Int × Int × Nat × Nat) := none
  /-- Closed since capture and not yet reported settled (R165 step 4). -/
  fresh : Bool := false
  deriving DecidableEq, Repr

/-- The steps of a seek (R182): a layer jump, address confirmation, a coarse and a fine move, recapture, alignment. -/
inductive SeekStep | layer | confirm | coarse | fine | recapture | align
  deriving DecidableEq, Repr

/-- A seek in progress (R182). -/
structure Seek where
  group : Nat
  layer : Nat
  step : SeekStep
  fine : Nat := 0
  coarse : Nat := 0
  /-- Device time at GO. -/
  start : Nat := 0
  /-- A fine seek that follows failed gap jumps, made without a GO (R179). -/
  own : Bool := false
  deriving DecidableEq, Repr

/-- A layer jump in progress (R180). -/
structure Ljump where
  source : Nat
  target : Nat
  tries : Nat := 0
  /-- Step 3 is done: focus has reclosed. -/
  closed : Bool := false
  /-- Step 6 is done: the address is awaited. -/
  arrived : Bool := false
  deriving DecidableEq, Repr

/-- A head's motion beyond the SE pages (R165 to R183). -/
structure HeadSt where
  /-- Sweeps taken by the capture in progress. -/
  sweeps : Nat := 0
  seek : Option Seek := none
  ljump : Option Ljump := none
  /-- d of the gap jump in progress. -/
  jump : Option Int := none
  /-- Consecutive failed gap jumps. -/
  gjFails : Nat := 0
  /-- Frames read up to the next gap are discarded (R179). -/
  discard : Bool := false
  /-- WRITE_EN stays 0 for this revolution (R179). -/
  noWrite : Bool := false
  /-- Consecutive ticks valid on both lanes (R175 step 4). -/
  goodTicks : Nat := 0
  /-- Re-acquisitions made since the lost-feedback path was taken. -/
  attempts : Nat := 0
  /-- A re-acquisition is running. -/
  reacquiring : Bool := false
  /-- Cause of the last lost-feedback path. -/
  lastCause : Nat := 0
  /-- The head has left service by a failed bring-up or re-acquisition, or by R433. -/
  out : Bool := false
  /-- Event 0x500A has been recorded for this episode (R433). -/
  oosTold : Bool := false
  /-- The defect flag H, at any time since the previous tick, as presented for this tick (R159, R164). -/
  hSeen : Bool := false
  /-- H at any time since the last tick, being gathered. -/
  hAcc : Bool := false
  /-- Consecutive deviating monitor samples per beam (R173). -/
  devRuns : Store Nat := []
  /-- Layer of a jump asked for during a gap jump (R180). -/
  ljumpPend : Option Nat := none
  /-- D0 track the next gap aligns to (R177, R179). -/
  align : Option Nat := none
  /-- D0 track wanted by the gap jump in progress. -/
  want : Nat := 0
  /-- Focus capture starts when the lens is retracted (R167). -/
  recapture : Bool := false
  /-- Table entries in force: TTILT and RTOFS of the zone, SA_PRESET of the layer (R172). -/
  ttilt : Int := 0
  rtofs : Int := 0
  preset : Int := 0
  /-- Layer the preset in force is for. -/
  presetLayer : Nat := 0
  /-- Ramp of the SA coil on a layer jump: from, to, ticks in all and ticks done (R172). -/
  saRamp : Option (Int × Int × Nat × Nat) := none
  /-- Last SA coil value. -/
  sa : Int := 0
  deriving DecidableEq, Repr

/-- The spindle beyond its pages (R199 to R221). -/
structure SpinSt where
  /-- Observer speed, signed, 1/16 rpm. -/
  obs : Int := 0
  /-- Comparator speed, signed, rpm. -/
  cmp : Int := 0
  /-- Measured currents, mA (R236). -/
  iq : Int := 0
  id' : Int := 0
  /-- The six gates are being switched. -/
  gates : Bool := false
  /-- Zero-vector braking is applied. -/
  zeroVector : Bool := false
  /-- BRK_G is on. -/
  brkG : Bool := false
  /-- Class of the last start, as event 0x2100 names it. -/
  startClass : Nat := 0
  /-- The SPINCMD ceiling in force, or none. -/
  ceiling : Option Nat := none
  /-- Target of R206 before the ceiling. -/
  wanted : Nat := 0
  /-- A write is queued to run next (R212). -/
  writeNext : Bool := false
  /-- Observer angle before the offset, 2^−16 revolution (R209). -/
  raw : Nat := 0
  /-- Target as the speed loop ramps it, 2^−16 rpm. -/
  ramped : Int := 0
  /-- Speed loop integrator, 2^−31 mA. -/
  integ : Int := 0
  /-- Consecutive reuse periods (R202). -/
  reuse : Nat := 0
  /-- Braking current is held at zero until the bus is below BRK_OFF (R216, R217). -/
  busHold : Bool := false
  /-- Device times of the last observer losses (R219). -/
  losses : List Nat := []
  /-- Device time of the STOP being run. -/
  stopAt : Nat := 0
  /-- The STOP being run coasts. -/
  coasting : Bool := false
  /-- SE8 is stopped and both current references ramp to zero (R221). -/
  refsOff : Bool := false
  /-- At rest: below 60 rpm with all gates off, from SPINDLE_STOPPED on (R208). -/
  rest : Bool := true
  /-- A SPINCMD stop request stopped it, so it starts again (R211). -/
  cmdStopped : Bool := false
  deriving DecidableEq, Repr

/-- Steps of homing (R229). -/
inductive HomeStep | none | release | search | backoff | approach | rebase
  deriving DecidableEq, Repr

/-- A sled beyond its page (R222 to R231). -/
structure SledSt where
  homing : HomeStep := .none
  /-- Position at which the homing step began, 1/256 µm. -/
  stepFrom : Rat := 0
  /-- Position in homing, 1/256 µm; POS is the microstep nearest it. -/
  at' : Rat := 0
  /-- Where the homing move in progress ends, when it has an end. -/
  goal : Option Rat := none
  /-- The position latched, before rebasing. -/
  lat : Rat := 0
  /-- The commanded position is clamped now (R223). -/
  soft : Bool := false
  /-- Raw HOME edges in the homing approach. -/
  edges : Nat := 0
  /-- Velocity, signed, 1/256 µm a tick. -/
  vel : Rat := 0
  /-- Position held by a hard stop, waiting for the channel to rest (R227). -/
  held : Option Int := none
  /-- Ticks at rest. -/
  rest : Nat := 0
  /-- Ticks in a row with LA above LA_HI. -/
  hiRun : Nat := 0
  /-- Ticks in a row with LA below LA_LO. -/
  loRun : Nat := 0
  /-- Ticks in a row meeting the stall condition. -/
  stallRun : Nat := 0
  /-- Ticks since the current last changed. -/
  stepAge : Nat := 0
  /-- The part of OFS below 1/256 µm that the follow loop has gathered (R224). -/
  ofsFrac : Rat := 0
  /-- Bridges energised. -/
  bridges : Bool := false
  /-- A homing asked for while a 12 V warning stood (R542). -/
  homeHeld : Bool := false
  deriving DecidableEq, Repr

/-- A channel bit on its way through a beam channel: its interpolated values and whether it lies in an erased span. -/
structure BitIn where
  own : Rat
  inner : Rat
  outer : Rat
  erased : Bool
  deriving DecidableEq, Repr

/-- A detected channel bit: its decision, its reliability (a positive one favours 1) and its erasure. -/
structure BitOut where
  mark : Bool
  lam : Rat
  erased : Bool
  deriving DecidableEq, Repr

/-- A survivor of the detector: its metric and its bits with their reliabilities, newest first (R254). -/
structure Survivor where
  metric : Rat
  path : List (Bool × Rat)
  deriving DecidableEq, Repr

/-- A beam channel beyond its page (R243 to R264). -/
structure ChanSt where
  /-- o, beta and G of R243. -/
  ofs : Rat := 0
  beta : Rat := 0
  gain : Rat := 1
  /-- Samples since the last update of o and G, and their sums of x and of abs(x3). -/
  n64 : Nat := 0
  sum64 : Rat := 0
  abs64 : Rat := 0
  /-- Samples since the last update of beta, and max and min of x1 over them. -/
  n256 : Nat := 0
  max256 : Rat := 0
  min256 : Rat := 0
  /-- The last samples of stage 3, oldest first. -/
  x3 : List Rat := []
  /-- S0 and f of R245 and R246. -/
  s0 : Rat := 0
  f : Rat := 0
  /-- Next interpolation instant, in samples from the oldest sample held. -/
  at' : Rat := 3
  /-- The last proportional timing term. -/
  prop : Rat := 0
  /-- Interpolated bits, newest first. -/
  bits : List BitIn := []
  /-- Equaliser outputs, newest first. -/
  ys : List Rat := []
  /-- The target in force, g0 to g4 (R253). -/
  target : List Int := [16, 48, 64, 48, 16]
  /-- The detector's sixteen survivors, by the four last bits. -/
  surv : List Survivor := []
  /-- Detected bits not yet cut into frames, oldest first. -/
  outs : List BitOut := []
  /-- Bits still to erase after a defect (R270). -/
  post : Nat := 0
  /-- Consecutive good and bad timing windows (R247). -/
  goodWin : Nat := 0
  badWin : Nat := 0
  /-- δ of the displaced mark pending (R261). -/
  prov : Option Int := none
  /-- Halves of the frame being framed that a slip erases. -/
  eraseHalf : Bool := false
  /-- Consecutive found marks whose identifier disagrees (R262). -/
  idRun : Nat := 0
  /-- Last window MSE (R252). -/
  lastMse : Nat := 0
  /-- A mark candidate was found in the frame slot. -/
  marked : Bool := false
  /-- Non-blank slots among slots 2 to 481 of the cluster slot (R264). -/
  nonBlank : Nat := 0
  /-- Frame slots since ENV_REF was updated (R268). -/
  refAge : Nat := 2
  /-- Revolutions since acquisition of timing, or of framing, began. -/
  acqRevs : Nat := 0
  /-- A CQI_LOW event was recorded in this revolution (R273). -/
  lowCqi : Bool := false
  /-- A gain change made in this revolution, and the quarter decibels the AGC gives up at the gap (R244). -/
  stepped : Bool := false
  gainStep : Option Int := none
  deriving DecidableEq, Repr

/-- A head defect recorded by CE2 or CE6 (R272). -/
structure HeadDefect where
  cslot : Nat
  frame : Nat
  bits : Nat
  beams : Nat
  envMin : Nat
  deriving DecidableEq, Repr

/-- A wobble word taken as a position candidate (R48). -/
structure WobCand where
  side : Nat
  layer : Nat
  track : Nat
  slot : Nat
  deriving DecidableEq, Repr

/-- A calibration sweep (R276). -/
structure Sweep where
  op : Nat
  layer : Nat
  zone : Nat
  /-- The value found at GO, restored at the end. -/
  origin : Int
  /-- CQI means of the points measured, in order. -/
  means : List Nat := []
  /-- Times the present point has been measured again for H. -/
  again : Nat := 0
  deriving DecidableEq, Repr

/-- A head's common unit and channel engines beyond their pages (R244 to R277). -/
structure CommonSt where
  /-- A link defect is present (R269). -/
  linkDef : Bool := false
  /-- Cluster slot and frame at the start of the defect in progress (R272). -/
  defCslot : Nat := 0
  defFrame : Nat := 0
  /-- Head defects held, oldest first, at most 16. -/
  fifo : List HeadDefect := []
  /-- The last candidate word of each carrier. -/
  cands : Store WobCand := []
  /-- The confirmed track of each carrier, stream 1's already reduced by 2 (R266). -/
  confirmed : Store Nat := []
  /-- Set of the new layer to load at the next gap (R252). -/
  eqLoad : Option Nat := none
  /-- The sweep in progress. -/
  sweep : Option Sweep := none
  /-- A value to write, or to restore, at the next gap (R276). -/
  calWrite : Option Int := none
  /-- Sled position at the last load of S0 on a legacy disc (R92). -/
  s0Pos : Nat := 0
  /-- The last wobble definition word: variant, maker, revision, write power class (R46). -/
  definition : Option (Nat × Nat × Nat × Nat) := none
  deriving DecidableEq, Repr

/-- A frame delivered to the decode island (R256). -/
structure FrameIn where
  /-- 1,536 code-bit LLRs. -/
  llrs : List Int
  /-- 192 erasure flags. -/
  flags : List Bool
  frame : Nat
  psa : Nat
  mse : Nat
  deriving DecidableEq, Repr

/-- A codeword as the decode island holds it (R291, R294). -/
structure CwSt where
  ok : Bool
  /-- 2,560 information bytes: decoded, or the hard decisions of a failed codeword; zeros for a skipped one. -/
  bytes : List Nat
  /-- Erasure flags of those bytes. -/
  flags : List Bool
  deriving DecidableEq, Repr

/-- A cluster held by SQUALL (R303). -/
structure HeldCl where
  /-- Reads so far, and the rung of the last. -/
  reads : Nat := 1
  rung : Nat := 0
  /-- Reads combined. -/
  combined : Nat := 1
  /-- Device time at which the ladder started. -/
  start : Nat := 0
  /-- Codewords kept: converged in some read. -/
  kept : Store CwSt := []
  /-- Sums of the LLRs of the others, by codeword. -/
  sums : Store (List Int) := []
  /-- The others as their last decoding left them. -/
  failed : Store CwSt := []
  /-- Bytes flagged in every read so far, of the others. -/
  flagged : Store (List Bool) := []
  /-- Sectors that have passed in any read, 2,064 bytes each. -/
  sectors : Store (List Nat) := []
  /-- SQ_TIME_MS has passed: the ladder ends after the read in progress. -/
  late : Bool := false
  /-- Rung 2 is due before the next read. -/
  calDue : Bool := false
  deriving DecidableEq, Repr

/-- Changes SQUALL makes for one revolution on a head, and what it found before them (R305). -/
structure SqChange where
  rung : Nat
  beam : Nat
  /-- Register values to put back, by field key. -/
  saved : Store Nat := []
  deriving DecidableEq, Repr

/-- SQUALL and the decode island beyond their pages (R291 to R312). -/
structure DecSt where
  /-- Clusters on their first read, by PSA of sector 0. -/
  reading : Store HeldCl := []
  /-- Clusters held, by PSA of sector 0. -/
  held : Store HeldCl := []
  /-- The backlog, oldest first: PSA of sector 0. -/
  backlog : List Nat := []
  /-- Changes due at a head's next gap, and changes in force to undo at it. -/
  due : Store SqChange := []
  active : Store SqChange := []
  /-- Device time of the last SQUALL calibration, by head, layer and zone. -/
  calAt : Store Nat := []
  /-- The mode to return to after rung 6. -/
  before : Option Nat := none
  /-- Rung 6 asks for ZEPHYR (R307). -/
  zephyr : Bool := false
  /-- CRC test: class and register of the open computation (R320). -/
  crcReg : Nat := 0
  deriving DecidableEq, Repr

/-- A cluster encoded and kept in staging (R324, R327). -/
structure Encoded where
  psa : Nat
  home : Nat
  kind : Nat
  wseq : Nat
  /-- Sectors the host supplied, stream number and flag [7], for its trailer and headers. -/
  mask : Nat
  stream : Nat
  comp : Bool
  lba : Option Nat
  /-- Its 32 sector payloads before the cipher, kept for a re-recording. -/
  sectors : List (List Nat)
  /-- Its 480 frames of 192 bytes. -/
  frames : List (List Nat)
  deriving DecidableEq, Repr

/-- What an OPC result's validity depends on (R338). -/
structure OpcSt where
  /-- Front-end temperature at installation, 0.125 °C. -/
  temp : Int := 0
  /-- A result has been installed at some time (R341). -/
  installed : Bool := false
  deriving DecidableEq, Repr

/-- A line of the line cache, by 16 × set + way; an invalid way is not listed (R362 to R369). -/
structure CLine where
  tag : Nat
  dirty : Bool := false
  /-- Under eviction: valid and dirty until DRAM reports the write complete (R367). -/
  evicting : Bool := false
  /-- Waiting for its fill data (R367). -/
  filling : Bool := false
  /-- Poisoned (R374). -/
  poison : Bool := false
  /-- 256 bytes, as a number, byte 0 least significant. -/
  data : Nat := 0
  /-- The line that takes the way when the eviction completes: its tag, and whether it is written whole (R364, R367). -/
  next : Option (Nat × Bool) := none
  deriving DecidableEq, Repr

/-- A request of the line cache (R365): a read of `len` bytes, or a write of the bytes given, within one line. -/
structure CacheReq where
  cls : Nat
  /-- Buffer address of the first byte. -/
  addr : Nat
  len : Nat
  /-- Bytes written, none for a read. -/
  data : Option (List Nat)
  deriving DecidableEq, Repr

/-- The memory island beyond its pages (R362 to R388). -/
structure MemSt where
  /-- Valid and reserved lines of the line cache. -/
  lines : Store CLine := []
  /-- Tree pseudo-LRU bits of each set: bit n for node n, 1 to 15. -/
  plru : Store Nat := []
  /-- Requests waiting on a line under eviction or filling, in the order they reached the cache. -/
  waits : List CacheReq := []
  /-- DRAM bytes by buffer address; an unlisted byte reads 0. -/
  dram : Store Nat := []
  /-- Lines of DRAM held poisoned (R388). -/
  poison : Store Bool := []
  /-- Device times of the DRAM and staging corrections of the last second, and of the last event (R379, R387). -/
  corrs : List Nat := []
  corrEv : Option Nat := none
  sbCorrs : List Nat := []
  sbEv : Option Nat := none
  /-- Staging buffers reserved: PSA of sector 0, head, and whether for a write (R376). -/
  bufs : Store (Nat × Nat × Bool) := []
  /-- Reservations waiting, oldest first: PSA, head, write. -/
  bufWaits : List (Nat × Nat × Bool) := []
  /-- The head served last while both waited. -/
  lastHead : Nat := 1
  /-- Staging bytes that differ from zero, and check fields that differ from a right one, as an exclusive or (R377). -/
  sdata : Store Nat := []
  serr : Store Nat := []
  /-- A maintenance operation is finishing its range: lines to report. -/
  maint : Nat := 0
  deriving DecidableEq, Repr

/-- A compression lane's job beyond its page (R397 to R409). -/
structure LaneJob where
  inflate : Bool := false
  level : Nat := 6
  align : Bool := false
  verify : Bool := true
  recMax : Nat := 65536
  block : Nat := 16384
  src : Nat := 0
  srcLen : Nat := 0
  tag : Nat := 0
  /-- The leg's output: destination and chain. -/
  dst : Nat := 0
  dstLen : Nat := 0
  chain : Nat := 0
  chainLen : Nat := 0
  /-- Input before the record in progress. -/
  taken : Nat := 0
  /-- Index of the record in progress, and its output bytes written. -/
  recIx : Nat := 0
  recOut : Nat := 0
  /-- A flush pending: a record flush or a block flush. -/
  flush : Option Bool := none
  deriving DecidableEq, Repr

/-- A claim or a semaphore (R414, R478, R495, R596, R597). -/
structure Claim where
  holder : Option Nat := none
  /-- Device time at which it was acquired. -/
  taken : Nat := 0
  /-- The requester that last won a contest for it. -/
  won : Option Nat := none
  /-- Commands submitted under it. -/
  count : Nat := 0
  deriving DecidableEq, Repr

/-- A cluster request in the pool (R428). -/
structure ClReq where
  tag : Nat
  /-- Cluster index in LBA order. -/
  cluster : Nat
  /-- PSA of sector 0 of the cluster's home; on a legacy disc, its first LBA. -/
  home : Nat
  /-- Zone ring; none on a legacy disc. -/
  ring : Option Nat
  write : Bool
  /-- Device time at which it was appended to its ring; none while a write's data are awaited. -/
  queued : Option Nat := none
  /-- Recorded, and its verification awaited (R356). -/
  recorded : Bool := false
  /-- A write's sectors held and their payloads, before the cipher. -/
  mask : Nat := 0
  sectors : List (List Nat) := []
  deriving DecidableEq, Repr

/-- An offload's job (R447): the block's fields, the buffer area used, and its lane once it runs. -/
structure Offload where
  src : Nat
  srcLen : Nat
  dstLen : Nat
  dst : Nat
  data : List Nat
  work : Nat
  lane : Option Nat := none
  deriving DecidableEq, Repr

/-- An MMC command that a native command carries out (R464): its port (0 UAS, 1 BOT, 2 SATA), its UAS tag and opcode. -/
structure PortJob where
  port : Nat
  id : Nat
  op : Nat
  deriving DecidableEq, Repr

/-- An outstanding command (R415 to R447). -/
structure Cmd where
  /-- Its place in the order of acceptance, from 1. -/
  n : Nat
  req : Nat
  op : Nat
  flags : Nat := 0
  cq : Nat := 0
  lba : Nat := 0
  count : Nat := 0
  host : Nat := 0
  stream : Nat := 0
  arg0 : Nat := 0
  arg1 : Nat := 0
  xchk : Nat := 0
  /-- Device time of its acceptance. -/
  time : Nat := 0
  /-- First LBA and sectors of its range, once placed (R435). -/
  first : Nat := 0
  sectors : Nat := 0
  placed : Bool := true
  /-- TAG_STATE.PHASE: 0 queued, 1 running, 2 stopping, 3 awaiting ring space. -/
  phase : Nat := 0
  /-- Clusters expanded into requests. -/
  expanded : Nat := 0
  /-- Ends of its clusters, by cluster index. -/
  ends : Store ClusterEnd := []
  /-- Bytes taken from the host, by cluster index. -/
  raw : Store (List Nat) := []
  /-- The transfer check has passed (R316). -/
  checked : Bool := false
  /-- Segments fetched, address and length; the last entry has been fetched; entries that link (R416). -/
  segs : List (Nat × Nat) := []
  segEnd : Bool := false
  links : Nat := 0
  /-- Clusters transferred, or ended without a transfer. -/
  moved : List Nat := []
  /-- Outcomes of the command itself (R426). -/
  outcomes : List Nat := []
  /-- The command has no more to do but complete. -/
  ended : Bool := false
  aux : Nat := 0
  done : Nat := 0
  trunc : Bool := false
  headOos : Bool := false
  /-- Transfer length in bytes (R415). -/
  len : Nat := 0
  /-- Records a compressed write's data compress to (R410). -/
  recd : List Nat := []
  /-- It waits for a disc (R565). -/
  waitDisc : Bool := false
  /-- DETAIL of its error log entry, where no cluster gives one (R447). -/
  detail : Nat := 0
  /-- Status, from the moment its outcome is final, and the error log index. -/
  status : Option Nat := none
  errIx : Option Nat := none
  offload : Option Offload := none
  job : Option PortJob := none
  /-- Sides of a SEAL: 0 waiting, 1 past step 1, 2 ended; and its verified copies. -/
  sides : Store (Nat × Nat) := []
  /-- Stage times of R590 and the record reserved. -/
  tRing : Option Nat := none
  tFirst : Option Nat := none
  tLast : Option Nat := none
  made : Nat := 0
  held : Nat := 0
  slot : Option Nat := none
  deriving DecidableEq, Repr

/-- An open write stream (R434 to R437). -/
structure Strm where
  /-- First LBA and LBA after the last of its extent. -/
  first : Nat
  stop : Nat
  next : Nat
  compressed : Bool := false
  level : Nat := 0
  /-- Sectors holding data. -/
  written : Nat := 0
  /-- Resident slot. -/
  slot : Option Nat := none
  /-- Acceptance number of the command that used it last. -/
  used : Nat := 0
  deriving DecidableEq, Repr

/-- A completion ring as latched at its enabling, and its coalescing (R422 to R424). -/
structure CplRing where
  base : Nat := 0
  loc : Bool := false
  exp : Nat := 4
  /-- Entries since the last message, and the device time of the first. -/
  unsig : Nat := 0
  since : Option Nat := none
  /-- A full episode is in progress. -/
  full : Bool := false
  deriving DecidableEq, Repr

/-- A restart in progress: its ACTION, the tags being discarded and how many (R442). -/
structure Restart where
  action : Nat
  tags : List Nat
  count : Nat
  deriving DecidableEq, Repr

/-- A self-test in progress (R444, R445). -/
structure SelfTest where
  tag : Nat
  extended : Bool
  /-- Statuses the segments end with, from segment 1. -/
  plan : List Nat := []
  /-- It yields to other commands. -/
  yielding : Bool := false
  deriving DecidableEq, Repr

/-- The command layer beyond its pages (R414 to R447, R590). -/
structure CmdSt where
  /-- Commands accepted since power-on reset. -/
  n : Nat := 0
  /-- Outstanding commands by tag, and their tags in order of acceptance. -/
  cmds : Store Cmd := []
  order : List Nat := []
  /-- The pool of cluster requests; those on rings in the order they were appended. -/
  reqs : List ClReq := []
  strms : Store Strm := []
  /-- Commands waiting for a stream context (R436). -/
  ctxWait : List Nat := []
  rings : Store CplRing := []
  /-- Tags whose completions wait for a ring, in the order they became final. -/
  posts : List Nat := []
  /-- Frozen requesters: the acceptance number of the failing command (R441). -/
  frozen : Store Nat := []
  restarts : Store Restart := []
  test : Option SelfTest := none
  /-- Log entries not yet overwritten and not read: the number written since OVERWRITTEN was last set. -/
  unread : Nat := 0
  /-- A CALM or LULL request deferred: the mode and the SET_MODE's tag (R446). -/
  deferred : Option (Nat × Option Nat) := none
  /-- LFSR of R590, and records by entry, 32 bytes each. -/
  lfsr : Nat := 1
  recs : Store (List Nat) := []
  deriving DecidableEq, Repr

/-- An unload in progress (R474): device time of its trigger, the step reached, and how many commands had been accepted. -/
structure Unload where
  since : Nat
  step : Nat
  last : Nat
  /-- Step 1 was run: CLAMP_REQ, not LoEj, asked for it. -/
  pend : Bool
  /-- START STOP UNIT commands with LoEj that it ends. -/
  jobs : List PortJob := []
  deriving DecidableEq, Repr

/-- Sense data (R468): key, ASC, ASCQ, and INFORMATION when VALID. -/
structure Sense where
  key : Nat := 0
  asc : Nat := 0
  ascq : Nat := 0
  info : Option Nat := none
  deriving DecidableEq, Repr

/-- The host and library ports beyond their pages (R455 to R481). -/
structure PortSt where
  /-- Pending media events, and power events with their status, oldest first (R469). -/
  media : List Nat := []
  power : List (Nat × Nat) := []
  /-- Removal is prevented (R465). -/
  prevent : Bool := false
  sense : Sense := {}
  /-- Bytes of mode pages 0x01, 0x1A and 0x2A after their two header bytes (R465). -/
  pages : Store (List Nat) := []
  /-- The host has enabled asynchronous notification and device-initiated power management (R462, R463). -/
  ataNotify : Bool := false
  ataPm : Bool := false
  /-- Transfer mode set by SET FEATURES. -/
  ataXfer : Nat := 0
  /-- SLEEP: only COMRESET is answered (R462). -/
  ataAsleep : Bool := false
  /-- PCIe command and control registers written by the host beyond PCIE_STATE (R457). -/
  pcie : Store Nat := []
  unload : Option Unload := none
  /-- The library command's response: status byte and data (R471). -/
  resp : Option (List Nat) := none
  /-- In-band interrupts enabled by ENEC; one was NACKed; one is requested (R472). -/
  ibiOn : Bool := false
  ibiAgain : Bool := false
  /-- Maximum write and read lengths, and the reset action of RSTACT (R470). -/
  mwl : Nat := 68
  mrl : Nat := 68
  rstact : Nat := 0
  /-- Outbound mailboxes whose vectors wait for the host link (R480). -/
  ringLater : List Nat := []
  /-- Device time of a mailbox's GUST, while its timeout runs (R480), and of its last event 0x5011 (R478). -/
  rungAt : Store Nat := []
  /-- SYNCHRONIZE CACHE commands waiting: port, tag, and how many commands had been accepted (R465). -/
  syncs : List (Nat × Nat × Nat) := []
  rejAt : Store Nat := []
  deriving DecidableEq, Repr

/-- An owner slot of the OTP that has any bit programmed: its hash, and whether its marker reads 0xA5C3 (R492, R505). -/
structure OwnerSlot where
  hash : List Nat
  marker : Bool
  deriving DecidableEq, Repr

/-- A policy document (R506). -/
structure Policy where
  version : Nat := 0
  newDisc : Nat := 0
  flags : Nat := 0
  dflt : List Nat := []
  allowed : List (List Nat) := []
  deriving DecidableEq, Repr

/-- A store copy of the owner configuration region: what its clear part and its sealed body hold (R494). -/
structure StoreCopy where
  gen : Nat
  owner : List Nat
  policy : Policy
  /-- The accepted policy token, empty under the default policy. -/
  token : List Nat
  /-- Wrap keys by identifier. -/
  wraps : List (List Nat × List Nat)
  deriving DecidableEq, Repr

/-- The operation running: its requester, device time of GO, the request as copied, and RESULT and body once performed
(R496). -/
structure VaultOp where
  req : Nat
  start : Nat
  request : Option (List Nat) := none
  done : Option (Nat × List Nat) := none
  deriving DecidableEq, Repr

/-- An Encryption Descriptor (R64). -/
structure Descr where
  state : Nat
  wrapId : List Nat
  wrapped : List Nat
  owner : List Nat
  flags : Nat
  deriving DecidableEq, Repr

/-- A measurement log entry (R522). -/
structure Measure where
  kind : Nat
  index : Nat
  seq : Nat
  hash : List Nat
  deriving DecidableEq, Repr

/-- OTP rows that the device programs (R492), and the owner configuration region of the boot flash (R494). -/
structure OtpSt where
  owners : List OwnerSlot := []
  rollback : Nat := 0
  floor : Nat := 0
  copies : Store StoreCopy := []
  deriving DecidableEq, Repr

/-- The vault beyond its pages (R491 to R526). -/
structure VaultSt where
  /-- The 64-byte disc key in the XTS unit; empty when none is loaded (R512, R516). -/
  discKey : List Nat := []
  /-- Request and response buffers, 3,072 words each (R495). -/
  reqBuf : Store Nat := []
  rspBuf : Store Nat := []
  op : Option VaultOp := none
  /-- Nonces by requester (R500). -/
  nonces : Store (List Nat) := []
  /-- The last PREPARE_DISC accepted since the mount: state and wrap key identifier (R511). -/
  prepare : Option (Nat × List Nat) := none
  policy : Policy := {}
  wraps : List (List Nat × List Nat) := []
  /-- The current owner's public key, empty when not held. -/
  owner : List Nat := []
  /-- The policy token in force. -/
  token : List Nat := []
  /-- The governing descriptor of the mounted disc, with its wrapped key (R513). -/
  descr : Option Descr := none
  log : List Measure := []
  logFull : Bool := false
  /-- Zhevhel's public key of the running image (R521). -/
  imageKey : List Nat := []
  /-- The clear line: requester and token digest of an authorised clear (R524). -/
  clear : Option (Nat × Nat) := none
  deriving DecidableEq, Repr

/-- A thermal sensor's judging: consecutive samples above 125, 140 and 150 °C, failed, and samples within range since
(R538). -/
structure Sensor where
  hot125 : Nat := 0
  hot140 : Nat := 0
  hot150 : Nat := 0
  failed : Bool := false
  good : Nat := 0
  /-- The reading as judged, 1/8 °C. -/
  reading : Int := 0
  deriving DecidableEq, Repr

/-- What LULL holds until its end: a window access of a requester, with the value written, or a library command (R537). -/
inductive Held
  | access (req addr size : Nat) (wdata : Option Nat)
  | library (c : LibCmd)
  deriving DecidableEq, Repr

/-- A mode transition: from, towards, and the device time it began (R531 to R534). -/
structure Trans where
  src : Nat
  dst : Nat
  start : Nat
  deriving DecidableEq, Repr

/-- Power management beyond its page (R529 to R552). -/
structure PwrSt where
  /-- An active mode has been requested since power-on reset (R530). -/
  asked : Bool := false
  /-- CALM or LULL requested, entry begun: 3 or 4 (R446). -/
  rest : Option Nat := none
  trans : Option Trans := none
  sensors : Store Sensor := []
  /-- Outputs of the regulators before CALM_ACT or LULL_ACT set them to VOUT_LOW, mV (R549). -/
  vout : Store Nat := []
  /-- The spindle turned when a safe state made it coast, so it starts again after it (R544, R593). -/
  spinAgain : Bool := false
  /-- A wake source arrived during entry to LULL (R534). -/
  wake : Nat := 0
  /-- What is held until LULL ends, in order (R537). -/
  held : List Held := []
  /-- Saved fields of the pages that LULL loses (R534 to R536). -/
  saved : Store Nat := []
  deriving DecidableEq, Repr

/-- A reset held (R567): bits of RESET_CAUSE, the first and all; device time of the trigger; the requester of a device
reset. -/
structure Hold where
  first : Nat
  all : Nat
  since : Nat
  req : Nat
  deriving DecidableEq, Repr

/-- Device start-up beyond its page (R557 to R576). -/
structure DevSt where
  hold : Option Hold := none
  /-- The boot flash; an unlisted byte reads 0xFF. -/
  flash : Store Nat := []
  /-- The boot control copy being recorded: its address and bytes (R561, R562). -/
  copy : Option (Nat × List Nat) := none
  /-- Device time of the last reset release, and of the last watchdog restart. -/
  bootAt : Nat := 0
  kicked : Nat := 0
  /-- Device time at which the mount in progress was triggered (R569). -/
  mountAt : Option Nat := none
  /-- AUTO_MOUNT waits for DISC_PRES to be deasserted (R476, R576). -/
  noAuto : Bool := false
  /-- A start put off by a freeze at a reset's release (R593). -/
  bootLater : Option BootIn := none
  /-- The disc is to be mounted again when the safe state is reached (R475). -/
  remount : Bool := false
  deriving DecidableEq, Repr

/-- A record in the recorder's buffer (R579, R581). -/
structure EvRec where
  code : Nat
  src : Nat
  repeats : Nat := 0
  opTime : Nat
  cycles : Nat
  flags : Nat
  p0 : Nat
  p1 : Nat
  p2 : Nat
  seq : Nat
  /-- Device time of the first occurrence. -/
  at' : Nat
  deriving DecidableEq, Repr

/-- Observation beyond its pages (R579 to R597, R609). -/
structure ObsSt where
  /-- Records buffered, oldest first. -/
  buf : List EvRec := []
  /-- Next sequence number of each source. -/
  seqs : Store Nat := []
  /-- Sources whose next record carries flag [1]. -/
  dropped : List Nat := []
  /-- A drop episode in progress: source of its first event dropped. -/
  episode : Option Nat := none
  /-- Records in the current area. -/
  count : Nat := 0
  /-- How the device was frozen: by the pin or by the register (R592). -/
  byPin : Bool := false
  /-- Chain contents of the seven islands, as frozen (R595). -/
  chains : List Nat := []
  /-- Test access port: instruction, boundary register, and the data of WINDOW's last read (R594). -/
  ir : Nat := 0x01
  bound : Nat := 0
  tapData : Nat := 0
  /-- Latched _HI halves by requester and pair, and held _LO writes by requester: page and offset, and value (R609). -/
  latches : Store Nat := []
  loHeld : Store (Nat × Nat) := []
  deriving DecidableEq, Repr

/-- The state of the block. -/
structure State where
  /-- Commands waiting, first in, first out. -/
  pending : List Instr := []
  /-- The model's own counter of fresh free values (Config.freeNat); log entry 4. -/
  free : Nat := 0
  /-- Device time: 25 MHz reference cycles since the last power-on reset (R16). -/
  time : Nat := 0
  /-- The PROF strap as last sampled (R559). -/
  prof : Bool := false
  /-- Register fields that differ from their reset values, by `Fld.key`. -/
  regs : Store Nat := []
  /-- Events emitted and not yet arrived at the recorder, oldest first (R15). -/
  evq : List Ev := []
  /-- What the block has sent out, oldest first. -/
  out : List Out := []
  /-- The MSI-X table (R457). -/
  msix : Store MsixEntry := []
  /-- The MSI-X pending bits (R457). -/
  msixPend : Nat := 0
  /-- The MSI-X function mask (R457). -/
  msixMask : Bool := false
  /-- The disc in the drive. -/
  disc : DiscSt := {}
  /-- Cluster ends not yet taken by their commands, by PSA of sector 0. -/
  ends : Store ClusterEnd := []
  /-- HSL lanes: 0 HSL_L0, 1 HSL_L1, 2 HSL_U0, 3 HSL_U1 (R117). -/
  lanes : Store LaneSt := []
  /-- Links of heads 0 and 1. -/
  links : Store LinkSt := []
  /-- Recording of heads 0 and 1. -/
  recs : Store RecSt := []
  /-- Control engines: SE0 to SE11 are 0 to 11, CE0 to CE7 are 12 to 19. -/
  engs : Store EngSt := []
  /-- Micro-stores: word a of engine e under 8,192 e + a (R122, R139). -/
  ustore : Store Nat := []
  /-- Nano-stores: word i of store n under 1,024 n + i; 0 servo, 1 channel L, 2 channel U (R122, R139). -/
  nstore : Store Nat := []
  /-- Data memories: word a of engine e under 4,096 e + a (R122). -/
  dmem : Store Nat := []
  /-- Profile generator channels. -/
  pgs : Store PgSt := []
  /-- Loop filters, by engine SE0 to SE7. -/
  loops : Store LoopSt := []
  /-- Motion of heads 0 and 1. -/
  heads : Store HeadSt := []
  /-- The spindle. -/
  spin : SpinSt := {}
  /-- Sleds L and U. -/
  sleds : Store SledSt := []
  /-- Beam channels, by 16 × head + beam. -/
  chans : Store ChanSt := []
  /-- Common units, by head. -/
  commons : Store CommonSt := []
  /-- Frames delivered to the decode island and not yet gathered into codewords, oldest first (R256). -/
  frames : List FrameIn := []
  /-- Cluster slots delivered as blank, by PSA of sector 0 (R264). -/
  blanks : List Nat := []
  /-- The decode island and SQUALL. -/
  dec : DecSt := {}
  /-- Clusters encoded and not yet released from staging, oldest first. -/
  encoded : List Encoded := []
  /-- OPC results by 8 × head + layer. -/
  opcs : Store OpcSt := []
  /-- β of the last OPC run by beam and step, Q1.15 (R361). -/
  betas : List (List Int) := []
  /-- The memory island. -/
  mem : MemSt := {}
  /-- Compression lanes 0 to 3. -/
  lanesC : Store LaneJob := []
  /-- Claims: 0 TRF, 1 VLQ, 2 to 9 the mailboxes, 16 to 47 the semaphores. -/
  claims : Store Claim := []
  /-- The command layer. -/
  cl : CmdSt := {}
  /-- The ports. -/
  port : PortSt := {}
  /-- The vault. -/
  vault : VaultSt := {}
  /-- What the vault keeps without power. -/
  otp : OtpSt := {}
  /-- Power management. -/
  pwr : PwrSt := {}
  /-- Start-up. -/
  dev : DevSt := {}
  /-- Observation. -/
  obs : ObsSt := {}
  deriving DecidableEq, Repr

/-- Why a command stops the machine with a fault: none of the spec's commands does (each has an effect it gives). -/
inductive Fault
  deriving DecidableEq, Repr

/-- Why a command is refused. -/
inductive Refusal
  /-- Raised by an arm of `exec` whose command has no meaning in the model yet. Safe: nothing is claimed of it. -/
  | notModelled (mnemonic : String)
  deriving DecidableEq, Repr

/-- The machine right after power-on reset: every field at its reset value. -/
def State.reset : State := {}

/-- What a meaning answers. -/
abbrev Res := Host.Outcome State Fault Refusal

end Sys2Proof.Machine
end

