-- ==== Sys2Proof/Machine/Ops.lean ====
section
/-!
DEFINITION. The named operations every meaning is built from: register fields, interrupts, flags, counters, events.
The state is always the last argument, so a meaning reads as a pipeline of effects.
-/
namespace Sys2Proof.Machine

/-! ## Register fields (R11, R605) -/

/-- The value of field `f` of page `p`. -/
def fget (p : Nat) (f : Fld) (s : State) : Nat := (s.regs.find (f.key p)).getD (f.reset p s.prof)

/-- Field `f` of page `p` set to `v`, truncated to the field's width. -/
def fset (p : Nat) (f : Fld) (v : Nat) (s : State) : State :=
  let w := trunc f.width v
  { s with regs := if w = f.reset p s.prof then s.regs.erase (f.key p) else s.regs.insert (f.key p) w }

/-- A one-bit field as a Bool. -/
def fon (p : Nat) (f : Fld) (s : State) : Bool := fget p f s != 0

/-- A field set from a Bool. -/
def fsetB (p : Nat) (f : Fld) (b : Bool) (s : State) : State := fset p f (b2n b) s

/-- A field returned to its reset value. -/
def fclr (p : Nat) (f : Fld) (s : State) : State := { s with regs := s.regs.erase (f.key p) }

/-- A list of fields returned to their reset values. -/
def fclrs (p : Nat) (fs : List Fld) (s : State) : State := fs.foldl (fun t f => fclr p f t) s

/-- The value of a _LO/_HI pair (R609). -/
def fget64 (p : Nat) (lo hi : Fld) (s : State) : Nat := fget p lo s + 2 ^ 32 * fget p hi s

/-- A _LO/_HI pair set in one operation (R609). -/
def fset64 (p : Nat) (lo hi : Fld) (v : Nat) (s : State) : State :=
  s |> fset p lo (v % 2 ^ 32) |> fset p hi (v / 2 ^ 32)

/-- A signed field. -/
def fgetI (p : Nat) (f : Fld) (s : State) : Int := toSigned f.width (fget p f s)

/-- A signed field set, wrapping. -/
def fsetI (p : Nat) (f : Fld) (v : Int) (s : State) : State := fset p f (ofSigned f.width v) s

/-! ## Outputs -/

/-- Something the block sends out. -/
def send (o : Out) (s : State) : State := { s with out := s.out ++ [o] }

/-- An MSI-X message of a vector, or its pending bit while masked (R616, R457). -/
def sendVector (v : Nat) (s : State) : State :=
  if fon USB.page USB.PCIE_STATE_MSIX_EN s then
    let e := s.msix.get v {}
    if e.masked || s.msixMask then { s with msixPend := setBit s.msixPend v }
    else send (.msix v e.addr e.data) s
  else s

/-! ## Page interrupts (R605, R606, R615, R616) -/

/-- Whether a page's interrupt is asserted (R606). -/
def pageInt (p : Nat) (s : State) : Bool :=
  (fget p hdrIntStatus s &&& fget p hdrIntEnable s) != 0 ||
    (p == MC.page && (fget p MC.MC_INT s &&& fget p MC.MC_INT_EN_EN s) != 0)

/-- The MSI-X message of a page routed to MSI-X (R615, R616). -/
def routeMsix (p : Nat) (s : State) : State :=
  if fon PPC.page (PPC.ROUTE_MSIX_EN.ix p) s then sendVector (fget PPC.page (PPC.ROUTE_VECTOR.ix p) s) s else s

/-- After a change made to a page's causes: the message of an interrupt that has become asserted (R616). -/
def intEdge (p : Nat) (before : State) (s : State) : State :=
  if !pageInt p before && pageInt p s then routeMsix p s else s

/-- INT_STATUS bit `b` of page `p` set by the hardware. -/
def raise (p b : Nat) (s : State) : State :=
  intEdge p s (fset p hdrIntStatus (setBit (fget p hdrIntStatus s) b) s)

/-- MC_INT bit `b` set (R197). -/
def raiseMc (b : Nat) (s : State) : State :=
  intEdge MC.page s (fset MC.page MC.MC_INT (setBit (fget MC.page MC.MC_INT s) b) s)

/-- STICKY bit `b` of page `p` set. -/
def sticky (p b : Nat) (s : State) : State := fset p hdrSticky (setBit (fget p hdrSticky s) b) s

/-- FAULT_CODE of page `p` set (R606). -/
def fault (p c : Nat) (s : State) : State := fset p hdrFault c s

/-- Whether INT_STATUS bit `b` of page `p` is set. -/
def raised (p b : Nat) (s : State) : Bool := bit (fget p hdrIntStatus s) b

/-- Whether STICKY bit `b` of page `p` is set. -/
def stuck (p b : Nat) (s : State) : Bool := bit (fget p hdrSticky s) b

/-! ## Counters -/

/-- A counter raised by `n`, saturating and then setting the page's saturation flag `k`. -/
def cntN (p : Nat) (f : Fld) (k n : Nat) (s : State) : State :=
  let v := fget p f s + n
  if v < 2 ^ f.width then fset p f v s else s |> fset p f (2 ^ f.width - 1) |> sticky p k

/-- A counter raised by one. -/
def cnt (p : Nat) (f : Fld) (k : Nat) (s : State) : State := cntN p f k 1 s

/-- A 64-bit counter pair raised by `n`, saturating. -/
def cnt64 (p : Nat) (lo hi : Fld) (k n : Nat) (s : State) : State :=
  let v := fget64 p lo hi s + n
  if v < 2 ^ 64 then fset64 p lo hi v s else s |> fset64 p lo hi (2 ^ 64 - 1) |> sticky p k

/-- A maximum kept in a field. -/
def fmax (p : Nat) (f : Fld) (v : Nat) (s : State) : State :=
  let w := min v (2 ^ f.width - 1)
  if fget p f s < w then fset p f w s else s

/-- A minimum kept in a field. -/
def fmin (p : Nat) (f : Fld) (v : Nat) (s : State) : State := if v < fget p f s then fset p f v s else s

/-! ## Performance counters (R587 to R589) -/

/-- Overflow of counter `n` (R587). -/
def pmcOvf (n : Nat) (s : State) : State :=
  let f := if n < 32 then PMC.OVF_LO else PMC.OVF_HI
  s |> fset PMC.page f (setBit (fget PMC.page f s) (n % 32)) |> raise PMC.page PMC.iOVF

/-- Counter `n` advanced by `k` occurrences (R587). -/
def pmcAdvance (n k : Nat) (s : State) : State :=
  let w := fget PMC.page (PMC.CNT_CFG_WIDTH.ix n) s
  let sat := fon PMC.page (PMC.CNT_CFG_SAT.ix n) s
  let v := fget PMC.page (PMC.VAL.ix n) s
  if w = 2 && n % 2 = 0 then
    let x := v + 2 ^ 32 * fget PMC.page (PMC.VAL.ix (n + 1)) s + k
    let y := if x < 2 ^ 64 then x else if sat then 2 ^ 64 - 1 else x % 2 ^ 64
    let s := s |> fset PMC.page (PMC.VAL.ix n) (y % 2 ^ 32) |> fset PMC.page (PMC.VAL.ix (n + 1)) (y / 2 ^ 32)
    if x < 2 ^ 64 then s else pmcOvf n s
  else
    let m := if w = 0 then 2 ^ 16 else 2 ^ 32
    let x := v % m + k
    let y := if x < m then x else if sat then m - 1 else x % m
    let s := fset PMC.page (PMC.VAL.ix n) y s
    if x < m then s else pmcOvf n s

/-- Whether counter `n` is the upper half of a 64-bit pair, so that its configuration is ignored (R587). -/
def pmcPaired (n : Nat) (s : State) : Bool :=
  n % 2 = 1 && fget PMC.page (PMC.CNT_CFG_WIDTH.ix (n - 1)) s = 2 && fon PMC.page (PMC.CNT_CFG_EN.ix (n - 1)) s

/-- Whether counter `n` counts signal `sel` of instance `inst` (R587, R589). -/
def pmcCounts (n sel inst : Nat) (s : State) : Bool :=
  fon PMC.page (PMC.CNT_CFG_EN.ix n) s && !pmcPaired n s &&
    fget PMC.page (PMC.CNT_CFG_SEL.ix n) s = sel &&
    (fget PMC.page (PMC.CNT_CFG_INST.ix n) s = 0xFF || fget PMC.page (PMC.CNT_CFG_INST.ix n) s = inst)

/-- `k` occurrences of signal `sel` of instance `inst`, counted by every counter that selects it (R587). -/
def pmc (sel inst k : Nat) (s : State) : State :=
  if fon PMC.page PMC.CTRL_HOLD s then s
  else (List.range 64).foldl (fun t n => if pmcCounts n sel inst t then pmcAdvance n k t else t) s

/-! ## Events (R579, R580) -/

/-- An event leaving its source for the recorder; one source's events keep their order (R15). -/
def emit (code src p0 p1 p2 : Nat) (s : State) : State :=
  { s with evq := s.evq ++ [⟨code, src, p0 % 2 ^ 32, p1 % 2 ^ 32, p2 % 2 ^ 32, false⟩] }

/-- Always-on island (R580). -/
def srcAon : Nat := 32
/-- Vault (R580). -/
def srcVault : Nat := 33
/-- Host island (R580). -/
def srcHost : Nat := 34
/-- Decode island (R580). -/
def srcDecode : Nat := 35
/-- Memory island (R580). -/
def srcMem : Nat := 36
/-- Channel island of a head (R580). -/
def srcChan (h : Nat) : Nat := 37 + h
/-- Servo island hardware (R580). -/
def srcServo : Nat := 39
/-- Requester ID of control engine `e`, SE0 to SE11 then CE0 to CE7 (R580). -/
def srcEng (e : Nat) : Nat := 8 + e

/-! ## Free values -/

/-- A value the spec leaves open, fresh each time (Config.freeNat). -/
def withFree (k : Nat → State → State) (s : State) : State := k (Config.freeNat s.free) { s with free := s.free + 1 }

end Sys2Proof.Machine
end

