-- ==== Sys2Proof/Machine/PageFields.lean ====
section
/-!
DEFINITION. The register window as a table (R604): which page index holds which fields, its block code, and the
_LO/_HI pairs of R609.
-/
namespace Sys2Proof.Machine

/-- First and last page index of a block's pages, and their fields (R604); an engine page carries its role's too. -/
def pageTable : List (Nat × Nat × List Fld) :=
  [ (0x30, 0x33, HSL.fields),
    (0x34, 0x35, HTX.fields),
    (0x38, 0x39, ACL.fields),
    (0x50, 0x63, ENG.fields),
    (0x50, 0x52, LOOP.fields),
    (0x54, 0x56, LOOP.fields),
    (0x50, 0x50, FOC.fields),
    (0x54, 0x54, FOC.fields),
    (0x51, 0x51, TRK.fields),
    (0x55, 0x55, TRK.fields),
    (0x52, 0x52, TLT.fields),
    (0x56, 0x56, TLT.fields) ] ++
  [ (0x53, 0x53, LPS.fields),
    (0x57, 0x57, LPS.fields),
    (0x5B, 0x5B, MC.fields),
    (0x44, 0x44, MOT.fields),
    (0x40, 0x40, SPN.fields),
    (0x41, 0x42, SLD.fields),
    (0x58, 0x58, SPS.fields),
    (0x59, 0x5A, SLF.fields),
    (0x70, 0x79, CHN.fields),
    (0x80, 0x89, CHN.fields),
    (0x7A, 0x7A, CHC.fields),
    (0x8A, 0x8A, CHC.fields) ] ++
  [ (0x90, 0x90, DEC.fields),
    (0x91, 0x91, CRC.fields),
    (0x93, 0x93, XTS.fields),
    (0x92, 0x92, ENC.fields),
    (0xA0, 0xA1, LPW.fields),
    (0xA8, 0xA8, CAL.fields),
    (0xB0, 0xB3, CMP.fields),
    (0xC0, 0xC0, LCH.fields),
    (0xC1, 0xC1, SBF.fields),
    (0xC2, 0xC2, DRM.fields),
    (0xD0, 0xD0, VLQ.fields),
    (0xE0, 0xE0, FMT.fields) ] ++
  [ (0x10, 0x10, TRF.fields),
    (0x11, 0x11, CPL.fields),
    (0x12, 0x12, ZRG.fields),
    (0x13, 0x13, ERL.fields),
    (0x14, 0x14, STM.fields),
    (0x20, 0x20, USB.fields),
    (0x21, 0x21, SATA.fields),
    (0x22, 0x22, LIB.fields),
    (0x00, 0x00, DEV.fields),
    (0x01, 0x01, CLK.fields),
    (0x02, 0x02, PWR.fields),
    (0x03, 0x03, EVR.fields) ] ++
  [ (0x04, 0x04, PMC.fields),
    (0x05, 0x05, SEM.fields),
    (0x06, 0x06, MBX.fields),
    (0x07, 0x07, STL.fields),
    (0x68, 0x68, PPC.fields),
    (0x5C, 0x5C, EQS.fields),
    (0x60, 0x60, EQS.fields),
    (0x5D, 0x5D, ACQ.fields),
    (0x61, 0x61, ACQ.fields),
    (0x5E, 0x5E, DFF.fields),
    (0x62, 0x62, DFF.fields),
    (0x5F, 0x5F, CLE.fields) ] ++
  [ (0x63, 0x63, CLE.fields) ]

/-- The fields of a page. -/
def pageFields (p : Nat) : List Fld :=
  (pageTable.filter (fun r => decide (r.1 ≤ p) && decide (p ≤ r.2.1))).flatMap (fun r => r.2.2)

/-- First and last page index, and the fields that are the _LO of a pair (R609). -/
def pairTable : List (Nat × Nat × List Fld) :=
  [ (0x30, 0x33, [ HSL.CW_CNT_LO, HSL.CAPS_LO ]),
    (0x34, 0x35, [ HTX.WR_SYM_CNT_LO ]),
    (0x44, 0x44, [ MOT.TGT_LO, MOT.POS_LO, MOT.V_MAX_LO, MOT.A_MAX_LO, MOT.J_MAX_LO, MOT.END_POS_LO ]),
    (0x90, 0x90, [ DEC.CW_CNT_LO, DEC.ITER_SUM_LO, DEC.CL_CNT_LO ]),
    (0x91, 0x91, [ CRC.SECT_CHK_LO, CRC.SECT_GEN_LO, CRC.LAST_XFER_LO, CRC.TEST_RESULT_LO ]),
    (0x93, 0x93, [ XTS.ENC_SECT_LO, XTS.DEC_SECT_LO ]),
    (0x92, 0x92, [ ENC.WSEQ_LO, ENC.WSEQ_LIM_LO, ENC.CL_ENC_LO ]),
    (0xA0, 0xA1, [ LPW.FRAMES_LO ]),
    (0xB0, 0xB3, [ CMP.SRC_ADDR_LO, CMP.DST_ADDR_LO, CMP.CHAIN_ADDR_LO, CMP.BYTES_IN_LO, CMP.BYTES_OUT_LO ]),
    (0xC0, 0xC0, [ LCH.MAINT_ADDR_LO, LCH.PAR_ADDR_LO ]),
    (0xC2, 0xC2, [ DRM.ERR_ADDR_LO, DRM.RD_LINES_LO, DRM.WR_LINES_LO ]),
    (0xE0, 0xE0, [ FMT.DISC_ID_LO ]),
    (0x10, 0x10, [ TRF.HOST_ADDR_LO, TRF.XCHK_LO ]),
    (0x11, 0x11, [ CPL.BASE_LO ]),
    (0x13, 0x13, [ ERL.TIME_LO ]),
    (0x14, 0x14, [ STM.SPILL_BASE_LO ]),
    (0x20, 0x20, [ USB.TO_HOST_LO, USB.FROM_HOST_LO ]),
    (0x21, 0x21, [ SATA.BYTES_LO ]),
    (0x22, 0x22, [ LIB.PID_LO ]),
    (0x00, 0x00, [ DEV.SERIAL_LO, DEV.TIME_LO ]),
    (0x04, 0x04, [ PMC.OVF_LO ]),
    (0x07, 0x07, [ STL.FREEZE_TIME_LO ]),
    (0x68, 0x68, [ PPC.PC_LO, PPC.INSTRET_LO, PPC.BERR_TIME_LO ]) ]

/-- First and last page index, block code, and instance of the first (R604). -/
def blockTable : List (Nat × Nat × Nat × Nat) :=
  [ (0x00, 0x00, 0x0000, 0), (0x01, 0x01, 0x0001, 0), (0x02, 0x02, 0x0002, 0), (0x03, 0x03, 0x0003, 0),
    (0x04, 0x04, 0x0004, 0), (0x05, 0x05, 0x0005, 0), (0x06, 0x06, 0x0006, 0), (0x07, 0x07, 0x0007, 0),
    (0x10, 0x10, 0x0101, 0), (0x11, 0x11, 0x0102, 0), (0x12, 0x12, 0x0103, 0), (0x13, 0x13, 0x0104, 0),
    (0x14, 0x14, 0x0105, 0), (0x20, 0x20, 0x0201, 0), (0x21, 0x21, 0x0202, 0), (0x22, 0x22, 0x0203, 0),
    (0x30, 0x33, 0x0301, 0), (0x34, 0x35, 0x0302, 0), (0x38, 0x39, 0x0303, 0), (0x40, 0x40, 0x0400, 0),
    (0x41, 0x42, 0x0401, 0), (0x44, 0x44, 0x0403, 0), (0x50, 0x5B, 0x0501, 0), (0x5C, 0x63, 0x0502, 0),
    (0x68, 0x68, 0x0601, 0), (0x70, 0x79, 0x0701, 0), (0x7A, 0x7A, 0x0702, 0), (0x80, 0x89, 0x0701, 16),
    (0x8A, 0x8A, 0x0702, 1), (0x90, 0x90, 0x0901, 0), (0x91, 0x91, 0x0902, 0), (0x92, 0x92, 0x0904, 0),
    (0x93, 0x93, 0x0903, 0), (0xA0, 0xA1, 0x0A01, 0), (0xA8, 0xA8, 0x0A02, 0), (0xB0, 0xB3, 0x0B01, 0),
    (0xC0, 0xC0, 0x0C01, 0), (0xC1, 0xC1, 0x0C02, 0), (0xC2, 0xC2, 0x0C03, 0), (0xD0, 0xD0, 0x0D01, 0),
    (0xE0, 0xE0, 0x0E01, 0) ]

end Sys2Proof.Machine
end

