-- ==== Sys2Proof/Machine/Access.lean ====
section
/-!
DEFINITION. What a read and a write do to one 32-bit register, field by field under R11, before any action the write
starts. Actions (WO fields) are dispatched by the register window.
-/
namespace Sys2Proof.Machine

/-- The entry of an array field that lies at an offset, if one does. -/
def Fld.atOff (f : Fld) (off : Nat) : Option Fld :=
  let i := if f.stride = 0 then 0 else (off - f.off) / f.stride
  let r := off - f.off - f.stride * i
  let j := if f.stride2 = 0 then 0 else r / f.stride2
  let g := f.ix2 i j
  if f.off ≤ off && i < f.count && j < f.count2 && g.off = off then some g else none

/-- Offsets of a guard beam's page that read 0 and ignore writes: the fields of stages 4 to 8 and CQI (R284). -/
def guardHole (p off : Nat) : Bool :=
  (p = 0x78 || p = 0x79 || p = 0x88 || p = 0x89) &&
    ((0x050 ≤ off && off ≤ 0x070) || (0x080 ≤ off && off ≤ 0x0D8) || (0x0E4 ≤ off && off ≤ 0x0F4))

/-- The fields of a register. -/
def regFields (p off : Nat) : List Fld :=
  if guardHole p off then [] else (pageFields p).filterMap (fun f => f.atOff off)

/-- Whether a page index names a page (R604). -/
def isPage (p : Nat) : Bool := blockTable.any (fun r => decide (r.1 ≤ p) && decide (p ≤ r.2.1))

/-- PAGE_ID of a page (R605). -/
def pageId (p : Nat) : Nat :=
  match blockTable.find? (fun r => decide (r.1 ≤ p) && decide (p ≤ r.2.1)) with
  | some (a, _, code, inst) => code * 2 ^ 16 + (inst + (p - a))
  | none => 0

/-- The value of a register as its fields stand (R11, R605, R608): WO fields read 0, reserved fields read 0. -/
def regValue (p off : Nat) (s : State) : Nat :=
  if off = 0x000 then pageId p
  else if off = 0x004 then 0x100
  else
    let o := if off = 0x018 then 0x010 else off
    (regFields p o).foldl (fun a f => if f.acc = .wo then a else a ||| fget p f s * 2 ^ f.lo) 0

/-- The clearing effect of a read (R11, RCL); a field that keeps a minimum clears to its reset value. -/
def readClears (p off : Nat) (s : State) : State :=
  (regFields p off).foldl (fun t f => if f.acc = .rcl then fclr p f t else t) s

/-- What a write does to one field (R11). -/
def writeField (p v : Nat) (s : State) (f : Fld) : State :=
  let x := trunc f.width (v / 2 ^ f.lo)
  match f.acc with
  | .rw => fset p f x s
  | .w1c => fset p f (fget p f s ^^^ (fget p f s &&& x)) s
  | .w1s => fset p f (fget p f s ||| x) s
  | _ => s

/-- A write's effect on a register's fields (R11, R605, R606, R616). A write that leaves an interrupt asserted sends
its message again. -/
def regWrite (p off v : Nat) (s : State) : State :=
  if off = 0x018 then
    intEdge p s ((regFields p 0x010).foldl (fun t f => fset p f (fget p f t ||| trunc f.width (v / 2 ^ f.lo)) t) s)
  else
    let t := (regFields p off).foldl (writeField p v) s
    if off = 0x010 || off = 0x014 || (p = MC.page && (off = 0x14C || off = 0x150)) then
      if pageInt p t then routeMsix p t else t
    else t

end Sys2Proof.Machine
end

