-- ==== Sys2Proof/Machine/Trips.lean ====
section
/-!
DEFINITION. What several chapters share: the records of heads and lanes, the write stop, the safe states, zeroisation
of the disc key and the lost-feedback path.
-/
namespace Sys2Proof.Machine

/-! ## Records -/

/-- A lane's record. -/
def State.lane (s : State) (l : Nat) : LaneSt := s.lanes.get l {}
/-- A lane's record set. -/
def setLane (l : Nat) (v : LaneSt) (s : State) : State := { s with lanes := s.lanes.put l v {} }
/-- A head's links. -/
def State.link (s : State) (h : Nat) : LinkSt := s.links.get h {}
/-- A head's links set. -/
def setLink (h : Nat) (v : LinkSt) (s : State) : State := { s with links := s.links.put h v {} }
/-- A head's recording. -/
def State.rec' (s : State) (h : Nat) : RecSt := s.recs.get h {}
/-- A head's recording set. -/
def setRec (h : Nat) (v : RecSt) (s : State) : State := { s with recs := s.recs.put h v {} }
/-- A head's motion. -/
def State.head (s : State) (h : Nat) : HeadSt := s.heads.get h {}
/-- A head's motion set. -/
def setHead (h : Nat) (v : HeadSt) (s : State) : State := { s with heads := s.heads.put h v {} }
/-- A loop engine's filter. -/
def State.loop (s : State) (e : Nat) : LoopSt := s.loops.get e {}
/-- A loop engine's filter set. -/
def setLoop (e : Nat) (v : LoopSt) (s : State) : State := { s with loops := s.loops.put e v {} }
/-- A sled's record. -/
def State.sled (s : State) (h : Nat) : SledSt := s.sleds.get h {}
/-- A sled's record set. -/
def setSled (h : Nat) (v : SledSt) (s : State) : State := { s with sleds := s.sleds.put h v {} }

/-! ## The write stop (R21, R104, R345) -/

/-- A head is writing: its HTX slots carry WRITE_EN (R97); the read boost counts (R337). -/
def writing (h : Nat) (s : State) : Bool := fon (HTX.page h) HTX.STATUS_WRITE_EN s

/-- A head records: a read boost is no recording (R337). -/
def recording (h : Nat) (s : State) : Bool := fon (LPW.page h) LPW.STATUS_WRITING s

/-- A head's recording shown on every page that shows it (R97, R241, R359, R360). -/
def showWriting (h : Nat) (b : Bool) (s : State) : State :=
  let s := s |> fsetB (HTX.page h) HTX.STATUS_WRITE_EN b |> fsetB (LPW.page h) LPW.STATUS_WRITING b
    |> fsetB ENC.page (if h = 0 then ENC.STATUS_WRITING_L else ENC.STATUS_WRITING_U) b |> fsetB (CHC.page h) CHC.STATUS_WRITING b
  (List.range 10).foldl (fun t k => fsetB (CHN.page h k) CHN.STATUS_WRITING b t) s

/-- One cluster abandoned (R345): LPW and ENC show it and event 0x4102 carries the cause. -/
def abandonOne (h cause : Nat) (e : Emission) (s : State) : State :=
  s |> raise (LPW.page h) LPW.iABANDONED |> cnt (LPW.page h) LPW.ABANDON_CNT LPW.kCNT_SAT
    |> raise ENC.page ENC.iABANDONED |> cnt ENC.page ENC.ABANDON_CNT ENC.kCNT_SAT
    |> fset ENC.page ENC.LAST_ABANDON_PSA e.psa
    |> emit 0x4102 (srcChan h) h e.psa cause

/-- An abrupt stop of a head (R345): every cluster in emission is abandoned; with WRITE_EN already 0, none is.
Causes: 1 trip, 2 reset, 3 underrun, 4 laser fault. After a reset the retained sectors are lost (R346). -/
def abruptStop (h cause : Nat) (s : State) : State :=
  let r := s.rec' h
  if writing h s then
    let s := r.emitting.foldl (fun t e => abandonOne h cause e t) s
    s |> setRec h { r with emitting := [], boosting := false, abandoned := if cause = 2 then [] else r.abandoned ++ r.emitting }
      |> showWriting h false |> fset (LPW.page h) LPW.STATUS_BOOST_ACT 0
  else s

/-- KILL slots on a head's HTX lane (R104 step 2). -/
def killHead (h : Nat) (s : State) : State :=
  s |> fset (HTX.page h) HTX.STATUS_KILL 1 |> fset (HTX.page h) HTX.STATUS_WRITE_EN 0
    |> fset (LPW.page h) LPW.STATUS_KILL 1
    |> raise (HTX.page h) HTX.iKILL |> cnt (HTX.page h) HTX.KILL_CNT HTX.kCNT_SAT
    |> setLink h { s.link h with killSlots := true }

/-- A safety trip of one head with the cause of event 0x4102 (R21, R104, R345). -/
def tripHeadAs (h cause : Nat) (s : State) : State := s |> abruptStop h cause |> killHead h

/-- A safety trip of one head. -/
def tripHead (h : Nat) (s : State) : State := tripHeadAs h 1 s

/-- A safety trip of both heads. -/
def tripBoth (s : State) : State := s |> tripHead 0 |> tripHead 1

/-- A safety trip of a head that is writing (R107, R167, R170, R174). -/
def tripIfWriting (h : Nat) (s : State) : State := if writing h s then tripHead h s else s

/-- A safety trip of both heads when either is writing (R219, R220, R221). -/
def tripBothIfWriting (s : State) : State := if writing 0 s || writing 1 s then tripBoth s else s

/-! ## Safe states -/

/-- SAFE on one coil, zero current (R114). -/
def coilSafe (h coil : Nat) (s : State) : State :=
  s |> fset (ACL.page h) (ACL.CMD_SAFE.ix coil) 1 |> fset (ACL.page h) (ACL.CMD_VALUE.ix coil) 0

/-- SAFE on every coil of a head (R115, R116). -/
def coilsSafe (h : Nat) (s : State) : State :=
  (List.range 5).foldl (fun t c => coilSafe h c t) (fset (ACL.page h) ACL.STATUS_SAFE 1 s)

/-- All six spindle gates and BRK_G off: the spindle coasts (R568, R592). -/
def gatesOff (s : State) : State :=
  { s with spin := { s.spin with gates := false, zeroVector := false, brkG := false, integ := 0 } }
    |> fset SPS.page SPS.IQ_REF 0 |> fset SPS.page SPS.ID_REF 0

/-- A spindle state shown (R234). -/
def spinState (v : Nat) (s : State) : State := fset SPN.page SPN.STATUS_STATE v s

/-- Sled bridges off and the reference lost (R568, R592). -/
def sledOff (h : Nat) (s : State) : State :=
  s |> setSled h { s.sled h with bridges := false, vel := 0, homing := .none, held := none }
    |> fset (SLD.page h) SLD.STATUS_HOMED 0 |> fset (SLD.page h) SLD.STATUS_STATE 0

/-! ## The disc key (R516) and the measurement log (R522) -/

/-- An entry added to the measurement log; a full log drops it. -/
def measure (kind index : Nat) (hash : List Nat) (s : State) : State :=
  let v := s.vault
  if v.log.length < 64 then { s with vault := { v with log := v.log ++ [⟨kind, index, v.log.length, hash⟩] } }
  else { s with vault := { v with logFull := true } }

/-- The loaded disc key zeroised; event 0x6008 with the row of R516 as cause. -/
def zeroiseKey (row : Nat) (s : State) : State :=
  if fon XTS.page XTS.STATUS_KEY_LOADED s then
    { s with vault := { s.vault with discKey := [] } }
      |> fset XTS.page XTS.STATUS_KEY_LOADED 0 |> fset FMT.page FMT.ENC_KEY_LOADED 0
      |> fset VLQ.page VLQ.STATUS_KEY_LOADED 0 |> raise VLQ.page VLQ.iZEROISED
      |> (fun t => emit 0x6008 srcVault 0xFF row (fget FMT.page FMT.DISC_ID_LO t) t)
  else s

/-! ## The lost-feedback path (R174, R175) -/

/-- The MC_STATUS state of a head (R197). -/
def mcState (h v : Nat) (s : State) : State :=
  fset MC.page (if h = 0 then MC.MC_STATUS_STATE_L else MC.MC_STATUS_STATE_U) v s
/-- The MC_STATUS state of a head, read. -/
def getMcState (h : Nat) (s : State) : Nat :=
  fget MC.page (if h = 0 then MC.MC_STATUS_STATE_L else MC.MC_STATUS_STATE_U) s
/-- The position register of a head (R159 port POS). -/
def posFld (h : Nat) : Fld := if h = 0 then MC.POS_L_POS else MC.POS_U_POS
/-- POS of a head, as the servo island and the head's channel island show it (R159, R266, R285). -/
def setPos (h v : Nat) (s : State) : State :=
  s |> fset MC.page (posFld h) v |> fset (CHC.page h) CHC.POS v |> fset (CHC.page h) CHC.STATUS_POS_VALID (v / 2 ^ 31)
/-- Whether POS is confirmed. -/
def posValid (h : Nat) (s : State) : Bool := bit (fget MC.page (posFld h) s) 31
/-- The track of POS. -/
def posTrack (h : Nat) (s : State) : Nat := slice (fget MC.page (posFld h) s) 17 0
/-- The layer of POS. -/
def posLayer (h : Nat) (s : State) : Nat := slice (fget MC.page (posFld h) s) 20 18
/-- POS.valid cleared, with event 0x3011; the frame position map is valid only with it (R257, R266). -/
def posInvalid (h : Nat) (s : State) : State :=
  if posValid h s then
    s |> setPos h (clrBit (fget MC.page (posFld h) s) 31) |> fset (ACQ.page h) ACQ.MAP_STATE_VALID 0
      |> raise (CHC.page h) CHC.iPOS_LOST |> emit 0x3011 (srcChan h) h (posTrack h s) (posLayer h s)
  else s

/-- The loop state of engine `e` (R192). Port XFF of the other head's focus engine is valid while this focus loop is
CLOSED (R186). -/
def loopState (e v : Nat) (s : State) : State :=
  let s := fset (LOOP.page e) LOOP.LOOP_STATUS_STATE v s
  if e % 4 = 0 then fsetB (LOOP.page (4 - e)) LOOP.LOOP_STATUS_XFF_VALID (v = 2) s else s

/-- The loop state of engine `e`, read. -/
def getLoop (e : Nat) (s : State) : Nat := fget (LOOP.page e) LOOP.LOOP_STATUS_STATE s

/-- One engine of the path enters LOST. -/
def loopLost (e : Nat) (s : State) : State :=
  s |> loopState e 5 |> fset (LOOP.page e) LOOP.LOOP_STATUS_SETTLED 0
    |> cnt (LOOP.page e) LOOP.LOST_CNT ENG.kCNT_SAT
    |> setLoop e { s.loop e with lossRun := 0, settleRun := 0, hRun := 0, invalidRun := 0 }

/-- Step 1 of the lost-feedback path of a head (R175); `src` is the requester ID of the engine that took it. -/
def lostFeedback (h cause src : Nat) (s : State) : State :=
  let hd := s.head h
  s |> loopLost (4 * h) |> loopLost (4 * h + 1) |> loopLost (4 * h + 2)
    |> setHead h { hd with seek := none, ljump := none, jump := none, goodTicks := 0, attempts := 0, align := none,
                           ljumpPend := none, saRamp := none, recapture := false, reacquiring := false, lastCause := cause, sweeps := 0 }
    |> mcState h 9 |> posInvalid h |> raiseMc (MC.mLOST_L + h)
    |> emit 0x2004 src h cause src

/-- The lost-feedback path, with the safety trip of R174 when the head is writing. -/
def lostFeedbackTrip (h cause src : Nat) (s : State) : State := s |> tripIfWriting h |> lostFeedback h cause src

end Sys2Proof.Machine
end

