-- ==== Sys2Proof/Machine/ChanPage.lean ====
section
/-!
DEFINITION. Writes to the channel pages that act: EQ_RESET, CNT_CLR and MODE_CFG (R251, R278, R284, R285).
-/
namespace Sys2Proof.Machine

/-- Every equaliser tap of a beam at its reset value (R251, R284). -/
def resetTaps (h b : Nat) (s : State) : State :=
  (List.range 16).foldl (fun t i => t |> fclr (CHN.page h b) (CHN.EQ_TAP_EVEN.ix i) |> fclr (CHN.page h b) (CHN.EQ_TAP_ODD.ix i)) s

/-- The counters of a beam page. -/
def chnCounters : List Fld :=
  [ CHN.SYNC_FOUND, CHN.SYNC_MISSED, CHN.FALSE_SYNC, CHN.SLIPS, CHN.DEF_CNT, CHN.DEF_BITS, CHN.ERAS_BYTES,
    CHN.LOW_LLR_CNT, CHN.TLOCK_LOSS, CHN.FLOCK_LOSS, CHN.BLANK_SLOTS, CHN.ID_MISS ]

/-- The counters of a common page. -/
def chcCounters : List Fld := [ CHC.WOB_ERR0, CHC.WOB_ERR1, CHC.HDEF_CNT, CHC.HDEF_TIME ]

/-- The reset target of a mode, g0 to g4 (R278). -/
def modeTarget (m : Nat) : List Nat :=
  if m = 1 then [16, 32, 32, 32, 16] else if m = 2 || m = 3 then [0, 32, 64, 64, 32]
  else if m = 4 then [0, 0, 32, 64, 32] else [16, 48, 64, 48, 16]

/-- A target in force in a beam's page. -/
def setTarget (h b : Nat) (g : List Nat) (s : State) : State :=
  let p := CHN.page h b
  let c : ChanSt := s.chans.get (16 * h + b) {}
  { s with chans := s.chans.put (16 * h + b) { c with target := g.map Int.ofNat } {} } |> fset p CHN.TGT_A_G0 (g.getD 0 0) |> fset p CHN.TGT_A_G1 (g.getD 1 0) |> fset p CHN.TGT_A_G2 (g.getD 2 0)
    |> fset p CHN.TGT_A_G3 (g.getD 3 0) |> fset p CHN.TGT_B_G4 (g.getD 4 0) |> fset p CHN.TGT_B_TGT_PEND 0

/-- The head is reading a frame: a beam has frame lock outside the jump gap (R278). -/
def readingFrame (h : Nat) (s : State) : Bool :=
  !fon (CHC.page h) CHC.STATUS_IN_GAP s && (List.range 8).any (fun b => fon (CHN.page h b) CHN.STATUS_FLOCK s)

/-- A write of MODE_CFG (R278). -/
def modeWrite (h m : Nat) (s : State) : State :=
  if readingFrame h s then sticky (CHC.page h) CHC.kMODE_REJ s
  else
    let f := if 5 ≤ m then 0 else m
    let s := s |> fset (CHC.page h) CHC.MODE_CFG_MODE m |> fset (CHC.page h) CHC.STATUS_MODE f
    if h = 0 then setTarget 0 0 (modeTarget f) s else s

/-- A write to TGT_A or TGT_B of a data beam is pending until the next jump gap start (R253). -/
def targetWritten (p off : Nat) (s : State) : State :=
  if off = 0x064 || off = 0x068 then fset p CHN.TGT_B_TGT_PEND 1 s else s

/-- A write to a register of a head's channel pages, with the actions it starts. -/
def chanWrite (pg off v : Nat) (s : State) : State :=
  let h := (pg - 0x70) / 16
  let b := (pg - 0x70) % 16
  if b = 10 then
    if off = 0x040 then modeWrite h (v % 8) s
    else
      let s := regWrite pg off v s
      if off = 0x008 && bit v 3 then fclrs pg chcCounters s else s
  else
    let s := regWrite pg off v s |> (if b < 8 then targetWritten pg off else id)
    let s := if off = 0x008 && bit v 4 then fclrs pg chnCounters s else s
    if off = 0x008 && bit v 3 && b < 8 then resetTaps h b s else s

end Sys2Proof.Machine
end

