-- ==== Sys2Proof/Machine/Flags.lean ====
section
/-!
DEFINITION. Fixed-point arithmetic of the control engines and the condition flags it sets (R124, R125).
Data registers are Q1.31 and accumulators Q10.62; results are formed exactly, then rounded, then saturated.
-/
namespace Sys2Proof.Machine

/-- A value saturated to the Q1.31 range, and whether it saturated (R124). -/
def sat31 (v : Int) : BitVec 32 × Bool :=
  (BitVec.ofInt 32 (clampI (-(2 ^ 31)) (2 ^ 31 - 1) v), decide (v < -(2 ^ 31)) || decide (2 ^ 31 - 1 < v))

/-- A value saturated to the accumulator range, and whether it saturated (R124). -/
def sat72 (v : Int) : BitVec 72 × Bool :=
  (BitVec.ofInt 72 (clampI (-(2 ^ 71)) (2 ^ 71 - 1) v), decide (v < -(2 ^ 71)) || decide (2 ^ 71 - 1 < v))

/-- v × 2^−n, rounded half up (R124). -/
def shiftRound (v : Int) (n : Nat) : Int := if n = 0 then v else (v + 2 ^ (n - 1)) / 2 ^ n

/-- a × b as Q2.62 rounded half up at bit 31 (R124). -/
def mulRound (a b : Int) : Int := shiftRound (a * b) 31

/-- A value clamped to ± abs of a limit (R124, LIM). -/
def limBy (a b : Int) : Int := let m : Int := b.natAbs; clampI (-m) m a

/-- Flags N, Z and V from a value written or compared (R125); C is kept. -/
def flagsOf (f : Flags) (v : BitVec 32) (sat : Bool) : Flags := { f with n := v.msb, z := v == 0, v := sat }

/-- The ALU operations of R128: opcodes 0x01 to 0x0D, 0x1C and 0x1D on operands `a` and `b` and shift `n`. -/
def alu (op : Nat) (a b : BitVec 32) (n : Nat) : BitVec 32 × Bool :=
  let x := a.toInt
  let y := b.toInt
  if op = 0x01 then sat31 (x + y)
  else if op = 0x02 || op = 0x1C then sat31 (x - y)
  else if op = 0x03 then sat31 (-x)
  else if op = 0x04 then sat31 x.natAbs
  else if op = 0x05 then (if x ≤ y then a else b, false)
  else if op = 0x06 then (if x ≤ y then b else a, false)
  else if op = 0x07 then (BitVec.ofInt 32 (limBy x y), false)
  else if op = 0x08 then (a &&& b, false)
  else if op = 0x09 then (a ||| b, false)
  else if op = 0x0A then (a ^^^ b, false)
  else if op = 0x0C then sat31 (x * 2 ^ n)
  else if op = 0x0D then (BitVec.ofInt 32 (shiftRound x n), false)
  else if op = 0x0E then sat31 (mulRound x y)
  else (a, false)

/-- MVA: AC × 2^n rounded half up at bit 31 (R124). -/
def mva (ac : BitVec 72) (n : Nat) : BitVec 32 × Bool := sat31 (shiftRound (ac.toInt * 2 ^ n) 31)

/-- The conditions of R129, with flags H and PF. -/
def condHolds (c : Nat) (f : Flags) (h pf : Bool) : Bool :=
  if c = 0 then true
  else if c = 1 then f.z else if c = 2 then !f.z
  else if c = 3 then f.n else if c = 4 then !f.n
  else if c = 5 then !f.n && !f.z else if c = 6 then f.n || f.z
  else if c = 7 then h else if c = 8 then !h
  else if c = 9 then f.c else if c = 10 then !f.c
  else if c = 11 then f.v else if c = 12 then !f.v
  else if c = 13 then pf else if c = 14 then !pf
  else false

/-! Q1.31 arithmetic on integers, for the loops (R161: products, shifts and limits follow R124). -/

/-- Saturated to Q1.31. -/
def q31 (v : Int) : Int := clampI (-(2 ^ 31)) (2 ^ 31 - 1) v

/-- A product of Q1.31 values. -/
def mul31 (a b : Int) : Int := q31 (mulRound a b)

/-- A quotient as Q1.31, rounded half up; 0 where the denominator is 0 (R159). -/
def div31 (a b : Int) : Int := if b = 0 then 0 else q31 ((a * 2 ^ 32 + b) / (2 * b))

end Sys2Proof.Machine
end

