-- ==== Sys2Proof/Machine/Codes.lean ====
section
/-!
DEFINITION. Check codes of the links, the wobble and the records: CRC-5, CRC-8, CRC-16, CRC-32C and CRC-64.
-/
namespace Sys2Proof.Machine

/-- The `n` low bits of `v`, most significant first. -/
def bitsMsb : Nat → Nat → List Bool
  | 0, _ => []
  | n + 1, v => v.testBit n :: bitsMsb n v

/-- One step of a CRC taken most significant bit first. -/
def crcStep (w poly c : Nat) (b : Bool) : Nat :=
  let x := (c * 2) % 2 ^ w
  if (c.testBit (w - 1)) != b then x ^^^ poly else x

/-- A CRC over bits in send order, without reflection. -/
def crcMsb (w poly init : Nat) (bits : List Bool) : Nat := bits.foldl (crcStep w poly) init

/-- CRC-16 of priority slots and training control fields (R80). -/
def crc16 (bits : List Bool) : Nat := crcMsb 16 0x1021 0xFFFF bits

/-- CRC-8 of wobble words (R46). -/
def crc8 (bits : List Bool) : Nat := crcMsb 8 0x07 0 bits

/-- CRC-5 of actuator subframes (R110). -/
def crc5 (bits : List Bool) : Nat := crcMsb 5 0x05 0x1F bits

/-- One byte into a reflected CRC, bit by bit. -/
def crcLsbByte (poly : Nat) : Nat → Nat → Nat
  | 0, c => c
  | n + 1, c => crcLsbByte poly n (if c.testBit 0 then c / 2 ^^^ poly else c / 2)

/-- A reflected CRC over bytes. -/
def crcLsb (poly init : Nat) (bs : List Nat) : Nat := bs.foldl (fun c b => crcLsbByte poly 8 (c ^^^ (b % 256))) init

/-- CRC-32C of records, sectors and trailers (R57): 0x1EDC6F41 reflected is 0x82F63B78. -/
def crc32c (bs : List Nat) : Nat := crcLsb 0x82F63B78 0xFFFFFFFF bs ^^^ 0xFFFFFFFF

/-- The bits of bytes, each most significant bit first. -/
def bytesBits (bs : List Nat) : List Bool := (bs.map (bitsMsb 8)).flatten

/-- The value of bits, most significant first. -/
def ofBits (bs : List Bool) : Nat := bs.foldl (fun a b => 2 * a + b2n b) 0

end Sys2Proof.Machine
end

