-- ==== Sys2Proof/Machine/Geometry.lean ====
section
/-!
DEFINITION. The geometry of the recorded surface: groups, frame slots, areas, cluster slots and addresses (R34 to R62).
-/
namespace Sys2Proof.Machine

/-- Frame slots of every track of group `g` (R43). -/
def framesOf (g : Nat) : Nat := 2372 + g * 1265 / 10000

/-- The group of a track (R40). -/
def groupOf (track : Nat) : Nat := track / 8

/-- The last group of a DLA layer (R40). -/
def lastGroup : Nat := 26623

/-- The channel rate of group `g` at `rpm` is `chanRate9 g rpm` / 9 bit/s (R43). -/
def chanRate9 (g rpm : Nat) : Nat := framesOf g * rpm * 256

/-- The RF sample rate for a channel rate of `c9` / 9 bit/s, in units of 0.5 MS/s (R89). -/
def fsHalf (c9 : Nat) : Nat := min 3000 (max 1000 (25 * ((c9 + 89999999) / 90000000)))

/-- Whether a rate in 0.5 MS/s units, decimated by `d`, is at least 1.25 times the channel rate (R90). -/
def sampled (fs2 d c9 : Nat) : Bool := fs2 * 500000 * 36 ≥ d * 5 * c9

/-- The decimation of R90: the largest of 1, 2 and 4 that keeps 1.25 samples a bit, else 1. -/
def decimation (fs2 c9 : Nat) : Nat :=
  if sampled fs2 4 c9 then 4 else if sampled fs2 2 c9 then 2 else 1

/-- The slotted areas of a layer (R51). -/
inductive Area | dcz | inner | main
  deriving DecidableEq, Repr

/-- First group and number of groups of a slotted area (R49). -/
def Area.groups : Area → Nat × Nat
  | .dcz => (544, 256)
  | .inner => (816, 1024)
  | .main => (1840, 24768)

/-- Sum of F over `n` groups from `g` (R52). -/
def frameSum (g : Nat) : Nat → Nat
  | 0 => 0
  | n + 1 => frameSum g n + framesOf (g + n)

/-- Cluster slots of an area in one lane (R51, R52). -/
def Area.slots (a : Area) : Nat := frameSum a.groups.1 a.groups.2 / 484

/-- The slotted areas in the order the layer's path meets them (R36, R52). -/
def areaOrder (layer : Nat) : List Area := if layer % 2 = 0 then [.dcz, .inner, .main] else [.main, .inner, .dcz]

/-- Slots of the areas the path meets before an area. -/
def slotsBefore (a : Area) : List Area → Nat
  | [] => 0
  | b :: bs => if b = a then 0 else b.slots + slotsBefore a bs

/-- The first cluster slot index of an area on a layer (R52). -/
def firstSlot (layer : Nat) (a : Area) : Nat := slotsBefore a (areaOrder layer)

/-- The first user slot of a layer (R52). -/
def mainStart (layer : Nat) : Nat := firstSlot layer .main

/-- User slots in each lane of each layer (R52). -/
def userSlots : Nat := 190735

/-- A physical sector address (R60). -/
def psaOf (side layer lane slot sector : Nat) : Nat :=
  side * 2 ^ 31 + layer * 2 ^ 28 + lane * 2 ^ 25 + slot * 2 ^ 5 + sector

/-- The side of a PSA. -/
def psaSide (p : Nat) : Nat := slice p 31 31
/-- The layer of a PSA. -/
def psaLayer (p : Nat) : Nat := slice p 30 28
/-- The lane of a PSA. -/
def psaLane (p : Nat) : Nat := slice p 27 25
/-- The cluster slot index of a PSA. -/
def psaSlot (p : Nat) : Nat := slice p 24 5
/-- The PSA of sector 0 of the same cluster. -/
def psaCluster (p : Nat) : Nat := p / 32 * 32

/-- The home PSA of a user LBA (R61). -/
def lbaToPsa (lba : Nat) : Nat :=
  let u := lba / 512
  let c := lba % 512 / 32
  psaOf (c / 8) (u / userSlots) (c % 8) (mainStart (u / userSlots) + u % userSlots) (lba % 32)

/-- The side a user cluster lies on. -/
def lbaSide (lba : Nat) : Nat := lba % 512 / 32 / 8

/-- The area that holds a cluster slot of a layer (R51). -/
def slotArea (layer slot : Nat) : Area :=
  if firstSlot layer .main ≤ slot && slot < firstSlot layer .main + Area.main.slots then .main
  else if firstSlot layer .inner ≤ slot && slot < firstSlot layer .inner + Area.inner.slots then .inner
  else .dcz

/-- Spare pool slots of a lane of a layer, in ascending slot order: as ranges of first slot and count (R52, R62). -/
def sparePool (layer : Nat) : List (Nat × Nat) :=
  let i := (firstSlot layer .inner, Area.inner.slots)
  let e := (mainStart layer + userSlots, Area.main.slots - userSlots)
  if layer % 2 = 0 then [i, e] else [e, i]

/-- The PCZ group of run `n` of a slice (R339). -/
def pczGroup (slice' n : Nat) : Nat := 16 + 64 * slice' + n / 4

/-- Layers per side of a variant (R34, R46); 0 for no DLA disc. -/
def variantLayers (v : Nat) : Nat := if v = 0x16 then 8 else if v = 0x08 then 4 else 0

/-- User sectors of a variant (R34). -/
def variantSectors (v : Nat) : Nat := if v = 0x16 then 781250560 else if v = 0x08 then 390625280 else 0

/-- The seal layers of a variant (R65). -/
def sealLayers (v : Nat) : List Nat := if v = 0x16 then [0, 3, 6] else [0, 1, 3]

/-- The PCZ slice of a layer (R50). -/
def pczSlice (v layer : Nat) : Nat := if v = 0x08 then 2 * layer else layer

/-- The radius of a track's centre, in units of 0.01 µm (R37). -/
def trackRadius (n : Nat) : Nat := 2400000 + 16 * n

/-- The read and write spindle speeds of the modes (R23): GALE, BREEZE, ZEPHYR, then none. -/
def readRpm (mode : Nat) : Nat := if mode = 0 then 7200 else if mode = 1 then 4800 else if mode = 2 then 2400 else 0
/-- The write spindle speeds (R23). -/
def writeRpm (mode : Nat) : Nat := readRpm mode / 2
/-- LDPC iteration limits by mode (R23). -/
def modeIters (mode : Nat) : Nat := if mode = 2 then 40 else 20

/-! ## Cluster slots and frame slots (R51, R257) -/

/-- F summed over the groups that the path of a layer meets before group `g` in an area. -/
def framesBefore (layer g : Nat) (a : Area) : Nat :=
  let (g0, n) := a.groups
  if layer % 2 = 0 then frameSum g0 (g - g0) else frameSum (g + 1) (g0 + n - 1 - g)

/-- The cluster slot and the slot within it, of frame slot `k` of group `g`: none outside the slotted areas and in
padding (R51, R257). -/
def mapAt (layer g k : Nat) : Option (Nat × Nat) :=
  match ([ .dcz, .inner, .main ] : List Area).find? (fun a => decide (a.groups.1 ≤ g) && decide (g < a.groups.1 + a.groups.2)) with
  | none => none
  | some a =>
    let i := framesBefore layer g a + k
    if i / 484 < a.slots then some (firstSlot layer a + i / 484, i % 484) else none

/-- The group in which frame slot `i` of an area lies, counting `n` groups along the path from `g`. -/
def groupAt (layer : Nat) : Nat → Nat → Nat → Nat
  | 0, g, _ => g
  | n + 1, g, i => if i < framesOf g then g else groupAt layer n (if layer % 2 = 0 then g + 1 else g - 1) (i - framesOf g)

/-- The group in which a cluster slot of a layer begins. -/
def slotGroup (layer slot : Nat) : Nat :=
  let a := slotArea layer slot
  let (g0, n) := a.groups
  groupAt layer n (if layer % 2 = 0 then g0 else g0 + n - 1) ((slot - firstSlot layer a) * 484)

/-! ## Slots and addresses (R61, R62) -/

/-- Whether a slot lies in the spare pool of its lane. -/
def isSpare (layer slot : Nat) : Bool := (sparePool layer).any (fun r => decide (r.1 ≤ slot) && decide (slot < r.1 + r.2))

/-- Whether a slot is a user slot. -/
def isUser (layer slot : Nat) : Bool := decide (mainStart layer ≤ slot) && decide (slot < mainStart layer + userSlots)

/-- The LBA of sector 0 of the user cluster at a PSA (R61). -/
def psaLba (p : Nat) : Nat :=
  let u := psaLayer p * userSlots + (psaSlot p - mainStart (psaLayer p))
  u * 512 + (psaSide p * 8 + psaLane p) * 32

end Sys2Proof.Machine
end

