-- ==== Sys2Proof/Machine/Links.lean ====
section
/-!
DEFINITION. Head sample links, the head transmit lane and the actuator command link (R75 to R121).
-/
namespace Sys2Proof.Machine

/-- Lane number of an HSL lane (R117). -/
def hslLane (h k : Nat) : Nat := 2 * h + k

/-- The state of a head's link group on its three pages (R94). -/
def groupState (h v : Nat) (s : State) : State :=
  s |> fset (HSL.page h 0) HSL.STATUS_STATE v |> fset (HSL.page h 1) HSL.STATUS_STATE v
    |> fset (HTX.page h) HTX.STATUS_STATE v

/-- A head's link group is ACTIVE. -/
def groupActive (h : Nat) (s : State) : Bool :=
  fget (HSL.page h 0) HSL.STATUS_STATE s = 5 && fget (HSL.page h 1) HSL.STATUS_STATE s = 5 &&
    fget (HTX.page h) HTX.STATUS_STATE s = 5

/-- A lane's training and lock counts cleared. -/
def laneFresh (l : Nat) (s : State) : State :=
  setLane l { s.lane l with found := false, ready := false, last := false, goodSlots := 0, goodCws := 0,
                            badSlots := 0, badCws := 0, degMs := 0 } s

/-- One attempt of step 1 of R94: training frames on HTX, the receivers searching. -/
def trainAttempt (h : Nat) (s : State) : State :=
  s |> laneFresh (hslLane h 0) |> laneFresh (hslLane h 1) |> groupState h 1
    |> setLink h { s.link h with attempts := (s.link h).attempts + 1, msgs := [] }
    |> fset (HTX.page h) HTX.STATUS_MSG_BUSY 0 |> fset (HTX.page h) HTX.MSG_CTRL_BUSY 0
    |> fset (HSL.page h 0) HSL.TRAIN_CNT (min 255 (fget (HSL.page h 0) HSL.TRAIN_CNT s + 1))
    |> fset (HSL.page h 1) HSL.TRAIN_CNT (min 255 (fget (HSL.page h 1) HSL.TRAIN_CNT s + 1))
    |> send (.training h)

/-- Bring-up from step 1 of R94 with a fresh count of three attempts. -/
def startGroup (h : Nat) (s : State) : State :=
  s |> setLink h { s.link h with attempts := 0 } |> trainAttempt h

/-- Whether all three lanes of a head are enabled (R93). -/
def groupEnabled (h : Nat) (s : State) : Bool :=
  fon (HTX.page h) HTX.CTRL_EN s && fon (HSL.page h 0) HSL.CTRL_EN s && fon (HSL.page h 1) HSL.CTRL_EN s

/-! ## Control messages (R101 to R103) -/

/-- SET_POWER clamped to the beam's OTP peak power (R102). -/
def clampPower (h args : Nat) (s : State) : Nat × State :=
  let beam := slice args 239 236
  let p := slice args 231 216
  let lim := Config.peakPower h beam
  if lim < p then
    (args - p * 2 ^ 216 + lim * 2 ^ 216,
      s |> cnt (HTX.page h) HTX.CLAMP_CNT HTX.kCNT_SAT |> sticky (HTX.page h) HTX.kCLAMPED)
  else (args, s)

/-- A control message sent for the first time (R101, R102). -/
def sendMsg (h type args : Nat) (own : Bool) (s : State) : State :=
  let (args, s) := if type = 3 then clampPower h args s else (args, s)
  let k := s.link h
  s |> setLink h { k with msgs := k.msgs ++ [⟨type, args, k.tag, 1, own⟩], tag := (k.tag + 1) % 256 }
    |> (fun t => if own then fset (HTX.page h) HTX.MSG_CTRL_TAG k.tag t else t)
    |> send (.htxMsg h type k.tag args)

/-- SET_FS (R89). -/
def sendSetFs (h fs : Nat) (atGap : Bool) (s : State) : State :=
  s |> setLink h { s.link h with fs := fs } |> sendMsg h 1 (fs * 2 ^ 228 + b2n atGap * 2 ^ 227) false

/-- SET_POWER of a beam's level (R333, R334). -/
def sendSetPower (h beam level power : Nat) (s : State) : State :=
  sendMsg h 3 (beam * 2 ^ 236 + level * 2 ^ 233 + power * 2 ^ 216) false s

/-- Whether a message would name an emitter whose capability bit is 0 (R96). -/
def emitterAbsent (h type args : Nat) (s : State) : Bool :=
  let e := slice args 239 238
  let caps := fget (HSL.page h 0) HSL.CAPS_LO s
  type = 4 && ((e = 1 && !bit caps 24) || (e = 2 && !bit caps 25))

/-! ## Losing and restoring a head's lanes -/

/-- A head is back in service when its group reaches ACTIVE (R94); its loops re-acquire from PARKED (R175 step 4). -/
def groupUp (h : Nat) (s : State) : State :=
  let a := (s.link h).attempts
  let caps := fget (HSL.page h 0) HSL.CAPS_LO s
  s |> groupState h 5
    |> raise (HSL.page h 0) HSL.iUP |> raise (HSL.page h 1) HSL.iUP |> raise (HTX.page h) HTX.iUP
    |> setHead h { s.head h with out := false, oosTold := false, goodTicks := 0, attempts := 0 }
    |> emit 0x3100 (srcChan h) (hslLane h 0) a caps |> emit 0x3100 (srcChan h) (hslLane h 1) a caps
    |> emit 0x3100 (srcChan h) (4 + h) a caps

/-- The lanes of a head in FAULT with a code (R94, R95). -/
def groupFault (h code : Nat) (s : State) : State :=
  s |> groupState h 6 |> fault (HSL.page h 0) code |> fault (HSL.page h 1) code |> fault (HTX.page h) code

/-- A lane down (R106): the trip of R107, the lost-feedback path and the group's retraining. -/
def laneDown (h k code window : Nat) (s : State) : State :=
  if fget (HSL.page h k) HSL.STATUS_STATE s = 5 then
    s |> fault (HSL.page h k) code |> raise (HSL.page h k) HSL.iDOWN
      |> emit 0x3101 (srcChan h) (hslLane h k) code window
      |> (fun t => if writing h t then t |> tripHead h |> emit 0x3107 (srcChan h) (hslLane h k) 6 0 else t)
      |> lostFeedback h 2 (srcEng (4 * h)) |> startGroup h
  else s

/-! ## Priority slots (R79 to R83) -/

/-- The fields of a priority slot: WINDOW, eight samples, and whether the CRC passes (R79, R80). -/
def slotFields (v : Nat) : Nat × List Nat × Bool :=
  (slice v 119 112, (List.range 8).map (fun j => slice v (111 - 12 * j) (100 - 12 * j)),
    crc16 (bitsMsb 104 (v / 2 ^ 16)) = v % 2 ^ 16)

/-- Sums of the tick with one slot's samples added. -/
def addSums (sums xs : List Nat) : List Nat := if sums = [] then xs else List.zipWith (· + ·) sums xs

/-- Servo stale declared on a lane (R106, R107). -/
def declareStale (h k : Nat) (s : State) : State :=
  if fon (HSL.page h k) HSL.STATUS_STALE s then s
  else
    let w := writing h s
    s |> fset (HSL.page h k) HSL.STATUS_STALE 1 |> raise (HSL.page h k) HSL.iSTALE
      |> (fun t => fset (HSL.page h k) HSL.SERVO_CNT_STALE_EVENTS (min 65535 (fget (HSL.page h k) HSL.SERVO_CNT_STALE_EVENTS t + 1)) t)
      |> emit 0x3104 (srcChan h) (hslLane h k) ((s.lane (hslLane h k)).samples.headD 0) (b2n w)
      |> (fun t => if w then t |> tripHead h |> emit 0x3107 (srcChan h) (hslLane h k) 4 0 else t)

/-- Lock of step 4 of R94: four consecutive valid slots and correctable codewords on both lanes. -/
def alignLock (h : Nat) (s : State) : State :=
  let ok := fun l => let x := s.lane l; x.goodSlots ≥ 4 && x.goodCws ≥ 4
  if fget (HTX.page h) HTX.STATUS_STATE s = 3 && ok (hslLane h 0) && ok (hslLane h 1) then
    s |> groupState h 4 |> sendMsg h 5 0 false
  else s

/-- A valid slot of a lane (R82, R83, R106). -/
def goodSlot (h k w : Nat) (xs : List Nat) (s : State) : State :=
  let l := hslLane h k
  let x := s.lane l
  let same := if x.samples = xs then x.same + 1 else 1
  let s := setLane l { x with window := some w, goodSlots := x.goodSlots + 1, badSlots := 0, samples := xs, same := same,
                              sums := addSums x.sums xs, valid := x.valid + 1 } s
  let s := if x.samples ≠ xs then fset (HSL.page h k) HSL.STATUS_STALE 0 s else s
  if same ≥ 64 then declareStale h k s else s

/-- An invalid slot of a lane (R106). -/
def badSlot (h k w : Nat) (s : State) : State :=
  let l := hslLane h k
  let x := s.lane l
  let s := s |> setLane l { x with window := some w, goodSlots := 0, badSlots := x.badSlots + 1 }
    |> cnt (HSL.page h k) HSL.SLOT_ERR_CNT HSL.kSLOT_ERR_SAT
  if x.badSlots + 1 ≥ 32 then laneDown h k 0x04 w s else s

/-- PRIORITY_SLOT (R82). -/
def execPrioritySlot (head : Head) (link : Fin 2) (slot : Option (BitVec 120)) (ns : Nat) (s : State) : Res :=
  let h := head.n
  let x := s.lane (hslLane h link)
  let next := (x.window.map (fun w => (w + 1) % 136)).getD 0
  match slot with
  | none => .next (badSlot h link next s)
  | some b =>
    let (w, xs, ok) := slotFields b.toNat
    if ok && (x.window.isNone || w = next) then
      .next (s |> goodSlot h link w xs |> fmax (HSL.page h link) HSL.SLOT_LAT_MAX ns |> alignLock h)
    else .next (badSlot h link (if ok then w % 136 else next) s)

/-- SERVO_STALE (R106). -/
def execServoStale (head : Head) (link : Fin 2) (s : State) : Res := .next (declareStale head.n link s)

/-- LANE_DOWN (R106). -/
def execLaneDown (head : Head) (link : Fin 2) (window : Nat) (s : State) : Res :=
  .next (laneDown head.n link 0x05 window s)

/-- LANE_DEGRADED (R106, R108). -/
def execLaneDegraded (head : Head) (link : Fin 2) (corrected : Nat) (s : State) : Res :=
  let h := head.n
  let p := HSL.page h link
  let l := hslLane h link
  let x := s.lane l
  let thr := fget p HSL.DEG_CFG_DEG_THR s
  let run := if thr < corrected then x.degMs + 1 else 0
  let s := setLane l { x with degMs := run } s
  if run ≥ fget p HSL.DEG_CFG_DEG_MS s && thr < corrected && !fon p HSL.STATUS_DEGRADED s then
    let s := s |> fset p HSL.STATUS_DEGRADED 1 |> raise p HSL.iDEGRADED |> emit 0x3102 (srcChan h) l corrected thr
    let focusOpen := fget (LOOP.page (4 * h)) LOOP.LOOP_STATUS_STATE s != 2
    if fget p HSL.STATUS_STATE s = 5 && focusOpen && fon p HSL.CTRL_AUTO_RETRAIN s then .next (startGroup h s) else .next s
  else if run = 0 then .next (fset p HSL.STATUS_DEGRADED 0 s)
  else .next s

/-- MONITOR_STREAM_ABSENT (R106, R107). -/
def execMonitorStreamAbsent (head : Head) (s : State) : Res :=
  let h := head.n
  if writing h s then .next (s |> tripHead h |> emit 0x3107 (srcChan h) (hslLane h 0) 8 0) else .next s

/-! ## Bring-up (R93 to R95) -/

/-- The CTRL.EN of a link page written. -/
def setLinkEn (h : Nat) (en : Bool) (s : State) : LinkPage → State
  | .hsl0 => fsetB (HSL.page h 0) HSL.CTRL_EN en s
  | .hsl1 => fsetB (HSL.page h 1) HSL.CTRL_EN en s
  | .htx => fsetB (HTX.page h) HTX.CTRL_EN en s
  | .acl => s |> fsetB (ACL.page h) ACL.CTRL_EN en |> fsetB (ACL.page h) ACL.STATUS_ACTIVE en

/-- LINK_ENABLE (R93, R94): with all three lanes enabled the group trains; a lane disabled stops it. -/
def execLinkEnable (head : Head) (page : LinkPage) (en : Bool) (s : State) : Res :=
  let h := head.n
  let was := groupEnabled h s
  let t := setLinkEn h en s page
  if page = .acl then .next t
  else if !was && groupEnabled h t then
    .next (t |> fset (HSL.page h 0) HSL.TRAIN_CNT 0 |> fset (HSL.page h 1) HSL.TRAIN_CNT 0 |> startGroup h)
  else if was && !groupEnabled h t then
    .next ((if groupActive h t then lostFeedbackTrip h 2 (srcEng (4 * h)) t else t) |> groupState h 0)
  else .next t

/-- LINK_TRAIN (R93, R94): the whole group restarts, with a fresh count of attempts. -/
def execLinkTrain (head : Head) (page : LinkPage) (s : State) : Res :=
  let h := head.n
  if page = .acl || !groupEnabled h s then .next s
  else .next ((if groupActive h s then lostFeedbackTrip h 2 (srcEng (4 * h)) s else s) |> startGroup h)

/-- TRAINING_FRAME (R93, R94): steps 2 to 4 of bring-up. -/
def execTrainingFrame (head : Head) (link : Fin 2) (frame : TrainingFrame) (s : State) : Res :=
  let h := head.n
  let p := HSL.page h link
  let st := fget (HTX.page h) HTX.STATUS_STATE s
  if !frame.crcOk || !(st = 1 || st = 2) then .next s
  else
    let l := hslLane h link
    let x := s.lane l
    let s := setLane l { x with found := true, ready := x.ready || frame.ready, last := x.last || frame.last,
                                window := some frame.window } s
    let s := if frame.ready then
        s |> fset p HSL.TX_FFE_CM2 (slice frame.ffe.toNat 3 0) |> fset p HSL.TX_FFE_CM1 (slice frame.ffe.toNat 7 4)
          |> fset p HSL.TX_FFE_C0 (slice frame.ffe.toNat 11 8) |> fset p HSL.TX_FFE_CP1 (slice frame.ffe.toNat 15 12)
          |> fset p HSL.RX_EQ_CTLE (slice frame.eq.toNat 7 0) |> fset p HSL.RX_EQ_DFE1 (slice frame.eq.toNat 15 8)
          |> fset p HSL.RX_EQ_EYE_H (slice frame.eq.toNat 23 16) |> fset p HSL.RX_EQ_EYE_W (slice frame.eq.toNat 31 24)
      else s
    let a := s.lane (hslLane h 0)
    let b := s.lane (hslLane h 1)
    let s := if st = 1 && a.found && b.found then groupState h 2 s else s
    if fget (HTX.page h) HTX.STATUS_STATE s = 2 && a.ready && b.ready && a.last && b.last then .next (groupState h 3 s)
    else .next s

/-- A bring-up attempt failed (R94, R106): a further attempt, or FAULT after the third. -/
def trainFailed (h cause : Nat) (s : State) : State :=
  let a := (s.link h).attempts
  let p0 := HSL.page h 0
  let s := s |> raise p0 HSL.iTRAIN_FAIL |> raise (HSL.page h 1) HSL.iTRAIN_FAIL |> raise (HTX.page h) HTX.iTRAIN_FAIL
    |> fault p0 cause |> fault (HSL.page h 1) cause |> fault (HTX.page h) cause
    |> emit 0x3105 (srcChan h) (hslLane h 0) cause a
  if a ≥ 3 then
    s |> groupFault h 0x06 |> setHead h { s.head h with out := true } |> emit 0x3106 (srcChan h) (hslLane h 0) 0x06 0
  else trainAttempt h s

/-- TRAINING_TIMEOUT (R94). -/
def execTrainingTimeout (head : Head) (cause : BitVec 8) (s : State) : Res :=
  let h := head.n
  let st := fget (HTX.page h) HTX.STATUS_STATE s
  if st = 0 || st = 5 || st = 6 then .next s else .next (trainFailed h cause.toNat s)

/-- READ_CAPS answered (R94 step 5, R95). -/
def capsReply (h body : Nat) (s : State) : State :=
  let lo := slice body 31 0
  let hi := slice body 63 32
  let p := HSL.page h 0
  let s := s |> fset p HSL.CAPS_LO lo |> fset p HSL.CAPS_HI hi
  let caps := lo + hi * 2 ^ 32
  if fget (HTX.page h) HTX.STATUS_STATE s ≠ 4 then s
  else if slice caps 31 28 ≠ 1 || !bit caps 27 || slice caps 43 32 < 1500 then
    s |> groupFault h 0x03 |> setHead h { s.head h with out := true }
      |> emit 0x3106 (srcChan h) (hslLane h 0) 0x03 0
  else groupUp h s

/-! ## Answers and timeouts (R101) -/

/-- The effect of a power entry refused or failing (R334). -/
def powerRefused (h args : Nat) (s : State) : State :=
  s |> raise (LPW.page h) LPW.iPWR_SET_FAIL |> fault (LPW.page h) 0x02
    |> setRec h { s.rec' h with blocked := true }
    |> emit 0x410E (srcChan h) h (slice args 239 236) (slice args 235 233)

/-- A power entry answered done (R334). -/
def powerDone (h args : Nat) (s : State) : State :=
  let key := 8 * slice args 239 236 + slice args 235 233
  let r := s.rec' h
  let un := r.unsent.erase key
  s |> setLink h { s.link h with power := (s.link h).power.put key (slice args 231 216) 0 }
    |> setRec h { r with unsent := un }
    |> fsetB (LPW.page h) LPW.STATUS_TBL_PEND (un ≠ [])

/-- The device's own use of an answer, by message type. -/
def answered (h result : Nat) (m : Msg) (body : Nat) (s : State) : State :=
  if m.type = 5 then (if result = 0 then capsReply h body s else s)
  else if m.type = 3 then (if result = 0 then powerDone h m.args s else powerRefused h m.args s)
  else if m.type = 4 && result = 0 then setLink h { s.link h with emitter := slice m.args 239 238 } s
  else s

/-- The words of a response into MSG_RESP (R120). -/
def setResp (h body : Nat) (s : State) : State :=
  (List.range 8).foldl (fun t i => fset (HTX.page h) (HTX.MSG_RESP.ix i) (body / 2 ^ (32 * i) % 2 ^ 32) t) s

/-- A register message ended with a result (R103, R120). -/
def ownDone (h result : Nat) (s : State) : State :=
  s |> fset (HTX.page h) HTX.MSG_CTRL_RESULT result |> fset (HTX.page h) HTX.MSG_CTRL_BUSY 0
    |> fset (HTX.page h) HTX.STATUS_MSG_BUSY 0

/-- CONTROL_RESPONSE (R101): result 0 done, 1 bad argument; 2 busy leaves a device message to be sent again. -/
def execControlResponse (head : Head) (type tag : BitVec 8) (body : BitVec 240) (s : State) : Res :=
  let h := head.n
  let k := s.link h
  match k.msgs.find? (fun m => m.tag = tag.toNat && m.type + 0x80 = type.toNat) with
  | none => .next s
  | some m =>
    let b := body.toNat
    let result := min 2 (slice b 239 232)
    if result = 2 && !m.own then .next s
    else
      let s := setLink h { k with msgs := k.msgs.erase m } s
      let s := answered h result m b s
      let s := if result = 1 then fault (HTX.page h) 0x10 s else s
      .next (if m.own then s |> setResp h b |> ownDone h result |> raise (HTX.page h) HTX.iMSG_DONE else s)

/-- CONTROL_MESSAGE_TIMEOUT (R101): sent again twice; the third timeout fails the message and retrains the lanes. -/
def execControlMessageTimeout (head : Head) (tag : BitVec 8) (s : State) : Res :=
  let h := head.n
  let k := s.link h
  match k.msgs.find? (fun m => m.tag = tag.toNat) with
  | none => .next s
  | some m =>
    if m.sends < 3 then
      .next (s |> setLink h { k with msgs := k.msgs.map (fun x => if x = m then { m with sends := m.sends + 1 } else x) }
        |> send (.htxMsg h m.type m.tag m.args))
    else
      let s := s |> setLink h { k with msgs := k.msgs.erase m }
        |> raise (HTX.page h) HTX.iMSG_FAIL |> fault (HTX.page h) 0x11
        |> emit 0x3108 (srcChan h) (4 + h) m.type m.tag
      let s := if m.own then ownDone h 3 s else s
      let s := if m.type = 3 then powerRefused h m.args s else s
      let s := if groupActive h s then lostFeedbackTrip h 2 (srcEng (4 * h)) s else s
      .next (startGroup h s)

/-- The arguments MSG_ARG0 to MSG_ARG7 hold (R120). -/
def msgArgs (h : Nat) (s : State) : Nat :=
  ((List.range 8).foldl (fun a i => a + fget (HTX.page h) (HTX.MSG_ARG.ix i) s * 2 ^ (32 * i)) 0) % 2 ^ 240

/-- HTX_MSG_GO (R103): ignored while BUSY; an emitter the front end lacks is never named to it (R96). -/
def execHtxMsgGo (head : Head) (s : State) : Res :=
  let h := head.n
  let type := fget (HTX.page h) HTX.MSG_CTRL_TYPE s
  let args := msgArgs h s
  if fon (HTX.page h) HTX.MSG_CTRL_BUSY s || emitterAbsent h type args s then .next s
  else .next (s |> fset (HTX.page h) HTX.MSG_CTRL_BUSY 1 |> fset (HTX.page h) HTX.STATUS_MSG_BUSY 1 |> sendMsg h type args true)

/-- UNDERRUN (R100). -/
def execUnderrun (head : Head) (s : State) : Res :=
  let h := head.n
  .next (s |> abruptStop h 3 |> fset (HTX.page h) HTX.STATUS_WRITE_EN 0
    |> raise (HTX.page h) HTX.iUNDERRUN |> sticky (HTX.page h) HTX.kUNDERRUN
    |> cnt (HTX.page h) HTX.UNDERRUN_CNT HTX.kCNT_SAT |> raise (LPW.page h) LPW.iUNDERRUN)

/-! ## Codewords of the FEC stream (R84 to R92, R106) -/

/-- Samples a block of a stream holds, for the streams whose loss the channel hears of (R86, R88). -/
def streamSamples (stream : Nat) : Nat := if stream ≤ 0x19 then 30 else 20
/-- RF and wobble streams (R86). -/
def rfOrWobble (stream : Nat) : Bool := (0x10 ≤ stream && stream ≤ 0x19) || stream = 0x20 || stream = 0x21

/-- A stream's SEQ checked; a jump is counted and its samples are missing (R88, R106). -/
def checkSeq (h k stream seq : Nat) (s : State) : State :=
  let l := hslLane h k
  let x := s.lane l
  let s := setLane l { x with seqs := x.seqs.insert stream seq } s
  match x.seqs.find stream with
  | none => s
  | some q =>
    let gap := (seq + 256 - (q + 1) % 256) % 256
    if gap = 0 then s
    else
      let s := s |> cnt (HSL.page h k) HSL.SEQ_GAP_CNT HSL.kSEQ_GAP_SAT |> raise (HSL.page h k) HSL.iSEQ_GAP
      if rfOrWobble stream then send (.missing h stream (gap * streamSamples stream)) s else s

/-- The value a monitor sample is compared with (R335): MON_OFS + MON_K × mean power, MON_K Q12.4 per mW. -/
def expectedMon (h beam power : Nat) (s : State) : Nat :=
  fget (LPW.page h) LPW.MON_CFG_MON_OFS s + fget (LPW.page h) (LPW.MON_K.ix beam) s * power / 1600

/-- A laser monitor sample (R173). -/
def monitorSample (h beam sample power : Nat) (s : State) : State :=
  let p := LPS.page h
  let w := writing h s
  let ex := min 4095 (expectedMon h beam (if w then power else fget (LPW.page h) LPW.READ_PWR s) s)
  let s := s |> fset p (LPS.MON_SAMPLE.ix beam) sample |> fset p (LPS.MON_EXPECTED.ix beam) ex
  let diff := if sample < ex then ex - sample else sample - ex
  let dev := fget p LPS.LPS_CFG_FLOOR s < diff && fget p LPS.LPS_CFG_TOL_PCT s * ex < diff * 100
  let hd := s.head h
  let run := if dev then hd.devRuns.get beam 0 + 1 else 0
  let s := setHead h { hd with devRuns := hd.devRuns.put beam run 0 } s
  if !dev || !fon p LPS.LPS_CTRL_EN s then s
  else
    let s := cnt p LPS.DEV_CNT ENG.kCNT_SAT s
    let src := srcEng (4 * h + 3)
    if w then
      if run = nz (fget p LPS.LPS_CFG_N s) && fon (LPW.page h) LPW.CTRL_MON_EN s then
        s |> tripHead h |> fset p LPS.LPS_STATUS_TRIPPED 1 |> fset p LPS.LPS_STATUS_DEV (setBit (fget p LPS.LPS_STATUS_DEV s) beam)
          |> cnt p LPS.TRIP_CNT ENG.kCNT_SAT |> emit 0x2020 src h beam sample
      else s
    else if fon p LPS.LPS_CTRL_READ_SUP s then
      s |> fset p LPS.LPS_STATUS_DEV (setBit (fget p LPS.LPS_STATUS_DEV s) beam) |> emit 0x2021 src h beam sample
    else s

/-- The twenty samples of a monitor block: two instants of D0 to D7, G0, G1 (R86). -/
def monitorBlock (h samples : Nat) (power : List Nat) (s : State) : State :=
  (List.range 20).foldl (fun t j => monitorSample h (j % 10) (slice samples (239 - 12 * j) (228 - 12 * j)) (power.getD (j % 10) 0) t) s

/-- Front-end status (R86): the confirmed rate, the temperature and the fault flags. -/
def statusBlock (h v : Nat) (s : State) : State :=
  let fs := slice v 239 228
  let s := s |> fset (HTX.page h) HTX.FS_ACT_FS fs |> fset (HSL.page h 0) HSL.FS_RX_FS fs |> fset (HSL.page h 1) HSL.FS_RX_FS fs
    |> setLink h { s.link h with feTemp := toSigned 12 (slice v 227 216) }
  if bit v 200 && writing h s then
    s |> tripHeadAs h 4 |> emit 0x3107 (srcChan h) (hslLane h 1) 9 0
  else s

/-- One block of a codeword delivered (R85, R86). -/
def fecBlock (h k : Nat) (power : List Nat) (s : State) : FecBlock → State
  | .data stream seq samples =>
    if stream.toNat = 0 then s
    else
      let s := checkSeq h k stream.toNat seq.toNat s
      if stream.toNat = 0x30 then monitorBlock h samples.toNat power s
      else if stream.toNat = 0x40 then statusBlock h samples.toNat s
      else s
  | .control _ _ _ => s

/-- FEC_CODEWORD (R84, R88, R106). Control responses are CONTROL_RESPONSE commands of their own. -/
def execFecCodeword (head : Head) (link : Fin 2) (cw : Option CodewordIn) (s : State) : Res :=
  let h := head.n
  let p := HSL.page h link
  let l := hslLane h link
  let x := s.lane l
  let s := cnt64 p HSL.CW_CNT_LO HSL.CW_CNT_HI HSL.kCORR_SAT 1 s
  match cw with
  | none =>
    let s := s |> setLane l { x with badCws := x.badCws + 1, goodCws := 0 }
      |> cnt p HSL.UNCORR_CW_CNT HSL.kUNCORR_SAT |> raise p HSL.iUNCORR
    .next (if x.badCws + 1 ≥ 8 then laneDown h link 0x05 (x.window.getD 0) s else s)
  | some c =>
    let s := s |> setLane l { x with badCws := 0, goodCws := x.goodCws + 1 }
      |> cntN p HSL.CORR_SYM_CNT HSL.kCORR_SAT c.corrected
    .next (c.blocks.foldl (fun t b => fecBlock h link c.power t b) s |> alignLock h)

/-! ## The actuator command link (R109 to R116) -/

/-- COIL_DRIVER_FAULT (R115). -/
def execCoilDriverFault (head : Head) (s : State) : Res :=
  let h := head.n
  let p := ACL.page h
  .next (s |> coilsSafe h |> fset p ACL.STATUS_FLT 1 |> setLink h { s.link h with fltSafe := true, fltPin := true }
    |> raise p ACL.iDRV_FAULT |> fault p 0x01
    |> emit 0x2300 srcServo (6 + h) (fget p ACL.COIL_EN_EN s) (s.link h).tick
    |> tripHead h |> lostFeedback h 4 (srcEng (4 * h)))

/-- FLT_N_RELEASE (R115): SAFE ends when the pin is released and the head is restarted. -/
def execFltNRelease (head : Head) (restart : Bool) (s : State) : Res :=
  let h := head.n
  let s := s |> setLink h { s.link h with fltPin := false, fltSafe := !restart } |> fset (ACL.page h) ACL.STATUS_FLT 0
  .next (if restart then
    (List.range 5).foldl (fun t c => fset (ACL.page h) (ACL.CMD_SAFE.ix c) 0 t) (fset (ACL.page h) ACL.STATUS_SAFE 0 s)
    else s)

/-- The OTP limit of a coil (R112). -/
def coilLimit (h c : Nat) (s : State) : Int := fget (ACL.page h) (ACL.LIMIT.ix c) s

/-- VALUE clamped to the coil's limit, never 0x8000 (R112). -/
def clampCoil (h c : Nat) (v : Int) (s : State) : Int :=
  let m := min 32767 (coilLimit h c s)
  clampI (-m) m v

/-- The engine that commands a coil (R111). -/
def coilEngine (h c : Nat) : Nat := 4 * h + min c 2

/-- One subframe of a coil in a tick (R110, R112); HOLD is also set while the engine's output is held (R132). -/
def subframe (h : Nat) (s : State) (c : Nat) : State :=
  let p := ACL.page h
  if !bit (fget p ACL.COIL_EN_EN s) c then s
  else
    let k := s.link h
    let v := if fon p ACL.CTRL_FORCE_SAFE s || k.fltSafe || fon p (ACL.CMD_SAFE.ix c) s then 0 else fget p (ACL.CMD_VALUE.ix c) s
    s |> cnt p ACL.FRAME_CNT ACL.kFRAME_SAT
      |> send (.acl h c v k.tick (fon p (ACL.CMD_HOLD.ix c) s || fon (ENG.page (coilEngine h c)) ENG.STATUS_H s)
          (fon p ACL.CTRL_FORCE_SAFE s || k.fltSafe || fon p (ACL.CMD_SAFE.ix c) s))

/-- The subframes of a head's tick: one for each enabled coil, the last value repeated where no command came (R112). -/
def aclTick (h : Nat) (s : State) : State :=
  if fon (ACL.page h) ACL.CTRL_EN s then
    let s := (List.range 5).foldl (subframe h) s
    let k := s.link h
    s |> setLink h { k with tick := (k.tick + 1) % 16, coilCmd := [] } |> fset (ACL.page h) ACL.STATUS_TICK ((k.tick + 1) % 16)
  else s

/-- A coil command released by an engine (R112, R113): clamped, and its spacing from the last one checked. -/
def coilCommand (h c : Nat) (v : Int) (hold safe : Bool) (s : State) : State :=
  let p := ACL.page h
  let w := clampCoil h c v s
  let s := if w ≠ v then
      s |> cnt p ACL.CLAMP_CNT ACL.kCLAMP_SAT |> raise p ACL.iCLAMP |> emit 0x2301 srcServo (6 + h) c (ofSigned 16 v)
    else s
  let s := if (s.link h).released = some s.time then raise p ACL.iSPACING s else s
  s |> fsetI p (ACL.CMD_VALUE.ix c) w |> fsetB p (ACL.CMD_HOLD.ix c) hold |> fsetB p (ACL.CMD_SAFE.ix c) safe
    |> setLink h { s.link h with coilCmd := (s.link h).coilCmd.insert c (ofSigned 16 w, hold), released := some s.time }

/-! ## The servo tick of the links (R83, R106) -/

/-- A lane's tick value (R83): the mean over its valid slots, valid with at least 63 of them and the lane not stale. -/
def laneTickVal (x : LaneSt) (stale : Bool) : TickVal :=
  ⟨x.sums.map (· / max 1 x.valid), decide (63 ≤ x.valid) && !stale⟩

/-- A lane's part of the servo tick: the crossing, invalid ticks and servo lost (R83, R106, R107). -/
def laneTick (h k : Nat) (s : State) : State :=
  let p := HSL.page h k
  let l := hslLane h k
  let x := s.lane l
  let v := laneTickVal x (fon p HSL.STATUS_STALE s)
  let bad := decide (x.valid < 63)
  let full := decide (2 ≤ x.crossing.length)
  let cross := (if full then x.crossing.drop 1 else x.crossing) ++ [v]
  let s := setLane l { x with sums := [], valid := 0, crossing := cross, badTicks := if bad then x.badTicks + 1 else 0 } s
  let s := if full then sticky p HSL.kSERVO_OVERRUN s else s
  let s := fsetB p HSL.STATUS_TICK_INVALID bad s
  if bad then
    let s := fset p HSL.SERVO_CNT_INVALID_TICKS (min 65535 (fget p HSL.SERVO_CNT_INVALID_TICKS s + 1)) s
    if x.badTicks + 1 = 2 then
      let w := writing h s
      s |> fset p HSL.STATUS_SLOST 1 |> raise p HSL.iSLOST |> emit 0x3103 (srcChan h) l 2 (b2n w)
        |> (fun t => if w then t |> tripHead h |> emit 0x3107 (srcChan h) l 3 0 else t)
    else s
  else fset p HSL.STATUS_SLOST 0 s

/-- The servo island takes a lane's oldest waiting tick value (R83, R159). -/
def takeTick (l : Nat) (s : State) : State :=
  let x := s.lane l
  match x.crossing with
  | [] => s
  | v :: vs => setLane l { x with crossing := vs, cur := v } s

end Sys2Proof.Machine
end

