-- ==== Sys2Proof/Machine/Profile.lean ====
section
/-!
DEFINITION. The profile generator (R149 to R152, R198, R232). A move is a list of phases of constant jerk; positions at
the ticks are exact rationals.
-/
namespace Sys2Proof.Machine

/-- Servo ticks in a second. -/
def ticksPerS : Nat := 400000

/-- A channel's record. -/
def State.pg (s : State) (c : Nat) : PgSt := s.pgs.get c {}
/-- A channel's record set. -/
def setPg (c : Nat) (v : PgSt) (s : State) : State := { s with pgs := s.pgs.put c v {} }

/-! ## Planning -/

/-- The least natural that meets a monotone test, at most `hi`. -/
def leastBelow (p : Nat → Bool) : Nat → Nat → Nat → Nat
  | 0, _, hi => hi
  | fuel + 1, lo, hi =>
    if lo ≥ hi then lo
    else
      let m := (lo + hi) / 2
      if p m then leastBelow p fuel lo m else leastBelow p fuel (m + 1) hi

/-- The least natural, from `lo`, that meets a monotone test. -/
def least (lo : Nat) (p : Nat → Bool) : Nat := leastBelow p 48 lo (2 ^ 40)

/-- Phases that change the velocity by `d` ≥ 0 in the least time within acceleration `a` and jerk `j`; `sg` is the sign.
Where the acceleration limit does not bind, whole ticks are used and the jerk is at most `j`. -/
def velPhases (sg d a j : Rat) : List (Rat × Rat) :=
  if d = 0 then []
  else if d * j ≥ a * a then [(sg * j, a / j), (0, d / a - a / j), (-(sg * j), a / j)]
  else
    let t : Rat := least 1 (fun n => decide ((n : Rat) * n * j ≥ d))
    [(sg * (d / (t * t)), t), (-(sg * (d / (t * t))), t)]

/-- The duration of phases. -/
def phasesTime (ps : List (Rat × Rat)) : Rat := ps.foldl (fun a p => a + p.2) 0

/-- The move from rest over distance `d` > 0 (R149): jerk up, constant acceleration, jerk down, cruise and the mirror.
Phase lengths are the least whole ticks that keep within the limits, and the jerk ends the move on the target. -/
def restPhases (d v a j : Rat) : List (Rat × Rat) :=
  let tj := least 1 (fun n => let t : Rat := n; decide (t * j ≥ a) || decide (t * t * j ≥ v) || decide (2 * t * t * t * j ≥ d))
  let t : Rat := tj
  let ap := min (min a (j * t)) (min (v / t) (d / (2 * t * t)))
  let ta := least 0 (fun n => let m : Rat := n; decide (ap * (t + m) ≥ v) || decide (ap * (t + m) * (2 * t + m) ≥ d))
  let u : Rat := ta
  let vp := min v (ap * (t + u))
  let tv := least 0 (fun n => let m : Rat := n; decide (vp * (2 * t + u + m) ≥ d))
  let c : Rat := tv
  let k := d / (t * (t + u) * (2 * t + u + c))
  [(k, t), (0, u), (-k, t), (0, c), (-k, t), (0, u), (k, t)]

/-- Phases that bring the acceleration to zero. -/
def levelPhases (acc j : Rat) : List (Rat × Rat) :=
  if acc = 0 then [] else [(if acc < 0 then j else -j, |acc| / j)]

/-- Position, velocity and acceleration after a time in one phase. -/
def phaseStep (x : Rat × Rat × Rat) (j t : Rat) : Rat × Rat × Rat :=
  let (p, v, a) := x
  (p + v * t + a * t * t / 2 + j * t * t * t / 6, v + a * t + j * t * t / 2, a + j * t)

/-- Position, velocity and acceleration after phases. -/
def phasesEnd (x : Rat × Rat × Rat) (ps : List (Rat × Rat)) : Rat × Rat × Rat :=
  ps.foldl (fun y p => phaseStep y p.1 p.2) x

/-- Phases that stretch a stop from speed `v` > 0 over distance `d` > 0. -/
def stretchPhases (sg v d a j : Rat) : List (Rat × Rat) :=
  let t := 2 * d / v
  let tj := if v * j ≥ a * a then min (a / j) (t / 2) else t / 2
  let k := v / ((t - tj) * tj)
  [(-(sg * k), tj), (0, t - 2 * tj), (sg * k, tj)]

/-- A plan from a state in motion to rest at `dest` within the limits; none where they cannot bring it to rest there
(R151). `sg` is the direction of motion. -/
def replan (x : Rat × Rat × Rat) (dest v a j : Rat) : Option (List (Rat × Rat)) :=
  let lv := levelPhases x.2.2 j
  let (p, u, _) := phasesEnd x lv
  let sg : Rat := if u < 0 then -1 else if 0 < u then 1 else if dest < p then -1 else 1
  let d := sg * (dest - p)
  let w := |u|
  if d < 0 then none
  else if w = 0 then some (if d = 0 then lv else lv ++ (restPhases d v a j).map (fun q => (sg * q.1, q.2)))
  else
    let toV := velPhases (if w ≤ v then sg else -sg) |v - w| a j
    let stopV := velPhases (-sg) v a j
    let need := (v + w) / 2 * phasesTime toV + v / 2 * phasesTime stopV
    if need ≤ d then some (lv ++ toV ++ [(0, (d - need) / v)] ++ stopV)
    else
      let stop := velPhases (-sg) w a j
      let ds := w / 2 * phasesTime stop
      if ds ≤ d then
        some (if w ≤ v then lv ++ [(0, (d - ds) / w)] ++ stop else lv ++ stretchPhases sg w d a j)
      else none

/-- Deceleration to the target at once within the limits (R151). -/
def stopAtTarget (x : Rat × Rat × Rat) (dest a j : Rat) : List (Rat × Rat) :=
  let lv := levelPhases x.2.2 j
  let (p, u, _) := phasesEnd x lv
  let sg : Rat := if u < 0 then -1 else 1
  let d := sg * (dest - p)
  if 0 < |u| && 0 < d then lv ++ stretchPhases sg |u| d a j else lv

/-- Deceleration to rest within the limits (R151, STOP). -/
def stopPhases (x : Rat × Rat × Rat) (a j : Rat) : List (Rat × Rat) :=
  let lv := levelPhases x.2.2 j
  let (_, u, _) := phasesEnd x lv
  lv ++ velPhases (if u < 0 then 1 else -1) |u| a j

/-- One tick along the phases: what is left of `t` is spent phase by phase. -/
def runPhases : Nat → Rat → Rat × Rat × Rat → List (Rat × Rat) → (Rat × Rat × Rat) × List (Rat × Rat)
  | 0, _, x, ps => (x, ps)
  | _, _, x, [] => (x, [])
  | fuel + 1, t, x, (j, d) :: ps =>
    if t < d then (phaseStep x j t, (j, d - t) :: ps) else runPhases fuel (t - d) (phaseStep x j d) ps

/-! ## A channel's page -/

/-- V_MAX, A_MAX and J_MAX of a channel's page, units a second. -/
def pgPageLimits (c : Nat) (s : State) : Nat × Nat × Nat :=
  let p := MOT.page
  (fget64 p (MOT.V_MAX_LO.ix c) (MOT.V_MAX_HI.ix c) s, fget64 p (MOT.A_MAX_LO.ix c) (MOT.A_MAX_HI.ix c) s,
    fget64 p (MOT.J_MAX_LO.ix c) (MOT.J_MAX_HI.ix c) s)

/-- The limits in force: the page's, or the ones kept while the page's are deferred (R151). -/
def pgLimits (c : Nat) (s : State) : Nat × Nat × Nat := ((s.pg c).inForce).getD (pgPageLimits c s)

/-- Limits in units and ticks. -/
def perTick (l : Nat × Nat × Nat) : Rat × Rat × Rat :=
  let t : Rat := ticksPerS
  (l.1 / t, l.2.1 / (t * t), l.2.2 / (t * t * t))

/-- STATE of a channel: 0 REST, 1 MOVING, 2 STOPPING, 3 SHORT_STOP, 4 TABLE (R198). -/
def pgState (c : Nat) (s : State) : Nat := fget MOT.page (MOT.PG_STATE_STATE.ix c) s

/-- STATE set; STATUS.MOVING follows. -/
def setPgState (c v : Nat) (s : State) : State :=
  let m := fget MOT.page MOT.STATUS_MOVING s
  s |> fset MOT.page (MOT.PG_STATE_STATE.ix c) v
    |> fset MOT.page MOT.STATUS_MOVING (if v = 0 || v = 3 then clrBit m c else setBit m c)

/-- The channel is in a move. -/
def pgMoving (c : Nat) (s : State) : Bool := let v := pgState c s; v = 1 || v = 2 || v = 4

/-- A velocity or acceleration as a Q1.31 fraction of a limit; 0 at rest and saturated in motion where the limit is 0
(R152, R188). -/
def fraction (x lim : Rat) : Int :=
  if lim = 0 then (if x = 0 then 0 else if x < 0 then -(2 ^ 31) else 2 ^ 31 - 1)
  else clampI (-(2 ^ 31)) (2 ^ 31 - 1) (x / lim * 2 ^ 31).floor

/-- POS, VEL and ACC of the channel's page (R188, R198). -/
def showPg (c : Nat) (s : State) : State :=
  let g := s.pg c
  let l := perTick (pgPageLimits c s)
  let q := ofSigned 48 (g.pos * 2 ^ 16).floor
  s |> fset MOT.page (MOT.POS_LO.ix c) (q % 2 ^ 32) |> fset MOT.page (MOT.POS_HI.ix c) (q / 2 ^ 32)
    |> fsetI MOT.page (MOT.VEL.ix c) (fraction g.vel l.1) |> fsetI MOT.page (MOT.ACC.ix c) (fraction g.acc l.2.1)

/-- A Q32.16 value of a _LO/_HI pair, in channel units. -/
def q16Pair (lo hi : Nat) : Rat := (toSigned 48 (lo + 2 ^ 32 * (hi % 2 ^ 16)) : Rat) / 2 ^ 16

/-- The target of a channel's page. -/
def pgTarget (c : Nat) (s : State) : Rat :=
  q16Pair (fget MOT.page (MOT.TGT_LO.ix c) s) (fget MOT.page (MOT.TGT_HI.ix c) s)

/-- The channel comes to rest: INT_STATUS DONE, or SHORT_STOP with the state that says so (R151, R198). -/
def pgRest (c : Nat) (short : Bool) (s : State) : State :=
  let g := s.pg c
  s |> setPg c { g with vel := 0, acc := 0, plan := [], seg := none, inForce := none }
    |> fset MOT.page (MOT.PG_STATE_DEFERRED.ix c) 0 |> fset MOT.page (MOT.MOVE_TICKS.ix c) g.total
    |> setPgState c (if short then 3 else 0) |> raise MOT.page ((if short then MOT.iSHORT_STOP else MOT.iDONE) + c)
    |> showPg c

/-! ## Table mode (R150, R152, R232) -/

/-- Segment `i` latched from the table. -/
def latchSeg (c i : Nat) (s : State) : State :=
  let g := s.pg c
  let p := MOT.page
  let v := (perTick (pgPageLimits c s)).1
  let ev := (toSigned 32 (fget p (MOT.END_VEL.ix2 c i) s) : Rat) / 2 ^ 31 * v
  let ep := q16Pair (fget p (MOT.END_POS_LO.ix2 c i) s) (fget p (MOT.END_POS_HI.ix2 c i) s)
  s |> setPg c { g with seg := some (nz (fget p (MOT.DUR.ix2 c i) s), g.pos, g.vel, ep, ev), ticks := 0,
                        segs := nz (fget p (MOT.TBL_LEN.ix c) s) }
    |> fset p (MOT.PG_STATE_SEG.ix c) i

/-- Position, velocity, acceleration and jerk of a segment's cubic Hermite curve at tick `k` (R150). -/
def hermite (n : Nat) (p0 v0 p1 v1 : Rat) (k : Nat) : Rat × Rat × Rat × Rat :=
  let t : Rat := n
  let x : Rat := k / t
  let m0 := v0 * t
  let m1 := v1 * t
  let c3 := 2 * p0 - 2 * p1 + m0 + m1
  let c2 := 3 * p1 - 3 * p0 - 2 * m0 - m1
  (p0 + m0 * x + c2 * x * x + c3 * x * x * x, (m0 + 2 * c2 * x + 3 * c3 * x * x) / t,
    (2 * c2 + 6 * c3 * x) / (t * t), 6 * c3 / (t * t * t))

/-- Whether motion breaks a limit that is not 0 (R150, R152). -/
def breaks (l : Rat × Rat × Rat) (x : Rat × Rat × Rat × Rat) : Bool :=
  (decide (l.1 ≠ 0) && decide (l.1 < |x.2.1|)) || (decide (l.2.1 ≠ 0) && decide (l.2.1 < |x.2.2.1|)) ||
    (decide (l.2.2 ≠ 0) && decide (l.2.2 < |x.2.2.2|))

/-- A tick of a channel in table mode. -/
def tableTick (c : Nat) (s : State) : State :=
  let g := s.pg c
  match g.seg with
  | none => pgRest c false s
  | some (n, p0, v0, p1, v1) =>
    let k := g.ticks + 1
    let h := hermite n p0 v0 p1 v1 k
    let i := fget MOT.page (MOT.PG_STATE_SEG.ix c) s
    let s := if breaks (perTick (pgPageLimits c s)) h then sticky MOT.page (MOT.kLIMIT + c) s else s
    if k < n then setPg c { g with pos := h.1, vel := h.2.1, acc := h.2.2.1, ticks := k, total := g.total + 1 } s
    else
      let s := setPg c { g with pos := p1, vel := v1, acc := h.2.2.1, ticks := k, total := g.total + 1 } s
      if i + 1 < min 32 g.segs then latchSeg c (i + 1) s else pgRest c false s

/-! ## Ticks and commands -/

/-- A tick of a channel in a planned move. -/
def planTick (c : Nat) (s : State) : State :=
  let g := s.pg c
  let ((p, v, a), ps) := runPhases 64 1 (g.pos, g.vel, g.acc) g.plan
  let left := ps.filter (fun q => decide (0 < q.2))
  let s := setPg c { g with pos := if left = [] then g.dest else p, vel := v, acc := a, plan := left, total := g.total + 1 } s
  if left = [] then pgRest c (pgState c s = 2) s else s

/-- The position a stop ends at. -/
def stopDest (g : PgSt) (ps : List (Rat × Rat)) : Rat := (phasesEnd (g.pos, g.vel, g.acc) ps).1

/-- A channel decelerates to rest within limits; the position at rest becomes the new position (R151, R152). -/
def pgBrake (c : Nat) (l : Nat × Nat × Nat) (s : State) : State :=
  let g := s.pg c
  let (_, a, j) := perTick l
  let ps := if a = 0 || j = 0 then [] else stopPhases (g.pos, g.vel, g.acc) a j
  s |> setPg c { g with plan := ps, dest := stopDest g ps, seg := none } |> setPgState c 2

/-- A channel's part of the tick: with CTRL.EN 0 it is held at rest (R198). -/
def pgChannelTick (s : State) (c : Nat) : State :=
  if !fon MOT.page MOT.CTRL_EN s then
    if pgMoving c s then
      s |> setPg c { s.pg c with vel := 0, acc := 0, plan := [], seg := none, inForce := none } |> setPgState c 0 |> showPg c
    else s
  else if pgState c s = 4 then s |> tableTick c |> showPg c
  else if pgMoving c s then s |> planTick c |> showPg c
  else s

/-- A GO (R149, R150, R152): a move to TGT in limit mode, or the table; in limit mode a limit of 0 discards it. -/
def pgGo (c : Nat) (s : State) : State :=
  let g := s.pg c
  let (v, a, j) := pgPageLimits c s
  if pgMoving c s then s
  else if fon MOT.page (MOT.PG_CTRL_MODE.ix c) s then
    s |> setPg c { g with total := 0, vel := 0, acc := 0, inForce := none } |> latchSeg c 0 |> setPgState c 4
  else if v = 0 || a = 0 || j = 0 then sticky MOT.page (MOT.kZERO_LIM + c) s
  else
    let t := pgTarget c s
    let (tv, ta, tj) := perTick (v, a, j)
    let sg : Rat := if t < g.pos then -1 else 1
    let ps := if t = g.pos then [] else (restPhases |t - g.pos| tv ta tj).map (fun q => (sg * q.1, q.2))
    s |> setPg c { g with plan := ps, dest := t, total := 0, vel := 0, acc := 0, inForce := none } |> setPgState c 1

/-- A STOP (R151). -/
def pgStop (c : Nat) (s : State) : State := if pgMoving c s then pgBrake c (pgLimits c s) s else s

/-- A new target: discarded during a move (R151). -/
def pgSetTarget (c v : Nat) (s : State) : State :=
  if pgMoving c s then sticky MOT.page (MOT.kTGT_BUSY + c) s
  else s |> fset MOT.page (MOT.TGT_LO.ix c) (v % 2 ^ 32) |> fset MOT.page (MOT.TGT_HI.ix c) (v / 2 ^ 32)

/-- The pair of a limit. -/
def limitPair (c : Nat) : PgLimit → Fld × Fld
  | .v => (MOT.V_MAX_LO.ix c, MOT.V_MAX_HI.ix c)
  | .a => (MOT.A_MAX_LO.ix c, MOT.A_MAX_HI.ix c)
  | .j => (MOT.J_MAX_LO.ix c, MOT.J_MAX_HI.ix c)

/-- The new limits taken up during a move in limit mode (R151, R152). -/
def takeLimits (c : Nat) (old : Nat × Nat × Nat) (s : State) : State :=
  let g := s.pg c
  let (v, a, j) := pgPageLimits c s
  if v = 0 || a = 0 || j = 0 then
    let s := setPg c { g with inForce := some old } s
    s |> fset MOT.page (MOT.PG_STATE_DEFERRED.ix c) 1 |> sticky MOT.page (MOT.kZERO_LIM + c)
      |> pgBrake c old
  else
    let (tv, ta, tj) := perTick (v, a, j)
    let x := (g.pos, g.vel, g.acc)
    if pgState c s = 2 then s
    else match replan x g.dest tv ta tj with
      | some ps => s |> setPg c { g with plan := ps, inForce := none } |> fset MOT.page (MOT.PG_STATE_DEFERRED.ix c) 0
      | none =>
        let (_, oa, oj) := perTick old
        s |> setPg c { g with plan := stopAtTarget x g.dest oa oj, inForce := some old }
          |> fset MOT.page (MOT.PG_STATE_DEFERRED.ix c) 1 |> sticky MOT.page (MOT.kLIMIT_DEFERRED + c)

/-- A limit written: at rest it is set; during a move it is taken up, or deferred (R151, R152). -/
def pgSetLimit (c : Nat) (l : PgLimit) (v : Nat) (s : State) : State :=
  let old := pgLimits c s
  let s := fset64 MOT.page (limitPair c l).1 (limitPair c l).2 v s
  if pgState c s = 1 || pgState c s = 2 then takeLimits c old s else s

/-- PG_TICK (R149, R150). -/
def execPgTick (s : State) : Res := .next ((List.range 4).foldl pgChannelTick s)

/-- PG_GO (R149, R152). -/
def execPgGo (ch : Fin 4) (s : State) : Res := .next (pgGo ch s)

/-- PG_STOP (R151). -/
def execPgStop (ch : Fin 4) (s : State) : Res := .next (pgStop ch s)

/-- PG_LIMIT_WRITE (R151, R152). -/
def execPgLimitWrite (ch : Fin 4) (limit : PgLimit) (value : BitVec 64) (s : State) : Res :=
  .next (pgSetLimit ch limit value.toNat s)

/-- PG_TARGET_WRITE (R151). -/
def execPgTargetWrite (ch : Fin 4) (target : BitVec 48) (s : State) : Res := .next (pgSetTarget ch target.toNat s)

end Sys2Proof.Machine
end

