-- ==== Sys2Proof/Machine/Operands.lean ====
section
/-!
DEFINITION. What a control engine's words read: the servo error signals, the role input ports, the formats of
micro-words and data memory (R123, R127, R159, R169, R186, R197, R236, R237, R279, R280).
-/
namespace Sys2Proof.Machine

/-! ## Engines -/

/-- A control engine's record. -/
def State.eng (s : State) (e : Nat) : EngSt := s.engs.get e {}
/-- A control engine's record set. -/
def setEng (e : Nat) (v : EngSt) (s : State) : State := { s with engs := s.engs.put e v {} }
/-- STATE of an engine (R157): 0 UNLOADED, 1 RUNNING, 2 WAITING, 3 TRAPPED, 4 HALTED, 5 FAULTED. -/
def engState (e : Nat) (s : State) : Nat := fget (ENG.page e) ENG.STATUS_STATE s
/-- STATE of an engine set. -/
def setEngState (e v : Nat) (s : State) : State := fset (ENG.page e) ENG.STATUS_STATE v s
/-- A data memory word (R122). -/
def dmGet (e a : Nat) (s : State) : Nat := s.dmem.get (4096 * e + a % 4096) 0
/-- A data memory word set. -/
def dmPut (e a v : Nat) (s : State) : State := { s with dmem := s.dmem.put (4096 * e + a % 4096) (v % 2 ^ 32) 0 }
/-- The head a servo engine SE0 to SE7 serves. -/
def headOf (e : Nat) : Nat := e / 4
/-- The head a channel engine serves. -/
def chanHead (e : Nat) : Nat := (e - 12) / 4
/-- The last value written to an output port. -/
def portOut (e p : Nat) (s : State) : BitVec 32 := (s.eng e).ports.get p 0
/-- An output port's value kept. -/
def setPort (e p : Nat) (v : BitVec 32) (s : State) : State :=
  setEng e { s.eng e with ports := (s.eng e).ports.put p v 0 } s

/-! ## Error signals (R159) -/

/-- Segment tick value S`i` of a head. -/
def segment (h i : Nat) (s : State) : Int := (s.lane (hslLane h (i / 8))).cur.vals.getD (i % 8) 0

/-- PP of the halves in segments `i` and `i + 1`: (inner − outer) / (inner + outer) as Q1.31. -/
def pushPull (h i : Nat) (s : State) : Int :=
  div31 (segment h i s - segment h (i + 1) s) (segment h i s + segment h (i + 1) s)

/-- FE. -/
def sigFE (h : Nat) (s : State) : Int :=
  let q := fun i => segment h i s
  div31 (q 0 + q 2 - (q 1 + q 3)) (q 0 + q 1 + q 2 + q 3)

/-- FS: the sum over four, scaled as the segments. -/
def sigFS (h : Nat) (s : State) : Int :=
  shiftRound ((segment h 0 s + segment h 1 s + segment h 2 s + segment h 3 s) * 2 ^ 19) 2

/-- TE before its polarity: balanced over D4 and D3, or PP over S4 and S5 (R159, R160). -/
def sigTE0 (h : Nat) (s : State) : Int :=
  if fon (TRK.page h) TRK.TRK_CFG_SRC s then pushPull h 4 s
  else
    let bal : Int := fget (TRK.page h) (TRK.TRK_BAL.ix (posLayer h s)) s
    q31 (shiftRound (bal * pushPull h 6 s - (2 ^ 31 - bal) * pushPull h 4 s) 31)

/-- TE with the polarity in force (R169). -/
def sigTE (h : Nat) (s : State) : Int :=
  if fon (TRK.page h) TRK.TRK_CFG_POL_ACT s then q31 (-(sigTE0 h s)) else sigTE0 h s

/-- LS. -/
def sigLS (h : Nat) (s : State) : Int := q31 (shiftRound (pushPull h 8 s + pushPull h 10 s) 1)

/-- RT. -/
def sigRT (h : Nat) (s : State) : Int := pushPull h 12 s

/-- SAE. -/
def sigSAE (h : Nat) (s : State) : Int := pushPull h 14 s

/-- A lane's tick value is valid. -/
def laneValid (h k : Nat) (s : State) : Bool := (s.lane (hslLane h k)).cur.valid

/-- A lane is stale (R106). -/
def laneStale (h k : Nat) (s : State) : Bool := fon (HSL.page h k) HSL.STATUS_STALE s

/-- A lane of the head is down (R106). -/
def headDown (h : Nat) (s : State) : Bool :=
  fget (HSL.page h 0) HSL.STATUS_STATE s != 5 || fget (HSL.page h 1) HSL.STATUS_STATE s != 5

/-- H as the head's servo engines see it (R19, R126). -/
def servoH (h : Nat) (s : State) : Bool := fon (ENG.page (4 * h)) ENG.STATUS_H s

/-- Port VALID. -/
def sigValid (h : Nat) (s : State) : Nat :=
  b2n (laneValid h 0 s) + 2 * b2n (laneValid h 1 s) + 4 * b2n (laneStale h 0 s) + 8 * b2n (laneStale h 1 s) +
    16 * b2n (servoH h s) + 32 * b2n (s.head h).hSeen + 64 * b2n (headDown h s) + 128 * b2n (s.link h).fltPin

/-- Port XFF: the other head's published focus component while that is valid (R186). -/
def sigXFF (h : Nat) (s : State) : Int :=
  if fon (LOOP.page (4 * h)) LOOP.LOOP_STATUS_XFF_VALID s then (portOut (4 * (1 - h)) 0x88 s).toInt else 0

/-- The servo ports 0x00 to 0x19 of R159. -/
def servoPort (h p : Nat) (s : State) : Int :=
  if p < 0x10 then segment h p s * 2 ^ 19
  else if p = 0x10 then sigFE h s
  else if p = 0x11 then sigFS h s
  else if p = 0x12 then sigTE h s
  else if p = 0x13 then sigLS h s
  else if p = 0x14 then sigRT h s
  else if p = 0x15 then sigSAE h s
  else if p = 0x16 then sigValid h s
  else if p = 0x17 then sigXFF h s
  else if p = 0x18 then fget MC.page (posFld h) s
  else if p = 0x19 then fget (CHC.page h) CHC.STATUS_LG s
  else 0

/-! ## Ports of the other engines -/

/-- SE8's inputs (R236). -/
def spindlePort (p : Nat) (s : State) : Int :=
  if p = 0 then s.spin.obs
  else if p = 1 then fget SPN.page SPN.ANGLE_ANGLE s
  else if p = 2 then fget SPN.page SPN.VBUS s
  else if p = 3 then fget SPN.page SPN.SPINCMD_VAL_CMD_RPM s
  else if p = 4 then s.spin.iq
  else if p = 5 then s.spin.id'
  else 0

/-- Inputs of SE9 and SE10 (R237). -/
def sledPort (h p : Nat) (s : State) : Int :=
  if p = 0 then (portOut (4 * h + 1) 0x88 s).toInt
  else if p = 1 then sigLS h s
  else if p = 2 then sigValid h s
  else 0

/-- SE11's inputs (R197). -/
def motionPort (p : Nat) (s : State) : Int :=
  if p < 8 then (portOut p 0x8A s).toInt
  else if p = 0x10 then fget MC.page (posFld 0) s
  else if p = 0x11 then fget MC.page (posFld 1) s
  else if p = 0x12 then (portOut 8 0x8A s).toInt
  else 0

/-- The profile generator's ports 0xE0 to 0xEF (R123). -/
def pgPort (p : Nat) (s : State) : Int :=
  let c := (p - 0xE0) / 4
  let k := (p - 0xE0) % 4
  if k = 0 then (fget64 MOT.page (MOT.POS_LO.ix c) (MOT.POS_HI.ix c) s / 2 ^ 16 : Nat)
  else if k = 1 then fget MOT.page (MOT.VEL.ix c) s
  else if k = 2 then fget MOT.page (MOT.ACC.ix c) s
  else regValue MOT.page (0x44 + 0x40 * c) s

/-- The local register a channel engine addresses: page and offset, or none outside its head's CHN pages (R280). -/
def localReg (e : Nat) (s : State) : Option (Nat × Nat) :=
  let a := (portOut e 0x80 s).toNat
  let b := slice a 15 12
  if b ≤ 10 then some ((if chanHead e = 0 then 0x70 else 0x80) + b, slice a 11 2 * 4) else none

/-- Inputs of a channel engine (R279); all four engines of a head have them. -/
def chanPort (e p : Nat) (s : State) : Int :=
  let h := chanHead e
  if p < 0x0A then (regValue (CHN.page h p) 0x00C s % 2 ^ 16 : Nat)
  else if p = 0x0A then regValue (CHC.page h) 0x00C s
  else if p = 0x0B then fget (CHC.page h) CHC.POS s
  else if 0x10 ≤ p && p < 0x18 then fget (CHN.page h (p - 0x10)) CHN.MSE s
  else if 0x20 ≤ p && p < 0x2A then fget (CHN.page h (p - 0x20)) CHN.ENV_ENV_NOW s
  else if p = 0x30 then (match localReg e s with | some (pg, off) => regValue pg off s | none => 0)
  else 0

/-- What an input port reads (R123); a port not assigned to the engine reads 0. -/
def portIn (e p : Nat) (s : State) : BitVec 32 :=
  BitVec.ofInt 32 (
    if p = 0xF0 then (s.eng e).woke
    else if p = 0xF1 then fget (ENG.page e) ENG.TICK_CNT s
    else if p = 0xF2 then (s.time % 2 ^ 32 : Nat)
    else if 0xE0 ≤ p && p < 0xF0 then (if e < 12 then pgPort p s else 0)
    else if 0x80 ≤ p then 0
    else if e < 8 then servoPort (headOf e) p s
    else if e = 8 then spindlePort p s
    else if e = 9 || e = 10 then sledPort (e - 9) p s
    else if e = 11 then motionPort p s
    else chanPort e p s)

/-- The effect of an input besides its value: a local read clears RCL fields (R280). -/
def portRead (e p : Nat) (s : State) : State :=
  if 12 ≤ e && p = 0x30 then (match localReg e s with | some (pg, off) => readClears pg off s | none => s) else s

/-! ## Micro-word fields (R127) -/

/-- Bits `[hi:lo]` of a word's 26 operand bits. -/
def fld (w : BitVec 26) (hi lo : Nat) : Nat := slice w.toNat hi lo

/-- The fields of an ALU word that must be zero: `d`, `a` and `b` say which registers it names. -/
def fmtA (d a b : Bool) (w : BitVec 26) : Bool :=
  fld w 13 0 = 0 && (d || fld w 25 22 = 0) && (a || fld w 21 18 = 0) && (b || fld w 17 14 = 0)

/-- A data register. -/
def Regs.get (r : Regs) (i : Nat) : BitVec 32 := Store.get r.q i 0
/-- A data register set. -/
def Regs.put (r : Regs) (i : Nat) (v : BitVec 32) : Regs := { r with q := Store.put r.q i v 0 }
/-- An accumulator. -/
def Regs.ac (r : Regs) (i : Nat) : BitVec 72 := if i = 0 then r.ac0 else r.ac1
/-- An accumulator set. -/
def Regs.putAc (r : Regs) (i : Nat) (v : BitVec 72) : Regs := if i = 0 then { r with ac0 := v } else { r with ac1 := v }
/-- An address register. -/
def Regs.getX (r : Regs) (i : Nat) : BitVec 12 := Store.get r.x i 0
/-- An address register set. -/
def Regs.putX (r : Regs) (i : Nat) (v : BitVec 12) : Regs := { r with x := Store.put r.x i v 0 }

end Sys2Proof.Machine
end

