-- ==== Sys2Proof/Machine/SpinOps.lean ====
section
/-!
DEFINITION. The spindle's shared operations: the target in force, starts, stops, coasting (R203 to R213, R236).
-/
namespace Sys2Proof.Machine

/-- The spindle's record set. -/
def setSpin (v : SpinSt) (s : State) : State := { s with spin := v }

/-- STATE of the spindle (R234): 0 OFF, 1 CATCH, 2 BRAKE_TO_REST, 3 ALIGN, 4 RAMP, 5 RUN, 6 STOPPING, 7 COAST, 8 HALT_SAFE. -/
def getSpin (s : State) : Nat := fget SPN.page SPN.STATUS_STATE s

/-- The observer's speed, rpm. -/
def spinRpm (s : State) : Nat := s.spin.obs.natAbs / 16

/-- Spindle requester: SE8's events. -/
def srcSpin : Nat := srcEng 8

/-- HANDOFF_RPM within its range (R234). -/
def handoffRpm (s : State) : Nat := clampN 100 1000 (fget SPN.page SPN.START_CFG_HANDOFF_RPM s)

/-- The mode whose speeds govern: the one in force, or the active one being entered (R531). -/
def speedMode (s : State) : Nat :=
  match s.pwr.trans with
  | some t => if t.dst ≤ 2 then t.dst else fget PWR.page PWR.STATUS_MODE s
  | none => fget PWR.page PWR.STATUS_MODE s

/-- The write target of R212: the highest of 3,600, 2,400 and 1,200 rpm within the mode's write speed and the ceiling. -/
def writeTarget (s : State) : Option Nat :=
  let lim := min (writeRpm (speedMode s)) (s.spin.ceiling.getD 7200)
  [ 3600, 2400, 1200 ].find? (fun v => decide (v ≤ lim))

/-- A head is writing. -/
def anyWriting (s : State) : Bool := recording 0 s || recording 1 s

/-- The target in force and whether the ceiling binds, when no head writes (R211, R212). -/
def effTarget (s : State) : Nat × Bool :=
  let plain := min s.spin.wanted (s.spin.ceiling.getD 7200)
  let binds : Bool := match s.spin.ceiling with | some c => decide (c < s.spin.wanted) | none => false
  match (if s.spin.writeNext then writeTarget s else none) with
  | some v => (v, binds)
  | none => (plain, binds)

/-- SPEED_EFF recomputed; a change that arises while a head writes waits for the suspension (R212). -/
def newTarget (s : State) : State :=
  if anyWriting s then s
  else s |> fset SPN.page SPN.SPEED_EFF_RPM (effTarget s).1 |> fsetB SPN.page SPN.SPEED_EFF_CEIL_ACT (effTarget s).2

/-- The R206 target set, clamped to 7,200 rpm. -/
def wantSpeed (rpm : Nat) (s : State) : State :=
  let s := if 7200 < rpm then sticky SPN.page SPN.kTGT_CLAMP s else s
  s |> setSpin { s.spin with wanted := min rpm 7200 } |> newTarget

/-- ANGLE.VALID and its copy (R234). -/
def angleValid (b : Bool) (s : State) : State := s |> fsetB SPN.page SPN.STATUS_ANGLE_VALID b |> fsetB SPN.page SPN.ANGLE_VALID b

/-- ANGLE recomputed from the observer; SE8 gives it to SE11 (R209, R236). -/
def showAngle (s : State) : State :=
  fset SPN.page SPN.ANGLE_ANGLE ((s.spin.raw + 2 ^ 16 - fget SPN.page SPN.ANGLE_OFS s) % 2 ^ 16) s

/-- The offset learned (R209). -/
def learnOfs (ofs : Int) (s : State) : State :=
  s |> fset SPN.page SPN.ANGLE_OFS (ofs % 2 ^ 16).toNat |> angleValid true |> showAngle

/-- The spindle leaves observer control and speed control. -/
def unlockSpin (s : State) : State :=
  s |> fset SPN.page SPN.STATUS_OBS_LOCK 0 |> fset SPN.page SPN.STATUS_SPEED_OK 0 |> fset SPN.page SPN.STATUS_REGEN 0
    |> fset SPN.page SPN.STATUS_LOSS_BRAKE 0

/-- A start (R203, R204): gates off, catch measurement. -/
def startSpin (s : State) : State :=
  if fon SPN.page SPN.CTRL_EN s && (getSpin s = 0 || getSpin s = 7 || getSpin s = 6) && !fon SPN.page SPN.STATUS_OVERSPEED s then
    s |> gatesOff |> unlockSpin |> spinState 1 |> cnt SPN.page SPN.START_CNT SPN.kCNT_SAT
      |> (fun t => setSpin { t.spin with rest := false, refsOff := false, cmdStopped := false, reuse := 0 } t)
  else s

/-- A stop (R208): active braking, or coasting with the gates off. -/
def stopSpin (s : State) : State :=
  if getSpin s = 0 || getSpin s = 6 || getSpin s = 7 || getSpin s = 8 then s
  else
    let b := fon SPN.page SPN.CTRL_BRAKE_EN s
    let s := s |> angleValid false |> fset SPN.page SPN.STATUS_SPEED_OK 0
      |> setSpin { s.spin with stopAt := s.time, coasting := !b }
    if b then spinState 6 s else s |> gatesOff |> unlockSpin |> spinState 7

/-- SE8 runs again: it restarts the spindle that R221 let coast. -/
def se8Runs (s : State) : State :=
  if s.spin.refsOff then
    let s := setSpin { s.spin with refsOff := false } s
    if fget SPN.page SPN.SPEED_EFF_RPM s ≠ 0 then startSpin s else s
  else s

end Sys2Proof.Machine
end

