-- ==== Sys2Proof/Machine/Engine.lean ====
section
/-!
DEFINITION. How a control engine runs a word: traps and customer failures, the frame, the next PC, waits, and the halted
engine's safety reaction (R122 to R132, R142 to R148).
-/
namespace Sys2Proof.Machine

/-- A word's trap: cause of R145 (or customer cause of R143) and the fault argument of frame word 31. -/
abbrev Trap := Nat × Nat

/-- A customer routine is running. -/
def inCust (e : Nat) (s : State) : Bool := fon (ENG.page e) ENG.STATUS_CUST_ACTIVE s

/-- The engine executes words. -/
def executing (e : Nat) (s : State) : Bool :=
  (engState e s = 1 || engState e s = 3) && (s.eng e).rg.isNone

/-- Flags H and PF of an engine (R126). -/
def flagH (e : Nat) (s : State) : Bool := fon (ENG.page e) ENG.STATUS_H s
/-- Flag PF of an engine (R126). -/
def flagPF (e : Nat) (s : State) : Bool := fon (ENG.page e) ENG.STATUS_PF s

/-- The event code of an engine event: 0x24xx for servo engines, 0x34xx for channel engines (R156). -/
def engEvent (e k : Nat) : Nat := (if e < 12 then 0x2400 else 0x3400) + k

/-- An engine event (R156). -/
def emitEng (e k p1 p2 : Nat) (s : State) : State := emit (engEvent e k) (srcEng e) (srcEng e) p1 p2 s

/-! ## Frames (R146) -/

/-- The words of a frame. -/
def frameWords (e cause arg : Nat) (s : State) : List Nat :=
  let g := s.eng e
  let r := g.r
  let p := ENG.page e
  let rs := fun i => (Store.get r.stack i 0).toNat
  let ac := fun (a : BitVec 72) => [slice a.toNat 31 0, slice a.toNat 63 32, ofSigned 32 (toSigned 8 (slice a.toNat 71 64))]
  [fget p ENG.PC s + cause * 2 ^ 16 + b2n (inCust e s) * 2 ^ 24 + fget p ENG.STATUS_UFMT s * 2 ^ 25,
    b2n r.flags.n + 2 * b2n r.flags.z + 4 * b2n r.flags.v + 8 * b2n (flagH e s) + 16 * b2n r.flags.c +
      32 * b2n (flagPF e s) + r.sp * 2 ^ 8 + (g.frameSeq + 1) % 2 ^ 16 * 2 ^ 16] ++
  (List.range 16).map (fun i => (r.get i).toNat) ++ ac r.ac0 ++ ac r.ac1 ++
  [(r.getX 0).toNat + (r.getX 1).toNat * 2 ^ 16, (r.getX 2).toNat + (r.getX 3).toNat * 2 ^ 16] ++
  (List.range 4).map (fun i => rs (2 * i) + rs (2 * i + 1) * 2 ^ 16) ++ [fget p ENG.TICK_CNT s, arg]

/-- A frame latched in FRAME0 to FRAME31. -/
def latchFrame (e : Nat) (ws : List Nat) (s : State) : State :=
  let s := setEng e { s.eng e with frameSeq := ((s.eng e).frameSeq + 1) % 2 ^ 16 } s
  (List.range 32).foldl (fun t i => fset (ENG.page e) (ENG.FRAME.ix i) (ws.getD i 0) t) s

/-! ## A stopped engine (R148) -/

/-- The coils a servo engine commands (R111). -/
def engCoils (e : Nat) : List Nat :=
  if 8 ≤ e then [] else if e % 4 = 0 then [0] else if e % 4 = 1 then [1] else if e % 4 = 2 then [2, 3, 4] else []

/-- What follows when an engine enters HALTED or FAULTED (R148). -/
def engStopped (e : Nat) (s : State) : State :=
  if e < 8 then
    let h := headOf e
    let s := (engCoils e).foldl (fun t c => coilSafe h c t) s
    if e % 4 = 3 || writing h s then tripHead h s else s
  else if e = 9 || e = 10 then tripIfWriting (e - 9) s
  else s

/-- SAFE on a coil ends when its engine runs again, unless FLT_N still holds it (R115, R148); SE8 restarts the spindle
(R221). -/
def engRuns (e : Nat) (s : State) : State :=
  if e = 8 then se8Runs s
  else if e < 8 then (engCoils e).foldl (fun t c => fset (ACL.page (headOf e)) (ACL.CMD_SAFE.ix c) 0 t) s else s

/-! ## Traps (R145) and customer failures (R143) -/

/-- What entry saved, restored: Q8 to Q15, AC, X, the flags but C, and the return stack pointer. -/
def restored (c : Cust) (r : Regs) : Regs :=
  let q := (List.range 8).foldl (fun m i => Store.put m (8 + i) (c.saved.get (8 + i)) 0) r.q
  { r with q := q, ac0 := c.saved.ac0, ac1 := c.saved.ac1, x := c.saved.x,
           flags := { c.saved.flags with c := r.flags.c }, sp := c.saved.sp }

/-- A customer failure (R143). -/
def custFail (e cause arg : Nat) (s : State) : State :=
  let p := ENG.page e
  let s := latchFrame e (frameWords e cause arg s) s
  let g := s.eng e
  let c := g.cust.getD ⟨g.r, 0, 0, 0⟩
  let r := restored c g.r
  s |> setEng e { g with r := { r with flags := { r.flags with c := true } }, cust := none, rg := none, arming := false, late := [] }
    |> fset p ENG.PC c.ret.toNat |> fset p ENG.STATUS_CUST_ACTIVE 0 |> fset p ENG.CUST_CTRL_ARM 0
    |> fset p ENG.STATUS_ARMED 0 |> fset p ENG.CUST_STATUS_LAST_FAIL cause |> fault p cause
    |> raise p ENG.iCUST_FAIL |> emitEng e 2 cause c.hook

/-- A trap in vendor code (R145): the handler at 0x0008, or FAULTED when already TRAPPED. -/
def vendorTrap (e cause arg : Nat) (s : State) : State :=
  let p := ENG.page e
  let ws := frameWords e cause arg s
  let s := s |> latchFrame e ws |> cnt p ENG.TRAP_CNT ENG.kCNT_SAT |> fault p cause
    |> (fun t => setEng e { t.eng e with rg := none, late := [] } t)
  if engState e s = 3 then
    s |> setEngState e 5 |> raise p ENG.iFAULTED |> emitEng e 1 (ws.getD 0 0) (fget p ENG.TRAP_CNT s) |> engStopped e
  else
    (List.range 32).foldl (fun t i => dmPut e (0xDE0 + i) (ws.getD i 0) t) s
      |> setEngState e 3 |> fset p ENG.PC 8 |> raise p ENG.iTRAP |> emitEng e 0 (ws.getD 0 0) arg

/-- A trap condition, in vendor code or in customer code. -/
def takeTrap (e : Nat) (t : Trap) (s : State) : State :=
  if inCust e s then custFail e t.1 t.2 s else vendorTrap e t.1 t.2 s

/-! ## Running a word -/

/-- The next PC taken, unless it leaves the customer region while a customer routine runs (R143 cause 0x22). -/
def goto (e pc : Nat) (s : State) : Except Trap State :=
  let a := pc % 2 ^ 13
  if inCust e s && (a < 0x1C00) then .error (0x22, a) else .ok (fset (ENG.page e) ENG.PC a s)

/-- PC + 1 taken. -/
def advance (e : Nat) (s : State) : Except Trap State := goto e (fget (ENG.page e) ENG.PC s + 1) s

/-- Cycles of a word and its late results (R128): a read of a result that is not ready stalls for one cycle. -/
def spend (e cycles : Nat) (reads late : List Nat) (s : State) : State :=
  let g := s.eng e
  let stall := if reads.any (fun r => g.late.contains r) then 1 else 0
  setEng e { g with cyc := g.cyc + cycles + stall, late := late } s

/-- The halt asked for by CTRL.HALT, taken at a word boundary (R157). -/
def haltNow (e : Nat) (s : State) : State :=
  let st := engState e s
  if st = 1 || st = 2 || st = 3 then
    s |> setEng e { s.eng e with before := st } |> setEngState e 4 |> raise (ENG.page e) ENG.iHALTED |> engStopped e
  else s

/-- A word run on an engine that is executing: its effect, or its trap on the state before it (R145). -/
def runWord (e cycles : Nat) (reads late : List Nat) (body : State → Except Trap State) (s : State) : State :=
  if executing e s then
    match body s with
    | .ok t => spend e cycles reads late t
    | .error t => takeTrap e t s
  else s

/-- A vertical word: engines in two-level format run none (R127, R137). -/
def vertical (e cycles : Nat) (reads late : List Nat) (body : State → Except Trap State) (s : State) : Res :=
  .next (if fon (ENG.page e) ENG.STATUS_UFMT s then s else runWord e cycles reads late body s)

/-- The illegal-word trap. -/
def illegal : Except Trap State := .error (0x01, 0)

/-- The registers of an engine changed. -/
def setRegs (e : Nat) (r : Regs) (s : State) : State := setEng e { s.eng e with r := r } s

/-- Saturation reported (R124). -/
def satFlag (e bit' : Nat) (sat : Bool) (s : State) : State := if sat then sticky (ENG.page e) bit' s else s

/-- An ALU word that writes `QD` and the flags. -/
def aluWord (e : Nat) (op d : Nat) (a b : BitVec 32) (n : Nat) (s : State) : Except Trap State :=
  let r := (s.eng e).r
  let x := alu op a b n
  s |> setRegs e { r.put d x.1 with flags := flagsOf r.flags x.1 x.2 } |> satFlag e ENG.kSAT x.2 |> advance e

/-- A format-A ALU word; `useB` says whether QB is an operand. -/
def fmtAWord (e op : Nat) (useB : Bool) (w : BitVec 26) (s : State) : Except Trap State :=
  let r := (s.eng e).r
  if fmtA true true useB w then aluWord e op (fld w 25 22) (r.get (fld w 21 18)) (r.get (fld w 17 14)) 0 s else illegal

/-- The registers a format-A word reads. -/
def readsAB (w : BitVec 26) : List Nat := [fld w 21 18, fld w 17 14]

/-- A format-S word: QD, QA and the shift. -/
def fmtSWord (e op : Nat) (w : BitVec 26) (s : State) : Except Trap State :=
  if fld w 12 0 = 0 then aluWord e op (fld w 25 22) ((s.eng e).r.get (fld w 21 18)) 0 (fld w 17 13) s else illegal

/-- The fields of a format-M word that must be zero. -/
def fmtM (a b : Bool) (w : BitVec 26) : Bool :=
  fld w 24 22 = 0 && fld w 13 0 = 0 && (a || fld w 21 18 = 0) && (b || fld w 17 14 = 0)

/-- An accumulator written, with its saturation (R124). -/
def acWord (e i : Nat) (v : Int) (s : State) : State :=
  let x := sat72 v
  s |> setRegs e ((s.eng e).r.putAc i x.1) |> satFlag e ENG.kACC_SAT x.2

/-- Fields of a format-D word: register, address register, MOD and OFFSET; none where illegal (R127). -/
def fmtD (w : BitVec 26) : Option (Nat × Nat × Nat × Nat) :=
  if fld w 19 18 = 3 || fld w 17 12 ≠ 0 then none else some (fld w 25 22, fld w 21 20, fld w 19 18, fld w 11 0)

/-- An address register after MOD: 1 post-increment, 2 post-decrement. -/
def modX (x : BitVec 12) (m : Nat) : BitVec 12 := if m = 1 then x + 1 else if m = 2 then x - 1 else x

/-- Whether a data memory access is barred to the customer routine that makes it (R143 cause 0x23). -/
def custDm (e a : Nat) (s : State) : Bool := inCust e s && (a < 0xE00)

/-- A data memory word read into a register (R128, R145 cause 0x02). -/
def loadWord (e q x m off : Nat) (bad : Bool) (s : State) : Except Trap State :=
  let r := (s.eng e).r
  let a := ((r.getX x).toNat + off) % 4096
  if custDm e a s then .error (0x23, a)
  else if bad then .error (0x02, a)
  else .ok (setRegs e ((r.putX x (modX (r.getX x) m)).put q (BitVec.ofNat 32 (dmGet e a s))) s)

/-- A register written to a data memory word. -/
def storeWord (e x m off : Nat) (v : BitVec 32) (s : State) : Except Trap State :=
  let r := (s.eng e).r
  let a := ((r.getX x).toNat + off) % 4096
  if custDm e a s then .error (0x23, a)
  else .ok (s |> dmPut e a v.toNat |> setRegs e (r.putX x (modX (r.getX x) m)))

/-- An output port group a customer routine may not write (R143 cause 0x24). -/
def custPort (e p : Nat) (s : State) : Bool :=
  inCust e s && (0x80 ≤ p && p ≤ 0xDF) && !bit (fget (ENG.page e) ENG.CUST_CTRL_OUT_EN s) ((p - 0x80) / 16)

/-- The coil of an ACL port, for the ports of an engine that command one (R111, R123). -/
def portCoil (e p : Nat) : Option Nat := if e < 8 && (0x80 ≤ p && p ≤ 0x87) then some (p - 0x80) else none

/-- The effect of an output port written (R123, R132, R280). -/
def outEffect (e p : Nat) (v : BitVec 32) (s : State) : State :=
  match portCoil e p with
  | some c =>
    let h := headOf e
    if flagH e s then fset (ACL.page h) (ACL.CMD_HOLD.ix c) 1 s
    else s |> setPort e p v |> (if c < 5 then coilCommand h c (toSigned 16 (slice v.toNat 31 16)) false false else id)
  | none =>
    let s := if 0x80 ≤ p && p ≤ 0xDF then setPort e p v s else s
    if 12 ≤ e && p = 0x81 then (match localReg e s with | some (pg, off) => chanWrite pg off v.toNat s | none => s) else s

/-- OUT (R128, R132). -/
def outWord (e p : Nat) (v : BitVec 32) (s : State) : Except Trap State :=
  if custPort e p s then .error (0x24, p) else .ok (outEffect e p v s)

/-- IN (R123, R128). -/
def inWord (e q p : Nat) (s : State) : State :=
  let v := portIn e p s
  s |> portRead e p |> (fun t => setRegs e ((t.eng e).r.put q v) t)

/-- A push onto the return stack (R145 cause 0x03). -/
def push (e : Nat) (a : Nat) (s : State) : Except Trap State :=
  let r := (s.eng e).r
  if r.sp < 8 then .ok (setRegs e { r with stack := Store.put r.stack r.sp (BitVec.ofNat 13 a) 0, sp := r.sp + 1 } s)
  else .error (0x03, a)

/-- A pop, with the address popped. -/
def pop (e : Nat) (s : State) : Except Trap (Nat × State) :=
  let r := (s.eng e).r
  if r.sp = 0 then .error (0x03, 0)
  else .ok ((Store.get r.stack (r.sp - 1) 0).toNat, setRegs e { r with sp := r.sp - 1 } s)

/-- The PC of the word. -/
def pcOf (e : Nat) (s : State) : Nat := fget (ENG.page e) ENG.PC s

/-- A CALL taken (R128, R143 cause 0x26). -/
def callTo (e target : Nat) (s : State) : Except Trap State :=
  match (s.eng e).cust with
  | some c =>
    if 3 ≤ c.depth then .error (0x26, target)
    else do
      let t ← push e ((pcOf e s + 1) % 2 ^ 13) s
      goto e target (setEng e { t.eng e with cust := some { c with depth := c.depth + 1 } } t)
  | none => do
    let t ← push e ((pcOf e s + 1) % 2 ^ 13) s
    goto e target t

/-- RET (R128, R143 cause 0x22). -/
def ret (e : Nat) (s : State) : Except Trap State :=
  match (s.eng e).cust with
  | some c =>
    if c.depth = 0 then .error (0x22, 0)
    else do
      let (a, t) ← pop e s
      goto e a (setEng e { t.eng e with cust := some { c with depth := c.depth - 1 } } t)
  | none => do
    let (a, t) ← pop e s
    goto e a t

/-- The engine wakes: RUNNING at PC + 1, with the events seen at port 0xF0 (R130). -/
def wake (e seen : Nat) (s : State) : State :=
  s |> setEng e { s.eng e with woke := seen } |> setEngState e 1
    |> fset (ENG.page e) ENG.PC ((pcOf e s + 1) % 2 ^ 13)

/-- WAIT (R128, R130): CYC_MAX is taken; a kept event that the mask names wakes at once. -/
def waitFor (e mask : Nat) (s : State) : Except Trap State :=
  let p := ENG.page e
  if inCust e s then .error (0x25, 0)
  else
    let g := s.eng e
    let now := g.events &&& mask
    let s := s |> fmax p ENG.CYC_MAX g.cyc
      |> setEng e { g with mask := mask, woke := now, events := g.events ^^^ now, cyc := 0 }
    .ok (if now ≠ 0 then wake e now s else setEngState e 2 s)

/-- HOOK (R142): the customer call, or C cleared and the next word. -/
def hook (e h : Nat) (s : State) : Except Trap State :=
  let p := ENG.page e
  let g := s.eng e
  if inCust e s then .error (0x25, 0)
  else if fon p ENG.STATUS_ARMED s && bit (fget p ENG.CUST_HOOKS_EN s) h then do
    let ra := (pcOf e s + 1) % 2 ^ 13
    let t ← push e ra s
    let r := (t.eng e).r
    let cu : Cust := ⟨g.r, BitVec.ofNat 13 ra, h, 0⟩
    let t := t |> setEng e { t.eng e with r := { r with flags := { r.flags with c := false } }, cust := some cu }
      |> fset p ENG.STATUS_CUST_ACTIVE 1 |> fset p ENG.PC (0x1C00 + h) |> fset p ENG.CUST_STATUS_LAST_HOOK h
      |> cnt p ENG.CUST_STATUS_ENTRIES ENG.kCNT_SAT
    .ok (if fget p ENG.CUST_CTRL_BUDGET t = 0 then custFail e 0x21 0 t else t)
  else advance e (setRegs e { g.r with flags := { g.r.flags with c := false } } s)

/-- RETC (R143): what entry saved is restored and the return address is popped. -/
def retc (e : Nat) (s : State) : Except Trap State :=
  match (s.eng e).cust with
  | some c =>
    .ok (s |> setEng e { s.eng e with r := restored c (s.eng e).r, cust := none }
      |> fset (ENG.page e) ENG.STATUS_CUST_ACTIVE 0 |> fset (ENG.page e) ENG.PC c.ret.toNat)
  | none => do
    let (a, t) ← pop e s
    goto e a t

/-- The registers a frame in data memory holds (R146, R147). -/
def frameRegs (e : Nat) (s : State) : Regs :=
  let w := fun i => dmGet e (0xDE0 + i) s
  let q := (List.range 16).foldl (fun m i => Store.put m i (BitVec.ofNat 32 (w (2 + i))) 0) ([] : Store (BitVec 32))
  let ac := fun i => BitVec.ofNat 72 (w i + w (i + 1) * 2 ^ 32 + w (i + 2) % 256 * 2 ^ 64)
  let st := (List.range 4).foldl (fun m i =>
    Store.put (Store.put m (2 * i) (BitVec.ofNat 13 (slice (w (26 + i)) 12 0)) 0) (2 * i + 1)
      (BitVec.ofNat 13 (slice (w (26 + i)) 28 16)) 0) ([] : Store (BitVec 13))
  let f := w 1
  { q := q, ac0 := ac 18, ac1 := ac 21,
    x := Store.put (Store.put (Store.put (Store.put [] 0 (BitVec.ofNat 12 (slice (w 24) 11 0)) 0) 1
      (BitVec.ofNat 12 (slice (w 24) 27 16)) 0) 2 (BitVec.ofNat 12 (slice (w 25) 11 0)) 0) 3 (BitVec.ofNat 12 (slice (w 25) 27 16)) 0,
    flags := { n := bit f 0, z := bit f 1, v := bit f 2, c := bit f 4 },
    stack := st, sp := min 8 (slice f 11 8) }

/-- RESUME (R147). -/
def resume (e : Nat) (skip : Bool) (s : State) : Except Trap State :=
  if inCust e s then .error (0x25, 0)
  else
    let pc := slice (dmGet e 0xDE0 s) 12 0
    .ok (s |> setRegs e (frameRegs e s) |> setEngState e 1
      |> fset (ENG.page e) ENG.PC ((if skip then pc + 1 else pc) % 2 ^ 13))

/-- A register access issued: the engine waits for it (R128, R144). -/
def issueRg (e addr : Nat) (data : Option (BitVec 32)) (dest : Nat) (nano : Option (BitVec 32)) (s : State) : State :=
  setEng e { s.eng e with rg := some ⟨addr, data, dest, nano⟩ } s

end Sys2Proof.Machine
end

