-- ==== Sys2Proof/Machine/Micro.lean ====
section
/-!
DEFINITION. The vertical micro-words (R127, R128): one meaning per mnemonic over the shared operations of Engine.
-/
namespace Sys2Proof.Machine

/-- NOP (R128). -/
def execNop (e : Fin 20) (w : BitVec 26) (s : State) : Res :=
  vertical e 1 [] [] (fun t => if fld w 13 0 = 0 then advance e t else illegal) s

/-- ADD (R124, R128). -/
def execAdd (e : Fin 20) (w : BitVec 26) (s : State) : Res := vertical e 1 (readsAB w) [] (fmtAWord e 0x01 true w) s
/-- SUB (R124, R128). -/
def execSub (e : Fin 20) (w : BitVec 26) (s : State) : Res := vertical e 1 (readsAB w) [] (fmtAWord e 0x02 true w) s
/-- NEG (R124, R128). -/
def execNeg (e : Fin 20) (w : BitVec 26) (s : State) : Res := vertical e 1 (readsAB w) [] (fmtAWord e 0x03 false w) s
/-- ABS (R124, R128). -/
def execAbs (e : Fin 20) (w : BitVec 26) (s : State) : Res := vertical e 1 (readsAB w) [] (fmtAWord e 0x04 false w) s
/-- MIN (R128). -/
def execMin (e : Fin 20) (w : BitVec 26) (s : State) : Res := vertical e 1 (readsAB w) [] (fmtAWord e 0x05 true w) s
/-- MAX (R128). -/
def execMax (e : Fin 20) (w : BitVec 26) (s : State) : Res := vertical e 1 (readsAB w) [] (fmtAWord e 0x06 true w) s
/-- LIM (R124, R128). -/
def execLim (e : Fin 20) (w : BitVec 26) (s : State) : Res := vertical e 1 (readsAB w) [] (fmtAWord e 0x07 true w) s
/-- AND (R125, R128). -/
def execAnd (e : Fin 20) (w : BitVec 26) (s : State) : Res := vertical e 1 (readsAB w) [] (fmtAWord e 0x08 true w) s
/-- OR (R125, R128). -/
def execOr (e : Fin 20) (w : BitVec 26) (s : State) : Res := vertical e 1 (readsAB w) [] (fmtAWord e 0x09 true w) s
/-- XOR (R125, R128). -/
def execXor (e : Fin 20) (w : BitVec 26) (s : State) : Res := vertical e 1 (readsAB w) [] (fmtAWord e 0x0A true w) s
/-- MOV (R128). -/
def execMov (e : Fin 20) (w : BitVec 26) (s : State) : Res := vertical e 1 (readsAB w) [] (fmtAWord e 0x0B false w) s
/-- SHL (R124, R128). -/
def execShl (e : Fin 20) (w : BitVec 26) (s : State) : Res := vertical e 1 [fld w 21 18] [] (fmtSWord e 0x0C w) s
/-- SHR (R124, R128). -/
def execShr (e : Fin 20) (w : BitVec 26) (s : State) : Res := vertical e 1 [fld w 21 18] [] (fmtSWord e 0x0D w) s
/-- MUL (R124, R128); the result is ready one cycle late. -/
def execMul (e : Fin 20) (w : BitVec 26) (s : State) : Res :=
  vertical e 1 (readsAB w) [fld w 25 22] (fmtAWord e 0x0E true w) s

/-- A MAC or MSU word: AC plus or minus the product. -/
def macWord (e : Nat) (sg : Int) (w : BitVec 26) (s : State) : Except Trap State :=
  let r := (s.eng e).r
  let i := fld w 25 25
  if fmtM true true w then
    s |> acWord e i ((r.ac i).toInt + sg * ((r.get (fld w 21 18)).toInt * (r.get (fld w 17 14)).toInt)) |> advance e
  else illegal

/-- MAC (R124, R128). -/
def execMac (e : Fin 20) (w : BitVec 26) (s : State) : Res :=
  vertical e 1 ((16 + fld w 25 25) :: readsAB w) [16 + fld w 25 25] (macWord e 1 w) s
/-- MSU (R124, R128). -/
def execMsu (e : Fin 20) (w : BitVec 26) (s : State) : Res :=
  vertical e 1 ((16 + fld w 25 25) :: readsAB w) [16 + fld w 25 25] (macWord e (-1) w) s
/-- CLRA (R128). -/
def execClra (e : Fin 20) (w : BitVec 26) (s : State) : Res :=
  vertical e 1 [] [] (fun t => if fmtM false false w then t |> acWord e (fld w 25 25) 0 |> advance e else illegal) s
/-- LDA (R128). -/
def execLda (e : Fin 20) (w : BitVec 26) (s : State) : Res :=
  vertical e 1 [fld w 21 18] [] (fun t =>
    if fmtM true false w then t |> acWord e (fld w 25 25) (((t.eng e).r.get (fld w 21 18)).toInt * 2 ^ 31) |> advance e
    else illegal) s

/-- An MVA word: shift 0 to 9. -/
def mvaWord (e d i n : Nat) (s : State) : State :=
  let r := (s.eng e).r
  let x := mva (r.ac i) n
  s |> setRegs e { r.put d x.1 with flags := flagsOf r.flags x.1 x.2 } |> satFlag e ENG.kSAT x.2

/-- MVA (R124, R128). -/
def execMva (e : Fin 20) (w : BitVec 26) (s : State) : Res :=
  vertical e 1 [16 + fld w 21 21] [fld w 25 22] (fun t =>
    if fld w 16 0 = 0 && fld w 20 17 ≤ 9 then advance e (mvaWord e (fld w 25 22) (fld w 21 21) (fld w 20 17) t)
    else illegal) s
/-- LDH (R128). -/
def execLdh (e : Fin 20) (w : BitVec 26) (s : State) : Res :=
  vertical e 1 [] [] (fun t =>
    if fld w 21 16 = 0 then advance e (setRegs e ((t.eng e).r.put (fld w 25 22) (BitVec.ofNat 32 (fld w 15 0 * 2 ^ 16))) t)
    else illegal) s
/-- LDL (R128). -/
def execLdl (e : Fin 20) (w : BitVec 26) (s : State) : Res :=
  vertical e 1 [fld w 25 22] [] (fun t =>
    let r := (t.eng e).r
    let q := (r.get (fld w 25 22)).toNat
    if fld w 21 16 = 0 then
      advance e (setRegs e (r.put (fld w 25 22) (BitVec.ofNat 32 (q / 2 ^ 16 * 2 ^ 16 + fld w 15 0))) t)
    else illegal) s
/-- LD (R128). -/
def execLoad (e : Fin 20) (w : BitVec 26) (bad : Bool) (s : State) : Res :=
  vertical e 1 [] [] (fun t =>
    match fmtD w with
    | some (q, x, m, off) => do advance e (← loadWord e q x m off bad t)
    | none => illegal) s
/-- ST (R128). -/
def execStore (e : Fin 20) (w : BitVec 26) (s : State) : Res :=
  vertical e 1 [fld w 25 22] [] (fun t =>
    match fmtD w with
    | some (q, x, m, off) => do advance e (← storeWord e x m off ((t.eng e).r.get q) t)
    | none => illegal) s
/-- SETX (R128). -/
def execSetx (e : Fin 20) (w : BitVec 26) (s : State) : Res :=
  vertical e 1 [] [] (fun t =>
    if fld w 23 22 = 0 && fld w 21 18 = 0 && fld w 17 12 = 0 then
      advance e (setRegs e ((t.eng e).r.putX (fld w 25 24) (BitVec.ofNat 12 (fld w 11 0))) t)
    else illegal) s
/-- MOVX (R128). -/
def execMovx (e : Fin 20) (w : BitVec 26) (s : State) : Res :=
  vertical e 1 [fld w 21 18] [] (fun t =>
    let r := (t.eng e).r
    if fld w 23 22 = 0 && fld w 17 0 = 0 then
      advance e (setRegs e (r.putX (fld w 25 24) ((r.get (fld w 21 18)).setWidth 12)) t)
    else illegal) s
/-- IN (R123, R128). -/
def execInPort (e : Fin 20) (w : BitVec 26) (s : State) : Res :=
  vertical e 1 [] [] (fun t => if fld w 13 0 = 0 then advance e (inWord e (fld w 25 22) (fld w 21 14) t) else illegal) s
/-- OUT (R123, R128, R132). -/
def execOutPort (e : Fin 20) (w : BitVec 26) (s : State) : Res :=
  vertical e 1 [fld w 25 22] [] (fun t =>
    if fld w 13 0 = 0 then do advance e (← outWord e (fld w 21 14) ((t.eng e).r.get (fld w 25 22)) t) else illegal) s

/-- A word that only sets the flags (CMP, TST). -/
def flagWord (e op : Nat) (useB : Bool) (w : BitVec 26) (s : State) : Except Trap State :=
  let r := (s.eng e).r
  let x := alu op (r.get (fld w 21 18)) (r.get (fld w 17 14)) 0
  if fmtA false true useB w then
    s |> setRegs e { r with flags := flagsOf r.flags x.1 x.2 } |> satFlag e ENG.kSAT x.2 |> advance e
  else illegal

/-- CMP (R125, R128). -/
def execCmp (e : Fin 20) (w : BitVec 26) (s : State) : Res := vertical e 1 (readsAB w) [] (flagWord e 0x1C true w) s
/-- TST (R125, R128). -/
def execTst (e : Fin 20) (w : BitVec 26) (s : State) : Res := vertical e 1 (readsAB w) [] (flagWord e 0x1D false w) s

/-- Whether a condition holds on an engine (R129). -/
def cond (e c : Nat) (s : State) : Bool := condHolds c (s.eng e).r.flags (flagH e s) (flagPF e s)

/-- Cycles of BR and CALL: 1, 2 when taken. -/
def branchCycles (e : Nat) (w : BitVec 26) (s : State) : Nat := if cond e (fld w 25 22) s then 2 else 1

/-- BR (R128, R129). -/
def execBranch (e : Fin 20) (w : BitVec 26) (s : State) : Res :=
  vertical e (branchCycles e w s) [] [] (fun t =>
    if fld w 21 13 ≠ 0 || fld w 25 22 = 15 then illegal
    else if cond e (fld w 25 22) t then goto e (fld w 12 0) t else advance e t) s
/-- CALL (R128, R129). -/
def execCall (e : Fin 20) (w : BitVec 26) (s : State) : Res :=
  vertical e (branchCycles e w s) [] [] (fun t =>
    if fld w 21 13 ≠ 0 || fld w 25 22 = 15 then illegal
    else if cond e (fld w 25 22) t then callTo e (fld w 12 0) t else advance e t) s
/-- RET (R128). -/
def execRet (e : Fin 20) (w : BitVec 26) (s : State) : Res :=
  vertical e 2 [] [] (fun t => if fld w 25 0 = 0 then ret e t else illegal) s
/-- WAIT (R128, R130). -/
def execWait (e : Fin 20) (w : BitVec 26) (s : State) : Res :=
  vertical e 1 [] [] (fun t => if fld w 25 16 = 0 then waitFor e (fld w 5 0) t else illegal) s
/-- HOOK (R142). -/
def execHook (e : Fin 20) (w : BitVec 26) (s : State) : Res :=
  vertical e 1 [] [] (fun t => if fld w 25 16 = 0 then hook e (fld w 3 0) t else illegal) s
/-- RETC (R143). -/
def execRetc (e : Fin 20) (w : BitVec 26) (s : State) : Res :=
  vertical e 2 [] [] (fun t => if fld w 25 0 = 0 then retc e t else illegal) s

/-- A TRAP word: cause ARG, or 0x27 in customer code with ARG[3:0] kept (R128, R143). -/
def trapWord (e arg : Nat) (s : State) : State :=
  if arg < 0x80 then takeTrap e (0x01, 0) s
  else if inCust e s then s |> fset (ENG.page e) ENG.CUST_STATUS_TRAP_ARG (arg % 16) |> custFail e 0x27 0
  else takeTrap e (arg, 0) s

/-- TRAP (R128, R145). -/
def execTrap (e : Fin 20) (w : BitVec 26) (s : State) : Res :=
  vertical e 1 [] [] (fun t =>
    if fld w 25 16 = 0 then .ok (trapWord e (fld w 7 0) t) else illegal) s
/-- RESUME (R147). -/
def execResume (e : Fin 20) (w : BitVec 26) (s : State) : Res :=
  vertical e 4 [] [] (fun t => if fld w 25 16 = 0 then resume e (fld w 0 0 = 1) t else illegal) s

/-- The window address an RGL or RGS names. -/
def rgAddr (e : Nat) (w : BitVec 26) (s : State) : Nat := slice ((s.eng e).r.get (fld w 21 18)).toNat 23 0

/-- RGL (R128): the access is issued; QB is zero. -/
def execRgl (e : Fin 20) (w : BitVec 26) (s : State) : Res :=
  vertical e 0 [fld w 21 18] [] (fun t =>
    if fmtA true true false w then .ok (issueRg e (rgAddr e w t) none (fld w 25 22) none t) else illegal) s
/-- RGS (R128): the access is issued; QD is zero. -/
def execRgs (e : Fin 20) (w : BitVec 26) (s : State) : Res :=
  vertical e 0 (readsAB w) [] (fun t =>
    if fmtA false true true w then
      .ok (issueRg e (rgAddr e w t) (some ((t.eng e).r.get (fld w 17 14))) 0 none t)
    else illegal) s
/-- JI (R128). -/
def execJi (e : Fin 20) (w : BitVec 26) (s : State) : Res :=
  vertical e 2 [fld w 21 18] [] (fun t =>
    if fmtA false true false w then goto e (slice ((t.eng e).r.get (fld w 21 18)).toNat 12 0) t else illegal) s

end Sys2Proof.Machine
end

