-- ==== Sys2Proof/Machine/Nano.lean ====
section
/-!
DEFINITION. Two-level micro-words: four operation slots and a sequencer in one cycle (R133 to R136).
-/
namespace Sys2Proof.Machine

/-- The nano-store of an engine's island: 0 servo, 1 channel L, 2 channel U (R122). -/
def nanoStore (e : Nat) : Nat := if e < 12 then 0 else 1 + chanHead e

/-- A slot of a nano-word (R134). -/
structure Slot where
  op : Nat
  d : Nat
  a : Nat
  b : Nat
  k : Nat
  deriving DecidableEq, Repr

/-- The slot in 28 bits, selectors as encoded. -/
def slotOf (v : Nat) : Slot := ⟨slice v 27 22, slice v 21 17, slice v 16 12, slice v 11 7, slice v 6 0⟩

/-- Slots 0 to 3 of a nano-word. -/
def nanoSlot (n i : Nat) : Slot := slotOf (slice n (127 - 28 * i) (100 - 28 * i))

/-- The register a selector names, with the micro-word's F fields; none from 19 on (R134). -/
def selReg (w : Nat) (sel : Nat) : Option Nat :=
  if sel < 16 then some sel
  else if sel = 16 then some (slice w 21 18) else if sel = 17 then some (slice w 17 14)
  else if sel = 18 then some (slice w 13 10) else none

/-- A slot with its selectors resolved. -/
def resolveSlot (w : Nat) (x : Slot) : Option Slot :=
  match selReg w x.d, selReg w x.a, selReg w x.b with
  | some d, some a, some b => some { x with d := d, a := a, b := b }
  | _, _, _ => none

/-- The opcodes of each slot (R133). -/
def slotOps : Nat → List Nat
  | 0 => [0x00, 0x01, 0x02, 0x03, 0x04, 0x05, 0x06, 0x07, 0x08, 0x09, 0x0A, 0x0B, 0x0C, 0x0D, 0x1C, 0x1D]
  | 1 => [0x00, 0x01, 0x02, 0x03, 0x04, 0x05, 0x06, 0x07, 0x08, 0x09, 0x0A, 0x0B, 0x0C, 0x0D, 0x1C, 0x1D]
  | 2 => [0x00, 0x0E, 0x0F, 0x10, 0x11, 0x12, 0x13]
  | _ => [0x00, 0x16, 0x17, 0x18, 0x19, 0x1A, 0x1B, 0x26, 0x27]

/-- The resolved slots, or none for a violation of R134. -/
def nanoSlots (w n : Nat) : Option (Slot × Slot × Slot × Slot) :=
  let ok := (List.range 4).all (fun i => (slotOps i).contains (nanoSlot n i).op)
  match resolveSlot w (nanoSlot n 0), resolveSlot w (nanoSlot n 1), resolveSlot w (nanoSlot n 2), resolveSlot w (nanoSlot n 3) with
  | some a, some b, some c, some d => if ok then some (a, b, c, d) else none
  | _, _, _, _ => none

/-- What a slot leaves: a data register written, and the value and saturation its flags come from. -/
structure SlotOut where
  reg : Option (Nat × BitVec 32) := none
  flags : Option (BitVec 32 × Bool) := none
  deriving DecidableEq, Repr

/-- An ALU slot on the registers at the start of the cycle. -/
def aluSlot (r : Regs) (x : Slot) : SlotOut :=
  if x.op = 0 then {}
  else
    let v := alu x.op (r.get x.a) (r.get x.b) (x.k % 32)
    { reg := if x.op = 0x1C || x.op = 0x1D then none else some (x.d, v.1), flags := some v }

/-- The data register part of the multiplier slot. -/
def mulSlot (r : Regs) (x : Slot) : SlotOut :=
  if x.op = 0x0E then let v := alu 0x0E (r.get x.a) (r.get x.b) 0; { reg := some (x.d, v.1), flags := some v }
  else if x.op = 0x13 then let v := mva (r.ac (x.k % 2)) (slice x.k 4 1); { reg := some (x.d, v.1), flags := some v }
  else {}

/-- The accumulator part of the multiplier slot: the exact value written, or none. -/
def mulAc (r : Regs) (x : Slot) : Option Int :=
  let p := (r.get x.a).toInt * (r.get x.b).toInt
  let ac := (r.ac (x.k % 2)).toInt
  if x.op = 0x0F then some (ac + p) else if x.op = 0x10 then some (ac - p) else if x.op = 0x11 then some 0
  else if x.op = 0x12 then some ((r.get x.a).toInt * 2 ^ 31) else none

/-- The memory and port slot on the state at the start of the cycle: its effect outside the data registers, and the data
register it writes. `got` is the data of a completed RGL. -/
def memSlot (e : Nat) (x : Slot) (imm : Nat) (bad : Bool) (got : Option (BitVec 32)) (s : State) :
    Except Trap (SlotOut × State) :=
  let r := (s.eng e).r
  let xr := x.k % 4
  let m := slice x.k 3 2
  let q := r.get x.d
  if x.op = 0x16 then
    if m = 3 then .error (0x01, 0)
    else do
      let t ← loadWord e x.d xr m imm bad s
      .ok ({ reg := some (x.d, (t.eng e).r.get x.d) }, setRegs e (r.putX xr (modX (r.getX xr) m)) s)
  else if x.op = 0x17 then
    if m = 3 then .error (0x01, 0) else do let t ← storeWord e xr m imm q s; .ok ({}, t)
  else if x.op = 0x18 then .ok ({}, setRegs e (r.putX xr (BitVec.ofNat 12 imm)) s)
  else if x.op = 0x19 then .ok ({}, setRegs e (r.putX xr ((r.get x.a).setWidth 12)) s)
  else if x.op = 0x1A then .ok ({ reg := some (x.d, portIn e (imm % 256) s) }, portRead e (imm % 256) s)
  else if x.op = 0x1B then do let t ← outWord e (imm % 256) q s; .ok ({}, t)
  else if x.op = 0x26 then .ok ({ reg := got.map (fun v => (x.d, v)) }, s)
  else .ok ({}, s)

/-- Two slots write one register (R135). -/
def conflict (xs : List SlotOut) : Bool :=
  let ds := xs.filterMap (fun x => x.reg.map Prod.fst)
  !decide ds.Nodup

/-- The flags of a nano-word: from slot 1, else slot 0, else slot 2 (R135). -/
def nanoFlags (f : Flags) (a b c : SlotOut) : Flags :=
  match b.flags, a.flags, c.flags with
  | some x, _, _ => flagsOf f x.1 x.2
  | none, some x, _ => flagsOf f x.1 x.2
  | none, none, some x => flagsOf f x.1 x.2
  | none, none, none => f

/-- The sequencer (R133): `q` is Q(F0) and `go` the condition, both as at the start of the cycle. -/
def sequence (e next imm q : Nat) (go : Bool) (s : State) : Except Trap State :=
  let pc := pcOf e s
  let target := ofSigned 13 ((pc : Int) + toSigned 10 imm)
  if next = 1 then (if go then goto e target s else advance e s)
  else if next = 2 then (if go then callTo e target s else advance e s)
  else if next = 3 then ret e s
  else if next = 4 then goto e (q % 2 ^ 13) s
  else if next = 5 then waitFor e (imm % 64) s
  else if next = 6 then hook e (imm % 16) s
  else if next = 7 then retc e s
  else advance e s

/-- A two-level micro-word (R133 to R135): the slots read at the start of the cycle and write at its end. -/
def nanoWord (e w : Nat) (bad : Bool) (got : Option (BitVec 32)) (s : State) : Except Trap State :=
  let n := s.nstore.get (1024 * nanoStore e + slice w 31 22) 0
  let imm := slice w 9 0
  let next := slice n 15 13
  let c := slice n 12 9
  match nanoSlots w n with
  | none => .error (0x05, 0)
  | some (x0, x1, x2, x3) =>
    if slice n 8 0 ≠ 0 || ((next = 1 || next = 2) && c = 15) || (x2.op = 0x13 && 9 < slice x2.k 4 1) then .error (0x01, 0)
    else
      let r := (s.eng e).r
      let o0 := aluSlot r x0
      let o1 := aluSlot r x1
      let o2 := mulSlot r x2
      do
        let (o3, t) ← memSlot e x3 imm bad got s
        let rs := (t.eng e).r
        let put := fun (m : Regs) (o : SlotOut) => match o.reg with | some (d, v) => m.put d v | none => m
        let rs := put (put (put (put rs o0) o1) o2) o3
        let rs := { rs with flags := nanoFlags r.flags o0 o1 o2 }
        let t := setRegs e rs t
        let t := match mulAc r x2 with | some v => acWord e (x2.k % 2) v t | none => t
        let t := if conflict [o0, o1, o2, o3] then sticky (ENG.page e) ENG.kWCONFLICT t else t
        let t := [o0, o1, o2].foldl (fun u o => satFlag e ENG.kSAT ((o.flags.map Prod.snd).getD false) u) t
        sequence e next imm (r.get (slice w 21 18)).toNat (condHolds c r.flags (flagH e s) (flagPF e s)) t

/-- The late results and the registers a nano-word reads (R135). -/
def nanoReads (e w : Nat) (s : State) : List Nat × List Nat :=
  let n := s.nstore.get (1024 * nanoStore e + slice w 31 22) 0
  match nanoSlots w n with
  | none => ([], [])
  | some (x0, x1, x2, x3) =>
    let rd := fun (x : Slot) => if x.op = 0 then [] else [x.a, x.b]
    let ac := 16 + x2.k % 2
    (rd x0 ++ rd x1 ++ rd x2 ++ rd x3 ++ (if x2.op = 0x0F || x2.op = 0x10 || x2.op = 0x13 then [ac] else []),
      if x2.op = 0x0E || x2.op = 0x13 then [x2.d] else if x2.op = 0x0F || x2.op = 0x10 then [ac] else [])

/-- The register access slot 3 of a nano-word makes: address and, for RGS, data. -/
def nanoAccess (e w : Nat) (s : State) : Option (Nat × Option (BitVec 32)) :=
  let n := s.nstore.get (1024 * nanoStore e + slice w 31 22) 0
  let r := (s.eng e).r
  match nanoSlots w n with
  | some (_, _, _, x) =>
    if x.op = 0x26 then some (slice (r.get x.a).toNat 23 0, none)
    else if x.op = 0x27 then some (slice (r.get x.a).toNat 23 0, some (r.get x.b))
    else none
  | none => none

/-- A nano-word run: one that makes a register access waits for it first (R128). -/
def runNano (e w : Nat) (bad : Bool) (s : State) : State :=
  if fon (ENG.page e) ENG.STATUS_UFMT s && executing e s then
    match nanoAccess e w s with
    | some (a, d) => issueRg e a d 0 (some (BitVec.ofNat 32 w)) s
    | none =>
      let (rd, late) := nanoReads e w s
      runWord e 1 rd late (nanoWord e w bad none) s
  else s

/-- NANO_WORD (R133). -/
def execNanoWord (e : Fin 20) (w : BitVec 32) (bad : Bool) (s : State) : Res := .next (runNano e w.toNat bad s)

end Sys2Proof.Machine
end

