-- ==== Sys2Proof/Machine/Sha3.lean ====
section
/-!
DEFINITION. SHA3-512 and SHA3-256 (FIPS 202), over lists of bytes.
-/
namespace Sys2Proof.Machine

/-- A 64-bit word rotated left. -/
def rotl64 (v n : Nat) : Nat := (v * 2 ^ (n % 64) + v / 2 ^ (64 - n % 64)) % 2 ^ 64

/-- The 25 lanes, lane x + 5y. -/
abbrev Lanes := List Nat

/-- Lane (x, y), indices modulo 5. -/
def lane (a : Lanes) (x y : Nat) : Nat := a.getD (x % 5 + 5 * (y % 5)) 0

/-- θ. -/
def kTheta (a : Lanes) : Lanes :=
  let c := (List.range 5).map (fun x => lane a x 0 ^^^ lane a x 1 ^^^ lane a x 2 ^^^ lane a x 3 ^^^ lane a x 4)
  (List.range 25).map (fun i => a.getD i 0 ^^^ c.getD ((i + 4) % 5) 0 ^^^ rotl64 (c.getD ((i + 1) % 5) 0) 1)

/-- The places of ρ and π: lane, then the place and rotation of each of the 24 steps of the walk. -/
def kWalk : Nat → Nat → Nat → Nat → List (Nat × Nat)
  | 0, _, _, _ => []
  | n + 1, t, x, y => (x + 5 * y, (t + 1) * (t + 2) / 2) :: kWalk n (t + 1) y ((2 * x + 3 * y) % 5)

/-- ρ: each lane rotated. -/
def kRho (a : Lanes) : Lanes := (kWalk 24 0 1 0).foldl (fun b p => b.set p.1 (rotl64 (a.getD p.1 0) p.2)) a

/-- π. -/
def kPi (a : Lanes) : Lanes := (List.range 25).map (fun i => lane a (i % 5 + 3 * (i / 5)) (i % 5))

/-- χ. -/
def kChi (a : Lanes) : Lanes :=
  (List.range 25).map (fun i => a.getD i 0 ^^^ ((2 ^ 64 - 1 - lane a (i % 5 + 1) (i / 5)) &&& lane a (i % 5 + 2) (i / 5)))

/-- The round constants' generator: one step of the 8-bit register. -/
def rcStep (r : Nat) : Nat := let v := 2 * r; if v < 256 then v else v ^^^ 0x171

/-- The register after `n` steps. -/
def rcAt : Nat → Nat
  | 0 => 1
  | n + 1 => rcStep (rcAt n)

/-- The constant of a round. -/
def kRc (i : Nat) : Nat :=
  (List.range 7).foldl (fun v j => if (rcAt (7 * i + j)).testBit 0 then v + 2 ^ (2 ^ j - 1) else v) 0

/-- One round. -/
def kRound (a : Lanes) (i : Nat) : Lanes :=
  let b := kChi (kPi (kRho (kTheta a)))
  b.set 0 (b.getD 0 0 ^^^ kRc i)

/-- Keccak-f[1600]. -/
def keccak (a : Lanes) : Lanes := (List.range 24).foldl kRound a

/-- A block of the rate absorbed. -/
def absorb (a : Lanes) (b : List Nat) : Lanes :=
  keccak ((List.range 25).map (fun i => if 8 * i < b.length then a.getD i 0 ^^^ ofLe ((b.drop (8 * i)).take 8) else a.getD i 0))

/-- SHA3 of bytes: the rate in bytes, and the lanes of the digest. -/
def sha3At (rate lanes : Nat) (m : List Nat) : List Nat :=
  let z := rate - 1 - m.length % rate
  let p := if z = 0 then m ++ [ 0x86 ] else m ++ [ 0x06 ] ++ List.replicate (z - 1) 0 ++ [ 0x80 ]
  let a := (List.range (p.length / rate)).foldl (fun t i => absorb t ((p.drop (rate * i)).take rate)) (List.replicate 25 0)
  ((List.range lanes).map (fun i => leBytes 8 (a.getD i 0))).flatten

/-- SHA3-512 of bytes. -/
def sha3 (m : List Nat) : List Nat := sha3At 72 8 m

/-- SHA3-256 of bytes. -/
def sha3Short (m : List Nat) : List Nat := sha3At 136 4 m

end Sys2Proof.Machine
end

