-- ==== Sys2Proof/Machine/EngineCtl.lean ====
section
/-!
DEFINITION. What acts on a control engine from outside its words: halt, step, doorbell, ticks, the customer region, the
stores' windows and the plausibility monitor (R130, R131, R137 to R144, R148, R153 to R158).
-/
namespace Sys2Proof.Machine

/-- CUSTOMER_BUDGET_EXHAUSTED (R143 cause 0x21). -/
def execCustomerBudgetExhausted (e : Fin 20) (s : State) : Res :=
  .next (if inCust e s then custFail e 0x21 0 s else s)

/-- A tick that finds the engine not in a WAIT that names it (R131). -/
def tickOverrun (e : Nat) (s : State) : State :=
  let p := ENG.page e
  let g := s.eng e
  let s := s |> setEng e { g with events := setBit g.events 0 }
    |> cnt p ENG.OVR_CNT ENG.kCNT_SAT |> sticky p ENG.kTICK_OVR |> raise p ENG.iTICK_OVR |> pmc 0x13 (8 + e) 1
  emitEng e 4 (fget p ENG.OVR_CNT s) (fget p ENG.CYC_MAX s) s

/-- The engine is loaded and neither halted nor faulted. -/
def engLive (e : Nat) (s : State) : Bool := let v := engState e s; v = 1 || v = 2 || v = 3

/-- TICK_OVERRUN (R131). -/
def execTickOverrun (e : Fin 20) (s : State) : Res :=
  .next (if engLive e s then s |> cnt (ENG.page e) ENG.TICK_CNT ENG.kCNT_SAT |> tickOverrun e else s)

/-- Events of R130 arriving at an engine: a waiting engine whose mask names one wakes; the others are kept. -/
def engEvents (e ev : Nat) (s : State) : State :=
  let p := ENG.page e
  if engState e s = 0 || engState e s = 5 then s
  else
    let s := if bit ev 0 then cnt p ENG.TICK_CNT ENG.kCNT_SAT s else s
    let g := s.eng e
    if engState e s = 2 then
      let seen := g.woke ||| ev
      if g.mask &&& ev ≠ 0 then
        s |> setEng e { g with cyc := 0, events := g.events ||| (ev ^^^ (ev &&& g.mask)) } |> wake e seen
      else
        let s := setEng e { g with woke := seen, events := g.events ||| ev } s
        if bit ev 0 then tickOverrun e s else s
    else
      let s := setEng e { g with events := g.events ||| ev } s
      if bit ev 0 && engState e s ≠ 4 then tickOverrun e s else s

/-- ENGINE_HALT (R148, R157): CTRL.HALT written; the halt comes at the next word boundary. -/
def execEngineHalt (e : Fin 20) (halt : Bool) (s : State) : Res :=
  let p := ENG.page e
  let s := fsetB p ENG.CTRL_HALT halt s
  if halt then .next (if (s.eng e).rg.isNone then haltNow e s else s)
  else if engState e s = 4 then
    let g := s.eng e
    let s := s |> setEngState e g.before |> engRuns e
    .next (if g.before = 2 && g.events &&& g.mask ≠ 0 then
      let now := g.events &&& g.mask
      s |> setEng e { g with events := g.events ^^^ now } |> wake e now
    else s)
  else .next s

/-- The word at an engine's PC. -/
def fetchWord (e : Nat) (s : State) : Nat := s.ustore.get (8192 * e + pcOf e s) 0

/-- The opcodes of R128 as meanings of a word's 26 operand bits; none for every other opcode. -/
def opMeaning (e : Fin 20) (op : Nat) (w : BitVec 26) : Option (State → Res) :=
  match op with
  | 0x00 => some (execNop e w)
  | 0x01 => some (execAdd e w)
  | 0x02 => some (execSub e w)
  | 0x03 => some (execNeg e w)
  | 0x04 => some (execAbs e w)
  | 0x05 => some (execMin e w)
  | 0x06 => some (execMax e w)
  | 0x07 => some (execLim e w)
  | 0x08 => some (execAnd e w)
  | 0x09 => some (execOr e w)
  | 0x0A => some (execXor e w)
  | 0x0B => some (execMov e w)
  | 0x0C => some (execShl e w)
  | 0x0D => some (execShr e w)
  | 0x0E => some (execMul e w)
  | 0x0F => some (execMac e w)
  | 0x10 => some (execMsu e w)
  | 0x11 => some (execClra e w)
  | 0x12 => some (execLda e w)
  | 0x13 => some (execMva e w)
  | 0x14 => some (execLdh e w)
  | 0x15 => some (execLdl e w)
  | 0x16 => some (execLoad e w false)
  | 0x17 => some (execStore e w)
  | 0x18 => some (execSetx e w)
  | 0x19 => some (execMovx e w)
  | 0x1A => some (execInPort e w)
  | 0x1B => some (execOutPort e w)
  | 0x1C => some (execCmp e w)
  | 0x1D => some (execTst e w)
  | 0x1E => some (execBranch e w)
  | 0x1F => some (execCall e w)
  | 0x20 => some (execRet e w)
  | 0x21 => some (execWait e w)
  | 0x22 => some (execHook e w)
  | 0x23 => some (execRetc e w)
  | 0x24 => some (execTrap e w)
  | 0x25 => some (execResume e w)
  | 0x26 => some (execRgl e w)
  | 0x27 => some (execRgs e w)
  | 0x28 => some (execJi e w)
  | _ => none

/-- The state a meaning answers. -/
def resState (r : Res) (s : State) : State := match r with | .next t => t | _ => s

/-- The word at the PC run, in the engine's format (R127, R128, R133); an opcode of no instruction traps as illegal. -/
def runFetched (e : Fin 20) (s : State) : State :=
  let w := fetchWord e s
  if fon (ENG.page e) ENG.STATUS_UFMT s then runNano e w false s
  else match opMeaning e (slice w 31 26) (BitVec.ofNat 26 w) with
    | some f => resState (f s) s
    | none => runWord e 1 [] [] (fun _ => illegal) s

/-- ENGINE_STEP (R157): one word while halted. -/
def execEngineStep (e : Fin 20) (s : State) : Res :=
  let g := s.eng e
  if engState e s = 4 && (g.before = 1 || g.before = 3) && g.rg.isNone then
    let t := runFetched e (setEngState e g.before s)
    let st := engState e t
    .next (if st = 5 then t else t |> setEng e { t.eng e with before := st } |> setEngState e 4)
  else .next s

/-- DOORBELL (R130). -/
def execDoorbell (e : Fin 20) (s : State) : Res := .next (engEvents e 0x10 s)

/-- CNT_CLR (R157). -/
def execCntClr (e : Fin 20) (s : State) : Res :=
  .next (fclrs (ENG.page e) [ ENG.TICK_CNT, ENG.OVR_CNT, ENG.TRAP_CNT ] s)

/-- DM_DATA_ACCESS (R157, R158). -/
def execDmDataAccess (e : Fin 20) (req : Nat) (data : Option (BitVec 32)) (s : State) : Res :=
  let p := ENG.page e
  let a := fget p ENG.DM_ADDR_ADDR s
  let s := match data with
    | some v => dmPut e a v.toNat s
    | none => send (.readData req (dmGet e a s)) s
  .next (if fon p ENG.DM_ADDR_AUTO_INC s then fset p ENG.DM_ADDR_ADDR (a + 1) s else s)

/-! ## Stores (R137 to R140) -/

/-- The engines of a store's island. -/
def islandEngines (n : Nat) : List Nat :=
  if n = 0 then List.range 12 else (List.range 4).map (fun i => 12 + 4 * (n - 1) + i)

/-- A locked store write rejected in an engine's page (R138). -/
def lockReject (addr req : Nat) (s : State) (e : Nat) : State :=
  let p := ENG.page e
  s |> sticky p ENG.kLOCK_WR |> raise p ENG.iLOCK_WR |> emitEng e 5 addr req

/-- A micro-store word set. -/
def putMicro (e a v : Nat) (s : State) : State := { s with ustore := s.ustore.put (8192 * e + a) (v % 2 ^ 32) 0 }

/-- One of the four 32-bit registers of a nano-word set (R139). -/
def putNano (n i k v : Nat) (s : State) : State :=
  let old := s.nstore.get (1024 * n + i) 0
  let new := old - slice old (32 * k + 31) (32 * k) * 2 ^ (32 * k) + v % 2 ^ 32 * 2 ^ (32 * k)
  { s with nstore := s.nstore.put (1024 * n + i) new 0 }

/-- A window write to a customer region word (R140). -/
def customerWrite (e a v : Nat) (s : State) : State :=
  let p := ENG.page e
  if fon p ENG.CUST_CTRL_ARM s || inCust e s then s |> sticky p ENG.kCUST_WR |> raise p ENG.iCUST_WR
  else putMicro e a v s

/-- A write to a micro-store word: by the loader before the lock, and to the customer region after it (R138, R140). -/
def microWrite (loader : Bool) (req addr e a v : Nat) (s : State) : State :=
  if fon (ENG.page e) ENG.STATUS_LOCKED s then
    if 0x1C00 ≤ a then customerWrite e a v s else lockReject addr req s e
  else if loader then putMicro e a v s else s

/-- A write to a nano-store (R138). -/
def nanoWrite (loader : Bool) (req addr n i k v : Nat) (s : State) : State :=
  if (islandEngines n).any (fun e => fon (ENG.page e) ENG.STATUS_LOCKED s) then
    (islandEngines n).foldl (lockReject addr req) s
  else if loader then putNano n i k v s else s

/-- STORE_WINDOW_WRITE (R137 to R139); an address of no store window is no store's write. -/
def storeWrite (loader : Bool) (req a v : Nat) (s : State) : State :=
  if 0x100000 ≤ a && a < 0x1A0000 then
    microWrite loader req a ((a - 0x100000) / 0x8000) ((a - 0x100000) % 0x8000 / 4) v s
  else if 0x1A0000 ≤ a && a < 0x1AC000 then
    nanoWrite loader req a ((a - 0x1A0000) / 0x4000) ((a - 0x1A0000) % 0x4000 / 16) ((a - 0x1A0000) % 16 / 4) v s
  else s

/-- STORE_WINDOW_WRITE (R138). -/
def execStoreWindowWrite (loader : Bool) (req : Nat) (addr : BitVec 24) (data : BitVec 32) (s : State) : Res :=
  .next (storeWrite loader req addr.toNat data.toNat s)

/-- CUSTOMER_REGION_WRITE (R138, R140). -/
def execCustomerRegionWrite (e : Fin 20) (word : Fin 1024) (data : BitVec 32) (s : State) : Res :=
  .next (if fon (ENG.page e) ENG.STATUS_LOCKED s then customerWrite e (0x1C00 + word) data.toNat s else s)

/-! ## Arming (R141) -/

/-- CUST_CTRL.ARM written. -/
def custArm (e : Nat) (arm : Bool) (s : State) : State :=
  let p := ENG.page e
  let was := fon p ENG.CUST_CTRL_ARM s
  let s := fsetB p ENG.CUST_CTRL_ARM arm s
  if arm then (if was then s else setEng e { s.eng e with arming := true } s)
  else s |> setEng e { s.eng e with arming := false } |> fset p ENG.STATUS_ARMED 0

/-- CUST_ARM (R141). -/
def execCustArm (e : Fin 20) (arm : Bool) (s : State) : Res := .next (custArm e arm s)

/-- The bytes of the customer region, words little-endian (R141). -/
def custBytes (e : Nat) (s : State) : List Nat :=
  (List.range 1024).flatMap (fun i => leBytes 4 (s.ustore.get (8192 * e + 0x1C00 + i) 0))

/-- CUST_ARMED (R141). -/
def execCustArmed (e : Fin 20) (s : State) : Res :=
  let p := ENG.page e
  if (s.eng e).arming then
    let c := crc32c (custBytes e s)
    .next (s |> setEng e { s.eng e with arming := false } |> fset p ENG.CUST_CRC c |> fset p ENG.STATUS_ARMED 1
      |> emitEng e 6 c (fget p ENG.CUST_HOOKS_EN s) |> measure 0x06 (srcEng e) (sha3 (custBytes e s)))
  else .next s

/-! ## Plausibility (R153 to R155) -/

/-- PF cleared, and the monitor reseeds (R154, R155). -/
def rearm (e : Nat) (s : State) : State :=
  s |> fset (ENG.page e) ENG.STATUS_PF 0 |> setEng e { s.eng e with seeded := false, exceed := 0 }

/-- PLAUS_REARM (R154). -/
def execPlausRearm (e : Fin 20) (s : State) : Res := .next (rearm e s)

/-- The lane an input port's signal comes by: ports of lane 0, of lane 1, or neither (R159, R237). -/
def inputLane (e p : Nat) : Option (Nat × Nat) :=
  if e < 8 then
    if p < 8 || (0x10 ≤ p && p ≤ 0x12) then some (headOf e, 0)
    else if p < 0x10 || (0x13 ≤ p && p ≤ 0x15) then some (headOf e, 1) else none
  else if (e = 9 || e = 10) && p = 1 then some (e - 9, 1) else none

/-- The tick's input is not flagged invalid (R155). -/
def inputValid (e p : Nat) (s : State) : Bool :=
  match inputLane e p with
  | some (h, k) => laneValid h k s
  | none => true

/-- H of the engine's head; SE8 has none. -/
def engH (e : Nat) (s : State) : Bool := if e < 8 then servoH (headOf e) s else if e = 8 then false else servoH (e - 9) s

/-- The monitor's prediction p[k] (R153), products rounded half up to Q1.31. -/
def predict (e : Nat) (p1 p2 u : Int) (s : State) : Int :=
  let p := ENG.page e
  shiftRound (fgetI p ENG.MODEL_A1 s * p1 + fgetI p ENG.MODEL_A2 s * p2 + fgetI p ENG.MODEL_B s * u) 30

/-- One tick of an engine's monitor (R153 to R155). -/
def plausTick (s : State) (e : Nat) : State :=
  let p := ENG.page e
  let g := s.eng e
  let us := ((portOut e (fget p ENG.PLAUS_CFG_OUT_PORT s) s).toInt :: g.us).take 16
  let s := setEng e { g with us := us } s
  if !fon p ENG.PLAUS_CFG_EN s then setEng e { s.eng e with seeded := false, exceed := 0 } s
  else
    let port := fget p ENG.PLAUS_CFG_IN_PORT s
    if !inputValid e port s || engH e s then setEng e { s.eng e with seeded := false, exceed := 0 } s
    else
      let y := (portIn e port s).toInt
      let q1 := if g.seeded then g.p1 else y
      let q2 := if g.seeded then g.p2 else y
      let pk := predict e q1 q2 (us.getD (nz (fget p ENG.PLAUS_CFG_DELAY s)) 0) s
      let r := y - pk
      let run := if (fget p ENG.RES_THR s : Int) < r.natAbs then (if g.seeded then g.exceed else 0) + 1 else 0
      let s := s |> setEng e { s.eng e with p1 := pk, p2 := q1, seeded := true, exceed := run }
        |> fsetI p ENG.RES_LAST (q31 r)
      if nz (fget p ENG.PLAUS_CFG_RES_N s) ≤ run && !fon p ENG.STATUS_PF s then
        s |> fset p ENG.STATUS_PF 1 |> raise p ENG.iPLAUS_FAIL |> emitEng e 3 (fget p ENG.RES_LAST s) (fget p ENG.RES_THR s)
      else s

end Sys2Proof.Machine
end

