-- ==== Sys2Proof/Machine/Claims.lean ====
section
/-!
DEFINITION. Claims and semaphores read under RAQ: acquisition, contests and release (R414, R478, R495, R596, R597).
-/
namespace Sys2Proof.Machine

/-- A claim's record. -/
def State.claim (s : State) (k : Nat) : Claim := s.claims.get k {}
/-- A claim's record set. -/
def setClaim (k : Nat) (v : Claim) (s : State) : State := { s with claims := s.claims.put k v {} }

/-- The winner of a contest: the reader first in the rotating order that begins after the last winner (R597). -/
def contestWinner (won : Option Nat) (reqs : List Nat) : Option Nat :=
  let a := match won with | some w => w + 1 | none => 0
  ((List.range 256).map (fun i => (a + i) % 256)).find? reqs.contains

/-- Reads of a claim in one cycle: it passes to a reader while it is free. -/
def takeClaim (k : Nat) (reqs : List Nat) (s : State) : State :=
  let c := s.claim k
  match c.holder, reqs with
  | some _, _ => s
  | none, [] => s
  | none, [r] => setClaim k { c with holder := some r, taken := s.time, count := 0 } s
  | none, _ =>
    match contestWinner c.won reqs with
    | none => s
    | some w => setClaim k { c with holder := some w, taken := s.time, count := 0, won := some w } s

/-- What a reader of a claim gets: HOLDER in bits 7 to 0, HELD_OTHER in bit 31. -/
def claimWord (k req : Nat) (s : State) : Nat :=
  match (s.claim k).holder with
  | some h => h + (if h = req then 0 else 2 ^ 31)
  | none => 0

/-- Reads of a claim, each answered. -/
def claimReads (k : Nat) (reqs : List Nat) (s : State) : State :=
  let s := takeClaim k reqs s
  reqs.foldl (fun t r => send (.readData r (claimWord k r t)) t) s

/-- A claim released. -/
def releaseClaim (k : Nat) (s : State) : State := setClaim k { s.claim k with holder := none, count := 0 } s

/-- A claim is held by a requester. -/
def holds (k req : Nat) (s : State) : Bool := (s.claim k).holder == some req

/-- Key of the intake's claim, of the vault's, of a mailbox's and of a semaphore. -/
def claimTrf : Nat := 0
/-- The vault's request page. -/
def claimVlq : Nat := 1
/-- A mailbox. -/
def claimMbx (m : Nat) : Nat := 2 + m
/-- A semaphore. -/
def claimSem (n : Nat) : Nat := 16 + n

/-- TRF_CLAIM (R414). -/
def execTrfClaim (reqs : List (Fin 28)) (s : State) : Res := .next (claimReads claimTrf (reqs.map Fin.val) s)

end Sys2Proof.Machine
end

