-- ==== Sys2Proof/Machine/Recorder.lean ====
section
/-!
DEFINITION. The event recorder front end and its log in the boot flash (R579 to R586).
-/
namespace Sys2Proof.Machine

/-- Start-up's records set. -/
def setDev (v : DevSt) (s : State) : State := { s with dev := v }
/-- Observation's records set. -/
def setObs (v : ObsSt) (s : State) : State := { s with obs := v }

/-! ## The boot flash -/

/-- Bytes of the boot flash. -/
def flashBytes (a n : Nat) (s : State) : List Nat := (List.range n).map (fun i => s.dev.flash.get (a + i) 0xFF)

/-- Bytes programmed into erased flash. -/
def flashStore (a : Nat) (bs : List Nat) (s : State) : State :=
  setDev { s.dev with flash := (bs.zipIdx).foldl (fun m b => m.put (a + b.2) (b.1 % 256) 0xFF) s.dev.flash } s

/-- Flash from `a` up to `b` erased. -/
def flashErase (a b : Nat) (s : State) : State :=
  setDev { s.dev with flash := s.dev.flash.dropKeys (fun k => decide (a ≤ k) && decide (k < b)) } s

/-- A 12 V or core warning stands, so no flash program or erase starts (R542, R585). -/
def supplyWarned (s : State) : Bool := fon PWR.page PWR.STATUS_VMOT_WARN s || fon PWR.page PWR.STATUS_CORE_WARN s

/-! ## Records (R579, R580) -/

/-- Start of a log area (R584). -/
def areaBase (a : Nat) : Nat := 0x03200000 + 0x80000 * a

/-- The 32 bytes of a record. -/
def recordBytes (r : EvRec) : List Nat :=
  let b := leBytes 2 r.code ++ [r.src % 256, r.repeats] ++ leBytes 4 r.opTime ++ leBytes 3 r.cycles ++ [r.flags] ++
    leBytes 4 r.p0 ++ leBytes 4 r.p1 ++ leBytes 4 r.p2 ++ leBytes 4 r.seq
  b ++ leBytes 4 (crc32c b)

/-- A record's CRC passes. -/
def recordOk (bs : List Nat) : Bool := crc32c (bs.take 28) == ofLe (bs.drop 28)

/-- Records of the log, those buffered among them (R586). -/
def logCount (s : State) : Nat := s.obs.count + s.obs.buf.length

/-- COUNT, BUF_USED, FULL and AREA shown (R600). -/
def showLog (s : State) : State :=
  s |> fset EVR.page EVR.COUNT (logCount s) |> fset EVR.page EVR.BUF_USED s.obs.buf.length

/-- The source's next sequence number taken (R580). -/
def takeSeq (src : Nat) (s : State) : Nat × State :=
  let n := s.obs.seqs.get src 0
  (n, setObs { s.obs with seqs := s.obs.seqs.put src ((n + 1) % 2 ^ 32) 0 } s)

/-- An event made into a record, with its sequence number. -/
def makeRecord (e : Ev) (s : State) : EvRec × State :=
  let (q, s) := takeSeq e.src s
  let d := s.obs.dropped.contains e.src
  (⟨e.code, e.src, 0, fget DEV.page DEV.OP_TIME s, fget DEV.page DEV.POWER_CYCLES s, b2n d * 2 + b2n e.posted * 4,
    e.p0, e.p1, e.p2, q, s.time⟩,
   setObs { s.obs with dropped := s.obs.dropped.filter (· != e.src) } s)

/-- A record placed in the buffer. -/
def pushRecord (e : Ev) (s : State) : State :=
  let (r, s) := makeRecord e s
  s |> setObs { s.obs with buf := s.obs.buf ++ [r] } |> showLog

/-- The buffer holds 16 records (R581). -/
def bufferFull (s : State) : Bool := decide (16 ≤ s.obs.buf.length)

/-- Time from a record's first occurrence to its writing, in reference cycles. -/
def commitSpan (s : State) : Nat := nz (fget EVR.page EVR.CFG_COMMIT_MS s) * 25000

/-- The buffer has room after drops: event 0x0024 takes it (R581). -/
def endEpisode (s : State) : State :=
  match s.obs.episode with
  | some src =>
    if bufferFull s || fon EVR.page EVR.STATUS_FULL s then s
    else s |> setObs { s.obs with episode := none } |> pushRecord ⟨0x0024, srcAon, fget EVR.page EVR.DROP_CNT s, src, 0, false⟩
  | none => s

/-- A dropped event: it takes its sequence number (R581, R582). -/
def dropEvent (e : Ev) (s : State) : State :=
  let (_, s) := takeSeq e.src s
  if fon EVR.page EVR.STATUS_FULL s then cnt EVR.page EVR.FULL_DROP_CNT EVR.kCNT_SAT s
  else
    s |> setObs { s.obs with dropped := if s.obs.dropped.contains e.src then s.obs.dropped else s.obs.dropped ++ [e.src],
                             episode := s.obs.episode.orElse (fun _ => some e.src) }
      |> cnt EVR.page EVR.DROP_CNT EVR.kCNT_SAT |> sticky EVR.page EVR.kDROPPED |> raise EVR.page EVR.iDROPPED

/-- The record an event merges into: its source's latest record, still buffered, equal and within its commit time (R581). -/
def mergesInto (e : Ev) (s : State) : Option Nat :=
  match (s.obs.buf.zipIdx.filter (fun x => x.1.src = e.src)).getLast? with
  | some (r, i) =>
    if r.code = e.code && r.p0 = e.p0 && r.p1 = e.p1 && r.p2 = e.p2 &&
        decide (s.time ≤ r.at' + commitSpan s) then some i else none
  | none => none

/-- One more occurrence in a record. -/
def mergeRecord (r : EvRec) : EvRec :=
  if r.repeats = 255 then { r with flags := setBit r.flags 0 } else { r with repeats := r.repeats + 1 }

/-- An event reaches the recorder (R581, R582). -/
def arrive (e : Ev) (s : State) : State :=
  if fon EVR.page EVR.STATUS_FULL s then dropEvent e s
  else
    let s := endEpisode s
    match mergesInto e s with
    | some i => setObs { s.obs with buf := s.obs.buf.modify i mergeRecord } s
    | none => if bufferFull s then dropEvent e s else pushRecord e s

/-- EVENT_ARRIVAL (R581): the oldest event of a source on its way. -/
def execEventArrival (src : BitVec 8) (s : State) : Res :=
  .next (match s.evq.find? (fun e => e.src = src.toNat) with
    | some e => arrive e { s with evq := s.evq.erase e }
    | none => s)

/-- DROP_EPISODE_END (R581). -/
def execDropEpisodeEnd (s : State) : Res := .next (endEpisode s)

/-! ## Writing the log (R582, R584) -/

/-- A record written at the next slot of the current area. -/
def logWrite (r : EvRec) (s : State) : State :=
  let a := fget EVR.page EVR.STATUS_AREA s
  s |> flashStore (areaBase a + 32 * s.obs.count) (recordBytes r) |> (fun t => setObs { t.obs with count := t.obs.count + 1 } t)

/-- The last record, 0x0023, once index 16,382 is written; recording stops (R582). -/
def logEnd (s : State) : State :=
  if s.obs.count = 16383 then
    let (r, s) := makeRecord ⟨0x0023, srcAon, 16384, 0, 0, false⟩ s
    let s := logWrite r s
    s |> cntN EVR.page EVR.FULL_DROP_CNT EVR.kCNT_SAT s.obs.buf.length |> setObs { s.obs with buf := [], episode := none }
      |> fset EVR.page EVR.STATUS_FULL 1 |> raise EVR.page EVR.iFULL
  else s

/-- The oldest buffered record written. -/
def commitOldest (s : State) : State :=
  match s.obs.buf with
  | [] => s
  | r :: rest => s |> setObs { s.obs with buf := rest } |> logWrite r |> logEnd

/-- EVENT_COMMIT (R581); `ok` is false where the flash program fails, and the record then stays buffered. -/
def execEventCommit (ok : Bool) (s : State) : Res :=
  .next (if supplyWarned s || s.obs.buf = [] then s
    else if !ok then fault EVR.page 0x01 s
    else s |> commitOldest |> endEpisode |> showLog)

/-- POST_CTRL.GO (R583): the event leaves its poster. -/
def postEvent (req : Nat) (s : State) : State :=
  let code := fget EVR.page EVR.POST_CODE s
  if code / 2 ^ 12 = 6 then sticky EVR.page EVR.kPOST_REJ s
  else
    let p := fun (k : Nat) => fget EVR.page (EVR.POST_P.ix k) s
    { s with evq := s.evq ++ [⟨code, req, p 0, p 1, p 2, true⟩] }

/-- POST_CTRL (R583). -/
def execPostCtrl (req : Fin 28) (s : State) : Res := .next (postEvent req s)

/-! ## Reading the log (R586) -/

/-- Record `i` latched into RD_DATA. -/
def readLog (i : Nat) (s : State) : State :=
  let p := EVR.page
  let show_ := fun (bs : List Nat) (t : State) =>
    (List.range 8).foldl (fun u k => fset p (EVR.RD_DATA.ix k) (ofLe ((bs.drop (4 * k)).take 4)) u) t
  let s := s |> fset p EVR.RD_IDX i |> fset p EVR.RD_STATUS_VALID 1
  if i < logCount s then
    let bs := if i < s.obs.count then flashBytes (areaBase (fget p EVR.STATUS_AREA s) + 32 * i) 32 s
      else match s.obs.buf[i - s.obs.count]? with | some r => recordBytes r | none => []
    s |> show_ bs |> fset p EVR.RD_STATUS_RANGE 0 |> fsetB p EVR.RD_STATUS_CRC_BAD (!recordOk bs)
  else s |> show_ [] |> fset p EVR.RD_STATUS_RANGE 1 |> fset p EVR.RD_STATUS_CRC_BAD 0

/-- RD_IDX_WRITE (R586). -/
def execRdIdxWrite (i : BitVec 14) (s : State) : Res := .next (readLog i.toNat s)

/-! ## Clearing and starting the log (R584, R585) -/

/-- Buffered records written to the former area, as many as time allows. -/
def flushTo : Nat → State → State
  | 0, s => s
  | n + 1, s => if s.obs.buf = [] then s else flushTo n (commitOldest s)

/-- The clear of R585 with the parameters of R524: `flushed` buffered records reach the former area. -/
def clearLog (req digest flushed : Nat) (s : State) : State :=
  let p := EVR.page
  let s := flushTo (if fon p EVR.STATUS_FULL s then 0 else flushed) s
  let n := logCount s
  let new := 1 - fget p EVR.STATUS_AREA s
  let s := s |> flashErase (areaBase new) (areaBase (new + 1)) |> setObs { s.obs with buf := [], count := 0, episode := none }
    |> fset p EVR.STATUS_AREA new |> fset p EVR.STATUS_FULL 0
  let (r, s) := makeRecord ⟨0x600E, srcVault, req, n, digest, false⟩ s
  s |> logWrite r |> showLog |> fset p EVR.STATUS_ERASING 1 |> fset p EVR.STATUS_CLEARING 0 |> raise p EVR.iCLEARED

/-- LOG_CLEAR_RUN (R585): the clear line's request runs, once no supply warning stands (R542). -/
def execLogClearRun (flushed : Fin 17) (s : State) : Res :=
  .next (match s.vault.clear with
    | some (req, digest) =>
      if supplyWarned s then s else clearLog req digest flushed { s with vault := { s.vault with clear := none } }
    | none => s)

/-- LOG_AREA_ERASE_DONE (R585): the area that is not current has been erased, or its erase failed. -/
def execLogAreaEraseDone (ok : Bool) (s : State) : Res :=
  .next (if !fon EVR.page EVR.STATUS_ERASING s then s
    else if ok then
      let a := 1 - fget EVR.page EVR.STATUS_AREA s
      s |> flashErase (areaBase a) (areaBase (a + 1)) |> fset EVR.page EVR.STATUS_ERASING 0
    else fault EVR.page 0x02 s)

/-- Records of an area: the first slot that reads all 0xFF ends it (R584). -/
def areaCount (a : Nat) (s : State) : Nat :=
  let used := ((s.dev.flash.keys.filter (fun k => decide (areaBase a ≤ k) && decide (k < areaBase (a + 1)))).map
    (fun k => (k - areaBase a) / 32)).eraseDups
  ((List.range 16385).find? (fun i => !used.contains i)).getD 16384

/-- Record 0 of an area later than the other's: power cycles, operating time, sequence number (R584). -/
def laterFirst (x y : List Nat) : Bool :=
  let key := fun (b : List Nat) => (ofLe ((b.drop 8).take 3), ofLe ((b.drop 4).take 4), ofLe ((b.drop 24).take 4))
  let (a, b, c) := key x
  let (d, e, f) := key y
  decide (d < a) || (a == d && (decide (e < b) || (b == e && decide (f < c))))

/-- What the front end does at each power-on reset (R584). -/
def logStart (s : State) : State :=
  let p := EVR.page
  let r := fun (a : Nat) => flashBytes (areaBase a) 32 s
  let ok := fun (a : Nat) => recordOk (r a)
  if !ok 0 && !ok 1 then
    let s := s |> flashErase (areaBase 0) (areaBase 2) |> fset p EVR.STATUS_AREA 0
    let (x, s) := makeRecord ⟨0x0026, srcAon, 0, 0, 0, false⟩ s
    s |> logWrite x |> showLog
  else
    let a := if ok 1 && (!ok 0 || laterFirst (r 1) (r 0)) then 1 else 0
    let other := 1 - a
    let blank := s.dev.flash.keys.all (fun k => decide (k < areaBase other) || decide (areaBase (other + 1) ≤ k))
    let s := s |> fset p EVR.STATUS_AREA a |> fsetB p EVR.STATUS_ERASING (!blank)
      |> setObs { s.obs with count := areaCount a s }
    s |> fsetB p EVR.STATUS_FULL (s.obs.count = 16384) |> showLog

end Sys2Proof.Machine
end

