-- ==== Sys2Proof/Machine/Modulation.lean ====
section
/-!
DEFINITION. Modulation: the 16/17 code, sync marks and the run-in pattern (R53 to R55, R326).
-/
namespace Sys2Proof.Machine

/-- Lengths of the runs of equal bits. -/
def runLengths : List Bool → List Nat
  | [] => []
  | b :: bs => match bs, runLengths bs with
    | [], _ => [1]
    | c :: _, r :: rs => if b = c then (r + 1) :: rs else 1 :: r :: rs
    | _ :: _, [] => [1]

/-- Whether a 17-bit word is one of the 16/17 code's set: runs of at most 10, the first and last at most 5 (R326). -/
def codeOk (w : Nat) : Bool :=
  let rs := runLengths (bitsMsb 17 w)
  rs.all (fun r => decide (r ≤ 10)) && decide (rs.headD 0 ≤ 5) && decide (rs.getLastD 0 ≤ 5)

/-- The first `n` members of the set from word `w` on, in ascending order. -/
def codeFrom : Nat → Nat → Nat → List Nat
  | _, 0, _ => []
  | 0, _, _ => []
  | fuel + 1, n + 1, w => if codeOk w then w :: codeFrom fuel n (w + 1) else codeFrom fuel (n + 1) (w + 1)

/-- The 16/17 code table: C(0) to C(65535) (R326). -/
def codeTable : List Nat := codeFrom (2 ^ 17) (2 ^ 16) 0

/-- C(v). -/
def codeWord (v : Nat) : Nat := codeTable.getD v 0

/-- `n` equal bits. -/
def runOf (n : Nat) (b : Bool) : List Bool := List.replicate n b

/-- A sync mark: its body and its identifier (R55). -/
def syncMark (secondary : Bool) (ident : Nat) : List Bool :=
  runOf 11 (!secondary) ++ runOf 11 secondary ++ bitsMsb 2 ident

/-- The identifier expected of a mark of frame `f` (R55). -/
def identOf (secondary : Bool) (f : Nat) : Nat := if secondary then f % 4 else f % 16 / 4

/-- A half frame: its mark and 48 words of 17 channel bits (R54, R326). -/
def halfBits (secondary : Bool) (f : Nat) (bs : List Nat) : List Bool :=
  syncMark secondary (identOf secondary f) ++
    ((List.range 48).map (fun w => bitsMsb 17 (codeWord (256 * bs.getD (2 * w) 0 + bs.getD (2 * w + 1) 0)))).flatten

/-- The channel bits of frame `f` of 192 code bytes (R54). -/
def frameBits (f : Nat) (bs : List Nat) : List Bool := halfBits false f (bs.take 96) ++ halfBits true f (bs.drop 96)

/-- `n` periods of the 6T pattern, beginning with a mark (R53). -/
def sixT (n : Nat) : List Bool := (List.replicate n (runOf 6 true ++ runOf 6 false)).flatten

/-- The run-in: 3,312 bits of the 6T pattern and the cluster-start pattern (R53). -/
def runIn : List Bool := sixT 276 ++ runOf 12 true ++ runOf 12 false ++ runOf 12 true ++ runOf 12 false

/-- The run-out: 3,360 bits of the 6T pattern (R53). -/
def runOut : List Bool := sixT 280

end Sys2Proof.Machine
end

