-- ==== Sys2Proof/Machine/Detect.lean ====
section
/-!
DEFINITION. The beam chain of R239: offset, asymmetry and gain, interpolation and timing, the equaliser, the detector and
the demapper, sample by sample and bit by bit (R243 to R256). Values are exact; register fields show them truncated.
-/
namespace Sys2Proof.Machine

/-- A beam channel's record. -/
def State.chan (s : State) (h b : Nat) : ChanSt := s.chans.get (16 * h + b) {}
/-- A beam channel's record set. -/
def setChan (h b : Nat) (v : ChanSt) (s : State) : State := { s with chans := s.chans.put (16 * h + b) v {} }
/-- A common unit's record. -/
def State.common (s : State) (h : Nat) : CommonSt := s.commons.get h {}
/-- A common unit's record set. -/
def setCommon (h : Nat) (v : CommonSt) (s : State) : State := { s with commons := s.commons.put h v {} }

/-- 2^−n. -/
def shr (n : Nat) : Rat := 1 / 2 ^ n

/-- A rational limited to ±m, and to `lo` to `hi`. -/
def limR (lo hi x : Rat) : Rat := if x < lo then lo else if hi < x then hi else x

/-- H is true on the head. -/
def headH (h : Nat) (s : State) : Bool := fon (CHC.page h) CHC.STATUS_H s

/-- The beam's loops hold: its own defect, H, CTRL.HOLD, or the head writing (R241, R270). -/
def beamHolds (h b : Nat) (s : State) : Bool :=
  headH h s || fon (CHN.page h b) CHN.STATUS_DEF s || fon (CHN.page h b) CHN.CTRL_HOLD s || recording h s

/-! ## Stages 1 to 3 (R243) -/

/-- Stage 3's output of one sample, and the loops' updates. -/
def frontSample (h b : Nat) (s : State) (x : Int) : State :=
  let p := CHN.page h b
  let c := s.chan h b
  let x1 := (x : Rat) - c.ofs
  let x2 := if 0 ≤ x1 then x1 * (1 - c.beta) else x1 * (1 + c.beta)
  let x3 := c.gain * x2
  let c := { c with x3 := c.x3 ++ [x3], n64 := c.n64 + 1, sum64 := c.sum64 + x, abs64 := c.abs64 + |x3|, n256 := c.n256 + 1,
                    max256 := if c.n256 = 0 then x1 else max c.max256 x1, min256 := if c.n256 = 0 then x1 else min c.min256 x1 }
  let hold := beamHolds h b s
  let s := if c.n64 = 64 then
      let o := if hold then c.ofs else c.ofs + (c.sum64 / 64 - c.ofs) * shr (fget p CHN.FE_CFG_OFS_SH s)
      let tgt : Rat := (fget p CHN.AGC_CFG_AGC_TGT s : Rat) / 4096
      let a := c.abs64 / 64 / 128
      let g0 := c.gain * (1 + shr (fget p CHN.AGC_CFG_AGC_SH s) * (if tgt = 0 then 0 else (tgt - a) / tgt))
      let top : Rat := 8 - 1 / 4096
      let g := if hold then c.gain else limR (1 / 4) top g0
      let s := if 64 < |o| then sticky p CHN.kOFS_SAT s else s
      let s := if g = 1 / 4 || g = top then sticky p CHN.kAGC_SAT s else s
      s |> setChan h b { c with ofs := o, gain := g, n64 := 0, sum64 := 0, abs64 := 0 }
        |> fsetI p CHN.FE_STATE_OFS (o * 256).floor |> fset p CHN.AGC_GAIN (g * 4096).floor.toNat
    else setChan h b c s
  let c := s.chan h b
  if c.n256 = 256 then
    let ep := c.max256
    let en := -c.min256
    let d := if ep + en = 0 then 0 else (ep - en) / (ep + en)
    let be := if !fon p CHN.FE_CFG_ASYM_EN s then 0
      else if hold then c.beta else limR (-(1 / 4)) (1 / 4) (c.beta + shr (fget p CHN.FE_CFG_ASYM_SH s) * d)
    s |> setChan h b { c with beta := be, n256 := 0 } |> fsetI p CHN.FE_STATE_ASYM (be * 32768).floor
  else s

/-- Samples of one stream through stages 1 to 3. -/
def frontEnd (h b : Nat) (xs : List Int) (s : State) : State :=
  if fon (CHN.page h b) CHN.CTRL_EN s then xs.foldl (frontSample h b) s else s

/-! ## Stage 4 (R245) -/

/-- The inner and outer neighbours' channels (R240). -/
def innerOf (b : Nat) : Nat := if b = 0 then 8 else b - 1
/-- The outer neighbour's channel. -/
def outerOf (b : Nat) : Nat := if b = 7 then 9 else b + 1

/-- The interpolator's value at an instant: 8 taps, 64 phases. -/
def interpAt (xs : List Rat) (t : Rat) : Rat :=
  let k := t.floor.toNat
  let ph := ((t - t.floor) * 64).floor.toNat
  (List.range 8).foldl (fun a i => a + Config.interp ph i * xs.getD (k + i - 3) 0) 0

/-! ## Stage 5 (R248, R249) -/

/-- Tap `k`, Q2.12 as an integer. -/
def tapFld (k : Nat) : Fld := if k % 2 = 0 then CHN.EQ_TAP_EVEN.ix (k / 2) else CHN.EQ_TAP_ODD.ix (k / 2)
/-- Tap `k` of a beam. -/
def tap (h b k : Nat) (s : State) : Int := fgetI (CHN.page h b) (tapFld k) s

/-- Whether neighbour taps work: NBR_EN, and no legacy mode (R248, R278). -/
def nbrOn (h b : Nat) (s : State) : Bool :=
  fon (CHN.page h b) CHN.EQ_CFG_NBR_EN s && fget (CHC.page h) CHC.STATUS_MODE s = 0

/-- Bit `n` places back. -/
def bitBack (c : ChanSt) (n : Nat) : BitIn := c.bits.getD n ⟨0, 0, 0, false⟩

/-- y of the bit seven places back (R248): x_(n+7−k) is `k` places back from the newest. -/
def equalise (h b : Nat) (s : State) : Rat :=
  let c := s.chan h b
  let q := fun k => (tap h b k s : Rat) / 4096
  let own := (List.range 15).foldl (fun a k => a + q k * (bitBack c k).own) 0
  if nbrOn h b s then
    (List.range 7).foldl (fun a k => a + q (15 + k) * (bitBack c (k + 4)).inner + q (22 + k) * (bitBack c (k + 4)).outer) own
  else own

/-- d of R253 from the decisions at and before a bit, newest first. -/
def idealOf (g : List Int) (bs : List Bool) : Rat :=
  (List.range 5).foldl (fun a i => a + (g.getD i 0 : Rat) / 64 * (if bs.getD i false then 1 else -1)) 0

/-- Whether adaptation of a beam is active (R250). -/
def adapting (h b : Nat) (s : State) : Bool :=
  let p := CHN.page h b
  let calm := fun c => !fon (CHN.page h c) CHN.STATUS_DEF s && !fon (CHN.page h c) CHN.STATUS_DARK s && !fon (CHN.page h c) CHN.STATUS_BLANK s
  let f := fget (CHC.page h) CHC.CFRAME s
  fon p CHN.CTRL_EN s && fon p CHN.CTRL_ADAPT_EN s && fon p CHN.STATUS_TLOCK s && fon p CHN.STATUS_FLOCK s &&
    decide (2 ≤ f) && decide (f ≤ 481) && !fon (CHC.page h) CHC.STATUS_IN_GAP s && calm b && calm (innerOf b) && calm (outerOf b) &&
    !headH h s && !recording h s

/-- A tap moved by `v`, rounded half up to Q2.12 and saturated (R249). -/
def moveTap (h b k : Nat) (v : Rat) (s : State) : State :=
  let p := CHN.page h b
  let t := (((tap h b k s : Rat) + v * 4096) + 1 / 2).floor
  let u := clampI (-8192) 8191 t
  let s := if u ≠ t then sticky p CHN.kTAP_SAT s else s
  fsetI p (tapFld k) u s

/-- One bit's update of the taps with error `e` (R249); `dl` is Δ. -/
def adaptTaps (h b dl : Nat) (e : Rat) (s : State) : State :=
  let p := CHN.page h b
  let c := s.chan h b
  let mo := shr (fget p CHN.EQ_CFG_MU_OWN_SH s)
  let mn := shr (fget p CHN.EQ_CFG_MU_NBR_SH s)
  let lk : Rat := if fget p CHN.EQ_CFG_LEAK_SH s = 0 then 0 else shr (fget p CHN.EQ_CFG_LEAK_SH s)
  let own := fun k => mo * e * (bitBack c (dl + k)).own
  let both := (own 6 + own 8) / 2
  let s1 := ([ 0, 1, 2, 3, 4, 5, 9, 10, 11, 12, 13, 14 ] : List Nat).foldl (fun t k => moveTap h b k (own k) t) s
  let s1 := s1 |> moveTap h b 6 both |> moveTap h b 8 both
  if nbrOn h b s then
    (List.range 7).foldl (fun t k =>
      let a := bitBack c (dl + k + 4)
      t |> moveTap h b (15 + k) (mn * e * a.inner - lk * (tap h b (15 + k) s : Rat) / 4096)
        |> moveTap h b (22 + k) (mn * e * a.outer - lk * (tap h b (22 + k) s : Rat) / 4096)) s1
  else s1

/-! ## Stage 6 (R254) -/

/-- A bit's reliability when two paths meet with metric difference `d`: max-log over the traceback window. -/
def mergeRel (d : Rat) : List (Bool × Rat) → List (Bool × Rat) → List (Bool × Rat)
  | (a, r) :: as, (b, q) :: bs => (a, if a = b then min r (d + q) else min r d) :: mergeRel d as bs
  | as, _ => as

/-- Survivor of a state from its two predecessors: state `m` holds the last four bits, newest in bit 0. -/
def survive (depth : Nat) (g : List Int) (y : Rat) (old : List Survivor) (m : Nat) : Survivor :=
  let bit' := m.testBit 0
  let cand := fun (e : Bool) =>
    let pm := m / 2 + (if e then 8 else 0)
    let sv := old.getD pm ⟨0, []⟩
    let d := idealOf g [ bit', m.testBit 1, m.testBit 2, m.testBit 3, e ]
    (sv.metric + (y - d) * (y - d), sv.path)
  let c0 := cand false
  let c1 := cand true
  let (w, l) := if c0.1 ≤ c1.1 then (c0, c1) else (c1, c0)
  let inf : Rat := 2 ^ 20
  ⟨w.1, (bit', inf) :: (mergeRel (l.1 - w.1) w.2 l.2).take depth⟩

/-- The survivor with the least metric. -/
def bestSurvivor (vs : List Survivor) : Survivor :=
  vs.foldl (fun a v => if v.metric < a.metric then v else a) (vs.headD ⟨0, []⟩)

/-- One step of the detector; metrics are kept relative to the least. -/
def detectStep (depth : Nat) (g : List Int) (y : Rat) (old : List Survivor) : List Survivor :=
  let vs := (List.range 16).map (survive depth g y old)
  let m := (bestSurvivor vs).metric
  vs.map (fun v => ⟨v.metric - m, v.path⟩)

/-- The decisions of the best survivor at depth `n` and the four before it, newest first. -/
def decisions (vs : List Survivor) (n : Nat) : List Bool := (((bestSurvivor vs).path.drop n).take 5).map Prod.fst

/-! ## One channel bit (R245 to R249, R254) -/

/-- The traceback depth (R254). -/
def traceback (h b : Nat) (s : State) : Nat := clampN 24 63 (fget (CHN.page h b) CHN.DET_CFG_TRACEBACK s)

/-- A bit taken through stages 4 to 6; `inner` and `outer` are the neighbours' stage-3 samples. -/
def channelBit (h b : Nat) (inner outer : List Rat) (s : State) : State :=
  let p := CHN.page h b
  let c := s.chan h b
  let hold := beamHolds h b s
  let er := headH h s || fon p CHN.STATUS_DEF s || decide (0 < c.post)
  let x : BitIn := ⟨interpAt c.x3 c.at', interpAt inner c.at', interpAt outer c.at', er⟩
  let s := setChan h b { c with bits := (x :: c.bits).take 96, post := c.post - 1 } s
  let y := equalise h b s
  let c := s.chan h b
  let depth := traceback h b s
  let vs := detectStep depth c.target y c.surv
  let c := { c with ys := (y :: c.ys).take 64, surv := vs }
  let d8 := idealOf c.target (decisions vs 8)
  let d9 := idealOf c.target (decisions vs 9)
  let tau := c.ys.getD 8 0 * d9 - c.ys.getD 9 0 * d8
  let lim : Rat := (fget p CHN.TR_CFG_FREQ_LIM s : Rat) / 1000000
  let f0 := c.f + shr (fget p CHN.TR_CFG_KI_SH s) * tau
  let f := if hold then c.f else limR (-lim) lim f0
  let prop := if hold then 0 else shr (fget p CHN.TR_CFG_KP_SH s) * tau
  let s := if !hold && f ≠ f0 then sticky p CHN.kFREQ_SAT s else s
  let path := (bestSurvivor vs).path
  let outs := match path.drop (depth - 1) with
    | (m, r) :: _ => c.outs ++ [⟨m, if m then r else -r, (bitBack c (depth + 6)).erased⟩]
    | [] => c.outs
  let s := setChan h b { c with f := f, prop := prop, at' := c.at' + c.s0 * (1 + f) + prop, outs := outs } s
  let dl := clampN 8 48 (fget p CHN.EQ_CFG_DEC_DELAY s)
  if adapting h b s then
    adaptTaps h b dl (idealOf c.target (decisions vs dl) - c.ys.getD dl 0) (fset p CHN.STATUS_ADAPTING 1 s)
  else fset p CHN.STATUS_ADAPTING 0 s

/-- Bits while the streams hold samples enough; at most `n`. -/
def channelBits (h b : Nat) (inner outer : List Rat) : Nat → State → State
  | 0, s => s
  | n + 1, s =>
    let c := s.chan h b
    if c.s0 ≤ 0 || decide ((c.x3.length : Rat) ≤ c.at' + 5) then s
    else channelBits h b inner outer n (channelBit h b inner outer s)

/-- TR_STEP shown (R284). -/
def showStep (h b : Nat) (s : State) : State :=
  let c := s.chan h b
  fset (CHN.page h b) CHN.TR_STEP (c.s0 * (1 + c.f) * 2 ^ 24).floor.toNat s

/-- Samples that no data beam needs any more are dropped, from all ten streams alike (R87). -/
def trimSamples (h : Nat) (s : State) : State :=
  let live := (List.range 8).filter (fun b => fon (CHN.page h b) CHN.CTRL_EN s && decide (0 < (s.chan h b).s0))
  let n := live.foldl (fun a b => min a (((s.chan h b).at' - 4).floor.toNat)) ((s.chan h (live.headD 0)).x3.length)
  (List.range 10).foldl (fun t b => let c := t.chan h b
    setChan h b { c with x3 := c.x3.drop n, at' := if live.contains b then c.at' - n else 3 } t) s

/-- The samples of a head's ten streams through the chain; while the head writes every beam channel holds (R241). -/
def rfSamples (h : Nat) (rf : List (List Int)) (s : State) : State :=
  if rf = [] || recording h s then s
  else
    let s := (List.range 10).foldl (fun t b => frontEnd h b (rf.getD b []) t) s
    let t := (List.range 8).foldl (fun t b =>
      if fon (CHN.page h b) CHN.CTRL_EN t then
        t |> channelBits h b (s.chan h (innerOf b)).x3 (s.chan h (outerOf b)).x3 (2 * (s.chan h b).x3.length) |> showStep h b
      else t) s
    trimSamples h t

/-! ## Stage 8 (R255, R256) -/

/-- The metric of a code word: the sum of ±λ/2 over its channel bits. -/
def wordMetric (lams : List Rat) (w : Nat) : Rat :=
  (List.zipWith (fun b (l : Rat) => if b then l / 2 else -(l / 2)) (bitsMsb 17 w) lams).foldl (· + ·) 0

/-- The best metric of the words whose code bit `i` (15 first) is `b`. -/
def bestWord (lams : List Rat) (i : Nat) (b : Bool) : Rat :=
  ((List.range (2 ^ 16)).filter (fun v => v.testBit i == b)).foldl (fun a v => max a (wordMetric lams (codeWord v))) (-(2 ^ 40))

/-- L of a code bit, and whether it saturated; λ in units of 2^−10 (R255). -/
def llrOf (gain sh : Nat) (lc : Rat) : Int × Bool :=
  let v := (lc * 1024 * gain * shr (6 + sh) + 1 / 2).floor
  (clampI (-31) 31 v, decide (v < -31 ∨ 31 < v))

/-- The sixteen LLRs and the erasure flag of a word of 17 bits. -/
def demap (gain sh : Nat) (bs : List BitOut) : List (Int × Bool) × Bool :=
  let ls := bs.map BitOut.lam
  ((List.range 16).map (fun i => llrOf gain sh (bestWord ls (15 - i) false - bestWord ls (15 - i) true)), bs.any BitOut.erased)

/-- The words of a frame of 1,680 bits: each half's 48 words after its 24-bit mark. -/
def frameWordsOf (bs : List BitOut) : List (List BitOut) :=
  (List.range 96).map (fun w => (bs.drop ((w / 48) * 840 + 24 + 17 * (w % 48))).take 17)

end Sys2Proof.Machine
end

