-- ==== Sys2Proof/Machine/EqSets.lean ====
section
/-!
DEFINITION. The equaliser sets that CE0 and CE4 keep for each layer in their data memory (R252).
-/
namespace Sys2Proof.Machine

/-- The engine that supervises a head's equalisers: CE0 or CE4. -/
def eqEngine (h : Nat) : Nat := 12 + 4 * h

/-- Data memory address of word `i` of a beam's set of a layer: 15 words a beam, 120 a layer from 0x100. -/
def setAddr (layer b i : Nat) : Nat := 0x100 + 120 * layer + 15 * b + i

/-- The taps of all eight data beams saved as a layer's set, when SAVE_EN is 1. -/
def saveSets (h layer : Nat) (s : State) : State :=
  if fon (EQS.page h) EQS.EQS_CFG_SAVE_EN s then
    let s := (List.range 120).foldl (fun t n => dmPut (eqEngine h) (setAddr layer (n / 15) (n % 15))
      (regValue (CHN.page h (n / 15)) (0x080 + 4 * (n % 15)) t) t) s
    fset (EQS.page h) EQS.SETS_VALID (setBit (fget (EQS.page h) EQS.SETS_VALID s) layer) s
  else s

/-- Whether a set is stored for a layer. -/
def setStored (h layer : Nat) (s : State) : Bool := bit (fget (EQS.page h) EQS.SETS_VALID s) layer

/-- A beam's stored set of a layer loaded into its taps, or the reset values without one. -/
def loadSet (h b layer : Nat) (s : State) : State :=
  if setStored h layer s then
    (List.range 15).foldl (fun t i =>
      let w := dmGet (eqEngine h) (setAddr layer b i) t
      t |> fset (CHN.page h b) (CHN.EQ_TAP_EVEN.ix i) (slice w 13 0) |> fset (CHN.page h b) (CHN.EQ_TAP_ODD.ix i) (slice w 29 16)) s
  else resetTaps h b s

/-- At the first gap after a layer jump the new layer's set is loaded, when RESTORE_EN is 1 and a set exists. -/
def restoreSets (h : Nat) (s : State) : State :=
  match (s.common h).eqLoad with
  | none => s
  | some l =>
    let s := setCommon h { s.common h with eqLoad := none } s
    if fon (EQS.page h) EQS.EQS_CFG_RESTORE_EN s && setStored h l s then
      (List.range 8).foldl (fun t b => loadSet h b l t) s
    else s

end Sys2Proof.Machine
end

