-- ==== Sys2Proof/Machine/Laser.lean ====
section
/-!
DEFINITION. Laser power: the power table of a head, its messages at the jump gaps, the running power correction, the read
boost and the clean suspension of a recording (R331, R333 to R337, R343).
-/
namespace Sys2Proof.Machine

/-! ## Clean suspension (R343) -/

/-- A recording suspended at a boundary, with its cause and cluster slot (R343, R357). -/
def suspend (h cause cslot : Nat) (s : State) : State :=
  if writing h s && !fon (LPW.page h) LPW.STATUS_SUSPENDED s && fon (LPW.page h) LPW.STATUS_WRITING s then
    s |> showWriting h false |> fset (LPW.page h) LPW.STATUS_SUSPENDED 1
      |> fset ENC.page (if h = 0 then ENC.STATUS_SUSP_L else ENC.STATUS_SUSP_U) 1
      |> raise (LPW.page h) LPW.iSUSPENDED |> cnt (LPW.page h) LPW.SUSP_CNT LPW.kCNT_SAT |> raise ENC.page ENC.iSUSPENDED
      |> setRec h { s.rec' h with suspended := some cause, suspRevs := 0 }
      |> emit 0x4100 (srcChan h) h cause cslot
  else s

/-! ## The power table (R331, R333) -/

/-- The table in force of a head: 4 × layer + zone. -/
def stratTable (h : Nat) (s : State) : Nat :=
  4 * fget (LPW.page h) LPW.STATUS_LAYER s + fget (LPW.page h) LPW.STATUS_ZONE s

/-- RATIO of a level of a table, in 1/256 of PEAK (R328, R333). -/
def ratioOf (h t k : Nat) (s : State) : Nat :=
  let p := LPW.page h
  if k = 2 then fget p (LPW.RATIO_BIAS.ix t) s else if k = 3 then fget p (LPW.RATIO_COOL.ix t) s
  else if k = 4 then fget p (LPW.RATIO_MID.ix t) s else if k = 5 then 256
  else fget p (LPW.RATIO_LAST.ix t) s

/-- PW of a layer's beam. -/
def pwOf (h layer b : Nat) (s : State) : Nat :=
  fget (LPW.page h) ((if b % 2 = 0 then LPW.PW_EVEN else LPW.PW_ODD).ix (4 * layer + b / 2)) s

/-- The power of a beam at a level, 10 µW units, rounded half up (R333); level 7 is the boost. -/
def powerOf (h b k : Nat) (s : State) : Nat :=
  let p := LPW.page h
  let t := stratTable h s
  if k = 7 then (2 * fget p LPW.READ_PWR s * (100 + fget p LPW.BOOST_PCT s) + 100) / 200
  else
    let v := pwOf h (fget p LPW.STATUS_LAYER s) b s * fget p (LPW.ZSCALE.ix t) s * fget p (LPW.RPC_CORR.ix b) s * ratioOf h t k s
    (v + 2 ^ 35) / 2 ^ 36

/-- A head's power table as R102 clamps it: key 8 × beam + level, levels 2 to 7 of the data beams. -/
def powerTable (h : Nat) (s : State) : List (Nat × Nat) :=
  (List.range 8).flatMap (fun b => (List.range 6).map (fun k =>
    (8 * b + (k + 2), min (powerOf h b (k + 2) s) (Config.peakPower h b))))

/-- Entries that differ from those the front end has confirmed (R334). -/
def changedEntries (h : Nat) (s : State) : List (Nat × Nat) :=
  (powerTable h s).filter (fun kv => (s.link h).power.get kv.1 0 ≠ kv.2)

/-- Entries unconfirmed, as STATUS.TBL_PEND shows (R334). -/
def notePower (h : Nat) (s : State) : State :=
  let ch := changedEntries h s
  s |> setRec h { s.rec' h with unsent := ch.foldl (fun m kv => m.insert kv.1 kv.2) [] }
    |> fsetB (LPW.page h) LPW.STATUS_TBL_PEND (ch ≠ [])

/-- SET_POWER messages outstanding. -/
def powerOutstanding (h : Nat) (s : State) : List Nat :=
  ((s.link h).msgs.filter (fun m => m.type = 3 && !m.own)).map (fun m => 8 * slice m.args 239 236 + slice m.args 235 233)

/-- The changed entries sent, up to 16 outstanding (R334). -/
def sendPower (h : Nat) (s : State) : State :=
  let busy := powerOutstanding h s
  let todo := (changedEntries h s).filter (fun kv => !busy.contains kv.1)
  (todo.take (16 - busy.length)).foldl (fun t kv =>
    t |> sendSetPower h (kv.1 / 8) (kv.1 % 8) kv.2 |> cnt (LPW.page h) LPW.PWR_MSG_CNT LPW.kCNT_SAT) s

/-! ## RPC (R336) -/

/-- A rational clamped. -/
def clampR (lo hi x : Rat) : Rat := if x < lo then lo else if hi < x then hi else x

/-- RPC_CORR of a beam from the revolution's summed monitor samples and EXPECTED values (R336). -/
def rpcBeam (h b sum ex : Nat) (s : State) : State :=
  let p := LPW.page h
  let r : Rat := if ex = 0 then 1 else (sum : Rat) / ex
  let dead : Rat := (fget p LPW.RPC_CFG_RPC_DEAD s : Rat) / 1000
  let step : Rat := (fget p LPW.RPC_CFG_RPC_STEP s : Rat) / 1000
  let mx : Rat := (fget p LPW.RPC_CFG_RPC_MAX s : Rat) / 100
  if |1 - r| ≤ dead then s
  else
    let old : Rat := (fget p (LPW.RPC_CORR.ix b) s : Rat) / 16384
    let inv : Rat := if r = 0 then 1 + step else 1 / r
    let v := clampR (1 - mx) (1 + mx) (old * (1 + clampR (-step) step (inv - 1)))
    let s := fset p (LPW.RPC_CORR.ix b) (v * 16384 + 1 / 2).floor.toNat s
    if v = 1 - mx || v = 1 + mx then
      s |> sticky p LPW.kRPC_SAT |> raise p LPW.iRPC_LIMIT
        |> fset CAL.page (if h = 0 then CAL.OPC_VALID_L else CAL.OPC_VALID_U)
            (clrBit (fget CAL.page (if h = 0 then CAL.OPC_VALID_L else CAL.OPC_VALID_U) s) (fget p LPW.STATUS_LAYER s))
        |> emit 0x4108 (srcChan h) h b (fget p (LPW.RPC_CORR.ix b) s)
    else s

/-- RPC of the data beams, after a revolution in which the head recorded. -/
def rpcUpdate (h : Nat) (mon : List (Nat × Nat)) (s : State) : State :=
  if (s.rec' h).recorded then
    (List.range 8).foldl (fun t b => rpcBeam h b (mon.getD b (0, 0)).1 (mon.getD b (0, 0)).2 t) s
  else s

/-! ## The gap (R331, R334, R336, R337) -/

/-- The strategy zone of the position (R331): by group on DLA, by sled radius on BD. -/
def stratZone (h : Nat) (s : State) : Nat :=
  if fget (CHC.page 0) CHC.STATUS_MODE s = 1 then
    min 3 ((fget (SLD.page 0) SLD.POS s / 256 - 24000) / 8520)
  else groupOf (posTrack h s) / 6656

/-- The table changes to the zone and layer the head enters (R331). -/
def enterTable (h : Nat) (s : State) : State :=
  s |> fset (LPW.page h) LPW.STATUS_LAYER (posLayer h s) |> fset (LPW.page h) LPW.STATUS_ZONE (stratZone h s)

/-- A boost runs from the first gap start after BOOST is set to the first after it is cleared; one set while the head
records waits for the recording to suspend or end (R337). -/
def boostGap (h : Nat) (s : State) : State :=
  let r := s.rec' h
  let want := fon (LPW.page h) LPW.CTRL_BOOST s
  if want && !r.boosting && !writing h s then
    s |> setRec h { r with boosting := true } |> fset (LPW.page h) LPW.STATUS_BOOST_ACT 1 |> fset (HTX.page h) HTX.STATUS_WRITE_EN 1
  else if !want && r.boosting then
    s |> setRec h { r with boosting := false } |> fset (LPW.page h) LPW.STATUS_BOOST_ACT 0 |> fset (HTX.page h) HTX.STATUS_WRITE_EN 0
  else s

/-- LPW's work at a jump gap start of its head. -/
def laserGap (h : Nat) (mon : List (Nat × Nat)) (s : State) : State :=
  let s := if (s.rec' h).suspended.isSome then setRec h { s.rec' h with suspRevs := (s.rec' h).suspRevs + 1 } s else s
  let s := s |> rpcUpdate h mon |> (fun t => setRec h { t.rec' h with recorded := fon (LPW.page h) LPW.STATUS_WRITING t } t)
  let s := if posValid h s then enterTable h s else s
  let s := boostGap h s
  if fon (LPW.page h) LPW.CTRL_EN s && !(s.rec' h).blocked then s |> notePower h |> sendPower h else s

end Sys2Proof.Machine
end

