-- ==== Sys2Proof/Machine/Servo.lean ====
section
/-!
DEFINITION. Focus, tracking, tilt and layer travel: the loops' tick, capture, losses, jumps and seeks (R160 to R190).
-/
namespace Sys2Proof.Machine

/-- Role port 0x8A of a loop engine: STATE and SETTLED (R192). -/
def showLoop (e : Nat) (s : State) : State :=
  setPort e 0x8A (BitVec.ofNat 32 (getLoop e s + 8 * fget (LOOP.page e) LOOP.LOOP_STATUS_SETTLED s)) s

/-- The PG channel of a head's lens (R188). -/
def lensCh (h : Nat) : Nat := 2 + h
/-- The PG channel of a head's sled (R188). -/
def sledCh (h : Nat) : Nat := h
/-- +1 where the layer's track path runs outward, −1 where inward (R36). -/
def pathSign (layer : Nat) : Int := if layer % 2 = 0 then 1 else -1
/-- The head follows (R177). -/
def follows (h : Nat) (s : State) : Bool := fon MC.page (if h = 0 then MC.MC_CTRL_FOLLOW_L else MC.MC_CTRL_FOLLOW_U) s
/-- The head's state when on track: HOLDING or FOLLOWING (R197). -/
def onTrack (h : Nat) (s : State) : State := mcState h (if follows h s then 3 else 2) s
/-- A per-head counter of SE11: [15:0] for head L, [31:16] for head U, saturating (R197). -/
def headCnt (f : Fld) (h : Nat) (s : State) : State :=
  let v := fget MC.page f s
  let x := v / 2 ^ (16 * h) % 2 ^ 16
  if x < 65535 then fset MC.page f (v + 2 ^ (16 * h)) s else sticky MC.page ENG.kCNT_SAT s

/-! ## Lens moves (R188, R189) -/

/-- A channel's limits at their reset values, as SE11 reloads them before a move (R189). -/
def resetLimits (c : Nat) (s : State) : State :=
  fclrs MOT.page [ MOT.V_MAX_LO.ix c, MOT.V_MAX_HI.ix c, MOT.A_MAX_LO.ix c, MOT.A_MAX_HI.ix c, MOT.J_MAX_LO.ix c, MOT.J_MAX_HI.ix c ] s

/-- A move of a channel to a position, in limit mode. -/
def moveTo (c : Nat) (x : Rat) (s : State) : State :=
  s |> fset MOT.page (MOT.PG_CTRL_MODE.ix c) 0 |> pgSetTarget c (ofSigned 48 (x * 2 ^ 16).floor) |> pgGo c

/-- A lens move by some nanometres with the reset limits (R189). -/
def lensMove (h : Nat) (nm : Int) (s : State) : State :=
  s |> resetLimits (lensCh h) |> moveTo (lensCh h) ((s.pg (lensCh h)).pos + nm)

/-- A focus sweep: SWEEP_LEN towards the disc at SWEEP_VEL (R165, R189). -/
def sweep (h : Nat) (s : State) : State :=
  let p := FOC.page h
  s |> resetLimits (lensCh h)
    |> fset64 MOT.page (MOT.V_MAX_LO.ix (lensCh h)) (MOT.V_MAX_HI.ix (lensCh h)) (fget p FOC.SWEEP_VEL s)
    |> moveTo (lensCh h) ((s.pg (lensCh h)).pos + fget p FOC.SWEEP_LEN s)

/-- The acceleration port of a channel, Q1.31. -/
def accPort (c : Nat) (s : State) : Int := fgetI MOT.page (MOT.ACC.ix c) s

/-! ## Coil commands of the loops -/

/-- A loop's coil. -/
def loopCoil (e : Nat) : Nat := e % 4

/-- A coil command of a loop engine, Q1.31, released to the ACL (R112, R161). -/
def loopOut (e : Nat) (u : Int) (s : State) : State :=
  let v := u / 2 ^ 16
  s |> setLoop e { s.loop e with u := u } |> fsetI (LOOP.page e) LOOP.OUT_LAST v
    |> setPort e (0x80 + loopCoil e) (BitVec.ofInt 32 u) |> coilCommand (headOf e) (loopCoil e) v false false

/-- A ramp of a loop's coil to a VALUE over some ticks, ending PARKED. -/
def startRamp (e : Nat) (dst : Int) (n : Nat) (s : State) : State :=
  setLoop e { s.loop e with ramp := some ((s.loop e).u / 2 ^ 16, dst, nz n, 0) } s

/-- RETRACT_POS and the ticks of RETRACT_MS (R165, R167, R193). -/
def retract (h : Nat) (s : State) : State :=
  startRamp (4 * h) (fgetI (FOC.page h) FOC.RETRACT_POS s) (400 * nz (fget (FOC.page h) FOC.FOC_CFG_RETRACT_MS s)) s

/-- The tracking coil ramps to 0 within 1 ms. -/
def dropTracking (h n : Nat) (s : State) : State := startRamp (4 * h + 1) 0 n s

/-! ## Capture (R165, R168) -/

/-- Focus capture starts (R165 step 1). -/
def startFocus (h : Nat) (s : State) : State :=
  let e := 4 * h
  let u := fgetI (FOC.page h) FOC.RETRACT_POS s * 2 ^ 16
  s |> setLoop e { s.loop e with ramp := none, last := 0, since := 0, settleRun := 0, lossRun := 0 }
    |> loopState e 1 |> fset (LOOP.page e) LOOP.LOOP_STATUS_SETTLED 0 |> fset (FOC.page h) FOC.LAYERS_SEEN 0
    |> loopOut e u |> setHead h { s.head h with recapture := false } |> mcState h 1 |> sweep h |> showLoop e

/-- FOCUS_ACQUIRE (R165). -/
def execFocusAcquire (head : Head) (s : State) : Res :=
  let h := head.n
  if fon (LOOP.page (4 * h)) LOOP.LOOP_CTRL_EN s then
    .next (s |> setHead h { s.head h with sweeps := 1 } |> startFocus h)
  else .next s

/-- Tracking capture waits for its sign change (R168). -/
def startTracking (h : Nat) (s : State) : State :=
  let e := 4 * h + 1
  s |> setLoop e { s.loop e with ramp := none, last := 0, since := 0, settleRun := 0, lossRun := 0 }
    |> loopState e 1 |> fset (LOOP.page e) LOOP.LOOP_STATUS_SETTLED 0 |> showLoop e

/-- TRACKING_ACQUIRE (R168): with focus CLOSED and SETTLED. -/
def trackingAcquire (h : Nat) (s : State) : State :=
  if getLoop (4 * h) s = 2 && fon (LOOP.page (4 * h)) LOOP.LOOP_STATUS_SETTLED s then startTracking h s else s

/-- TRACKING_ACQUIRE (R168). -/
def execTrackingAcquire (head : Head) (s : State) : Res :=
  let h := head.n
  if fon (LOOP.page (4 * h + 1)) LOOP.LOOP_CTRL_EN s then .next (trackingAcquire h s) else .next s

/-- Focus capture has failed after the last sweep, or is to sweep again (R165). -/
def sweepEnd (h : Nat) (s : State) : State :=
  let e := 4 * h
  let n := (s.head h).sweeps
  if getLoop e s ≠ 1 then s
  else if n < fget (FOC.page h) FOC.FOC_CFG_SWEEPS s then
    s |> setHead h { s.head h with sweeps := n + 1 } |> startFocus h
  else
    s |> loopState e 6 |> showLoop e |> retract h |> mcState h 0
      |> emit 0x2001 (srcEng e) h 3 (b2n (writing h s))

/-- FOCUS_SWEEP_END (R165). -/
def execFocusSweepEnd (head : Head) (s : State) : Res := .next (sweepEnd head.n s)

/-! ## Losses (R167, R170) -/

/-- Focus is lost (R167): both loops park, and capture starts when the lens is retracted. -/
def focusLost (h cause : Nat) (s : State) : State :=
  let e := 4 * h
  if getLoop e s = 2 || getLoop e s = 3 || getLoop e s = 4 then
    s |> emit 0x2001 (srcEng e) h cause (b2n (writing h s)) |> tripIfWriting h
      |> cnt (LOOP.page e) LOOP.LOSSES ENG.kCNT_SAT
      |> loopState e 6 |> loopState (e + 1) 6
      |> fset (LOOP.page e) LOOP.LOOP_STATUS_SETTLED 0 |> fset (LOOP.page (e + 1)) LOOP.LOOP_STATUS_SETTLED 0
      |> retract h |> dropTracking h 400
      |> (fun t => setHead h { t.head h with recapture := true, sweeps := 1, jump := none, ljump := none } t)
      |> mcState h 1 |> showLoop e |> showLoop (e + 1)
  else s

/-- FOCUS_LOST (R167). -/
def execFocusLost (head : Head) (byFs : Bool) (s : State) : Res := .next (focusLost head.n (if byFs then 1 else 2) s)

/-- Tracking is lost (R170): POS.valid clears and tracking recaptures without parking. -/
def trackingLost (h te : Nat) (s : State) : State :=
  let e := 4 * h + 1
  if getLoop e s = 2 || getLoop e s = 3 || getLoop e s = 4 then
    s |> emit 0x2003 (srcEng e) h te (b2n (writing h s)) |> tripIfWriting h
      |> cnt (LOOP.page e) LOOP.LOSSES ENG.kCNT_SAT |> posInvalid h |> startTracking h
  else s

/-- TRACKING_LOST (R170). -/
def execTrackingLost (head : Head) (te : BitVec 32) (s : State) : Res := .next (trackingLost head.n te.toNat s)

/-- LOOP_PARK (R192): the loop ramps to PARKED. -/
def parkLoop (h k : Nat) (s : State) : State :=
  let e := 4 * h + k
  let s := s |> loopState e 6 |> fset (LOOP.page e) LOOP.LOOP_STATUS_SETTLED 0 |> showLoop e
  if k = 0 then s |> retract h |> mcState h 0 else startRamp e 0 400 s

/-- LOOP_PARK (R192). -/
def execLoopPark (head : Head) (loop : Fin 3) (s : State) : Res := .next (parkLoop head.n loop s)

/-- LOST_FEEDBACK (R174, R175). -/
def execLostFeedback (head : Head) (cause : Fin 7) (loop : Fin 3) (s : State) : Res :=
  let h := head.n
  .next (s |> lostFeedbackTrip h cause (srcEng (4 * h + loop)) |> retract h |> dropTracking h 400)

/-- The ramps of steps 2 and 3 of the lost-feedback path (R175). -/
def lostRamps (h : Nat) (s : State) : State := s |> retract h |> dropTracking h 400

/-! ## Banks (R162, R163) -/

/-- The bank change made. -/
def swapBank (e : Nat) (s : State) : State :=
  let p := LOOP.page e
  if fon p LOOP.LOOP_STATUS_SWAP_PEND s then
    s |> fset p LOOP.LOOP_STATUS_BANK (1 - fget p LOOP.LOOP_STATUS_BANK s) |> fset p LOOP.LOOP_STATUS_SWAP_PEND 0
  else s

/-- BANK_SWAP (R163): pending until the gap, or the next tick where the loop is OFF, LOST or PARKED. -/
def execBankSwap (head : Head) (loop : Fin 3) (s : State) : Res :=
  .next (fset (LOOP.page (4 * head.n + loop)) LOOP.LOOP_STATUS_SWAP_PEND 1 s)

/-- A coefficient of the active bank, Q1.31 (R162). -/
def coef (e i : Nat) (s : State) : Int := toSigned 32 (dmGet e (32 * fget (LOOP.page e) LOOP.LOOP_STATUS_BANK s + i) s)
/-- A shift of the active bank, 0 to 9 (R162). -/
def coefSh (e i : Nat) (s : State) : Nat := min 9 ((coef e i s).toNat % 16)

/-! ## The loop's tick (R161, R164) -/

/-- The loop's error port: FE, TE or RT (R161). -/
def loopInput (e : Nat) (s : State) : Int :=
  if e % 4 = 0 then sigFE (headOf e) s else if e % 4 = 1 then sigTE (headOf e) s else sigRT (headOf e) s

/-- The lane that carries a loop's error (R159). -/
def loopLane (e : Nat) : Nat := if e % 4 = 2 then 1 else 0

/-- xff of R161. -/
def loopXff (e : Nat) (s : State) : Int :=
  let h := headOf e
  if !fon MC.page MC.MC_CTRL_XFF_EN s then 0
  else if e % 4 = 0 then sigXFF h s else if e % 4 = 1 then accPort (sledCh (1 - h)) s else 0

/-- a_pg of R161: the lens channel's acceleration while a jump is assigned to the loop. -/
def loopApg (e : Nat) (s : State) : Int :=
  let h := headOf e
  let assigned := if e % 4 = 0 then getLoop e s = 1 || (s.head h).ljump.isSome else e % 4 = 1 && (s.head h).jump.isSome
  if assigned then accPort (lensCh h) s else 0

/-- A biquad section: (b0 x + b1 x1 + b2 x2 − a1 y1 − a2 y2) × 2^sh, rounded and saturated (R124, R161). -/
def biquad (b0 b1 b2 a1 a2 : Int) (sh : Nat) (x x1 x2 y1 y2 : Int) : Int :=
  q31 (q31 (shiftRound (b0 * x + b1 * x1 + b2 * x2 - a1 * y1 - a2 * y2) 31) * 2 ^ sh)

/-- The loop filter of R161 on an error, with its output and published component. -/
def loopFilter (e : Nat) (err : Int) (s : State) : State :=
  let l := s.loop e
  let c := fun i => coef e i s
  let i := limBy (q31 (l.i + mul31 (c 3) err)) (c 4)
  let v := q31 (q31 (mul31 (c 1) err * 2 ^ coefSh e 2 s) + i)
  let w1 := biquad (c 5) (c 6) (c 7) (c 8) (c 9) (coefSh e 10 s) v l.v1 l.v2 l.w1a l.w1b
  let w2 := biquad (c 11) (c 12) (c 13) (c 14) (c 15) (coefSh e 16 s) w1 l.w1a l.w1b l.w2a l.w2b
  let u := limBy (q31 (w2 + mul31 (c 18) (loopApg e s) + mul31 (c 19) (loopXff e s))) (c 17)
  let s := s |> setLoop e { l with i := i, v1 := v, v2 := l.v1, w1a := w1, w1b := l.w1a, w2a := w2, w2b := l.w2a }
    |> fsetI (LOOP.page e) LOOP.ERR_LAST err |> fsetI (LOOP.page e) LOOP.INTEG i |> loopOut e u
  if e % 4 = 0 then setPort e 0x88 (BitVec.ofInt 32 w2) s
  else if e % 4 = 1 then setPort e 0x88 (BitVec.ofInt 32 u) s else s

/-- The error of R161: x − OFS, less the zone's offset for radial tilt. -/
def loopError (e : Nat) (s : State) : Int :=
  let x := loopInput e s - coef e 0 s
  q31 (if e % 4 = 2 then x - (s.head (headOf e)).rtofs else x)

/-- One tick of a ramp (R167, R168, R175); the loop is PARKED at its end. -/
def rampTick (e : Nat) (s : State) : State :=
  match (s.loop e).ramp with
  | none => s
  | some (a, b, n, k) =>
    let k := k + 1
    let v := a + (b - a) * k / n
    let s := loopOut e (v * 2 ^ 16) s
    if k < n then setLoop e { s.loop e with ramp := some (a, b, n, k) } s
    else
      let s := s |> setLoop e { s.loop e with ramp := none } |> loopState e 6 |> showLoop e
      let h := headOf e
      if e % 4 = 0 && (s.head h).recapture then startFocus h s else s

/-- Whether a run of settled ticks is long enough; the run is counted (R165, R178). -/
def settleTick (e : Nat) (x : Int) (need : Nat) (s : State) : State × Bool :=
  let l := s.loop e
  let run := if (x.natAbs : Int) < fget (LOOP.page e) LOOP.SETTLE_THR s then l.settleRun + 1 else 0
  (setLoop e { l with settleRun := run } s, decide (nz need ≤ run))

/-- The loop hold of a tick (R164). -/
def holdTick (e : Nat) (byH byLane : Bool) (s : State) : State :=
  let p := LOOP.page e
  let l := s.loop e
  let h := headOf e
  let hr := if byH then l.hRun + 1 else 0
  let ir := if byLane then l.invalidRun + 1 else 0
  let was := getLoop e s
  let s := s |> setLoop e { l with hRun := hr, invalidRun := ir }
    |> fset p LOOP.LOOP_STATUS_HOLD_RUN (min 255 (fget p LOOP.LOOP_STATUS_HOLD_RUN s + 1))
  let s := if was = 2 then s |> loopState e 3 |> cnt p LOOP.HOLDS ENG.kCNT_SAT |> showLoop e else s
  if fget p LOOP.LOSS_CFG_DEF_HOLD_MAX s < hr then s |> lostFeedbackTrip h 5 (srcEng e) |> lostRamps h
  else if fget p LOOP.LOSS_CFG_HOLD_MAX s < ir then s |> lostFeedbackTrip h 1 (srcEng e) |> lostRamps h
  else s

/-- A hold ends (R164). -/
def holdEnd (e : Nat) (s : State) : State :=
  let s := s |> setLoop e { s.loop e with hRun := 0, invalidRun := 0 } |> fset (LOOP.page e) LOOP.LOOP_STATUS_HOLD_RUN 0
  if getLoop e s = 3 then s |> loopState e 2 |> showLoop e else s

/-- Focus closes (R165 step 3): i is the coil command of the tick, the section states are cleared, the sweep stops. -/
def focusClose (h : Nat) (s : State) : State :=
  let e := 4 * h
  s |> setLoop e { (s.loop e) with i := (s.loop e).u, v1 := 0, v2 := 0, w1a := 0, w1b := 0, w2a := 0, w2b := 0,
                                   settleRun := 0, lossRun := 0, fresh := true }
    |> loopState e 2 |> cnt (LOOP.page e) LOOP.ACQ_CNT ENG.kCNT_SAT |> showLoop e |> pgStop (lensCh h)

/-- A focus loop in capture (R165 steps 1 to 3): a layer is counted where FE changes sign within ±CAP_WIN at an FS of
CAP_FS_THR or more. -/
def focusCapture (h : Nat) (s : State) : State :=
  let e := 4 * h
  let p := FOC.page h
  let l := s.loop e
  let fe := sigFE h s
  let flip := (l.last < 0 && 0 ≤ fe) || (0 < l.last && fe ≤ 0)
  let inWin := decide ((fe.natAbs : Int) ≤ fget p FOC.CAP_WIN s)
  let s := setLoop e { l with last := fe } s
  let u := q31 (fgetI p FOC.RETRACT_POS s * 2 ^ 16 + mul31 (coef e 18 s) (accPort (lensCh h) s))
  let s := loopOut e u s
  if flip && inWin && decide ((fget p FOC.CAP_FS_THR s : Int) ≤ sigFS h s) then
    let n := fget p FOC.LAYERS_SEEN s + 1
    let top := variantLayers (fget FMT.page FMT.MEDIA_VARIANT s)
    let layer := if top = 0 then fget p FOC.FOC_CFG_TARGET_LAYER s else top - n
    let s := s |> fset p FOC.LAYERS_SEEN n |> fsetI p (FOC.LAYER_Z.ix layer) (s.pg (lensCh h)).pos.floor
    if layer = fget p FOC.FOC_CFG_TARGET_LAYER s then focusClose h s else s
  else s

/-- Focus settled after capture: event 0x2000 (R165 step 4). -/
def focusSettled (h : Nat) (s : State) : State :=
  let e := 4 * h
  if (s.loop e).fresh then
    s |> setLoop e { s.loop e with fresh := false }
      |> emit 0x2000 (srcEng e) h (fget (FOC.page h) FOC.FOC_CFG_TARGET_LAYER s) (s.head h).sweeps
  else s

/-- A closed focus loop's tests: settled, or lost (R165, R167). -/
def focusTests (h : Nat) (s : State) : State :=
  let e := 4 * h
  let p := LOOP.page e
  let (s, ok) := settleTick e (sigFE h s) (fget p LOOP.LOSS_CFG_SETTLE_N s) s
  let s := if ok && !fon p LOOP.LOOP_STATUS_SETTLED s then s |> fset p LOOP.LOOP_STATUS_SETTLED 1 |> showLoop e |> focusSettled h else s
  let byFs := decide (sigFS h s < fget p LOOP.LOSS_THR s)
  let byFe := decide ((fget (FOC.page h) FOC.FE_LOSS s : Int) < (sigFE h s).natAbs)
  let run := if byFs || byFe then (s.loop e).lossRun + 1 else 0
  let s := setLoop e { s.loop e with lossRun := run } s
  if nz (fget p LOOP.LOSS_CFG_LOSS_N s) ≤ run then focusLost h (if byFs then 1 else 2) s else s

/-- Sign changes of TE (R168): CROSS_FREQ over the last 64 ticks, and whether this tick has one. -/
def crossTick (h : Nat) (s : State) : State × Bool × Nat :=
  let e := 4 * h + 1
  let l := s.loop e
  let te := sigTE h s
  let flip := (l.last < 0 && 0 ≤ te) || (0 < l.last && te ≤ 0)
  let bits := (2 * l.crossings + b2n flip) % 2 ^ 64
  let n := ((List.range 64).filter (fun i => bits.testBit i)).length
  (s |> setLoop e { l with last := te, since := if flip then 0 else l.since + 1, crossings := bits }
    |> fset (TRK.page h) TRK.CROSS_FREQ (n * 400 / 64), flip, l.since + 1)

/-- Tracking closes (R168). -/
def trackingClose (h : Nat) (s : State) : State :=
  let e := 4 * h + 1
  s |> setLoop e { (s.loop e) with i := 0, v1 := 0, v2 := 0, w1a := 0, w1b := 0, w2a := 0, w2b := 0, settleRun := 0, lossRun := 0 }
    |> loopState e 2 |> cnt (LOOP.page e) LOOP.ACQ_CNT ENG.kCNT_SAT |> showLoop e

/-- A closed tracking loop's tests: settled, or lost (R170, R178). -/
def trackingTests (h : Nat) (s : State) : State :=
  let e := 4 * h + 1
  let p := LOOP.page e
  let te := sigTE h s
  let (s, ok) := settleTick e te (fget p LOOP.LOSS_CFG_SETTLE_N s) s
  let s := if ok && !fon p LOOP.LOOP_STATUS_SETTLED s then s |> fset p LOOP.LOOP_STATUS_SETTLED 1 |> showLoop e else s
  let run := if (fget p LOOP.LOSS_THR s : Int) < te.natAbs then (s.loop e).lossRun + 1 else 0
  let s := setLoop e { s.loop e with lossRun := run } s
  if nz (fget p LOOP.LOSS_CFG_LOSS_N s) ≤ run then trackingLost h te.natAbs s else s

/-- The polarity of TE for the tick (R169). -/
def polarity (h : Nat) (s : State) : State :=
  let m := fget (TRK.page h) TRK.TRK_CFG_POL_MODE s
  fsetB (TRK.page h) TRK.TRK_CFG_POL_ACT (m = 1 || (m = 2 && fon (CHC.page h) CHC.STATUS_LG s)) s

/-- A loop in a jump: u = lim(u_hold + FF_GAIN × a_pg, U_LIM), its states frozen (R178 step 1, R180 step 1). -/
def jumpOut (e : Nat) (s : State) : State :=
  loopOut e (limBy (q31 ((s.loop e).held + mul31 (coef e 18 s) (loopApg e s))) (coef e 17 s)) s

/-! ## Gap jumps (R177 to R179) -/

/-- A fine seek to the group of a track that follows failed jumps (R179). -/
def ownSeek (h track : Nat) (s : State) : State :=
  setHead h { s.head h with seek := some { group := groupOf track, layer := posLayer h s, step := .confirm, start := s.time, own := true }, align := none } s

/-- A gap jump fails (R179). -/
def gapFail (h : Nat) (s : State) : State :=
  let hd := s.head h
  match hd.jump with
  | none => s
  | some d =>
    let fails := hd.gjFails + 1
    let s := s |> headCnt MC.GJ_FAIL h |> raiseMc (MC.mGJ_FAIL_L + h)
      |> emit 0x2010 (srcEng 11) h (ofSigned 32 d) (posTrack h s)
      |> suspend h 5 (fget (CHC.page h) CHC.CSLOT s)
      |> setHead h { hd with jump := none, discard := true, noWrite := true, gjFails := fails, align := some hd.want }
      |> (fun t => if getLoop (4 * h + 1) t = 4 then t |> loopState (4 * h + 1) 2 |> showLoop (4 * h + 1) else t)
      |> mcState h 8
    if nz (fget MC.page MC.GJ_CFG_FAIL_MAX s) ≤ fails then
      s |> setHead h { s.head h with gjFails := 0 } |> ownSeek h hd.want
    else s

/-- GAP_JUMP_FAIL (R179). -/
def execGapJumpFail (head : Head) (s : State) : Res := .next (gapFail head.n s)

/-- A seek ends at alignment (R182). -/
def seekDone (h : Nat) (s : State) : State :=
  match (s.head h).seek with
  | none => s
  | some k =>
    let tenth := min 65535 ((s.time - k.start) / 2500)
    let v := fget MC.page MC.SEEK_MAX s
    let x := v / 2 ^ (16 * h) % 2 ^ 16
    let s := setHead h { s.head h with seek := none, align := none } s
    if k.own then s
    else
      s |> headCnt MC.SEEK_CNT h |> raiseMc (MC.mSEEK_DONE_L + h)
        |> (if x < tenth then fset MC.page MC.SEEK_MAX (v - x * 2 ^ (16 * h) + tenth * 2 ^ (16 * h)) else id)

/-- A seek fails (R182): event 0x2012 and SEEK_FAIL. -/
def seekFail (h : Nat) (s : State) : State :=
  match (s.head h).seek with
  | none => s
  | some k =>
    s |> setHead h { s.head h with seek := none, align := none } |> headCnt MC.SEEK_FAIL h
      |> raiseMc (MC.mSEEK_FAIL_L + h) |> emit 0x2012 (srcEng 11) h k.group k.layer |> onTrack h

/-- On track after a gap jump (R178 step 5). -/
def gapOk (h : Nat) (s : State) : State :=
  let hd := s.head h
  let aligned : Bool := match hd.seek with | some k => decide (k.step = .align) | none => false
  let s := s |> setHead h { hd with jump := none, gjFails := 0, align := none, ljumpPend := none }
    |> cnt MC.page (if h = 0 then MC.GJ_CNT_L else MC.GJ_CNT_U) ENG.kCNT_SAT |> pmc 0x0B h 1 |> onTrack h
  if aligned then seekDone h s else s

/-- A tracking loop's tick in a gap jump (R178 steps 2 to 5): H during the move fails it (R179). -/
def gapJumpTick (h : Nat) (s : State) : State :=
  let e := 4 * h + 1
  if servoH h s || (s.head h).hSeen then gapFail h s
  else if pgMoving (lensCh h) s then jumpOut e s
  else s |> loopState e 2 |> setLoop e { s.loop e with settleRun := 0, lossRun := 0 } |> showLoop e |> loopFilter e (loopError e s)

/-- After the move: SETTLE_N ticks within SETTLE_THR put the head on track (R178 step 5). -/
def gapSettle (h : Nat) (s : State) : State :=
  if (s.head h).jump.isSome && getLoop (4 * h + 1) s = 2 then
    let (s, ok) := settleTick (4 * h + 1) (sigTE h s) (fget MC.page MC.GJ_CFG_SETTLE_N s) s
    if ok then gapOk h s else s
  else s

/-! ## Layer jumps (R180, R181) -/

/-- A layer jump starts (R180 step 1). -/
def startLayerJump (h target : Nat) (tries : Nat) (s : State) : State :=
  let e := 4 * h
  let src := posLayer h s
  let z := fun l => fgetI (FOC.page h) (FOC.LAYER_Z.ix l) s
  let c := lensCh h
  let hd := s.head h
  s |> (if tries = 0 then saveSets h src else id) |> (fun t => setCommon h { t.common h with eqLoad := some target } t)
    |> setHead h { hd with ljump := some { source := src, target := target, tries := tries }, ljumpPend := none,
                           saRamp := some (hd.sa, fgetI (TLT.page h) (TLT.SA_PRESET.ix target) s,
                             nz (fget (TLT.page h) TLT.TS_CFG_SA_RAMP_US s * 2 / 5), 0), presetLayer := target }
    |> fset (TLT.page h) TLT.SA_INTEG 0
    |> setLoop e { s.loop e with held := (s.loop e).u } |> loopState e 4 |> fset (LOOP.page e) LOOP.LOOP_STATUS_SETTLED 0
    |> setLoop (e + 1) { s.loop (e + 1) with held := (s.loop (e + 1)).u } |> loopState (e + 1) 4
    |> fset (LOOP.page (e + 1)) LOOP.LOOP_STATUS_SETTLED 0 |> posInvalid h
    |> fset64 MOT.page (MOT.V_MAX_LO.ix c) (MOT.V_MAX_HI.ix c) (fget MC.page MC.LJ_V s * 1000)
    |> fset64 MOT.page (MOT.A_MAX_LO.ix c) (MOT.A_MAX_HI.ix c) (fget MC.page MC.LJ_A s * 1000000)
    |> fset64 MOT.page (MOT.J_MAX_LO.ix c) (MOT.J_MAX_HI.ix c) (fget MC.page MC.LJ_J s * 1000000000)
    |> moveTo c ((s.pg c).pos + (z target - z src)) |> mcState h 5 |> showLoop e |> showLoop (e + 1)

/-- A layer jump asked for: during a gap jump it starts at the first tick after (R180). -/
def askLayerJump (h target : Nat) (s : State) : State :=
  let hd := s.head h
  if hd.ljump.isSome then s
  else if hd.jump.isSome then setHead h { hd with ljumpPend := some target } s
  else startLayerJump h target 0 s

/-- The jumps of one head fail for good: its seek, if any, fails (R181). -/
def layerJumpOver (h target : Nat) (s : State) : State :=
  let s := setHead h { s.head h with ljump := none } s
  match (s.head h).seek with
  | some _ => seekFail h s
  | none => s |> raiseMc (MC.mSEEK_FAIL_L + h) |> headCnt MC.SEEK_FAIL h
      |> emit 0x2012 (srcEng 11) h (groupOf (posTrack h s)) target |> onTrack h

/-- A layer jump fails at step 3 or at step 7 (R181). -/
def layerJumpFail (h step layer : Nat) (s : State) : State :=
  match (s.head h).ljump with
  | none => s
  | some j =>
    let s := s |> raiseMc (MC.mLJ_FAIL_L + h) |> emit 0x2011 (srcEng 11) h j.target step
    let again := decide (j.tries < fget MC.page MC.LJ_TRIES s)
    if step = 7 then
      let s := setPos h (fget MC.page (posFld h) s - posLayer h s * 2 ^ 18 + layer % 8 * 2 ^ 18) s
      if again then startLayerJump h j.target (j.tries + 1) s else layerJumpOver h j.target s
    else
      let s := s |> fset (FOC.page h) FOC.FOC_CFG_TARGET_LAYER j.target
      let s := focusLost h 3 s
      if again then setHead h { s.head h with ljump := some { j with tries := j.tries + 1, closed := true } } s
      else layerJumpOver h j.target s

/-- The motion unit of a head is free for a layer jump: no jump in progress. -/
def execLayerJump (head : Head) (target : Fin 8) (s : State) : Res := .next (askLayerJump head.n target s)

/-- LAYER_JUMP_FAIL (R181): step 3 without `confirm`, else step 7 with the confirmed layer. -/
def execLayerJumpFail (head : Head) (confirm : Bool) (layer : Fin 8) (s : State) : Res :=
  .next (layerJumpFail head.n (if confirm then 7 else 3) layer s)

/-- Focus in a layer jump (R180 steps 1 to 3): recloses at the first tick on the layer after the move. -/
def layerFocusTick (h : Nat) (s : State) : State :=
  let e := 4 * h
  let at' := decide ((fget (FOC.page h) FOC.CAP_FS_THR s : Int) ≤ sigFS h s) &&
    decide (((sigFE h s).natAbs : Int) ≤ fget (FOC.page h) FOC.CAP_WIN s)
  match (s.head h).ljump with
  | some j =>
    if !pgMoving (lensCh h) s && at' then
      s |> loopState e 2 |> setLoop e { s.loop e with settleRun := 0, lossRun := 0 }
        |> setHead h { s.head h with ljump := some { j with closed := true } } |> showLoop e |> loopFilter e (loopError e s)
    else jumpOut e s
  | none => jumpOut e s

/-- Steps 5 and 6 of a layer jump: tracking is captured when focus has settled and the SA ramp is complete. -/
def layerProgress (h : Nat) (s : State) : State :=
  let e := 4 * h
  match (s.head h).ljump with
  | none => s
  | some j =>
    if !j.closed || j.arrived then s
    else if getLoop (e + 1) s = 4 || getLoop (e + 1) s = 6 then
      if fon (LOOP.page e) LOOP.LOOP_STATUS_SETTLED s && (s.head h).saRamp.isNone then startTracking h s else s
    else if getLoop (e + 1) s = 2 && fon (LOOP.page (e + 1)) LOOP.LOOP_STATUS_SETTLED s then
      s |> setHead h { s.head h with ljump := some { j with arrived := true } } |> headCnt MC.LJ_CNT h
    else s

/-! ## Tilt and spherical aberration (R171, R172) -/

/-- The zone of a track (R171). -/
def tiltZone (track : Nat) : Nat := min 15 (track / 13312)

/-- A coil command of SE2 (SE6) outside its loop. -/
def tiltCoil (h c : Nat) (v : Int) (s : State) : State :=
  let v := clampI (-32768) 32767 v
  s |> setPort (4 * h + 2) (0x80 + c) (BitVec.ofInt 32 (v * 2 ^ 16)) |> coilCommand h c v false false

/-- The SA and tangential tilt coils of a tick (R171, R172, R174). -/
def tiltCoils (h : Nat) (s : State) : State :=
  let p := TLT.page h
  let hd := s.head h
  let lane := laneValid h 1 s && !laneStale h 1 s
  let i0 := fgetI p TLT.SA_INTEG s
  let i := if fon p TLT.TS_CFG_SA_LOOP_EN s && lane && !hd.hSeen && hd.saRamp.isNone then
      limBy (q31 (i0 + mul31 (fgetI p TLT.SA_KI s) (q31 (sigSAE h s - fgetI p TLT.SA_OFS s)))) (fgetI p TLT.SA_I_LIM s)
    else i0
  let (base, ramp) := match hd.saRamp with
    | some (a, b, n, k) => (a + (b - a) * (k + 1) / n, if k + 1 < n then some (a, b, n, k + 1) else none)
    | none => (hd.preset, none)
  let preset := match hd.saRamp with
    | some (_, b, n, k) => if k + 1 < n then hd.preset else b
    | none => hd.preset
  let v := base + i / 2 ^ 16
  s |> fsetI p TLT.SA_INTEG i |> setHead h { hd with saRamp := ramp, preset := preset, sa := v }
    |> tiltCoil h 3 (if fon p TLT.TS_CFG_TTILT_EN s then hd.ttilt else 0) |> tiltCoil h 4 v

/-- Table entries take effect at the gap as one step (R172). -/
def tiltGap (h : Nat) (s : State) : State :=
  let p := TLT.page h
  let z := if posValid h s then tiltZone (posTrack h s) else fget p TLT.ZONE s
  let l := if posValid h s then posLayer h s else (s.head h).presetLayer
  s |> fset p TLT.ZONE z
    |> setHead h { s.head h with ttilt := fgetI p (TLT.TTILT.ix z) s, rtofs := fgetI p (TLT.RTOFS.ix z) s,
                                 preset := fgetI p (TLT.SA_PRESET.ix l) s, presetLayer := l }

/-! ## A loop engine's tick (R161, R163, R164, R174) -/

/-- The conditions of R174 that take the lost-feedback path at the next tick, with their causes. -/
def lossCause (h : Nat) (s : State) : Option Nat :=
  if headDown h s then some 2
  else if flagPF (4 * h) s || flagPF (4 * h + 1) s || flagPF (4 * h + 2) s then some 3
  else if (s.link h).fltPin then some 4 else none

/-- What a loop does in a tick that is neither held nor lost. -/
def loopRun (e : Nat) (s : State) : State :=
  let h := headOf e
  let st := getLoop e s
  if e % 4 = 0 then
    if st = 1 then focusCapture h s
    else if st = 4 then layerFocusTick h s
    else if st = 2 then s |> loopFilter e (loopError e s) |> focusTests h |> layerProgress h
    else rampTick e s
  else if e % 4 = 1 then
    let (s, flip, since) := crossTick h s
    if st = 1 then
      if flip && decide (400 ≤ since * nz (fget (TRK.page h) TRK.TRK_CFG_PULL_FREQ s)) then trackingClose h s else s
    else if st = 4 then
      if (s.head h).jump.isSome then gapJumpTick h s else loopOut e (s.loop e).held s
    else if st = 2 then s |> loopFilter e (loopError e s) |> trackingTests h |> gapSettle h
    else rampTick e s
  else
    let s := if st = 0 then s |> loopState e 2 |> showLoop e else s
    if getLoop e s = 2 then
      let s := loopFilter e (loopError e s) s
      let (s, ok) := settleTick e (sigRT h s) (fget (LOOP.page e) LOOP.LOSS_CFG_SETTLE_N s) s
      fsetB (LOOP.page e) LOOP.LOOP_STATUS_SETTLED ok s
    else rampTick e s

/-- A tick of SE0 to SE2 or SE4 to SE6. -/
def loopTick (e : Nat) (s : State) : State :=
  let h := headOf e
  let s := if e % 4 = 1 then s |> polarity h |> fsetI (TRK.page h) TRK.LS_LAST (sigLS h s) else s
  let s := if e % 4 = 0 then fsetI (FOC.page h) FOC.FS_LAST (sigFS h s) s else s
  let st := getLoop e s
  let s := if st = 0 || st = 5 || st = 6 then swapBank e s else s
  if !fon (LOOP.page e) LOOP.LOOP_CTRL_EN s && (st = 1 || st = 2 || st = 3 || st = 4) then
    s |> loopState e 0 |> fset (LOOP.page e) LOOP.LOOP_STATUS_SETTLED 0 |> showLoop e
  else
    match lossCause h s with
    | some c =>
      if st = 1 || st = 2 || st = 3 || st = 4 then s |> lostFeedbackTrip h c (srcEng e) |> lostRamps h
      else rampTick e s
    | none =>
      let byH := servoH h s || (s.head h).hSeen
      let byLane := !laneValid h (loopLane e) s || laneStale h (loopLane e) s
      let held := (st = 2 || st = 3 || (st = 4 && !(e % 4 = 1 && (s.head h).jump.isSome))) && (byH || byLane)
      let s := if held then holdTick e byH byLane s
        else if st = 0 && !fon (LOOP.page e) LOOP.LOOP_CTRL_EN s then s
        else s |> holdEnd e |> loopRun e
      if e % 4 = 2 then tiltCoils h s else s

/-! ## Seeks (R182, R183) -/

/-- The first D0 track of a group. -/
def groupTrack (g : Nat) : Nat := 8 * g

/-- d of R177 from D0 track `t` to `want`, along the layer's path. -/
def gapDistance (layer t want : Nat) : Int := pathSign layer * ((want : Int) - t) - 1

/-- The radius of a seek's target, µm (R37, R183). -/
def targetRadius (group : Nat) (s : State) : Rat :=
  if fon FMT.page FMT.STATUS_LEGACY s then 24000 + group * (128 / 100 : Rat) else 24000 + groupTrack group * (16 / 100 : Rat)

/-- A coarse seek (R182 step 3): tracking opens, its coil ramps to 0 in 0.5 ms and the sled moves. -/
def coarseMove (h : Nat) (k : Seek) (s : State) : State :=
  let ofs : Rat := (fgetI (SLD.page h) SLD.OFS s : Rat) / 256
  s |> setHead h { s.head h with seek := some { k with step := .coarse, coarse := k.coarse + 1 } }
    |> loopState (4 * h + 1) 6 |> fset (LOOP.page (4 * h + 1)) LOOP.LOOP_STATUS_SETTLED 0 |> dropTracking h 200 |> posInvalid h
    |> mcState h 6 |> moveTo (sledCh h) (targetRadius k.group s - ofs)

/-- A fine seek (R182 step 4): the lens moves by the remaining distance, then tracking is recaptured. -/
def fineMove (h : Nat) (k : Seek) (tracks : Int) (s : State) : State :=
  s |> setHead h { s.head h with seek := some { k with step := .fine, fine := k.fine + 1 } }
    |> loopState (4 * h + 1) 4 |> setLoop (4 * h + 1) { s.loop (4 * h + 1) with held := (s.loop (4 * h + 1)).u }
    |> fset (LOOP.page (4 * h + 1)) LOOP.LOOP_STATUS_SETTLED 0 |> posInvalid h |> mcState h 7 |> lensMove h (tracks * 160)

/-- With the address confirmed, the next step of a seek (R182). No coarse seek starts while a 12 V warning stands (R542). -/
def seekDecide (h : Nat) (s : State) : State :=
  match (s.head h).seek with
  | none => s
  | some k =>
    if k.step ≠ .confirm then s
    else
      let l := posLayer h s
      let dist := (groupTrack k.group : Int) - posTrack h s
      if l ≠ k.layer then
        s |> setHead h { s.head h with seek := some { k with step := .layer } } |> askLayerJump h k.layer
      else if fget MC.page MC.SEEK_CFG_FINE_MAX s < dist.natAbs then
        if fon PWR.page PWR.STATUS_VMOT_WARN s then s
        else if k.coarse < fget MC.page MC.SEEK_CFG_COARSE_TRIES s then coarseMove h k s else seekFail h s
      else if fon FMT.page FMT.STATUS_LEGACY s then s |> seekDone h |> onTrack h
      else if 7 < (gapDistance l (posTrack h s) (groupTrack k.group)).natAbs then
        if k.fine < fget MC.page MC.SEEK_CFG_FINE_TRIES s then fineMove h k dist s else seekFail h s
      else
        s |> setHead h { s.head h with seek := some { k with step := .align }, align := some (groupTrack k.group) } |> mcState h 8

/-- SE11's tick: moves that have ended lead to recapture (R182), and a waiting layer jump starts (R180). -/
def motionTick (h : Nat) (s : State) : State :=
  let s := match (s.head h).ljumpPend with
    | some t => if (s.head h).jump.isNone && (s.head h).ljump.isNone then startLayerJump h t 0 s else s
    | none => s
  match (s.head h).seek with
  | none => s
  | some k =>
    if k.step = .coarse && !pgMoving (sledCh h) s then
      s |> setHead h { s.head h with seek := some { k with step := .recapture } } |> trackingAcquire h
    else if k.step = .fine && !pgMoving (lensCh h) s then
      s |> setHead h { s.head h with seek := some { k with step := .recapture } } |> startTracking h
    else if k.step = .recapture && getLoop (4 * h + 1) s = 2 && fon (LOOP.page (4 * h + 1)) LOOP.LOOP_STATUS_SETTLED s then
      setHead h { s.head h with seek := some { k with step := .confirm } } s
    else s

/-- Last group of the mounted disc (R183): 26,623 on DLA; on a legacy disc the one at the data zone's edge, 58 mm. -/
def discLastGroup (s : State) : Nat := if fon FMT.page FMT.STATUS_LEGACY s then 26563 else lastGroup

/-- The group and layer SEEK_L or SEEK_U holds. -/
def seekTarget (h : Nat) (s : State) : Nat × Nat :=
  (fget MC.page (if h = 0 then MC.SEEK_L_GROUP else MC.SEEK_U_GROUP) s,
    fget MC.page (if h = 0 then MC.SEEK_L_LAYER else MC.SEEK_U_LAYER) s)

/-- A seek asked for by GO (R182, R183). -/
def seekGo (h : Nat) (s : State) : State :=
  let hd := s.head h
  let (g, l) := seekTarget h s
  let busy := hd.seek.isSome || hd.ljump.isSome || getMcState h s = 9
  let bad := discLastGroup s < g || fget FMT.page FMT.MEDIA_LAYERS s ≤ l || fget FMT.page FMT.STATUS_STATE s ≠ 2
  if busy || bad then s |> raiseMc (MC.mSEEK_REJ_L + h) |> emit 0x2012 (srcEng 11) h g l
  else
    let s := setHead h { hd with seek := some { group := g, layer := l, step := .confirm, start := s.time } } s
    if posLayer h s ≠ l then
      s |> (fun t => setHead h { t.head h with seek := some { group := g, layer := l, step := .layer, start := t.time } } t)
        |> askLayerJump h l
    else if posValid h s then seekDecide h s
    else s

/-- SEEK (R182, R183). -/
def execSeek (head : Head) (s : State) : Res := .next (seekGo head.n s)

/-- A jump or seek of SE11's is treated as failed when another master drives its channel (R183). -/
def takenFrom (h : Nat) (s : State) : State :=
  let hd := s.head h
  let s := if hd.jump.isSome then gapFail h s else s
  let s := if hd.ljump.isSome then setHead h { s.head h with ljump := none } s else s
  seekFail h s

/-! ## Addresses confirmed (R166, R180 step 7, R182) -/

/-- A position confirmed under R48 on a head. -/
def addressConfirmed (h : Nat) (s : State) : State :=
  let l := posLayer h s
  let target := fget (FOC.page h) FOC.FOC_CFG_TARGET_LAYER s
  match (s.head h).ljump with
  | some j =>
    if !j.arrived then s
    else if l = j.target then
      let s := s |> setHead h { s.head h with ljump := none } |> fset (FOC.page h) FOC.FOC_CFG_TARGET_LAYER j.target |> onTrack h
      match (s.head h).seek with
      | some k => s |> setHead h { s.head h with seek := some { k with step := .confirm } } |> seekDecide h
      | none => s
    else layerJumpFail h 7 l s
  | none =>
    match (s.head h).seek with
    | some _ => seekDecide h s
    | none =>
      if l ≠ target && getLoop (4 * h) s = 2 then askLayerJump h target s
      else if getMcState h s = 1 then onTrack h s
      else s

/-! ## Re-acquisition (R175 steps 4 and 5) -/

/-- The conditions of step 4. -/
def canReacquire (h : Nat) (s : State) : Bool :=
  !headDown h s && 40 ≤ (s.head h).goodTicks && !(s.link h).fltSafe && !(s.link h).fltPin

/-- Step 4: the monitors are rearmed and focus capture starts at the last TARGET_LAYER. -/
def reacquire (h : Nat) (s : State) : State :=
  s |> rearm (4 * h) |> rearm (4 * h + 1) |> rearm (4 * h + 2)
    |> setHead h { s.head h with reacquiring := true, sweeps := 1 } |> startFocus h

/-- RE_ACQUISITION (R175). -/
def execReAcquisition (head : Head) (confirmed : Bool) (s : State) : Res :=
  let h := head.n
  let hd := s.head h
  if !hd.reacquiring then .next (if getMcState h s = 9 && canReacquire h s then reacquire h s else s)
  else
    let n := hd.attempts + 1
    if confirmed then
      .next (s |> setHead h { hd with reacquiring := false, attempts := n } |> onTrack h
        |> emit 0x2005 (srcEng 11) h n (posLayer h s))
    else if n < 3 then .next (s |> setHead h { hd with attempts := n, reacquiring := false } |> reacquire h)
    else
      .next (s |> setHead h { hd with reacquiring := false, attempts := n, out := true } |> mcState h 10
        |> emit 0x2006 (srcEng 11) h n hd.lastCause)

/-! ## The jump gap start (R176 to R178) -/

/-- The group of a head that SQUALL reads again (R304). -/
def squallGroup (h : Nat) (s : State) : Option Nat :=
  ((s.dec.held.filter (fun kv => psaSide kv.1 == h)).head?).map (fun kv => slotGroup (psaLayer kv.1) (psaSlot kv.1))

/-- SQUALL brings the head back to the group it reads again: a holding jump there, or else alignment (R304). -/
def squallAlign (h : Nat) (s : State) : State :=
  match squallGroup h s with
  | some g =>
    if (s.head h).align.isNone && (s.head h).seek.isNone && groupOf (posTrack h s) ≠ g then
      setHead h { s.head h with align := some (groupTrack g) } s
    else s
  | none => s

/-- The gap jump of a head's gap: d and its start (R177, R178). -/
def gapJump (h : Nat) (s : State) : State :=
  let hd := s.head h
  let e := 4 * h + 1
  let l := posLayer h s
  let t := posTrack h s
  let aligning := hd.align.isSome
  let seekBusy : Bool := match hd.seek with | some k => decide (k.step ≠ .align) | none => false
  if hd.ljump.isSome || hd.jump.isSome || seekBusy || getLoop e s ≠ 2 || !posValid h s ||
      fon FMT.page FMT.STATUS_LEGACY s then s
  else
    let d : Int := match hd.align with
      | some w => gapDistance l t w
      | none => if follows h s && (squallGroup h s).isNone then 7 else -1
    if 7 < d.natAbs then
      if aligning then ownSeek h (hd.align.getD 0) s else s
    else
      let want := ((t : Int) + pathSign l * (d + 1)).toNat
      s |> setHead h { hd with jump := some d, want := want }
        |> setLoop e { s.loop e with held := (s.loop e).u, settleRun := 0 } |> loopState e 4 |> mcState h 4 |> showLoop e
        |> lensMove h (pathSign l * d * 160)

/-- The frames of the revolution are no longer discarded, and writing is allowed again (R179). -/
def gapClear (h : Nat) (s : State) : State := setHead h { s.head h with discard := false, noWrite := false } s

/-- The servo side of a head's jump gap start. -/
def servoGap (h : Nat) (s : State) : State :=
  s |> swapBank (4 * h) |> swapBank (4 * h + 1) |> swapBank (4 * h + 2) |> tiltGap h |> gapClear h |> squallAlign h |> gapJump h

end Sys2Proof.Machine
end

