-- ==== Sys2Proof/Machine/Sled.lean ====
section
/-!
DEFINITION. The sleds: position, follow loop, currents, stalls, hard stops, homing and limit switches (R222 to R231).
Positions are in 1/256 µm and velocities in 1/256 µm a tick; 1 µm/s is 256/400,000 of that.
-/
namespace Sys2Proof.Machine

/-- 1 µm/s in 1/256 µm a tick. -/
def umPerS : Rat := 256 / 400000

/-- STATE of a sled (R235): 0 OFF, 1 HOLD, 2 MOVING, 3 FOLLOW, 4 HOMING, 5 STALLED, 6 TRIPPED, 7 FAULT. -/
def getSledSt (h : Nat) (s : State) : Nat := fget (SLD.page h) SLD.STATUS_STATE s
/-- STATE of a sled set. -/
def sledSt (h v : Nat) (s : State) : State := fset (SLD.page h) SLD.STATUS_STATE v s
/-- The position register in µm. -/
def sledUm (h : Nat) (s : State) : Nat := fget (SLD.page h) SLD.POS s / 256
/-- The profile channel's position, 1/256 µm. -/
def pgSled (h : Nat) (s : State) : Rat := (s.pg (sledCh h)).pos * 256

/-- The motor moves to a position; the bridges follow it (R222). -/
def sledMove (h : Nat) (x : Int) (s : State) : State :=
  if fget (SLD.page h) SLD.POS s = ofSigned 32 x then s
  else s |> fsetI (SLD.page h) SLD.POS x |> send (.sledStep h x)

/-- The microstep nearest a position (R223). -/
def microstep (h : Nat) (x : Rat) (s : State) : Int :=
  let u : Rat := (fget (SLD.page h) SLD.MECH_STEP_LEN s : Rat) / 256
  if u = 0 then x.floor else (((x / u + 1 / 2).floor : Rat) * u).floor

/-- The current in force set; BOOST is shown above I_RUN (R225). -/
def sledCurrent (h i : Nat) (s : State) : State :=
  s |> fset (SLD.page h) SLD.LOAD_I_ACT i
    |> fsetB (SLD.page h) SLD.STATUS_BOOST (decide (fget (SLD.page h) SLD.CUR_CFG_I_RUN s < i))

/-- I_MAX, limited to the OTP coil limit (R225). -/
def sledMax (h : Nat) (s : State) : Nat := min (fget (SLD.page h) SLD.CUR_CFG2_I_MAX s) Config.sledLimit

/-- OFS set so that the channel's position stands for `x` (R227). -/
def rebase (h : Nat) (x : Rat) (s : State) : State :=
  let o := x - pgSled h s
  s |> fsetI (SLD.page h) SLD.OFS o.floor |> setSled h { s.sled h with ofsFrac := o - o.floor, at' := x, vel := 0 }

/-! ## Hard stops and their causes (R226 to R228, R231) -/

/-- A hard stop (R227). -/
def hardStop (h : Nat) (s : State) : State :=
  let d := s.sled h
  let x := fgetI (SLD.page h) SLD.POS s
  let fast := decide (2000 * umPerS < |d.vel|)
  let run := engState (9 + h) s
  s |> setSled h { d with held := some x, vel := 0, homing := .none, at' := x, rest := 0 }
    |> sledCurrent h (fget (SLD.page h) SLD.CUR_CFG_I_HOLD s)
    |> (if fast then fset (SLD.page h) SLD.STATUS_HOMED 0 else id)
    |> (if run = 4 || run = 5 then id else pgStop (sledCh h))

/-- SLED_STOP (R227). -/
def execSledStop (head : Head) (s : State) : Res := .next (hardStop head.n s)

/-- HARD_STOP_REST (R227): the sled follows the channel again, once its engine runs (R228). -/
def execHardStopRest (head : Head) (s : State) : Res :=
  let h := head.n
  match (s.sled h).held with
  | none => .next s
  | some x =>
    if pgMoving (sledCh h) s || engState (9 + h) s = 4 || engState (9 + h) s = 5 then .next s
    else
      let s := s |> setSled h { s.sled h with held := none } |> rebase h x
      .next (if getSledSt h s = 2 || getSledSt h s = 3 then sledSt h 1 s else s)

/-- A stall (R226). -/
def stall (h la : Nat) (s : State) : State :=
  if getSledSt h s = 5 then s
  else
    let i := fget (SLD.page h) SLD.LOAD_I_ACT s
    s |> hardStop h |> sledSt h 5 |> fset (SLD.page h) SLD.STATUS_HOMED 0 |> fault (SLD.page h) 6
      |> raise (SLD.page h) SLD.iSTALL |> cnt (SLD.page h) SLD.STALL_CNT SLD.kCNT_SAT |> emit 0x2202 (srcEng (9 + h)) h la i
      |> (fun t => if (t.head h).seek.isSome then seekFail h t else t)

/-- SLED_STALL (R226). -/
def execSledStall (head : Head) (la : Nat) (s : State) : Res := .next (stall head.n la s)

/-- SLED_COIL_FAULT (R226). -/
def execSledCoilFault (head : Head) (coil : Fin 2) (ma : Nat) (s : State) : Res :=
  let h := head.n
  .next (s |> setSled h { s.sled h with bridges := false, vel := 0, homing := .none } |> sledSt h 7 |> fault (SLD.page h) 5
    |> raise (SLD.page h) SLD.iCOIL_FAULT |> emit 0x2205 (srcEng (9 + h)) h coil ma)

/-- SLED_ENGINE_STOPPED (R228): a hard stop, and a trip of a writing head (R148). -/
def execSledEngineStopped (head : Head) (s : State) : Res := .next (s |> hardStop head.n |> tripIfWriting head.n)

/-- A homing fails (R229). -/
def homingFail (h cause : Nat) (s : State) : State :=
  s |> setSled h { s.sled h with homing := .none, vel := 0 } |> sledSt h 7 |> fault (SLD.page h) cause
    |> raise (SLD.page h) SLD.iHOME_FAIL |> emit 0x2201 (srcEng (9 + h)) h cause (sledUm h s)

/-- HOMING_FAIL (R229): causes 1 to 4. -/
def execHomingFail (head : Head) (cause : Fin 5) (s : State) : Res :=
  .next (if cause = 0 then s else homingFail head.n cause s)

/-- A debounced assertion of a switch: homing's cause 3, or R231. -/
def limitTrip (h : Nat) (outer : Bool) (s : State) : State :=
  let p := SLD.page h
  let d := s.sled h
  let s := fset p (if outer then SLD.STATUS_OUTER_SW else SLD.STATUS_HOME_SW) 1 s
  if d.homing ≠ .none then (if outer then homingFail h 3 s else s)
  else if (if outer then decide (d.vel < 0) else decide (0 < d.vel)) then s
  else
    s |> hardStop h |> sledSt h 6 |> fset p SLD.STATUS_HOMED 0 |> fault p 7 |> raise p SLD.iLIMIT_TRIP
      |> cnt p SLD.TRIP_CNT SLD.kCNT_SAT |> emit 0x2203 (srcEng (9 + h)) h (b2n outer) (sledUm h s) |> tripIfWriting h

/-- LIMIT_TRIP (R231). -/
def execLimitTrip (head : Head) (outer : Bool) (s : State) : Res := .next (limitTrip head.n outer s)

/-- SWITCH_GLITCH (R230): a raw assertion and its release are two raw edges. -/
def execSwitchGlitch (head : Head) (s : State) : Res :=
  let h := head.n
  .next (s |> cnt (SLD.page h) SLD.GLITCH_CNT SLD.kCNT_SAT |> sticky (SLD.page h) SLD.kGLITCH
    |> (if (s.sled h).homing = .approach then setSled h { s.sled h with edges := (s.sled h).edges + 2 } else id))

/-! ## Homing (R229, R230) -/

/-- A step of homing begins. -/
def homeStep (h : Nat) (k : HomeStep) (goal : Option Rat) (s : State) : State :=
  setSled h { s.sled h with homing := k, stepFrom := (s.sled h).at', goal := goal } s

/-- Homing starts, or starts again; while a 12 V warning stands it waits (R542). -/
def homeStart (h : Nat) (s : State) : State :=
  let p := SLD.page h
  if !fon p SLD.CTRL_EN s then s
  else if fon PWR.page PWR.STATUS_VMOT_WARN s then setSled h { s.sled h with homeHeld := true } s
  else
    let x := fgetI p SLD.POS s
    let s := s |> setSled h { s.sled h with held := none, at' := x, bridges := true, edges := 0, soft := false }
      |> sledSt h 4 |> sledCurrent h (fget p SLD.CUR_CFG_I_RUN s)
    homeStep h (if fon p SLD.STATUS_HOME_SW s then .release else .search) none s

/-- HOME (R229). -/
def execHome (head : Head) (s : State) : Res := .next (homeStart head.n s)

/-- Where the sled comes to rest from its present velocity at 200,000 µm/s², 8/25,000 of 1/256 µm a tick². -/
def restPoint (d : SledSt) : Rat := d.at' + d.vel * |d.vel| / (2 * (8 / 25000))

/-- The latch of step 4: the position at the raw edge, DEB_US before the debounced one (R229). -/
def homeLatch (h : Nat) (s : State) : State :=
  let p := SLD.page h
  let d := s.sled h
  let lat := d.at' - d.vel * ((nz (fget p SLD.SW_CFG_DEB_US s) : Rat) * (4 / 10))
  let n := d.edges + 1
  let s := s |> setSled h { d with lat := lat, edges := n } |> fset p SLD.HOME_LAT (ofSigned 32 lat.floor)
    |> fset p SLD.CHATTER_LAST (min 255 n) |> homeStep h .rebase none
  if fget p SLD.SW_CFG_CHATTER_MAX s < n then
    s |> raise p SLD.iCHATTER |> emit 0x2204 (srcEng (9 + h)) h n (fget p SLD.SW_CFG_CHATTER_MAX s)
  else s

/-- HOME_SWITCH_EDGE (R229, R230). -/
def execHomeSwitchEdge (head : Head) (asserted : Bool) (s : State) : Res :=
  let h := head.n
  let p := SLD.page h
  let d := s.sled h
  let s := fsetB p SLD.STATUS_HOME_SW asserted s
  let back : Rat := (fget p SLD.HOME_CFG2_BACKOFF s : Rat) * 256
  .next (match d.homing, asserted with
    | .search, true => homeStep h .backoff (some (restPoint d + back)) s
    | .release, false => if d.goal.isNone then setSled h { d with goal := some (d.at' + back) } s else s
    | .approach, true => homeLatch h s
    | _, _ => s)

/-- Velocity of the next tick towards `dir` at `vmax` µm/s, slowing for a goal. -/
def homeVel (d : SledSt) (dir vmax : Rat) : Rat :=
  let a : Rat := 8 / 25000
  let v := vmax * umPerS
  let want := match d.goal with
    | none => dir * v
    | some g => if |g - d.at'| ≤ d.vel * d.vel / (2 * a) + |d.vel| then 0 else dir * v
  if d.vel < want then min want (d.vel + a) else max want (d.vel - a)

/-- The commanded position clamped to the soft limits; its first binding is reported (R223). -/
def softClamp (h : Nat) (x : Rat) (s : State) : Rat × State :=
  let p := SLD.page h
  let lo : Rat := (fget p SLD.SOFT_MIN s : Rat) * 256
  let hi : Rat := (fget p SLD.SOFT_MAX s : Rat) * 256
  let y := if x < lo then lo else if hi < x then hi else x
  let bind := decide (y ≠ x)
  let s := if bind && !(s.sled h).soft then
      s |> sticky p SLD.kSOFT_LIMIT |> raise p SLD.iSOFT_LIMIT
        |> emit 0x2206 (srcEng (9 + h)) h (ofSigned 32 (x / 256).floor) (y / 256).floor.toNat
    else s
  (y, setSled h { s.sled h with soft := bind } s)

/-- Homing has rebased the position: HOMED, and the sled moves outward to SOFT_MIN (R229 step 5). -/
def homeRebase (h : Nat) (s : State) : State :=
  let p := SLD.page h
  let d := s.sled h
  let r : Rat := (fget p SLD.HOME_R s : Rat) * 256
  let x := d.at' + (r - d.lat)
  s |> rebase h x |> sledMove h x.floor |> fset p SLD.STATUS_HOMED 1 |> raise p SLD.iHOMED
    |> cnt p SLD.HOME_CNT SLD.kCNT_SAT |> emit 0x2200 (srcEng (9 + h)) h (ofSigned 32 ((d.lat - r) / 256).floor) d.edges
    |> homeStep h .rebase (some ((fget p SLD.SOFT_MIN s : Rat) * 256))

/-- A tick of homing. -/
def homeTick (h : Nat) (s : State) : State :=
  let p := SLD.page h
  let d := s.sled h
  let v1 : Rat := fget p SLD.HOME_CFG_HOME_V s
  let v2 : Rat := fget p SLD.HOME_CFG_HOME_V2 s
  let (dir, vm) : Rat × Rat := match d.homing with
    | .search => (-1, v1)
    | .approach => (-1, v2)
    | .rebase => (if d.goal.isSome then 1 else 0, v1)
    | _ => (1, v1)
  let v := homeVel d dir vm
  let x := d.at' + v
  let s := s |> setSled h { d with vel := v, at' := x } |> sledMove h (microstep h x s)
  let gone : Rat := |x - d.stepFrom| / 256
  let done : Bool := match d.goal with | some g => decide (v = 0) || decide (0 ≤ (x - g) * dir) | none => false
  let back : Rat := fget p SLD.HOME_CFG2_BACKOFF s
  match d.homing with
  | .release =>
    if done then homeStep h .search none s
    else if d.goal.isNone && decide (2000 < gone) then homingFail h 1 s else s
  | .search => if (fget p SLD.HOME_CFG2_SEARCH_MAX s : Rat) < gone then homingFail h 2 s else s
  | .backoff =>
    if done then (if fon p SLD.STATUS_HOME_SW s then homingFail h 1 s
      else s |> setSled h { s.sled h with edges := 0 } |> homeStep h .approach none) else s
  | .approach => if 2 * back < gone then homingFail h 4 s else s
  | .rebase =>
    if d.goal.isNone then (if v = 0 then homeRebase h s else s)
    else if done then s |> rebase h x |> homeStep h .none none |> sledSt h 1 else s
  | .none => s

/-! ## The tick (R223 to R226) -/

/-- The currents of a tick and the stall test (R225, R226); `la` is the load angle. -/
def sledLoad (h la : Nat) (s : State) : State :=
  let p := SLD.page h
  let d := s.sled h
  let moving := decide (d.vel ≠ 0)
  let lv := decide ((fget p SLD.LOAD_CFG2_LA_VMIN s : Rat) * umPerS < |d.vel|)
  let run := fget p SLD.CUR_CFG_I_RUN s
  let i := fget p SLD.LOAD_I_ACT s
  let rest := if moving then 0 else d.rest + 1
  let hi := if lv && fget p SLD.LOAD_CFG_LA_HI s < la then d.hiRun + 1 else 0
  let lo := if la < fget p SLD.LOAD_CFG_LA_LO s then d.loRun + 1 else 0
  let age := d.stepAge + 1
  let i' := if moving && (i < run || decide (d.rest ≠ 0)) then run
    else if 8 ≤ hi && 400 ≤ age && !fon PWR.page PWR.STATUS_VMOT_WARN s then min (max run (sledMax h s)) (i + fget p SLD.CUR_CFG2_I_STEP s)
    else if 40000 ≤ lo && 4000 ≤ age && run < i then max run (i - fget p SLD.CUR_CFG2_I_STEP s)
    else if rest = 400 * fget p SLD.LOAD_CFG2_HOLD_DELAY_MS s then fget p SLD.CUR_CFG_I_HOLD s
    else i
  let st := if lv && fget p SLD.LOAD_CFG_LA_STALL s < la && i = sledMax h s then d.stallRun + 1 else 0
  let s := s |> setSled h { d with rest := rest, hiRun := hi, loRun := lo, stepAge := if i' = i then age else 0, stallRun := st }
    |> fset p SLD.LOAD_LA la |> fsetB p SLD.STATUS_LA_VALID lv |> sledCurrent h i'
  if nz (fget p SLD.LOAD_CFG_STALL_N s) ≤ st then stall h la s else s

/-- The head's tracking loop is CLOSED or HOLD (R224). -/
def tracksForFollow (h : Nat) (s : State) : Bool := getLoop (4 * h + 1) s = 2 || getLoop (4 * h + 1) s = 3

/-- A sled's part of the servo tick. -/
def sledTick (h la : Nat) (s : State) : State :=
  let p := SLD.page h
  let st := getSledSt h s
  if !fon p SLD.CTRL_EN s || 5 ≤ st then s
  else if st = 4 then s |> homeTick h |> sledLoad h la
  else if (s.sled h).held.isSome then sledLoad h la s
  else
    let d := s.sled h
    let x := pgSled h s + fgetI p SLD.OFS s + d.ofsFrac
    let (y, s) := softClamp h x s
    let s := s |> sledMove h (microstep h y s) |> setSled h { s.sled h with vel := y - d.at', at' := y }
    let st' := if pgMoving (sledCh h) s then 2 else if fon p SLD.CTRL_FOLLOW s && tracksForFollow h s then 3 else 1
    s |> sledSt h st' |> sledLoad h la

/-- The follow loop of SE9 and SE10 at a tick (R224). -/
def followTick (h : Nat) (s : State) : State :=
  let p := SLD.page h
  let q := SLF.page h
  let e := 9 + h
  if !fon p SLD.CTRL_FOLLOW s || !tracksForFollow h s || pgMoving (sledCh h) s || 4 ≤ getSledSt h s || (s.sled h).held.isSome then s
  else
    let ls := if !laneValid h 1 s || laneStale h 1 s || servoH h s || (s.head h).hSeen then 0 else sigLS h s
    let tc := (portOut (4 * h + 1) 0x88 s).toInt
    let f := q31 (mulRound (fgetI q SLF.FOLLOW_KL s) ls + mulRound (fgetI q SLF.FOLLOW_KC s) tc)
    let s := fsetI q SLF.F_LAST f s
    if (f.natAbs : Int) ≤ fgetI q SLF.DEADBAND s then setPort e 0x88 0 s
    else
      let v : Int := fget q SLF.V_FOLLOW s
      let r : Rat := (fgetI q SLF.FOLLOW_KF s : Rat) * f / 2 ^ 31
      let r := if r < -v then (-v : Rat) else if v < r then (v : Rat) else r
      let o := fgetI p SLD.OFS s + (s.sled h).ofsFrac + r * umPerS
      s |> setPort e 0x88 (BitVec.ofInt 32 (r * umPerS).floor) |> fsetI p SLD.OFS o.floor
        |> setSled h { s.sled h with ofsFrac := o - o.floor }

end Sys2Proof.Machine
end

