-- ==== Sys2Proof/Machine/Cache.lean ====
section
/-!
DEFINITION. The line cache and the DRAM behind it (R362 to R374, R384 to R388).
-/
namespace Sys2Proof.Machine

/-- The memory island's record set. -/
def setMem (v : MemSt) (s : State) : State := { s with mem := v }

/-! ## DRAM lines (R384 to R388) -/

/-- Usable buffer space in bytes (R363, R384). -/
def usable (s : State) : Nat := fget DRM.page DRM.USABLE_MB s * 2 ^ 20

/-- `n` bytes of DRAM from an address. -/
def dramBytes (a n : Nat) (s : State) : List Nat := (List.range n).map (fun i => s.mem.dram.get (a + i) 0)

/-- Bytes stored in DRAM from an address; an unlisted byte reads 0. -/
def dramPut (a : Nat) (bs : List Nat) (m : Store Nat) : Store Nat :=
  (bs.foldl (fun (x : Store Nat × Nat) b => (x.1.put x.2 (b % 256) 0, x.2 + 1)) (m, a)).1

/-- The channel of a line (R384). -/
def dramChan (line : Nat) : Nat := line % 2

/-- A whole line written to DRAM, poisoned or not (R385, R388). -/
def dramWrite (line data : Nat) (poison : Bool) (s : State) : State :=
  s |> setMem { s.mem with dram := dramPut (256 * line) (leBytes 256 data) s.mem.dram,
                           poison := if poison then s.mem.poison.insert line true else s.mem.poison.erase line }
    |> cnt64 DRM.page DRM.WR_LINES_LO DRM.WR_LINES_HI DRM.kCNT_SAT 1 |> pmc 0x10 (dramChan line) 1
    |> (if poison then cnt DRM.page DRM.POISON_WR_CNT DRM.kCNT_SAT else id)

/-- One second of device time. -/
def oneSecond : Nat := 25000000

/-- A DRAM correction: at most one event a second (R387). -/
def dramCorr (addr synd : Nat) (s : State) : State :=
  let xs := (s.mem.corrs.filter (fun t => decide (s.time < t + oneSecond))) ++ [s.time]
  let due : Bool := match s.mem.corrEv with | some t => decide (t + oneSecond ≤ s.time) | none => true
  let s := s |> cnt DRM.page DRM.CORR_CNT DRM.kCNT_SAT |> raise DRM.page DRM.iCORR
    |> setMem { s.mem with corrs := xs, corrEv := if due then some s.time else s.mem.corrEv }
  if due then emit 0x7020 srcMem addr synd xs.length s else s

/-- What a read finds in a chunk, shown in ERR_ADDR, ERR_SYND and ERR_FLAG (R387). -/
def chunkErr (line : Nat) (s : State) (e : Fin 8 × ChunkErr) : State :=
  let a := 256 * line + 32 * e.1.val
  let p := DRM.page
  let s := s |> fset p DRM.ERR_ADDR_LO (a % 2 ^ 32) |> fset p DRM.ERR_ADDR_HI (a / 2 ^ 32)
  match e.2 with
  | .flagBit => s |> fset p DRM.ERR_SYND 0 |> dramCorr a 0
  | .single y => s |> fset p DRM.ERR_SYND y.toNat |> fset p DRM.ERR_FLAG 0 |> dramCorr a y.toNat
  | .address y => s |> fset p DRM.ERR_SYND y.toNat |> fset p DRM.ERR_FLAG 0 |> cnt p DRM.ADDR_ERR_CNT DRM.kCNT_SAT
      |> raise p DRM.iADDR_ERR |> emit 0x7022 srcMem a y.toNat (dramChan line)
  | .double y => s |> fset p DRM.ERR_SYND y.toNat |> fset p DRM.ERR_FLAG 0 |> cnt p DRM.UNCORR_CNT DRM.kCNT_SAT
      |> raise p DRM.iUNCORR |> emit 0x7021 srcMem a y.toNat 0
  | .badFlag f => s |> fset p DRM.ERR_SYND 0 |> fset p DRM.ERR_FLAG f.toNat |> cnt p DRM.UNCORR_CNT DRM.kCNT_SAT
      |> raise p DRM.iUNCORR |> emit 0x7021 srcMem a 0 f.toNat

/-- An error that leaves the line uncorrectable. -/
def chunkBad : ChunkErr → Bool
  | .flagBit => false
  | .single _ => false
  | .address _ => true
  | .double _ => true
  | .badFlag _ => true

/-- A line read from DRAM for a class: its data and whether it is delivered as poisoned (R387). -/
def dramRead (cls line : Nat) (errs : List (Fin 8 × ChunkErr)) (s : State) : Nat × Bool × State :=
  let d := ofLe (dramBytes (256 * line) 256 s)
  let s := s |> cnt64 DRM.page DRM.RD_LINES_LO DRM.RD_LINES_HI DRM.kCNT_SAT 1 |> pmc 0x0F (dramChan line) 1
  if (s.mem.poison.find line).isSome then
    (d, true, s |> cnt DRM.page DRM.POISON_RD_CNT DRM.kCNT_SAT |> raise DRM.page DRM.iPOISON_RD |> emit 0x7023 srcMem (256 * line) cls (dramChan line))
  else
    let s := errs.foldl (chunkErr line) s
    let bad := errs.any (fun e => chunkBad e.2)
    let s := if errs ≠ [] && !bad && fon DRM.page DRM.CTRL_CORR_WB s then dramWrite line d false s else s
    (d, bad, s)

/-! ## The cache array (R362, R365) -/

/-- The line number of a buffer address. -/
def lineOf (a : Nat) : Nat := a / 256

/-- A line's set. -/
def setOf (line : Nat) : Nat := line % 4096

/-- A line's tag. -/
def tagOf (line : Nat) : Nat := line / 4096

/-- The line held under 16 × set + way. -/
def lineAt (k : Nat) (c : CLine) : Nat := c.tag * 4096 + k / 16

/-- Dirty lines counted (R391). -/
def showDirty (s : State) : State :=
  s |> fset LCH.page LCH.DIRTY_LINES (s.mem.lines.filter (fun kv => kv.2.dirty)).length
    |> fsetB LCH.page LCH.STATUS_EVICTING (s.mem.lines.any (fun kv => kv.2.evicting))

/-- A way set. -/
def putLine (k : Nat) (c : CLine) (s : State) : State := setMem { s.mem with lines := s.mem.lines.insert k c } s |> showDirty

/-- A way invalidated. -/
def dropLine (k : Nat) (s : State) : State := setMem { s.mem with lines := s.mem.lines.erase k } s |> showDirty

/-- The way of a set that holds, evicts or fills a line. -/
def wayOf (line : Nat) (s : State) : Option (Nat × CLine) :=
  (List.range 16).findSome? (fun w =>
    match s.mem.lines.find (16 * setOf line + w) with
    | some c => if c.tag = tagOf line then some (16 * setOf line + w, c) else none
    | none => none)

/-- The tree's nodes on the way to a leaf: node and branch, 1 to the upper half. -/
def plruPath (w : Nat) : List (Nat × Bool) := [ (1, bit w 3), (2 + w / 8, bit w 2), (4 + w / 4, bit w 1), (8 + w / 2, bit w 0) ]

/-- The pseudo-LRU bits after a use of a way: each node on its path points away from it. -/
def plruUse (v w : Nat) : Nat := (plruPath w).foldl (fun a x => if x.2 then clrBit a x.1 else setBit a x.1) v

/-- The victim among the ways allowed: the tree's pointers, turned aside where they lead to no allowed way. -/
def plruPick (v : Nat) (ok : Nat → Bool) : Nat → Nat → Nat → Nat
  | 0, _, base => base
  | n + 1, node, base =>
    let half := 2 ^ n
    let has := fun (lo : Nat) => (List.range half).any (fun i => ok (lo + i))
    let up := if bit v node then has (base + half) else !has base
    plruPick v ok n (2 * node + b2n up) (base + if up then half else 0)

/-- A use of a way noted. -/
def touch (k : Nat) (s : State) : State :=
  setMem { s.mem with plru := s.mem.plru.put (k / 16) (plruUse (s.mem.plru.get (k / 16) 0) (k % 16)) 0 } s

/-- A way is locked (R365). -/
def locked (w : Nat) (s : State) : Bool := bit (fget LCH.page LCH.WAY_LOCK s) w

/-- The way a missing line takes: the lowest invalid allowed way, else a victim among the allowed ways not locked. -/
def pickWay (cls line : Nat) (s : State) : Option Nat :=
  let st := setOf line
  let m := fget LCH.page (LCH.CLASS_CFG_WAYS.ix cls) s
  let ws := (List.range 16).filter (bit m)
  match ws.find? (fun w => (s.mem.lines.find (16 * st + w)).isNone) with
  | some w => some w
  | none =>
    let ok := fun (w : Nat) => bit m w && !locked w s && (match s.mem.lines.find (16 * st + w) with
      | some c => !c.evicting && !c.filling
      | none => false)
    if (List.range 16).any ok then some (plruPick (s.mem.plru.get st 0) ok 4 1 0) else none

/-! ## Serving a request (R364, R374) -/

/-- Bytes put into a line's data from an offset. -/
def mergeBytes (d o : Nat) (bs : List Nat) : Nat :=
  let xs := leBytes 256 d
  ofLe (xs.take o ++ (bs.map (· % 256)).take (256 - o) ++ xs.drop (o + bs.length))

/-- A write that covers its whole line. -/
def CacheReq.whole (r : CacheReq) : Bool :=
  match r.data with | some bs => decide (r.addr % 256 = 0) && decide (256 ≤ bs.length) | none => false

/-- A poisoned response (R374). -/
def poisonHit (r : CacheReq) (s : State) : State :=
  s |> cnt LCH.page LCH.POISON_CNT LCH.kCNT_SAT |> raise LCH.page LCH.iPOISON_HIT |> send (.cacheData r.cls r.addr none)

/-- A request performed on a valid line. -/
def serve (k : Nat) (c : CLine) (r : CacheReq) (s : State) : State :=
  match r.data with
  | some bs => s |> putLine k { c with dirty := true, poison := c.poison && !r.whole, data := mergeBytes c.data (r.addr % 256) bs } |> touch k
  | none =>
    let s := touch k s
    if c.poison then poisonHit r s
    else send (.cacheData r.cls r.addr (some (((leBytes 256 c.data).drop (r.addr % 256)).take r.len))) s

/-- A request that may fill no way runs uncached (R366, R385). -/
def uncached (r : CacheReq) (s : State) : State :=
  let line := lineOf r.addr
  let s := s |> sticky LCH.page LCH.kNOALLOC |> cnt LCH.page LCH.NOALLOC_CNT LCH.kCNT_SAT
  match r.data with
  | some bs =>
    if r.whole then dramWrite line (mergeBytes 0 0 bs) false s
    else
      let (d, bad, s) := dramRead r.cls line [] s
      s |> cnt DRM.page DRM.RMW_CNT DRM.kCNT_SAT |> dramWrite line (mergeBytes d (r.addr % 256) bs) bad
  | none =>
    let (d, bad, s) := dramRead r.cls line [] s
    if bad then poisonHit r s else send (.cacheData r.cls r.addr (some (((leBytes 256 d).drop (r.addr % 256)).take r.len))) s

/-- A request waits at the cache. -/
def waitReq (r : CacheReq) (s : State) : State := setMem { s.mem with waits := s.mem.waits ++ [r] } s

/-- A way given to a line: at once for a whole-line write, else filling, with the request waiting (R364, R367). -/
def allot (k : Nat) (r : CacheReq) (s : State) : State :=
  let c : CLine := { tag := tagOf (lineOf r.addr) }
  if r.whole then s |> cnt LCH.page LCH.ZALLOC_CNT LCH.kCNT_SAT |> serve k c r
  else s |> putLine k { c with filling := true } |> waitReq r

/-- A way of a line's set that the class may take once its eviction or fill is over. -/
def busyWay (cls line : Nat) (s : State) : Bool :=
  (List.range 16).any (fun w => bit (fget LCH.page (LCH.CLASS_CFG_WAYS.ix cls) s) w && !locked w s &&
    (match s.mem.lines.find (16 * setOf line + w) with | some c => c.evicting || c.filling | none => false))

/-- A request that misses (R364 to R367). -/
def miss (r : CacheReq) (s : State) : State :=
  let line := lineOf r.addr
  match pickWay r.cls line s with
  | none => if busyWay r.cls line s then waitReq r s else s |> cnt LCH.page (LCH.MISS_CNT.ix r.cls) LCH.kCNT_SAT |> pmc 0x0E r.cls 1 |> uncached r
  | some w =>
    let s := s |> cnt LCH.page (LCH.MISS_CNT.ix r.cls) LCH.kCNT_SAT |> pmc 0x0E r.cls 1
    let k := 16 * setOf line + w
    match s.mem.lines.find k with
    | some c =>
      if c.dirty then
        s |> cnt LCH.page LCH.EVICT_CNT LCH.kCNT_SAT |> putLine k { c with evicting := true, next := some (tagOf line, r.whole) } |> waitReq r
      else allot k r s
    | none => allot k r s

/-- Whether an earlier request to the line still waits, or a way is being kept for it. -/
def lineWaits (line : Nat) (s : State) : Bool := s.mem.waits.any (fun q => lineOf q.addr == line)

/-- A request performed as a hit. -/
def hit (k : Nat) (c : CLine) (r : CacheReq) (s : State) : State :=
  s |> cnt LCH.page (LCH.HIT_CNT.ix r.cls) LCH.kCNT_SAT |> pmc 0x0D r.cls 1 |> serve k c r

/-- A request at the cache: it waits for its line, hits or misses (R365 to R369). -/
def present (r : CacheReq) (s : State) : State :=
  let line := lineOf r.addr
  match wayOf line s with
  | some (k, c) =>
    if c.evicting then s |> cnt LCH.page LCH.EVICT_WAIT_CNT LCH.kCNT_SAT |> waitReq r
    else if c.filling || lineWaits line s then waitReq r s
    else hit k c r s
  | none => if lineWaits line s then waitReq r s else miss r s

/-! ## Parity (R373) -/

/-- A line poisoned in DRAM for a parity error in its dirty data, or refetched, or lost: the way is then invalid. -/
def parity (k : Nat) (c : CLine) (cls : Nat) (p : CachePar) (s : State) : State :=
  let a := 256 * lineAt k c
  let pos := k / 16 + 65536 * (k % 16)
  let at' := fun (x : Nat) (t : State) => t |> fset LCH.page LCH.PAR_ADDR_LO (x % 2 ^ 32) |> fset LCH.page LCH.PAR_ADDR_HI (x / 2 ^ 32)
  let refetch := fun (t : State) => t |> at' a |> dropLine k |> cnt LCH.page LCH.PAR_REFETCH_CNT LCH.kCNT_SAT
    |> raise LCH.page LCH.iPAR_REFETCH |> emit 0x7000 srcMem a pos cls
  let fatal := fun (code x : Nat) (t : State) => t |> dropLine k |> cnt LCH.page LCH.PAR_FATAL_CNT LCH.kCNT_SAT
    |> fault LCH.page code |> raise LCH.page LCH.iPAR_FATAL |> emit 0x7001 srcMem x pos code
  match p with
  | .data => if c.dirty then s |> at' a |> dramWrite (lineAt k c) c.data true |> fatal 0x01 a else refetch s
  | .tag bad => if c.dirty || bad then s |> at' 0xFFFFFFFF |> fatal 0x02 0xFFFFFFFF else refetch s

/-- CACHE_REQUEST (R362 to R369, R373). -/
def execCacheRequest (cls : Fin 7) (addr : BitVec 34) (len : Nat) (data : Option (List (BitVec 8))) (par : Option CachePar) (s : State) : Res :=
  let a := addr.toNat
  let r : CacheReq := ⟨cls, a, min len (256 - a % 256), data.map (fun bs => (bs.map BitVec.toNat).take (256 - a % 256))⟩
  if usable s ≤ a then .next (send (.cacheData cls a none) s)
  else match par, wayOf (lineOf a) s with
    | some p, some (k, c) => if c.evicting || c.filling then .next (present r s) else .next (s |> parity k c cls p |> present r)
    | _, _ => .next (present r s)

/-! ## Eviction and fill (R367 to R369) -/

/-- The requests that wait for a line, taken from the list in their order. -/
def takeWaits (line : Nat) (s : State) : List CacheReq × State :=
  (s.mem.waits.filter (fun q => lineOf q.addr == line), setMem { s.mem with waits := s.mem.waits.filter (fun q => lineOf q.addr != line) } s)

/-- Requests that waited, presented again in their order. -/
def retry (line : Nat) (s : State) : State := let (qs, t) := takeWaits line s; qs.foldl (fun u q => present q u) t

/-- Requests of a set whose line no way holds or is kept for, presented again. -/
def retrySet (set' : Nat) (s : State) : State :=
  let kept := fun (line : Nat) => (wayOf line s).isSome || (List.range 16).any (fun w =>
    match s.mem.lines.find (16 * set' + w) with
    | some c => match c.next with | some (t, _) => decide (t = tagOf line) | none => false
    | none => false)
  let ls := ((s.mem.waits.map (fun q => lineOf q.addr)).filter (fun l => setOf l == set' && !kept l)).eraseDups
  ls.foldl (fun t l => retry l t) s

/-- The way takes the line it was cleared for; requests that met the evicted line are processed as misses. -/
def evictionDone (k : Nat) (c : CLine) (s : State) : State :=
  let line := lineAt k c
  let s := s |> dramWrite line c.data c.poison |> dropLine k
  let s := match c.next with
    | none => s
    | some (t, whole) =>
      if whole then
        let (qs, u) := takeWaits (t * 4096 + k / 16) s
        match qs with
        | [] => u
        | q :: rest => rest.foldl (fun v x => present x v) (allot k q u)
      else putLine k { tag := t, filling := true } s
  s |> retry line |> retrySet (k / 16)

/-- EVICTION_COMPLETE. -/
def execEvictionComplete (set : Fin 4096) (way : Fin 16) (s : State) : Res :=
  match s.mem.lines.find (16 * set.val + way.val) with
  | some c => .next (if c.evicting then evictionDone (16 * set.val + way.val) c s else s)
  | none => .next s

/-- The fill data of a way: the request that missed is served, and those that waited then hit, in order. -/
def fillDone (k : Nat) (c : CLine) (errs : List (Fin 8 × ChunkErr)) (s : State) : State :=
  let line := lineAt k c
  let (qs, s) := takeWaits line s
  let (d, bad, s) := dramRead ((qs.head?.map CacheReq.cls).getD 0) line errs s
  let x : CLine := { tag := c.tag, poison := bad, data := d }
  let s := putLine k x s
  let s := match qs with
    | [] => s
    | q :: rest => rest.foldl (fun t r => match t.mem.lines.find k with | some y => hit k y r t | none => present r t) (serve k x q s)
  retrySet (k / 16) s

/-- FILL_COMPLETE. -/
def execFillComplete (set : Fin 4096) (way : Fin 16) (errs : List (Fin 8 × ChunkErr)) (s : State) : Res :=
  match s.mem.lines.find (16 * set.val + way.val) with
  | some c => .next (if c.filling then fillDone (16 * set.val + way.val) c errs s else s)
  | none => .next s

/-! ## Maintenance (R370 to R372) -/

/-- First line and number of lines of the range in MAINT_ADDR and MAINT_LINES. -/
def maintRange (s : State) : Nat × Nat :=
  ((fget LCH.page LCH.MAINT_ADDR_LO s + 2 ^ 32 * fget LCH.page LCH.MAINT_ADDR_HI s) / 256, nz (fget LCH.page LCH.MAINT_LINES s))

/-- The keys of the lines an operation covers. -/
def covered (s : State) : List Nat :=
  let all := fon LCH.page LCH.MAINT_CMD_ALL s
  let (a, n) := maintRange s
  (s.mem.lines.filter (fun kv => all || (decide (a ≤ lineAt kv.1 kv.2) && decide (lineAt kv.1 kv.2 < a + n)))).map Prod.fst

/-- A line under eviction or filling is finished before the operation acts on it (R371). -/
def settle (s : State) (k : Nat) : State :=
  match s.mem.lines.find k with
  | some c => if c.evicting then evictionDone k c s else if c.filling then fillDone k c [] s else s
  | none => s

/-- The operations on one line. -/
inductive MaintOp | clean | invalidate | flush
  deriving DecidableEq, Repr

/-- A line that INVALIDATE or FLUSH may not invalidate without FORCE (R372). -/
def skips (op : MaintOp) (k : Nat) (s : State) : Bool := op ≠ .clean && locked (k % 16) s && !fon LCH.page LCH.MAINT_CMD_FORCE s

/-- A dirty line written to DRAM, clean after. -/
def cleanLine (k : Nat) (c : CLine) (s : State) : State :=
  if c.dirty then s |> dramWrite (lineAt k c) c.data c.poison |> putLine k { c with dirty := false } else s

/-- An operation on one valid line. -/
def maintLine (op : MaintOp) (par : List (Nat × CachePar)) (s : State) (k : Nat) : State :=
  let s := settle s k
  match s.mem.lines.find k with
  | none => s
  | some c =>
    match (par.find? (fun x => x.1 == k)) with
    | some (_, p) => parity k c 0 p s
    | none =>
      if skips op k s then
        (if op = .flush then cleanLine k c s else s) |> fset LCH.page LCH.LOCK_SKIPPED (fget LCH.page LCH.LOCK_SKIPPED s + 1)
      else match op with
        | .clean => cleanLine k c s
        | .flush => s |> cleanLine k c |> dropLine k
        | .invalidate => s |> (if c.dirty then cnt LCH.page LCH.DISCARD_CNT LCH.kCNT_SAT else id) |> dropLine k

/-- Lines an operation examines. -/
def maintLines (s : State) : Nat := if fon LCH.page LCH.MAINT_CMD_ALL s then 65536 else (maintRange s).2

/-- MAINT_BUSY shown. -/
def maintBusy (b : Bool) (s : State) : State := s |> fsetB LCH.page LCH.STATUS_MAINT_BUSY b |> fsetB LCH.page LCH.MAINT_STATUS_BUSY b

/-- An operation of the range; ignored while one runs (R371). -/
def maintRun (op : MaintOp) (par : List (Nat × CachePar)) (s : State) : State :=
  if fon LCH.page LCH.STATUS_MAINT_BUSY s then sticky LCH.page LCH.kMAINT_REJ s
  else
    let s := s |> maintBusy true |> fset LCH.page LCH.LOCK_SKIPPED 0 |> fset LCH.page LCH.MAINT_STATUS_LINES_DONE 0
      |> fset LCH.page LCH.MAINT_CMD_OP (match op with | .clean => 1 | .invalidate => 2 | .flush => 3)
    let s := setMem { s.mem with maint := maintLines s } s
    (covered s).foldl (maintLine op par) s

/-- CLEAN (R370). -/
def execClean (par : List (Nat × CachePar)) (s : State) : Res := .next (maintRun .clean par s)

/-- INVALIDATE (R370, R372). -/
def execInvalidate (par : List (Nat × CachePar)) (s : State) : Res := .next (maintRun .invalidate par s)

/-- FLUSH (R370, R372). -/
def execFlush (par : List (Nat × CachePar)) (s : State) : Res := .next (maintRun .flush par s)

/-- One line set to zero and dirty, allocated without a read where absent (R370). -/
def zeroLine (par : List (Nat × CachePar)) (line : Nat) (s : State) : State :=
  let s := match wayOf line s with | some (k, _) => settle s k | none => s
  let s := match wayOf line s with
    | some (k, c) => match par.find? (fun x => x.1 == k) with | some (_, p) => parity k c 0 p s | none => s
    | none => s
  match wayOf line s with
  | some (k, c) => s |> putLine k { c with dirty := true, poison := false, data := 0 } |> touch k
  | none =>
    match pickWay 0 line s with
    | none => s |> sticky LCH.page LCH.kNOALLOC |> cnt LCH.page LCH.NOALLOC_CNT LCH.kCNT_SAT |> dramWrite line 0 false
    | some w =>
      let k := 16 * setOf line + w
      let s := match s.mem.lines.find k with
        | some c => if c.dirty then s |> cnt LCH.page LCH.EVICT_CNT LCH.kCNT_SAT |> dramWrite (lineAt k c) c.data c.poison else s
        | none => s
      s |> cnt LCH.page LCH.ZALLOC_CNT LCH.kCNT_SAT |> putLine k { tag := tagOf line, dirty := true } |> touch k

/-- `n` lines zeroed from a line on. -/
def zeroLines (par : List (Nat × CachePar)) : Nat → Nat → State → State
  | 0, _, s => s
  | n + 1, line, s => zeroLines par n (line + 1) (zeroLine par line s)

/-- ZERO (R370): rejected with ALL = 1. -/
def execZero (par : List (Nat × CachePar)) (s : State) : Res :=
  if fon LCH.page LCH.STATUS_MAINT_BUSY s || fon LCH.page LCH.MAINT_CMD_ALL s then .next (sticky LCH.page LCH.kMAINT_REJ s)
  else
    let (a, n) := maintRange s
    let n := min n (usable s / 256 - a)
    .next (s |> maintBusy true |> fset LCH.page LCH.LOCK_SKIPPED 0 |> fset LCH.page LCH.MAINT_STATUS_LINES_DONE 0 |> fset LCH.page LCH.MAINT_CMD_OP 4
      |> setMem { (maintBusy true s).mem with maint := n } |> zeroLines par n a)

/-- MAINT_DONE (R371, R372). -/
def execMaintDone (s : State) : Res :=
  let p := LCH.page
  let k := fget p LCH.LOCK_SKIPPED s
  .next (if fon p LCH.STATUS_MAINT_BUSY s then
    s |> maintBusy false |> fset p LCH.MAINT_STATUS_LINES_DONE s.mem.maint |> raise p LCH.iMAINT_DONE
      |> (if k = 0 then id else fun t => t |> raise p LCH.iLOCK_SKIP |> emit 0x7002 srcMem
          ((fget p LCH.MAINT_ADDR_LO t) / 256 * 256) k (fget p LCH.MAINT_CMD_OP t))
  else s)

end Sys2Proof.Machine
end

