-- ==== Sys2Proof/Machine/Buffers.lean ====
section
/-!
DEFINITION. Buffer bytes as a requester sees them: those of a line the cache holds, or else those of DRAM (R362 to R374).
-/
namespace Sys2Proof.Machine

/-- The way that holds a line's data. -/
def heldWay (line : Nat) (s : State) : Option (Nat × CLine) :=
  match wayOf line s with | some (k, c) => if c.filling then none else some (k, c) | none => none

/-- A byte of a buffer address. -/
def bufByte (a : Nat) (s : State) : Nat :=
  match heldWay (lineOf a) s with
  | some (_, c) => c.data / 2 ^ (8 * (a % 256)) % 256
  | none => s.mem.dram.get a 0

/-- A line is poisoned (R374). -/
def bufPoison (line : Nat) (s : State) : Bool :=
  match heldWay line s with
  | some (_, c) => c.poison
  | none => (s.mem.poison.find line).isSome

/-- Bytes within the buffer space with no poisoned line among them, or none: a bus error or a poisoned response. -/
def bufRead (a n : Nat) (s : State) : Option (List Nat) :=
  if n = 0 then some []
  else if usable s < a + n || (List.range ((a + n - 1) / 256 - a / 256 + 1)).any (fun i => bufPoison (a / 256 + i) s) then none
  else some ((List.range n).map (fun i => bufByte (a + i) s))

/-- A byte written: into the line the cache holds, which becomes dirty, or else into DRAM. -/
def bufPut (a b : Nat) (s : State) : State :=
  match heldWay (lineOf a) s with
  | some (k, c) =>
    let o := 8 * (a % 256)
    putLine k { c with dirty := true, data := c.data - c.data / 2 ^ o % 256 * 2 ^ o + b % 256 * 2 ^ o } s
  | none => setMem { s.mem with dram := s.mem.dram.put a (b % 256) 0 } s

/-- Bytes written from an address. -/
def bufPuts : Nat → List Nat → State → State
  | _, [], s => s
  | a, b :: bs, s => bufPuts (a + 1) bs (bufPut a b s)

/-- Bytes written within the buffer space, or none: a bus error. A line written whole is no longer poisoned. -/
def bufWrite (a : Nat) (bs : List Nat) (s : State) : Option State :=
  if bs = [] then some s
  else if usable s < a + bs.length then none
  else
    let t := bufPuts a bs s
    let whole := (List.range ((bs.length + 255) / 256 + 1)).map (fun i => a / 256 + i)
      |>.filter (fun l => decide (a ≤ 256 * l) && decide (256 * l + 256 ≤ a + bs.length))
    some (whole.foldl (fun u l =>
      match heldWay l u with
      | some (k, c) => putLine k { c with poison := false } u
      | none => setMem { u.mem with poison := u.mem.poison.erase l } u) t)

end Sys2Proof.Machine
end

