-- ==== Sys2Proof/Machine/Deflate.lean ====
section
/-!
DEFINITION. Inflating raw DEFLATE data (RFC 1951), as R394 and R408 use it.
-/
namespace Sys2Proof.Machine

/-- Why data do not inflate: more is needed, or RFC 1951 forbids them. -/
inductive InfErr | short | invalid
  deriving DecidableEq, Repr

/-- The inflater: what is left of the input, the bits used, the output newest first with its length, for each symbol the
output length and bits used after it, newest first, and whether every block so far was stored. -/
structure Inf where
  bits : List Bool
  pos : Nat := 0
  out : List Nat := []
  n : Nat := 0
  marks : List (Nat × Nat) := []
  stored : Bool := true

/-- Bytes as bits, least significant first. -/
def bitsLsb (bs : List Nat) : List Bool := bs.flatMap (fun b => (List.range 8).map (fun i => b.testBit i))

/-- A number of bits, the first least significant. -/
def lsbNat : List Bool → Nat
  | [] => 0
  | b :: bs => b2n b + 2 * lsbNat bs

/-- `k` bits taken. -/
def takeBits (k : Nat) (x : Inf) : Except InfErr (Nat × Inf) :=
  let v := x.bits.take k
  if v.length < k then .error .short else .ok (lsbNat v, { x with bits := x.bits.drop k, pos := x.pos + k })

/-- A Huffman code: length, code and symbol of each. -/
abbrev Huff := List (Nat × Nat × Nat)

/-- The canonical code of code lengths by symbol (RFC 1951, 3.2.2). -/
def canonical (ls : List Nat) : Huff :=
  (((List.range 15).foldl (fun (acc : Huff × Nat) i =>
    let l := i + 1
    let ss := (List.range ls.length).filter (fun s => ls.getD s 0 == l)
    let first := 2 * acc.2
    (acc.1 ++ ss.mapIdx (fun j s => (l, first + j, s)), first + ss.length)) ([], 0)).1)

/-- The code space used, in 2^−15. -/
def kraft (ls : List Nat) : Nat := ls.foldl (fun a l => if l = 0 then a else a + 2 ^ (15 - l)) 0

/-- A complete code. -/
def complete (ls : List Nat) : Bool := kraft ls == 2 ^ 15

/-- A distance code may also hold one code of one bit, or none at all (RFC 1951, 3.2.7). -/
def distOk (ls : List Nat) : Bool := complete ls || (ls.filter (· != 0) == [ 1 ]) || ls.all (· == 0)

/-- One symbol read: at most `fuel` more bits. -/
def readSym (t : Huff) : Nat → Nat → Nat → Inf → Except InfErr (Nat × Inf)
  | 0, _, _, _ => .error .invalid
  | fuel + 1, len, code, x =>
    match x.bits with
    | [] => .error .short
    | b :: bs =>
      let c := 2 * code + b2n b
      let y := { x with bits := bs, pos := x.pos + 1 }
      match t.find? (fun e => e.1 == len + 1 && e.2.1 == c) with
      | some e => .ok (e.2.2, y)
      | none => readSym t fuel (len + 1) c y

/-- A symbol's output noted. -/
def mark (x : Inf) : Inf := { x with marks := (x.n, x.pos) :: x.marks }

/-- A byte put out. -/
def putByte (b : Nat) (x : Inf) : Inf := { x with out := b :: x.out, n := x.n + 1 }

/-- `len` bytes copied from a distance. -/
def copyBack : Nat → Nat → Inf → Inf
  | 0, _, x => x
  | n + 1, d, x => copyBack n d (putByte (x.out.getD (d - 1) 0) x)

/-- Base and extra bits of length symbols 257 to 285. -/
def lenTable : List (Nat × Nat) :=
  [ (3, 0), (4, 0), (5, 0), (6, 0), (7, 0), (8, 0), (9, 0), (10, 0), (11, 1), (13, 1), (15, 1), (17, 1), (19, 2), (23, 2), (27, 2),
    (31, 2), (35, 3), (43, 3), (51, 3), (59, 3), (67, 4), (83, 4), (99, 4), (115, 4), (131, 5), (163, 5), (195, 5), (227, 5), (258, 0) ]

/-- Base and extra bits of a distance symbol. -/
def distEntry (s : Nat) : Nat × Nat := if s < 4 then (s + 1, 0) else (2 ^ (s / 2 - 1) * (2 + s % 2) + 1, s / 2 - 1)

/-- The symbols of a block, to its end. -/
def blockSyms (lit dist : Huff) : Nat → Inf → Except InfErr Inf
  | 0, _ => .error .short
  | fuel + 1, x => do
    let (s, x) ← readSym lit 15 0 0 x
    if s < 256 then blockSyms lit dist fuel (mark (putByte s x))
    else if s = 256 then pure x
    else if 285 < s then .error .invalid
    else
      let (b, e) := lenTable.getD (s - 257) (0, 0)
      let (v, x) ← takeBits e x
      let (d, x) ← readSym dist 15 0 0 x
      if 29 < d then .error .invalid
      else
        let (db, de) := distEntry d
        let (dv, x) ← takeBits de x
        if x.n < db + dv then .error .invalid else blockSyms lit dist fuel (mark (copyBack (b + v) (db + dv) x))

/-- Code lengths of a dynamic block, `n` in all (RFC 1951, 3.2.7). -/
def codeLens (t : Huff) : Nat → Nat → List Nat → Inf → Except InfErr (List Nat × Inf)
  | 0, _, _, _ => .error .short
  | fuel + 1, n, ls, x =>
    if n ≤ ls.length then (if ls.length = n then .ok (ls, x) else .error .invalid)
    else do
      let (s, x) ← readSym t 7 0 0 x
      if s < 16 then codeLens t fuel n (ls ++ [ s ]) x
      else if s = 16 then
        if ls = [] then .error .invalid
        else
          let (r, x) ← takeBits 2 x
          codeLens t fuel n (ls ++ List.replicate (r + 3) (ls.getLastD 0)) x
      else if s = 17 then
        let (r, x) ← takeBits 3 x
        codeLens t fuel n (ls ++ List.replicate (r + 3) 0) x
      else
        let (r, x) ← takeBits 7 x
        codeLens t fuel n (ls ++ List.replicate (r + 11) 0) x

/-- `n` 3-bit lengths in the order of the code length alphabet. -/
def clLens : Nat → List Nat → List Nat → Inf → Except InfErr (List Nat × Inf)
  | 0, _, ls, x => .ok (ls, x)
  | n + 1, ord, ls, x => do
    let (v, x) ← takeBits 3 x
    clLens n (ord.drop 1) (ls.set (ord.headD 0) v) x

/-- The order of code length codes. -/
def clOrder : List Nat := [ 16, 17, 18, 0, 8, 7, 9, 6, 10, 5, 11, 4, 12, 3, 13, 2, 14, 1, 15 ]

/-- A dynamic block. -/
def dynamicBlock (fuel : Nat) (x : Inf) : Except InfErr Inf := do
  let (hl, x) ← takeBits 5 x
  let (hd, x) ← takeBits 5 x
  let (hc, x) ← takeBits 4 x
  let (cl, x) ← clLens (hc + 4) clOrder (List.replicate 19 0) x
  if !complete cl then .error .invalid
  else
    let (ls, x) ← codeLens (canonical cl) 400 (hl + 257 + hd + 1) [] x
    let lit := ls.take (hl + 257)
    let dist := ls.drop (hl + 257)
    if 286 < hl + 257 || !complete lit || !distOk dist then .error .invalid
    else blockSyms (canonical lit) (canonical dist) fuel x

/-- The fixed literal code's lengths. -/
def fixedLit : List Nat := List.replicate 144 8 ++ List.replicate 112 9 ++ List.replicate 24 7 ++ List.replicate 8 8

/-- `n` stored bytes. -/
def storedBytes : Nat → Inf → Except InfErr Inf
  | 0, x => .ok x
  | n + 1, x => do
    let (v, x) ← takeBits 8 x
    storedBytes n (mark (putByte v x))

/-- A stored block. -/
def storedBlock (x : Inf) : Except InfErr Inf := do
  let (_, x) ← takeBits ((8 - x.pos % 8) % 8) x
  let (len, x) ← takeBits 16 x
  let (nlen, x) ← takeBits 16 x
  if len + nlen ≠ 65535 then .error .invalid else storedBytes len x

/-- The blocks of a stream, to the final one. -/
def inflateBlocks (fuel : Nat) : Nat → Inf → Except InfErr Inf
  | 0, _ => .error .short
  | n + 1, x => do
    let (fin, x) ← takeBits 1 x
    let (ty, x) ← takeBits 2 x
    let y ← if ty = 0 then storedBlock x
      else if ty = 1 then blockSyms (canonical fixedLit) (canonical (List.replicate 32 5)) fuel { x with stored := false }
      else if ty = 2 then dynamicBlock fuel { x with stored := false }
      else .error .invalid
    if fin = 1 then pure (mark y) else inflateBlocks fuel n (mark y)

/-- Raw DEFLATE data inflated. -/
def inflate (bs : List Nat) : Except InfErr Inf :=
  let b := bitsLsb bs
  inflateBlocks (b.length + 1) (b.length + 1) { bits := b }

/-- The bytes inflated, oldest first. -/
def Inf.bytes (x : Inf) : List Nat := x.out.reverse

end Sys2Proof.Machine
end

