-- ==== Sys2Proof/Machine/Compress.lean ====
section
/-!
DEFINITION. The compression lanes (R394 to R413).
-/
namespace Sys2Proof.Machine

/-- A lane's job. -/
def State.cjob (s : State) (l : Nat) : LaneJob := s.lanesC.get l {}
/-- A lane's job set. -/
def setCjob (l : Nat) (v : LaneJob) (s : State) : State := { s with lanesC := s.lanesC.put l v {} }

/-- STATE of a lane: 0 IDLE, 1 RUNNING, 2 STOPPED, 3 DONE, 4 ERROR, 5 ABORTED. -/
def laneState (l : Nat) (s : State) : Nat := fget (CMP.page l) CMP.STATUS_STATE s
/-- STATE set. -/
def setLaneState (l v : Nat) (s : State) : State := fset (CMP.page l) CMP.STATUS_STATE v s

/-- A 34-bit buffer address. -/
def addr34 (p : Nat) (lo hi : Fld) (s : State) : Nat := fget p lo s + 2 ^ 32 * fget p hi s

/-- The output space of a leg, read at GO and at RESUME (R402, R403). -/
def latchLeg (l : Nat) (s : State) : State :=
  let p := CMP.page l
  s |> setCjob l { s.cjob l with dst := addr34 p CMP.DST_ADDR_LO CMP.DST_ADDR_HI s, dstLen := fget p CMP.DST_LEN s,
                                 chain := addr34 p CMP.CHAIN_ADDR_LO CMP.CHAIN_ADDR_HI s, chainLen := fget p CMP.CHAIN_LEN s }
    |> fset p CMP.DST_USED 0 |> fset p CMP.CHAIN_USED 0

/-- Effort level: 0 acts as 1, 10 to 15 as 9 (R413). -/
def cmpLevel (v : Nat) : Nat := min 9 (nz v)
/-- RECORD_MAX. -/
def recordMax (e : Nat) : Nat := 2 ^ (12 + min 8 e)
/-- BLOCK. -/
def blockSize (e r : Nat) : Nat := min (2 ^ (10 + min 6 e)) r

/-- GO (R404): the job's fields are latched and its counters clear. -/
def startJob (l : Nat) (inf : Bool) (s : State) : State :=
  let p := CMP.page l
  if !fon p CMP.CTRL_EN s then s
  else if laneState l s = 1 || laneState l s = 2 then sticky p CMP.kGO_REJ s
  else
    let r := recordMax (fget p CMP.JOB_CFG_RECORD_EXP s)
    s |> setCjob l { inflate := inf, level := cmpLevel (fget p CMP.JOB_CFG_LEVEL s), align := fon p CMP.JOB_CFG_ALIGN s,
                     verify := fon p CMP.JOB_CFG_VERIFY s, recMax := r, block := blockSize (fget p CMP.JOB_CFG_BLOCK_EXP s) r,
                     src := addr34 p CMP.SRC_ADDR_LO CMP.SRC_ADDR_HI s, srcLen := fget p CMP.SRC_LEN s, tag := fget p CMP.JOB_TAG s }
      |> latchLeg l |> fsetB p CMP.JOB_CFG_OP inf
      |> fclrs p [ CMP.IN_CONSUMED, CMP.OUT_PRODUCED, CMP.RECORDS, CMP.FLUSH_IN, CMP.FLUSH_OUT, CMP.ERR_OFFSET, CMP.ERR_RECORD ]
      |> fset p CMP.STATUS_FLUSH_PEND 0 |> fset p CMP.STATUS_VFY_PEND 0 |> setLaneState l 1

/-- COMPRESS_JOB (R397). -/
def execCompressJob (lane : Fin 4) (s : State) : Res := .next (startJob lane false s)

/-- INFLATE_JOB (R407). -/
def execInflateJob (lane : Fin 4) (s : State) : Res := .next (startJob lane true s)

/-! ## Output (R402, R403) -/

/-- Space left in the leg. -/
def legRoom (l : Nat) (s : State) : Nat :=
  let j := s.cjob l
  (j.dstLen - fget (CMP.page l) CMP.DST_USED s) + (j.chainLen - fget (CMP.page l) CMP.CHAIN_USED s)

/-- Output written to the destination and then the chain, within the room; none on a bus error (R408). -/
def legWrite (l : Nat) (bs : List Nat) (s : State) : Option State :=
  let p := CMP.page l
  let j := s.cjob l
  let du := fget p CMP.DST_USED s
  let cu := fget p CMP.CHAIN_USED s
  let a := bs.take (j.dstLen - du)
  let b := bs.drop a.length
  (bufWrite (j.dst + du) a s).bind (fun t => (bufWrite (j.chain + cu) b t).map (fun t =>
    let t := t |> fset p CMP.DST_USED (du + a.length) |> fset p CMP.CHAIN_USED (cu + b.length)
      |> fset p CMP.OUT_PRODUCED (fget p CMP.OUT_PRODUCED t + bs.length)
      |> cnt64 p CMP.BYTES_OUT_LO CMP.BYTES_OUT_HI CMP.kCNT_SAT bs.length
    if b ≠ [] && cu = 0 then raise p CMP.iCHAINED t else t))

/-- Input taken, in all and by the lane (R403, PMC signal 0x12). -/
def takeInput (l n : Nat) (s : State) : State :=
  let j := s.cjob l
  s |> cnt64 (CMP.page l) CMP.BYTES_IN_LO CMP.BYTES_IN_HI CMP.kCNT_SAT n |> (if j.inflate then id else pmc 0x12 l ((j.taken + n) / 64 - j.taken / 64))

/-- A job that ends in ERROR (R408). -/
def jobError (l code : Nat) (s : State) : State :=
  let p := CMP.page l
  let j := s.cjob l
  s |> setLaneState l 4 |> fault p code |> fset p CMP.ERR_RECORD j.recIx |> fset p CMP.ERR_OFFSET j.taken |> raise p CMP.iERROR
    |> fset p CMP.OUT_PRODUCED (fget p CMP.OUT_PRODUCED s - (if j.inflate then j.recOut else 0))
    |> cnt p CMP.ERRORS CMP.kCNT_SAT |> fset p CMP.STATUS_FLUSH_PEND 0 |> emit 0x4200 srcDecode l code j.recIx

/-- A lane that stops for want of space (R403). -/
def laneStop (l consumed : Nat) (s : State) : State :=
  let p := CMP.page l
  let s := s |> setLaneState l 2 |> raise p CMP.iSTOPPED |> fset p CMP.IN_CONSUMED consumed
  emit 0x4201 srcDecode l (fget p CMP.OUT_PRODUCED s) (s.cjob l).tag s

/-! ## Records (R394 to R396) -/

/-- A record's bytes. -/
def mkRecord (j : LaneJob) (flags : Nat) (d src : List Nat) : List Nat :=
  let h := beBytes 2 0x434D ++ [ flags + j.level, 1 ] ++ beBytes 4 d.length ++
    beBytes 2 (if j.align then (20 + d.length + 2047) / 2048 else 0)
  let r := h ++ beBytes 2 (crc16 (bytesBits h)) ++ d ++ beBytes 4 (crc32c src) ++ beBytes 4 src.length
  if j.align then r ++ List.replicate ((2048 - r.length % 2048) % 2048) 0 else r

/-- Whether a record's data inflate to its source (R406). -/
def verified (d src : List Nat) : Bool :=
  match inflate d with
  | .ok x => x.bytes == src && (x.pos + 7) / 8 == d.length
  | .error _ => false

/-- Whether every block of a record is stored. -/
def allStored (d : List Nat) : Bool := match inflate d with | .ok x => x.stored | .error _ => false

/-- A record that does not match its source (R406). -/
def verifyMismatch (l : Nat) (s : State) : State :=
  let p := CMP.page l
  s |> setLaneState l 4 |> fault p 0x07 |> raise p CMP.iVFY_FAIL |> cnt p CMP.VFY_FAILS CMP.kCNT_SAT |> cnt p CMP.ERRORS CMP.kCNT_SAT
    |> fset p CMP.STATUS_FLUSH_PEND 0 |> fset p CMP.STATUS_VFY_PEND 0 |> emit 0x4202 srcDecode l (s.cjob l).recIx (s.cjob l).tag

/-- What is left of a record's output written; with no room for it the lane stops. -/
def recordOut (l consumed : Nat) (bs : List Nat) (done : State → State) (s : State) : State :=
  let j := s.cjob l
  let room := legRoom l s
  match legWrite l (bs.take room) s with
  | none => jobError l 0x08 s
  | some t =>
    if room < bs.length then t |> setCjob l { j with recOut := j.recOut + room } |> laneStop l consumed
    else done t

/-- The end of the piece in progress when an input position is reached (R403). -/
def pieceEnd (j : LaneJob) (t : Nat) : Nat := min j.srcLen (j.taken + (t - j.taken + j.block - 1) / j.block * j.block)

/-- A compress job's record (R397, R406). -/
def compressRecord (l u : Nat) (d : List Nat) (s : State) : State :=
  let p := CMP.page l
  let j := s.cjob l
  let left := j.srcLen - j.taken
  let n := if j.flush = some true then min u left else min j.recMax left
  if left = 0 && j.recIx ≠ 0 then s
  else match bufRead (j.src + j.taken) n s with
    | none => jobError l 0x08 s
    | some src =>
      if j.verify && !verified d src then verifyMismatch l s
      else
        let last := j.taken + n = j.srcLen
        let fl := b2n (allStored d) * 128 + b2n (j.flush = some true && n < left) * 64 + b2n last * 32
        let bs := (mkRecord j fl d src).drop j.recOut
        recordOut l (j.taken + n) bs (fun t =>
          t |> takeInput l n |> setCjob l { j with taken := j.taken + n, recIx := j.recIx + 1, recOut := 0 }
            |> fset p CMP.RECORDS (j.recIx + 1) |> fset p CMP.IN_CONSUMED (j.taken + n) |> fset p CMP.STATUS_VFY_PEND 0
            |> (if allStored d then cnt p CMP.STORED_RECORDS CMP.kCNT_SAT else id)) s

/-- The check of a record at the start of what is left of an input, or its code (R408); its data, its bytes and U. -/
def checkRecord (j : LaneJob) (left : List Nat) : Except Nat (Inf × Nat) :=
  let d := ofBe ((left.drop 4).take 4)
  if left.length < 20 || left.length < 20 + d then .error 0x06
  else if ofBe (left.take 2) ≠ 0x434D || left.getD 3 0 ≠ 1 || crc16 (bytesBits (left.take 10)) ≠ ofBe ((left.drop 10).take 2) then .error 0x01
  else match inflate ((left.drop 12).take d) with
    | .error .invalid => .error 0x02
    | .error .short => .error 0x03
    | .ok x =>
      if (x.pos + 7) / 8 ≠ d then .error 0x03
      else if x.n ≠ ofBe ((left.drop (16 + d)).take 4) then .error 0x04
      else if crc32c x.bytes ≠ ofBe ((left.drop (12 + d)).take 4) then .error 0x05
      else .ok (x, if j.align then (20 + d + 2047) / 2048 * 2048 else 20 + d)

/-- Input bytes of a record whose output lies within its first `n` bytes (R403). -/
def inputFor (x : Inf) (n : Nat) : Nat :=
  match x.marks.find? (fun m => decide (m.1 ≤ n)) with | some m => 12 + m.2 / 8 | none => 0

/-- The input ends: at SRC_LEN, or with ALIGN at a boundary where no record begins (R407). -/
def inputEnds (l : Nat) (s : State) : Bool :=
  let j := s.cjob l
  decide (j.srcLen ≤ j.taken) ||
    (j.align && decide (j.taken + 2 ≤ j.srcLen) && bufByte (j.src + j.taken) s == 0 && bufByte (j.src + j.taken + 1) s == 0)

/-- An inflate job's record (R407, R408). -/
def inflateRecord (l : Nat) (s : State) : State :=
  let p := CMP.page l
  let j := s.cjob l
  if inputEnds l s then s
  else match bufRead (j.src + j.taken) (j.srcLen - j.taken) s with
    | none => jobError l 0x08 s
    | some left =>
      match checkRecord j left with
      | .error c => jobError l c s
      | .ok (x, n) =>
        let bs := x.bytes.drop j.recOut
        recordOut l (j.taken + inputFor x (j.recOut + legRoom l s)) bs (fun t =>
          t |> takeInput l (min n (j.srcLen - j.taken)) |> setCjob l { j with taken := min j.srcLen (j.taken + n), recIx := j.recIx + 1, recOut := 0 }
            |> fset p CMP.RECORDS (j.recIx + 1) |> fset p CMP.IN_CONSUMED (min j.srcLen (j.taken + n))) s

/-- RECORD_COMPLETE (R406, R408). -/
def execRecordComplete (lane : Fin 4) (taken : Nat) (deflate : List (BitVec 8)) (s : State) : Res :=
  .next (if laneState lane s ≠ 1 then s
    else if (s.cjob lane).inflate then inflateRecord lane s
    else compressRecord lane taken (deflate.map BitVec.toNat) s)

/-- The pending flush complete (R401). -/
def flushDone (l taken : Nat) (s : State) : State :=
  let p := CMP.page l
  s |> setCjob l { s.cjob l with flush := none } |> fset p CMP.FLUSH_IN taken |> fset p CMP.FLUSH_OUT (fget p CMP.OUT_PRODUCED s)
    |> fset p CMP.STATUS_FLUSH_PEND 0 |> raise p CMP.iFLUSHED

/-- JOB_DONE (R404, R407): a flush pending is satisfied by the job's end. -/
def execJobDone (lane : Fin 4) (mbps : BitVec 16) (s : State) : Res :=
  let p := CMP.page lane
  let j := s.cjob lane
  let ended : Bool := decide (j.recOut = 0) && (if j.inflate then inputEnds lane s else decide (j.taken = j.srcLen) && decide (j.recIx ≠ 0))
  .next (if laneState lane s = 1 && ended then
    s |> setLaneState lane 3 |> raise p CMP.iDONE |> cnt p CMP.JOBS CMP.kCNT_SAT |> fset p CMP.IN_CONSUMED j.taken
      |> (if j.inflate then id else fset p CMP.RATE_LAST mbps.toNat) |> (if j.flush.isSome then flushDone lane j.taken else id)
  else s)

/-- OUTPUT_EXHAUSTED (R403): what fits of the record's output so far is written, and the lane stops. -/
def execOutputExhausted (lane : Fin 4) (taken : Nat) (out : List (BitVec 8)) (s : State) : Res :=
  let j := s.cjob lane
  let bs := (out.map BitVec.toNat).drop j.recOut
  .next (if laneState lane s ≠ 1 || bs.length ≤ legRoom lane s then s
    else if j.inflate then inflateRecord lane s
    else recordOut lane (pieceEnd j taken) bs id s)

/-- JOB_RESUME (R403, R404). -/
def execJobResume (lane : Fin 4) (s : State) : Res :=
  .next (if laneState lane s = 2 then s |> latchLeg lane |> setLaneState lane 1 else sticky (CMP.page lane) CMP.kRESUME_REJ s)

/-- A running or stopped job aborted (R404). -/
def jobAbort (l : Nat) (s : State) : State :=
  let p := CMP.page l
  if laneState l s = 1 || laneState l s = 2 then
    s |> setLaneState l 5 |> raise p CMP.iABORTED |> setCjob l { s.cjob l with flush := none } |> fset p CMP.STATUS_FLUSH_PEND 0
      |> fset p CMP.STATUS_VFY_PEND 0 |> emit 0x4203 srcDecode l (fget p CMP.OUT_PRODUCED s) (s.cjob l).tag
  else s

/-- JOB_ABORT (R404). -/
def execJobAbort (lane : Fin 4) (off : Bool) (s : State) : Res :=
  .next (jobAbort lane (if off then fset (CMP.page lane) CMP.CTRL_EN 0 s else s))

/-- A flush asked for (R401). -/
def askFlush (l : Nat) (record : Bool) (s : State) : State :=
  let p := CMP.page l
  let j := s.cjob l
  if laneState l s = 1 && !j.inflate && j.flush.isNone then s |> setCjob l { j with flush := some record } |> fset p CMP.STATUS_FLUSH_PEND 1
  else sticky p CMP.kFLUSH_REJ s

/-- BLOCK_FLUSH (R401). -/
def execBlockFlush (lane : Fin 4) (s : State) : Res := .next (askFlush lane false s)

/-- RECORD_FLUSH (R401). -/
def execRecordFlush (lane : Fin 4) (s : State) : Res := .next (askFlush lane true s)

/-- FLUSH_COMPLETE (R401): with no room for the output it completes after the resumption. -/
def execFlushComplete (lane : Fin 4) (taken : Nat) (out : List (BitVec 8)) (s : State) : Res :=
  let j := s.cjob lane
  let bs := (out.map BitVec.toNat).drop j.recOut
  .next (if laneState lane s ≠ 1 || j.flush.isNone then s
    else recordOut lane (pieceEnd j taken) bs (fun t =>
      t |> setCjob lane { t.cjob lane with recOut := j.recOut + bs.length } |> flushDone lane taken) s)

end Sys2Proof.Machine
end

