-- ==== Sys2Proof/Machine/Aes.lean ====
section
/-!
DEFINITION. AES-256 (FIPS 197), XTS (IEEE 1619) and key wrap (SP 800-38F), the standards R512 and R510 name, over lists of
bytes.
-/
namespace Sys2Proof.Machine

/-! ## The field and the S-box -/

/-- Multiplication by x in GF(2^8). -/
def xtime (a : Nat) : Nat := if a < 128 then 2 * a else (2 * a) ^^^ 0x11B

/-- Multiplication in GF(2^8). -/
def gmul (a b : Nat) : Nat :=
  ((List.range 8).foldl (fun (acc : Nat × Nat) i => (if b.testBit i then acc.1 ^^^ acc.2 else acc.1, xtime acc.2)) (0, a)).1

/-- The inverse in GF(2^8), 0 for 0: a^254. -/
def ginv (a : Nat) : Nat :=
  let a2 := gmul a a
  let a4 := gmul a2 a2
  let a8 := gmul a4 a4
  let a16 := gmul a8 a8
  let a32 := gmul a16 a16
  let a64 := gmul a32 a32
  let a128 := gmul a64 a64
  gmul a128 (gmul a64 (gmul a32 (gmul a16 (gmul a8 (gmul a4 a2)))))

/-- A byte rotated left. -/
def rotl8 (a n : Nat) : Nat := (a * 2 ^ n + a / 2 ^ (8 - n)) % 256

/-- The S-box. -/
def subByte (a : Nat) : Nat :=
  let b := ginv a
  b ^^^ rotl8 b 1 ^^^ rotl8 b 2 ^^^ rotl8 b 3 ^^^ rotl8 b 4 ^^^ 0x63

/-- The S-box as a table. -/
def sbox : List Nat := (List.range 256).map subByte

/-- The inverse S-box as a table. -/
def sboxInv : List Nat := (List.range 256).map (fun v => sbox.idxOf v)

/-- Bytes added. -/
def xorBytes (a b : List Nat) : List Nat := List.zipWith (· ^^^ ·) a b

/-! ## The cipher -/

/-- The next word of the key schedule of AES-256, from the words so far, newest first. -/
def nextKeyWord (i : Nat) (ws : List (List Nat)) (rcon : Nat) : List Nat :=
  let t := ws.getD 0 []
  let t := if i % 8 = 0 then xorBytes ((t.drop 1 ++ t.take 1).map (fun b => sbox.getD b 0)) [ rcon, 0, 0, 0 ]
    else if i % 8 = 4 then t.map (fun b => sbox.getD b 0) else t
  xorBytes (ws.getD 7 []) t

/-- The 15 round keys of a 32-byte key. -/
def roundKeys (key : List Nat) : List (List Nat) :=
  let w0 := (List.range 8).map (fun i => (key.drop (4 * i)).take 4)
  let ws := ((List.range 52).foldl (fun (acc : List (List Nat) × Nat) j =>
    let i := j + 8
    (nextKeyWord i acc.1 acc.2 :: acc.1, if i % 8 = 0 then xtime acc.2 else acc.2)) (w0.reverse, 1)).1.reverse
  (List.range 15).map (fun r => ((ws.drop (4 * r)).take 4).flatten)

/-- ShiftRows, on a state of 16 bytes by columns. -/
def shiftRows (s : List Nat) : List Nat := (List.range 16).map (fun i => s.getD ((i + 4 * (i % 4)) % 16) 0)

/-- The inverse of ShiftRows. -/
def unshiftRows (s : List Nat) : List Nat := (List.range 16).map (fun i => s.getD ((i + 12 * (i % 4)) % 16) 0)

/-- A column times the circulant of four coefficients. -/
def mixWith (c : List Nat) (s : List Nat) : List Nat :=
  (List.range 16).map (fun i => (List.range 4).foldl (fun a j => a ^^^ gmul (c.getD ((j + 4 - i % 4) % 4) 0) (s.getD (i / 4 * 4 + j) 0)) 0)

/-- AES-256 encryption of a block under its round keys. -/
def aesEnc (ks : List (List Nat)) (b : List Nat) : List Nat :=
  let s := xorBytes b (ks.getD 0 [])
  let s := (List.range 13).foldl (fun t r =>
    xorBytes (mixWith [ 2, 3, 1, 1 ] (shiftRows (t.map (fun x => sbox.getD x 0)))) (ks.getD (r + 1) [])) s
  xorBytes (shiftRows (s.map (fun x => sbox.getD x 0))) (ks.getD 14 [])

/-- AES-256 decryption of a block under its round keys. -/
def aesDec (ks : List (List Nat)) (b : List Nat) : List Nat :=
  let un := fun (t : List Nat) => (unshiftRows t).map (fun x => sboxInv.getD x 0)
  let s := un (xorBytes b (ks.getD 14 []))
  let s := (List.range 13).foldl (fun t r => un (mixWith [ 14, 11, 13, 9 ] (xorBytes t (ks.getD (13 - r) [])))) s
  xorBytes s (ks.getD 0 [])

/-! ## XTS (R512) -/

/-- The tweak doubled, little-endian. -/
def doubleTweak (t : List Nat) : List Nat :=
  let v := 2 * ofLe t
  leBytes 16 (if v < 2 ^ 128 then v else v ^^^ (2 ^ 128 + 0x87))

/-- Blocks of a data unit under a cipher, the tweak doubling from block to block. -/
def xtsBlocks (f : List Nat → List Nat) : Nat → List Nat → List Nat → List Nat
  | 0, _, _ => []
  | n + 1, t, d => xorBytes (f (xorBytes (d.take 16) t)) t ++ xtsBlocks f n (doubleTweak t) (d.drop 16)

/-- One payload of 2,048 bytes, under a 64-byte disc key and the PSA of its sector (R60, R512). -/
def xts (enc : Bool) (key : List Nat) (psa : Nat) (d : List Nat) : List Nat :=
  let k1 := roundKeys (key.take 32)
  let k2 := roundKeys ((key.drop 32).take 32)
  xtsBlocks (if enc then aesEnc k1 else aesDec k1) (d.length / 16) (aesEnc k2 (leBytes 16 psa)) d

/-! ## Key wrap -/

/-- One step of KW: A and R_1 to R_n, with counter t on place i. -/
def kwStep (ks : List (List Nat)) (x : List Nat × List (List Nat)) (t i : Nat) : List Nat × List (List Nat) :=
  let b := aesEnc ks (x.1 ++ x.2.getD i [])
  (xorBytes (b.take 8) (beBytes 8 t), x.2.set i (b.drop 8))

/-- One step of KW undone. -/
def kwUnstep (ks : List (List Nat)) (x : List Nat × List (List Nat)) (t i : Nat) : List Nat × List (List Nat) :=
  let b := aesDec ks (xorBytes x.1 (beBytes 8 t) ++ x.2.getD i [])
  (b.take 8, x.2.set i (b.drop 8))

/-- KW of a key of whole 8-byte blocks under a 32-byte key. -/
def kwWrap (kek d : List Nat) : List Nat :=
  let ks := roundKeys kek
  let n := d.length / 8
  let r := (List.range n).map (fun i => (d.drop (8 * i)).take 8)
  let e := (List.range (6 * n)).foldl (fun x j => kwStep ks x (j + 1) (j % n)) (List.replicate 8 0xA6, r)
  e.1 ++ e.2.flatten

/-- KW undone, or none when the integrity check fails. -/
def kwUnwrap (kek d : List Nat) : Option (List Nat) :=
  let ks := roundKeys kek
  let n := d.length / 8 - 1
  let r := (List.range n).map (fun i => (d.drop (8 * (i + 1))).take 8)
  let e := (List.range (6 * n)).foldl (fun x j => kwUnstep ks x (6 * n - j) ((6 * n - 1 - j) % n)) (d.take 8, r)
  if e.1 = List.replicate 8 0xA6 then some e.2.flatten else none

end Sys2Proof.Machine
end

