-- ==== Sys2Proof/Machine/Ldpc.lean ====
section
/-!
DEFINITION. The row code: the quasi-cyclic LDPC code of length 24,576, its parity and its layered normalised min-sum
decoding (R288 to R291, R325).
-/
namespace Sys2Proof.Machine

/-- Shift of block (i, j) of H, or none for a zero block (R288). -/
def blockShift (i j : Nat) : Option Nat :=
  if j < 40 then
    let d := (i + 48 - j) % 8
    if d = 0 || d = 1 || d = 3 || d = 5 then some ((37 * i * j + 11 * j + 5 * i) % 512) else none
  else if j = 40 then (if i = 0 then some 1 else if i = 4 then some 0 else if i = 7 then some 1 else none)
  else if i = j - 41 || i = j - 40 then some 0 else none

/-- The columns of H in which check `r` of block row `i` has a 1. -/
def checkCols (i r : Nat) : List Nat :=
  (List.range 48).filterMap (fun j => (blockShift i j).map (fun sh => 512 * j + (r + sh) % 512))

/-- Whether a check is unsatisfied by hard decisions. -/
def checkOdd (bits : Array Bool) (i r : Nat) : Bool :=
  ((checkCols i r).filter (fun c => bits.getD c false)).length % 2 = 1

/-- The number of unsatisfied checks. -/
def unsatisfied (bits : Array Bool) : Nat := ((List.range 4096).filter (fun k => checkOdd bits (k / 512) (k % 512))).length

/-- Hard decisions: 1 when P < 0 (R290). -/
def hardBits (p : Array Int) : Array Bool := p.map (fun v => decide (v < 0))

/-- round(NORM / 16 × v), half away from zero, for v ≥ 0. -/
def normed (norm v : Nat) : Nat := (2 * norm * v + 16) / 32

/-- R of each bit of a check from the q of all its bits (R290). -/
def checkMsgs (norm : Nat) (qs : List Int) : List Int :=
  (List.range qs.length).map (fun k =>
    let os := qs.eraseIdx k
    let m := os.foldl (fun a q => min a q.natAbs) (2 ^ 16)
    let neg := (os.filter (fun q => decide (q < 0))).length % 2 = 1
    let v : Int := min 31 (normed norm m)
    if neg then -v else v)

/-- A decoder core's working values: P by bit, R by check, and whether P has saturated. -/
structure LdpcSt where
  p : Array Int
  r : Array (List Int)
  sat : Bool

/-- One check of a layer (R290). -/
def ldpcCheck (norm : Nat) (x : LdpcSt) (k : Nat) : LdpcSt :=
  let cols := checkCols (k / 512) (k % 512)
  let old := x.r.getD k []
  let qs := (List.range cols.length).map (fun n => x.p.getD (cols.getD n 0) 0 - old.getD n 0)
  let rs := checkMsgs norm qs
  let ps := List.zipWith (· + ·) qs rs
  { p := (cols.zip ps).foldl (fun a cv => a.setIfInBounds cv.1 (clampI (-511) 511 cv.2)) x.p
    r := x.r.setIfInBounds k rs
    sat := x.sat || ps.any (fun v => decide (511 < v.natAbs)) }

/-- One iteration: block rows 0 to 7 in order. -/
def ldpcIter (norm : Nat) (x : LdpcSt) : LdpcSt := (List.range 4096).foldl (ldpcCheck norm) x

/-- The decoder's settings (R290 to R292). -/
structure LdpcCfg where
  maxIter : Nat
  norm : Nat
  stallStart : Nat
  stallIter : Nat

/-- How a codeword's decoding ended: converged, iterations, hard decisions, and P's saturation. -/
structure LdpcEnd where
  ok : Bool
  iters : Nat
  bits : Array Bool
  sat : Bool

/-- Iterations from the one after `done`; `best` is the lowest earlier count and `stall` the run without a new lowest. -/
def ldpcLoop (c : LdpcCfg) : Nat → Nat → Nat → Nat → LdpcSt → LdpcEnd
  | 0, done, _, _, x => ⟨false, done, hardBits x.p, x.sat⟩
  | fuel + 1, done, best, stall, x =>
    let y := ldpcIter c.norm x
    let bits := hardBits y.p
    let n := unsatisfied bits
    let run := if c.stallStart ≤ done + 1 && decide (best ≤ n) then stall + 1 else 0
    if n = 0 then ⟨true, done + 1, bits, y.sat⟩
    else if c.stallIter ≠ 0 && decide (c.stallIter ≤ run) then ⟨false, done + 1, bits, y.sat⟩
    else ldpcLoop c fuel (done + 1) (min best n) run y

/-- A codeword's decoding from its input values (R290, R291). -/
def ldpcDecode (c : LdpcCfg) (llrs : List Int) : LdpcEnd :=
  let x : LdpcSt := ⟨llrs.toArray, (List.replicate 4096 []).toArray, false⟩
  let n := unsatisfied (hardBits x.p)
  if n = 0 then ⟨true, 0, hardBits x.p, false⟩ else ldpcLoop c c.maxIter 0 n 0 x

/-- The first `n` bytes of a codeword's bits, most significant bit first (R289). -/
def bitsBytes (n : Nat) (bits : Array Bool) : List Nat :=
  (List.range n).map (fun k => ofBits ((List.range 8).map (fun i => bits.getD (8 * k + i) false)))

/-! ## Parity (R325) -/

/-- P_s of a 512-bit vector: element r takes element (r + s) mod 512. -/
def rotVec (sh : Nat) (v : List Bool) : List Bool := v.drop (sh % 512) ++ v.take (sh % 512)

/-- Exclusive or of two vectors. -/
def xorVec (a b : List Bool) : List Bool := List.zipWith (fun x y => x != y) a b

/-- The zero vector. -/
def zeroVec : List Bool := List.replicate 512 false

/-- lam[i] of the information bits. -/
def lamVec (bits : List Bool) (i : Nat) : List Bool :=
  (List.range 40).foldl (fun a j => match blockShift i j with
    | some sh => xorVec a (rotVec sh ((bits.drop (512 * j)).take 512))
    | none => a) zeroVec

/-- p[1] to p[7] from p[0], in order. -/
def parityTail (lam : Nat → List Bool) (p0 : List Bool) : List (List Bool) :=
  ((List.range 7).foldl (fun (acc : List (List Bool)) i =>
    let prev := acc.headD zeroVec
    let v := if i = 0 then xorVec (lam 0) (rotVec 1 p0)
      else xorVec (xorVec (lam i) prev) (if i = 4 then p0 else zeroVec)
    v :: acc) []).reverse

/-- The 512 parity bytes of 2,560 information bytes. -/
def ldpcParity (info : List Nat) : List Nat :=
  let bits := bytesBits info
  let lam := lamVec bits
  let p0 := (List.range 8).foldl (fun a i => xorVec a (lam i)) zeroVec
  bitsBytes 512 (p0 ++ (parityTail lam p0).flatten).toArray

end Sys2Proof.Machine
end

