-- ==== Sys2Proof/Machine/ReedSolomon.lean ====
section
/-!
DEFINITION. The column code RS(240,208) over GF(2^8): parity, and decoding of errors and erasures (R287, R295).
Polynomials are lists of coefficients, the lowest degree first.
-/
namespace Sys2Proof.Machine

/-- a × b with `n` bits of b left, in GF(2^8) with 0x11D. -/
def gfMulN : Nat → Nat → Nat → Nat
  | 0, _, _ => 0
  | n + 1, a, b =>
    let a2 := if 128 ≤ a then (2 * a) ^^^ 0x11D else 2 * a
    (if b % 2 = 1 then a else 0) ^^^ gfMulN n a2 (b / 2)

/-- Product in GF(2^8). -/
def gfMul (a b : Nat) : Nat := gfMulN 8 (a % 256) (b % 256)

/-- Power in GF(2^8). -/
def gfPow (a : Nat) : Nat → Nat
  | 0 => 1
  | n + 1 => gfMul a (gfPow a n)

/-- Inverse in GF(2^8); 0 for 0. -/
def gfInv (a : Nat) : Nat := gfPow a 254

/-- α^n. -/
def alpha (n : Nat) : Nat := gfPow 2 (n % 255)

/-- Sum of polynomials. -/
def polyAdd : List Nat → List Nat → List Nat
  | [], q => q
  | p, [] => p
  | a :: p, b :: q => (a ^^^ b) :: polyAdd p q

/-- A polynomial times a constant. -/
def polyScale (k : Nat) (p : List Nat) : List Nat := p.map (gfMul k)

/-- Product of polynomials. -/
def polyMul : List Nat → List Nat → List Nat
  | [], _ => []
  | a :: p, q => polyAdd (polyScale a q) (0 :: polyMul p q)

/-- Without zero coefficients at the top. -/
def polyTrim (p : List Nat) : List Nat := (p.reverse.dropWhile (· == 0)).reverse

/-- One more than the degree; 0 for the zero polynomial. -/
def polyLen (p : List Nat) : Nat := (polyTrim p).length

/-- Value at a point. -/
def polyEval (p : List Nat) (x : Nat) : Nat := p.foldr (fun a v => a ^^^ gfMul x v) 0

/-- Formal derivative: the odd coefficients. -/
def polyDeriv (p : List Nat) : List Nat := (List.range (p.length - 1)).map (fun i => if i % 2 = 0 then p.getD (i + 1) 0 else 0)

/-- Quotient and remainder, in at most `fuel` steps. -/
def polyDivMod : Nat → List Nat → List Nat → List Nat × List Nat
  | 0, a, _ => ([], a)
  | fuel + 1, a, b =>
    let a := polyTrim a
    let b := polyTrim b
    if b = [] || decide (a.length < b.length) then ([], a)
    else
      let m := List.replicate (a.length - b.length) 0 ++ [ gfMul (a.getLastD 0) (gfInv (b.getLastD 0)) ]
      let (q, r) := polyDivMod fuel (polyAdd a (polyMul m b)) b
      (polyAdd m q, r)

/-- g(x) = (x − α^0) … (x − α^31) (R287). -/
def rsGenerator : List Nat := (List.range 32).foldl (fun g i => polyMul [ alpha i, 1 ] g) [ 1 ]

/-- The 32 parity bytes, rows 208 to 239, of the 208 bytes of a column. -/
def rsParity (col : List Nat) : List Nat :=
  let r := (polyDivMod 300 (List.replicate 32 0 ++ col.reverse) rsGenerator).2
  (List.range 32).map (fun i => r.getD (31 - i) 0)

/-- The 32 syndromes of a column of 240 bytes; row r is the coefficient of x^(239 − r). -/
def syndromes (col : List Nat) : List Nat := (List.range 32).map (fun i => polyEval col.reverse (alpha i))

/-- The extended Euclidean step of the key equation: remainder and multiplier once the remainder is short enough. -/
def keyEq (lim : Nat) : Nat → List Nat → List Nat → List Nat → List Nat → List Nat × List Nat
  | 0, _, r1, _, t1 => (r1, t1)
  | fuel + 1, r0, r1, t0, t1 =>
    if polyLen r1 ≤ lim then (r1, t1)
    else
      let (q, r) := polyDivMod 64 r0 r1
      keyEq lim fuel r1 r t1 (polyAdd t0 (polyMul q t1))

/-- A column's correction: the bytes changed to a codeword with e errors outside the f erased rows, 2e + f ≤ 32. -/
def rsCorrect (col : List Nat) (erased : List Nat) : Option (List Nat × Nat) :=
  let f := erased.length
  let s := syndromes col
  if 32 < f then none
  else if s.all (· == 0) then some (col, 0)
  else
    let gam := erased.foldl (fun g r => polyMul [ 1, alpha (239 - r) ] g) [ 1 ]
    let xi := (polyMul s gam).take 32
    let (om, sig) := keyEq ((32 + f) / 2) 40 (List.replicate 32 0 ++ [ 1 ]) xi [] [ 1 ]
    let lam := polyTrim (polyMul sig gam)
    let der := polyDeriv lam
    let fix := fun (r : Nat) =>
      let xi' := alpha (255 - (239 - r))
      if polyEval lam xi' = 0 then gfMul (alpha (239 - r)) (gfMul (polyEval om xi') (gfInv (polyEval der xi'))) else 0
    let out := (List.range 240).map (fun r => col.getD r 0 ^^^ fix r)
    let e := ((List.range 240).filter (fun r => decide (fix r ≠ 0) && !erased.contains r)).length
    if (syndromes out).all (· == 0) && decide (2 * e + f ≤ 32) then some (out, e) else none

end Sys2Proof.Machine
end

