-- ==== Sys2Proof/Machine/Cluster.lean ====
section
/-!
DEFINITION. A cluster's content: sectors, trailer, matrix and codewords, built and checked (R56 to R59, R287, R294 to R298).
-/
namespace Sys2Proof.Machine

/-! ## Sectors and the trailer (R56 to R58) -/

/-- A sector of 2,064 bytes: the header of R56, the payload and its check value. -/
def buildSector (psa lba flags stream wseq : Nat) (payload : List Nat) : List Nat :=
  let b := beBytes 4 psa ++ beBytes 4 lba ++ [ flags, stream ] ++ beBytes 2 (wseq % 65536) ++ (payload ++ List.replicate 2048 0).take 2048
  b ++ beBytes 4 (crc32c (beBytes 4 psa ++ b))

/-- The trailer of 512 bytes (R58). -/
def buildTrailer (psa kind home wseq discId mask : Nat) : List Nat :=
  let b := beBytes 4 0x444C4354 ++ beBytes 4 psa ++ beBytes 2 kind ++ beBytes 2 1 ++ beBytes 4 home ++ beBytes 8 wseq ++
    beBytes 8 discId ++ beBytes 4 mask ++ List.replicate 472 0
  b ++ beBytes 4 (crc32c (beBytes 4 psa ++ b))

/-- A sector passes R57 at the place addressed. -/
def sectorOk (psa : Nat) (b : List Nat) : Bool := crc32c (beBytes 4 psa ++ b.take 2060) == ofBe (b.drop 2060)

/-- The trailer passes R58 at the place addressed. -/
def trailerOk (psa : Nat) (b : List Nat) : Bool := crc32c (beBytes 4 psa ++ b.take 508) == ofBe (b.drop 508)

/-- Bytes `o` to `o + n − 1` as a big-endian number. -/
def beAt (b : List Nat) (o n : Nat) : Nat := ofBe ((b.drop o).take n)

/-! ## Matrix and codewords (R59) -/

/-- Column `c` of the rows given, 320 bytes a row. -/
def column (rows : List Nat) (n c : Nat) : List Nat := (List.range n).map (fun r => rows.getD (320 * r + c) 0)

/-- The 240 rows: the 208 of sectors and trailer, and the parity rows. -/
def withParity (rows : List Nat) : List Nat :=
  let ps := (List.range 320).map (fun c => rsParity (column rows 208 c))
  rows ++ ((List.range 32).map (fun r => (List.range 320).map (fun c => (ps.getD c []).getD r 0))).flatten

/-- The 480 frames of 192 bytes of a cluster's 33 parts (R59). -/
def clusterFrames (sectors : List (List Nat)) (trailer : List Nat) : List (List Nat) :=
  let m := withParity (sectors.flatten ++ trailer)
  let cws := (List.range 30).map (fun w => let i := (m.drop (2560 * w)).take 2560; i ++ ldpcParity i)
  (cws.map (fun b => (List.range 16).map (fun f => (b.drop (192 * f)).take 192))).flatten

/-! ## Column decoding (R294 to R296) -/

/-- The column decoder's settings. -/
structure RsCfg where
  margin : Nat
  emax : Nat
  suspect : Nat

/-- A column's decoding: its bytes, the errors corrected, the erasures, and whether it failed. -/
structure ColEnd where
  bytes : List Nat
  e : Nat
  f : Nat
  bad : Bool

/-- 2e + f of a column; a failed one counts as 33. -/
def ColEnd.load (c : ColEnd) : Nat := if c.bad then 33 else 2 * c.e + c.f

/-- One column under R295. -/
def decodeColumn (cfg : RsCfg) (col : List Nat) (erased : List Nat) : ColEnd :=
  let f := erased.length
  match rsCorrect col erased with
  | none => ⟨col, 0, f, true⟩
  | some (out, e) =>
    if e ≤ cfg.emax && (decide (2 * e + f ≤ 32 - cfg.margin) || (e = 0 && decide (f ≤ 32))) then ⟨out, e, f, false⟩
    else ⟨col, 0, f, true⟩

/-- A column pass over the matrix; `gone r c` says which bytes are erased. -/
def columnPass (cfg : RsCfg) (rows : List Nat) (gone : Nat → Nat → Bool) : List ColEnd :=
  (List.range 320).map (fun c => decodeColumn cfg (column rows 240 c) ((List.range 240).filter (fun r => gone r c)))

/-- Bytes of a codeword's rows that accepted corrections changed as errors (R296). -/
def errorsIn (rows : List Nat) (cols : List ColEnd) (gone : Nat → Nat → Bool) (w : Nat) : Nat :=
  ((List.range 2560).filter (fun i =>
    let r := 8 * w + i / 320
    let c := i % 320
    let x := cols.getD c ⟨[], 0, 0, true⟩
    !x.bad && !gone r c && decide (x.bytes.getD r 0 ≠ rows.getD (320 * r + c) 0))).length

/-- What column decoding of a cluster leaves: the 208 rows, the worst 2e + f, and what the counters take. -/
structure MatrixEnd where
  rows : List Nat
  worst : Nat
  failed : Nat
  errs : Nat
  eras : Nat
  /-- Codewords declared falsely converged, with their counts. -/
  falses : List (Nat × Nat)

/-- Column decoding of 30 codewords: converged or not, information bytes, erasure flags (R294 to R296). -/
def decodeMatrix (cfg : RsCfg) (cws : List (Bool × List Nat × List Bool)) : MatrixEnd :=
  let rows := (cws.map (fun x => x.2.1)).flatten
  let okCw := fun w => (cws.getD w (false, [], [])).1
  let gone1 := fun (r _ : Nat) => !okCw (r / 8)
  let p1 := columnPass cfg rows gone1
  let falses := ((List.range 30).filter okCw).filterMap (fun w =>
    let n := errorsIn rows p1 gone1 w
    if cfg.suspect < n then some (w, n) else none)
  let gone2 := fun (r c : Nat) => !okCw (r / 8) || falses.any (fun x => x.1 == r / 8) ||
    ((cws.getD (r / 8) (false, [], [])).2.2).getD (320 * (r % 8) + c) false
  let cols := if falses = [] then p1 else columnPass cfg rows gone2
  { rows := ((List.range 208).map (fun r => (List.range 320).map (fun c => ((cols.getD c ⟨[], 0, 0, true⟩).bytes).getD r 0))).flatten
    worst := cols.foldl (fun a c => max a c.load) 0
    failed := (cols.filter ColEnd.bad).length
    errs := cols.foldl (fun a c => if c.bad then a else a + c.e) 0
    eras := cols.foldl (fun a c => if c.bad then a else a + c.f) 0
    falses := falses }

end Sys2Proof.Machine
end

