-- ==== Sys2Proof/Machine/Commands.lean ====
section
/-!
DEFINITION. The command layer's records: outstanding commands, their ranges and clusters, what a read transfers, and how
the end of a cluster reaches the commands that need it (R415, R416, R427, R428, R438, R439, R441).
-/
namespace Sys2Proof.Machine

/-- The command layer's record set. -/
def setCl (v : CmdSt) (s : State) : State := { s with cl := v }
/-- An outstanding command set. -/
def setCmd (t : Nat) (c : Cmd) (s : State) : State := setCl { s.cl with cmds := s.cl.cmds.insert t c } s
/-- An outstanding command changed. -/
def modCmd (t : Nat) (f : Cmd → Cmd) (s : State) : State :=
  match s.cl.cmds.find t with
  | some c => setCmd t (f c) s
  | none => s

/-- A disc is mounted (R601). -/
def discMounted (s : State) : Bool := fget FMT.page FMT.STATUS_STATE s == 2
/-- The mounted disc is a legacy one. -/
def legacyDisc (s : State) : Bool := fon FMT.page FMT.STATUS_LEGACY s
/-- The key by which cluster `k` is known: PSA of sector 0 of its home, or its first LBA on a legacy disc (R61, R428). -/
def homeAt (k : Nat) (s : State) : Nat := if legacyDisc s then 32 * k else psaCluster (lbaToPsa (32 * k))

/-! ## Ranges and order (R435, R438, R439, R441) -/

/-- Clusters a range touches. -/
def clustersIn (first n : Nat) : Nat := if n = 0 then 0 else (first + n - 1) / 32 + 1 - first / 32

/-- A command's part of cluster `k`: its sectors within the cluster. -/
def Cmd.part (c : Cmd) (k : Nat) : List Nat :=
  (List.range 32).filter (fun i => decide (c.first ≤ 32 * k + i) && decide (32 * k + i < c.first + c.sectors))

/-- Two commands' ranges share a sector. -/
def Cmd.meets (a b : Cmd) : Bool := decide (a.first < b.first + b.sectors) && decide (b.first < a.first + a.sectors)

/-- READ and VERIFY. -/
def Cmd.reads (c : Cmd) : Bool := c.op == 1 || c.op == 3
/-- READ, WRITE and VERIFY. -/
def Cmd.clustered (c : Cmd) : Bool := c.op == 1 || c.op == 2 || c.op == 3
/-- An inflating read (R437). -/
def Cmd.inflates (c : Cmd) : Bool := c.op == 1 && c.stream != 0 && !bit c.flags 3

/-- The commands accepted before the one with a tag and still outstanding, in order. -/
def before (t : Nat) (s : State) : List Cmd := (s.cl.order.takeWhile (· != t)).filterMap (fun x => s.cl.cmds.find x)

/-- What R439 asks before a command starts. -/
def inOrder (t : Nat) (c : Cmd) (s : State) : Bool :=
  if bit c.flags 5 then (before t s).isEmpty else (before t s).all (fun e => !bit e.flags 5)

/-- Held back by its frozen requester (R441 step 3). -/
def halted (c : Cmd) (s : State) : Bool :=
  fon TRF.page TRF.FREEZE_CFG_HALT s && match s.cl.frozen.find c.req with
    | some n => decide (n < c.n)
    | none => false

/-- A command whose cluster requests may start. -/
def mayStart (t : Nat) (c : Cmd) (s : State) : Bool := inOrder t c s && !halted c s

/-- A read request that may be served: no overlapping write accepted earlier is outstanding (R438). -/
def readable (r : ClReq) (s : State) : Bool :=
  match s.cl.cmds.find r.tag with
  | some c => !r.write && r.queued.isSome && mayStart r.tag c s && (before r.tag s).all (fun e => !(e.op == 2 && e.meets c))
  | none => false

/-! ## Transfers to the requester (R416, R427) -/

/-- A payload of 2,048 bytes. -/
def payload (e : ClusterEnd) (i : Nat) : List Nat := ((e.sectors.get i []) ++ List.replicate 2048 0).take 2048

/-- The bytes a read transfers for a cluster; none where it transfers nothing (R427). -/
def readBytes (c : Cmd) (k : Nat) (e : ClusterEnd) : Option (List Nat) :=
  let take := fun (m : Nat) => (c.part k).flatMap (fun i => if bit m i then payload e i else List.replicate 2048 0)
  match e.kind with
  | .good | .recovered => some (take e.written)
  | .blank => some (take 0)
  | .unrecovered => if bit c.flags 4 then some (take e.mask) else none
  | _ => none

/-- Bytes laid over segments from an offset; none where they reach beyond the segments fetched. -/
def segPieces : List (Nat × Nat) → Nat → List Nat → Option (List (Nat × List Nat))
  | [], _, bs => if bs = [] then some [] else none
  | (a, n) :: rest, off, bs =>
    if bs = [] then some []
    else if n ≤ off then segPieces rest (off - n) bs
    else
      let m := min (n - off) bs.length
      (segPieces rest 0 (bs.drop m)).map (fun ps => (a + off, bs.take m) :: ps)

/-- Where bytes at an offset of the transfer go (R415, R416). -/
def pieces (c : Cmd) (off : Nat) (bs : List Nat) : Option (List (Nat × List Nat)) :=
  if bit c.flags 0 then segPieces c.segs off bs else some [(c.host + off, bs)]

/-- Pieces written: to host memory for the host, to buffer memory for every other requester. -/
def writePieces (req : Nat) : List (Nat × List Nat) → State → Option State
  | [], s => some s
  | (a, bs) :: ps, s =>
    if req = 0 then writePieces req ps (send (.hostWrite a bs) s) else (bufWrite a bs s).bind (writePieces req ps)

/-- A cluster of a command counts as transferred, or as ended without. -/
def markMoved (t k : Nat) (s : State) : State := modCmd t (fun c => { c with moved := c.moved ++ [k] }) s

/-- The PCIe function may read and write host memory (R458). -/
def mayDma (s : State) : Bool := fon USB.page USB.PCIE_STATE_BME s

/-- Bytes sent to and received from the USB or USB4 host (R484). -/
def toHost (n : Nat) (s : State) : State := cnt64 USB.page USB.TO_HOST_LO USB.TO_HOST_HI USB.kCNT_SAT n s
/-- Bytes received. -/
def fromHost (n : Nat) (s : State) : State := cnt64 USB.page USB.FROM_HOST_LO USB.FROM_HOST_HI USB.kCNT_SAT n s
/-- Bytes counted on an MMC-based port's page (R484, R485). -/
def portMoved (port : Nat) (out : Bool) (n : Nat) (s : State) : State :=
  if port = 2 then cnt64 SATA.page SATA.BYTES_LO SATA.BYTES_HI SATA.kCNT_SAT n s else if out then toHost n s else fromHost n s

/-- Data bytes to the host on an MMC-based port. -/
def portBytes (port id : Nat) (bs : List Nat) (s : State) : State := s |> send (.portData port id bs) |> portMoved port true bs.length

/-- A cluster that has ended is transferred when its segments are known (R416, R427); on an MMC-based port the data go out in
LBA order (R464). -/
def transfer (t k : Nat) (s : State) : State :=
  match s.cl.cmds.find t with
  | none => s
  | some c =>
    match c.ends.find k with
    | none => s
    | some e =>
      if c.moved.contains k then s
      else if c.op ≠ 1 || c.inflates || c.phase = 2 then markMoved t k s
      else match readBytes c k e with
        | none => markMoved t k s
        | some bs =>
          match c.job with
          | some j =>
            if (List.range (k - c.first / 32)).all (fun i => c.moved.contains (c.first / 32 + i)) then
              s |> portBytes j.port j.id (if j.op = 0xBE then (c.part k).flatMap (fun i => e.sectors.get i []) else bs) |> markMoved t k
            else s
          | none =>
          if c.req = 0 && !mayDma s then s else
          match pieces c ((max c.first (32 * k) - c.first) * 2048) bs with
          | none => s
          | some ps =>
            match writePieces c.req ps s with
            | none => s |> modCmd t (fun c => { c with outcomes := c.outcomes ++ [0x70] }) |> markMoved t k
            | some u => u |> markMoved t k |> (if c.req = 0 then pmc 0x04 256 (bs.length / 2048) else id)
                |> (if c.req = 0 then toHost bs.length else id)

/-- Every cluster that can be transferred is, in LBA order. -/
def transferAll (t : Nat) (s : State) : State :=
  match s.cl.cmds.find t with
  | none => s
  | some c => c.ends.keys.foldl (fun u k => transfer t k u) s

/-! ## Ends of clusters (R309, R346, R356, R427) -/

/-- The pool's depth shown (R452). -/
def showPool (s : State) : State :=
  s |> fset ZRG.page ZRG.REQ_QUEUED s.cl.reqs.length |> fmax ZRG.page ZRG.REQ_MAX s.cl.reqs.length

/-- A request ends: it leaves the pool, and its command has the outcome. -/
def takeEnd (e : ClusterEnd) (s : State) (r : ClReq) : State :=
  let s := setCl { s.cl with reqs := s.cl.reqs.erase r } s |> showPool
  let s := modCmd r.tag (fun c => { c with ends := c.ends.insert r.cluster e, tLast := some s.time,
                                           tFirst := if r.write then c.tFirst else some (c.tFirst.getD s.time) }) s
  transferAll r.tag s

/-- A write's clusters are verified after recording (R356). -/
def wantsVerify (t : Nat) (s : State) : Bool :=
  fon ENC.page ENC.CTRL_AUTO_VFY s || match s.cl.cmds.find t with | some c => bit c.flags 2 | none => false

/-- The acceptance number of a request's command. -/
def reqN (r : ClReq) (s : State) : Nat := match s.cl.cmds.find r.tag with | some c => c.n | none => 0

/-- The write request of a cluster accepted first. -/
def firstWrite (home : Nat) (s : State) : Option ClReq :=
  let ws := s.cl.reqs.filter (fun r => r.home == home && r.write)
  ws.find? (fun r => ws.all (fun q => decide (reqN r s ≤ reqN q s)))

/-- A cluster's end reaches the commands that need it. -/
def deliver (home : Nat) (e : ClusterEnd) (s : State) : State :=
  let rs := s.cl.reqs.filter (fun r => r.home == home && readable r s)
  match e.kind with
  | .good | .recovered | .unrecovered | .blank => rs.foldl (takeEnd e) s
  | .written =>
    match firstWrite home s with
    | none => s
    | some r =>
      if wantsVerify r.tag s && !e.verified then
        setCl { s.cl with reqs := s.cl.reqs.map (fun x => if x = r then { x with recorded := true } else x) } s
      else takeEnd e s r
  | .writeFault => match firstWrite home s with | none => s | some r => takeEnd e s r
  | .keyRequired => (rs ++ s.cl.reqs.filter (fun r => r.home == home && r.write && r.queued.isSome)).foldl (takeEnd e) s

/-- Every cluster of a command has ended and has been transferred. -/
def clustersDone (t : Nat) (c : Cmd) (s : State) : Bool :=
  c.placed && s.cl.reqs.all (fun r => r.tag != t) &&
    (c.phase == 2 || (decide (clustersIn c.first c.sectors ≤ c.expanded) && c.ends.keys.all c.moved.contains))

end Sys2Proof.Machine
end

