-- ==== Sys2Proof/Machine/Disc.lean ====
section
/-!
DEFINITION. The disc in the drive: where clusters lie, the spare pools, the Disc Control Zone and its blocks, and how a
cluster's end reaches the command layer (R61 to R69, R309, R347 to R351).
-/
namespace Sys2Proof.Machine

/-- The disc record set. -/
def setDisc (v : DiscSt) (s : State) : State := { s with disc := v }

/-- Layers per side of the mounted disc. -/
def discLayers (s : State) : Nat := variantLayers s.disc.variant

/-- SEAL_x of a side: 0 open, 1 sealing, 2 sealed, 3 incomplete (R359). -/
def sealState (side : Nat) (s : State) : Nat := fget ENC.page (if side = 0 then ENC.STATUS_SEAL_0 else ENC.STATUS_SEAL_1) s

/-- SEAL_x set, on ENC and FMT; a change is an FMT cause (R359, R578). -/
def setSeal (side v : Nat) (s : State) : State :=
  let old := sealState side s
  let s := s |> fset ENC.page (if side = 0 then ENC.STATUS_SEAL_0 else ENC.STATUS_SEAL_1) v
    |> fset FMT.page (if side = 0 then FMT.SEAL_SEAL_0 else FMT.SEAL_SEAL_1) v
  if old = v then s else raise FMT.page FMT.iSEAL_CHANGE s

/-- A head is in service: not out by a failed bring-up or re-acquisition (R433). -/
def inService (h : Nat) (s : State) : Bool := !(s.head h).out

/-! ## The head over the disc (R257) -/

/-- The group that POS names. -/
def posGroup (h : Nat) (s : State) : Nat := groupOf (posTrack h s)

/-- The common page's position of D0: group, frame slot and, from the map, cluster slot and frame (R285). -/
def showSlot (h k : Nat) (s : State) : State :=
  let p := CHC.page h
  let g := posGroup h s
  let s := s |> fset p CHC.GROUP g |> fset p CHC.FSLOT k
  if fon (ACQ.page h) ACQ.MAP_STATE_VALID s then
    match mapAt (fget (ACQ.page h) ACQ.MAP_STATE_LAYER s) g k with
    | some (c, f) => s |> fset p CHC.CSLOT c |> fset p CHC.CFRAME f
    | none => fset p CHC.CFRAME 0 s
  else s

/-- PSA of sector 0 of the cluster slot of a beam's lane (R60, R256). -/
def beamPsa (h b : Nat) (s : State) : Nat := psaOf h (fget (ACQ.page h) ACQ.MAP_STATE_LAYER s) b (fget (CHC.page h) CHC.CSLOT s) 0

/-! ## Homes and replacements (R61, R62) -/

/-- Where the cluster whose home is at a PSA lies. -/
def placeOf (home : Nat) (s : State) : Nat := s.disc.defects.get home home

/-- The home of the cluster at a PSA. -/
def homeOf (psa : Nat) (s : State) : Nat :=
  match (s.disc.defects ++ s.disc.pending).find? (fun kv => kv.2 == psa) with
  | some (h, _) => h
  | none => psa

/-- The lane of a PSA, its layer and its side, as one number. -/
def laneKey (p : Nat) : Nat := psaSide p * 64 + psaLayer p * 8 + psaLane p

/-- The lowest slot of a lane's pool above every replacement named (R62), as a PSA. -/
def nextSpare (home : Nat) (s : State) : Option Nat :=
  let l := psaLayer home
  let used := (s.disc.defects.map Prod.snd ++ s.disc.pending.map Prod.snd ++ s.disc.named).filter
    (fun p => laneKey p == laneKey home && isSpare l (psaSlot p))
  let lo := used.foldl (fun a p => max a (psaSlot p + 1)) 0
  ((sparePool l).findSome? (fun r =>
    let k := max lo r.1
    if k < r.1 + r.2 then some k else none)).map (fun k => psaOf (psaSide home) l (psaLane home) k 0)

/-! ## The cipher (R512, R515) -/

/-- The disc's clusters are encrypted: the enforcement latch (R515). -/
def encrypted (s : State) : Bool := fon XTS.page XTS.STATUS_ENFORCED s

/-- A disc key is in the XTS unit. -/
def keyLoaded (s : State) : Bool := fon XTS.page XTS.STATUS_KEY_LOADED s

/-- User and replacement clusters of the disc can be recorded and their data delivered (R515). -/
def keyReady (s : State) : Bool := !encrypted s || keyLoaded s

/-- A payload enciphered for a sector, or unchanged on a plaintext disc (R512, R515). -/
def encipher (psa : Nat) (d : List Nat) (s : State) : List Nat := if encrypted s then xts true s.vault.discKey psa d else d

/-- A payload of a sector deciphered, or unchanged on a plaintext disc. -/
def decipher (psa : Nat) (d : List Nat) (s : State) : List Nat := if encrypted s then xts false s.vault.discKey psa d else d

/-- A command met an encrypted disc without its key (R321, R515). -/
def keyMissing (s : State) : State :=
  s |> raise XTS.page XTS.iKEY_MISSING |> fault XTS.page 0x01 |> cnt XTS.page XTS.KEY_MISS_CNT XTS.kCNT_SAT

/-! ## The Disc Control Zone (R63 to R69) -/

/-- DCZ slots of a side-layer, over its eight lanes. -/
def dczSlots : Nat := 8 * Area.dcz.slots

/-- Blank DCZ slots of a side-layer. -/
def dczBlank (side l : Nat) (s : State) : Nat := dczSlots - s.disc.dczUsed.get (8 * side + l) 0

/-- Slots of a layer kept for a sealing pass (R69). -/
def dczReserve (l : Nat) (s : State) : Nat :=
  if l = 0 then 4 else if (sealLayers s.disc.variant).contains l then 2 else 0

/-- The layer whose DCZ takes a block: its home's, or else the next layer's in ascending order, wrapping (R69). -/
def dczLayer (side home : Nat) (forSeal : Bool) (s : State) : Option Nat :=
  let n := discLayers s
  ((List.range n).map (fun i => (home + i) % n)).find? (fun l =>
    decide ((if forSeal then 0 else dczReserve l s) < dczBlank side l s))

/-- The PSA of the next blank DCZ slot of a side-layer: slots ascend, lane by lane. -/
def dczPsa (side l : Nat) (s : State) : Nat :=
  let n := s.disc.dczUsed.get (8 * side + l) 0
  psaOf side l (n % 8) (firstSlot l .dcz + n / 8) 0

/-- The 65,536 bytes of a block (R63). -/
def dczBytes (discId type seq side layer gen part parts : Nat) (payload : List Nat) : List Nat :=
  let h := beBytes 4 0x44435A42 ++ beBytes 2 type ++ beBytes 2 1 ++ beBytes 8 discId ++ beBytes 4 seq ++ [ side, layer ] ++
    beBytes 2 part ++ beBytes 2 parts ++ beBytes 2 0 ++ beBytes 4 gen ++ beBytes 4 payload.length ++ List.replicate 28 0
  let b := (h ++ payload ++ List.replicate 65472 0).take 65472
  b ++ sha3 b

/-- WSEQ (R348). -/
def wseq (s : State) : Nat := fget64 ENC.page ENC.WSEQ_LO ENC.WSEQ_HI s
/-- WSEQ set. -/
def setWseq (v : Nat) (s : State) : State := fset64 ENC.page ENC.WSEQ_LO ENC.WSEQ_HI v s

/-- Blank DCZ slots and spare slots of a side on the FMT page (R578), saturating. -/
def showFree (side : Nat) (s : State) : State :=
  let n := (List.range (discLayers s)).foldl (fun a l => a + dczBlank side l s) 0
  let used := ((s.disc.defects.map Prod.snd ++ s.disc.pending.map Prod.snd).filter (fun p => psaSide p == side)).length
  let per := Area.inner.slots + (Area.main.slots - userSlots)
  s |> fset FMT.page (if side = 0 then FMT.DCZ_FREE_0 else FMT.DCZ_FREE_1) (min n 65535)
    |> fset FMT.page (if side = 0 then FMT.SPARE_FREE_0 else FMT.SPARE_FREE_1) (8 * discLayers s * per - used)

/-- The 480 frames of a block of the DCZ (R63, R56 to R59). -/
def dczFrames (b : DczBlock) (w discId : Nat) : List (List Nat) :=
  let sec := (List.range 32).map (fun i => buildSector (b.psa + i) 0xFFFFFFFF 0 0 w ((b.payload.drop (2048 * i)).take 2048))
  clusterFrames sec (buildTrailer b.psa 2 0xFFFFFFFF w discId 0xFFFFFFFF)

/-- One part of a structure recorded in a DCZ block under the next sequence number, or none where R69 leaves no slot. -/
def recordPart (side home type layer gen part parts : Nat) (payload : List Nat) (forSeal : Bool) (s : State) : Option State :=
  (dczLayer side home forSeal s).map (fun l =>
    let d := s.disc
    let psa := dczPsa side l s
    let b : DczBlock := ⟨type, side, layer, gen, d.dczSeq, psa, dczBytes d.id type d.dczSeq side layer gen part parts payload⟩
    let w := wseq s
    s |> setDisc { d with blocks := d.blocks ++ [b], dczSeq := d.dczSeq + 1, written := d.written.insert psa w,
                          dczUsed := d.dczUsed.insert (8 * side + l) (d.dczUsed.get (8 * side + l) 0 + 1) }
      |> send (.recorded psa (dczFrames b w d.id))
      |> setWseq (w + 1) |> cnt ENC.page ENC.DCZ_BLOCKS ENC.kCNT_SAT |> showFree side)

/-- A structure of one part recorded. -/
def recordBlock (side home type layer gen : Nat) (payload : List Nat) (forSeal : Bool) (s : State) : Option State :=
  recordPart side home type layer gen 0 1 payload forSeal s

/-- The generation of a structure recorded last on a side, 0 for none. -/
def lastGen (side type layer : Nat) (s : State) : Nat :=
  (s.disc.blocks.filter (fun b => b.side == side && b.type == type && b.layer == layer)).foldl (fun a b => max a b.gen) 0

/-- The parts of a Defect List generation, 8,176 entries each, recorded in turn. -/
def recordParts (side layer gen parts : Nat) (forSeal : Bool) : Nat → List (Nat × Nat) → State → Option State
  | 0, _, s => some s
  | n + 1, es, s =>
    (recordPart side layer 3 layer gen (parts - (n + 1)) parts
      ((es.take 8176).flatMap (fun e => beBytes 4 e.1 ++ beBytes 4 e.2)) forSeal s).bind
        (recordParts side layer gen parts forSeal n (es.drop 8176))

/-- A new Defect List generation of a side-layer with its pending replacements, which then govern (R62 to R66, R311). -/
def recordDefects (side layer : Nat) (forSeal : Bool) (s : State) : Option State :=
  let mine := fun (kv : Nat × Nat) => psaSide kv.1 == side && psaLayer kv.1 == layer
  let all := (s.disc.pending.filter mine).foldl (fun m kv => Store.insert m kv.1 kv.2) s.disc.defects
  let es := all.filter mine
  let n := max 1 ((es.length + 8175) / 8176)
  let gen := lastGen side 3 layer s + 1
  (recordParts side layer gen n forSeal n es s).map (fun t =>
    t |> setDisc { t.disc with defects := all, pending := t.disc.pending.filter (fun kv => !mine kv) }
      |> fset FMT.page (FMT.DLGEN.ix (8 * side + layer)) gen |> emit 0x4009 srcDecode (8 * side + layer) gen 0)

/-- The bytes of a journal entry (R351). -/
def intentBytes (i : Intent) : List Nat :=
  [ i.op, i.state, i.side, i.layer ] ++ beBytes 4 i.gen ++ beBytes 4 i.seq ++ beBytes 8 i.a ++ beBytes 8 i.b ++ List.replicate 36 0

/-- A journal entry recorded in a block of its own; the generation counts the side's journal blocks. -/
def recordIntent (i : Intent) (forSeal : Bool) (s : State) : Option State :=
  let gen := (s.disc.blocks.filter (fun b => b.type == 4 && b.side == i.side)).length + 1
  let first := (s.disc.intents.filter (fun x => x.op == i.op && x.side == i.side && x.state == 1 && x.a == i.a && x.b == i.b)).getLast?
  let i := if i.state = 1 || i.op = 3 || i.op = 4 then { i with seq := s.disc.dczSeq } else { i with seq := (first.map Intent.seq).getD i.seq }
  (recordBlock i.side 0 4 0 gen (intentBytes i) forSeal s).map (fun t => setDisc { t.disc with intents := t.disc.intents ++ [i] } t)

/-- Whether an unreserved blank DCZ slot remains on a side (R69). -/
def dczLeft (side : Nat) (s : State) : Bool := (dczLayer side 0 false s).isSome

/-! ## How clusters end (R309, R346) -/

/-- A cluster's end handed to the command layer, by its home. A decoded cluster in a staging buffer reaches its commands
when it passes on to the line cache (R376). -/
def endCluster (psa : Nat) (e : ClusterEnd) (s : State) : State :=
  let p := psaCluster psa
  let home := homeOf p s
  let s := { s with ends := s.ends.insert home e }
  if e.kind = .good && s.mem.bufs.any (fun kv => kv.2.1 == p && !kv.2.2.2) then s else deliver home e s

/-- Whether a side counts as sealed for a relocation: sealed, sealing, mid-seal, or a SEAL waits (R311). -/
def sealedFor (side : Nat) (s : State) : Bool := decide (sealState side s ≠ 0) || bit s.disc.sealWait side

/-- Why a replacement is impossible: 0 none, 2 sealed, 3 no spare, 4 no DCZ slot (R311, R346). -/
def relocReason (home : Nat) (s : State) : Nat :=
  let side := psaSide home
  if sealedFor side s then 2 else if (nextSpare home s).isNone then 3 else if !dczLeft side s then 4 else 0

/-- A relocation queued, or refused with its reason (R311). -/
def queueReloc (psa : Nat) (sectors : List (List Nat)) (verify : Bool) (s : State) : State × Bool :=
  let home := homeOf psa s
  let r := if !fon DEC.page DEC.SQ_CFG_RELOC_EN s then 1 else relocReason home s
  if r = 0 then
    (s |> setDisc { s.disc with relocs := s.disc.relocs ++ [{ home := home, src := psa, sectors := sectors, verify := verify }] }
      |> cnt DEC.page DEC.RELOC_QUEUED DEC.kCNT_SAT |> raise DEC.page DEC.iRELOC
      |> emit 0x4008 srcDecode psa ((nextSpare home s).getD 0) 0, true)
  else (s |> cnt DEC.page DEC.RELOC_REFUSED DEC.kCNT_SAT |> emit 0x4008 srcDecode psa 0 r, false)

end Sys2Proof.Machine
end

