-- ==== Sys2Proof/Machine/Strategy.lean ====
section
/-!
DEFINITION. The write strategy: from channel bits to the symbols of R99 (R328 to R331).
-/
namespace Sys2Proof.Machine

/-- A strategy table (R360): offsets in T/32. -/
structure Strategy where
  /-- dS[sp][m] at 4(sp − 1) + m − 1. -/
  dS : List Int
  /-- dE[m][sn] at 4(m − 1) + sn − 1. -/
  dE : List Int
  ttop : Nat
  tlp : Nat
  tcool : Nat

/-- An offset as the strategy takes it: a signed byte, the nearer limit outside −32 to 31. -/
def stratOfs (v : Nat) : Int := clampI (-32) 31 (toSigned 8 v)

/-- Strategy table `t` of a head. -/
def strategyOf (h t : Nat) (s : State) : Strategy :=
  let p := LPW.page h
  let row := fun (fs : List Fld) (w : Nat) => fs.map (fun f => stratOfs (fget p (f.ix2 t w) s))
  ⟨(List.range 4).flatMap (row [ LPW.DS1, LPW.DS2, LPW.DS3, LPW.DS4 ]), (List.range 4).flatMap (row [ LPW.DE1, LPW.DE2, LPW.DE3, LPW.DE4 ]),
    fget p (LPW.TTOP.ix t) s, fget p (LPW.TLP.ix t) s, fget p (LPW.TCOOL.ix t) s⟩

/-- A table is invalid while its word 8 is zero (R331). -/
def stratValid (h t : Nat) (s : State) : Bool :=
  let p := LPW.page h
  fget p (LPW.TTOP.ix t) s ≠ 0 || fget p (LPW.TLP.ix t) s ≠ 0 || fget p (LPW.TCOOL.ix t) s ≠ 0

/-- Levels of R328. -/
def lvlBias : Nat := 2
/-- COOL. -/
def lvlCool : Nat := 3
/-- MID. -/
def lvlMid : Nat := 4
/-- PEAK. -/
def lvlPeak : Nat := 5
/-- LAST. -/
def lvlLast : Nat := 6

/-- The class of a run (R329). -/
def runClass (n : Nat) : Nat := min 4 (max 1 n)

/-- A mark: its first bit, its length, and the classes of the spaces before and after it. -/
structure MarkRun where
  start : Nat
  len : Nat
  sp : Nat
  sn : Nat

/-- The marks among runs that begin at a bit; `mark` says what the first run is, `prev` the class before it. -/
def marksOf : List Nat → Nat → Bool → Nat → List MarkRun
  | [], _, _, _ => []
  | n :: rs, at', mark, prev =>
    let rest := marksOf rs (at' + n) (!mark) (runClass n)
    if mark then ⟨at', n, prev, match rs with | [] => 4 | m :: _ => runClass m⟩ :: rest else rest

/-- S and E of a mark, in T/32 (R329). -/
def markS (t : Strategy) (m : MarkRun) : Int := 32 * m.start + t.dS.getD (4 * (m.sp - 1) + (runClass m.len - 1)) 0
/-- E of a mark. -/
def markE (t : Strategy) (m : MarkRun) : Int := 32 * (m.start + m.len) + t.dE.getD (4 * (runClass m.len - 1) + (m.sn - 1)) 0

/-- The transitions of marks in order: instant and the level after; a COOL segment ends at the next mark's S (R329). -/
def transitions (t : Strategy) : List MarkRun → List (Int × Nat)
  | [] => []
  | m :: ms =>
    let s := markS t m
    let e := markE t m
    let body := if m.len ≤ 2 || decide (e - t.tlp ≤ s + t.ttop) then [ (s, lvlPeak) ]
      else [ (s, lvlPeak), (s + t.ttop, lvlMid), (e - t.tlp, lvlLast) ]
    let cool := match ms with
      | [] => [ (e + t.tcool, lvlBias) ]
      | n :: _ => if markS t n < e + t.tcool then [] else [ (e + t.tcool, lvlBias) ]
    body ++ (e, lvlCool) :: cool ++ transitions t ms

/-- Symbols of `n` periods from period `p`: each with the transitions it moves on. `carry` are the levels moved on from
the period before (R330). -/
def periods : Nat → Nat → Nat → List Nat → List (Int × Nat) → List (Nat × Nat)
  | 0, _, _, _, _ => []
  | n + 1, p, lvl, carry, tr =>
    let here := tr.takeWhile (fun (x : Int × Nat) => decide (x.1 < 32 * ((p + 1 : Nat) : Int)))
    let rest := tr.drop here.length
    let all := carry.map (fun l => (0, l)) ++ here.map (fun (x : Int × Nat) => ((x.1 - 32 * (p : Int)).toNat, x.2))
    let fs := if p % 1680 = 0 then 1 else 0
    match all with
    | [] => (lvl * 512 + lvl * 64 + fs, 0) :: periods n (p + 1) lvl [] rest
    | (e, l) :: more =>
      (lvl * 512 + l * 64 + e * 2 + fs, if carry = [] then here.length - 1 else here.length) ::
        periods n (p + 1) l (more.map Prod.snd) rest

/-- The symbols of channel bits under a table, from BIAS, with the transitions moved in each period (R329, R330). -/
def symbolsOf (t : Strategy) (bits : List Bool) : List (Nat × Nat) :=
  periods bits.length 0 lvlBias [] (transitions t (marksOf (runLengths bits) 0 (bits.headD false) 4))

/-- The channel bits of a whole cluster slot: run-in, 480 frames, run-out (R53). -/
def clusterBits (frames : List (List Nat)) : List Bool :=
  runIn ++ (frames.mapIdx (fun f bs => frameBits f bs)).flatten ++ runOut

/-- The 1,680 symbols of slot `f` of a cluster. -/
def slotSymbols (t : Strategy) (frames : List (List Nat)) (f : Nat) : List (Nat × Nat) :=
  ((symbolsOf t (clusterBits frames)).drop (1680 * f)).take 1680

end Sys2Proof.Machine
end

