-- ==== Sys2Proof/Machine/Recording.lean ====
section
/-!
DEFINITION. Recording, slot by slot: what the write stream sends, how clusters end and how a recording ends or suspends
(R323, R327, R342 to R345).
-/
namespace Sys2Proof.Machine

/-- The frames of a cluster in emission. -/
def emissionFrames (e : Emission) (s : State) : List (List Nat) :=
  if e.dcz then
    match s.disc.blocks.find? (fun b => b.psa == e.psa) with
    | some b => dczFrames b e.wseq s.disc.id
    | none => []
  else match s.encoded.find? (fun c => c.psa == e.psa) with
    | some c => c.frames
    | none => []

/-- One beam's frame slot emitted (R99, R330). -/
def emitBeam (h : Nat) (s : State) (e : Emission) : State :=
  let ss := slotSymbols (strategyOf h (stratTable h s) s) (emissionFrames e s) e.frames
  let m := ss.foldl (fun a x => a + x.2) 0
  let s := s |> send (.symbols h (psaLane e.psa) (ss.map Prod.fst)) |> cnt64 (LPW.page h) LPW.FRAMES_LO LPW.FRAMES_HI LPW.kCNT_SAT 1
    |> cnt64 (HTX.page h) HTX.WR_SYM_CNT_LO HTX.WR_SYM_CNT_HI HTX.kCNT_SAT ss.length
  if m = 0 then s else s |> cntN (LPW.page h) LPW.EDGE_MERGE_CNT LPW.kCNT_SAT m |> sticky (LPW.page h) LPW.kEDGE_MERGE

/-- The high-water mark of a side-layer after a user cluster (R355). -/
def highWater (psa : Nat) (s : State) : State :=
  let l := psaLayer psa
  if isUser l (psaSlot psa) then
    let k := 8 * psaSide psa + l
    let u := psaSlot psa - mainStart l + 1
    setDisc { s.disc with highWater := s.disc.highWater.insert k (max u (s.disc.highWater.get k 0)), userWritten := true } s
  else s

/-- A cluster's run-out has been emitted: it is recorded, and its sectors leave staging (R327). -/
def clusterRecorded (s : State) (e : Emission) : State :=
  if e.dcz then s
  else
    { s with encoded := s.encoded.filter (fun c => c.psa != e.psa) }
      |> (fun t => setDisc { t.disc with written := t.disc.written.insert e.psa e.wseq } t)
      |> highWater e.psa |> endCluster e.psa { kind := .written }

/-- The emissions that begin at a cluster slot of a head's layer: the lanes with a cluster encoded for it. -/
def startSlot (h layer slot : Nat) (s : State) : List Emission :=
  (List.range 8).filterMap (fun b =>
    let p := psaOf h layer b slot 0
    (s.encoded.find? (fun c => c.psa == p)).map (fun c => { psa := p, home := c.home, wseq := c.wseq }))

/-- A recording that has nothing further to record ends. -/
def endRecording (h : Nat) (s : State) : State :=
  s |> showWriting h false |> setRec h { s.rec' h with emitting := [] }

/-- A frame slot emitted on every beam that has a cluster, and what follows at a cluster end: the next slot's clusters,
or the end of the recording. The position advances. -/
def slotEmitted (h : Nat) (s : State) : State :=
  let r := s.rec' h
  let layer := fget (ACQ.page h) ACQ.MAP_STATE_LAYER s
  let slot := fget (CHC.page h) CHC.CSLOT s
  let s := r.emitting.foldl (emitBeam h) (if r.emitting = [] then s else pmc 0x11 h 1 s)
  let em := r.emitting.map (fun e => { e with frames := e.frames + 1 })
  let ended := em.filter (fun e => decide (484 ≤ e.frames))
  let left := em.filter (fun e => decide (e.frames < 484))
  let s := ended.foldl clusterRecorded s
  let nxt := if ended = [] then left else left ++ startSlot h layer (slot + 1) s
  let s := setRec h { s.rec' h with emitting := nxt } s
  let s := if nxt = [] then endRecording h s else s
  showSlot h (fget (CHC.page h) CHC.FSLOT s + 1) s

/-- `n` frame slots emitted. -/
def slotsEmitted (h : Nat) : Nat → State → State
  | 0, s => s
  | n + 1, s => slotsEmitted h n (slotEmitted h s)

/-- Frame slots from a request in slot `f` of a cluster to the boundary at which a clean suspension takes effect: the end
of the slot, of slot 1 for slot 0, of the cluster for slots 482 and 483; cause 6 acts at cluster ends alone (R343). -/
def toBoundary (cause f : Nat) : Nat :=
  if cause = 6 || 482 ≤ f then 484 - f else if f = 0 then 2 else 1

/-- Clusters of the next slot begun at a boundary that is a cluster end go back to waiting. -/
def notBegun (h : Nat) (s : State) : State :=
  let r := s.rec' h
  setRec h { r with emitting := r.emitting.filter (fun e => decide (e.frames ≠ 0)) } s

/-- A clean suspension requested in frame slot `f` (R343): a failed gap jump's falls at the gap itself. -/
def requestSuspend (h cause : Nat) (s : State) : State :=
  let f := (((s.rec' h).emitting.head?).map Emission.frames).getD 0
  let slot := fget (CHC.page h) CHC.CSLOT s
  if !recording h s then s
  else if cause = 5 then suspend h cause slot s
  else
    let s := slotsEmitted h (toBoundary cause f) s
    if recording h s then s |> suspend h cause slot |> notBegun h else s

/-- RECORDING_SUSPEND (R343). -/
def execRecordingSuspend (head : Head) (cause : Fin 7) (s : State) : Res :=
  .next (if cause.val = 0 then s else requestSuspend head.n cause s)

end Sys2Proof.Machine
end

