-- ==== Sys2Proof/Machine/Spindle.lean ====
section
/-!
DEFINITION. The spindle: commutation unit, starts, speed control, braking, SPINCMD and its losses (R199 to R221).
-/
namespace Sys2Proof.Machine

/-! ## Currents (R207, R216) -/

/-- I_MAX, limited to the OTP phase-current limit (R207). -/
def iMax (s : State) : Nat := min (fget SPN.page SPN.CUR_CFG_I_MAX s) Config.phaseLimit

/-- PWM periods in a second (R201). -/
def pwmHz (s : State) : Nat := 1000 * clampN 20 80 (fget SPN.page SPN.PWM_CFG_FREQ_KHZ s)

/-- The largest braking current, mA, whose mechanical power is within LOSS_W: 1.5 × KE/√3 × i at the speed (R216). -/
def lossCurrent (s : State) : Nat :=
  let e := fget SPN.page SPN.MOTOR2_KE s * spinRpm s / 1000
  if e = 0 then iMax s else Nat.sqrt (4 * (fget SPN.page SPN.LOSS_CFG_LOSS_W s * 1000) ^ 2 / (3 * e ^ 2))

/-- The d-axis current, mA, that burns the braking power of `iq` in copper: 1.5 × RS × (id² + iq²) covers it (R216). -/
def lossId (iq : Nat) (s : State) : Nat :=
  let e := fget SPN.page SPN.MOTOR2_KE s * spinRpm s / 1000
  let p := Nat.sqrt (3 * e ^ 2 * iq ^ 2) + 1
  let need := p * 1000 / (3 * nz (fget SPN.page SPN.MOTOR_RS s)) + 1
  if need ≤ iq ^ 2 then 0 else Nat.sqrt (need - iq ^ 2) + 1

/-- Loss braking applies: the chopper is faulty and the bus rises, or CHOP_EN is 0; and it stands while the fault does
(R216). -/
def lossBraking (mv : Nat) (s : State) : Bool :=
  !fon SPN.page SPN.CTRL_CHOP_EN s ||
    (fon SPN.page SPN.STATUS_CHOP_FAULT s && (decide (fget SPN.page SPN.VBUS s < mv) || fon SPN.page SPN.STATUS_LOSS_BRAKE s))

/-- The current references put in force, with the braking rules of R208, R214, R216 and R217; `mv` is the bus. -/
def putRefs (iq : Int) (mv : Nat) (s : State) : State :=
  let p := SPN.page
  let sg : Int := if s.spin.obs < 0 then -1 else 1
  let brake := decide (iq * sg < 0)
  let m := iMax s
  let s := if m < iq.natAbs then sticky p SPN.kCUR_LIM s else s
  let iq := clampI (-m) m iq
  let iq := if brake && !fon p SPN.CTRL_BRAKE_EN s && getSpin s ≠ 8 then 0 else iq
  let loss := decide (iq * sg < 0) && lossBraking mv s
  let s := if loss && !fon p SPN.STATUS_LOSS_BRAKE s then emit 0x2104 srcSpin 0 (spinRpm s) mv s else s
  let s := fsetB p SPN.STATUS_LOSS_BRAKE loss s
  let hold := (s.spin.busHold || (loss && decide (fget p SPN.BRAKE_CFG_BRK_ON s < mv))) &&
    decide (fget p SPN.BRAKE_CFG_BRK_OFF s ≤ mv)
  let s := setSpin { s.spin with busHold := hold } s
  let iq := if hold && decide (iq * sg < 0) then 0 else iq
  let iq := if loss then sg * -(min iq.natAbs (lossCurrent s) : Nat) else iq
  let iq := if hold && loss then 0 else iq
  let id : Int := if loss && iq ≠ 0 then lossId iq.natAbs s else 0
  s |> fsetI SPS.page SPS.IQ_REF iq |> fsetI SPS.page SPS.ID_REF id
    |> setPort 8 0x88 (BitVec.ofInt 32 iq) |> setPort 8 0x89 (BitVec.ofInt 32 id)
    |> fsetB p SPN.STATUS_REGEN (decide (iq * sg < 0) && !loss)

/-- The speed loop of one PWM period towards `goal` rpm (R207): the ramped target, the PI controller, the limit. -/
def speedLoop (goal : Int) (mv : Nat) (s : State) : State :=
  let rate : Int := fget SPN.page SPN.RAMP_CFG_ACC s * 65536 / pwmHz s
  let by' := clampI (-rate) rate (goal * 65536 - s.spin.ramped)
  let r := s.spin.ramped + (if decide (0 < by') && fon PWR.page PWR.STATUS_VMOT_WARN s then 0 else by')
  let err := r / 4096 - s.spin.obs
  let scale : Int := Config.spdScale
  let i := s.spin.integ + fgetI SPS.page SPS.SPD_KI s * err * scale
  let lim : Int := (iMax s : Int) * 2 ^ 31
  let i := clampI (-lim) lim i
  let iq := shiftRound (fgetI SPS.page SPS.SPD_KP s * err * scale + i) 31
  s |> setSpin { s.spin with ramped := r, integ := i } |> fsetI SPS.page SPS.SPD_ERR err |> putRefs iq mv

/-- Zero-vector braking: all low-side gates on, no references (R203). -/
def zeroVector (s : State) : State :=
  s |> setSpin { s.spin with zeroVector := true, gates := true } |> fset SPS.page SPS.IQ_REF 0 |> fset SPS.page SPS.ID_REF 0
    |> fset SPN.page SPN.STATUS_OBS_LOCK 0 |> fset SPN.page SPN.STATUS_REGEN 0 |> fset SPN.page SPN.STATUS_LOSS_BRAKE 0

/-- The current vector of alignment is applied (R204 step 2). -/
def beginAlign (s : State) : State := s |> setSpin { s.spin with gates := true, zeroVector := false, integ := 0 } |> spinState 3

/-- Whether a speed in 1/16 rpm lies within `ppm` of a target in rpm. -/
def within (obs : Int) (target ppm : Nat) : Bool := decide ((obs - 16 * target).natAbs * 1000000 ≤ 16 * target * ppm)

/-- The checks of a running spindle: SPD_TOL (R207) and WR_TOL (R220). -/
def runChecks (s : State) : State :=
  let t := fget SPN.page SPN.SPEED_EFF_RPM s
  let s := if within s.spin.obs t (fget SPS.page SPS.SPD_TOL s) then s else fset SPN.page SPN.STATUS_SPEED_OK 0 s
  if anyWriting s && !within s.spin.obs t (fget SPS.page SPS.WR_TOL s) then
    s |> tripBoth |> emit 0x210B srcSpin 0 (spinRpm s) t
  else s

/-- What the spindle does in a PWM period, by STATE. -/
def pwmAct (mv : Nat) (s : State) : State :=
  let st := getSpin s
  let slow := decide (s.spin.obs.natAbs < 960)
  if st = 2 then
    if slow then beginAlign s
    else if s.spin.zeroVector then s
    else if s.spin.obs.natAbs ≤ 16 * handoffRpm s then zeroVector s
    else speedLoop 0 mv s
  else if st = 5 then s |> speedLoop (fget SPN.page SPN.SPEED_EFF_RPM s) mv |> runChecks
  else if st = 6 then
    if s.spin.zeroVector then s else if slow then zeroVector s else speedLoop 0 mv s
  else if st = 8 && s.spin.gates then putRefs (if slow then 0 else if s.spin.obs < 0 then iMax s else -(iMax s : Int)) mv s
  else s

/-- PWM_PERIOD (R199 to R202, R207). -/
def execPwmPeriod (m : PwmSample) (s : State) : Res :=
  let p := SPN.page
  if !fon p SPN.CTRL_EN s then .next (fset p SPN.VBUS m.mv s)
  else
    let n := if m.usable then 0 else s.spin.reuse + 1
    let s := if m.usable then setSpin { s.spin with iq := m.iq, id' := m.id' } s
      else s |> cnt p SPN.REUSE_CNT SPN.kCNT_SAT |> sticky p SPN.kREUSE
    let s := s |> setSpin { s.spin with reuse := n, obs := m.obs, cmp := m.cmp, raw := m.angle % 2 ^ 16 }
      |> fsetI p SPN.SPEED_EST m.obs |> fset p SPN.CHOP_I m.chop |> fmax p SPN.CUR_PEAK m.ma |> showAngle
    let s := setPort 8 0x8A (BitVec.ofNat 32 (fget p SPN.ANGLE_ANGLE s)) s
    let st := getSpin s
    let s := if st = 1 || st = 2 || st = 3 || st = 4 then fsetB p SPN.STATUS_DIR (decide (m.cmp < 0)) s else s
    let s := if 8 ≤ n || s.spin.refsOff then s else pwmAct m.mv s
    .next (fset p SPN.VBUS m.mv s)

/-! ## Starting (R203 to R205) -/

/-- SPINDLE_START (R203). -/
def execSpindleStart (s : State) : Res := .next (startSpin s)

/-- The observer takes over and the speed loop closes (R204 step 4). -/
def closeLoop (rpm : Int) (s : State) : State :=
  s |> setSpin { s.spin with gates := true, zeroVector := false, ramped := rpm * 65536, integ := 0 }
    |> spinState 5 |> fset SPN.page SPN.STATUS_OBS_LOCK 1 |> fset SPN.page SPN.STATUS_DIR 0

/-- CATCH_END (R203): the action of the class of motion found. -/
def execCatchEnd (rpm : Int) (edges : Bool) (s : State) : Res :=
  let h := handoffRpm s
  let en := fon SPN.page SPN.CTRL_CATCH_EN s
  if getSpin s ≠ 1 then .next s
  else
    let s := fsetB SPN.page SPN.STATUS_DIR (decide (rpm < 0)) s
    let caught := fun t => cnt SPN.page SPN.CATCH_CNT SPN.kCNT_SAT (angleValid false t)
    if !edges || decide (rpm.natAbs < 60) then .next (s |> setSpin { s.spin with startClass := 0 } |> beginAlign)
    else if en && decide ((h : Int) ≤ rpm) then .next (s |> setSpin { s.spin with startClass := 1 } |> caught |> closeLoop rpm)
    else if en && decide (rpm ≤ -(h : Int)) then
      .next (s |> setSpin { s.spin with startClass := 3, gates := true, zeroVector := false, ramped := rpm * 65536 } |> caught
        |> spinState 2 |> fset SPN.page SPN.STATUS_OBS_LOCK 1)
    else .next (s |> setSpin { s.spin with startClass := 2 } |> spinState 2 |> zeroVector)

/-- ALIGN_END (R204 step 3). -/
def execAlignEnd (s : State) : Res := .next (if getSpin s = 3 then spinState 4 s else s)

/-- HANDOFF (R204 step 4). -/
def execHandoff (s : State) : Res := .next (if getSpin s = 4 then closeLoop (handoffRpm s) s else s)

/-- SPEED_OK (R204 step 6). -/
def execSpeedOk (s : State) : Res :=
  .next (if getSpin s = 5 then
    s |> fset SPN.page SPN.STATUS_SPEED_OK 1 |> raise SPN.page SPN.iSPEED_OK
      |> emit 0x2100 srcSpin 0 (spinRpm s) s.spin.startClass
  else s)

/-- START_FAIL (R205): gates off, OFF, no retry. -/
def execStartFail (cause : StartFail) (rpm : Nat) (s : State) : Res :=
  let code := if cause = .notStopped then 2 else 1
  .next (s |> gatesOff |> unlockSpin |> angleValid false |> spinState 0 |> fault SPN.page code |> raise SPN.page SPN.iSTART_FAIL
    |> emit 0x2101 srcSpin 0 code rpm)

/-! ## Stopping and the target (R206 to R208) -/

/-- SPINDLE_STOP (R208). -/
def execSpindleStop (s : State) : Res := .next (stopSpin s)

/-- SPINDLE_STOPPED (R208): at rest. -/
def execSpindleStopped (ms : Nat) (s : State) : Res :=
  let st := getSpin s
  if 1 ≤ st && st ≤ 5 then .next s
  else
    .next (s |> gatesOff |> unlockSpin |> spinState (if st = 8 then 8 else 0) |> raise SPN.page SPN.iSTOPPED
      |> emit 0x2109 srcSpin 0 (b2n (st = 7 || s.spin.coasting)) ms
      |> (fun t => setSpin { t.spin with rest := true, coasting := false } t))

/-- OVS_CLR (R218): taken at standstill only. -/
def execOvsClr (s : State) : Res :=
  .next (if s.spin.obs.natAbs < 960 then
    let s := fset SPN.page SPN.STATUS_OVERSPEED 0 s
    if getSpin s = 8 then s |> gatesOff |> spinState 0 else s
  else s)

/-- 60 / (2π) to twelve decimals. -/
def rpmPerRad : Rat := 9549296585514 / 1000000000000

/-- The CLV target of a servo tick: VEL × 60 / (2π × r), r at least 22 mm (R206). -/
def clvTick (s : State) : State :=
  if fon SPN.page SPN.TARGET_SPD_MODE s then
    let r : Rat := max 22 ((fget (SLD.page 0) SLD.POS s : Rat) / 256000)
    wantSpeed ((fget SPN.page SPN.CLV_CFG_VEL s : Rat) * rpmPerRad / r).floor.toNat s
  else s

/-! ## Angle learning (R209) -/

/-- A head has frame lock. -/
def frameLocked (h : Nat) (s : State) : Bool := fon (CHC.page h) CHC.STATUS_FLOCK_D0 s

/-- Learning from a head's gap start event. -/
def learnGap (h : Nat) (s : State) : State :=
  if fon SPN.page SPN.STATUS_OBS_LOCK s && frameLocked h s && (h = 0 || !frameLocked 0 s) then learnOfs s.spin.raw s else s

/-- Learning from a confirmed wobble word of a head: slot field `k`, group `g`. -/
def learnWobble (h k g : Nat) (s : State) : State :=
  let first := !frameLocked 0 s && !frameLocked 1 s && (h = 0 || !fon (CHC.page 0) CHC.STATUS_WOB_LOCK0 s)
  if fon SPN.page SPN.STATUS_OBS_LOCK s && first then learnOfs ((s.spin.raw : Int) - 1024 - k * 64512 / framesOf g) s else s

/-! ## Over-speed, lost feedback and a stopped SE8 (R218 to R221) -/

/-- OVERSPEED (R218). -/
def execOverspeed (rpm : Nat) (comparator : Bool) (s : State) : Res :=
  .next (s |> tripBoth |> fset SPN.page SPN.STATUS_OVERSPEED 1 |> fset SPN.page SPN.STATUS_SPEED_OK 0
    |> raise SPN.page SPN.iOVERSPEED |> fault SPN.page 6 |> cnt SPN.page SPN.OVS_CNT SPN.kCNT_SAT
    |> emit 0x2106 srcSpin 0 rpm (b2n comparator) |> spinState 8)

/-- OBSERVER_LOST (R219): 60 s are 1,500,000,000 reference cycles. -/
def execObserverLost (obs cmp : Nat) (s : State) : Res :=
  let st := getSpin s
  let ls := s.time :: s.spin.losses.filter (fun t => decide (s.time ≤ t + 1500000000))
  let s := s |> tripBothIfWriting |> gatesOff |> unlockSpin |> angleValid false |> raise SPN.page SPN.iOBS_LOST
    |> cnt SPN.page SPN.OBS_LOSS_CNT SPN.kCNT_SAT |> emit 0x2102 srcSpin 0 obs cmp
  let s := setSpin { s.spin with losses := ls.take 3 } s
  if st = 8 then .next s
  else if 3 ≤ ls.length then .next (s |> spinState 0 |> fault SPN.page 3)
  else
    let s := spinState 7 s
    .next (if fget SPN.page SPN.SPEED_EFF_RPM s ≠ 0 then startSpin s else s)

/-- SE8_STOPPED (R221). -/
def execSe8Stopped (s : State) : Res :=
  let st := getSpin s
  let s := s |> tripBothIfWriting |> setSpin { s.spin with refsOff := true, integ := 0 } |> fset SPS.page SPS.IQ_REF 0
    |> fset SPS.page SPS.ID_REF 0 |> fault SPN.page 8 |> fset SPN.page SPN.STATUS_SPEED_OK 0
    |> emit 0x210A srcSpin 0 (engState 8 s) (spinRpm s)
  .next (if st = 0 || st = 8 then s else spinState 7 s)

/-! ## The chopper and the bus (R214 to R217) -/

/-- BRK_G_ON (R214). -/
def execBrkGOn (mv : Nat) (s : State) : Res :=
  let s := fset SPN.page SPN.VBUS mv s
  .next (if fon SPN.page SPN.CTRL_EN s && fon SPN.page SPN.CTRL_CHOP_EN s && !fon SPN.page SPN.STATUS_CHOP_FAULT s then
    setSpin { s.spin with brkG := true } s else s)

/-- BRK_G_OFF (R214, R217): below BRK_OFF braking current is allowed again. -/
def execBrkGOff (mv : Nat) (s : State) : Res :=
  .next (s |> fset SPN.page SPN.VBUS mv |> setSpin { s.spin with brkG := false, busHold := false })

/-- CHOPPER_FAULT (R215). -/
def execChopperFault (shorted : Bool) (ma : Nat) (s : State) : Res :=
  let code := if shorted then 5 else 4
  .next (s |> setSpin { s.spin with brkG := false } |> fset SPN.page SPN.STATUS_CHOP_FAULT 1 |> raise SPN.page SPN.iCHOP_FAULT
    |> fault SPN.page code |> cnt SPN.page SPN.CHOP_FAULT_CNT SPN.kCNT_SAT |> fset SPN.page SPN.CHOP_I ma
    |> emit 0x2103 srcSpin 0 code ma)

/-- BUS_OV (R217): at 13.8 V braking current is zero; at 15.0 V all gates are off. -/
def execBusOv (mv : Nat) (s : State) : Res :=
  let s := fset SPN.page SPN.VBUS mv s
  let s := if s.spin.busHold then s
    else s |> setSpin { s.spin with busHold := true } |> raise SPN.page SPN.iBUS_OV |> emit 0x2105 srcSpin 0 mv (spinRpm s)
  let s := if fgetI SPS.page SPS.IQ_REF s < 0 then s |> fset SPS.page SPS.IQ_REF 0 |> fset SPS.page SPS.ID_REF 0 else s
  .next (if 15000 ≤ mv then
    let st := getSpin s
    s |> gatesOff |> unlockSpin |> fault SPN.page 7 |> (if st = 0 || st = 8 then id else spinState 7)
  else s)

/-! ## SPINCMD (R210 to R213) -/

/-- The commanded speed of a filtered input (R210). -/
def spincmdRpm (raw : Nat) (s : State) : Nat :=
  let p := SPN.page
  if fget p SPN.SPINCMD_CFG_FORM s = 2 then min 7200 (raw * 1000 / nz (fget p SPN.SPINCMD_FREQ_SCALE s))
  else
    let lo := fget p SPN.SPINCMD_MAP_LO s
    let hi := max (lo + 1) (fget p SPN.SPINCMD_MAP_HI s)
    7200 * (clampN lo hi raw - lo) / (hi - lo)

/-- A new ceiling (R211). -/
def newCeiling (cmd : Nat) (s : State) : State :=
  let old := s.spin.ceiling.getD 7200
  if (if cmd < old then old - cmd else cmd - old) * 100 > old || (s.spin.ceiling.isNone && decide (cmd < 7200)) then
    s |> setSpin { s.spin with ceiling := some cmd } |> raise SPN.page SPN.iSPINCMD_CHG |> emit 0x2108 srcSpin 0 cmd old
      |> newTarget
  else s

/-- The stop request of R211 and its end. -/
def spincmdStop (cmd : Nat) (s : State) : State :=
  let p := SPN.page
  let lim := fget p SPN.SPINCMD_CFG_STOP_RPM s
  if cmd < lim then
    if fon p SPN.STATUS_SPINCMD_STOP s then s
    else
      let turning := 1 ≤ getSpin s && getSpin s ≤ 5
      s |> fset p SPN.STATUS_SPINCMD_STOP 1 |> stopSpin |> (fun t => setSpin { t.spin with cmdStopped := turning } t)
  else if fon p SPN.STATUS_SPINCMD_STOP s && lim + 100 < cmd then
    let again := s.spin.cmdStopped
    s |> fset p SPN.STATUS_SPINCMD_STOP 0 |> setSpin { s.spin with cmdStopped := false } |> (if again then startSpin else id)
  else s

/-- SPINCMD_CHANGE (R210, R211). -/
def execSpincmdChange (raw : BitVec 16) (s : State) : Res :=
  if !fon SPN.page SPN.SPINCMD_CFG_EN s then .next s
  else
    let cmd := spincmdRpm raw.toNat s
    .next (s |> fset SPN.page SPN.SPINCMD_VAL_RAW raw.toNat |> fset SPN.page SPN.SPINCMD_VAL_CMD_RPM cmd |> newCeiling cmd
      |> spincmdStop cmd)

/-- SPINCMD_LOST (R213). -/
def execSpincmdLost (raw : BitVec 16) (s : State) : Res :=
  let p := SPN.page
  if !fon p SPN.SPINCMD_CFG_EN s then .next s
  else
    let s := s |> fset p SPN.STATUS_SPINCMD_LOST 1 |> raise p SPN.iSPINCMD_LOST |> fset p SPN.SPINCMD_VAL_RAW raw.toNat
      |> emit 0x2107 srcSpin 0 (fget p SPN.SPINCMD_CFG_FORM s) raw.toNat
    .next (if fon p SPN.SPINCMD_CFG_LOSS_ACT s then s else s |> setSpin { s.spin with ceiling := none } |> newTarget)

/-- SPINCMD_RECOVERED (R213). -/
def execSpincmdRecovered (s : State) : Res := .next (fset SPN.page SPN.STATUS_SPINCMD_LOST 0 s)

end Sys2Proof.Machine
end

