-- ==== Sys2Proof/Machine/Channel.lean ====
section
/-!
DEFINITION. The beam channels: timing and frame lock, sync marks, frames, blanks, quality and supervision (R244 to R264,
R273), and the rates of a head (R89, R90, R92, R245).
-/
namespace Sys2Proof.Machine

/-- A beam page's instance, as events name it (R282, R283). -/
def beamId (h b : Nat) : Nat := 16 * h + b

/-! ## Rates (R89, R90, R92, R245) -/

/-- π to twelve decimals. -/
def piR : Rat := 3141592653590 / 1000000000000

/-- The channel rate, bit/s, of a group at the speed in SPEED_EST (R43). -/
def rateOf (g : Nat) (s : State) : Rat := (framesOf g * s.spin.obs.natAbs * 16 : Rat) / 9

/-- The legacy channel rate at a radius in µm (R92). -/
def legacyRate (um : Rat) (rpm : Rat) (s : State) : Rat :=
  (Config.legacyBits (fget (CHC.page 0) CHC.STATUS_MODE s) : Rat) * (2 * piR * (um / 1000000) * rpm / 60)

/-- f_s for a channel rate, MS/s (R89). -/
def fsOf (c : Rat) : Nat :=
  let q : Rat := 25 / 2 * ((5 / 4 * c / 12500000).ceil : Rat)
  (max 500 (min 1500 q)).floor.toNat

/-- D: forced by DECIM, or the largest of 1, 2 and 4 that keeps 1.25 samples a bit (R90). -/
def decimOf (h k : Nat) (fs : Nat) (c : Rat) (s : State) : Nat :=
  let force := fget (HSL.page h k) HSL.CFG_DECIM s
  if force ≠ 0 then 2 ^ (force - 1)
  else if 5 / 4 * c ≤ (fs : Rat) * 250000 then 4 else if 5 / 4 * c ≤ (fs : Rat) * 500000 then 2 else 1

/-- The lanes' decimation, and UNDERSAMPLE where no factor satisfies R90. -/
def showDecim (h : Nat) (c : Rat) (s : State) : State :=
  let fs := fget (HTX.page h) HTX.FS_ACT_FS s
  (List.range 2).foldl (fun t k =>
    let d := decimOf h k fs c t
    let t := fset (HSL.page h k) HSL.FS_RX_DECIM_ACT (if d = 4 then 3 else d) t
    if (fs : Rat) * 1000000 / d < 5 / 4 * c then sticky (HSL.page h k) HSL.kUNDERSAMPLE t else t) s

/-- S0 of a channel rate: (f_s / D) / c (R245). -/
def stepOf (h : Nat) (c : Rat) (s : State) : Rat :=
  let fs := fget (HTX.page h) HTX.FS_ACT_FS s
  if c = 0 then 0 else (fs : Rat) * 1000000 / decimOf h 0 fs c s / c

/-- S0 loaded into one beam. -/
def loadStep (h b : Nat) (c : Rat) (s : State) : State :=
  s |> setChan h b { s.chan h b with s0 := stepOf h c s } |> showStep h b

/-- S0 loaded into every data beam for a group (R245). -/
def loadSteps (h g : Nat) (s : State) : State :=
  (List.range 8).foldl (fun t b => loadStep h b (rateOf g s) t) (showDecim h (rateOf g s) s)

/-- f_s recomputed for the group about to be read; a change is sent as SET_FS with AT_GAP (R89). -/
def autoFs (h g : Nat) (s : State) : State :=
  if fon (HTX.page h) HTX.FS_CMD_FS_AUTO s && groupActive h s then
    let fs := fsOf (rateOf g s)
    if fs ≠ (s.link h).fs then sendSetFs h fs true s else s
  else s

/-- The legacy head's rate and nominal step follow the sled (R92). -/
def legacyStep (s : State) : State :=
  let x := fget (SLD.page 0) SLD.POS s
  let old := (s.common 0).s0Pos
  if fon FMT.page FMT.STATUS_LEGACY s && 25600 ≤ (if x < old then old - x else x - old) then
    s |> setCommon 0 { s.common 0 with s0Pos := x } |> loadStep 0 0 (legacyRate ((x : Rat) / 256) (s.spin.obs.natAbs / 16) s)
  else s

/-- A legacy disc's f_s for a new spindle target, from c at the outer edge of the data zone (R92). -/
def legacyFs (s : State) : State :=
  if fon FMT.page FMT.STATUS_LEGACY s && fon (HTX.page 0) HTX.FS_CMD_FS_AUTO s && groupActive 0 s then
    let fs := fsOf (legacyRate 58000 (fget SPN.page SPN.SPEED_EFF_RPM s) s)
    if fs ≠ (s.link 0).fs then sendSetFs 0 fs false s else s
  else s

/-- TARGET_WRITE (R206, R92). -/
def execTargetWrite (rpm : BitVec 13) (clv : Bool) (s : State) : Res :=
  let s := s |> fset SPN.page SPN.TARGET_RPM rpm.toNat |> fsetB SPN.page SPN.TARGET_SPD_MODE clv
  .next ((if clv then s else wantSpeed rpm.toNat s) |> legacyFs)

/-! ## Timing lock (R247) -/

/-- Acquisition starts again from S0. -/
def acquire (h b : Nat) (s : State) : State :=
  let s := setChan h b { s.chan h b with f := 0, goodWin := 0, badWin := 0, acqRevs := 0 } s
  if posValid h s then loadStep h b (rateOf (posGroup h s) s) s else s

/-- The common page mirrors D0's frame lock (R285). -/
def showFlock (h b : Nat) (on : Bool) (s : State) : State :=
  let s := fsetB (CHN.page h b) CHN.STATUS_FLOCK on s
  if b = 0 then fsetB (CHC.page h) CHC.STATUS_FLOCK_D0 on s else s

/-- Frame lock is lost (R260, R262): causes 1 misses, 2 identifiers, 3 timing. -/
def flockLost (h b cause : Nat) (s : State) : State :=
  if fon (CHN.page h b) CHN.STATUS_FLOCK s then
    s |> showFlock h b false |> fset (CHN.page h b) CHN.STATUS_PROV 0 |> raise (CHN.page h b) CHN.iFLOCK_LOST
      |> (if cause = 2 then raise (CHN.page h b) CHN.iID_LOST else id)
      |> cnt (CHN.page h b) CHN.FLOCK_LOSS CHN.kCNT_SAT
      |> setChan h b { s.chan h b with prov := none, idRun := 0, acqRevs := 0 }
      |> emit 0x3002 (srcChan h) (beamId h b) cause (fget (CHC.page h) CHC.CSLOT s)
  else s

/-- TED_WINDOW (R247). -/
def execTedWindow (head : Head) (beam : Fin 8) (rms : BitVec 16) (slot : Nat) (s : State) : Res :=
  let h := head.n
  let p := CHN.page h beam
  let c := s.chan h beam
  let s := fset p CHN.TED_RMS rms.toNat s
  if !fon p CHN.CTRL_EN s || recording h s then .next s
  else if fon p CHN.STATUS_TLOCK s then
    if beamHolds h beam s then .next s
    else
      let n := if fget p CHN.LOCK_CFG_UNLOCK_THR s < rms.toNat then c.badWin + 1 else 0
      let s := setChan h beam { c with badWin := n } s
      .next (if n < 2 then s
        else s |> fset p CHN.STATUS_TLOCK 0 |> fset p CHN.STATUS_ADAPTING 0 |> raise p CHN.iTLOCK_LOST
          |> cnt p CHN.TLOCK_LOSS CHN.kCNT_SAT |> emit 0x3001 (srcChan h) (beamId h beam) rms.toNat slot
          |> flockLost h beam 3 |> acquire h beam)
  else
    let n := if rms.toNat < fget p CHN.LOCK_CFG_LOCK_THR s then c.goodWin + 1 else 0
    let s := setChan h beam { c with goodWin := n, badWin := 0 } s
    .next (if n < 4 then s else s |> fset p CHN.STATUS_TLOCK 1 |> setChan h beam { s.chan h beam with acqRevs := 0 })

/-- ACQUISITION_FAILED (R247, R263): acquisition goes on. -/
def execAcquisitionFailed (head : Head) (beam : Fin 8) (frame : Bool) (s : State) : Res :=
  let h := head.n
  let code := if frame then 2 else 1
  .next (s |> fault (CHN.page h beam) code |> cnt (ACQ.page h) ACQ.ACQ_FAIL ENG.kCNT_SAT
    |> emit 0x3007 (srcChan h) (beamId h beam) code (fget (ACQ.page h) ACQ.ACQ_CFG_ACQ_REVS s))

/-! ## Gain steps and the equaliser's reset (R244, R251) -/

/-- 20 × log10(G) in quarter decibels, rounded: the largest n with 10^(2n−1) ≤ G^160, from −48 to 73. -/
def quarterDb (g : Rat) : Int :=
  ((List.range 122).filter (fun i => decide ((10 : Rat) ^ (2 * (i : Int) - 97 + 2) ≤ g ^ (160 : Nat)))).length - 48

/-- G divided by a change of n quarter decibels, to 1/4,096. -/
def dividedGain (g : Rat) (n : Int) : Rat :=
  let x := (g * 4096) ^ (80 : Nat) / (10 : Rat) ^ n
  (leastBelow (fun k => decide (x < ((k : Rat) + 1) ^ (80 : Nat))) 48 0 (2 ^ 20) : Rat) / 4096

/-- GAIN_STEP (R244). -/
def execGainStep (head : Head) (beam : Fin 8) (s : State) : Res :=
  let h := head.n
  let c := s.chan h beam
  let n := quarterDb c.gain
  .next (if c.stepped || !fon (CHN.page h beam) CHN.STATUS_TLOCK s then s
    else s |> sendMsg h 2 (beam.val * 2 ^ 236 + (n % 256).toNat * 2 ^ 228) false
      |> setChan h beam { c with stepped := true, gainStep := some n } |> cnt (CLE.page h) CLE.GAIN_STEPS ENG.kCNT_SAT)

/-- EQ_RESET (R251). -/
def execEqReset (head : Head) (beam : Fin 8) (s : State) : Res := .next (resetTaps head.n beam s)

/-! ## Sync marks (R257 to R263) -/

/-- The width of the search window in force (R259, R263); a gap or a defect widens it. -/
def syncWin (h b : Nat) (s : State) : Nat :=
  let p := CHN.page h b
  if fon (CHC.page h) CHC.STATUS_IN_GAP s then fget p CHN.SYNC_CFG_GAP_WIN s
  else if fon p CHN.STATUS_HOLDING s then fget p CHN.SYNC_CFG_REACQ_WIN s
  else fget p CHN.SYNC_CFG_SYNC_WIN s

/-- Whether one candidate goes before another (R259 rules 1 and 2). -/
def syncBefore (a b : SyncCand) : Bool :=
  if a.offset = 0 then true else if b.offset = 0 then false
  else if a.diff ≠ b.diff then decide (a.diff < b.diff)
  else if a.offset.natAbs ≠ b.offset.natAbs then decide (a.offset.natAbs < b.offset.natAbs)
  else decide (a.offset < b.offset)

/-- The mark found: at E, or else the best displaced one (R258, R259). -/
def bestMark (err win : Nat) (cs : List SyncCand) : Option SyncCand :=
  (cs.filter (fun c => decide (c.diff ≤ err) && decide (c.offset.natAbs ≤ win))).foldl (fun o c => match o with
    | none => some c
    | some a => if syncBefore a c then some a else some c) none

/-- The frame number that the map expects of the slot under the head (R257). -/
def mapFrame (h : Nat) (s : State) : Nat := fget (CHC.page h) CHC.CFRAME s - 2

/-- The identifier of a found mark checked against the map (R262). -/
def checkIdent (h b : Nat) (secondary : Bool) (ident : Nat) (s : State) : State :=
  let p := CHN.page h b
  let want := identOf secondary (mapFrame h s)
  let s := if secondary then fset p CHN.STATUS_FRAME_ID (fget p CHN.STATUS_FRAME_ID s / 4 * 4 + ident) s
    else fset p CHN.STATUS_FRAME_ID (4 * ident + fget p CHN.STATUS_FRAME_ID s % 4) s
  let n := if ident = want then 0 else (s.chan h b).idRun + 1
  let s := setChan h b { s.chan h b with idRun := n } s
  let s := if ident = want then s else cnt p CHN.ID_MISS CHN.kCNT_SAT s
  if n < 4 then s else s |> flockLost h b 2 |> fset (ACQ.page h) ACQ.MAP_STATE_VALID (b2n (posValid h s))

/-- A mark found at E + δ, with the provisional mark before it resolved (R261). -/
def markFound (h b : Nat) (d : Int) (s : State) : State :=
  let p := CHN.page h b
  let c := s.chan h b
  let false' := fun t => t |> cnt p CHN.FALSE_SYNC CHN.kCNT_SAT |> raise p CHN.iFALSE_SYNC
  match c.prov with
  | none => if d = 0 then s else s |> setChan h b { c with prov := some d } |> fset p CHN.STATUS_PROV 1
  | some q =>
    if d = 0 then s |> false' |> setChan h b { c with prov := none } |> fset p CHN.STATUS_PROV 0
    else if d = q then
      let outs := if 0 < q then c.outs.drop q.toNat else List.replicate (-q).toNat ⟨false, 0, true⟩ ++ c.outs
      s |> setChan h b { c with prov := none, eraseHalf := true, outs := outs } |> fset p CHN.STATUS_PROV 0
        |> cnt p CHN.SLIPS CHN.kCNT_SAT |> raise p CHN.iSLIP
        |> emit 0x3003 (srcChan h) (beamId h b) (ofSigned 32 q) (mapFrame h s)
    else s |> false' |> setChan h b { c with prov := some d } |> fset p CHN.STATUS_PROV 1

/-- SYNC_MARK (R259 to R262). -/
def execSyncMark (head : Head) (beam : Fin 8) (secondary : Bool) (cands : List SyncCand) (sheltered : Bool) (s : State) : Res :=
  let h := head.n
  let p := CHN.page h beam
  let m := bestMark (fget p CHN.SYNC_CFG_SYNC_ERR s) (syncWin h beam s) cands
  let s := fset (CHC.page h) CHC.STATUS_IN_GAP 0 s
  if !fon p CHN.STATUS_FLOCK s || recording h s then .next s
  else match m with
    | some c =>
      .next (s |> setChan h beam { s.chan h beam with marked := true } |> cnt p CHN.SYNC_FOUND CHN.kCNT_SAT
        |> fset p CHN.STATUS_FLY_RUN 0 |> markFound h beam c.offset |> checkIdent h beam secondary c.ident)
    | none =>
      if sheltered then .next s
      else
        let n := fget p CHN.STATUS_FLY_RUN s + 1
        let s := s |> cnt p CHN.SYNC_MISSED CHN.kCNT_SAT |> fset p CHN.STATUS_FLY_RUN (min 15 n)
        .next (if nz (fget p CHN.SYNC_CFG_FLY_MAX s) ≤ n then flockLost h beam 1 s else s)

/-- FLOCK_GAINED (R263). -/
def execFlockGained (head : Head) (beam : Fin 8) (s : State) : Res :=
  let h := head.n
  let p := CHN.page h beam
  .next (if fon p CHN.STATUS_TLOCK s && !fon p CHN.STATUS_FLOCK s then
    s |> showFlock h beam true |> raise p CHN.iFLOCK_GAINED |> fset p CHN.STATUS_FLY_RUN 0
      |> setChan h beam { s.chan h beam with prov := none, idRun := 0, marked := true }
  else s)

/-! ## Frames and blank slots (R255, R256, R264) -/

/-- FRAME_DELIVERY (R255, R256): the oldest 1,680 bits make the frame, which is discarded after a failed gap jump (R179). -/
def execFrameDelivery (head : Head) (beam : Fin 8) (rf : List (List Int)) (s : State) : Res :=
  let h := head.n
  let p := CHN.page h beam
  let s := rfSamples h rf s
  let c := s.chan h beam
  if !fon p CHN.CTRL_EN s || recording h s || fget (CHC.page h) CHC.STATUS_MODE s ≠ 0 then .next s
  else
    let bs := c.outs.take 1680
    let s := setChan h beam { c with outs := c.outs.drop 1680, eraseHalf := false } s
    let lock := fon p CHN.STATUS_FLOCK s && decide (bs.length = 1680)
    let ws := (frameWordsOf bs).map (demap (fget p CHN.DET_CFG_LLR_GAIN s) (fget p CHN.DET_CFG_LLR_SH s))
    let flags := (List.range 96).map (fun w => !lock || (ws.getD w ([], true)).2 || (c.eraseHalf && decide (w < 48)))
    let zero := fon p CHN.DET_CFG_ZERO_LLR s
    let llrs := (List.range 1536).map (fun i =>
      if !lock || (flags.getD (i / 16) true && zero) then 0 else ((ws.getD (i / 16) ([], true)).1.getD (i % 16) (0, false)).1)
    let sat := lock && ws.any (fun w => w.1.any Prod.snd)
    let low := (llrs.filter (fun l => decide (l.natAbs ≤ fget p CHN.CQI_CFG_LOW_LLR s))).length
    let fr : FrameIn := ⟨llrs, (flags.map (fun f => [ f, f ])).flatten, mapFrame h s, beamPsa h beam s, fget p CHN.MSE s⟩
    let s := s |> cntN p CHN.ERAS_BYTES CHN.kCNT_SAT (2 * (flags.filter id).length) |> cntN p CHN.LOW_LLR_CNT CHN.kCNT_SAT low
      |> (if sat then sticky p CHN.kLLR_SAT else id)
    .next { s with frames := if (s.head h).discard then s.frames else s.frames ++ [fr] }

/-- A beam's cluster slot ends: with at most 8 non-blank slots it is a blank indication (R264). -/
def slotDone (h b : Nat) (s : State) : State :=
  let c := s.chan h b
  let s := setChan h b { c with nonBlank := 0 } s
  if c.nonBlank ≤ 8 then
    let psa := beamPsa h b s
    { s with blanks := s.blanks ++ [psa], frames := s.frames.filter (fun f => decide (f.psa ≠ psa)) }
  else s

/-- FRAME_SLOT_END (R264, R268). Beam D0 advances the head's position. -/
def execFrameSlotEnd (head : Head) (beam : Fin 8) (level : Nat) (env : Nat) (ref : Nat) (s : State) : Res :=
  let h := head.n
  let p := CHN.page h beam
  let c := s.chan h beam
  if recording h s then .next (if beam = 0 then slotEmitted h s else s)
  else
    let blank := !c.marked && decide (level < fget p CHN.DEF_CFG2_BLANK_THR s)
    let good := fon p CHN.STATUS_FLOCK s && !fon p CHN.STATUS_DEF s && !headH h s
    let age := if good then 0 else c.refAge + 1
    let f := fget (CHC.page h) CHC.CFRAME s
    let data := decide (2 ≤ f) && decide (f ≤ 481)
    let s := s |> fsetB p CHN.STATUS_BLANK blank |> (if blank then cnt p CHN.BLANK_SLOTS CHN.kCNT_SAT else id)
      |> fset p CHN.ENV_ENV_NOW env |> (if good then fset p CHN.ENV_ENV_REF ref else id) |> fsetB p CHN.STATUS_DARK (decide (2 ≤ age))
      |> setChan h beam { c with marked := false, refAge := age, nonBlank := if data && !blank then c.nonBlank + 1 else c.nonBlank }
    let s := if f = 483 && fon (ACQ.page h) ACQ.MAP_STATE_VALID s then slotDone h beam s else s
    .next (if beam = 0 then s |> fset (CHC.page h) CHC.STATUS_IN_GAP 0 |> showSlot h (fget (CHC.page h) CHC.FSLOT s + 1) else s)

/-! ## Quality and supervision (R252, R273) -/

/-- P_T: the squared target in 1/4,096. -/
def targetPower (c : ChanSt) : Nat := (c.target.map (fun g => g.natAbs ^ 2)).foldl (· + ·) 0

/-- CQI: round(100 × log10(P_T / MSE)), from 0 to 4,000; MSE in Q1.31 (R273). -/
def cqiOf (pt mse : Nat) : Nat :=
  let a := (pt * 2 ^ 31) ^ 200
  let b := (4096 * mse) ^ 200
  ((List.range 4000).filter (fun i => decide (10 ^ (2 * i + 1) * b ≤ a))).length

/-- Whether a neighbour tap exceeds NBR_MAX (R252). -/
def tapsOut (h b : Nat) (s : State) : Bool :=
  (List.range 14).any (fun k => decide (fget (EQS.page h) EQS.NBR_MAX s < (tap h b (15 + k) s).natAbs))

/-- CE0's (CE4's) supervision at a window end. -/
def supervise (h b mse last cqi : Nat) (s : State) : State :=
  let e := eqEngine h
  let bound := tapsOut h b s
  let div := fon (EQS.page h) EQS.EQS_CFG_DIV_EN s && decide (4 * last < mse) && decide (last ≠ 0) &&
    decide (cqi < fget (CHN.page h b) CHN.CQI_CFG_CQI_FLOOR s)
  if bound || div then
    s |> loadSet h b (posLayer h s) |> raise (CHN.page h b) CHN.iEQ_BOUND |> cnt (EQS.page h) EQS.EQ_RESTORES ENG.kCNT_SAT
      |> emit 0x3005 (srcEng e) (beamId h b) mse (if bound then 1 else 2)
  else s

/-- CQI_WINDOW (R273, R252). -/
def execCqiWindow (head : Head) (beam : Fin 8) (mse : BitVec 32) (s : State) : Res :=
  let h := head.n
  let p := CHN.page h beam
  let c := s.chan h beam
  let q := cqiOf (targetPower c) mse.toNat
  let floor' := fget p CHN.CQI_CFG_CQI_FLOOR s
  let low := decide (q < floor') && !c.lowCqi
  let s := s |> fset p CHN.MSE mse.toNat |> fset p CHN.CQI q |> fmin p CHN.CQI_MIN q
    |> setChan h beam { c with lastMse := mse.toNat, lowCqi := c.lowCqi || low }
  let s := if low then s |> raise p CHN.iCQI_LOW |> emit 0x3006 (srcChan h) (beamId h beam) q floor' else s
  .next (supervise h beam mse.toNat c.lastMse q s)

end Sys2Proof.Machine
end

