-- ==== Sys2Proof/Machine/Decoding.lean ====
section
/-!
DEFINITION. The decode island: codewords, cluster outcomes, SQUALL and the CRC test unit (R290 to R312, R320).
-/
namespace Sys2Proof.Machine

/-- The decode island's record set. -/
def setDec (v : DecSt) (s : State) : State := { s with dec := v }

/-! ## Codewords (R290 to R292, R303) -/

/-- A codeword's LLRs and byte flags from the frames delivered; a frame that is missing reads as one without frame lock. -/
def gather (psa w : Nat) (s : State) : List Int × List Bool :=
  let fr := fun f => (s.frames.find? (fun x => x.psa == psa && x.frame == f)).getD
    ⟨List.replicate 1536 0, List.replicate 192 true, f, psa, 0⟩
  let xs := (List.range 16).map (fun i => fr (16 * w + i))
  ((xs.map FrameIn.llrs).flatten, (xs.map FrameIn.flags).flatten)

/-- The frames of a codeword leave the island's input. -/
def dropFrames (psa w : Nat) (s : State) : State :=
  { s with frames := s.frames.filter (fun x => !(x.psa == psa && x.frame / 16 == w)) }

/-- The LDPC settings in force (R290 to R292). -/
def ldpcCfg (s : State) : LdpcCfg :=
  let n := fget DEC.page DEC.LDPC_CFG_NORM s
  ⟨nz (fget DEC.page DEC.LDPC_CFG_MAX_ITER s), if n = 0 then 8 else n, fget DEC.page DEC.LDPC_CFG_STALL_START s,
    fget DEC.page DEC.LDPC_CFG_STALL_ITER s⟩

/-- The counters of a decoding that ended. -/
def countCw (r : LdpcEnd) (s : State) : State :=
  let s := s |> cnt64 DEC.page DEC.ITER_SUM_LO DEC.ITER_SUM_HI DEC.kCNT_SAT r.iters |> pmc 0x08 256 r.iters
    |> (if r.sat then sticky DEC.page DEC.kPOST_SAT else id)
  if r.ok then fmax DEC.page DEC.ITER_MAX r.iters s else cnt DEC.page DEC.CW_FAIL_CNT DEC.kCNT_SAT s

/-- A codeword taken into a cluster's record: combined with earlier reads, then decoded (R291, R303). -/
def takeCw (x : HeldCl) (psa w : Nat) (s : State) : HeldCl × State :=
  let (ls, fs) := gather psa w s
  let raw := match x.sums.find w with | some o => List.zipWith (· + ·) o ls | none => ls
  let sum := raw.map (clampI (-127) 127)
  let fl := match x.flagged.find w with | some o => List.zipWith (fun a b => a && b) o fs | none => fs
  let s := if raw = sum then s else sticky DEC.page DEC.kCOMB_SAT s
  let s := cnt64 DEC.page DEC.CW_CNT_LO DEC.CW_CNT_HI DEC.kCNT_SAT 1 s
  let n := (fl.filter id).length
  if min 3072 (fget DEC.page DEC.SKIP_CFG_ERAS_SKIP s) < n then
    ({ x with sums := x.sums.insert w sum, flagged := x.flagged.insert w fl,
              failed := x.failed.insert w ⟨false, List.replicate 2560 0, fl.take 2560⟩ },
      s |> cnt DEC.page DEC.CW_SKIP_CNT DEC.kCNT_SAT |> cnt DEC.page DEC.CW_FAIL_CNT DEC.kCNT_SAT)
  else
    let r := ldpcDecode (ldpcCfg s) sum
    let c : CwSt := ⟨r.ok, bitsBytes 2560 r.bits, fl.take 2560⟩
    let s := countCw r s
    if r.ok then ({ x with kept := x.kept.insert w c, sums := x.sums.erase w, flagged := x.flagged.erase w, failed := x.failed.erase w }, s)
    else ({ x with sums := x.sums.insert w sum, flagged := x.flagged.insert w fl, failed := x.failed.insert w c }, s)

/-- CODEWORD_DECODED (R291): of a cluster on its first read, or of a held one on a re-read. -/
def execCodewordDecoded (psa : BitVec 32) (w : Fin 30) (s : State) : Res :=
  let p := psaCluster psa.toNat
  if !fon DEC.page DEC.CTRL_EN s then .next s
  else match s.dec.held.find p with
    | some x =>
      if (x.kept.find w).isSome then .next (dropFrames p w s)
      else
        let (y, t) := takeCw x p w s
        .next (t |> setDec { t.dec with held := t.dec.held.insert p y } |> dropFrames p w)
    | none =>
      let (y, t) := takeCw (s.dec.reading.get p {}) p w s
      .next (t |> setDec { t.dec with reading := t.dec.reading.insert p y } |> dropFrames p w)

/-! ## Columns and sectors (R294 to R298) -/

/-- The mask of a predicate on 0 to n − 1. -/
def maskOf (n : Nat) (p : Nat → Bool) : Nat := (List.range n).foldl (fun m i => if p i then setBit m i else m) 0

/-- The column decoder's settings (R295, R296). -/
def rsCfg (s : State) : RsCfg :=
  ⟨fget DEC.page DEC.RS_CFG_MARGIN s, min 16 (fget DEC.page DEC.RS_CFG_EMAX s), fget DEC.page DEC.RS_CFG_CW_SUSPECT s⟩

/-- The first row of R298's table at which a sector disagrees with its slot. -/
def sectorRow (psa i : Nat) (b : List Nat) (s : State) : Option Nat :=
  let l := psaLayer psa
  let spare := isSpare l (psaSlot psa)
  let lba := if spare || isUser l (psaSlot psa) then psaLba (homeOf psa s) + i else 0xFFFFFFFF
  let fl := b.getD 8 0
  if beAt b 0 4 ≠ psa + i then some 1
  else if beAt b 4 4 ≠ lba then some 2
  else if (bit fl 6) != fon XTS.page XTS.STATUS_ENC_DISC s then some 3
  else if (bit fl 5) != spare then some 4
  else none

/-- The first row of R298's table at which the trailer disagrees with the cluster; a DCZ slot has no such rows. -/
def trailerRow (psa : Nat) (b : List Nat) (s : State) : Option Nat :=
  let l := psaLayer psa
  let spare := isSpare l (psaSlot psa)
  if !spare && !isUser l (psaSlot psa) then none
  else if beAt b 8 2 ≠ (if spare then 3 else 1) then some 5
  else if spare && beAt b 12 4 ≠ homeOf psa s then some 6
  else none

/-- What column decoding and the checks find of a cluster. -/
structure Judged where
  matrix : MatrixEnd
  /-- Failed codewords. -/
  cwMask : Nat
  /-- Sectors that passed R57 in this read, and those that passed and agree in any read. -/
  pass : Nat
  good : Store (List Nat)
  trailer : Bool
  /-- The disagreement of R298: its row and item. -/
  clash : Option (Nat × Nat)
  written : Nat

/-- A cluster's record decoded by columns and checked (R294 to R298). -/
def judge (x : HeldCl) (psa : Nat) (s : State) : Judged :=
  let cw := fun w => match x.kept.find w with
    | some c => c
    | none => x.failed.get w ⟨false, List.replicate 2560 0, List.replicate 2560 true⟩
  let m := decodeMatrix (rsCfg s) ((List.range 30).map (fun w => ((cw w).ok, (cw w).bytes, (cw w).flags)))
  let sec := fun i => (m.rows.drop (2064 * i)).take 2064
  let tr := (m.rows.drop 66048).take 512
  let ok := fun i => sectorOk (psa + i) (sec i)
  let tok := trailerOk psa tr
  let good := (List.range 32).foldl (fun g i => if ok i && (sectorRow psa i (sec i) s).isNone then Store.insert g i (sec i) else g) x.sectors
  let sclash := ((List.range 32).filter ok).findSome? (fun i => (sectorRow psa i (sec i) s).map (fun r => (r, i)))
  let tclash := if tok then (trailerRow psa tr s).map (fun r => (r, 32)) else none
  ⟨m, maskOf 30 (fun w => !(cw w).ok), maskOf 32 ok, good, tok, match sclash with | some c => some c | none => tclash, beAt tr 32 4⟩

/-- Whether all sectors, in this read or an earlier one, and the trailer pass. -/
def Judged.all (j : Judged) : Bool :=
  j.trailer && (List.range 32).all (fun i => bit j.pass i || (j.good.find i).isSome)

/-- The counters and last-cluster registers of a judgement. -/
def showJudged (psa : Nat) (j : Judged) (s : State) : State :=
  let p := DEC.page
  let bad := 32 - ((List.range 32).filter (bit j.pass)).length
  let s := s |> cntN p DEC.RS_ERR_CNT DEC.kCNT_SAT j.matrix.errs |> cntN p DEC.RS_ERAS_CNT DEC.kCNT_SAT j.matrix.eras
    |> cntN p DEC.RS_COL_FAIL DEC.kCNT_SAT j.matrix.failed |> fset p DEC.LAST_PSA psa |> fset p DEC.LAST_CW j.cwMask
    |> fset p DEC.LAST_RS_MAX_2EF j.matrix.worst
    |> fset p DEC.LAST_RS_ROWS_ERASED ((List.range 30).filter (bit j.cwMask)).length
    |> fsetB p DEC.LAST_RS_PASS2 (j.matrix.falses ≠ [])
    |> cnt64 CRC.page CRC.SECT_CHK_LO CRC.SECT_CHK_HI CRC.kCNT_SAT 32
  let s := if bad = 0 then s
    else s |> cntN CRC.page CRC.SECT_FAIL_CNT CRC.kCNT_SAT bad |> raise CRC.page CRC.iSECT_FAIL
      |> fset CRC.page CRC.LAST_FAIL_PSA (((List.range 32).filter (fun i => !bit j.pass i)).getLastD 0 + psa)
  let s := if j.trailer then s else s |> cnt CRC.page CRC.TRL_FAIL_CNT CRC.kCNT_SAT |> raise CRC.page CRC.iTRL_FAIL
  j.matrix.falses.foldl (fun t x => t |> cnt p DEC.FALSE_CONV_CNT DEC.kCNT_SAT |> raise p DEC.iFALSE_CONV
    |> emit 0x4004 srcDecode psa x.1 x.2) s

/-- Payloads of the sectors that passed, as recorded. -/
def rawPassed (j : Judged) : Store (List Nat) := j.good.map (fun kv => (kv.1, (kv.2.drop 12).take 2048))

/-- Payloads of all 32 sectors in order, as recorded. -/
def allPayloads (j : Judged) : List (List Nat) := (List.range 32).map (fun i => (rawPassed j).get i [])

/-- A cluster's end from a judgement: its payloads deciphered, or none without the key of an encrypted disc (R18, R515). -/
def clEnd (k : ClKind) (psa : Nat) (j : Judged) (x : HeldCl) (cause : Nat) (s : State) : ClusterEnd :=
  if keyReady s then
    { kind := k, rung := x.rung, reads := x.reads, cause := if k = .unrecovered then 0x4003 else 0, detail := cause, mask := maskOf 32 (fun i => (j.good.find i).isSome), written := j.written,
      sectors := (rawPassed j).map (fun kv => (kv.1, decipher (psa + kv.1) kv.2 s)),
      stream := maskOf 32 (fun i => match j.good.find i with | some b => bit (b.getD 8 0) 7 | none => false) }
  else { kind := .keyRequired, mask := 0 }

/-- A cluster's end handed to the command layer, with the cipher's counters. -/
def endRead (k : ClKind) (psa : Nat) (j : Judged) (x : HeldCl) (cause : Nat) (s : State) : State :=
  let s := if !encrypted s then s
    else if keyLoaded s then cnt64 XTS.page XTS.DEC_SECT_LO XTS.DEC_SECT_HI XTS.kCNT_SAT j.good.length s else keyMissing s
  endCluster psa (clEnd k psa j x cause s) s

/-! ## SQUALL (R302 to R312) -/

/-- SQ_ACTIVE shown. -/
def showSq (s : State) : State :=
  s |> fset DEC.page DEC.STATUS_SQ_ACTIVE s.dec.held.length |> fset DEC.page DEC.BACKLOG s.dec.backlog.length

/-- A cluster leaves SQUALL; the last at rung 6 ends ZEPHYR (R307). -/
def sqRelease (psa : Nat) (s : State) : State :=
  let held := s.dec.held.erase psa
  let z := s.dec.zephyr && held.any (fun kv => kv.2.rung == 6)
  s |> setDec { s.dec with held := held, zephyr := z } |> fsetB DEC.page DEC.STATUS_SQ_ZEPHYR z |> showSq

/-- Unrecovered: causes 1 ladder ended, 2 time limit, 3 backlog full, 4 inconsistent, 5 SQUALL disabled (R309, R317). -/
def unrecovered (psa cause : Nat) (j : Judged) (x : HeldCl) (s : State) : State :=
  s |> cnt DEC.page DEC.SQ_UNRECOVERED DEC.kCNT_SAT |> raise DEC.page DEC.iSQ_UNREC
    |> endRead .unrecovered psa j x cause
    |> emit 0x4003 srcDecode psa (0xFFFFFFFF - maskOf 32 (fun i => (j.good.find i).isSome)) cause

/-- The rung of the next read after `r` reads: none past the ladder's end (R305); rung 5 is not for legacy discs (R313). -/
def nextRung (r : Nat) (s : State) : Option Nat :=
  let g := if r = 0 then 0 else if r < 3 then 1 else if r = 3 then 3 else if r = 4 then 4 else if r = 5 && !legacyDisc s then 5 else 6
  let top := min 6 (fget DEC.page DEC.SQ_CFG_MAX_RUNG s)
  if 8 ≤ r || top < g then none
  else if g = 6 && !fon DEC.page DEC.SQ_CFG_SPEED_EN s then none
  else some g

/-- Whether rung 2 is due: CAL_EN, within MAX_RUNG, and no SQUALL calibration of the place lately (R306). -/
def calRung (psa : Nat) (s : State) : Bool :=
  let h := psaSide psa
  let key := h * 256 + psaLayer psa * 16 + tiltZone (groupTrack (slotGroup (psaLayer psa) (psaSlot psa)))
  let recent : Bool := match s.dec.calAt.find key with
    | some t => decide (s.time < t + fget DEC.page DEC.SQ_PWR_CAL_HOLD_S s * 25000000)
    | none => false
  fon DEC.page DEC.SQ_CFG_CAL_EN s && decide (2 ≤ fget DEC.page DEC.SQ_CFG_MAX_RUNG s) && !recent

/-- A ladder climbs to its next read, or ends (R305, R308). -/
def climb (psa : Nat) (x : HeldCl) (j : Judged) (s : State) : State :=
  let cal := x.reads = 3 && !legacyDisc s && calRung psa s
  let ended := fun (c : Nat) =>
    s |> fmax DEC.page DEC.SQ_TIME_MAX ((s.time - x.start) / 25000) |> sqRelease psa |> unrecovered psa c j x
  if x.late then ended 2
  else match nextRung x.reads s with
    | none =>
      if cal then
        s |> setDec { s.dec with held := s.dec.held.insert psa { x with rung := 2, calDue := true } } |> emit 0x4001 srcDecode psa 2 x.reads
      else ended 1
    | some g =>
      let s := if cal then emit 0x4001 srcDecode psa 2 x.reads s else s
      let s := if g = x.rung then s else emit 0x4001 srcDecode psa g x.reads s
      let h := psaSide psa
      let d := { s.dec with held := s.dec.held.insert psa { x with rung := g, calDue := cal } }
      let d := if g = 3 || g = 4 || g = 5 then { d with due := d.due.insert h { rung := g, beam := if legacyDisc s then 0 else psaLane psa } } else d
      if g = 6 && fget PWR.page PWR.STATUS_MODE s ≠ 2 then
        s |> setDec { d with zephyr := true } |> fset DEC.page DEC.STATUS_SQ_ZEPHYR 1
      else setDec d s

/-- A failed cluster enters SQUALL: a slot, the backlog, or neither (R302). -/
def squallEnter (psa : Nat) (x : HeldCl) (j : Judged) (s : State) : State :=
  let p := DEC.page
  if s.dec.held.length < 64 then
    let x := { x with start := s.time, sectors := j.good }
    s |> setDec { s.dec with held := s.dec.held.insert psa x } |> cnt p DEC.SQ_ENTERED DEC.kCNT_SAT |> showSq |> climb psa x j
  else if s.dec.backlog.length < 1024 then
    s |> setDec { s.dec with backlog := s.dec.backlog ++ [psa] } |> raise p DEC.iBACKLOG |> showSq
  else
    s |> sticky p DEC.kBACKLOG_FULL |> emit 0x4007 srcDecode psa s.dec.backlog.length 0 |> unrecovered psa 3 j x

/-- A marginal cluster (R300, R311). -/
def marginal (psa : Nat) (j : Judged) (s : State) : State :=
  let n := ((List.range 30).filter (bit j.cwMask)).length
  if fget DEC.page DEC.MARG_CFG_MARG_CW s ≤ n || fget DEC.page DEC.MARG_CFG_MARG_2EF s ≤ j.matrix.worst then
    let s := s |> raise DEC.page DEC.iMARGINAL |> emit 0x400C srcDecode psa n j.matrix.worst
    if fon DEC.page DEC.SQ_CFG_RELOC_MARG s then (queueReloc psa (allPayloads j) false s).1 else s
  else s

/-- An inconsistent cluster (R299). -/
def inconsistent (psa : Nat) (c : Nat × Nat) (j : Judged) (x : HeldCl) (s : State) : State :=
  let s := if c.1 = 3 then
      s |> raise XTS.page XTS.iFLAG_MISMATCH |> cnt XTS.page XTS.FLAG_MISMATCH_CNT XTS.kCNT_SAT
    else s
  s |> raise DEC.page DEC.iINCONSISTENT |> cnt DEC.page DEC.INCONS_CNT DEC.kCNT_SAT |> emit 0x4006 srcDecode psa c.1 c.2
    |> unrecovered psa 4 { j with good := [] } x

/-- What a read of 32 legacy sectors finds, with the sectors that passed in earlier reads (R303, R313). -/
def judgeLegacy (x : HeldCl) (secs : List (Option (List (BitVec 8)))) : Judged :=
  let ok := fun i => (secs.getD i none).isSome
  let good := (List.range 32).foldl (fun g i =>
    match secs.getD i none with
    | some b => Store.insert g i (List.replicate 12 0 ++ b.map BitVec.toNat)
    | none => g) x.sectors
  ⟨⟨[], 0, 0, 0, 0, []⟩, 0, maskOf 32 ok, good, true, none, 0xFFFFFFFF⟩

/-- The outcome of 32 legacy sectors read together, each decoded with the codes of its standard (R313). -/
def legacyOutcome (p : Nat) (secs : List (Option (List (BitVec 8)))) (s : State) : State :=
  let x := s.dec.reading.get p {}
  let j := judgeLegacy x secs
  if j.all then endRead .good p j x 0 s
  else
    let s := s |> cnt DEC.page DEC.CL_FAIL_CNT DEC.kCNT_SAT |> raise DEC.page DEC.iCL_FAIL |> emit 0x4000 srcDecode p 0 (0xFFFFFFFF - j.pass)
    if fon DEC.page DEC.CTRL_SQ_EN s then squallEnter p x j s else unrecovered p 5 j x s

/-- CLUSTER_OUTCOME (R299, R313). -/
def execClusterOutcome (psa : BitVec 32) (legacy : List (Option (List (BitVec 8)))) (s : State) : Res :=
  let p := psaCluster psa.toNat
  if legacyDisc s then .next (legacyOutcome p legacy s) else
  let lane := 8 * psaSide p + psaLane p
  let clear := fun (t : State) => setDec { t.dec with reading := t.dec.reading.erase p } t
  if s.blanks.contains p then
    .next ({ s with blanks := s.blanks.erase p } |> cnt DEC.page DEC.CL_BLANK_CNT DEC.kCNT_SAT |> fset DEC.page DEC.LAST_PSA p
      |> endCluster p { kind := .blank, mask := 0 } |> clear)
  else
    let x := s.dec.reading.get p {}
    let j := judge x p s
    let s := s |> clear |> showJudged p j
    if j.all then
      .next (match j.clash with
        | some c => inconsistent p c j x s
        | none => s |> pmc 0x06 lane 1 |> cnt64 DEC.page DEC.CL_CNT_LO DEC.CL_CNT_HI DEC.kCNT_SAT 1 |> endRead .good p j x 0 |> marginal p j)
    else
      let s := s |> pmc 0x07 lane 1 |> cnt DEC.page DEC.CL_FAIL_CNT DEC.kCNT_SAT |> raise DEC.page DEC.iCL_FAIL
        |> emit 0x4000 srcDecode p j.cwMask (0xFFFFFFFF - j.pass)
      .next (if fon DEC.page DEC.CTRL_SQ_EN s then squallEnter p x j s else unrecovered p 5 j x s)

/-- The counter of recoveries at a rung. -/
def recovFld (g : Nat) : Fld :=
  if g = 3 then DEC.RECOV_R3 else if g = 4 then DEC.RECOV_R4 else if g = 5 then DEC.RECOV_R5
  else if g = 6 then DEC.RECOV_R6 else DEC.RECOV_R1

/-- SQUALL_REREAD (R303, R305). -/
def execSquallReread (psa : BitVec 32) (legacy : List (Option (List (BitVec 8)))) (s : State) : Res :=
  let p := psaCluster psa.toNat
  match s.dec.held.find p with
  | none => .next s
  | some x =>
    let j := if legacyDisc s then judgeLegacy x legacy else judge x p s
    let x := { x with reads := x.reads + 1, combined := x.combined + 1, sectors := j.good }
    let s := s |> setDec { s.dec with held := s.dec.held.insert p x } |> pmc 0x09 (psaSide p) 1 |> (if legacyDisc s then id else showJudged p j)
    if j.all then
      match j.clash with
      | some c => .next (s |> sqRelease p |> inconsistent p c j x)
      | none =>
        let s := s |> cnt64 DEC.page DEC.CL_CNT_LO DEC.CL_CNT_HI DEC.kCNT_SAT 1 |> cnt DEC.page DEC.SQ_RECOVERED DEC.kCNT_SAT
          |> cnt DEC.page (recovFld x.rung) DEC.kCNT_SAT |> raise DEC.page DEC.iSQ_RECOV
          |> fmax DEC.page DEC.SQ_TIME_MAX ((s.time - x.start) / 25000) |> sqRelease p |> endRead .recovered p j x 0
          |> emit 0x4002 srcDecode p x.rung x.combined
        .next (if fget DEC.page DEC.SQ_CFG_REPLACE_RUNG s ≤ x.rung && !legacyDisc s then (queueReloc p (allPayloads j) false s).1 else s)
    else .next (climb p x j s)

/-- SQUALL_SLOT_FREE (R302): the oldest backlogged cluster takes the slot; its first read is still to come. -/
def execSquallSlotFree (s : State) : Res :=
  match s.dec.backlog with
  | [] => .next s
  | p :: ps =>
    if 64 ≤ s.dec.held.length then .next s
    else .next (s |> setDec { s.dec with backlog := ps, held := s.dec.held.insert p { reads := 0, combined := 0, start := s.time } }
      |> cnt DEC.page DEC.SQ_ENTERED DEC.kCNT_SAT |> showSq)

/-- SQUALL_TIME_LIMIT (R308): the read in progress completes first. -/
def execSquallTimeLimit (psa : BitVec 32) (s : State) : Res :=
  let p := psaCluster psa.toNat
  match s.dec.held.find p with
  | none => .next s
  | some x => .next (setDec { s.dec with held := s.dec.held.insert p { x with late := true } } s)

/-- SQUALL_ABANDON (R310). -/
def execSquallAbandon (psa : BitVec 32) (s : State) : Res :=
  let p := psaCluster psa.toNat
  match s.dec.held.find p with
  | none => .next s
  | some x => .next (s |> sqRelease p |> cnt DEC.page DEC.SQ_ABANDONED DEC.kCNT_SAT |> emit 0x400D srcDecode p x.rung x.reads)

/-- One operation's result judged at rung 2 (R306). -/
def sqInstall (psa op : Nat) (r : Option (Nat × Nat × BitVec 32)) (s : State) : State :=
  let h := psaSide psa
  match r with
  | none => s
  | some (best, start, v) =>
    if start + fget DEC.page DEC.SQ_PWR_CAL_MIN s ≤ best then
      let s := if op = 5 then dmPut (4 * h) (32 * fget (LOOP.page (4 * h)) LOOP.LOOP_STATUS_BANK s) v.toNat s
        else fset (TLT.page h) (TLT.RTOFS.ix (tiltZone (groupTrack (slotGroup (psaLayer psa) (psaSlot psa))))) v.toNat s
      s |> cnt DEC.page DEC.CAL_INSTALLED DEC.kCNT_SAT |> emit 0x400A srcDecode psa op (best - start)
    else s

/-- SQUALL_CALIBRATION (R306). -/
def execSquallCalibration (psa : BitVec 32) (cal5 cal3 : Option (Nat × Nat × BitVec 32)) (s : State) : Res :=
  let p := psaCluster psa.toNat
  match s.dec.held.find p with
  | none => .next s
  | some x =>
    if !x.calDue then .next s
    else
      let key := psaSide p * 256 + psaLayer p * 16 + tiltZone (groupTrack (slotGroup (psaLayer p) (psaSlot p)))
      let s := s |> sqInstall p 5 cal5 |> sqInstall p 3 cal3
        |> setDec { s.dec with calAt := s.dec.calAt.insert key s.time, held := s.dec.held.insert p { x with calDue := false } }
      .next (if (nextRung x.reads s).isNone then
        s |> sqRelease p |> unrecovered p 1 (judge x p s) x else s)

/-! ### SQUALL at a gap (R305) -/

/-- The data beams a rung acts on: the cluster's and its neighbours. -/
def sqBeams (b : Nat) : List Nat := [ b - 1, b, b + 1 ].filter (fun c => decide (c < 8) && decide (c + 1 ≥ b))

/-- A rung's change made on a head, with what it replaces. -/
def sqApply (h : Nat) (c : SqChange) (s : State) : State :=
  let p := fun b => CHN.page h b
  let bs := (sqBeams c.beam).eraseDups
  let put := fun (sv : Store Nat) (t : State) => setDec { t.dec with active := t.dec.active.insert h { c with saved := sv } } t
  if c.rung = 3 then
    let sv := bs.foldl (fun m b => Store.insert (Store.insert m (2 * b) (fget (p b) CHN.EQ_CFG_MU_OWN_SH s)) (2 * b + 1) (fget (p b) CHN.EQ_CFG_MU_NBR_SH s)) []
    put sv (bs.foldl (fun t b => t |> resetTaps h b |> fset (p b) CHN.EQ_CFG_MU_OWN_SH (fget (p b) CHN.EQ_CFG_MU_OWN_SH s - 1)
      |> fset (p b) CHN.EQ_CFG_MU_NBR_SH (fget (p b) CHN.EQ_CFG_MU_NBR_SH s - 1)) s)
  else if c.rung = 4 then
    let q := p c.beam
    let a := fget DEC.page DEC.SQ_TGT_A s
    let old := ((fget q CHN.TGT_A_G0 s + 256 * fget q CHN.TGT_A_G1 s) + 65536 * fget q CHN.TGT_A_G2 s) + 2 ^ 24 * fget q CHN.TGT_A_G3 s
    put [ (0, old), (1, fget q CHN.TGT_B_G4 s) ]
      (setTarget h c.beam [ slice a 7 0, slice a 15 8, slice a 23 16, slice a 31 24, fget DEC.page DEC.SQ_TGT_B s ] s)
  else
    put [ (0, fget (LPW.page h) LPW.BOOST_PCT s), (1, fget (LPW.page h) LPW.CTRL_BOOST s) ]
      (s |> fset (LPW.page h) LPW.BOOST_PCT (fget DEC.page DEC.SQ_PWR_PWR_STEP s) |> fset (LPW.page h) LPW.CTRL_BOOST 1)

/-- A rung's change undone. -/
def sqUndo (h : Nat) (c : SqChange) (s : State) : State :=
  let s := setDec { s.dec with active := s.dec.active.erase h } s
  if c.rung = 3 then
    c.saved.foldl (fun t kv => fset (CHN.page h (kv.1 / 2)) (if kv.1 % 2 = 0 then CHN.EQ_CFG_MU_OWN_SH else CHN.EQ_CFG_MU_NBR_SH) kv.2 t) s
  else if c.rung = 4 then
    let a := c.saved.get 0 0
    setTarget h c.beam [ slice a 7 0, slice a 15 8, slice a 23 16, slice a 31 24, c.saved.get 1 0 ] s
  else s |> fset (LPW.page h) LPW.BOOST_PCT (c.saved.get 0 0) |> fset (LPW.page h) LPW.CTRL_BOOST (c.saved.get 1 0)

/-- SQUALL's part of a gap: what the read needed is undone, and the next read's change is made. -/
def squallGap (h : Nat) (s : State) : State :=
  let s := match s.dec.active.find h with | some c => sqUndo h c s | none => s
  match s.dec.due.find h with
  | some c => s |> setDec { s.dec with due := s.dec.due.erase h } |> sqApply h c
  | none => s

/-! ## The CRC test unit (R320) -/

/-- CRC_TEST_START. -/
def execCrcTestStart (s : State) : Res :=
  let init := if fon CRC.page CRC.TEST_CTRL_CLASS s then 2 ^ 64 - 1 else 2 ^ 32 - 1
  .next (s |> setDec { s.dec with crcReg := init } |> fset CRC.page CRC.STATUS_TEST_BUSY 1)

/-- CRC_TEST_DATA: bytes in order, as many as LAST_BYTES says. -/
def execCrcTestData (data : BitVec 32) (s : State) : Res :=
  let n := fget CRC.page CRC.TEST_CTRL_LAST_BYTES s
  let bs := leBytes (if n = 0 then 4 else n) data.toNat
  let poly := if fon CRC.page CRC.TEST_CTRL_CLASS s then 0x9A6C9329AC4BC9B5 else 0x82F63B78
  .next (if fon CRC.page CRC.STATUS_TEST_BUSY s then setDec { s.dec with crcReg := crcLsb poly s.dec.crcReg bs } s else s)

/-- CRC_TEST_FINISH. -/
def execCrcTestFinish (s : State) : Res :=
  let m := if fon CRC.page CRC.TEST_CTRL_CLASS s then 2 ^ 64 - 1 else 2 ^ 32 - 1
  .next (if fon CRC.page CRC.STATUS_TEST_BUSY s then
    s |> fset64 CRC.page CRC.TEST_RESULT_LO CRC.TEST_RESULT_HI (s.dec.crcReg ^^^ m) |> fset CRC.page CRC.STATUS_TEST_BUSY 0
      |> raise CRC.page CRC.iTEST_DONE
  else s)

end Sys2Proof.Machine
end

