-- ==== Sys2Proof/Machine/Defect.lean ====
section
/-!
DEFINITION. Defects and the head's defect state H, the wobble and the confirmed position, calibration sweeps, and the
jump gap start (R45 to R48, R176, R265 to R272, R274 to R277).
-/
namespace Sys2Proof.Machine

/-! ## Defects (R268 to R272) -/

/-- The loop engines' H flag (R19, R126). -/
def enginesH (h : Nat) (b : Bool) (s : State) : State :=
  (List.range 3).foldl (fun t k => fsetB (ENG.page (4 * h + k)) ENG.STATUS_H b t) s

/-- Bits already taken that an erased span reaches back to: `n` bits (R270). -/
def eraseBack (h b n : Nat) (s : State) : State :=
  let c := s.chan h b
  let old := n - c.bits.length
  let mark := fun (i : Nat) (x : BitIn) => if i < n then { x with erased := true } else x
  let k := c.outs.length
  setChan h b { c with bits := c.bits.mapIdx mark,
                       outs := c.outs.mapIdx (fun i x => if k ≤ i + old then { x with erased := true } else x) } s

/-- HOLDING of every beam of a head (R270). -/
def showHolding (h : Nat) (s : State) : State :=
  (List.range 10).foldl (fun t b => fsetB (CHN.page h b) CHN.STATUS_HOLDING (beamHolds h b t) t) s

/-- PRE_BITS of a beam. -/
def preBits (h b : Nat) (s : State) : Nat := fget (CHN.page h b) CHN.DEF_CFG2_PRE_BITS s
/-- POST_BITS of a beam. -/
def postBits (h b : Nat) (s : State) : Nat := fget (CHN.page h b) CHN.DEF_CFG2_POST_BITS s

/-- The condition of H (R269). -/
def hCondition (h : Nat) (s : State) : Bool :=
  let n := fget (CHC.page h) CHC.HDEF_CFG_HEAD_N s
  let src := fget (CHC.page h) CHC.HDEF_CFG_DEF_SRC s
  let k := ((List.range 10).filter (fun b => bit src b && fon (CHN.page h b) CHN.STATUS_DEF s)).length
  fon (CHC.page h) CHC.CTRL_HDEF_EN s && ((s.common h).linkDef || (1 ≤ n && n ≤ 10 && decide (n ≤ k)))

/-- H rises: the holds, the erased span and the loop engines' freeze (R19, R269, R270). -/
def raiseH (h ago : Nat) (s : State) : State :=
  if hCondition h s && !headH h s then
    let s := s |> fset (CHC.page h) CHC.STATUS_H 1 |> raise (CHC.page h) CHC.iDEF_START
      |> setCommon h { s.common h with defCslot := fget (CHC.page h) CHC.CSLOT s, defFrame := fget (CHC.page h) CHC.CFRAME s }
      |> enginesH h true |> setHead h { s.head h with hAcc := true }
    showHolding h ((List.range 8).foldl (fun t b => eraseBack h b (preBits h b t + ago) t) s)
  else s

/-- DEFECT_START (R268, R269). -/
def execDefectStart (head : Head) (beam : Option (Fin 10)) (ago : Nat) (rf : List (List Int)) (s : State) : Res :=
  let h := head.n
  let s := rfSamples h rf s
  if recording h s then .next s
  else match beam with
    | none => .next (s |> setCommon h { s.common h with linkDef := true } |> raiseH h ago)
    | some b =>
      let p := CHN.page h b
      if !fon p CHN.CTRL_EN s || fon p CHN.STATUS_DARK s || fon (CHC.page h) CHC.STATUS_IN_GAP s || fon p CHN.STATUS_DEF s then .next s
      else .next (s |> fset p CHN.STATUS_DEF 1 |> cnt p CHN.DEF_CNT CHN.kCNT_SAT |> eraseBack h b (preBits h b s + ago)
        |> raiseH h ago |> showHolding h)

/-- DEFECT_END (R268, R270). -/
def execDefectEnd (head : Head) (beam : Option (Fin 10)) (bits : Nat) (rf : List (List Int)) (s : State) : Res :=
  let h := head.n
  let s := rfSamples h rf s
  match beam with
  | none => .next (s |> setCommon h { s.common h with linkDef := false } |> showHolding h)
  | some b =>
    let p := CHN.page h b
    if !fon p CHN.STATUS_DEF s || fon (CHC.page h) CHC.STATUS_IN_GAP s then .next s
    else .next (s |> fset p CHN.STATUS_DEF 0 |> cntN p CHN.DEF_BITS CHN.kCNT_SAT bits
      |> setChan h b { s.chan h b with post := postBits h b s } |> showHolding h)

/-- The oldest entry of the defect FIFO in its role registers (R272, R286). -/
def showFifo (h : Nat) (s : State) : State :=
  let p := DFF.page h
  let q := (s.common h).fifo
  let e := q.headD ⟨0, 0, 0, 0, 0⟩
  s |> fset p DFF.DEF_FIFO_STATUS_COUNT q.length |> fset p DFF.START_CSLOT e.cslot |> fset p DFF.START_FRAME e.frame
    |> fset p DFF.LENGTH (min e.bits (2 ^ 32 - 1)) |> fset p DFF.BEAMS e.beams |> fset p DFF.ENV_MIN e.envMin

/-- A head defect recorded; with the FIFO full the newest is discarded (R272). -/
def recordDefect (h : Nat) (d : HeadDefect) (s : State) : State :=
  let q := (s.common h).fifo
  if 16 ≤ q.length then fset (DFF.page h) DFF.DEF_FIFO_STATUS_OVF 1 s
  else s |> setCommon h { s.common h with fifo := q ++ [d] } |> showFifo h

/-- H falls: holds release, loops resume, the engines' freeze ends (R269, R271). -/
def dropH (h : Nat) (s : State) : State :=
  let s := s |> fset (CHC.page h) CHC.STATUS_H 0 |> enginesH h false
  showHolding h ((List.range 8).foldl (fun t b => setChan h b { t.chan h b with post := postBits h b t } t) s)

/-- HEAD_DEFECT_END (R269 to R272). -/
def execHeadDefectEnd (head : Head) (bits : Nat) (tenths : Nat) (beams : BitVec 10) (envMin : BitVec 16) (s : State) : Res :=
  let h := head.n
  let p := CHC.page h
  if !headH h s || hCondition h s then .next s
  else
    .next (s |> dropH h |> raise p CHC.iDEF_END |> cnt p CHC.HDEF_CNT CHC.kCNT_SAT |> pmc 0x0A h 1 |> cntN p CHC.HDEF_TIME CHC.kCNT_SAT (tenths / 10)
      |> fset p CHC.HDEF_LAST (min 65535 tenths) |> fset p CHC.HDEF_BEAMS beams.toNat
      |> recordDefect h ⟨(s.common h).defCslot, (s.common h).defFrame, bits, beams.toNat, envMin.toNat⟩)

/-- DEF_LONG (R271). -/
def execDefLong (head : Head) (us : Nat) (beams : BitVec 10) (s : State) : Res :=
  let h := head.n
  .next (if headH h s then s |> raise (CHC.page h) CHC.iDEF_LONG |> emit 0x3004 (srcChan h) h us beams.toNat else s)

/-- DEF_FIFO_POP (R286). -/
def execDefFifoPop (head : Head) (s : State) : Res :=
  .next (s |> setCommon head.n { s.common head.n with fifo := (s.common head.n).fifo.drop 1 } |> showFifo head.n)

/-! ## The wobble and POS (R45 to R48, R266) -/

/-- Whether a word's check field is right (R46). -/
def wobbleOk (w : Nat) : Bool := crc8 (bitsMsb 40 (w / 256)) == w % 256

/-- POS from the carriers' confirmed addresses (R266): stream 0's, or else stream 1's. -/
def posFrom (h track layer slot : Nat) (s : State) : State :=
  let new := !posValid h s
  let g := groupOf track
  let s := s |> setPos h (2 ^ 31 + layer * 2 ^ 18 + track)
  let s := if new || fget (ACQ.page h) ACQ.MAP_STATE_LAYER s ≠ layer || !fon (ACQ.page h) ACQ.MAP_STATE_VALID s then
      s |> fset (ACQ.page h) ACQ.MAP_STATE_VALID 1 |> fset (ACQ.page h) ACQ.MAP_STATE_LAYER layer
    else s
  let s := if new then loadSteps h g s else s
  s |> showSlot h (slot + 12) |> learnWobble h slot g |> addressConfirmed h

/-- A confirmed address of a carrier (R48, R266). -/
def wobbleConfirmed (h stream : Nat) (c : WobCand) (s : State) : State :=
  let k := s.common h
  let old := if posValid h s then k.confirmed else []
  let track := if stream = 0 then c.track else c.track - 2
  let s := setCommon h { k with confirmed := old.insert stream track } s
  match old.find (1 - stream) with
  | none => posFrom h track c.layer c.slot s
  | some other =>
    let s := if other = track then s
      else s |> raise (CHC.page h) CHC.iPOS_MISMATCH
        |> emit 0x3010 (srcChan h) h (if stream = 0 then track else other) (if stream = 0 then other else track)
    if stream = 0 then posFrom h track c.layer c.slot s else s

/-- WOBBLE_WORD (R46, R48). -/
def execWobbleWord (head : Head) (stream : Fin 2) (word : BitVec 48) (s : State) : Res :=
  let h := head.n
  let p := CHC.page h
  let w := word.toNat
  let k := s.common h
  if !fon p CHC.CTRL_EN s || !fon p CHC.CTRL_WOB_EN s then .next s
  else if !wobbleOk w then .next (cnt p (if stream = 0 then CHC.WOB_ERR0 else CHC.WOB_ERR1) CHC.kCNT_SAT s)
  else
    let s := fset p (if stream = 0 then CHC.STATUS_WOB_LOCK0 else CHC.STATUS_WOB_LOCK1) 1 s
    if slice w 12 8 = 1 then
      let bump := match k.cands.find stream with
        | some c => k.cands.insert stream { c with slot := c.slot + 12 }
        | none => k.cands
      .next (setCommon h { k with definition := some (slice w 47 40, slice w 39 32, slice w 31 26, slice w 25 18), cands := bump } s)
    else if slice w 12 8 = 0 then
      let c : WobCand := ⟨slice w 47 47, slice w 46 44, slice w 43 26, slice w 25 13⟩
      let s := setCommon h { k with cands := k.cands.insert stream c } s
      .next (match k.cands.find stream with
        | some o =>
          if o.side = c.side && o.layer = c.layer && o.track = c.track && c.slot = o.slot + 12 then wobbleConfirmed h stream c s else s
        | none => s)
    else .next s

/-- POS_LOST (R266). -/
def execPosLost (head : Head) (s : State) : Res :=
  let h := head.n
  .next (s |> setCommon h { s.common h with confirmed := [], cands := [] } |> fset (CHC.page h) CHC.STATUS_WOB_LOCK0 0
    |> fset (CHC.page h) CHC.STATUS_WOB_LOCK1 0 |> posInvalid h)

/-- WOBBLE_NOT_LOCKED (R285). -/
def execWobbleNotLocked (head : Head) (s : State) : Res := .next (fault (CHC.page head.n) 1 s)

/-- MODE_CFG_WRITE (R278). -/
def execModeCfgWrite (head : Head) (mode : Fin 8) (s : State) : Res := .next (modeWrite head.n mode s)

/-! ## Calibration (R274 to R277) -/

/-- The requester ID of CE3 or CE7. -/
def calSrc (h : Nat) : Nat := srcEng (15 + 4 * h)

/-- The value a sweep writes (R274). -/
def calGet (h op layer zone : Nat) (s : State) : Int :=
  if op = 2 then fgetI (TLT.page h) (TLT.SA_PRESET.ix layer) s
  else if op = 3 then fgetI (TLT.page h) (TLT.RTOFS.ix zone) s
  else if op = 4 then fgetI (TLT.page h) (TLT.TTILT.ix zone) s
  else coef (4 * h) 0 s

/-- The sweep's value written through RGS by CE3, in the target's format (R276). -/
def calPut (h op layer zone : Nat) (v : Int) (s : State) : State :=
  if op = 2 then fsetI (TLT.page h) (TLT.SA_PRESET.ix layer) v s
  else if op = 3 then fsetI (TLT.page h) (TLT.RTOFS.ix zone) v s
  else if op = 4 then fsetI (TLT.page h) (TLT.TTILT.ix zone) v s
  else dmPut (4 * h) (32 * fget (LOOP.page (4 * h)) LOOP.LOOP_STATUS_BANK s) (ofSigned 32 v) s

/-- Points of a sweep (R286). -/
def calPoints (h : Nat) (s : State) : Nat := clampN 3 15 (fget (CLE.page h) CLE.CAL_CFG_POINTS s)

/-- STEP of an operation (R274): times 2^16 for the Q1.31 targets. -/
def calStep (h op : Nat) (s : State) : Int :=
  let st : Int := fget (CLE.page h) CLE.CAL_CFG_STEP s
  if op = 3 || op = 5 then st * 2 ^ 16 else st

/-- Value of point `i`, centred on the target's own. -/
def calValue (h : Nat) (w : Sweep) (i : Nat) (s : State) : Int :=
  w.origin + ((2 * (i : Int) - (calPoints h s - 1 : Nat)) * calStep h w.op s) / 2

/-- Failure (R277): the original value returns at the next gap. -/
def calFail (h cause : Nat) (s : State) : State :=
  if fget (CLE.page h) CLE.CAL_STATUS_STATE s = 1 then
    let k := s.common h
    let op := fget (CLE.page h) CLE.CAL_CMD_OP s
    let s := match k.sweep with
      | some w => setCommon h { k with calWrite := some w.origin } s
      | none => s
    s |> fset (CLE.page h) CLE.CAL_STATUS_STATE 3 |> fset (CLE.page h) CLE.CAL_STATUS_CAUSE cause
      |> emit 0x3021 (calSrc h) (calSrc h) op cause
  else s

/-- The preconditions of an operation (R274). -/
def calReady (h op layer zone : Nat) (s : State) : Bool :=
  let tr := getLoop (4 * h + 1) s
  decide (getLoop (4 * h) s = 2) && decide (posLayer h s = layer || op = 1 && fget (FOC.page h) FOC.FOC_CFG_TARGET_LAYER s = layer) &&
    (if op = 1 then tr = 0 || tr = 6
     else decide (tr = 2) && (op ≠ 3 && op ≠ 4 || decide (tiltZone (posTrack h s) = zone)) &&
       (op ≠ 4 || fon (TLT.page h) TLT.TS_CFG_TTILT_EN s))

/-- Mean CQI of the eight data beams. -/
def meanCqi (h : Nat) (s : State) : Nat := ((List.range 8).map (fun b => fget (CHN.page h b) CHN.CQI s)).foldl (· + ·) 0 / 8

/-- A GO of CAL_CMD (R274, R277): ignored while a calibration runs. -/
def calGo (h op layer zone : Nat) (k : State → State) (s : State) : State :=
  let p := CLE.page h
  if fget p CLE.CAL_STATUS_STATE s = 1 then s
  else
    let s := s |> fset p CLE.CAL_CMD_OP op |> fset p CLE.CAL_CMD_LAYER layer |> fset p CLE.CAL_CMD_ZONE zone
      |> fset p CLE.CAL_STATUS_STATE 1 |> fset p CLE.CAL_STATUS_EDGE 0 |> fset p CLE.CAL_STATUS_CAUSE 0
    if calReady h op layer zone s then k s
    else calFail h 1 (setCommon h { s.common h with sweep := none } s)

/-- Completion (R277). -/
def calDone (h result : Nat) (s : State) : State :=
  let p := CLE.page h
  s |> fset p CLE.CAL_STATUS_STATE 2 |> fset p CLE.CAL_RESULT result
    |> emit 0x3020 (calSrc h) (calSrc h) (fget p CLE.CAL_CMD_OP s) result

/-- PUSH_PULL_BALANCE (R275): BAL = A_L / (A_L + A_G) in Q1.31. -/
def execPushPullBalance (head : Head) (layer : Fin 8) (al ag : BitVec 16) (s : State) : Res :=
  let h := head.n
  let sum := al.toNat + ag.toNat
  .next (calGo h 1 layer 0 (fun t =>
    t |> fset (CHC.page h) CHC.PP_MEAS_A_L al.toNat |> fset (CHC.page h) CHC.PP_MEAS_A_G ag.toNat
      |> fset (CHC.page h) CHC.PP_STATUS_VALID 1 |> setCommon h { t.common h with sweep := none }
      |> (fun u => if sum = 0 then withFree (fun v => calDone h (v % 2 ^ 32)) u
        else calDone h (min (2 ^ 31 - 1) (al.toNat * 2 ^ 31 / sum)) u)) s)

/-- The start of a sweep (R276): the first value is written at the next gap. -/
def sweepStart (h op layer zone : Nat) (s : State) : State :=
  let w : Sweep := { op := op, layer := layer, zone := zone, origin := calGet h op layer zone s }
  s |> setCommon h { s.common h with sweep := some w, calWrite := some (calValue h w 0 s) } |> fset (CLE.page h) CLE.CQI_START (meanCqi h s)

/-- SA_PRESET_CAL (R274, R276). -/
def execSaPresetCal (head : Head) (layer : Fin 8) (s : State) : Res :=
  .next (calGo head.n 2 layer 0 (sweepStart head.n 2 layer 0) s)
/-- RADIAL_TILT_CAL (R274, R276). -/
def execRadialTiltCal (head : Head) (layer : Fin 8) (zone : Fin 16) (s : State) : Res :=
  .next (calGo head.n 3 layer zone (sweepStart head.n 3 layer zone) s)
/-- TANGENTIAL_TILT_CAL (R274, R276). -/
def execTangentialTiltCal (head : Head) (layer : Fin 8) (zone : Fin 16) (s : State) : Res :=
  .next (calGo head.n 4 layer zone (sweepStart head.n 4 layer zone) s)
/-- FOCUS_OFFSET_CAL (R274, R276). -/
def execFocusOffsetCal (head : Head) (layer : Fin 8) (s : State) : Res :=
  .next (calGo head.n 5 layer 0 (sweepStart head.n 5 layer 0) s)

/-- The index of the best mean, the first of equals. -/
def bestPoint (ms : List Nat) : Nat := ms.idxOf (ms.foldl max 0)

/-- The fit (R276): the vertex of the quadratic through the best point and its two neighbours, clamped to the range. -/
def sweepFit (h : Nat) (w : Sweep) (s : State) : State :=
  let n := w.means.length
  let j := clampN 1 (n - 2) (bestPoint w.means)
  let y := fun i => (w.means.getD i 0 : Rat)
  let den := 2 * (y (j - 1) - 2 * y j + y (j + 1))
  let st : Rat := calStep h w.op s
  let x : Rat := if den < 0 then (calValue h w j s : Rat) + st * (y (j - 1) - y (j + 1)) / den
    else calValue h w (bestPoint w.means) s
  let lo : Rat := calValue h w 0 s
  let hi : Rat := calValue h w (n - 1) s
  let v := (limR lo hi x).floor
  let width := if w.op = 2 || w.op = 4 then 16 else 32
  s |> fset (CLE.page h) CLE.CQI_BEST (w.means.foldl max 0) |> fsetB (CLE.page h) CLE.CAL_STATUS_EDGE (decide (x < lo ∨ hi < x))
    |> setCommon h { s.common h with sweep := some w, calWrite := some w.origin } |> calDone h (ofSigned width v)

/-- CAL_SWEEP_POINT (R276). -/
def execCalSweepPoint (head : Head) (cqi : Nat) (hit : Bool) (s : State) : Res :=
  let h := head.n
  match (s.common h).sweep with
  | none => .next s
  | some w =>
    if fget (CLE.page h) CLE.CAL_STATUS_STATE s ≠ 1 then .next s
    else if hit then
      .next (if w.again < 3 then setCommon h { s.common h with sweep := some { w with again := w.again + 1 } } s else calFail h 2 s)
    else
      let w := { w with means := w.means ++ [cqi], again := 0 }
      .next (if w.means.length < calPoints h s then
        setCommon h { s.common h with sweep := some w, calWrite := some (calValue h w w.means.length s) } s
      else sweepFit h w s)

/-- CAL_FAIL (R276, R277). -/
def execCalFail (head : Head) (cause : Fin 5) (s : State) : Res :=
  .next (if cause = 0 then s else calFail head.n cause s)

/-- The gap's part of a sweep: a value written or restored. -/
def calGap (h : Nat) (s : State) : State :=
  let k := s.common h
  match k.calWrite, k.sweep with
  | some v, some w =>
    s |> calPut h w.op w.layer w.zone v
      |> setCommon h { k with calWrite := none, sweep := if fget (CLE.page h) CLE.CAL_STATUS_STATE s = 1 then some w else none }
  | _, _ => s

/-! ## The jump gap start (R89, R176, R209, R244, R245, R252, R253, R265) -/

/-- A beam's work at a gap start: a pending target takes effect, and a gain change (R244, R253). -/
def beamGap (h : Nat) (s : State) (b : Nat) : State :=
  let p := CHN.page h b
  let c := s.chan h b
  let g := match c.gainStep with | some n => dividedGain c.gain n | none => c.gain
  let tg : List Int := [ fgetI p CHN.TGT_A_G0 s, fgetI p CHN.TGT_A_G1 s, fgetI p CHN.TGT_A_G2 s, fgetI p CHN.TGT_A_G3 s, fgetI p CHN.TGT_B_G4 s ]
  s |> setChan h b { c with target := tg, gain := g, gainStep := none, stepped := false, lowCqi := false, acqRevs := c.acqRevs + 1 }
    |> fset p CHN.TGT_B_TGT_PEND 0 |> fset p CHN.AGC_GAIN (g * 4096).floor.toNat

/-- N_REV (R265). -/
def showRev (h : Nat) (nrev : Option (BitVec 24)) (s : State) : State :=
  match nrev with
  | some n => s |> fset (CHC.page h) CHC.N_REV n.toNat |> fset (CHC.page h) CHC.N_VALID 1
  | none => fset (CHC.page h) CHC.N_VALID 0 s

/-- JUMP_GAP_START (R176): raised from the frame slot count, or from the spindle angle while that is valid (R209). -/
def execJumpGapStart (head : Head) (mon : List (Nat × Nat)) (nrev : Option (BitVec 24)) (s : State) : Res :=
  let h := head.n
  if !frameLocked h s && !fon SPN.page SPN.STATUS_ANGLE_VALID s then .next s
  else
    let s := s |> learnGap h |> showRev h nrev |> fset (CHC.page h) CHC.STATUS_IN_GAP 1
    let s := (List.range 8).foldl (beamGap h) s
    let s := s |> squallGap h |> restoreSets h |> calGap h |> servoGap h |> laserGap h mon
    .next (if posValid h s then s |> loadSteps h (posGroup h s) |> autoFs h (posGroup h s) |> fset (CHC.page h) CHC.FSLOT 0 else s)

end Sys2Proof.Machine
end

