-- ==== Sys2Proof/Machine/Encode.lean ====
section
/-!
DEFINITION. The DLA encoder and the cipher's place in it (R324 to R327, R512, R515).
-/
namespace Sys2Proof.Machine

/-- A cluster index at or above the journalled frontier, or a write sequence number at the journalled limit (R348). -/
def needsCheckpoint (lba : Option Nat) (s : State) : Bool :=
  (match lba with | some a => decide (fget ENC.page ENC.CKPT_FRONTIER s ≤ a / 32) | none => false) ||
    decide (fget64 ENC.page ENC.WSEQ_LIM_LO ENC.WSEQ_LIM_HI s ≤ wseq s)

/-- The 32 payloads with zeros where the host supplied nothing (R324). -/
def fillZeros (mask : Nat) (ps : List (List Nat)) : List (List Nat) :=
  (List.range 32).map (fun i => if bit mask i then ((ps.getD i []) ++ List.replicate 2048 0).take 2048 else List.replicate 2048 0)

/-- A cluster of kind 1 or, in a spare slot, 3, encoded under the next write sequence number (R324, R348). -/
def encodeCluster (psa home stream : Nat) (lba : Option Nat) (comp : Bool) (mask : Nat) (ps : List (List Nat)) (s : State) : Encoded × State :=
  let spare := isSpare (psaLayer psa) (psaSlot psa)
  let w := wseq s
  let fl := b2n comp * 128 + b2n (encrypted s) * 64 + b2n spare * 32
  let sec := (fillZeros mask ps).mapIdx (fun i p => buildSector (psa + i) (match lba with | some a => a + i | none => 0xFFFFFFFF) fl stream w (if bit mask i then encipher (psa + i) p s else p))
  let tr := buildTrailer psa (if spare then 3 else 1) (if spare then home else 0xFFFFFFFF) w s.disc.id mask
  (⟨psa, home, if spare then 3 else 1, w, mask, stream, comp, lba, fillZeros mask ps, clusterFrames sec tr⟩,
    s |> setWseq (w + 1) |> cnt64 ENC.page ENC.CL_ENC_LO ENC.CL_ENC_HI ENC.kCNT_SAT 1
      |> cnt64 CRC.page CRC.SECT_GEN_LO CRC.SECT_GEN_HI CRC.kCNT_SAT 32
      |> (if encrypted s then cnt64 XTS.page XTS.ENC_SECT_LO XTS.ENC_SECT_HI XTS.kCNT_SAT ((List.range 32).filter (bit mask)).length else id))

/-- The write request behind a cluster, when its data have arrived (R428). -/
def writeFor (home : Nat) (s : State) : Option ClReq := (firstWrite home s).filter (fun r => r.queued.isSome)

/-- A write's cluster waits: its command may not start, or a read accepted before it needs a sector of the cluster that
it has neither transferred nor ended without (R438, R439, R441). -/
def writeWaits (r : ClReq) (s : State) : Bool :=
  match s.cl.cmds.find r.tag with
  | none => false
  | some c => !mayStart r.tag c s ||
      (before r.tag s).any (fun e => e.reads && (c.part r.cluster).any (fun i => (e.part r.cluster).contains i) && !e.moved.contains r.cluster)

/-- Some side whose head is in service lacks its Disc Identity or a copy of the descriptor, or the descriptor is still to
be decided (R349, R575). -/
def unidentified (s : State) : Bool :=
  (s.vault.descr.isNone && !s.disc.userWritten) || [ 0, 1 ].any (fun d => inService d s && (!bit s.disc.identities d ||
    (s.vault.descr.isSome && (sealLayers s.disc.variant).any (fun l => !bit s.disc.descriptors (8 * d + l)))))

/-- CLUSTER_ENCODE (R324). A cluster that needs a checkpoint waits for it, a disc without its first recording for that
(R348, R349); without the key of an encrypted disc nothing is recorded (R515). A command's cluster is encoded from the
sectors its request holds. -/
def execClusterEncode (c : ClusterIn) (s : State) : Res :=
  let psa := psaCluster c.psa
  if !fon ENC.page ENC.CTRL_EN s then .next s
  else if !keyReady s then .next (s |> keyMissing |> endCluster psa { kind := .keyRequired, mask := 0 })
  else if needsCheckpoint c.lba s || unidentified s then .next s
  else
    let home := match c.lba with | some a => psaCluster (lbaToPsa a) | none => homeOf psa s
    match writeFor home s with
    | none =>
      let (e, t) := encodeCluster psa home c.stream c.lba c.compressed c.mask c.sectors s
      .next { t with encoded := t.encoded ++ [e] }
    | some r =>
      if writeWaits r s || s.encoded.any (fun x => x.home == home) then .next s
      else
        let k := s.cl.cmds.find r.tag
        let st := match k with | some x => x.stream | none => 0
        let comp := match s.cl.strms.find st with | some x => x.compressed | none => false
        let (e, t) := encodeCluster psa home (st % 256) (some (32 * r.cluster)) comp r.mask r.sectors s
        .next ({ t with encoded := t.encoded ++ [e] } |> modCmd r.tag (fun x => { x with tFirst := some (x.tFirst.getD t.time), phase := 1 }))

end Sys2Proof.Machine
end

