-- ==== Sys2Proof/Machine/Writing.lean ====
section
/-!
DEFINITION. Arming, relinking, the read boost and LPW's enable, and optimum power calibration (R331, R334, R337 to R344).
-/
namespace Sys2Proof.Machine

/-! ## Arming (R342) -/

/-- The group that holds slot `f` of a cluster slot of a layer. -/
def slotGroupAt (layer slot f : Nat) : Nat :=
  let a := slotArea layer slot
  let (g0, n) := a.groups
  groupAt layer n (if layer % 2 = 0 then g0 else g0 + n - 1) ((slot - firstSlot layer a) * 484 + f)

/-- OPC_VALID of a head. -/
def opcFld (h : Nat) : Fld := if h = 0 then CAL.OPC_VALID_L else CAL.OPC_VALID_U

/-- A layer's OPC result is valid (R338). -/
def opcValid (h layer : Nat) (s : State) : Bool := bit (fget CAL.page (opcFld h) s) layer

/-- The front end is write-capable (R95). -/
def capsWrite (h : Nat) (s : State) : Bool := bit (fget (HSL.page h 0) HSL.CAPS_LO s) 26

/-- The power table of a head is confirmed, and LPW runs (R334). -/
def tableReady (h : Nat) (s : State) : Bool :=
  let r := s.rec' h
  fon (LPW.page h) LPW.CTRL_EN s && !r.blocked && decide (r.unsent = []) && decide (changedEntries h s = [])

/-- The arming conditions of R342, for a first frame slot of a layer's group; none in a revolution whose gap jump failed (R179). -/
def armReady (h layer g : Nat) (s : State) : Bool :=
  getMcState h s = 3 && posValid h s && posLayer h s = layer && posGroup h s = g && opcValid h layer s && tableReady h s &&
    capsWrite h s && fon SPN.page SPN.STATUS_SPEED_OK s && !(s.head h).noWrite

/-- A defect in force ends at the start of writing (R271). -/
def endDefects (h : Nat) (s : State) : State :=
  let s := (List.range 10).foldl (fun t b => fset (CHN.page h b) CHN.STATUS_DEF 0 t) (setCommon h { s.common h with linkDef := false } s)
  if headH h s then s |> dropH h |> raise (CHC.page h) CHC.iDEF_END else s

/-- Recording begins with the clusters named: WRITE_ARM goes out and the write stop's KILL ends (R100, R105, R342). -/
def arm (h : Nat) (em : List Emission) (window offset seq : Nat) (s : State) : State :=
  s |> endDefects h
    |> setLink h { s.link h with arm := some (window, offset, seq), killSlots := false }
    |> fset (HTX.page h) HTX.STATUS_KILL 0 |> fset (LPW.page h) LPW.STATUS_KILL 0 |> fset (LPW.page h) LPW.STATUS_BOOST_ACT 0
    |> sendMsg h 8 (window % 256 * 2 ^ 232 + offset % 2048 * 2 ^ 221 + seq % 256 * 2 ^ 212) false
    |> (fun t => setRec h { t.rec' h with emitting := em, recorded := true, boosting := false, suspended := none, suspRevs := 0 } t)
    |> showWriting h true

/-- A cluster or block at a PSA that can be emitted. -/
def emissionAt (psa : Nat) (s : State) : Option Emission :=
  match s.encoded.find? (fun c => c.psa == psa) with
  | some c => some { psa := psa, home := c.home, wseq := c.wseq }
  | none => (s.disc.blocks.find? (fun b => b.psa == psa)).map (fun b =>
      { psa := b.psa, home := b.psa, dcz := true, wseq := s.disc.written.get b.psa 0 })

/-- Sectors of a legacy disc recorded with the codes and strategy of their standard, by head L in acceptance order (R350,
R428): each named cluster whose data have arrived and that nothing holds back. -/
def legacyRecord (homes : List Nat) (s : State) : State :=
  if fon FMT.page FMT.STATUS_READ_ONLY s || getMcState 0 s ≠ 3 then s
  else homes.foldl (fun t p =>
    match writeFor p t with
    | some r => if writeWaits r t then t else endCluster p { kind := .written } t
    | none => t) s

/-- RECORDING_ARM (R342): refused for a front end that cannot write and for an invalid table, waiting while a condition
does not hold. -/
def execRecordingArm (head : Head) (psas : List Nat) (window offset seq : Nat) (s : State) : Res :=
  let h := head.n
  if legacyDisc s then .next (if h = 0 then legacyRecord (psas.map psaCluster) s else s) else
  match (psas.map psaCluster).filterMap (fun p => emissionAt p s) with
  | [] => .next s
  | e :: es =>
    let layer := psaLayer e.psa
    let one := es.all (fun x => psaSide x.psa == h && psaLayer x.psa == layer && psaSlot x.psa == psaSlot e.psa) && psaSide e.psa == h
    if !one || recording h s || fon (LPW.page h) LPW.STATUS_SUSPENDED s then .next s
    else if !capsWrite h s then .next (fault (LPW.page h) 0x01 s)
    else if !stratValid h (stratTable h s) s then .next (fault (LPW.page h) 0x03 s)
    else if armReady h layer (slotGroupAt layer (psaSlot e.psa) 0) s then .next (arm h (e :: es) window offset seq s)
    else .next s

/-- Whether the cause of a suspension has cleared (R343, R344). -/
def causeCleared (h cause layer : Nat) (s : State) : Bool :=
  if cause = 2 then !fon ENC.page ENC.CTRL_SUSPEND s
  else if cause = 4 then !fon PWR.page PWR.STATUS_VMOT_WARN s
  else if cause = 6 then opcValid h layer s
  else true

/-- RELINK (R344): the clusters in progress continue at their slot, or the next slot's begin. -/
def execRelink (head : Head) (ahead window offset seq : Nat) (s : State) : Res :=
  let h := head.n
  let r := s.rec' h
  let p := LPW.page h
  let layer := fget (ACQ.page h) ACQ.MAP_STATE_LAYER s
  let em := if r.emitting = [] then startSlot h layer (fget (CHC.page h) CHC.CSLOT s) s else r.emitting
  match r.suspended, em with
  | some cause, e :: _ =>
    if causeCleared h cause layer s && decide (nz (fget ENC.page ENC.SUSP_CFG_RESUME_CL s) ≤ ahead) &&
        armReady h (psaLayer e.psa) (slotGroupAt (psaLayer e.psa) (psaSlot e.psa) e.frames) s then
      .next (s |> arm h em window offset seq |> fset p LPW.STATUS_SUSPENDED 0
        |> fset ENC.page (if h = 0 then ENC.STATUS_SUSP_L else ENC.STATUS_SUSP_U) 0
        |> raise p LPW.iRELINKED |> cnt p LPW.RELINK_CNT LPW.kCNT_SAT |> emit 0x4101 (srcChan h) h (psaSlot e.psa) r.suspRevs)
    else .next s
  | _, _ => .next s

/-- BOOST (R337): acted on at gap starts. -/
def execBoost (head : Head) (on : Bool) (s : State) : Res := .next (fsetB (LPW.page head.n) LPW.CTRL_BOOST on s)

/-- LPW_ENABLE (R334): written 0 and then 1, it lifts the bar a refused power entry set. -/
def execLpwEnable (head : Head) (en : Bool) (s : State) : Res :=
  let p := LPW.page head.n
  let up := en && !fon p LPW.CTRL_EN s
  .next (s |> fsetB p LPW.CTRL_EN en |> (if up then setRec head.n { s.rec' head.n with blocked := false } else id))

end Sys2Proof.Machine
end

