-- ==== Sys2Proof/Machine/Journal.lean ====
section
/-!
DEFINITION. Replacements and the intent journal, checkpoints, and verification (R311, R346, R348, R351, R356, R646).
-/
namespace Sys2Proof.Machine

/-! ## Replacements (R62, R346, R351) -/

/-- How an attempt at a replacement ended. -/
inductive ReplEnd
  /-- Verified and listed, at the PSA. -/
  | done (psa : Nat)
  /-- Not verified; a further slot may be tried. -/
  | retry
  /-- Not possible, with the reason of event 0x4104. -/
  | stuck (reason : Nat)
  /-- The third slot was not verified. -/
  | failed

/-- The end of a cluster that is not recorded, with the code of the event behind it and its reason. -/
def faultEnd (cause reason : Nat) : ClusterEnd := { kind := .writeFault, mask := 0, cause := cause, detail := reason }

/-- A journal entry of a relocation. -/
def relocEntry (st home repl gen : Nat) : Intent := ⟨2, st, psaSide home, psaLayer home, gen, 0, home, repl⟩

/-- The replacement cluster recorded in its slot (R324, R348). -/
def recordReplacement (home repl : Nat) (c : Encoded) (s : State) : State :=
  let (e, t) := encodeCluster repl home c.stream c.lba c.comp c.mask c.sectors s
  t |> setDisc { t.disc with written := t.disc.written.insert repl e.wseq, named := t.disc.named ++ [repl] }
    |> send (.recorded repl e.frames)

/-- One attempt at a replacement: intent, replacement, verification read, Defect List, done (R351). `tries` counts the
slots tried before; the third that fails is recorded as abandoned. -/
def replace (home tries : Nat) (c : Encoded) (verified : Bool) (s : State) : ReplEnd × State :=
  let side := psaSide home
  let layer := psaLayer home
  let gen := lastGen side 3 layer s + 1
  match nextSpare home s with
  | none => (.stuck 3, s)
  | some repl =>
    match recordIntent (relocEntry 1 home repl gen) false s with
    | none => (.stuck 4, s)
    | some s =>
      let s := recordReplacement home repl c s
      if !verified then
        if tries + 1 < 3 then (.retry, s)
        else (.failed, (recordIntent (relocEntry 3 home repl gen) false s).getD s)
      else
        let s := setDisc { s.disc with pending := s.disc.pending.insert home repl } s
        match (recordDefects side layer false s).bind (recordIntent (relocEntry 2 home repl gen) false) with
        | none => (.stuck 4, setDisc { s.disc with pending := s.disc.pending.erase home } s)
        | some t => (.done repl, t)

/-- A replacement that is impossible: FAULT_CODE 2 for want of a DCZ slot, else 1 (R346). -/
def replImpossible (home reason : Nat) (s : State) : State :=
  s |> fault ENC.page (if reason = 4 then 0x02 else 0x01) |> raise ENC.page ENC.iREPL_FAIL
    |> emit 0x4104 (srcChan (psaSide home)) (psaSide home) home reason

/-- A replacement made (R357). -/
def replMade (home repl : Nat) (s : State) : State :=
  s |> cnt ENC.page ENC.REPL_CNT ENC.kCNT_SAT |> emit 0x4103 (srcChan (psaSide home)) (psaSide home) home repl

/-- The content of a queued relocation, from its payloads as they lay on the disc (R311). -/
def relocContent (r : Reloc) (s : State) : Encoded :=
  let l := psaLayer r.home
  let lba := if isUser l (psaSlot r.home) then some (psaLba r.home) else none
  ⟨r.home, r.home, 3, 0, 0xFFFFFFFF, 0, false, lba, r.sectors.mapIdx (fun i d => decipher (r.src + i) d s), []⟩

/-- RELOCATION (R311, R351): the oldest of the side's queue. Without the disc's key it waits (R515). -/
def execRelocation (side : Fin 2) (verified : Bool) (s : State) : Res :=
  match s.disc.relocs.find? (fun r => psaSide r.home == side.val) with
  | none => .next s
  | some r =>
    if !keyReady s || !inService side s then .next s
    else
      let drop := fun (t : State) => setDisc { t.disc with relocs := t.disc.relocs.erase r } t
      .next (match replace r.home r.tries (relocContent r s) verified s with
        | (.done repl, t) => t |> drop |> replMade r.home repl
        | (.retry, t) => setDisc { t.disc with relocs := t.disc.relocs.map (fun x => if x = r then { r with tries := r.tries + 1 } else x) } t
        | (.stuck n, t) => t |> drop |> replImpossible r.home n |> (if r.verify then endCluster r.home (faultEnd 0x4104 n) else id)
        | (.failed, t) => t |> drop |> (if r.verify then endCluster r.home (faultEnd 0x410D 3) else id))

/-- An abandoned cluster's commands complete WRITE_FAULT, and its sectors leave staging (R346). -/
def abandonedFault (e : Emission) (cause reason : Nat) (s : State) : State :=
  { s with encoded := s.encoded.filter (fun c => c.psa != e.psa) } |> endCluster e.home (faultEnd cause reason)

/-- ABANDONED_RE_RECORDING (R346): the head's oldest abandoned user cluster. -/
def execAbandonedReRecording (head : Head) (verified : Bool) (s : State) : Res :=
  let h := head.n
  match (s.rec' h).abandoned.find? (fun e => !e.dcz) with
  | none => .next s
  | some e =>
    let drop := fun (t : State) => setRec h { t.rec' h with abandoned := (t.rec' h).abandoned.erase e } t
    let reason := if sealState (psaSide e.home) s ≠ 0 then 2 else if (nextSpare e.home s).isNone then 3
      else if !dczLeft (psaSide e.home) s then 4 else 0
    match s.encoded.find? (fun c => c.psa == e.psa) with
    | none => .next (s |> drop |> abandonedFault e 0x4102 0)
    | some c =>
      if reason ≠ 0 then .next (s |> drop |> replImpossible e.home reason |> abandonedFault e 0x4104 reason)
      else if !keyReady s then .next s
      else .next (match replace e.home e.tries c verified s with
        | (.done repl, t) => { t with encoded := t.encoded.filter (fun x => x.psa != e.psa) } |> drop |> replMade e.home repl
            |> highWater e.home |> endCluster e.home { kind := .written, verified := true }
        | (.retry, t) => setRec h { t.rec' h with abandoned := (t.rec' h).abandoned.map (fun x => if x = e then { e with tries := e.tries + 1 } else x) } t
        | (.stuck n, t) => t |> drop |> replImpossible e.home n |> abandonedFault e 0x4104 n
        | (.failed, t) => t |> drop |> abandonedFault e 0x4102 0)

/-! ## DCZ blocks cut off (R646) -/

/-- DCZ_BLOCK_RE_RECORDING: the head's oldest abandoned block, with the same content in the next blank slot; with none
left, its relocation ends with the previous Defect List and event 0x4104 carries reason 4. -/
def execDczBlockReRecording (head : Head) (s : State) : Res :=
  let h := head.n
  match (s.rec' h).abandoned.find? (fun e => e.dcz) with
  | none => .next s
  | some e =>
    let s := setRec h { s.rec' h with abandoned := (s.rec' h).abandoned.erase e } s
    match s.disc.blocks.find? (fun b => b.psa == e.psa) with
    | none => .next s
    | some b =>
      let others := s.disc.blocks.filter (fun x => x.psa != e.psa)
      match dczLayer b.side (if b.type = 4 then 0 else b.layer) (decide (sealState b.side s = 1)) s with
      | some l =>
        let psa := dczPsa b.side l s
        let w := wseq s
        let c := { b with psa := psa }
        .next (s |> setDisc { s.disc with blocks := others ++ [c], written := s.disc.written.insert psa w,
                                          dczUsed := s.disc.dczUsed.insert (8 * b.side + l) (s.disc.dczUsed.get (8 * b.side + l) 0 + 1) }
          |> send (.recorded psa (dczFrames c w s.disc.id)) |> setWseq (w + 1) |> cnt ENC.page ENC.DCZ_BLOCKS ENC.kCNT_SAT |> showFree b.side)
      | none =>
        let s := setDisc { s.disc with blocks := others } s
        let last := (s.disc.intents.filter (fun i => i.op == 2 && i.side == b.side)).getLast?
        .next (match last with
          | some i => if b.type = 3 || (b.type = 4 && i.seq = b.seq) then
              s |> setDisc { s.disc with pending := s.disc.pending.erase i.a } |> emit 0x4104 (srcChan h) h i.a 4
            else s
          | none => s)

/-! ## Frontier checkpoints (R348) -/

/-- The sides a checkpoint is recorded on: unsealed, with a head in service. -/
def ckptSides (s : State) : List Nat := [ 0, 1 ].filter (fun d => sealState d s != 2 && inService d s)

/-- CKPT_STEP; 0 acts as 1. -/
def ckptStep (s : State) : Nat := nz (fget ENC.page ENC.CKPT_STEP s)

/-- A value rounded up to a multiple. -/
def roundUp (n m : Nat) : Nat := (n + m - 1) / m * m

/-- Entries of one operation on the sides named, in turn. -/
def recordOn (mk : Nat → Intent) (forSeal : Bool) : List Nat → State → Option State
  | [], s => some s
  | d :: ds, s => (recordIntent (mk d) forSeal s).bind (recordOn mk forSeal ds)

/-- A frontier checkpoint for a cluster, or none where no unreserved DCZ slot remains on a side (R69, R348). -/
def checkpoint (sides : List Nat) (cluster : Nat) (s : State) : Option State :=
  let k := fget ENC.page ENC.FRONTIER s
  let fr := roundUp (max k (cluster + 1)) (ckptStep s)
  let lim := wseq s + sides.length + 2 * ckptStep s
  (recordOn (fun d => ⟨3, 2, d, 0xFF, 0, 0, fr, lim⟩) false sides s).map (fun t =>
    (sides.foldl (fun u d => emit 0x4109 (srcChan d) d fr lim u) t)
      |> fset ENC.page ENC.CKPT_FRONTIER fr |> fset64 ENC.page ENC.WSEQ_LIM_LO ENC.WSEQ_LIM_HI lim
      |> raise ENC.page ENC.iCKPT |> cnt ENC.page ENC.CKPT_CNT ENC.kCNT_SAT)

/-- FRONTIER_CHECKPOINT (R348): where no checkpoint can be recorded, the cluster's commands complete WRITE_FAULT (R69). -/
def execFrontierCheckpoint (cluster : Nat) (s : State) : Res :=
  let sides := ckptSides s
  if !needsCheckpoint (some (32 * cluster)) s || sides = [] then .next s
  else match checkpoint sides cluster s with
    | some t => .next t
    | none => .next (endCluster (lbaToPsa (32 * cluster)) (faultEnd 0 0x02) s)

/-! ## Verification (R301, R356) -/

/-- The payloads of a verify read as they lie on the disc, from the cluster's end. -/
def readPayloads (psa : Nat) (s : State) : List (List Nat) :=
  let e := s.ends.get (homeOf psa s) { kind := .good }
  (List.range 32).map (fun i => encipher (psa + i) (e.sectors.get i (List.replicate 2048 0)) s)

/-- A failed verification: relocated, or WRITE_FAULT (R356). -/
def verifyFailed (psa : Nat) (readable : Bool) (s : State) : State :=
  let s := s |> raise ENC.page ENC.iVFY_FAIL |> cnt ENC.page ENC.VFY_FAIL_CNT ENC.kCNT_SAT
  let ev := fun (n : Nat) (t : State) => emit 0x410D (srcChan (psaSide psa)) (psaSide psa) psa n t
  if readable then
    match queueReloc psa (readPayloads psa s) true s with
    | (t, true) => t |> endCluster psa { kind := .written, verified := true } |> ev 1
    | (t, false) => t |> endCluster psa (faultEnd 0x410D 3) |> ev 3
  else s |> endCluster psa (faultEnd 0x410D 2) |> ev 2

/-- VERIFY_PASS (R356). -/
def execVerifyPass (v : VerifyIn) (s : State) : Res :=
  let psa := psaCluster v.psa
  let ok := v.outcome.val = 0 && decide (v.cwFail ≤ fget DEC.page DEC.VFY_CFG_VFY_CW_FAIL s) && decide (v.rs ≤ fget DEC.page DEC.VFY_CFG_VFY_RS s)
  .next (if ok then endCluster psa { kind := .written, verified := true } s
    else verifyFailed psa (v.outcome.val = 0 || (v.outcome.val = 1 && v.recovered)) s)

end Sys2Proof.Machine
end

