-- ==== Sys2Proof/Machine/Media.lean ====
section
/-!
DEFINITION. What the MMC-based ports share: pending events, and the end of a command with its sense data (R463 to R469).
-/
namespace Sys2Proof.Machine

/-- The ports' record set. -/
def setPorts (v : PortSt) (s : State) : State := { s with port := v }

/-- A queue of 8: when it is full, a new event replaces the newest (R469). -/
def queueEvent {α : Type} (q : List α) (e : α) : List α := if q.length < 8 then q ++ [e] else q.dropLast ++ [e]

/-- A media event: queued, and notified on the SATA port while notification is enabled (R463, R469). -/
def mediaEvent (code : Nat) (s : State) : State :=
  let s := setPorts { s.port with media := queueEvent s.port.media code } s
  if fon SATA.page SATA.CTRL_AN_EN s && s.port.ataNotify then s |> send .notify |> raise SATA.page SATA.iAN_SENT else s

/-- A power management event with its power status (R469). -/
def powerEvent (code status : Nat) (s : State) : State := setPorts { s.port with power := queueEvent s.port.power (code, status) } s

/-- The end of an MMC command on a port: 0 UAS, 1 BOT, 2 SATA. Its sense data stand until the next command's end. -/
def portEnd (port id status : Nat) (x : Sense) (s : State) : State :=
  s |> setPorts { s.port with sense := x } |> send (.portStatus port id status x.key x.asc x.ascq x.info)
    |> (if port = 2 then fset SATA.page SATA.STATUS_CMD_ACTIVE 0 else fun t => t)

end Sys2Proof.Machine
end

