-- ==== Sys2Proof/Machine/Opc.lean ====
section
/-!
DEFINITION. Optimum power calibration (R338 to R341, R361).
-/
namespace Sys2Proof.Machine

/-- NEXT_RUN of a side-layer. -/
def nextRunFld (h layer : Nat) : Fld :=
  let i := 8 * h + layer
  (if i % 2 = 0 then CAL.NEXT_RUN_EVEN else CAL.NEXT_RUN_ODD).ix (i / 2)

/-- STATE_x of the CAL page. -/
def opcState (h v : Nat) (s : State) : State := fset CAL.page (if h = 0 then CAL.STATUS_STATE_L else CAL.STATUS_STATE_U) v s

/-- β of the beam that BETA_SEL picks (R361). -/
def showBetas (s : State) : State :=
  let bs := s.betas.getD (fget CAL.page CAL.BETA_SEL s) []
  (List.range 16).foldl (fun t i => fsetI CAL.page (CAL.BETA_STEP.ix i) (bs.getD i 0) t) s

/-- β of a step: the mean over its blocks, the first and last excepted (R340 step 4). -/
def betaOf (bs : List (Rat × Rat)) : Rat :=
  let xs := (bs.drop 1).dropLast
  if xs = [] then 0 else (xs.map (fun x => (x.1 - x.2) / (x.1 + x.2))).foldl (· + ·) 0 / xs.length

/-- β in Q1.15. -/
def betaQ (b : Rat) : Int := clampI (-32768) 32767 (b * 32768 + 1 / 2).floor

/-- The first step whose β reaches the target, past step 0, and the power at which β crosses it (R340 step 5). -/
def crossing (tgt pstart pstep : Rat) (bs : List Rat) : Option (Nat × Rat) :=
  ((List.range 16).find? (fun i => decide (tgt ≤ bs.getD i 0))).map (fun i =>
    let a := bs.getD (i - 1) 0
    let b := bs.getD i 0
    (i, pstart + (i - 1) * pstep + pstep * ((tgt - a) / (b - a))))

/-- A rational rounded half up. -/
def roundNat (x : Rat) : Nat := (x + 1 / 2).floor.toNat

/-- Clusters waiting for a layer that cannot be calibrated end WRITE_FAULT (R341). -/
def failLayer (h layer : Nat) (s : State) : State :=
  let mine := fun (c : Encoded) => psaSide c.psa == h && psaLayer c.psa == layer
  (s.encoded.filter mine).foldl (fun t c => endCluster c.psa { kind := .writeFault, mask := 0, cause := 0x4106, detail := 0 } t)
    { s with encoded := s.encoded.filter (fun c => !mine c) }

/-- A failed run (R341). -/
def opcFail (h layer cause : Nat) (s : State) : State :=
  let s := s |> opcState h 3 |> raise CAL.page (if h = 0 then CAL.iOPC_FAIL_L else CAL.iOPC_FAIL_U) |> fault CAL.page cause
    |> cnt CAL.page CAL.OPC_FAIL_CNT CAL.kCNT_SAT |> emit 0x4106 (srcChan h) h layer cause
  if cause ≠ 3 then s
  else if (s.opcs.get (8 * h + layer) {}).installed then fset CAL.page (opcFld h) (setBit (fget CAL.page (opcFld h) s) layer) s
  else failLayer h layer s

/-- An OPC result installed (R336, R340, R338). -/
def opcInstall (h layer : Nat) (pws : List Nat) (s : State) : State :=
  let p := LPW.page h
  let s := (List.range 8).foldl (fun t b =>
    t |> fset p ((if b % 2 = 0 then LPW.PW_EVEN else LPW.PW_ODD).ix (4 * layer + b / 2)) (pws.getD b 0)
      |> fset p (LPW.RPC_CORR.ix b) 0x4000) s
  { s with opcs := s.opcs.insert (8 * h + layer) ⟨(s.link h).feTemp, true⟩ }
    |> fset CAL.page (opcFld h) (setBit (fget CAL.page (opcFld h) s) layer)

/-- The bits of PRBS31, x^31 + x^28 + 1, from the register given. -/
def prbs31 : Nat → Nat → List Bool
  | 0, _ => []
  | n + 1, r =>
    let b := bit r 30 != bit r 27
    b :: prbs31 n ((2 * r + b2n b) % 2 ^ 31)

/-- The channel bits of a power step: 16/17 words of PRBS31, seeded with all ones, filling its slots (R340 step 2). -/
def stepBits (slots : Nat) : List Bool :=
  let n := (1680 * slots + 16) / 17
  let v := prbs31 (16 * n) (2 ^ 31 - 1)
  (((List.range n).map (fun w => bitsMsb 17 (codeWord (ofBits ((v.drop (16 * w)).take 16))))).flatten).take (1680 * slots)

/-- The symbols of a run on a beam: its 16 steps in turn. -/
def runSymbols (h layer g : Nat) (s : State) : List Nat :=
  (List.range 16).flatMap (fun _ => (symbolsOf (strategyOf h (4 * layer) s) (stepBits (framesOf g / 64))).map Prod.fst)

/-- A run recorded in the next place of the slice (R339, R340). -/
def opcRecord (h layer : Nat) (s : State) : State :=
  let n := fget CAL.page (nextRunFld h layer) s
  let g := pczGroup (pczSlice s.disc.variant layer) n
  let s := (List.range 8).foldl (fun t b => let ss := runSymbols h layer g t
    t |> send (.symbols h b ss) |> cnt64 (HTX.page h) HTX.WR_SYM_CNT_LO HTX.WR_SYM_CNT_HI HTX.kCNT_SAT ss.length) s
  let s := fset CAL.page (nextRunFld h layer) (n + 1) s
  if 256 < n + 17 then s |> raise CAL.page CAL.iPCZ_LOW |> emit 0x4107 (srcChan h) h layer (255 - n) else s

/-- OPC_RUN (R340, R341). -/
def execOpcRun (r : OpcIn) (s : State) : Res :=
  let h := r.head.n
  let layer := r.layer % 8
  let n := fget CAL.page (nextRunFld h layer) s
  if getMcState h s ≠ 3 || getLoop (4 * h) s ≠ 2 || getLoop (4 * h + 1) s ≠ 2 then .next (opcFail h layer 1 s)
  else if 256 ≤ n then .next (opcFail h layer 3 s)
  else if recording h s then .next (opcFail h layer 5 s)
  else
    let s := opcRecord h layer s
    let bs := (List.range 8).map (fun b => (List.range 16).map (fun i => betaOf ((r.blocks.getD b []).getD i [])))
    let s := showBetas { s with betas := bs.map (fun x => x.map betaQ) }
    let tgt : Rat := (fgetI CAL.page (CAL.BETA_TGT.ix layer) s : Rat) / 32768
    if r.lostTrack then .next (opcFail h layer 1 s)
    else if r.disturbed then .next (opcFail h layer 5 s)
    else if 3 ≤ r.badRevs then .next (opcFail h layer 4 s)
    else if bs.any (fun b => decide (tgt ≤ b.getD 0 0) || decide (b.getD 15 0 < tgt)) then .next (opcFail h layer 2 s)
    else
      let zs := fget (LPW.page h) (LPW.ZSCALE.ix (4 * layer)) s
      let z : Rat := if zs = 0 then Config.freeNat s.free else (zs : Rat) / 16384
      let s := if zs = 0 then { s with free := s.free + 1 } else s
      let xs := bs.map (fun b => (crossing tgt (fget CAL.page CAL.OPC_CFG_P_START s) (fget CAL.page CAL.OPC_CFG_P_STEP s) b).getD (0, 0))
      let pws := xs.map (fun x => roundNat (x.2 / z))
      let s := (List.range 8).foldl (fun t b =>
        t |> fset CAL.page (CAL.RES.ix b) (pws.getD b 0) |> fset CAL.page (CAL.RES_STEP.ix b) (xs.getD b (0, 0)).1) s
      let s := if r.install then opcInstall h layer pws s else s
      .next (s |> opcState h 2 |> raise CAL.page (if h = 0 then CAL.iOPC_DONE_L else CAL.iOPC_DONE_U)
        |> cnt CAL.page CAL.OPC_CNT CAL.kCNT_SAT
        |> emit 0x4105 (srcChan h) h layer (roundNat ((xs.map (fun x => x.2 / z)).foldl (· + ·) 0 / 8)))

/-- OPC_INVALIDATE (R338): a recording in progress on the layer is suspended at the end of its clusters. -/
def execOpcInvalidate (head : Head) (layer : Fin 8) (why : OpcEnd) (s : State) : Res :=
  let h := head.n
  let d := ((s.link h).feTemp - (s.opcs.get (8 * h + layer) {}).temp).natAbs
  if why = .temperature && decide (d ≤ 8 * fget CAL.page CAL.OPC_TRIG_OPC_DT s) then .next s
  else
    let t := fset CAL.page (opcFld h) (clrBit (fget CAL.page (opcFld h) s) layer) s
    .next (if recording h t && fget (LPW.page h) LPW.STATUS_LAYER t = layer then requestSuspend h 6 t else t)

end Sys2Proof.Machine
end

