-- ==== Sys2Proof/Machine/Staging.lean ====
section
/-!
DEFINITION. The staging SRAM: its check bits, scrubber, buffers and test access (R376 to R383, R431).
-/
namespace Sys2Proof.Machine

/-! ## Check bits (R377, R378) -/

/-- The sum of chosen bits. -/
def xorBits (v : Nat) (bs : List Nat) : Bool := bs.foldl (fun a b => a != bit v b) false

/-- The check field of a data byte: c0 to c3 in bits 0 to 3, p in bit 4. -/
def checkOf (d : Nat) : Nat :=
  let c0 := xorBits d [ 0, 1, 3, 4, 6 ]
  let c1 := xorBits d [ 0, 2, 3, 5, 6 ]
  let c2 := xorBits d [ 1, 2, 3, 7 ]
  let c3 := xorBits d [ 4, 5, 6, 7 ]
  let p := xorBits d [ 0, 1, 2, 3, 4, 5, 6, 7 ] != (c0 != (c1 != (c2 != c3)))
  b2n c0 + 2 * b2n c1 + 4 * b2n c2 + 8 * b2n c3 + 16 * b2n p

/-- What a read decides of a byte. -/
inductive SbEnd
  | good
  /-- Corrected, to the byte given, with the syndrome. -/
  | corrected (d synd : Nat)
  | bad
  deriving DecidableEq, Repr

/-- The Hamming positions of d0 to d7. -/
def hamPos : List Nat := [ 3, 5, 6, 7, 9, 10, 11, 12 ]

/-- R378's decision on a byte and its stored check field. -/
def sbDecide (d c : Nat) : SbEnd :=
  let y := (checkOf d ^^^ c) % 16
  let q := xorBits d [ 0, 1, 2, 3, 4, 5, 6, 7 ] != xorBits c [ 0, 1, 2, 3, 4 ]
  if !q then (if y = 0 then .good else .bad)
  else if y = 0 || y = 1 || y = 2 || y = 4 || y = 8 then .corrected d y
  else if hamPos.contains y then .corrected (d ^^^ 2 ^ hamPos.idxOf y) y
  else .bad

/-! ## The array -/

/-- A byte of the array and its stored check field. -/
def sbGet (a : Nat) (s : State) : Nat × Nat := let d := s.mem.sdata.get a 0; (d, checkOf d ^^^ s.mem.serr.get a 0)

/-- A byte of the array and its check field stored. -/
def sbPut (a d c : Nat) (s : State) : State :=
  setMem { s.mem with sdata := s.mem.sdata.put a (d % 256) 0, serr := s.mem.serr.put a (checkOf (d % 256) ^^^ (c % 32)) 0 } s

/-- Bits of a byte flipped since it was written: data in bits 0 to 7, check field in bits 8 to 12. -/
def sbFlip (a f : Nat) (s : State) : State := let (d, c) := sbGet a s; sbPut a (d ^^^ f % 256) (c ^^^ f / 256) s

/-- A correction (R379): at most one event a second. -/
def sbCorr (a synd : Nat) (s : State) : State :=
  let xs := (s.mem.sbCorrs.filter (fun t => decide (s.time < t + oneSecond))) ++ [s.time]
  let due : Bool := match s.mem.sbEv with | some t => decide (t + oneSecond ≤ s.time) | none => true
  let s := s |> cnt SBF.page SBF.CORR_CNT SBF.kCNT_SAT |> raise SBF.page SBF.iCORR
    |> setMem { s.mem with sbCorrs := xs, sbEv := if due then some s.time else s.mem.sbEv }
  if due then emit 0x7010 srcMem a synd xs.length s else s

/-- A byte read: corrected and written back, or reported (R378 to R380). `who`: 0 a requester, 1 the scrubber. -/
def sbRead (who : Nat) (a : Nat) (s : State) : State :=
  let (d, c) := sbGet a s
  match sbDecide d c with
  | .good => s
  | .corrected v y => s |> sbPut a v (checkOf v) |> sbCorr a y
  | .bad => s |> cnt SBF.page SBF.UNCORR_CNT SBF.kCNT_SAT |> fset SBF.page SBF.LAST_ERR_ADDR a |> raise SBF.page SBF.iUNCORR
      |> fault SBF.page 0x01 |> emit 0x7011 srcMem a (a / 65536) who

/-- A byte that a read delivers with an error. -/
def sbBad (a : Nat) (s : State) : Bool := let (d, c) := sbGet a s; sbDecide d c == .bad

/-- SCRUB (R381, R382): the next word, in ascending order. -/
def execScrub (errs : List (Fin 32 × BitVec 13)) (s : State) : Res :=
  let p := SBF.page
  if !fon p SBF.CTRL_SCRUB_EN s then .next s
  else
    let w := fget p SBF.SCRUB_POS s
    let s := errs.foldl (fun t e => sbFlip (32 * w + e.1) e.2.toNat t) s
    let s := (List.range 32).foldl (fun t i => sbRead 1 (32 * w + i) t) s
    let n := (w + 1) % 1048576
    .next (s |> fset p SBF.SCRUB_POS n |> (if n = 0 then cnt p SBF.SCRUB_PASSES SBF.kCNT_SAT else id))

/-! ## Buffers (R376, R431) -/

/-- Buffers in use by a head. -/
def bufsOf (h : Nat) (s : State) : Nat := (s.mem.bufs.filter (fun kv => kv.2.2.1 == h)).length

/-- Buffers that only a head may reserve. -/
def bufFloor (s : State) : Nat := clampN 8 128 (fget ZRG.page ZRG.BUF_FLOOR s)

/-- Whether a head may reserve a buffer now: outside the part that the other head's floor keeps. -/
def mayReserve (h : Nat) (s : State) : Bool :=
  !fon SBF.page SBF.STATUS_TEST_ACT s && decide (s.mem.bufs.length + (bufFloor s - bufsOf (1 - h) s) < 512)

/-- Free buffers shown. -/
def showBufs (s : State) : State :=
  let n := 512 - s.mem.bufs.length
  s |> fset SBF.page SBF.STATUS_BUFS_FREE n |> fmin SBF.page SBF.BUFS_MIN n

/-- The lowest free buffer reserved for a cluster; what it held is gone. -/
def reserveBuf (psa h : Nat) (write : Bool) (s : State) : State :=
  let n := ((List.range 512).find? (fun i => (s.mem.bufs.find i).isNone)).getD 0
  let keep := fun (m : Store Nat) => Store.dropKeys (fun a => decide (a / 65536 = n)) m
  s |> setMem { s.mem with bufs := s.mem.bufs.insert n (psa, h, write), sdata := keep s.mem.sdata, serr := keep s.mem.serr,
                           lastHead := h } |> showBufs

/-- STAGING_RESERVE (R376): with none to be had the reservation waits. -/
def execStagingReserve (psa : BitVec 32) (write : Bool) (s : State) : Res :=
  let p := psaCluster psa.toNat
  let h := psaSide p
  if mayReserve h s && s.mem.bufWaits.all (fun w => w.2.1 != h) then .next (reserveBuf p h write s)
  else .next (setMem { s.mem with bufWaits := s.mem.bufWaits ++ [(p, h, write)] } s)

/-- The waiting reservation to grant next: the heads alternate when both wait (R431). -/
def nextWait (s : State) : Option (Nat × Nat × Bool) :=
  let ok := s.mem.bufWaits.filter (fun w => mayReserve w.2.1 s)
  match ok.find? (fun w => w.2.1 != s.mem.lastHead) with
  | some w => some w
  | none => ok.head?

/-- Waiting reservations granted, at most `n`. -/
def grantBufs : Nat → State → State
  | 0, s => s
  | n + 1, s =>
    match nextWait s with
    | none => s
    | some w => grantBufs n (s |> setMem { s.mem with bufWaits := s.mem.bufWaits.erase w } |> reserveBuf w.1 w.2.1 w.2.2)

/-- The buffer that holds a cluster. -/
def bufOf (psa : Nat) (s : State) : Option (Nat × Bool) := (s.mem.bufs.find? (fun kv => kv.2.1 == psa)).map (fun kv => (kv.1, kv.2.2.2))

/-- A buffer freed, and those waiting served. -/
def freeBuf (n : Nat) (s : State) : State :=
  let s := setMem { s.mem with bufs := s.mem.bufs.erase n } s |> showBufs
  grantBufs s.mem.bufWaits.length s

/-- A read cluster whose staged data are lost is Failed and enters SQUALL (R299, R380). -/
def stagedReadLost (psa : Nat) (s : State) : State :=
  let x : HeldCl := {}
  let j := judge x psa s
  let s := { s with ends := s.ends.erase (homeOf psa s) } |> cnt DEC.page DEC.CL_FAIL_CNT DEC.kCNT_SAT |> raise DEC.page DEC.iCL_FAIL
    |> emit 0x4000 srcDecode psa j.cwMask (0xFFFFFFFF - j.pass)
  if fon DEC.page DEC.CTRL_SQ_EN s then squallEnter psa x j s else unrecovered psa 5 j x s

/-- A write cluster whose staged data are lost: its commands complete WRITE_FAULT and it is not recorded (R380). -/
def stagedWriteLost (psa : Nat) (s : State) : State :=
  { s with encoded := s.encoded.filter (fun c => c.psa != psa) } |> endCluster psa { kind := .writeFault, mask := 0, cause := 0x7011, detail := 0x01 }

/-- STAGING_RELEASE (R376, R380). -/
def execStagingRelease (psa : BitVec 32) (errs : List (Nat × BitVec 13)) (s : State) : Res :=
  let p := psaCluster psa.toNat
  match bufOf p s with
  | none => .next s
  | some (n, write) =>
    let s := errs.foldl (fun t e => sbFlip (65536 * n + e.1 % 65536) e.2.toNat t) s
    let ks := s.mem.serr.keys.filter (fun a => decide (a / 65536 = n))
    let lost := ks.any (fun a => sbBad a s)
    let s := ks.foldl (fun t a => sbRead 0 a t) s
    let s := freeBuf n s
    .next (if lost then (if write then stagedWriteLost p s else stagedReadLost p s)
      else if write then s
      else match s.ends.find (homeOf p s) with
        | some e => if e.kind = .good then deliver (homeOf p s) e s else s
        | none => s)

/-! ## Test access (R383) -/

/-- SBF_TEST_EN: discarded while a buffer is in use. -/
def execSbfTestEn (en : Bool) (s : State) : Res :=
  let p := SBF.page
  if en && s.mem.bufs ≠ [] then .next (sticky p SBF.kTEST_REJ s)
  else
    let s := s |> fsetB p SBF.CTRL_TEST_EN en |> fsetB p SBF.STATUS_TEST_ACT en
    .next (if en then s else grantBufs s.mem.bufWaits.length s)

/-- Byte `k` of the test word, 0 to 3. -/
def testByte (k : Nat) (s : State) : Nat := 4 * fget SBF.page SBF.TEST_ADDR s + k
/-- Byte `k` of TEST_DATA. -/
def testData (k : Nat) (s : State) : Nat := fget SBF.page SBF.TEST_DATA s / 2 ^ (8 * k) % 256
/-- Check field `k` of TEST_CHECK. -/
def testCheck (k : Nat) (s : State) : Nat := fget SBF.page SBF.TEST_CHECK s / 2 ^ (5 * k) % 32

/-- A test operation on the four bytes, ignored while TEST_EN is 0. -/
def testOp (op : Nat) (f : Nat → State → State) (s : State) : State :=
  if fon SBF.page SBF.CTRL_TEST_EN s then
    (List.range 4).foldl (fun t k => f k t) (fset SBF.page SBF.TEST_CTRL_OP op s) |> raise SBF.page SBF.iTEST_DONE
  else s

/-- TEST_WRITE_DATA. -/
def execTestWriteData (s : State) : Res :=
  .next (testOp 1 (fun k t => sbPut (testByte k t) (testData k t) (sbGet (testByte k t) t).2 t) s)

/-- TEST_WRITE_CHECK. -/
def execTestWriteCheck (s : State) : Res :=
  .next (testOp 2 (fun k t => sbPut (testByte k t) (sbGet (testByte k t) t).1 (testCheck k t) t) s)

/-- TEST_WRITE_BOTH. -/
def execTestWriteBoth (s : State) : Res :=
  .next (testOp 3 (fun k t => sbPut (testByte k t) (testData k t) (testCheck k t) t) s)

/-- TEST_RAW_READ: no correction, no write-back, no count. -/
def execTestRawRead (s : State) : Res :=
  .next (testOp 4 (fun k t =>
    let (d, c) := sbGet (testByte k t) t
    let td := fget SBF.page SBF.TEST_DATA t
    let tc := fget SBF.page SBF.TEST_CHECK t
    t |> fset SBF.page SBF.TEST_DATA (td - testData k t * 2 ^ (8 * k) + d * 2 ^ (8 * k))
      |> fset SBF.page SBF.TEST_CHECK (tc - testCheck k t * 2 ^ (5 * k) + c * 2 ^ (5 * k))) s)

end Sys2Proof.Machine
end

