-- ==== Sys2Proof/Machine/Completion.lean ====
section
/-!
DEFINITION. Completion of commands: status, entries, rings, the error log, freezing and tagged records (R420 to R427,
R437, R441 to R443, R447, R590).
-/
namespace Sys2Proof.Machine

/-- SEQ of a command (R417). -/
def Cmd.seq (c : Cmd) : Nat := c.n % 2 ^ 32

/-! ## Status (R426, R514) -/

/-- The status codes in order of precedence, GOOD left out. -/
def precedence : List Nat := [ 0x70, 0x60, 0x50, 0x40, 0x41, 0x51, 0x11, 0x12, 0x10, 0x20, 0x21, 0x01 ]

/-- The code of highest precedence. -/
def worstOf (codes : List Nat) : Nat := (precedence.find? codes.contains).getD 0

/-- What a command that needs a withheld disc key completes with (R514). -/
def keyCode (s : State) : Nat :=
  if fget FMT.page FMT.ENC_WITHHELD s = 2 && fget VLQ.page VLQ.OWNER_STATE_STATE s = 1 then 0x41 else 0x40

/-- A cluster's outcome as a status code. -/
def endCode (s : State) (e : ClusterEnd) : Nat :=
  match e.kind with
  | .good | .blank | .written => 0x00
  | .recovered => 0x01
  | .unrecovered => 0x10
  | .writeFault => 0x11
  | .keyRequired => keyCode s

/-- A command's status over its clusters and its own outcomes. -/
def cmdStatus (c : Cmd) (s : State) : Nat := worstOf (c.outcomes ++ c.ends.map (fun kv => endCode s kv.2))

/-! ## The entry's fields (R425, R427) -/

/-- Sectors of a cluster with valid data, or recorded. -/
def doneOf (c : Cmd) (kv : Nat × ClusterEnd) : Nat :=
  match kv.2.kind with
  | .good | .recovered => ((c.part kv.1).filter (bit kv.2.written)).length
  | .written => (c.part kv.1).length
  | _ => 0

/-- The lowest LBA of a cluster that failed. -/
def failOf (c : Cmd) (kv : Nat × ClusterEnd) : Option Nat :=
  match kv.2.kind with
  | .unrecovered => (((c.part kv.1).filter (fun i => !bit kv.2.mask i)).head? <|> (c.part kv.1).head?).map (32 * kv.1 + ·)
  | .writeFault | .keyRequired => ((c.part kv.1).head?).map (32 * kv.1 + ·)
  | _ => none

/-- The lowest LBA of a cluster that a read fills with zeros as Blank or unwritten. -/
def zeroOf (c : Cmd) (kv : Nat × ClusterEnd) : Option Nat :=
  match kv.2.kind with
  | .blank => ((c.part kv.1).head?).map (32 * kv.1 + ·)
  | .good | .recovered => (((c.part kv.1).filter (fun i => !bit kv.2.written i)).head?).map (32 * kv.1 + ·)
  | _ => none

/-- FIRST_LBA. -/
def firstLba (c : Cmd) : Nat :=
  match c.ends.findSome? (failOf c) with
  | some a => a
  | none => (c.ends.findSome? (zeroOf c)).getD 0xFFFFFFFF

/-- DONE. -/
def cmdDone (c : Cmd) : Nat := if c.clustered && !c.inflates then (c.ends.map (doneOf c)).foldl (· + ·) 0 else c.done

/-- AUX. -/
def cmdAux (c : Cmd) : Nat :=
  if c.reads && c.aux = 0 then (c.ends.filter (fun kv => kv.2.kind == .recovered)).length else c.aux

/-- The CRC-64 of R315. -/
def crc64 (bs : List Nat) : Nat := crcLsb 0x9A6C9329AC4BC9B5 (2 ^ 64 - 1) bs ^^^ (2 ^ 64 - 1)

/-- The bytes a command transferred in LBA order, when every sector of its range was transferred. -/
def crossed (c : Cmd) : Option (List Nat) :=
  if c.op = 1 && !c.inflates then
    if c.outcomes = [] && c.ends.length = clustersIn c.first c.sectors then
      (c.ends.mapM (fun kv => readBytes c kv.1 kv.2)).map List.flatten
    else none
  else if c.op = 2 then
    let bs := (c.raw.map Prod.snd).flatten
    if bs.length = c.len then some bs else none
  else none

/-- The highest rung any cluster reached. -/
def cmdRung (c : Cmd) : Nat := c.ends.foldl (fun a kv => max a kv.2.rung) 0

/-- Byte 3 of the entry. -/
def entryFlags (c : Cmd) (phase : Bool) : Nat :=
  b2n phase + 2 * b2n c.errIx.isSome + 4 * b2n (c.op == 1 && (c.ends.findSome? (zeroOf c)).isSome) +
    8 * b2n (c.op == 1 && bit c.flags 4 && c.ends.any (fun kv => kv.2.kind == .unrecovered)) + 16 * b2n c.trunc +
    32 * b2n (crossed c).isSome + 64 * b2n c.headOos

/-- A completion entry (R425). -/
def entryBytes (t : Nat) (c : Cmd) (phase : Bool) : List Nat :=
  leBytes 2 t ++ [ c.status.getD 0, entryFlags c phase ] ++ leBytes 4 (cmdDone c) ++ leBytes 4 (firstLba c) ++ leBytes 4 (cmdAux c) ++
    leBytes 8 (match crossed c with | some bs => crc64 bs | none => 0) ++ leBytes 4 c.seq ++ [ c.errIx.getD 0, cmdRung c, 0, 0 ]

/-! ## The error log and freezing (R441, R443) -/

/-- The bit of FREEZE_CFG for a status. -/
def freezeBit (st : Nat) : Option Nat := ([ 0x10, 0x11, 0x12, 0x40, 0x41, 0x50, 0x51, 0x60, 0x70 ].idxOf? st)

/-- A status that writes an error log entry. -/
def logged (st : Nat) : Bool := decide (0x10 ≤ st) && st != 0x20 && st != 0x21

/-- The first failing cluster of a command. -/
def failing (c : Cmd) : Option (Nat × ClusterEnd) := c.ends.find? (fun kv => (failOf c kv).isSome)

/-- An error log entry (R443, R453). -/
def logError (t st : Nat) (froze : Bool) (c : Cmd) (s : State) : State :=
  let p := ERL.page
  let i := fget p ERL.NEXT s
  let n := fget p ERL.WRITTEN_CNT s + 1
  let f := failing c
  let e := match f with | some kv => kv.2 | none => { kind := .good, mask := 0, detail := c.detail }
  let psa := match f with | some kv => placeOf (homeAt kv.1 s) s | none => 0
  let set := fun (g : Fld) (v : Nat) (u : State) => fset p (g.ix i) v u
  let s := s |> cnt p ERL.WRITTEN_CNT ERL.kCNT_SAT
    |> (if s.cl.unread < 32 then setCl { s.cl with unread := s.cl.unread + 1 } else cnt p ERL.OVERWRITTEN ERL.kCNT_SAT)
  s |> set ERL.ENTRY_SEQ n |> set ERL.ENTRY_SEQ2 n |> set ERL.TAG t |> set ERL.OPCODE c.op |> set ERL.STATUS st
    |> set ERL.SEQ c.seq |> set ERL.LBA c.lba |> set ERL.COUNT c.count |> set ERL.FIRST_LBA (firstLba c)
    |> set ERL.SECTOR_MASK e.mask |> set ERL.PSA psa |> set ERL.CAUSE e.cause |> set ERL.RUNG e.rung |> set ERL.READS e.reads
    |> set ERL.DETAIL e.detail |> set ERL.TIME_LO (s.time % 2 ^ 32) |> set ERL.TIME_HI (s.time / 2 ^ 32)
    |> set ERL.OP_TIME (fget DEV.page DEV.OP_TIME s) |> set ERL.FROZE (b2n froze) |> set ERL.HEAD_OOS (b2n c.headOos)
    |> set ERL.PARTIAL (b2n (bit c.flags 4)) |> set ERL.REQ c.req
    |> fset p ERL.NEXT ((i + 1) % 32) |> raise p ERL.iLOGGED

/-- A requester frozen (R441). -/
def freezeReq (t st : Nat) (c : Cmd) (s : State) : State :=
  s |> setCl { s.cl with frozen := s.cl.frozen.insert c.req c.n }
    |> fset TRF.page TRF.FROZEN_REQ (setBit (fget TRF.page TRF.FROZEN_REQ s) c.req)
    |> raise TRF.page TRF.iFROZEN |> emit 0x5001 srcHost c.req t st

/-- A command's transfer value shown on the CRC page (R315, R319). -/
def xferValue (t v : Nat) (s : State) : State :=
  let p := CRC.page
  s |> cnt p CRC.XFER_CNT CRC.kCNT_SAT |> fset p CRC.LAST_XFER_TAG t |> fset64 p CRC.LAST_XFER_LO CRC.LAST_XFER_HI v

/-- A command's outcome becomes final (R426, R441, R443). -/
def finalise (t : Nat) (c : Cmd) (s : State) : State :=
  let st := cmdStatus c s
  let hit := match freezeBit st with | some b => bit (fget TRF.page TRF.FREEZE_CFG_MASK s) b | none => false
  let fr := hit && (s.cl.frozen.find c.req).isNone
  let ix := if logged st then some (fget ERL.page ERL.NEXT s) else none
  let s := if logged st then logError t st fr c s else s
  let s := setCmd t { c with status := some st, errIx := ix } s
  let s := match (if c.job.isSome then none else crossed c) with
    | some bs => xferValue t (crc64 bs) s
    | none => s
  if fr then freezeReq t st c s else s

/-! ## Rings (R422 to R424) -/

/-- A ring as latched. -/
def State.ring (s : State) (q : Nat) : CplRing := s.cl.rings.get q {}
/-- A ring's record set. -/
def setRing (q : Nat) (v : CplRing) (s : State) : State := setCl { s.cl with rings := s.cl.rings.put q v {} } s
/-- Entries of a ring. -/
def ringSize (q : Nat) (s : State) : Nat := 2 ^ (s.ring q).exp
/-- A ring is full. -/
def ringFull (q : Nat) (s : State) : Bool :=
  (fget CPL.page (CPL.TAIL.ix q) s + 1) % ringSize q s == fget CPL.page (CPL.HEAD.ix q) s % ringSize q s
/-- A ring is enabled. -/
def ringOn (q : Nat) (s : State) : Bool := fon CPL.page (CPL.CFG_EN.ix q) s

/-- A ring's message sent: what was written is signalled. -/
def signalRing (q : Nat) (s : State) : State :=
  s |> setRing q { s.ring q with unsig := 0, since := none } |> sendVector (fget CPL.page (CPL.CFG_VECTOR.ix q) s)

/-- Coalescing after an entry (R423). -/
def coalesce (q : Nat) (s : State) : State :=
  let r := s.ring q
  if nz (fget CPL.page (CPL.CFG_COAL_CNT.ix q) s) ≤ r.unsig + 1 then signalRing q s
  else setRing q { r with unsig := r.unsig + 1, since := some (r.since.getD s.time) } s

/-- An entry written at TAIL; a write that fails is treated as written (R422). -/
def writeEntry (q : Nat) (bs : List Nat) (fails : Bool) (s : State) : State :=
  let p := CPL.page
  let r := s.ring q
  let tail := fget p (CPL.TAIL.ix q) s
  let a := r.base + 32 * tail
  let w := if fails then none else if r.loc then bufWrite a bs s else some s
  let s := match w with
    | some u => u |> send (.entry q tail a r.loc bs) |> (if r.loc then id else toHost 32)
    | none => s |> fault p 0x01 |> raise p (8 + q)
  let nxt := (tail + 1) % ringSize q s
  s |> fset p (CPL.TAIL.ix q) nxt |> (if nxt = 0 then fsetB p (CPL.PHASE.ix q) (!fon p (CPL.PHASE.ix q) s) else id)
    |> cnt p (CPL.POSTED_CNT.ix q) CPL.kCNT_SAT |> raise p q |> pmc 0x03 q 1 |> coalesce q

/-- A full episode begins (R422). -/
def fullEpisode (q t : Nat) (c : Cmd) (s : State) : State :=
  let p := CPL.page
  if (s.ring q).full then s
  else s |> setRing q { s.ring q with full := true } |> fset p CPL.STATUS_FULL (setBit (fget p CPL.STATUS_FULL s) q)
    |> raise p (4 + q) |> cnt p (CPL.FULL_CNT.ix q) CPL.kCNT_SAT |> emit 0x5004 srcHost c.req q t

/-! ## After an entry (R420, R421, R437, R442, R590) -/

/-- A time since a command's acceptance, in 25 MHz cycles, saturating; 0 for a stage never reached. -/
def stageTime (c : Cmd) : Option Nat → Nat
  | some x => min (x - c.time) (2 ^ 32 - 1)
  | none => 0

/-- A tagged command's record written (R590). -/
def writeRecord (t : Nat) (c : Cmd) (s : State) : State :=
  match c.slot with
  | none => s
  | some j =>
    let b := leBytes 4 (t + 2 ^ 16 * c.op + 2 ^ 24 * c.status.getD 0) ++ leBytes 4 c.seq ++ leBytes 4 c.made ++
      leBytes 4 (stageTime c c.tRing) ++ leBytes 4 (stageTime c c.tFirst) ++ leBytes 4 (stageTime c c.tLast) ++
      leBytes 4 (stageTime c (some s.time)) ++ leBytes 4 (cmdRung c + 2 ^ 8 * c.req + 2 ^ 16 * min 255 c.held)
    s |> setCl { s.cl with recs := s.cl.recs.insert j b } |> fset PMC.page PMC.REC_COUNT (fget PMC.page PMC.REC_COUNT s + 1)
      |> raise PMC.page PMC.iREC_READY |> pmc 0x16 256 1

/-- A requester's freeze ends (R442). -/
def unfreeze (req action count : Nat) (s : State) : State :=
  s |> setCl { s.cl with frozen := s.cl.frozen.erase req, restarts := s.cl.restarts.erase req }
    |> fset TRF.page TRF.FROZEN_REQ (clrBit (fget TRF.page TRF.FROZEN_REQ s) req)
    |> raise TRF.page TRF.iRESTARTED |> emit 0x5002 srcHost req action count

/-- Restarts that waited for a tag's completion (R442). -/
def restartStep (t : Nat) (s : State) : State :=
  s.cl.restarts.foldl (fun u kv =>
    let left := kv.2.tags.filter (· != t)
    if left = kv.2.tags then u
    else if left = [] then unfreeze kv.1 kv.2.action kv.2.count u
    else setCl { u.cl with restarts := u.cl.restarts.insert kv.1 { kv.2 with tags := left } } u) s

/-- Open and resident streams shown (R454). -/
def showStreams (s : State) : State :=
  s |> fset STM.page STM.OPEN_CNT s.cl.strms.length
    |> fset STM.page STM.RESIDENT_CNT ((s.cl.strms.filter (fun kv => kv.2.slot.isSome)).length)

/-- Tags in use shown; the count has fallen from `n` (R421). -/
def tagsFell (n : Nat) (s : State) : State :=
  let m := s.cl.order.length
  let low := fget TRF.page TRF.TAGS_LOW s
  let s := fset TRF.page TRF.STATUS_OUTSTANDING m s
  if decide (low < n) && decide (m ≤ low) then raise TRF.page TRF.iTAGS_LOW s else s

/-- SYNCHRONIZE CACHE commands whose earlier writes have all completed end GOOD (R465). -/
def endSyncs (s : State) : State :=
  let waits := fun (n : Nat) => s.cl.cmds.any (fun kv => kv.2.op == 2 && decide (kv.2.n ≤ n))
  let s := setPorts { s.port with syncs := s.port.syncs.filter (fun x => waits x.2.2) }
    ((s.port.syncs.filter (fun x => !waits x.2.2)).foldl (fun t x => portEnd x.1 x.2.1 0x00 {} t) s)
  s

/-- A command's entry has been written: its tag is free. -/
def completed (t : Nat) (c : Cmd) (s : State) : State :=
  let n := s.cl.order.length
  let s := setCl { s.cl with cmds := s.cl.cmds.erase t, order := s.cl.order.erase t, ctxWait := s.cl.ctxWait.erase t } s
  let s := if c.op = 6 then { s with cl := { s.cl with strms := s.cl.strms.erase c.stream } } |> showStreams else s
  s |> writeRecord t c |> tagsFell n |> restartStep t |> endSyncs

/-! ## MMC-based ports (R464, R468) -/

/-- Sense key, ASC and ASCQ of a native status that ends CHECK CONDITION (R468). -/
def senseOf (st : Nat) : Nat × Nat × Nat :=
  if st = 0x01 then (0x1, 0x18, 0x00) else if st = 0x10 then (0x3, 0x11, 0x00) else if st = 0x11 then (0x3, 0x0C, 0x00)
  else if st = 0x51 then (0x3, 0x80, 0x03) else if st = 0x12 then (0x5, 0x21, 0x02) else if st = 0x50 then (0x2, 0x3A, 0x00)
  else if st = 0x40 then (0x7, 0x80, 0x01) else if st = 0x41 then (0x7, 0x80, 0x02) else if st = 0x20 then (0xB, 0x00, 0x00)
  else if st = 0x70 then (0x4, 0x44, 0x00) else (0, 0, 0)

/-- PER of mode page 0x01 (R468). -/
def perBit (s : State) : Bool := bit ((s.port.pages.get 0x01 []).getD 0 0) 2

/-- A translated command's end reported on its port. -/
def jobDone (j : PortJob) (c : Cmd) (s : State) : State :=
  let st := c.status.getD 0
  let lba := firstLba c
  let info := if lba = 0xFFFFFFFF then none else some lba
  if st = 0x00 || st = 0x21 || (st = 0x01 && !perBit s) then portEnd j.port j.id 0x00 {} s
  else
    let (k, a, q) := senseOf st
    portEnd j.port j.id 0x02 { key := k, asc := a, ascq := q, info := info } s

/-- A ring's entries may be written: it lies in buffer memory, or the PCIe function may write host memory (R458). -/
def mayPost (q : Nat) (s : State) : Bool := (s.ring q).loc || mayDma s

/-- A final command's entry posted, or waiting for its ring; entries of one ring keep their order (R422, R424). -/
def post (t : Nat) (fails : Bool) (s : State) : State :=
  match s.cl.cmds.find t with
  | none => s
  | some { job := some j, .. } =>
    (match s.cl.cmds.find t with | some c => s |> jobDone j c |> completed t c | none => s)
  | some c =>
    let waits := s.cl.posts.any (fun x => match s.cl.cmds.find x with | some d => d.cq == c.cq | none => false)
    if !ringOn c.cq s || ringFull c.cq s || waits || !mayPost c.cq s then
      let s := setCl { s.cl with posts := s.cl.posts ++ [t] } (setCmd t { c with phase := 3 } s)
      if ringOn c.cq s && ringFull c.cq s then fullEpisode c.cq t c s else s
    else s |> writeEntry c.cq (entryBytes t c (fon CPL.page (CPL.PHASE.ix c.cq) s)) fails |> completed t c

/-- The first waiting completion of a ring. -/
def nextPost (q : Nat) (s : State) : Option (Nat × Cmd) :=
  s.cl.posts.findSome? (fun t => match s.cl.cmds.find t with | some c => if c.cq = q then some (t, c) else none | none => none)

/-- Waiting completions of a ring posted while it has room. -/
def postWaiting (q : Nat) : Nat → List Bool → State → State
  | 0, _, s => s
  | n + 1, fails, s =>
    match nextPost q s with
    | none => s
    | some (t, c) =>
      if !ringOn q s || !mayPost q s then s
      else if ringFull q s then fullEpisode q t c s
      else
        let s := setCl { s.cl with posts := s.cl.posts.erase t } s
        postWaiting q n (fails.drop 1) (s |> writeEntry q (entryBytes t c (fon CPL.page (CPL.PHASE.ix q) s)) (fails.headD false) |> completed t c)

/-- A ring has room again: the full episode ends. -/
def ringRoom (q : Nat) (s : State) : State :=
  if ringFull q s then s
  else s |> setRing q { s.ring q with full := false } |> fset CPL.page CPL.STATUS_FULL (clrBit (fget CPL.page CPL.STATUS_FULL s) q)

/-- RING_HEAD_WRITE (R422). -/
def execRingHeadWrite (ring : Fin 4) (head : BitVec 16) (fails : List Bool) (s : State) : Res :=
  .next (s |> fset CPL.page (CPL.HEAD.ix ring) head.toNat |> ringRoom ring |> postWaiting ring 4096 fails)

/-- RING_ENABLE (R424): EN going from 0 to 1 resets the ring, latches its configuration and posts what waits. -/
def execRingEnable (ring : Fin 4) (cfg : BitVec 32) (fails : List Bool) (s : State) : Res :=
  let p := CPL.page
  let q := ring.val
  let v := cfg.toNat
  let up := bit v 0 && !ringOn q s
  let s := s |> fset p (CPL.CFG_EN.ix q) (slice v 0 0) |> fset p (CPL.CFG_LOCAL.ix q) (slice v 1 1)
    |> fset p (CPL.CFG_SIZE_EXP.ix q) (slice v 12 8) |> fset p (CPL.CFG_VECTOR.ix q) (slice v 20 16)
    |> fset p (CPL.CFG_COAL_CNT.ix q) (slice v 31 24)
  .next (if up then
    s |> setRing q { base := fget64 p (CPL.BASE_LO.ix q) (CPL.BASE_HI.ix q) s / 32 * 32, loc := fon p (CPL.CFG_LOCAL.ix q) s,
                     exp := clampN 4 16 (fget p (CPL.CFG_SIZE_EXP.ix q) s) }
      |> fset p (CPL.TAIL.ix q) 0 |> fset p (CPL.HEAD.ix q) 0 |> fset p (CPL.PHASE.ix q) 1 |> ringRoom q
      |> postWaiting q 4096 fails
  else s)

/-- COALESCING_TIMER (R423). -/
def execCoalescingTimer (ring : Fin 4) (s : State) : Res :=
  .next (if (s.ring ring).since.isSome && fget CPL.page (CPL.COAL_US.ix ring) s ≠ 0 then signalRing ring s else s)

/-! ## Inflating reads (R409, R437) -/

/-- Records inflated in turn, with ALIGN; a boundary where no record begins ends the input (R407, R409). -/
def inflateRecords : Nat → Bool → List Nat → List Nat × Option Nat
  | 0, _, _ => ([], none)
  | n + 1, first, left =>
    if left = [] && !first then ([], none)
    else if !first && left.getD 0 0 = 0 && left.getD 1 0 = 0 then ([], none)
    else match checkRecord { align := true } left with
      | .error c => ([], some c)
      | .ok (x, k) => let (o, e) := inflateRecords n false (left.drop k); (x.bytes ++ o, e)

/-- An inflating read's sectors inflated into its destination, as far as they were read. -/
def inflateRead (t : Nat) (c : Cmd) (s : State) : State :=
  let data := ((c.ends.map (fun kv => readBytes c kv.1 kv.2)).takeWhile Option.isSome).filterMap id |>.flatten
  let (out, err) := inflateRecords (c.sectors + 1) true data
  let n := min out.length c.arg0
  let c := { c with done := n, trunc := decide (c.arg0 < out.length), outcomes := c.outcomes ++ (if err.isSome then [0x60] else []) }
  match (pieces c 0 (out.take n)).bind (fun ps => writePieces c.req ps s) with
  | some u => setCmd t c u
  | none => setCmd t { c with outcomes := c.outcomes ++ [0x70] } s

/-! ## Offload jobs (R447) -/

/-- A lane that can take an offload: enabled, neither running nor stopped, and not another command's. -/
def idleLane (s : State) : Option Nat :=
  (List.range 4).find? (fun l => fon (CMP.page l) CMP.CTRL_EN s && laneState l s != 1 && laneState l s != 2 &&
    s.cl.cmds.all (fun kv => match kv.2.offload with | some o => o.lane != some l | none => true))

/-- An offload's job started: the source in buffer memory, the output 16 MiB beyond it. -/
def startOffload (t l : Nat) (c : Cmd) (o : Offload) (s : State) : State :=
  let p := CMP.page l
  match bufWrite o.work o.data s with
  | none => setCmd t { c with ended := true, outcomes := c.outcomes ++ [0x70] } s
  | some s =>
    let dst := o.work + 2 ^ 24
    s |> setCmd t { c with phase := 1, offload := some { o with lane := some l } }
      |> fset p CMP.JOB_CFG_LEVEL (slice c.arg0 4 1) |> fset p CMP.JOB_CFG_ALIGN (slice c.arg0 5 5) |> fset p CMP.JOB_CFG_VERIFY (slice c.arg0 6 6)
      |> fset p CMP.JOB_CFG_RECORD_EXP (slice c.arg0 11 8) |> fset p CMP.JOB_CFG_BLOCK_EXP (slice c.arg0 14 12)
      |> fset p CMP.SRC_ADDR_LO (o.work % 2 ^ 32) |> fset p CMP.SRC_ADDR_HI (o.work / 2 ^ 32) |> fset p CMP.SRC_LEN o.srcLen
      |> fset p CMP.DST_ADDR_LO (dst % 2 ^ 32) |> fset p CMP.DST_ADDR_HI (dst / 2 ^ 32) |> fset p CMP.DST_LEN o.dstLen
      |> fset p CMP.CHAIN_LEN 0 |> fset p CMP.JOB_TAG t |> startJob l (bit c.arg0 0)

/-- Waiting offloads take lanes, in acceptance order. -/
def startOffloads (s : State) : State :=
  s.cl.order.foldl (fun u t =>
    match u.cl.cmds.find t with
    | some c =>
      match c.offload, idleLane u with
      | some o, some l => if o.lane.isNone && !c.ended && inOrder t c u then startOffload t l c o u else u
      | _, _ => u
    | none => u) s

/-- An offload whose lane has stopped: its output is written to the destination and its outcome known. -/
def offloadEnd (t : Nat) (c : Cmd) (o : Offload) (l : Nat) (s : State) : State :=
  let p := CMP.page l
  let n := fget p CMP.OUT_PRODUCED s
  let st := laneState l s
  let code := fget p hdrFault s
  let own := if st = 4 then (if bit c.arg0 0 && decide (code ≤ 6) then [0x60] else [0x70]) else if st = 5 then [0x20] else []
  let c := { c with ended := true, done := n, aux := fget p CMP.IN_CONSUMED s, trunc := st == 2, outcomes := c.outcomes ++ own,
                    offload := none }
  let c := if st = 4 then { c with detail := code } else c
  match (bufRead (o.work + 2 ^ 24) n s).bind (fun bs => writePieces c.req [(o.dst, bs)] s) with
  | some u => setCmd t c u
  | none => setCmd t { c with outcomes := c.outcomes ++ [0x70] } s

/-! ## What each opcode waits for -/

/-- A command's target still outstanding (R440). -/
def targetLeft (c : Cmd) (s : State) : Bool :=
  match s.cl.cmds.find (c.arg0 % 4096) with
  | some d => d.seq == c.arg1 && d.n != c.n
  | none => false

/-- A command has nothing more to do but complete. -/
def finished (t : Nat) (c : Cmd) (s : State) : Bool :=
  if c.status.isSome then true
  else if s.cl.ctxWait.contains t then false
  else if c.op = 9 then c.ended && !(c.outcomes == [] && targetLeft c s)
  else if c.clustered then (c.ended && s.cl.reqs.all (fun r => r.tag != t)) || clustersDone t c s
  else if c.op = 4 then c.ended || (decide (c.sides ≠ []) && c.sides.all (fun kv => kv.2.1 == 2))
  else if c.op = 6 then c.ended || ((before t s).all (fun e => !(e.op == 2 && e.stream == c.stream)) && inOrder t c s)
  else c.ended

/-- What an outstanding command can do towards its end now. -/
def progress (t : Nat) (s : State) : State :=
  let s := startOffloads s
  match s.cl.cmds.find t with
  | none => s
  | some c =>
    match c.offload with
    | some o => match o.lane with
      | some l => if 2 ≤ laneState l s && (c.req ≠ 0 || mayDma s) then offloadEnd t c o l s else s
      | none => s
    | none => if c.inflates && c.status.isNone && clustersDone t c s && c.phase ≠ 2 && (c.req ≠ 0 || mayDma s) then inflateRead t c s else s

end Sys2Proof.Machine
end

