-- ==== Sys2Proof/Machine/Vault.lean ====
section
/-!
DEFINITION. The vault: its keys and state, its request page and operations, the disc key, and signed images
(R488 to R526).
-/
namespace Sys2Proof.Machine

/-- The vault's record set. -/
def setVault (v : VaultSt) (s : State) : State := { s with vault := v }
/-- What the vault keeps without power, set. -/
def setOtp (v : OtpSt) (s : State) : State := { s with otp := v }

/-- The ASCII bytes of a string. -/
def ascii (t : String) : List Nat := t.toList.map Char.toNat

/-! ## Keys (R493) -/

/-- The device serial number, as messages and tokens carry it. -/
def serialBytes (s : State) : List Nat := leBytes 8 (fget64 DEV.page DEV.SERIAL_LO DEV.SERIAL_HI s)

/-- Seed of the identity key pair. -/
def identitySeed : List Nat := sha3Short (Config.deviceSecret ++ ascii "ZHV-ID")
/-- Seeds d and z of the KEM key pair. -/
def kemSeeds : List Nat × List Nat :=
  let h := sha3 (Config.deviceSecret ++ ascii "ZHV-KEM")
  (h.take 32, h.drop 32)
/-- The KEM encapsulation key. -/
def kemKey : List Nat := Config.kemPublic kemSeeds.1 kemSeeds.2

/-- Bytes of fresh randomness of the vault's DRBG. -/
def randomBytes (n : Nat) (s : State) : List Nat := beBytes n (Config.freeNat s.free)

/-! ## State of ownership (R492, R494, R505) -/

/-- The current owner slot: the highest whose marker is complete (R505). -/
def ownerSlot (s : State) : Option Nat :=
  ((List.range s.otp.owners.length).reverse).find? (fun i => match s.otp.owners[i]? with | some o => o.marker | none => false)

/-- The hash of the current owner's key. -/
def ownerHash (s : State) : List Nat :=
  match ownerSlot s with
  | some i => match s.otp.owners[i]? with | some o => o.hash | none => []
  | none => []

/-- OWNER_STATE: 0 unclaimed, 1 owned, 2 store lost. -/
def ownerState (s : State) : Nat := fget VLQ.page VLQ.OWNER_STATE_STATE s

/-- Policy in force. -/
def policyFlag (b : Nat) (s : State) : Bool := bit s.vault.policy.flags b

/-- The closed policy of STORE_LOST (R494). -/
def closedPolicy : Policy := { newDisc := 2, flags := 0x6 }
/-- The default policy of a new owner (R504). -/
def defaultPolicy : Policy := { flags := 0x1 }

/-- The vault's state shown on its page. -/
def showVault (state : Nat) (s : State) : State :=
  let p := VLQ.page
  let v := s.vault.policy
  let h := ownerHash s
  let s := s |> fset p VLQ.OWNER_STATE_STATE state |> fset p VLQ.OWNER_STATE_SLOT ((ownerSlot s).getD 0)
    |> fset p VLQ.OWNER_STATE_SLOTS_USED s.otp.owners.length |> fset p VLQ.OWNER_STATE_POLICY_VER v.version
    |> fset p VLQ.POLICY_FLOOR s.otp.floor |> fset p VLQ.ROLLBACK s.otp.rollback
    |> fset p VLQ.POLICY_NEW_DISC v.newDisc |> fset p VLQ.POLICY_FLAGS v.flags |> fset p VLQ.POLICY_WRAP_KEYS s.vault.wraps.length
    |> fsetB p VLQ.STATUS_STORE_LOST (state = 2)
  (List.range 16).foldl (fun t i => fset p (VLQ.OWNER_HASH.ix i) (ofLe ((h.drop (4 * i)).take 4)) t) s

/-- The store copy in use: of highest generation (R494). -/
def copyInUse (s : State) : Option (Nat × StoreCopy) :=
  match s.otp.copies.find 0, s.otp.copies.find 1 with
  | some a, some b => some (if a.gen < b.gen then (1, b) else (0, a))
  | some a, none => some (0, a)
  | none, some b => some (1, b)
  | none, none => none

/-- A new store copy written over the copy not in use (R494). -/
def writeStore (s : State) : State :=
  let (k, g) := match copyInUse s with | some (i, c) => (1 - i, c.gen + 1) | none => (0, 1)
  let v := s.vault
  setOtp { s.otp with copies := s.otp.copies.insert k ⟨g, v.owner, v.policy, v.token, v.wraps⟩ } s

/-- Why a store copy is not valid: 1 tag, 2 owner hash, 3 version below the floor; 0 where it is. -/
def copyCause (tagOk : Bool) (c : StoreCopy) (s : State) : Nat :=
  if !tagOk then 1 else if sha3 c.owner ≠ ownerHash s then 2 else if c.policy.version < s.otp.floor then 3 else 0

/-- The start of the vault (R493, R494, R522); `tags` says whether the tag of each store copy verifies. -/
def vaultStart (tags : List Bool) (s : State) : State :=
  let cs := s.otp.copies.map (fun kv => (kv.1, kv.2, copyCause (tags.getD kv.1 false) kv.2 s))
  let best := (cs.filter (fun c => c.2.2 = 0 || c.2.2 = 3)).foldl (fun (a : Option (Nat × StoreCopy × Nat)) c =>
    match a with | some b => if b.2.1.gen < c.2.1.gen then some c else a | none => some c) none
  let v := s.vault
  let owned := (ownerSlot s).isSome
  let (state, v) :=
    if !owned then (0, { v with policy := {}, wraps := [], owner := [], token := [] })
    else match best with
      | some (_, c, 0) => (1, { v with policy := c.policy, wraps := c.wraps, owner := c.owner, token := c.token })
      | some (_, c, _) => (2, { v with policy := closedPolicy, wraps := [], owner := c.owner, token := [] })
      | none =>
        let own := ((cs.find? (fun c => sha3 c.2.1.owner = ownerHash s)).map (fun c => c.2.1.owner)).getD []
        (2, { v with policy := closedPolicy, wraps := [], token := [], owner := own })
  let s := s |> setVault v |> showVault state
  let s := if owned then cs.foldl (fun t c => if c.2.2 = 0 then t else emit 0x6010 srcVault 0xFF c.1 c.2.2 t) s else s
  s |> (if v.token = [] then id else measure 0x05 0 (sha3 v.token)) |> emit 0x6000 srcVault 0xFF state v.policy.version

/-! ## The disc key (R512 to R516) -/

/-- The disc belongs to another owner, or the device has none (R514). -/
def foreign (d : Descr) (s : State) : Bool := ownerState s = 0 || d.owner ≠ ownerHash s

/-- A wrap key held and allowed. -/
def wrapKey (i : List Nat) (s : State) : Option (List Nat) :=
  if s.vault.policy.allowed.contains i then (s.vault.wraps.find? (fun w => w.1 = i)).map Prod.snd else none

/-- The low half of the Disc ID. -/
def discIdLo (s : State) : Nat := fget FMT.page FMT.DISC_ID_LO s

/-- The key withheld, with a cause of R514. -/
def withhold (cause : Nat) (s : State) : State :=
  s |> fset FMT.page FMT.ENC_WITHHELD cause |> (fun t => emit 0x6009 srcVault 0xFF (discIdLo t) cause t)

/-- The key loaded into the XTS unit: 0 automatic, 1 by an unlock token. -/
def loadKey (key : List Nat) (how req : Nat) (s : State) : State :=
  s |> setVault { s.vault with discKey := key } |> fset XTS.page XTS.STATUS_KEY_LOADED 1 |> fset FMT.page FMT.ENC_KEY_LOADED 1
    |> fset VLQ.page VLQ.STATUS_KEY_LOADED 1 |> fset FMT.page FMT.ENC_WITHHELD 0 |> cnt XTS.page XTS.KEY_LOADS XTS.kCNT_SAT
    |> (fun t => emit 0x6007 srcVault req (discIdLo t) how t)

/-- The enforcement latch set (R515). -/
def enforce (on : Bool) (s : State) : State :=
  s |> fsetB XTS.page XTS.STATUS_ENFORCED on |> fsetB XTS.page XTS.STATUS_ENC_DISC on |> fsetB XTS.page XTS.STATUS_PASS (!on)

/-- The cause for which the key of an encrypted disc is withheld under the policy in force, but for the unlock token
(R514); none where it may be loaded. A locked-out vault withholds it (R526). -/
def keyCause (d : Descr) (s : State) : Option Nat × List Nat :=
  if foreign d s && !policyFlag 3 s then (some 2, [])
  else match wrapKey d.wrapId s with
    | none => (some 1, [])
    | some k => match kwUnwrap k d.wrapped with
      | none => (some 4, [])
      | some key => (none, key)

/-- The decision of R514 over the governing descriptor. Without one the latch is left as the mount set it (R575). -/
def keyDecision (s : State) : State :=
  match s.vault.descr with
  | none => s
  | some d =>
    if d.state = 0 then enforce false s
    else
      let s := enforce true s
      if fon VLQ.page VLQ.STATUS_LOCKED_OUT s then withhold 3 s
      else match keyCause d s with
        | (some c, _) => withhold c s
        | (none, key) => if policyFlag 0 s && bit d.flags 0 then loadKey key 0 0xFF s else withhold 3 s

/-- The descriptor shown (R618): 0 none, 1 plaintext, 2 encrypted, and its wrap key identifier. -/
def showDescr (s : State) : State :=
  let (n, i) := match s.vault.descr with | some d => (d.state + 1, d.wrapId) | none => (0, [])
  (List.range 4).foldl (fun t k => fset FMT.page (FMT.WRAP_ID.ix k) (ofLe ((i.drop (4 * k)).take 4)) t)
    (fset FMT.page FMT.ENC_DESC n s)

/-! ## Signed images (R517 to R521) -/

/-- The verdict on a manifest and its public key, components apart: 0, or the number of the first test of R519 failed. -/
def manifestCause (m pk : List Nat) (counter lost : Bool) (owner : List Nat) (rollback : Nat) : Nat :=
  let n := ofLe ((m.drop 28).take 2)
  let svn := ofLe ((m.drop 12).take 4)
  let d := sha3 (m.take (128 + 80 * n))
  let signed := fun (off : Nat) => (m.drop (128 + 80 * n + off)).take 4627
  let flags := ofLe ((m.drop 6).take 2)
  if ofLe (m.take 4) ≠ 0x4D57465A || ofLe ((m.drop 4).take 2) ≠ 1 || ofLe ((m.drop 8).take 4) ≠ 0x881600B0 || n = 0 || 32 < n ||
      1 < flags || ((m.drop 30).take 98).any (· ≠ 0) then 1
  else if svn < rollback || 128 < svn then 2
  else if sha3 pk ≠ Config.vendorRoot then 3
  else if !Config.dsaVerify pk d (ascii "ZHV-FW") (signed 0) then 4
  else if (counter || lost) && !(bit flags 0 && owner ≠ [] && Config.dsaVerify owner d (ascii "ZHV-FW-OWNER") (signed 4627)) then 5
  else 0

/-- The verdict under the policy in force. -/
def verdict (m pk : List Nat) (s : State) : Nat :=
  manifestCause m pk (policyFlag 1 s) (ownerState s = 2) s.vault.owner s.otp.rollback

/-! ## Requests and tokens (R497, R499, R503) -/

/-- OP, body and tag of a request. -/
def reqOp (r : List Nat) : Nat := ofLe (r.take 2)
/-- LEN of a request. -/
def reqLen (r : List Nat) : Nat := ofLe ((r.drop 4).take 4)
/-- The body of a request. -/
def reqBody (r : List Nat) : List Nat := (r.drop 16).take (reqLen r)

/-- The body of a token. -/
def tokenBody (t : List Nat) : List Nat := (t.drop 52).take (ofLe ((t.drop 48).take 4))
/-- The digest a token's signature covers. -/
def tokenDigest (t : List Nat) : List Nat := sha3 (t.take (52 + ofLe ((t.drop 48).take 4)))
/-- The nonce a token carries. -/
def tokenNonce (t : List Nat) : List Nat := (t.drop 16).take 32

/-- A token's form: magic, operation, serial number, and lengths. -/
def tokenForm (op : Nat) (len : Nat → Bool) (t : List Nat) (s : State) : Bool :=
  let b := ofLe ((t.drop 48).take 4)
  ofLe (t.take 4) = 0x4B544F5A && ofLe ((t.drop 4).take 2) = op && (t.drop 8).take 8 = serialBytes s && len b && t.length = 52 + b + 4627

/-- A token's nonce, for a request of its requester: the one held, or 0 in a serial-bound token. -/
def nonceOk (bound : Bool) (req : Nat) (t : List Nat) (s : State) : Bool :=
  if bound then s.vault.nonces.find req = some (tokenNonce t) else (tokenNonce t).all (· = 0)

/-- A token's signature under a key. -/
def tokenSigned (key t : List Nat) : Bool :=
  key ≠ [] && Config.dsaVerify key (tokenDigest t) (ascii "ZHV-OWNER") ((t.drop (52 + ofLe ((t.drop 48).take 4))).take 4627)

/-- Why an owner's token is refused, or 0 (R499): form, ownership, nonce, signature, in this order. -/
def tokenCause (op : Nat) (len : Nat → Bool) (bound : Bool) (key : List Nat) (req : Nat) (t : List Nat) (s : State) : Nat :=
  if !tokenForm op len t s then 0x01
  else if ownerState s = 0 then 0x04
  else if !nonceOk bound req t s then 0x03
  else if !tokenSigned key t then 0x02 else 0x00

/-- What an operation answers: RESULT, the response body, and the state after. -/
abbrev VaultRes := Nat × List Nat × State

/-- Refused: nothing changes (R499). -/
def refuse (code : Nat) (s : State) : VaultRes := (code, [], s)

/-! ## Operations without a token -/

/-- A register of the page as GET_INFO returns it. -/
def vlqWord (off : Nat) (s : State) : Nat :=
  let p := VLQ.page
  if off = 0x060 then fget p VLQ.OWNER_STATE_STATE s + 4 * fget p VLQ.OWNER_STATE_SLOT s + 16 * fget p VLQ.OWNER_STATE_SLOTS_USED s +
    2 ^ 16 * fget p VLQ.OWNER_STATE_POLICY_VER s
  else if off = 0x064 then fget p VLQ.POLICY_FLOOR s
  else if off = 0x068 then fget p VLQ.ROLLBACK s + 256 * fget p VLQ.RUN_SVN s
  else if off = 0x06C then fget p VLQ.POLICY_NEW_DISC s + 16 * fget p VLQ.POLICY_FLAGS s + 2 ^ 16 * fget p VLQ.POLICY_WRAP_KEYS s
  else if off = 0x070 then fget p VLQ.REQ_CNT s
  else if off = 0x074 then fget p VLQ.REFUSE_CNT s
  else if off = 0x078 then fget p VLQ.VAULT_SEQ s
  else if 0x080 ≤ off then fget p (VLQ.OWNER_HASH.ix ((off - 0x080) / 4)) s else 0

/-- GET_INFO (R498). -/
def opGetInfo (_ : Nat) (b : List Nat) (s : State) : VaultRes :=
  if b ≠ [] then refuse 0x01 s else (0, (List.range 24).flatMap (fun i => leBytes 4 (vlqWord (0x060 + 4 * i) s)), s)

/-- The entropy source failed a health test: RESULT FAULT (R499, R527). -/
def entropyFault (req test : Nat) (s : State) : VaultRes :=
  (0x0D, [], s |> fault VLQ.page 0x02 |> emit 0x6011 srcVault req test 0)
/-- A store write failed: RESULT FAULT. -/
def storeFault (s : State) : VaultRes := (0x0D, [], fault VLQ.page 0x01 s)

/-- GET_NONCE (R500). -/
def opGetNonce (entropy : Option Nat) (req : Nat) (b : List Nat) (s : State) : VaultRes :=
  if b ≠ [] then refuse 0x01 s
  else match entropy with
    | some t => entropyFault req t s
    | none =>
      let n := randomBytes 32 s
      (0, n, { s with free := s.free + 1, vault := { s.vault with nonces := s.vault.nonces.insert req n } })

/-- GET_IDENTITY (R498). -/
def opGetIdentity (_ : Nat) (b : List Nat) (s : State) : VaultRes :=
  if b ≠ [] then refuse 0x01 s
  else
    let sg := Config.dsaSign identitySeed (sha3 (serialBytes s ++ kemKey)) (ascii "ZHV-KEM") (Config.freeNat s.free)
    (0, serialBytes s ++ Config.dsaPublic identitySeed ++ kemKey ++ sg, { s with free := s.free + 1 })

/-- GET_CERT (R498). -/
def opGetCert (_ : Nat) (b : List Nat) (s : State) : VaultRes :=
  if b ≠ [] then refuse 0x01 s else (0, Config.certificate.take 8192, s)

/-- The quote before its signature (R523). -/
def quoteBytes (nonce : List Nat) (s : State) : List Nat :=
  let v := s.vault
  leBytes 4 0x4554515A ++ leBytes 2 1 ++ leBytes 2 v.log.length ++ serialBytes s ++ leBytes 4 (fget DEV.page DEV.POWER_CYCLES s) ++
    leBytes 4 (fget DEV.page DEV.OP_TIME s) ++ [ nonce.length ] ++ List.replicate 3 0 ++ (nonce ++ List.replicate 64 0).take 64 ++
    leBytes 4 (s.otp.rollback % 256 + 256 * fget VLQ.page VLQ.RUN_SVN s + 2 ^ 16 * (s.otp.floor % 512)) ++
    (ownerHash s ++ List.replicate 64 0).take 64 ++ leBytes 4 v.policy.version ++
    leBytes 4 (fget VLQ.page VLQ.STATUS_LOCKED_OUT s + 2 * b2n (ownerState s = 2) + 4 * b2n v.logFull) ++ List.replicate 24 0 ++
    v.log.flatMap (fun m => [ m.kind, m.index ] ++ leBytes 2 m.seq ++ m.hash)

/-- QUOTE (R523). -/
def opQuote (req : Nat) (b : List Nat) (s : State) : VaultRes :=
  if b.length < 16 || 64 < b.length then refuse 0x01 s
  else
    let q := quoteBytes b s
    (0, q ++ Config.dsaSign identitySeed (sha3 q) (ascii "ZHV-QUOTE") (Config.freeNat s.free),
      { s with free := s.free + 1 } |> emit 0x600D srcVault req s.vault.log.length b.length)

/-- PREPARE_DISC (R511): a blank DLA disc mounted. -/
def opPrepare (_ : Nat) (b : List Nat) (s : State) : VaultRes :=
  let st := b.getD 0 0
  if b.length ≠ 17 || 1 < st then refuse 0x01 s
  else if fget FMT.page FMT.STATUS_STATE s ≠ 2 || !fon FMT.page FMT.STATUS_BLANK s || fon FMT.page FMT.STATUS_LEGACY s then refuse 0x0B s
  else if st = 0 && s.vault.policy.newDisc = 2 then refuse 0x05 s
  else (0, [], setVault { s.vault with prepare := some (st, b.drop 1) } s)

/-- DISC_LOCK (R516 row 2). -/
def opDiscLock (_ : Nat) (b : List Nat) (s : State) : VaultRes :=
  if b ≠ [] then refuse 0x01 s
  else if !fon XTS.page XTS.STATUS_KEY_LOADED s then refuse 0x0B s
  else (0, [], s |> zeroiseKey 2 |> fset FMT.page FMT.ENC_WITHHELD 3)

/-- VERIFY_IMAGE (R521). -/
def opVerifyImage (_ : Nat) (b : List Nat) (s : State) : VaultRes :=
  let n := ofLe ((b.drop 28).take 2)
  if b.length < 128 || (n ≤ 32 && b.length ≠ 128 + 80 * n + 4627 && b.length ≠ 128 + 80 * n + 9254) then refuse 0x01 s
  else (0, leBytes 4 (verdict b s.vault.imageKey s), s)

/-! ## Operations with a token (R504 to R510, R520, R524) -/

/-- An owner's hash and marker programmed into the next unused slot; `cut` stops short of the marker (R505). -/
def programOwner (key : List Nat) (cut : Bool) (s : State) : State :=
  setOtp { s.otp with owners := s.otp.owners ++ [⟨sha3 key, !cut⟩] } s

/-- A new owner: its key and the default policy, with no wrap keys, stored. -/
def newOwner (key : List Nat) (s : State) : State :=
  s |> setVault { s.vault with owner := key, policy := defaultPolicy, token := [], wraps := [] } |> writeStore |> showVault 1

/-- CLAIM (R504). -/
def opClaim (storeFails : Bool) (req : Nat) (t : List Nat) (s : State) : VaultRes :=
  let key := tokenBody t
  if !tokenForm 0x10 (· = 2592) t s then refuse 0x01 s
  else if ownerState s ≠ 0 then refuse 0x04 s
  else if !nonceOk true req t s then refuse 0x03 s
  else if !tokenSigned key t then refuse 0x02 s
  else if 4 ≤ s.otp.owners.length then refuse 0x07 s
  else if storeFails then storeFault s
  else (0, [], s |> programOwner key false |> newOwner key |> (fun u => emit 0x6002 srcVault req ((ownerSlot u).getD 0) 0 u))

/-- TRANSFER (R505). -/
def opTransfer (storeFails : Bool) (req : Nat) (t : List Nat) (s : State) : VaultRes :=
  let c := tokenCause 0x11 (· = 2592) true s.vault.owner req t s
  let key := tokenBody t
  if c ≠ 0 then refuse c s
  else if 4 ≤ s.otp.owners.length then refuse 0x07 s
  else if storeFails then storeFault s
  else (0, [], s |> programOwner key false |> newOwner key |> (fun u => emit 0x6003 srcVault req ((ownerSlot u).getD 0) 0 u))

/-- A policy document read (R506), or none where its layout is broken. -/
def policyOf (d : List Nat) : Option Policy :=
  let n := ofLe ((d.drop 6).take 2)
  let v := ofLe (d.take 4)
  let nd := d.getD 4 0
  let fl := d.getD 5 0
  if d.length ≠ 24 + 16 * n || 16 < n || 256 < v || 2 < nd || 16 ≤ fl then none
  else some ⟨v, nd, fl, (d.drop 8).take 16, (List.range n).map (fun i => (d.drop (24 + 16 * i)).take 16)⟩

/-- Row 3 of R516: a new policy that no longer serves the loaded key zeroises it. -/
def policyKey (s : State) : State :=
  match s.vault.descr with
  | none => s
  | some d =>
    let c := if foreign d s && !policyFlag 3 s then 2 else if !s.vault.policy.allowed.contains d.wrapId then 1 else 0
    if c ≠ 0 && fon XTS.page XTS.STATUS_KEY_LOADED s then s |> zeroiseKey 3 |> fset FMT.page FMT.ENC_WITHHELD c else s

/-- SET_POLICY (R507); in STORE_LOST the request may begin with the owner's public key (R494). -/
def opSetPolicy (storeFails : Bool) (req : Nat) (b : List Nat) (s : State) : VaultRes :=
  let lead := ownerState s = 2 && ofLe (b.take 4) ≠ 0x4B544F5A && sha3 (b.take 2592) = ownerHash s
  let t := if lead then b.drop 2592 else b
  let key := if lead then b.take 2592 else s.vault.owner
  let c := tokenCause 0x12 (fun n => 24 ≤ n && n ≤ 280) false key req t s
  if c ≠ 0 then refuse c s
  else match policyOf (tokenBody t) with
    | none => refuse 0x01 s
    | some p =>
      if p.version ≤ s.vault.policy.version || p.version < s.otp.floor then refuse 0x06 s
      else if storeFails then storeFault s
      else (0, [], s |> setVault { s.vault with owner := key, policy := p, token := t,
                                                wraps := s.vault.wraps.filter (fun w => p.allowed.contains w.1) }
        |> writeStore |> showVault 1 |> measure 0x05 0 (sha3 t) |> policyKey |> emit 0x6004 srcVault req p.version p.flags)

/-- COMMIT_POLICY (R507). -/
def opCommitPolicy (req : Nat) (t : List Nat) (s : State) : VaultRes :=
  let c := tokenCause 0x13 (· = 4) true s.vault.owner req t s
  let v := ofLe (tokenBody t)
  if c ≠ 0 then refuse c s
  else if v ≠ s.vault.policy.version then refuse 0x06 s
  else if 256 ≤ s.otp.floor then refuse 0x07 s
  else (0, [], s |> setOtp { s.otp with floor := max s.otp.floor v }
    |> (fun u => fset VLQ.page VLQ.POLICY_FLOOR u.otp.floor u) |> (fun u => emit 0x6005 srcVault req u.otp.floor 0 u))

/-- IMPORT_WRAP_KEY (R509, R510). -/
def opImportWrapKey (storeFails : Bool) (req : Nat) (t : List Nat) (s : State) : VaultRes :=
  let c := tokenCause 0x20 (· = 1624) false s.vault.owner req t s
  let b := tokenBody t
  let i := b.take 16
  let k := Config.kemDecap kemSeeds.1 kemSeeds.2 ((b.drop 16).take 1568)
  let kek := (sha3 (k ++ ascii "ZHV-WRAP" ++ i ++ serialBytes s)).take 32
  let rest := s.vault.wraps.filter (fun w => w.1 ≠ i)
  if c ≠ 0 then refuse c s
  else if !s.vault.policy.allowed.contains i then refuse 0x08 s
  else match kwUnwrap kek (b.drop 1584) with
    | none => refuse 0x02 s
    | some w =>
      if 16 ≤ rest.length then refuse 0x09 s
      else if storeFails then storeFault s
      else (0, [], s |> setVault { s.vault with wraps := rest ++ [(i, w)] } |> writeStore |> showVault (ownerState s)
        |> emit 0x6006 srcVault req (ofLe (i.take 4)) (rest.length + 1))

/-- DISC_UNLOCK (R514). -/
def opDiscUnlock (req : Nat) (t : List Nat) (s : State) : VaultRes :=
  let c := tokenCause 0x22 (· = 8) true s.vault.owner req t s
  if c ≠ 0 then refuse c s
  else match s.vault.descr with
    | none => refuse 0x0B s
    | some d =>
      if ofLe (tokenBody t) ≠ s.disc.id || fget FMT.page FMT.ENC_WITHHELD s ≠ 3 || d.state = 0 then refuse 0x0B s
      else match keyCause d s with
        | (none, key) => (0, [], loadKey key 1 req s)
        | (some 2, _) => refuse 0x05 s
        | _ => refuse 0x08 s

/-- COMMIT_SVN (R508, R520): the body is the SVN, in a token or, where none is needed, alone. -/
def opCommitSvn (req : Nat) (t : List Nat) (s : State) : VaultRes :=
  let need := policyFlag 2 s && ownerState s ≠ 0
  let plain := t.length = 4
  let c := if plain then (if need then 0x05 else 0) else tokenCause 0x31 (· = 4) need s.vault.owner req t s
  let v := ofLe (if plain then t else tokenBody t)
  let old := s.otp.rollback
  if req < 4 || 7 < req then refuse 0x0A s
  else if c ≠ 0 then refuse c s
  else if v ≠ fget VLQ.page VLQ.RUN_SVN s then refuse 0x06 s
  else if 128 ≤ old then refuse 0x07 s
  else (0, [], s |> setOtp { s.otp with rollback := max old v } |> fset VLQ.page VLQ.ROLLBACK (max old v)
    |> emit 0x600C srcVault req (max old v) old)

/-- LOG_CLEAR (R524). -/
def opLogClear (req : Nat) (t : List Nat) (s : State) : VaultRes :=
  let c := tokenCause 0x40 (· = 0) true s.vault.owner req t s
  if c ≠ 0 then refuse c s
  else (0, [], s |> setVault { s.vault with clear := some (req, ofLe ((tokenDigest t).take 4)) } |> fset EVR.page EVR.STATUS_CLEARING 1)

/-! ## Running an operation (R496 to R500, R526) -/

/-- Operations whose tokens are bound to a nonce (R498). -/
def nonceOp (op : Nat) (s : State) : Bool :=
  [ 0x10, 0x11, 0x13, 0x22, 0x40 ].contains op || (op = 0x31 && policyFlag 2 s && ownerState s ≠ 0)

/-- The request copied and not yet performed, of an operation. -/
def vaultReady (op : Nat) (s : State) : Option (VaultOp × List Nat) :=
  match s.vault.op with
  | some o => match o.request, o.done with
    | some r, none => if reqOp r = op then some (o, r) else none
    | _, _ => none
  | none => none

/-- An operation performed: a locked-out vault refuses all but three, and a nonce is consumed by a request that carries
a nonce-bound token, whatever its end. -/
def perform (op : Nat) (f : Nat → List Nat → State → VaultRes) (s : State) : State :=
  match vaultReady op s with
  | none => s
  | some (o, r) =>
    let b := reqBody r
    let x := if 12272 < reqLen r then refuse 0x01 s
      else if fon VLQ.page VLQ.STATUS_LOCKED_OUT s && !([ 0x01, 0x02, 0x05 ].contains op) then refuse 0x0C s
      else f o.req b s
    let t := x.2.2
    let keep := if nonceOp op s && 52 ≤ b.length then t.vault.nonces.erase o.req else t.vault.nonces
    setVault { t.vault with nonces := keep, op := some { o with done := some (x.1, x.2.1) } } t

/-- The operation of a request, by OP. -/
def vaultOpOf (op : Nat) : Nat → List Nat → State → VaultRes :=
  if op = 0x01 then opGetInfo else if op = 0x02 then opGetNonce none else if op = 0x03 then opGetIdentity
  else if op = 0x04 then opGetCert else if op = 0x05 then opQuote else if op = 0x10 then opClaim false
  else if op = 0x11 then opTransfer false else if op = 0x12 then opSetPolicy false else if op = 0x13 then opCommitPolicy
  else if op = 0x20 then opImportWrapKey false else if op = 0x21 then opPrepare else if op = 0x22 then opDiscUnlock
  else if op = 0x23 then opDiscLock else if op = 0x30 then opVerifyImage else if op = 0x31 then opCommitSvn
  else if op = 0x40 then opLogClear else fun _ _ s => refuse 0x01 s

/-- GET_INFO (R498). -/
def execGetInfo (s : State) : Res := .next (perform 0x01 opGetInfo s)
/-- GET_NONCE (R500). -/
def execGetNonce (entropy : Option (BitVec 8)) (s : State) : Res := .next (perform 0x02 (opGetNonce (entropy.map BitVec.toNat)) s)
/-- GET_IDENTITY (R498). -/
def execGetIdentity (s : State) : Res := .next (perform 0x03 opGetIdentity s)
/-- GET_CERT (R498). -/
def execGetCert (s : State) : Res := .next (perform 0x04 opGetCert s)
/-- QUOTE (R523). -/
def execQuote (s : State) : Res := .next (perform 0x05 opQuote s)
/-- PREPARE_DISC (R511). -/
def execPrepareDisc (s : State) : Res := .next (perform 0x21 opPrepare s)
/-- DISC_UNLOCK (R514). -/
def execDiscUnlock (s : State) : Res := .next (perform 0x22 opDiscUnlock s)
/-- DISC_LOCK (R516). -/
def execDiscLock (s : State) : Res := .next (perform 0x23 opDiscLock s)
/-- VERIFY_IMAGE (R521). -/
def execVerifyImage (s : State) : Res := .next (perform 0x30 opVerifyImage s)
/-- SET_POLICY (R507). -/
def execSetPolicy (storeFails : Bool) (s : State) : Res := .next (perform 0x12 (opSetPolicy storeFails) s)
/-- IMPORT_WRAP_KEY (R510). -/
def execImportWrapKey (storeFails : Bool) (s : State) : Res := .next (perform 0x20 (opImportWrapKey storeFails) s)
/-- LOG_CLEAR (R524). -/
def execLogClear (s : State) : Res := .next (perform 0x40 opLogClear s)

/-- An operation cut short by a reset while it programs the OTP: it is abandoned with no response, and `keep` is what the
programming left (R502). -/
def cutShort (op : Nat) (f : Nat → List Nat → State → VaultRes) (keep : List Nat → State → State) (s : State) : State :=
  match vaultReady op s with
  | none => s
  | some (_, r) =>
    let t := perform op f s
    match t.vault.op with
    | some { done := some (0, _), .. } =>
      s |> keep (reqBody r) |> setVault { s.vault with op := none } |> fset VLQ.page VLQ.STATUS_STATE 0
    | _ => t

/-- CLAIM (R504). -/
def execClaim (cut storeFails : Bool) (s : State) : Res :=
  .next (if cut then cutShort 0x10 (opClaim storeFails) (fun t => programOwner (tokenBody t) true) s else perform 0x10 (opClaim storeFails) s)

/-- TRANSFER (R505). -/
def execTransfer (cut storeFails : Bool) (s : State) : Res :=
  .next (if cut then cutShort 0x11 (opTransfer storeFails) (fun t => programOwner (tokenBody t) true) s
    else perform 0x11 (opTransfer storeFails) s)

/-- COMMIT_POLICY (R507); interrupted, the counter stands between its old value and the new (R492). -/
def execCommitPolicy (cut : Option (BitVec 9)) (s : State) : Res :=
  .next (match cut with
    | none => perform 0x13 opCommitPolicy s
    | some n => cutShort 0x13 opCommitPolicy (fun t u =>
        setOtp { u.otp with floor := max u.otp.floor (min n.toNat (ofLe (tokenBody t))) } u) s)

/-- COMMIT_SVN (R520); interrupted as COMMIT_POLICY. -/
def execCommitSvn (cut : Option (BitVec 8)) (s : State) : Res :=
  .next (match cut with
    | none => perform 0x31 opCommitSvn s
    | some n => cutShort 0x31 opCommitSvn (fun _ u =>
        setOtp { u.otp with rollback := max u.otp.rollback (min n.toNat (fget VLQ.page VLQ.RUN_SVN u)) } u) s)

/-! ## The request page (R495, R496) -/

/-- GO written. -/
def vaultGo (req : Nat) (s : State) : State :=
  if !holds claimVlq req s then sticky VLQ.page VLQ.kNOT_OWNER s
  else if fget VLQ.page VLQ.STATUS_STATE s = 1 then s
  else s |> fset VLQ.page VLQ.STATUS_STATE 1 |> setVault { s.vault with op := some { req := req, start := s.time } }

/-- The request buffer may be written: no request waits to be copied. -/
def reqFree (s : State) : Bool := match s.vault.op with | some o => o.request.isSome | none => true

/-- An index advanced after an access, under its AUTO_INC. -/
def bumpIdx (idx auto : Fld) (s : State) : State :=
  if fon VLQ.page auto s then fset VLQ.page idx (fget VLQ.page idx s + 1) s else s

/-- VLQ_CLAIM (R495). -/
def execVlqClaim (reqs : List (Fin 28)) (s : State) : Res := .next (claimReads claimVlq (reqs.map Fin.val) s)

/-- A word of a buffer read at its index; above 3,071 it reads 0. -/
def vlqRead (req : Nat) (buf : Store Nat) (idx auto : Fld) (s : State) : State :=
  let i := fget VLQ.page idx s
  s |> (if 3072 ≤ i then sticky VLQ.page VLQ.kIDX_OVF else id)
    |> send (.readData req (if 3072 ≤ i then 0 else buf.get i 0)) |> bumpIdx idx auto

/-- VLQ_INDEX_ACCESS (R495). -/
def execVlqIndexAccess (req : Fin 28) (acc : VlqAccess) (s : State) : Res :=
  match acc with
  | .reqRead => .next (vlqRead req s.vault.reqBuf VLQ.REQ_IDX_IDX VLQ.REQ_IDX_AUTO_INC s)
  | .rspRead => .next (vlqRead req s.vault.rspBuf VLQ.RSP_IDX_IDX VLQ.RSP_IDX_AUTO_INC s)
  | .reqWrite v =>
    if !holds claimVlq req s then .next (sticky VLQ.page VLQ.kNOT_OWNER s)
    else if !reqFree s then .next s
    else
      let i := fget VLQ.page VLQ.REQ_IDX_IDX s
      .next ((if 3072 ≤ i then sticky VLQ.page VLQ.kIDX_OVF s
        else setVault { s.vault with reqBuf := s.vault.reqBuf.put i v.toNat 0 } s)
        |> bumpIdx VLQ.REQ_IDX_IDX VLQ.REQ_IDX_AUTO_INC)

/-- Words of a buffer as bytes. -/
def bufBytes (b : Store Nat) (n : Nat) : List Nat := ((List.range ((n + 3) / 4)).flatMap (fun i => leBytes 4 (b.get i 0))).take n

/-- Bytes as the words of a buffer. -/
def bytesBuf (n : Nat) (bs : List Nat) : Store Nat :=
  (List.range n).foldl (fun m i => Store.put m i (ofLe ((bs.drop (4 * i)).take 4)) 0) []

/-- VAULT_REQUEST_COPY (R496 step 2). -/
def execVaultRequestCopy (s : State) : Res :=
  match s.vault.op with
  | some o =>
    if o.request.isSome then .next s
    else
      let n := ofLe (leBytes 4 (s.vault.reqBuf.get 1 0))
      .next (setVault { s.vault with op := some { o with request := some (bufBytes s.vault.reqBuf (min (16 + n) 12288)) } } s)
  | none => .next s

/-- VAULT_RESPONSE (R496 step 3, R497, R499). -/
def execVaultResponse (s : State) : Res :=
  let s := match s.vault.op with
    | some { request := some r, done := none, .. } => perform (reqOp r) (vaultOpOf (reqOp r)) s
    | _ => s
  match s.vault.op with
  | some { req := q, start := _, request := some r, done := some (code, body) } =>
    let p := VLQ.page
    let s := fset p VLQ.VAULT_SEQ (fget p VLQ.VAULT_SEQ s + 1) s
    let h := leBytes 2 (reqOp r) ++ [ code, 0 ] ++ leBytes 4 body.length ++ (r.drop 8).take 4 ++ leBytes 4 (fget p VLQ.VAULT_SEQ s)
    let s := s |> setVault { s.vault with op := none, rspBuf := bytesBuf 3072 (h ++ body) }
      |> fset p VLQ.STATUS_STATE 2 |> fset p VLQ.RESULT_CODE code |> fset p VLQ.RESULT_OP (reqOp r)
    .next (if code = 0 then s |> cnt p VLQ.REQ_CNT VLQ.kCNT_SAT |> raise p VLQ.iDONE
      else s |> cnt p VLQ.REFUSE_CNT VLQ.kCNT_SAT |> raise p VLQ.iREFUSED |> emit 0x6001 srcVault q (reqOp r) code)
  | _ => .next s

/-- NONCE_EXPIRY (R500). -/
def execNonceExpiry (req : Fin 28) (s : State) : Res :=
  .next (setVault { s.vault with nonces := s.vault.nonces.erase req } s)

/-- Nonces discarded and an operation running abandoned with no response (R500, R502). -/
def vaultAbandon (s : State) : State :=
  let busy := s.vault.op.isSome
  s |> setVault { s.vault with nonces := [], op := none } |> (if busy then fset VLQ.page VLQ.STATUS_STATE 0 else id)

/-- INTERNAL_SCAN (R516 row 7, R522, R526): the vault's private memory is erased; the OTP and the store stand. -/
def execInternalScan (_ : Fin 16) (s : State) : Res :=
  let p := VLQ.page
  let s := s |> zeroiseKey 7 |> vaultAbandon
  let v := s.vault
  .next (s |> setVault { v with policy := closedPolicy, wraps := [], owner := [], token := [], prepare := none }
    |> measure 0x08 0 (sha3 []) |> fset p VLQ.STATUS_LOCKED_OUT 1 |> raise p VLQ.iLOCKOUT |> emit 0x600F srcVault 0xFF 0 0)

/-- CLAIM_TIMEOUT (R414, R495): a mailbox's claim has no timeout. -/
def execClaimTimeout (what : ClaimOf) (s : State) : Res :=
  match what with
  | .trf =>
    let c := s.claim claimTrf
    match c.holder with
    | some h => .next (s |> releaseClaim claimTrf |> raise TRF.page TRF.iCLAIM_TIMEOUT
        |> emit 0x5009 srcHost h c.count (fget TRF.page TRF.CLAIM_TO_US s))
    | none => .next s
  | .vlq =>
    match (s.claim claimVlq).holder with
    | some _ => .next (s |> releaseClaim claimVlq |> raise VLQ.page VLQ.iCLAIM_TIMEOUT)
    | none => .next s
  | .mbx _ => .next s

end Sys2Proof.Machine
end

