-- ==== Sys2Proof/Machine/Observe.lean ====
section
/-!
DEFINITION. Performance counters and tagging as written, semaphores, STILL and the test access port (R587 to R597).
-/
namespace Sys2Proof.Machine

/-! ## Performance counters and tagged records (R587, R588, R590, R591) -/

/-- COUNTER_OVERFLOW (R587): a counter passes its maximum by one occurrence. -/
def execCounterOverflow (n : Fin 64) (s : State) : Res :=
  let w := fget PMC.page (PMC.CNT_CFG_WIDTH.ix n) s
  let s := if w = 0 then fset PMC.page (PMC.VAL.ix n) (2 ^ 16 - 1) s
    else if w = 2 && n.val % 2 = 0 then s |> fset PMC.page (PMC.VAL.ix n) (2 ^ 32 - 1) |> fset PMC.page (PMC.VAL.ix (n + 1)) (2 ^ 32 - 1)
    else fset PMC.page (PMC.VAL.ix n) (2 ^ 32 - 1) s
  .next (pmcAdvance n 1 s)

/-- PMC_HOLD (R588). -/
def execPmcHold (on : Bool) (s : State) : Res := .next (fsetB PMC.page PMC.CTRL_HOLD on s)

/-- A write of VAL: with WIDTH 0, bits 31 to 16 read 0 (R587). -/
def writeVal (n v : Nat) (s : State) : State :=
  fset PMC.page (PMC.VAL.ix n) (if fget PMC.page (PMC.CNT_CFG_WIDTH.ix n) s = 0 then v % 2 ^ 16 else v) s

/-- VAL_WRITE (R587). -/
def execValWrite (n : Fin 64) (v : BitVec 32) (s : State) : Res := .next (writeVal n v.toNat s)

/-- The tagging LFSR loaded; a seed of 0 acts as 1 (R590). -/
def seedTags (v : Nat) (s : State) : State := setCl { s.cl with lfsr := nz v } s

/-- TAG_SEED (R590). -/
def execTagSeed (v : BitVec 32) (s : State) : Res := .next (seedTags v.toNat s)

/-- The oldest tagged record released (R591): only a record that has been written. -/
def popRecord (s : State) : State :=
  let p := PMC.page
  let j := fget p PMC.REC_HEAD s
  match s.cl.recs.find j with
  | some _ =>
    s |> setCl { s.cl with recs := s.cl.recs.erase j } |> fset p PMC.REC_HEAD (j + 1)
      |> fset p PMC.REC_COUNT (fget p PMC.REC_COUNT s - 1) |> fset p PMC.REC_RESERVED (fget p PMC.REC_RESERVED s - 1)
  | none => s

/-- REC_POP (R591). -/
def execRecPop (s : State) : Res := .next (popRecord s)

/-! ## Semaphores (R596, R597) -/

/-- Bit `n` of HELD shown. -/
def showSem (n : Nat) (s : State) : State :=
  let h := fget SEM.page SEM.HELD s
  fset SEM.page SEM.HELD (if (s.claim (claimSem n)).holder.isSome then setBit h n else clrBit h n) s

/-- SEM_ACQUIRE (R596, R597): reads of a semaphore in one cycle of the always-on island. -/
def execSemAcquire (n : Fin 32) (reqs : List (Fin 28)) (s : State) : Res :=
  let contest := (s.claim (claimSem n)).holder.isNone && decide (2 ≤ reqs.length)
  .next (s |> claimReads (claimSem n) (reqs.map Fin.val) |> showSem n
    |> (if contest then cnt SEM.page SEM.CONTEST_CNT SEM.kCNT_SAT else id))

/-- A release by a requester (R596). -/
def semRelease (n req : Nat) (s : State) : State :=
  if holds (claimSem n) req s then s |> releaseClaim (claimSem n) |> showSem n else sticky SEM.page SEM.kNOT_OWNER s

/-- SEM_REL with GO (R596). -/
def execSemRel (n : Fin 32) (req : Fin 28) (s : State) : Res := .next (semRelease n req s)

/-- A forced release (R596). -/
def semForce (n req : Nat) (s : State) : State :=
  match (s.claim (claimSem n)).holder with
  | some h => s |> releaseClaim (claimSem n) |> showSem n |> emit 0x0025 srcAon n h req
  | none => s

/-- FORCE_REL with GO (R596). -/
def execForceRel (n : Fin 32) (req : Fin 28) (s : State) : Res := .next (semForce n req s)

/-- Semaphores held by the requesters that `p` picks are released (R596). -/
def semDrop (p : Nat → Bool) (s : State) : State :=
  (List.range 32).foldl (fun t n =>
    match (t.claim (claimSem n)).holder with
    | some h => if p h then t |> releaseClaim (claimSem n) |> showSem n else t
    | none => t) s

/-! ## STILL (R592, R593) -/

/-- Chain lengths and contents of the seven islands: the spec gives no bit map, so they are free values. -/
def drawChains : Nat → State → State
  | 0, s => s
  | n + 1, s =>
    withFree (fun len t => withFree (fun bits u =>
      drawChains n (u |> fset STL.page (STL.CHAIN_LEN.ix (6 - n)) len |> setObs { u.obs with chains := u.obs.chains ++ [bits] })) t) s

/-- Both motors and all lasers stopped in a safe state: SAFE on every coil, the spindle coasts, the sleds are off. -/
def motorsSafe (s : State) : State :=
  let turning := getSpin s ≠ 0 && getSpin s ≠ 8
  let s := { s with pwr := { s.pwr with spinAgain := s.pwr.spinAgain || (turning && getSpin s ≠ 6) } }
  s |> coilsSafe 0 |> coilsSafe 1 |> gatesOff |> unlockSpin |> angleValid false |> (if turning then spinState 7 else id)
    |> sledOff 0 |> sledOff 1

/-- The six steps of R592; HTX KILL slots have ended after step 4. -/
def freeze (pin : Bool) (s : State) : State :=
  let p := STL.page
  let s := if pin then fset p STL.STATUS_PIN 1 s else s
  if fon p STL.STATUS_FROZEN s then s
  else
    let s := s |> tripBoth |> vaultAbandon |> zeroiseKey 6 |> motorsSafe
      |> fset (HTX.page 0) HTX.STATUS_KILL 0 |> fset (HTX.page 1) HTX.STATUS_KILL 0
    let s := setObs { s.obs with byPin := pin, chains := [] } s |> drawChains 7
      |> fset64 p STL.FREEZE_TIME_LO STL.FREEZE_TIME_HI s.time |> fset p STL.STATUS_FROZEN 1 |> fset p STL.STATUS_READOUT 0
      |> fset p STL.READOUT_CNT 0 |> cnt p STL.FREEZE_CNT STL.kCNT_SAT |> raise p STL.iFROZEN
      |> fset CLK.page CLK.STATUS_STOPPED (fget CLK.page CLK.STATUS_STOPPED s ||| 0x7F)
    emit 0x0020 srcAon (if pin then 0 else 1) (fget p STL.FREEZE_TIME_LO s) (fget PWR.page PWR.STATUS_MODE s) s

/-- STILL_FREEZE (R592). -/
def execStillFreeze (pin : Bool) (s : State) : Res := .next (freeze pin s)

/-- The freeze ends: the clocks run again (R593). -/
def unfrozen (s : State) : State :=
  let p := STL.page
  s |> fset p STL.STATUS_FROZEN 0 |> fset p STL.STATUS_READOUT 0 |> setObs { s.obs with chains := [] }
    |> (List.range 7).foldl (fun t k => fset p (STL.CHAIN_LEN.ix k) 0 t)
    |> fset CLK.page CLK.STATUS_STOPPED (fget CLK.page CLK.STATUS_STOPPED s / 2 ^ 7 * 2 ^ 7)

/-- What follows a safe state that reset no logic: the spindle starts again where its target is not zero, and the sleds
home (R544, R593). -/
def motorsResume (s : State) : State :=
  let again := s.pwr.spinAgain
  let s := { s with pwr := { s.pwr with spinAgain := false } }
  s |> (if again && decide (0 < fget SPN.page SPN.TARGET_RPM s) then startSpin else id) |> homeStart 0 |> homeStart 1

/-- Release of a frozen device (R593). -/
def release (s : State) : State :=
  let t0 := fget64 STL.page STL.FREEZE_TIME_LO STL.FREEZE_TIME_HI s
  let s := unfrozen s
  s |> lostFeedback 0 6 (srcEng 0) |> lostFeedback 1 6 (srcEng 4) |> motorsResume |> keyDecision |> raise STL.page STL.iRELEASED
    |> emit 0x0021 srcAon (if s.obs.byPin then 0 else 1) ((s.time - t0) / 25000) 0

/-! ## The test access port (R594, R595) -/

/-- An instruction loaded into the test access port. -/
def loadIr (code : Nat) (s : State) : State :=
  s |> setObs { s.obs with ir := code } |> fsetB STL.page STL.STATUS_READOUT (code = 0x20 && fon STL.page STL.STATUS_FROZEN s)

/-- EXTEST: the preloaded values are driven at its loading; a scan captures the balls and drives what was shifted in. -/
def execExtest (captured shifted : Nat) (s : State) : Res :=
  let s := if s.obs.ir = 0 then s else send (.pins s.obs.bound) s
  let s := s |> loadIr 0x00 |> send (.tap captured)
  .next (s |> setObs { s.obs with bound := shifted } |> send (.pins shifted))

/-- The identification code: [0] 1, the JEDEC code from the OTP, 0x8816 and 0xB. -/
def idcode : Nat := 0xB * 2 ^ 28 + 0x8816 * 2 ^ 12 + Config.otpWord (2 ^ 40) % 2 ^ 11 * 2 + 1

/-- IDCODE. -/
def execIdcode (s : State) : Res := .next (s |> loadIr 0x01 |> send (.tap idcode))

/-- SAMPLE/PRELOAD: the balls are captured, and what is shifted in is held. -/
def execSamplePreload (captured shifted : Nat) (s : State) : Res :=
  let s := s |> loadIr 0x02 |> send (.tap captured)
  .next (setObs { s.obs with bound := shifted } s)

/-- The read-out of the frozen islands, first bit shifted least significant (R595). -/
def readOut (s : State) : Nat :=
  let parts := (List.range 7).map (fun k =>
    let st := if bit (fget CLK.page CLK.STATUS_LOCK s) k then 0 else 2
    let len := if st = 0 then fget STL.page (STL.CHAIN_LEN.ix k) s else 0
    (64 + len, k * 2 ^ 56 + st * 2 ^ 54 + len + s.obs.chains.getD k 0 % 2 ^ len * 2 ^ 64))
  (parts.foldr (fun x acc => x.2 + acc * 2 ^ x.1) 0)

/-- STILL_READ (R595): its loading while frozen is measured and recorded. -/
def execStillRead (s : State) : Res :=
  let p := STL.page
  if fon p STL.STATUS_FROZEN s then
    let s := s |> loadIr 0x20 |> cnt p STL.READOUT_CNT STL.kCNT_SAT |> measure 0x07 0 (sha3 [])
    .next (s |> emit 0x0022 srcAon (fget p STL.READOUT_CNT s) 0 0 |> send (.tap (readOut s)))
  else .next (s |> loadIr 0x20 |> send (.tap 0))

/-- BYPASS, and every code that R594 does not list. -/
def execBypass (s : State) : Res := .next (s |> loadIr 0xFF |> send (.tap 0))

/-- TAP_RESET (R566): only the test access port is reset. -/
def execTapReset (s : State) : Res := .next (loadIr 0x01 s)

end Sys2Proof.Machine
end

