-- ==== Sys2Proof/Machine/Islands.lean ====
section
/-!
DEFINITION. The islands of the pages, and what each reset keeps (R566 to R568, R647).
-/
namespace Sys2Proof.Machine

/-- A number lies in a range. -/
def inRange (a b n : Nat) : Bool := decide (a ≤ n) && decide (n ≤ b)

/-- The island of a page index (R647): 0 host, 1 policy, 2 servo, 3 channel L, 4 channel U, 5 decode, 6 memory, 7 vault,
8 always-on. -/
def islandOf (p : Nat) : Nat :=
  if p ≤ 0x07 then 8
  else if inRange 0x10 0x14 p || inRange 0x20 0x22 p || p = 0xE0 then 0
  else if p = 0x68 then 1
  else if inRange 0x38 0x39 p || inRange 0x40 0x44 p || inRange 0x50 0x5B p then 2
  else if inRange 0x30 0x31 p || p = 0x34 || inRange 0x70 0x7A p || p = 0xA0 || inRange 0x5C 0x5F p then 3
  else if inRange 0x32 0x33 p || p = 0x35 || inRange 0x80 0x8A p || p = 0xA1 || inRange 0x60 0x63 p then 4
  else if inRange 0x90 0x93 p || p = 0xA8 || inRange 0xB0 0xB3 p then 5
  else if inRange 0xC0 0xC2 p then 6
  else 7

/-- The page index of a register field's key. -/
def keyPage (k : Nat) : Nat := k / 2 ^ 17

/-- Records of the tag buffer moved up to REC_HEAD in ring order, the reservations of lost commands left out (R591). -/
def compactRecs (s : State) : State :=
  let p := PMC.page
  let h := fget p PMC.REC_HEAD s
  let live := (List.range 64).filterMap (fun i => s.cl.recs.find ((h + i) % 64))
  s |> setCl { lfsr := s.cl.lfsr, recs := (live.zipIdx).foldl (fun m x => Store.insert m ((h + x.2) % 64) x.1) [] }
    |> fset p PMC.REC_COUNT live.length |> fset p PMC.REC_RESERVED live.length

/-- What a warm reset keeps (R566): the always-on island, the vault but for the mounted disc, OTP and flash. -/
def keepAlwaysOn (s : State) : State :=
  let s := compactRecs s
  let keep : State :=
    { pending := s.pending, free := s.free, time := s.time, prof := s.prof, evq := s.evq, out := s.out, otp := s.otp, dev := s.dev,
      regs := s.regs.filter (fun kv => 7 ≤ islandOf (keyPage kv.1)),
      claims := s.claims.filter (fun kv => decide (1 ≤ kv.1)),
      cl := s.cl, vault := { s.vault with descr := none, prepare := none, clear := none },
      pwr := { s.pwr with rest := none, trans := none, spinAgain := false, wake := 0, held := [], saved := [] },
      obs := { s.obs with chains := [], latches := [], loHeld := [] } }
  keep |> setDev { keep.dev with mountAt := none, noAuto := false, remount := false, copy := none, bootLater := none }
    |> semDrop (fun r => r = 0 || r = 1 || 4 ≤ r)
    |> fclrs DEV.page [ DEV.STATUS_BOOT_STATE, DEV.STATUS_SLOT, DEV.STATUS_TRIAL, DEV.STATUS_BOOT_CTL_BUSY, DEV.STATUS_RCV_BUSY,
        DEV.BOOT_INFO_TRIES, DEV.BOOT_INFO_SVN, DEV.BOOT_INFO_FALLBACK, DEV.BOOT_INFO_CAUSE_A, DEV.BOOT_INFO_CAUSE_B ]
    |> fset PWR.page PWR.STATUS_MODE 3 |> fset PWR.page PWR.STATUS_TRANSITION 0 |> fset PWR.page PWR.STATUS_DEFERRED 0
    |> fset EVR.page EVR.STATUS_CLEARING 0 |> fset STL.page STL.STATUS_FROZEN 0 |> fset STL.page STL.STATUS_READOUT 0
    |> fset CLK.page CLK.STATUS_STOPPED 0

/-- The safe state of R568: write stop, the disc key zeroised, the motors off. -/
def resetSafe (s : State) : State :=
  s |> abruptStop 0 2 |> abruptStop 1 2 |> killHead 0 |> killHead 1 |> vaultAbandon |> zeroiseKey 5 |> motorsSafe

/-- The boot control copy in progress is programmed whole (R566). -/
def finishCopy (s : State) : State :=
  match s.dev.copy with
  | some (a, bs) => s |> flashErase a (a + 0x1000) |> flashStore a bs
  | none => s

/-- A warm reset's trigger (R566 to R568): the islands are reset and held; while they are, a further trigger adds its
cause. -/
def warmReset (cause req : Nat) (s : State) : State :=
  let p := DEV.page
  let s := fset p DEV.RESET_HIST (setBit (fget p DEV.RESET_HIST s) cause) s
  match s.dev.hold with
  | some h => setDev { s.dev with hold := some { h with all := setBit h.all cause } } s
  | none =>
    s |> resetSafe |> finishCopy |> keepAlwaysOn |> cnt p DEV.RESET_CNT DEV.kCNT_SAT |> fset p DEV.RESET_CAUSE (2 ^ cause)
      |> (fun t => setDev { t.dev with hold := some ⟨cause, 2 ^ cause, s.time, req⟩ } t)

/-- PIN_RESET (R566). -/
def execPinReset (s : State) : Res := .next (warmReset 1 0xFF s)

/-- DEV.RESET with GO (R566). -/
def deviceReset (key req : Nat) (s : State) : State :=
  if key = 0x5A17 then warmReset 4 req s else sticky DEV.page DEV.kRESET_KEY_BAD s

/-- DEVICE_RESET (R566). -/
def execDeviceReset (key : BitVec 16) (req : Fin 28) (s : State) : Res := .next (deviceReset key.toNat req s)

/-- The watchdog restarted (R566). -/
def kickWatchdog (s : State) : State := setDev { s.dev with kicked := s.time } s

/-- WDOG_KICK (R566). -/
def execWdogKick (s : State) : Res := .next (kickWatchdog s)

/-- WATCHDOG_EXPIRED (R566): armed from step 5 of R565; its count holds in LULL and while frozen. -/
def execWatchdogExpired (s : State) : Res :=
  let p := DEV.page
  .next (if !fon p DEV.WDOG_CFG_EN s || fget p DEV.STATUS_BOOT_STATE s < 2 || fget p DEV.STATUS_BOOT_STATE s = 4 ||
      fon STL.page STL.STATUS_FROZEN s || fget PWR.page PWR.STATUS_MODE s = 4 then s
    else s |> emit 0x0006 srcAon 0 (nz (fget p DEV.WDOG_CFG_WDOG_MS s)) (fget PPC.page PPC.PC_LO s) |> fault p 0x03
      |> cnt p DEV.WDOG_CNT DEV.kCNT_SAT |> warmReset 5 0xFF)

/-- CORE_RESET_LEVEL (R546). -/
def execCoreResetLevel (mv : BitVec 12) (s : State) : Res :=
  .next (s |> fset PWR.page PWR.VCORE mv.toNat |> fmin PWR.page PWR.VCORE_MIN mv.toNat |> emit 0x101A srcAon 0 mv.toNat 0 |> warmReset 2 0xFF)

/-- REFERENCE_LOST (R552). -/
def execReferenceLost (s : State) : Res :=
  .next (s |> tripBoth |> fset CLK.page CLK.STATUS_REF_OK 0 |> raise CLK.page CLK.iREF_LOST |> fault CLK.page 0x01
    |> emit 0x1030 srcAon 0 0 0 |> warmReset 3 0xFF)

/-- PLL_UNLOCK (R552). -/
def execPllUnlock (island : Fin 8) (s : State) : Res :=
  .next (s |> tripBoth |> fset CLK.page CLK.STATUS_LOCK (clrBit (fget CLK.page CLK.STATUS_LOCK s) island) |> raise CLK.page CLK.iUNLOCK
    |> fault CLK.page 0x02 |> cnt CLK.page CLK.UNLOCK_CNT CLK.kCNT_SAT |> emit 0x1031 srcAon 0 island 1 |> warmReset 3 0xFF)

/-- What no loss of power takes: OTP, boot flash, power cycles and operating time. -/
def keepNothing (s : State) : State :=
  let fresh : State := { pending := s.pending, free := s.free, out := s.out, otp := s.otp, dev := { flash := s.dev.flash } }
  fresh |> fset DEV.page DEV.POWER_CYCLES (fget DEV.page DEV.POWER_CYCLES s) |> fset DEV.page DEV.OP_TIME (fget DEV.page DEV.OP_TIME s)

/-- POWER_LOSS (R547, R558, R568): the buffered records that can still be written are; the islands are then held in
power-on reset with the outputs in the safe state. -/
def execPowerLoss (flushed : Fin 17) (s : State) : Res :=
  let s := s |> resetSafe |> finishCopy |> flushTo (if fon EVR.page EVR.STATUS_FULL s then 0 else flushed) |> keepNothing
  .next (setDev { s.dev with hold := some ⟨0, 1, 0, 0xFF⟩ } s)

end Sys2Proof.Machine
end

