-- ==== Sys2Proof/Machine/Streams.lean ====
section
/-!
DEFINITION. Write streams: opening, contexts, where a write's data are placed, and the rules a write meets at intake
(R347, R350, R352, R398, R434 to R437).
-/
namespace Sys2Proof.Machine

/-- An open stream's record set. -/
def setStrm (i : Nat) (v : Strm) (s : State) : State := setCl { s.cl with strms := s.cl.strms.insert i v } s

/-- A command's outcome known at once. -/
def endNow (t code : Nat) (s : State) : State := modCmd t (fun c => { c with ended := true, outcomes := c.outcomes ++ [code] }) s

/-! ## Contexts (R436) -/

/-- Slots in use. -/
def residents (s : State) : List Nat := s.cl.strms.filterMap (fun kv => kv.2.slot)

/-- The lowest free slot. -/
def freeSlot (s : State) : Option Nat := (List.range 256).find? (fun i => !(residents s).contains i)

/-- Commands outstanding for a stream. -/
def strmCmds (i : Nat) (s : State) : Nat :=
  (s.cl.cmds.filter (fun kv => kv.2.stream == i && (kv.2.op == 1 || kv.2.op == 2 || kv.2.op == 6))).length

/-- A stream resident, or its command set to wait for a context (R436). -/
def needContext (t i n : Nat) (s : State) : State :=
  match s.cl.strms.find i with
  | none => s
  | some x =>
    if x.slot.isSome then setStrm i { x with used := n } s
    else match (if s.cl.ctxWait = [] then freeSlot s else none) with
      | some k => s |> setStrm i { x with slot := some k, used := n } |> showStreams
      | none =>
        let busy := s.cl.strms.all (fun kv => kv.2.slot.isNone || decide (0 < strmCmds kv.1 s))
        let s := setCl { s.cl with ctxWait := s.cl.ctxWait ++ [t] } s
        if busy then s |> cnt STM.page STM.SPILL_WAIT STM.kCNT_SAT |> raise STM.page STM.iWAITING else s

/-- The least recently used resident stream with no command outstanding. -/
def spillVictim (s : State) : Option (Nat × Strm) :=
  let xs := s.cl.strms.filter (fun kv => kv.2.slot.isSome && strmCmds kv.1 s == 0)
  xs.find? (fun kv => xs.all (fun q => decide (kv.2.used ≤ q.2.used)))

/-- STREAM_SPILL (R436): the first waiting command's stream gets a slot. -/
def execStreamSpill (tag : BitVec 12) (fail : Bool) (s : State) : Res :=
  let t := tag.toNat
  match s.cl.ctxWait, s.cl.cmds.find t with
  | w :: ws, some c =>
    if w ≠ t then .next s
    else
      let i := if c.op = 5 then c.aux else c.stream
      match s.cl.strms.find i with
      | none => .next (setCl { s.cl with ctxWait := ws } s)
      | some x =>
        match freeSlot s, spillVictim s with
        | some k, _ => .next (s |> setCl { s.cl with ctxWait := ws } |> setStrm i { x with slot := some k, used := c.n }
            |> cnt STM.page STM.FILLS STM.kCNT_SAT |> showStreams)
        | none, none => .next s
        | none, some (j, y) =>
          if fail then .next (fault STM.page 0x01 s)
          else .next (s |> setCl { s.cl with ctxWait := ws } |> setStrm j { y with slot := none }
            |> setStrm i { x with slot := y.slot, used := c.n } |> cnt STM.page STM.SPILLS STM.kCNT_SAT
            |> cnt STM.page STM.FILLS STM.kCNT_SAT |> raise STM.page STM.iSPILL |> showStreams |> emit 0x5005 srcHost c.req j i)
  | _, _ => .next s

/-! ## What a write meets at intake (R347, R352, R435) -/

/-- The sides a range touches. -/
def sidesOf (first n : Nat) : List Nat :=
  ((List.range (min 16 (clustersIn first n))).map (fun i => lbaSide (32 * (first / 32 + i)))).eraseDups

/-- A write-once violation (R347). -/
def violation (t lba : Nat) (s : State) : State :=
  s |> raise ENC.page ENC.iWO_VIOL |> cnt ENC.page ENC.WO_VIOL_CNT ENC.kCNT_SAT
    |> emit 0x410A srcHost 0 lba (fget ENC.page ENC.FRONTIER s) |> endNow t 0x12

/-- K moved. -/
def setFrontier (k : Nat) (s : State) : State := fset ENC.page ENC.FRONTIER k s

/-- The records of `u` bytes in sectors at most, from the bound of R398 with records of 65,536 and blocks of 16,384. -/
def boundSectors (u : Nat) : Nat :=
  let rec1 := fun (n : Nat) => (20 + n + 6 * ((n + 16383) / 16384) + 2 + 2047) / 2048
  u / 65536 * rec1 65536 + (if u % 65536 = 0 && u ≠ 0 then 0 else rec1 (u % 65536))

/-- Sectors that a stream's compressed writes still without a length may take, in whole clusters. -/
def pendingBound (i t : Nat) (s : State) : Nat :=
  (s.cl.cmds.filter (fun kv => kv.1 != t && kv.2.op == 2 && kv.2.stream == i && !kv.2.placed && !kv.2.ended)).foldl
    (fun a kv => a + roundUp (boundSectors kv.2.count) 32) 0

/-- A write placed with a first LBA and a length. -/
def placeAt (t first n : Nat) (s : State) : State := modCmd t (fun c => { c with first := first, sectors := n, placed := true, waitDisc := false }) s

/-- A stream write placed from the stream's next LBA (R435). -/
def placeStream (t : Nat) (c : Cmd) (x : Strm) (s : State) : State :=
  let s := needContext t c.stream c.n s
  let x := s.cl.strms.get c.stream x
  if x.compressed then
    if x.next + pendingBound c.stream t s + boundSectors c.count ≤ x.stop then
      modCmd t (fun c => { c with placed := false, waitDisc := false, len := c.count }) s
    else violation t x.next s
  else if x.next + c.count ≤ x.stop then
    s |> setStrm c.stream { x with next := roundUp (x.next + c.count) 32, written := x.written + c.count }
      |> placeAt t x.next c.count |> modCmd t (fun c => { c with aux := c.count })
  else violation t x.next s

/-- A write on a legacy disc (R350): BD-R at the next writable address of an open recording range alone, BD-RE in place. -/
def placeLegacy (t : Nat) (c : Cmd) (s : State) : State :=
  let d := s.disc
  if fon FMT.page FMT.STATUS_READ_ONLY s then violation t c.lba s
  else if d.ranges.any (fun r => r.1 == c.lba && decide (c.lba + c.count ≤ r.2)) then
    s |> setDisc { d with ranges := d.ranges.map (fun r => if r.1 = c.lba then (r.1 + c.count, r.2) else r) } |> placeAt t c.lba c.count
  else match d.nwa with
    | none => placeAt t c.lba c.count s
    | some a => if c.lba = a then s |> setDisc { s.disc with nwa := some (a + c.count) } |> placeAt t c.lba c.count else violation t c.lba s

/-- A write's rules at intake (R347, R352, R354, R435). -/
def placeWrite (t : Nat) (c : Cmd) (s : State) : State :=
  if legacyDisc s then placeLegacy t c s
  else
    let strm := if c.stream = 0 then none else s.cl.strms.find c.stream
    let first := match strm with | some x => x.next | none => c.lba
    let sides := sidesOf first (match strm with | some x => if x.compressed then boundSectors c.count else c.count | none => c.count)
    if sides.any (fun d => sealState d s == 3) then endNow t 0x51 s
    else if sides.any (fun d => sealedFor d s) then violation t first s
    else match strm with
      | some x => placeStream t c x s
      | none =>
        if c.stream ≠ 0 then violation t c.lba s
        else if c.lba / 32 < fget ENC.page ENC.FRONTIER s then violation t c.lba s
        else s |> setFrontier ((c.lba + c.count - 1) / 32 + 1) |> placeAt t c.lba c.count

/-! ## Opening (R434) -/

/-- The lowest unused stream ID whose bits 7 to 0 are not zero. -/
def newStreamId (s : State) : Nat :=
  ((List.range 65536).find? (fun i => i % 256 ≠ 0 && (s.cl.strms.find i).isNone)).getD 0

/-- A stream opened (R434). -/
def openStream (t : Nat) (c : Cmd) (s : State) : State :=
  let k := c.lba / 32
  if k < fget ENC.page ENC.FRONTIER s then violation t c.lba s
  else
    let i := newStreamId s
    s |> setFrontier (k + c.count)
      |> setStrm i { first := c.lba, stop := c.lba + 32 * c.count, next := c.lba, compressed := bit c.arg0 0, level := slice c.arg0 4 1 }
      |> modCmd t (fun c => { c with aux := i, ended := true, waitDisc := false }) |> showStreams |> needContext t i c.n

end Sys2Proof.Machine
end

