-- ==== Sys2Proof/Machine/Intake.lean ====
section
/-!
DEFINITION. The intake: SUBMIT and its checks, acceptance, what each opcode does at once, aborts and restarts
(R414 to R421, R437 to R445, R590).
-/
namespace Sys2Proof.Machine

/-! ## The checks of R418 -/

/-- A disc that commands wait for: one is being mounted, or the drive is not ready yet (R432, R565). -/
def discAwaited (s : State) : Bool := fget FMT.page FMT.STATUS_STATE s == 1 || decide (fget DEV.page DEV.STATUS_BOOT_STATE s < 3)

/-- The range of a command passes the last LBA of the mounted disc. -/
def pastEnd (c : Cmd) (s : State) : Bool :=
  let last := fget FMT.page FMT.LAST_LBA s
  let n := if c.op = 5 then 32 * c.count else c.count
  discMounted s && (((c.reads || (c.op == 2 && c.stream == 0)) && decide (last < c.lba + n - 1)) || (c.op == 5 && decide (last + 1 < c.lba + n)))

/-- Code 5 of R418. -/
def invalid (c : Cmd) (s : State) : Bool :=
  let usesStream := (c.op == 1 || c.op == 2) && c.stream != 0
  c.op == 0 || decide (12 < c.op) || decide (64 ≤ c.flags) || (c.job.isNone && !ringOn c.cq s) || (c.clustered && c.count == 0) || pastEnd c s ||
    (c.op == 2 && bit c.flags 1 && decide (65536 < c.count)) ||
    ((c.op == 5 || c.op == 6 || usesStream) && discMounted s && legacyDisc s) ||
    (usesStream && (s.cl.strms.find c.stream).isNone) || (c.op == 5 && decide (c.lba % 32 ≠ 0)) ||
    (c.op == 7 && match c.offload with | some o => decide (2 ^ 24 < o.srcLen) || decide (2 ^ 25 < o.dstLen) | none => false) ||
    (c.op == 12 && decide (4 < c.arg0 % 8))

/-- A tag that a requester may not take: in use, or kept for the policy cores (R420). -/
def tagTaken (t req : Nat) (s : State) : Bool :=
  let a := fget TRF.page TRF.FW_TAGS_FIRST s
  let n := fget TRF.page TRF.FW_TAGS_COUNT s
  (s.cl.cmds.find t).isSome || (decide (a ≤ t) && decide (t < a + n) && !(decide (4 ≤ req) && decide (req ≤ 7)))

/-- RESULT.CODE of a SUBMIT (R418). -/
def intakeCode (t : Nat) (early : Bool) (c : Cmd) (s : State) : Nat :=
  if early then 1
  else if (s.cl.frozen.find c.req).isSome then 2
  else if 4096 ≤ s.cl.order.length then 3
  else if tagTaken t c.req s then 4
  else if invalid c s then 5
  else if c.op = 5 && decide (16384 ≤ s.cl.strms.length) then 6
  else 0

/-! ## Acceptance (R417, R421, R590) -/

/-- The LFSR advanced once. -/
def lfsrStep (x : Nat) : Nat :=
  let b := (bit x 31 != bit x 21) != (bit x 1 != bit x 0)
  (2 * x + b2n b) % 2 ^ 32

/-- The bit of OPMASK for an opcode. -/
def opClass (op : Nat) : Nat := if op = 1 then 0 else if op = 2 then 1 else if op = 3 then 2 else 3

/-- Tagging of a command accepted (R590, R591). -/
def tagging (t op : Nat) (s : State) : State :=
  let p := PMC.page
  if !fon p PMC.TAG_CFG_EN s then s
  else
    let x := lfsrStep s.cl.lfsr
    let s := setCl { s.cl with lfsr := x } s
    let n := fget p PMC.REC_RESERVED s
    if !bit (fget p PMC.TAG_CFG_OPMASK s) (opClass op) || x % 2 ^ fget p PMC.TAG_CFG_RATE_EXP s ≠ 0 then s
    else if 64 ≤ n then s |> cnt p PMC.TAG_MISSED PMC.kCNT_SAT |> sticky p PMC.kREC_FULL
    else s |> modCmd t (fun c => { c with slot := some ((fget p PMC.REC_HEAD s + n) % 64) })
      |> fset p PMC.REC_RESERVED (n + 1) |> cnt p PMC.TAGGED_CNT PMC.kCNT_SAT

/-- A SUBMIT's answer shown. -/
def showResult (code t req : Nat) (s : State) : State :=
  s |> fset TRF.page TRF.RESULT_CODE code |> fset TRF.page TRF.RESULT_TAG t |> fset TRF.page TRF.RESULT_REQ req

/-- A command accepted: its tag is taken and SEQ assigned. -/
def accept (t : Nat) (c : Cmd) (s : State) : State :=
  let p := TRF.page
  let n := s.cl.n + 1
  let k := s.claim claimTrf
  let s := s |> setCl { s.cl with n := n, cmds := s.cl.cmds.insert t { c with n := n, time := s.time }, order := s.cl.order ++ [t] }
    |> setClaim claimTrf (if k.holder = some c.req then { k with count := k.count + 1 } else k)
    |> showResult 0 t c.req |> fset p TRF.SEQ n |> cnt p TRF.ACCEPT_CNT TRF.kCNT_SAT |> pmc 0x02 c.req 1
  let m := s.cl.order.length
  s |> fset p TRF.STATUS_OUTSTANDING m |> fmax p TRF.OUTSTANDING_MAX m
    |> (if m = 4096 then raise p TRF.iTAGS_FULL else id) |> tagging t c.op

/-- The command fields as they stand, for a SUBMIT (R415). -/
def fieldsOf (req op : Nat) (s : State) : Cmd :=
  let p := TRF.page
  let n := fget p TRF.COUNT s
  { n := 0, req := req, op := op, flags := fget p TRF.CMD_FLAGS s, cq := fget p TRF.CMD_CQ s, lba := fget p TRF.LBA s, count := n,
    host := fget64 p TRF.HOST_ADDR_LO TRF.HOST_ADDR_HI s, stream := fget p TRF.STREAM s, arg0 := fget p TRF.ARG0 s, arg1 := fget p TRF.ARG1 s,
    xchk := fget64 p TRF.XCHK_LO TRF.XCHK_HI s, len := 2048 * n }

/-- A SUBMIT (R414, R417, R418): `fill` completes the command from what comes with it, `act` is what its opcode does at once. -/
def submit (op : Nat) (sub : Submit) (fill : Cmd → Cmd) (act : Nat → Cmd → State → State) (s : State) : State :=
  let p := TRF.page
  let t := sub.tag.toNat
  if !holds claimTrf sub.req s then sticky p TRF.kNOT_OWNER s
  else if !fon p TRF.CTRL_EN s then s
  else
    let s := fset p TRF.CMD_OPCODE op s
    let c := fill (fieldsOf sub.req op s)
    let code := intakeCode t sub.early c s
    if code ≠ 0 then s |> showResult code t sub.req |> cnt p TRF.REFUSE_CNT TRF.kCNT_SAT |> raise p TRF.iREFUSED
    else
      let s := accept t c s
      match s.cl.cmds.find t with
      | some c => act t c s
      | none => s

/-! ## Commands that need the disc (R418, R432, R565) -/

/-- A SEAL meets its sides (R352, R354, R573): sealed, mid-seal or open. -/
def acceptSeal (t : Nat) (c : Cmd) (s : State) : State :=
  let ds := [ 0, 1 ].filter (bit c.arg0)
  if legacyDisc s then endNow t 0x21 s
  else if ds = [] then endNow t 0x00 s
  else ds.foldl (fun u d =>
    if sealState d u = 2 then modCmd t (fun c => { c with sides := c.sides.insert d (2, 0), outcomes := c.outcomes ++ [0x21] }) u
    else if sealState d u = 3 then modCmd t (fun c => { c with sides := c.sides.insert d (1, 0) }) u
    else u |> setDisc { u.disc with sealWait := setBit u.disc.sealWait d } |> modCmd t (fun c => { c with sides := c.sides.insert d (0, 0) }))
    (modCmd t (fun c => { c with waitDisc := false }) s)

/-- A command that needs the mounted disc begins. A range that passes the last LBA of a disc mounted after its acceptance
completes ABORTED. -/
def withDisc (t : Nat) (s : State) : State :=
  match s.cl.cmds.find t with
  | none => s
  | some c =>
    if c.op = 4 then acceptSeal t c s
    else if pastEnd c s then endNow t 0x20 (modCmd t (fun c => { c with waitDisc := false }) s)
    else if c.op = 5 then openStream t c s
    else if c.op = 2 then placeWrite t c s
    else if c.inflates then s |> placeAt t c.lba c.count |> needContext t c.stream c.n
    else placeAt t c.lba c.count s

/-- An unload whose first step was run is in progress (R474). -/
def unloadPend (s : State) : Bool := match s.port.unload with | some u => u.pend | none => false

/-- A command that needs a disc, at acceptance; from an unload's first step it completes MEDIUM_ABSENT (R474). -/
def needDisc (t : Nat) (_ : Cmd) (s : State) : State :=
  if unloadPend s then endNow t 0x50 s
  else if discMounted s then withDisc t s
  else if discAwaited s then modCmd t (fun c => { c with waitDisc := true, placed := false }) s
  else endNow t 0x50 s

/-- READ (R415, R427). -/
def execRead (sub : Submit) (s : State) : Res := .next (submit 1 sub id needDisc s)
/-- WRITE (R347, R435). -/
def execWrite (sub : Submit) (s : State) : Res := .next (submit 2 sub id needDisc s)
/-- VERIFY (R415, R427). -/
def execVerify (sub : Submit) (s : State) : Res := .next (submit 3 sub id needDisc s)
/-- SEAL (R352 to R354). -/
def execSeal (sub : Submit) (s : State) : Res := .next (submit 4 sub id needDisc s)
/-- STREAM_OPEN (R434). -/
def execStreamOpen (sub : Submit) (s : State) : Res := .next (submit 5 sub id needDisc s)

/-- STREAM_CLOSE (R437). -/
def execStreamClose (sub : Submit) (s : State) : Res :=
  .next (submit 6 sub id (fun t c s =>
    if (s.cl.strms.find c.stream).isNone then endNow t 0x21 s else needContext t c.stream c.n s) s)

/-! ## OFFLOAD (R447) -/

/-- The offload block read: from host memory as fetched, or from buffer memory. -/
def offloadOf (c : Cmd) (block data : List Nat) (work : Nat) (s : State) : Option Offload :=
  (if c.req = 0 then some block else bufRead c.host 32 s).bind (fun b =>
    let src := ofLe (b.take 8)
    let n := ofLe ((b.drop 8).take 4)
    let d := if c.req = 0 then some (data.take n) else if 2 ^ 24 < n then some [] else bufRead src n s
    d.map (fun d => ⟨src, n, ofLe ((b.drop 12).take 4), ofLe ((b.drop 16).take 8), d, work, none⟩))

/-- OFFLOAD (R447). -/
def execOffload (sub : Submit) (block data : List (BitVec 8)) (work : BitVec 34) (s : State) : Res :=
  .next (submit 7 sub (fun c => { c with offload := offloadOf c (block.map BitVec.toNat) (data.map BitVec.toNat) work.toNat s })
    (fun t c s => if c.offload.isNone then endNow t 0x70 s else startOffloads s) s)

/-! ## Stopping a command (R310, R354, R416, R440) -/

/-- A cluster is being recorded. -/
def inEmission (home : Nat) (s : State) : Bool := [ 0, 1 ].any (fun h => (s.rec' h).emitting.any (fun e => e.home == home))

/-- A request of a stopped command leaves the pool; SQUALL stops for a cluster that nobody needs any more, and a cluster
not begun is not recorded. -/
def dropReq (s : State) (r : ClReq) : State :=
  let s := setCl { s.cl with reqs := s.cl.reqs.erase r } s |> showPool
  if s.cl.reqs.any (fun q => q.home == r.home) then s
  else if r.write then { s with encoded := s.encoded.filter (fun e => e.home != r.home) }
  else
    let p := placeOf r.home s
    match s.dec.held.find p with
    | some x => s |> sqRelease p |> cnt DEC.page DEC.SQ_ABANDONED DEC.kCNT_SAT |> emit 0x400D srcDecode p x.rung x.reads
    | none => s

/-- A stopped command's requests: what is being recorded stays, what has been recorded counts as recorded. -/
def stopReq (s : State) (r : ClReq) : State :=
  if r.write && r.recorded then takeEnd { kind := .written } s r
  else if r.write && inEmission r.home s then s
  else dropReq s r

/-- A self-test ends (R445). -/
def endTest (t code : Nat) (c : Cmd) (s : State) : State :=
  s |> setCl { s.cl with test := none } |> endNow t code |> emit 0x5007 srcHost c.req c.arg0 code

/-- The waiting sides of a SEAL end (R354). -/
def stopSeal (t : Nat) (c : Cmd) (s : State) : State :=
  let ws := (c.sides.filter (fun kv => kv.2.1 == 0)).map Prod.fst
  s |> setDisc { s.disc with sealWait := ws.foldl clrBit s.disc.sealWait }
    |> modCmd t (fun c => { c with sides := c.sides.map (fun kv => if kv.2.1 = 0 then (kv.1, (2, kv.2.2)) else kv),
                                   ended := decide (c.sides = []) })

/-- A command's outcome is final (R440). -/
def isFinal (t : Nat) (c : Cmd) (s : State) : Bool :=
  c.status.isSome || c.ended || (c.clustered && clustersDone t c s) || [ 5, 6, 9, 10, 11 ].contains c.op ||
    (c.op == 4 && decide (c.sides ≠ []) && c.sides.all (fun kv => kv.2.1 != 0)) || (c.op == 12 && c.phase == 1) ||
    match c.offload with
    | some o => match o.lane with | some l => laneState l s != 1 | none => false
    | none => false

/-- A command stopped, with the outcome that goes with it (R440). -/
def stopCmd (t code : Nat) (s : State) : State :=
  match s.cl.cmds.find t with
  | none => s
  | some c =>
    if isFinal t c s || c.phase = 2 then s
    else
      let s := modCmd t (fun c => { c with phase := 2, outcomes := c.outcomes ++ [code], waitDisc := false, placed := true }) s
      let s := setCl { s.cl with ctxWait := s.cl.ctxWait.erase t } s
      if c.clustered then (s.cl.reqs.filter (fun r => r.tag == t)).foldl stopReq s
      else if c.op = 4 then stopSeal t c s
      else if c.op = 8 then endTest t code c s
      else
        let s := match c.offload with
          | some o => match o.lane with | some l => jobAbort l s | none => s
          | none => s
        let s := if c.op = 12 then s |> setCl { s.cl with deferred := none } |> fset PWR.page PWR.STATUS_DEFERRED 0 else s
        modCmd t (fun c => { c with ended := true, offload := none }) s

/-- ABORT (R440). -/
def execAbort (sub : Submit) (s : State) : Res :=
  .next (submit 9 sub id (fun t c s =>
    let x := c.arg0 % 4096
    match s.cl.cmds.find x with
    | some d =>
      if d.seq = c.arg1 && d.n ≠ c.n && !isFinal x d s && d.phase ≠ 2 then
        s |> stopCmd x 0x20 |> emit 0x5003 srcHost c.req x c.arg1 |> modCmd t (fun c => { c with ended := true })
      else endNow t 0x21 s
    | none => endNow t 0x21 s) s)

/-- HOST_DMA_FAILED (R416). -/
def execHostDmaFailed (tag : BitVec 12) (kind : Fin 3) (s : State) : Res :=
  let t := tag.toNat
  match s.cl.cmds.find t with
  | none => .next s
  | some c =>
    if c.req ≠ 0 || isFinal t c s || c.phase = 2 then .next s
    else .next (s |> stopCmd t 0x20 |> modCmd t (fun c => { c with aux := 0xFFFF0002 }) |> emit 0x500C srcHost c.req t kind)

/-! ## Descriptor lists (R416) -/

/-- A broken list ends its command. -/
def badList (t i : Nat) (c : Cmd) (s : State) : State :=
  s |> stopCmd t 0x20 |> modCmd t (fun c => { c with aux := 0xFFFF0001 }) |> emit 0x500B srcHost c.req t i

/-- One entry taken; `i` is its index. -/
def takeDescriptor (t i : Nat) (d : Descriptor) (s : State) : State :=
  match s.cl.cmds.find t with
  | none => s
  | some c =>
    if c.phase = 2 || c.segEnd then s
    else if bit d.flags.toNat 1 then
      if 4096 ≤ c.links then badList t i c s else setCmd t { c with links := c.links + 1 } s
    else
      let sum := c.segs.foldl (fun a x => a + x.2) 0 + d.len.toNat
      let last := bit d.flags.toNat 0
      if d.len = 0 || 65536 ≤ c.segs.length || c.len < sum || (last && sum ≠ c.len) then badList t i c s
      else s |> setCmd t { c with segs := c.segs ++ [(d.addr.toNat, d.len.toNat)], segEnd := last } |> transferAll t

/-- The entries taken in turn. -/
def takeDescriptors (t : Nat) : Nat → List Descriptor → State → State
  | _, [], s => s
  | i, d :: ds, s => takeDescriptors t (i + 1) ds (takeDescriptor t i d s)

/-- DESCRIPTOR_FETCH (R416). -/
def execDescriptorFetch (tag : BitVec 12) (entries : List Descriptor) (s : State) : Res :=
  let t := tag.toNat
  match s.cl.cmds.find t with
  | some c => .next (if bit c.flags 0 && (c.req ≠ 0 || mayDma s) then takeDescriptors t (c.segs.length + c.links) entries s else s)
  | none => .next s

/-! ## Self-tests (R444, R445) -/

/-- Segments a test runs. -/
def testSegments (x : SelfTest) (s : State) : Nat := if !discMounted s then 1 else if x.extended then 4 else 3

/-- A self-test starts. -/
def startTest (extended : Bool) (plan : List Nat) (t : Nat) (c : Cmd) (s : State) : State :=
  if s.cl.test.isSome then endNow t 0x20 s
  else if extended && !discMounted s then endNow t 0x50 s
  else s |> setCl { s.cl with test := some { tag := t, extended := extended, plan := plan } } |> emit 0x5007 srcHost c.req c.arg0 0xFF

/-- Another command is outstanding (R445). -/
def othersOutstanding (t : Nat) (s : State) : Bool :=
  s.cl.cmds.any (fun kv => kv.1 != t && kv.2.op != 8 && kv.2.op != 12)

/-- A running test runs to its end unless it yields: the first segment that fails ends it. -/
def runTest (t : Nat) (c : Cmd) (s : State) : State :=
  match s.cl.test with
  | none => s
  | some x =>
    if x.tag ≠ t then s
    else if othersOutstanding t s then setCl { s.cl with test := some { x with yielding := true } } s
    else if x.yielding then s
    else
      let n := testSegments x s
      let bad := (List.range n).find? (fun i => x.plan.getD i 0 ≠ 0)
      let code := match bad with | some i => x.plan.getD i 0 | none => 0
      let aux := match bad with | some i => i + 1 + 256 * (i + 1) | none => n
      s |> modCmd t (fun c => { c with aux := aux }) |> endTest t code c

/-- SELF_TEST_SHORT (R444). -/
def execSelfTestShort (sub : Submit) (plan : List (BitVec 8)) (s : State) : Res :=
  .next (submit 8 sub (fun c => { c with arg0 := 1 }) (startTest false (plan.map BitVec.toNat)) s)

/-- SELF_TEST_EXTENDED (R444). -/
def execSelfTestExtended (sub : Submit) (plan : List (BitVec 8)) (s : State) : Res :=
  .next (submit 8 sub (fun c => { c with arg0 := 2 }) (startTest true (plan.map BitVec.toNat)) s)

/-- SELF_TEST_STOP (R445). -/
def execSelfTestStop (sub : Submit) (s : State) : Res :=
  .next (submit 8 sub (fun c => { c with arg0 := 3 }) (fun t _ s =>
    match s.cl.test with
    | some x => s |> stopCmd x.tag 0x20 |> endNow t 0x00
    | none => endNow t 0x21 s) s)

/-- SELF_TEST_YIELD_END (R445). -/
def execSelfTestYieldEnd (s : State) : Res :=
  match s.cl.test with
  | some x => .next (if othersOutstanding x.tag s then s else setCl { s.cl with test := some { x with yielding := false } } s)
  | none => .next s

/-! ## COMPLETION_POST (R422, R426) -/

/-- COMPLETION_POST: what the command can still do is done; once its outcome is final, its entry is posted or waits. -/
def execCompletionPost (tag : BitVec 12) (fails : List Bool) (s : State) : Res :=
  let t := tag.toNat
  let s := progress t s
  let s := match s.cl.cmds.find t with | some c => if c.op = 8 && !c.ended then runTest t c s else s | none => s
  match s.cl.cmds.find t with
  | none => .next s
  | some c =>
    if !finished t c s || c.phase = 3 then .next s
    else .next (s |> finalise t c |> post t (fails.headD false))

/-! ## Restarts (R442) -/

/-- RESTART of a frozen requester, ending the commands that `pick` names as though aborted. -/
def restart (req action : Nat) (pick : Cmd → Bool) (s : State) : State :=
  match s.cl.frozen.find req with
  | none => s
  | some _ =>
    let ts := s.cl.order.filter (fun t => match s.cl.cmds.find t with | some c => c.req == req && pick c && !isFinal t c s | none => false)
    let s := ts.foldl (fun u t => stopCmd t 0x20 u) s
    if ts = [] then unfreeze req action 0 s
    else setCl { s.cl with restarts := s.cl.restarts.insert req ⟨action, ts, ts.length⟩ } s

/-- RESTART_RESUME. -/
def execRestartResume (req : Fin 256) (s : State) : Res := .next (restart req 1 (fun _ => false) s)
/-- DISCARD_LATER. -/
def execDiscardLater (req : Fin 256) (s : State) : Res := .next (restart req 2 (fun c => decide (s.cl.frozen.get req 0 < c.n)) s)
/-- DISCARD_ALL. -/
def execDiscardAll (req : Fin 256) (s : State) : Res := .next (restart req 3 (fun _ => true) s)

/-! ## Claims (R414, R478, R495) -/

/-- CLAIM_RELEASE: by the holder; a mailbox's while it is not full. -/
def execClaimRelease (what : ClaimOf) (req : Fin 28) (s : State) : Res :=
  let k := match what with | .trf => claimTrf | .vlq => claimVlq | .mbx m => claimMbx m
  let full := match what with | .mbx m => fon MBX.page (MBX.MSTAT_FULL.ix m) s | _ => false
  .next (if holds k req s && !full then releaseClaim k s else s)

end Sys2Proof.Machine
end

