-- ==== Sys2Proof/Machine/First.lean ====
section
/-!
DEFINITION. The first recording on a blank disc and the descriptor the vault decides for it (R349, R511, R575).
-/
namespace Sys2Proof.Machine

/-- The state of a new disc's Encryption Descriptor (R511); an unclaimed device makes plaintext discs (R508). -/
def newDiscState (s : State) : Nat :=
  let asked := s.vault.prepare.map Prod.fst
  if ownerState s = 0 then 0
  else if s.vault.policy.newDisc = 0 then (if asked = some 1 then 1 else 0)
  else if s.vault.policy.newDisc = 1 then (if asked = some 0 then 0 else 1)
  else 1

/-- The wrap key identifier for a new disc: the named one, or the default (R511). -/
def newDiscWrap (s : State) : List Nat :=
  match s.vault.prepare with
  | some (_, i) => if i.all (· == 0) then s.vault.policy.dflt else i
  | none => s.vault.policy.dflt

/-- A fresh 64-byte disc key whose halves differ (R511). -/
def drawKey (k : List Nat → State → State) (s : State) : State :=
  withFree (fun a t => withFree (fun b u =>
    let x := leBytes 32 a
    let y := leBytes 32 b
    k (x ++ (if y = x then y.mapIdx (fun i v => if i = 0 then (v + 1) % 256 else v) else y)) u) t) s

/-- A descriptor decided: it governs the disc, and the key follows (R511, R514; event 0x600A). -/
def adoptDescr (d : Descr) (s : State) : State :=
  s |> setVault { s.vault with descr := some d } |> setDisc { s.disc with enc := some d.state } |> showDescr
    |> emit 0x600A srcVault 0xFF d.state (ofLe (d.wrapId.take 4)) |> keyDecision

/-- The vault decides the descriptor of the disc; none where its wrap key is not held. -/
def decideDescr (s : State) : Option State :=
  let owner := if ownerState s = 0 then List.replicate 64 0 else ownerHash s
  if newDiscState s = 0 then some (adoptDescr ⟨0, List.replicate 16 0, List.replicate 72 0, owner, 0⟩ s)
  else
    match s.vault.wraps.find? (fun w => w.1 = newDiscWrap s) with
    | none => none
    | some (i, kek) => some (drawKey (fun key t => adoptDescr ⟨1, i, kwWrap kek key, owner, b2n (policyFlag 0 t)⟩ t) s)

/-- The payload of the Disc Identity: variant, Disc ID, serial number, operating time and power cycles (R64). -/
def identityPayload (s : State) : List Nat :=
  [ s.disc.variant ] ++ beBytes 8 s.disc.id ++ beBytes 4 (fget DEV.page DEV.SERIAL_HI s) ++ beBytes 4 (fget DEV.page DEV.SERIAL_LO s) ++
    beBytes 4 (fget DEV.page DEV.OP_TIME s) ++ beBytes 3 (fget DEV.page DEV.POWER_CYCLES s)

/-- The payload of an Encryption Descriptor (R64). -/
def descrPayload (d : Descr) : List Nat := [ d.state ] ++ d.wrapId ++ d.wrapped ++ d.owner ++ beBytes 4 d.flags

/-- A side's Disc Identity recorded where it lacks one: the payload of the other side's, if there is one. -/
def recordIdentity (side : Nat) (s : State) : State :=
  if bit s.disc.identities side then s
  else
    let p := match s.disc.blocks.find? (fun b => b.type == 1) with
      | some b => (b.payload.drop 64).take 24
      | none => identityPayload s
    (recordBlock side 0 1 0 1 p false s).elim s (fun t => setDisc { t.disc with identities := setBit t.disc.identities side } t)

/-- The descriptor recorded on the seal layers of a side that lack it (R349, R575). -/
def recordDescr (side : Nat) (s : State) : State :=
  match s.vault.descr with
  | none => s
  | some d => (sealLayers s.disc.variant).foldl (fun t l =>
      if bit t.disc.descriptors (8 * side + l) then t
      else (recordBlock side l 2 l 1 (descrPayload d) false t).elim t
        (fun u => setDisc { u.disc with descriptors := setBit u.disc.descriptors (8 * side + l) } u)) s

/-- Writes that wait for their recording complete POLICY_DENIED (R511). -/
def denyWrites (s : State) : State :=
  let ts := (s.cl.reqs.filter (fun r => r.write && r.queued.isSome)).map (fun r => r.tag)
  s.cl.order.foldl (fun t x => if ts.contains x then stopCmd x 0x41 t else t) s

/-- The records of R349 and R575 that the disc lacks, on each side with a head in service. -/
def firstRecords (s : State) : State :=
  let sides := [ 0, 1 ].filter (fun d => inService d s)
  let new := s.disc.identities = 0
  let fresh := sides.filter (fun d => !bit s.disc.identities d)
  let s := if new && s.disc.id = 0 then withFree (fun i t => t |> setDisc { t.disc with id := i % 2 ^ 64 }
      |> fset64 FMT.page FMT.DISC_ID_LO FMT.DISC_ID_HI (i % 2 ^ 64)) s else s
  let s := sides.foldl (fun t d => recordIdentity d t) s
  let s := sides.foldl (fun t d => recordDescr d t) s
  let s := if new then (checkpoint fresh 0 s).getD s else s
  fset FMT.page FMT.STATUS_BLANK 0 s

/-- FIRST_RECORDING (R349, R511, R575). Without a valid descriptor on a disc that holds user clusters nothing is recorded. -/
def execFirstRecording (s : State) : Res :=
  .next (if fget FMT.page FMT.STATUS_STATE s ≠ 2 || legacyDisc s || !unidentified s then s
    else if s.vault.descr.isSome then firstRecords s
    else if s.disc.userWritten then s
    else match decideDescr s with
      | some t => firstRecords t
      | none => denyWrites s)

end Sys2Proof.Machine
end

