-- ==== Sys2Proof/Machine/Power.lean ====
section
/-!
DEFINITION. Power modes, thermal stepping, supply supervision, the PMBus and the clocks (R446, R529 to R552).
-/
namespace Sys2Proof.Machine

/-- Power management's record set. -/
def setPwr (v : PwrSt) (s : State) : State := { s with pwr := v }

/-! ## Modes (R529, R530) -/

/-- The mode in force: 0 GALE, 1 BREEZE, 2 ZEPHYR, 3 CALM, 4 LULL. -/
def modeNow (s : State) : Nat := fget PWR.page PWR.STATUS_MODE s
/-- The thermal ceiling: 0 none, 1 BREEZE, 3 CALM. -/
def ceilingNow (s : State) : Nat := fget PWR.page PWR.STATUS_CEILING s
/-- The slower of the requested active mode and the ceiling. -/
def activeMode (s : State) : Nat := max (fget PWR.page PWR.STATUS_REQ s) (ceilingNow s)

/-- Outstanding commands, SET_MODE and self-tests apart (R446). -/
def outstanding (s : State) : List Nat :=
  s.cl.order.filter (fun t => match s.cl.cmds.find t with | some c => c.op != 12 && c.op != 8 | none => false)

/-- SET_MODE commands whose entry has begun, and whose mode `p` picks, complete. -/
def endModes (p : Nat → Bool) (s : State) : State :=
  s.cl.order.foldl (fun t x =>
    match t.cl.cmds.find x with
    | some c => if c.op = 12 && c.phase = 1 && !c.ended && p (c.arg0 % 8) then endNow x 0x00 t else t
    | none => t) s

/-- A transition begins. -/
def beginTrans (dst : Nat) (s : State) : State :=
  s |> setPwr { s.pwr with trans := some ⟨modeNow s, dst, s.time⟩ } |> fset PWR.page PWR.STATUS_TRANSITION 1

/-- The mode a transition leads to. -/
def transDst (s : State) : Option Nat := s.pwr.trans.map Trans.dst

/-- In CALM the SATA port enters Partial or Slumber itself while PM_EN is 1 and the host has enabled it: which is left open
(R463). It is active again in an active mode. -/
def sataPower (m : Nat) (s : State) : State :=
  let p := SATA.page
  if m = 3 && fon p SATA.CTRL_PM_EN s && s.port.ataPm && fon p SATA.STATUS_PHY_RDY s then
    withFree (fun k t => fset p SATA.STATUS_PM (1 + k % 2) t) s
  else if m ≤ 2 then fset p SATA.STATUS_PM 0 s
  else s

/-- A mode is reached (R531 to R534; event 0x1000). -/
def modeReached (m : Nat) (s : State) : State :=
  let p := PWR.page
  let old := match s.pwr.trans with | some t => t.src | none => modeNow s
  let ms := match s.pwr.trans with | some t => (s.time - t.start) / 25000 | none => 0
  s |> setPwr { s.pwr with trans := none } |> fset p PWR.STATUS_MODE m |> fset p PWR.STATUS_TRANSITION 0
    |> fset p PWR.TRANS_MS (min ms 65535) |> raise p PWR.iMODE_DONE |> emit 0x1000 srcAon 0 (old + 16 * m) ms
    |> (if m ≤ 2 then powerEvent 1 1 else if m = 3 then powerEvent 1 3 else id)
    |> sataPower m |> endModes (fun k => k == m || (decide (m ≤ 2) && decide (k ≤ 2)))

/-- A change of the active mode in force (R531): MAX_ITER, suspension with cause 3, the new mode's speed. -/
def activeChange (s : State) : State :=
  let m := activeMode s
  if 2 < m || 2 < modeNow s || !discMounted s || transDst s = some 3 then s
  else if (transDst s).getD (modeNow s) = m then s
  else
    s |> beginTrans m |> fset DEC.page DEC.LDPC_CFG_MAX_ITER (if m = 2 then 40 else 20)
      |> suspend 0 3 (fget (CHC.page 0) CHC.CSLOT s) |> suspend 1 3 (fget (CHC.page 1) CHC.CSLOT s)
      |> fset SPN.page SPN.TARGET_RPM (readRpm m) |> wantSpeed (readRpm m) |> fset SPN.page SPN.STATUS_SPEED_OK 0

/-- ACTIVE_MODE_CHANGE (R531). -/
def execActiveModeChange (s : State) : Res := .next (activeChange s)

/-- MODE_REACHED (R531): SPEED_OK after a change of the active mode. -/
def execModeReached (s : State) : Res :=
  .next (match s.pwr.trans with
    | some t => if t.src ≤ 2 && t.dst ≤ 2 && fon SPN.page SPN.STATUS_SPEED_OK s then modeReached t.dst s else s
    | none => s)

/-! ## Mode requests (R446) -/

/-- A deferred request is replaced: its SET_MODE completes ABORTED. -/
def dropDeferred (s : State) : State :=
  match s.cl.deferred with
  | some (_, tag) =>
    s |> setCl { s.cl with deferred := none } |> fset PWR.page PWR.STATUS_DEFERRED 0
      |> (match tag with | some t => fun u => u |> endNow t 0x20 |> powerEvent 2 (if modeNow u ≤ 2 then 1 else 3) | none => id)
  | none => s

/-- The request's SET_MODE completes GOOD. -/
def modeDone (tag : Option Nat) (s : State) : State := match tag with | some t => endNow t 0x00 s | none => s
/-- The request's entry has begun (R440). -/
def modeBegun (tag : Option Nat) (s : State) : State :=
  match tag with | some t => modCmd t (fun c => { c with phase := 1 }) s | none => s

/-- Entry to CALM or LULL begins; a self-test completes ABORTED. -/
def enterRest (k : Nat) (tag : Option Nat) (s : State) : State :=
  let s := s |> setCl { s.cl with deferred := none } |> fset PWR.page PWR.STATUS_DEFERRED 0
  let s := match s.cl.test with
    | some x => (match s.cl.cmds.find x.tag with | some c => endTest x.tag 0x20 c s | none => s)
    | none => s
  s |> setPwr { s.pwr with rest := some k } |> modeBegun tag

/-- A mode request (R446, R530). Without a disc, or under a CALM ceiling, an active mode is only kept as requested. -/
def askMode (k : Nat) (force : Bool) (tag : Option Nat) (s : State) : State :=
  let s := dropDeferred s
  if k ≤ 2 then
    let s := s |> fset PWR.page PWR.STATUS_REQ k |> setPwr { s.pwr with asked := true, rest := none }
    if !discMounted s || ceilingNow s = 3 || (modeNow s = activeMode s && s.pwr.trans.isNone) then modeDone tag s
    else s |> modeBegun tag |> activeChange
  else if modeNow s = k && s.pwr.trans.isNone then s |> setPwr { s.pwr with rest := some k } |> modeDone tag
  else
    let s := if force then (outstanding s).foldl (fun t x => stopCmd x 0x20 t) s else s
    if outstanding s = [] then enterRest k tag s
    else s |> setCl { s.cl with deferred := some (k, tag) } |> fset PWR.page PWR.STATUS_DEFERRED 1

/-- SET_MODE (R446). -/
def execSetMode (sub : Submit) (s : State) : Res :=
  .next (submit 12 sub id (fun t c u => askMode (c.arg0 % 8) (bit c.arg0 8) (some t) u) s)

/-- A GO of PWR.MODE_REQ (R530): a mode above 4 is ignored. -/
def pwrRequest (s : State) : State :=
  let k := fget PWR.page PWR.MODE_REQ_MODE s
  if 4 < k then sticky PWR.page PWR.kMODE_REJ s else askMode k (fon PWR.page PWR.MODE_REQ_FORCE s) none s

/-- PWR_MODE_REQ (R530). -/
def execPwrModeReq (mode : BitVec 3) (force : Bool) (s : State) : Res :=
  .next (s |> fset PWR.page PWR.MODE_REQ_MODE mode.toNat |> fsetB PWR.page PWR.MODE_REQ_FORCE force |> pwrRequest)

/-- MODE_ENTRY_DEFERRED (R446): the last outstanding command has completed. -/
def execModeEntryDeferred (s : State) : Res :=
  .next (match s.cl.deferred with
    | some (k, tag) => if outstanding s = [] then enterRest k tag s else s
    | none => s)

/-- MODE_DEFER_TIMEOUT (R446). -/
def execModeDeferTimeout (s : State) : Res :=
  .next (match s.cl.deferred with
    | some (k, tag) =>
      let r := match tag.bind s.cl.cmds.find with | some c => c.req | none => 0xFF
      emit 0x5008 srcHost r k (outstanding s).length s
    | none => s)

/-! ## The PMBus (R548 to R551) -/

/-- A transaction that failed after its retries (R549; event 0x1021). -/
def pmbFail (entry code : Nat) (s : State) : State :=
  s |> raise PWR.page PWR.iPMB_FAULT |> fault PWR.page 0x01 |> emit 0x1021 srcAon 0 entry code

/-- A write to a regulator, or its failure. -/
def pmbWrite (r code data : Nat) (fails : List (Fin 8)) (s : State) : State :=
  if fails.any (fun f => f.val == r) then pmbFail r code s
  else send (.pmbus (fget PWR.page (PWR.REG_CFG_ADDR.ix r) s) code data) s

/-- The action of an entry: none for an entry not in use or one that names a rail of the device (R549). -/
def railAct (lull : Bool) (r : Nat) (s : State) : Nat :=
  let k := fget PWR.page (PWR.REG_CFG_RAIL.ix r) s
  if !fon PWR.page (PWR.REG_CFG_VALID.ix r) s || (1 ≤ k && k ≤ 9) then 0
  else fget PWR.page ((if lull then PWR.REG_CFG_LULL_ACT else PWR.REG_CFG_CALM_ACT).ix r) s

/-- An entry's action applied: OPERATION off, or VOUT_COMMAND with VOUT_LOW in mV. -/
def railDown (lull : Bool) (fails : List (Fin 8)) (s : State) (r : Nat) : State :=
  let a := railAct lull r s
  if a = 1 then pmbWrite r 0x01 0x00 fails s
  else if a = 2 then
    s |> setPwr { s.pwr with vout := s.pwr.vout.put r (fget PWR.page (PWR.VOUT.ix r) s) 0 }
      |> pmbWrite r 0x21 (fget PWR.page (PWR.VOUT_LOW.ix r) s) fails
  else s

/-- An entry restored. -/
def railUp (lull : Bool) (fails : List (Fin 8)) (s : State) (r : Nat) : State :=
  let a := railAct lull r s
  if a = 1 then pmbWrite r 0x01 0x80 fails s
  else if a = 2 then pmbWrite r 0x21 (s.pwr.vout.get r 0) fails s
  else s

/-- The actions of a mode applied, in descending entry order. -/
def railsDown (lull : Bool) (fails : List (Fin 8)) (s : State) : State := [ 7, 6, 5, 4, 3, 2, 1, 0 ].foldl (railDown lull fails) s
/-- The entries restored, in ascending order. -/
def railsUp (lull : Bool) (fails : List (Fin 8)) (s : State) : State := (List.range 8).foldl (railUp lull fails) s

/-- A STATUS_WORD read; any of bits 15 to 1 is a fault (R550). -/
def pmbStatus (r w : Nat) (s : State) : State :=
  let s := fset PWR.page (PWR.STATUS_WORD.ix r) w s
  if w / 2 = 0 then s
  else s |> raise PWR.page PWR.iPMB_FAULT |> cnt PWR.page (PWR.FAULT_CNT.ix r) PWR.kCNT_SAT |> emit 0x1020 srcAon 0 r w

/-- One entry's reading. -/
def pmbRead (s : State) (x : PmbRead) : State :=
  let r := x.entry.val
  if !x.ok then pmbFail r 0x79 s
  else s |> pmbStatus r x.status.toNat |> fset PWR.page (PWR.VOUT.ix r) x.vout.toNat |> fset PWR.page (PWR.IOUT.ix r) x.iout.toNat

/-- PMBUS_POLL (R550). -/
def execPmbusPoll (reads : List PmbRead) (s : State) : Res :=
  .next (if !fon PWR.page PWR.PMB_CFG_EN s || fget PWR.page PWR.PMB_CFG_POLL_MS s = 0 then s
    else (reads.filter (fun x => fon PWR.page (PWR.REG_CFG_VALID.ix x.entry) s && fon PWR.page (PWR.REG_CFG_POLL.ix x.entry) s)).foldl pmbRead s)

/-- PMB_ALERT (R550): STATUS_WORD of every valid entry. -/
def execPmbAlert (words : List (Fin 8 × BitVec 16)) (s : State) : Res :=
  .next (if !fon PWR.page PWR.PMB_CFG_EN s then s
    else (words.filter (fun x => fon PWR.page (PWR.REG_CFG_VALID.ix x.1) s)).foldl (fun t x => pmbStatus x.1 x.2.toNat t) s)

/-- A GO of PMB_CMD (R551): the raw transaction begins. -/
def pmbGo (s : State) : State :=
  let p := PWR.page
  if fon p PWR.PMB_STATUS_BUSY s then sticky p PWR.kPMB_REJ s
  else s |> fset p PWR.PMB_STATUS_BUSY 1
    |> (if fon p PWR.PMB_CMD_READ s then id else
      send (.pmbus (fget p PWR.PMB_CMD_ADDR s) (fget p PWR.PMB_CMD_CODE s) (fget p PWR.PMB_DATA s % 256 ^ fget p PWR.PMB_CMD_LEN s)))

/-- The raw transaction ends. -/
def pmbEnd (e : PmbEnd) (s : State) : State :=
  let p := PWR.page
  if !fon p PWR.PMB_STATUS_BUSY s then s
  else
    let bad := e.nack || e.pecErr || e.timeout
    s |> fset p PWR.PMB_STATUS_BUSY 0 |> fsetB p PWR.PMB_STATUS_NACK e.nack |> fsetB p PWR.PMB_STATUS_PEC_ERR e.pecErr
      |> fsetB p PWR.PMB_STATUS_TIMEOUT e.timeout
      |> (if fon p PWR.PMB_CMD_READ s && !bad then fset p PWR.PMB_DATA (e.data.toNat % 256 ^ fget p PWR.PMB_CMD_LEN s) else id)
      |> (if e.nack then sticky p PWR.kPMB_NACK else id) |> (if e.pecErr then sticky p PWR.kPMB_PEC else id)
      |> (if bad then pmbFail 0xFF (fget p PWR.PMB_CMD_CODE s) else id) |> raise p PWR.iPMB_DONE

/-- PMB_CMD (R551): GO, or the end of the transaction with its result. -/
def execPmbCmd (result : Option PmbEnd) (s : State) : Res := .next (match result with | some e => pmbEnd e s | none => pmbGo s)

/-! ## CALM (R532, R533) -/

/-- A head's links disabled. -/
def linksDown (h : Nat) (s : State) : State :=
  s |> fset (HSL.page h 0) HSL.CTRL_EN 0 |> fset (HSL.page h 1) HSL.CTRL_EN 0 |> fset (HTX.page h) HTX.CTRL_EN 0
    |> fset (ACL.page h) ACL.CTRL_EN 0 |> groupState h 0

/-- A head's links enabled. -/
def linksUp (h : Nat) (s : State) : State :=
  s |> fset (HSL.page h 0) HSL.CTRL_EN 1 |> fset (HSL.page h 1) HSL.CTRL_EN 1 |> fset (HTX.page h) HTX.CTRL_EN 1
    |> fset (ACL.page h) ACL.CTRL_EN 1 |> startGroup h

/-- A head parked and its sled in HOLD (R532 step 2). -/
def parkHead (h : Nat) (s : State) : State :=
  s |> parkLoop h 1 |> parkLoop h 2 |> parkLoop h 0 |> fset (SLD.page h) SLD.CTRL_FOLLOW 0
    |> (if fget (SLD.page h) SLD.STATUS_STATE s = 3 then sledSt h 1 else id)

/-- The spindle is below 60 rpm with its gates off. -/
def spinAtRest (s : State) : Bool := s.spin.rest && (getSpin s == 0 || getSpin s == 8)

/-- Entry to CALM as far as it can go now: recordings end, the heads park and the spindle stops, then the links go down. -/
def calmStep (fails : List (Fin 8)) (s : State) : State :=
  let s := if transDst s = some 3 then s else beginTrans 3 s
  if writing 0 s || writing 1 s then s
  else
    let turning := 1 ≤ getSpin s && getSpin s ≤ 5
    let s := if turning then s |> parkHead 0 |> parkHead 1 |> stopSpin else s
    if spinAtRest s then s |> linksDown 0 |> linksDown 1 |> railsDown false fails |> modeReached 3 else s

/-- CALM_ENTRY (R532): on request, or under a CALM ceiling. -/
def execCalmEntry (fails : List (Fin 8)) (s : State) : Res :=
  .next (if modeNow s ≤ 2 && (s.pwr.rest.isSome || ceilingNow s = 3 || transDst s = some 3) then calmStep fails s else s)

/-- Whether CALM ends: a cluster request needs the disc, or an active mode is requested, and the ceiling permits one. -/
def calmOver (s : State) : Bool :=
  modeNow s = 3 && discMounted s && ceilingNow s ≠ 3 && (s.pwr.rest.isNone || decide (s.cl.reqs ≠ []))

/-- A head works again, or is out of service. -/
def headBack (h : Nat) (s : State) : Bool := !inService h s || (getMcState h s == 3 && posValid h s)

/-- CALM_EXIT (R533): its start, and then its end once the links, the spindle and the loops are back. -/
def execCalmExit (fails : List (Fin 8)) (s : State) : Res :=
  if !calmOver s || transDst s = some 4 then .next s
  else match s.pwr.trans with
    | none =>
      let m := activeMode s
      .next (s |> setPwr { s.pwr with rest := none } |> beginTrans m |> railsUp false fails |> linksUp 0 |> linksUp 1
        |> fset DEC.page DEC.LDPC_CFG_MAX_ITER (if m = 2 then 40 else 20)
        |> fset SPN.page SPN.TARGET_RPM (readRpm m) |> wantSpeed (readRpm m) |> startSpin)
    | some t =>
      .next (if t.dst ≤ 2 && fon SPN.page SPN.STATUS_SPEED_OK s && headBack 0 s && headBack 1 s then
        s |> modeReached t.dst |> (if encrypted s && !keyLoaded s then keyDecision else id)
      else s)

/-! ## Thermal stepping (R538 to R540) -/

/-- A sensor's reading of 1/8 °C as the limits use it: a failed sensor reads 175 °C. -/
def judgeSensor (k raw : Nat) (s : State) : State :=
  let x := s.pwr.sensors.get k {}
  let v := toSigned 12 raw
  let out := decide (v < -400) || decide (1400 < v)
  let good := if out then 0 else if x.failed then x.good + 1 else 0
  let failed := out || (x.failed && decide (good < 4))
  let r := if failed then 1400 else v
  let run := fun (n : Nat) (lim : Int) => if lim < r then n + 1 else 0
  let y : Sensor := ⟨run x.hot125 1000, run x.hot140 1120, run x.hot150 1200, failed, if failed then good else 0, r⟩
  let p := PWR.page
  s |> setPwr { s.pwr with sensors := s.pwr.sensors.put k y {} } |> fset p (PWR.TEMP_NOW.ix k) raw
    |> (if fgetI p (PWR.TEMP_PEAK.ix k) s < v then fset p (PWR.TEMP_PEAK.ix k) raw else id)
    |> (if failed && !x.failed then emit 0x1004 srcAon k raw 0 else id)

/-- The sensor that reads highest, and its reading. -/
def hottest (s : State) : Nat × Int :=
  (List.range 8).foldl (fun b k => let r := (s.pwr.sensors.get k {}).reading; if b.2 < r then (k, r) else b) (0, (s.pwr.sensors.get 0 {}).reading)

/-- The first sensor whose limit counts as exceeded. -/
def overLimit (run : Sensor → Nat) (s : State) : Option Nat := (List.range 8).find? (fun k => decide (4 ≤ run (s.pwr.sensors.get k {})))

/-- A ceiling imposed (R539; event 0x1001). -/
def thermStep (k c : Nat) (s : State) : State :=
  let p := PWR.page
  s |> fset p PWR.STATUS_CEILING c |> cnt p (if c = 1 then PWR.THERM_STEPS else PWR.THERM_CALM) PWR.kCNT_SAT
    |> raise p PWR.iTHERM_STEP |> emit 0x1001 srcAon k (ofSigned 12 (s.pwr.sensors.get k {}).reading) c

/-- A sensor above 150 °C (R540): write stop, the spindle brakes to rest, ceiling CALM. -/
def thermTrip (k : Nat) (s : State) : State :=
  let p := PWR.page
  s |> tripBoth |> stopSpin |> fset p PWR.STATUS_CEILING 3 |> fset p PWR.STATUS_THERM_TRIP 1 |> fault p 0x02
    |> emit 0x1003 srcAon k (ofSigned 12 (s.pwr.sensors.get k {}).reading) 0

/-- THERMAL_SAMPLE (R538 to R540): the eight raw readings, 1/8 °C. -/
def execThermalSample (raw : Vector (BitVec 12) 8) (s : State) : Res :=
  let p := PWR.page
  let s := (List.range 8).foldl (fun t k => judgeSensor k ((raw.toList.getD k 0).toNat) t) s
  let s := s |> fset p PWR.HOT_SENSOR (hottest s).1 |> fsetI p PWR.HOT_READING (hottest s).2
  let s := match overLimit Sensor.hot150 s with
    | some k => if fon p PWR.STATUS_THERM_TRIP s then s else thermTrip k s
    | none => s
  .next (match overLimit Sensor.hot140 s, overLimit Sensor.hot125 s with
    | some k, _ =>
      if ceilingNow s = 3 then (if modeNow s ≤ 2 then calmStep [] s else s)
      else (fun t => if modeNow t ≤ 2 then calmStep [] t else t) (thermStep k 3 s)
    | none, some k => if ceilingNow s = 0 then s |> thermStep k 1 |> activeChange else s
    | none, none => s)

/-- The level every sensor must be at or below for the ceiling to rise, 1/8 °C. -/
def returnLevel (s : State) : Int :=
  if ceilingNow s = 3 then 8 * (min 130 (fget PWR.page PWR.THERM_CFG_CALM_RET s) : Nat) else 8 * (min 120 (fget PWR.page PWR.THERM_CFG_GALE_RET s) : Nat)

/-- THERMAL_RETURN (R539): RET_S seconds at or below the return level have passed. -/
def execThermalReturn (s : State) : Res :=
  let p := PWR.page
  let c := ceilingNow s
  if c = 0 || (List.range 8).any (fun k => decide (returnLevel s < (s.pwr.sensors.get k {}).reading)) then .next s
  else
    let n := if c = 3 then 1 else 0
    .next (s |> fset p PWR.STATUS_CEILING n |> (if c = 3 then fset p PWR.STATUS_THERM_TRIP 0 else id) |> raise p PWR.iTHERM_RETURN
      |> emit 0x1002 srcAon (hottest s).1 (ofSigned 12 (hottest s).2) n |> activeChange)

/-! ## Supplies (R541 to R546) -/

/-- A reading of the 12 V bus, mV. -/
def busReads (mv : Nat) (s : State) : State := s |> fset PWR.page PWR.VMOT mv |> fmin PWR.page PWR.VMOT_MIN mv
/-- A reading of the core, mV. -/
def coreReads (mv : Nat) (s : State) : State := s |> fset PWR.page PWR.VCORE mv |> fmin PWR.page PWR.VCORE_MIN mv

/-- Recording suspends with cause 4 (R343, R542). -/
def suspendBoth (s : State) : State :=
  s |> suspend 0 4 (fget (CHC.page 0) CHC.CSLOT s) |> suspend 1 4 (fget (CHC.page 1) CHC.CSLOT s)

/-- VMOT_WARNING (R542). -/
def execVmotWarning (mv : BitVec 16) (s : State) : Res :=
  let p := PWR.page
  .next (if fon p PWR.STATUS_VMOT_WARN s then busReads mv.toNat s
    else s |> busReads mv.toNat |> suspendBoth |> fset p PWR.STATUS_VMOT_WARN 1 |> raise p PWR.iVMOT_WARN
      |> cnt p PWR.VMOT_WARN_CNT PWR.kCNT_SAT |> emit 0x1010 srcAon 0 mv.toNat (modeNow s))

/-- CORE_WARNING (R542). -/
def execCoreWarning (mv : BitVec 12) (s : State) : Res :=
  let p := PWR.page
  .next (if fon p PWR.STATUS_CORE_WARN s then coreReads mv.toNat s
    else s |> coreReads mv.toNat |> suspendBoth |> fset p PWR.STATUS_CORE_WARN 1 |> raise p PWR.iCORE_WARN
      |> cnt p PWR.CORE_WARN_CNT PWR.kCNT_SAT |> emit 0x1018 srcAon 0 mv.toNat 0)

/-- A homing held by the 12 V warning starts (R543). -/
def heldHoming (h : Nat) (s : State) : State :=
  if (s.sled h).homeHeld then s |> setSled h { s.sled h with homeHeld := false } |> homeStart h else s

/-- WARNING_END (R543): of the 12 V bus, or of the core, with the lowest level and the duration. -/
def execWarningEnd (core : Bool) (low : BitVec 16) (us : Nat) (s : State) : Res :=
  let p := PWR.page
  .next (if core then
      if !fon p PWR.STATUS_CORE_WARN s then s
      else s |> fmin p PWR.VCORE_MIN low.toNat |> fset p PWR.STATUS_CORE_WARN 0 |> raise p PWR.iCORE_RECOV |> emit 0x1019 srcAon 0 low.toNat us
    else if !fon p PWR.STATUS_VMOT_WARN s then s
    else s |> fmin p PWR.VMOT_MIN low.toNat |> fset p PWR.STATUS_VMOT_WARN 0 |> raise p PWR.iVMOT_RECOV |> emit 0x1011 srcAon 0 low.toNat us
      |> heldHoming 0 |> heldHoming 1)

/-- Steps 1 and 2 of R544: write stop, safe motors, and both heads on the lost-feedback path. -/
def resetLevel (s : State) : State :=
  s |> tripBoth |> motorsSafe |> lostFeedback 0 6 (srcEng 0) |> lostFeedback 1 6 (srcEng 4)

/-- VMOT_RESET_LEVEL (R544). -/
def execVmotResetLevel (mv : BitVec 16) (s : State) : Res :=
  let p := PWR.page
  let w := writing 0 s || writing 1 s
  .next (if fon p PWR.STATUS_VMOT_RST s then busReads mv.toNat s
    else s |> busReads mv.toNat |> fset p PWR.STATUS_VMOT_RST 1 |> resetLevel |> fault p 0x03 |> raise p PWR.iVMOT_RST
      |> cnt p PWR.VMOT_RST_CNT PWR.kCNT_SAT |> emit 0x1012 srcAon 0 mv.toNat (b2n w))

/-- VMOT_RESET_RECOVERY (R544 step 3). -/
def execVmotResetRecovery (low : BitVec 16) (us : Nat) (s : State) : Res :=
  let p := PWR.page
  .next (if !fon p PWR.STATUS_VMOT_RST s then s
    else s |> fmin p PWR.VMOT_MIN low.toNat |> fset p PWR.STATUS_VMOT_RST 0 |> fset p PWR.STATUS_VMOT_WARN 0 |> raise p PWR.iVMOT_RECOV
      |> emit 0x1011 srcAon 0 low.toNat us |> motorsResume)

/-- OVER_VOLTAGE_WARNING (R217, R545): the spindle unit's part is the row BUS_OV. -/
def execOverVoltageWarning (mv : BitVec 16) (s : State) : Res :=
  let p := PWR.page
  .next (if fon p PWR.STATUS_VMOT_OVW s then busReads mv.toNat s
    else s |> busReads mv.toNat |> fset p PWR.STATUS_VMOT_OVW 1 |> raise p PWR.iVMOT_OV |> cnt p PWR.OV_CNT PWR.kCNT_SAT
      |> emit 0x1013 srcAon 0 mv.toNat 0)

/-- OVER_VOLTAGE_TRIP (R545): every gate off, and steps 1 and 2 of R544. -/
def execOverVoltageTrip (mv : BitVec 16) (s : State) : Res :=
  let p := PWR.page
  .next (if fon p PWR.STATUS_VMOT_OVT s then busReads mv.toNat s
    else s |> busReads mv.toNat |> fset p PWR.STATUS_VMOT_OVT 1 |> resetLevel |> fault p 0x04 |> raise p PWR.iVMOT_OV
      |> cnt p PWR.OV_CNT PWR.kCNT_SAT |> emit 0x1014 srcAon 0 mv.toNat 0)

/-- OVER_VOLTAGE_RECOVERY (R543, R545): the warning ends, and after a trip the motors resume. -/
def execOverVoltageRecovery (low : BitVec 16) (us : Nat) (s : State) : Res :=
  let p := PWR.page
  let trip := fon p PWR.STATUS_VMOT_OVT s
  .next (if !trip && !fon p PWR.STATUS_VMOT_OVW s then s
    else s |> fset p PWR.STATUS_VMOT_OVW 0 |> fset p PWR.STATUS_VMOT_OVT 0 |> raise p PWR.iVMOT_RECOV
      |> emit 0x1011 srcAon 0 low.toNat us |> (if trip then motorsResume else id))

/-! ## Clocks (R552) -/

/-- CLOCK_CHECK (R552): islands whose clock is more than 1 % off, MEAS_KHZ of the island measured, and the 32.768 kHz
oscillator's presence and error. -/
def execClockCheck (off : BitVec 8) (khz : BitVec 21) (lf : Bool) (ppm : BitVec 16) (s : State) : Res :=
  let p := CLK.page
  let s := s |> fset p CLK.MEAS_KHZ khz.toNat |> fset p CLK.LF_PPM ppm.toNat |> fsetB p CLK.STATUS_LF_OK lf
    |> (if lf then id else raise p CLK.iLF_LOST)
  .next ((List.range 8).foldl (fun t k =>
    if off.getLsbD k && !bit (fget p CLK.STATUS_STOPPED t) k then
      t |> raise p CLK.iFREQ_ERR |> fault p 0x03 |> cnt p CLK.FREQ_ERR_CNT CLK.kCNT_SAT |> emit 0x1031 srcAon 0 k 2
        |> (if k = 2 || k = 3 || k = 4 then tripBoth else id)
    else t) s)

end Sys2Proof.Machine
end

