-- ==== Sys2Proof/Machine/Scheduler.lean ====
section
/-!
DEFINITION. The zone rings: expansion, write data, the choice of bands and read revolutions, and a head out of service
(R316, R410, R428 to R433).
-/
namespace Sys2Proof.Machine

/-! ## Expansion (R428, R433) -/

/-- The request pool. -/
def poolSize : Nat := 1048576

/-- The zone ring of a place (R428). -/
def ringOf (psa : Nat) : Nat := psaSide psa * 131072 + psaLayer psa * 16384 + 8 * slotGroup (psaLayer psa) (psaSlot psa) / 13

/-- The mask of sectors of a part. -/
def partMask (is : List Nat) : Nat := is.foldl setBit 0

/-- A cluster of a command ends because its head is out of service (R433). -/
def oosEnd (t k : Nat) (write : Bool) (s : State) : State :=
  modCmd t (fun c => { c with ends := c.ends.insert k { kind := if write then .writeFault else .unrecovered, mask := 0, cause := 0x500A },
                              headOos := true, moved := c.moved ++ [k], tLast := some s.time }) s

/-- A request reaches its ring. -/
def appendReq (r : ClReq) (s : State) : State :=
  s |> setCl { s.cl with reqs := s.cl.reqs.erase r ++ [{ r with queued := some s.time }] }
    |> modCmd r.tag (fun c => { c with tRing := some (c.tRing.getD s.time), phase := if c.phase = 0 then 1 else c.phase }) |> showPool

/-- The payloads of a compressed write's records for cluster `k` (R410). -/
def recordPart' (c : Cmd) (k : Nat) : List (List Nat) :=
  (List.range 32).map (fun i => let a := 32 * k + i; if c.first ≤ a then (c.recd.drop (2048 * (a - c.first))).take 2048 else [])

/-- One cluster of a command made into a request. -/
def makeReq (t k : Nat) (s : State) : State :=
  match s.cl.cmds.find t with
  | none => s
  | some c =>
    let home := homeAt k s
    let place := placeOf home s
    let side := if legacyDisc s then 0 else psaSide place
    let s := modCmd t (fun c => { c with expanded := c.expanded + 1, made := c.made + 1 }) s
    if !inService side s then oosEnd t k (c.op == 2) s
    else
      let whole : Bool := decide (c.recd ≠ [])
      let r : ClReq := { tag := t, cluster := k, home := home, ring := if legacyDisc s then none else some (ringOf place), write := c.op == 2,
                         mask := partMask (c.part k), sectors := if whole then recordPart' c k else [] }
      let s := setCl { s.cl with reqs := s.cl.reqs ++ [r] } s
      if c.op ≠ 2 || (whole && (!bit c.flags 1 || c.checked)) then appendReq r s else showPool s

/-- Clusters of a command made into requests while the pool lasts. -/
def makeReqs (t : Nat) : List Nat → State → State
  | [], s => s
  | k :: ks, s => if s.cl.reqs.length < poolSize then makeReqs t ks (makeReq t k s) else raise ZRG.page ZRG.iPOOL_EMPTY s

/-- The oldest command not wholly expanded; commands that wait for a stream context are passed over (R436). -/
def nextExpand (s : State) : Option (Nat × Cmd) :=
  s.cl.order.findSome? (fun t =>
    match s.cl.cmds.find t with
    | some c => if c.clustered && !c.ended && c.phase ≠ 2 && c.status.isNone && !s.cl.ctxWait.contains t &&
        (!c.placed || decide (c.expanded < clustersIn c.first c.sectors)) then some (t, c) else none
    | none => none)

/-- COMMAND_EXPANSION (R428). -/
def execCommandExpansion (s : State) : Res :=
  match nextExpand s with
  | none => .next s
  | some (t, c) =>
    if !c.placed || !inOrder t c s then .next s
    else
      let n := clustersIn c.first c.sectors
      .next (makeReqs t ((List.range (n - c.expanded)).map (fun i => c.first / 32 + c.expanded + i)) s)

/-! ## Write data (R316, R410, R428, R435) -/

/-- The bytes of a write's part of the transfer: given for the host, read from buffer memory for the others. -/
def writeBytes (c : Cmd) (off n : Nat) (data : List Nat) (s : State) : Option (List Nat) :=
  if c.req = 0 then some data
  else (pieces c off (List.replicate n 0)).bind (fun ps => (ps.mapM (fun p => bufRead p.1 p.2.length s)).map List.flatten)

/-- A write's data taken. -/
def tookData (t k : Nat) (c : Cmd) (bs : List Nat) (s : State) : State :=
  s |> modCmd t (fun c => { c with raw := c.raw.insert k bs }) |> (if c.req = 0 then pmc 0x05 256 (bs.length / 2048) else id)
    |> (match c.job with | some j => portMoved j.port false bs.length | none => if c.req = 0 then fromHost bs.length else id)

/-- Data of one cluster of an uncompressed write: its request reaches the ring, unless a transfer check is awaited. -/
def clusterArrived (t k : Nat) (c : Cmd) (data : List Nat) (s : State) : State :=
  let part := c.part k
  let n := 2048 * part.length
  match s.cl.reqs.find? (fun r => r.tag == t && r.cluster == k && r.write && r.queued.isNone) with
  | none => s
  | some r =>
    match writeBytes c ((max c.first (32 * k) - c.first) * 2048) n data s with
    | none => stopCmd t 0x70 s
    | some bs =>
      if part = [] || bs.length ≠ n || (c.raw.find k).isSome || (pieces c ((max c.first (32 * k) - c.first) * 2048) bs).isNone then s
      else
        let lo := part.headD 0
        let secs := (List.range 32).map (fun i => if part.contains i then (bs.drop (2048 * (i - lo))).take 2048 else [])
        let q := { r with sectors := secs }
        let s := s |> tookData t k c bs |> (fun u => setCl { u.cl with reqs := u.cl.reqs.map (fun x => if x = r then q else x) } u)
        if bit c.flags 1 && !c.checked then s else appendReq q s

/-- All data of a compressed write and the records they compress to: it is placed once those before it are (R410, R435).
Records that do not inflate to the data fail their verification (R406). -/
def compressedArrived (t : Nat) (c : Cmd) (data recs : List Nat) (s : State) : State :=
  match s.cl.strms.find c.stream, writeBytes c 0 c.count data s with
  | some x, some bs =>
    if bs.length ≠ c.count || recs.length % 2048 ≠ 0 || (before t s).any (fun e => e.op == 2 && e.stream == c.stream && !e.placed && !e.ended) then s
    else
      let (out, err) := inflateRecords (recs.length / 2048 + 1) true recs
      let n := recs.length / 2048
      if err.isSome || out ≠ bs || boundSectors c.count < n then stopCmd t 0x70 (tookData t 0 c bs s)
      else s |> tookData t 0 c bs |> setStrm c.stream { x with next := roundUp (x.next + n) 32, written := x.written + n }
        |> placeAt t x.next n |> modCmd t (fun c => { c with recd := recs, aux := n })
  | _, none => stopCmd t 0x70 s
  | none, _ => s

/-- WRITE_DATA_ARRIVED (R428). -/
def execWriteDataArrived (tag : BitVec 12) (cluster : Nat) (data records : List (BitVec 8)) (s : State) : Res :=
  let t := tag.toNat
  match s.cl.cmds.find t with
  | none => .next s
  | some c =>
    if c.op ≠ 2 || c.ended || c.phase = 2 || c.waitDisc || s.cl.ctxWait.contains t || (c.req = 0 && !mayDma s) then .next s
    else if c.placed then .next (clusterArrived t cluster c (data.map BitVec.toNat) s)
    else .next (compressedArrived t c (data.map BitVec.toNat) (records.map BitVec.toNat) s)

/-- XFER_CHECK_COMPARE (R316). -/
def execXferCheckCompare (tag : BitVec 12) (s : State) : Res :=
  let t := tag.toNat
  match s.cl.cmds.find t with
  | none => .next s
  | some c =>
    match crossed c with
    | none => .next s
    | some bs =>
      if c.op ≠ 2 || !bit c.flags 1 || c.checked || c.phase = 2 then .next s
      else if crc64 bs = c.xchk then
        let s := modCmd t (fun c => { c with checked := true }) s
        .next ((s.cl.reqs.filter (fun r => r.tag == t && r.queued.isNone && decide (r.sectors ≠ []))).foldl (fun u r => appendReq r u) s)
      else .next (s |> stopCmd t 0x60 |> cnt CRC.page CRC.XFER_MISMATCH_CNT CRC.kCNT_SAT |> raise CRC.page CRC.iXFER_MISMATCH |> emit 0x400B srcDecode t (crc64 bs) c.xchk)

/-! ## Choosing a band (R429, R430, R432) -/

/-- Requests on the rings of a head's side, the longest waiting first. -/
def sideReqs (h : Nat) (s : State) : List ClReq :=
  s.cl.reqs.filter (fun r => r.queued.isSome && (match r.ring with | some n => n / 131072 == h | none => h == 0))

/-- The register that shows a head's ring. -/
def ringFld (h : Nat) : Fld := if h = 0 then ZRG.RING_L else ZRG.RING_U

/-- The strict sweep's next ring from a ring of the side (R429): its layer's bands ahead, then the next layers', wrapping. -/
def sweepNext (cur : Nat) (rings : List Nat) : Option Nat :=
  let l0 := cur / 16384 % 8
  let b0 := cur % 16384
  let inLayer := fun (l : Nat) => (rings.filter (fun n => n / 16384 % 8 == l)).map (· % 16384)
  let pick := fun (l : Nat) (bs : List Nat) =>
    (if l % 2 = 0 then bs.min? else bs.max?).map (fun b => cur / 131072 * 131072 + l * 16384 + b)
  let ahead := (inLayer l0).filter (fun b => if l0 % 2 = 0 then decide (b0 ≤ b) else decide (b ≤ b0))
  match pick l0 ahead with
  | some n => some n
  | none => ((List.range 8).map (fun i => (l0 + 1 + i) % 8)).findSome? (fun l => pick l (inLayer l))

/-- The scheduler must wait (R432): no speed, a stop asked for, a mode change, a head re-acquiring or out of service, or
SQUALL's re-reads first. -/
def mustWait (h : Nat) (s : State) : Bool :=
  !fon ZRG.page ZRG.CTRL_EN s || !fon SPN.page SPN.STATUS_SPEED_OK s || fon PWR.page PWR.STATUS_TRANSITION s ||
    (s.head h).reacquiring || getMcState h s == 9 || !inService h s || s.dec.held.any (fun kv => psaSide kv.1 == h)

/-- A head goes to a ring. -/
def goRing (h cur n : Nat) (s : State) : State :=
  let left := cur / 16384 % 8 ≠ n / 16384 % 8 || (if cur / 16384 % 2 = 0 then decide (n % 16384 < cur % 16384) else decide (cur % 16384 < n % 16384))
  let w := (sideReqs h s).any (fun r => r.ring == some n && r.write)
  s |> fset ZRG.page (ringFld h) n |> (if left then cnt ZRG.page (if h = 0 then ZRG.SWEEPS_L else ZRG.SWEEPS_U) ZRG.kCNT_SAT else id)
    |> (fun u => setSpin { u.spin with writeNext := w } u) |> newTarget

/-- BAND_CHOICE (R429, R430). -/
def execBandChoice (head : Head) (s : State) : Res :=
  let h := head.n
  let pol := let v := fget ZRG.page ZRG.POLICY s; if v = 3 then 1 else v
  if mustWait h s then .next s
  else
    let s := fset ZRG.page ZRG.STATUS_POLICY_ACT pol s
    let rs := sideReqs h s
    let cur := h * 131072 + fget ZRG.page (ringFld h) s % 131072
    let byAge : Bool := match rs.head? with
      | some r => pol == 1 && decide (r.queued.getD 0 + 25000 * fget ZRG.page ZRG.AGE_MS s < s.time)
      | none => false
    match rs.head? with
    | none => .next (s |> setSpin { s.spin with writeNext := false } |> newTarget)
    | some r =>
      match r.ring with
      | none => .next (s |> setSpin { s.spin with writeNext := r.write } |> newTarget)
      | some n =>
        if pol = 2 then .next (goRing h n n s)
        else if byAge then .next (s |> goRing h n n |> cnt ZRG.page ZRG.AGE_FORCES ZRG.kCNT_SAT |> raise ZRG.page ZRG.iAGE_FORCED)
        else match sweepNext cur (rs.filterMap (fun r => r.ring)) with
          | some n => .next (goRing h cur n s)
          | none => .next s

/-! ## Read revolutions (R431) -/

/-- The register bit that shows a head waiting for buffers, and the one that makes it follow (R177, R431). -/
def holdingFld (h : Nat) : Fld := if h = 0 then ZRG.STATUS_HOLDING_L else ZRG.STATUS_HOLDING_U
/-- MC_CTRL.FOLLOW of a head. -/
def followFld (h : Nat) : Fld := if h = 0 then MC.MC_CTRL_FOLLOW_L else MC.MC_CTRL_FOLLOW_U

/-- Buffers reserved for clusters in turn, or none where one is not to be had. -/
def reserveAll (h : Nat) : List Nat → State → Option State
  | [], s => some s
  | p :: ps, s => if mayReserve h s then reserveAll h ps (reserveBuf p h false s) else none

/-- A head waits a revolution for buffers. -/
def holdRev (h : Nat) (homes : List Nat) (s : State) : State :=
  let s := s |> fset ZRG.page (holdingFld h) 1 |> cnt ZRG.page ZRG.HOLD_REVS ZRG.kCNT_SAT |> pmc 0x0C h 1 |> fset MC.page (followFld h) 0
  let ts := ((s.cl.reqs.filter (fun r => homes.contains r.home && !r.write)).map ClReq.tag).eraseDups
  ts.foldl (fun u t => modCmd t (fun c => { c with held := c.held + 1 }) u) s

/-- READ_REVOLUTION_START (R431). -/
def execReadRevolutionStart (head : Head) (psas : List (BitVec 32)) (s : State) : Res :=
  let h := head.n
  let ps := (psas.map (fun p => psaCluster p.toNat)).eraseDups
  let homes := ps.map (fun p => homeOf p s)
  let wanted := homes.all (fun a => s.cl.reqs.any (fun r => r.home == a && readable r s))
  if ps = [] || !wanted || recording h s || mustWait h s || ps.any (fun p => psaSide p != h) then .next s
  else match reserveAll h (ps.filter (fun p => !s.mem.bufs.any (fun kv => kv.2.1 == p))) s with
    | none => .next (holdRev h homes s)
    | some t => .next (t |> fset ZRG.page (holdingFld h) 0 |> fset MC.page (followFld h) 1)

/-! ## A head out of service (R433) -/

/-- HEAD_OUT_OF_SERVICE. -/
def execHeadOutOfService (head : Head) (s : State) : Res :=
  let h := head.n
  let legacy := legacyDisc s
  let rs := s.cl.reqs.filter (fun r => if legacy then h == 0 else psaSide (placeOf r.home s) == h)
  let told := (s.head h).oosTold && (s.head h).out
  let s := rs.foldl (fun u r => oosEnd r.tag r.cluster r.write (setCl { u.cl with reqs := u.cl.reqs.erase r } u)) s
  let s := s |> setHead h { s.head h with out := true, oosTold := true } |> showPool
  .next (if told then s else emit 0x500A srcHost 0xFF h rs.length s)

end Sys2Proof.Machine
end

