-- ==== Sys2Proof/Machine/Seal.lean ====
section
/-!
DEFINITION. Sealing a side (R68, R69, R352 to R355, R573).
-/
namespace Sys2Proof.Machine

/-- Valid Seal Record copies of a side (R68). -/
def sealCopies (side : Nat) (s : State) : Nat := ((List.range 8).filter (fun l => bit s.disc.sealCopies (8 * side + l))).length

/-- The copies shown (R618). -/
def showCopies (side : Nat) (s : State) : State :=
  let f := if side = 0 then FMT.SEAL_COPIES_0 else FMT.SEAL_COPIES_1
  let n := sealCopies side s
  if fget FMT.page f s = n then s else s |> fset FMT.page f n |> raise FMT.page FMT.iSEAL_CHANGE

/-- The Seal Record payload as the side stands, its first copy to be recorded next (R355). -/
def sealPayload (side : Nat) (s : State) : List Nat :=
  let n := discLayers s
  [ side, s.disc.variant, n, s.disc.enc.getD 0 ] ++
    (List.range 8).flatMap (fun l => beBytes 4 (if l < n then s.disc.highWater.get (8 * side + l) 0 else 0)) ++
    (List.range 8).flatMap (fun l => beBytes 4 (if l < n then lastGen side 3 l s else 0)) ++
    beBytes 8 (fget ENC.page ENC.FRONTIER s) ++ beBytes 8 (wseq s) ++ List.replicate 60 0

/-- The payload of a valid copy of the side, if one exists. -/
def copyPayload (side : Nat) (s : State) : Option (List Nat) :=
  (s.disc.blocks.find? (fun b => b.type == 5 && b.side == side && bit s.disc.sealCopies (8 * side + b.layer))).map
    (fun b => (b.payload.drop 64).take 144)

/-- One attempt at a copy on a seal layer and its verification; none where no DCZ slot remains. -/
def tryCopy (side l : Nat) (p : List Nat) (ok : Bool) (s : State) : Option State :=
  (recordBlock side l 5 l 1 p true s).map (fun t =>
    if ok then setDisc { t.disc with sealCopies := setBit t.disc.sealCopies (8 * side + l) } t else t)

/-- A copy on each seal layer in turn that lacks a valid one, recorded once more where its verification fails (R353). -/
def sealLayersRun (side : Nat) (p : List Nat) : List Nat → List Bool → State → State
  | [], _, s => s
  | l :: ls, vs, s =>
    if bit s.disc.sealCopies (8 * side + l) then sealLayersRun side p ls vs s
    else match tryCopy side l p (vs.headD false) s with
      | none => sealLayersRun side p ls vs s
      | some t =>
        if vs.headD false then sealLayersRun side p ls (vs.drop 1) t
        else sealLayersRun side p ls (vs.drop 2) ((tryCopy side l p ((vs.drop 1).headD false) t).getD t)

/-- Pending Defect List generations of a side recorded, and a clean-unmount entry, as far as slots allow (R69, R353 step 2). -/
def sealFlush (side : Nat) (s : State) : State :=
  let ls := (List.range (discLayers s)).filter (fun l => s.disc.pending.any (fun kv => psaSide kv.1 == side && psaLayer kv.1 == l))
  let s := ls.foldl (fun t l => (recordDefects side l true t).getD t) s
  (recordIntent ⟨4, 2, side, 0xFF, 0, 0, fget ENC.page ENC.FRONTIER s, wseq s + 1⟩ true s).getD s

/-- The done entry exists. -/
def sealDone (side : Nat) (s : State) : Bool := s.disc.intents.any (fun i => i.op == 1 && i.state == 2 && i.side == side)

/-- A side of a SEAL has ended, with an outcome. -/
def sideEnds (t side code : Nat) (s : State) : State :=
  let n := sealCopies side s
  s |> setDisc { s.disc with sealWait := clrBit s.disc.sealWait side } |> showCopies side
    |> modCmd t (fun c => { c with sides := c.sides.insert side (2, n), aux := c.aux + n * 16 ^ side,
                                   outcomes := if code = 0 then c.outcomes else c.outcomes ++ [code] })

/-- Steps 3 to 6 from the layers still without a copy (R353, R573): `steps` is how many of the six are completed. -/
def sealFinish (t side steps : Nat) (vs : List Bool) (s : State) : State :=
  let p := (copyPayload side s).getD (sealPayload side s)
  let s := sealLayersRun side p ((sealLayers s.disc.variant).take (steps - 2)) vs s
  if steps < 6 || sealCopies side s = 0 then s |> setSeal side 3 |> sideEnds t side 0x51
  else
    match (if sealDone side s then some s else recordIntent ⟨1, 2, side, 0xFF, 0, 0, 0, 0⟩ true s) with
    | none => s |> setSeal side 3 |> sideEnds t side 0x51
    | some u => u |> setSeal side 2 |> raise ENC.page ENC.iSEAL_DONE
        |> emit 0x410C (srcChan side) side (sealCopies side u) (u.disc.dczSeq - 1) |> sideEnds t side 0

/-- A waiting seal may run: earlier writes needing the side have completed, and its relocations have ended (R352). -/
def sealReady (t side : Nat) (s : State) : Bool :=
  (before t s).all (fun e => !(e.op == 2 && (e.waitDisc || !e.placed || (sidesOf e.first e.sectors).contains side))) &&
    s.disc.relocs.all (fun r => psaSide r.home != side)

/-- The SEAL that a side belongs to, and its stage. -/
def sealOf (side : Nat) (s : State) : Option (Nat × Nat) :=
  s.cl.order.findSome? (fun t =>
    match s.cl.cmds.find t with
    | some c => if c.op = 4 then (match c.sides.find side with | some (k, _) => if k < 2 then some (t, k) else none | none => none) else none
    | none => none)

/-- SEAL_RUN (R353): from its start, or as the completion of a mid-seal side (R573). -/
def execSealRun (side : Fin 2) (copies : List Bool) (steps : Fin 7) (s : State) : Res :=
  let d := side.val
  match sealOf d s with
  | none => .next s
  | some (t, k) =>
    if !inService d s then
      .next (s |> (if k = 1 then setSeal d 3 else id) |> modCmd t (fun c => { c with headOos := true }) |> sideEnds t d (if k = 1 then 0x51 else 0x11))
    else if k = 1 then .next (s |> setSeal d 1 |> sealFinish t d steps copies)
    else if steps.val = 0 || !sealReady t d s then .next s
    else match recordIntent ⟨1, 1, d, 0xFF, 0, 0, 0, 0⟩ true s with
      | none => .next (s |> fault ENC.page 0x02 |> sideEnds t d 0x11)
      | some s =>
        let s := s |> setSeal d 1 |> emit 0x410B (srcChan d) d (s.disc.dczSeq - 1) 0
          |> modCmd t (fun c => { c with sides := c.sides.insert d (1, 0) })
        .next (sealFinish t d steps copies (if 2 ≤ steps.val then sealFlush d s else s))

end Sys2Proof.Machine
end

