-- ==== Sys2Proof/Machine/Mount.lean ====
section
/-!
DEFINITION. Mounting and unmounting a disc, and what an unclean stop left (R569 to R576).
-/
namespace Sys2Proof.Machine

/-! ## Triggers and failures (R476, R569) -/

/-- The PWR page's default active mode (R530). -/
def defaultMode (s : State) : Nat := if fget PWR.page PWR.DEFAULT_MODE s = 0 then 0 else 1

/-- Commands that wait for the disc, or for the mount, complete with a status. -/
def endWaiting (code : Nat) (s : State) : State :=
  s.cl.order.foldl (fun t x =>
    match t.cl.cmds.find x with
    | some c => if c.waitDisc || c.op = 10 then t |> modCmd x (fun c => { c with waitDisc := false, placed := true }) |> endNow x code else t
    | none => t) s

/-- Both lenses retracted and the spindle stopped, towards the safe state of R473. -/
def towardsSafe (s : State) : State := s |> parkHead 0 |> parkHead 1 |> stopSpin

/-- A mount fails (R569): the device returns to the unloaded safe state. -/
def mountFail (cause step : Nat) (s : State) : State :=
  let p := FMT.page
  s |> fset p FMT.STATUS_STATE 3 |> fault p cause |> fset p FMT.MOUNT_FAIL_CAUSE cause |> fset p FMT.MOUNT_FAIL_STEP step
    |> raise p FMT.iMOUNT_FAIL |> emit 0x0014 srcAon 0 cause step
    |> (if fon LIB.page LIB.STATUS_DISC_PRES s then mediaEvent 4 else id)
    |> (fun t => setDev { t.dev with noAuto := true, mountAt := none } t) |> endWaiting 0x50 |> towardsSafe

/-- CLAMP_REQ is asserted and not ignored (R475). -/
def clampReq (s : State) : Bool := fon LIB.page LIB.CTRL_CLAMP_EN s && fon LIB.page LIB.STATUS_CLAMP_REQ s

/-- A trigger of a mount (R569): it joins one that runs, and starts nothing while a disc is mounted. -/
def startMount (s : State) : State :=
  let st := fget FMT.page FMT.STATUS_STATE s
  if st = 1 || st = 2 || st = 4 then s
  else if !fon LIB.page LIB.STATUS_DISC_PRES s || clampReq s then mountFail 1 0 s
  else
    let s := if s.pwr.asked then s else fset PWR.page PWR.STATUS_REQ (defaultMode s) s
    let m := min 2 (activeMode s)
    s |> setDev { s.dev with mountAt := some s.time, noAuto := false } |> fset FMT.page FMT.STATUS_STATE 1
      |> fset SPN.page SPN.TARGET_RPM (readRpm m) |> wantSpeed (readRpm m) |> startSpin

/-- MOUNT (R569): ALREADY_DONE while a disc is mounted; MEDIUM_ABSENT during an unload (R475). -/
def execMount (sub : Submit) (s : State) : Res :=
  .next (submit 10 sub id (fun t _ u =>
    if u.port.unload.isSome || clampReq u then endNow t 0x50 u
    else if discMounted u then endNow t 0x21 u
    else startMount u) s)

/-- MOUNT_FAIL (R569). -/
def execMountFail (cause : Fin 5) (step : Fin 9) (s : State) : Res :=
  .next (if fget FMT.page FMT.STATUS_STATE s = 1 && cause.val ≠ 0 then mountFail cause step s else s)

/-! ## The blocks read (R63 to R66) -/

/-- A block as its header names it, valid but for its Disc ID (R66). -/
def parseBlock (b : MountBlock) : Option DczBlock :=
  let n := b.bytes.map BitVec.toNat
  if b.ok && ofBe (n.take 4) = 0x44435A42 && ofBe ((n.drop 6).take 2) = 1 && sha3 (n.take 65472) = (n.drop 65472).take 64 then
    some ⟨ofBe ((n.drop 4).take 2), n.getD 20 0, n.getD 21 0, ofBe ((n.drop 28).take 4), ofBe ((n.drop 16).take 4), b.psa.toNat, n⟩
  else none

/-- The Disc ID in a block's header. -/
def blockId (b : DczBlock) : Nat := ofBe ((b.payload.drop 8).take 8)
/-- Part index and part count of a block. -/
def blockPart (b : DczBlock) : Nat × Nat := (ofBe ((b.payload.drop 22).take 2), ofBe ((b.payload.drop 24).take 2))
/-- A block's payload after its header. -/
def blockBody (b : DczBlock) : List Nat := (b.payload.drop 64).take 65408

/-- The blocks by DCZ sequence number, but for their Disc ID. -/
def parsed (bs : List MountBlock) : Store DczBlock := (bs.filterMap parseBlock).foldl (fun m b => Store.insert m b.seq b) []

/-- The Disc ID of the disc: that of its first valid Disc Identity. -/
def mountId (m : Store DczBlock) : Option Nat := (m.find? (fun kv => kv.2.type == 1)).map (fun kv => blockId kv.2)

/-- The governing Defect List of a side-layer: entries of the highest generation whose parts are all present (R66). -/
def governing (side layer : Nat) (bs : List DczBlock) : Nat × List (Nat × Nat) :=
  let mine := bs.filter (fun b => b.type == 3 && b.side == side && b.layer == layer)
  let whole := fun (g : Nat) => mine.all (fun b => b.gen != g || (List.range (blockPart b).2).all (fun i =>
    mine.any (fun c => c.gen == g && (blockPart c).1 == i)))
  let g := (mine.filter (fun b => whole b.gen)).foldl (fun a b => max a b.gen) 0
  let parts := mine.filter (fun b => b.gen == g)
  let body := (List.range parts.length).flatMap (fun i => ((parts.find? (fun b => (blockPart b).1 == i)).map blockBody).getD [])
  (g, ((List.range (body.length / 8)).map (fun i => (ofBe ((body.drop (8 * i)).take 4), ofBe ((body.drop (8 * i + 4)).take 4)))).filter (· ≠ (0, 0)))

/-- A journal entry (R351). -/
def parseIntent (e : List Nat) : Intent :=
  ⟨e.getD 0 0, e.getD 1 0, e.getD 2 0, e.getD 3 0, ofBe ((e.drop 4).take 4), ofBe ((e.drop 8).take 4), ofBe ((e.drop 12).take 8), ofBe ((e.drop 20).take 8)⟩

/-- The entries of a journal block, up to the first that is empty. -/
def blockIntents (b : DczBlock) : List Intent :=
  let body := blockBody b
  (((List.range 1022).map (fun i => (body.drop (64 * i)).take 64)).takeWhile (fun e => decide (0 < e.getD 0 0))).map parseIntent

/-- DCZ slots used on a side-layer, by the blocks found there. -/
def usedSlots (bs : List MountBlock) (k : Nat) : Nat :=
  (bs.filter (fun b => 8 * psaSide b.psa.toNat + psaLayer b.psa.toNat == k)).foldl
    (fun a b => max a (8 * (psaSlot b.psa.toNat - firstSlot (psaLayer b.psa.toNat) .dcz) + psaLane b.psa.toNat + 1)) 0

/-- Units of a side with a cluster below the frontier, and how many of them lie on a layer. -/
def unitsBelow (side k layer : Nat) : Nat := min userSlots ((k + 15 - 8 * side) / 16 - userSlots * layer)

/-- The frontier and the next write sequence number found, and whether the stop was clean (R571). -/
def foundFrontier (ins : List Intent) (bs : List MountBlock) (blank : Bool) : Nat × Nat × Bool :=
  match (ins.filter (fun i => i.op == 3 || i.op == 4)).getLast? with
  | some i => (i.a, i.b, i.op == 4)
  | none => (0, if blank then 0 else 1 + bs.foldl (fun a b => max a b.wseq.toNat) 0, blank)

/-- The disc as its DCZ blocks describe it. -/
def discFound (variant id : Nat) (bs : List MountBlock) (ds : List DczBlock) (k : Nat) : DiscSt :=
  let bits := fun (t : Nat) (f : DczBlock → Nat) => (ds.filter (fun b => b.type == t)).foldl (fun a b => setBit a (f b)) 0
  let n := variantLayers variant
  let keys := [ 0, 1 ].flatMap (fun d => (List.range n).map (fun l => 8 * d + l))
  let ins := (ds.filter (fun b => b.type == 4)).flatMap blockIntents
  { variant := variant, id := id, identities := bits 1 DczBlock.side, descriptors := bits 2 (fun b => 8 * b.side + b.layer),
    defects := (keys.flatMap (fun x => (governing (x / 8) (x % 8) ds).2)).foldl (fun m e => Store.insert m e.1 e.2) [],
    named := (ins.filter (fun i => i.op == 2)).map Intent.b, dczUsed := keys.foldl (fun m x => Store.put m x (usedSlots bs x) 0) [],
    dczSeq := ds.foldl (fun a b => max a (b.seq + 1)) 1, blocks := ds, intents := ins, userWritten := decide (0 < k),
    highWater := keys.foldl (fun m x => Store.put m x (unitsBelow (x / 8) k (x % 8)) 0) [],
    sealCopies := bits 5 (fun b => 8 * b.side + b.layer) }

/-- The descriptor of a block of type 2 (R64). -/
def parseDescr (b : DczBlock) : Descr :=
  let p := blockBody b
  ⟨p.getD 0 0, (p.drop 1).take 16, (p.drop 17).take 72, (p.drop 89).take 64, ofBe ((p.drop 153).take 4)⟩

/-! ## Intents left open (R572 to R574) -/

/-- A side can be written for a resolution. -/
def canWrite (side : Nat) (s : State) : Bool := inService side s && dczLeft side s

/-- Event 0x0012 and the outcome's count on the FMT page. -/
def intentOutcome (op out : Nat) (s : State) : State :=
  let f := if out = 2 then FMT.INTENTS_DONE else if out = 3 then FMT.INTENTS_ABANDONED else FMT.INTENTS_LEFT
  s |> fset FMT.page f (min 255 (fget FMT.page f s + 1)) |> emit 0x0012 srcAon 0 op out

/-- A relocation's intent resolved by the verdict on its replacement (R572). -/
def resolveReloc (i : Intent) (verdict : Nat) (s : State) : State :=
  let e := fun (st : Nat) => { i with state := st, seq := 0 }
  if !canWrite i.side s || verdict = 2 then intentOutcome 2 4 s
  else if verdict = 0 then
    let t := if i.gen ≤ lastGen i.side 3 i.layer s then some s
      else recordDefects i.side i.layer false (setDisc { s.disc with defects := s.disc.defects.insert i.a i.b } s)
    match t.bind (recordIntent (e 2) false) with
    | some u => intentOutcome 2 2 u
    | none => intentOutcome 2 4 s
  else
    match recordIntent (e 3) false s with
    | some u => intentOutcome 2 3 u
    | none => intentOutcome 2 4 s

/-- Relocation intents without their done or abandoned entry, in DCZ order. -/
def openRelocs (s : State) : List Intent :=
  (s.disc.intents.filter (fun i => i.op == 2 && i.state == 1)).filter (fun i =>
    !s.disc.intents.any (fun x => x.op == 2 && x.side == i.side && x.a == i.a && x.b == i.b && (x.state == 2 || x.state == 3)))

/-- The seal of a side as found: open, sealed, or mid-seal and completed now (R573, R574). -/
def resolveSeal (side : Nat) (vs : List Bool) (s : State) : State :=
  let begun := s.disc.intents.any (fun i => i.op == 1 && i.side == side)
  let n := sealCopies side s
  let s := showCopies side s
  if sealDone side s && 0 < n then
    s |> setSeal side 2 |> (if n < 3 then emit 0x0013 srcAon 0 side n else id)
  else if !begun && n = 0 then s
  else if !inService side s then s |> setSeal side 3 |> intentOutcome 1 4
  else
    let s := s |> setSeal side 1 |> sealFinish 4096 side 6 vs
    intentOutcome 1 (if sealState side s = 2 then 2 else 4) s

/-! ## The mount (R570) -/

/-- The end of a mount: the disc is mounted, its mode reached, and the commands that waited begin. -/
def mounted (variantCode flags : Nat) (s : State) : State :=
  let p := FMT.page
  let m := min 2 (activeMode s)
  let s := s |> fset p FMT.STATUS_STATE 2 |> fset p FMT.MOUNT_MS (min 65535 ((s.time - s.dev.mountAt.getD s.time) / 25000))
    |> cnt p FMT.MOUNT_CNT FMT.kCNT_SAT |> setDev { s.dev with mountAt := none } |> raise p FMT.iMOUNTED
    |> emit 0x0010 srcAon 0 variantCode flags |> mediaEvent 2
  let s := if s.pwr.trans.isSome || modeNow s = 3 then modeReached m s else s
  s.cl.order.foldl (fun t x =>
    match t.cl.cmds.find x with
    | some c => if c.op = 10 then endNow x 0x00 t else if c.waitDisc then withDisc x t else t
    | none => t) s

/-- The FMT page of a DLA disc, and the frontier (R347, R571, R618). -/
def showDla (v k w : Nat) (clean blank : Bool) (s : State) : State :=
  let p := FMT.page
  let s := s |> fset p FMT.MEDIA_VARIANT v |> fset p FMT.MEDIA_PROFILE 0xFF10 |> fset p FMT.MEDIA_LAYERS (variantLayers v)
    |> fset64 p FMT.DISC_ID_LO FMT.DISC_ID_HI s.disc.id |> fset p FMT.LAST_LBA (variantSectors v - 1)
    |> fsetB p FMT.STATUS_UNCLEAN (!clean) |> fsetB p FMT.STATUS_BLANK blank |> fset p FMT.STATUS_LEGACY 0 |> fset p FMT.STATUS_READ_ONLY 0
    |> fset p FMT.INTENTS_DONE 0 |> fset p FMT.INTENTS_ABANDONED 0 |> fset p FMT.INTENTS_LEFT 0
    |> fset ENC.page ENC.FRONTIER k |> fset ENC.page ENC.CKPT_FRONTIER k |> fset ENC.page ENC.STATUS_FRONTIER_VALID 1
    |> setWseq w |> fset64 ENC.page ENC.WSEQ_LIM_LO ENC.WSEQ_LIM_HI w |> showFree 0 |> showFree 1
  let s := (List.range 16).foldl (fun t x => fset p (FMT.DLGEN.ix x) (governing (x / 8) (x % 8) t.disc.blocks).1 t) s
  if clean then s else emit 0x0011 srcAon 0 k w s

/-- NEXT_RUN of each side-layer (R339). -/
def showRuns (runs : List Nat) (s : State) : State :=
  (List.range 16).foldl (fun t i =>
    fset CAL.page ((if i % 2 = 0 then CAL.NEXT_RUN_EVEN else CAL.NEXT_RUN_ODD).ix (i / 2)) (runs.getD i 0) t) s

/-- The key of the disc decided, or the latch set on a disc that holds clusters and no descriptor (R514, R575). -/
def mountKey (ds : List DczBlock) (s : State) : State :=
  let d := (ds.find? (fun b => b.type == 2)).map parseDescr
  let s := s |> setVault { s.vault with descr := d, prepare := none } |> setDisc { s.disc with enc := d.map Descr.state } |> showDescr
  match d with
  | some _ => keyDecision s
  | none => enforce s.disc.userWritten s

/-- A DLA mount to its end. -/
def mountDla (v : Nat) (bs : List MountBlock) (runs : List Nat) (relocs : List (Fin 3)) (seals : List (List Bool)) (s : State) : State :=
  let m := parsed bs
  let half := [ 0, 1 ].any (fun d => bs.any (fun b => psaSide b.psa.toNat == d && ofBe (((b.bytes.map BitVec.toNat).drop 4).take 2) = 1) &&
    !m.any (fun kv => kv.2.type == 1 && kv.2.side == d))
  if variantLayers v = 0 then mountFail 3 2 s
  else if half then mountFail 4 3 s
  else
    let id := (mountId m).getD 0
    let ds := if (mountId m).isSome then (m.map Prod.snd).filter (fun b => blockId b == id) else []
    let blank := (mountId m).isNone
    let ins := (ds.filter (fun b => b.type == 4)).flatMap blockIntents
    let (k, w, clean) := foundFrontier ins bs blank
    let s := s |> setDisc (discFound v id bs ds k) |> showDla v k w clean blank |> showRuns runs |> mountKey ds
    let s := ((openRelocs s).zip (relocs ++ List.replicate 4096 2)).foldl (fun t x => resolveReloc x.1 x.2.val t) s
    let s := s |> resolveSeal 0 (seals.getD 0 []) |> resolveSeal 1 (seals.getD 1 [])
    mounted v (b2n (!clean) + 2 * b2n blank + 4 * sealState 0 s + 16 * sealState 1 s) s

/-- MMC profiles of legacy discs in the order of R467; event 0x0010 carries the index. -/
def legacyProfiles : List Nat := [ 0x0008, 0x0010, 0x0011, 0x0015, 0x0012, 0x001B, 0x002B, 0x0040, 0x0041, 0x0043 ]

/-- A legacy mount to its end (R74, R350). -/
def mountLegacy (profile layers last : Nat) (blank readOnly : Bool) (nwa : Option Nat) (s : State) : State :=
  let p := FMT.page
  if !legacyProfiles.contains profile then mountFail 3 2 s
  else
    s |> setDisc { nwa := nwa } |> fset p FMT.MEDIA_VARIANT 0 |> fset p FMT.MEDIA_PROFILE profile |> fset p FMT.MEDIA_LAYERS layers
      |> fset p FMT.LAST_LBA last |> fset p FMT.STATUS_LEGACY 1 |> fsetB p FMT.STATUS_READ_ONLY (readOnly || !([ 0x0041, 0x0043 ].contains profile))
      |> fsetB p FMT.STATUS_BLANK blank |> fset p FMT.STATUS_UNCLEAN 0 |> setVault { s.vault with descr := none, prepare := none } |> enforce false
      |> mounted (0x80 + (legacyProfiles.findIdx (· == profile))) (2 * b2n blank)

/-- DLA_MOUNT (R570), with a legacy disc's mount of R74. -/
def execDlaMount (m : MountIn) (s : State) : Res :=
  .next (if fget FMT.page FMT.STATUS_STATE s ≠ 1 then s
    else match m with
      | .dla v bs runs relocs seals => mountDla v.toNat bs (runs.map BitVec.toNat) relocs seals s
      | .legacy pr l last blank ro nwa => mountLegacy pr.toNat l.toNat last.toNat blank ro nwa s)

/-! ## Unmounting (R473, R576) -/

/-- A head's lens is retracted. -/
def lensBack (h : Nat) (s : State) : Bool := getLoop (4 * h) s == 6 || getLoop (4 * h) s == 0

/-- The unloaded safe state (R473). -/
def safeState (s : State) : Bool :=
  fget FMT.page FMT.STATUS_STATE s != 2 && fget FMT.page FMT.STATUS_STATE s != 1 && spinAtRest s && lensBack 0 s && lensBack 1 s &&
    !writing 0 s && !writing 1 s

/-- The disc is dismounted: what the device knew of it goes, and open streams are freed. -/
def dismount (s : State) : State :=
  let p := FMT.page
  let fs := [ FMT.STATUS_UNCLEAN, FMT.STATUS_BLANK, FMT.STATUS_READ_ONLY, FMT.STATUS_LEGACY, FMT.MEDIA_VARIANT, FMT.MEDIA_PROFILE, FMT.MEDIA_LAYERS,
    FMT.DISC_ID_LO, FMT.DISC_ID_HI, FMT.LAST_LBA, FMT.ENC_DESC, FMT.ENC_WITHHELD, FMT.DCZ_FREE_0, FMT.DCZ_FREE_1, FMT.SPARE_FREE_0, FMT.SPARE_FREE_1 ] ++
    (List.range 4).map FMT.WRAP_ID.ix ++ (List.range 16).map FMT.DLGEN.ix
  let s := s |> setSeal 0 0 |> setSeal 1 0
  { s with disc := {}, ends := [], encoded := [], blanks := [], cl := { s.cl with strms := [] }, vault := { s.vault with descr := none, prepare := none } }
    |> showStreams |> showCopies 0 |> showCopies 1 |> fclrs p fs |> fset p FMT.STATUS_STATE 0 |> raise p FMT.iUNMOUNTED
    |> fset ENC.page ENC.STATUS_FRONTIER_VALID 0 |> fset XTS.page XTS.STATUS_ENFORCED 0 |> fset XTS.page XTS.STATUS_ENC_DISC 0

/-- Commands that need the disc complete MEDIUM_ABSENT, the one named apart. -/
def endDiscCmds (but : Nat) (s : State) : State :=
  s.cl.order.foldl (fun t x =>
    match t.cl.cmds.find x with
    | some c =>
      if x ≠ but && !c.ended && c.status.isNone && (c.clustered || c.op = 4 || c.op = 5 || c.op = 6 || c.waitDisc) then
        let t := setCl { t.cl with reqs := t.cl.reqs.filter (fun r => r.tag != x), ctxWait := t.cl.ctxWait.erase x } t
        modCmd x (fun c => { c with ended := true, waitDisc := false, placed := true, outcomes := c.outcomes ++ [0x50] }) t
      else t
    | none => t) s

/-- The clean-unmount entries on the unsealed sides with a head in service, and how many were recorded (R348, R576). -/
def unmountEntries (s : State) : Nat × State :=
  if legacyDisc s || s.disc.identities = 0 then (0, s)
  else
    let s := [ 0, 1 ].foldl (fun t d => (List.range (discLayers t)).foldl (fun u l =>
      if inService d u && u.disc.pending.any (fun kv => psaSide kv.1 == d && psaLayer kv.1 == l) then (recordDefects d l false u).getD u else u) t) s
    let ds := [ 0, 1 ].filter (fun d => sealState d s != 2 && inService d s)
    let w := wseq s + ds.length
    ds.foldl (fun (x : Nat × State) d =>
      match recordIntent ⟨4, 2, d, 0xFF, 0, 0, fget ENC.page ENC.FRONTIER x.2, w⟩ false x.2 with
      | some t => (x.1 + 1, t)
      | none => x) (0, s)

/-- Steps 1 and 2 of R576, with event 0x0015. -/
def unmountNow (release : Bool) (but : Nat) (s : State) : State :=
  let s := s |> fset FMT.page FMT.STATUS_STATE 4 |> endDiscCmds but
  let (n, s) := unmountEntries s
  s |> zeroiseKey 1 |> dismount |> setDev { s.dev with noAuto := true } |> emit 0x0015 srcAon 0 (b2n release) n |> mediaEvent 3

/-- Commands that need the disc and were accepted before a tag's have completed. -/
def earlierDone (t : Nat) (s : State) : Bool :=
  (before t s).all (fun c => !(c.clustered || c.op == 4 || c.op == 5 || c.op == 6))

/-- An UNMOUNT goes on as far as it can. -/
def unmountStep (t : Nat) (c : Cmd) (s : State) : State :=
  let st := fget FMT.page FMT.STATUS_STATE s
  let release := bit c.arg0 0
  if st = 1 then s
  else if st = 2 then
    if !earlierDone t s then s
    else
      let s := s |> unmountNow release t |> modCmd t (fun c => { c with phase := 1 })
      if release then s |> towardsSafe |> (fun u => if safeState u then endNow t 0x00 u else u)
      else s |> parkHead 0 |> parkHead 1 |> endNow t 0x00
  else
    let code := if c.phase = 1 then 0x00 else 0x21
    if !release || safeState s then endNow t code s else towardsSafe s

/-- UNMOUNT (R576): its acceptance, or one that waits goes on. -/
def execUnmount (sub : Option Submit) (s : State) : Res :=
  .next (match sub with
    | some b => submit 11 b id unmountStep s
    | none => s.cl.order.foldl (fun t x =>
        match t.cl.cmds.find x with
        | some c => if c.op = 11 && !c.ended then unmountStep x c t else t
        | none => t) s)

end Sys2Proof.Machine
end

