-- ==== Sys2Proof/Machine/Boot.lean ====
section
/-!
DEFINITION. Start-up: the boot ROM, the choice of an image, recovery, and the release of a reset (R137, R557 to R567).
-/
namespace Sys2Proof.Machine

/-! ## Boot control (R561, R562) -/

/-- A boot control copy: generation, PREFER, TRIAL, TRIES. -/
structure BootCtl where
  gen : Nat
  prefer : Nat
  trial : Nat
  tries : Nat
  deriving DecidableEq, Repr

/-- The copy at a place, when it is valid. -/
def bootCopy (k : Nat) (s : State) : Option BootCtl :=
  let b := flashBytes (0x1000 * k) 32 s
  if ofLe (b.take 4) = 0x4C544342 && crc32c (b.take 28) = ofLe (b.drop 28) then
    some ⟨ofLe ((b.drop 4).take 8), b.getD 12 0 % 2, b.getD 13 0, b.getD 14 0⟩
  else none

/-- The copy that governs, and the place of the other. -/
def bootCtl (s : State) : BootCtl × Nat :=
  match bootCopy 0 s, bootCopy 1 s with
  | some a, some b => if a.gen < b.gen then (b, 0) else (a, 1)
  | some a, none => (a, 1)
  | none, some b => (b, 0)
  | none, none => (⟨0, 0, 0, 0⟩, 0)

/-- The bytes of a copy of the next generation. -/
def bootCopyBytes (c : BootCtl) : List Nat :=
  let b := leBytes 4 0x4C544342 ++ leBytes 8 c.gen ++ [ c.prefer, c.trial, c.tries ] ++ List.replicate 13 0
  b ++ leBytes 4 (crc32c b)

/-- A copy recorded by the boot ROM over the one that does not govern. -/
def recordCtl (prefer trial tries : Nat) (s : State) : State :=
  let (c, k) := bootCtl s
  s |> flashErase (0x1000 * k) (0x1000 * (k + 1)) |> flashStore (0x1000 * k) (bootCopyBytes ⟨c.gen + 1, prefer, trial, tries⟩)

/-- BOOT_CTL with GO (R562): a copy is to be recorded, or the running image is confirmed; ignored while one is. -/
def bootCtlGo (s : State) : State :=
  let p := DEV.page
  if fon p DEV.STATUS_BOOT_CTL_BUSY s then s
  else
    let (c, k) := bootCtl s
    let n : BootCtl := if fon p DEV.BOOT_CTL_CONFIRM s then ⟨c.gen + 1, c.prefer, 0, 0⟩
      else ⟨c.gen + 1, fget p DEV.BOOT_CTL_PREFER s, fget p DEV.BOOT_CTL_TRIAL s, 0⟩
    s |> setDev { s.dev with copy := some (0x1000 * k, bootCopyBytes n) } |> fset p DEV.STATUS_BOOT_CTL_BUSY 1

/-- BOOT_CTL_WRITE (R562). -/
def execBootCtlWrite (prefer trial confirm : Bool) (s : State) : Res :=
  .next (s |> fsetB DEV.page DEV.BOOT_CTL_PREFER prefer |> fsetB DEV.page DEV.BOOT_CTL_TRIAL trial
    |> fsetB DEV.page DEV.BOOT_CTL_CONFIRM confirm |> bootCtlGo)

/-- BOOT_CONTROL_COPY_RECORDED (R542, R562). -/
def execBootControlCopyRecorded (s : State) : Res :=
  let p := DEV.page
  .next (if s.dev.copy.isNone || supplyWarned s then s
    else
      let s := finishCopy s
      let s := setDev { s.dev with copy := none } s
      s |> fset p DEV.STATUS_BOOT_CTL_BUSY 0 |> raise p DEV.iBOOT_CTL_DONE |> fset p DEV.BOOT_INFO_TRIES (bootCtl s).1.tries
        |> (if fon p DEV.BOOT_CTL_CONFIRM s then fset p DEV.STATUS_TRIAL 0 else id))

/-! ## Images (R517 to R519) -/

/-- First byte of an image slot (R560). -/
def slotBase (slot : Nat) : Nat := if slot = 0 then 0x00100000 else 0x01900000

/-- The manifest of a slot, with its signatures. -/
def manifest (slot : Nat) (s : State) : List Nat :=
  let n := ofLe (flashBytes (slotBase slot + 28) 2 s)
  flashBytes (slotBase slot) (128 + 80 * min n 32 + 9254) s

/-- The entries of a slot's component table. -/
def components (slot : Nat) (s : State) : List (List Nat) :=
  let m := manifest slot s
  (List.range (ofLe ((m.drop 28).take 2))).map (fun i => (m.drop (128 + 80 * i)).take 80)

/-- A component's bytes. -/
def componentBytes (slot : Nat) (e : List Nat) (s : State) : List Nat :=
  flashBytes (slotBase slot + ofLe (e.take 4)) (ofLe ((e.drop 4).take 4)) s

/-- Zhevhel's public key in a slot. -/
def slotKey (slot : Nat) (s : State) : List Nat := flashBytes (slotBase slot + 0x3000) 2592 s

/-- The test of R519 that a slot fails, or 0. -/
def imageCause (slot : Nat) (s : State) : Nat :=
  let c := verdict (manifest slot s) (slotKey slot s) s
  if c ≠ 0 then c
  else if (components slot s).all (fun e => sha3 (componentBytes slot e s) = (e.drop 16).take 64) then 0 else 6

/-- A rejected slot recorded (R519; event 0x600B). -/
def rejectImage (slot cause : Nat) (s : State) : State :=
  s |> fset DEV.page (if slot = 0 then DEV.BOOT_INFO_CAUSE_A else DEV.BOOT_INFO_CAUSE_B) cause |> emit 0x600B srcVault 0xFF slot cause

/-! ## Stores (R137) -/

/-- The words of an engine's component: four bytes of format, then the vendor region. -/
def engineWords (b : List Nat) : List Nat := (List.range 7168).map (fun i => ofLe ((b.drop (4 + 4 * i)).take 4))

/-- The words of a store as a store's entries from a key on; zeros are not listed. -/
def storeWords (k : Nat) (ws : List Nat) : Store Nat := ((ws.mapIdx (fun i w => (k + i, w))).filter (fun kv => kv.2 ≠ 0))

/-- The component of a kind and engine index. -/
def findComponent (kind ix slot : Nat) (s : State) : Option (List Nat) :=
  ((components slot s).find? (fun e => e.getD 8 0 = kind && (kind ≠ 5 || e.getD 9 0 = ix))).map (fun e => componentBytes slot e s)

/-- The format of an engine: 1 for two-level. -/
def engineFormat (e slot : Nat) (s : State) : Nat := ((findComponent 5 e slot s).getD []).getD 0 0 % 2

/-- Every store of the control engines loaded from a slot; every customer region filled with RETC (R137). -/
def loadStores (slot : Nat) (s : State) : State :=
  let eng := fun (e : Nat) =>
    let b := (findComponent 5 e slot s).getD []
    storeWords (8192 * e) (engineWords b ++ List.replicate 1024 (if b.getD 0 0 % 2 = 0 then 0x8C000000 else 0xFFC00000))
  let nano := fun (n : Nat) =>
    let b := (findComponent (n + 2) 0 slot s).getD []
    storeWords (1024 * n) ((List.range 1024).map (fun i => ofLe ((b.drop (16 * i)).take 16)))
  let t := { s with ustore := (List.range 20).flatMap eng, nstore := (List.range 3).flatMap nano }
  (List.range 20).foldl (fun u e => u |> fset (ENG.page e) ENG.STATUS_UFMT (engineFormat e slot s) |> fset (ENG.page e) ENG.STATUS_LOCKED 1
    |> fset (ENG.page e) ENG.CUST_CTRL_ARM 0 |> fset (ENG.page e) ENG.STATUS_STATE 1 |> fset (ENG.page e) ENG.PC 0) t

/-! ## The boot ROM (R562, R565) -/

/-- What the boot ROM measures first (R522, kinds 0x01 and 0x02). -/
def bootMeasures (s : State) : State :=
  s |> measure 0x01 0 (sha3 Config.bootRom)
    |> measure 0x02 0 (sha3 (Config.vendorRoot ++ ownerHash s ++ [ s.otp.rollback % 256, s.otp.rollback / 256, s.otp.floor % 256, s.otp.floor / 256,
        b2n s.prof, fget DEV.page DEV.STRAP_LIM_SEL s ]))

/-- Firmware of a slot runs: stores loaded, components measured, the ports attached and the links brought up. -/
def startImage (slot : Nat) (s : State) : State :=
  let p := DEV.page
  let m := manifest slot s
  let n := ofLe ((m.drop 28).take 2)
  let svn := ofLe ((m.drop 12).take 4)
  let s := s |> measure 0x03 slot (sha3 (m.take (128 + 80 * n)))
  let s := ((components slot s).zipIdx).foldl (fun t x => measure 0x04 x.2 ((x.1.drop 16).take 64) t) s
  s |> loadStores slot |> setVault { s.vault with imageKey := slotKey slot s }
    |> fset p DEV.STATUS_SLOT slot |> fset p DEV.BOOT_INFO_SVN svn |> fset p DEV.STATUS_BOOT_STATE 2 |> raise p DEV.iFW_STARTED
    |> kickWatchdog |> fset PPC.page PPC.STATUS_RUNNING 0xF |> emit 0x0001 srcAon 0 slot svn
    |> fset TRF.page TRF.CTRL_EN 1 |> fset DRM.page DRM.CTRL_EN 1 |> fset SPN.page SPN.CTRL_EN 1 |> fset (SLD.page 0) SLD.CTRL_EN 1
    |> fset (SLD.page 1) SLD.CTRL_EN 1 |> linksUp 0 |> linksUp 1 |> homeStart 0 |> homeStart 1

/-- RECOVERY (R564). -/
def enterRecovery (a b : Nat) (s : State) : State :=
  let p := DEV.page
  s |> fset p DEV.STATUS_BOOT_STATE 4 |> fault p 0x01 |> raise p DEV.iRECOVERY |> emit 0x0003 srcAon 0 a b

/-- The image the boot ROM starts (R562): a slot, or none in RECOVERY. -/
def chooseImage (s : State) : Option Nat × State :=
  let p := DEV.page
  let (c, _) := bootCtl s
  let worn := c.trial = 1 && 3 ≤ c.tries
  let f := if worn then 1 - c.prefer else c.prefer
  let o := 1 - f
  let s := if worn then s |> recordCtl f 0 0 |> emit 0x0004 srcAon 0 f 0 else s
  let trial := c.trial = 1 && !worn
  let x := imageCause f s
  if x = 0 then
    let s := if trial then recordCtl f 1 (c.tries + 1) s else s
    (some f, s |> fsetB p DEV.STATUS_TRIAL trial |> fset p DEV.BOOT_INFO_TRIES (bootCtl s).1.tries)
  else
    let s := rejectImage f x s
    let y := imageCause o s
    if y = 0 then
      (some o, s |> fset p DEV.BOOT_INFO_FALLBACK 1 |> raise p DEV.iFALLBACK |> emit 0x0004 srcAon 0 o x
        |> fset p DEV.BOOT_INFO_TRIES (bootCtl s).1.tries)
    else
      let s := rejectImage o y s
      (none, enterRecovery (if f = 0 then x else y) (if f = 0 then y else x) s)

/-- DRAM bring-up (R384, R565 step 3, R637). -/
def trainDram (b : BootIn) (s : State) : State :=
  let p := DRM.page
  let ch := b.slow.toNat
  if ch ≠ 0 && b.dead then
    s |> fsetB p DRM.STATUS_CH0_OK (!bit ch 0) |> fsetB p DRM.STATUS_CH1_OK (!bit ch 1) |> fault p 0x01 |> raise p DRM.iTRAIN_FAIL
      |> fault DEV.page 0x02
  else
    let s := s |> fset p DRM.STATUS_CAP (2 + b.cap.val) |> fset p DRM.USABLE_MB (3840 * 2 ^ b.cap.val) |> fset p DRM.STATUS_TRAINED 1
      |> fset p DRM.STATUS_CH0_OK 1 |> fset p DRM.STATUS_CH1_OK 1 |> fsetB p DRM.STATUS_SLOW (ch ≠ 0)
    if ch = 0 then s else s |> fault p 0x03 |> emit 0x7024 srcMem 0 ch 6400

/-- The boot ROM's run (R565 steps 1 to 8). -/
def boot (b : BootIn) (s : State) : State :=
  let s := s |> fset CLK.page CLK.STATUS_REF_OK 1 |> fset CLK.page CLK.STATUS_LF_OK 1 |> fset CLK.page CLK.STATUS_LOCK 0xFF
    |> setDev { s.dev with bootAt := s.time } |> bootMeasures
  match chooseImage s with
  | (none, s) => s
  | (some slot, s) =>
    let s := trainDram b s
    if b.slow ≠ 0 && b.dead then s else startImage slot s

/-- POWER_ON_RESET (R558, R559, R584, R493). -/
def execPowerOnReset (b : BootIn) (limSel : Fin 4) (s : State) : Res :=
  let p := DEV.page
  let s := keepNothing s
  let s := { s with prof := b.prof }
  .next (s |> fset p DEV.POWER_CYCLES (min (2 ^ 24 - 1) (fget p DEV.POWER_CYCLES s + 1)) |> fsetB p DEV.STRAP_PROF b.prof |> fset p DEV.STRAP_LIM_SEL limSel
    |> logStart |> vaultStart b.tags |> boot b)

/-- A reset's release (R559, R567): event 0x0005; the boot ROM runs, after a freeze where the STILL pin is asserted. -/
def releaseReset (b : BootIn) (h : Hold) (s : State) : State :=
  let p := DEV.page
  let s := { s with prof := b.prof } |> setDev { s.dev with hold := none } |> fsetB p DEV.STRAP_PROF b.prof
    |> emit 0x0005 srcAon (if h.first = 4 then h.req else 0xFF) (fget p DEV.RESET_CAUSE s) ((s.time - h.since) / 25)
  if fon STL.page STL.STATUS_PIN s then s |> freeze true |> (fun t => setDev { t.dev with bootLater := some b } t)
  else boot b s

/-- RESET_RELEASE (R567): at least 20 µs after the trigger's end, and 100 µs. -/
def execResetRelease (b : BootIn) (s : State) : Res :=
  .next (match s.dev.hold with
    | some h => if h.first = 0 then s else releaseReset b h s
    | none => s)

/-- STILL_RELEASE (R593): the pin deasserts, or RELEASE is written; a start put off by the freeze runs now. -/
def execStillRelease (pin : Bool) (s : State) : Res :=
  let p := STL.page
  let s := if pin then fset p STL.STATUS_PIN 0 s else s
  .next (if fon p STL.STATUS_FROZEN s && s.obs.byPin == pin && !fon p STL.STATUS_PIN s then
    match s.dev.bootLater with
    | some d => s |> unfrozen |> (fun t => setDev { t.dev with bootLater := none } t) |> boot d
    | none => release s
  else s)

/-- DRIVE_READY (R565 step 9). -/
def execDriveReady (s : State) : Res :=
  let p := DEV.page
  .next (if fget p DEV.STATUS_BOOT_STATE s ≠ 2 then s
    else
      let ms := min 65535 ((s.time - s.dev.bootAt) / 25000)
      let s := s |> fset p DEV.STATUS_BOOT_STATE 3 |> fset p DEV.BOOT_MS ms |> raise p DEV.iREADY
        |> emit 0x0002 srcAon 0 ms (b2n (inService 0 s) + 2 * b2n (inService 1 s))
      if fon LIB.page LIB.CTRL_AUTO_MOUNT s && fon LIB.page LIB.STATUS_DISC_PRES s && !clampReq s then startMount s
      else s.cl.order.foldl (fun t x =>
        match t.cl.cmds.find x with
        | some c => if c.waitDisc && !discAwaited t then t |> modCmd x (fun c => { c with waitDisc := false, placed := true }) |> endNow x 0x50 else t
        | none => t) s)

/-! ## Recovery writes (R564) -/

/-- Four bytes programmed at RCV_ADDR; the first word of a sector erases it. -/
def recoveryWrite (v : Nat) (s : State) : State :=
  let p := DEV.page
  let a := fget p DEV.RCV_ADDR s / 4 * 4
  if fget p DEV.STATUS_BOOT_STATE s ≠ 4 || a < 0x00100000 || 0x030FFFFF < a then sticky p DEV.kRCV_REJ s
  else s |> (if a % 0x10000 = 0 then flashErase a (a + 0x10000) else id) |> flashStore a (leBytes 4 v)
    |> fset p DEV.RCV_ADDR (a + 4) |> fset p DEV.STATUS_RCV_BUSY 1

/-- RCV_DATA_WRITE (R564). -/
def execRcvDataWrite (v : BitVec 32) (s : State) : Res := .next (recoveryWrite v.toNat s)

/-- RECOVERY_WRITE_DONE (R564). -/
def execRecoveryWriteDone (s : State) : Res := .next (fset DEV.page DEV.STATUS_RCV_BUSY 0 s)

end Sys2Proof.Machine
end

