-- ==== Sys2Proof/Machine/Mail.lean ====
section
/-!
DEFINITION. The mailboxes and GUST (R477 to R481).
-/
namespace Sys2Proof.Machine

/-- A wake source is seen while the drive is in LULL or entering it (R534, R536). -/
def wakeSeen (b : Nat) (s : State) : State :=
  if (modeNow s = 4 || transDst s = some 4) && bit (fget PWR.page PWR.WAKE_EN s) b then
    setPwr { s.pwr with wake := setBit s.pwr.wake b } s
  else s

/-- A mailbox is full. -/
def mbxFull (m : Nat) (s : State) : Bool := fon MBX.page (MBX.MSTAT_FULL.ix m) s

/-- FULL of a mailbox set or cleared. -/
def setFull (m : Nat) (on : Bool) (s : State) : State :=
  let p := MBX.page
  let v := fget p MBX.STATUS_FULL s
  s |> fsetB p (MBX.MSTAT_FULL.ix m) on |> fset p MBX.STATUS_FULL (if on then setBit v m else clrBit v m)

/-- Why a write to DATA or GUST is discarded: 1 full, 2 claimed by another, or 0 (R478). -/
def mbxRefuses (m req : Nat) (s : State) : Nat :=
  if mbxFull m s then 1 else match (s.claim (claimMbx m)).holder with | some h => if h = req then 0 else 2 | none => 0

/-- A discarded write; event 0x5011 at most once per mailbox per millisecond (R478). -/
def mbxDiscard (m req cause : Nat) (s : State) : State :=
  let p := MBX.page
  let due := match s.port.rejAt.find m with | some t => decide (t + 25000 ≤ s.time) | none => true
  s |> sticky p (if cause = 1 then MBX.kWR_FULL else MBX.kNOT_OWNER) |> fset p MBX.REJ_REQ req |> fset p MBX.REJ_MBX m
    |> cnt p (MBX.REJ_CNT.ix m) MBX.kCNT_SAT
    |> (if due then fun t => t |> setPorts { t.port with rejAt := t.port.rejAt.insert m t.time } |> emit 0x5011 srcHost req m cause else id)

/-- The reader's interrupt of a ring: at once, or for an outbound mailbox when the host link resumes (R480). -/
def ringOut (m : Nat) (s : State) : State :=
  let p := MBX.page
  if 4 ≤ m && fon USB.page USB.STATUS_LOW_POWER s then
    s |> fset p hdrIntStatus (setBit (fget p hdrIntStatus s) m) |> setPorts { s.port with ringLater := s.port.ringLater ++ [m] }
  else raise p m s

/-- GUST with RING (R477, R480): the timeout runs from the ring, or for an inbound mailbox in LULL from the end of the
wake. -/
def gustRing (m req len : Nat) (s : State) : State :=
  let p := MBX.page
  let c := mbxRefuses m req s
  if c ≠ 0 then mbxDiscard m req c s
  else
    let sleeping := m < 4 && (modeNow s = 4 || transDst s = some 4)
    s |> setFull m true |> fset p (MBX.MSTAT_LEN.ix m) (if len = 0 || 16 < len then 16 else len)
      |> fset p (MBX.MSTAT_SEQ.ix m) (fget p (MBX.MSTAT_SEQ.ix m) s + 1) |> pmc 0x15 m 1
      |> (if sleeping then
            fun t => t |> setPorts { t.port with ringLater := t.port.ringLater ++ [m] }
              |> (if fon p MBX.CFG_WAKE_EN t then wakeSeen 0 else id)
          else fun t => setPorts { t.port with rungAt := t.port.rungAt.insert m t.time } t)
      |> ringOut m

/-- A write of GUST; without RING it does nothing but may be discarded. -/
def gustWrite (m req v : Nat) (s : State) : State :=
  if bit v 31 then gustRing m req (v % 32) s
  else
    let c := mbxRefuses m req s
    if c ≠ 0 then mbxDiscard m req c s else s

/-- GUST (R477). -/
def execGust (m : Fin 8) (req : Fin 28) (v : BitVec 32) (s : State) : Res := .next (gustWrite m req v.toNat s)

/-- A mailbox emptied: FULL and the claim go, and its timeout stops. -/
def mbxEmpty (m : Nat) (s : State) : State :=
  s |> setFull m false |> releaseClaim (claimMbx m)
    |> (fun t => setPorts { t.port with rungAt := t.port.rungAt.erase m, ringLater := t.port.ringLater.filter (· != m) } t)

/-- ACK (R477, R479). -/
def mbxAck (m : Nat) (s : State) : State :=
  let p := MBX.page
  if !mbxFull m s then sticky p MBX.kLATE_ACK s
  else s |> mbxEmpty m |> cnt p (MBX.DELIV_CNT.ix m) MBX.kCNT_SAT |> raise p (8 + m)

/-- MAILBOX_ACK (R477, R479): a WITHDRAW that arrives in the same cycle is ignored. -/
def execMailboxAck (m : Fin 8) (_withdraw : Bool) (s : State) : Res := .next (mbxAck m s)

/-- WITHDRAW (R479). -/
def mbxWithdraw (m : Nat) (s : State) : State := if mbxFull m s then mbxEmpty m s else s

/-- WITHDRAW (R479). -/
def execWithdraw (m : Fin 8) (s : State) : Res := .next (mbxWithdraw m s)

/-- MBX_CLAIM (R478, R597). -/
def execMbxClaim (m : Fin 8) (reqs : List (Fin 28)) (s : State) : Res := .next (claimReads (claimMbx m) (reqs.map Fin.val) s)

/-- A write of a DATA word (R478). -/
def mbxData (m word req v : Nat) (s : State) : State :=
  let c := mbxRefuses m req s
  if c ≠ 0 then mbxDiscard m req c s else fset MBX.page (MBX.DATA.ix2 m word) v s

/-- MAILBOX_DATA_WRITE (R478). -/
def execMailboxDataWrite (m : Fin 8) (word : Fin 16) (req : Fin 28) (v : BitVec 32) (s : State) : Res :=
  .next (mbxData m word req v.toNat s)

/-- Who rang a mailbox, as far as the device knows: its claim's holder (R482). -/
def mbxParty (m : Nat) (s : State) : Nat := ((s.claim (claimMbx m)).holder).getD 0xFF

/-- ACK_TIMEOUT (R480): ACK_TO_MS of FULL have passed; once per ring. -/
def execAckTimeout (m : Fin 8) (s : State) : Res :=
  let p := MBX.page
  .next (if !mbxFull m s || fget p MBX.CFG_ACK_TO_MS s = 0 || (s.port.rungAt.find m).isNone then s
    else s |> setPorts { s.port with rungAt := s.port.rungAt.erase m } |> raise p (16 + m)
      |> cnt p (MBX.TIMEOUT_CNT.ix m) MBX.kCNT_SAT |> emit 0x5010 srcHost (mbxParty m s) m (fget p (MBX.MSTAT_SEQ.ix m) s))

/-- The host link's state shown; on its resumption the outbound vectors that waited are sent (R480). -/
def hostLink (low : Bool) (s : State) : State :=
  let p := USB.page
  if low then fsetB p USB.STATUS_LOW_POWER (fon p USB.CTRL_LPM_EN s || fon p USB.STATUS_LOW_POWER s) s
  else
    let late := s.port.ringLater.any (fun m => decide (4 ≤ m))
    s |> fset p USB.STATUS_LOW_POWER 0 |> setPorts { s.port with ringLater := s.port.ringLater.filter (fun m => decide (m < 4)) }
      |> (fun t => if late && pageInt MBX.page t then routeMsix MBX.page t else t)

/-- HOST_LINK_RESUME (R480): outside LULL. In LULL a resumption is a wake event (R536). -/
def execHostLinkResume (low : Bool) (s : State) : Res :=
  .next (if modeNow s = 4 then (if low then s else wakeSeen 1 s) else hostLink low s)

end Sys2Proof.Machine
end

