-- ==== Sys2Proof/Machine/Ports.lean ====
section
/-!
DEFINITION. The host ports' links and resets, and the PCIe function (R455 to R463, R566).
-/
namespace Sys2Proof.Machine

/-! ## Ending a port's commands (R440, R461) -/

/-- A translated command stopped as ABORT stops one. -/
def abortTag (t : Nat) (s : State) : State :=
  match s.cl.cmds.find t with
  | some c => if isFinal t c s || c.phase = 2 then s else s |> stopCmd t 0x20 |> emit 0x5003 srcHost c.req t c.seq
  | none => s

/-- Every outstanding command of an MMC-based port that `pick` names is ended. -/
def abortPort (port : Nat) (pick : Nat → Bool) (s : State) : State :=
  let ts := s.cl.order.filter (fun t => match (s.cl.cmds.find t).bind Cmd.job with | some j => j.port == port && pick j.id | none => false)
  let s := setPorts { s.port with syncs := s.port.syncs.filter (fun x => !(x.1 == port && pick x.2.1)),
                                  unload := s.port.unload.map (fun u => { u with jobs := u.jobs.filter (fun j => !(j.port == port && pick j.id)) }) } s
  ts.foldl (fun u t => abortTag t u) s

/-- ABORT_TASK (R461). -/
def execAbortTask (tag : BitVec 16) (s : State) : Res := .next (abortPort 0 (· == tag.toNat) s)
/-- ABORT_TASK_SET (R461). -/
def execAbortTaskSet (s : State) : Res := .next (abortPort 0 (fun _ => true) s)
/-- LOGICAL_UNIT_RESET (R461). -/
def execLogicalUnitReset (s : State) : Res := .next (abortPort 0 (fun _ => true) s)
/-- BULK_ONLY_MASS_STORAGE_RESET (R461). -/
def execBulkOnlyMassStorageReset (s : State) : Res := .next (abortPort 1 (fun _ => true) s)
/-- GET_MAX_LUN (R461). -/
def execGetMaxLun (s : State) : Res := .next (send (.usbControl [ 0 ]) s)

/-! ## The USB link and its tunnels (R455, R456, R482) -/

/-- The alternate setting in use: UAS needs UAS_EN and a link faster than USB 2.0 (R460). -/
def setAlt (alt : Nat) (s : State) : State :=
  let p := USB.page
  let uas := decide (alt = 2) && fon p USB.CTRL_UAS_EN s && fget p USB.STATUS_ATTACH s != 1
  s |> fsetB p USB.STATUS_UAS_ACTIVE uas |> fsetB p USB.STATUS_BOT_ACTIVE (alt != 0 && !uas)

/-- The PCIe tunnel goes up or down. -/
def setTunnel (up : Bool) (s : State) : State :=
  let p := USB.page
  if fon p USB.STATUS_PCIE_UP s = up then s
  else s |> fsetB p USB.STATUS_PCIE_UP up |> raise p (if up then USB.iPCIE_UP else USB.iPCIE_DOWN)

/-- A detachment: tunnels and settings go, and the USB port's commands end. -/
def usbDetach (s : State) : State :=
  let p := USB.page
  if fget p USB.STATUS_ATTACH s = 0 then s
  else s |> fset p USB.STATUS_ATTACH 0 |> setTunnel false |> fset p USB.STATUS_USB3_TUN_UP 0 |> setAlt 0 |> fset p USB.STATUS_LOW_POWER 0
    |> abortPort 0 (fun _ => true) |> abortPort 1 (fun _ => true) |> raise p USB.iDETACHED |> emit 0x5012 srcHost 0xFF 0 1

/-- The port attaches while EN is 1 and DISCONNECT is 0. -/
def usbOn (s : State) : Bool := fon USB.page USB.CTRL_EN s && !fon USB.page USB.CTRL_DISCONNECT s

/-- USB_ATTACHMENT_CHANGE (R455, R456, R482). -/
def execUsbAttachmentChange (attach : Fin 6) (alt : Fin 3) (failed : Bool) (s : State) : Res :=
  let p := USB.page
  .next (
    if failed then s |> fault p 0x01 |> cnt p USB.LINK_ERR_CNT USB.kCNT_SAT
    else if attach.val = 0 || !usbOn s then usbDetach s
    else
      let new := fget p USB.STATUS_ATTACH s != attach.val
      let s := s |> fset p USB.STATUS_ATTACH attach |> setAlt (if 4 ≤ attach.val then 0 else alt)
      if new then s |> raise p USB.iATTACHED |> emit 0x5012 srcHost 0xFF attach 0 else s)

/-- PCIE_TUNNEL_CHANGE (R455): only a USB4 host tunnels. -/
def execPcieTunnelChange (pcie usb3 : Bool) (alt : Fin 3) (refused : Bool) (s : State) : Res :=
  let p := USB.page
  .next (
    if fget p USB.STATUS_ATTACH s < 4 then s
    else
      let s := if refused then s |> fault p 0x02 |> cnt p USB.LINK_ERR_CNT USB.kCNT_SAT else s
      s |> setTunnel (pcie && fon p USB.CTRL_PCIE_TUN_EN s) |> fsetB p USB.STATUS_USB3_TUN_UP usb3 |> setAlt (if usb3 then alt else 0))

/-- USB_BUS_RESET (R566): the USB port only. -/
def execUsbBusReset (s : State) : Res :=
  .next (s |> raise USB.page USB.iBUS_RESET |> abortPort 0 (fun _ => true) |> abortPort 1 (fun _ => true) |> setAlt 0)

/-! ## The PCIe function (R457 to R459, R616) -/

/-- Ends of every command of a requester, as ABORT would, and how many there were. -/
def abortReq (req : Nat) (s : State) : Nat × State :=
  s.cl.order.foldl (fun (x : Nat × State) t =>
    match x.2.cl.cmds.find t with
    | some c => if c.req = req && !isFinal t c x.2 && c.phase ≠ 2 then (x.1 + 1, stopCmd t 0x20 x.2) else x
    | none => x) (0, s)

/-- The function's configuration space and its MSI-X table at their reset values. -/
def pcieReset (s : State) : State :=
  let p := USB.page
  { s with port := { s.port with pcie := [] }, msix := [], msixPend := 0, msixMask := false }
    |> fclrs p [ USB.PCIE_STATE_MPS, USB.PCIE_STATE_MRRS, USB.PCIE_STATE_BME, USB.PCIE_STATE_MSIX_EN, USB.PCIE_STATE_D3HOT ]

/-- FUNCTION_LEVEL_RESET (R459, R596). -/
def execFunctionLevelReset (s : State) : Res :=
  let (n, s) := abortReq 0 s
  .next (s |> pcieReset |> semDrop (· = 0) |> raise USB.page USB.iFLR |> emit 0x5019 srcHost 0 n 0)

/-- What waited for Bus Master Enable proceeds (R458). -/
def dmaGo (s : State) : State :=
  let s := s.cl.order.foldl (fun t x => transferAll x t) s
  (List.range 4).foldl (fun t q => postWaiting q 4096 [] t) s

/-- Messages of pending vectors that are no longer masked (R616). -/
def sendPending (s : State) : State :=
  if s.msixMask || !fon USB.page USB.PCIE_STATE_MSIX_EN s then s
  else (List.range 32).foldl (fun t v =>
    if bit t.msixPend v && !(t.msix.get v {}).masked then sendVector v { t with msixPend := clrBit t.msixPend v } else t) s

/-- PCIE_CONFIGURATION_WRITE (R457 to R459). -/
def execPcieConfigurationWrite (w : PcieCfg) (s : State) : Res :=
  let p := USB.page
  .next (match w with
    | .command bme => let s := fsetB p USB.PCIE_STATE_BME bme s; if bme then dmaGo s else s
    | .devControl mps mrrs => s |> fset p USB.PCIE_STATE_MPS mps.toNat |> fset p USB.PCIE_STATE_MRRS mrrs.toNat
    | .msix en mask => { s with msixMask := mask } |> fsetB p USB.PCIE_STATE_MSIX_EN en |> sendPending
    | .power d3 => fsetB p USB.PCIE_STATE_D3HOT d3 s
    | .other a v => setPorts { s.port with pcie := s.port.pcie.put a.toNat v.toNat 0 } s)

/-- A word of an MSI-X table entry. -/
def msixWord (word v : Nat) (e : MsixEntry) : MsixEntry :=
  if word = 0 then { e with addr := e.addr / 2 ^ 32 * 2 ^ 32 + v }
  else if word = 1 then { e with addr := e.addr % 2 ^ 32 + 2 ^ 32 * v }
  else if word = 2 then { e with data := v }
  else { e with masked := bit v 0 }

/-- MSI_X_TABLE_WRITE (R457, R616). -/
def execMsiXTableWrite (entry : Fin 32) (word : Fin 4) (v : BitVec 32) (s : State) : Res :=
  .next (sendPending { s with msix := s.msix.put entry (msixWord word v.toNat (s.msix.get entry {})) {} })

/-! ## SATA (R462, R463) -/

/-- SATA_LINK_CHANGE (R482). -/
def execSataLinkChange (speed : Fin 4) (failed : Bool) (s : State) : Res :=
  let p := SATA.page
  let v := if fon p SATA.CTRL_EN s then speed.val else 0
  let was := fon p SATA.STATUS_PHY_RDY s
  .next (
    if failed then fault p 0x01 s
    else
      let s := s |> fset p SATA.STATUS_SPEED v |> fsetB p SATA.STATUS_PHY_RDY (v ≠ 0)
      if v ≠ 0 && !was then s |> raise p SATA.iLINK_UP |> emit 0x5013 srcHost 0xFF v 0
      else if v = 0 && was then s |> fset p SATA.STATUS_PM 0 |> raise p SATA.iLINK_DOWN |> emit 0x5013 srcHost 0xFF 0 1
      else s)

/-- The port reset: its command ends, what the host had set goes, and it returns the packet signature (R462). -/
def sataReset (s : State) : State :=
  let p := SATA.page
  s |> abortPort 2 (fun _ => true)
    |> (fun t => setPorts { t.port with ataNotify := false, ataPm := false, ataXfer := 0, ataAsleep := false } t)
    |> fset p SATA.STATUS_CMD_ACTIVE 0 |> fset p SATA.STATUS_PM 0 |> send .signature

/-- COMRESET (R462): a wake event in LULL (R536). -/
def execComreset (s : State) : Res :=
  .next (if fon SATA.page SATA.CTRL_EN s then s |> raise SATA.page SATA.iCOMRESET |> wakeSeen 1 |> sataReset else s)

/-- An ATA command handled: none while the port is off, or asleep after SLEEP (R462). -/
def ataCommand (act : State → State) (s : State) : State :=
  if fon SATA.page SATA.CTRL_EN s && !s.port.ataAsleep then act s else s

/-- ABRT in the error register. -/
def ataAbort : State → State := send (.ata 0x04 0 [])
/-- A command's end without error. -/
def ataDone : State → State := send (.ata 0 0 [])

/-- SATA_NOP (R462). -/
def execSataNop (s : State) : Res := .next (ataCommand ataAbort s)
/-- DEVICE_RESET_ATA (R462). -/
def execDeviceResetAta (s : State) : Res := .next (ataCommand (fun t => t |> raise SATA.page SATA.iDEVICE_RESET |> sataReset) s)
/-- EXECUTE_DEVICE_DIAGNOSTIC (R462). -/
def execExecuteDeviceDiagnostic (s : State) : Res := .next (ataCommand (send (.ata 0x01 0 [])) s)
/-- STANDBY_IMMEDIATE (R462). -/
def execStandbyImmediate (s : State) : Res := .next (ataCommand (fun t => t |> askMode 3 false none |> ataDone) s)
/-- IDLE_IMMEDIATE (R462). -/
def execIdleImmediate (s : State) : Res := .next (ataCommand ataDone s)
/-- CHECK_POWER_MODE (R462). -/
def execCheckPowerMode (s : State) : Res :=
  .next (ataCommand (fun t => send (.ata 0 (if modeNow t ≤ 2 then 0xFF else 0x00) []) t) s)
/-- SLEEP (R462). -/
def execSleep (s : State) : Res :=
  .next (ataCommand (fun t => t |> askMode 4 false none |> ataDone |> (fun u => setPorts { u.port with ataAsleep := true } u)) s)
/-- UNSUPPORTED_ATA_COMMAND (R462). -/
def execUnsupportedAtaCommand (_op : BitVec 8) (s : State) : Res := .next (ataCommand ataAbort s)

/-- SET_FEATURES (R462): 0x03 sets the transfer mode; 0x10 and 0x90 enable and disable asynchronous notification (0x05) and
device-initiated power management (0x03). -/
def setFeatures (feature count : Nat) (s : State) : State :=
  let q := s.port
  if feature = 0x03 then s |> setPorts { q with ataXfer := count } |> ataDone
  else if (feature = 0x10 || feature = 0x90) && count = 0x05 then s |> setPorts { q with ataNotify := decide (feature = 0x10) } |> ataDone
  else if (feature = 0x10 || feature = 0x90) && count = 0x03 then s |> setPorts { q with ataPm := decide (feature = 0x10) } |> ataDone
  else ataAbort s

/-- SET_FEATURES (R462). -/
def execSetFeatures (feature count : BitVec 8) (s : State) : Res := .next (ataCommand (setFeatures feature.toNat count.toNat) s)

/-- A text of `n` characters, padded with spaces. -/
def padText (n : Nat) (t : List Nat) : List Nat := (t ++ List.replicate n 0x20).take n

/-- The serial number as 16 hexadecimal characters (R460). -/
def serialText (s : State) : List Nat :=
  (serialBytes s).reverse.flatMap (fun b => [ b / 16, b % 16 ].map (fun d => if d < 10 then 0x30 + d else 0x37 + d))

/-- IDENTIFY PACKET DEVICE data: word 0 is 0x85C0 (R462); the other words are left open. -/
def identifyData : List Nat := (List.range 256).flatMap (fun i => leBytes 2 (if i = 0 then 0x85C0 else Config.identifyWord i))

/-- IDENTIFY_PACKET_DEVICE (R462). -/
def execIdentifyPacketDevice (s : State) : Res := .next (ataCommand (send (.ata 0 0 identifyData)) s)

end Sys2Proof.Machine
end

