-- ==== Sys2Proof/Machine/Clamp.lean ====
section
/-!
DEFINITION. The library's inputs and the clamp handshake (R473 to R476).
-/
namespace Sys2Proof.Machine

/-- A mount that AUTO_MOUNT starts by itself, from the safe state and once the drive is ready (R476). -/
def autoMount (s : State) : State :=
  if fon LIB.page LIB.CTRL_AUTO_MOUNT s && fon LIB.page LIB.STATUS_DISC_PRES s && !clampReq s && !s.dev.noAuto && s.port.unload.isNone &&
      safeState s && fget DEV.page DEV.STATUS_BOOT_STATE s = 3 then startMount s
  else s

/-- Commands outstanding, for event 0x5015. -/
def outCount (s : State) : Nat := s.cl.order.length

/-- A running self-test completes ABORTED (R474 step 1). -/
def dropTest (s : State) : State :=
  match s.cl.test with
  | some x => (match s.cl.cmds.find x.tag with | some c => endTest x.tag 0x20 c s | none => s)
  | none => s

/-- CLAMP_REQ_ASSERTED (R474 step 1). -/
def execClampReqAsserted (s : State) : Res :=
  let p := LIB.page
  let s := s |> fset p LIB.STATUS_CLAMP_REQ 1 |> wakeSeen 3
  .next (if !fon p LIB.CTRL_CLAMP_EN s then s
    else
      let u := match s.port.unload with | some u => { u with pend := true } | none => ⟨s.time, 1, s.cl.n, true, []⟩
      s |> setPorts { s.port with unload := some u } |> (fun t => setDev { t.dev with remount := false } t) |> dropTest
        |> raise p LIB.iCLAMP_REQ_ON |> emit 0x5015 srcHost 0xFF 1 (outCount s) |> mediaEvent 1)

/-- A LoEj received (R465, R474): the unload from step 2. -/
def ejectNow (j : PortJob) (s : State) : State :=
  let u := match s.port.unload with | some u => { u with jobs := u.jobs ++ [j] } | none => ⟨s.time, 1, s.cl.n, false, [j]⟩
  s |> setPorts { s.port with unload := some u } |> mediaEvent 1

/-- Step 2: once the commands accepted before the trigger have completed and no mount runs, the disc is unmounted with
release. Only a LoEj keeps AUTO_MOUNT from mounting it again. -/
def unloadStart (u : Unload) (s : State) : State :=
  if fget FMT.page FMT.STATUS_STATE s = 1 || s.cl.cmds.any (fun kv => decide (kv.2.n ≤ u.last)) then s
  else
    let s := if discMounted s then unmountNow true 4096 s else s
    s |> setDev { s.dev with noAuto := !u.pend } |> towardsSafe |> (fun t => setPorts { t.port with unload := some { u with step := 2 } } t)

/-- Steps 3 to 5 as far as they are reached. -/
def unloadGo (u : Unload) (s : State) : State :=
  if safeState s then
    let again := s.dev.remount
    let s := setPorts { s.port with unload := none } s
    let s := u.jobs.foldl (fun t j => portEnd j.port j.id 0x00 {} t) s
    if again then s |> setDev { s.dev with remount := false } |> autoMount else s
  else
    let lens := lensBack 0 s && lensBack 1 s
    setPorts { s.port with unload := some { u with step := if lens && spinAtRest s then 4 else if lens then 3 else 2 } } s

/-- UNLOAD (R474): it goes on as far as it can. -/
def execUnload (s : State) : Res :=
  .next (match s.port.unload with
    | none => s
    | some u =>
      let s := if u.step = 1 then unloadStart u s else s
      match s.port.unload with
      | some v => if 2 ≤ v.step then unloadGo v s else s
      | none => s)

/-- CLAMP_REQ_RELEASED (R475): before step 2 the request is cancelled; from then on the disc is mounted again afterwards. -/
def execClampReqReleased (s : State) : Res :=
  let p := LIB.page
  let s := s |> fset p LIB.STATUS_CLAMP_REQ 0 |> wakeSeen 3
  let s := if fon p LIB.CTRL_CLAMP_EN s then s |> raise p LIB.iCLAMP_REQ_OFF |> emit 0x5015 srcHost 0xFF 0 (outCount s) else s
  .next (match s.port.unload with
    | some u =>
      if !u.pend then s
      else if u.step = 1 then setPorts { s.port with unload := if u.jobs = [] then none else some { u with pend := false } } s
      else setDev { s.dev with remount := true } s
    | none => autoMount s)

/-- UNLOAD_LATE (R474). -/
def execUnloadLate (s : State) : Res :=
  let p := LIB.page
  .next (match s.port.unload with
    | some u => s |> raise p LIB.iUNLOAD_LATE |> emit 0x5018 srcHost 0xFF (fget p LIB.CLAMP_CFG_UNLOAD_TO_S s) u.step
    | none => s)

/-- DISC_LOST (R475): DISC_PRES deasserted while CLAMP_OK is deasserted. -/
def execDiscLost (s : State) : Res :=
  let p := LIB.page
  if !fon p LIB.STATUS_DISC_PRES s || safeState s then .next s
  else
    let m := discMounted s
    let w := writing 0 s || writing 1 s
    let s := s |> fset p LIB.STATUS_DISC_PRES 0 |> wakeSeen 3 |> tripBoth |> stopSpin |> endDiscCmds 4096
    let s := if m then s |> zeroiseKey 1 |> dismount else s
    .next (s |> (fun t => setDev { t.dev with noAuto := false, remount := false } t) |> raise p LIB.iDISC_LOST
      |> emit 0x5016 srcHost 0xFF (b2n m) (b2n w) |> mediaEvent 3)

/-- DISC_PRES_ASSERTED (R476). -/
def execDiscPresAsserted (s : State) : Res :=
  let p := LIB.page
  .next (s |> fset p LIB.STATUS_DISC_PRES 1 |> raise p LIB.iDISC_IN |> wakeSeen 3 |> autoMount)

/-- DISC_PRES_DEASSERTED (R476): while CLAMP_OK is asserted. -/
def execDiscPresDeasserted (s : State) : Res :=
  let p := LIB.page
  .next (if !fon p LIB.STATUS_DISC_PRES s || !safeState s then s
    else s |> fset p LIB.STATUS_DISC_PRES 0 |> raise p LIB.iDISC_OUT |> wakeSeen 3 |> (fun t => setDev { t.dev with noAuto := false, remount := false } t)
      |> (if fget FMT.page FMT.STATUS_STATE s = 3 then fset FMT.page FMT.STATUS_STATE 0 else id))

end Sys2Proof.Machine
end

