-- ==== Sys2Proof/Machine/Mmc.lean ====
section
/-!
DEFINITION. The MMC command subset on the MMC-based ports and its translation into native commands (R464 to R469, R501).
Each handler takes the command's port job, its command block and what comes with it.
-/
namespace Sys2Proof.Machine

/-! ## A command's arrival and its answer (R461, R462, R468) -/

/-- Byte `i` of a command block. -/
def cdbAt (cdb : List Nat) (i : Nat) : Nat := cdb.getD i 0
/-- The big-endian number in `n` bytes of a command block. -/
def cdbNum (cdb : List Nat) (i n : Nat) : Nat := ofBe ((List.range n).map (fun k => cdbAt cdb (i + k)))

/-- CHECK CONDITION with sense data. -/
def mmcCheck (j : PortJob) (key asc ascq : Nat) (s : State) : State := portEnd j.port j.id 0x02 { key := key, asc := asc, ascq := ascq } s
/-- GOOD. -/
def mmcGood (j : PortJob) (s : State) : State := portEnd j.port j.id 0x00 {} s
/-- Invalid field in the command block. -/
def mmcField (j : PortJob) (s : State) : State := mmcCheck j 0x5 0x24 0x00 s
/-- Data-in truncated to the allocation length, and GOOD. -/
def mmcReply (j : PortJob) (alloc : Nat) (bs : List Nat) (s : State) : State :=
  s |> portBytes j.port j.id (bs.take alloc) |> mmcGood j

/-- A disc is needed: without one, becoming ready or medium not present. -/
def mmcDisc (j : PortJob) (act : State → State) (s : State) : State :=
  if discMounted s then act s
  else if discAwaited s then mmcCheck j 0x2 0x04 0x01 s
  else mmcCheck j 0x2 0x3A 0x00 s

/-- The profile of the mounted disc. -/
def profile (s : State) : Nat := fget FMT.page FMT.MEDIA_PROFILE s

/-- Commands outstanding on a port. -/
def portLoad (port : Nat) (s : State) : Nat :=
  (s.cl.cmds.filter (fun kv => match kv.2.job with | some j => j.port == port | none => false)).length +
    (s.port.syncs.filter (fun x => x.1 == port)).length +
    (match s.port.unload with | some u => (u.jobs.filter (fun j => j.port == port)).length | none => 0)

/-- How many commands a port takes: UAS_QDEPTH held to 1 to 32, and one elsewhere (R461, R462, R484). -/
def portDepth (port : Nat) (s : State) : Nat := if port = 0 then clampN 1 32 (fget USB.page USB.UAS_QDEPTH s) else 1

/-- An MMC command arrives: it is counted, and turned away with TASK SET FULL when the port's queue is full. -/
def mmcEnter (j : PortJob) (act : State → State) (s : State) : State :=
  let s := if j.port = 2 then s else cnt USB.page USB.MMC_CMD_CNT USB.kCNT_SAT s
  if portDepth j.port s ≤ portLoad j.port s then send (.portStatus j.port j.id 0x28 0 0 0 none) s else act s

/-- The port and tag of a command that did not come in PACKET. -/
def viaJob (via : MmcVia) (op : Nat) : PortJob := match via with | .uas t => ⟨0, t.toNat, op⟩ | .bot => ⟨1, 0, op⟩

/-- Bytes as numbers. -/
def nats (bs : List (BitVec 8)) : List Nat := bs.map BitVec.toNat

/-! ## Translation (R420, R464) -/

/-- The lowest free tag of the policy cores. -/
def fwTag (s : State) : Option Nat := ((List.range 128).map (0xF80 + ·)).find? (fun t => (s.cl.cmds.find t).isNone)

/-- A native command submitted by a policy core for an MMC command. -/
def native (j : PortJob) (op lba count arg0 : Nat) (act : Nat → Cmd → State → State) (s : State) : State :=
  let c : Cmd := { n := 0, req := 4, op := op, lba := lba, count := count, arg0 := arg0, len := 2048 * count, job := some j }
  match fwTag s with
  | none => mmcCheck j 0xB 0x00 0x00 s
  | some t =>
    let code := intakeCode t false c s
    if code = 0 then
      let s := accept t c s
      match s.cl.cmds.find t with | some c => act t c s | none => s
    else if code = 5 && pastEnd c s then mmcCheck j 0x5 0x21 0x00 s
    else if code = 5 then mmcField j s
    else mmcCheck j 0xB 0x00 0x00 s

/-- A transfer of no sectors does nothing. -/
def nativeRange (j : PortJob) (op lba count : Nat) (s : State) : State :=
  if count = 0 then mmcGood j s else native j op lba count 0 needDisc s

/-! ## The handlers (R465 to R469) -/

/-- TEST UNIT READY. -/
def doTestUnitReady (j : PortJob) (_cdb _data : List Nat) (s : State) : State := mmcDisc j (mmcGood j) s

/-- Fixed-format sense data, 18 bytes. -/
def senseBytes (x : Sense) : List Nat :=
  [ if x.info.isSome then 0xF0 else 0x70, 0, x.key ] ++ beBytes 4 (x.info.getD 0) ++ [ 10, 0, 0, 0, 0, x.asc, x.ascq, 0, 0, 0, 0 ]

/-- REQUEST SENSE. -/
def doRequestSense (j : PortJob) (cdb _data : List Nat) (s : State) : State := mmcReply j (cdbAt cdb 4) (senseBytes s.port.sense) s

/-- INQUIRY data. -/
def inquiryBytes : List Nat :=
  [ 0x05, 0x80, 0x06, 0x02, 31, 0, 0, 0 ] ++ padText 8 (ascii "ZHEVHEL") ++ padText 16 (ascii "ZC8816 CELLIA") ++ padText 4 Config.firmwareVersion

/-- INQUIRY. -/
def doInquiry (j : PortJob) (cdb _data : List Nat) (s : State) : State :=
  if bit (cdbAt cdb 1) 0 then mmcField j s else mmcReply j (cdbNum cdb 3 2) inquiryBytes s

/-- FORMAT UNIT: BD-RE, format types 0x00, 0x30 and 0x31 of the format descriptor. -/
def doFormatUnit (j : PortJob) (_cdb data : List Nat) (s : State) : State :=
  mmcDisc j (fun s =>
    if profile s = 0x0043 && [ 0x00, 0x30, 0x31 ].contains (data.getD 8 0 / 4) then s |> fset FMT.page FMT.STATUS_BLANK 0 |> mmcGood j
    else mmcField j s) s

/-- A mount asked for: it joins one that runs (R569). -/
def mountJob (j : PortJob) (s : State) : State :=
  native j 10 0 0 0 (fun t _ u =>
    if u.port.unload.isSome || clampReq u then endNow t 0x50 u else if discMounted u then endNow t 0x21 u else startMount u) s

/-- A mode asked for by a native SET_MODE. -/
def modeJob (j : PortJob) (mode : Nat) (force : Bool) (s : State) : State :=
  native j 12 0 0 (mode + 256 * b2n force) (fun t _ u => askMode mode force (some t) u) s

/-- START STOP UNIT. -/
def doStartStopUnit (j : PortJob) (cdb _data : List Nat) (s : State) : State :=
  let b := cdbAt cdb 4
  if bit b 0 then
    if !discMounted s then mountJob j s
    else if 3 ≤ modeNow s then modeJob j (fget PWR.page PWR.STATUS_REQ s) false s
    else mmcGood j s
  else if bit b 1 then (if s.port.prevent then mmcCheck j 0x5 0x53 0x02 s else ejectNow j s)
  else modeJob j 3 false s

/-- PREVENT ALLOW MEDIUM REMOVAL. -/
def doPrevent (j : PortJob) (cdb _data : List Nat) (s : State) : State :=
  s |> setPorts { s.port with prevent := bit (cdbAt cdb 4) 0 } |> mmcGood j

/-- READ FORMAT CAPACITIES: the current or maximum capacity descriptor. -/
def doReadFormatCapacities (j : PortJob) (cdb _data : List Nat) (s : State) : State :=
  let m := discMounted s
  let n := if m then fget FMT.page FMT.LAST_LBA s + 1 else 0
  mmcReply j (cdbNum cdb 7 2) ([ 0, 0, 0, 8 ] ++ beBytes 4 n ++ [ if m then 2 else 3 ] ++ beBytes 3 2048) s

/-- READ CAPACITY: the last LBA and the block length. -/
def doReadCapacity (j : PortJob) (_cdb _data : List Nat) (s : State) : State :=
  mmcDisc j (fun s => mmcReply j 8 (beBytes 4 (fget FMT.page FMT.LAST_LBA s) ++ beBytes 4 2048) s) s

/-- READ (10). -/
def doRead10 (j : PortJob) (cdb _data : List Nat) (s : State) : State := nativeRange j 1 (cdbNum cdb 2 4) (cdbNum cdb 7 2) s
/-- READ (12). -/
def doRead12 (j : PortJob) (cdb _data : List Nat) (s : State) : State := nativeRange j 1 (cdbNum cdb 2 4) (cdbNum cdb 6 4) s
/-- WRITE (10). -/
def doWrite10 (j : PortJob) (cdb _data : List Nat) (s : State) : State := nativeRange j 2 (cdbNum cdb 2 4) (cdbNum cdb 7 2) s
/-- WRITE (12). -/
def doWrite12 (j : PortJob) (cdb _data : List Nat) (s : State) : State := nativeRange j 2 (cdbNum cdb 2 4) (cdbNum cdb 6 4) s

/-- VERIFY (10): BytChk 0 only. -/
def doVerify10 (j : PortJob) (cdb _data : List Nat) (s : State) : State :=
  if bit (cdbAt cdb 1) 1 then mmcField j s else nativeRange j 3 (cdbNum cdb 2 4) (cdbNum cdb 7 2) s

/-- SYNCHRONIZE CACHE: at once, or when every write accepted before it has completed. -/
def doSynchronizeCache (j : PortJob) (_cdb _data : List Nat) (s : State) : State :=
  if s.cl.cmds.any (fun kv => kv.2.op == 2) then setPorts { s.port with syncs := s.port.syncs ++ [(j.port, j.id, s.cl.n)] } s
  else mmcGood j s

/-- READ TOC/PMA/ATIP: one session holding one data track on a DLA disc (R466). -/
def doReadToc (j : PortJob) (cdb data : List Nat) (s : State) : State :=
  mmcDisc j (fun s =>
    let f := cdbAt cdb 2 % 16
    let track := fun (n start : Nat) => [ 0, 0x14, n, 0 ] ++ beBytes 4 start
    if legacyDisc s then mmcReply j (cdbNum cdb 7 2) data s
    else if f = 0 then mmcReply j (cdbNum cdb 7 2) ([ 0, 18, 1, 1 ] ++ track 1 0 ++ track 0xAA (fget FMT.page FMT.LAST_LBA s + 1)) s
    else if f = 1 then mmcReply j (cdbNum cdb 7 2) ([ 0, 10, 1, 1 ] ++ track 1 0) s
    else mmcField j s) s

/-- The next writable address of a DLA disc, 32 × K (R466). -/
def nextWritable (s : State) : Nat := 32 * fget ENC.page ENC.FRONTIER s

/-- A DLA disc is complete: both sides sealed, or K at the end of the LBA space (R466). -/
def discComplete (s : State) : Bool :=
  (sealState 0 s == 2 && sealState 1 s == 2) || decide (fget FMT.page FMT.LAST_LBA s + 1 ≤ nextWritable s)

/-- READ DISC INFORMATION (R466). -/
def doReadDiscInformation (j : PortJob) (cdb data : List Nat) (s : State) : State :=
  mmcDisc j (fun s =>
    mmcReply j (cdbNum cdb 7 2)
      (if legacyDisc s then data else [ 0, 32, if discComplete s then 0x0E else 0x05, 1, 1, 1, 1 ] ++ List.replicate 27 0) s) s

/-- READ TRACK INFORMATION (R466). -/
def doReadTrackInformation (j : PortJob) (cdb data : List Nat) (s : State) : State :=
  mmcDisc j (fun s =>
    let last := fget FMT.page FMT.LAST_LBA s
    let nwa := nextWritable s
    mmcReply j (cdbNum cdb 7 2)
      (if legacyDisc s then data
      else [ 0, 34, 1, 1, 0, 0x04, 0x01, b2n (!discComplete s) ] ++ beBytes 4 0 ++ beBytes 4 nwa ++ beBytes 4 (last + 1 - nwa) ++ beBytes 4 0 ++
        beBytes 4 (last + 1) ++ beBytes 4 (nwa - 1) ++ [ 0, 0, 0, 0 ]) s) s

/-- The profiles listed (R467): CD and DVD ones only with the emitter head L reports. -/
def profilesListed (s : State) : List Nat :=
  let caps := fget (HSL.page 0 0) HSL.CAPS_LO s
  (if bit caps 24 then [ 0x0008 ] else []) ++ (if bit caps 25 then [ 0x0010, 0x0011, 0x0015, 0x0012, 0x001B, 0x002B ] else []) ++
    [ 0x0040, 0x0041, 0x0043, 0xFF10 ]

/-- A feature descriptor. -/
def feature (code : Nat) (current : Bool) (body : List Nat) : List Nat := beBytes 2 code ++ [ b2n current, body.length ] ++ body

/-- The features reported with their codes (R467). -/
def features (s : State) : List (Nat × Bool × List Nat) :=
  let m := discMounted s
  let dla := m && profile s == 0xFF10
  [ (0x0000, true, (profilesListed s).flatMap (fun p => beBytes 2 p ++ [ b2n (m && profile s == p), 0 ])), (0x0003, true, [ 0x08, 0, 0, 0 ]),
    (0x0010, m, beBytes 4 2048 ++ beBytes 2 32 ++ [ 0, 0 ]), (0x0100, true, []), (0x0108, true, serialText s),
    (0xFF10, dla, [ fget FMT.page FMT.MEDIA_VARIANT s, sealState 0 s + 4 * sealState 1 s, 0, 0 ]),
    (0xFF11, dla && !(sealState 0 s == 2 && sealState 1 s == 2), []) ]

/-- GET CONFIGURATION: every feature from a code on, the current ones of them, or that one alone (R467). -/
def doGetConfiguration (j : PortJob) (cdb _data : List Nat) (s : State) : State :=
  let rt := cdbAt cdb 1 % 4
  let first := cdbNum cdb 2 2
  let fs := (features s).filter (fun f => if rt = 2 then f.1 == first else decide (first ≤ f.1) && (rt != 1 || f.2.1))
  let body := fs.flatMap (fun f => feature f.1 f.2.1 f.2.2)
  mmcReply j (cdbNum cdb 7 2) (beBytes 4 (4 + body.length) ++ [ 0, 0 ] ++ beBytes 2 (if discMounted s then profile s else 0) ++ body) s

/-- The media status byte: door closed, media present while a disc is mounted (R469). -/
def mediaStatus (s : State) : Nat := 2 * b2n (discMounted s)

/-- GET EVENT STATUS NOTIFICATION: the oldest event of the lowest requested class that has one (R469). -/
def doGetEventStatus (j : PortJob) (cdb _data : List Nat) (s : State) : State :=
  let ask := cdbAt cdb 4
  let alloc := cdbNum cdb 7 2
  let reply := fun (cls : Nat) (ev : List Nat) (s : State) => mmcReply j alloc ([ 0, 6, cls, 0x14 ] ++ ev) s
  if !bit (cdbAt cdb 1) 0 then mmcField j s
  else match (if bit ask 2 then s.port.power else []), (if bit ask 4 then s.port.media else []) with
    | (code, st) :: rest, _ => s |> setPorts { s.port with power := rest } |> reply 2 [ code, st, 0, 0 ]
    | [], code :: rest => reply 4 [ code, mediaStatus s, 0, 0 ] (setPorts { s.port with media := rest } s)
    | [], [] =>
      if bit ask 2 then reply 2 [ 0, if modeNow s ≤ 2 then 1 else 3, 0, 0 ] s
      else if bit ask 4 then reply 4 [ 0, mediaStatus s, 0, 0 ] s
      else mmcReply j alloc [ 0, 2, 0x80, 0x14 ] s

/-- RESERVE TRACK: BD-R; a range of the blocks named opens at the next writable address, and the next one after it. -/
def doReserveTrack (j : PortJob) (cdb _data : List Nat) (s : State) : State :=
  mmcDisc j (fun s =>
    let n := roundUp (cdbNum cdb 5 4) 32
    match s.disc.nwa with
    | some a =>
      if profile s = 0x0041 && !fon FMT.page FMT.STATUS_READ_ONLY s && n ≠ 0 && a + n ≤ fget FMT.page FMT.LAST_LBA s + 1 then
        s |> setDisc { s.disc with nwa := some (a + n), ranges := s.disc.ranges ++ [(a, a + n)] } |> mmcGood j
      else mmcField j s
    | none => mmcField j s) s

/-- CLOSE TRACK SESSION: BD-R; function 1 closes the reserved range of a number, any other the disc. -/
def doCloseTrackSession (j : PortJob) (cdb _data : List Nat) (s : State) : State :=
  mmcDisc j (fun s =>
    if profile s ≠ 0x0041 then mmcField j s
    else if cdbAt cdb 2 % 8 = 1 then s |> setDisc { s.disc with ranges := s.disc.ranges.eraseIdx (cdbNum cdb 4 2 - 1) } |> mmcGood j
    else s |> setDisc { s.disc with ranges := [], nwa := none } |> fset FMT.page FMT.STATUS_READ_ONLY 1 |> mmcGood j) s

/-- SEND OPC INFORMATION, SET STREAMING and SET CD SPEED: accepted, and nothing changes. -/
def doNothing (j : PortJob) (_cdb _data : List Nat) (s : State) : State := mmcGood j s

/-- The mode pages and their lengths. -/
def modePages : List (Nat × Nat) := [ (0x01, 10), (0x1A, 10), (0x2A, 26) ]

/-- Mode pages taken from a parameter list; none when a page is not one of them. -/
def selectPages : Nat → List Nat → PortSt → Option PortSt
  | 0, _, q => some q
  | n + 1, bs, q =>
    match bs with
    | a :: len :: rest =>
      match modePages.lookup (a % 64) with
      | some k => selectPages n (rest.drop len) { q with pages := q.pages.insert (a % 64) ((rest.take len ++ List.replicate k 0).take k) }
      | none => none
    | _ => some q

/-- MODE SELECT (10). -/
def doModeSelect (j : PortJob) (_cdb data : List Nat) (s : State) : State :=
  match selectPages 8 (data.drop (8 + ofBe ((data.drop 6).take 2))) s.port with
  | some q => s |> setPorts q |> mmcGood j
  | none => mmcCheck j 0x5 0x26 0x00 s

/-- MODE SENSE (10): one page, or all of them. -/
def doModeSense (j : PortJob) (cdb _data : List Nat) (s : State) : State :=
  let p := cdbAt cdb 2 % 64
  let ps := modePages.filter (fun x => p == 0x3F || p == x.1)
  if ps = [] then mmcField j s
  else
    let body := ps.flatMap (fun x => [ x.1, x.2 ] ++ (s.port.pages.get x.1 [] ++ List.replicate x.2 0).take x.2)
    mmcReply j (cdbNum cdb 7 2) (beBytes 2 (6 + body.length) ++ [ 0, 0, 0, 0, 0, 0 ] ++ body) s

/-- READ BUFFER CAPACITY. -/
def doReadBufferCapacity (j : PortJob) (cdb _data : List Nat) (s : State) : State :=
  mmcReply j (cdbNum cdb 7 2) ([ 0, 10, 0, 0 ] ++ beBytes 4 Config.bufferCapacity ++ beBytes 4 Config.bufferCapacity) s

/-- User rate of a mode, kB/s (R23). -/
def modeRate (m : Nat) : Nat := [ 1487500, 995000, 497500 ].getD m 0

/-- GET PERFORMANCE: the speeds of R23 for the mode in force, read or write. -/
def doGetPerformance (j : PortJob) (cdb _data : List Nat) (s : State) : State :=
  let w := bit (cdbAt cdb 1) 2
  let r := modeRate (modeNow s) / (if w then 2 else 1)
  if cdbAt cdb 10 ≠ 0 then mmcField j s
  else mmcReply j (8 + 16 * cdbNum cdb 8 2)
    (beBytes 4 20 ++ [ 2 * b2n w, 0, 0, 0 ] ++ beBytes 4 0 ++ beBytes 4 r ++ beBytes 4 (fget FMT.page FMT.LAST_LBA s) ++ beBytes 4 r) s

/-- MECHANISM STATUS: no changer. -/
def doMechanismStatus (j : PortJob) (cdb _data : List Nat) (s : State) : State := mmcReply j (cdbNum cdb 8 2) (List.replicate 8 0) s

/-- READ DISC STRUCTURE: BD formats 0x00 and 0xFF, DVD format 0x00; any other is refused. -/
def doReadDiscStructure (j : PortJob) (cdb data : List Nat) (s : State) : State :=
  mmcDisc j (fun s =>
    let bd := [ 0x0040, 0x0041, 0x0043 ].contains (profile s)
    let dvd := [ 0x0010, 0x0011, 0x0015, 0x0012, 0x001B, 0x002B ].contains (profile s)
    let f := cdbAt cdb 7
    let alloc := cdbNum cdb 8 2
    if (bd || dvd) && f = 0x00 && cdbAt cdb 1 % 16 = b2n bd then mmcReply j alloc (beBytes 2 (2 + data.length) ++ [ 0, 0 ] ++ data) s
    else if bd && f = 0xFF then mmcReply j alloc ([ 0, 10, 0, 0, 0x00, 0x40, 0, 0, 0xFF, 0x40, 0, 0 ]) s
    else mmcField j s) s

/-- READ CD: a CD disc; the sectors in the format asked for, with C2 error pointers on request (R313). -/
def doReadCd (j : PortJob) (cdb _data : List Nat) (s : State) : State :=
  mmcDisc j (fun s => if profile s = 0x0008 then nativeRange j 1 (cdbNum cdb 2 4) (cdbNum cdb 6 3) s else mmcField j s) s

/-- ZV SEAL. -/
def doZvSeal (j : PortJob) (cdb _data : List Nat) (s : State) : State := native j 4 0 0 (cdbAt cdb 1 % 4) needDisc s

/-- ZV DLA STATE: 32 bytes. -/
def doZvDlaState (j : PortJob) (_cdb _data : List Nat) (s : State) : State :=
  mmcReply j 32 ([ fget FMT.page FMT.MEDIA_VARIANT s, sealState 0 s + 4 * sealState 1 s, 0, 0 ] ++ leBytes 4 (fget ENC.page ENC.FRONTIER s) ++
    [ 0, 0, 0, 0 ] ++ leBytes 8 (wseq s) ++ List.replicate 12 0) s

/-- ZV SET MODE: a mode above 4 is refused. -/
def doZvSetMode (j : PortJob) (cdb _data : List Nat) (s : State) : State :=
  if 4 < cdbAt cdb 1 then mmcField j s else modeJob j (cdbAt cdb 1) (bit (cdbAt cdb 2) 0) s

/-- ZV VAULT (R501): a request moved to the buffer and started, or the response returned. While the request page is claimed
by another, or still holds a request that runs, the port answers busy. -/
def doZvVault (j : PortJob) (cdb data : List Nat) (s : State) : State :=
  let n := cdbNum cdb 6 4
  if bit (cdbAt cdb 1) 0 then
    if fget VLQ.page VLQ.STATUS_STATE s = 2 then mmcReply j n (bufBytes s.vault.rspBuf (16 + s.vault.rspBuf.get 1 0)) s
    else mmcCheck j 0x2 0x04 0x01 s
  else
    let s := takeClaim claimVlq [ 4 ] s
    if !holds claimVlq 4 s || fget VLQ.page VLQ.STATUS_STATE s = 1 then send (.portStatus j.port j.id 0x08 0 0 0 none) s
    else s |> setVault { s.vault with reqBuf := bytesBuf 3072 ((data.take n).take 12288) } |> vaultGo 4 |> releaseClaim claimVlq |> mmcGood j

/-- Any other opcode (R465; event 0x5017). -/
def doUnsupported (j : PortJob) (_cdb _data : List Nat) (s : State) : State :=
  let s := if j.port = 2 then
      s |> cnt SATA.page SATA.MMC_REJ_CNT SATA.kCNT_SAT |> fset SATA.page SATA.LAST_REJ_OP j.op |> raise SATA.page SATA.iMMC_REJ
    else s |> cnt USB.page USB.MMC_REJ_CNT USB.kCNT_SAT |> fset USB.page USB.LAST_REJ_OP j.op |> raise USB.page USB.iMMC_REJ
  s |> emit 0x5017 srcHost 0xFF j.op 0x0520 |> mmcCheck j 0x5 0x20 0x00

/-- The handler of an opcode (R465). -/
def mmcHandler (op : Nat) : PortJob → List Nat → List Nat → State → State :=
  match op with
  | 0x00 => doTestUnitReady | 0x03 => doRequestSense | 0x12 => doInquiry | 0x04 => doFormatUnit | 0x1B => doStartStopUnit
  | 0x1E => doPrevent | 0x23 => doReadFormatCapacities | 0x25 => doReadCapacity | 0x28 => doRead10 | 0xA8 => doRead12
  | 0x2A => doWrite10 | 0xAA => doWrite12 | 0x2F => doVerify10 | 0x35 => doSynchronizeCache | 0x43 => doReadToc
  | 0x51 => doReadDiscInformation | 0x52 => doReadTrackInformation | 0x46 => doGetConfiguration | 0x4A => doGetEventStatus
  | 0x53 => doReserveTrack | 0x5B => doCloseTrackSession | 0x54 => doNothing | 0x55 => doModeSelect | 0x5A => doModeSense
  | 0x5C => doReadBufferCapacity | 0xAC => doGetPerformance | 0xBD => doMechanismStatus | 0xAD => doReadDiscStructure
  | 0xB6 => doNothing | 0xBB => doNothing | 0xBE => doReadCd | 0xD0 => doZvSeal | 0xD1 => doZvDlaState | 0xD2 => doZvSetMode
  | 0xD8 => doZvVault | _ => doUnsupported

/-- An MMC command on the UAS or Bulk-Only port. -/
def mmcUsb (via : MmcVia) (op : Nat) (cdb data : List (BitVec 8)) (s : State) : State :=
  let j := viaJob via op
  mmcEnter j (mmcHandler op j (nats cdb) (nats data)) s

/-- PACKET (R462): carries one MMC command on the SATA port. -/
def execPacket (cdb data : List (BitVec 8)) (limit crcErrors : BitVec 16) (s : State) : Res :=
  let p := SATA.page
  .next (ataCommand (fun s =>
    let op := cdbAt (nats cdb) 0
    let j : PortJob := ⟨2, 0, op⟩
    s |> cnt p SATA.PKT_CNT SATA.kCNT_SAT |> cntN p SATA.FIS_CRC_ERR_CNT SATA.kCNT_SAT crcErrors.toNat |> fset p SATA.BYTE_LIMIT limit.toNat
      |> fset p SATA.STATUS_CMD_ACTIVE 1 |> mmcEnter j (mmcHandler op j (nats cdb) (nats data))) s)

/-- TEST_UNIT_READY (R465). -/
def execTestUnitReady (via : MmcVia) (s : State) : Res := .next (mmcUsb via 0x00 [] [] s)
/-- REQUEST_SENSE (R465). -/
def execRequestSense (via : MmcVia) (cdb : List (BitVec 8)) (s : State) : Res := .next (mmcUsb via 0x03 cdb [] s)
/-- INQUIRY (R465). -/
def execInquiry (via : MmcVia) (cdb : List (BitVec 8)) (s : State) : Res := .next (mmcUsb via 0x12 cdb [] s)
/-- FORMAT_UNIT (R465). -/
def execFormatUnit (via : MmcVia) (data : List (BitVec 8)) (s : State) : Res := .next (mmcUsb via 0x04 [] data s)
/-- START_STOP_UNIT (R465). -/
def execStartStopUnit (via : MmcVia) (cdb : List (BitVec 8)) (s : State) : Res := .next (mmcUsb via 0x1B cdb [] s)
/-- PREVENT_ALLOW_MEDIUM_REMOVAL (R469). -/
def execPreventAllowMediumRemoval (via : MmcVia) (cdb : List (BitVec 8)) (s : State) : Res := .next (mmcUsb via 0x1E cdb [] s)
/-- READ_FORMAT_CAPACITIES (R465). -/
def execReadFormatCapacities (via : MmcVia) (cdb : List (BitVec 8)) (s : State) : Res := .next (mmcUsb via 0x23 cdb [] s)
/-- READ_CAPACITY (R465). -/
def execReadCapacity (via : MmcVia) (s : State) : Res := .next (mmcUsb via 0x25 [] [] s)
/-- READ_10 (R465). -/
def execRead10 (via : MmcVia) (cdb : List (BitVec 8)) (s : State) : Res := .next (mmcUsb via 0x28 cdb [] s)
/-- READ_12 (R465). -/
def execRead12 (via : MmcVia) (cdb : List (BitVec 8)) (s : State) : Res := .next (mmcUsb via 0xA8 cdb [] s)
/-- WRITE_10 (R465). -/
def execWrite10 (via : MmcVia) (cdb : List (BitVec 8)) (s : State) : Res := .next (mmcUsb via 0x2A cdb [] s)
/-- WRITE_12 (R465). -/
def execWrite12 (via : MmcVia) (cdb : List (BitVec 8)) (s : State) : Res := .next (mmcUsb via 0xAA cdb [] s)
/-- VERIFY_10 (R465). -/
def execVerify10 (via : MmcVia) (cdb : List (BitVec 8)) (s : State) : Res := .next (mmcUsb via 0x2F cdb [] s)
/-- SYNCHRONIZE_CACHE (R465). -/
def execSynchronizeCache (via : MmcVia) (s : State) : Res := .next (mmcUsb via 0x35 [] [] s)
/-- READ_TOC (R466). -/
def execReadToc (via : MmcVia) (cdb found : List (BitVec 8)) (s : State) : Res := .next (mmcUsb via 0x43 cdb found s)
/-- READ_DISC_INFORMATION (R466). -/
def execReadDiscInformation (via : MmcVia) (cdb found : List (BitVec 8)) (s : State) : Res := .next (mmcUsb via 0x51 cdb found s)
/-- READ_TRACK_INFORMATION (R466). -/
def execReadTrackInformation (via : MmcVia) (cdb found : List (BitVec 8)) (s : State) : Res := .next (mmcUsb via 0x52 cdb found s)
/-- GET_CONFIGURATION (R467). -/
def execGetConfiguration (via : MmcVia) (cdb : List (BitVec 8)) (s : State) : Res := .next (mmcUsb via 0x46 cdb [] s)
/-- GET_EVENT_STATUS_NOTIFICATION (R469). -/
def execGetEventStatusNotification (via : MmcVia) (cdb : List (BitVec 8)) (s : State) : Res := .next (mmcUsb via 0x4A cdb [] s)
/-- RESERVE_TRACK (R465). -/
def execReserveTrack (via : MmcVia) (cdb : List (BitVec 8)) (s : State) : Res := .next (mmcUsb via 0x53 cdb [] s)
/-- CLOSE_TRACK_SESSION (R465). -/
def execCloseTrackSession (via : MmcVia) (cdb : List (BitVec 8)) (s : State) : Res := .next (mmcUsb via 0x5B cdb [] s)
/-- SEND_OPC_INFORMATION (R465). -/
def execSendOpcInformation (via : MmcVia) (s : State) : Res := .next (mmcUsb via 0x54 [] [] s)
/-- MODE_SELECT_10 (R465). -/
def execModeSelect10 (via : MmcVia) (data : List (BitVec 8)) (s : State) : Res := .next (mmcUsb via 0x55 [] data s)
/-- MODE_SENSE_10 (R465). -/
def execModeSense10 (via : MmcVia) (cdb : List (BitVec 8)) (s : State) : Res := .next (mmcUsb via 0x5A cdb [] s)
/-- READ_BUFFER_CAPACITY (R465). -/
def execReadBufferCapacity (via : MmcVia) (cdb : List (BitVec 8)) (s : State) : Res := .next (mmcUsb via 0x5C cdb [] s)
/-- GET_PERFORMANCE (R465). -/
def execGetPerformance (via : MmcVia) (cdb : List (BitVec 8)) (s : State) : Res := .next (mmcUsb via 0xAC cdb [] s)
/-- MECHANISM_STATUS (R465). -/
def execMechanismStatus (via : MmcVia) (cdb : List (BitVec 8)) (s : State) : Res := .next (mmcUsb via 0xBD cdb [] s)
/-- READ_DISC_STRUCTURE (R465). -/
def execReadDiscStructure (via : MmcVia) (cdb found : List (BitVec 8)) (s : State) : Res := .next (mmcUsb via 0xAD cdb found s)
/-- SET_STREAMING (R465). -/
def execSetStreaming (via : MmcVia) (s : State) : Res := .next (mmcUsb via 0xB6 [] [] s)
/-- SET_CD_SPEED (R465). -/
def execSetCdSpeed (via : MmcVia) (s : State) : Res := .next (mmcUsb via 0xBB [] [] s)
/-- READ_CD (R465). -/
def execReadCd (via : MmcVia) (cdb : List (BitVec 8)) (s : State) : Res := .next (mmcUsb via 0xBE cdb [] s)
/-- ZV_SEAL (R465). -/
def execZvSeal (via : MmcVia) (cdb : List (BitVec 8)) (s : State) : Res := .next (mmcUsb via 0xD0 cdb [] s)
/-- ZV_DLA_STATE (R465). -/
def execZvDlaState (via : MmcVia) (s : State) : Res := .next (mmcUsb via 0xD1 [] [] s)
/-- ZV_SET_MODE (R465). -/
def execZvSetMode (via : MmcVia) (cdb : List (BitVec 8)) (s : State) : Res := .next (mmcUsb via 0xD2 cdb [] s)
/-- ZV_VAULT (R501). -/
def execZvVault (via : MmcVia) (cdb data : List (BitVec 8)) (s : State) : Res := .next (mmcUsb via 0xD8 cdb data s)
/-- UNSUPPORTED_MMC_COMMAND (R465): an opcode that R465 lists is handled as it says. -/
def execUnsupportedMmcCommand (via : MmcVia) (op : BitVec 8) (s : State) : Res := .next (mmcUsb via op.toNat [] [] s)

end Sys2Proof.Machine
end

