-- ==== Sys2Proof/Machine/Window.lean ====
section
/-!
DEFINITION. The register window: page views, what a write to each page starts, pairs, bus errors and interrupt routing
(R604 to R618), and the masters' accesses (R128, R537, R594, R609 to R614).
A register written by way of this file that a command of its own also writes acts as that command does with nothing
failing around it; what a command of its own brings from outside is a free value here.
-/
namespace Sys2Proof.Machine

/-! ## Interrupt outputs (R615) -/

/-- Pages whose interrupt is asserted. -/
def assertedPages (s : State) : List Nat := (List.range 256).filter (fun p => isPage p && pageInt p s)

/-- INT_N is driven low (R615). -/
def intN (s : State) : Bool := (assertedPages s).any (fun p => fon PPC.page (PPC.ROUTE_INT_N_EN.ix p) s)

/-- The machine external interrupt of policy core `k` (R615). -/
def coreIrq (k : Nat) (s : State) : Bool := (assertedPages s).any (fun p => bit (fget PPC.page (PPC.ROUTE_CORE_MASK.ix p) s) k)

/-! ## Views that the device computes at a read -/

/-- A word of bits, from bit 0. -/
def bitsWord (n : Nat) (p : Nat → Bool) : Nat := (List.range n).foldl (fun a i => a + b2n (p i) * 2 ^ i) 0

/-- TRF.STATUS.STATE as seen by the holder (R419): no SUBMIT is between its steps at an access. -/
def intakeState (s : State) : Nat :=
  let frozen := match (s.claim claimTrf).holder with | some h => (s.cl.frozen.find h).isSome | none => false
  if frozen then 2 else if 4096 ≤ s.cl.order.length then 3 else 0

/-- TAG_STATE and TAG_SEQ of the queried tag (R421). -/
def tagView (seq : Bool) (s : State) : Nat :=
  match s.cl.cmds.find (fget TRF.page TRF.TAG_QUERY s) with
  | some c => if seq then c.seq else 1 + c.phase * 2 + c.op * 2 ^ 8 + c.req * 2 ^ 16
  | none => 0

/-- Requests on a zone ring. -/
def ringDepth (k : Nat) (s : State) : Nat := (s.cl.reqs.filter (fun r => r.queued.isSome && r.ring == some k)).length

/-- Rings that hold a request. -/
def ringsUsed (s : State) : List Nat := ((s.cl.reqs.filter (fun r => r.queued.isSome)).filterMap ClReq.ring).dedup

/-- The queried stream (R454). -/
def streamView (off : Nat) (s : State) : Nat :=
  let id := fget STM.page STM.QUERY_ID s
  match s.cl.strms.find id with
  | none => 0
  | some x =>
    let n := (s.cl.cmds.filter (fun kv => kv.2.stream == id && (kv.2.op == 1 || kv.2.op == 2 || kv.2.op == 6))).length
    if off = 0x04C then 1 + b2n x.slot.isSome * 2 + b2n x.compressed * 4 + x.level % 16 * 8 + x.slot.getD 0 % 256 * 2 ^ 8 + n % 2 ^ 16 * 2 ^ 16
    else if off = 0x050 then x.next
    else if off = 0x054 then x.stop - 1
    else x.written

/-- The claim a register reads under RAQ, if it is one (R414, R478, R495, R596). -/
def claimAt (p off : Nat) : Option Nat :=
  if p = 0x10 && off = 0x040 then some claimTrf
  else if p = 0xD0 && off = 0x040 then some claimVlq
  else if p = 0x06 && 0x100 ≤ off && off < 0x500 && (off - 0x100) % 128 = 12 then some (claimMbx ((off - 0x100) / 128))
  else if p = 0x05 && 0x040 ≤ off && off < 0x0C0 then some (claimSem ((off - 0x040) / 4))
  else none

/-- MSTAT of a mailbox: its fields and its claim (R487). -/
def mstatView (m : Nat) (s : State) : Nat :=
  regValue 0x06 (0x100 + 128 * m) s + (match (s.claim (claimMbx m)).holder with | some h => 2 + h * 2 ^ 8 | none => 0)

/-- The vault's message word at an index (R495). -/
def vlqView (buf : Store Nat) (idx : Fld) (s : State) : Nat :=
  let i := fget VLQ.page idx s
  if 3072 ≤ i then 0 else buf.get i 0

/-- A register of the PPC page that the cores' own execution decides, which the spec does not give. -/
def coreView (off : Nat) : Bool := 0x040 ≤ off && off ≤ 0x084

/-- The value a register shows, before any effect of its read. -/
def viewWord (p off : Nat) (s : State) : Nat :=
  if p = 0x00 && off = 0x074 then s.time % 2 ^ 32
  else if p = 0x00 && off = 0x078 then s.time / 2 ^ 32 % 2 ^ 32
  else if p = 0x04 && 0x800 ≤ off then ofLe (((s.cl.recs.get ((off - 0x800) / 32) []).drop ((off - 0x800) % 32)).take 4)
  else if p = 0x06 && 0x100 ≤ off && off < 0x500 && (off - 0x100) % 128 = 0 then mstatView ((off - 0x100) / 128) s
  else if p = 0x10 && off = 0x00C then regValue p off s + intakeState s
  else if p = 0x10 && off = 0x098 then tagView false s
  else if p = 0x10 && off = 0x09C then tagView true s
  else if p = 0x12 && off = 0x054 then (ringsUsed s).length
  else if p = 0x12 && off = 0x05C then
    bitsWord 32 (fun i => decide (0 < ringDepth (32 * fget ZRG.page ZRG.BITMAP_IDX s + i) s))
  else if p = 0x12 && off = 0x064 then ringDepth (fget ZRG.page ZRG.RING_QUERY s) s
  else if p = 0x14 && 0x04C ≤ off && off ≤ 0x058 then streamView off s
  else if p = 0x22 && off = 0x00C then regValue p off s + b2n (safeState s) * 2 ^ 9 + b2n (unloadPend s) * 2 ^ 11
  else if inRange 0x50 0x63 p && off = 0x050 then dmGet (p - 0x50) (fget p ENG.DM_ADDR_ADDR s) s
  else if p = 0xD0 && off = 0x04C then vlqView s.vault.reqBuf VLQ.REQ_IDX_IDX s
  else if p = 0xD0 && off = 0x054 then vlqView s.vault.rspBuf VLQ.RSP_IDX_IDX s
  else if p = 0x68 && 0x100 ≤ off && off < 0x120 then
    bitsWord 32 (fun i => let q := 32 * ((off - 0x100) / 4) + i; isPage q && pageInt q s)
  else if p = 0x68 && coreView off then Config.freeNat s.free % 2 ^ 32
  else if p = 0x68 && off = 0x00C then regValue p off s + Config.freeNat s.free % 16 * 2 ^ 4
  else regValue p off s

/-- An index above 3,071 is flagged, and the index advances under its AUTO_INC (R495, R528). -/
def vlqReadDone (idx auto : Fld) (s : State) : State :=
  s |> (if 3072 ≤ fget VLQ.page idx s then sticky VLQ.page VLQ.kIDX_OVF else id) |> bumpIdx idx auto

/-- What a read of a register does besides (R11, R157, R495, R596). -/
def readEffect (p off : Nat) (s : State) : State :=
  if inRange 0x50 0x63 p && off = 0x050 then
    if fon p ENG.DM_ADDR_AUTO_INC s then fset p ENG.DM_ADDR_ADDR (fget p ENG.DM_ADDR_ADDR s + 1) s else s
  else if p = 0xD0 && off = 0x04C then vlqReadDone VLQ.REQ_IDX_IDX VLQ.REQ_IDX_AUTO_INC s
  else if p = 0xD0 && off = 0x054 then vlqReadDone VLQ.RSP_IDX_IDX VLQ.RSP_IDX_AUTO_INC s
  else if p = 0x68 && (coreView off || off = 0x00C) then { s with free := s.free + 1 }
  else readClears p off s

/-- A claim read by one requester in its cycle. -/
def claimRead (k req : Nat) (s : State) : State :=
  s |> takeClaim k [ req ] |> (if 16 ≤ k then showSem (k - 16) else id)

/-- A register read: its value, and the state after. -/
def readReg (req p off : Nat) (s : State) : Nat × State :=
  match claimAt p off with
  | some k => let t := claimRead k req s; (claimWord k req t, t)
  | none => (viewWord p off s, readEffect p off s)

/-! ## What a write starts, page by page -/

/-- The state a command's meaning answers. -/
def after (r : Res) (s : State) : State := resState r s

/-- A write's value with the bits of a field as they stand. -/
def keeping (p : Nat) (f : Fld) (v : Nat) (s : State) : Nat := v - slice v (f.lo + f.width - 1) f.lo * 2 ^ f.lo + fget p f s * 2 ^ f.lo

/-- A head by number. -/
def headNo (h : Nat) : Head := if h = 0 then .L else .U

/-- FS_CMD written: with FS_AUTO 0 its rate is sent, at the gap unless the disc is legacy (R89, R92, R120). -/
def fsCmd (h : Nat) (s : State) : State :=
  let p := HTX.page h
  let fs := clampN 500 1500 (fget p HTX.FS_CMD_FS_MS s)
  if fon p HTX.FS_CMD_FS_AUTO s || !groupActive h s || fs = (s.link h).fs then s
  else sendSetFs h fs (!fon FMT.page FMT.STATUS_LEGACY s) s

/-- A write to a link page (R93, R119 to R121). -/
def linkWrite (p off v : Nat) (s : State) : State :=
  let (h, l, en) : Nat × LinkPage × Fld :=
    if p ≤ 0x33 then ((p - 0x30) / 2, if p % 2 = 0 then .hsl0 else .hsl1, HSL.CTRL_EN)
    else if p ≤ 0x35 then (p - 0x34, .htx, HTX.CTRL_EN) else (p - 0x38, .acl, ACL.CTRL_EN)
  if off = 0x008 then
    let s := regWrite p off (keeping p en v s) s
    let s := after (execLinkEnable (headNo h) l (bit v 0) s) s
    if l ≠ .acl && bit v 1 then after (execLinkTrain (headNo h) l s) s else s
  else
    let s := regWrite p off v s
    if l = .htx && off = 0x040 then fsCmd h s
    else if l = .htx && off = 0x048 && bit v 16 then after (execHtxMsgGo (headNo h) s) s
    else s

/-- A write to LOOP_CTRL of SE0 to SE2 or SE4 to SE6 (R163, R165, R168, R192). -/
def loopWrite (e v : Nat) (s : State) : State :=
  let s := regWrite (0x50 + e) 0x100 v s
  let s := if bit v 1 then fset (LOOP.page e) LOOP.LOOP_STATUS_SWAP_PEND 1 s else s
  let s := if bit v 2 then
      (if e % 4 = 0 then after (execFocusAcquire (headNo (e / 4)) s) s
       else if e % 4 = 1 then after (execTrackingAcquire (headNo (e / 4)) s) s else s)
    else s
  if bit v 3 then parkLoop (e / 4) (e % 4) s else s

/-- GO of CAL_CMD (R274): the operation it names; push-pull amplitudes are measured then. -/
def calCommand (h : Nat) (s : State) : State :=
  let p := CLE.page h
  let op := fget p CLE.CAL_CMD_OP s
  let l := BitVec.toFin (BitVec.ofNat 3 (fget p CLE.CAL_CMD_LAYER s))
  let z := BitVec.toFin (BitVec.ofNat 4 (fget p CLE.CAL_CMD_ZONE s))
  if op = 1 then
    withFree (fun a => withFree (fun g t => after (execPushPullBalance (headNo h) l (BitVec.ofNat 16 a) (BitVec.ofNat 16 g) t) t)) s
  else if op = 2 then after (execSaPresetCal (headNo h) l s) s
  else if op = 3 then after (execRadialTiltCal (headNo h) l z s) s
  else if op = 4 then after (execTangentialTiltCal (headNo h) l z s) s
  else if op = 5 then after (execFocusOffsetCal (headNo h) l s) s
  else s

/-- A write to a role register of an engine page (R192 to R197, R286). -/
def roleWrite (e off v : Nat) (s : State) : State :=
  let p := 0x50 + e
  if off = 0x100 && e < 8 && e % 4 ≠ 3 then loopWrite e v s
  else
    let s := regWrite p off v s
    if e = 11 && (off = 0x108 || off = 0x10C) && bit v 31 then seekGo ((off - 0x108) / 4) s
    else if (e = 14 || e = 18) && off = 0x100 && bit v 31 then after (execDefFifoPop (headNo ((e - 12) / 4)) s) s
    else if (e = 15 || e = 19) && off = 0x100 && bit v 31 then calCommand ((e - 12) / 4) s
    else s

/-- The engine of a number. -/
def engNo (e : Nat) : Fin 20 := if h : e < 20 then ⟨e, h⟩ else 0

/-- A write to an engine page (R157). -/
def engWrite (req p off v : Nat) (s : State) : State :=
  let e := p - 0x50
  if off = 0x008 then
    let s := after (execEngineHalt (engNo e) (bit v 0) s) s
    let s := if bit v 1 then after (execEngineStep (engNo e) s) s else s
    let s := if bit v 2 then engEvents e 0x10 s else s
    if bit v 3 then after (execCntClr (engNo e) s) s else s
  else if off = 0x050 then after (execDmDataAccess (engNo e) req (some (BitVec.ofNat 32 v)) s) s
  else if off = 0x054 then s |> regWrite p off (keeping p ENG.CUST_CTRL_ARM v s) |> custArm e (bit v 0)
  else if off = 0x064 then s |> regWrite p off v |> (if bit v 1 then rearm e else id)
  else if 0x100 ≤ off then roleWrite e off v s
  else regWrite p off v s

/-- A write to the MOT page but for its pairs (R149, R151, R198). -/
def motWrite (off v : Nat) (s : State) : State :=
  let s := regWrite MOT.page off v s
  if 0x040 ≤ off && off < 0x140 && off % 64 = 0 then
    let c := (off - 0x040) / 64
    s |> (if bit v 1 then pgGo c else id) |> (if bit v 2 then pgStop c else id)
  else s

/-- SPN.CTRL.EN written with 0: every gate turns off, and CHOP_FAULT clears (R215, R234). -/
def spinOff (s : State) : State :=
  let turning := getSpin s ≠ 0 && getSpin s ≠ 8
  s |> gatesOff |> unlockSpin |> angleValid false |> (if turning then spinState 7 else id) |> fset SPN.page SPN.STATUS_CHOP_FAULT 0

/-- A write to SPN (R203, R206, R208, R219, R234). -/
def spnWrite (off v : Nat) (s : State) : State :=
  let p := SPN.page
  if off = 0x040 then after (execTargetWrite (BitVec.ofNat 13 v) (bit v 16) s) s
  else
    let s := regWrite p off v s
    if off = 0x008 then
      let s := if bit v 0 then s else spinOff s
      let s := if bit v 1 then startSpin s else s
      let s := if bit v 2 then stopSpin s else s
      if bit v 6 then after (execOvsClr s) s else s
    else s

/-- A write to SLD_L or SLD_U (R226, R229, R235): EN turns the bridges on, and the sled holds; 0 turns them off. -/
def sldWrite (h off v : Nat) (s : State) : State :=
  let p := SLD.page h
  let was := fon p SLD.CTRL_EN s
  let s := regWrite p off v s
  if off = 0x008 then
    let s := if was && !bit v 0 then sledOff h s
      else if !was && bit v 0 && fget p SLD.STATUS_STATE s = 0 then
        s |> setSled h { s.sled h with bridges := true } |> fset p SLD.STATUS_STATE 1
      else s
    let s := if bit v 1 then homeStart h s else s
    if bit v 2 then hardStop h s else s
  else s

/-- What an OPC run measures when it is started through the window: free values. -/
def freeOpc (s : State) : OpcIn :=
  let f := fun i => Config.freeNat (s.free + i)
  { head := headNo (fget CAL.page CAL.OPC_CMD_HEAD s), layer := fget CAL.page CAL.OPC_CMD_LAYER s, install := fon CAL.page CAL.OPC_CMD_INSTALL s,
    blocks := (List.range 8).map (fun b => (List.range 16).map (fun i => (List.range 3).map (fun k =>
      ((f (3 + 96 * b + 6 * i + 2 * k) : Rat), (f (4 + 96 * b + 6 * i + 2 * k) : Rat))))),
    badRevs := f 0, disturbed := f 1 % 2 == 1, lostTrack := f 2 % 2 == 1 }

/-- A write to CAL (R340, R361). -/
def calWrite (off v : Nat) (s : State) : State :=
  let s := regWrite CAL.page off v s
  if off = 0x040 && bit v 31 then
    let r := freeOpc s
    if fget CAL.page (if fget CAL.page CAL.OPC_CMD_HEAD s = 0 then CAL.STATUS_STATE_L else CAL.STATUS_STATE_U) s = 1 then s
    else
      let s := { s with free := s.free + 1000 }
      after (execOpcRun r s) s
  else if off = 0x0B4 then showBetas s
  else s

/-- A write to CRC (R320). -/
def crcWrite (off v : Nat) (s : State) : State :=
  if off = 0x074 then after (execCrcTestData (BitVec.ofNat 32 v) s) s
  else
    let s := regWrite CRC.page off v s
    if off = 0x070 then
      let s := if bit v 1 then after (execCrcTestStart s) s else s
      if bit v 2 then after (execCrcTestFinish s) s else s
    else s

/-- A write to ENC: SUSPEND suspends both heads (R343). -/
def encWrite (off v : Nat) (s : State) : State :=
  let was := fon ENC.page ENC.CTRL_SUSPEND s
  let s := regWrite ENC.page off v s
  if off = 0x008 && bit v 3 && !was then s |> requestSuspend 0 2 |> requestSuspend 1 2 else s

/-- A write to LPW_L or LPW_U (R334, R360). -/
def lpwWrite (h off v : Nat) (s : State) : State :=
  let p := LPW.page h
  if off = 0x008 then
    let s := regWrite p off (keeping p LPW.CTRL_EN v s) s
    after (execLpwEnable (headNo h) (bit v 0) s) s
  else regWrite p off v s

/-- The lane of a number. -/
def laneNo (l : Nat) : Fin 4 := if h : l < 4 then ⟨l, h⟩ else 0

/-- A write to CMP0 to CMP3 (R401, R403, R404, R413). -/
def cmpWrite (l off v : Nat) (s : State) : State :=
  let p := CMP.page l
  let was := fon p CMP.CTRL_EN s
  let s := regWrite p off v s
  if off = 0x008 then
    let s := if was && !bit v 0 then jobAbort l s else s
    let s := if bit v 2 then startJob l (fon p CMP.JOB_CFG_OP s) s else s
    let s := if bit v 3 then jobAbort l s else s
    let s := if bit v 4 then after (execJobResume (laneNo l) s) s else s
    let s := if bit v 5 then askFlush l false s else s
    if bit v 6 then askFlush l true s else s
  else s

/-- A write to LCH (R370, R391): an operation not listed does nothing. -/
def lchWrite (off v : Nat) (s : State) : State :=
  let s := regWrite LCH.page off v s
  if off = 0x06C && bit v 31 then
    match v % 8 with
    | 1 => maintRun .clean [] s
    | 2 => maintRun .invalidate [] s
    | 3 => maintRun .flush [] s
    | 4 => after (execZero [] s) s
    | _ => s
  else s

/-- A write to SBF (R383, R392). -/
def sbfWrite (off v : Nat) (s : State) : State :=
  let p := SBF.page
  if off = 0x008 then
    let was := fon p SBF.CTRL_TEST_EN s
    let s := regWrite p off (keeping p SBF.CTRL_TEST_EN v s) s
    if was = bit v 2 then s else after (execSbfTestEn (bit v 2) s) s
  else
    let s := regWrite p off v s
    if off = 0x068 && bit v 31 then
      match v % 8 with
      | 1 => after (execTestWriteData s) s
      | 2 => after (execTestWriteCheck s) s
      | 3 => after (execTestWriteBoth s) s
      | 4 => after (execTestRawRead s) s
      | _ => s
    else s

/-- A claim released through its register: by the holder; a mailbox's while it is not full (R414, R478, R495). -/
def dropClaim (k req : Nat) (s : State) : State :=
  if holds k req s && !(2 ≤ k && k < 10 && mbxFull (k - 2) s) then releaseClaim k s else s

/-- A write to VLQ (R495, R496). -/
def vlqWrite (req off v : Nat) (s : State) : State :=
  let p := VLQ.page
  if off = 0x044 then (if bit v 0 then dropClaim claimVlq req s else s)
  else if off = 0x008 then (if bit v 0 then vaultGo req s else s)
  else if off = 0x048 then
    if !holds claimVlq req s then sticky p VLQ.kNOT_OWNER s else if reqFree s then regWrite p off v s else s
  else if off = 0x04C then
    if !holds claimVlq req s then sticky p VLQ.kNOT_OWNER s
    else if !reqFree s then s
    else
      let i := fget p VLQ.REQ_IDX_IDX s
      (if 3072 ≤ i then sticky p VLQ.kIDX_OVF s else setVault { s.vault with reqBuf := s.vault.reqBuf.put i (v % 2 ^ 32) 0 } s)
        |> bumpIdx VLQ.REQ_IDX_IDX VLQ.REQ_IDX_AUTO_INC
  else regWrite p off v s

/-- The host memory bytes that an OFFLOAD started through the window reads: free values (R447). -/
def freeBytes (i n : Nat) (s : State) : List (BitVec 8) := (List.range n).map (fun k => BitVec.ofNat 8 (Config.freeNat (s.free + i + k)))

/-- SUBMIT with GO, dispatched by CMD.OPCODE (R414 to R418). -/
def submitGo (req : Nat) (v : Nat) (s : State) : State :=
  if h : req < 28 then
    let b : Submit := ⟨⟨req, h⟩, BitVec.ofNat 12 v, false⟩
    let op := fget TRF.page TRF.CMD_OPCODE s
    let arg := fget TRF.page TRF.ARG0 s
    match op with
    | 1 => after (execRead b s) s
    | 2 => after (execWrite b s) s
    | 3 => after (execVerify b s) s
    | 4 => after (execSeal b s) s
    | 5 => after (execStreamOpen b s) s
    | 6 => after (execStreamClose b s) s
    | 7 =>
      let block := freeBytes 1 32 s
      let n := ofLe (((block.map BitVec.toNat).drop 8).take 4)
      let t := { s with free := s.free + 33 + n }
      after (execOffload b block (freeBytes 33 n s) (BitVec.ofNat 34 (Config.freeNat s.free)) t) s
    | 8 =>
      let plan := freeBytes 0 4 s
      let t := { s with free := s.free + 4 }
      if arg = 1 then after (execSelfTestShort b plan t) s
      else if arg = 2 then after (execSelfTestExtended b plan t) s
      else if arg = 3 then after (execSelfTestStop b s) s
      else submit 8 b id (fun t _ => withFree (fun x => endNow t (x % 256))) s
    | 9 => after (execAbort b s) s
    | 10 => after (execMount b s) s
    | 11 => after (execUnmount (some b) s) s
    | 12 => after (execSetMode b s) s
    | _ => submit op b id (fun _ _ => id) s
  else s

/-- RESTART written (R442). -/
def restartWrite (v : Nat) (s : State) : State :=
  let r := BitVec.toFin (BitVec.ofNat 8 (v / 2 ^ 8))
  match v % 4 with
  | 1 => after (execRestartResume r s) s
  | 2 => after (execDiscardLater r s) s
  | 3 => after (execDiscardAll r s) s
  | _ => s

/-- A write to TRF (R414, R442, R450). -/
def trfWrite (req off v : Nat) (s : State) : State :=
  if off = 0x044 then (if bit v 0 then dropClaim claimTrf req s else s)
  else if 0x048 ≤ off && off ≤ 0x070 then
    if !holds claimTrf req s then sticky TRF.page TRF.kNOT_OWNER s
    else if off = 0x070 then (if bit v 31 then submitGo req v s else s)
    else regWrite TRF.page off v s
  else if off = 0x084 then restartWrite v s
  else regWrite TRF.page off v s

/-- A write to CPL (R422, R424, R451). -/
def cplWrite (off v : Nat) (s : State) : State :=
  if 0x040 ≤ off && off < 0x0C0 && off % 32 = 8 then after (execRingEnable (laneNo ((off - 0x040) / 32)) (BitVec.ofNat 32 v) [] s) s
  else if 0x040 ≤ off && off < 0x0C0 && off % 32 = 20 then
    after (execRingHeadWrite (laneNo ((off - 0x040) / 32)) (BitVec.ofNat 16 v) [] s) s
  else regWrite CPL.page off v s

/-- A write to ERL: OVERWRITTEN is written after reading the log (R443). -/
def erlWrite (off v : Nat) (s : State) : State :=
  let s := regWrite ERL.page off v s
  if off = 0x048 then setCl { s.cl with unread := 0 } s else s

/-- A write to HIF_USB: without EN, or with DISCONNECT, the port detaches (R484). -/
def usbWrite (off v : Nat) (s : State) : State :=
  let s := regWrite USB.page off v s
  if off = 0x008 then
    let s := if usbOn s then s else usbDetach s
    if fon USB.page USB.CTRL_PCIE_TUN_EN s then s else setTunnel false s
  else s

/-- A write to HIF_SATA: without EN the link goes (R485). -/
def sataWrite (off v : Nat) (s : State) : State :=
  let was := fon SATA.page SATA.CTRL_EN s
  let s := regWrite SATA.page off v s
  if off = 0x008 && was && !bit v 0 then after (execSataLinkChange 0 false s) s else s

/-- A write to MBX (R477 to R479, R487): an ACK and a WITHDRAW in one write leave the ACK. -/
def mbxWrite (req off v : Nat) (s : State) : State :=
  if 0x100 ≤ off && off < 0x500 then
    let m := (off - 0x100) / 128
    let r := (off - 0x100) % 128
    if r = 0x04 then gustWrite m req v s
    else if r = 0x08 then (if bit v 0 then mbxAck m s else if bit v 1 then mbxWithdraw m s else s)
    else if r = 0x10 then (if bit v 0 then dropClaim (claimMbx m) req s else s)
    else if 0x40 ≤ r then mbxData m ((r - 0x40) / 4) req v s
    else s
  else regWrite MBX.page off v s

/-- A write to PWR (R530, R551, R555). -/
def pwrWrite (off v : Nat) (s : State) : State :=
  let s := regWrite PWR.page off v s
  if off = 0x040 && bit v 31 then pwrRequest s
  else if off = 0x0A4 && bit v 31 then pmbGo s
  else s

/-- A write to DEV (R562, R564, R566, R578). -/
def devWrite (req off v : Nat) (s : State) : State :=
  if off = 0x058 then (if bit v 31 then deviceReset (v % 2 ^ 16) req s else s)
  else if off = 0x060 then (if bit v 0 then kickWatchdog s else s)
  else if off = 0x084 then recoveryWrite v s
  else
    let s := regWrite DEV.page off v s
    if off = 0x064 && bit v 31 then bootCtlGo s else s

/-- A write to EVR (R583, R586, R600). -/
def evrWrite (req off v : Nat) (s : State) : State :=
  if off = 0x054 then readLog (v % 2 ^ 14) s
  else if off = 0x08C then (if bit v 0 then postEvent req s else s)
  else regWrite EVR.page off v s

/-- A write to PMC (R587, R588, R590, R591, R601). -/
def pmcWrite (off v : Nat) (s : State) : State :=
  if off = 0x04C then seedTags v s
  else if off = 0x054 then (if bit v 0 then popRecord s else s)
  else if 0x200 ≤ off && off < 0x300 then writeVal ((off - 0x200) / 4) v s
  else regWrite PMC.page off v s

/-- A write to SEM (R596, R602). -/
def semWrite (req off v : Nat) (s : State) : State :=
  if off = 0x0C0 then (if bit v 31 then semRelease (v % 32) req s else s)
  else if off = 0x0C4 then (if bit v 31 then semForce (v % 32) req s else s)
  else regWrite SEM.page off v s

/-- A write to STL (R592, R593, R603). -/
def stlWrite (off v : Nat) (s : State) : State :=
  if off = 0x008 then
    let s := if bit v 0 then freeze false s else s
    if bit v 1 then after (execStillRelease false s) s else s
  else regWrite STL.page off v s

/-- PPC.CTRL.HALT written (R617): a core halts at its next instruction boundary, or goes on. -/
def haltCores (v : Nat) (s : State) : State :=
  let p := PPC.page
  let on := fget p PPC.STATUS_RUNNING s ||| fget p PPC.STATUS_HALTED s
  let h := v % 16 &&& on
  s |> fset p PPC.CTRL_HALT v |> fset p PPC.STATUS_HALTED h |> fset p PPC.STATUS_RUNNING (on - h)

/-! ## CNT_CLR -/

/-- The entries of an array of counters. -/
def entries (f : Fld) : List Fld := (List.range f.count).map f.ix

/-- The page's counter-clearing bit in CTRL, and the counters it clears. -/
def cntClrOf (p : Nat) : Option (Nat × List Fld) :=
  if p = 0x90 then some (1, [ DEC.CW_CNT_LO, DEC.CW_CNT_HI, DEC.CW_FAIL_CNT, DEC.ITER_SUM_LO, DEC.ITER_SUM_HI, DEC.CW_SKIP_CNT,
    DEC.RS_ERR_CNT, DEC.RS_ERAS_CNT, DEC.RS_COL_FAIL, DEC.FALSE_CONV_CNT, DEC.CL_CNT_LO, DEC.CL_CNT_HI, DEC.CL_FAIL_CNT, DEC.CL_BLANK_CNT,
    DEC.INCONS_CNT, DEC.SQ_ENTERED, DEC.SQ_RECOVERED, DEC.SQ_UNRECOVERED, DEC.RECOV_R1, DEC.RECOV_R3, DEC.RECOV_R4, DEC.RECOV_R5,
    DEC.RECOV_R6, DEC.SQ_ABANDONED, DEC.RELOC_QUEUED, DEC.RELOC_REFUSED, DEC.CAL_INSTALLED ])
  else if p = 0x91 then some (0, [ CRC.SECT_CHK_LO, CRC.SECT_CHK_HI, CRC.SECT_FAIL_CNT, CRC.TRL_FAIL_CNT, CRC.SECT_GEN_LO, CRC.SECT_GEN_HI,
    CRC.XFER_CNT, CRC.XFER_MISMATCH_CNT ])
  else if p = 0x92 then some (1, [ ENC.CL_ENC_LO, ENC.CL_ENC_HI, ENC.DCZ_BLOCKS, ENC.CKPT_CNT, ENC.ABANDON_CNT, ENC.REPL_CNT, ENC.WO_VIOL_CNT,
    ENC.VFY_FAIL_CNT ])
  else if p = 0xA0 || p = 0xA1 then some (1, [ LPW.FRAMES_LO, LPW.FRAMES_HI, LPW.SUSP_CNT, LPW.RELINK_CNT, LPW.ABANDON_CNT, LPW.PWR_MSG_CNT,
    LPW.EDGE_MERGE_CNT ])
  else if p = 0xA8 then some (1, [ CAL.OPC_CNT, CAL.OPC_FAIL_CNT ])
  else if inRange 0xB0 0xB3 p then some (1, [ CMP.BYTES_IN_LO, CMP.BYTES_IN_HI, CMP.BYTES_OUT_LO, CMP.BYTES_OUT_HI, CMP.JOBS, CMP.ERRORS,
    CMP.VFY_FAILS, CMP.STORED_RECORDS ])
  else if p = 0xC0 then some (0, entries LCH.HIT_CNT ++ entries LCH.MISS_CNT ++ [ LCH.EVICT_CNT, LCH.EVICT_WAIT_CNT, LCH.ZALLOC_CNT,
    LCH.PAR_REFETCH_CNT, LCH.PAR_FATAL_CNT, LCH.POISON_CNT, LCH.NOALLOC_CNT, LCH.DISCARD_CNT ])
  else if p = 0xC1 then some (0, [ SBF.SCRUB_PASSES, SBF.CORR_CNT, SBF.UNCORR_CNT ])
  else if p = 0xC2 then some (1, [ DRM.CORR_CNT, DRM.UNCORR_CNT, DRM.ADDR_ERR_CNT, DRM.POISON_WR_CNT, DRM.POISON_RD_CNT, DRM.RD_LINES_LO,
    DRM.RD_LINES_HI, DRM.WR_LINES_LO, DRM.WR_LINES_HI, DRM.RMW_CNT ])
  else if p = 0x10 then some (1, [ TRF.ACCEPT_CNT, TRF.REFUSE_CNT ])
  else if p = 0x11 then some (0, entries CPL.POSTED_CNT ++ entries CPL.FULL_CNT)
  else if p = 0x12 then some (1, [ ZRG.HOLD_REVS, ZRG.SWEEPS_L, ZRG.SWEEPS_U, ZRG.AGE_FORCES ])
  else if p = 0x13 then some (0, [ ERL.WRITTEN_CNT ])
  else if p = 0x14 then some (0, [ STM.SPILLS, STM.FILLS, STM.SPILL_WAIT ])
  else if p = 0x20 then some (1, [ USB.LINK_ERR_CNT, USB.TO_HOST_LO, USB.TO_HOST_HI, USB.FROM_HOST_LO, USB.FROM_HOST_HI, USB.MMC_CMD_CNT,
    USB.MMC_REJ_CNT ])
  else if p = 0x21 then some (1, [ SATA.PKT_CNT, SATA.MMC_REJ_CNT, SATA.FIS_CRC_ERR_CNT, SATA.BYTES_LO, SATA.BYTES_HI ])
  else if p = 0x22 then some (1, [ LIB.CMD_CNT, LIB.CMD_ERR_CNT ])
  else if p = 0x06 then some (0, entries MBX.DELIV_CNT ++ entries MBX.TIMEOUT_CNT ++ entries MBX.REJ_CNT)
  else if p = 0xD0 then some (1, [ VLQ.REQ_CNT, VLQ.REFUSE_CNT ])
  else if p = 0x02 then some (0, [ PWR.VMOT_WARN_CNT, PWR.CORE_WARN_CNT, PWR.VMOT_RST_CNT, PWR.OV_CNT, PWR.THERM_STEPS, PWR.THERM_CALM,
    PWR.WAKE_RD_CNT ] ++ entries PWR.FAULT_CNT)
  else if p = 0x01 then some (0, [ CLK.UNLOCK_CNT, CLK.FREQ_ERR_CNT ])
  else if p = 0x00 then some (0, [ DEV.RESET_CNT ])
  else if p = 0x03 then some (0, [ EVR.DROP_CNT, EVR.FULL_DROP_CNT ])
  else if p = 0x04 then some (1, entries PMC.VAL)
  else if p = 0x05 then some (0, [ SEM.CONTEST_CNT ])
  else if p = 0x68 then some (4, entries PPC.INSTRET_LO ++ entries PPC.INSTRET_HI ++ [ PPC.L2_HIT_CNT, PPC.L2_MISS_CNT, PPC.BERR_CNT ])
  else none

/-- CNT_CLR of a page, when the write to its CTRL sets it. -/
def cntClr (p v : Nat) (s : State) : State :=
  match cntClrOf p with
  | some (b, fs) => if bit v b then fclrs p fs s else s
  | none => s

/-! ## A write to one register -/

/-- A write to one register of a page by a requester: its fields (R11), and what it starts. -/
def pageWrite (req p off v : Nat) (s : State) : State :=
  if off = 0x018 || off = 0x010 || off = 0x014 || off = 0x01C then regWrite p off v s
  else if inRange 0x30 0x39 p then linkWrite p off v s
  else if p = 0x40 then spnWrite off v s
  else if p = 0x41 || p = 0x42 then sldWrite (p - 0x41) off v s
  else if p = 0x44 then motWrite off v s
  else if inRange 0x50 0x63 p then engWrite req p off v s
  else if inRange 0x70 0x8A p then chanWrite p off v s
  else if p = 0x91 then crcWrite off v s
  else if p = 0x92 then encWrite off v s
  else if p = 0xA0 || p = 0xA1 then lpwWrite (p - 0xA0) off v s
  else if p = 0xA8 then calWrite off v s
  else if inRange 0xB0 0xB3 p then cmpWrite (p - 0xB0) off v s
  else if p = 0xC0 then lchWrite off v s
  else if p = 0xC1 then sbfWrite off v s
  else if p = 0xD0 then vlqWrite req off v s
  else if p = 0x10 then trfWrite req off v s
  else if p = 0x11 then cplWrite off v s
  else if p = 0x13 then erlWrite off v s
  else if p = 0x20 then usbWrite off v s
  else if p = 0x21 then sataWrite off v s
  else if p = 0x06 then mbxWrite req off v s
  else if p = 0x02 then pwrWrite off v s
  else if p = 0x00 then devWrite req off v s
  else if p = 0x03 then evrWrite req off v s
  else if p = 0x04 then pmcWrite off v s
  else if p = 0x05 then semWrite req off v s
  else if p = 0x07 then stlWrite off v s
  else if p = 0x68 && off = 0x008 then haltCores v s
  else regWrite p off v s

/-- A write to one register, with CNT_CLR. -/
def writeReg (req p off v : Nat) (s : State) : State :=
  let s := pageWrite req p off v s
  if off = 0x008 then cntClr p v s else s

/-! ## Pairs (R609) -/

/-- The _LO registers of a page. -/
def pairLos (p : Nat) : List Fld :=
  (pairTable.filter (fun r => decide (r.1 ≤ p) && decide (p ≤ r.2.1))).flatMap (fun r => r.2.2)

/-- The _LO register at an offset, when there is one. -/
def loAt (p off : Nat) : Option Fld := (pairLos p).findSome? (fun f => f.atOff off)

/-- A read of this offset latches the upper half: a _LO register, or the lower counter of a 64-bit pair (R588). -/
def latchesHi (p off : Nat) (s : State) : Bool :=
  (loAt p off).isSome || (p = 0x04 && 0x200 ≤ off && off < 0x300 && off % 8 = 0 && pmcPaired ((off - 0x200) / 4 + 1) s)

/-- The _LO register of an RW pair lies here. -/
def rwLo (p off : Nat) : Bool := match loAt p off with | some f => f.acc == .rw | none => false

/-- The key of a requester's latch of an _HI register. -/
def latchKey (req a : Nat) : Nat := req * 2 ^ 24 + a

/-- Latches set, and held writes set. -/
def setLatches (m : Store Nat) (s : State) : State := { s with obs := { s.obs with latches := m } }
/-- Held _LO writes set. -/
def setLoHeld (m : Store (Nat × Nat)) (s : State) : State := { s with obs := { s.obs with loHeld := m } }

/-- Both halves of a pair written in one operation: the profile generator's target and limits take one value (R151, R198);
`lo` and `hi` are none for a half that keeps its value. -/
def pairWrite (req p off : Nat) (lo hi : Option Nat) (s : State) : State :=
  let l := lo.getD (viewWord p off s)
  let h := hi.getD (viewWord p (off + 4) s)
  if p = 0x44 && 0x040 ≤ off && off < 0x140 then
    let c := (off - 0x040) / 64
    let r := (off - 0x040) % 64
    let x := l % 2 ^ 32 + 2 ^ 32 * (h % 2 ^ 32)
    if r = 0x08 then pgSetTarget c x s
    else if r = 0x20 then pgSetLimit c .v x s
    else if r = 0x28 then pgSetLimit c .a x s
    else pgSetLimit c .j x s
  else
    let s := match lo with | some x => writeReg req p off x s | none => s
    match hi with | some x => writeReg req p (off + 4) x s | none => s

/-- A held _LO write committed alone (R609). -/
def commitLo (req : Nat) (s : State) : State :=
  match s.obs.loHeld.find req with
  | some (a, v) => s |> setLoHeld (s.obs.loHeld.erase req) |> pairWrite req (a / 4096) (a % 4096) (some v) none
  | none => s

/-- A 32-bit write of a register by a requester (R609). -/
def writeWord (req p off v : Nat) (s : State) : State :=
  let a := p * 4096 + off
  if rwLo p off then
    let s := match s.obs.loHeld.find req with | some (b, _) => if b = a then s else commitLo req s | none => s
    setLoHeld (s.obs.loHeld.insert req (a, v)) s
  else if 4 ≤ off && rwLo p (off - 4) then
    match s.obs.loHeld.find req with
    | some (b, l) =>
      if b = a - 4 then s |> setLoHeld (s.obs.loHeld.erase req) |> pairWrite req p (off - 4) (some l) (some v)
      else s |> commitLo req |> pairWrite req p (off - 4) none (some v)
    | none => pairWrite req p (off - 4) none (some v) s
  else s |> commitLo req |> writeReg req p off v

/-- A 32-bit read of a register by a requester (R609). -/
def readWord (req p off : Nat) (s : State) : Nat × State :=
  let a := p * 4096 + off
  match s.obs.latches.find (latchKey req a) with
  | some x => (x, setLatches (s.obs.latches.erase (latchKey req a)) s)
  | none =>
    if latchesHi p off s then
      let h := viewWord p (off + 4) s
      let (x, t) := readReg req p off s
      (x, setLatches (t.obs.latches.insert (latchKey req (a + 4)) h) t)
    else readReg req p off s

/-! ## Stores (R139) -/

/-- A word of a store window. -/
def storeWord' (a : Nat) (s : State) : Nat :=
  if a < 0x1A0000 then s.ustore.get ((a - 0x100000) / 4) 0
  else
    let b := a - 0x1A0000
    s.nstore.get (1024 * (b / 0x4000) + b % 0x4000 / 16) 0 / 2 ^ (32 * (b % 16 / 4)) % 2 ^ 32

/-! ## Bus errors (R612 to R614) -/

/-- The island of a window address, when a page or store lies there (R604, R647). -/
def addrIsland (a : Nat) : Option Nat :=
  if a < 0x100000 then (if isPage (a / 4096) then some (islandOf (a / 4096)) else none)
  else if a < 0x1A0000 then
    let e := (a - 0x100000) / 0x8000
    some (if e < 12 then 2 else if e < 16 then 3 else 4)
  else if a < 0x1AC000 then some (2 + (a - 0x1A0000) / 0x4000)
  else none

/-- An access the window accepts (R607): a 32-bit word, or the two words of a pair. -/
def accepted (a size : Nat) (s : State) : Bool :=
  (size = 4 && a % 4 = 0) || (size = 8 && a % 8 = 0 && decide (a < 0x100000) && latchesHi (a / 4096) (a % 4096) s)

/-- The island is held in reset (R566, R567): by a warm reset all but always-on and vault, by a power-on reset all. -/
def inReset (i : Nat) (s : State) : Bool := match s.dev.hold with | some h => h.first = 0 || i < 7 | none => false

/-- The cause of an access's bus error, or 0 (R612); the first that holds. -/
def busCause (req a size : Nat) (s : State) : Nat :=
  match addrIsland a with
  | none => 1
  | some i =>
    if !accepted a size s then 2
    else if inReset i s then 3
    else if fon STL.page STL.STATUS_FROZEN s && !(req = 2 && i = 8) then 4
    else 0

/-- A bus error recorded (R614): counted, its requester marked, and the first since BUS_ERR was cleared kept; an access
fault of a policy core shows in CORE_FAULT. -/
def busError (req a cause : Nat) (w : Option Nat) (s : State) : State :=
  let p := PPC.page
  let s := s |> cnt p PPC.BERR_CNT PPC.kCNT_SAT |> fset p PPC.BERR_REQ (setBit (fget p PPC.BERR_REQ s) req)
  let s := if raised p PPC.iBUS_ERR s then sticky p PPC.kBERR_OVF s
    else s |> fset p PPC.BERR_ADDR_ADDR a |> fsetB p PPC.BERR_ADDR_WRITE w.isSome |> fset p PPC.BERR_INFO_REQ req
      |> fset p PPC.BERR_INFO_CAUSE cause |> fset p PPC.BERR_DATA (w.getD 0) |> fset64 p PPC.BERR_TIME_LO PPC.BERR_TIME_HI s.time
      |> raise p PPC.iBUS_ERR
  if 4 ≤ req && req ≤ 7 then s |> raise p (req - 4) |> fault p 0x01 else s

/-! ## Accesses -/

/-- An access performed: its read data (a write's is 0), or none for a bus error. -/
def perform32 (req a size : Nat) (w : Option Nat) (s : State) : Option Nat × State :=
  let c := busCause req a size s
  if c ≠ 0 then (none, busError req a c w s)
  else if 0x100000 ≤ a then
    match w with
    | some v => (some 0, s |> commitLo req |> storeWrite false req a (v % 2 ^ 32))
    | none => (some (storeWord' a s), s)
  else
    let p := a / 4096
    let off := a % 4096
    match w with
    | some v =>
      if size = 8 then (some 0, s |> commitLo req |> pairWrite req p off (some (v % 2 ^ 32)) (some (v / 2 ^ 32 % 2 ^ 32)))
      else (some 0, writeWord req p off (v % 2 ^ 32) s)
    | none =>
      if size = 8 then
        let h := viewWord p (off + 4) s
        let (x, t) := readReg req p off s
        (some (x + 2 ^ 32 * h), t)
      else
        let (x, t) := readWord req p off s
        (some x, t)

/-- Data as a master receives it (R613): host and test access port read all ones from a bus error. -/
def answer (req : Nat) (r : Option Nat × State) : State :=
  match r.1 with
  | some x => send (.readData req x) r.2
  | none => if req = 0 || req = 2 then send (.readData req 0xFFFFFFFF) r.2 else r.2

/-- LULL holds this access back (R537): to anything but an always-on page, while the device is not frozen. -/
def lullGated (a : Nat) (s : State) : Bool :=
  modeNow s = 4 && addrIsland a ≠ some 8 && !fon STL.page STL.STATUS_FROZEN s && s.dev.hold.isNone

/-- An access that LULL holds back (R537): a host read completes with all ones; host writes and the other ports' accesses
wait for the wake; cores and engines issue none. -/
def lullAccess (req a size : Nat) (w : Option Nat) (s : State) : State :=
  if req = 0 && w.isNone then
    s |> cnt PWR.page PWR.WAKE_RD_CNT PWR.kCNT_SAT |> wakeSeen 2 |> send (.readData 0 0xFFFFFFFF)
  else if req ≤ 3 then s |> setPwr { s.pwr with held := s.pwr.held ++ [ .access req a size w ] } |> wakeSeen 2
  else s

/-- A master's access to the window. -/
def windowAccess (req a size : Nat) (w : Option Nat) (s : State) : State :=
  if lullGated a s then lullAccess req a size w s
  else
    let r := perform32 req a size w s
    if w.isSome then r.2 else answer req r

/-- REGISTER_WRITE (R11, R611). -/
def execRegisterWrite (req : Fin 28) (addr : BitVec 24) (size : Fin 16) (v : BitVec 64) (s : State) : Res :=
  .next (windowAccess req addr.toNat size (some v.toNat) s)

/-- RCL_READ (R11): a read, of an RCL field or any other. -/
def execRclRead (req : Fin 28) (addr : BitVec 24) (size : Fin 16) (s : State) : Res :=
  .next (windowAccess req addr.toNat size none s)

/-- PAIR_LO_READ (R609). -/
def execPairLoRead (req : Fin 28) (addr : BitVec 24) (s : State) : Res := .next (windowAccess req addr.toNat 4 none s)

/-- PAIR_LO_WRITE (R609). -/
def execPairLoWrite (req : Fin 28) (addr : BitVec 24) (v : BitVec 32) (s : State) : Res :=
  .next (windowAccess req addr.toNat 4 (some v.toNat) s)

/-- PAIR_COMMIT_TIMEOUT (R609). -/
def execPairCommitTimeout (req : Fin 28) (s : State) : Res := .next (commitLo req s)

/-- PAGE_TIMEOUT (R612): cause 5. -/
def execPageTimeout (req : Fin 28) (addr : BitVec 24) (wdata : Option (BitVec 32)) (s : State) : Res :=
  let w := wdata.map BitVec.toNat
  let t := busError req addr.toNat 5 w s
  .next (if w.isSome then t else answer req (none, t))

/-- CORE_HALT (R617). -/
def execCoreHalt (v : BitVec 32) (s : State) : Res := .next (haltCores v.toNat s)

/-! ## The control engines' accesses (R128) -/

/-- The word after a register access has completed: the RGL's result, or the rest of a two-level word. -/
def rgFinish (e : Nat) (g : RgOp) (cycles data : Nat) (s : State) : State :=
  let s := setEng e { s.eng e with rg := none } s
  let s := match g.nano with
    | some w =>
      let (rd, late) := nanoReads e w.toNat s
      runWord e (1 + cycles) rd late (nanoWord e w.toNat false (some (BitVec.ofNat 32 data))) s
    | none =>
      runWord e cycles [] [] (fun t =>
        let t := if g.data.isNone then setRegs e ((t.eng e).r.put g.dest (BitVec.ofNat 32 data)) t else t
        advance e t) s
  if fon (ENG.page e) ENG.CTRL_HALT s then haltNow e s else s

/-- RG_COMPLETE (R128): the pending access is performed with the engine's requester ID; a bus error traps. -/
def execRgComplete (e : Fin 20) (cycles : Nat) (s : State) : Res :=
  .next (match (s.eng e).rg with
    | none => s
    | some g =>
      let r := perform32 (srcEng e) g.addr 4 (g.data.map BitVec.toNat) s
      match r.1 with
      | some x => rgFinish e g cycles x r.2
      | none => takeTrap e (0x04, 0) r.2)

/-- RG_TIMEOUT (R128, R145): the access has not completed within 4 µs. -/
def execRgTimeout (e : Fin 20) (s : State) : Res :=
  .next (match (s.eng e).rg with | none => s | some _ => takeTrap e (0x04, 0) s)

/-! ## The test access port (R594) -/

/-- WINDOW: the data of the port's last read are captured; the update performs the access. -/
def execWindow (w : BitVec 64) (s : State) : Res :=
  let a := slice w.toNat 55 32
  let d := if bit w.toNat 63 then some (w.toNat % 2 ^ 32) else none
  let s := s |> loadIr 0x10 |> send (.tap s.obs.tapData)
  .next (if lullGated a s then lullAccess 2 a 4 d s
    else
      let r := perform32 2 a 4 d s
      if d.isSome then r.2 else setObs { r.2.obs with tapData := r.1.getD 0xFFFFFFFF } r.2)

end Sys2Proof.Machine
end

