-- ==== Sys2Proof/Machine/Library.lean ====
section
/-!
DEFINITION. The library port: I3C common commands, library commands, private reads and in-band interrupts
(R470 to R472).
-/
namespace Sys2Proof.Machine

/-! ## Common commands (R470) -/

/-- The target responds. -/
def libOn (s : State) : Bool := fon LIB.page LIB.CTRL_EN s

/-- A common command that acts only while the target responds. -/
def ccc (act : State → State) (s : State) : Res := .next (if libOn s then act s else s)

/-- A dynamic address taken (event 0x5014). -/
def takeAddress (a how : Nat) (s : State) : State :=
  let p := LIB.page
  s |> fset p LIB.STATUS_DA_VALID 1 |> fset p LIB.STATUS_DA a |> raise p LIB.iDA_ASSIGNED |> emit 0x5014 srcHost 1 a how

/-- A dynamic address is held. -/
def hasAddress (s : State) : Bool := fon LIB.page LIB.STATUS_DA_VALID s

/-- ENTDAA: a target without a dynamic address takes part. -/
def execEntdaa (addr : BitVec 7) (s : State) : Res := ccc (fun t => if hasAddress t then t else takeAddress addr.toNat 0 t) s

/-- SETDASA: answered at the static address. -/
def execSetdasa (static addr : BitVec 7) (s : State) : Res :=
  ccc (fun t => if hasAddress t || static.toNat ≠ fget LIB.page LIB.STATIC_ADDR t then t else takeAddress addr.toNat 1 t) s

/-- SETNEWDA. -/
def execSetnewda (addr : BitVec 7) (s : State) : Res := ccc (fun t => if hasAddress t then takeAddress addr.toNat 2 t else t) s

/-- RSTDAA. -/
def execRstdaa (s : State) : Res := ccc (fun t => t |> fset LIB.page LIB.STATUS_DA_VALID 0 |> fset LIB.page LIB.STATUS_DA 0) s

/-- In-band interrupts enabled or disabled. -/
def setIbi (on : Bool) (events : Nat) (s : State) : State := if bit events 0 then setPorts { s.port with ibiOn := on } s else s

/-- ENEC. -/
def execEnec (events : BitVec 8) (s : State) : Res := ccc (setIbi true events.toNat) s
/-- DISEC. -/
def execDisec (events : BitVec 8) (s : State) : Res := ccc (setIbi false events.toNat) s

/-- GETPID: 48 bits, most significant byte first. -/
def execGetpid (s : State) : Res := ccc (fun t => send (.i3c (beBytes 6 (fget64 LIB.page LIB.PID_LO LIB.PID_HI t))) t) s
/-- GETBCR. -/
def execGetbcr (s : State) : Res := ccc (fun t => send (.i3c [ fget LIB.page LIB.BCR t ]) t) s
/-- GETDCR. -/
def execGetdcr (s : State) : Res := ccc (fun t => send (.i3c [ fget LIB.page LIB.DCR t ]) t) s

/-- An interrupt source selected in IBI_SRC is pending (R472). -/
def ibiPending (s : State) : Bool :=
  (fon LIB.page LIB.IBI_SRC_LIB_INT s && pageInt LIB.page s) || (fon LIB.page LIB.IBI_SRC_GUST_OUT3 s && raised MBX.page 7 s)

/-- GETSTATUS: a pending interrupt in bits 3 to 0, and a protocol error in bit 5. -/
def execGetstatus (s : State) : Res :=
  ccc (fun t => send (.i3c [ 0, b2n (ibiPending t) + 32 * b2n (fget LIB.page hdrFault t == 1) ]) t) s

/-- GETMWL. -/
def execGetmwl (s : State) : Res := ccc (fun t => send (.i3c (beBytes 2 t.port.mwl)) t) s
/-- GETMRL: with the two bytes of an in-band interrupt's payload. -/
def execGetmrl (s : State) : Res := ccc (fun t => send (.i3c (beBytes 2 t.port.mrl ++ [ 2 ])) t) s
/-- SETMWL. -/
def execSetmwl (n : BitVec 16) (s : State) : Res := ccc (fun t => setPorts { t.port with mwl := min n.toNat 68 } t) s
/-- SETMRL. -/
def execSetmrl (n : BitVec 16) (s : State) : Res := ccc (fun t => setPorts { t.port with mrl := min n.toNat 68 } t) s
/-- RSTACT. -/
def execRstact (action : BitVec 8) (s : State) : Res := ccc (fun t => setPorts { t.port with rstact := action.toNat } t) s

/-! ## Library commands (R471) -/

/-- A response: its status byte and data; statuses 0x02 and 0x03 are counted. -/
def libReply (st : Nat) (bs : List Nat) (s : State) : State :=
  let p := LIB.page
  let s := setPorts { s.port with resp := some (st :: bs) } s
  if st = 2 || st = 3 then s |> cnt p LIB.CMD_ERR_CNT LIB.kCNT_SAT |> fset p LIB.LAST_ERR st |> raise p LIB.iCMD_ERR else s

/-- Mailboxes of a range that are full, bit k for the k-th. -/
def fullBits (m : Nat) (s : State) : Nat := bitsWord 4 (fun k => mbxFull (m + k) s)

/-- READ_STATUS's fifteen bytes. -/
def statusBytes (s : State) : List Nat :=
  let l := fget LIB.page hdrIntStatus s
  [ modeNow s,
    b2n (fon LIB.page LIB.STATUS_DISC_PRES s) + 2 * b2n (clampReq s) + 4 * b2n (safeState s) + 8 * b2n (discMounted s) + 16 * b2n (unloadPend s)
      + 32 * b2n (inService 0 s) + 64 * b2n (inService 1 s),
    slice (regValue ENC.page 0x00C s) 7 4 ]
    ++ leBytes 2 s.cl.order.length ++ [ (fgetI PWR.page PWR.HOT_READING s / 8 % 256).toNat, fullBits 0 s + 16 * fullBits 4 s ]
    ++ leBytes 4 (fget DEV.page DEV.OP_TIME s) ++ leBytes 4 l

/-- MBX_SEND: claim, data and GUST of MBX_IN0, whole or not at all. -/
def libSend (n : Nat) (ws : List (BitVec 32)) (s : State) : State :=
  if n = 0 || 16 < n || ws.length ≠ n then libReply 2 [] s
  else if mbxRefuses 0 1 s ≠ 0 then libReply 1 [] s
  else
    let s := takeClaim (claimMbx 0) [ 1 ] s
    let s := (List.range n).foldl (fun t i => mbxData 0 i 1 (ws.getD i 0).toNat t) s
    s |> gustRing 0 1 n |> libReply 0 []

/-- MBX_RECV: the words of MBX_OUT3. -/
def libRecv (s : State) : State :=
  if mbxFull 7 s then
    let n := fget MBX.page (MBX.MSTAT_LEN.ix 7) s
    libReply 0 (n :: (List.range n).flatMap (fun i => leBytes 4 (fget MBX.page (MBX.DATA.ix2 7 i) s))) s
  else libReply 5 [] s

/-- A register access of the port, with requester ID 1. -/
def libAccess (a : Nat) (w : Option Nat) (s : State) : State :=
  let r := perform32 1 a 4 w s
  match r.1 with
  | some x => libReply 0 (if w.isSome then [] else leBytes 4 x) r.2
  | none => libReply 3 [] r.2

/-- A library command performed. -/
def libDo (c : LibCmd) (s : State) : State :=
  let s := cnt LIB.page LIB.CMD_CNT LIB.kCNT_SAT s
  match c with
  | .readStatus => libReply 0 (statusBytes s) s
  | .regRead a => libAccess a.toNat none s
  | .regWrite a v => libAccess a.toNat (some v.toNat) s
  | .mbxSend n ws => libSend n.toNat ws s
  | .mbxRecv => libRecv s
  | .mbxAck => let e := mbxFull 7 s; s |> mbxAck 7 |> libReply (if e then 0 else 5) []
  | .modeReq m f => if 4 < m.toNat then libReply 2 [] s else s |> libReply 0 [] |> askMode m.toNat (bit f.toNat 0) none
  | .unknown => libReply 2 [] s

/-- A register command names an always-on page, which answers in LULL too (R537). -/
def alwaysOnCmd : LibCmd → Bool
  | .regRead a => addrIsland a.toNat == some 8
  | .regWrite a _ => addrIsland a.toNat == some 8
  | _ => false

/-- A library command; in LULL it waits for the wake that it starts (R537). -/
def libCommand (c : LibCmd) (s : State) : Res :=
  .next (if !libOn s then s
    else if modeNow s = 4 && !alwaysOnCmd c then s |> setPwr { s.pwr with held := s.pwr.held ++ [ .library c ] } |> wakeSeen 2
    else libDo c s)

/-- READ_STATUS. -/
def execReadStatus (s : State) : Res := libCommand .readStatus s
/-- REG_READ. -/
def execRegRead (addr : BitVec 24) (s : State) : Res := libCommand (.regRead addr) s
/-- REG_WRITE. -/
def execRegWrite (addr : BitVec 24) (v : BitVec 32) (s : State) : Res := libCommand (.regWrite addr v) s
/-- MBX_SEND. -/
def execMbxSend (len : BitVec 8) (words : List (BitVec 32)) (s : State) : Res := libCommand (.mbxSend len words) s
/-- MBX_RECV. -/
def execMbxRecv (s : State) : Res := libCommand .mbxRecv s
/-- MBX_ACK. -/
def execMbxAck (s : State) : Res := libCommand .mbxAck s
/-- MODE_REQ. -/
def execModeReq (mode flags : BitVec 8) (s : State) : Res := libCommand (.modeReq mode flags) s
/-- UNKNOWN_LIBRARY_COMMAND. -/
def execUnknownLibraryCommand (_code : BitVec 8) (s : State) : Res := libCommand .unknown s

/-- A library command waits for the end of LULL. -/
def libHeld (s : State) : Bool := s.pwr.held.any (fun h => match h with | .library _ => true | .access .. => false)

/-- LIBRARY_PRIVATE_READ (R471, R537): the response stands until the next command. -/
def execLibraryPrivateRead (s : State) : Res :=
  .next (if !libOn s then s
    else if modeNow s = 4 && libHeld s then s |> wakeSeen 2 |> send (.i3c [ 0x04 ])
    else s |> (if modeNow s = 4 then wakeSeen 2 else id) |> send (.i3c ((s.port.resp.getD [ 0x02 ]).take s.port.mrl)))

/-! ## In-band interrupts (R472) -/

/-- In-band interrupts may be requested. -/
def ibiAllowed (s : State) : Bool := libOn s && s.port.ibiOn && fon LIB.page LIB.CTRL_IBI_EN s

/-- An in-band interrupt requested: sent, or NACKed and to be requested again. -/
def ibiRequest (nacked : Bool) (s : State) : State :=
  if nacked then s |> setPorts { s.port with ibiAgain := true } |> raise LIB.page LIB.iIBI_NACK
  else s |> setPorts { s.port with ibiAgain := false } |> send (.ibi [ 0x00, fget LIB.page hdrIntStatus s % 256 ])

/-- IN_BAND_INTERRUPT. -/
def execInBandInterrupt (nacked : Bool) (s : State) : Res :=
  .next (if ibiAllowed s && ibiPending s then ibiRequest nacked s else s)

/-- IBI_RETRY: 100 µs after a NACK. -/
def execIbiRetry (nacked : Bool) (s : State) : Res :=
  .next (if ibiAllowed s && s.port.ibiAgain then ibiRequest nacked s else s)

end Sys2Proof.Machine
end

