-- ==== Sys2Proof/Machine/Lull.lean ====
section
/-!
DEFINITION. LULL: its entry, what it loses and keeps, the wake, and the window meanwhile (R534 to R537).
-/
namespace Sys2Proof.Machine

/-- The islands that LULL powers off: policy, servo, channel L, channel U, decode (R535). -/
def lostIsland (i : Nat) : Bool := 1 ≤ i && i ≤ 5

/-- Fields that show what the device keeps for the mounted disc and its calibration in lost islands; firmware restores
them with its own state (R534, R535, R647). -/
def firmwareKept (p : Nat) : List Fld :=
  if p = 0x92 then [ ENC.STATUS_SEAL_0, ENC.STATUS_SEAL_1, ENC.STATUS_FRONTIER_VALID, ENC.FRONTIER, ENC.CKPT_FRONTIER, ENC.WSEQ_LO, ENC.WSEQ_HI,
    ENC.WSEQ_LIM_LO, ENC.WSEQ_LIM_HI ]
  else if p = 0x93 then [ XTS.STATUS_ENC_DISC, XTS.STATUS_ENFORCED, XTS.STATUS_PASS ]
  else if p = 0xA8 then [ CAL.OPC_VALID_L, CAL.OPC_VALID_U ] ++ entries CAL.RES ++ entries CAL.RES_STEP ++ entries CAL.NEXT_RUN_EVEN
    ++ entries CAL.NEXT_RUN_ODD
  else if p = 0x7A || p = 0x8A then [ CHC.STATUS_MODE ]
  else []

/-- A register field's key names a field that LULL saves: an RW field of a lost page, but CUST_CTRL.ARM, or one that
firmware keeps. -/
def savedKey (k : Nat) : Bool :=
  let p := keyPage k
  let off := k / 32 % 4096
  let lo := k % 32
  lostIsland (islandOf p) && !(inRange 0x50 0x63 p && off = 0x054 && lo = 0) &&
    ((regFields p off).any (fun f => f.lo == lo && f.acc == .rw) || (firmwareKept p).any (fun f => f.key p == k))

/-- The line cache flushed and off, staging off; DRAM keeps its contents (R534 step 2, R535). -/
def memoryOff (s : State) : State :=
  let s := (s.mem.lines.map Prod.fst).foldl (fun t k => match (settle t k).mem.lines.find k with
    | some c => cleanLine k c (settle t k)
    | none => settle t k) s
  s |> setMem { s.mem with lines := [], plru := [], waits := [], bufs := [], bufWaits := [], sdata := [], serr := [], maint := 0 }
    |> fset LCH.page LCH.DIRTY_LINES 0 |> maintBusy false

/-- The lost islands' own state gone: their stores, data memories and records. What the device keeps for the disc and its
heads' service stays. -/
def islandsOff (s : State) : State :=
  { s with regs := s.regs.filter (fun kv => !lostIsland (islandOf (keyPage kv.1))), lanes := [], links := [], engs := [], ustore := [],
           nstore := [], dmem := [], pgs := [], loops := [], chans := [], commons := [], frames := [], blanks := [], lanesC := [], betas := [],
           heads := s.heads.map (fun kv => (kv.1, { ({} : HeadSt) with out := kv.2.out, oosTold := kv.2.oosTold })),
           recs := s.recs.map (fun kv => (kv.1, { ({} : RecSt) with abandoned := kv.2.abandoned, blocked := kv.2.blocked })),
           sleds := [], spin := { s.spin with gates := false, zeroVector := false, brkG := false, integ := 0, ramped := 0 },
           dec := { calAt := s.dec.calAt, before := s.dec.before } }

/-- LULL is entered (R534): step 1, then steps 2 and 3. -/
def lullStep (fails : List (Fin 8)) (s : State) : State :=
  if transDst s ≠ some 4 then s |> beginTrans 4 |> zeroiseKey 4
  else if s.pwr.rest ≠ some 4 then s |> setPwr { s.pwr with trans := none } |> fset PWR.page PWR.STATUS_TRANSITION 0
  else
    s |> setPwr { s.pwr with saved := s.regs.filter (fun kv => savedKey kv.1) } |> memoryOff |> sledOff 0 |> sledOff 1 |> islandsOff
      |> hostLink true |> fset CLK.page CLK.STATUS_STOPPED 0xFF |> railsDown true fails |> modeReached 4

/-- LULL_ENTRY (R534): from CALM, when it is requested. -/
def execLullEntry (fails : List (Fin 8)) (s : State) : Res :=
  .next (if modeNow s = 3 && ((s.pwr.rest = some 4 && s.pwr.trans.isNone) || transDst s = some 4) then lullStep fails s else s)

/-- What LULL held, performed in order (R537). -/
def performHeld : List Held → State → State
  | [], s => s
  | .access req a size w :: hs, s =>
    let r := perform32 req a size w s
    let t := if req = 2 && w.isNone then setObs { r.2.obs with tapData := r.1.getD 0xFFFFFFFF } r.2
      else if w.isSome then r.2 else match r.1 with | some x => send (.lateRead req x) r.2 | none => r.2
    performHeld hs t
  | .library c :: hs, s => performHeld hs (libDo c s)

/-- Inbound mailboxes rung in LULL: their timeout runs from here (R480). -/
def startTimeouts (s : State) : State :=
  let ms := s.port.ringLater.filter (fun m => decide (m < 4))
  setPorts { s.port with ringLater := s.port.ringLater.filter (fun m => decide (4 ≤ m)),
                         rungAt := ms.foldl (fun r m => Store.insert r m s.time) s.port.rungAt } s

/-- The lost islands restored: stores loaded from the running slot, the saved fields written back, firmware running, the
sleds homing (R536 steps 1 to 3). -/
def restoreIslands (s : State) : State :=
  let saved := s.pwr.saved
  let s := s |> fset CLK.page CLK.STATUS_LOCK 0xFF |> fset CLK.page CLK.STATUS_STOPPED 0 |> loadStores (fget DEV.page DEV.STATUS_SLOT s)
  let s := { s with regs := saved.foldl (fun r kv => Store.insert r kv.1 kv.2) s.regs }
  let s := s |> setPwr { s.pwr with saved := [] } |> kickWatchdog |> fset PPC.page PPC.STATUS_RUNNING 0xF
    |> haltCores (fget PPC.page PPC.CTRL_HALT s)
  let sled := fun (h : Nat) (t : State) =>
    if fon (SLD.page h) SLD.CTRL_EN t then t |> setSled h { t.sled h with bridges := true } |> sledSt h 1 |> homeStart h else t
  s |> sled 0 |> sled 1

/-- The start that a failed check of the wake brings (R536): as after a warm reset; the DRAM found as it was. -/
def fullStart (s : State) : State :=
  let c := fget DRM.page DRM.STATUS_CAP s
  let cap : Fin 3 := if c = 3 then 1 else if c = 4 then 2 else 0
  s |> keepAlwaysOn |> boot { prof := s.prof, slow := 0, dead := false, cap := cap, tags := [] }

/-- The wake (R536). -/
def wakeUp (sound : Bool) (s : State) : State :=
  let src := s.pwr.wake
  let link := bit src 1
  let s := s |> fset PWR.page PWR.WAKE_SRC src |> setPwr { s.pwr with wake := 0 }
  if sound then
    let held := s.pwr.held
    s |> railsUp true [] |> restoreIslands |> (fun t => setPwr { t.pwr with held := [], rest := some 3 } t) |> (if link then hostLink false else id)
      |> modeReached 3 |> emit 0x1040 srcAon 0 src 0 |> raise PWR.page PWR.iWAKE |> startTimeouts |> performHeld held
  else s |> emit 0x1040 srcAon 0 src 1 |> raise PWR.page PWR.iWAKE |> fullStart

/-- LULL_WAKE (R536): once an enabled source has been seen. -/
def execLullWake (src : BitVec 4) (sound : Bool) (s : State) : Res :=
  let s := if modeNow s = 4 then ([ 0, 1, 2, 3 ].filter (bit src.toNat)).foldl (fun t b => wakeSeen b t) s else s
  .next (if modeNow s = 4 && s.pwr.wake ≠ 0 then wakeUp sound s else s)

/-- LULL_WINDOW_ACCESS (R537). -/
def execLullWindowAccess (req : Fin 28) (addr : BitVec 24) (wdata : Option (BitVec 32)) (s : State) : Res :=
  .next (windowAccess req addr.toNat 4 (wdata.map BitVec.toNat) s)

end Sys2Proof.Machine
end

