-- ==== Sys2Proof/Machine/Tick.lean ====
section
/-!
DEFINITION. The servo tick (R83) and the wake of a control engine (R130), with the vendor microcode of the servo roles.
-/
namespace Sys2Proof.Machine

/-- H of a head as this tick presents it, and the count of ticks valid on both lanes (R159, R175). -/
def headTick (h : Nat) (s : State) : State :=
  let d := s.head h
  let now := servoH h s
  let good := laneValid h 0 s && laneValid h 1 s && !laneStale h 0 s && !laneStale h 1 s
  setHead h { d with hSeen := d.hAcc || now, hAcc := false, goodTicks := if good then d.goodTicks + 1 else 0 } s

/-- SERVO_TICK (R83): lane values cross, subframes go out, the sleds move, plausibility is checked (R112, R147, R206, R223). -/
def execServoTick (laL laU : Nat) (latL latU : BitVec 9) (s : State) : Res :=
  let s := (List.range 4).foldl (fun t l => laneTick (l / 2) (l % 2) t) s
  let s := (List.range 4).foldl (fun t l => takeTick l t) s
  let s := s |> headTick 0 |> headTick 1 |> clvTick |> legacyStep |> sledTick 0 laL |> sledTick 1 laU |> aclTick 0 |> aclTick 1
    |> fmax (ACL.page 0) ACL.LAT_MAX latL.toNat |> fmax (ACL.page 1) ACL.LAT_MAX latU.toNat
  .next ((List.range 11).foldl plausTick s)

/-- What the vendor microcode of a servo engine does when a servo tick wakes it. -/
def roleTick (e : Nat) (s : State) : State :=
  if e < 8 && e % 4 ≠ 3 then loopTick e s
  else if e = 9 || e = 10 then followTick (e - 9) s
  else if e = 11 then s |> motionTick 0 |> motionTick 1
  else s

/-- ENGINE_WAKE (R130). -/
def execEngineWake (e : Fin 20) (events : BitVec 6) (s : State) : Res :=
  let t := engEvents e events.toNat s
  .next (if engState e s = 2 && engState e t = 1 && events.getLsbD 0 then roleTick e t else t)

end Sys2Proof.Machine
end

