-- ==== Sys2Proof/Machine/Dispatch.lean ====
section
/-!
DEFINITION. One arm per command: the call of its meaning.
-/
namespace Sys2Proof.Machine

/-- The effect of a command on everything but the queue. -/
def exec (i : Instr) (s : State) : Host.Outcome State Fault Refusal :=
  match i with
  | .powerOnReset boot limSel => Sys2Proof.Machine.execPowerOnReset boot limSel s
  | .pinReset => Sys2Proof.Machine.execPinReset s
  | .deviceReset key req => Sys2Proof.Machine.execDeviceReset key req s
  | .watchdogExpired => Sys2Proof.Machine.execWatchdogExpired s
  | .wdogKick => Sys2Proof.Machine.execWdogKick s
  | .resetRelease boot => Sys2Proof.Machine.execResetRelease boot s
  | .rcvDataWrite v => Sys2Proof.Machine.execRcvDataWrite v s
  | .bootCtlWrite prefer trial confirm => Sys2Proof.Machine.execBootCtlWrite prefer trial confirm s
  | .driveReady => Sys2Proof.Machine.execDriveReady s
  | .tapReset => Sys2Proof.Machine.execTapReset s
  | .functionLevelReset => Sys2Proof.Machine.execFunctionLevelReset s
  | .usbBusReset => Sys2Proof.Machine.execUsbBusReset s
  | .usbAttachmentChange attach alt failed => Sys2Proof.Machine.execUsbAttachmentChange attach alt failed s
  | .pcieTunnelChange pcie usb3 alt refused => Sys2Proof.Machine.execPcieTunnelChange pcie usb3 alt refused s
  | .sataLinkChange speed failed => Sys2Proof.Machine.execSataLinkChange speed failed s
  | .comreset => Sys2Proof.Machine.execComreset s
  | .prioritySlot head link slot ns => Sys2Proof.Machine.execPrioritySlot head link slot ns s
  | .servoTick laL laU latL latU => Sys2Proof.Machine.execServoTick laL laU latL latU s
  | .servoStale head link => Sys2Proof.Machine.execServoStale head link s
  | .fecCodeword head link cw => Sys2Proof.Machine.execFecCodeword head link cw s
  | .monitorStreamAbsent head => Sys2Proof.Machine.execMonitorStreamAbsent head s
  | .laneDown head link window => Sys2Proof.Machine.execLaneDown head link window s
  | .laneDegraded head link corrected => Sys2Proof.Machine.execLaneDegraded head link corrected s
  | .linkEnable head page en => Sys2Proof.Machine.execLinkEnable head page en s
  | .linkTrain head page => Sys2Proof.Machine.execLinkTrain head page s
  | .trainingFrame head link frame => Sys2Proof.Machine.execTrainingFrame head link frame s
  | .trainingTimeout head cause => Sys2Proof.Machine.execTrainingTimeout head cause s
  | .controlResponse head type tag body => Sys2Proof.Machine.execControlResponse head type tag body s
  | .controlMessageTimeout head tag => Sys2Proof.Machine.execControlMessageTimeout head tag s
  | .htxMsgGo head => Sys2Proof.Machine.execHtxMsgGo head s
  | .underrun head => Sys2Proof.Machine.execUnderrun head s
  | .coilDriverFault head => Sys2Proof.Machine.execCoilDriverFault head s
  | .fltNRelease head restart => Sys2Proof.Machine.execFltNRelease head restart s
  | .nop e w => Sys2Proof.Machine.execNop e w s
  | .add e w => Sys2Proof.Machine.execAdd e w s
  | .sub e w => Sys2Proof.Machine.execSub e w s
  | .neg e w => Sys2Proof.Machine.execNeg e w s
  | .abs e w => Sys2Proof.Machine.execAbs e w s
  | .min e w => Sys2Proof.Machine.execMin e w s
  | .max e w => Sys2Proof.Machine.execMax e w s
  | .lim e w => Sys2Proof.Machine.execLim e w s
  | .and e w => Sys2Proof.Machine.execAnd e w s
  | .or e w => Sys2Proof.Machine.execOr e w s
  | .xor e w => Sys2Proof.Machine.execXor e w s
  | .mov e w => Sys2Proof.Machine.execMov e w s
  | .shl e w => Sys2Proof.Machine.execShl e w s
  | .shr e w => Sys2Proof.Machine.execShr e w s
  | .mul e w => Sys2Proof.Machine.execMul e w s
  | .mac e w => Sys2Proof.Machine.execMac e w s
  | .msu e w => Sys2Proof.Machine.execMsu e w s
  | .clra e w => Sys2Proof.Machine.execClra e w s
  | .lda e w => Sys2Proof.Machine.execLda e w s
  | .mva e w => Sys2Proof.Machine.execMva e w s
  | .ldh e w => Sys2Proof.Machine.execLdh e w s
  | .ldl e w => Sys2Proof.Machine.execLdl e w s
  | .load e w bad => Sys2Proof.Machine.execLoad e w bad s
  | .store e w => Sys2Proof.Machine.execStore e w s
  | .setx e w => Sys2Proof.Machine.execSetx e w s
  | .movx e w => Sys2Proof.Machine.execMovx e w s
  | .inPort e w => Sys2Proof.Machine.execInPort e w s
  | .outPort e w => Sys2Proof.Machine.execOutPort e w s
  | .cmp e w => Sys2Proof.Machine.execCmp e w s
  | .tst e w => Sys2Proof.Machine.execTst e w s
  | .branch e w => Sys2Proof.Machine.execBranch e w s
  | .call e w => Sys2Proof.Machine.execCall e w s
  | .ret e w => Sys2Proof.Machine.execRet e w s
  | .wait e w => Sys2Proof.Machine.execWait e w s
  | .engineWake e events => Sys2Proof.Machine.execEngineWake e events s
  | .hook e w => Sys2Proof.Machine.execHook e w s
  | .retc e w => Sys2Proof.Machine.execRetc e w s
  | .trap e w => Sys2Proof.Machine.execTrap e w s
  | .resume e w => Sys2Proof.Machine.execResume e w s
  | .rgl e w => Sys2Proof.Machine.execRgl e w s
  | .rgs e w => Sys2Proof.Machine.execRgs e w s
  | .rgComplete e cycles => Sys2Proof.Machine.execRgComplete e cycles s
  | .rgTimeout e => Sys2Proof.Machine.execRgTimeout e s
  | .ji e w => Sys2Proof.Machine.execJi e w s
  | .nanoWord e w bad => Sys2Proof.Machine.execNanoWord e w bad s
  | .customerBudgetExhausted e => Sys2Proof.Machine.execCustomerBudgetExhausted e s
  | .tickOverrun e => Sys2Proof.Machine.execTickOverrun e s
  | .engineHalt e halt => Sys2Proof.Machine.execEngineHalt e halt s
  | .engineStep e => Sys2Proof.Machine.execEngineStep e s
  | .doorbell e => Sys2Proof.Machine.execDoorbell e s
  | .cntClr e => Sys2Proof.Machine.execCntClr e s
  | .dmDataAccess e req data => Sys2Proof.Machine.execDmDataAccess e req data s
  | .storeWindowWrite loader req addr data => Sys2Proof.Machine.execStoreWindowWrite loader req addr data s
  | .customerRegionWrite e word data => Sys2Proof.Machine.execCustomerRegionWrite e word data s
  | .custArm e arm => Sys2Proof.Machine.execCustArm e arm s
  | .custArmed e => Sys2Proof.Machine.execCustArmed e s
  | .pgTick => Sys2Proof.Machine.execPgTick s
  | .pgGo ch => Sys2Proof.Machine.execPgGo ch s
  | .pgStop ch => Sys2Proof.Machine.execPgStop ch s
  | .pgLimitWrite ch limit value => Sys2Proof.Machine.execPgLimitWrite ch limit value s
  | .pgTargetWrite ch target => Sys2Proof.Machine.execPgTargetWrite ch target s
  | .plausRearm e => Sys2Proof.Machine.execPlausRearm e s
  | .bankSwap head loop => Sys2Proof.Machine.execBankSwap head loop s
  | .focusAcquire head => Sys2Proof.Machine.execFocusAcquire head s
  | .focusSweepEnd head => Sys2Proof.Machine.execFocusSweepEnd head s
  | .trackingAcquire head => Sys2Proof.Machine.execTrackingAcquire head s
  | .loopPark head loop => Sys2Proof.Machine.execLoopPark head loop s
  | .focusLost head byFs => Sys2Proof.Machine.execFocusLost head byFs s
  | .trackingLost head te => Sys2Proof.Machine.execTrackingLost head te s
  | .lostFeedback head cause loop => Sys2Proof.Machine.execLostFeedback head cause loop s
  | .reAcquisition head confirmed => Sys2Proof.Machine.execReAcquisition head confirmed s
  | .jumpGapStart head mon nrev => Sys2Proof.Machine.execJumpGapStart head mon nrev s
  | .gapJumpFail head => Sys2Proof.Machine.execGapJumpFail head s
  | .layerJump head target => Sys2Proof.Machine.execLayerJump head target s
  | .layerJumpFail head confirm layer => Sys2Proof.Machine.execLayerJumpFail head confirm layer s
  | .seek head => Sys2Proof.Machine.execSeek head s
  | .pwmPeriod m => Sys2Proof.Machine.execPwmPeriod m s
  | .spindleStart => Sys2Proof.Machine.execSpindleStart s
  | .catchEnd rpm edges => Sys2Proof.Machine.execCatchEnd rpm edges s
  | .alignEnd => Sys2Proof.Machine.execAlignEnd s
  | .handoff => Sys2Proof.Machine.execHandoff s
  | .speedOk => Sys2Proof.Machine.execSpeedOk s
  | .startFail cause rpm => Sys2Proof.Machine.execStartFail cause rpm s
  | .spindleStop => Sys2Proof.Machine.execSpindleStop s
  | .spindleStopped ms => Sys2Proof.Machine.execSpindleStopped ms s
  | .ovsClr => Sys2Proof.Machine.execOvsClr s
  | .targetWrite rpm clv => Sys2Proof.Machine.execTargetWrite rpm clv s
  | .overspeed rpm comparator => Sys2Proof.Machine.execOverspeed rpm comparator s
  | .observerLost obs cmp => Sys2Proof.Machine.execObserverLost obs cmp s
  | .se8Stopped => Sys2Proof.Machine.execSe8Stopped s
  | .brkGOn mv => Sys2Proof.Machine.execBrkGOn mv s
  | .brkGOff mv => Sys2Proof.Machine.execBrkGOff mv s
  | .chopperFault shorted ma => Sys2Proof.Machine.execChopperFault shorted ma s
  | .busOv mv => Sys2Proof.Machine.execBusOv mv s
  | .spincmdChange raw => Sys2Proof.Machine.execSpincmdChange raw s
  | .spincmdLost raw => Sys2Proof.Machine.execSpincmdLost raw s
  | .spincmdRecovered => Sys2Proof.Machine.execSpincmdRecovered s
  | .sledStall head la => Sys2Proof.Machine.execSledStall head la s
  | .sledCoilFault head coil ma => Sys2Proof.Machine.execSledCoilFault head coil ma s
  | .sledStop head => Sys2Proof.Machine.execSledStop head s
  | .hardStopRest head => Sys2Proof.Machine.execHardStopRest head s
  | .sledEngineStopped head => Sys2Proof.Machine.execSledEngineStopped head s
  | .home head => Sys2Proof.Machine.execHome head s
  | .homeSwitchEdge head asserted => Sys2Proof.Machine.execHomeSwitchEdge head asserted s
  | .homingFail head cause => Sys2Proof.Machine.execHomingFail head cause s
  | .switchGlitch head => Sys2Proof.Machine.execSwitchGlitch head s
  | .limitTrip head outer => Sys2Proof.Machine.execLimitTrip head outer s
  | .tedWindow head beam rms slot => Sys2Proof.Machine.execTedWindow head beam rms slot s
  | .acquisitionFailed head beam frame => Sys2Proof.Machine.execAcquisitionFailed head beam frame s
  | .gainStep head beam => Sys2Proof.Machine.execGainStep head beam s
  | .eqReset head beam => Sys2Proof.Machine.execEqReset head beam s
  | .syncMark head beam secondary cands sheltered => Sys2Proof.Machine.execSyncMark head beam secondary cands sheltered s
  | .flockGained head beam => Sys2Proof.Machine.execFlockGained head beam s
  | .frameDelivery head beam rf => Sys2Proof.Machine.execFrameDelivery head beam rf s
  | .frameSlotEnd head beam level env ref => Sys2Proof.Machine.execFrameSlotEnd head beam level env ref s
  | .cqiWindow head beam mse => Sys2Proof.Machine.execCqiWindow head beam mse s
  | .defectStart head beam ago rf => Sys2Proof.Machine.execDefectStart head beam ago rf s
  | .defectEnd head beam bits rf => Sys2Proof.Machine.execDefectEnd head beam bits rf s
  | .headDefectEnd head bits tenths beams envMin => Sys2Proof.Machine.execHeadDefectEnd head bits tenths beams envMin s
  | .defLong head us beams => Sys2Proof.Machine.execDefLong head us beams s
  | .defFifoPop head => Sys2Proof.Machine.execDefFifoPop head s
  | .wobbleWord head stream word => Sys2Proof.Machine.execWobbleWord head stream word s
  | .posLost head => Sys2Proof.Machine.execPosLost head s
  | .modeCfgWrite head mode => Sys2Proof.Machine.execModeCfgWrite head mode s
  | .pushPullBalance head layer al ag => Sys2Proof.Machine.execPushPullBalance head layer al ag s
  | .saPresetCal head layer => Sys2Proof.Machine.execSaPresetCal head layer s
  | .radialTiltCal head layer zone => Sys2Proof.Machine.execRadialTiltCal head layer zone s
  | .tangentialTiltCal head layer zone => Sys2Proof.Machine.execTangentialTiltCal head layer zone s
  | .focusOffsetCal head layer => Sys2Proof.Machine.execFocusOffsetCal head layer s
  | .calSweepPoint head cqi h => Sys2Proof.Machine.execCalSweepPoint head cqi h s
  | .calFail head cause => Sys2Proof.Machine.execCalFail head cause s
  | .codewordDecoded psa w => Sys2Proof.Machine.execCodewordDecoded psa w s
  | .clusterOutcome psa legacy => Sys2Proof.Machine.execClusterOutcome psa legacy s
  | .squallSlotFree => Sys2Proof.Machine.execSquallSlotFree s
  | .squallReread psa legacy => Sys2Proof.Machine.execSquallReread psa legacy s
  | .squallCalibration psa cal5 cal3 => Sys2Proof.Machine.execSquallCalibration psa cal5 cal3 s
  | .squallTimeLimit psa => Sys2Proof.Machine.execSquallTimeLimit psa s
  | .squallAbandon psa => Sys2Proof.Machine.execSquallAbandon psa s
  | .relocation side verified => Sys2Proof.Machine.execRelocation side verified s
  | .crcTestStart => Sys2Proof.Machine.execCrcTestStart s
  | .crcTestData data => Sys2Proof.Machine.execCrcTestData data s
  | .crcTestFinish => Sys2Proof.Machine.execCrcTestFinish s
  | .xferCheckCompare tag => Sys2Proof.Machine.execXferCheckCompare tag s
  | .clusterEncode c => Sys2Proof.Machine.execClusterEncode c s
  | .opcRun r => Sys2Proof.Machine.execOpcRun r s
  | .opcInvalidate head layer why => Sys2Proof.Machine.execOpcInvalidate head layer why s
  | .recordingArm head psas window offset seq => Sys2Proof.Machine.execRecordingArm head psas window offset seq s
  | .recordingSuspend head cause => Sys2Proof.Machine.execRecordingSuspend head cause s
  | .relink head ahead window offset seq => Sys2Proof.Machine.execRelink head ahead window offset seq s
  | .abandonedReRecording head verified => Sys2Proof.Machine.execAbandonedReRecording head verified s
  | .dczBlockReRecording head => Sys2Proof.Machine.execDczBlockReRecording head s
  | .frontierCheckpoint cluster => Sys2Proof.Machine.execFrontierCheckpoint cluster s
  | .firstRecording => Sys2Proof.Machine.execFirstRecording s
  | .sealRun side copies steps => Sys2Proof.Machine.execSealRun side copies steps s
  | .verifyPass v => Sys2Proof.Machine.execVerifyPass v s
  | .boost head on => Sys2Proof.Machine.execBoost head on s
  | .lpwEnable head en => Sys2Proof.Machine.execLpwEnable head en s
  | .cacheRequest cls addr len data par => Sys2Proof.Machine.execCacheRequest cls addr len data par s
  | .evictionComplete set way => Sys2Proof.Machine.execEvictionComplete set way s
  | .fillComplete set way errs => Sys2Proof.Machine.execFillComplete set way errs s
  | .clean par => Sys2Proof.Machine.execClean par s
  | .invalidate par => Sys2Proof.Machine.execInvalidate par s
  | .flush par => Sys2Proof.Machine.execFlush par s
  | .zero par => Sys2Proof.Machine.execZero par s
  | .maintDone => Sys2Proof.Machine.execMaintDone s
  | .stagingReserve psa write => Sys2Proof.Machine.execStagingReserve psa write s
  | .stagingRelease psa errs => Sys2Proof.Machine.execStagingRelease psa errs s
  | .scrub errs => Sys2Proof.Machine.execScrub errs s
  | .sbfTestEn en => Sys2Proof.Machine.execSbfTestEn en s
  | .testWriteData => Sys2Proof.Machine.execTestWriteData s
  | .testWriteCheck => Sys2Proof.Machine.execTestWriteCheck s
  | .testWriteBoth => Sys2Proof.Machine.execTestWriteBoth s
  | .testRawRead => Sys2Proof.Machine.execTestRawRead s
  | .compressJob lane => Sys2Proof.Machine.execCompressJob lane s
  | .inflateJob lane => Sys2Proof.Machine.execInflateJob lane s
  | .recordComplete lane taken deflate => Sys2Proof.Machine.execRecordComplete lane taken deflate s
  | .jobDone lane mbps => Sys2Proof.Machine.execJobDone lane mbps s
  | .outputExhausted lane taken out => Sys2Proof.Machine.execOutputExhausted lane taken out s
  | .jobResume lane => Sys2Proof.Machine.execJobResume lane s
  | .jobAbort lane off => Sys2Proof.Machine.execJobAbort lane off s
  | .blockFlush lane => Sys2Proof.Machine.execBlockFlush lane s
  | .recordFlush lane => Sys2Proof.Machine.execRecordFlush lane s
  | .flushComplete lane taken out => Sys2Proof.Machine.execFlushComplete lane taken out s
  | .trfClaim reqs => Sys2Proof.Machine.execTrfClaim reqs s
  | .claimRelease what req => Sys2Proof.Machine.execClaimRelease what req s
  | .claimTimeout what => Sys2Proof.Machine.execClaimTimeout what s
  | .read sub => Sys2Proof.Machine.execRead sub s
  | .write sub => Sys2Proof.Machine.execWrite sub s
  | .verify sub => Sys2Proof.Machine.execVerify sub s
  | .seal sub => Sys2Proof.Machine.execSeal sub s
  | .streamOpen sub => Sys2Proof.Machine.execStreamOpen sub s
  | .streamClose sub => Sys2Proof.Machine.execStreamClose sub s
  | .offload sub block data work => Sys2Proof.Machine.execOffload sub block data work s
  | .selfTestShort sub plan => Sys2Proof.Machine.execSelfTestShort sub plan s
  | .selfTestExtended sub plan => Sys2Proof.Machine.execSelfTestExtended sub plan s
  | .selfTestStop sub => Sys2Proof.Machine.execSelfTestStop sub s
  | .abort sub => Sys2Proof.Machine.execAbort sub s
  | .mount sub => Sys2Proof.Machine.execMount sub s
  | .unmount sub => Sys2Proof.Machine.execUnmount sub s
  | .setMode sub => Sys2Proof.Machine.execSetMode sub s
  | .commandExpansion => Sys2Proof.Machine.execCommandExpansion s
  | .writeDataArrived tag cluster data records => Sys2Proof.Machine.execWriteDataArrived tag cluster data records s
  | .bandChoice head => Sys2Proof.Machine.execBandChoice head s
  | .readRevolutionStart head psas => Sys2Proof.Machine.execReadRevolutionStart head psas s
  | .headOutOfService head => Sys2Proof.Machine.execHeadOutOfService head s
  | .completionPost tag fails => Sys2Proof.Machine.execCompletionPost tag fails s
  | .ringHeadWrite ring head fails => Sys2Proof.Machine.execRingHeadWrite ring head fails s
  | .ringEnable ring cfg fails => Sys2Proof.Machine.execRingEnable ring cfg fails s
  | .coalescingTimer ring => Sys2Proof.Machine.execCoalescingTimer ring s
  | .hostDmaFailed tag kind => Sys2Proof.Machine.execHostDmaFailed tag kind s
  | .descriptorFetch tag entries => Sys2Proof.Machine.execDescriptorFetch tag entries s
  | .streamSpill tag fail => Sys2Proof.Machine.execStreamSpill tag fail s
  | .restartResume req => Sys2Proof.Machine.execRestartResume req s
  | .discardLater req => Sys2Proof.Machine.execDiscardLater req s
  | .discardAll req => Sys2Proof.Machine.execDiscardAll req s
  | .selfTestYieldEnd => Sys2Proof.Machine.execSelfTestYieldEnd s
  | .modeEntryDeferred => Sys2Proof.Machine.execModeEntryDeferred s
  | .abortTask tag => Sys2Proof.Machine.execAbortTask tag s
  | .abortTaskSet => Sys2Proof.Machine.execAbortTaskSet s
  | .logicalUnitReset => Sys2Proof.Machine.execLogicalUnitReset s
  | .bulkOnlyMassStorageReset => Sys2Proof.Machine.execBulkOnlyMassStorageReset s
  | .getMaxLun => Sys2Proof.Machine.execGetMaxLun s
  | .sataNop => Sys2Proof.Machine.execSataNop s
  | .deviceResetAta => Sys2Proof.Machine.execDeviceResetAta s
  | .executeDeviceDiagnostic => Sys2Proof.Machine.execExecuteDeviceDiagnostic s
  | .packet cdb data limit crcErrors => Sys2Proof.Machine.execPacket cdb data limit crcErrors s
  | .identifyPacketDevice => Sys2Proof.Machine.execIdentifyPacketDevice s
  | .standbyImmediate => Sys2Proof.Machine.execStandbyImmediate s
  | .idleImmediate => Sys2Proof.Machine.execIdleImmediate s
  | .checkPowerMode => Sys2Proof.Machine.execCheckPowerMode s
  | .sleep => Sys2Proof.Machine.execSleep s
  | .setFeatures feature count => Sys2Proof.Machine.execSetFeatures feature count s
  | .unsupportedAtaCommand op => Sys2Proof.Machine.execUnsupportedAtaCommand op s
  | .testUnitReady via => Sys2Proof.Machine.execTestUnitReady via s
  | .requestSense via cdb => Sys2Proof.Machine.execRequestSense via cdb s
  | .inquiry via cdb => Sys2Proof.Machine.execInquiry via cdb s
  | .formatUnit via data => Sys2Proof.Machine.execFormatUnit via data s
  | .startStopUnit via cdb => Sys2Proof.Machine.execStartStopUnit via cdb s
  | .preventAllowMediumRemoval via cdb => Sys2Proof.Machine.execPreventAllowMediumRemoval via cdb s
  | .readFormatCapacities via cdb => Sys2Proof.Machine.execReadFormatCapacities via cdb s
  | .readCapacity via => Sys2Proof.Machine.execReadCapacity via s
  | .read10 via cdb => Sys2Proof.Machine.execRead10 via cdb s
  | .read12 via cdb => Sys2Proof.Machine.execRead12 via cdb s
  | .write10 via cdb => Sys2Proof.Machine.execWrite10 via cdb s
  | .write12 via cdb => Sys2Proof.Machine.execWrite12 via cdb s
  | .verify10 via cdb => Sys2Proof.Machine.execVerify10 via cdb s
  | .synchronizeCache via => Sys2Proof.Machine.execSynchronizeCache via s
  | .readToc via cdb found => Sys2Proof.Machine.execReadToc via cdb found s
  | .readDiscInformation via cdb found => Sys2Proof.Machine.execReadDiscInformation via cdb found s
  | .readTrackInformation via cdb found => Sys2Proof.Machine.execReadTrackInformation via cdb found s
  | .getConfiguration via cdb => Sys2Proof.Machine.execGetConfiguration via cdb s
  | .getEventStatusNotification via cdb => Sys2Proof.Machine.execGetEventStatusNotification via cdb s
  | .reserveTrack via cdb => Sys2Proof.Machine.execReserveTrack via cdb s
  | .closeTrackSession via cdb => Sys2Proof.Machine.execCloseTrackSession via cdb s
  | .sendOpcInformation via => Sys2Proof.Machine.execSendOpcInformation via s
  | .modeSelect10 via data => Sys2Proof.Machine.execModeSelect10 via data s
  | .modeSense10 via cdb => Sys2Proof.Machine.execModeSense10 via cdb s
  | .readBufferCapacity via cdb => Sys2Proof.Machine.execReadBufferCapacity via cdb s
  | .getPerformance via cdb => Sys2Proof.Machine.execGetPerformance via cdb s
  | .mechanismStatus via cdb => Sys2Proof.Machine.execMechanismStatus via cdb s
  | .readDiscStructure via cdb found => Sys2Proof.Machine.execReadDiscStructure via cdb found s
  | .setStreaming via => Sys2Proof.Machine.execSetStreaming via s
  | .setCdSpeed via => Sys2Proof.Machine.execSetCdSpeed via s
  | .readCd via cdb => Sys2Proof.Machine.execReadCd via cdb s
  | .zvSeal via cdb => Sys2Proof.Machine.execZvSeal via cdb s
  | .zvDlaState via => Sys2Proof.Machine.execZvDlaState via s
  | .zvSetMode via cdb => Sys2Proof.Machine.execZvSetMode via cdb s
  | .zvVault via cdb data => Sys2Proof.Machine.execZvVault via cdb data s
  | .unsupportedMmcCommand via op => Sys2Proof.Machine.execUnsupportedMmcCommand via op s
  | .entdaa addr => Sys2Proof.Machine.execEntdaa addr s
  | .setdasa static addr => Sys2Proof.Machine.execSetdasa static addr s
  | .setnewda addr => Sys2Proof.Machine.execSetnewda addr s
  | .rstdaa => Sys2Proof.Machine.execRstdaa s
  | .enec events => Sys2Proof.Machine.execEnec events s
  | .disec events => Sys2Proof.Machine.execDisec events s
  | .getpid => Sys2Proof.Machine.execGetpid s
  | .getbcr => Sys2Proof.Machine.execGetbcr s
  | .getdcr => Sys2Proof.Machine.execGetdcr s
  | .getstatus => Sys2Proof.Machine.execGetstatus s
  | .getmwl => Sys2Proof.Machine.execGetmwl s
  | .getmrl => Sys2Proof.Machine.execGetmrl s
  | .setmwl n => Sys2Proof.Machine.execSetmwl n s
  | .setmrl n => Sys2Proof.Machine.execSetmrl n s
  | .rstact action => Sys2Proof.Machine.execRstact action s
  | .libraryPrivateRead => Sys2Proof.Machine.execLibraryPrivateRead s
  | .readStatus => Sys2Proof.Machine.execReadStatus s
  | .regRead addr => Sys2Proof.Machine.execRegRead addr s
  | .regWrite addr v => Sys2Proof.Machine.execRegWrite addr v s
  | .mbxSend len words => Sys2Proof.Machine.execMbxSend len words s
  | .mbxRecv => Sys2Proof.Machine.execMbxRecv s
  | .mbxAck => Sys2Proof.Machine.execMbxAck s
  | .modeReq mode flags => Sys2Proof.Machine.execModeReq mode flags s
  | .inBandInterrupt nacked => Sys2Proof.Machine.execInBandInterrupt nacked s
  | .ibiRetry nacked => Sys2Proof.Machine.execIbiRetry nacked s
  | .clampReqAsserted => Sys2Proof.Machine.execClampReqAsserted s
  | .unload => Sys2Proof.Machine.execUnload s
  | .clampReqReleased => Sys2Proof.Machine.execClampReqReleased s
  | .unloadLate => Sys2Proof.Machine.execUnloadLate s
  | .discLost => Sys2Proof.Machine.execDiscLost s
  | .discPresAsserted => Sys2Proof.Machine.execDiscPresAsserted s
  | .gust m req v => Sys2Proof.Machine.execGust m req v s
  | .mailboxAck m withdraw => Sys2Proof.Machine.execMailboxAck m withdraw s
  | .withdraw m => Sys2Proof.Machine.execWithdraw m s
  | .mbxClaim m reqs => Sys2Proof.Machine.execMbxClaim m reqs s
  | .mailboxDataWrite m word req v => Sys2Proof.Machine.execMailboxDataWrite m word req v s
  | .ackTimeout m => Sys2Proof.Machine.execAckTimeout m s
  | .vlqClaim reqs => Sys2Proof.Machine.execVlqClaim reqs s
  | .vlqIndexAccess req acc => Sys2Proof.Machine.execVlqIndexAccess req acc s
  | .vaultRequestCopy => Sys2Proof.Machine.execVaultRequestCopy s
  | .vaultResponse => Sys2Proof.Machine.execVaultResponse s
  | .getInfo => Sys2Proof.Machine.execGetInfo s
  | .getNonce entropy => Sys2Proof.Machine.execGetNonce entropy s
  | .getIdentity => Sys2Proof.Machine.execGetIdentity s
  | .getCert => Sys2Proof.Machine.execGetCert s
  | .quote => Sys2Proof.Machine.execQuote s
  | .claim cut storeFails => Sys2Proof.Machine.execClaim cut storeFails s
  | .transfer cut storeFails => Sys2Proof.Machine.execTransfer cut storeFails s
  | .setPolicy storeFails => Sys2Proof.Machine.execSetPolicy storeFails s
  | .commitPolicy cut => Sys2Proof.Machine.execCommitPolicy cut s
  | .importWrapKey storeFails => Sys2Proof.Machine.execImportWrapKey storeFails s
  | .prepareDisc => Sys2Proof.Machine.execPrepareDisc s
  | .discUnlock => Sys2Proof.Machine.execDiscUnlock s
  | .discLock => Sys2Proof.Machine.execDiscLock s
  | .verifyImage => Sys2Proof.Machine.execVerifyImage s
  | .commitSvn cut => Sys2Proof.Machine.execCommitSvn cut s
  | .logClear => Sys2Proof.Machine.execLogClear s
  | .nonceExpiry req => Sys2Proof.Machine.execNonceExpiry req s
  | .internalScan code => Sys2Proof.Machine.execInternalScan code s
  | .pwrModeReq mode force => Sys2Proof.Machine.execPwrModeReq mode force s
  | .activeModeChange => Sys2Proof.Machine.execActiveModeChange s
  | .modeReached => Sys2Proof.Machine.execModeReached s
  | .calmEntry fails => Sys2Proof.Machine.execCalmEntry fails s
  | .calmExit fails => Sys2Proof.Machine.execCalmExit fails s
  | .lullEntry fails => Sys2Proof.Machine.execLullEntry fails s
  | .lullWake src sound => Sys2Proof.Machine.execLullWake src sound s
  | .lullWindowAccess req addr wdata => Sys2Proof.Machine.execLullWindowAccess req addr wdata s
  | .thermalSample raw => Sys2Proof.Machine.execThermalSample raw s
  | .thermalReturn => Sys2Proof.Machine.execThermalReturn s
  | .vmotWarning mv => Sys2Proof.Machine.execVmotWarning mv s
  | .coreWarning mv => Sys2Proof.Machine.execCoreWarning mv s
  | .warningEnd core low us => Sys2Proof.Machine.execWarningEnd core low us s
  | .vmotResetLevel mv => Sys2Proof.Machine.execVmotResetLevel mv s
  | .vmotResetRecovery low us => Sys2Proof.Machine.execVmotResetRecovery low us s
  | .overVoltageWarning mv => Sys2Proof.Machine.execOverVoltageWarning mv s
  | .overVoltageTrip mv => Sys2Proof.Machine.execOverVoltageTrip mv s
  | .overVoltageRecovery low us => Sys2Proof.Machine.execOverVoltageRecovery low us s
  | .coreResetLevel mv => Sys2Proof.Machine.execCoreResetLevel mv s
  | .pmbusPoll reads => Sys2Proof.Machine.execPmbusPoll reads s
  | .pmbAlert words => Sys2Proof.Machine.execPmbAlert words s
  | .pmbCmd result => Sys2Proof.Machine.execPmbCmd result s
  | .clockCheck off khz lf ppm => Sys2Proof.Machine.execClockCheck off khz lf ppm s
  | .referenceLost => Sys2Proof.Machine.execReferenceLost s
  | .pllUnlock island => Sys2Proof.Machine.execPllUnlock island s
  | .dlaMount m => Sys2Proof.Machine.execDlaMount m s
  | .mountFail cause step => Sys2Proof.Machine.execMountFail cause step s
  | .eventArrival src => Sys2Proof.Machine.execEventArrival src s
  | .eventCommit ok => Sys2Proof.Machine.execEventCommit ok s
  | .dropEpisodeEnd => Sys2Proof.Machine.execDropEpisodeEnd s
  | .postCtrl req => Sys2Proof.Machine.execPostCtrl req s
  | .logClearRun flushed => Sys2Proof.Machine.execLogClearRun flushed s
  | .rdIdxWrite n => Sys2Proof.Machine.execRdIdxWrite n s
  | .counterOverflow n => Sys2Proof.Machine.execCounterOverflow n s
  | .pmcHold on => Sys2Proof.Machine.execPmcHold on s
  | .valWrite n v => Sys2Proof.Machine.execValWrite n v s
  | .tagSeed v => Sys2Proof.Machine.execTagSeed v s
  | .recPop => Sys2Proof.Machine.execRecPop s
  | .stillFreeze pin => Sys2Proof.Machine.execStillFreeze pin s
  | .stillRelease pin => Sys2Proof.Machine.execStillRelease pin s
  | .extest captured shifted => Sys2Proof.Machine.execExtest captured shifted s
  | .idcode => Sys2Proof.Machine.execIdcode s
  | .samplePreload captured shifted => Sys2Proof.Machine.execSamplePreload captured shifted s
  | .window w => Sys2Proof.Machine.execWindow w s
  | .stillRead => Sys2Proof.Machine.execStillRead s
  | .bypass => Sys2Proof.Machine.execBypass s
  | .semAcquire n reqs => Sys2Proof.Machine.execSemAcquire n reqs s
  | .semRel n req => Sys2Proof.Machine.execSemRel n req s
  | .forceRel n req => Sys2Proof.Machine.execForceRel n req s
  | .registerWrite req addr size v => Sys2Proof.Machine.execRegisterWrite req addr size v s
  | .pairLoRead req addr => Sys2Proof.Machine.execPairLoRead req addr s
  | .pairLoWrite req addr v => Sys2Proof.Machine.execPairLoWrite req addr v s
  | .pairCommitTimeout req => Sys2Proof.Machine.execPairCommitTimeout req s
  | .rclRead req addr size => Sys2Proof.Machine.execRclRead req addr size s
  | .pageTimeout req addr wdata => Sys2Proof.Machine.execPageTimeout req addr wdata s
  | .coreHalt v => Sys2Proof.Machine.execCoreHalt v s
  | .powerLoss flushed => Sys2Proof.Machine.execPowerLoss flushed s
  | .discPresDeasserted => Sys2Proof.Machine.execDiscPresDeasserted s
  | .hostLinkResume low => Sys2Proof.Machine.execHostLinkResume low s
  | .pcieConfigurationWrite w => Sys2Proof.Machine.execPcieConfigurationWrite w s
  | .msiXTableWrite entry word v => Sys2Proof.Machine.execMsiXTableWrite entry word v s
  | .modeDeferTimeout => Sys2Proof.Machine.execModeDeferTimeout s
  | .bootControlCopyRecorded => Sys2Proof.Machine.execBootControlCopyRecorded s
  | .recoveryWriteDone => Sys2Proof.Machine.execRecoveryWriteDone s
  | .logAreaEraseDone ok => Sys2Proof.Machine.execLogAreaEraseDone ok s
  | .wobbleNotLocked head => Sys2Proof.Machine.execWobbleNotLocked head s
  | .unknownLibraryCommand code => Sys2Proof.Machine.execUnknownLibraryCommand code s

end Sys2Proof.Machine
end

