-- ==== Sys2Proof/Machine/Idle.lean ====
section
/-!
DEFINITION. What passes with device time alone, where no command waits: one 25 MHz reference cycle (log entry 10).
-/
namespace Sys2Proof.Machine

/-- Whether a power loss has stopped device time (R16, R558). -/
def powerOff (s : State) : Bool :=
  match s.dev.hold with
  | some h => h.first == 0
  | none => false

/-- Reference cycles in 1/1,024 h of operating time, the unit of OP_TIME: 3,600 × 25,000,000 / 1,024. -/
def opTimeUnit : Nat := 87890625

/-- Memory-island cycles between two device times: 1,066.5 MHz against 25 MHz. -/
def memCycles (t : Nat) : Nat := 2133 * (t + 1) / 50 - 2133 * t / 50

/-- Operating time advances by one unit, wrapping. -/
def opTimeTick (s : State) : State :=
  if s.time % opTimeUnit = 0 then fset DEV.page DEV.OP_TIME (fget DEV.page DEV.OP_TIME s + 1) s else s

/-- One reference cycle: device time (R16), the counters' clock signals 0x01 and 0x14 (R589), operating time. -/
def deviceTick (s : State) : State :=
  if powerOff s then s
  else
    let stopped := fon STL.page STL.STATUS_FROZEN s || s.dev.hold.isSome
    let t := pmc 0x01 0 1 s
    let t := if stopped || s.mem.bufWaits.isEmpty then t else pmc 0x14 0 (memCycles s.time) t
    opTimeTick { t with time := s.time + 1 }

end Sys2Proof.Machine
end

