-- ==== Sys2Proof/Safety.lean ====
section
/-!
DEFINITION. The vocabulary of the claims: a meaning that completes, and what a command leaves alone.
-/
namespace Sys2Proof.Machine

/-- A component of the state, by the name of its field. -/
inductive Part
  | pending | free | time | prof | regs | evq | out | msix | msixPend | msixMask | disc | ends | lanes
  | links | recs | engs | ustore | nstore | dmem | pgs | loops | heads | spin | sleds | chans | commons
  | frames | blanks | dec | encoded | opcs | betas | mem | lanesC | claims | cl | port | vault | otp | pwr
  | dev | obs
  deriving DecidableEq, Repr

/-- The state with one component at its reset value. -/
def State.clear : Part → State → State
  | .pending, s => { s with pending := [] }
  | .free, s => { s with free := 0 }
  | .time, s => { s with time := 0 }
  | .prof, s => { s with prof := false }
  | .regs, s => { s with regs := [] }
  | .evq, s => { s with evq := [] }
  | .out, s => { s with out := [] }
  | .msix, s => { s with msix := [] }
  | .msixPend, s => { s with msixPend := 0 }
  | .msixMask, s => { s with msixMask := false }
  | .disc, s => { s with disc := {} }
  | .ends, s => { s with ends := [] }
  | .lanes, s => { s with lanes := [] }
  | .links, s => { s with links := [] }
  | .recs, s => { s with recs := [] }
  | .engs, s => { s with engs := [] }
  | .ustore, s => { s with ustore := [] }
  | .nstore, s => { s with nstore := [] }
  | .dmem, s => { s with dmem := [] }
  | .pgs, s => { s with pgs := [] }
  | .loops, s => { s with loops := [] }
  | .heads, s => { s with heads := [] }
  | .spin, s => { s with spin := {} }
  | .sleds, s => { s with sleds := [] }
  | .chans, s => { s with chans := [] }
  | .commons, s => { s with commons := [] }
  | .frames, s => { s with frames := [] }
  | .blanks, s => { s with blanks := [] }
  | .dec, s => { s with dec := {} }
  | .encoded, s => { s with encoded := [] }
  | .opcs, s => { s with opcs := [] }
  | .betas, s => { s with betas := [] }
  | .mem, s => { s with mem := {} }
  | .lanesC, s => { s with lanesC := [] }
  | .claims, s => { s with claims := [] }
  | .cl, s => { s with cl := {} }
  | .port, s => { s with port := {} }
  | .vault, s => { s with vault := {} }
  | .otp, s => { s with otp := {} }
  | .pwr, s => { s with pwr := {} }
  | .dev, s => { s with dev := {} }
  | .obs, s => { s with obs := {} }

/-- Every component of the state but those listed is as before. -/
def sameBut (ps : List Part) (s t : State) : Prop := ps.foldr State.clear t = ps.foldr State.clear s

/-- The meaning of a command completes with a next state that `P` describes. -/
def Completes (c : Instr) (s : State) (P : State → Prop) : Prop := ∃ t, exec c s = .next t ∧ P t

/-- Every register field of a page not listed reads as before. -/
def otherPages (ps : List Nat) (s t : State) : Prop := ∀ p, p ∉ ps → ∀ f : Fld, f.off < 4096 ∧ f.lo < 32 → fget p f t = fget p f s

/-- Every register field but those of page `p` listed reads as before. -/
def otherFields (p : Nat) (fs : List Fld) (s t : State) : Prop :=
  ∀ q (f : Fld), f.key q ∉ fs.map (fun g => g.key p) → fget q f t = fget q f s

/-- Every register field reads as before. -/
def sameRegs (s t : State) : Prop := ∀ p (f : Fld), fget p f t = fget p f s

/-- An interrupt bit of a page is set (R606). -/
def hasInt (p b : Nat) (t : State) : Prop := bit (fget p hdrIntStatus t) b = true

/-- A sticky bit of a page is set (R606). -/
def hasSticky (p b : Nat) (t : State) : Prop := bit (fget p hdrSticky t) b = true

/-- The block held in reset by cause `c`, asked for by requester `q` (0xFF for none): what R566 and R567 leave of it. -/
def heldBy (c q : Nat) (s t : State) : Prop :=
  t.dev.hold = some ⟨c, 2 ^ c, s.time, q⟩ ∧ fget DEV.page DEV.RESET_CAUSE t = 2 ^ c ∧ fget DEV.page DEV.STATUS_BOOT_STATE t = 0 ∧
  fget PWR.page PWR.STATUS_MODE t = 3 ∧ fget STL.page STL.STATUS_FROZEN t = 0 ∧
  t.pending = s.pending ∧ t.time = s.time ∧ t.prof = s.prof ∧ t.otp = s.otp ∧ t.free = s.free ∧
  t.disc = {} ∧ t.ends = [] ∧ t.lanes = [] ∧ t.links = [] ∧ t.engs = [] ∧ t.ustore = [] ∧ t.nstore = [] ∧ t.dmem = [] ∧ t.pgs = [] ∧
  t.loops = [] ∧ t.heads = [] ∧ t.spin = {} ∧ t.sleds = [] ∧ t.chans = [] ∧ t.commons = [] ∧ t.frames = [] ∧ t.dec = {} ∧
  t.encoded = [] ∧ t.mem = {} ∧ t.lanesC = [] ∧ t.port = {}

/-- Engine `e` runs a vertical word, and the next word is one its code may run (R127, R143). -/
def wordRuns (e : Nat) (s : State) : Prop :=
  executing e s = true ∧ fon (ENG.page e) ENG.STATUS_UFMT s = false ∧ (inCust e s = false ∨ 0x1C00 ≤ (pcOf e s + 1) % 2 ^ 13)

/-- An engine's record `g` once a word has spent its cycles: one more where it reads a result of the word before that is not ready (R128). -/
def spentBy (cycles : Nat) (reads late : List Nat) (before g : EngSt) : EngSt :=
  { g with cyc := g.cyc + cycles + (if reads.any (fun r => before.late.contains r) then 1 else 0), late := late }

/-- A word of engine `e` is done: its record is `g`, PC is `pc`, and nothing else has changed but sticky bits of its page. -/
def wordDone (e pc : Nat) (g : EngSt) (s t : State) : Prop :=
  t.eng e = g ∧ pcOf e t = pc ∧ (∀ f, f ≠ e → t.eng f = s.eng f) ∧ sameBut [.regs, .engs] s t ∧
  otherFields (ENG.page e) [ENG.PC, hdrSticky] s t

/-- A word that writes the result `x` to register `d` and sets the flags by it is done (R124, R125, R128). -/
def aluDone (e d : Nat) (x : BitVec 32 × Bool) (reads late : List Nat) (s t : State) : Prop :=
  wordDone e ((pcOf e s + 1) % 2 ^ 13) (spentBy 1 reads late (s.eng e)
    { s.eng e with r := { (s.eng e).r.put d x.1 with flags := flagsOf (s.eng e).r.flags x.1 x.2 } }) s t ∧
  (x.2 = true → hasSticky (ENG.page e) ENG.kSAT t)

/-- A word that writes the accumulator `i` with `v`, saturated, is done (R124, R128). -/
def accDone (e i : Nat) (v : Int) (reads late : List Nat) (s t : State) : Prop :=
  wordDone e ((pcOf e s + 1) % 2 ^ 13) (spentBy 1 reads late (s.eng e) { s.eng e with r := (s.eng e).r.putAc i (sat72 v).1 }) s t ∧
  ((sat72 v).2 = true → hasSticky (ENG.page e) ENG.kACC_SAT t)

/-- A word that leaves the registers `r` and sets no flag is done. -/
def regsDone (e : Nat) (r : Regs) (reads : List Nat) (s t : State) : Prop :=
  wordDone e ((pcOf e s + 1) % 2 ^ 13) (spentBy 1 reads [] (s.eng e) { s.eng e with r := r }) s t

/-- A trap of vendor code that was running is taken (R145, R146): the frame is latched and stored, and the handler runs. -/
def trapTaken (e cause arg : Nat) (s t : State) : Prop :=
  engState e t = 3 ∧ pcOf e t = 8 ∧ fget (ENG.page e) hdrFault t = cause ∧ hasInt (ENG.page e) ENG.iTRAP t ∧
  (∀ i < 32, dmGet e (0xDE0 + i) t = (frameWords e cause arg s).getD i 0 % 2 ^ 32 ∧
    fget (ENG.page e) (ENG.FRAME.ix i) t = (frameWords e cause arg s).getD i 0 % 2 ^ 32) ∧
  t.evq = s.evq ++ [⟨engEvent e 0, srcEng e, srcEng e % 2 ^ 32, (frameWords e cause arg s).getD 0 0 % 2 ^ 32, arg % 2 ^ 32, false⟩] ∧
  sameBut [.regs, .evq, .out, .msixPend, .engs, .dmem] s t

/-- A SUBMIT of operation `op` passes every check of R418: its requester holds the claim, the intake is enabled, and RESULT.CODE is 0. -/
def submitReady (op : Nat) (sub : Submit) (c : Cmd) (s : State) : Prop :=
  holds claimTrf sub.req s = true ∧ fon TRF.page TRF.CTRL_EN s = true ∧ c = fieldsOf sub.req op s ∧ intakeCode sub.tag.toNat sub.early c s = 0

/-- The SUBMIT is accepted (R417): its tag is taken, SEQ assigned, the answer shown; `d` is the command as it then stands. -/
def acceptedAs (op : Nat) (sub : Submit) (d : Cmd) (s t : State) : Prop :=
  t.cl.cmds.find sub.tag.toNat = some d ∧ d.n = s.cl.n + 1 ∧ d.req = sub.req ∧ d.op = op ∧ d.time = s.time ∧
  d.flags = fget TRF.page TRF.CMD_FLAGS s ∧ d.cq = fget TRF.page TRF.CMD_CQ s ∧ d.lba = fget TRF.page TRF.LBA s ∧ d.count = fget TRF.page TRF.COUNT s ∧
  t.cl.n = s.cl.n + 1 ∧ t.cl.order = s.cl.order ++ [sub.tag.toNat] ∧ fget TRF.page TRF.SEQ t = (s.cl.n + 1) % 2 ^ 32 ∧
  fget TRF.page TRF.RESULT_CODE t = 0 ∧ fget TRF.page TRF.RESULT_TAG t = sub.tag.toNat ∧ fget TRF.page TRF.RESULT_REQ t = sub.req

/-- The vault has copied a request of requester `q` whose operation is `op` and body `b`, of a length it accepts, and is not locked out (R496, R498, R526). -/
def vaultAsked (op q : Nat) (b : List Nat) (s : State) : Prop := ∃ o r, s.vault.op = some o ∧ o.req = q ∧ o.request = some r ∧ o.done = none ∧
  reqOp r = op ∧ reqBody r = b ∧ reqLen r ≤ 12272 ∧ fon VLQ.page VLQ.STATUS_LOCKED_OUT s = false

/-- The operation running is performed, with this RESULT and response body. -/
def vaultAnswer (code : Nat) (body : List Nat) (s t : State) : Prop := ∃ o, s.vault.op = some o ∧ t.vault.op = some { o with done := some (code, body) }

/-- The operation is refused: it is answered with a code, and nothing has changed but the nonces (R499). -/
def vaultRefusal (code : Nat) (s t : State) : Prop :=
  vaultAnswer code [] s t ∧ sameBut [.vault] s t ∧ t.vault = { s.vault with op := t.vault.op, nonces := t.vault.nonces }

/-- The USB port has room for an MMC command of opcode `op` (R461). -/
def mmcRoom (via : MmcVia) (op : Nat) (s : State) : Prop := portLoad (viaJob via op).port s < portDepth (viaJob via op).port s

/-- An MMC command of the USB port ends with a status and sense data, after these bytes of data-in; the ports hold `q` but for the sense data, and nothing else has changed but counters of the page (R462, R468, R484). -/
def mmcEnds (via : MmcVia) (op : Nat) (data : List (List Nat)) (status : Nat) (x : Sense) (q : PortSt) (s t : State) : Prop :=
  t.out = s.out ++ data.map (.portData (viaJob via op).port (viaJob via op).id) ++
    [.portStatus (viaJob via op).port (viaJob via op).id status x.key x.asc x.ascq x.info] ∧
  t.port = { q with sense := x } ∧ sameBut [.regs, .out, .port] s t ∧
  otherFields USB.page [USB.MMC_CMD_CNT, USB.TO_HOST_LO, USB.TO_HOST_HI, hdrSticky] s t

/-- The native command that an MMC command becomes (R464). -/
def nativeOf (via : MmcVia) (opcode op lba count arg0 : Nat) : Cmd :=
  { n := 0, req := 4, op := op, lba := lba, count := count, arg0 := arg0, len := 2048 * count, job := some (viaJob via opcode) }

end Sys2Proof.Machine
end

