-- ==== Sys2Proof/Certificates/Slice0/Obligations.lean ====
section
/-!
DEFINITION. The statements for the provers, in the order of the spec's chapters of commands.
A clause is: hypotheses on the state and the operands alone; then exec completes with a next state that has what the rule gives (Completes).
The frame is sameBut (components of the state), otherFields, otherPages and sameRegs (register fields).
-/
open Sys2Proof Sys2Proof.Machine

/-- R566, R567: each cause of a warm reset, with none in force, holds the block in reset under its own code; a cause that arrives while the
block is held joins the causes held. -/
def Obligations.WarmResetHoldsTheBlock : Prop := ∀ s : State,
  (s.dev.hold = none →
    Completes .pinReset s (heldBy 1 0xFF s) ∧
    (∀ req, Completes (.deviceReset 0x5A17 req) s (heldBy 4 req s)) ∧
    (∀ mv, Completes (.coreResetLevel mv) s (heldBy 2 0xFF s)) ∧
    Completes .referenceLost s (heldBy 3 0xFF s) ∧
    (∀ island, Completes (.pllUnlock island) s (heldBy 3 0xFF s)) ∧
    (fon DEV.page DEV.WDOG_CFG_EN s = true → fget DEV.page DEV.STATUS_BOOT_STATE s ∈ [2, 3] → fon STL.page STL.STATUS_FROZEN s = false →
      fget PWR.page PWR.STATUS_MODE s ≠ 4 → Completes .watchdogExpired s (heldBy 5 0xFF s))) ∧
  (∀ h, s.dev.hold = some h →
    Completes .pinReset s fun t => t.dev = { s.dev with hold := some { h with all := setBit h.all 1 } } ∧ sameBut [.regs, .dev] s t ∧
      otherFields DEV.page [DEV.RESET_HIST] s t)

/-- R558 to R567: power loss holds the block in reset with everything volatile gone; power-on reset restarts device time, samples the
straps and counts the power cycle; a reset released starts the boot ROM again; start-up ends in READY; and the watchdog is kicked. -/
def Obligations.PowerAndStartUp : Prop := ∀ s : State,
  (∀ flushed, Completes (.powerLoss flushed) s fun t => t.dev.hold = some ⟨0, 1, 0, 0xFF⟩ ∧ t.time = 0 ∧ t.otp = s.otp ∧
    t.pending = s.pending ∧ t.evq = [] ∧ t.disc = {} ∧ t.engs = [] ∧ t.chans = [] ∧ t.mem = {} ∧ t.cl = {} ∧ t.claims = [] ∧ t.vault = {}) ∧
  (∀ (b : BootIn) limSel, Completes (.powerOnReset b limSel) s fun t => t.time = 0 ∧ t.prof = b.prof ∧ t.otp = s.otp ∧ t.pending = s.pending ∧
    t.disc = {} ∧ t.chans = [] ∧ t.commons = [] ∧ t.dec = {} ∧ t.mem = {} ∧ t.cl = {} ∧ t.claims = [] ∧ t.dmem = [] ∧
    fget DEV.page DEV.POWER_CYCLES t = min (2 ^ 24 - 1) (fget DEV.page DEV.POWER_CYCLES s % 2 ^ 24 + 1) ∧
    fget DEV.page DEV.STRAP_LIM_SEL t = limSel.val) ∧
  (∀ (b : BootIn) h, s.dev.hold = some h → h.first ≠ 0 → fon STL.page STL.STATUS_PIN s = false →
    Completes (.resetRelease b) s fun t => t.dev.hold = none ∧ t.prof = b.prof ∧ t.time = s.time ∧
      (∃ later, t.evq = s.evq ++ ⟨0x0005, srcAon, (if h.first = 4 then h.req else 0xFF) % 2 ^ 32, fget DEV.page DEV.RESET_CAUSE s % 2 ^ 32,
        (s.time - h.since) / 25 % 2 ^ 32, false⟩ :: later) ∧
      sameBut [.regs, .prof, .evq, .out, .msixPend, .lanes, .links, .ustore, .nstore, .sleds, .vault, .dev] s t) ∧
  (fget DEV.page DEV.STATUS_BOOT_STATE s = 2 → Completes .driveReady s fun t => fget DEV.page DEV.STATUS_BOOT_STATE t = 3 ∧
    fget DEV.page DEV.BOOT_MS t = min 65535 ((s.time - s.dev.bootAt) / 25000) ∧
    (∃ later, t.evq = s.evq ++ ⟨0x0002, srcAon, 0, min 65535 ((s.time - s.dev.bootAt) / 25000), b2n (inService 0 s) + 2 * b2n (inService 1 s),
      false⟩ :: later) ∧ sameBut [.regs, .evq, .out, .msixPend, .engs, .loops, .spin, .cl, .port, .dev] s t) ∧
  Completes .wdogKick s fun t => t = { s with dev := { s.dev with kicked := s.time } }

/-- R562, R564: BOOT_CTL writes a copy of the boot control that is complete when it is recorded, and a recovery write programs four bytes. -/
def Obligations.BootControlAndRecovery : Prop := ∀ s : State,
  (∀ prefer trial confirm, Completes (.bootCtlWrite prefer trial confirm) s fun t =>
    fget DEV.page DEV.BOOT_CTL_PREFER t = b2n prefer ∧ fget DEV.page DEV.BOOT_CTL_TRIAL t = b2n trial ∧
    fget DEV.page DEV.BOOT_CTL_CONFIRM t = b2n confirm ∧
    (if fon DEV.page DEV.STATUS_BOOT_CTL_BUSY s then t.dev = s.dev
     else fget DEV.page DEV.STATUS_BOOT_CTL_BUSY t = 1 ∧ t.dev = { s.dev with copy := some (0x1000 * (bootCtl s).2,
       bootCopyBytes (if confirm then ⟨(bootCtl s).1.gen + 1, (bootCtl s).1.prefer, 0, 0⟩
         else ⟨(bootCtl s).1.gen + 1, b2n prefer, b2n trial, 0⟩)) }) ∧
    sameBut [.regs, .dev] s t ∧
    otherFields DEV.page [DEV.BOOT_CTL_PREFER, DEV.BOOT_CTL_TRIAL, DEV.BOOT_CTL_CONFIRM, DEV.STATUS_BOOT_CTL_BUSY] s t) ∧
  (∀ a bs, s.dev.copy = some (a, bs) → supplyWarned s = false → Completes .bootControlCopyRecorded s fun t =>
    t.dev = { (flashStore a bs (flashErase a (a + 0x1000) s)).dev with copy := none } ∧
    fget DEV.page DEV.STATUS_BOOT_CTL_BUSY t = 0 ∧ hasInt DEV.page DEV.iBOOT_CTL_DONE t ∧
    (fon DEV.page DEV.BOOT_CTL_CONFIRM s = true → fget DEV.page DEV.STATUS_TRIAL t = 0) ∧ sameBut [.regs, .out, .msixPend, .dev] s t ∧
    otherFields DEV.page [DEV.STATUS_BOOT_CTL_BUSY, DEV.BOOT_INFO_TRIES, DEV.STATUS_TRIAL, hdrIntStatus] s t) ∧
  (∀ v : BitVec 32, fget DEV.page DEV.STATUS_BOOT_STATE s = 4 → 0x00100000 ≤ fget DEV.page DEV.RCV_ADDR s / 4 * 4 →
    fget DEV.page DEV.RCV_ADDR s / 4 * 4 ≤ 0x030FFFFF → Completes (.rcvDataWrite v) s fun t =>
      flashBytes (fget DEV.page DEV.RCV_ADDR s / 4 * 4) 4 t = leBytes 4 v.toNat ∧
      (∀ k, k < fget DEV.page DEV.RCV_ADDR s / 4 * 4 ∨ fget DEV.page DEV.RCV_ADDR s / 4 * 4 + (if fget DEV.page DEV.RCV_ADDR s / 4 * 4 % 0x10000 = 0
        then 0x10000 else 4) ≤ k → t.dev.flash.get k 0xFF = s.dev.flash.get k 0xFF) ∧
      fget DEV.page DEV.RCV_ADDR t = fget DEV.page DEV.RCV_ADDR s / 4 * 4 + 4 ∧ fget DEV.page DEV.STATUS_RCV_BUSY t = 1 ∧
      sameBut [.regs, .dev] s t ∧ otherFields DEV.page [DEV.RCV_ADDR, DEV.STATUS_RCV_BUSY] s t) ∧
  (∀ v : BitVec 32, (fget DEV.page DEV.STATUS_BOOT_STATE s ≠ 4 ∨ fget DEV.page DEV.RCV_ADDR s / 4 * 4 < 0x00100000 ∨
    0x030FFFFF < fget DEV.page DEV.RCV_ADDR s / 4 * 4) → Completes (.rcvDataWrite v) s fun t =>
      hasSticky DEV.page DEV.kRCV_REJ t ∧ sameBut [.regs] s t ∧ otherFields DEV.page [hdrSticky] s t) ∧
  Completes .recoveryWriteDone s fun t => fget DEV.page DEV.STATUS_RCV_BUSY t = 0 ∧ sameBut [.regs] s t ∧
    otherFields DEV.page [DEV.STATUS_RCV_BUSY] s t

/-- R592 to R595: a freeze, its release and its read-out, and the instructions of the test access port. -/
def Obligations.FreezeAndTestPort : Prop := ∀ s : State,
  (∀ pin, fon STL.page STL.STATUS_FROZEN s = false → Completes (.stillFreeze pin) s fun t => fget STL.page STL.STATUS_FROZEN t = 1 ∧
    fget64 STL.page STL.FREEZE_TIME_LO STL.FREEZE_TIME_HI t = s.time % 2 ^ 64 ∧ fget STL.page STL.READOUT_CNT t = 0 ∧
    hasInt STL.page STL.iFROZEN t ∧ t.obs.byPin = pin ∧ t.obs.chains.length = 7 ∧ t.vault.op = none ∧ t.vault.nonces = [] ∧
    (pin = true → fget STL.page STL.STATUS_PIN t = 1) ∧
    sameBut [.free, .regs, .evq, .out, .msixPend, .links, .recs, .spin, .sleds, .vault, .pwr, .obs] s t) ∧
  (∀ pin, fon STL.page STL.STATUS_FROZEN s = true → Completes (.stillFreeze pin) s fun t =>
    (pin = true → fget STL.page STL.STATUS_PIN t = 1) ∧ sameBut [.regs] s t ∧ otherFields STL.page [STL.STATUS_PIN] s t) ∧
  (∀ pin, fon STL.page STL.STATUS_FROZEN s = true → s.obs.byPin = pin → (pin = true ∨ fon STL.page STL.STATUS_PIN s = false) →
    s.dev.bootLater = none → Completes (.stillRelease pin) s fun t => fget STL.page STL.STATUS_FROZEN t = 0 ∧
      fget STL.page STL.STATUS_READOUT t = 0 ∧ t.obs.chains = [] ∧ hasInt STL.page STL.iRELEASED t ∧ (pin = true → fget STL.page STL.STATUS_PIN t = 0) ∧
      sameBut [.regs, .evq, .out, .msixPend, .loops, .heads, .spin, .sleds, .vault, .pwr, .obs] s t) ∧
  (fon STL.page STL.STATUS_FROZEN s = true → fget STL.page STL.READOUT_CNT s < 2 ^ 16 - 1 → Completes .stillRead s fun t =>
    t.out = s.out ++ [.tap (readOut s)] ∧ fget STL.page STL.READOUT_CNT t = fget STL.page STL.READOUT_CNT s + 1 ∧
    fget STL.page STL.STATUS_READOUT t = 1 ∧ t.obs = { s.obs with ir := 0x20 } ∧
    t.evq = s.evq ++ [⟨0x0022, srcAon, fget STL.page STL.READOUT_CNT s + 1, 0, 0, false⟩] ∧ sameBut [.regs, .evq, .out, .vault, .obs] s t ∧
    otherFields STL.page [STL.READOUT_CNT, STL.STATUS_READOUT] s t) ∧
  (fon STL.page STL.STATUS_FROZEN s = false → Completes .stillRead s fun t => t.out = s.out ++ [.tap 0] ∧
    t.obs = { s.obs with ir := 0x20 } ∧ sameBut [.regs, .out, .obs] s t ∧ otherFields STL.page [STL.STATUS_READOUT] s t) ∧
  (∀ captured shifted, Completes (.extest captured shifted) s fun t =>
    t.out = s.out ++ (if s.obs.ir = 0 then [] else [.pins s.obs.bound]) ++ [.tap captured, .pins shifted] ∧
    t.obs = { s.obs with ir := 0x00, bound := shifted } ∧ sameBut [.regs, .out, .obs] s t ∧ otherFields STL.page [STL.STATUS_READOUT] s t) ∧
  (∀ captured shifted, Completes (.samplePreload captured shifted) s fun t => t.out = s.out ++ [.tap captured] ∧
    t.obs = { s.obs with ir := 0x02, bound := shifted } ∧ sameBut [.regs, .out, .obs] s t ∧ otherFields STL.page [STL.STATUS_READOUT] s t) ∧
  (Completes .idcode s fun t => t.out = s.out ++ [.tap idcode] ∧ t.obs = { s.obs with ir := 0x01 } ∧ sameBut [.regs, .out, .obs] s t ∧
    otherFields STL.page [STL.STATUS_READOUT] s t) ∧
  (Completes .bypass s fun t => t.out = s.out ++ [.tap 0] ∧ t.obs = { s.obs with ir := 0xFF } ∧ sameBut [.regs, .out, .obs] s t ∧
    otherFields STL.page [STL.STATUS_READOUT] s t) ∧
  Completes .tapReset s fun t => t.obs = { s.obs with ir := 0x01 } ∧ sameBut [.regs, .obs] s t ∧ otherFields STL.page [STL.STATUS_READOUT] s t

/-- R587 to R591, R596: the counters, the tagging generator, the record ring and the semaphores. -/
def Obligations.CountersTagsSemaphores : Prop := ∀ s : State,
  (∀ n : Fin 64, fget PMC.page (PMC.CNT_CFG_WIDTH.ix n) s = 2 → n.val % 2 = 0 → Completes (.counterOverflow n) s fun t =>
    fget PMC.page (PMC.VAL.ix n) t = (if fon PMC.page (PMC.CNT_CFG_SAT.ix n) s then 2 ^ 32 - 1 else 0) ∧
    fget PMC.page (PMC.VAL.ix (n + 1)) t = (if fon PMC.page (PMC.CNT_CFG_SAT.ix n) s then 2 ^ 32 - 1 else 0) ∧
    hasInt PMC.page PMC.iOVF t ∧ sameBut [.regs, .out, .msixPend] s t ∧
    otherFields PMC.page [PMC.VAL.ix n, PMC.VAL.ix (n + 1), if n.val < 32 then PMC.OVF_LO else PMC.OVF_HI, hdrIntStatus] s t) ∧
  (∀ n : Fin 64, ¬(fget PMC.page (PMC.CNT_CFG_WIDTH.ix n) s = 2 ∧ n.val % 2 = 0) → Completes (.counterOverflow n) s fun t =>
    fget PMC.page (PMC.VAL.ix n) t = (if fon PMC.page (PMC.CNT_CFG_SAT.ix n) s then
      2 ^ (if fget PMC.page (PMC.CNT_CFG_WIDTH.ix n) s = 0 then 16 else 32) - 1 else 0) ∧
    bit (fget PMC.page (if n.val < 32 then PMC.OVF_LO else PMC.OVF_HI) t) (n % 32) = true ∧ hasInt PMC.page PMC.iOVF t ∧
    sameBut [.regs, .out, .msixPend] s t ∧
    otherFields PMC.page [PMC.VAL.ix n, if n.val < 32 then PMC.OVF_LO else PMC.OVF_HI, hdrIntStatus] s t) ∧
  (∀ on, Completes (.pmcHold on) s fun t => fget PMC.page PMC.CTRL_HOLD t = b2n on ∧ sameBut [.regs] s t ∧ otherFields PMC.page [PMC.CTRL_HOLD] s t) ∧
  (∀ (n : Fin 64) (v : BitVec 32), Completes (.valWrite n v) s fun t =>
    fget PMC.page (PMC.VAL.ix n) t = v.toNat % 2 ^ (if fget PMC.page (PMC.CNT_CFG_WIDTH.ix n) s = 0 then 16 else 32) ∧
    sameBut [.regs] s t ∧ otherFields PMC.page [PMC.VAL.ix n] s t) ∧
  (∀ v : BitVec 32, Completes (.tagSeed v) s fun t => t = { s with cl := { s.cl with lfsr := if v = 0 then 1 else v.toNat } }) ∧
  (∀ r, s.cl.recs.find (fget PMC.page PMC.REC_HEAD s) = some r → Completes .recPop s fun t =>
    t.cl = { s.cl with recs := s.cl.recs.erase (fget PMC.page PMC.REC_HEAD s) } ∧
    fget PMC.page PMC.REC_HEAD t = (fget PMC.page PMC.REC_HEAD s + 1) % 64 ∧
    fget PMC.page PMC.REC_COUNT t = (fget PMC.page PMC.REC_COUNT s - 1) % 128 ∧
    fget PMC.page PMC.REC_RESERVED t = (fget PMC.page PMC.REC_RESERVED s - 1) % 128 ∧
    sameBut [.regs, .cl] s t ∧ otherFields PMC.page [PMC.REC_HEAD, PMC.REC_COUNT, PMC.REC_RESERVED] s t) ∧
  (∀ (n : Fin 32) (r : Fin 28), (s.claim (claimSem n)).holder = none → Completes (.semAcquire n [r]) s fun t =>
    (t.claim (claimSem n)).holder = some r.val ∧ t.out = s.out ++ [.readData r r] ∧ bit (fget SEM.page SEM.HELD t) n = true ∧
    sameBut [.regs, .out, .claims] s t ∧ otherFields SEM.page [SEM.HELD] s t) ∧
  (∀ (n : Fin 32) (r : Fin 28) h, (s.claim (claimSem n)).holder = some h → Completes (.semAcquire n [r]) s fun t =>
    t.claims = s.claims ∧ t.out = s.out ++ [.readData r (h + if h = r.val then 0 else 2 ^ 31)] ∧
    sameBut [.regs, .out] s t ∧ otherFields SEM.page [SEM.HELD] s t) ∧
  (∀ (n : Fin 32) (r : Fin 28), (s.claim (claimSem n)).holder = some r.val → Completes (.semRel n r) s fun t =>
    (t.claim (claimSem n)).holder = none ∧ (∀ m, m ≠ claimSem n → t.claim m = s.claim m) ∧ bit (fget SEM.page SEM.HELD t) n = false ∧
    sameBut [.regs, .claims] s t ∧ otherFields SEM.page [SEM.HELD] s t) ∧
  (∀ (n : Fin 32) (r : Fin 28), (s.claim (claimSem n)).holder ≠ some r.val → Completes (.semRel n r) s fun t =>
    hasSticky SEM.page SEM.kNOT_OWNER t ∧ sameBut [.regs] s t ∧ otherFields SEM.page [hdrSticky] s t) ∧
  (∀ (n : Fin 32) (r : Fin 28) h, (s.claim (claimSem n)).holder = some h → Completes (.forceRel n r) s fun t =>
    (t.claim (claimSem n)).holder = none ∧ t.evq = s.evq ++ [⟨0x0025, srcAon, n, h % 2 ^ 32, r, false⟩] ∧
    bit (fget SEM.page SEM.HELD t) n = false ∧ sameBut [.regs, .evq, .claims] s t ∧ otherFields SEM.page [SEM.HELD] s t)

/-- R581 to R586: the event recorder. An event that arrives is buffered as a record; the buffer is committed to the log; the log is read and
cleared. -/
def Obligations.EventRecorder : Prop := ∀ s : State,
  (∀ (src : BitVec 8) e, s.evq.find? (fun x => x.src = src.toNat) = some e → fon EVR.page EVR.STATUS_FULL s = false → s.obs.episode = none →
    mergesInto e s = none → s.obs.buf.length < 16 → Completes (.eventArrival src) s fun t =>
      t.evq = s.evq.erase e ∧ (∃ r, t.obs.buf = s.obs.buf ++ [r] ∧ r.code = e.code ∧ r.src = e.src ∧ r.p0 = e.p0 ∧ r.p1 = e.p1 ∧ r.p2 = e.p2 ∧
        r.seq = s.obs.seqs.get e.src 0 ∧ r.at' = s.time) ∧
      fget EVR.page EVR.COUNT t = (s.obs.count + s.obs.buf.length + 1) % 2 ^ 15 ∧ fget EVR.page EVR.BUF_USED t = s.obs.buf.length + 1 ∧
      sameBut [.regs, .evq, .obs] s t ∧ otherFields EVR.page [EVR.COUNT, EVR.BUF_USED] s t) ∧
  (∀ (src : BitVec 8) e, s.evq.find? (fun x => x.src = src.toNat) = some e → fon EVR.page EVR.STATUS_FULL s = true →
    fget EVR.page EVR.FULL_DROP_CNT s < 2 ^ 32 - 1 → Completes (.eventArrival src) s fun t =>
      t.evq = s.evq.erase e ∧ t.obs.buf = s.obs.buf ∧ fget EVR.page EVR.FULL_DROP_CNT t = fget EVR.page EVR.FULL_DROP_CNT s + 1 ∧
      sameBut [.regs, .evq, .obs] s t ∧ otherFields EVR.page [EVR.FULL_DROP_CNT] s t) ∧
  (∀ src, s.obs.episode = some src → s.obs.buf.length < 16 → fon EVR.page EVR.STATUS_FULL s = false → Completes .dropEpisodeEnd s fun t =>
    t.obs.episode = none ∧ (∃ r, t.obs.buf = s.obs.buf ++ [r] ∧ r.code = 0x0024 ∧ r.src = srcAon ∧ r.p0 = fget EVR.page EVR.DROP_CNT s ∧ r.p1 = src) ∧
    sameBut [.regs, .obs] s t ∧ otherFields EVR.page [EVR.COUNT, EVR.BUF_USED] s t) ∧
  (∀ r rest, s.obs.buf = r :: rest → supplyWarned s = false → s.obs.episode = none → s.obs.count + 1 ≠ 16383 →
    Completes (.eventCommit true) s fun t => t.obs.buf = rest ∧ t.obs.count = s.obs.count + 1 ∧
      t.dev = (flashStore (areaBase (fget EVR.page EVR.STATUS_AREA s) + 32 * s.obs.count) (recordBytes r) s).dev ∧
      fget EVR.page EVR.BUF_USED t = rest.length % 2 ^ 5 ∧ sameBut [.regs, .out, .msixPend, .dev, .obs] s t ∧
      otherFields EVR.page [EVR.COUNT, EVR.BUF_USED] s t) ∧
  (s.obs.buf ≠ [] → supplyWarned s = false → Completes (.eventCommit false) s fun t => fget EVR.page hdrFault t = 0x01 ∧ sameBut [.regs] s t ∧
    otherFields EVR.page [hdrFault] s t) ∧
  (∀ req : Fin 28, fget EVR.page EVR.POST_CODE s / 2 ^ 12 ≠ 6 → Completes (.postCtrl req) s fun t =>
    t.evq = s.evq ++ [⟨fget EVR.page EVR.POST_CODE s, req, fget EVR.page (EVR.POST_P.ix 0) s, fget EVR.page (EVR.POST_P.ix 1) s,
      fget EVR.page (EVR.POST_P.ix 2) s, true⟩] ∧ sameBut [.evq] s t) ∧
  (∀ req : Fin 28, fget EVR.page EVR.POST_CODE s / 2 ^ 12 = 6 → Completes (.postCtrl req) s fun t =>
    hasSticky EVR.page EVR.kPOST_REJ t ∧ sameBut [.regs] s t ∧ otherFields EVR.page [hdrSticky] s t) ∧
  (∀ i : BitVec 14, Completes (.rdIdxWrite i) s fun t => fget EVR.page EVR.RD_IDX t = i.toNat ∧ fget EVR.page EVR.RD_STATUS_VALID t = 1 ∧
    fget EVR.page EVR.RD_STATUS_RANGE t = b2n (decide (logCount s ≤ i.toNat)) ∧
    (i.toNat < s.obs.count → ∀ k < 8, fget EVR.page (EVR.RD_DATA.ix k) t =
      ofLe (flashBytes (areaBase (fget EVR.page EVR.STATUS_AREA s) + 32 * i.toNat + 4 * k) 4 s) % 2 ^ 32) ∧
    sameBut [.regs] s t ∧ otherFields EVR.page ([EVR.RD_IDX, EVR.RD_STATUS_VALID, EVR.RD_STATUS_RANGE, EVR.RD_STATUS_CRC_BAD] ++
      (List.range 8).map EVR.RD_DATA.ix) s t) ∧
  (∀ flushed req digest, s.vault.clear = some (req, digest) → supplyWarned s = false → Completes (.logClearRun flushed) s fun t =>
    t.vault = { s.vault with clear := none } ∧ t.obs.buf = [] ∧ t.obs.count = 1 ∧ t.obs.episode = none ∧
    fget EVR.page EVR.COUNT t = 1 ∧ fget EVR.page EVR.STATUS_FULL t = 0 ∧ fget EVR.page EVR.STATUS_ERASING t = 1 ∧
    fget EVR.page EVR.STATUS_AREA t = (1 - fget EVR.page EVR.STATUS_AREA s) ∧ hasInt EVR.page EVR.iCLEARED t ∧
    sameBut [.regs, .out, .msixPend, .vault, .dev, .obs] s t) ∧
  (fon EVR.page EVR.STATUS_ERASING s = true → Completes (.logAreaEraseDone true) s fun t => fget EVR.page EVR.STATUS_ERASING t = 0 ∧
    t.dev = (flashErase (areaBase (1 - fget EVR.page EVR.STATUS_AREA s)) (areaBase (1 - fget EVR.page EVR.STATUS_AREA s + 1)) s).dev ∧
    sameBut [.regs, .dev] s t ∧ otherFields EVR.page [EVR.STATUS_ERASING] s t) ∧
  (fon EVR.page EVR.STATUS_ERASING s = true → Completes (.logAreaEraseDone false) s fun t => fget EVR.page hdrFault t = 0x02 ∧
    sameBut [.regs] s t ∧ otherFields EVR.page [hdrFault] s t)

/-- R542 to R545, R552: warnings and reset levels of the 12 V bus and the core supply, over-voltage, and the clock check. -/
def Obligations.SupplyAndClocks : Prop := ∀ s : State,
  (∀ mv : BitVec 16, fon PWR.page PWR.STATUS_VMOT_WARN s = false → Completes (.vmotWarning mv) s fun t =>
    fget PWR.page PWR.STATUS_VMOT_WARN t = 1 ∧ fget PWR.page PWR.VMOT t = mv.toNat ∧ hasInt PWR.page PWR.iVMOT_WARN t ∧
    t.evq.getLast? = some ⟨0x1010, srcAon, 0, mv.toNat, modeNow s % 2 ^ 32, false⟩ ∧ sameBut [.regs, .evq, .out, .msixPend, .recs] s t) ∧
  (∀ mv : BitVec 16, fon PWR.page PWR.STATUS_VMOT_WARN s = true → Completes (.vmotWarning mv) s fun t =>
    fget PWR.page PWR.VMOT t = mv.toNat ∧ sameBut [.regs] s t ∧ otherFields PWR.page [PWR.VMOT, PWR.VMOT_MIN] s t) ∧
  (∀ mv : BitVec 12, fon PWR.page PWR.STATUS_CORE_WARN s = false → Completes (.coreWarning mv) s fun t =>
    fget PWR.page PWR.STATUS_CORE_WARN t = 1 ∧ fget PWR.page PWR.VCORE t = mv.toNat ∧ hasInt PWR.page PWR.iCORE_WARN t ∧
    t.evq.getLast? = some ⟨0x1018, srcAon, 0, mv.toNat, 0, false⟩ ∧ sameBut [.regs, .evq, .out, .msixPend, .recs] s t) ∧
  (∀ (low : BitVec 16) us, fon PWR.page PWR.STATUS_CORE_WARN s = true → Completes (.warningEnd true low us) s fun t =>
    fget PWR.page PWR.STATUS_CORE_WARN t = 0 ∧ hasInt PWR.page PWR.iCORE_RECOV t ∧
    t.evq = s.evq ++ [⟨0x1019, srcAon, 0, low.toNat, us % 2 ^ 32, false⟩] ∧ sameBut [.regs, .evq, .out, .msixPend] s t ∧
    otherFields PWR.page [PWR.STATUS_CORE_WARN, PWR.VCORE_MIN, hdrIntStatus] s t) ∧
  (∀ (low : BitVec 16) us, fon PWR.page PWR.STATUS_VMOT_WARN s = true → Completes (.warningEnd false low us) s fun t =>
    fget PWR.page PWR.STATUS_VMOT_WARN t = 0 ∧ hasInt PWR.page PWR.iVMOT_RECOV t ∧
    (∃ later, t.evq = s.evq ++ ⟨0x1011, srcAon, 0, low.toNat, us % 2 ^ 32, false⟩ :: later) ∧
    sameBut [.regs, .evq, .out, .msixPend, .sleds] s t) ∧
  (∀ mv : BitVec 16, fon PWR.page PWR.STATUS_VMOT_RST s = false → Completes (.vmotResetLevel mv) s fun t =>
    fget PWR.page PWR.STATUS_VMOT_RST t = 1 ∧ fget PWR.page hdrFault t = 0x03 ∧ hasInt PWR.page PWR.iVMOT_RST t ∧
    t.evq.getLast? = some ⟨0x1012, srcAon, 0, mv.toNat, b2n (writing 0 s || writing 1 s), false⟩ ∧ t.spin.gates = false ∧
    sameBut [.regs, .evq, .out, .msixPend, .links, .recs, .loops, .heads, .spin, .sleds, .pwr] s t) ∧
  (∀ (low : BitVec 16) us, fon PWR.page PWR.STATUS_VMOT_RST s = true → Completes (.vmotResetRecovery low us) s fun t =>
    fget PWR.page PWR.STATUS_VMOT_RST t = 0 ∧ fget PWR.page PWR.STATUS_VMOT_WARN t = 0 ∧ hasInt PWR.page PWR.iVMOT_RECOV t ∧
    (∃ later, t.evq = s.evq ++ ⟨0x1011, srcAon, 0, low.toNat, us % 2 ^ 32, false⟩ :: later) ∧
    sameBut [.regs, .evq, .out, .msixPend, .spin, .sleds, .pwr] s t) ∧
  (∀ mv : BitVec 16, fon PWR.page PWR.STATUS_VMOT_OVW s = false → Completes (.overVoltageWarning mv) s fun t =>
    fget PWR.page PWR.STATUS_VMOT_OVW t = 1 ∧ fget PWR.page PWR.VMOT t = mv.toNat ∧ hasInt PWR.page PWR.iVMOT_OV t ∧
    t.evq = s.evq ++ [⟨0x1013, srcAon, 0, mv.toNat, 0, false⟩] ∧ sameBut [.regs, .evq, .out, .msixPend] s t ∧
    otherFields PWR.page [PWR.STATUS_VMOT_OVW, PWR.VMOT, PWR.VMOT_MIN, PWR.OV_CNT, hdrIntStatus, hdrSticky] s t) ∧
  (∀ mv : BitVec 16, fon PWR.page PWR.STATUS_VMOT_OVT s = false → Completes (.overVoltageTrip mv) s fun t =>
    fget PWR.page PWR.STATUS_VMOT_OVT t = 1 ∧ fget PWR.page hdrFault t = 0x04 ∧ hasInt PWR.page PWR.iVMOT_OV t ∧
    t.evq.getLast? = some ⟨0x1014, srcAon, 0, mv.toNat, 0, false⟩ ∧ t.spin.gates = false ∧
    sameBut [.regs, .evq, .out, .msixPend, .links, .recs, .loops, .heads, .spin, .sleds, .pwr] s t) ∧
  (∀ (low : BitVec 16) us, (fon PWR.page PWR.STATUS_VMOT_OVT s = true ∨ fon PWR.page PWR.STATUS_VMOT_OVW s = true) →
    Completes (.overVoltageRecovery low us) s fun t => fget PWR.page PWR.STATUS_VMOT_OVW t = 0 ∧ fget PWR.page PWR.STATUS_VMOT_OVT t = 0 ∧
      hasInt PWR.page PWR.iVMOT_RECOV t ∧ (∃ later, t.evq = s.evq ++ ⟨0x1011, srcAon, 0, low.toNat, us % 2 ^ 32, false⟩ :: later) ∧
      sameBut [.regs, .evq, .out, .msixPend, .spin, .sleds, .pwr] s t) ∧
  (∀ (off : BitVec 8) (khz : BitVec 21) lf (ppm : BitVec 16), Completes (.clockCheck off khz lf ppm) s fun t =>
    fget CLK.page CLK.MEAS_KHZ t = khz.toNat ∧ fget CLK.page CLK.LF_PPM t = ppm.toNat ∧ fget CLK.page CLK.STATUS_LF_OK t = b2n lf ∧
    (lf = false → hasInt CLK.page CLK.iLF_LOST t) ∧
    (∀ k < 8, off.getLsbD k = true → bit (fget CLK.page CLK.STATUS_STOPPED s) k = false →
      hasInt CLK.page CLK.iFREQ_ERR t ∧ fget CLK.page hdrFault t = 0x03 ∧ (⟨0x1031, srcAon, 0, k, 2, false⟩ : Ev) ∈ t.evq) ∧
    sameBut [.regs, .evq, .out, .msixPend, .links, .recs] s t)

/-- R446, R530 to R533, R538, R539: mode requests, transitions, the entry to CALM and the exit from it, and the thermal ceiling. -/
def Obligations.ModesAndCeiling : Prop := ∀ s : State,
  (∀ (mode : BitVec 3) force, 4 < mode.toNat → Completes (.pwrModeReq mode force) s fun t => hasSticky PWR.page PWR.kMODE_REJ t ∧
    sameBut [.regs] s t ∧ otherFields PWR.page [PWR.MODE_REQ_MODE, PWR.MODE_REQ_FORCE, hdrSticky] s t) ∧
  (∀ (mode : BitVec 3) force, mode.toNat ≤ 2 → Completes (.pwrModeReq mode force) s fun t => fget PWR.page PWR.STATUS_REQ t = mode.toNat ∧
    t.pwr.asked = true ∧ t.pwr.rest = none ∧ t.cl.deferred = none) ∧
  (∀ mode : BitVec 3, 3 ≤ mode.toNat → mode.toNat ≤ 4 → modeNow s ≠ mode.toNat → s.cl.deferred = none →
    Completes (.pwrModeReq mode false) s fun t =>
      if outstanding s = [] then t.pwr.rest = some mode.toNat ∧ fget PWR.page PWR.STATUS_DEFERRED t = 0
      else t.cl.deferred = some (mode.toNat, none) ∧ fget PWR.page PWR.STATUS_DEFERRED t = 1 ∧ t.pwr = s.pwr) ∧
  (∀ k tag, s.cl.deferred = some (k, tag) → outstanding s = [] → Completes .modeEntryDeferred s fun t => t.cl.deferred = none ∧
    t.pwr = { s.pwr with rest := some k } ∧ fget PWR.page PWR.STATUS_DEFERRED t = 0 ∧ sameBut [.regs, .evq, .cl, .pwr] s t) ∧
  (∀ k tag, s.cl.deferred = some (k, tag) → Completes .modeDeferTimeout s fun t => ∃ r, t = { s with evq := s.evq ++
    [⟨0x5008, srcHost, r, k % 2 ^ 32, (outstanding s).length % 2 ^ 32, false⟩] }) ∧
  (activeMode s ≤ 2 → modeNow s ≤ 2 → discMounted s = true → transDst s ≠ some 3 → (transDst s).getD (modeNow s) ≠ activeMode s →
    Completes .activeModeChange s fun t => t.pwr = { s.pwr with trans := some ⟨modeNow s, activeMode s, s.time⟩ } ∧
      fget PWR.page PWR.STATUS_TRANSITION t = 1 ∧ fget SPN.page SPN.STATUS_SPEED_OK t = 0 ∧
      fget SPN.page SPN.TARGET_RPM t = readRpm (activeMode s) ∧
      fget DEC.page DEC.LDPC_CFG_MAX_ITER t = (if activeMode s = 2 then 40 else 20) ∧
      sameBut [.regs, .evq, .out, .msixPend, .recs, .spin, .pwr] s t) ∧
  (∀ tr, s.pwr.trans = some tr → tr.src ≤ 2 → tr.dst ≤ 2 → fon SPN.page SPN.STATUS_SPEED_OK s = true → Completes .modeReached s fun t =>
    fget PWR.page PWR.STATUS_MODE t = tr.dst ∧ fget PWR.page PWR.STATUS_TRANSITION t = 0 ∧ t.pwr = { s.pwr with trans := none } ∧
    fget PWR.page PWR.TRANS_MS t = min ((s.time - tr.start) / 25000) 65535 ∧ hasInt PWR.page PWR.iMODE_DONE t ∧
    sameBut [.free, .regs, .evq, .out, .msixPend, .cl, .port, .pwr] s t) ∧
  (∀ fails, modeNow s ≤ 2 → (s.pwr.rest.isSome = true ∨ ceilingNow s = 3) → writing 0 s = false → writing 1 s = false → spinAtRest s = true →
    Completes (.calmEntry fails) s fun t => fget PWR.page PWR.STATUS_MODE t = 3 ∧ fget PWR.page PWR.STATUS_TRANSITION t = 0 ∧
      t.pwr.trans = none ∧ hasInt PWR.page PWR.iMODE_DONE t ∧ sameBut [.free, .regs, .evq, .out, .msixPend, .engs, .loops, .spin, .cl, .port, .pwr] s t) ∧
  (∀ fails, calmOver s = true → s.pwr.trans = none → Completes (.calmExit fails) s fun t =>
    t.pwr.trans = some ⟨3, activeMode s, s.time⟩ ∧ t.pwr.rest = none ∧ fget PWR.page PWR.STATUS_TRANSITION t = 1 ∧
    fget SPN.page SPN.TARGET_RPM t = readRpm (activeMode s) ∧ sameBut [.free, .regs, .evq, .out, .msixPend, .lanes, .links, .spin, .cl, .port, .vault, .pwr] s t) ∧
  (∀ raw : Vector (BitVec 12) 8, Completes (.thermalSample raw) s fun t =>
    (∀ k : Fin 8, fget PWR.page (PWR.TEMP_NOW.ix k) t = (raw.get k).toNat) ∧ fget PWR.page PWR.HOT_SENSOR t = (hottest t).1 ∧
    sameBut [.free, .regs, .evq, .out, .msixPend, .links, .recs, .engs, .loops, .spin, .cl, .port, .pwr] s t) ∧
  (ceilingNow s ≠ 0 → (∀ k < 8, (s.pwr.sensors.get k {}).reading ≤ returnLevel s) → Completes .thermalReturn s fun t =>
    fget PWR.page PWR.STATUS_CEILING t = (if ceilingNow s = 3 then 1 else 0) ∧ hasInt PWR.page PWR.iTHERM_RETURN t ∧
    (ceilingNow s = 3 → fget PWR.page PWR.STATUS_THERM_TRIP t = 0) ∧
    (∃ later, t.evq = s.evq ++ ⟨0x1002, srcAon, (hottest s).1, ofSigned 12 (hottest s).2 % 2 ^ 32, if ceilingNow s = 3 then 1 else 0, false⟩ :: later) ∧
    sameBut [.regs, .evq, .out, .msixPend, .recs, .spin, .pwr] s t)

/-- R534 to R537, R549 to R551: LULL entered and left, accesses while it lasts, and the PMBus master. -/
def Obligations.LullAndPmbus : Prop := ∀ s : State,
  (∀ fails, modeNow s = 3 → s.pwr.rest = some 4 → s.pwr.trans = none → Completes (.lullEntry fails) s fun t =>
    t.pwr = { s.pwr with trans := some ⟨3, 4, s.time⟩ } ∧ fget PWR.page PWR.STATUS_TRANSITION t = 1 ∧ fget XTS.page XTS.STATUS_KEY_LOADED t = 0) ∧
  (∀ fails tr, modeNow s = 3 → s.pwr.trans = some tr → tr.dst = 4 → s.pwr.rest = some 4 → Completes (.lullEntry fails) s fun t =>
    fget PWR.page PWR.STATUS_MODE t = 4 ∧ fget CLK.page CLK.STATUS_STOPPED t = 0xFF ∧ t.pwr.trans = none ∧ hasInt PWR.page PWR.iMODE_DONE t ∧
    t.chans = [] ∧ t.lanes = [] ∧ t.links = []) ∧
  (∀ fails tr, modeNow s = 3 → s.pwr.trans = some tr → tr.dst = 4 → s.pwr.rest ≠ some 4 → Completes (.lullEntry fails) s fun t =>
    t.pwr = { s.pwr with trans := none } ∧ fget PWR.page PWR.STATUS_TRANSITION t = 0 ∧ sameBut [.regs, .pwr] s t ∧
    otherFields PWR.page [PWR.STATUS_TRANSITION] s t) ∧
  (∀ (src : BitVec 4) k, modeNow s = 4 → s.pwr.wake = 0 → s.pwr.held = [] → k < 4 → bit src.toNat k = true → bit (fget PWR.page PWR.WAKE_EN s) k = true →
    Completes (.lullWake src true) s fun t => fget PWR.page PWR.STATUS_MODE t = 3 ∧ t.pwr.wake = 0 ∧ hasInt PWR.page PWR.iWAKE t ∧
      ∃ w, (⟨0x1040, srcAon, 0, w, 0, false⟩ : Ev) ∈ t.evq ∧ ∀ j < 4, bit w j = (bit src.toNat j && bit (fget PWR.page PWR.WAKE_EN s) j)) ∧
  (∀ addr : BitVec 24, lullGated addr.toNat s = true → Completes (.lullWindowAccess 0 addr none) s fun t =>
    t.out = s.out ++ [.readData 0 0xFFFFFFFF] ∧ sameBut [.regs, .out, .pwr] s t ∧ otherFields PWR.page [PWR.WAKE_RD_CNT, hdrSticky] s t) ∧
  (∀ (req : Fin 28) (addr : BitVec 24) v, lullGated addr.toNat s = true → req.val ≤ 3 → Completes (.lullWindowAccess req addr (some v)) s fun t =>
    t.pwr.held = s.pwr.held ++ [.access req addr.toNat 4 (some v.toNat)] ∧ sameBut [.pwr] s t) ∧
  (∀ (req : Fin 28) (addr : BitVec 24) w, lullGated addr.toNat s = true → 3 < req.val → Completes (.lullWindowAccess req addr w) s fun t => t = s) ∧
  (∀ before (x : PmbRead), fon PWR.page PWR.PMB_CFG_EN s = true → fget PWR.page PWR.PMB_CFG_POLL_MS s ≠ 0 →
    fon PWR.page (PWR.REG_CFG_VALID.ix x.entry) s = true → fon PWR.page (PWR.REG_CFG_POLL.ix x.entry) s = true → x.ok = true →
    Completes (.pmbusPoll (before ++ [x])) s fun t => fget PWR.page (PWR.VOUT.ix x.entry) t = x.vout.toNat ∧
      fget PWR.page (PWR.IOUT.ix x.entry) t = x.iout.toNat ∧ fget PWR.page (PWR.STATUS_WORD.ix x.entry) t = x.status.toNat ∧
      (2 ≤ x.status.toNat → hasInt PWR.page PWR.iPMB_FAULT t) ∧ sameBut [.regs, .evq, .out, .msixPend] s t) ∧
  (∀ before (x : Fin 8 × BitVec 16), fon PWR.page PWR.PMB_CFG_EN s = true → fon PWR.page (PWR.REG_CFG_VALID.ix x.1) s = true →
    Completes (.pmbAlert (before ++ [x])) s fun t => fget PWR.page (PWR.STATUS_WORD.ix x.1) t = x.2.toNat ∧
      (2 ≤ x.2.toNat → hasInt PWR.page PWR.iPMB_FAULT t) ∧ sameBut [.regs, .evq, .out, .msixPend] s t) ∧
  (fon PWR.page PWR.PMB_STATUS_BUSY s = false → Completes (.pmbCmd none) s fun t => fget PWR.page PWR.PMB_STATUS_BUSY t = 1 ∧
    t.out = s.out ++ (if fon PWR.page PWR.PMB_CMD_READ s then [] else [.pmbus (fget PWR.page PWR.PMB_CMD_ADDR s) (fget PWR.page PWR.PMB_CMD_CODE s)
      (fget PWR.page PWR.PMB_DATA s % 256 ^ fget PWR.page PWR.PMB_CMD_LEN s)]) ∧ sameBut [.regs, .out] s t ∧
    otherFields PWR.page [PWR.PMB_STATUS_BUSY] s t) ∧
  (fon PWR.page PWR.PMB_STATUS_BUSY s = true → Completes (.pmbCmd none) s fun t => hasSticky PWR.page PWR.kPMB_REJ t ∧ sameBut [.regs] s t ∧
    otherFields PWR.page [hdrSticky] s t) ∧
  (∀ e : PmbEnd, fon PWR.page PWR.PMB_STATUS_BUSY s = true → Completes (.pmbCmd (some e)) s fun t => fget PWR.page PWR.PMB_STATUS_BUSY t = 0 ∧
    fget PWR.page PWR.PMB_STATUS_NACK t = b2n e.nack ∧ fget PWR.page PWR.PMB_STATUS_PEC_ERR t = b2n e.pecErr ∧
    fget PWR.page PWR.PMB_STATUS_TIMEOUT t = b2n e.timeout ∧ hasInt PWR.page PWR.iPMB_DONE t ∧
    (fon PWR.page PWR.PMB_CMD_READ s = true → (e.nack || e.pecErr || e.timeout) = false →
      fget PWR.page PWR.PMB_DATA t = e.data.toNat % 256 ^ fget PWR.page PWR.PMB_CMD_LEN s % 2 ^ 16) ∧
    sameBut [.regs, .evq, .out, .msixPend] s t ∧ otherFields PWR.page [PWR.PMB_STATUS_BUSY, PWR.PMB_STATUS_NACK, PWR.PMB_STATUS_PEC_ERR,
      PWR.PMB_STATUS_TIMEOUT, PWR.PMB_DATA, hdrIntStatus, hdrSticky, hdrFault] s t)

/-- R477 to R480: the mailboxes. -/
def Obligations.Mailboxes : Prop := ∀ (s : State) (m : Fin 8),
  (∀ (req : Fin 28) (v : BitVec 32), bit v.toNat 31 = true → mbxRefuses m req s = 0 → Completes (.gust m req v) s fun t =>
    fget MBX.page (MBX.MSTAT_FULL.ix m) t = 1 ∧
    fget MBX.page (MBX.MSTAT_LEN.ix m) t = (if v.toNat % 32 = 0 ∨ 16 < v.toNat % 32 then 16 else v.toNat % 32) ∧
    fget MBX.page (MBX.MSTAT_SEQ.ix m) t = (fget MBX.page (MBX.MSTAT_SEQ.ix m) s + 1) % 2 ^ 8 ∧ hasInt MBX.page m t ∧
    sameBut [.regs, .evq, .out, .msixPend, .port, .pwr] s t) ∧
  (∀ (req : Fin 28) (v : BitVec 32), mbxRefuses m req s ≠ 0 → Completes (.gust m req v) s fun t =>
    hasSticky MBX.page (if mbxFull m s then MBX.kWR_FULL else MBX.kNOT_OWNER) t ∧ fget MBX.page MBX.REJ_REQ t = req ∧ fget MBX.page MBX.REJ_MBX t = m ∧
    sameBut [.regs, .evq, .port] s t ∧ otherFields MBX.page [MBX.REJ_REQ, MBX.REJ_MBX, MBX.REJ_CNT.ix m, hdrSticky] s t) ∧
  (∀ w, mbxFull m s = true → Completes (.mailboxAck m w) s fun t => fget MBX.page (MBX.MSTAT_FULL.ix m) t = 0 ∧
    (t.claim (claimMbx m)).holder = none ∧ t.port.rungAt.find m = none ∧ hasInt MBX.page (8 + m) t ∧ sameBut [.regs, .out, .msixPend, .claims, .port] s t) ∧
  (∀ w, mbxFull m s = false → Completes (.mailboxAck m w) s fun t => hasSticky MBX.page MBX.kLATE_ACK t ∧ sameBut [.regs] s t ∧
    otherFields MBX.page [hdrSticky] s t) ∧
  (mbxFull m s = true → Completes (.withdraw m) s fun t => fget MBX.page (MBX.MSTAT_FULL.ix m) t = 0 ∧ (t.claim (claimMbx m)).holder = none ∧
    t.port.rungAt.find m = none ∧ m.val ∉ t.port.ringLater ∧ sameBut [.regs, .claims, .port] s t ∧
    otherFields MBX.page [MBX.MSTAT_FULL.ix m, MBX.STATUS_FULL] s t) ∧
  (∀ r : Fin 28, (s.claim (claimMbx m)).holder = none → Completes (.mbxClaim m [r]) s fun t => (t.claim (claimMbx m)).holder = some r.val ∧
    (t.claim (claimMbx m)).taken = s.time ∧ t.out = s.out ++ [.readData r r] ∧ sameBut [.out, .claims] s t) ∧
  (∀ (r : Fin 28) h, (s.claim (claimMbx m)).holder = some h → Completes (.mbxClaim m [r]) s fun t =>
    t.out = s.out ++ [.readData r (h + if h = r.val then 0 else 2 ^ 31)] ∧ sameBut [.out] s t) ∧
  (∀ (word : Fin 16) (req : Fin 28) (v : BitVec 32), mbxRefuses m req s = 0 → Completes (.mailboxDataWrite m word req v) s fun t =>
    fget MBX.page (MBX.DATA.ix2 m word) t = v.toNat ∧ sameBut [.regs] s t ∧ otherFields MBX.page [MBX.DATA.ix2 m word] s t) ∧
  (∀ (word : Fin 16) (req : Fin 28) (v : BitVec 32), mbxRefuses m req s ≠ 0 → Completes (.mailboxDataWrite m word req v) s fun t =>
    hasSticky MBX.page (if mbxFull m s then MBX.kWR_FULL else MBX.kNOT_OWNER) t ∧ sameBut [.regs, .evq, .port] s t ∧
    otherFields MBX.page [MBX.REJ_REQ, MBX.REJ_MBX, MBX.REJ_CNT.ix m, hdrSticky] s t) ∧
  (∀ a, mbxFull m s = true → fget MBX.page MBX.CFG_ACK_TO_MS s ≠ 0 → s.port.rungAt.find m = some a → Completes (.ackTimeout m) s fun t =>
    t.port = { s.port with rungAt := s.port.rungAt.erase m } ∧ hasInt MBX.page (16 + m) t ∧
    t.evq = s.evq ++ [⟨0x5010, srcHost, mbxParty m s % 2 ^ 32, m, fget MBX.page (MBX.MSTAT_SEQ.ix m) s % 2 ^ 32, false⟩] ∧
    sameBut [.regs, .evq, .out, .msixPend, .port] s t ∧ otherFields MBX.page [MBX.TIMEOUT_CNT.ix m, hdrIntStatus, hdrSticky] s t) ∧
  (modeNow s ≠ 4 → Completes (.hostLinkResume true) s fun t => sameBut [.regs] s t ∧ otherFields USB.page [USB.STATUS_LOW_POWER] s t ∧
    fget USB.page USB.STATUS_LOW_POWER t = b2n (fon USB.page USB.CTRL_LPM_EN s || fon USB.page USB.STATUS_LOW_POWER s)) ∧
  (modeNow s ≠ 4 → Completes (.hostLinkResume false) s fun t => fget USB.page USB.STATUS_LOW_POWER t = 0 ∧ (∀ k ∈ t.port.ringLater, k < 4) ∧
    sameBut [.regs, .out, .msixPend, .port] s t ∧ otherFields USB.page [USB.STATUS_LOW_POWER] s t)

/-- R473 to R476: the clamp and disc-presence inputs, an unload and a lost disc. -/
def Obligations.ClampAndPresence : Prop := ∀ s : State,
  (fon LIB.page LIB.CTRL_CLAMP_EN s = true → s.port.unload = none → Completes .clampReqAsserted s fun t =>
    fget LIB.page LIB.STATUS_CLAMP_REQ t = 1 ∧ hasInt LIB.page LIB.iCLAMP_REQ_ON t ∧ t.port.unload = some ⟨s.time, 1, s.cl.n, true, []⟩ ∧
    (∃ x, t.evq.getLast? = some ⟨0x5015, srcHost, 0xFF, 1, x, false⟩) ∧ sameBut [.regs, .evq, .out, .msixPend, .cl, .port, .pwr, .dev] s t) ∧
  (fon LIB.page LIB.CTRL_CLAMP_EN s = false → Completes .clampReqAsserted s fun t => fget LIB.page LIB.STATUS_CLAMP_REQ t = 1 ∧
    sameBut [.regs, .pwr] s t ∧ otherFields LIB.page [LIB.STATUS_CLAMP_REQ] s t) ∧
  (∀ u, s.port.unload = some u → u.step = 1 → (∃ kv ∈ s.cl.cmds, kv.2.n ≤ u.last) → Completes .unload s fun t => t = s) ∧
  (∀ u, s.port.unload = some u → u.step = 1 → (∀ kv ∈ s.cl.cmds, u.last < kv.2.n) → discMounted s = true →
    Completes .unload s fun t => t.disc = {} ∧ fget FMT.page FMT.STATUS_STATE t ≠ 2) ∧
  (∀ u, s.port.unload = some u → 2 ≤ u.step → safeState s = true → u.jobs = [] → s.dev.remount = false → Completes .unload s fun t =>
    t = { s with port := { s.port with unload := none } }) ∧
  (∀ u, s.port.unload = some u → 2 ≤ u.step → safeState s = false → Completes .unload s fun t => ∃ n, 2 ≤ n ∧ n ≤ 4 ∧
    t = { s with port := { s.port with unload := some { u with step := n } } }) ∧
  (∀ u, s.port.unload = some u → u.pend = true → 2 ≤ u.step → Completes .clampReqReleased s fun t =>
    fget LIB.page LIB.STATUS_CLAMP_REQ t = 0 ∧ t.dev = { s.dev with remount := true } ∧ t.port.unload = s.port.unload) ∧
  (∀ u, s.port.unload = some u → u.pend = true → u.step = 1 → Completes .clampReqReleased s fun t =>
    fget LIB.page LIB.STATUS_CLAMP_REQ t = 0 ∧ t.dev = s.dev ∧ t.port.unload = if u.jobs = [] then none else some { u with pend := false }) ∧
  (∀ u, s.port.unload = some u → Completes .unloadLate s fun t => hasInt LIB.page LIB.iUNLOAD_LATE t ∧
    t.evq = s.evq ++ [⟨0x5018, srcHost, 0xFF, fget LIB.page LIB.CLAMP_CFG_UNLOAD_TO_S s % 2 ^ 32, u.step % 2 ^ 32, false⟩] ∧
    sameBut [.regs, .evq, .out, .msixPend] s t ∧ otherFields LIB.page [hdrIntStatus] s t) ∧
  (fon LIB.page LIB.STATUS_DISC_PRES s = true → safeState s = false → Completes .discLost s fun t => fget LIB.page LIB.STATUS_DISC_PRES t = 0 ∧
    hasInt LIB.page LIB.iDISC_LOST t ∧ (discMounted s = true → t.disc = {} ∧ fget FMT.page FMT.STATUS_STATE t = 0) ∧
    t.dev = { s.dev with noAuto := false, remount := false } ∧
    t.evq.getLast? = some ⟨0x5016, srcHost, 0xFF, b2n (discMounted s), b2n (writing 0 s || writing 1 s), false⟩) ∧
  (Completes .discPresAsserted s fun t => fget LIB.page LIB.STATUS_DISC_PRES t = 1 ∧ hasInt LIB.page LIB.iDISC_IN t ∧
    sameBut [.regs, .evq, .out, .msixPend, .engs, .loops, .spin, .cl, .port, .pwr, .dev] s t) ∧
  (fon LIB.page LIB.STATUS_DISC_PRES s = true → safeState s = true → Completes .discPresDeasserted s fun t =>
    fget LIB.page LIB.STATUS_DISC_PRES t = 0 ∧ hasInt LIB.page LIB.iDISC_OUT t ∧ t.dev = { s.dev with noAuto := false, remount := false } ∧
    (fget FMT.page FMT.STATUS_STATE s = 3 → fget FMT.page FMT.STATUS_STATE t = 0) ∧ sameBut [.regs, .out, .msixPend, .pwr, .dev] s t)

/-- R440, R455 to R461, R482, R616: the USB port, the PCIe function it tunnels and the MSI-X table. -/
def Obligations.UsbAndPcie : Prop := ∀ s : State,
  (∀ attach alt, Completes (.usbAttachmentChange attach alt true) s fun t => fget USB.page hdrFault t = 0x01 ∧ sameBut [.regs] s t ∧
    otherFields USB.page [hdrFault, USB.LINK_ERR_CNT, hdrSticky] s t) ∧
  (∀ (attach : Fin 6) (alt : Fin 3), attach.val ≠ 0 → usbOn s = true → Completes (.usbAttachmentChange attach alt false) s fun t =>
    fget USB.page USB.STATUS_ATTACH t = attach ∧
    fget USB.page USB.STATUS_UAS_ACTIVE t = b2n (decide (attach.val < 4 ∧ alt.val = 2 ∧ attach.val ≠ 1) && fon USB.page USB.CTRL_UAS_EN s) ∧
    (attach.val < 4 → alt.val = 1 → fget USB.page USB.STATUS_BOT_ACTIVE t = 1) ∧
    (fget USB.page USB.STATUS_ATTACH s ≠ attach.val → hasInt USB.page USB.iATTACHED t ∧
      t.evq = s.evq ++ [⟨0x5012, srcHost, 0xFF, attach, 0, false⟩]) ∧ sameBut [.regs, .evq, .out, .msixPend] s t ∧
    otherFields USB.page [USB.STATUS_ATTACH, USB.STATUS_UAS_ACTIVE, USB.STATUS_BOT_ACTIVE, hdrIntStatus] s t) ∧
  (∀ alt, fget USB.page USB.STATUS_ATTACH s ≠ 0 → Completes (.usbAttachmentChange 0 alt false) s fun t =>
    fget USB.page USB.STATUS_ATTACH t = 0 ∧ fon USB.page USB.STATUS_PCIE_UP t = false ∧ fget USB.page USB.STATUS_UAS_ACTIVE t = 0 ∧
    fget USB.page USB.STATUS_BOT_ACTIVE t = 0 ∧ hasInt USB.page USB.iDETACHED t ∧
    t.evq.getLast? = some ⟨0x5012, srcHost, 0xFF, 0, 1, false⟩) ∧
  (∀ pcie usb3 alt, 4 ≤ fget USB.page USB.STATUS_ATTACH s → Completes (.pcieTunnelChange pcie usb3 alt false) s fun t =>
    fon USB.page USB.STATUS_PCIE_UP t = (pcie && fon USB.page USB.CTRL_PCIE_TUN_EN s) ∧ fget USB.page USB.STATUS_USB3_TUN_UP t = b2n usb3 ∧
    sameBut [.regs, .out, .msixPend] s t ∧ otherFields USB.page [USB.STATUS_PCIE_UP, USB.STATUS_USB3_TUN_UP, USB.STATUS_UAS_ACTIVE,
      USB.STATUS_BOT_ACTIVE, hdrIntStatus] s t) ∧
  (∀ pcie usb3 alt, 4 ≤ fget USB.page USB.STATUS_ATTACH s → Completes (.pcieTunnelChange pcie usb3 alt true) s fun t =>
    fget USB.page hdrFault t = 0x02 ∧ sameBut [.regs, .out, .msixPend] s t) ∧
  (Completes .usbBusReset s fun t => hasInt USB.page USB.iBUS_RESET t ∧ fget USB.page USB.STATUS_UAS_ACTIVE t = 0 ∧
    fget USB.page USB.STATUS_BOT_ACTIVE t = 0 ∧ (∀ x ∈ t.port.syncs, x.1 ≠ 0 ∧ x.1 ≠ 1) ∧
    sameBut [.regs, .evq, .out, .msixPend, .disc, .dec, .encoded, .mem, .lanesC, .cl, .port] s t) ∧
  (Completes .functionLevelReset s fun t => t.msix = [] ∧ t.msixMask = false ∧ t.port.pcie = [] ∧ fget USB.page USB.PCIE_STATE_BME t = 0 ∧
    fget USB.page USB.PCIE_STATE_MSIX_EN t = 0 ∧ hasInt USB.page USB.iFLR t ∧ (∀ n < 32, (t.claim (claimSem n)).holder ≠ some 0) ∧
    (∃ n, t.evq.getLast? = some ⟨0x5019, srcHost, 0, n, 0, false⟩) ∧
    sameBut [.regs, .evq, .out, .msix, .msixPend, .msixMask, .disc, .dec, .encoded, .mem, .lanesC, .claims, .cl, .port] s t) ∧
  (∀ bme, Completes (.pcieConfigurationWrite (.command bme)) s fun t => (bme = false → otherFields USB.page [USB.PCIE_STATE_BME] s t ∧
    fget USB.page USB.PCIE_STATE_BME t = 0 ∧ sameBut [.regs] s t) ∧ sameBut [.regs, .evq, .out, .msixPend, .mem, .cl, .port] s t) ∧
  (∀ mps mrrs : BitVec 3, Completes (.pcieConfigurationWrite (.devControl mps mrrs)) s fun t =>
    fget USB.page USB.PCIE_STATE_MPS t = mps.toNat ∧ fget USB.page USB.PCIE_STATE_MRRS t = mrrs.toNat ∧ sameBut [.regs] s t ∧
    otherFields USB.page [USB.PCIE_STATE_MPS, USB.PCIE_STATE_MRRS] s t) ∧
  (∀ en mask, Completes (.pcieConfigurationWrite (.msix en mask)) s fun t => t.msixMask = mask ∧ fget USB.page USB.PCIE_STATE_MSIX_EN t = b2n en ∧
    ((en = false ∨ mask = true) → t.out = s.out ∧ t.msixPend = s.msixPend) ∧ sameBut [.regs, .out, .msixPend, .msixMask] s t ∧
    otherFields USB.page [USB.PCIE_STATE_MSIX_EN] s t) ∧
  (∀ d3, Completes (.pcieConfigurationWrite (.power d3)) s fun t => fget USB.page USB.PCIE_STATE_D3HOT t = b2n d3 ∧ sameBut [.regs] s t ∧
    otherFields USB.page [USB.PCIE_STATE_D3HOT] s t) ∧
  (∀ a v, Completes (.pcieConfigurationWrite (.other a v)) s fun t => t.port.pcie.get a.toNat 0 = v.toNat ∧
    (∀ b, b ≠ a.toNat → t.port.pcie.get b 0 = s.port.pcie.get b 0) ∧ sameBut [.port] s t) ∧
  (∀ (entry : Fin 32) (word : Fin 4) (v : BitVec 32), Completes (.msiXTableWrite entry word v) s fun t =>
    t.msix.get entry {} = msixWord word v.toNat (s.msix.get entry {}) ∧ (∀ n, n ≠ entry.val → t.msix.get n {} = s.msix.get n {}) ∧
    sameBut [.out, .msix, .msixPend] s t) ∧
  (Completes .getMaxLun s fun t => t.out = s.out ++ [.usbControl [0]] ∧ sameBut [.out] s t) ∧
  (∀ c ∈ ([(.abortTaskSet, 0), (.logicalUnitReset, 0), (.bulkOnlyMassStorageReset, 1)] : List (Instr × Nat)), Completes c.1 s fun t =>
    (∀ x ∈ t.port.syncs, x.1 ≠ c.2) ∧ (∀ u, t.port.unload = some u → ∀ j ∈ u.jobs, j.port ≠ c.2) ∧
    (∀ x k j, s.cl.order = [x] → s.cl.cmds.find x = some k → k.job = some j → j.port = c.2 → isFinal x k s = false → k.phase ≠ 2 →
      t.evq.getLast? = some ⟨0x5003, srcHost, k.req % 2 ^ 32, x % 2 ^ 32, k.seq % 2 ^ 32, false⟩) ∧
    sameBut [.regs, .evq, .out, .msixPend, .disc, .dec, .encoded, .mem, .lanesC, .cl, .port] s t) ∧
  (∀ tag : BitVec 16, Completes (.abortTask tag) s fun t => (∀ x ∈ t.port.syncs, ¬(x.1 = 0 ∧ x.2.1 = tag.toNat)) ∧
    (∀ x k j, s.cl.order = [x] → s.cl.cmds.find x = some k → k.job = some j → j.port = 0 → j.id = tag.toNat → isFinal x k s = false → k.phase ≠ 2 →
      t.evq.getLast? = some ⟨0x5003, srcHost, k.req % 2 ^ 32, x % 2 ^ 32, k.seq % 2 ^ 32, false⟩) ∧
    sameBut [.regs, .evq, .out, .msixPend, .disc, .dec, .encoded, .mem, .lanesC, .cl, .port] s t)

/-- R462, R463, R482: the SATA link and the ATA commands that are not PACKET. -/
def Obligations.SataCommands : Prop := ∀ s : State,
  (∀ speed, Completes (.sataLinkChange speed true) s fun t => fget SATA.page hdrFault t = 0x01 ∧ sameBut [.regs] s t ∧
    otherFields SATA.page [hdrFault] s t) ∧
  (∀ speed : Fin 4, fon SATA.page SATA.CTRL_EN s = true → Completes (.sataLinkChange speed false) s fun t =>
    fget SATA.page SATA.STATUS_SPEED t = speed ∧ fget SATA.page SATA.STATUS_PHY_RDY t = b2n (decide (speed.val ≠ 0)) ∧
    (speed.val ≠ 0 → fon SATA.page SATA.STATUS_PHY_RDY s = false → hasInt SATA.page SATA.iLINK_UP t ∧
      t.evq = s.evq ++ [⟨0x5013, srcHost, 0xFF, speed, 0, false⟩]) ∧
    (speed.val = 0 → fon SATA.page SATA.STATUS_PHY_RDY s = true → hasInt SATA.page SATA.iLINK_DOWN t ∧
      t.evq = s.evq ++ [⟨0x5013, srcHost, 0xFF, 0, 1, false⟩]) ∧ sameBut [.regs, .evq, .out, .msixPend] s t ∧
    otherFields SATA.page [SATA.STATUS_SPEED, SATA.STATUS_PHY_RDY, SATA.STATUS_PM, hdrIntStatus] s t) ∧
  (fon SATA.page SATA.CTRL_EN s = true → Completes .comreset s fun t => hasInt SATA.page SATA.iCOMRESET t ∧ t.out.getLast? = some .signature ∧
    t.port.ataNotify = false ∧ t.port.ataPm = false ∧ t.port.ataXfer = 0 ∧ t.port.ataAsleep = false ∧ (∀ x ∈ t.port.syncs, x.1 ≠ 2) ∧
    fget SATA.page SATA.STATUS_CMD_ACTIVE t = 0 ∧ sameBut [.regs, .evq, .out, .msixPend, .disc, .dec, .encoded, .mem, .lanesC, .cl, .port, .pwr] s t) ∧
  (fon SATA.page SATA.CTRL_EN s = true → s.port.ataAsleep = false →
    (Completes .sataNop s fun t => t = { s with out := s.out ++ [.ata 0x04 0 []] }) ∧
    (∀ op, Completes (.unsupportedAtaCommand op) s fun t => t = { s with out := s.out ++ [.ata 0x04 0 []] }) ∧
    (Completes .executeDeviceDiagnostic s fun t => t = { s with out := s.out ++ [.ata 0x01 0 []] }) ∧
    (Completes .idleImmediate s fun t => t = { s with out := s.out ++ [.ata 0 0 []] }) ∧
    (Completes .checkPowerMode s fun t => t = { s with out := s.out ++ [.ata 0 (if modeNow s ≤ 2 then 0xFF else 0x00) []] }) ∧
    (Completes .identifyPacketDevice s fun t => t = { s with out := s.out ++ [.ata 0 0 identifyData] } ∧ identifyData.length = 512) ∧
    (Completes .deviceResetAta s fun t => hasInt SATA.page SATA.iDEVICE_RESET t ∧ t.out.getLast? = some .signature ∧ t.port.ataNotify = false ∧
      t.port.ataPm = false ∧ t.port.ataAsleep = false ∧ sameBut [.regs, .evq, .out, .msixPend, .disc, .dec, .encoded, .mem, .lanesC, .cl, .port] s t) ∧
    (s.cl.deferred = none → outstanding s = [] → modeNow s ≤ 2 → Completes .standbyImmediate s fun t => t.out.getLast? = some (.ata 0 0 []) ∧
      t.pwr = { s.pwr with rest := some 3 } ∧ t.port.ataAsleep = false) ∧
    (s.cl.deferred = none → outstanding s = [] → modeNow s ≤ 3 → Completes .sleep s fun t => t.out.getLast? = some (.ata 0 0 []) ∧
      t.pwr = { s.pwr with rest := some 4 } ∧ t.port.ataAsleep = true) ∧
    (∀ count : BitVec 8, Completes (.setFeatures 0x03 count) s fun t =>
      t = { s with port := { s.port with ataXfer := count.toNat }, out := s.out ++ [.ata 0 0 []] }) ∧
    (∀ on : Bool, Completes (.setFeatures (if on then 0x10 else 0x90) 0x05) s fun t =>
      t = { s with port := { s.port with ataNotify := on }, out := s.out ++ [.ata 0 0 []] }) ∧
    (∀ on : Bool, Completes (.setFeatures (if on then 0x10 else 0x90) 0x03) s fun t =>
      t = { s with port := { s.port with ataPm := on }, out := s.out ++ [.ata 0 0 []] }) ∧
    (∀ feature count : BitVec 8, feature ≠ 0x03 → ¬((feature = 0x10 ∨ feature = 0x90) ∧ (count = 0x03 ∨ count = 0x05)) →
      Completes (.setFeatures feature count) s fun t => t = { s with out := s.out ++ [.ata 0x04 0 []] })) ∧
  ((fon SATA.page SATA.CTRL_EN s = false ∨ s.port.ataAsleep = true) →
    ∀ c ∈ ([.sataNop, .executeDeviceDiagnostic, .idleImmediate, .checkPowerMode, .identifyPacketDevice, .deviceResetAta, .standbyImmediate, .sleep] :
      List Instr), Completes c s fun t => t = s)

/-- R82 to R94, R100 to R106: a priority slot, a codeword, the training of a link group, and its loss. -/
def Obligations.LinksReceive : Prop := ∀ (s : State) (head : Head) (link : Fin 2),
  (∀ (b : BitVec 120) ns, (slotFields b.toNat).2.2 = true → ((s.lane (hslLane head.n link)).window = none ∨ ∃ w, (s.lane (hslLane head.n link)).window = some w ∧ (slotFields b.toNat).1 = (w + 1) % 136) →
    (s.lane (hslLane head.n link)).same < 63 → fget (HTX.page head.n) HTX.STATUS_STATE s ≠ 3 → Completes (.prioritySlot head link (some b) ns) s fun t =>
      (t.lane (hslLane head.n link)).window = some (slotFields b.toNat).1 ∧ (t.lane (hslLane head.n link)).samples = (slotFields b.toNat).2.1 ∧
      (t.lane (hslLane head.n link)).badSlots = 0 ∧ (t.lane (hslLane head.n link)).valid = (s.lane (hslLane head.n link)).valid + 1 ∧
      (∀ l, l ≠ hslLane head.n link → t.lane l = s.lane l) ∧ sameBut [.regs, .lanes] s t ∧
      otherFields (HSL.page head.n link) [HSL.STATUS_STALE, HSL.SLOT_LAT_MAX] s t) ∧
  (∀ ns, (s.lane (hslLane head.n link)).badSlots < 31 → Completes (.prioritySlot head link none ns) s fun t =>
    (t.lane (hslLane head.n link)).badSlots = (s.lane (hslLane head.n link)).badSlots + 1 ∧ (t.lane (hslLane head.n link)).goodSlots = 0 ∧
    sameBut [.regs, .lanes] s t ∧ otherFields (HSL.page head.n link) [HSL.SLOT_ERR_CNT, hdrSticky] s t) ∧
  (fon (HSL.page head.n link) HSL.STATUS_STALE s = false → writing head.n s = false → Completes (.servoStale head link) s fun t =>
    fget (HSL.page head.n link) HSL.STATUS_STALE t = 1 ∧ hasInt (HSL.page head.n link) HSL.iSTALE t ∧
    t.evq = s.evq ++ [⟨0x3104, srcChan head.n, hslLane head.n link, (s.lane (hslLane head.n link)).samples.headD 0 % 2 ^ 32, 0, false⟩] ∧
    sameBut [.regs, .evq, .out, .msixPend] s t) ∧
  ((s.lane (hslLane head.n link)).badCws < 7 → Completes (.fecCodeword head link none) s fun t =>
    (t.lane (hslLane head.n link)).badCws = (s.lane (hslLane head.n link)).badCws + 1 ∧ (t.lane (hslLane head.n link)).goodCws = 0 ∧
    hasInt (HSL.page head.n link) HSL.iUNCORR t ∧ sameBut [.regs, .out, .msixPend, .lanes] s t) ∧
  (∀ c : CodewordIn, Completes (.fecCodeword head link (some c)) s fun t => (t.lane (hslLane head.n link)).badCws = 0 ∧
    (t.lane (hslLane head.n link)).goodCws = (s.lane (hslLane head.n link)).goodCws + 1 ∧
    sameBut [.regs, .evq, .out, .msixPend, .lanes, .links, .recs] s t) ∧
  (∀ window : Nat, fget (HSL.page head.n link) HSL.STATUS_STATE s = 5 → Completes (.laneDown head link window) s fun t =>
    hasInt (HSL.page head.n link) HSL.iDOWN t ∧ (t.link head.n).attempts = 1 ∧ getMcState head.n t = 9 ∧ fget (HTX.page head.n) HTX.STATUS_STATE t = 1 ∧
    ∃ later, t.evq = s.evq ++ ⟨0x3101, srcChan head.n, hslLane head.n link, 0x05, window % 2 ^ 32, false⟩ :: later) ∧
  (writing head.n s = true → Completes (.monitorStreamAbsent head) s fun t => fget (HTX.page head.n) HTX.STATUS_WRITE_EN t = 0 ∧
    t.evq.getLast? = some ⟨0x3107, srcChan head.n, hslLane head.n 0, 8, 0, false⟩ ∧ sameBut [.regs, .evq, .out, .msixPend, .links, .recs] s t)

/-- R87, R93 to R104, R115: a link group is enabled, trained, degraded and lost; its control messages; an underrun; and the coil drivers' fault. -/
def Obligations.LinksTrainAndTalk : Prop := ∀ (s : State) (head : Head),
  (∀ (link : Fin 2) (corrected : Nat), fget (HSL.page head.n link) HSL.DEG_CFG_DEG_THR s < corrected →
    fget (HSL.page head.n link) HSL.DEG_CFG_DEG_MS s ≤ (s.lane (hslLane head.n link)).degMs + 1 →
    fon (HSL.page head.n link) HSL.STATUS_DEGRADED s = false → Completes (.laneDegraded head link corrected) s fun t =>
      t.evq = s.evq ++ [⟨0x3102, srcChan head.n, hslLane head.n link, corrected % 2 ^ 32, fget (HSL.page head.n link) HSL.DEG_CFG_DEG_THR s % 2 ^ 32, false⟩] ∧
      hasInt (HSL.page head.n link) HSL.iDEGRADED t ∧ sameBut [.regs, .evq, .out, .msixPend, .lanes, .links] s t) ∧
  (∀ (link : Fin 2) (corrected : Nat), corrected ≤ fget (HSL.page head.n link) HSL.DEG_CFG_DEG_THR s → Completes (.laneDegraded head link corrected) s fun t =>
    t.lane (hslLane head.n link) = { s.lane (hslLane head.n link) with degMs := 0 } ∧ fget (HSL.page head.n link) HSL.STATUS_DEGRADED t = 0 ∧
    sameBut [.regs, .lanes] s t ∧ otherFields (HSL.page head.n link) [HSL.STATUS_DEGRADED] s t) ∧
  (∀ en, Completes (.linkEnable head .acl en) s fun t => fget (ACL.page head.n) ACL.CTRL_EN t = b2n en ∧
    fget (ACL.page head.n) ACL.STATUS_ACTIVE t = b2n en ∧ sameBut [.regs] s t ∧ otherFields (ACL.page head.n) [ACL.CTRL_EN, ACL.STATUS_ACTIVE] s t) ∧
  (∀ page en, page ≠ .acl → groupEnabled head.n s = groupEnabled head.n (setLinkEn head.n en s page) → Completes (.linkEnable head page en) s fun t =>
    t = setLinkEn head.n en s page) ∧
  (∀ page, page ≠ .acl → groupEnabled head.n s = false → groupEnabled head.n (setLinkEn head.n true s page) = true →
    Completes (.linkEnable head page true) s fun t => fget (HTX.page head.n) HTX.STATUS_STATE t = 1 ∧ (t.link head.n).attempts = 1 ∧
      (t.link head.n).msgs = [] ∧ t.out = s.out ++ [.training head.n] ∧ fget (HSL.page head.n 0) HSL.TRAIN_CNT t = 1 ∧
      sameBut [.regs, .out, .lanes, .links] s t) ∧
  (∀ page, page ≠ .acl → groupEnabled head.n s = true → Completes (.linkEnable head page false) s fun t =>
    fget (HTX.page head.n) HTX.STATUS_STATE t = 0 ∧ fget (HSL.page head.n 0) HSL.STATUS_STATE t = 0 ∧ fget (HSL.page head.n 1) HSL.STATUS_STATE t = 0 ∧
    sameBut [.regs, .evq, .out, .msixPend, .links, .recs, .loops, .heads] s t) ∧
  (∀ page, page ≠ .acl → groupEnabled head.n s = true → Completes (.linkTrain head page) s fun t =>
    fget (HTX.page head.n) HTX.STATUS_STATE t = 1 ∧ (t.link head.n).attempts = 1 ∧ t.out.getLast? = some (.training head.n)) ∧
  (∀ (link : Fin 2) (f : TrainingFrame), f.crcOk = true → fget (HTX.page head.n) HTX.STATUS_STATE s ∈ [1, 2] →
    Completes (.trainingFrame head link f) s fun t => (t.lane (hslLane head.n link)).found = true ∧
      (t.lane (hslLane head.n link)).window = some f.window ∧
      (f.ready = true → (t.lane (hslLane head.n link)).ready = true ∧ fget (HSL.page head.n link) HSL.TX_FFE_C0 t = slice f.ffe.toNat 11 8) ∧
      sameBut [.regs, .lanes] s t) ∧
  (∀ cause : BitVec 8, fget (HTX.page head.n) HTX.STATUS_STATE s ∉ [0, 5, 6] → (s.link head.n).attempts < 3 →
    Completes (.trainingTimeout head cause) s fun t => fget (HTX.page head.n) HTX.STATUS_STATE t = 1 ∧
      fget (HTX.page head.n) hdrFault t = cause.toNat ∧ hasInt (HTX.page head.n) HTX.iTRAIN_FAIL t ∧
      (t.link head.n).attempts = (s.link head.n).attempts + 1 ∧
      t.evq = s.evq ++ [⟨0x3105, srcChan head.n, hslLane head.n 0, cause.toNat, (s.link head.n).attempts, false⟩]) ∧
  (∀ cause : BitVec 8, fget (HTX.page head.n) HTX.STATUS_STATE s ∉ [0, 5, 6] → 3 ≤ (s.link head.n).attempts →
    Completes (.trainingTimeout head cause) s fun t => fget (HTX.page head.n) HTX.STATUS_STATE t = 6 ∧ (t.head head.n).out = true ∧
      fget (HTX.page head.n) hdrFault t = 0x06 ∧ t.evq.getLast? = some ⟨0x3106, srcChan head.n, hslLane head.n 0, 0x06, 0, false⟩) ∧
  (∀ (type tag : BitVec 8) (body : BitVec 240) m,
    (s.link head.n).msgs.find? (fun m => m.tag = tag.toNat && m.type + 0x80 = type.toNat) = some m →
    Completes (.controlResponse head type tag body) s fun t =>
      (m.own = true → fget (HTX.page head.n) HTX.MSG_CTRL_BUSY t = 0 ∧ fget (HTX.page head.n) HTX.STATUS_MSG_BUSY t = 0 ∧
        fget (HTX.page head.n) HTX.MSG_CTRL_RESULT t = min 2 (slice body.toNat 239 232) ∧ hasInt (HTX.page head.n) HTX.iMSG_DONE t ∧
        ∀ i < 8, fget (HTX.page head.n) (HTX.MSG_RESP.ix i) t = body.toNat / 2 ^ (32 * i) % 2 ^ 32) ∧
      (m.type ∉ [3, 4, 5] → (m.own = true ∨ slice body.toNat 239 232 < 2) → (t.link head.n).msgs = (s.link head.n).msgs.erase m) ∧
      sameBut [.regs, .evq, .out, .msixPend, .links, .recs, .heads] s t) ∧
  (∀ (tag : BitVec 8) m, (s.link head.n).msgs.find? (fun m => m.tag = tag.toNat) = some m → m.sends < 3 →
    Completes (.controlMessageTimeout head tag) s fun t => t.out = s.out ++ [.htxMsg head.n m.type m.tag m.args] ∧
      { m with sends := m.sends + 1 } ∈ (t.link head.n).msgs ∧ sameBut [.out, .links] s t) ∧
  (∀ (tag : BitVec 8) m, (s.link head.n).msgs.find? (fun m => m.tag = tag.toNat) = some m → 3 ≤ m.sends →
    Completes (.controlMessageTimeout head tag) s fun t => fget (HTX.page head.n) HTX.STATUS_STATE t = 1 ∧
      hasInt (HTX.page head.n) HTX.iMSG_FAIL t ∧ (t.link head.n).msgs = [] ∧ t.out.getLast? = some (.training head.n) ∧
      ∃ later, t.evq = s.evq ++ ⟨0x3108, srcChan head.n, 4 + head.n, m.type % 2 ^ 32, m.tag % 2 ^ 32, false⟩ :: later) ∧
  (fon (HTX.page head.n) HTX.MSG_CTRL_BUSY s = false → emitterAbsent head.n (fget (HTX.page head.n) HTX.MSG_CTRL_TYPE s) (msgArgs head.n s) s = false →
    Completes (.htxMsgGo head) s fun t => fget (HTX.page head.n) HTX.MSG_CTRL_BUSY t = 1 ∧ fget (HTX.page head.n) HTX.STATUS_MSG_BUSY t = 1 ∧
      (∃ args, (t.link head.n).msgs = (s.link head.n).msgs ++ [⟨fget (HTX.page head.n) HTX.MSG_CTRL_TYPE s, args, (s.link head.n).tag, 1, true⟩] ∧
        t.out = s.out ++ [.htxMsg head.n (fget (HTX.page head.n) HTX.MSG_CTRL_TYPE s) (s.link head.n).tag args] ∧
        (fget (HTX.page head.n) HTX.MSG_CTRL_TYPE s ≠ 3 → args = msgArgs head.n s)) ∧
      fget (HTX.page head.n) HTX.MSG_CTRL_TAG t = (s.link head.n).tag % 2 ^ HTX.MSG_CTRL_TAG.width ∧ sameBut [.regs, .out, .links] s t) ∧
  (Completes (.underrun head) s fun t => fget (HTX.page head.n) HTX.STATUS_WRITE_EN t = 0 ∧ hasInt (HTX.page head.n) HTX.iUNDERRUN t ∧
    hasSticky (HTX.page head.n) HTX.kUNDERRUN t ∧ hasInt (LPW.page head.n) LPW.iUNDERRUN t ∧ (t.rec' head.n).emitting = (if writing head.n s then [] else
      (s.rec' head.n).emitting) ∧ sameBut [.regs, .evq, .out, .msixPend, .recs] s t) ∧
  (Completes (.coilDriverFault head) s fun t => fget (ACL.page head.n) ACL.STATUS_FLT t = 1 ∧ fget (ACL.page head.n) ACL.STATUS_SAFE t = 1 ∧
    (t.link head.n).fltSafe = true ∧ (t.link head.n).fltPin = true ∧ hasInt (ACL.page head.n) ACL.iDRV_FAULT t ∧
    fget (ACL.page head.n) hdrFault t = 0x01 ∧ fget (HTX.page head.n) HTX.STATUS_WRITE_EN t = 0 ∧ getMcState head.n t = 9 ∧
    (∃ later, t.evq = s.evq ++ ⟨0x2300, srcServo, 6 + head.n, fget (ACL.page head.n) ACL.COIL_EN_EN s % 2 ^ 32, (s.link head.n).tick % 2 ^ 32, false⟩ ::
      later) ∧ sameBut [.regs, .evq, .out, .msixPend, .links, .recs, .loops, .heads] s t) ∧
  (∀ restart, Completes (.fltNRelease head restart) s fun t => t.link head.n = { s.link head.n with fltPin := false, fltSafe := !restart } ∧
    fget (ACL.page head.n) ACL.STATUS_FLT t = 0 ∧
    (restart = true → fget (ACL.page head.n) ACL.STATUS_SAFE t = 0 ∧ ∀ c < 5, fget (ACL.page head.n) (ACL.CMD_SAFE.ix c) t = 0) ∧
    sameBut [.regs, .links] s t ∧ otherFields (ACL.page head.n) ([ACL.STATUS_FLT, ACL.STATUS_SAFE] ++ (List.range 5).map ACL.CMD_SAFE.ix) s t)

/-- R124, R125, R128: the arithmetic and logic words of a control engine write the result their rule gives, and the flags by it. -/
def Obligations.EngineArithmetic : Prop := ∀ (s : State) (e : Fin 20) (w : BitVec 26) (a b : BitVec 32), wordRuns e s →
  a = (s.eng e).r.get (fld w 21 18) → b = (s.eng e).r.get (fld w 17 14) →
  (fmtA true true true w = true →
    Completes (.add e w) s (aluDone e (fld w 25 22) (sat31 (a.toInt + b.toInt)) (readsAB w) [] s) ∧
    Completes (.sub e w) s (aluDone e (fld w 25 22) (sat31 (a.toInt - b.toInt)) (readsAB w) [] s) ∧
    Completes (.min e w) s (aluDone e (fld w 25 22) (if a.toInt ≤ b.toInt then a else b, false) (readsAB w) [] s) ∧
    Completes (.max e w) s (aluDone e (fld w 25 22) (if a.toInt ≤ b.toInt then b else a, false) (readsAB w) [] s) ∧
    Completes (.lim e w) s (aluDone e (fld w 25 22) (BitVec.ofInt 32 (limBy a.toInt b.toInt), false) (readsAB w) [] s) ∧
    Completes (.and e w) s (aluDone e (fld w 25 22) (a &&& b, false) (readsAB w) [] s) ∧
    Completes (.or e w) s (aluDone e (fld w 25 22) (a ||| b, false) (readsAB w) [] s) ∧
    Completes (.xor e w) s (aluDone e (fld w 25 22) (a ^^^ b, false) (readsAB w) [] s) ∧
    Completes (.mul e w) s (aluDone e (fld w 25 22) (sat31 (mulRound a.toInt b.toInt)) (readsAB w) [fld w 25 22] s)) ∧
  (fmtA true true false w = true →
    Completes (.neg e w) s (aluDone e (fld w 25 22) (sat31 (-a.toInt)) (readsAB w) [] s) ∧
    Completes (.abs e w) s (aluDone e (fld w 25 22) (sat31 a.toInt.natAbs) (readsAB w) [] s) ∧
    Completes (.mov e w) s (aluDone e (fld w 25 22) (a, false) (readsAB w) [] s)) ∧
  (fld w 12 0 = 0 →
    Completes (.shl e w) s (aluDone e (fld w 25 22) (sat31 (a.toInt * 2 ^ fld w 17 13)) [fld w 21 18] [] s) ∧
    Completes (.shr e w) s (aluDone e (fld w 25 22) (BitVec.ofInt 32 (shiftRound a.toInt (fld w 17 13)), false) [fld w 21 18] [] s)) ∧
  (fmtA false true true w = true → Completes (.cmp e w) s fun t => wordDone e ((pcOf e s + 1) % 2 ^ 13) (spentBy 1 (readsAB w) [] (s.eng e)
    { s.eng e with r := { (s.eng e).r with flags := flagsOf (s.eng e).r.flags (sat31 (a.toInt - b.toInt)).1 (sat31 (a.toInt - b.toInt)).2 } }) s t) ∧
  (fmtA false true false w = true → Completes (.tst e w) s fun t => wordDone e ((pcOf e s + 1) % 2 ^ 13) (spentBy 1 (readsAB w) [] (s.eng e)
    { s.eng e with r := { (s.eng e).r with flags := flagsOf (s.eng e).r.flags a false } }) s t)

/-- R123, R124, R128, R132: the accumulator, constant, data memory, address register and port words of a control engine. -/
def Obligations.EngineMoves : Prop := ∀ (s : State) (e : Fin 20) (w : BitVec 26), wordRuns e s →
  (fld w 13 0 = 0 → Completes (.nop e w) s (regsDone e (s.eng e).r [] s)) ∧
  (fmtM true true w = true →
    Completes (.mac e w) s (accDone e (fld w 25 25) (((s.eng e).r.ac (fld w 25 25)).toInt +
      ((s.eng e).r.get (fld w 21 18)).toInt * ((s.eng e).r.get (fld w 17 14)).toInt) ((16 + fld w 25 25) :: readsAB w) [16 + fld w 25 25] s) ∧
    Completes (.msu e w) s (accDone e (fld w 25 25) (((s.eng e).r.ac (fld w 25 25)).toInt -
      ((s.eng e).r.get (fld w 21 18)).toInt * ((s.eng e).r.get (fld w 17 14)).toInt) ((16 + fld w 25 25) :: readsAB w) [16 + fld w 25 25] s)) ∧
  (fmtM false false w = true → Completes (.clra e w) s (accDone e (fld w 25 25) 0 [] [] s)) ∧
  (fmtM true false w = true →
    Completes (.lda e w) s (accDone e (fld w 25 25) (((s.eng e).r.get (fld w 21 18)).toInt * 2 ^ 31) [fld w 21 18] [] s)) ∧
  (fld w 16 0 = 0 → fld w 20 17 ≤ 9 → Completes (.mva e w) s (aluDone e (fld w 25 22)
    (sat31 (shiftRound (((s.eng e).r.ac (fld w 21 21)).toInt * 2 ^ fld w 20 17) 31)) [16 + fld w 21 21] [fld w 25 22] s)) ∧
  (fld w 21 16 = 0 →
    Completes (.ldh e w) s (regsDone e ((s.eng e).r.put (fld w 25 22) (BitVec.ofNat 32 (fld w 15 0 * 2 ^ 16))) [] s) ∧
    Completes (.ldl e w) s (regsDone e ((s.eng e).r.put (fld w 25 22)
      (BitVec.ofNat 32 (((s.eng e).r.get (fld w 25 22)).toNat / 2 ^ 16 * 2 ^ 16 + fld w 15 0))) [fld w 25 22] s)) ∧
  (∀ q x m off a, fmtD w = some (q, x, m, off) → a = (((s.eng e).r.getX x).toNat + off) % 4096 → custDm e a s = false →
    Completes (.load e w false) s (regsDone e (((s.eng e).r.putX x (modX ((s.eng e).r.getX x) m)).put q (BitVec.ofNat 32 (dmGet e a s))) [] s) ∧
    (inCust e s = false → engState e s = 1 → Completes (.load e w true) s (trapTaken e 0x02 a s)) ∧
    Completes (.store e w) s fun t => dmGet e a t = ((s.eng e).r.get q).toNat ∧
      (∀ k, k ≠ 4096 * e.val + a → t.dmem.get k 0 = s.dmem.get k 0) ∧ pcOf e t = (pcOf e s + 1) % 2 ^ 13 ∧
      t.eng e = spentBy 1 [fld w 25 22] [] (s.eng e) { s.eng e with r := (s.eng e).r.putX x (modX ((s.eng e).r.getX x) m) } ∧
      sameBut [.regs, .engs, .dmem] s t ∧ otherFields (ENG.page e) [ENG.PC] s t) ∧
  (fld w 23 12 = 0 → Completes (.setx e w) s (regsDone e ((s.eng e).r.putX (fld w 25 24) (BitVec.ofNat 12 (fld w 11 0))) [] s)) ∧
  (fld w 23 22 = 0 → fld w 17 0 = 0 → Completes (.movx e w) s
    (regsDone e ((s.eng e).r.putX (fld w 25 24) (((s.eng e).r.get (fld w 21 18)).setWidth 12)) [fld w 21 18] s)) ∧
  (fld w 13 0 = 0 → (e.val < 12 ∨ fld w 21 14 ≠ 0x30) → Completes (.inPort e w) s
    (regsDone e ((s.eng e).r.put (fld w 25 22) (portIn e (fld w 21 14) s)) [] s)) ∧
  (fld w 13 0 = 0 → 12 ≤ e.val → fld w 21 14 = 0x30 → Completes (.inPort e w) s fun t =>
    (t.eng e).r = (s.eng e).r.put (fld w 25 22) (portIn e 0x30 s) ∧ sameBut [.regs, .engs] s t) ∧
  (fld w 13 0 = 0 → (fld w 21 14 < 0x80 ∨ 0xDF < fld w 21 14) → Completes (.outPort e w) s (regsDone e (s.eng e).r [fld w 25 22] s)) ∧
  (fld w 13 0 = 0 → 0x80 ≤ fld w 21 14 → fld w 21 14 ≤ 0xDF → custPort e (fld w 21 14) s = false → (8 ≤ e.val ∨ flagH e s = false) →
    Completes (.outPort e w) s fun t => portOut e (fld w 21 14) t = (s.eng e).r.get (fld w 25 22) ∧ (t.eng e).r = (s.eng e).r ∧
      sameBut [.regs, .evq, .out, .msixPend, .links, .engs, .chans] s t) ∧
  (fld w 13 0 = 0 → 0x80 ≤ fld w 21 14 → fld w 21 14 ≤ 0x84 → custPort e (fld w 21 14) s = false → e.val < 8 → flagH e s = true →
    Completes (.outPort e w) s fun t => fget (ACL.page (headOf e)) (ACL.CMD_HOLD.ix (fld w 21 14 - 0x80)) t = 1 ∧
      portOut e (fld w 21 14) t = portOut e (fld w 21 14) s ∧ sameBut [.regs, .engs] s t)

/-- R128 to R130, R142 to R147: the words of a control engine that move its PC, wait, trap, enter and leave customer code, and access registers. -/
def Obligations.EngineControlFlow : Prop := ∀ (s : State) (e : Fin 20) (w : BitVec 26), executing e s = true →
  fon (ENG.page e) ENG.STATUS_UFMT s = false →
  (fld w 21 13 = 0 → fld w 25 22 ≠ 15 → condHolds (fld w 25 22) (s.eng e).r.flags (flagH e s) (flagPF e s) = true →
    (inCust e s = false ∨ 0x1C00 ≤ fld w 12 0) →
    Completes (.branch e w) s (wordDone e (fld w 12 0) (spentBy 2 [] [] (s.eng e) (s.eng e)) s) ∧
    ((s.eng e).cust = none → (s.eng e).r.sp < 8 → Completes (.call e w) s (wordDone e (fld w 12 0) (spentBy 2 [] [] (s.eng e)
      { s.eng e with r := { (s.eng e).r with
        stack := Store.put (s.eng e).r.stack (s.eng e).r.sp (BitVec.ofNat 13 ((pcOf e s + 1) % 2 ^ 13)) 0, sp := (s.eng e).r.sp + 1 } }) s)) ∧
    (∀ c, (s.eng e).cust = some c → c.depth < 3 → (s.eng e).r.sp < 8 → Completes (.call e w) s fun t => pcOf e t = fld w 12 0 ∧
      (t.eng e).cust = some { c with depth := c.depth + 1 } ∧ (t.eng e).r.sp = (s.eng e).r.sp + 1 ∧ sameBut [.regs, .engs] s t)) ∧
  (fld w 21 13 = 0 → fld w 25 22 ≠ 15 → condHolds (fld w 25 22) (s.eng e).r.flags (flagH e s) (flagPF e s) = false → wordRuns e s →
    Completes (.branch e w) s (regsDone e (s.eng e).r [] s) ∧ Completes (.call e w) s (regsDone e (s.eng e).r [] s)) ∧
  (fld w 25 0 = 0 → (s.eng e).cust = none → inCust e s = false → 0 < (s.eng e).r.sp → Completes (.ret e w) s
    (wordDone e (Store.get (s.eng e).r.stack ((s.eng e).r.sp - 1) 0).toNat (spentBy 2 [] [] (s.eng e)
      { s.eng e with r := { (s.eng e).r with sp := (s.eng e).r.sp - 1 } }) s)) ∧
  (fmtA false true false w = true → (inCust e s = false ∨ 0x1C00 ≤ slice ((s.eng e).r.get (fld w 21 18)).toNat 12 0) → Completes (.ji e w) s
    (wordDone e (slice ((s.eng e).r.get (fld w 21 18)).toNat 12 0) (spentBy 2 [fld w 21 18] [] (s.eng e) (s.eng e)) s)) ∧
  (fld w 25 16 = 0 → inCust e s = false → (s.eng e).events &&& fld w 5 0 = 0 → Completes (.wait e w) s fun t => engState e t = 2 ∧
    (t.eng e).mask = fld w 5 0 ∧ (t.eng e).events = (s.eng e).events ∧ pcOf e t = pcOf e s ∧ sameBut [.regs, .engs] s t ∧
    otherFields (ENG.page e) [ENG.STATUS_STATE, ENG.CYC_MAX] s t) ∧
  (fld w 25 16 = 0 → inCust e s = false → (s.eng e).events &&& fld w 5 0 ≠ 0 → Completes (.wait e w) s fun t => engState e t = 1 ∧
    (t.eng e).woke = (s.eng e).events &&& fld w 5 0 ∧ pcOf e t = (pcOf e s + 1) % 2 ^ 13 ∧ sameBut [.regs, .engs] s t) ∧
  (fld w 25 16 = 0 → inCust e s = false → fon (ENG.page e) ENG.STATUS_ARMED s = true → bit (fget (ENG.page e) ENG.CUST_HOOKS_EN s) (fld w 3 0) = true →
    fget (ENG.page e) ENG.CUST_CTRL_BUDGET s ≠ 0 → (s.eng e).r.sp < 8 → Completes (.hook e w) s fun t =>
      pcOf e t = 0x1C00 + fld w 3 0 ∧ inCust e t = true ∧ (t.eng e).r.flags.c = false ∧ (t.eng e).r.sp = (s.eng e).r.sp + 1 ∧
      (t.eng e).cust = some ⟨(s.eng e).r, BitVec.ofNat 13 ((pcOf e s + 1) % 2 ^ 13), fld w 3 0, 0⟩ ∧ sameBut [.regs, .engs] s t) ∧
  (fld w 25 16 = 0 → inCust e s = false → fon (ENG.page e) ENG.STATUS_ARMED s = false → Completes (.hook e w) s
    (regsDone e { (s.eng e).r with flags := { (s.eng e).r.flags with c := false } } [] s)) ∧
  (∀ c, fld w 25 0 = 0 → (s.eng e).cust = some c → Completes (.retc e w) s fun t => pcOf e t = c.ret.toNat ∧ inCust e t = false ∧
    (t.eng e).cust = none ∧ (t.eng e).r = restored c (s.eng e).r ∧ sameBut [.regs, .engs] s t ∧
    otherFields (ENG.page e) [ENG.PC, ENG.STATUS_CUST_ACTIVE] s t) ∧
  (fld w 25 16 = 0 → 0x80 ≤ fld w 7 0 → inCust e s = false → engState e s = 1 → Completes (.trap e w) s (trapTaken e (fld w 7 0) 0 s)) ∧
  (fld w 25 16 = 0 → inCust e s = false → Completes (.resume e w) s fun t => engState e t = 1 ∧ (t.eng e).r = frameRegs e s ∧
    pcOf e t = ((slice (dmGet e 0xDE0 s) 12 0) + (if fld w 0 0 = 1 then 1 else 0)) % 2 ^ 13 ∧ sameBut [.regs, .engs] s t ∧
    otherFields (ENG.page e) [ENG.PC, ENG.STATUS_STATE] s t) ∧
  (fmtA true true false w = true → Completes (.rgl e w) s fun t => sameBut [.engs] s t ∧ t.eng e = spentBy 0 [fld w 21 18] [] (s.eng e)
    { s.eng e with rg := some ⟨slice ((s.eng e).r.get (fld w 21 18)).toNat 23 0, none, fld w 25 22, none⟩ }) ∧
  (fmtA false true true w = true → Completes (.rgs e w) s fun t => sameBut [.engs] s t ∧ t.eng e = spentBy 0 (readsAB w) [] (s.eng e)
    { s.eng e with rg := some ⟨slice ((s.eng e).r.get (fld w 21 18)).toNat 23 0, some ((s.eng e).r.get (fld w 17 14)), 0, none⟩ }) ∧
  (fld w 25 0 ≠ 0 → inCust e s = false → engState e s = 1 →
    Completes (.ret e w) s (trapTaken e 0x01 0 s) ∧ Completes (.retc e w) s (trapTaken e 0x01 0 s))

/-- R130, R131, R133 to R144, R154, R157: what acts on a control engine from outside its program, and the two-level word. -/
def Obligations.EnginesFromOutside : Prop := ∀ (s : State) (e : Fin 20),
  (∀ c, inCust e s = true → (s.eng e).cust = some c → Completes (.customerBudgetExhausted e) s fun t => inCust e t = false ∧
    pcOf e t = c.ret.toNat ∧ fget (ENG.page e) hdrFault t = 0x21 ∧ fget (ENG.page e) ENG.CUST_STATUS_LAST_FAIL t = 0x21 ∧
    fget (ENG.page e) ENG.STATUS_ARMED t = 0 ∧ (t.eng e).cust = none ∧ (t.eng e).r.flags.c = true ∧ (t.eng e).r.sp = c.saved.sp ∧
    hasInt (ENG.page e) ENG.iCUST_FAIL t ∧ t.evq = s.evq ++ [⟨engEvent e 2, srcEng e, srcEng e, 0x21, c.hook % 2 ^ 32, false⟩] ∧
    sameBut [.regs, .evq, .out, .msixPend, .engs] s t) ∧
  (engLive e s = true → Completes (.tickOverrun e) s fun t => hasSticky (ENG.page e) ENG.kTICK_OVR t ∧ hasInt (ENG.page e) ENG.iTICK_OVR t ∧
    t.eng e = { s.eng e with events := setBit (s.eng e).events 0 } ∧ t.evq.length = s.evq.length + 1 ∧
    sameBut [.regs, .evq, .out, .msixPend, .engs] s t) ∧
  ((s.eng e).rg = none → engLive e s = true → Completes (.engineHalt e true) s fun t => engState e t = 4 ∧
    (t.eng e) = { s.eng e with before := engState e s } ∧ hasInt (ENG.page e) ENG.iHALTED t ∧ fget (ENG.page e) ENG.CTRL_HALT t = 1 ∧
    sameBut [.regs, .evq, .out, .msixPend, .links, .recs, .engs] s t) ∧
  ((s.eng e).rg ≠ none → Completes (.engineHalt e true) s fun t => fget (ENG.page e) ENG.CTRL_HALT t = 1 ∧ sameBut [.regs] s t ∧
    otherFields (ENG.page e) [ENG.CTRL_HALT] s t) ∧
  (engState e s = 4 → (s.eng e).before < 8 → (s.eng e).before ≠ 2 → Completes (.engineHalt e false) s fun t => engState e t = (s.eng e).before ∧
    fget (ENG.page e) ENG.CTRL_HALT t = 0 ∧ sameBut [.regs, .evq, .out, .msixPend, .links, .recs, .engs, .spin] s t) ∧
  (engState e s = 4 → (s.eng e).before = 1 → (s.eng e).rg = none → fon (ENG.page e) ENG.STATUS_UFMT s = false → inCust e s = false →
    fetchWord e s = 0 → Completes (.engineStep e) s fun t => engState e t = 4 ∧ pcOf e t = (pcOf e s + 1) % 2 ^ 13 ∧
      (t.eng e).r = (s.eng e).r ∧ (t.eng e).before = 1 ∧ sameBut [.regs, .engs] s t) ∧
  (engState e s = 4 → (s.eng e).before = 1 ∨ (s.eng e).before = 3 → (s.eng e).rg = none → Completes (.engineStep e) s fun t =>
    engState e t = 4 ∨ engState e t = 5) ∧
  (engState e s = 2 → bit (s.eng e).mask 4 = true → Completes (.doorbell e) s fun t => engState e t = 1 ∧ pcOf e t = (pcOf e s + 1) % 2 ^ 13 ∧
    (t.eng e).woke = (s.eng e).woke ||| 0x10 ∧ sameBut [.regs, .engs] s t ∧ otherFields (ENG.page e) [ENG.PC, ENG.STATUS_STATE] s t) ∧
  (engState e s ∈ [1, 3, 4] → Completes (.doorbell e) s fun t => t.eng e = { s.eng e with events := (s.eng e).events ||| 0x10 } ∧
    sameBut [.engs] s t) ∧
  (∀ ev : BitVec 6, engState e s = 2 → (s.eng e).mask &&& ev.toNat ≠ 0 → ev.getLsbD 0 = false → Completes (.engineWake e ev) s fun t =>
    engState e t = 1 ∧ pcOf e t = (pcOf e s + 1) % 2 ^ 13 ∧ (t.eng e).woke = (s.eng e).woke ||| ev.toNat ∧ (t.eng e).cyc = 0 ∧
    sameBut [.regs, .engs] s t ∧ otherFields (ENG.page e) [ENG.PC, ENG.STATUS_STATE] s t) ∧
  (Completes (.cntClr e) s fun t => fget (ENG.page e) ENG.TICK_CNT t = 0 ∧ fget (ENG.page e) ENG.OVR_CNT t = 0 ∧ fget (ENG.page e) ENG.TRAP_CNT t = 0 ∧
    sameBut [.regs] s t ∧ otherFields (ENG.page e) [ENG.TICK_CNT, ENG.OVR_CNT, ENG.TRAP_CNT] s t) ∧
  (∀ req a, a = fget (ENG.page e) ENG.DM_ADDR_ADDR s → Completes (.dmDataAccess e req none) s fun t => t.out = s.out ++ [.readData req (dmGet e a s)] ∧
    fget (ENG.page e) ENG.DM_ADDR_ADDR t = (if fon (ENG.page e) ENG.DM_ADDR_AUTO_INC s then (a + 1) % 2 ^ 12 else a) ∧
    sameBut [.regs, .out] s t ∧ otherFields (ENG.page e) [ENG.DM_ADDR_ADDR] s t) ∧
  (∀ req (v : BitVec 32) a, a = fget (ENG.page e) ENG.DM_ADDR_ADDR s → Completes (.dmDataAccess e req (some v)) s fun t => dmGet e a t = v.toNat ∧
    (∀ k, k ≠ 4096 * e.val + a % 4096 → t.dmem.get k 0 = s.dmem.get k 0) ∧ sameBut [.regs, .dmem] s t ∧
    otherFields (ENG.page e) [ENG.DM_ADDR_ADDR] s t) ∧
  (∀ (word : Fin 1024) (v : BitVec 32), fon (ENG.page e) ENG.STATUS_LOCKED s = true → fon (ENG.page e) ENG.CUST_CTRL_ARM s = false →
    inCust e s = false → Completes (.customerRegionWrite e word v) s fun t => t.ustore.get (8192 * e.val + 0x1C00 + word.val) 0 = v.toNat ∧
      (∀ k, k ≠ 8192 * e.val + 0x1C00 + word.val → t.ustore.get k 0 = s.ustore.get k 0) ∧ sameBut [.ustore] s t) ∧
  (∀ (word : Fin 1024) (v : BitVec 32), fon (ENG.page e) ENG.STATUS_LOCKED s = true → (fon (ENG.page e) ENG.CUST_CTRL_ARM s = true ∨
    inCust e s = true) → Completes (.customerRegionWrite e word v) s fun t => hasSticky (ENG.page e) ENG.kCUST_WR t ∧
      hasInt (ENG.page e) ENG.iCUST_WR t ∧ sameBut [.regs, .out, .msixPend] s t) ∧
  (fon (ENG.page e) ENG.CUST_CTRL_ARM s = false → Completes (.custArm e true) s fun t => fget (ENG.page e) ENG.CUST_CTRL_ARM t = 1 ∧
    t.eng e = { s.eng e with arming := true } ∧ sameBut [.regs, .engs] s t ∧ otherFields (ENG.page e) [ENG.CUST_CTRL_ARM] s t) ∧
  (Completes (.custArm e false) s fun t => fget (ENG.page e) ENG.CUST_CTRL_ARM t = 0 ∧ fget (ENG.page e) ENG.STATUS_ARMED t = 0 ∧
    t.eng e = { s.eng e with arming := false } ∧ sameBut [.regs, .engs] s t ∧
    otherFields (ENG.page e) [ENG.CUST_CTRL_ARM, ENG.STATUS_ARMED] s t) ∧
  ((s.eng e).arming = true → Completes (.custArmed e) s fun t => fget (ENG.page e) ENG.STATUS_ARMED t = 1 ∧
    fget (ENG.page e) ENG.CUST_CRC t = crc32c (custBytes e s) % 2 ^ 32 ∧ t.eng e = { s.eng e with arming := false } ∧
    sameBut [.regs, .evq, .engs, .vault] s t ∧ otherFields (ENG.page e) [ENG.CUST_CRC, ENG.STATUS_ARMED] s t) ∧
  (Completes (.plausRearm e) s fun t => fget (ENG.page e) ENG.STATUS_PF t = 0 ∧ t.eng e = { s.eng e with seeded := false, exceed := 0 } ∧
    sameBut [.regs, .engs] s t ∧ otherFields (ENG.page e) [ENG.STATUS_PF] s t)

/-- R83, R133 to R138: the two-level word, writes to the stores through the window, and the tick of the servo island. -/
def Obligations.TwoLevelWordAndTick : Prop := ∀ s : State,
  (∀ (e : Fin 20) (w : BitVec 32) n x0 x1 x2 x3, executing e s = true → fon (ENG.page e) ENG.STATUS_UFMT s = true → inCust e s = false →
    n = s.nstore.get (1024 * nanoStore e + slice w.toNat 31 22) 0 → nanoSlots w.toNat n = some (x0, x1, x2, x3) → x3.op = 0 → slice n 8 0 = 0 →
    slice n 15 13 = 0 → ¬(x2.op = 0x13 ∧ 9 < slice x2.k 4 1) → Completes (.nanoWord e w false) s fun t => pcOf e t = (pcOf e s + 1) % 2 ^ 13 ∧
      (t.eng e).r.flags = nanoFlags (s.eng e).r.flags (aluSlot (s.eng e).r x0) (aluSlot (s.eng e).r x1) (mulSlot (s.eng e).r x2) ∧
      (∀ d v, (mulSlot (s.eng e).r x2).reg = some (d, v) → (t.eng e).r.get d = v) ∧
      (∀ d v, (aluSlot (s.eng e).r x1).reg = some (d, v) → (∀ u, (mulSlot (s.eng e).r x2).reg ≠ some (d, u)) → (t.eng e).r.get d = v) ∧
      (∀ d v, (aluSlot (s.eng e).r x0).reg = some (d, v) → (∀ u, (aluSlot (s.eng e).r x1).reg ≠ some (d, u)) →
        (∀ u, (mulSlot (s.eng e).r x2).reg ≠ some (d, u)) → (t.eng e).r.get d = v) ∧
      (∀ v, mulAc (s.eng e).r x2 = some v → (t.eng e).r.ac (x2.k % 2) = (sat72 v).1) ∧ (∀ f, f ≠ e.val → t.eng f = s.eng f) ∧
      sameBut [.regs, .engs] s t ∧ otherFields (ENG.page e) [ENG.PC, hdrSticky] s t) ∧
  (∀ (e : Fin 20) (w : BitVec 32) n, engState e s = 1 → (s.eng e).rg = none → fon (ENG.page e) ENG.STATUS_UFMT s = true → inCust e s = false →
    n = s.nstore.get (1024 * nanoStore e + slice w.toNat 31 22) 0 → nanoSlots w.toNat n = none →
    Completes (.nanoWord e w false) s (trapTaken e 0x05 0 s)) ∧
  (∀ req (addr : BitVec 24) (v : BitVec 32) (e : Fin 20) a, addr.toNat = 0x100000 + 0x8000 * e.val + 4 * a → a < 8192 →
    fon (ENG.page e) ENG.STATUS_LOCKED s = false → Completes (.storeWindowWrite true req addr v) s fun t =>
      t.ustore.get (8192 * e.val + a) 0 = v.toNat ∧ (∀ k, k ≠ 8192 * e.val + a → t.ustore.get k 0 = s.ustore.get k 0) ∧ sameBut [.ustore] s t) ∧
  (∀ loader req (addr : BitVec 24) (v : BitVec 32) (e : Fin 20) a, addr.toNat = 0x100000 + 0x8000 * e.val + 4 * a → a < 0x1C00 →
    fon (ENG.page e) ENG.STATUS_LOCKED s = true → Completes (.storeWindowWrite loader req addr v) s fun t =>
      hasSticky (ENG.page e) ENG.kLOCK_WR t ∧ hasInt (ENG.page e) ENG.iLOCK_WR t ∧
      t.evq = s.evq ++ [⟨engEvent e 5, srcEng e, srcEng e, addr.toNat, req % 2 ^ 32, false⟩] ∧ sameBut [.regs, .evq, .out, .msixPend] s t) ∧
  (∀ laL laU (latL latU : BitVec 9), Completes (.servoTick laL laU latL latU) s fun t =>
    (∀ l < 4, (t.lane l).sums = [] ∧ (t.lane l).valid = 0 ∧ ((s.lane l).crossing = [] → (t.lane l).crossing = [] ∧
      (t.lane l).cur = laneTickVal (s.lane l) (fon (HSL.page (l / 2) (l % 2)) HSL.STATUS_STALE s))) ∧
    (∀ h < 2, fon (ACL.page h) ACL.CTRL_EN s = true → (t.link h).tick = ((s.link h).tick + 1) % 16 ∧ (t.link h).coilCmd = []) ∧
    (∀ h < 2, (t.head h).hAcc = false ∧ (t.head h).hSeen = ((s.head h).hAcc || servoH h s)) ∧
    sameBut [.regs, .evq, .out, .msixPend, .lanes, .links, .recs, .engs, .pgs, .heads, .spin, .sleds, .chans, .commons] s t)

/-- R149 to R152: the profile generator's moves, stops, limits and targets. -/
def Obligations.ProfileGenerator : Prop := ∀ s : State,
  (∀ c : Fin 4, pgMoving c s = false → fon MOT.page (MOT.PG_CTRL_MODE.ix c) s = false → (pgPageLimits c s).1 ≠ 0 → (pgPageLimits c s).2.1 ≠ 0 →
    (pgPageLimits c s).2.2 ≠ 0 → Completes (.pgGo c) s fun t => pgState c t = 1 ∧ (t.pg c).dest = pgTarget c s ∧ (t.pg c).pos = (s.pg c).pos ∧
      (t.pg c).vel = 0 ∧ (t.pg c).total = 0 ∧ (pgTarget c s = (s.pg c).pos → (t.pg c).plan = []) ∧ bit (fget MOT.page MOT.STATUS_MOVING t) c = true ∧
      sameBut [.regs, .pgs] s t ∧ otherFields MOT.page [MOT.PG_STATE_STATE.ix c, MOT.STATUS_MOVING] s t) ∧
  (∀ c : Fin 4, pgMoving c s = false → fon MOT.page (MOT.PG_CTRL_MODE.ix c) s = false → ((pgPageLimits c s).1 = 0 ∨ (pgPageLimits c s).2.1 = 0 ∨
    (pgPageLimits c s).2.2 = 0) → Completes (.pgGo c) s fun t => hasSticky MOT.page (MOT.kZERO_LIM + c) t ∧ sameBut [.regs] s t ∧
      otherFields MOT.page [hdrSticky] s t) ∧
  (∀ c : Fin 4, pgMoving c s = false → fon MOT.page (MOT.PG_CTRL_MODE.ix c) s = true → Completes (.pgGo c) s fun t => pgState c t = 4 ∧
    (∃ d ep ev, (t.pg c).seg = some (d, (s.pg c).pos, 0, ep, ev)) ∧ fget MOT.page (MOT.PG_STATE_SEG.ix c) t = 0 ∧ sameBut [.regs, .pgs] s t) ∧
  (∀ c : Fin 4, pgMoving c s = true → Completes (.pgGo c) s fun t => t = s) ∧
  (∀ c : Fin 4, pgMoving c s = true → Completes (.pgStop c) s fun t => pgState c t = 2 ∧ (t.pg c).seg = none ∧
    (t.pg c).dest = stopDest (s.pg c) (t.pg c).plan ∧ (t.pg c).pos = (s.pg c).pos ∧ sameBut [.regs, .pgs] s t ∧
    otherFields MOT.page [MOT.PG_STATE_STATE.ix c, MOT.STATUS_MOVING] s t) ∧
  (∀ c : Fin 4, pgMoving c s = false → Completes (.pgStop c) s fun t => t = s) ∧
  (∀ (c : Fin 4) l (v : BitVec 64), Completes (.pgLimitWrite c l v) s fun t =>
    fget MOT.page (limitPair c l).1 t = v.toNat % 2 ^ 32 ∧ (pgMoving c s = false → sameBut [.regs] s t ∧
      otherFields MOT.page [(limitPair c l).1, (limitPair c l).2] s t) ∧ sameBut [.regs, .pgs] s t) ∧
  (∀ (c : Fin 4) (v : BitVec 48), pgMoving c s = false → Completes (.pgTargetWrite c v) s fun t =>
    fget MOT.page (MOT.TGT_LO.ix c) t = v.toNat % 2 ^ 32 ∧ fget MOT.page (MOT.TGT_HI.ix c) t = v.toNat / 2 ^ 32 ∧ sameBut [.regs] s t ∧
    otherFields MOT.page [MOT.TGT_LO.ix c, MOT.TGT_HI.ix c] s t) ∧
  (∀ (c : Fin 4) (v : BitVec 48), pgMoving c s = true → Completes (.pgTargetWrite c v) s fun t => hasSticky MOT.page (MOT.kTGT_BUSY + c) t ∧
    sameBut [.regs] s t ∧ otherFields MOT.page [hdrSticky] s t) ∧
  (Completes .pgTick s fun t => (∀ c : Fin 4, pgMoving c s = false → t.pg c = s.pg c) ∧
    (∀ c : Fin 4, fon MOT.page MOT.CTRL_EN s = false → pgMoving c s = true → pgState c t = 0 ∧ (t.pg c).vel = 0 ∧ (t.pg c).pos = (s.pg c).pos) ∧
    (∀ c : Fin 4, fon MOT.page MOT.CTRL_EN s = true → pgState c s = 1 → (runPhases 64 1 ((s.pg c).pos, (s.pg c).vel, (s.pg c).acc) (s.pg c).plan).2 = [] →
      (t.pg c).pos = (s.pg c).dest) ∧ sameBut [.regs, .out, .msixPend, .pgs] s t)

/-- R163, R165, R167, R168, R170, R175, R179 to R183: focus and tracking are captured, lost, parked and regained, and a head jumps and seeks. -/
def Obligations.FocusTrackingAndMotion : Prop := ∀ (s : State) (head : Head),
  (∀ loop : Fin 3, Completes (.bankSwap head loop) s fun t => fget (LOOP.page (4 * head.n + loop)) LOOP.LOOP_STATUS_SWAP_PEND t = 1 ∧
    sameBut [.regs] s t ∧ otherFields (LOOP.page (4 * head.n + loop)) [LOOP.LOOP_STATUS_SWAP_PEND] s t) ∧
  (fon (LOOP.page (4 * head.n)) LOOP.LOOP_CTRL_EN s = true → Completes (.focusAcquire head) s fun t =>
    getLoop (4 * head.n) t = 1 ∧ fget (LOOP.page (4 * head.n)) LOOP.LOOP_STATUS_SETTLED t = 0 ∧ fget (FOC.page head.n) FOC.LAYERS_SEEN t = 0 ∧
    (t.head head.n).sweeps = 1 ∧ (t.loop (4 * head.n)).u = fgetI (FOC.page head.n) FOC.RETRACT_POS s * 2 ^ 16 ∧ getMcState head.n t = 1 ∧
    (pgState (lensCh head.n) s = 0 → fget (FOC.page head.n) FOC.SWEEP_VEL s ≠ 0 → pgMoving (lensCh head.n) t = true) ∧
    sameBut [.regs, .evq, .out, .msixPend, .links, .engs, .pgs, .loops, .heads] s t) ∧
  (fon (LOOP.page (4 * head.n)) LOOP.LOOP_CTRL_EN s = false → Completes (.focusAcquire head) s fun t => t = s) ∧
  (getLoop (4 * head.n) s = 1 → (s.head head.n).sweeps < fget (FOC.page head.n) FOC.FOC_CFG_SWEEPS s → Completes (.focusSweepEnd head) s fun t =>
    getLoop (4 * head.n) t = 1 ∧ (t.head head.n).sweeps = (s.head head.n).sweeps + 1 ∧ fget (FOC.page head.n) FOC.LAYERS_SEEN t = 0) ∧
  (getLoop (4 * head.n) s = 1 → fget (FOC.page head.n) FOC.FOC_CFG_SWEEPS s ≤ (s.head head.n).sweeps → Completes (.focusSweepEnd head) s fun t =>
    getLoop (4 * head.n) t = 6 ∧ getMcState head.n t = 0 ∧ t.evq = s.evq ++ [⟨0x2001, srcEng (4 * head.n), head.n, 3, b2n (writing head.n s), false⟩]) ∧
  (fon (LOOP.page (4 * head.n + 1)) LOOP.LOOP_CTRL_EN s = true → getLoop (4 * head.n) s = 2 →
    fon (LOOP.page (4 * head.n)) LOOP.LOOP_STATUS_SETTLED s = true → Completes (.trackingAcquire head) s fun t =>
      getLoop (4 * head.n + 1) t = 1 ∧ fget (LOOP.page (4 * head.n + 1)) LOOP.LOOP_STATUS_SETTLED t = 0 ∧ sameBut [.regs, .engs, .loops] s t) ∧
  (∀ loop : Fin 3, Completes (.loopPark head loop) s fun t => getLoop (4 * head.n + loop) t = 6 ∧
    fget (LOOP.page (4 * head.n + loop)) LOOP.LOOP_STATUS_SETTLED t = 0 ∧
    (t.loop (4 * head.n + loop)).ramp = some ((s.loop (4 * head.n + loop)).u / 2 ^ 16,
      if loop = 0 then (fgetI (FOC.page head.n) FOC.RETRACT_POS s, 400 * nz (fget (FOC.page head.n) FOC.FOC_CFG_RETRACT_MS s), 0) else (0, 400, 0)) ∧
    (loop = 0 → getMcState head.n t = 0) ∧ sameBut [.regs, .engs, .loops] s t) ∧
  (∀ byFs, getLoop (4 * head.n) s ∈ [2, 3, 4] → Completes (.focusLost head byFs) s fun t => getLoop (4 * head.n) t = 6 ∧
    getLoop (4 * head.n + 1) t = 6 ∧ getMcState head.n t = 1 ∧ (t.head head.n).recapture = true ∧ (t.head head.n).jump = none ∧
    (t.loop (4 * head.n)).ramp = some ((s.loop (4 * head.n)).u / 2 ^ 16, fgetI (FOC.page head.n) FOC.RETRACT_POS s,
      400 * nz (fget (FOC.page head.n) FOC.FOC_CFG_RETRACT_MS s), 0) ∧
    (t.loop (4 * head.n + 1)).ramp = some ((s.loop (4 * head.n + 1)).u / 2 ^ 16, 0, 400, 0) ∧ writing head.n t = false ∧
    (∃ later, t.evq = s.evq ++ ⟨0x2001, srcEng (4 * head.n), head.n, if byFs then 1 else 2, b2n (writing head.n s), false⟩ :: later) ∧
    sameBut [.regs, .evq, .out, .msixPend, .links, .recs, .engs, .loops, .heads] s t) ∧
  (∀ te : BitVec 32, getLoop (4 * head.n + 1) s ∈ [2, 3, 4] → Completes (.trackingLost head te) s fun t =>
    getLoop (4 * head.n + 1) t = 1 ∧ posValid head.n t = false ∧ writing head.n t = false ∧
    (∃ later, t.evq = s.evq ++ ⟨0x2003, srcEng (4 * head.n + 1), head.n, te.toNat, b2n (writing head.n s), false⟩ :: later) ∧
    sameBut [.regs, .evq, .out, .msixPend, .links, .recs, .engs, .loops] s t) ∧
  (∀ (cause : Fin 7) (loop : Fin 3), Completes (.lostFeedback head cause loop) s fun t => (∀ k < 3, getLoop (4 * head.n + k) t = 5) ∧
    getMcState head.n t = 9 ∧ posValid head.n t = false ∧ writing head.n t = false ∧ (t.head head.n).seek = none ∧ (t.head head.n).lastCause = cause ∧
    t.evq.getLast? = some ⟨0x2004, srcEng (4 * head.n + loop), head.n, cause, srcEng (4 * head.n + loop), false⟩ ∧
    sameBut [.regs, .evq, .out, .msixPend, .links, .recs, .loops, .heads] s t) ∧
  (∀ confirmed, (s.head head.n).reacquiring = false → getMcState head.n s = 9 → headDown head.n s = false → 40 ≤ (s.head head.n).goodTicks →
    (s.link head.n).fltSafe = false → (s.link head.n).fltPin = false → Completes (.reAcquisition head confirmed) s fun t =>
      (t.head head.n).reacquiring = true ∧ getLoop (4 * head.n) t = 1 ∧ getMcState head.n t = 1 ∧
      ∀ k < 3, fget (ENG.page (4 * head.n + k)) ENG.STATUS_PF t = 0) ∧
  ((s.head head.n).reacquiring = true → Completes (.reAcquisition head true) s fun t => (t.head head.n).reacquiring = false ∧
    t.evq = s.evq ++ [⟨0x2005, srcEng 11, head.n, ((s.head head.n).attempts + 1) % 2 ^ 32, posLayer head.n s, false⟩]) ∧
  ((s.head head.n).reacquiring = true → 2 ≤ (s.head head.n).attempts → Completes (.reAcquisition head false) s fun t =>
    (t.head head.n).out = true ∧ getMcState head.n t = 10 ∧ t.evq = s.evq ++
      [⟨0x2006, srcEng 11, head.n, ((s.head head.n).attempts + 1) % 2 ^ 32, (s.head head.n).lastCause % 2 ^ 32, false⟩]) ∧
  ((s.head head.n).reacquiring = true → (s.head head.n).attempts < 2 → Completes (.reAcquisition head false) s fun t =>
    (t.head head.n).attempts = (s.head head.n).attempts + 1 ∧ (t.head head.n).reacquiring = true ∧ getLoop (4 * head.n) t = 1) ∧
  (∀ d, (s.head head.n).jump = some d → (s.head head.n).gjFails + 1 < fget MC.page MC.GJ_CFG_FAIL_MAX s → Completes (.gapJumpFail head) s fun t =>
    (t.head head.n).jump = none ∧ (t.head head.n).discard = true ∧ (t.head head.n).noWrite = true ∧
    (t.head head.n).align = some (s.head head.n).want ∧ (t.head head.n).gjFails = (s.head head.n).gjFails + 1 ∧ getMcState head.n t = 8 ∧
    (∃ later, t.evq = s.evq ++ ⟨0x2010, srcEng 11, head.n, ofSigned 32 d, posTrack head.n s, false⟩ :: later) ∧
    sameBut [.regs, .evq, .out, .msixPend, .recs, .engs, .heads] s t) ∧
  (∀ target : Fin 8, (s.head head.n).ljump = none → (s.head head.n).jump = none → Completes (.layerJump head target) s fun t =>
    (∃ j, (t.head head.n).ljump = some j ∧ j.source = posLayer head.n s ∧ j.target = target ∧ j.tries = 0) ∧
    getLoop (4 * head.n) t = 4 ∧ getLoop (4 * head.n + 1) t = 4 ∧ getMcState head.n t = 5 ∧ posValid head.n t = false ∧
    (t.loop (4 * head.n + 1)).held = (s.loop (4 * head.n + 1)).u ∧ sameBut [.regs, .evq, .out, .msixPend, .engs, .dmem, .pgs, .loops, .heads, .commons] s t) ∧
  (∀ target : Fin 8, (s.head head.n).ljump = none → (s.head head.n).jump ≠ none → Completes (.layerJump head target) s fun t =>
    (t.head head.n).ljumpPend = some target.val ∧ (t.head head.n).ljump = none ∧ sameBut [.heads] s t) ∧
  (∀ confirm (layer : Fin 8) j, (s.head head.n).ljump = some j → Completes (.layerJumpFail head confirm layer) s fun t =>
    (∃ later, t.evq = s.evq ++ ⟨0x2011, srcEng 11, head.n, j.target % 2 ^ 32, if confirm then 7 else 3, false⟩ :: later) ∧
    (j.tries < fget MC.page MC.LJ_TRIES s → ∃ k, (t.head head.n).ljump = some k ∧ k.target = j.target ∧ k.tries = j.tries + 1) ∧
    (fget MC.page MC.LJ_TRIES s ≤ j.tries → (t.head head.n).ljump = none ∧ bit (fget MC.page MC.MC_INT t) (MC.mSEEK_FAIL_L + head.n) = true)) ∧
  (((s.head head.n).seek ≠ none ∨ (s.head head.n).ljump ≠ none ∨ getMcState head.n s = 9 ∨ discLastGroup s < (seekTarget head.n s).1 ∨
      fget FMT.page FMT.MEDIA_LAYERS s ≤ (seekTarget head.n s).2 ∨ fget FMT.page FMT.STATUS_STATE s ≠ 2) → Completes (.seek head) s fun t =>
    bit (fget MC.page MC.MC_INT t) (MC.mSEEK_REJ_L + head.n) = true ∧ t.evq = s.evq ++ [⟨0x2012, srcEng 11, head.n,
      (seekTarget head.n s).1 % 2 ^ 32, (seekTarget head.n s).2 % 2 ^ 32, false⟩] ∧ sameBut [.regs, .evq, .out, .msixPend] s t) ∧
  ((s.head head.n).seek = none → (s.head head.n).ljump = none → getMcState head.n s ≠ 9 → (seekTarget head.n s).1 ≤ discLastGroup s →
    (seekTarget head.n s).2 < fget FMT.page FMT.MEDIA_LAYERS s → fget FMT.page FMT.STATUS_STATE s = 2 →
    (posLayer head.n s ≠ (seekTarget head.n s).2 → (s.head head.n).jump = none → Completes (.seek head) s fun t =>
      ((t.head head.n).seek.map (fun k => (k.group, k.layer, k.step)) = some ((seekTarget head.n s).1, (seekTarget head.n s).2, .layer)) ∧
      (t.head head.n).ljump.map Ljump.target = some (seekTarget head.n s).2) ∧
    (posLayer head.n s = (seekTarget head.n s).2 → posValid head.n s = true → fon FMT.page FMT.STATUS_LEGACY s = false →
      (gapDistance (posLayer head.n s) (posTrack head.n s) (groupTrack (seekTarget head.n s).1)).natAbs ≤ 7 →
      ((groupTrack (seekTarget head.n s).1 : Int) - posTrack head.n s).natAbs ≤ fget MC.page MC.SEEK_CFG_FINE_MAX s → Completes (.seek head) s fun t =>
        (t.head head.n).align = some (groupTrack (seekTarget head.n s).1) ∧ getMcState head.n t = 8 ∧ sameBut [.regs, .heads] s t) ∧
    (posLayer head.n s = (seekTarget head.n s).2 → posValid head.n s = true → fon PWR.page PWR.STATUS_VMOT_WARN s = false →
      fget MC.page MC.SEEK_CFG_FINE_MAX s < ((groupTrack (seekTarget head.n s).1 : Int) - posTrack head.n s).natAbs →
      0 < fget MC.page MC.SEEK_CFG_COARSE_TRIES s → Completes (.seek head) s fun t =>
        (t.head head.n).seek.map Seek.step = some .coarse ∧ getMcState head.n t = 6 ∧ getLoop (4 * head.n + 1) t = 6 ∧ posValid head.n t = false))

/-- R46, R48, R176, R177, R266, R268 to R272, R278, R285, R286: defects and the head's state H, the wobble's address, and the jump gap start. -/
def Obligations.DefectsWobbleAndGap : Prop := ∀ (s : State) (head : Head),
  (∀ (b : Fin 10) ago rf s', s' = rfSamples head.n rf s → recording head.n s' = false → fon (CHN.page head.n b) CHN.CTRL_EN s' = true →
    fon (CHN.page head.n b) CHN.STATUS_DARK s' = false → fon (CHC.page head.n) CHC.STATUS_IN_GAP s' = false →
    fon (CHN.page head.n b) CHN.STATUS_DEF s' = false → Completes (.defectStart head (some b) ago rf) s fun t =>
      fget (CHN.page head.n b) CHN.STATUS_DEF t = 1 ∧ fget (CHN.page head.n b) CHN.STATUS_HOLDING t = 1 ∧
      (fget (CHN.page head.n b) CHN.DEF_CNT s' < 65535 → fget (CHN.page head.n b) CHN.DEF_CNT t = fget (CHN.page head.n b) CHN.DEF_CNT s' + 1) ∧
      (fon (CHC.page head.n) CHC.CTRL_HDEF_EN s' = true → fget (CHC.page head.n) CHC.HDEF_CFG_HEAD_N s' = 1 → bit (fget (CHC.page head.n) CHC.HDEF_CFG_DEF_SRC s') b = true →
        headH head.n s' = false → headH head.n t = true ∧ hasInt (CHC.page head.n) CHC.iDEF_START t ∧ ∀ k < 3, fget (ENG.page (4 * head.n + k)) ENG.STATUS_H t = 1) ∧
      sameBut [.regs, .out, .msixPend, .heads, .chans, .commons] s t) ∧
  (∀ (b : Fin 10) bits rf s', s' = rfSamples head.n rf s → fon (CHN.page head.n b) CHN.STATUS_DEF s' = true →
    fon (CHC.page head.n) CHC.STATUS_IN_GAP s' = false → Completes (.defectEnd head (some b) bits rf) s fun t =>
      fget (CHN.page head.n b) CHN.STATUS_DEF t = 0 ∧ (t.chan head.n b).post = fget (CHN.page head.n b) CHN.DEF_CFG2_POST_BITS s' ∧
      (fget (CHN.page head.n b) CHN.DEF_BITS s' + bits < 2 ^ 32 → fget (CHN.page head.n b) CHN.DEF_BITS t = fget (CHN.page head.n b) CHN.DEF_BITS s' + bits) ∧
      sameBut [.regs, .chans, .commons] s t) ∧
  (∀ bits tenths (beams : BitVec 10) (envMin : BitVec 16), headH head.n s = true → hCondition head.n s = false → (s.common head.n).fifo.length < 16 →
    Completes (.headDefectEnd head bits tenths beams envMin) s fun t => headH head.n t = false ∧ hasInt (CHC.page head.n) CHC.iDEF_END t ∧
      fget (CHC.page head.n) CHC.HDEF_LAST t = min 65535 tenths ∧ fget (CHC.page head.n) CHC.HDEF_BEAMS t = beams.toNat ∧
      (t.common head.n).fifo = (s.common head.n).fifo ++ [⟨(s.common head.n).defCslot, (s.common head.n).defFrame, bits, beams.toNat, envMin.toNat⟩] ∧
      (∀ k < 3, fget (ENG.page (4 * head.n + k)) ENG.STATUS_H t = 0) ∧ sameBut [.regs, .out, .msixPend, .chans, .commons] s t) ∧
  (∀ us (beams : BitVec 10), headH head.n s = true → Completes (.defLong head us beams) s fun t => hasInt (CHC.page head.n) CHC.iDEF_LONG t ∧
    t.evq = s.evq ++ [⟨0x3004, srcChan head.n, head.n, us % 2 ^ 32, beams.toNat, false⟩] ∧ sameBut [.regs, .evq, .out, .msixPend] s t ∧
    otherFields (CHC.page head.n) [hdrIntStatus] s t) ∧
  (∀ us (beams : BitVec 10), headH head.n s = false → Completes (.defLong head us beams) s fun t => t = s) ∧
  (Completes (.defFifoPop head) s fun t => (t.common head.n).fifo = (s.common head.n).fifo.drop 1 ∧
    (∀ d rest, (s.common head.n).fifo.drop 1 = d :: rest → fget (DFF.page head.n) DFF.BEAMS t = d.beams % 2 ^ DFF.BEAMS.width ∧
      fget (DFF.page head.n) DFF.LENGTH t = min d.bits (2 ^ 32 - 1)) ∧ sameBut [.regs, .commons] s t ∧
    otherFields (DFF.page head.n) [DFF.DEF_FIFO_STATUS_COUNT, DFF.START_CSLOT, DFF.START_FRAME, DFF.LENGTH, DFF.BEAMS, DFF.ENV_MIN] s t) ∧
  (∀ (stream : Fin 2) (word : BitVec 48), fon (CHC.page head.n) CHC.CTRL_EN s = false ∨ fon (CHC.page head.n) CHC.CTRL_WOB_EN s = false →
    Completes (.wobbleWord head stream word) s fun t => t = s) ∧
  (∀ (stream : Fin 2) (word : BitVec 48), fon (CHC.page head.n) CHC.CTRL_EN s = true → fon (CHC.page head.n) CHC.CTRL_WOB_EN s = true →
    crc8 (bitsMsb 40 (word.toNat / 256)) ≠ word.toNat % 256 → Completes (.wobbleWord head stream word) s fun t =>
      (fget (CHC.page head.n) (if stream = 0 then CHC.WOB_ERR0 else CHC.WOB_ERR1) s < 65535 →
        fget (CHC.page head.n) (if stream = 0 then CHC.WOB_ERR0 else CHC.WOB_ERR1) t = fget (CHC.page head.n) (if stream = 0 then CHC.WOB_ERR0 else CHC.WOB_ERR1) s + 1) ∧
      sameBut [.regs] s t ∧ otherFields (CHC.page head.n) [if stream = 0 then CHC.WOB_ERR0 else CHC.WOB_ERR1, hdrSticky] s t) ∧
  (∀ (stream : Fin 2) (word : BitVec 48), fon (CHC.page head.n) CHC.CTRL_EN s = true → fon (CHC.page head.n) CHC.CTRL_WOB_EN s = true →
    crc8 (bitsMsb 40 (word.toNat / 256)) = word.toNat % 256 → slice word.toNat 12 8 = 0 → (s.common head.n).cands.find stream = none →
    Completes (.wobbleWord head stream word) s fun t => fget (CHC.page head.n) (if stream = 0 then CHC.STATUS_WOB_LOCK0 else CHC.STATUS_WOB_LOCK1) t = 1 ∧
      (t.common head.n).cands = (s.common head.n).cands.insert stream ⟨slice word.toNat 47 47, slice word.toNat 46 44, slice word.toNat 43 26, slice word.toNat 25 13⟩ ∧
      (t.common head.n).confirmed = (s.common head.n).confirmed ∧ sameBut [.regs, .commons] s t) ∧
  (∀ (word : BitVec 48) c, fon (CHC.page head.n) CHC.CTRL_EN s = true → fon (CHC.page head.n) CHC.CTRL_WOB_EN s = true →
    crc8 (bitsMsb 40 (word.toNat / 256)) = word.toNat % 256 → slice word.toNat 12 8 = 0 → (s.common head.n).cands.find 0 = some c →
    c.side = slice word.toNat 47 47 → c.layer = slice word.toNat 46 44 → c.track = slice word.toNat 43 26 → slice word.toNat 25 13 = c.slot + 12 →
    (s.common head.n).confirmed = [] → (s.head head.n).ljump = none → (s.head head.n).seek = none → fget (FOC.page head.n) FOC.FOC_CFG_TARGET_LAYER s = c.layer →
    Completes (.wobbleWord head 0 word) s fun t => posValid head.n t = true ∧ posLayer head.n t = c.layer ∧ posTrack head.n t = c.track ∧
      fget (CHC.page head.n) CHC.STATUS_POS_VALID t = 1) ∧
  (Completes (.posLost head) s fun t => posValid head.n t = false ∧ fget (CHC.page head.n) CHC.STATUS_WOB_LOCK0 t = 0 ∧
    fget (CHC.page head.n) CHC.STATUS_WOB_LOCK1 t = 0 ∧ (t.common head.n).confirmed = [] ∧ (t.common head.n).cands = [] ∧
    t.evq = s.evq ++ (if posValid head.n s then [⟨0x3011, srcChan head.n, head.n, posTrack head.n s, posLayer head.n s, false⟩] else []) ∧
    sameBut [.regs, .evq, .out, .msixPend, .commons] s t) ∧
  (Completes (.wobbleNotLocked head) s fun t => fget (CHC.page head.n) hdrFault t = 1 ∧ sameBut [.regs] s t ∧ otherFields (CHC.page head.n) [hdrFault] s t) ∧
  (∀ mode : Fin 8, readingFrame head.n s = true → Completes (.modeCfgWrite head mode) s fun t => hasSticky (CHC.page head.n) CHC.kMODE_REJ t ∧
    sameBut [.regs] s t ∧ otherFields (CHC.page head.n) [hdrSticky] s t) ∧
  (∀ mode : Fin 8, readingFrame head.n s = false → Completes (.modeCfgWrite head mode) s fun t => fget (CHC.page head.n) CHC.MODE_CFG_MODE t = mode ∧
    fget (CHC.page head.n) CHC.STATUS_MODE t = (if 5 ≤ mode.val then 0 else mode) ∧ sameBut [.regs, .chans] s t) ∧
  (∀ mon nrev, frameLocked head.n s = true ∨ fon SPN.page SPN.STATUS_ANGLE_VALID s = true → Completes (.jumpGapStart head mon nrev) s fun t =>
    fget (CHC.page head.n) CHC.STATUS_IN_GAP t = 1 ∧ fget (CHC.page head.n) CHC.N_VALID t = (if nrev.isSome then 1 else 0) ∧
    (∀ n, nrev = some n → fget (CHC.page head.n) CHC.N_REV t = n.toNat) ∧ (∀ b < 8, fget (CHN.page head.n b) CHN.TGT_B_TGT_PEND t = 0) ∧
    (∀ k < 3, fget (LOOP.page (4 * head.n + k)) LOOP.LOOP_STATUS_SWAP_PEND t = 0 ∧ fget (LOOP.page (4 * head.n + k)) LOOP.LOOP_STATUS_BANK t =
      if fon (LOOP.page (4 * head.n + k)) LOOP.LOOP_STATUS_SWAP_PEND s then 1 - fget (LOOP.page (4 * head.n + k)) LOOP.LOOP_STATUS_BANK s
      else fget (LOOP.page (4 * head.n + k)) LOOP.LOOP_STATUS_BANK s) ∧
    (posValid head.n s = true → getLoop (4 * head.n + 1) s = 2 → fon FMT.page FMT.STATUS_LEGACY s = false → s.dec.held = [] →
      (s.head head.n).ljump = none → (s.head head.n).jump = none → (s.head head.n).seek = none → (s.head head.n).align = none →
      (t.head head.n).jump = some (if follows head.n s then 7 else -1) ∧ getMcState head.n t = 4 ∧ getLoop (4 * head.n + 1) t = 4)) ∧
  (∀ mon nrev, frameLocked head.n s = false → fon SPN.page SPN.STATUS_ANGLE_VALID s = false → Completes (.jumpGapStart head mon nrev) s fun t => t = s)

/-- R274 to R277, R286: a calibration runs its sweep, completes or fails. -/
def Obligations.Calibration : Prop := ∀ (s : State) (head : Head),
  (∀ (layer : Fin 8) (al ag : BitVec 16), fget (CLE.page head.n) CLE.CAL_STATUS_STATE s ≠ 1 → calReady head.n 1 layer 0 s = true →
    Completes (.pushPullBalance head layer al ag) s fun t => fget (CLE.page head.n) CLE.CAL_STATUS_STATE t = 2 ∧
      fget (CHC.page head.n) CHC.PP_MEAS_A_L t = al.toNat ∧ fget (CHC.page head.n) CHC.PP_MEAS_A_G t = ag.toNat ∧
      (al.toNat + ag.toNat ≠ 0 → fget (CLE.page head.n) CLE.CAL_RESULT t = min (2 ^ 31 - 1) (al.toNat * 2 ^ 31 / (al.toNat + ag.toNat)) ∧
        t.evq = s.evq ++ [⟨0x3020, calSrc head.n, calSrc head.n, 1, min (2 ^ 31 - 1) (al.toNat * 2 ^ 31 / (al.toNat + ag.toNat)), false⟩]) ∧
      sameBut [.free, .regs, .evq, .commons] s t) ∧
  (∀ c op (layer : Fin 8) (zone : Fin 16), (c, op, zone) ∈ [(Instr.saPresetCal head layer, 2, 0), (.radialTiltCal head layer zone, 3, zone),
      (.tangentialTiltCal head layer zone, 4, zone), (.focusOffsetCal head layer, 5, 0)] →
    fget (CLE.page head.n) CLE.CAL_STATUS_STATE s ≠ 1 → calReady head.n op layer zone s = true →
    Completes c s fun t => fget (CLE.page head.n) CLE.CAL_STATUS_STATE t = 1 ∧ fget (CLE.page head.n) CLE.CAL_CMD_OP t = op ∧
      (t.common head.n).sweep = some { op := op, layer := layer, zone := zone, origin := calGet head.n op layer zone s } ∧
      (t.common head.n).calWrite = some (calGet head.n op layer zone s + (0 - (calPoints head.n s - 1 : Nat)) * calStep head.n op s / 2) ∧
      fget (CLE.page head.n) CLE.CQI_START t = meanCqi head.n s % 2 ^ CLE.CQI_START.width ∧ sameBut [.regs, .evq, .commons] s t) ∧
  (∀ c op (layer : Fin 8) (zone : Fin 16), (c, op, zone) ∈ [(Instr.saPresetCal head layer, 2, 0), (.radialTiltCal head layer zone, 3, zone),
      (.tangentialTiltCal head layer zone, 4, zone), (.focusOffsetCal head layer, 5, 0)] →
    fget (CLE.page head.n) CLE.CAL_STATUS_STATE s ≠ 1 → calReady head.n op layer zone s = false →
    Completes c s fun t => fget (CLE.page head.n) CLE.CAL_STATUS_STATE t = 3 ∧ fget (CLE.page head.n) CLE.CAL_STATUS_CAUSE t = 1 ∧
      t.evq = s.evq ++ [⟨0x3021, calSrc head.n, calSrc head.n, op, 1, false⟩] ∧ sameBut [.regs, .evq, .commons] s t) ∧
  (∀ c (layer : Fin 8) (zone : Fin 16), c ∈ [Instr.saPresetCal head layer, .radialTiltCal head layer zone, .tangentialTiltCal head layer zone,
      .focusOffsetCal head layer, .pushPullBalance head layer 0 0] → fget (CLE.page head.n) CLE.CAL_STATUS_STATE s = 1 → Completes c s fun t => t = s) ∧
  (∀ cqi w, (s.common head.n).sweep = some w → fget (CLE.page head.n) CLE.CAL_STATUS_STATE s = 1 → w.means.length + 1 < calPoints head.n s →
    Completes (.calSweepPoint head cqi false) s fun t => (t.common head.n).sweep = some { w with means := w.means ++ [cqi], again := 0 } ∧
      (t.common head.n).calWrite = some (w.origin + (2 * (w.means.length + 1 : Int) - (calPoints head.n s - 1 : Nat)) * calStep head.n w.op s / 2) ∧
      sameBut [.commons] s t) ∧
  (∀ cqi w, (s.common head.n).sweep = some w → fget (CLE.page head.n) CLE.CAL_STATUS_STATE s = 1 → calPoints head.n s ≤ w.means.length + 1 →
    Completes (.calSweepPoint head cqi false) s fun t => fget (CLE.page head.n) CLE.CAL_STATUS_STATE t = 2 ∧
      (t.common head.n).calWrite = some w.origin ∧ fget (CLE.page head.n) CLE.CQI_BEST t = (w.means ++ [cqi]).foldl max 0 % 2 ^ CLE.CQI_BEST.width ∧
      (∃ r, t.evq = s.evq ++ [⟨0x3020, calSrc head.n, calSrc head.n, fget (CLE.page head.n) CLE.CAL_CMD_OP s % 2 ^ 32, r, false⟩]) ∧
      sameBut [.regs, .evq, .commons] s t) ∧
  (∀ cqi w, (s.common head.n).sweep = some w → fget (CLE.page head.n) CLE.CAL_STATUS_STATE s = 1 → w.again < 3 →
    Completes (.calSweepPoint head cqi true) s fun t => (t.common head.n).sweep = some { w with again := w.again + 1 } ∧ sameBut [.commons] s t) ∧
  (∀ cqi w, (s.common head.n).sweep = some w → fget (CLE.page head.n) CLE.CAL_STATUS_STATE s = 1 → 3 ≤ w.again →
    Completes (.calSweepPoint head cqi true) s fun t => fget (CLE.page head.n) CLE.CAL_STATUS_STATE t = 3 ∧
      fget (CLE.page head.n) CLE.CAL_STATUS_CAUSE t = 2 ∧ (t.common head.n).calWrite = some w.origin ∧ sameBut [.regs, .evq, .commons] s t) ∧
  (∀ cause : Fin 5, cause ≠ 0 → fget (CLE.page head.n) CLE.CAL_STATUS_STATE s = 1 → Completes (.calFail head cause) s fun t =>
    fget (CLE.page head.n) CLE.CAL_STATUS_STATE t = 3 ∧ fget (CLE.page head.n) CLE.CAL_STATUS_CAUSE t = cause ∧
    (∀ w, (s.common head.n).sweep = some w → (t.common head.n).calWrite = some w.origin) ∧
    t.evq = s.evq ++ [⟨0x3021, calSrc head.n, calSrc head.n, fget (CLE.page head.n) CLE.CAL_CMD_OP s % 2 ^ 32, cause, false⟩] ∧
    sameBut [.regs, .evq, .commons] s t)

/-- R200 to R221: the spindle starts, runs, brakes and stops; its losses; the chopper and the bus; and SPINCMD. -/
def Obligations.Spindle : Prop := ∀ s : State,
  (∀ m : PwmSample, fon SPN.page SPN.CTRL_EN s = false → Completes (.pwmPeriod m) s fun t => fget SPN.page SPN.VBUS t = m.mv % 2 ^ 16 ∧
    sameBut [.regs] s t ∧ otherFields SPN.page [SPN.VBUS] s t) ∧
  (∀ m : PwmSample, fon SPN.page SPN.CTRL_EN s = true → Completes (.pwmPeriod m) s fun t => fget SPN.page SPN.VBUS t = m.mv % 2 ^ 16 ∧
    fget SPN.page SPN.SPEED_EST t = ofSigned 32 m.obs ∧ t.spin.obs = m.obs ∧ t.spin.cmp = m.cmp ∧
    (m.usable = true → t.spin.reuse = 0 ∧ t.spin.iq = m.iq ∧ t.spin.id' = m.id') ∧
    (m.usable = false → t.spin.reuse = s.spin.reuse + 1 ∧ t.spin.iq = s.spin.iq ∧ hasSticky SPN.page SPN.kREUSE t) ∧
    fget SPN.page SPN.ANGLE_ANGLE t = (m.angle % 2 ^ 16 + 2 ^ 16 - fget SPN.page SPN.ANGLE_OFS s) % 2 ^ 16 ∧
    (m.usable = false → 8 ≤ s.spin.reuse + 1 → fget SPS.page SPS.IQ_REF t = fget SPS.page SPS.IQ_REF s ∧ fget SPS.page SPS.ID_REF t = fget SPS.page SPS.ID_REF s) ∧
    (m.usable = true → getSpin s = 5 → s.spin.refsOff = false → (fgetI SPS.page SPS.IQ_REF t).natAbs ≤ iMax s) ∧
    sameBut [.regs, .evq, .out, .msixPend, .links, .recs, .engs, .spin] s t) ∧
  (fon SPN.page SPN.CTRL_EN s = true → getSpin s ∈ [0, 6, 7] → fon SPN.page SPN.STATUS_OVERSPEED s = false → Completes .spindleStart s fun t =>
    getSpin t = 1 ∧ t.spin.gates = false ∧ fget SPS.page SPS.IQ_REF t = 0 ∧
    (fget SPN.page SPN.START_CNT s < 65535 → fget SPN.page SPN.START_CNT t = fget SPN.page SPN.START_CNT s + 1) ∧ sameBut [.regs, .spin] s t) ∧
  (∀ rpm edges, getSpin s = 1 → edges = false ∨ rpm.natAbs < 60 → Completes (.catchEnd rpm edges) s fun t => getSpin t = 3 ∧ t.spin.gates = true ∧
    t.spin.startClass = 0 ∧ sameBut [.regs, .spin] s t) ∧
  (∀ rpm : Int, getSpin s = 1 → fon SPN.page SPN.CTRL_CATCH_EN s = true → (handoffRpm s : Int) ≤ rpm → Completes (.catchEnd rpm true) s fun t => getSpin t = 5 ∧
    fget SPN.page SPN.STATUS_OBS_LOCK t = 1 ∧ t.spin.startClass = 1 ∧ t.spin.ramped = rpm * 65536 ∧ fon SPN.page SPN.STATUS_ANGLE_VALID t = false ∧
    sameBut [.regs, .spin] s t) ∧
  (∀ rpm : Int, getSpin s = 1 → fon SPN.page SPN.CTRL_CATCH_EN s = true → rpm ≤ -(handoffRpm s : Int) → Completes (.catchEnd rpm true) s fun t => getSpin t = 2 ∧
    fget SPN.page SPN.STATUS_OBS_LOCK t = 1 ∧ t.spin.zeroVector = false ∧ t.spin.startClass = 3 ∧ sameBut [.regs, .spin] s t) ∧
  (∀ rpm : Int, getSpin s = 1 → 60 ≤ rpm.natAbs → rpm.natAbs < handoffRpm s ∨ fon SPN.page SPN.CTRL_CATCH_EN s = false →
    Completes (.catchEnd rpm true) s fun t => getSpin t = 2 ∧ t.spin.zeroVector = true ∧ t.spin.startClass = 2 ∧ fget SPN.page SPN.STATUS_OBS_LOCK t = 0 ∧
      sameBut [.regs, .spin] s t) ∧
  (getSpin s = 3 → Completes .alignEnd s fun t => getSpin t = 4 ∧ sameBut [.regs] s t ∧ otherFields SPN.page [SPN.STATUS_STATE] s t) ∧
  (getSpin s = 4 → Completes .handoff s fun t => getSpin t = 5 ∧ fget SPN.page SPN.STATUS_OBS_LOCK t = 1 ∧ t.spin.ramped = handoffRpm s * 65536 ∧
    sameBut [.regs, .spin] s t) ∧
  (getSpin s = 5 → Completes .speedOk s fun t => fget SPN.page SPN.STATUS_SPEED_OK t = 1 ∧ hasInt SPN.page SPN.iSPEED_OK t ∧
    t.evq = s.evq ++ [⟨0x2100, srcSpin, 0, spinRpm s % 2 ^ 32, s.spin.startClass % 2 ^ 32, false⟩] ∧ sameBut [.regs, .evq, .out, .msixPend] s t) ∧
  (∀ cause rpm, Completes (.startFail cause rpm) s fun t => getSpin t = 0 ∧ t.spin.gates = false ∧
    fget SPN.page hdrFault t = (if cause = .notStopped then 2 else 1) ∧ hasInt SPN.page SPN.iSTART_FAIL t ∧
    t.evq = s.evq ++ [⟨0x2101, srcSpin, 0, if cause = .notStopped then 2 else 1, rpm % 2 ^ 32, false⟩] ∧ sameBut [.regs, .evq, .out, .msixPend, .spin] s t) ∧
  (getSpin s ∈ [1, 2, 3, 4, 5] → fon SPN.page SPN.CTRL_BRAKE_EN s = true → Completes .spindleStop s fun t => getSpin t = 6 ∧
    fget SPN.page SPN.STATUS_ANGLE_VALID t = 0 ∧ fget SPN.page SPN.STATUS_SPEED_OK t = 0 ∧ t.spin.stopAt = s.time ∧ sameBut [.regs, .spin] s t) ∧
  (getSpin s ∈ [1, 2, 3, 4, 5] → fon SPN.page SPN.CTRL_BRAKE_EN s = false → Completes .spindleStop s fun t => getSpin t = 7 ∧
    t.spin.gates = false ∧ t.spin.coasting = true ∧ fget SPN.page SPN.STATUS_ANGLE_VALID t = 0 ∧ sameBut [.regs, .spin] s t) ∧
  (∀ ms, getSpin s ∈ [0, 6, 7, 8] → Completes (.spindleStopped ms) s fun t => getSpin t = (if getSpin s = 8 then 8 else 0) ∧ t.spin.gates = false ∧
    t.spin.rest = true ∧ hasInt SPN.page SPN.iSTOPPED t ∧
    t.evq = s.evq ++ [⟨0x2109, srcSpin, 0, b2n (getSpin s = 7 || s.spin.coasting), ms % 2 ^ 32, false⟩] ∧ sameBut [.regs, .evq, .out, .msixPend, .spin] s t) ∧
  (s.spin.obs.natAbs < 960 → Completes .ovsClr s fun t => fget SPN.page SPN.STATUS_OVERSPEED t = 0 ∧
    (getSpin s = 8 → getSpin t = 0 ∧ t.spin.gates = false) ∧ (getSpin s ≠ 8 → otherFields SPN.page [SPN.STATUS_OVERSPEED] s t) ∧ sameBut [.regs, .spin] s t) ∧
  (960 ≤ s.spin.obs.natAbs → Completes .ovsClr s fun t => t = s) ∧
  (∀ rpm comparator, Completes (.overspeed rpm comparator) s fun t => getSpin t = 8 ∧ fget SPN.page SPN.STATUS_OVERSPEED t = 1 ∧
    fget SPN.page SPN.STATUS_SPEED_OK t = 0 ∧ fget SPN.page hdrFault t = 6 ∧ hasInt SPN.page SPN.iOVERSPEED t ∧ writing 0 t = false ∧ writing 1 t = false ∧
    t.evq.getLast? = some ⟨0x2106, srcSpin, 0, rpm % 2 ^ 32, b2n comparator, false⟩ ∧ sameBut [.regs, .evq, .out, .msixPend, .links, .recs] s t) ∧
  (∀ obs cmp, getSpin s ≠ 8 → s.spin.losses.filter (fun u => decide (s.time ≤ u + 1500000000)) = [] → fget SPN.page SPN.SPEED_EFF_RPM s ≠ 0 →
    fon SPN.page SPN.CTRL_EN s = true → fon SPN.page SPN.STATUS_OVERSPEED s = false → Completes (.observerLost obs cmp) s fun t => getSpin t = 1 ∧
      t.spin.gates = false ∧ fget SPN.page SPN.STATUS_ANGLE_VALID t = 0 ∧ hasInt SPN.page SPN.iOBS_LOST t ∧ writing 0 t = false ∧ writing 1 t = false ∧
      t.evq.getLast? = some ⟨0x2102, srcSpin, 0, obs % 2 ^ 32, cmp % 2 ^ 32, false⟩) ∧
  (∀ obs cmp, getSpin s ≠ 8 → 2 ≤ (s.spin.losses.filter (fun u => decide (s.time ≤ u + 1500000000))).length → Completes (.observerLost obs cmp) s fun t =>
    getSpin t = 0 ∧ fget SPN.page hdrFault t = 3 ∧ t.spin.gates = false ∧ hasInt SPN.page SPN.iOBS_LOST t) ∧
  (Completes .se8Stopped s fun t => fget SPS.page SPS.IQ_REF t = 0 ∧ fget SPS.page SPS.ID_REF t = 0 ∧ fget SPN.page hdrFault t = 8 ∧
    fget SPN.page SPN.STATUS_SPEED_OK t = 0 ∧ getSpin t = (if getSpin s = 0 ∨ getSpin s = 8 then getSpin s else 7) ∧ writing 0 t = false ∧ writing 1 t = false ∧
    t.evq.getLast? = some ⟨0x210A, srcSpin, 0, engState 8 s % 2 ^ 32, spinRpm s % 2 ^ 32, false⟩ ∧
    sameBut [.regs, .evq, .out, .msixPend, .links, .recs, .spin] s t) ∧
  (∀ mv, fon SPN.page SPN.CTRL_EN s = true → fon SPN.page SPN.CTRL_CHOP_EN s = true → fon SPN.page SPN.STATUS_CHOP_FAULT s = false →
    Completes (.brkGOn mv) s fun t => t.spin = { s.spin with brkG := true } ∧ fget SPN.page SPN.VBUS t = mv % 2 ^ 16 ∧ sameBut [.regs, .spin] s t ∧
      otherFields SPN.page [SPN.VBUS] s t) ∧
  (∀ mv, fon SPN.page SPN.CTRL_EN s = false ∨ fon SPN.page SPN.CTRL_CHOP_EN s = false ∨ fon SPN.page SPN.STATUS_CHOP_FAULT s = true →
    Completes (.brkGOn mv) s fun t => sameBut [.regs] s t ∧ otherFields SPN.page [SPN.VBUS] s t) ∧
  (∀ mv, Completes (.brkGOff mv) s fun t => t.spin = { s.spin with brkG := false, busHold := false } ∧ fget SPN.page SPN.VBUS t = mv % 2 ^ 16 ∧
    sameBut [.regs, .spin] s t ∧ otherFields SPN.page [SPN.VBUS] s t) ∧
  (∀ shorted ma, Completes (.chopperFault shorted ma) s fun t => t.spin = { s.spin with brkG := false } ∧ fget SPN.page SPN.STATUS_CHOP_FAULT t = 1 ∧
    fget SPN.page hdrFault t = (if shorted then 5 else 4) ∧ hasInt SPN.page SPN.iCHOP_FAULT t ∧ fget SPN.page SPN.CHOP_I t = ma % 2 ^ 16 ∧
    t.evq = s.evq ++ [⟨0x2103, srcSpin, 0, if shorted then 5 else 4, ma % 2 ^ 32, false⟩] ∧ sameBut [.regs, .evq, .out, .msixPend, .spin] s t) ∧
  (∀ mv, s.spin.busHold = false → mv < 15000 → Completes (.busOv mv) s fun t => t.spin.busHold = true ∧ hasInt SPN.page SPN.iBUS_OV t ∧
    0 ≤ fgetI SPS.page SPS.IQ_REF t ∧ t.spin.gates = s.spin.gates ∧
    t.evq = s.evq ++ [⟨0x2105, srcSpin, 0, mv, spinRpm s % 2 ^ 32, false⟩] ∧ sameBut [.regs, .evq, .out, .msixPend, .spin] s t) ∧
  (∀ mv, 15000 ≤ mv → Completes (.busOv mv) s fun t => t.spin.gates = false ∧ fget SPS.page SPS.IQ_REF t = 0 ∧ fget SPN.page hdrFault t = 7 ∧
    getSpin t = (if getSpin s = 0 ∨ getSpin s = 8 then getSpin s else 7) ∧ sameBut [.regs, .evq, .out, .msixPend, .spin] s t) ∧
  (∀ raw : BitVec 16, fon SPN.page SPN.SPINCMD_CFG_EN s = false → Completes (.spincmdChange raw) s fun t => t = s) ∧
  (∀ raw : BitVec 16, fon SPN.page SPN.SPINCMD_CFG_EN s = true → Completes (.spincmdChange raw) s fun t =>
    fget SPN.page SPN.SPINCMD_VAL_RAW t = raw.toNat ∧ fget SPN.page SPN.SPINCMD_VAL_CMD_RPM t = spincmdRpm raw.toNat s ∧
    (∀ old, s.spin.ceiling = some old → old < (if spincmdRpm raw.toNat s < old then old - spincmdRpm raw.toNat s else spincmdRpm raw.toNat s - old) * 100 →
      t.spin.ceiling = some (spincmdRpm raw.toNat s) ∧ hasInt SPN.page SPN.iSPINCMD_CHG t ∧
      t.evq = s.evq ++ [⟨0x2108, srcSpin, 0, spincmdRpm raw.toNat s, old % 2 ^ 32, false⟩]) ∧
    (spincmdRpm raw.toNat s < fget SPN.page SPN.SPINCMD_CFG_STOP_RPM s → fget SPN.page SPN.STATUS_SPINCMD_STOP t = 1 ∧
      (fon SPN.page SPN.STATUS_SPINCMD_STOP s = false → getSpin s = 5 → getSpin t = if fon SPN.page SPN.CTRL_BRAKE_EN s then 6 else 7)) ∧
    (fget SPN.page SPN.SPINCMD_CFG_STOP_RPM s + 100 < spincmdRpm raw.toNat s → fget SPN.page SPN.STATUS_SPINCMD_STOP t = 0) ∧
    sameBut [.regs, .evq, .out, .msixPend, .spin] s t) ∧
  (∀ raw : BitVec 16, fon SPN.page SPN.SPINCMD_CFG_EN s = true → Completes (.spincmdLost raw) s fun t => fget SPN.page SPN.STATUS_SPINCMD_LOST t = 1 ∧
    hasInt SPN.page SPN.iSPINCMD_LOST t ∧ fget SPN.page SPN.SPINCMD_VAL_RAW t = raw.toNat ∧
    t.spin.ceiling = (if fon SPN.page SPN.SPINCMD_CFG_LOSS_ACT s then s.spin.ceiling else none) ∧
    t.evq = s.evq ++ [⟨0x2107, srcSpin, 0, fget SPN.page SPN.SPINCMD_CFG_FORM s % 2 ^ 32, raw.toNat, false⟩] ∧ sameBut [.regs, .evq, .out, .msixPend, .spin] s t) ∧
  (Completes .spincmdRecovered s fun t => fget SPN.page SPN.STATUS_SPINCMD_LOST t = 0 ∧ sameBut [.regs] s t ∧
    otherFields SPN.page [SPN.STATUS_SPINCMD_LOST] s t)

/-- R226 to R231: a sled stops hard, stalls, homes and meets its limit switches. -/
def Obligations.Sleds : Prop := ∀ (s : State) (head : Head),
  (Completes (.sledStop head) s fun t => (t.sled head.n).held = some (fgetI (SLD.page head.n) SLD.POS s) ∧ (t.sled head.n).vel = 0 ∧
    (t.sled head.n).homing = .none ∧ fget (SLD.page head.n) SLD.POS t = fget (SLD.page head.n) SLD.POS s ∧
    fget (SLD.page head.n) SLD.LOAD_I_ACT t = fget (SLD.page head.n) SLD.CUR_CFG_I_HOLD s ∧
    (2000 * umPerS < |(s.sled head.n).vel| → fget (SLD.page head.n) SLD.STATUS_HOMED t = 0) ∧
    (¬2000 * umPerS < |(s.sled head.n).vel| → fget (SLD.page head.n) SLD.STATUS_HOMED t = fget (SLD.page head.n) SLD.STATUS_HOMED s) ∧
    sameBut [.regs, .pgs, .sleds] s t) ∧
  (∀ x, (s.sled head.n).held = some x → pgMoving (sledCh head.n) s = false → engState (9 + head.n) s ∉ [4, 5] → Completes (.hardStopRest head) s fun t =>
    (t.sled head.n).held = none ∧ (t.sled head.n).at' = x ∧ getSledSt head.n t = (if getSledSt head.n s ∈ [2, 3] then 1 else getSledSt head.n s) ∧
    sameBut [.regs, .sleds] s t ∧ otherFields (SLD.page head.n) [SLD.STATUS_STATE, SLD.OFS] s t) ∧
  ((s.sled head.n).held = none ∨ pgMoving (sledCh head.n) s = true ∨ engState (9 + head.n) s ∈ [4, 5] → Completes (.hardStopRest head) s fun t => t = s) ∧
  (∀ la, getSledSt head.n s ≠ 5 → Completes (.sledStall head la) s fun t => getSledSt head.n t = 5 ∧ fget (SLD.page head.n) SLD.STATUS_HOMED t = 0 ∧
    (t.sled head.n).vel = 0 ∧ fget (SLD.page head.n) hdrFault t = 6 ∧ hasInt (SLD.page head.n) SLD.iSTALL t ∧ (t.head head.n).seek = none ∧
    (∃ later, t.evq = s.evq ++ ⟨0x2202, srcEng (9 + head.n), head.n, la % 2 ^ 32, fget (SLD.page head.n) SLD.LOAD_I_ACT s % 2 ^ 32, false⟩ :: later) ∧
    sameBut [.regs, .evq, .out, .msixPend, .pgs, .heads, .sleds] s t) ∧
  (∀ la, getSledSt head.n s = 5 → Completes (.sledStall head la) s fun t => t = s) ∧
  (∀ (coil : Fin 2) ma, Completes (.sledCoilFault head coil ma) s fun t => getSledSt head.n t = 7 ∧ (t.sled head.n).bridges = false ∧
    (t.sled head.n).vel = 0 ∧ fget (SLD.page head.n) hdrFault t = 5 ∧ hasInt (SLD.page head.n) SLD.iCOIL_FAULT t ∧
    t.evq = s.evq ++ [⟨0x2205, srcEng (9 + head.n), head.n, coil, ma % 2 ^ 32, false⟩] ∧ sameBut [.regs, .evq, .out, .msixPend, .sleds] s t ∧
    otherFields (SLD.page head.n) [SLD.STATUS_STATE, hdrFault, hdrIntStatus] s t) ∧
  (Completes (.sledEngineStopped head) s fun t => (t.sled head.n).held = some (fgetI (SLD.page head.n) SLD.POS s) ∧ (t.sled head.n).vel = 0 ∧
    writing head.n t = false ∧ sameBut [.regs, .evq, .out, .msixPend, .links, .recs, .pgs, .sleds] s t) ∧
  (∀ cause : Fin 5, cause ≠ 0 → Completes (.homingFail head cause) s fun t => getSledSt head.n t = 7 ∧ (t.sled head.n).homing = .none ∧
    (t.sled head.n).vel = 0 ∧ fget (SLD.page head.n) hdrFault t = cause ∧ hasInt (SLD.page head.n) SLD.iHOME_FAIL t ∧
    t.evq = s.evq ++ [⟨0x2201, srcEng (9 + head.n), head.n, cause, sledUm head.n s % 2 ^ 32, false⟩] ∧ sameBut [.regs, .evq, .out, .msixPend, .sleds] s t ∧
    otherFields (SLD.page head.n) [SLD.STATUS_STATE, hdrFault, hdrIntStatus] s t) ∧
  (∀ outer, (s.sled head.n).homing = .none → (outer = true → 0 ≤ (s.sled head.n).vel) → (outer = false → (s.sled head.n).vel ≤ 0) →
    Completes (.limitTrip head outer) s fun t => getSledSt head.n t = 6 ∧ fget (SLD.page head.n) SLD.STATUS_HOMED t = 0 ∧ (t.sled head.n).vel = 0 ∧
      fget (SLD.page head.n) hdrFault t = 7 ∧ hasInt (SLD.page head.n) SLD.iLIMIT_TRIP t ∧ writing head.n t = false ∧
      fget (SLD.page head.n) (if outer then SLD.STATUS_OUTER_SW else SLD.STATUS_HOME_SW) t = 1 ∧
      (∃ later, t.evq = s.evq ++ ⟨0x2203, srcEng (9 + head.n), head.n, b2n outer, sledUm head.n s % 2 ^ 32, false⟩ :: later) ∧
      sameBut [.regs, .evq, .out, .msixPend, .links, .recs, .pgs, .sleds] s t) ∧
  ((s.sled head.n).homing ≠ .none → Completes (.limitTrip head true) s fun t => getSledSt head.n t = 7 ∧ fget (SLD.page head.n) hdrFault t = 3 ∧
    (t.sled head.n).homing = .none) ∧
  (Completes (.switchGlitch head) s fun t => hasSticky (SLD.page head.n) SLD.kGLITCH t ∧
    (fget (SLD.page head.n) SLD.GLITCH_CNT s < 65535 → fget (SLD.page head.n) SLD.GLITCH_CNT t = fget (SLD.page head.n) SLD.GLITCH_CNT s + 1) ∧
    (t.sled head.n).edges = (s.sled head.n).edges + (if (s.sled head.n).homing = .approach then 2 else 0) ∧ sameBut [.regs, .sleds] s t ∧
    otherFields (SLD.page head.n) [SLD.GLITCH_CNT, hdrSticky] s t) ∧
  (fon (SLD.page head.n) SLD.CTRL_EN s = true → fon PWR.page PWR.STATUS_VMOT_WARN s = false → Completes (.home head) s fun t => getSledSt head.n t = 4 ∧
    (t.sled head.n).homing = (if fon (SLD.page head.n) SLD.STATUS_HOME_SW s then .release else .search) ∧ (t.sled head.n).held = none ∧
    (t.sled head.n).bridges = true ∧ fget (SLD.page head.n) SLD.STATUS_HOMED t = fget (SLD.page head.n) SLD.STATUS_HOMED s ∧
    fget (SLD.page head.n) SLD.LOAD_I_ACT t = fget (SLD.page head.n) SLD.CUR_CFG_I_RUN s ∧ sameBut [.regs, .sleds] s t) ∧
  (fon (SLD.page head.n) SLD.CTRL_EN s = true → fon PWR.page PWR.STATUS_VMOT_WARN s = true → Completes (.home head) s fun t =>
    t.sled head.n = { s.sled head.n with homeHeld := true } ∧ sameBut [.sleds] s t) ∧
  ((s.sled head.n).homing = .search → Completes (.homeSwitchEdge head true) s fun t => (t.sled head.n).homing = .backoff ∧
    (t.sled head.n).goal = some (restPoint (s.sled head.n) + (fget (SLD.page head.n) SLD.HOME_CFG2_BACKOFF s : Rat) * 256) ∧
    fget (SLD.page head.n) SLD.STATUS_HOME_SW t = 1 ∧ sameBut [.regs, .sleds] s t ∧ otherFields (SLD.page head.n) [SLD.STATUS_HOME_SW] s t) ∧
  ((s.sled head.n).homing = .release → (s.sled head.n).goal = none → Completes (.homeSwitchEdge head false) s fun t => (t.sled head.n).homing = .release ∧
    (t.sled head.n).goal = some ((s.sled head.n).at' + (fget (SLD.page head.n) SLD.HOME_CFG2_BACKOFF s : Rat) * 256) ∧
    fget (SLD.page head.n) SLD.STATUS_HOME_SW t = 0 ∧ sameBut [.regs, .sleds] s t ∧ otherFields (SLD.page head.n) [SLD.STATUS_HOME_SW] s t) ∧
  ((s.sled head.n).homing = .approach → Completes (.homeSwitchEdge head true) s fun t => (t.sled head.n).homing = .rebase ∧ (t.sled head.n).goal = none ∧
    (t.sled head.n).lat = (s.sled head.n).at' - (s.sled head.n).vel * ((nz (fget (SLD.page head.n) SLD.SW_CFG_DEB_US s) : Rat) * (4 / 10)) ∧
    fget (SLD.page head.n) SLD.HOME_LAT t = ofSigned 32 (t.sled head.n).lat.floor ∧
    (fget (SLD.page head.n) SLD.SW_CFG_CHATTER_MAX s < (s.sled head.n).edges + 1 → hasInt (SLD.page head.n) SLD.iCHATTER t ∧
      t.evq = s.evq ++ [⟨0x2204, srcEng (9 + head.n), head.n, ((s.sled head.n).edges + 1) % 2 ^ 32, fget (SLD.page head.n) SLD.SW_CFG_CHATTER_MAX s % 2 ^ 32, false⟩]) ∧
    sameBut [.regs, .evq, .out, .msixPend, .sleds] s t)

/-- R179, R206, R244, R247, R251, R255, R256, R259 to R264, R273: a beam's timing and frame lock, its marks, frames and slots, its quality, and the spindle's target. -/
def Obligations.BeamChannels : Prop := ∀ (s : State) (head : Head) (beam : Fin 8),
  (∀ rpm : BitVec 13, fon FMT.page FMT.STATUS_LEGACY s = false → Completes (.targetWrite rpm false) s fun t => fget SPN.page SPN.TARGET_RPM t = rpm.toNat ∧
    fget SPN.page SPN.TARGET_SPD_MODE t = 0 ∧ t.spin = { s.spin with wanted := min rpm.toNat 7200 } ∧ (7200 < rpm.toNat → hasSticky SPN.page SPN.kTGT_CLAMP t) ∧
    (recording 0 s = false → recording 1 s = false → s.spin.ceiling = none → s.spin.writeNext = false →
      fget SPN.page SPN.SPEED_EFF_RPM t = min rpm.toNat 7200) ∧ sameBut [.regs, .spin] s t ∧
    otherFields SPN.page [SPN.TARGET_RPM, SPN.TARGET_SPD_MODE, hdrSticky, SPN.SPEED_EFF_RPM, SPN.SPEED_EFF_CEIL_ACT] s t) ∧
  (∀ rpm : BitVec 13, fon FMT.page FMT.STATUS_LEGACY s = false → Completes (.targetWrite rpm true) s fun t => fget SPN.page SPN.TARGET_RPM t = rpm.toNat ∧
    fget SPN.page SPN.TARGET_SPD_MODE t = 1 ∧ sameBut [.regs] s t ∧ otherFields SPN.page [SPN.TARGET_RPM, SPN.TARGET_SPD_MODE] s t) ∧
  (∀ (rms : BitVec 16) slot, fon (CHN.page head.n beam) CHN.CTRL_EN s = true → recording head.n s = false → fon (CHN.page head.n beam) CHN.STATUS_TLOCK s = false →
    rms.toNat < fget (CHN.page head.n beam) CHN.LOCK_CFG_LOCK_THR s → Completes (.tedWindow head beam rms slot) s fun t =>
      fget (CHN.page head.n beam) CHN.TED_RMS t = rms.toNat ∧ (t.chan head.n beam).goodWin = (s.chan head.n beam).goodWin + 1 ∧
      fget (CHN.page head.n beam) CHN.STATUS_TLOCK t = (if 3 ≤ (s.chan head.n beam).goodWin then 1 else 0) ∧ sameBut [.regs, .chans] s t ∧
      otherFields (CHN.page head.n beam) [CHN.TED_RMS, CHN.STATUS_TLOCK] s t) ∧
  (∀ (rms : BitVec 16) slot, fon (CHN.page head.n beam) CHN.CTRL_EN s = true → recording head.n s = false → fon (CHN.page head.n beam) CHN.STATUS_TLOCK s = true →
    beamHolds head.n beam s = false → 1 ≤ (s.chan head.n beam).badWin → fget (CHN.page head.n beam) CHN.LOCK_CFG_UNLOCK_THR s < rms.toNat →
    Completes (.tedWindow head beam rms slot) s fun t => fget (CHN.page head.n beam) CHN.STATUS_TLOCK t = 0 ∧ fget (CHN.page head.n beam) CHN.STATUS_FLOCK t = 0 ∧
      fget (CHN.page head.n beam) CHN.STATUS_ADAPTING t = 0 ∧ hasInt (CHN.page head.n beam) CHN.iTLOCK_LOST t ∧
      (∃ later, t.evq = s.evq ++ ⟨0x3001, srcChan head.n, beamId head.n beam, rms.toNat, slot % 2 ^ 32, false⟩ :: later) ∧
      sameBut [.regs, .evq, .out, .msixPend, .chans] s t) ∧
  (∀ (rms : BitVec 16) slot, fon (CHN.page head.n beam) CHN.CTRL_EN s = false ∨ recording head.n s = true ∨
      (fon (CHN.page head.n beam) CHN.STATUS_TLOCK s = true ∧ beamHolds head.n beam s = true) → Completes (.tedWindow head beam rms slot) s fun t =>
    fget (CHN.page head.n beam) CHN.TED_RMS t = rms.toNat ∧ sameBut [.regs] s t ∧ otherFields (CHN.page head.n beam) [CHN.TED_RMS] s t) ∧
  (∀ frame, Completes (.acquisitionFailed head beam frame) s fun t => fget (CHN.page head.n beam) hdrFault t = (if frame then 2 else 1) ∧
    t.evq = s.evq ++ [⟨0x3007, srcChan head.n, beamId head.n beam, if frame then 2 else 1, fget (ACQ.page head.n) ACQ.ACQ_CFG_ACQ_REVS s % 2 ^ 32, false⟩] ∧
    sameBut [.regs, .evq] s t) ∧
  ((s.chan head.n beam).stepped = false → fon (CHN.page head.n beam) CHN.STATUS_TLOCK s = true → Completes (.gainStep head beam) s fun t =>
    t.out = s.out ++ [.htxMsg head.n 2 (s.link head.n).tag (beam.val * 2 ^ 236 + (quarterDb (s.chan head.n beam).gain % 256).toNat * 2 ^ 228)] ∧
    (t.chan head.n beam).gainStep = some (quarterDb (s.chan head.n beam).gain) ∧ (t.chan head.n beam).stepped = true ∧ sameBut [.regs, .out, .links, .chans] s t) ∧
  ((s.chan head.n beam).stepped = true ∨ fon (CHN.page head.n beam) CHN.STATUS_TLOCK s = false → Completes (.gainStep head beam) s fun t => t = s) ∧
  (Completes (.eqReset head beam) s fun t => (∀ i < 16, fget (CHN.page head.n beam) (CHN.EQ_TAP_EVEN.ix i) t = (CHN.EQ_TAP_EVEN.ix i).reset (CHN.page head.n beam) s.prof ∧
    fget (CHN.page head.n beam) (CHN.EQ_TAP_ODD.ix i) t = (CHN.EQ_TAP_ODD.ix i).reset (CHN.page head.n beam) s.prof) ∧ sameBut [.regs] s t ∧
    otherFields (CHN.page head.n beam) ((List.range 16).map CHN.EQ_TAP_EVEN.ix ++ (List.range 16).map CHN.EQ_TAP_ODD.ix) s t) ∧
  (∀ secondary cands sheltered, fon (CHN.page head.n beam) CHN.STATUS_FLOCK s = false ∨ recording head.n s = true →
    Completes (.syncMark head beam secondary cands sheltered) s fun t => fget (CHC.page head.n) CHC.STATUS_IN_GAP t = 0 ∧ sameBut [.regs] s t ∧
      otherFields (CHC.page head.n) [CHC.STATUS_IN_GAP] s t) ∧
  (∀ secondary cands sheltered c, fon (CHN.page head.n beam) CHN.STATUS_FLOCK s = true → recording head.n s = false →
    bestMark (fget (CHN.page head.n beam) CHN.SYNC_CFG_SYNC_ERR s) (syncWin head.n beam s) cands = some c → c.offset = 0 → (s.chan head.n beam).prov = none →
    c.ident.val = identOf secondary (mapFrame head.n s) → Completes (.syncMark head beam secondary cands sheltered) s fun t =>
      fget (CHN.page head.n beam) CHN.STATUS_FLY_RUN t = 0 ∧ (t.chan head.n beam).marked = true ∧ (t.chan head.n beam).idRun = 0 ∧
      (fget (CHN.page head.n beam) CHN.SYNC_FOUND s < 2 ^ 32 - 1 → fget (CHN.page head.n beam) CHN.SYNC_FOUND t = fget (CHN.page head.n beam) CHN.SYNC_FOUND s + 1) ∧
      fget (CHC.page head.n) CHC.STATUS_IN_GAP t = 0 ∧ sameBut [.regs, .evq, .out, .msixPend, .chans] s t) ∧
  (∀ secondary cands sheltered c, fon (CHN.page head.n beam) CHN.STATUS_FLOCK s = true → recording head.n s = false →
    bestMark (fget (CHN.page head.n beam) CHN.SYNC_CFG_SYNC_ERR s) (syncWin head.n beam s) cands = some c → c.offset ≠ 0 →
    (s.chan head.n beam).prov = some c.offset → Completes (.syncMark head beam secondary cands sheltered) s fun t =>
      (t.chan head.n beam).prov = none ∧ fget (CHN.page head.n beam) CHN.STATUS_PROV t = 0 ∧ hasInt (CHN.page head.n beam) CHN.iSLIP t ∧
      ∃ later, t.evq = s.evq ++ ⟨0x3003, srcChan head.n, beamId head.n beam, ofSigned 32 c.offset, mapFrame head.n s % 2 ^ 32, false⟩ :: later) ∧
  (∀ secondary cands, fon (CHN.page head.n beam) CHN.STATUS_FLOCK s = true → recording head.n s = false →
    bestMark (fget (CHN.page head.n beam) CHN.SYNC_CFG_SYNC_ERR s) (syncWin head.n beam s) cands = none →
    nz (fget (CHN.page head.n beam) CHN.SYNC_CFG_FLY_MAX s) ≤ fget (CHN.page head.n beam) CHN.STATUS_FLY_RUN s + 1 →
    Completes (.syncMark head beam secondary cands false) s fun t => fget (CHN.page head.n beam) CHN.STATUS_FLOCK t = 0 ∧ hasInt (CHN.page head.n beam) CHN.iFLOCK_LOST t ∧
      t.evq = s.evq ++ [⟨0x3002, srcChan head.n, beamId head.n beam, 1, fget (CHC.page head.n) CHC.CSLOT s % 2 ^ 32, false⟩]) ∧
  (fon (CHN.page head.n beam) CHN.STATUS_TLOCK s = true → fon (CHN.page head.n beam) CHN.STATUS_FLOCK s = false → Completes (.flockGained head beam) s fun t =>
    fget (CHN.page head.n beam) CHN.STATUS_FLOCK t = 1 ∧ fget (CHN.page head.n beam) CHN.STATUS_FLY_RUN t = 0 ∧ hasInt (CHN.page head.n beam) CHN.iFLOCK_GAINED t ∧
    (beam = 0 → fget (CHC.page head.n) CHC.STATUS_FLOCK_D0 t = 1) ∧ (t.chan head.n beam).prov = none ∧ sameBut [.regs, .out, .msixPend, .chans] s t) ∧
  (∀ rf s', s' = rfSamples head.n rf s → fon (CHN.page head.n beam) CHN.CTRL_EN s' = true → recording head.n s' = false → fget (CHC.page head.n) CHC.STATUS_MODE s' = 0 →
    Completes (.frameDelivery head beam rf) s fun t => (t.chan head.n beam).outs = (s'.chan head.n beam).outs.drop 1680 ∧
      ((s.head head.n).discard = true → t.frames = s.frames) ∧
      ((s.head head.n).discard = false → ∃ fr, t.frames = s.frames ++ [fr] ∧ fr.psa = beamPsa head.n beam s' ∧ fr.frame = mapFrame head.n s' ∧ fr.llrs.length = 1536 ∧
        fr.flags.length = 192 ∧ (fon (CHN.page head.n beam) CHN.STATUS_FLOCK s' = false → (∀ l ∈ fr.llrs, l = 0) ∧ ∀ f ∈ fr.flags, f = true)) ∧
      sameBut [.regs, .chans, .commons, .frames] s t) ∧
  (∀ level env ref, recording head.n s = false → Completes (.frameSlotEnd head beam level env ref) s fun t =>
    fget (CHN.page head.n beam) CHN.STATUS_BLANK t = b2n (!(s.chan head.n beam).marked && decide (level < fget (CHN.page head.n beam) CHN.DEF_CFG2_BLANK_THR s)) ∧
    fget (CHN.page head.n beam) CHN.ENV_ENV_NOW t = env % 2 ^ 16 ∧ (t.chan head.n beam).marked = false ∧
    (beam = 0 → fget (CHC.page head.n) CHC.STATUS_IN_GAP t = 0 ∧ fget (CHC.page head.n) CHC.FSLOT t = (fget (CHC.page head.n) CHC.FSLOT s + 1) % 2 ^ 13) ∧
    sameBut [.regs, .chans, .frames, .blanks] s t) ∧
  (∀ mse : BitVec 32, Completes (.cqiWindow head beam mse) s fun t => fget (CHN.page head.n beam) CHN.MSE t = mse.toNat ∧
    fget (CHN.page head.n beam) CHN.CQI t = cqiOf (targetPower (s.chan head.n beam)) mse.toNat ∧
    fget (CHN.page head.n beam) CHN.CQI_MIN t = min (fget (CHN.page head.n beam) CHN.CQI_MIN s) (cqiOf (targetPower (s.chan head.n beam)) mse.toNat) ∧
    (t.chan head.n beam).lastMse = mse.toNat ∧
    (cqiOf (targetPower (s.chan head.n beam)) mse.toNat < fget (CHN.page head.n beam) CHN.CQI_CFG_CQI_FLOOR s → (s.chan head.n beam).lowCqi = false →
      hasInt (CHN.page head.n beam) CHN.iCQI_LOW t ∧ ∃ later, t.evq = s.evq ++ ⟨0x3006, srcChan head.n, beamId head.n beam,
        cqiOf (targetPower (s.chan head.n beam)) mse.toNat, fget (CHN.page head.n beam) CHN.CQI_CFG_CQI_FLOOR s % 2 ^ 32, false⟩ :: later) ∧
    sameBut [.regs, .evq, .out, .msixPend, .chans] s t)

/-- R11, R128, R605 to R617: accesses to the register window, shown on the spindle page; _LO and _HI pairs; bus errors; halted cores; and an engine's register access. -/
def Obligations.RegisterWindow : Prop := ∀ s : State,
  (s.dev.hold = none → fon STL.page STL.STATUS_FROZEN s = false → modeNow s ≠ 4 → ∀ req : Fin 28, s.obs.loHeld.find req = none →
    (∀ v : BitVec 64, Completes (.registerWrite req 0x040064 4 v) s fun t => fget SPN.page SPN.MOTOR2_LS t = v.toNat % 2 ^ 16 ∧
      fget SPN.page SPN.MOTOR2_KE t = v.toNat / 2 ^ 16 % 2 ^ 16 ∧ sameBut [.regs] s t ∧ otherFields SPN.page [SPN.MOTOR2_LS, SPN.MOTOR2_KE] s t) ∧
    (∀ v : BitVec 64, Completes (.registerWrite req 0x040080 4 v) s fun t => sameBut [.regs] s t ∧ sameRegs s t) ∧
    (∀ v : BitVec 64, Completes (.registerWrite req 0x040010 4 v) s fun t => sameBut [.regs, .out, .msixPend] s t ∧ otherFields SPN.page [hdrIntStatus] s t ∧
      ∀ b < 9, bit (fget SPN.page hdrIntStatus t) b = (bit (fget SPN.page hdrIntStatus s) b && !bit v.toNat b)) ∧
    (∀ v : BitVec 64, Completes (.registerWrite req 0x040018 4 v) s fun t => sameBut [.regs, .out, .msixPend] s t ∧ otherFields SPN.page [hdrIntStatus] s t ∧
      ∀ b < 9, bit (fget SPN.page hdrIntStatus t) b = (bit (fget SPN.page hdrIntStatus s) b || bit v.toNat b)) ∧
    (s.obs.latches.find (latchKey req 0x0400A8) = none → Completes (.rclRead req 0x0400A8 4) s fun t => t.out = s.out ++ [.readData req (fget SPN.page SPN.CUR_PEAK s)] ∧
      fget SPN.page SPN.CUR_PEAK t = 0 ∧ sameBut [.regs, .out] s t ∧ otherFields SPN.page [SPN.CUR_PEAK] s t) ∧
    (s.obs.latches.find (latchKey req 0x000074) = none → Completes (.pairLoRead req 0x000074) s fun t => t.out = s.out ++ [.readData req (s.time % 2 ^ 32)] ∧
      t.obs.latches.find (latchKey req 0x000078) = some (s.time / 2 ^ 32 % 2 ^ 32) ∧ sameBut [.regs, .out, .obs] s t ∧ sameRegs s t) ∧
    (∀ x, s.obs.latches.find (latchKey req 0x000078) = some x → Completes (.rclRead req 0x000078 4) s fun t => t.out = s.out ++ [.readData req x] ∧
      sameBut [.out, .obs] s t) ∧
    (∀ (c : Fin 4) (addr : BitVec 24) (v : BitVec 32), addr.toNat = 0x044048 + 64 * c.val → Completes (.pairLoWrite req addr v) s fun t =>
      t.obs.loHeld = s.obs.loHeld.insert req (addr.toNat, v.toNat) ∧ sameBut [.obs] s t) ∧
    Completes (.pairCommitTimeout req) s fun t => t = s) ∧
  (∀ (req : Fin 28) (c : Fin 4) (v : BitVec 32), s.obs.loHeld.find req = some (0x044048 + 64 * c.val, v.toNat) → pgMoving c s = false →
    Completes (.pairCommitTimeout req) s fun t => fget MOT.page (MOT.TGT_LO.ix c) t = v.toNat ∧ fget MOT.page (MOT.TGT_HI.ix c) t = fget MOT.page (MOT.TGT_HI.ix c) s % 2 ^ (MOT.TGT_HI.ix c).width ∧
      t.obs.loHeld.find req = none ∧ sameBut [.regs, .obs] s t) ∧
  (∀ (req : Fin 28) (addr : BitVec 24) (size : Fin 16) (v : BitVec 64) c, lullGated addr.toNat s = false → c ≠ 0 → busCause req addr.toNat size s = c →
    Completes (.registerWrite req addr size v) s fun t => bit (fget PPC.page PPC.BERR_REQ t) req = true ∧
      (fget PPC.page PPC.BERR_CNT s < 2 ^ 32 - 1 → fget PPC.page PPC.BERR_CNT t = fget PPC.page PPC.BERR_CNT s + 1) ∧
      (raised PPC.page PPC.iBUS_ERR s = true → hasSticky PPC.page PPC.kBERR_OVF t ∧ fget PPC.page PPC.BERR_ADDR_ADDR t = fget PPC.page PPC.BERR_ADDR_ADDR s) ∧
      (raised PPC.page PPC.iBUS_ERR s = false → fget PPC.page PPC.BERR_ADDR_ADDR t = addr.toNat ∧ fget PPC.page PPC.BERR_ADDR_WRITE t = 1 ∧
        fget PPC.page PPC.BERR_INFO_REQ t = req ∧ fget PPC.page PPC.BERR_INFO_CAUSE t = c % 2 ^ 4 ∧ fget PPC.page PPC.BERR_DATA t = v.toNat % 2 ^ 32 ∧
        hasInt PPC.page PPC.iBUS_ERR t) ∧ sameBut [.regs, .out, .msixPend] s t) ∧
  (∀ (req : Fin 28) (addr : BitVec 24) (size : Fin 16), s.dev.hold = none → fon STL.page STL.STATUS_FROZEN s = false → (addr.toNat % 4 ≠ 0 ∨ (size ≠ 4 ∧ size ≠ 8)) →
    addrIsland addr.toNat ≠ none → busCause req addr.toNat size s = 2) ∧
  (∀ (req : Fin 28) (addr : BitVec 24) (size : Fin 16), addrIsland addr.toNat = none → busCause req addr.toNat size s = 1) ∧
  (∀ (req : Fin 28) (addr : BitVec 24) w, raised PPC.page PPC.iBUS_ERR s = false → Completes (.pageTimeout req addr w) s fun t =>
    fget PPC.page PPC.BERR_ADDR_ADDR t = addr.toNat ∧ fget PPC.page PPC.BERR_ADDR_WRITE t = b2n w.isSome ∧ fget PPC.page PPC.BERR_INFO_CAUSE t = 5 ∧
    fget PPC.page PPC.BERR_INFO_REQ t = req ∧ hasInt PPC.page PPC.iBUS_ERR t ∧ (w = none → req = 0 → t.out.getLast? = some (.readData 0 0xFFFFFFFF)) ∧
    sameBut [.regs, .out, .msixPend] s t) ∧
  (∀ v : BitVec 32, Completes (.coreHalt v) s fun t => fget PPC.page PPC.CTRL_HALT t = v.toNat % 2 ^ 4 ∧
    fget PPC.page PPC.STATUS_HALTED t = v.toNat % 16 &&& (fget PPC.page PPC.STATUS_RUNNING s ||| fget PPC.page PPC.STATUS_HALTED s) ∧
    sameBut [.regs] s t ∧ otherFields PPC.page [PPC.CTRL_HALT, PPC.STATUS_HALTED, PPC.STATUS_RUNNING] s t) ∧
  (∀ (e : Fin 20) cycles dest, s.dev.hold = none → fon STL.page STL.STATUS_FROZEN s = false → engState e s = 1 → fon (ENG.page e) ENG.CTRL_HALT s = false → inCust e s = false →
    s.obs.latches.find (latchKey (srcEng e) 0x04004C) = none → (s.eng e).rg = some ⟨0x04004C, none, dest, none⟩ → Completes (.rgComplete e cycles) s fun t =>
      (t.eng e).rg = none ∧ (t.eng e).r.get dest = BitVec.ofNat 32 (fget SPN.page SPN.SPEED_EST s) ∧ pcOf e t = (pcOf e s + 1) % 2 ^ 13 ∧ sameBut [.regs, .engs] s t ∧
      otherFields (ENG.page e) [ENG.PC, hdrSticky] s t) ∧
  (∀ (e : Fin 20) cycles (v : BitVec 32), s.dev.hold = none → fon STL.page STL.STATUS_FROZEN s = false → engState e s = 1 → fon (ENG.page e) ENG.CTRL_HALT s = false →
    inCust e s = false → s.obs.loHeld.find (srcEng e) = none → (s.eng e).rg = some ⟨0x040064, some v, 0, none⟩ → Completes (.rgComplete e cycles) s fun t =>
      (t.eng e).rg = none ∧ fget SPN.page SPN.MOTOR2_LS t = v.toNat % 2 ^ 16 ∧ fget SPN.page SPN.MOTOR2_KE t = v.toNat / 2 ^ 16 ∧ pcOf e t = (pcOf e s + 1) % 2 ^ 13 ∧
      sameBut [.regs, .engs] s t) ∧
  (∀ (e : Fin 20) cycles g s', (s.eng e).rg = some g → engState e s = 1 → inCust e s = false → busCause (srcEng e) g.addr 4 s ≠ 0 →
    s' = busError (srcEng e) g.addr (busCause (srcEng e) g.addr 4 s) (g.data.map BitVec.toNat) s → Completes (.rgComplete e cycles) s (trapTaken e 0x04 0 s')) ∧
  (∀ (e : Fin 20) g, (s.eng e).rg = some g → engState e s = 1 → inCust e s = false → Completes (.rgTimeout e) s (trapTaken e 0x04 0 s)) ∧
  (∀ e : Fin 20, (s.eng e).rg = none → Completes (.rgTimeout e) s fun t => t = s) ∧
  (∀ w : BitVec 64, s.dev.hold = none → fon STL.page STL.STATUS_FROZEN s = false → modeNow s ≠ 4 → s.obs.loHeld.find 2 = none → slice w.toNat 55 32 = 0x040064 →
    bit w.toNat 63 = true → Completes (.window w) s fun t => t.out = s.out ++ [.tap s.obs.tapData] ∧ t.obs.ir = 0x10 ∧
      fget SPN.page SPN.MOTOR2_LS t = w.toNat % 2 ^ 16 ∧ fget SPN.page SPN.MOTOR2_KE t = w.toNat / 2 ^ 16 % 2 ^ 16 ∧ sameBut [.regs, .out, .obs] s t) ∧
  (∀ w : BitVec 64, s.dev.hold = none → fon STL.page STL.STATUS_FROZEN s = false → modeNow s ≠ 4 → s.obs.latches.find (latchKey 2 0x04004C) = none →
    slice w.toNat 55 32 = 0x04004C → bit w.toNat 63 = false → Completes (.window w) s fun t => t.out = s.out ++ [.tap s.obs.tapData] ∧ t.obs.ir = 0x10 ∧
      t.obs.tapData = fget SPN.page SPN.SPEED_EST s ∧ sameBut [.regs, .out, .obs] s t)

/-- R291, R292, R299 to R310, R320: codewords and clusters decoded, SQUALL's ladder, and the CRC test unit. -/
def Obligations.DecodingAndSquall : Prop := ∀ s : State,
  (∀ (psa : BitVec 32) (w : Fin 30), fon DEC.page DEC.CTRL_EN s = false → Completes (.codewordDecoded psa w) s fun t => t = s) ∧
  (∀ (psa : BitVec 32) (w : Fin 30) p x ls fs, p = psaCluster psa.toNat → fon DEC.page DEC.CTRL_EN s = true → s.dec.held.find p = none →
    x = s.dec.reading.get p {} → x.sums.find w = none → x.flagged.find w = none → gather p w s = (ls, fs) →
    Completes (.codewordDecoded psa w) s fun t => t.frames = s.frames.filter (fun f => !(f.psa == p && f.frame / 16 == w.val)) ∧
      (min 3072 (fget DEC.page DEC.SKIP_CFG_ERAS_SKIP s) < (fs.filter id).length →
        (t.dec.reading.get p {}).failed.find w = some ⟨false, List.replicate 2560 0, fs.take 2560⟩ ∧
        (fget DEC.page DEC.CW_SKIP_CNT s < 2 ^ 32 - 1 → fget DEC.page DEC.CW_SKIP_CNT t = fget DEC.page DEC.CW_SKIP_CNT s + 1)) ∧
      (∀ r, ¬min 3072 (fget DEC.page DEC.SKIP_CFG_ERAS_SKIP s) < (fs.filter id).length → r = ldpcDecode (ldpcCfg s) (ls.map (clampI (-127) 127)) →
        if r.ok then (t.dec.reading.get p {}).kept.find w = some ⟨true, bitsBytes 2560 r.bits, fs.take 2560⟩
        else (t.dec.reading.get p {}).failed.find w = some ⟨false, bitsBytes 2560 r.bits, fs.take 2560⟩) ∧
      sameBut [.regs, .out, .msixPend, .frames, .dec] s t) ∧
  (∀ (psa : BitVec 32) (w : Fin 30) x, fon DEC.page DEC.CTRL_EN s = true → s.dec.held.find (psaCluster psa.toNat) = some x → (x.kept.find w).isSome = true →
    Completes (.codewordDecoded psa w) s fun t => t = dropFrames (psaCluster psa.toNat) w s) ∧
  (∀ (psa : BitVec 32) legacy p, p = psaCluster psa.toNat → legacyDisc s = false → s.blanks.contains p = true → Completes (.clusterOutcome psa legacy) s fun t =>
    t.ends.find (homeOf p s) = some { kind := .blank, mask := 0 } ∧ t.blanks = s.blanks.erase p ∧ fget DEC.page DEC.LAST_PSA t = p ∧
    (fget DEC.page DEC.CL_BLANK_CNT s < 2 ^ 32 - 1 → fget DEC.page DEC.CL_BLANK_CNT t = fget DEC.page DEC.CL_BLANK_CNT s + 1)) ∧
  (∀ (psa : BitVec 32) legacy p x j, p = psaCluster psa.toNat → legacyDisc s = false → s.blanks.contains p = false → x = s.dec.reading.get p {} → j = judge x p s →
    j.all = true → j.clash = none → Completes (.clusterOutcome psa legacy) s fun t => t.ends.find (homeOf p s) = some (clEnd .good p j x 0 s) ∧
      t.dec.reading = s.dec.reading.erase p ∧ t.dec.held = s.dec.held ∧ fget DEC.page DEC.LAST_PSA t = p) ∧
  (∀ (psa : BitVec 32) legacy p x j c, p = psaCluster psa.toNat → legacyDisc s = false → s.blanks.contains p = false → x = s.dec.reading.get p {} → j = judge x p s →
    j.all = true → j.clash = some c → Completes (.clusterOutcome psa legacy) s fun t => hasInt DEC.page DEC.iINCONSISTENT t ∧ hasInt DEC.page DEC.iSQ_UNREC t ∧
      ∃ pre later, t.evq = s.evq ++ pre ++ ⟨0x4006, srcDecode, p, c.1 % 2 ^ 32, c.2 % 2 ^ 32, false⟩ :: later) ∧
  (∀ (psa : BitVec 32) legacy p x j, p = psaCluster psa.toNat → legacyDisc s = false → s.blanks.contains p = false → x = s.dec.reading.get p {} → j = judge x p s →
    j.all = false → Completes (.clusterOutcome psa legacy) s fun t => hasInt DEC.page DEC.iCL_FAIL t ∧ t.dec.reading.find p = none ∧
      (∃ pre later, t.evq = s.evq ++ pre ++ ⟨0x4000, srcDecode, p, j.cwMask, 0xFFFFFFFF - j.pass, false⟩ :: later) ∧
      (fon DEC.page DEC.CTRL_SQ_EN s = true → s.dec.held.length < 64 → x.reads = 1 → x.late = false → 1 ≤ fget DEC.page DEC.SQ_CFG_MAX_RUNG s →
        t.dec.held.find p = some { x with start := s.time, sectors := j.good, rung := 1, calDue := false }) ∧
      (fon DEC.page DEC.CTRL_SQ_EN s = true → 64 ≤ s.dec.held.length → s.dec.backlog.length < 1024 → t.dec.backlog = s.dec.backlog ++ [p] ∧ hasInt DEC.page DEC.iBACKLOG t) ∧
      (fon DEC.page DEC.CTRL_SQ_EN s = false → hasInt DEC.page DEC.iSQ_UNREC t ∧ t.ends.find (homeOf p s) = some (clEnd .unrecovered p j x 5 s) ∧
        t.evq.getLast? = some ⟨0x4003, srcDecode, p, 0xFFFFFFFF - maskOf 32 (fun i => (j.good.find i).isSome), 5, false⟩)) ∧
  (∀ (psa : BitVec 32) legacy, s.dec.held.find (psaCluster psa.toNat) = none → Completes (.squallReread psa legacy) s fun t => t = s) ∧
  (∀ (psa : BitVec 32) legacy p x j, p = psaCluster psa.toNat → legacyDisc s = false → s.dec.held.find p = some x → j = judge x p s → j.all = true → j.clash = none →
    x.rung < fget DEC.page DEC.SQ_CFG_REPLACE_RUNG s → Completes (.squallReread psa legacy) s fun t => t.dec.held.find p = none ∧ hasInt DEC.page DEC.iSQ_RECOV t ∧
      t.ends.find (homeOf p s) = some (clEnd .recovered p j { x with reads := x.reads + 1, combined := x.combined + 1, sectors := j.good } 0 s) ∧
      (fget DEC.page DEC.SQ_RECOVERED s < 2 ^ 32 - 1 → fget DEC.page DEC.SQ_RECOVERED t = fget DEC.page DEC.SQ_RECOVERED s + 1) ∧
      t.evq.getLast? = some ⟨0x4002, srcDecode, p, x.rung % 2 ^ 32, (x.combined + 1) % 2 ^ 32, false⟩) ∧
  (∀ (psa : BitVec 32) legacy p x j, p = psaCluster psa.toNat → legacyDisc s = false → s.dec.held.find p = some x → j = judge x p s → j.all = false → x.late = true →
    Completes (.squallReread psa legacy) s fun t => t.dec.held.find p = none ∧ hasInt DEC.page DEC.iSQ_UNREC t ∧
      t.evq.getLast? = some ⟨0x4003, srcDecode, p, 0xFFFFFFFF - maskOf 32 (fun i => (j.good.find i).isSome), 2, false⟩) ∧
  (∀ (psa : BitVec 32) legacy p x j g, p = psaCluster psa.toNat → legacyDisc s = false → s.dec.held.find p = some x → j = judge x p s → j.all = false → x.late = false →
    nextRung (x.reads + 1) s = some g → Completes (.squallReread psa legacy) s fun t =>
      ∃ y, t.dec.held.find p = some y ∧ y.reads = x.reads + 1 ∧ y.rung = g ∧ y.sectors = j.good) ∧
  (∀ p ps, s.dec.backlog = p :: ps → s.dec.held.length < 64 → Completes .squallSlotFree s fun t => t.dec.backlog = ps ∧
    t.dec.held.find p = some { reads := 0, combined := 0, start := s.time } ∧ fget DEC.page DEC.BACKLOG t = ps.length % 2 ^ DEC.BACKLOG.width ∧ sameBut [.regs, .dec] s t) ∧
  (s.dec.backlog = [] ∨ 64 ≤ s.dec.held.length → Completes .squallSlotFree s fun t => t = s) ∧
  (∀ (psa : BitVec 32) x, s.dec.held.find (psaCluster psa.toNat) = some x → Completes (.squallTimeLimit psa) s fun t =>
    t.dec.held.find (psaCluster psa.toNat) = some { x with late := true } ∧ sameBut [.dec] s t) ∧
  (∀ (psa : BitVec 32) x, s.dec.held.find (psaCluster psa.toNat) = some x → Completes (.squallAbandon psa) s fun t =>
    t.dec.held.find (psaCluster psa.toNat) = none ∧ t.evq = s.evq ++ [⟨0x400D, srcDecode, psaCluster psa.toNat, x.rung % 2 ^ 32, x.reads % 2 ^ 32, false⟩] ∧
    (fget DEC.page DEC.SQ_ABANDONED s < 2 ^ 32 - 1 → fget DEC.page DEC.SQ_ABANDONED t = fget DEC.page DEC.SQ_ABANDONED s + 1) ∧ sameBut [.regs, .evq, .dec] s t) ∧
  (∀ (psa : BitVec 32) x cal5 cal3, s.dec.held.find (psaCluster psa.toNat) = some x → x.calDue = true → nextRung x.reads s ≠ none → Completes (.squallCalibration psa cal5 cal3) s fun t =>
    t.dec.held.find (psaCluster psa.toNat) = some { x with calDue := false } ∧
    (∀ best start v, cal5 = some (best, start, v) → start + fget DEC.page DEC.SQ_PWR_CAL_MIN s ≤ best →
      ∃ later, t.evq = s.evq ++ ⟨0x400A, srcDecode, psaCluster psa.toNat, 5, (best - start) % 2 ^ 32, false⟩ :: later) ∧
    (cal5 = none → cal3 = none → sameBut [.dec] s t)) ∧
  (∀ (psa : BitVec 32) x cal5 cal3, s.dec.held.find (psaCluster psa.toNat) = some x → x.calDue = false → Completes (.squallCalibration psa cal5 cal3) s fun t => t = s) ∧
  (Completes .crcTestStart s fun t => fget CRC.page CRC.STATUS_TEST_BUSY t = 1 ∧
    t.dec = { s.dec with crcReg := if fon CRC.page CRC.TEST_CTRL_CLASS s then 2 ^ 64 - 1 else 2 ^ 32 - 1 } ∧ sameBut [.regs, .dec] s t ∧
    otherFields CRC.page [CRC.STATUS_TEST_BUSY] s t) ∧
  (∀ data : BitVec 32, fon CRC.page CRC.STATUS_TEST_BUSY s = true → Completes (.crcTestData data) s fun t => sameBut [.dec] s t ∧
    t.dec = { s.dec with crcReg := crcLsb (if fon CRC.page CRC.TEST_CTRL_CLASS s then 0x9A6C9329AC4BC9B5 else 0x82F63B78) s.dec.crcReg (leBytes (if fget CRC.page CRC.TEST_CTRL_LAST_BYTES s = 0 then 4 else fget CRC.page CRC.TEST_CTRL_LAST_BYTES s) data.toNat) }) ∧
  (∀ data : BitVec 32, fon CRC.page CRC.STATUS_TEST_BUSY s = false → Completes (.crcTestData data) s fun t => t = s) ∧
  (fon CRC.page CRC.STATUS_TEST_BUSY s = true → Completes .crcTestFinish s fun t => fget CRC.page CRC.STATUS_TEST_BUSY t = 0 ∧ hasInt CRC.page CRC.iTEST_DONE t ∧
    fget64 CRC.page CRC.TEST_RESULT_LO CRC.TEST_RESULT_HI t = (s.dec.crcReg ^^^ (if fon CRC.page CRC.TEST_CTRL_CLASS s then 2 ^ 64 - 1 else 2 ^ 32 - 1)) % 2 ^ 64 ∧
    sameBut [.regs, .out, .msixPend] s t ∧ otherFields CRC.page [CRC.TEST_RESULT_LO, CRC.TEST_RESULT_HI, CRC.STATUS_TEST_BUSY, hdrIntStatus] s t)

/-- R301, R311, R324, R346, R348, R351, R356, R646: clusters encoded, replaced and verified; DCZ blocks recorded again; frontier checkpoints. -/
def Obligations.JournalAndEncoder : Prop := ∀ s : State,
  (∀ c : ClusterIn, fon ENC.page ENC.CTRL_EN s = false → Completes (.clusterEncode c) s fun t => t = s) ∧
  (∀ c : ClusterIn, fon ENC.page ENC.CTRL_EN s = true → keyReady s = false → Completes (.clusterEncode c) s fun t => hasInt XTS.page XTS.iKEY_MISSING t ∧
    t.encoded = s.encoded ∧ t.ends.find (homeOf (psaCluster c.psa) s) = some { kind := .keyRequired, mask := 0 } ∧ fget64 ENC.page ENC.WSEQ_LO ENC.WSEQ_HI t = wseq s) ∧
  (∀ (c : ClusterIn) home, fon ENC.page ENC.CTRL_EN s = true → keyReady s = true → needsCheckpoint c.lba s = false → unidentified s = false →
    home = (match c.lba with | some a => psaCluster (lbaToPsa a) | none => homeOf (psaCluster c.psa) s) → writeFor home s = none → wseq s + 1 < 2 ^ 48 →
    Completes (.clusterEncode c) s fun t => wseq t = wseq s + 1 ∧ (∃ e, t.encoded = s.encoded ++ [e] ∧ e.psa = psaCluster c.psa ∧ e.home = home ∧ e.wseq = wseq s ∧
      e.mask = c.mask ∧ e.frames.length = 480 ∧ e.sectors = fillZeros c.mask c.sectors) ∧ sameBut [.regs, .encoded] s t) ∧
  (∀ side verified, s.disc.relocs.find? (fun r => psaSide r.home == side.val) = none → Completes (.relocation side verified) s fun t => t = s) ∧
  (∀ (side : Fin 2) verified r, s.disc.relocs.find? (fun r => psaSide r.home == side.val) = some r → keyReady s = false → Completes (.relocation side verified) s fun t => t = s) ∧
  (∀ (side : Fin 2) r repl u, s.disc.relocs.find? (fun r => psaSide r.home == side.val) = some r → keyReady s = true → inService side s = true →
    replace r.home r.tries (relocContent r s) true s = (.done repl, u) → Completes (.relocation side true) s fun t => t.disc.relocs = u.disc.relocs.erase r ∧
      nextSpare r.home s = some repl ∧ t.disc.intents.length = s.disc.intents.length + 2 ∧ (t.disc.written.find repl).isSome = true ∧
      t.evq.getLast? = some ⟨0x4103, srcChan (psaSide r.home), psaSide r.home, r.home % 2 ^ 32, repl % 2 ^ 32, false⟩) ∧
  (∀ (side : Fin 2) verified r, s.disc.relocs.find? (fun r => psaSide r.home == side.val) = some r → keyReady s = true → inService side s = true →
    nextSpare r.home s = none → r.verify = false → Completes (.relocation side verified) s fun t => t.disc.relocs = s.disc.relocs.erase r ∧
      hasInt ENC.page ENC.iREPL_FAIL t ∧ fget ENC.page hdrFault t = 1 ∧
      t.evq = s.evq ++ [⟨0x4104, srcChan (psaSide r.home), psaSide r.home, r.home % 2 ^ 32, 3, false⟩] ∧ sameBut [.regs, .evq, .out, .msixPend, .disc] s t) ∧
  (∀ (head : Head) verified, (s.rec' head.n).abandoned.find? (fun e => !e.dcz) = none → Completes (.abandonedReRecording head verified) s fun t => t = s) ∧
  (∀ (head : Head) verified e c, (s.rec' head.n).abandoned.find? (fun e => !e.dcz) = some e → s.encoded.find? (fun c => c.psa == e.psa) = some c →
    sealState (psaSide e.home) s ≠ 0 → Completes (.abandonedReRecording head verified) s fun t => (t.rec' head.n).abandoned = (s.rec' head.n).abandoned.erase e ∧
      t.encoded = s.encoded.filter (fun c => c.psa != e.psa) ∧ t.ends.find (homeOf (psaCluster e.home) s) = some (faultEnd 0x4104 2) ∧
      ∃ later, t.evq = s.evq ++ ⟨0x4104, srcChan (psaSide e.home), psaSide e.home, e.home % 2 ^ 32, 2, false⟩ :: later) ∧
  (∀ (head : Head) e c repl u, (s.rec' head.n).abandoned.find? (fun e => !e.dcz) = some e → s.encoded.find? (fun c => c.psa == e.psa) = some c →
    sealState (psaSide e.home) s = 0 → dczLeft (psaSide e.home) s = true → keyReady s = true → replace e.home e.tries c true s = (.done repl, u) →
    Completes (.abandonedReRecording head true) s fun t => (t.rec' head.n).abandoned = (u.rec' head.n).abandoned.erase e ∧
      t.encoded = u.encoded.filter (fun x => x.psa != e.psa) ∧ t.ends.find (homeOf (psaCluster e.home) u) = some { kind := .written, verified := true } ∧
      ∃ later, t.evq = u.evq ++ ⟨0x4103, srcChan (psaSide e.home), psaSide e.home, e.home % 2 ^ 32, repl % 2 ^ 32, false⟩ :: later) ∧
  (∀ head : Head, (s.rec' head.n).abandoned.find? (fun e => e.dcz) = none → Completes (.dczBlockReRecording head) s fun t => t = s) ∧
  (∀ (head : Head) e b l, (s.rec' head.n).abandoned.find? (fun e => e.dcz) = some e → s.disc.blocks.find? (fun b => b.psa == e.psa) = some b →
    dczLayer b.side (if b.type = 4 then 0 else b.layer) (decide (sealState b.side s = 1)) s = some l → wseq s + 1 < 2 ^ 48 →
    Completes (.dczBlockReRecording head) s fun t => (t.rec' head.n).abandoned = (s.rec' head.n).abandoned.erase e ∧
      t.disc.blocks = s.disc.blocks.filter (fun x => x.psa != e.psa) ++ [{ b with psa := dczPsa b.side l s }] ∧ wseq t = wseq s + 1 ∧
      t.out = s.out ++ [.recorded (dczPsa b.side l s) (dczFrames { b with psa := dczPsa b.side l s } (wseq s) s.disc.id)] ∧
      sameBut [.regs, .out, .disc, .recs] s t) ∧
  (∀ cluster, needsCheckpoint (some (32 * cluster)) s = false ∨ ckptSides s = [] → Completes (.frontierCheckpoint cluster) s fun t => t = s) ∧
  (∀ cluster, needsCheckpoint (some (32 * cluster)) s = true → ckptSides s ≠ [] → checkpoint (ckptSides s) cluster s = none →
    Completes (.frontierCheckpoint cluster) s fun t => t.ends.find (homeOf (psaCluster (lbaToPsa (32 * cluster))) s) = some (faultEnd 0 0x02)) ∧
  (∀ cluster u, needsCheckpoint (some (32 * cluster)) s = true → ckptSides s ≠ [] → checkpoint (ckptSides s) cluster s = some u →
    Completes (.frontierCheckpoint cluster) s fun t => t = u ∧ hasInt ENC.page ENC.iCKPT t ∧
      fget ENC.page ENC.CKPT_FRONTIER t = roundUp (max (fget ENC.page ENC.FRONTIER s) (cluster + 1)) (ckptStep s) % 2 ^ ENC.CKPT_FRONTIER.width ∧
      t.disc.intents.length = s.disc.intents.length + (ckptSides s).length) ∧
  (∀ v : VerifyIn, v.outcome = 0 → v.cwFail ≤ fget DEC.page DEC.VFY_CFG_VFY_CW_FAIL s → v.rs ≤ fget DEC.page DEC.VFY_CFG_VFY_RS s → Completes (.verifyPass v) s fun t =>
    t.ends.find (homeOf (psaCluster v.psa) s) = some { kind := .written, verified := true } ∧ t.disc = s.disc) ∧
  (∀ v : VerifyIn, v.outcome = 1 → v.recovered = false → Completes (.verifyPass v) s fun t => hasInt ENC.page ENC.iVFY_FAIL t ∧
    t.ends.find (homeOf (psaCluster v.psa) s) = some (faultEnd 0x410D 2) ∧ t.disc = s.disc ∧
    t.evq.getLast? = some ⟨0x410D, srcChan (psaSide (psaCluster v.psa)), psaSide (psaCluster v.psa), psaCluster v.psa % 2 ^ 32, 2, false⟩) ∧
  (∀ v : VerifyIn, v.outcome = 0 → fget DEC.page DEC.VFY_CFG_VFY_CW_FAIL s < v.cwFail → fon DEC.page DEC.SQ_CFG_RELOC_EN s = false →
    Completes (.verifyPass v) s fun t => hasInt ENC.page ENC.iVFY_FAIL t ∧ t.disc.relocs = s.disc.relocs ∧
      t.ends.find (homeOf (psaCluster v.psa) s) = some (faultEnd 0x410D 3) ∧
      t.evq.getLast? = some ⟨0x410D, srcChan (psaSide (psaCluster v.psa)), psaSide (psaCluster v.psa), psaCluster v.psa % 2 ^ 32, 3, false⟩) ∧
  (∀ v : VerifyIn, v.outcome = 0 → fget DEC.page DEC.VFY_CFG_VFY_RS s < v.rs → fon DEC.page DEC.SQ_CFG_RELOC_EN s = true →
    relocReason (homeOf (psaCluster v.psa) s) s = 0 → Completes (.verifyPass v) s fun t => hasInt ENC.page ENC.iVFY_FAIL t ∧
      t.disc.relocs.length = s.disc.relocs.length + 1 ∧ t.ends.find (homeOf (psaCluster v.psa) s) = some { kind := .written, verified := true } ∧
      t.evq.getLast? = some ⟨0x410D, srcChan (psaSide (psaCluster v.psa)), psaSide (psaCluster v.psa), psaCluster v.psa % 2 ^ 32, 1, false⟩)

/-- R334, R337 to R344: a recording is armed, suspended and relinked, and the write power is calibrated. -/
def Obligations.RecordingAndCalibration : Prop := ∀ (s : State) (head : Head),
  (∀ psas window offset seq, legacyDisc s = false → (psas.map psaCluster).filterMap (fun p => emissionAt p s) = [] →
    Completes (.recordingArm head psas window offset seq) s fun t => t = s) ∧
  (∀ psas window offset seq e es, legacyDisc s = false → (psas.map psaCluster).filterMap (fun p => emissionAt p s) = e :: es → psaSide e.psa = head.n →
    (∀ x ∈ es, psaSide x.psa = head.n ∧ psaLayer x.psa = psaLayer e.psa ∧ psaSlot x.psa = psaSlot e.psa) → recording head.n s = false →
    fon (LPW.page head.n) LPW.STATUS_SUSPENDED s = false →
    (capsWrite head.n s = false → Completes (.recordingArm head psas window offset seq) s fun t => fget (LPW.page head.n) hdrFault t = 0x01 ∧ sameBut [.regs] s t ∧
      otherFields (LPW.page head.n) [hdrFault] s t) ∧
    (capsWrite head.n s = true → stratValid head.n (stratTable head.n s) s = false → Completes (.recordingArm head psas window offset seq) s fun t =>
      fget (LPW.page head.n) hdrFault t = 0x03 ∧ sameBut [.regs] s t ∧ otherFields (LPW.page head.n) [hdrFault] s t) ∧
    (capsWrite head.n s = true → stratValid head.n (stratTable head.n s) s = true →
      armReady head.n (psaLayer e.psa) (slotGroupAt (psaLayer e.psa) (psaSlot e.psa) 0) s = false →
      Completes (.recordingArm head psas window offset seq) s fun t => t = s) ∧
    (stratValid head.n (stratTable head.n s) s = true → armReady head.n (psaLayer e.psa) (slotGroupAt (psaLayer e.psa) (psaSlot e.psa) 0) s = true →
      Completes (.recordingArm head psas window offset seq) s fun t => (t.rec' head.n).emitting = e :: es ∧ (t.rec' head.n).suspended = none ∧
        (t.link head.n).arm = some (window, offset, seq) ∧ recording head.n t = true ∧ writing head.n t = true ∧ headH head.n t = false ∧
        t.out.getLast? = some (.htxMsg head.n 8 (s.link head.n).tag (window % 256 * 2 ^ 232 + offset % 2048 * 2 ^ 221 + seq % 256 * 2 ^ 212)) ∧
        sameBut [.regs, .out, .msixPend, .links, .recs, .chans, .commons] s t)) ∧
  (∀ ahead window offset seq, (s.rec' head.n).suspended = none → Completes (.relink head ahead window offset seq) s fun t => t = s) ∧
  (∀ ahead window offset seq cause e es, (s.rec' head.n).suspended = some cause → (s.rec' head.n).emitting = e :: es →
    causeCleared head.n cause (fget (ACQ.page head.n) ACQ.MAP_STATE_LAYER s) s = true → nz (fget ENC.page ENC.SUSP_CFG_RESUME_CL s) ≤ ahead →
    armReady head.n (psaLayer e.psa) (slotGroupAt (psaLayer e.psa) (psaSlot e.psa) e.frames) s = true → Completes (.relink head ahead window offset seq) s fun t =>
      (t.rec' head.n).emitting = e :: es ∧ (t.rec' head.n).suspended = none ∧ recording head.n t = true ∧ writing head.n t = true ∧
      fget (LPW.page head.n) LPW.STATUS_SUSPENDED t = 0 ∧ hasInt (LPW.page head.n) LPW.iRELINKED t ∧
      t.evq = s.evq ++ [⟨0x4101, srcChan head.n, head.n, psaSlot e.psa % 2 ^ 32, (s.rec' head.n).suspRevs % 2 ^ 32, false⟩] ∧
      sameBut [.regs, .evq, .out, .msixPend, .links, .recs, .chans, .commons] s t) ∧
  (∀ on, Completes (.boost head on) s fun t => fget (LPW.page head.n) LPW.CTRL_BOOST t = b2n on ∧ sameBut [.regs] s t ∧
    otherFields (LPW.page head.n) [LPW.CTRL_BOOST] s t) ∧
  (∀ en, Completes (.lpwEnable head en) s fun t => fget (LPW.page head.n) LPW.CTRL_EN t = b2n en ∧
    (t.rec' head.n).blocked = ((s.rec' head.n).blocked && !(en && !fon (LPW.page head.n) LPW.CTRL_EN s)) ∧ sameBut [.regs, .recs] s t ∧
    otherFields (LPW.page head.n) [LPW.CTRL_EN] s t) ∧
  (∀ cause : Fin 7, cause = 0 ∨ recording head.n s = false → Completes (.recordingSuspend head cause) s fun t => t = s) ∧
  (recording head.n s = true → writing head.n s = true → fon (LPW.page head.n) LPW.STATUS_SUSPENDED s = false → Completes (.recordingSuspend head 5) s fun t =>
    recording head.n t = false ∧ writing head.n t = false ∧ (t.rec' head.n).suspended = some 5 ∧ (t.rec' head.n).emitting = (s.rec' head.n).emitting ∧
    fget (LPW.page head.n) LPW.STATUS_SUSPENDED t = 1 ∧ hasInt (LPW.page head.n) LPW.iSUSPENDED t ∧
    t.evq = s.evq ++ [⟨0x4100, srcChan head.n, head.n, 5, fget (CHC.page head.n) CHC.CSLOT s % 2 ^ 32, false⟩] ∧ sameBut [.regs, .evq, .out, .msixPend, .recs] s t) ∧
  (∀ cause : Fin 7, cause ≠ 0 → recording head.n s = true → writing head.n s = true → fon (LPW.page head.n) LPW.STATUS_SUSPENDED s = false →
    Completes (.recordingSuspend head cause) s fun t => recording head.n t = false ∧ writing head.n t = false) ∧
  (∀ r : OpcIn, r.head = head → (getMcState head.n s ≠ 3 ∨ getLoop (4 * head.n) s ≠ 2 ∨ getLoop (4 * head.n + 1) s ≠ 2) → Completes (.opcRun r) s fun t =>
    fget CAL.page (if head.n = 0 then CAL.STATUS_STATE_L else CAL.STATUS_STATE_U) t = 3 ∧ fget CAL.page hdrFault t = 1 ∧
    hasInt CAL.page (if head.n = 0 then CAL.iOPC_FAIL_L else CAL.iOPC_FAIL_U) t ∧
    t.evq = s.evq ++ [⟨0x4106, srcChan head.n, head.n, r.layer % 8, 1, false⟩] ∧ sameBut [.regs, .evq, .out, .msixPend] s t) ∧
  (∀ r : OpcIn, r.head = head → getMcState head.n s = 3 → getLoop (4 * head.n) s = 2 → getLoop (4 * head.n + 1) s = 2 →
    256 ≤ fget CAL.page (nextRunFld head.n (r.layer % 8)) s → Completes (.opcRun r) s fun t =>
      fget CAL.page (if head.n = 0 then CAL.STATUS_STATE_L else CAL.STATUS_STATE_U) t = 3 ∧ fget CAL.page hdrFault t = 3 ∧
      ((s.opcs.get (8 * head.n + r.layer % 8) {}).installed = true → bit (fget CAL.page (opcFld head.n) t) (r.layer % 8) = true) ∧
      ∃ later, t.evq = s.evq ++ ⟨0x4106, srcChan head.n, head.n, r.layer % 8, 3, false⟩ :: later) ∧
  (∀ (r : OpcIn) tgt, r.head = head → getMcState head.n s = 3 → getLoop (4 * head.n) s = 2 → getLoop (4 * head.n + 1) s = 2 →
    fget CAL.page (nextRunFld head.n (r.layer % 8)) s < 256 → recording head.n s = false → r.lostTrack = false → r.disturbed = false → r.badRevs < 3 →
    tgt = (fgetI CAL.page (CAL.BETA_TGT.ix (r.layer % 8)) s : Rat) / 32768 →
    (∀ b < 8, betaOf ((r.blocks.getD b []).getD 0 []) < tgt ∧ tgt ≤ betaOf ((r.blocks.getD b []).getD 15 [])) → Completes (.opcRun r) s fun t =>
      fget CAL.page (if head.n = 0 then CAL.STATUS_STATE_L else CAL.STATUS_STATE_U) t = 2 ∧
      fget CAL.page (nextRunFld head.n (r.layer % 8)) t = fget CAL.page (nextRunFld head.n (r.layer % 8)) s + 1 ∧
      (r.install = true → bit (fget CAL.page (opcFld head.n) t) (r.layer % 8) = true ∧
        (t.opcs.get (8 * head.n + r.layer % 8) {}) = ⟨(s.link head.n).feTemp, true⟩) ∧
      hasInt CAL.page (if head.n = 0 then CAL.iOPC_DONE_L else CAL.iOPC_DONE_U) t ∧
      (∃ e, t.evq.getLast? = some e ∧ e.code = 0x4105 ∧ e.src = srcChan head.n ∧ e.p0 = head.n ∧ e.p1 = r.layer % 8) ∧
      sameBut [.free, .regs, .evq, .out, .msixPend, .opcs, .betas] s t) ∧
  (∀ (layer : Fin 8) why, ¬(why = .temperature ∧ ((s.link head.n).feTemp - (s.opcs.get (8 * head.n + layer) {}).temp).natAbs ≤ 8 * fget CAL.page CAL.OPC_TRIG_OPC_DT s) →
    Completes (.opcInvalidate head layer why) s fun t => (recording head.n s = false ∨ fget (LPW.page head.n) LPW.STATUS_LAYER s ≠ layer →
      bit (fget CAL.page (opcFld head.n) t) layer = false ∧ sameBut [.regs] s t ∧ otherFields CAL.page [opcFld head.n] s t)) ∧
  (∀ layer : Fin 8, ((s.link head.n).feTemp - (s.opcs.get (8 * head.n + layer) {}).temp).natAbs ≤ 8 * fget CAL.page CAL.OPC_TRIG_OPC_DT s →
    Completes (.opcInvalidate head layer .temperature) s fun t => t = s)

/-- R349, R352, R353, R436, R511, R575: the first recording on a disc, a side sealed, and a stream context moved. -/
def Obligations.FirstRecordingAndSeal : Prop := ∀ s : State,
  (fget FMT.page FMT.STATUS_STATE s ≠ 2 ∨ legacyDisc s = true ∨ unidentified s = false → Completes .firstRecording s fun t => t = s) ∧
  (fget FMT.page FMT.STATUS_STATE s = 2 → legacyDisc s = false → unidentified s = true → s.vault.descr = none → s.disc.userWritten = true →
    Completes .firstRecording s fun t => t = s) ∧
  (fget FMT.page FMT.STATUS_STATE s = 2 → legacyDisc s = false → unidentified s = true → s.vault.descr.isSome = true → Completes .firstRecording s fun t =>
    fget FMT.page FMT.STATUS_BLANK t = 0 ∧ t.vault = s.vault ∧ (∃ bs, t.disc.blocks = s.disc.blocks ++ bs) ∧
    (∀ d < 2, inService d s = true → dczLeft d s = true → bit t.disc.identities d = true)) ∧
  (fget FMT.page FMT.STATUS_STATE s = 2 → legacyDisc s = false → unidentified s = true → s.vault.descr = none → s.disc.userWritten = false → newDiscState s = 0 →
    Completes .firstRecording s fun t => fget FMT.page FMT.STATUS_BLANK t = 0 ∧ t.vault.descr.map Descr.state = some 0 ∧ t.disc.enc = some 0 ∧
      ∃ e later, t.evq = s.evq ++ e :: later ∧ e.code = 0x600A ∧ e.p1 = 0) ∧
  (fget FMT.page FMT.STATUS_STATE s = 2 → legacyDisc s = false → unidentified s = true → s.vault.descr = none → s.disc.userWritten = false → newDiscState s = 1 →
    s.vault.wraps.find? (fun w => w.1 = newDiscWrap s) = none → Completes .firstRecording s fun t => t.disc.blocks = s.disc.blocks ∧ t.vault = s.vault) ∧
  (∀ (side : Fin 2) copies steps, sealOf side s = none → Completes (.sealRun side copies steps) s fun t => t = s) ∧
  (∀ (side : Fin 2) copies steps tag k, sealOf side s = some (tag, k) → k = 0 → inService side s = false → Completes (.sealRun side copies steps) s fun t =>
    sealState side t = sealState side s ∧ bit t.disc.sealWait side = false ∧ ((t.cl.cmds.find tag).map (fun c => (c.headOos, (c.sides.find side).map Prod.fst))) = some (true, some 2)) ∧
  (∀ (side : Fin 2) copies (steps : Fin 7) tag, sealOf side s = some (tag, 0) → inService side s = true → steps = 0 ∨ sealReady tag side s = false →
    Completes (.sealRun side copies steps) s fun t => t = s) ∧
  (∀ (side : Fin 2) copies (steps : Fin 7) tag, sealOf side s = some (tag, 0) → inService side s = true → steps ≠ 0 → sealReady tag side s = true →
    recordIntent ⟨1, 1, side, 0xFF, 0, 0, 0, 0⟩ true s = none → Completes (.sealRun side copies steps) s fun t => fget ENC.page hdrFault t = 0x02 ∧
      sealState side t = sealState side s ∧ bit t.disc.sealWait side = false ∧ t.disc.intents = s.disc.intents) ∧
  (∀ (side : Fin 2) copies (steps : Fin 7) tag u, sealOf side s = some (tag, 0) → inService side s = true → steps ≠ 0 → sealReady tag side s = true →
    recordIntent ⟨1, 1, side, 0xFF, 0, 0, 0, 0⟩ true s = some u → Completes (.sealRun side copies steps) s fun t =>
      (sealState side t = 2 ∨ sealState side t = 3) ∧ (steps.val < 6 → sealState side t = 3) ∧
      (sealState side t = 2 → 0 < sealCopies side t ∧ sealDone side t = true ∧ hasInt ENC.page ENC.iSEAL_DONE t) ∧
      (∃ e later, t.evq = u.evq ++ e :: later ∧ e.code = 0x410B ∧ e.p0 = side.val) ∧ bit t.disc.sealWait side = false) ∧
  (∀ (tag : BitVec 12) fail, s.cl.ctxWait.head? ≠ some tag.toNat → Completes (.streamSpill tag fail) s fun t => t = s) ∧
  (∀ (tag : BitVec 12) fail ws c x k, s.cl.ctxWait = tag.toNat :: ws → s.cl.cmds.find tag.toNat = some c → c.op ≠ 5 → s.cl.strms.find c.stream = some x →
    freeSlot s = some k → Completes (.streamSpill tag fail) s fun t => t.cl.ctxWait = ws ∧ t.cl.strms.find c.stream = some { x with slot := some k, used := c.n } ∧
      sameBut [.regs, .cl] s t) ∧
  (∀ (tag : BitVec 12) ws c x j y, s.cl.ctxWait = tag.toNat :: ws → s.cl.cmds.find tag.toNat = some c → c.op ≠ 5 → s.cl.strms.find c.stream = some x →
    freeSlot s = none → spillVictim s = some (j, y) → j ≠ c.stream → Completes (.streamSpill tag false) s fun t => t.cl.ctxWait = ws ∧
      t.cl.strms.find c.stream = some { x with slot := y.slot, used := c.n } ∧ (t.cl.strms.find j).map Strm.slot = some none ∧ hasInt STM.page STM.iSPILL t ∧
      t.evq = s.evq ++ [⟨0x5005, srcHost, c.req % 2 ^ 32, j % 2 ^ 32, c.stream % 2 ^ 32, false⟩] ∧ sameBut [.regs, .evq, .out, .msixPend, .cl] s t) ∧
  (∀ (tag : BitVec 12) ws c x j y, s.cl.ctxWait = tag.toNat :: ws → s.cl.cmds.find tag.toNat = some c → c.op ≠ 5 → s.cl.strms.find c.stream = some x →
    freeSlot s = none → spillVictim s = some (j, y) → Completes (.streamSpill tag true) s fun t => fget STM.page hdrFault t = 0x01 ∧ sameBut [.regs] s t ∧
      otherFields STM.page [hdrFault] s t)

/-- R316, R410, R428 to R433: commands expanded into requests, write data and their check, the choice of bands, read revolutions, and a head out of service. -/
def Obligations.SchedulerAndRequests : Prop := ∀ s : State,
  (nextExpand s = none → Completes .commandExpansion s fun t => t = s) ∧
  (∀ tag c, nextExpand s = some (tag, c) → c.placed = false ∨ inOrder tag c s = false → Completes .commandExpansion s fun t => t = s) ∧
  (∀ tag c, nextExpand s = some (tag, c) → c.placed = true → inOrder tag c s = true → s.cl.cmds.find tag = some c → c.expanded + 1 = clustersIn c.first c.sectors →
    s.cl.reqs.length < poolSize → legacyDisc s = false → inService (psaSide (placeOf (homeAt (c.first / 32 + c.expanded) s) s)) s = true →
    Completes .commandExpansion s fun t => (t.cl.cmds.find tag).map Cmd.expanded = some (c.expanded + 1) ∧
      (∃ r, r ∈ t.cl.reqs ∧ r.tag = tag ∧ r.cluster = c.first / 32 + c.expanded ∧ r.home = homeAt (c.first / 32 + c.expanded) s ∧ r.write = (c.op == 2) ∧
        r.ring = some (ringOf (placeOf r.home s)) ∧ (c.op ≠ 2 → r.queued = some s.time)) ∧ sameBut [.regs, .cl] s t) ∧
  (∀ tag c, nextExpand s = some (tag, c) → c.placed = true → inOrder tag c s = true → c.expanded < clustersIn c.first c.sectors → poolSize ≤ s.cl.reqs.length →
    Completes .commandExpansion s fun t => hasInt ZRG.page ZRG.iPOOL_EMPTY t ∧ t.cl = s.cl ∧ sameBut [.regs, .out, .msixPend] s t ∧
      otherFields ZRG.page [hdrIntStatus] s t) ∧
  (∀ (tag : BitVec 12) cluster data recs, s.cl.cmds.find tag.toNat = none → Completes (.writeDataArrived tag cluster data recs) s fun t => t = s) ∧
  (∀ (tag : BitVec 12) cluster (data recs : List (BitVec 8)) c r, s.cl.cmds.find tag.toNat = some c → c.op = 2 → c.ended = false → c.phase ≠ 2 → c.waitDisc = false →
    s.cl.ctxWait.contains tag.toNat = false → c.req = 0 → mayDma s = true → c.placed = true → c.job = none → bit c.flags 0 = false → bit c.flags 1 = false →
    s.cl.reqs.find? (fun r => r.tag == tag.toNat && r.cluster == cluster && r.write && r.queued.isNone) = some r → c.part cluster ≠ [] →
    data.length = 2048 * (c.part cluster).length → c.raw.find cluster = none → Completes (.writeDataArrived tag cluster data recs) s fun t =>
      (t.cl.cmds.find tag.toNat).bind (fun c => c.raw.find cluster) = some (data.map BitVec.toNat) ∧
      (∃ q, q ∈ t.cl.reqs ∧ q.tag = r.tag ∧ q.cluster = r.cluster ∧ q.queued = some s.time ∧ q.sectors.length = 32) ∧
      sameBut [.regs, .out, .msixPend, .cl] s t) ∧
  (∀ (tag : BitVec 12) c, s.cl.cmds.find tag.toNat = some c → crossed c = none ∨ c.op ≠ 2 ∨ bit c.flags 1 = false ∨ c.checked = true ∨ c.phase = 2 →
    Completes (.xferCheckCompare tag) s fun t => t = s) ∧
  (∀ (tag : BitVec 12) c bs, s.cl.cmds.find tag.toNat = some c → crossed c = some bs → c.op = 2 → bit c.flags 1 = true → c.checked = false → c.phase ≠ 2 →
    crc64 bs = c.xchk → Completes (.xferCheckCompare tag) s fun t => (t.cl.cmds.find tag.toNat).map Cmd.checked = some true ∧
      (∀ r ∈ t.cl.reqs, r.tag = tag.toNat → r.sectors ≠ [] → r.queued.isSome = true) ∧ sameBut [.regs, .cl] s t) ∧
  (∀ (tag : BitVec 12) c bs, s.cl.cmds.find tag.toNat = some c → crossed c = some bs → c.op = 2 → bit c.flags 1 = true → c.checked = false → c.phase ≠ 2 →
    c.status = none → crc64 bs ≠ c.xchk → Completes (.xferCheckCompare tag) s fun t => hasInt CRC.page CRC.iXFER_MISMATCH t ∧
      (fget CRC.page CRC.XFER_MISMATCH_CNT s < 65535 → fget CRC.page CRC.XFER_MISMATCH_CNT t = fget CRC.page CRC.XFER_MISMATCH_CNT s + 1) ∧
      t.evq.getLast? = some ⟨0x400B, srcDecode, tag.toNat, crc64 bs % 2 ^ 32, c.xchk % 2 ^ 32, false⟩) ∧
  (∀ head : Head, mustWait head.n s = true → Completes (.bandChoice head) s fun t => t = s) ∧
  (∀ (head : Head) r n, mustWait head.n s = false → (sideReqs head.n s).head? = some r → r.ring = some n → fget ZRG.page ZRG.POLICY s = 2 →
    Completes (.bandChoice head) s fun t => fget ZRG.page (ringFld head.n) t = n % 2 ^ (ringFld head.n).width ∧ fget ZRG.page ZRG.STATUS_POLICY_ACT t = 2 ∧
      t.spin.writeNext = (sideReqs head.n s).any (fun r => r.ring == some n && r.write) ∧ sameBut [.regs, .spin] s t) ∧
  (∀ (head : Head) r n m, mustWait head.n s = false → (sideReqs head.n s).head? = some r → r.ring = some n → fget ZRG.page ZRG.POLICY s = 0 →
    sweepNext (head.n * 131072 + fget ZRG.page (ringFld head.n) s % 131072) ((sideReqs head.n s).filterMap (fun r => r.ring)) = some m →
    Completes (.bandChoice head) s fun t => fget ZRG.page (ringFld head.n) t = m % 2 ^ (ringFld head.n).width ∧
      t.spin.writeNext = (sideReqs head.n s).any (fun r => r.ring == some m && r.write) ∧ sameBut [.regs, .spin] s t) ∧
  (∀ (head : Head) r n, mustWait head.n s = false → (sideReqs head.n s).head? = some r → r.ring = some n → fget ZRG.page ZRG.POLICY s = 1 →
    r.queued.getD 0 + 25000 * fget ZRG.page ZRG.AGE_MS s < s.time → Completes (.bandChoice head) s fun t =>
      fget ZRG.page (ringFld head.n) t = n % 2 ^ (ringFld head.n).width ∧ hasInt ZRG.page ZRG.iAGE_FORCED t ∧
      (fget ZRG.page ZRG.AGE_FORCES s < 65535 → fget ZRG.page ZRG.AGE_FORCES t = fget ZRG.page ZRG.AGE_FORCES s + 1)) ∧
  (∀ (head : Head) (psas : List (BitVec 32)), recording head.n s = true ∨ mustWait head.n s = true ∨ psas = [] → Completes (.readRevolutionStart head psas) s fun t => t = s) ∧
  (∀ (head : Head) (psas : List (BitVec 32)) ps, ps = (psas.map (fun p => psaCluster p.toNat)).eraseDups → ps ≠ [] → recording head.n s = false → mustWait head.n s = false →
    (∀ p ∈ ps, psaSide p = head.n ∧ s.cl.reqs.any (fun r => r.home == homeOf p s && readable r s) = true) →
    (∀ u, reserveAll head.n (ps.filter (fun p => !s.mem.bufs.any (fun kv => kv.2.1 == p))) s = some u → Completes (.readRevolutionStart head psas) s fun t =>
      fget ZRG.page (holdingFld head.n) t = 0 ∧ fget MC.page (followFld head.n) t = 1 ∧ t.mem = u.mem) ∧
    (reserveAll head.n (ps.filter (fun p => !s.mem.bufs.any (fun kv => kv.2.1 == p))) s = none → Completes (.readRevolutionStart head psas) s fun t =>
      fget ZRG.page (holdingFld head.n) t = 1 ∧ fget MC.page (followFld head.n) t = 0 ∧ t.mem = s.mem)) ∧
  (∀ head : Head, legacyDisc s = false → (s.head head.n).oosTold = false → Completes (.headOutOfService head) s fun t => (t.head head.n).out = true ∧
    (∀ r ∈ t.cl.reqs, psaSide (placeOf r.home s) ≠ head.n) ∧
    t.evq = s.evq ++ [⟨0x500A, srcHost, 0xFF, head.n, (s.cl.reqs.filter (fun r => psaSide (placeOf r.home s) == head.n)).length % 2 ^ 32, false⟩] ∧
    sameBut [.regs, .evq, .heads, .cl] s t)

/-- R364 to R374, R385, R387: the line cache's requests, evictions, fills and maintenance. -/
def Obligations.LineCache : Prop := ∀ s : State,
  (∀ (cls : Fin 7) (addr : BitVec 34) len data par, usable s ≤ addr.toNat → Completes (.cacheRequest cls addr len data par) s fun t =>
    t.out = s.out ++ [.cacheData cls addr.toNat none] ∧ sameBut [.out] s t) ∧
  (∀ (cls : Fin 7) (addr : BitVec 34) len k c, addr.toNat < usable s → wayOf (lineOf addr.toNat) s = some (k, c) → c.evicting = false → c.filling = false → c.poison = false →
    lineWaits (lineOf addr.toNat) s = false → Completes (.cacheRequest cls addr len none none) s fun t => t.out.getLast? = some (.cacheData cls addr.toNat
        (some (((leBytes 256 c.data).drop (addr.toNat % 256)).take (min len (256 - addr.toNat % 256))))) ∧ t.mem.lines = s.mem.lines ∧
      (fget LCH.page (LCH.HIT_CNT.ix cls) s < 2 ^ 32 - 1 → fget LCH.page (LCH.HIT_CNT.ix cls) t = fget LCH.page (LCH.HIT_CNT.ix cls) s + 1) ∧
      sameBut [.regs, .out, .msixPend, .mem] s t) ∧
  (∀ (cls : Fin 7) (addr : BitVec 34) len k c, addr.toNat < usable s → wayOf (lineOf addr.toNat) s = some (k, c) → c.evicting = false → c.filling = false → c.poison = true →
    lineWaits (lineOf addr.toNat) s = false → Completes (.cacheRequest cls addr len none none) s fun t => t.out.getLast? = some (.cacheData cls addr.toNat none) ∧
      hasInt LCH.page LCH.iPOISON_HIT t ∧ t.mem.lines = s.mem.lines) ∧
  (∀ (cls : Fin 7) (addr : BitVec 34) len bs k c, addr.toNat < usable s → wayOf (lineOf addr.toNat) s = some (k, c) → c.evicting = false → c.filling = false →
    lineWaits (lineOf addr.toNat) s = false → Completes (.cacheRequest cls addr len (some bs) none) s fun t => ∃ d, t.mem.lines.find k = some d ∧ d.dirty = true ∧ d.tag = c.tag ∧
      d.data = mergeBytes c.data (addr.toNat % 256) ((bs.map BitVec.toNat).take (256 - addr.toNat % 256)) ∧ (addr.toNat % 256 = 0 → 256 ≤ bs.length → d.poison = false)) ∧
  (∀ (cls : Fin 7) (addr : BitVec 34) len w, addr.toNat < usable s → wayOf (lineOf addr.toNat) s = none → lineWaits (lineOf addr.toNat) s = false →
    pickWay cls (lineOf addr.toNat) s = some w → s.mem.lines.find (16 * setOf (lineOf addr.toNat) + w) = none → Completes (.cacheRequest cls addr len none none) s fun t =>
      t.mem.lines.find (16 * setOf (lineOf addr.toNat) + w) = some { tag := tagOf (lineOf addr.toNat), filling := true } ∧
      t.mem.waits = s.mem.waits ++ [⟨cls, addr.toNat, min len (256 - addr.toNat % 256), none⟩] ∧ sameBut [.regs, .out, .msixPend, .mem] s t) ∧
  (∀ (cls : Fin 7) (addr : BitVec 34) len data k c, addr.toNat < usable s → wayOf (lineOf addr.toNat) s = some (k, c) → c.evicting = true →
    Completes (.cacheRequest cls addr len data none) s fun t => t.mem.waits.length = s.mem.waits.length + 1 ∧ t.mem.lines = s.mem.lines ∧ sameBut [.regs, .mem] s t) ∧
  (∀ (set : Fin 4096) (way : Fin 16), (∀ c, s.mem.lines.find (16 * set.val + way.val) = some c → c.evicting = false) →
    Completes (.evictionComplete set way) s fun t => t = s) ∧
  (∀ (set : Fin 4096) (way : Fin 16) c tag, s.mem.lines.find (16 * set.val + way.val) = some c → c.evicting = true → c.next = some (tag, false) → s.mem.waits = [] →
    Completes (.evictionComplete set way) s fun t => t.mem.lines.find (16 * set.val + way.val) = some { tag := tag, filling := true } ∧
      dramBytes (256 * lineAt (16 * set.val + way.val) c) 256 t = leBytes 256 c.data ∧
      (t.mem.poison.find (lineAt (16 * set.val + way.val) c)).isSome = c.poison ∧ sameBut [.regs, .out, .msixPend, .mem] s t) ∧
  (∀ (set : Fin 4096) (way : Fin 16) errs, (∀ c, s.mem.lines.find (16 * set.val + way.val) = some c → c.filling = false) →
    Completes (.fillComplete set way errs) s fun t => t = s) ∧
  (∀ (set : Fin 4096) (way : Fin 16) c q, s.mem.lines.find (16 * set.val + way.val) = some c → c.filling = true → s.mem.waits = [q] → q.data = none →
    lineOf q.addr = lineAt (16 * set.val + way.val) c → s.mem.poison.find (lineAt (16 * set.val + way.val) c) = none → Completes (.fillComplete set way []) s fun t =>
      t.mem.lines.find (16 * set.val + way.val) = some { tag := c.tag, data := ofLe (dramBytes (256 * lineAt (16 * set.val + way.val) c) 256 s) } ∧ t.mem.waits = [] ∧
      t.mem.dram = s.mem.dram ∧ t.out.getLast? = some (.cacheData q.cls q.addr (some (((leBytes 256 (ofLe (dramBytes (256 * lineAt (16 * set.val + way.val) c) 256 s))).drop
        (q.addr % 256)).take q.len)))) ∧
  (∀ (set : Fin 4096) (way : Fin 16) c q errs, s.mem.lines.find (16 * set.val + way.val) = some c → c.filling = true → s.mem.waits = [q] → q.data = none →
    lineOf q.addr = lineAt (16 * set.val + way.val) c → errs.any (fun e => chunkBad e.2) = true → Completes (.fillComplete set way errs) s fun t =>
      (t.mem.lines.find (16 * set.val + way.val)).map CLine.poison = some true ∧ t.out.getLast? = some (.cacheData q.cls q.addr none) ∧ hasInt LCH.page LCH.iPOISON_HIT t) ∧
  (∀ c par, c ∈ [Instr.clean par, .invalidate par, .flush par, .zero par] → fon LCH.page LCH.STATUS_MAINT_BUSY s = true → Completes c s fun t =>
    hasSticky LCH.page LCH.kMAINT_REJ t ∧ sameBut [.regs] s t ∧ otherFields LCH.page [hdrSticky] s t) ∧
  (fon LCH.page LCH.STATUS_MAINT_BUSY s = false → (∀ k c, s.mem.lines.find k = some c → c.evicting = false ∧ c.filling = false) →
    (Completes (.clean []) s fun t => fget LCH.page LCH.STATUS_MAINT_BUSY t = 1 ∧ fget LCH.page LCH.MAINT_CMD_OP t = 1 ∧
      ∀ k ∈ covered s, ∀ c, t.mem.lines.find k = some c → c.dirty = false) ∧
    (Completes (.invalidate []) s fun t => fget LCH.page LCH.STATUS_MAINT_BUSY t = 1 ∧ fget LCH.page LCH.MAINT_CMD_OP t = 2 ∧ t.mem.dram = s.mem.dram ∧
      ∀ k ∈ covered s, locked (k % 16) s = false → t.mem.lines.find k = none) ∧
    (Completes (.flush []) s fun t => fget LCH.page LCH.STATUS_MAINT_BUSY t = 1 ∧ fget LCH.page LCH.MAINT_CMD_OP t = 3 ∧
      ∀ k ∈ covered s, locked (k % 16) s = false → t.mem.lines.find k = none)) ∧
  (∀ par, fon LCH.page LCH.MAINT_CMD_ALL s = true → Completes (.zero par) s fun t => hasSticky LCH.page LCH.kMAINT_REJ t ∧ sameBut [.regs] s t) ∧
  (∀ a k c, fon LCH.page LCH.STATUS_MAINT_BUSY s = false → fon LCH.page LCH.MAINT_CMD_ALL s = false → maintRange s = (a, 1) → a < usable s / 256 →
    wayOf a s = some (k, c) → c.evicting = false → c.filling = false → Completes (.zero []) s fun t => fget LCH.page LCH.STATUS_MAINT_BUSY t = 1 ∧
      t.mem.lines.find k = some { c with dirty := true, poison := false, data := 0 }) ∧
  (fon LCH.page LCH.STATUS_MAINT_BUSY s = true → Completes .maintDone s fun t => fget LCH.page LCH.STATUS_MAINT_BUSY t = 0 ∧ hasInt LCH.page LCH.iMAINT_DONE t ∧
    fget LCH.page LCH.MAINT_STATUS_LINES_DONE t = s.mem.maint % 2 ^ LCH.MAINT_STATUS_LINES_DONE.width ∧
    (fget LCH.page LCH.LOCK_SKIPPED s ≠ 0 → hasInt LCH.page LCH.iLOCK_SKIP t ∧ t.evq.length = s.evq.length + 1) ∧
    (fget LCH.page LCH.LOCK_SKIPPED s = 0 → t.evq = s.evq) ∧ sameBut [.regs, .evq, .out, .msixPend] s t) ∧
  (fon LCH.page LCH.STATUS_MAINT_BUSY s = false → Completes .maintDone s fun t => t = s)

/-- R376 to R383, R431: the staging buffers, the scrubber and the test access. -/
def Obligations.StagingMemory : Prop := ∀ s : State,
  (∀ (psa : BitVec 32) write p, p = psaCluster psa.toNat → mayReserve (psaSide p) s = true → s.mem.bufWaits = [] → Completes (.stagingReserve psa write) s fun t =>
    (∃ n, t.mem.bufs = s.mem.bufs.insert n (p, psaSide p, write)) ∧ t.mem.bufWaits = [] ∧ t.mem.lastHead = psaSide p ∧
    fget SBF.page SBF.STATUS_BUFS_FREE t = (512 - t.mem.bufs.length) % 2 ^ SBF.STATUS_BUFS_FREE.width ∧ sameBut [.regs, .mem] s t) ∧
  (∀ (psa : BitVec 32) write p, p = psaCluster psa.toNat → mayReserve (psaSide p) s = false → Completes (.stagingReserve psa write) s fun t =>
    t.mem = { s.mem with bufWaits := s.mem.bufWaits ++ [(p, psaSide p, write)] } ∧ sameBut [.mem] s t) ∧
  (∀ (psa : BitVec 32) errs, bufOf (psaCluster psa.toNat) s = none → Completes (.stagingRelease psa errs) s fun t => t = s) ∧
  (∀ (psa : BitVec 32) n, bufOf (psaCluster psa.toNat) s = some (n, true) → s.mem.bufWaits = [] → (∀ a ∈ s.mem.serr.keys, a / 65536 ≠ n) →
    Completes (.stagingRelease psa []) s fun t => t.mem.bufs = s.mem.bufs.erase n ∧
      fget SBF.page SBF.STATUS_BUFS_FREE t = (512 - t.mem.bufs.length) % 2 ^ SBF.STATUS_BUFS_FREE.width ∧ sameBut [.regs, .mem] s t) ∧
  (∀ (psa : BitVec 32) errs n write s' a, bufOf (psaCluster psa.toNat) s = some (n, write) →
    s' = errs.foldl (fun t e => sbFlip (65536 * n + e.1 % 65536) e.2.toNat t) s → a ∈ s'.mem.serr.keys → a / 65536 = n → sbBad a s' = true →
    Completes (.stagingRelease psa errs) s fun t => hasInt SBF.page SBF.iUNCORR t ∧ fget SBF.page hdrFault t = 0x01 ∧
      (write = true → t.ends.find (homeOf (psaCluster psa.toNat) s) = some { kind := .writeFault, mask := 0, cause := 0x7011, detail := 0x01 } ∧
        t.encoded = s.encoded.filter (fun c => c.psa != psaCluster psa.toNat)) ∧
      (write = false → hasInt DEC.page DEC.iCL_FAIL t)) ∧
  (fon SBF.page SBF.CTRL_SCRUB_EN s = false → ∀ errs, Completes (.scrub errs) s fun t => t = s) ∧
  (∀ w, fon SBF.page SBF.CTRL_SCRUB_EN s = true → w = fget SBF.page SBF.SCRUB_POS s → w < 1048576 →
    (∀ i < 32, s.mem.serr.get (32 * w + i) 0 = 0 ∧ s.mem.sdata.get (32 * w + i) 0 < 256) →
    (Completes (.scrub []) s fun t => fget SBF.page SBF.SCRUB_POS t = (w + 1) % 1048576 ∧ sameBut [.regs] s t ∧
      otherFields SBF.page [SBF.SCRUB_POS, SBF.SCRUB_PASSES, hdrSticky] s t) ∧
    (∀ (i : Fin 32) (k : Fin 13), Completes (.scrub [(i, BitVec.ofNat 13 (2 ^ k.val))]) s fun t => sbGet (32 * w + i) t = sbGet (32 * w + i) s ∧
      fget SBF.page SBF.SCRUB_POS t = (w + 1) % 1048576 ∧ hasInt SBF.page SBF.iCORR t ∧
      (fget SBF.page SBF.CORR_CNT s < 2 ^ 32 - 1 → fget SBF.page SBF.CORR_CNT t = fget SBF.page SBF.CORR_CNT s + 1))) ∧
  (s.mem.bufs ≠ [] → Completes (.sbfTestEn true) s fun t => hasSticky SBF.page SBF.kTEST_REJ t ∧ sameBut [.regs] s t ∧ otherFields SBF.page [hdrSticky] s t) ∧
  (∀ en, (en = true → s.mem.bufs = []) → s.mem.bufWaits = [] → Completes (.sbfTestEn en) s fun t => fget SBF.page SBF.CTRL_TEST_EN t = b2n en ∧
    fget SBF.page SBF.STATUS_TEST_ACT t = b2n en ∧ sameBut [.regs] s t ∧ otherFields SBF.page [SBF.CTRL_TEST_EN, SBF.STATUS_TEST_ACT] s t) ∧
  (∀ c, c ∈ [Instr.testWriteData, .testWriteCheck, .testWriteBoth, .testRawRead] → fon SBF.page SBF.CTRL_TEST_EN s = false → Completes c s fun t => t = s) ∧
  (∀ w, fon SBF.page SBF.CTRL_TEST_EN s = true → w = 4 * fget SBF.page SBF.TEST_ADDR s →
    (Completes .testWriteData s fun t => hasInt SBF.page SBF.iTEST_DONE t ∧ sameBut [.regs, .out, .msixPend, .mem] s t ∧
      ∀ k < 4, sbGet (w + k) t = (testData k s, (sbGet (w + k) s).2 % 32)) ∧
    (Completes .testWriteCheck s fun t => hasInt SBF.page SBF.iTEST_DONE t ∧ sameBut [.regs, .out, .msixPend, .mem] s t ∧
      ∀ k < 4, sbGet (w + k) t = ((sbGet (w + k) s).1 % 256, testCheck k s)) ∧
    (Completes .testWriteBoth s fun t => hasInt SBF.page SBF.iTEST_DONE t ∧ sameBut [.regs, .out, .msixPend, .mem] s t ∧
      ∀ k < 4, sbGet (w + k) t = (testData k s, testCheck k s)) ∧
    ((∀ k < 4, (sbGet (w + k) s).1 < 256 ∧ (sbGet (w + k) s).2 < 32) → Completes .testRawRead s fun t => hasInt SBF.page SBF.iTEST_DONE t ∧
      (∀ k < 4, testData k t = (sbGet (w + k) s).1 ∧ testCheck k t = (sbGet (w + k) s).2) ∧ sameBut [.regs, .out, .msixPend] s t))

/-- R397, R401 to R408: a compression lane's jobs, records, flushes, stops and errors. -/
def Obligations.CompressionLanes : Prop := ∀ (s : State) (l : Fin 4),
  (∀ c, c ∈ [Instr.compressJob l, .inflateJob l] → fon (CMP.page l) CMP.CTRL_EN s = false → Completes c s fun t => t = s) ∧
  (∀ c, c ∈ [Instr.compressJob l, .inflateJob l] → fon (CMP.page l) CMP.CTRL_EN s = true → laneState l s ∈ [1, 2] → Completes c s fun t =>
    hasSticky (CMP.page l) CMP.kGO_REJ t ∧ sameBut [.regs] s t ∧ otherFields (CMP.page l) [hdrSticky] s t) ∧
  (∀ c inf, (c, inf) ∈ [(Instr.compressJob l, false), (.inflateJob l, true)] → fon (CMP.page l) CMP.CTRL_EN s = true → laneState l s ∉ [1, 2] → Completes c s fun t =>
    laneState l t = 1 ∧ (t.cjob l).inflate = inf ∧ (t.cjob l).src = addr34 (CMP.page l) CMP.SRC_ADDR_LO CMP.SRC_ADDR_HI s ∧ (t.cjob l).srcLen = fget (CMP.page l) CMP.SRC_LEN s ∧
    (t.cjob l).dst = addr34 (CMP.page l) CMP.DST_ADDR_LO CMP.DST_ADDR_HI s ∧ (t.cjob l).dstLen = fget (CMP.page l) CMP.DST_LEN s ∧
    (t.cjob l).level = cmpLevel (fget (CMP.page l) CMP.JOB_CFG_LEVEL s) ∧ (t.cjob l).recMax = recordMax (fget (CMP.page l) CMP.JOB_CFG_RECORD_EXP s) ∧
    (t.cjob l).taken = 0 ∧ (t.cjob l).recIx = 0 ∧ (t.cjob l).flush = none ∧ fget (CMP.page l) CMP.IN_CONSUMED t = 0 ∧ fget (CMP.page l) CMP.OUT_PRODUCED t = 0 ∧
    fget (CMP.page l) CMP.RECORDS t = 0 ∧ fget (CMP.page l) CMP.DST_USED t = 0 ∧ sameBut [.regs, .lanesC] s t) ∧
  (∀ taken deflate, laneState l s ≠ 1 → Completes (.recordComplete l taken deflate) s fun t => t = s) ∧
  (∀ taken (deflate : List (BitVec 8)) src, laneState l s = 1 → (s.cjob l).inflate = false → (s.cjob l).taken < (s.cjob l).srcLen → (s.cjob l).flush ≠ some true →
    bufRead ((s.cjob l).src + (s.cjob l).taken) (min (s.cjob l).recMax ((s.cjob l).srcLen - (s.cjob l).taken)) s = some src → (s.cjob l).verify = true →
    verified (deflate.map BitVec.toNat) src = false → Completes (.recordComplete l taken deflate) s fun t => laneState l t = 4 ∧ fget (CMP.page l) hdrFault t = 0x07 ∧
      hasInt (CMP.page l) CMP.iVFY_FAIL t ∧ t.mem = s.mem ∧
      t.evq = s.evq ++ [⟨0x4202, srcDecode, l, (s.cjob l).recIx % 2 ^ 32, (s.cjob l).tag % 2 ^ 32, false⟩] ∧ sameBut [.regs, .evq, .out, .msixPend] s t) ∧
  (∀ taken (deflate : List (BitVec 8)) src n u, laneState l s = 1 → (s.cjob l).inflate = false → (s.cjob l).taken < (s.cjob l).srcLen → (s.cjob l).flush = none →
    n = min (s.cjob l).recMax ((s.cjob l).srcLen - (s.cjob l).taken) → bufRead ((s.cjob l).src + (s.cjob l).taken) n s = some src →
    verified (deflate.map BitVec.toNat) src = true → (s.cjob l).recOut = 0 →
    (mkRecord (s.cjob l) (b2n (allStored (deflate.map BitVec.toNat)) * 128 + b2n ((s.cjob l).taken + n = (s.cjob l).srcLen) * 32) (deflate.map BitVec.toNat) src).length ≤ legRoom l s →
    legWrite l (mkRecord (s.cjob l) (b2n (allStored (deflate.map BitVec.toNat)) * 128 + b2n ((s.cjob l).taken + n = (s.cjob l).srcLen) * 32) (deflate.map BitVec.toNat) src) s = some u →
    Completes (.recordComplete l taken deflate) s fun t => laneState l t = 1 ∧ (t.cjob l).taken = (s.cjob l).taken + n ∧ (t.cjob l).recIx = (s.cjob l).recIx + 1 ∧ t.mem = u.mem ∧
      fget (CMP.page l) CMP.RECORDS t = ((s.cjob l).recIx + 1) % 2 ^ CMP.RECORDS.width ∧ fget (CMP.page l) CMP.IN_CONSUMED t = ((s.cjob l).taken + n) % 2 ^ CMP.IN_CONSUMED.width) ∧
  (∀ taken deflate left c, laneState l s = 1 → (s.cjob l).inflate = true → inputEnds l s = false →
    bufRead ((s.cjob l).src + (s.cjob l).taken) ((s.cjob l).srcLen - (s.cjob l).taken) s = some left → checkRecord (s.cjob l) left = .error c →
    Completes (.recordComplete l taken deflate) s fun t => laneState l t = 4 ∧ fget (CMP.page l) hdrFault t = c % 2 ^ 8 ∧ hasInt (CMP.page l) CMP.iERROR t ∧ t.mem = s.mem ∧
      t.evq = s.evq ++ [⟨0x4200, srcDecode, l, c % 2 ^ 32, (s.cjob l).recIx % 2 ^ 32, false⟩] ∧ sameBut [.regs, .evq, .out, .msixPend] s t) ∧
  (∀ taken deflate left x n u, laneState l s = 1 → (s.cjob l).inflate = true → inputEnds l s = false → (s.cjob l).recOut = 0 →
    bufRead ((s.cjob l).src + (s.cjob l).taken) ((s.cjob l).srcLen - (s.cjob l).taken) s = some left → checkRecord (s.cjob l) left = .ok (x, n) →
    x.bytes.length ≤ legRoom l s → legWrite l x.bytes s = some u → Completes (.recordComplete l taken deflate) s fun t => laneState l t = 1 ∧
      (t.cjob l).taken = min (s.cjob l).srcLen ((s.cjob l).taken + n) ∧ (t.cjob l).recIx = (s.cjob l).recIx + 1 ∧ t.mem = u.mem) ∧
  (∀ mbps : BitVec 16, laneState l s = 1 → (s.cjob l).inflate = false → (s.cjob l).taken = (s.cjob l).srcLen → (s.cjob l).recIx ≠ 0 → (s.cjob l).recOut = 0 →
    Completes (.jobDone l mbps) s fun t => laneState l t = 3 ∧ hasInt (CMP.page l) CMP.iDONE t ∧ fget (CMP.page l) CMP.RATE_LAST t = mbps.toNat ∧
      fget (CMP.page l) CMP.IN_CONSUMED t = (s.cjob l).taken % 2 ^ CMP.IN_CONSUMED.width ∧
      ((s.cjob l).flush.isSome = true → (t.cjob l).flush = none ∧ hasInt (CMP.page l) CMP.iFLUSHED t ∧ fget (CMP.page l) CMP.STATUS_FLUSH_PEND t = 0) ∧
      sameBut [.regs, .out, .msixPend, .lanesC] s t) ∧
  (∀ mbps : BitVec 16, laneState l s ≠ 1 ∨ (s.cjob l).recOut ≠ 0 → Completes (.jobDone l mbps) s fun t => t = s) ∧
  (∀ taken (out : List (BitVec 8)) u, laneState l s = 1 → (s.cjob l).inflate = false → legRoom l s < (out.map BitVec.toNat).length - (s.cjob l).recOut →
    legWrite l (((out.map BitVec.toNat).drop (s.cjob l).recOut).take (legRoom l s)) s = some u → Completes (.outputExhausted l taken out) s fun t => laneState l t = 2 ∧
      hasInt (CMP.page l) CMP.iSTOPPED t ∧ (t.cjob l).recOut = (s.cjob l).recOut + legRoom l s ∧ t.mem = u.mem ∧
      (∃ e, t.evq.getLast? = some e ∧ e.code = 0x4201 ∧ e.p0 = l.val ∧ e.p2 = (s.cjob l).tag % 2 ^ 32) ∧
      fget (CMP.page l) CMP.IN_CONSUMED t = pieceEnd (s.cjob l) taken % 2 ^ CMP.IN_CONSUMED.width) ∧
  (∀ taken (out : List (BitVec 8)), laneState l s ≠ 1 ∨ (out.map BitVec.toNat).length - (s.cjob l).recOut ≤ legRoom l s → Completes (.outputExhausted l taken out) s fun t => t = s) ∧
  (laneState l s = 2 → Completes (.jobResume l) s fun t => laneState l t = 1 ∧ (t.cjob l).dst = addr34 (CMP.page l) CMP.DST_ADDR_LO CMP.DST_ADDR_HI s ∧
    (t.cjob l).dstLen = fget (CMP.page l) CMP.DST_LEN s ∧ (t.cjob l).taken = (s.cjob l).taken ∧ (t.cjob l).recOut = (s.cjob l).recOut ∧ fget (CMP.page l) CMP.DST_USED t = 0 ∧
    fget (CMP.page l) CMP.CHAIN_USED t = 0 ∧ sameBut [.regs, .lanesC] s t ∧ otherFields (CMP.page l) [CMP.STATUS_STATE, CMP.DST_USED, CMP.CHAIN_USED] s t) ∧
  (laneState l s ≠ 2 → Completes (.jobResume l) s fun t => hasSticky (CMP.page l) CMP.kRESUME_REJ t ∧ sameBut [.regs] s t ∧ otherFields (CMP.page l) [hdrSticky] s t) ∧
  (∀ off, laneState l s ∈ [1, 2] → Completes (.jobAbort l off) s fun t => laneState l t = 5 ∧ hasInt (CMP.page l) CMP.iABORTED t ∧ (t.cjob l).flush = none ∧
    (off = true → fget (CMP.page l) CMP.CTRL_EN t = 0) ∧
    t.evq = s.evq ++ [⟨0x4203, srcDecode, l, fget (CMP.page l) CMP.OUT_PRODUCED s % 2 ^ 32, (s.cjob l).tag % 2 ^ 32, false⟩] ∧
    sameBut [.regs, .evq, .out, .msixPend, .lanesC] s t) ∧
  (laneState l s ∉ [1, 2] → Completes (.jobAbort l false) s fun t => t = s) ∧
  (∀ c rec', (c, rec') ∈ [(Instr.blockFlush l, false), (.recordFlush l, true)] → laneState l s = 1 → (s.cjob l).inflate = false → (s.cjob l).flush = none → Completes c s fun t =>
    t.cjob l = { s.cjob l with flush := some rec' } ∧ fget (CMP.page l) CMP.STATUS_FLUSH_PEND t = 1 ∧ sameBut [.regs, .lanesC] s t ∧
    otherFields (CMP.page l) [CMP.STATUS_FLUSH_PEND] s t) ∧
  (∀ c, c ∈ [Instr.blockFlush l, .recordFlush l] → (laneState l s ≠ 1 ∨ (s.cjob l).inflate = true ∨ (s.cjob l).flush ≠ none) → Completes c s fun t =>
    hasSticky (CMP.page l) CMP.kFLUSH_REJ t ∧ sameBut [.regs] s t ∧ otherFields (CMP.page l) [hdrSticky] s t) ∧
  (∀ taken (out : List (BitVec 8)) u, laneState l s = 1 → (s.cjob l).flush ≠ none → (out.map BitVec.toNat).length - (s.cjob l).recOut ≤ legRoom l s →
    legWrite l ((out.map BitVec.toNat).drop (s.cjob l).recOut) s = some u → Completes (.flushComplete l taken out) s fun t => (t.cjob l).flush = none ∧
      fget (CMP.page l) CMP.FLUSH_IN t = taken % 2 ^ CMP.FLUSH_IN.width ∧ hasInt (CMP.page l) CMP.iFLUSHED t ∧ fget (CMP.page l) CMP.STATUS_FLUSH_PEND t = 0 ∧ t.mem = u.mem ∧
      laneState l t = 1) ∧
  (∀ taken out, laneState l s ≠ 1 ∨ (s.cjob l).flush = none → Completes (.flushComplete l taken out) s fun t => t = s)

/-- R414 to R418, R421, R434, R435, R437, R440, R441, R444, R446, R447, R565, R569, R576: the intake claim, the checks of a SUBMIT, acceptance, and what each opcode does at once. -/
def Obligations.IntakeAndAcceptance : Prop := ∀ s : State,
  (∀ r : Fin 28, (s.claim claimTrf).holder = none → Completes (.trfClaim [r]) s fun t => holds claimTrf r t = true ∧ t.out = s.out ++ [.readData r r] ∧ sameBut [.out, .claims] s t) ∧
  (∀ (r : Fin 28) h, (s.claim claimTrf).holder = some h → Completes (.trfClaim [r]) s fun t => t.out = s.out ++ [.readData r (h + if h = r then 0 else 2 ^ 31)] ∧ sameBut [.out] s t) ∧
  (∀ (rs : List (Fin 28)) a, (s.claim claimTrf).holder = none → 2 ≤ rs.length → a = (match (s.claim claimTrf).won with | some w => w + 1 | none => 0) →
    Completes (.trfClaim rs) s fun t => ∃ w ∈ rs, holds claimTrf w t = true ∧ (t.claim claimTrf).won = some w.val ∧
      (∀ r ∈ rs, (w.val + 256 - a % 256) % 256 ≤ (r.val + 256 - a % 256) % 256) ∧ sameBut [.out, .claims] s t) ∧
  (∀ (w : ClaimOf) (r : Fin 28) k, k = (match w with | .trf => claimTrf | .vlq => claimVlq | .mbx m => claimMbx m) →
    (holds k r s = false → Completes (.claimRelease w r) s fun t => t = s) ∧
    (holds k r s = true → (∀ m, w = .mbx m → fon MBX.page (MBX.MSTAT_FULL.ix m) s = false) → Completes (.claimRelease w r) s fun t =>
      (t.claim k).holder = none ∧ (∀ j, j ≠ k → t.claim j = s.claim j) ∧ sameBut [.claims] s t)) ∧
  (∀ (sub : Submit) (plan : List (BitVec 8)) block data work, ∀ x ∈ [(1, Instr.read sub), (2, .write sub), (3, .verify sub), (4, .seal sub), (5, .streamOpen sub),
      (6, .streamClose sub), (8, .selfTestShort sub plan), (8, .selfTestExtended sub plan), (8, .selfTestStop sub), (9, .abort sub), (10, .mount sub),
      (11, .unmount (some sub)), (12, .setMode sub), (7, .offload sub block data work)],
    (holds claimTrf sub.req s = false → Completes x.2 s fun t => hasSticky TRF.page TRF.kNOT_OWNER t ∧ sameBut [.regs] s t ∧ otherFields TRF.page [hdrSticky] s t) ∧
    (holds claimTrf sub.req s = true → fon TRF.page TRF.CTRL_EN s = true → intakeCode sub.tag.toNat sub.early (fieldsOf sub.req x.1 s) s ≠ 0 → x.1 ≠ 7 → Completes x.2 s fun t =>
      fget TRF.page TRF.RESULT_CODE t = intakeCode sub.tag.toNat sub.early (fieldsOf sub.req x.1 s) s ∧ fget TRF.page TRF.RESULT_TAG t = sub.tag.toNat ∧
      fget TRF.page TRF.RESULT_REQ t = sub.req ∧ (fget TRF.page TRF.REFUSE_CNT s < 2 ^ 32 - 1 → fget TRF.page TRF.REFUSE_CNT t = fget TRF.page TRF.REFUSE_CNT s + 1) ∧
      hasInt TRF.page TRF.iREFUSED t ∧ sameBut [.regs, .out, .msixPend] s t) ∧
    (∀ c, submitReady x.1 sub c s → x.1 ≠ 7 → Completes x.2 s fun t => ∃ d, acceptedAs x.1 sub d s t)) ∧
  (∀ t c, intakeCode t true c s = 1 ∧ ((s.cl.frozen.find c.req).isSome = true → intakeCode t false c s = 2) ∧
    (s.cl.frozen.find c.req = none → (4096 ≤ s.cl.order.length → intakeCode t false c s = 3) ∧
      (s.cl.order.length < 4096 → ((s.cl.cmds.find t).isSome = true → intakeCode t false c s = 4) ∧
        (tagTaken t c.req s = false → c.op = 0 ∨ 12 < c.op ∨ (c.job = none ∧ ringOn c.cq s = false) ∨ ((c.op = 1 ∨ c.op = 2 ∨ c.op = 3) ∧ c.count = 0) ∨ (c.op = 5 ∧ c.lba % 32 ≠ 0) ∨
          (c.op = 12 ∧ 4 < c.arg0 % 8) → intakeCode t false c s = 5)))) ∧
  (∀ sub : Submit, ∀ x ∈ [(1, Instr.read sub), (2, .write sub), (3, .verify sub), (4, .seal sub), (5, .streamOpen sub)], ∀ c, submitReady x.1 sub c s →
    discMounted s = false →
    (discAwaited s = false ∨ unloadPend s = true → Completes x.2 s fun t => ∃ d, acceptedAs x.1 sub d s t ∧ d.outcomes = [0x50] ∧ d.ended = true ∧ sameBut [.regs, .out, .msixPend, .cl, .claims] s t) ∧
    (discAwaited s = true → unloadPend s = false → Completes x.2 s fun t => ∃ d, acceptedAs x.1 sub d s t ∧ d.waitDisc = true ∧ d.ended = false ∧
      sameBut [.regs, .out, .msixPend, .cl, .claims] s t)) ∧
  (∀ (sub : Submit) c, discMounted s = true → unloadPend s = false →
    (∀ x ∈ [(1, Instr.read sub), (3, .verify sub)], submitReady x.1 sub c s → c.inflates = false → Completes x.2 s fun t => ∃ d, acceptedAs x.1 sub d s t ∧ d.first = c.lba ∧ d.sectors = c.count ∧
      d.placed = true ∧ d.ended = false ∧ d.outcomes = [] ∧ sameBut [.regs, .out, .msixPend, .cl, .claims] s t) ∧
    (legacyDisc s = false →
      (submitReady 2 sub c s → c.stream = 0 → (∀ e ∈ sidesOf c.lba c.count, sealState e s = 0 ∧ bit s.disc.sealWait e = false) →
        (fget ENC.page ENC.FRONTIER s ≤ c.lba / 32 → Completes (.write sub) s fun t => ∃ d, acceptedAs 2 sub d s t ∧ d.first = c.lba ∧ d.sectors = c.count ∧
          fget ENC.page ENC.FRONTIER t = ((c.lba + c.count - 1) / 32 + 1) % 2 ^ ENC.FRONTIER.width ∧ sameBut [.regs, .out, .msixPend, .cl, .claims] s t) ∧
        (c.lba / 32 < fget ENC.page ENC.FRONTIER s → Completes (.write sub) s fun t => ∃ d, acceptedAs 2 sub d s t ∧ d.outcomes = [0x12] ∧ d.ended = true ∧ hasInt ENC.page ENC.iWO_VIOL t ∧
          fget ENC.page ENC.FRONTIER t = fget ENC.page ENC.FRONTIER s ∧
          t.evq = s.evq ++ [⟨0x410A, srcHost, 0, c.lba % 2 ^ 32, fget ENC.page ENC.FRONTIER s % 2 ^ 32, false⟩] ∧ sameBut [.regs, .out, .evq, .msixPend, .cl, .claims] s t)) ∧
      (submitReady 4 sub c s → c.arg0 = 1 → sealState 0 s = 0 → Completes (.seal sub) s fun t => ∃ d, acceptedAs 4 sub d s t ∧ bit t.disc.sealWait 0 = true ∧ d.sides.find 0 = some (0, 0) ∧
        d.ended = false ∧ sameBut [.regs, .out, .msixPend, .disc, .cl, .claims] s t) ∧
      (∀ i, submitReady 5 sub c s → newStreamId s = i → fget ENC.page ENC.FRONTIER s ≤ c.lba / 32 → Completes (.streamOpen sub) s fun t => ∃ d x, acceptedAs 5 sub d s t ∧
        t.cl.strms.find i = some x ∧ x.first = c.lba ∧ x.stop = c.lba + 32 * c.count ∧ x.next = c.lba ∧ x.compressed = bit c.arg0 0 ∧ x.level = slice c.arg0 4 1 ∧ d.aux = i ∧ d.ended = true ∧
        fget ENC.page ENC.FRONTIER t = (c.lba / 32 + c.count) % 2 ^ ENC.FRONTIER.width ∧ sameBut [.regs, .out, .msixPend, .cl, .claims] s t)) ∧
    (legacyDisc s = true → submitReady 4 sub c s → Completes (.seal sub) s fun t => ∃ d, acceptedAs 4 sub d s t ∧ d.outcomes = [0x21] ∧ d.ended = true ∧
      sameBut [.regs, .out, .msixPend, .cl, .claims] s t)) ∧
  (∀ (sub : Submit) c, submitReady 6 sub c s → s.cl.strms.find c.stream = none → Completes (.streamClose sub) s fun t => ∃ d, acceptedAs 6 sub d s t ∧ d.outcomes = [0x21] ∧ d.ended = true ∧
    sameBut [.regs, .out, .msixPend, .cl, .claims] s t) ∧
  (∀ (sub : Submit) c (block data : List (BitVec 8)) work o, submitReady 7 sub c s → sub.req = 0 → (∀ l < 4, fon (CMP.page l) CMP.CTRL_EN s = false) →
    o = offloadOf c (block.map BitVec.toNat) (data.map BitVec.toNat) work.toNat s → intakeCode sub.tag.toNat sub.early { c with offload := o } s = 0 →
    Completes (.offload sub block data work) s fun t => ∃ d x, acceptedAs 7 sub d s t ∧ d.offload = some x ∧ x.src = ofLe ((block.map BitVec.toNat).take 8) ∧
      x.srcLen = ofLe (((block.map BitVec.toNat).drop 8).take 4) ∧ x.dstLen = ofLe (((block.map BitVec.toNat).drop 12).take 4) ∧ x.dst = ofLe (((block.map BitVec.toNat).drop 16).take 8) ∧
      d.ended = false ∧ sameBut [.regs, .out, .msixPend, .cl, .claims] s t) ∧
  (∀ (sub : Submit) c (plan : List (BitVec 8)), submitReady 8 sub c s →
    (s.cl.test = none → Completes (.selfTestShort sub plan) s fun t => t.cl.test = some { tag := sub.tag.toNat, extended := false, plan := plan.map BitVec.toNat } ∧
      t.evq = s.evq ++ [⟨0x5007, srcHost, sub.req, 1, 0xFF, false⟩] ∧ sameBut [.regs, .evq, .out, .msixPend, .cl, .claims] s t) ∧
    (s.cl.test = none → discMounted s = true → Completes (.selfTestExtended sub plan) s fun t =>
      t.cl.test = some { tag := sub.tag.toNat, extended := true, plan := plan.map BitVec.toNat } ∧ t.evq = s.evq ++ [⟨0x5007, srcHost, sub.req, 2, 0xFF, false⟩] ∧
      sameBut [.regs, .evq, .out, .msixPend, .cl, .claims] s t) ∧
    (s.cl.test = none → discMounted s = false → Completes (.selfTestExtended sub plan) s fun t => ∃ d, acceptedAs 8 sub d s t ∧ d.outcomes = [0x50] ∧ t.cl.test = none ∧
      sameBut [.regs, .out, .msixPend, .cl, .claims] s t) ∧
    (s.cl.test.isSome = true → Completes (.selfTestShort sub plan) s fun t => ∃ d, acceptedAs 8 sub d s t ∧ d.outcomes = [0x20] ∧ t.cl.test = s.cl.test ∧
      sameBut [.regs, .out, .msixPend, .cl, .claims] s t) ∧
    (s.cl.test = none → Completes (.selfTestStop sub) s fun t => ∃ d, acceptedAs 8 sub d s t ∧ d.outcomes = [0x21] ∧ d.ended = true ∧ sameBut [.regs, .out, .msixPend, .cl, .claims] s t) ∧
    (∀ x e, s.cl.test = some x → s.cl.cmds.find x.tag = some e → e.op = 8 → e.status = none → e.ended = false → e.phase ≠ 2 → e.offload = none →
      Completes (.selfTestStop sub) s fun t => ∃ d f,
        acceptedAs 8 sub d s t ∧ d.outcomes = [0] ∧ d.ended = true ∧ t.cl.cmds.find x.tag = some f ∧ f.ended = true ∧ 0x20 ∈ f.outcomes ∧ t.cl.test = none ∧
        t.evq = s.evq ++ [⟨0x5007, srcHost, e.req % 2 ^ 32, e.arg0 % 2 ^ 32, 0x20, false⟩])) ∧
  (∀ (sub : Submit) c e, submitReady 9 sub c s → s.cl.cmds.find (c.arg0 % 4096) = some e →
    (e.clustered = true → e.seq = c.arg1 → e.n ≤ s.cl.n → isFinal (c.arg0 % 4096) e s = false → e.phase ≠ 2 → Completes (.abort sub) s fun t => ∃ d f, acceptedAs 9 sub d s t ∧ d.ended = true ∧
      d.outcomes = [] ∧ t.cl.cmds.find (c.arg0 % 4096) = some f ∧ f.phase = 2 ∧ f.outcomes = e.outcomes ++ [0x20] ∧
      t.evq.getLast? = some ⟨0x5003, srcHost, sub.req, c.arg0 % 4096, c.arg1 % 2 ^ 32, false⟩) ∧
    (e.seq ≠ c.arg1 → Completes (.abort sub) s fun t => ∃ d, acceptedAs 9 sub d s t ∧ d.outcomes = [0x21] ∧ d.ended = true ∧ sameBut [.regs, .out, .msixPend, .cl, .claims] s t)) ∧
  (∀ (sub : Submit) c, submitReady 10 sub c s → s.port.unload = none →
    (clampReq s = true → Completes (.mount sub) s fun t => ∃ d, acceptedAs 10 sub d s t ∧ d.outcomes = [0x50] ∧ sameBut [.regs, .out, .msixPend, .cl, .claims] s t) ∧
    (clampReq s = false → discMounted s = true → Completes (.mount sub) s fun t => ∃ d, acceptedAs 10 sub d s t ∧ d.outcomes = [0x21] ∧ sameBut [.regs, .out, .msixPend, .cl, .claims] s t) ∧
    (clampReq s = false → fget FMT.page FMT.STATUS_STATE s = 0 ∨ fget FMT.page FMT.STATUS_STATE s = 3 → fon LIB.page LIB.STATUS_DISC_PRES s = true → Completes (.mount sub) s fun t =>
      ∃ d, acceptedAs 10 sub d s t ∧ d.ended = false ∧ fget FMT.page FMT.STATUS_STATE t = 1 ∧ t.dev.mountAt = some s.time ∧
      (s.pwr.asked = true → fget SPN.page SPN.TARGET_RPM t = readRpm (min 2 (activeMode s))) ∧ sameBut [.regs, .out, .msixPend, .cl, .claims, .dev, .spin] s t) ∧
    (clampReq s = false → fget FMT.page FMT.STATUS_STATE s = 0 → fon LIB.page LIB.STATUS_DISC_PRES s = false → Completes (.mount sub) s fun t => ∃ d, acceptedAs 10 sub d s t ∧
      d.outcomes = [0x50] ∧ fget FMT.page FMT.STATUS_STATE t = 3 ∧ fget FMT.page FMT.MOUNT_FAIL_CAUSE t = 1 ∧ hasInt FMT.page FMT.iMOUNT_FAIL t ∧
      ∃ later, t.evq = s.evq ++ ⟨0x0014, srcAon, 0, 1, 0, false⟩ :: later)) ∧
  (∀ (sub : Submit) c, submitReady 11 sub c s →
    (fget FMT.page FMT.STATUS_STATE s = 0 ∨ fget FMT.page FMT.STATUS_STATE s = 3 → bit c.arg0 0 = false → Completes (.unmount (some sub)) s fun t =>
      ∃ d, acceptedAs 11 sub d s t ∧ d.outcomes = [0x21] ∧ d.ended = true ∧ sameBut [.regs, .out, .msixPend, .cl, .claims] s t) ∧
    (discMounted s = true → s.cl.order = [] → bit c.arg0 0 = false → Completes (.unmount (some sub)) s fun t => ∃ d, acceptedAs 11 sub d s t ∧ d.outcomes = [0] ∧ d.ended = true ∧
      fget FMT.page FMT.STATUS_STATE t = 0 ∧ hasInt FMT.page FMT.iUNMOUNTED t ∧ t.disc = {} ∧ t.dev.noAuto = true ∧ t.cl.strms = [] ∧
      (∃ e ∈ t.evq, e.code = 0x0015 ∧ e.p0 = 0 ∧ e.p1 = 0)) ∧
    (discMounted s = true → (∃ e, s.cl.cmds.find (s.cl.order.headD 0) = some e ∧ s.cl.order ≠ [] ∧ e.clustered = true) → Completes (.unmount (some sub)) s fun t =>
      ∃ d, acceptedAs 11 sub d s t ∧ d.ended = false ∧ sameBut [.regs, .out, .msixPend, .cl, .claims] s t)) ∧
  (s.cl.order = [] → Completes (.unmount none) s fun t => t = s) ∧
  (∀ (sub : Submit) c k, submitReady 12 sub c s → c.arg0 % 8 = k → s.cl.deferred = none →
    (k ≤ 2 → discMounted s = false → Completes (.setMode sub) s fun t => ∃ d, acceptedAs 12 sub d s t ∧ d.outcomes = [0] ∧ d.ended = true ∧ fget PWR.page PWR.STATUS_REQ t = k ∧
      t.pwr.asked = true ∧ sameBut [.regs, .out, .msixPend, .cl, .claims, .pwr] s t) ∧
    (2 < k → k ≤ 4 → modeNow s ≠ k → s.cl.order = [] → s.cl.test = none → Completes (.setMode sub) s fun t => ∃ d, acceptedAs 12 sub d s t ∧ d.phase = 1 ∧ t.pwr.rest = some k ∧
      sameBut [.regs, .out, .msixPend, .cl, .claims, .pwr] s t) ∧
    (2 < k → k ≤ 4 → modeNow s ≠ k → bit c.arg0 8 = false → (∃ x ∈ s.cl.order, ∃ e, s.cl.cmds.find x = some e ∧ e.op ≠ 12 ∧ e.op ≠ 8) → Completes (.setMode sub) s fun t =>
      ∃ d, acceptedAs 12 sub d s t ∧ t.cl.deferred = some (k, some sub.tag.toNat) ∧ fget PWR.page PWR.STATUS_DEFERRED t = 1 ∧ sameBut [.regs, .out, .msixPend, .cl, .claims] s t))

/-- R416, R422 to R426, R440 to R445, R453: completion entries and rings, coalescing, the error log and freezing, stopped commands, descriptor lists, restarts, and self-tests that yield. -/
def Obligations.CompletionAndRestart : Prop := ∀ s : State,
  (∀ (t : BitVec 12) fs c, s.cl.cmds.find t.toNat = some c → c.status = none → c.ended = true → [4, 5, 6, 8, 9, 10, 11, 12].contains c.op = true → c.op = 9 → c.outcomes ≠ [] →
    s.cl.ctxWait.contains t.toNat = false → c.phase ≠ 3 → c.ends = [] → c.job = none → c.slot = none → s.cl.restarts = [] → s.port.syncs = [] → (∀ x d, s.cl.cmds.find x = some d → d.offload = none) →
    worstOf c.outcomes = 0 ∨ worstOf c.outcomes = 0x20 ∨ worstOf c.outcomes = 0x21 →
    (ringOn c.cq s = true → ringFull c.cq s = false → s.cl.posts = [] → (s.ring c.cq).loc = false → mayDma s = true → c.cq < 4 → Completes (.completionPost t fs) s fun u =>
      u.cl.cmds.find t.toNat = none ∧ u.cl.order = s.cl.order.erase t.toNat ∧
      (fs.headD false = false → ∃ later bs, u.out = s.out ++ Out.entry c.cq (fget CPL.page (CPL.TAIL.ix c.cq) s) ((s.ring c.cq).base + 32 * fget CPL.page (CPL.TAIL.ix c.cq) s) false bs :: later ∧
        bs.length = 32 ∧ bs.take 2 = leBytes 2 t.toNat ∧ bs.getD 2 0 = worstOf c.outcomes ∧ bs.getD 3 0 % 2 = b2n (fon CPL.page (CPL.PHASE.ix c.cq) s) ∧ (bs.drop 24).take 4 = leBytes 4 c.seq) ∧
      (fs.headD false = true → fget CPL.page hdrFault u = 1 ∧ hasInt CPL.page (8 + c.cq) u) ∧
      fget CPL.page (CPL.TAIL.ix c.cq) u = (fget CPL.page (CPL.TAIL.ix c.cq) s + 1) % ringSize c.cq s % 2 ^ (CPL.TAIL.ix c.cq).width ∧ hasInt CPL.page c.cq u ∧
      sameBut [.regs, .out, .msixPend, .cl] s u) ∧
    (ringOn c.cq s = false → Completes (.completionPost t fs) s fun u => u.cl.posts = s.cl.posts ++ [t.toNat] ∧ u.cl.order = s.cl.order ∧
      (∃ d, u.cl.cmds.find t.toNat = some d ∧ d.phase = 3 ∧ d.status = some (worstOf c.outcomes)) ∧ sameBut [.cl] s u)) ∧
  (∀ (t : BitVec 12) fs c, s.cl.cmds.find t.toNat = some c → c.status = none → c.clustered = true → c.ended = true → c.inflates = false → c.ends = [] → s.cl.reqs = [] → c.job = none →
    s.cl.ctxWait = [] → c.phase = 0 → c.outcomes = [0x50] → ringOn c.cq s = false → (∀ x d, s.cl.cmds.find x = some d → d.offload = none) → crossed c = none → fget ERL.page ERL.NEXT s < 32 → Completes (.completionPost t fs) s fun u =>
      (∃ d, u.cl.cmds.find t.toNat = some d ∧ d.status = some 0x50 ∧ d.errIx = some (fget ERL.page ERL.NEXT s)) ∧
      fget ERL.page (ERL.TAG.ix (fget ERL.page ERL.NEXT s)) u = t.toNat ∧ fget ERL.page (ERL.STATUS.ix (fget ERL.page ERL.NEXT s)) u = 0x50 ∧
      fget ERL.page ERL.NEXT u = (fget ERL.page ERL.NEXT s + 1) % 32 ∧ hasInt ERL.page ERL.iLOGGED u ∧
      (bit (fget TRF.page TRF.FREEZE_CFG_MASK s) 5 = true → s.cl.frozen.find c.req = none → u.cl.frozen.find c.req = some c.n ∧ hasInt TRF.page TRF.iFROZEN u ∧
        u.evq = s.evq ++ [⟨0x5001, srcHost, c.req % 2 ^ 32, t.toNat, 0x50, false⟩]) ∧
      (bit (fget TRF.page TRF.FREEZE_CFG_MASK s) 5 = false → u.cl.frozen = s.cl.frozen ∧ u.evq = s.evq)) ∧
  (∀ (t : BitVec 12) fs, s.cl.cmds = [] → Completes (.completionPost t fs) s fun u => u = s) ∧
  (∀ (q : Fin 4) (head : BitVec 16) fs, s.cl.posts = [] → Completes (.ringHeadWrite q head fs) s fun t => fget CPL.page (CPL.HEAD.ix q) t = head.toNat ∧
    ((fget CPL.page (CPL.TAIL.ix q) s + 1) % ringSize q s ≠ head.toNat % ringSize q s → (t.ring q).full = false ∧ bit (fget CPL.page CPL.STATUS_FULL t) q = false) ∧
    sameBut [.regs, .cl] s t) ∧
  (∀ (q : Fin 4) (cfg : BitVec 32) fs,
    (ringOn q s = true → Completes (.ringEnable q cfg fs) s fun t => fget CPL.page (CPL.CFG_EN.ix q) t = cfg.toNat % 2 ∧ fget CPL.page (CPL.CFG_VECTOR.ix q) t = slice cfg.toNat 20 16 ∧
      fget CPL.page (CPL.CFG_COAL_CNT.ix q) t = cfg.toNat / 2 ^ 24 ∧ sameBut [.regs] s t ∧
      otherFields CPL.page [CPL.CFG_EN.ix q, CPL.CFG_LOCAL.ix q, CPL.CFG_SIZE_EXP.ix q, CPL.CFG_VECTOR.ix q, CPL.CFG_COAL_CNT.ix q] s t) ∧
    (ringOn q s = false → bit cfg.toNat 0 = true → s.cl.posts = [] → Completes (.ringEnable q cfg fs) s fun t => ringOn q t = true ∧ fget CPL.page (CPL.TAIL.ix q) t = 0 ∧
      fget CPL.page (CPL.HEAD.ix q) t = 0 ∧ fget CPL.page (CPL.PHASE.ix q) t = 1 ∧ (t.ring q).base = fget64 CPL.page (CPL.BASE_LO.ix q) (CPL.BASE_HI.ix q) s / 32 * 32 ∧
      (t.ring q).loc = bit cfg.toNat 1 ∧ (t.ring q).exp = clampN 4 16 (slice cfg.toNat 12 8) ∧ (t.ring q).unsig = 0 ∧ sameBut [.regs, .cl] s t)) ∧
  (∀ q : Fin 4, ((s.ring q).since = none ∨ fget CPL.page (CPL.COAL_US.ix q) s = 0 → Completes (.coalescingTimer q) s fun t => t = s) ∧
    (∀ x, (s.ring q).since = some x → fget CPL.page (CPL.COAL_US.ix q) s ≠ 0 → Completes (.coalescingTimer q) s fun t => (t.ring q).unsig = 0 ∧ (t.ring q).since = none ∧
      (fon USB.page USB.PCIE_STATE_MSIX_EN s = true → s.msixMask = false → (s.msix.get (fget CPL.page (CPL.CFG_VECTOR.ix q) s) {}).masked = false →
        ∃ a d, t.out = s.out ++ [Out.msix (fget CPL.page (CPL.CFG_VECTOR.ix q) s) a d]) ∧ sameBut [.out, .msixPend, .cl] s t ∧ sameRegs s t)) ∧
  (∀ (t : BitVec 12) (k : Fin 3), (s.cl.cmds.find t.toNat = none → Completes (.hostDmaFailed t k) s fun u => u = s) ∧
    (∀ c, s.cl.cmds.find t.toNat = some c → c.req = 0 → c.clustered = true → isFinal t.toNat c s = false → c.phase ≠ 2 → Completes (.hostDmaFailed t k) s fun u => ∃ d,
      u.cl.cmds.find t.toNat = some d ∧ d.phase = 2 ∧ d.outcomes = c.outcomes ++ [0x20] ∧ d.aux = 0xFFFF0002 ∧ u.evq.getLast? = some ⟨0x500C, srcHost, 0, t.toNat, k.val, false⟩)) ∧
  (∀ (t : BitVec 12) (e : Descriptor) c, s.cl.cmds.find t.toNat = some c → bit c.flags 0 = true → (c.req ≠ 0 ∨ mayDma s = true) → c.phase ≠ 2 → c.segEnd = false → c.ends = [] →
    (bit e.flags.toNat 1 = true → c.links < 4096 → Completes (.descriptorFetch t [e]) s fun u => u.cl.cmds.find t.toNat = some { c with links := c.links + 1 } ∧ sameBut [.cl] s u) ∧
    (bit e.flags.toNat 1 = false → e.len ≠ 0 → c.segs.length < 65536 → c.segs.foldl (fun a x => a + x.2) 0 + e.len.toNat ≤ c.len →
      (bit e.flags.toNat 0 = true → c.segs.foldl (fun a x => a + x.2) 0 + e.len.toNat = c.len) → Completes (.descriptorFetch t [e]) s fun u =>
        u.cl.cmds.find t.toNat = some { c with segs := c.segs ++ [(e.addr.toNat, e.len.toNat)], segEnd := bit e.flags.toNat 0 } ∧ sameBut [.cl] s u) ∧
    (bit e.flags.toNat 1 = false → e.len = 0 ∨ 65536 ≤ c.segs.length ∨ c.len < c.segs.foldl (fun a x => a + x.2) 0 + e.len.toNat → c.clustered = true → isFinal t.toNat c s = false →
      Completes (.descriptorFetch t [e]) s fun u => ∃ d, u.cl.cmds.find t.toNat = some d ∧ d.phase = 2 ∧ d.outcomes = c.outcomes ++ [0x20] ∧ d.aux = 0xFFFF0001 ∧ d.segs = c.segs ∧
        u.evq.getLast? = some ⟨0x500B, srcHost, c.req % 2 ^ 32, t.toNat, (c.segs.length + c.links) % 2 ^ 32, false⟩)) ∧
  (∀ r : Fin 256, ∀ x ∈ [(1, Instr.restartResume r), (2, .discardLater r), (3, .discardAll r)],
    (s.cl.frozen.find r = none → Completes x.2 s fun t => t = s) ∧
    (∀ n, s.cl.frozen.find r = some n → (x.1 = 1 ∨ s.cl.order = []) → Completes x.2 s fun t => t.cl.frozen.find r = none ∧ hasInt TRF.page TRF.iRESTARTED t ∧
      (r.val < 28 → bit (fget TRF.page TRF.FROZEN_REQ t) r = false) ∧ t.evq = s.evq ++ [⟨0x5002, srcHost, r, x.1, 0, false⟩] ∧ sameBut [.regs, .evq, .out, .msixPend, .cl] s t) ∧
    (∀ n y c, s.cl.frozen.find r = some n → s.cl.order = [y] → s.cl.cmds.find y = some c → c.req = r → c.clustered = true → isFinal y c s = false → c.phase ≠ 2 → n < c.n → x.1 ≠ 1 → Completes x.2 s fun t => ∃ d,
      t.cl.cmds.find y = some d ∧ d.phase = 2 ∧ d.outcomes = c.outcomes ++ [0x20] ∧ t.cl.restarts.find r = some ⟨x.1, [y], 1⟩ ∧ t.cl.frozen.find r = some n)) ∧
  (∀ x, s.cl.test = some x → (othersOutstanding x.tag s = true → Completes .selfTestYieldEnd s fun t => t = s) ∧
    (othersOutstanding x.tag s = false → Completes .selfTestYieldEnd s fun t => t.cl.test = some { x with yielding := false } ∧ sameBut [.cl] s t)) ∧
  (s.cl.test = none → Completes .selfTestYieldEnd s fun t => t = s)

/-- R347, R569 to R571, R575, R576, R601: a mount that fails, a blank DLA disc and a legacy disc mounted, and the commands that waited for the mount. -/
def Obligations.Mounting : Prop := ∀ s : State,
  (∀ (c : Fin 5) (st : Fin 9), fget FMT.page FMT.STATUS_STATE s = 1 → c.val ≠ 0 → Completes (.mountFail c st) s fun t => fget FMT.page FMT.STATUS_STATE t = 3 ∧
    fget FMT.page hdrFault t = c ∧ fget FMT.page FMT.MOUNT_FAIL_CAUSE t = c ∧ fget FMT.page FMT.MOUNT_FAIL_STEP t = st ∧ hasInt FMT.page FMT.iMOUNT_FAIL t ∧ t.dev.mountAt = none ∧ t.dev.noAuto = true ∧
    (∃ later, t.evq = s.evq ++ ⟨0x0014, srcAon, 0, c, st, false⟩ :: later) ∧
    (∀ x d, s.cl.order = [x] → s.cl.cmds.find x = some d → d.op = 10 ∨ d.waitDisc = true → ∃ e, t.cl.cmds.find x = some e ∧ e.ended = true ∧ e.outcomes = d.outcomes ++ [0x50])) ∧
  (∀ (c : Fin 5) (st : Fin 9), fget FMT.page FMT.STATUS_STATE s ≠ 1 → Completes (.mountFail c st) s fun t => t = s) ∧
  (∀ m, fget FMT.page FMT.STATUS_STATE s ≠ 1 → Completes (.dlaMount m) s fun t => t = s) ∧
  (∀ (v : BitVec 8) runs relocs seals, fget FMT.page FMT.STATUS_STATE s = 1 → sealState 0 s = 0 → sealState 1 s = 0 → s.pwr.trans = none → modeNow s ≠ 3 →
    (v = 0x08 ∨ v = 0x16 → Completes (.dlaMount (.dla v [] runs relocs seals)) s fun t => fget FMT.page FMT.STATUS_STATE t = 2 ∧ fget FMT.page FMT.MEDIA_VARIANT t = v.toNat ∧
      fget FMT.page FMT.MEDIA_PROFILE t = 0xFF10 ∧ fget FMT.page FMT.MEDIA_LAYERS t = (if v = 0x16 then 8 else 4) ∧ fget FMT.page FMT.LAST_LBA t = (if v = 0x16 then 781250560 else 390625280) - 1 ∧
      fget FMT.page FMT.STATUS_BLANK t = 1 ∧ fget FMT.page FMT.STATUS_UNCLEAN t = 0 ∧ fget FMT.page FMT.STATUS_LEGACY t = 0 ∧ hasInt FMT.page FMT.iMOUNTED t ∧
      (s.cl.order = [] → fget ENC.page ENC.FRONTIER t = 0 ∧ fget ENC.page ENC.STATUS_FRONTIER_VALID t = 1) ∧ t.disc.variant = v.toNat ∧ t.dev.mountAt = none ∧
      (∃ later, t.evq = s.evq ++ ⟨0x0010, srcAon, 0, v.toNat, 2, false⟩ :: later) ∧
      (∀ x d, s.cl.order = [x] → s.cl.cmds.find x = some d →
        (d.op = 10 → ∃ e, t.cl.cmds.find x = some e ∧ e.ended = true ∧ e.outcomes = d.outcomes ++ [0]) ∧
        (d.op = 3 → d.waitDisc = true → 1 ≤ d.count → d.lba + d.count ≤ 390625280 → ∃ e, t.cl.cmds.find x = some e ∧ e.waitDisc = false ∧ e.first = d.lba ∧ e.sectors = d.count ∧ e.placed = true))) ∧
    (v ≠ 0x08 → v ≠ 0x16 → Completes (.dlaMount (.dla v [] runs relocs seals)) s fun t => fget FMT.page FMT.STATUS_STATE t = 3 ∧ fget FMT.page FMT.MOUNT_FAIL_CAUSE t = 3 ∧
      fget FMT.page FMT.MOUNT_FAIL_STEP t = 2 ∧ hasInt FMT.page FMT.iMOUNT_FAIL t) ∧
    (∀ b : MountBlock, b.ok = false → ofBe (((b.bytes.map BitVec.toNat).drop 4).take 2) = 1 → v = 0x08 ∨ v = 0x16 → Completes (.dlaMount (.dla v [b] runs relocs seals)) s fun t =>
      fget FMT.page FMT.STATUS_STATE t = 3 ∧ fget FMT.page FMT.MOUNT_FAIL_CAUSE t = 4 ∧ fget FMT.page FMT.MOUNT_FAIL_STEP t = 3) ∧
    (∀ pr (l : BitVec 4) (last : BitVec 32) blank ro nwa i, legacyProfiles.idxOf? (BitVec.toNat pr) = some i → Completes (.dlaMount (.legacy pr l last blank ro nwa)) s fun t =>
      fget FMT.page FMT.STATUS_STATE t = 2 ∧ fget FMT.page FMT.STATUS_LEGACY t = 1 ∧ fget FMT.page FMT.MEDIA_PROFILE t = pr.toNat ∧ fget FMT.page FMT.LAST_LBA t = last.toNat ∧
      fget FMT.page FMT.STATUS_BLANK t = b2n blank ∧ (ro = true ∨ (pr ≠ 0x0041 ∧ pr ≠ 0x0043) → fget FMT.page FMT.STATUS_READ_ONLY t = 1) ∧ hasInt FMT.page FMT.iMOUNTED t ∧
      (∃ later, t.evq = s.evq ++ ⟨0x0010, srcAon, 0, 0x80 + i, 2 * b2n blank, false⟩ :: later)))

/-- R492, R498 to R511, R514, R516, R520, R521, R523, R524, R526: what the vault's operations answer and change. Whether a signature verifies, and what a key encapsulation gives, is left open (log entry 8). -/
def Obligations.VaultOperations : Prop := ∀ (s : State) (q : Nat) (b : List Nat),
  (∀ x ∈ [(0x01, Instr.getInfo), (0x02, .getNonce none), (0x03, .getIdentity), (0x04, .getCert), (0x05, .quote), (0x10, .claim false false), (0x10, .claim true false),
      (0x11, .transfer false false), (0x11, .transfer true false), (0x12, .setPolicy false), (0x13, .commitPolicy none), (0x20, .importWrapKey false), (0x21, .prepareDisc),
      (0x22, .discUnlock), (0x23, .discLock), (0x30, .verifyImage), (0x31, .commitSvn none), (0x40, .logClear)],
    (vaultReady x.1 s = none → Completes x.2 s fun t => t = s) ∧
    (∀ o r, vaultReady x.1 s = some (o, r) → reqLen r ≤ 12272 → fon VLQ.page VLQ.STATUS_LOCKED_OUT s = true → x.1 ≠ 0x01 → x.1 ≠ 0x02 → x.1 ≠ 0x05 → Completes x.2 s (vaultRefusal 0x0C s)) ∧
    (∀ o r, vaultReady x.1 s = some (o, r) → 12272 < reqLen r → Completes x.2 s (vaultRefusal 0x01 s))) ∧
  (b ≠ [] → ∀ x ∈ [(0x01, Instr.getInfo), (0x02, .getNonce none), (0x03, .getIdentity), (0x04, .getCert), (0x23, .discLock)], vaultAsked x.1 q b s → Completes x.2 s (vaultRefusal 0x01 s)) ∧
  (vaultAsked 0x01 q [] s → Completes .getInfo s fun t => ∃ a, vaultAnswer 0 a s t ∧ a.length = 96 ∧ (a.drop 16).take 4 = leBytes 4 (fget VLQ.page VLQ.REQ_CNT s) ∧
    (a.drop 32).take 4 = leBytes 4 (fget VLQ.page (VLQ.OWNER_HASH.ix 0) s) ∧ sameBut [.vault] s t) ∧
  (vaultAsked 0x02 q [] s → Completes (.getNonce none) s fun t => ∃ n, vaultAnswer 0 n s t ∧ n.length = 32 ∧ t.vault.nonces.find q = some n ∧ t.free = s.free + 1 ∧ sameBut [.free, .vault] s t) ∧
  (∀ e : BitVec 8, vaultAsked 0x02 q [] s → Completes (.getNonce (some e)) s fun t => vaultAnswer 0x0D [] s t ∧ fget VLQ.page hdrFault t = 2 ∧
    t.evq = s.evq ++ [⟨0x6011, srcVault, q % 2 ^ 32, e.toNat, 0, false⟩] ∧ sameBut [.regs, .evq, .vault] s t ∧ otherFields VLQ.page [hdrFault] s t) ∧
  (vaultAsked 0x03 q [] s → Completes .getIdentity s fun t => ∃ a, vaultAnswer 0 a s t ∧ a.take 8 = serialBytes s ∧ sameBut [.free, .vault] s t) ∧
  (vaultAsked 0x04 q [] s → Completes .getCert s fun t => vaultAnswer 0 (Config.certificate.take 8192) s t ∧ sameBut [.vault] s t) ∧
  (vaultAsked 0x05 q b s → (b.length < 16 ∨ 64 < b.length → Completes .quote s (vaultRefusal 0x01 s)) ∧
    (16 ≤ b.length → b.length ≤ 64 → Completes .quote s fun t => ∃ a, vaultAnswer 0 a s t ∧ a.take 4 = leBytes 4 0x4554515A ∧ (a.drop 8).take 8 = serialBytes s ∧ (a.drop 28).take b.length = b ∧
      t.evq = s.evq ++ [⟨0x600D, srcVault, q % 2 ^ 32, s.vault.log.length % 2 ^ 32, b.length, false⟩] ∧ sameBut [.free, .evq, .vault] s t)) ∧
  (vaultAsked 0x21 q b s → (b.length ≠ 17 ∨ 1 < b.getD 0 0 → Completes .prepareDisc s (vaultRefusal 0x01 s)) ∧
    (b.length = 17 → b.getD 0 0 ≤ 1 →
      (fget FMT.page FMT.STATUS_STATE s ≠ 2 ∨ fon FMT.page FMT.STATUS_BLANK s = false ∨ fon FMT.page FMT.STATUS_LEGACY s = true → Completes .prepareDisc s (vaultRefusal 0x0B s)) ∧
      (fget FMT.page FMT.STATUS_STATE s = 2 → fon FMT.page FMT.STATUS_BLANK s = true → fon FMT.page FMT.STATUS_LEGACY s = false →
        (b.getD 0 0 = 0 → s.vault.policy.newDisc = 2 → Completes .prepareDisc s (vaultRefusal 0x05 s)) ∧
        (b.getD 0 0 = 1 ∨ s.vault.policy.newDisc ≠ 2 → Completes .prepareDisc s fun t => vaultAnswer 0 [] s t ∧ t.vault.prepare = some (b.getD 0 0, b.drop 1) ∧ sameBut [.vault] s t)))) ∧
  (vaultAsked 0x23 q [] s → (fon XTS.page XTS.STATUS_KEY_LOADED s = false → Completes .discLock s (vaultRefusal 0x0B s)) ∧
    (fon XTS.page XTS.STATUS_KEY_LOADED s = true → Completes .discLock s fun t => vaultAnswer 0 [] s t ∧ t.vault.discKey = [] ∧ fget XTS.page XTS.STATUS_KEY_LOADED t = 0 ∧
      fget FMT.page FMT.ENC_KEY_LOADED t = 0 ∧ fget VLQ.page VLQ.STATUS_KEY_LOADED t = 0 ∧ fget FMT.page FMT.ENC_WITHHELD t = 3 ∧ hasInt VLQ.page VLQ.iZEROISED t ∧
      t.evq = s.evq ++ [⟨0x6008, srcVault, 0xFF, 2, fget FMT.page FMT.DISC_ID_LO s % 2 ^ 32, false⟩] ∧ sameBut [.regs, .evq, .out, .msixPend, .vault] s t)) ∧
  (vaultAsked 0x30 q b s → (b.length < 128 → Completes .verifyImage s (vaultRefusal 0x01 s)) ∧
    (128 ≤ b.length → b.length = 128 + 80 * ofLe ((b.drop 28).take 2) + 4627 ∨ b.length = 128 + 80 * ofLe ((b.drop 28).take 2) + 9254 ∨ 32 < ofLe ((b.drop 28).take 2) → Completes .verifyImage s fun t =>
      vaultAnswer 0 (leBytes 4 (verdict b s.vault.imageKey s)) s t ∧ (ofLe (b.take 4) ≠ 0x4D57465A → vaultAnswer 0 [1, 0, 0, 0] s t) ∧ sameBut [.vault] s t)) ∧
  (vaultAsked 0x10 q b s →
    (tokenForm 0x10 (· = 2592) b s = false → Completes (.claim false false) s (vaultRefusal 0x01 s)) ∧
    (tokenForm 0x10 (· = 2592) b s = true → (ownerState s ≠ 0 → Completes (.claim false false) s (vaultRefusal 0x04 s)) ∧
      (ownerState s = 0 → s.vault.nonces.find q ≠ some (tokenNonce b) → Completes (.claim false false) s (vaultRefusal 0x03 s)) ∧
      (ownerState s = 0 → s.vault.nonces.find q = some (tokenNonce b) →
        (4 ≤ s.otp.owners.length → Completes (.claim false false) s fun t => (tokenSigned (tokenBody b) b = true → vaultRefusal 0x07 s t) ∧ t.vault.nonces.find q = none) ∧
        (s.otp.owners.length < 4 → Completes (.claim false false) s fun t => t.vault.nonces.find q = none ∧ (tokenSigned (tokenBody b) b = false → vaultRefusal 0x02 s t) ∧
          (tokenSigned (tokenBody b) b = true → vaultAnswer 0 [] s t ∧ t.otp.owners = s.otp.owners ++ [⟨sha3 (tokenBody b), true⟩] ∧ t.otp.floor = s.otp.floor ∧ t.otp.rollback = s.otp.rollback ∧
            t.vault.owner = tokenBody b ∧ t.vault.policy = defaultPolicy ∧ t.vault.wraps = [] ∧ fget VLQ.page VLQ.OWNER_STATE_STATE t = 1 ∧ t.evq = s.evq ++ [⟨0x6002, srcVault, q % 2 ^ 32, s.otp.owners.length, 0, false⟩]) ∧
          sameBut [.regs, .evq, .vault, .otp] s t) ∧
        (s.otp.owners.length < 4 → Completes (.claim true false) s fun t => tokenSigned (tokenBody b) b = true → t.otp.owners = s.otp.owners ++ [⟨sha3 (tokenBody b), false⟩] ∧ t.vault.op = none ∧
          fget VLQ.page VLQ.STATUS_STATE t = 0 ∧ sameBut [.regs, .vault, .otp] s t)))) ∧
  (vaultAsked 0x11 q b s → ownerState s ≠ 0 → s.vault.nonces.find q = some (tokenNonce b) → tokenForm 0x11 (· = 2592) b s = true → s.otp.owners.length < 4 →
    Completes (.transfer false false) s fun t => t.vault.nonces.find q = none ∧ (tokenSigned s.vault.owner b = false → vaultRefusal 0x02 s t) ∧
      (tokenSigned s.vault.owner b = true → vaultAnswer 0 [] s t ∧ t.otp.owners = s.otp.owners ++ [⟨sha3 (tokenBody b), true⟩] ∧ t.vault.owner = tokenBody b ∧ t.vault.policy = defaultPolicy ∧
        t.evq = s.evq ++ [⟨0x6003, srcVault, q % 2 ^ 32, s.otp.owners.length, 0, false⟩]) ∧ sameBut [.regs, .evq, .vault, .otp] s t) ∧
  (vaultAsked 0x12 q b s → ownerState s = 1 → (tokenNonce b).all (· = 0) = true → tokenForm 0x12 (fun n => 24 ≤ n && n ≤ 280) b s = true → ∀ p, policyOf (tokenBody b) = some p →
    (p.version ≤ s.vault.policy.version ∨ p.version < s.otp.floor → Completes (.setPolicy false) s fun t => tokenSigned s.vault.owner b = true → vaultRefusal 0x06 s t) ∧
    (s.vault.policy.version < p.version → s.otp.floor ≤ p.version → Completes (.setPolicy false) s fun t => (tokenSigned s.vault.owner b = false → vaultRefusal 0x02 s t) ∧
      (tokenSigned s.vault.owner b = true → vaultAnswer 0 [] s t ∧ t.vault.policy = p ∧ t.vault.token = b ∧ t.vault.wraps = s.vault.wraps.filter (fun w => p.allowed.contains w.1) ∧
        t.evq.getLast? = some ⟨0x6004, srcVault, q % 2 ^ 32, p.version % 2 ^ 32, p.flags % 2 ^ 32, false⟩ ∧ t.otp.owners = s.otp.owners ∧ t.otp.floor = s.otp.floor))) ∧
  (vaultAsked 0x13 q b s → ownerState s ≠ 0 → s.vault.nonces.find q = some (tokenNonce b) → tokenForm 0x13 (· = 4) b s = true → s.otp.floor < 256 →
    (ofLe (tokenBody b) ≠ s.vault.policy.version → Completes (.commitPolicy none) s fun t => tokenSigned s.vault.owner b = true → vaultRefusal 0x06 s t) ∧
    (ofLe (tokenBody b) = s.vault.policy.version → (Completes (.commitPolicy none) s fun t => (tokenSigned s.vault.owner b = false → vaultRefusal 0x02 s t) ∧
      (tokenSigned s.vault.owner b = true → vaultAnswer 0 [] s t ∧ t.otp = { s.otp with floor := max s.otp.floor s.vault.policy.version } ∧
        t.evq = s.evq ++ [⟨0x6005, srcVault, q % 2 ^ 32, max s.otp.floor s.vault.policy.version % 2 ^ 32, 0, false⟩])) ∧
      ∀ n : BitVec 9, Completes (.commitPolicy (some n)) s fun t => tokenSigned s.vault.owner b = true →
        t.otp = { s.otp with floor := max s.otp.floor (min n.toNat s.vault.policy.version) } ∧ t.vault.op = none ∧ fget VLQ.page VLQ.STATUS_STATE t = 0)) ∧
  (vaultAsked 0x20 q b s → ownerState s ≠ 0 → (tokenNonce b).all (· = 0) = true → tokenForm 0x20 (· = 1624) b s = true →
    (s.vault.policy.allowed.contains ((tokenBody b).take 16) = false → Completes (.importWrapKey false) s fun t => tokenSigned s.vault.owner b = true → vaultRefusal 0x08 s t) ∧
    (s.vault.policy.allowed.contains ((tokenBody b).take 16) = true → s.vault.wraps = [] → Completes (.importWrapKey false) s fun t => (tokenSigned s.vault.owner b = false → vaultRefusal 0x02 s t) ∧
      (vaultAnswer 0 [] s t → ∃ w, t.vault.wraps = [((tokenBody b).take 16, w)] ∧ t.evq = s.evq ++ [⟨0x6006, srcVault, q % 2 ^ 32, ofLe (((tokenBody b).take 16).take 4) % 2 ^ 32, 1, false⟩]) ∧
      (vaultAnswer 0 [] s t ∨ vaultRefusal 0x02 s t))) ∧
  (vaultAsked 0x22 q b s → ownerState s ≠ 0 → s.vault.nonces.find q = some (tokenNonce b) → tokenForm 0x22 (· = 8) b s = true →
    (s.vault.descr = none → Completes .discUnlock s fun t => tokenSigned s.vault.owner b = true → vaultRefusal 0x0B s t) ∧
    (∀ d, s.vault.descr = some d → d.state ≠ 0 → ofLe (tokenBody b) = s.disc.id → fget FMT.page FMT.ENC_WITHHELD s = 3 → Completes .discUnlock s fun t =>
      (tokenSigned s.vault.owner b = false → vaultRefusal 0x02 s t) ∧ (tokenSigned s.vault.owner b = true →
        (d.owner ≠ ownerHash s → bit s.vault.policy.flags 3 = false → vaultRefusal 0x05 s t) ∧
        (d.owner = ownerHash s → s.vault.policy.allowed.contains d.wrapId = false → vaultRefusal 0x08 s t) ∧
        (∀ w k, d.owner = ownerHash s → s.vault.policy.allowed.contains d.wrapId = true → s.vault.wraps = [(d.wrapId, w)] → kwUnwrap w d.wrapped = some k → vaultAnswer 0 [] s t ∧ t.vault.discKey = k ∧
          fget XTS.page XTS.STATUS_KEY_LOADED t = 1 ∧ fget FMT.page FMT.ENC_WITHHELD t = 0 ∧ t.evq = s.evq ++ [⟨0x6007, srcVault, q % 2 ^ 32, fget FMT.page FMT.DISC_ID_LO s % 2 ^ 32, 1, false⟩])))) ∧
  (vaultAsked 0x31 q b s → 4 ≤ q → q ≤ 7 → b.length = 4 → ownerState s = 0 ∨ bit s.vault.policy.flags 2 = false →
    (ofLe b ≠ fget VLQ.page VLQ.RUN_SVN s → Completes (.commitSvn none) s (vaultRefusal 0x06 s)) ∧
    (ofLe b = fget VLQ.page VLQ.RUN_SVN s → s.otp.rollback < 128 → (Completes (.commitSvn none) s fun t => vaultAnswer 0 [] s t ∧ t.otp = { s.otp with rollback := max s.otp.rollback (ofLe b) } ∧
        t.evq = s.evq ++ [⟨0x600C, srcVault, q, max s.otp.rollback (ofLe b) % 2 ^ 32, s.otp.rollback, false⟩] ∧ sameBut [.regs, .evq, .vault, .otp] s t ∧ otherFields VLQ.page [VLQ.ROLLBACK] s t) ∧
      ∀ n : BitVec 8, Completes (.commitSvn (some n)) s fun t => t.otp = { s.otp with rollback := max s.otp.rollback (min n.toNat (fget VLQ.page VLQ.RUN_SVN s)) } ∧ t.vault.op = none ∧
        fget VLQ.page VLQ.STATUS_STATE t = 0 ∧ sameBut [.regs, .vault, .otp] s t)) ∧
  (vaultAsked 0x31 q b s → q < 4 ∨ 7 < q → Completes (.commitSvn none) s (vaultRefusal 0x0A s)) ∧
  (vaultAsked 0x40 q b s → ownerState s ≠ 0 → s.vault.nonces.find q = some (tokenNonce b) → tokenForm 0x40 (· = 0) b s = true → Completes .logClear s fun t =>
    t.vault.nonces.find q = none ∧ (tokenSigned s.vault.owner b = false → vaultRefusal 0x02 s t) ∧
      (tokenSigned s.vault.owner b = true → vaultAnswer 0 [] s t ∧ t.vault.clear = some (q, ofLe ((tokenDigest b).take 4)) ∧ fget EVR.page EVR.STATUS_CLEARING t = 1 ∧ sameBut [.regs, .vault] s t))

/-- R414, R495 to R497, R499, R500, R516, R522, R526: the vault's request page, the copy of a request and its response, nonces, claims that time out, and an internal scan. -/
def Obligations.VaultRequestPage : Prop := ∀ s : State,
  (∀ r : Fin 28, (s.claim claimVlq).holder = none → Completes (.vlqClaim [r]) s fun t => holds claimVlq r t = true ∧ t.out = s.out ++ [.readData r r] ∧ sameBut [.out, .claims] s t) ∧
  (∀ (r : Fin 28) h, (s.claim claimVlq).holder = some h → Completes (.vlqClaim [r]) s fun t => t.out = s.out ++ [.readData r (h + if h = r then 0 else 2 ^ 31)] ∧ sameBut [.out] s t) ∧
  (∀ r : Fin 28, ∀ x ∈ [(VlqAccess.reqRead, s.vault.reqBuf, VLQ.REQ_IDX_IDX, VLQ.REQ_IDX_AUTO_INC), (.rspRead, s.vault.rspBuf, VLQ.RSP_IDX_IDX, VLQ.RSP_IDX_AUTO_INC)],
    (fget VLQ.page x.2.2.1 s < 3072 → Completes (.vlqIndexAccess r x.1) s fun t => t.out = s.out ++ [.readData r (x.2.1.get (fget VLQ.page x.2.2.1 s) 0)] ∧
      (fon VLQ.page x.2.2.2 s = true → fget VLQ.page x.2.2.1 t = fget VLQ.page x.2.2.1 s + 1) ∧ (fon VLQ.page x.2.2.2 s = false → sameRegs s t) ∧
      sameBut [.regs, .out] s t ∧ otherFields VLQ.page [x.2.2.1] s t) ∧
    (3072 ≤ fget VLQ.page x.2.2.1 s → Completes (.vlqIndexAccess r x.1) s fun t => t.out = s.out ++ [.readData r 0] ∧ hasSticky VLQ.page VLQ.kIDX_OVF t ∧ sameBut [.regs, .out] s t)) ∧
  (∀ (r : Fin 28) (v : BitVec 32),
    (holds claimVlq r s = false → Completes (.vlqIndexAccess r (.reqWrite v)) s fun t => hasSticky VLQ.page VLQ.kNOT_OWNER t ∧ sameBut [.regs] s t ∧ otherFields VLQ.page [hdrSticky] s t) ∧
    (holds claimVlq r s = true → (s.vault.op = none → fget VLQ.page VLQ.REQ_IDX_IDX s < 3072 → Completes (.vlqIndexAccess r (.reqWrite v)) s fun t => t.vault.reqBuf.get (fget VLQ.page VLQ.REQ_IDX_IDX s) 0 = v.toNat ∧
        (∀ i, i ≠ fget VLQ.page VLQ.REQ_IDX_IDX s → t.vault.reqBuf.get i 0 = s.vault.reqBuf.get i 0) ∧
        (fon VLQ.page VLQ.REQ_IDX_AUTO_INC s = true → fget VLQ.page VLQ.REQ_IDX_IDX t = fget VLQ.page VLQ.REQ_IDX_IDX s + 1) ∧ sameBut [.regs, .vault] s t ∧
        otherFields VLQ.page [VLQ.REQ_IDX_IDX] s t) ∧
      (s.vault.op = none → 3072 ≤ fget VLQ.page VLQ.REQ_IDX_IDX s → Completes (.vlqIndexAccess r (.reqWrite v)) s fun t => hasSticky VLQ.page VLQ.kIDX_OVF t ∧ sameBut [.regs] s t) ∧
      (∀ o, s.vault.op = some o → o.request = none → Completes (.vlqIndexAccess r (.reqWrite v)) s fun t => t = s))) ∧
  (s.vault.op = none → (Completes .vaultRequestCopy s fun t => t = s) ∧ (Completes .vaultResponse s fun t => t = s)) ∧
  (∀ o, s.vault.op = some o → o.request = none → Completes .vaultRequestCopy s fun t => ∃ bs, t.vault = { s.vault with op := some { o with request := some bs } } ∧
    bs.length = min (16 + s.vault.reqBuf.get 1 0 % 2 ^ 32) 12288 ∧ bs.take 8 = leBytes 4 (s.vault.reqBuf.get 0 0) ++ leBytes 4 (s.vault.reqBuf.get 1 0) ∧ sameBut [.vault] s t) ∧
  (∀ o r code body, s.vault.op = some o → o.request = some r → o.done = some (code, body) → code < 256 → Completes .vaultResponse s fun t => t.vault.op = none ∧ fget VLQ.page VLQ.STATUS_STATE t = 2 ∧
    fget VLQ.page VLQ.RESULT_CODE t = code ∧ fget VLQ.page VLQ.RESULT_OP t = reqOp r % 2 ^ 16 ∧ fget VLQ.page VLQ.VAULT_SEQ t = (fget VLQ.page VLQ.VAULT_SEQ s + 1) % 2 ^ 32 ∧
    t.vault.rspBuf.get 0 0 = reqOp r % 2 ^ 16 + 2 ^ 16 * code ∧ t.vault.rspBuf.get 1 0 = body.length % 2 ^ 32 ∧
    (code = 0 → hasInt VLQ.page VLQ.iDONE t ∧ t.evq = s.evq ∧ (fget VLQ.page VLQ.REQ_CNT s < 2 ^ 32 - 1 → fget VLQ.page VLQ.REQ_CNT t = fget VLQ.page VLQ.REQ_CNT s + 1)) ∧
    (code ≠ 0 → hasInt VLQ.page VLQ.iREFUSED t ∧ t.evq = s.evq ++ [⟨0x6001, srcVault, o.req % 2 ^ 32, reqOp r % 2 ^ 32, code, false⟩] ∧
      (fget VLQ.page VLQ.REFUSE_CNT s < 2 ^ 32 - 1 → fget VLQ.page VLQ.REFUSE_CNT t = fget VLQ.page VLQ.REFUSE_CNT s + 1)) ∧
    sameBut [.regs, .evq, .out, .msixPend, .vault] s t) ∧
  (∀ o r, s.vault.op = some o → o.request = some r → o.done = none → reqOp r ∉ [0x01, 0x02, 0x03, 0x04, 0x05, 0x10, 0x11, 0x12, 0x13, 0x20, 0x21, 0x22, 0x23, 0x30, 0x31, 0x40] →
    fon VLQ.page VLQ.STATUS_LOCKED_OUT s = false → Completes .vaultResponse s fun t => fget VLQ.page VLQ.RESULT_CODE t = 1 ∧ hasInt VLQ.page VLQ.iREFUSED t ∧ t.vault.op = none) ∧
  (∀ r : Fin 28, Completes (.nonceExpiry r) s fun t => t.vault = { s.vault with nonces := s.vault.nonces.erase r } ∧ sameBut [.vault] s t) ∧
  (∀ c : Fin 16, Completes (.internalScan c) s fun t => fget VLQ.page VLQ.STATUS_LOCKED_OUT t = 1 ∧ hasInt VLQ.page VLQ.iLOCKOUT t ∧ t.vault.nonces = [] ∧ t.vault.op = none ∧ t.vault.wraps = [] ∧
    t.vault.owner = [] ∧ t.vault.prepare = none ∧ t.vault.policy = closedPolicy ∧ (fon XTS.page XTS.STATUS_KEY_LOADED s = true → t.vault.discKey = [] ∧ fget XTS.page XTS.STATUS_KEY_LOADED t = 0) ∧
    t.evq.getLast? = some ⟨0x600F, srcVault, 0xFF, 0, 0, false⟩ ∧ t.otp = s.otp ∧ sameBut [.regs, .evq, .out, .msixPend, .vault] s t) ∧
  (∀ w : ClaimOf, ∀ x ∈ [(ClaimOf.trf, claimTrf, TRF.page, TRF.iCLAIM_TIMEOUT), (.vlq, claimVlq, VLQ.page, VLQ.iCLAIM_TIMEOUT)], w = x.1 →
    ((s.claim x.2.1).holder = none → Completes (.claimTimeout w) s fun t => t = s) ∧
    (∀ h, (s.claim x.2.1).holder = some h → Completes (.claimTimeout w) s fun t => (t.claim x.2.1).holder = none ∧ hasInt x.2.2.1 x.2.2.2 t ∧
      (w = .trf → t.evq = s.evq ++ [⟨0x5009, srcHost, h % 2 ^ 32, (s.claim x.2.1).count % 2 ^ 32, fget TRF.page TRF.CLAIM_TO_US s % 2 ^ 32, false⟩]) ∧
      sameBut [.regs, .evq, .out, .msixPend, .claims] s t ∧ otherFields x.2.2.1 [hdrIntStatus] s t)) ∧
  (∀ m : Fin 8, Completes (.claimTimeout (.mbx m)) s fun t => t = s)

/-- R461, R462, R464 to R469, R501, R23: the MMC commands that the ports answer by themselves; layouts that the spec leaves to the MMC and SPC standards are the model's (the log). -/
def Obligations.MmcAnswers : Prop := ∀ (s : State) (via : MmcVia) (cdb data : List (BitVec 8)) (c : List Nat), c = cdb.map BitVec.toNat →
  (∀ x ∈ ([(0x00, .testUnitReady via), (0x03, .requestSense via cdb), (0x12, .inquiry via cdb), (0x04, .formatUnit via data), (0x1B, .startStopUnit via cdb), (0x1E, .preventAllowMediumRemoval via cdb),
      (0x23, .readFormatCapacities via cdb), (0x25, .readCapacity via), (0x28, .read10 via cdb), (0xA8, .read12 via cdb), (0x2A, .write10 via cdb), (0xAA, .write12 via cdb), (0x2F, .verify10 via cdb),
      (0x35, .synchronizeCache via), (0x43, .readToc via cdb data), (0x51, .readDiscInformation via cdb data), (0x52, .readTrackInformation via cdb data), (0x46, .getConfiguration via cdb),
      (0x4A, .getEventStatusNotification via cdb), (0x53, .reserveTrack via cdb), (0x5B, .closeTrackSession via cdb), (0x54, .sendOpcInformation via), (0x55, .modeSelect10 via data), (0x5A, .modeSense10 via cdb),
      (0x5C, .readBufferCapacity via cdb), (0xAC, .getPerformance via cdb), (0xBD, .mechanismStatus via cdb), (0xAD, .readDiscStructure via cdb data), (0xB6, .setStreaming via), (0xBB, .setCdSpeed via),
      (0xBE, .readCd via cdb), (0xD0, .zvSeal via cdb), (0xD1, .zvDlaState via), (0xD2, .zvSetMode via cdb), (0xD8, .zvVault via cdb data)] : List (Nat × Instr)),
    ¬ mmcRoom via x.1 s → Completes x.2 s fun t => t.out = s.out ++ [.portStatus (viaJob via x.1).port (viaJob via x.1).id 0x28 0 0 0 none] ∧ sameBut [.regs, .out] s t ∧
      otherFields USB.page [USB.MMC_CMD_CNT, hdrSticky] s t) ∧
  (∀ op, mmcRoom via op s →
    (discMounted s = false → ∀ x ∈ ([(0x00, .testUnitReady via), (0x25, .readCapacity via), (0x04, .formatUnit via data), (0x43, .readToc via cdb data), (0x51, .readDiscInformation via cdb data),
        (0x52, .readTrackInformation via cdb data), (0x53, .reserveTrack via cdb), (0x5B, .closeTrackSession via cdb), (0xAD, .readDiscStructure via cdb data), (0xBE, .readCd via cdb)] : List (Nat × Instr)),
      op = x.1 → Completes x.2 s (mmcEnds via op [] 2 (if discAwaited s then { key := 2, asc := 0x04, ascq := 0x01 } else { key := 2, asc := 0x3A }) s.port s)) ∧
    (op = 0x00 → discMounted s = true → Completes (.testUnitReady via) s (mmcEnds via op [] 0 {} s.port s)) ∧
    (op = 0x03 → Completes (.requestSense via cdb) s (mmcEnds via op [([if s.port.sense.info.isSome then 0xF0 else 0x70, 0, s.port.sense.key] ++ beBytes 4 (s.port.sense.info.getD 0) ++
      [10, 0, 0, 0, 0, s.port.sense.asc, s.port.sense.ascq, 0, 0, 0, 0]).take (c.getD 4 0)] 0 {} s.port s)) ∧
    (op = 0x12 → (bit (c.getD 1 0) 0 = true → Completes (.inquiry via cdb) s (mmcEnds via op [] 2 { key := 5, asc := 0x24 } s.port s)) ∧
      (bit (c.getD 1 0) 0 = false → Completes (.inquiry via cdb) s fun t => ∃ d : List Nat, mmcEnds via op [d.take (cdbNum c 3 2)] 0 {} s.port s t ∧ d.length = 36 ∧ d.getD 0 0 = 0x05 ∧
        (d.drop 8).take 8 = ascii "ZHEVHEL " ∧ (d.drop 16).take 16 = ascii "ZC8816 CELLIA   ")) ∧
    (op = 0x04 → discMounted s = true → (profile s ≠ 0x0043 ∨ (data.map BitVec.toNat).getD 8 0 / 4 ∉ [0x00, 0x30, 0x31] → Completes (.formatUnit via data) s (mmcEnds via op [] 2 { key := 5, asc := 0x24 } s.port s)) ∧
      (profile s = 0x0043 → (data.map BitVec.toNat).getD 8 0 / 4 ∈ [0x00, 0x30, 0x31] → Completes (.formatUnit via data) s fun t => t.port = { s.port with sense := {} } ∧ sameBut [.regs, .out, .port] s t ∧
        t.out = s.out ++ [.portStatus (viaJob via op).port (viaJob via op).id 0 0 0 0 none])) ∧
    (op = 0x1E → Completes (.preventAllowMediumRemoval via cdb) s (mmcEnds via op [] 0 {} { s.port with prevent := bit (c.getD 4 0) 0 } s)) ∧
    (op = 0x23 → discMounted s = true → Completes (.readFormatCapacities via cdb) s (mmcEnds via op [([0, 0, 0, 8] ++ beBytes 4 (fget FMT.page FMT.LAST_LBA s + 1) ++ [2, 0, 8, 0]).take (cdbNum c 7 2)] 0 {} s.port s)) ∧
    (op = 0x25 → discMounted s = true → Completes (.readCapacity via) s (mmcEnds via op [beBytes 4 (fget FMT.page FMT.LAST_LBA s) ++ [0, 0, 8, 0]] 0 {} s.port s)) ∧
    (op = 0x35 → (∀ kv ∈ s.cl.cmds, kv.2.op ≠ 2) → Completes (.synchronizeCache via) s (mmcEnds via op [] 0 {} s.port s)) ∧
    (op = 0x35 → (∃ kv ∈ s.cl.cmds, kv.2.op = 2) → Completes (.synchronizeCache via) s fun t => t.out = s.out ∧
      t.port = { s.port with syncs := s.port.syncs ++ [((viaJob via op).port, (viaJob via op).id, s.cl.n)] } ∧ sameBut [.regs, .port] s t ∧ otherFields USB.page [USB.MMC_CMD_CNT, hdrSticky] s t) ∧
    (op = 0x43 → discMounted s = true → legacyDisc s = false → (c.getD 2 0 % 16 = 0 → Completes (.readToc via cdb data) s (mmcEnds via op [([0, 18, 1, 1, 0, 0x14, 1, 0, 0, 0, 0, 0, 0, 0x14, 0xAA, 0] ++
        beBytes 4 (fget FMT.page FMT.LAST_LBA s + 1)).take (cdbNum c 7 2)] 0 {} s.port s)) ∧
      (1 < c.getD 2 0 % 16 → Completes (.readToc via cdb data) s (mmcEnds via op [] 2 { key := 5, asc := 0x24 } s.port s))) ∧
    (op = 0x51 → discMounted s = true → legacyDisc s = false → Completes (.readDiscInformation via cdb data) s fun t => ∃ d : List Nat, mmcEnds via op [d.take (cdbNum c 7 2)] 0 {} s.port s t ∧ d.length = 34 ∧
      d.getD 2 0 % 4 = (if (sealState 0 s = 2 ∧ sealState 1 s = 2) ∨ fget FMT.page FMT.LAST_LBA s + 1 ≤ 32 * fget ENC.page ENC.FRONTIER s then 2 else 1)) ∧
    (op = 0x52 → discMounted s = true → legacyDisc s = false → Completes (.readTrackInformation via cdb data) s fun t => ∃ d : List Nat, mmcEnds via op [d.take (cdbNum c 7 2)] 0 {} s.port s t ∧ d.length = 36 ∧
      (d.drop 8).take 4 = [0, 0, 0, 0] ∧ (d.drop 12).take 4 = beBytes 4 (32 * fget ENC.page ENC.FRONTIER s) ∧ (d.drop 24).take 4 = beBytes 4 (fget FMT.page FMT.LAST_LBA s + 1)) ∧
    (op = 0x46 → c.getD 1 0 % 4 = 2 → discMounted s = true → profile s = 0xFF10 →
      (cdbNum c 2 2 = 0xFF10 → Completes (.getConfiguration via cdb) s (mmcEnds via op [([0, 0, 0, 12, 0, 0, 0xFF, 0x10, 0xFF, 0x10, 1, 4, fget FMT.page FMT.MEDIA_VARIANT s, sealState 0 s + 4 * sealState 1 s, 0, 0] :
        List Nat).take (cdbNum c 7 2)] 0 {} s.port s)) ∧
      (cdbNum c 2 2 = 0xFF11 → Completes (.getConfiguration via cdb) s (mmcEnds via op [([0, 0, 0, 8, 0, 0, 0xFF, 0x10, 0xFF, 0x11, b2n (!(sealState 0 s == 2 && sealState 1 s == 2)), 0] :
        List Nat).take (cdbNum c 7 2)] 0 {} s.port s))) ∧
    (op = 0x4A → (bit (c.getD 1 0) 0 = false → Completes (.getEventStatusNotification via cdb) s (mmcEnds via op [] 2 { key := 5, asc := 0x24 } s.port s)) ∧
      (bit (c.getD 1 0) 0 = true →
        (∀ e rest, bit (c.getD 4 0) 2 = true → s.port.power = e :: rest → Completes (.getEventStatusNotification via cdb) s
          (mmcEnds via op [([0, 6, 2, 0x14, e.1, e.2, 0, 0] : List Nat).take (cdbNum c 7 2)] 0 {} { s.port with power := rest } s)) ∧
        (∀ e rest, bit (c.getD 4 0) 2 = false ∨ s.port.power = [] → bit (c.getD 4 0) 4 = true → s.port.media = e :: rest → Completes (.getEventStatusNotification via cdb) s
          (mmcEnds via op [([0, 6, 4, 0x14, e, 2 * b2n (discMounted s), 0, 0] : List Nat).take (cdbNum c 7 2)] 0 {} { s.port with media := rest } s)) ∧
        (bit (c.getD 4 0) 2 = false → bit (c.getD 4 0) 4 = true → s.port.media = [] → Completes (.getEventStatusNotification via cdb) s
          (mmcEnds via op [([0, 6, 4, 0x14, 0, 2 * b2n (discMounted s), 0, 0] : List Nat).take (cdbNum c 7 2)] 0 {} s.port s)))) ∧
    (op = 0x53 → discMounted s = true → ∀ a, s.disc.nwa = some a →
      (profile s = 0x0041 → fon FMT.page FMT.STATUS_READ_ONLY s = false → cdbNum c 5 4 ≠ 0 → a + roundUp (cdbNum c 5 4) 32 ≤ fget FMT.page FMT.LAST_LBA s + 1 → Completes (.reserveTrack via cdb) s fun t =>
        t.disc = { s.disc with nwa := some (a + roundUp (cdbNum c 5 4) 32), ranges := s.disc.ranges ++ [(a, a + roundUp (cdbNum c 5 4) 32)] } ∧ sameBut [.regs, .out, .disc, .port] s t ∧
        t.out = s.out ++ [.portStatus (viaJob via op).port (viaJob via op).id 0 0 0 0 none]) ∧
      (profile s ≠ 0x0041 → Completes (.reserveTrack via cdb) s (mmcEnds via op [] 2 { key := 5, asc := 0x24 } s.port s))) ∧
    (op = 0x5B → discMounted s = true → (profile s ≠ 0x0041 → Completes (.closeTrackSession via cdb) s (mmcEnds via op [] 2 { key := 5, asc := 0x24 } s.port s)) ∧
      (profile s = 0x0041 → c.getD 2 0 % 8 ≠ 1 → Completes (.closeTrackSession via cdb) s fun t => t.disc = { s.disc with ranges := [], nwa := none } ∧ fget FMT.page FMT.STATUS_READ_ONLY t = 1 ∧
        sameBut [.regs, .out, .disc, .port] s t ∧ t.out = s.out ++ [.portStatus (viaJob via op).port (viaJob via op).id 0 0 0 0 none])) ∧
    (∀ x ∈ ([(0x54, .sendOpcInformation via), (0xB6, .setStreaming via), (0xBB, .setCdSpeed via)] : List (Nat × Instr)), op = x.1 → Completes x.2 s (mmcEnds via op [] 0 {} s.port s)) ∧
    (op = 0x55 → ∀ (bs : List Nat), data.map BitVec.toNat = [0, 0, 0, 0, 0, 0, 0, 0, 0x01, 10] ++ bs → bs.length = 10 → Completes (.modeSelect10 via data) s
      (mmcEnds via op [] 0 {} { s.port with pages := s.port.pages.insert 0x01 bs } s)) ∧
    (op = 0x55 → ∀ (p : Nat) (bs : List Nat), data.map BitVec.toNat = [0, 0, 0, 0, 0, 0, 0, 0, p, 10] ++ bs → p % 64 ∉ [0x01, 0x1A, 0x2A] → Completes (.modeSelect10 via data) s
      (mmcEnds via op [] 2 { key := 5, asc := 0x26 } s.port s)) ∧
    (op = 0x5A → ∀ x ∈ [(0x01, 10), (0x1A, 10), (0x2A, 26)], (c.getD 2 0 % 64 = x.1 → Completes (.modeSense10 via cdb) s
      (mmcEnds via op [([0, 8 + x.2, 0, 0, 0, 0, 0, 0, x.1, x.2] ++ (s.port.pages.get x.1 [] ++ List.replicate x.2 0).take x.2).take (cdbNum c 7 2)] 0 {} s.port s))) ∧
    (op = 0x5A → c.getD 2 0 % 64 ∉ [0x01, 0x1A, 0x2A, 0x3F] → Completes (.modeSense10 via cdb) s (mmcEnds via op [] 2 { key := 5, asc := 0x24 } s.port s)) ∧
    (op = 0x5C → Completes (.readBufferCapacity via cdb) s (mmcEnds via op [([0, 10, 0, 0] ++ beBytes 4 Config.bufferCapacity ++ beBytes 4 Config.bufferCapacity).take (cdbNum c 7 2)] 0 {} s.port s)) ∧
    (op = 0xAC → c.getD 10 0 = 0 → modeNow s < 3 → Completes (.getPerformance via cdb) s fun t => ∃ (d : List Nat) (r : Nat), mmcEnds via op [d.take (8 + 16 * cdbNum c 8 2)] 0 {} s.port s t ∧ d.length = 24 ∧
      r = [1487500, 995000, 497500].getD (modeNow s) 0 / (if bit (c.getD 1 0) 2 then 2 else 1) ∧ (d.drop 12).take 4 = beBytes 4 r ∧ (d.drop 20).take 4 = beBytes 4 r) ∧
    (op = 0xBD → Completes (.mechanismStatus via cdb) s (mmcEnds via op [(List.replicate 8 0).take (cdbNum c 8 2)] 0 {} s.port s)) ∧
    (op = 0xAD → discMounted s = true → (profile s = 0x0043 → c.getD 7 0 = 0 → c.getD 1 0 % 16 = 1 → Completes (.readDiscStructure via cdb data) s
        (mmcEnds via op [(beBytes 2 (2 + data.length) ++ [0, 0] ++ data.map BitVec.toNat).take (cdbNum c 8 2)] 0 {} s.port s)) ∧
      (c.getD 7 0 ≠ 0x00 → c.getD 7 0 ≠ 0xFF → Completes (.readDiscStructure via cdb data) s (mmcEnds via op [] 2 { key := 5, asc := 0x24 } s.port s))) ∧
    (op = 0xD1 → Completes (.zvDlaState via) s fun t => ∃ d : List Nat, mmcEnds via op [d] 0 {} s.port s t ∧ d.length = 32 ∧ d.take 4 = [fget FMT.page FMT.MEDIA_VARIANT s, sealState 0 s + 4 * sealState 1 s, 0, 0] ∧
      (d.drop 4).take 4 = leBytes 4 (fget ENC.page ENC.FRONTIER s) ∧ (d.drop 12).take 8 = leBytes 8 (wseq s)) ∧
    (op = 0xD8 → bit (c.getD 1 0) 0 = true → (fget VLQ.page VLQ.STATUS_STATE s ≠ 2 → Completes (.zvVault via cdb data) s (mmcEnds via op [] 2 { key := 2, asc := 0x04, ascq := 0x01 } s.port s)) ∧
      (fget VLQ.page VLQ.STATUS_STATE s = 2 → Completes (.zvVault via cdb data) s
        (mmcEnds via op [(bufBytes s.vault.rspBuf (16 + s.vault.rspBuf.get 1 0)).take (cdbNum c 6 4)] 0 {} s.port s))) ∧
    (op = 0xD8 → bit (c.getD 1 0) 0 = false → (s.claim claimVlq).holder = none → fget VLQ.page VLQ.STATUS_STATE s ≠ 1 → Completes (.zvVault via cdb data) s fun t =>
      t.vault.op = some { req := 4, start := s.time } ∧ t.vault.reqBuf.get 0 0 = ofLe (((data.map BitVec.toNat).take (cdbNum c 6 4)).take 4) ∧ fget VLQ.page VLQ.STATUS_STATE t = 1 ∧
      (t.claim claimVlq).holder = none ∧ t.out = s.out ++ [.portStatus (viaJob via op).port (viaJob via op).id 0 0 0 0 none] ∧ sameBut [.regs, .out, .port, .vault, .claims] s t) ∧
    (∀ code : BitVec 8, op = code.toNat → op ∉ [0x00, 0x03, 0x12, 0x04, 0x1B, 0x1E, 0x23, 0x25, 0x28, 0xA8, 0x2A, 0xAA, 0x2F, 0x35, 0x43, 0x51, 0x52, 0x46, 0x4A, 0x53, 0x5B, 0x54, 0x55, 0x5A, 0x5C, 0xAC, 0xBD, 0xAD,
        0xB6, 0xBB, 0xBE, 0xD0, 0xD1, 0xD2, 0xD8] → Completes (.unsupportedMmcCommand via code) s fun t =>
      t.out.getLast? = some (.portStatus (viaJob via op).port (viaJob via op).id 2 5 0x20 0 none) ∧ t.port = { s.port with sense := { key := 5, asc := 0x20 } } ∧
      t.evq = s.evq ++ [⟨0x5017, srcHost, 0xFF, code.toNat, 0x0520, false⟩] ∧ hasInt USB.page USB.iMMC_REJ t ∧ fget USB.page USB.LAST_REJ_OP t = code.toNat ∧
      (fget USB.page USB.MMC_REJ_CNT s < 2 ^ 16 - 1 → fget USB.page USB.MMC_REJ_CNT t = fget USB.page USB.MMC_REJ_CNT s + 1) ∧ sameBut [.regs, .evq, .out, .msixPend, .port] s t))

/-- R446, R464, R465, R474, R569: the MMC commands that become native commands of the policy cores, ejection, and PACKET on the SATA port. -/
def Obligations.MmcTranslation : Prop := ∀ (s : State) (via : MmcVia) (cdb : List (BitVec 8)) (c : List Nat), c = cdb.map BitVec.toNat →
  (∀ x ∈ ([(.read10 via cdb, nativeOf via 0x28 1 (cdbNum c 2 4) (cdbNum c 7 2) 0), (.read12 via cdb, nativeOf via 0xA8 1 (cdbNum c 2 4) (cdbNum c 6 4) 0),
      (.write10 via cdb, nativeOf via 0x2A 2 (cdbNum c 2 4) (cdbNum c 7 2) 0), (.write12 via cdb, nativeOf via 0xAA 2 (cdbNum c 2 4) (cdbNum c 6 4) 0),
      (.verify10 via cdb, nativeOf via 0x2F 3 (cdbNum c 2 4) (cdbNum c 7 2) 0), (.readCd via cdb, nativeOf via 0xBE 1 (cdbNum c 2 4) (cdbNum c 6 3) 0),
      (.zvSeal via cdb, nativeOf via 0xD0 4 0 0 (c.getD 1 0 % 4)), (.zvSetMode via cdb, nativeOf via 0xD2 12 0 0 (c.getD 1 0 + 256 * b2n (bit (c.getD 2 0) 0))),
      (.startStopUnit via cdb, nativeOf via 0x1B (if bit (c.getD 4 0) 0 then 10 else 12) 0 0 (if bit (c.getD 4 0) 0 then 0 else 3))] : List (Instr × Cmd)),
    mmcRoom via ((x.2.job.getD ⟨0, 0, 0⟩).op) s → (x.2.clustered = true → 0 < x.2.count) → (x.1 = .verify10 via cdb → bit (c.getD 1 0) 1 = false) →
    (x.1 = .readCd via cdb → discMounted s = true ∧ profile s = 0x0008) → (x.1 = .startStopUnit via cdb → discMounted s = false ∧ (bit (c.getD 4 0) 0 = false → bit (c.getD 4 0) 1 = false)) →
    (x.1 = .zvSetMode via cdb → c.getD 1 0 ≤ 4) →
    (∀ t, fwTag s = some t → intakeCode t false x.2 s = 0 → Completes x.1 s fun u => ∃ d, u.cl.cmds.find t = some d ∧ d.n = s.cl.n + 1 ∧ d.req = 4 ∧ d.op = x.2.op ∧ d.lba = x.2.lba ∧ d.count = x.2.count ∧
      d.arg0 = x.2.arg0 ∧ d.job = x.2.job ∧ u.cl.order = s.cl.order ++ [t] ∧ u.cl.n = s.cl.n + 1 ∧ fget TRF.page TRF.SEQ u = (s.cl.n + 1) % 2 ^ 32 ∧
      fget TRF.page TRF.RESULT_CODE u = 0 ∧ fget TRF.page TRF.RESULT_TAG u = t % 2 ^ 12 ∧ fget TRF.page TRF.RESULT_REQ u = 4) ∧
    (∀ t, fwTag s = some t → intakeCode t false x.2 s = 5 → pastEnd x.2 s = true → Completes x.1 s (mmcEnds via ((x.2.job.getD ⟨0, 0, 0⟩).op) [] 2 { key := 5, asc := 0x21 } s.port s)) ∧
    (fwTag s = none → Completes x.1 s (mmcEnds via ((x.2.job.getD ⟨0, 0, 0⟩).op) [] 2 { key := 0xB } s.port s))) ∧
  (∀ x ∈ ([(0x28, .read10 via cdb, cdbNum c 7 2), (0xA8, .read12 via cdb, cdbNum c 6 4), (0x2A, .write10 via cdb, cdbNum c 7 2), (0xAA, .write12 via cdb, cdbNum c 6 4)] : List (Nat × Instr × Nat)),
    mmcRoom via x.1 s → x.2.2 = 0 → Completes x.2.1 s (mmcEnds via x.1 [] 0 {} s.port s)) ∧
  (mmcRoom via 0x2F s → bit (c.getD 1 0) 1 = true → Completes (.verify10 via cdb) s (mmcEnds via 0x2F [] 2 { key := 5, asc := 0x24 } s.port s)) ∧
  (mmcRoom via 0xD2 s → 4 < c.getD 1 0 → Completes (.zvSetMode via cdb) s (mmcEnds via 0xD2 [] 2 { key := 5, asc := 0x24 } s.port s)) ∧
  (mmcRoom via 0xBE s → discMounted s = true → profile s ≠ 0x0008 → Completes (.readCd via cdb) s (mmcEnds via 0xBE [] 2 { key := 5, asc := 0x24 } s.port s)) ∧
  (mmcRoom via 0x1B s → bit (c.getD 4 0) 0 = true → discMounted s = true → modeNow s < 3 → Completes (.startStopUnit via cdb) s (mmcEnds via 0x1B [] 0 {} s.port s)) ∧
  (mmcRoom via 0x1B s → bit (c.getD 4 0) 0 = false → bit (c.getD 4 0) 1 = true →
    (s.port.prevent = true → Completes (.startStopUnit via cdb) s (mmcEnds via 0x1B [] 2 { key := 5, asc := 0x53, ascq := 0x02 } s.port s)) ∧
    (s.port.prevent = false → s.port.unload = none → Completes (.startStopUnit via cdb) s fun t => t.port.unload = some ⟨s.time, 1, s.cl.n, false, [viaJob via 0x1B]⟩ ∧
      (s.port.media.length < 8 → t.port.media = s.port.media ++ [1]) ∧ sameBut [.regs, .out, .msixPend, .port] s t)) ∧
  (∀ (data : List (BitVec 8)) (limit crcErrors : BitVec 16),
    (fon SATA.page SATA.CTRL_EN s = false ∨ s.port.ataAsleep = true → Completes (.packet cdb data limit crcErrors) s fun t => t = s) ∧
    (fon SATA.page SATA.CTRL_EN s = true → s.port.ataAsleep = false → portLoad 2 s = 0 → c.getD 0 0 = 0x00 → discMounted s = true → Completes (.packet cdb data limit crcErrors) s fun t =>
      t.out = s.out ++ [.portStatus 2 0 0 0 0 0 none] ∧ t.port = { s.port with sense := {} } ∧ fget SATA.page SATA.BYTE_LIMIT t = limit.toNat ∧ fget SATA.page SATA.STATUS_CMD_ACTIVE t = 0 ∧
      (fget SATA.page SATA.PKT_CNT s < 2 ^ 32 - 1 → fget SATA.page SATA.PKT_CNT t = fget SATA.page SATA.PKT_CNT s + 1) ∧ sameBut [.regs, .out, .port] s t ∧
      otherFields SATA.page [SATA.PKT_CNT, SATA.FIS_CRC_ERR_CNT, SATA.BYTE_LIMIT, SATA.STATUS_CMD_ACTIVE, hdrSticky] s t) ∧
    (fon SATA.page SATA.CTRL_EN s = true → s.port.ataAsleep = false → portLoad 2 s = 0 → c.getD 0 0 = 0xA3 ∨ c.getD 0 0 = 0xA4 → Completes (.packet cdb data limit crcErrors) s fun t =>
      t.out.getLast? = some (.portStatus 2 0 2 5 0x20 0 none) ∧ t.evq = s.evq ++ [⟨0x5017, srcHost, 0xFF, c.getD 0 0, 0x0520, false⟩] ∧ hasInt SATA.page SATA.iMMC_REJ t ∧
      fget SATA.page SATA.LAST_REJ_OP t = c.getD 0 0) ∧
    (fon SATA.page SATA.CTRL_EN s = true → s.port.ataAsleep = false → 0 < portLoad 2 s → Completes (.packet cdb data limit crcErrors) s fun t =>
      t.out = s.out ++ [.portStatus 2 0 0x28 0 0 0 none]))

/-- R470 to R472, R537: the library port: common commands, library commands and their responses, and in-band interrupts. Byte layouts that the I3C standard gives are the model's (the log). -/
def Obligations.LibraryPort : Prop := ∀ s : State,
  (libOn s = false → ∀ (a b : BitVec 7) (e : BitVec 8) (n : BitVec 16) (r : BitVec 24) (v : BitVec 32) (ws : List (BitVec 32)) (x : Bool), ∀ c ∈ ([.entdaa a, .setdasa a b, .setnewda a, .rstdaa, .enec e, .disec e, .getpid,
      .getbcr, .getdcr, .getstatus, .getmwl, .getmrl, .setmwl n, .setmrl n, .rstact e, .libraryPrivateRead, .readStatus, .regRead r, .regWrite r v, .mbxSend e ws, .mbxRecv, .mbxAck, .modeReq e e,
      .unknownLibraryCommand e, .inBandInterrupt x, .ibiRetry x] : List Instr), Completes c s fun t => t = s) ∧
  (libOn s = true →
    (∀ (a b : BitVec 7), ∀ x ∈ ([(.entdaa a, 0, hasAddress s = false), (.setdasa b a, 1, hasAddress s = false ∧ b.toNat = fget LIB.page LIB.STATIC_ADDR s), (.setnewda a, 2, hasAddress s = true)] : List (Instr × Nat × Prop)),
      (x.2.2 → Completes x.1 s fun t => fget LIB.page LIB.STATUS_DA_VALID t = 1 ∧ fget LIB.page LIB.STATUS_DA t = a.toNat ∧ hasInt LIB.page LIB.iDA_ASSIGNED t ∧
        t.evq = s.evq ++ [⟨0x5014, srcHost, 1, a.toNat, x.2.1, false⟩] ∧ sameBut [.regs, .evq, .out, .msixPend] s t ∧ otherFields LIB.page [LIB.STATUS_DA_VALID, LIB.STATUS_DA, hdrIntStatus] s t) ∧
      (¬ x.2.2 → Completes x.1 s fun t => t = s)) ∧
    (Completes .rstdaa s fun t => fget LIB.page LIB.STATUS_DA_VALID t = 0 ∧ fget LIB.page LIB.STATUS_DA t = 0 ∧ sameBut [.regs] s t ∧ otherFields LIB.page [LIB.STATUS_DA_VALID, LIB.STATUS_DA] s t) ∧
    (∀ e : BitVec 8, (Completes (.enec e) s fun t => t = (if bit e.toNat 0 then { s with port := { s.port with ibiOn := true } } else s)) ∧
      (Completes (.disec e) s fun t => t = (if bit e.toNat 0 then { s with port := { s.port with ibiOn := false } } else s)) ∧
      (Completes (.rstact e) s fun t => t = { s with port := { s.port with rstact := e.toNat } })) ∧
    (∀ x ∈ ([(.getpid, beBytes 6 (fget64 LIB.page LIB.PID_LO LIB.PID_HI s)), (.getbcr, [fget LIB.page LIB.BCR s]), (.getdcr, [fget LIB.page LIB.DCR s]), (.getmwl, beBytes 2 s.port.mwl),
        (.getmrl, beBytes 2 s.port.mrl ++ [2]), (.getstatus, [0, b2n (ibiPending s) + 32 * b2n (fget LIB.page hdrFault s == 1)])] : List (Instr × List Nat)),
      Completes x.1 s fun t => t = { s with out := s.out ++ [.i3c x.2] }) ∧
    (∀ n : BitVec 16, (Completes (.setmwl n) s fun t => t = { s with port := { s.port with mwl := min n.toNat 68 } }) ∧
      (Completes (.setmrl n) s fun t => t = { s with port := { s.port with mrl := min n.toNat 68 } })) ∧
    (modeNow s ≠ 4 → Completes .libraryPrivateRead s fun t => t = { s with out := s.out ++ [.i3c ((s.port.resp.getD [0x02]).take s.port.mrl)] }) ∧
    (modeNow s = 4 → (∃ c, Held.library c ∈ s.pwr.held) → Completes .libraryPrivateRead s fun t => t.out = s.out ++ [.i3c [0x04]] ∧
      (bit (fget PWR.page PWR.WAKE_EN s) 2 = true → bit t.pwr.wake 2 = true) ∧ sameBut [.out, .pwr] s t) ∧
    (modeNow s = 4 → ∀ (m f e : BitVec 8) (ws : List (BitVec 32)), ∀ x ∈ ([(.readStatus, .readStatus), (.mbxSend e ws, .mbxSend e ws), (.mbxRecv, .mbxRecv), (.mbxAck, .mbxAck), (.modeReq m f, .modeReq m f),
        (.unknownLibraryCommand e, .unknown)] : List (Instr × LibCmd)), Completes x.1 s fun t => t.pwr.held = s.pwr.held ++ [.library x.2] ∧
      (bit (fget PWR.page PWR.WAKE_EN s) 2 = true → bit t.pwr.wake 2 = true) ∧ sameBut [.pwr] s t) ∧
    (modeNow s ≠ 4 →
      (Completes .readStatus s fun t => ∃ d, t.port = { s.port with resp := some (0 :: d) } ∧ d.length = 15 ∧ d.getD 0 0 = modeNow s ∧ bit (d.getD 1 0) 0 = fon LIB.page LIB.STATUS_DISC_PRES s ∧
        bit (d.getD 1 0) 1 = clampReq s ∧ bit (d.getD 1 0) 2 = safeState s ∧ bit (d.getD 1 0) 3 = discMounted s ∧ bit (d.getD 1 0) 4 = unloadPend s ∧ (d.drop 3).take 2 = leBytes 2 s.cl.order.length ∧
        (d.drop 7).take 4 = leBytes 4 (fget DEV.page DEV.OP_TIME s) ∧ (d.drop 11).take 4 = leBytes 4 (fget LIB.page hdrIntStatus s) ∧ sameBut [.regs, .port] s t ∧
        otherFields LIB.page [LIB.CMD_CNT, hdrSticky] s t) ∧
      (∀ c : BitVec 8, Completes (.unknownLibraryCommand c) s fun t => t.port = { s.port with resp := some [2] } ∧ fget LIB.page LIB.LAST_ERR t = 2 ∧ hasInt LIB.page LIB.iCMD_ERR t ∧
        sameBut [.regs, .out, .msixPend, .port] s t ∧ otherFields LIB.page [LIB.CMD_CNT, LIB.CMD_ERR_CNT, LIB.LAST_ERR, hdrSticky, hdrIntStatus] s t) ∧
      (∀ m f : BitVec 8, 4 < m.toNat → Completes (.modeReq m f) s fun t => t.port = { s.port with resp := some [2] } ∧ fget LIB.page LIB.LAST_ERR t = 2 ∧ hasInt LIB.page LIB.iCMD_ERR t ∧
        sameBut [.regs, .out, .msixPend, .port] s t) ∧
      (∀ m f : BitVec 8, m.toNat ≤ 2 → s.cl.deferred = none → discMounted s = false → Completes (.modeReq m f) s fun t => t.port = { s.port with resp := some [0] } ∧ fget PWR.page PWR.STATUS_REQ t = m.toNat ∧
        t.pwr.asked = true ∧ t.pwr.rest = none ∧ sameBut [.regs, .port, .pwr] s t) ∧
      (∀ m f : BitVec 8, 3 ≤ m.toNat → m.toNat ≤ 4 → modeNow s ≠ m.toNat → s.cl.deferred = none → s.cl.order = [] → s.cl.test = none → Completes (.modeReq m f) s fun t =>
        t.port = { s.port with resp := some [0] } ∧ t.pwr = { s.pwr with rest := some m.toNat } ∧ sameBut [.regs, .cl, .port, .pwr] s t) ∧
      (mbxFull 7 s = true → (Completes .mbxRecv s fun t => ∃ n, n = fget MBX.page (MBX.MSTAT_LEN.ix 7) s ∧
          t.port = { s.port with resp := some (0 :: n :: (List.range n).flatMap (fun i => leBytes 4 (fget MBX.page (MBX.DATA.ix2 7 i) s))) } ∧ sameBut [.regs, .port] s t ∧
          otherFields LIB.page [LIB.CMD_CNT, hdrSticky] s t) ∧
        (Completes .mbxAck s fun t => t.port.resp = some [0] ∧ fget MBX.page (MBX.MSTAT_FULL.ix 7) t = 0 ∧ hasInt MBX.page 15 t ∧ (t.claim (claimMbx 7)).holder = none ∧
          sameBut [.regs, .out, .msixPend, .claims, .port] s t)) ∧
      (mbxFull 7 s = false → (Completes .mbxRecv s fun t => t.port = { s.port with resp := some [5] } ∧ sameBut [.regs, .port] s t ∧ otherFields LIB.page [LIB.CMD_CNT, hdrSticky] s t) ∧
        (Completes .mbxAck s fun t => t.port = { s.port with resp := some [5] } ∧ hasSticky MBX.page MBX.kLATE_ACK t ∧ sameBut [.regs, .port] s t)) ∧
      (∀ (n : BitVec 8) (ws : List (BitVec 32)),
        (n = 0 ∨ 16 < n.toNat ∨ ws.length ≠ n.toNat → Completes (.mbxSend n ws) s fun t => t.port = { s.port with resp := some [2] } ∧ hasInt LIB.page LIB.iCMD_ERR t ∧ sameBut [.regs, .out, .msixPend, .port] s t) ∧
        (n ≠ 0 → n.toNat ≤ 16 → ws.length = n.toNat → mbxRefuses 0 1 s ≠ 0 → Completes (.mbxSend n ws) s fun t => t.port = { s.port with resp := some [1] } ∧ sameBut [.regs, .port] s t ∧
          otherFields LIB.page [LIB.CMD_CNT, hdrSticky] s t) ∧
        (n ≠ 0 → n.toNat ≤ 16 → ws.length = n.toNat → mbxRefuses 0 1 s = 0 → Completes (.mbxSend n ws) s fun t => t.port.resp = some [0] ∧ fget MBX.page (MBX.MSTAT_FULL.ix 0) t = 1 ∧
          fget MBX.page (MBX.MSTAT_LEN.ix 0) t = n.toNat ∧ (∀ i < n.toNat, fget MBX.page (MBX.DATA.ix2 0 i) t = (ws.getD i 0).toNat) ∧ hasInt MBX.page 0 t ∧
          sameBut [.regs, .evq, .out, .msixPend, .claims, .port, .pwr] s t))) ∧
    (modeNow s ≠ 4 → s.dev.hold = none → fon STL.page STL.STATUS_FROZEN s = false → s.obs.loHeld.find 1 = none →
      (s.obs.latches.find (latchKey 1 0x04004C) = none → Completes (.regRead 0x04004C) s fun t => t.port = { s.port with resp := some (0 :: leBytes 4 (fget SPN.page SPN.SPEED_EST s)) } ∧
        sameBut [.regs, .port, .obs] s t) ∧
      (∀ v : BitVec 32, Completes (.regWrite 0x040064 v) s fun t => t.port = { s.port with resp := some [0] } ∧ fget SPN.page SPN.MOTOR2_LS t = v.toNat % 2 ^ 16 ∧
        fget SPN.page SPN.MOTOR2_KE t = v.toNat / 2 ^ 16 ∧ sameBut [.regs, .port, .obs] s t)) ∧
    (∀ (a : BitVec 24) (v : BitVec 32), modeNow s ≠ 4 → addrIsland a.toNat = none → ∀ c ∈ [Instr.regRead a, .regWrite a v], Completes c s fun t => t.port.resp = some [3] ∧ hasInt PPC.page PPC.iBUS_ERR t ∧
      fget LIB.page LIB.LAST_ERR t = 3 ∧ hasInt LIB.page LIB.iCMD_ERR t) ∧
    (∀ x : Bool, ibiAllowed s = true →
      (∀ y ∈ [(Instr.inBandInterrupt x, ibiPending s), (.ibiRetry x, s.port.ibiAgain)],
        (y.2 = false → Completes y.1 s fun t => t = s) ∧
        (y.2 = true → x = false → Completes y.1 s fun t => t = { s with port := { s.port with ibiAgain := false }, out := s.out ++ [.ibi [0, fget LIB.page hdrIntStatus s % 256]] }) ∧
        (y.2 = true → x = true → Completes y.1 s fun t => t.port = { s.port with ibiAgain := true } ∧ hasInt LIB.page LIB.iIBI_NACK t ∧ sameBut [.regs, .out, .msixPend, .port] s t))) ∧
    (∀ x : Bool, ibiAllowed s = false → ∀ y ∈ [Instr.inBandInterrupt x, .ibiRetry x], Completes y s fun t => t = s))

/-- R129: what each code of the condition field selects, at a branch and at a call. -/
def Obligations.BranchConditions : Prop := ∀ (s : State) (e : Fin 20) (w : BitVec 26) (f : Flags) (h pf : Bool) (holds : List Bool), executing e s = true → engState e s = 1 → inCust e s = false →
  fon (ENG.page e) ENG.STATUS_UFMT s = false → fld w 21 13 = 0 → (s.eng e).cust = none → (s.eng e).r.sp < 8 → f = (s.eng e).r.flags → h = flagH e s → pf = flagPF e s →
  holds = [true, f.z, !f.z, f.n, !f.n, !f.n && !f.z, f.n || f.z, h, !h, f.c, !f.c, f.v, !f.v, pf, !pf] →
  (∀ k, holds[fld w 25 22]? = some k → ∀ i ∈ [Instr.branch e w, .call e w], Completes i s fun t => pcOf e t = (if k then fld w 12 0 else (pcOf e s + 1) % 2 ^ 13) ∧
    (∀ g, g ≠ e → t.eng g = s.eng g) ∧ sameBut [.regs, .engs] s t ∧ otherFields (ENG.page e) [ENG.PC, hdrSticky] s t) ∧
  (fld w 25 22 = 15 → ∀ i ∈ [Instr.branch e w, .call e w], Completes i s (trapTaken e 0x01 0 s))

/-- R583: an event posted by a register-window master, from the writes that make it to its record. -/
def Obligations.PostedEvents : Prop := ∀ (s : State) (req : Fin 28), s.dev.hold = none → fon STL.page STL.STATUS_FROZEN s = false → s.obs.loHeld.find req = none →
  (∀ (a : BitVec 24) (v : BitVec 64), a.toNat = 4096 * EVR.page + 0x07C → Completes (.registerWrite req a 4 v) s fun t => fget EVR.page EVR.POST_CODE t = v.toNat % 2 ^ 16 ∧
    sameBut [.regs] s t ∧ otherFields EVR.page [EVR.POST_CODE] s t) ∧
  (∀ (a : BitVec 24) (v : BitVec 64) (k : Fin 3), a.toNat = 4096 * EVR.page + 0x080 + 4 * k → Completes (.registerWrite req a 4 v) s fun t => fget EVR.page (EVR.POST_P.ix k) t = v.toNat % 2 ^ 32 ∧
    sameBut [.regs] s t ∧ otherFields EVR.page [EVR.POST_P.ix k] s t) ∧
  (∀ (a : BitVec 24) (v : BitVec 64), a.toNat = 4096 * EVR.page + 0x08C → bit v.toNat 0 = true → ∀ c ∈ [Instr.postCtrl req, .registerWrite req a 4 v],
    (fget EVR.page EVR.POST_CODE s / 2 ^ 12 = 6 → Completes c s fun t => hasSticky EVR.page EVR.kPOST_REJ t ∧ sameBut [.regs] s t ∧ otherFields EVR.page [hdrSticky] s t) ∧
    (fget EVR.page EVR.POST_CODE s / 2 ^ 12 ≠ 6 → Completes c s fun t => ∃ e, t.evq = s.evq ++ [e] ∧ e.code = fget EVR.page EVR.POST_CODE s ∧ e.src = req.val ∧ e.posted = true ∧
      e.p0 = fget EVR.page (EVR.POST_P.ix 0) s ∧ e.p1 = fget EVR.page (EVR.POST_P.ix 1) s ∧ e.p2 = fget EVR.page (EVR.POST_P.ix 2) s ∧ (e.src < 32 ∨ 39 < e.src) ∧ sameBut [.evq] s t)) ∧
  (∀ e, s.evq.find? (fun x => x.src = req.val) = some e → e.posted = true → fon EVR.page EVR.STATUS_FULL s = false → s.obs.episode = none → mergesInto e s = none → s.obs.buf.length < 16 →
    Completes (.eventArrival (BitVec.ofNat 8 req)) s fun t => ∃ r, t.obs.buf = s.obs.buf ++ [r] ∧ r.code = e.code ∧ r.src = req.val ∧ bit r.flags 2 = true ∧ r.p0 = e.p0 ∧ r.p1 = e.p1 ∧ r.p2 = e.p2)

/-- R479: WITHDRAW, an ACK that comes late, and both in one cycle. -/
def Obligations.WithdrawAndLateAck : Prop := ∀ (s : State) (m : Fin 8),
  (mbxFull m s = true → Completes (.withdraw m) s fun t => mbxFull m t = false ∧ (t.claim (claimMbx m)).holder = none ∧ raised MBX.page (8 + m) t = raised MBX.page (8 + m) s ∧
    sameBut [.regs, .claims, .port] s t ∧ otherFields MBX.page [MBX.MSTAT_FULL.ix m, MBX.STATUS_FULL] s t) ∧
  (mbxFull m s = false → ∀ w, Completes (.mailboxAck m w) s fun t => hasSticky MBX.page MBX.kLATE_ACK t ∧ sameBut [.regs] s t ∧ otherFields MBX.page [hdrSticky] s t) ∧
  (mbxFull m s = true → exec (.mailboxAck m true) s = exec (.mailboxAck m false) s ∧ Completes (.mailboxAck m true) s fun t => mbxFull m t = false ∧ (t.claim (claimMbx m)).holder = none ∧
    hasInt MBX.page (8 + m) t)

/-- One step takes the command at the front of the queue and runs it on the state with the rest of the queue. -/
def Obligations.StepRunsTheFrontCommand : Prop := ∀ (c : Instr) (rest : List Instr) (s : State), step { s with pending := c :: rest } = exec c { s with pending := rest }

/-- R16: with no command waiting, a step is one 25 MHz cycle of device time (the model's choice, log entry 10); while a power loss holds the reset, nothing happens. -/
def Obligations.EmptyQueueIsOneCycle : Prop := ∀ s : State, s.pending = [] →
  (powerOff s = false → ∃ t, step s = .next t ∧ t.time = s.time + 1 ∧ t.pending = [] ∧ sameBut [.time, .regs, .out, .msixPend] s t ∧
    (s.time % 87890625 = 0 → fget DEV.page DEV.OP_TIME t = (fget DEV.page DEV.OP_TIME s + 1) % 2 ^ 32) ∧
    (s.time % 87890625 ≠ 0 → fget DEV.page DEV.OP_TIME t = fget DEV.page DEV.OP_TIME s) ∧
    (fon PMC.page PMC.CTRL_HOLD s = true → s.time % 87890625 ≠ 0 → sameRegs s t)) ∧
  (powerOff s = true → step s = .next s)

/-- Every step from every state answers a next state: no command of the table ends in a fault or a refusal. -/
def Obligations.EveryStepCompletes : Prop := ∀ s : State, ∃ t, step s = .next t

/-- A command changes nothing of the queue behind it, nothing the block has already sent, and takes no free value back. -/
def Obligations.QueueAndOutputStand : Prop := ∀ (c : Instr) (rest : List Instr) (s t : State), step { s with pending := c :: rest } = .next t →
  t.pending = rest ∧ s.out <+: t.out ∧ s.free ≤ t.free

/-- R492: from any state, a step never takes back a bit of the one-time memory: programmed owner slots stand, and neither counter falls. -/
def Obligations.OneTimeMemoryOnlyGrows : Prop := ∀ s t : State, step s = .next t →
  s.otp.owners <+: t.otp.owners ∧ s.otp.rollback ≤ t.otp.rollback ∧ s.otp.floor ≤ t.otp.floor

/-- The register file keeps its canonical order, keys strictly rising, through every step. -/
def Obligations.RegistersStayOrdered : Prop := ∀ s t : State, s.regs.sorted = true → step s = .next t → t.regs.sorted = true

/-- R16, R492, R558, R566, R606: the state after reset meets the invariants, and holds what the spec says power-on leaves; the one-time memory without an owner is the model's choice (log entry 3). -/
def Obligations.ResetState : Prop :=
  State.reset.regs.sorted = true ∧ State.reset.pending = [] ∧ State.reset.time = 0 ∧ State.reset.evq = [] ∧ State.reset.out = [] ∧ State.reset.otp.owners = [] ∧
  fget DEV.page DEV.STATUS_BOOT_STATE State.reset = 0 ∧ fget DEV.page DEV.CHIP_ID_PART State.reset = 0x8816 ∧ fget DEV.page DEV.CHIP_ID_STEPPING State.reset = 0xB0 ∧
  fget DEV.page DEV.RESET_CAUSE State.reset = 1 ∧ fget DEV.page DEV.RESET_HIST State.reset = 1 ∧ fget DEV.page DEV.WDOG_CFG_WDOG_MS State.reset = 2000 ∧ fget DEV.page DEV.WDOG_CFG_EN State.reset = 1 ∧
  fget TRF.page TRF.FREEZE_CFG_MASK State.reset = 0x100 ∧ fget USB.page USB.UAS_QDEPTH State.reset = 32 ∧ fget VLQ.page VLQ.CLAIM_TO_MS State.reset = 1000 ∧
  fget CPL.page (CPL.PHASE.ix 3) State.reset = 1 ∧ fget CPL.page (CPL.CFG_SIZE_EXP.ix 0) State.reset = 4 ∧
  (∀ p ∈ [DEV.page, TRF.page, CPL.page, VLQ.page, USB.page, SPN.page, ENC.page, XTS.page], fget p hdrIntStatus State.reset = 0 ∧ fget p hdrIntEnable State.reset = 0 ∧ fget p hdrSticky State.reset = 0 ∧
    fget p hdrFault State.reset = 0) ∧
  fget XTS.page XTS.STATUS_KEY_LOADED State.reset = 0 ∧ fget FMT.page FMT.STATUS_STATE State.reset = 0 ∧ fget ENC.page ENC.FRONTIER State.reset = 0
end

