-- ==== Sys2Proof/Laws/Store.lean ====
section
/-!
SUPPORT. The laws of sparse data: read after write, every other key left alone, and the canonical form kept.
-/
namespace Sys2Proof.Machine

variable {α : Type} (m : Store α) (k j : Nat) (v d : α)

@[simp] theorem Store.find_nil : Store.find ([] : Store α) k = none := rfl

@[simp] theorem Store.find_insert_same : (m.insert k v).find k = some v := by
  induction m with
  | nil => simp [Store.insert, Store.find]
  | cons x m ih =>
    obtain ⟨k', v'⟩ := x
    simp only [Store.insert]
    split
    · simp [Store.find]
    · split
      · simp [Store.find]
      · rename_i h _
        simp [Store.find, h, ih]

theorem Store.find_insert_other (h : j ≠ k) : (m.insert k v).find j = m.find j := by
  induction m with
  | nil => simp [Store.insert, Store.find, Ne.symm h]
  | cons x m ih =>
    obtain ⟨k', v'⟩ := x
    simp only [Store.insert]
    split
    · rename_i h'
      subst h'
      simp [Store.find, Ne.symm h]
    · split
      · simp [Store.find, Ne.symm h]
      · simp [Store.find, ih]

@[simp] theorem Store.find_erase_same : (m.erase k).find k = none := by
  induction m with
  | nil => rfl
  | cons x m ih =>
    obtain ⟨k', v'⟩ := x
    simp only [Store.erase]
    split
    · exact ih
    · rename_i h
      simp [Store.find, h, ih]

theorem Store.find_erase_other (h : j ≠ k) : (m.erase k).find j = m.find j := by
  induction m with
  | nil => rfl
  | cons x m ih =>
    obtain ⟨k', v'⟩ := x
    simp only [Store.erase]
    split
    · rename_i h'
      subst h'
      simp [Store.find, Ne.symm h, ih]
    · simp [Store.find, ih]

/-- A read after a write to the same key gives the value written. -/
@[simp] theorem Store.get_put_same [DecidableEq α] : (m.put k v d).get k d = v := by
  unfold Store.put Store.get
  split
  · rename_i h
    simp [h]
  · simp

/-- A write leaves every other key alone. -/
theorem Store.get_put_other [DecidableEq α] (e : α) (h : j ≠ k) : (m.put k v d).get j e = m.get j e := by
  unfold Store.put Store.get
  split
  · rw [Store.find_erase_other m k j h]
  · rw [Store.find_insert_other m k j v h]

/-! Keys strictly rising. -/

/-- Every key of the store lies above `b`. -/
def Store.above (b : Nat) (m : Store α) : Prop := ∀ x ∈ m, b < x.1

theorem Store.sorted_cons (x : Nat × α) : Store.sorted (x :: m) = true ↔ Store.above x.1 m ∧ m.sorted = true := by
  induction m generalizing x with
  | nil => simp [Store.sorted, Store.above]
  | cons y m ih =>
    obtain ⟨a, u⟩ := x
    obtain ⟨b, w⟩ := y
    simp only [Store.sorted, Bool.and_eq_true, decide_eq_true_eq]
    rw [ih]
    constructor
    · rintro ⟨h, h1, h2⟩
      refine ⟨?_, h1, h2⟩
      intro z hz
      rcases List.mem_cons.1 hz with rfl | hz
      · exact h
      · exact h.trans (h1 z hz)
    · rintro ⟨h, h1, h2⟩
      exact ⟨h _ (List.mem_cons_self ..), h1, h2⟩

theorem Store.mem_erase {x : Nat × α} (h : x ∈ m.erase k) : x ∈ m := by
  induction m with
  | nil => exact h
  | cons y m ih =>
    obtain ⟨b, w⟩ := y
    simp only [Store.erase] at h
    split at h
    · exact List.mem_cons_of_mem _ (ih h)
    · rcases List.mem_cons.1 h with rfl | h
      · exact List.mem_cons_self ..
      · exact List.mem_cons_of_mem _ (ih h)

theorem Store.mem_insert {x : Nat × α} (h : x ∈ m.insert k v) : x = (k, v) ∨ x ∈ m := by
  induction m with
  | nil => exact .inl (List.mem_singleton.1 h)
  | cons y m ih =>
    obtain ⟨b, w⟩ := y
    simp only [Store.insert] at h
    split at h
    · rcases List.mem_cons.1 h with rfl | h
      · exact .inl rfl
      · exact .inr (List.mem_cons_of_mem _ h)
    · split at h
      · rcases List.mem_cons.1 h with rfl | h
        · exact .inl rfl
        · exact .inr h
      · rcases List.mem_cons.1 h with rfl | h
        · exact .inr (List.mem_cons_self ..)
        · rcases ih h with h | h
          · exact .inl h
          · exact .inr (List.mem_cons_of_mem _ h)

theorem Store.sorted_erase (h : m.sorted = true) : (m.erase k).sorted = true := by
  induction m with
  | nil => rfl
  | cons y m ih =>
    obtain ⟨b, w⟩ := y
    obtain ⟨h1, h2⟩ := (Store.sorted_cons m (b, w)).1 h
    simp only [Store.erase]
    split
    · exact ih h2
    · exact (Store.sorted_cons _ _).2 ⟨fun z hz => h1 z (Store.mem_erase m k hz), ih h2⟩

theorem Store.sorted_insert (h : m.sorted = true) : (m.insert k v).sorted = true := by
  induction m with
  | nil => rfl
  | cons y m ih =>
    obtain ⟨b, w⟩ := y
    obtain ⟨h1, h2⟩ := (Store.sorted_cons m (b, w)).1 h
    simp only [Store.insert]
    split
    · rename_i e
      subst e
      exact (Store.sorted_cons _ _).2 ⟨h1, h2⟩
    · split
      · rename_i e
        refine (Store.sorted_cons _ _).2 ⟨?_, h⟩
        intro z hz
        rcases List.mem_cons.1 hz with rfl | hz
        · exact e
        · exact e.trans (h1 z hz)
      · rename_i e1 e2
        refine (Store.sorted_cons _ _).2 ⟨?_, ih h2⟩
        intro z hz
        rcases Store.mem_insert m k v hz with rfl | hz
        · exact Nat.lt_of_le_of_ne (Nat.le_of_not_lt e2) e1
        · exact h1 z hz

theorem Store.sorted_filter (p : Nat × α → Bool) (h : m.sorted = true) : Store.sorted (m.filter p) = true := by
  induction m with
  | nil => rfl
  | cons y m ih =>
    obtain ⟨h1, h2⟩ := (Store.sorted_cons m y).1 h
    rw [List.filter_cons]
    split
    · exact (Store.sorted_cons _ _).2 ⟨fun z hz => h1 z (List.mem_of_mem_filter hz), ih h2⟩
    · exact ih h2

/-- Every operation that writes keeps the canonical form. -/
theorem Store.wf_put [DecidableEq α] (h : m.wf d = true) : (m.put k v d).wf d = true := by
  unfold Store.wf at *
  simp only [Bool.and_eq_true, List.all_eq_true, decide_eq_true_eq] at *
  unfold Store.put
  split
  · exact ⟨Store.sorted_erase m k h.1, fun x hx => h.2 x (Store.mem_erase m k hx)⟩
  · rename_i e
    refine ⟨Store.sorted_insert m k v h.1, fun x hx => ?_⟩
    rcases Store.mem_insert m k v hx with rfl | hx
    · exact e
    · exact h.2 x hx

end Sys2Proof.Machine
end

