-- ==== Sys2Proof/Laws/State.lean ====
section
/-!
SUPPORT. One lemma per component of the state and update of it, and read after write of the indexed records.
-/
namespace Sys2Proof.Machine

variable (s : State)

@[simp] theorem fset_pending (p : Nat) (f : Fld) (v : Nat) : (fset p f v s).pending = s.pending := rfl
@[simp] theorem fset_free (p : Nat) (f : Fld) (v : Nat) : (fset p f v s).free = s.free := rfl
@[simp] theorem fset_time (p : Nat) (f : Fld) (v : Nat) : (fset p f v s).time = s.time := rfl
@[simp] theorem fset_prof (p : Nat) (f : Fld) (v : Nat) : (fset p f v s).prof = s.prof := rfl
@[simp] theorem fset_evq (p : Nat) (f : Fld) (v : Nat) : (fset p f v s).evq = s.evq := rfl
@[simp] theorem fset_out (p : Nat) (f : Fld) (v : Nat) : (fset p f v s).out = s.out := rfl
@[simp] theorem fset_msix (p : Nat) (f : Fld) (v : Nat) : (fset p f v s).msix = s.msix := rfl
@[simp] theorem fset_msixPend (p : Nat) (f : Fld) (v : Nat) : (fset p f v s).msixPend = s.msixPend := rfl
@[simp] theorem fset_msixMask (p : Nat) (f : Fld) (v : Nat) : (fset p f v s).msixMask = s.msixMask := rfl
@[simp] theorem fset_disc (p : Nat) (f : Fld) (v : Nat) : (fset p f v s).disc = s.disc := rfl
@[simp] theorem fset_ends (p : Nat) (f : Fld) (v : Nat) : (fset p f v s).ends = s.ends := rfl
@[simp] theorem fset_lanes (p : Nat) (f : Fld) (v : Nat) : (fset p f v s).lanes = s.lanes := rfl
@[simp] theorem fset_links (p : Nat) (f : Fld) (v : Nat) : (fset p f v s).links = s.links := rfl
@[simp] theorem fset_recs (p : Nat) (f : Fld) (v : Nat) : (fset p f v s).recs = s.recs := rfl
@[simp] theorem fset_engs (p : Nat) (f : Fld) (v : Nat) : (fset p f v s).engs = s.engs := rfl
@[simp] theorem fset_ustore (p : Nat) (f : Fld) (v : Nat) : (fset p f v s).ustore = s.ustore := rfl
@[simp] theorem fset_nstore (p : Nat) (f : Fld) (v : Nat) : (fset p f v s).nstore = s.nstore := rfl
@[simp] theorem fset_dmem (p : Nat) (f : Fld) (v : Nat) : (fset p f v s).dmem = s.dmem := rfl
@[simp] theorem fset_pgs (p : Nat) (f : Fld) (v : Nat) : (fset p f v s).pgs = s.pgs := rfl
@[simp] theorem fset_loops (p : Nat) (f : Fld) (v : Nat) : (fset p f v s).loops = s.loops := rfl
@[simp] theorem fset_heads (p : Nat) (f : Fld) (v : Nat) : (fset p f v s).heads = s.heads := rfl
@[simp] theorem fset_spin (p : Nat) (f : Fld) (v : Nat) : (fset p f v s).spin = s.spin := rfl
@[simp] theorem fset_sleds (p : Nat) (f : Fld) (v : Nat) : (fset p f v s).sleds = s.sleds := rfl
@[simp] theorem fset_chans (p : Nat) (f : Fld) (v : Nat) : (fset p f v s).chans = s.chans := rfl
@[simp] theorem fset_commons (p : Nat) (f : Fld) (v : Nat) : (fset p f v s).commons = s.commons := rfl
@[simp] theorem fset_frames (p : Nat) (f : Fld) (v : Nat) : (fset p f v s).frames = s.frames := rfl
@[simp] theorem fset_blanks (p : Nat) (f : Fld) (v : Nat) : (fset p f v s).blanks = s.blanks := rfl
@[simp] theorem fset_dec (p : Nat) (f : Fld) (v : Nat) : (fset p f v s).dec = s.dec := rfl
@[simp] theorem fset_encoded (p : Nat) (f : Fld) (v : Nat) : (fset p f v s).encoded = s.encoded := rfl
@[simp] theorem fset_opcs (p : Nat) (f : Fld) (v : Nat) : (fset p f v s).opcs = s.opcs := rfl
@[simp] theorem fset_betas (p : Nat) (f : Fld) (v : Nat) : (fset p f v s).betas = s.betas := rfl
@[simp] theorem fset_mem (p : Nat) (f : Fld) (v : Nat) : (fset p f v s).mem = s.mem := rfl
@[simp] theorem fset_lanesC (p : Nat) (f : Fld) (v : Nat) : (fset p f v s).lanesC = s.lanesC := rfl
@[simp] theorem fset_claims (p : Nat) (f : Fld) (v : Nat) : (fset p f v s).claims = s.claims := rfl
@[simp] theorem fset_cl (p : Nat) (f : Fld) (v : Nat) : (fset p f v s).cl = s.cl := rfl
@[simp] theorem fset_port (p : Nat) (f : Fld) (v : Nat) : (fset p f v s).port = s.port := rfl
@[simp] theorem fset_vault (p : Nat) (f : Fld) (v : Nat) : (fset p f v s).vault = s.vault := rfl
@[simp] theorem fset_otp (p : Nat) (f : Fld) (v : Nat) : (fset p f v s).otp = s.otp := rfl
@[simp] theorem fset_pwr (p : Nat) (f : Fld) (v : Nat) : (fset p f v s).pwr = s.pwr := rfl
@[simp] theorem fset_dev (p : Nat) (f : Fld) (v : Nat) : (fset p f v s).dev = s.dev := rfl
@[simp] theorem fset_obs (p : Nat) (f : Fld) (v : Nat) : (fset p f v s).obs = s.obs := rfl

@[simp] theorem fclr_pending (p : Nat) (f : Fld) : (fclr p f s).pending = s.pending := rfl
@[simp] theorem fclr_free (p : Nat) (f : Fld) : (fclr p f s).free = s.free := rfl
@[simp] theorem fclr_time (p : Nat) (f : Fld) : (fclr p f s).time = s.time := rfl
@[simp] theorem fclr_prof (p : Nat) (f : Fld) : (fclr p f s).prof = s.prof := rfl
@[simp] theorem fclr_regs (p : Nat) (f : Fld) : (fclr p f s).regs = s.regs.erase (f.key p) := rfl
@[simp] theorem fclr_evq (p : Nat) (f : Fld) : (fclr p f s).evq = s.evq := rfl
@[simp] theorem fclr_out (p : Nat) (f : Fld) : (fclr p f s).out = s.out := rfl
@[simp] theorem fclr_msix (p : Nat) (f : Fld) : (fclr p f s).msix = s.msix := rfl
@[simp] theorem fclr_msixPend (p : Nat) (f : Fld) : (fclr p f s).msixPend = s.msixPend := rfl
@[simp] theorem fclr_msixMask (p : Nat) (f : Fld) : (fclr p f s).msixMask = s.msixMask := rfl
@[simp] theorem fclr_disc (p : Nat) (f : Fld) : (fclr p f s).disc = s.disc := rfl
@[simp] theorem fclr_ends (p : Nat) (f : Fld) : (fclr p f s).ends = s.ends := rfl
@[simp] theorem fclr_lanes (p : Nat) (f : Fld) : (fclr p f s).lanes = s.lanes := rfl
@[simp] theorem fclr_links (p : Nat) (f : Fld) : (fclr p f s).links = s.links := rfl
@[simp] theorem fclr_recs (p : Nat) (f : Fld) : (fclr p f s).recs = s.recs := rfl
@[simp] theorem fclr_engs (p : Nat) (f : Fld) : (fclr p f s).engs = s.engs := rfl
@[simp] theorem fclr_ustore (p : Nat) (f : Fld) : (fclr p f s).ustore = s.ustore := rfl
@[simp] theorem fclr_nstore (p : Nat) (f : Fld) : (fclr p f s).nstore = s.nstore := rfl
@[simp] theorem fclr_dmem (p : Nat) (f : Fld) : (fclr p f s).dmem = s.dmem := rfl
@[simp] theorem fclr_pgs (p : Nat) (f : Fld) : (fclr p f s).pgs = s.pgs := rfl
@[simp] theorem fclr_loops (p : Nat) (f : Fld) : (fclr p f s).loops = s.loops := rfl
@[simp] theorem fclr_heads (p : Nat) (f : Fld) : (fclr p f s).heads = s.heads := rfl
@[simp] theorem fclr_spin (p : Nat) (f : Fld) : (fclr p f s).spin = s.spin := rfl
@[simp] theorem fclr_sleds (p : Nat) (f : Fld) : (fclr p f s).sleds = s.sleds := rfl
@[simp] theorem fclr_chans (p : Nat) (f : Fld) : (fclr p f s).chans = s.chans := rfl
@[simp] theorem fclr_commons (p : Nat) (f : Fld) : (fclr p f s).commons = s.commons := rfl
@[simp] theorem fclr_frames (p : Nat) (f : Fld) : (fclr p f s).frames = s.frames := rfl
@[simp] theorem fclr_blanks (p : Nat) (f : Fld) : (fclr p f s).blanks = s.blanks := rfl
@[simp] theorem fclr_dec (p : Nat) (f : Fld) : (fclr p f s).dec = s.dec := rfl
@[simp] theorem fclr_encoded (p : Nat) (f : Fld) : (fclr p f s).encoded = s.encoded := rfl
@[simp] theorem fclr_opcs (p : Nat) (f : Fld) : (fclr p f s).opcs = s.opcs := rfl
@[simp] theorem fclr_betas (p : Nat) (f : Fld) : (fclr p f s).betas = s.betas := rfl
@[simp] theorem fclr_mem (p : Nat) (f : Fld) : (fclr p f s).mem = s.mem := rfl
@[simp] theorem fclr_lanesC (p : Nat) (f : Fld) : (fclr p f s).lanesC = s.lanesC := rfl
@[simp] theorem fclr_claims (p : Nat) (f : Fld) : (fclr p f s).claims = s.claims := rfl
@[simp] theorem fclr_cl (p : Nat) (f : Fld) : (fclr p f s).cl = s.cl := rfl
@[simp] theorem fclr_port (p : Nat) (f : Fld) : (fclr p f s).port = s.port := rfl
@[simp] theorem fclr_vault (p : Nat) (f : Fld) : (fclr p f s).vault = s.vault := rfl
@[simp] theorem fclr_otp (p : Nat) (f : Fld) : (fclr p f s).otp = s.otp := rfl
@[simp] theorem fclr_pwr (p : Nat) (f : Fld) : (fclr p f s).pwr = s.pwr := rfl
@[simp] theorem fclr_dev (p : Nat) (f : Fld) : (fclr p f s).dev = s.dev := rfl
@[simp] theorem fclr_obs (p : Nat) (f : Fld) : (fclr p f s).obs = s.obs := rfl

@[simp] theorem send_pending (o : Out) : (send o s).pending = s.pending := rfl
@[simp] theorem send_free (o : Out) : (send o s).free = s.free := rfl
@[simp] theorem send_time (o : Out) : (send o s).time = s.time := rfl
@[simp] theorem send_prof (o : Out) : (send o s).prof = s.prof := rfl
@[simp] theorem send_regs (o : Out) : (send o s).regs = s.regs := rfl
@[simp] theorem send_evq (o : Out) : (send o s).evq = s.evq := rfl
@[simp] theorem send_out (o : Out) : (send o s).out = s.out ++ [o] := rfl
@[simp] theorem send_msix (o : Out) : (send o s).msix = s.msix := rfl
@[simp] theorem send_msixPend (o : Out) : (send o s).msixPend = s.msixPend := rfl
@[simp] theorem send_msixMask (o : Out) : (send o s).msixMask = s.msixMask := rfl
@[simp] theorem send_disc (o : Out) : (send o s).disc = s.disc := rfl
@[simp] theorem send_ends (o : Out) : (send o s).ends = s.ends := rfl
@[simp] theorem send_lanes (o : Out) : (send o s).lanes = s.lanes := rfl
@[simp] theorem send_links (o : Out) : (send o s).links = s.links := rfl
@[simp] theorem send_recs (o : Out) : (send o s).recs = s.recs := rfl
@[simp] theorem send_engs (o : Out) : (send o s).engs = s.engs := rfl
@[simp] theorem send_ustore (o : Out) : (send o s).ustore = s.ustore := rfl
@[simp] theorem send_nstore (o : Out) : (send o s).nstore = s.nstore := rfl
@[simp] theorem send_dmem (o : Out) : (send o s).dmem = s.dmem := rfl
@[simp] theorem send_pgs (o : Out) : (send o s).pgs = s.pgs := rfl
@[simp] theorem send_loops (o : Out) : (send o s).loops = s.loops := rfl
@[simp] theorem send_heads (o : Out) : (send o s).heads = s.heads := rfl
@[simp] theorem send_spin (o : Out) : (send o s).spin = s.spin := rfl
@[simp] theorem send_sleds (o : Out) : (send o s).sleds = s.sleds := rfl
@[simp] theorem send_chans (o : Out) : (send o s).chans = s.chans := rfl
@[simp] theorem send_commons (o : Out) : (send o s).commons = s.commons := rfl
@[simp] theorem send_frames (o : Out) : (send o s).frames = s.frames := rfl
@[simp] theorem send_blanks (o : Out) : (send o s).blanks = s.blanks := rfl
@[simp] theorem send_dec (o : Out) : (send o s).dec = s.dec := rfl
@[simp] theorem send_encoded (o : Out) : (send o s).encoded = s.encoded := rfl
@[simp] theorem send_opcs (o : Out) : (send o s).opcs = s.opcs := rfl
@[simp] theorem send_betas (o : Out) : (send o s).betas = s.betas := rfl
@[simp] theorem send_mem (o : Out) : (send o s).mem = s.mem := rfl
@[simp] theorem send_lanesC (o : Out) : (send o s).lanesC = s.lanesC := rfl
@[simp] theorem send_claims (o : Out) : (send o s).claims = s.claims := rfl
@[simp] theorem send_cl (o : Out) : (send o s).cl = s.cl := rfl
@[simp] theorem send_port (o : Out) : (send o s).port = s.port := rfl
@[simp] theorem send_vault (o : Out) : (send o s).vault = s.vault := rfl
@[simp] theorem send_otp (o : Out) : (send o s).otp = s.otp := rfl
@[simp] theorem send_pwr (o : Out) : (send o s).pwr = s.pwr := rfl
@[simp] theorem send_dev (o : Out) : (send o s).dev = s.dev := rfl
@[simp] theorem send_obs (o : Out) : (send o s).obs = s.obs := rfl
@[simp] theorem fget_send (o : Out) (q : Nat) (g : Fld) : fget q g (send o s) = fget q g s := rfl

@[simp] theorem emit_pending (c src a b d : Nat) : (emit c src a b d s).pending = s.pending := rfl
@[simp] theorem emit_free (c src a b d : Nat) : (emit c src a b d s).free = s.free := rfl
@[simp] theorem emit_time (c src a b d : Nat) : (emit c src a b d s).time = s.time := rfl
@[simp] theorem emit_prof (c src a b d : Nat) : (emit c src a b d s).prof = s.prof := rfl
@[simp] theorem emit_regs (c src a b d : Nat) : (emit c src a b d s).regs = s.regs := rfl
@[simp] theorem emit_evq (c src a b d : Nat) : (emit c src a b d s).evq = s.evq ++ [⟨c, src, a % 2 ^ 32, b % 2 ^ 32, d % 2 ^ 32, false⟩] := rfl
@[simp] theorem emit_out (c src a b d : Nat) : (emit c src a b d s).out = s.out := rfl
@[simp] theorem emit_msix (c src a b d : Nat) : (emit c src a b d s).msix = s.msix := rfl
@[simp] theorem emit_msixPend (c src a b d : Nat) : (emit c src a b d s).msixPend = s.msixPend := rfl
@[simp] theorem emit_msixMask (c src a b d : Nat) : (emit c src a b d s).msixMask = s.msixMask := rfl
@[simp] theorem emit_disc (c src a b d : Nat) : (emit c src a b d s).disc = s.disc := rfl
@[simp] theorem emit_ends (c src a b d : Nat) : (emit c src a b d s).ends = s.ends := rfl
@[simp] theorem emit_lanes (c src a b d : Nat) : (emit c src a b d s).lanes = s.lanes := rfl
@[simp] theorem emit_links (c src a b d : Nat) : (emit c src a b d s).links = s.links := rfl
@[simp] theorem emit_recs (c src a b d : Nat) : (emit c src a b d s).recs = s.recs := rfl
@[simp] theorem emit_engs (c src a b d : Nat) : (emit c src a b d s).engs = s.engs := rfl
@[simp] theorem emit_ustore (c src a b d : Nat) : (emit c src a b d s).ustore = s.ustore := rfl
@[simp] theorem emit_nstore (c src a b d : Nat) : (emit c src a b d s).nstore = s.nstore := rfl
@[simp] theorem emit_dmem (c src a b d : Nat) : (emit c src a b d s).dmem = s.dmem := rfl
@[simp] theorem emit_pgs (c src a b d : Nat) : (emit c src a b d s).pgs = s.pgs := rfl
@[simp] theorem emit_loops (c src a b d : Nat) : (emit c src a b d s).loops = s.loops := rfl
@[simp] theorem emit_heads (c src a b d : Nat) : (emit c src a b d s).heads = s.heads := rfl
@[simp] theorem emit_spin (c src a b d : Nat) : (emit c src a b d s).spin = s.spin := rfl
@[simp] theorem emit_sleds (c src a b d : Nat) : (emit c src a b d s).sleds = s.sleds := rfl
@[simp] theorem emit_chans (c src a b d : Nat) : (emit c src a b d s).chans = s.chans := rfl
@[simp] theorem emit_commons (c src a b d : Nat) : (emit c src a b d s).commons = s.commons := rfl
@[simp] theorem emit_frames (c src a b d : Nat) : (emit c src a b d s).frames = s.frames := rfl
@[simp] theorem emit_blanks (c src a b d : Nat) : (emit c src a b d s).blanks = s.blanks := rfl
@[simp] theorem emit_dec (c src a b d : Nat) : (emit c src a b d s).dec = s.dec := rfl
@[simp] theorem emit_encoded (c src a b d : Nat) : (emit c src a b d s).encoded = s.encoded := rfl
@[simp] theorem emit_opcs (c src a b d : Nat) : (emit c src a b d s).opcs = s.opcs := rfl
@[simp] theorem emit_betas (c src a b d : Nat) : (emit c src a b d s).betas = s.betas := rfl
@[simp] theorem emit_mem (c src a b d : Nat) : (emit c src a b d s).mem = s.mem := rfl
@[simp] theorem emit_lanesC (c src a b d : Nat) : (emit c src a b d s).lanesC = s.lanesC := rfl
@[simp] theorem emit_claims (c src a b d : Nat) : (emit c src a b d s).claims = s.claims := rfl
@[simp] theorem emit_cl (c src a b d : Nat) : (emit c src a b d s).cl = s.cl := rfl
@[simp] theorem emit_port (c src a b d : Nat) : (emit c src a b d s).port = s.port := rfl
@[simp] theorem emit_vault (c src a b d : Nat) : (emit c src a b d s).vault = s.vault := rfl
@[simp] theorem emit_otp (c src a b d : Nat) : (emit c src a b d s).otp = s.otp := rfl
@[simp] theorem emit_pwr (c src a b d : Nat) : (emit c src a b d s).pwr = s.pwr := rfl
@[simp] theorem emit_dev (c src a b d : Nat) : (emit c src a b d s).dev = s.dev := rfl
@[simp] theorem emit_obs (c src a b d : Nat) : (emit c src a b d s).obs = s.obs := rfl
@[simp] theorem fget_emit (c src a b d : Nat) (q : Nat) (g : Fld) : fget q g (emit c src a b d s) = fget q g s := rfl

@[simp] theorem setPwr_pending (v : PwrSt) : (setPwr v s).pending = s.pending := rfl
@[simp] theorem setPwr_free (v : PwrSt) : (setPwr v s).free = s.free := rfl
@[simp] theorem setPwr_time (v : PwrSt) : (setPwr v s).time = s.time := rfl
@[simp] theorem setPwr_prof (v : PwrSt) : (setPwr v s).prof = s.prof := rfl
@[simp] theorem setPwr_regs (v : PwrSt) : (setPwr v s).regs = s.regs := rfl
@[simp] theorem setPwr_evq (v : PwrSt) : (setPwr v s).evq = s.evq := rfl
@[simp] theorem setPwr_out (v : PwrSt) : (setPwr v s).out = s.out := rfl
@[simp] theorem setPwr_msix (v : PwrSt) : (setPwr v s).msix = s.msix := rfl
@[simp] theorem setPwr_msixPend (v : PwrSt) : (setPwr v s).msixPend = s.msixPend := rfl
@[simp] theorem setPwr_msixMask (v : PwrSt) : (setPwr v s).msixMask = s.msixMask := rfl
@[simp] theorem setPwr_disc (v : PwrSt) : (setPwr v s).disc = s.disc := rfl
@[simp] theorem setPwr_ends (v : PwrSt) : (setPwr v s).ends = s.ends := rfl
@[simp] theorem setPwr_lanes (v : PwrSt) : (setPwr v s).lanes = s.lanes := rfl
@[simp] theorem setPwr_links (v : PwrSt) : (setPwr v s).links = s.links := rfl
@[simp] theorem setPwr_recs (v : PwrSt) : (setPwr v s).recs = s.recs := rfl
@[simp] theorem setPwr_engs (v : PwrSt) : (setPwr v s).engs = s.engs := rfl
@[simp] theorem setPwr_ustore (v : PwrSt) : (setPwr v s).ustore = s.ustore := rfl
@[simp] theorem setPwr_nstore (v : PwrSt) : (setPwr v s).nstore = s.nstore := rfl
@[simp] theorem setPwr_dmem (v : PwrSt) : (setPwr v s).dmem = s.dmem := rfl
@[simp] theorem setPwr_pgs (v : PwrSt) : (setPwr v s).pgs = s.pgs := rfl
@[simp] theorem setPwr_loops (v : PwrSt) : (setPwr v s).loops = s.loops := rfl
@[simp] theorem setPwr_heads (v : PwrSt) : (setPwr v s).heads = s.heads := rfl
@[simp] theorem setPwr_spin (v : PwrSt) : (setPwr v s).spin = s.spin := rfl
@[simp] theorem setPwr_sleds (v : PwrSt) : (setPwr v s).sleds = s.sleds := rfl
@[simp] theorem setPwr_chans (v : PwrSt) : (setPwr v s).chans = s.chans := rfl
@[simp] theorem setPwr_commons (v : PwrSt) : (setPwr v s).commons = s.commons := rfl
@[simp] theorem setPwr_frames (v : PwrSt) : (setPwr v s).frames = s.frames := rfl
@[simp] theorem setPwr_blanks (v : PwrSt) : (setPwr v s).blanks = s.blanks := rfl
@[simp] theorem setPwr_dec (v : PwrSt) : (setPwr v s).dec = s.dec := rfl
@[simp] theorem setPwr_encoded (v : PwrSt) : (setPwr v s).encoded = s.encoded := rfl
@[simp] theorem setPwr_opcs (v : PwrSt) : (setPwr v s).opcs = s.opcs := rfl
@[simp] theorem setPwr_betas (v : PwrSt) : (setPwr v s).betas = s.betas := rfl
@[simp] theorem setPwr_mem (v : PwrSt) : (setPwr v s).mem = s.mem := rfl
@[simp] theorem setPwr_lanesC (v : PwrSt) : (setPwr v s).lanesC = s.lanesC := rfl
@[simp] theorem setPwr_claims (v : PwrSt) : (setPwr v s).claims = s.claims := rfl
@[simp] theorem setPwr_cl (v : PwrSt) : (setPwr v s).cl = s.cl := rfl
@[simp] theorem setPwr_port (v : PwrSt) : (setPwr v s).port = s.port := rfl
@[simp] theorem setPwr_vault (v : PwrSt) : (setPwr v s).vault = s.vault := rfl
@[simp] theorem setPwr_otp (v : PwrSt) : (setPwr v s).otp = s.otp := rfl
@[simp] theorem setPwr_pwr (v : PwrSt) : (setPwr v s).pwr = v := rfl
@[simp] theorem setPwr_dev (v : PwrSt) : (setPwr v s).dev = s.dev := rfl
@[simp] theorem setPwr_obs (v : PwrSt) : (setPwr v s).obs = s.obs := rfl
@[simp] theorem fget_setPwr (v : PwrSt) (q : Nat) (g : Fld) : fget q g (setPwr v s) = fget q g s := rfl

@[simp] theorem setDev_pending (v : DevSt) : (setDev v s).pending = s.pending := rfl
@[simp] theorem setDev_free (v : DevSt) : (setDev v s).free = s.free := rfl
@[simp] theorem setDev_time (v : DevSt) : (setDev v s).time = s.time := rfl
@[simp] theorem setDev_prof (v : DevSt) : (setDev v s).prof = s.prof := rfl
@[simp] theorem setDev_regs (v : DevSt) : (setDev v s).regs = s.regs := rfl
@[simp] theorem setDev_evq (v : DevSt) : (setDev v s).evq = s.evq := rfl
@[simp] theorem setDev_out (v : DevSt) : (setDev v s).out = s.out := rfl
@[simp] theorem setDev_msix (v : DevSt) : (setDev v s).msix = s.msix := rfl
@[simp] theorem setDev_msixPend (v : DevSt) : (setDev v s).msixPend = s.msixPend := rfl
@[simp] theorem setDev_msixMask (v : DevSt) : (setDev v s).msixMask = s.msixMask := rfl
@[simp] theorem setDev_disc (v : DevSt) : (setDev v s).disc = s.disc := rfl
@[simp] theorem setDev_ends (v : DevSt) : (setDev v s).ends = s.ends := rfl
@[simp] theorem setDev_lanes (v : DevSt) : (setDev v s).lanes = s.lanes := rfl
@[simp] theorem setDev_links (v : DevSt) : (setDev v s).links = s.links := rfl
@[simp] theorem setDev_recs (v : DevSt) : (setDev v s).recs = s.recs := rfl
@[simp] theorem setDev_engs (v : DevSt) : (setDev v s).engs = s.engs := rfl
@[simp] theorem setDev_ustore (v : DevSt) : (setDev v s).ustore = s.ustore := rfl
@[simp] theorem setDev_nstore (v : DevSt) : (setDev v s).nstore = s.nstore := rfl
@[simp] theorem setDev_dmem (v : DevSt) : (setDev v s).dmem = s.dmem := rfl
@[simp] theorem setDev_pgs (v : DevSt) : (setDev v s).pgs = s.pgs := rfl
@[simp] theorem setDev_loops (v : DevSt) : (setDev v s).loops = s.loops := rfl
@[simp] theorem setDev_heads (v : DevSt) : (setDev v s).heads = s.heads := rfl
@[simp] theorem setDev_spin (v : DevSt) : (setDev v s).spin = s.spin := rfl
@[simp] theorem setDev_sleds (v : DevSt) : (setDev v s).sleds = s.sleds := rfl
@[simp] theorem setDev_chans (v : DevSt) : (setDev v s).chans = s.chans := rfl
@[simp] theorem setDev_commons (v : DevSt) : (setDev v s).commons = s.commons := rfl
@[simp] theorem setDev_frames (v : DevSt) : (setDev v s).frames = s.frames := rfl
@[simp] theorem setDev_blanks (v : DevSt) : (setDev v s).blanks = s.blanks := rfl
@[simp] theorem setDev_dec (v : DevSt) : (setDev v s).dec = s.dec := rfl
@[simp] theorem setDev_encoded (v : DevSt) : (setDev v s).encoded = s.encoded := rfl
@[simp] theorem setDev_opcs (v : DevSt) : (setDev v s).opcs = s.opcs := rfl
@[simp] theorem setDev_betas (v : DevSt) : (setDev v s).betas = s.betas := rfl
@[simp] theorem setDev_mem (v : DevSt) : (setDev v s).mem = s.mem := rfl
@[simp] theorem setDev_lanesC (v : DevSt) : (setDev v s).lanesC = s.lanesC := rfl
@[simp] theorem setDev_claims (v : DevSt) : (setDev v s).claims = s.claims := rfl
@[simp] theorem setDev_cl (v : DevSt) : (setDev v s).cl = s.cl := rfl
@[simp] theorem setDev_port (v : DevSt) : (setDev v s).port = s.port := rfl
@[simp] theorem setDev_vault (v : DevSt) : (setDev v s).vault = s.vault := rfl
@[simp] theorem setDev_otp (v : DevSt) : (setDev v s).otp = s.otp := rfl
@[simp] theorem setDev_pwr (v : DevSt) : (setDev v s).pwr = s.pwr := rfl
@[simp] theorem setDev_dev (v : DevSt) : (setDev v s).dev = v := rfl
@[simp] theorem setDev_obs (v : DevSt) : (setDev v s).obs = s.obs := rfl
@[simp] theorem fget_setDev (v : DevSt) (q : Nat) (g : Fld) : fget q g (setDev v s) = fget q g s := rfl

@[simp] theorem setObs_pending (v : ObsSt) : (setObs v s).pending = s.pending := rfl
@[simp] theorem setObs_free (v : ObsSt) : (setObs v s).free = s.free := rfl
@[simp] theorem setObs_time (v : ObsSt) : (setObs v s).time = s.time := rfl
@[simp] theorem setObs_prof (v : ObsSt) : (setObs v s).prof = s.prof := rfl
@[simp] theorem setObs_regs (v : ObsSt) : (setObs v s).regs = s.regs := rfl
@[simp] theorem setObs_evq (v : ObsSt) : (setObs v s).evq = s.evq := rfl
@[simp] theorem setObs_out (v : ObsSt) : (setObs v s).out = s.out := rfl
@[simp] theorem setObs_msix (v : ObsSt) : (setObs v s).msix = s.msix := rfl
@[simp] theorem setObs_msixPend (v : ObsSt) : (setObs v s).msixPend = s.msixPend := rfl
@[simp] theorem setObs_msixMask (v : ObsSt) : (setObs v s).msixMask = s.msixMask := rfl
@[simp] theorem setObs_disc (v : ObsSt) : (setObs v s).disc = s.disc := rfl
@[simp] theorem setObs_ends (v : ObsSt) : (setObs v s).ends = s.ends := rfl
@[simp] theorem setObs_lanes (v : ObsSt) : (setObs v s).lanes = s.lanes := rfl
@[simp] theorem setObs_links (v : ObsSt) : (setObs v s).links = s.links := rfl
@[simp] theorem setObs_recs (v : ObsSt) : (setObs v s).recs = s.recs := rfl
@[simp] theorem setObs_engs (v : ObsSt) : (setObs v s).engs = s.engs := rfl
@[simp] theorem setObs_ustore (v : ObsSt) : (setObs v s).ustore = s.ustore := rfl
@[simp] theorem setObs_nstore (v : ObsSt) : (setObs v s).nstore = s.nstore := rfl
@[simp] theorem setObs_dmem (v : ObsSt) : (setObs v s).dmem = s.dmem := rfl
@[simp] theorem setObs_pgs (v : ObsSt) : (setObs v s).pgs = s.pgs := rfl
@[simp] theorem setObs_loops (v : ObsSt) : (setObs v s).loops = s.loops := rfl
@[simp] theorem setObs_heads (v : ObsSt) : (setObs v s).heads = s.heads := rfl
@[simp] theorem setObs_spin (v : ObsSt) : (setObs v s).spin = s.spin := rfl
@[simp] theorem setObs_sleds (v : ObsSt) : (setObs v s).sleds = s.sleds := rfl
@[simp] theorem setObs_chans (v : ObsSt) : (setObs v s).chans = s.chans := rfl
@[simp] theorem setObs_commons (v : ObsSt) : (setObs v s).commons = s.commons := rfl
@[simp] theorem setObs_frames (v : ObsSt) : (setObs v s).frames = s.frames := rfl
@[simp] theorem setObs_blanks (v : ObsSt) : (setObs v s).blanks = s.blanks := rfl
@[simp] theorem setObs_dec (v : ObsSt) : (setObs v s).dec = s.dec := rfl
@[simp] theorem setObs_encoded (v : ObsSt) : (setObs v s).encoded = s.encoded := rfl
@[simp] theorem setObs_opcs (v : ObsSt) : (setObs v s).opcs = s.opcs := rfl
@[simp] theorem setObs_betas (v : ObsSt) : (setObs v s).betas = s.betas := rfl
@[simp] theorem setObs_mem (v : ObsSt) : (setObs v s).mem = s.mem := rfl
@[simp] theorem setObs_lanesC (v : ObsSt) : (setObs v s).lanesC = s.lanesC := rfl
@[simp] theorem setObs_claims (v : ObsSt) : (setObs v s).claims = s.claims := rfl
@[simp] theorem setObs_cl (v : ObsSt) : (setObs v s).cl = s.cl := rfl
@[simp] theorem setObs_port (v : ObsSt) : (setObs v s).port = s.port := rfl
@[simp] theorem setObs_vault (v : ObsSt) : (setObs v s).vault = s.vault := rfl
@[simp] theorem setObs_otp (v : ObsSt) : (setObs v s).otp = s.otp := rfl
@[simp] theorem setObs_pwr (v : ObsSt) : (setObs v s).pwr = s.pwr := rfl
@[simp] theorem setObs_dev (v : ObsSt) : (setObs v s).dev = s.dev := rfl
@[simp] theorem setObs_obs (v : ObsSt) : (setObs v s).obs = v := rfl
@[simp] theorem fget_setObs (v : ObsSt) (q : Nat) (g : Fld) : fget q g (setObs v s) = fget q g s := rfl

@[simp] theorem setCl_pending (v : CmdSt) : (setCl v s).pending = s.pending := rfl
@[simp] theorem setCl_free (v : CmdSt) : (setCl v s).free = s.free := rfl
@[simp] theorem setCl_time (v : CmdSt) : (setCl v s).time = s.time := rfl
@[simp] theorem setCl_prof (v : CmdSt) : (setCl v s).prof = s.prof := rfl
@[simp] theorem setCl_regs (v : CmdSt) : (setCl v s).regs = s.regs := rfl
@[simp] theorem setCl_evq (v : CmdSt) : (setCl v s).evq = s.evq := rfl
@[simp] theorem setCl_out (v : CmdSt) : (setCl v s).out = s.out := rfl
@[simp] theorem setCl_msix (v : CmdSt) : (setCl v s).msix = s.msix := rfl
@[simp] theorem setCl_msixPend (v : CmdSt) : (setCl v s).msixPend = s.msixPend := rfl
@[simp] theorem setCl_msixMask (v : CmdSt) : (setCl v s).msixMask = s.msixMask := rfl
@[simp] theorem setCl_disc (v : CmdSt) : (setCl v s).disc = s.disc := rfl
@[simp] theorem setCl_ends (v : CmdSt) : (setCl v s).ends = s.ends := rfl
@[simp] theorem setCl_lanes (v : CmdSt) : (setCl v s).lanes = s.lanes := rfl
@[simp] theorem setCl_links (v : CmdSt) : (setCl v s).links = s.links := rfl
@[simp] theorem setCl_recs (v : CmdSt) : (setCl v s).recs = s.recs := rfl
@[simp] theorem setCl_engs (v : CmdSt) : (setCl v s).engs = s.engs := rfl
@[simp] theorem setCl_ustore (v : CmdSt) : (setCl v s).ustore = s.ustore := rfl
@[simp] theorem setCl_nstore (v : CmdSt) : (setCl v s).nstore = s.nstore := rfl
@[simp] theorem setCl_dmem (v : CmdSt) : (setCl v s).dmem = s.dmem := rfl
@[simp] theorem setCl_pgs (v : CmdSt) : (setCl v s).pgs = s.pgs := rfl
@[simp] theorem setCl_loops (v : CmdSt) : (setCl v s).loops = s.loops := rfl
@[simp] theorem setCl_heads (v : CmdSt) : (setCl v s).heads = s.heads := rfl
@[simp] theorem setCl_spin (v : CmdSt) : (setCl v s).spin = s.spin := rfl
@[simp] theorem setCl_sleds (v : CmdSt) : (setCl v s).sleds = s.sleds := rfl
@[simp] theorem setCl_chans (v : CmdSt) : (setCl v s).chans = s.chans := rfl
@[simp] theorem setCl_commons (v : CmdSt) : (setCl v s).commons = s.commons := rfl
@[simp] theorem setCl_frames (v : CmdSt) : (setCl v s).frames = s.frames := rfl
@[simp] theorem setCl_blanks (v : CmdSt) : (setCl v s).blanks = s.blanks := rfl
@[simp] theorem setCl_dec (v : CmdSt) : (setCl v s).dec = s.dec := rfl
@[simp] theorem setCl_encoded (v : CmdSt) : (setCl v s).encoded = s.encoded := rfl
@[simp] theorem setCl_opcs (v : CmdSt) : (setCl v s).opcs = s.opcs := rfl
@[simp] theorem setCl_betas (v : CmdSt) : (setCl v s).betas = s.betas := rfl
@[simp] theorem setCl_mem (v : CmdSt) : (setCl v s).mem = s.mem := rfl
@[simp] theorem setCl_lanesC (v : CmdSt) : (setCl v s).lanesC = s.lanesC := rfl
@[simp] theorem setCl_claims (v : CmdSt) : (setCl v s).claims = s.claims := rfl
@[simp] theorem setCl_cl (v : CmdSt) : (setCl v s).cl = v := rfl
@[simp] theorem setCl_port (v : CmdSt) : (setCl v s).port = s.port := rfl
@[simp] theorem setCl_vault (v : CmdSt) : (setCl v s).vault = s.vault := rfl
@[simp] theorem setCl_otp (v : CmdSt) : (setCl v s).otp = s.otp := rfl
@[simp] theorem setCl_pwr (v : CmdSt) : (setCl v s).pwr = s.pwr := rfl
@[simp] theorem setCl_dev (v : CmdSt) : (setCl v s).dev = s.dev := rfl
@[simp] theorem setCl_obs (v : CmdSt) : (setCl v s).obs = s.obs := rfl
@[simp] theorem fget_setCl (v : CmdSt) (q : Nat) (g : Fld) : fget q g (setCl v s) = fget q g s := rfl

@[simp] theorem setMem_pending (v : MemSt) : (setMem v s).pending = s.pending := rfl
@[simp] theorem setMem_free (v : MemSt) : (setMem v s).free = s.free := rfl
@[simp] theorem setMem_time (v : MemSt) : (setMem v s).time = s.time := rfl
@[simp] theorem setMem_prof (v : MemSt) : (setMem v s).prof = s.prof := rfl
@[simp] theorem setMem_regs (v : MemSt) : (setMem v s).regs = s.regs := rfl
@[simp] theorem setMem_evq (v : MemSt) : (setMem v s).evq = s.evq := rfl
@[simp] theorem setMem_out (v : MemSt) : (setMem v s).out = s.out := rfl
@[simp] theorem setMem_msix (v : MemSt) : (setMem v s).msix = s.msix := rfl
@[simp] theorem setMem_msixPend (v : MemSt) : (setMem v s).msixPend = s.msixPend := rfl
@[simp] theorem setMem_msixMask (v : MemSt) : (setMem v s).msixMask = s.msixMask := rfl
@[simp] theorem setMem_disc (v : MemSt) : (setMem v s).disc = s.disc := rfl
@[simp] theorem setMem_ends (v : MemSt) : (setMem v s).ends = s.ends := rfl
@[simp] theorem setMem_lanes (v : MemSt) : (setMem v s).lanes = s.lanes := rfl
@[simp] theorem setMem_links (v : MemSt) : (setMem v s).links = s.links := rfl
@[simp] theorem setMem_recs (v : MemSt) : (setMem v s).recs = s.recs := rfl
@[simp] theorem setMem_engs (v : MemSt) : (setMem v s).engs = s.engs := rfl
@[simp] theorem setMem_ustore (v : MemSt) : (setMem v s).ustore = s.ustore := rfl
@[simp] theorem setMem_nstore (v : MemSt) : (setMem v s).nstore = s.nstore := rfl
@[simp] theorem setMem_dmem (v : MemSt) : (setMem v s).dmem = s.dmem := rfl
@[simp] theorem setMem_pgs (v : MemSt) : (setMem v s).pgs = s.pgs := rfl
@[simp] theorem setMem_loops (v : MemSt) : (setMem v s).loops = s.loops := rfl
@[simp] theorem setMem_heads (v : MemSt) : (setMem v s).heads = s.heads := rfl
@[simp] theorem setMem_spin (v : MemSt) : (setMem v s).spin = s.spin := rfl
@[simp] theorem setMem_sleds (v : MemSt) : (setMem v s).sleds = s.sleds := rfl
@[simp] theorem setMem_chans (v : MemSt) : (setMem v s).chans = s.chans := rfl
@[simp] theorem setMem_commons (v : MemSt) : (setMem v s).commons = s.commons := rfl
@[simp] theorem setMem_frames (v : MemSt) : (setMem v s).frames = s.frames := rfl
@[simp] theorem setMem_blanks (v : MemSt) : (setMem v s).blanks = s.blanks := rfl
@[simp] theorem setMem_dec (v : MemSt) : (setMem v s).dec = s.dec := rfl
@[simp] theorem setMem_encoded (v : MemSt) : (setMem v s).encoded = s.encoded := rfl
@[simp] theorem setMem_opcs (v : MemSt) : (setMem v s).opcs = s.opcs := rfl
@[simp] theorem setMem_betas (v : MemSt) : (setMem v s).betas = s.betas := rfl
@[simp] theorem setMem_mem (v : MemSt) : (setMem v s).mem = v := rfl
@[simp] theorem setMem_lanesC (v : MemSt) : (setMem v s).lanesC = s.lanesC := rfl
@[simp] theorem setMem_claims (v : MemSt) : (setMem v s).claims = s.claims := rfl
@[simp] theorem setMem_cl (v : MemSt) : (setMem v s).cl = s.cl := rfl
@[simp] theorem setMem_port (v : MemSt) : (setMem v s).port = s.port := rfl
@[simp] theorem setMem_vault (v : MemSt) : (setMem v s).vault = s.vault := rfl
@[simp] theorem setMem_otp (v : MemSt) : (setMem v s).otp = s.otp := rfl
@[simp] theorem setMem_pwr (v : MemSt) : (setMem v s).pwr = s.pwr := rfl
@[simp] theorem setMem_dev (v : MemSt) : (setMem v s).dev = s.dev := rfl
@[simp] theorem setMem_obs (v : MemSt) : (setMem v s).obs = s.obs := rfl
@[simp] theorem fget_setMem (v : MemSt) (q : Nat) (g : Fld) : fget q g (setMem v s) = fget q g s := rfl

@[simp] theorem setVault_pending (v : VaultSt) : (setVault v s).pending = s.pending := rfl
@[simp] theorem setVault_free (v : VaultSt) : (setVault v s).free = s.free := rfl
@[simp] theorem setVault_time (v : VaultSt) : (setVault v s).time = s.time := rfl
@[simp] theorem setVault_prof (v : VaultSt) : (setVault v s).prof = s.prof := rfl
@[simp] theorem setVault_regs (v : VaultSt) : (setVault v s).regs = s.regs := rfl
@[simp] theorem setVault_evq (v : VaultSt) : (setVault v s).evq = s.evq := rfl
@[simp] theorem setVault_out (v : VaultSt) : (setVault v s).out = s.out := rfl
@[simp] theorem setVault_msix (v : VaultSt) : (setVault v s).msix = s.msix := rfl
@[simp] theorem setVault_msixPend (v : VaultSt) : (setVault v s).msixPend = s.msixPend := rfl
@[simp] theorem setVault_msixMask (v : VaultSt) : (setVault v s).msixMask = s.msixMask := rfl
@[simp] theorem setVault_disc (v : VaultSt) : (setVault v s).disc = s.disc := rfl
@[simp] theorem setVault_ends (v : VaultSt) : (setVault v s).ends = s.ends := rfl
@[simp] theorem setVault_lanes (v : VaultSt) : (setVault v s).lanes = s.lanes := rfl
@[simp] theorem setVault_links (v : VaultSt) : (setVault v s).links = s.links := rfl
@[simp] theorem setVault_recs (v : VaultSt) : (setVault v s).recs = s.recs := rfl
@[simp] theorem setVault_engs (v : VaultSt) : (setVault v s).engs = s.engs := rfl
@[simp] theorem setVault_ustore (v : VaultSt) : (setVault v s).ustore = s.ustore := rfl
@[simp] theorem setVault_nstore (v : VaultSt) : (setVault v s).nstore = s.nstore := rfl
@[simp] theorem setVault_dmem (v : VaultSt) : (setVault v s).dmem = s.dmem := rfl
@[simp] theorem setVault_pgs (v : VaultSt) : (setVault v s).pgs = s.pgs := rfl
@[simp] theorem setVault_loops (v : VaultSt) : (setVault v s).loops = s.loops := rfl
@[simp] theorem setVault_heads (v : VaultSt) : (setVault v s).heads = s.heads := rfl
@[simp] theorem setVault_spin (v : VaultSt) : (setVault v s).spin = s.spin := rfl
@[simp] theorem setVault_sleds (v : VaultSt) : (setVault v s).sleds = s.sleds := rfl
@[simp] theorem setVault_chans (v : VaultSt) : (setVault v s).chans = s.chans := rfl
@[simp] theorem setVault_commons (v : VaultSt) : (setVault v s).commons = s.commons := rfl
@[simp] theorem setVault_frames (v : VaultSt) : (setVault v s).frames = s.frames := rfl
@[simp] theorem setVault_blanks (v : VaultSt) : (setVault v s).blanks = s.blanks := rfl
@[simp] theorem setVault_dec (v : VaultSt) : (setVault v s).dec = s.dec := rfl
@[simp] theorem setVault_encoded (v : VaultSt) : (setVault v s).encoded = s.encoded := rfl
@[simp] theorem setVault_opcs (v : VaultSt) : (setVault v s).opcs = s.opcs := rfl
@[simp] theorem setVault_betas (v : VaultSt) : (setVault v s).betas = s.betas := rfl
@[simp] theorem setVault_mem (v : VaultSt) : (setVault v s).mem = s.mem := rfl
@[simp] theorem setVault_lanesC (v : VaultSt) : (setVault v s).lanesC = s.lanesC := rfl
@[simp] theorem setVault_claims (v : VaultSt) : (setVault v s).claims = s.claims := rfl
@[simp] theorem setVault_cl (v : VaultSt) : (setVault v s).cl = s.cl := rfl
@[simp] theorem setVault_port (v : VaultSt) : (setVault v s).port = s.port := rfl
@[simp] theorem setVault_vault (v : VaultSt) : (setVault v s).vault = v := rfl
@[simp] theorem setVault_otp (v : VaultSt) : (setVault v s).otp = s.otp := rfl
@[simp] theorem setVault_pwr (v : VaultSt) : (setVault v s).pwr = s.pwr := rfl
@[simp] theorem setVault_dev (v : VaultSt) : (setVault v s).dev = s.dev := rfl
@[simp] theorem setVault_obs (v : VaultSt) : (setVault v s).obs = s.obs := rfl
@[simp] theorem fget_setVault (v : VaultSt) (q : Nat) (g : Fld) : fget q g (setVault v s) = fget q g s := rfl

@[simp] theorem setOtp_pending (v : OtpSt) : (setOtp v s).pending = s.pending := rfl
@[simp] theorem setOtp_free (v : OtpSt) : (setOtp v s).free = s.free := rfl
@[simp] theorem setOtp_time (v : OtpSt) : (setOtp v s).time = s.time := rfl
@[simp] theorem setOtp_prof (v : OtpSt) : (setOtp v s).prof = s.prof := rfl
@[simp] theorem setOtp_regs (v : OtpSt) : (setOtp v s).regs = s.regs := rfl
@[simp] theorem setOtp_evq (v : OtpSt) : (setOtp v s).evq = s.evq := rfl
@[simp] theorem setOtp_out (v : OtpSt) : (setOtp v s).out = s.out := rfl
@[simp] theorem setOtp_msix (v : OtpSt) : (setOtp v s).msix = s.msix := rfl
@[simp] theorem setOtp_msixPend (v : OtpSt) : (setOtp v s).msixPend = s.msixPend := rfl
@[simp] theorem setOtp_msixMask (v : OtpSt) : (setOtp v s).msixMask = s.msixMask := rfl
@[simp] theorem setOtp_disc (v : OtpSt) : (setOtp v s).disc = s.disc := rfl
@[simp] theorem setOtp_ends (v : OtpSt) : (setOtp v s).ends = s.ends := rfl
@[simp] theorem setOtp_lanes (v : OtpSt) : (setOtp v s).lanes = s.lanes := rfl
@[simp] theorem setOtp_links (v : OtpSt) : (setOtp v s).links = s.links := rfl
@[simp] theorem setOtp_recs (v : OtpSt) : (setOtp v s).recs = s.recs := rfl
@[simp] theorem setOtp_engs (v : OtpSt) : (setOtp v s).engs = s.engs := rfl
@[simp] theorem setOtp_ustore (v : OtpSt) : (setOtp v s).ustore = s.ustore := rfl
@[simp] theorem setOtp_nstore (v : OtpSt) : (setOtp v s).nstore = s.nstore := rfl
@[simp] theorem setOtp_dmem (v : OtpSt) : (setOtp v s).dmem = s.dmem := rfl
@[simp] theorem setOtp_pgs (v : OtpSt) : (setOtp v s).pgs = s.pgs := rfl
@[simp] theorem setOtp_loops (v : OtpSt) : (setOtp v s).loops = s.loops := rfl
@[simp] theorem setOtp_heads (v : OtpSt) : (setOtp v s).heads = s.heads := rfl
@[simp] theorem setOtp_spin (v : OtpSt) : (setOtp v s).spin = s.spin := rfl
@[simp] theorem setOtp_sleds (v : OtpSt) : (setOtp v s).sleds = s.sleds := rfl
@[simp] theorem setOtp_chans (v : OtpSt) : (setOtp v s).chans = s.chans := rfl
@[simp] theorem setOtp_commons (v : OtpSt) : (setOtp v s).commons = s.commons := rfl
@[simp] theorem setOtp_frames (v : OtpSt) : (setOtp v s).frames = s.frames := rfl
@[simp] theorem setOtp_blanks (v : OtpSt) : (setOtp v s).blanks = s.blanks := rfl
@[simp] theorem setOtp_dec (v : OtpSt) : (setOtp v s).dec = s.dec := rfl
@[simp] theorem setOtp_encoded (v : OtpSt) : (setOtp v s).encoded = s.encoded := rfl
@[simp] theorem setOtp_opcs (v : OtpSt) : (setOtp v s).opcs = s.opcs := rfl
@[simp] theorem setOtp_betas (v : OtpSt) : (setOtp v s).betas = s.betas := rfl
@[simp] theorem setOtp_mem (v : OtpSt) : (setOtp v s).mem = s.mem := rfl
@[simp] theorem setOtp_lanesC (v : OtpSt) : (setOtp v s).lanesC = s.lanesC := rfl
@[simp] theorem setOtp_claims (v : OtpSt) : (setOtp v s).claims = s.claims := rfl
@[simp] theorem setOtp_cl (v : OtpSt) : (setOtp v s).cl = s.cl := rfl
@[simp] theorem setOtp_port (v : OtpSt) : (setOtp v s).port = s.port := rfl
@[simp] theorem setOtp_vault (v : OtpSt) : (setOtp v s).vault = s.vault := rfl
@[simp] theorem setOtp_otp (v : OtpSt) : (setOtp v s).otp = v := rfl
@[simp] theorem setOtp_pwr (v : OtpSt) : (setOtp v s).pwr = s.pwr := rfl
@[simp] theorem setOtp_dev (v : OtpSt) : (setOtp v s).dev = s.dev := rfl
@[simp] theorem setOtp_obs (v : OtpSt) : (setOtp v s).obs = s.obs := rfl
@[simp] theorem fget_setOtp (v : OtpSt) (q : Nat) (g : Fld) : fget q g (setOtp v s) = fget q g s := rfl

@[simp] theorem setPorts_pending (v : PortSt) : (setPorts v s).pending = s.pending := rfl
@[simp] theorem setPorts_free (v : PortSt) : (setPorts v s).free = s.free := rfl
@[simp] theorem setPorts_time (v : PortSt) : (setPorts v s).time = s.time := rfl
@[simp] theorem setPorts_prof (v : PortSt) : (setPorts v s).prof = s.prof := rfl
@[simp] theorem setPorts_regs (v : PortSt) : (setPorts v s).regs = s.regs := rfl
@[simp] theorem setPorts_evq (v : PortSt) : (setPorts v s).evq = s.evq := rfl
@[simp] theorem setPorts_out (v : PortSt) : (setPorts v s).out = s.out := rfl
@[simp] theorem setPorts_msix (v : PortSt) : (setPorts v s).msix = s.msix := rfl
@[simp] theorem setPorts_msixPend (v : PortSt) : (setPorts v s).msixPend = s.msixPend := rfl
@[simp] theorem setPorts_msixMask (v : PortSt) : (setPorts v s).msixMask = s.msixMask := rfl
@[simp] theorem setPorts_disc (v : PortSt) : (setPorts v s).disc = s.disc := rfl
@[simp] theorem setPorts_ends (v : PortSt) : (setPorts v s).ends = s.ends := rfl
@[simp] theorem setPorts_lanes (v : PortSt) : (setPorts v s).lanes = s.lanes := rfl
@[simp] theorem setPorts_links (v : PortSt) : (setPorts v s).links = s.links := rfl
@[simp] theorem setPorts_recs (v : PortSt) : (setPorts v s).recs = s.recs := rfl
@[simp] theorem setPorts_engs (v : PortSt) : (setPorts v s).engs = s.engs := rfl
@[simp] theorem setPorts_ustore (v : PortSt) : (setPorts v s).ustore = s.ustore := rfl
@[simp] theorem setPorts_nstore (v : PortSt) : (setPorts v s).nstore = s.nstore := rfl
@[simp] theorem setPorts_dmem (v : PortSt) : (setPorts v s).dmem = s.dmem := rfl
@[simp] theorem setPorts_pgs (v : PortSt) : (setPorts v s).pgs = s.pgs := rfl
@[simp] theorem setPorts_loops (v : PortSt) : (setPorts v s).loops = s.loops := rfl
@[simp] theorem setPorts_heads (v : PortSt) : (setPorts v s).heads = s.heads := rfl
@[simp] theorem setPorts_spin (v : PortSt) : (setPorts v s).spin = s.spin := rfl
@[simp] theorem setPorts_sleds (v : PortSt) : (setPorts v s).sleds = s.sleds := rfl
@[simp] theorem setPorts_chans (v : PortSt) : (setPorts v s).chans = s.chans := rfl
@[simp] theorem setPorts_commons (v : PortSt) : (setPorts v s).commons = s.commons := rfl
@[simp] theorem setPorts_frames (v : PortSt) : (setPorts v s).frames = s.frames := rfl
@[simp] theorem setPorts_blanks (v : PortSt) : (setPorts v s).blanks = s.blanks := rfl
@[simp] theorem setPorts_dec (v : PortSt) : (setPorts v s).dec = s.dec := rfl
@[simp] theorem setPorts_encoded (v : PortSt) : (setPorts v s).encoded = s.encoded := rfl
@[simp] theorem setPorts_opcs (v : PortSt) : (setPorts v s).opcs = s.opcs := rfl
@[simp] theorem setPorts_betas (v : PortSt) : (setPorts v s).betas = s.betas := rfl
@[simp] theorem setPorts_mem (v : PortSt) : (setPorts v s).mem = s.mem := rfl
@[simp] theorem setPorts_lanesC (v : PortSt) : (setPorts v s).lanesC = s.lanesC := rfl
@[simp] theorem setPorts_claims (v : PortSt) : (setPorts v s).claims = s.claims := rfl
@[simp] theorem setPorts_cl (v : PortSt) : (setPorts v s).cl = s.cl := rfl
@[simp] theorem setPorts_port (v : PortSt) : (setPorts v s).port = v := rfl
@[simp] theorem setPorts_vault (v : PortSt) : (setPorts v s).vault = s.vault := rfl
@[simp] theorem setPorts_otp (v : PortSt) : (setPorts v s).otp = s.otp := rfl
@[simp] theorem setPorts_pwr (v : PortSt) : (setPorts v s).pwr = s.pwr := rfl
@[simp] theorem setPorts_dev (v : PortSt) : (setPorts v s).dev = s.dev := rfl
@[simp] theorem setPorts_obs (v : PortSt) : (setPorts v s).obs = s.obs := rfl
@[simp] theorem fget_setPorts (v : PortSt) (q : Nat) (g : Fld) : fget q g (setPorts v s) = fget q g s := rfl

@[simp] theorem setDec_pending (v : DecSt) : (setDec v s).pending = s.pending := rfl
@[simp] theorem setDec_free (v : DecSt) : (setDec v s).free = s.free := rfl
@[simp] theorem setDec_time (v : DecSt) : (setDec v s).time = s.time := rfl
@[simp] theorem setDec_prof (v : DecSt) : (setDec v s).prof = s.prof := rfl
@[simp] theorem setDec_regs (v : DecSt) : (setDec v s).regs = s.regs := rfl
@[simp] theorem setDec_evq (v : DecSt) : (setDec v s).evq = s.evq := rfl
@[simp] theorem setDec_out (v : DecSt) : (setDec v s).out = s.out := rfl
@[simp] theorem setDec_msix (v : DecSt) : (setDec v s).msix = s.msix := rfl
@[simp] theorem setDec_msixPend (v : DecSt) : (setDec v s).msixPend = s.msixPend := rfl
@[simp] theorem setDec_msixMask (v : DecSt) : (setDec v s).msixMask = s.msixMask := rfl
@[simp] theorem setDec_disc (v : DecSt) : (setDec v s).disc = s.disc := rfl
@[simp] theorem setDec_ends (v : DecSt) : (setDec v s).ends = s.ends := rfl
@[simp] theorem setDec_lanes (v : DecSt) : (setDec v s).lanes = s.lanes := rfl
@[simp] theorem setDec_links (v : DecSt) : (setDec v s).links = s.links := rfl
@[simp] theorem setDec_recs (v : DecSt) : (setDec v s).recs = s.recs := rfl
@[simp] theorem setDec_engs (v : DecSt) : (setDec v s).engs = s.engs := rfl
@[simp] theorem setDec_ustore (v : DecSt) : (setDec v s).ustore = s.ustore := rfl
@[simp] theorem setDec_nstore (v : DecSt) : (setDec v s).nstore = s.nstore := rfl
@[simp] theorem setDec_dmem (v : DecSt) : (setDec v s).dmem = s.dmem := rfl
@[simp] theorem setDec_pgs (v : DecSt) : (setDec v s).pgs = s.pgs := rfl
@[simp] theorem setDec_loops (v : DecSt) : (setDec v s).loops = s.loops := rfl
@[simp] theorem setDec_heads (v : DecSt) : (setDec v s).heads = s.heads := rfl
@[simp] theorem setDec_spin (v : DecSt) : (setDec v s).spin = s.spin := rfl
@[simp] theorem setDec_sleds (v : DecSt) : (setDec v s).sleds = s.sleds := rfl
@[simp] theorem setDec_chans (v : DecSt) : (setDec v s).chans = s.chans := rfl
@[simp] theorem setDec_commons (v : DecSt) : (setDec v s).commons = s.commons := rfl
@[simp] theorem setDec_frames (v : DecSt) : (setDec v s).frames = s.frames := rfl
@[simp] theorem setDec_blanks (v : DecSt) : (setDec v s).blanks = s.blanks := rfl
@[simp] theorem setDec_dec (v : DecSt) : (setDec v s).dec = v := rfl
@[simp] theorem setDec_encoded (v : DecSt) : (setDec v s).encoded = s.encoded := rfl
@[simp] theorem setDec_opcs (v : DecSt) : (setDec v s).opcs = s.opcs := rfl
@[simp] theorem setDec_betas (v : DecSt) : (setDec v s).betas = s.betas := rfl
@[simp] theorem setDec_mem (v : DecSt) : (setDec v s).mem = s.mem := rfl
@[simp] theorem setDec_lanesC (v : DecSt) : (setDec v s).lanesC = s.lanesC := rfl
@[simp] theorem setDec_claims (v : DecSt) : (setDec v s).claims = s.claims := rfl
@[simp] theorem setDec_cl (v : DecSt) : (setDec v s).cl = s.cl := rfl
@[simp] theorem setDec_port (v : DecSt) : (setDec v s).port = s.port := rfl
@[simp] theorem setDec_vault (v : DecSt) : (setDec v s).vault = s.vault := rfl
@[simp] theorem setDec_otp (v : DecSt) : (setDec v s).otp = s.otp := rfl
@[simp] theorem setDec_pwr (v : DecSt) : (setDec v s).pwr = s.pwr := rfl
@[simp] theorem setDec_dev (v : DecSt) : (setDec v s).dev = s.dev := rfl
@[simp] theorem setDec_obs (v : DecSt) : (setDec v s).obs = s.obs := rfl
@[simp] theorem fget_setDec (v : DecSt) (q : Nat) (g : Fld) : fget q g (setDec v s) = fget q g s := rfl

@[simp] theorem setDisc_pending (v : DiscSt) : (setDisc v s).pending = s.pending := rfl
@[simp] theorem setDisc_free (v : DiscSt) : (setDisc v s).free = s.free := rfl
@[simp] theorem setDisc_time (v : DiscSt) : (setDisc v s).time = s.time := rfl
@[simp] theorem setDisc_prof (v : DiscSt) : (setDisc v s).prof = s.prof := rfl
@[simp] theorem setDisc_regs (v : DiscSt) : (setDisc v s).regs = s.regs := rfl
@[simp] theorem setDisc_evq (v : DiscSt) : (setDisc v s).evq = s.evq := rfl
@[simp] theorem setDisc_out (v : DiscSt) : (setDisc v s).out = s.out := rfl
@[simp] theorem setDisc_msix (v : DiscSt) : (setDisc v s).msix = s.msix := rfl
@[simp] theorem setDisc_msixPend (v : DiscSt) : (setDisc v s).msixPend = s.msixPend := rfl
@[simp] theorem setDisc_msixMask (v : DiscSt) : (setDisc v s).msixMask = s.msixMask := rfl
@[simp] theorem setDisc_disc (v : DiscSt) : (setDisc v s).disc = v := rfl
@[simp] theorem setDisc_ends (v : DiscSt) : (setDisc v s).ends = s.ends := rfl
@[simp] theorem setDisc_lanes (v : DiscSt) : (setDisc v s).lanes = s.lanes := rfl
@[simp] theorem setDisc_links (v : DiscSt) : (setDisc v s).links = s.links := rfl
@[simp] theorem setDisc_recs (v : DiscSt) : (setDisc v s).recs = s.recs := rfl
@[simp] theorem setDisc_engs (v : DiscSt) : (setDisc v s).engs = s.engs := rfl
@[simp] theorem setDisc_ustore (v : DiscSt) : (setDisc v s).ustore = s.ustore := rfl
@[simp] theorem setDisc_nstore (v : DiscSt) : (setDisc v s).nstore = s.nstore := rfl
@[simp] theorem setDisc_dmem (v : DiscSt) : (setDisc v s).dmem = s.dmem := rfl
@[simp] theorem setDisc_pgs (v : DiscSt) : (setDisc v s).pgs = s.pgs := rfl
@[simp] theorem setDisc_loops (v : DiscSt) : (setDisc v s).loops = s.loops := rfl
@[simp] theorem setDisc_heads (v : DiscSt) : (setDisc v s).heads = s.heads := rfl
@[simp] theorem setDisc_spin (v : DiscSt) : (setDisc v s).spin = s.spin := rfl
@[simp] theorem setDisc_sleds (v : DiscSt) : (setDisc v s).sleds = s.sleds := rfl
@[simp] theorem setDisc_chans (v : DiscSt) : (setDisc v s).chans = s.chans := rfl
@[simp] theorem setDisc_commons (v : DiscSt) : (setDisc v s).commons = s.commons := rfl
@[simp] theorem setDisc_frames (v : DiscSt) : (setDisc v s).frames = s.frames := rfl
@[simp] theorem setDisc_blanks (v : DiscSt) : (setDisc v s).blanks = s.blanks := rfl
@[simp] theorem setDisc_dec (v : DiscSt) : (setDisc v s).dec = s.dec := rfl
@[simp] theorem setDisc_encoded (v : DiscSt) : (setDisc v s).encoded = s.encoded := rfl
@[simp] theorem setDisc_opcs (v : DiscSt) : (setDisc v s).opcs = s.opcs := rfl
@[simp] theorem setDisc_betas (v : DiscSt) : (setDisc v s).betas = s.betas := rfl
@[simp] theorem setDisc_mem (v : DiscSt) : (setDisc v s).mem = s.mem := rfl
@[simp] theorem setDisc_lanesC (v : DiscSt) : (setDisc v s).lanesC = s.lanesC := rfl
@[simp] theorem setDisc_claims (v : DiscSt) : (setDisc v s).claims = s.claims := rfl
@[simp] theorem setDisc_cl (v : DiscSt) : (setDisc v s).cl = s.cl := rfl
@[simp] theorem setDisc_port (v : DiscSt) : (setDisc v s).port = s.port := rfl
@[simp] theorem setDisc_vault (v : DiscSt) : (setDisc v s).vault = s.vault := rfl
@[simp] theorem setDisc_otp (v : DiscSt) : (setDisc v s).otp = s.otp := rfl
@[simp] theorem setDisc_pwr (v : DiscSt) : (setDisc v s).pwr = s.pwr := rfl
@[simp] theorem setDisc_dev (v : DiscSt) : (setDisc v s).dev = s.dev := rfl
@[simp] theorem setDisc_obs (v : DiscSt) : (setDisc v s).obs = s.obs := rfl
@[simp] theorem fget_setDisc (v : DiscSt) (q : Nat) (g : Fld) : fget q g (setDisc v s) = fget q g s := rfl

@[simp] theorem setSpin_pending (v : SpinSt) : (setSpin v s).pending = s.pending := rfl
@[simp] theorem setSpin_free (v : SpinSt) : (setSpin v s).free = s.free := rfl
@[simp] theorem setSpin_time (v : SpinSt) : (setSpin v s).time = s.time := rfl
@[simp] theorem setSpin_prof (v : SpinSt) : (setSpin v s).prof = s.prof := rfl
@[simp] theorem setSpin_regs (v : SpinSt) : (setSpin v s).regs = s.regs := rfl
@[simp] theorem setSpin_evq (v : SpinSt) : (setSpin v s).evq = s.evq := rfl
@[simp] theorem setSpin_out (v : SpinSt) : (setSpin v s).out = s.out := rfl
@[simp] theorem setSpin_msix (v : SpinSt) : (setSpin v s).msix = s.msix := rfl
@[simp] theorem setSpin_msixPend (v : SpinSt) : (setSpin v s).msixPend = s.msixPend := rfl
@[simp] theorem setSpin_msixMask (v : SpinSt) : (setSpin v s).msixMask = s.msixMask := rfl
@[simp] theorem setSpin_disc (v : SpinSt) : (setSpin v s).disc = s.disc := rfl
@[simp] theorem setSpin_ends (v : SpinSt) : (setSpin v s).ends = s.ends := rfl
@[simp] theorem setSpin_lanes (v : SpinSt) : (setSpin v s).lanes = s.lanes := rfl
@[simp] theorem setSpin_links (v : SpinSt) : (setSpin v s).links = s.links := rfl
@[simp] theorem setSpin_recs (v : SpinSt) : (setSpin v s).recs = s.recs := rfl
@[simp] theorem setSpin_engs (v : SpinSt) : (setSpin v s).engs = s.engs := rfl
@[simp] theorem setSpin_ustore (v : SpinSt) : (setSpin v s).ustore = s.ustore := rfl
@[simp] theorem setSpin_nstore (v : SpinSt) : (setSpin v s).nstore = s.nstore := rfl
@[simp] theorem setSpin_dmem (v : SpinSt) : (setSpin v s).dmem = s.dmem := rfl
@[simp] theorem setSpin_pgs (v : SpinSt) : (setSpin v s).pgs = s.pgs := rfl
@[simp] theorem setSpin_loops (v : SpinSt) : (setSpin v s).loops = s.loops := rfl
@[simp] theorem setSpin_heads (v : SpinSt) : (setSpin v s).heads = s.heads := rfl
@[simp] theorem setSpin_spin (v : SpinSt) : (setSpin v s).spin = v := rfl
@[simp] theorem setSpin_sleds (v : SpinSt) : (setSpin v s).sleds = s.sleds := rfl
@[simp] theorem setSpin_chans (v : SpinSt) : (setSpin v s).chans = s.chans := rfl
@[simp] theorem setSpin_commons (v : SpinSt) : (setSpin v s).commons = s.commons := rfl
@[simp] theorem setSpin_frames (v : SpinSt) : (setSpin v s).frames = s.frames := rfl
@[simp] theorem setSpin_blanks (v : SpinSt) : (setSpin v s).blanks = s.blanks := rfl
@[simp] theorem setSpin_dec (v : SpinSt) : (setSpin v s).dec = s.dec := rfl
@[simp] theorem setSpin_encoded (v : SpinSt) : (setSpin v s).encoded = s.encoded := rfl
@[simp] theorem setSpin_opcs (v : SpinSt) : (setSpin v s).opcs = s.opcs := rfl
@[simp] theorem setSpin_betas (v : SpinSt) : (setSpin v s).betas = s.betas := rfl
@[simp] theorem setSpin_mem (v : SpinSt) : (setSpin v s).mem = s.mem := rfl
@[simp] theorem setSpin_lanesC (v : SpinSt) : (setSpin v s).lanesC = s.lanesC := rfl
@[simp] theorem setSpin_claims (v : SpinSt) : (setSpin v s).claims = s.claims := rfl
@[simp] theorem setSpin_cl (v : SpinSt) : (setSpin v s).cl = s.cl := rfl
@[simp] theorem setSpin_port (v : SpinSt) : (setSpin v s).port = s.port := rfl
@[simp] theorem setSpin_vault (v : SpinSt) : (setSpin v s).vault = s.vault := rfl
@[simp] theorem setSpin_otp (v : SpinSt) : (setSpin v s).otp = s.otp := rfl
@[simp] theorem setSpin_pwr (v : SpinSt) : (setSpin v s).pwr = s.pwr := rfl
@[simp] theorem setSpin_dev (v : SpinSt) : (setSpin v s).dev = s.dev := rfl
@[simp] theorem setSpin_obs (v : SpinSt) : (setSpin v s).obs = s.obs := rfl
@[simp] theorem fget_setSpin (v : SpinSt) (q : Nat) (g : Fld) : fget q g (setSpin v s) = fget q g s := rfl

@[simp] theorem setEng_pending (k : Nat) (v : EngSt) : (setEng k v s).pending = s.pending := rfl
@[simp] theorem setEng_free (k : Nat) (v : EngSt) : (setEng k v s).free = s.free := rfl
@[simp] theorem setEng_time (k : Nat) (v : EngSt) : (setEng k v s).time = s.time := rfl
@[simp] theorem setEng_prof (k : Nat) (v : EngSt) : (setEng k v s).prof = s.prof := rfl
@[simp] theorem setEng_regs (k : Nat) (v : EngSt) : (setEng k v s).regs = s.regs := rfl
@[simp] theorem setEng_evq (k : Nat) (v : EngSt) : (setEng k v s).evq = s.evq := rfl
@[simp] theorem setEng_out (k : Nat) (v : EngSt) : (setEng k v s).out = s.out := rfl
@[simp] theorem setEng_msix (k : Nat) (v : EngSt) : (setEng k v s).msix = s.msix := rfl
@[simp] theorem setEng_msixPend (k : Nat) (v : EngSt) : (setEng k v s).msixPend = s.msixPend := rfl
@[simp] theorem setEng_msixMask (k : Nat) (v : EngSt) : (setEng k v s).msixMask = s.msixMask := rfl
@[simp] theorem setEng_disc (k : Nat) (v : EngSt) : (setEng k v s).disc = s.disc := rfl
@[simp] theorem setEng_ends (k : Nat) (v : EngSt) : (setEng k v s).ends = s.ends := rfl
@[simp] theorem setEng_lanes (k : Nat) (v : EngSt) : (setEng k v s).lanes = s.lanes := rfl
@[simp] theorem setEng_links (k : Nat) (v : EngSt) : (setEng k v s).links = s.links := rfl
@[simp] theorem setEng_recs (k : Nat) (v : EngSt) : (setEng k v s).recs = s.recs := rfl
@[simp] theorem setEng_engs (k : Nat) (v : EngSt) : (setEng k v s).engs = s.engs.put k v {} := rfl
@[simp] theorem setEng_ustore (k : Nat) (v : EngSt) : (setEng k v s).ustore = s.ustore := rfl
@[simp] theorem setEng_nstore (k : Nat) (v : EngSt) : (setEng k v s).nstore = s.nstore := rfl
@[simp] theorem setEng_dmem (k : Nat) (v : EngSt) : (setEng k v s).dmem = s.dmem := rfl
@[simp] theorem setEng_pgs (k : Nat) (v : EngSt) : (setEng k v s).pgs = s.pgs := rfl
@[simp] theorem setEng_loops (k : Nat) (v : EngSt) : (setEng k v s).loops = s.loops := rfl
@[simp] theorem setEng_heads (k : Nat) (v : EngSt) : (setEng k v s).heads = s.heads := rfl
@[simp] theorem setEng_spin (k : Nat) (v : EngSt) : (setEng k v s).spin = s.spin := rfl
@[simp] theorem setEng_sleds (k : Nat) (v : EngSt) : (setEng k v s).sleds = s.sleds := rfl
@[simp] theorem setEng_chans (k : Nat) (v : EngSt) : (setEng k v s).chans = s.chans := rfl
@[simp] theorem setEng_commons (k : Nat) (v : EngSt) : (setEng k v s).commons = s.commons := rfl
@[simp] theorem setEng_frames (k : Nat) (v : EngSt) : (setEng k v s).frames = s.frames := rfl
@[simp] theorem setEng_blanks (k : Nat) (v : EngSt) : (setEng k v s).blanks = s.blanks := rfl
@[simp] theorem setEng_dec (k : Nat) (v : EngSt) : (setEng k v s).dec = s.dec := rfl
@[simp] theorem setEng_encoded (k : Nat) (v : EngSt) : (setEng k v s).encoded = s.encoded := rfl
@[simp] theorem setEng_opcs (k : Nat) (v : EngSt) : (setEng k v s).opcs = s.opcs := rfl
@[simp] theorem setEng_betas (k : Nat) (v : EngSt) : (setEng k v s).betas = s.betas := rfl
@[simp] theorem setEng_mem (k : Nat) (v : EngSt) : (setEng k v s).mem = s.mem := rfl
@[simp] theorem setEng_lanesC (k : Nat) (v : EngSt) : (setEng k v s).lanesC = s.lanesC := rfl
@[simp] theorem setEng_claims (k : Nat) (v : EngSt) : (setEng k v s).claims = s.claims := rfl
@[simp] theorem setEng_cl (k : Nat) (v : EngSt) : (setEng k v s).cl = s.cl := rfl
@[simp] theorem setEng_port (k : Nat) (v : EngSt) : (setEng k v s).port = s.port := rfl
@[simp] theorem setEng_vault (k : Nat) (v : EngSt) : (setEng k v s).vault = s.vault := rfl
@[simp] theorem setEng_otp (k : Nat) (v : EngSt) : (setEng k v s).otp = s.otp := rfl
@[simp] theorem setEng_pwr (k : Nat) (v : EngSt) : (setEng k v s).pwr = s.pwr := rfl
@[simp] theorem setEng_dev (k : Nat) (v : EngSt) : (setEng k v s).dev = s.dev := rfl
@[simp] theorem setEng_obs (k : Nat) (v : EngSt) : (setEng k v s).obs = s.obs := rfl
@[simp] theorem fget_setEng (k : Nat) (v : EngSt) (q : Nat) (g : Fld) : fget q g (setEng k v s) = fget q g s := rfl

@[simp] theorem setLane_pending (k : Nat) (v : LaneSt) : (setLane k v s).pending = s.pending := rfl
@[simp] theorem setLane_free (k : Nat) (v : LaneSt) : (setLane k v s).free = s.free := rfl
@[simp] theorem setLane_time (k : Nat) (v : LaneSt) : (setLane k v s).time = s.time := rfl
@[simp] theorem setLane_prof (k : Nat) (v : LaneSt) : (setLane k v s).prof = s.prof := rfl
@[simp] theorem setLane_regs (k : Nat) (v : LaneSt) : (setLane k v s).regs = s.regs := rfl
@[simp] theorem setLane_evq (k : Nat) (v : LaneSt) : (setLane k v s).evq = s.evq := rfl
@[simp] theorem setLane_out (k : Nat) (v : LaneSt) : (setLane k v s).out = s.out := rfl
@[simp] theorem setLane_msix (k : Nat) (v : LaneSt) : (setLane k v s).msix = s.msix := rfl
@[simp] theorem setLane_msixPend (k : Nat) (v : LaneSt) : (setLane k v s).msixPend = s.msixPend := rfl
@[simp] theorem setLane_msixMask (k : Nat) (v : LaneSt) : (setLane k v s).msixMask = s.msixMask := rfl
@[simp] theorem setLane_disc (k : Nat) (v : LaneSt) : (setLane k v s).disc = s.disc := rfl
@[simp] theorem setLane_ends (k : Nat) (v : LaneSt) : (setLane k v s).ends = s.ends := rfl
@[simp] theorem setLane_lanes (k : Nat) (v : LaneSt) : (setLane k v s).lanes = s.lanes.put k v {} := rfl
@[simp] theorem setLane_links (k : Nat) (v : LaneSt) : (setLane k v s).links = s.links := rfl
@[simp] theorem setLane_recs (k : Nat) (v : LaneSt) : (setLane k v s).recs = s.recs := rfl
@[simp] theorem setLane_engs (k : Nat) (v : LaneSt) : (setLane k v s).engs = s.engs := rfl
@[simp] theorem setLane_ustore (k : Nat) (v : LaneSt) : (setLane k v s).ustore = s.ustore := rfl
@[simp] theorem setLane_nstore (k : Nat) (v : LaneSt) : (setLane k v s).nstore = s.nstore := rfl
@[simp] theorem setLane_dmem (k : Nat) (v : LaneSt) : (setLane k v s).dmem = s.dmem := rfl
@[simp] theorem setLane_pgs (k : Nat) (v : LaneSt) : (setLane k v s).pgs = s.pgs := rfl
@[simp] theorem setLane_loops (k : Nat) (v : LaneSt) : (setLane k v s).loops = s.loops := rfl
@[simp] theorem setLane_heads (k : Nat) (v : LaneSt) : (setLane k v s).heads = s.heads := rfl
@[simp] theorem setLane_spin (k : Nat) (v : LaneSt) : (setLane k v s).spin = s.spin := rfl
@[simp] theorem setLane_sleds (k : Nat) (v : LaneSt) : (setLane k v s).sleds = s.sleds := rfl
@[simp] theorem setLane_chans (k : Nat) (v : LaneSt) : (setLane k v s).chans = s.chans := rfl
@[simp] theorem setLane_commons (k : Nat) (v : LaneSt) : (setLane k v s).commons = s.commons := rfl
@[simp] theorem setLane_frames (k : Nat) (v : LaneSt) : (setLane k v s).frames = s.frames := rfl
@[simp] theorem setLane_blanks (k : Nat) (v : LaneSt) : (setLane k v s).blanks = s.blanks := rfl
@[simp] theorem setLane_dec (k : Nat) (v : LaneSt) : (setLane k v s).dec = s.dec := rfl
@[simp] theorem setLane_encoded (k : Nat) (v : LaneSt) : (setLane k v s).encoded = s.encoded := rfl
@[simp] theorem setLane_opcs (k : Nat) (v : LaneSt) : (setLane k v s).opcs = s.opcs := rfl
@[simp] theorem setLane_betas (k : Nat) (v : LaneSt) : (setLane k v s).betas = s.betas := rfl
@[simp] theorem setLane_mem (k : Nat) (v : LaneSt) : (setLane k v s).mem = s.mem := rfl
@[simp] theorem setLane_lanesC (k : Nat) (v : LaneSt) : (setLane k v s).lanesC = s.lanesC := rfl
@[simp] theorem setLane_claims (k : Nat) (v : LaneSt) : (setLane k v s).claims = s.claims := rfl
@[simp] theorem setLane_cl (k : Nat) (v : LaneSt) : (setLane k v s).cl = s.cl := rfl
@[simp] theorem setLane_port (k : Nat) (v : LaneSt) : (setLane k v s).port = s.port := rfl
@[simp] theorem setLane_vault (k : Nat) (v : LaneSt) : (setLane k v s).vault = s.vault := rfl
@[simp] theorem setLane_otp (k : Nat) (v : LaneSt) : (setLane k v s).otp = s.otp := rfl
@[simp] theorem setLane_pwr (k : Nat) (v : LaneSt) : (setLane k v s).pwr = s.pwr := rfl
@[simp] theorem setLane_dev (k : Nat) (v : LaneSt) : (setLane k v s).dev = s.dev := rfl
@[simp] theorem setLane_obs (k : Nat) (v : LaneSt) : (setLane k v s).obs = s.obs := rfl
@[simp] theorem fget_setLane (k : Nat) (v : LaneSt) (q : Nat) (g : Fld) : fget q g (setLane k v s) = fget q g s := rfl

@[simp] theorem setLink_pending (k : Nat) (v : LinkSt) : (setLink k v s).pending = s.pending := rfl
@[simp] theorem setLink_free (k : Nat) (v : LinkSt) : (setLink k v s).free = s.free := rfl
@[simp] theorem setLink_time (k : Nat) (v : LinkSt) : (setLink k v s).time = s.time := rfl
@[simp] theorem setLink_prof (k : Nat) (v : LinkSt) : (setLink k v s).prof = s.prof := rfl
@[simp] theorem setLink_regs (k : Nat) (v : LinkSt) : (setLink k v s).regs = s.regs := rfl
@[simp] theorem setLink_evq (k : Nat) (v : LinkSt) : (setLink k v s).evq = s.evq := rfl
@[simp] theorem setLink_out (k : Nat) (v : LinkSt) : (setLink k v s).out = s.out := rfl
@[simp] theorem setLink_msix (k : Nat) (v : LinkSt) : (setLink k v s).msix = s.msix := rfl
@[simp] theorem setLink_msixPend (k : Nat) (v : LinkSt) : (setLink k v s).msixPend = s.msixPend := rfl
@[simp] theorem setLink_msixMask (k : Nat) (v : LinkSt) : (setLink k v s).msixMask = s.msixMask := rfl
@[simp] theorem setLink_disc (k : Nat) (v : LinkSt) : (setLink k v s).disc = s.disc := rfl
@[simp] theorem setLink_ends (k : Nat) (v : LinkSt) : (setLink k v s).ends = s.ends := rfl
@[simp] theorem setLink_lanes (k : Nat) (v : LinkSt) : (setLink k v s).lanes = s.lanes := rfl
@[simp] theorem setLink_links (k : Nat) (v : LinkSt) : (setLink k v s).links = s.links.put k v {} := rfl
@[simp] theorem setLink_recs (k : Nat) (v : LinkSt) : (setLink k v s).recs = s.recs := rfl
@[simp] theorem setLink_engs (k : Nat) (v : LinkSt) : (setLink k v s).engs = s.engs := rfl
@[simp] theorem setLink_ustore (k : Nat) (v : LinkSt) : (setLink k v s).ustore = s.ustore := rfl
@[simp] theorem setLink_nstore (k : Nat) (v : LinkSt) : (setLink k v s).nstore = s.nstore := rfl
@[simp] theorem setLink_dmem (k : Nat) (v : LinkSt) : (setLink k v s).dmem = s.dmem := rfl
@[simp] theorem setLink_pgs (k : Nat) (v : LinkSt) : (setLink k v s).pgs = s.pgs := rfl
@[simp] theorem setLink_loops (k : Nat) (v : LinkSt) : (setLink k v s).loops = s.loops := rfl
@[simp] theorem setLink_heads (k : Nat) (v : LinkSt) : (setLink k v s).heads = s.heads := rfl
@[simp] theorem setLink_spin (k : Nat) (v : LinkSt) : (setLink k v s).spin = s.spin := rfl
@[simp] theorem setLink_sleds (k : Nat) (v : LinkSt) : (setLink k v s).sleds = s.sleds := rfl
@[simp] theorem setLink_chans (k : Nat) (v : LinkSt) : (setLink k v s).chans = s.chans := rfl
@[simp] theorem setLink_commons (k : Nat) (v : LinkSt) : (setLink k v s).commons = s.commons := rfl
@[simp] theorem setLink_frames (k : Nat) (v : LinkSt) : (setLink k v s).frames = s.frames := rfl
@[simp] theorem setLink_blanks (k : Nat) (v : LinkSt) : (setLink k v s).blanks = s.blanks := rfl
@[simp] theorem setLink_dec (k : Nat) (v : LinkSt) : (setLink k v s).dec = s.dec := rfl
@[simp] theorem setLink_encoded (k : Nat) (v : LinkSt) : (setLink k v s).encoded = s.encoded := rfl
@[simp] theorem setLink_opcs (k : Nat) (v : LinkSt) : (setLink k v s).opcs = s.opcs := rfl
@[simp] theorem setLink_betas (k : Nat) (v : LinkSt) : (setLink k v s).betas = s.betas := rfl
@[simp] theorem setLink_mem (k : Nat) (v : LinkSt) : (setLink k v s).mem = s.mem := rfl
@[simp] theorem setLink_lanesC (k : Nat) (v : LinkSt) : (setLink k v s).lanesC = s.lanesC := rfl
@[simp] theorem setLink_claims (k : Nat) (v : LinkSt) : (setLink k v s).claims = s.claims := rfl
@[simp] theorem setLink_cl (k : Nat) (v : LinkSt) : (setLink k v s).cl = s.cl := rfl
@[simp] theorem setLink_port (k : Nat) (v : LinkSt) : (setLink k v s).port = s.port := rfl
@[simp] theorem setLink_vault (k : Nat) (v : LinkSt) : (setLink k v s).vault = s.vault := rfl
@[simp] theorem setLink_otp (k : Nat) (v : LinkSt) : (setLink k v s).otp = s.otp := rfl
@[simp] theorem setLink_pwr (k : Nat) (v : LinkSt) : (setLink k v s).pwr = s.pwr := rfl
@[simp] theorem setLink_dev (k : Nat) (v : LinkSt) : (setLink k v s).dev = s.dev := rfl
@[simp] theorem setLink_obs (k : Nat) (v : LinkSt) : (setLink k v s).obs = s.obs := rfl
@[simp] theorem fget_setLink (k : Nat) (v : LinkSt) (q : Nat) (g : Fld) : fget q g (setLink k v s) = fget q g s := rfl

@[simp] theorem setRec_pending (k : Nat) (v : RecSt) : (setRec k v s).pending = s.pending := rfl
@[simp] theorem setRec_free (k : Nat) (v : RecSt) : (setRec k v s).free = s.free := rfl
@[simp] theorem setRec_time (k : Nat) (v : RecSt) : (setRec k v s).time = s.time := rfl
@[simp] theorem setRec_prof (k : Nat) (v : RecSt) : (setRec k v s).prof = s.prof := rfl
@[simp] theorem setRec_regs (k : Nat) (v : RecSt) : (setRec k v s).regs = s.regs := rfl
@[simp] theorem setRec_evq (k : Nat) (v : RecSt) : (setRec k v s).evq = s.evq := rfl
@[simp] theorem setRec_out (k : Nat) (v : RecSt) : (setRec k v s).out = s.out := rfl
@[simp] theorem setRec_msix (k : Nat) (v : RecSt) : (setRec k v s).msix = s.msix := rfl
@[simp] theorem setRec_msixPend (k : Nat) (v : RecSt) : (setRec k v s).msixPend = s.msixPend := rfl
@[simp] theorem setRec_msixMask (k : Nat) (v : RecSt) : (setRec k v s).msixMask = s.msixMask := rfl
@[simp] theorem setRec_disc (k : Nat) (v : RecSt) : (setRec k v s).disc = s.disc := rfl
@[simp] theorem setRec_ends (k : Nat) (v : RecSt) : (setRec k v s).ends = s.ends := rfl
@[simp] theorem setRec_lanes (k : Nat) (v : RecSt) : (setRec k v s).lanes = s.lanes := rfl
@[simp] theorem setRec_links (k : Nat) (v : RecSt) : (setRec k v s).links = s.links := rfl
@[simp] theorem setRec_recs (k : Nat) (v : RecSt) : (setRec k v s).recs = s.recs.put k v {} := rfl
@[simp] theorem setRec_engs (k : Nat) (v : RecSt) : (setRec k v s).engs = s.engs := rfl
@[simp] theorem setRec_ustore (k : Nat) (v : RecSt) : (setRec k v s).ustore = s.ustore := rfl
@[simp] theorem setRec_nstore (k : Nat) (v : RecSt) : (setRec k v s).nstore = s.nstore := rfl
@[simp] theorem setRec_dmem (k : Nat) (v : RecSt) : (setRec k v s).dmem = s.dmem := rfl
@[simp] theorem setRec_pgs (k : Nat) (v : RecSt) : (setRec k v s).pgs = s.pgs := rfl
@[simp] theorem setRec_loops (k : Nat) (v : RecSt) : (setRec k v s).loops = s.loops := rfl
@[simp] theorem setRec_heads (k : Nat) (v : RecSt) : (setRec k v s).heads = s.heads := rfl
@[simp] theorem setRec_spin (k : Nat) (v : RecSt) : (setRec k v s).spin = s.spin := rfl
@[simp] theorem setRec_sleds (k : Nat) (v : RecSt) : (setRec k v s).sleds = s.sleds := rfl
@[simp] theorem setRec_chans (k : Nat) (v : RecSt) : (setRec k v s).chans = s.chans := rfl
@[simp] theorem setRec_commons (k : Nat) (v : RecSt) : (setRec k v s).commons = s.commons := rfl
@[simp] theorem setRec_frames (k : Nat) (v : RecSt) : (setRec k v s).frames = s.frames := rfl
@[simp] theorem setRec_blanks (k : Nat) (v : RecSt) : (setRec k v s).blanks = s.blanks := rfl
@[simp] theorem setRec_dec (k : Nat) (v : RecSt) : (setRec k v s).dec = s.dec := rfl
@[simp] theorem setRec_encoded (k : Nat) (v : RecSt) : (setRec k v s).encoded = s.encoded := rfl
@[simp] theorem setRec_opcs (k : Nat) (v : RecSt) : (setRec k v s).opcs = s.opcs := rfl
@[simp] theorem setRec_betas (k : Nat) (v : RecSt) : (setRec k v s).betas = s.betas := rfl
@[simp] theorem setRec_mem (k : Nat) (v : RecSt) : (setRec k v s).mem = s.mem := rfl
@[simp] theorem setRec_lanesC (k : Nat) (v : RecSt) : (setRec k v s).lanesC = s.lanesC := rfl
@[simp] theorem setRec_claims (k : Nat) (v : RecSt) : (setRec k v s).claims = s.claims := rfl
@[simp] theorem setRec_cl (k : Nat) (v : RecSt) : (setRec k v s).cl = s.cl := rfl
@[simp] theorem setRec_port (k : Nat) (v : RecSt) : (setRec k v s).port = s.port := rfl
@[simp] theorem setRec_vault (k : Nat) (v : RecSt) : (setRec k v s).vault = s.vault := rfl
@[simp] theorem setRec_otp (k : Nat) (v : RecSt) : (setRec k v s).otp = s.otp := rfl
@[simp] theorem setRec_pwr (k : Nat) (v : RecSt) : (setRec k v s).pwr = s.pwr := rfl
@[simp] theorem setRec_dev (k : Nat) (v : RecSt) : (setRec k v s).dev = s.dev := rfl
@[simp] theorem setRec_obs (k : Nat) (v : RecSt) : (setRec k v s).obs = s.obs := rfl
@[simp] theorem fget_setRec (k : Nat) (v : RecSt) (q : Nat) (g : Fld) : fget q g (setRec k v s) = fget q g s := rfl

@[simp] theorem setHead_pending (k : Nat) (v : HeadSt) : (setHead k v s).pending = s.pending := rfl
@[simp] theorem setHead_free (k : Nat) (v : HeadSt) : (setHead k v s).free = s.free := rfl
@[simp] theorem setHead_time (k : Nat) (v : HeadSt) : (setHead k v s).time = s.time := rfl
@[simp] theorem setHead_prof (k : Nat) (v : HeadSt) : (setHead k v s).prof = s.prof := rfl
@[simp] theorem setHead_regs (k : Nat) (v : HeadSt) : (setHead k v s).regs = s.regs := rfl
@[simp] theorem setHead_evq (k : Nat) (v : HeadSt) : (setHead k v s).evq = s.evq := rfl
@[simp] theorem setHead_out (k : Nat) (v : HeadSt) : (setHead k v s).out = s.out := rfl
@[simp] theorem setHead_msix (k : Nat) (v : HeadSt) : (setHead k v s).msix = s.msix := rfl
@[simp] theorem setHead_msixPend (k : Nat) (v : HeadSt) : (setHead k v s).msixPend = s.msixPend := rfl
@[simp] theorem setHead_msixMask (k : Nat) (v : HeadSt) : (setHead k v s).msixMask = s.msixMask := rfl
@[simp] theorem setHead_disc (k : Nat) (v : HeadSt) : (setHead k v s).disc = s.disc := rfl
@[simp] theorem setHead_ends (k : Nat) (v : HeadSt) : (setHead k v s).ends = s.ends := rfl
@[simp] theorem setHead_lanes (k : Nat) (v : HeadSt) : (setHead k v s).lanes = s.lanes := rfl
@[simp] theorem setHead_links (k : Nat) (v : HeadSt) : (setHead k v s).links = s.links := rfl
@[simp] theorem setHead_recs (k : Nat) (v : HeadSt) : (setHead k v s).recs = s.recs := rfl
@[simp] theorem setHead_engs (k : Nat) (v : HeadSt) : (setHead k v s).engs = s.engs := rfl
@[simp] theorem setHead_ustore (k : Nat) (v : HeadSt) : (setHead k v s).ustore = s.ustore := rfl
@[simp] theorem setHead_nstore (k : Nat) (v : HeadSt) : (setHead k v s).nstore = s.nstore := rfl
@[simp] theorem setHead_dmem (k : Nat) (v : HeadSt) : (setHead k v s).dmem = s.dmem := rfl
@[simp] theorem setHead_pgs (k : Nat) (v : HeadSt) : (setHead k v s).pgs = s.pgs := rfl
@[simp] theorem setHead_loops (k : Nat) (v : HeadSt) : (setHead k v s).loops = s.loops := rfl
@[simp] theorem setHead_heads (k : Nat) (v : HeadSt) : (setHead k v s).heads = s.heads.put k v {} := rfl
@[simp] theorem setHead_spin (k : Nat) (v : HeadSt) : (setHead k v s).spin = s.spin := rfl
@[simp] theorem setHead_sleds (k : Nat) (v : HeadSt) : (setHead k v s).sleds = s.sleds := rfl
@[simp] theorem setHead_chans (k : Nat) (v : HeadSt) : (setHead k v s).chans = s.chans := rfl
@[simp] theorem setHead_commons (k : Nat) (v : HeadSt) : (setHead k v s).commons = s.commons := rfl
@[simp] theorem setHead_frames (k : Nat) (v : HeadSt) : (setHead k v s).frames = s.frames := rfl
@[simp] theorem setHead_blanks (k : Nat) (v : HeadSt) : (setHead k v s).blanks = s.blanks := rfl
@[simp] theorem setHead_dec (k : Nat) (v : HeadSt) : (setHead k v s).dec = s.dec := rfl
@[simp] theorem setHead_encoded (k : Nat) (v : HeadSt) : (setHead k v s).encoded = s.encoded := rfl
@[simp] theorem setHead_opcs (k : Nat) (v : HeadSt) : (setHead k v s).opcs = s.opcs := rfl
@[simp] theorem setHead_betas (k : Nat) (v : HeadSt) : (setHead k v s).betas = s.betas := rfl
@[simp] theorem setHead_mem (k : Nat) (v : HeadSt) : (setHead k v s).mem = s.mem := rfl
@[simp] theorem setHead_lanesC (k : Nat) (v : HeadSt) : (setHead k v s).lanesC = s.lanesC := rfl
@[simp] theorem setHead_claims (k : Nat) (v : HeadSt) : (setHead k v s).claims = s.claims := rfl
@[simp] theorem setHead_cl (k : Nat) (v : HeadSt) : (setHead k v s).cl = s.cl := rfl
@[simp] theorem setHead_port (k : Nat) (v : HeadSt) : (setHead k v s).port = s.port := rfl
@[simp] theorem setHead_vault (k : Nat) (v : HeadSt) : (setHead k v s).vault = s.vault := rfl
@[simp] theorem setHead_otp (k : Nat) (v : HeadSt) : (setHead k v s).otp = s.otp := rfl
@[simp] theorem setHead_pwr (k : Nat) (v : HeadSt) : (setHead k v s).pwr = s.pwr := rfl
@[simp] theorem setHead_dev (k : Nat) (v : HeadSt) : (setHead k v s).dev = s.dev := rfl
@[simp] theorem setHead_obs (k : Nat) (v : HeadSt) : (setHead k v s).obs = s.obs := rfl
@[simp] theorem fget_setHead (k : Nat) (v : HeadSt) (q : Nat) (g : Fld) : fget q g (setHead k v s) = fget q g s := rfl

@[simp] theorem setPg_pending (k : Nat) (v : PgSt) : (setPg k v s).pending = s.pending := rfl
@[simp] theorem setPg_free (k : Nat) (v : PgSt) : (setPg k v s).free = s.free := rfl
@[simp] theorem setPg_time (k : Nat) (v : PgSt) : (setPg k v s).time = s.time := rfl
@[simp] theorem setPg_prof (k : Nat) (v : PgSt) : (setPg k v s).prof = s.prof := rfl
@[simp] theorem setPg_regs (k : Nat) (v : PgSt) : (setPg k v s).regs = s.regs := rfl
@[simp] theorem setPg_evq (k : Nat) (v : PgSt) : (setPg k v s).evq = s.evq := rfl
@[simp] theorem setPg_out (k : Nat) (v : PgSt) : (setPg k v s).out = s.out := rfl
@[simp] theorem setPg_msix (k : Nat) (v : PgSt) : (setPg k v s).msix = s.msix := rfl
@[simp] theorem setPg_msixPend (k : Nat) (v : PgSt) : (setPg k v s).msixPend = s.msixPend := rfl
@[simp] theorem setPg_msixMask (k : Nat) (v : PgSt) : (setPg k v s).msixMask = s.msixMask := rfl
@[simp] theorem setPg_disc (k : Nat) (v : PgSt) : (setPg k v s).disc = s.disc := rfl
@[simp] theorem setPg_ends (k : Nat) (v : PgSt) : (setPg k v s).ends = s.ends := rfl
@[simp] theorem setPg_lanes (k : Nat) (v : PgSt) : (setPg k v s).lanes = s.lanes := rfl
@[simp] theorem setPg_links (k : Nat) (v : PgSt) : (setPg k v s).links = s.links := rfl
@[simp] theorem setPg_recs (k : Nat) (v : PgSt) : (setPg k v s).recs = s.recs := rfl
@[simp] theorem setPg_engs (k : Nat) (v : PgSt) : (setPg k v s).engs = s.engs := rfl
@[simp] theorem setPg_ustore (k : Nat) (v : PgSt) : (setPg k v s).ustore = s.ustore := rfl
@[simp] theorem setPg_nstore (k : Nat) (v : PgSt) : (setPg k v s).nstore = s.nstore := rfl
@[simp] theorem setPg_dmem (k : Nat) (v : PgSt) : (setPg k v s).dmem = s.dmem := rfl
@[simp] theorem setPg_pgs (k : Nat) (v : PgSt) : (setPg k v s).pgs = s.pgs.put k v {} := rfl
@[simp] theorem setPg_loops (k : Nat) (v : PgSt) : (setPg k v s).loops = s.loops := rfl
@[simp] theorem setPg_heads (k : Nat) (v : PgSt) : (setPg k v s).heads = s.heads := rfl
@[simp] theorem setPg_spin (k : Nat) (v : PgSt) : (setPg k v s).spin = s.spin := rfl
@[simp] theorem setPg_sleds (k : Nat) (v : PgSt) : (setPg k v s).sleds = s.sleds := rfl
@[simp] theorem setPg_chans (k : Nat) (v : PgSt) : (setPg k v s).chans = s.chans := rfl
@[simp] theorem setPg_commons (k : Nat) (v : PgSt) : (setPg k v s).commons = s.commons := rfl
@[simp] theorem setPg_frames (k : Nat) (v : PgSt) : (setPg k v s).frames = s.frames := rfl
@[simp] theorem setPg_blanks (k : Nat) (v : PgSt) : (setPg k v s).blanks = s.blanks := rfl
@[simp] theorem setPg_dec (k : Nat) (v : PgSt) : (setPg k v s).dec = s.dec := rfl
@[simp] theorem setPg_encoded (k : Nat) (v : PgSt) : (setPg k v s).encoded = s.encoded := rfl
@[simp] theorem setPg_opcs (k : Nat) (v : PgSt) : (setPg k v s).opcs = s.opcs := rfl
@[simp] theorem setPg_betas (k : Nat) (v : PgSt) : (setPg k v s).betas = s.betas := rfl
@[simp] theorem setPg_mem (k : Nat) (v : PgSt) : (setPg k v s).mem = s.mem := rfl
@[simp] theorem setPg_lanesC (k : Nat) (v : PgSt) : (setPg k v s).lanesC = s.lanesC := rfl
@[simp] theorem setPg_claims (k : Nat) (v : PgSt) : (setPg k v s).claims = s.claims := rfl
@[simp] theorem setPg_cl (k : Nat) (v : PgSt) : (setPg k v s).cl = s.cl := rfl
@[simp] theorem setPg_port (k : Nat) (v : PgSt) : (setPg k v s).port = s.port := rfl
@[simp] theorem setPg_vault (k : Nat) (v : PgSt) : (setPg k v s).vault = s.vault := rfl
@[simp] theorem setPg_otp (k : Nat) (v : PgSt) : (setPg k v s).otp = s.otp := rfl
@[simp] theorem setPg_pwr (k : Nat) (v : PgSt) : (setPg k v s).pwr = s.pwr := rfl
@[simp] theorem setPg_dev (k : Nat) (v : PgSt) : (setPg k v s).dev = s.dev := rfl
@[simp] theorem setPg_obs (k : Nat) (v : PgSt) : (setPg k v s).obs = s.obs := rfl
@[simp] theorem fget_setPg (k : Nat) (v : PgSt) (q : Nat) (g : Fld) : fget q g (setPg k v s) = fget q g s := rfl

@[simp] theorem setLoop_pending (k : Nat) (v : LoopSt) : (setLoop k v s).pending = s.pending := rfl
@[simp] theorem setLoop_free (k : Nat) (v : LoopSt) : (setLoop k v s).free = s.free := rfl
@[simp] theorem setLoop_time (k : Nat) (v : LoopSt) : (setLoop k v s).time = s.time := rfl
@[simp] theorem setLoop_prof (k : Nat) (v : LoopSt) : (setLoop k v s).prof = s.prof := rfl
@[simp] theorem setLoop_regs (k : Nat) (v : LoopSt) : (setLoop k v s).regs = s.regs := rfl
@[simp] theorem setLoop_evq (k : Nat) (v : LoopSt) : (setLoop k v s).evq = s.evq := rfl
@[simp] theorem setLoop_out (k : Nat) (v : LoopSt) : (setLoop k v s).out = s.out := rfl
@[simp] theorem setLoop_msix (k : Nat) (v : LoopSt) : (setLoop k v s).msix = s.msix := rfl
@[simp] theorem setLoop_msixPend (k : Nat) (v : LoopSt) : (setLoop k v s).msixPend = s.msixPend := rfl
@[simp] theorem setLoop_msixMask (k : Nat) (v : LoopSt) : (setLoop k v s).msixMask = s.msixMask := rfl
@[simp] theorem setLoop_disc (k : Nat) (v : LoopSt) : (setLoop k v s).disc = s.disc := rfl
@[simp] theorem setLoop_ends (k : Nat) (v : LoopSt) : (setLoop k v s).ends = s.ends := rfl
@[simp] theorem setLoop_lanes (k : Nat) (v : LoopSt) : (setLoop k v s).lanes = s.lanes := rfl
@[simp] theorem setLoop_links (k : Nat) (v : LoopSt) : (setLoop k v s).links = s.links := rfl
@[simp] theorem setLoop_recs (k : Nat) (v : LoopSt) : (setLoop k v s).recs = s.recs := rfl
@[simp] theorem setLoop_engs (k : Nat) (v : LoopSt) : (setLoop k v s).engs = s.engs := rfl
@[simp] theorem setLoop_ustore (k : Nat) (v : LoopSt) : (setLoop k v s).ustore = s.ustore := rfl
@[simp] theorem setLoop_nstore (k : Nat) (v : LoopSt) : (setLoop k v s).nstore = s.nstore := rfl
@[simp] theorem setLoop_dmem (k : Nat) (v : LoopSt) : (setLoop k v s).dmem = s.dmem := rfl
@[simp] theorem setLoop_pgs (k : Nat) (v : LoopSt) : (setLoop k v s).pgs = s.pgs := rfl
@[simp] theorem setLoop_loops (k : Nat) (v : LoopSt) : (setLoop k v s).loops = s.loops.put k v {} := rfl
@[simp] theorem setLoop_heads (k : Nat) (v : LoopSt) : (setLoop k v s).heads = s.heads := rfl
@[simp] theorem setLoop_spin (k : Nat) (v : LoopSt) : (setLoop k v s).spin = s.spin := rfl
@[simp] theorem setLoop_sleds (k : Nat) (v : LoopSt) : (setLoop k v s).sleds = s.sleds := rfl
@[simp] theorem setLoop_chans (k : Nat) (v : LoopSt) : (setLoop k v s).chans = s.chans := rfl
@[simp] theorem setLoop_commons (k : Nat) (v : LoopSt) : (setLoop k v s).commons = s.commons := rfl
@[simp] theorem setLoop_frames (k : Nat) (v : LoopSt) : (setLoop k v s).frames = s.frames := rfl
@[simp] theorem setLoop_blanks (k : Nat) (v : LoopSt) : (setLoop k v s).blanks = s.blanks := rfl
@[simp] theorem setLoop_dec (k : Nat) (v : LoopSt) : (setLoop k v s).dec = s.dec := rfl
@[simp] theorem setLoop_encoded (k : Nat) (v : LoopSt) : (setLoop k v s).encoded = s.encoded := rfl
@[simp] theorem setLoop_opcs (k : Nat) (v : LoopSt) : (setLoop k v s).opcs = s.opcs := rfl
@[simp] theorem setLoop_betas (k : Nat) (v : LoopSt) : (setLoop k v s).betas = s.betas := rfl
@[simp] theorem setLoop_mem (k : Nat) (v : LoopSt) : (setLoop k v s).mem = s.mem := rfl
@[simp] theorem setLoop_lanesC (k : Nat) (v : LoopSt) : (setLoop k v s).lanesC = s.lanesC := rfl
@[simp] theorem setLoop_claims (k : Nat) (v : LoopSt) : (setLoop k v s).claims = s.claims := rfl
@[simp] theorem setLoop_cl (k : Nat) (v : LoopSt) : (setLoop k v s).cl = s.cl := rfl
@[simp] theorem setLoop_port (k : Nat) (v : LoopSt) : (setLoop k v s).port = s.port := rfl
@[simp] theorem setLoop_vault (k : Nat) (v : LoopSt) : (setLoop k v s).vault = s.vault := rfl
@[simp] theorem setLoop_otp (k : Nat) (v : LoopSt) : (setLoop k v s).otp = s.otp := rfl
@[simp] theorem setLoop_pwr (k : Nat) (v : LoopSt) : (setLoop k v s).pwr = s.pwr := rfl
@[simp] theorem setLoop_dev (k : Nat) (v : LoopSt) : (setLoop k v s).dev = s.dev := rfl
@[simp] theorem setLoop_obs (k : Nat) (v : LoopSt) : (setLoop k v s).obs = s.obs := rfl
@[simp] theorem fget_setLoop (k : Nat) (v : LoopSt) (q : Nat) (g : Fld) : fget q g (setLoop k v s) = fget q g s := rfl

@[simp] theorem setSled_pending (k : Nat) (v : SledSt) : (setSled k v s).pending = s.pending := rfl
@[simp] theorem setSled_free (k : Nat) (v : SledSt) : (setSled k v s).free = s.free := rfl
@[simp] theorem setSled_time (k : Nat) (v : SledSt) : (setSled k v s).time = s.time := rfl
@[simp] theorem setSled_prof (k : Nat) (v : SledSt) : (setSled k v s).prof = s.prof := rfl
@[simp] theorem setSled_regs (k : Nat) (v : SledSt) : (setSled k v s).regs = s.regs := rfl
@[simp] theorem setSled_evq (k : Nat) (v : SledSt) : (setSled k v s).evq = s.evq := rfl
@[simp] theorem setSled_out (k : Nat) (v : SledSt) : (setSled k v s).out = s.out := rfl
@[simp] theorem setSled_msix (k : Nat) (v : SledSt) : (setSled k v s).msix = s.msix := rfl
@[simp] theorem setSled_msixPend (k : Nat) (v : SledSt) : (setSled k v s).msixPend = s.msixPend := rfl
@[simp] theorem setSled_msixMask (k : Nat) (v : SledSt) : (setSled k v s).msixMask = s.msixMask := rfl
@[simp] theorem setSled_disc (k : Nat) (v : SledSt) : (setSled k v s).disc = s.disc := rfl
@[simp] theorem setSled_ends (k : Nat) (v : SledSt) : (setSled k v s).ends = s.ends := rfl
@[simp] theorem setSled_lanes (k : Nat) (v : SledSt) : (setSled k v s).lanes = s.lanes := rfl
@[simp] theorem setSled_links (k : Nat) (v : SledSt) : (setSled k v s).links = s.links := rfl
@[simp] theorem setSled_recs (k : Nat) (v : SledSt) : (setSled k v s).recs = s.recs := rfl
@[simp] theorem setSled_engs (k : Nat) (v : SledSt) : (setSled k v s).engs = s.engs := rfl
@[simp] theorem setSled_ustore (k : Nat) (v : SledSt) : (setSled k v s).ustore = s.ustore := rfl
@[simp] theorem setSled_nstore (k : Nat) (v : SledSt) : (setSled k v s).nstore = s.nstore := rfl
@[simp] theorem setSled_dmem (k : Nat) (v : SledSt) : (setSled k v s).dmem = s.dmem := rfl
@[simp] theorem setSled_pgs (k : Nat) (v : SledSt) : (setSled k v s).pgs = s.pgs := rfl
@[simp] theorem setSled_loops (k : Nat) (v : SledSt) : (setSled k v s).loops = s.loops := rfl
@[simp] theorem setSled_heads (k : Nat) (v : SledSt) : (setSled k v s).heads = s.heads := rfl
@[simp] theorem setSled_spin (k : Nat) (v : SledSt) : (setSled k v s).spin = s.spin := rfl
@[simp] theorem setSled_sleds (k : Nat) (v : SledSt) : (setSled k v s).sleds = s.sleds.put k v {} := rfl
@[simp] theorem setSled_chans (k : Nat) (v : SledSt) : (setSled k v s).chans = s.chans := rfl
@[simp] theorem setSled_commons (k : Nat) (v : SledSt) : (setSled k v s).commons = s.commons := rfl
@[simp] theorem setSled_frames (k : Nat) (v : SledSt) : (setSled k v s).frames = s.frames := rfl
@[simp] theorem setSled_blanks (k : Nat) (v : SledSt) : (setSled k v s).blanks = s.blanks := rfl
@[simp] theorem setSled_dec (k : Nat) (v : SledSt) : (setSled k v s).dec = s.dec := rfl
@[simp] theorem setSled_encoded (k : Nat) (v : SledSt) : (setSled k v s).encoded = s.encoded := rfl
@[simp] theorem setSled_opcs (k : Nat) (v : SledSt) : (setSled k v s).opcs = s.opcs := rfl
@[simp] theorem setSled_betas (k : Nat) (v : SledSt) : (setSled k v s).betas = s.betas := rfl
@[simp] theorem setSled_mem (k : Nat) (v : SledSt) : (setSled k v s).mem = s.mem := rfl
@[simp] theorem setSled_lanesC (k : Nat) (v : SledSt) : (setSled k v s).lanesC = s.lanesC := rfl
@[simp] theorem setSled_claims (k : Nat) (v : SledSt) : (setSled k v s).claims = s.claims := rfl
@[simp] theorem setSled_cl (k : Nat) (v : SledSt) : (setSled k v s).cl = s.cl := rfl
@[simp] theorem setSled_port (k : Nat) (v : SledSt) : (setSled k v s).port = s.port := rfl
@[simp] theorem setSled_vault (k : Nat) (v : SledSt) : (setSled k v s).vault = s.vault := rfl
@[simp] theorem setSled_otp (k : Nat) (v : SledSt) : (setSled k v s).otp = s.otp := rfl
@[simp] theorem setSled_pwr (k : Nat) (v : SledSt) : (setSled k v s).pwr = s.pwr := rfl
@[simp] theorem setSled_dev (k : Nat) (v : SledSt) : (setSled k v s).dev = s.dev := rfl
@[simp] theorem setSled_obs (k : Nat) (v : SledSt) : (setSled k v s).obs = s.obs := rfl
@[simp] theorem fget_setSled (k : Nat) (v : SledSt) (q : Nat) (g : Fld) : fget q g (setSled k v s) = fget q g s := rfl

@[simp] theorem setCommon_pending (k : Nat) (v : CommonSt) : (setCommon k v s).pending = s.pending := rfl
@[simp] theorem setCommon_free (k : Nat) (v : CommonSt) : (setCommon k v s).free = s.free := rfl
@[simp] theorem setCommon_time (k : Nat) (v : CommonSt) : (setCommon k v s).time = s.time := rfl
@[simp] theorem setCommon_prof (k : Nat) (v : CommonSt) : (setCommon k v s).prof = s.prof := rfl
@[simp] theorem setCommon_regs (k : Nat) (v : CommonSt) : (setCommon k v s).regs = s.regs := rfl
@[simp] theorem setCommon_evq (k : Nat) (v : CommonSt) : (setCommon k v s).evq = s.evq := rfl
@[simp] theorem setCommon_out (k : Nat) (v : CommonSt) : (setCommon k v s).out = s.out := rfl
@[simp] theorem setCommon_msix (k : Nat) (v : CommonSt) : (setCommon k v s).msix = s.msix := rfl
@[simp] theorem setCommon_msixPend (k : Nat) (v : CommonSt) : (setCommon k v s).msixPend = s.msixPend := rfl
@[simp] theorem setCommon_msixMask (k : Nat) (v : CommonSt) : (setCommon k v s).msixMask = s.msixMask := rfl
@[simp] theorem setCommon_disc (k : Nat) (v : CommonSt) : (setCommon k v s).disc = s.disc := rfl
@[simp] theorem setCommon_ends (k : Nat) (v : CommonSt) : (setCommon k v s).ends = s.ends := rfl
@[simp] theorem setCommon_lanes (k : Nat) (v : CommonSt) : (setCommon k v s).lanes = s.lanes := rfl
@[simp] theorem setCommon_links (k : Nat) (v : CommonSt) : (setCommon k v s).links = s.links := rfl
@[simp] theorem setCommon_recs (k : Nat) (v : CommonSt) : (setCommon k v s).recs = s.recs := rfl
@[simp] theorem setCommon_engs (k : Nat) (v : CommonSt) : (setCommon k v s).engs = s.engs := rfl
@[simp] theorem setCommon_ustore (k : Nat) (v : CommonSt) : (setCommon k v s).ustore = s.ustore := rfl
@[simp] theorem setCommon_nstore (k : Nat) (v : CommonSt) : (setCommon k v s).nstore = s.nstore := rfl
@[simp] theorem setCommon_dmem (k : Nat) (v : CommonSt) : (setCommon k v s).dmem = s.dmem := rfl
@[simp] theorem setCommon_pgs (k : Nat) (v : CommonSt) : (setCommon k v s).pgs = s.pgs := rfl
@[simp] theorem setCommon_loops (k : Nat) (v : CommonSt) : (setCommon k v s).loops = s.loops := rfl
@[simp] theorem setCommon_heads (k : Nat) (v : CommonSt) : (setCommon k v s).heads = s.heads := rfl
@[simp] theorem setCommon_spin (k : Nat) (v : CommonSt) : (setCommon k v s).spin = s.spin := rfl
@[simp] theorem setCommon_sleds (k : Nat) (v : CommonSt) : (setCommon k v s).sleds = s.sleds := rfl
@[simp] theorem setCommon_chans (k : Nat) (v : CommonSt) : (setCommon k v s).chans = s.chans := rfl
@[simp] theorem setCommon_commons (k : Nat) (v : CommonSt) : (setCommon k v s).commons = s.commons.put k v {} := rfl
@[simp] theorem setCommon_frames (k : Nat) (v : CommonSt) : (setCommon k v s).frames = s.frames := rfl
@[simp] theorem setCommon_blanks (k : Nat) (v : CommonSt) : (setCommon k v s).blanks = s.blanks := rfl
@[simp] theorem setCommon_dec (k : Nat) (v : CommonSt) : (setCommon k v s).dec = s.dec := rfl
@[simp] theorem setCommon_encoded (k : Nat) (v : CommonSt) : (setCommon k v s).encoded = s.encoded := rfl
@[simp] theorem setCommon_opcs (k : Nat) (v : CommonSt) : (setCommon k v s).opcs = s.opcs := rfl
@[simp] theorem setCommon_betas (k : Nat) (v : CommonSt) : (setCommon k v s).betas = s.betas := rfl
@[simp] theorem setCommon_mem (k : Nat) (v : CommonSt) : (setCommon k v s).mem = s.mem := rfl
@[simp] theorem setCommon_lanesC (k : Nat) (v : CommonSt) : (setCommon k v s).lanesC = s.lanesC := rfl
@[simp] theorem setCommon_claims (k : Nat) (v : CommonSt) : (setCommon k v s).claims = s.claims := rfl
@[simp] theorem setCommon_cl (k : Nat) (v : CommonSt) : (setCommon k v s).cl = s.cl := rfl
@[simp] theorem setCommon_port (k : Nat) (v : CommonSt) : (setCommon k v s).port = s.port := rfl
@[simp] theorem setCommon_vault (k : Nat) (v : CommonSt) : (setCommon k v s).vault = s.vault := rfl
@[simp] theorem setCommon_otp (k : Nat) (v : CommonSt) : (setCommon k v s).otp = s.otp := rfl
@[simp] theorem setCommon_pwr (k : Nat) (v : CommonSt) : (setCommon k v s).pwr = s.pwr := rfl
@[simp] theorem setCommon_dev (k : Nat) (v : CommonSt) : (setCommon k v s).dev = s.dev := rfl
@[simp] theorem setCommon_obs (k : Nat) (v : CommonSt) : (setCommon k v s).obs = s.obs := rfl
@[simp] theorem fget_setCommon (k : Nat) (v : CommonSt) (q : Nat) (g : Fld) : fget q g (setCommon k v s) = fget q g s := rfl

@[simp] theorem setClaim_pending (k : Nat) (v : Claim) : (setClaim k v s).pending = s.pending := rfl
@[simp] theorem setClaim_free (k : Nat) (v : Claim) : (setClaim k v s).free = s.free := rfl
@[simp] theorem setClaim_time (k : Nat) (v : Claim) : (setClaim k v s).time = s.time := rfl
@[simp] theorem setClaim_prof (k : Nat) (v : Claim) : (setClaim k v s).prof = s.prof := rfl
@[simp] theorem setClaim_regs (k : Nat) (v : Claim) : (setClaim k v s).regs = s.regs := rfl
@[simp] theorem setClaim_evq (k : Nat) (v : Claim) : (setClaim k v s).evq = s.evq := rfl
@[simp] theorem setClaim_out (k : Nat) (v : Claim) : (setClaim k v s).out = s.out := rfl
@[simp] theorem setClaim_msix (k : Nat) (v : Claim) : (setClaim k v s).msix = s.msix := rfl
@[simp] theorem setClaim_msixPend (k : Nat) (v : Claim) : (setClaim k v s).msixPend = s.msixPend := rfl
@[simp] theorem setClaim_msixMask (k : Nat) (v : Claim) : (setClaim k v s).msixMask = s.msixMask := rfl
@[simp] theorem setClaim_disc (k : Nat) (v : Claim) : (setClaim k v s).disc = s.disc := rfl
@[simp] theorem setClaim_ends (k : Nat) (v : Claim) : (setClaim k v s).ends = s.ends := rfl
@[simp] theorem setClaim_lanes (k : Nat) (v : Claim) : (setClaim k v s).lanes = s.lanes := rfl
@[simp] theorem setClaim_links (k : Nat) (v : Claim) : (setClaim k v s).links = s.links := rfl
@[simp] theorem setClaim_recs (k : Nat) (v : Claim) : (setClaim k v s).recs = s.recs := rfl
@[simp] theorem setClaim_engs (k : Nat) (v : Claim) : (setClaim k v s).engs = s.engs := rfl
@[simp] theorem setClaim_ustore (k : Nat) (v : Claim) : (setClaim k v s).ustore = s.ustore := rfl
@[simp] theorem setClaim_nstore (k : Nat) (v : Claim) : (setClaim k v s).nstore = s.nstore := rfl
@[simp] theorem setClaim_dmem (k : Nat) (v : Claim) : (setClaim k v s).dmem = s.dmem := rfl
@[simp] theorem setClaim_pgs (k : Nat) (v : Claim) : (setClaim k v s).pgs = s.pgs := rfl
@[simp] theorem setClaim_loops (k : Nat) (v : Claim) : (setClaim k v s).loops = s.loops := rfl
@[simp] theorem setClaim_heads (k : Nat) (v : Claim) : (setClaim k v s).heads = s.heads := rfl
@[simp] theorem setClaim_spin (k : Nat) (v : Claim) : (setClaim k v s).spin = s.spin := rfl
@[simp] theorem setClaim_sleds (k : Nat) (v : Claim) : (setClaim k v s).sleds = s.sleds := rfl
@[simp] theorem setClaim_chans (k : Nat) (v : Claim) : (setClaim k v s).chans = s.chans := rfl
@[simp] theorem setClaim_commons (k : Nat) (v : Claim) : (setClaim k v s).commons = s.commons := rfl
@[simp] theorem setClaim_frames (k : Nat) (v : Claim) : (setClaim k v s).frames = s.frames := rfl
@[simp] theorem setClaim_blanks (k : Nat) (v : Claim) : (setClaim k v s).blanks = s.blanks := rfl
@[simp] theorem setClaim_dec (k : Nat) (v : Claim) : (setClaim k v s).dec = s.dec := rfl
@[simp] theorem setClaim_encoded (k : Nat) (v : Claim) : (setClaim k v s).encoded = s.encoded := rfl
@[simp] theorem setClaim_opcs (k : Nat) (v : Claim) : (setClaim k v s).opcs = s.opcs := rfl
@[simp] theorem setClaim_betas (k : Nat) (v : Claim) : (setClaim k v s).betas = s.betas := rfl
@[simp] theorem setClaim_mem (k : Nat) (v : Claim) : (setClaim k v s).mem = s.mem := rfl
@[simp] theorem setClaim_lanesC (k : Nat) (v : Claim) : (setClaim k v s).lanesC = s.lanesC := rfl
@[simp] theorem setClaim_claims (k : Nat) (v : Claim) : (setClaim k v s).claims = s.claims.put k v {} := rfl
@[simp] theorem setClaim_cl (k : Nat) (v : Claim) : (setClaim k v s).cl = s.cl := rfl
@[simp] theorem setClaim_port (k : Nat) (v : Claim) : (setClaim k v s).port = s.port := rfl
@[simp] theorem setClaim_vault (k : Nat) (v : Claim) : (setClaim k v s).vault = s.vault := rfl
@[simp] theorem setClaim_otp (k : Nat) (v : Claim) : (setClaim k v s).otp = s.otp := rfl
@[simp] theorem setClaim_pwr (k : Nat) (v : Claim) : (setClaim k v s).pwr = s.pwr := rfl
@[simp] theorem setClaim_dev (k : Nat) (v : Claim) : (setClaim k v s).dev = s.dev := rfl
@[simp] theorem setClaim_obs (k : Nat) (v : Claim) : (setClaim k v s).obs = s.obs := rfl
@[simp] theorem fget_setClaim (k : Nat) (v : Claim) (q : Nat) (g : Fld) : fget q g (setClaim k v s) = fget q g s := rfl

@[simp] theorem setCjob_pending (k : Nat) (v : LaneJob) : (setCjob k v s).pending = s.pending := rfl
@[simp] theorem setCjob_free (k : Nat) (v : LaneJob) : (setCjob k v s).free = s.free := rfl
@[simp] theorem setCjob_time (k : Nat) (v : LaneJob) : (setCjob k v s).time = s.time := rfl
@[simp] theorem setCjob_prof (k : Nat) (v : LaneJob) : (setCjob k v s).prof = s.prof := rfl
@[simp] theorem setCjob_regs (k : Nat) (v : LaneJob) : (setCjob k v s).regs = s.regs := rfl
@[simp] theorem setCjob_evq (k : Nat) (v : LaneJob) : (setCjob k v s).evq = s.evq := rfl
@[simp] theorem setCjob_out (k : Nat) (v : LaneJob) : (setCjob k v s).out = s.out := rfl
@[simp] theorem setCjob_msix (k : Nat) (v : LaneJob) : (setCjob k v s).msix = s.msix := rfl
@[simp] theorem setCjob_msixPend (k : Nat) (v : LaneJob) : (setCjob k v s).msixPend = s.msixPend := rfl
@[simp] theorem setCjob_msixMask (k : Nat) (v : LaneJob) : (setCjob k v s).msixMask = s.msixMask := rfl
@[simp] theorem setCjob_disc (k : Nat) (v : LaneJob) : (setCjob k v s).disc = s.disc := rfl
@[simp] theorem setCjob_ends (k : Nat) (v : LaneJob) : (setCjob k v s).ends = s.ends := rfl
@[simp] theorem setCjob_lanes (k : Nat) (v : LaneJob) : (setCjob k v s).lanes = s.lanes := rfl
@[simp] theorem setCjob_links (k : Nat) (v : LaneJob) : (setCjob k v s).links = s.links := rfl
@[simp] theorem setCjob_recs (k : Nat) (v : LaneJob) : (setCjob k v s).recs = s.recs := rfl
@[simp] theorem setCjob_engs (k : Nat) (v : LaneJob) : (setCjob k v s).engs = s.engs := rfl
@[simp] theorem setCjob_ustore (k : Nat) (v : LaneJob) : (setCjob k v s).ustore = s.ustore := rfl
@[simp] theorem setCjob_nstore (k : Nat) (v : LaneJob) : (setCjob k v s).nstore = s.nstore := rfl
@[simp] theorem setCjob_dmem (k : Nat) (v : LaneJob) : (setCjob k v s).dmem = s.dmem := rfl
@[simp] theorem setCjob_pgs (k : Nat) (v : LaneJob) : (setCjob k v s).pgs = s.pgs := rfl
@[simp] theorem setCjob_loops (k : Nat) (v : LaneJob) : (setCjob k v s).loops = s.loops := rfl
@[simp] theorem setCjob_heads (k : Nat) (v : LaneJob) : (setCjob k v s).heads = s.heads := rfl
@[simp] theorem setCjob_spin (k : Nat) (v : LaneJob) : (setCjob k v s).spin = s.spin := rfl
@[simp] theorem setCjob_sleds (k : Nat) (v : LaneJob) : (setCjob k v s).sleds = s.sleds := rfl
@[simp] theorem setCjob_chans (k : Nat) (v : LaneJob) : (setCjob k v s).chans = s.chans := rfl
@[simp] theorem setCjob_commons (k : Nat) (v : LaneJob) : (setCjob k v s).commons = s.commons := rfl
@[simp] theorem setCjob_frames (k : Nat) (v : LaneJob) : (setCjob k v s).frames = s.frames := rfl
@[simp] theorem setCjob_blanks (k : Nat) (v : LaneJob) : (setCjob k v s).blanks = s.blanks := rfl
@[simp] theorem setCjob_dec (k : Nat) (v : LaneJob) : (setCjob k v s).dec = s.dec := rfl
@[simp] theorem setCjob_encoded (k : Nat) (v : LaneJob) : (setCjob k v s).encoded = s.encoded := rfl
@[simp] theorem setCjob_opcs (k : Nat) (v : LaneJob) : (setCjob k v s).opcs = s.opcs := rfl
@[simp] theorem setCjob_betas (k : Nat) (v : LaneJob) : (setCjob k v s).betas = s.betas := rfl
@[simp] theorem setCjob_mem (k : Nat) (v : LaneJob) : (setCjob k v s).mem = s.mem := rfl
@[simp] theorem setCjob_lanesC (k : Nat) (v : LaneJob) : (setCjob k v s).lanesC = s.lanesC.put k v {} := rfl
@[simp] theorem setCjob_claims (k : Nat) (v : LaneJob) : (setCjob k v s).claims = s.claims := rfl
@[simp] theorem setCjob_cl (k : Nat) (v : LaneJob) : (setCjob k v s).cl = s.cl := rfl
@[simp] theorem setCjob_port (k : Nat) (v : LaneJob) : (setCjob k v s).port = s.port := rfl
@[simp] theorem setCjob_vault (k : Nat) (v : LaneJob) : (setCjob k v s).vault = s.vault := rfl
@[simp] theorem setCjob_otp (k : Nat) (v : LaneJob) : (setCjob k v s).otp = s.otp := rfl
@[simp] theorem setCjob_pwr (k : Nat) (v : LaneJob) : (setCjob k v s).pwr = s.pwr := rfl
@[simp] theorem setCjob_dev (k : Nat) (v : LaneJob) : (setCjob k v s).dev = s.dev := rfl
@[simp] theorem setCjob_obs (k : Nat) (v : LaneJob) : (setCjob k v s).obs = s.obs := rfl
@[simp] theorem fget_setCjob (k : Nat) (v : LaneJob) (q : Nat) (g : Fld) : fget q g (setCjob k v s) = fget q g s := rfl

@[simp] theorem setChan_pending (h b : Nat) (v : ChanSt) : (setChan h b v s).pending = s.pending := rfl
@[simp] theorem setChan_free (h b : Nat) (v : ChanSt) : (setChan h b v s).free = s.free := rfl
@[simp] theorem setChan_time (h b : Nat) (v : ChanSt) : (setChan h b v s).time = s.time := rfl
@[simp] theorem setChan_prof (h b : Nat) (v : ChanSt) : (setChan h b v s).prof = s.prof := rfl
@[simp] theorem setChan_regs (h b : Nat) (v : ChanSt) : (setChan h b v s).regs = s.regs := rfl
@[simp] theorem setChan_evq (h b : Nat) (v : ChanSt) : (setChan h b v s).evq = s.evq := rfl
@[simp] theorem setChan_out (h b : Nat) (v : ChanSt) : (setChan h b v s).out = s.out := rfl
@[simp] theorem setChan_msix (h b : Nat) (v : ChanSt) : (setChan h b v s).msix = s.msix := rfl
@[simp] theorem setChan_msixPend (h b : Nat) (v : ChanSt) : (setChan h b v s).msixPend = s.msixPend := rfl
@[simp] theorem setChan_msixMask (h b : Nat) (v : ChanSt) : (setChan h b v s).msixMask = s.msixMask := rfl
@[simp] theorem setChan_disc (h b : Nat) (v : ChanSt) : (setChan h b v s).disc = s.disc := rfl
@[simp] theorem setChan_ends (h b : Nat) (v : ChanSt) : (setChan h b v s).ends = s.ends := rfl
@[simp] theorem setChan_lanes (h b : Nat) (v : ChanSt) : (setChan h b v s).lanes = s.lanes := rfl
@[simp] theorem setChan_links (h b : Nat) (v : ChanSt) : (setChan h b v s).links = s.links := rfl
@[simp] theorem setChan_recs (h b : Nat) (v : ChanSt) : (setChan h b v s).recs = s.recs := rfl
@[simp] theorem setChan_engs (h b : Nat) (v : ChanSt) : (setChan h b v s).engs = s.engs := rfl
@[simp] theorem setChan_ustore (h b : Nat) (v : ChanSt) : (setChan h b v s).ustore = s.ustore := rfl
@[simp] theorem setChan_nstore (h b : Nat) (v : ChanSt) : (setChan h b v s).nstore = s.nstore := rfl
@[simp] theorem setChan_dmem (h b : Nat) (v : ChanSt) : (setChan h b v s).dmem = s.dmem := rfl
@[simp] theorem setChan_pgs (h b : Nat) (v : ChanSt) : (setChan h b v s).pgs = s.pgs := rfl
@[simp] theorem setChan_loops (h b : Nat) (v : ChanSt) : (setChan h b v s).loops = s.loops := rfl
@[simp] theorem setChan_heads (h b : Nat) (v : ChanSt) : (setChan h b v s).heads = s.heads := rfl
@[simp] theorem setChan_spin (h b : Nat) (v : ChanSt) : (setChan h b v s).spin = s.spin := rfl
@[simp] theorem setChan_sleds (h b : Nat) (v : ChanSt) : (setChan h b v s).sleds = s.sleds := rfl
@[simp] theorem setChan_chans (h b : Nat) (v : ChanSt) : (setChan h b v s).chans = s.chans.put (16 * h + b) v {} := rfl
@[simp] theorem setChan_commons (h b : Nat) (v : ChanSt) : (setChan h b v s).commons = s.commons := rfl
@[simp] theorem setChan_frames (h b : Nat) (v : ChanSt) : (setChan h b v s).frames = s.frames := rfl
@[simp] theorem setChan_blanks (h b : Nat) (v : ChanSt) : (setChan h b v s).blanks = s.blanks := rfl
@[simp] theorem setChan_dec (h b : Nat) (v : ChanSt) : (setChan h b v s).dec = s.dec := rfl
@[simp] theorem setChan_encoded (h b : Nat) (v : ChanSt) : (setChan h b v s).encoded = s.encoded := rfl
@[simp] theorem setChan_opcs (h b : Nat) (v : ChanSt) : (setChan h b v s).opcs = s.opcs := rfl
@[simp] theorem setChan_betas (h b : Nat) (v : ChanSt) : (setChan h b v s).betas = s.betas := rfl
@[simp] theorem setChan_mem (h b : Nat) (v : ChanSt) : (setChan h b v s).mem = s.mem := rfl
@[simp] theorem setChan_lanesC (h b : Nat) (v : ChanSt) : (setChan h b v s).lanesC = s.lanesC := rfl
@[simp] theorem setChan_claims (h b : Nat) (v : ChanSt) : (setChan h b v s).claims = s.claims := rfl
@[simp] theorem setChan_cl (h b : Nat) (v : ChanSt) : (setChan h b v s).cl = s.cl := rfl
@[simp] theorem setChan_port (h b : Nat) (v : ChanSt) : (setChan h b v s).port = s.port := rfl
@[simp] theorem setChan_vault (h b : Nat) (v : ChanSt) : (setChan h b v s).vault = s.vault := rfl
@[simp] theorem setChan_otp (h b : Nat) (v : ChanSt) : (setChan h b v s).otp = s.otp := rfl
@[simp] theorem setChan_pwr (h b : Nat) (v : ChanSt) : (setChan h b v s).pwr = s.pwr := rfl
@[simp] theorem setChan_dev (h b : Nat) (v : ChanSt) : (setChan h b v s).dev = s.dev := rfl
@[simp] theorem setChan_obs (h b : Nat) (v : ChanSt) : (setChan h b v s).obs = s.obs := rfl
@[simp] theorem fget_setChan (h b : Nat) (v : ChanSt) (q : Nat) (g : Fld) : fget q g (setChan h b v s) = fget q g s := rfl

@[simp] theorem dmPut_pending (e a v : Nat) : (dmPut e a v s).pending = s.pending := rfl
@[simp] theorem dmPut_free (e a v : Nat) : (dmPut e a v s).free = s.free := rfl
@[simp] theorem dmPut_time (e a v : Nat) : (dmPut e a v s).time = s.time := rfl
@[simp] theorem dmPut_prof (e a v : Nat) : (dmPut e a v s).prof = s.prof := rfl
@[simp] theorem dmPut_regs (e a v : Nat) : (dmPut e a v s).regs = s.regs := rfl
@[simp] theorem dmPut_evq (e a v : Nat) : (dmPut e a v s).evq = s.evq := rfl
@[simp] theorem dmPut_out (e a v : Nat) : (dmPut e a v s).out = s.out := rfl
@[simp] theorem dmPut_msix (e a v : Nat) : (dmPut e a v s).msix = s.msix := rfl
@[simp] theorem dmPut_msixPend (e a v : Nat) : (dmPut e a v s).msixPend = s.msixPend := rfl
@[simp] theorem dmPut_msixMask (e a v : Nat) : (dmPut e a v s).msixMask = s.msixMask := rfl
@[simp] theorem dmPut_disc (e a v : Nat) : (dmPut e a v s).disc = s.disc := rfl
@[simp] theorem dmPut_ends (e a v : Nat) : (dmPut e a v s).ends = s.ends := rfl
@[simp] theorem dmPut_lanes (e a v : Nat) : (dmPut e a v s).lanes = s.lanes := rfl
@[simp] theorem dmPut_links (e a v : Nat) : (dmPut e a v s).links = s.links := rfl
@[simp] theorem dmPut_recs (e a v : Nat) : (dmPut e a v s).recs = s.recs := rfl
@[simp] theorem dmPut_engs (e a v : Nat) : (dmPut e a v s).engs = s.engs := rfl
@[simp] theorem dmPut_ustore (e a v : Nat) : (dmPut e a v s).ustore = s.ustore := rfl
@[simp] theorem dmPut_nstore (e a v : Nat) : (dmPut e a v s).nstore = s.nstore := rfl
@[simp] theorem dmPut_dmem (e a v : Nat) : (dmPut e a v s).dmem = s.dmem.put (4096 * e + a % 4096) (v % 2 ^ 32) 0 := rfl
@[simp] theorem dmPut_pgs (e a v : Nat) : (dmPut e a v s).pgs = s.pgs := rfl
@[simp] theorem dmPut_loops (e a v : Nat) : (dmPut e a v s).loops = s.loops := rfl
@[simp] theorem dmPut_heads (e a v : Nat) : (dmPut e a v s).heads = s.heads := rfl
@[simp] theorem dmPut_spin (e a v : Nat) : (dmPut e a v s).spin = s.spin := rfl
@[simp] theorem dmPut_sleds (e a v : Nat) : (dmPut e a v s).sleds = s.sleds := rfl
@[simp] theorem dmPut_chans (e a v : Nat) : (dmPut e a v s).chans = s.chans := rfl
@[simp] theorem dmPut_commons (e a v : Nat) : (dmPut e a v s).commons = s.commons := rfl
@[simp] theorem dmPut_frames (e a v : Nat) : (dmPut e a v s).frames = s.frames := rfl
@[simp] theorem dmPut_blanks (e a v : Nat) : (dmPut e a v s).blanks = s.blanks := rfl
@[simp] theorem dmPut_dec (e a v : Nat) : (dmPut e a v s).dec = s.dec := rfl
@[simp] theorem dmPut_encoded (e a v : Nat) : (dmPut e a v s).encoded = s.encoded := rfl
@[simp] theorem dmPut_opcs (e a v : Nat) : (dmPut e a v s).opcs = s.opcs := rfl
@[simp] theorem dmPut_betas (e a v : Nat) : (dmPut e a v s).betas = s.betas := rfl
@[simp] theorem dmPut_mem (e a v : Nat) : (dmPut e a v s).mem = s.mem := rfl
@[simp] theorem dmPut_lanesC (e a v : Nat) : (dmPut e a v s).lanesC = s.lanesC := rfl
@[simp] theorem dmPut_claims (e a v : Nat) : (dmPut e a v s).claims = s.claims := rfl
@[simp] theorem dmPut_cl (e a v : Nat) : (dmPut e a v s).cl = s.cl := rfl
@[simp] theorem dmPut_port (e a v : Nat) : (dmPut e a v s).port = s.port := rfl
@[simp] theorem dmPut_vault (e a v : Nat) : (dmPut e a v s).vault = s.vault := rfl
@[simp] theorem dmPut_otp (e a v : Nat) : (dmPut e a v s).otp = s.otp := rfl
@[simp] theorem dmPut_pwr (e a v : Nat) : (dmPut e a v s).pwr = s.pwr := rfl
@[simp] theorem dmPut_dev (e a v : Nat) : (dmPut e a v s).dev = s.dev := rfl
@[simp] theorem dmPut_obs (e a v : Nat) : (dmPut e a v s).obs = s.obs := rfl
@[simp] theorem fget_dmPut (e a v : Nat) (q : Nat) (g : Fld) : fget q g (dmPut e a v s) = fget q g s := rfl

/-! Read after write of the records held by number. -/

@[simp] theorem setEng_same (k : Nat) (v : EngSt) : (setEng k v s).eng k = v := Store.get_put_same _ _ _ _
theorem setEng_other {k j : Nat} (v : EngSt) (h : j ≠ k) : (setEng k v s).eng j = s.eng j := Store.get_put_other _ _ _ _ _ _ h

@[simp] theorem setLane_same (k : Nat) (v : LaneSt) : (setLane k v s).lane k = v := Store.get_put_same _ _ _ _
theorem setLane_other {k j : Nat} (v : LaneSt) (h : j ≠ k) : (setLane k v s).lane j = s.lane j := Store.get_put_other _ _ _ _ _ _ h

@[simp] theorem setLink_same (k : Nat) (v : LinkSt) : (setLink k v s).link k = v := Store.get_put_same _ _ _ _
theorem setLink_other {k j : Nat} (v : LinkSt) (h : j ≠ k) : (setLink k v s).link j = s.link j := Store.get_put_other _ _ _ _ _ _ h

@[simp] theorem setRec_same (k : Nat) (v : RecSt) : (setRec k v s).rec' k = v := Store.get_put_same _ _ _ _
theorem setRec_other {k j : Nat} (v : RecSt) (h : j ≠ k) : (setRec k v s).rec' j = s.rec' j := Store.get_put_other _ _ _ _ _ _ h

@[simp] theorem setHead_same (k : Nat) (v : HeadSt) : (setHead k v s).head k = v := Store.get_put_same _ _ _ _
theorem setHead_other {k j : Nat} (v : HeadSt) (h : j ≠ k) : (setHead k v s).head j = s.head j := Store.get_put_other _ _ _ _ _ _ h

@[simp] theorem setPg_same (k : Nat) (v : PgSt) : (setPg k v s).pg k = v := Store.get_put_same _ _ _ _
theorem setPg_other {k j : Nat} (v : PgSt) (h : j ≠ k) : (setPg k v s).pg j = s.pg j := Store.get_put_other _ _ _ _ _ _ h

@[simp] theorem setLoop_same (k : Nat) (v : LoopSt) : (setLoop k v s).loop k = v := Store.get_put_same _ _ _ _
theorem setLoop_other {k j : Nat} (v : LoopSt) (h : j ≠ k) : (setLoop k v s).loop j = s.loop j := Store.get_put_other _ _ _ _ _ _ h

@[simp] theorem setSled_same (k : Nat) (v : SledSt) : (setSled k v s).sled k = v := Store.get_put_same _ _ _ _
theorem setSled_other {k j : Nat} (v : SledSt) (h : j ≠ k) : (setSled k v s).sled j = s.sled j := Store.get_put_other _ _ _ _ _ _ h

@[simp] theorem setCommon_same (k : Nat) (v : CommonSt) : (setCommon k v s).common k = v := Store.get_put_same _ _ _ _
theorem setCommon_other {k j : Nat} (v : CommonSt) (h : j ≠ k) : (setCommon k v s).common j = s.common j := Store.get_put_other _ _ _ _ _ _ h

@[simp] theorem setClaim_same (k : Nat) (v : Claim) : (setClaim k v s).claim k = v := Store.get_put_same _ _ _ _
theorem setClaim_other {k j : Nat} (v : Claim) (h : j ≠ k) : (setClaim k v s).claim j = s.claim j := Store.get_put_other _ _ _ _ _ _ h

@[simp] theorem setCjob_same (k : Nat) (v : LaneJob) : (setCjob k v s).cjob k = v := Store.get_put_same _ _ _ _
theorem setCjob_other {k j : Nat} (v : LaneJob) (h : j ≠ k) : (setCjob k v s).cjob j = s.cjob j := Store.get_put_other _ _ _ _ _ _ h

end Sys2Proof.Machine
end

