-- ==== Sys2Proof/Laws/Fields.lean ====
section
/-!
SUPPORT. The laws of register fields: read after write, and what the operations on a page's header, counters and events do.
-/
namespace Sys2Proof.Machine

variable (s : State)

/-- A field reads as written, truncated to its width (R11). -/
@[simp] theorem fget_fset_same (p : Nat) (f : Fld) (v : Nat) : fget p f (fset p f v s) = trunc f.width v := by
  unfold fget fset
  dsimp only
  split
  · rename_i h
    rw [Store.find_erase_same, h]
    rfl
  · rw [Store.find_insert_same]
    rfl

/-- A write leaves every field held under another key alone. -/
theorem fget_fset_other {p q : Nat} {f g : Fld} (v : Nat) (h : g.key q ≠ f.key p) : fget q g (fset p f v s) = fget q g s := by
  unfold fget fset
  dsimp only
  split
  · rw [Store.find_erase_other _ _ _ h]
  · rw [Store.find_insert_other _ _ _ _ h]

/-- A field returned to its reset value reads as it. -/
@[simp] theorem fget_fclr_same (p : Nat) (f : Fld) : fget p f (fclr p f s) = f.reset p s.prof := by
  unfold fget fclr
  dsimp only
  rw [Store.find_erase_same]
  rfl

theorem fget_fclr_other {p q : Nat} {f g : Fld} (h : g.key q ≠ f.key p) : fget q g (fclr p f s) = fget q g s := by
  unfold fget fclr
  dsimp only
  rw [Store.find_erase_other _ _ _ h]

/-- Fields of different pages have different keys. -/
theorem key_page_ne {p q : Nat} {f g : Fld} (hf : f.off < 4096 ∧ f.lo < 32) (hg : g.off < 4096 ∧ g.lo < 32) (h : p ≠ q) :
    f.key p ≠ g.key q := by
  unfold Fld.key
  omega

/-- Registers of one page at different offsets have different keys. -/
theorem key_off_ne {p : Nat} {f g : Fld} (hf : f.lo < 32) (hg : g.lo < 32) (h : f.off ≠ g.off) : f.key p ≠ g.key p := by
  unfold Fld.key
  omega

@[simp] theorem trunc_idem (w v : Nat) : trunc w (trunc w v) = trunc w v := Nat.mod_mod _ _

theorem fget_congr {s t : State} (h : t.regs = s.regs) (hp : t.prof = s.prof) (p : Nat) (f : Fld) : fget p f t = fget p f s := by
  unfold fget
  rw [h, hp]

/-- A message of a vector changes no register. -/
@[simp] theorem fget_sendVector (v p : Nat) (f : Fld) : fget p f (sendVector v s) = fget p f s := by
  unfold sendVector
  split
  · dsimp only
    split <;> rfl
  · rfl

@[simp] theorem fget_intEdge (p : Nat) (u : State) (q : Nat) (f : Fld) : fget q f (intEdge p u s) = fget q f s := by
  unfold intEdge routeMsix
  split
  · split
    · exact fget_sendVector ..
    · rfl
  · rfl

/-- An interrupt bit raised (R606) changes INT_STATUS of its page and no other register. -/
theorem fget_raise (p b q : Nat) (f : Fld) :
    fget q f (raise p b s) = fget q f (fset p hdrIntStatus (setBit (fget p hdrIntStatus s) b) s) := fget_intEdge ..

/-- An event leaves no register changed. -/
theorem fget_emit' (c src a b d p : Nat) (f : Fld) : fget p f (emit c src a b d s) = fget p f s := rfl

theorem fget_fsetB_same (p : Nat) (f : Fld) (b : Bool) (h : 0 < f.width) : fget p f (fsetB p f b s) = b2n b := by
  unfold fsetB
  rw [fget_fset_same]
  have h2 : 2 ≤ 2 ^ f.width := by
    calc 2 = 2 ^ 1 := rfl
      _ ≤ 2 ^ f.width := Nat.pow_le_pow_right (by omega) h
  cases b
  · exact Nat.zero_mod _
  · exact Nat.mod_eq_of_lt h2

/-- A counter that does not reach its width goes up by the occurrences counted. -/
theorem fget_cntN_below (p : Nat) (f : Fld) (k n : Nat) (h : fget p f s + n < 2 ^ f.width) :
    fget p f (cntN p f k n s) = fget p f s + n := by
  unfold cntN
  dsimp only
  rw [if_pos h, fget_fset_same]
  exact Nat.mod_eq_of_lt h

end Sys2Proof.Machine
end

