-- ==== Sys2Proof/Laws/Kept.lean ====
section
/-!
SUPPORT. What every operation of the block changes and keeps: `Kept m s t` relates the state before to the state after,
where `m` is any view of the state that does not look at what the operation changes. The lemmas of the files KeptA to KeptH
say it of each operation once; each one's hypothesis `hm` names the components of the state the operation can change.
-/
namespace Sys2Proof.Machine

/-- One-time memory only grows (R492): a programmed slot stays, and no counter goes back. -/
structure OtpGrows (a b : OtpSt) : Prop where
  owners : a.owners <+: b.owners
  rollback : a.rollback ≤ b.rollback
  floor : a.floor ≤ b.floor

theorem OtpGrows.refl (a : OtpSt) : OtpGrows a a := ⟨List.prefix_refl _, le_refl _, le_refl _⟩

theorem OtpGrows.trans {a b c : OtpSt} (h : OtpGrows a b) (k : OtpGrows b c) : OtpGrows a c :=
  ⟨h.owners.trans k.owners, h.rollback.trans k.rollback, h.floor.trans k.floor⟩

/-- The view `m` of the state stays, the queue stays, what was sent stays sent, the counter of free values and the one-time memory only grow, and the
registers keep their canonical order. -/
structure Kept {α : Type} (m : State → α) (s t : State) : Prop where
  view : m t = m s
  pending : t.pending = s.pending
  out : s.out <+: t.out
  free : s.free ≤ t.free
  otp : OtpGrows s.otp t.otp
  regs : s.regs.sorted = true → t.regs.sorted = true

variable {α : Type} {m : State → α}

theorem Kept.refl (s : State) : Kept m s s := ⟨rfl, rfl, List.prefix_refl _, le_refl _, .refl _, id⟩

theorem Kept.trans {s t u : State} (h : Kept m s t) (k : Kept m t u) : Kept m s u :=
  ⟨k.view.trans h.view, k.pending.trans h.pending, h.out.trans k.out, h.free.trans k.free, h.otp.trans k.otp, k.regs ∘ h.regs⟩

/-- A view that does not look at what `less` clears does not look at what `less'` clears, where `less` clears as much. -/
theorem sub {less less' : State → State} (hm : ∀ u, m u = m (less u)) (h : ∀ u, less u = less (less' u) := by exact fun _ => rfl) :
    ∀ u, m u = m (less' u) := by
  intro u
  rw [hm u, h u, ← hm (less' u)]

theorem view_eq {less : State → State} (hm : ∀ u, m u = m (less u)) {s t : State} (e : less t = less s := by exact rfl) :
    m t = m s := (hm t).trans ((congrArg m e).trans (hm s).symm)

/-- An update of anything else. -/
theorem Kept.with {less : State → State} (hm : ∀ u, m u = m (less u)) {s0 b : State} {time prof evq msix msixPend msixMask disc ends lanes links recs engs ustore nstore dmem pgs loops heads spin sleds chans commons frames blanks dec encoded opcs betas mem lanesC claims cl port vault pwr dev obs} (h : Kept m s0 b)
    (e : less ⟨b.pending, b.free, time, prof, b.regs, evq, b.out, msix, msixPend, msixMask, disc, ends, lanes, links, recs, engs, ustore, nstore, dmem, pgs, loops, heads, spin, sleds, chans, commons, frames, blanks, dec, encoded, opcs, betas, mem, lanesC, claims, cl, port, vault, b.otp, pwr, dev, obs⟩ = less b := by exact rfl) :
    Kept m s0 ⟨b.pending, b.free, time, prof, b.regs, evq, b.out, msix, msixPend, msixMask, disc, ends, lanes, links, recs, engs, ustore, nstore, dmem, pgs, loops, heads, spin, sleds, chans, commons, frames, blanks, dec, encoded, opcs, betas, mem, lanesC, claims, cl, port, vault, b.otp, pwr, dev, obs⟩ :=
  h.trans ⟨(hm _).trans ((congrArg m e).trans (hm _).symm), rfl, List.prefix_refl _, le_refl _, .refl _, id⟩

/-- An update that also takes free values. -/
theorem Kept.freed {less : State → State} (hm : ∀ u, m u = m (less u)) {s0 b : State} {n : Nat} {time prof evq msix msixPend msixMask disc ends lanes links recs engs ustore nstore dmem pgs loops heads spin sleds chans commons frames blanks dec encoded opcs betas mem lanesC claims cl port vault pwr dev obs} (h : Kept m s0 b)
    (e : less ⟨b.pending, b.free + n, time, prof, b.regs, evq, b.out, msix, msixPend, msixMask, disc, ends, lanes, links, recs, engs, ustore, nstore, dmem, pgs, loops, heads, spin, sleds, chans, commons, frames, blanks, dec, encoded, opcs, betas, mem, lanesC, claims, cl, port, vault, b.otp, pwr, dev, obs⟩ = less b := by exact rfl) :
    Kept m s0 ⟨b.pending, b.free + n, time, prof, b.regs, evq, b.out, msix, msixPend, msixMask, disc, ends, lanes, links, recs, engs, ustore, nstore, dmem, pgs, loops, heads, spin, sleds, chans, commons, frames, blanks, dec, encoded, opcs, betas, mem, lanesC, claims, cl, port, vault, b.otp, pwr, dev, obs⟩ :=
  h.trans ⟨(hm _).trans ((congrArg m e).trans (hm _).symm), rfl, List.prefix_refl _, Nat.le_add_right _ _, .refl _, id⟩

/-- What a meaning answers keeps, where it answers a next state. -/
def KeptR {α : Type} (m : State → α) (s0 : State) (r : Res) : Prop := ∀ t, r = .next t → Kept m s0 t

/-- What an operation that may fail answers keeps. -/
def KeptO {α : Type} (m : State → α) (s0 : State) (o : Option State) : Prop := ∀ t, o = some t → Kept m s0 t

theorem KeptR.next {s0 t : State} (h : Kept m s0 t) : KeptR m s0 (.next t) := by
  intro u e
  cases e
  exact h

theorem KeptO.some {s0 t : State} (h : Kept m s0 t) : KeptO m s0 (some t) := by
  intro u e
  cases e
  exact h

theorem KeptO.none {s0 : State} : KeptO m s0 none := by
  intro u e
  cases e

theorem KeptO.bind {s0 : State} {o : Option State} {f : State → Option State} (h : KeptO m s0 o)
    (k : ∀ t, Kept m s0 t → KeptO m s0 (f t)) : KeptO m s0 (o.bind f) := by
  cases o with
  | none => exact .none
  | some a => exact k a (h a rfl)

theorem KeptO.getD {s0 d : State} {o : Option State} (h : KeptO m s0 o) (k : Kept m s0 d) : Kept m s0 (o.getD d) := by
  cases o with
  | none => exact k
  | some a => exact h a rfl

theorem KeptO.map {s0 : State} {o : Option State} {f : State → State} (h : KeptO m s0 o)
    (k : ∀ t, Kept m s0 t → Kept m s0 (f t)) : KeptO m s0 (o.map f) := by
  cases o with
  | none => exact .none
  | some a => exact .some (k a (h a rfl))

/-- What a word of microcode does, where it does not trap, keeps. -/
def KeptE {α ε : Type} (m : State → α) (s0 : State) (r : Except ε State) : Prop := ∀ t, r = .ok t → Kept m s0 t

theorem KeptE.ok {ε : Type} {s0 t : State} (h : Kept m s0 t) : KeptE m s0 (.ok t : Except ε State) := by
  intro u e
  cases e
  exact h

theorem KeptE.error {ε : Type} {s0 : State} {x : ε} : KeptE m s0 (.error x : Except ε State) := by
  intro u e
  cases e

theorem KeptE.bind {ε : Type} {s0 : State} {r : Except ε State} {f : State → Except ε State} (h : KeptE m s0 r)
    (k : ∀ t, Kept m s0 t → KeptE m s0 (f t)) : KeptE m s0 (r >>= f) := by
  cases r with
  | error x => exact .error
  | ok a => exact k a (h a rfl)

theorem KeptE.bind' {ε β : Type} {s0 : State} {r : Except ε β} {f : β → Except ε State} (k : ∀ a, KeptE m s0 (f a)) :
    KeptE m s0 (r >>= f) := by
  cases r with
  | error x => exact .error
  | ok a => exact k a

/-! Closure under the ways a meaning is put together. -/

theorem ite_kept {α : Type} {P : α → Prop} {c : Prop} [Decidable c] {a b : α} (ha : P a) (hb : P b) : P (if c then a else b) := by
  split
  · exact ha
  · exact hb

theorem dite_kept {α : Type} {P : α → Prop} {c : Prop} [Decidable c] {a : c → α} {b : ¬c → α} (ha : ∀ h, P (a h))
    (hb : ∀ h, P (b h)) : P (if h : c then a h else b h) := by
  split
  · exact ha _
  · exact hb _

theorem ite_app_kept {α β : Type} {P : β → Prop} {c : Prop} [Decidable c] {a b : α → β} {s : α} (ha : P (a s)) (hb : P (b s)) :
    P ((if c then a else b) s) := by
  split
  · exact ha
  · exact hb

theorem ite_app3_kept {α β γ δ : Type} {P : δ → Prop} {c : Prop} [Decidable c] {f g : α → β → γ → δ} {x : α} {y : β} {z : γ}
    (ha : P (f x y z)) (hb : P (g x y z)) : P ((if c then f else g) x y z) := by
  split
  · exact ha
  · exact hb

theorem app_kept {β : Type} {P : β → Prop} {s0 a : State} {F : State → β} (ha : Kept m s0 a) (hF : ∀ t, Kept m s0 t → P (F t)) :
    P (F a) := hF a ha

theorem id_kept {α : Type} {P : α → Prop} {a : α} (h : P a) : P (id a) := h

theorem snd_kept {α β : Type} {P : β → Prop} {a : α} {b : β} (h : P b) : P (a, b).2 := h

theorem fst_kept {α β : Type} {P : α → Prop} {a : α} {b : β} (h : P a) : P (a, b).1 := h

theorem foldl_kept {α β : Type} {P : α → Prop} {f : α → β → α} {a : α} {l : List β} (hf : ∀ t x, P t → P (f t x)) (ha : P a) :
    P (l.foldl f a) := by
  induction l generalizing a with
  | nil => exact ha
  | cons x l ih => exact ih (hf a x ha)

theorem elim_kept {α β : Type} {P : β → Prop} {o : Option α} {b : β} {f : α → β} (hb : P b) (hf : ∀ a, P (f a)) :
    P (o.elim b f) := by
  cases o with
  | none => exact hb
  | some a => exact hf a

theorem getD_kept {α : Type} {P : α → Prop} {o : Option α} {d : α} (ho : ∀ a, o = some a → P a) (hd : P d) : P (o.getD d) := by
  cases o with
  | none => exact hd
  | some a => exact ho a rfl

end Sys2Proof.Machine
end

