-- ==== Sys2Proof/Laws/Frames.lean ====
section
/-!
SUPPORT. From what an operation keeps to the frame of a command.
-/
namespace Sys2Proof.Machine

/-- The components a meaning does not name in its hypothesis are as before. -/
theorem sameBut_of {ps : List Part} {s t : State} {r : Res} (h : KeptR (fun u => ps.foldr State.clear u) s r)
    (e : r = .next t) : sameBut ps s t := (h t e).view

/-- A write to a register field leaves every other field alone. -/
theorem otherFields_fset (p : Nat) (f : Fld) (v : Nat) (s : State) : otherFields p [f] s (fset p f v s) := by
  intro q g h
  exact fget_fset_other s v (by simpa using h)

theorem otherFields.refl (p : Nat) (fs : List Fld) (s : State) : otherFields p fs s s := fun _ _ _ => rfl

theorem otherFields.trans {p : Nat} {fs gs hs : List Fld} {s t u : State} (a : otherFields p fs s t) (b : otherFields p gs t u)
    (hf : ∀ f ∈ fs, f ∈ hs) (hg : ∀ f ∈ gs, f ∈ hs) : otherFields p hs s u := by
  intro q f h
  have h1 : f.key q ∉ fs.map (fun g => g.key p) := by
    intro c
    obtain ⟨g, hg', e⟩ := List.mem_map.mp c
    exact h (List.mem_map.mpr ⟨g, hf g hg', e⟩)
  have h2 : f.key q ∉ gs.map (fun g => g.key p) := by
    intro c
    obtain ⟨g, hg', e⟩ := List.mem_map.mp c
    exact h (List.mem_map.mpr ⟨g, hg g hg', e⟩)
  rw [b q f h2, a q f h1]

end Sys2Proof.Machine
end

