-- ==== Sys2Proof/Laws/KeptA.lean ====
section
/-!
SUPPORT. What the operations change and what they keep, part A.
-/
set_option Elab.async false

namespace Sys2Proof.Machine

theorem emit_kept {α : Type} {m : State → α} (hm : ∀ u, m u = m { u with evq := [] })
    {s0 s : State} {a0 a1 a2 a3 a4} (h : Kept m s0 s) :
    Kept m s0 (emit a0 a1 a2 a3 a4 s) := by
  unfold emit
  refine Kept.with hm ?_
  exact h

theorem fset_kept {α : Type} {m : State → α} (hm : ∀ u, m u = m { u with regs := [] })
    {s0 s : State} {a0 a1 a2} (h : Kept m s0 s) :
    Kept m s0 (fset a0 a1 a2 s) := by
  refine h.trans ⟨view_eq hm, rfl, List.prefix_refl _, le_refl _, .refl _, fun hs => ?_⟩
  unfold fset
  dsimp only
  split
  · exact Store.sorted_erase _ _ hs
  · exact Store.sorted_insert _ _ _ hs

theorem sticky_kept {α : Type} {m : State → α} (hm : ∀ u, m u = m { u with regs := [] })
    {s0 s : State} {a0 a1} (h : Kept m s0 s) :
    Kept m s0 (sticky a0 a1 s) := by
  unfold sticky
  refine fset_kept (sub hm) ?_
  exact h

theorem cntN_kept {α : Type} {m : State → α} (hm : ∀ u, m u = m { u with regs := [] })
    {s0 s : State} {a0 a1 a2 a3} (h : Kept m s0 s) :
    Kept m s0 (cntN a0 a1 a2 a3 s) := by
  unfold cntN
  extract_lets +onlyGivenNames x1
  clear_value x1
  refine ite_kept (P := fun x => Kept m s0 x) ?_ ?_
  · refine fset_kept (sub hm) ?_
    exact h
  · refine sticky_kept (sub hm) ?_
    refine fset_kept (sub hm) ?_
    exact h

theorem cnt_kept {α : Type} {m : State → α} (hm : ∀ u, m u = m { u with regs := [] })
    {s0 s : State} {a0 a1 a2} (h : Kept m s0 s) :
    Kept m s0 (cnt a0 a1 a2 s) := by
  unfold cnt
  refine cntN_kept (sub hm) ?_
  exact h

theorem send_kept {α : Type} {m : State → α} (hm : ∀ u, m u = m { u with out := [] })
    {s0 s : State} {a0} (h : Kept m s0 s) :
    Kept m s0 (send a0 s) :=
  h.trans ⟨view_eq hm, rfl, List.prefix_append _ _, le_refl _, .refl _, id⟩

theorem sendVector_kept {α : Type} {m : State → α} (hm : ∀ u, m u = m { u with out := [], msixPend := 0 })
    {s0 s : State} {a0} (h : Kept m s0 s) :
    Kept m s0 (sendVector a0 s) := by
  unfold sendVector
  refine ite_kept (P := fun x => Kept m s0 x) ?_ ?_
  · extract_lets +onlyGivenNames x1
    clear_value x1
    refine ite_kept (P := fun x => Kept m s0 x) ?_ ?_
    · refine Kept.with hm ?_
      exact h
    · refine send_kept (sub hm) ?_
      exact h
  · exact h

theorem routeMsix_kept {α : Type} {m : State → α} (hm : ∀ u, m u = m { u with out := [], msixPend := 0 })
    {s0 s : State} {a0} (h : Kept m s0 s) :
    Kept m s0 (routeMsix a0 s) := by
  unfold routeMsix
  refine ite_kept (P := fun x => Kept m s0 x) ?_ ?_
  · refine sendVector_kept (sub hm) ?_
    exact h
  · exact h

theorem intEdge_kept {α : Type} {m : State → α} (hm : ∀ u, m u = m { u with out := [], msixPend := 0 })
    {s0 s : State} {a0 a1} (h : Kept m s0 s) :
    Kept m s0 (intEdge a0 a1 s) := by
  unfold intEdge
  refine ite_kept (P := fun x => Kept m s0 x) ?_ ?_
  · refine routeMsix_kept (sub hm) ?_
    exact h
  · exact h

theorem raise_kept {α : Type} {m : State → α} (hm : ∀ u, m u = m { u with regs := [], out := [], msixPend := 0 })
    {s0 s : State} {a0 a1} (h : Kept m s0 s) :
    Kept m s0 (raise a0 a1 s) := by
  unfold raise
  refine intEdge_kept (sub hm) ?_
  refine fset_kept (sub hm) ?_
  exact h

theorem abandonOne_kept {α : Type} {m : State → α} (hm : ∀ u, m u = m { u with regs := [], evq := [], out := [], msixPend := 0 })
    {s0 s : State} {a0 a1 a2} (h : Kept m s0 s) :
    Kept m s0 (abandonOne a0 a1 a2 s) := by
  unfold abandonOne
  refine emit_kept (sub hm) ?_
  refine fset_kept (sub hm) ?_
  refine cnt_kept (sub hm) ?_
  refine raise_kept (sub hm) ?_
  refine cnt_kept (sub hm) ?_
  refine raise_kept (sub hm) ?_
  exact h

theorem fmax_kept {α : Type} {m : State → α} (hm : ∀ u, m u = m { u with regs := [] })
    {s0 s : State} {a0 a1 a2} (h : Kept m s0 s) :
    Kept m s0 (fmax a0 a1 a2 s) := by
  unfold fmax
  extract_lets +onlyGivenNames x1
  clear_value x1
  refine ite_kept (P := fun x => Kept m s0 x) ?_ ?_
  · refine fset_kept (sub hm) ?_
    exact h
  · exact h

theorem showPool_kept {α : Type} {m : State → α} (hm : ∀ u, m u = m { u with regs := [] })
    {s0 s : State} (h : Kept m s0 s) :
    Kept m s0 (showPool s) := by
  unfold showPool
  refine fmax_kept (sub hm) ?_
  refine fset_kept (sub hm) ?_
  exact h

theorem setCl_kept {α : Type} {m : State → α} (hm : ∀ u, m u = m { u with cl := {} })
    {s0 s : State} {a0} (h : Kept m s0 s) :
    Kept m s0 (setCl a0 s) := by
  unfold setCl
  refine Kept.with hm ?_
  exact h

theorem setCmd_kept {α : Type} {m : State → α} (hm : ∀ u, m u = m { u with cl := {} })
    {s0 s : State} {a0 a1} (h : Kept m s0 s) :
    Kept m s0 (setCmd a0 a1 s) := by
  unfold setCmd
  refine setCl_kept (sub hm) ?_
  exact h

theorem modCmd_kept {α : Type} {m : State → α} (hm : ∀ u, m u = m { u with cl := {} })
    {s0 s : State} {a0 a1} (h : Kept m s0 s) :
    Kept m s0 (modCmd a0 a1 s) := by
  unfold modCmd
  split
  · rename_i v1 v2 v3
    refine setCmd_kept (sub hm) ?_
    exact h
  · rename_i v4 v5
    exact h

theorem markMoved_kept {α : Type} {m : State → α} (hm : ∀ u, m u = m { u with cl := {} })
    {s0 s : State} {a0 a1} (h : Kept m s0 s) :
    Kept m s0 (markMoved a0 a1 s) := by
  unfold markMoved
  refine modCmd_kept (sub hm) ?_
  exact h

theorem fset64_kept {α : Type} {m : State → α} (hm : ∀ u, m u = m { u with regs := [] })
    {s0 s : State} {a0 a1 a2 a3} (h : Kept m s0 s) :
    Kept m s0 (fset64 a0 a1 a2 a3 s) := by
  unfold fset64
  refine fset_kept (sub hm) ?_
  refine fset_kept (sub hm) ?_
  exact h

theorem cnt64_kept {α : Type} {m : State → α} (hm : ∀ u, m u = m { u with regs := [] })
    {s0 s : State} {a0 a1 a2 a3 a4} (h : Kept m s0 s) :
    Kept m s0 (cnt64 a0 a1 a2 a3 a4 s) := by
  unfold cnt64
  extract_lets +onlyGivenNames x1
  clear_value x1
  refine ite_kept (P := fun x => Kept m s0 x) ?_ ?_
  · refine fset64_kept (sub hm) ?_
    exact h
  · refine sticky_kept (sub hm) ?_
    refine fset64_kept (sub hm) ?_
    exact h

theorem toHost_kept {α : Type} {m : State → α} (hm : ∀ u, m u = m { u with regs := [] })
    {s0 s : State} {a0} (h : Kept m s0 s) :
    Kept m s0 (toHost a0 s) := by
  unfold toHost
  refine cnt64_kept (sub hm) ?_
  exact h

theorem fromHost_kept {α : Type} {m : State → α} (hm : ∀ u, m u = m { u with regs := [] })
    {s0 s : State} {a0} (h : Kept m s0 s) :
    Kept m s0 (fromHost a0 s) := by
  unfold fromHost
  refine cnt64_kept (sub hm) ?_
  exact h

theorem portMoved_kept {α : Type} {m : State → α} (hm : ∀ u, m u = m { u with regs := [] })
    {s0 s : State} {a0 a1 a2} (h : Kept m s0 s) :
    Kept m s0 (portMoved a0 a1 a2 s) := by
  unfold portMoved
  refine ite_kept (P := fun x => Kept m s0 x) ?_ ?_
  · refine cnt64_kept (sub hm) ?_
    exact h
  · refine ite_kept (P := fun x => Kept m s0 x) ?_ ?_
    · refine toHost_kept (sub hm) ?_
      exact h
    · refine fromHost_kept (sub hm) ?_
      exact h

theorem portBytes_kept {α : Type} {m : State → α} (hm : ∀ u, m u = m { u with regs := [], out := [] })
    {s0 s : State} {a0 a1 a2} (h : Kept m s0 s) :
    Kept m s0 (portBytes a0 a1 a2 s) := by
  unfold portBytes
  refine portMoved_kept (sub hm) ?_
  refine send_kept (sub hm) ?_
  exact h

theorem fsetB_kept {α : Type} {m : State → α} (hm : ∀ u, m u = m { u with regs := [] })
    {s0 s : State} {a0 a1 a2} (h : Kept m s0 s) :
    Kept m s0 (fsetB a0 a1 a2 s) := by
  unfold fsetB
  refine fset_kept (sub hm) ?_
  exact h

theorem showDirty_kept {α : Type} {m : State → α} (hm : ∀ u, m u = m { u with regs := [] })
    {s0 s : State} (h : Kept m s0 s) :
    Kept m s0 (showDirty s) := by
  unfold showDirty
  refine fsetB_kept (sub hm) ?_
  refine fset_kept (sub hm) ?_
  exact h

theorem setMem_kept {α : Type} {m : State → α} (hm : ∀ u, m u = m { u with mem := {} })
    {s0 s : State} {a0} (h : Kept m s0 s) :
    Kept m s0 (setMem a0 s) := by
  unfold setMem
  refine Kept.with hm ?_
  exact h

theorem putLine_kept {α : Type} {m : State → α} (hm : ∀ u, m u = m { u with regs := [], mem := {} })
    {s0 s : State} {a0 a1} (h : Kept m s0 s) :
    Kept m s0 (putLine a0 a1 s) := by
  unfold putLine
  refine showDirty_kept (sub hm) ?_
  refine setMem_kept (sub hm) ?_
  exact h

theorem bufPut_kept {α : Type} {m : State → α} (hm : ∀ u, m u = m { u with regs := [], mem := {} })
    {s0 s : State} {a0 a1} (h : Kept m s0 s) :
    Kept m s0 (bufPut a0 a1 s) := by
  unfold bufPut
  split
  · rename_i v1 v2 v3 v4
    extract_lets +onlyGivenNames x5
    clear_value x5
    refine putLine_kept (sub hm) ?_
    exact h
  · rename_i v6 v7
    refine setMem_kept (sub hm) ?_
    exact h

theorem bufPuts_kept {α : Type} {m : State → α} (hm : ∀ u, m u = m { u with regs := [], mem := {} })
    {s0 s : State} {a0 a1} (h : Kept m s0 s) :
    Kept m s0 (bufPuts a0 a1 s) := by
  induction a1 generalizing a0 s with
  | nil => exact h
  | cons b bs ih => exact ih (bufPut_kept (sub hm) h)

theorem bufWrite_kept {α : Type} {m : State → α} (hm : ∀ u, m u = m { u with regs := [], mem := {} })
    {s0 s : State} {a0 a1} (h : Kept m s0 s) :
    KeptO m s0 (bufWrite a0 a1 s) := by
  unfold bufWrite
  refine ite_kept (P := fun x => KeptO m s0 x) ?_ ?_
  · refine KeptO.some ?_
    exact h
  · refine ite_kept (P := fun x => KeptO m s0 x) ?_ ?_
    · exact KeptO.none
    · extract_lets +onlyGivenNames x1
      have h2 : Kept m s0 x1 := by
        unfold x1
        refine bufPuts_kept (sub hm) ?_
        exact h
      clear_value x1
      extract_lets +onlyGivenNames x3
      clear_value x3
      refine KeptO.some ?_
      refine foldl_kept (P := fun x => Kept m s0 x) ?_ ?_
      · intro y4 y5 y6
        split
        · rename_i v7 v8 v9 v10
          refine putLine_kept (sub hm) ?_
          exact y6
        · rename_i v11 v12
          refine setMem_kept (sub hm) ?_
          exact y6
      · exact h2

theorem writePieces_kept {α : Type} {m : State → α} (hm : ∀ u, m u = m { u with regs := [], out := [], mem := {} })
    {s0 s : State} {a0 a1} (h : Kept m s0 s) :
    KeptO m s0 (writePieces a0 a1 s) := by
  induction a1 generalizing s with
  | nil => exact .some h
  | cons p ps ih =>
    unfold writePieces
    refine ite_kept (P := fun x => KeptO m s0 x) ?_ ?_
    · exact ih (send_kept (sub hm) h)
    · exact KeptO.bind (bufWrite_kept (sub hm) h) fun t ht => ih ht

theorem pmcOvf_kept {α : Type} {m : State → α} (hm : ∀ u, m u = m { u with regs := [], out := [], msixPend := 0 })
    {s0 s : State} {a0} (h : Kept m s0 s) :
    Kept m s0 (pmcOvf a0 s) := by
  unfold pmcOvf
  extract_lets +onlyGivenNames x1
  clear_value x1
  refine raise_kept (sub hm) ?_
  refine fset_kept (sub hm) ?_
  exact h

theorem pmcAdvance_kept {α : Type} {m : State → α} (hm : ∀ u, m u = m { u with regs := [], out := [], msixPend := 0 })
    {s0 s : State} {a0 a1} (h : Kept m s0 s) :
    Kept m s0 (pmcAdvance a0 a1 s) := by
  unfold pmcAdvance
  extract_lets +onlyGivenNames x1
  clear_value x1
  extract_lets +onlyGivenNames x2
  clear_value x2
  extract_lets +onlyGivenNames x3
  clear_value x3
  refine ite_kept (P := fun x => Kept m s0 x) ?_ ?_
  · extract_lets +onlyGivenNames x4
    clear_value x4
    extract_lets +onlyGivenNames x5
    clear_value x5
    extract_lets +onlyGivenNames x6
    have h7 : Kept m s0 x6 := by
      unfold x6
      refine fset_kept (sub hm) ?_
      refine fset_kept (sub hm) ?_
      exact h
    clear_value x6
    refine ite_kept (P := fun x => Kept m s0 x) ?_ ?_
    · exact h7
    · refine pmcOvf_kept (sub hm) ?_
      exact h7
  · extract_lets +onlyGivenNames x8
    clear_value x8
    extract_lets +onlyGivenNames x9
    clear_value x9
    extract_lets +onlyGivenNames x10
    clear_value x10
    extract_lets +onlyGivenNames x11
    have h12 : Kept m s0 x11 := by
      unfold x11
      refine fset_kept (sub hm) ?_
      exact h
    clear_value x11
    refine ite_kept (P := fun x => Kept m s0 x) ?_ ?_
    · exact h12
    · refine pmcOvf_kept (sub hm) ?_
      exact h12

theorem pmc_kept {α : Type} {m : State → α} (hm : ∀ u, m u = m { u with regs := [], out := [], msixPend := 0 })
    {s0 s : State} {a0 a1 a2} (h : Kept m s0 s) :
    Kept m s0 (pmc a0 a1 a2 s) := by
  unfold pmc
  refine ite_kept (P := fun x => Kept m s0 x) ?_ ?_
  · exact h
  · refine foldl_kept (P := fun x => Kept m s0 x) ?_ ?_
    · intro y1 y2 y3
      refine ite_kept (P := fun x => Kept m s0 x) ?_ ?_
      · refine pmcAdvance_kept (sub hm) ?_
        exact y3
      · exact y3
    · exact h

theorem transfer_kept {α : Type} {m : State → α} (hm : ∀ u, m u = m { u with regs := [], out := [], msixPend := 0, mem := {}, cl := {} })
    {s0 s : State} {a0 a1} (h : Kept m s0 s) :
    Kept m s0 (transfer a0 a1 s) := by
  unfold transfer
  split
  · rename_i v1 v2
    exact h
  · rename_i v3 v4 v5
    split
    · rename_i v6 v7
      exact h
    · rename_i v8 v9 v10
      refine ite_kept (P := fun x => Kept m s0 x) ?_ ?_
      · exact h
      · refine ite_kept (P := fun x => Kept m s0 x) ?_ ?_
        · refine markMoved_kept (sub hm) ?_
          exact h
        · split
          · rename_i v11 v12
            refine markMoved_kept (sub hm) ?_
            exact h
          · rename_i v13 v14 v15
            split
            · rename_i v16 v17 v18
              refine ite_kept (P := fun x => Kept m s0 x) ?_ ?_
              · refine markMoved_kept (sub hm) ?_
                refine portBytes_kept (sub hm) ?_
                exact h
              · exact h
            · rename_i v19 v20
              refine ite_kept (P := fun x => Kept m s0 x) ?_ ?_
              · exact h
              · split
                · rename_i v21 v22
                  exact h
                · rename_i v23 v24 v25
                  split
                  · rename_i v26 v27
                    refine markMoved_kept (sub hm) ?_
                    refine modCmd_kept (sub hm) ?_
                    exact h
                  · rename_i v29 v30 v31
                    have h32 : Kept m s0 v30 := by
                      refine (?_ : KeptO m s0 _) _ v31
                      refine writePieces_kept (sub hm) ?_
                      exact h
                    refine ite_app_kept (P := fun x => Kept m s0 x) ?_ ?_
                    · refine toHost_kept (sub hm) ?_
                      refine ite_app_kept (P := fun x => Kept m s0 x) ?_ ?_
                      · refine pmc_kept (sub hm) ?_
                        refine markMoved_kept (sub hm) ?_
                        exact h32
                      · refine id_kept (P := fun x => Kept m s0 x) ?_
                        refine markMoved_kept (sub hm) ?_
                        exact h32
                    · refine id_kept (P := fun x => Kept m s0 x) ?_
                      refine ite_app_kept (P := fun x => Kept m s0 x) ?_ ?_
                      · refine pmc_kept (sub hm) ?_
                        refine markMoved_kept (sub hm) ?_
                        exact h32
                      · refine id_kept (P := fun x => Kept m s0 x) ?_
                        refine markMoved_kept (sub hm) ?_
                        exact h32

theorem transferAll_kept {α : Type} {m : State → α} (hm : ∀ u, m u = m { u with regs := [], out := [], msixPend := 0, mem := {}, cl := {} })
    {s0 s : State} {a0} (h : Kept m s0 s) :
    Kept m s0 (transferAll a0 s) := by
  unfold transferAll
  split
  · rename_i v1 v2
    exact h
  · rename_i v3 v4 v5
    refine foldl_kept (P := fun x => Kept m s0 x) ?_ ?_
    · intro y6 y7 y8
      refine transfer_kept (sub hm) ?_
      exact y8
    · exact h

theorem takeEnd_kept {α : Type} {m : State → α} (hm : ∀ u, m u = m { u with regs := [], out := [], msixPend := 0, mem := {}, cl := {} })
    {s0 s : State} {a0 a2} (h : Kept m s0 s) :
    Kept m s0 (takeEnd a0 s a2) := by
  unfold takeEnd
  extract_lets +onlyGivenNames x1
  clear_value x1
  extract_lets +onlyGivenNames x2
  have h3 : Kept m s0 x2 := by
    unfold x2
    refine showPool_kept (sub hm) ?_
    refine setCl_kept (sub hm) ?_
    exact h
  clear_value x2
  extract_lets +onlyGivenNames x4
  have h5 : Kept m s0 x4 := by
    unfold x4
    refine modCmd_kept (sub hm) ?_
    exact h3
  clear_value x4
  refine transferAll_kept (sub hm) ?_
  exact h5

theorem deliver_kept {α : Type} {m : State → α} (hm : ∀ u, m u = m { u with regs := [], out := [], msixPend := 0, mem := {}, cl := {} })
    {s0 s : State} {a0 a1} (h : Kept m s0 s) :
    Kept m s0 (deliver a0 a1 s) := by
  unfold deliver
  extract_lets +onlyGivenNames x1
  clear_value x1
  split
  · rename_i v2 v3
    refine foldl_kept (P := fun x => Kept m s0 x) ?_ ?_
    · intro y4 y5 y6
      refine takeEnd_kept (sub hm) ?_
      exact y6
    · exact h
  · rename_i v7 v8
    refine foldl_kept (P := fun x => Kept m s0 x) ?_ ?_
    · intro y9 y10 y11
      refine takeEnd_kept (sub hm) ?_
      exact y11
    · exact h
  · rename_i v12 v13
    refine foldl_kept (P := fun x => Kept m s0 x) ?_ ?_
    · intro y14 y15 y16
      refine takeEnd_kept (sub hm) ?_
      exact y16
    · exact h
  · rename_i v17 v18
    refine foldl_kept (P := fun x => Kept m s0 x) ?_ ?_
    · intro y19 y20 y21
      refine takeEnd_kept (sub hm) ?_
      exact y21
    · exact h
  · rename_i v22 v23
    split
    · rename_i v24 v25
      exact h
    · rename_i v26 v27 v28
      refine ite_kept (P := fun x => Kept m s0 x) ?_ ?_
      · refine setCl_kept (sub hm) ?_
        exact h
      · refine takeEnd_kept (sub hm) ?_
        exact h
  · rename_i v29 v30
    split
    · rename_i v31 v32
      exact h
    · rename_i v33 v34 v35
      refine takeEnd_kept (sub hm) ?_
      exact h
  · rename_i v36 v37
    refine foldl_kept (P := fun x => Kept m s0 x) ?_ ?_
    · intro y38 y39 y40
      refine takeEnd_kept (sub hm) ?_
      exact y40
    · exact h

theorem endCluster_kept {α : Type} {m : State → α} (hm : ∀ u, m u = m { u with regs := [], out := [], msixPend := 0, ends := [], mem := {}, cl := {} })
    {s0 s : State} {a0 a1} (h : Kept m s0 s) :
    Kept m s0 (endCluster a0 a1 s) := by
  unfold endCluster
  extract_lets +onlyGivenNames x1
  clear_value x1
  extract_lets +onlyGivenNames x2
  clear_value x2
  extract_lets +onlyGivenNames x3
  have h4 : Kept m s0 x3 := by
    unfold x3
    refine Kept.with hm ?_
    exact h
  clear_value x3
  refine ite_kept (P := fun x => Kept m s0 x) ?_ ?_
  · exact h4
  · refine deliver_kept (sub hm) ?_
    exact h4

theorem abandonedFault_kept {α : Type} {m : State → α} (hm : ∀ u, m u = m { u with regs := [], out := [], msixPend := 0, ends := [], encoded := [], mem := {}, cl := {} })
    {s0 s : State} {a0 a1 a2} (h : Kept m s0 s) :
    Kept m s0 (abandonedFault a0 a1 a2 s) := by
  unfold abandonedFault
  refine endCluster_kept (sub hm) ?_
  refine Kept.with hm ?_
  exact h

theorem setPorts_kept {α : Type} {m : State → α} (hm : ∀ u, m u = m { u with port := {} })
    {s0 s : State} {a0} (h : Kept m s0 s) :
    Kept m s0 (setPorts a0 s) := by
  unfold setPorts
  refine Kept.with hm ?_
  exact h

theorem showSq_kept {α : Type} {m : State → α} (hm : ∀ u, m u = m { u with regs := [] })
    {s0 s : State} (h : Kept m s0 s) :
    Kept m s0 (showSq s) := by
  unfold showSq
  refine fset_kept (sub hm) ?_
  refine fset_kept (sub hm) ?_
  exact h

theorem setDec_kept {α : Type} {m : State → α} (hm : ∀ u, m u = m { u with dec := {} })
    {s0 s : State} {a0} (h : Kept m s0 s) :
    Kept m s0 (setDec a0 s) := by
  unfold setDec
  refine Kept.with hm ?_
  exact h

theorem sqRelease_kept {α : Type} {m : State → α} (hm : ∀ u, m u = m { u with regs := [], dec := {} })
    {s0 s : State} {a0} (h : Kept m s0 s) :
    Kept m s0 (sqRelease a0 s) := by
  unfold sqRelease
  extract_lets +onlyGivenNames x1
  clear_value x1
  extract_lets +onlyGivenNames x2
  clear_value x2
  refine showSq_kept (sub hm) ?_
  refine fsetB_kept (sub hm) ?_
  refine setDec_kept (sub hm) ?_
  exact h

theorem dropReq_kept {α : Type} {m : State → α} (hm : ∀ u, m u = m { u with regs := [], evq := [], dec := {}, encoded := [], cl := {} })
    {s0 s : State} {a1} (h : Kept m s0 s) :
    Kept m s0 (dropReq s a1) := by
  unfold dropReq
  extract_lets +onlyGivenNames x1
  clear_value x1
  extract_lets +onlyGivenNames x2
  have h3 : Kept m s0 x2 := by
    unfold x2
    refine showPool_kept (sub hm) ?_
    refine setCl_kept (sub hm) ?_
    exact h
  clear_value x2
  refine ite_kept (P := fun x => Kept m s0 x) ?_ ?_
  · exact h3
  · refine ite_kept (P := fun x => Kept m s0 x) ?_ ?_
    · refine Kept.with hm ?_
      exact h3
    · extract_lets +onlyGivenNames x4
      clear_value x4
      split
      · rename_i v5 v6 v7
        refine emit_kept (sub hm) ?_
        refine cnt_kept (sub hm) ?_
        refine sqRelease_kept (sub hm) ?_
        exact h3
      · rename_i v8 v9
        exact h3

theorem stopReq_kept {α : Type} {m : State → α} (hm : ∀ u, m u = m { u with regs := [], evq := [], out := [], msixPend := 0, dec := {}, encoded := [], mem := {}, cl := {} })
    {s0 s : State} {a1} (h : Kept m s0 s) :
    Kept m s0 (stopReq s a1) := by
  unfold stopReq
  refine ite_kept (P := fun x => Kept m s0 x) ?_ ?_
  · refine takeEnd_kept (sub hm) ?_
    exact h
  · refine ite_kept (P := fun x => Kept m s0 x) ?_ ?_
    · exact h
    · refine dropReq_kept (sub hm) ?_
      exact h

theorem setDisc_kept {α : Type} {m : State → α} (hm : ∀ u, m u = m { u with disc := {} })
    {s0 s : State} {a0} (h : Kept m s0 s) :
    Kept m s0 (setDisc a0 s) := by
  unfold setDisc
  refine Kept.with hm ?_
  exact h

theorem stopSeal_kept {α : Type} {m : State → α} (hm : ∀ u, m u = m { u with disc := {}, cl := {} })
    {s0 s : State} {a0 a1} (h : Kept m s0 s) :
    Kept m s0 (stopSeal a0 a1 s) := by
  unfold stopSeal
  extract_lets +onlyGivenNames x1
  clear_value x1
  refine modCmd_kept (sub hm) ?_
  refine setDisc_kept (sub hm) ?_
  exact h

theorem endNow_kept {α : Type} {m : State → α} (hm : ∀ u, m u = m { u with cl := {} })
    {s0 s : State} {a0 a1} (h : Kept m s0 s) :
    Kept m s0 (endNow a0 a1 s) := by
  unfold endNow
  refine modCmd_kept (sub hm) ?_
  exact h

theorem endTest_kept {α : Type} {m : State → α} (hm : ∀ u, m u = m { u with evq := [], cl := {} })
    {s0 s : State} {a0 a1 a2} (h : Kept m s0 s) :
    Kept m s0 (endTest a0 a1 a2 s) := by
  unfold endTest
  refine emit_kept (sub hm) ?_
  refine endNow_kept (sub hm) ?_
  refine setCl_kept (sub hm) ?_
  exact h

theorem setCjob_kept {α : Type} {m : State → α} (hm : ∀ u, m u = m { u with lanesC := [] })
    {s0 s : State} {a0 a1} (h : Kept m s0 s) :
    Kept m s0 (setCjob a0 a1 s) := by
  unfold setCjob
  refine Kept.with hm ?_
  exact h

theorem setLaneState_kept {α : Type} {m : State → α} (hm : ∀ u, m u = m { u with regs := [] })
    {s0 s : State} {a0 a1} (h : Kept m s0 s) :
    Kept m s0 (setLaneState a0 a1 s) := by
  unfold setLaneState
  refine fset_kept (sub hm) ?_
  exact h

theorem jobAbort_kept {α : Type} {m : State → α} (hm : ∀ u, m u = m { u with regs := [], evq := [], out := [], msixPend := 0, lanesC := [] })
    {s0 s : State} {a0} (h : Kept m s0 s) :
    Kept m s0 (jobAbort a0 s) := by
  unfold jobAbort
  extract_lets +onlyGivenNames x1
  clear_value x1
  refine ite_kept (P := fun x => Kept m s0 x) ?_ ?_
  · refine emit_kept (sub hm) ?_
    refine fset_kept (sub hm) ?_
    refine fset_kept (sub hm) ?_
    refine setCjob_kept (sub hm) ?_
    refine raise_kept (sub hm) ?_
    refine setLaneState_kept (sub hm) ?_
    exact h
  · exact h

theorem stopCmd_kept {α : Type} {m : State → α} (hm : ∀ u, m u = m { u with regs := [], evq := [], out := [], msixPend := 0, disc := {}, dec := {}, encoded := [], mem := {}, lanesC := [], cl := {} })
    {s0 s : State} {a0 a1} (h : Kept m s0 s) :
    Kept m s0 (stopCmd a0 a1 s) := by
  unfold stopCmd
  split
  · rename_i v1 v2
    exact h
  · rename_i v3 v4 v5
    refine ite_kept (P := fun x => Kept m s0 x) ?_ ?_
    · exact h
    · extract_lets +onlyGivenNames x6
      have h7 : Kept m s0 x6 := by
        unfold x6
        refine modCmd_kept (sub hm) ?_
        exact h
      clear_value x6
      extract_lets +onlyGivenNames x8
      clear_value x8
      extract_lets +onlyGivenNames x9
      have h10 : Kept m s0 x9 := by
        unfold x9
        refine setCl_kept (sub hm) ?_
        exact h7
      clear_value x9
      refine ite_kept (P := fun x => Kept m s0 x) ?_ ?_
      · refine foldl_kept (P := fun x => Kept m s0 x) ?_ ?_
        · intro y11 y12 y13
          refine stopReq_kept (sub hm) ?_
          exact y13
        · exact h10
      · refine ite_kept (P := fun x => Kept m s0 x) ?_ ?_
        · refine stopSeal_kept (sub hm) ?_
          exact h10
        · refine ite_kept (P := fun x => Kept m s0 x) ?_ ?_
          · refine endTest_kept (sub hm) ?_
            exact h10
          · extract_lets +onlyGivenNames x14
            have h15 : Kept m s0 x14 := by
              unfold x14
              split
              · rename_i v16 v17 v18
                split
                · rename_i v19 v20 v21
                  refine jobAbort_kept (sub hm) ?_
                  exact h10
                · rename_i v22 v23
                  exact h10
              · rename_i v24 v25
                exact h10
            clear_value x14
            extract_lets +onlyGivenNames x26
            clear_value x26
            extract_lets +onlyGivenNames x27
            have h28 : Kept m s0 x27 := by
              unfold x27
              refine ite_kept (P := fun x => Kept m s0 x) ?_ ?_
              · refine fset_kept (sub hm) ?_
                refine setCl_kept (sub hm) ?_
                exact h15
              · exact h15
            clear_value x27
            refine modCmd_kept (sub hm) ?_
            exact h28

theorem abortTag_kept {α : Type} {m : State → α} (hm : ∀ u, m u = m { u with regs := [], evq := [], out := [], msixPend := 0, disc := {}, dec := {}, encoded := [], mem := {}, lanesC := [], cl := {} })
    {s0 s : State} {a0} (h : Kept m s0 s) :
    Kept m s0 (abortTag a0 s) := by
  unfold abortTag
  split
  · rename_i v1 v2 v3
    refine ite_kept (P := fun x => Kept m s0 x) ?_ ?_
    · exact h
    · refine emit_kept (sub hm) ?_
      refine stopCmd_kept (sub hm) ?_
      exact h
  · rename_i v4 v5
    exact h

theorem abortPort_kept {α : Type} {m : State → α} (hm : ∀ u, m u = m { u with regs := [], evq := [], out := [], msixPend := 0, disc := {}, dec := {}, encoded := [], mem := {}, lanesC := [], cl := {}, port := {} })
    {s0 s : State} {a0 a1} (h : Kept m s0 s) :
    Kept m s0 (abortPort a0 a1 s) := by
  unfold abortPort
  extract_lets +onlyGivenNames x1
  clear_value x1
  extract_lets +onlyGivenNames x2
  clear_value x2
  extract_lets +onlyGivenNames x3
  have h4 : Kept m s0 x3 := by
    unfold x3
    refine setPorts_kept (sub hm) ?_
    exact h
  clear_value x3
  refine foldl_kept (P := fun x => Kept m s0 x) ?_ ?_
  · intro y5 y6 y7
    refine abortTag_kept (sub hm) ?_
    exact y7
  · exact h4

theorem abortReq_kept {α : Type} {m : State → α} (hm : ∀ u, m u = m { u with regs := [], evq := [], out := [], msixPend := 0, disc := {}, dec := {}, encoded := [], mem := {}, lanesC := [], cl := {} })
    {s0 s : State} {a0} (h : Kept m s0 s) :
    Kept m s0 (abortReq a0 s).2 := by
  unfold abortReq
  refine foldl_kept (P := fun (x : _ × _) => Kept m s0 x.2) ?_ ?_
  · intro y1 y2 y3
    split
    · rename_i v4 v5 v6
      refine ite_kept (P := fun (x : _ × _) => Kept m s0 x.2) ?_ ?_
      · refine snd_kept (P := fun x => Kept m s0 x) ?_
        refine stopCmd_kept (sub hm) ?_
        exact y3
      · exact y3
    · rename_i v7 v8
      exact y3
  · refine snd_kept (P := fun x => Kept m s0 x) ?_
    exact h

theorem showWriting_kept {α : Type} {m : State → α} (hm : ∀ u, m u = m { u with regs := [] })
    {s0 s : State} {a0 a1} (h : Kept m s0 s) :
    Kept m s0 (showWriting a0 a1 s) := by
  unfold showWriting
  extract_lets +onlyGivenNames x1
  have h2 : Kept m s0 x1 := by
    unfold x1
    refine fsetB_kept (sub hm) ?_
    refine fsetB_kept (sub hm) ?_
    refine fsetB_kept (sub hm) ?_
    refine fsetB_kept (sub hm) ?_
    exact h
  clear_value x1
  refine foldl_kept (P := fun x => Kept m s0 x) ?_ ?_
  · intro y3 y4 y5
    refine fsetB_kept (sub hm) ?_
    exact y5
  · exact h2

theorem setRec_kept {α : Type} {m : State → α} (hm : ∀ u, m u = m { u with recs := [] })
    {s0 s : State} {a0 a1} (h : Kept m s0 s) :
    Kept m s0 (setRec a0 a1 s) := by
  unfold setRec
  refine Kept.with hm ?_
  exact h

theorem abruptStop_kept {α : Type} {m : State → α} (hm : ∀ u, m u = m { u with regs := [], evq := [], out := [], msixPend := 0, recs := [] })
    {s0 s : State} {a0 a1} (h : Kept m s0 s) :
    Kept m s0 (abruptStop a0 a1 s) := by
  unfold abruptStop
  extract_lets +onlyGivenNames x1
  clear_value x1
  refine ite_kept (P := fun x => Kept m s0 x) ?_ ?_
  · extract_lets +onlyGivenNames x2
    have h3 : Kept m s0 x2 := by
      unfold x2
      refine foldl_kept (P := fun x => Kept m s0 x) ?_ ?_
      · intro y4 y5 y6
        refine abandonOne_kept (sub hm) ?_
        exact y6
      · exact h
    clear_value x2
    refine fset_kept (sub hm) ?_
    refine showWriting_kept (sub hm) ?_
    refine setRec_kept (sub hm) ?_
    exact h3
  · exact h

theorem satFlag_kept {α : Type} {m : State → α} (hm : ∀ u, m u = m { u with regs := [] })
    {s0 s : State} {a0 a1 a2} (h : Kept m s0 s) :
    Kept m s0 (satFlag a0 a1 a2 s) := by
  unfold satFlag
  refine ite_kept (P := fun x => Kept m s0 x) ?_ ?_
  · refine sticky_kept (sub hm) ?_
    exact h
  · exact h

theorem setEng_kept {α : Type} {m : State → α} (hm : ∀ u, m u = m { u with engs := [] })
    {s0 s : State} {a0 a1} (h : Kept m s0 s) :
    Kept m s0 (setEng a0 a1 s) := by
  unfold setEng
  refine Kept.with hm ?_
  exact h

theorem setRegs_kept {α : Type} {m : State → α} (hm : ∀ u, m u = m { u with engs := [] })
    {s0 s : State} {a0 a1} (h : Kept m s0 s) :
    Kept m s0 (setRegs a0 a1 s) := by
  unfold setRegs
  refine setEng_kept (sub hm) ?_
  exact h

theorem acWord_kept {α : Type} {m : State → α} (hm : ∀ u, m u = m { u with regs := [], engs := [] })
    {s0 s : State} {a0 a1 a2} (h : Kept m s0 s) :
    Kept m s0 (acWord a0 a1 a2 s) := by
  unfold acWord
  extract_lets +onlyGivenNames x1
  clear_value x1
  refine satFlag_kept (sub hm) ?_
  refine setRegs_kept (sub hm) ?_
  exact h

theorem showResult_kept {α : Type} {m : State → α} (hm : ∀ u, m u = m { u with regs := [] })
    {s0 s : State} {a0 a1 a2} (h : Kept m s0 s) :
    Kept m s0 (showResult a0 a1 a2 s) := by
  unfold showResult
  refine fset_kept (sub hm) ?_
  refine fset_kept (sub hm) ?_
  refine fset_kept (sub hm) ?_
  exact h

theorem setClaim_kept {α : Type} {m : State → α} (hm : ∀ u, m u = m { u with claims := [] })
    {s0 s : State} {a0 a1} (h : Kept m s0 s) :
    Kept m s0 (setClaim a0 a1 s) := by
  unfold setClaim
  refine Kept.with hm ?_
  exact h

theorem tagging_kept {α : Type} {m : State → α} (hm : ∀ u, m u = m { u with regs := [], cl := {} })
    {s0 s : State} {a0 a1} (h : Kept m s0 s) :
    Kept m s0 (tagging a0 a1 s) := by
  unfold tagging
  extract_lets +onlyGivenNames x1
  clear_value x1
  refine ite_kept (P := fun x => Kept m s0 x) ?_ ?_
  · exact h
  · extract_lets +onlyGivenNames x2
    clear_value x2
    extract_lets +onlyGivenNames x3
    clear_value x3
    extract_lets +onlyGivenNames x4
    have h5 : Kept m s0 x4 := by
      unfold x4
      refine setCl_kept (sub hm) ?_
      exact h
    clear_value x4
    extract_lets +onlyGivenNames x6
    clear_value x6
    refine ite_kept (P := fun x => Kept m s0 x) ?_ ?_
    · exact h5
    · refine ite_kept (P := fun x => Kept m s0 x) ?_ ?_
      · refine sticky_kept (sub hm) ?_
        refine cnt_kept (sub hm) ?_
        exact h5
      · refine cnt_kept (sub hm) ?_
        refine fset_kept (sub hm) ?_
        refine modCmd_kept (sub hm) ?_
        exact h5

theorem accept_kept {α : Type} {m : State → α} (hm : ∀ u, m u = m { u with regs := [], out := [], msixPend := 0, claims := [], cl := {} })
    {s0 s : State} {a0 a1} (h : Kept m s0 s) :
    Kept m s0 (accept a0 a1 s) := by
  unfold accept
  extract_lets +onlyGivenNames x1
  clear_value x1
  extract_lets +onlyGivenNames x2
  clear_value x2
  extract_lets +onlyGivenNames x3
  clear_value x3
  extract_lets +onlyGivenNames x4
  clear_value x4
  extract_lets +onlyGivenNames x5
  have h6 : Kept m s0 x5 := by
    unfold x5
    refine pmc_kept (sub hm) ?_
    refine cnt_kept (sub hm) ?_
    refine fset_kept (sub hm) ?_
    refine showResult_kept (sub hm) ?_
    refine setClaim_kept (sub hm) ?_
    refine setCl_kept (sub hm) ?_
    exact h
  clear_value x5
  extract_lets +onlyGivenNames x7
  clear_value x7
  refine tagging_kept (sub hm) ?_
  refine ite_app_kept (P := fun x => Kept m s0 x) ?_ ?_
  · refine raise_kept (sub hm) ?_
    refine fmax_kept (sub hm) ?_
    refine fset_kept (sub hm) ?_
    exact h6
  · refine id_kept (P := fun x => Kept m s0 x) ?_
    refine fmax_kept (sub hm) ?_
    refine fset_kept (sub hm) ?_
    exact h6

theorem acceptSeal_kept {α : Type} {m : State → α} (hm : ∀ u, m u = m { u with disc := {}, cl := {} })
    {s0 s : State} {a0 a1} (h : Kept m s0 s) :
    Kept m s0 (acceptSeal a0 a1 s) := by
  unfold acceptSeal
  extract_lets +onlyGivenNames x1
  clear_value x1
  refine ite_kept (P := fun x => Kept m s0 x) ?_ ?_
  · refine endNow_kept (sub hm) ?_
    exact h
  · refine ite_kept (P := fun x => Kept m s0 x) ?_ ?_
    · refine endNow_kept (sub hm) ?_
      exact h
    · refine foldl_kept (P := fun x => Kept m s0 x) ?_ ?_
      · intro y2 y3 y4
        refine ite_kept (P := fun x => Kept m s0 x) ?_ ?_
        · refine modCmd_kept (sub hm) ?_
          exact y4
        · refine ite_kept (P := fun x => Kept m s0 x) ?_ ?_
          · refine modCmd_kept (sub hm) ?_
            exact y4
          · refine modCmd_kept (sub hm) ?_
            refine setDisc_kept (sub hm) ?_
            exact y4
      · refine modCmd_kept (sub hm) ?_
        exact h

theorem subframe_kept {α : Type} {m : State → α} (hm : ∀ u, m u = m { u with regs := [], out := [] })
    {s0 s : State} {a0 a2} (h : Kept m s0 s) :
    Kept m s0 (subframe a0 s a2) := by
  unfold subframe
  extract_lets +onlyGivenNames x1
  clear_value x1
  refine ite_kept (P := fun x => Kept m s0 x) ?_ ?_
  · exact h
  · extract_lets +onlyGivenNames x2
    clear_value x2
    extract_lets +onlyGivenNames x3
    clear_value x3
    refine send_kept (sub hm) ?_
    refine cnt_kept (sub hm) ?_
    exact h

theorem setLink_kept {α : Type} {m : State → α} (hm : ∀ u, m u = m { u with links := [] })
    {s0 s : State} {a0 a1} (h : Kept m s0 s) :
    Kept m s0 (setLink a0 a1 s) := by
  unfold setLink
  refine Kept.with hm ?_
  exact h

theorem aclTick_kept {α : Type} {m : State → α} (hm : ∀ u, m u = m { u with regs := [], out := [], links := [] })
    {s0 s : State} {a0} (h : Kept m s0 s) :
    Kept m s0 (aclTick a0 s) := by
  unfold aclTick
  refine ite_kept (P := fun x => Kept m s0 x) ?_ ?_
  · extract_lets +onlyGivenNames x1
    have h2 : Kept m s0 x1 := by
      unfold x1
      refine foldl_kept (P := fun x => Kept m s0 x) ?_ ?_
      · intro y3 y4 y5
        refine subframe_kept (sub hm) ?_
        exact y5
      · exact h
    clear_value x1
    extract_lets +onlyGivenNames x6
    clear_value x6
    refine fset_kept (sub hm) ?_
    refine setLink_kept (sub hm) ?_
    exact h2
  · exact h

theorem setChan_kept {α : Type} {m : State → α} (hm : ∀ u, m u = m { u with chans := [] })
    {s0 s : State} {a0 a1 a2} (h : Kept m s0 s) :
    Kept m s0 (setChan a0 a1 a2 s) := by
  unfold setChan
  refine Kept.with hm ?_
  exact h

theorem showStep_kept {α : Type} {m : State → α} (hm : ∀ u, m u = m { u with regs := [] })
    {s0 s : State} {a0 a1} (h : Kept m s0 s) :
    Kept m s0 (showStep a0 a1 s) := by
  unfold showStep
  extract_lets +onlyGivenNames x1
  clear_value x1
  refine fset_kept (sub hm) ?_
  exact h

theorem loadStep_kept {α : Type} {m : State → α} (hm : ∀ u, m u = m { u with regs := [], chans := [] })
    {s0 s : State} {a0 a1 a2} (h : Kept m s0 s) :
    Kept m s0 (loadStep a0 a1 a2 s) := by
  unfold loadStep
  refine showStep_kept (sub hm) ?_
  refine setChan_kept (sub hm) ?_
  exact h

theorem acquire_kept {α : Type} {m : State → α} (hm : ∀ u, m u = m { u with regs := [], chans := [] })
    {s0 s : State} {a0 a1} (h : Kept m s0 s) :
    Kept m s0 (acquire a0 a1 s) := by
  unfold acquire
  extract_lets +onlyGivenNames x1
  clear_value x1
  extract_lets +onlyGivenNames x2
  have h3 : Kept m s0 x2 := by
    unfold x2
    refine setChan_kept (sub hm) ?_
    exact h
  clear_value x2
  refine ite_kept (P := fun x => Kept m s0 x) ?_ ?_
  · refine loadStep_kept (sub hm) ?_
    exact h3
  · exact h3

theorem newTarget_kept {α : Type} {m : State → α} (hm : ∀ u, m u = m { u with regs := [] })
    {s0 s : State} (h : Kept m s0 s) :
    Kept m s0 (newTarget s) := by
  unfold newTarget
  refine ite_kept (P := fun x => Kept m s0 x) ?_ ?_
  · exact h
  · refine fsetB_kept (sub hm) ?_
    refine fset_kept (sub hm) ?_
    exact h

theorem setSpin_kept {α : Type} {m : State → α} (hm : ∀ u, m u = m { u with spin := {} })
    {s0 s : State} {a0} (h : Kept m s0 s) :
    Kept m s0 (setSpin a0 s) := by
  unfold setSpin
  refine Kept.with hm ?_
  exact h

theorem wantSpeed_kept {α : Type} {m : State → α} (hm : ∀ u, m u = m { u with regs := [], spin := {} })
    {s0 s : State} {a0} (h : Kept m s0 s) :
    Kept m s0 (wantSpeed a0 s) := by
  unfold wantSpeed
  extract_lets +onlyGivenNames x1
  have h2 : Kept m s0 x1 := by
    unfold x1
    refine ite_kept (P := fun x => Kept m s0 x) ?_ ?_
    · refine sticky_kept (sub hm) ?_
      exact h
    · exact h
  clear_value x1
  refine newTarget_kept (sub hm) ?_
  refine setSpin_kept (sub hm) ?_
  exact h2

theorem suspend_kept {α : Type} {m : State → α} (hm : ∀ u, m u = m { u with regs := [], evq := [], out := [], msixPend := 0, recs := [] })
    {s0 s : State} {a0 a1 a2} (h : Kept m s0 s) :
    Kept m s0 (suspend a0 a1 a2 s) := by
  unfold suspend
  refine ite_kept (P := fun x => Kept m s0 x) ?_ ?_
  · refine emit_kept (sub hm) ?_
    refine setRec_kept (sub hm) ?_
    refine raise_kept (sub hm) ?_
    refine cnt_kept (sub hm) ?_
    refine raise_kept (sub hm) ?_
    refine fset_kept (sub hm) ?_
    refine fset_kept (sub hm) ?_
    refine showWriting_kept (sub hm) ?_
    exact h
  · exact h

theorem setPwr_kept {α : Type} {m : State → α} (hm : ∀ u, m u = m { u with pwr := {} })
    {s0 s : State} {a0} (h : Kept m s0 s) :
    Kept m s0 (setPwr a0 s) := by
  unfold setPwr
  refine Kept.with hm ?_
  exact h

theorem beginTrans_kept {α : Type} {m : State → α} (hm : ∀ u, m u = m { u with regs := [], pwr := {} })
    {s0 s : State} {a0} (h : Kept m s0 s) :
    Kept m s0 (beginTrans a0 s) := by
  unfold beginTrans
  refine fset_kept (sub hm) ?_
  refine setPwr_kept (sub hm) ?_
  exact h

theorem activeChange_kept {α : Type} {m : State → α} (hm : ∀ u, m u = m { u with regs := [], evq := [], out := [], msixPend := 0, recs := [], spin := {}, pwr := {} })
    {s0 s : State} (h : Kept m s0 s) :
    Kept m s0 (activeChange s) := by
  unfold activeChange
  extract_lets +onlyGivenNames x1
  clear_value x1
  refine ite_kept (P := fun x => Kept m s0 x) ?_ ?_
  · exact h
  · refine ite_kept (P := fun x => Kept m s0 x) ?_ ?_
    · exact h
    · refine fset_kept (sub hm) ?_
      refine wantSpeed_kept (sub hm) ?_
      refine fset_kept (sub hm) ?_
      refine suspend_kept (sub hm) ?_
      refine suspend_kept (sub hm) ?_
      refine fset_kept (sub hm) ?_
      refine beginTrans_kept (sub hm) ?_
      exact h

theorem fsetI_kept {α : Type} {m : State → α} (hm : ∀ u, m u = m { u with regs := [] })
    {s0 s : State} {a0 a1 a2} (h : Kept m s0 s) :
    Kept m s0 (fsetI a0 a1 a2 s) := by
  unfold fsetI
  refine fset_kept (sub hm) ?_
  exact h

theorem moveTap_kept {α : Type} {m : State → α} (hm : ∀ u, m u = m { u with regs := [] })
    {s0 s : State} {a0 a1 a2 a3} (h : Kept m s0 s) :
    Kept m s0 (moveTap a0 a1 a2 a3 s) := by
  unfold moveTap
  extract_lets +onlyGivenNames x1
  clear_value x1
  extract_lets +onlyGivenNames x2
  clear_value x2
  extract_lets +onlyGivenNames x3
  clear_value x3
  extract_lets +onlyGivenNames x4
  have h5 : Kept m s0 x4 := by
    unfold x4
    refine ite_kept (P := fun x => Kept m s0 x) ?_ ?_
    · refine sticky_kept (sub hm) ?_
      exact h
    · exact h
  clear_value x4
  refine fsetI_kept (sub hm) ?_
  exact h5

theorem adaptTaps_kept {α : Type} {m : State → α} (hm : ∀ u, m u = m { u with regs := [] })
    {s0 s : State} {a0 a1 a2 a3} (h : Kept m s0 s) :
    Kept m s0 (adaptTaps a0 a1 a2 a3 s) := by
  unfold adaptTaps
  extract_lets +onlyGivenNames x1
  clear_value x1
  extract_lets +onlyGivenNames x2
  clear_value x2
  extract_lets +onlyGivenNames x3
  clear_value x3
  extract_lets +onlyGivenNames x4
  clear_value x4
  extract_lets +onlyGivenNames x5
  clear_value x5
  extract_lets +onlyGivenNames x6
  clear_value x6
  extract_lets +onlyGivenNames x7
  clear_value x7
  extract_lets +onlyGivenNames x8
  have h9 : Kept m s0 x8 := by
    unfold x8
    refine foldl_kept (P := fun x => Kept m s0 x) ?_ ?_
    · intro y10 y11 y12
      refine moveTap_kept (sub hm) ?_
      exact y12
    · exact h
  clear_value x8
  extract_lets +onlyGivenNames x13
  have h14 : Kept m s0 x13 := by
    unfold x13
    refine moveTap_kept (sub hm) ?_
    refine moveTap_kept (sub hm) ?_
    exact h9
  clear_value x13
  refine ite_kept (P := fun x => Kept m s0 x) ?_ ?_
  · refine foldl_kept (P := fun x => Kept m s0 x) ?_ ?_
    · intro y15 y16 y17
      extract_lets +onlyGivenNames x18
      clear_value x18
      refine moveTap_kept (sub hm) ?_
      refine moveTap_kept (sub hm) ?_
      exact y17
    · exact h14
  · exact h14

theorem mcState_kept {α : Type} {m : State → α} (hm : ∀ u, m u = m { u with regs := [] })
    {s0 s : State} {a0 a1} (h : Kept m s0 s) :
    Kept m s0 (mcState a0 a1 s) := by
  unfold mcState
  refine fset_kept (sub hm) ?_
  exact h

theorem onTrack_kept {α : Type} {m : State → α} (hm : ∀ u, m u = m { u with regs := [] })
    {s0 s : State} {a0} (h : Kept m s0 s) :
    Kept m s0 (onTrack a0 s) := by
  unfold onTrack
  refine mcState_kept (sub hm) ?_
  exact h

theorem setHead_kept {α : Type} {m : State → α} (hm : ∀ u, m u = m { u with heads := [] })
    {s0 s : State} {a0 a1} (h : Kept m s0 s) :
    Kept m s0 (setHead a0 a1 s) := by
  unfold setHead
  refine Kept.with hm ?_
  exact h

theorem setPort_kept {α : Type} {m : State → α} (hm : ∀ u, m u = m { u with engs := [] })
    {s0 s : State} {a0 a1 a2} (h : Kept m s0 s) :
    Kept m s0 (setPort a0 a1 a2 s) := by
  unfold setPort
  refine setEng_kept (sub hm) ?_
  exact h

theorem showLoop_kept {α : Type} {m : State → α} (hm : ∀ u, m u = m { u with engs := [] })
    {s0 s : State} {a0} (h : Kept m s0 s) :
    Kept m s0 (showLoop a0 s) := by
  unfold showLoop
  refine setPort_kept (sub hm) ?_
  exact h

theorem setPgState_kept {α : Type} {m : State → α} (hm : ∀ u, m u = m { u with regs := [] })
    {s0 s : State} {a0 a1} (h : Kept m s0 s) :
    Kept m s0 (setPgState a0 a1 s) := by
  unfold setPgState
  extract_lets +onlyGivenNames x1
  clear_value x1
  refine fset_kept (sub hm) ?_
  refine fset_kept (sub hm) ?_
  exact h

theorem setPg_kept {α : Type} {m : State → α} (hm : ∀ u, m u = m { u with pgs := [] })
    {s0 s : State} {a0 a1} (h : Kept m s0 s) :
    Kept m s0 (setPg a0 a1 s) := by
  unfold setPg
  refine Kept.with hm ?_
  exact h

theorem latchSeg_kept {α : Type} {m : State → α} (hm : ∀ u, m u = m { u with regs := [], pgs := [] })
    {s0 s : State} {a0 a1} (h : Kept m s0 s) :
    Kept m s0 (latchSeg a0 a1 s) := by
  unfold latchSeg
  extract_lets +onlyGivenNames x1
  clear_value x1
  extract_lets +onlyGivenNames x2
  clear_value x2
  extract_lets +onlyGivenNames x3
  clear_value x3
  extract_lets +onlyGivenNames x4
  clear_value x4
  extract_lets +onlyGivenNames x5
  clear_value x5
  refine fset_kept (sub hm) ?_
  refine setPg_kept (sub hm) ?_
  exact h

theorem pgGo_kept {α : Type} {m : State → α} (hm : ∀ u, m u = m { u with regs := [], pgs := [] })
    {s0 s : State} {a0} (h : Kept m s0 s) :
    Kept m s0 (pgGo a0 s) := by
  unfold pgGo
  extract_lets +onlyGivenNames x1
  clear_value x1
  split
  · rename_i v2 v3 v4 v5 v6
    refine ite_kept (P := fun x => Kept m s0 x) ?_ ?_
    · exact h
    · refine ite_kept (P := fun x => Kept m s0 x) ?_ ?_
      · refine setPgState_kept (sub hm) ?_
        refine latchSeg_kept (sub hm) ?_
        refine setPg_kept (sub hm) ?_
        exact h
      · refine ite_kept (P := fun x => Kept m s0 x) ?_ ?_
        · refine sticky_kept (sub hm) ?_
          exact h
        · extract_lets +onlyGivenNames x7
          clear_value x7
          split
          · rename_i v8 v9 v10 v11 v12
            extract_lets +onlyGivenNames x13
            clear_value x13
            extract_lets +onlyGivenNames x14
            clear_value x14
            refine setPgState_kept (sub hm) ?_
            refine setPg_kept (sub hm) ?_
            exact h

theorem pgSetTarget_kept {α : Type} {m : State → α} (hm : ∀ u, m u = m { u with regs := [] })
    {s0 s : State} {a0 a1} (h : Kept m s0 s) :
    Kept m s0 (pgSetTarget a0 a1 s) := by
  unfold pgSetTarget
  refine ite_kept (P := fun x => Kept m s0 x) ?_ ?_
  · refine sticky_kept (sub hm) ?_
    exact h
  · refine fset_kept (sub hm) ?_
    refine fset_kept (sub hm) ?_
    exact h

theorem moveTo_kept {α : Type} {m : State → α} (hm : ∀ u, m u = m { u with regs := [], pgs := [] })
    {s0 s : State} {a0 a1} (h : Kept m s0 s) :
    Kept m s0 (moveTo a0 a1 s) := by
  unfold moveTo
  refine pgGo_kept (sub hm) ?_
  refine pgSetTarget_kept (sub hm) ?_
  refine fset_kept (sub hm) ?_
  exact h

theorem setPos_kept {α : Type} {m : State → α} (hm : ∀ u, m u = m { u with regs := [] })
    {s0 s : State} {a0 a1} (h : Kept m s0 s) :
    Kept m s0 (setPos a0 a1 s) := by
  unfold setPos
  refine fset_kept (sub hm) ?_
  refine fset_kept (sub hm) ?_
  refine fset_kept (sub hm) ?_
  exact h

theorem posInvalid_kept {α : Type} {m : State → α} (hm : ∀ u, m u = m { u with regs := [], evq := [], out := [], msixPend := 0 })
    {s0 s : State} {a0} (h : Kept m s0 s) :
    Kept m s0 (posInvalid a0 s) := by
  unfold posInvalid
  refine ite_kept (P := fun x => Kept m s0 x) ?_ ?_
  · refine emit_kept (sub hm) ?_
    refine raise_kept (sub hm) ?_
    refine fset_kept (sub hm) ?_
    refine setPos_kept (sub hm) ?_
    exact h
  · exact h

theorem loopState_kept {α : Type} {m : State → α} (hm : ∀ u, m u = m { u with regs := [] })
    {s0 s : State} {a0 a1} (h : Kept m s0 s) :
    Kept m s0 (loopState a0 a1 s) := by
  unfold loopState
  extract_lets +onlyGivenNames x1
  have h2 : Kept m s0 x1 := by
    unfold x1
    refine fset_kept (sub hm) ?_
    exact h
  clear_value x1
  refine ite_kept (P := fun x => Kept m s0 x) ?_ ?_
  · refine fsetB_kept (sub hm) ?_
    exact h2
  · exact h2

theorem setLoop_kept {α : Type} {m : State → α} (hm : ∀ u, m u = m { u with loops := [] })
    {s0 s : State} {a0 a1} (h : Kept m s0 s) :
    Kept m s0 (setLoop a0 a1 s) := by
  unfold setLoop
  refine Kept.with hm ?_
  exact h

theorem setCommon_kept {α : Type} {m : State → α} (hm : ∀ u, m u = m { u with commons := [] })
    {s0 s : State} {a0 a1} (h : Kept m s0 s) :
    Kept m s0 (setCommon a0 a1 s) := by
  unfold setCommon
  refine Kept.with hm ?_
  exact h

theorem dmPut_kept {α : Type} {m : State → α} (hm : ∀ u, m u = m { u with dmem := [] })
    {s0 s : State} {a0 a1 a2} (h : Kept m s0 s) :
    Kept m s0 (dmPut a0 a1 a2 s) := by
  unfold dmPut
  refine Kept.with hm ?_
  exact h

theorem saveSets_kept {α : Type} {m : State → α} (hm : ∀ u, m u = m { u with regs := [], dmem := [] })
    {s0 s : State} {a0 a1} (h : Kept m s0 s) :
    Kept m s0 (saveSets a0 a1 s) := by
  unfold saveSets
  refine ite_kept (P := fun x => Kept m s0 x) ?_ ?_
  · extract_lets +onlyGivenNames x1
    have h2 : Kept m s0 x1 := by
      unfold x1
      refine foldl_kept (P := fun x => Kept m s0 x) ?_ ?_
      · intro y3 y4 y5
        refine dmPut_kept (sub hm) ?_
        exact y5
      · exact h
    clear_value x1
    refine fset_kept (sub hm) ?_
    exact h2
  · exact h

theorem startLayerJump_kept {α : Type} {m : State → α} (hm : ∀ u, m u = m { u with regs := [], evq := [], out := [], msixPend := 0, engs := [], dmem := [], pgs := [], loops := [], heads := [], commons := [] })
    {s0 s : State} {a0 a1 a2} (h : Kept m s0 s) :
    Kept m s0 (startLayerJump a0 a1 a2 s) := by
  unfold startLayerJump
  extract_lets +onlyGivenNames x1
  clear_value x1
  extract_lets +onlyGivenNames x2
  clear_value x2
  extract_lets +onlyGivenNames x3
  clear_value x3
  extract_lets +onlyGivenNames x4
  clear_value x4
  extract_lets +onlyGivenNames x5
  clear_value x5
  refine showLoop_kept (sub hm) ?_
  refine showLoop_kept (sub hm) ?_
  refine mcState_kept (sub hm) ?_
  refine moveTo_kept (sub hm) ?_
  refine fset64_kept (sub hm) ?_
  refine fset64_kept (sub hm) ?_
  refine fset64_kept (sub hm) ?_
  refine posInvalid_kept (sub hm) ?_
  refine fset_kept (sub hm) ?_
  refine loopState_kept (sub hm) ?_
  refine setLoop_kept (sub hm) ?_
  refine fset_kept (sub hm) ?_
  refine loopState_kept (sub hm) ?_
  refine setLoop_kept (sub hm) ?_
  refine fset_kept (sub hm) ?_
  refine setHead_kept (sub hm) ?_
  beta_reduce
  refine setCommon_kept (sub hm) ?_
  refine ite_app_kept (P := fun x => Kept m s0 x) ?_ ?_
  · refine saveSets_kept (sub hm) ?_
    exact h
  · refine id_kept (P := fun x => Kept m s0 x) ?_
    exact h

theorem askLayerJump_kept {α : Type} {m : State → α} (hm : ∀ u, m u = m { u with regs := [], evq := [], out := [], msixPend := 0, engs := [], dmem := [], pgs := [], loops := [], heads := [], commons := [] })
    {s0 s : State} {a0 a1} (h : Kept m s0 s) :
    Kept m s0 (askLayerJump a0 a1 s) := by
  unfold askLayerJump
  extract_lets +onlyGivenNames x1
  clear_value x1
  refine ite_kept (P := fun x => Kept m s0 x) ?_ ?_
  · exact h
  · refine ite_kept (P := fun x => Kept m s0 x) ?_ ?_
    · refine setHead_kept (sub hm) ?_
      exact h
    · refine startLayerJump_kept (sub hm) ?_
      exact h

theorem startRamp_kept {α : Type} {m : State → α} (hm : ∀ u, m u = m { u with loops := [] })
    {s0 s : State} {a0 a1 a2} (h : Kept m s0 s) :
    Kept m s0 (startRamp a0 a1 a2 s) := by
  unfold startRamp
  refine setLoop_kept (sub hm) ?_
  exact h

theorem dropTracking_kept {α : Type} {m : State → α} (hm : ∀ u, m u = m { u with loops := [] })
    {s0 s : State} {a0 a1} (h : Kept m s0 s) :
    Kept m s0 (dropTracking a0 a1 s) := by
  unfold dropTracking
  refine startRamp_kept (sub hm) ?_
  exact h

theorem coarseMove_kept {α : Type} {m : State → α} (hm : ∀ u, m u = m { u with regs := [], evq := [], out := [], msixPend := 0, pgs := [], loops := [], heads := [] })
    {s0 s : State} {a0 a1} (h : Kept m s0 s) :
    Kept m s0 (coarseMove a0 a1 s) := by
  unfold coarseMove
  extract_lets +onlyGivenNames x1
  clear_value x1
  refine moveTo_kept (sub hm) ?_
  refine mcState_kept (sub hm) ?_
  refine posInvalid_kept (sub hm) ?_
  refine dropTracking_kept (sub hm) ?_
  refine fset_kept (sub hm) ?_
  refine loopState_kept (sub hm) ?_
  refine setHead_kept (sub hm) ?_
  exact h

theorem raiseMc_kept {α : Type} {m : State → α} (hm : ∀ u, m u = m { u with regs := [], out := [], msixPend := 0 })
    {s0 s : State} {a0} (h : Kept m s0 s) :
    Kept m s0 (raiseMc a0 s) := by
  unfold raiseMc
  refine intEdge_kept (sub hm) ?_
  refine fset_kept (sub hm) ?_
  exact h

theorem headCnt_kept {α : Type} {m : State → α} (hm : ∀ u, m u = m { u with regs := [] })
    {s0 s : State} {a0 a1} (h : Kept m s0 s) :
    Kept m s0 (headCnt a0 a1 s) := by
  unfold headCnt
  extract_lets +onlyGivenNames x1
  extract_lets +onlyGivenNames x2
  refine ite_kept (P := fun x => Kept m s0 x) ?_ ?_
  · refine fset_kept (sub hm) ?_
    exact h
  · refine sticky_kept (sub hm) ?_
    exact h

theorem seekFail_kept {α : Type} {m : State → α} (hm : ∀ u, m u = m { u with regs := [], evq := [], out := [], msixPend := 0, heads := [] })
    {s0 s : State} {a0} (h : Kept m s0 s) :
    Kept m s0 (seekFail a0 s) := by
  unfold seekFail
  split
  · rename_i v1 v2
    exact h
  · rename_i v3 v4 v5
    refine onTrack_kept (sub hm) ?_
    refine emit_kept (sub hm) ?_
    refine raiseMc_kept (sub hm) ?_
    refine headCnt_kept (sub hm) ?_
    refine setHead_kept (sub hm) ?_
    exact h

theorem seekDone_kept {α : Type} {m : State → α} (hm : ∀ u, m u = m { u with regs := [], out := [], msixPend := 0, heads := [] })
    {s0 s : State} {a0} (h : Kept m s0 s) :
    Kept m s0 (seekDone a0 s) := by
  unfold seekDone
  split
  · rename_i v1 v2
    exact h
  · rename_i v3 v4 v5
    extract_lets +onlyGivenNames x6
    clear_value x6
    extract_lets +onlyGivenNames x7
    clear_value x7
    extract_lets +onlyGivenNames x8
    clear_value x8
    extract_lets +onlyGivenNames x9
    clear_value x9
    extract_lets +onlyGivenNames x10
    have h11 : Kept m s0 x10 := by
      unfold x10
      refine setHead_kept (sub hm) ?_
      exact h
    clear_value x10
    refine ite_kept (P := fun x => Kept m s0 x) ?_ ?_
    · exact h11
    · refine ite_app_kept (P := fun x => Kept m s0 x) ?_ ?_
      · refine fset_kept (sub hm) ?_
        refine raiseMc_kept (sub hm) ?_
        refine headCnt_kept (sub hm) ?_
        exact h11
      · refine id_kept (P := fun x => Kept m s0 x) ?_
        refine raiseMc_kept (sub hm) ?_
        refine headCnt_kept (sub hm) ?_
        exact h11

theorem fclr_kept {α : Type} {m : State → α} (hm : ∀ u, m u = m { u with regs := [] })
    {s0 s : State} {a0 a1} (h : Kept m s0 s) :
    Kept m s0 (fclr a0 a1 s) :=
  h.trans ⟨view_eq hm, rfl, List.prefix_refl _, le_refl _, .refl _, fun hs => Store.sorted_erase _ _ hs⟩

theorem fclrs_kept {α : Type} {m : State → α} (hm : ∀ u, m u = m { u with regs := [] })
    {s0 s : State} {a0 a1} (h : Kept m s0 s) :
    Kept m s0 (fclrs a0 a1 s) := by
  unfold fclrs
  refine foldl_kept (P := fun x => Kept m s0 x) ?_ ?_
  · intro y1 y2 y3
    refine fclr_kept (sub hm) ?_
    exact y3
  · exact h

theorem resetLimits_kept {α : Type} {m : State → α} (hm : ∀ u, m u = m { u with regs := [] })
    {s0 s : State} {a0} (h : Kept m s0 s) :
    Kept m s0 (resetLimits a0 s) := by
  unfold resetLimits
  refine fclrs_kept (sub hm) ?_
  exact h

theorem lensMove_kept {α : Type} {m : State → α} (hm : ∀ u, m u = m { u with regs := [], pgs := [] })
    {s0 s : State} {a0 a1} (h : Kept m s0 s) :
    Kept m s0 (lensMove a0 a1 s) := by
  unfold lensMove
  refine moveTo_kept (sub hm) ?_
  refine resetLimits_kept (sub hm) ?_
  exact h

theorem fineMove_kept {α : Type} {m : State → α} (hm : ∀ u, m u = m { u with regs := [], evq := [], out := [], msixPend := 0, pgs := [], loops := [], heads := [] })
    {s0 s : State} {a0 a1 a2} (h : Kept m s0 s) :
    Kept m s0 (fineMove a0 a1 a2 s) := by
  unfold fineMove
  refine lensMove_kept (sub hm) ?_
  refine mcState_kept (sub hm) ?_
  refine posInvalid_kept (sub hm) ?_
  refine fset_kept (sub hm) ?_
  refine setLoop_kept (sub hm) ?_
  refine loopState_kept (sub hm) ?_
  refine setHead_kept (sub hm) ?_
  exact h

theorem seekDecide_kept {α : Type} {m : State → α} (hm : ∀ u, m u = m { u with regs := [], evq := [], out := [], msixPend := 0, engs := [], dmem := [], pgs := [], loops := [], heads := [], commons := [] })
    {s0 s : State} {a0} (h : Kept m s0 s) :
    Kept m s0 (seekDecide a0 s) := by
  unfold seekDecide
  split
  · rename_i v1 v2
    exact h
  · rename_i v3 v4 v5
    refine ite_kept (P := fun x => Kept m s0 x) ?_ ?_
    · exact h
    · extract_lets +onlyGivenNames x6
      clear_value x6
      extract_lets +onlyGivenNames x7
      clear_value x7
      refine ite_kept (P := fun x => Kept m s0 x) ?_ ?_
      · refine askLayerJump_kept (sub hm) ?_
        refine setHead_kept (sub hm) ?_
        exact h
      · refine ite_kept (P := fun x => Kept m s0 x) ?_ ?_
        · refine ite_kept (P := fun x => Kept m s0 x) ?_ ?_
          · exact h
          · refine ite_kept (P := fun x => Kept m s0 x) ?_ ?_
            · refine coarseMove_kept (sub hm) ?_
              exact h
            · refine seekFail_kept (sub hm) ?_
              exact h
        · refine ite_kept (P := fun x => Kept m s0 x) ?_ ?_
          · refine onTrack_kept (sub hm) ?_
            refine seekDone_kept (sub hm) ?_
            exact h
          · refine ite_kept (P := fun x => Kept m s0 x) ?_ ?_
            · refine ite_kept (P := fun x => Kept m s0 x) ?_ ?_
              · refine fineMove_kept (sub hm) ?_
                exact h
              · refine seekFail_kept (sub hm) ?_
                exact h
            · refine mcState_kept (sub hm) ?_
              refine setHead_kept (sub hm) ?_
              exact h

theorem layerJumpOver_kept {α : Type} {m : State → α} (hm : ∀ u, m u = m { u with regs := [], evq := [], out := [], msixPend := 0, heads := [] })
    {s0 s : State} {a0 a1} (h : Kept m s0 s) :
    Kept m s0 (layerJumpOver a0 a1 s) := by
  unfold layerJumpOver
  extract_lets +onlyGivenNames x1
  clear_value x1
  extract_lets +onlyGivenNames x2
  have h3 : Kept m s0 x2 := by
    unfold x2
    refine setHead_kept (sub hm) ?_
    exact h
  clear_value x2
  split
  · rename_i v4 v5 v6
    refine seekFail_kept (sub hm) ?_
    exact h3
  · rename_i v7 v8
    refine onTrack_kept (sub hm) ?_
    refine emit_kept (sub hm) ?_
    refine headCnt_kept (sub hm) ?_
    refine raiseMc_kept (sub hm) ?_
    exact h3

theorem retract_kept {α : Type} {m : State → α} (hm : ∀ u, m u = m { u with loops := [] })
    {s0 s : State} {a0} (h : Kept m s0 s) :
    Kept m s0 (retract a0 s) := by
  unfold retract
  refine startRamp_kept (sub hm) ?_
  exact h

theorem killHead_kept {α : Type} {m : State → α} (hm : ∀ u, m u = m { u with regs := [], out := [], msixPend := 0, links := [] })
    {s0 s : State} {a0} (h : Kept m s0 s) :
    Kept m s0 (killHead a0 s) := by
  unfold killHead
  refine setLink_kept (sub hm) ?_
  refine cnt_kept (sub hm) ?_
  refine raise_kept (sub hm) ?_
  refine fset_kept (sub hm) ?_
  refine fset_kept (sub hm) ?_
  refine fset_kept (sub hm) ?_
  exact h

theorem tripHeadAs_kept {α : Type} {m : State → α} (hm : ∀ u, m u = m { u with regs := [], evq := [], out := [], msixPend := 0, links := [], recs := [] })
    {s0 s : State} {a0 a1} (h : Kept m s0 s) :
    Kept m s0 (tripHeadAs a0 a1 s) := by
  unfold tripHeadAs
  refine killHead_kept (sub hm) ?_
  refine abruptStop_kept (sub hm) ?_
  exact h

theorem tripHead_kept {α : Type} {m : State → α} (hm : ∀ u, m u = m { u with regs := [], evq := [], out := [], msixPend := 0, links := [], recs := [] })
    {s0 s : State} {a0} (h : Kept m s0 s) :
    Kept m s0 (tripHead a0 s) := by
  unfold tripHead
  refine tripHeadAs_kept (sub hm) ?_
  exact h

theorem tripIfWriting_kept {α : Type} {m : State → α} (hm : ∀ u, m u = m { u with regs := [], evq := [], out := [], msixPend := 0, links := [], recs := [] })
    {s0 s : State} {a0} (h : Kept m s0 s) :
    Kept m s0 (tripIfWriting a0 s) := by
  unfold tripIfWriting
  refine ite_kept (P := fun x => Kept m s0 x) ?_ ?_
  · refine tripHead_kept (sub hm) ?_
    exact h
  · exact h

theorem focusLost_kept {α : Type} {m : State → α} (hm : ∀ u, m u = m { u with regs := [], evq := [], out := [], msixPend := 0, links := [], recs := [], engs := [], loops := [], heads := [] })
    {s0 s : State} {a0 a1} (h : Kept m s0 s) :
    Kept m s0 (focusLost a0 a1 s) := by
  unfold focusLost
  extract_lets +onlyGivenNames x1
  clear_value x1
  refine ite_kept (P := fun x => Kept m s0 x) ?_ ?_
  · refine showLoop_kept (sub hm) ?_
    refine showLoop_kept (sub hm) ?_
    refine mcState_kept (sub hm) ?_
    beta_reduce
    refine setHead_kept (sub hm) ?_
    refine dropTracking_kept (sub hm) ?_
    refine retract_kept (sub hm) ?_
    refine fset_kept (sub hm) ?_
    refine fset_kept (sub hm) ?_
    refine loopState_kept (sub hm) ?_
    refine loopState_kept (sub hm) ?_
    refine cnt_kept (sub hm) ?_
    refine tripIfWriting_kept (sub hm) ?_
    refine emit_kept (sub hm) ?_
    exact h
  · exact h

theorem layerJumpFail_kept {α : Type} {m : State → α} (hm : ∀ u, m u = m { u with regs := [], evq := [], out := [], msixPend := 0, links := [], recs := [], engs := [], dmem := [], pgs := [], loops := [], heads := [], commons := [] })
    {s0 s : State} {a0 a1 a2} (h : Kept m s0 s) :
    Kept m s0 (layerJumpFail a0 a1 a2 s) := by
  unfold layerJumpFail
  split
  · rename_i v1 v2
    exact h
  · rename_i v3 v4 v5
    extract_lets +onlyGivenNames x6
    have h7 : Kept m s0 x6 := by
      unfold x6
      refine emit_kept (sub hm) ?_
      refine raiseMc_kept (sub hm) ?_
      exact h
    clear_value x6
    extract_lets +onlyGivenNames x8
    clear_value x8
    refine ite_kept (P := fun x => Kept m s0 x) ?_ ?_
    · extract_lets +onlyGivenNames x9
      have h10 : Kept m s0 x9 := by
        unfold x9
        refine setPos_kept (sub hm) ?_
        exact h7
      clear_value x9
      refine ite_kept (P := fun x => Kept m s0 x) ?_ ?_
      · refine startLayerJump_kept (sub hm) ?_
        exact h10
      · refine layerJumpOver_kept (sub hm) ?_
        exact h10
    · extract_lets +onlyGivenNames x11
      have h12 : Kept m s0 x11 := by
        unfold x11
        refine fset_kept (sub hm) ?_
        exact h7
      clear_value x11
      extract_lets +onlyGivenNames x13
      have h14 : Kept m s0 x13 := by
        unfold x13
        refine focusLost_kept (sub hm) ?_
        exact h12
      clear_value x13
      refine ite_kept (P := fun x => Kept m s0 x) ?_ ?_
      · refine setHead_kept (sub hm) ?_
        exact h14
      · refine layerJumpOver_kept (sub hm) ?_
        exact h14

theorem addressConfirmed_kept {α : Type} {m : State → α} (hm : ∀ u, m u = m { u with regs := [], evq := [], out := [], msixPend := 0, links := [], recs := [], engs := [], dmem := [], pgs := [], loops := [], heads := [], commons := [] })
    {s0 s : State} {a0} (h : Kept m s0 s) :
    Kept m s0 (addressConfirmed a0 s) := by
  unfold addressConfirmed
  extract_lets +onlyGivenNames x1
  clear_value x1
  extract_lets +onlyGivenNames x2
  clear_value x2
  split
  · rename_i v3 v4 v5
    refine ite_kept (P := fun x => Kept m s0 x) ?_ ?_
    · exact h
    · refine ite_kept (P := fun x => Kept m s0 x) ?_ ?_
      · extract_lets +onlyGivenNames x6
        clear_value x6
        extract_lets +onlyGivenNames x7
        have h8 : Kept m s0 x7 := by
          unfold x7
          refine onTrack_kept (sub hm) ?_
          refine fset_kept (sub hm) ?_
          refine setHead_kept (sub hm) ?_
          exact h
        clear_value x7
        split
        · rename_i v9 v10 v11
          refine seekDecide_kept (sub hm) ?_
          refine setHead_kept (sub hm) ?_
          exact h8
        · rename_i v12 v13
          exact h8
      · refine layerJumpFail_kept (sub hm) ?_
        exact h
  · rename_i v14 v15
    split
    · rename_i v16 v17 v18
      refine seekDecide_kept (sub hm) ?_
      exact h
    · rename_i v19 v20
      refine ite_kept (P := fun x => Kept m s0 x) ?_ ?_
      · refine askLayerJump_kept (sub hm) ?_
        exact h
      · refine ite_kept (P := fun x => Kept m s0 x) ?_ ?_
        · refine onTrack_kept (sub hm) ?_
          exact h
        · exact h

theorem enforce_kept {α : Type} {m : State → α} (hm : ∀ u, m u = m { u with regs := [] })
    {s0 s : State} {a0} (h : Kept m s0 s) :
    Kept m s0 (enforce a0 s) := by
  unfold enforce
  refine fsetB_kept (sub hm) ?_
  refine fsetB_kept (sub hm) ?_
  refine fsetB_kept (sub hm) ?_
  exact h

theorem withhold_kept {α : Type} {m : State → α} (hm : ∀ u, m u = m { u with regs := [], evq := [] })
    {s0 s : State} {a0} (h : Kept m s0 s) :
    Kept m s0 (withhold a0 s) := by
  unfold withhold
  beta_reduce
  refine emit_kept (sub hm) ?_
  refine fset_kept (sub hm) ?_
  exact h

theorem setVault_kept {α : Type} {m : State → α} (hm : ∀ u, m u = m { u with vault := {} })
    {s0 s : State} {a0} (h : Kept m s0 s) :
    Kept m s0 (setVault a0 s) := by
  unfold setVault
  refine Kept.with hm ?_
  exact h

theorem loadKey_kept {α : Type} {m : State → α} (hm : ∀ u, m u = m { u with regs := [], evq := [], vault := {} })
    {s0 s : State} {a0 a1 a2} (h : Kept m s0 s) :
    Kept m s0 (loadKey a0 a1 a2 s) := by
  unfold loadKey
  beta_reduce
  refine emit_kept (sub hm) ?_
  refine cnt_kept (sub hm) ?_
  refine fset_kept (sub hm) ?_
  refine fset_kept (sub hm) ?_
  refine fset_kept (sub hm) ?_
  refine fset_kept (sub hm) ?_
  refine setVault_kept (sub hm) ?_
  exact h

theorem keyDecision_kept {α : Type} {m : State → α} (hm : ∀ u, m u = m { u with regs := [], evq := [], vault := {} })
    {s0 s : State} (h : Kept m s0 s) :
    Kept m s0 (keyDecision s) := by
  unfold keyDecision
  split
  · rename_i v1 v2
    exact h
  · rename_i v3 v4 v5
    refine ite_kept (P := fun x => Kept m s0 x) ?_ ?_
    · refine enforce_kept (sub hm) ?_
      exact h
    · extract_lets +onlyGivenNames x6
      have h7 : Kept m s0 x6 := by
        unfold x6
        refine enforce_kept (sub hm) ?_
        exact h
      clear_value x6
      refine ite_kept (P := fun x => Kept m s0 x) ?_ ?_
      · refine withhold_kept (sub hm) ?_
        exact h7
      · split
        · rename_i v8 v9 v10 v11
          refine withhold_kept (sub hm) ?_
          exact h7
        · rename_i v12 v13 v14
          refine ite_kept (P := fun x => Kept m s0 x) ?_ ?_
          · refine loadKey_kept (sub hm) ?_
            exact h7
          · refine withhold_kept (sub hm) ?_
            exact h7

theorem showDescr_kept {α : Type} {m : State → α} (hm : ∀ u, m u = m { u with regs := [] })
    {s0 s : State} (h : Kept m s0 s) :
    Kept m s0 (showDescr s) := by
  unfold showDescr
  split
  · rename_i v1 v2 v3 v4
    refine foldl_kept (P := fun x => Kept m s0 x) ?_ ?_
    · intro y5 y6 y7
      refine fset_kept (sub hm) ?_
      exact y7
    · refine fset_kept (sub hm) ?_
      exact h

theorem adoptDescr_kept {α : Type} {m : State → α} (hm : ∀ u, m u = m { u with regs := [], evq := [], disc := {}, vault := {} })
    {s0 s : State} {a0} (h : Kept m s0 s) :
    Kept m s0 (adoptDescr a0 s) := by
  unfold adoptDescr
  refine keyDecision_kept (sub hm) ?_
  refine emit_kept (sub hm) ?_
  refine showDescr_kept (sub hm) ?_
  refine setDisc_kept (sub hm) ?_
  refine setVault_kept (sub hm) ?_
  exact h

theorem goto_kept {α : Type} {m : State → α} (hm : ∀ u, m u = m { u with regs := [] })
    {s0 s : State} {a0 a1} (h : Kept m s0 s) :
    KeptE m s0 (goto a0 a1 s) := by
  unfold goto
  extract_lets +onlyGivenNames x1
  clear_value x1
  refine ite_kept (P := fun x => KeptE m s0 x) ?_ ?_
  · exact KeptE.error
  · refine KeptE.ok ?_
    refine fset_kept (sub hm) ?_
    exact h

theorem advance_kept {α : Type} {m : State → α} (hm : ∀ u, m u = m { u with regs := [] })
    {s0 s : State} {a0} (h : Kept m s0 s) :
    KeptE m s0 (advance a0 s) := by
  unfold advance
  refine goto_kept (sub hm) ?_
  exact h

theorem resState_kept {α : Type} {m : State → α}
    {s0 s : State} {a0} (hf0 : KeptR m s0 a0) (h : Kept m s0 s) :
    Kept m s0 (resState a0 s) := by
  unfold resState
  split
  · rename_i v1 v2
    exact hf0 _ rfl
  · rename_i v3 v4
    exact h

theorem after_kept {α : Type} {m : State → α}
    {s0 s : State} {a0} (hf0 : KeptR m s0 a0) (h : Kept m s0 s) :
    Kept m s0 (after a0 s) := by
  unfold after
  refine resState_kept ?_ ?_
  · exact hf0
  · exact h

theorem clampPower_kept {α : Type} {m : State → α} (hm : ∀ u, m u = m { u with regs := [] })
    {s0 s : State} {a0 a1} (h : Kept m s0 s) :
    Kept m s0 (clampPower a0 a1 s).2 := by
  unfold clampPower
  extract_lets +onlyGivenNames x1
  clear_value x1
  extract_lets +onlyGivenNames x2
  clear_value x2
  extract_lets +onlyGivenNames x3
  clear_value x3
  refine ite_kept (P := fun (x : _ × _) => Kept m s0 x.2) ?_ ?_
  · refine snd_kept (P := fun x => Kept m s0 x) ?_
    refine sticky_kept (sub hm) ?_
    refine cnt_kept (sub hm) ?_
    exact h
  · refine snd_kept (P := fun x => Kept m s0 x) ?_
    exact h

theorem sendMsg_kept {α : Type} {m : State → α} (hm : ∀ u, m u = m { u with regs := [], out := [], links := [] })
    {s0 s : State} {a0 a1 a2 a3} (h : Kept m s0 s) :
    Kept m s0 (sendMsg a0 a1 a2 a3 s) := by
  unfold sendMsg
  split
  · rename_i v1 v2 v3 v4
    have h5 : Kept m s0 ((v2, v3)).2 := by
      rw [← v4]
      refine ite_kept (P := fun (x : _ × _) => Kept m s0 x.2) ?_ ?_
      · refine clampPower_kept (sub hm) ?_
        exact h
      · refine snd_kept (P := fun x => Kept m s0 x) ?_
        exact h
    extract_lets +onlyGivenNames x6
    clear_value x6
    refine send_kept (sub hm) ?_
    beta_reduce
    refine ite_kept (P := fun x => Kept m s0 x) ?_ ?_
    · refine fset_kept (sub hm) ?_
      refine setLink_kept (sub hm) ?_
      exact h5
    · refine setLink_kept (sub hm) ?_
      exact h5

theorem groupState_kept {α : Type} {m : State → α} (hm : ∀ u, m u = m { u with regs := [] })
    {s0 s : State} {a0 a1} (h : Kept m s0 s) :
    Kept m s0 (groupState a0 a1 s) := by
  unfold groupState
  refine fset_kept (sub hm) ?_
  refine fset_kept (sub hm) ?_
  refine fset_kept (sub hm) ?_
  exact h

theorem alignLock_kept {α : Type} {m : State → α} (hm : ∀ u, m u = m { u with regs := [], out := [], links := [] })
    {s0 s : State} {a0} (h : Kept m s0 s) :
    Kept m s0 (alignLock a0 s) := by
  unfold alignLock
  extract_lets +onlyGivenNames x1
  clear_value x1
  refine ite_kept (P := fun x => Kept m s0 x) ?_ ?_
  · refine sendMsg_kept (sub hm) ?_
    refine groupState_kept (sub hm) ?_
    exact h
  · exact h

theorem touch_kept {α : Type} {m : State → α} (hm : ∀ u, m u = m { u with mem := {} })
    {s0 s : State} {a0} (h : Kept m s0 s) :
    Kept m s0 (touch a0 s) := by
  unfold touch
  refine setMem_kept (sub hm) ?_
  exact h

theorem poisonHit_kept {α : Type} {m : State → α} (hm : ∀ u, m u = m { u with regs := [], out := [], msixPend := 0 })
    {s0 s : State} {a0} (h : Kept m s0 s) :
    Kept m s0 (poisonHit a0 s) := by
  unfold poisonHit
  refine send_kept (sub hm) ?_
  refine raise_kept (sub hm) ?_
  refine cnt_kept (sub hm) ?_
  exact h

theorem serve_kept {α : Type} {m : State → α} (hm : ∀ u, m u = m { u with regs := [], out := [], msixPend := 0, mem := {} })
    {s0 s : State} {a0 a1 a2} (h : Kept m s0 s) :
    Kept m s0 (serve a0 a1 a2 s) := by
  unfold serve
  split
  · rename_i v1 v2 v3
    refine touch_kept (sub hm) ?_
    refine putLine_kept (sub hm) ?_
    exact h
  · rename_i v4 v5
    extract_lets +onlyGivenNames x6
    have h7 : Kept m s0 x6 := by
      unfold x6
      refine touch_kept (sub hm) ?_
      exact h
    clear_value x6
    refine ite_kept (P := fun x => Kept m s0 x) ?_ ?_
    · refine poisonHit_kept (sub hm) ?_
      exact h7
    · refine send_kept (sub hm) ?_
      exact h7

theorem waitReq_kept {α : Type} {m : State → α} (hm : ∀ u, m u = m { u with mem := {} })
    {s0 s : State} {a0} (h : Kept m s0 s) :
    Kept m s0 (waitReq a0 s) := by
  unfold waitReq
  refine setMem_kept (sub hm) ?_
  exact h

theorem allot_kept {α : Type} {m : State → α} (hm : ∀ u, m u = m { u with regs := [], out := [], msixPend := 0, mem := {} })
    {s0 s : State} {a0 a1} (h : Kept m s0 s) :
    Kept m s0 (allot a0 a1 s) := by
  unfold allot
  extract_lets +onlyGivenNames x1
  clear_value x1
  refine ite_kept (P := fun x => Kept m s0 x) ?_ ?_
  · refine serve_kept (sub hm) ?_
    refine cnt_kept (sub hm) ?_
    exact h
  · refine waitReq_kept (sub hm) ?_
    refine putLine_kept (sub hm) ?_
    exact h

theorem aluWord_kept {α : Type} {m : State → α} (hm : ∀ u, m u = m { u with regs := [], engs := [] })
    {s0 s : State} {a0 a1 a2 a3 a4 a5} (h : Kept m s0 s) :
    KeptE m s0 (aluWord a0 a1 a2 a3 a4 a5 s) := by
  unfold aluWord
  extract_lets +onlyGivenNames x1
  clear_value x1
  extract_lets +onlyGivenNames x2
  clear_value x2
  refine advance_kept (sub hm) ?_
  refine satFlag_kept (sub hm) ?_
  refine setRegs_kept (sub hm) ?_
  exact h

theorem angleValid_kept {α : Type} {m : State → α} (hm : ∀ u, m u = m { u with regs := [] })
    {s0 s : State} {a0} (h : Kept m s0 s) :
    Kept m s0 (angleValid a0 s) := by
  unfold angleValid
  refine fsetB_kept (sub hm) ?_
  refine fsetB_kept (sub hm) ?_
  exact h

theorem fault_kept {α : Type} {m : State → α} (hm : ∀ u, m u = m { u with regs := [] })
    {s0 s : State} {a0 a1} (h : Kept m s0 s) :
    Kept m s0 (fault a0 a1 s) := by
  unfold fault
  refine fset_kept (sub hm) ?_
  exact h

theorem groupFault_kept {α : Type} {m : State → α} (hm : ∀ u, m u = m { u with regs := [] })
    {s0 s : State} {a0 a1} (h : Kept m s0 s) :
    Kept m s0 (groupFault a0 a1 s) := by
  unfold groupFault
  refine fault_kept (sub hm) ?_
  refine fault_kept (sub hm) ?_
  refine fault_kept (sub hm) ?_
  refine groupState_kept (sub hm) ?_
  exact h

theorem groupUp_kept {α : Type} {m : State → α} (hm : ∀ u, m u = m { u with regs := [], evq := [], out := [], msixPend := 0, heads := [] })
    {s0 s : State} {a0} (h : Kept m s0 s) :
    Kept m s0 (groupUp a0 s) := by
  unfold groupUp
  extract_lets +onlyGivenNames x1
  clear_value x1
  extract_lets +onlyGivenNames x2
  clear_value x2
  refine emit_kept (sub hm) ?_
  refine emit_kept (sub hm) ?_
  refine emit_kept (sub hm) ?_
  refine setHead_kept (sub hm) ?_
  refine raise_kept (sub hm) ?_
  refine raise_kept (sub hm) ?_
  refine raise_kept (sub hm) ?_
  refine groupState_kept (sub hm) ?_
  exact h

theorem capsReply_kept {α : Type} {m : State → α} (hm : ∀ u, m u = m { u with regs := [], evq := [], out := [], msixPend := 0, heads := [] })
    {s0 s : State} {a0 a1} (h : Kept m s0 s) :
    Kept m s0 (capsReply a0 a1 s) := by
  unfold capsReply
  extract_lets +onlyGivenNames x1
  clear_value x1
  extract_lets +onlyGivenNames x2
  clear_value x2
  extract_lets +onlyGivenNames x3
  clear_value x3
  extract_lets +onlyGivenNames x4
  have h5 : Kept m s0 x4 := by
    unfold x4
    refine fset_kept (sub hm) ?_
    refine fset_kept (sub hm) ?_
    exact h
  clear_value x4
  extract_lets +onlyGivenNames x6
  clear_value x6
  refine ite_kept (P := fun x => Kept m s0 x) ?_ ?_
  · exact h5
  · refine ite_kept (P := fun x => Kept m s0 x) ?_ ?_
    · refine emit_kept (sub hm) ?_
      refine setHead_kept (sub hm) ?_
      refine groupFault_kept (sub hm) ?_
      exact h5
    · refine groupUp_kept (sub hm) ?_
      exact h5

theorem powerDone_kept {α : Type} {m : State → α} (hm : ∀ u, m u = m { u with regs := [], links := [], recs := [] })
    {s0 s : State} {a0 a1} (h : Kept m s0 s) :
    Kept m s0 (powerDone a0 a1 s) := by
  unfold powerDone
  extract_lets +onlyGivenNames x1
  clear_value x1
  extract_lets +onlyGivenNames x2
  clear_value x2
  extract_lets +onlyGivenNames x3
  clear_value x3
  refine fsetB_kept (sub hm) ?_
  refine setRec_kept (sub hm) ?_
  refine setLink_kept (sub hm) ?_
  exact h

theorem powerRefused_kept {α : Type} {m : State → α} (hm : ∀ u, m u = m { u with regs := [], evq := [], out := [], msixPend := 0, recs := [] })
    {s0 s : State} {a0 a1} (h : Kept m s0 s) :
    Kept m s0 (powerRefused a0 a1 s) := by
  unfold powerRefused
  refine emit_kept (sub hm) ?_
  refine setRec_kept (sub hm) ?_
  refine fault_kept (sub hm) ?_
  refine raise_kept (sub hm) ?_
  exact h

theorem answered_kept {α : Type} {m : State → α} (hm : ∀ u, m u = m { u with regs := [], evq := [], out := [], msixPend := 0, links := [], recs := [], heads := [] })
    {s0 s : State} {a0 a1 a2 a3} (h : Kept m s0 s) :
    Kept m s0 (answered a0 a1 a2 a3 s) := by
  unfold answered
  refine ite_kept (P := fun x => Kept m s0 x) ?_ ?_
  · refine ite_kept (P := fun x => Kept m s0 x) ?_ ?_
    · refine capsReply_kept (sub hm) ?_
      exact h
    · exact h
  · refine ite_kept (P := fun x => Kept m s0 x) ?_ ?_
    · refine ite_kept (P := fun x => Kept m s0 x) ?_ ?_
      · refine powerDone_kept (sub hm) ?_
        exact h
      · refine powerRefused_kept (sub hm) ?_
        exact h
    · refine ite_kept (P := fun x => Kept m s0 x) ?_ ?_
      · refine setLink_kept (sub hm) ?_
        exact h
      · exact h

theorem appendReq_kept {α : Type} {m : State → α} (hm : ∀ u, m u = m { u with regs := [], cl := {} })
    {s0 s : State} {a0} (h : Kept m s0 s) :
    Kept m s0 (appendReq a0 s) := by
  unfold appendReq
  refine showPool_kept (sub hm) ?_
  refine modCmd_kept (sub hm) ?_
  refine setCl_kept (sub hm) ?_
  exact h

end Sys2Proof.Machine
end

