-- ==== Sys2Proof/Laws/KeptB.lean ====
section
/-!
SUPPORT. What the operations change and what they keep, part B.
-/
set_option Elab.async false

namespace Sys2Proof.Machine

theorem enginesH_kept {α : Type} {m : State → α} (hm : ∀ u, m u = m { u with regs := [] })
    {s0 s : State} {a0 a1} (h : Kept m s0 s) :
    Kept m s0 (enginesH a0 a1 s) := by
  unfold enginesH
  refine foldl_kept (P := fun x => Kept m s0 x) ?_ ?_
  · intro y1 y2 y3
    refine fsetB_kept (sub hm) ?_
    exact y3
  · exact h

theorem showHolding_kept {α : Type} {m : State → α} (hm : ∀ u, m u = m { u with regs := [] })
    {s0 s : State} {a0} (h : Kept m s0 s) :
    Kept m s0 (showHolding a0 s) := by
  unfold showHolding
  refine foldl_kept (P := fun x => Kept m s0 x) ?_ ?_
  · intro y1 y2 y3
    refine fsetB_kept (sub hm) ?_
    exact y3
  · exact h

theorem dropH_kept {α : Type} {m : State → α} (hm : ∀ u, m u = m { u with regs := [], chans := [] })
    {s0 s : State} {a0} (h : Kept m s0 s) :
    Kept m s0 (dropH a0 s) := by
  unfold dropH
  extract_lets +onlyGivenNames x1
  have h2 : Kept m s0 x1 := by
    unfold x1
    refine enginesH_kept (sub hm) ?_
    refine fset_kept (sub hm) ?_
    exact h
  clear_value x1
  refine showHolding_kept (sub hm) ?_
  refine foldl_kept (P := fun x => Kept m s0 x) ?_ ?_
  · intro y3 y4 y5
    refine setChan_kept (sub hm) ?_
    exact y5
  · exact h2

theorem endDefects_kept {α : Type} {m : State → α} (hm : ∀ u, m u = m { u with regs := [], out := [], msixPend := 0, chans := [], commons := [] })
    {s0 s : State} {a0} (h : Kept m s0 s) :
    Kept m s0 (endDefects a0 s) := by
  unfold endDefects
  extract_lets +onlyGivenNames x1
  clear_value x1
  extract_lets +onlyGivenNames x2
  have h3 : Kept m s0 x2 := by
    unfold x2
    refine foldl_kept (P := fun x => Kept m s0 x) ?_ ?_
    · intro y4 y5 y6
      refine fset_kept (sub hm) ?_
      exact y6
    · refine setCommon_kept (sub hm) ?_
      exact h
  clear_value x2
  refine ite_kept (P := fun x => Kept m s0 x) ?_ ?_
  · refine raise_kept (sub hm) ?_
    refine dropH_kept (sub hm) ?_
    exact h3
  · exact h3

theorem arm_kept {α : Type} {m : State → α} (hm : ∀ u, m u = m { u with regs := [], out := [], msixPend := 0, links := [], recs := [], chans := [], commons := [] })
    {s0 s : State} {a0 a1 a2 a3 a4} (h : Kept m s0 s) :
    Kept m s0 (arm a0 a1 a2 a3 a4 s) := by
  unfold arm
  refine showWriting_kept (sub hm) ?_
  beta_reduce
  refine setRec_kept (sub hm) ?_
  refine sendMsg_kept (sub hm) ?_
  refine fset_kept (sub hm) ?_
  refine fset_kept (sub hm) ?_
  refine fset_kept (sub hm) ?_
  refine setLink_kept (sub hm) ?_
  refine endDefects_kept (sub hm) ?_
  exact h

theorem setObs_kept {α : Type} {m : State → α} (hm : ∀ u, m u = m { u with obs := {} })
    {s0 s : State} {a0} (h : Kept m s0 s) :
    Kept m s0 (setObs a0 s) := by
  unfold setObs
  refine Kept.with hm ?_
  exact h

theorem takeSeq_kept {α : Type} {m : State → α} (hm : ∀ u, m u = m { u with obs := {} })
    {s0 s : State} {a0} (h : Kept m s0 s) :
    Kept m s0 (takeSeq a0 s).2 := by
  unfold takeSeq
  extract_lets +onlyGivenNames x1
  clear_value x1
  refine snd_kept (P := fun x => Kept m s0 x) ?_
  refine setObs_kept (sub hm) ?_
  exact h

theorem dropEvent_kept {α : Type} {m : State → α} (hm : ∀ u, m u = m { u with regs := [], out := [], msixPend := 0, obs := {} })
    {s0 s : State} {a0} (h : Kept m s0 s) :
    Kept m s0 (dropEvent a0 s) := by
  unfold dropEvent
  split
  · rename_i v1 v2 v3 v4
    have h5 : Kept m s0 ((v2, v3)).2 := by
      rw [← v4]
      refine takeSeq_kept (sub hm) ?_
      exact h
    refine ite_kept (P := fun x => Kept m s0 x) ?_ ?_
    · refine cnt_kept (sub hm) ?_
      exact h5
    · refine raise_kept (sub hm) ?_
      refine sticky_kept (sub hm) ?_
      refine cnt_kept (sub hm) ?_
      refine setObs_kept (sub hm) ?_
      exact h5

theorem makeRecord_kept {α : Type} {m : State → α} (hm : ∀ u, m u = m { u with obs := {} })
    {s0 s : State} {a0} (h : Kept m s0 s) :
    Kept m s0 (makeRecord a0 s).2 := by
  unfold makeRecord
  split
  · rename_i v1 v2 v3 v4
    have h5 : Kept m s0 ((v2, v3)).2 := by
      rw [← v4]
      refine takeSeq_kept (sub hm) ?_
      exact h
    extract_lets +onlyGivenNames x6
    clear_value x6
    refine snd_kept (P := fun x => Kept m s0 x) ?_
    refine setObs_kept (sub hm) ?_
    exact h5

theorem showLog_kept {α : Type} {m : State → α} (hm : ∀ u, m u = m { u with regs := [] })
    {s0 s : State} (h : Kept m s0 s) :
    Kept m s0 (showLog s) := by
  unfold showLog
  refine fset_kept (sub hm) ?_
  refine fset_kept (sub hm) ?_
  exact h

theorem pushRecord_kept {α : Type} {m : State → α} (hm : ∀ u, m u = m { u with regs := [], obs := {} })
    {s0 s : State} {a0} (h : Kept m s0 s) :
    Kept m s0 (pushRecord a0 s) := by
  unfold pushRecord
  split
  · rename_i v1 v2 v3 v4
    have h5 : Kept m s0 ((v2, v3)).2 := by
      rw [← v4]
      refine makeRecord_kept (sub hm) ?_
      exact h
    refine showLog_kept (sub hm) ?_
    refine setObs_kept (sub hm) ?_
    exact h5

theorem endEpisode_kept {α : Type} {m : State → α} (hm : ∀ u, m u = m { u with regs := [], obs := {} })
    {s0 s : State} (h : Kept m s0 s) :
    Kept m s0 (endEpisode s) := by
  unfold endEpisode
  split
  · rename_i v1 v2 v3
    refine ite_kept (P := fun x => Kept m s0 x) ?_ ?_
    · exact h
    · refine pushRecord_kept (sub hm) ?_
      refine setObs_kept (sub hm) ?_
      exact h
  · rename_i v4 v5
    exact h

theorem arrive_kept {α : Type} {m : State → α} (hm : ∀ u, m u = m { u with regs := [], out := [], msixPend := 0, obs := {} })
    {s0 s : State} {a0} (h : Kept m s0 s) :
    Kept m s0 (arrive a0 s) := by
  unfold arrive
  refine ite_kept (P := fun x => Kept m s0 x) ?_ ?_
  · refine dropEvent_kept (sub hm) ?_
    exact h
  · extract_lets +onlyGivenNames x1
    have h2 : Kept m s0 x1 := by
      unfold x1
      refine endEpisode_kept (sub hm) ?_
      exact h
    clear_value x1
    split
    · rename_i v3 v4 v5
      refine setObs_kept (sub hm) ?_
      exact h2
    · rename_i v6 v7
      refine ite_kept (P := fun x => Kept m s0 x) ?_ ?_
      · refine dropEvent_kept (sub hm) ?_
        exact h2
      · refine pushRecord_kept (sub hm) ?_
        exact h2

theorem askFlush_kept {α : Type} {m : State → α} (hm : ∀ u, m u = m { u with regs := [], lanesC := [] })
    {s0 s : State} {a0 a1} (h : Kept m s0 s) :
    Kept m s0 (askFlush a0 a1 s) := by
  unfold askFlush
  extract_lets +onlyGivenNames x1
  clear_value x1
  extract_lets +onlyGivenNames x2
  clear_value x2
  refine ite_kept (P := fun x => Kept m s0 x) ?_ ?_
  · refine fset_kept (sub hm) ?_
    refine setCjob_kept (sub hm) ?_
    exact h
  · refine sticky_kept (sub hm) ?_
    exact h

theorem powerEvent_kept {α : Type} {m : State → α} (hm : ∀ u, m u = m { u with port := {} })
    {s0 s : State} {a0 a1} (h : Kept m s0 s) :
    Kept m s0 (powerEvent a0 a1 s) := by
  unfold powerEvent
  refine setPorts_kept (sub hm) ?_
  exact h

theorem dropDeferred_kept {α : Type} {m : State → α} (hm : ∀ u, m u = m { u with regs := [], cl := {}, port := {} })
    {s0 s : State} (h : Kept m s0 s) :
    Kept m s0 (dropDeferred s) := by
  unfold dropDeferred
  split
  · rename_i v1 v2 v3 v4
    split
    · rename_i v5 v6
      refine powerEvent_kept (sub hm) ?_
      refine endNow_kept (sub hm) ?_
      refine fset_kept (sub hm) ?_
      refine setCl_kept (sub hm) ?_
      exact h
    · rename_i v7
      refine id_kept (P := fun x => Kept m s0 x) ?_
      refine fset_kept (sub hm) ?_
      refine setCl_kept (sub hm) ?_
      exact h
  · rename_i v8 v9
    exact h

theorem modeDone_kept {α : Type} {m : State → α} (hm : ∀ u, m u = m { u with cl := {} })
    {s0 s : State} {a0} (h : Kept m s0 s) :
    Kept m s0 (modeDone a0 s) := by
  unfold modeDone
  split
  · rename_i v1 v2
    refine endNow_kept (sub hm) ?_
    exact h
  · rename_i v3
    exact h

theorem modeBegun_kept {α : Type} {m : State → α} (hm : ∀ u, m u = m { u with cl := {} })
    {s0 s : State} {a0} (h : Kept m s0 s) :
    Kept m s0 (modeBegun a0 s) := by
  unfold modeBegun
  split
  · rename_i v1 v2
    refine modCmd_kept (sub hm) ?_
    exact h
  · rename_i v3
    exact h

theorem enterRest_kept {α : Type} {m : State → α} (hm : ∀ u, m u = m { u with regs := [], evq := [], cl := {}, pwr := {} })
    {s0 s : State} {a0 a1} (h : Kept m s0 s) :
    Kept m s0 (enterRest a0 a1 s) := by
  unfold enterRest
  extract_lets +onlyGivenNames x1
  clear_value x1
  extract_lets +onlyGivenNames x2
  have h3 : Kept m s0 x2 := by
    unfold x2
    refine fset_kept (sub hm) ?_
    refine setCl_kept (sub hm) ?_
    exact h
  clear_value x2
  extract_lets +onlyGivenNames x4
  have h5 : Kept m s0 x4 := by
    unfold x4
    split
    · rename_i v6 v7 v8
      split
      · rename_i v9 v10 v11
        refine endTest_kept (sub hm) ?_
        exact h3
      · rename_i v12 v13
        exact h3
    · rename_i v14 v15
      exact h3
  clear_value x4
  refine modeBegun_kept (sub hm) ?_
  refine setPwr_kept (sub hm) ?_
  exact h5

theorem askMode_kept {α : Type} {m : State → α} (hm : ∀ u, m u = m { u with regs := [], evq := [], out := [], msixPend := 0, disc := {}, recs := [], spin := {}, dec := {}, encoded := [], mem := {}, lanesC := [], cl := {}, port := {}, pwr := {} })
    {s0 s : State} {a0 a1 a2} (h : Kept m s0 s) :
    Kept m s0 (askMode a0 a1 a2 s) := by
  unfold askMode
  extract_lets +onlyGivenNames x1
  have h2 : Kept m s0 x1 := by
    unfold x1
    refine dropDeferred_kept (sub hm) ?_
    exact h
  clear_value x1
  refine ite_kept (P := fun x => Kept m s0 x) ?_ ?_
  · extract_lets +onlyGivenNames x3
    clear_value x3
    extract_lets +onlyGivenNames x4
    have h5 : Kept m s0 x4 := by
      unfold x4
      refine setPwr_kept (sub hm) ?_
      refine fset_kept (sub hm) ?_
      exact h2
    clear_value x4
    refine ite_kept (P := fun x => Kept m s0 x) ?_ ?_
    · refine modeDone_kept (sub hm) ?_
      exact h5
    · refine activeChange_kept (sub hm) ?_
      refine modeBegun_kept (sub hm) ?_
      exact h5
  · refine ite_kept (P := fun x => Kept m s0 x) ?_ ?_
    · refine modeDone_kept (sub hm) ?_
      refine setPwr_kept (sub hm) ?_
      exact h2
    · extract_lets +onlyGivenNames x6
      have h7 : Kept m s0 x6 := by
        unfold x6
        refine ite_kept (P := fun x => Kept m s0 x) ?_ ?_
        · refine foldl_kept (P := fun x => Kept m s0 x) ?_ ?_
          · intro y8 y9 y10
            refine stopCmd_kept (sub hm) ?_
            exact y10
          · exact h2
        · exact h2
      clear_value x6
      refine ite_kept (P := fun x => Kept m s0 x) ?_ ?_
      · refine enterRest_kept (sub hm) ?_
        exact h7
      · refine fset_kept (sub hm) ?_
        refine setCl_kept (sub hm) ?_
        exact h7

theorem ataAbort_kept {α : Type} {m : State → α} (hm : ∀ u, m u = m { u with out := [] })
    {s0 s : State} (h : Kept m s0 s) :
    Kept m s0 (ataAbort s) := by
  unfold ataAbort
  refine send_kept (sub hm) ?_
  exact h

theorem ataCommand_kept {α : Type} {m : State → α}
    {s0 s : State} {a0} (hf0 : ∀ y0, Kept m s0 y0 → Kept m s0 (a0 y0)) (h : Kept m s0 s) :
    Kept m s0 (ataCommand a0 s) := by
  unfold ataCommand
  refine ite_kept (P := fun x => Kept m s0 x) ?_ ?_
  · refine hf0 _ ?_
    exact h
  · exact h

theorem ataDone_kept {α : Type} {m : State → α} (hm : ∀ u, m u = m { u with out := [] })
    {s0 s : State} (h : Kept m s0 s) :
    Kept m s0 (ataDone s) := by
  unfold ataDone
  refine send_kept (sub hm) ?_
  exact h

theorem sendSetFs_kept {α : Type} {m : State → α} (hm : ∀ u, m u = m { u with regs := [], out := [], links := [] })
    {s0 s : State} {a0 a1 a2} (h : Kept m s0 s) :
    Kept m s0 (sendSetFs a0 a1 a2 s) := by
  unfold sendSetFs
  refine sendMsg_kept (sub hm) ?_
  refine setLink_kept (sub hm) ?_
  exact h

theorem autoFs_kept {α : Type} {m : State → α} (hm : ∀ u, m u = m { u with regs := [], out := [], links := [] })
    {s0 s : State} {a0 a1} (h : Kept m s0 s) :
    Kept m s0 (autoFs a0 a1 s) := by
  unfold autoFs
  refine ite_kept (P := fun x => Kept m s0 x) ?_ ?_
  · extract_lets +onlyGivenNames x1
    clear_value x1
    refine ite_kept (P := fun x => Kept m s0 x) ?_ ?_
    · refine sendSetFs_kept (sub hm) ?_
      exact h
    · exact h
  · exact h

theorem spinState_kept {α : Type} {m : State → α} (hm : ∀ u, m u = m { u with regs := [] })
    {s0 s : State} {a0} (h : Kept m s0 s) :
    Kept m s0 (spinState a0 s) := by
  unfold spinState
  refine fset_kept (sub hm) ?_
  exact h

theorem unlockSpin_kept {α : Type} {m : State → α} (hm : ∀ u, m u = m { u with regs := [] })
    {s0 s : State} (h : Kept m s0 s) :
    Kept m s0 (unlockSpin s) := by
  unfold unlockSpin
  refine fset_kept (sub hm) ?_
  refine fset_kept (sub hm) ?_
  refine fset_kept (sub hm) ?_
  refine fset_kept (sub hm) ?_
  exact h

theorem gatesOff_kept {α : Type} {m : State → α} (hm : ∀ u, m u = m { u with regs := [], spin := {} })
    {s0 s : State} (h : Kept m s0 s) :
    Kept m s0 (gatesOff s) := by
  unfold gatesOff
  refine fset_kept (sub hm) ?_
  refine fset_kept (sub hm) ?_
  refine Kept.with hm ?_
  exact h

theorem stopSpin_kept {α : Type} {m : State → α} (hm : ∀ u, m u = m { u with regs := [], spin := {} })
    {s0 s : State} (h : Kept m s0 s) :
    Kept m s0 (stopSpin s) := by
  unfold stopSpin
  refine ite_kept (P := fun x => Kept m s0 x) ?_ ?_
  · exact h
  · extract_lets +onlyGivenNames x1
    clear_value x1
    extract_lets +onlyGivenNames x2
    clear_value x2
    extract_lets +onlyGivenNames x3
    have h4 : Kept m s0 x3 := by
      unfold x3
      refine setSpin_kept (sub hm) ?_
      refine fset_kept (sub hm) ?_
      refine angleValid_kept (sub hm) ?_
      exact h
    clear_value x3
    refine ite_kept (P := fun x => Kept m s0 x) ?_ ?_
    · refine spinState_kept (sub hm) ?_
      exact h4
    · refine spinState_kept (sub hm) ?_
      refine unlockSpin_kept (sub hm) ?_
      refine gatesOff_kept (sub hm) ?_
      exact h4

theorem sledSt_kept {α : Type} {m : State → α} (hm : ∀ u, m u = m { u with regs := [] })
    {s0 s : State} {a0 a1} (h : Kept m s0 s) :
    Kept m s0 (sledSt a0 a1 s) := by
  unfold sledSt
  refine fset_kept (sub hm) ?_
  exact h

theorem parkLoop_kept {α : Type} {m : State → α} (hm : ∀ u, m u = m { u with regs := [], engs := [], loops := [] })
    {s0 s : State} {a0 a1} (h : Kept m s0 s) :
    Kept m s0 (parkLoop a0 a1 s) := by
  unfold parkLoop
  extract_lets +onlyGivenNames x1
  clear_value x1
  extract_lets +onlyGivenNames x2
  have h3 : Kept m s0 x2 := by
    unfold x2
    refine showLoop_kept (sub hm) ?_
    refine fset_kept (sub hm) ?_
    refine loopState_kept (sub hm) ?_
    exact h
  clear_value x2
  refine ite_kept (P := fun x => Kept m s0 x) ?_ ?_
  · refine mcState_kept (sub hm) ?_
    refine retract_kept (sub hm) ?_
    exact h3
  · refine startRamp_kept (sub hm) ?_
    exact h3

theorem parkHead_kept {α : Type} {m : State → α} (hm : ∀ u, m u = m { u with regs := [], engs := [], loops := [] })
    {s0 s : State} {a0} (h : Kept m s0 s) :
    Kept m s0 (parkHead a0 s) := by
  unfold parkHead
  refine ite_app_kept (P := fun x => Kept m s0 x) ?_ ?_
  · refine sledSt_kept (sub hm) ?_
    refine fset_kept (sub hm) ?_
    refine parkLoop_kept (sub hm) ?_
    refine parkLoop_kept (sub hm) ?_
    refine parkLoop_kept (sub hm) ?_
    exact h
  · refine id_kept (P := fun x => Kept m s0 x) ?_
    refine fset_kept (sub hm) ?_
    refine parkLoop_kept (sub hm) ?_
    refine parkLoop_kept (sub hm) ?_
    refine parkLoop_kept (sub hm) ?_
    exact h

theorem towardsSafe_kept {α : Type} {m : State → α} (hm : ∀ u, m u = m { u with regs := [], engs := [], loops := [], spin := {} })
    {s0 s : State} (h : Kept m s0 s) :
    Kept m s0 (towardsSafe s) := by
  unfold towardsSafe
  refine stopSpin_kept (sub hm) ?_
  refine parkHead_kept (sub hm) ?_
  refine parkHead_kept (sub hm) ?_
  exact h

theorem endWaiting_kept {α : Type} {m : State → α} (hm : ∀ u, m u = m { u with cl := {} })
    {s0 s : State} {a0} (h : Kept m s0 s) :
    Kept m s0 (endWaiting a0 s) := by
  unfold endWaiting
  refine foldl_kept (P := fun x => Kept m s0 x) ?_ ?_
  · intro y1 y2 y3
    split
    · rename_i v4 v5 v6
      refine ite_kept (P := fun x => Kept m s0 x) ?_ ?_
      · refine endNow_kept (sub hm) ?_
        refine modCmd_kept (sub hm) ?_
        exact y3
      · exact y3
    · rename_i v7 v8
      exact y3
  · exact h

theorem setDev_kept {α : Type} {m : State → α} (hm : ∀ u, m u = m { u with dev := {} })
    {s0 s : State} {a0} (h : Kept m s0 s) :
    Kept m s0 (setDev a0 s) := by
  unfold setDev
  refine Kept.with hm ?_
  exact h

theorem mediaEvent_kept {α : Type} {m : State → α} (hm : ∀ u, m u = m { u with regs := [], out := [], msixPend := 0, port := {} })
    {s0 s : State} {a0} (h : Kept m s0 s) :
    Kept m s0 (mediaEvent a0 s) := by
  unfold mediaEvent
  extract_lets +onlyGivenNames x1
  clear_value x1
  extract_lets +onlyGivenNames x2
  have h3 : Kept m s0 x2 := by
    unfold x2
    refine setPorts_kept (sub hm) ?_
    exact h
  clear_value x2
  refine ite_kept (P := fun x => Kept m s0 x) ?_ ?_
  · refine raise_kept (sub hm) ?_
    refine send_kept (sub hm) ?_
    exact h3
  · exact h3

theorem mountFail_kept {α : Type} {m : State → α} (hm : ∀ u, m u = m { u with regs := [], evq := [], out := [], msixPend := 0, engs := [], loops := [], spin := {}, cl := {}, port := {}, dev := {} })
    {s0 s : State} {a0 a1} (h : Kept m s0 s) :
    Kept m s0 (mountFail a0 a1 s) := by
  unfold mountFail
  extract_lets +onlyGivenNames x1
  clear_value x1
  refine towardsSafe_kept (sub hm) ?_
  refine endWaiting_kept (sub hm) ?_
  beta_reduce
  refine setDev_kept (sub hm) ?_
  refine ite_app_kept (P := fun x => Kept m s0 x) ?_ ?_
  · refine mediaEvent_kept (sub hm) ?_
    refine emit_kept (sub hm) ?_
    refine raise_kept (sub hm) ?_
    refine fset_kept (sub hm) ?_
    refine fset_kept (sub hm) ?_
    refine fault_kept (sub hm) ?_
    refine fset_kept (sub hm) ?_
    exact h
  · refine id_kept (P := fun x => Kept m s0 x) ?_
    refine emit_kept (sub hm) ?_
    refine raise_kept (sub hm) ?_
    refine fset_kept (sub hm) ?_
    refine fset_kept (sub hm) ?_
    refine fault_kept (sub hm) ?_
    refine fset_kept (sub hm) ?_
    exact h

theorem startSpin_kept {α : Type} {m : State → α} (hm : ∀ u, m u = m { u with regs := [], spin := {} })
    {s0 s : State} (h : Kept m s0 s) :
    Kept m s0 (startSpin s) := by
  unfold startSpin
  refine ite_kept (P := fun x => Kept m s0 x) ?_ ?_
  · beta_reduce
    refine setSpin_kept (sub hm) ?_
    refine cnt_kept (sub hm) ?_
    refine spinState_kept (sub hm) ?_
    refine unlockSpin_kept (sub hm) ?_
    refine gatesOff_kept (sub hm) ?_
    exact h
  · exact h

theorem startMount_kept {α : Type} {m : State → α} (hm : ∀ u, m u = m { u with regs := [], evq := [], out := [], msixPend := 0, engs := [], loops := [], spin := {}, cl := {}, port := {}, dev := {} })
    {s0 s : State} (h : Kept m s0 s) :
    Kept m s0 (startMount s) := by
  unfold startMount
  extract_lets +onlyGivenNames x1
  clear_value x1
  refine ite_kept (P := fun x => Kept m s0 x) ?_ ?_
  · exact h
  · refine ite_kept (P := fun x => Kept m s0 x) ?_ ?_
    · refine mountFail_kept (sub hm) ?_
      exact h
    · extract_lets +onlyGivenNames x2
      have h3 : Kept m s0 x2 := by
        unfold x2
        refine ite_kept (P := fun x => Kept m s0 x) ?_ ?_
        · exact h
        · refine fset_kept (sub hm) ?_
          exact h
      clear_value x2
      extract_lets +onlyGivenNames x4
      clear_value x4
      refine startSpin_kept (sub hm) ?_
      refine wantSpeed_kept (sub hm) ?_
      refine fset_kept (sub hm) ?_
      refine fset_kept (sub hm) ?_
      refine setDev_kept (sub hm) ?_
      exact h3

theorem autoMount_kept {α : Type} {m : State → α} (hm : ∀ u, m u = m { u with regs := [], evq := [], out := [], msixPend := 0, engs := [], loops := [], spin := {}, cl := {}, port := {}, dev := {} })
    {s0 s : State} (h : Kept m s0 s) :
    Kept m s0 (autoMount s) := by
  unfold autoMount
  refine ite_kept (P := fun x => Kept m s0 x) ?_ ?_
  · refine startMount_kept (sub hm) ?_
    exact h
  · exact h

theorem badList_kept {α : Type} {m : State → α} (hm : ∀ u, m u = m { u with regs := [], evq := [], out := [], msixPend := 0, disc := {}, dec := {}, encoded := [], mem := {}, lanesC := [], cl := {} })
    {s0 s : State} {a0 a1 a2} (h : Kept m s0 s) :
    Kept m s0 (badList a0 a1 a2 s) := by
  unfold badList
  refine emit_kept (sub hm) ?_
  refine modCmd_kept (sub hm) ?_
  refine stopCmd_kept (sub hm) ?_
  exact h

theorem setLane_kept {α : Type} {m : State → α} (hm : ∀ u, m u = m { u with lanes := [] })
    {s0 s : State} {a0 a1} (h : Kept m s0 s) :
    Kept m s0 (setLane a0 a1 s) := by
  unfold setLane
  refine Kept.with hm ?_
  exact h

theorem laneFresh_kept {α : Type} {m : State → α} (hm : ∀ u, m u = m { u with lanes := [] })
    {s0 s : State} {a0} (h : Kept m s0 s) :
    Kept m s0 (laneFresh a0 s) := by
  unfold laneFresh
  refine setLane_kept (sub hm) ?_
  exact h

theorem trainAttempt_kept {α : Type} {m : State → α} (hm : ∀ u, m u = m { u with regs := [], out := [], lanes := [], links := [] })
    {s0 s : State} {a0} (h : Kept m s0 s) :
    Kept m s0 (trainAttempt a0 s) := by
  unfold trainAttempt
  refine send_kept (sub hm) ?_
  refine fset_kept (sub hm) ?_
  refine fset_kept (sub hm) ?_
  refine fset_kept (sub hm) ?_
  refine fset_kept (sub hm) ?_
  refine setLink_kept (sub hm) ?_
  refine groupState_kept (sub hm) ?_
  refine laneFresh_kept (sub hm) ?_
  refine laneFresh_kept (sub hm) ?_
  exact h

theorem startGroup_kept {α : Type} {m : State → α} (hm : ∀ u, m u = m { u with regs := [], out := [], lanes := [], links := [] })
    {s0 s : State} {a0} (h : Kept m s0 s) :
    Kept m s0 (startGroup a0 s) := by
  unfold startGroup
  refine trainAttempt_kept (sub hm) ?_
  refine setLink_kept (sub hm) ?_
  exact h

theorem loopLost_kept {α : Type} {m : State → α} (hm : ∀ u, m u = m { u with regs := [], loops := [] })
    {s0 s : State} {a0} (h : Kept m s0 s) :
    Kept m s0 (loopLost a0 s) := by
  unfold loopLost
  refine setLoop_kept (sub hm) ?_
  refine cnt_kept (sub hm) ?_
  refine fset_kept (sub hm) ?_
  refine loopState_kept (sub hm) ?_
  exact h

theorem lostFeedback_kept {α : Type} {m : State → α} (hm : ∀ u, m u = m { u with regs := [], evq := [], out := [], msixPend := 0, loops := [], heads := [] })
    {s0 s : State} {a0 a1 a2} (h : Kept m s0 s) :
    Kept m s0 (lostFeedback a0 a1 a2 s) := by
  unfold lostFeedback
  extract_lets +onlyGivenNames x1
  clear_value x1
  refine emit_kept (sub hm) ?_
  refine raiseMc_kept (sub hm) ?_
  refine posInvalid_kept (sub hm) ?_
  refine mcState_kept (sub hm) ?_
  refine setHead_kept (sub hm) ?_
  refine loopLost_kept (sub hm) ?_
  refine loopLost_kept (sub hm) ?_
  refine loopLost_kept (sub hm) ?_
  exact h

theorem laneDown_kept {α : Type} {m : State → α} (hm : ∀ u, m u = m { u with regs := [], evq := [], out := [], msixPend := 0, lanes := [], links := [], recs := [], loops := [], heads := [] })
    {s0 s : State} {a0 a1 a2 a3} (h : Kept m s0 s) :
    Kept m s0 (laneDown a0 a1 a2 a3 s) := by
  unfold laneDown
  refine ite_kept (P := fun x => Kept m s0 x) ?_ ?_
  · refine startGroup_kept (sub hm) ?_
    refine lostFeedback_kept (sub hm) ?_
    beta_reduce
    refine ite_kept (P := fun x => Kept m s0 x) ?_ ?_
    · refine emit_kept (sub hm) ?_
      refine tripHead_kept (sub hm) ?_
      refine emit_kept (sub hm) ?_
      refine raise_kept (sub hm) ?_
      refine fault_kept (sub hm) ?_
      exact h
    · refine emit_kept (sub hm) ?_
      refine raise_kept (sub hm) ?_
      refine fault_kept (sub hm) ?_
      exact h
  · exact h

theorem badSlot_kept {α : Type} {m : State → α} (hm : ∀ u, m u = m { u with regs := [], evq := [], out := [], msixPend := 0, lanes := [], links := [], recs := [], loops := [], heads := [] })
    {s0 s : State} {a0 a1 a2} (h : Kept m s0 s) :
    Kept m s0 (badSlot a0 a1 a2 s) := by
  unfold badSlot
  extract_lets +onlyGivenNames x1
  clear_value x1
  extract_lets +onlyGivenNames x2
  clear_value x2
  extract_lets +onlyGivenNames x3
  have h4 : Kept m s0 x3 := by
    unfold x3
    refine cnt_kept (sub hm) ?_
    refine setLane_kept (sub hm) ?_
    exact h
  clear_value x3
  refine ite_kept (P := fun x => Kept m s0 x) ?_ ?_
  · refine laneDown_kept (sub hm) ?_
    exact h4
  · exact h4

theorem beamGap_kept {α : Type} {m : State → α} (hm : ∀ u, m u = m { u with regs := [], chans := [] })
    {s0 s : State} {a0 a2} (h : Kept m s0 s) :
    Kept m s0 (beamGap a0 s a2) := by
  unfold beamGap
  extract_lets +onlyGivenNames x1
  clear_value x1
  extract_lets +onlyGivenNames x2
  clear_value x2
  extract_lets +onlyGivenNames x3
  clear_value x3
  extract_lets +onlyGivenNames x4
  clear_value x4
  refine fset_kept (sub hm) ?_
  refine fset_kept (sub hm) ?_
  refine setChan_kept (sub hm) ?_
  exact h

theorem beginAlign_kept {α : Type} {m : State → α} (hm : ∀ u, m u = m { u with regs := [], spin := {} })
    {s0 s : State} (h : Kept m s0 s) :
    Kept m s0 (beginAlign s) := by
  unfold beginAlign
  refine spinState_kept (sub hm) ?_
  refine setSpin_kept (sub hm) ?_
  exact h

theorem boostGap_kept {α : Type} {m : State → α} (hm : ∀ u, m u = m { u with regs := [], recs := [] })
    {s0 s : State} {a0} (h : Kept m s0 s) :
    Kept m s0 (boostGap a0 s) := by
  unfold boostGap
  extract_lets +onlyGivenNames x1
  clear_value x1
  extract_lets +onlyGivenNames x2
  clear_value x2
  refine ite_kept (P := fun x => Kept m s0 x) ?_ ?_
  · refine fset_kept (sub hm) ?_
    refine fset_kept (sub hm) ?_
    refine setRec_kept (sub hm) ?_
    exact h
  · refine ite_kept (P := fun x => Kept m s0 x) ?_ ?_
    · refine fset_kept (sub hm) ?_
      refine fset_kept (sub hm) ?_
      refine setRec_kept (sub hm) ?_
      exact h
    · exact h

theorem measure_kept {α : Type} {m : State → α} (hm : ∀ u, m u = m { u with vault := {} })
    {s0 s : State} {a0 a1 a2} (h : Kept m s0 s) :
    Kept m s0 (measure a0 a1 a2 s) := by
  unfold measure
  extract_lets +onlyGivenNames x1
  clear_value x1
  refine ite_kept (P := fun x => Kept m s0 x) ?_ ?_
  · refine Kept.with hm ?_
    exact h
  · refine Kept.with hm ?_
    exact h

theorem bootMeasures_kept {α : Type} {m : State → α} (hm : ∀ u, m u = m { u with vault := {} })
    {s0 s : State} (h : Kept m s0 s) :
    Kept m s0 (bootMeasures s) := by
  unfold bootMeasures
  refine measure_kept (sub hm) ?_
  refine measure_kept (sub hm) ?_
  exact h

theorem flashStore_kept {α : Type} {m : State → α} (hm : ∀ u, m u = m { u with dev := {} })
    {s0 s : State} {a0 a1} (h : Kept m s0 s) :
    Kept m s0 (flashStore a0 a1 s) := by
  unfold flashStore
  refine setDev_kept (sub hm) ?_
  exact h

theorem flashErase_kept {α : Type} {m : State → α} (hm : ∀ u, m u = m { u with dev := {} })
    {s0 s : State} {a0 a1} (h : Kept m s0 s) :
    Kept m s0 (flashErase a0 a1 s) := by
  unfold flashErase
  refine setDev_kept (sub hm) ?_
  exact h

theorem recordCtl_kept {α : Type} {m : State → α} (hm : ∀ u, m u = m { u with dev := {} })
    {s0 s : State} {a0 a1 a2} (h : Kept m s0 s) :
    Kept m s0 (recordCtl a0 a1 a2 s) := by
  unfold recordCtl
  split
  · rename_i v1 v2 v3 v4
    refine flashStore_kept (sub hm) ?_
    refine flashErase_kept (sub hm) ?_
    exact h

theorem rejectImage_kept {α : Type} {m : State → α} (hm : ∀ u, m u = m { u with regs := [], evq := [] })
    {s0 s : State} {a0 a1} (h : Kept m s0 s) :
    Kept m s0 (rejectImage a0 a1 s) := by
  unfold rejectImage
  refine emit_kept (sub hm) ?_
  refine fset_kept (sub hm) ?_
  exact h

theorem enterRecovery_kept {α : Type} {m : State → α} (hm : ∀ u, m u = m { u with regs := [], evq := [], out := [], msixPend := 0 })
    {s0 s : State} {a0 a1} (h : Kept m s0 s) :
    Kept m s0 (enterRecovery a0 a1 s) := by
  unfold enterRecovery
  extract_lets +onlyGivenNames x1
  clear_value x1
  refine emit_kept (sub hm) ?_
  refine raise_kept (sub hm) ?_
  refine fault_kept (sub hm) ?_
  refine fset_kept (sub hm) ?_
  exact h

theorem chooseImage_kept {α : Type} {m : State → α} (hm : ∀ u, m u = m { u with regs := [], evq := [], out := [], msixPend := 0, dev := {} })
    {s0 s : State} (h : Kept m s0 s) :
    Kept m s0 (chooseImage s).2 := by
  unfold chooseImage
  extract_lets +onlyGivenNames x1
  clear_value x1
  split
  · rename_i v2 v3 v4 v5
    extract_lets +onlyGivenNames x6
    clear_value x6
    extract_lets +onlyGivenNames x7
    clear_value x7
    extract_lets +onlyGivenNames x8
    clear_value x8
    extract_lets +onlyGivenNames x9
    have h10 : Kept m s0 x9 := by
      unfold x9
      refine ite_kept (P := fun x => Kept m s0 x) ?_ ?_
      · refine emit_kept (sub hm) ?_
        refine recordCtl_kept (sub hm) ?_
        exact h
      · exact h
    clear_value x9
    extract_lets +onlyGivenNames x11
    clear_value x11
    extract_lets +onlyGivenNames x12
    clear_value x12
    refine ite_kept (P := fun (x : _ × _) => Kept m s0 x.2) ?_ ?_
    · extract_lets +onlyGivenNames x13
      have h14 : Kept m s0 x13 := by
        unfold x13
        refine ite_kept (P := fun x => Kept m s0 x) ?_ ?_
        · refine recordCtl_kept (sub hm) ?_
          exact h10
        · exact h10
      clear_value x13
      refine snd_kept (P := fun x => Kept m s0 x) ?_
      refine fset_kept (sub hm) ?_
      refine fsetB_kept (sub hm) ?_
      exact h14
    · extract_lets +onlyGivenNames x15
      have h16 : Kept m s0 x15 := by
        unfold x15
        refine rejectImage_kept (sub hm) ?_
        exact h10
      clear_value x15
      extract_lets +onlyGivenNames x17
      clear_value x17
      refine ite_kept (P := fun (x : _ × _) => Kept m s0 x.2) ?_ ?_
      · refine snd_kept (P := fun x => Kept m s0 x) ?_
        refine fset_kept (sub hm) ?_
        refine emit_kept (sub hm) ?_
        refine raise_kept (sub hm) ?_
        refine fset_kept (sub hm) ?_
        exact h16
      · extract_lets +onlyGivenNames x18
        have h19 : Kept m s0 x18 := by
          unfold x18
          refine rejectImage_kept (sub hm) ?_
          exact h16
        clear_value x18
        refine snd_kept (P := fun x => Kept m s0 x) ?_
        refine enterRecovery_kept (sub hm) ?_
        exact h19

theorem trainDram_kept {α : Type} {m : State → α} (hm : ∀ u, m u = m { u with regs := [], evq := [], out := [], msixPend := 0 })
    {s0 s : State} {a0} (h : Kept m s0 s) :
    Kept m s0 (trainDram a0 s) := by
  unfold trainDram
  extract_lets +onlyGivenNames x1
  clear_value x1
  extract_lets +onlyGivenNames x2
  clear_value x2
  refine ite_kept (P := fun x => Kept m s0 x) ?_ ?_
  · refine fault_kept (sub hm) ?_
    refine raise_kept (sub hm) ?_
    refine fault_kept (sub hm) ?_
    refine fsetB_kept (sub hm) ?_
    refine fsetB_kept (sub hm) ?_
    exact h
  · extract_lets +onlyGivenNames x3
    have h4 : Kept m s0 x3 := by
      unfold x3
      refine fsetB_kept (sub hm) ?_
      refine fset_kept (sub hm) ?_
      refine fset_kept (sub hm) ?_
      refine fset_kept (sub hm) ?_
      refine fset_kept (sub hm) ?_
      refine fset_kept (sub hm) ?_
      exact h
    clear_value x3
    refine ite_kept (P := fun x => Kept m s0 x) ?_ ?_
    · exact h4
    · refine emit_kept (sub hm) ?_
      refine fault_kept (sub hm) ?_
      exact h4

theorem setSled_kept {α : Type} {m : State → α} (hm : ∀ u, m u = m { u with sleds := [] })
    {s0 s : State} {a0 a1} (h : Kept m s0 s) :
    Kept m s0 (setSled a0 a1 s) := by
  unfold setSled
  refine Kept.with hm ?_
  exact h

theorem sledCurrent_kept {α : Type} {m : State → α} (hm : ∀ u, m u = m { u with regs := [] })
    {s0 s : State} {a0 a1} (h : Kept m s0 s) :
    Kept m s0 (sledCurrent a0 a1 s) := by
  unfold sledCurrent
  refine fsetB_kept (sub hm) ?_
  refine fset_kept (sub hm) ?_
  exact h

theorem homeStep_kept {α : Type} {m : State → α} (hm : ∀ u, m u = m { u with sleds := [] })
    {s0 s : State} {a0 a1 a2} (h : Kept m s0 s) :
    Kept m s0 (homeStep a0 a1 a2 s) := by
  unfold homeStep
  refine setSled_kept (sub hm) ?_
  exact h

theorem homeStart_kept {α : Type} {m : State → α} (hm : ∀ u, m u = m { u with regs := [], sleds := [] })
    {s0 s : State} {a0} (h : Kept m s0 s) :
    Kept m s0 (homeStart a0 s) := by
  unfold homeStart
  extract_lets +onlyGivenNames x1
  clear_value x1
  refine ite_kept (P := fun x => Kept m s0 x) ?_ ?_
  · exact h
  · refine ite_kept (P := fun x => Kept m s0 x) ?_ ?_
    · refine setSled_kept (sub hm) ?_
      exact h
    · extract_lets +onlyGivenNames x2
      clear_value x2
      extract_lets +onlyGivenNames x3
      clear_value x3
      extract_lets +onlyGivenNames x4
      have h5 : Kept m s0 x4 := by
        unfold x4
        refine sledCurrent_kept (sub hm) ?_
        refine sledSt_kept (sub hm) ?_
        refine setSled_kept (sub hm) ?_
        exact h
      clear_value x4
      refine homeStep_kept (sub hm) ?_
      exact h5

theorem linksUp_kept {α : Type} {m : State → α} (hm : ∀ u, m u = m { u with regs := [], out := [], lanes := [], links := [] })
    {s0 s : State} {a0} (h : Kept m s0 s) :
    Kept m s0 (linksUp a0 s) := by
  unfold linksUp
  refine startGroup_kept (sub hm) ?_
  refine fset_kept (sub hm) ?_
  refine fset_kept (sub hm) ?_
  refine fset_kept (sub hm) ?_
  refine fset_kept (sub hm) ?_
  exact h

theorem kickWatchdog_kept {α : Type} {m : State → α} (hm : ∀ u, m u = m { u with dev := {} })
    {s0 s : State} (h : Kept m s0 s) :
    Kept m s0 (kickWatchdog s) := by
  unfold kickWatchdog
  refine setDev_kept (sub hm) ?_
  exact h

theorem loadStores_kept {α : Type} {m : State → α} (hm : ∀ u, m u = m { u with regs := [], ustore := [], nstore := [] })
    {s0 s : State} {a0} (h : Kept m s0 s) :
    Kept m s0 (loadStores a0 s) := by
  unfold loadStores
  extract_lets +onlyGivenNames x1
  clear_value x1
  extract_lets +onlyGivenNames x2
  clear_value x2
  extract_lets +onlyGivenNames x3
  have h4 : Kept m s0 x3 := by
    unfold x3
    refine Kept.with hm ?_
    exact h
  clear_value x3
  refine foldl_kept (P := fun x => Kept m s0 x) ?_ ?_
  · intro y5 y6 y7
    refine fset_kept (sub hm) ?_
    refine fset_kept (sub hm) ?_
    refine fset_kept (sub hm) ?_
    refine fset_kept (sub hm) ?_
    refine fset_kept (sub hm) ?_
    exact y7
  · exact h4

theorem startImage_kept {α : Type} {m : State → α} (hm : ∀ u, m u = m { u with regs := [], evq := [], out := [], msixPend := 0, lanes := [], links := [], ustore := [], nstore := [], sleds := [], vault := {}, dev := {} })
    {s0 s : State} {a0} (h : Kept m s0 s) :
    Kept m s0 (startImage a0 s) := by
  unfold startImage
  extract_lets +onlyGivenNames x1
  clear_value x1
  extract_lets +onlyGivenNames x2
  clear_value x2
  extract_lets +onlyGivenNames x3
  clear_value x3
  extract_lets +onlyGivenNames x4
  clear_value x4
  extract_lets +onlyGivenNames x5
  have h6 : Kept m s0 x5 := by
    unfold x5
    refine measure_kept (sub hm) ?_
    exact h
  clear_value x5
  extract_lets +onlyGivenNames x7
  have h8 : Kept m s0 x7 := by
    unfold x7
    refine foldl_kept (P := fun x => Kept m s0 x) ?_ ?_
    · intro y9 y10 y11
      refine measure_kept (sub hm) ?_
      exact y11
    · exact h6
  clear_value x7
  refine homeStart_kept (sub hm) ?_
  refine homeStart_kept (sub hm) ?_
  refine linksUp_kept (sub hm) ?_
  refine linksUp_kept (sub hm) ?_
  refine fset_kept (sub hm) ?_
  refine fset_kept (sub hm) ?_
  refine fset_kept (sub hm) ?_
  refine fset_kept (sub hm) ?_
  refine fset_kept (sub hm) ?_
  refine emit_kept (sub hm) ?_
  refine fset_kept (sub hm) ?_
  refine kickWatchdog_kept (sub hm) ?_
  refine raise_kept (sub hm) ?_
  refine fset_kept (sub hm) ?_
  refine fset_kept (sub hm) ?_
  refine fset_kept (sub hm) ?_
  refine setVault_kept (sub hm) ?_
  refine loadStores_kept (sub hm) ?_
  exact h8

theorem boot_kept {α : Type} {m : State → α} (hm : ∀ u, m u = m { u with regs := [], evq := [], out := [], msixPend := 0, lanes := [], links := [], ustore := [], nstore := [], sleds := [], vault := {}, dev := {} })
    {s0 s : State} {a0} (h : Kept m s0 s) :
    Kept m s0 (boot a0 s) := by
  unfold boot
  extract_lets +onlyGivenNames x1
  clear_value x1
  extract_lets +onlyGivenNames x2
  have h3 : Kept m s0 x2 := by
    unfold x2
    refine bootMeasures_kept (sub hm) ?_
    refine setDev_kept (sub hm) ?_
    refine fset_kept (sub hm) ?_
    refine fset_kept (sub hm) ?_
    refine fset_kept (sub hm) ?_
    exact h
  clear_value x2
  have hc := chooseImage_kept (sub hm) h3
  split
  · rename_i t e
    rw [e] at hc
    exact hc
  · rename_i slot t e
    rw [e] at hc
    dsimp only
    refine ite_kept (P := fun x => Kept m s0 x) ?_ ?_
    · exact trainDram_kept (sub hm) hc
    · exact startImage_kept (sub hm) (trainDram_kept (sub hm) hc)

theorem bootCtlGo_kept {α : Type} {m : State → α} (hm : ∀ u, m u = m { u with regs := [], dev := {} })
    {s0 s : State} (h : Kept m s0 s) :
    Kept m s0 (bootCtlGo s) := by
  unfold bootCtlGo
  extract_lets +onlyGivenNames x1
  clear_value x1
  refine ite_kept (P := fun x => Kept m s0 x) ?_ ?_
  · exact h
  · split
    · rename_i v2 v3 v4 v5
      extract_lets +onlyGivenNames x6
      clear_value x6
      refine fset_kept (sub hm) ?_
      refine setDev_kept (sub hm) ?_
      exact h

theorem bumpIdx_kept {α : Type} {m : State → α} (hm : ∀ u, m u = m { u with regs := [] })
    {s0 s : State} {a0 a1} (h : Kept m s0 s) :
    Kept m s0 (bumpIdx a0 a1 s) := by
  unfold bumpIdx
  refine ite_kept (P := fun x => Kept m s0 x) ?_ ?_
  · refine fset_kept (sub hm) ?_
    exact h
  · exact h

theorem busError_kept {α : Type} {m : State → α} (hm : ∀ u, m u = m { u with regs := [], out := [], msixPend := 0 })
    {s0 s : State} {a0 a1 a2 a3} (h : Kept m s0 s) :
    Kept m s0 (busError a0 a1 a2 a3 s) := by
  unfold busError
  extract_lets +onlyGivenNames x1
  clear_value x1
  extract_lets +onlyGivenNames x2
  have h3 : Kept m s0 x2 := by
    unfold x2
    refine fset_kept (sub hm) ?_
    refine cnt_kept (sub hm) ?_
    exact h
  clear_value x2
  extract_lets +onlyGivenNames x4
  have h5 : Kept m s0 x4 := by
    unfold x4
    refine ite_kept (P := fun x => Kept m s0 x) ?_ ?_
    · refine sticky_kept (sub hm) ?_
      exact h3
    · refine raise_kept (sub hm) ?_
      refine fset64_kept (sub hm) ?_
      refine fset_kept (sub hm) ?_
      refine fset_kept (sub hm) ?_
      refine fset_kept (sub hm) ?_
      refine fsetB_kept (sub hm) ?_
      refine fset_kept (sub hm) ?_
      exact h3
  clear_value x4
  refine ite_kept (P := fun x => Kept m s0 x) ?_ ?_
  · refine fault_kept (sub hm) ?_
    refine raise_kept (sub hm) ?_
    exact h5
  · exact h5

theorem fmin_kept {α : Type} {m : State → α} (hm : ∀ u, m u = m { u with regs := [] })
    {s0 s : State} {a0 a1 a2} (h : Kept m s0 s) :
    Kept m s0 (fmin a0 a1 a2 s) := by
  unfold fmin
  refine ite_kept (P := fun x => Kept m s0 x) ?_ ?_
  · refine fset_kept (sub hm) ?_
    exact h
  · exact h

theorem busReads_kept {α : Type} {m : State → α} (hm : ∀ u, m u = m { u with regs := [] })
    {s0 s : State} {a0} (h : Kept m s0 s) :
    Kept m s0 (busReads a0 s) := by
  unfold busReads
  refine fmin_kept (sub hm) ?_
  refine fset_kept (sub hm) ?_
  exact h

theorem withFree_kept {α : Type} {m : State → α} (hm : ∀ u, m u = m { u with free := 0 })
    {s0 s : State} {a0} (hf0 : ∀ y0 y1, Kept m s0 y1 → Kept m s0 (a0 y0 y1)) (h : Kept m s0 s) :
    Kept m s0 (withFree a0 s) := by
  unfold withFree
  refine hf0 _ _ ?_
  refine Kept.freed hm ?_
  exact h

theorem calFail_kept {α : Type} {m : State → α} (hm : ∀ u, m u = m { u with regs := [], evq := [], commons := [] })
    {s0 s : State} {a0 a1} (h : Kept m s0 s) :
    Kept m s0 (calFail a0 a1 s) := by
  unfold calFail
  refine ite_kept (P := fun x => Kept m s0 x) ?_ ?_
  · extract_lets +onlyGivenNames x1
    clear_value x1
    extract_lets +onlyGivenNames x2
    clear_value x2
    extract_lets +onlyGivenNames x3
    have h4 : Kept m s0 x3 := by
      unfold x3
      split
      · rename_i v5 v6 v7
        refine setCommon_kept (sub hm) ?_
        exact h
      · rename_i v8 v9
        exact h
    clear_value x3
    refine emit_kept (sub hm) ?_
    refine fset_kept (sub hm) ?_
    refine fset_kept (sub hm) ?_
    exact h4
  · exact h

theorem calGo_kept {α : Type} {m : State → α} (hm : ∀ u, m u = m { u with regs := [], evq := [], commons := [] })
    {s0 s : State} {a0 a1 a2 a3 a4} (hf0 : ∀ y0, Kept m s0 y0 → Kept m s0 (a4 y0)) (h : Kept m s0 s) :
    Kept m s0 (calGo a0 a1 a2 a3 a4 s) := by
  unfold calGo
  extract_lets +onlyGivenNames x1
  clear_value x1
  refine ite_kept (P := fun x => Kept m s0 x) ?_ ?_
  · exact h
  · extract_lets +onlyGivenNames x2
    have h3 : Kept m s0 x2 := by
      unfold x2
      refine fset_kept (sub hm) ?_
      refine fset_kept (sub hm) ?_
      refine fset_kept (sub hm) ?_
      refine fset_kept (sub hm) ?_
      refine fset_kept (sub hm) ?_
      refine fset_kept (sub hm) ?_
      exact h
    clear_value x2
    refine ite_kept (P := fun x => Kept m s0 x) ?_ ?_
    · refine hf0 _ ?_
      exact h3
    · refine calFail_kept (sub hm) ?_
      refine setCommon_kept (sub hm) ?_
      exact h3

theorem calDone_kept {α : Type} {m : State → α} (hm : ∀ u, m u = m { u with regs := [], evq := [] })
    {s0 s : State} {a0 a1} (h : Kept m s0 s) :
    Kept m s0 (calDone a0 a1 s) := by
  unfold calDone
  extract_lets +onlyGivenNames x1
  clear_value x1
  refine emit_kept (sub hm) ?_
  refine fset_kept (sub hm) ?_
  refine fset_kept (sub hm) ?_
  exact h

theorem execPushPullBalance_kept {α : Type} {m : State → α} (hm : ∀ u, m u = m { u with free := 0, regs := [], evq := [], commons := [] })
    {s0 s : State} {a0 a1 a2 a3} (h : Kept m s0 s) :
    KeptR m s0 (execPushPullBalance a0 a1 a2 a3 s) := by
  unfold execPushPullBalance
  extract_lets +onlyGivenNames x1
  clear_value x1
  extract_lets +onlyGivenNames x2
  clear_value x2
  refine KeptR.next ?_
  refine calGo_kept (sub hm) ?_ ?_
  · intro y3 y4
    beta_reduce
    refine ite_kept (P := fun x => Kept m s0 x) ?_ ?_
    · refine withFree_kept (sub hm) ?_ ?_
      · intro y5 y6 y7
        refine calDone_kept (sub hm) ?_
        exact y7
      · refine setCommon_kept (sub hm) ?_
        refine fset_kept (sub hm) ?_
        refine fset_kept (sub hm) ?_
        refine fset_kept (sub hm) ?_
        exact y4
    · refine calDone_kept (sub hm) ?_
      refine setCommon_kept (sub hm) ?_
      refine fset_kept (sub hm) ?_
      refine fset_kept (sub hm) ?_
      refine fset_kept (sub hm) ?_
      exact y4
  · exact h

theorem sweepStart_kept {α : Type} {m : State → α} (hm : ∀ u, m u = m { u with regs := [], commons := [] })
    {s0 s : State} {a0 a1 a2 a3} (h : Kept m s0 s) :
    Kept m s0 (sweepStart a0 a1 a2 a3 s) := by
  unfold sweepStart
  extract_lets +onlyGivenNames x1
  clear_value x1
  refine fset_kept (sub hm) ?_
  refine setCommon_kept (sub hm) ?_
  exact h

theorem execSaPresetCal_kept {α : Type} {m : State → α} (hm : ∀ u, m u = m { u with regs := [], evq := [], commons := [] })
    {s0 s : State} {a0 a1} (h : Kept m s0 s) :
    KeptR m s0 (execSaPresetCal a0 a1 s) := by
  unfold execSaPresetCal
  refine KeptR.next ?_
  refine calGo_kept (sub hm) ?_ ?_
  · intro y1 y2
    refine sweepStart_kept (sub hm) ?_
    exact y2
  · exact h

theorem execRadialTiltCal_kept {α : Type} {m : State → α} (hm : ∀ u, m u = m { u with regs := [], evq := [], commons := [] })
    {s0 s : State} {a0 a1 a2} (h : Kept m s0 s) :
    KeptR m s0 (execRadialTiltCal a0 a1 a2 s) := by
  unfold execRadialTiltCal
  refine KeptR.next ?_
  refine calGo_kept (sub hm) ?_ ?_
  · intro y1 y2
    refine sweepStart_kept (sub hm) ?_
    exact y2
  · exact h

theorem execTangentialTiltCal_kept {α : Type} {m : State → α} (hm : ∀ u, m u = m { u with regs := [], evq := [], commons := [] })
    {s0 s : State} {a0 a1 a2} (h : Kept m s0 s) :
    KeptR m s0 (execTangentialTiltCal a0 a1 a2 s) := by
  unfold execTangentialTiltCal
  refine KeptR.next ?_
  refine calGo_kept (sub hm) ?_ ?_
  · intro y1 y2
    refine sweepStart_kept (sub hm) ?_
    exact y2
  · exact h

theorem execFocusOffsetCal_kept {α : Type} {m : State → α} (hm : ∀ u, m u = m { u with regs := [], evq := [], commons := [] })
    {s0 s : State} {a0 a1} (h : Kept m s0 s) :
    KeptR m s0 (execFocusOffsetCal a0 a1 s) := by
  unfold execFocusOffsetCal
  refine KeptR.next ?_
  refine calGo_kept (sub hm) ?_ ?_
  · intro y1 y2
    refine sweepStart_kept (sub hm) ?_
    exact y2
  · exact h

theorem calCommand_kept {α : Type} {m : State → α} (hm : ∀ u, m u = m { u with free := 0, regs := [], evq := [], commons := [] })
    {s0 s : State} {a0} (h : Kept m s0 s) :
    Kept m s0 (calCommand a0 s) := by
  unfold calCommand
  extract_lets +onlyGivenNames x1
  clear_value x1
  extract_lets +onlyGivenNames x2
  clear_value x2
  extract_lets +onlyGivenNames x3
  clear_value x3
  extract_lets +onlyGivenNames x4
  clear_value x4
  refine ite_kept (P := fun x => Kept m s0 x) ?_ ?_
  · refine withFree_kept (sub hm) ?_ ?_
    · intro y5 y6 y7
      refine withFree_kept (sub hm) ?_ ?_
      · intro y8 y9 y10
        refine after_kept ?_ ?_
        · refine execPushPullBalance_kept (sub hm) ?_
          exact y10
        · exact y10
      · exact y7
    · exact h
  · refine ite_kept (P := fun x => Kept m s0 x) ?_ ?_
    · refine after_kept ?_ ?_
      · refine execSaPresetCal_kept (sub hm) ?_
        exact h
      · exact h
    · refine ite_kept (P := fun x => Kept m s0 x) ?_ ?_
      · refine after_kept ?_ ?_
        · refine execRadialTiltCal_kept (sub hm) ?_
          exact h
        · exact h
      · refine ite_kept (P := fun x => Kept m s0 x) ?_ ?_
        · refine after_kept ?_ ?_
          · refine execTangentialTiltCal_kept (sub hm) ?_
            exact h
          · exact h
        · refine ite_kept (P := fun x => Kept m s0 x) ?_ ?_
          · refine after_kept ?_ ?_
            · refine execFocusOffsetCal_kept (sub hm) ?_
              exact h
            · exact h
          · exact h

theorem calPut_kept {α : Type} {m : State → α} (hm : ∀ u, m u = m { u with regs := [], dmem := [] })
    {s0 s : State} {a0 a1 a2 a3 a4} (h : Kept m s0 s) :
    Kept m s0 (calPut a0 a1 a2 a3 a4 s) := by
  unfold calPut
  refine ite_kept (P := fun x => Kept m s0 x) ?_ ?_
  · refine fsetI_kept (sub hm) ?_
    exact h
  · refine ite_kept (P := fun x => Kept m s0 x) ?_ ?_
    · refine fsetI_kept (sub hm) ?_
      exact h
    · refine ite_kept (P := fun x => Kept m s0 x) ?_ ?_
      · refine fsetI_kept (sub hm) ?_
        exact h
      · refine dmPut_kept (sub hm) ?_
        exact h

theorem calGap_kept {α : Type} {m : State → α} (hm : ∀ u, m u = m { u with regs := [], dmem := [], commons := [] })
    {s0 s : State} {a0} (h : Kept m s0 s) :
    Kept m s0 (calGap a0 s) := by
  unfold calGap
  extract_lets +onlyGivenNames x1
  clear_value x1
  split
  · rename_i v2 v3 v4 v5 v6 v7
    refine setCommon_kept (sub hm) ?_
    refine calPut_kept (sub hm) ?_
    exact h
  · rename_i v8 v9 v10
    exact h

theorem writeField_kept {α : Type} {m : State → α} (hm : ∀ u, m u = m { u with regs := [] })
    {s0 s : State} {a0 a1 a3} (h : Kept m s0 s) :
    Kept m s0 (writeField a0 a1 s a3) := by
  unfold writeField
  extract_lets +onlyGivenNames x1
  clear_value x1
  split
  · rename_i v2 v3
    refine fset_kept (sub hm) ?_
    exact h
  · rename_i v4 v5
    refine fset_kept (sub hm) ?_
    exact h
  · rename_i v6 v7
    refine fset_kept (sub hm) ?_
    exact h
  · rename_i v8 v9 v10 v11
    exact h

theorem regWrite_kept {α : Type} {m : State → α} (hm : ∀ u, m u = m { u with regs := [], out := [], msixPend := 0 })
    {s0 s : State} {a0 a1 a2} (h : Kept m s0 s) :
    Kept m s0 (regWrite a0 a1 a2 s) := by
  unfold regWrite
  refine ite_kept (P := fun x => Kept m s0 x) ?_ ?_
  · refine intEdge_kept (sub hm) ?_
    refine foldl_kept (P := fun x => Kept m s0 x) ?_ ?_
    · intro y1 y2 y3
      refine fset_kept (sub hm) ?_
      exact y3
    · exact h
  · extract_lets +onlyGivenNames x4
    have h5 : Kept m s0 x4 := by
      unfold x4
      refine foldl_kept (P := fun x => Kept m s0 x) ?_ ?_
      · intro y6 y7 y8
        refine writeField_kept (sub hm) ?_
        exact y8
      · exact h
    clear_value x4
    refine ite_kept (P := fun x => Kept m s0 x) ?_ ?_
    · refine ite_kept (P := fun x => Kept m s0 x) ?_ ?_
      · refine routeMsix_kept (sub hm) ?_
        exact h5
      · exact h5
    · exact h5

theorem opcState_kept {α : Type} {m : State → α} (hm : ∀ u, m u = m { u with regs := [] })
    {s0 s : State} {a0 a1} (h : Kept m s0 s) :
    Kept m s0 (opcState a0 a1 s) := by
  unfold opcState
  refine fset_kept (sub hm) ?_
  exact h

theorem failLayer_kept {α : Type} {m : State → α} (hm : ∀ u, m u = m { u with regs := [], out := [], msixPend := 0, ends := [], encoded := [], mem := {}, cl := {} })
    {s0 s : State} {a0 a1} (h : Kept m s0 s) :
    Kept m s0 (failLayer a0 a1 s) := by
  unfold failLayer
  extract_lets +onlyGivenNames x1
  clear_value x1
  refine foldl_kept (P := fun x => Kept m s0 x) ?_ ?_
  · intro y2 y3 y4
    refine endCluster_kept (sub hm) ?_
    exact y4
  · refine Kept.with hm ?_
    exact h

theorem opcFail_kept {α : Type} {m : State → α} (hm : ∀ u, m u = m { u with regs := [], evq := [], out := [], msixPend := 0, ends := [], encoded := [], mem := {}, cl := {} })
    {s0 s : State} {a0 a1 a2} (h : Kept m s0 s) :
    Kept m s0 (opcFail a0 a1 a2 s) := by
  unfold opcFail
  extract_lets +onlyGivenNames x1
  have h2 : Kept m s0 x1 := by
    unfold x1
    refine emit_kept (sub hm) ?_
    refine cnt_kept (sub hm) ?_
    refine fault_kept (sub hm) ?_
    refine raise_kept (sub hm) ?_
    refine opcState_kept (sub hm) ?_
    exact h
  clear_value x1
  refine ite_kept (P := fun x => Kept m s0 x) ?_ ?_
  · exact h2
  · refine ite_kept (P := fun x => Kept m s0 x) ?_ ?_
    · refine fset_kept (sub hm) ?_
      exact h2
    · refine failLayer_kept (sub hm) ?_
      exact h2

theorem opcRecord_kept {α : Type} {m : State → α} (hm : ∀ u, m u = m { u with regs := [], evq := [], out := [], msixPend := 0 })
    {s0 s : State} {a0 a1} (h : Kept m s0 s) :
    Kept m s0 (opcRecord a0 a1 s) := by
  unfold opcRecord
  extract_lets +onlyGivenNames x1
  clear_value x1
  extract_lets +onlyGivenNames x2
  clear_value x2
  extract_lets +onlyGivenNames x3
  have h4 : Kept m s0 x3 := by
    unfold x3
    refine foldl_kept (P := fun x => Kept m s0 x) ?_ ?_
    · intro y5 y6 y7
      extract_lets +onlyGivenNames x8
      clear_value x8
      refine cnt64_kept (sub hm) ?_
      refine send_kept (sub hm) ?_
      exact y7
    · exact h
  clear_value x3
  extract_lets +onlyGivenNames x9
  have h10 : Kept m s0 x9 := by
    unfold x9
    refine fset_kept (sub hm) ?_
    exact h4
  clear_value x9
  refine ite_kept (P := fun x => Kept m s0 x) ?_ ?_
  · refine emit_kept (sub hm) ?_
    refine raise_kept (sub hm) ?_
    exact h10
  · exact h10

theorem showBetas_kept {α : Type} {m : State → α} (hm : ∀ u, m u = m { u with regs := [] })
    {s0 s : State} (h : Kept m s0 s) :
    Kept m s0 (showBetas s) := by
  unfold showBetas
  extract_lets +onlyGivenNames x1
  clear_value x1
  refine foldl_kept (P := fun x => Kept m s0 x) ?_ ?_
  · intro y2 y3 y4
    refine fsetI_kept (sub hm) ?_
    exact y4
  · exact h

theorem opcInstall_kept {α : Type} {m : State → α} (hm : ∀ u, m u = m { u with regs := [], opcs := [] })
    {s0 s : State} {a0 a1 a2} (h : Kept m s0 s) :
    Kept m s0 (opcInstall a0 a1 a2 s) := by
  unfold opcInstall
  extract_lets +onlyGivenNames x1
  clear_value x1
  extract_lets +onlyGivenNames x2
  have h3 : Kept m s0 x2 := by
    unfold x2
    refine foldl_kept (P := fun x => Kept m s0 x) ?_ ?_
    · intro y4 y5 y6
      refine fset_kept (sub hm) ?_
      refine fset_kept (sub hm) ?_
      exact y6
    · exact h
  clear_value x2
  refine fset_kept (sub hm) ?_
  refine Kept.with hm ?_
  exact h3

theorem execOpcRun_kept {α : Type} {m : State → α} (hm : ∀ u, m u = m { u with free := 0, regs := [], evq := [], out := [], msixPend := 0, ends := [], encoded := [], opcs := [], betas := [], mem := {}, cl := {} })
    {s0 s : State} {a0} (h : Kept m s0 s) :
    KeptR m s0 (execOpcRun a0 s) := by
  unfold execOpcRun
  extract_lets +onlyGivenNames x1
  clear_value x1
  extract_lets +onlyGivenNames x2
  clear_value x2
  extract_lets +onlyGivenNames x3
  clear_value x3
  refine ite_kept (P := fun x => KeptR m s0 x) ?_ ?_
  · refine KeptR.next ?_
    refine opcFail_kept (sub hm) ?_
    exact h
  · refine ite_kept (P := fun x => KeptR m s0 x) ?_ ?_
    · refine KeptR.next ?_
      refine opcFail_kept (sub hm) ?_
      exact h
    · refine ite_kept (P := fun x => KeptR m s0 x) ?_ ?_
      · refine KeptR.next ?_
        refine opcFail_kept (sub hm) ?_
        exact h
      · extract_lets +onlyGivenNames x4
        have h5 : Kept m s0 x4 := by
          unfold x4
          refine opcRecord_kept (sub hm) ?_
          exact h
        clear_value x4
        extract_lets +onlyGivenNames x6
        clear_value x6
        extract_lets +onlyGivenNames x7
        have h8 : Kept m s0 x7 := by
          unfold x7
          refine showBetas_kept (sub hm) ?_
          refine Kept.with hm ?_
          exact h5
        clear_value x7
        extract_lets +onlyGivenNames x9
        clear_value x9
        refine ite_kept (P := fun x => KeptR m s0 x) ?_ ?_
        · refine KeptR.next ?_
          refine opcFail_kept (sub hm) ?_
          exact h8
        · refine ite_kept (P := fun x => KeptR m s0 x) ?_ ?_
          · refine KeptR.next ?_
            refine opcFail_kept (sub hm) ?_
            exact h8
          · refine ite_kept (P := fun x => KeptR m s0 x) ?_ ?_
            · refine KeptR.next ?_
              refine opcFail_kept (sub hm) ?_
              exact h8
            · refine ite_kept (P := fun x => KeptR m s0 x) ?_ ?_
              · refine KeptR.next ?_
                refine opcFail_kept (sub hm) ?_
                exact h8
              · extract_lets +onlyGivenNames x10
                clear_value x10
                extract_lets +onlyGivenNames x11
                clear_value x11
                extract_lets +onlyGivenNames x12
                have h13 : Kept m s0 x12 := by
                  unfold x12
                  refine ite_kept (P := fun x => Kept m s0 x) ?_ ?_
                  · refine Kept.freed hm ?_
                    exact h8
                  · exact h8
                clear_value x12
                extract_lets +onlyGivenNames x14
                clear_value x14
                extract_lets +onlyGivenNames x15
                clear_value x15
                extract_lets +onlyGivenNames x16
                have h17 : Kept m s0 x16 := by
                  unfold x16
                  refine foldl_kept (P := fun x => Kept m s0 x) ?_ ?_
                  · intro y18 y19 y20
                    refine fset_kept (sub hm) ?_
                    refine fset_kept (sub hm) ?_
                    exact y20
                  · exact h13
                clear_value x16
                extract_lets +onlyGivenNames x21
                have h22 : Kept m s0 x21 := by
                  unfold x21
                  refine ite_kept (P := fun x => Kept m s0 x) ?_ ?_
                  · refine opcInstall_kept (sub hm) ?_
                    exact h17
                  · exact h17
                clear_value x21
                refine KeptR.next ?_
                refine emit_kept (sub hm) ?_
                refine cnt_kept (sub hm) ?_
                refine raise_kept (sub hm) ?_
                refine opcState_kept (sub hm) ?_
                exact h22

theorem calWrite_kept {α : Type} {m : State → α} (hm : ∀ u, m u = m { u with free := 0, regs := [], evq := [], out := [], msixPend := 0, ends := [], encoded := [], opcs := [], betas := [], mem := {}, cl := {} })
    {s0 s : State} {a0 a1} (h : Kept m s0 s) :
    Kept m s0 (calWrite a0 a1 s) := by
  unfold calWrite
  extract_lets +onlyGivenNames x1
  have h2 : Kept m s0 x1 := by
    unfold x1
    refine regWrite_kept (sub hm) ?_
    exact h
  clear_value x1
  refine ite_kept (P := fun x => Kept m s0 x) ?_ ?_
  · extract_lets +onlyGivenNames x3
    clear_value x3
    refine ite_kept (P := fun x => Kept m s0 x) ?_ ?_
    · exact h2
    · extract_lets +onlyGivenNames x4
      have h5 : Kept m s0 x4 := by
        unfold x4
        refine Kept.freed hm ?_
        exact h2
      clear_value x4
      refine after_kept ?_ ?_
      · refine execOpcRun_kept (sub hm) ?_
        exact h5
      · exact h5
  · refine ite_kept (P := fun x => Kept m s0 x) ?_ ?_
    · refine showBetas_kept (sub hm) ?_
      exact h2
    · exact h2

theorem push_kept {α : Type} {m : State → α} (hm : ∀ u, m u = m { u with engs := [] })
    {s0 s : State} {a0 a1} (h : Kept m s0 s) :
    KeptE m s0 (push a0 a1 s) := by
  unfold push
  extract_lets +onlyGivenNames x1
  clear_value x1
  refine ite_kept (P := fun x => KeptE m s0 x) ?_ ?_
  · refine KeptE.ok ?_
    refine setRegs_kept (sub hm) ?_
    exact h
  · exact KeptE.error

theorem callTo_kept {α : Type} {m : State → α} (hm : ∀ u, m u = m { u with regs := [], engs := [] })
    {s0 s : State} {a0 a1} (h : Kept m s0 s) :
    KeptE m s0 (callTo a0 a1 s) := by
  unfold callTo
  split
  · rename_i v1 v2 v3
    refine ite_kept (P := fun x => KeptE m s0 x) ?_ ?_
    · exact KeptE.error
    · refine KeptE.bind ?_ ?_
      · refine push_kept (sub hm) ?_
        exact h
      · intro y4 y5
        refine goto_kept (sub hm) ?_
        refine setEng_kept (sub hm) ?_
        exact y5
  · rename_i v6 v7
    refine KeptE.bind ?_ ?_
    · refine push_kept (sub hm) ?_
      exact h
    · intro y8 y9
      refine goto_kept (sub hm) ?_
      exact y9

theorem endModes_kept {α : Type} {m : State → α} (hm : ∀ u, m u = m { u with cl := {} })
    {s0 s : State} {a0} (h : Kept m s0 s) :
    Kept m s0 (endModes a0 s) := by
  unfold endModes
  refine foldl_kept (P := fun x => Kept m s0 x) ?_ ?_
  · intro y1 y2 y3
    split
    · rename_i v4 v5 v6
      refine ite_kept (P := fun x => Kept m s0 x) ?_ ?_
      · refine endNow_kept (sub hm) ?_
        exact y3
      · exact y3
    · rename_i v7 v8
      exact y3
  · exact h

theorem sataPower_kept {α : Type} {m : State → α} (hm : ∀ u, m u = m { u with free := 0, regs := [] })
    {s0 s : State} {a0} (h : Kept m s0 s) :
    Kept m s0 (sataPower a0 s) := by
  unfold sataPower
  extract_lets +onlyGivenNames x1
  clear_value x1
  refine ite_kept (P := fun x => Kept m s0 x) ?_ ?_
  · refine withFree_kept (sub hm) ?_ ?_
    · intro y2 y3 y4
      refine fset_kept (sub hm) ?_
      exact y4
    · exact h
  · refine ite_kept (P := fun x => Kept m s0 x) ?_ ?_
    · refine fset_kept (sub hm) ?_
      exact h
    · exact h

theorem modeReached_kept {α : Type} {m : State → α} (hm : ∀ u, m u = m { u with free := 0, regs := [], evq := [], out := [], msixPend := 0, cl := {}, port := {}, pwr := {} })
    {s0 s : State} {a0} (h : Kept m s0 s) :
    Kept m s0 (modeReached a0 s) := by
  unfold modeReached
  extract_lets +onlyGivenNames x1
  clear_value x1
  extract_lets +onlyGivenNames x2
  clear_value x2
  extract_lets +onlyGivenNames x3
  clear_value x3
  refine endModes_kept (sub hm) ?_
  refine sataPower_kept (sub hm) ?_
  refine ite_app_kept (P := fun x => Kept m s0 x) ?_ ?_
  · refine powerEvent_kept (sub hm) ?_
    refine emit_kept (sub hm) ?_
    refine raise_kept (sub hm) ?_
    refine fset_kept (sub hm) ?_
    refine fset_kept (sub hm) ?_
    refine fset_kept (sub hm) ?_
    refine setPwr_kept (sub hm) ?_
    exact h
  · refine ite_app_kept (P := fun x => Kept m s0 x) ?_ ?_
    · refine powerEvent_kept (sub hm) ?_
      refine emit_kept (sub hm) ?_
      refine raise_kept (sub hm) ?_
      refine fset_kept (sub hm) ?_
      refine fset_kept (sub hm) ?_
      refine fset_kept (sub hm) ?_
      refine setPwr_kept (sub hm) ?_
      exact h
    · refine id_kept (P := fun x => Kept m s0 x) ?_
      refine emit_kept (sub hm) ?_
      refine raise_kept (sub hm) ?_
      refine fset_kept (sub hm) ?_
      refine fset_kept (sub hm) ?_
      refine fset_kept (sub hm) ?_
      refine setPwr_kept (sub hm) ?_
      exact h

theorem pmbFail_kept {α : Type} {m : State → α} (hm : ∀ u, m u = m { u with regs := [], evq := [], out := [], msixPend := 0 })
    {s0 s : State} {a0 a1} (h : Kept m s0 s) :
    Kept m s0 (pmbFail a0 a1 s) := by
  unfold pmbFail
  refine emit_kept (sub hm) ?_
  refine fault_kept (sub hm) ?_
  refine raise_kept (sub hm) ?_
  exact h

theorem pmbWrite_kept {α : Type} {m : State → α} (hm : ∀ u, m u = m { u with regs := [], evq := [], out := [], msixPend := 0 })
    {s0 s : State} {a0 a1 a2 a3} (h : Kept m s0 s) :
    Kept m s0 (pmbWrite a0 a1 a2 a3 s) := by
  unfold pmbWrite
  refine ite_kept (P := fun x => Kept m s0 x) ?_ ?_
  · refine pmbFail_kept (sub hm) ?_
    exact h
  · refine send_kept (sub hm) ?_
    exact h

theorem railDown_kept {α : Type} {m : State → α} (hm : ∀ u, m u = m { u with regs := [], evq := [], out := [], msixPend := 0, pwr := {} })
    {s0 s : State} {a0 a1 a3} (h : Kept m s0 s) :
    Kept m s0 (railDown a0 a1 s a3) := by
  unfold railDown
  extract_lets +onlyGivenNames x1
  clear_value x1
  refine ite_kept (P := fun x => Kept m s0 x) ?_ ?_
  · refine pmbWrite_kept (sub hm) ?_
    exact h
  · refine ite_kept (P := fun x => Kept m s0 x) ?_ ?_
    · refine pmbWrite_kept (sub hm) ?_
      refine setPwr_kept (sub hm) ?_
      exact h
    · exact h

theorem railsDown_kept {α : Type} {m : State → α} (hm : ∀ u, m u = m { u with regs := [], evq := [], out := [], msixPend := 0, pwr := {} })
    {s0 s : State} {a0 a1} (h : Kept m s0 s) :
    Kept m s0 (railsDown a0 a1 s) := by
  unfold railsDown
  refine foldl_kept (P := fun x => Kept m s0 x) ?_ ?_
  · intro y1 y2 y3
    refine railDown_kept (sub hm) ?_
    exact y3
  · exact h

theorem linksDown_kept {α : Type} {m : State → α} (hm : ∀ u, m u = m { u with regs := [] })
    {s0 s : State} {a0} (h : Kept m s0 s) :
    Kept m s0 (linksDown a0 s) := by
  unfold linksDown
  refine groupState_kept (sub hm) ?_
  refine fset_kept (sub hm) ?_
  refine fset_kept (sub hm) ?_
  refine fset_kept (sub hm) ?_
  refine fset_kept (sub hm) ?_
  exact h

theorem calmStep_kept {α : Type} {m : State → α} (hm : ∀ u, m u = m { u with free := 0, regs := [], evq := [], out := [], msixPend := 0, engs := [], loops := [], spin := {}, cl := {}, port := {}, pwr := {} })
    {s0 s : State} {a0} (h : Kept m s0 s) :
    Kept m s0 (calmStep a0 s) := by
  unfold calmStep
  extract_lets +onlyGivenNames x1
  have h2 : Kept m s0 x1 := by
    unfold x1
    refine ite_kept (P := fun x => Kept m s0 x) ?_ ?_
    · exact h
    · refine beginTrans_kept (sub hm) ?_
      exact h
  clear_value x1
  refine ite_kept (P := fun x => Kept m s0 x) ?_ ?_
  · exact h2
  · extract_lets +onlyGivenNames x3
    clear_value x3
    extract_lets +onlyGivenNames x4
    have h5 : Kept m s0 x4 := by
      unfold x4
      refine ite_kept (P := fun x => Kept m s0 x) ?_ ?_
      · refine stopSpin_kept (sub hm) ?_
        refine parkHead_kept (sub hm) ?_
        refine parkHead_kept (sub hm) ?_
        exact h2
      · exact h2
    clear_value x4
    refine ite_kept (P := fun x => Kept m s0 x) ?_ ?_
    · refine modeReached_kept (sub hm) ?_
      refine railsDown_kept (sub hm) ?_
      refine linksDown_kept (sub hm) ?_
      refine linksDown_kept (sub hm) ?_
      exact h5
    · exact h5

theorem ccc_kept {α : Type} {m : State → α}
    {s0 s : State} {a0} (hf0 : ∀ y0, Kept m s0 y0 → Kept m s0 (a0 y0)) (h : Kept m s0 s) :
    KeptR m s0 (ccc a0 s) := by
  unfold ccc
  refine KeptR.next ?_
  refine ite_kept (P := fun x => Kept m s0 x) ?_ ?_
  · refine hf0 _ ?_
    exact h
  · exact h

theorem setTarget_kept {α : Type} {m : State → α} (hm : ∀ u, m u = m { u with regs := [], chans := [] })
    {s0 s : State} {a0 a1 a2} (h : Kept m s0 s) :
    Kept m s0 (setTarget a0 a1 a2 s) := by
  unfold setTarget
  extract_lets +onlyGivenNames x1
  clear_value x1
  extract_lets +onlyGivenNames x2
  clear_value x2
  refine fset_kept (sub hm) ?_
  refine fset_kept (sub hm) ?_
  refine fset_kept (sub hm) ?_
  refine fset_kept (sub hm) ?_
  refine fset_kept (sub hm) ?_
  refine fset_kept (sub hm) ?_
  refine Kept.with hm ?_
  exact h

theorem modeWrite_kept {α : Type} {m : State → α} (hm : ∀ u, m u = m { u with regs := [], chans := [] })
    {s0 s : State} {a0 a1} (h : Kept m s0 s) :
    Kept m s0 (modeWrite a0 a1 s) := by
  unfold modeWrite
  refine ite_kept (P := fun x => Kept m s0 x) ?_ ?_
  · refine sticky_kept (sub hm) ?_
    exact h
  · extract_lets +onlyGivenNames x1
    clear_value x1
    extract_lets +onlyGivenNames x2
    have h3 : Kept m s0 x2 := by
      unfold x2
      refine fset_kept (sub hm) ?_
      refine fset_kept (sub hm) ?_
      exact h
    clear_value x2
    refine ite_kept (P := fun x => Kept m s0 x) ?_ ?_
    · refine setTarget_kept (sub hm) ?_
      exact h3
    · exact h3

theorem targetWritten_kept {α : Type} {m : State → α} (hm : ∀ u, m u = m { u with regs := [] })
    {s0 s : State} {a0 a1} (h : Kept m s0 s) :
    Kept m s0 (targetWritten a0 a1 s) := by
  unfold targetWritten
  refine ite_kept (P := fun x => Kept m s0 x) ?_ ?_
  · refine fset_kept (sub hm) ?_
    exact h
  · exact h

theorem resetTaps_kept {α : Type} {m : State → α} (hm : ∀ u, m u = m { u with regs := [] })
    {s0 s : State} {a0 a1} (h : Kept m s0 s) :
    Kept m s0 (resetTaps a0 a1 s) := by
  unfold resetTaps
  refine foldl_kept (P := fun x => Kept m s0 x) ?_ ?_
  · intro y1 y2 y3
    refine fclr_kept (sub hm) ?_
    refine fclr_kept (sub hm) ?_
    exact y3
  · exact h

theorem chanWrite_kept {α : Type} {m : State → α} (hm : ∀ u, m u = m { u with regs := [], out := [], msixPend := 0, chans := [] })
    {s0 s : State} {a0 a1 a2} (h : Kept m s0 s) :
    Kept m s0 (chanWrite a0 a1 a2 s) := by
  unfold chanWrite
  extract_lets +onlyGivenNames x1
  clear_value x1
  extract_lets +onlyGivenNames x2
  clear_value x2
  refine ite_kept (P := fun x => Kept m s0 x) ?_ ?_
  · refine ite_kept (P := fun x => Kept m s0 x) ?_ ?_
    · refine modeWrite_kept (sub hm) ?_
      exact h
    · extract_lets +onlyGivenNames x3
      have h4 : Kept m s0 x3 := by
        unfold x3
        refine regWrite_kept (sub hm) ?_
        exact h
      clear_value x3
      refine ite_kept (P := fun x => Kept m s0 x) ?_ ?_
      · refine fclrs_kept (sub hm) ?_
        exact h4
      · exact h4
  · extract_lets +onlyGivenNames x5
    have h6 : Kept m s0 x5 := by
      unfold x5
      refine ite_app_kept (P := fun x => Kept m s0 x) ?_ ?_
      · refine targetWritten_kept (sub hm) ?_
        refine regWrite_kept (sub hm) ?_
        exact h
      · refine id_kept (P := fun x => Kept m s0 x) ?_
        refine regWrite_kept (sub hm) ?_
        exact h
    clear_value x5
    extract_lets +onlyGivenNames x7
    have h8 : Kept m s0 x7 := by
      unfold x7
      refine ite_kept (P := fun x => Kept m s0 x) ?_ ?_
      · refine fclrs_kept (sub hm) ?_
        exact h6
      · exact h6
    clear_value x7
    refine ite_kept (P := fun x => Kept m s0 x) ?_ ?_
    · refine resetTaps_kept (sub hm) ?_
      exact h8
    · exact h8

theorem channelBit_kept {α : Type} {m : State → α} (hm : ∀ u, m u = m { u with regs := [], chans := [] })
    {s0 s : State} {a0 a1 a2 a3} (h : Kept m s0 s) :
    Kept m s0 (channelBit a0 a1 a2 a3 s) := by
  unfold channelBit
  extract_lets +onlyGivenNames x1
  clear_value x1
  extract_lets +onlyGivenNames x2
  clear_value x2
  extract_lets +onlyGivenNames x3
  clear_value x3
  extract_lets +onlyGivenNames x4
  clear_value x4
  extract_lets +onlyGivenNames x5
  clear_value x5
  extract_lets +onlyGivenNames x6
  have h7 : Kept m s0 x6 := by
    unfold x6
    refine setChan_kept (sub hm) ?_
    exact h
  clear_value x6
  extract_lets +onlyGivenNames x8
  clear_value x8
  extract_lets +onlyGivenNames x9
  clear_value x9
  extract_lets +onlyGivenNames x10
  clear_value x10
  extract_lets +onlyGivenNames x11
  clear_value x11
  extract_lets +onlyGivenNames x12
  clear_value x12
  extract_lets +onlyGivenNames x13
  clear_value x13
  extract_lets +onlyGivenNames x14
  clear_value x14
  extract_lets +onlyGivenNames x15
  clear_value x15
  extract_lets +onlyGivenNames x16
  clear_value x16
  extract_lets +onlyGivenNames x17
  clear_value x17
  extract_lets +onlyGivenNames x18
  clear_value x18
  extract_lets +onlyGivenNames x19
  clear_value x19
  extract_lets +onlyGivenNames x20
  have h21 : Kept m s0 x20 := by
    unfold x20
    refine ite_kept (P := fun x => Kept m s0 x) ?_ ?_
    · refine sticky_kept (sub hm) ?_
      exact h7
    · exact h7
  clear_value x20
  extract_lets +onlyGivenNames x22
  clear_value x22
  extract_lets +onlyGivenNames x23
  clear_value x23
  extract_lets +onlyGivenNames x24
  have h25 : Kept m s0 x24 := by
    unfold x24
    refine setChan_kept (sub hm) ?_
    exact h21
  clear_value x24
  extract_lets +onlyGivenNames x26
  clear_value x26
  refine ite_kept (P := fun x => Kept m s0 x) ?_ ?_
  · refine adaptTaps_kept (sub hm) ?_
    refine fset_kept (sub hm) ?_
    exact h25
  · refine fset_kept (sub hm) ?_
    exact h25

theorem channelBits_kept {α : Type} {m : State → α} (hm : ∀ u, m u = m { u with regs := [], chans := [] })
    {s0 s : State} {a0 a1 a2 a3 a4} (h : Kept m s0 s) :
    Kept m s0 (channelBits a0 a1 a2 a3 a4 s) := by
  induction a4 generalizing s with
  | zero => exact h
  | succ n ih =>
    unfold channelBits
    refine ite_kept (P := fun x => Kept m s0 x) h ?_
    exact ih (channelBit_kept (sub hm) h)

theorem showFlock_kept {α : Type} {m : State → α} (hm : ∀ u, m u = m { u with regs := [] })
    {s0 s : State} {a0 a1 a2} (h : Kept m s0 s) :
    Kept m s0 (showFlock a0 a1 a2 s) := by
  unfold showFlock
  extract_lets +onlyGivenNames x1
  have h2 : Kept m s0 x1 := by
    unfold x1
    refine fsetB_kept (sub hm) ?_
    exact h
  clear_value x1
  refine ite_kept (P := fun x => Kept m s0 x) ?_ ?_
  · refine fsetB_kept (sub hm) ?_
    exact h2
  · exact h2

theorem flockLost_kept {α : Type} {m : State → α} (hm : ∀ u, m u = m { u with regs := [], evq := [], out := [], msixPend := 0, chans := [] })
    {s0 s : State} {a0 a1 a2} (h : Kept m s0 s) :
    Kept m s0 (flockLost a0 a1 a2 s) := by
  unfold flockLost
  refine ite_kept (P := fun x => Kept m s0 x) ?_ ?_
  · refine emit_kept (sub hm) ?_
    refine setChan_kept (sub hm) ?_
    refine cnt_kept (sub hm) ?_
    refine ite_app_kept (P := fun x => Kept m s0 x) ?_ ?_
    · refine raise_kept (sub hm) ?_
      refine raise_kept (sub hm) ?_
      refine fset_kept (sub hm) ?_
      refine showFlock_kept (sub hm) ?_
      exact h
    · refine id_kept (P := fun x => Kept m s0 x) ?_
      refine raise_kept (sub hm) ?_
      refine fset_kept (sub hm) ?_
      refine showFlock_kept (sub hm) ?_
      exact h
  · exact h

theorem checkIdent_kept {α : Type} {m : State → α} (hm : ∀ u, m u = m { u with regs := [], evq := [], out := [], msixPend := 0, chans := [] })
    {s0 s : State} {a0 a1 a2 a3} (h : Kept m s0 s) :
    Kept m s0 (checkIdent a0 a1 a2 a3 s) := by
  unfold checkIdent
  extract_lets +onlyGivenNames x1
  clear_value x1
  extract_lets +onlyGivenNames x2
  clear_value x2
  extract_lets +onlyGivenNames x3
  have h4 : Kept m s0 x3 := by
    unfold x3
    refine ite_kept (P := fun x => Kept m s0 x) ?_ ?_
    · refine fset_kept (sub hm) ?_
      exact h
    · refine fset_kept (sub hm) ?_
      exact h
  clear_value x3
  extract_lets +onlyGivenNames x5
  clear_value x5
  extract_lets +onlyGivenNames x6
  clear_value x6
  extract_lets +onlyGivenNames x7
  have h8 : Kept m s0 x7 := by
    unfold x7
    refine setChan_kept (sub hm) ?_
    exact h4
  clear_value x7
  extract_lets +onlyGivenNames x9
  have h10 : Kept m s0 x9 := by
    unfold x9
    refine ite_kept (P := fun x => Kept m s0 x) ?_ ?_
    · exact h8
    · refine cnt_kept (sub hm) ?_
      exact h8
  clear_value x9
  refine ite_kept (P := fun x => Kept m s0 x) ?_ ?_
  · exact h10
  · refine fset_kept (sub hm) ?_
    refine flockLost_kept (sub hm) ?_
    exact h10

theorem checkSeq_kept {α : Type} {m : State → α} (hm : ∀ u, m u = m { u with regs := [], out := [], msixPend := 0, lanes := [] })
    {s0 s : State} {a0 a1 a2 a3} (h : Kept m s0 s) :
    Kept m s0 (checkSeq a0 a1 a2 a3 s) := by
  unfold checkSeq
  extract_lets +onlyGivenNames x1
  clear_value x1
  extract_lets +onlyGivenNames x2
  clear_value x2
  extract_lets +onlyGivenNames x3
  have h4 : Kept m s0 x3 := by
    unfold x3
    refine setLane_kept (sub hm) ?_
    exact h
  clear_value x3
  split
  · rename_i v5 v6
    exact h4
  · rename_i v7 v8 v9
    extract_lets +onlyGivenNames x10
    clear_value x10
    refine ite_kept (P := fun x => Kept m s0 x) ?_ ?_
    · exact h4
    · extract_lets +onlyGivenNames x11
      have h12 : Kept m s0 x11 := by
        unfold x11
        refine raise_kept (sub hm) ?_
        refine cnt_kept (sub hm) ?_
        exact h4
      clear_value x11
      refine ite_kept (P := fun x => Kept m s0 x) ?_ ?_
      · refine send_kept (sub hm) ?_
        exact h12
      · exact h12

theorem showFree_kept {α : Type} {m : State → α} (hm : ∀ u, m u = m { u with regs := [] })
    {s0 s : State} {a0} (h : Kept m s0 s) :
    Kept m s0 (showFree a0 s) := by
  unfold showFree
  extract_lets +onlyGivenNames x1
  clear_value x1
  extract_lets +onlyGivenNames x2
  clear_value x2
  extract_lets +onlyGivenNames x3
  clear_value x3
  refine fset_kept (sub hm) ?_
  refine fset_kept (sub hm) ?_
  exact h

theorem setWseq_kept {α : Type} {m : State → α} (hm : ∀ u, m u = m { u with regs := [] })
    {s0 s : State} {a0} (h : Kept m s0 s) :
    Kept m s0 (setWseq a0 s) := by
  unfold setWseq
  refine fset64_kept (sub hm) ?_
  exact h

theorem recordPart_kept {α : Type} {m : State → α} (hm : ∀ u, m u = m { u with regs := [], out := [], disc := {} })
    {s0 s : State} {a0 a1 a2 a3 a4 a5 a6 a7 a8} (h : Kept m s0 s) :
    KeptO m s0 (recordPart a0 a1 a2 a3 a4 a5 a6 a7 a8 s) := by
  unfold recordPart
  cases dczLayer a0 a1 a8 s with
  | none => exact .none
  | some l =>
    refine .some ?_
    dsimp only
    refine showFree_kept (sub hm) ?_
    refine cnt_kept (sub hm) ?_
    refine setWseq_kept (sub hm) ?_
    refine send_kept (sub hm) ?_
    refine setDisc_kept (sub hm) ?_
    exact h

theorem recordBlock_kept {α : Type} {m : State → α} (hm : ∀ u, m u = m { u with regs := [], out := [], disc := {} })
    {s0 s : State} {a0 a1 a2 a3 a4 a5 a6} (h : Kept m s0 s) :
    KeptO m s0 (recordBlock a0 a1 a2 a3 a4 a5 a6 s) := by
  unfold recordBlock
  refine recordPart_kept (sub hm) ?_
  exact h

theorem recordIntent_kept {α : Type} {m : State → α} (hm : ∀ u, m u = m { u with regs := [], out := [], disc := {} })
    {s0 s : State} {a0 a1} (h : Kept m s0 s) :
    KeptO m s0 (recordIntent a0 a1 s) := by
  unfold recordIntent
  extract_lets +onlyGivenNames x1
  clear_value x1
  extract_lets +onlyGivenNames x2
  clear_value x2
  extract_lets +onlyGivenNames x3
  clear_value x3
  refine KeptO.map ?_ ?_
  · refine recordBlock_kept (sub hm) ?_
    exact h
  · intro y4 y5
    refine setDisc_kept (sub hm) ?_
    exact y5

theorem recordOn_kept {α : Type} {m : State → α} (hm : ∀ u, m u = m { u with regs := [], out := [], disc := {} })
    {s0 s : State} {a0 a1 a2} (h : Kept m s0 s) :
    KeptO m s0 (recordOn a0 a1 a2 s) := by
  induction a2 generalizing s with
  | nil => exact .some h
  | cons d ds ih => exact KeptO.bind (recordIntent_kept (sub hm) h) fun t ht => ih ht

theorem checkpoint_kept {α : Type} {m : State → α} (hm : ∀ u, m u = m { u with regs := [], evq := [], out := [], msixPend := 0, disc := {} })
    {s0 s : State} {a0 a1} (h : Kept m s0 s) :
    KeptO m s0 (checkpoint a0 a1 s) := by
  unfold checkpoint
  extract_lets +onlyGivenNames x1
  clear_value x1
  extract_lets +onlyGivenNames x2
  clear_value x2
  extract_lets +onlyGivenNames x3
  clear_value x3
  refine KeptO.map ?_ ?_
  · refine recordOn_kept (sub hm) ?_
    exact h
  · intro y4 y5
    refine cnt_kept (sub hm) ?_
    refine raise_kept (sub hm) ?_
    refine fset64_kept (sub hm) ?_
    refine fset_kept (sub hm) ?_
    refine foldl_kept (P := fun x => Kept m s0 x) ?_ ?_
    · intro y6 y7 y8
      refine emit_kept (sub hm) ?_
      exact y8
    · exact y5

theorem dramCorr_kept {α : Type} {m : State → α} (hm : ∀ u, m u = m { u with regs := [], evq := [], out := [], msixPend := 0, mem := {} })
    {s0 s : State} {a0 a1} (h : Kept m s0 s) :
    Kept m s0 (dramCorr a0 a1 s) := by
  unfold dramCorr
  extract_lets +onlyGivenNames x1
  clear_value x1
  extract_lets +onlyGivenNames x2
  clear_value x2
  extract_lets +onlyGivenNames x3
  clear_value x3
  extract_lets +onlyGivenNames x4
  have h5 : Kept m s0 x4 := by
    unfold x4
    refine setMem_kept (sub hm) ?_
    refine raise_kept (sub hm) ?_
    refine cnt_kept (sub hm) ?_
    exact h
  clear_value x4
  refine ite_kept (P := fun x => Kept m s0 x) ?_ ?_
  · refine emit_kept (sub hm) ?_
    exact h5
  · exact h5

theorem chunkErr_kept {α : Type} {m : State → α} (hm : ∀ u, m u = m { u with regs := [], evq := [], out := [], msixPend := 0, mem := {} })
    {s0 s : State} {a0 a2} (h : Kept m s0 s) :
    Kept m s0 (chunkErr a0 s a2) := by
  unfold chunkErr
  extract_lets +onlyGivenNames x1
  clear_value x1
  extract_lets +onlyGivenNames x2
  clear_value x2
  extract_lets +onlyGivenNames x3
  have h4 : Kept m s0 x3 := by
    unfold x3
    refine fset_kept (sub hm) ?_
    refine fset_kept (sub hm) ?_
    exact h
  clear_value x3
  split
  · rename_i v5 v6
    refine dramCorr_kept (sub hm) ?_
    refine fset_kept (sub hm) ?_
    exact h4
  · rename_i v7 v8 v9
    refine dramCorr_kept (sub hm) ?_
    refine fset_kept (sub hm) ?_
    refine fset_kept (sub hm) ?_
    exact h4
  · rename_i v10 v11 v12
    refine emit_kept (sub hm) ?_
    refine raise_kept (sub hm) ?_
    refine cnt_kept (sub hm) ?_
    refine fset_kept (sub hm) ?_
    refine fset_kept (sub hm) ?_
    exact h4
  · rename_i v13 v14 v15
    refine emit_kept (sub hm) ?_
    refine raise_kept (sub hm) ?_
    refine cnt_kept (sub hm) ?_
    refine fset_kept (sub hm) ?_
    refine fset_kept (sub hm) ?_
    exact h4
  · rename_i v16 v17 v18
    refine emit_kept (sub hm) ?_
    refine raise_kept (sub hm) ?_
    refine cnt_kept (sub hm) ?_
    refine fset_kept (sub hm) ?_
    refine fset_kept (sub hm) ?_
    exact h4

theorem showSem_kept {α : Type} {m : State → α} (hm : ∀ u, m u = m { u with regs := [] })
    {s0 s : State} {a0} (h : Kept m s0 s) :
    Kept m s0 (showSem a0 s) := by
  unfold showSem
  extract_lets +onlyGivenNames x1
  clear_value x1
  refine fset_kept (sub hm) ?_
  exact h

theorem takeClaim_kept {α : Type} {m : State → α} (hm : ∀ u, m u = m { u with claims := [] })
    {s0 s : State} {a0 a1} (h : Kept m s0 s) :
    Kept m s0 (takeClaim a0 a1 s) := by
  unfold takeClaim
  extract_lets +onlyGivenNames x1
  clear_value x1
  split
  · rename_i v2 v3 v4 v5 v6
    exact h
  · rename_i v7 v8 v9
    exact h
  · rename_i v10 v11 v12 v13
    refine setClaim_kept (sub hm) ?_
    exact h
  · rename_i v14 v15 v16 v17 v18 v19
    split
    · rename_i v20 v21
      exact h
    · rename_i v22 v23 v24
      refine setClaim_kept (sub hm) ?_
      exact h

theorem claimRead_kept {α : Type} {m : State → α} (hm : ∀ u, m u = m { u with regs := [], claims := [] })
    {s0 s : State} {a0 a1} (h : Kept m s0 s) :
    Kept m s0 (claimRead a0 a1 s) := by
  unfold claimRead
  refine ite_app_kept (P := fun x => Kept m s0 x) ?_ ?_
  · refine showSem_kept (sub hm) ?_
    refine takeClaim_kept (sub hm) ?_
    exact h
  · refine id_kept (P := fun x => Kept m s0 x) ?_
    refine takeClaim_kept (sub hm) ?_
    exact h

theorem claimReads_kept {α : Type} {m : State → α} (hm : ∀ u, m u = m { u with out := [], claims := [] })
    {s0 s : State} {a0 a1} (h : Kept m s0 s) :
    Kept m s0 (claimReads a0 a1 s) := by
  unfold claimReads
  extract_lets +onlyGivenNames x1
  have h2 : Kept m s0 x1 := by
    unfold x1
    refine takeClaim_kept (sub hm) ?_
    exact h
  clear_value x1
  refine foldl_kept (P := fun x => Kept m s0 x) ?_ ?_
  · intro y3 y4 y5
    refine send_kept (sub hm) ?_
    exact y5
  · exact h2

theorem dramWrite_kept {α : Type} {m : State → α} (hm : ∀ u, m u = m { u with regs := [], out := [], msixPend := 0, mem := {} })
    {s0 s : State} {a0 a1 a2} (h : Kept m s0 s) :
    Kept m s0 (dramWrite a0 a1 a2 s) := by
  unfold dramWrite
  refine ite_app_kept (P := fun x => Kept m s0 x) ?_ ?_
  · refine cnt_kept (sub hm) ?_
    refine pmc_kept (sub hm) ?_
    refine cnt64_kept (sub hm) ?_
    refine setMem_kept (sub hm) ?_
    exact h
  · refine id_kept (P := fun x => Kept m s0 x) ?_
    refine pmc_kept (sub hm) ?_
    refine cnt64_kept (sub hm) ?_
    refine setMem_kept (sub hm) ?_
    exact h

theorem cleanLine_kept {α : Type} {m : State → α} (hm : ∀ u, m u = m { u with regs := [], out := [], msixPend := 0, mem := {} })
    {s0 s : State} {a0 a1} (h : Kept m s0 s) :
    Kept m s0 (cleanLine a0 a1 s) := by
  unfold cleanLine
  refine ite_kept (P := fun x => Kept m s0 x) ?_ ?_
  · refine putLine_kept (sub hm) ?_
    refine dramWrite_kept (sub hm) ?_
    exact h
  · exact h

theorem logWrite_kept {α : Type} {m : State → α} (hm : ∀ u, m u = m { u with dev := {}, obs := {} })
    {s0 s : State} {a0} (h : Kept m s0 s) :
    Kept m s0 (logWrite a0 s) := by
  unfold logWrite
  extract_lets +onlyGivenNames x1
  clear_value x1
  beta_reduce
  refine setObs_kept (sub hm) ?_
  refine flashStore_kept (sub hm) ?_
  exact h

theorem logEnd_kept {α : Type} {m : State → α} (hm : ∀ u, m u = m { u with regs := [], out := [], msixPend := 0, dev := {}, obs := {} })
    {s0 s : State} (h : Kept m s0 s) :
    Kept m s0 (logEnd s) := by
  unfold logEnd
  refine ite_kept (P := fun x => Kept m s0 x) ?_ ?_
  · split
    · rename_i v1 v2 v3 v4
      have h5 : Kept m s0 ((v2, v3)).2 := by
        rw [← v4]
        refine makeRecord_kept (sub hm) ?_
        exact h
      extract_lets +onlyGivenNames x6
      have h7 : Kept m s0 x6 := by
        unfold x6
        refine logWrite_kept (sub hm) ?_
        exact h5
      clear_value x6
      refine raise_kept (sub hm) ?_
      refine fset_kept (sub hm) ?_
      refine setObs_kept (sub hm) ?_
      refine cntN_kept (sub hm) ?_
      exact h7
  · exact h

theorem commitOldest_kept {α : Type} {m : State → α} (hm : ∀ u, m u = m { u with regs := [], out := [], msixPend := 0, dev := {}, obs := {} })
    {s0 s : State} (h : Kept m s0 s) :
    Kept m s0 (commitOldest s) := by
  unfold commitOldest
  split
  · rename_i v1 v2
    exact h
  · rename_i v3 v4 v5 v6
    refine logEnd_kept (sub hm) ?_
    refine logWrite_kept (sub hm) ?_
    refine setObs_kept (sub hm) ?_
    exact h

theorem flushTo_kept {α : Type} {m : State → α} (hm : ∀ u, m u = m { u with regs := [], out := [], msixPend := 0, dev := {}, obs := {} })
    {s0 s : State} {a0} (h : Kept m s0 s) :
    Kept m s0 (flushTo a0 s) := by
  induction a0 generalizing s with
  | zero => exact h
  | succ n ih =>
    unfold flushTo
    exact ite_kept (P := fun x => Kept m s0 x) h (ih (commitOldest_kept (sub hm) h))

theorem clearLog_kept {α : Type} {m : State → α} (hm : ∀ u, m u = m { u with regs := [], out := [], msixPend := 0, dev := {}, obs := {} })
    {s0 s : State} {a0 a1 a2} (h : Kept m s0 s) :
    Kept m s0 (clearLog a0 a1 a2 s) := by
  unfold clearLog
  extract_lets +onlyGivenNames x1
  clear_value x1
  extract_lets +onlyGivenNames x2
  have h3 : Kept m s0 x2 := by
    unfold x2
    refine flushTo_kept (sub hm) ?_
    exact h
  clear_value x2
  extract_lets +onlyGivenNames x4
  clear_value x4
  extract_lets +onlyGivenNames x5
  clear_value x5
  extract_lets +onlyGivenNames x6
  clear_value x6
  extract_lets +onlyGivenNames x7
  have h8 : Kept m s0 x7 := by
    unfold x7
    refine fset_kept (sub hm) ?_
    refine fset_kept (sub hm) ?_
    refine setObs_kept (sub hm) ?_
    refine flashErase_kept (sub hm) ?_
    exact h3
  clear_value x7
  split
  · rename_i v9 v10 v11 v12
    have h13 : Kept m s0 ((v10, v11)).2 := by
      rw [← v12]
      refine makeRecord_kept (sub hm) ?_
      exact h8
    refine raise_kept (sub hm) ?_
    refine fset_kept (sub hm) ?_
    refine fset_kept (sub hm) ?_
    refine showLog_kept (sub hm) ?_
    refine logWrite_kept (sub hm) ?_
    exact h13

theorem keyMissing_kept {α : Type} {m : State → α} (hm : ∀ u, m u = m { u with regs := [], out := [], msixPend := 0 })
    {s0 s : State} (h : Kept m s0 s) :
    Kept m s0 (keyMissing s) := by
  unfold keyMissing
  refine cnt_kept (sub hm) ?_
  refine fault_kept (sub hm) ?_
  refine raise_kept (sub hm) ?_
  exact h

theorem endRead_kept {α : Type} {m : State → α} (hm : ∀ u, m u = m { u with regs := [], out := [], msixPend := 0, ends := [], mem := {}, cl := {} })
    {s0 s : State} {a0 a1 a2 a3 a4} (h : Kept m s0 s) :
    Kept m s0 (endRead a0 a1 a2 a3 a4 s) := by
  unfold endRead
  extract_lets +onlyGivenNames x1
  have h2 : Kept m s0 x1 := by
    unfold x1
    refine ite_kept (P := fun x => Kept m s0 x) ?_ ?_
    · exact h
    · refine ite_kept (P := fun x => Kept m s0 x) ?_ ?_
      · refine cnt64_kept (sub hm) ?_
        exact h
      · refine keyMissing_kept (sub hm) ?_
        exact h
  clear_value x1
  refine endCluster_kept (sub hm) ?_
  exact h2

theorem unrecovered_kept {α : Type} {m : State → α} (hm : ∀ u, m u = m { u with regs := [], evq := [], out := [], msixPend := 0, ends := [], mem := {}, cl := {} })
    {s0 s : State} {a0 a1 a2 a3} (h : Kept m s0 s) :
    Kept m s0 (unrecovered a0 a1 a2 a3 s) := by
  unfold unrecovered
  refine emit_kept (sub hm) ?_
  refine endRead_kept (sub hm) ?_
  refine raise_kept (sub hm) ?_
  refine cnt_kept (sub hm) ?_
  exact h

theorem climb_kept {α : Type} {m : State → α} (hm : ∀ u, m u = m { u with regs := [], evq := [], out := [], msixPend := 0, ends := [], dec := {}, mem := {}, cl := {} })
    {s0 s : State} {a0 a1 a2} (h : Kept m s0 s) :
    Kept m s0 (climb a0 a1 a2 s) := by
  unfold climb
  extract_lets +onlyGivenNames x1
  clear_value x1
  extract_lets +onlyGivenNames x2
  have h3 : ∀ y4, Kept m s0 (x2 y4) := by
    intro y4
    unfold x2
    refine unrecovered_kept (sub hm) ?_
    refine sqRelease_kept (sub hm) ?_
    refine fmax_kept (sub hm) ?_
    exact h
  clear_value x2
  refine ite_kept (P := fun x => Kept m s0 x) ?_ ?_
  · exact h3 _
  · split
    · rename_i v5 v6
      refine ite_kept (P := fun x => Kept m s0 x) ?_ ?_
      · refine emit_kept (sub hm) ?_
        refine setDec_kept (sub hm) ?_
        exact h
      · exact h3 _
    · rename_i v7 v8 v9
      extract_lets +onlyGivenNames x10
      have h11 : Kept m s0 x10 := by
        unfold x10
        refine ite_kept (P := fun x => Kept m s0 x) ?_ ?_
        · refine emit_kept (sub hm) ?_
          exact h
        · exact h
      clear_value x10
      extract_lets +onlyGivenNames x12
      have h13 : Kept m s0 x12 := by
        unfold x12
        refine ite_kept (P := fun x => Kept m s0 x) ?_ ?_
        · exact h11
        · refine emit_kept (sub hm) ?_
          exact h11
      clear_value x12
      extract_lets +onlyGivenNames x14
      clear_value x14
      extract_lets +onlyGivenNames x15
      clear_value x15
      extract_lets +onlyGivenNames x16
      clear_value x16
      extract_lets +onlyGivenNames x17
      clear_value x17
      refine ite_kept (P := fun x => Kept m s0 x) ?_ ?_
      · refine fset_kept (sub hm) ?_
        refine setDec_kept (sub hm) ?_
        exact h13
      · refine setDec_kept (sub hm) ?_
        exact h13

theorem closeLoop_kept {α : Type} {m : State → α} (hm : ∀ u, m u = m { u with regs := [], spin := {} })
    {s0 s : State} {a0} (h : Kept m s0 s) :
    Kept m s0 (closeLoop a0 s) := by
  unfold closeLoop
  refine fset_kept (sub hm) ?_
  refine fset_kept (sub hm) ?_
  refine spinState_kept (sub hm) ?_
  refine setSpin_kept (sub hm) ?_
  exact h

theorem tookData_kept {α : Type} {m : State → α} (hm : ∀ u, m u = m { u with regs := [], out := [], msixPend := 0, cl := {} })
    {s0 s : State} {a0 a1 a2 a3} (h : Kept m s0 s) :
    Kept m s0 (tookData a0 a1 a2 a3 s) := by
  unfold tookData
  have hk : Kept m s0 ((if a2.req = 0 then pmc 0x05 256 (a3.length / 2048) else id)
      (modCmd a0 (fun c => { c with raw := c.raw.insert a1 a3 }) s)) := by
    refine ite_app_kept (P := fun x => Kept m s0 x) ?_ ?_
    · exact pmc_kept (sub hm) (modCmd_kept (sub hm) h)
    · exact modCmd_kept (sub hm) h
  cases a2.job with
  | some j => exact portMoved_kept (sub hm) hk
  | none =>
    refine ite_app_kept (P := fun x => Kept m s0 x) ?_ ?_
    · exact fromHost_kept (sub hm) hk
    · exact hk

theorem clusterArrived_kept {α : Type} {m : State → α} (hm : ∀ u, m u = m { u with regs := [], evq := [], out := [], msixPend := 0, disc := {}, dec := {}, encoded := [], mem := {}, lanesC := [], cl := {} })
    {s0 s : State} {a0 a1 a2 a3} (h : Kept m s0 s) :
    Kept m s0 (clusterArrived a0 a1 a2 a3 s) := by
  unfold clusterArrived
  extract_lets +onlyGivenNames x1
  clear_value x1
  extract_lets +onlyGivenNames x2
  clear_value x2
  split
  · rename_i v3 v4
    exact h
  · rename_i v5 v6 v7
    split
    · rename_i v8 v9
      refine stopCmd_kept (sub hm) ?_
      exact h
    · rename_i v10 v11 v12
      refine ite_kept (P := fun x => Kept m s0 x) ?_ ?_
      · exact h
      · extract_lets +onlyGivenNames x13
        clear_value x13
        extract_lets +onlyGivenNames x14
        clear_value x14
        extract_lets +onlyGivenNames x15
        clear_value x15
        extract_lets +onlyGivenNames x16
        have h17 : Kept m s0 x16 := by
          unfold x16
          beta_reduce
          refine setCl_kept (sub hm) ?_
          refine tookData_kept (sub hm) ?_
          exact h
        clear_value x16
        refine ite_kept (P := fun x => Kept m s0 x) ?_ ?_
        · exact h17
        · refine appendReq_kept (sub hm) ?_
          exact h17

theorem highWater_kept {α : Type} {m : State → α} (hm : ∀ u, m u = m { u with disc := {} })
    {s0 s : State} {a0} (h : Kept m s0 s) :
    Kept m s0 (highWater a0 s) := by
  unfold highWater
  extract_lets +onlyGivenNames x1
  clear_value x1
  refine ite_kept (P := fun x => Kept m s0 x) ?_ ?_
  · extract_lets +onlyGivenNames x2
    clear_value x2
    extract_lets +onlyGivenNames x3
    clear_value x3
    refine setDisc_kept (sub hm) ?_
    exact h
  · exact h

theorem clusterRecorded_kept {α : Type} {m : State → α} (hm : ∀ u, m u = m { u with regs := [], out := [], msixPend := 0, disc := {}, ends := [], encoded := [], mem := {}, cl := {} })
    {s0 s : State} {a1} (h : Kept m s0 s) :
    Kept m s0 (clusterRecorded s a1) := by
  unfold clusterRecorded
  refine ite_kept (P := fun x => Kept m s0 x) ?_ ?_
  · exact h
  · refine endCluster_kept (sub hm) ?_
    refine highWater_kept (sub hm) ?_
    beta_reduce
    refine setDisc_kept (sub hm) ?_
    refine Kept.with hm ?_
    exact h

theorem clvTick_kept {α : Type} {m : State → α} (hm : ∀ u, m u = m { u with regs := [], spin := {} })
    {s0 s : State} (h : Kept m s0 s) :
    Kept m s0 (clvTick s) := by
  unfold clvTick
  refine ite_kept (P := fun x => Kept m s0 x) ?_ ?_
  · extract_lets +onlyGivenNames x1
    clear_value x1
    refine wantSpeed_kept (sub hm) ?_
    exact h
  · exact h

theorem latchLeg_kept {α : Type} {m : State → α} (hm : ∀ u, m u = m { u with regs := [], lanesC := [] })
    {s0 s : State} {a0} (h : Kept m s0 s) :
    Kept m s0 (latchLeg a0 s) := by
  unfold latchLeg
  extract_lets +onlyGivenNames x1
  clear_value x1
  refine fset_kept (sub hm) ?_
  refine fset_kept (sub hm) ?_
  refine setCjob_kept (sub hm) ?_
  exact h

theorem startJob_kept {α : Type} {m : State → α} (hm : ∀ u, m u = m { u with regs := [], lanesC := [] })
    {s0 s : State} {a0 a1} (h : Kept m s0 s) :
    Kept m s0 (startJob a0 a1 s) := by
  unfold startJob
  extract_lets +onlyGivenNames x1
  clear_value x1
  refine ite_kept (P := fun x => Kept m s0 x) ?_ ?_
  · exact h
  · refine ite_kept (P := fun x => Kept m s0 x) ?_ ?_
    · refine sticky_kept (sub hm) ?_
      exact h
    · extract_lets +onlyGivenNames x2
      clear_value x2
      refine setLaneState_kept (sub hm) ?_
      refine fset_kept (sub hm) ?_
      refine fset_kept (sub hm) ?_
      refine fclrs_kept (sub hm) ?_
      refine fsetB_kept (sub hm) ?_
      refine latchLeg_kept (sub hm) ?_
      refine setCjob_kept (sub hm) ?_
      exact h

theorem execJobResume_kept {α : Type} {m : State → α} (hm : ∀ u, m u = m { u with regs := [], lanesC := [] })
    {s0 s : State} {a0} (h : Kept m s0 s) :
    KeptR m s0 (execJobResume a0 s) := by
  unfold execJobResume
  refine KeptR.next ?_
  refine ite_kept (P := fun x => Kept m s0 x) ?_ ?_
  · refine setLaneState_kept (sub hm) ?_
    refine latchLeg_kept (sub hm) ?_
    exact h
  · refine sticky_kept (sub hm) ?_
    exact h

theorem cmpWrite_kept {α : Type} {m : State → α} (hm : ∀ u, m u = m { u with regs := [], evq := [], out := [], msixPend := 0, lanesC := [] })
    {s0 s : State} {a0 a1 a2} (h : Kept m s0 s) :
    Kept m s0 (cmpWrite a0 a1 a2 s) := by
  unfold cmpWrite
  extract_lets +onlyGivenNames x1
  clear_value x1
  extract_lets +onlyGivenNames x2
  clear_value x2
  extract_lets +onlyGivenNames x3
  have h4 : Kept m s0 x3 := by
    unfold x3
    refine regWrite_kept (sub hm) ?_
    exact h
  clear_value x3
  refine ite_kept (P := fun x => Kept m s0 x) ?_ ?_
  · extract_lets +onlyGivenNames x5
    have h6 : Kept m s0 x5 := by
      unfold x5
      refine ite_kept (P := fun x => Kept m s0 x) ?_ ?_
      · refine jobAbort_kept (sub hm) ?_
        exact h4
      · exact h4
    clear_value x5
    extract_lets +onlyGivenNames x7
    have h8 : Kept m s0 x7 := by
      unfold x7
      refine ite_kept (P := fun x => Kept m s0 x) ?_ ?_
      · refine startJob_kept (sub hm) ?_
        exact h6
      · exact h6
    clear_value x7
    extract_lets +onlyGivenNames x9
    have h10 : Kept m s0 x9 := by
      unfold x9
      refine ite_kept (P := fun x => Kept m s0 x) ?_ ?_
      · refine jobAbort_kept (sub hm) ?_
        exact h8
      · exact h8
    clear_value x9
    extract_lets +onlyGivenNames x11
    have h12 : Kept m s0 x11 := by
      unfold x11
      refine ite_kept (P := fun x => Kept m s0 x) ?_ ?_
      · refine after_kept ?_ ?_
        · refine execJobResume_kept (sub hm) ?_
          exact h10
        · exact h10
      · exact h10
    clear_value x11
    extract_lets +onlyGivenNames x13
    have h14 : Kept m s0 x13 := by
      unfold x13
      refine ite_kept (P := fun x => Kept m s0 x) ?_ ?_
      · refine askFlush_kept (sub hm) ?_
        exact h12
      · exact h12
    clear_value x13
    refine ite_kept (P := fun x => Kept m s0 x) ?_ ?_
    · refine askFlush_kept (sub hm) ?_
      exact h14
    · exact h14
  · exact h4

theorem cntClr_kept {α : Type} {m : State → α} (hm : ∀ u, m u = m { u with regs := [] })
    {s0 s : State} {a0 a1} (h : Kept m s0 s) :
    Kept m s0 (cntClr a0 a1 s) := by
  unfold cntClr
  split
  · rename_i v1 v2 v3 v4
    refine ite_kept (P := fun x => Kept m s0 x) ?_ ?_
    · refine fclrs_kept (sub hm) ?_
      exact h
    · exact h
  · rename_i v5 v6
    exact h

theorem setRing_kept {α : Type} {m : State → α} (hm : ∀ u, m u = m { u with cl := {} })
    {s0 s : State} {a0 a1} (h : Kept m s0 s) :
    Kept m s0 (setRing a0 a1 s) := by
  unfold setRing
  refine setCl_kept (sub hm) ?_
  exact h

theorem signalRing_kept {α : Type} {m : State → α} (hm : ∀ u, m u = m { u with out := [], msixPend := 0, cl := {} })
    {s0 s : State} {a0} (h : Kept m s0 s) :
    Kept m s0 (signalRing a0 s) := by
  unfold signalRing
  refine sendVector_kept (sub hm) ?_
  refine setRing_kept (sub hm) ?_
  exact h

end Sys2Proof.Machine
end

