-- ==== Sys2Proof/Laws/KeptC.lean ====
section
/-!
SUPPORT. What the operations change and what they keep, part C.
-/
set_option Elab.async false

namespace Sys2Proof.Machine

theorem coalesce_kept {α : Type} {m : State → α} (hm : ∀ u, m u = m { u with out := [], msixPend := 0, cl := {} })
    {s0 s : State} {a0} (h : Kept m s0 s) :
    Kept m s0 (coalesce a0 s) := by
  unfold coalesce
  extract_lets +onlyGivenNames x1
  clear_value x1
  refine ite_kept (P := fun x => Kept m s0 x) ?_ ?_
  · refine signalRing_kept (sub hm) ?_
    exact h
  · refine setRing_kept (sub hm) ?_
    exact h

theorem coilCommand_kept {α : Type} {m : State → α} (hm : ∀ u, m u = m { u with regs := [], evq := [], out := [], msixPend := 0, links := [] })
    {s0 s : State} {a0 a1 a2 a3 a4} (h : Kept m s0 s) :
    Kept m s0 (coilCommand a0 a1 a2 a3 a4 s) := by
  unfold coilCommand
  extract_lets +onlyGivenNames x1
  clear_value x1
  extract_lets +onlyGivenNames x2
  clear_value x2
  extract_lets +onlyGivenNames x3
  have h4 : Kept m s0 x3 := by
    unfold x3
    refine ite_kept (P := fun x => Kept m s0 x) ?_ ?_
    · refine emit_kept (sub hm) ?_
      refine raise_kept (sub hm) ?_
      refine cnt_kept (sub hm) ?_
      exact h
    · exact h
  clear_value x3
  extract_lets +onlyGivenNames x5
  have h6 : Kept m s0 x5 := by
    unfold x5
    refine ite_kept (P := fun x => Kept m s0 x) ?_ ?_
    · refine raise_kept (sub hm) ?_
      exact h4
    · exact h4
  clear_value x5
  refine setLink_kept (sub hm) ?_
  refine fsetB_kept (sub hm) ?_
  refine fsetB_kept (sub hm) ?_
  refine fsetI_kept (sub hm) ?_
  exact h6

theorem coilSafe_kept {α : Type} {m : State → α} (hm : ∀ u, m u = m { u with regs := [] })
    {s0 s : State} {a0 a1} (h : Kept m s0 s) :
    Kept m s0 (coilSafe a0 a1 s) := by
  unfold coilSafe
  refine fset_kept (sub hm) ?_
  refine fset_kept (sub hm) ?_
  exact h

theorem coilsSafe_kept {α : Type} {m : State → α} (hm : ∀ u, m u = m { u with regs := [] })
    {s0 s : State} {a0} (h : Kept m s0 s) :
    Kept m s0 (coilsSafe a0 s) := by
  unfold coilsSafe
  refine foldl_kept (P := fun x => Kept m s0 x) ?_ ?_
  · intro y1 y2 y3
    refine coilSafe_kept (sub hm) ?_
    exact y3
  · refine fset_kept (sub hm) ?_
    exact h

theorem pgBrake_kept {α : Type} {m : State → α} (hm : ∀ u, m u = m { u with regs := [], pgs := [] })
    {s0 s : State} {a0 a1} (h : Kept m s0 s) :
    Kept m s0 (pgBrake a0 a1 s) := by
  unfold pgBrake
  extract_lets +onlyGivenNames x1
  clear_value x1
  split
  · rename_i v2 v3 v4 v5 v6
    extract_lets +onlyGivenNames x7
    clear_value x7
    refine setPgState_kept (sub hm) ?_
    refine setPg_kept (sub hm) ?_
    exact h

theorem takeLimits_kept {α : Type} {m : State → α} (hm : ∀ u, m u = m { u with regs := [], pgs := [] })
    {s0 s : State} {a0 a1} (h : Kept m s0 s) :
    Kept m s0 (takeLimits a0 a1 s) := by
  unfold takeLimits
  extract_lets +onlyGivenNames x1
  clear_value x1
  split
  · rename_i v2 v3 v4 v5 v6
    refine ite_kept (P := fun x => Kept m s0 x) ?_ ?_
    · extract_lets +onlyGivenNames x7
      have h8 : Kept m s0 x7 := by
        unfold x7
        refine setPg_kept (sub hm) ?_
        exact h
      clear_value x7
      refine pgBrake_kept (sub hm) ?_
      refine sticky_kept (sub hm) ?_
      refine fset_kept (sub hm) ?_
      exact h8
    · split
      · rename_i v9 v10 v11 v12 v13
        extract_lets +onlyGivenNames x14
        clear_value x14
        refine ite_kept (P := fun x => Kept m s0 x) ?_ ?_
        · exact h
        · split
          · rename_i v15 v16 v17
            refine fset_kept (sub hm) ?_
            refine setPg_kept (sub hm) ?_
            exact h
          · rename_i v18 v19
            split
            · rename_i v20 v21 v22 v23 v24
              refine sticky_kept (sub hm) ?_
              refine fset_kept (sub hm) ?_
              refine setPg_kept (sub hm) ?_
              exact h

theorem pgSetLimit_kept {α : Type} {m : State → α} (hm : ∀ u, m u = m { u with regs := [], pgs := [] })
    {s0 s : State} {a0 a1 a2} (h : Kept m s0 s) :
    Kept m s0 (pgSetLimit a0 a1 a2 s) := by
  unfold pgSetLimit
  extract_lets +onlyGivenNames x1
  clear_value x1
  extract_lets +onlyGivenNames x2
  have h3 : Kept m s0 x2 := by
    unfold x2
    refine fset64_kept (sub hm) ?_
    exact h
  clear_value x2
  refine ite_kept (P := fun x => Kept m s0 x) ?_ ?_
  · refine takeLimits_kept (sub hm) ?_
    exact h3
  · exact h3

theorem setLinkEn_kept {α : Type} {m : State → α} (hm : ∀ u, m u = m { u with regs := [] })
    {s0 s : State} {a0 a1 a3} (h : Kept m s0 s) :
    Kept m s0 (setLinkEn a0 a1 s a3) := by
  unfold setLinkEn
  split
  · rename_i v1
    refine fsetB_kept (sub hm) ?_
    exact h
  · rename_i v2
    refine fsetB_kept (sub hm) ?_
    exact h
  · rename_i v3
    refine fsetB_kept (sub hm) ?_
    exact h
  · rename_i v4
    refine fsetB_kept (sub hm) ?_
    refine fsetB_kept (sub hm) ?_
    exact h

theorem lostFeedbackTrip_kept {α : Type} {m : State → α} (hm : ∀ u, m u = m { u with regs := [], evq := [], out := [], msixPend := 0, links := [], recs := [], loops := [], heads := [] })
    {s0 s : State} {a0 a1 a2} (h : Kept m s0 s) :
    Kept m s0 (lostFeedbackTrip a0 a1 a2 s) := by
  unfold lostFeedbackTrip
  refine lostFeedback_kept (sub hm) ?_
  refine tripIfWriting_kept (sub hm) ?_
  exact h

theorem execLinkEnable_kept {α : Type} {m : State → α} (hm : ∀ u, m u = m { u with regs := [], evq := [], out := [], msixPend := 0, lanes := [], links := [], recs := [], loops := [], heads := [] })
    {s0 s : State} {a0 a1 a2} (h : Kept m s0 s) :
    KeptR m s0 (execLinkEnable a0 a1 a2 s) := by
  unfold execLinkEnable
  extract_lets +onlyGivenNames x1
  clear_value x1
  extract_lets +onlyGivenNames x2
  clear_value x2
  extract_lets +onlyGivenNames x3
  have h4 : Kept m s0 x3 := by
    unfold x3
    refine setLinkEn_kept (sub hm) ?_
    exact h
  clear_value x3
  refine ite_kept (P := fun x => KeptR m s0 x) ?_ ?_
  · refine KeptR.next ?_
    exact h4
  · refine ite_kept (P := fun x => KeptR m s0 x) ?_ ?_
    · refine KeptR.next ?_
      refine startGroup_kept (sub hm) ?_
      refine fset_kept (sub hm) ?_
      refine fset_kept (sub hm) ?_
      exact h4
    · refine ite_kept (P := fun x => KeptR m s0 x) ?_ ?_
      · refine KeptR.next ?_
        refine groupState_kept (sub hm) ?_
        refine ite_kept (P := fun x => Kept m s0 x) ?_ ?_
        · refine lostFeedbackTrip_kept (sub hm) ?_
          exact h4
        · exact h4
      · refine KeptR.next ?_
        exact h4

theorem execLinkTrain_kept {α : Type} {m : State → α} (hm : ∀ u, m u = m { u with regs := [], evq := [], out := [], msixPend := 0, lanes := [], links := [], recs := [], loops := [], heads := [] })
    {s0 s : State} {a0 a1} (h : Kept m s0 s) :
    KeptR m s0 (execLinkTrain a0 a1 s) := by
  unfold execLinkTrain
  extract_lets +onlyGivenNames x1
  clear_value x1
  refine ite_kept (P := fun x => KeptR m s0 x) ?_ ?_
  · refine KeptR.next ?_
    exact h
  · refine KeptR.next ?_
    refine startGroup_kept (sub hm) ?_
    refine ite_kept (P := fun x => Kept m s0 x) ?_ ?_
    · refine lostFeedbackTrip_kept (sub hm) ?_
      exact h
    · exact h

theorem fsCmd_kept {α : Type} {m : State → α} (hm : ∀ u, m u = m { u with regs := [], out := [], links := [] })
    {s0 s : State} {a0} (h : Kept m s0 s) :
    Kept m s0 (fsCmd a0 s) := by
  unfold fsCmd
  extract_lets +onlyGivenNames x1
  clear_value x1
  extract_lets +onlyGivenNames x2
  clear_value x2
  refine ite_kept (P := fun x => Kept m s0 x) ?_ ?_
  · exact h
  · refine sendSetFs_kept (sub hm) ?_
    exact h

theorem execHtxMsgGo_kept {α : Type} {m : State → α} (hm : ∀ u, m u = m { u with regs := [], out := [], links := [] })
    {s0 s : State} {a0} (h : Kept m s0 s) :
    KeptR m s0 (execHtxMsgGo a0 s) := by
  unfold execHtxMsgGo
  extract_lets +onlyGivenNames x1
  clear_value x1
  extract_lets +onlyGivenNames x2
  clear_value x2
  extract_lets +onlyGivenNames x3
  clear_value x3
  refine ite_kept (P := fun x => KeptR m s0 x) ?_ ?_
  · refine KeptR.next ?_
    exact h
  · refine KeptR.next ?_
    refine sendMsg_kept (sub hm) ?_
    refine fset_kept (sub hm) ?_
    refine fset_kept (sub hm) ?_
    exact h

theorem linkWrite_kept {α : Type} {m : State → α} (hm : ∀ u, m u = m { u with regs := [], evq := [], out := [], msixPend := 0, lanes := [], links := [], recs := [], loops := [], heads := [] })
    {s0 s : State} {a0 a1 a2} (h : Kept m s0 s) :
    Kept m s0 (linkWrite a0 a1 a2 s) := by
  unfold linkWrite
  split
  · rename_i v1 v2 v3 v4 v5
    refine ite_kept (P := fun x => Kept m s0 x) ?_ ?_
    · extract_lets +onlyGivenNames x6
      have h7 : Kept m s0 x6 := by
        unfold x6
        refine regWrite_kept (sub hm) ?_
        exact h
      clear_value x6
      extract_lets +onlyGivenNames x8
      have h9 : Kept m s0 x8 := by
        unfold x8
        refine after_kept ?_ ?_
        · refine execLinkEnable_kept (sub hm) ?_
          exact h7
        · exact h7
      clear_value x8
      refine ite_kept (P := fun x => Kept m s0 x) ?_ ?_
      · refine after_kept ?_ ?_
        · refine execLinkTrain_kept (sub hm) ?_
          exact h9
        · exact h9
      · exact h9
    · extract_lets +onlyGivenNames x10
      have h11 : Kept m s0 x10 := by
        unfold x10
        refine regWrite_kept (sub hm) ?_
        exact h
      clear_value x10
      refine ite_kept (P := fun x => Kept m s0 x) ?_ ?_
      · refine fsCmd_kept (sub hm) ?_
        exact h11
      · refine ite_kept (P := fun x => Kept m s0 x) ?_ ?_
        · refine after_kept ?_ ?_
          · refine execHtxMsgGo_kept (sub hm) ?_
            exact h11
          · exact h11
        · exact h11

theorem legacyFs_kept {α : Type} {m : State → α} (hm : ∀ u, m u = m { u with regs := [], out := [], links := [] })
    {s0 s : State} (h : Kept m s0 s) :
    Kept m s0 (legacyFs s) := by
  unfold legacyFs
  refine ite_kept (P := fun x => Kept m s0 x) ?_ ?_
  · extract_lets +onlyGivenNames x1
    clear_value x1
    refine ite_kept (P := fun x => Kept m s0 x) ?_ ?_
    · refine sendSetFs_kept (sub hm) ?_
      exact h
    · exact h
  · exact h

theorem execTargetWrite_kept {α : Type} {m : State → α} (hm : ∀ u, m u = m { u with regs := [], out := [], links := [], spin := {} })
    {s0 s : State} {a0 a1} (h : Kept m s0 s) :
    KeptR m s0 (execTargetWrite a0 a1 s) := by
  unfold execTargetWrite
  extract_lets +onlyGivenNames x1
  have h2 : Kept m s0 x1 := by
    unfold x1
    refine fsetB_kept (sub hm) ?_
    refine fset_kept (sub hm) ?_
    exact h
  clear_value x1
  refine KeptR.next ?_
  refine legacyFs_kept (sub hm) ?_
  refine ite_kept (P := fun x => Kept m s0 x) ?_ ?_
  · exact h2
  · refine wantSpeed_kept (sub hm) ?_
    exact h2

theorem spinOff_kept {α : Type} {m : State → α} (hm : ∀ u, m u = m { u with regs := [], spin := {} })
    {s0 s : State} (h : Kept m s0 s) :
    Kept m s0 (spinOff s) := by
  unfold spinOff
  extract_lets +onlyGivenNames x1
  clear_value x1
  refine fset_kept (sub hm) ?_
  refine ite_app_kept (P := fun x => Kept m s0 x) ?_ ?_
  · refine spinState_kept (sub hm) ?_
    refine angleValid_kept (sub hm) ?_
    refine unlockSpin_kept (sub hm) ?_
    refine gatesOff_kept (sub hm) ?_
    exact h
  · refine id_kept (P := fun x => Kept m s0 x) ?_
    refine angleValid_kept (sub hm) ?_
    refine unlockSpin_kept (sub hm) ?_
    refine gatesOff_kept (sub hm) ?_
    exact h

theorem execOvsClr_kept {α : Type} {m : State → α} (hm : ∀ u, m u = m { u with regs := [], spin := {} })
    {s0 s : State} (h : Kept m s0 s) :
    KeptR m s0 (execOvsClr s) := by
  unfold execOvsClr
  refine KeptR.next ?_
  refine ite_kept (P := fun x => Kept m s0 x) ?_ ?_
  · extract_lets +onlyGivenNames x1
    have h2 : Kept m s0 x1 := by
      unfold x1
      refine fset_kept (sub hm) ?_
      exact h
    clear_value x1
    refine ite_kept (P := fun x => Kept m s0 x) ?_ ?_
    · refine spinState_kept (sub hm) ?_
      refine gatesOff_kept (sub hm) ?_
      exact h2
    · exact h2
  · exact h

theorem spnWrite_kept {α : Type} {m : State → α} (hm : ∀ u, m u = m { u with regs := [], out := [], msixPend := 0, links := [], spin := {} })
    {s0 s : State} {a0 a1} (h : Kept m s0 s) :
    Kept m s0 (spnWrite a0 a1 s) := by
  unfold spnWrite
  extract_lets +onlyGivenNames x1
  clear_value x1
  refine ite_kept (P := fun x => Kept m s0 x) ?_ ?_
  · refine after_kept ?_ ?_
    · refine execTargetWrite_kept (sub hm) ?_
      exact h
    · exact h
  · extract_lets +onlyGivenNames x2
    have h3 : Kept m s0 x2 := by
      unfold x2
      refine regWrite_kept (sub hm) ?_
      exact h
    clear_value x2
    refine ite_kept (P := fun x => Kept m s0 x) ?_ ?_
    · extract_lets +onlyGivenNames x4
      have h5 : Kept m s0 x4 := by
        unfold x4
        refine ite_kept (P := fun x => Kept m s0 x) ?_ ?_
        · exact h3
        · refine spinOff_kept (sub hm) ?_
          exact h3
      clear_value x4
      extract_lets +onlyGivenNames x6
      have h7 : Kept m s0 x6 := by
        unfold x6
        refine ite_kept (P := fun x => Kept m s0 x) ?_ ?_
        · refine startSpin_kept (sub hm) ?_
          exact h5
        · exact h5
      clear_value x6
      extract_lets +onlyGivenNames x8
      have h9 : Kept m s0 x8 := by
        unfold x8
        refine ite_kept (P := fun x => Kept m s0 x) ?_ ?_
        · refine stopSpin_kept (sub hm) ?_
          exact h7
        · exact h7
      clear_value x8
      refine ite_kept (P := fun x => Kept m s0 x) ?_ ?_
      · refine after_kept ?_ ?_
        · refine execOvsClr_kept (sub hm) ?_
          exact h9
        · exact h9
      · exact h9
    · exact h3

theorem sledOff_kept {α : Type} {m : State → α} (hm : ∀ u, m u = m { u with regs := [], sleds := [] })
    {s0 s : State} {a0} (h : Kept m s0 s) :
    Kept m s0 (sledOff a0 s) := by
  unfold sledOff
  refine fset_kept (sub hm) ?_
  refine fset_kept (sub hm) ?_
  refine setSled_kept (sub hm) ?_
  exact h

theorem pgStop_kept {α : Type} {m : State → α} (hm : ∀ u, m u = m { u with regs := [], pgs := [] })
    {s0 s : State} {a0} (h : Kept m s0 s) :
    Kept m s0 (pgStop a0 s) := by
  unfold pgStop
  refine ite_kept (P := fun x => Kept m s0 x) ?_ ?_
  · refine pgBrake_kept (sub hm) ?_
    exact h
  · exact h

theorem hardStop_kept {α : Type} {m : State → α} (hm : ∀ u, m u = m { u with regs := [], pgs := [], sleds := [] })
    {s0 s : State} {a0} (h : Kept m s0 s) :
    Kept m s0 (hardStop a0 s) := by
  unfold hardStop
  extract_lets +onlyGivenNames x1
  clear_value x1
  extract_lets +onlyGivenNames x2
  clear_value x2
  extract_lets +onlyGivenNames x3
  clear_value x3
  extract_lets +onlyGivenNames x4
  clear_value x4
  refine ite_app_kept (P := fun x => Kept m s0 x) ?_ ?_
  · refine id_kept (P := fun x => Kept m s0 x) ?_
    refine ite_app_kept (P := fun x => Kept m s0 x) ?_ ?_
    · refine fset_kept (sub hm) ?_
      refine sledCurrent_kept (sub hm) ?_
      refine setSled_kept (sub hm) ?_
      exact h
    · refine id_kept (P := fun x => Kept m s0 x) ?_
      refine sledCurrent_kept (sub hm) ?_
      refine setSled_kept (sub hm) ?_
      exact h
  · refine pgStop_kept (sub hm) ?_
    refine ite_app_kept (P := fun x => Kept m s0 x) ?_ ?_
    · refine fset_kept (sub hm) ?_
      refine sledCurrent_kept (sub hm) ?_
      refine setSled_kept (sub hm) ?_
      exact h
    · refine id_kept (P := fun x => Kept m s0 x) ?_
      refine sledCurrent_kept (sub hm) ?_
      refine setSled_kept (sub hm) ?_
      exact h

theorem sldWrite_kept {α : Type} {m : State → α} (hm : ∀ u, m u = m { u with regs := [], out := [], msixPend := 0, pgs := [], sleds := [] })
    {s0 s : State} {a0 a1 a2} (h : Kept m s0 s) :
    Kept m s0 (sldWrite a0 a1 a2 s) := by
  unfold sldWrite
  extract_lets +onlyGivenNames x1
  clear_value x1
  extract_lets +onlyGivenNames x2
  clear_value x2
  extract_lets +onlyGivenNames x3
  have h4 : Kept m s0 x3 := by
    unfold x3
    refine regWrite_kept (sub hm) ?_
    exact h
  clear_value x3
  refine ite_kept (P := fun x => Kept m s0 x) ?_ ?_
  · extract_lets +onlyGivenNames x5
    clear_value x5
    extract_lets +onlyGivenNames x6
    have h7 : Kept m s0 x6 := by
      unfold x6
      refine ite_kept (P := fun x => Kept m s0 x) ?_ ?_
      · refine sledOff_kept (sub hm) ?_
        exact h4
      · refine ite_kept (P := fun x => Kept m s0 x) ?_ ?_
        · refine fset_kept (sub hm) ?_
          refine setSled_kept (sub hm) ?_
          exact h4
        · exact h4
    clear_value x6
    extract_lets +onlyGivenNames x8
    have h9 : Kept m s0 x8 := by
      unfold x8
      refine ite_kept (P := fun x => Kept m s0 x) ?_ ?_
      · refine homeStart_kept (sub hm) ?_
        exact h7
      · exact h7
    clear_value x8
    refine ite_kept (P := fun x => Kept m s0 x) ?_ ?_
    · refine hardStop_kept (sub hm) ?_
      exact h9
    · exact h9
  · exact h4

theorem motWrite_kept {α : Type} {m : State → α} (hm : ∀ u, m u = m { u with regs := [], out := [], msixPend := 0, pgs := [] })
    {s0 s : State} {a0 a1} (h : Kept m s0 s) :
    Kept m s0 (motWrite a0 a1 s) := by
  unfold motWrite
  extract_lets +onlyGivenNames x1
  have h2 : Kept m s0 x1 := by
    unfold x1
    refine regWrite_kept (sub hm) ?_
    exact h
  clear_value x1
  refine ite_kept (P := fun x => Kept m s0 x) ?_ ?_
  · extract_lets +onlyGivenNames x3
    clear_value x3
    refine ite_app_kept (P := fun x => Kept m s0 x) ?_ ?_
    · refine pgStop_kept (sub hm) ?_
      refine ite_app_kept (P := fun x => Kept m s0 x) ?_ ?_
      · refine pgGo_kept (sub hm) ?_
        exact h2
      · refine id_kept (P := fun x => Kept m s0 x) ?_
        exact h2
    · refine id_kept (P := fun x => Kept m s0 x) ?_
      refine ite_app_kept (P := fun x => Kept m s0 x) ?_ ?_
      · refine pgGo_kept (sub hm) ?_
        exact h2
      · refine id_kept (P := fun x => Kept m s0 x) ?_
        exact h2
  · exact h2

theorem engStopped_kept {α : Type} {m : State → α} (hm : ∀ u, m u = m { u with regs := [], evq := [], out := [], msixPend := 0, links := [], recs := [] })
    {s0 s : State} {a0} (h : Kept m s0 s) :
    Kept m s0 (engStopped a0 s) := by
  unfold engStopped
  refine ite_kept (P := fun x => Kept m s0 x) ?_ ?_
  · extract_lets +onlyGivenNames x1
    clear_value x1
    extract_lets +onlyGivenNames x2
    have h3 : Kept m s0 x2 := by
      unfold x2
      refine foldl_kept (P := fun x => Kept m s0 x) ?_ ?_
      · intro y4 y5 y6
        refine coilSafe_kept (sub hm) ?_
        exact y6
      · exact h
    clear_value x2
    refine ite_kept (P := fun x => Kept m s0 x) ?_ ?_
    · refine tripHead_kept (sub hm) ?_
      exact h3
    · exact h3
  · refine ite_kept (P := fun x => Kept m s0 x) ?_ ?_
    · refine tripIfWriting_kept (sub hm) ?_
      exact h
    · exact h

theorem setEngState_kept {α : Type} {m : State → α} (hm : ∀ u, m u = m { u with regs := [] })
    {s0 s : State} {a0 a1} (h : Kept m s0 s) :
    Kept m s0 (setEngState a0 a1 s) := by
  unfold setEngState
  refine fset_kept (sub hm) ?_
  exact h

theorem haltNow_kept {α : Type} {m : State → α} (hm : ∀ u, m u = m { u with regs := [], evq := [], out := [], msixPend := 0, links := [], recs := [], engs := [] })
    {s0 s : State} {a0} (h : Kept m s0 s) :
    Kept m s0 (haltNow a0 s) := by
  unfold haltNow
  extract_lets +onlyGivenNames x1
  clear_value x1
  refine ite_kept (P := fun x => Kept m s0 x) ?_ ?_
  · refine engStopped_kept (sub hm) ?_
    refine raise_kept (sub hm) ?_
    refine setEngState_kept (sub hm) ?_
    refine setEng_kept (sub hm) ?_
    exact h
  · exact h

theorem se8Runs_kept {α : Type} {m : State → α} (hm : ∀ u, m u = m { u with regs := [], spin := {} })
    {s0 s : State} (h : Kept m s0 s) :
    Kept m s0 (se8Runs s) := by
  unfold se8Runs
  refine ite_kept (P := fun x => Kept m s0 x) ?_ ?_
  · extract_lets +onlyGivenNames x1
    clear_value x1
    extract_lets +onlyGivenNames x2
    have h3 : Kept m s0 x2 := by
      unfold x2
      refine setSpin_kept (sub hm) ?_
      exact h
    clear_value x2
    refine ite_kept (P := fun x => Kept m s0 x) ?_ ?_
    · refine startSpin_kept (sub hm) ?_
      exact h3
    · exact h3
  · exact h

theorem engRuns_kept {α : Type} {m : State → α} (hm : ∀ u, m u = m { u with regs := [], spin := {} })
    {s0 s : State} {a0} (h : Kept m s0 s) :
    Kept m s0 (engRuns a0 s) := by
  unfold engRuns
  refine ite_kept (P := fun x => Kept m s0 x) ?_ ?_
  · refine se8Runs_kept (sub hm) ?_
    exact h
  · refine ite_kept (P := fun x => Kept m s0 x) ?_ ?_
    · refine foldl_kept (P := fun x => Kept m s0 x) ?_ ?_
      · intro y1 y2 y3
        refine fset_kept (sub hm) ?_
        exact y3
      · exact h
    · exact h

theorem wake_kept {α : Type} {m : State → α} (hm : ∀ u, m u = m { u with regs := [], engs := [] })
    {s0 s : State} {a0 a1} (h : Kept m s0 s) :
    Kept m s0 (wake a0 a1 s) := by
  unfold wake
  refine fset_kept (sub hm) ?_
  refine setEngState_kept (sub hm) ?_
  refine setEng_kept (sub hm) ?_
  exact h

theorem execEngineHalt_kept {α : Type} {m : State → α} (hm : ∀ u, m u = m { u with regs := [], evq := [], out := [], msixPend := 0, links := [], recs := [], engs := [], spin := {} })
    {s0 s : State} {a0 a1} (h : Kept m s0 s) :
    KeptR m s0 (execEngineHalt a0 a1 s) := by
  unfold execEngineHalt
  extract_lets +onlyGivenNames x1
  clear_value x1
  extract_lets +onlyGivenNames x2
  have h3 : Kept m s0 x2 := by
    unfold x2
    refine fsetB_kept (sub hm) ?_
    exact h
  clear_value x2
  refine ite_kept (P := fun x => KeptR m s0 x) ?_ ?_
  · refine KeptR.next ?_
    refine ite_kept (P := fun x => Kept m s0 x) ?_ ?_
    · refine haltNow_kept (sub hm) ?_
      exact h3
    · exact h3
  · refine ite_kept (P := fun x => KeptR m s0 x) ?_ ?_
    · extract_lets +onlyGivenNames x4
      clear_value x4
      extract_lets +onlyGivenNames x5
      have h6 : Kept m s0 x5 := by
        unfold x5
        refine engRuns_kept (sub hm) ?_
        refine setEngState_kept (sub hm) ?_
        exact h3
      clear_value x5
      refine KeptR.next ?_
      refine ite_kept (P := fun x => Kept m s0 x) ?_ ?_
      · extract_lets +onlyGivenNames x7
        clear_value x7
        refine wake_kept (sub hm) ?_
        refine setEng_kept (sub hm) ?_
        exact h6
      · exact h6
    · refine KeptR.next ?_
      exact h3

theorem issueRg_kept {α : Type} {m : State → α} (hm : ∀ u, m u = m { u with engs := [] })
    {s0 s : State} {a0 a1 a2 a3 a4} (h : Kept m s0 s) :
    Kept m s0 (issueRg a0 a1 a2 a3 a4 s) := by
  unfold issueRg
  refine setEng_kept (sub hm) ?_
  exact h

theorem spend_kept {α : Type} {m : State → α} (hm : ∀ u, m u = m { u with engs := [] })
    {s0 s : State} {a0 a1 a2 a3} (h : Kept m s0 s) :
    Kept m s0 (spend a0 a1 a2 a3 s) := by
  unfold spend
  extract_lets +onlyGivenNames x1
  clear_value x1
  extract_lets +onlyGivenNames x2
  clear_value x2
  refine setEng_kept (sub hm) ?_
  exact h

theorem latchFrame_kept {α : Type} {m : State → α} (hm : ∀ u, m u = m { u with regs := [], engs := [] })
    {s0 s : State} {a0 a1} (h : Kept m s0 s) :
    Kept m s0 (latchFrame a0 a1 s) := by
  unfold latchFrame
  extract_lets +onlyGivenNames x1
  clear_value x1
  extract_lets +onlyGivenNames x2
  have h3 : Kept m s0 x2 := by
    unfold x2
    refine setEng_kept (sub hm) ?_
    exact h
  clear_value x2
  refine foldl_kept (P := fun x => Kept m s0 x) ?_ ?_
  · intro y4 y5 y6
    refine fset_kept (sub hm) ?_
    exact y6
  · exact h3

theorem emitEng_kept {α : Type} {m : State → α} (hm : ∀ u, m u = m { u with evq := [] })
    {s0 s : State} {a0 a1 a2 a3} (h : Kept m s0 s) :
    Kept m s0 (emitEng a0 a1 a2 a3 s) := by
  unfold emitEng
  refine emit_kept (sub hm) ?_
  exact h

theorem custFail_kept {α : Type} {m : State → α} (hm : ∀ u, m u = m { u with regs := [], evq := [], out := [], msixPend := 0, engs := [] })
    {s0 s : State} {a0 a1 a2} (h : Kept m s0 s) :
    Kept m s0 (custFail a0 a1 a2 s) := by
  unfold custFail
  extract_lets +onlyGivenNames x1
  clear_value x1
  extract_lets +onlyGivenNames x2
  have h3 : Kept m s0 x2 := by
    unfold x2
    refine latchFrame_kept (sub hm) ?_
    exact h
  clear_value x2
  extract_lets +onlyGivenNames x4
  clear_value x4
  extract_lets +onlyGivenNames x5
  clear_value x5
  extract_lets +onlyGivenNames x6
  clear_value x6
  refine emitEng_kept (sub hm) ?_
  refine raise_kept (sub hm) ?_
  refine fault_kept (sub hm) ?_
  refine fset_kept (sub hm) ?_
  refine fset_kept (sub hm) ?_
  refine fset_kept (sub hm) ?_
  refine fset_kept (sub hm) ?_
  refine fset_kept (sub hm) ?_
  refine setEng_kept (sub hm) ?_
  exact h3

theorem vendorTrap_kept {α : Type} {m : State → α} (hm : ∀ u, m u = m { u with regs := [], evq := [], out := [], msixPend := 0, links := [], recs := [], engs := [], dmem := [] })
    {s0 s : State} {a0 a1 a2} (h : Kept m s0 s) :
    Kept m s0 (vendorTrap a0 a1 a2 s) := by
  unfold vendorTrap
  extract_lets +onlyGivenNames x1
  clear_value x1
  extract_lets +onlyGivenNames x2
  clear_value x2
  extract_lets +onlyGivenNames x3
  have h4 : Kept m s0 x3 := by
    unfold x3
    beta_reduce
    refine setEng_kept (sub hm) ?_
    refine fault_kept (sub hm) ?_
    refine cnt_kept (sub hm) ?_
    refine latchFrame_kept (sub hm) ?_
    exact h
  clear_value x3
  refine ite_kept (P := fun x => Kept m s0 x) ?_ ?_
  · refine engStopped_kept (sub hm) ?_
    refine emitEng_kept (sub hm) ?_
    refine raise_kept (sub hm) ?_
    refine setEngState_kept (sub hm) ?_
    exact h4
  · refine emitEng_kept (sub hm) ?_
    refine raise_kept (sub hm) ?_
    refine fset_kept (sub hm) ?_
    refine setEngState_kept (sub hm) ?_
    refine foldl_kept (P := fun x => Kept m s0 x) ?_ ?_
    · intro y5 y6 y7
      refine dmPut_kept (sub hm) ?_
      exact y7
    · exact h4

theorem takeTrap_kept {α : Type} {m : State → α} (hm : ∀ u, m u = m { u with regs := [], evq := [], out := [], msixPend := 0, links := [], recs := [], engs := [], dmem := [] })
    {s0 s : State} {a0 a1} (h : Kept m s0 s) :
    Kept m s0 (takeTrap a0 a1 s) := by
  unfold takeTrap
  refine ite_kept (P := fun x => Kept m s0 x) ?_ ?_
  · refine custFail_kept (sub hm) ?_
    exact h
  · refine vendorTrap_kept (sub hm) ?_
    exact h

theorem runWord_kept {α : Type} {m : State → α} (hm : ∀ u, m u = m { u with regs := [], evq := [], out := [], msixPend := 0, links := [], recs := [], engs := [], dmem := [] })
    {s0 s : State} {a0 a1 a2 a3 a4} (hf0 : ∀ y0, Kept m s0 y0 → KeptE m s0 (a4 y0)) (h : Kept m s0 s) :
    Kept m s0 (runWord a0 a1 a2 a3 a4 s) := by
  unfold runWord
  refine ite_kept (P := fun x => Kept m s0 x) ?_ h
  split
  · rename_i t e
    exact spend_kept (sub hm) (hf0 s h t e)
  · exact takeTrap_kept (sub hm) h

theorem loadWord_kept {α : Type} {m : State → α} (hm : ∀ u, m u = m { u with engs := [] })
    {s0 s : State} {a0 a1 a2 a3 a4 a5} (h : Kept m s0 s) :
    KeptE m s0 (loadWord a0 a1 a2 a3 a4 a5 s) := by
  unfold loadWord
  extract_lets +onlyGivenNames x1
  clear_value x1
  extract_lets +onlyGivenNames x2
  clear_value x2
  refine ite_kept (P := fun x => KeptE m s0 x) ?_ ?_
  · exact KeptE.error
  · refine ite_kept (P := fun x => KeptE m s0 x) ?_ ?_
    · exact KeptE.error
    · refine KeptE.ok ?_
      refine setRegs_kept (sub hm) ?_
      exact h

theorem storeWord_kept {α : Type} {m : State → α} (hm : ∀ u, m u = m { u with engs := [], dmem := [] })
    {s0 s : State} {a0 a1 a2 a3 a4} (h : Kept m s0 s) :
    KeptE m s0 (storeWord a0 a1 a2 a3 a4 s) := by
  unfold storeWord
  extract_lets +onlyGivenNames x1
  clear_value x1
  extract_lets +onlyGivenNames x2
  clear_value x2
  refine ite_kept (P := fun x => KeptE m s0 x) ?_ ?_
  · exact KeptE.error
  · refine KeptE.ok ?_
    refine setRegs_kept (sub hm) ?_
    refine dmPut_kept (sub hm) ?_
    exact h

theorem readClears_kept {α : Type} {m : State → α} (hm : ∀ u, m u = m { u with regs := [] })
    {s0 s : State} {a0 a1} (h : Kept m s0 s) :
    Kept m s0 (readClears a0 a1 s) := by
  unfold readClears
  refine foldl_kept (P := fun x => Kept m s0 x) ?_ ?_
  · intro y1 y2 y3
    refine ite_kept (P := fun x => Kept m s0 x) ?_ ?_
    · refine fclr_kept (sub hm) ?_
      exact y3
    · exact y3
  · exact h

theorem portRead_kept {α : Type} {m : State → α} (hm : ∀ u, m u = m { u with regs := [] })
    {s0 s : State} {a0 a1} (h : Kept m s0 s) :
    Kept m s0 (portRead a0 a1 s) := by
  unfold portRead
  refine ite_kept (P := fun x => Kept m s0 x) ?_ ?_
  · split
    · rename_i v1 v2 v3 v4
      refine readClears_kept (sub hm) ?_
      exact h
    · rename_i v5 v6
      exact h
  · exact h

theorem outEffect_kept {α : Type} {m : State → α} (hm : ∀ u, m u = m { u with regs := [], evq := [], out := [], msixPend := 0, links := [], engs := [], chans := [] })
    {s0 s : State} {a0 a1 a2} (h : Kept m s0 s) :
    Kept m s0 (outEffect a0 a1 a2 s) := by
  unfold outEffect
  split
  · rename_i v1 v2 v3
    extract_lets +onlyGivenNames x4
    clear_value x4
    refine ite_kept (P := fun x => Kept m s0 x) ?_ ?_
    · refine fset_kept (sub hm) ?_
      exact h
    · refine ite_app_kept (P := fun x => Kept m s0 x) ?_ ?_
      · refine coilCommand_kept (sub hm) ?_
        refine setPort_kept (sub hm) ?_
        exact h
      · refine id_kept (P := fun x => Kept m s0 x) ?_
        refine setPort_kept (sub hm) ?_
        exact h
  · rename_i v5 v6
    extract_lets +onlyGivenNames x7
    have h8 : Kept m s0 x7 := by
      unfold x7
      refine ite_kept (P := fun x => Kept m s0 x) ?_ ?_
      · refine setPort_kept (sub hm) ?_
        exact h
      · exact h
    clear_value x7
    refine ite_kept (P := fun x => Kept m s0 x) ?_ ?_
    · split
      · rename_i v9 v10 v11 v12
        refine chanWrite_kept (sub hm) ?_
        exact h8
      · rename_i v13 v14
        exact h8
    · exact h8

theorem outWord_kept {α : Type} {m : State → α} (hm : ∀ u, m u = m { u with regs := [], evq := [], out := [], msixPend := 0, links := [], engs := [], chans := [] })
    {s0 s : State} {a0 a1 a2} (h : Kept m s0 s) :
    KeptE m s0 (outWord a0 a1 a2 s) := by
  unfold outWord
  refine ite_kept (P := fun x => KeptE m s0 x) ?_ ?_
  · exact KeptE.error
  · refine KeptE.ok ?_
    refine outEffect_kept (sub hm) ?_
    exact h

theorem pop_kept {α : Type} {m : State → α} (hm : ∀ u, m u = m { u with engs := [] })
    {s0 s t : State} {e a : Nat} (hp : pop e s = .ok (a, t)) (h : Kept m s0 s) : Kept m s0 t := by
  unfold pop at hp
  dsimp only at hp
  split at hp
  · cases hp
  · cases hp
    exact setRegs_kept (sub hm) h

theorem popGoto_kept {α : Type} {m : State → α} (hm : ∀ u, m u = m { u with engs := [] })
    {s0 s : State} {e : Nat} {f : Nat × State → Except Trap State}
    (hf : ∀ a t, Kept m s0 t → KeptE m s0 (f (a, t))) (h : Kept m s0 s) : KeptE m s0 (pop e s >>= f) := by
  cases hp : pop e s with
  | error x => exact .error
  | ok x => exact hf x.1 x.2 (pop_kept (sub hm) hp h)

theorem ret_kept {α : Type} {m : State → α} (hm : ∀ u, m u = m { u with regs := [], engs := [] })
    {s0 s : State} {a0} (h : Kept m s0 s) :
    KeptE m s0 (ret a0 s) := by
  unfold ret
  split
  · refine ite_kept (P := fun x => KeptE m s0 x) .error ?_
    exact popGoto_kept (sub hm) (fun a t ht => goto_kept (sub hm) (setEng_kept (sub hm) ht)) h
  · exact popGoto_kept (sub hm) (fun a t ht => goto_kept (sub hm) ht) h

theorem waitFor_kept {α : Type} {m : State → α} (hm : ∀ u, m u = m { u with regs := [], engs := [] })
    {s0 s : State} {a0 a1} (h : Kept m s0 s) :
    KeptE m s0 (waitFor a0 a1 s) := by
  unfold waitFor
  extract_lets +onlyGivenNames x1
  clear_value x1
  refine ite_kept (P := fun x => KeptE m s0 x) ?_ ?_
  · exact KeptE.error
  · extract_lets +onlyGivenNames x2
    clear_value x2
    extract_lets +onlyGivenNames x3
    clear_value x3
    extract_lets +onlyGivenNames x4
    have h5 : Kept m s0 x4 := by
      unfold x4
      refine setEng_kept (sub hm) ?_
      refine fmax_kept (sub hm) ?_
      exact h
    clear_value x4
    refine KeptE.ok ?_
    refine ite_kept (P := fun x => Kept m s0 x) ?_ ?_
    · refine wake_kept (sub hm) ?_
      exact h5
    · refine setEngState_kept (sub hm) ?_
      exact h5

theorem hook_kept {α : Type} {m : State → α} (hm : ∀ u, m u = m { u with regs := [], evq := [], out := [], msixPend := 0, engs := [] })
    {s0 s : State} {a0 a1} (h : Kept m s0 s) :
    KeptE m s0 (hook a0 a1 s) := by
  unfold hook
  extract_lets +onlyGivenNames x1
  clear_value x1
  extract_lets +onlyGivenNames x2
  clear_value x2
  refine ite_kept (P := fun x => KeptE m s0 x) ?_ ?_
  · exact KeptE.error
  · refine ite_kept (P := fun x => KeptE m s0 x) ?_ ?_
    · extract_lets +onlyGivenNames x3
      clear_value x3
      refine KeptE.bind ?_ ?_
      · refine push_kept (sub hm) ?_
        exact h
      · intro y4 y5
        extract_lets +onlyGivenNames x6
        clear_value x6
        extract_lets +onlyGivenNames x7
        clear_value x7
        extract_lets +onlyGivenNames x8
        clear_value x8
        extract_lets +onlyGivenNames x9
        clear_value x9
        extract_lets +onlyGivenNames x10
        have h11 : Kept m s0 x10 := by
          unfold x10
          refine cnt_kept (sub hm) ?_
          refine fset_kept (sub hm) ?_
          refine fset_kept (sub hm) ?_
          refine fset_kept (sub hm) ?_
          refine setEng_kept (sub hm) ?_
          exact y5
        clear_value x10
        refine KeptE.ok ?_
        refine ite_kept (P := fun x => Kept m s0 x) ?_ ?_
        · refine custFail_kept (sub hm) ?_
          exact h11
        · exact h11
    · refine advance_kept (sub hm) ?_
      refine setRegs_kept (sub hm) ?_
      exact h

theorem retc_kept {α : Type} {m : State → α} (hm : ∀ u, m u = m { u with regs := [], engs := [] })
    {s0 s : State} {a0} (h : Kept m s0 s) :
    KeptE m s0 (retc a0 s) := by
  unfold retc
  split
  · exact KeptE.ok (fset_kept (sub hm) (fset_kept (sub hm) (setEng_kept (sub hm) h)))
  · exact popGoto_kept (sub hm) (fun a t ht => goto_kept (sub hm) ht) h

theorem sequence_kept {α : Type} {m : State → α} (hm : ∀ u, m u = m { u with regs := [], evq := [], out := [], msixPend := 0, engs := [] })
    {s0 s : State} {a0 a1 a2 a3 a4} (h : Kept m s0 s) :
    KeptE m s0 (sequence a0 a1 a2 a3 a4 s) := by
  unfold sequence
  extract_lets +onlyGivenNames x1
  clear_value x1
  extract_lets +onlyGivenNames x2
  clear_value x2
  refine ite_kept (P := fun x => KeptE m s0 x) ?_ ?_
  · refine ite_kept (P := fun x => KeptE m s0 x) ?_ ?_
    · refine goto_kept (sub hm) ?_
      exact h
    · refine advance_kept (sub hm) ?_
      exact h
  · refine ite_kept (P := fun x => KeptE m s0 x) ?_ ?_
    · refine ite_kept (P := fun x => KeptE m s0 x) ?_ ?_
      · refine callTo_kept (sub hm) ?_
        exact h
      · refine advance_kept (sub hm) ?_
        exact h
    · refine ite_kept (P := fun x => KeptE m s0 x) ?_ ?_
      · refine ret_kept (sub hm) ?_
        exact h
      · refine ite_kept (P := fun x => KeptE m s0 x) ?_ ?_
        · refine goto_kept (sub hm) ?_
          exact h
        · refine ite_kept (P := fun x => KeptE m s0 x) ?_ ?_
          · refine waitFor_kept (sub hm) ?_
            exact h
          · refine ite_kept (P := fun x => KeptE m s0 x) ?_ ?_
            · refine hook_kept (sub hm) ?_
              exact h
            · refine ite_kept (P := fun x => KeptE m s0 x) ?_ ?_
              · refine retc_kept (sub hm) ?_
                exact h
              · refine advance_kept (sub hm) ?_
                exact h

theorem memSlot_kept {α : Type} {m : State → α} (hm : ∀ u, m u = m { u with regs := [], evq := [], out := [], msixPend := 0, links := [], engs := [], dmem := [], chans := [] })
    {s0 s t : State} {e : Nat} {x : Slot} {imm : Nat} {bad : Bool} {got : Option (BitVec 32)} {o : SlotOut}
    (hk : memSlot e x imm bad got s = .ok (o, t)) (h : Kept m s0 s) : Kept m s0 t := by
  unfold memSlot at hk
  dsimp only at hk
  split at hk
  · split at hk
    · cases hk
    · cases hl : loadWord e x.d (x.k % 4) (slice x.k 3 2) imm bad s with
      | error _ =>
        rw [hl] at hk
        cases hk
      | ok u =>
        rw [hl] at hk
        cases hk
        exact setRegs_kept (sub hm) h
  · split at hk
    · split at hk
      · cases hk
      · cases hl : storeWord e (x.k % 4) (slice x.k 3 2) imm ((s.eng e).r.get x.d) s with
        | error _ =>
          rw [hl] at hk
          cases hk
        | ok u =>
          rw [hl] at hk
          cases hk
          exact storeWord_kept (sub hm) h _ hl
    · split at hk
      · cases hk
        exact setRegs_kept (sub hm) h
      · split at hk
        · cases hk
          exact setRegs_kept (sub hm) h
        · split at hk
          · cases hk
            exact portRead_kept (sub hm) h
          · split at hk
            · cases hl : outWord e (imm % 256) ((s.eng e).r.get x.d) s with
              | error _ =>
                rw [hl] at hk
                cases hk
              | ok u =>
                rw [hl] at hk
                cases hk
                exact outWord_kept (sub hm) h _ hl
            · split at hk
              · cases hk
                exact h
              · cases hk
                exact h

theorem nanoWord_kept {α : Type} {m : State → α} (hm : ∀ u, m u = m { u with regs := [], evq := [], out := [], msixPend := 0, links := [], engs := [], dmem := [], chans := [] })
    {s0 s : State} {a0 a1 a2 a3} (h : Kept m s0 s) :
    KeptE m s0 (nanoWord a0 a1 a2 a3 s) := by
  unfold nanoWord
  extract_lets +onlyGivenNames n imm next c
  clear_value n imm next c
  split
  · exact .error
  · rename_i x0 x1 x2 x3 _
    refine ite_kept (P := fun x => KeptE m s0 x) .error ?_
    extract_lets +onlyGivenNames r o0 o1 o2
    clear_value r o0 o1 o2
    cases hk : memSlot a0 x3 imm a2 a3 s with
    | error _ => exact .error
    | ok x =>
      have ht : Kept m s0 x.2 := memSlot_kept (sub hm) hk h
      refine sequence_kept (sub hm) ?_
      refine foldl_kept (P := fun x => Kept m s0 x) (fun t o ht => satFlag_kept (sub hm) ht) ?_
      refine ite_kept (P := fun x => Kept m s0 x) (sticky_kept (sub hm) ?_) ?_
      all_goals
        split
        · exact acWord_kept (sub hm) (setRegs_kept (sub hm) ht)
        · exact setRegs_kept (sub hm) ht

theorem runNano_kept {α : Type} {m : State → α} (hm : ∀ u, m u = m { u with regs := [], evq := [], out := [], msixPend := 0, links := [], recs := [], engs := [], dmem := [], chans := [] })
    {s0 s : State} {a0 a1 a2} (h : Kept m s0 s) :
    Kept m s0 (runNano a0 a1 a2 s) := by
  unfold runNano
  refine ite_kept (P := fun x => Kept m s0 x) ?_ ?_
  · split
    · rename_i v1 v2 v3 v4
      refine issueRg_kept (sub hm) ?_
      exact h
    · rename_i v5 v6
      split
      · rename_i v7 v8 v9 v10
        refine runWord_kept (sub hm) ?_ ?_
        · intro y11 y12
          refine nanoWord_kept (sub hm) ?_
          exact y12
        · exact h
  · exact h

theorem vertical_kept {α : Type} {m : State → α} (hm : ∀ u, m u = m { u with regs := [], evq := [], out := [], msixPend := 0, links := [], recs := [], engs := [], dmem := [] })
    {s0 s : State} {a0 a1 a2 a3 a4} (hf0 : ∀ y0, Kept m s0 y0 → KeptE m s0 (a4 y0)) (h : Kept m s0 s) :
    KeptR m s0 (vertical a0 a1 a2 a3 a4 s) := by
  unfold vertical
  refine KeptR.next ?_
  refine ite_kept (P := fun x => Kept m s0 x) ?_ ?_
  · exact h
  · refine runWord_kept (sub hm) ?_ ?_
    · exact hf0
    · exact h

theorem execNop_kept {α : Type} {m : State → α} (hm : ∀ u, m u = m { u with regs := [], evq := [], out := [], msixPend := 0, links := [], recs := [], engs := [], dmem := [] })
    {s0 s : State} {a0 a1} (h : Kept m s0 s) :
    KeptR m s0 (execNop a0 a1 s) := by
  unfold execNop
  refine vertical_kept (sub hm) ?_ ?_
  · intro y1 y2
    refine ite_kept (P := fun x => KeptE m s0 x) ?_ ?_
    · refine advance_kept (sub hm) ?_
      exact y2
    · exact KeptE.error
  · exact h

theorem fmtAWord_kept {α : Type} {m : State → α} (hm : ∀ u, m u = m { u with regs := [], engs := [] })
    {s0 s : State} {a0 a1 a2 a3} (h : Kept m s0 s) :
    KeptE m s0 (fmtAWord a0 a1 a2 a3 s) := by
  unfold fmtAWord
  extract_lets +onlyGivenNames x1
  clear_value x1
  refine ite_kept (P := fun x => KeptE m s0 x) ?_ ?_
  · refine aluWord_kept (sub hm) ?_
    exact h
  · exact KeptE.error

theorem execAdd_kept {α : Type} {m : State → α} (hm : ∀ u, m u = m { u with regs := [], evq := [], out := [], msixPend := 0, links := [], recs := [], engs := [], dmem := [] })
    {s0 s : State} {a0 a1} (h : Kept m s0 s) :
    KeptR m s0 (execAdd a0 a1 s) := by
  unfold execAdd
  refine vertical_kept (sub hm) ?_ ?_
  · intro y1 y2
    refine fmtAWord_kept (sub hm) ?_
    exact y2
  · exact h

theorem execSub_kept {α : Type} {m : State → α} (hm : ∀ u, m u = m { u with regs := [], evq := [], out := [], msixPend := 0, links := [], recs := [], engs := [], dmem := [] })
    {s0 s : State} {a0 a1} (h : Kept m s0 s) :
    KeptR m s0 (execSub a0 a1 s) := by
  unfold execSub
  refine vertical_kept (sub hm) ?_ ?_
  · intro y1 y2
    refine fmtAWord_kept (sub hm) ?_
    exact y2
  · exact h

theorem execNeg_kept {α : Type} {m : State → α} (hm : ∀ u, m u = m { u with regs := [], evq := [], out := [], msixPend := 0, links := [], recs := [], engs := [], dmem := [] })
    {s0 s : State} {a0 a1} (h : Kept m s0 s) :
    KeptR m s0 (execNeg a0 a1 s) := by
  unfold execNeg
  refine vertical_kept (sub hm) ?_ ?_
  · intro y1 y2
    refine fmtAWord_kept (sub hm) ?_
    exact y2
  · exact h

theorem execAbs_kept {α : Type} {m : State → α} (hm : ∀ u, m u = m { u with regs := [], evq := [], out := [], msixPend := 0, links := [], recs := [], engs := [], dmem := [] })
    {s0 s : State} {a0 a1} (h : Kept m s0 s) :
    KeptR m s0 (execAbs a0 a1 s) := by
  unfold execAbs
  refine vertical_kept (sub hm) ?_ ?_
  · intro y1 y2
    refine fmtAWord_kept (sub hm) ?_
    exact y2
  · exact h

theorem execMin_kept {α : Type} {m : State → α} (hm : ∀ u, m u = m { u with regs := [], evq := [], out := [], msixPend := 0, links := [], recs := [], engs := [], dmem := [] })
    {s0 s : State} {a0 a1} (h : Kept m s0 s) :
    KeptR m s0 (execMin a0 a1 s) := by
  unfold execMin
  refine vertical_kept (sub hm) ?_ ?_
  · intro y1 y2
    refine fmtAWord_kept (sub hm) ?_
    exact y2
  · exact h

theorem execMax_kept {α : Type} {m : State → α} (hm : ∀ u, m u = m { u with regs := [], evq := [], out := [], msixPend := 0, links := [], recs := [], engs := [], dmem := [] })
    {s0 s : State} {a0 a1} (h : Kept m s0 s) :
    KeptR m s0 (execMax a0 a1 s) := by
  unfold execMax
  refine vertical_kept (sub hm) ?_ ?_
  · intro y1 y2
    refine fmtAWord_kept (sub hm) ?_
    exact y2
  · exact h

theorem execLim_kept {α : Type} {m : State → α} (hm : ∀ u, m u = m { u with regs := [], evq := [], out := [], msixPend := 0, links := [], recs := [], engs := [], dmem := [] })
    {s0 s : State} {a0 a1} (h : Kept m s0 s) :
    KeptR m s0 (execLim a0 a1 s) := by
  unfold execLim
  refine vertical_kept (sub hm) ?_ ?_
  · intro y1 y2
    refine fmtAWord_kept (sub hm) ?_
    exact y2
  · exact h

theorem execAnd_kept {α : Type} {m : State → α} (hm : ∀ u, m u = m { u with regs := [], evq := [], out := [], msixPend := 0, links := [], recs := [], engs := [], dmem := [] })
    {s0 s : State} {a0 a1} (h : Kept m s0 s) :
    KeptR m s0 (execAnd a0 a1 s) := by
  unfold execAnd
  refine vertical_kept (sub hm) ?_ ?_
  · intro y1 y2
    refine fmtAWord_kept (sub hm) ?_
    exact y2
  · exact h

theorem execOr_kept {α : Type} {m : State → α} (hm : ∀ u, m u = m { u with regs := [], evq := [], out := [], msixPend := 0, links := [], recs := [], engs := [], dmem := [] })
    {s0 s : State} {a0 a1} (h : Kept m s0 s) :
    KeptR m s0 (execOr a0 a1 s) := by
  unfold execOr
  refine vertical_kept (sub hm) ?_ ?_
  · intro y1 y2
    refine fmtAWord_kept (sub hm) ?_
    exact y2
  · exact h

theorem execXor_kept {α : Type} {m : State → α} (hm : ∀ u, m u = m { u with regs := [], evq := [], out := [], msixPend := 0, links := [], recs := [], engs := [], dmem := [] })
    {s0 s : State} {a0 a1} (h : Kept m s0 s) :
    KeptR m s0 (execXor a0 a1 s) := by
  unfold execXor
  refine vertical_kept (sub hm) ?_ ?_
  · intro y1 y2
    refine fmtAWord_kept (sub hm) ?_
    exact y2
  · exact h

theorem execMov_kept {α : Type} {m : State → α} (hm : ∀ u, m u = m { u with regs := [], evq := [], out := [], msixPend := 0, links := [], recs := [], engs := [], dmem := [] })
    {s0 s : State} {a0 a1} (h : Kept m s0 s) :
    KeptR m s0 (execMov a0 a1 s) := by
  unfold execMov
  refine vertical_kept (sub hm) ?_ ?_
  · intro y1 y2
    refine fmtAWord_kept (sub hm) ?_
    exact y2
  · exact h

theorem fmtSWord_kept {α : Type} {m : State → α} (hm : ∀ u, m u = m { u with regs := [], engs := [] })
    {s0 s : State} {a0 a1 a2} (h : Kept m s0 s) :
    KeptE m s0 (fmtSWord a0 a1 a2 s) := by
  unfold fmtSWord
  refine ite_kept (P := fun x => KeptE m s0 x) ?_ ?_
  · refine aluWord_kept (sub hm) ?_
    exact h
  · exact KeptE.error

theorem execShl_kept {α : Type} {m : State → α} (hm : ∀ u, m u = m { u with regs := [], evq := [], out := [], msixPend := 0, links := [], recs := [], engs := [], dmem := [] })
    {s0 s : State} {a0 a1} (h : Kept m s0 s) :
    KeptR m s0 (execShl a0 a1 s) := by
  unfold execShl
  refine vertical_kept (sub hm) ?_ ?_
  · intro y1 y2
    refine fmtSWord_kept (sub hm) ?_
    exact y2
  · exact h

theorem execShr_kept {α : Type} {m : State → α} (hm : ∀ u, m u = m { u with regs := [], evq := [], out := [], msixPend := 0, links := [], recs := [], engs := [], dmem := [] })
    {s0 s : State} {a0 a1} (h : Kept m s0 s) :
    KeptR m s0 (execShr a0 a1 s) := by
  unfold execShr
  refine vertical_kept (sub hm) ?_ ?_
  · intro y1 y2
    refine fmtSWord_kept (sub hm) ?_
    exact y2
  · exact h

theorem execMul_kept {α : Type} {m : State → α} (hm : ∀ u, m u = m { u with regs := [], evq := [], out := [], msixPend := 0, links := [], recs := [], engs := [], dmem := [] })
    {s0 s : State} {a0 a1} (h : Kept m s0 s) :
    KeptR m s0 (execMul a0 a1 s) := by
  unfold execMul
  refine vertical_kept (sub hm) ?_ ?_
  · intro y1 y2
    refine fmtAWord_kept (sub hm) ?_
    exact y2
  · exact h

theorem macWord_kept {α : Type} {m : State → α} (hm : ∀ u, m u = m { u with regs := [], engs := [] })
    {s0 s : State} {a0 a1 a2} (h : Kept m s0 s) :
    KeptE m s0 (macWord a0 a1 a2 s) := by
  unfold macWord
  extract_lets +onlyGivenNames x1
  clear_value x1
  extract_lets +onlyGivenNames x2
  clear_value x2
  refine ite_kept (P := fun x => KeptE m s0 x) ?_ ?_
  · refine advance_kept (sub hm) ?_
    refine acWord_kept (sub hm) ?_
    exact h
  · exact KeptE.error

theorem execMac_kept {α : Type} {m : State → α} (hm : ∀ u, m u = m { u with regs := [], evq := [], out := [], msixPend := 0, links := [], recs := [], engs := [], dmem := [] })
    {s0 s : State} {a0 a1} (h : Kept m s0 s) :
    KeptR m s0 (execMac a0 a1 s) := by
  unfold execMac
  refine vertical_kept (sub hm) ?_ ?_
  · intro y1 y2
    refine macWord_kept (sub hm) ?_
    exact y2
  · exact h

theorem execMsu_kept {α : Type} {m : State → α} (hm : ∀ u, m u = m { u with regs := [], evq := [], out := [], msixPend := 0, links := [], recs := [], engs := [], dmem := [] })
    {s0 s : State} {a0 a1} (h : Kept m s0 s) :
    KeptR m s0 (execMsu a0 a1 s) := by
  unfold execMsu
  refine vertical_kept (sub hm) ?_ ?_
  · intro y1 y2
    refine macWord_kept (sub hm) ?_
    exact y2
  · exact h

theorem execClra_kept {α : Type} {m : State → α} (hm : ∀ u, m u = m { u with regs := [], evq := [], out := [], msixPend := 0, links := [], recs := [], engs := [], dmem := [] })
    {s0 s : State} {a0 a1} (h : Kept m s0 s) :
    KeptR m s0 (execClra a0 a1 s) := by
  unfold execClra
  refine vertical_kept (sub hm) ?_ ?_
  · intro y1 y2
    refine ite_kept (P := fun x => KeptE m s0 x) ?_ ?_
    · refine advance_kept (sub hm) ?_
      refine acWord_kept (sub hm) ?_
      exact y2
    · exact KeptE.error
  · exact h

theorem execLda_kept {α : Type} {m : State → α} (hm : ∀ u, m u = m { u with regs := [], evq := [], out := [], msixPend := 0, links := [], recs := [], engs := [], dmem := [] })
    {s0 s : State} {a0 a1} (h : Kept m s0 s) :
    KeptR m s0 (execLda a0 a1 s) := by
  unfold execLda
  refine vertical_kept (sub hm) ?_ ?_
  · intro y1 y2
    refine ite_kept (P := fun x => KeptE m s0 x) ?_ ?_
    · refine advance_kept (sub hm) ?_
      refine acWord_kept (sub hm) ?_
      exact y2
    · exact KeptE.error
  · exact h

theorem mvaWord_kept {α : Type} {m : State → α} (hm : ∀ u, m u = m { u with regs := [], engs := [] })
    {s0 s : State} {a0 a1 a2 a3} (h : Kept m s0 s) :
    Kept m s0 (mvaWord a0 a1 a2 a3 s) := by
  unfold mvaWord
  extract_lets +onlyGivenNames x1
  clear_value x1
  extract_lets +onlyGivenNames x2
  clear_value x2
  refine satFlag_kept (sub hm) ?_
  refine setRegs_kept (sub hm) ?_
  exact h

theorem execMva_kept {α : Type} {m : State → α} (hm : ∀ u, m u = m { u with regs := [], evq := [], out := [], msixPend := 0, links := [], recs := [], engs := [], dmem := [] })
    {s0 s : State} {a0 a1} (h : Kept m s0 s) :
    KeptR m s0 (execMva a0 a1 s) := by
  unfold execMva
  refine vertical_kept (sub hm) ?_ ?_
  · intro y1 y2
    refine ite_kept (P := fun x => KeptE m s0 x) ?_ ?_
    · refine advance_kept (sub hm) ?_
      refine mvaWord_kept (sub hm) ?_
      exact y2
    · exact KeptE.error
  · exact h

theorem execLdh_kept {α : Type} {m : State → α} (hm : ∀ u, m u = m { u with regs := [], evq := [], out := [], msixPend := 0, links := [], recs := [], engs := [], dmem := [] })
    {s0 s : State} {a0 a1} (h : Kept m s0 s) :
    KeptR m s0 (execLdh a0 a1 s) := by
  unfold execLdh
  refine vertical_kept (sub hm) ?_ ?_
  · intro y1 y2
    refine ite_kept (P := fun x => KeptE m s0 x) ?_ ?_
    · refine advance_kept (sub hm) ?_
      refine setRegs_kept (sub hm) ?_
      exact y2
    · exact KeptE.error
  · exact h

theorem execLdl_kept {α : Type} {m : State → α} (hm : ∀ u, m u = m { u with regs := [], evq := [], out := [], msixPend := 0, links := [], recs := [], engs := [], dmem := [] })
    {s0 s : State} {a0 a1} (h : Kept m s0 s) :
    KeptR m s0 (execLdl a0 a1 s) := by
  unfold execLdl
  refine vertical_kept (sub hm) ?_ ?_
  · intro y1 y2
    extract_lets +onlyGivenNames x3
    clear_value x3
    extract_lets +onlyGivenNames x4
    clear_value x4
    refine ite_kept (P := fun x => KeptE m s0 x) ?_ ?_
    · refine advance_kept (sub hm) ?_
      refine setRegs_kept (sub hm) ?_
      exact y2
    · exact KeptE.error
  · exact h

theorem execLoad_kept {α : Type} {m : State → α} (hm : ∀ u, m u = m { u with regs := [], evq := [], out := [], msixPend := 0, links := [], recs := [], engs := [], dmem := [] })
    {s0 s : State} {a0 a1 a2} (h : Kept m s0 s) :
    KeptR m s0 (execLoad a0 a1 a2 s) := by
  unfold execLoad
  refine vertical_kept (sub hm) ?_ ?_
  · intro y1 y2
    split
    · rename_i v3 v4 v5 v6 v7 v8
      refine KeptE.bind ?_ ?_
      · refine loadWord_kept (sub hm) ?_
        exact y2
      · intro y9 y10
        refine advance_kept (sub hm) ?_
        exact y10
    · rename_i v11 v12
      exact KeptE.error
  · exact h

theorem execStore_kept {α : Type} {m : State → α} (hm : ∀ u, m u = m { u with regs := [], evq := [], out := [], msixPend := 0, links := [], recs := [], engs := [], dmem := [] })
    {s0 s : State} {a0 a1} (h : Kept m s0 s) :
    KeptR m s0 (execStore a0 a1 s) := by
  unfold execStore
  refine vertical_kept (sub hm) ?_ ?_
  · intro y1 y2
    split
    · rename_i v3 v4 v5 v6 v7 v8
      refine KeptE.bind ?_ ?_
      · refine storeWord_kept (sub hm) ?_
        exact y2
      · intro y9 y10
        refine advance_kept (sub hm) ?_
        exact y10
    · rename_i v11 v12
      exact KeptE.error
  · exact h

theorem execSetx_kept {α : Type} {m : State → α} (hm : ∀ u, m u = m { u with regs := [], evq := [], out := [], msixPend := 0, links := [], recs := [], engs := [], dmem := [] })
    {s0 s : State} {a0 a1} (h : Kept m s0 s) :
    KeptR m s0 (execSetx a0 a1 s) := by
  unfold execSetx
  refine vertical_kept (sub hm) ?_ ?_
  · intro y1 y2
    refine ite_kept (P := fun x => KeptE m s0 x) ?_ ?_
    · refine advance_kept (sub hm) ?_
      refine setRegs_kept (sub hm) ?_
      exact y2
    · exact KeptE.error
  · exact h

theorem execMovx_kept {α : Type} {m : State → α} (hm : ∀ u, m u = m { u with regs := [], evq := [], out := [], msixPend := 0, links := [], recs := [], engs := [], dmem := [] })
    {s0 s : State} {a0 a1} (h : Kept m s0 s) :
    KeptR m s0 (execMovx a0 a1 s) := by
  unfold execMovx
  refine vertical_kept (sub hm) ?_ ?_
  · intro y1 y2
    extract_lets +onlyGivenNames x3
    clear_value x3
    refine ite_kept (P := fun x => KeptE m s0 x) ?_ ?_
    · refine advance_kept (sub hm) ?_
      refine setRegs_kept (sub hm) ?_
      exact y2
    · exact KeptE.error
  · exact h

theorem inWord_kept {α : Type} {m : State → α} (hm : ∀ u, m u = m { u with regs := [], engs := [] })
    {s0 s : State} {a0 a1 a2} (h : Kept m s0 s) :
    Kept m s0 (inWord a0 a1 a2 s) := by
  unfold inWord
  extract_lets +onlyGivenNames x1
  clear_value x1
  beta_reduce
  refine setRegs_kept (sub hm) ?_
  refine portRead_kept (sub hm) ?_
  exact h

theorem execInPort_kept {α : Type} {m : State → α} (hm : ∀ u, m u = m { u with regs := [], evq := [], out := [], msixPend := 0, links := [], recs := [], engs := [], dmem := [] })
    {s0 s : State} {a0 a1} (h : Kept m s0 s) :
    KeptR m s0 (execInPort a0 a1 s) := by
  unfold execInPort
  refine vertical_kept (sub hm) ?_ ?_
  · intro y1 y2
    refine ite_kept (P := fun x => KeptE m s0 x) ?_ ?_
    · refine advance_kept (sub hm) ?_
      refine inWord_kept (sub hm) ?_
      exact y2
    · exact KeptE.error
  · exact h

theorem execOutPort_kept {α : Type} {m : State → α} (hm : ∀ u, m u = m { u with regs := [], evq := [], out := [], msixPend := 0, links := [], recs := [], engs := [], dmem := [], chans := [] })
    {s0 s : State} {a0 a1} (h : Kept m s0 s) :
    KeptR m s0 (execOutPort a0 a1 s) := by
  unfold execOutPort
  refine vertical_kept (sub hm) ?_ ?_
  · intro y1 y2
    refine ite_kept (P := fun x => KeptE m s0 x) ?_ ?_
    · refine KeptE.bind ?_ ?_
      · refine outWord_kept (sub hm) ?_
        exact y2
      · intro y3 y4
        refine advance_kept (sub hm) ?_
        exact y4
    · exact KeptE.error
  · exact h

theorem flagWord_kept {α : Type} {m : State → α} (hm : ∀ u, m u = m { u with regs := [], engs := [] })
    {s0 s : State} {a0 a1 a2 a3} (h : Kept m s0 s) :
    KeptE m s0 (flagWord a0 a1 a2 a3 s) := by
  unfold flagWord
  extract_lets +onlyGivenNames x1
  clear_value x1
  extract_lets +onlyGivenNames x2
  clear_value x2
  refine ite_kept (P := fun x => KeptE m s0 x) ?_ ?_
  · refine advance_kept (sub hm) ?_
    refine satFlag_kept (sub hm) ?_
    refine setRegs_kept (sub hm) ?_
    exact h
  · exact KeptE.error

theorem execCmp_kept {α : Type} {m : State → α} (hm : ∀ u, m u = m { u with regs := [], evq := [], out := [], msixPend := 0, links := [], recs := [], engs := [], dmem := [] })
    {s0 s : State} {a0 a1} (h : Kept m s0 s) :
    KeptR m s0 (execCmp a0 a1 s) := by
  unfold execCmp
  refine vertical_kept (sub hm) ?_ ?_
  · intro y1 y2
    refine flagWord_kept (sub hm) ?_
    exact y2
  · exact h

theorem execTst_kept {α : Type} {m : State → α} (hm : ∀ u, m u = m { u with regs := [], evq := [], out := [], msixPend := 0, links := [], recs := [], engs := [], dmem := [] })
    {s0 s : State} {a0 a1} (h : Kept m s0 s) :
    KeptR m s0 (execTst a0 a1 s) := by
  unfold execTst
  refine vertical_kept (sub hm) ?_ ?_
  · intro y1 y2
    refine flagWord_kept (sub hm) ?_
    exact y2
  · exact h

theorem execBranch_kept {α : Type} {m : State → α} (hm : ∀ u, m u = m { u with regs := [], evq := [], out := [], msixPend := 0, links := [], recs := [], engs := [], dmem := [] })
    {s0 s : State} {a0 a1} (h : Kept m s0 s) :
    KeptR m s0 (execBranch a0 a1 s) := by
  unfold execBranch
  refine vertical_kept (sub hm) ?_ ?_
  · intro y1 y2
    refine ite_kept (P := fun x => KeptE m s0 x) ?_ ?_
    · exact KeptE.error
    · refine ite_kept (P := fun x => KeptE m s0 x) ?_ ?_
      · refine goto_kept (sub hm) ?_
        exact y2
      · refine advance_kept (sub hm) ?_
        exact y2
  · exact h

theorem execCall_kept {α : Type} {m : State → α} (hm : ∀ u, m u = m { u with regs := [], evq := [], out := [], msixPend := 0, links := [], recs := [], engs := [], dmem := [] })
    {s0 s : State} {a0 a1} (h : Kept m s0 s) :
    KeptR m s0 (execCall a0 a1 s) := by
  unfold execCall
  refine vertical_kept (sub hm) ?_ ?_
  · intro y1 y2
    refine ite_kept (P := fun x => KeptE m s0 x) ?_ ?_
    · exact KeptE.error
    · refine ite_kept (P := fun x => KeptE m s0 x) ?_ ?_
      · refine callTo_kept (sub hm) ?_
        exact y2
      · refine advance_kept (sub hm) ?_
        exact y2
  · exact h

theorem execRet_kept {α : Type} {m : State → α} (hm : ∀ u, m u = m { u with regs := [], evq := [], out := [], msixPend := 0, links := [], recs := [], engs := [], dmem := [] })
    {s0 s : State} {a0 a1} (h : Kept m s0 s) :
    KeptR m s0 (execRet a0 a1 s) := by
  unfold execRet
  refine vertical_kept (sub hm) ?_ ?_
  · intro y1 y2
    refine ite_kept (P := fun x => KeptE m s0 x) ?_ ?_
    · refine ret_kept (sub hm) ?_
      exact y2
    · exact KeptE.error
  · exact h

theorem execWait_kept {α : Type} {m : State → α} (hm : ∀ u, m u = m { u with regs := [], evq := [], out := [], msixPend := 0, links := [], recs := [], engs := [], dmem := [] })
    {s0 s : State} {a0 a1} (h : Kept m s0 s) :
    KeptR m s0 (execWait a0 a1 s) := by
  unfold execWait
  refine vertical_kept (sub hm) ?_ ?_
  · intro y1 y2
    refine ite_kept (P := fun x => KeptE m s0 x) ?_ ?_
    · refine waitFor_kept (sub hm) ?_
      exact y2
    · exact KeptE.error
  · exact h

theorem execHook_kept {α : Type} {m : State → α} (hm : ∀ u, m u = m { u with regs := [], evq := [], out := [], msixPend := 0, links := [], recs := [], engs := [], dmem := [] })
    {s0 s : State} {a0 a1} (h : Kept m s0 s) :
    KeptR m s0 (execHook a0 a1 s) := by
  unfold execHook
  refine vertical_kept (sub hm) ?_ ?_
  · intro y1 y2
    refine ite_kept (P := fun x => KeptE m s0 x) ?_ ?_
    · refine hook_kept (sub hm) ?_
      exact y2
    · exact KeptE.error
  · exact h

theorem execRetc_kept {α : Type} {m : State → α} (hm : ∀ u, m u = m { u with regs := [], evq := [], out := [], msixPend := 0, links := [], recs := [], engs := [], dmem := [] })
    {s0 s : State} {a0 a1} (h : Kept m s0 s) :
    KeptR m s0 (execRetc a0 a1 s) := by
  unfold execRetc
  refine vertical_kept (sub hm) ?_ ?_
  · intro y1 y2
    refine ite_kept (P := fun x => KeptE m s0 x) ?_ ?_
    · refine retc_kept (sub hm) ?_
      exact y2
    · exact KeptE.error
  · exact h

theorem trapWord_kept {α : Type} {m : State → α} (hm : ∀ u, m u = m { u with regs := [], evq := [], out := [], msixPend := 0, links := [], recs := [], engs := [], dmem := [] })
    {s0 s : State} {a0 a1} (h : Kept m s0 s) :
    Kept m s0 (trapWord a0 a1 s) := by
  unfold trapWord
  refine ite_kept (P := fun x => Kept m s0 x) ?_ ?_
  · refine takeTrap_kept (sub hm) ?_
    exact h
  · refine ite_kept (P := fun x => Kept m s0 x) ?_ ?_
    · refine custFail_kept (sub hm) ?_
      refine fset_kept (sub hm) ?_
      exact h
    · refine takeTrap_kept (sub hm) ?_
      exact h

theorem execTrap_kept {α : Type} {m : State → α} (hm : ∀ u, m u = m { u with regs := [], evq := [], out := [], msixPend := 0, links := [], recs := [], engs := [], dmem := [] })
    {s0 s : State} {a0 a1} (h : Kept m s0 s) :
    KeptR m s0 (execTrap a0 a1 s) := by
  unfold execTrap
  refine vertical_kept (sub hm) ?_ ?_
  · intro y1 y2
    refine ite_kept (P := fun x => KeptE m s0 x) ?_ ?_
    · refine KeptE.ok ?_
      refine trapWord_kept (sub hm) ?_
      exact y2
    · exact KeptE.error
  · exact h

theorem resume_kept {α : Type} {m : State → α} (hm : ∀ u, m u = m { u with regs := [], engs := [] })
    {s0 s : State} {a0 a1} (h : Kept m s0 s) :
    KeptE m s0 (resume a0 a1 s) := by
  unfold resume
  refine ite_kept (P := fun x => KeptE m s0 x) ?_ ?_
  · exact KeptE.error
  · extract_lets +onlyGivenNames x1
    clear_value x1
    refine KeptE.ok ?_
    refine fset_kept (sub hm) ?_
    refine setEngState_kept (sub hm) ?_
    refine setRegs_kept (sub hm) ?_
    exact h

theorem execResume_kept {α : Type} {m : State → α} (hm : ∀ u, m u = m { u with regs := [], evq := [], out := [], msixPend := 0, links := [], recs := [], engs := [], dmem := [] })
    {s0 s : State} {a0 a1} (h : Kept m s0 s) :
    KeptR m s0 (execResume a0 a1 s) := by
  unfold execResume
  refine vertical_kept (sub hm) ?_ ?_
  · intro y1 y2
    refine ite_kept (P := fun x => KeptE m s0 x) ?_ ?_
    · refine resume_kept (sub hm) ?_
      exact y2
    · exact KeptE.error
  · exact h

theorem execRgl_kept {α : Type} {m : State → α} (hm : ∀ u, m u = m { u with regs := [], evq := [], out := [], msixPend := 0, links := [], recs := [], engs := [], dmem := [] })
    {s0 s : State} {a0 a1} (h : Kept m s0 s) :
    KeptR m s0 (execRgl a0 a1 s) := by
  unfold execRgl
  refine vertical_kept (sub hm) ?_ ?_
  · intro y1 y2
    refine ite_kept (P := fun x => KeptE m s0 x) ?_ ?_
    · refine KeptE.ok ?_
      refine issueRg_kept (sub hm) ?_
      exact y2
    · exact KeptE.error
  · exact h

theorem execRgs_kept {α : Type} {m : State → α} (hm : ∀ u, m u = m { u with regs := [], evq := [], out := [], msixPend := 0, links := [], recs := [], engs := [], dmem := [] })
    {s0 s : State} {a0 a1} (h : Kept m s0 s) :
    KeptR m s0 (execRgs a0 a1 s) := by
  unfold execRgs
  refine vertical_kept (sub hm) ?_ ?_
  · intro y1 y2
    refine ite_kept (P := fun x => KeptE m s0 x) ?_ ?_
    · refine KeptE.ok ?_
      refine issueRg_kept (sub hm) ?_
      exact y2
    · exact KeptE.error
  · exact h

theorem execJi_kept {α : Type} {m : State → α} (hm : ∀ u, m u = m { u with regs := [], evq := [], out := [], msixPend := 0, links := [], recs := [], engs := [], dmem := [] })
    {s0 s : State} {a0 a1} (h : Kept m s0 s) :
    KeptR m s0 (execJi a0 a1 s) := by
  unfold execJi
  refine vertical_kept (sub hm) ?_ ?_
  · intro y1 y2
    refine ite_kept (P := fun x => KeptE m s0 x) ?_ ?_
    · refine goto_kept (sub hm) ?_
      exact y2
    · exact KeptE.error
  · exact h

theorem opMeaning_kept {α : Type} {m : State → α} (hm : ∀ u, m u = m { u with regs := [], evq := [], out := [], msixPend := 0, links := [], recs := [], engs := [], dmem := [], chans := [] })
    {s0 s : State} {e : Fin 20} {op : Nat} {w : BitVec 26} {f : State → Res} (hf : opMeaning e op w = some f)
    (h : Kept m s0 s) : KeptR m s0 (f s) := by
  unfold opMeaning at hf
  split at hf
  · cases hf; exact execNop_kept (sub hm) h
  · cases hf; exact execAdd_kept (sub hm) h
  · cases hf; exact execSub_kept (sub hm) h
  · cases hf; exact execNeg_kept (sub hm) h
  · cases hf; exact execAbs_kept (sub hm) h
  · cases hf; exact execMin_kept (sub hm) h
  · cases hf; exact execMax_kept (sub hm) h
  · cases hf; exact execLim_kept (sub hm) h
  · cases hf; exact execAnd_kept (sub hm) h
  · cases hf; exact execOr_kept (sub hm) h
  · cases hf; exact execXor_kept (sub hm) h
  · cases hf; exact execMov_kept (sub hm) h
  · cases hf; exact execShl_kept (sub hm) h
  · cases hf; exact execShr_kept (sub hm) h
  · cases hf; exact execMul_kept (sub hm) h
  · cases hf; exact execMac_kept (sub hm) h
  · cases hf; exact execMsu_kept (sub hm) h
  · cases hf; exact execClra_kept (sub hm) h
  · cases hf; exact execLda_kept (sub hm) h
  · cases hf; exact execMva_kept (sub hm) h
  · cases hf; exact execLdh_kept (sub hm) h
  · cases hf; exact execLdl_kept (sub hm) h
  · cases hf; exact execLoad_kept (sub hm) h
  · cases hf; exact execStore_kept (sub hm) h
  · cases hf; exact execSetx_kept (sub hm) h
  · cases hf; exact execMovx_kept (sub hm) h
  · cases hf; exact execInPort_kept (sub hm) h
  · cases hf; exact execOutPort_kept (sub hm) h
  · cases hf; exact execCmp_kept (sub hm) h
  · cases hf; exact execTst_kept (sub hm) h
  · cases hf; exact execBranch_kept (sub hm) h
  · cases hf; exact execCall_kept (sub hm) h
  · cases hf; exact execRet_kept (sub hm) h
  · cases hf; exact execWait_kept (sub hm) h
  · cases hf; exact execHook_kept (sub hm) h
  · cases hf; exact execRetc_kept (sub hm) h
  · cases hf; exact execTrap_kept (sub hm) h
  · cases hf; exact execResume_kept (sub hm) h
  · cases hf; exact execRgl_kept (sub hm) h
  · cases hf; exact execRgs_kept (sub hm) h
  · cases hf; exact execJi_kept (sub hm) h
  · cases hf

theorem runFetched_kept {α : Type} {m : State → α} (hm : ∀ u, m u = m { u with regs := [], evq := [], out := [], msixPend := 0, links := [], recs := [], engs := [], dmem := [], chans := [] })
    {s0 s : State} {a0} (h : Kept m s0 s) :
    Kept m s0 (runFetched a0 s) := by
  unfold runFetched
  extract_lets +onlyGivenNames x1
  clear_value x1
  refine ite_kept (P := fun x => Kept m s0 x) ?_ ?_
  · exact runNano_kept (sub hm) h
  · split
    · rename_i f e
      exact resState_kept (opMeaning_kept (sub hm) e h) h
    · exact runWord_kept (sub hm) (fun t ht => KeptE.error) h

theorem execEngineStep_kept {α : Type} {m : State → α} (hm : ∀ u, m u = m { u with regs := [], evq := [], out := [], msixPend := 0, links := [], recs := [], engs := [], dmem := [], chans := [] })
    {s0 s : State} {a0} (h : Kept m s0 s) :
    KeptR m s0 (execEngineStep a0 s) := by
  unfold execEngineStep
  extract_lets +onlyGivenNames x1
  clear_value x1
  refine ite_kept (P := fun x => KeptR m s0 x) ?_ ?_
  · extract_lets +onlyGivenNames x2
    have h3 : Kept m s0 x2 := by
      unfold x2
      refine runFetched_kept (sub hm) ?_
      refine setEngState_kept (sub hm) ?_
      exact h
    clear_value x2
    extract_lets +onlyGivenNames x4
    clear_value x4
    refine KeptR.next ?_
    refine ite_kept (P := fun x => Kept m s0 x) ?_ ?_
    · exact h3
    · refine setEngState_kept (sub hm) ?_
      refine setEng_kept (sub hm) ?_
      exact h3
  · refine KeptR.next ?_
    exact h

theorem tickOverrun_kept {α : Type} {m : State → α} (hm : ∀ u, m u = m { u with regs := [], evq := [], out := [], msixPend := 0, engs := [] })
    {s0 s : State} {a0} (h : Kept m s0 s) :
    Kept m s0 (tickOverrun a0 s) := by
  unfold tickOverrun
  extract_lets +onlyGivenNames x1
  clear_value x1
  extract_lets +onlyGivenNames x2
  clear_value x2
  extract_lets +onlyGivenNames x3
  have h4 : Kept m s0 x3 := by
    unfold x3
    refine pmc_kept (sub hm) ?_
    refine raise_kept (sub hm) ?_
    refine sticky_kept (sub hm) ?_
    refine cnt_kept (sub hm) ?_
    refine setEng_kept (sub hm) ?_
    exact h
  clear_value x3
  refine emitEng_kept (sub hm) ?_
  exact h4

theorem engEvents_kept {α : Type} {m : State → α} (hm : ∀ u, m u = m { u with regs := [], evq := [], out := [], msixPend := 0, engs := [] })
    {s0 s : State} {a0 a1} (h : Kept m s0 s) :
    Kept m s0 (engEvents a0 a1 s) := by
  unfold engEvents
  extract_lets +onlyGivenNames x1
  clear_value x1
  refine ite_kept (P := fun x => Kept m s0 x) ?_ ?_
  · exact h
  · extract_lets +onlyGivenNames x2
    have h3 : Kept m s0 x2 := by
      unfold x2
      refine ite_kept (P := fun x => Kept m s0 x) ?_ ?_
      · refine cnt_kept (sub hm) ?_
        exact h
      · exact h
    clear_value x2
    extract_lets +onlyGivenNames x4
    clear_value x4
    refine ite_kept (P := fun x => Kept m s0 x) ?_ ?_
    · extract_lets +onlyGivenNames x5
      clear_value x5
      refine ite_kept (P := fun x => Kept m s0 x) ?_ ?_
      · refine wake_kept (sub hm) ?_
        refine setEng_kept (sub hm) ?_
        exact h3
      · extract_lets +onlyGivenNames x6
        have h7 : Kept m s0 x6 := by
          unfold x6
          refine setEng_kept (sub hm) ?_
          exact h3
        clear_value x6
        refine ite_kept (P := fun x => Kept m s0 x) ?_ ?_
        · refine tickOverrun_kept (sub hm) ?_
          exact h7
        · exact h7
    · extract_lets +onlyGivenNames x8
      have h9 : Kept m s0 x8 := by
        unfold x8
        refine setEng_kept (sub hm) ?_
        exact h3
      clear_value x8
      refine ite_kept (P := fun x => Kept m s0 x) ?_ ?_
      · refine tickOverrun_kept (sub hm) ?_
        exact h9
      · exact h9

theorem execCntClr_kept {α : Type} {m : State → α} (hm : ∀ u, m u = m { u with regs := [] })
    {s0 s : State} {a0} (h : Kept m s0 s) :
    KeptR m s0 (execCntClr a0 s) := by
  unfold execCntClr
  refine KeptR.next ?_
  refine fclrs_kept (sub hm) ?_
  exact h

theorem execDmDataAccess_kept {α : Type} {m : State → α} (hm : ∀ u, m u = m { u with regs := [], out := [], dmem := [] })
    {s0 s : State} {a0 a1 a2} (h : Kept m s0 s) :
    KeptR m s0 (execDmDataAccess a0 a1 a2 s) := by
  unfold execDmDataAccess
  extract_lets +onlyGivenNames x1
  clear_value x1
  extract_lets +onlyGivenNames x2
  clear_value x2
  extract_lets +onlyGivenNames x3
  have h4 : Kept m s0 x3 := by
    unfold x3
    split
    · rename_i v5 v6
      refine dmPut_kept (sub hm) ?_
      exact h
    · rename_i v7
      refine send_kept (sub hm) ?_
      exact h
  clear_value x3
  refine KeptR.next ?_
  refine ite_kept (P := fun x => Kept m s0 x) ?_ ?_
  · refine fset_kept (sub hm) ?_
    exact h4
  · exact h4

theorem custArm_kept {α : Type} {m : State → α} (hm : ∀ u, m u = m { u with regs := [], engs := [] })
    {s0 s : State} {a0 a1} (h : Kept m s0 s) :
    Kept m s0 (custArm a0 a1 s) := by
  unfold custArm
  extract_lets +onlyGivenNames x1
  clear_value x1
  extract_lets +onlyGivenNames x2
  clear_value x2
  extract_lets +onlyGivenNames x3
  have h4 : Kept m s0 x3 := by
    unfold x3
    refine fsetB_kept (sub hm) ?_
    exact h
  clear_value x3
  refine ite_kept (P := fun x => Kept m s0 x) ?_ ?_
  · refine ite_kept (P := fun x => Kept m s0 x) ?_ ?_
    · exact h4
    · refine setEng_kept (sub hm) ?_
      exact h4
  · refine fset_kept (sub hm) ?_
    refine setEng_kept (sub hm) ?_
    exact h4

theorem rearm_kept {α : Type} {m : State → α} (hm : ∀ u, m u = m { u with regs := [], engs := [] })
    {s0 s : State} {a0} (h : Kept m s0 s) :
    Kept m s0 (rearm a0 s) := by
  unfold rearm
  refine setEng_kept (sub hm) ?_
  refine fset_kept (sub hm) ?_
  exact h

theorem sweep_kept {α : Type} {m : State → α} (hm : ∀ u, m u = m { u with regs := [], pgs := [] })
    {s0 s : State} {a0} (h : Kept m s0 s) :
    Kept m s0 (sweep a0 s) := by
  unfold sweep
  extract_lets +onlyGivenNames x1
  clear_value x1
  refine moveTo_kept (sub hm) ?_
  refine fset64_kept (sub hm) ?_
  refine resetLimits_kept (sub hm) ?_
  exact h

theorem loopOut_kept {α : Type} {m : State → α} (hm : ∀ u, m u = m { u with regs := [], evq := [], out := [], msixPend := 0, links := [], engs := [], loops := [] })
    {s0 s : State} {a0 a1} (h : Kept m s0 s) :
    Kept m s0 (loopOut a0 a1 s) := by
  unfold loopOut
  extract_lets +onlyGivenNames x1
  clear_value x1
  refine coilCommand_kept (sub hm) ?_
  refine setPort_kept (sub hm) ?_
  refine fsetI_kept (sub hm) ?_
  refine setLoop_kept (sub hm) ?_
  exact h

theorem startFocus_kept {α : Type} {m : State → α} (hm : ∀ u, m u = m { u with regs := [], evq := [], out := [], msixPend := 0, links := [], engs := [], pgs := [], loops := [], heads := [] })
    {s0 s : State} {a0} (h : Kept m s0 s) :
    Kept m s0 (startFocus a0 s) := by
  unfold startFocus
  extract_lets +onlyGivenNames x1
  clear_value x1
  extract_lets +onlyGivenNames x2
  clear_value x2
  refine showLoop_kept (sub hm) ?_
  refine sweep_kept (sub hm) ?_
  refine mcState_kept (sub hm) ?_
  refine setHead_kept (sub hm) ?_
  refine loopOut_kept (sub hm) ?_
  refine fset_kept (sub hm) ?_
  refine fset_kept (sub hm) ?_
  refine loopState_kept (sub hm) ?_
  refine setLoop_kept (sub hm) ?_
  exact h

theorem execFocusAcquire_kept {α : Type} {m : State → α} (hm : ∀ u, m u = m { u with regs := [], evq := [], out := [], msixPend := 0, links := [], engs := [], pgs := [], loops := [], heads := [] })
    {s0 s : State} {a0} (h : Kept m s0 s) :
    KeptR m s0 (execFocusAcquire a0 s) := by
  unfold execFocusAcquire
  extract_lets +onlyGivenNames x1
  clear_value x1
  refine ite_kept (P := fun x => KeptR m s0 x) ?_ ?_
  · refine KeptR.next ?_
    refine startFocus_kept (sub hm) ?_
    refine setHead_kept (sub hm) ?_
    exact h
  · refine KeptR.next ?_
    exact h

theorem startTracking_kept {α : Type} {m : State → α} (hm : ∀ u, m u = m { u with regs := [], engs := [], loops := [] })
    {s0 s : State} {a0} (h : Kept m s0 s) :
    Kept m s0 (startTracking a0 s) := by
  unfold startTracking
  extract_lets +onlyGivenNames x1
  clear_value x1
  refine showLoop_kept (sub hm) ?_
  refine fset_kept (sub hm) ?_
  refine loopState_kept (sub hm) ?_
  refine setLoop_kept (sub hm) ?_
  exact h

theorem trackingAcquire_kept {α : Type} {m : State → α} (hm : ∀ u, m u = m { u with regs := [], engs := [], loops := [] })
    {s0 s : State} {a0} (h : Kept m s0 s) :
    Kept m s0 (trackingAcquire a0 s) := by
  unfold trackingAcquire
  refine ite_kept (P := fun x => Kept m s0 x) ?_ ?_
  · refine startTracking_kept (sub hm) ?_
    exact h
  · exact h

theorem execTrackingAcquire_kept {α : Type} {m : State → α} (hm : ∀ u, m u = m { u with regs := [], engs := [], loops := [] })
    {s0 s : State} {a0} (h : Kept m s0 s) :
    KeptR m s0 (execTrackingAcquire a0 s) := by
  unfold execTrackingAcquire
  extract_lets +onlyGivenNames x1
  clear_value x1
  refine ite_kept (P := fun x => KeptR m s0 x) ?_ ?_
  · refine KeptR.next ?_
    refine trackingAcquire_kept (sub hm) ?_
    exact h
  · refine KeptR.next ?_
    exact h

theorem loopWrite_kept {α : Type} {m : State → α} (hm : ∀ u, m u = m { u with regs := [], evq := [], out := [], msixPend := 0, links := [], engs := [], pgs := [], loops := [], heads := [] })
    {s0 s : State} {a0 a1} (h : Kept m s0 s) :
    Kept m s0 (loopWrite a0 a1 s) := by
  unfold loopWrite
  extract_lets +onlyGivenNames x1
  have h2 : Kept m s0 x1 := by
    unfold x1
    refine regWrite_kept (sub hm) ?_
    exact h
  clear_value x1
  extract_lets +onlyGivenNames x3
  have h4 : Kept m s0 x3 := by
    unfold x3
    refine ite_kept (P := fun x => Kept m s0 x) ?_ ?_
    · refine fset_kept (sub hm) ?_
      exact h2
    · exact h2
  clear_value x3
  extract_lets +onlyGivenNames x5
  have h6 : Kept m s0 x5 := by
    unfold x5
    refine ite_kept (P := fun x => Kept m s0 x) ?_ ?_
    · refine ite_kept (P := fun x => Kept m s0 x) ?_ ?_
      · refine after_kept ?_ ?_
        · refine execFocusAcquire_kept (sub hm) ?_
          exact h4
        · exact h4
      · refine ite_kept (P := fun x => Kept m s0 x) ?_ ?_
        · refine after_kept ?_ ?_
          · refine execTrackingAcquire_kept (sub hm) ?_
            exact h4
          · exact h4
        · exact h4
    · exact h4
  clear_value x5
  refine ite_kept (P := fun x => Kept m s0 x) ?_ ?_
  · refine parkLoop_kept (sub hm) ?_
    exact h6
  · exact h6

theorem seekGo_kept {α : Type} {m : State → α} (hm : ∀ u, m u = m { u with regs := [], evq := [], out := [], msixPend := 0, engs := [], dmem := [], pgs := [], loops := [], heads := [], commons := [] })
    {s0 s : State} {a0} (h : Kept m s0 s) :
    Kept m s0 (seekGo a0 s) := by
  unfold seekGo
  extract_lets +onlyGivenNames x1
  clear_value x1
  split
  · rename_i v2 v3 v4 v5
    extract_lets +onlyGivenNames x6
    clear_value x6
    extract_lets +onlyGivenNames x7
    clear_value x7
    refine ite_kept (P := fun x => Kept m s0 x) ?_ ?_
    · refine emit_kept (sub hm) ?_
      refine raiseMc_kept (sub hm) ?_
      exact h
    · extract_lets +onlyGivenNames x8
      have h9 : Kept m s0 x8 := by
        unfold x8
        refine setHead_kept (sub hm) ?_
        exact h
      clear_value x8
      refine ite_kept (P := fun x => Kept m s0 x) ?_ ?_
      · refine askLayerJump_kept (sub hm) ?_
        beta_reduce
        refine setHead_kept (sub hm) ?_
        exact h9
      · refine ite_kept (P := fun x => Kept m s0 x) ?_ ?_
        · refine seekDecide_kept (sub hm) ?_
          exact h9
        · exact h9

theorem showFifo_kept {α : Type} {m : State → α} (hm : ∀ u, m u = m { u with regs := [] })
    {s0 s : State} {a0} (h : Kept m s0 s) :
    Kept m s0 (showFifo a0 s) := by
  unfold showFifo
  extract_lets +onlyGivenNames x1
  clear_value x1
  extract_lets +onlyGivenNames x2
  clear_value x2
  extract_lets +onlyGivenNames x3
  clear_value x3
  refine fset_kept (sub hm) ?_
  refine fset_kept (sub hm) ?_
  refine fset_kept (sub hm) ?_
  refine fset_kept (sub hm) ?_
  refine fset_kept (sub hm) ?_
  refine fset_kept (sub hm) ?_
  exact h

theorem execDefFifoPop_kept {α : Type} {m : State → α} (hm : ∀ u, m u = m { u with regs := [], commons := [] })
    {s0 s : State} {a0} (h : Kept m s0 s) :
    KeptR m s0 (execDefFifoPop a0 s) := by
  unfold execDefFifoPop
  refine KeptR.next ?_
  refine showFifo_kept (sub hm) ?_
  refine setCommon_kept (sub hm) ?_
  exact h

theorem roleWrite_kept {α : Type} {m : State → α} (hm : ∀ u, m u = m { u with free := 0, regs := [], evq := [], out := [], msixPend := 0, links := [], engs := [], dmem := [], pgs := [], loops := [], heads := [], commons := [] })
    {s0 s : State} {a0 a1 a2} (h : Kept m s0 s) :
    Kept m s0 (roleWrite a0 a1 a2 s) := by
  unfold roleWrite
  extract_lets +onlyGivenNames x1
  clear_value x1
  refine ite_kept (P := fun x => Kept m s0 x) ?_ ?_
  · refine loopWrite_kept (sub hm) ?_
    exact h
  · extract_lets +onlyGivenNames x2
    have h3 : Kept m s0 x2 := by
      unfold x2
      refine regWrite_kept (sub hm) ?_
      exact h
    clear_value x2
    refine ite_kept (P := fun x => Kept m s0 x) ?_ ?_
    · refine seekGo_kept (sub hm) ?_
      exact h3
    · refine ite_kept (P := fun x => Kept m s0 x) ?_ ?_
      · refine after_kept ?_ ?_
        · refine execDefFifoPop_kept (sub hm) ?_
          exact h3
        · exact h3
      · refine ite_kept (P := fun x => Kept m s0 x) ?_ ?_
        · refine calCommand_kept (sub hm) ?_
          exact h3
        · exact h3

theorem engWrite_kept {α : Type} {m : State → α} (hm : ∀ u, m u = m { u with free := 0, regs := [], evq := [], out := [], msixPend := 0, links := [], recs := [], engs := [], dmem := [], pgs := [], loops := [], heads := [], spin := {}, chans := [], commons := [] })
    {s0 s : State} {a0 a1 a2 a3} (h : Kept m s0 s) :
    Kept m s0 (engWrite a0 a1 a2 a3 s) := by
  unfold engWrite
  extract_lets +onlyGivenNames x1
  clear_value x1
  refine ite_kept (P := fun x => Kept m s0 x) ?_ ?_
  · extract_lets +onlyGivenNames x2
    have h3 : Kept m s0 x2 := by
      unfold x2
      refine after_kept ?_ ?_
      · refine execEngineHalt_kept (sub hm) ?_
        exact h
      · exact h
    clear_value x2
    extract_lets +onlyGivenNames x4
    have h5 : Kept m s0 x4 := by
      unfold x4
      refine ite_kept (P := fun x => Kept m s0 x) ?_ ?_
      · refine after_kept ?_ ?_
        · refine execEngineStep_kept (sub hm) ?_
          exact h3
        · exact h3
      · exact h3
    clear_value x4
    extract_lets +onlyGivenNames x6
    have h7 : Kept m s0 x6 := by
      unfold x6
      refine ite_kept (P := fun x => Kept m s0 x) ?_ ?_
      · refine engEvents_kept (sub hm) ?_
        exact h5
      · exact h5
    clear_value x6
    refine ite_kept (P := fun x => Kept m s0 x) ?_ ?_
    · refine after_kept ?_ ?_
      · refine execCntClr_kept (sub hm) ?_
        exact h7
      · exact h7
    · exact h7
  · refine ite_kept (P := fun x => Kept m s0 x) ?_ ?_
    · refine after_kept ?_ ?_
      · refine execDmDataAccess_kept (sub hm) ?_
        exact h
      · exact h
    · refine ite_kept (P := fun x => Kept m s0 x) ?_ ?_
      · refine custArm_kept (sub hm) ?_
        refine regWrite_kept (sub hm) ?_
        exact h
      · refine ite_kept (P := fun x => Kept m s0 x) ?_ ?_
        · refine ite_app_kept (P := fun x => Kept m s0 x) ?_ ?_
          · refine rearm_kept (sub hm) ?_
            refine regWrite_kept (sub hm) ?_
            exact h
          · refine id_kept (P := fun x => Kept m s0 x) ?_
            refine regWrite_kept (sub hm) ?_
            exact h
        · refine ite_kept (P := fun x => Kept m s0 x) ?_ ?_
          · refine roleWrite_kept (sub hm) ?_
            exact h
          · refine regWrite_kept (sub hm) ?_
            exact h

theorem execCrcTestData_kept {α : Type} {m : State → α} (hm : ∀ u, m u = m { u with dec := {} })
    {s0 s : State} {a0} (h : Kept m s0 s) :
    KeptR m s0 (execCrcTestData a0 s) := by
  unfold execCrcTestData
  extract_lets +onlyGivenNames x1
  clear_value x1
  extract_lets +onlyGivenNames x2
  clear_value x2
  extract_lets +onlyGivenNames x3
  clear_value x3
  refine KeptR.next ?_
  refine ite_kept (P := fun x => Kept m s0 x) ?_ ?_
  · refine setDec_kept (sub hm) ?_
    exact h
  · exact h

theorem execCrcTestStart_kept {α : Type} {m : State → α} (hm : ∀ u, m u = m { u with regs := [], dec := {} })
    {s0 s : State} (h : Kept m s0 s) :
    KeptR m s0 (execCrcTestStart s) := by
  unfold execCrcTestStart
  extract_lets +onlyGivenNames x1
  clear_value x1
  refine KeptR.next ?_
  refine fset_kept (sub hm) ?_
  refine setDec_kept (sub hm) ?_
  exact h

theorem execCrcTestFinish_kept {α : Type} {m : State → α} (hm : ∀ u, m u = m { u with regs := [], out := [], msixPend := 0 })
    {s0 s : State} (h : Kept m s0 s) :
    KeptR m s0 (execCrcTestFinish s) := by
  unfold execCrcTestFinish
  extract_lets +onlyGivenNames x1
  clear_value x1
  refine KeptR.next ?_
  refine ite_kept (P := fun x => Kept m s0 x) ?_ ?_
  · refine raise_kept (sub hm) ?_
    refine fset_kept (sub hm) ?_
    refine fset64_kept (sub hm) ?_
    exact h
  · exact h

theorem crcWrite_kept {α : Type} {m : State → α} (hm : ∀ u, m u = m { u with regs := [], out := [], msixPend := 0, dec := {} })
    {s0 s : State} {a0 a1} (h : Kept m s0 s) :
    Kept m s0 (crcWrite a0 a1 s) := by
  unfold crcWrite
  refine ite_kept (P := fun x => Kept m s0 x) ?_ ?_
  · refine after_kept ?_ ?_
    · refine execCrcTestData_kept (sub hm) ?_
      exact h
    · exact h
  · extract_lets +onlyGivenNames x1
    have h2 : Kept m s0 x1 := by
      unfold x1
      refine regWrite_kept (sub hm) ?_
      exact h
    clear_value x1
    refine ite_kept (P := fun x => Kept m s0 x) ?_ ?_
    · extract_lets +onlyGivenNames x3
      have h4 : Kept m s0 x3 := by
        unfold x3
        refine ite_kept (P := fun x => Kept m s0 x) ?_ ?_
        · refine after_kept ?_ ?_
          · refine execCrcTestStart_kept (sub hm) ?_
            exact h2
          · exact h2
        · exact h2
      clear_value x3
      refine ite_kept (P := fun x => Kept m s0 x) ?_ ?_
      · refine after_kept ?_ ?_
        · refine execCrcTestFinish_kept (sub hm) ?_
          exact h4
        · exact h4
      · exact h4
    · exact h2

theorem emitBeam_kept {α : Type} {m : State → α} (hm : ∀ u, m u = m { u with regs := [], out := [] })
    {s0 s : State} {a0 a2} (h : Kept m s0 s) :
    Kept m s0 (emitBeam a0 s a2) := by
  unfold emitBeam
  extract_lets +onlyGivenNames x1
  clear_value x1
  extract_lets +onlyGivenNames x2
  clear_value x2
  extract_lets +onlyGivenNames x3
  have h4 : Kept m s0 x3 := by
    unfold x3
    refine cnt64_kept (sub hm) ?_
    refine cnt64_kept (sub hm) ?_
    refine send_kept (sub hm) ?_
    exact h
  clear_value x3
  refine ite_kept (P := fun x => Kept m s0 x) ?_ ?_
  · exact h4
  · refine sticky_kept (sub hm) ?_
    refine cntN_kept (sub hm) ?_
    exact h4

theorem endRecording_kept {α : Type} {m : State → α} (hm : ∀ u, m u = m { u with regs := [], recs := [] })
    {s0 s : State} {a0} (h : Kept m s0 s) :
    Kept m s0 (endRecording a0 s) := by
  unfold endRecording
  refine setRec_kept (sub hm) ?_
  refine showWriting_kept (sub hm) ?_
  exact h

theorem showSlot_kept {α : Type} {m : State → α} (hm : ∀ u, m u = m { u with regs := [] })
    {s0 s : State} {a0 a1} (h : Kept m s0 s) :
    Kept m s0 (showSlot a0 a1 s) := by
  unfold showSlot
  extract_lets +onlyGivenNames x1
  clear_value x1
  extract_lets +onlyGivenNames x2
  clear_value x2
  extract_lets +onlyGivenNames x3
  have h4 : Kept m s0 x3 := by
    unfold x3
    refine fset_kept (sub hm) ?_
    refine fset_kept (sub hm) ?_
    exact h
  clear_value x3
  refine ite_kept (P := fun x => Kept m s0 x) ?_ ?_
  · split
    · rename_i v5 v6 v7 v8
      refine fset_kept (sub hm) ?_
      refine fset_kept (sub hm) ?_
      exact h4
    · rename_i v9 v10
      refine fset_kept (sub hm) ?_
      exact h4
  · exact h4

theorem slotEmitted_kept {α : Type} {m : State → α} (hm : ∀ u, m u = m { u with regs := [], out := [], msixPend := 0, disc := {}, ends := [], recs := [], encoded := [], mem := {}, cl := {} })
    {s0 s : State} {a0} (h : Kept m s0 s) :
    Kept m s0 (slotEmitted a0 s) := by
  unfold slotEmitted
  extract_lets +onlyGivenNames x1
  clear_value x1
  extract_lets +onlyGivenNames x2
  clear_value x2
  extract_lets +onlyGivenNames x3
  clear_value x3
  extract_lets +onlyGivenNames x4
  have h5 : Kept m s0 x4 := by
    unfold x4
    refine foldl_kept (P := fun x => Kept m s0 x) ?_ ?_
    · intro y6 y7 y8
      refine emitBeam_kept (sub hm) ?_
      exact y8
    · refine ite_kept (P := fun x => Kept m s0 x) ?_ ?_
      · exact h
      · refine pmc_kept (sub hm) ?_
        exact h
  clear_value x4
  extract_lets +onlyGivenNames x9
  clear_value x9
  extract_lets +onlyGivenNames x10
  clear_value x10
  extract_lets +onlyGivenNames x11
  clear_value x11
  extract_lets +onlyGivenNames x12
  have h13 : Kept m s0 x12 := by
    unfold x12
    refine foldl_kept (P := fun x => Kept m s0 x) ?_ ?_
    · intro y14 y15 y16
      refine clusterRecorded_kept (sub hm) ?_
      exact y16
    · exact h5
  clear_value x12
  extract_lets +onlyGivenNames x17
  clear_value x17
  extract_lets +onlyGivenNames x18
  clear_value x18
  extract_lets +onlyGivenNames x19
  have h20 : Kept m s0 x19 := by
    unfold x19
    refine setRec_kept (sub hm) ?_
    exact h13
  clear_value x19
  extract_lets +onlyGivenNames x21
  have h22 : Kept m s0 x21 := by
    unfold x21
    refine ite_kept (P := fun x => Kept m s0 x) ?_ ?_
    · refine endRecording_kept (sub hm) ?_
      exact h20
    · exact h20
  clear_value x21
  refine showSlot_kept (sub hm) ?_
  exact h22

theorem slotsEmitted_kept {α : Type} {m : State → α} (hm : ∀ u, m u = m { u with regs := [], out := [], msixPend := 0, disc := {}, ends := [], recs := [], encoded := [], mem := {}, cl := {} })
    {s0 s : State} {a0 a1} (h : Kept m s0 s) :
    Kept m s0 (slotsEmitted a0 a1 s) := by
  induction a1 generalizing s with
  | zero => exact h
  | succ n ih => exact ih (slotEmitted_kept (sub hm) h)

theorem notBegun_kept {α : Type} {m : State → α} (hm : ∀ u, m u = m { u with recs := [] })
    {s0 s : State} {a0} (h : Kept m s0 s) :
    Kept m s0 (notBegun a0 s) := by
  unfold notBegun
  extract_lets +onlyGivenNames x1
  clear_value x1
  refine setRec_kept (sub hm) ?_
  exact h

theorem requestSuspend_kept {α : Type} {m : State → α} (hm : ∀ u, m u = m { u with regs := [], evq := [], out := [], msixPend := 0, disc := {}, ends := [], recs := [], encoded := [], mem := {}, cl := {} })
    {s0 s : State} {a0 a1} (h : Kept m s0 s) :
    Kept m s0 (requestSuspend a0 a1 s) := by
  unfold requestSuspend
  extract_lets +onlyGivenNames x1
  clear_value x1
  extract_lets +onlyGivenNames x2
  clear_value x2
  refine ite_kept (P := fun x => Kept m s0 x) ?_ ?_
  · exact h
  · refine ite_kept (P := fun x => Kept m s0 x) ?_ ?_
    · refine suspend_kept (sub hm) ?_
      exact h
    · extract_lets +onlyGivenNames x3
      have h4 : Kept m s0 x3 := by
        unfold x3
        refine slotsEmitted_kept (sub hm) ?_
        exact h
      clear_value x3
      refine ite_kept (P := fun x => Kept m s0 x) ?_ ?_
      · refine notBegun_kept (sub hm) ?_
        refine suspend_kept (sub hm) ?_
        exact h4
      · exact h4

theorem encWrite_kept {α : Type} {m : State → α} (hm : ∀ u, m u = m { u with regs := [], evq := [], out := [], msixPend := 0, disc := {}, ends := [], recs := [], encoded := [], mem := {}, cl := {} })
    {s0 s : State} {a0 a1} (h : Kept m s0 s) :
    Kept m s0 (encWrite a0 a1 s) := by
  unfold encWrite
  extract_lets +onlyGivenNames x1
  clear_value x1
  extract_lets +onlyGivenNames x2
  have h3 : Kept m s0 x2 := by
    unfold x2
    refine regWrite_kept (sub hm) ?_
    exact h
  clear_value x2
  refine ite_kept (P := fun x => Kept m s0 x) ?_ ?_
  · refine requestSuspend_kept (sub hm) ?_
    refine requestSuspend_kept (sub hm) ?_
    exact h3
  · exact h3

theorem execLpwEnable_kept {α : Type} {m : State → α} (hm : ∀ u, m u = m { u with regs := [], recs := [] })
    {s0 s : State} {a0 a1} (h : Kept m s0 s) :
    KeptR m s0 (execLpwEnable a0 a1 s) := by
  unfold execLpwEnable
  extract_lets +onlyGivenNames x1
  clear_value x1
  extract_lets +onlyGivenNames x2
  clear_value x2
  refine KeptR.next ?_
  refine ite_app_kept (P := fun x => Kept m s0 x) ?_ ?_
  · refine setRec_kept (sub hm) ?_
    refine fsetB_kept (sub hm) ?_
    exact h
  · refine id_kept (P := fun x => Kept m s0 x) ?_
    refine fsetB_kept (sub hm) ?_
    exact h

theorem lpwWrite_kept {α : Type} {m : State → α} (hm : ∀ u, m u = m { u with regs := [], out := [], msixPend := 0, recs := [] })
    {s0 s : State} {a0 a1 a2} (h : Kept m s0 s) :
    Kept m s0 (lpwWrite a0 a1 a2 s) := by
  unfold lpwWrite
  extract_lets +onlyGivenNames x1
  clear_value x1
  refine ite_kept (P := fun x => Kept m s0 x) ?_ ?_
  · extract_lets +onlyGivenNames x2
    have h3 : Kept m s0 x2 := by
      unfold x2
      refine regWrite_kept (sub hm) ?_
      exact h
    clear_value x2
    refine after_kept ?_ ?_
    · refine execLpwEnable_kept (sub hm) ?_
      exact h3
    · exact h3
  · refine regWrite_kept (sub hm) ?_
    exact h

theorem maintBusy_kept {α : Type} {m : State → α} (hm : ∀ u, m u = m { u with regs := [] })
    {s0 s : State} {a0} (h : Kept m s0 s) :
    Kept m s0 (maintBusy a0 s) := by
  unfold maintBusy
  refine fsetB_kept (sub hm) ?_
  refine fsetB_kept (sub hm) ?_
  exact h

theorem dropLine_kept {α : Type} {m : State → α} (hm : ∀ u, m u = m { u with regs := [], mem := {} })
    {s0 s : State} {a0} (h : Kept m s0 s) :
    Kept m s0 (dropLine a0 s) := by
  unfold dropLine
  refine showDirty_kept (sub hm) ?_
  refine setMem_kept (sub hm) ?_
  exact h

theorem takeWaits_kept {α : Type} {m : State → α} (hm : ∀ u, m u = m { u with mem := {} })
    {s0 s : State} {a0} (h : Kept m s0 s) :
    Kept m s0 (takeWaits a0 s).2 := by
  unfold takeWaits
  refine snd_kept (P := fun x => Kept m s0 x) ?_
  refine setMem_kept (sub hm) ?_
  exact h

theorem hit_kept {α : Type} {m : State → α} (hm : ∀ u, m u = m { u with regs := [], out := [], msixPend := 0, mem := {} })
    {s0 s : State} {a0 a1 a2} (h : Kept m s0 s) :
    Kept m s0 (hit a0 a1 a2 s) := by
  unfold hit
  refine serve_kept (sub hm) ?_
  refine pmc_kept (sub hm) ?_
  refine cnt_kept (sub hm) ?_
  exact h

theorem dramRead_kept {α : Type} {m : State → α} (hm : ∀ u, m u = m { u with regs := [], evq := [], out := [], msixPend := 0, mem := {} })
    {s0 s : State} {a0 a1 a2} (h : Kept m s0 s) :
    Kept m s0 (dramRead a0 a1 a2 s).2.2 := by
  unfold dramRead
  extract_lets +onlyGivenNames x1
  clear_value x1
  extract_lets +onlyGivenNames x2
  have h3 : Kept m s0 x2 := by
    unfold x2
    refine pmc_kept (sub hm) ?_
    refine cnt64_kept (sub hm) ?_
    exact h
  clear_value x2
  refine ite_kept (P := fun (x : _ × _ × _) => Kept m s0 x.2.2) ?_ ?_
  · refine snd_kept (P := fun (x : _ × _) => Kept m s0 x.2) ?_
    refine snd_kept (P := fun x => Kept m s0 x) ?_
    refine emit_kept (sub hm) ?_
    refine raise_kept (sub hm) ?_
    refine cnt_kept (sub hm) ?_
    exact h3
  · extract_lets +onlyGivenNames x4
    have h5 : Kept m s0 x4 := by
      unfold x4
      refine foldl_kept (P := fun x => Kept m s0 x) ?_ ?_
      · intro y6 y7 y8
        refine chunkErr_kept (sub hm) ?_
        exact y8
      · exact h3
    clear_value x4
    extract_lets +onlyGivenNames x9
    clear_value x9
    extract_lets +onlyGivenNames x10
    have h11 : Kept m s0 x10 := by
      unfold x10
      refine ite_kept (P := fun x => Kept m s0 x) ?_ ?_
      · refine dramWrite_kept (sub hm) ?_
        exact h5
      · exact h5
    clear_value x10
    refine snd_kept (P := fun (x : _ × _) => Kept m s0 x.2) ?_
    refine snd_kept (P := fun x => Kept m s0 x) ?_
    exact h11

theorem uncached_kept {α : Type} {m : State → α} (hm : ∀ u, m u = m { u with regs := [], evq := [], out := [], msixPend := 0, mem := {} })
    {s0 s : State} {a0} (h : Kept m s0 s) :
    Kept m s0 (uncached a0 s) := by
  unfold uncached
  extract_lets +onlyGivenNames x1
  clear_value x1
  extract_lets +onlyGivenNames x2
  have h3 : Kept m s0 x2 := by
    unfold x2
    refine cnt_kept (sub hm) ?_
    refine sticky_kept (sub hm) ?_
    exact h
  clear_value x2
  split
  · rename_i v4 v5 v6
    refine ite_kept (P := fun x => Kept m s0 x) ?_ ?_
    · refine dramWrite_kept (sub hm) ?_
      exact h3
    · split
      · rename_i v7 v8 v9 v10 v11
        have h12 : Kept m s0 ((v8, v9, v10)).2.2 := by
          rw [← v11]
          refine dramRead_kept (sub hm) ?_
          exact h3
        refine dramWrite_kept (sub hm) ?_
        refine cnt_kept (sub hm) ?_
        exact h12
  · rename_i v13 v14
    split
    · rename_i v15 v16 v17 v18 v19
      have h20 : Kept m s0 ((v16, v17, v18)).2.2 := by
        rw [← v19]
        refine dramRead_kept (sub hm) ?_
        exact h3
      refine ite_kept (P := fun x => Kept m s0 x) ?_ ?_
      · refine poisonHit_kept (sub hm) ?_
        exact h20
      · refine send_kept (sub hm) ?_
        exact h20

theorem miss_kept {α : Type} {m : State → α} (hm : ∀ u, m u = m { u with regs := [], evq := [], out := [], msixPend := 0, mem := {} })
    {s0 s : State} {a0} (h : Kept m s0 s) :
    Kept m s0 (miss a0 s) := by
  unfold miss
  extract_lets +onlyGivenNames x1
  clear_value x1
  split
  · rename_i v2 v3
    refine ite_kept (P := fun x => Kept m s0 x) ?_ ?_
    · refine waitReq_kept (sub hm) ?_
      exact h
    · refine uncached_kept (sub hm) ?_
      refine pmc_kept (sub hm) ?_
      refine cnt_kept (sub hm) ?_
      exact h
  · rename_i v4 v5 v6
    extract_lets +onlyGivenNames x7
    have h8 : Kept m s0 x7 := by
      unfold x7
      refine pmc_kept (sub hm) ?_
      refine cnt_kept (sub hm) ?_
      exact h
    clear_value x7
    extract_lets +onlyGivenNames x9
    clear_value x9
    split
    · rename_i v10 v11 v12
      refine ite_kept (P := fun x => Kept m s0 x) ?_ ?_
      · refine waitReq_kept (sub hm) ?_
        refine putLine_kept (sub hm) ?_
        refine cnt_kept (sub hm) ?_
        exact h8
      · refine allot_kept (sub hm) ?_
        exact h8
    · rename_i v13 v14
      refine allot_kept (sub hm) ?_
      exact h8

theorem present_kept {α : Type} {m : State → α} (hm : ∀ u, m u = m { u with regs := [], evq := [], out := [], msixPend := 0, mem := {} })
    {s0 s : State} {a0} (h : Kept m s0 s) :
    Kept m s0 (present a0 s) := by
  unfold present
  extract_lets +onlyGivenNames x1
  clear_value x1
  split
  · rename_i v2 v3 v4 v5
    refine ite_kept (P := fun x => Kept m s0 x) ?_ ?_
    · refine waitReq_kept (sub hm) ?_
      refine cnt_kept (sub hm) ?_
      exact h
    · refine ite_kept (P := fun x => Kept m s0 x) ?_ ?_
      · refine waitReq_kept (sub hm) ?_
        exact h
      · refine hit_kept (sub hm) ?_
        exact h
  · rename_i v6 v7
    refine ite_kept (P := fun x => Kept m s0 x) ?_ ?_
    · refine waitReq_kept (sub hm) ?_
      exact h
    · refine miss_kept (sub hm) ?_
      exact h

theorem retry_kept {α : Type} {m : State → α} (hm : ∀ u, m u = m { u with regs := [], evq := [], out := [], msixPend := 0, mem := {} })
    {s0 s : State} {a0} (h : Kept m s0 s) :
    Kept m s0 (retry a0 s) := by
  unfold retry
  split
  · rename_i v1 v2 v3 v4
    have h5 : Kept m s0 ((v2, v3)).2 := by
      rw [← v4]
      refine takeWaits_kept (sub hm) ?_
      exact h
    refine foldl_kept (P := fun x => Kept m s0 x) ?_ ?_
    · intro y6 y7 y8
      refine present_kept (sub hm) ?_
      exact y8
    · exact h5

theorem retrySet_kept {α : Type} {m : State → α} (hm : ∀ u, m u = m { u with regs := [], evq := [], out := [], msixPend := 0, mem := {} })
    {s0 s : State} {a0} (h : Kept m s0 s) :
    Kept m s0 (retrySet a0 s) := by
  unfold retrySet
  extract_lets +onlyGivenNames x1
  clear_value x1
  extract_lets +onlyGivenNames x2
  clear_value x2
  refine foldl_kept (P := fun x => Kept m s0 x) ?_ ?_
  · intro y3 y4 y5
    refine retry_kept (sub hm) ?_
    exact y5
  · exact h

theorem evictionDone_kept {α : Type} {m : State → α} (hm : ∀ u, m u = m { u with regs := [], evq := [], out := [], msixPend := 0, mem := {} })
    {s0 s : State} {a0 a1} (h : Kept m s0 s) :
    Kept m s0 (evictionDone a0 a1 s) := by
  unfold evictionDone
  extract_lets +onlyGivenNames x1 x2
  have h3 : Kept m s0 x2 := by
    unfold x2
    refine dropLine_kept (sub hm) ?_
    refine dramWrite_kept (sub hm) ?_
    exact h
  clear_value x2
  extract_lets +onlyGivenNames x4
  have h5 : Kept m s0 x4 := by
    unfold x4
    split
    · exact h3
    · rename_i t whole e
      refine ite_kept (P := fun x => Kept m s0 x) ?_ ?_
      · have hw : ∀ n, Kept m s0 (takeWaits n x2).2 := fun n => takeWaits_kept (sub hm) h3
        rcases hq : takeWaits (t * 4096 + a0 / 16) x2 with ⟨qs, u⟩
        have hu : Kept m s0 u := by
          have := hw (t * 4096 + a0 / 16)
          rw [hq] at this
          exact this
        cases qs with
        | nil => exact hu
        | cons q rest =>
          refine foldl_kept (P := fun x => Kept m s0 x) ?_ ?_
          · exact fun t x ht => present_kept (sub hm) ht
          · exact allot_kept (sub hm) hu
      · exact putLine_kept (sub hm) h3
  clear_value x4
  exact retrySet_kept (sub hm) (retry_kept (sub hm) h5)

theorem fillDone_kept {α : Type} {m : State → α} (hm : ∀ u, m u = m { u with regs := [], evq := [], out := [], msixPend := 0, mem := {} })
    {s0 s : State} {a0 a1 a2} (h : Kept m s0 s) :
    Kept m s0 (fillDone a0 a1 a2 s) := by
  unfold fillDone
  extract_lets +onlyGivenNames x1
  rcases hq : takeWaits x1 s with ⟨qs, u⟩
  have hu : Kept m s0 u := by
    have := takeWaits_kept (sub hm) (a0 := x1) h
    rw [hq] at this
    exact this
  clear_value x1
  dsimp only
  rcases hd : dramRead ((qs.head?.map CacheReq.cls).getD 0) x1 a2 u with ⟨d, bad, v⟩
  have hv : Kept m s0 v := by
    have := dramRead_kept (sub hm) (a0 := (qs.head?.map CacheReq.cls).getD 0) (a1 := x1) (a2 := a2) hu
    rw [hd] at this
    exact this
  refine retrySet_kept (sub hm) ?_
  cases qs with
  | nil => exact putLine_kept (sub hm) hv
  | cons q rest =>
    refine foldl_kept (P := fun x => Kept m s0 x) ?_ ?_
    · intro t r ht
      split
      · exact hit_kept (sub hm) ht
      · exact present_kept (sub hm) ht
    · exact serve_kept (sub hm) (putLine_kept (sub hm) hv)

theorem settle_kept {α : Type} {m : State → α} (hm : ∀ u, m u = m { u with regs := [], evq := [], out := [], msixPend := 0, mem := {} })
    {s0 s : State} {a1} (h : Kept m s0 s) :
    Kept m s0 (settle s a1) := by
  unfold settle
  split
  · rename_i v1 v2 v3
    refine ite_kept (P := fun x => Kept m s0 x) ?_ ?_
    · refine evictionDone_kept (sub hm) ?_
      exact h
    · refine ite_kept (P := fun x => Kept m s0 x) ?_ ?_
      · refine fillDone_kept (sub hm) ?_
        exact h
      · exact h
  · rename_i v4 v5
    exact h

theorem parity_kept {α : Type} {m : State → α} (hm : ∀ u, m u = m { u with regs := [], evq := [], out := [], msixPend := 0, mem := {} })
    {s0 s : State} {a0 a1 a2 a3} (h : Kept m s0 s) :
    Kept m s0 (parity a0 a1 a2 a3 s) := by
  unfold parity
  extract_lets +onlyGivenNames x1
  clear_value x1
  extract_lets +onlyGivenNames x2
  clear_value x2
  extract_lets +onlyGivenNames x3
  have h4 : ∀ y5 y6, Kept m s0 y6 → Kept m s0 (x3 y5 y6) := by
    intro y5 y6 k7
    unfold x3
    refine fset_kept (sub hm) ?_
    refine fset_kept (sub hm) ?_
    exact k7
  clear_value x3
  extract_lets +onlyGivenNames x8
  have h9 : ∀ y10, Kept m s0 y10 → Kept m s0 (x8 y10) := by
    intro y10 k11
    unfold x8
    refine emit_kept (sub hm) ?_
    refine raise_kept (sub hm) ?_
    refine cnt_kept (sub hm) ?_
    refine dropLine_kept (sub hm) ?_
    refine h4 _ _ ?_
    exact k11
  clear_value x8
  extract_lets +onlyGivenNames x12
  have h13 : ∀ y14 y15 y16, Kept m s0 y16 → Kept m s0 (x12 y14 y15 y16) := by
    intro y14 y15 y16 k17
    unfold x12
    refine emit_kept (sub hm) ?_
    refine raise_kept (sub hm) ?_
    refine fault_kept (sub hm) ?_
    refine cnt_kept (sub hm) ?_
    refine dropLine_kept (sub hm) ?_
    exact k17
  clear_value x12
  split
  · rename_i v18
    refine ite_kept (P := fun x => Kept m s0 x) ?_ ?_
    · refine h13 _ _ _ ?_
      refine dramWrite_kept (sub hm) ?_
      refine h4 _ _ ?_
      exact h
    · refine h9 _ ?_
      exact h
  · rename_i v19 v20
    refine ite_kept (P := fun x => Kept m s0 x) ?_ ?_
    · refine h13 _ _ _ ?_
      refine h4 _ _ ?_
      exact h
    · refine h9 _ ?_
      exact h

theorem maintLine_kept {α : Type} {m : State → α} (hm : ∀ u, m u = m { u with regs := [], evq := [], out := [], msixPend := 0, mem := {} })
    {s0 s : State} {a0 a1 a3} (h : Kept m s0 s) :
    Kept m s0 (maintLine a0 a1 s a3) := by
  unfold maintLine
  extract_lets +onlyGivenNames x1
  have h2 : Kept m s0 x1 := by
    unfold x1
    refine settle_kept (sub hm) ?_
    exact h
  clear_value x1
  split
  · rename_i v3 v4
    exact h2
  · rename_i v5 v6 v7
    split
    · rename_i v8 v9 v10 v11
      refine parity_kept (sub hm) ?_
      exact h2
    · rename_i v12 v13
      refine ite_kept (P := fun x => Kept m s0 x) ?_ ?_
      · refine fset_kept (sub hm) ?_
        refine ite_kept (P := fun x => Kept m s0 x) ?_ ?_
        · refine cleanLine_kept (sub hm) ?_
          exact h2
        · exact h2
      · split
        · rename_i v14
          refine cleanLine_kept (sub hm) ?_
          exact h2
        · rename_i v15
          refine dropLine_kept (sub hm) ?_
          refine cleanLine_kept (sub hm) ?_
          exact h2
        · rename_i v16
          refine dropLine_kept (sub hm) ?_
          refine ite_app_kept (P := fun x => Kept m s0 x) ?_ ?_
          · refine cnt_kept (sub hm) ?_
            exact h2
          · refine id_kept (P := fun x => Kept m s0 x) ?_
            exact h2

theorem maintRun_kept {α : Type} {m : State → α} (hm : ∀ u, m u = m { u with regs := [], evq := [], out := [], msixPend := 0, mem := {} })
    {s0 s : State} {a0 a1} (h : Kept m s0 s) :
    Kept m s0 (maintRun a0 a1 s) := by
  unfold maintRun
  refine ite_kept (P := fun x => Kept m s0 x) ?_ ?_
  · refine sticky_kept (sub hm) ?_
    exact h
  · extract_lets +onlyGivenNames x1
    have h2 : Kept m s0 x1 := by
      unfold x1
      refine fset_kept (sub hm) ?_
      refine fset_kept (sub hm) ?_
      refine fset_kept (sub hm) ?_
      refine maintBusy_kept (sub hm) ?_
      exact h
    clear_value x1
    extract_lets +onlyGivenNames x3
    clear_value x3
    extract_lets +onlyGivenNames x4
    have h5 : Kept m s0 x4 := by
      unfold x4
      refine setMem_kept (sub hm) ?_
      exact h2
    clear_value x4
    refine foldl_kept (P := fun x => Kept m s0 x) ?_ ?_
    · intro y6 y7 y8
      refine maintLine_kept (sub hm) ?_
      exact y8
    · exact h5

theorem zeroLine_kept {α : Type} {m : State → α} (hm : ∀ u, m u = m { u with regs := [], evq := [], out := [], msixPend := 0, mem := {} })
    {s0 s : State} {a0 a1} (h : Kept m s0 s) :
    Kept m s0 (zeroLine a0 a1 s) := by
  unfold zeroLine
  extract_lets +onlyGivenNames x1
  have h2 : Kept m s0 x1 := by
    unfold x1
    split
    · rename_i v3 v4 v5 v6
      refine settle_kept (sub hm) ?_
      exact h
    · rename_i v7 v8
      exact h
  clear_value x1
  extract_lets +onlyGivenNames x9
  have h10 : Kept m s0 x9 := by
    unfold x9
    split
    · rename_i v11 v12 v13 v14
      split
      · rename_i v15 v16 v17 v18
        refine parity_kept (sub hm) ?_
        exact h2
      · rename_i v19 v20
        exact h2
    · rename_i v21 v22
      exact h2
  clear_value x9
  split
  · rename_i v23 v24 v25 v26
    refine touch_kept (sub hm) ?_
    refine putLine_kept (sub hm) ?_
    exact h10
  · rename_i v27 v28
    split
    · rename_i v29 v30
      refine dramWrite_kept (sub hm) ?_
      refine cnt_kept (sub hm) ?_
      refine sticky_kept (sub hm) ?_
      exact h10
    · rename_i v31 v32 v33
      extract_lets +onlyGivenNames x34
      clear_value x34
      extract_lets +onlyGivenNames x35
      have h36 : Kept m s0 x35 := by
        unfold x35
        split
        · rename_i v37 v38 v39
          refine ite_kept (P := fun x => Kept m s0 x) ?_ ?_
          · refine dramWrite_kept (sub hm) ?_
            refine cnt_kept (sub hm) ?_
            exact h10
          · exact h10
        · rename_i v40 v41
          exact h10
      clear_value x35
      refine touch_kept (sub hm) ?_
      refine putLine_kept (sub hm) ?_
      refine cnt_kept (sub hm) ?_
      exact h36

theorem zeroLines_kept {α : Type} {m : State → α} (hm : ∀ u, m u = m { u with regs := [], evq := [], out := [], msixPend := 0, mem := {} })
    {s0 s : State} {a0 a1 a2} (h : Kept m s0 s) :
    Kept m s0 (zeroLines a0 a1 a2 s) := by
  induction a1 generalizing a2 s with
  | zero => exact h
  | succ n ih => exact ih (zeroLine_kept (sub hm) h)

theorem execZero_kept {α : Type} {m : State → α} (hm : ∀ u, m u = m { u with regs := [], evq := [], out := [], msixPend := 0, mem := {} })
    {s0 s : State} {a0} (h : Kept m s0 s) :
    KeptR m s0 (execZero a0 s) := by
  unfold execZero
  refine ite_kept (P := fun x => KeptR m s0 x) ?_ ?_
  · refine KeptR.next ?_
    refine sticky_kept (sub hm) ?_
    exact h
  · split
    · rename_i v1 v2 v3 v4
      extract_lets +onlyGivenNames x5
      clear_value x5
      refine KeptR.next ?_
      refine zeroLines_kept (sub hm) ?_
      refine setMem_kept (sub hm) ?_
      refine fset_kept (sub hm) ?_
      refine fset_kept (sub hm) ?_
      refine fset_kept (sub hm) ?_
      refine maintBusy_kept (sub hm) ?_
      exact h

theorem lchWrite_kept {α : Type} {m : State → α} (hm : ∀ u, m u = m { u with regs := [], evq := [], out := [], msixPend := 0, mem := {} })
    {s0 s : State} {a0 a1} (h : Kept m s0 s) :
    Kept m s0 (lchWrite a0 a1 s) := by
  unfold lchWrite
  extract_lets +onlyGivenNames x1
  have h2 : Kept m s0 x1 := by
    unfold x1
    refine regWrite_kept (sub hm) ?_
    exact h
  clear_value x1
  refine ite_kept (P := fun x => Kept m s0 x) ?_ ?_
  · split
    · rename_i v3 v4
      refine maintRun_kept (sub hm) ?_
      exact h2
    · rename_i v5 v6
      refine maintRun_kept (sub hm) ?_
      exact h2
    · rename_i v7 v8
      refine maintRun_kept (sub hm) ?_
      exact h2
    · rename_i v9 v10
      refine after_kept ?_ ?_
      · refine execZero_kept (sub hm) ?_
        exact h2
      · exact h2
    · rename_i v11 v12 v13 v14 v15
      exact h2
  · exact h2

theorem showBufs_kept {α : Type} {m : State → α} (hm : ∀ u, m u = m { u with regs := [] })
    {s0 s : State} (h : Kept m s0 s) :
    Kept m s0 (showBufs s) := by
  unfold showBufs
  extract_lets +onlyGivenNames x1
  clear_value x1
  refine fmin_kept (sub hm) ?_
  refine fset_kept (sub hm) ?_
  exact h

end Sys2Proof.Machine
end

