-- ==== Sys2Proof/Laws/KeptD.lean ====
section
/-!
SUPPORT. What the operations change and what they keep, part D.
-/
set_option Elab.async false

namespace Sys2Proof.Machine

theorem reserveBuf_kept {α : Type} {m : State → α} (hm : ∀ u, m u = m { u with regs := [], mem := {} })
    {s0 s : State} {a0 a1 a2} (h : Kept m s0 s) :
    Kept m s0 (reserveBuf a0 a1 a2 s) := by
  unfold reserveBuf
  extract_lets +onlyGivenNames x1
  clear_value x1
  extract_lets +onlyGivenNames x2
  clear_value x2
  refine showBufs_kept (sub hm) ?_
  refine setMem_kept (sub hm) ?_
  exact h

theorem grantBufs_kept {α : Type} {m : State → α} (hm : ∀ u, m u = m { u with regs := [], mem := {} })
    {s0 s : State} {a0} (h : Kept m s0 s) :
    Kept m s0 (grantBufs a0 s) := by
  induction a0 generalizing s with
  | zero => exact h
  | succ n ih =>
    unfold grantBufs
    split
    · exact h
    · exact ih (reserveBuf_kept (sub hm) (setMem_kept (sub hm) h))

theorem execSbfTestEn_kept {α : Type} {m : State → α} (hm : ∀ u, m u = m { u with regs := [], mem := {} })
    {s0 s : State} {a0} (h : Kept m s0 s) :
    KeptR m s0 (execSbfTestEn a0 s) := by
  unfold execSbfTestEn
  extract_lets +onlyGivenNames x1
  clear_value x1
  refine ite_kept (P := fun x => KeptR m s0 x) ?_ ?_
  · refine KeptR.next ?_
    refine sticky_kept (sub hm) ?_
    exact h
  · extract_lets +onlyGivenNames x2
    have h3 : Kept m s0 x2 := by
      unfold x2
      refine fsetB_kept (sub hm) ?_
      refine fsetB_kept (sub hm) ?_
      exact h
    clear_value x2
    refine KeptR.next ?_
    refine ite_kept (P := fun x => Kept m s0 x) ?_ ?_
    · exact h3
    · refine grantBufs_kept (sub hm) ?_
      exact h3

theorem testOp_kept {α : Type} {m : State → α} (hm : ∀ u, m u = m { u with regs := [], out := [], msixPend := 0 })
    {s0 s : State} {a0 a1} (hf0 : ∀ y0 y1, Kept m s0 y1 → Kept m s0 (a1 y0 y1)) (h : Kept m s0 s) :
    Kept m s0 (testOp a0 a1 s) := by
  unfold testOp
  refine ite_kept (P := fun x => Kept m s0 x) ?_ ?_
  · refine raise_kept (sub hm) ?_
    refine foldl_kept (P := fun x => Kept m s0 x) ?_ ?_
    · intro y1 y2 y3
      refine hf0 _ _ ?_
      exact y3
    · refine fset_kept (sub hm) ?_
      exact h
  · exact h

theorem sbPut_kept {α : Type} {m : State → α} (hm : ∀ u, m u = m { u with mem := {} })
    {s0 s : State} {a0 a1 a2} (h : Kept m s0 s) :
    Kept m s0 (sbPut a0 a1 a2 s) := by
  unfold sbPut
  refine setMem_kept (sub hm) ?_
  exact h

theorem execTestWriteData_kept {α : Type} {m : State → α} (hm : ∀ u, m u = m { u with regs := [], out := [], msixPend := 0, mem := {} })
    {s0 s : State} (h : Kept m s0 s) :
    KeptR m s0 (execTestWriteData s) := by
  unfold execTestWriteData
  refine KeptR.next ?_
  refine testOp_kept (sub hm) ?_ ?_
  · intro y1 y2 y3
    refine sbPut_kept (sub hm) ?_
    exact y3
  · exact h

theorem execTestWriteCheck_kept {α : Type} {m : State → α} (hm : ∀ u, m u = m { u with regs := [], out := [], msixPend := 0, mem := {} })
    {s0 s : State} (h : Kept m s0 s) :
    KeptR m s0 (execTestWriteCheck s) := by
  unfold execTestWriteCheck
  refine KeptR.next ?_
  refine testOp_kept (sub hm) ?_ ?_
  · intro y1 y2 y3
    refine sbPut_kept (sub hm) ?_
    exact y3
  · exact h

theorem execTestWriteBoth_kept {α : Type} {m : State → α} (hm : ∀ u, m u = m { u with regs := [], out := [], msixPend := 0, mem := {} })
    {s0 s : State} (h : Kept m s0 s) :
    KeptR m s0 (execTestWriteBoth s) := by
  unfold execTestWriteBoth
  refine KeptR.next ?_
  refine testOp_kept (sub hm) ?_ ?_
  · intro y1 y2 y3
    refine sbPut_kept (sub hm) ?_
    exact y3
  · exact h

theorem execTestRawRead_kept {α : Type} {m : State → α} (hm : ∀ u, m u = m { u with regs := [], out := [], msixPend := 0 })
    {s0 s : State} (h : Kept m s0 s) :
    KeptR m s0 (execTestRawRead s) := by
  unfold execTestRawRead
  refine KeptR.next ?_
  refine testOp_kept (sub hm) ?_ ?_
  · intro y1 y2 y3
    split
    · rename_i v4 v5 v6 v7
      extract_lets +onlyGivenNames x8
      clear_value x8
      extract_lets +onlyGivenNames x9
      clear_value x9
      refine fset_kept (sub hm) ?_
      refine fset_kept (sub hm) ?_
      exact y3
  · exact h

theorem sbfWrite_kept {α : Type} {m : State → α} (hm : ∀ u, m u = m { u with regs := [], out := [], msixPend := 0, mem := {} })
    {s0 s : State} {a0 a1} (h : Kept m s0 s) :
    Kept m s0 (sbfWrite a0 a1 s) := by
  unfold sbfWrite
  extract_lets +onlyGivenNames x1
  clear_value x1
  refine ite_kept (P := fun x => Kept m s0 x) ?_ ?_
  · extract_lets +onlyGivenNames x2
    clear_value x2
    extract_lets +onlyGivenNames x3
    have h4 : Kept m s0 x3 := by
      unfold x3
      refine regWrite_kept (sub hm) ?_
      exact h
    clear_value x3
    refine ite_kept (P := fun x => Kept m s0 x) ?_ ?_
    · exact h4
    · refine after_kept ?_ ?_
      · refine execSbfTestEn_kept (sub hm) ?_
        exact h4
      · exact h4
  · extract_lets +onlyGivenNames x5
    have h6 : Kept m s0 x5 := by
      unfold x5
      refine regWrite_kept (sub hm) ?_
      exact h
    clear_value x5
    refine ite_kept (P := fun x => Kept m s0 x) ?_ ?_
    · split
      · rename_i v7 v8
        refine after_kept ?_ ?_
        · refine execTestWriteData_kept (sub hm) ?_
          exact h6
        · exact h6
      · rename_i v9 v10
        refine after_kept ?_ ?_
        · refine execTestWriteCheck_kept (sub hm) ?_
          exact h6
        · exact h6
      · rename_i v11 v12
        refine after_kept ?_ ?_
        · refine execTestWriteBoth_kept (sub hm) ?_
          exact h6
        · exact h6
      · rename_i v13 v14
        refine after_kept ?_ ?_
        · refine execTestRawRead_kept (sub hm) ?_
          exact h6
        · exact h6
      · rename_i v15 v16 v17 v18 v19
        exact h6
    · exact h6

theorem releaseClaim_kept {α : Type} {m : State → α} (hm : ∀ u, m u = m { u with claims := [] })
    {s0 s : State} {a0} (h : Kept m s0 s) :
    Kept m s0 (releaseClaim a0 s) := by
  unfold releaseClaim
  refine setClaim_kept (sub hm) ?_
  exact h

theorem dropClaim_kept {α : Type} {m : State → α} (hm : ∀ u, m u = m { u with claims := [] })
    {s0 s : State} {a0 a1} (h : Kept m s0 s) :
    Kept m s0 (dropClaim a0 a1 s) := by
  unfold dropClaim
  refine ite_kept (P := fun x => Kept m s0 x) ?_ ?_
  · refine releaseClaim_kept (sub hm) ?_
    exact h
  · exact h

theorem vaultGo_kept {α : Type} {m : State → α} (hm : ∀ u, m u = m { u with regs := [], vault := {} })
    {s0 s : State} {a0} (h : Kept m s0 s) :
    Kept m s0 (vaultGo a0 s) := by
  unfold vaultGo
  refine ite_kept (P := fun x => Kept m s0 x) ?_ ?_
  · refine sticky_kept (sub hm) ?_
    exact h
  · refine ite_kept (P := fun x => Kept m s0 x) ?_ ?_
    · exact h
    · refine setVault_kept (sub hm) ?_
      refine fset_kept (sub hm) ?_
      exact h

theorem vlqWrite_kept {α : Type} {m : State → α} (hm : ∀ u, m u = m { u with regs := [], out := [], msixPend := 0, claims := [], vault := {} })
    {s0 s : State} {a0 a1 a2} (h : Kept m s0 s) :
    Kept m s0 (vlqWrite a0 a1 a2 s) := by
  unfold vlqWrite
  extract_lets +onlyGivenNames x1
  clear_value x1
  refine ite_kept (P := fun x => Kept m s0 x) ?_ ?_
  · refine ite_kept (P := fun x => Kept m s0 x) ?_ ?_
    · refine dropClaim_kept (sub hm) ?_
      exact h
    · exact h
  · refine ite_kept (P := fun x => Kept m s0 x) ?_ ?_
    · refine ite_kept (P := fun x => Kept m s0 x) ?_ ?_
      · refine vaultGo_kept (sub hm) ?_
        exact h
      · exact h
    · refine ite_kept (P := fun x => Kept m s0 x) ?_ ?_
      · refine ite_kept (P := fun x => Kept m s0 x) ?_ ?_
        · refine sticky_kept (sub hm) ?_
          exact h
        · refine ite_kept (P := fun x => Kept m s0 x) ?_ ?_
          · refine regWrite_kept (sub hm) ?_
            exact h
          · exact h
      · refine ite_kept (P := fun x => Kept m s0 x) ?_ ?_
        · refine ite_kept (P := fun x => Kept m s0 x) ?_ ?_
          · refine sticky_kept (sub hm) ?_
            exact h
          · refine ite_kept (P := fun x => Kept m s0 x) ?_ ?_
            · exact h
            · extract_lets +onlyGivenNames x2
              clear_value x2
              refine bumpIdx_kept (sub hm) ?_
              refine ite_kept (P := fun x => Kept m s0 x) ?_ ?_
              · refine sticky_kept (sub hm) ?_
                exact h
              · refine setVault_kept (sub hm) ?_
                exact h
        · refine regWrite_kept (sub hm) ?_
          exact h

theorem submit_kept {α : Type} {m : State → α} (hm : ∀ u, m u = m { u with regs := [], out := [], msixPend := 0, claims := [], cl := {} })
    {s0 s : State} {a0 a1 a2 a3} (hf0 : ∀ y0 y1 y2, Kept m s0 y2 → Kept m s0 (a3 y0 y1 y2)) (h : Kept m s0 s) :
    Kept m s0 (submit a0 a1 a2 a3 s) := by
  unfold submit
  extract_lets +onlyGivenNames x1
  clear_value x1
  extract_lets +onlyGivenNames x2
  clear_value x2
  refine ite_kept (P := fun x => Kept m s0 x) ?_ ?_
  · refine sticky_kept (sub hm) ?_
    exact h
  · refine ite_kept (P := fun x => Kept m s0 x) ?_ ?_
    · exact h
    · extract_lets +onlyGivenNames x3
      have h4 : Kept m s0 x3 := by
        unfold x3
        refine fset_kept (sub hm) ?_
        exact h
      clear_value x3
      extract_lets +onlyGivenNames x5
      clear_value x5
      extract_lets +onlyGivenNames x6
      clear_value x6
      refine ite_kept (P := fun x => Kept m s0 x) ?_ ?_
      · refine raise_kept (sub hm) ?_
        refine cnt_kept (sub hm) ?_
        refine showResult_kept (sub hm) ?_
        exact h4
      · extract_lets +onlyGivenNames x7
        have h8 : Kept m s0 x7 := by
          unfold x7
          refine accept_kept (sub hm) ?_
          exact h4
        clear_value x7
        split
        · rename_i v9 v10 v11
          refine hf0 _ _ _ ?_
          exact h8
        · rename_i v12 v13
          exact h8

theorem violation_kept {α : Type} {m : State → α} (hm : ∀ u, m u = m { u with regs := [], evq := [], out := [], msixPend := 0, cl := {} })
    {s0 s : State} {a0 a1} (h : Kept m s0 s) :
    Kept m s0 (violation a0 a1 s) := by
  unfold violation
  refine endNow_kept (sub hm) ?_
  refine emit_kept (sub hm) ?_
  refine cnt_kept (sub hm) ?_
  refine raise_kept (sub hm) ?_
  exact h

theorem setStrm_kept {α : Type} {m : State → α} (hm : ∀ u, m u = m { u with cl := {} })
    {s0 s : State} {a0 a1} (h : Kept m s0 s) :
    Kept m s0 (setStrm a0 a1 s) := by
  unfold setStrm
  refine setCl_kept (sub hm) ?_
  exact h

theorem showStreams_kept {α : Type} {m : State → α} (hm : ∀ u, m u = m { u with regs := [] })
    {s0 s : State} (h : Kept m s0 s) :
    Kept m s0 (showStreams s) := by
  unfold showStreams
  refine fset_kept (sub hm) ?_
  refine fset_kept (sub hm) ?_
  exact h

theorem needContext_kept {α : Type} {m : State → α} (hm : ∀ u, m u = m { u with regs := [], out := [], msixPend := 0, cl := {} })
    {s0 s : State} {a0 a1 a2} (h : Kept m s0 s) :
    Kept m s0 (needContext a0 a1 a2 s) := by
  unfold needContext
  split
  · rename_i v1 v2
    exact h
  · rename_i v3 v4 v5
    refine ite_kept (P := fun x => Kept m s0 x) ?_ ?_
    · refine setStrm_kept (sub hm) ?_
      exact h
    · split
      · rename_i v6 v7 v8
        refine showStreams_kept (sub hm) ?_
        refine setStrm_kept (sub hm) ?_
        exact h
      · rename_i v9 v10
        extract_lets +onlyGivenNames x11
        clear_value x11
        extract_lets +onlyGivenNames x12
        clear_value x12
        extract_lets +onlyGivenNames x13
        have h14 : Kept m s0 x13 := by
          unfold x13
          refine setCl_kept (sub hm) ?_
          exact h
        clear_value x13
        refine ite_kept (P := fun x => Kept m s0 x) ?_ ?_
        · refine raise_kept (sub hm) ?_
          refine cnt_kept (sub hm) ?_
          exact h14
        · exact h14

theorem setFrontier_kept {α : Type} {m : State → α} (hm : ∀ u, m u = m { u with regs := [] })
    {s0 s : State} {a0} (h : Kept m s0 s) :
    Kept m s0 (setFrontier a0 s) := by
  unfold setFrontier
  refine fset_kept (sub hm) ?_
  exact h

theorem openStream_kept {α : Type} {m : State → α} (hm : ∀ u, m u = m { u with regs := [], evq := [], out := [], msixPend := 0, cl := {} })
    {s0 s : State} {a0 a1} (h : Kept m s0 s) :
    Kept m s0 (openStream a0 a1 s) := by
  unfold openStream
  extract_lets +onlyGivenNames x1
  clear_value x1
  refine ite_kept (P := fun x => Kept m s0 x) ?_ ?_
  · refine violation_kept (sub hm) ?_
    exact h
  · extract_lets +onlyGivenNames x2
    clear_value x2
    refine needContext_kept (sub hm) ?_
    refine showStreams_kept (sub hm) ?_
    refine modCmd_kept (sub hm) ?_
    refine setStrm_kept (sub hm) ?_
    refine setFrontier_kept (sub hm) ?_
    exact h

theorem placeAt_kept {α : Type} {m : State → α} (hm : ∀ u, m u = m { u with cl := {} })
    {s0 s : State} {a0 a1 a2} (h : Kept m s0 s) :
    Kept m s0 (placeAt a0 a1 a2 s) := by
  unfold placeAt
  refine modCmd_kept (sub hm) ?_
  exact h

theorem placeLegacy_kept {α : Type} {m : State → α} (hm : ∀ u, m u = m { u with regs := [], evq := [], out := [], msixPend := 0, disc := {}, cl := {} })
    {s0 s : State} {a0 a1} (h : Kept m s0 s) :
    Kept m s0 (placeLegacy a0 a1 s) := by
  unfold placeLegacy
  extract_lets +onlyGivenNames x1
  clear_value x1
  refine ite_kept (P := fun x => Kept m s0 x) ?_ ?_
  · refine violation_kept (sub hm) ?_
    exact h
  · refine ite_kept (P := fun x => Kept m s0 x) ?_ ?_
    · refine placeAt_kept (sub hm) ?_
      refine setDisc_kept (sub hm) ?_
      exact h
    · split
      · rename_i v2 v3
        refine placeAt_kept (sub hm) ?_
        exact h
      · rename_i v4 v5 v6
        refine ite_kept (P := fun x => Kept m s0 x) ?_ ?_
        · refine placeAt_kept (sub hm) ?_
          refine setDisc_kept (sub hm) ?_
          exact h
        · refine violation_kept (sub hm) ?_
          exact h

theorem placeStream_kept {α : Type} {m : State → α} (hm : ∀ u, m u = m { u with regs := [], evq := [], out := [], msixPend := 0, cl := {} })
    {s0 s : State} {a0 a1 a2} (h : Kept m s0 s) :
    Kept m s0 (placeStream a0 a1 a2 s) := by
  unfold placeStream
  extract_lets +onlyGivenNames x1
  have h2 : Kept m s0 x1 := by
    unfold x1
    refine needContext_kept (sub hm) ?_
    exact h
  clear_value x1
  extract_lets +onlyGivenNames x3
  clear_value x3
  refine ite_kept (P := fun x => Kept m s0 x) ?_ ?_
  · refine ite_kept (P := fun x => Kept m s0 x) ?_ ?_
    · refine modCmd_kept (sub hm) ?_
      exact h2
    · refine violation_kept (sub hm) ?_
      exact h2
  · refine ite_kept (P := fun x => Kept m s0 x) ?_ ?_
    · refine modCmd_kept (sub hm) ?_
      refine placeAt_kept (sub hm) ?_
      refine setStrm_kept (sub hm) ?_
      exact h2
    · refine violation_kept (sub hm) ?_
      exact h2

theorem placeWrite_kept {α : Type} {m : State → α} (hm : ∀ u, m u = m { u with regs := [], evq := [], out := [], msixPend := 0, disc := {}, cl := {} })
    {s0 s : State} {a0 a1} (h : Kept m s0 s) :
    Kept m s0 (placeWrite a0 a1 s) := by
  unfold placeWrite
  refine ite_kept (P := fun x => Kept m s0 x) ?_ ?_
  · refine placeLegacy_kept (sub hm) ?_
    exact h
  · extract_lets +onlyGivenNames x1
    clear_value x1
    extract_lets +onlyGivenNames x2
    clear_value x2
    extract_lets +onlyGivenNames x3
    clear_value x3
    refine ite_kept (P := fun x => Kept m s0 x) ?_ ?_
    · refine endNow_kept (sub hm) ?_
      exact h
    · refine ite_kept (P := fun x => Kept m s0 x) ?_ ?_
      · refine violation_kept (sub hm) ?_
        exact h
      · split
        · rename_i v4 v5
          refine placeStream_kept (sub hm) ?_
          exact h
        · rename_i v6
          refine ite_kept (P := fun x => Kept m s0 x) ?_ ?_
          · refine violation_kept (sub hm) ?_
            exact h
          · refine ite_kept (P := fun x => Kept m s0 x) ?_ ?_
            · refine violation_kept (sub hm) ?_
              exact h
            · refine placeAt_kept (sub hm) ?_
              refine setFrontier_kept (sub hm) ?_
              exact h

theorem withDisc_kept {α : Type} {m : State → α} (hm : ∀ u, m u = m { u with regs := [], evq := [], out := [], msixPend := 0, disc := {}, cl := {} })
    {s0 s : State} {a0} (h : Kept m s0 s) :
    Kept m s0 (withDisc a0 s) := by
  unfold withDisc
  split
  · rename_i v1 v2
    exact h
  · rename_i v3 v4 v5
    refine ite_kept (P := fun x => Kept m s0 x) ?_ ?_
    · refine acceptSeal_kept (sub hm) ?_
      exact h
    · refine ite_kept (P := fun x => Kept m s0 x) ?_ ?_
      · refine endNow_kept (sub hm) ?_
        refine modCmd_kept (sub hm) ?_
        exact h
      · refine ite_kept (P := fun x => Kept m s0 x) ?_ ?_
        · refine openStream_kept (sub hm) ?_
          exact h
        · refine ite_kept (P := fun x => Kept m s0 x) ?_ ?_
          · refine placeWrite_kept (sub hm) ?_
            exact h
          · refine ite_kept (P := fun x => Kept m s0 x) ?_ ?_
            · refine needContext_kept (sub hm) ?_
              refine placeAt_kept (sub hm) ?_
              exact h
            · refine placeAt_kept (sub hm) ?_
              exact h

theorem needDisc_kept {α : Type} {m : State → α} (hm : ∀ u, m u = m { u with regs := [], evq := [], out := [], msixPend := 0, disc := {}, cl := {} })
    {s0 s : State} {a0 a1} (h : Kept m s0 s) :
    Kept m s0 (needDisc a0 a1 s) := by
  unfold needDisc
  refine ite_kept (P := fun x => Kept m s0 x) ?_ ?_
  · refine endNow_kept (sub hm) ?_
    exact h
  · refine ite_kept (P := fun x => Kept m s0 x) ?_ ?_
    · refine withDisc_kept (sub hm) ?_
      exact h
    · refine ite_kept (P := fun x => Kept m s0 x) ?_ ?_
      · refine modCmd_kept (sub hm) ?_
        exact h
      · refine endNow_kept (sub hm) ?_
        exact h

theorem execRead_kept {α : Type} {m : State → α} (hm : ∀ u, m u = m { u with regs := [], evq := [], out := [], msixPend := 0, disc := {}, claims := [], cl := {} })
    {s0 s : State} {a0} (h : Kept m s0 s) :
    KeptR m s0 (execRead a0 s) := by
  unfold execRead
  refine KeptR.next ?_
  refine submit_kept (sub hm) ?_ ?_
  · intro y1 y2 y3 y4
    refine needDisc_kept (sub hm) ?_
    exact y4
  · exact h

theorem execWrite_kept {α : Type} {m : State → α} (hm : ∀ u, m u = m { u with regs := [], evq := [], out := [], msixPend := 0, disc := {}, claims := [], cl := {} })
    {s0 s : State} {a0} (h : Kept m s0 s) :
    KeptR m s0 (execWrite a0 s) := by
  unfold execWrite
  refine KeptR.next ?_
  refine submit_kept (sub hm) ?_ ?_
  · intro y1 y2 y3 y4
    refine needDisc_kept (sub hm) ?_
    exact y4
  · exact h

theorem execVerify_kept {α : Type} {m : State → α} (hm : ∀ u, m u = m { u with regs := [], evq := [], out := [], msixPend := 0, disc := {}, claims := [], cl := {} })
    {s0 s : State} {a0} (h : Kept m s0 s) :
    KeptR m s0 (execVerify a0 s) := by
  unfold execVerify
  refine KeptR.next ?_
  refine submit_kept (sub hm) ?_ ?_
  · intro y1 y2 y3 y4
    refine needDisc_kept (sub hm) ?_
    exact y4
  · exact h

theorem execSeal_kept {α : Type} {m : State → α} (hm : ∀ u, m u = m { u with regs := [], evq := [], out := [], msixPend := 0, disc := {}, claims := [], cl := {} })
    {s0 s : State} {a0} (h : Kept m s0 s) :
    KeptR m s0 (execSeal a0 s) := by
  unfold execSeal
  refine KeptR.next ?_
  refine submit_kept (sub hm) ?_ ?_
  · intro y1 y2 y3 y4
    refine needDisc_kept (sub hm) ?_
    exact y4
  · exact h

theorem execStreamOpen_kept {α : Type} {m : State → α} (hm : ∀ u, m u = m { u with regs := [], evq := [], out := [], msixPend := 0, disc := {}, claims := [], cl := {} })
    {s0 s : State} {a0} (h : Kept m s0 s) :
    KeptR m s0 (execStreamOpen a0 s) := by
  unfold execStreamOpen
  refine KeptR.next ?_
  refine submit_kept (sub hm) ?_ ?_
  · intro y1 y2 y3 y4
    refine needDisc_kept (sub hm) ?_
    exact y4
  · exact h

theorem execStreamClose_kept {α : Type} {m : State → α} (hm : ∀ u, m u = m { u with regs := [], out := [], msixPend := 0, claims := [], cl := {} })
    {s0 s : State} {a0} (h : Kept m s0 s) :
    KeptR m s0 (execStreamClose a0 s) := by
  unfold execStreamClose
  refine KeptR.next ?_
  refine submit_kept (sub hm) ?_ ?_
  · intro y1 y2 y3 y4
    refine ite_kept (P := fun x => Kept m s0 x) ?_ ?_
    · refine endNow_kept (sub hm) ?_
      exact y4
    · refine needContext_kept (sub hm) ?_
      exact y4
  · exact h

theorem startOffload_kept {α : Type} {m : State → α} (hm : ∀ u, m u = m { u with regs := [], mem := {}, lanesC := [], cl := {} })
    {s0 s : State} {a0 a1 a2 a3} (h : Kept m s0 s) :
    Kept m s0 (startOffload a0 a1 a2 a3 s) := by
  unfold startOffload
  extract_lets +onlyGivenNames x1
  clear_value x1
  split
  · rename_i v2 v3
    refine setCmd_kept (sub hm) ?_
    exact h
  · rename_i v5 v6 v7
    have h8 : Kept m s0 v6 := by
      refine (?_ : KeptO m s0 _) _ v7
      refine bufWrite_kept (sub hm) ?_
      exact h
    extract_lets +onlyGivenNames x9
    clear_value x9
    refine startJob_kept (sub hm) ?_
    refine fset_kept (sub hm) ?_
    refine fset_kept (sub hm) ?_
    refine fset_kept (sub hm) ?_
    refine fset_kept (sub hm) ?_
    refine fset_kept (sub hm) ?_
    refine fset_kept (sub hm) ?_
    refine fset_kept (sub hm) ?_
    refine fset_kept (sub hm) ?_
    refine fset_kept (sub hm) ?_
    refine fset_kept (sub hm) ?_
    refine fset_kept (sub hm) ?_
    refine fset_kept (sub hm) ?_
    refine fset_kept (sub hm) ?_
    refine setCmd_kept (sub hm) ?_
    exact h8

theorem startOffloads_kept {α : Type} {m : State → α} (hm : ∀ u, m u = m { u with regs := [], mem := {}, lanesC := [], cl := {} })
    {s0 s : State} (h : Kept m s0 s) :
    Kept m s0 (startOffloads s) := by
  unfold startOffloads
  refine foldl_kept (P := fun x => Kept m s0 x) ?_ ?_
  · intro y1 y2 y3
    split
    · rename_i v4 v5 v6
      split
      · rename_i v7 v8 v9 v10 v11 v12
        refine ite_kept (P := fun x => Kept m s0 x) ?_ ?_
        · refine startOffload_kept (sub hm) ?_
          exact y3
        · exact y3
      · rename_i v13 v14 v15
        exact y3
    · rename_i v16 v17
      exact y3
  · exact h

theorem execOffload_kept {α : Type} {m : State → α} (hm : ∀ u, m u = m { u with regs := [], out := [], msixPend := 0, mem := {}, lanesC := [], claims := [], cl := {} })
    {s0 s : State} {a0 a1 a2 a3} (h : Kept m s0 s) :
    KeptR m s0 (execOffload a0 a1 a2 a3 s) := by
  unfold execOffload
  refine KeptR.next ?_
  refine submit_kept (sub hm) ?_ ?_
  · intro y1 y2 y3 y4
    refine ite_kept (P := fun x => Kept m s0 x) ?_ ?_
    · refine endNow_kept (sub hm) ?_
      exact y4
    · refine startOffloads_kept (sub hm) ?_
      exact y4
  · exact h

theorem startTest_kept {α : Type} {m : State → α} (hm : ∀ u, m u = m { u with evq := [], cl := {} })
    {s0 s : State} {a0 a1 a2 a3} (h : Kept m s0 s) :
    Kept m s0 (startTest a0 a1 a2 a3 s) := by
  unfold startTest
  refine ite_kept (P := fun x => Kept m s0 x) ?_ ?_
  · refine endNow_kept (sub hm) ?_
    exact h
  · refine ite_kept (P := fun x => Kept m s0 x) ?_ ?_
    · refine endNow_kept (sub hm) ?_
      exact h
    · refine emit_kept (sub hm) ?_
      refine setCl_kept (sub hm) ?_
      exact h

theorem execSelfTestShort_kept {α : Type} {m : State → α} (hm : ∀ u, m u = m { u with regs := [], evq := [], out := [], msixPend := 0, claims := [], cl := {} })
    {s0 s : State} {a0 a1} (h : Kept m s0 s) :
    KeptR m s0 (execSelfTestShort a0 a1 s) := by
  unfold execSelfTestShort
  refine KeptR.next ?_
  refine submit_kept (sub hm) ?_ ?_
  · intro y1 y2 y3 y4
    refine startTest_kept (sub hm) ?_
    exact y4
  · exact h

theorem execSelfTestExtended_kept {α : Type} {m : State → α} (hm : ∀ u, m u = m { u with regs := [], evq := [], out := [], msixPend := 0, claims := [], cl := {} })
    {s0 s : State} {a0 a1} (h : Kept m s0 s) :
    KeptR m s0 (execSelfTestExtended a0 a1 s) := by
  unfold execSelfTestExtended
  refine KeptR.next ?_
  refine submit_kept (sub hm) ?_ ?_
  · intro y1 y2 y3 y4
    refine startTest_kept (sub hm) ?_
    exact y4
  · exact h

theorem execSelfTestStop_kept {α : Type} {m : State → α} (hm : ∀ u, m u = m { u with regs := [], evq := [], out := [], msixPend := 0, disc := {}, dec := {}, encoded := [], mem := {}, lanesC := [], claims := [], cl := {} })
    {s0 s : State} {a0} (h : Kept m s0 s) :
    KeptR m s0 (execSelfTestStop a0 s) := by
  unfold execSelfTestStop
  refine KeptR.next ?_
  refine submit_kept (sub hm) ?_ ?_
  · intro y1 y2 y3 y4
    split
    · rename_i v5 v6 v7
      refine endNow_kept (sub hm) ?_
      refine stopCmd_kept (sub hm) ?_
      exact y4
    · rename_i v8 v9
      refine endNow_kept (sub hm) ?_
      exact y4
  · exact h

theorem execAbort_kept {α : Type} {m : State → α} (hm : ∀ u, m u = m { u with regs := [], evq := [], out := [], msixPend := 0, disc := {}, dec := {}, encoded := [], mem := {}, lanesC := [], claims := [], cl := {} })
    {s0 s : State} {a0} (h : Kept m s0 s) :
    KeptR m s0 (execAbort a0 s) := by
  unfold execAbort
  refine KeptR.next ?_
  refine submit_kept (sub hm) ?_ ?_
  · intro y1 y2 y3 y4
    extract_lets +onlyGivenNames x5
    clear_value x5
    split
    · rename_i v6 v7 v8
      refine ite_kept (P := fun x => Kept m s0 x) ?_ ?_
      · refine modCmd_kept (sub hm) ?_
        refine emit_kept (sub hm) ?_
        refine stopCmd_kept (sub hm) ?_
        exact y4
      · refine endNow_kept (sub hm) ?_
        exact y4
    · rename_i v9 v10
      refine endNow_kept (sub hm) ?_
      exact y4
  · exact h

theorem execMount_kept {α : Type} {m : State → α} (hm : ∀ u, m u = m { u with regs := [], evq := [], out := [], msixPend := 0, engs := [], loops := [], spin := {}, claims := [], cl := {}, port := {}, dev := {} })
    {s0 s : State} {a0} (h : Kept m s0 s) :
    KeptR m s0 (execMount a0 s) := by
  unfold execMount
  refine KeptR.next ?_
  refine submit_kept (sub hm) ?_ ?_
  · intro y1 y2 y3 y4
    refine ite_kept (P := fun x => Kept m s0 x) ?_ ?_
    · refine endNow_kept (sub hm) ?_
      exact y4
    · refine ite_kept (P := fun x => Kept m s0 x) ?_ ?_
      · refine endNow_kept (sub hm) ?_
        exact y4
      · refine startMount_kept (sub hm) ?_
        exact y4
  · exact h

theorem endDiscCmds_kept {α : Type} {m : State → α} (hm : ∀ u, m u = m { u with cl := {} })
    {s0 s : State} {a0} (h : Kept m s0 s) :
    Kept m s0 (endDiscCmds a0 s) := by
  unfold endDiscCmds
  refine foldl_kept (P := fun x => Kept m s0 x) ?_ ?_
  · intro y1 y2 y3
    split
    · rename_i v4 v5 v6
      refine ite_kept (P := fun x => Kept m s0 x) ?_ ?_
      · extract_lets +onlyGivenNames x7
        clear_value x7
        extract_lets +onlyGivenNames x8
        have h9 : Kept m s0 x8 := by
          unfold x8
          refine setCl_kept (sub hm) ?_
          exact y3
        clear_value x8
        refine modCmd_kept (sub hm) ?_
        exact h9
      · exact y3
    · rename_i v10 v11
      exact y3
  · exact h

theorem recordParts_kept {α : Type} {m : State → α} (hm : ∀ u, m u = m { u with regs := [], out := [], disc := {} })
    {s0 s : State} {a0 a1 a2 a3 a4 a5 a6} (h : Kept m s0 s) :
    KeptO m s0 (recordParts a0 a1 a2 a3 a4 a5 a6 s) := by
  induction a5 generalizing a6 s with
  | zero => exact .some h
  | succ n ih => exact KeptO.bind (recordPart_kept (sub hm) h) fun t ht => ih ht

theorem recordDefects_kept {α : Type} {m : State → α} (hm : ∀ u, m u = m { u with regs := [], evq := [], out := [], disc := {} })
    {s0 s : State} {a0 a1 a2} (h : Kept m s0 s) :
    KeptO m s0 (recordDefects a0 a1 a2 s) := by
  unfold recordDefects
  extract_lets +onlyGivenNames x1
  clear_value x1
  extract_lets +onlyGivenNames x2
  clear_value x2
  extract_lets +onlyGivenNames x3
  clear_value x3
  extract_lets +onlyGivenNames x4
  clear_value x4
  extract_lets +onlyGivenNames x5
  clear_value x5
  refine KeptO.map ?_ ?_
  · refine recordParts_kept (sub hm) ?_
    exact h
  · intro y6 y7
    refine emit_kept (sub hm) ?_
    refine fset_kept (sub hm) ?_
    refine setDisc_kept (sub hm) ?_
    exact y7

theorem unmountEntries_kept {α : Type} {m : State → α} (hm : ∀ u, m u = m { u with regs := [], evq := [], out := [], disc := {} })
    {s0 s : State} (h : Kept m s0 s) :
    Kept m s0 (unmountEntries s).2 := by
  unfold unmountEntries
  refine ite_kept (P := fun (x : _ × _) => Kept m s0 x.2) ?_ ?_
  · refine snd_kept (P := fun x => Kept m s0 x) ?_
    exact h
  · extract_lets +onlyGivenNames x1
    have h2 : Kept m s0 x1 := by
      unfold x1
      refine foldl_kept (P := fun x => Kept m s0 x) ?_ ?_
      · intro y3 y4 y5
        refine foldl_kept (P := fun x => Kept m s0 x) ?_ ?_
        · intro y6 y7 y8
          refine ite_kept (P := fun x => Kept m s0 x) ?_ ?_
          · refine KeptO.getD ?_ ?_
            · refine recordDefects_kept (sub hm) ?_
              exact y8
            · exact y8
          · exact y8
        · exact y5
      · exact h
    clear_value x1
    extract_lets +onlyGivenNames x9
    clear_value x9
    extract_lets +onlyGivenNames x10
    clear_value x10
    refine foldl_kept (P := fun (x : _ × _) => Kept m s0 x.2) ?_ ?_
    · intro y11 y12 y13
      split
      · rename_i v14 v15 v16
        have h17 : Kept m s0 v15 := by
          refine (?_ : KeptO m s0 _) _ v16
          refine recordIntent_kept (sub hm) ?_
          exact y13
        refine snd_kept (P := fun x => Kept m s0 x) ?_
        exact h17
      · rename_i v18 v19
        exact y13
    · refine snd_kept (P := fun x => Kept m s0 x) ?_
      exact h2

theorem setSeal_kept {α : Type} {m : State → α} (hm : ∀ u, m u = m { u with regs := [], out := [], msixPend := 0 })
    {s0 s : State} {a0 a1} (h : Kept m s0 s) :
    Kept m s0 (setSeal a0 a1 s) := by
  unfold setSeal
  extract_lets +onlyGivenNames x1
  clear_value x1
  extract_lets +onlyGivenNames x2
  have h3 : Kept m s0 x2 := by
    unfold x2
    refine fset_kept (sub hm) ?_
    refine fset_kept (sub hm) ?_
    exact h
  clear_value x2
  refine ite_kept (P := fun x => Kept m s0 x) ?_ ?_
  · exact h3
  · refine raise_kept (sub hm) ?_
    exact h3

theorem showCopies_kept {α : Type} {m : State → α} (hm : ∀ u, m u = m { u with regs := [], out := [], msixPend := 0 })
    {s0 s : State} {a0} (h : Kept m s0 s) :
    Kept m s0 (showCopies a0 s) := by
  unfold showCopies
  extract_lets +onlyGivenNames x1
  clear_value x1
  extract_lets +onlyGivenNames x2
  clear_value x2
  refine ite_kept (P := fun x => Kept m s0 x) ?_ ?_
  · exact h
  · refine raise_kept (sub hm) ?_
    refine fset_kept (sub hm) ?_
    exact h

theorem dismount_kept {α : Type} {m : State → α} (hm : ∀ u, m u = m { u with regs := [], out := [], msixPend := 0, disc := {}, ends := [], blanks := [], encoded := [], cl := {}, vault := {} })
    {s0 s : State} (h : Kept m s0 s) :
    Kept m s0 (dismount s) := by
  unfold dismount
  extract_lets +onlyGivenNames x1
  clear_value x1
  extract_lets +onlyGivenNames x2
  clear_value x2
  extract_lets +onlyGivenNames x3
  have h4 : Kept m s0 x3 := by
    unfold x3
    refine setSeal_kept (sub hm) ?_
    refine setSeal_kept (sub hm) ?_
    exact h
  clear_value x3
  refine fset_kept (sub hm) ?_
  refine fset_kept (sub hm) ?_
  refine fset_kept (sub hm) ?_
  refine raise_kept (sub hm) ?_
  refine fset_kept (sub hm) ?_
  refine fclrs_kept (sub hm) ?_
  refine showCopies_kept (sub hm) ?_
  refine showCopies_kept (sub hm) ?_
  refine showStreams_kept (sub hm) ?_
  refine Kept.with hm ?_
  exact h4

theorem zeroiseKey_kept {α : Type} {m : State → α} (hm : ∀ u, m u = m { u with regs := [], evq := [], out := [], msixPend := 0, vault := {} })
    {s0 s : State} {a0} (h : Kept m s0 s) :
    Kept m s0 (zeroiseKey a0 s) := by
  unfold zeroiseKey
  refine ite_kept (P := fun x => Kept m s0 x) ?_ ?_
  · beta_reduce
    refine emit_kept (sub hm) ?_
    refine raise_kept (sub hm) ?_
    refine fset_kept (sub hm) ?_
    refine fset_kept (sub hm) ?_
    refine fset_kept (sub hm) ?_
    refine Kept.with hm ?_
    exact h
  · exact h

theorem unmountNow_kept {α : Type} {m : State → α} (hm : ∀ u, m u = m { u with regs := [], evq := [], out := [], msixPend := 0, disc := {}, ends := [], blanks := [], encoded := [], cl := {}, port := {}, vault := {}, dev := {} })
    {s0 s : State} {a0 a1} (h : Kept m s0 s) :
    Kept m s0 (unmountNow a0 a1 s) := by
  unfold unmountNow
  extract_lets +onlyGivenNames x1
  have h2 : Kept m s0 x1 := by
    unfold x1
    refine endDiscCmds_kept (sub hm) ?_
    refine fset_kept (sub hm) ?_
    exact h
  clear_value x1
  split
  · rename_i v3 v4 v5 v6
    have h7 : Kept m s0 ((v4, v5)).2 := by
      rw [← v6]
      refine unmountEntries_kept (sub hm) ?_
      exact h2
    refine mediaEvent_kept (sub hm) ?_
    refine emit_kept (sub hm) ?_
    refine setDev_kept (sub hm) ?_
    refine dismount_kept (sub hm) ?_
    refine zeroiseKey_kept (sub hm) ?_
    exact h7

theorem unmountStep_kept {α : Type} {m : State → α} (hm : ∀ u, m u = m { u with regs := [], evq := [], out := [], msixPend := 0, disc := {}, ends := [], engs := [], loops := [], spin := {}, blanks := [], encoded := [], cl := {}, port := {}, vault := {}, dev := {} })
    {s0 s : State} {a0 a1} (h : Kept m s0 s) :
    Kept m s0 (unmountStep a0 a1 s) := by
  unfold unmountStep
  extract_lets +onlyGivenNames x1
  clear_value x1
  extract_lets +onlyGivenNames x2
  clear_value x2
  refine ite_kept (P := fun x => Kept m s0 x) ?_ ?_
  · exact h
  · refine ite_kept (P := fun x => Kept m s0 x) ?_ ?_
    · refine ite_kept (P := fun x => Kept m s0 x) ?_ ?_
      · exact h
      · extract_lets +onlyGivenNames x3
        have h4 : Kept m s0 x3 := by
          unfold x3
          refine modCmd_kept (sub hm) ?_
          refine unmountNow_kept (sub hm) ?_
          exact h
        clear_value x3
        refine ite_kept (P := fun x => Kept m s0 x) ?_ ?_
        · beta_reduce
          refine ite_kept (P := fun x => Kept m s0 x) ?_ ?_
          · refine endNow_kept (sub hm) ?_
            refine towardsSafe_kept (sub hm) ?_
            exact h4
          · refine towardsSafe_kept (sub hm) ?_
            exact h4
        · refine endNow_kept (sub hm) ?_
          refine parkHead_kept (sub hm) ?_
          refine parkHead_kept (sub hm) ?_
          exact h4
    · extract_lets +onlyGivenNames x5
      clear_value x5
      refine ite_kept (P := fun x => Kept m s0 x) ?_ ?_
      · refine endNow_kept (sub hm) ?_
        exact h
      · refine towardsSafe_kept (sub hm) ?_
        exact h

theorem execUnmount_kept {α : Type} {m : State → α} (hm : ∀ u, m u = m { u with regs := [], evq := [], out := [], msixPend := 0, disc := {}, ends := [], engs := [], loops := [], spin := {}, blanks := [], encoded := [], claims := [], cl := {}, port := {}, vault := {}, dev := {} })
    {s0 s : State} {a0} (h : Kept m s0 s) :
    KeptR m s0 (execUnmount a0 s) := by
  unfold execUnmount
  refine KeptR.next ?_
  split
  · rename_i v1 v2
    refine submit_kept (sub hm) ?_ ?_
    · intro y3 y4 y5 y6
      refine unmountStep_kept (sub hm) ?_
      exact y6
    · exact h
  · rename_i v7
    refine foldl_kept (P := fun x => Kept m s0 x) ?_ ?_
    · intro y8 y9 y10
      split
      · rename_i v11 v12 v13
        refine ite_kept (P := fun x => Kept m s0 x) ?_ ?_
        · refine unmountStep_kept (sub hm) ?_
          exact y10
        · exact y10
      · rename_i v14 v15
        exact y10
    · exact h

theorem execSetMode_kept {α : Type} {m : State → α} (hm : ∀ u, m u = m { u with regs := [], evq := [], out := [], msixPend := 0, disc := {}, recs := [], spin := {}, dec := {}, encoded := [], mem := {}, lanesC := [], claims := [], cl := {}, port := {}, pwr := {} })
    {s0 s : State} {a0} (h : Kept m s0 s) :
    KeptR m s0 (execSetMode a0 s) := by
  unfold execSetMode
  refine KeptR.next ?_
  refine submit_kept (sub hm) ?_ ?_
  · intro y1 y2 y3 y4
    refine askMode_kept (sub hm) ?_
    exact y4
  · exact h

theorem submitGo_kept {α : Type} {m : State → α} (hm : ∀ u, m u = m { u with free := 0, regs := [], evq := [], out := [], msixPend := 0, disc := {}, ends := [], recs := [], engs := [], loops := [], spin := {}, blanks := [], dec := {}, encoded := [], mem := {}, lanesC := [], claims := [], cl := {}, port := {}, vault := {}, pwr := {}, dev := {} })
    {s0 s : State} {a0 a1} (h : Kept m s0 s) :
    Kept m s0 (submitGo a0 a1 s) := by
  unfold submitGo
  refine dite_kept (P := fun x => Kept m s0 x) ?_ ?_
  · intro hr
    extract_lets +onlyGivenNames b op arg
    clear_value op arg
    split
    · exact after_kept (execRead_kept (sub hm) h) h
    · exact after_kept (execWrite_kept (sub hm) h) h
    · exact after_kept (execVerify_kept (sub hm) h) h
    · exact after_kept (execSeal_kept (sub hm) h) h
    · exact after_kept (execStreamOpen_kept (sub hm) h) h
    · exact after_kept (execStreamClose_kept (sub hm) h) h
    · have ht : ∀ n, Kept m s0 { s with free := s.free + 33 + n } := fun n =>
        h.trans ⟨view_eq hm, rfl, List.prefix_refl _, (Nat.le_add_right _ _).trans (Nat.le_add_right _ _), .refl _, id⟩
      exact after_kept (execOffload_kept (sub hm) (ht _)) h
    · have ht : Kept m s0 { s with free := s.free + 4 } := Kept.freed hm h
      refine ite_kept (P := fun x => Kept m s0 x) ?_ ?_
      · exact after_kept (execSelfTestShort_kept (sub hm) ht) h
      · refine ite_kept (P := fun x => Kept m s0 x) ?_ ?_
        · exact after_kept (execSelfTestExtended_kept (sub hm) ht) h
        · refine ite_kept (P := fun x => Kept m s0 x) ?_ ?_
          · exact after_kept (execSelfTestStop_kept (sub hm) h) h
          · refine submit_kept (sub hm) ?_ h
            exact fun t c u hu => withFree_kept (sub hm) (fun x v hv => endNow_kept (sub hm) hv) hu
    · exact after_kept (execAbort_kept (sub hm) h) h
    · exact after_kept (execMount_kept (sub hm) h) h
    · exact after_kept (execUnmount_kept (sub hm) h) h
    · exact after_kept (execSetMode_kept (sub hm) h) h
    · exact submit_kept (sub hm) (fun t c u hu => hu) h
  · exact fun _ => h

theorem unfreeze_kept {α : Type} {m : State → α} (hm : ∀ u, m u = m { u with regs := [], evq := [], out := [], msixPend := 0, cl := {} })
    {s0 s : State} {a0 a1 a2} (h : Kept m s0 s) :
    Kept m s0 (unfreeze a0 a1 a2 s) := by
  unfold unfreeze
  refine emit_kept (sub hm) ?_
  refine raise_kept (sub hm) ?_
  refine fset_kept (sub hm) ?_
  refine setCl_kept (sub hm) ?_
  exact h

theorem restart_kept {α : Type} {m : State → α} (hm : ∀ u, m u = m { u with regs := [], evq := [], out := [], msixPend := 0, disc := {}, dec := {}, encoded := [], mem := {}, lanesC := [], cl := {} })
    {s0 s : State} {a0 a1 a2} (h : Kept m s0 s) :
    Kept m s0 (restart a0 a1 a2 s) := by
  unfold restart
  split
  · rename_i v1 v2
    exact h
  · rename_i v3 v4 v5
    extract_lets +onlyGivenNames x6
    clear_value x6
    extract_lets +onlyGivenNames x7
    have h8 : Kept m s0 x7 := by
      unfold x7
      refine foldl_kept (P := fun x => Kept m s0 x) ?_ ?_
      · intro y9 y10 y11
        refine stopCmd_kept (sub hm) ?_
        exact y11
      · exact h
    clear_value x7
    refine ite_kept (P := fun x => Kept m s0 x) ?_ ?_
    · refine unfreeze_kept (sub hm) ?_
      exact h8
    · refine setCl_kept (sub hm) ?_
      exact h8

theorem execRestartResume_kept {α : Type} {m : State → α} (hm : ∀ u, m u = m { u with regs := [], evq := [], out := [], msixPend := 0, disc := {}, dec := {}, encoded := [], mem := {}, lanesC := [], cl := {} })
    {s0 s : State} {a0} (h : Kept m s0 s) :
    KeptR m s0 (execRestartResume a0 s) := by
  unfold execRestartResume
  refine KeptR.next ?_
  refine restart_kept (sub hm) ?_
  exact h

theorem execDiscardLater_kept {α : Type} {m : State → α} (hm : ∀ u, m u = m { u with regs := [], evq := [], out := [], msixPend := 0, disc := {}, dec := {}, encoded := [], mem := {}, lanesC := [], cl := {} })
    {s0 s : State} {a0} (h : Kept m s0 s) :
    KeptR m s0 (execDiscardLater a0 s) := by
  unfold execDiscardLater
  refine KeptR.next ?_
  refine restart_kept (sub hm) ?_
  exact h

theorem execDiscardAll_kept {α : Type} {m : State → α} (hm : ∀ u, m u = m { u with regs := [], evq := [], out := [], msixPend := 0, disc := {}, dec := {}, encoded := [], mem := {}, lanesC := [], cl := {} })
    {s0 s : State} {a0} (h : Kept m s0 s) :
    KeptR m s0 (execDiscardAll a0 s) := by
  unfold execDiscardAll
  refine KeptR.next ?_
  refine restart_kept (sub hm) ?_
  exact h

theorem restartWrite_kept {α : Type} {m : State → α} (hm : ∀ u, m u = m { u with regs := [], evq := [], out := [], msixPend := 0, disc := {}, dec := {}, encoded := [], mem := {}, lanesC := [], cl := {} })
    {s0 s : State} {a0} (h : Kept m s0 s) :
    Kept m s0 (restartWrite a0 s) := by
  unfold restartWrite
  extract_lets +onlyGivenNames x1
  clear_value x1
  split
  · rename_i v2 v3
    refine after_kept ?_ ?_
    · refine execRestartResume_kept (sub hm) ?_
      exact h
    · exact h
  · rename_i v4 v5
    refine after_kept ?_ ?_
    · refine execDiscardLater_kept (sub hm) ?_
      exact h
    · exact h
  · rename_i v6 v7
    refine after_kept ?_ ?_
    · refine execDiscardAll_kept (sub hm) ?_
      exact h
    · exact h
  · rename_i v8 v9 v10 v11
    exact h

theorem trfWrite_kept {α : Type} {m : State → α} (hm : ∀ u, m u = m { u with free := 0, regs := [], evq := [], out := [], msixPend := 0, disc := {}, ends := [], recs := [], engs := [], loops := [], spin := {}, blanks := [], dec := {}, encoded := [], mem := {}, lanesC := [], claims := [], cl := {}, port := {}, vault := {}, pwr := {}, dev := {} })
    {s0 s : State} {a0 a1 a2} (h : Kept m s0 s) :
    Kept m s0 (trfWrite a0 a1 a2 s) := by
  unfold trfWrite
  refine ite_kept (P := fun x => Kept m s0 x) ?_ ?_
  · refine ite_kept (P := fun x => Kept m s0 x) ?_ ?_
    · refine dropClaim_kept (sub hm) ?_
      exact h
    · exact h
  · refine ite_kept (P := fun x => Kept m s0 x) ?_ ?_
    · refine ite_kept (P := fun x => Kept m s0 x) ?_ ?_
      · refine sticky_kept (sub hm) ?_
        exact h
      · refine ite_kept (P := fun x => Kept m s0 x) ?_ ?_
        · refine ite_kept (P := fun x => Kept m s0 x) ?_ ?_
          · refine submitGo_kept (sub hm) ?_
            exact h
          · exact h
        · refine regWrite_kept (sub hm) ?_
          exact h
    · refine ite_kept (P := fun x => Kept m s0 x) ?_ ?_
      · refine restartWrite_kept (sub hm) ?_
        exact h
      · refine regWrite_kept (sub hm) ?_
        exact h

theorem fullEpisode_kept {α : Type} {m : State → α} (hm : ∀ u, m u = m { u with regs := [], evq := [], out := [], msixPend := 0, cl := {} })
    {s0 s : State} {a0 a1 a2} (h : Kept m s0 s) :
    Kept m s0 (fullEpisode a0 a1 a2 s) := by
  unfold fullEpisode
  extract_lets +onlyGivenNames x1
  clear_value x1
  refine ite_kept (P := fun x => Kept m s0 x) ?_ ?_
  · exact h
  · refine emit_kept (sub hm) ?_
    refine cnt_kept (sub hm) ?_
    refine raise_kept (sub hm) ?_
    refine fset_kept (sub hm) ?_
    refine setRing_kept (sub hm) ?_
    exact h

theorem portEnd_kept {α : Type} {m : State → α} (hm : ∀ u, m u = m { u with regs := [], out := [], port := {} })
    {s0 s : State} {a0 a1 a2 a3} (h : Kept m s0 s) :
    Kept m s0 (portEnd a0 a1 a2 a3 s) := by
  unfold portEnd
  refine ite_app_kept (P := fun x => Kept m s0 x) ?_ ?_
  · refine fset_kept (sub hm) ?_
    refine send_kept (sub hm) ?_
    refine setPorts_kept (sub hm) ?_
    exact h
  · refine send_kept (sub hm) ?_
    refine setPorts_kept (sub hm) ?_
    exact h

theorem endSyncs_kept {α : Type} {m : State → α} (hm : ∀ u, m u = m { u with regs := [], out := [], port := {} })
    {s0 s : State} (h : Kept m s0 s) :
    Kept m s0 (endSyncs s) := by
  unfold endSyncs
  extract_lets +onlyGivenNames x1
  clear_value x1
  extract_lets +onlyGivenNames x2
  clear_value x2
  extract_lets +onlyGivenNames x3
  have h4 : Kept m s0 x3 := by
    unfold x3
    refine setPorts_kept (sub hm) ?_
    refine foldl_kept (P := fun x => Kept m s0 x) ?_ ?_
    · intro y5 y6 y7
      refine portEnd_kept (sub hm) ?_
      exact y7
    · exact h
  clear_value x3
  exact h4

theorem restartStep_kept {α : Type} {m : State → α} (hm : ∀ u, m u = m { u with regs := [], evq := [], out := [], msixPend := 0, cl := {} })
    {s0 s : State} {a0} (h : Kept m s0 s) :
    Kept m s0 (restartStep a0 s) := by
  unfold restartStep
  refine foldl_kept (P := fun x => Kept m s0 x) ?_ ?_
  · intro y1 y2 y3
    extract_lets +onlyGivenNames x4
    refine ite_kept (P := fun x => Kept m s0 x) ?_ ?_
    · exact y3
    · refine ite_kept (P := fun x => Kept m s0 x) ?_ ?_
      · refine unfreeze_kept (sub hm) ?_
        exact y3
      · refine setCl_kept (sub hm) ?_
        exact y3
  · exact h

theorem tagsFell_kept {α : Type} {m : State → α} (hm : ∀ u, m u = m { u with regs := [], out := [], msixPend := 0 })
    {s0 s : State} {a0} (h : Kept m s0 s) :
    Kept m s0 (tagsFell a0 s) := by
  unfold tagsFell
  extract_lets +onlyGivenNames x1
  clear_value x1
  extract_lets +onlyGivenNames x2
  clear_value x2
  extract_lets +onlyGivenNames x3
  have h4 : Kept m s0 x3 := by
    unfold x3
    refine fset_kept (sub hm) ?_
    exact h
  clear_value x3
  refine ite_kept (P := fun x => Kept m s0 x) ?_ ?_
  · refine raise_kept (sub hm) ?_
    exact h4
  · exact h4

theorem writeRecord_kept {α : Type} {m : State → α} (hm : ∀ u, m u = m { u with regs := [], out := [], msixPend := 0, cl := {} })
    {s0 s : State} {a0 a1} (h : Kept m s0 s) :
    Kept m s0 (writeRecord a0 a1 s) := by
  unfold writeRecord
  split
  · rename_i v1 v2
    exact h
  · rename_i v3 v4 v5
    extract_lets +onlyGivenNames x6
    clear_value x6
    refine pmc_kept (sub hm) ?_
    refine raise_kept (sub hm) ?_
    refine fset_kept (sub hm) ?_
    refine setCl_kept (sub hm) ?_
    exact h

theorem completed_kept {α : Type} {m : State → α} (hm : ∀ u, m u = m { u with regs := [], evq := [], out := [], msixPend := 0, cl := {}, port := {} })
    {s0 s : State} {a0 a1} (h : Kept m s0 s) :
    Kept m s0 (completed a0 a1 s) := by
  unfold completed
  extract_lets +onlyGivenNames x1
  clear_value x1
  extract_lets +onlyGivenNames x2
  clear_value x2
  extract_lets +onlyGivenNames x3
  have h4 : Kept m s0 x3 := by
    unfold x3
    refine setCl_kept (sub hm) ?_
    exact h
  clear_value x3
  extract_lets +onlyGivenNames x5
  clear_value x5
  extract_lets +onlyGivenNames x6
  have h7 : Kept m s0 x6 := by
    unfold x6
    refine ite_kept (P := fun x => Kept m s0 x) ?_ ?_
    · refine showStreams_kept (sub hm) ?_
      refine Kept.with hm ?_
      exact h4
    · exact h4
  clear_value x6
  refine endSyncs_kept (sub hm) ?_
  refine restartStep_kept (sub hm) ?_
  refine tagsFell_kept (sub hm) ?_
  refine writeRecord_kept (sub hm) ?_
  exact h7

theorem writeEntry_kept {α : Type} {m : State → α} (hm : ∀ u, m u = m { u with regs := [], out := [], msixPend := 0, mem := {}, cl := {} })
    {s0 s : State} {a0 a1 a2} (h : Kept m s0 s) :
    Kept m s0 (writeEntry a0 a1 a2 s) := by
  unfold writeEntry
  extract_lets +onlyGivenNames x1
  clear_value x1
  extract_lets +onlyGivenNames x2
  clear_value x2
  extract_lets +onlyGivenNames x3
  clear_value x3
  extract_lets +onlyGivenNames x4
  clear_value x4
  extract_lets +onlyGivenNames x5
  have h6 : KeptO m s0 x5 := by
    unfold x5
    refine ite_kept (P := fun x => KeptO m s0 x) ?_ ?_
    · exact KeptO.none
    · refine ite_kept (P := fun x => KeptO m s0 x) ?_ ?_
      · refine bufWrite_kept (sub hm) ?_
        exact h
      · refine KeptO.some ?_
        exact h
  clear_value x5
  extract_lets +onlyGivenNames x7
  have h8 : Kept m s0 x7 := by
    unfold x7
    split
    · rename_i v9 v10
      refine ite_app_kept (P := fun x => Kept m s0 x) ?_ ?_
      · refine id_kept (P := fun x => Kept m s0 x) ?_
        refine send_kept (sub hm) ?_
        exact h6 _ rfl
      · refine toHost_kept (sub hm) ?_
        refine send_kept (sub hm) ?_
        exact h6 _ rfl
    · rename_i v11
      refine raise_kept (sub hm) ?_
      refine fault_kept (sub hm) ?_
      exact h
  clear_value x7
  extract_lets +onlyGivenNames x12
  clear_value x12
  refine coalesce_kept (sub hm) ?_
  refine pmc_kept (sub hm) ?_
  refine raise_kept (sub hm) ?_
  refine cnt_kept (sub hm) ?_
  refine ite_app_kept (P := fun x => Kept m s0 x) ?_ ?_
  · refine fsetB_kept (sub hm) ?_
    refine fset_kept (sub hm) ?_
    exact h8
  · refine id_kept (P := fun x => Kept m s0 x) ?_
    refine fset_kept (sub hm) ?_
    exact h8

theorem postWaiting_kept {α : Type} {m : State → α} (hm : ∀ u, m u = m { u with regs := [], evq := [], out := [], msixPend := 0, mem := {}, cl := {}, port := {} })
    {s0 s : State} {a0 a1 a2} (h : Kept m s0 s) :
    Kept m s0 (postWaiting a0 a1 a2 s) := by
  induction a1 generalizing a2 s with
  | zero => exact h
  | succ n ih =>
    unfold postWaiting
    split
    · exact h
    · refine ite_kept (P := fun x => Kept m s0 x) h ?_
      refine ite_kept (P := fun x => Kept m s0 x) (fullEpisode_kept (sub hm) h) ?_
      exact ih (completed_kept (sub hm) (writeEntry_kept (sub hm) (setCl_kept (sub hm) h)))

theorem ringRoom_kept {α : Type} {m : State → α} (hm : ∀ u, m u = m { u with regs := [], cl := {} })
    {s0 s : State} {a0} (h : Kept m s0 s) :
    Kept m s0 (ringRoom a0 s) := by
  unfold ringRoom
  refine ite_kept (P := fun x => Kept m s0 x) ?_ ?_
  · exact h
  · refine fset_kept (sub hm) ?_
    refine setRing_kept (sub hm) ?_
    exact h

theorem execRingEnable_kept {α : Type} {m : State → α} (hm : ∀ u, m u = m { u with regs := [], evq := [], out := [], msixPend := 0, mem := {}, cl := {}, port := {} })
    {s0 s : State} {a0 a1 a2} (h : Kept m s0 s) :
    KeptR m s0 (execRingEnable a0 a1 a2 s) := by
  unfold execRingEnable
  extract_lets +onlyGivenNames x1
  clear_value x1
  extract_lets +onlyGivenNames x2
  clear_value x2
  extract_lets +onlyGivenNames x3
  clear_value x3
  extract_lets +onlyGivenNames x4
  clear_value x4
  extract_lets +onlyGivenNames x5
  have h6 : Kept m s0 x5 := by
    unfold x5
    refine fset_kept (sub hm) ?_
    refine fset_kept (sub hm) ?_
    refine fset_kept (sub hm) ?_
    refine fset_kept (sub hm) ?_
    refine fset_kept (sub hm) ?_
    exact h
  clear_value x5
  refine KeptR.next ?_
  refine ite_kept (P := fun x => Kept m s0 x) ?_ ?_
  · refine postWaiting_kept (sub hm) ?_
    refine ringRoom_kept (sub hm) ?_
    refine fset_kept (sub hm) ?_
    refine fset_kept (sub hm) ?_
    refine fset_kept (sub hm) ?_
    refine setRing_kept (sub hm) ?_
    exact h6
  · exact h6

theorem execRingHeadWrite_kept {α : Type} {m : State → α} (hm : ∀ u, m u = m { u with regs := [], evq := [], out := [], msixPend := 0, mem := {}, cl := {}, port := {} })
    {s0 s : State} {a0 a1 a2} (h : Kept m s0 s) :
    KeptR m s0 (execRingHeadWrite a0 a1 a2 s) := by
  unfold execRingHeadWrite
  refine KeptR.next ?_
  refine postWaiting_kept (sub hm) ?_
  refine ringRoom_kept (sub hm) ?_
  refine fset_kept (sub hm) ?_
  exact h

theorem cplWrite_kept {α : Type} {m : State → α} (hm : ∀ u, m u = m { u with regs := [], evq := [], out := [], msixPend := 0, mem := {}, cl := {}, port := {} })
    {s0 s : State} {a0 a1} (h : Kept m s0 s) :
    Kept m s0 (cplWrite a0 a1 s) := by
  unfold cplWrite
  refine ite_kept (P := fun x => Kept m s0 x) ?_ ?_
  · refine after_kept ?_ ?_
    · refine execRingEnable_kept (sub hm) ?_
      exact h
    · exact h
  · refine ite_kept (P := fun x => Kept m s0 x) ?_ ?_
    · refine after_kept ?_ ?_
      · refine execRingHeadWrite_kept (sub hm) ?_
        exact h
      · exact h
    · refine regWrite_kept (sub hm) ?_
      exact h

theorem erlWrite_kept {α : Type} {m : State → α} (hm : ∀ u, m u = m { u with regs := [], out := [], msixPend := 0, cl := {} })
    {s0 s : State} {a0 a1} (h : Kept m s0 s) :
    Kept m s0 (erlWrite a0 a1 s) := by
  unfold erlWrite
  extract_lets +onlyGivenNames x1
  have h2 : Kept m s0 x1 := by
    unfold x1
    refine regWrite_kept (sub hm) ?_
    exact h
  clear_value x1
  refine ite_kept (P := fun x => Kept m s0 x) ?_ ?_
  · refine setCl_kept (sub hm) ?_
    exact h2
  · exact h2

theorem setAlt_kept {α : Type} {m : State → α} (hm : ∀ u, m u = m { u with regs := [] })
    {s0 s : State} {a0} (h : Kept m s0 s) :
    Kept m s0 (setAlt a0 s) := by
  unfold setAlt
  extract_lets +onlyGivenNames x1
  clear_value x1
  extract_lets +onlyGivenNames x2
  clear_value x2
  refine fsetB_kept (sub hm) ?_
  refine fsetB_kept (sub hm) ?_
  exact h

theorem setTunnel_kept {α : Type} {m : State → α} (hm : ∀ u, m u = m { u with regs := [], out := [], msixPend := 0 })
    {s0 s : State} {a0} (h : Kept m s0 s) :
    Kept m s0 (setTunnel a0 s) := by
  unfold setTunnel
  extract_lets +onlyGivenNames x1
  clear_value x1
  refine ite_kept (P := fun x => Kept m s0 x) ?_ ?_
  · exact h
  · refine raise_kept (sub hm) ?_
    refine fsetB_kept (sub hm) ?_
    exact h

theorem usbDetach_kept {α : Type} {m : State → α} (hm : ∀ u, m u = m { u with regs := [], evq := [], out := [], msixPend := 0, disc := {}, dec := {}, encoded := [], mem := {}, lanesC := [], cl := {}, port := {} })
    {s0 s : State} (h : Kept m s0 s) :
    Kept m s0 (usbDetach s) := by
  unfold usbDetach
  extract_lets +onlyGivenNames x1
  clear_value x1
  refine ite_kept (P := fun x => Kept m s0 x) ?_ ?_
  · exact h
  · refine emit_kept (sub hm) ?_
    refine raise_kept (sub hm) ?_
    refine abortPort_kept (sub hm) ?_
    refine abortPort_kept (sub hm) ?_
    refine fset_kept (sub hm) ?_
    refine setAlt_kept (sub hm) ?_
    refine fset_kept (sub hm) ?_
    refine setTunnel_kept (sub hm) ?_
    refine fset_kept (sub hm) ?_
    exact h

theorem usbWrite_kept {α : Type} {m : State → α} (hm : ∀ u, m u = m { u with regs := [], evq := [], out := [], msixPend := 0, disc := {}, dec := {}, encoded := [], mem := {}, lanesC := [], cl := {}, port := {} })
    {s0 s : State} {a0 a1} (h : Kept m s0 s) :
    Kept m s0 (usbWrite a0 a1 s) := by
  unfold usbWrite
  extract_lets +onlyGivenNames x1
  have h2 : Kept m s0 x1 := by
    unfold x1
    refine regWrite_kept (sub hm) ?_
    exact h
  clear_value x1
  refine ite_kept (P := fun x => Kept m s0 x) ?_ ?_
  · extract_lets +onlyGivenNames x3
    have h4 : Kept m s0 x3 := by
      unfold x3
      refine ite_kept (P := fun x => Kept m s0 x) ?_ ?_
      · exact h2
      · refine usbDetach_kept (sub hm) ?_
        exact h2
    clear_value x3
    refine ite_kept (P := fun x => Kept m s0 x) ?_ ?_
    · exact h4
    · refine setTunnel_kept (sub hm) ?_
      exact h4
  · exact h2

theorem execSataLinkChange_kept {α : Type} {m : State → α} (hm : ∀ u, m u = m { u with regs := [], evq := [], out := [], msixPend := 0 })
    {s0 s : State} {a0 a1} (h : Kept m s0 s) :
    KeptR m s0 (execSataLinkChange a0 a1 s) := by
  unfold execSataLinkChange
  extract_lets +onlyGivenNames x1
  clear_value x1
  extract_lets +onlyGivenNames x2
  clear_value x2
  extract_lets +onlyGivenNames x3
  clear_value x3
  refine KeptR.next ?_
  refine ite_kept (P := fun x => Kept m s0 x) ?_ ?_
  · refine fault_kept (sub hm) ?_
    exact h
  · extract_lets +onlyGivenNames x4
    have h5 : Kept m s0 x4 := by
      unfold x4
      refine fsetB_kept (sub hm) ?_
      refine fset_kept (sub hm) ?_
      exact h
    clear_value x4
    refine ite_kept (P := fun x => Kept m s0 x) ?_ ?_
    · refine emit_kept (sub hm) ?_
      refine raise_kept (sub hm) ?_
      exact h5
    · refine ite_kept (P := fun x => Kept m s0 x) ?_ ?_
      · refine emit_kept (sub hm) ?_
        refine raise_kept (sub hm) ?_
        refine fset_kept (sub hm) ?_
        exact h5
      · exact h5

theorem sataWrite_kept {α : Type} {m : State → α} (hm : ∀ u, m u = m { u with regs := [], evq := [], out := [], msixPend := 0 })
    {s0 s : State} {a0 a1} (h : Kept m s0 s) :
    Kept m s0 (sataWrite a0 a1 s) := by
  unfold sataWrite
  extract_lets +onlyGivenNames x1
  clear_value x1
  extract_lets +onlyGivenNames x2
  have h3 : Kept m s0 x2 := by
    unfold x2
    refine regWrite_kept (sub hm) ?_
    exact h
  clear_value x2
  refine ite_kept (P := fun x => Kept m s0 x) ?_ ?_
  · refine after_kept ?_ ?_
    · refine execSataLinkChange_kept (sub hm) ?_
      exact h3
    · exact h3
  · exact h3

theorem mbxDiscard_kept {α : Type} {m : State → α} (hm : ∀ u, m u = m { u with regs := [], evq := [], port := {} })
    {s0 s : State} {a0 a1 a2} (h : Kept m s0 s) :
    Kept m s0 (mbxDiscard a0 a1 a2 s) := by
  unfold mbxDiscard
  extract_lets +onlyGivenNames x1
  clear_value x1
  extract_lets +onlyGivenNames x2
  clear_value x2
  refine ite_app_kept (P := fun x => Kept m s0 x) ?_ ?_
  · refine emit_kept (sub hm) ?_
    refine setPorts_kept (sub hm) ?_
    refine cnt_kept (sub hm) ?_
    refine fset_kept (sub hm) ?_
    refine fset_kept (sub hm) ?_
    refine sticky_kept (sub hm) ?_
    exact h
  · refine id_kept (P := fun x => Kept m s0 x) ?_
    refine cnt_kept (sub hm) ?_
    refine fset_kept (sub hm) ?_
    refine fset_kept (sub hm) ?_
    refine sticky_kept (sub hm) ?_
    exact h

theorem ringOut_kept {α : Type} {m : State → α} (hm : ∀ u, m u = m { u with regs := [], out := [], msixPend := 0, port := {} })
    {s0 s : State} {a0} (h : Kept m s0 s) :
    Kept m s0 (ringOut a0 s) := by
  unfold ringOut
  extract_lets +onlyGivenNames x1
  clear_value x1
  refine ite_kept (P := fun x => Kept m s0 x) ?_ ?_
  · refine setPorts_kept (sub hm) ?_
    refine fset_kept (sub hm) ?_
    exact h
  · refine raise_kept (sub hm) ?_
    exact h

theorem wakeSeen_kept {α : Type} {m : State → α} (hm : ∀ u, m u = m { u with pwr := {} })
    {s0 s : State} {a0} (h : Kept m s0 s) :
    Kept m s0 (wakeSeen a0 s) := by
  unfold wakeSeen
  refine ite_kept (P := fun x => Kept m s0 x) ?_ ?_
  · refine setPwr_kept (sub hm) ?_
    exact h
  · exact h

theorem setFull_kept {α : Type} {m : State → α} (hm : ∀ u, m u = m { u with regs := [] })
    {s0 s : State} {a0 a1} (h : Kept m s0 s) :
    Kept m s0 (setFull a0 a1 s) := by
  unfold setFull
  extract_lets +onlyGivenNames x1
  clear_value x1
  extract_lets +onlyGivenNames x2
  clear_value x2
  refine fset_kept (sub hm) ?_
  refine fsetB_kept (sub hm) ?_
  exact h

theorem gustRing_kept {α : Type} {m : State → α} (hm : ∀ u, m u = m { u with regs := [], evq := [], out := [], msixPend := 0, port := {}, pwr := {} })
    {s0 s : State} {a0 a1 a2} (h : Kept m s0 s) :
    Kept m s0 (gustRing a0 a1 a2 s) := by
  unfold gustRing
  extract_lets +onlyGivenNames x1
  clear_value x1
  extract_lets +onlyGivenNames x2
  clear_value x2
  refine ite_kept (P := fun x => Kept m s0 x) ?_ ?_
  · refine mbxDiscard_kept (sub hm) ?_
    exact h
  · extract_lets +onlyGivenNames x3
    clear_value x3
    refine ringOut_kept (sub hm) ?_
    refine ite_app_kept (P := fun x => Kept m s0 x) ?_ ?_
    · refine ite_app_kept (P := fun x => Kept m s0 x) ?_ ?_
      · refine wakeSeen_kept (sub hm) ?_
        refine setPorts_kept (sub hm) ?_
        refine pmc_kept (sub hm) ?_
        refine fset_kept (sub hm) ?_
        refine fset_kept (sub hm) ?_
        refine setFull_kept (sub hm) ?_
        exact h
      · refine id_kept (P := fun x => Kept m s0 x) ?_
        refine setPorts_kept (sub hm) ?_
        refine pmc_kept (sub hm) ?_
        refine fset_kept (sub hm) ?_
        refine fset_kept (sub hm) ?_
        refine setFull_kept (sub hm) ?_
        exact h
    · refine setPorts_kept (sub hm) ?_
      refine pmc_kept (sub hm) ?_
      refine fset_kept (sub hm) ?_
      refine fset_kept (sub hm) ?_
      refine setFull_kept (sub hm) ?_
      exact h

theorem gustWrite_kept {α : Type} {m : State → α} (hm : ∀ u, m u = m { u with regs := [], evq := [], out := [], msixPend := 0, port := {}, pwr := {} })
    {s0 s : State} {a0 a1 a2} (h : Kept m s0 s) :
    Kept m s0 (gustWrite a0 a1 a2 s) := by
  unfold gustWrite
  refine ite_kept (P := fun x => Kept m s0 x) ?_ ?_
  · refine gustRing_kept (sub hm) ?_
    exact h
  · extract_lets +onlyGivenNames x1
    clear_value x1
    refine ite_kept (P := fun x => Kept m s0 x) ?_ ?_
    · refine mbxDiscard_kept (sub hm) ?_
      exact h
    · exact h

theorem mbxEmpty_kept {α : Type} {m : State → α} (hm : ∀ u, m u = m { u with regs := [], claims := [], port := {} })
    {s0 s : State} {a0} (h : Kept m s0 s) :
    Kept m s0 (mbxEmpty a0 s) := by
  unfold mbxEmpty
  beta_reduce
  refine setPorts_kept (sub hm) ?_
  refine releaseClaim_kept (sub hm) ?_
  refine setFull_kept (sub hm) ?_
  exact h

theorem mbxAck_kept {α : Type} {m : State → α} (hm : ∀ u, m u = m { u with regs := [], out := [], msixPend := 0, claims := [], port := {} })
    {s0 s : State} {a0} (h : Kept m s0 s) :
    Kept m s0 (mbxAck a0 s) := by
  unfold mbxAck
  extract_lets +onlyGivenNames x1
  clear_value x1
  refine ite_kept (P := fun x => Kept m s0 x) ?_ ?_
  · refine sticky_kept (sub hm) ?_
    exact h
  · refine raise_kept (sub hm) ?_
    refine cnt_kept (sub hm) ?_
    refine mbxEmpty_kept (sub hm) ?_
    exact h

theorem mbxWithdraw_kept {α : Type} {m : State → α} (hm : ∀ u, m u = m { u with regs := [], claims := [], port := {} })
    {s0 s : State} {a0} (h : Kept m s0 s) :
    Kept m s0 (mbxWithdraw a0 s) := by
  unfold mbxWithdraw
  refine ite_kept (P := fun x => Kept m s0 x) ?_ ?_
  · refine mbxEmpty_kept (sub hm) ?_
    exact h
  · exact h

theorem mbxData_kept {α : Type} {m : State → α} (hm : ∀ u, m u = m { u with regs := [], evq := [], port := {} })
    {s0 s : State} {a0 a1 a2 a3} (h : Kept m s0 s) :
    Kept m s0 (mbxData a0 a1 a2 a3 s) := by
  unfold mbxData
  extract_lets +onlyGivenNames x1
  clear_value x1
  refine ite_kept (P := fun x => Kept m s0 x) ?_ ?_
  · refine mbxDiscard_kept (sub hm) ?_
    exact h
  · refine fset_kept (sub hm) ?_
    exact h

theorem mbxWrite_kept {α : Type} {m : State → α} (hm : ∀ u, m u = m { u with regs := [], evq := [], out := [], msixPend := 0, claims := [], port := {}, pwr := {} })
    {s0 s : State} {a0 a1 a2} (h : Kept m s0 s) :
    Kept m s0 (mbxWrite a0 a1 a2 s) := by
  unfold mbxWrite
  refine ite_kept (P := fun x => Kept m s0 x) ?_ ?_
  · extract_lets +onlyGivenNames x1
    clear_value x1
    extract_lets +onlyGivenNames x2
    clear_value x2
    refine ite_kept (P := fun x => Kept m s0 x) ?_ ?_
    · refine gustWrite_kept (sub hm) ?_
      exact h
    · refine ite_kept (P := fun x => Kept m s0 x) ?_ ?_
      · refine ite_kept (P := fun x => Kept m s0 x) ?_ ?_
        · refine mbxAck_kept (sub hm) ?_
          exact h
        · refine ite_kept (P := fun x => Kept m s0 x) ?_ ?_
          · refine mbxWithdraw_kept (sub hm) ?_
            exact h
          · exact h
      · refine ite_kept (P := fun x => Kept m s0 x) ?_ ?_
        · refine ite_kept (P := fun x => Kept m s0 x) ?_ ?_
          · refine dropClaim_kept (sub hm) ?_
            exact h
          · exact h
        · refine ite_kept (P := fun x => Kept m s0 x) ?_ ?_
          · refine mbxData_kept (sub hm) ?_
            exact h
          · exact h
  · refine regWrite_kept (sub hm) ?_
    exact h

theorem pwrRequest_kept {α : Type} {m : State → α} (hm : ∀ u, m u = m { u with regs := [], evq := [], out := [], msixPend := 0, disc := {}, recs := [], spin := {}, dec := {}, encoded := [], mem := {}, lanesC := [], cl := {}, port := {}, pwr := {} })
    {s0 s : State} (h : Kept m s0 s) :
    Kept m s0 (pwrRequest s) := by
  unfold pwrRequest
  extract_lets +onlyGivenNames x1
  clear_value x1
  refine ite_kept (P := fun x => Kept m s0 x) ?_ ?_
  · refine sticky_kept (sub hm) ?_
    exact h
  · refine askMode_kept (sub hm) ?_
    exact h

theorem pmbGo_kept {α : Type} {m : State → α} (hm : ∀ u, m u = m { u with regs := [], out := [] })
    {s0 s : State} (h : Kept m s0 s) :
    Kept m s0 (pmbGo s) := by
  unfold pmbGo
  extract_lets +onlyGivenNames x1
  clear_value x1
  refine ite_kept (P := fun x => Kept m s0 x) ?_ ?_
  · refine sticky_kept (sub hm) ?_
    exact h
  · refine ite_app_kept (P := fun x => Kept m s0 x) ?_ ?_
    · refine id_kept (P := fun x => Kept m s0 x) ?_
      refine fset_kept (sub hm) ?_
      exact h
    · refine send_kept (sub hm) ?_
      refine fset_kept (sub hm) ?_
      exact h

theorem pwrWrite_kept {α : Type} {m : State → α} (hm : ∀ u, m u = m { u with regs := [], evq := [], out := [], msixPend := 0, disc := {}, recs := [], spin := {}, dec := {}, encoded := [], mem := {}, lanesC := [], cl := {}, port := {}, pwr := {} })
    {s0 s : State} {a0 a1} (h : Kept m s0 s) :
    Kept m s0 (pwrWrite a0 a1 s) := by
  unfold pwrWrite
  extract_lets +onlyGivenNames x1
  have h2 : Kept m s0 x1 := by
    unfold x1
    refine regWrite_kept (sub hm) ?_
    exact h
  clear_value x1
  refine ite_kept (P := fun x => Kept m s0 x) ?_ ?_
  · refine pwrRequest_kept (sub hm) ?_
    exact h2
  · refine ite_kept (P := fun x => Kept m s0 x) ?_ ?_
    · refine pmbGo_kept (sub hm) ?_
      exact h2
    · exact h2

theorem compactRecs_kept {α : Type} {m : State → α} (hm : ∀ u, m u = m { u with regs := [], cl := {} })
    {s0 s : State} (h : Kept m s0 s) :
    Kept m s0 (compactRecs s) := by
  unfold compactRecs
  extract_lets +onlyGivenNames x1
  clear_value x1
  extract_lets +onlyGivenNames x2
  clear_value x2
  extract_lets +onlyGivenNames x3
  clear_value x3
  refine fset_kept (sub hm) ?_
  refine fset_kept (sub hm) ?_
  refine setCl_kept (sub hm) ?_
  exact h

theorem semDrop_kept {α : Type} {m : State → α} (hm : ∀ u, m u = m { u with regs := [], claims := [] })
    {s0 s : State} {a0} (h : Kept m s0 s) :
    Kept m s0 (semDrop a0 s) := by
  unfold semDrop
  refine foldl_kept (P := fun x => Kept m s0 x) ?_ ?_
  · intro y1 y2 y3
    split
    · rename_i v4 v5 v6
      refine ite_kept (P := fun x => Kept m s0 x) ?_ ?_
      · refine showSem_kept (sub hm) ?_
        refine releaseClaim_kept (sub hm) ?_
        exact y3
      · exact y3
    · rename_i v7 v8
      exact y3
  · exact h

theorem keepAlwaysOn_kept {α : Type} {m : State → α} (hm : ∀ u, m u = m { u with regs := [], msix := [], msixPend := 0, msixMask := false, disc := {}, ends := [], lanes := [], links := [], recs := [], engs := [], ustore := [], nstore := [], dmem := [], pgs := [], loops := [], heads := [], spin := {}, sleds := [], chans := [], commons := [], frames := [], blanks := [], dec := {}, encoded := [], opcs := [], betas := [], mem := {}, lanesC := [], claims := [], cl := {}, port := {}, vault := {}, pwr := {}, dev := {}, obs := {} })
    {s0 s : State} (h : Kept m s0 s) :
    Kept m s0 (keepAlwaysOn s) := by
  unfold keepAlwaysOn
  extract_lets +onlyGivenNames x1
  have h1 : Kept m s0 x1 := compactRecs_kept (sub hm) h
  clear_value x1
  extract_lets +onlyGivenNames y1 y2 y3 x2
  have h2 : Kept m s0 x2 := by
    refine h1.trans ⟨view_eq hm, rfl, List.prefix_refl _, le_refl _, .refl _, fun hs => ?_⟩
    exact Store.sorted_filter _ _ hs
  clear_value x2
  refine fset_kept (sub hm) ?_
  refine fset_kept (sub hm) ?_
  refine fset_kept (sub hm) ?_
  refine fset_kept (sub hm) ?_
  refine fset_kept (sub hm) ?_
  refine fset_kept (sub hm) ?_
  refine fset_kept (sub hm) ?_
  refine fclrs_kept (sub hm) ?_
  refine semDrop_kept (sub hm) ?_
  exact setDev_kept (sub hm) h2

theorem finishCopy_kept {α : Type} {m : State → α} (hm : ∀ u, m u = m { u with dev := {} })
    {s0 s : State} (h : Kept m s0 s) :
    Kept m s0 (finishCopy s) := by
  unfold finishCopy
  split
  · rename_i v1 v2 v3 v4
    refine flashStore_kept (sub hm) ?_
    refine flashErase_kept (sub hm) ?_
    exact h
  · rename_i v5 v6
    exact h

theorem motorsSafe_kept {α : Type} {m : State → α} (hm : ∀ u, m u = m { u with regs := [], spin := {}, sleds := [], pwr := {} })
    {s0 s : State} (h : Kept m s0 s) :
    Kept m s0 (motorsSafe s) := by
  unfold motorsSafe
  extract_lets +onlyGivenNames x1
  clear_value x1
  extract_lets +onlyGivenNames x2
  clear_value x2
  extract_lets +onlyGivenNames x3
  have h4 : Kept m s0 x3 := by
    unfold x3
    refine Kept.with hm ?_
    exact h
  clear_value x3
  refine sledOff_kept (sub hm) ?_
  refine sledOff_kept (sub hm) ?_
  refine ite_app_kept (P := fun x => Kept m s0 x) ?_ ?_
  · refine spinState_kept (sub hm) ?_
    refine angleValid_kept (sub hm) ?_
    refine unlockSpin_kept (sub hm) ?_
    refine gatesOff_kept (sub hm) ?_
    refine coilsSafe_kept (sub hm) ?_
    refine coilsSafe_kept (sub hm) ?_
    exact h4
  · refine id_kept (P := fun x => Kept m s0 x) ?_
    refine angleValid_kept (sub hm) ?_
    refine unlockSpin_kept (sub hm) ?_
    refine gatesOff_kept (sub hm) ?_
    refine coilsSafe_kept (sub hm) ?_
    refine coilsSafe_kept (sub hm) ?_
    exact h4

theorem vaultAbandon_kept {α : Type} {m : State → α} (hm : ∀ u, m u = m { u with regs := [], vault := {} })
    {s0 s : State} (h : Kept m s0 s) :
    Kept m s0 (vaultAbandon s) := by
  unfold vaultAbandon
  extract_lets +onlyGivenNames x1
  clear_value x1
  refine ite_app_kept (P := fun x => Kept m s0 x) ?_ ?_
  · refine fset_kept (sub hm) ?_
    refine setVault_kept (sub hm) ?_
    exact h
  · refine id_kept (P := fun x => Kept m s0 x) ?_
    refine setVault_kept (sub hm) ?_
    exact h

theorem resetSafe_kept {α : Type} {m : State → α} (hm : ∀ u, m u = m { u with regs := [], evq := [], out := [], msixPend := 0, links := [], recs := [], spin := {}, sleds := [], vault := {}, pwr := {} })
    {s0 s : State} (h : Kept m s0 s) :
    Kept m s0 (resetSafe s) := by
  unfold resetSafe
  refine motorsSafe_kept (sub hm) ?_
  refine zeroiseKey_kept (sub hm) ?_
  refine vaultAbandon_kept (sub hm) ?_
  refine killHead_kept (sub hm) ?_
  refine killHead_kept (sub hm) ?_
  refine abruptStop_kept (sub hm) ?_
  refine abruptStop_kept (sub hm) ?_
  exact h

theorem warmReset_kept {α : Type} {m : State → α} (hm : ∀ u, m u = m { u with regs := [], evq := [], out := [], msix := [], msixPend := 0, msixMask := false, disc := {}, ends := [], lanes := [], links := [], recs := [], engs := [], ustore := [], nstore := [], dmem := [], pgs := [], loops := [], heads := [], spin := {}, sleds := [], chans := [], commons := [], frames := [], blanks := [], dec := {}, encoded := [], opcs := [], betas := [], mem := {}, lanesC := [], claims := [], cl := {}, port := {}, vault := {}, pwr := {}, dev := {}, obs := {} })
    {s0 s : State} {a0 a1} (h : Kept m s0 s) :
    Kept m s0 (warmReset a0 a1 s) := by
  unfold warmReset
  extract_lets +onlyGivenNames x1
  clear_value x1
  extract_lets +onlyGivenNames x2
  have h3 : Kept m s0 x2 := by
    unfold x2
    refine fset_kept (sub hm) ?_
    exact h
  clear_value x2
  split
  · rename_i v4 v5 v6
    refine setDev_kept (sub hm) ?_
    exact h3
  · rename_i v7 v8
    beta_reduce
    refine setDev_kept (sub hm) ?_
    refine fset_kept (sub hm) ?_
    refine cnt_kept (sub hm) ?_
    refine keepAlwaysOn_kept (sub hm) ?_
    refine finishCopy_kept (sub hm) ?_
    refine resetSafe_kept (sub hm) ?_
    exact h3

theorem deviceReset_kept {α : Type} {m : State → α} (hm : ∀ u, m u = m { u with regs := [], evq := [], out := [], msix := [], msixPend := 0, msixMask := false, disc := {}, ends := [], lanes := [], links := [], recs := [], engs := [], ustore := [], nstore := [], dmem := [], pgs := [], loops := [], heads := [], spin := {}, sleds := [], chans := [], commons := [], frames := [], blanks := [], dec := {}, encoded := [], opcs := [], betas := [], mem := {}, lanesC := [], claims := [], cl := {}, port := {}, vault := {}, pwr := {}, dev := {}, obs := {} })
    {s0 s : State} {a0 a1} (h : Kept m s0 s) :
    Kept m s0 (deviceReset a0 a1 s) := by
  unfold deviceReset
  refine ite_kept (P := fun x => Kept m s0 x) ?_ ?_
  · refine warmReset_kept (sub hm) ?_
    exact h
  · refine sticky_kept (sub hm) ?_
    exact h

theorem recoveryWrite_kept {α : Type} {m : State → α} (hm : ∀ u, m u = m { u with regs := [], dev := {} })
    {s0 s : State} {a0} (h : Kept m s0 s) :
    Kept m s0 (recoveryWrite a0 s) := by
  unfold recoveryWrite
  extract_lets +onlyGivenNames x1
  clear_value x1
  extract_lets +onlyGivenNames x2
  clear_value x2
  refine ite_kept (P := fun x => Kept m s0 x) ?_ ?_
  · refine sticky_kept (sub hm) ?_
    exact h
  · refine fset_kept (sub hm) ?_
    refine fset_kept (sub hm) ?_
    refine flashStore_kept (sub hm) ?_
    refine ite_app_kept (P := fun x => Kept m s0 x) ?_ ?_
    · refine flashErase_kept (sub hm) ?_
      exact h
    · refine id_kept (P := fun x => Kept m s0 x) ?_
      exact h

theorem devWrite_kept {α : Type} {m : State → α} (hm : ∀ u, m u = m { u with regs := [], evq := [], out := [], msix := [], msixPend := 0, msixMask := false, disc := {}, ends := [], lanes := [], links := [], recs := [], engs := [], ustore := [], nstore := [], dmem := [], pgs := [], loops := [], heads := [], spin := {}, sleds := [], chans := [], commons := [], frames := [], blanks := [], dec := {}, encoded := [], opcs := [], betas := [], mem := {}, lanesC := [], claims := [], cl := {}, port := {}, vault := {}, pwr := {}, dev := {}, obs := {} })
    {s0 s : State} {a0 a1 a2} (h : Kept m s0 s) :
    Kept m s0 (devWrite a0 a1 a2 s) := by
  unfold devWrite
  refine ite_kept (P := fun x => Kept m s0 x) ?_ ?_
  · refine ite_kept (P := fun x => Kept m s0 x) ?_ ?_
    · refine deviceReset_kept (sub hm) ?_
      exact h
    · exact h
  · refine ite_kept (P := fun x => Kept m s0 x) ?_ ?_
    · refine ite_kept (P := fun x => Kept m s0 x) ?_ ?_
      · refine kickWatchdog_kept (sub hm) ?_
        exact h
      · exact h
    · refine ite_kept (P := fun x => Kept m s0 x) ?_ ?_
      · refine recoveryWrite_kept (sub hm) ?_
        exact h
      · extract_lets +onlyGivenNames x1
        have h2 : Kept m s0 x1 := by
          unfold x1
          refine regWrite_kept (sub hm) ?_
          exact h
        clear_value x1
        refine ite_kept (P := fun x => Kept m s0 x) ?_ ?_
        · refine bootCtlGo_kept (sub hm) ?_
          exact h2
        · exact h2

theorem readLog_kept {α : Type} {m : State → α} (hm : ∀ u, m u = m { u with regs := [] })
    {s0 s : State} {a0} (h : Kept m s0 s) :
    Kept m s0 (readLog a0 s) := by
  unfold readLog
  extract_lets +onlyGivenNames x1
  clear_value x1
  extract_lets +onlyGivenNames x2
  have h3 : ∀ y4 y5, Kept m s0 y5 → Kept m s0 (x2 y4 y5) := by
    intro y4 y5 k6
    unfold x2
    refine foldl_kept (P := fun x => Kept m s0 x) ?_ ?_
    · intro y7 y8 y9
      refine fset_kept (sub hm) ?_
      exact y9
    · exact k6
  clear_value x2
  extract_lets +onlyGivenNames x10
  have h11 : Kept m s0 x10 := by
    unfold x10
    refine fset_kept (sub hm) ?_
    refine fset_kept (sub hm) ?_
    exact h
  clear_value x10
  refine ite_kept (P := fun x => Kept m s0 x) ?_ ?_
  · extract_lets +onlyGivenNames x12
    clear_value x12
    refine fsetB_kept (sub hm) ?_
    refine fset_kept (sub hm) ?_
    refine h3 _ _ ?_
    exact h11
  · refine fset_kept (sub hm) ?_
    refine fset_kept (sub hm) ?_
    refine h3 _ _ ?_
    exact h11

theorem postEvent_kept {α : Type} {m : State → α} (hm : ∀ u, m u = m { u with regs := [], evq := [] })
    {s0 s : State} {a0} (h : Kept m s0 s) :
    Kept m s0 (postEvent a0 s) := by
  unfold postEvent
  extract_lets +onlyGivenNames x1
  clear_value x1
  refine ite_kept (P := fun x => Kept m s0 x) ?_ ?_
  · refine sticky_kept (sub hm) ?_
    exact h
  · extract_lets +onlyGivenNames x2
    clear_value x2
    refine Kept.with hm ?_
    exact h

theorem evrWrite_kept {α : Type} {m : State → α} (hm : ∀ u, m u = m { u with regs := [], evq := [], out := [], msixPend := 0 })
    {s0 s : State} {a0 a1 a2} (h : Kept m s0 s) :
    Kept m s0 (evrWrite a0 a1 a2 s) := by
  unfold evrWrite
  refine ite_kept (P := fun x => Kept m s0 x) ?_ ?_
  · refine readLog_kept (sub hm) ?_
    exact h
  · refine ite_kept (P := fun x => Kept m s0 x) ?_ ?_
    · refine ite_kept (P := fun x => Kept m s0 x) ?_ ?_
      · refine postEvent_kept (sub hm) ?_
        exact h
      · exact h
    · refine regWrite_kept (sub hm) ?_
      exact h

theorem seedTags_kept {α : Type} {m : State → α} (hm : ∀ u, m u = m { u with cl := {} })
    {s0 s : State} {a0} (h : Kept m s0 s) :
    Kept m s0 (seedTags a0 s) := by
  unfold seedTags
  refine setCl_kept (sub hm) ?_
  exact h

theorem popRecord_kept {α : Type} {m : State → α} (hm : ∀ u, m u = m { u with regs := [], cl := {} })
    {s0 s : State} (h : Kept m s0 s) :
    Kept m s0 (popRecord s) := by
  unfold popRecord
  extract_lets +onlyGivenNames x1
  clear_value x1
  extract_lets +onlyGivenNames x2
  clear_value x2
  split
  · rename_i v3 v4 v5
    refine fset_kept (sub hm) ?_
    refine fset_kept (sub hm) ?_
    refine fset_kept (sub hm) ?_
    refine setCl_kept (sub hm) ?_
    exact h
  · rename_i v6 v7
    exact h

theorem writeVal_kept {α : Type} {m : State → α} (hm : ∀ u, m u = m { u with regs := [] })
    {s0 s : State} {a0 a1} (h : Kept m s0 s) :
    Kept m s0 (writeVal a0 a1 s) := by
  unfold writeVal
  refine fset_kept (sub hm) ?_
  exact h

theorem pmcWrite_kept {α : Type} {m : State → α} (hm : ∀ u, m u = m { u with regs := [], out := [], msixPend := 0, cl := {} })
    {s0 s : State} {a0 a1} (h : Kept m s0 s) :
    Kept m s0 (pmcWrite a0 a1 s) := by
  unfold pmcWrite
  refine ite_kept (P := fun x => Kept m s0 x) ?_ ?_
  · refine seedTags_kept (sub hm) ?_
    exact h
  · refine ite_kept (P := fun x => Kept m s0 x) ?_ ?_
    · refine ite_kept (P := fun x => Kept m s0 x) ?_ ?_
      · refine popRecord_kept (sub hm) ?_
        exact h
      · exact h
    · refine ite_kept (P := fun x => Kept m s0 x) ?_ ?_
      · refine writeVal_kept (sub hm) ?_
        exact h
      · refine regWrite_kept (sub hm) ?_
        exact h

theorem semRelease_kept {α : Type} {m : State → α} (hm : ∀ u, m u = m { u with regs := [], claims := [] })
    {s0 s : State} {a0 a1} (h : Kept m s0 s) :
    Kept m s0 (semRelease a0 a1 s) := by
  unfold semRelease
  refine ite_kept (P := fun x => Kept m s0 x) ?_ ?_
  · refine showSem_kept (sub hm) ?_
    refine releaseClaim_kept (sub hm) ?_
    exact h
  · refine sticky_kept (sub hm) ?_
    exact h

theorem semForce_kept {α : Type} {m : State → α} (hm : ∀ u, m u = m { u with regs := [], evq := [], claims := [] })
    {s0 s : State} {a0 a1} (h : Kept m s0 s) :
    Kept m s0 (semForce a0 a1 s) := by
  unfold semForce
  split
  · rename_i v1 v2 v3
    refine emit_kept (sub hm) ?_
    refine showSem_kept (sub hm) ?_
    refine releaseClaim_kept (sub hm) ?_
    exact h
  · rename_i v4 v5
    exact h

theorem semWrite_kept {α : Type} {m : State → α} (hm : ∀ u, m u = m { u with regs := [], evq := [], out := [], msixPend := 0, claims := [] })
    {s0 s : State} {a0 a1 a2} (h : Kept m s0 s) :
    Kept m s0 (semWrite a0 a1 a2 s) := by
  unfold semWrite
  refine ite_kept (P := fun x => Kept m s0 x) ?_ ?_
  · refine ite_kept (P := fun x => Kept m s0 x) ?_ ?_
    · refine semRelease_kept (sub hm) ?_
      exact h
    · exact h
  · refine ite_kept (P := fun x => Kept m s0 x) ?_ ?_
    · refine ite_kept (P := fun x => Kept m s0 x) ?_ ?_
      · refine semForce_kept (sub hm) ?_
        exact h
      · exact h
    · refine regWrite_kept (sub hm) ?_
      exact h

theorem tripBoth_kept {α : Type} {m : State → α} (hm : ∀ u, m u = m { u with regs := [], evq := [], out := [], msixPend := 0, links := [], recs := [] })
    {s0 s : State} (h : Kept m s0 s) :
    Kept m s0 (tripBoth s) := by
  unfold tripBoth
  refine tripHead_kept (sub hm) ?_
  refine tripHead_kept (sub hm) ?_
  exact h

theorem drawChains_kept {α : Type} {m : State → α} (hm : ∀ u, m u = m { u with free := 0, regs := [], obs := {} })
    {s0 s : State} {a0} (h : Kept m s0 s) :
    Kept m s0 (drawChains a0 s) := by
  induction a0 generalizing s with
  | zero => exact h
  | succ n ih =>
    unfold drawChains
    refine withFree_kept (sub hm) (fun len t ht => ?_) h
    refine withFree_kept (sub hm) (fun bits u hu => ?_) ht
    exact ih (setObs_kept (sub hm) (fset_kept (sub hm) hu))

theorem freeze_kept {α : Type} {m : State → α} (hm : ∀ u, m u = m { u with free := 0, regs := [], evq := [], out := [], msixPend := 0, links := [], recs := [], spin := {}, sleds := [], vault := {}, pwr := {}, obs := {} })
    {s0 s : State} {a0} (h : Kept m s0 s) :
    Kept m s0 (freeze a0 s) := by
  unfold freeze
  extract_lets +onlyGivenNames x1
  clear_value x1
  extract_lets +onlyGivenNames x2
  have h3 : Kept m s0 x2 := by
    unfold x2
    refine ite_kept (P := fun x => Kept m s0 x) ?_ ?_
    · refine fset_kept (sub hm) ?_
      exact h
    · exact h
  clear_value x2
  refine ite_kept (P := fun x => Kept m s0 x) ?_ ?_
  · exact h3
  · extract_lets +onlyGivenNames x4
    have h5 : Kept m s0 x4 := by
      unfold x4
      refine fset_kept (sub hm) ?_
      refine fset_kept (sub hm) ?_
      refine motorsSafe_kept (sub hm) ?_
      refine zeroiseKey_kept (sub hm) ?_
      refine vaultAbandon_kept (sub hm) ?_
      refine tripBoth_kept (sub hm) ?_
      exact h3
    clear_value x4
    extract_lets +onlyGivenNames x6
    clear_value x6
    extract_lets +onlyGivenNames x7
    have h8 : Kept m s0 x7 := by
      unfold x7
      refine fset_kept (sub hm) ?_
      refine raise_kept (sub hm) ?_
      refine cnt_kept (sub hm) ?_
      refine fset_kept (sub hm) ?_
      refine fset_kept (sub hm) ?_
      refine fset_kept (sub hm) ?_
      refine fset64_kept (sub hm) ?_
      refine drawChains_kept (sub hm) ?_
      refine setObs_kept (sub hm) ?_
      exact h5
    clear_value x7
    refine emit_kept (sub hm) ?_
    exact h8

theorem unfrozen_kept {α : Type} {m : State → α} (hm : ∀ u, m u = m { u with regs := [], obs := {} })
    {s0 s : State} (h : Kept m s0 s) :
    Kept m s0 (unfrozen s) := by
  unfold unfrozen
  extract_lets +onlyGivenNames x1
  clear_value x1
  refine fset_kept (sub hm) ?_
  refine foldl_kept (P := fun x => Kept m s0 x) ?_ ?_
  · intro y2 y3 y4
    refine fset_kept (sub hm) ?_
    exact y4
  · refine setObs_kept (sub hm) ?_
    refine fset_kept (sub hm) ?_
    refine fset_kept (sub hm) ?_
    exact h

theorem motorsResume_kept {α : Type} {m : State → α} (hm : ∀ u, m u = m { u with regs := [], spin := {}, sleds := [], pwr := {} })
    {s0 s : State} (h : Kept m s0 s) :
    Kept m s0 (motorsResume s) := by
  unfold motorsResume
  extract_lets +onlyGivenNames x1
  clear_value x1
  extract_lets +onlyGivenNames x2
  clear_value x2
  extract_lets +onlyGivenNames x3
  have h4 : Kept m s0 x3 := by
    unfold x3
    refine Kept.with hm ?_
    exact h
  clear_value x3
  refine homeStart_kept (sub hm) ?_
  refine homeStart_kept (sub hm) ?_
  refine ite_app_kept (P := fun x => Kept m s0 x) ?_ ?_
  · refine startSpin_kept (sub hm) ?_
    exact h4
  · refine id_kept (P := fun x => Kept m s0 x) ?_
    exact h4

theorem release_kept {α : Type} {m : State → α} (hm : ∀ u, m u = m { u with regs := [], evq := [], out := [], msixPend := 0, loops := [], heads := [], spin := {}, sleds := [], vault := {}, pwr := {}, obs := {} })
    {s0 s : State} (h : Kept m s0 s) :
    Kept m s0 (release s) := by
  unfold release
  extract_lets +onlyGivenNames x1
  clear_value x1
  extract_lets +onlyGivenNames x2
  have h3 : Kept m s0 x2 := by
    unfold x2
    refine unfrozen_kept (sub hm) ?_
    exact h
  clear_value x2
  refine emit_kept (sub hm) ?_
  refine raise_kept (sub hm) ?_
  refine keyDecision_kept (sub hm) ?_
  refine motorsResume_kept (sub hm) ?_
  refine lostFeedback_kept (sub hm) ?_
  refine lostFeedback_kept (sub hm) ?_
  exact h3

theorem execStillRelease_kept {α : Type} {m : State → α} (hm : ∀ u, m u = m { u with regs := [], evq := [], out := [], msixPend := 0, lanes := [], links := [], ustore := [], nstore := [], loops := [], heads := [], spin := {}, sleds := [], vault := {}, pwr := {}, dev := {}, obs := {} })
    {s0 s : State} {a0} (h : Kept m s0 s) :
    KeptR m s0 (execStillRelease a0 s) := by
  unfold execStillRelease
  extract_lets +onlyGivenNames x1
  clear_value x1
  extract_lets +onlyGivenNames x2
  have h3 : Kept m s0 x2 := by
    unfold x2
    refine ite_kept (P := fun x => Kept m s0 x) ?_ ?_
    · refine fset_kept (sub hm) ?_
      exact h
    · exact h
  clear_value x2
  refine KeptR.next ?_
  refine ite_kept (P := fun x => Kept m s0 x) ?_ ?_
  · split
    · rename_i v4 v5 v6
      refine boot_kept (sub hm) ?_
      beta_reduce
      refine setDev_kept (sub hm) ?_
      refine unfrozen_kept (sub hm) ?_
      exact h3
    · rename_i v7 v8
      refine release_kept (sub hm) ?_
      exact h3
  · exact h3

theorem stlWrite_kept {α : Type} {m : State → α} (hm : ∀ u, m u = m { u with free := 0, regs := [], evq := [], out := [], msixPend := 0, lanes := [], links := [], recs := [], ustore := [], nstore := [], loops := [], heads := [], spin := {}, sleds := [], vault := {}, pwr := {}, dev := {}, obs := {} })
    {s0 s : State} {a0 a1} (h : Kept m s0 s) :
    Kept m s0 (stlWrite a0 a1 s) := by
  unfold stlWrite
  refine ite_kept (P := fun x => Kept m s0 x) ?_ ?_
  · extract_lets +onlyGivenNames x1
    have h2 : Kept m s0 x1 := by
      unfold x1
      refine ite_kept (P := fun x => Kept m s0 x) ?_ ?_
      · refine freeze_kept (sub hm) ?_
        exact h
      · exact h
    clear_value x1
    refine ite_kept (P := fun x => Kept m s0 x) ?_ ?_
    · refine after_kept ?_ ?_
      · refine execStillRelease_kept (sub hm) ?_
        exact h2
      · exact h2
    · exact h2
  · refine regWrite_kept (sub hm) ?_
    exact h

theorem haltCores_kept {α : Type} {m : State → α} (hm : ∀ u, m u = m { u with regs := [] })
    {s0 s : State} {a0} (h : Kept m s0 s) :
    Kept m s0 (haltCores a0 s) := by
  unfold haltCores
  extract_lets +onlyGivenNames x1
  clear_value x1
  extract_lets +onlyGivenNames x2
  clear_value x2
  extract_lets +onlyGivenNames x3
  clear_value x3
  refine fset_kept (sub hm) ?_
  refine fset_kept (sub hm) ?_
  refine fset_kept (sub hm) ?_
  exact h

theorem pageWrite_kept {α : Type} {m : State → α} (hm : ∀ u, m u = m { u with free := 0, regs := [], evq := [], out := [], msix := [], msixPend := 0, msixMask := false, disc := {}, ends := [], lanes := [], links := [], recs := [], engs := [], ustore := [], nstore := [], dmem := [], pgs := [], loops := [], heads := [], spin := {}, sleds := [], chans := [], commons := [], frames := [], blanks := [], dec := {}, encoded := [], opcs := [], betas := [], mem := {}, lanesC := [], claims := [], cl := {}, port := {}, vault := {}, pwr := {}, dev := {}, obs := {} })
    {s0 s : State} {a0 a1 a2 a3} (h : Kept m s0 s) :
    Kept m s0 (pageWrite a0 a1 a2 a3 s) := by
  unfold pageWrite
  refine ite_kept (P := fun x => Kept m s0 x) ?_ ?_
  · refine regWrite_kept (sub hm) ?_
    exact h
  · refine ite_kept (P := fun x => Kept m s0 x) ?_ ?_
    · refine linkWrite_kept (sub hm) ?_
      exact h
    · refine ite_kept (P := fun x => Kept m s0 x) ?_ ?_
      · refine spnWrite_kept (sub hm) ?_
        exact h
      · refine ite_kept (P := fun x => Kept m s0 x) ?_ ?_
        · refine sldWrite_kept (sub hm) ?_
          exact h
        · refine ite_kept (P := fun x => Kept m s0 x) ?_ ?_
          · refine motWrite_kept (sub hm) ?_
            exact h
          · refine ite_kept (P := fun x => Kept m s0 x) ?_ ?_
            · refine engWrite_kept (sub hm) ?_
              exact h
            · refine ite_kept (P := fun x => Kept m s0 x) ?_ ?_
              · refine chanWrite_kept (sub hm) ?_
                exact h
              · refine ite_kept (P := fun x => Kept m s0 x) ?_ ?_
                · refine crcWrite_kept (sub hm) ?_
                  exact h
                · refine ite_kept (P := fun x => Kept m s0 x) ?_ ?_
                  · refine encWrite_kept (sub hm) ?_
                    exact h
                  · refine ite_kept (P := fun x => Kept m s0 x) ?_ ?_
                    · refine lpwWrite_kept (sub hm) ?_
                      exact h
                    · refine ite_kept (P := fun x => Kept m s0 x) ?_ ?_
                      · refine calWrite_kept (sub hm) ?_
                        exact h
                      · refine ite_kept (P := fun x => Kept m s0 x) ?_ ?_
                        · refine cmpWrite_kept (sub hm) ?_
                          exact h
                        · refine ite_kept (P := fun x => Kept m s0 x) ?_ ?_
                          · refine lchWrite_kept (sub hm) ?_
                            exact h
                          · refine ite_kept (P := fun x => Kept m s0 x) ?_ ?_
                            · refine sbfWrite_kept (sub hm) ?_
                              exact h
                            · refine ite_kept (P := fun x => Kept m s0 x) ?_ ?_
                              · refine vlqWrite_kept (sub hm) ?_
                                exact h
                              · refine ite_kept (P := fun x => Kept m s0 x) ?_ ?_
                                · refine trfWrite_kept (sub hm) ?_
                                  exact h
                                · refine ite_kept (P := fun x => Kept m s0 x) ?_ ?_
                                  · refine cplWrite_kept (sub hm) ?_
                                    exact h
                                  · refine ite_kept (P := fun x => Kept m s0 x) ?_ ?_
                                    · refine erlWrite_kept (sub hm) ?_
                                      exact h
                                    · refine ite_kept (P := fun x => Kept m s0 x) ?_ ?_
                                      · refine usbWrite_kept (sub hm) ?_
                                        exact h
                                      · refine ite_kept (P := fun x => Kept m s0 x) ?_ ?_
                                        · refine sataWrite_kept (sub hm) ?_
                                          exact h
                                        · refine ite_kept (P := fun x => Kept m s0 x) ?_ ?_
                                          · refine mbxWrite_kept (sub hm) ?_
                                            exact h
                                          · refine ite_kept (P := fun x => Kept m s0 x) ?_ ?_
                                            · refine pwrWrite_kept (sub hm) ?_
                                              exact h
                                            · refine ite_kept (P := fun x => Kept m s0 x) ?_ ?_
                                              · refine devWrite_kept (sub hm) ?_
                                                exact h
                                              · refine ite_kept (P := fun x => Kept m s0 x) ?_ ?_
                                                · refine evrWrite_kept (sub hm) ?_
                                                  exact h
                                                · refine ite_kept (P := fun x => Kept m s0 x) ?_ ?_
                                                  · refine pmcWrite_kept (sub hm) ?_
                                                    exact h
                                                  · refine ite_kept (P := fun x => Kept m s0 x) ?_ ?_
                                                    · refine semWrite_kept (sub hm) ?_
                                                      exact h
                                                    · refine ite_kept (P := fun x => Kept m s0 x) ?_ ?_
                                                      · refine stlWrite_kept (sub hm) ?_
                                                        exact h
                                                      · refine ite_kept (P := fun x => Kept m s0 x) ?_ ?_
                                                        · refine haltCores_kept (sub hm) ?_
                                                          exact h
                                                        · refine regWrite_kept (sub hm) ?_
                                                          exact h

theorem writeReg_kept {α : Type} {m : State → α} (hm : ∀ u, m u = m { u with free := 0, regs := [], evq := [], out := [], msix := [], msixPend := 0, msixMask := false, disc := {}, ends := [], lanes := [], links := [], recs := [], engs := [], ustore := [], nstore := [], dmem := [], pgs := [], loops := [], heads := [], spin := {}, sleds := [], chans := [], commons := [], frames := [], blanks := [], dec := {}, encoded := [], opcs := [], betas := [], mem := {}, lanesC := [], claims := [], cl := {}, port := {}, vault := {}, pwr := {}, dev := {}, obs := {} })
    {s0 s : State} {a0 a1 a2 a3} (h : Kept m s0 s) :
    Kept m s0 (writeReg a0 a1 a2 a3 s) := by
  unfold writeReg
  extract_lets +onlyGivenNames x1
  have h2 : Kept m s0 x1 := by
    unfold x1
    refine pageWrite_kept (sub hm) ?_
    exact h
  clear_value x1
  refine ite_kept (P := fun x => Kept m s0 x) ?_ ?_
  · refine cntClr_kept (sub hm) ?_
    exact h2
  · exact h2

theorem pairWrite_kept {α : Type} {m : State → α} (hm : ∀ u, m u = m { u with free := 0, regs := [], evq := [], out := [], msix := [], msixPend := 0, msixMask := false, disc := {}, ends := [], lanes := [], links := [], recs := [], engs := [], ustore := [], nstore := [], dmem := [], pgs := [], loops := [], heads := [], spin := {}, sleds := [], chans := [], commons := [], frames := [], blanks := [], dec := {}, encoded := [], opcs := [], betas := [], mem := {}, lanesC := [], claims := [], cl := {}, port := {}, vault := {}, pwr := {}, dev := {}, obs := {} })
    {s0 s : State} {a0 a1 a2 a3 a4} (h : Kept m s0 s) :
    Kept m s0 (pairWrite a0 a1 a2 a3 a4 s) := by
  unfold pairWrite
  extract_lets +onlyGivenNames x1
  clear_value x1
  extract_lets +onlyGivenNames x2
  clear_value x2
  refine ite_kept (P := fun x => Kept m s0 x) ?_ ?_
  · extract_lets +onlyGivenNames x3
    clear_value x3
    extract_lets +onlyGivenNames x4
    clear_value x4
    extract_lets +onlyGivenNames x5
    clear_value x5
    refine ite_kept (P := fun x => Kept m s0 x) ?_ ?_
    · refine pgSetTarget_kept (sub hm) ?_
      exact h
    · refine ite_kept (P := fun x => Kept m s0 x) ?_ ?_
      · refine pgSetLimit_kept (sub hm) ?_
        exact h
      · refine ite_kept (P := fun x => Kept m s0 x) ?_ ?_
        · refine pgSetLimit_kept (sub hm) ?_
          exact h
        · refine pgSetLimit_kept (sub hm) ?_
          exact h
  · extract_lets +onlyGivenNames x6
    have h7 : Kept m s0 x6 := by
      unfold x6
      split
      · rename_i v8 v9
        refine writeReg_kept (sub hm) ?_
        exact h
      · rename_i v10
        exact h
    clear_value x6
    split
    · rename_i v11 v12
      refine writeReg_kept (sub hm) ?_
      exact h7
    · rename_i v13
      exact h7

theorem setLoHeld_kept {α : Type} {m : State → α} (hm : ∀ u, m u = m { u with obs := {} })
    {s0 s : State} {a0} (h : Kept m s0 s) :
    Kept m s0 (setLoHeld a0 s) := by
  unfold setLoHeld
  refine Kept.with hm ?_
  exact h

theorem commitLo_kept {α : Type} {m : State → α} (hm : ∀ u, m u = m { u with free := 0, regs := [], evq := [], out := [], msix := [], msixPend := 0, msixMask := false, disc := {}, ends := [], lanes := [], links := [], recs := [], engs := [], ustore := [], nstore := [], dmem := [], pgs := [], loops := [], heads := [], spin := {}, sleds := [], chans := [], commons := [], frames := [], blanks := [], dec := {}, encoded := [], opcs := [], betas := [], mem := {}, lanesC := [], claims := [], cl := {}, port := {}, vault := {}, pwr := {}, dev := {}, obs := {} })
    {s0 s : State} {a0} (h : Kept m s0 s) :
    Kept m s0 (commitLo a0 s) := by
  unfold commitLo
  split
  · rename_i v1 v2 v3 v4
    refine pairWrite_kept (sub hm) ?_
    refine setLoHeld_kept (sub hm) ?_
    exact h
  · rename_i v5 v6
    exact h

theorem jobError_kept {α : Type} {m : State → α} (hm : ∀ u, m u = m { u with regs := [], evq := [], out := [], msixPend := 0 })
    {s0 s : State} {a0 a1} (h : Kept m s0 s) :
    Kept m s0 (jobError a0 a1 s) := by
  unfold jobError
  extract_lets +onlyGivenNames x1
  clear_value x1
  extract_lets +onlyGivenNames x2
  clear_value x2
  refine emit_kept (sub hm) ?_
  refine fset_kept (sub hm) ?_
  refine cnt_kept (sub hm) ?_
  refine fset_kept (sub hm) ?_
  refine raise_kept (sub hm) ?_
  refine fset_kept (sub hm) ?_
  refine fset_kept (sub hm) ?_
  refine fault_kept (sub hm) ?_
  refine setLaneState_kept (sub hm) ?_
  exact h

theorem verifyMismatch_kept {α : Type} {m : State → α} (hm : ∀ u, m u = m { u with regs := [], evq := [], out := [], msixPend := 0 })
    {s0 s : State} {a0} (h : Kept m s0 s) :
    Kept m s0 (verifyMismatch a0 s) := by
  unfold verifyMismatch
  extract_lets +onlyGivenNames x1
  clear_value x1
  refine emit_kept (sub hm) ?_
  refine fset_kept (sub hm) ?_
  refine fset_kept (sub hm) ?_
  refine cnt_kept (sub hm) ?_
  refine cnt_kept (sub hm) ?_
  refine raise_kept (sub hm) ?_
  refine fault_kept (sub hm) ?_
  refine setLaneState_kept (sub hm) ?_
  exact h

theorem legWrite_kept {α : Type} {m : State → α} (hm : ∀ u, m u = m { u with regs := [], out := [], msixPend := 0, mem := {} })
    {s0 s : State} {a0 a1} (h : Kept m s0 s) :
    KeptO m s0 (legWrite a0 a1 s) := by
  unfold legWrite
  extract_lets +onlyGivenNames x1
  clear_value x1
  extract_lets +onlyGivenNames x2
  clear_value x2
  extract_lets +onlyGivenNames x3
  clear_value x3
  extract_lets +onlyGivenNames x4
  clear_value x4
  extract_lets +onlyGivenNames x5
  clear_value x5
  extract_lets +onlyGivenNames x6
  clear_value x6
  refine KeptO.bind ?_ ?_
  · refine bufWrite_kept (sub hm) ?_
    exact h
  · intro y7 y8
    refine KeptO.map ?_ ?_
    · refine bufWrite_kept (sub hm) ?_
      exact y8
    · intro y9 y10
      extract_lets +onlyGivenNames x11
      have h12 : Kept m s0 x11 := by
        unfold x11
        refine cnt64_kept (sub hm) ?_
        refine fset_kept (sub hm) ?_
        refine fset_kept (sub hm) ?_
        refine fset_kept (sub hm) ?_
        exact y10
      clear_value x11
      refine ite_kept (P := fun x => Kept m s0 x) ?_ ?_
      · refine raise_kept (sub hm) ?_
        exact h12
      · exact h12

theorem laneStop_kept {α : Type} {m : State → α} (hm : ∀ u, m u = m { u with regs := [], evq := [], out := [], msixPend := 0 })
    {s0 s : State} {a0 a1} (h : Kept m s0 s) :
    Kept m s0 (laneStop a0 a1 s) := by
  unfold laneStop
  extract_lets +onlyGivenNames x1
  clear_value x1
  extract_lets +onlyGivenNames x2
  have h3 : Kept m s0 x2 := by
    unfold x2
    refine fset_kept (sub hm) ?_
    refine raise_kept (sub hm) ?_
    refine setLaneState_kept (sub hm) ?_
    exact h
  clear_value x2
  refine emit_kept (sub hm) ?_
  exact h3

theorem recordOut_kept {α : Type} {m : State → α} (hm : ∀ u, m u = m { u with regs := [], evq := [], out := [], msixPend := 0, mem := {}, lanesC := [] })
    {s0 s : State} {a0 a1 a2 a3} (hf0 : ∀ y0, Kept m s0 y0 → Kept m s0 (a3 y0)) (h : Kept m s0 s) :
    Kept m s0 (recordOut a0 a1 a2 a3 s) := by
  unfold recordOut
  extract_lets +onlyGivenNames x1
  clear_value x1
  extract_lets +onlyGivenNames x2
  clear_value x2
  split
  · rename_i v3 v4
    refine jobError_kept (sub hm) ?_
    exact h
  · rename_i v6 v7 v8
    have h9 : Kept m s0 v7 := by
      refine (?_ : KeptO m s0 _) _ v8
      refine legWrite_kept (sub hm) ?_
      exact h
    refine ite_kept (P := fun x => Kept m s0 x) ?_ ?_
    · refine laneStop_kept (sub hm) ?_
      refine setCjob_kept (sub hm) ?_
      exact h9
    · refine hf0 _ ?_
      exact h9

theorem takeInput_kept {α : Type} {m : State → α} (hm : ∀ u, m u = m { u with regs := [], out := [], msixPend := 0 })
    {s0 s : State} {a0 a1} (h : Kept m s0 s) :
    Kept m s0 (takeInput a0 a1 s) := by
  unfold takeInput
  extract_lets +onlyGivenNames x1
  clear_value x1
  refine ite_app_kept (P := fun x => Kept m s0 x) ?_ ?_
  · refine id_kept (P := fun x => Kept m s0 x) ?_
    refine cnt64_kept (sub hm) ?_
    exact h
  · refine pmc_kept (sub hm) ?_
    refine cnt64_kept (sub hm) ?_
    exact h

theorem compressRecord_kept {α : Type} {m : State → α} (hm : ∀ u, m u = m { u with regs := [], evq := [], out := [], msixPend := 0, mem := {}, lanesC := [] })
    {s0 s : State} {a0 a1 a2} (h : Kept m s0 s) :
    Kept m s0 (compressRecord a0 a1 a2 s) := by
  unfold compressRecord
  extract_lets +onlyGivenNames x1
  clear_value x1
  extract_lets +onlyGivenNames x2
  clear_value x2
  extract_lets +onlyGivenNames x3
  clear_value x3
  extract_lets +onlyGivenNames x4
  clear_value x4
  refine ite_kept (P := fun x => Kept m s0 x) ?_ ?_
  · exact h
  · split
    · rename_i v5 v6
      refine jobError_kept (sub hm) ?_
      exact h
    · rename_i v7 v8 v9
      refine ite_kept (P := fun x => Kept m s0 x) ?_ ?_
      · refine verifyMismatch_kept (sub hm) ?_
        exact h
      · extract_lets +onlyGivenNames x10
        extract_lets +onlyGivenNames x11
        clear_value x11
        extract_lets +onlyGivenNames x12
        clear_value x12
        refine recordOut_kept (sub hm) ?_ ?_
        · intro y13 y14
          refine ite_app_kept (P := fun x => Kept m s0 x) ?_ ?_
          · refine cnt_kept (sub hm) ?_
            refine fset_kept (sub hm) ?_
            refine fset_kept (sub hm) ?_
            refine fset_kept (sub hm) ?_
            refine setCjob_kept (sub hm) ?_
            refine takeInput_kept (sub hm) ?_
            exact y14
          · refine id_kept (P := fun x => Kept m s0 x) ?_
            refine fset_kept (sub hm) ?_
            refine fset_kept (sub hm) ?_
            refine fset_kept (sub hm) ?_
            refine setCjob_kept (sub hm) ?_
            refine takeInput_kept (sub hm) ?_
            exact y14
        · exact h

theorem compressedArrived_kept {α : Type} {m : State → α} (hm : ∀ u, m u = m { u with regs := [], evq := [], out := [], msixPend := 0, disc := {}, dec := {}, encoded := [], mem := {}, lanesC := [], cl := {} })
    {s0 s : State} {a0 a1 a2 a3} (h : Kept m s0 s) :
    Kept m s0 (compressedArrived a0 a1 a2 a3 s) := by
  unfold compressedArrived
  split
  · rename_i v1 v2 v3 v4 v5 v6
    refine ite_kept (P := fun x => Kept m s0 x) ?_ ?_
    · exact h
    · split
      · rename_i v7 v8 v9 v10
        extract_lets +onlyGivenNames x11
        clear_value x11
        refine ite_kept (P := fun x => Kept m s0 x) ?_ ?_
        · refine stopCmd_kept (sub hm) ?_
          refine tookData_kept (sub hm) ?_
          exact h
        · refine modCmd_kept (sub hm) ?_
          refine placeAt_kept (sub hm) ?_
          refine setStrm_kept (sub hm) ?_
          refine tookData_kept (sub hm) ?_
          exact h
  · rename_i v12 v13 v14
    refine stopCmd_kept (sub hm) ?_
    exact h
  · rename_i v15 v16 v17 v18
    exact h

theorem coreReads_kept {α : Type} {m : State → α} (hm : ∀ u, m u = m { u with regs := [] })
    {s0 s : State} {a0} (h : Kept m s0 s) :
    Kept m s0 (coreReads a0 s) := by
  unfold coreReads
  refine fmin_kept (sub hm) ?_
  refine fset_kept (sub hm) ?_
  exact h

theorem countCw_kept {α : Type} {m : State → α} (hm : ∀ u, m u = m { u with regs := [], out := [], msixPend := 0 })
    {s0 s : State} {a0} (h : Kept m s0 s) :
    Kept m s0 (countCw a0 s) := by
  unfold countCw
  extract_lets +onlyGivenNames x1
  have h2 : Kept m s0 x1 := by
    unfold x1
    refine ite_app_kept (P := fun x => Kept m s0 x) ?_ ?_
    · refine sticky_kept (sub hm) ?_
      refine pmc_kept (sub hm) ?_
      refine cnt64_kept (sub hm) ?_
      exact h
    · refine id_kept (P := fun x => Kept m s0 x) ?_
      refine pmc_kept (sub hm) ?_
      refine cnt64_kept (sub hm) ?_
      exact h
  clear_value x1
  refine ite_kept (P := fun x => Kept m s0 x) ?_ ?_
  · refine fmax_kept (sub hm) ?_
    exact h2
  · refine cnt_kept (sub hm) ?_
    exact h2

theorem crossTick_kept {α : Type} {m : State → α} (hm : ∀ u, m u = m { u with regs := [], loops := [] })
    {s0 s : State} {a0} (h : Kept m s0 s) :
    Kept m s0 (crossTick a0 s).1 := by
  unfold crossTick
  extract_lets +onlyGivenNames x1
  clear_value x1
  extract_lets +onlyGivenNames x2
  clear_value x2
  extract_lets +onlyGivenNames x3
  clear_value x3
  extract_lets +onlyGivenNames x4
  clear_value x4
  extract_lets +onlyGivenNames x5
  clear_value x5
  extract_lets +onlyGivenNames x6
  clear_value x6
  refine fst_kept (P := fun x => Kept m s0 x) ?_
  refine fset_kept (sub hm) ?_
  refine setLoop_kept (sub hm) ?_
  exact h

theorem putMicro_kept {α : Type} {m : State → α} (hm : ∀ u, m u = m { u with ustore := [] })
    {s0 s : State} {a0 a1 a2} (h : Kept m s0 s) :
    Kept m s0 (putMicro a0 a1 a2 s) := by
  unfold putMicro
  refine Kept.with hm ?_
  exact h

theorem customerWrite_kept {α : Type} {m : State → α} (hm : ∀ u, m u = m { u with regs := [], out := [], msixPend := 0, ustore := [] })
    {s0 s : State} {a0 a1 a2} (h : Kept m s0 s) :
    Kept m s0 (customerWrite a0 a1 a2 s) := by
  unfold customerWrite
  extract_lets +onlyGivenNames x1
  clear_value x1
  refine ite_kept (P := fun x => Kept m s0 x) ?_ ?_
  · refine raise_kept (sub hm) ?_
    refine sticky_kept (sub hm) ?_
    exact h
  · refine putMicro_kept (sub hm) ?_
    exact h

theorem refuse_kept {α : Type} {m : State → α}
    {s0 s : State} {a0} (h : Kept m s0 s) :
    Kept m s0 (refuse a0 s).2.2 := by
  unfold refuse
  refine snd_kept (P := fun (x : _ × _) => Kept m s0 x.2) ?_
  refine snd_kept (P := fun x => Kept m s0 x) ?_
  exact h

theorem perform_kept {α : Type} {m : State → α} (hm : ∀ u, m u = m { u with vault := {} })
    {s0 s : State} {a0 a1} (hf0 : ∀ y0 y1 y2, Kept m s0 y2 → Kept m s0 (a1 y0 y1 y2).2.2) (h : Kept m s0 s) :
    Kept m s0 (perform a0 a1 s) := by
  unfold perform
  split
  · rename_i v1 v2
    exact h
  · rename_i v3 v4 v5 v6
    extract_lets +onlyGivenNames x7
    clear_value x7
    extract_lets +onlyGivenNames x8
    have h9 : Kept m s0 x8.2.2 := by
      unfold x8
      refine ite_kept (P := fun (x : _ × _ × _) => Kept m s0 x.2.2) ?_ ?_
      · refine refuse_kept ?_
        exact h
      · refine ite_kept (P := fun (x : _ × _ × _) => Kept m s0 x.2.2) ?_ ?_
        · refine refuse_kept ?_
          exact h
        · refine hf0 _ _ _ ?_
          exact h
    clear_value x8
    extract_lets +onlyGivenNames x10
    have h11 : Kept m s0 x10 := by
      unfold x10
      exact h9
    clear_value x10
    extract_lets +onlyGivenNames x12
    clear_value x12
    refine setVault_kept (sub hm) ?_
    exact h11

theorem cutShort_kept {α : Type} {m : State → α} (hm : ∀ u, m u = m { u with regs := [], vault := {} })
    {s0 s : State} {a0 a1 a2} (hf0 : ∀ y0 y1 y2, Kept m s0 y2 → Kept m s0 (a1 y0 y1 y2).2.2) (hf1 : ∀ y0 y1, Kept m s0 y1 → Kept m s0 (a2 y0 y1)) (h : Kept m s0 s) :
    Kept m s0 (cutShort a0 a1 a2 s) := by
  unfold cutShort
  split
  · rename_i v1 v2
    exact h
  · rename_i v3 v4 v5 v6
    extract_lets +onlyGivenNames x7
    have h8 : Kept m s0 x7 := by
      unfold x7
      refine perform_kept (sub hm) ?_ ?_
      · exact hf0
      · exact h
    clear_value x7
    split
    · rename_i v9 v10 v11 v12 v13 v14
      refine fset_kept (sub hm) ?_
      refine setVault_kept (sub hm) ?_
      refine hf1 _ _ ?_
      exact h
    · rename_i v15 v16
      exact h8

theorem drawKey_kept {α : Type} {m : State → α} (hm : ∀ u, m u = m { u with free := 0 })
    {s0 s : State} {a0} (hf0 : ∀ y0 y1, Kept m s0 y1 → Kept m s0 (a0 y0 y1)) (h : Kept m s0 s) :
    Kept m s0 (drawKey a0 s) := by
  unfold drawKey
  refine withFree_kept (sub hm) ?_ ?_
  · intro y1 y2 y3
    refine withFree_kept (sub hm) ?_ ?_
    · intro y4 y5 y6
      extract_lets +onlyGivenNames x7
      clear_value x7
      extract_lets +onlyGivenNames x8
      clear_value x8
      refine hf0 _ _ ?_
      exact y6
    · exact y3
  · exact h

theorem decideDescr_kept {α : Type} {m : State → α} (hm : ∀ u, m u = m { u with free := 0, regs := [], evq := [], disc := {}, vault := {} })
    {s0 s : State} (h : Kept m s0 s) :
    KeptO m s0 (decideDescr s) := by
  unfold decideDescr
  extract_lets +onlyGivenNames x1
  clear_value x1
  refine ite_kept (P := fun x => KeptO m s0 x) ?_ ?_
  · refine KeptO.some ?_
    refine adoptDescr_kept (sub hm) ?_
    exact h
  · split
    · rename_i v2 v3
      exact KeptO.none
    · rename_i v4 v5 v6 v7
      refine KeptO.some ?_
      refine drawKey_kept (sub hm) ?_ ?_
      · intro y8 y9 y10
        refine adoptDescr_kept (sub hm) ?_
        exact y10
      · exact h

theorem declareStale_kept {α : Type} {m : State → α} (hm : ∀ u, m u = m { u with regs := [], evq := [], out := [], msixPend := 0, links := [], recs := [] })
    {s0 s : State} {a0 a1} (h : Kept m s0 s) :
    Kept m s0 (declareStale a0 a1 s) := by
  unfold declareStale
  refine ite_kept (P := fun x => Kept m s0 x) ?_ ?_
  · exact h
  · extract_lets +onlyGivenNames x1
    clear_value x1
    beta_reduce
    refine ite_kept (P := fun x => Kept m s0 x) ?_ ?_
    · refine emit_kept (sub hm) ?_
      refine tripHead_kept (sub hm) ?_
      refine emit_kept (sub hm) ?_
      refine fset_kept (sub hm) ?_
      refine raise_kept (sub hm) ?_
      refine fset_kept (sub hm) ?_
      exact h
    · refine emit_kept (sub hm) ?_
      refine fset_kept (sub hm) ?_
      refine raise_kept (sub hm) ?_
      refine fset_kept (sub hm) ?_
      exact h

theorem denyWrites_kept {α : Type} {m : State → α} (hm : ∀ u, m u = m { u with regs := [], evq := [], out := [], msixPend := 0, disc := {}, dec := {}, encoded := [], mem := {}, lanesC := [], cl := {} })
    {s0 s : State} (h : Kept m s0 s) :
    Kept m s0 (denyWrites s) := by
  unfold denyWrites
  extract_lets +onlyGivenNames x1
  clear_value x1
  refine foldl_kept (P := fun x => Kept m s0 x) ?_ ?_
  · intro y2 y3 y4
    refine ite_kept (P := fun x => Kept m s0 x) ?_ ?_
    · refine stopCmd_kept (sub hm) ?_
      exact y4
    · exact y4
  · exact h

theorem opTimeTick_kept {α : Type} {m : State → α} (hm : ∀ u, m u = m { u with regs := [] })
    {s0 s : State} (h : Kept m s0 s) :
    Kept m s0 (opTimeTick s) := by
  unfold opTimeTick
  refine ite_kept (P := fun x => Kept m s0 x) ?_ ?_
  · refine fset_kept (sub hm) ?_
    exact h
  · exact h

theorem deviceTick_kept {α : Type} {m : State → α} (hm : ∀ u, m u = m { u with time := 0, regs := [], out := [], msixPend := 0 })
    {s0 s : State} (h : Kept m s0 s) :
    Kept m s0 (deviceTick s) := by
  unfold deviceTick
  refine ite_kept (P := fun x => Kept m s0 x) ?_ ?_
  · exact h
  · extract_lets +onlyGivenNames x1
    clear_value x1
    extract_lets +onlyGivenNames x2
    have h3 : Kept m s0 x2 := by
      unfold x2
      refine pmc_kept (sub hm) ?_
      exact h
    clear_value x2
    extract_lets +onlyGivenNames x4
    have h5 : Kept m s0 x4 := by
      unfold x4
      refine ite_kept (P := fun x => Kept m s0 x) ?_ ?_
      · exact h3
      · refine pmc_kept (sub hm) ?_
        exact h3
    clear_value x4
    refine opTimeTick_kept (sub hm) ?_
    refine Kept.with hm ?_
    exact h5

theorem dmaGo_kept {α : Type} {m : State → α} (hm : ∀ u, m u = m { u with regs := [], evq := [], out := [], msixPend := 0, mem := {}, cl := {}, port := {} })
    {s0 s : State} (h : Kept m s0 s) :
    Kept m s0 (dmaGo s) := by
  unfold dmaGo
  extract_lets +onlyGivenNames x1
  have h2 : Kept m s0 x1 := by
    unfold x1
    refine foldl_kept (P := fun x => Kept m s0 x) ?_ ?_
    · intro y3 y4 y5
      refine transferAll_kept (sub hm) ?_
      exact y5
    · exact h
  clear_value x1
  refine foldl_kept (P := fun x => Kept m s0 x) ?_ ?_
  · intro y6 y7 y8
    refine postWaiting_kept (sub hm) ?_
    exact y8
  · exact h2

theorem mmcCheck_kept {α : Type} {m : State → α} (hm : ∀ u, m u = m { u with regs := [], out := [], port := {} })
    {s0 s : State} {a0 a1 a2 a3} (h : Kept m s0 s) :
    Kept m s0 (mmcCheck a0 a1 a2 a3 s) := by
  unfold mmcCheck
  refine portEnd_kept (sub hm) ?_
  exact h

theorem mmcDisc_kept {α : Type} {m : State → α} (hm : ∀ u, m u = m { u with regs := [], out := [], port := {} })
    {s0 s : State} {a0 a1} (hf0 : ∀ y0, Kept m s0 y0 → Kept m s0 (a1 y0)) (h : Kept m s0 s) :
    Kept m s0 (mmcDisc a0 a1 s) := by
  unfold mmcDisc
  refine ite_kept (P := fun x => Kept m s0 x) ?_ ?_
  · refine hf0 _ ?_
    exact h
  · refine ite_kept (P := fun x => Kept m s0 x) ?_ ?_
    · refine mmcCheck_kept (sub hm) ?_
      exact h
    · refine mmcCheck_kept (sub hm) ?_
      exact h

theorem mmcField_kept {α : Type} {m : State → α} (hm : ∀ u, m u = m { u with regs := [], out := [], port := {} })
    {s0 s : State} {a0} (h : Kept m s0 s) :
    Kept m s0 (mmcField a0 s) := by
  unfold mmcField
  refine mmcCheck_kept (sub hm) ?_
  exact h

theorem mmcGood_kept {α : Type} {m : State → α} (hm : ∀ u, m u = m { u with regs := [], out := [], port := {} })
    {s0 s : State} {a0} (h : Kept m s0 s) :
    Kept m s0 (mmcGood a0 s) := by
  unfold mmcGood
  refine portEnd_kept (sub hm) ?_
  exact h

end Sys2Proof.Machine
end

