-- ==== Sys2Proof/Laws/KeptE.lean ====
section
/-!
SUPPORT. What the operations change and what they keep, part E.
-/
set_option Elab.async false

namespace Sys2Proof.Machine

theorem doCloseTrackSession_kept {α : Type} {m : State → α} (hm : ∀ u, m u = m { u with regs := [], out := [], disc := {}, port := {} })
    {s0 s : State} {a0 a1 a2} (h : Kept m s0 s) :
    Kept m s0 (doCloseTrackSession a0 a1 a2 s) := by
  unfold doCloseTrackSession
  refine mmcDisc_kept (sub hm) ?_ ?_
  · intro y1 y2
    refine ite_kept (P := fun x => Kept m s0 x) ?_ ?_
    · refine mmcField_kept (sub hm) ?_
      exact y2
    · refine ite_kept (P := fun x => Kept m s0 x) ?_ ?_
      · refine mmcGood_kept (sub hm) ?_
        refine setDisc_kept (sub hm) ?_
        exact y2
      · refine mmcGood_kept (sub hm) ?_
        refine fset_kept (sub hm) ?_
        refine setDisc_kept (sub hm) ?_
        exact y2
  · exact h

theorem doFormatUnit_kept {α : Type} {m : State → α} (hm : ∀ u, m u = m { u with regs := [], out := [], port := {} })
    {s0 s : State} {a0 a1 a2} (h : Kept m s0 s) :
    Kept m s0 (doFormatUnit a0 a1 a2 s) := by
  unfold doFormatUnit
  refine mmcDisc_kept (sub hm) ?_ ?_
  · intro y1 y2
    refine ite_kept (P := fun x => Kept m s0 x) ?_ ?_
    · refine mmcGood_kept (sub hm) ?_
      refine fset_kept (sub hm) ?_
      exact y2
    · refine mmcField_kept (sub hm) ?_
      exact y2
  · exact h

theorem mmcReply_kept {α : Type} {m : State → α} (hm : ∀ u, m u = m { u with regs := [], out := [], port := {} })
    {s0 s : State} {a0 a1 a2} (h : Kept m s0 s) :
    Kept m s0 (mmcReply a0 a1 a2 s) := by
  unfold mmcReply
  refine mmcGood_kept (sub hm) ?_
  refine portBytes_kept (sub hm) ?_
  exact h

theorem doGetConfiguration_kept {α : Type} {m : State → α} (hm : ∀ u, m u = m { u with regs := [], out := [], port := {} })
    {s0 s : State} {a0 a1 a2} (h : Kept m s0 s) :
    Kept m s0 (doGetConfiguration a0 a1 a2 s) := by
  unfold doGetConfiguration
  extract_lets +onlyGivenNames x1
  clear_value x1
  extract_lets +onlyGivenNames x2
  clear_value x2
  extract_lets +onlyGivenNames x3
  clear_value x3
  extract_lets +onlyGivenNames x4
  clear_value x4
  refine mmcReply_kept (sub hm) ?_
  exact h

theorem doGetEventStatus_kept {α : Type} {m : State → α} (hm : ∀ u, m u = m { u with regs := [], out := [], port := {} })
    {s0 s : State} {a0 a1 a2} (h : Kept m s0 s) :
    Kept m s0 (doGetEventStatus a0 a1 a2 s) := by
  unfold doGetEventStatus
  extract_lets +onlyGivenNames x1
  clear_value x1
  extract_lets +onlyGivenNames x2
  clear_value x2
  extract_lets +onlyGivenNames x3
  have h4 : ∀ y5 y6 y7, Kept m s0 y7 → Kept m s0 (x3 y5 y6 y7) := by
    intro y5 y6 y7 k8
    unfold x3
    refine mmcReply_kept (sub hm) ?_
    exact k8
  clear_value x3
  refine ite_kept (P := fun x => Kept m s0 x) ?_ ?_
  · refine mmcField_kept (sub hm) ?_
    exact h
  · split
    · rename_i v9 v10 v11 v12 v13 v14
      refine h4 _ _ _ ?_
      refine setPorts_kept (sub hm) ?_
      exact h
    · rename_i v15 v16 v17 v18 v19 v20
      refine h4 _ _ _ ?_
      refine setPorts_kept (sub hm) ?_
      exact h
    · rename_i v21 v22 v23 v24
      refine ite_kept (P := fun x => Kept m s0 x) ?_ ?_
      · refine h4 _ _ _ ?_
        exact h
      · refine ite_kept (P := fun x => Kept m s0 x) ?_ ?_
        · refine h4 _ _ _ ?_
          exact h
        · refine mmcReply_kept (sub hm) ?_
          exact h

theorem doGetPerformance_kept {α : Type} {m : State → α} (hm : ∀ u, m u = m { u with regs := [], out := [], port := {} })
    {s0 s : State} {a0 a1 a2} (h : Kept m s0 s) :
    Kept m s0 (doGetPerformance a0 a1 a2 s) := by
  unfold doGetPerformance
  extract_lets +onlyGivenNames x1
  clear_value x1
  extract_lets +onlyGivenNames x2
  clear_value x2
  refine ite_kept (P := fun x => Kept m s0 x) ?_ ?_
  · refine mmcField_kept (sub hm) ?_
    exact h
  · refine mmcReply_kept (sub hm) ?_
    exact h

theorem doInquiry_kept {α : Type} {m : State → α} (hm : ∀ u, m u = m { u with regs := [], out := [], port := {} })
    {s0 s : State} {a0 a1 a2} (h : Kept m s0 s) :
    Kept m s0 (doInquiry a0 a1 a2 s) := by
  unfold doInquiry
  refine ite_kept (P := fun x => Kept m s0 x) ?_ ?_
  · refine mmcField_kept (sub hm) ?_
    exact h
  · refine mmcReply_kept (sub hm) ?_
    exact h

theorem doMechanismStatus_kept {α : Type} {m : State → α} (hm : ∀ u, m u = m { u with regs := [], out := [], port := {} })
    {s0 s : State} {a0 a1 a2} (h : Kept m s0 s) :
    Kept m s0 (doMechanismStatus a0 a1 a2 s) := by
  unfold doMechanismStatus
  refine mmcReply_kept (sub hm) ?_
  exact h

theorem doModeSelect_kept {α : Type} {m : State → α} (hm : ∀ u, m u = m { u with regs := [], out := [], port := {} })
    {s0 s : State} {a0 a1 a2} (h : Kept m s0 s) :
    Kept m s0 (doModeSelect a0 a1 a2 s) := by
  unfold doModeSelect
  split
  · rename_i v1 v2 v3
    refine mmcGood_kept (sub hm) ?_
    refine setPorts_kept (sub hm) ?_
    exact h
  · rename_i v4 v5
    refine mmcCheck_kept (sub hm) ?_
    exact h

theorem doModeSense_kept {α : Type} {m : State → α} (hm : ∀ u, m u = m { u with regs := [], out := [], port := {} })
    {s0 s : State} {a0 a1 a2} (h : Kept m s0 s) :
    Kept m s0 (doModeSense a0 a1 a2 s) := by
  unfold doModeSense
  extract_lets +onlyGivenNames x1
  clear_value x1
  extract_lets +onlyGivenNames x2
  clear_value x2
  refine ite_kept (P := fun x => Kept m s0 x) ?_ ?_
  · refine mmcField_kept (sub hm) ?_
    exact h
  · extract_lets +onlyGivenNames x3
    clear_value x3
    refine mmcReply_kept (sub hm) ?_
    exact h

theorem doNothing_kept {α : Type} {m : State → α} (hm : ∀ u, m u = m { u with regs := [], out := [], port := {} })
    {s0 s : State} {a0 a1 a2} (h : Kept m s0 s) :
    Kept m s0 (doNothing a0 a1 a2 s) := by
  unfold doNothing
  refine mmcGood_kept (sub hm) ?_
  exact h

theorem doPrevent_kept {α : Type} {m : State → α} (hm : ∀ u, m u = m { u with regs := [], out := [], port := {} })
    {s0 s : State} {a0 a1 a2} (h : Kept m s0 s) :
    Kept m s0 (doPrevent a0 a1 a2 s) := by
  unfold doPrevent
  refine mmcGood_kept (sub hm) ?_
  refine setPorts_kept (sub hm) ?_
  exact h

theorem native_kept {α : Type} {m : State → α} (hm : ∀ u, m u = m { u with regs := [], out := [], msixPend := 0, claims := [], cl := {}, port := {} })
    {s0 s : State} {a0 a1 a2 a3 a4 a5} (hf0 : ∀ y0 y1 y2, Kept m s0 y2 → Kept m s0 (a5 y0 y1 y2)) (h : Kept m s0 s) :
    Kept m s0 (native a0 a1 a2 a3 a4 a5 s) := by
  unfold native
  extract_lets +onlyGivenNames x1
  clear_value x1
  split
  · rename_i v2 v3
    refine mmcCheck_kept (sub hm) ?_
    exact h
  · rename_i v4 v5 v6
    extract_lets +onlyGivenNames x7
    clear_value x7
    refine ite_kept (P := fun x => Kept m s0 x) ?_ ?_
    · extract_lets +onlyGivenNames x8
      have h9 : Kept m s0 x8 := by
        unfold x8
        refine accept_kept (sub hm) ?_
        exact h
      clear_value x8
      split
      · rename_i v10 v11 v12
        refine hf0 _ _ _ ?_
        exact h9
      · rename_i v13 v14
        exact h9
    · refine ite_kept (P := fun x => Kept m s0 x) ?_ ?_
      · refine mmcCheck_kept (sub hm) ?_
        exact h
      · refine ite_kept (P := fun x => Kept m s0 x) ?_ ?_
        · refine mmcField_kept (sub hm) ?_
          exact h
        · refine mmcCheck_kept (sub hm) ?_
          exact h

theorem nativeRange_kept {α : Type} {m : State → α} (hm : ∀ u, m u = m { u with regs := [], evq := [], out := [], msixPend := 0, disc := {}, claims := [], cl := {}, port := {} })
    {s0 s : State} {a0 a1 a2 a3} (h : Kept m s0 s) :
    Kept m s0 (nativeRange a0 a1 a2 a3 s) := by
  unfold nativeRange
  refine ite_kept (P := fun x => Kept m s0 x) ?_ ?_
  · refine mmcGood_kept (sub hm) ?_
    exact h
  · refine native_kept (sub hm) ?_ ?_
    · intro y1 y2 y3 y4
      refine needDisc_kept (sub hm) ?_
      exact y4
    · exact h

theorem doRead10_kept {α : Type} {m : State → α} (hm : ∀ u, m u = m { u with regs := [], evq := [], out := [], msixPend := 0, disc := {}, claims := [], cl := {}, port := {} })
    {s0 s : State} {a0 a1 a2} (h : Kept m s0 s) :
    Kept m s0 (doRead10 a0 a1 a2 s) := by
  unfold doRead10
  refine nativeRange_kept (sub hm) ?_
  exact h

theorem doRead12_kept {α : Type} {m : State → α} (hm : ∀ u, m u = m { u with regs := [], evq := [], out := [], msixPend := 0, disc := {}, claims := [], cl := {}, port := {} })
    {s0 s : State} {a0 a1 a2} (h : Kept m s0 s) :
    Kept m s0 (doRead12 a0 a1 a2 s) := by
  unfold doRead12
  refine nativeRange_kept (sub hm) ?_
  exact h

theorem doReadBufferCapacity_kept {α : Type} {m : State → α} (hm : ∀ u, m u = m { u with regs := [], out := [], port := {} })
    {s0 s : State} {a0 a1 a2} (h : Kept m s0 s) :
    Kept m s0 (doReadBufferCapacity a0 a1 a2 s) := by
  unfold doReadBufferCapacity
  refine mmcReply_kept (sub hm) ?_
  exact h

theorem doReadCapacity_kept {α : Type} {m : State → α} (hm : ∀ u, m u = m { u with regs := [], out := [], port := {} })
    {s0 s : State} {a0 a1 a2} (h : Kept m s0 s) :
    Kept m s0 (doReadCapacity a0 a1 a2 s) := by
  unfold doReadCapacity
  refine mmcDisc_kept (sub hm) ?_ ?_
  · intro y1 y2
    refine mmcReply_kept (sub hm) ?_
    exact y2
  · exact h

theorem doReadCd_kept {α : Type} {m : State → α} (hm : ∀ u, m u = m { u with regs := [], evq := [], out := [], msixPend := 0, disc := {}, claims := [], cl := {}, port := {} })
    {s0 s : State} {a0 a1 a2} (h : Kept m s0 s) :
    Kept m s0 (doReadCd a0 a1 a2 s) := by
  unfold doReadCd
  refine mmcDisc_kept (sub hm) ?_ ?_
  · intro y1 y2
    refine ite_kept (P := fun x => Kept m s0 x) ?_ ?_
    · refine nativeRange_kept (sub hm) ?_
      exact y2
    · refine mmcField_kept (sub hm) ?_
      exact y2
  · exact h

theorem doReadDiscInformation_kept {α : Type} {m : State → α} (hm : ∀ u, m u = m { u with regs := [], out := [], port := {} })
    {s0 s : State} {a0 a1 a2} (h : Kept m s0 s) :
    Kept m s0 (doReadDiscInformation a0 a1 a2 s) := by
  unfold doReadDiscInformation
  refine mmcDisc_kept (sub hm) ?_ ?_
  · intro y1 y2
    refine mmcReply_kept (sub hm) ?_
    exact y2
  · exact h

theorem doReadDiscStructure_kept {α : Type} {m : State → α} (hm : ∀ u, m u = m { u with regs := [], out := [], port := {} })
    {s0 s : State} {a0 a1 a2} (h : Kept m s0 s) :
    Kept m s0 (doReadDiscStructure a0 a1 a2 s) := by
  unfold doReadDiscStructure
  refine mmcDisc_kept (sub hm) ?_ ?_
  · intro y1 y2
    extract_lets +onlyGivenNames x3
    clear_value x3
    extract_lets +onlyGivenNames x4
    clear_value x4
    extract_lets +onlyGivenNames x5
    clear_value x5
    extract_lets +onlyGivenNames x6
    clear_value x6
    refine ite_kept (P := fun x => Kept m s0 x) ?_ ?_
    · refine mmcReply_kept (sub hm) ?_
      exact y2
    · refine ite_kept (P := fun x => Kept m s0 x) ?_ ?_
      · refine mmcReply_kept (sub hm) ?_
        exact y2
      · refine mmcField_kept (sub hm) ?_
        exact y2
  · exact h

theorem doReadFormatCapacities_kept {α : Type} {m : State → α} (hm : ∀ u, m u = m { u with regs := [], out := [], port := {} })
    {s0 s : State} {a0 a1 a2} (h : Kept m s0 s) :
    Kept m s0 (doReadFormatCapacities a0 a1 a2 s) := by
  unfold doReadFormatCapacities
  extract_lets +onlyGivenNames x1
  clear_value x1
  extract_lets +onlyGivenNames x2
  clear_value x2
  refine mmcReply_kept (sub hm) ?_
  exact h

theorem doReadToc_kept {α : Type} {m : State → α} (hm : ∀ u, m u = m { u with regs := [], out := [], port := {} })
    {s0 s : State} {a0 a1 a2} (h : Kept m s0 s) :
    Kept m s0 (doReadToc a0 a1 a2 s) := by
  unfold doReadToc
  refine mmcDisc_kept (sub hm) ?_ ?_
  · intro y1 y2
    extract_lets +onlyGivenNames x3
    clear_value x3
    extract_lets +onlyGivenNames x4
    clear_value x4
    refine ite_kept (P := fun x => Kept m s0 x) ?_ ?_
    · refine mmcReply_kept (sub hm) ?_
      exact y2
    · refine ite_kept (P := fun x => Kept m s0 x) ?_ ?_
      · refine mmcReply_kept (sub hm) ?_
        exact y2
      · refine ite_kept (P := fun x => Kept m s0 x) ?_ ?_
        · refine mmcReply_kept (sub hm) ?_
          exact y2
        · refine mmcField_kept (sub hm) ?_
          exact y2
  · exact h

theorem doReadTrackInformation_kept {α : Type} {m : State → α} (hm : ∀ u, m u = m { u with regs := [], out := [], port := {} })
    {s0 s : State} {a0 a1 a2} (h : Kept m s0 s) :
    Kept m s0 (doReadTrackInformation a0 a1 a2 s) := by
  unfold doReadTrackInformation
  refine mmcDisc_kept (sub hm) ?_ ?_
  · intro y1 y2
    extract_lets +onlyGivenNames x3
    clear_value x3
    extract_lets +onlyGivenNames x4
    clear_value x4
    refine mmcReply_kept (sub hm) ?_
    exact y2
  · exact h

theorem doRequestSense_kept {α : Type} {m : State → α} (hm : ∀ u, m u = m { u with regs := [], out := [], port := {} })
    {s0 s : State} {a0 a1 a2} (h : Kept m s0 s) :
    Kept m s0 (doRequestSense a0 a1 a2 s) := by
  unfold doRequestSense
  refine mmcReply_kept (sub hm) ?_
  exact h

theorem doReserveTrack_kept {α : Type} {m : State → α} (hm : ∀ u, m u = m { u with regs := [], out := [], disc := {}, port := {} })
    {s0 s : State} {a0 a1 a2} (h : Kept m s0 s) :
    Kept m s0 (doReserveTrack a0 a1 a2 s) := by
  unfold doReserveTrack
  refine mmcDisc_kept (sub hm) ?_ ?_
  · intro y1 y2
    extract_lets +onlyGivenNames x3
    clear_value x3
    split
    · rename_i v4 v5 v6
      refine ite_kept (P := fun x => Kept m s0 x) ?_ ?_
      · refine mmcGood_kept (sub hm) ?_
        refine setDisc_kept (sub hm) ?_
        exact y2
      · refine mmcField_kept (sub hm) ?_
        exact y2
    · rename_i v7 v8
      refine mmcField_kept (sub hm) ?_
      exact y2
  · exact h

theorem mountJob_kept {α : Type} {m : State → α} (hm : ∀ u, m u = m { u with regs := [], evq := [], out := [], msixPend := 0, engs := [], loops := [], spin := {}, claims := [], cl := {}, port := {}, dev := {} })
    {s0 s : State} {a0} (h : Kept m s0 s) :
    Kept m s0 (mountJob a0 s) := by
  unfold mountJob
  refine native_kept (sub hm) ?_ ?_
  · intro y1 y2 y3 y4
    refine ite_kept (P := fun x => Kept m s0 x) ?_ ?_
    · refine endNow_kept (sub hm) ?_
      exact y4
    · refine ite_kept (P := fun x => Kept m s0 x) ?_ ?_
      · refine endNow_kept (sub hm) ?_
        exact y4
      · refine startMount_kept (sub hm) ?_
        exact y4
  · exact h

theorem modeJob_kept {α : Type} {m : State → α} (hm : ∀ u, m u = m { u with regs := [], evq := [], out := [], msixPend := 0, disc := {}, recs := [], spin := {}, dec := {}, encoded := [], mem := {}, lanesC := [], claims := [], cl := {}, port := {}, pwr := {} })
    {s0 s : State} {a0 a1 a2} (h : Kept m s0 s) :
    Kept m s0 (modeJob a0 a1 a2 s) := by
  unfold modeJob
  refine native_kept (sub hm) ?_ ?_
  · intro y1 y2 y3 y4
    refine askMode_kept (sub hm) ?_
    exact y4
  · exact h

theorem ejectNow_kept {α : Type} {m : State → α} (hm : ∀ u, m u = m { u with regs := [], out := [], msixPend := 0, port := {} })
    {s0 s : State} {a0} (h : Kept m s0 s) :
    Kept m s0 (ejectNow a0 s) := by
  unfold ejectNow
  extract_lets +onlyGivenNames x1
  clear_value x1
  refine mediaEvent_kept (sub hm) ?_
  refine setPorts_kept (sub hm) ?_
  exact h

theorem doStartStopUnit_kept {α : Type} {m : State → α} (hm : ∀ u, m u = m { u with regs := [], evq := [], out := [], msixPend := 0, disc := {}, recs := [], engs := [], loops := [], spin := {}, dec := {}, encoded := [], mem := {}, lanesC := [], claims := [], cl := {}, port := {}, pwr := {}, dev := {} })
    {s0 s : State} {a0 a1 a2} (h : Kept m s0 s) :
    Kept m s0 (doStartStopUnit a0 a1 a2 s) := by
  unfold doStartStopUnit
  extract_lets +onlyGivenNames x1
  clear_value x1
  refine ite_kept (P := fun x => Kept m s0 x) ?_ ?_
  · refine ite_kept (P := fun x => Kept m s0 x) ?_ ?_
    · refine mountJob_kept (sub hm) ?_
      exact h
    · refine ite_kept (P := fun x => Kept m s0 x) ?_ ?_
      · refine modeJob_kept (sub hm) ?_
        exact h
      · refine mmcGood_kept (sub hm) ?_
        exact h
  · refine ite_kept (P := fun x => Kept m s0 x) ?_ ?_
    · refine ite_kept (P := fun x => Kept m s0 x) ?_ ?_
      · refine mmcCheck_kept (sub hm) ?_
        exact h
      · refine ejectNow_kept (sub hm) ?_
        exact h
    · refine modeJob_kept (sub hm) ?_
      exact h

theorem doSynchronizeCache_kept {α : Type} {m : State → α} (hm : ∀ u, m u = m { u with regs := [], out := [], port := {} })
    {s0 s : State} {a0 a1 a2} (h : Kept m s0 s) :
    Kept m s0 (doSynchronizeCache a0 a1 a2 s) := by
  unfold doSynchronizeCache
  refine ite_kept (P := fun x => Kept m s0 x) ?_ ?_
  · refine setPorts_kept (sub hm) ?_
    exact h
  · refine mmcGood_kept (sub hm) ?_
    exact h

theorem doTestUnitReady_kept {α : Type} {m : State → α} (hm : ∀ u, m u = m { u with regs := [], out := [], port := {} })
    {s0 s : State} {a0 a1 a2} (h : Kept m s0 s) :
    Kept m s0 (doTestUnitReady a0 a1 a2 s) := by
  unfold doTestUnitReady
  refine mmcDisc_kept (sub hm) ?_ ?_
  · intro y1 y2
    refine mmcGood_kept (sub hm) ?_
    exact y2
  · exact h

theorem doUnsupported_kept {α : Type} {m : State → α} (hm : ∀ u, m u = m { u with regs := [], evq := [], out := [], msixPend := 0, port := {} })
    {s0 s : State} {a0 a1 a2} (h : Kept m s0 s) :
    Kept m s0 (doUnsupported a0 a1 a2 s) := by
  unfold doUnsupported
  extract_lets +onlyGivenNames x1
  have h2 : Kept m s0 x1 := by
    unfold x1
    refine ite_kept (P := fun x => Kept m s0 x) ?_ ?_
    · refine raise_kept (sub hm) ?_
      refine fset_kept (sub hm) ?_
      refine cnt_kept (sub hm) ?_
      exact h
    · refine raise_kept (sub hm) ?_
      refine fset_kept (sub hm) ?_
      refine cnt_kept (sub hm) ?_
      exact h
  clear_value x1
  refine mmcCheck_kept (sub hm) ?_
  refine emit_kept (sub hm) ?_
  exact h2

theorem doVerify10_kept {α : Type} {m : State → α} (hm : ∀ u, m u = m { u with regs := [], evq := [], out := [], msixPend := 0, disc := {}, claims := [], cl := {}, port := {} })
    {s0 s : State} {a0 a1 a2} (h : Kept m s0 s) :
    Kept m s0 (doVerify10 a0 a1 a2 s) := by
  unfold doVerify10
  refine ite_kept (P := fun x => Kept m s0 x) ?_ ?_
  · refine mmcField_kept (sub hm) ?_
    exact h
  · refine nativeRange_kept (sub hm) ?_
    exact h

theorem doWrite10_kept {α : Type} {m : State → α} (hm : ∀ u, m u = m { u with regs := [], evq := [], out := [], msixPend := 0, disc := {}, claims := [], cl := {}, port := {} })
    {s0 s : State} {a0 a1 a2} (h : Kept m s0 s) :
    Kept m s0 (doWrite10 a0 a1 a2 s) := by
  unfold doWrite10
  refine nativeRange_kept (sub hm) ?_
  exact h

theorem doWrite12_kept {α : Type} {m : State → α} (hm : ∀ u, m u = m { u with regs := [], evq := [], out := [], msixPend := 0, disc := {}, claims := [], cl := {}, port := {} })
    {s0 s : State} {a0 a1 a2} (h : Kept m s0 s) :
    Kept m s0 (doWrite12 a0 a1 a2 s) := by
  unfold doWrite12
  refine nativeRange_kept (sub hm) ?_
  exact h

theorem doZvDlaState_kept {α : Type} {m : State → α} (hm : ∀ u, m u = m { u with regs := [], out := [], port := {} })
    {s0 s : State} {a0 a1 a2} (h : Kept m s0 s) :
    Kept m s0 (doZvDlaState a0 a1 a2 s) := by
  unfold doZvDlaState
  refine mmcReply_kept (sub hm) ?_
  exact h

theorem doZvSeal_kept {α : Type} {m : State → α} (hm : ∀ u, m u = m { u with regs := [], evq := [], out := [], msixPend := 0, disc := {}, claims := [], cl := {}, port := {} })
    {s0 s : State} {a0 a1 a2} (h : Kept m s0 s) :
    Kept m s0 (doZvSeal a0 a1 a2 s) := by
  unfold doZvSeal
  refine native_kept (sub hm) ?_ ?_
  · intro y1 y2 y3 y4
    refine needDisc_kept (sub hm) ?_
    exact y4
  · exact h

theorem doZvSetMode_kept {α : Type} {m : State → α} (hm : ∀ u, m u = m { u with regs := [], evq := [], out := [], msixPend := 0, disc := {}, recs := [], spin := {}, dec := {}, encoded := [], mem := {}, lanesC := [], claims := [], cl := {}, port := {}, pwr := {} })
    {s0 s : State} {a0 a1 a2} (h : Kept m s0 s) :
    Kept m s0 (doZvSetMode a0 a1 a2 s) := by
  unfold doZvSetMode
  refine ite_kept (P := fun x => Kept m s0 x) ?_ ?_
  · refine mmcField_kept (sub hm) ?_
    exact h
  · refine modeJob_kept (sub hm) ?_
    exact h

theorem doZvVault_kept {α : Type} {m : State → α} (hm : ∀ u, m u = m { u with regs := [], out := [], claims := [], port := {}, vault := {} })
    {s0 s : State} {a0 a1 a2} (h : Kept m s0 s) :
    Kept m s0 (doZvVault a0 a1 a2 s) := by
  unfold doZvVault
  extract_lets +onlyGivenNames x1
  clear_value x1
  refine ite_kept (P := fun x => Kept m s0 x) ?_ ?_
  · refine ite_kept (P := fun x => Kept m s0 x) ?_ ?_
    · refine mmcReply_kept (sub hm) ?_
      exact h
    · refine mmcCheck_kept (sub hm) ?_
      exact h
  · extract_lets +onlyGivenNames x2
    have h3 : Kept m s0 x2 := by
      unfold x2
      refine takeClaim_kept (sub hm) ?_
      exact h
    clear_value x2
    refine ite_kept (P := fun x => Kept m s0 x) ?_ ?_
    · refine send_kept (sub hm) ?_
      exact h3
    · refine mmcGood_kept (sub hm) ?_
      refine releaseClaim_kept (sub hm) ?_
      refine vaultGo_kept (sub hm) ?_
      refine setVault_kept (sub hm) ?_
      exact h3

theorem dropFrames_kept {α : Type} {m : State → α} (hm : ∀ u, m u = m { u with frames := [] })
    {s0 s : State} {a0 a1} (h : Kept m s0 s) :
    Kept m s0 (dropFrames a0 a1 s) := by
  unfold dropFrames
  refine Kept.with hm ?_
  exact h

theorem dropTest_kept {α : Type} {m : State → α} (hm : ∀ u, m u = m { u with evq := [], cl := {} })
    {s0 s : State} (h : Kept m s0 s) :
    Kept m s0 (dropTest s) := by
  unfold dropTest
  split
  · rename_i v1 v2 v3
    split
    · rename_i v4 v5 v6
      refine endTest_kept (sub hm) ?_
      exact h
    · rename_i v7 v8
      exact h
  · rename_i v9 v10
    exact h

theorem encodeCluster_kept {α : Type} {m : State → α} (hm : ∀ u, m u = m { u with regs := [] })
    {s0 s : State} {a0 a1 a2 a3 a4 a5 a6} (h : Kept m s0 s) :
    Kept m s0 (encodeCluster a0 a1 a2 a3 a4 a5 a6 s).2 := by
  unfold encodeCluster
  extract_lets +onlyGivenNames x1
  clear_value x1
  extract_lets +onlyGivenNames x2
  clear_value x2
  extract_lets +onlyGivenNames x3
  clear_value x3
  extract_lets +onlyGivenNames x4
  clear_value x4
  extract_lets +onlyGivenNames x5
  clear_value x5
  refine snd_kept (P := fun x => Kept m s0 x) ?_
  refine ite_app_kept (P := fun x => Kept m s0 x) ?_ ?_
  · refine cnt64_kept (sub hm) ?_
    refine cnt64_kept (sub hm) ?_
    refine cnt64_kept (sub hm) ?_
    refine setWseq_kept (sub hm) ?_
    exact h
  · refine id_kept (P := fun x => Kept m s0 x) ?_
    refine cnt64_kept (sub hm) ?_
    refine cnt64_kept (sub hm) ?_
    refine setWseq_kept (sub hm) ?_
    exact h

theorem enterTable_kept {α : Type} {m : State → α} (hm : ∀ u, m u = m { u with regs := [] })
    {s0 s : State} {a0} (h : Kept m s0 s) :
    Kept m s0 (enterTable a0 s) := by
  unfold enterTable
  refine fset_kept (sub hm) ?_
  refine fset_kept (sub hm) ?_
  exact h

theorem entropyFault_kept {α : Type} {m : State → α} (hm : ∀ u, m u = m { u with regs := [], evq := [] })
    {s0 s : State} {a0 a1} (h : Kept m s0 s) :
    Kept m s0 (entropyFault a0 a1 s).2.2 := by
  unfold entropyFault
  refine snd_kept (P := fun (x : _ × _) => Kept m s0 x.2) ?_
  refine snd_kept (P := fun x => Kept m s0 x) ?_
  refine emit_kept (sub hm) ?_
  refine fault_kept (sub hm) ?_
  exact h

theorem eraseBack_kept {α : Type} {m : State → α} (hm : ∀ u, m u = m { u with chans := [] })
    {s0 s : State} {a0 a1 a2} (h : Kept m s0 s) :
    Kept m s0 (eraseBack a0 a1 a2 s) := by
  unfold eraseBack
  extract_lets +onlyGivenNames x1
  clear_value x1
  extract_lets +onlyGivenNames x2
  clear_value x2
  extract_lets +onlyGivenNames x3
  clear_value x3
  extract_lets +onlyGivenNames x4
  clear_value x4
  refine setChan_kept (sub hm) ?_
  exact h

theorem keepNothing_kept {α : Type} {m : State → α} (hm : ∀ u, m u = m { u with time := 0, prof := false, regs := [], evq := [], msix := [], msixPend := 0, msixMask := false, disc := {}, ends := [], lanes := [], links := [], recs := [], engs := [], ustore := [], nstore := [], dmem := [], pgs := [], loops := [], heads := [], spin := {}, sleds := [], chans := [], commons := [], frames := [], blanks := [], dec := {}, encoded := [], opcs := [], betas := [], mem := {}, lanesC := [], claims := [], cl := {}, port := {}, vault := {}, pwr := {}, dev := {}, obs := {} })
    {s0 s : State} (h : Kept m s0 s) :
    Kept m s0 (keepNothing s) := by
  unfold keepNothing
  refine fset_kept (sub hm) (fset_kept (sub hm) ?_)
  exact h.trans ⟨view_eq hm, rfl, List.prefix_refl _, le_refl _, .refl _, fun _ => rfl⟩

theorem showVault_kept {α : Type} {m : State → α} (hm : ∀ u, m u = m { u with regs := [] })
    {s0 s : State} {a0} (h : Kept m s0 s) :
    Kept m s0 (showVault a0 s) := by
  unfold showVault
  extract_lets +onlyGivenNames x1
  clear_value x1
  extract_lets +onlyGivenNames x2
  clear_value x2
  extract_lets +onlyGivenNames x3
  clear_value x3
  extract_lets +onlyGivenNames x4
  have h5 : Kept m s0 x4 := by
    unfold x4
    refine fsetB_kept (sub hm) ?_
    refine fset_kept (sub hm) ?_
    refine fset_kept (sub hm) ?_
    refine fset_kept (sub hm) ?_
    refine fset_kept (sub hm) ?_
    refine fset_kept (sub hm) ?_
    refine fset_kept (sub hm) ?_
    refine fset_kept (sub hm) ?_
    refine fset_kept (sub hm) ?_
    refine fset_kept (sub hm) ?_
    exact h
  clear_value x4
  refine foldl_kept (P := fun x => Kept m s0 x) ?_ ?_
  · intro y6 y7 y8
    refine fset_kept (sub hm) ?_
    exact y8
  · exact h5

theorem vaultStart_kept {α : Type} {m : State → α} (hm : ∀ u, m u = m { u with regs := [], evq := [], vault := {} })
    {s0 s : State} {a0} (h : Kept m s0 s) :
    Kept m s0 (vaultStart a0 s) := by
  unfold vaultStart
  extract_lets +onlyGivenNames x1
  clear_value x1
  extract_lets +onlyGivenNames x2
  clear_value x2
  extract_lets +onlyGivenNames x3
  clear_value x3
  extract_lets +onlyGivenNames x4
  clear_value x4
  split
  · rename_i v5 v6 v7 v8
    extract_lets +onlyGivenNames x9
    have h10 : Kept m s0 x9 := by
      unfold x9
      refine showVault_kept (sub hm) ?_
      refine setVault_kept (sub hm) ?_
      exact h
    clear_value x9
    extract_lets +onlyGivenNames x11
    have h12 : Kept m s0 x11 := by
      unfold x11
      refine ite_kept (P := fun x => Kept m s0 x) ?_ ?_
      · refine foldl_kept (P := fun x => Kept m s0 x) ?_ ?_
        · intro y13 y14 y15
          refine ite_kept (P := fun x => Kept m s0 x) ?_ ?_
          · exact y15
          · refine emit_kept (sub hm) ?_
            exact y15
        · exact h10
      · exact h10
    clear_value x11
    refine emit_kept (sub hm) ?_
    refine ite_app_kept (P := fun x => Kept m s0 x) ?_ ?_
    · refine id_kept (P := fun x => Kept m s0 x) ?_
      exact h12
    · refine measure_kept (sub hm) ?_
      exact h12

theorem logStart_kept {α : Type} {m : State → α} (hm : ∀ u, m u = m { u with regs := [], dev := {}, obs := {} })
    {s0 s : State} (h : Kept m s0 s) :
    Kept m s0 (logStart s) := by
  unfold logStart
  extract_lets +onlyGivenNames x1
  clear_value x1
  extract_lets +onlyGivenNames x2
  clear_value x2
  extract_lets +onlyGivenNames x3
  clear_value x3
  refine ite_kept (P := fun x => Kept m s0 x) ?_ ?_
  · extract_lets +onlyGivenNames x4
    have h5 : Kept m s0 x4 := by
      unfold x4
      refine fset_kept (sub hm) ?_
      refine flashErase_kept (sub hm) ?_
      exact h
    clear_value x4
    split
    · rename_i v6 v7 v8 v9
      have h10 : Kept m s0 ((v7, v8)).2 := by
        rw [← v9]
        refine makeRecord_kept (sub hm) ?_
        exact h5
      refine showLog_kept (sub hm) ?_
      refine logWrite_kept (sub hm) ?_
      exact h10
  · extract_lets +onlyGivenNames x11
    clear_value x11
    extract_lets +onlyGivenNames x12
    clear_value x12
    extract_lets +onlyGivenNames x13
    clear_value x13
    extract_lets +onlyGivenNames x14
    clear_value x14
    extract_lets +onlyGivenNames x15
    have h16 : Kept m s0 x15 := by
      unfold x15
      refine setObs_kept (sub hm) ?_
      refine fsetB_kept (sub hm) ?_
      refine fset_kept (sub hm) ?_
      exact h
    clear_value x15
    refine showLog_kept (sub hm) ?_
    refine fsetB_kept (sub hm) ?_
    exact h16

theorem execPowerOnReset_kept {α : Type} {m : State → α} (hm : ∀ u, m u = m { u with time := 0, prof := false, regs := [], evq := [], out := [], msix := [], msixPend := 0, msixMask := false, disc := {}, ends := [], lanes := [], links := [], recs := [], engs := [], ustore := [], nstore := [], dmem := [], pgs := [], loops := [], heads := [], spin := {}, sleds := [], chans := [], commons := [], frames := [], blanks := [], dec := {}, encoded := [], opcs := [], betas := [], mem := {}, lanesC := [], claims := [], cl := {}, port := {}, vault := {}, pwr := {}, dev := {}, obs := {} })
    {s0 s : State} {a0 a1} (h : Kept m s0 s) :
    KeptR m s0 (execPowerOnReset a0 a1 s) := by
  unfold execPowerOnReset
  extract_lets +onlyGivenNames x1
  clear_value x1
  extract_lets +onlyGivenNames x2
  have h3 : Kept m s0 x2 := by
    unfold x2
    refine keepNothing_kept (sub hm) ?_
    exact h
  clear_value x2
  extract_lets +onlyGivenNames x4
  have h5 : Kept m s0 x4 := by
    unfold x4
    refine Kept.with hm ?_
    exact h3
  clear_value x4
  refine KeptR.next ?_
  refine boot_kept (sub hm) ?_
  refine vaultStart_kept (sub hm) ?_
  refine logStart_kept (sub hm) ?_
  refine fset_kept (sub hm) ?_
  refine fsetB_kept (sub hm) ?_
  refine fset_kept (sub hm) ?_
  exact h5

theorem execPinReset_kept {α : Type} {m : State → α} (hm : ∀ u, m u = m { u with regs := [], evq := [], out := [], msix := [], msixPend := 0, msixMask := false, disc := {}, ends := [], lanes := [], links := [], recs := [], engs := [], ustore := [], nstore := [], dmem := [], pgs := [], loops := [], heads := [], spin := {}, sleds := [], chans := [], commons := [], frames := [], blanks := [], dec := {}, encoded := [], opcs := [], betas := [], mem := {}, lanesC := [], claims := [], cl := {}, port := {}, vault := {}, pwr := {}, dev := {}, obs := {} })
    {s0 s : State} (h : Kept m s0 s) :
    KeptR m s0 (execPinReset s) := by
  unfold execPinReset
  refine KeptR.next ?_
  refine warmReset_kept (sub hm) ?_
  exact h

theorem execDeviceReset_kept {α : Type} {m : State → α} (hm : ∀ u, m u = m { u with regs := [], evq := [], out := [], msix := [], msixPend := 0, msixMask := false, disc := {}, ends := [], lanes := [], links := [], recs := [], engs := [], ustore := [], nstore := [], dmem := [], pgs := [], loops := [], heads := [], spin := {}, sleds := [], chans := [], commons := [], frames := [], blanks := [], dec := {}, encoded := [], opcs := [], betas := [], mem := {}, lanesC := [], claims := [], cl := {}, port := {}, vault := {}, pwr := {}, dev := {}, obs := {} })
    {s0 s : State} {a0 a1} (h : Kept m s0 s) :
    KeptR m s0 (execDeviceReset a0 a1 s) := by
  unfold execDeviceReset
  refine KeptR.next ?_
  refine deviceReset_kept (sub hm) ?_
  exact h

theorem execWatchdogExpired_kept {α : Type} {m : State → α} (hm : ∀ u, m u = m { u with regs := [], evq := [], out := [], msix := [], msixPend := 0, msixMask := false, disc := {}, ends := [], lanes := [], links := [], recs := [], engs := [], ustore := [], nstore := [], dmem := [], pgs := [], loops := [], heads := [], spin := {}, sleds := [], chans := [], commons := [], frames := [], blanks := [], dec := {}, encoded := [], opcs := [], betas := [], mem := {}, lanesC := [], claims := [], cl := {}, port := {}, vault := {}, pwr := {}, dev := {}, obs := {} })
    {s0 s : State} (h : Kept m s0 s) :
    KeptR m s0 (execWatchdogExpired s) := by
  unfold execWatchdogExpired
  extract_lets +onlyGivenNames x1
  clear_value x1
  refine KeptR.next ?_
  refine ite_kept (P := fun x => Kept m s0 x) ?_ ?_
  · exact h
  · refine warmReset_kept (sub hm) ?_
    refine cnt_kept (sub hm) ?_
    refine fault_kept (sub hm) ?_
    refine emit_kept (sub hm) ?_
    exact h

theorem execWdogKick_kept {α : Type} {m : State → α} (hm : ∀ u, m u = m { u with dev := {} })
    {s0 s : State} (h : Kept m s0 s) :
    KeptR m s0 (execWdogKick s) := by
  unfold execWdogKick
  refine KeptR.next ?_
  refine kickWatchdog_kept (sub hm) ?_
  exact h

theorem releaseReset_kept {α : Type} {m : State → α} (hm : ∀ u, m u = m { u with free := 0, prof := false, regs := [], evq := [], out := [], msixPend := 0, lanes := [], links := [], recs := [], ustore := [], nstore := [], spin := {}, sleds := [], vault := {}, pwr := {}, dev := {}, obs := {} })
    {s0 s : State} {a0 a1} (h : Kept m s0 s) :
    Kept m s0 (releaseReset a0 a1 s) := by
  unfold releaseReset
  extract_lets +onlyGivenNames x1
  clear_value x1
  extract_lets +onlyGivenNames x2
  clear_value x2
  extract_lets +onlyGivenNames x3
  have h4 : Kept m s0 x3 := by
    unfold x3
    refine emit_kept (sub hm) ?_
    refine fsetB_kept (sub hm) ?_
    refine setDev_kept (sub hm) ?_
    refine Kept.with hm ?_
    exact h
  clear_value x3
  refine ite_kept (P := fun x => Kept m s0 x) ?_ ?_
  · beta_reduce
    refine setDev_kept (sub hm) ?_
    refine freeze_kept (sub hm) ?_
    exact h4
  · refine boot_kept (sub hm) ?_
    exact h4

theorem execResetRelease_kept {α : Type} {m : State → α} (hm : ∀ u, m u = m { u with free := 0, prof := false, regs := [], evq := [], out := [], msixPend := 0, lanes := [], links := [], recs := [], ustore := [], nstore := [], spin := {}, sleds := [], vault := {}, pwr := {}, dev := {}, obs := {} })
    {s0 s : State} {a0} (h : Kept m s0 s) :
    KeptR m s0 (execResetRelease a0 s) := by
  unfold execResetRelease
  refine KeptR.next ?_
  split
  · rename_i v1 v2 v3
    refine ite_kept (P := fun x => Kept m s0 x) ?_ ?_
    · exact h
    · refine releaseReset_kept (sub hm) ?_
      exact h
  · rename_i v4 v5
    exact h

theorem execRcvDataWrite_kept {α : Type} {m : State → α} (hm : ∀ u, m u = m { u with regs := [], dev := {} })
    {s0 s : State} {a0} (h : Kept m s0 s) :
    KeptR m s0 (execRcvDataWrite a0 s) := by
  unfold execRcvDataWrite
  refine KeptR.next ?_
  refine recoveryWrite_kept (sub hm) ?_
  exact h

theorem execBootCtlWrite_kept {α : Type} {m : State → α} (hm : ∀ u, m u = m { u with regs := [], dev := {} })
    {s0 s : State} {a0 a1 a2} (h : Kept m s0 s) :
    KeptR m s0 (execBootCtlWrite a0 a1 a2 s) := by
  unfold execBootCtlWrite
  refine KeptR.next ?_
  refine bootCtlGo_kept (sub hm) ?_
  refine fsetB_kept (sub hm) ?_
  refine fsetB_kept (sub hm) ?_
  refine fsetB_kept (sub hm) ?_
  exact h

theorem execDriveReady_kept {α : Type} {m : State → α} (hm : ∀ u, m u = m { u with regs := [], evq := [], out := [], msixPend := 0, engs := [], loops := [], spin := {}, cl := {}, port := {}, dev := {} })
    {s0 s : State} (h : Kept m s0 s) :
    KeptR m s0 (execDriveReady s) := by
  unfold execDriveReady
  extract_lets +onlyGivenNames x1
  clear_value x1
  refine KeptR.next ?_
  refine ite_kept (P := fun x => Kept m s0 x) ?_ ?_
  · exact h
  · extract_lets +onlyGivenNames x2
    clear_value x2
    extract_lets +onlyGivenNames x3
    have h4 : Kept m s0 x3 := by
      unfold x3
      refine emit_kept (sub hm) ?_
      refine raise_kept (sub hm) ?_
      refine fset_kept (sub hm) ?_
      refine fset_kept (sub hm) ?_
      exact h
    clear_value x3
    refine ite_kept (P := fun x => Kept m s0 x) ?_ ?_
    · refine startMount_kept (sub hm) ?_
      exact h4
    · refine foldl_kept (P := fun x => Kept m s0 x) ?_ ?_
      · intro y5 y6 y7
        split
        · rename_i v8 v9 v10
          refine ite_kept (P := fun x => Kept m s0 x) ?_ ?_
          · refine endNow_kept (sub hm) ?_
            refine modCmd_kept (sub hm) ?_
            exact y7
          · exact y7
        · rename_i v11 v12
          exact y7
      · exact h4

theorem loadIr_kept {α : Type} {m : State → α} (hm : ∀ u, m u = m { u with regs := [], obs := {} })
    {s0 s : State} {a0} (h : Kept m s0 s) :
    Kept m s0 (loadIr a0 s) := by
  unfold loadIr
  refine fsetB_kept (sub hm) ?_
  refine setObs_kept (sub hm) ?_
  exact h

theorem execTapReset_kept {α : Type} {m : State → α} (hm : ∀ u, m u = m { u with regs := [], obs := {} })
    {s0 s : State} (h : Kept m s0 s) :
    KeptR m s0 (execTapReset s) := by
  unfold execTapReset
  refine KeptR.next ?_
  refine loadIr_kept (sub hm) ?_
  exact h

theorem pcieReset_kept {α : Type} {m : State → α} (hm : ∀ u, m u = m { u with regs := [], msix := [], msixPend := 0, msixMask := false, port := {} })
    {s0 s : State} (h : Kept m s0 s) :
    Kept m s0 (pcieReset s) := by
  unfold pcieReset
  extract_lets +onlyGivenNames x1
  clear_value x1
  refine fclrs_kept (sub hm) ?_
  refine Kept.with hm ?_
  exact h

theorem execFunctionLevelReset_kept {α : Type} {m : State → α} (hm : ∀ u, m u = m { u with regs := [], evq := [], out := [], msix := [], msixPend := 0, msixMask := false, disc := {}, dec := {}, encoded := [], mem := {}, lanesC := [], claims := [], cl := {}, port := {} })
    {s0 s : State} (h : Kept m s0 s) :
    KeptR m s0 (execFunctionLevelReset s) := by
  unfold execFunctionLevelReset
  split
  · rename_i v1 v2 v3 v4
    have h5 : Kept m s0 ((v2, v3)).2 := by
      rw [← v4]
      refine abortReq_kept (sub hm) ?_
      exact h
    refine KeptR.next ?_
    refine emit_kept (sub hm) ?_
    refine raise_kept (sub hm) ?_
    refine semDrop_kept (sub hm) ?_
    refine pcieReset_kept (sub hm) ?_
    exact h5

theorem execUsbBusReset_kept {α : Type} {m : State → α} (hm : ∀ u, m u = m { u with regs := [], evq := [], out := [], msixPend := 0, disc := {}, dec := {}, encoded := [], mem := {}, lanesC := [], cl := {}, port := {} })
    {s0 s : State} (h : Kept m s0 s) :
    KeptR m s0 (execUsbBusReset s) := by
  unfold execUsbBusReset
  refine KeptR.next ?_
  refine setAlt_kept (sub hm) ?_
  refine abortPort_kept (sub hm) ?_
  refine abortPort_kept (sub hm) ?_
  refine raise_kept (sub hm) ?_
  exact h

theorem execUsbAttachmentChange_kept {α : Type} {m : State → α} (hm : ∀ u, m u = m { u with regs := [], evq := [], out := [], msixPend := 0, disc := {}, dec := {}, encoded := [], mem := {}, lanesC := [], cl := {}, port := {} })
    {s0 s : State} {a0 a1 a2} (h : Kept m s0 s) :
    KeptR m s0 (execUsbAttachmentChange a0 a1 a2 s) := by
  unfold execUsbAttachmentChange
  extract_lets +onlyGivenNames x1
  clear_value x1
  refine KeptR.next ?_
  refine ite_kept (P := fun x => Kept m s0 x) ?_ ?_
  · refine cnt_kept (sub hm) ?_
    refine fault_kept (sub hm) ?_
    exact h
  · refine ite_kept (P := fun x => Kept m s0 x) ?_ ?_
    · refine usbDetach_kept (sub hm) ?_
      exact h
    · extract_lets +onlyGivenNames x2
      clear_value x2
      extract_lets +onlyGivenNames x3
      have h4 : Kept m s0 x3 := by
        unfold x3
        refine setAlt_kept (sub hm) ?_
        refine fset_kept (sub hm) ?_
        exact h
      clear_value x3
      refine ite_kept (P := fun x => Kept m s0 x) ?_ ?_
      · refine emit_kept (sub hm) ?_
        refine raise_kept (sub hm) ?_
        exact h4
      · exact h4

theorem execPcieTunnelChange_kept {α : Type} {m : State → α} (hm : ∀ u, m u = m { u with regs := [], out := [], msixPend := 0 })
    {s0 s : State} {a0 a1 a2 a3} (h : Kept m s0 s) :
    KeptR m s0 (execPcieTunnelChange a0 a1 a2 a3 s) := by
  unfold execPcieTunnelChange
  extract_lets +onlyGivenNames x1
  clear_value x1
  refine KeptR.next ?_
  refine ite_kept (P := fun x => Kept m s0 x) ?_ ?_
  · exact h
  · extract_lets +onlyGivenNames x2
    have h3 : Kept m s0 x2 := by
      unfold x2
      refine ite_kept (P := fun x => Kept m s0 x) ?_ ?_
      · refine cnt_kept (sub hm) ?_
        refine fault_kept (sub hm) ?_
        exact h
      · exact h
    clear_value x2
    refine setAlt_kept (sub hm) ?_
    refine fsetB_kept (sub hm) ?_
    refine setTunnel_kept (sub hm) ?_
    exact h3

theorem sataReset_kept {α : Type} {m : State → α} (hm : ∀ u, m u = m { u with regs := [], evq := [], out := [], msixPend := 0, disc := {}, dec := {}, encoded := [], mem := {}, lanesC := [], cl := {}, port := {} })
    {s0 s : State} (h : Kept m s0 s) :
    Kept m s0 (sataReset s) := by
  unfold sataReset
  extract_lets +onlyGivenNames x1
  clear_value x1
  refine send_kept (sub hm) ?_
  refine fset_kept (sub hm) ?_
  refine fset_kept (sub hm) ?_
  beta_reduce
  refine setPorts_kept (sub hm) ?_
  refine abortPort_kept (sub hm) ?_
  exact h

theorem execComreset_kept {α : Type} {m : State → α} (hm : ∀ u, m u = m { u with regs := [], evq := [], out := [], msixPend := 0, disc := {}, dec := {}, encoded := [], mem := {}, lanesC := [], cl := {}, port := {}, pwr := {} })
    {s0 s : State} (h : Kept m s0 s) :
    KeptR m s0 (execComreset s) := by
  unfold execComreset
  refine KeptR.next ?_
  refine ite_kept (P := fun x => Kept m s0 x) ?_ ?_
  · refine sataReset_kept (sub hm) ?_
    refine wakeSeen_kept (sub hm) ?_
    refine raise_kept (sub hm) ?_
    exact h
  · exact h

theorem goodSlot_kept {α : Type} {m : State → α} (hm : ∀ u, m u = m { u with regs := [], evq := [], out := [], msixPend := 0, lanes := [], links := [], recs := [] })
    {s0 s : State} {a0 a1 a2 a3} (h : Kept m s0 s) :
    Kept m s0 (goodSlot a0 a1 a2 a3 s) := by
  unfold goodSlot
  extract_lets +onlyGivenNames x1
  clear_value x1
  extract_lets +onlyGivenNames x2
  clear_value x2
  extract_lets +onlyGivenNames x3
  clear_value x3
  extract_lets +onlyGivenNames x4
  have h5 : Kept m s0 x4 := by
    unfold x4
    refine setLane_kept (sub hm) ?_
    exact h
  clear_value x4
  extract_lets +onlyGivenNames x6
  have h7 : Kept m s0 x6 := by
    unfold x6
    refine ite_kept (P := fun x => Kept m s0 x) ?_ ?_
    · refine fset_kept (sub hm) ?_
      exact h5
    · exact h5
  clear_value x6
  refine ite_kept (P := fun x => Kept m s0 x) ?_ ?_
  · refine declareStale_kept (sub hm) ?_
    exact h7
  · exact h7

theorem execPrioritySlot_kept {α : Type} {m : State → α} (hm : ∀ u, m u = m { u with regs := [], evq := [], out := [], msixPend := 0, lanes := [], links := [], recs := [], loops := [], heads := [] })
    {s0 s : State} {a0 a1 a2 a3} (h : Kept m s0 s) :
    KeptR m s0 (execPrioritySlot a0 a1 a2 a3 s) := by
  unfold execPrioritySlot
  extract_lets +onlyGivenNames x1
  clear_value x1
  extract_lets +onlyGivenNames x2
  clear_value x2
  extract_lets +onlyGivenNames x3
  clear_value x3
  split
  · rename_i v4
    refine KeptR.next ?_
    refine badSlot_kept (sub hm) ?_
    exact h
  · rename_i v5 v6
    split
    · rename_i v7 v8 v9 v10 v11
      refine ite_kept (P := fun x => KeptR m s0 x) ?_ ?_
      · refine KeptR.next ?_
        refine alignLock_kept (sub hm) ?_
        refine fmax_kept (sub hm) ?_
        refine goodSlot_kept (sub hm) ?_
        exact h
      · refine KeptR.next ?_
        refine badSlot_kept (sub hm) ?_
        exact h

theorem laneTick_kept {α : Type} {m : State → α} (hm : ∀ u, m u = m { u with regs := [], evq := [], out := [], msixPend := 0, lanes := [], links := [], recs := [] })
    {s0 s : State} {a0 a1} (h : Kept m s0 s) :
    Kept m s0 (laneTick a0 a1 s) := by
  unfold laneTick
  extract_lets +onlyGivenNames x1
  clear_value x1
  extract_lets +onlyGivenNames x2
  clear_value x2
  extract_lets +onlyGivenNames x3
  clear_value x3
  extract_lets +onlyGivenNames x4
  clear_value x4
  extract_lets +onlyGivenNames x5
  clear_value x5
  extract_lets +onlyGivenNames x6
  clear_value x6
  extract_lets +onlyGivenNames x7
  clear_value x7
  extract_lets +onlyGivenNames x8
  have h9 : Kept m s0 x8 := by
    unfold x8
    refine setLane_kept (sub hm) ?_
    exact h
  clear_value x8
  extract_lets +onlyGivenNames x10
  have h11 : Kept m s0 x10 := by
    unfold x10
    refine ite_kept (P := fun x => Kept m s0 x) ?_ ?_
    · refine sticky_kept (sub hm) ?_
      exact h9
    · exact h9
  clear_value x10
  extract_lets +onlyGivenNames x12
  have h13 : Kept m s0 x12 := by
    unfold x12
    refine fsetB_kept (sub hm) ?_
    exact h11
  clear_value x12
  refine ite_kept (P := fun x => Kept m s0 x) ?_ ?_
  · extract_lets +onlyGivenNames x14
    have h15 : Kept m s0 x14 := by
      unfold x14
      refine fset_kept (sub hm) ?_
      exact h13
    clear_value x14
    refine ite_kept (P := fun x => Kept m s0 x) ?_ ?_
    · extract_lets +onlyGivenNames x16
      clear_value x16
      beta_reduce
      refine ite_kept (P := fun x => Kept m s0 x) ?_ ?_
      · refine emit_kept (sub hm) ?_
        refine tripHead_kept (sub hm) ?_
        refine emit_kept (sub hm) ?_
        refine raise_kept (sub hm) ?_
        refine fset_kept (sub hm) ?_
        exact h15
      · refine emit_kept (sub hm) ?_
        refine raise_kept (sub hm) ?_
        refine fset_kept (sub hm) ?_
        exact h15
    · exact h15
  · refine fset_kept (sub hm) ?_
    exact h13

theorem takeTick_kept {α : Type} {m : State → α} (hm : ∀ u, m u = m { u with lanes := [] })
    {s0 s : State} {a0} (h : Kept m s0 s) :
    Kept m s0 (takeTick a0 s) := by
  unfold takeTick
  extract_lets +onlyGivenNames x1
  clear_value x1
  split
  · rename_i v2 v3
    exact h
  · rename_i v4 v5 v6 v7
    refine setLane_kept (sub hm) ?_
    exact h

theorem stall_kept {α : Type} {m : State → α} (hm : ∀ u, m u = m { u with regs := [], evq := [], out := [], msixPend := 0, pgs := [], heads := [], sleds := [] })
    {s0 s : State} {a0 a1} (h : Kept m s0 s) :
    Kept m s0 (stall a0 a1 s) := by
  unfold stall
  refine ite_kept (P := fun x => Kept m s0 x) ?_ ?_
  · exact h
  · extract_lets +onlyGivenNames x1
    clear_value x1
    beta_reduce
    refine ite_kept (P := fun x => Kept m s0 x) ?_ ?_
    · refine seekFail_kept (sub hm) ?_
      refine emit_kept (sub hm) ?_
      refine cnt_kept (sub hm) ?_
      refine raise_kept (sub hm) ?_
      refine fault_kept (sub hm) ?_
      refine fset_kept (sub hm) ?_
      refine sledSt_kept (sub hm) ?_
      refine hardStop_kept (sub hm) ?_
      exact h
    · refine emit_kept (sub hm) ?_
      refine cnt_kept (sub hm) ?_
      refine raise_kept (sub hm) ?_
      refine fault_kept (sub hm) ?_
      refine fset_kept (sub hm) ?_
      refine sledSt_kept (sub hm) ?_
      refine hardStop_kept (sub hm) ?_
      exact h

theorem sledLoad_kept {α : Type} {m : State → α} (hm : ∀ u, m u = m { u with regs := [], evq := [], out := [], msixPend := 0, pgs := [], heads := [], sleds := [] })
    {s0 s : State} {a0 a1} (h : Kept m s0 s) :
    Kept m s0 (sledLoad a0 a1 s) := by
  unfold sledLoad
  extract_lets +onlyGivenNames x1
  clear_value x1
  extract_lets +onlyGivenNames x2
  clear_value x2
  extract_lets +onlyGivenNames x3
  clear_value x3
  extract_lets +onlyGivenNames x4
  clear_value x4
  extract_lets +onlyGivenNames x5
  clear_value x5
  extract_lets +onlyGivenNames x6
  clear_value x6
  extract_lets +onlyGivenNames x7
  clear_value x7
  extract_lets +onlyGivenNames x8
  clear_value x8
  extract_lets +onlyGivenNames x9
  clear_value x9
  extract_lets +onlyGivenNames x10
  clear_value x10
  extract_lets +onlyGivenNames x11
  clear_value x11
  extract_lets +onlyGivenNames x12
  clear_value x12
  extract_lets +onlyGivenNames x13
  have h14 : Kept m s0 x13 := by
    unfold x13
    refine sledCurrent_kept (sub hm) ?_
    refine fsetB_kept (sub hm) ?_
    refine fset_kept (sub hm) ?_
    refine setSled_kept (sub hm) ?_
    exact h
  clear_value x13
  refine ite_kept (P := fun x => Kept m s0 x) ?_ ?_
  · refine stall_kept (sub hm) ?_
    exact h14
  · exact h14

theorem sledMove_kept {α : Type} {m : State → α} (hm : ∀ u, m u = m { u with regs := [], out := [] })
    {s0 s : State} {a0 a1} (h : Kept m s0 s) :
    Kept m s0 (sledMove a0 a1 s) := by
  unfold sledMove
  refine ite_kept (P := fun x => Kept m s0 x) ?_ ?_
  · exact h
  · refine send_kept (sub hm) ?_
    refine fsetI_kept (sub hm) ?_
    exact h

theorem homingFail_kept {α : Type} {m : State → α} (hm : ∀ u, m u = m { u with regs := [], evq := [], out := [], msixPend := 0, sleds := [] })
    {s0 s : State} {a0 a1} (h : Kept m s0 s) :
    Kept m s0 (homingFail a0 a1 s) := by
  unfold homingFail
  refine emit_kept (sub hm) ?_
  refine raise_kept (sub hm) ?_
  refine fault_kept (sub hm) ?_
  refine sledSt_kept (sub hm) ?_
  refine setSled_kept (sub hm) ?_
  exact h

theorem rebase_kept {α : Type} {m : State → α} (hm : ∀ u, m u = m { u with regs := [], sleds := [] })
    {s0 s : State} {a0 a1} (h : Kept m s0 s) :
    Kept m s0 (rebase a0 a1 s) := by
  unfold rebase
  extract_lets +onlyGivenNames x1
  clear_value x1
  refine setSled_kept (sub hm) ?_
  refine fsetI_kept (sub hm) ?_
  exact h

theorem homeRebase_kept {α : Type} {m : State → α} (hm : ∀ u, m u = m { u with regs := [], evq := [], out := [], msixPend := 0, sleds := [] })
    {s0 s : State} {a0} (h : Kept m s0 s) :
    Kept m s0 (homeRebase a0 s) := by
  unfold homeRebase
  extract_lets +onlyGivenNames x1
  clear_value x1
  extract_lets +onlyGivenNames x2
  clear_value x2
  extract_lets +onlyGivenNames x3
  clear_value x3
  extract_lets +onlyGivenNames x4
  clear_value x4
  refine homeStep_kept (sub hm) ?_
  refine emit_kept (sub hm) ?_
  refine cnt_kept (sub hm) ?_
  refine raise_kept (sub hm) ?_
  refine fset_kept (sub hm) ?_
  refine sledMove_kept (sub hm) ?_
  refine rebase_kept (sub hm) ?_
  exact h

theorem homeTick_kept {α : Type} {m : State → α} (hm : ∀ u, m u = m { u with regs := [], evq := [], out := [], msixPend := 0, sleds := [] })
    {s0 s : State} {a0} (h : Kept m s0 s) :
    Kept m s0 (homeTick a0 s) := by
  unfold homeTick
  extract_lets +onlyGivenNames x1
  clear_value x1
  extract_lets +onlyGivenNames x2
  clear_value x2
  extract_lets +onlyGivenNames x3
  clear_value x3
  extract_lets +onlyGivenNames x4
  clear_value x4
  split
  · rename_i v5 v6 v7 v8
    extract_lets +onlyGivenNames x9
    clear_value x9
    extract_lets +onlyGivenNames x10
    clear_value x10
    extract_lets +onlyGivenNames x11
    have h12 : Kept m s0 x11 := by
      unfold x11
      refine sledMove_kept (sub hm) ?_
      refine setSled_kept (sub hm) ?_
      exact h
    clear_value x11
    extract_lets +onlyGivenNames x13
    clear_value x13
    extract_lets +onlyGivenNames x14
    clear_value x14
    extract_lets +onlyGivenNames x15
    clear_value x15
    split
    · rename_i v16 v17
      refine ite_kept (P := fun x => Kept m s0 x) ?_ ?_
      · refine homeStep_kept (sub hm) ?_
        exact h12
      · refine ite_kept (P := fun x => Kept m s0 x) ?_ ?_
        · refine homingFail_kept (sub hm) ?_
          exact h12
        · exact h12
    · rename_i v18 v19
      refine ite_kept (P := fun x => Kept m s0 x) ?_ ?_
      · refine homingFail_kept (sub hm) ?_
        exact h12
      · exact h12
    · rename_i v20 v21
      refine ite_kept (P := fun x => Kept m s0 x) ?_ ?_
      · refine ite_kept (P := fun x => Kept m s0 x) ?_ ?_
        · refine homingFail_kept (sub hm) ?_
          exact h12
        · refine homeStep_kept (sub hm) ?_
          refine setSled_kept (sub hm) ?_
          exact h12
      · exact h12
    · rename_i v22 v23
      refine ite_kept (P := fun x => Kept m s0 x) ?_ ?_
      · refine homingFail_kept (sub hm) ?_
        exact h12
      · exact h12
    · rename_i v24 v25
      refine ite_kept (P := fun x => Kept m s0 x) ?_ ?_
      · refine ite_kept (P := fun x => Kept m s0 x) ?_ ?_
        · refine homeRebase_kept (sub hm) ?_
          exact h12
        · exact h12
      · refine ite_kept (P := fun x => Kept m s0 x) ?_ ?_
        · refine sledSt_kept (sub hm) ?_
          refine homeStep_kept (sub hm) ?_
          refine rebase_kept (sub hm) ?_
          exact h12
        · exact h12
    · rename_i v26 v27
      exact h12

theorem softClamp_kept {α : Type} {m : State → α} (hm : ∀ u, m u = m { u with regs := [], evq := [], out := [], msixPend := 0, sleds := [] })
    {s0 s : State} {a0 a1} (h : Kept m s0 s) :
    Kept m s0 (softClamp a0 a1 s).2 := by
  unfold softClamp
  extract_lets +onlyGivenNames x1
  clear_value x1
  extract_lets +onlyGivenNames x2
  clear_value x2
  extract_lets +onlyGivenNames x3
  clear_value x3
  extract_lets +onlyGivenNames x4
  clear_value x4
  extract_lets +onlyGivenNames x5
  clear_value x5
  extract_lets +onlyGivenNames x6
  have h7 : Kept m s0 x6 := by
    unfold x6
    refine ite_kept (P := fun x => Kept m s0 x) ?_ ?_
    · refine emit_kept (sub hm) ?_
      refine raise_kept (sub hm) ?_
      refine sticky_kept (sub hm) ?_
      exact h
    · exact h
  clear_value x6
  refine snd_kept (P := fun x => Kept m s0 x) ?_
  refine setSled_kept (sub hm) ?_
  exact h7

theorem sledTick_kept {α : Type} {m : State → α} (hm : ∀ u, m u = m { u with regs := [], evq := [], out := [], msixPend := 0, pgs := [], heads := [], sleds := [] })
    {s0 s : State} {a0 a1} (h : Kept m s0 s) :
    Kept m s0 (sledTick a0 a1 s) := by
  unfold sledTick
  extract_lets +onlyGivenNames x1
  clear_value x1
  extract_lets +onlyGivenNames x2
  clear_value x2
  refine ite_kept (P := fun x => Kept m s0 x) ?_ ?_
  · exact h
  · refine ite_kept (P := fun x => Kept m s0 x) ?_ ?_
    · refine sledLoad_kept (sub hm) ?_
      refine homeTick_kept (sub hm) ?_
      exact h
    · refine ite_kept (P := fun x => Kept m s0 x) ?_ ?_
      · refine sledLoad_kept (sub hm) ?_
        exact h
      · extract_lets +onlyGivenNames x3
        clear_value x3
        extract_lets +onlyGivenNames x4
        clear_value x4
        split
        · rename_i v5 v6 v7 v8
          have h9 : Kept m s0 ((v6, v7)).2 := by
            rw [← v8]
            refine softClamp_kept (sub hm) ?_
            exact h
          extract_lets +onlyGivenNames x10
          clear_value x10
          extract_lets +onlyGivenNames x11
          have h12 : Kept m s0 x11 := by
            unfold x11
            refine setSled_kept (sub hm) ?_
            refine sledMove_kept (sub hm) ?_
            exact h9
          clear_value x11
          extract_lets +onlyGivenNames x13
          clear_value x13
          refine sledLoad_kept (sub hm) ?_
          refine sledSt_kept (sub hm) ?_
          exact h12

theorem legacyStep_kept {α : Type} {m : State → α} (hm : ∀ u, m u = m { u with regs := [], chans := [], commons := [] })
    {s0 s : State} (h : Kept m s0 s) :
    Kept m s0 (legacyStep s) := by
  unfold legacyStep
  extract_lets +onlyGivenNames x1
  clear_value x1
  extract_lets +onlyGivenNames x2
  clear_value x2
  refine ite_kept (P := fun x => Kept m s0 x) ?_ ?_
  · refine loadStep_kept (sub hm) ?_
    refine setCommon_kept (sub hm) ?_
    exact h
  · exact h

theorem headTick_kept {α : Type} {m : State → α} (hm : ∀ u, m u = m { u with heads := [] })
    {s0 s : State} {a0} (h : Kept m s0 s) :
    Kept m s0 (headTick a0 s) := by
  unfold headTick
  extract_lets +onlyGivenNames x1
  clear_value x1
  extract_lets +onlyGivenNames x2
  clear_value x2
  extract_lets +onlyGivenNames x3
  clear_value x3
  refine setHead_kept (sub hm) ?_
  exact h

theorem plausTick_kept {α : Type} {m : State → α} (hm : ∀ u, m u = m { u with regs := [], evq := [], out := [], msixPend := 0, engs := [] })
    {s0 s : State} {a1} (h : Kept m s0 s) :
    Kept m s0 (plausTick s a1) := by
  unfold plausTick
  extract_lets +onlyGivenNames x1
  clear_value x1
  extract_lets +onlyGivenNames x2
  clear_value x2
  extract_lets +onlyGivenNames x3
  clear_value x3
  extract_lets +onlyGivenNames x4
  have h5 : Kept m s0 x4 := by
    unfold x4
    refine setEng_kept (sub hm) ?_
    exact h
  clear_value x4
  refine ite_kept (P := fun x => Kept m s0 x) ?_ ?_
  · refine setEng_kept (sub hm) ?_
    exact h5
  · extract_lets +onlyGivenNames x6
    clear_value x6
    refine ite_kept (P := fun x => Kept m s0 x) ?_ ?_
    · refine setEng_kept (sub hm) ?_
      exact h5
    · extract_lets +onlyGivenNames x7
      clear_value x7
      extract_lets +onlyGivenNames x8
      clear_value x8
      extract_lets +onlyGivenNames x9
      clear_value x9
      extract_lets +onlyGivenNames x10
      clear_value x10
      extract_lets +onlyGivenNames x11
      clear_value x11
      extract_lets +onlyGivenNames x12
      clear_value x12
      extract_lets +onlyGivenNames x13
      clear_value x13
      extract_lets +onlyGivenNames x14
      have h15 : Kept m s0 x14 := by
        unfold x14
        refine fsetI_kept (sub hm) ?_
        refine setEng_kept (sub hm) ?_
        exact h5
      clear_value x14
      refine ite_kept (P := fun x => Kept m s0 x) ?_ ?_
      · refine emitEng_kept (sub hm) ?_
        refine raise_kept (sub hm) ?_
        refine fset_kept (sub hm) ?_
        exact h15
      · exact h15

theorem execServoTick_kept {α : Type} {m : State → α} (hm : ∀ u, m u = m { u with regs := [], evq := [], out := [], msixPend := 0, lanes := [], links := [], recs := [], engs := [], pgs := [], heads := [], spin := {}, sleds := [], chans := [], commons := [] })
    {s0 s : State} {a0 a1 a2 a3} (h : Kept m s0 s) :
    KeptR m s0 (execServoTick a0 a1 a2 a3 s) := by
  unfold execServoTick
  extract_lets +onlyGivenNames x1
  have h2 : Kept m s0 x1 := by
    unfold x1
    refine foldl_kept (P := fun x => Kept m s0 x) ?_ ?_
    · intro y3 y4 y5
      refine laneTick_kept (sub hm) ?_
      exact y5
    · exact h
  clear_value x1
  extract_lets +onlyGivenNames x6
  have h7 : Kept m s0 x6 := by
    unfold x6
    refine foldl_kept (P := fun x => Kept m s0 x) ?_ ?_
    · intro y8 y9 y10
      refine takeTick_kept (sub hm) ?_
      exact y10
    · exact h2
  clear_value x6
  extract_lets +onlyGivenNames x11
  have h12 : Kept m s0 x11 := by
    unfold x11
    refine fmax_kept (sub hm) ?_
    refine fmax_kept (sub hm) ?_
    refine aclTick_kept (sub hm) ?_
    refine aclTick_kept (sub hm) ?_
    refine sledTick_kept (sub hm) ?_
    refine sledTick_kept (sub hm) ?_
    refine legacyStep_kept (sub hm) ?_
    refine clvTick_kept (sub hm) ?_
    refine headTick_kept (sub hm) ?_
    refine headTick_kept (sub hm) ?_
    exact h7
  clear_value x11
  refine KeptR.next ?_
  refine foldl_kept (P := fun x => Kept m s0 x) ?_ ?_
  · intro y13 y14 y15
    refine plausTick_kept (sub hm) ?_
    exact y15
  · exact h12

theorem execServoStale_kept {α : Type} {m : State → α} (hm : ∀ u, m u = m { u with regs := [], evq := [], out := [], msixPend := 0, links := [], recs := [] })
    {s0 s : State} {a0 a1} (h : Kept m s0 s) :
    KeptR m s0 (execServoStale a0 a1 s) := by
  unfold execServoStale
  refine KeptR.next ?_
  refine declareStale_kept (sub hm) ?_
  exact h

theorem monitorSample_kept {α : Type} {m : State → α} (hm : ∀ u, m u = m { u with regs := [], evq := [], out := [], msixPend := 0, links := [], recs := [], heads := [] })
    {s0 s : State} {a0 a1 a2 a3} (h : Kept m s0 s) :
    Kept m s0 (monitorSample a0 a1 a2 a3 s) := by
  unfold monitorSample
  extract_lets +onlyGivenNames x1
  clear_value x1
  extract_lets +onlyGivenNames x2
  clear_value x2
  extract_lets +onlyGivenNames x3
  clear_value x3
  extract_lets +onlyGivenNames x4
  have h5 : Kept m s0 x4 := by
    unfold x4
    refine fset_kept (sub hm) ?_
    refine fset_kept (sub hm) ?_
    exact h
  clear_value x4
  extract_lets +onlyGivenNames x6
  clear_value x6
  extract_lets +onlyGivenNames x7
  clear_value x7
  extract_lets +onlyGivenNames x8
  clear_value x8
  extract_lets +onlyGivenNames x9
  clear_value x9
  extract_lets +onlyGivenNames x10
  have h11 : Kept m s0 x10 := by
    unfold x10
    refine setHead_kept (sub hm) ?_
    exact h5
  clear_value x10
  refine ite_kept (P := fun x => Kept m s0 x) ?_ ?_
  · exact h11
  · extract_lets +onlyGivenNames x12
    have h13 : Kept m s0 x12 := by
      unfold x12
      refine cnt_kept (sub hm) ?_
      exact h11
    clear_value x12
    extract_lets +onlyGivenNames x14
    clear_value x14
    refine ite_kept (P := fun x => Kept m s0 x) ?_ ?_
    · refine ite_kept (P := fun x => Kept m s0 x) ?_ ?_
      · refine emit_kept (sub hm) ?_
        refine cnt_kept (sub hm) ?_
        refine fset_kept (sub hm) ?_
        refine fset_kept (sub hm) ?_
        refine tripHead_kept (sub hm) ?_
        exact h13
      · exact h13
    · refine ite_kept (P := fun x => Kept m s0 x) ?_ ?_
      · refine emit_kept (sub hm) ?_
        refine fset_kept (sub hm) ?_
        exact h13
      · exact h13

theorem monitorBlock_kept {α : Type} {m : State → α} (hm : ∀ u, m u = m { u with regs := [], evq := [], out := [], msixPend := 0, links := [], recs := [], heads := [] })
    {s0 s : State} {a0 a1 a2} (h : Kept m s0 s) :
    Kept m s0 (monitorBlock a0 a1 a2 s) := by
  unfold monitorBlock
  refine foldl_kept (P := fun x => Kept m s0 x) ?_ ?_
  · intro y1 y2 y3
    refine monitorSample_kept (sub hm) ?_
    exact y3
  · exact h

theorem statusBlock_kept {α : Type} {m : State → α} (hm : ∀ u, m u = m { u with regs := [], evq := [], out := [], msixPend := 0, links := [], recs := [] })
    {s0 s : State} {a0 a1} (h : Kept m s0 s) :
    Kept m s0 (statusBlock a0 a1 s) := by
  unfold statusBlock
  extract_lets +onlyGivenNames x1
  clear_value x1
  extract_lets +onlyGivenNames x2
  clear_value x2
  extract_lets +onlyGivenNames x3
  have h4 : Kept m s0 x3 := by
    unfold x3
    refine setLink_kept (sub hm) ?_
    refine fset_kept (sub hm) ?_
    refine fset_kept (sub hm) ?_
    refine fset_kept (sub hm) ?_
    exact h
  clear_value x3
  refine ite_kept (P := fun x => Kept m s0 x) ?_ ?_
  · refine emit_kept (sub hm) ?_
    refine tripHeadAs_kept (sub hm) ?_
    exact h4
  · exact h4

theorem fecBlock_kept {α : Type} {m : State → α} (hm : ∀ u, m u = m { u with regs := [], evq := [], out := [], msixPend := 0, lanes := [], links := [], recs := [], heads := [] })
    {s0 s : State} {a0 a1 a2 a4} (h : Kept m s0 s) :
    Kept m s0 (fecBlock a0 a1 a2 s a4) := by
  unfold fecBlock
  split
  · rename_i v1 v2 v3 v4
    refine ite_kept (P := fun x => Kept m s0 x) ?_ ?_
    · exact h
    · extract_lets +onlyGivenNames x5
      have h6 : Kept m s0 x5 := by
        unfold x5
        refine checkSeq_kept (sub hm) ?_
        exact h
      clear_value x5
      refine ite_kept (P := fun x => Kept m s0 x) ?_ ?_
      · refine monitorBlock_kept (sub hm) ?_
        exact h6
      · refine ite_kept (P := fun x => Kept m s0 x) ?_ ?_
        · refine statusBlock_kept (sub hm) ?_
          exact h6
        · exact h6
  · rename_i v7 v8 v9 v10
    exact h

theorem execFecCodeword_kept {α : Type} {m : State → α} (hm : ∀ u, m u = m { u with regs := [], evq := [], out := [], msixPend := 0, lanes := [], links := [], recs := [], loops := [], heads := [] })
    {s0 s : State} {a0 a1 a2} (h : Kept m s0 s) :
    KeptR m s0 (execFecCodeword a0 a1 a2 s) := by
  unfold execFecCodeword
  extract_lets +onlyGivenNames x1
  clear_value x1
  extract_lets +onlyGivenNames x2
  clear_value x2
  extract_lets +onlyGivenNames x3
  clear_value x3
  extract_lets +onlyGivenNames x4
  clear_value x4
  extract_lets +onlyGivenNames x5
  have h6 : Kept m s0 x5 := by
    unfold x5
    refine cnt64_kept (sub hm) ?_
    exact h
  clear_value x5
  split
  · rename_i v7
    extract_lets +onlyGivenNames x8
    have h9 : Kept m s0 x8 := by
      unfold x8
      refine raise_kept (sub hm) ?_
      refine cnt_kept (sub hm) ?_
      refine setLane_kept (sub hm) ?_
      exact h6
    clear_value x8
    refine KeptR.next ?_
    refine ite_kept (P := fun x => Kept m s0 x) ?_ ?_
    · refine laneDown_kept (sub hm) ?_
      exact h9
    · exact h9
  · rename_i v10 v11
    extract_lets +onlyGivenNames x12
    have h13 : Kept m s0 x12 := by
      unfold x12
      refine cntN_kept (sub hm) ?_
      refine setLane_kept (sub hm) ?_
      exact h6
    clear_value x12
    refine KeptR.next ?_
    refine alignLock_kept (sub hm) ?_
    refine foldl_kept (P := fun x => Kept m s0 x) ?_ ?_
    · intro y14 y15 y16
      refine fecBlock_kept (sub hm) ?_
      exact y16
    · exact h13

theorem execMonitorStreamAbsent_kept {α : Type} {m : State → α} (hm : ∀ u, m u = m { u with regs := [], evq := [], out := [], msixPend := 0, links := [], recs := [] })
    {s0 s : State} {a0} (h : Kept m s0 s) :
    KeptR m s0 (execMonitorStreamAbsent a0 s) := by
  unfold execMonitorStreamAbsent
  extract_lets +onlyGivenNames x1
  clear_value x1
  refine ite_kept (P := fun x => KeptR m s0 x) ?_ ?_
  · refine KeptR.next ?_
    refine emit_kept (sub hm) ?_
    refine tripHead_kept (sub hm) ?_
    exact h
  · refine KeptR.next ?_
    exact h

theorem execLaneDown_kept {α : Type} {m : State → α} (hm : ∀ u, m u = m { u with regs := [], evq := [], out := [], msixPend := 0, lanes := [], links := [], recs := [], loops := [], heads := [] })
    {s0 s : State} {a0 a1 a2} (h : Kept m s0 s) :
    KeptR m s0 (execLaneDown a0 a1 a2 s) := by
  unfold execLaneDown
  refine KeptR.next ?_
  refine laneDown_kept (sub hm) ?_
  exact h

theorem execLaneDegraded_kept {α : Type} {m : State → α} (hm : ∀ u, m u = m { u with regs := [], evq := [], out := [], msixPend := 0, lanes := [], links := [] })
    {s0 s : State} {a0 a1 a2} (h : Kept m s0 s) :
    KeptR m s0 (execLaneDegraded a0 a1 a2 s) := by
  unfold execLaneDegraded
  extract_lets +onlyGivenNames x1
  clear_value x1
  extract_lets +onlyGivenNames x2
  clear_value x2
  extract_lets +onlyGivenNames x3
  clear_value x3
  extract_lets +onlyGivenNames x4
  clear_value x4
  extract_lets +onlyGivenNames x5
  clear_value x5
  extract_lets +onlyGivenNames x6
  clear_value x6
  extract_lets +onlyGivenNames x7
  have h8 : Kept m s0 x7 := by
    unfold x7
    refine setLane_kept (sub hm) ?_
    exact h
  clear_value x7
  refine ite_kept (P := fun x => KeptR m s0 x) ?_ ?_
  · extract_lets +onlyGivenNames x9
    have h10 : Kept m s0 x9 := by
      unfold x9
      refine emit_kept (sub hm) ?_
      refine raise_kept (sub hm) ?_
      refine fset_kept (sub hm) ?_
      exact h8
    clear_value x9
    extract_lets +onlyGivenNames x11
    clear_value x11
    refine ite_kept (P := fun x => KeptR m s0 x) ?_ ?_
    · refine KeptR.next ?_
      refine startGroup_kept (sub hm) ?_
      exact h10
    · refine KeptR.next ?_
      exact h10
  · refine ite_kept (P := fun x => KeptR m s0 x) ?_ ?_
    · refine KeptR.next ?_
      refine fset_kept (sub hm) ?_
      exact h8
    · refine KeptR.next ?_
      exact h8

theorem execTrainingFrame_kept {α : Type} {m : State → α} (hm : ∀ u, m u = m { u with regs := [], lanes := [] })
    {s0 s : State} {a0 a1 a2} (h : Kept m s0 s) :
    KeptR m s0 (execTrainingFrame a0 a1 a2 s) := by
  unfold execTrainingFrame
  extract_lets +onlyGivenNames x1
  clear_value x1
  extract_lets +onlyGivenNames x2
  clear_value x2
  extract_lets +onlyGivenNames x3
  clear_value x3
  refine ite_kept (P := fun x => KeptR m s0 x) ?_ ?_
  · refine KeptR.next ?_
    exact h
  · extract_lets +onlyGivenNames x4
    clear_value x4
    extract_lets +onlyGivenNames x5
    clear_value x5
    extract_lets +onlyGivenNames x6
    have h7 : Kept m s0 x6 := by
      unfold x6
      refine setLane_kept (sub hm) ?_
      exact h
    clear_value x6
    extract_lets +onlyGivenNames x8
    have h9 : Kept m s0 x8 := by
      unfold x8
      refine ite_kept (P := fun x => Kept m s0 x) ?_ ?_
      · refine fset_kept (sub hm) ?_
        refine fset_kept (sub hm) ?_
        refine fset_kept (sub hm) ?_
        refine fset_kept (sub hm) ?_
        refine fset_kept (sub hm) ?_
        refine fset_kept (sub hm) ?_
        refine fset_kept (sub hm) ?_
        refine fset_kept (sub hm) ?_
        exact h7
      · exact h7
    clear_value x8
    extract_lets +onlyGivenNames x10
    clear_value x10
    extract_lets +onlyGivenNames x11
    clear_value x11
    extract_lets +onlyGivenNames x12
    have h13 : Kept m s0 x12 := by
      unfold x12
      refine ite_kept (P := fun x => Kept m s0 x) ?_ ?_
      · refine groupState_kept (sub hm) ?_
        exact h9
      · exact h9
    clear_value x12
    refine ite_kept (P := fun x => KeptR m s0 x) ?_ ?_
    · refine KeptR.next ?_
      refine groupState_kept (sub hm) ?_
      exact h13
    · refine KeptR.next ?_
      exact h13

theorem trainFailed_kept {α : Type} {m : State → α} (hm : ∀ u, m u = m { u with regs := [], evq := [], out := [], msixPend := 0, lanes := [], links := [], heads := [] })
    {s0 s : State} {a0 a1} (h : Kept m s0 s) :
    Kept m s0 (trainFailed a0 a1 s) := by
  unfold trainFailed
  extract_lets +onlyGivenNames x1
  clear_value x1
  extract_lets +onlyGivenNames x2
  clear_value x2
  extract_lets +onlyGivenNames x3
  have h4 : Kept m s0 x3 := by
    unfold x3
    refine emit_kept (sub hm) ?_
    refine fault_kept (sub hm) ?_
    refine fault_kept (sub hm) ?_
    refine fault_kept (sub hm) ?_
    refine raise_kept (sub hm) ?_
    refine raise_kept (sub hm) ?_
    refine raise_kept (sub hm) ?_
    exact h
  clear_value x3
  refine ite_kept (P := fun x => Kept m s0 x) ?_ ?_
  · refine emit_kept (sub hm) ?_
    refine setHead_kept (sub hm) ?_
    refine groupFault_kept (sub hm) ?_
    exact h4
  · refine trainAttempt_kept (sub hm) ?_
    exact h4

theorem execTrainingTimeout_kept {α : Type} {m : State → α} (hm : ∀ u, m u = m { u with regs := [], evq := [], out := [], msixPend := 0, lanes := [], links := [], heads := [] })
    {s0 s : State} {a0 a1} (h : Kept m s0 s) :
    KeptR m s0 (execTrainingTimeout a0 a1 s) := by
  unfold execTrainingTimeout
  extract_lets +onlyGivenNames x1
  clear_value x1
  extract_lets +onlyGivenNames x2
  clear_value x2
  refine ite_kept (P := fun x => KeptR m s0 x) ?_ ?_
  · refine KeptR.next ?_
    exact h
  · refine KeptR.next ?_
    refine trainFailed_kept (sub hm) ?_
    exact h

theorem ownDone_kept {α : Type} {m : State → α} (hm : ∀ u, m u = m { u with regs := [] })
    {s0 s : State} {a0 a1} (h : Kept m s0 s) :
    Kept m s0 (ownDone a0 a1 s) := by
  unfold ownDone
  refine fset_kept (sub hm) ?_
  refine fset_kept (sub hm) ?_
  refine fset_kept (sub hm) ?_
  exact h

theorem setResp_kept {α : Type} {m : State → α} (hm : ∀ u, m u = m { u with regs := [] })
    {s0 s : State} {a0 a1} (h : Kept m s0 s) :
    Kept m s0 (setResp a0 a1 s) := by
  unfold setResp
  refine foldl_kept (P := fun x => Kept m s0 x) ?_ ?_
  · intro y1 y2 y3
    refine fset_kept (sub hm) ?_
    exact y3
  · exact h

theorem execControlResponse_kept {α : Type} {m : State → α} (hm : ∀ u, m u = m { u with regs := [], evq := [], out := [], msixPend := 0, links := [], recs := [], heads := [] })
    {s0 s : State} {a0 a1 a2 a3} (h : Kept m s0 s) :
    KeptR m s0 (execControlResponse a0 a1 a2 a3 s) := by
  unfold execControlResponse
  extract_lets +onlyGivenNames x1
  clear_value x1
  extract_lets +onlyGivenNames x2
  clear_value x2
  split
  · rename_i v3 v4
    refine KeptR.next ?_
    exact h
  · rename_i v5 v6 v7
    extract_lets +onlyGivenNames x8
    clear_value x8
    extract_lets +onlyGivenNames x9
    clear_value x9
    refine ite_kept (P := fun x => KeptR m s0 x) ?_ ?_
    · refine KeptR.next ?_
      exact h
    · extract_lets +onlyGivenNames x10
      have h11 : Kept m s0 x10 := by
        unfold x10
        refine setLink_kept (sub hm) ?_
        exact h
      clear_value x10
      extract_lets +onlyGivenNames x12
      have h13 : Kept m s0 x12 := by
        unfold x12
        refine answered_kept (sub hm) ?_
        exact h11
      clear_value x12
      extract_lets +onlyGivenNames x14
      have h15 : Kept m s0 x14 := by
        unfold x14
        refine ite_kept (P := fun x => Kept m s0 x) ?_ ?_
        · refine fault_kept (sub hm) ?_
          exact h13
        · exact h13
      clear_value x14
      refine KeptR.next ?_
      refine ite_kept (P := fun x => Kept m s0 x) ?_ ?_
      · refine raise_kept (sub hm) ?_
        refine ownDone_kept (sub hm) ?_
        refine setResp_kept (sub hm) ?_
        exact h15
      · exact h15

theorem execControlMessageTimeout_kept {α : Type} {m : State → α} (hm : ∀ u, m u = m { u with regs := [], evq := [], out := [], msixPend := 0, lanes := [], links := [], recs := [], loops := [], heads := [] })
    {s0 s : State} {a0 a1} (h : Kept m s0 s) :
    KeptR m s0 (execControlMessageTimeout a0 a1 s) := by
  unfold execControlMessageTimeout
  extract_lets +onlyGivenNames x1
  clear_value x1
  extract_lets +onlyGivenNames x2
  clear_value x2
  split
  · rename_i v3 v4
    refine KeptR.next ?_
    exact h
  · rename_i v5 v6 v7
    refine ite_kept (P := fun x => KeptR m s0 x) ?_ ?_
    · refine KeptR.next ?_
      refine send_kept (sub hm) ?_
      refine setLink_kept (sub hm) ?_
      exact h
    · extract_lets +onlyGivenNames x8
      have h9 : Kept m s0 x8 := by
        unfold x8
        refine emit_kept (sub hm) ?_
        refine fault_kept (sub hm) ?_
        refine raise_kept (sub hm) ?_
        refine setLink_kept (sub hm) ?_
        exact h
      clear_value x8
      extract_lets +onlyGivenNames x10
      have h11 : Kept m s0 x10 := by
        unfold x10
        refine ite_kept (P := fun x => Kept m s0 x) ?_ ?_
        · refine ownDone_kept (sub hm) ?_
          exact h9
        · exact h9
      clear_value x10
      extract_lets +onlyGivenNames x12
      have h13 : Kept m s0 x12 := by
        unfold x12
        refine ite_kept (P := fun x => Kept m s0 x) ?_ ?_
        · refine powerRefused_kept (sub hm) ?_
          exact h11
        · exact h11
      clear_value x12
      extract_lets +onlyGivenNames x14
      have h15 : Kept m s0 x14 := by
        unfold x14
        refine ite_kept (P := fun x => Kept m s0 x) ?_ ?_
        · refine lostFeedbackTrip_kept (sub hm) ?_
          exact h13
        · exact h13
      clear_value x14
      refine KeptR.next ?_
      refine startGroup_kept (sub hm) ?_
      exact h15

theorem execUnderrun_kept {α : Type} {m : State → α} (hm : ∀ u, m u = m { u with regs := [], evq := [], out := [], msixPend := 0, recs := [] })
    {s0 s : State} {a0} (h : Kept m s0 s) :
    KeptR m s0 (execUnderrun a0 s) := by
  unfold execUnderrun
  extract_lets +onlyGivenNames x1
  clear_value x1
  refine KeptR.next ?_
  refine raise_kept (sub hm) ?_
  refine cnt_kept (sub hm) ?_
  refine sticky_kept (sub hm) ?_
  refine raise_kept (sub hm) ?_
  refine fset_kept (sub hm) ?_
  refine abruptStop_kept (sub hm) ?_
  exact h

theorem execCoilDriverFault_kept {α : Type} {m : State → α} (hm : ∀ u, m u = m { u with regs := [], evq := [], out := [], msixPend := 0, links := [], recs := [], loops := [], heads := [] })
    {s0 s : State} {a0} (h : Kept m s0 s) :
    KeptR m s0 (execCoilDriverFault a0 s) := by
  unfold execCoilDriverFault
  extract_lets +onlyGivenNames x1
  clear_value x1
  extract_lets +onlyGivenNames x2
  clear_value x2
  refine KeptR.next ?_
  refine lostFeedback_kept (sub hm) ?_
  refine tripHead_kept (sub hm) ?_
  refine emit_kept (sub hm) ?_
  refine fault_kept (sub hm) ?_
  refine raise_kept (sub hm) ?_
  refine setLink_kept (sub hm) ?_
  refine fset_kept (sub hm) ?_
  refine coilsSafe_kept (sub hm) ?_
  exact h

theorem execFltNRelease_kept {α : Type} {m : State → α} (hm : ∀ u, m u = m { u with regs := [], links := [] })
    {s0 s : State} {a0 a1} (h : Kept m s0 s) :
    KeptR m s0 (execFltNRelease a0 a1 s) := by
  unfold execFltNRelease
  extract_lets +onlyGivenNames x1
  clear_value x1
  extract_lets +onlyGivenNames x2
  clear_value x2
  extract_lets +onlyGivenNames x3
  have h4 : Kept m s0 x3 := by
    unfold x3
    refine fset_kept (sub hm) ?_
    refine setLink_kept (sub hm) ?_
    exact h
  clear_value x3
  refine KeptR.next ?_
  refine ite_kept (P := fun x => Kept m s0 x) ?_ ?_
  · refine foldl_kept (P := fun x => Kept m s0 x) ?_ ?_
    · intro y5 y6 y7
      refine fset_kept (sub hm) ?_
      exact y7
    · refine fset_kept (sub hm) ?_
      exact h4
  · exact h4

theorem polarity_kept {α : Type} {m : State → α} (hm : ∀ u, m u = m { u with regs := [] })
    {s0 s : State} {a0} (h : Kept m s0 s) :
    Kept m s0 (polarity a0 s) := by
  unfold polarity
  extract_lets +onlyGivenNames x1
  clear_value x1
  refine fsetB_kept (sub hm) ?_
  exact h

theorem swapBank_kept {α : Type} {m : State → α} (hm : ∀ u, m u = m { u with regs := [] })
    {s0 s : State} {a0} (h : Kept m s0 s) :
    Kept m s0 (swapBank a0 s) := by
  unfold swapBank
  extract_lets +onlyGivenNames x1
  clear_value x1
  refine ite_kept (P := fun x => Kept m s0 x) ?_ ?_
  · refine fset_kept (sub hm) ?_
    refine fset_kept (sub hm) ?_
    exact h
  · exact h

theorem lostRamps_kept {α : Type} {m : State → α} (hm : ∀ u, m u = m { u with loops := [] })
    {s0 s : State} {a0} (h : Kept m s0 s) :
    Kept m s0 (lostRamps a0 s) := by
  unfold lostRamps
  refine dropTracking_kept (sub hm) ?_
  refine retract_kept (sub hm) ?_
  exact h

theorem rampTick_kept {α : Type} {m : State → α} (hm : ∀ u, m u = m { u with regs := [], evq := [], out := [], msixPend := 0, links := [], engs := [], pgs := [], loops := [], heads := [] })
    {s0 s : State} {a0} (h : Kept m s0 s) :
    Kept m s0 (rampTick a0 s) := by
  unfold rampTick
  split
  · rename_i v1 v2
    exact h
  · rename_i v3 v4 v5 v6 v7 v8
    extract_lets +onlyGivenNames x9
    clear_value x9
    extract_lets +onlyGivenNames x10
    clear_value x10
    extract_lets +onlyGivenNames x11
    have h12 : Kept m s0 x11 := by
      unfold x11
      refine loopOut_kept (sub hm) ?_
      exact h
    clear_value x11
    refine ite_kept (P := fun x => Kept m s0 x) ?_ ?_
    · refine setLoop_kept (sub hm) ?_
      exact h12
    · extract_lets +onlyGivenNames x13
      clear_value x13
      extract_lets +onlyGivenNames x14
      have h15 : Kept m s0 x14 := by
        unfold x14
        refine showLoop_kept (sub hm) ?_
        refine loopState_kept (sub hm) ?_
        refine setLoop_kept (sub hm) ?_
        exact h12
      clear_value x14
      extract_lets +onlyGivenNames x16
      clear_value x16
      refine ite_kept (P := fun x => Kept m s0 x) ?_ ?_
      · refine startFocus_kept (sub hm) ?_
        exact h15
      · exact h15

theorem holdTick_kept {α : Type} {m : State → α} (hm : ∀ u, m u = m { u with regs := [], evq := [], out := [], msixPend := 0, links := [], recs := [], engs := [], loops := [], heads := [] })
    {s0 s : State} {a0 a1 a2} (h : Kept m s0 s) :
    Kept m s0 (holdTick a0 a1 a2 s) := by
  unfold holdTick
  extract_lets +onlyGivenNames x1
  clear_value x1
  extract_lets +onlyGivenNames x2
  clear_value x2
  extract_lets +onlyGivenNames x3
  clear_value x3
  extract_lets +onlyGivenNames x4
  clear_value x4
  extract_lets +onlyGivenNames x5
  clear_value x5
  extract_lets +onlyGivenNames x6
  clear_value x6
  extract_lets +onlyGivenNames x7
  have h8 : Kept m s0 x7 := by
    unfold x7
    refine fset_kept (sub hm) ?_
    refine setLoop_kept (sub hm) ?_
    exact h
  clear_value x7
  extract_lets +onlyGivenNames x9
  have h10 : Kept m s0 x9 := by
    unfold x9
    refine ite_kept (P := fun x => Kept m s0 x) ?_ ?_
    · refine showLoop_kept (sub hm) ?_
      refine cnt_kept (sub hm) ?_
      refine loopState_kept (sub hm) ?_
      exact h8
    · exact h8
  clear_value x9
  refine ite_kept (P := fun x => Kept m s0 x) ?_ ?_
  · refine lostRamps_kept (sub hm) ?_
    refine lostFeedbackTrip_kept (sub hm) ?_
    exact h10
  · refine ite_kept (P := fun x => Kept m s0 x) ?_ ?_
    · refine lostRamps_kept (sub hm) ?_
      refine lostFeedbackTrip_kept (sub hm) ?_
      exact h10
    · exact h10

theorem focusClose_kept {α : Type} {m : State → α} (hm : ∀ u, m u = m { u with regs := [], engs := [], pgs := [], loops := [] })
    {s0 s : State} {a0} (h : Kept m s0 s) :
    Kept m s0 (focusClose a0 s) := by
  unfold focusClose
  extract_lets +onlyGivenNames x1
  clear_value x1
  refine pgStop_kept (sub hm) ?_
  refine showLoop_kept (sub hm) ?_
  refine cnt_kept (sub hm) ?_
  refine loopState_kept (sub hm) ?_
  refine setLoop_kept (sub hm) ?_
  exact h

theorem focusCapture_kept {α : Type} {m : State → α} (hm : ∀ u, m u = m { u with regs := [], evq := [], out := [], msixPend := 0, links := [], engs := [], pgs := [], loops := [] })
    {s0 s : State} {a0} (h : Kept m s0 s) :
    Kept m s0 (focusCapture a0 s) := by
  unfold focusCapture
  extract_lets +onlyGivenNames x1
  clear_value x1
  extract_lets +onlyGivenNames x2
  clear_value x2
  extract_lets +onlyGivenNames x3
  clear_value x3
  extract_lets +onlyGivenNames x4
  clear_value x4
  extract_lets +onlyGivenNames x5
  clear_value x5
  extract_lets +onlyGivenNames x6
  clear_value x6
  extract_lets +onlyGivenNames x7
  have h8 : Kept m s0 x7 := by
    unfold x7
    refine setLoop_kept (sub hm) ?_
    exact h
  clear_value x7
  extract_lets +onlyGivenNames x9
  clear_value x9
  extract_lets +onlyGivenNames x10
  have h11 : Kept m s0 x10 := by
    unfold x10
    refine loopOut_kept (sub hm) ?_
    exact h8
  clear_value x10
  refine ite_kept (P := fun x => Kept m s0 x) ?_ ?_
  · extract_lets +onlyGivenNames x12
    clear_value x12
    extract_lets +onlyGivenNames x13
    clear_value x13
    extract_lets +onlyGivenNames x14
    clear_value x14
    extract_lets +onlyGivenNames x15
    have h16 : Kept m s0 x15 := by
      unfold x15
      refine fsetI_kept (sub hm) ?_
      refine fset_kept (sub hm) ?_
      exact h11
    clear_value x15
    refine ite_kept (P := fun x => Kept m s0 x) ?_ ?_
    · refine focusClose_kept (sub hm) ?_
      exact h16
    · exact h16
  · exact h11

theorem loopFilter_kept {α : Type} {m : State → α} (hm : ∀ u, m u = m { u with regs := [], evq := [], out := [], msixPend := 0, links := [], engs := [], loops := [] })
    {s0 s : State} {a0 a1} (h : Kept m s0 s) :
    Kept m s0 (loopFilter a0 a1 s) := by
  unfold loopFilter
  extract_lets +onlyGivenNames x1
  clear_value x1
  extract_lets +onlyGivenNames x2
  clear_value x2
  extract_lets +onlyGivenNames x3
  clear_value x3
  extract_lets +onlyGivenNames x4
  clear_value x4
  extract_lets +onlyGivenNames x5
  clear_value x5
  extract_lets +onlyGivenNames x6
  clear_value x6
  extract_lets +onlyGivenNames x7
  clear_value x7
  extract_lets +onlyGivenNames x8
  have h9 : Kept m s0 x8 := by
    unfold x8
    refine loopOut_kept (sub hm) ?_
    refine fsetI_kept (sub hm) ?_
    refine fsetI_kept (sub hm) ?_
    refine setLoop_kept (sub hm) ?_
    exact h
  clear_value x8
  refine ite_kept (P := fun x => Kept m s0 x) ?_ ?_
  · refine setPort_kept (sub hm) ?_
    exact h9
  · refine ite_kept (P := fun x => Kept m s0 x) ?_ ?_
    · refine setPort_kept (sub hm) ?_
      exact h9
    · exact h9

theorem jumpOut_kept {α : Type} {m : State → α} (hm : ∀ u, m u = m { u with regs := [], evq := [], out := [], msixPend := 0, links := [], engs := [], loops := [] })
    {s0 s : State} {a0} (h : Kept m s0 s) :
    Kept m s0 (jumpOut a0 s) := by
  unfold jumpOut
  refine loopOut_kept (sub hm) ?_
  exact h

theorem layerFocusTick_kept {α : Type} {m : State → α} (hm : ∀ u, m u = m { u with regs := [], evq := [], out := [], msixPend := 0, links := [], engs := [], loops := [], heads := [] })
    {s0 s : State} {a0} (h : Kept m s0 s) :
    Kept m s0 (layerFocusTick a0 s) := by
  unfold layerFocusTick
  extract_lets +onlyGivenNames x1
  clear_value x1
  extract_lets +onlyGivenNames x2
  clear_value x2
  split
  · rename_i v3 v4 v5
    refine ite_kept (P := fun x => Kept m s0 x) ?_ ?_
    · refine loopFilter_kept (sub hm) ?_
      refine showLoop_kept (sub hm) ?_
      refine setHead_kept (sub hm) ?_
      refine setLoop_kept (sub hm) ?_
      refine loopState_kept (sub hm) ?_
      exact h
    · refine jumpOut_kept (sub hm) ?_
      exact h
  · rename_i v6 v7
    refine jumpOut_kept (sub hm) ?_
    exact h

theorem layerProgress_kept {α : Type} {m : State → α} (hm : ∀ u, m u = m { u with regs := [], engs := [], loops := [], heads := [] })
    {s0 s : State} {a0} (h : Kept m s0 s) :
    Kept m s0 (layerProgress a0 s) := by
  unfold layerProgress
  extract_lets +onlyGivenNames x1
  clear_value x1
  split
  · rename_i v2 v3
    exact h
  · rename_i v4 v5 v6
    refine ite_kept (P := fun x => Kept m s0 x) ?_ ?_
    · exact h
    · refine ite_kept (P := fun x => Kept m s0 x) ?_ ?_
      · refine ite_kept (P := fun x => Kept m s0 x) ?_ ?_
        · refine startTracking_kept (sub hm) ?_
          exact h
        · exact h
      · refine ite_kept (P := fun x => Kept m s0 x) ?_ ?_
        · refine headCnt_kept (sub hm) ?_
          refine setHead_kept (sub hm) ?_
          exact h
        · exact h

theorem settleTick_kept {α : Type} {m : State → α} (hm : ∀ u, m u = m { u with loops := [] })
    {s0 s : State} {a0 a1 a2} (h : Kept m s0 s) :
    Kept m s0 (settleTick a0 a1 a2 s).1 := by
  unfold settleTick
  extract_lets +onlyGivenNames x1
  clear_value x1
  extract_lets +onlyGivenNames x2
  clear_value x2
  refine fst_kept (P := fun x => Kept m s0 x) ?_
  refine setLoop_kept (sub hm) ?_
  exact h

theorem focusSettled_kept {α : Type} {m : State → α} (hm : ∀ u, m u = m { u with evq := [], loops := [] })
    {s0 s : State} {a0} (h : Kept m s0 s) :
    Kept m s0 (focusSettled a0 s) := by
  unfold focusSettled
  extract_lets +onlyGivenNames x1
  clear_value x1
  refine ite_kept (P := fun x => Kept m s0 x) ?_ ?_
  · refine emit_kept (sub hm) ?_
    refine setLoop_kept (sub hm) ?_
    exact h
  · exact h

theorem focusTests_kept {α : Type} {m : State → α} (hm : ∀ u, m u = m { u with regs := [], evq := [], out := [], msixPend := 0, links := [], recs := [], engs := [], loops := [], heads := [] })
    {s0 s : State} {a0} (h : Kept m s0 s) :
    Kept m s0 (focusTests a0 s) := by
  unfold focusTests
  extract_lets +onlyGivenNames x1
  clear_value x1
  extract_lets +onlyGivenNames x2
  clear_value x2
  split
  · rename_i v3 v4 v5 v6
    have h7 : Kept m s0 ((v4, v5)).1 := by
      rw [← v6]
      refine settleTick_kept (sub hm) ?_
      exact h
    extract_lets +onlyGivenNames x8
    have h9 : Kept m s0 x8 := by
      unfold x8
      refine ite_kept (P := fun x => Kept m s0 x) ?_ ?_
      · refine focusSettled_kept (sub hm) ?_
        refine showLoop_kept (sub hm) ?_
        refine fset_kept (sub hm) ?_
        exact h7
      · exact h7
    clear_value x8
    extract_lets +onlyGivenNames x10
    clear_value x10
    extract_lets +onlyGivenNames x11
    clear_value x11
    extract_lets +onlyGivenNames x12
    clear_value x12
    extract_lets +onlyGivenNames x13
    clear_value x13
    extract_lets +onlyGivenNames x14
    have h15 : Kept m s0 x14 := by
      unfold x14
      refine setLoop_kept (sub hm) ?_
      exact h9
    clear_value x14
    refine ite_kept (P := fun x => Kept m s0 x) ?_ ?_
    · refine focusLost_kept (sub hm) ?_
      exact h15
    · exact h15

theorem trackingClose_kept {α : Type} {m : State → α} (hm : ∀ u, m u = m { u with regs := [], engs := [], loops := [] })
    {s0 s : State} {a0} (h : Kept m s0 s) :
    Kept m s0 (trackingClose a0 s) := by
  unfold trackingClose
  extract_lets +onlyGivenNames x1
  clear_value x1
  refine showLoop_kept (sub hm) ?_
  refine cnt_kept (sub hm) ?_
  refine loopState_kept (sub hm) ?_
  refine setLoop_kept (sub hm) ?_
  exact h

theorem ownSeek_kept {α : Type} {m : State → α} (hm : ∀ u, m u = m { u with heads := [] })
    {s0 s : State} {a0 a1} (h : Kept m s0 s) :
    Kept m s0 (ownSeek a0 a1 s) := by
  unfold ownSeek
  refine setHead_kept (sub hm) ?_
  exact h

theorem gapFail_kept {α : Type} {m : State → α} (hm : ∀ u, m u = m { u with regs := [], evq := [], out := [], msixPend := 0, recs := [], engs := [], heads := [] })
    {s0 s : State} {a0} (h : Kept m s0 s) :
    Kept m s0 (gapFail a0 s) := by
  unfold gapFail
  extract_lets +onlyGivenNames x1
  clear_value x1
  split
  · rename_i v2 v3
    exact h
  · rename_i v4 v5 v6
    extract_lets +onlyGivenNames x7
    clear_value x7
    extract_lets +onlyGivenNames x8
    have h9 : Kept m s0 x8 := by
      unfold x8
      refine mcState_kept (sub hm) ?_
      beta_reduce
      refine ite_kept (P := fun x => Kept m s0 x) ?_ ?_
      · refine showLoop_kept (sub hm) ?_
        refine loopState_kept (sub hm) ?_
        refine setHead_kept (sub hm) ?_
        refine suspend_kept (sub hm) ?_
        refine emit_kept (sub hm) ?_
        refine raiseMc_kept (sub hm) ?_
        refine headCnt_kept (sub hm) ?_
        exact h
      · refine setHead_kept (sub hm) ?_
        refine suspend_kept (sub hm) ?_
        refine emit_kept (sub hm) ?_
        refine raiseMc_kept (sub hm) ?_
        refine headCnt_kept (sub hm) ?_
        exact h
    clear_value x8
    refine ite_kept (P := fun x => Kept m s0 x) ?_ ?_
    · refine ownSeek_kept (sub hm) ?_
      refine setHead_kept (sub hm) ?_
      exact h9
    · exact h9

theorem gapJumpTick_kept {α : Type} {m : State → α} (hm : ∀ u, m u = m { u with regs := [], evq := [], out := [], msixPend := 0, links := [], recs := [], engs := [], loops := [], heads := [] })
    {s0 s : State} {a0} (h : Kept m s0 s) :
    Kept m s0 (gapJumpTick a0 s) := by
  unfold gapJumpTick
  extract_lets +onlyGivenNames x1
  clear_value x1
  refine ite_kept (P := fun x => Kept m s0 x) ?_ ?_
  · refine gapFail_kept (sub hm) ?_
    exact h
  · refine ite_kept (P := fun x => Kept m s0 x) ?_ ?_
    · refine jumpOut_kept (sub hm) ?_
      exact h
    · refine loopFilter_kept (sub hm) ?_
      refine showLoop_kept (sub hm) ?_
      refine setLoop_kept (sub hm) ?_
      refine loopState_kept (sub hm) ?_
      exact h

theorem gapOk_kept {α : Type} {m : State → α} (hm : ∀ u, m u = m { u with regs := [], out := [], msixPend := 0, heads := [] })
    {s0 s : State} {a0} (h : Kept m s0 s) :
    Kept m s0 (gapOk a0 s) := by
  unfold gapOk
  extract_lets +onlyGivenNames x1
  clear_value x1
  extract_lets +onlyGivenNames x2
  clear_value x2
  extract_lets +onlyGivenNames x3
  have h4 : Kept m s0 x3 := by
    unfold x3
    refine onTrack_kept (sub hm) ?_
    refine pmc_kept (sub hm) ?_
    refine cnt_kept (sub hm) ?_
    refine setHead_kept (sub hm) ?_
    exact h
  clear_value x3
  refine ite_kept (P := fun x => Kept m s0 x) ?_ ?_
  · refine seekDone_kept (sub hm) ?_
    exact h4
  · exact h4

theorem gapSettle_kept {α : Type} {m : State → α} (hm : ∀ u, m u = m { u with regs := [], out := [], msixPend := 0, loops := [], heads := [] })
    {s0 s : State} {a0} (h : Kept m s0 s) :
    Kept m s0 (gapSettle a0 s) := by
  unfold gapSettle
  refine ite_kept (P := fun x => Kept m s0 x) ?_ ?_
  · split
    · rename_i v1 v2 v3 v4
      have h5 : Kept m s0 ((v2, v3)).1 := by
        rw [← v4]
        refine settleTick_kept (sub hm) ?_
        exact h
      refine ite_kept (P := fun x => Kept m s0 x) ?_ ?_
      · refine gapOk_kept (sub hm) ?_
        exact h5
      · exact h5
  · exact h

theorem trackingLost_kept {α : Type} {m : State → α} (hm : ∀ u, m u = m { u with regs := [], evq := [], out := [], msixPend := 0, links := [], recs := [], engs := [], loops := [] })
    {s0 s : State} {a0 a1} (h : Kept m s0 s) :
    Kept m s0 (trackingLost a0 a1 s) := by
  unfold trackingLost
  extract_lets +onlyGivenNames x1
  clear_value x1
  refine ite_kept (P := fun x => Kept m s0 x) ?_ ?_
  · refine startTracking_kept (sub hm) ?_
    refine posInvalid_kept (sub hm) ?_
    refine cnt_kept (sub hm) ?_
    refine tripIfWriting_kept (sub hm) ?_
    refine emit_kept (sub hm) ?_
    exact h
  · exact h

theorem trackingTests_kept {α : Type} {m : State → α} (hm : ∀ u, m u = m { u with regs := [], evq := [], out := [], msixPend := 0, links := [], recs := [], engs := [], loops := [] })
    {s0 s : State} {a0} (h : Kept m s0 s) :
    Kept m s0 (trackingTests a0 s) := by
  unfold trackingTests
  extract_lets +onlyGivenNames x1
  clear_value x1
  extract_lets +onlyGivenNames x2
  clear_value x2
  extract_lets +onlyGivenNames x3
  clear_value x3
  split
  · rename_i v4 v5 v6 v7
    have h8 : Kept m s0 ((v5, v6)).1 := by
      rw [← v7]
      refine settleTick_kept (sub hm) ?_
      exact h
    extract_lets +onlyGivenNames x9
    have h10 : Kept m s0 x9 := by
      unfold x9
      refine ite_kept (P := fun x => Kept m s0 x) ?_ ?_
      · refine showLoop_kept (sub hm) ?_
        refine fset_kept (sub hm) ?_
        exact h8
      · exact h8
    clear_value x9
    extract_lets +onlyGivenNames x11
    clear_value x11
    extract_lets +onlyGivenNames x12
    clear_value x12
    extract_lets +onlyGivenNames x13
    have h14 : Kept m s0 x13 := by
      unfold x13
      refine setLoop_kept (sub hm) ?_
      exact h10
    clear_value x13
    refine ite_kept (P := fun x => Kept m s0 x) ?_ ?_
    · refine trackingLost_kept (sub hm) ?_
      exact h14
    · exact h14

theorem loopRun_kept {α : Type} {m : State → α} (hm : ∀ u, m u = m { u with regs := [], evq := [], out := [], msixPend := 0, links := [], recs := [], engs := [], pgs := [], loops := [], heads := [] })
    {s0 s : State} {a0} (h : Kept m s0 s) :
    Kept m s0 (loopRun a0 s) := by
  unfold loopRun
  extract_lets +onlyGivenNames x1
  clear_value x1
  extract_lets +onlyGivenNames x2
  clear_value x2
  refine ite_kept (P := fun x => Kept m s0 x) ?_ ?_
  · refine ite_kept (P := fun x => Kept m s0 x) ?_ ?_
    · refine focusCapture_kept (sub hm) ?_
      exact h
    · refine ite_kept (P := fun x => Kept m s0 x) ?_ ?_
      · refine layerFocusTick_kept (sub hm) ?_
        exact h
      · refine ite_kept (P := fun x => Kept m s0 x) ?_ ?_
        · refine layerProgress_kept (sub hm) ?_
          refine focusTests_kept (sub hm) ?_
          refine loopFilter_kept (sub hm) ?_
          exact h
        · refine rampTick_kept (sub hm) ?_
          exact h
  · refine ite_kept (P := fun x => Kept m s0 x) ?_ ?_
    · split
      · rename_i v3 v4 v5 v6 v7
        have h8 : Kept m s0 ((v4, v5, v6)).1 := by
          rw [← v7]
          refine crossTick_kept (sub hm) ?_
          exact h
        refine ite_kept (P := fun x => Kept m s0 x) ?_ ?_
        · refine ite_kept (P := fun x => Kept m s0 x) ?_ ?_
          · refine trackingClose_kept (sub hm) ?_
            exact h8
          · exact h8
        · refine ite_kept (P := fun x => Kept m s0 x) ?_ ?_
          · refine ite_kept (P := fun x => Kept m s0 x) ?_ ?_
            · refine gapJumpTick_kept (sub hm) ?_
              exact h8
            · refine loopOut_kept (sub hm) ?_
              exact h8
          · refine ite_kept (P := fun x => Kept m s0 x) ?_ ?_
            · refine gapSettle_kept (sub hm) ?_
              refine trackingTests_kept (sub hm) ?_
              refine loopFilter_kept (sub hm) ?_
              exact h8
            · refine rampTick_kept (sub hm) ?_
              exact h8
    · extract_lets +onlyGivenNames x9
      have h10 : Kept m s0 x9 := by
        unfold x9
        refine ite_kept (P := fun x => Kept m s0 x) ?_ ?_
        · refine showLoop_kept (sub hm) ?_
          refine loopState_kept (sub hm) ?_
          exact h
        · exact h
      clear_value x9
      refine ite_kept (P := fun x => Kept m s0 x) ?_ ?_
      · extract_lets +onlyGivenNames x11
        have h12 : Kept m s0 x11 := by
          unfold x11
          refine loopFilter_kept (sub hm) ?_
          exact h10
        clear_value x11
        split
        · rename_i v13 v14 v15 v16
          have h17 : Kept m s0 ((v14, v15)).1 := by
            rw [← v16]
            refine settleTick_kept (sub hm) ?_
            exact h12
          refine fsetB_kept (sub hm) ?_
          exact h17
      · refine rampTick_kept (sub hm) ?_
        exact h10

theorem holdEnd_kept {α : Type} {m : State → α} (hm : ∀ u, m u = m { u with regs := [], engs := [], loops := [] })
    {s0 s : State} {a0} (h : Kept m s0 s) :
    Kept m s0 (holdEnd a0 s) := by
  unfold holdEnd
  extract_lets +onlyGivenNames x1
  clear_value x1
  extract_lets +onlyGivenNames x2
  have h3 : Kept m s0 x2 := by
    unfold x2
    refine fset_kept (sub hm) ?_
    refine setLoop_kept (sub hm) ?_
    exact h
  clear_value x2
  refine ite_kept (P := fun x => Kept m s0 x) ?_ ?_
  · refine showLoop_kept (sub hm) ?_
    refine loopState_kept (sub hm) ?_
    exact h3
  · exact h3

theorem tiltCoil_kept {α : Type} {m : State → α} (hm : ∀ u, m u = m { u with regs := [], evq := [], out := [], msixPend := 0, links := [], engs := [] })
    {s0 s : State} {a0 a1 a2} (h : Kept m s0 s) :
    Kept m s0 (tiltCoil a0 a1 a2 s) := by
  unfold tiltCoil
  extract_lets +onlyGivenNames x1
  clear_value x1
  refine coilCommand_kept (sub hm) ?_
  refine setPort_kept (sub hm) ?_
  exact h

theorem tiltCoils_kept {α : Type} {m : State → α} (hm : ∀ u, m u = m { u with regs := [], evq := [], out := [], msixPend := 0, links := [], engs := [], heads := [] })
    {s0 s : State} {a0} (h : Kept m s0 s) :
    Kept m s0 (tiltCoils a0 s) := by
  unfold tiltCoils
  extract_lets +onlyGivenNames x1
  clear_value x1
  extract_lets +onlyGivenNames x2
  clear_value x2
  extract_lets +onlyGivenNames x3
  clear_value x3
  extract_lets +onlyGivenNames x4
  clear_value x4
  extract_lets +onlyGivenNames x5
  clear_value x5
  split
  · rename_i v6 v7 v8 v9
    extract_lets +onlyGivenNames x10
    clear_value x10
    extract_lets +onlyGivenNames x11
    clear_value x11
    refine tiltCoil_kept (sub hm) ?_
    refine tiltCoil_kept (sub hm) ?_
    refine setHead_kept (sub hm) ?_
    refine fsetI_kept (sub hm) ?_
    exact h

theorem loopTick_kept {α : Type} {m : State → α} (hm : ∀ u, m u = m { u with regs := [], evq := [], out := [], msixPend := 0, links := [], recs := [], engs := [], pgs := [], loops := [], heads := [] })
    {s0 s : State} {a0} (h : Kept m s0 s) :
    Kept m s0 (loopTick a0 s) := by
  unfold loopTick
  extract_lets +onlyGivenNames x1
  clear_value x1
  extract_lets +onlyGivenNames x2
  have h3 : Kept m s0 x2 := by
    unfold x2
    refine ite_kept (P := fun x => Kept m s0 x) ?_ ?_
    · refine fsetI_kept (sub hm) ?_
      refine polarity_kept (sub hm) ?_
      exact h
    · exact h
  clear_value x2
  extract_lets +onlyGivenNames x4
  have h5 : Kept m s0 x4 := by
    unfold x4
    refine ite_kept (P := fun x => Kept m s0 x) ?_ ?_
    · refine fsetI_kept (sub hm) ?_
      exact h3
    · exact h3
  clear_value x4
  extract_lets +onlyGivenNames x6
  clear_value x6
  extract_lets +onlyGivenNames x7
  have h8 : Kept m s0 x7 := by
    unfold x7
    refine ite_kept (P := fun x => Kept m s0 x) ?_ ?_
    · refine swapBank_kept (sub hm) ?_
      exact h5
    · exact h5
  clear_value x7
  refine ite_kept (P := fun x => Kept m s0 x) ?_ ?_
  · refine showLoop_kept (sub hm) ?_
    refine fset_kept (sub hm) ?_
    refine loopState_kept (sub hm) ?_
    exact h8
  · split
    · rename_i v9 v10 v11
      refine ite_kept (P := fun x => Kept m s0 x) ?_ ?_
      · refine lostRamps_kept (sub hm) ?_
        refine lostFeedbackTrip_kept (sub hm) ?_
        exact h8
      · refine rampTick_kept (sub hm) ?_
        exact h8
    · rename_i v12 v13
      extract_lets +onlyGivenNames x14
      clear_value x14
      extract_lets +onlyGivenNames x15
      clear_value x15
      extract_lets +onlyGivenNames x16
      clear_value x16
      extract_lets +onlyGivenNames x17
      have h18 : Kept m s0 x17 := by
        unfold x17
        refine ite_kept (P := fun x => Kept m s0 x) ?_ ?_
        · refine holdTick_kept (sub hm) ?_
          exact h8
        · refine ite_kept (P := fun x => Kept m s0 x) ?_ ?_
          · exact h8
          · refine loopRun_kept (sub hm) ?_
            refine holdEnd_kept (sub hm) ?_
            exact h8
      clear_value x17
      refine ite_kept (P := fun x => Kept m s0 x) ?_ ?_
      · refine tiltCoils_kept (sub hm) ?_
        exact h18
      · exact h18

theorem followTick_kept {α : Type} {m : State → α} (hm : ∀ u, m u = m { u with regs := [], engs := [], sleds := [] })
    {s0 s : State} {a0} (h : Kept m s0 s) :
    Kept m s0 (followTick a0 s) := by
  unfold followTick
  extract_lets +onlyGivenNames x1
  clear_value x1
  extract_lets +onlyGivenNames x2
  clear_value x2
  extract_lets +onlyGivenNames x3
  clear_value x3
  refine ite_kept (P := fun x => Kept m s0 x) ?_ ?_
  · exact h
  · extract_lets +onlyGivenNames x4
    clear_value x4
    extract_lets +onlyGivenNames x5
    clear_value x5
    extract_lets +onlyGivenNames x6
    clear_value x6
    extract_lets +onlyGivenNames x7
    have h8 : Kept m s0 x7 := by
      unfold x7
      refine fsetI_kept (sub hm) ?_
      exact h
    clear_value x7
    refine ite_kept (P := fun x => Kept m s0 x) ?_ ?_
    · refine setPort_kept (sub hm) ?_
      exact h8
    · extract_lets +onlyGivenNames x9
      clear_value x9
      extract_lets +onlyGivenNames x10
      clear_value x10
      extract_lets +onlyGivenNames x11
      clear_value x11
      extract_lets +onlyGivenNames x12
      clear_value x12
      refine setSled_kept (sub hm) ?_
      refine fsetI_kept (sub hm) ?_
      refine setPort_kept (sub hm) ?_
      exact h8

theorem motionTick_kept {α : Type} {m : State → α} (hm : ∀ u, m u = m { u with regs := [], evq := [], out := [], msixPend := 0, engs := [], dmem := [], pgs := [], loops := [], heads := [], commons := [] })
    {s0 s : State} {a0} (h : Kept m s0 s) :
    Kept m s0 (motionTick a0 s) := by
  unfold motionTick
  extract_lets +onlyGivenNames x1
  have h2 : Kept m s0 x1 := by
    unfold x1
    split
    · rename_i v3 v4 v5
      refine ite_kept (P := fun x => Kept m s0 x) ?_ ?_
      · refine startLayerJump_kept (sub hm) ?_
        exact h
      · exact h
    · rename_i v6 v7
      exact h
  clear_value x1
  split
  · rename_i v8 v9
    exact h2
  · rename_i v10 v11 v12
    refine ite_kept (P := fun x => Kept m s0 x) ?_ ?_
    · refine trackingAcquire_kept (sub hm) ?_
      refine setHead_kept (sub hm) ?_
      exact h2
    · refine ite_kept (P := fun x => Kept m s0 x) ?_ ?_
      · refine startTracking_kept (sub hm) ?_
        refine setHead_kept (sub hm) ?_
        exact h2
      · refine ite_kept (P := fun x => Kept m s0 x) ?_ ?_
        · refine setHead_kept (sub hm) ?_
          exact h2
        · exact h2

theorem roleTick_kept {α : Type} {m : State → α} (hm : ∀ u, m u = m { u with regs := [], evq := [], out := [], msixPend := 0, links := [], recs := [], engs := [], dmem := [], pgs := [], loops := [], heads := [], sleds := [], commons := [] })
    {s0 s : State} {a0} (h : Kept m s0 s) :
    Kept m s0 (roleTick a0 s) := by
  unfold roleTick
  refine ite_kept (P := fun x => Kept m s0 x) ?_ ?_
  · refine loopTick_kept (sub hm) ?_
    exact h
  · refine ite_kept (P := fun x => Kept m s0 x) ?_ ?_
    · refine followTick_kept (sub hm) ?_
      exact h
    · refine ite_kept (P := fun x => Kept m s0 x) ?_ ?_
      · refine motionTick_kept (sub hm) ?_
        refine motionTick_kept (sub hm) ?_
        exact h
      · exact h

theorem execEngineWake_kept {α : Type} {m : State → α} (hm : ∀ u, m u = m { u with regs := [], evq := [], out := [], msixPend := 0, links := [], recs := [], engs := [], dmem := [], pgs := [], loops := [], heads := [], sleds := [], commons := [] })
    {s0 s : State} {a0 a1} (h : Kept m s0 s) :
    KeptR m s0 (execEngineWake a0 a1 s) := by
  unfold execEngineWake
  extract_lets +onlyGivenNames x1
  have h2 : Kept m s0 x1 := by
    unfold x1
    refine engEvents_kept (sub hm) ?_
    exact h
  clear_value x1
  refine KeptR.next ?_
  refine ite_kept (P := fun x => Kept m s0 x) ?_ ?_
  · refine roleTick_kept (sub hm) ?_
    exact h2
  · exact h2

theorem lockReject_kept {α : Type} {m : State → α} (hm : ∀ u, m u = m { u with regs := [], evq := [], out := [], msixPend := 0 })
    {s0 s : State} {a0 a1 a3} (h : Kept m s0 s) :
    Kept m s0 (lockReject a0 a1 s a3) := by
  unfold lockReject
  extract_lets +onlyGivenNames x1
  clear_value x1
  refine emitEng_kept (sub hm) ?_
  refine raise_kept (sub hm) ?_
  refine sticky_kept (sub hm) ?_
  exact h

theorem microWrite_kept {α : Type} {m : State → α} (hm : ∀ u, m u = m { u with regs := [], evq := [], out := [], msixPend := 0, ustore := [] })
    {s0 s : State} {a0 a1 a2 a3 a4 a5} (h : Kept m s0 s) :
    Kept m s0 (microWrite a0 a1 a2 a3 a4 a5 s) := by
  unfold microWrite
  refine ite_kept (P := fun x => Kept m s0 x) ?_ ?_
  · refine ite_kept (P := fun x => Kept m s0 x) ?_ ?_
    · refine customerWrite_kept (sub hm) ?_
      exact h
    · refine lockReject_kept (sub hm) ?_
      exact h
  · refine ite_kept (P := fun x => Kept m s0 x) ?_ ?_
    · refine putMicro_kept (sub hm) ?_
      exact h
    · exact h

theorem putNano_kept {α : Type} {m : State → α} (hm : ∀ u, m u = m { u with nstore := [] })
    {s0 s : State} {a0 a1 a2 a3} (h : Kept m s0 s) :
    Kept m s0 (putNano a0 a1 a2 a3 s) := by
  unfold putNano
  extract_lets +onlyGivenNames x1
  clear_value x1
  extract_lets +onlyGivenNames x2
  clear_value x2
  refine Kept.with hm ?_
  exact h

theorem nanoWrite_kept {α : Type} {m : State → α} (hm : ∀ u, m u = m { u with regs := [], evq := [], out := [], msixPend := 0, nstore := [] })
    {s0 s : State} {a0 a1 a2 a3 a4 a5 a6} (h : Kept m s0 s) :
    Kept m s0 (nanoWrite a0 a1 a2 a3 a4 a5 a6 s) := by
  unfold nanoWrite
  refine ite_kept (P := fun x => Kept m s0 x) ?_ ?_
  · refine foldl_kept (P := fun x => Kept m s0 x) ?_ ?_
    · intro y1 y2 y3
      refine lockReject_kept (sub hm) ?_
      exact y3
    · exact h
  · refine ite_kept (P := fun x => Kept m s0 x) ?_ ?_
    · refine putNano_kept (sub hm) ?_
      exact h
    · exact h

theorem storeWrite_kept {α : Type} {m : State → α} (hm : ∀ u, m u = m { u with regs := [], evq := [], out := [], msixPend := 0, ustore := [], nstore := [] })
    {s0 s : State} {a0 a1 a2 a3} (h : Kept m s0 s) :
    Kept m s0 (storeWrite a0 a1 a2 a3 s) := by
  unfold storeWrite
  refine ite_kept (P := fun x => Kept m s0 x) ?_ ?_
  · refine microWrite_kept (sub hm) ?_
    exact h
  · refine ite_kept (P := fun x => Kept m s0 x) ?_ ?_
    · refine nanoWrite_kept (sub hm) ?_
      exact h
    · exact h

theorem writeWord_kept {α : Type} {m : State → α} (hm : ∀ u, m u = m { u with free := 0, regs := [], evq := [], out := [], msix := [], msixPend := 0, msixMask := false, disc := {}, ends := [], lanes := [], links := [], recs := [], engs := [], ustore := [], nstore := [], dmem := [], pgs := [], loops := [], heads := [], spin := {}, sleds := [], chans := [], commons := [], frames := [], blanks := [], dec := {}, encoded := [], opcs := [], betas := [], mem := {}, lanesC := [], claims := [], cl := {}, port := {}, vault := {}, pwr := {}, dev := {}, obs := {} })
    {s0 s : State} {a0 a1 a2 a3} (h : Kept m s0 s) :
    Kept m s0 (writeWord a0 a1 a2 a3 s) := by
  unfold writeWord
  extract_lets +onlyGivenNames x1
  clear_value x1
  refine ite_kept (P := fun x => Kept m s0 x) ?_ ?_
  · extract_lets +onlyGivenNames x2
    have h3 : Kept m s0 x2 := by
      unfold x2
      split
      · rename_i v4 v5 v6 v7
        refine ite_kept (P := fun x => Kept m s0 x) ?_ ?_
        · exact h
        · refine commitLo_kept (sub hm) ?_
          exact h
      · rename_i v8 v9
        exact h
    clear_value x2
    refine setLoHeld_kept (sub hm) ?_
    exact h3
  · refine ite_kept (P := fun x => Kept m s0 x) ?_ ?_
    · split
      · rename_i v10 v11 v12 v13
        refine ite_kept (P := fun x => Kept m s0 x) ?_ ?_
        · refine pairWrite_kept (sub hm) ?_
          refine setLoHeld_kept (sub hm) ?_
          exact h
        · refine pairWrite_kept (sub hm) ?_
          refine commitLo_kept (sub hm) ?_
          exact h
      · rename_i v14 v15
        refine pairWrite_kept (sub hm) ?_
        exact h
    · refine writeReg_kept (sub hm) ?_
      refine commitLo_kept (sub hm) ?_
      exact h

theorem vlqReadDone_kept {α : Type} {m : State → α} (hm : ∀ u, m u = m { u with regs := [] })
    {s0 s : State} {a0 a1} (h : Kept m s0 s) :
    Kept m s0 (vlqReadDone a0 a1 s) := by
  unfold vlqReadDone
  refine bumpIdx_kept (sub hm) ?_
  refine ite_app_kept (P := fun x => Kept m s0 x) ?_ ?_
  · refine sticky_kept (sub hm) ?_
    exact h
  · refine id_kept (P := fun x => Kept m s0 x) ?_
    exact h

theorem readEffect_kept {α : Type} {m : State → α} (hm : ∀ u, m u = m { u with free := 0, regs := [] })
    {s0 s : State} {a0 a1} (h : Kept m s0 s) :
    Kept m s0 (readEffect a0 a1 s) := by
  unfold readEffect
  refine ite_kept (P := fun x => Kept m s0 x) ?_ ?_
  · refine ite_kept (P := fun x => Kept m s0 x) ?_ ?_
    · refine fset_kept (sub hm) ?_
      exact h
    · exact h
  · refine ite_kept (P := fun x => Kept m s0 x) ?_ ?_
    · refine vlqReadDone_kept (sub hm) ?_
      exact h
    · refine ite_kept (P := fun x => Kept m s0 x) ?_ ?_
      · refine vlqReadDone_kept (sub hm) ?_
        exact h
      · refine ite_kept (P := fun x => Kept m s0 x) ?_ ?_
        · refine Kept.freed hm ?_
          exact h
        · refine readClears_kept (sub hm) ?_
          exact h

theorem readReg_kept {α : Type} {m : State → α} (hm : ∀ u, m u = m { u with free := 0, regs := [], claims := [] })
    {s0 s : State} {a0 a1 a2} (h : Kept m s0 s) :
    Kept m s0 (readReg a0 a1 a2 s).2 := by
  unfold readReg
  split
  · rename_i v1 v2 v3
    extract_lets +onlyGivenNames x4
    have h5 : Kept m s0 x4 := by
      unfold x4
      refine claimRead_kept (sub hm) ?_
      exact h
    clear_value x4
    refine snd_kept (P := fun x => Kept m s0 x) ?_
    exact h5
  · rename_i v6 v7
    refine snd_kept (P := fun x => Kept m s0 x) ?_
    refine readEffect_kept (sub hm) ?_
    exact h

theorem setLatches_kept {α : Type} {m : State → α} (hm : ∀ u, m u = m { u with obs := {} })
    {s0 s : State} {a0} (h : Kept m s0 s) :
    Kept m s0 (setLatches a0 s) := by
  unfold setLatches
  refine Kept.with hm ?_
  exact h

theorem readWord_kept {α : Type} {m : State → α} (hm : ∀ u, m u = m { u with free := 0, regs := [], claims := [], obs := {} })
    {s0 s : State} {a0 a1 a2} (h : Kept m s0 s) :
    Kept m s0 (readWord a0 a1 a2 s).2 := by
  unfold readWord
  extract_lets +onlyGivenNames x1
  clear_value x1
  split
  · rename_i v2 v3 v4
    refine snd_kept (P := fun x => Kept m s0 x) ?_
    refine setLatches_kept (sub hm) ?_
    exact h
  · rename_i v5 v6
    refine ite_kept (P := fun (x : _ × _) => Kept m s0 x.2) ?_ ?_
    · extract_lets +onlyGivenNames x7
      clear_value x7
      split
      · rename_i v8 v9 v10 v11
        have h12 : Kept m s0 ((v9, v10)).2 := by
          rw [← v11]
          refine readReg_kept (sub hm) ?_
          exact h
        refine snd_kept (P := fun x => Kept m s0 x) ?_
        refine setLatches_kept (sub hm) ?_
        exact h12
    · refine readReg_kept (sub hm) ?_
      exact h

theorem perform32_kept {α : Type} {m : State → α} (hm : ∀ u, m u = m { u with free := 0, regs := [], evq := [], out := [], msix := [], msixPend := 0, msixMask := false, disc := {}, ends := [], lanes := [], links := [], recs := [], engs := [], ustore := [], nstore := [], dmem := [], pgs := [], loops := [], heads := [], spin := {}, sleds := [], chans := [], commons := [], frames := [], blanks := [], dec := {}, encoded := [], opcs := [], betas := [], mem := {}, lanesC := [], claims := [], cl := {}, port := {}, vault := {}, pwr := {}, dev := {}, obs := {} })
    {s0 s : State} {a0 a1 a2 a3} (h : Kept m s0 s) :
    Kept m s0 (perform32 a0 a1 a2 a3 s).2 := by
  unfold perform32
  extract_lets +onlyGivenNames x1
  clear_value x1
  refine ite_kept (P := fun (x : _ × _) => Kept m s0 x.2) ?_ ?_
  · refine snd_kept (P := fun x => Kept m s0 x) ?_
    refine busError_kept (sub hm) ?_
    exact h
  · refine ite_kept (P := fun (x : _ × _) => Kept m s0 x.2) ?_ ?_
    · split
      · rename_i v2 v3
        refine snd_kept (P := fun x => Kept m s0 x) ?_
        refine storeWrite_kept (sub hm) ?_
        refine commitLo_kept (sub hm) ?_
        exact h
      · rename_i v4
        refine snd_kept (P := fun x => Kept m s0 x) ?_
        exact h
    · extract_lets +onlyGivenNames x5
      clear_value x5
      extract_lets +onlyGivenNames x6
      clear_value x6
      split
      · rename_i v7 v8
        refine ite_kept (P := fun (x : _ × _) => Kept m s0 x.2) ?_ ?_
        · refine snd_kept (P := fun x => Kept m s0 x) ?_
          refine pairWrite_kept (sub hm) ?_
          refine commitLo_kept (sub hm) ?_
          exact h
        · refine snd_kept (P := fun x => Kept m s0 x) ?_
          refine writeWord_kept (sub hm) ?_
          exact h
      · rename_i v9
        refine ite_kept (P := fun (x : _ × _) => Kept m s0 x.2) ?_ ?_
        · extract_lets +onlyGivenNames x10
          clear_value x10
          split
          · rename_i v11 v12 v13 v14
            have h15 : Kept m s0 ((v12, v13)).2 := by
              rw [← v14]
              refine readReg_kept (sub hm) ?_
              exact h
            refine snd_kept (P := fun x => Kept m s0 x) ?_
            exact h15
        · split
          · rename_i v16 v17 v18 v19
            have h20 : Kept m s0 ((v17, v18)).2 := by
              rw [← v19]
              refine readWord_kept (sub hm) ?_
              exact h
            refine snd_kept (P := fun x => Kept m s0 x) ?_
            exact h20

theorem rgFinish_kept {α : Type} {m : State → α} (hm : ∀ u, m u = m { u with regs := [], evq := [], out := [], msixPend := 0, links := [], recs := [], engs := [], dmem := [], chans := [] })
    {s0 s : State} {a0 a1 a2 a3} (h : Kept m s0 s) :
    Kept m s0 (rgFinish a0 a1 a2 a3 s) := by
  unfold rgFinish
  extract_lets +onlyGivenNames x1
  clear_value x1
  extract_lets +onlyGivenNames x2
  have h3 : Kept m s0 x2 := by
    unfold x2
    refine setEng_kept (sub hm) ?_
    exact h
  clear_value x2
  extract_lets +onlyGivenNames x4
  have h5 : Kept m s0 x4 := by
    unfold x4
    split
    · rename_i v6 v7 v8
      split
      · rename_i v9 v10 v11 v12
        refine runWord_kept (sub hm) ?_ ?_
        · intro y13 y14
          refine nanoWord_kept (sub hm) ?_
          exact y14
        · exact h3
    · rename_i v15 v16
      refine runWord_kept (sub hm) ?_ ?_
      · intro y17 y18
        extract_lets +onlyGivenNames x19
        have h20 : Kept m s0 x19 := by
          unfold x19
          refine ite_kept (P := fun x => Kept m s0 x) ?_ ?_
          · refine setRegs_kept (sub hm) ?_
            exact y18
          · exact y18
        clear_value x19
        refine advance_kept (sub hm) ?_
        exact h20
      · exact h3
  clear_value x4
  refine ite_kept (P := fun x => Kept m s0 x) ?_ ?_
  · refine haltNow_kept (sub hm) ?_
    exact h5
  · exact h5

theorem execRgComplete_kept {α : Type} {m : State → α} (hm : ∀ u, m u = m { u with free := 0, regs := [], evq := [], out := [], msix := [], msixPend := 0, msixMask := false, disc := {}, ends := [], lanes := [], links := [], recs := [], engs := [], ustore := [], nstore := [], dmem := [], pgs := [], loops := [], heads := [], spin := {}, sleds := [], chans := [], commons := [], frames := [], blanks := [], dec := {}, encoded := [], opcs := [], betas := [], mem := {}, lanesC := [], claims := [], cl := {}, port := {}, vault := {}, pwr := {}, dev := {}, obs := {} })
    {s0 s : State} {a0 a1} (h : Kept m s0 s) :
    KeptR m s0 (execRgComplete a0 a1 s) := by
  unfold execRgComplete
  refine KeptR.next ?_
  split
  · rename_i v1 v2
    exact h
  · rename_i v3 v4 v5
    extract_lets +onlyGivenNames x6
    have h7 : Kept m s0 x6.2 := by
      unfold x6
      refine perform32_kept (sub hm) ?_
      exact h
    clear_value x6
    split
    · rename_i v8 v9 v10
      refine rgFinish_kept (sub hm) ?_
      exact h7
    · rename_i v11 v12
      refine takeTrap_kept (sub hm) ?_
      exact h7

theorem execRgTimeout_kept {α : Type} {m : State → α} (hm : ∀ u, m u = m { u with regs := [], evq := [], out := [], msixPend := 0, links := [], recs := [], engs := [], dmem := [] })
    {s0 s : State} {a0} (h : Kept m s0 s) :
    KeptR m s0 (execRgTimeout a0 s) := by
  unfold execRgTimeout
  refine KeptR.next ?_
  split
  · rename_i v1 v2
    exact h
  · rename_i v3 v4 v5
    refine takeTrap_kept (sub hm) ?_
    exact h

theorem execNanoWord_kept {α : Type} {m : State → α} (hm : ∀ u, m u = m { u with regs := [], evq := [], out := [], msixPend := 0, links := [], recs := [], engs := [], dmem := [], chans := [] })
    {s0 s : State} {a0 a1 a2} (h : Kept m s0 s) :
    KeptR m s0 (execNanoWord a0 a1 a2 s) := by
  unfold execNanoWord
  refine KeptR.next ?_
  refine runNano_kept (sub hm) ?_
  exact h

theorem execCustomerBudgetExhausted_kept {α : Type} {m : State → α} (hm : ∀ u, m u = m { u with regs := [], evq := [], out := [], msixPend := 0, engs := [] })
    {s0 s : State} {a0} (h : Kept m s0 s) :
    KeptR m s0 (execCustomerBudgetExhausted a0 s) := by
  unfold execCustomerBudgetExhausted
  refine KeptR.next ?_
  refine ite_kept (P := fun x => Kept m s0 x) ?_ ?_
  · refine custFail_kept (sub hm) ?_
    exact h
  · exact h

theorem execTickOverrun_kept {α : Type} {m : State → α} (hm : ∀ u, m u = m { u with regs := [], evq := [], out := [], msixPend := 0, engs := [] })
    {s0 s : State} {a0} (h : Kept m s0 s) :
    KeptR m s0 (execTickOverrun a0 s) := by
  unfold execTickOverrun
  refine KeptR.next ?_
  refine ite_kept (P := fun x => Kept m s0 x) ?_ ?_
  · refine tickOverrun_kept (sub hm) ?_
    refine cnt_kept (sub hm) ?_
    exact h
  · exact h

theorem execDoorbell_kept {α : Type} {m : State → α} (hm : ∀ u, m u = m { u with regs := [], evq := [], out := [], msixPend := 0, engs := [] })
    {s0 s : State} {a0} (h : Kept m s0 s) :
    KeptR m s0 (execDoorbell a0 s) := by
  unfold execDoorbell
  refine KeptR.next ?_
  refine engEvents_kept (sub hm) ?_
  exact h

theorem execStoreWindowWrite_kept {α : Type} {m : State → α} (hm : ∀ u, m u = m { u with regs := [], evq := [], out := [], msixPend := 0, ustore := [], nstore := [] })
    {s0 s : State} {a0 a1 a2 a3} (h : Kept m s0 s) :
    KeptR m s0 (execStoreWindowWrite a0 a1 a2 a3 s) := by
  unfold execStoreWindowWrite
  refine KeptR.next ?_
  refine storeWrite_kept (sub hm) ?_
  exact h

theorem execCustomerRegionWrite_kept {α : Type} {m : State → α} (hm : ∀ u, m u = m { u with regs := [], out := [], msixPend := 0, ustore := [] })
    {s0 s : State} {a0 a1 a2} (h : Kept m s0 s) :
    KeptR m s0 (execCustomerRegionWrite a0 a1 a2 s) := by
  unfold execCustomerRegionWrite
  refine KeptR.next ?_
  refine ite_kept (P := fun x => Kept m s0 x) ?_ ?_
  · refine customerWrite_kept (sub hm) ?_
    exact h
  · exact h

theorem execCustArm_kept {α : Type} {m : State → α} (hm : ∀ u, m u = m { u with regs := [], engs := [] })
    {s0 s : State} {a0 a1} (h : Kept m s0 s) :
    KeptR m s0 (execCustArm a0 a1 s) := by
  unfold execCustArm
  refine KeptR.next ?_
  refine custArm_kept (sub hm) ?_
  exact h

end Sys2Proof.Machine
end

