-- ==== Sys2Proof/Laws/KeptF.lean ====
section
/-!
SUPPORT. What the operations change and what they keep, part F.
-/
set_option Elab.async false

namespace Sys2Proof.Machine

theorem execCustArmed_kept {α : Type} {m : State → α} (hm : ∀ u, m u = m { u with regs := [], evq := [], engs := [], vault := {} })
    {s0 s : State} {a0} (h : Kept m s0 s) :
    KeptR m s0 (execCustArmed a0 s) := by
  unfold execCustArmed
  extract_lets +onlyGivenNames x1
  clear_value x1
  refine ite_kept (P := fun x => KeptR m s0 x) ?_ ?_
  · extract_lets +onlyGivenNames x2
    clear_value x2
    refine KeptR.next ?_
    refine measure_kept (sub hm) ?_
    refine emitEng_kept (sub hm) ?_
    refine fset_kept (sub hm) ?_
    refine fset_kept (sub hm) ?_
    refine setEng_kept (sub hm) ?_
    exact h
  · refine KeptR.next ?_
    exact h

theorem showPg_kept {α : Type} {m : State → α} (hm : ∀ u, m u = m { u with regs := [] })
    {s0 s : State} {a0} (h : Kept m s0 s) :
    Kept m s0 (showPg a0 s) := by
  unfold showPg
  extract_lets +onlyGivenNames x1
  clear_value x1
  extract_lets +onlyGivenNames x2
  clear_value x2
  extract_lets +onlyGivenNames x3
  clear_value x3
  refine fsetI_kept (sub hm) ?_
  refine fsetI_kept (sub hm) ?_
  refine fset_kept (sub hm) ?_
  refine fset_kept (sub hm) ?_
  exact h

theorem pgRest_kept {α : Type} {m : State → α} (hm : ∀ u, m u = m { u with regs := [], out := [], msixPend := 0, pgs := [] })
    {s0 s : State} {a0 a1} (h : Kept m s0 s) :
    Kept m s0 (pgRest a0 a1 s) := by
  unfold pgRest
  extract_lets +onlyGivenNames x1
  clear_value x1
  refine showPg_kept (sub hm) ?_
  refine raise_kept (sub hm) ?_
  refine setPgState_kept (sub hm) ?_
  refine fset_kept (sub hm) ?_
  refine fset_kept (sub hm) ?_
  refine setPg_kept (sub hm) ?_
  exact h

theorem tableTick_kept {α : Type} {m : State → α} (hm : ∀ u, m u = m { u with regs := [], out := [], msixPend := 0, pgs := [] })
    {s0 s : State} {a0} (h : Kept m s0 s) :
    Kept m s0 (tableTick a0 s) := by
  unfold tableTick
  extract_lets +onlyGivenNames x1
  clear_value x1
  split
  · rename_i v2 v3
    refine pgRest_kept (sub hm) ?_
    exact h
  · rename_i v4 v5 v6 v7 v8 v9 v10
    extract_lets +onlyGivenNames x11
    clear_value x11
    extract_lets +onlyGivenNames x12
    clear_value x12
    extract_lets +onlyGivenNames x13
    clear_value x13
    extract_lets +onlyGivenNames x14
    have h15 : Kept m s0 x14 := by
      unfold x14
      refine ite_kept (P := fun x => Kept m s0 x) ?_ ?_
      · refine sticky_kept (sub hm) ?_
        exact h
      · exact h
    clear_value x14
    refine ite_kept (P := fun x => Kept m s0 x) ?_ ?_
    · refine setPg_kept (sub hm) ?_
      exact h15
    · extract_lets +onlyGivenNames x16
      have h17 : Kept m s0 x16 := by
        unfold x16
        refine setPg_kept (sub hm) ?_
        exact h15
      clear_value x16
      refine ite_kept (P := fun x => Kept m s0 x) ?_ ?_
      · refine latchSeg_kept (sub hm) ?_
        exact h17
      · refine pgRest_kept (sub hm) ?_
        exact h17

theorem planTick_kept {α : Type} {m : State → α} (hm : ∀ u, m u = m { u with regs := [], out := [], msixPend := 0, pgs := [] })
    {s0 s : State} {a0} (h : Kept m s0 s) :
    Kept m s0 (planTick a0 s) := by
  unfold planTick
  extract_lets +onlyGivenNames x1
  clear_value x1
  split
  · rename_i v2 v3 v4 v5 v6 v7
    extract_lets +onlyGivenNames x8
    clear_value x8
    extract_lets +onlyGivenNames x9
    have h10 : Kept m s0 x9 := by
      unfold x9
      refine setPg_kept (sub hm) ?_
      exact h
    clear_value x9
    refine ite_kept (P := fun x => Kept m s0 x) ?_ ?_
    · refine pgRest_kept (sub hm) ?_
      exact h10
    · exact h10

theorem pgChannelTick_kept {α : Type} {m : State → α} (hm : ∀ u, m u = m { u with regs := [], out := [], msixPend := 0, pgs := [] })
    {s0 s : State} {a1} (h : Kept m s0 s) :
    Kept m s0 (pgChannelTick s a1) := by
  unfold pgChannelTick
  refine ite_kept (P := fun x => Kept m s0 x) ?_ ?_
  · refine ite_kept (P := fun x => Kept m s0 x) ?_ ?_
    · refine showPg_kept (sub hm) ?_
      refine setPgState_kept (sub hm) ?_
      refine setPg_kept (sub hm) ?_
      exact h
    · exact h
  · refine ite_kept (P := fun x => Kept m s0 x) ?_ ?_
    · refine showPg_kept (sub hm) ?_
      refine tableTick_kept (sub hm) ?_
      exact h
    · refine ite_kept (P := fun x => Kept m s0 x) ?_ ?_
      · refine showPg_kept (sub hm) ?_
        refine planTick_kept (sub hm) ?_
        exact h
      · exact h

theorem execPgTick_kept {α : Type} {m : State → α} (hm : ∀ u, m u = m { u with regs := [], out := [], msixPend := 0, pgs := [] })
    {s0 s : State} (h : Kept m s0 s) :
    KeptR m s0 (execPgTick s) := by
  unfold execPgTick
  refine KeptR.next ?_
  refine foldl_kept (P := fun x => Kept m s0 x) ?_ ?_
  · intro y1 y2 y3
    refine pgChannelTick_kept (sub hm) ?_
    exact y3
  · exact h

theorem execPgGo_kept {α : Type} {m : State → α} (hm : ∀ u, m u = m { u with regs := [], pgs := [] })
    {s0 s : State} {a0} (h : Kept m s0 s) :
    KeptR m s0 (execPgGo a0 s) := by
  unfold execPgGo
  refine KeptR.next ?_
  refine pgGo_kept (sub hm) ?_
  exact h

theorem execPgStop_kept {α : Type} {m : State → α} (hm : ∀ u, m u = m { u with regs := [], pgs := [] })
    {s0 s : State} {a0} (h : Kept m s0 s) :
    KeptR m s0 (execPgStop a0 s) := by
  unfold execPgStop
  refine KeptR.next ?_
  refine pgStop_kept (sub hm) ?_
  exact h

theorem execPgLimitWrite_kept {α : Type} {m : State → α} (hm : ∀ u, m u = m { u with regs := [], pgs := [] })
    {s0 s : State} {a0 a1 a2} (h : Kept m s0 s) :
    KeptR m s0 (execPgLimitWrite a0 a1 a2 s) := by
  unfold execPgLimitWrite
  refine KeptR.next ?_
  refine pgSetLimit_kept (sub hm) ?_
  exact h

theorem execPgTargetWrite_kept {α : Type} {m : State → α} (hm : ∀ u, m u = m { u with regs := [] })
    {s0 s : State} {a0 a1} (h : Kept m s0 s) :
    KeptR m s0 (execPgTargetWrite a0 a1 s) := by
  unfold execPgTargetWrite
  refine KeptR.next ?_
  refine pgSetTarget_kept (sub hm) ?_
  exact h

theorem execPlausRearm_kept {α : Type} {m : State → α} (hm : ∀ u, m u = m { u with regs := [], engs := [] })
    {s0 s : State} {a0} (h : Kept m s0 s) :
    KeptR m s0 (execPlausRearm a0 s) := by
  unfold execPlausRearm
  refine KeptR.next ?_
  refine rearm_kept (sub hm) ?_
  exact h

theorem execBankSwap_kept {α : Type} {m : State → α} (hm : ∀ u, m u = m { u with regs := [] })
    {s0 s : State} {a0 a1} (h : Kept m s0 s) :
    KeptR m s0 (execBankSwap a0 a1 s) := by
  unfold execBankSwap
  refine KeptR.next ?_
  refine fset_kept (sub hm) ?_
  exact h

theorem sweepEnd_kept {α : Type} {m : State → α} (hm : ∀ u, m u = m { u with regs := [], evq := [], out := [], msixPend := 0, links := [], engs := [], pgs := [], loops := [], heads := [] })
    {s0 s : State} {a0} (h : Kept m s0 s) :
    Kept m s0 (sweepEnd a0 s) := by
  unfold sweepEnd
  extract_lets +onlyGivenNames x1
  clear_value x1
  extract_lets +onlyGivenNames x2
  clear_value x2
  refine ite_kept (P := fun x => Kept m s0 x) ?_ ?_
  · exact h
  · refine ite_kept (P := fun x => Kept m s0 x) ?_ ?_
    · refine startFocus_kept (sub hm) ?_
      refine setHead_kept (sub hm) ?_
      exact h
    · refine emit_kept (sub hm) ?_
      refine mcState_kept (sub hm) ?_
      refine retract_kept (sub hm) ?_
      refine showLoop_kept (sub hm) ?_
      refine loopState_kept (sub hm) ?_
      exact h

theorem execFocusSweepEnd_kept {α : Type} {m : State → α} (hm : ∀ u, m u = m { u with regs := [], evq := [], out := [], msixPend := 0, links := [], engs := [], pgs := [], loops := [], heads := [] })
    {s0 s : State} {a0} (h : Kept m s0 s) :
    KeptR m s0 (execFocusSweepEnd a0 s) := by
  unfold execFocusSweepEnd
  refine KeptR.next ?_
  refine sweepEnd_kept (sub hm) ?_
  exact h

theorem execLoopPark_kept {α : Type} {m : State → α} (hm : ∀ u, m u = m { u with regs := [], engs := [], loops := [] })
    {s0 s : State} {a0 a1} (h : Kept m s0 s) :
    KeptR m s0 (execLoopPark a0 a1 s) := by
  unfold execLoopPark
  refine KeptR.next ?_
  refine parkLoop_kept (sub hm) ?_
  exact h

theorem execFocusLost_kept {α : Type} {m : State → α} (hm : ∀ u, m u = m { u with regs := [], evq := [], out := [], msixPend := 0, links := [], recs := [], engs := [], loops := [], heads := [] })
    {s0 s : State} {a0 a1} (h : Kept m s0 s) :
    KeptR m s0 (execFocusLost a0 a1 s) := by
  unfold execFocusLost
  refine KeptR.next ?_
  refine focusLost_kept (sub hm) ?_
  exact h

theorem execTrackingLost_kept {α : Type} {m : State → α} (hm : ∀ u, m u = m { u with regs := [], evq := [], out := [], msixPend := 0, links := [], recs := [], engs := [], loops := [] })
    {s0 s : State} {a0 a1} (h : Kept m s0 s) :
    KeptR m s0 (execTrackingLost a0 a1 s) := by
  unfold execTrackingLost
  refine KeptR.next ?_
  refine trackingLost_kept (sub hm) ?_
  exact h

theorem execLostFeedback_kept {α : Type} {m : State → α} (hm : ∀ u, m u = m { u with regs := [], evq := [], out := [], msixPend := 0, links := [], recs := [], loops := [], heads := [] })
    {s0 s : State} {a0 a1 a2} (h : Kept m s0 s) :
    KeptR m s0 (execLostFeedback a0 a1 a2 s) := by
  unfold execLostFeedback
  extract_lets +onlyGivenNames x1
  clear_value x1
  refine KeptR.next ?_
  refine dropTracking_kept (sub hm) ?_
  refine retract_kept (sub hm) ?_
  refine lostFeedbackTrip_kept (sub hm) ?_
  exact h

theorem reacquire_kept {α : Type} {m : State → α} (hm : ∀ u, m u = m { u with regs := [], evq := [], out := [], msixPend := 0, links := [], engs := [], pgs := [], loops := [], heads := [] })
    {s0 s : State} {a0} (h : Kept m s0 s) :
    Kept m s0 (reacquire a0 s) := by
  unfold reacquire
  refine startFocus_kept (sub hm) ?_
  refine setHead_kept (sub hm) ?_
  refine rearm_kept (sub hm) ?_
  refine rearm_kept (sub hm) ?_
  refine rearm_kept (sub hm) ?_
  exact h

theorem execReAcquisition_kept {α : Type} {m : State → α} (hm : ∀ u, m u = m { u with regs := [], evq := [], out := [], msixPend := 0, links := [], engs := [], pgs := [], loops := [], heads := [] })
    {s0 s : State} {a0 a1} (h : Kept m s0 s) :
    KeptR m s0 (execReAcquisition a0 a1 s) := by
  unfold execReAcquisition
  extract_lets +onlyGivenNames x1
  clear_value x1
  extract_lets +onlyGivenNames x2
  clear_value x2
  refine ite_kept (P := fun x => KeptR m s0 x) ?_ ?_
  · refine KeptR.next ?_
    refine ite_kept (P := fun x => Kept m s0 x) ?_ ?_
    · refine reacquire_kept (sub hm) ?_
      exact h
    · exact h
  · extract_lets +onlyGivenNames x3
    clear_value x3
    refine ite_kept (P := fun x => KeptR m s0 x) ?_ ?_
    · refine KeptR.next ?_
      refine emit_kept (sub hm) ?_
      refine onTrack_kept (sub hm) ?_
      refine setHead_kept (sub hm) ?_
      exact h
    · refine ite_kept (P := fun x => KeptR m s0 x) ?_ ?_
      · refine KeptR.next ?_
        refine reacquire_kept (sub hm) ?_
        refine setHead_kept (sub hm) ?_
        exact h
      · refine KeptR.next ?_
        refine emit_kept (sub hm) ?_
        refine mcState_kept (sub hm) ?_
        refine setHead_kept (sub hm) ?_
        exact h

theorem showRev_kept {α : Type} {m : State → α} (hm : ∀ u, m u = m { u with regs := [] })
    {s0 s : State} {a0 a1} (h : Kept m s0 s) :
    Kept m s0 (showRev a0 a1 s) := by
  unfold showRev
  split
  · rename_i v1 v2
    refine fset_kept (sub hm) ?_
    refine fset_kept (sub hm) ?_
    exact h
  · rename_i v3
    refine fset_kept (sub hm) ?_
    exact h

theorem showAngle_kept {α : Type} {m : State → α} (hm : ∀ u, m u = m { u with regs := [] })
    {s0 s : State} (h : Kept m s0 s) :
    Kept m s0 (showAngle s) := by
  unfold showAngle
  refine fset_kept (sub hm) ?_
  exact h

theorem learnOfs_kept {α : Type} {m : State → α} (hm : ∀ u, m u = m { u with regs := [] })
    {s0 s : State} {a0} (h : Kept m s0 s) :
    Kept m s0 (learnOfs a0 s) := by
  unfold learnOfs
  refine showAngle_kept (sub hm) ?_
  refine angleValid_kept (sub hm) ?_
  refine fset_kept (sub hm) ?_
  exact h

theorem learnGap_kept {α : Type} {m : State → α} (hm : ∀ u, m u = m { u with regs := [] })
    {s0 s : State} {a0} (h : Kept m s0 s) :
    Kept m s0 (learnGap a0 s) := by
  unfold learnGap
  refine ite_kept (P := fun x => Kept m s0 x) ?_ ?_
  · refine learnOfs_kept (sub hm) ?_
    exact h
  · exact h

theorem rpcBeam_kept {α : Type} {m : State → α} (hm : ∀ u, m u = m { u with regs := [], evq := [], out := [], msixPend := 0 })
    {s0 s : State} {a0 a1 a2 a3} (h : Kept m s0 s) :
    Kept m s0 (rpcBeam a0 a1 a2 a3 s) := by
  unfold rpcBeam
  extract_lets +onlyGivenNames x1
  clear_value x1
  extract_lets +onlyGivenNames x2
  clear_value x2
  extract_lets +onlyGivenNames x3
  clear_value x3
  extract_lets +onlyGivenNames x4
  clear_value x4
  extract_lets +onlyGivenNames x5
  clear_value x5
  refine ite_kept (P := fun x => Kept m s0 x) ?_ ?_
  · exact h
  · extract_lets +onlyGivenNames x6
    clear_value x6
    extract_lets +onlyGivenNames x7
    clear_value x7
    extract_lets +onlyGivenNames x8
    clear_value x8
    extract_lets +onlyGivenNames x9
    have h10 : Kept m s0 x9 := by
      unfold x9
      refine fset_kept (sub hm) ?_
      exact h
    clear_value x9
    refine ite_kept (P := fun x => Kept m s0 x) ?_ ?_
    · refine emit_kept (sub hm) ?_
      refine fset_kept (sub hm) ?_
      refine raise_kept (sub hm) ?_
      refine sticky_kept (sub hm) ?_
      exact h10
    · exact h10

theorem rpcUpdate_kept {α : Type} {m : State → α} (hm : ∀ u, m u = m { u with regs := [], evq := [], out := [], msixPend := 0 })
    {s0 s : State} {a0 a1} (h : Kept m s0 s) :
    Kept m s0 (rpcUpdate a0 a1 s) := by
  unfold rpcUpdate
  refine ite_kept (P := fun x => Kept m s0 x) ?_ ?_
  · refine foldl_kept (P := fun x => Kept m s0 x) ?_ ?_
    · intro y1 y2 y3
      refine rpcBeam_kept (sub hm) ?_
      exact y3
    · exact h
  · exact h

theorem sendSetPower_kept {α : Type} {m : State → α} (hm : ∀ u, m u = m { u with regs := [], out := [], links := [] })
    {s0 s : State} {a0 a1 a2 a3} (h : Kept m s0 s) :
    Kept m s0 (sendSetPower a0 a1 a2 a3 s) := by
  unfold sendSetPower
  refine sendMsg_kept (sub hm) ?_
  exact h

theorem sendPower_kept {α : Type} {m : State → α} (hm : ∀ u, m u = m { u with regs := [], out := [], links := [] })
    {s0 s : State} {a0} (h : Kept m s0 s) :
    Kept m s0 (sendPower a0 s) := by
  unfold sendPower
  extract_lets +onlyGivenNames x1
  clear_value x1
  extract_lets +onlyGivenNames x2
  clear_value x2
  refine foldl_kept (P := fun x => Kept m s0 x) ?_ ?_
  · intro y3 y4 y5
    refine cnt_kept (sub hm) ?_
    refine sendSetPower_kept (sub hm) ?_
    exact y5
  · exact h

theorem notePower_kept {α : Type} {m : State → α} (hm : ∀ u, m u = m { u with regs := [], recs := [] })
    {s0 s : State} {a0} (h : Kept m s0 s) :
    Kept m s0 (notePower a0 s) := by
  unfold notePower
  extract_lets +onlyGivenNames x1
  clear_value x1
  refine fsetB_kept (sub hm) ?_
  refine setRec_kept (sub hm) ?_
  exact h

theorem laserGap_kept {α : Type} {m : State → α} (hm : ∀ u, m u = m { u with regs := [], evq := [], out := [], msixPend := 0, links := [], recs := [] })
    {s0 s : State} {a0 a1} (h : Kept m s0 s) :
    Kept m s0 (laserGap a0 a1 s) := by
  unfold laserGap
  extract_lets +onlyGivenNames x1
  clear_value x1
  extract_lets +onlyGivenNames x2
  have h3 : Kept m s0 x2 := by
    unfold x2
    refine ite_kept (P := fun x => Kept m s0 x) ?_ ?_
    · refine setRec_kept (sub hm) ?_
      exact h
    · exact h
  clear_value x2
  extract_lets +onlyGivenNames x4
  have h5 : Kept m s0 x4 := by
    unfold x4
    beta_reduce
    refine setRec_kept (sub hm) ?_
    refine rpcUpdate_kept (sub hm) ?_
    exact h3
  clear_value x4
  extract_lets +onlyGivenNames x6
  have h7 : Kept m s0 x6 := by
    unfold x6
    refine ite_kept (P := fun x => Kept m s0 x) ?_ ?_
    · refine enterTable_kept (sub hm) ?_
      exact h5
    · exact h5
  clear_value x6
  extract_lets +onlyGivenNames x8
  have h9 : Kept m s0 x8 := by
    unfold x8
    refine boostGap_kept (sub hm) ?_
    exact h7
  clear_value x8
  refine ite_kept (P := fun x => Kept m s0 x) ?_ ?_
  · refine sendPower_kept (sub hm) ?_
    refine notePower_kept (sub hm) ?_
    exact h9
  · exact h9

theorem gapJump_kept {α : Type} {m : State → α} (hm : ∀ u, m u = m { u with regs := [], engs := [], pgs := [], loops := [], heads := [] })
    {s0 s : State} {a0} (h : Kept m s0 s) :
    Kept m s0 (gapJump a0 s) := by
  unfold gapJump
  extract_lets +onlyGivenNames x1
  clear_value x1
  extract_lets +onlyGivenNames x2
  clear_value x2
  extract_lets +onlyGivenNames x3
  clear_value x3
  extract_lets +onlyGivenNames x4
  clear_value x4
  extract_lets +onlyGivenNames x5
  clear_value x5
  extract_lets +onlyGivenNames x6
  clear_value x6
  refine ite_kept (P := fun x => Kept m s0 x) ?_ ?_
  · exact h
  · extract_lets +onlyGivenNames x7
    clear_value x7
    refine ite_kept (P := fun x => Kept m s0 x) ?_ ?_
    · refine ite_kept (P := fun x => Kept m s0 x) ?_ ?_
      · refine ownSeek_kept (sub hm) ?_
        exact h
      · exact h
    · extract_lets +onlyGivenNames x8
      clear_value x8
      refine lensMove_kept (sub hm) ?_
      refine showLoop_kept (sub hm) ?_
      refine mcState_kept (sub hm) ?_
      refine loopState_kept (sub hm) ?_
      refine setLoop_kept (sub hm) ?_
      refine setHead_kept (sub hm) ?_
      exact h

theorem squallAlign_kept {α : Type} {m : State → α} (hm : ∀ u, m u = m { u with heads := [] })
    {s0 s : State} {a0} (h : Kept m s0 s) :
    Kept m s0 (squallAlign a0 s) := by
  unfold squallAlign
  split
  · rename_i v1 v2 v3
    refine ite_kept (P := fun x => Kept m s0 x) ?_ ?_
    · refine setHead_kept (sub hm) ?_
      exact h
    · exact h
  · rename_i v4 v5
    exact h

theorem gapClear_kept {α : Type} {m : State → α} (hm : ∀ u, m u = m { u with heads := [] })
    {s0 s : State} {a0} (h : Kept m s0 s) :
    Kept m s0 (gapClear a0 s) := by
  unfold gapClear
  refine setHead_kept (sub hm) ?_
  exact h

theorem tiltGap_kept {α : Type} {m : State → α} (hm : ∀ u, m u = m { u with regs := [], heads := [] })
    {s0 s : State} {a0} (h : Kept m s0 s) :
    Kept m s0 (tiltGap a0 s) := by
  unfold tiltGap
  extract_lets +onlyGivenNames x1
  clear_value x1
  extract_lets +onlyGivenNames x2
  clear_value x2
  extract_lets +onlyGivenNames x3
  clear_value x3
  refine setHead_kept (sub hm) ?_
  refine fset_kept (sub hm) ?_
  exact h

theorem servoGap_kept {α : Type} {m : State → α} (hm : ∀ u, m u = m { u with regs := [], engs := [], pgs := [], loops := [], heads := [] })
    {s0 s : State} {a0} (h : Kept m s0 s) :
    Kept m s0 (servoGap a0 s) := by
  unfold servoGap
  refine gapJump_kept (sub hm) ?_
  refine squallAlign_kept (sub hm) ?_
  refine gapClear_kept (sub hm) ?_
  refine tiltGap_kept (sub hm) ?_
  refine swapBank_kept (sub hm) ?_
  refine swapBank_kept (sub hm) ?_
  refine swapBank_kept (sub hm) ?_
  exact h

theorem loadSet_kept {α : Type} {m : State → α} (hm : ∀ u, m u = m { u with regs := [] })
    {s0 s : State} {a0 a1 a2} (h : Kept m s0 s) :
    Kept m s0 (loadSet a0 a1 a2 s) := by
  unfold loadSet
  refine ite_kept (P := fun x => Kept m s0 x) ?_ ?_
  · refine foldl_kept (P := fun x => Kept m s0 x) ?_ ?_
    · intro y1 y2 y3
      extract_lets +onlyGivenNames x4
      clear_value x4
      refine fset_kept (sub hm) ?_
      refine fset_kept (sub hm) ?_
      exact y3
    · exact h
  · refine resetTaps_kept (sub hm) ?_
    exact h

theorem restoreSets_kept {α : Type} {m : State → α} (hm : ∀ u, m u = m { u with regs := [], commons := [] })
    {s0 s : State} {a0} (h : Kept m s0 s) :
    Kept m s0 (restoreSets a0 s) := by
  unfold restoreSets
  split
  · rename_i v1 v2
    exact h
  · rename_i v3 v4 v5
    extract_lets +onlyGivenNames x6
    clear_value x6
    extract_lets +onlyGivenNames x7
    have h8 : Kept m s0 x7 := by
      unfold x7
      refine setCommon_kept (sub hm) ?_
      exact h
    clear_value x7
    refine ite_kept (P := fun x => Kept m s0 x) ?_ ?_
    · refine foldl_kept (P := fun x => Kept m s0 x) ?_ ?_
      · intro y9 y10 y11
        refine loadSet_kept (sub hm) ?_
        exact y11
      · exact h8
    · exact h8

theorem sqUndo_kept {α : Type} {m : State → α} (hm : ∀ u, m u = m { u with regs := [], chans := [], dec := {} })
    {s0 s : State} {a0 a1} (h : Kept m s0 s) :
    Kept m s0 (sqUndo a0 a1 s) := by
  unfold sqUndo
  extract_lets +onlyGivenNames x1
  clear_value x1
  extract_lets +onlyGivenNames x2
  have h3 : Kept m s0 x2 := by
    unfold x2
    refine setDec_kept (sub hm) ?_
    exact h
  clear_value x2
  refine ite_kept (P := fun x => Kept m s0 x) ?_ ?_
  · refine foldl_kept (P := fun x => Kept m s0 x) ?_ ?_
    · intro y4 y5 y6
      refine fset_kept (sub hm) ?_
      exact y6
    · exact h3
  · refine ite_kept (P := fun x => Kept m s0 x) ?_ ?_
    · extract_lets +onlyGivenNames x7
      clear_value x7
      refine setTarget_kept (sub hm) ?_
      exact h3
    · refine fset_kept (sub hm) ?_
      refine fset_kept (sub hm) ?_
      exact h3

theorem sqApply_kept {α : Type} {m : State → α} (hm : ∀ u, m u = m { u with regs := [], chans := [], dec := {} })
    {s0 s : State} {a0 a1} (h : Kept m s0 s) :
    Kept m s0 (sqApply a0 a1 s) := by
  unfold sqApply
  extract_lets +onlyGivenNames x1
  clear_value x1
  extract_lets +onlyGivenNames x2
  clear_value x2
  extract_lets +onlyGivenNames x3
  have h4 : ∀ y5 y6, Kept m s0 y6 → Kept m s0 (x3 y5 y6) := by
    intro y5 y6 k7
    unfold x3
    refine setDec_kept (sub hm) ?_
    exact k7
  clear_value x3
  refine ite_kept (P := fun x => Kept m s0 x) ?_ ?_
  · extract_lets +onlyGivenNames x8
    clear_value x8
    refine h4 _ _ ?_
    refine foldl_kept (P := fun x => Kept m s0 x) ?_ ?_
    · intro y9 y10 y11
      refine fset_kept (sub hm) ?_
      refine fset_kept (sub hm) ?_
      refine resetTaps_kept (sub hm) ?_
      exact y11
    · exact h
  · refine ite_kept (P := fun x => Kept m s0 x) ?_ ?_
    · extract_lets +onlyGivenNames x12
      clear_value x12
      extract_lets +onlyGivenNames x13
      clear_value x13
      extract_lets +onlyGivenNames x14
      clear_value x14
      refine h4 _ _ ?_
      refine setTarget_kept (sub hm) ?_
      exact h
    · refine h4 _ _ ?_
      refine fset_kept (sub hm) ?_
      refine fset_kept (sub hm) ?_
      exact h

theorem squallGap_kept {α : Type} {m : State → α} (hm : ∀ u, m u = m { u with regs := [], chans := [], dec := {} })
    {s0 s : State} {a0} (h : Kept m s0 s) :
    Kept m s0 (squallGap a0 s) := by
  unfold squallGap
  extract_lets +onlyGivenNames x1
  have h2 : Kept m s0 x1 := by
    unfold x1
    split
    · rename_i v3 v4 v5
      refine sqUndo_kept (sub hm) ?_
      exact h
    · rename_i v6 v7
      exact h
  clear_value x1
  split
  · rename_i v8 v9 v10
    refine sqApply_kept (sub hm) ?_
    refine setDec_kept (sub hm) ?_
    exact h2
  · rename_i v11 v12
    exact h2

theorem showDecim_kept {α : Type} {m : State → α} (hm : ∀ u, m u = m { u with regs := [] })
    {s0 s : State} {a0 a1} (h : Kept m s0 s) :
    Kept m s0 (showDecim a0 a1 s) := by
  unfold showDecim
  extract_lets +onlyGivenNames x1
  clear_value x1
  refine foldl_kept (P := fun x => Kept m s0 x) ?_ ?_
  · intro y2 y3 y4
    extract_lets +onlyGivenNames x5
    clear_value x5
    extract_lets +onlyGivenNames x6
    have h7 : Kept m s0 x6 := by
      unfold x6
      refine fset_kept (sub hm) ?_
      exact y4
    clear_value x6
    refine ite_kept (P := fun x => Kept m s0 x) ?_ ?_
    · refine sticky_kept (sub hm) ?_
      exact h7
    · exact h7
  · exact h

theorem loadSteps_kept {α : Type} {m : State → α} (hm : ∀ u, m u = m { u with regs := [], chans := [] })
    {s0 s : State} {a0 a1} (h : Kept m s0 s) :
    Kept m s0 (loadSteps a0 a1 s) := by
  unfold loadSteps
  refine foldl_kept (P := fun x => Kept m s0 x) ?_ ?_
  · intro y1 y2 y3
    refine loadStep_kept (sub hm) ?_
    exact y3
  · refine showDecim_kept (sub hm) ?_
    exact h

theorem execJumpGapStart_kept {α : Type} {m : State → α} (hm : ∀ u, m u = m { u with regs := [], evq := [], out := [], msixPend := 0, links := [], recs := [], engs := [], dmem := [], pgs := [], loops := [], heads := [], chans := [], commons := [], dec := {} })
    {s0 s : State} {a0 a1 a2} (h : Kept m s0 s) :
    KeptR m s0 (execJumpGapStart a0 a1 a2 s) := by
  unfold execJumpGapStart
  extract_lets +onlyGivenNames x1
  clear_value x1
  refine ite_kept (P := fun x => KeptR m s0 x) ?_ ?_
  · refine KeptR.next ?_
    exact h
  · extract_lets +onlyGivenNames x2
    have h3 : Kept m s0 x2 := by
      unfold x2
      refine fset_kept (sub hm) ?_
      refine showRev_kept (sub hm) ?_
      refine learnGap_kept (sub hm) ?_
      exact h
    clear_value x2
    extract_lets +onlyGivenNames x4
    have h5 : Kept m s0 x4 := by
      unfold x4
      refine foldl_kept (P := fun x => Kept m s0 x) ?_ ?_
      · intro y6 y7 y8
        refine beamGap_kept (sub hm) ?_
        exact y8
      · exact h3
    clear_value x4
    extract_lets +onlyGivenNames x9
    have h10 : Kept m s0 x9 := by
      unfold x9
      refine laserGap_kept (sub hm) ?_
      refine servoGap_kept (sub hm) ?_
      refine calGap_kept (sub hm) ?_
      refine restoreSets_kept (sub hm) ?_
      refine squallGap_kept (sub hm) ?_
      exact h5
    clear_value x9
    refine KeptR.next ?_
    refine ite_kept (P := fun x => Kept m s0 x) ?_ ?_
    · refine fset_kept (sub hm) ?_
      refine autoFs_kept (sub hm) ?_
      refine loadSteps_kept (sub hm) ?_
      exact h10
    · exact h10

theorem execGapJumpFail_kept {α : Type} {m : State → α} (hm : ∀ u, m u = m { u with regs := [], evq := [], out := [], msixPend := 0, recs := [], engs := [], heads := [] })
    {s0 s : State} {a0} (h : Kept m s0 s) :
    KeptR m s0 (execGapJumpFail a0 s) := by
  unfold execGapJumpFail
  refine KeptR.next ?_
  refine gapFail_kept (sub hm) ?_
  exact h

theorem execLayerJump_kept {α : Type} {m : State → α} (hm : ∀ u, m u = m { u with regs := [], evq := [], out := [], msixPend := 0, engs := [], dmem := [], pgs := [], loops := [], heads := [], commons := [] })
    {s0 s : State} {a0 a1} (h : Kept m s0 s) :
    KeptR m s0 (execLayerJump a0 a1 s) := by
  unfold execLayerJump
  refine KeptR.next ?_
  refine askLayerJump_kept (sub hm) ?_
  exact h

theorem execLayerJumpFail_kept {α : Type} {m : State → α} (hm : ∀ u, m u = m { u with regs := [], evq := [], out := [], msixPend := 0, links := [], recs := [], engs := [], dmem := [], pgs := [], loops := [], heads := [], commons := [] })
    {s0 s : State} {a0 a1 a2} (h : Kept m s0 s) :
    KeptR m s0 (execLayerJumpFail a0 a1 a2 s) := by
  unfold execLayerJumpFail
  refine KeptR.next ?_
  refine layerJumpFail_kept (sub hm) ?_
  exact h

theorem execSeek_kept {α : Type} {m : State → α} (hm : ∀ u, m u = m { u with regs := [], evq := [], out := [], msixPend := 0, engs := [], dmem := [], pgs := [], loops := [], heads := [], commons := [] })
    {s0 s : State} {a0} (h : Kept m s0 s) :
    KeptR m s0 (execSeek a0 s) := by
  unfold execSeek
  refine KeptR.next ?_
  refine seekGo_kept (sub hm) ?_
  exact h

theorem zeroVector_kept {α : Type} {m : State → α} (hm : ∀ u, m u = m { u with regs := [], spin := {} })
    {s0 s : State} (h : Kept m s0 s) :
    Kept m s0 (zeroVector s) := by
  unfold zeroVector
  refine fset_kept (sub hm) ?_
  refine fset_kept (sub hm) ?_
  refine fset_kept (sub hm) ?_
  refine fset_kept (sub hm) ?_
  refine fset_kept (sub hm) ?_
  refine setSpin_kept (sub hm) ?_
  exact h

theorem putRefs_kept {α : Type} {m : State → α} (hm : ∀ u, m u = m { u with regs := [], evq := [], engs := [], spin := {} })
    {s0 s : State} {a0 a1} (h : Kept m s0 s) :
    Kept m s0 (putRefs a0 a1 s) := by
  unfold putRefs
  extract_lets +onlyGivenNames x1
  clear_value x1
  extract_lets +onlyGivenNames x2
  clear_value x2
  extract_lets +onlyGivenNames x3
  clear_value x3
  extract_lets +onlyGivenNames x4
  clear_value x4
  extract_lets +onlyGivenNames x5
  have h6 : Kept m s0 x5 := by
    unfold x5
    refine ite_kept (P := fun x => Kept m s0 x) ?_ ?_
    · refine sticky_kept (sub hm) ?_
      exact h
    · exact h
  clear_value x5
  extract_lets +onlyGivenNames x7
  clear_value x7
  extract_lets +onlyGivenNames x8
  clear_value x8
  extract_lets +onlyGivenNames x9
  clear_value x9
  extract_lets +onlyGivenNames x10
  have h11 : Kept m s0 x10 := by
    unfold x10
    refine ite_kept (P := fun x => Kept m s0 x) ?_ ?_
    · refine emit_kept (sub hm) ?_
      exact h6
    · exact h6
  clear_value x10
  extract_lets +onlyGivenNames x12
  have h13 : Kept m s0 x12 := by
    unfold x12
    refine fsetB_kept (sub hm) ?_
    exact h11
  clear_value x12
  extract_lets +onlyGivenNames x14
  clear_value x14
  extract_lets +onlyGivenNames x15
  clear_value x15
  extract_lets +onlyGivenNames x16
  have h17 : Kept m s0 x16 := by
    unfold x16
    refine setSpin_kept (sub hm) ?_
    exact h13
  clear_value x16
  extract_lets +onlyGivenNames x18
  clear_value x18
  extract_lets +onlyGivenNames x19
  clear_value x19
  extract_lets +onlyGivenNames x20
  clear_value x20
  extract_lets +onlyGivenNames x21
  clear_value x21
  refine fsetB_kept (sub hm) ?_
  refine setPort_kept (sub hm) ?_
  refine setPort_kept (sub hm) ?_
  refine fsetI_kept (sub hm) ?_
  refine fsetI_kept (sub hm) ?_
  exact h17

theorem speedLoop_kept {α : Type} {m : State → α} (hm : ∀ u, m u = m { u with regs := [], evq := [], engs := [], spin := {} })
    {s0 s : State} {a0 a1} (h : Kept m s0 s) :
    Kept m s0 (speedLoop a0 a1 s) := by
  unfold speedLoop
  extract_lets +onlyGivenNames x1
  clear_value x1
  extract_lets +onlyGivenNames x2
  clear_value x2
  extract_lets +onlyGivenNames x3
  clear_value x3
  extract_lets +onlyGivenNames x4
  clear_value x4
  extract_lets +onlyGivenNames x5
  clear_value x5
  extract_lets +onlyGivenNames x6
  clear_value x6
  extract_lets +onlyGivenNames x7
  clear_value x7
  extract_lets +onlyGivenNames x8
  clear_value x8
  extract_lets +onlyGivenNames x9
  clear_value x9
  refine putRefs_kept (sub hm) ?_
  refine fsetI_kept (sub hm) ?_
  refine setSpin_kept (sub hm) ?_
  exact h

theorem runChecks_kept {α : Type} {m : State → α} (hm : ∀ u, m u = m { u with regs := [], evq := [], out := [], msixPend := 0, links := [], recs := [] })
    {s0 s : State} (h : Kept m s0 s) :
    Kept m s0 (runChecks s) := by
  unfold runChecks
  extract_lets +onlyGivenNames x1
  clear_value x1
  extract_lets +onlyGivenNames x2
  have h3 : Kept m s0 x2 := by
    unfold x2
    refine ite_kept (P := fun x => Kept m s0 x) ?_ ?_
    · exact h
    · refine fset_kept (sub hm) ?_
      exact h
  clear_value x2
  refine ite_kept (P := fun x => Kept m s0 x) ?_ ?_
  · refine emit_kept (sub hm) ?_
    refine tripBoth_kept (sub hm) ?_
    exact h3
  · exact h3

theorem pwmAct_kept {α : Type} {m : State → α} (hm : ∀ u, m u = m { u with regs := [], evq := [], out := [], msixPend := 0, links := [], recs := [], engs := [], spin := {} })
    {s0 s : State} {a0} (h : Kept m s0 s) :
    Kept m s0 (pwmAct a0 s) := by
  unfold pwmAct
  extract_lets +onlyGivenNames x1
  clear_value x1
  extract_lets +onlyGivenNames x2
  clear_value x2
  refine ite_kept (P := fun x => Kept m s0 x) ?_ ?_
  · refine ite_kept (P := fun x => Kept m s0 x) ?_ ?_
    · refine beginAlign_kept (sub hm) ?_
      exact h
    · refine ite_kept (P := fun x => Kept m s0 x) ?_ ?_
      · exact h
      · refine ite_kept (P := fun x => Kept m s0 x) ?_ ?_
        · refine zeroVector_kept (sub hm) ?_
          exact h
        · refine speedLoop_kept (sub hm) ?_
          exact h
  · refine ite_kept (P := fun x => Kept m s0 x) ?_ ?_
    · refine runChecks_kept (sub hm) ?_
      refine speedLoop_kept (sub hm) ?_
      exact h
    · refine ite_kept (P := fun x => Kept m s0 x) ?_ ?_
      · refine ite_kept (P := fun x => Kept m s0 x) ?_ ?_
        · exact h
        · refine ite_kept (P := fun x => Kept m s0 x) ?_ ?_
          · refine zeroVector_kept (sub hm) ?_
            exact h
          · refine speedLoop_kept (sub hm) ?_
            exact h
      · refine ite_kept (P := fun x => Kept m s0 x) ?_ ?_
        · refine putRefs_kept (sub hm) ?_
          exact h
        · exact h

theorem execPwmPeriod_kept {α : Type} {m : State → α} (hm : ∀ u, m u = m { u with regs := [], evq := [], out := [], msixPend := 0, links := [], recs := [], engs := [], spin := {} })
    {s0 s : State} {a0} (h : Kept m s0 s) :
    KeptR m s0 (execPwmPeriod a0 s) := by
  unfold execPwmPeriod
  extract_lets +onlyGivenNames x1
  clear_value x1
  refine ite_kept (P := fun x => KeptR m s0 x) ?_ ?_
  · refine KeptR.next ?_
    refine fset_kept (sub hm) ?_
    exact h
  · extract_lets +onlyGivenNames x2
    clear_value x2
    extract_lets +onlyGivenNames x3
    clear_value x3
    extract_lets +onlyGivenNames x4
    have h5 : Kept m s0 x4 := by
      unfold x4
      refine ite_kept (P := fun x => Kept m s0 x) ?_ ?_
      · refine setSpin_kept (sub hm) ?_
        exact h
      · refine sticky_kept (sub hm) ?_
        refine cnt_kept (sub hm) ?_
        exact h
    clear_value x4
    extract_lets +onlyGivenNames x6
    clear_value x6
    extract_lets +onlyGivenNames x7
    have h8 : Kept m s0 x7 := by
      unfold x7
      refine showAngle_kept (sub hm) ?_
      refine fmax_kept (sub hm) ?_
      refine fset_kept (sub hm) ?_
      refine fsetI_kept (sub hm) ?_
      refine setSpin_kept (sub hm) ?_
      exact h5
    clear_value x7
    extract_lets +onlyGivenNames x9
    have h10 : Kept m s0 x9 := by
      unfold x9
      refine setPort_kept (sub hm) ?_
      exact h8
    clear_value x9
    extract_lets +onlyGivenNames x11
    clear_value x11
    extract_lets +onlyGivenNames x12
    have h13 : Kept m s0 x12 := by
      unfold x12
      refine ite_kept (P := fun x => Kept m s0 x) ?_ ?_
      · refine fsetB_kept (sub hm) ?_
        exact h10
      · exact h10
    clear_value x12
    extract_lets +onlyGivenNames x14
    have h15 : Kept m s0 x14 := by
      unfold x14
      refine ite_kept (P := fun x => Kept m s0 x) ?_ ?_
      · exact h13
      · refine pwmAct_kept (sub hm) ?_
        exact h13
    clear_value x14
    refine KeptR.next ?_
    refine fset_kept (sub hm) ?_
    exact h15

theorem execSpindleStart_kept {α : Type} {m : State → α} (hm : ∀ u, m u = m { u with regs := [], spin := {} })
    {s0 s : State} (h : Kept m s0 s) :
    KeptR m s0 (execSpindleStart s) := by
  unfold execSpindleStart
  refine KeptR.next ?_
  refine startSpin_kept (sub hm) ?_
  exact h

theorem execCatchEnd_kept {α : Type} {m : State → α} (hm : ∀ u, m u = m { u with regs := [], spin := {} })
    {s0 s : State} {a0 a1} (h : Kept m s0 s) :
    KeptR m s0 (execCatchEnd a0 a1 s) := by
  unfold execCatchEnd
  extract_lets +onlyGivenNames x1
  clear_value x1
  extract_lets +onlyGivenNames x2
  clear_value x2
  refine ite_kept (P := fun x => KeptR m s0 x) ?_ ?_
  · refine KeptR.next ?_
    exact h
  · extract_lets +onlyGivenNames x3
    have h4 : Kept m s0 x3 := by
      unfold x3
      refine fsetB_kept (sub hm) ?_
      exact h
    clear_value x3
    extract_lets +onlyGivenNames x5
    have h6 : ∀ y7, Kept m s0 y7 → Kept m s0 (x5 y7) := by
      intro y7 k8
      unfold x5
      refine cnt_kept (sub hm) ?_
      refine angleValid_kept (sub hm) ?_
      exact k8
    clear_value x5
    refine ite_kept (P := fun x => KeptR m s0 x) ?_ ?_
    · refine KeptR.next ?_
      refine beginAlign_kept (sub hm) ?_
      refine setSpin_kept (sub hm) ?_
      exact h4
    · refine ite_kept (P := fun x => KeptR m s0 x) ?_ ?_
      · refine KeptR.next ?_
        refine closeLoop_kept (sub hm) ?_
        refine h6 _ ?_
        refine setSpin_kept (sub hm) ?_
        exact h4
      · refine ite_kept (P := fun x => KeptR m s0 x) ?_ ?_
        · refine KeptR.next ?_
          refine fset_kept (sub hm) ?_
          refine spinState_kept (sub hm) ?_
          refine h6 _ ?_
          refine setSpin_kept (sub hm) ?_
          exact h4
        · refine KeptR.next ?_
          refine zeroVector_kept (sub hm) ?_
          refine spinState_kept (sub hm) ?_
          refine setSpin_kept (sub hm) ?_
          exact h4

theorem execAlignEnd_kept {α : Type} {m : State → α} (hm : ∀ u, m u = m { u with regs := [] })
    {s0 s : State} (h : Kept m s0 s) :
    KeptR m s0 (execAlignEnd s) := by
  unfold execAlignEnd
  refine KeptR.next ?_
  refine ite_kept (P := fun x => Kept m s0 x) ?_ ?_
  · refine spinState_kept (sub hm) ?_
    exact h
  · exact h

theorem execHandoff_kept {α : Type} {m : State → α} (hm : ∀ u, m u = m { u with regs := [], spin := {} })
    {s0 s : State} (h : Kept m s0 s) :
    KeptR m s0 (execHandoff s) := by
  unfold execHandoff
  refine KeptR.next ?_
  refine ite_kept (P := fun x => Kept m s0 x) ?_ ?_
  · refine closeLoop_kept (sub hm) ?_
    exact h
  · exact h

theorem execSpeedOk_kept {α : Type} {m : State → α} (hm : ∀ u, m u = m { u with regs := [], evq := [], out := [], msixPend := 0 })
    {s0 s : State} (h : Kept m s0 s) :
    KeptR m s0 (execSpeedOk s) := by
  unfold execSpeedOk
  refine KeptR.next ?_
  refine ite_kept (P := fun x => Kept m s0 x) ?_ ?_
  · refine emit_kept (sub hm) ?_
    refine raise_kept (sub hm) ?_
    refine fset_kept (sub hm) ?_
    exact h
  · exact h

theorem execStartFail_kept {α : Type} {m : State → α} (hm : ∀ u, m u = m { u with regs := [], evq := [], out := [], msixPend := 0, spin := {} })
    {s0 s : State} {a0 a1} (h : Kept m s0 s) :
    KeptR m s0 (execStartFail a0 a1 s) := by
  unfold execStartFail
  extract_lets +onlyGivenNames x1
  clear_value x1
  refine KeptR.next ?_
  refine emit_kept (sub hm) ?_
  refine raise_kept (sub hm) ?_
  refine fault_kept (sub hm) ?_
  refine spinState_kept (sub hm) ?_
  refine angleValid_kept (sub hm) ?_
  refine unlockSpin_kept (sub hm) ?_
  refine gatesOff_kept (sub hm) ?_
  exact h

theorem execSpindleStop_kept {α : Type} {m : State → α} (hm : ∀ u, m u = m { u with regs := [], spin := {} })
    {s0 s : State} (h : Kept m s0 s) :
    KeptR m s0 (execSpindleStop s) := by
  unfold execSpindleStop
  refine KeptR.next ?_
  refine stopSpin_kept (sub hm) ?_
  exact h

theorem execSpindleStopped_kept {α : Type} {m : State → α} (hm : ∀ u, m u = m { u with regs := [], evq := [], out := [], msixPend := 0, spin := {} })
    {s0 s : State} {a0} (h : Kept m s0 s) :
    KeptR m s0 (execSpindleStopped a0 s) := by
  unfold execSpindleStopped
  extract_lets +onlyGivenNames x1
  clear_value x1
  refine ite_kept (P := fun x => KeptR m s0 x) ?_ ?_
  · refine KeptR.next ?_
    exact h
  · refine KeptR.next ?_
    beta_reduce
    refine setSpin_kept (sub hm) ?_
    refine emit_kept (sub hm) ?_
    refine raise_kept (sub hm) ?_
    refine spinState_kept (sub hm) ?_
    refine unlockSpin_kept (sub hm) ?_
    refine gatesOff_kept (sub hm) ?_
    exact h

theorem execOverspeed_kept {α : Type} {m : State → α} (hm : ∀ u, m u = m { u with regs := [], evq := [], out := [], msixPend := 0, links := [], recs := [] })
    {s0 s : State} {a0 a1} (h : Kept m s0 s) :
    KeptR m s0 (execOverspeed a0 a1 s) := by
  unfold execOverspeed
  refine KeptR.next ?_
  refine spinState_kept (sub hm) ?_
  refine emit_kept (sub hm) ?_
  refine cnt_kept (sub hm) ?_
  refine fault_kept (sub hm) ?_
  refine raise_kept (sub hm) ?_
  refine fset_kept (sub hm) ?_
  refine fset_kept (sub hm) ?_
  refine tripBoth_kept (sub hm) ?_
  exact h

theorem tripBothIfWriting_kept {α : Type} {m : State → α} (hm : ∀ u, m u = m { u with regs := [], evq := [], out := [], msixPend := 0, links := [], recs := [] })
    {s0 s : State} (h : Kept m s0 s) :
    Kept m s0 (tripBothIfWriting s) := by
  unfold tripBothIfWriting
  refine ite_kept (P := fun x => Kept m s0 x) ?_ ?_
  · refine tripBoth_kept (sub hm) ?_
    exact h
  · exact h

theorem execObserverLost_kept {α : Type} {m : State → α} (hm : ∀ u, m u = m { u with regs := [], evq := [], out := [], msixPend := 0, links := [], recs := [], spin := {} })
    {s0 s : State} {a0 a1} (h : Kept m s0 s) :
    KeptR m s0 (execObserverLost a0 a1 s) := by
  unfold execObserverLost
  extract_lets +onlyGivenNames x1
  clear_value x1
  extract_lets +onlyGivenNames x2
  clear_value x2
  extract_lets +onlyGivenNames x3
  have h4 : Kept m s0 x3 := by
    unfold x3
    refine emit_kept (sub hm) ?_
    refine cnt_kept (sub hm) ?_
    refine raise_kept (sub hm) ?_
    refine angleValid_kept (sub hm) ?_
    refine unlockSpin_kept (sub hm) ?_
    refine gatesOff_kept (sub hm) ?_
    refine tripBothIfWriting_kept (sub hm) ?_
    exact h
  clear_value x3
  extract_lets +onlyGivenNames x5
  clear_value x5
  extract_lets +onlyGivenNames x6
  have h7 : Kept m s0 x6 := by
    unfold x6
    refine setSpin_kept (sub hm) ?_
    exact h4
  clear_value x6
  refine ite_kept (P := fun x => KeptR m s0 x) ?_ ?_
  · refine KeptR.next ?_
    exact h7
  · refine ite_kept (P := fun x => KeptR m s0 x) ?_ ?_
    · refine KeptR.next ?_
      refine fault_kept (sub hm) ?_
      refine spinState_kept (sub hm) ?_
      exact h7
    · extract_lets +onlyGivenNames x8
      have h9 : Kept m s0 x8 := by
        unfold x8
        refine spinState_kept (sub hm) ?_
        exact h7
      clear_value x8
      refine KeptR.next ?_
      refine ite_kept (P := fun x => Kept m s0 x) ?_ ?_
      · refine startSpin_kept (sub hm) ?_
        exact h9
      · exact h9

theorem execSe8Stopped_kept {α : Type} {m : State → α} (hm : ∀ u, m u = m { u with regs := [], evq := [], out := [], msixPend := 0, links := [], recs := [], spin := {} })
    {s0 s : State} (h : Kept m s0 s) :
    KeptR m s0 (execSe8Stopped s) := by
  unfold execSe8Stopped
  extract_lets +onlyGivenNames x1
  clear_value x1
  extract_lets +onlyGivenNames x2
  clear_value x2
  extract_lets +onlyGivenNames x3
  have h4 : Kept m s0 x3 := by
    unfold x3
    refine emit_kept (sub hm) ?_
    refine fset_kept (sub hm) ?_
    refine fault_kept (sub hm) ?_
    refine fset_kept (sub hm) ?_
    refine fset_kept (sub hm) ?_
    refine setSpin_kept (sub hm) ?_
    refine tripBothIfWriting_kept (sub hm) ?_
    exact h
  clear_value x3
  refine KeptR.next ?_
  refine ite_kept (P := fun x => Kept m s0 x) ?_ ?_
  · exact h4
  · refine spinState_kept (sub hm) ?_
    exact h4

theorem execBrkGOn_kept {α : Type} {m : State → α} (hm : ∀ u, m u = m { u with regs := [], spin := {} })
    {s0 s : State} {a0} (h : Kept m s0 s) :
    KeptR m s0 (execBrkGOn a0 s) := by
  unfold execBrkGOn
  extract_lets +onlyGivenNames x1
  have h2 : Kept m s0 x1 := by
    unfold x1
    refine fset_kept (sub hm) ?_
    exact h
  clear_value x1
  refine KeptR.next ?_
  refine ite_kept (P := fun x => Kept m s0 x) ?_ ?_
  · refine setSpin_kept (sub hm) ?_
    exact h2
  · exact h2

theorem execBrkGOff_kept {α : Type} {m : State → α} (hm : ∀ u, m u = m { u with regs := [], spin := {} })
    {s0 s : State} {a0} (h : Kept m s0 s) :
    KeptR m s0 (execBrkGOff a0 s) := by
  unfold execBrkGOff
  refine KeptR.next ?_
  refine setSpin_kept (sub hm) ?_
  refine fset_kept (sub hm) ?_
  exact h

theorem execChopperFault_kept {α : Type} {m : State → α} (hm : ∀ u, m u = m { u with regs := [], evq := [], out := [], msixPend := 0, spin := {} })
    {s0 s : State} {a0 a1} (h : Kept m s0 s) :
    KeptR m s0 (execChopperFault a0 a1 s) := by
  unfold execChopperFault
  extract_lets +onlyGivenNames x1
  clear_value x1
  refine KeptR.next ?_
  refine emit_kept (sub hm) ?_
  refine fset_kept (sub hm) ?_
  refine cnt_kept (sub hm) ?_
  refine fault_kept (sub hm) ?_
  refine raise_kept (sub hm) ?_
  refine fset_kept (sub hm) ?_
  refine setSpin_kept (sub hm) ?_
  exact h

theorem execBusOv_kept {α : Type} {m : State → α} (hm : ∀ u, m u = m { u with regs := [], evq := [], out := [], msixPend := 0, spin := {} })
    {s0 s : State} {a0} (h : Kept m s0 s) :
    KeptR m s0 (execBusOv a0 s) := by
  unfold execBusOv
  extract_lets +onlyGivenNames x1
  have h2 : Kept m s0 x1 := by
    unfold x1
    refine fset_kept (sub hm) ?_
    exact h
  clear_value x1
  extract_lets +onlyGivenNames x3
  clear_value x3
  extract_lets +onlyGivenNames x4
  have h5 : Kept m s0 x4 := by
    unfold x4
    refine ite_kept (P := fun x => Kept m s0 x) ?_ ?_
    · exact h2
    · refine emit_kept (sub hm) ?_
      refine raise_kept (sub hm) ?_
      refine setSpin_kept (sub hm) ?_
      exact h2
  clear_value x4
  extract_lets +onlyGivenNames x6
  have h7 : Kept m s0 x6 := by
    unfold x6
    refine ite_kept (P := fun x => Kept m s0 x) ?_ ?_
    · refine fset_kept (sub hm) ?_
      refine fset_kept (sub hm) ?_
      exact h5
    · exact h5
  clear_value x6
  refine KeptR.next ?_
  refine ite_kept (P := fun x => Kept m s0 x) ?_ ?_
  · extract_lets +onlyGivenNames x8
    clear_value x8
    refine ite_app_kept (P := fun x => Kept m s0 x) ?_ ?_
    · refine id_kept (P := fun x => Kept m s0 x) ?_
      refine fault_kept (sub hm) ?_
      refine unlockSpin_kept (sub hm) ?_
      refine gatesOff_kept (sub hm) ?_
      exact h7
    · refine spinState_kept (sub hm) ?_
      refine fault_kept (sub hm) ?_
      refine unlockSpin_kept (sub hm) ?_
      refine gatesOff_kept (sub hm) ?_
      exact h7
  · exact h7

theorem spincmdStop_kept {α : Type} {m : State → α} (hm : ∀ u, m u = m { u with regs := [], spin := {} })
    {s0 s : State} {a0} (h : Kept m s0 s) :
    Kept m s0 (spincmdStop a0 s) := by
  unfold spincmdStop
  extract_lets +onlyGivenNames x1
  clear_value x1
  extract_lets +onlyGivenNames x2
  clear_value x2
  refine ite_kept (P := fun x => Kept m s0 x) ?_ ?_
  · refine ite_kept (P := fun x => Kept m s0 x) ?_ ?_
    · exact h
    · extract_lets +onlyGivenNames x3
      clear_value x3
      beta_reduce
      refine setSpin_kept (sub hm) ?_
      refine stopSpin_kept (sub hm) ?_
      refine fset_kept (sub hm) ?_
      exact h
  · refine ite_kept (P := fun x => Kept m s0 x) ?_ ?_
    · extract_lets +onlyGivenNames x4
      clear_value x4
      refine ite_app_kept (P := fun x => Kept m s0 x) ?_ ?_
      · refine startSpin_kept (sub hm) ?_
        refine setSpin_kept (sub hm) ?_
        refine fset_kept (sub hm) ?_
        exact h
      · refine id_kept (P := fun x => Kept m s0 x) ?_
        refine setSpin_kept (sub hm) ?_
        refine fset_kept (sub hm) ?_
        exact h
    · exact h

theorem newCeiling_kept {α : Type} {m : State → α} (hm : ∀ u, m u = m { u with regs := [], evq := [], out := [], msixPend := 0, spin := {} })
    {s0 s : State} {a0} (h : Kept m s0 s) :
    Kept m s0 (newCeiling a0 s) := by
  unfold newCeiling
  extract_lets +onlyGivenNames x1
  clear_value x1
  refine ite_kept (P := fun x => Kept m s0 x) ?_ ?_
  · refine newTarget_kept (sub hm) ?_
    refine emit_kept (sub hm) ?_
    refine raise_kept (sub hm) ?_
    refine setSpin_kept (sub hm) ?_
    exact h
  · exact h

theorem execSpincmdChange_kept {α : Type} {m : State → α} (hm : ∀ u, m u = m { u with regs := [], evq := [], out := [], msixPend := 0, spin := {} })
    {s0 s : State} {a0} (h : Kept m s0 s) :
    KeptR m s0 (execSpincmdChange a0 s) := by
  unfold execSpincmdChange
  refine ite_kept (P := fun x => KeptR m s0 x) ?_ ?_
  · refine KeptR.next ?_
    exact h
  · extract_lets +onlyGivenNames x1
    clear_value x1
    refine KeptR.next ?_
    refine spincmdStop_kept (sub hm) ?_
    refine newCeiling_kept (sub hm) ?_
    refine fset_kept (sub hm) ?_
    refine fset_kept (sub hm) ?_
    exact h

theorem execSpincmdLost_kept {α : Type} {m : State → α} (hm : ∀ u, m u = m { u with regs := [], evq := [], out := [], msixPend := 0, spin := {} })
    {s0 s : State} {a0} (h : Kept m s0 s) :
    KeptR m s0 (execSpincmdLost a0 s) := by
  unfold execSpincmdLost
  extract_lets +onlyGivenNames x1
  clear_value x1
  refine ite_kept (P := fun x => KeptR m s0 x) ?_ ?_
  · refine KeptR.next ?_
    exact h
  · extract_lets +onlyGivenNames x2
    have h3 : Kept m s0 x2 := by
      unfold x2
      refine emit_kept (sub hm) ?_
      refine fset_kept (sub hm) ?_
      refine raise_kept (sub hm) ?_
      refine fset_kept (sub hm) ?_
      exact h
    clear_value x2
    refine KeptR.next ?_
    refine ite_kept (P := fun x => Kept m s0 x) ?_ ?_
    · exact h3
    · refine newTarget_kept (sub hm) ?_
      refine setSpin_kept (sub hm) ?_
      exact h3

theorem execSpincmdRecovered_kept {α : Type} {m : State → α} (hm : ∀ u, m u = m { u with regs := [] })
    {s0 s : State} (h : Kept m s0 s) :
    KeptR m s0 (execSpincmdRecovered s) := by
  unfold execSpincmdRecovered
  refine KeptR.next ?_
  refine fset_kept (sub hm) ?_
  exact h

theorem execSledStall_kept {α : Type} {m : State → α} (hm : ∀ u, m u = m { u with regs := [], evq := [], out := [], msixPend := 0, pgs := [], heads := [], sleds := [] })
    {s0 s : State} {a0 a1} (h : Kept m s0 s) :
    KeptR m s0 (execSledStall a0 a1 s) := by
  unfold execSledStall
  refine KeptR.next ?_
  refine stall_kept (sub hm) ?_
  exact h

theorem execSledCoilFault_kept {α : Type} {m : State → α} (hm : ∀ u, m u = m { u with regs := [], evq := [], out := [], msixPend := 0, sleds := [] })
    {s0 s : State} {a0 a1 a2} (h : Kept m s0 s) :
    KeptR m s0 (execSledCoilFault a0 a1 a2 s) := by
  unfold execSledCoilFault
  extract_lets +onlyGivenNames x1
  clear_value x1
  refine KeptR.next ?_
  refine emit_kept (sub hm) ?_
  refine raise_kept (sub hm) ?_
  refine fault_kept (sub hm) ?_
  refine sledSt_kept (sub hm) ?_
  refine setSled_kept (sub hm) ?_
  exact h

theorem execSledStop_kept {α : Type} {m : State → α} (hm : ∀ u, m u = m { u with regs := [], pgs := [], sleds := [] })
    {s0 s : State} {a0} (h : Kept m s0 s) :
    KeptR m s0 (execSledStop a0 s) := by
  unfold execSledStop
  refine KeptR.next ?_
  refine hardStop_kept (sub hm) ?_
  exact h

theorem execHardStopRest_kept {α : Type} {m : State → α} (hm : ∀ u, m u = m { u with regs := [], sleds := [] })
    {s0 s : State} {a0} (h : Kept m s0 s) :
    KeptR m s0 (execHardStopRest a0 s) := by
  unfold execHardStopRest
  extract_lets +onlyGivenNames x1
  clear_value x1
  split
  · rename_i v2 v3
    refine KeptR.next ?_
    exact h
  · rename_i v4 v5 v6
    refine ite_kept (P := fun x => KeptR m s0 x) ?_ ?_
    · refine KeptR.next ?_
      exact h
    · extract_lets +onlyGivenNames x7
      clear_value x7
      extract_lets +onlyGivenNames x8
      have h9 : Kept m s0 x8 := by
        unfold x8
        refine rebase_kept (sub hm) ?_
        refine setSled_kept (sub hm) ?_
        exact h
      clear_value x8
      refine KeptR.next ?_
      refine ite_kept (P := fun x => Kept m s0 x) ?_ ?_
      · refine sledSt_kept (sub hm) ?_
        exact h9
      · exact h9

theorem execSledEngineStopped_kept {α : Type} {m : State → α} (hm : ∀ u, m u = m { u with regs := [], evq := [], out := [], msixPend := 0, links := [], recs := [], pgs := [], sleds := [] })
    {s0 s : State} {a0} (h : Kept m s0 s) :
    KeptR m s0 (execSledEngineStopped a0 s) := by
  unfold execSledEngineStopped
  refine KeptR.next ?_
  refine tripIfWriting_kept (sub hm) ?_
  refine hardStop_kept (sub hm) ?_
  exact h

theorem execHome_kept {α : Type} {m : State → α} (hm : ∀ u, m u = m { u with regs := [], sleds := [] })
    {s0 s : State} {a0} (h : Kept m s0 s) :
    KeptR m s0 (execHome a0 s) := by
  unfold execHome
  refine KeptR.next ?_
  refine homeStart_kept (sub hm) ?_
  exact h

theorem homeLatch_kept {α : Type} {m : State → α} (hm : ∀ u, m u = m { u with regs := [], evq := [], out := [], msixPend := 0, sleds := [] })
    {s0 s : State} {a0} (h : Kept m s0 s) :
    Kept m s0 (homeLatch a0 s) := by
  unfold homeLatch
  extract_lets +onlyGivenNames x1
  clear_value x1
  extract_lets +onlyGivenNames x2
  clear_value x2
  extract_lets +onlyGivenNames x3
  clear_value x3
  extract_lets +onlyGivenNames x4
  clear_value x4
  extract_lets +onlyGivenNames x5
  have h6 : Kept m s0 x5 := by
    unfold x5
    refine homeStep_kept (sub hm) ?_
    refine fset_kept (sub hm) ?_
    refine fset_kept (sub hm) ?_
    refine setSled_kept (sub hm) ?_
    exact h
  clear_value x5
  refine ite_kept (P := fun x => Kept m s0 x) ?_ ?_
  · refine emit_kept (sub hm) ?_
    refine raise_kept (sub hm) ?_
    exact h6
  · exact h6

theorem execHomeSwitchEdge_kept {α : Type} {m : State → α} (hm : ∀ u, m u = m { u with regs := [], evq := [], out := [], msixPend := 0, sleds := [] })
    {s0 s : State} {a0 a1} (h : Kept m s0 s) :
    KeptR m s0 (execHomeSwitchEdge a0 a1 s) := by
  unfold execHomeSwitchEdge
  extract_lets +onlyGivenNames x1
  clear_value x1
  extract_lets +onlyGivenNames x2
  clear_value x2
  extract_lets +onlyGivenNames x3
  clear_value x3
  extract_lets +onlyGivenNames x4
  have h5 : Kept m s0 x4 := by
    unfold x4
    refine fsetB_kept (sub hm) ?_
    exact h
  clear_value x4
  extract_lets +onlyGivenNames x6
  clear_value x6
  refine KeptR.next ?_
  split
  · rename_i v7 v8 v9
    refine homeStep_kept (sub hm) ?_
    exact h5
  · rename_i v10 v11 v12
    refine ite_kept (P := fun x => Kept m s0 x) ?_ ?_
    · refine setSled_kept (sub hm) ?_
      exact h5
    · exact h5
  · rename_i v13 v14 v15
    refine homeLatch_kept (sub hm) ?_
    exact h5
  · rename_i v16 v17 v18 v19 v20 v21
    exact h5

theorem execHomingFail_kept {α : Type} {m : State → α} (hm : ∀ u, m u = m { u with regs := [], evq := [], out := [], msixPend := 0, sleds := [] })
    {s0 s : State} {a0 a1} (h : Kept m s0 s) :
    KeptR m s0 (execHomingFail a0 a1 s) := by
  unfold execHomingFail
  refine KeptR.next ?_
  refine ite_kept (P := fun x => Kept m s0 x) ?_ ?_
  · exact h
  · refine homingFail_kept (sub hm) ?_
    exact h

theorem execSwitchGlitch_kept {α : Type} {m : State → α} (hm : ∀ u, m u = m { u with regs := [], sleds := [] })
    {s0 s : State} {a0} (h : Kept m s0 s) :
    KeptR m s0 (execSwitchGlitch a0 s) := by
  unfold execSwitchGlitch
  extract_lets +onlyGivenNames x1
  clear_value x1
  refine KeptR.next ?_
  refine ite_app_kept (P := fun x => Kept m s0 x) ?_ ?_
  · refine setSled_kept (sub hm) ?_
    refine sticky_kept (sub hm) ?_
    refine cnt_kept (sub hm) ?_
    exact h
  · refine id_kept (P := fun x => Kept m s0 x) ?_
    refine sticky_kept (sub hm) ?_
    refine cnt_kept (sub hm) ?_
    exact h

theorem limitTrip_kept {α : Type} {m : State → α} (hm : ∀ u, m u = m { u with regs := [], evq := [], out := [], msixPend := 0, links := [], recs := [], pgs := [], sleds := [] })
    {s0 s : State} {a0 a1} (h : Kept m s0 s) :
    Kept m s0 (limitTrip a0 a1 s) := by
  unfold limitTrip
  extract_lets +onlyGivenNames x1
  clear_value x1
  extract_lets +onlyGivenNames x2
  clear_value x2
  extract_lets +onlyGivenNames x3
  have h4 : Kept m s0 x3 := by
    unfold x3
    refine fset_kept (sub hm) ?_
    exact h
  clear_value x3
  refine ite_kept (P := fun x => Kept m s0 x) ?_ ?_
  · refine ite_kept (P := fun x => Kept m s0 x) ?_ ?_
    · refine homingFail_kept (sub hm) ?_
      exact h4
    · exact h4
  · refine ite_kept (P := fun x => Kept m s0 x) ?_ ?_
    · exact h4
    · refine tripIfWriting_kept (sub hm) ?_
      refine emit_kept (sub hm) ?_
      refine cnt_kept (sub hm) ?_
      refine raise_kept (sub hm) ?_
      refine fault_kept (sub hm) ?_
      refine fset_kept (sub hm) ?_
      refine sledSt_kept (sub hm) ?_
      refine hardStop_kept (sub hm) ?_
      exact h4

theorem execLimitTrip_kept {α : Type} {m : State → α} (hm : ∀ u, m u = m { u with regs := [], evq := [], out := [], msixPend := 0, links := [], recs := [], pgs := [], sleds := [] })
    {s0 s : State} {a0 a1} (h : Kept m s0 s) :
    KeptR m s0 (execLimitTrip a0 a1 s) := by
  unfold execLimitTrip
  refine KeptR.next ?_
  refine limitTrip_kept (sub hm) ?_
  exact h

theorem execTedWindow_kept {α : Type} {m : State → α} (hm : ∀ u, m u = m { u with regs := [], evq := [], out := [], msixPend := 0, chans := [] })
    {s0 s : State} {a0 a1 a2 a3} (h : Kept m s0 s) :
    KeptR m s0 (execTedWindow a0 a1 a2 a3 s) := by
  unfold execTedWindow
  extract_lets +onlyGivenNames x1
  clear_value x1
  extract_lets +onlyGivenNames x2
  clear_value x2
  extract_lets +onlyGivenNames x3
  clear_value x3
  extract_lets +onlyGivenNames x4
  have h5 : Kept m s0 x4 := by
    unfold x4
    refine fset_kept (sub hm) ?_
    exact h
  clear_value x4
  refine ite_kept (P := fun x => KeptR m s0 x) ?_ ?_
  · refine KeptR.next ?_
    exact h5
  · refine ite_kept (P := fun x => KeptR m s0 x) ?_ ?_
    · refine ite_kept (P := fun x => KeptR m s0 x) ?_ ?_
      · refine KeptR.next ?_
        exact h5
      · extract_lets +onlyGivenNames x6
        clear_value x6
        extract_lets +onlyGivenNames x7
        have h8 : Kept m s0 x7 := by
          unfold x7
          refine setChan_kept (sub hm) ?_
          exact h5
        clear_value x7
        refine KeptR.next ?_
        refine ite_kept (P := fun x => Kept m s0 x) ?_ ?_
        · exact h8
        · refine acquire_kept (sub hm) ?_
          refine flockLost_kept (sub hm) ?_
          refine emit_kept (sub hm) ?_
          refine cnt_kept (sub hm) ?_
          refine raise_kept (sub hm) ?_
          refine fset_kept (sub hm) ?_
          refine fset_kept (sub hm) ?_
          exact h8
    · extract_lets +onlyGivenNames x9
      clear_value x9
      extract_lets +onlyGivenNames x10
      have h11 : Kept m s0 x10 := by
        unfold x10
        refine setChan_kept (sub hm) ?_
        exact h5
      clear_value x10
      refine KeptR.next ?_
      refine ite_kept (P := fun x => Kept m s0 x) ?_ ?_
      · exact h11
      · refine setChan_kept (sub hm) ?_
        refine fset_kept (sub hm) ?_
        exact h11

theorem execAcquisitionFailed_kept {α : Type} {m : State → α} (hm : ∀ u, m u = m { u with regs := [], evq := [] })
    {s0 s : State} {a0 a1 a2} (h : Kept m s0 s) :
    KeptR m s0 (execAcquisitionFailed a0 a1 a2 s) := by
  unfold execAcquisitionFailed
  extract_lets +onlyGivenNames x1
  clear_value x1
  extract_lets +onlyGivenNames x2
  clear_value x2
  refine KeptR.next ?_
  refine emit_kept (sub hm) ?_
  refine cnt_kept (sub hm) ?_
  refine fault_kept (sub hm) ?_
  exact h

theorem execGainStep_kept {α : Type} {m : State → α} (hm : ∀ u, m u = m { u with regs := [], out := [], links := [], chans := [] })
    {s0 s : State} {a0 a1} (h : Kept m s0 s) :
    KeptR m s0 (execGainStep a0 a1 s) := by
  unfold execGainStep
  extract_lets +onlyGivenNames x1
  clear_value x1
  extract_lets +onlyGivenNames x2
  clear_value x2
  extract_lets +onlyGivenNames x3
  clear_value x3
  refine KeptR.next ?_
  refine ite_kept (P := fun x => Kept m s0 x) ?_ ?_
  · exact h
  · refine cnt_kept (sub hm) ?_
    refine setChan_kept (sub hm) ?_
    refine sendMsg_kept (sub hm) ?_
    exact h

theorem execEqReset_kept {α : Type} {m : State → α} (hm : ∀ u, m u = m { u with regs := [] })
    {s0 s : State} {a0 a1} (h : Kept m s0 s) :
    KeptR m s0 (execEqReset a0 a1 s) := by
  unfold execEqReset
  refine KeptR.next ?_
  refine resetTaps_kept (sub hm) ?_
  exact h

theorem markFound_kept {α : Type} {m : State → α} (hm : ∀ u, m u = m { u with regs := [], evq := [], out := [], msixPend := 0, chans := [] })
    {s0 s : State} {a0 a1 a2} (h : Kept m s0 s) :
    Kept m s0 (markFound a0 a1 a2 s) := by
  unfold markFound
  extract_lets +onlyGivenNames x1
  clear_value x1
  extract_lets +onlyGivenNames x2
  clear_value x2
  extract_lets +onlyGivenNames x3
  have h4 : ∀ y5, Kept m s0 y5 → Kept m s0 (x3 y5) := by
    intro y5 k6
    unfold x3
    refine raise_kept (sub hm) ?_
    refine cnt_kept (sub hm) ?_
    exact k6
  clear_value x3
  split
  · rename_i v7 v8
    refine ite_kept (P := fun x => Kept m s0 x) ?_ ?_
    · exact h
    · refine fset_kept (sub hm) ?_
      refine setChan_kept (sub hm) ?_
      exact h
  · rename_i v9 v10 v11
    refine ite_kept (P := fun x => Kept m s0 x) ?_ ?_
    · refine fset_kept (sub hm) ?_
      refine setChan_kept (sub hm) ?_
      refine h4 _ ?_
      exact h
    · refine ite_kept (P := fun x => Kept m s0 x) ?_ ?_
      · extract_lets +onlyGivenNames x12
        clear_value x12
        refine emit_kept (sub hm) ?_
        refine raise_kept (sub hm) ?_
        refine cnt_kept (sub hm) ?_
        refine fset_kept (sub hm) ?_
        refine setChan_kept (sub hm) ?_
        exact h
      · refine fset_kept (sub hm) ?_
        refine setChan_kept (sub hm) ?_
        refine h4 _ ?_
        exact h

theorem execSyncMark_kept {α : Type} {m : State → α} (hm : ∀ u, m u = m { u with regs := [], evq := [], out := [], msixPend := 0, chans := [] })
    {s0 s : State} {a0 a1 a2 a3 a4} (h : Kept m s0 s) :
    KeptR m s0 (execSyncMark a0 a1 a2 a3 a4 s) := by
  unfold execSyncMark
  extract_lets +onlyGivenNames x1
  clear_value x1
  extract_lets +onlyGivenNames x2
  clear_value x2
  extract_lets +onlyGivenNames x3
  clear_value x3
  extract_lets +onlyGivenNames x4
  have h5 : Kept m s0 x4 := by
    unfold x4
    refine fset_kept (sub hm) ?_
    exact h
  clear_value x4
  refine ite_kept (P := fun x => KeptR m s0 x) ?_ ?_
  · refine KeptR.next ?_
    exact h5
  · split
    · rename_i v6 v7
      refine KeptR.next ?_
      refine checkIdent_kept (sub hm) ?_
      refine markFound_kept (sub hm) ?_
      refine fset_kept (sub hm) ?_
      refine cnt_kept (sub hm) ?_
      refine setChan_kept (sub hm) ?_
      exact h5
    · rename_i v8
      refine ite_kept (P := fun x => KeptR m s0 x) ?_ ?_
      · refine KeptR.next ?_
        exact h5
      · extract_lets +onlyGivenNames x9
        clear_value x9
        extract_lets +onlyGivenNames x10
        have h11 : Kept m s0 x10 := by
          unfold x10
          refine fset_kept (sub hm) ?_
          refine cnt_kept (sub hm) ?_
          exact h5
        clear_value x10
        refine KeptR.next ?_
        refine ite_kept (P := fun x => Kept m s0 x) ?_ ?_
        · refine flockLost_kept (sub hm) ?_
          exact h11
        · exact h11

theorem execFlockGained_kept {α : Type} {m : State → α} (hm : ∀ u, m u = m { u with regs := [], out := [], msixPend := 0, chans := [] })
    {s0 s : State} {a0 a1} (h : Kept m s0 s) :
    KeptR m s0 (execFlockGained a0 a1 s) := by
  unfold execFlockGained
  extract_lets +onlyGivenNames x1
  clear_value x1
  extract_lets +onlyGivenNames x2
  clear_value x2
  refine KeptR.next ?_
  refine ite_kept (P := fun x => Kept m s0 x) ?_ ?_
  · refine setChan_kept (sub hm) ?_
    refine fset_kept (sub hm) ?_
    refine raise_kept (sub hm) ?_
    refine showFlock_kept (sub hm) ?_
    exact h
  · exact h

theorem frontSample_kept {α : Type} {m : State → α} (hm : ∀ u, m u = m { u with regs := [], chans := [] })
    {s0 s : State} {a0 a1 a3} (h : Kept m s0 s) :
    Kept m s0 (frontSample a0 a1 s a3) := by
  unfold frontSample
  extract_lets +onlyGivenNames x1
  clear_value x1
  extract_lets +onlyGivenNames x2
  clear_value x2
  extract_lets +onlyGivenNames x3
  clear_value x3
  extract_lets +onlyGivenNames x4
  clear_value x4
  extract_lets +onlyGivenNames x5
  clear_value x5
  extract_lets +onlyGivenNames x6
  clear_value x6
  extract_lets +onlyGivenNames x7
  clear_value x7
  extract_lets +onlyGivenNames x8
  clear_value x8
  extract_lets +onlyGivenNames x9
  clear_value x9
  extract_lets +onlyGivenNames x10
  clear_value x10
  extract_lets +onlyGivenNames x11
  clear_value x11
  extract_lets +onlyGivenNames x12
  clear_value x12
  extract_lets +onlyGivenNames x13
  clear_value x13
  extract_lets +onlyGivenNames x14
  have h15 : Kept m s0 x14 := by
    unfold x14
    refine ite_kept (P := fun x => Kept m s0 x) ?_ ?_
    · refine sticky_kept (sub hm) ?_
      exact h
    · exact h
  clear_value x14
  extract_lets +onlyGivenNames x16
  have h17 : Kept m s0 x16 := by
    unfold x16
    refine ite_kept (P := fun x => Kept m s0 x) ?_ ?_
    · refine sticky_kept (sub hm) ?_
      exact h15
    · exact h15
  clear_value x16
  extract_lets +onlyGivenNames x18
  have h19 : Kept m s0 x18 := by
    unfold x18
    refine ite_kept (P := fun x => Kept m s0 x) ?_ ?_
    · refine fset_kept (sub hm) ?_
      refine fsetI_kept (sub hm) ?_
      refine setChan_kept (sub hm) ?_
      exact h17
    · refine setChan_kept (sub hm) ?_
      exact h
  clear_value x18
  extract_lets +onlyGivenNames x20
  clear_value x20
  refine ite_kept (P := fun x => Kept m s0 x) ?_ ?_
  · extract_lets +onlyGivenNames x21
    clear_value x21
    extract_lets +onlyGivenNames x22
    clear_value x22
    extract_lets +onlyGivenNames x23
    clear_value x23
    extract_lets +onlyGivenNames x24
    clear_value x24
    refine fsetI_kept (sub hm) ?_
    refine setChan_kept (sub hm) ?_
    exact h19
  · exact h19

theorem frontEnd_kept {α : Type} {m : State → α} (hm : ∀ u, m u = m { u with regs := [], chans := [] })
    {s0 s : State} {a0 a1 a2} (h : Kept m s0 s) :
    Kept m s0 (frontEnd a0 a1 a2 s) := by
  unfold frontEnd
  refine ite_kept (P := fun x => Kept m s0 x) ?_ ?_
  · refine foldl_kept (P := fun x => Kept m s0 x) ?_ ?_
    · intro y1 y2 y3
      refine frontSample_kept (sub hm) ?_
      exact y3
    · exact h
  · exact h

theorem trimSamples_kept {α : Type} {m : State → α} (hm : ∀ u, m u = m { u with chans := [] })
    {s0 s : State} {a0} (h : Kept m s0 s) :
    Kept m s0 (trimSamples a0 s) := by
  unfold trimSamples
  extract_lets +onlyGivenNames x1
  clear_value x1
  extract_lets +onlyGivenNames x2
  clear_value x2
  refine foldl_kept (P := fun x => Kept m s0 x) ?_ ?_
  · intro y3 y4 y5
    extract_lets +onlyGivenNames x6
    clear_value x6
    refine setChan_kept (sub hm) ?_
    exact y5
  · exact h

theorem rfSamples_kept {α : Type} {m : State → α} (hm : ∀ u, m u = m { u with regs := [], chans := [] })
    {s0 s : State} {a0 a1} (h : Kept m s0 s) :
    Kept m s0 (rfSamples a0 a1 s) := by
  unfold rfSamples
  refine ite_kept (P := fun x => Kept m s0 x) ?_ ?_
  · exact h
  · extract_lets +onlyGivenNames x1
    have h2 : Kept m s0 x1 := by
      unfold x1
      refine foldl_kept (P := fun x => Kept m s0 x) ?_ ?_
      · intro y3 y4 y5
        refine frontEnd_kept (sub hm) ?_
        exact y5
      · exact h
    clear_value x1
    extract_lets +onlyGivenNames x6
    have h7 : Kept m s0 x6 := by
      unfold x6
      refine foldl_kept (P := fun x => Kept m s0 x) ?_ ?_
      · intro y8 y9 y10
        refine ite_kept (P := fun x => Kept m s0 x) ?_ ?_
        · refine showStep_kept (sub hm) ?_
          refine channelBits_kept (sub hm) ?_
          exact y10
        · exact y10
      · exact h2
    clear_value x6
    refine trimSamples_kept (sub hm) ?_
    exact h7

theorem execFrameDelivery_kept {α : Type} {m : State → α} (hm : ∀ u, m u = m { u with regs := [], chans := [], frames := [] })
    {s0 s : State} {a0 a1 a2} (h : Kept m s0 s) :
    KeptR m s0 (execFrameDelivery a0 a1 a2 s) := by
  unfold execFrameDelivery
  extract_lets +onlyGivenNames x1
  clear_value x1
  extract_lets +onlyGivenNames x2
  clear_value x2
  extract_lets +onlyGivenNames x3
  have h4 : Kept m s0 x3 := by
    unfold x3
    refine rfSamples_kept (sub hm) ?_
    exact h
  clear_value x3
  extract_lets +onlyGivenNames x5
  clear_value x5
  refine ite_kept (P := fun x => KeptR m s0 x) ?_ ?_
  · refine KeptR.next ?_
    exact h4
  · extract_lets +onlyGivenNames x6
    clear_value x6
    extract_lets +onlyGivenNames x7
    have h8 : Kept m s0 x7 := by
      unfold x7
      refine setChan_kept (sub hm) ?_
      exact h4
    clear_value x7
    extract_lets +onlyGivenNames x9
    clear_value x9
    extract_lets +onlyGivenNames x10
    clear_value x10
    extract_lets +onlyGivenNames x11
    clear_value x11
    extract_lets +onlyGivenNames x12
    clear_value x12
    extract_lets +onlyGivenNames x13
    clear_value x13
    extract_lets +onlyGivenNames x14
    clear_value x14
    extract_lets +onlyGivenNames x15
    clear_value x15
    extract_lets +onlyGivenNames x16
    clear_value x16
    extract_lets +onlyGivenNames x17
    have h18 : Kept m s0 x17 := by
      unfold x17
      refine ite_app_kept (P := fun x => Kept m s0 x) ?_ ?_
      · refine sticky_kept (sub hm) ?_
        refine cntN_kept (sub hm) ?_
        refine cntN_kept (sub hm) ?_
        exact h8
      · refine id_kept (P := fun x => Kept m s0 x) ?_
        refine cntN_kept (sub hm) ?_
        refine cntN_kept (sub hm) ?_
        exact h8
    clear_value x17
    refine KeptR.next ?_
    refine Kept.with hm ?_
    exact h18

theorem slotDone_kept {α : Type} {m : State → α} (hm : ∀ u, m u = m { u with chans := [], frames := [], blanks := [] })
    {s0 s : State} {a0 a1} (h : Kept m s0 s) :
    Kept m s0 (slotDone a0 a1 s) := by
  unfold slotDone
  extract_lets +onlyGivenNames x1
  clear_value x1
  extract_lets +onlyGivenNames x2
  have h3 : Kept m s0 x2 := by
    unfold x2
    refine setChan_kept (sub hm) ?_
    exact h
  clear_value x2
  refine ite_kept (P := fun x => Kept m s0 x) ?_ ?_
  · extract_lets +onlyGivenNames x4
    clear_value x4
    refine Kept.with hm ?_
    exact h3
  · exact h3

theorem execFrameSlotEnd_kept {α : Type} {m : State → α} (hm : ∀ u, m u = m { u with regs := [], out := [], msixPend := 0, disc := {}, ends := [], recs := [], chans := [], frames := [], blanks := [], encoded := [], mem := {}, cl := {} })
    {s0 s : State} {a0 a1 a2 a3 a4} (h : Kept m s0 s) :
    KeptR m s0 (execFrameSlotEnd a0 a1 a2 a3 a4 s) := by
  unfold execFrameSlotEnd
  extract_lets +onlyGivenNames x1
  clear_value x1
  extract_lets +onlyGivenNames x2
  clear_value x2
  extract_lets +onlyGivenNames x3
  clear_value x3
  refine ite_kept (P := fun x => KeptR m s0 x) ?_ ?_
  · refine KeptR.next ?_
    refine ite_kept (P := fun x => Kept m s0 x) ?_ ?_
    · refine slotEmitted_kept (sub hm) ?_
      exact h
    · exact h
  · extract_lets +onlyGivenNames x4
    clear_value x4
    extract_lets +onlyGivenNames x5
    clear_value x5
    extract_lets +onlyGivenNames x6
    clear_value x6
    extract_lets +onlyGivenNames x7
    clear_value x7
    extract_lets +onlyGivenNames x8
    clear_value x8
    extract_lets +onlyGivenNames x9
    have h10 : Kept m s0 x9 := by
      unfold x9
      refine setChan_kept (sub hm) ?_
      refine fsetB_kept (sub hm) ?_
      refine ite_app_kept (P := fun x => Kept m s0 x) ?_ ?_
      · refine fset_kept (sub hm) ?_
        refine fset_kept (sub hm) ?_
        refine ite_app_kept (P := fun x => Kept m s0 x) ?_ ?_
        · refine cnt_kept (sub hm) ?_
          refine fsetB_kept (sub hm) ?_
          exact h
        · refine id_kept (P := fun x => Kept m s0 x) ?_
          refine fsetB_kept (sub hm) ?_
          exact h
      · refine id_kept (P := fun x => Kept m s0 x) ?_
        refine fset_kept (sub hm) ?_
        refine ite_app_kept (P := fun x => Kept m s0 x) ?_ ?_
        · refine cnt_kept (sub hm) ?_
          refine fsetB_kept (sub hm) ?_
          exact h
        · refine id_kept (P := fun x => Kept m s0 x) ?_
          refine fsetB_kept (sub hm) ?_
          exact h
    clear_value x9
    extract_lets +onlyGivenNames x11
    have h12 : Kept m s0 x11 := by
      unfold x11
      refine ite_kept (P := fun x => Kept m s0 x) ?_ ?_
      · refine slotDone_kept (sub hm) ?_
        exact h10
      · exact h10
    clear_value x11
    refine KeptR.next ?_
    refine ite_kept (P := fun x => Kept m s0 x) ?_ ?_
    · refine showSlot_kept (sub hm) ?_
      refine fset_kept (sub hm) ?_
      exact h12
    · exact h12

theorem supervise_kept {α : Type} {m : State → α} (hm : ∀ u, m u = m { u with regs := [], evq := [], out := [], msixPend := 0 })
    {s0 s : State} {a0 a1 a2 a3 a4} (h : Kept m s0 s) :
    Kept m s0 (supervise a0 a1 a2 a3 a4 s) := by
  unfold supervise
  extract_lets +onlyGivenNames x1
  clear_value x1
  extract_lets +onlyGivenNames x2
  clear_value x2
  extract_lets +onlyGivenNames x3
  clear_value x3
  refine ite_kept (P := fun x => Kept m s0 x) ?_ ?_
  · refine emit_kept (sub hm) ?_
    refine cnt_kept (sub hm) ?_
    refine raise_kept (sub hm) ?_
    refine loadSet_kept (sub hm) ?_
    exact h
  · exact h

theorem execCqiWindow_kept {α : Type} {m : State → α} (hm : ∀ u, m u = m { u with regs := [], evq := [], out := [], msixPend := 0, chans := [] })
    {s0 s : State} {a0 a1 a2} (h : Kept m s0 s) :
    KeptR m s0 (execCqiWindow a0 a1 a2 s) := by
  unfold execCqiWindow
  extract_lets +onlyGivenNames x1
  clear_value x1
  extract_lets +onlyGivenNames x2
  clear_value x2
  extract_lets +onlyGivenNames x3
  clear_value x3
  extract_lets +onlyGivenNames x4
  clear_value x4
  extract_lets +onlyGivenNames x5
  clear_value x5
  extract_lets +onlyGivenNames x6
  clear_value x6
  extract_lets +onlyGivenNames x7
  have h8 : Kept m s0 x7 := by
    unfold x7
    refine setChan_kept (sub hm) ?_
    refine fmin_kept (sub hm) ?_
    refine fset_kept (sub hm) ?_
    refine fset_kept (sub hm) ?_
    exact h
  clear_value x7
  extract_lets +onlyGivenNames x9
  have h10 : Kept m s0 x9 := by
    unfold x9
    refine ite_kept (P := fun x => Kept m s0 x) ?_ ?_
    · refine emit_kept (sub hm) ?_
      refine raise_kept (sub hm) ?_
      exact h8
    · exact h8
  clear_value x9
  refine KeptR.next ?_
  refine supervise_kept (sub hm) ?_
  exact h10

theorem raiseH_kept {α : Type} {m : State → α} (hm : ∀ u, m u = m { u with regs := [], out := [], msixPend := 0, heads := [], chans := [], commons := [] })
    {s0 s : State} {a0 a1} (h : Kept m s0 s) :
    Kept m s0 (raiseH a0 a1 s) := by
  unfold raiseH
  refine ite_kept (P := fun x => Kept m s0 x) ?_ ?_
  · extract_lets +onlyGivenNames x1
    clear_value x1
    extract_lets +onlyGivenNames x2
    clear_value x2
    extract_lets +onlyGivenNames x3
    have h4 : Kept m s0 x3 := by
      unfold x3
      refine setHead_kept (sub hm) ?_
      refine enginesH_kept (sub hm) ?_
      refine setCommon_kept (sub hm) ?_
      refine raise_kept (sub hm) ?_
      refine fset_kept (sub hm) ?_
      exact h
    clear_value x3
    refine showHolding_kept (sub hm) ?_
    refine foldl_kept (P := fun x => Kept m s0 x) ?_ ?_
    · intro y5 y6 y7
      refine eraseBack_kept (sub hm) ?_
      exact y7
    · exact h4
  · exact h

theorem execDefectStart_kept {α : Type} {m : State → α} (hm : ∀ u, m u = m { u with regs := [], out := [], msixPend := 0, heads := [], chans := [], commons := [] })
    {s0 s : State} {a0 a1 a2 a3} (h : Kept m s0 s) :
    KeptR m s0 (execDefectStart a0 a1 a2 a3 s) := by
  unfold execDefectStart
  extract_lets +onlyGivenNames x1
  clear_value x1
  extract_lets +onlyGivenNames x2
  have h3 : Kept m s0 x2 := by
    unfold x2
    refine rfSamples_kept (sub hm) ?_
    exact h
  clear_value x2
  refine ite_kept (P := fun x => KeptR m s0 x) ?_ ?_
  · refine KeptR.next ?_
    exact h3
  · split
    · rename_i v4
      refine KeptR.next ?_
      refine raiseH_kept (sub hm) ?_
      refine setCommon_kept (sub hm) ?_
      exact h3
    · rename_i v5 v6
      extract_lets +onlyGivenNames x7
      clear_value x7
      refine ite_kept (P := fun x => KeptR m s0 x) ?_ ?_
      · refine KeptR.next ?_
        exact h3
      · refine KeptR.next ?_
        refine showHolding_kept (sub hm) ?_
        refine raiseH_kept (sub hm) ?_
        refine eraseBack_kept (sub hm) ?_
        refine cnt_kept (sub hm) ?_
        refine fset_kept (sub hm) ?_
        exact h3

theorem execDefectEnd_kept {α : Type} {m : State → α} (hm : ∀ u, m u = m { u with regs := [], chans := [], commons := [] })
    {s0 s : State} {a0 a1 a2 a3} (h : Kept m s0 s) :
    KeptR m s0 (execDefectEnd a0 a1 a2 a3 s) := by
  unfold execDefectEnd
  extract_lets +onlyGivenNames x1
  clear_value x1
  extract_lets +onlyGivenNames x2
  have h3 : Kept m s0 x2 := by
    unfold x2
    refine rfSamples_kept (sub hm) ?_
    exact h
  clear_value x2
  split
  · rename_i v4
    refine KeptR.next ?_
    refine showHolding_kept (sub hm) ?_
    refine setCommon_kept (sub hm) ?_
    exact h3
  · rename_i v5 v6
    extract_lets +onlyGivenNames x7
    clear_value x7
    refine ite_kept (P := fun x => KeptR m s0 x) ?_ ?_
    · refine KeptR.next ?_
      exact h3
    · refine KeptR.next ?_
      refine showHolding_kept (sub hm) ?_
      refine setChan_kept (sub hm) ?_
      refine cntN_kept (sub hm) ?_
      refine fset_kept (sub hm) ?_
      exact h3

theorem recordDefect_kept {α : Type} {m : State → α} (hm : ∀ u, m u = m { u with regs := [], commons := [] })
    {s0 s : State} {a0 a1} (h : Kept m s0 s) :
    Kept m s0 (recordDefect a0 a1 s) := by
  unfold recordDefect
  extract_lets +onlyGivenNames x1
  clear_value x1
  refine ite_kept (P := fun x => Kept m s0 x) ?_ ?_
  · refine fset_kept (sub hm) ?_
    exact h
  · refine showFifo_kept (sub hm) ?_
    refine setCommon_kept (sub hm) ?_
    exact h

theorem execHeadDefectEnd_kept {α : Type} {m : State → α} (hm : ∀ u, m u = m { u with regs := [], out := [], msixPend := 0, chans := [], commons := [] })
    {s0 s : State} {a0 a1 a2 a3 a4} (h : Kept m s0 s) :
    KeptR m s0 (execHeadDefectEnd a0 a1 a2 a3 a4 s) := by
  unfold execHeadDefectEnd
  extract_lets +onlyGivenNames x1
  clear_value x1
  extract_lets +onlyGivenNames x2
  clear_value x2
  refine ite_kept (P := fun x => KeptR m s0 x) ?_ ?_
  · refine KeptR.next ?_
    exact h
  · refine KeptR.next ?_
    refine recordDefect_kept (sub hm) ?_
    refine fset_kept (sub hm) ?_
    refine fset_kept (sub hm) ?_
    refine cntN_kept (sub hm) ?_
    refine pmc_kept (sub hm) ?_
    refine cnt_kept (sub hm) ?_
    refine raise_kept (sub hm) ?_
    refine dropH_kept (sub hm) ?_
    exact h

theorem execDefLong_kept {α : Type} {m : State → α} (hm : ∀ u, m u = m { u with regs := [], evq := [], out := [], msixPend := 0 })
    {s0 s : State} {a0 a1 a2} (h : Kept m s0 s) :
    KeptR m s0 (execDefLong a0 a1 a2 s) := by
  unfold execDefLong
  extract_lets +onlyGivenNames x1
  clear_value x1
  refine KeptR.next ?_
  refine ite_kept (P := fun x => Kept m s0 x) ?_ ?_
  · refine emit_kept (sub hm) ?_
    refine raise_kept (sub hm) ?_
    exact h
  · exact h

theorem learnWobble_kept {α : Type} {m : State → α} (hm : ∀ u, m u = m { u with regs := [] })
    {s0 s : State} {a0 a1 a2} (h : Kept m s0 s) :
    Kept m s0 (learnWobble a0 a1 a2 s) := by
  unfold learnWobble
  extract_lets +onlyGivenNames x1
  clear_value x1
  refine ite_kept (P := fun x => Kept m s0 x) ?_ ?_
  · refine learnOfs_kept (sub hm) ?_
    exact h
  · exact h

theorem posFrom_kept {α : Type} {m : State → α} (hm : ∀ u, m u = m { u with regs := [], evq := [], out := [], msixPend := 0, links := [], recs := [], engs := [], dmem := [], pgs := [], loops := [], heads := [], chans := [], commons := [] })
    {s0 s : State} {a0 a1 a2 a3} (h : Kept m s0 s) :
    Kept m s0 (posFrom a0 a1 a2 a3 s) := by
  unfold posFrom
  extract_lets +onlyGivenNames x1
  clear_value x1
  extract_lets +onlyGivenNames x2
  clear_value x2
  extract_lets +onlyGivenNames x3
  have h4 : Kept m s0 x3 := by
    unfold x3
    refine setPos_kept (sub hm) ?_
    exact h
  clear_value x3
  extract_lets +onlyGivenNames x5
  have h6 : Kept m s0 x5 := by
    unfold x5
    refine ite_kept (P := fun x => Kept m s0 x) ?_ ?_
    · refine fset_kept (sub hm) ?_
      refine fset_kept (sub hm) ?_
      exact h4
    · exact h4
  clear_value x5
  extract_lets +onlyGivenNames x7
  have h8 : Kept m s0 x7 := by
    unfold x7
    refine ite_kept (P := fun x => Kept m s0 x) ?_ ?_
    · refine loadSteps_kept (sub hm) ?_
      exact h6
    · exact h6
  clear_value x7
  refine addressConfirmed_kept (sub hm) ?_
  refine learnWobble_kept (sub hm) ?_
  refine showSlot_kept (sub hm) ?_
  exact h8

theorem wobbleConfirmed_kept {α : Type} {m : State → α} (hm : ∀ u, m u = m { u with regs := [], evq := [], out := [], msixPend := 0, links := [], recs := [], engs := [], dmem := [], pgs := [], loops := [], heads := [], chans := [], commons := [] })
    {s0 s : State} {a0 a1 a2} (h : Kept m s0 s) :
    Kept m s0 (wobbleConfirmed a0 a1 a2 s) := by
  unfold wobbleConfirmed
  extract_lets +onlyGivenNames x1
  clear_value x1
  extract_lets +onlyGivenNames x2
  clear_value x2
  extract_lets +onlyGivenNames x3
  clear_value x3
  extract_lets +onlyGivenNames x4
  have h5 : Kept m s0 x4 := by
    unfold x4
    refine setCommon_kept (sub hm) ?_
    exact h
  clear_value x4
  split
  · rename_i v6 v7
    refine posFrom_kept (sub hm) ?_
    exact h5
  · rename_i v8 v9 v10
    extract_lets +onlyGivenNames x11
    have h12 : Kept m s0 x11 := by
      unfold x11
      refine ite_kept (P := fun x => Kept m s0 x) ?_ ?_
      · exact h5
      · refine emit_kept (sub hm) ?_
        refine raise_kept (sub hm) ?_
        exact h5
    clear_value x11
    refine ite_kept (P := fun x => Kept m s0 x) ?_ ?_
    · refine posFrom_kept (sub hm) ?_
      exact h12
    · exact h12

theorem execWobbleWord_kept {α : Type} {m : State → α} (hm : ∀ u, m u = m { u with regs := [], evq := [], out := [], msixPend := 0, links := [], recs := [], engs := [], dmem := [], pgs := [], loops := [], heads := [], chans := [], commons := [] })
    {s0 s : State} {a0 a1 a2} (h : Kept m s0 s) :
    KeptR m s0 (execWobbleWord a0 a1 a2 s) := by
  unfold execWobbleWord
  extract_lets +onlyGivenNames x1
  clear_value x1
  extract_lets +onlyGivenNames x2
  clear_value x2
  extract_lets +onlyGivenNames x3
  clear_value x3
  extract_lets +onlyGivenNames x4
  clear_value x4
  refine ite_kept (P := fun x => KeptR m s0 x) ?_ ?_
  · refine KeptR.next ?_
    exact h
  · refine ite_kept (P := fun x => KeptR m s0 x) ?_ ?_
    · refine KeptR.next ?_
      refine cnt_kept (sub hm) ?_
      exact h
    · extract_lets +onlyGivenNames x5
      have h6 : Kept m s0 x5 := by
        unfold x5
        refine fset_kept (sub hm) ?_
        exact h
      clear_value x5
      refine ite_kept (P := fun x => KeptR m s0 x) ?_ ?_
      · extract_lets +onlyGivenNames x7
        clear_value x7
        refine KeptR.next ?_
        refine setCommon_kept (sub hm) ?_
        exact h6
      · refine ite_kept (P := fun x => KeptR m s0 x) ?_ ?_
        · extract_lets +onlyGivenNames x8
          clear_value x8
          extract_lets +onlyGivenNames x9
          have h10 : Kept m s0 x9 := by
            unfold x9
            refine setCommon_kept (sub hm) ?_
            exact h6
          clear_value x9
          refine KeptR.next ?_
          split
          · rename_i v11 v12 v13
            refine ite_kept (P := fun x => Kept m s0 x) ?_ ?_
            · refine wobbleConfirmed_kept (sub hm) ?_
              exact h10
            · exact h10
          · rename_i v14 v15
            exact h10
        · refine KeptR.next ?_
          exact h6

theorem execPosLost_kept {α : Type} {m : State → α} (hm : ∀ u, m u = m { u with regs := [], evq := [], out := [], msixPend := 0, commons := [] })
    {s0 s : State} {a0} (h : Kept m s0 s) :
    KeptR m s0 (execPosLost a0 s) := by
  unfold execPosLost
  extract_lets +onlyGivenNames x1
  clear_value x1
  refine KeptR.next ?_
  refine posInvalid_kept (sub hm) ?_
  refine fset_kept (sub hm) ?_
  refine fset_kept (sub hm) ?_
  refine setCommon_kept (sub hm) ?_
  exact h

theorem execModeCfgWrite_kept {α : Type} {m : State → α} (hm : ∀ u, m u = m { u with regs := [], chans := [] })
    {s0 s : State} {a0 a1} (h : Kept m s0 s) :
    KeptR m s0 (execModeCfgWrite a0 a1 s) := by
  unfold execModeCfgWrite
  refine KeptR.next ?_
  refine modeWrite_kept (sub hm) ?_
  exact h

theorem sweepFit_kept {α : Type} {m : State → α} (hm : ∀ u, m u = m { u with regs := [], evq := [], commons := [] })
    {s0 s : State} {a0 a1} (h : Kept m s0 s) :
    Kept m s0 (sweepFit a0 a1 s) := by
  unfold sweepFit
  extract_lets +onlyGivenNames x1
  clear_value x1
  extract_lets +onlyGivenNames x2
  clear_value x2
  extract_lets +onlyGivenNames x3
  clear_value x3
  extract_lets +onlyGivenNames x4
  clear_value x4
  extract_lets +onlyGivenNames x5
  clear_value x5
  extract_lets +onlyGivenNames x6
  clear_value x6
  extract_lets +onlyGivenNames x7
  clear_value x7
  extract_lets +onlyGivenNames x8
  clear_value x8
  extract_lets +onlyGivenNames x9
  clear_value x9
  extract_lets +onlyGivenNames x10
  clear_value x10
  refine calDone_kept (sub hm) ?_
  refine setCommon_kept (sub hm) ?_
  refine fsetB_kept (sub hm) ?_
  refine fset_kept (sub hm) ?_
  exact h

theorem execCalSweepPoint_kept {α : Type} {m : State → α} (hm : ∀ u, m u = m { u with regs := [], evq := [], commons := [] })
    {s0 s : State} {a0 a1 a2} (h : Kept m s0 s) :
    KeptR m s0 (execCalSweepPoint a0 a1 a2 s) := by
  unfold execCalSweepPoint
  extract_lets +onlyGivenNames x1
  clear_value x1
  split
  · rename_i v2 v3
    refine KeptR.next ?_
    exact h
  · rename_i v4 v5 v6
    refine ite_kept (P := fun x => KeptR m s0 x) ?_ ?_
    · refine KeptR.next ?_
      exact h
    · refine ite_kept (P := fun x => KeptR m s0 x) ?_ ?_
      · refine KeptR.next ?_
        refine ite_kept (P := fun x => Kept m s0 x) ?_ ?_
        · refine setCommon_kept (sub hm) ?_
          exact h
        · refine calFail_kept (sub hm) ?_
          exact h
      · extract_lets +onlyGivenNames x7
        clear_value x7
        refine KeptR.next ?_
        refine ite_kept (P := fun x => Kept m s0 x) ?_ ?_
        · refine setCommon_kept (sub hm) ?_
          exact h
        · refine sweepFit_kept (sub hm) ?_
          exact h

theorem execCalFail_kept {α : Type} {m : State → α} (hm : ∀ u, m u = m { u with regs := [], evq := [], commons := [] })
    {s0 s : State} {a0 a1} (h : Kept m s0 s) :
    KeptR m s0 (execCalFail a0 a1 s) := by
  unfold execCalFail
  refine KeptR.next ?_
  refine ite_kept (P := fun x => Kept m s0 x) ?_ ?_
  · exact h
  · refine calFail_kept (sub hm) ?_
    exact h

theorem takeCw_kept {α : Type} {m : State → α} (hm : ∀ u, m u = m { u with regs := [], out := [], msixPend := 0 })
    {s0 s : State} {a0 a1 a2} (h : Kept m s0 s) :
    Kept m s0 (takeCw a0 a1 a2 s).2 := by
  unfold takeCw
  split
  · rename_i v1 v2 v3 v4
    extract_lets +onlyGivenNames x5
    extract_lets +onlyGivenNames x6
    extract_lets +onlyGivenNames x7
    clear_value x7
    extract_lets +onlyGivenNames x8
    have h9 : Kept m s0 x8 := by
      unfold x8
      refine ite_kept (P := fun x => Kept m s0 x) ?_ ?_
      · exact h
      · refine sticky_kept (sub hm) ?_
        exact h
    clear_value x8
    extract_lets +onlyGivenNames x10
    have h11 : Kept m s0 x10 := by
      unfold x10
      refine cnt64_kept (sub hm) ?_
      exact h9
    clear_value x10
    extract_lets +onlyGivenNames x12
    clear_value x12
    refine ite_kept (P := fun (x : _ × _) => Kept m s0 x.2) ?_ ?_
    · refine snd_kept (P := fun x => Kept m s0 x) ?_
      refine cnt_kept (sub hm) ?_
      refine cnt_kept (sub hm) ?_
      exact h11
    · extract_lets +onlyGivenNames x13
      clear_value x13
      extract_lets +onlyGivenNames x14
      clear_value x14
      extract_lets +onlyGivenNames x15
      have h16 : Kept m s0 x15 := by
        unfold x15
        refine countCw_kept (sub hm) ?_
        exact h11
      clear_value x15
      refine ite_kept (P := fun (x : _ × _) => Kept m s0 x.2) ?_ ?_
      · refine snd_kept (P := fun x => Kept m s0 x) ?_
        exact h16
      · refine snd_kept (P := fun x => Kept m s0 x) ?_
        exact h16

theorem execCodewordDecoded_kept {α : Type} {m : State → α} (hm : ∀ u, m u = m { u with regs := [], out := [], msixPend := 0, frames := [], dec := {} })
    {s0 s : State} {a0 a1} (h : Kept m s0 s) :
    KeptR m s0 (execCodewordDecoded a0 a1 s) := by
  unfold execCodewordDecoded
  extract_lets +onlyGivenNames x1
  clear_value x1
  refine ite_kept (P := fun x => KeptR m s0 x) ?_ ?_
  · refine KeptR.next ?_
    exact h
  · split
    · rename_i v2 v3 v4
      refine ite_kept (P := fun x => KeptR m s0 x) ?_ ?_
      · refine KeptR.next ?_
        refine dropFrames_kept (sub hm) ?_
        exact h
      · split
        · rename_i v5 v6 v7 v8
          have h9 : Kept m s0 ((v6, v7)).2 := by
            rw [← v8]
            refine takeCw_kept (sub hm) ?_
            exact h
          refine KeptR.next ?_
          refine dropFrames_kept (sub hm) ?_
          refine setDec_kept (sub hm) ?_
          exact h9
    · rename_i v10 v11
      split
      · rename_i v12 v13 v14 v15
        have h16 : Kept m s0 ((v13, v14)).2 := by
          rw [← v15]
          refine takeCw_kept (sub hm) ?_
          exact h
        refine KeptR.next ?_
        refine dropFrames_kept (sub hm) ?_
        refine setDec_kept (sub hm) ?_
        exact h16

theorem squallEnter_kept {α : Type} {m : State → α} (hm : ∀ u, m u = m { u with regs := [], evq := [], out := [], msixPend := 0, ends := [], dec := {}, mem := {}, cl := {} })
    {s0 s : State} {a0 a1 a2} (h : Kept m s0 s) :
    Kept m s0 (squallEnter a0 a1 a2 s) := by
  unfold squallEnter
  extract_lets +onlyGivenNames x1
  clear_value x1
  refine ite_kept (P := fun x => Kept m s0 x) ?_ ?_
  · extract_lets +onlyGivenNames x2
    clear_value x2
    refine climb_kept (sub hm) ?_
    refine showSq_kept (sub hm) ?_
    refine cnt_kept (sub hm) ?_
    refine setDec_kept (sub hm) ?_
    exact h
  · refine ite_kept (P := fun x => Kept m s0 x) ?_ ?_
    · refine showSq_kept (sub hm) ?_
      refine raise_kept (sub hm) ?_
      refine setDec_kept (sub hm) ?_
      exact h
    · refine unrecovered_kept (sub hm) ?_
      refine emit_kept (sub hm) ?_
      refine sticky_kept (sub hm) ?_
      exact h

theorem legacyOutcome_kept {α : Type} {m : State → α} (hm : ∀ u, m u = m { u with regs := [], evq := [], out := [], msixPend := 0, ends := [], dec := {}, mem := {}, cl := {} })
    {s0 s : State} {a0 a1} (h : Kept m s0 s) :
    Kept m s0 (legacyOutcome a0 a1 s) := by
  unfold legacyOutcome
  extract_lets +onlyGivenNames x1
  clear_value x1
  extract_lets +onlyGivenNames x2
  clear_value x2
  refine ite_kept (P := fun x => Kept m s0 x) ?_ ?_
  · refine endRead_kept (sub hm) ?_
    exact h
  · extract_lets +onlyGivenNames x3
    have h4 : Kept m s0 x3 := by
      unfold x3
      refine emit_kept (sub hm) ?_
      refine raise_kept (sub hm) ?_
      refine cnt_kept (sub hm) ?_
      exact h
    clear_value x3
    refine ite_kept (P := fun x => Kept m s0 x) ?_ ?_
    · refine squallEnter_kept (sub hm) ?_
      exact h4
    · refine unrecovered_kept (sub hm) ?_
      exact h4

theorem showJudged_kept {α : Type} {m : State → α} (hm : ∀ u, m u = m { u with regs := [], evq := [], out := [], msixPend := 0 })
    {s0 s : State} {a0 a1} (h : Kept m s0 s) :
    Kept m s0 (showJudged a0 a1 s) := by
  unfold showJudged
  extract_lets +onlyGivenNames x1
  clear_value x1
  extract_lets +onlyGivenNames x2
  clear_value x2
  extract_lets +onlyGivenNames x3
  have h4 : Kept m s0 x3 := by
    unfold x3
    refine cnt64_kept (sub hm) ?_
    refine fsetB_kept (sub hm) ?_
    refine fset_kept (sub hm) ?_
    refine fset_kept (sub hm) ?_
    refine fset_kept (sub hm) ?_
    refine fset_kept (sub hm) ?_
    refine cntN_kept (sub hm) ?_
    refine cntN_kept (sub hm) ?_
    refine cntN_kept (sub hm) ?_
    exact h
  clear_value x3
  extract_lets +onlyGivenNames x5
  have h6 : Kept m s0 x5 := by
    unfold x5
    refine ite_kept (P := fun x => Kept m s0 x) ?_ ?_
    · exact h4
    · refine fset_kept (sub hm) ?_
      refine raise_kept (sub hm) ?_
      refine cntN_kept (sub hm) ?_
      exact h4
  clear_value x5
  extract_lets +onlyGivenNames x7
  have h8 : Kept m s0 x7 := by
    unfold x7
    refine ite_kept (P := fun x => Kept m s0 x) ?_ ?_
    · exact h6
    · refine raise_kept (sub hm) ?_
      refine cnt_kept (sub hm) ?_
      exact h6
  clear_value x7
  refine foldl_kept (P := fun x => Kept m s0 x) ?_ ?_
  · intro y9 y10 y11
    refine emit_kept (sub hm) ?_
    refine raise_kept (sub hm) ?_
    refine cnt_kept (sub hm) ?_
    exact y11
  · exact h8

theorem inconsistent_kept {α : Type} {m : State → α} (hm : ∀ u, m u = m { u with regs := [], evq := [], out := [], msixPend := 0, ends := [], mem := {}, cl := {} })
    {s0 s : State} {a0 a1 a2 a3} (h : Kept m s0 s) :
    Kept m s0 (inconsistent a0 a1 a2 a3 s) := by
  unfold inconsistent
  extract_lets +onlyGivenNames x1
  have h2 : Kept m s0 x1 := by
    unfold x1
    refine ite_kept (P := fun x => Kept m s0 x) ?_ ?_
    · refine cnt_kept (sub hm) ?_
      refine raise_kept (sub hm) ?_
      exact h
    · exact h
  clear_value x1
  refine unrecovered_kept (sub hm) ?_
  refine emit_kept (sub hm) ?_
  refine cnt_kept (sub hm) ?_
  refine raise_kept (sub hm) ?_
  exact h2

theorem queueReloc_kept {α : Type} {m : State → α} (hm : ∀ u, m u = m { u with regs := [], evq := [], out := [], msixPend := 0, disc := {} })
    {s0 s : State} {a0 a1 a2} (h : Kept m s0 s) :
    Kept m s0 (queueReloc a0 a1 a2 s).1 := by
  unfold queueReloc
  extract_lets +onlyGivenNames x1
  clear_value x1
  extract_lets +onlyGivenNames x2
  clear_value x2
  refine ite_kept (P := fun (x : _ × _) => Kept m s0 x.1) ?_ ?_
  · refine fst_kept (P := fun x => Kept m s0 x) ?_
    refine emit_kept (sub hm) ?_
    refine raise_kept (sub hm) ?_
    refine cnt_kept (sub hm) ?_
    refine setDisc_kept (sub hm) ?_
    exact h
  · refine fst_kept (P := fun x => Kept m s0 x) ?_
    refine emit_kept (sub hm) ?_
    refine cnt_kept (sub hm) ?_
    exact h

theorem marginal_kept {α : Type} {m : State → α} (hm : ∀ u, m u = m { u with regs := [], evq := [], out := [], msixPend := 0, disc := {} })
    {s0 s : State} {a0 a1} (h : Kept m s0 s) :
    Kept m s0 (marginal a0 a1 s) := by
  unfold marginal
  extract_lets +onlyGivenNames x1
  clear_value x1
  refine ite_kept (P := fun x => Kept m s0 x) ?_ ?_
  · extract_lets +onlyGivenNames x2
    have h3 : Kept m s0 x2 := by
      unfold x2
      refine emit_kept (sub hm) ?_
      refine raise_kept (sub hm) ?_
      exact h
    clear_value x2
    refine ite_kept (P := fun x => Kept m s0 x) ?_ ?_
    · refine queueReloc_kept (sub hm) ?_
      exact h3
    · exact h3
  · exact h

theorem execClusterOutcome_kept {α : Type} {m : State → α} (hm : ∀ u, m u = m { u with regs := [], evq := [], out := [], msixPend := 0, disc := {}, ends := [], blanks := [], dec := {}, mem := {}, cl := {} })
    {s0 s : State} {a0 a1} (h : Kept m s0 s) :
    KeptR m s0 (execClusterOutcome a0 a1 s) := by
  unfold execClusterOutcome
  extract_lets +onlyGivenNames x1
  clear_value x1
  refine ite_kept (P := fun x => KeptR m s0 x) ?_ ?_
  · refine KeptR.next ?_
    refine legacyOutcome_kept (sub hm) ?_
    exact h
  · extract_lets +onlyGivenNames x2
    clear_value x2
    extract_lets +onlyGivenNames x3
    have h4 : ∀ y5, Kept m s0 y5 → Kept m s0 (x3 y5) := by
      intro y5 k6
      unfold x3
      refine setDec_kept (sub hm) ?_
      exact k6
    clear_value x3
    refine ite_kept (P := fun x => KeptR m s0 x) ?_ ?_
    · refine KeptR.next ?_
      refine h4 _ ?_
      refine endCluster_kept (sub hm) ?_
      refine fset_kept (sub hm) ?_
      refine cnt_kept (sub hm) ?_
      refine Kept.with hm ?_
      exact h
    · extract_lets +onlyGivenNames x7
      clear_value x7
      extract_lets +onlyGivenNames x8
      clear_value x8
      extract_lets +onlyGivenNames x9
      have h10 : Kept m s0 x9 := by
        unfold x9
        refine showJudged_kept (sub hm) ?_
        refine h4 _ ?_
        exact h
      clear_value x9
      refine ite_kept (P := fun x => KeptR m s0 x) ?_ ?_
      · refine KeptR.next ?_
        split
        · rename_i v11 v12 v13
          refine inconsistent_kept (sub hm) ?_
          exact h10
        · rename_i v14 v15
          refine marginal_kept (sub hm) ?_
          refine endRead_kept (sub hm) ?_
          refine cnt64_kept (sub hm) ?_
          refine pmc_kept (sub hm) ?_
          exact h10
      · extract_lets +onlyGivenNames x16
        have h17 : Kept m s0 x16 := by
          unfold x16
          refine emit_kept (sub hm) ?_
          refine raise_kept (sub hm) ?_
          refine cnt_kept (sub hm) ?_
          refine pmc_kept (sub hm) ?_
          exact h10
        clear_value x16
        refine KeptR.next ?_
        refine ite_kept (P := fun x => Kept m s0 x) ?_ ?_
        · refine squallEnter_kept (sub hm) ?_
          exact h17
        · refine unrecovered_kept (sub hm) ?_
          exact h17

theorem execSquallSlotFree_kept {α : Type} {m : State → α} (hm : ∀ u, m u = m { u with regs := [], dec := {} })
    {s0 s : State} (h : Kept m s0 s) :
    KeptR m s0 (execSquallSlotFree s) := by
  unfold execSquallSlotFree
  split
  · rename_i v1 v2
    refine KeptR.next ?_
    exact h
  · rename_i v3 v4 v5 v6
    refine ite_kept (P := fun x => KeptR m s0 x) ?_ ?_
    · refine KeptR.next ?_
      exact h
    · refine KeptR.next ?_
      refine showSq_kept (sub hm) ?_
      refine cnt_kept (sub hm) ?_
      refine setDec_kept (sub hm) ?_
      exact h

theorem execSquallReread_kept {α : Type} {m : State → α} (hm : ∀ u, m u = m { u with regs := [], evq := [], out := [], msixPend := 0, disc := {}, ends := [], dec := {}, mem := {}, cl := {} })
    {s0 s : State} {a0 a1} (h : Kept m s0 s) :
    KeptR m s0 (execSquallReread a0 a1 s) := by
  unfold execSquallReread
  extract_lets +onlyGivenNames x1
  clear_value x1
  split
  · rename_i v2 v3
    refine KeptR.next ?_
    exact h
  · rename_i v4 v5 v6
    extract_lets +onlyGivenNames x7
    clear_value x7
    extract_lets +onlyGivenNames x8
    clear_value x8
    extract_lets +onlyGivenNames x9
    clear_value x9
    extract_lets +onlyGivenNames x10
    have h11 : Kept m s0 x10 := by
      unfold x10
      refine ite_app_kept (P := fun x => Kept m s0 x) ?_ ?_
      · refine id_kept (P := fun x => Kept m s0 x) ?_
        refine pmc_kept (sub hm) ?_
        refine setDec_kept (sub hm) ?_
        exact h
      · refine showJudged_kept (sub hm) ?_
        refine pmc_kept (sub hm) ?_
        refine setDec_kept (sub hm) ?_
        exact h
    clear_value x10
    refine ite_kept (P := fun x => KeptR m s0 x) ?_ ?_
    · split
      · rename_i v12 v13 v14
        refine KeptR.next ?_
        refine inconsistent_kept (sub hm) ?_
        refine sqRelease_kept (sub hm) ?_
        exact h11
      · rename_i v15 v16
        extract_lets +onlyGivenNames x17
        have h18 : Kept m s0 x17 := by
          unfold x17
          refine emit_kept (sub hm) ?_
          refine endRead_kept (sub hm) ?_
          refine sqRelease_kept (sub hm) ?_
          refine fmax_kept (sub hm) ?_
          refine raise_kept (sub hm) ?_
          refine cnt_kept (sub hm) ?_
          refine cnt_kept (sub hm) ?_
          refine cnt64_kept (sub hm) ?_
          exact h11
        clear_value x17
        refine KeptR.next ?_
        refine ite_kept (P := fun x => Kept m s0 x) ?_ ?_
        · refine queueReloc_kept (sub hm) ?_
          exact h18
        · exact h18
    · refine KeptR.next ?_
      refine climb_kept (sub hm) ?_
      exact h11

theorem sqInstall_kept {α : Type} {m : State → α} (hm : ∀ u, m u = m { u with regs := [], evq := [], dmem := [] })
    {s0 s : State} {a0 a1 a2} (h : Kept m s0 s) :
    Kept m s0 (sqInstall a0 a1 a2 s) := by
  unfold sqInstall
  extract_lets +onlyGivenNames x1
  clear_value x1
  split
  · rename_i v2
    exact h
  · rename_i v3 v4 v5 v6
    refine ite_kept (P := fun x => Kept m s0 x) ?_ ?_
    · extract_lets +onlyGivenNames x7
      have h8 : Kept m s0 x7 := by
        unfold x7
        refine ite_kept (P := fun x => Kept m s0 x) ?_ ?_
        · refine dmPut_kept (sub hm) ?_
          exact h
        · refine fset_kept (sub hm) ?_
          exact h
      clear_value x7
      refine emit_kept (sub hm) ?_
      refine cnt_kept (sub hm) ?_
      exact h8
    · exact h

theorem execSquallCalibration_kept {α : Type} {m : State → α} (hm : ∀ u, m u = m { u with regs := [], evq := [], out := [], msixPend := 0, ends := [], dmem := [], dec := {}, mem := {}, cl := {} })
    {s0 s : State} {a0 a1 a2} (h : Kept m s0 s) :
    KeptR m s0 (execSquallCalibration a0 a1 a2 s) := by
  unfold execSquallCalibration
  extract_lets +onlyGivenNames x1
  clear_value x1
  split
  · rename_i v2 v3
    refine KeptR.next ?_
    exact h
  · rename_i v4 v5 v6
    refine ite_kept (P := fun x => KeptR m s0 x) ?_ ?_
    · refine KeptR.next ?_
      exact h
    · extract_lets +onlyGivenNames x7
      clear_value x7
      extract_lets +onlyGivenNames x8
      clear_value x8
      extract_lets +onlyGivenNames x9
      have h10 : Kept m s0 x9 := by
        unfold x9
        refine setDec_kept (sub hm) ?_
        refine sqInstall_kept (sub hm) ?_
        refine sqInstall_kept (sub hm) ?_
        exact h
      clear_value x9
      refine KeptR.next ?_
      refine ite_kept (P := fun x => Kept m s0 x) ?_ ?_
      · refine unrecovered_kept (sub hm) ?_
        refine sqRelease_kept (sub hm) ?_
        exact h10
      · exact h10

theorem execSquallTimeLimit_kept {α : Type} {m : State → α} (hm : ∀ u, m u = m { u with dec := {} })
    {s0 s : State} {a0} (h : Kept m s0 s) :
    KeptR m s0 (execSquallTimeLimit a0 s) := by
  unfold execSquallTimeLimit
  extract_lets +onlyGivenNames x1
  clear_value x1
  split
  · rename_i v2 v3
    refine KeptR.next ?_
    exact h
  · rename_i v4 v5 v6
    refine KeptR.next ?_
    refine setDec_kept (sub hm) ?_
    exact h

theorem execSquallAbandon_kept {α : Type} {m : State → α} (hm : ∀ u, m u = m { u with regs := [], evq := [], dec := {} })
    {s0 s : State} {a0} (h : Kept m s0 s) :
    KeptR m s0 (execSquallAbandon a0 s) := by
  unfold execSquallAbandon
  extract_lets +onlyGivenNames x1
  clear_value x1
  split
  · rename_i v2 v3
    refine KeptR.next ?_
    exact h
  · rename_i v4 v5 v6
    refine KeptR.next ?_
    refine emit_kept (sub hm) ?_
    refine cnt_kept (sub hm) ?_
    refine sqRelease_kept (sub hm) ?_
    exact h

theorem recordReplacement_kept {α : Type} {m : State → α} (hm : ∀ u, m u = m { u with regs := [], out := [], disc := {} })
    {s0 s : State} {a0 a1 a2} (h : Kept m s0 s) :
    Kept m s0 (recordReplacement a0 a1 a2 s) := by
  unfold recordReplacement
  split
  · rename_i v1 v2 v3 v4
    have h5 : Kept m s0 ((v2, v3)).2 := by
      rw [← v4]
      refine encodeCluster_kept (sub hm) ?_
      exact h
    refine send_kept (sub hm) ?_
    refine setDisc_kept (sub hm) ?_
    exact h5

theorem replace_kept {α : Type} {m : State → α} (hm : ∀ u, m u = m { u with regs := [], evq := [], out := [], disc := {} })
    {s0 s : State} {a0 a1 a2 a3} (h : Kept m s0 s) :
    Kept m s0 (replace a0 a1 a2 a3 s).2 := by
  unfold replace
  extract_lets +onlyGivenNames x1
  clear_value x1
  extract_lets +onlyGivenNames x2
  clear_value x2
  extract_lets +onlyGivenNames x3
  clear_value x3
  split
  · rename_i v4 v5
    refine snd_kept (P := fun x => Kept m s0 x) ?_
    exact h
  · rename_i v6 v7 v8
    split
    · rename_i v9 v10
      refine snd_kept (P := fun x => Kept m s0 x) ?_
      exact h
    · rename_i v12 v13 v14
      have h15 : Kept m s0 v13 := by
        refine (?_ : KeptO m s0 _) _ v14
        refine recordIntent_kept (sub hm) ?_
        exact h
      extract_lets +onlyGivenNames x16
      have h17 : Kept m s0 x16 := by
        unfold x16
        refine recordReplacement_kept (sub hm) ?_
        exact h15
      clear_value x16
      refine ite_kept (P := fun (x : _ × _) => Kept m s0 x.2) ?_ ?_
      · refine ite_kept (P := fun (x : _ × _) => Kept m s0 x.2) ?_ ?_
        · refine snd_kept (P := fun x => Kept m s0 x) ?_
          exact h17
        · refine snd_kept (P := fun x => Kept m s0 x) ?_
          refine KeptO.getD ?_ ?_
          · refine recordIntent_kept (sub hm) ?_
            exact h17
          · exact h17
      · extract_lets +onlyGivenNames x18
        clear_value x18
        extract_lets +onlyGivenNames x19
        have h20 : Kept m s0 x19 := by
          unfold x19
          refine setDisc_kept (sub hm) ?_
          exact h17
        clear_value x19
        split
        · rename_i v21 v22
          have h23 : Kept m s0 v13 := by
            refine (?_ : KeptO m s0 _) _ v14
            refine recordIntent_kept (sub hm) ?_
            exact h
          refine snd_kept (P := fun x => Kept m s0 x) ?_
          refine setDisc_kept (sub hm) ?_
          exact h20
        · rename_i v25 v26 v27
          have h28 : Kept m s0 v13 := by
            refine (?_ : KeptO m s0 _) _ v14
            refine recordIntent_kept (sub hm) ?_
            exact h
          have h29 : Kept m s0 v26 := by
            refine (?_ : KeptO m s0 _) _ v27
            refine KeptO.bind ?_ ?_
            · refine recordDefects_kept (sub hm) ?_
              exact h20
            · intro y30 y31
              refine recordIntent_kept (sub hm) ?_
              exact y31
          refine snd_kept (P := fun x => Kept m s0 x) ?_
          exact h29

theorem replMade_kept {α : Type} {m : State → α} (hm : ∀ u, m u = m { u with regs := [], evq := [] })
    {s0 s : State} {a0 a1} (h : Kept m s0 s) :
    Kept m s0 (replMade a0 a1 s) := by
  unfold replMade
  refine emit_kept (sub hm) ?_
  refine cnt_kept (sub hm) ?_
  exact h

theorem replImpossible_kept {α : Type} {m : State → α} (hm : ∀ u, m u = m { u with regs := [], evq := [], out := [], msixPend := 0 })
    {s0 s : State} {a0 a1} (h : Kept m s0 s) :
    Kept m s0 (replImpossible a0 a1 s) := by
  unfold replImpossible
  refine emit_kept (sub hm) ?_
  refine raise_kept (sub hm) ?_
  refine fault_kept (sub hm) ?_
  exact h

theorem execRelocation_kept {α : Type} {m : State → α} (hm : ∀ u, m u = m { u with regs := [], evq := [], out := [], msixPend := 0, disc := {}, ends := [], mem := {}, cl := {} })
    {s0 s : State} {a0 a1} (h : Kept m s0 s) :
    KeptR m s0 (execRelocation a0 a1 s) := by
  unfold execRelocation
  split
  · rename_i v1 v2
    refine KeptR.next ?_
    exact h
  · rename_i v3 v4 v5
    refine ite_kept (P := fun x => KeptR m s0 x) ?_ ?_
    · refine KeptR.next ?_
      exact h
    · extract_lets +onlyGivenNames x6
      have h7 : ∀ y8, Kept m s0 y8 → Kept m s0 (x6 y8) := by
        intro y8 k9
        unfold x6
        refine setDisc_kept (sub hm) ?_
        exact k9
      clear_value x6
      refine KeptR.next ?_
      split
      · rename_i v10 v11 v12 v13
        have h14 : Kept m s0 ((ReplEnd.done v11, v12)).2 := by
          rw [← v13]
          refine replace_kept (sub hm) ?_
          exact h
        refine replMade_kept (sub hm) ?_
        refine h7 _ ?_
        exact h14
      · rename_i v15 v16 v17
        have h18 : Kept m s0 ((ReplEnd.retry, v16)).2 := by
          rw [← v17]
          refine replace_kept (sub hm) ?_
          exact h
        refine setDisc_kept (sub hm) ?_
        exact h18
      · rename_i v19 v20 v21 v22
        have h23 : Kept m s0 ((ReplEnd.stuck v20, v21)).2 := by
          rw [← v22]
          refine replace_kept (sub hm) ?_
          exact h
        refine ite_app_kept (P := fun x => Kept m s0 x) ?_ ?_
        · refine endCluster_kept (sub hm) ?_
          refine replImpossible_kept (sub hm) ?_
          refine h7 _ ?_
          exact h23
        · refine id_kept (P := fun x => Kept m s0 x) ?_
          refine replImpossible_kept (sub hm) ?_
          refine h7 _ ?_
          exact h23
      · rename_i v24 v25 v26
        have h27 : Kept m s0 ((ReplEnd.failed, v25)).2 := by
          rw [← v26]
          refine replace_kept (sub hm) ?_
          exact h
        refine ite_app_kept (P := fun x => Kept m s0 x) ?_ ?_
        · refine endCluster_kept (sub hm) ?_
          refine h7 _ ?_
          exact h27
        · refine id_kept (P := fun x => Kept m s0 x) ?_
          refine h7 _ ?_
          exact h27

theorem execXferCheckCompare_kept {α : Type} {m : State → α} (hm : ∀ u, m u = m { u with regs := [], evq := [], out := [], msixPend := 0, disc := {}, dec := {}, encoded := [], mem := {}, lanesC := [], cl := {} })
    {s0 s : State} {a0} (h : Kept m s0 s) :
    KeptR m s0 (execXferCheckCompare a0 s) := by
  unfold execXferCheckCompare
  extract_lets +onlyGivenNames x1
  clear_value x1
  split
  · rename_i v2 v3
    refine KeptR.next ?_
    exact h
  · rename_i v4 v5 v6
    split
    · rename_i v7 v8
      refine KeptR.next ?_
      exact h
    · rename_i v9 v10 v11
      refine ite_kept (P := fun x => KeptR m s0 x) ?_ ?_
      · refine KeptR.next ?_
        exact h
      · refine ite_kept (P := fun x => KeptR m s0 x) ?_ ?_
        · extract_lets +onlyGivenNames x12
          have h13 : Kept m s0 x12 := by
            unfold x12
            refine modCmd_kept (sub hm) ?_
            exact h
          clear_value x12
          refine KeptR.next ?_
          refine foldl_kept (P := fun x => Kept m s0 x) ?_ ?_
          · intro y14 y15 y16
            refine appendReq_kept (sub hm) ?_
            exact y16
          · exact h13
        · refine KeptR.next ?_
          refine emit_kept (sub hm) ?_
          refine raise_kept (sub hm) ?_
          refine cnt_kept (sub hm) ?_
          refine stopCmd_kept (sub hm) ?_
          exact h

theorem execClusterEncode_kept {α : Type} {m : State → α} (hm : ∀ u, m u = m { u with regs := [], out := [], msixPend := 0, ends := [], encoded := [], mem := {}, cl := {} })
    {s0 s : State} {a0} (h : Kept m s0 s) :
    KeptR m s0 (execClusterEncode a0 s) := by
  unfold execClusterEncode
  extract_lets +onlyGivenNames x1
  clear_value x1
  refine ite_kept (P := fun x => KeptR m s0 x) ?_ ?_
  · refine KeptR.next ?_
    exact h
  · refine ite_kept (P := fun x => KeptR m s0 x) ?_ ?_
    · refine KeptR.next ?_
      refine endCluster_kept (sub hm) ?_
      refine keyMissing_kept (sub hm) ?_
      exact h
    · refine ite_kept (P := fun x => KeptR m s0 x) ?_ ?_
      · refine KeptR.next ?_
        exact h
      · extract_lets +onlyGivenNames x2
        clear_value x2
        split
        · rename_i v3 v4
          split
          · rename_i v5 v6 v7 v8
            have h9 : Kept m s0 ((v6, v7)).2 := by
              rw [← v8]
              refine encodeCluster_kept (sub hm) ?_
              exact h
            refine KeptR.next ?_
            refine Kept.with hm ?_
            exact h9
        · rename_i v10 v11 v12
          refine ite_kept (P := fun x => KeptR m s0 x) ?_ ?_
          · refine KeptR.next ?_
            exact h
          · extract_lets +onlyGivenNames x13
            clear_value x13
            extract_lets +onlyGivenNames x14
            clear_value x14
            extract_lets +onlyGivenNames x15
            clear_value x15
            split
            · rename_i v16 v17 v18 v19
              have h20 : Kept m s0 ((v17, v18)).2 := by
                rw [← v19]
                refine encodeCluster_kept (sub hm) ?_
                exact h
              refine KeptR.next ?_
              refine modCmd_kept (sub hm) ?_
              refine Kept.with hm ?_
              exact h20

theorem execOpcInvalidate_kept {α : Type} {m : State → α} (hm : ∀ u, m u = m { u with regs := [], evq := [], out := [], msixPend := 0, disc := {}, ends := [], recs := [], encoded := [], mem := {}, cl := {} })
    {s0 s : State} {a0 a1 a2} (h : Kept m s0 s) :
    KeptR m s0 (execOpcInvalidate a0 a1 a2 s) := by
  unfold execOpcInvalidate
  extract_lets +onlyGivenNames x1
  clear_value x1
  extract_lets +onlyGivenNames x2
  clear_value x2
  refine ite_kept (P := fun x => KeptR m s0 x) ?_ ?_
  · refine KeptR.next ?_
    exact h
  · extract_lets +onlyGivenNames x3
    have h4 : Kept m s0 x3 := by
      unfold x3
      refine fset_kept (sub hm) ?_
      exact h
    clear_value x3
    refine KeptR.next ?_
    refine ite_kept (P := fun x => Kept m s0 x) ?_ ?_
    · refine requestSuspend_kept (sub hm) ?_
      exact h4
    · exact h4

theorem legacyRecord_kept {α : Type} {m : State → α} (hm : ∀ u, m u = m { u with regs := [], out := [], msixPend := 0, ends := [], mem := {}, cl := {} })
    {s0 s : State} {a0} (h : Kept m s0 s) :
    Kept m s0 (legacyRecord a0 s) := by
  unfold legacyRecord
  refine ite_kept (P := fun x => Kept m s0 x) ?_ ?_
  · exact h
  · refine foldl_kept (P := fun x => Kept m s0 x) ?_ ?_
    · intro y1 y2 y3
      split
      · rename_i v4 v5 v6
        refine ite_kept (P := fun x => Kept m s0 x) ?_ ?_
        · exact y3
        · refine endCluster_kept (sub hm) ?_
          exact y3
      · rename_i v7 v8
        exact y3
    · exact h

theorem execRecordingArm_kept {α : Type} {m : State → α} (hm : ∀ u, m u = m { u with regs := [], out := [], msixPend := 0, ends := [], links := [], recs := [], chans := [], commons := [], mem := {}, cl := {} })
    {s0 s : State} {a0 a1 a2 a3 a4} (h : Kept m s0 s) :
    KeptR m s0 (execRecordingArm a0 a1 a2 a3 a4 s) := by
  unfold execRecordingArm
  extract_lets +onlyGivenNames x1
  clear_value x1
  refine ite_kept (P := fun x => KeptR m s0 x) ?_ ?_
  · refine KeptR.next ?_
    refine ite_kept (P := fun x => Kept m s0 x) ?_ ?_
    · refine legacyRecord_kept (sub hm) ?_
      exact h
    · exact h
  · split
    · rename_i v2 v3
      refine KeptR.next ?_
      exact h
    · rename_i v4 v5 v6 v7
      extract_lets +onlyGivenNames x8
      clear_value x8
      extract_lets +onlyGivenNames x9
      clear_value x9
      refine ite_kept (P := fun x => KeptR m s0 x) ?_ ?_
      · refine KeptR.next ?_
        exact h
      · refine ite_kept (P := fun x => KeptR m s0 x) ?_ ?_
        · refine KeptR.next ?_
          refine fault_kept (sub hm) ?_
          exact h
        · refine ite_kept (P := fun x => KeptR m s0 x) ?_ ?_
          · refine KeptR.next ?_
            refine fault_kept (sub hm) ?_
            exact h
          · refine ite_kept (P := fun x => KeptR m s0 x) ?_ ?_
            · refine KeptR.next ?_
              refine arm_kept (sub hm) ?_
              exact h
            · refine KeptR.next ?_
              exact h

theorem execRecordingSuspend_kept {α : Type} {m : State → α} (hm : ∀ u, m u = m { u with regs := [], evq := [], out := [], msixPend := 0, disc := {}, ends := [], recs := [], encoded := [], mem := {}, cl := {} })
    {s0 s : State} {a0 a1} (h : Kept m s0 s) :
    KeptR m s0 (execRecordingSuspend a0 a1 s) := by
  unfold execRecordingSuspend
  refine KeptR.next ?_
  refine ite_kept (P := fun x => Kept m s0 x) ?_ ?_
  · exact h
  · refine requestSuspend_kept (sub hm) ?_
    exact h

theorem execRelink_kept {α : Type} {m : State → α} (hm : ∀ u, m u = m { u with regs := [], evq := [], out := [], msixPend := 0, links := [], recs := [], chans := [], commons := [] })
    {s0 s : State} {a0 a1 a2 a3 a4} (h : Kept m s0 s) :
    KeptR m s0 (execRelink a0 a1 a2 a3 a4 s) := by
  unfold execRelink
  extract_lets +onlyGivenNames x1
  clear_value x1
  extract_lets +onlyGivenNames x2
  clear_value x2
  extract_lets +onlyGivenNames x3
  clear_value x3
  extract_lets +onlyGivenNames x4
  clear_value x4
  extract_lets +onlyGivenNames x5
  clear_value x5
  split
  · rename_i v6 v7 v8 v9 v10 v11
    refine ite_kept (P := fun x => KeptR m s0 x) ?_ ?_
    · refine KeptR.next ?_
      refine emit_kept (sub hm) ?_
      refine cnt_kept (sub hm) ?_
      refine raise_kept (sub hm) ?_
      refine fset_kept (sub hm) ?_
      refine fset_kept (sub hm) ?_
      refine arm_kept (sub hm) ?_
      exact h
    · refine KeptR.next ?_
      exact h
  · rename_i v12 v13 v14 v15
    refine KeptR.next ?_
    exact h

theorem execAbandonedReRecording_kept {α : Type} {m : State → α} (hm : ∀ u, m u = m { u with regs := [], evq := [], out := [], msixPend := 0, disc := {}, ends := [], recs := [], encoded := [], mem := {}, cl := {} })
    {s0 s : State} {a0 a1} (h : Kept m s0 s) :
    KeptR m s0 (execAbandonedReRecording a0 a1 s) := by
  unfold execAbandonedReRecording
  extract_lets +onlyGivenNames x1
  clear_value x1
  split
  · rename_i v2 v3
    refine KeptR.next ?_
    exact h
  · rename_i v4 v5 v6
    extract_lets +onlyGivenNames x7
    have h8 : ∀ y9, Kept m s0 y9 → Kept m s0 (x7 y9) := by
      intro y9 k10
      unfold x7
      refine setRec_kept (sub hm) ?_
      exact k10
    clear_value x7
    extract_lets +onlyGivenNames x11
    clear_value x11
    split
    · rename_i v12 v13
      refine KeptR.next ?_
      refine abandonedFault_kept (sub hm) ?_
      refine h8 _ ?_
      exact h
    · rename_i v14 v15 v16
      refine ite_kept (P := fun x => KeptR m s0 x) ?_ ?_
      · refine KeptR.next ?_
        refine abandonedFault_kept (sub hm) ?_
        refine replImpossible_kept (sub hm) ?_
        refine h8 _ ?_
        exact h
      · refine ite_kept (P := fun x => KeptR m s0 x) ?_ ?_
        · refine KeptR.next ?_
          exact h
        · refine KeptR.next ?_
          split
          · rename_i v17 v18 v19 v20
            have h21 : Kept m s0 ((ReplEnd.done v18, v19)).2 := by
              rw [← v20]
              refine replace_kept (sub hm) ?_
              exact h
            refine endCluster_kept (sub hm) ?_
            refine highWater_kept (sub hm) ?_
            refine replMade_kept (sub hm) ?_
            refine h8 _ ?_
            refine Kept.with hm ?_
            exact h21
          · rename_i v22 v23 v24
            have h25 : Kept m s0 ((ReplEnd.retry, v23)).2 := by
              rw [← v24]
              refine replace_kept (sub hm) ?_
              exact h
            refine setRec_kept (sub hm) ?_
            exact h25
          · rename_i v26 v27 v28 v29
            have h30 : Kept m s0 ((ReplEnd.stuck v27, v28)).2 := by
              rw [← v29]
              refine replace_kept (sub hm) ?_
              exact h
            refine abandonedFault_kept (sub hm) ?_
            refine replImpossible_kept (sub hm) ?_
            refine h8 _ ?_
            exact h30
          · rename_i v31 v32 v33
            have h34 : Kept m s0 ((ReplEnd.failed, v32)).2 := by
              rw [← v33]
              refine replace_kept (sub hm) ?_
              exact h
            refine abandonedFault_kept (sub hm) ?_
            refine h8 _ ?_
            exact h34

theorem execDczBlockReRecording_kept {α : Type} {m : State → α} (hm : ∀ u, m u = m { u with regs := [], evq := [], out := [], disc := {}, recs := [] })
    {s0 s : State} {a0} (h : Kept m s0 s) :
    KeptR m s0 (execDczBlockReRecording a0 s) := by
  unfold execDczBlockReRecording
  extract_lets +onlyGivenNames x1
  clear_value x1
  split
  · rename_i v2 v3
    refine KeptR.next ?_
    exact h
  · rename_i v4 v5 v6
    extract_lets +onlyGivenNames x7
    clear_value x7
    extract_lets +onlyGivenNames x8
    have h9 : Kept m s0 x8 := by
      unfold x8
      refine setRec_kept (sub hm) ?_
      exact h
    clear_value x8
    split
    · rename_i v10 v11
      refine KeptR.next ?_
      exact h9
    · rename_i v12 v13 v14
      extract_lets +onlyGivenNames x15
      clear_value x15
      split
      · rename_i v16 v17 v18
        extract_lets +onlyGivenNames x19
        clear_value x19
        extract_lets +onlyGivenNames x20
        clear_value x20
        extract_lets +onlyGivenNames x21
        clear_value x21
        refine KeptR.next ?_
        refine showFree_kept (sub hm) ?_
        refine cnt_kept (sub hm) ?_
        refine setWseq_kept (sub hm) ?_
        refine send_kept (sub hm) ?_
        refine setDisc_kept (sub hm) ?_
        exact h9
      · rename_i v22 v23
        extract_lets +onlyGivenNames x24
        clear_value x24
        extract_lets +onlyGivenNames x25
        have h26 : Kept m s0 x25 := by
          unfold x25
          refine setDisc_kept (sub hm) ?_
          exact h9
        clear_value x25
        extract_lets +onlyGivenNames x27
        clear_value x27
        refine KeptR.next ?_
        split
        · rename_i v28 v29
          refine ite_kept (P := fun x => Kept m s0 x) ?_ ?_
          · refine emit_kept (sub hm) ?_
            refine setDisc_kept (sub hm) ?_
            exact h26
          · exact h26
        · rename_i v30
          exact h26

theorem execFrontierCheckpoint_kept {α : Type} {m : State → α} (hm : ∀ u, m u = m { u with regs := [], evq := [], out := [], msixPend := 0, disc := {}, ends := [], mem := {}, cl := {} })
    {s0 s : State} {a0} (h : Kept m s0 s) :
    KeptR m s0 (execFrontierCheckpoint a0 s) := by
  unfold execFrontierCheckpoint
  extract_lets +onlyGivenNames x1
  clear_value x1
  refine ite_kept (P := fun x => KeptR m s0 x) ?_ ?_
  · refine KeptR.next ?_
    exact h
  · split
    · rename_i v2 v3 v4
      have h5 : Kept m s0 v3 := by
        refine (?_ : KeptO m s0 _) _ v4
        refine checkpoint_kept (sub hm) ?_
        exact h
      refine KeptR.next ?_
      exact h5
    · rename_i v6 v7
      refine KeptR.next ?_
      refine endCluster_kept (sub hm) ?_
      exact h

theorem recordIdentity_kept {α : Type} {m : State → α} (hm : ∀ u, m u = m { u with regs := [], out := [], disc := {} })
    {s0 s : State} {a0} (h : Kept m s0 s) :
    Kept m s0 (recordIdentity a0 s) := by
  unfold recordIdentity
  refine ite_kept (P := fun x => Kept m s0 x) h ?_
  extract_lets +onlyGivenNames p
  clear_value p
  have hb := recordBlock_kept (sub hm) (a0 := a0) (a1 := 0) (a2 := 1) (a3 := 0) (a4 := 1) (a5 := p) (a6 := false) h
  cases hr : recordBlock a0 0 1 0 1 p false s with
  | none => exact h
  | some t => exact setDisc_kept (sub hm) (hb t hr)

theorem recordDescr_kept {α : Type} {m : State → α} (hm : ∀ u, m u = m { u with regs := [], out := [], disc := {} })
    {s0 s : State} {a0} (h : Kept m s0 s) :
    Kept m s0 (recordDescr a0 s) := by
  unfold recordDescr
  split
  · exact h
  · rename_i d _
    refine foldl_kept (P := fun x => Kept m s0 x) (fun t l ht => ?_) h
    refine ite_kept (P := fun x => Kept m s0 x) ht ?_
    have hb := recordBlock_kept (sub hm) (a0 := a0) (a1 := l) (a2 := 2) (a3 := l) (a4 := 1) (a5 := descrPayload d) (a6 := false) ht
    cases hr : recordBlock a0 l 2 l 1 (descrPayload d) false t with
    | none => exact ht
    | some u => exact setDisc_kept (sub hm) (hb u hr)

theorem firstRecords_kept {α : Type} {m : State → α} (hm : ∀ u, m u = m { u with free := 0, regs := [], evq := [], out := [], msixPend := 0, disc := {} })
    {s0 s : State} (h : Kept m s0 s) :
    Kept m s0 (firstRecords s) := by
  unfold firstRecords
  extract_lets +onlyGivenNames x1
  clear_value x1
  extract_lets +onlyGivenNames x2
  extract_lets +onlyGivenNames x3
  clear_value x3
  extract_lets +onlyGivenNames x4
  have h5 : Kept m s0 x4 := by
    unfold x4
    refine ite_kept (P := fun x => Kept m s0 x) ?_ ?_
    · refine withFree_kept (sub hm) ?_ ?_
      · intro y6 y7 y8
        refine fset64_kept (sub hm) ?_
        refine setDisc_kept (sub hm) ?_
        exact y8
      · exact h
    · exact h
  clear_value x4
  extract_lets +onlyGivenNames x9
  have h10 : Kept m s0 x9 := by
    unfold x9
    refine foldl_kept (P := fun x => Kept m s0 x) ?_ ?_
    · intro y11 y12 y13
      refine recordIdentity_kept (sub hm) ?_
      exact y13
    · exact h5
  clear_value x9
  extract_lets +onlyGivenNames x14
  have h15 : Kept m s0 x14 := by
    unfold x14
    refine foldl_kept (P := fun x => Kept m s0 x) ?_ ?_
    · intro y16 y17 y18
      refine recordDescr_kept (sub hm) ?_
      exact y18
    · exact h10
  clear_value x14
  extract_lets +onlyGivenNames x19
  have h20 : Kept m s0 x19 := by
    unfold x19
    refine ite_kept (P := fun x => Kept m s0 x) ?_ ?_
    · refine KeptO.getD ?_ ?_
      · refine checkpoint_kept (sub hm) ?_
        exact h15
      · exact h15
    · exact h15
  clear_value x19
  refine fset_kept (sub hm) ?_
  exact h20

theorem execFirstRecording_kept {α : Type} {m : State → α} (hm : ∀ u, m u = m { u with free := 0, regs := [], evq := [], out := [], msixPend := 0, disc := {}, dec := {}, encoded := [], mem := {}, lanesC := [], cl := {}, vault := {} })
    {s0 s : State} (h : Kept m s0 s) :
    KeptR m s0 (execFirstRecording s) := by
  unfold execFirstRecording
  refine KeptR.next ?_
  refine ite_kept (P := fun x => Kept m s0 x) ?_ ?_
  · exact h
  · refine ite_kept (P := fun x => Kept m s0 x) ?_ ?_
    · refine firstRecords_kept (sub hm) ?_
      exact h
    · refine ite_kept (P := fun x => Kept m s0 x) ?_ ?_
      · exact h
      · split
        · rename_i v1 v2 v3
          have h4 : Kept m s0 v2 := by
            refine (?_ : KeptO m s0 _) _ v3
            refine decideDescr_kept (sub hm) ?_
            exact h
          refine firstRecords_kept (sub hm) ?_
          exact h4
        · rename_i v5 v6
          refine denyWrites_kept (sub hm) ?_
          exact h

theorem sideEnds_kept {α : Type} {m : State → α} (hm : ∀ u, m u = m { u with regs := [], out := [], msixPend := 0, disc := {}, cl := {} })
    {s0 s : State} {a0 a1 a2} (h : Kept m s0 s) :
    Kept m s0 (sideEnds a0 a1 a2 s) := by
  unfold sideEnds
  extract_lets +onlyGivenNames x1
  clear_value x1
  refine modCmd_kept (sub hm) ?_
  refine showCopies_kept (sub hm) ?_
  refine setDisc_kept (sub hm) ?_
  exact h

theorem tryCopy_kept {α : Type} {m : State → α} (hm : ∀ u, m u = m { u with regs := [], out := [], disc := {} })
    {s0 s : State} {a0 a1 a2 a3} (h : Kept m s0 s) :
    KeptO m s0 (tryCopy a0 a1 a2 a3 s) := by
  unfold tryCopy
  refine KeptO.map ?_ ?_
  · refine recordBlock_kept (sub hm) ?_
    exact h
  · intro y1 y2
    refine ite_kept (P := fun x => Kept m s0 x) ?_ ?_
    · refine setDisc_kept (sub hm) ?_
      exact y2
    · exact y2

theorem sealLayersRun_kept {α : Type} {m : State → α} (hm : ∀ u, m u = m { u with regs := [], out := [], disc := {} })
    {s0 s : State} {a0 a1 a2 a3} (h : Kept m s0 s) :
    Kept m s0 (sealLayersRun a0 a1 a2 a3 s) := by
  induction a2 generalizing a3 s with
  | nil => exact h
  | cons l ls ih =>
    unfold sealLayersRun
    refine ite_kept (P := fun x => Kept m s0 x) (ih h) ?_
    split
    · exact ih h
    · rename_i t e
      have ht : Kept m s0 t := tryCopy_kept (sub hm) h t e
      refine ite_kept (P := fun x => Kept m s0 x) (ih ht) ?_
      exact ih (KeptO.getD (tryCopy_kept (sub hm) ht) ht)

theorem sealFinish_kept {α : Type} {m : State → α} (hm : ∀ u, m u = m { u with regs := [], evq := [], out := [], msixPend := 0, disc := {}, cl := {} })
    {s0 s : State} {a0 a1 a2 a3} (h : Kept m s0 s) :
    Kept m s0 (sealFinish a0 a1 a2 a3 s) := by
  unfold sealFinish
  extract_lets +onlyGivenNames x1
  clear_value x1
  extract_lets +onlyGivenNames x2
  have h3 : Kept m s0 x2 := by
    unfold x2
    refine sealLayersRun_kept (sub hm) ?_
    exact h
  clear_value x2
  refine ite_kept (P := fun x => Kept m s0 x) ?_ ?_
  · refine sideEnds_kept (sub hm) ?_
    refine setSeal_kept (sub hm) ?_
    exact h3
  · split
    · rename_i v4 v5
      refine sideEnds_kept (sub hm) ?_
      refine setSeal_kept (sub hm) ?_
      exact h3
    · rename_i v7 v8 v9
      have h10 : Kept m s0 v8 := by
        refine (?_ : KeptO m s0 _) _ v9
        refine ite_kept (P := fun x => KeptO m s0 x) ?_ ?_
        · refine KeptO.some ?_
          exact h3
        · refine recordIntent_kept (sub hm) ?_
          exact h3
      refine sideEnds_kept (sub hm) ?_
      refine emit_kept (sub hm) ?_
      refine raise_kept (sub hm) ?_
      refine setSeal_kept (sub hm) ?_
      exact h10

theorem sealFlush_kept {α : Type} {m : State → α} (hm : ∀ u, m u = m { u with regs := [], evq := [], out := [], disc := {} })
    {s0 s : State} {a0} (h : Kept m s0 s) :
    Kept m s0 (sealFlush a0 s) := by
  unfold sealFlush
  extract_lets +onlyGivenNames x1
  clear_value x1
  extract_lets +onlyGivenNames x2
  have h3 : Kept m s0 x2 := by
    unfold x2
    refine foldl_kept (P := fun x => Kept m s0 x) ?_ ?_
    · intro y4 y5 y6
      refine KeptO.getD ?_ ?_
      · refine recordDefects_kept (sub hm) ?_
        exact y6
      · exact y6
    · exact h
  clear_value x2
  refine KeptO.getD ?_ ?_
  · refine recordIntent_kept (sub hm) ?_
    exact h3
  · exact h3

theorem execSealRun_kept {α : Type} {m : State → α} (hm : ∀ u, m u = m { u with regs := [], evq := [], out := [], msixPend := 0, disc := {}, cl := {} })
    {s0 s : State} {a0 a1 a2} (h : Kept m s0 s) :
    KeptR m s0 (execSealRun a0 a1 a2 s) := by
  unfold execSealRun
  extract_lets +onlyGivenNames x1
  clear_value x1
  split
  · rename_i v2 v3
    refine KeptR.next ?_
    exact h
  · rename_i v4 v5 v6 v7
    refine ite_kept (P := fun x => KeptR m s0 x) ?_ ?_
    · refine KeptR.next ?_
      refine sideEnds_kept (sub hm) ?_
      refine modCmd_kept (sub hm) ?_
      refine ite_app_kept (P := fun x => Kept m s0 x) ?_ ?_
      · refine setSeal_kept (sub hm) ?_
        exact h
      · refine id_kept (P := fun x => Kept m s0 x) ?_
        exact h
    · refine ite_kept (P := fun x => KeptR m s0 x) ?_ ?_
      · refine KeptR.next ?_
        refine sealFinish_kept (sub hm) ?_
        refine setSeal_kept (sub hm) ?_
        exact h
      · refine ite_kept (P := fun x => KeptR m s0 x) ?_ ?_
        · refine KeptR.next ?_
          exact h
        · split
          · rename_i v8 v9
            refine KeptR.next ?_
            refine sideEnds_kept (sub hm) ?_
            refine fault_kept (sub hm) ?_
            exact h
          · rename_i v11 v12 v13
            have h14 : Kept m s0 v12 := by
              refine (?_ : KeptO m s0 _) _ v13
              refine recordIntent_kept (sub hm) ?_
              exact h
            extract_lets +onlyGivenNames x15
            have h16 : Kept m s0 x15 := by
              unfold x15
              refine modCmd_kept (sub hm) ?_
              refine emit_kept (sub hm) ?_
              refine setSeal_kept (sub hm) ?_
              exact h14
            clear_value x15
            refine KeptR.next ?_
            refine sealFinish_kept (sub hm) ?_
            refine ite_kept (P := fun x => Kept m s0 x) ?_ ?_
            · refine sealFlush_kept (sub hm) ?_
              exact h16
            · exact h16

end Sys2Proof.Machine
end

