-- ==== Sys2Proof/Laws/KeptG.lean ====
section
/-!
SUPPORT. What the operations change and what they keep, part G.
-/
set_option Elab.async false

namespace Sys2Proof.Machine

theorem verifyFailed_kept {α : Type} {m : State → α} (hm : ∀ u, m u = m { u with regs := [], evq := [], out := [], msixPend := 0, disc := {}, ends := [], mem := {}, cl := {} })
    {s0 s : State} {a0 a1} (h : Kept m s0 s) :
    Kept m s0 (verifyFailed a0 a1 s) := by
  unfold verifyFailed
  extract_lets +onlyGivenNames x1
  have h2 : Kept m s0 x1 := by
    unfold x1
    refine cnt_kept (sub hm) ?_
    refine raise_kept (sub hm) ?_
    exact h
  clear_value x1
  extract_lets +onlyGivenNames x3
  have h4 : ∀ y5 y6, Kept m s0 y6 → Kept m s0 (x3 y5 y6) := by
    intro y5 y6 k7
    unfold x3
    refine emit_kept (sub hm) ?_
    exact k7
  clear_value x3
  refine ite_kept (P := fun x => Kept m s0 x) ?_ ?_
  · split
    · rename_i v8 v9 v10
      have h11 : Kept m s0 ((v9, true)).1 := by
        rw [← v10]
        refine queueReloc_kept (sub hm) ?_
        exact h2
      refine h4 _ _ ?_
      refine endCluster_kept (sub hm) ?_
      exact h11
    · rename_i v12 v13 v14
      have h15 : Kept m s0 ((v13, false)).1 := by
        rw [← v14]
        refine queueReloc_kept (sub hm) ?_
        exact h2
      refine h4 _ _ ?_
      refine endCluster_kept (sub hm) ?_
      exact h15
  · refine h4 _ _ ?_
    refine endCluster_kept (sub hm) ?_
    exact h2

theorem execVerifyPass_kept {α : Type} {m : State → α} (hm : ∀ u, m u = m { u with regs := [], evq := [], out := [], msixPend := 0, disc := {}, ends := [], mem := {}, cl := {} })
    {s0 s : State} {a0} (h : Kept m s0 s) :
    KeptR m s0 (execVerifyPass a0 s) := by
  unfold execVerifyPass
  extract_lets +onlyGivenNames x1
  clear_value x1
  extract_lets +onlyGivenNames x2
  clear_value x2
  refine KeptR.next ?_
  refine ite_kept (P := fun x => Kept m s0 x) ?_ ?_
  · refine endCluster_kept (sub hm) ?_
    exact h
  · refine verifyFailed_kept (sub hm) ?_
    exact h

theorem execBoost_kept {α : Type} {m : State → α} (hm : ∀ u, m u = m { u with regs := [] })
    {s0 s : State} {a0 a1} (h : Kept m s0 s) :
    KeptR m s0 (execBoost a0 a1 s) := by
  unfold execBoost
  refine KeptR.next ?_
  refine fsetB_kept (sub hm) ?_
  exact h

theorem execCacheRequest_kept {α : Type} {m : State → α} (hm : ∀ u, m u = m { u with regs := [], evq := [], out := [], msixPend := 0, mem := {} })
    {s0 s : State} {a0 a1 a2 a3 a4} (h : Kept m s0 s) :
    KeptR m s0 (execCacheRequest a0 a1 a2 a3 a4 s) := by
  unfold execCacheRequest
  extract_lets +onlyGivenNames x1
  clear_value x1
  extract_lets +onlyGivenNames x2
  clear_value x2
  refine ite_kept (P := fun x => KeptR m s0 x) ?_ ?_
  · refine KeptR.next ?_
    refine send_kept (sub hm) ?_
    exact h
  · split
    · rename_i v3 v4 v5 v6 v7 v8
      refine ite_kept (P := fun x => KeptR m s0 x) ?_ ?_
      · refine KeptR.next ?_
        refine present_kept (sub hm) ?_
        exact h
      · refine KeptR.next ?_
        refine present_kept (sub hm) ?_
        refine parity_kept (sub hm) ?_
        exact h
    · rename_i v9 v10 v11 v12
      refine KeptR.next ?_
      refine present_kept (sub hm) ?_
      exact h

theorem execEvictionComplete_kept {α : Type} {m : State → α} (hm : ∀ u, m u = m { u with regs := [], evq := [], out := [], msixPend := 0, mem := {} })
    {s0 s : State} {a0 a1} (h : Kept m s0 s) :
    KeptR m s0 (execEvictionComplete a0 a1 s) := by
  unfold execEvictionComplete
  split
  · rename_i v1 v2 v3
    refine KeptR.next ?_
    refine ite_kept (P := fun x => Kept m s0 x) ?_ ?_
    · refine evictionDone_kept (sub hm) ?_
      exact h
    · exact h
  · rename_i v4 v5
    refine KeptR.next ?_
    exact h

theorem execFillComplete_kept {α : Type} {m : State → α} (hm : ∀ u, m u = m { u with regs := [], evq := [], out := [], msixPend := 0, mem := {} })
    {s0 s : State} {a0 a1 a2} (h : Kept m s0 s) :
    KeptR m s0 (execFillComplete a0 a1 a2 s) := by
  unfold execFillComplete
  split
  · rename_i v1 v2 v3
    refine KeptR.next ?_
    refine ite_kept (P := fun x => Kept m s0 x) ?_ ?_
    · refine fillDone_kept (sub hm) ?_
      exact h
    · exact h
  · rename_i v4 v5
    refine KeptR.next ?_
    exact h

theorem execClean_kept {α : Type} {m : State → α} (hm : ∀ u, m u = m { u with regs := [], evq := [], out := [], msixPend := 0, mem := {} })
    {s0 s : State} {a0} (h : Kept m s0 s) :
    KeptR m s0 (execClean a0 s) := by
  unfold execClean
  refine KeptR.next ?_
  refine maintRun_kept (sub hm) ?_
  exact h

theorem execInvalidate_kept {α : Type} {m : State → α} (hm : ∀ u, m u = m { u with regs := [], evq := [], out := [], msixPend := 0, mem := {} })
    {s0 s : State} {a0} (h : Kept m s0 s) :
    KeptR m s0 (execInvalidate a0 s) := by
  unfold execInvalidate
  refine KeptR.next ?_
  refine maintRun_kept (sub hm) ?_
  exact h

theorem execFlush_kept {α : Type} {m : State → α} (hm : ∀ u, m u = m { u with regs := [], evq := [], out := [], msixPend := 0, mem := {} })
    {s0 s : State} {a0} (h : Kept m s0 s) :
    KeptR m s0 (execFlush a0 s) := by
  unfold execFlush
  refine KeptR.next ?_
  refine maintRun_kept (sub hm) ?_
  exact h

theorem execMaintDone_kept {α : Type} {m : State → α} (hm : ∀ u, m u = m { u with regs := [], evq := [], out := [], msixPend := 0 })
    {s0 s : State} (h : Kept m s0 s) :
    KeptR m s0 (execMaintDone s) := by
  unfold execMaintDone
  extract_lets +onlyGivenNames x1
  clear_value x1
  extract_lets +onlyGivenNames x2
  clear_value x2
  refine KeptR.next ?_
  refine ite_kept (P := fun x => Kept m s0 x) ?_ ?_
  · refine ite_app_kept (P := fun x => Kept m s0 x) ?_ ?_
    · refine id_kept (P := fun x => Kept m s0 x) ?_
      refine raise_kept (sub hm) ?_
      refine fset_kept (sub hm) ?_
      refine maintBusy_kept (sub hm) ?_
      exact h
    · refine emit_kept (sub hm) ?_
      refine raise_kept (sub hm) ?_
      refine raise_kept (sub hm) ?_
      refine fset_kept (sub hm) ?_
      refine maintBusy_kept (sub hm) ?_
      exact h
  · exact h

theorem execStagingReserve_kept {α : Type} {m : State → α} (hm : ∀ u, m u = m { u with regs := [], mem := {} })
    {s0 s : State} {a0 a1} (h : Kept m s0 s) :
    KeptR m s0 (execStagingReserve a0 a1 s) := by
  unfold execStagingReserve
  extract_lets +onlyGivenNames x1
  clear_value x1
  extract_lets +onlyGivenNames x2
  clear_value x2
  refine ite_kept (P := fun x => KeptR m s0 x) ?_ ?_
  · refine KeptR.next ?_
    refine reserveBuf_kept (sub hm) ?_
    exact h
  · refine KeptR.next ?_
    refine setMem_kept (sub hm) ?_
    exact h

theorem sbFlip_kept {α : Type} {m : State → α} (hm : ∀ u, m u = m { u with mem := {} })
    {s0 s : State} {a0 a1} (h : Kept m s0 s) :
    Kept m s0 (sbFlip a0 a1 s) := by
  unfold sbFlip
  split
  · rename_i v1 v2 v3 v4
    refine sbPut_kept (sub hm) ?_
    exact h

theorem sbCorr_kept {α : Type} {m : State → α} (hm : ∀ u, m u = m { u with regs := [], evq := [], out := [], msixPend := 0, mem := {} })
    {s0 s : State} {a0 a1} (h : Kept m s0 s) :
    Kept m s0 (sbCorr a0 a1 s) := by
  unfold sbCorr
  extract_lets +onlyGivenNames x1
  clear_value x1
  extract_lets +onlyGivenNames x2
  clear_value x2
  extract_lets +onlyGivenNames x3
  clear_value x3
  extract_lets +onlyGivenNames x4
  have h5 : Kept m s0 x4 := by
    unfold x4
    refine setMem_kept (sub hm) ?_
    refine raise_kept (sub hm) ?_
    refine cnt_kept (sub hm) ?_
    exact h
  clear_value x4
  refine ite_kept (P := fun x => Kept m s0 x) ?_ ?_
  · refine emit_kept (sub hm) ?_
    exact h5
  · exact h5

theorem sbRead_kept {α : Type} {m : State → α} (hm : ∀ u, m u = m { u with regs := [], evq := [], out := [], msixPend := 0, mem := {} })
    {s0 s : State} {a0 a1} (h : Kept m s0 s) :
    Kept m s0 (sbRead a0 a1 s) := by
  unfold sbRead
  split
  · rename_i v1 v2 v3 v4
    split
    · rename_i v5 v6
      exact h
    · rename_i v7 v8 v9 v10
      refine sbCorr_kept (sub hm) ?_
      refine sbPut_kept (sub hm) ?_
      exact h
    · rename_i v11 v12
      refine emit_kept (sub hm) ?_
      refine fault_kept (sub hm) ?_
      refine raise_kept (sub hm) ?_
      refine fset_kept (sub hm) ?_
      refine cnt_kept (sub hm) ?_
      exact h

theorem freeBuf_kept {α : Type} {m : State → α} (hm : ∀ u, m u = m { u with regs := [], mem := {} })
    {s0 s : State} {a0} (h : Kept m s0 s) :
    Kept m s0 (freeBuf a0 s) := by
  unfold freeBuf
  extract_lets +onlyGivenNames x1
  clear_value x1
  extract_lets +onlyGivenNames x2
  have h3 : Kept m s0 x2 := by
    unfold x2
    refine showBufs_kept (sub hm) ?_
    refine setMem_kept (sub hm) ?_
    exact h
  clear_value x2
  refine grantBufs_kept (sub hm) ?_
  exact h3

theorem stagedWriteLost_kept {α : Type} {m : State → α} (hm : ∀ u, m u = m { u with regs := [], out := [], msixPend := 0, ends := [], encoded := [], mem := {}, cl := {} })
    {s0 s : State} {a0} (h : Kept m s0 s) :
    Kept m s0 (stagedWriteLost a0 s) := by
  unfold stagedWriteLost
  refine endCluster_kept (sub hm) ?_
  refine Kept.with hm ?_
  exact h

theorem stagedReadLost_kept {α : Type} {m : State → α} (hm : ∀ u, m u = m { u with regs := [], evq := [], out := [], msixPend := 0, ends := [], dec := {}, mem := {}, cl := {} })
    {s0 s : State} {a0} (h : Kept m s0 s) :
    Kept m s0 (stagedReadLost a0 s) := by
  unfold stagedReadLost
  extract_lets +onlyGivenNames x1
  clear_value x1
  extract_lets +onlyGivenNames x2
  clear_value x2
  extract_lets +onlyGivenNames x3
  have h4 : Kept m s0 x3 := by
    unfold x3
    refine emit_kept (sub hm) ?_
    refine raise_kept (sub hm) ?_
    refine cnt_kept (sub hm) ?_
    refine Kept.with hm ?_
    exact h
  clear_value x3
  refine ite_kept (P := fun x => Kept m s0 x) ?_ ?_
  · refine squallEnter_kept (sub hm) ?_
    exact h4
  · refine unrecovered_kept (sub hm) ?_
    exact h4

theorem execStagingRelease_kept {α : Type} {m : State → α} (hm : ∀ u, m u = m { u with regs := [], evq := [], out := [], msixPend := 0, ends := [], dec := {}, encoded := [], mem := {}, cl := {} })
    {s0 s : State} {a0 a1} (h : Kept m s0 s) :
    KeptR m s0 (execStagingRelease a0 a1 s) := by
  unfold execStagingRelease
  extract_lets +onlyGivenNames x1
  clear_value x1
  split
  · rename_i v2 v3
    refine KeptR.next ?_
    exact h
  · rename_i v4 v5 v6 v7
    extract_lets +onlyGivenNames x8
    have h9 : Kept m s0 x8 := by
      unfold x8
      refine foldl_kept (P := fun x => Kept m s0 x) ?_ ?_
      · intro y10 y11 y12
        refine sbFlip_kept (sub hm) ?_
        exact y12
      · exact h
    clear_value x8
    extract_lets +onlyGivenNames x13
    clear_value x13
    extract_lets +onlyGivenNames x14
    clear_value x14
    extract_lets +onlyGivenNames x15
    have h16 : Kept m s0 x15 := by
      unfold x15
      refine foldl_kept (P := fun x => Kept m s0 x) ?_ ?_
      · intro y17 y18 y19
        refine sbRead_kept (sub hm) ?_
        exact y19
      · exact h9
    clear_value x15
    extract_lets +onlyGivenNames x20
    have h21 : Kept m s0 x20 := by
      unfold x20
      refine freeBuf_kept (sub hm) ?_
      exact h16
    clear_value x20
    refine KeptR.next ?_
    refine ite_kept (P := fun x => Kept m s0 x) ?_ ?_
    · refine ite_kept (P := fun x => Kept m s0 x) ?_ ?_
      · refine stagedWriteLost_kept (sub hm) ?_
        exact h21
      · refine stagedReadLost_kept (sub hm) ?_
        exact h21
    · refine ite_kept (P := fun x => Kept m s0 x) ?_ ?_
      · exact h21
      · split
        · rename_i v22 v23 v24
          refine ite_kept (P := fun x => Kept m s0 x) ?_ ?_
          · refine deliver_kept (sub hm) ?_
            exact h21
          · exact h21
        · rename_i v25 v26
          exact h21

theorem execScrub_kept {α : Type} {m : State → α} (hm : ∀ u, m u = m { u with regs := [], evq := [], out := [], msixPend := 0, mem := {} })
    {s0 s : State} {a0} (h : Kept m s0 s) :
    KeptR m s0 (execScrub a0 s) := by
  unfold execScrub
  extract_lets +onlyGivenNames x1
  clear_value x1
  refine ite_kept (P := fun x => KeptR m s0 x) ?_ ?_
  · refine KeptR.next ?_
    exact h
  · extract_lets +onlyGivenNames x2
    clear_value x2
    extract_lets +onlyGivenNames x3
    have h4 : Kept m s0 x3 := by
      unfold x3
      refine foldl_kept (P := fun x => Kept m s0 x) ?_ ?_
      · intro y5 y6 y7
        refine sbFlip_kept (sub hm) ?_
        exact y7
      · exact h
    clear_value x3
    extract_lets +onlyGivenNames x8
    have h9 : Kept m s0 x8 := by
      unfold x8
      refine foldl_kept (P := fun x => Kept m s0 x) ?_ ?_
      · intro y10 y11 y12
        refine sbRead_kept (sub hm) ?_
        exact y12
      · exact h4
    clear_value x8
    extract_lets +onlyGivenNames x13
    clear_value x13
    refine KeptR.next ?_
    refine ite_app_kept (P := fun x => Kept m s0 x) ?_ ?_
    · refine cnt_kept (sub hm) ?_
      refine fset_kept (sub hm) ?_
      exact h9
    · refine id_kept (P := fun x => Kept m s0 x) ?_
      refine fset_kept (sub hm) ?_
      exact h9

theorem execCompressJob_kept {α : Type} {m : State → α} (hm : ∀ u, m u = m { u with regs := [], lanesC := [] })
    {s0 s : State} {a0} (h : Kept m s0 s) :
    KeptR m s0 (execCompressJob a0 s) := by
  unfold execCompressJob
  refine KeptR.next ?_
  refine startJob_kept (sub hm) ?_
  exact h

theorem execInflateJob_kept {α : Type} {m : State → α} (hm : ∀ u, m u = m { u with regs := [], lanesC := [] })
    {s0 s : State} {a0} (h : Kept m s0 s) :
    KeptR m s0 (execInflateJob a0 s) := by
  unfold execInflateJob
  refine KeptR.next ?_
  refine startJob_kept (sub hm) ?_
  exact h

theorem inflateRecord_kept {α : Type} {m : State → α} (hm : ∀ u, m u = m { u with regs := [], evq := [], out := [], msixPend := 0, mem := {}, lanesC := [] })
    {s0 s : State} {a0} (h : Kept m s0 s) :
    Kept m s0 (inflateRecord a0 s) := by
  unfold inflateRecord
  extract_lets +onlyGivenNames x1
  clear_value x1
  extract_lets +onlyGivenNames x2
  clear_value x2
  refine ite_kept (P := fun x => Kept m s0 x) ?_ ?_
  · exact h
  · split
    · rename_i v3 v4
      refine jobError_kept (sub hm) ?_
      exact h
    · rename_i v5 v6 v7
      split
      · rename_i v8 v9 v10
        refine jobError_kept (sub hm) ?_
        exact h
      · rename_i v11 v12 v13 v14
        extract_lets +onlyGivenNames x15
        clear_value x15
        refine recordOut_kept (sub hm) ?_ ?_
        · intro y16 y17
          refine fset_kept (sub hm) ?_
          refine fset_kept (sub hm) ?_
          refine setCjob_kept (sub hm) ?_
          refine takeInput_kept (sub hm) ?_
          exact y17
        · exact h

theorem execRecordComplete_kept {α : Type} {m : State → α} (hm : ∀ u, m u = m { u with regs := [], evq := [], out := [], msixPend := 0, mem := {}, lanesC := [] })
    {s0 s : State} {a0 a1 a2} (h : Kept m s0 s) :
    KeptR m s0 (execRecordComplete a0 a1 a2 s) := by
  unfold execRecordComplete
  refine KeptR.next ?_
  refine ite_kept (P := fun x => Kept m s0 x) ?_ ?_
  · exact h
  · refine ite_kept (P := fun x => Kept m s0 x) ?_ ?_
    · refine inflateRecord_kept (sub hm) ?_
      exact h
    · refine compressRecord_kept (sub hm) ?_
      exact h

theorem flushDone_kept {α : Type} {m : State → α} (hm : ∀ u, m u = m { u with regs := [], out := [], msixPend := 0, lanesC := [] })
    {s0 s : State} {a0 a1} (h : Kept m s0 s) :
    Kept m s0 (flushDone a0 a1 s) := by
  unfold flushDone
  extract_lets +onlyGivenNames x1
  clear_value x1
  refine raise_kept (sub hm) ?_
  refine fset_kept (sub hm) ?_
  refine fset_kept (sub hm) ?_
  refine fset_kept (sub hm) ?_
  refine setCjob_kept (sub hm) ?_
  exact h

theorem execJobDone_kept {α : Type} {m : State → α} (hm : ∀ u, m u = m { u with regs := [], out := [], msixPend := 0, lanesC := [] })
    {s0 s : State} {a0 a1} (h : Kept m s0 s) :
    KeptR m s0 (execJobDone a0 a1 s) := by
  unfold execJobDone
  extract_lets +onlyGivenNames x1
  clear_value x1
  extract_lets +onlyGivenNames x2
  clear_value x2
  extract_lets +onlyGivenNames x3
  clear_value x3
  refine KeptR.next ?_
  refine ite_kept (P := fun x => Kept m s0 x) ?_ ?_
  · refine ite_app_kept (P := fun x => Kept m s0 x) ?_ ?_
    · refine flushDone_kept (sub hm) ?_
      refine ite_app_kept (P := fun x => Kept m s0 x) ?_ ?_
      · refine id_kept (P := fun x => Kept m s0 x) ?_
        refine fset_kept (sub hm) ?_
        refine cnt_kept (sub hm) ?_
        refine raise_kept (sub hm) ?_
        refine setLaneState_kept (sub hm) ?_
        exact h
      · refine fset_kept (sub hm) ?_
        refine fset_kept (sub hm) ?_
        refine cnt_kept (sub hm) ?_
        refine raise_kept (sub hm) ?_
        refine setLaneState_kept (sub hm) ?_
        exact h
    · refine id_kept (P := fun x => Kept m s0 x) ?_
      refine ite_app_kept (P := fun x => Kept m s0 x) ?_ ?_
      · refine id_kept (P := fun x => Kept m s0 x) ?_
        refine fset_kept (sub hm) ?_
        refine cnt_kept (sub hm) ?_
        refine raise_kept (sub hm) ?_
        refine setLaneState_kept (sub hm) ?_
        exact h
      · refine fset_kept (sub hm) ?_
        refine fset_kept (sub hm) ?_
        refine cnt_kept (sub hm) ?_
        refine raise_kept (sub hm) ?_
        refine setLaneState_kept (sub hm) ?_
        exact h
  · exact h

theorem execOutputExhausted_kept {α : Type} {m : State → α} (hm : ∀ u, m u = m { u with regs := [], evq := [], out := [], msixPend := 0, mem := {}, lanesC := [] })
    {s0 s : State} {a0 a1 a2} (h : Kept m s0 s) :
    KeptR m s0 (execOutputExhausted a0 a1 a2 s) := by
  unfold execOutputExhausted
  extract_lets +onlyGivenNames x1
  clear_value x1
  extract_lets +onlyGivenNames x2
  clear_value x2
  refine KeptR.next ?_
  refine ite_kept (P := fun x => Kept m s0 x) ?_ ?_
  · exact h
  · refine ite_kept (P := fun x => Kept m s0 x) ?_ ?_
    · refine inflateRecord_kept (sub hm) ?_
      exact h
    · refine recordOut_kept (sub hm) ?_ ?_
      · intro y3 y4
        refine id_kept (P := fun x => Kept m s0 x) ?_
        exact y4
      · exact h

theorem execJobAbort_kept {α : Type} {m : State → α} (hm : ∀ u, m u = m { u with regs := [], evq := [], out := [], msixPend := 0, lanesC := [] })
    {s0 s : State} {a0 a1} (h : Kept m s0 s) :
    KeptR m s0 (execJobAbort a0 a1 s) := by
  unfold execJobAbort
  refine KeptR.next ?_
  refine jobAbort_kept (sub hm) ?_
  refine ite_kept (P := fun x => Kept m s0 x) ?_ ?_
  · refine fset_kept (sub hm) ?_
    exact h
  · exact h

theorem execBlockFlush_kept {α : Type} {m : State → α} (hm : ∀ u, m u = m { u with regs := [], lanesC := [] })
    {s0 s : State} {a0} (h : Kept m s0 s) :
    KeptR m s0 (execBlockFlush a0 s) := by
  unfold execBlockFlush
  refine KeptR.next ?_
  refine askFlush_kept (sub hm) ?_
  exact h

theorem execRecordFlush_kept {α : Type} {m : State → α} (hm : ∀ u, m u = m { u with regs := [], lanesC := [] })
    {s0 s : State} {a0} (h : Kept m s0 s) :
    KeptR m s0 (execRecordFlush a0 s) := by
  unfold execRecordFlush
  refine KeptR.next ?_
  refine askFlush_kept (sub hm) ?_
  exact h

theorem execFlushComplete_kept {α : Type} {m : State → α} (hm : ∀ u, m u = m { u with regs := [], evq := [], out := [], msixPend := 0, mem := {}, lanesC := [] })
    {s0 s : State} {a0 a1 a2} (h : Kept m s0 s) :
    KeptR m s0 (execFlushComplete a0 a1 a2 s) := by
  unfold execFlushComplete
  extract_lets +onlyGivenNames x1
  clear_value x1
  extract_lets +onlyGivenNames x2
  clear_value x2
  refine KeptR.next ?_
  refine ite_kept (P := fun x => Kept m s0 x) ?_ ?_
  · exact h
  · refine recordOut_kept (sub hm) ?_ ?_
    · intro y3 y4
      refine flushDone_kept (sub hm) ?_
      refine setCjob_kept (sub hm) ?_
      exact y4
    · exact h

theorem execTrfClaim_kept {α : Type} {m : State → α} (hm : ∀ u, m u = m { u with out := [], claims := [] })
    {s0 s : State} {a0} (h : Kept m s0 s) :
    KeptR m s0 (execTrfClaim a0 s) := by
  unfold execTrfClaim
  refine KeptR.next ?_
  refine claimReads_kept (sub hm) ?_
  exact h

theorem execClaimRelease_kept {α : Type} {m : State → α} (hm : ∀ u, m u = m { u with claims := [] })
    {s0 s : State} {a0 a1} (h : Kept m s0 s) :
    KeptR m s0 (execClaimRelease a0 a1 s) := by
  unfold execClaimRelease
  extract_lets +onlyGivenNames x1
  clear_value x1
  extract_lets +onlyGivenNames x2
  clear_value x2
  refine KeptR.next ?_
  refine ite_kept (P := fun x => Kept m s0 x) ?_ ?_
  · refine releaseClaim_kept (sub hm) ?_
    exact h
  · exact h

theorem execClaimTimeout_kept {α : Type} {m : State → α} (hm : ∀ u, m u = m { u with regs := [], evq := [], out := [], msixPend := 0, claims := [] })
    {s0 s : State} {a0} (h : Kept m s0 s) :
    KeptR m s0 (execClaimTimeout a0 s) := by
  unfold execClaimTimeout
  split
  · rename_i v1
    extract_lets +onlyGivenNames x2
    clear_value x2
    split
    · rename_i v3 v4 v5
      refine KeptR.next ?_
      refine emit_kept (sub hm) ?_
      refine raise_kept (sub hm) ?_
      refine releaseClaim_kept (sub hm) ?_
      exact h
    · rename_i v6 v7
      refine KeptR.next ?_
      exact h
  · rename_i v8
    split
    · rename_i v9 v10 v11
      refine KeptR.next ?_
      refine raise_kept (sub hm) ?_
      refine releaseClaim_kept (sub hm) ?_
      exact h
    · rename_i v12 v13
      refine KeptR.next ?_
      exact h
  · rename_i v14 v15
    refine KeptR.next ?_
    exact h

theorem oosEnd_kept {α : Type} {m : State → α} (hm : ∀ u, m u = m { u with cl := {} })
    {s0 s : State} {a0 a1 a2} (h : Kept m s0 s) :
    Kept m s0 (oosEnd a0 a1 a2 s) := by
  unfold oosEnd
  refine modCmd_kept (sub hm) ?_
  exact h

theorem makeReq_kept {α : Type} {m : State → α} (hm : ∀ u, m u = m { u with regs := [], cl := {} })
    {s0 s : State} {a0 a1} (h : Kept m s0 s) :
    Kept m s0 (makeReq a0 a1 s) := by
  unfold makeReq
  split
  · rename_i v1 v2
    exact h
  · rename_i v3 v4 v5
    extract_lets +onlyGivenNames x6
    clear_value x6
    extract_lets +onlyGivenNames x7
    clear_value x7
    extract_lets +onlyGivenNames x8
    clear_value x8
    extract_lets +onlyGivenNames x9
    have h10 : Kept m s0 x9 := by
      unfold x9
      refine modCmd_kept (sub hm) ?_
      exact h
    clear_value x9
    refine ite_kept (P := fun x => Kept m s0 x) ?_ ?_
    · refine oosEnd_kept (sub hm) ?_
      exact h10
    · extract_lets +onlyGivenNames x11
      clear_value x11
      extract_lets +onlyGivenNames x12
      clear_value x12
      extract_lets +onlyGivenNames x13
      clear_value x13
      extract_lets +onlyGivenNames x14
      have h15 : Kept m s0 x14 := by
        unfold x14
        refine setCl_kept (sub hm) ?_
        exact h10
      clear_value x14
      refine ite_kept (P := fun x => Kept m s0 x) ?_ ?_
      · refine appendReq_kept (sub hm) ?_
        exact h15
      · refine showPool_kept (sub hm) ?_
        exact h15

theorem makeReqs_kept {α : Type} {m : State → α} (hm : ∀ u, m u = m { u with regs := [], out := [], msixPend := 0, cl := {} })
    {s0 s : State} {a0 a1} (h : Kept m s0 s) :
    Kept m s0 (makeReqs a0 a1 s) := by
  induction a1 generalizing s with
  | nil => exact h
  | cons k ks ih =>
    unfold makeReqs
    exact ite_kept (P := fun x => Kept m s0 x) (ih (makeReq_kept (sub hm) h)) (raise_kept (sub hm) h)

theorem execCommandExpansion_kept {α : Type} {m : State → α} (hm : ∀ u, m u = m { u with regs := [], out := [], msixPend := 0, cl := {} })
    {s0 s : State} (h : Kept m s0 s) :
    KeptR m s0 (execCommandExpansion s) := by
  unfold execCommandExpansion
  split
  · rename_i v1 v2
    refine KeptR.next ?_
    exact h
  · rename_i v3 v4 v5 v6
    refine ite_kept (P := fun x => KeptR m s0 x) ?_ ?_
    · refine KeptR.next ?_
      exact h
    · extract_lets +onlyGivenNames x7
      clear_value x7
      refine KeptR.next ?_
      refine makeReqs_kept (sub hm) ?_
      exact h

theorem execWriteDataArrived_kept {α : Type} {m : State → α} (hm : ∀ u, m u = m { u with regs := [], evq := [], out := [], msixPend := 0, disc := {}, dec := {}, encoded := [], mem := {}, lanesC := [], cl := {} })
    {s0 s : State} {a0 a1 a2 a3} (h : Kept m s0 s) :
    KeptR m s0 (execWriteDataArrived a0 a1 a2 a3 s) := by
  unfold execWriteDataArrived
  extract_lets +onlyGivenNames x1
  clear_value x1
  split
  · rename_i v2 v3
    refine KeptR.next ?_
    exact h
  · rename_i v4 v5 v6
    refine ite_kept (P := fun x => KeptR m s0 x) ?_ ?_
    · refine KeptR.next ?_
      exact h
    · refine ite_kept (P := fun x => KeptR m s0 x) ?_ ?_
      · refine KeptR.next ?_
        refine clusterArrived_kept (sub hm) ?_
        exact h
      · refine KeptR.next ?_
        refine compressedArrived_kept (sub hm) ?_
        exact h

theorem goRing_kept {α : Type} {m : State → α} (hm : ∀ u, m u = m { u with regs := [], spin := {} })
    {s0 s : State} {a0 a1 a2} (h : Kept m s0 s) :
    Kept m s0 (goRing a0 a1 a2 s) := by
  unfold goRing
  extract_lets +onlyGivenNames x1
  clear_value x1
  extract_lets +onlyGivenNames x2
  clear_value x2
  refine newTarget_kept (sub hm) ?_
  beta_reduce
  refine setSpin_kept (sub hm) ?_
  refine ite_app_kept (P := fun x => Kept m s0 x) ?_ ?_
  · refine cnt_kept (sub hm) ?_
    refine fset_kept (sub hm) ?_
    exact h
  · refine id_kept (P := fun x => Kept m s0 x) ?_
    refine fset_kept (sub hm) ?_
    exact h

theorem execBandChoice_kept {α : Type} {m : State → α} (hm : ∀ u, m u = m { u with regs := [], out := [], msixPend := 0, spin := {} })
    {s0 s : State} {a0} (h : Kept m s0 s) :
    KeptR m s0 (execBandChoice a0 s) := by
  unfold execBandChoice
  extract_lets +onlyGivenNames x1
  clear_value x1
  extract_lets +onlyGivenNames x2
  clear_value x2
  extract_lets +onlyGivenNames x3
  clear_value x3
  refine ite_kept (P := fun x => KeptR m s0 x) ?_ ?_
  · refine KeptR.next ?_
    exact h
  · extract_lets +onlyGivenNames x4
    have h5 : Kept m s0 x4 := by
      unfold x4
      refine fset_kept (sub hm) ?_
      exact h
    clear_value x4
    extract_lets +onlyGivenNames x6
    clear_value x6
    extract_lets +onlyGivenNames x7
    clear_value x7
    extract_lets +onlyGivenNames x8
    clear_value x8
    split
    · rename_i v9 v10
      refine KeptR.next ?_
      refine newTarget_kept (sub hm) ?_
      refine setSpin_kept (sub hm) ?_
      exact h5
    · rename_i v11 v12 v13
      split
      · rename_i v14 v15
        refine KeptR.next ?_
        refine newTarget_kept (sub hm) ?_
        refine setSpin_kept (sub hm) ?_
        exact h5
      · rename_i v16 v17 v18
        refine ite_kept (P := fun x => KeptR m s0 x) ?_ ?_
        · refine KeptR.next ?_
          refine goRing_kept (sub hm) ?_
          exact h5
        · refine ite_kept (P := fun x => KeptR m s0 x) ?_ ?_
          · refine KeptR.next ?_
            refine raise_kept (sub hm) ?_
            refine cnt_kept (sub hm) ?_
            refine goRing_kept (sub hm) ?_
            exact h5
          · split
            · rename_i v19 v20 v21
              refine KeptR.next ?_
              refine goRing_kept (sub hm) ?_
              exact h5
            · rename_i v22 v23
              refine KeptR.next ?_
              exact h5

theorem reserveAll_kept {α : Type} {m : State → α} (hm : ∀ u, m u = m { u with regs := [], mem := {} })
    {s0 s : State} {a0 a1} (h : Kept m s0 s) :
    KeptO m s0 (reserveAll a0 a1 s) := by
  induction a1 generalizing s with
  | nil => exact .some h
  | cons p ps ih =>
    unfold reserveAll
    exact ite_kept (P := fun x => KeptO m s0 x) (ih (reserveBuf_kept (sub hm) h)) .none

theorem holdRev_kept {α : Type} {m : State → α} (hm : ∀ u, m u = m { u with regs := [], out := [], msixPend := 0, cl := {} })
    {s0 s : State} {a0 a1} (h : Kept m s0 s) :
    Kept m s0 (holdRev a0 a1 s) := by
  unfold holdRev
  extract_lets +onlyGivenNames x1
  have h2 : Kept m s0 x1 := by
    unfold x1
    refine fset_kept (sub hm) ?_
    refine pmc_kept (sub hm) ?_
    refine cnt_kept (sub hm) ?_
    refine fset_kept (sub hm) ?_
    exact h
  clear_value x1
  extract_lets +onlyGivenNames x3
  clear_value x3
  refine foldl_kept (P := fun x => Kept m s0 x) ?_ ?_
  · intro y4 y5 y6
    refine modCmd_kept (sub hm) ?_
    exact y6
  · exact h2

theorem execReadRevolutionStart_kept {α : Type} {m : State → α} (hm : ∀ u, m u = m { u with regs := [], out := [], msixPend := 0, mem := {}, cl := {} })
    {s0 s : State} {a0 a1} (h : Kept m s0 s) :
    KeptR m s0 (execReadRevolutionStart a0 a1 s) := by
  unfold execReadRevolutionStart
  extract_lets +onlyGivenNames x1
  clear_value x1
  extract_lets +onlyGivenNames x2
  clear_value x2
  extract_lets +onlyGivenNames x3
  clear_value x3
  extract_lets +onlyGivenNames x4
  clear_value x4
  refine ite_kept (P := fun x => KeptR m s0 x) ?_ ?_
  · refine KeptR.next ?_
    exact h
  · split
    · rename_i v5 v6
      refine KeptR.next ?_
      refine holdRev_kept (sub hm) ?_
      exact h
    · rename_i v8 v9 v10
      have h11 : Kept m s0 v9 := by
        refine (?_ : KeptO m s0 _) _ v10
        refine reserveAll_kept (sub hm) ?_
        exact h
      refine KeptR.next ?_
      refine fset_kept (sub hm) ?_
      refine fset_kept (sub hm) ?_
      refine setCl_kept (sub hm) ?_
      exact h11

theorem execHeadOutOfService_kept {α : Type} {m : State → α} (hm : ∀ u, m u = m { u with regs := [], evq := [], heads := [], cl := {} })
    {s0 s : State} {a0} (h : Kept m s0 s) :
    KeptR m s0 (execHeadOutOfService a0 s) := by
  unfold execHeadOutOfService
  extract_lets +onlyGivenNames x1
  clear_value x1
  extract_lets +onlyGivenNames x2
  clear_value x2
  extract_lets +onlyGivenNames x3
  clear_value x3
  extract_lets +onlyGivenNames x4
  clear_value x4
  extract_lets +onlyGivenNames x5
  have h6 : Kept m s0 x5 := by
    unfold x5
    refine foldl_kept (P := fun x => Kept m s0 x) ?_ ?_
    · intro y7 y8 y9
      refine oosEnd_kept (sub hm) ?_
      refine setCl_kept (sub hm) ?_
      exact y9
    · exact h
  clear_value x5
  extract_lets +onlyGivenNames x10
  clear_value x10
  extract_lets +onlyGivenNames x11
  have h12 : Kept m s0 x11 := by
    unfold x11
    refine showPool_kept (sub hm) ?_
    refine setHead_kept (sub hm) ?_
    exact h6
  clear_value x11
  refine KeptR.next ?_
  refine ite_kept (P := fun x => Kept m s0 x) ?_ ?_
  · exact h12
  · refine emit_kept (sub hm) ?_
    exact h12

theorem offloadEnd_kept {α : Type} {m : State → α} (hm : ∀ u, m u = m { u with regs := [], out := [], mem := {}, cl := {} })
    {s0 s : State} {a0 a1 a2 a3} (h : Kept m s0 s) :
    Kept m s0 (offloadEnd a0 a1 a2 a3 s) := by
  unfold offloadEnd
  extract_lets +onlyGivenNames x1 x2 x3 x4 x5 x6 x7
  clear_value x1 x2 x3 x4 x5 x6 x7
  split
  · rename_i u e
    refine setCmd_kept (sub hm) ?_
    rcases Option.bind_eq_some_iff.1 e with ⟨bs, _, hw⟩
    exact writePieces_kept (sub hm) h u hw
  · exact setCmd_kept (sub hm) h

theorem inflateRead_kept {α : Type} {m : State → α} (hm : ∀ u, m u = m { u with regs := [], out := [], mem := {}, cl := {} })
    {s0 s : State} {a0 a1} (h : Kept m s0 s) :
    Kept m s0 (inflateRead a0 a1 s) := by
  unfold inflateRead
  extract_lets +onlyGivenNames data
  split
  extract_lets +onlyGivenNames n c
  split
  · rename_i u e
    refine setCmd_kept (sub hm) ?_
    rcases Option.bind_eq_some_iff.1 e with ⟨bs, _, hw⟩
    exact writePieces_kept (sub hm) h u hw
  · exact setCmd_kept (sub hm) h

theorem progress_kept {α : Type} {m : State → α} (hm : ∀ u, m u = m { u with regs := [], out := [], mem := {}, lanesC := [], cl := {} })
    {s0 s : State} {a0} (h : Kept m s0 s) :
    Kept m s0 (progress a0 s) := by
  unfold progress
  extract_lets +onlyGivenNames x1
  have h2 : Kept m s0 x1 := by
    unfold x1
    refine startOffloads_kept (sub hm) ?_
    exact h
  clear_value x1
  split
  · rename_i v3 v4
    exact h2
  · rename_i v5 v6 v7
    split
    · rename_i v8 v9 v10
      split
      · rename_i v11 v12 v13
        refine ite_kept (P := fun x => Kept m s0 x) ?_ ?_
        · refine offloadEnd_kept (sub hm) ?_
          exact h2
        · exact h2
      · rename_i v14 v15
        exact h2
    · rename_i v16 v17
      refine ite_kept (P := fun x => Kept m s0 x) ?_ ?_
      · refine inflateRead_kept (sub hm) ?_
        exact h2
      · exact h2

theorem runTest_kept {α : Type} {m : State → α} (hm : ∀ u, m u = m { u with evq := [], cl := {} })
    {s0 s : State} {a0 a1} (h : Kept m s0 s) :
    Kept m s0 (runTest a0 a1 s) := by
  unfold runTest
  split
  · rename_i v1 v2
    exact h
  · rename_i v3 v4 v5
    refine ite_kept (P := fun x => Kept m s0 x) ?_ ?_
    · exact h
    · refine ite_kept (P := fun x => Kept m s0 x) ?_ ?_
      · refine setCl_kept (sub hm) ?_
        exact h
      · refine ite_kept (P := fun x => Kept m s0 x) ?_ ?_
        · exact h
        · extract_lets +onlyGivenNames x6
          clear_value x6
          extract_lets +onlyGivenNames x7
          clear_value x7
          extract_lets +onlyGivenNames x8
          clear_value x8
          extract_lets +onlyGivenNames x9
          clear_value x9
          refine endTest_kept (sub hm) ?_
          refine modCmd_kept (sub hm) ?_
          exact h

theorem jobDone_kept {α : Type} {m : State → α} (hm : ∀ u, m u = m { u with regs := [], out := [], port := {} })
    {s0 s : State} {a0 a1} (h : Kept m s0 s) :
    Kept m s0 (jobDone a0 a1 s) := by
  unfold jobDone
  extract_lets +onlyGivenNames x1
  clear_value x1
  extract_lets +onlyGivenNames x2
  clear_value x2
  extract_lets +onlyGivenNames x3
  clear_value x3
  refine ite_kept (P := fun x => Kept m s0 x) ?_ ?_
  · refine portEnd_kept (sub hm) ?_
    exact h
  · split
    · rename_i v4 v5 v6 v7 v8
      refine portEnd_kept (sub hm) ?_
      exact h

theorem post_kept {α : Type} {m : State → α} (hm : ∀ u, m u = m { u with regs := [], evq := [], out := [], msixPend := 0, mem := {}, cl := {}, port := {} })
    {s0 s : State} {a0 a1} (h : Kept m s0 s) :
    Kept m s0 (post a0 a1 s) := by
  unfold post
  split
  · rename_i v1 v2
    exact h
  · rename_i v3 v4 v5 v6 v7 v8 v9 v10 v11 v12 v13 v14 v15 v16 v17 v18 v19 v20 v21 v22 v23 v24 v25 v26 v27 v28 v29 v30 v31 v32 v33 v34 v35 v36 v37 v38 v39 v40 v41 v42 v43 v44 v45 v46 v47 v48 v49 v50
    split
    · rename_i v51 v52 v53
      refine completed_kept (sub hm) ?_
      refine jobDone_kept (sub hm) ?_
      exact h
    · rename_i v54 v55
      exact h
  · rename_i v56 v57 v58 v59
    extract_lets +onlyGivenNames x60
    clear_value x60
    refine ite_kept (P := fun x => Kept m s0 x) ?_ ?_
    · extract_lets +onlyGivenNames x61
      clear_value x61
      extract_lets +onlyGivenNames x62
      have h63 : Kept m s0 x62 := by
        unfold x62
        refine setCl_kept (sub hm) ?_
        refine setCmd_kept (sub hm) ?_
        exact h
      clear_value x62
      refine ite_kept (P := fun x => Kept m s0 x) ?_ ?_
      · refine fullEpisode_kept (sub hm) ?_
        exact h63
      · exact h63
    · refine completed_kept (sub hm) ?_
      refine writeEntry_kept (sub hm) ?_
      exact h

theorem logError_kept {α : Type} {m : State → α} (hm : ∀ u, m u = m { u with regs := [], out := [], msixPend := 0, cl := {} })
    {s0 s : State} {a0 a1 a2 a3} (h : Kept m s0 s) :
    Kept m s0 (logError a0 a1 a2 a3 s) := by
  unfold logError
  extract_lets +onlyGivenNames x1
  clear_value x1
  extract_lets +onlyGivenNames x2
  clear_value x2
  extract_lets +onlyGivenNames x3
  clear_value x3
  extract_lets +onlyGivenNames x4
  clear_value x4
  extract_lets +onlyGivenNames x5
  clear_value x5
  extract_lets +onlyGivenNames x6
  clear_value x6
  extract_lets +onlyGivenNames x7
  have h8 : ∀ y9 y10 y11, Kept m s0 y11 → Kept m s0 (x7 y9 y10 y11) := by
    intro y9 y10 y11 k12
    unfold x7
    refine fset_kept (sub hm) ?_
    exact k12
  clear_value x7
  extract_lets +onlyGivenNames x13
  clear_value x13
  extract_lets +onlyGivenNames x14
  have h15 : Kept m s0 x14 := by
    unfold x14
    refine ite_app_kept (P := fun x => Kept m s0 x) ?_ ?_
    · refine setCl_kept (sub hm) ?_
      refine cnt_kept (sub hm) ?_
      exact h
    · refine cnt_kept (sub hm) ?_
      refine cnt_kept (sub hm) ?_
      exact h
  clear_value x14
  refine raise_kept (sub hm) ?_
  refine fset_kept (sub hm) ?_
  refine h8 _ _ _ ?_
  refine h8 _ _ _ ?_
  refine h8 _ _ _ ?_
  refine h8 _ _ _ ?_
  refine h8 _ _ _ ?_
  refine h8 _ _ _ ?_
  refine h8 _ _ _ ?_
  refine h8 _ _ _ ?_
  refine h8 _ _ _ ?_
  refine h8 _ _ _ ?_
  refine h8 _ _ _ ?_
  refine h8 _ _ _ ?_
  refine h8 _ _ _ ?_
  refine h8 _ _ _ ?_
  refine h8 _ _ _ ?_
  refine h8 _ _ _ ?_
  refine h8 _ _ _ ?_
  refine h8 _ _ _ ?_
  refine h8 _ _ _ ?_
  refine h8 _ _ _ ?_
  refine h8 _ _ _ ?_
  refine h8 _ _ _ ?_
  exact h15

theorem xferValue_kept {α : Type} {m : State → α} (hm : ∀ u, m u = m { u with regs := [] })
    {s0 s : State} {a0 a1} (h : Kept m s0 s) :
    Kept m s0 (xferValue a0 a1 s) := by
  unfold xferValue
  extract_lets +onlyGivenNames x1
  clear_value x1
  refine fset64_kept (sub hm) ?_
  refine fset_kept (sub hm) ?_
  refine cnt_kept (sub hm) ?_
  exact h

theorem freezeReq_kept {α : Type} {m : State → α} (hm : ∀ u, m u = m { u with regs := [], evq := [], out := [], msixPend := 0, cl := {} })
    {s0 s : State} {a0 a1 a2} (h : Kept m s0 s) :
    Kept m s0 (freezeReq a0 a1 a2 s) := by
  unfold freezeReq
  refine emit_kept (sub hm) ?_
  refine raise_kept (sub hm) ?_
  refine fset_kept (sub hm) ?_
  refine setCl_kept (sub hm) ?_
  exact h

theorem finalise_kept {α : Type} {m : State → α} (hm : ∀ u, m u = m { u with regs := [], evq := [], out := [], msixPend := 0, cl := {} })
    {s0 s : State} {a0 a1} (h : Kept m s0 s) :
    Kept m s0 (finalise a0 a1 s) := by
  unfold finalise
  extract_lets +onlyGivenNames x1
  clear_value x1
  extract_lets +onlyGivenNames x2
  clear_value x2
  extract_lets +onlyGivenNames x3
  clear_value x3
  extract_lets +onlyGivenNames x4
  clear_value x4
  extract_lets +onlyGivenNames x5
  have h6 : Kept m s0 x5 := by
    unfold x5
    refine ite_kept (P := fun x => Kept m s0 x) ?_ ?_
    · refine logError_kept (sub hm) ?_
      exact h
    · exact h
  clear_value x5
  extract_lets +onlyGivenNames x7
  have h8 : Kept m s0 x7 := by
    unfold x7
    refine setCmd_kept (sub hm) ?_
    exact h6
  clear_value x7
  extract_lets +onlyGivenNames x9
  have h10 : Kept m s0 x9 := by
    unfold x9
    split
    · rename_i v11 v12 v13
      refine xferValue_kept (sub hm) ?_
      exact h8
    · rename_i v14 v15
      exact h8
  clear_value x9
  refine ite_kept (P := fun x => Kept m s0 x) ?_ ?_
  · refine freezeReq_kept (sub hm) ?_
    exact h10
  · exact h10

theorem execCompletionPost_kept {α : Type} {m : State → α} (hm : ∀ u, m u = m { u with regs := [], evq := [], out := [], msixPend := 0, mem := {}, lanesC := [], cl := {}, port := {} })
    {s0 s : State} {a0 a1} (h : Kept m s0 s) :
    KeptR m s0 (execCompletionPost a0 a1 s) := by
  unfold execCompletionPost
  extract_lets +onlyGivenNames x1
  clear_value x1
  extract_lets +onlyGivenNames x2
  have h3 : Kept m s0 x2 := by
    unfold x2
    refine progress_kept (sub hm) ?_
    exact h
  clear_value x2
  extract_lets +onlyGivenNames x4
  have h5 : Kept m s0 x4 := by
    unfold x4
    split
    · rename_i v6 v7 v8
      refine ite_kept (P := fun x => Kept m s0 x) ?_ ?_
      · refine runTest_kept (sub hm) ?_
        exact h3
      · exact h3
    · rename_i v9 v10
      exact h3
  clear_value x4
  split
  · rename_i v11 v12
    refine KeptR.next ?_
    exact h5
  · rename_i v13 v14 v15
    refine ite_kept (P := fun x => KeptR m s0 x) ?_ ?_
    · refine KeptR.next ?_
      exact h5
    · refine KeptR.next ?_
      refine post_kept (sub hm) ?_
      refine finalise_kept (sub hm) ?_
      exact h5

theorem execCoalescingTimer_kept {α : Type} {m : State → α} (hm : ∀ u, m u = m { u with out := [], msixPend := 0, cl := {} })
    {s0 s : State} {a0} (h : Kept m s0 s) :
    KeptR m s0 (execCoalescingTimer a0 s) := by
  unfold execCoalescingTimer
  refine KeptR.next ?_
  refine ite_kept (P := fun x => Kept m s0 x) ?_ ?_
  · refine signalRing_kept (sub hm) ?_
    exact h
  · exact h

theorem execHostDmaFailed_kept {α : Type} {m : State → α} (hm : ∀ u, m u = m { u with regs := [], evq := [], out := [], msixPend := 0, disc := {}, dec := {}, encoded := [], mem := {}, lanesC := [], cl := {} })
    {s0 s : State} {a0 a1} (h : Kept m s0 s) :
    KeptR m s0 (execHostDmaFailed a0 a1 s) := by
  unfold execHostDmaFailed
  extract_lets +onlyGivenNames x1
  clear_value x1
  split
  · rename_i v2 v3
    refine KeptR.next ?_
    exact h
  · rename_i v4 v5 v6
    refine ite_kept (P := fun x => KeptR m s0 x) ?_ ?_
    · refine KeptR.next ?_
      exact h
    · refine KeptR.next ?_
      refine emit_kept (sub hm) ?_
      refine modCmd_kept (sub hm) ?_
      refine stopCmd_kept (sub hm) ?_
      exact h

theorem takeDescriptor_kept {α : Type} {m : State → α} (hm : ∀ u, m u = m { u with regs := [], evq := [], out := [], msixPend := 0, disc := {}, dec := {}, encoded := [], mem := {}, lanesC := [], cl := {} })
    {s0 s : State} {a0 a1 a2} (h : Kept m s0 s) :
    Kept m s0 (takeDescriptor a0 a1 a2 s) := by
  unfold takeDescriptor
  split
  · rename_i v1 v2
    exact h
  · rename_i v3 v4 v5
    refine ite_kept (P := fun x => Kept m s0 x) ?_ ?_
    · exact h
    · refine ite_kept (P := fun x => Kept m s0 x) ?_ ?_
      · refine ite_kept (P := fun x => Kept m s0 x) ?_ ?_
        · refine badList_kept (sub hm) ?_
          exact h
        · refine setCmd_kept (sub hm) ?_
          exact h
      · extract_lets +onlyGivenNames x6
        clear_value x6
        extract_lets +onlyGivenNames x7
        clear_value x7
        refine ite_kept (P := fun x => Kept m s0 x) ?_ ?_
        · refine badList_kept (sub hm) ?_
          exact h
        · refine transferAll_kept (sub hm) ?_
          refine setCmd_kept (sub hm) ?_
          exact h

theorem takeDescriptors_kept {α : Type} {m : State → α} (hm : ∀ u, m u = m { u with regs := [], evq := [], out := [], msixPend := 0, disc := {}, dec := {}, encoded := [], mem := {}, lanesC := [], cl := {} })
    {s0 s : State} {a0 a1 a2} (h : Kept m s0 s) :
    Kept m s0 (takeDescriptors a0 a1 a2 s) := by
  induction a2 generalizing a1 s with
  | nil => exact h
  | cons d ds ih => exact ih (takeDescriptor_kept (sub hm) h)

theorem execDescriptorFetch_kept {α : Type} {m : State → α} (hm : ∀ u, m u = m { u with regs := [], evq := [], out := [], msixPend := 0, disc := {}, dec := {}, encoded := [], mem := {}, lanesC := [], cl := {} })
    {s0 s : State} {a0 a1} (h : Kept m s0 s) :
    KeptR m s0 (execDescriptorFetch a0 a1 s) := by
  unfold execDescriptorFetch
  extract_lets +onlyGivenNames x1
  clear_value x1
  split
  · rename_i v2 v3 v4
    refine KeptR.next ?_
    refine ite_kept (P := fun x => Kept m s0 x) ?_ ?_
    · refine takeDescriptors_kept (sub hm) ?_
      exact h
    · exact h
  · rename_i v5 v6
    refine KeptR.next ?_
    exact h

theorem execStreamSpill_kept {α : Type} {m : State → α} (hm : ∀ u, m u = m { u with regs := [], evq := [], out := [], msixPend := 0, cl := {} })
    {s0 s : State} {a0 a1} (h : Kept m s0 s) :
    KeptR m s0 (execStreamSpill a0 a1 s) := by
  unfold execStreamSpill
  extract_lets +onlyGivenNames x1
  clear_value x1
  split
  · rename_i v2 v3 v4 v5 v6 v7 v8
    refine ite_kept (P := fun x => KeptR m s0 x) ?_ ?_
    · refine KeptR.next ?_
      exact h
    · extract_lets +onlyGivenNames x9
      clear_value x9
      split
      · rename_i v10 v11
        refine KeptR.next ?_
        refine setCl_kept (sub hm) ?_
        exact h
      · rename_i v12 v13 v14
        split
        · rename_i v15 v16 v17 v18
          refine KeptR.next ?_
          refine showStreams_kept (sub hm) ?_
          refine cnt_kept (sub hm) ?_
          refine setStrm_kept (sub hm) ?_
          refine setCl_kept (sub hm) ?_
          exact h
        · rename_i v19 v20 v21 v22
          refine KeptR.next ?_
          exact h
        · rename_i v23 v24 v25 v26 v27 v28
          refine ite_kept (P := fun x => KeptR m s0 x) ?_ ?_
          · refine KeptR.next ?_
            refine fault_kept (sub hm) ?_
            exact h
          · refine KeptR.next ?_
            refine emit_kept (sub hm) ?_
            refine showStreams_kept (sub hm) ?_
            refine raise_kept (sub hm) ?_
            refine cnt_kept (sub hm) ?_
            refine cnt_kept (sub hm) ?_
            refine setStrm_kept (sub hm) ?_
            refine setStrm_kept (sub hm) ?_
            refine setCl_kept (sub hm) ?_
            exact h
  · rename_i v29 v30 v31
    refine KeptR.next ?_
    exact h

theorem execSelfTestYieldEnd_kept {α : Type} {m : State → α} (hm : ∀ u, m u = m { u with cl := {} })
    {s0 s : State} (h : Kept m s0 s) :
    KeptR m s0 (execSelfTestYieldEnd s) := by
  unfold execSelfTestYieldEnd
  split
  · rename_i v1 v2 v3
    refine KeptR.next ?_
    refine ite_kept (P := fun x => Kept m s0 x) ?_ ?_
    · exact h
    · refine setCl_kept (sub hm) ?_
      exact h
  · rename_i v4 v5
    refine KeptR.next ?_
    exact h

theorem execModeEntryDeferred_kept {α : Type} {m : State → α} (hm : ∀ u, m u = m { u with regs := [], evq := [], cl := {}, pwr := {} })
    {s0 s : State} (h : Kept m s0 s) :
    KeptR m s0 (execModeEntryDeferred s) := by
  unfold execModeEntryDeferred
  refine KeptR.next ?_
  split
  · rename_i v1 v2 v3 v4
    refine ite_kept (P := fun x => Kept m s0 x) ?_ ?_
    · refine enterRest_kept (sub hm) ?_
      exact h
    · exact h
  · rename_i v5 v6
    exact h

theorem execAbortTask_kept {α : Type} {m : State → α} (hm : ∀ u, m u = m { u with regs := [], evq := [], out := [], msixPend := 0, disc := {}, dec := {}, encoded := [], mem := {}, lanesC := [], cl := {}, port := {} })
    {s0 s : State} {a0} (h : Kept m s0 s) :
    KeptR m s0 (execAbortTask a0 s) := by
  unfold execAbortTask
  refine KeptR.next ?_
  refine abortPort_kept (sub hm) ?_
  exact h

theorem execAbortTaskSet_kept {α : Type} {m : State → α} (hm : ∀ u, m u = m { u with regs := [], evq := [], out := [], msixPend := 0, disc := {}, dec := {}, encoded := [], mem := {}, lanesC := [], cl := {}, port := {} })
    {s0 s : State} (h : Kept m s0 s) :
    KeptR m s0 (execAbortTaskSet s) := by
  unfold execAbortTaskSet
  refine KeptR.next ?_
  refine abortPort_kept (sub hm) ?_
  exact h

theorem execLogicalUnitReset_kept {α : Type} {m : State → α} (hm : ∀ u, m u = m { u with regs := [], evq := [], out := [], msixPend := 0, disc := {}, dec := {}, encoded := [], mem := {}, lanesC := [], cl := {}, port := {} })
    {s0 s : State} (h : Kept m s0 s) :
    KeptR m s0 (execLogicalUnitReset s) := by
  unfold execLogicalUnitReset
  refine KeptR.next ?_
  refine abortPort_kept (sub hm) ?_
  exact h

theorem execBulkOnlyMassStorageReset_kept {α : Type} {m : State → α} (hm : ∀ u, m u = m { u with regs := [], evq := [], out := [], msixPend := 0, disc := {}, dec := {}, encoded := [], mem := {}, lanesC := [], cl := {}, port := {} })
    {s0 s : State} (h : Kept m s0 s) :
    KeptR m s0 (execBulkOnlyMassStorageReset s) := by
  unfold execBulkOnlyMassStorageReset
  refine KeptR.next ?_
  refine abortPort_kept (sub hm) ?_
  exact h

theorem execGetMaxLun_kept {α : Type} {m : State → α} (hm : ∀ u, m u = m { u with out := [] })
    {s0 s : State} (h : Kept m s0 s) :
    KeptR m s0 (execGetMaxLun s) := by
  unfold execGetMaxLun
  refine KeptR.next ?_
  refine send_kept (sub hm) ?_
  exact h

theorem execSataNop_kept {α : Type} {m : State → α} (hm : ∀ u, m u = m { u with out := [] })
    {s0 s : State} (h : Kept m s0 s) :
    KeptR m s0 (execSataNop s) := by
  unfold execSataNop
  refine KeptR.next ?_
  refine ataCommand_kept ?_ ?_
  · intro y1 y2
    refine ataAbort_kept (sub hm) ?_
    exact y2
  · exact h

theorem execDeviceResetAta_kept {α : Type} {m : State → α} (hm : ∀ u, m u = m { u with regs := [], evq := [], out := [], msixPend := 0, disc := {}, dec := {}, encoded := [], mem := {}, lanesC := [], cl := {}, port := {} })
    {s0 s : State} (h : Kept m s0 s) :
    KeptR m s0 (execDeviceResetAta s) := by
  unfold execDeviceResetAta
  refine KeptR.next ?_
  refine ataCommand_kept ?_ ?_
  · intro y1 y2
    refine sataReset_kept (sub hm) ?_
    refine raise_kept (sub hm) ?_
    exact y2
  · exact h

theorem execExecuteDeviceDiagnostic_kept {α : Type} {m : State → α} (hm : ∀ u, m u = m { u with out := [] })
    {s0 s : State} (h : Kept m s0 s) :
    KeptR m s0 (execExecuteDeviceDiagnostic s) := by
  unfold execExecuteDeviceDiagnostic
  refine KeptR.next ?_
  refine ataCommand_kept ?_ ?_
  · intro y1 y2
    refine send_kept (sub hm) ?_
    exact y2
  · exact h

theorem mmcEnter_kept {α : Type} {m : State → α} (hm : ∀ u, m u = m { u with regs := [], out := [] })
    {s0 s : State} {a0 a1} (hf0 : ∀ y0, Kept m s0 y0 → Kept m s0 (a1 y0)) (h : Kept m s0 s) :
    Kept m s0 (mmcEnter a0 a1 s) := by
  unfold mmcEnter
  extract_lets +onlyGivenNames x1
  have h2 : Kept m s0 x1 := by
    unfold x1
    refine ite_kept (P := fun x => Kept m s0 x) ?_ ?_
    · exact h
    · refine cnt_kept (sub hm) ?_
      exact h
  clear_value x1
  refine ite_kept (P := fun x => Kept m s0 x) ?_ ?_
  · refine send_kept (sub hm) ?_
    exact h2
  · refine hf0 _ ?_
    exact h2

theorem mmcHandler_kept {α : Type} {m : State → α} (hm : ∀ u, m u = m { u with regs := [], evq := [], out := [], msixPend := 0, disc := {}, recs := [], engs := [], loops := [], spin := {}, dec := {}, encoded := [], mem := {}, lanesC := [], claims := [], cl := {}, port := {}, vault := {}, pwr := {}, dev := {} })
    {s0 s : State} {a0 a1 a2 a3} (h : Kept m s0 s) :
    Kept m s0 (mmcHandler a0 a1 a2 a3 s) := by
  unfold mmcHandler
  split
  · rename_i v1
    refine doTestUnitReady_kept (sub hm) ?_
    exact h
  · rename_i v2
    refine doRequestSense_kept (sub hm) ?_
    exact h
  · rename_i v3
    refine doInquiry_kept (sub hm) ?_
    exact h
  · rename_i v4
    refine doFormatUnit_kept (sub hm) ?_
    exact h
  · rename_i v5
    refine doStartStopUnit_kept (sub hm) ?_
    exact h
  · rename_i v6
    refine doPrevent_kept (sub hm) ?_
    exact h
  · rename_i v7
    refine doReadFormatCapacities_kept (sub hm) ?_
    exact h
  · rename_i v8
    refine doReadCapacity_kept (sub hm) ?_
    exact h
  · rename_i v9
    refine doRead10_kept (sub hm) ?_
    exact h
  · rename_i v10
    refine doRead12_kept (sub hm) ?_
    exact h
  · rename_i v11
    refine doWrite10_kept (sub hm) ?_
    exact h
  · rename_i v12
    refine doWrite12_kept (sub hm) ?_
    exact h
  · rename_i v13
    refine doVerify10_kept (sub hm) ?_
    exact h
  · rename_i v14
    refine doSynchronizeCache_kept (sub hm) ?_
    exact h
  · rename_i v15
    refine doReadToc_kept (sub hm) ?_
    exact h
  · rename_i v16
    refine doReadDiscInformation_kept (sub hm) ?_
    exact h
  · rename_i v17
    refine doReadTrackInformation_kept (sub hm) ?_
    exact h
  · rename_i v18
    refine doGetConfiguration_kept (sub hm) ?_
    exact h
  · rename_i v19
    refine doGetEventStatus_kept (sub hm) ?_
    exact h
  · rename_i v20
    refine doReserveTrack_kept (sub hm) ?_
    exact h
  · rename_i v21
    refine doCloseTrackSession_kept (sub hm) ?_
    exact h
  · rename_i v22
    refine doNothing_kept (sub hm) ?_
    exact h
  · rename_i v23
    refine doModeSelect_kept (sub hm) ?_
    exact h
  · rename_i v24
    refine doModeSense_kept (sub hm) ?_
    exact h
  · rename_i v25
    refine doReadBufferCapacity_kept (sub hm) ?_
    exact h
  · rename_i v26
    refine doGetPerformance_kept (sub hm) ?_
    exact h
  · rename_i v27
    refine doMechanismStatus_kept (sub hm) ?_
    exact h
  · rename_i v28
    refine doReadDiscStructure_kept (sub hm) ?_
    exact h
  · rename_i v29
    refine doNothing_kept (sub hm) ?_
    exact h
  · rename_i v30
    refine doNothing_kept (sub hm) ?_
    exact h
  · rename_i v31
    refine doReadCd_kept (sub hm) ?_
    exact h
  · rename_i v32
    refine doZvSeal_kept (sub hm) ?_
    exact h
  · rename_i v33
    refine doZvDlaState_kept (sub hm) ?_
    exact h
  · rename_i v34
    refine doZvSetMode_kept (sub hm) ?_
    exact h
  · rename_i v35
    refine doZvVault_kept (sub hm) ?_
    exact h
  · rename_i v36 v37 v38 v39 v40 v41 v42 v43 v44 v45 v46 v47 v48 v49 v50 v51 v52 v53 v54 v55 v56 v57 v58 v59 v60 v61 v62 v63 v64 v65 v66 v67 v68 v69 v70 v71
    refine doUnsupported_kept (sub hm) ?_
    exact h

theorem execPacket_kept {α : Type} {m : State → α} (hm : ∀ u, m u = m { u with regs := [], evq := [], out := [], msixPend := 0, disc := {}, recs := [], engs := [], loops := [], spin := {}, dec := {}, encoded := [], mem := {}, lanesC := [], claims := [], cl := {}, port := {}, vault := {}, pwr := {}, dev := {} })
    {s0 s : State} {a0 a1 a2 a3} (h : Kept m s0 s) :
    KeptR m s0 (execPacket a0 a1 a2 a3 s) := by
  unfold execPacket
  extract_lets +onlyGivenNames x1
  clear_value x1
  refine KeptR.next ?_
  refine ataCommand_kept ?_ ?_
  · intro y2 y3
    extract_lets +onlyGivenNames x4
    clear_value x4
    extract_lets +onlyGivenNames x5
    clear_value x5
    refine mmcEnter_kept (sub hm) ?_ ?_
    · intro y6 y7
      refine mmcHandler_kept (sub hm) ?_
      exact y7
    · refine fset_kept (sub hm) ?_
      refine fset_kept (sub hm) ?_
      refine cntN_kept (sub hm) ?_
      refine cnt_kept (sub hm) ?_
      exact y3
  · exact h

theorem execIdentifyPacketDevice_kept {α : Type} {m : State → α} (hm : ∀ u, m u = m { u with out := [] })
    {s0 s : State} (h : Kept m s0 s) :
    KeptR m s0 (execIdentifyPacketDevice s) := by
  unfold execIdentifyPacketDevice
  refine KeptR.next ?_
  refine ataCommand_kept ?_ ?_
  · intro y1 y2
    refine send_kept (sub hm) ?_
    exact y2
  · exact h

theorem execStandbyImmediate_kept {α : Type} {m : State → α} (hm : ∀ u, m u = m { u with regs := [], evq := [], out := [], msixPend := 0, disc := {}, recs := [], spin := {}, dec := {}, encoded := [], mem := {}, lanesC := [], cl := {}, port := {}, pwr := {} })
    {s0 s : State} (h : Kept m s0 s) :
    KeptR m s0 (execStandbyImmediate s) := by
  unfold execStandbyImmediate
  refine KeptR.next ?_
  refine ataCommand_kept ?_ ?_
  · intro y1 y2
    refine ataDone_kept (sub hm) ?_
    refine askMode_kept (sub hm) ?_
    exact y2
  · exact h

theorem execIdleImmediate_kept {α : Type} {m : State → α} (hm : ∀ u, m u = m { u with out := [] })
    {s0 s : State} (h : Kept m s0 s) :
    KeptR m s0 (execIdleImmediate s) := by
  unfold execIdleImmediate
  refine KeptR.next ?_
  refine ataCommand_kept ?_ ?_
  · intro y1 y2
    refine ataDone_kept (sub hm) ?_
    exact y2
  · exact h

theorem execCheckPowerMode_kept {α : Type} {m : State → α} (hm : ∀ u, m u = m { u with out := [] })
    {s0 s : State} (h : Kept m s0 s) :
    KeptR m s0 (execCheckPowerMode s) := by
  unfold execCheckPowerMode
  refine KeptR.next ?_
  refine ataCommand_kept ?_ ?_
  · intro y1 y2
    refine send_kept (sub hm) ?_
    exact y2
  · exact h

theorem execSleep_kept {α : Type} {m : State → α} (hm : ∀ u, m u = m { u with regs := [], evq := [], out := [], msixPend := 0, disc := {}, recs := [], spin := {}, dec := {}, encoded := [], mem := {}, lanesC := [], cl := {}, port := {}, pwr := {} })
    {s0 s : State} (h : Kept m s0 s) :
    KeptR m s0 (execSleep s) := by
  unfold execSleep
  refine KeptR.next ?_
  refine ataCommand_kept ?_ ?_
  · intro y1 y2
    beta_reduce
    refine setPorts_kept (sub hm) ?_
    refine ataDone_kept (sub hm) ?_
    refine askMode_kept (sub hm) ?_
    exact y2
  · exact h

theorem setFeatures_kept {α : Type} {m : State → α} (hm : ∀ u, m u = m { u with out := [], port := {} })
    {s0 s : State} {a0 a1} (h : Kept m s0 s) :
    Kept m s0 (setFeatures a0 a1 s) := by
  unfold setFeatures
  extract_lets +onlyGivenNames x1
  clear_value x1
  refine ite_kept (P := fun x => Kept m s0 x) ?_ ?_
  · refine ataDone_kept (sub hm) ?_
    refine setPorts_kept (sub hm) ?_
    exact h
  · refine ite_kept (P := fun x => Kept m s0 x) ?_ ?_
    · refine ataDone_kept (sub hm) ?_
      refine setPorts_kept (sub hm) ?_
      exact h
    · refine ite_kept (P := fun x => Kept m s0 x) ?_ ?_
      · refine ataDone_kept (sub hm) ?_
        refine setPorts_kept (sub hm) ?_
        exact h
      · refine ataAbort_kept (sub hm) ?_
        exact h

theorem execSetFeatures_kept {α : Type} {m : State → α} (hm : ∀ u, m u = m { u with out := [], port := {} })
    {s0 s : State} {a0 a1} (h : Kept m s0 s) :
    KeptR m s0 (execSetFeatures a0 a1 s) := by
  unfold execSetFeatures
  refine KeptR.next ?_
  refine ataCommand_kept ?_ ?_
  · intro y1 y2
    refine setFeatures_kept (sub hm) ?_
    exact y2
  · exact h

theorem execUnsupportedAtaCommand_kept {α : Type} {m : State → α} (hm : ∀ u, m u = m { u with out := [] })
    {s0 s : State} {a0} (h : Kept m s0 s) :
    KeptR m s0 (execUnsupportedAtaCommand a0 s) := by
  unfold execUnsupportedAtaCommand
  refine KeptR.next ?_
  refine ataCommand_kept ?_ ?_
  · intro y1 y2
    refine ataAbort_kept (sub hm) ?_
    exact y2
  · exact h

theorem mmcUsb_kept {α : Type} {m : State → α} (hm : ∀ u, m u = m { u with regs := [], evq := [], out := [], msixPend := 0, disc := {}, recs := [], engs := [], loops := [], spin := {}, dec := {}, encoded := [], mem := {}, lanesC := [], claims := [], cl := {}, port := {}, vault := {}, pwr := {}, dev := {} })
    {s0 s : State} {a0 a1 a2 a3} (h : Kept m s0 s) :
    Kept m s0 (mmcUsb a0 a1 a2 a3 s) := by
  unfold mmcUsb
  extract_lets +onlyGivenNames x1
  clear_value x1
  refine mmcEnter_kept (sub hm) ?_ ?_
  · intro y2 y3
    refine mmcHandler_kept (sub hm) ?_
    exact y3
  · exact h

theorem execTestUnitReady_kept {α : Type} {m : State → α} (hm : ∀ u, m u = m { u with regs := [], evq := [], out := [], msixPend := 0, disc := {}, recs := [], engs := [], loops := [], spin := {}, dec := {}, encoded := [], mem := {}, lanesC := [], claims := [], cl := {}, port := {}, vault := {}, pwr := {}, dev := {} })
    {s0 s : State} {a0} (h : Kept m s0 s) :
    KeptR m s0 (execTestUnitReady a0 s) := by
  unfold execTestUnitReady
  refine KeptR.next ?_
  refine mmcUsb_kept (sub hm) ?_
  exact h

theorem execRequestSense_kept {α : Type} {m : State → α} (hm : ∀ u, m u = m { u with regs := [], evq := [], out := [], msixPend := 0, disc := {}, recs := [], engs := [], loops := [], spin := {}, dec := {}, encoded := [], mem := {}, lanesC := [], claims := [], cl := {}, port := {}, vault := {}, pwr := {}, dev := {} })
    {s0 s : State} {a0 a1} (h : Kept m s0 s) :
    KeptR m s0 (execRequestSense a0 a1 s) := by
  unfold execRequestSense
  refine KeptR.next ?_
  refine mmcUsb_kept (sub hm) ?_
  exact h

theorem execInquiry_kept {α : Type} {m : State → α} (hm : ∀ u, m u = m { u with regs := [], evq := [], out := [], msixPend := 0, disc := {}, recs := [], engs := [], loops := [], spin := {}, dec := {}, encoded := [], mem := {}, lanesC := [], claims := [], cl := {}, port := {}, vault := {}, pwr := {}, dev := {} })
    {s0 s : State} {a0 a1} (h : Kept m s0 s) :
    KeptR m s0 (execInquiry a0 a1 s) := by
  unfold execInquiry
  refine KeptR.next ?_
  refine mmcUsb_kept (sub hm) ?_
  exact h

theorem execFormatUnit_kept {α : Type} {m : State → α} (hm : ∀ u, m u = m { u with regs := [], evq := [], out := [], msixPend := 0, disc := {}, recs := [], engs := [], loops := [], spin := {}, dec := {}, encoded := [], mem := {}, lanesC := [], claims := [], cl := {}, port := {}, vault := {}, pwr := {}, dev := {} })
    {s0 s : State} {a0 a1} (h : Kept m s0 s) :
    KeptR m s0 (execFormatUnit a0 a1 s) := by
  unfold execFormatUnit
  refine KeptR.next ?_
  refine mmcUsb_kept (sub hm) ?_
  exact h

theorem execStartStopUnit_kept {α : Type} {m : State → α} (hm : ∀ u, m u = m { u with regs := [], evq := [], out := [], msixPend := 0, disc := {}, recs := [], engs := [], loops := [], spin := {}, dec := {}, encoded := [], mem := {}, lanesC := [], claims := [], cl := {}, port := {}, vault := {}, pwr := {}, dev := {} })
    {s0 s : State} {a0 a1} (h : Kept m s0 s) :
    KeptR m s0 (execStartStopUnit a0 a1 s) := by
  unfold execStartStopUnit
  refine KeptR.next ?_
  refine mmcUsb_kept (sub hm) ?_
  exact h

theorem execPreventAllowMediumRemoval_kept {α : Type} {m : State → α} (hm : ∀ u, m u = m { u with regs := [], evq := [], out := [], msixPend := 0, disc := {}, recs := [], engs := [], loops := [], spin := {}, dec := {}, encoded := [], mem := {}, lanesC := [], claims := [], cl := {}, port := {}, vault := {}, pwr := {}, dev := {} })
    {s0 s : State} {a0 a1} (h : Kept m s0 s) :
    KeptR m s0 (execPreventAllowMediumRemoval a0 a1 s) := by
  unfold execPreventAllowMediumRemoval
  refine KeptR.next ?_
  refine mmcUsb_kept (sub hm) ?_
  exact h

theorem execReadFormatCapacities_kept {α : Type} {m : State → α} (hm : ∀ u, m u = m { u with regs := [], evq := [], out := [], msixPend := 0, disc := {}, recs := [], engs := [], loops := [], spin := {}, dec := {}, encoded := [], mem := {}, lanesC := [], claims := [], cl := {}, port := {}, vault := {}, pwr := {}, dev := {} })
    {s0 s : State} {a0 a1} (h : Kept m s0 s) :
    KeptR m s0 (execReadFormatCapacities a0 a1 s) := by
  unfold execReadFormatCapacities
  refine KeptR.next ?_
  refine mmcUsb_kept (sub hm) ?_
  exact h

theorem execReadCapacity_kept {α : Type} {m : State → α} (hm : ∀ u, m u = m { u with regs := [], evq := [], out := [], msixPend := 0, disc := {}, recs := [], engs := [], loops := [], spin := {}, dec := {}, encoded := [], mem := {}, lanesC := [], claims := [], cl := {}, port := {}, vault := {}, pwr := {}, dev := {} })
    {s0 s : State} {a0} (h : Kept m s0 s) :
    KeptR m s0 (execReadCapacity a0 s) := by
  unfold execReadCapacity
  refine KeptR.next ?_
  refine mmcUsb_kept (sub hm) ?_
  exact h

theorem execRead10_kept {α : Type} {m : State → α} (hm : ∀ u, m u = m { u with regs := [], evq := [], out := [], msixPend := 0, disc := {}, recs := [], engs := [], loops := [], spin := {}, dec := {}, encoded := [], mem := {}, lanesC := [], claims := [], cl := {}, port := {}, vault := {}, pwr := {}, dev := {} })
    {s0 s : State} {a0 a1} (h : Kept m s0 s) :
    KeptR m s0 (execRead10 a0 a1 s) := by
  unfold execRead10
  refine KeptR.next ?_
  refine mmcUsb_kept (sub hm) ?_
  exact h

theorem execRead12_kept {α : Type} {m : State → α} (hm : ∀ u, m u = m { u with regs := [], evq := [], out := [], msixPend := 0, disc := {}, recs := [], engs := [], loops := [], spin := {}, dec := {}, encoded := [], mem := {}, lanesC := [], claims := [], cl := {}, port := {}, vault := {}, pwr := {}, dev := {} })
    {s0 s : State} {a0 a1} (h : Kept m s0 s) :
    KeptR m s0 (execRead12 a0 a1 s) := by
  unfold execRead12
  refine KeptR.next ?_
  refine mmcUsb_kept (sub hm) ?_
  exact h

theorem execWrite10_kept {α : Type} {m : State → α} (hm : ∀ u, m u = m { u with regs := [], evq := [], out := [], msixPend := 0, disc := {}, recs := [], engs := [], loops := [], spin := {}, dec := {}, encoded := [], mem := {}, lanesC := [], claims := [], cl := {}, port := {}, vault := {}, pwr := {}, dev := {} })
    {s0 s : State} {a0 a1} (h : Kept m s0 s) :
    KeptR m s0 (execWrite10 a0 a1 s) := by
  unfold execWrite10
  refine KeptR.next ?_
  refine mmcUsb_kept (sub hm) ?_
  exact h

theorem execWrite12_kept {α : Type} {m : State → α} (hm : ∀ u, m u = m { u with regs := [], evq := [], out := [], msixPend := 0, disc := {}, recs := [], engs := [], loops := [], spin := {}, dec := {}, encoded := [], mem := {}, lanesC := [], claims := [], cl := {}, port := {}, vault := {}, pwr := {}, dev := {} })
    {s0 s : State} {a0 a1} (h : Kept m s0 s) :
    KeptR m s0 (execWrite12 a0 a1 s) := by
  unfold execWrite12
  refine KeptR.next ?_
  refine mmcUsb_kept (sub hm) ?_
  exact h

theorem execVerify10_kept {α : Type} {m : State → α} (hm : ∀ u, m u = m { u with regs := [], evq := [], out := [], msixPend := 0, disc := {}, recs := [], engs := [], loops := [], spin := {}, dec := {}, encoded := [], mem := {}, lanesC := [], claims := [], cl := {}, port := {}, vault := {}, pwr := {}, dev := {} })
    {s0 s : State} {a0 a1} (h : Kept m s0 s) :
    KeptR m s0 (execVerify10 a0 a1 s) := by
  unfold execVerify10
  refine KeptR.next ?_
  refine mmcUsb_kept (sub hm) ?_
  exact h

theorem execSynchronizeCache_kept {α : Type} {m : State → α} (hm : ∀ u, m u = m { u with regs := [], evq := [], out := [], msixPend := 0, disc := {}, recs := [], engs := [], loops := [], spin := {}, dec := {}, encoded := [], mem := {}, lanesC := [], claims := [], cl := {}, port := {}, vault := {}, pwr := {}, dev := {} })
    {s0 s : State} {a0} (h : Kept m s0 s) :
    KeptR m s0 (execSynchronizeCache a0 s) := by
  unfold execSynchronizeCache
  refine KeptR.next ?_
  refine mmcUsb_kept (sub hm) ?_
  exact h

theorem execReadToc_kept {α : Type} {m : State → α} (hm : ∀ u, m u = m { u with regs := [], evq := [], out := [], msixPend := 0, disc := {}, recs := [], engs := [], loops := [], spin := {}, dec := {}, encoded := [], mem := {}, lanesC := [], claims := [], cl := {}, port := {}, vault := {}, pwr := {}, dev := {} })
    {s0 s : State} {a0 a1 a2} (h : Kept m s0 s) :
    KeptR m s0 (execReadToc a0 a1 a2 s) := by
  unfold execReadToc
  refine KeptR.next ?_
  refine mmcUsb_kept (sub hm) ?_
  exact h

theorem execReadDiscInformation_kept {α : Type} {m : State → α} (hm : ∀ u, m u = m { u with regs := [], evq := [], out := [], msixPend := 0, disc := {}, recs := [], engs := [], loops := [], spin := {}, dec := {}, encoded := [], mem := {}, lanesC := [], claims := [], cl := {}, port := {}, vault := {}, pwr := {}, dev := {} })
    {s0 s : State} {a0 a1 a2} (h : Kept m s0 s) :
    KeptR m s0 (execReadDiscInformation a0 a1 a2 s) := by
  unfold execReadDiscInformation
  refine KeptR.next ?_
  refine mmcUsb_kept (sub hm) ?_
  exact h

theorem execReadTrackInformation_kept {α : Type} {m : State → α} (hm : ∀ u, m u = m { u with regs := [], evq := [], out := [], msixPend := 0, disc := {}, recs := [], engs := [], loops := [], spin := {}, dec := {}, encoded := [], mem := {}, lanesC := [], claims := [], cl := {}, port := {}, vault := {}, pwr := {}, dev := {} })
    {s0 s : State} {a0 a1 a2} (h : Kept m s0 s) :
    KeptR m s0 (execReadTrackInformation a0 a1 a2 s) := by
  unfold execReadTrackInformation
  refine KeptR.next ?_
  refine mmcUsb_kept (sub hm) ?_
  exact h

theorem execGetConfiguration_kept {α : Type} {m : State → α} (hm : ∀ u, m u = m { u with regs := [], evq := [], out := [], msixPend := 0, disc := {}, recs := [], engs := [], loops := [], spin := {}, dec := {}, encoded := [], mem := {}, lanesC := [], claims := [], cl := {}, port := {}, vault := {}, pwr := {}, dev := {} })
    {s0 s : State} {a0 a1} (h : Kept m s0 s) :
    KeptR m s0 (execGetConfiguration a0 a1 s) := by
  unfold execGetConfiguration
  refine KeptR.next ?_
  refine mmcUsb_kept (sub hm) ?_
  exact h

theorem execGetEventStatusNotification_kept {α : Type} {m : State → α} (hm : ∀ u, m u = m { u with regs := [], evq := [], out := [], msixPend := 0, disc := {}, recs := [], engs := [], loops := [], spin := {}, dec := {}, encoded := [], mem := {}, lanesC := [], claims := [], cl := {}, port := {}, vault := {}, pwr := {}, dev := {} })
    {s0 s : State} {a0 a1} (h : Kept m s0 s) :
    KeptR m s0 (execGetEventStatusNotification a0 a1 s) := by
  unfold execGetEventStatusNotification
  refine KeptR.next ?_
  refine mmcUsb_kept (sub hm) ?_
  exact h

theorem execReserveTrack_kept {α : Type} {m : State → α} (hm : ∀ u, m u = m { u with regs := [], evq := [], out := [], msixPend := 0, disc := {}, recs := [], engs := [], loops := [], spin := {}, dec := {}, encoded := [], mem := {}, lanesC := [], claims := [], cl := {}, port := {}, vault := {}, pwr := {}, dev := {} })
    {s0 s : State} {a0 a1} (h : Kept m s0 s) :
    KeptR m s0 (execReserveTrack a0 a1 s) := by
  unfold execReserveTrack
  refine KeptR.next ?_
  refine mmcUsb_kept (sub hm) ?_
  exact h

theorem execCloseTrackSession_kept {α : Type} {m : State → α} (hm : ∀ u, m u = m { u with regs := [], evq := [], out := [], msixPend := 0, disc := {}, recs := [], engs := [], loops := [], spin := {}, dec := {}, encoded := [], mem := {}, lanesC := [], claims := [], cl := {}, port := {}, vault := {}, pwr := {}, dev := {} })
    {s0 s : State} {a0 a1} (h : Kept m s0 s) :
    KeptR m s0 (execCloseTrackSession a0 a1 s) := by
  unfold execCloseTrackSession
  refine KeptR.next ?_
  refine mmcUsb_kept (sub hm) ?_
  exact h

theorem execSendOpcInformation_kept {α : Type} {m : State → α} (hm : ∀ u, m u = m { u with regs := [], evq := [], out := [], msixPend := 0, disc := {}, recs := [], engs := [], loops := [], spin := {}, dec := {}, encoded := [], mem := {}, lanesC := [], claims := [], cl := {}, port := {}, vault := {}, pwr := {}, dev := {} })
    {s0 s : State} {a0} (h : Kept m s0 s) :
    KeptR m s0 (execSendOpcInformation a0 s) := by
  unfold execSendOpcInformation
  refine KeptR.next ?_
  refine mmcUsb_kept (sub hm) ?_
  exact h

theorem execModeSelect10_kept {α : Type} {m : State → α} (hm : ∀ u, m u = m { u with regs := [], evq := [], out := [], msixPend := 0, disc := {}, recs := [], engs := [], loops := [], spin := {}, dec := {}, encoded := [], mem := {}, lanesC := [], claims := [], cl := {}, port := {}, vault := {}, pwr := {}, dev := {} })
    {s0 s : State} {a0 a1} (h : Kept m s0 s) :
    KeptR m s0 (execModeSelect10 a0 a1 s) := by
  unfold execModeSelect10
  refine KeptR.next ?_
  refine mmcUsb_kept (sub hm) ?_
  exact h

theorem execModeSense10_kept {α : Type} {m : State → α} (hm : ∀ u, m u = m { u with regs := [], evq := [], out := [], msixPend := 0, disc := {}, recs := [], engs := [], loops := [], spin := {}, dec := {}, encoded := [], mem := {}, lanesC := [], claims := [], cl := {}, port := {}, vault := {}, pwr := {}, dev := {} })
    {s0 s : State} {a0 a1} (h : Kept m s0 s) :
    KeptR m s0 (execModeSense10 a0 a1 s) := by
  unfold execModeSense10
  refine KeptR.next ?_
  refine mmcUsb_kept (sub hm) ?_
  exact h

theorem execReadBufferCapacity_kept {α : Type} {m : State → α} (hm : ∀ u, m u = m { u with regs := [], evq := [], out := [], msixPend := 0, disc := {}, recs := [], engs := [], loops := [], spin := {}, dec := {}, encoded := [], mem := {}, lanesC := [], claims := [], cl := {}, port := {}, vault := {}, pwr := {}, dev := {} })
    {s0 s : State} {a0 a1} (h : Kept m s0 s) :
    KeptR m s0 (execReadBufferCapacity a0 a1 s) := by
  unfold execReadBufferCapacity
  refine KeptR.next ?_
  refine mmcUsb_kept (sub hm) ?_
  exact h

theorem execGetPerformance_kept {α : Type} {m : State → α} (hm : ∀ u, m u = m { u with regs := [], evq := [], out := [], msixPend := 0, disc := {}, recs := [], engs := [], loops := [], spin := {}, dec := {}, encoded := [], mem := {}, lanesC := [], claims := [], cl := {}, port := {}, vault := {}, pwr := {}, dev := {} })
    {s0 s : State} {a0 a1} (h : Kept m s0 s) :
    KeptR m s0 (execGetPerformance a0 a1 s) := by
  unfold execGetPerformance
  refine KeptR.next ?_
  refine mmcUsb_kept (sub hm) ?_
  exact h

theorem execMechanismStatus_kept {α : Type} {m : State → α} (hm : ∀ u, m u = m { u with regs := [], evq := [], out := [], msixPend := 0, disc := {}, recs := [], engs := [], loops := [], spin := {}, dec := {}, encoded := [], mem := {}, lanesC := [], claims := [], cl := {}, port := {}, vault := {}, pwr := {}, dev := {} })
    {s0 s : State} {a0 a1} (h : Kept m s0 s) :
    KeptR m s0 (execMechanismStatus a0 a1 s) := by
  unfold execMechanismStatus
  refine KeptR.next ?_
  refine mmcUsb_kept (sub hm) ?_
  exact h

theorem execReadDiscStructure_kept {α : Type} {m : State → α} (hm : ∀ u, m u = m { u with regs := [], evq := [], out := [], msixPend := 0, disc := {}, recs := [], engs := [], loops := [], spin := {}, dec := {}, encoded := [], mem := {}, lanesC := [], claims := [], cl := {}, port := {}, vault := {}, pwr := {}, dev := {} })
    {s0 s : State} {a0 a1 a2} (h : Kept m s0 s) :
    KeptR m s0 (execReadDiscStructure a0 a1 a2 s) := by
  unfold execReadDiscStructure
  refine KeptR.next ?_
  refine mmcUsb_kept (sub hm) ?_
  exact h

theorem execSetStreaming_kept {α : Type} {m : State → α} (hm : ∀ u, m u = m { u with regs := [], evq := [], out := [], msixPend := 0, disc := {}, recs := [], engs := [], loops := [], spin := {}, dec := {}, encoded := [], mem := {}, lanesC := [], claims := [], cl := {}, port := {}, vault := {}, pwr := {}, dev := {} })
    {s0 s : State} {a0} (h : Kept m s0 s) :
    KeptR m s0 (execSetStreaming a0 s) := by
  unfold execSetStreaming
  refine KeptR.next ?_
  refine mmcUsb_kept (sub hm) ?_
  exact h

theorem execSetCdSpeed_kept {α : Type} {m : State → α} (hm : ∀ u, m u = m { u with regs := [], evq := [], out := [], msixPend := 0, disc := {}, recs := [], engs := [], loops := [], spin := {}, dec := {}, encoded := [], mem := {}, lanesC := [], claims := [], cl := {}, port := {}, vault := {}, pwr := {}, dev := {} })
    {s0 s : State} {a0} (h : Kept m s0 s) :
    KeptR m s0 (execSetCdSpeed a0 s) := by
  unfold execSetCdSpeed
  refine KeptR.next ?_
  refine mmcUsb_kept (sub hm) ?_
  exact h

theorem execReadCd_kept {α : Type} {m : State → α} (hm : ∀ u, m u = m { u with regs := [], evq := [], out := [], msixPend := 0, disc := {}, recs := [], engs := [], loops := [], spin := {}, dec := {}, encoded := [], mem := {}, lanesC := [], claims := [], cl := {}, port := {}, vault := {}, pwr := {}, dev := {} })
    {s0 s : State} {a0 a1} (h : Kept m s0 s) :
    KeptR m s0 (execReadCd a0 a1 s) := by
  unfold execReadCd
  refine KeptR.next ?_
  refine mmcUsb_kept (sub hm) ?_
  exact h

theorem execZvSeal_kept {α : Type} {m : State → α} (hm : ∀ u, m u = m { u with regs := [], evq := [], out := [], msixPend := 0, disc := {}, recs := [], engs := [], loops := [], spin := {}, dec := {}, encoded := [], mem := {}, lanesC := [], claims := [], cl := {}, port := {}, vault := {}, pwr := {}, dev := {} })
    {s0 s : State} {a0 a1} (h : Kept m s0 s) :
    KeptR m s0 (execZvSeal a0 a1 s) := by
  unfold execZvSeal
  refine KeptR.next ?_
  refine mmcUsb_kept (sub hm) ?_
  exact h

theorem execZvDlaState_kept {α : Type} {m : State → α} (hm : ∀ u, m u = m { u with regs := [], evq := [], out := [], msixPend := 0, disc := {}, recs := [], engs := [], loops := [], spin := {}, dec := {}, encoded := [], mem := {}, lanesC := [], claims := [], cl := {}, port := {}, vault := {}, pwr := {}, dev := {} })
    {s0 s : State} {a0} (h : Kept m s0 s) :
    KeptR m s0 (execZvDlaState a0 s) := by
  unfold execZvDlaState
  refine KeptR.next ?_
  refine mmcUsb_kept (sub hm) ?_
  exact h

theorem execZvSetMode_kept {α : Type} {m : State → α} (hm : ∀ u, m u = m { u with regs := [], evq := [], out := [], msixPend := 0, disc := {}, recs := [], engs := [], loops := [], spin := {}, dec := {}, encoded := [], mem := {}, lanesC := [], claims := [], cl := {}, port := {}, vault := {}, pwr := {}, dev := {} })
    {s0 s : State} {a0 a1} (h : Kept m s0 s) :
    KeptR m s0 (execZvSetMode a0 a1 s) := by
  unfold execZvSetMode
  refine KeptR.next ?_
  refine mmcUsb_kept (sub hm) ?_
  exact h

theorem execZvVault_kept {α : Type} {m : State → α} (hm : ∀ u, m u = m { u with regs := [], evq := [], out := [], msixPend := 0, disc := {}, recs := [], engs := [], loops := [], spin := {}, dec := {}, encoded := [], mem := {}, lanesC := [], claims := [], cl := {}, port := {}, vault := {}, pwr := {}, dev := {} })
    {s0 s : State} {a0 a1 a2} (h : Kept m s0 s) :
    KeptR m s0 (execZvVault a0 a1 a2 s) := by
  unfold execZvVault
  refine KeptR.next ?_
  refine mmcUsb_kept (sub hm) ?_
  exact h

theorem execUnsupportedMmcCommand_kept {α : Type} {m : State → α} (hm : ∀ u, m u = m { u with regs := [], evq := [], out := [], msixPend := 0, disc := {}, recs := [], engs := [], loops := [], spin := {}, dec := {}, encoded := [], mem := {}, lanesC := [], claims := [], cl := {}, port := {}, vault := {}, pwr := {}, dev := {} })
    {s0 s : State} {a0 a1} (h : Kept m s0 s) :
    KeptR m s0 (execUnsupportedMmcCommand a0 a1 s) := by
  unfold execUnsupportedMmcCommand
  refine KeptR.next ?_
  refine mmcUsb_kept (sub hm) ?_
  exact h

theorem takeAddress_kept {α : Type} {m : State → α} (hm : ∀ u, m u = m { u with regs := [], evq := [], out := [], msixPend := 0 })
    {s0 s : State} {a0 a1} (h : Kept m s0 s) :
    Kept m s0 (takeAddress a0 a1 s) := by
  unfold takeAddress
  extract_lets +onlyGivenNames x1
  clear_value x1
  refine emit_kept (sub hm) ?_
  refine raise_kept (sub hm) ?_
  refine fset_kept (sub hm) ?_
  refine fset_kept (sub hm) ?_
  exact h

theorem execEntdaa_kept {α : Type} {m : State → α} (hm : ∀ u, m u = m { u with regs := [], evq := [], out := [], msixPend := 0 })
    {s0 s : State} {a0} (h : Kept m s0 s) :
    KeptR m s0 (execEntdaa a0 s) := by
  unfold execEntdaa
  refine ccc_kept ?_ ?_
  · intro y1 y2
    refine ite_kept (P := fun x => Kept m s0 x) ?_ ?_
    · exact y2
    · refine takeAddress_kept (sub hm) ?_
      exact y2
  · exact h

theorem execSetdasa_kept {α : Type} {m : State → α} (hm : ∀ u, m u = m { u with regs := [], evq := [], out := [], msixPend := 0 })
    {s0 s : State} {a0 a1} (h : Kept m s0 s) :
    KeptR m s0 (execSetdasa a0 a1 s) := by
  unfold execSetdasa
  refine ccc_kept ?_ ?_
  · intro y1 y2
    refine ite_kept (P := fun x => Kept m s0 x) ?_ ?_
    · exact y2
    · refine takeAddress_kept (sub hm) ?_
      exact y2
  · exact h

theorem execSetnewda_kept {α : Type} {m : State → α} (hm : ∀ u, m u = m { u with regs := [], evq := [], out := [], msixPend := 0 })
    {s0 s : State} {a0} (h : Kept m s0 s) :
    KeptR m s0 (execSetnewda a0 s) := by
  unfold execSetnewda
  refine ccc_kept ?_ ?_
  · intro y1 y2
    refine ite_kept (P := fun x => Kept m s0 x) ?_ ?_
    · refine takeAddress_kept (sub hm) ?_
      exact y2
    · exact y2
  · exact h

theorem execRstdaa_kept {α : Type} {m : State → α} (hm : ∀ u, m u = m { u with regs := [] })
    {s0 s : State} (h : Kept m s0 s) :
    KeptR m s0 (execRstdaa s) := by
  unfold execRstdaa
  refine ccc_kept ?_ ?_
  · intro y1 y2
    refine fset_kept (sub hm) ?_
    refine fset_kept (sub hm) ?_
    exact y2
  · exact h

theorem setIbi_kept {α : Type} {m : State → α} (hm : ∀ u, m u = m { u with port := {} })
    {s0 s : State} {a0 a1} (h : Kept m s0 s) :
    Kept m s0 (setIbi a0 a1 s) := by
  unfold setIbi
  refine ite_kept (P := fun x => Kept m s0 x) ?_ ?_
  · refine setPorts_kept (sub hm) ?_
    exact h
  · exact h

theorem execEnec_kept {α : Type} {m : State → α} (hm : ∀ u, m u = m { u with port := {} })
    {s0 s : State} {a0} (h : Kept m s0 s) :
    KeptR m s0 (execEnec a0 s) := by
  unfold execEnec
  refine ccc_kept ?_ ?_
  · intro y1 y2
    refine setIbi_kept (sub hm) ?_
    exact y2
  · exact h

theorem execDisec_kept {α : Type} {m : State → α} (hm : ∀ u, m u = m { u with port := {} })
    {s0 s : State} {a0} (h : Kept m s0 s) :
    KeptR m s0 (execDisec a0 s) := by
  unfold execDisec
  refine ccc_kept ?_ ?_
  · intro y1 y2
    refine setIbi_kept (sub hm) ?_
    exact y2
  · exact h

theorem execGetpid_kept {α : Type} {m : State → α} (hm : ∀ u, m u = m { u with out := [] })
    {s0 s : State} (h : Kept m s0 s) :
    KeptR m s0 (execGetpid s) := by
  unfold execGetpid
  refine ccc_kept ?_ ?_
  · intro y1 y2
    refine send_kept (sub hm) ?_
    exact y2
  · exact h

theorem execGetbcr_kept {α : Type} {m : State → α} (hm : ∀ u, m u = m { u with out := [] })
    {s0 s : State} (h : Kept m s0 s) :
    KeptR m s0 (execGetbcr s) := by
  unfold execGetbcr
  refine ccc_kept ?_ ?_
  · intro y1 y2
    refine send_kept (sub hm) ?_
    exact y2
  · exact h

theorem execGetdcr_kept {α : Type} {m : State → α} (hm : ∀ u, m u = m { u with out := [] })
    {s0 s : State} (h : Kept m s0 s) :
    KeptR m s0 (execGetdcr s) := by
  unfold execGetdcr
  refine ccc_kept ?_ ?_
  · intro y1 y2
    refine send_kept (sub hm) ?_
    exact y2
  · exact h

theorem execGetstatus_kept {α : Type} {m : State → α} (hm : ∀ u, m u = m { u with out := [] })
    {s0 s : State} (h : Kept m s0 s) :
    KeptR m s0 (execGetstatus s) := by
  unfold execGetstatus
  refine ccc_kept ?_ ?_
  · intro y1 y2
    refine send_kept (sub hm) ?_
    exact y2
  · exact h

theorem execGetmwl_kept {α : Type} {m : State → α} (hm : ∀ u, m u = m { u with out := [] })
    {s0 s : State} (h : Kept m s0 s) :
    KeptR m s0 (execGetmwl s) := by
  unfold execGetmwl
  refine ccc_kept ?_ ?_
  · intro y1 y2
    refine send_kept (sub hm) ?_
    exact y2
  · exact h

theorem execGetmrl_kept {α : Type} {m : State → α} (hm : ∀ u, m u = m { u with out := [] })
    {s0 s : State} (h : Kept m s0 s) :
    KeptR m s0 (execGetmrl s) := by
  unfold execGetmrl
  refine ccc_kept ?_ ?_
  · intro y1 y2
    refine send_kept (sub hm) ?_
    exact y2
  · exact h

theorem execSetmwl_kept {α : Type} {m : State → α} (hm : ∀ u, m u = m { u with port := {} })
    {s0 s : State} {a0} (h : Kept m s0 s) :
    KeptR m s0 (execSetmwl a0 s) := by
  unfold execSetmwl
  refine ccc_kept ?_ ?_
  · intro y1 y2
    refine setPorts_kept (sub hm) ?_
    exact y2
  · exact h

theorem execSetmrl_kept {α : Type} {m : State → α} (hm : ∀ u, m u = m { u with port := {} })
    {s0 s : State} {a0} (h : Kept m s0 s) :
    KeptR m s0 (execSetmrl a0 s) := by
  unfold execSetmrl
  refine ccc_kept ?_ ?_
  · intro y1 y2
    refine setPorts_kept (sub hm) ?_
    exact y2
  · exact h

theorem execRstact_kept {α : Type} {m : State → α} (hm : ∀ u, m u = m { u with port := {} })
    {s0 s : State} {a0} (h : Kept m s0 s) :
    KeptR m s0 (execRstact a0 s) := by
  unfold execRstact
  refine ccc_kept ?_ ?_
  · intro y1 y2
    refine setPorts_kept (sub hm) ?_
    exact y2
  · exact h

theorem execLibraryPrivateRead_kept {α : Type} {m : State → α} (hm : ∀ u, m u = m { u with out := [], pwr := {} })
    {s0 s : State} (h : Kept m s0 s) :
    KeptR m s0 (execLibraryPrivateRead s) := by
  unfold execLibraryPrivateRead
  refine KeptR.next ?_
  refine ite_kept (P := fun x => Kept m s0 x) ?_ ?_
  · exact h
  · refine ite_kept (P := fun x => Kept m s0 x) ?_ ?_
    · refine send_kept (sub hm) ?_
      refine wakeSeen_kept (sub hm) ?_
      exact h
    · refine send_kept (sub hm) ?_
      refine ite_app_kept (P := fun x => Kept m s0 x) ?_ ?_
      · refine wakeSeen_kept (sub hm) ?_
        exact h
      · refine id_kept (P := fun x => Kept m s0 x) ?_
        exact h

theorem libReply_kept {α : Type} {m : State → α} (hm : ∀ u, m u = m { u with regs := [], out := [], msixPend := 0, port := {} })
    {s0 s : State} {a0 a1} (h : Kept m s0 s) :
    Kept m s0 (libReply a0 a1 s) := by
  unfold libReply
  extract_lets +onlyGivenNames x1
  clear_value x1
  extract_lets +onlyGivenNames x2
  clear_value x2
  extract_lets +onlyGivenNames x3
  have h4 : Kept m s0 x3 := by
    unfold x3
    refine setPorts_kept (sub hm) ?_
    exact h
  clear_value x3
  refine ite_kept (P := fun x => Kept m s0 x) ?_ ?_
  · refine raise_kept (sub hm) ?_
    refine fset_kept (sub hm) ?_
    refine cnt_kept (sub hm) ?_
    exact h4
  · exact h4

theorem libAccess_kept {α : Type} {m : State → α} (hm : ∀ u, m u = m { u with free := 0, regs := [], evq := [], out := [], msix := [], msixPend := 0, msixMask := false, disc := {}, ends := [], lanes := [], links := [], recs := [], engs := [], ustore := [], nstore := [], dmem := [], pgs := [], loops := [], heads := [], spin := {}, sleds := [], chans := [], commons := [], frames := [], blanks := [], dec := {}, encoded := [], opcs := [], betas := [], mem := {}, lanesC := [], claims := [], cl := {}, port := {}, vault := {}, pwr := {}, dev := {}, obs := {} })
    {s0 s : State} {a0 a1} (h : Kept m s0 s) :
    Kept m s0 (libAccess a0 a1 s) := by
  unfold libAccess
  extract_lets +onlyGivenNames x1
  have h2 : Kept m s0 x1.2 := by
    unfold x1
    refine perform32_kept (sub hm) ?_
    exact h
  clear_value x1
  split
  · rename_i v3 v4 v5
    refine libReply_kept (sub hm) ?_
    exact h2
  · rename_i v6 v7
    refine libReply_kept (sub hm) ?_
    exact h2

theorem libSend_kept {α : Type} {m : State → α} (hm : ∀ u, m u = m { u with regs := [], evq := [], out := [], msixPend := 0, claims := [], port := {}, pwr := {} })
    {s0 s : State} {a0 a1} (h : Kept m s0 s) :
    Kept m s0 (libSend a0 a1 s) := by
  unfold libSend
  refine ite_kept (P := fun x => Kept m s0 x) ?_ ?_
  · refine libReply_kept (sub hm) ?_
    exact h
  · refine ite_kept (P := fun x => Kept m s0 x) ?_ ?_
    · refine libReply_kept (sub hm) ?_
      exact h
    · extract_lets +onlyGivenNames x1
      have h2 : Kept m s0 x1 := by
        unfold x1
        refine takeClaim_kept (sub hm) ?_
        exact h
      clear_value x1
      extract_lets +onlyGivenNames x3
      have h4 : Kept m s0 x3 := by
        unfold x3
        refine foldl_kept (P := fun x => Kept m s0 x) ?_ ?_
        · intro y5 y6 y7
          refine mbxData_kept (sub hm) ?_
          exact y7
        · exact h2
      clear_value x3
      refine libReply_kept (sub hm) ?_
      refine gustRing_kept (sub hm) ?_
      exact h4

theorem libRecv_kept {α : Type} {m : State → α} (hm : ∀ u, m u = m { u with regs := [], out := [], msixPend := 0, port := {} })
    {s0 s : State} (h : Kept m s0 s) :
    Kept m s0 (libRecv s) := by
  unfold libRecv
  refine ite_kept (P := fun x => Kept m s0 x) ?_ ?_
  · extract_lets +onlyGivenNames x1
    clear_value x1
    refine libReply_kept (sub hm) ?_
    exact h
  · refine libReply_kept (sub hm) ?_
    exact h

theorem libDo_kept {α : Type} {m : State → α} (hm : ∀ u, m u = m { u with free := 0, regs := [], evq := [], out := [], msix := [], msixPend := 0, msixMask := false, disc := {}, ends := [], lanes := [], links := [], recs := [], engs := [], ustore := [], nstore := [], dmem := [], pgs := [], loops := [], heads := [], spin := {}, sleds := [], chans := [], commons := [], frames := [], blanks := [], dec := {}, encoded := [], opcs := [], betas := [], mem := {}, lanesC := [], claims := [], cl := {}, port := {}, vault := {}, pwr := {}, dev := {}, obs := {} })
    {s0 s : State} {a0} (h : Kept m s0 s) :
    Kept m s0 (libDo a0 s) := by
  unfold libDo
  extract_lets +onlyGivenNames x1
  have h2 : Kept m s0 x1 := by
    unfold x1
    refine cnt_kept (sub hm) ?_
    exact h
  clear_value x1
  split
  · rename_i v3
    refine libReply_kept (sub hm) ?_
    exact h2
  · rename_i v4 v5
    refine libAccess_kept (sub hm) ?_
    exact h2
  · rename_i v6 v7 v8
    refine libAccess_kept (sub hm) ?_
    exact h2
  · rename_i v9 v10 v11
    refine libSend_kept (sub hm) ?_
    exact h2
  · rename_i v12
    refine libRecv_kept (sub hm) ?_
    exact h2
  · rename_i v13
    extract_lets +onlyGivenNames x14
    clear_value x14
    refine libReply_kept (sub hm) ?_
    refine mbxAck_kept (sub hm) ?_
    exact h2
  · rename_i v15 v16 v17
    refine ite_kept (P := fun x => Kept m s0 x) ?_ ?_
    · refine libReply_kept (sub hm) ?_
      exact h2
    · refine askMode_kept (sub hm) ?_
      refine libReply_kept (sub hm) ?_
      exact h2
  · rename_i v18
    refine libReply_kept (sub hm) ?_
    exact h2

theorem libCommand_kept {α : Type} {m : State → α} (hm : ∀ u, m u = m { u with free := 0, regs := [], evq := [], out := [], msix := [], msixPend := 0, msixMask := false, disc := {}, ends := [], lanes := [], links := [], recs := [], engs := [], ustore := [], nstore := [], dmem := [], pgs := [], loops := [], heads := [], spin := {}, sleds := [], chans := [], commons := [], frames := [], blanks := [], dec := {}, encoded := [], opcs := [], betas := [], mem := {}, lanesC := [], claims := [], cl := {}, port := {}, vault := {}, pwr := {}, dev := {}, obs := {} })
    {s0 s : State} {a0} (h : Kept m s0 s) :
    KeptR m s0 (libCommand a0 s) := by
  unfold libCommand
  refine KeptR.next ?_
  refine ite_kept (P := fun x => Kept m s0 x) ?_ ?_
  · exact h
  · refine ite_kept (P := fun x => Kept m s0 x) ?_ ?_
    · refine wakeSeen_kept (sub hm) ?_
      refine setPwr_kept (sub hm) ?_
      exact h
    · refine libDo_kept (sub hm) ?_
      exact h

theorem execReadStatus_kept {α : Type} {m : State → α} (hm : ∀ u, m u = m { u with free := 0, regs := [], evq := [], out := [], msix := [], msixPend := 0, msixMask := false, disc := {}, ends := [], lanes := [], links := [], recs := [], engs := [], ustore := [], nstore := [], dmem := [], pgs := [], loops := [], heads := [], spin := {}, sleds := [], chans := [], commons := [], frames := [], blanks := [], dec := {}, encoded := [], opcs := [], betas := [], mem := {}, lanesC := [], claims := [], cl := {}, port := {}, vault := {}, pwr := {}, dev := {}, obs := {} })
    {s0 s : State} (h : Kept m s0 s) :
    KeptR m s0 (execReadStatus s) := by
  unfold execReadStatus
  refine libCommand_kept (sub hm) ?_
  exact h

theorem execRegRead_kept {α : Type} {m : State → α} (hm : ∀ u, m u = m { u with free := 0, regs := [], evq := [], out := [], msix := [], msixPend := 0, msixMask := false, disc := {}, ends := [], lanes := [], links := [], recs := [], engs := [], ustore := [], nstore := [], dmem := [], pgs := [], loops := [], heads := [], spin := {}, sleds := [], chans := [], commons := [], frames := [], blanks := [], dec := {}, encoded := [], opcs := [], betas := [], mem := {}, lanesC := [], claims := [], cl := {}, port := {}, vault := {}, pwr := {}, dev := {}, obs := {} })
    {s0 s : State} {a0} (h : Kept m s0 s) :
    KeptR m s0 (execRegRead a0 s) := by
  unfold execRegRead
  refine libCommand_kept (sub hm) ?_
  exact h

theorem execRegWrite_kept {α : Type} {m : State → α} (hm : ∀ u, m u = m { u with free := 0, regs := [], evq := [], out := [], msix := [], msixPend := 0, msixMask := false, disc := {}, ends := [], lanes := [], links := [], recs := [], engs := [], ustore := [], nstore := [], dmem := [], pgs := [], loops := [], heads := [], spin := {}, sleds := [], chans := [], commons := [], frames := [], blanks := [], dec := {}, encoded := [], opcs := [], betas := [], mem := {}, lanesC := [], claims := [], cl := {}, port := {}, vault := {}, pwr := {}, dev := {}, obs := {} })
    {s0 s : State} {a0 a1} (h : Kept m s0 s) :
    KeptR m s0 (execRegWrite a0 a1 s) := by
  unfold execRegWrite
  refine libCommand_kept (sub hm) ?_
  exact h

theorem execMbxSend_kept {α : Type} {m : State → α} (hm : ∀ u, m u = m { u with free := 0, regs := [], evq := [], out := [], msix := [], msixPend := 0, msixMask := false, disc := {}, ends := [], lanes := [], links := [], recs := [], engs := [], ustore := [], nstore := [], dmem := [], pgs := [], loops := [], heads := [], spin := {}, sleds := [], chans := [], commons := [], frames := [], blanks := [], dec := {}, encoded := [], opcs := [], betas := [], mem := {}, lanesC := [], claims := [], cl := {}, port := {}, vault := {}, pwr := {}, dev := {}, obs := {} })
    {s0 s : State} {a0 a1} (h : Kept m s0 s) :
    KeptR m s0 (execMbxSend a0 a1 s) := by
  unfold execMbxSend
  refine libCommand_kept (sub hm) ?_
  exact h

theorem execMbxRecv_kept {α : Type} {m : State → α} (hm : ∀ u, m u = m { u with free := 0, regs := [], evq := [], out := [], msix := [], msixPend := 0, msixMask := false, disc := {}, ends := [], lanes := [], links := [], recs := [], engs := [], ustore := [], nstore := [], dmem := [], pgs := [], loops := [], heads := [], spin := {}, sleds := [], chans := [], commons := [], frames := [], blanks := [], dec := {}, encoded := [], opcs := [], betas := [], mem := {}, lanesC := [], claims := [], cl := {}, port := {}, vault := {}, pwr := {}, dev := {}, obs := {} })
    {s0 s : State} (h : Kept m s0 s) :
    KeptR m s0 (execMbxRecv s) := by
  unfold execMbxRecv
  refine libCommand_kept (sub hm) ?_
  exact h

theorem execMbxAck_kept {α : Type} {m : State → α} (hm : ∀ u, m u = m { u with free := 0, regs := [], evq := [], out := [], msix := [], msixPend := 0, msixMask := false, disc := {}, ends := [], lanes := [], links := [], recs := [], engs := [], ustore := [], nstore := [], dmem := [], pgs := [], loops := [], heads := [], spin := {}, sleds := [], chans := [], commons := [], frames := [], blanks := [], dec := {}, encoded := [], opcs := [], betas := [], mem := {}, lanesC := [], claims := [], cl := {}, port := {}, vault := {}, pwr := {}, dev := {}, obs := {} })
    {s0 s : State} (h : Kept m s0 s) :
    KeptR m s0 (execMbxAck s) := by
  unfold execMbxAck
  refine libCommand_kept (sub hm) ?_
  exact h

theorem execModeReq_kept {α : Type} {m : State → α} (hm : ∀ u, m u = m { u with free := 0, regs := [], evq := [], out := [], msix := [], msixPend := 0, msixMask := false, disc := {}, ends := [], lanes := [], links := [], recs := [], engs := [], ustore := [], nstore := [], dmem := [], pgs := [], loops := [], heads := [], spin := {}, sleds := [], chans := [], commons := [], frames := [], blanks := [], dec := {}, encoded := [], opcs := [], betas := [], mem := {}, lanesC := [], claims := [], cl := {}, port := {}, vault := {}, pwr := {}, dev := {}, obs := {} })
    {s0 s : State} {a0 a1} (h : Kept m s0 s) :
    KeptR m s0 (execModeReq a0 a1 s) := by
  unfold execModeReq
  refine libCommand_kept (sub hm) ?_
  exact h

theorem ibiRequest_kept {α : Type} {m : State → α} (hm : ∀ u, m u = m { u with regs := [], out := [], msixPend := 0, port := {} })
    {s0 s : State} {a0} (h : Kept m s0 s) :
    Kept m s0 (ibiRequest a0 s) := by
  unfold ibiRequest
  refine ite_kept (P := fun x => Kept m s0 x) ?_ ?_
  · refine raise_kept (sub hm) ?_
    refine setPorts_kept (sub hm) ?_
    exact h
  · refine send_kept (sub hm) ?_
    refine setPorts_kept (sub hm) ?_
    exact h

theorem execInBandInterrupt_kept {α : Type} {m : State → α} (hm : ∀ u, m u = m { u with regs := [], out := [], msixPend := 0, port := {} })
    {s0 s : State} {a0} (h : Kept m s0 s) :
    KeptR m s0 (execInBandInterrupt a0 s) := by
  unfold execInBandInterrupt
  refine KeptR.next ?_
  refine ite_kept (P := fun x => Kept m s0 x) ?_ ?_
  · refine ibiRequest_kept (sub hm) ?_
    exact h
  · exact h

theorem execIbiRetry_kept {α : Type} {m : State → α} (hm : ∀ u, m u = m { u with regs := [], out := [], msixPend := 0, port := {} })
    {s0 s : State} {a0} (h : Kept m s0 s) :
    KeptR m s0 (execIbiRetry a0 s) := by
  unfold execIbiRetry
  refine KeptR.next ?_
  refine ite_kept (P := fun x => Kept m s0 x) ?_ ?_
  · refine ibiRequest_kept (sub hm) ?_
    exact h
  · exact h

theorem execClampReqAsserted_kept {α : Type} {m : State → α} (hm : ∀ u, m u = m { u with regs := [], evq := [], out := [], msixPend := 0, cl := {}, port := {}, pwr := {}, dev := {} })
    {s0 s : State} (h : Kept m s0 s) :
    KeptR m s0 (execClampReqAsserted s) := by
  unfold execClampReqAsserted
  extract_lets +onlyGivenNames x1
  clear_value x1
  extract_lets +onlyGivenNames x2
  have h3 : Kept m s0 x2 := by
    unfold x2
    refine wakeSeen_kept (sub hm) ?_
    refine fset_kept (sub hm) ?_
    exact h
  clear_value x2
  refine KeptR.next ?_
  refine ite_kept (P := fun x => Kept m s0 x) ?_ ?_
  · exact h3
  · extract_lets +onlyGivenNames x4
    clear_value x4
    refine mediaEvent_kept (sub hm) ?_
    refine emit_kept (sub hm) ?_
    refine raise_kept (sub hm) ?_
    refine dropTest_kept (sub hm) ?_
    beta_reduce
    refine setDev_kept (sub hm) ?_
    refine setPorts_kept (sub hm) ?_
    exact h3

theorem unloadStart_kept {α : Type} {m : State → α} (hm : ∀ u, m u = m { u with regs := [], evq := [], out := [], msixPend := 0, disc := {}, ends := [], engs := [], loops := [], spin := {}, blanks := [], encoded := [], cl := {}, port := {}, vault := {}, dev := {} })
    {s0 s : State} {a0} (h : Kept m s0 s) :
    Kept m s0 (unloadStart a0 s) := by
  unfold unloadStart
  refine ite_kept (P := fun x => Kept m s0 x) ?_ ?_
  · exact h
  · extract_lets +onlyGivenNames x1
    have h2 : Kept m s0 x1 := by
      unfold x1
      refine ite_kept (P := fun x => Kept m s0 x) ?_ ?_
      · refine unmountNow_kept (sub hm) ?_
        exact h
      · exact h
    clear_value x1
    beta_reduce
    refine setPorts_kept (sub hm) ?_
    refine towardsSafe_kept (sub hm) ?_
    refine setDev_kept (sub hm) ?_
    exact h2

theorem unloadGo_kept {α : Type} {m : State → α} (hm : ∀ u, m u = m { u with regs := [], evq := [], out := [], msixPend := 0, engs := [], loops := [], spin := {}, cl := {}, port := {}, dev := {} })
    {s0 s : State} {a0} (h : Kept m s0 s) :
    Kept m s0 (unloadGo a0 s) := by
  unfold unloadGo
  refine ite_kept (P := fun x => Kept m s0 x) ?_ ?_
  · extract_lets +onlyGivenNames x1
    clear_value x1
    extract_lets +onlyGivenNames x2
    clear_value x2
    extract_lets +onlyGivenNames x3
    have h4 : Kept m s0 x3 := by
      unfold x3
      refine setPorts_kept (sub hm) ?_
      exact h
    clear_value x3
    extract_lets +onlyGivenNames x5
    have h6 : Kept m s0 x5 := by
      unfold x5
      refine foldl_kept (P := fun x => Kept m s0 x) ?_ ?_
      · intro y7 y8 y9
        refine portEnd_kept (sub hm) ?_
        exact y9
      · exact h4
    clear_value x5
    refine ite_kept (P := fun x => Kept m s0 x) ?_ ?_
    · refine autoMount_kept (sub hm) ?_
      refine setDev_kept (sub hm) ?_
      exact h6
    · exact h6
  · extract_lets +onlyGivenNames x10
    clear_value x10
    refine setPorts_kept (sub hm) ?_
    exact h

theorem execUnload_kept {α : Type} {m : State → α} (hm : ∀ u, m u = m { u with regs := [], evq := [], out := [], msixPend := 0, disc := {}, ends := [], engs := [], loops := [], spin := {}, blanks := [], encoded := [], cl := {}, port := {}, vault := {}, dev := {} })
    {s0 s : State} (h : Kept m s0 s) :
    KeptR m s0 (execUnload s) := by
  unfold execUnload
  refine KeptR.next ?_
  split
  · rename_i v1 v2
    exact h
  · rename_i v3 v4 v5
    extract_lets +onlyGivenNames x6
    have h7 : Kept m s0 x6 := by
      unfold x6
      refine ite_kept (P := fun x => Kept m s0 x) ?_ ?_
      · refine unloadStart_kept (sub hm) ?_
        exact h
      · exact h
    clear_value x6
    split
    · rename_i v8 v9 v10
      refine ite_kept (P := fun x => Kept m s0 x) ?_ ?_
      · refine unloadGo_kept (sub hm) ?_
        exact h7
      · exact h7
    · rename_i v11 v12
      exact h7

theorem execClampReqReleased_kept {α : Type} {m : State → α} (hm : ∀ u, m u = m { u with regs := [], evq := [], out := [], msixPend := 0, engs := [], loops := [], spin := {}, cl := {}, port := {}, pwr := {}, dev := {} })
    {s0 s : State} (h : Kept m s0 s) :
    KeptR m s0 (execClampReqReleased s) := by
  unfold execClampReqReleased
  extract_lets +onlyGivenNames x1
  clear_value x1
  extract_lets +onlyGivenNames x2
  have h3 : Kept m s0 x2 := by
    unfold x2
    refine wakeSeen_kept (sub hm) ?_
    refine fset_kept (sub hm) ?_
    exact h
  clear_value x2
  extract_lets +onlyGivenNames x4
  have h5 : Kept m s0 x4 := by
    unfold x4
    refine ite_kept (P := fun x => Kept m s0 x) ?_ ?_
    · refine emit_kept (sub hm) ?_
      refine raise_kept (sub hm) ?_
      exact h3
    · exact h3
  clear_value x4
  refine KeptR.next ?_
  split
  · rename_i v6 v7 v8
    refine ite_kept (P := fun x => Kept m s0 x) ?_ ?_
    · exact h5
    · refine ite_kept (P := fun x => Kept m s0 x) ?_ ?_
      · refine setPorts_kept (sub hm) ?_
        exact h5
      · refine setDev_kept (sub hm) ?_
        exact h5
  · rename_i v9 v10
    refine autoMount_kept (sub hm) ?_
    exact h5

end Sys2Proof.Machine
end

