-- ==== Sys2Proof/Laws/KeptH.lean ====
section
/-!
SUPPORT. What the operations change and what they keep, part H.
-/
set_option Elab.async false

namespace Sys2Proof.Machine

theorem execUnloadLate_kept {α : Type} {m : State → α} (hm : ∀ u, m u = m { u with regs := [], evq := [], out := [], msixPend := 0 })
    {s0 s : State} (h : Kept m s0 s) :
    KeptR m s0 (execUnloadLate s) := by
  unfold execUnloadLate
  extract_lets +onlyGivenNames x1
  clear_value x1
  refine KeptR.next ?_
  split
  · rename_i v2 v3 v4
    refine emit_kept (sub hm) ?_
    refine raise_kept (sub hm) ?_
    exact h
  · rename_i v5 v6
    exact h

theorem execDiscLost_kept {α : Type} {m : State → α} (hm : ∀ u, m u = m { u with regs := [], evq := [], out := [], msixPend := 0, disc := {}, ends := [], links := [], recs := [], spin := {}, blanks := [], encoded := [], cl := {}, port := {}, vault := {}, pwr := {}, dev := {} })
    {s0 s : State} (h : Kept m s0 s) :
    KeptR m s0 (execDiscLost s) := by
  unfold execDiscLost
  extract_lets +onlyGivenNames x1
  clear_value x1
  refine ite_kept (P := fun x => KeptR m s0 x) ?_ ?_
  · refine KeptR.next ?_
    exact h
  · extract_lets +onlyGivenNames x2
    clear_value x2
    extract_lets +onlyGivenNames x3
    clear_value x3
    extract_lets +onlyGivenNames x4
    have h5 : Kept m s0 x4 := by
      unfold x4
      refine endDiscCmds_kept (sub hm) ?_
      refine stopSpin_kept (sub hm) ?_
      refine tripBoth_kept (sub hm) ?_
      refine wakeSeen_kept (sub hm) ?_
      refine fset_kept (sub hm) ?_
      exact h
    clear_value x4
    extract_lets +onlyGivenNames x6
    have h7 : Kept m s0 x6 := by
      unfold x6
      refine ite_kept (P := fun x => Kept m s0 x) ?_ ?_
      · refine dismount_kept (sub hm) ?_
        refine zeroiseKey_kept (sub hm) ?_
        exact h5
      · exact h5
    clear_value x6
    refine KeptR.next ?_
    refine mediaEvent_kept (sub hm) ?_
    refine emit_kept (sub hm) ?_
    refine raise_kept (sub hm) ?_
    beta_reduce
    refine setDev_kept (sub hm) ?_
    exact h7

theorem execDiscPresAsserted_kept {α : Type} {m : State → α} (hm : ∀ u, m u = m { u with regs := [], evq := [], out := [], msixPend := 0, engs := [], loops := [], spin := {}, cl := {}, port := {}, pwr := {}, dev := {} })
    {s0 s : State} (h : Kept m s0 s) :
    KeptR m s0 (execDiscPresAsserted s) := by
  unfold execDiscPresAsserted
  extract_lets +onlyGivenNames x1
  clear_value x1
  refine KeptR.next ?_
  refine autoMount_kept (sub hm) ?_
  refine wakeSeen_kept (sub hm) ?_
  refine raise_kept (sub hm) ?_
  refine fset_kept (sub hm) ?_
  exact h

theorem execGust_kept {α : Type} {m : State → α} (hm : ∀ u, m u = m { u with regs := [], evq := [], out := [], msixPend := 0, port := {}, pwr := {} })
    {s0 s : State} {a0 a1 a2} (h : Kept m s0 s) :
    KeptR m s0 (execGust a0 a1 a2 s) := by
  unfold execGust
  refine KeptR.next ?_
  refine gustWrite_kept (sub hm) ?_
  exact h

theorem execMailboxAck_kept {α : Type} {m : State → α} (hm : ∀ u, m u = m { u with regs := [], out := [], msixPend := 0, claims := [], port := {} })
    {s0 s : State} {a0 a1} (h : Kept m s0 s) :
    KeptR m s0 (execMailboxAck a0 a1 s) := by
  unfold execMailboxAck
  refine KeptR.next ?_
  refine mbxAck_kept (sub hm) ?_
  exact h

theorem execWithdraw_kept {α : Type} {m : State → α} (hm : ∀ u, m u = m { u with regs := [], claims := [], port := {} })
    {s0 s : State} {a0} (h : Kept m s0 s) :
    KeptR m s0 (execWithdraw a0 s) := by
  unfold execWithdraw
  refine KeptR.next ?_
  refine mbxWithdraw_kept (sub hm) ?_
  exact h

theorem execMbxClaim_kept {α : Type} {m : State → α} (hm : ∀ u, m u = m { u with out := [], claims := [] })
    {s0 s : State} {a0 a1} (h : Kept m s0 s) :
    KeptR m s0 (execMbxClaim a0 a1 s) := by
  unfold execMbxClaim
  refine KeptR.next ?_
  refine claimReads_kept (sub hm) ?_
  exact h

theorem execMailboxDataWrite_kept {α : Type} {m : State → α} (hm : ∀ u, m u = m { u with regs := [], evq := [], port := {} })
    {s0 s : State} {a0 a1 a2 a3} (h : Kept m s0 s) :
    KeptR m s0 (execMailboxDataWrite a0 a1 a2 a3 s) := by
  unfold execMailboxDataWrite
  refine KeptR.next ?_
  refine mbxData_kept (sub hm) ?_
  exact h

theorem execAckTimeout_kept {α : Type} {m : State → α} (hm : ∀ u, m u = m { u with regs := [], evq := [], out := [], msixPend := 0, port := {} })
    {s0 s : State} {a0} (h : Kept m s0 s) :
    KeptR m s0 (execAckTimeout a0 s) := by
  unfold execAckTimeout
  extract_lets +onlyGivenNames x1
  clear_value x1
  refine KeptR.next ?_
  refine ite_kept (P := fun x => Kept m s0 x) ?_ ?_
  · exact h
  · refine emit_kept (sub hm) ?_
    refine cnt_kept (sub hm) ?_
    refine raise_kept (sub hm) ?_
    refine setPorts_kept (sub hm) ?_
    exact h

theorem execVlqClaim_kept {α : Type} {m : State → α} (hm : ∀ u, m u = m { u with out := [], claims := [] })
    {s0 s : State} {a0} (h : Kept m s0 s) :
    KeptR m s0 (execVlqClaim a0 s) := by
  unfold execVlqClaim
  refine KeptR.next ?_
  refine claimReads_kept (sub hm) ?_
  exact h

theorem vlqRead_kept {α : Type} {m : State → α} (hm : ∀ u, m u = m { u with regs := [], out := [] })
    {s0 s : State} {a0 a1 a2 a3} (h : Kept m s0 s) :
    Kept m s0 (vlqRead a0 a1 a2 a3 s) := by
  unfold vlqRead
  extract_lets +onlyGivenNames x1
  clear_value x1
  refine bumpIdx_kept (sub hm) ?_
  refine send_kept (sub hm) ?_
  refine ite_app_kept (P := fun x => Kept m s0 x) ?_ ?_
  · refine sticky_kept (sub hm) ?_
    exact h
  · refine id_kept (P := fun x => Kept m s0 x) ?_
    exact h

theorem execVlqIndexAccess_kept {α : Type} {m : State → α} (hm : ∀ u, m u = m { u with regs := [], out := [], vault := {} })
    {s0 s : State} {a0 a1} (h : Kept m s0 s) :
    KeptR m s0 (execVlqIndexAccess a0 a1 s) := by
  unfold execVlqIndexAccess
  split
  · rename_i v1
    refine KeptR.next ?_
    refine vlqRead_kept (sub hm) ?_
    exact h
  · rename_i v2
    refine KeptR.next ?_
    refine vlqRead_kept (sub hm) ?_
    exact h
  · rename_i v3 v4
    refine ite_kept (P := fun x => KeptR m s0 x) ?_ ?_
    · refine KeptR.next ?_
      refine sticky_kept (sub hm) ?_
      exact h
    · refine ite_kept (P := fun x => KeptR m s0 x) ?_ ?_
      · refine KeptR.next ?_
        exact h
      · extract_lets +onlyGivenNames x5
        clear_value x5
        refine KeptR.next ?_
        refine bumpIdx_kept (sub hm) ?_
        refine ite_kept (P := fun x => Kept m s0 x) ?_ ?_
        · refine sticky_kept (sub hm) ?_
          exact h
        · refine setVault_kept (sub hm) ?_
          exact h

theorem execVaultRequestCopy_kept {α : Type} {m : State → α} (hm : ∀ u, m u = m { u with vault := {} })
    {s0 s : State} (h : Kept m s0 s) :
    KeptR m s0 (execVaultRequestCopy s) := by
  unfold execVaultRequestCopy
  split
  · rename_i v1 v2 v3
    refine ite_kept (P := fun x => KeptR m s0 x) ?_ ?_
    · refine KeptR.next ?_
      exact h
    · extract_lets +onlyGivenNames x4
      clear_value x4
      refine KeptR.next ?_
      refine setVault_kept (sub hm) ?_
      exact h
  · rename_i v5 v6
    refine KeptR.next ?_
    exact h

theorem opGetInfo_kept {α : Type} {m : State → α}
    {s0 s : State} {a0 a1} (h : Kept m s0 s) :
    Kept m s0 (opGetInfo a0 a1 s).2.2 := by
  unfold opGetInfo
  refine ite_kept (P := fun (x : _ × _ × _) => Kept m s0 x.2.2) ?_ ?_
  · refine refuse_kept ?_
    exact h
  · refine snd_kept (P := fun (x : _ × _) => Kept m s0 x.2) ?_
    refine snd_kept (P := fun x => Kept m s0 x) ?_
    exact h

theorem opGetNonce_kept {α : Type} {m : State → α} (hm : ∀ u, m u = m { u with free := 0, regs := [], evq := [], vault := {} })
    {s0 s : State} {a0 a1 a2} (h : Kept m s0 s) :
    Kept m s0 (opGetNonce a0 a1 a2 s).2.2 := by
  unfold opGetNonce
  refine ite_kept (P := fun (x : _ × _ × _) => Kept m s0 x.2.2) ?_ ?_
  · refine refuse_kept ?_
    exact h
  · split
    · rename_i v1 v2
      refine entropyFault_kept (sub hm) ?_
      exact h
    · rename_i v3
      extract_lets +onlyGivenNames x4
      clear_value x4
      refine snd_kept (P := fun (x : _ × _) => Kept m s0 x.2) ?_
      refine snd_kept (P := fun x => Kept m s0 x) ?_
      refine Kept.freed hm ?_
      exact h

theorem opGetIdentity_kept {α : Type} {m : State → α} (hm : ∀ u, m u = m { u with free := 0 })
    {s0 s : State} {a0 a1} (h : Kept m s0 s) :
    Kept m s0 (opGetIdentity a0 a1 s).2.2 := by
  unfold opGetIdentity
  refine ite_kept (P := fun (x : _ × _ × _) => Kept m s0 x.2.2) ?_ ?_
  · refine refuse_kept ?_
    exact h
  · extract_lets +onlyGivenNames x1
    clear_value x1
    refine snd_kept (P := fun (x : _ × _) => Kept m s0 x.2) ?_
    refine snd_kept (P := fun x => Kept m s0 x) ?_
    refine Kept.freed hm ?_
    exact h

theorem opGetCert_kept {α : Type} {m : State → α}
    {s0 s : State} {a0 a1} (h : Kept m s0 s) :
    Kept m s0 (opGetCert a0 a1 s).2.2 := by
  unfold opGetCert
  refine ite_kept (P := fun (x : _ × _ × _) => Kept m s0 x.2.2) ?_ ?_
  · refine refuse_kept ?_
    exact h
  · refine snd_kept (P := fun (x : _ × _) => Kept m s0 x.2) ?_
    refine snd_kept (P := fun x => Kept m s0 x) ?_
    exact h

theorem opQuote_kept {α : Type} {m : State → α} (hm : ∀ u, m u = m { u with free := 0, evq := [] })
    {s0 s : State} {a0 a1} (h : Kept m s0 s) :
    Kept m s0 (opQuote a0 a1 s).2.2 := by
  unfold opQuote
  refine ite_kept (P := fun (x : _ × _ × _) => Kept m s0 x.2.2) ?_ ?_
  · refine refuse_kept ?_
    exact h
  · extract_lets +onlyGivenNames x1
    clear_value x1
    refine snd_kept (P := fun (x : _ × _) => Kept m s0 x.2) ?_
    refine snd_kept (P := fun x => Kept m s0 x) ?_
    refine emit_kept (sub hm) ?_
    refine Kept.freed hm ?_
    exact h

theorem storeFault_kept {α : Type} {m : State → α} (hm : ∀ u, m u = m { u with regs := [] })
    {s0 s : State} (h : Kept m s0 s) :
    Kept m s0 (storeFault s).2.2 := by
  unfold storeFault
  refine snd_kept (P := fun (x : _ × _) => Kept m s0 x.2) ?_
  refine snd_kept (P := fun x => Kept m s0 x) ?_
  refine fault_kept (sub hm) ?_
  exact h

theorem setOtp_kept {α : Type} {m : State → α} (hm : ∀ u, m u = m { u with otp := {} })
    {s0 s : State} {a0} (ha : OtpGrows s.otp a0) (h : Kept m s0 s) :
    Kept m s0 (setOtp a0 s) :=
  h.trans ⟨view_eq hm, rfl, List.prefix_refl _, le_refl _, ha, id⟩

theorem writeStore_kept {α : Type} {m : State → α} (hm : ∀ u, m u = m { u with otp := {} })
    {s0 s : State} (h : Kept m s0 s) :
    Kept m s0 (writeStore s) := by
  unfold writeStore
  split
  · rename_i v1 v2 v3 v4
    extract_lets +onlyGivenNames x5
    clear_value x5
    refine setOtp_kept (sub hm) ⟨List.prefix_refl _, le_refl _, le_refl _⟩ ?_
    exact h

theorem newOwner_kept {α : Type} {m : State → α} (hm : ∀ u, m u = m { u with regs := [], vault := {}, otp := {} })
    {s0 s : State} {a0} (h : Kept m s0 s) :
    Kept m s0 (newOwner a0 s) := by
  unfold newOwner
  refine showVault_kept (sub hm) ?_
  refine writeStore_kept (sub hm) ?_
  refine setVault_kept (sub hm) ?_
  exact h

theorem programOwner_kept {α : Type} {m : State → α} (hm : ∀ u, m u = m { u with otp := {} })
    {s0 s : State} {a0 a1} (h : Kept m s0 s) :
    Kept m s0 (programOwner a0 a1 s) := by
  unfold programOwner
  refine setOtp_kept (sub hm) ⟨List.prefix_append _ _, le_refl _, le_refl _⟩ ?_
  exact h

theorem opClaim_kept {α : Type} {m : State → α} (hm : ∀ u, m u = m { u with regs := [], evq := [], vault := {}, otp := {} })
    {s0 s : State} {a0 a1 a2} (h : Kept m s0 s) :
    Kept m s0 (opClaim a0 a1 a2 s).2.2 := by
  unfold opClaim
  extract_lets +onlyGivenNames x1
  clear_value x1
  refine ite_kept (P := fun (x : _ × _ × _) => Kept m s0 x.2.2) ?_ ?_
  · refine refuse_kept ?_
    exact h
  · refine ite_kept (P := fun (x : _ × _ × _) => Kept m s0 x.2.2) ?_ ?_
    · refine refuse_kept ?_
      exact h
    · refine ite_kept (P := fun (x : _ × _ × _) => Kept m s0 x.2.2) ?_ ?_
      · refine refuse_kept ?_
        exact h
      · refine ite_kept (P := fun (x : _ × _ × _) => Kept m s0 x.2.2) ?_ ?_
        · refine refuse_kept ?_
          exact h
        · refine ite_kept (P := fun (x : _ × _ × _) => Kept m s0 x.2.2) ?_ ?_
          · refine refuse_kept ?_
            exact h
          · refine ite_kept (P := fun (x : _ × _ × _) => Kept m s0 x.2.2) ?_ ?_
            · refine storeFault_kept (sub hm) ?_
              exact h
            · refine snd_kept (P := fun (x : _ × _) => Kept m s0 x.2) ?_
              refine snd_kept (P := fun x => Kept m s0 x) ?_
              beta_reduce
              refine emit_kept (sub hm) ?_
              refine newOwner_kept (sub hm) ?_
              refine programOwner_kept (sub hm) ?_
              exact h

theorem opTransfer_kept {α : Type} {m : State → α} (hm : ∀ u, m u = m { u with regs := [], evq := [], vault := {}, otp := {} })
    {s0 s : State} {a0 a1 a2} (h : Kept m s0 s) :
    Kept m s0 (opTransfer a0 a1 a2 s).2.2 := by
  unfold opTransfer
  extract_lets +onlyGivenNames x1
  clear_value x1
  extract_lets +onlyGivenNames x2
  clear_value x2
  refine ite_kept (P := fun (x : _ × _ × _) => Kept m s0 x.2.2) ?_ ?_
  · refine refuse_kept ?_
    exact h
  · refine ite_kept (P := fun (x : _ × _ × _) => Kept m s0 x.2.2) ?_ ?_
    · refine refuse_kept ?_
      exact h
    · refine ite_kept (P := fun (x : _ × _ × _) => Kept m s0 x.2.2) ?_ ?_
      · refine storeFault_kept (sub hm) ?_
        exact h
      · refine snd_kept (P := fun (x : _ × _) => Kept m s0 x.2) ?_
        refine snd_kept (P := fun x => Kept m s0 x) ?_
        beta_reduce
        refine emit_kept (sub hm) ?_
        refine newOwner_kept (sub hm) ?_
        refine programOwner_kept (sub hm) ?_
        exact h

theorem policyKey_kept {α : Type} {m : State → α} (hm : ∀ u, m u = m { u with regs := [], evq := [], out := [], msixPend := 0, vault := {} })
    {s0 s : State} (h : Kept m s0 s) :
    Kept m s0 (policyKey s) := by
  unfold policyKey
  split
  · rename_i v1 v2
    exact h
  · rename_i v3 v4 v5
    extract_lets +onlyGivenNames x6
    clear_value x6
    refine ite_kept (P := fun x => Kept m s0 x) ?_ ?_
    · refine fset_kept (sub hm) ?_
      refine zeroiseKey_kept (sub hm) ?_
      exact h
    · exact h

theorem opSetPolicy_kept {α : Type} {m : State → α} (hm : ∀ u, m u = m { u with regs := [], evq := [], out := [], msixPend := 0, vault := {}, otp := {} })
    {s0 s : State} {a0 a1 a2} (h : Kept m s0 s) :
    Kept m s0 (opSetPolicy a0 a1 a2 s).2.2 := by
  unfold opSetPolicy
  extract_lets +onlyGivenNames x1
  clear_value x1
  extract_lets +onlyGivenNames x2
  clear_value x2
  extract_lets +onlyGivenNames x3
  clear_value x3
  extract_lets +onlyGivenNames x4
  clear_value x4
  refine ite_kept (P := fun (x : _ × _ × _) => Kept m s0 x.2.2) ?_ ?_
  · refine refuse_kept ?_
    exact h
  · split
    · rename_i v5 v6
      refine refuse_kept ?_
      exact h
    · rename_i v7 v8 v9
      refine ite_kept (P := fun (x : _ × _ × _) => Kept m s0 x.2.2) ?_ ?_
      · refine refuse_kept ?_
        exact h
      · refine ite_kept (P := fun (x : _ × _ × _) => Kept m s0 x.2.2) ?_ ?_
        · refine storeFault_kept (sub hm) ?_
          exact h
        · refine snd_kept (P := fun (x : _ × _) => Kept m s0 x.2) ?_
          refine snd_kept (P := fun x => Kept m s0 x) ?_
          refine emit_kept (sub hm) ?_
          refine policyKey_kept (sub hm) ?_
          refine measure_kept (sub hm) ?_
          refine showVault_kept (sub hm) ?_
          refine writeStore_kept (sub hm) ?_
          refine setVault_kept (sub hm) ?_
          exact h

theorem opCommitPolicy_kept {α : Type} {m : State → α} (hm : ∀ u, m u = m { u with regs := [], evq := [], otp := {} })
    {s0 s : State} {a0 a1} (h : Kept m s0 s) :
    Kept m s0 (opCommitPolicy a0 a1 s).2.2 := by
  unfold opCommitPolicy
  extract_lets +onlyGivenNames x1
  clear_value x1
  extract_lets +onlyGivenNames x2
  clear_value x2
  refine ite_kept (P := fun (x : _ × _ × _) => Kept m s0 x.2.2) ?_ ?_
  · refine refuse_kept ?_
    exact h
  · refine ite_kept (P := fun (x : _ × _ × _) => Kept m s0 x.2.2) ?_ ?_
    · refine refuse_kept ?_
      exact h
    · refine ite_kept (P := fun (x : _ × _ × _) => Kept m s0 x.2.2) ?_ ?_
      · refine refuse_kept ?_
        exact h
      · refine snd_kept (P := fun (x : _ × _) => Kept m s0 x.2) ?_
        refine snd_kept (P := fun x => Kept m s0 x) ?_
        beta_reduce
        refine emit_kept (sub hm) ?_
        refine fset_kept (sub hm) ?_
        refine setOtp_kept (sub hm) ⟨List.prefix_refl _, le_refl _, le_max_left _ _⟩ ?_
        exact h

theorem opImportWrapKey_kept {α : Type} {m : State → α} (hm : ∀ u, m u = m { u with regs := [], evq := [], vault := {}, otp := {} })
    {s0 s : State} {a0 a1 a2} (h : Kept m s0 s) :
    Kept m s0 (opImportWrapKey a0 a1 a2 s).2.2 := by
  unfold opImportWrapKey
  extract_lets +onlyGivenNames x1
  clear_value x1
  extract_lets +onlyGivenNames x2
  clear_value x2
  extract_lets +onlyGivenNames x3
  clear_value x3
  extract_lets +onlyGivenNames x4
  clear_value x4
  extract_lets +onlyGivenNames x5
  clear_value x5
  extract_lets +onlyGivenNames x6
  clear_value x6
  refine ite_kept (P := fun (x : _ × _ × _) => Kept m s0 x.2.2) ?_ ?_
  · refine refuse_kept ?_
    exact h
  · refine ite_kept (P := fun (x : _ × _ × _) => Kept m s0 x.2.2) ?_ ?_
    · refine refuse_kept ?_
      exact h
    · split
      · rename_i v7 v8
        refine refuse_kept ?_
        exact h
      · rename_i v9 v10 v11
        refine ite_kept (P := fun (x : _ × _ × _) => Kept m s0 x.2.2) ?_ ?_
        · refine refuse_kept ?_
          exact h
        · refine ite_kept (P := fun (x : _ × _ × _) => Kept m s0 x.2.2) ?_ ?_
          · refine storeFault_kept (sub hm) ?_
            exact h
          · refine snd_kept (P := fun (x : _ × _) => Kept m s0 x.2) ?_
            refine snd_kept (P := fun x => Kept m s0 x) ?_
            refine emit_kept (sub hm) ?_
            refine showVault_kept (sub hm) ?_
            refine writeStore_kept (sub hm) ?_
            refine setVault_kept (sub hm) ?_
            exact h

theorem opPrepare_kept {α : Type} {m : State → α} (hm : ∀ u, m u = m { u with vault := {} })
    {s0 s : State} {a0 a1} (h : Kept m s0 s) :
    Kept m s0 (opPrepare a0 a1 s).2.2 := by
  unfold opPrepare
  extract_lets +onlyGivenNames x1
  clear_value x1
  refine ite_kept (P := fun (x : _ × _ × _) => Kept m s0 x.2.2) ?_ ?_
  · refine refuse_kept ?_
    exact h
  · refine ite_kept (P := fun (x : _ × _ × _) => Kept m s0 x.2.2) ?_ ?_
    · refine refuse_kept ?_
      exact h
    · refine ite_kept (P := fun (x : _ × _ × _) => Kept m s0 x.2.2) ?_ ?_
      · refine refuse_kept ?_
        exact h
      · refine snd_kept (P := fun (x : _ × _) => Kept m s0 x.2) ?_
        refine snd_kept (P := fun x => Kept m s0 x) ?_
        refine setVault_kept (sub hm) ?_
        exact h

theorem opDiscUnlock_kept {α : Type} {m : State → α} (hm : ∀ u, m u = m { u with regs := [], evq := [], vault := {} })
    {s0 s : State} {a0 a1} (h : Kept m s0 s) :
    Kept m s0 (opDiscUnlock a0 a1 s).2.2 := by
  unfold opDiscUnlock
  extract_lets +onlyGivenNames x1
  clear_value x1
  refine ite_kept (P := fun (x : _ × _ × _) => Kept m s0 x.2.2) ?_ ?_
  · refine refuse_kept ?_
    exact h
  · split
    · rename_i v2 v3
      refine refuse_kept ?_
      exact h
    · rename_i v4 v5 v6
      refine ite_kept (P := fun (x : _ × _ × _) => Kept m s0 x.2.2) ?_ ?_
      · refine refuse_kept ?_
        exact h
      · split
        · rename_i v7 v8 v9
          refine snd_kept (P := fun (x : _ × _) => Kept m s0 x.2) ?_
          refine snd_kept (P := fun x => Kept m s0 x) ?_
          refine loadKey_kept (sub hm) ?_
          exact h
        · rename_i v10 v11 v12
          refine refuse_kept ?_
          exact h
        · rename_i v13 v14 v15
          refine refuse_kept ?_
          exact h

theorem opDiscLock_kept {α : Type} {m : State → α} (hm : ∀ u, m u = m { u with regs := [], evq := [], out := [], msixPend := 0, vault := {} })
    {s0 s : State} {a0 a1} (h : Kept m s0 s) :
    Kept m s0 (opDiscLock a0 a1 s).2.2 := by
  unfold opDiscLock
  refine ite_kept (P := fun (x : _ × _ × _) => Kept m s0 x.2.2) ?_ ?_
  · refine refuse_kept ?_
    exact h
  · refine ite_kept (P := fun (x : _ × _ × _) => Kept m s0 x.2.2) ?_ ?_
    · refine refuse_kept ?_
      exact h
    · refine snd_kept (P := fun (x : _ × _) => Kept m s0 x.2) ?_
      refine snd_kept (P := fun x => Kept m s0 x) ?_
      refine fset_kept (sub hm) ?_
      refine zeroiseKey_kept (sub hm) ?_
      exact h

theorem opVerifyImage_kept {α : Type} {m : State → α}
    {s0 s : State} {a0 a1} (h : Kept m s0 s) :
    Kept m s0 (opVerifyImage a0 a1 s).2.2 := by
  unfold opVerifyImage
  extract_lets +onlyGivenNames x1
  clear_value x1
  refine ite_kept (P := fun (x : _ × _ × _) => Kept m s0 x.2.2) ?_ ?_
  · refine refuse_kept ?_
    exact h
  · refine snd_kept (P := fun (x : _ × _) => Kept m s0 x.2) ?_
    refine snd_kept (P := fun x => Kept m s0 x) ?_
    exact h

theorem opCommitSvn_kept {α : Type} {m : State → α} (hm : ∀ u, m u = m { u with regs := [], evq := [], otp := {} })
    {s0 s : State} {a0 a1} (h : Kept m s0 s) :
    Kept m s0 (opCommitSvn a0 a1 s).2.2 := by
  unfold opCommitSvn
  extract_lets +onlyGivenNames x1
  clear_value x1
  extract_lets +onlyGivenNames x2
  extract_lets +onlyGivenNames x3
  clear_value x3
  extract_lets +onlyGivenNames x4
  clear_value x4
  extract_lets +onlyGivenNames x5
  refine ite_kept (P := fun (x : _ × _ × _) => Kept m s0 x.2.2) ?_ ?_
  · refine refuse_kept ?_
    exact h
  · refine ite_kept (P := fun (x : _ × _ × _) => Kept m s0 x.2.2) ?_ ?_
    · refine refuse_kept ?_
      exact h
    · refine ite_kept (P := fun (x : _ × _ × _) => Kept m s0 x.2.2) ?_ ?_
      · refine refuse_kept ?_
        exact h
      · refine ite_kept (P := fun (x : _ × _ × _) => Kept m s0 x.2.2) ?_ ?_
        · refine refuse_kept ?_
          exact h
        · refine snd_kept (P := fun (x : _ × _) => Kept m s0 x.2) ?_
          refine snd_kept (P := fun x => Kept m s0 x) ?_
          refine emit_kept (sub hm) ?_
          refine fset_kept (sub hm) ?_
          refine setOtp_kept (sub hm) ⟨List.prefix_refl _, le_max_left _ _, le_refl _⟩ ?_
          exact h

theorem opLogClear_kept {α : Type} {m : State → α} (hm : ∀ u, m u = m { u with regs := [], vault := {} })
    {s0 s : State} {a0 a1} (h : Kept m s0 s) :
    Kept m s0 (opLogClear a0 a1 s).2.2 := by
  unfold opLogClear
  extract_lets +onlyGivenNames x1
  clear_value x1
  refine ite_kept (P := fun (x : _ × _ × _) => Kept m s0 x.2.2) ?_ ?_
  · refine refuse_kept ?_
    exact h
  · refine snd_kept (P := fun (x : _ × _) => Kept m s0 x.2) ?_
    refine snd_kept (P := fun x => Kept m s0 x) ?_
    refine fset_kept (sub hm) ?_
    refine setVault_kept (sub hm) ?_
    exact h

theorem vaultOpOf_kept {α : Type} {m : State → α} (hm : ∀ u, m u = m { u with free := 0, regs := [], evq := [], out := [], msixPend := 0, vault := {}, otp := {} })
    {s0 s : State} {a0 a1 a2} (h : Kept m s0 s) :
    Kept m s0 (vaultOpOf a0 a1 a2 s).2.2 := by
  unfold vaultOpOf
  refine ite_app3_kept (P := fun (x : _ × _ × _) => Kept m s0 x.2.2) (opGetInfo_kept h) ?_
  refine ite_app3_kept (P := fun (x : _ × _ × _) => Kept m s0 x.2.2) (opGetNonce_kept (sub hm) h) ?_
  refine ite_app3_kept (P := fun (x : _ × _ × _) => Kept m s0 x.2.2) (opGetIdentity_kept (sub hm) h) ?_
  refine ite_app3_kept (P := fun (x : _ × _ × _) => Kept m s0 x.2.2) (opGetCert_kept h) ?_
  refine ite_app3_kept (P := fun (x : _ × _ × _) => Kept m s0 x.2.2) (opQuote_kept (sub hm) h) ?_
  refine ite_app3_kept (P := fun (x : _ × _ × _) => Kept m s0 x.2.2) (opClaim_kept (sub hm) h) ?_
  refine ite_app3_kept (P := fun (x : _ × _ × _) => Kept m s0 x.2.2) (opTransfer_kept (sub hm) h) ?_
  refine ite_app3_kept (P := fun (x : _ × _ × _) => Kept m s0 x.2.2) (opSetPolicy_kept (sub hm) h) ?_
  refine ite_app3_kept (P := fun (x : _ × _ × _) => Kept m s0 x.2.2) (opCommitPolicy_kept (sub hm) h) ?_
  refine ite_app3_kept (P := fun (x : _ × _ × _) => Kept m s0 x.2.2) (opImportWrapKey_kept (sub hm) h) ?_
  refine ite_app3_kept (P := fun (x : _ × _ × _) => Kept m s0 x.2.2) (opPrepare_kept (sub hm) h) ?_
  refine ite_app3_kept (P := fun (x : _ × _ × _) => Kept m s0 x.2.2) (opDiscUnlock_kept (sub hm) h) ?_
  refine ite_app3_kept (P := fun (x : _ × _ × _) => Kept m s0 x.2.2) (opDiscLock_kept (sub hm) h) ?_
  refine ite_app3_kept (P := fun (x : _ × _ × _) => Kept m s0 x.2.2) (opVerifyImage_kept h) ?_
  refine ite_app3_kept (P := fun (x : _ × _ × _) => Kept m s0 x.2.2) (opCommitSvn_kept (sub hm) h) ?_
  refine ite_app3_kept (P := fun (x : _ × _ × _) => Kept m s0 x.2.2) (opLogClear_kept (sub hm) h) ?_
  exact refuse_kept h

theorem execVaultResponse_kept {α : Type} {m : State → α} (hm : ∀ u, m u = m { u with free := 0, regs := [], evq := [], out := [], msixPend := 0, vault := {}, otp := {} })
    {s0 s : State} (h : Kept m s0 s) :
    KeptR m s0 (execVaultResponse s) := by
  unfold execVaultResponse
  extract_lets +onlyGivenNames x1
  have h2 : Kept m s0 x1 := by
    unfold x1
    split
    · rename_i v3 v4 v5 v6 v7
      refine perform_kept (sub hm) ?_ ?_
      · intro y8 y9 y10 y11
        refine vaultOpOf_kept (sub hm) ?_
        exact y11
      · exact h
    · rename_i v12 v13
      exact h
  clear_value x1
  split
  · rename_i v14 v15 v16 v17 v18 v19 v20
    extract_lets +onlyGivenNames x21
    clear_value x21
    extract_lets +onlyGivenNames x22
    have h23 : Kept m s0 x22 := by
      unfold x22
      refine fset_kept (sub hm) ?_
      exact h2
    clear_value x22
    extract_lets +onlyGivenNames x24
    clear_value x24
    extract_lets +onlyGivenNames x25
    clear_value x25
    extract_lets +onlyGivenNames x26
    have h27 : Kept m s0 x26 := by
      unfold x26
      refine fset_kept (sub hm) ?_
      refine fset_kept (sub hm) ?_
      refine fset_kept (sub hm) ?_
      refine setVault_kept (sub hm) ?_
      exact h23
    clear_value x26
    refine KeptR.next ?_
    refine ite_kept (P := fun x => Kept m s0 x) ?_ ?_
    · refine raise_kept (sub hm) ?_
      refine cnt_kept (sub hm) ?_
      exact h27
    · refine emit_kept (sub hm) ?_
      refine raise_kept (sub hm) ?_
      refine cnt_kept (sub hm) ?_
      exact h27
  · rename_i v28 v29
    refine KeptR.next ?_
    exact h2

theorem execGetInfo_kept {α : Type} {m : State → α} (hm : ∀ u, m u = m { u with vault := {} })
    {s0 s : State} (h : Kept m s0 s) :
    KeptR m s0 (execGetInfo s) := by
  unfold execGetInfo
  refine KeptR.next ?_
  refine perform_kept (sub hm) ?_ ?_
  · intro y1 y2 y3 y4
    refine opGetInfo_kept ?_
    exact y4
  · exact h

theorem execGetNonce_kept {α : Type} {m : State → α} (hm : ∀ u, m u = m { u with free := 0, regs := [], evq := [], vault := {} })
    {s0 s : State} {a0} (h : Kept m s0 s) :
    KeptR m s0 (execGetNonce a0 s) := by
  unfold execGetNonce
  refine KeptR.next ?_
  refine perform_kept (sub hm) ?_ ?_
  · intro y1 y2 y3 y4
    refine opGetNonce_kept (sub hm) ?_
    exact y4
  · exact h

theorem execGetIdentity_kept {α : Type} {m : State → α} (hm : ∀ u, m u = m { u with free := 0, vault := {} })
    {s0 s : State} (h : Kept m s0 s) :
    KeptR m s0 (execGetIdentity s) := by
  unfold execGetIdentity
  refine KeptR.next ?_
  refine perform_kept (sub hm) ?_ ?_
  · intro y1 y2 y3 y4
    refine opGetIdentity_kept (sub hm) ?_
    exact y4
  · exact h

theorem execGetCert_kept {α : Type} {m : State → α} (hm : ∀ u, m u = m { u with vault := {} })
    {s0 s : State} (h : Kept m s0 s) :
    KeptR m s0 (execGetCert s) := by
  unfold execGetCert
  refine KeptR.next ?_
  refine perform_kept (sub hm) ?_ ?_
  · intro y1 y2 y3 y4
    refine opGetCert_kept ?_
    exact y4
  · exact h

theorem execQuote_kept {α : Type} {m : State → α} (hm : ∀ u, m u = m { u with free := 0, evq := [], vault := {} })
    {s0 s : State} (h : Kept m s0 s) :
    KeptR m s0 (execQuote s) := by
  unfold execQuote
  refine KeptR.next ?_
  refine perform_kept (sub hm) ?_ ?_
  · intro y1 y2 y3 y4
    refine opQuote_kept (sub hm) ?_
    exact y4
  · exact h

theorem execClaim_kept {α : Type} {m : State → α} (hm : ∀ u, m u = m { u with regs := [], evq := [], vault := {}, otp := {} })
    {s0 s : State} {a0 a1} (h : Kept m s0 s) :
    KeptR m s0 (execClaim a0 a1 s) := by
  unfold execClaim
  refine KeptR.next ?_
  refine ite_kept (P := fun x => Kept m s0 x) ?_ ?_
  · refine cutShort_kept (sub hm) ?_ ?_ ?_
    · intro y1 y2 y3 y4
      refine opClaim_kept (sub hm) ?_
      exact y4
    · intro y5 y6 y7
      refine programOwner_kept (sub hm) ?_
      exact y7
    · exact h
  · refine perform_kept (sub hm) ?_ ?_
    · intro y8 y9 y10 y11
      refine opClaim_kept (sub hm) ?_
      exact y11
    · exact h

theorem execTransfer_kept {α : Type} {m : State → α} (hm : ∀ u, m u = m { u with regs := [], evq := [], vault := {}, otp := {} })
    {s0 s : State} {a0 a1} (h : Kept m s0 s) :
    KeptR m s0 (execTransfer a0 a1 s) := by
  unfold execTransfer
  refine KeptR.next ?_
  refine ite_kept (P := fun x => Kept m s0 x) ?_ ?_
  · refine cutShort_kept (sub hm) ?_ ?_ ?_
    · intro y1 y2 y3 y4
      refine opTransfer_kept (sub hm) ?_
      exact y4
    · intro y5 y6 y7
      refine programOwner_kept (sub hm) ?_
      exact y7
    · exact h
  · refine perform_kept (sub hm) ?_ ?_
    · intro y8 y9 y10 y11
      refine opTransfer_kept (sub hm) ?_
      exact y11
    · exact h

theorem execSetPolicy_kept {α : Type} {m : State → α} (hm : ∀ u, m u = m { u with regs := [], evq := [], out := [], msixPend := 0, vault := {}, otp := {} })
    {s0 s : State} {a0} (h : Kept m s0 s) :
    KeptR m s0 (execSetPolicy a0 s) := by
  unfold execSetPolicy
  refine KeptR.next ?_
  refine perform_kept (sub hm) ?_ ?_
  · intro y1 y2 y3 y4
    refine opSetPolicy_kept (sub hm) ?_
    exact y4
  · exact h

theorem execCommitPolicy_kept {α : Type} {m : State → α} (hm : ∀ u, m u = m { u with regs := [], evq := [], vault := {}, otp := {} })
    {s0 s : State} {a0} (h : Kept m s0 s) :
    KeptR m s0 (execCommitPolicy a0 s) := by
  unfold execCommitPolicy
  refine KeptR.next ?_
  split
  · rename_i v1
    refine perform_kept (sub hm) ?_ ?_
    · intro y2 y3 y4 y5
      refine opCommitPolicy_kept (sub hm) ?_
      exact y5
    · exact h
  · rename_i v6 v7
    refine cutShort_kept (sub hm) ?_ ?_ ?_
    · intro y8 y9 y10 y11
      refine opCommitPolicy_kept (sub hm) ?_
      exact y11
    · intro y12 y13 y14
      refine setOtp_kept (sub hm) ⟨List.prefix_refl _, le_refl _, le_max_left _ _⟩ ?_
      exact y14
    · exact h

theorem execImportWrapKey_kept {α : Type} {m : State → α} (hm : ∀ u, m u = m { u with regs := [], evq := [], vault := {}, otp := {} })
    {s0 s : State} {a0} (h : Kept m s0 s) :
    KeptR m s0 (execImportWrapKey a0 s) := by
  unfold execImportWrapKey
  refine KeptR.next ?_
  refine perform_kept (sub hm) ?_ ?_
  · intro y1 y2 y3 y4
    refine opImportWrapKey_kept (sub hm) ?_
    exact y4
  · exact h

theorem execPrepareDisc_kept {α : Type} {m : State → α} (hm : ∀ u, m u = m { u with vault := {} })
    {s0 s : State} (h : Kept m s0 s) :
    KeptR m s0 (execPrepareDisc s) := by
  unfold execPrepareDisc
  refine KeptR.next ?_
  refine perform_kept (sub hm) ?_ ?_
  · intro y1 y2 y3 y4
    refine opPrepare_kept (sub hm) ?_
    exact y4
  · exact h

theorem execDiscUnlock_kept {α : Type} {m : State → α} (hm : ∀ u, m u = m { u with regs := [], evq := [], vault := {} })
    {s0 s : State} (h : Kept m s0 s) :
    KeptR m s0 (execDiscUnlock s) := by
  unfold execDiscUnlock
  refine KeptR.next ?_
  refine perform_kept (sub hm) ?_ ?_
  · intro y1 y2 y3 y4
    refine opDiscUnlock_kept (sub hm) ?_
    exact y4
  · exact h

theorem execDiscLock_kept {α : Type} {m : State → α} (hm : ∀ u, m u = m { u with regs := [], evq := [], out := [], msixPend := 0, vault := {} })
    {s0 s : State} (h : Kept m s0 s) :
    KeptR m s0 (execDiscLock s) := by
  unfold execDiscLock
  refine KeptR.next ?_
  refine perform_kept (sub hm) ?_ ?_
  · intro y1 y2 y3 y4
    refine opDiscLock_kept (sub hm) ?_
    exact y4
  · exact h

theorem execVerifyImage_kept {α : Type} {m : State → α} (hm : ∀ u, m u = m { u with vault := {} })
    {s0 s : State} (h : Kept m s0 s) :
    KeptR m s0 (execVerifyImage s) := by
  unfold execVerifyImage
  refine KeptR.next ?_
  refine perform_kept (sub hm) ?_ ?_
  · intro y1 y2 y3 y4
    refine opVerifyImage_kept ?_
    exact y4
  · exact h

theorem execCommitSvn_kept {α : Type} {m : State → α} (hm : ∀ u, m u = m { u with regs := [], evq := [], vault := {}, otp := {} })
    {s0 s : State} {a0} (h : Kept m s0 s) :
    KeptR m s0 (execCommitSvn a0 s) := by
  unfold execCommitSvn
  refine KeptR.next ?_
  split
  · rename_i v1
    refine perform_kept (sub hm) ?_ ?_
    · intro y2 y3 y4 y5
      refine opCommitSvn_kept (sub hm) ?_
      exact y5
    · exact h
  · rename_i v6 v7
    refine cutShort_kept (sub hm) ?_ ?_ ?_
    · intro y8 y9 y10 y11
      refine opCommitSvn_kept (sub hm) ?_
      exact y11
    · intro y12 y13 y14
      refine setOtp_kept (sub hm) ⟨List.prefix_refl _, le_max_left _ _, le_refl _⟩ ?_
      exact y14
    · exact h

theorem execLogClear_kept {α : Type} {m : State → α} (hm : ∀ u, m u = m { u with regs := [], vault := {} })
    {s0 s : State} (h : Kept m s0 s) :
    KeptR m s0 (execLogClear s) := by
  unfold execLogClear
  refine KeptR.next ?_
  refine perform_kept (sub hm) ?_ ?_
  · intro y1 y2 y3 y4
    refine opLogClear_kept (sub hm) ?_
    exact y4
  · exact h

theorem execNonceExpiry_kept {α : Type} {m : State → α} (hm : ∀ u, m u = m { u with vault := {} })
    {s0 s : State} {a0} (h : Kept m s0 s) :
    KeptR m s0 (execNonceExpiry a0 s) := by
  unfold execNonceExpiry
  refine KeptR.next ?_
  refine setVault_kept (sub hm) ?_
  exact h

theorem execInternalScan_kept {α : Type} {m : State → α} (hm : ∀ u, m u = m { u with regs := [], evq := [], out := [], msixPend := 0, vault := {} })
    {s0 s : State} {a0} (h : Kept m s0 s) :
    KeptR m s0 (execInternalScan a0 s) := by
  unfold execInternalScan
  extract_lets +onlyGivenNames x1
  clear_value x1
  extract_lets +onlyGivenNames x2
  have h3 : Kept m s0 x2 := by
    unfold x2
    refine vaultAbandon_kept (sub hm) ?_
    refine zeroiseKey_kept (sub hm) ?_
    exact h
  clear_value x2
  extract_lets +onlyGivenNames x4
  clear_value x4
  refine KeptR.next ?_
  refine emit_kept (sub hm) ?_
  refine raise_kept (sub hm) ?_
  refine fset_kept (sub hm) ?_
  refine measure_kept (sub hm) ?_
  refine setVault_kept (sub hm) ?_
  exact h3

theorem execPwrModeReq_kept {α : Type} {m : State → α} (hm : ∀ u, m u = m { u with regs := [], evq := [], out := [], msixPend := 0, disc := {}, recs := [], spin := {}, dec := {}, encoded := [], mem := {}, lanesC := [], cl := {}, port := {}, pwr := {} })
    {s0 s : State} {a0 a1} (h : Kept m s0 s) :
    KeptR m s0 (execPwrModeReq a0 a1 s) := by
  unfold execPwrModeReq
  refine KeptR.next ?_
  refine pwrRequest_kept (sub hm) ?_
  refine fsetB_kept (sub hm) ?_
  refine fset_kept (sub hm) ?_
  exact h

theorem execActiveModeChange_kept {α : Type} {m : State → α} (hm : ∀ u, m u = m { u with regs := [], evq := [], out := [], msixPend := 0, recs := [], spin := {}, pwr := {} })
    {s0 s : State} (h : Kept m s0 s) :
    KeptR m s0 (execActiveModeChange s) := by
  unfold execActiveModeChange
  refine KeptR.next ?_
  refine activeChange_kept (sub hm) ?_
  exact h

theorem execModeReached_kept {α : Type} {m : State → α} (hm : ∀ u, m u = m { u with free := 0, regs := [], evq := [], out := [], msixPend := 0, cl := {}, port := {}, pwr := {} })
    {s0 s : State} (h : Kept m s0 s) :
    KeptR m s0 (execModeReached s) := by
  unfold execModeReached
  refine KeptR.next ?_
  split
  · rename_i v1 v2 v3
    refine ite_kept (P := fun x => Kept m s0 x) ?_ ?_
    · refine modeReached_kept (sub hm) ?_
      exact h
    · exact h
  · rename_i v4 v5
    exact h

theorem execCalmEntry_kept {α : Type} {m : State → α} (hm : ∀ u, m u = m { u with free := 0, regs := [], evq := [], out := [], msixPend := 0, engs := [], loops := [], spin := {}, cl := {}, port := {}, pwr := {} })
    {s0 s : State} {a0} (h : Kept m s0 s) :
    KeptR m s0 (execCalmEntry a0 s) := by
  unfold execCalmEntry
  refine KeptR.next ?_
  refine ite_kept (P := fun x => Kept m s0 x) ?_ ?_
  · refine calmStep_kept (sub hm) ?_
    exact h
  · exact h

theorem railUp_kept {α : Type} {m : State → α} (hm : ∀ u, m u = m { u with regs := [], evq := [], out := [], msixPend := 0 })
    {s0 s : State} {a0 a1 a3} (h : Kept m s0 s) :
    Kept m s0 (railUp a0 a1 s a3) := by
  unfold railUp
  extract_lets +onlyGivenNames x1
  clear_value x1
  refine ite_kept (P := fun x => Kept m s0 x) ?_ ?_
  · refine pmbWrite_kept (sub hm) ?_
    exact h
  · refine ite_kept (P := fun x => Kept m s0 x) ?_ ?_
    · refine pmbWrite_kept (sub hm) ?_
      exact h
    · exact h

theorem railsUp_kept {α : Type} {m : State → α} (hm : ∀ u, m u = m { u with regs := [], evq := [], out := [], msixPend := 0 })
    {s0 s : State} {a0 a1} (h : Kept m s0 s) :
    Kept m s0 (railsUp a0 a1 s) := by
  unfold railsUp
  refine foldl_kept (P := fun x => Kept m s0 x) ?_ ?_
  · intro y1 y2 y3
    refine railUp_kept (sub hm) ?_
    exact y3
  · exact h

theorem execCalmExit_kept {α : Type} {m : State → α} (hm : ∀ u, m u = m { u with free := 0, regs := [], evq := [], out := [], msixPend := 0, lanes := [], links := [], spin := {}, cl := {}, port := {}, vault := {}, pwr := {} })
    {s0 s : State} {a0} (h : Kept m s0 s) :
    KeptR m s0 (execCalmExit a0 s) := by
  unfold execCalmExit
  refine ite_kept (P := fun x => KeptR m s0 x) ?_ ?_
  · refine KeptR.next ?_
    exact h
  · split
    · rename_i v1 v2
      extract_lets +onlyGivenNames x3
      clear_value x3
      refine KeptR.next ?_
      refine startSpin_kept (sub hm) ?_
      refine wantSpeed_kept (sub hm) ?_
      refine fset_kept (sub hm) ?_
      refine fset_kept (sub hm) ?_
      refine linksUp_kept (sub hm) ?_
      refine linksUp_kept (sub hm) ?_
      refine railsUp_kept (sub hm) ?_
      refine beginTrans_kept (sub hm) ?_
      refine setPwr_kept (sub hm) ?_
      exact h
    · rename_i v4 v5 v6
      refine KeptR.next ?_
      refine ite_kept (P := fun x => Kept m s0 x) ?_ ?_
      · refine ite_app_kept (P := fun x => Kept m s0 x) ?_ ?_
        · refine keyDecision_kept (sub hm) ?_
          refine modeReached_kept (sub hm) ?_
          exact h
        · refine id_kept (P := fun x => Kept m s0 x) ?_
          refine modeReached_kept (sub hm) ?_
          exact h
      · exact h

theorem hostLink_kept {α : Type} {m : State → α} (hm : ∀ u, m u = m { u with regs := [], out := [], msixPend := 0, port := {} })
    {s0 s : State} {a0} (h : Kept m s0 s) :
    Kept m s0 (hostLink a0 s) := by
  unfold hostLink
  extract_lets +onlyGivenNames x1
  clear_value x1
  refine ite_kept (P := fun x => Kept m s0 x) ?_ ?_
  · refine fsetB_kept (sub hm) ?_
    exact h
  · extract_lets +onlyGivenNames x2
    clear_value x2
    beta_reduce
    refine ite_kept (P := fun x => Kept m s0 x) ?_ ?_
    · refine routeMsix_kept (sub hm) ?_
      refine setPorts_kept (sub hm) ?_
      refine fset_kept (sub hm) ?_
      exact h
    · refine setPorts_kept (sub hm) ?_
      refine fset_kept (sub hm) ?_
      exact h

theorem islandsOff_kept {α : Type} {m : State → α} (hm : ∀ u, m u = m { u with regs := [], lanes := [], links := [], recs := [], engs := [], ustore := [], nstore := [], dmem := [], pgs := [], loops := [], heads := [], spin := {}, sleds := [], chans := [], commons := [], frames := [], blanks := [], dec := {}, betas := [], lanesC := [] })
    {s0 s : State} (h : Kept m s0 s) :
    Kept m s0 (islandsOff s) :=
  h.trans ⟨view_eq hm, rfl, List.prefix_refl _, le_refl _, .refl _, fun hs => Store.sorted_filter _ _ hs⟩

theorem memoryOff_kept {α : Type} {m : State → α} (hm : ∀ u, m u = m { u with regs := [], evq := [], out := [], msixPend := 0, mem := {} })
    {s0 s : State} (h : Kept m s0 s) :
    Kept m s0 (memoryOff s) := by
  unfold memoryOff
  extract_lets +onlyGivenNames x1
  have h2 : Kept m s0 x1 := by
    unfold x1
    refine foldl_kept (P := fun x => Kept m s0 x) ?_ ?_
    · intro y3 y4 y5
      split
      · rename_i v6 v7 v8
        refine cleanLine_kept (sub hm) ?_
        refine settle_kept (sub hm) ?_
        exact y5
      · rename_i v9 v10
        refine settle_kept (sub hm) ?_
        exact y5
    · exact h
  clear_value x1
  refine maintBusy_kept (sub hm) ?_
  refine fset_kept (sub hm) ?_
  refine setMem_kept (sub hm) ?_
  exact h2

theorem lullStep_kept {α : Type} {m : State → α} (hm : ∀ u, m u = m { u with free := 0, regs := [], evq := [], out := [], msixPend := 0, lanes := [], links := [], recs := [], engs := [], ustore := [], nstore := [], dmem := [], pgs := [], loops := [], heads := [], spin := {}, sleds := [], chans := [], commons := [], frames := [], blanks := [], dec := {}, betas := [], mem := {}, lanesC := [], cl := {}, port := {}, vault := {}, pwr := {} })
    {s0 s : State} {a0} (h : Kept m s0 s) :
    Kept m s0 (lullStep a0 s) := by
  unfold lullStep
  refine ite_kept (P := fun x => Kept m s0 x) ?_ ?_
  · refine zeroiseKey_kept (sub hm) ?_
    refine beginTrans_kept (sub hm) ?_
    exact h
  · refine ite_kept (P := fun x => Kept m s0 x) ?_ ?_
    · refine fset_kept (sub hm) ?_
      refine setPwr_kept (sub hm) ?_
      exact h
    · refine modeReached_kept (sub hm) ?_
      refine railsDown_kept (sub hm) ?_
      refine fset_kept (sub hm) ?_
      refine hostLink_kept (sub hm) ?_
      refine islandsOff_kept (sub hm) ?_
      refine sledOff_kept (sub hm) ?_
      refine sledOff_kept (sub hm) ?_
      refine memoryOff_kept (sub hm) ?_
      refine setPwr_kept (sub hm) ?_
      exact h

theorem execLullEntry_kept {α : Type} {m : State → α} (hm : ∀ u, m u = m { u with free := 0, regs := [], evq := [], out := [], msixPend := 0, lanes := [], links := [], recs := [], engs := [], ustore := [], nstore := [], dmem := [], pgs := [], loops := [], heads := [], spin := {}, sleds := [], chans := [], commons := [], frames := [], blanks := [], dec := {}, betas := [], mem := {}, lanesC := [], cl := {}, port := {}, vault := {}, pwr := {} })
    {s0 s : State} {a0} (h : Kept m s0 s) :
    KeptR m s0 (execLullEntry a0 s) := by
  unfold execLullEntry
  refine KeptR.next ?_
  refine ite_kept (P := fun x => Kept m s0 x) ?_ ?_
  · refine lullStep_kept (sub hm) ?_
    exact h
  · exact h

theorem performHeld_kept {α : Type} {m : State → α} (hm : ∀ u, m u = m { u with free := 0, regs := [], evq := [], out := [], msix := [], msixPend := 0, msixMask := false, disc := {}, ends := [], lanes := [], links := [], recs := [], engs := [], ustore := [], nstore := [], dmem := [], pgs := [], loops := [], heads := [], spin := {}, sleds := [], chans := [], commons := [], frames := [], blanks := [], dec := {}, encoded := [], opcs := [], betas := [], mem := {}, lanesC := [], claims := [], cl := {}, port := {}, vault := {}, pwr := {}, dev := {}, obs := {} })
    {s0 s : State} {a0} (h : Kept m s0 s) :
    Kept m s0 (performHeld a0 s) := by
  induction a0 generalizing s with
  | nil => exact h
  | cons x hs ih =>
    cases x with
    | library c => exact ih (libDo_kept (sub hm) h)
    | access req a size w =>
      refine ih ?_
      have hp := perform32_kept (sub hm) (a0 := req) (a1 := a) (a2 := size) (a3 := w) h
      dsimp only
      refine ite_kept (P := fun x => Kept m s0 x) (setObs_kept (sub hm) hp) ?_
      refine ite_kept (P := fun x => Kept m s0 x) hp ?_
      split
      · exact send_kept (sub hm) hp
      · exact hp

theorem startTimeouts_kept {α : Type} {m : State → α} (hm : ∀ u, m u = m { u with port := {} })
    {s0 s : State} (h : Kept m s0 s) :
    Kept m s0 (startTimeouts s) := by
  unfold startTimeouts
  extract_lets +onlyGivenNames x1
  clear_value x1
  refine setPorts_kept (sub hm) ?_
  exact h

theorem restoreIslands_kept {α : Type} {m : State → α} (hm : ∀ u, m u = m { u with regs := [], ustore := [], nstore := [], sleds := [], pwr := {}, dev := {} })
    {s0 s : State} (h : Kept m s0 s) :
    Kept m s0 (restoreIslands s) := by
  unfold restoreIslands
  extract_lets +onlyGivenNames x1
  clear_value x1
  extract_lets +onlyGivenNames x2
  have h3 : Kept m s0 x2 := by
    unfold x2
    exact loadStores_kept (sub hm) (fset_kept (sub hm) (fset_kept (sub hm) h))
  clear_value x2
  extract_lets +onlyGivenNames x4
  have h5 : Kept m s0 x4 := by
    refine h3.trans ⟨view_eq hm, rfl, List.prefix_refl _, le_refl _, .refl _, fun hs => ?_⟩
    exact foldl_kept (P := fun r => Store.sorted r = true) (fun t x ht => Store.sorted_insert _ _ _ ht) hs
  clear_value x4
  extract_lets +onlyGivenNames x6
  clear_value x6
  extract_lets +onlyGivenNames x7
  have h8 : Kept m s0 x7 := haltCores_kept (sub hm) (fset_kept (sub hm) (kickWatchdog_kept (sub hm) (setPwr_kept (sub hm) h5)))
  clear_value x7
  extract_lets +onlyGivenNames x9
  have h10 : ∀ y11 y12, Kept m s0 y12 → Kept m s0 (x9 y11 y12) := by
    intro y11 y12 k13
    unfold x9
    refine ite_kept (P := fun x => Kept m s0 x) ?_ k13
    exact homeStart_kept (sub hm) (sledSt_kept (sub hm) (setSled_kept (sub hm) k13))
  clear_value x9
  exact h10 _ _ (h10 _ _ h8)

theorem fullStart_kept {α : Type} {m : State → α} (hm : ∀ u, m u = m { u with regs := [], evq := [], out := [], msix := [], msixPend := 0, msixMask := false, disc := {}, ends := [], lanes := [], links := [], recs := [], engs := [], ustore := [], nstore := [], dmem := [], pgs := [], loops := [], heads := [], spin := {}, sleds := [], chans := [], commons := [], frames := [], blanks := [], dec := {}, encoded := [], opcs := [], betas := [], mem := {}, lanesC := [], claims := [], cl := {}, port := {}, vault := {}, pwr := {}, dev := {}, obs := {} })
    {s0 s : State} (h : Kept m s0 s) :
    Kept m s0 (fullStart s) := by
  unfold fullStart
  extract_lets +onlyGivenNames x1
  clear_value x1
  extract_lets +onlyGivenNames x2
  clear_value x2
  refine boot_kept (sub hm) ?_
  refine keepAlwaysOn_kept (sub hm) ?_
  exact h

theorem wakeUp_kept {α : Type} {m : State → α} (hm : ∀ u, m u = m { u with free := 0, regs := [], evq := [], out := [], msix := [], msixPend := 0, msixMask := false, disc := {}, ends := [], lanes := [], links := [], recs := [], engs := [], ustore := [], nstore := [], dmem := [], pgs := [], loops := [], heads := [], spin := {}, sleds := [], chans := [], commons := [], frames := [], blanks := [], dec := {}, encoded := [], opcs := [], betas := [], mem := {}, lanesC := [], claims := [], cl := {}, port := {}, vault := {}, pwr := {}, dev := {}, obs := {} })
    {s0 s : State} {a0} (h : Kept m s0 s) :
    Kept m s0 (wakeUp a0 s) := by
  unfold wakeUp
  extract_lets +onlyGivenNames x1
  clear_value x1
  extract_lets +onlyGivenNames x2
  clear_value x2
  extract_lets +onlyGivenNames x3
  clear_value x3
  extract_lets +onlyGivenNames x4
  have h5 : Kept m s0 x4 := by
    unfold x4
    refine setPwr_kept (sub hm) ?_
    refine fset_kept (sub hm) ?_
    exact h
  clear_value x4
  refine ite_kept (P := fun x => Kept m s0 x) ?_ ?_
  · extract_lets +onlyGivenNames x6
    clear_value x6
    refine performHeld_kept (sub hm) ?_
    refine startTimeouts_kept (sub hm) ?_
    refine raise_kept (sub hm) ?_
    refine emit_kept (sub hm) ?_
    refine modeReached_kept (sub hm) ?_
    refine ite_app_kept (P := fun x => Kept m s0 x) ?_ ?_
    · refine hostLink_kept (sub hm) ?_
      beta_reduce
      refine setPwr_kept (sub hm) ?_
      refine restoreIslands_kept (sub hm) ?_
      refine railsUp_kept (sub hm) ?_
      exact h5
    · refine id_kept (P := fun x => Kept m s0 x) ?_
      beta_reduce
      refine setPwr_kept (sub hm) ?_
      refine restoreIslands_kept (sub hm) ?_
      refine railsUp_kept (sub hm) ?_
      exact h5
  · refine fullStart_kept (sub hm) ?_
    refine raise_kept (sub hm) ?_
    refine emit_kept (sub hm) ?_
    exact h5

theorem execLullWake_kept {α : Type} {m : State → α} (hm : ∀ u, m u = m { u with free := 0, regs := [], evq := [], out := [], msix := [], msixPend := 0, msixMask := false, disc := {}, ends := [], lanes := [], links := [], recs := [], engs := [], ustore := [], nstore := [], dmem := [], pgs := [], loops := [], heads := [], spin := {}, sleds := [], chans := [], commons := [], frames := [], blanks := [], dec := {}, encoded := [], opcs := [], betas := [], mem := {}, lanesC := [], claims := [], cl := {}, port := {}, vault := {}, pwr := {}, dev := {}, obs := {} })
    {s0 s : State} {a0 a1} (h : Kept m s0 s) :
    KeptR m s0 (execLullWake a0 a1 s) := by
  unfold execLullWake
  extract_lets +onlyGivenNames x1
  have h2 : Kept m s0 x1 := by
    unfold x1
    refine ite_kept (P := fun x => Kept m s0 x) ?_ ?_
    · refine foldl_kept (P := fun x => Kept m s0 x) ?_ ?_
      · intro y3 y4 y5
        refine wakeSeen_kept (sub hm) ?_
        exact y5
      · exact h
    · exact h
  clear_value x1
  refine KeptR.next ?_
  refine ite_kept (P := fun x => Kept m s0 x) ?_ ?_
  · refine wakeUp_kept (sub hm) ?_
    exact h2
  · exact h2

theorem lullAccess_kept {α : Type} {m : State → α} (hm : ∀ u, m u = m { u with regs := [], out := [], pwr := {} })
    {s0 s : State} {a0 a1 a2 a3} (h : Kept m s0 s) :
    Kept m s0 (lullAccess a0 a1 a2 a3 s) := by
  unfold lullAccess
  refine ite_kept (P := fun x => Kept m s0 x) ?_ ?_
  · refine send_kept (sub hm) ?_
    refine wakeSeen_kept (sub hm) ?_
    refine cnt_kept (sub hm) ?_
    exact h
  · refine ite_kept (P := fun x => Kept m s0 x) ?_ ?_
    · refine wakeSeen_kept (sub hm) ?_
      refine setPwr_kept (sub hm) ?_
      exact h
    · exact h

theorem answer_kept {α : Type} {m : State → α} (hm : ∀ u, m u = m { u with out := [] })
    {s0 : State} {req : Nat} {r : Option Nat × State} (h : Kept m s0 r.2) : Kept m s0 (answer req r) := by
  unfold answer
  split
  · exact send_kept (sub hm) h
  · exact ite_kept (P := fun x => Kept m s0 x) (send_kept (sub hm) h) h

theorem windowAccess_kept {α : Type} {m : State → α} (hm : ∀ u, m u = m { u with free := 0, regs := [], evq := [], out := [], msix := [], msixPend := 0, msixMask := false, disc := {}, ends := [], lanes := [], links := [], recs := [], engs := [], ustore := [], nstore := [], dmem := [], pgs := [], loops := [], heads := [], spin := {}, sleds := [], chans := [], commons := [], frames := [], blanks := [], dec := {}, encoded := [], opcs := [], betas := [], mem := {}, lanesC := [], claims := [], cl := {}, port := {}, vault := {}, pwr := {}, dev := {}, obs := {} })
    {s0 s : State} {a0 a1 a2 a3} (h : Kept m s0 s) :
    Kept m s0 (windowAccess a0 a1 a2 a3 s) := by
  unfold windowAccess
  refine ite_kept (P := fun x => Kept m s0 x) (lullAccess_kept (sub hm) h) ?_
  refine ite_kept (P := fun x => Kept m s0 x) (perform32_kept (sub hm) h) ?_
  exact answer_kept (sub hm) (perform32_kept (sub hm) h)

theorem execLullWindowAccess_kept {α : Type} {m : State → α} (hm : ∀ u, m u = m { u with free := 0, regs := [], evq := [], out := [], msix := [], msixPend := 0, msixMask := false, disc := {}, ends := [], lanes := [], links := [], recs := [], engs := [], ustore := [], nstore := [], dmem := [], pgs := [], loops := [], heads := [], spin := {}, sleds := [], chans := [], commons := [], frames := [], blanks := [], dec := {}, encoded := [], opcs := [], betas := [], mem := {}, lanesC := [], claims := [], cl := {}, port := {}, vault := {}, pwr := {}, dev := {}, obs := {} })
    {s0 s : State} {a0 a1 a2} (h : Kept m s0 s) :
    KeptR m s0 (execLullWindowAccess a0 a1 a2 s) := by
  unfold execLullWindowAccess
  refine KeptR.next ?_
  refine windowAccess_kept (sub hm) ?_
  exact h

theorem judgeSensor_kept {α : Type} {m : State → α} (hm : ∀ u, m u = m { u with regs := [], evq := [], pwr := {} })
    {s0 s : State} {a0 a1} (h : Kept m s0 s) :
    Kept m s0 (judgeSensor a0 a1 s) := by
  unfold judgeSensor
  extract_lets +onlyGivenNames x1
  clear_value x1
  extract_lets +onlyGivenNames x2
  clear_value x2
  extract_lets +onlyGivenNames x3
  clear_value x3
  extract_lets +onlyGivenNames x4
  clear_value x4
  extract_lets +onlyGivenNames x5
  clear_value x5
  extract_lets +onlyGivenNames x6
  clear_value x6
  extract_lets +onlyGivenNames x7
  clear_value x7
  extract_lets +onlyGivenNames x8
  clear_value x8
  extract_lets +onlyGivenNames x9
  clear_value x9
  refine ite_app_kept (P := fun x => Kept m s0 x) ?_ ?_
  · refine emit_kept (sub hm) ?_
    refine ite_app_kept (P := fun x => Kept m s0 x) ?_ ?_
    · refine fset_kept (sub hm) ?_
      refine fset_kept (sub hm) ?_
      refine setPwr_kept (sub hm) ?_
      exact h
    · refine id_kept (P := fun x => Kept m s0 x) ?_
      refine fset_kept (sub hm) ?_
      refine setPwr_kept (sub hm) ?_
      exact h
  · refine id_kept (P := fun x => Kept m s0 x) ?_
    refine ite_app_kept (P := fun x => Kept m s0 x) ?_ ?_
    · refine fset_kept (sub hm) ?_
      refine fset_kept (sub hm) ?_
      refine setPwr_kept (sub hm) ?_
      exact h
    · refine id_kept (P := fun x => Kept m s0 x) ?_
      refine fset_kept (sub hm) ?_
      refine setPwr_kept (sub hm) ?_
      exact h

theorem thermTrip_kept {α : Type} {m : State → α} (hm : ∀ u, m u = m { u with regs := [], evq := [], out := [], msixPend := 0, links := [], recs := [], spin := {} })
    {s0 s : State} {a0} (h : Kept m s0 s) :
    Kept m s0 (thermTrip a0 s) := by
  unfold thermTrip
  extract_lets +onlyGivenNames x1
  clear_value x1
  refine emit_kept (sub hm) ?_
  refine fault_kept (sub hm) ?_
  refine fset_kept (sub hm) ?_
  refine fset_kept (sub hm) ?_
  refine stopSpin_kept (sub hm) ?_
  refine tripBoth_kept (sub hm) ?_
  exact h

theorem thermStep_kept {α : Type} {m : State → α} (hm : ∀ u, m u = m { u with regs := [], evq := [], out := [], msixPend := 0 })
    {s0 s : State} {a0 a1} (h : Kept m s0 s) :
    Kept m s0 (thermStep a0 a1 s) := by
  unfold thermStep
  extract_lets +onlyGivenNames x1
  clear_value x1
  refine emit_kept (sub hm) ?_
  refine raise_kept (sub hm) ?_
  refine cnt_kept (sub hm) ?_
  refine fset_kept (sub hm) ?_
  exact h

theorem execThermalSample_kept {α : Type} {m : State → α} (hm : ∀ u, m u = m { u with free := 0, regs := [], evq := [], out := [], msixPend := 0, links := [], recs := [], engs := [], loops := [], spin := {}, cl := {}, port := {}, pwr := {} })
    {s0 s : State} {a0} (h : Kept m s0 s) :
    KeptR m s0 (execThermalSample a0 s) := by
  unfold execThermalSample
  extract_lets +onlyGivenNames x1
  clear_value x1
  extract_lets +onlyGivenNames x2
  have h3 : Kept m s0 x2 := by
    unfold x2
    refine foldl_kept (P := fun x => Kept m s0 x) ?_ ?_
    · intro y4 y5 y6
      refine judgeSensor_kept (sub hm) ?_
      exact y6
    · exact h
  clear_value x2
  extract_lets +onlyGivenNames x7
  have h8 : Kept m s0 x7 := by
    unfold x7
    refine fsetI_kept (sub hm) ?_
    refine fset_kept (sub hm) ?_
    exact h3
  clear_value x7
  extract_lets +onlyGivenNames x9
  have h10 : Kept m s0 x9 := by
    unfold x9
    split
    · rename_i v11 v12 v13
      refine ite_kept (P := fun x => Kept m s0 x) ?_ ?_
      · exact h8
      · refine thermTrip_kept (sub hm) ?_
        exact h8
    · rename_i v14 v15
      exact h8
  clear_value x9
  refine KeptR.next ?_
  split
  · rename_i v16 v17 v18 v19
    refine ite_kept (P := fun x => Kept m s0 x) ?_ ?_
    · refine ite_kept (P := fun x => Kept m s0 x) ?_ ?_
      · refine calmStep_kept (sub hm) ?_
        exact h10
      · exact h10
    · beta_reduce
      refine ite_kept (P := fun x => Kept m s0 x) ?_ ?_
      · refine calmStep_kept (sub hm) ?_
        refine thermStep_kept (sub hm) ?_
        exact h10
      · refine thermStep_kept (sub hm) ?_
        exact h10
  · rename_i v20 v21 v22 v23 v24
    refine ite_kept (P := fun x => Kept m s0 x) ?_ ?_
    · refine activeChange_kept (sub hm) ?_
      refine thermStep_kept (sub hm) ?_
      exact h10
    · exact h10
  · rename_i v25 v26 v27 v28
    exact h10

theorem execThermalReturn_kept {α : Type} {m : State → α} (hm : ∀ u, m u = m { u with regs := [], evq := [], out := [], msixPend := 0, recs := [], spin := {}, pwr := {} })
    {s0 s : State} (h : Kept m s0 s) :
    KeptR m s0 (execThermalReturn s) := by
  unfold execThermalReturn
  extract_lets +onlyGivenNames x1
  clear_value x1
  extract_lets +onlyGivenNames x2
  clear_value x2
  refine ite_kept (P := fun x => KeptR m s0 x) ?_ ?_
  · refine KeptR.next ?_
    exact h
  · extract_lets +onlyGivenNames x3
    clear_value x3
    refine KeptR.next ?_
    refine activeChange_kept (sub hm) ?_
    refine emit_kept (sub hm) ?_
    refine raise_kept (sub hm) ?_
    refine ite_app_kept (P := fun x => Kept m s0 x) ?_ ?_
    · refine fset_kept (sub hm) ?_
      refine fset_kept (sub hm) ?_
      exact h
    · refine id_kept (P := fun x => Kept m s0 x) ?_
      refine fset_kept (sub hm) ?_
      exact h

theorem suspendBoth_kept {α : Type} {m : State → α} (hm : ∀ u, m u = m { u with regs := [], evq := [], out := [], msixPend := 0, recs := [] })
    {s0 s : State} (h : Kept m s0 s) :
    Kept m s0 (suspendBoth s) := by
  unfold suspendBoth
  refine suspend_kept (sub hm) ?_
  refine suspend_kept (sub hm) ?_
  exact h

theorem execVmotWarning_kept {α : Type} {m : State → α} (hm : ∀ u, m u = m { u with regs := [], evq := [], out := [], msixPend := 0, recs := [] })
    {s0 s : State} {a0} (h : Kept m s0 s) :
    KeptR m s0 (execVmotWarning a0 s) := by
  unfold execVmotWarning
  extract_lets +onlyGivenNames x1
  clear_value x1
  refine KeptR.next ?_
  refine ite_kept (P := fun x => Kept m s0 x) ?_ ?_
  · refine busReads_kept (sub hm) ?_
    exact h
  · refine emit_kept (sub hm) ?_
    refine cnt_kept (sub hm) ?_
    refine raise_kept (sub hm) ?_
    refine fset_kept (sub hm) ?_
    refine suspendBoth_kept (sub hm) ?_
    refine busReads_kept (sub hm) ?_
    exact h

theorem execCoreWarning_kept {α : Type} {m : State → α} (hm : ∀ u, m u = m { u with regs := [], evq := [], out := [], msixPend := 0, recs := [] })
    {s0 s : State} {a0} (h : Kept m s0 s) :
    KeptR m s0 (execCoreWarning a0 s) := by
  unfold execCoreWarning
  extract_lets +onlyGivenNames x1
  clear_value x1
  refine KeptR.next ?_
  refine ite_kept (P := fun x => Kept m s0 x) ?_ ?_
  · refine coreReads_kept (sub hm) ?_
    exact h
  · refine emit_kept (sub hm) ?_
    refine cnt_kept (sub hm) ?_
    refine raise_kept (sub hm) ?_
    refine fset_kept (sub hm) ?_
    refine suspendBoth_kept (sub hm) ?_
    refine coreReads_kept (sub hm) ?_
    exact h

theorem heldHoming_kept {α : Type} {m : State → α} (hm : ∀ u, m u = m { u with regs := [], sleds := [] })
    {s0 s : State} {a0} (h : Kept m s0 s) :
    Kept m s0 (heldHoming a0 s) := by
  unfold heldHoming
  refine ite_kept (P := fun x => Kept m s0 x) ?_ ?_
  · refine homeStart_kept (sub hm) ?_
    refine setSled_kept (sub hm) ?_
    exact h
  · exact h

theorem execWarningEnd_kept {α : Type} {m : State → α} (hm : ∀ u, m u = m { u with regs := [], evq := [], out := [], msixPend := 0, sleds := [] })
    {s0 s : State} {a0 a1 a2} (h : Kept m s0 s) :
    KeptR m s0 (execWarningEnd a0 a1 a2 s) := by
  unfold execWarningEnd
  extract_lets +onlyGivenNames x1
  clear_value x1
  refine KeptR.next ?_
  refine ite_kept (P := fun x => Kept m s0 x) ?_ ?_
  · refine ite_kept (P := fun x => Kept m s0 x) ?_ ?_
    · exact h
    · refine emit_kept (sub hm) ?_
      refine raise_kept (sub hm) ?_
      refine fset_kept (sub hm) ?_
      refine fmin_kept (sub hm) ?_
      exact h
  · refine ite_kept (P := fun x => Kept m s0 x) ?_ ?_
    · exact h
    · refine heldHoming_kept (sub hm) ?_
      refine heldHoming_kept (sub hm) ?_
      refine emit_kept (sub hm) ?_
      refine raise_kept (sub hm) ?_
      refine fset_kept (sub hm) ?_
      refine fmin_kept (sub hm) ?_
      exact h

theorem resetLevel_kept {α : Type} {m : State → α} (hm : ∀ u, m u = m { u with regs := [], evq := [], out := [], msixPend := 0, links := [], recs := [], loops := [], heads := [], spin := {}, sleds := [], pwr := {} })
    {s0 s : State} (h : Kept m s0 s) :
    Kept m s0 (resetLevel s) := by
  unfold resetLevel
  refine lostFeedback_kept (sub hm) ?_
  refine lostFeedback_kept (sub hm) ?_
  refine motorsSafe_kept (sub hm) ?_
  refine tripBoth_kept (sub hm) ?_
  exact h

theorem execVmotResetLevel_kept {α : Type} {m : State → α} (hm : ∀ u, m u = m { u with regs := [], evq := [], out := [], msixPend := 0, links := [], recs := [], loops := [], heads := [], spin := {}, sleds := [], pwr := {} })
    {s0 s : State} {a0} (h : Kept m s0 s) :
    KeptR m s0 (execVmotResetLevel a0 s) := by
  unfold execVmotResetLevel
  extract_lets +onlyGivenNames x1
  clear_value x1
  extract_lets +onlyGivenNames x2
  clear_value x2
  refine KeptR.next ?_
  refine ite_kept (P := fun x => Kept m s0 x) ?_ ?_
  · refine busReads_kept (sub hm) ?_
    exact h
  · refine emit_kept (sub hm) ?_
    refine cnt_kept (sub hm) ?_
    refine raise_kept (sub hm) ?_
    refine fault_kept (sub hm) ?_
    refine resetLevel_kept (sub hm) ?_
    refine fset_kept (sub hm) ?_
    refine busReads_kept (sub hm) ?_
    exact h

theorem execVmotResetRecovery_kept {α : Type} {m : State → α} (hm : ∀ u, m u = m { u with regs := [], evq := [], out := [], msixPend := 0, spin := {}, sleds := [], pwr := {} })
    {s0 s : State} {a0 a1} (h : Kept m s0 s) :
    KeptR m s0 (execVmotResetRecovery a0 a1 s) := by
  unfold execVmotResetRecovery
  extract_lets +onlyGivenNames x1
  clear_value x1
  refine KeptR.next ?_
  refine ite_kept (P := fun x => Kept m s0 x) ?_ ?_
  · exact h
  · refine motorsResume_kept (sub hm) ?_
    refine emit_kept (sub hm) ?_
    refine raise_kept (sub hm) ?_
    refine fset_kept (sub hm) ?_
    refine fset_kept (sub hm) ?_
    refine fmin_kept (sub hm) ?_
    exact h

theorem execOverVoltageWarning_kept {α : Type} {m : State → α} (hm : ∀ u, m u = m { u with regs := [], evq := [], out := [], msixPend := 0 })
    {s0 s : State} {a0} (h : Kept m s0 s) :
    KeptR m s0 (execOverVoltageWarning a0 s) := by
  unfold execOverVoltageWarning
  extract_lets +onlyGivenNames x1
  clear_value x1
  refine KeptR.next ?_
  refine ite_kept (P := fun x => Kept m s0 x) ?_ ?_
  · refine busReads_kept (sub hm) ?_
    exact h
  · refine emit_kept (sub hm) ?_
    refine cnt_kept (sub hm) ?_
    refine raise_kept (sub hm) ?_
    refine fset_kept (sub hm) ?_
    refine busReads_kept (sub hm) ?_
    exact h

theorem execOverVoltageTrip_kept {α : Type} {m : State → α} (hm : ∀ u, m u = m { u with regs := [], evq := [], out := [], msixPend := 0, links := [], recs := [], loops := [], heads := [], spin := {}, sleds := [], pwr := {} })
    {s0 s : State} {a0} (h : Kept m s0 s) :
    KeptR m s0 (execOverVoltageTrip a0 s) := by
  unfold execOverVoltageTrip
  extract_lets +onlyGivenNames x1
  clear_value x1
  refine KeptR.next ?_
  refine ite_kept (P := fun x => Kept m s0 x) ?_ ?_
  · refine busReads_kept (sub hm) ?_
    exact h
  · refine emit_kept (sub hm) ?_
    refine cnt_kept (sub hm) ?_
    refine raise_kept (sub hm) ?_
    refine fault_kept (sub hm) ?_
    refine resetLevel_kept (sub hm) ?_
    refine fset_kept (sub hm) ?_
    refine busReads_kept (sub hm) ?_
    exact h

theorem execOverVoltageRecovery_kept {α : Type} {m : State → α} (hm : ∀ u, m u = m { u with regs := [], evq := [], out := [], msixPend := 0, spin := {}, sleds := [], pwr := {} })
    {s0 s : State} {a0 a1} (h : Kept m s0 s) :
    KeptR m s0 (execOverVoltageRecovery a0 a1 s) := by
  unfold execOverVoltageRecovery
  extract_lets +onlyGivenNames x1
  clear_value x1
  extract_lets +onlyGivenNames x2
  clear_value x2
  refine KeptR.next ?_
  refine ite_kept (P := fun x => Kept m s0 x) ?_ ?_
  · exact h
  · refine ite_app_kept (P := fun x => Kept m s0 x) ?_ ?_
    · refine motorsResume_kept (sub hm) ?_
      refine emit_kept (sub hm) ?_
      refine raise_kept (sub hm) ?_
      refine fset_kept (sub hm) ?_
      refine fset_kept (sub hm) ?_
      exact h
    · refine id_kept (P := fun x => Kept m s0 x) ?_
      refine emit_kept (sub hm) ?_
      refine raise_kept (sub hm) ?_
      refine fset_kept (sub hm) ?_
      refine fset_kept (sub hm) ?_
      exact h

theorem execCoreResetLevel_kept {α : Type} {m : State → α} (hm : ∀ u, m u = m { u with regs := [], evq := [], out := [], msix := [], msixPend := 0, msixMask := false, disc := {}, ends := [], lanes := [], links := [], recs := [], engs := [], ustore := [], nstore := [], dmem := [], pgs := [], loops := [], heads := [], spin := {}, sleds := [], chans := [], commons := [], frames := [], blanks := [], dec := {}, encoded := [], opcs := [], betas := [], mem := {}, lanesC := [], claims := [], cl := {}, port := {}, vault := {}, pwr := {}, dev := {}, obs := {} })
    {s0 s : State} {a0} (h : Kept m s0 s) :
    KeptR m s0 (execCoreResetLevel a0 s) := by
  unfold execCoreResetLevel
  refine KeptR.next ?_
  refine warmReset_kept (sub hm) ?_
  refine emit_kept (sub hm) ?_
  refine fmin_kept (sub hm) ?_
  refine fset_kept (sub hm) ?_
  exact h

theorem pmbStatus_kept {α : Type} {m : State → α} (hm : ∀ u, m u = m { u with regs := [], evq := [], out := [], msixPend := 0 })
    {s0 s : State} {a0 a1} (h : Kept m s0 s) :
    Kept m s0 (pmbStatus a0 a1 s) := by
  unfold pmbStatus
  extract_lets +onlyGivenNames x1
  have h2 : Kept m s0 x1 := by
    unfold x1
    refine fset_kept (sub hm) ?_
    exact h
  clear_value x1
  refine ite_kept (P := fun x => Kept m s0 x) ?_ ?_
  · exact h2
  · refine emit_kept (sub hm) ?_
    refine cnt_kept (sub hm) ?_
    refine raise_kept (sub hm) ?_
    exact h2

theorem pmbRead_kept {α : Type} {m : State → α} (hm : ∀ u, m u = m { u with regs := [], evq := [], out := [], msixPend := 0 })
    {s0 s : State} {a1} (h : Kept m s0 s) :
    Kept m s0 (pmbRead s a1) := by
  unfold pmbRead
  extract_lets +onlyGivenNames x1
  clear_value x1
  refine ite_kept (P := fun x => Kept m s0 x) ?_ ?_
  · refine pmbFail_kept (sub hm) ?_
    exact h
  · refine fset_kept (sub hm) ?_
    refine fset_kept (sub hm) ?_
    refine pmbStatus_kept (sub hm) ?_
    exact h

theorem execPmbusPoll_kept {α : Type} {m : State → α} (hm : ∀ u, m u = m { u with regs := [], evq := [], out := [], msixPend := 0 })
    {s0 s : State} {a0} (h : Kept m s0 s) :
    KeptR m s0 (execPmbusPoll a0 s) := by
  unfold execPmbusPoll
  refine KeptR.next ?_
  refine ite_kept (P := fun x => Kept m s0 x) ?_ ?_
  · exact h
  · refine foldl_kept (P := fun x => Kept m s0 x) ?_ ?_
    · intro y1 y2 y3
      refine pmbRead_kept (sub hm) ?_
      exact y3
    · exact h

theorem execPmbAlert_kept {α : Type} {m : State → α} (hm : ∀ u, m u = m { u with regs := [], evq := [], out := [], msixPend := 0 })
    {s0 s : State} {a0} (h : Kept m s0 s) :
    KeptR m s0 (execPmbAlert a0 s) := by
  unfold execPmbAlert
  refine KeptR.next ?_
  refine ite_kept (P := fun x => Kept m s0 x) ?_ ?_
  · exact h
  · refine foldl_kept (P := fun x => Kept m s0 x) ?_ ?_
    · intro y1 y2 y3
      refine pmbStatus_kept (sub hm) ?_
      exact y3
    · exact h

theorem pmbEnd_kept {α : Type} {m : State → α} (hm : ∀ u, m u = m { u with regs := [], evq := [], out := [], msixPend := 0 })
    {s0 s : State} {a0} (h : Kept m s0 s) :
    Kept m s0 (pmbEnd a0 s) := by
  unfold pmbEnd
  extract_lets +onlyGivenNames x1
  clear_value x1
  refine ite_kept (P := fun x => Kept m s0 x) ?_ ?_
  · exact h
  · extract_lets +onlyGivenNames x2
    clear_value x2
    refine raise_kept (sub hm) ?_
    refine ite_app_kept (P := fun x => Kept m s0 x) ?_ ?_
    · refine pmbFail_kept (sub hm) ?_
      refine ite_app_kept (P := fun x => Kept m s0 x) ?_ ?_
      · refine sticky_kept (sub hm) ?_
        refine ite_app_kept (P := fun x => Kept m s0 x) ?_ ?_
        · refine sticky_kept (sub hm) ?_
          refine ite_app_kept (P := fun x => Kept m s0 x) ?_ ?_
          · refine fset_kept (sub hm) ?_
            refine fsetB_kept (sub hm) ?_
            refine fsetB_kept (sub hm) ?_
            refine fsetB_kept (sub hm) ?_
            refine fset_kept (sub hm) ?_
            exact h
          · refine id_kept (P := fun x => Kept m s0 x) ?_
            refine fsetB_kept (sub hm) ?_
            refine fsetB_kept (sub hm) ?_
            refine fsetB_kept (sub hm) ?_
            refine fset_kept (sub hm) ?_
            exact h
        · refine id_kept (P := fun x => Kept m s0 x) ?_
          refine ite_app_kept (P := fun x => Kept m s0 x) ?_ ?_
          · refine fset_kept (sub hm) ?_
            refine fsetB_kept (sub hm) ?_
            refine fsetB_kept (sub hm) ?_
            refine fsetB_kept (sub hm) ?_
            refine fset_kept (sub hm) ?_
            exact h
          · refine id_kept (P := fun x => Kept m s0 x) ?_
            refine fsetB_kept (sub hm) ?_
            refine fsetB_kept (sub hm) ?_
            refine fsetB_kept (sub hm) ?_
            refine fset_kept (sub hm) ?_
            exact h
      · refine id_kept (P := fun x => Kept m s0 x) ?_
        refine ite_app_kept (P := fun x => Kept m s0 x) ?_ ?_
        · refine sticky_kept (sub hm) ?_
          refine ite_app_kept (P := fun x => Kept m s0 x) ?_ ?_
          · refine fset_kept (sub hm) ?_
            refine fsetB_kept (sub hm) ?_
            refine fsetB_kept (sub hm) ?_
            refine fsetB_kept (sub hm) ?_
            refine fset_kept (sub hm) ?_
            exact h
          · refine id_kept (P := fun x => Kept m s0 x) ?_
            refine fsetB_kept (sub hm) ?_
            refine fsetB_kept (sub hm) ?_
            refine fsetB_kept (sub hm) ?_
            refine fset_kept (sub hm) ?_
            exact h
        · refine id_kept (P := fun x => Kept m s0 x) ?_
          refine ite_app_kept (P := fun x => Kept m s0 x) ?_ ?_
          · refine fset_kept (sub hm) ?_
            refine fsetB_kept (sub hm) ?_
            refine fsetB_kept (sub hm) ?_
            refine fsetB_kept (sub hm) ?_
            refine fset_kept (sub hm) ?_
            exact h
          · refine id_kept (P := fun x => Kept m s0 x) ?_
            refine fsetB_kept (sub hm) ?_
            refine fsetB_kept (sub hm) ?_
            refine fsetB_kept (sub hm) ?_
            refine fset_kept (sub hm) ?_
            exact h
    · refine id_kept (P := fun x => Kept m s0 x) ?_
      refine ite_app_kept (P := fun x => Kept m s0 x) ?_ ?_
      · refine sticky_kept (sub hm) ?_
        refine ite_app_kept (P := fun x => Kept m s0 x) ?_ ?_
        · refine sticky_kept (sub hm) ?_
          refine ite_app_kept (P := fun x => Kept m s0 x) ?_ ?_
          · refine fset_kept (sub hm) ?_
            refine fsetB_kept (sub hm) ?_
            refine fsetB_kept (sub hm) ?_
            refine fsetB_kept (sub hm) ?_
            refine fset_kept (sub hm) ?_
            exact h
          · refine id_kept (P := fun x => Kept m s0 x) ?_
            refine fsetB_kept (sub hm) ?_
            refine fsetB_kept (sub hm) ?_
            refine fsetB_kept (sub hm) ?_
            refine fset_kept (sub hm) ?_
            exact h
        · refine id_kept (P := fun x => Kept m s0 x) ?_
          refine ite_app_kept (P := fun x => Kept m s0 x) ?_ ?_
          · refine fset_kept (sub hm) ?_
            refine fsetB_kept (sub hm) ?_
            refine fsetB_kept (sub hm) ?_
            refine fsetB_kept (sub hm) ?_
            refine fset_kept (sub hm) ?_
            exact h
          · refine id_kept (P := fun x => Kept m s0 x) ?_
            refine fsetB_kept (sub hm) ?_
            refine fsetB_kept (sub hm) ?_
            refine fsetB_kept (sub hm) ?_
            refine fset_kept (sub hm) ?_
            exact h
      · refine id_kept (P := fun x => Kept m s0 x) ?_
        refine ite_app_kept (P := fun x => Kept m s0 x) ?_ ?_
        · refine sticky_kept (sub hm) ?_
          refine ite_app_kept (P := fun x => Kept m s0 x) ?_ ?_
          · refine fset_kept (sub hm) ?_
            refine fsetB_kept (sub hm) ?_
            refine fsetB_kept (sub hm) ?_
            refine fsetB_kept (sub hm) ?_
            refine fset_kept (sub hm) ?_
            exact h
          · refine id_kept (P := fun x => Kept m s0 x) ?_
            refine fsetB_kept (sub hm) ?_
            refine fsetB_kept (sub hm) ?_
            refine fsetB_kept (sub hm) ?_
            refine fset_kept (sub hm) ?_
            exact h
        · refine id_kept (P := fun x => Kept m s0 x) ?_
          refine ite_app_kept (P := fun x => Kept m s0 x) ?_ ?_
          · refine fset_kept (sub hm) ?_
            refine fsetB_kept (sub hm) ?_
            refine fsetB_kept (sub hm) ?_
            refine fsetB_kept (sub hm) ?_
            refine fset_kept (sub hm) ?_
            exact h
          · refine id_kept (P := fun x => Kept m s0 x) ?_
            refine fsetB_kept (sub hm) ?_
            refine fsetB_kept (sub hm) ?_
            refine fsetB_kept (sub hm) ?_
            refine fset_kept (sub hm) ?_
            exact h

theorem execPmbCmd_kept {α : Type} {m : State → α} (hm : ∀ u, m u = m { u with regs := [], evq := [], out := [], msixPend := 0 })
    {s0 s : State} {a0} (h : Kept m s0 s) :
    KeptR m s0 (execPmbCmd a0 s) := by
  unfold execPmbCmd
  refine KeptR.next ?_
  split
  · rename_i v1 v2
    refine pmbEnd_kept (sub hm) ?_
    exact h
  · rename_i v3
    refine pmbGo_kept (sub hm) ?_
    exact h

theorem execClockCheck_kept {α : Type} {m : State → α} (hm : ∀ u, m u = m { u with regs := [], evq := [], out := [], msixPend := 0, links := [], recs := [] })
    {s0 s : State} {a0 a1 a2 a3} (h : Kept m s0 s) :
    KeptR m s0 (execClockCheck a0 a1 a2 a3 s) := by
  unfold execClockCheck
  extract_lets +onlyGivenNames x1
  clear_value x1
  extract_lets +onlyGivenNames x2
  have h3 : Kept m s0 x2 := by
    unfold x2
    refine ite_app_kept (P := fun x => Kept m s0 x) ?_ ?_
    · refine id_kept (P := fun x => Kept m s0 x) ?_
      refine fsetB_kept (sub hm) ?_
      refine fset_kept (sub hm) ?_
      refine fset_kept (sub hm) ?_
      exact h
    · refine raise_kept (sub hm) ?_
      refine fsetB_kept (sub hm) ?_
      refine fset_kept (sub hm) ?_
      refine fset_kept (sub hm) ?_
      exact h
  clear_value x2
  refine KeptR.next ?_
  refine foldl_kept (P := fun x => Kept m s0 x) ?_ ?_
  · intro y4 y5 y6
    refine ite_kept (P := fun x => Kept m s0 x) ?_ ?_
    · refine ite_app_kept (P := fun x => Kept m s0 x) ?_ ?_
      · refine tripBoth_kept (sub hm) ?_
        refine emit_kept (sub hm) ?_
        refine cnt_kept (sub hm) ?_
        refine fault_kept (sub hm) ?_
        refine raise_kept (sub hm) ?_
        exact y6
      · refine id_kept (P := fun x => Kept m s0 x) ?_
        refine emit_kept (sub hm) ?_
        refine cnt_kept (sub hm) ?_
        refine fault_kept (sub hm) ?_
        refine raise_kept (sub hm) ?_
        exact y6
    · exact y6
  · exact h3

theorem execReferenceLost_kept {α : Type} {m : State → α} (hm : ∀ u, m u = m { u with regs := [], evq := [], out := [], msix := [], msixPend := 0, msixMask := false, disc := {}, ends := [], lanes := [], links := [], recs := [], engs := [], ustore := [], nstore := [], dmem := [], pgs := [], loops := [], heads := [], spin := {}, sleds := [], chans := [], commons := [], frames := [], blanks := [], dec := {}, encoded := [], opcs := [], betas := [], mem := {}, lanesC := [], claims := [], cl := {}, port := {}, vault := {}, pwr := {}, dev := {}, obs := {} })
    {s0 s : State} (h : Kept m s0 s) :
    KeptR m s0 (execReferenceLost s) := by
  unfold execReferenceLost
  refine KeptR.next ?_
  refine warmReset_kept (sub hm) ?_
  refine emit_kept (sub hm) ?_
  refine fault_kept (sub hm) ?_
  refine raise_kept (sub hm) ?_
  refine fset_kept (sub hm) ?_
  refine tripBoth_kept (sub hm) ?_
  exact h

theorem execPllUnlock_kept {α : Type} {m : State → α} (hm : ∀ u, m u = m { u with regs := [], evq := [], out := [], msix := [], msixPend := 0, msixMask := false, disc := {}, ends := [], lanes := [], links := [], recs := [], engs := [], ustore := [], nstore := [], dmem := [], pgs := [], loops := [], heads := [], spin := {}, sleds := [], chans := [], commons := [], frames := [], blanks := [], dec := {}, encoded := [], opcs := [], betas := [], mem := {}, lanesC := [], claims := [], cl := {}, port := {}, vault := {}, pwr := {}, dev := {}, obs := {} })
    {s0 s : State} {a0} (h : Kept m s0 s) :
    KeptR m s0 (execPllUnlock a0 s) := by
  unfold execPllUnlock
  refine KeptR.next ?_
  refine warmReset_kept (sub hm) ?_
  refine emit_kept (sub hm) ?_
  refine cnt_kept (sub hm) ?_
  refine fault_kept (sub hm) ?_
  refine raise_kept (sub hm) ?_
  refine fset_kept (sub hm) ?_
  refine tripBoth_kept (sub hm) ?_
  exact h

theorem mountKey_kept {α : Type} {m : State → α} (hm : ∀ u, m u = m { u with regs := [], evq := [], disc := {}, vault := {} })
    {s0 s : State} {a0} (h : Kept m s0 s) :
    Kept m s0 (mountKey a0 s) := by
  unfold mountKey
  extract_lets +onlyGivenNames x1
  clear_value x1
  extract_lets +onlyGivenNames x2
  clear_value x2
  extract_lets +onlyGivenNames x3
  clear_value x3
  extract_lets +onlyGivenNames x4
  have h5 : Kept m s0 x4 := by
    unfold x4
    refine showDescr_kept (sub hm) ?_
    refine setDisc_kept (sub hm) ?_
    refine setVault_kept (sub hm) ?_
    exact h
  clear_value x4
  split
  · rename_i v6 v7
    refine keyDecision_kept (sub hm) ?_
    exact h5
  · rename_i v8
    refine enforce_kept (sub hm) ?_
    exact h5

theorem showRuns_kept {α : Type} {m : State → α} (hm : ∀ u, m u = m { u with regs := [] })
    {s0 s : State} {a0} (h : Kept m s0 s) :
    Kept m s0 (showRuns a0 s) := by
  unfold showRuns
  refine foldl_kept (P := fun x => Kept m s0 x) ?_ ?_
  · intro y1 y2 y3
    refine fset_kept (sub hm) ?_
    exact y3
  · exact h

theorem showDla_kept {α : Type} {m : State → α} (hm : ∀ u, m u = m { u with regs := [], evq := [] })
    {s0 s : State} {a0 a1 a2 a3 a4} (h : Kept m s0 s) :
    Kept m s0 (showDla a0 a1 a2 a3 a4 s) := by
  unfold showDla
  extract_lets +onlyGivenNames x1
  clear_value x1
  extract_lets +onlyGivenNames x2
  have h3 : Kept m s0 x2 := by
    unfold x2
    refine showFree_kept (sub hm) ?_
    refine showFree_kept (sub hm) ?_
    refine fset64_kept (sub hm) ?_
    refine setWseq_kept (sub hm) ?_
    refine fset_kept (sub hm) ?_
    refine fset_kept (sub hm) ?_
    refine fset_kept (sub hm) ?_
    refine fset_kept (sub hm) ?_
    refine fset_kept (sub hm) ?_
    refine fset_kept (sub hm) ?_
    refine fset_kept (sub hm) ?_
    refine fset_kept (sub hm) ?_
    refine fsetB_kept (sub hm) ?_
    refine fsetB_kept (sub hm) ?_
    refine fset_kept (sub hm) ?_
    refine fset64_kept (sub hm) ?_
    refine fset_kept (sub hm) ?_
    refine fset_kept (sub hm) ?_
    refine fset_kept (sub hm) ?_
    exact h
  clear_value x2
  extract_lets +onlyGivenNames x4
  have h5 : Kept m s0 x4 := by
    unfold x4
    refine foldl_kept (P := fun x => Kept m s0 x) ?_ ?_
    · intro y6 y7 y8
      refine fset_kept (sub hm) ?_
      exact y8
    · exact h3
  clear_value x4
  refine ite_kept (P := fun x => Kept m s0 x) ?_ ?_
  · exact h5
  · refine emit_kept (sub hm) ?_
    exact h5

theorem intentOutcome_kept {α : Type} {m : State → α} (hm : ∀ u, m u = m { u with regs := [], evq := [] })
    {s0 s : State} {a0 a1} (h : Kept m s0 s) :
    Kept m s0 (intentOutcome a0 a1 s) := by
  unfold intentOutcome
  extract_lets +onlyGivenNames x1
  clear_value x1
  refine emit_kept (sub hm) ?_
  refine fset_kept (sub hm) ?_
  exact h

theorem resolveReloc_kept {α : Type} {m : State → α} (hm : ∀ u, m u = m { u with regs := [], evq := [], out := [], disc := {} })
    {s0 s : State} {a0 a1} (h : Kept m s0 s) :
    Kept m s0 (resolveReloc a0 a1 s) := by
  unfold resolveReloc
  extract_lets +onlyGivenNames x1
  clear_value x1
  refine ite_kept (P := fun x => Kept m s0 x) ?_ ?_
  · refine intentOutcome_kept (sub hm) ?_
    exact h
  · refine ite_kept (P := fun x => Kept m s0 x) ?_ ?_
    · extract_lets +onlyGivenNames x2
      clear_value x2
      extract_lets +onlyGivenNames x3
      have h4 : KeptO m s0 x3 := by
        unfold x3
        refine ite_kept (P := fun x => KeptO m s0 x) ?_ ?_
        · refine KeptO.some ?_
          exact h
        · refine recordDefects_kept (sub hm) ?_
          refine setDisc_kept (sub hm) ?_
          exact h
      clear_value x3
      split
      · rename_i v5 v6 v7
        have h8 : Kept m s0 v6 := by
          refine (?_ : KeptO m s0 _) _ v7
          refine KeptO.bind ?_ ?_
          · exact h4
          · intro y9 y10
            refine recordIntent_kept (sub hm) ?_
            exact y10
        refine intentOutcome_kept (sub hm) ?_
        exact h8
      · rename_i v11 v12
        refine intentOutcome_kept (sub hm) ?_
        exact h
    · split
      · rename_i v14 v15 v16
        have h17 : Kept m s0 v15 := by
          refine (?_ : KeptO m s0 _) _ v16
          refine recordIntent_kept (sub hm) ?_
          exact h
        refine intentOutcome_kept (sub hm) ?_
        exact h17
      · rename_i v18 v19
        refine intentOutcome_kept (sub hm) ?_
        exact h

theorem resolveSeal_kept {α : Type} {m : State → α} (hm : ∀ u, m u = m { u with regs := [], evq := [], out := [], msixPend := 0, disc := {}, cl := {} })
    {s0 s : State} {a0 a1} (h : Kept m s0 s) :
    Kept m s0 (resolveSeal a0 a1 s) := by
  unfold resolveSeal
  extract_lets +onlyGivenNames x1
  clear_value x1
  extract_lets +onlyGivenNames x2
  clear_value x2
  extract_lets +onlyGivenNames x3
  have h4 : Kept m s0 x3 := by
    unfold x3
    refine showCopies_kept (sub hm) ?_
    exact h
  clear_value x3
  refine ite_kept (P := fun x => Kept m s0 x) ?_ ?_
  · refine ite_app_kept (P := fun x => Kept m s0 x) ?_ ?_
    · refine emit_kept (sub hm) ?_
      refine setSeal_kept (sub hm) ?_
      exact h4
    · refine id_kept (P := fun x => Kept m s0 x) ?_
      refine setSeal_kept (sub hm) ?_
      exact h4
  · refine ite_kept (P := fun x => Kept m s0 x) ?_ ?_
    · exact h4
    · refine ite_kept (P := fun x => Kept m s0 x) ?_ ?_
      · refine intentOutcome_kept (sub hm) ?_
        refine setSeal_kept (sub hm) ?_
        exact h4
      · extract_lets +onlyGivenNames x5
        have h6 : Kept m s0 x5 := by
          unfold x5
          refine sealFinish_kept (sub hm) ?_
          refine setSeal_kept (sub hm) ?_
          exact h4
        clear_value x5
        refine intentOutcome_kept (sub hm) ?_
        exact h6

theorem mounted_kept {α : Type} {m : State → α} (hm : ∀ u, m u = m { u with free := 0, regs := [], evq := [], out := [], msixPend := 0, disc := {}, cl := {}, port := {}, pwr := {}, dev := {} })
    {s0 s : State} {a0 a1} (h : Kept m s0 s) :
    Kept m s0 (mounted a0 a1 s) := by
  unfold mounted
  extract_lets +onlyGivenNames x1
  clear_value x1
  extract_lets +onlyGivenNames x2
  clear_value x2
  extract_lets +onlyGivenNames x3
  clear_value x3
  extract_lets +onlyGivenNames x4
  have h5 : Kept m s0 x4 := by
    unfold x4
    refine mediaEvent_kept (sub hm) ?_
    refine emit_kept (sub hm) ?_
    refine raise_kept (sub hm) ?_
    refine setDev_kept (sub hm) ?_
    refine cnt_kept (sub hm) ?_
    refine fset_kept (sub hm) ?_
    refine fset_kept (sub hm) ?_
    exact h
  clear_value x4
  extract_lets +onlyGivenNames x6
  have h7 : Kept m s0 x6 := by
    unfold x6
    refine ite_kept (P := fun x => Kept m s0 x) ?_ ?_
    · refine modeReached_kept (sub hm) ?_
      exact h5
    · exact h5
  clear_value x6
  refine foldl_kept (P := fun x => Kept m s0 x) ?_ ?_
  · intro y8 y9 y10
    split
    · rename_i v11 v12 v13
      refine ite_kept (P := fun x => Kept m s0 x) ?_ ?_
      · refine endNow_kept (sub hm) ?_
        exact y10
      · refine ite_kept (P := fun x => Kept m s0 x) ?_ ?_
        · refine withDisc_kept (sub hm) ?_
          exact y10
        · exact y10
    · rename_i v14 v15
      exact y10
  · exact h7

theorem mountDla_kept {α : Type} {m : State → α} (hm : ∀ u, m u = m { u with free := 0, regs := [], evq := [], out := [], msixPend := 0, disc := {}, engs := [], loops := [], spin := {}, cl := {}, port := {}, vault := {}, pwr := {}, dev := {} })
    {s0 s : State} {a0 a1 a2 a3 a4} (h : Kept m s0 s) :
    Kept m s0 (mountDla a0 a1 a2 a3 a4 s) := by
  unfold mountDla
  extract_lets +onlyGivenNames x1
  clear_value x1
  extract_lets +onlyGivenNames x2
  clear_value x2
  refine ite_kept (P := fun x => Kept m s0 x) ?_ ?_
  · refine mountFail_kept (sub hm) ?_
    exact h
  · refine ite_kept (P := fun x => Kept m s0 x) ?_ ?_
    · refine mountFail_kept (sub hm) ?_
      exact h
    · extract_lets +onlyGivenNames x3
      clear_value x3
      extract_lets +onlyGivenNames x4
      clear_value x4
      extract_lets +onlyGivenNames x5
      clear_value x5
      extract_lets +onlyGivenNames x6
      clear_value x6
      split
      · rename_i v7 v8 v9 v10 v11
        extract_lets +onlyGivenNames x12
        have h13 : Kept m s0 x12 := by
          unfold x12
          refine mountKey_kept (sub hm) ?_
          refine showRuns_kept (sub hm) ?_
          refine showDla_kept (sub hm) ?_
          refine setDisc_kept (sub hm) ?_
          exact h
        clear_value x12
        extract_lets +onlyGivenNames x14
        have h15 : Kept m s0 x14 := by
          unfold x14
          refine foldl_kept (P := fun x => Kept m s0 x) ?_ ?_
          · intro y16 y17 y18
            refine resolveReloc_kept (sub hm) ?_
            exact y18
          · exact h13
        clear_value x14
        extract_lets +onlyGivenNames x19
        have h20 : Kept m s0 x19 := by
          unfold x19
          refine resolveSeal_kept (sub hm) ?_
          refine resolveSeal_kept (sub hm) ?_
          exact h15
        clear_value x19
        refine mounted_kept (sub hm) ?_
        exact h20

theorem mountLegacy_kept {α : Type} {m : State → α} (hm : ∀ u, m u = m { u with free := 0, regs := [], evq := [], out := [], msixPend := 0, disc := {}, engs := [], loops := [], spin := {}, cl := {}, port := {}, vault := {}, pwr := {}, dev := {} })
    {s0 s : State} {a0 a1 a2 a3 a4 a5} (h : Kept m s0 s) :
    Kept m s0 (mountLegacy a0 a1 a2 a3 a4 a5 s) := by
  unfold mountLegacy
  extract_lets +onlyGivenNames x1
  clear_value x1
  refine ite_kept (P := fun x => Kept m s0 x) ?_ ?_
  · refine mountFail_kept (sub hm) ?_
    exact h
  · refine mounted_kept (sub hm) ?_
    refine enforce_kept (sub hm) ?_
    refine setVault_kept (sub hm) ?_
    refine fset_kept (sub hm) ?_
    refine fsetB_kept (sub hm) ?_
    refine fsetB_kept (sub hm) ?_
    refine fset_kept (sub hm) ?_
    refine fset_kept (sub hm) ?_
    refine fset_kept (sub hm) ?_
    refine fset_kept (sub hm) ?_
    refine fset_kept (sub hm) ?_
    refine setDisc_kept (sub hm) ?_
    exact h

theorem execDlaMount_kept {α : Type} {m : State → α} (hm : ∀ u, m u = m { u with free := 0, regs := [], evq := [], out := [], msixPend := 0, disc := {}, engs := [], loops := [], spin := {}, cl := {}, port := {}, vault := {}, pwr := {}, dev := {} })
    {s0 s : State} {a0} (h : Kept m s0 s) :
    KeptR m s0 (execDlaMount a0 s) := by
  unfold execDlaMount
  refine KeptR.next ?_
  refine ite_kept (P := fun x => Kept m s0 x) ?_ ?_
  · exact h
  · split
    · rename_i v1 v2 v3 v4 v5 v6
      refine mountDla_kept (sub hm) ?_
      exact h
    · rename_i v7 v8 v9 v10 v11 v12 v13
      refine mountLegacy_kept (sub hm) ?_
      exact h

theorem execMountFail_kept {α : Type} {m : State → α} (hm : ∀ u, m u = m { u with regs := [], evq := [], out := [], msixPend := 0, engs := [], loops := [], spin := {}, cl := {}, port := {}, dev := {} })
    {s0 s : State} {a0 a1} (h : Kept m s0 s) :
    KeptR m s0 (execMountFail a0 a1 s) := by
  unfold execMountFail
  refine KeptR.next ?_
  refine ite_kept (P := fun x => Kept m s0 x) ?_ ?_
  · refine mountFail_kept (sub hm) ?_
    exact h
  · exact h

theorem execEventArrival_kept {α : Type} {m : State → α} (hm : ∀ u, m u = m { u with regs := [], evq := [], out := [], msixPend := 0, obs := {} })
    {s0 s : State} {a0} (h : Kept m s0 s) :
    KeptR m s0 (execEventArrival a0 s) := by
  unfold execEventArrival
  refine KeptR.next ?_
  split
  · rename_i v1 v2 v3
    refine arrive_kept (sub hm) ?_
    refine Kept.with hm ?_
    exact h
  · rename_i v4 v5
    exact h

theorem execEventCommit_kept {α : Type} {m : State → α} (hm : ∀ u, m u = m { u with regs := [], out := [], msixPend := 0, dev := {}, obs := {} })
    {s0 s : State} {a0} (h : Kept m s0 s) :
    KeptR m s0 (execEventCommit a0 s) := by
  unfold execEventCommit
  refine KeptR.next ?_
  refine ite_kept (P := fun x => Kept m s0 x) ?_ ?_
  · exact h
  · refine ite_kept (P := fun x => Kept m s0 x) ?_ ?_
    · refine fault_kept (sub hm) ?_
      exact h
    · refine showLog_kept (sub hm) ?_
      refine endEpisode_kept (sub hm) ?_
      refine commitOldest_kept (sub hm) ?_
      exact h

theorem execDropEpisodeEnd_kept {α : Type} {m : State → α} (hm : ∀ u, m u = m { u with regs := [], obs := {} })
    {s0 s : State} (h : Kept m s0 s) :
    KeptR m s0 (execDropEpisodeEnd s) := by
  unfold execDropEpisodeEnd
  refine KeptR.next ?_
  refine endEpisode_kept (sub hm) ?_
  exact h

theorem execPostCtrl_kept {α : Type} {m : State → α} (hm : ∀ u, m u = m { u with regs := [], evq := [] })
    {s0 s : State} {a0} (h : Kept m s0 s) :
    KeptR m s0 (execPostCtrl a0 s) := by
  unfold execPostCtrl
  refine KeptR.next ?_
  refine postEvent_kept (sub hm) ?_
  exact h

theorem execLogClearRun_kept {α : Type} {m : State → α} (hm : ∀ u, m u = m { u with regs := [], out := [], msixPend := 0, vault := {}, dev := {}, obs := {} })
    {s0 s : State} {a0} (h : Kept m s0 s) :
    KeptR m s0 (execLogClearRun a0 s) := by
  unfold execLogClearRun
  refine KeptR.next ?_
  split
  · rename_i v1 v2 v3 v4
    refine ite_kept (P := fun x => Kept m s0 x) ?_ ?_
    · exact h
    · refine clearLog_kept (sub hm) ?_
      refine Kept.with hm ?_
      exact h
  · rename_i v5 v6
    exact h

theorem execRdIdxWrite_kept {α : Type} {m : State → α} (hm : ∀ u, m u = m { u with regs := [] })
    {s0 s : State} {a0} (h : Kept m s0 s) :
    KeptR m s0 (execRdIdxWrite a0 s) := by
  unfold execRdIdxWrite
  refine KeptR.next ?_
  refine readLog_kept (sub hm) ?_
  exact h

theorem execCounterOverflow_kept {α : Type} {m : State → α} (hm : ∀ u, m u = m { u with regs := [], out := [], msixPend := 0 })
    {s0 s : State} {a0} (h : Kept m s0 s) :
    KeptR m s0 (execCounterOverflow a0 s) := by
  unfold execCounterOverflow
  extract_lets +onlyGivenNames x1
  clear_value x1
  extract_lets +onlyGivenNames x2
  have h3 : Kept m s0 x2 := by
    unfold x2
    refine ite_kept (P := fun x => Kept m s0 x) ?_ ?_
    · refine fset_kept (sub hm) ?_
      exact h
    · refine ite_kept (P := fun x => Kept m s0 x) ?_ ?_
      · refine fset_kept (sub hm) ?_
        refine fset_kept (sub hm) ?_
        exact h
      · refine fset_kept (sub hm) ?_
        exact h
  clear_value x2
  refine KeptR.next ?_
  refine pmcAdvance_kept (sub hm) ?_
  exact h3

theorem execPmcHold_kept {α : Type} {m : State → α} (hm : ∀ u, m u = m { u with regs := [] })
    {s0 s : State} {a0} (h : Kept m s0 s) :
    KeptR m s0 (execPmcHold a0 s) := by
  unfold execPmcHold
  refine KeptR.next ?_
  refine fsetB_kept (sub hm) ?_
  exact h

theorem execValWrite_kept {α : Type} {m : State → α} (hm : ∀ u, m u = m { u with regs := [] })
    {s0 s : State} {a0 a1} (h : Kept m s0 s) :
    KeptR m s0 (execValWrite a0 a1 s) := by
  unfold execValWrite
  refine KeptR.next ?_
  refine writeVal_kept (sub hm) ?_
  exact h

theorem execTagSeed_kept {α : Type} {m : State → α} (hm : ∀ u, m u = m { u with cl := {} })
    {s0 s : State} {a0} (h : Kept m s0 s) :
    KeptR m s0 (execTagSeed a0 s) := by
  unfold execTagSeed
  refine KeptR.next ?_
  refine seedTags_kept (sub hm) ?_
  exact h

theorem execRecPop_kept {α : Type} {m : State → α} (hm : ∀ u, m u = m { u with regs := [], cl := {} })
    {s0 s : State} (h : Kept m s0 s) :
    KeptR m s0 (execRecPop s) := by
  unfold execRecPop
  refine KeptR.next ?_
  refine popRecord_kept (sub hm) ?_
  exact h

theorem execStillFreeze_kept {α : Type} {m : State → α} (hm : ∀ u, m u = m { u with free := 0, regs := [], evq := [], out := [], msixPend := 0, links := [], recs := [], spin := {}, sleds := [], vault := {}, pwr := {}, obs := {} })
    {s0 s : State} {a0} (h : Kept m s0 s) :
    KeptR m s0 (execStillFreeze a0 s) := by
  unfold execStillFreeze
  refine KeptR.next ?_
  refine freeze_kept (sub hm) ?_
  exact h

theorem execExtest_kept {α : Type} {m : State → α} (hm : ∀ u, m u = m { u with regs := [], out := [], obs := {} })
    {s0 s : State} {a0 a1} (h : Kept m s0 s) :
    KeptR m s0 (execExtest a0 a1 s) := by
  unfold execExtest
  extract_lets +onlyGivenNames x1
  have h2 : Kept m s0 x1 := by
    unfold x1
    refine ite_kept (P := fun x => Kept m s0 x) ?_ ?_
    · exact h
    · refine send_kept (sub hm) ?_
      exact h
  clear_value x1
  extract_lets +onlyGivenNames x3
  have h4 : Kept m s0 x3 := by
    unfold x3
    refine send_kept (sub hm) ?_
    refine loadIr_kept (sub hm) ?_
    exact h2
  clear_value x3
  refine KeptR.next ?_
  refine send_kept (sub hm) ?_
  refine setObs_kept (sub hm) ?_
  exact h4

theorem execIdcode_kept {α : Type} {m : State → α} (hm : ∀ u, m u = m { u with regs := [], out := [], obs := {} })
    {s0 s : State} (h : Kept m s0 s) :
    KeptR m s0 (execIdcode s) := by
  unfold execIdcode
  refine KeptR.next ?_
  refine send_kept (sub hm) ?_
  refine loadIr_kept (sub hm) ?_
  exact h

theorem execSamplePreload_kept {α : Type} {m : State → α} (hm : ∀ u, m u = m { u with regs := [], out := [], obs := {} })
    {s0 s : State} {a0 a1} (h : Kept m s0 s) :
    KeptR m s0 (execSamplePreload a0 a1 s) := by
  unfold execSamplePreload
  extract_lets +onlyGivenNames x1
  have h2 : Kept m s0 x1 := by
    unfold x1
    refine send_kept (sub hm) ?_
    refine loadIr_kept (sub hm) ?_
    exact h
  clear_value x1
  refine KeptR.next ?_
  refine setObs_kept (sub hm) ?_
  exact h2

theorem execWindow_kept {α : Type} {m : State → α} (hm : ∀ u, m u = m { u with free := 0, regs := [], evq := [], out := [], msix := [], msixPend := 0, msixMask := false, disc := {}, ends := [], lanes := [], links := [], recs := [], engs := [], ustore := [], nstore := [], dmem := [], pgs := [], loops := [], heads := [], spin := {}, sleds := [], chans := [], commons := [], frames := [], blanks := [], dec := {}, encoded := [], opcs := [], betas := [], mem := {}, lanesC := [], claims := [], cl := {}, port := {}, vault := {}, pwr := {}, dev := {}, obs := {} })
    {s0 s : State} {a0} (h : Kept m s0 s) :
    KeptR m s0 (execWindow a0 s) := by
  unfold execWindow
  extract_lets +onlyGivenNames x1
  clear_value x1
  extract_lets +onlyGivenNames x2
  clear_value x2
  extract_lets +onlyGivenNames x3
  have h4 : Kept m s0 x3 := by
    unfold x3
    refine send_kept (sub hm) ?_
    refine loadIr_kept (sub hm) ?_
    exact h
  clear_value x3
  refine KeptR.next ?_
  refine ite_kept (P := fun x => Kept m s0 x) ?_ ?_
  · refine lullAccess_kept (sub hm) ?_
    exact h4
  · extract_lets +onlyGivenNames x5
    have h6 : Kept m s0 x5.2 := by
      unfold x5
      refine perform32_kept (sub hm) ?_
      exact h4
    clear_value x5
    refine ite_kept (P := fun x => Kept m s0 x) ?_ ?_
    · exact h6
    · refine setObs_kept (sub hm) ?_
      exact h6

theorem execStillRead_kept {α : Type} {m : State → α} (hm : ∀ u, m u = m { u with regs := [], evq := [], out := [], vault := {}, obs := {} })
    {s0 s : State} (h : Kept m s0 s) :
    KeptR m s0 (execStillRead s) := by
  unfold execStillRead
  extract_lets +onlyGivenNames x1
  clear_value x1
  refine ite_kept (P := fun x => KeptR m s0 x) ?_ ?_
  · extract_lets +onlyGivenNames x2
    have h3 : Kept m s0 x2 := by
      unfold x2
      refine measure_kept (sub hm) ?_
      refine cnt_kept (sub hm) ?_
      refine loadIr_kept (sub hm) ?_
      exact h
    clear_value x2
    refine KeptR.next ?_
    refine send_kept (sub hm) ?_
    refine emit_kept (sub hm) ?_
    exact h3
  · refine KeptR.next ?_
    refine send_kept (sub hm) ?_
    refine loadIr_kept (sub hm) ?_
    exact h

theorem execBypass_kept {α : Type} {m : State → α} (hm : ∀ u, m u = m { u with regs := [], out := [], obs := {} })
    {s0 s : State} (h : Kept m s0 s) :
    KeptR m s0 (execBypass s) := by
  unfold execBypass
  refine KeptR.next ?_
  refine send_kept (sub hm) ?_
  refine loadIr_kept (sub hm) ?_
  exact h

theorem execSemAcquire_kept {α : Type} {m : State → α} (hm : ∀ u, m u = m { u with regs := [], out := [], claims := [] })
    {s0 s : State} {a0 a1} (h : Kept m s0 s) :
    KeptR m s0 (execSemAcquire a0 a1 s) := by
  unfold execSemAcquire
  extract_lets +onlyGivenNames x1
  clear_value x1
  refine KeptR.next ?_
  refine ite_app_kept (P := fun x => Kept m s0 x) ?_ ?_
  · refine cnt_kept (sub hm) ?_
    refine showSem_kept (sub hm) ?_
    refine claimReads_kept (sub hm) ?_
    exact h
  · refine id_kept (P := fun x => Kept m s0 x) ?_
    refine showSem_kept (sub hm) ?_
    refine claimReads_kept (sub hm) ?_
    exact h

theorem execSemRel_kept {α : Type} {m : State → α} (hm : ∀ u, m u = m { u with regs := [], claims := [] })
    {s0 s : State} {a0 a1} (h : Kept m s0 s) :
    KeptR m s0 (execSemRel a0 a1 s) := by
  unfold execSemRel
  refine KeptR.next ?_
  refine semRelease_kept (sub hm) ?_
  exact h

theorem execForceRel_kept {α : Type} {m : State → α} (hm : ∀ u, m u = m { u with regs := [], evq := [], claims := [] })
    {s0 s : State} {a0 a1} (h : Kept m s0 s) :
    KeptR m s0 (execForceRel a0 a1 s) := by
  unfold execForceRel
  refine KeptR.next ?_
  refine semForce_kept (sub hm) ?_
  exact h

theorem execRegisterWrite_kept {α : Type} {m : State → α} (hm : ∀ u, m u = m { u with free := 0, regs := [], evq := [], out := [], msix := [], msixPend := 0, msixMask := false, disc := {}, ends := [], lanes := [], links := [], recs := [], engs := [], ustore := [], nstore := [], dmem := [], pgs := [], loops := [], heads := [], spin := {}, sleds := [], chans := [], commons := [], frames := [], blanks := [], dec := {}, encoded := [], opcs := [], betas := [], mem := {}, lanesC := [], claims := [], cl := {}, port := {}, vault := {}, pwr := {}, dev := {}, obs := {} })
    {s0 s : State} {a0 a1 a2 a3} (h : Kept m s0 s) :
    KeptR m s0 (execRegisterWrite a0 a1 a2 a3 s) := by
  unfold execRegisterWrite
  refine KeptR.next ?_
  refine windowAccess_kept (sub hm) ?_
  exact h

theorem execPairLoRead_kept {α : Type} {m : State → α} (hm : ∀ u, m u = m { u with free := 0, regs := [], evq := [], out := [], msix := [], msixPend := 0, msixMask := false, disc := {}, ends := [], lanes := [], links := [], recs := [], engs := [], ustore := [], nstore := [], dmem := [], pgs := [], loops := [], heads := [], spin := {}, sleds := [], chans := [], commons := [], frames := [], blanks := [], dec := {}, encoded := [], opcs := [], betas := [], mem := {}, lanesC := [], claims := [], cl := {}, port := {}, vault := {}, pwr := {}, dev := {}, obs := {} })
    {s0 s : State} {a0 a1} (h : Kept m s0 s) :
    KeptR m s0 (execPairLoRead a0 a1 s) := by
  unfold execPairLoRead
  refine KeptR.next ?_
  refine windowAccess_kept (sub hm) ?_
  exact h

theorem execPairLoWrite_kept {α : Type} {m : State → α} (hm : ∀ u, m u = m { u with free := 0, regs := [], evq := [], out := [], msix := [], msixPend := 0, msixMask := false, disc := {}, ends := [], lanes := [], links := [], recs := [], engs := [], ustore := [], nstore := [], dmem := [], pgs := [], loops := [], heads := [], spin := {}, sleds := [], chans := [], commons := [], frames := [], blanks := [], dec := {}, encoded := [], opcs := [], betas := [], mem := {}, lanesC := [], claims := [], cl := {}, port := {}, vault := {}, pwr := {}, dev := {}, obs := {} })
    {s0 s : State} {a0 a1 a2} (h : Kept m s0 s) :
    KeptR m s0 (execPairLoWrite a0 a1 a2 s) := by
  unfold execPairLoWrite
  refine KeptR.next ?_
  refine windowAccess_kept (sub hm) ?_
  exact h

theorem execPairCommitTimeout_kept {α : Type} {m : State → α} (hm : ∀ u, m u = m { u with free := 0, regs := [], evq := [], out := [], msix := [], msixPend := 0, msixMask := false, disc := {}, ends := [], lanes := [], links := [], recs := [], engs := [], ustore := [], nstore := [], dmem := [], pgs := [], loops := [], heads := [], spin := {}, sleds := [], chans := [], commons := [], frames := [], blanks := [], dec := {}, encoded := [], opcs := [], betas := [], mem := {}, lanesC := [], claims := [], cl := {}, port := {}, vault := {}, pwr := {}, dev := {}, obs := {} })
    {s0 s : State} {a0} (h : Kept m s0 s) :
    KeptR m s0 (execPairCommitTimeout a0 s) := by
  unfold execPairCommitTimeout
  refine KeptR.next ?_
  refine commitLo_kept (sub hm) ?_
  exact h

theorem execRclRead_kept {α : Type} {m : State → α} (hm : ∀ u, m u = m { u with free := 0, regs := [], evq := [], out := [], msix := [], msixPend := 0, msixMask := false, disc := {}, ends := [], lanes := [], links := [], recs := [], engs := [], ustore := [], nstore := [], dmem := [], pgs := [], loops := [], heads := [], spin := {}, sleds := [], chans := [], commons := [], frames := [], blanks := [], dec := {}, encoded := [], opcs := [], betas := [], mem := {}, lanesC := [], claims := [], cl := {}, port := {}, vault := {}, pwr := {}, dev := {}, obs := {} })
    {s0 s : State} {a0 a1 a2} (h : Kept m s0 s) :
    KeptR m s0 (execRclRead a0 a1 a2 s) := by
  unfold execRclRead
  refine KeptR.next ?_
  refine windowAccess_kept (sub hm) ?_
  exact h

theorem execPageTimeout_kept {α : Type} {m : State → α} (hm : ∀ u, m u = m { u with regs := [], out := [], msixPend := 0 })
    {s0 s : State} {a0 a1 a2} (h : Kept m s0 s) :
    KeptR m s0 (execPageTimeout a0 a1 a2 s) := by
  unfold execPageTimeout
  refine KeptR.next ?_
  refine ite_kept (P := fun x => Kept m s0 x) ?_ ?_
  · exact busError_kept (sub hm) h
  · exact answer_kept (sub hm) (busError_kept (sub hm) h)

theorem execCoreHalt_kept {α : Type} {m : State → α} (hm : ∀ u, m u = m { u with regs := [] })
    {s0 s : State} {a0} (h : Kept m s0 s) :
    KeptR m s0 (execCoreHalt a0 s) := by
  unfold execCoreHalt
  refine KeptR.next ?_
  refine haltCores_kept (sub hm) ?_
  exact h

theorem execPowerLoss_kept {α : Type} {m : State → α} (hm : ∀ u, m u = m { u with time := 0, prof := false, regs := [], evq := [], out := [], msix := [], msixPend := 0, msixMask := false, disc := {}, ends := [], lanes := [], links := [], recs := [], engs := [], ustore := [], nstore := [], dmem := [], pgs := [], loops := [], heads := [], spin := {}, sleds := [], chans := [], commons := [], frames := [], blanks := [], dec := {}, encoded := [], opcs := [], betas := [], mem := {}, lanesC := [], claims := [], cl := {}, port := {}, vault := {}, pwr := {}, dev := {}, obs := {} })
    {s0 s : State} {a0} (h : Kept m s0 s) :
    KeptR m s0 (execPowerLoss a0 s) := by
  unfold execPowerLoss
  extract_lets +onlyGivenNames x1
  have h2 : Kept m s0 x1 := by
    unfold x1
    refine keepNothing_kept (sub hm) ?_
    refine flushTo_kept (sub hm) ?_
    refine finishCopy_kept (sub hm) ?_
    refine resetSafe_kept (sub hm) ?_
    exact h
  clear_value x1
  refine KeptR.next ?_
  refine setDev_kept (sub hm) ?_
  exact h2

theorem execDiscPresDeasserted_kept {α : Type} {m : State → α} (hm : ∀ u, m u = m { u with regs := [], out := [], msixPend := 0, pwr := {}, dev := {} })
    {s0 s : State} (h : Kept m s0 s) :
    KeptR m s0 (execDiscPresDeasserted s) := by
  unfold execDiscPresDeasserted
  extract_lets +onlyGivenNames x1
  clear_value x1
  refine KeptR.next ?_
  refine ite_kept (P := fun x => Kept m s0 x) ?_ ?_
  · exact h
  · refine ite_app_kept (P := fun x => Kept m s0 x) ?_ ?_
    · refine fset_kept (sub hm) ?_
      beta_reduce
      refine setDev_kept (sub hm) ?_
      refine wakeSeen_kept (sub hm) ?_
      refine raise_kept (sub hm) ?_
      refine fset_kept (sub hm) ?_
      exact h
    · refine id_kept (P := fun x => Kept m s0 x) ?_
      beta_reduce
      refine setDev_kept (sub hm) ?_
      refine wakeSeen_kept (sub hm) ?_
      refine raise_kept (sub hm) ?_
      refine fset_kept (sub hm) ?_
      exact h

theorem execHostLinkResume_kept {α : Type} {m : State → α} (hm : ∀ u, m u = m { u with regs := [], out := [], msixPend := 0, port := {}, pwr := {} })
    {s0 s : State} {a0} (h : Kept m s0 s) :
    KeptR m s0 (execHostLinkResume a0 s) := by
  unfold execHostLinkResume
  refine KeptR.next ?_
  refine ite_kept (P := fun x => Kept m s0 x) ?_ ?_
  · refine ite_kept (P := fun x => Kept m s0 x) ?_ ?_
    · exact h
    · refine wakeSeen_kept (sub hm) ?_
      exact h
  · refine hostLink_kept (sub hm) ?_
    exact h

theorem sendPending_kept {α : Type} {m : State → α} (hm : ∀ u, m u = m { u with out := [], msixPend := 0 })
    {s0 s : State} (h : Kept m s0 s) :
    Kept m s0 (sendPending s) := by
  unfold sendPending
  refine ite_kept (P := fun x => Kept m s0 x) ?_ ?_
  · exact h
  · refine foldl_kept (P := fun x => Kept m s0 x) ?_ ?_
    · intro y1 y2 y3
      refine ite_kept (P := fun x => Kept m s0 x) ?_ ?_
      · refine sendVector_kept (sub hm) ?_
        refine Kept.with hm ?_
        exact y3
      · exact y3
    · exact h

theorem execPcieConfigurationWrite_kept {α : Type} {m : State → α} (hm : ∀ u, m u = m { u with regs := [], evq := [], out := [], msixPend := 0, msixMask := false, mem := {}, cl := {}, port := {} })
    {s0 s : State} {a0} (h : Kept m s0 s) :
    KeptR m s0 (execPcieConfigurationWrite a0 s) := by
  unfold execPcieConfigurationWrite
  extract_lets +onlyGivenNames x1
  clear_value x1
  refine KeptR.next ?_
  split
  · rename_i v2 v3
    extract_lets +onlyGivenNames x4
    have h5 : Kept m s0 x4 := by
      unfold x4
      refine fsetB_kept (sub hm) ?_
      exact h
    clear_value x4
    refine ite_kept (P := fun x => Kept m s0 x) ?_ ?_
    · refine dmaGo_kept (sub hm) ?_
      exact h5
    · exact h5
  · rename_i v6 v7 v8
    refine fset_kept (sub hm) ?_
    refine fset_kept (sub hm) ?_
    exact h
  · rename_i v9 v10 v11
    refine sendPending_kept (sub hm) ?_
    refine fsetB_kept (sub hm) ?_
    refine Kept.with hm ?_
    exact h
  · rename_i v12 v13
    refine fsetB_kept (sub hm) ?_
    exact h
  · rename_i v14 v15 v16
    refine setPorts_kept (sub hm) ?_
    exact h

theorem execMsiXTableWrite_kept {α : Type} {m : State → α} (hm : ∀ u, m u = m { u with out := [], msix := [], msixPend := 0 })
    {s0 s : State} {a0 a1 a2} (h : Kept m s0 s) :
    KeptR m s0 (execMsiXTableWrite a0 a1 a2 s) := by
  unfold execMsiXTableWrite
  refine KeptR.next ?_
  refine sendPending_kept (sub hm) ?_
  refine Kept.with hm ?_
  exact h

theorem execModeDeferTimeout_kept {α : Type} {m : State → α} (hm : ∀ u, m u = m { u with evq := [] })
    {s0 s : State} (h : Kept m s0 s) :
    KeptR m s0 (execModeDeferTimeout s) := by
  unfold execModeDeferTimeout
  refine KeptR.next ?_
  split
  · rename_i v1 v2 v3 v4
    extract_lets +onlyGivenNames x5
    clear_value x5
    refine emit_kept (sub hm) ?_
    exact h
  · rename_i v6 v7
    exact h

theorem execBootControlCopyRecorded_kept {α : Type} {m : State → α} (hm : ∀ u, m u = m { u with regs := [], out := [], msixPend := 0, dev := {} })
    {s0 s : State} (h : Kept m s0 s) :
    KeptR m s0 (execBootControlCopyRecorded s) := by
  unfold execBootControlCopyRecorded
  extract_lets +onlyGivenNames x1
  clear_value x1
  refine KeptR.next ?_
  refine ite_kept (P := fun x => Kept m s0 x) ?_ ?_
  · exact h
  · extract_lets +onlyGivenNames x2
    have h3 : Kept m s0 x2 := by
      unfold x2
      refine finishCopy_kept (sub hm) ?_
      exact h
    clear_value x2
    extract_lets +onlyGivenNames x4
    clear_value x4
    extract_lets +onlyGivenNames x5
    have h6 : Kept m s0 x5 := by
      unfold x5
      refine setDev_kept (sub hm) ?_
      exact h3
    clear_value x5
    refine ite_app_kept (P := fun x => Kept m s0 x) ?_ ?_
    · refine fset_kept (sub hm) ?_
      refine fset_kept (sub hm) ?_
      refine raise_kept (sub hm) ?_
      refine fset_kept (sub hm) ?_
      exact h6
    · refine id_kept (P := fun x => Kept m s0 x) ?_
      refine fset_kept (sub hm) ?_
      refine raise_kept (sub hm) ?_
      refine fset_kept (sub hm) ?_
      exact h6

theorem execRecoveryWriteDone_kept {α : Type} {m : State → α} (hm : ∀ u, m u = m { u with regs := [] })
    {s0 s : State} (h : Kept m s0 s) :
    KeptR m s0 (execRecoveryWriteDone s) := by
  unfold execRecoveryWriteDone
  refine KeptR.next ?_
  refine fset_kept (sub hm) ?_
  exact h

theorem execLogAreaEraseDone_kept {α : Type} {m : State → α} (hm : ∀ u, m u = m { u with regs := [], dev := {} })
    {s0 s : State} {a0} (h : Kept m s0 s) :
    KeptR m s0 (execLogAreaEraseDone a0 s) := by
  unfold execLogAreaEraseDone
  refine KeptR.next ?_
  refine ite_kept (P := fun x => Kept m s0 x) ?_ ?_
  · exact h
  · refine ite_kept (P := fun x => Kept m s0 x) ?_ ?_
    · extract_lets +onlyGivenNames x1
      clear_value x1
      refine fset_kept (sub hm) ?_
      refine flashErase_kept (sub hm) ?_
      exact h
    · refine fault_kept (sub hm) ?_
      exact h

theorem execWobbleNotLocked_kept {α : Type} {m : State → α} (hm : ∀ u, m u = m { u with regs := [] })
    {s0 s : State} {a0} (h : Kept m s0 s) :
    KeptR m s0 (execWobbleNotLocked a0 s) := by
  unfold execWobbleNotLocked
  refine KeptR.next ?_
  refine fault_kept (sub hm) ?_
  exact h

theorem execUnknownLibraryCommand_kept {α : Type} {m : State → α} (hm : ∀ u, m u = m { u with free := 0, regs := [], evq := [], out := [], msix := [], msixPend := 0, msixMask := false, disc := {}, ends := [], lanes := [], links := [], recs := [], engs := [], ustore := [], nstore := [], dmem := [], pgs := [], loops := [], heads := [], spin := {}, sleds := [], chans := [], commons := [], frames := [], blanks := [], dec := {}, encoded := [], opcs := [], betas := [], mem := {}, lanesC := [], claims := [], cl := {}, port := {}, vault := {}, pwr := {}, dev := {}, obs := {} })
    {s0 s : State} {a0} (h : Kept m s0 s) :
    KeptR m s0 (execUnknownLibraryCommand a0 s) := by
  unfold execUnknownLibraryCommand
  refine libCommand_kept (sub hm) ?_
  exact h

theorem takenFrom_kept {α : Type} {m : State → α} (hm : ∀ u, m u = m { u with regs := [], evq := [], out := [], msixPend := 0, recs := [], engs := [], heads := [] })
    {s0 s : State} {a0} (h : Kept m s0 s) :
    Kept m s0 (takenFrom a0 s) := by
  unfold takenFrom
  extract_lets +onlyGivenNames x1
  clear_value x1
  extract_lets +onlyGivenNames x2
  have h3 : Kept m s0 x2 := by
    unfold x2
    refine ite_kept (P := fun x => Kept m s0 x) ?_ ?_
    · refine gapFail_kept (sub hm) ?_
      exact h
    · exact h
  clear_value x2
  extract_lets +onlyGivenNames x4
  clear_value x4
  extract_lets +onlyGivenNames x5
  have h6 : Kept m s0 x5 := by
    unfold x5
    refine ite_kept (P := fun x => Kept m s0 x) ?_ ?_
    · refine setHead_kept (sub hm) ?_
      exact h3
    · exact h3
  clear_value x5
  refine seekFail_kept (sub hm) ?_
  exact h6

end Sys2Proof.Machine
end

