-- ==== Sys2Proof/WellFormed.lean ====
section
/-!
DEFINITION. Which commands the block can be sent: the operands of an `Instr` that a list or a number leaves too free.
-/
namespace Sys2Proof

/-- A requester of the register window (R613): 0 to 27. -/
def reqOk (req : Nat) : Bool := decide (req < 28)

/-- A corrected codeword (R84): twenty blocks, and no more symbols corrected than RS(544,514) can correct. -/
def CodewordIn.ok (c : CodewordIn) : Bool := decide (c.blocks.length = 20 ∧ c.corrected ≤ 15)

/-- Samples of the ten streams of a head, or none carried. -/
def rfOk (rf : List (List Int)) : Bool := decide (rf.length = 0 ∨ rf.length = 10)

/-- A sector payload: 2,048 bytes. -/
def sectorOk (bs : List Nat) : Bool := decide (bs.length = 2048) && bs.all (fun b => decide (b < 256))

/-- A cluster for the encoder (R324): 32 sector payloads, 32 mask bits, a 32-bit address. -/
def ClusterIn.ok (c : ClusterIn) : Bool :=
  decide (c.sectors.length = 32) && c.sectors.all sectorOk && decide (c.mask < 2 ^ 32) && decide (c.psa < 2 ^ 32)

/-- A power calibration run (R340): a layer of the side, and sixteen steps of each data beam. -/
def OpcIn.ok (r : OpcIn) : Bool :=
  decide (r.layer < 8) && decide (r.blocks.length = 8) && r.blocks.all (fun b => decide (b.length = 16))

/-- A verify read (R356) of a cluster that a 32-bit PSA names. -/
def VerifyIn.ok (v : VerifyIn) : Bool := decide (v.psa < 2 ^ 32)

/-- What a legacy disc's 32 sectors hold, or nothing for a DLA cluster (R299). -/
def legacyOk (l : List (Option (List (BitVec 8)))) : Bool :=
  decide (l.length = 0 ∨ l.length = 32) && l.all (fun x => x.all (fun bs => decide (bs.length = 2048)))

/-- An access within one 256-byte line (R365), with as many bytes as it writes. -/
def lineOk (addr len : Nat) (data : Option (List (BitVec 8))) : Bool :=
  decide (0 < len ∧ addr % 256 + len ≤ 256) && data.all (fun bs => decide (bs.length = len))

/-- The requesters that read a claim register in one cycle: at least one, each once. -/
def claimOk (reqs : List (Fin 28)) : Bool := decide (reqs ≠ []) && decide reqs.Nodup

/-- A command descriptor block: 6, 10, 12 or 16 bytes (R465). -/
def cdbOk (cdb : List (BitVec 8)) : Bool := decide (cdb.length = 6 ∨ cdb.length = 10 ∨ cdb.length = 12 ∨ cdb.length = 16)

/-- How a start goes: the outcome of each of the two store copies (R494). -/
def BootIn.ok (b : BootIn) : Bool := decide (b.tags.length ≤ 2)

/-- Regulator readings: each entry of the PMBus table at most once (R550). -/
def pollOk (rs : List PmbRead) : Bool := decide (rs.map PmbRead.entry).Nodup

/-- A command the block can be sent. -/
def Instr.wf : Instr → Bool
  | .powerOnReset boot _ => boot.ok
  | .resetRelease boot => boot.ok
  | .fecCodeword _ _ cw => cw.all CodewordIn.ok
  | .dmDataAccess _ req _ => reqOk req
  | .storeWindowWrite _ req _ _ => reqOk req
  | .jumpGapStart _ mon _ => decide (mon.length = 8)
  | .frameDelivery _ _ rf => rfOk rf
  | .defectStart _ _ _ rf => rfOk rf
  | .defectEnd _ _ _ rf => rfOk rf
  | .clusterOutcome _ legacy => legacyOk legacy
  | .squallReread _ legacy => legacyOk legacy
  | .clusterEncode c => c.ok
  | .opcRun r => r.ok
  | .recordingArm _ psas _ _ _ => decide (0 < psas.length ∧ psas.length ≤ 8)
  | .sealRun _ copies _ => decide (copies.length ≤ 16)
  | .verifyPass v => v.ok
  | .cacheRequest _ addr len data _ => lineOk addr.toNat len data
  | .trfClaim reqs => claimOk reqs
  | .packet cdb _ _ _ => decide (cdb.length = 12)
  | .requestSense _ cdb => cdbOk cdb
  | .inquiry _ cdb => cdbOk cdb
  | .startStopUnit _ cdb => cdbOk cdb
  | .preventAllowMediumRemoval _ cdb => cdbOk cdb
  | .readFormatCapacities _ cdb => cdbOk cdb
  | .read10 _ cdb => cdbOk cdb
  | .read12 _ cdb => cdbOk cdb
  | .write10 _ cdb => cdbOk cdb
  | .write12 _ cdb => cdbOk cdb
  | .verify10 _ cdb => cdbOk cdb
  | .readToc _ cdb _ => cdbOk cdb
  | .readDiscInformation _ cdb _ => cdbOk cdb
  | .readTrackInformation _ cdb _ => cdbOk cdb
  | .getConfiguration _ cdb => cdbOk cdb
  | .getEventStatusNotification _ cdb => cdbOk cdb
  | .reserveTrack _ cdb => cdbOk cdb
  | .closeTrackSession _ cdb => cdbOk cdb
  | .modeSense10 _ cdb => cdbOk cdb
  | .readBufferCapacity _ cdb => cdbOk cdb
  | .getPerformance _ cdb => cdbOk cdb
  | .mechanismStatus _ cdb => cdbOk cdb
  | .readDiscStructure _ cdb _ => cdbOk cdb
  | .readCd _ cdb => cdbOk cdb
  | .zvSeal _ cdb => cdbOk cdb
  | .zvSetMode _ cdb => cdbOk cdb
  | .zvVault _ cdb _ => cdbOk cdb
  | .mbxClaim _ reqs => claimOk reqs
  | .vlqClaim reqs => claimOk reqs
  | .pmbusPoll reads => pollOk reads
  | .semAcquire _ reqs => claimOk reqs
  | .pinReset | .deviceReset .. | .watchdogExpired | .wdogKick | .rcvDataWrite .. | .bootCtlWrite .. | .driveReady
  | .tapReset | .functionLevelReset | .usbBusReset | .usbAttachmentChange .. | .pcieTunnelChange ..
  | .sataLinkChange .. | .comreset | .prioritySlot .. | .servoTick .. | .servoStale .. | .monitorStreamAbsent ..
  | .laneDown .. | .laneDegraded .. | .linkEnable .. | .linkTrain .. | .trainingFrame .. | .trainingTimeout ..
  | .controlResponse .. | .controlMessageTimeout .. | .htxMsgGo .. | .underrun .. | .coilDriverFault ..
  | .fltNRelease .. | .nop .. | .add .. | .sub .. | .neg .. | .abs .. | .min .. | .max .. | .lim .. | .and ..
  | .or .. | .xor .. | .mov .. | .shl .. | .shr .. | .mul .. | .mac .. | .msu .. | .clra .. | .lda .. | .mva ..
  | .ldh .. | .ldl .. | .load .. | .store .. | .setx .. | .movx .. | .inPort .. | .outPort .. | .cmp .. | .tst ..
  | .branch .. | .call .. | .ret .. | .wait .. | .engineWake .. | .hook .. | .retc .. | .trap .. | .resume ..
  | .rgl .. | .rgs .. | .rgComplete .. | .rgTimeout .. | .ji .. | .nanoWord .. | .customerBudgetExhausted ..
  | .tickOverrun .. | .engineHalt .. | .engineStep .. | .doorbell .. | .cntClr .. | .customerRegionWrite ..
  | .custArm .. | .custArmed .. | .pgTick | .pgGo .. | .pgStop .. | .pgLimitWrite .. | .pgTargetWrite ..
  | .plausRearm .. | .bankSwap .. | .focusAcquire .. | .focusSweepEnd .. | .trackingAcquire .. | .loopPark ..
  | .focusLost .. | .trackingLost .. | .lostFeedback .. | .reAcquisition .. | .gapJumpFail .. | .layerJump ..
  | .layerJumpFail .. | .seek .. | .pwmPeriod .. | .spindleStart | .catchEnd .. | .alignEnd | .handoff | .speedOk
  | .startFail .. | .spindleStop | .spindleStopped .. | .ovsClr | .targetWrite .. | .overspeed .. | .observerLost ..
  | .se8Stopped | .brkGOn .. | .brkGOff .. | .chopperFault .. | .busOv .. | .spincmdChange .. | .spincmdLost ..
  | .spincmdRecovered | .sledStall .. | .sledCoilFault .. | .sledStop .. | .hardStopRest .. | .sledEngineStopped ..
  | .home .. | .homeSwitchEdge .. | .homingFail .. | .switchGlitch .. | .limitTrip .. | .tedWindow ..
  | .acquisitionFailed .. | .gainStep .. | .eqReset .. | .syncMark .. | .flockGained .. | .frameSlotEnd ..
  | .cqiWindow .. | .headDefectEnd .. | .defLong .. | .defFifoPop .. | .wobbleWord .. | .posLost ..
  | .modeCfgWrite .. | .pushPullBalance .. | .saPresetCal .. | .radialTiltCal .. | .tangentialTiltCal ..
  | .focusOffsetCal .. | .calSweepPoint .. | .calFail .. | .codewordDecoded .. | .squallSlotFree
  | .squallCalibration .. | .squallTimeLimit .. | .squallAbandon .. | .relocation .. | .crcTestStart
  | .crcTestData .. | .crcTestFinish | .xferCheckCompare .. | .opcInvalidate .. | .recordingSuspend .. | .relink ..
  | .abandonedReRecording .. | .dczBlockReRecording .. | .frontierCheckpoint .. | .firstRecording | .boost ..
  | .lpwEnable .. | .evictionComplete .. | .fillComplete .. | .clean .. | .invalidate .. | .flush .. | .zero ..
  | .maintDone | .stagingReserve .. | .stagingRelease .. | .scrub .. | .sbfTestEn .. | .testWriteData
  | .testWriteCheck | .testWriteBoth | .testRawRead | .compressJob .. | .inflateJob .. | .recordComplete ..
  | .jobDone .. | .outputExhausted .. | .jobResume .. | .jobAbort .. | .blockFlush .. | .recordFlush ..
  | .flushComplete .. | .claimRelease .. | .claimTimeout .. | .read .. | .write .. | .verify .. | .seal ..
  | .streamOpen .. | .streamClose .. | .offload .. | .selfTestShort .. | .selfTestExtended .. | .selfTestStop ..
  | .abort .. | .mount .. | .unmount .. | .setMode .. | .commandExpansion | .writeDataArrived .. | .bandChoice ..
  | .readRevolutionStart .. | .headOutOfService .. | .completionPost .. | .ringHeadWrite .. | .ringEnable ..
  | .coalescingTimer .. | .hostDmaFailed .. | .descriptorFetch .. | .streamSpill .. | .restartResume ..
  | .discardLater .. | .discardAll .. | .selfTestYieldEnd | .modeEntryDeferred | .abortTask .. | .abortTaskSet
  | .logicalUnitReset | .bulkOnlyMassStorageReset | .getMaxLun | .sataNop | .deviceResetAta
  | .executeDeviceDiagnostic | .identifyPacketDevice | .standbyImmediate | .idleImmediate | .checkPowerMode | .sleep
  | .setFeatures .. | .unsupportedAtaCommand .. | .testUnitReady .. | .formatUnit .. | .readCapacity ..
  | .synchronizeCache .. | .sendOpcInformation .. | .modeSelect10 .. | .setStreaming .. | .setCdSpeed ..
  | .zvDlaState .. | .unsupportedMmcCommand .. | .entdaa .. | .setdasa .. | .setnewda .. | .rstdaa | .enec ..
  | .disec .. | .getpid | .getbcr | .getdcr | .getstatus | .getmwl | .getmrl | .setmwl .. | .setmrl .. | .rstact ..
  | .libraryPrivateRead | .readStatus | .regRead .. | .regWrite .. | .mbxSend .. | .mbxRecv | .mbxAck | .modeReq ..
  | .inBandInterrupt .. | .ibiRetry .. | .clampReqAsserted | .unload | .clampReqReleased | .unloadLate | .discLost
  | .discPresAsserted | .gust .. | .mailboxAck .. | .withdraw .. | .mailboxDataWrite .. | .ackTimeout ..
  | .vlqIndexAccess .. | .vaultRequestCopy | .vaultResponse | .getInfo | .getNonce .. | .getIdentity | .getCert
  | .quote | .claim .. | .transfer .. | .setPolicy .. | .commitPolicy .. | .importWrapKey .. | .prepareDisc
  | .discUnlock | .discLock | .verifyImage | .commitSvn .. | .logClear | .nonceExpiry .. | .internalScan ..
  | .pwrModeReq .. | .activeModeChange | .modeReached | .calmEntry .. | .calmExit .. | .lullEntry .. | .lullWake ..
  | .lullWindowAccess .. | .thermalSample .. | .thermalReturn | .vmotWarning .. | .coreWarning .. | .warningEnd ..
  | .vmotResetLevel .. | .vmotResetRecovery .. | .overVoltageWarning .. | .overVoltageTrip ..
  | .overVoltageRecovery .. | .coreResetLevel .. | .pmbAlert .. | .pmbCmd .. | .clockCheck .. | .referenceLost
  | .pllUnlock .. | .dlaMount .. | .mountFail .. | .eventArrival .. | .eventCommit .. | .dropEpisodeEnd
  | .postCtrl .. | .logClearRun .. | .rdIdxWrite .. | .counterOverflow .. | .pmcHold .. | .valWrite .. | .tagSeed ..
  | .recPop | .stillFreeze .. | .stillRelease .. | .extest .. | .idcode | .samplePreload .. | .window .. | .stillRead
  | .bypass | .semRel .. | .forceRel .. | .registerWrite .. | .pairLoRead .. | .pairLoWrite ..
  | .pairCommitTimeout .. | .rclRead .. | .pageTimeout .. | .coreHalt .. | .powerLoss .. | .discPresDeasserted
  | .hostLinkResume .. | .pcieConfigurationWrite .. | .msiXTableWrite .. | .modeDeferTimeout
  | .bootControlCopyRecorded | .recoveryWriteDone | .logAreaEraseDone .. | .wobbleNotLocked ..
  | .unknownLibraryCommand .. => true

end Sys2Proof
end

