-- ==== Sys2Proof/Tests/Slice0.lean ====
section
/-!
SUPPORT. Tests: an ill-formed term for each check of WellFormed.
-/
open Sys2Proof Sys2Proof.Machine

theorem test_wf_two_store_tags : (Instr.resetRelease ⟨true, 0, false, 0, [true, true, true]⟩).wf = false := by decide
theorem test_wf_power_on_tags : (Instr.powerOnReset ⟨true, 0, false, 0, [true, true, true]⟩ 0).wf = false := by decide
theorem test_wf_codeword_blocks : (Instr.fecCodeword .L 0 (some ⟨[], 0, []⟩)).wf = false := by decide
theorem test_wf_codeword_corrected :
    (Instr.fecCodeword .L 0 (some ⟨List.replicate 20 (.control 0 0 0), 16, []⟩)).wf = false := by decide
theorem test_wf_requester : (Instr.dmDataAccess 0 28 none).wf = false ∧ (Instr.storeWindowWrite true 28 0 0).wf = false := by decide
theorem test_wf_monitor_beams : (Instr.jumpGapStart .L [] none).wf = false := by decide
theorem test_wf_streams : (Instr.frameDelivery .L 0 [[1]]).wf = false ∧ (Instr.defectStart .L none 0 [[1]]).wf = false ∧
    (Instr.defectEnd .L none 0 [[1]]).wf = false := by decide
theorem test_wf_legacy_sectors : (Instr.clusterOutcome 0 [none]).wf = false ∧ (Instr.squallReread 0 [none]).wf = false := by decide
theorem test_wf_cluster_sectors : (Instr.clusterEncode ⟨.L, 0, none, 0, false, 0, []⟩).wf = false := by decide
theorem test_wf_sector_bytes : sectorOk [1, 2] = false := by decide
theorem test_wf_power_run_layer : (Instr.opcRun ⟨.L, 8, true, [], 0, false, false⟩).wf = false := by decide
theorem test_wf_power_run_blocks : (Instr.opcRun ⟨.L, 0, true, [[]], 0, false, false⟩).wf = false := by decide
theorem test_wf_recording_lanes : (Instr.recordingArm .L [] 0 0 0).wf = false ∧
    (Instr.recordingArm .L [1, 2, 3, 4, 5, 6, 7, 8, 9] 0 0 0).wf = false := by decide
theorem test_wf_seal_copies : (Instr.sealRun 0 (List.replicate 17 true) 0).wf = false := by decide
theorem test_wf_verify_address : (Instr.verifyPass ⟨4294967296, 0, 0, 0, false⟩).wf = false := by decide
theorem test_wf_cache_line : (Instr.cacheRequest 0 0 257 none none).wf = false ∧ (Instr.cacheRequest 0 0 0 none none).wf = false ∧
    (Instr.cacheRequest 0 255 2 none none).wf = false ∧ (Instr.cacheRequest 0 0 1 (some []) none).wf = false := by decide
theorem test_wf_claims : (Instr.trfClaim []).wf = false ∧ (Instr.mbxClaim 0 [1, 1]).wf = false ∧ (Instr.vlqClaim []).wf = false ∧
    (Instr.semAcquire 0 [3, 3]).wf = false := by decide
theorem test_wf_packet : (Instr.packet [0] [] 0 0).wf = false := by decide
theorem test_wf_cdb : (Instr.inquiry .bot [0]).wf = false ∧ (Instr.read10 (.uas 1) []).wf = false := by decide
theorem test_wf_poll_entries : (Instr.pmbusPoll [⟨1, true, 0, 0, 0⟩, ⟨1, true, 0, 0, 0⟩]).wf = false := by decide
end

section
/-!
PROOFS. What the state after reset holds (R16, R492, R558, R566, R606): it lists no register, so every field reads the reset value of
its page table.
-/
namespace Sys2Proof.Machine

/-- After reset no register is listed, so a field reads its reset value (log entry 2). -/
@[simp] theorem fget_reset (p : Nat) (f : Fld) : fget p f State.reset = f.reset p State.reset.prof := rfl

/-- A reset value that the page table states is read as it is, whatever the page and the PROF strap, when it fits the field. -/
theorem Fld.reset_of_val {f : Fld} {n : Nat} (p : Nat) (prof : Bool) (hrst : f.rst = .val n) (hfits : n < 2 ^ f.width) :
    f.reset p prof = n := by
  unfold Fld.reset
  rw [hrst]
  exact Nat.mod_eq_of_lt hfits

/-- The side condition that the table's value fits is decided for each field. -/
theorem fget_reset_of_val {p : Nat} {f : Fld} {n : Nat} (hrst : f.rst = .val n) (hfits : n < 2 ^ f.width := by decide) :
    fget p f State.reset = n := by
  rw [fget_reset, Fld.reset_of_val p _ hrst hfits]

/-- R605, R606: on every page, reset leaves no interrupt raised or enabled, no sticky bit and no fault code. -/
theorem fget_header_reset (p : Nat) :
    fget p hdrIntStatus State.reset = 0 ∧ fget p hdrIntEnable State.reset = 0 ∧ fget p hdrSticky State.reset = 0 ∧
      fget p hdrFault State.reset = 0 :=
  ⟨fget_reset_of_val rfl, fget_reset_of_val rfl, fget_reset_of_val rfl, fget_reset_of_val rfl⟩

/-- R558, R566, R578: the identity, reset cause and watchdog registers after reset. -/
theorem dev_fields_reset :
    fget DEV.page DEV.STATUS_BOOT_STATE State.reset = 0 ∧ fget DEV.page DEV.CHIP_ID_PART State.reset = 0x8816 ∧
      fget DEV.page DEV.CHIP_ID_STEPPING State.reset = 0xB0 ∧ fget DEV.page DEV.RESET_CAUSE State.reset = 1 ∧
      fget DEV.page DEV.RESET_HIST State.reset = 1 ∧ fget DEV.page DEV.WDOG_CFG_WDOG_MS State.reset = 2000 ∧
      fget DEV.page DEV.WDOG_CFG_EN State.reset = 1 :=
  ⟨fget_reset_of_val rfl, fget_reset_of_val rfl, fget_reset_of_val rfl, fget_reset_of_val rfl, fget_reset_of_val rfl,
    fget_reset_of_val rfl, fget_reset_of_val rfl⟩

/-- The command layer's freeze mask, queue depth, claim timeout, ring phase and ring size after reset. -/
theorem command_fields_reset :
    fget TRF.page TRF.FREEZE_CFG_MASK State.reset = 0x100 ∧ fget USB.page USB.UAS_QDEPTH State.reset = 32 ∧
      fget VLQ.page VLQ.CLAIM_TO_MS State.reset = 1000 ∧ fget CPL.page (CPL.PHASE.ix 3) State.reset = 1 ∧
      fget CPL.page (CPL.CFG_SIZE_EXP.ix 0) State.reset = 4 :=
  ⟨fget_reset_of_val rfl, fget_reset_of_val rfl, fget_reset_of_val rfl, fget_reset_of_val rfl, fget_reset_of_val rfl⟩

/-- After reset no cipher key is loaded, no disc is mounted and the recording frontier is at 0. -/
theorem media_fields_reset :
    fget XTS.page XTS.STATUS_KEY_LOADED State.reset = 0 ∧ fget FMT.page FMT.STATUS_STATE State.reset = 0 ∧
      fget ENC.page ENC.FRONTIER State.reset = 0 :=
  ⟨fget_reset_of_val rfl, fget_reset_of_val rfl, fget_reset_of_val rfl⟩

/-- Settles O54: the components of the empty state, then the register fields page by page. -/
theorem resetState : Obligations.ResetState := by
  unfold Obligations.ResetState
  obtain ⟨hboot, hpart, hstepping, hcause, hhist, hwdog, hwdogEn⟩ := dev_fields_reset
  obtain ⟨hfreeze, hdepth, hclaim, hphase, hsize⟩ := command_fields_reset
  exact ⟨rfl, rfl, rfl, rfl, rfl, rfl, hboot, hpart, hstepping, hcause, hhist, hwdog, hwdogEn, hfreeze, hdepth, hclaim,
    hphase, hsize, fun p _ => fget_header_reset p, media_fields_reset⟩

end Sys2Proof.Machine
end

section
/-!
PROOFS. The jump gap start (R176) and the value a calibration sweep writes at it (R276). A record of a sweep holds its layer as a number
without a bound, where a command gives 0 to 7: entry 40,893 of SA_PRESET of head L lies on the key of N_REV (R265), so the clause
that N_REV shows the count that the gap start brings fails in a state that holds a sweep of that layer.
-/
namespace Sys2Proof.Machine

/-- Fields are held by key alone, so a write through one field is read back through any other of the same key. -/
theorem fget_fset_of_key_eq {p q : Nat} {f g : Fld} (v : Nat) (s : State) (hkey : f.key p = g.key q)
    (hv : trunc f.width v ≠ f.reset p s.prof) : fget q g (fset p f v s) = trunc f.width v := by
  unfold fget fset
  dsimp only
  rw [if_neg hv, ← hkey, Store.find_insert_same]
  rfl

/-! ### The stray sweep -/

/-- A sweep of the SA presets (R274) whose layer is past the eight entries of SA_PRESET. -/
def straySweep : Sweep := { op := 2, layer := 40893, zone := 0, origin := 0 }

/-- The stray sweep's entry of SA_PRESET lies on the key of N_REV. -/
theorem key_straySweep : (TLT.SA_PRESET.ix straySweep.layer).key (TLT.page 0) = CHC.N_REV.key (CHC.page 0) := rfl

/-- The value 1 written to the stray sweep's entry of SA_PRESET. -/
def strayWrite (s : State) : State := fset (TLT.page 0) (TLT.SA_PRESET.ix straySweep.layer) 1 s

theorem fget_nRev_strayWrite (s : State) : fget (CHC.page 0) CHC.N_REV (strayWrite s) = 1 :=
  fget_fset_of_key_eq 1 s key_straySweep Nat.one_ne_zero

/-- The gap's part of the stray sweep makes that write, and changes nothing else but the common unit. -/
theorem calGap_stray {s : State} (hsweep : (s.common 0).sweep = some straySweep) (hwrite : (s.common 0).calWrite = some 1) :
    ∃ k, calGap 0 s = setCommon 0 k (strayWrite s) := by
  unfold calGap
  dsimp only
  rw [hsweep, hwrite]
  exact ⟨_, rfl⟩

/-! ### A gap start of head L with nothing waiting for it -/

/-- What the rest of the gap start acts on: a bank swap pending, the tracking loop's state, POS, and the laser unit's control. -/
def gapAsks : List (Nat × Fld) :=
  [(LOOP.page 0, LOOP.LOOP_STATUS_SWAP_PEND), (LOOP.page 1, LOOP.LOOP_STATUS_SWAP_PEND), (LOOP.page 2, LOOP.LOOP_STATUS_SWAP_PEND),
    (LOOP.page 1, LOOP.LOOP_STATUS_STATE), (MC.page, posFld 0), (LPW.page 0, LPW.CTRL_BOOST), (LPW.page 0, LPW.CTRL_EN)]

/-- Nothing waits for the gap of head L in the servo, the laser unit or SQUALL. -/
structure GapAtRest (s : State) : Prop where
  asks : ∀ x ∈ gapAsks, fget x.1 x.2 s = 0
  recs : s.recs = []
  dec : s.dec = {}

/-- Rest is about registers, recordings and the decode island alone. -/
theorem GapAtRest.congr {s t : State} (hs : GapAtRest s) (hregs : t.regs = s.regs) (hprof : t.prof = s.prof) (hrecs : t.recs = s.recs)
    (hdec : t.dec = s.dec) : GapAtRest t where
  asks x hx := (fget_congr hregs hprof x.1 x.2).trans (hs.asks x hx)
  recs := hrecs.trans hs.recs
  dec := hdec.trans hs.dec

variable {s : State}

theorem gapAtRest_fset {p v : Nat} {f : Fld} (hs : GapAtRest s) (hkey : ∀ x ∈ gapAsks, x.2.key x.1 ≠ f.key p) : GapAtRest (fset p f v s) where
  asks x hx := (fget_fset_other s v (hkey x hx)).trans (hs.asks x hx)
  recs := hs.recs
  dec := hs.dec

theorem GapAtRest.fon_eq_false {p : Nat} {f : Fld} (hs : GapAtRest s) (hmem : (p, f) ∈ gapAsks) : fon p f s = false :=
  bne_eq_false_iff_eq.2 (hs.asks (p, f) hmem)

theorem GapAtRest.posValid_eq_false (hs : GapAtRest s) : posValid 0 s = false := by
  unfold posValid
  rw [hs.asks (MC.page, posFld 0) (by decide)]
  rfl

theorem GapAtRest.rec'_eq (hs : GapAtRest s) : s.rec' 0 = {} := by
  unfold State.rec'
  rw [hs.recs]
  rfl

/-! ### The parts of the gap start at rest -/

/-- A gap start up to the beams' work: N_REV and IN_GAP shown (R265), targets and gains in force (R244, R253). -/
def gapBegun (h : Nat) (nrev : Option (BitVec 24)) (s : State) : State :=
  (List.range 8).foldl (beamGap h) (fset (CHC.page h) CHC.STATUS_IN_GAP 1 (showRev h nrev s))

/-- The parts of a gap start that follow the beams' work: SQUALL, equaliser sets, calibration, servo and laser unit. -/
def gapParts (h : Nat) (mon : List (Nat × Nat)) (s : State) : State :=
  laserGap h mon (servoGap h (calGap h (restoreSets h (squallGap h s))))

theorem gapAtRest_beamGap {b : Nat} (hs : GapAtRest s) (hb : b ∈ List.range 8) : GapAtRest (beamGap 0 s b) := by
  have hkeys : ∀ b ∈ List.range 8, ∀ x ∈ gapAsks,
      x.2.key x.1 ≠ CHN.TGT_B_TGT_PEND.key (CHN.page 0 b) ∧ x.2.key x.1 ≠ CHN.AGC_GAIN.key (CHN.page 0 b) := by decide
  have hchan : ∀ c, GapAtRest (setChan 0 b c s) := fun _ => hs.congr rfl rfl rfl rfl
  exact gapAtRest_fset (gapAtRest_fset (hchan _) fun x hx => (hkeys b hb x hx).1) fun x hx => (hkeys b hb x hx).2

theorem squallGap_of_gapAtRest (hs : GapAtRest s) : squallGap 0 s = s := by
  have hactive : s.dec.active.find 0 = none := by rw [hs.dec]; rfl
  have hdue : s.dec.due.find 0 = none := by rw [hs.dec]; rfl
  unfold squallGap
  simp only [hactive, hdue]

theorem restoreSets_of_eqLoad_none {h : Nat} (hload : (s.common h).eqLoad = none) : restoreSets h s = s := by
  unfold restoreSets
  rw [hload]

theorem gapAtRest_strayWrite (hs : GapAtRest s) : GapAtRest (strayWrite s) := gapAtRest_fset hs (by decide)

theorem swapBank_of_not_pending {e : Nat} (hpend : fon (LOOP.page e) LOOP.LOOP_STATUS_SWAP_PEND s = false) : swapBank e s = s := by
  simp [swapBank, hpend]

theorem gapAtRest_tiltGap (hs : GapAtRest s) : GapAtRest (tiltGap 0 s) := by
  have hzone : ∀ v, GapAtRest (fset (TLT.page 0) TLT.ZONE v s) := fun _ => gapAtRest_fset hs (by decide)
  unfold tiltGap
  exact (hzone _).congr rfl rfl rfl rfl

theorem fget_nRev_tiltGap : fget (CHC.page 0) CHC.N_REV (tiltGap 0 s) = fget (CHC.page 0) CHC.N_REV s :=
  fget_fset_other s _ (by decide)

/-- Where SQUALL reads no cluster again, there is no group to come back to (R304). -/
theorem squallAlign_of_held_nil {h : Nat} (hheld : s.dec.held = []) : squallAlign h s = s := by
  unfold squallAlign squallGroup
  rw [hheld]
  rfl

/-- No gap jump starts unless tracking is closed (R177). -/
theorem gapJump_of_tracking_open {h : Nat} (hopen : getLoop (4 * h + 1) s ≠ 2) : gapJump h s = s := by
  simp [gapJump, hopen]

theorem fget_gapClear (h p : Nat) (f : Fld) : fget p f (gapClear h s) = fget p f s := rfl

/-- At rest, the servo's part of the gap is the tilt tables' and an end to discarding. -/
theorem servoGap_of_gapAtRest (hs : GapAtRest s) : servoGap 0 s = gapClear 0 (tiltGap 0 s) := by
  have hclear : GapAtRest (gapClear 0 (tiltGap 0 s)) := (gapAtRest_tiltGap hs).congr rfl rfl rfl rfl
  have hswap : ∀ e < 3, swapBank (4 * 0 + e) s = s := by
    have hmem : ∀ e < 3, (LOOP.page (4 * 0 + e), LOOP.LOOP_STATUS_SWAP_PEND) ∈ gapAsks := by decide
    exact fun e he => swapBank_of_not_pending (hs.fon_eq_false (hmem e he))
  have hopen : getLoop (4 * 0 + 1) (gapClear 0 (tiltGap 0 s)) ≠ 2 := by
    have hstate : getLoop (4 * 0 + 1) (gapClear 0 (tiltGap 0 s)) = 0 := hclear.asks (LOOP.page 1, LOOP.LOOP_STATUS_STATE) (by decide)
    omega
  unfold servoGap
  rw [show 4 * 0 = 4 * 0 + 0 from rfl, hswap 0 (by decide), hswap 1 (by decide), hswap 2 (by decide),
    squallAlign_of_held_nil (by rw [hclear.dec]), gapJump_of_tracking_open hopen]

/-- At rest, the laser unit's part of the gap only notes whether the head records. -/
theorem laserGap_of_gapAtRest (hs : GapAtRest s) (mon : List (Nat × Nat)) :
    laserGap 0 mon s = setRec 0 { recorded := fon (LPW.page 0) LPW.STATUS_WRITING s } s := by
  have hposRec : ∀ r, posValid 0 (setRec 0 r s) = false := fun _ => hs.posValid_eq_false
  have hboostRec : ∀ r, fon (LPW.page 0) LPW.CTRL_BOOST (setRec 0 r s) = false := fun _ => hs.fon_eq_false (by decide)
  have henRec : ∀ r, fon (LPW.page 0) LPW.CTRL_EN (setRec 0 r s) = false := fun _ => hs.fon_eq_false (by decide)
  simp [laserGap, rpcUpdate, boostGap, hs.rec'_eq, hposRec, hboostRec, henRec]

/-- A gap start with frame lock begins and runs its parts; with no angle offset to learn, and POS not valid at the end, it does no more. -/
theorem exec_jumpGapStart_of_no_pos {mon : List (Nat × Nat)} {nrev : Option (BitVec 24)} (hlocked : frameLocked 0 s = true)
    (hlearn : learnGap 0 s = s) (hpos : posValid 0 (gapParts 0 mon (gapBegun 0 nrev s)) = false) :
    exec (.jumpGapStart .L mon nrev) s = .next (gapParts 0 mon (gapBegun 0 nrev s)) := by
  unfold gapParts gapBegun at *
  change execJumpGapStart .L mon nrev s = _
  simp [execJumpGapStart, Head.n, hlocked, hlearn, hpos]

/-- At rest a gap start begins without asking anything of the servo, the laser unit or SQUALL. -/
theorem gapAtRest_gapBegun (hs : GapAtRest s) (nrev : Option (BitVec 24)) : GapAtRest (gapBegun 0 nrev s) := by
  have hrev : GapAtRest (showRev 0 nrev s) := by
    cases nrev with
    | none => exact gapAtRest_fset hs (by decide)
    | some n => exact gapAtRest_fset (gapAtRest_fset hs (by decide)) (by decide)
  exact List.foldlRecOn (motive := GapAtRest) _ _ (gapAtRest_fset hrev (by decide)) fun t ht b hb => gapAtRest_beamGap ht hb

theorem common_gapBegun (h : Nat) (nrev : Option (BitVec 24)) : (gapBegun h nrev s).common h = s.common h := by
  have hkept : Kept State.commons s (gapBegun h nrev s) :=
    foldl_kept (fun _ _ ht => beamGap_kept (fun _ => rfl) ht) (fset_kept (fun _ => rfl) (showRev_kept (fun _ => rfl) (.refl s)))
  unfold State.common
  rw [show (gapBegun h nrev s).commons = s.commons from hkept.view]

/-! ### The gap start of the stray sweep -/

/-- A common unit as after reset, but that the value 1 of the stray sweep is to be written at the next gap. -/
def strayCommon : CommonSt := { sweep := some straySweep, calWrite := some 1 }

/-- At rest, what follows the beams' work leaves POS not valid and the stray sweep's value in N_REV. -/
theorem gapParts_stray (hs : GapAtRest s) (hcommon : s.common 0 = strayCommon) (mon : List (Nat × Nat)) :
    posValid 0 (gapParts 0 mon s) = false ∧ fget (CHC.page 0) CHC.N_REV (gapParts 0 mon s) = 1 := by
  obtain ⟨k, hcal⟩ := calGap_stray (s := s) (by rw [hcommon]; rfl) (by rw [hcommon]; rfl)
  have hwritten : GapAtRest (setCommon 0 k (strayWrite s)) := (gapAtRest_strayWrite hs).congr rfl rfl rfl rfl
  have hcleared : GapAtRest (gapClear 0 (tiltGap 0 (setCommon 0 k (strayWrite s)))) := (gapAtRest_tiltGap hwritten).congr rfl rfl rfl rfl
  unfold gapParts
  rw [squallGap_of_gapAtRest hs, restoreSets_of_eqLoad_none (by rw [hcommon]; rfl), hcal, servoGap_of_gapAtRest hwritten,
    laserGap_of_gapAtRest hcleared]
  constructor
  · exact hcleared.posValid_eq_false
  · rw [fget_setRec, fget_gapClear, fget_nRev_tiltGap, fget_setCommon, fget_nRev_strayWrite]

/-- The gap start of head L with the stray sweep answers, and leaves 1 in N_REV whatever count it brings. -/
theorem jumpGapStart_stray (hs : GapAtRest s) (hcommon : s.common 0 = strayCommon) (hlocked : frameLocked 0 s = true)
    (hobs : fon SPN.page SPN.STATUS_OBS_LOCK s = false) (mon : List (Nat × Nat)) (nrev : Option (BitVec 24)) :
    ∃ t, exec (.jumpGapStart .L mon nrev) s = .next t ∧ fget (CHC.page 0) CHC.N_REV t = 1 := by
  obtain ⟨hpos, hrev⟩ := gapParts_stray (gapAtRest_gapBegun hs nrev) ((common_gapBegun 0 nrev).trans hcommon) mon
  have hlearn : learnGap 0 s = s := if_neg (by simp [hobs])
  exact ⟨_, exec_jumpGapStart_of_no_pos hlocked hlearn hpos, hrev⟩

/-- Head L with frame lock and the stray sweep; the rest is as after reset. -/
def strayGap : State := { regs := [(CHC.STATUS_FLOCK_D0.key (CHC.page 0), 1)], commons := [(0, strayCommon)] }

theorem gapAtRest_strayGap : GapAtRest strayGap := ⟨by decide, rfl, rfl⟩

/-- Refutes O23: the clause of the jump gap start says that N_REV shows the count brought, here 0, in every state; `strayGap` holds a
sweep, of a layer that no command gives, whose pending value the gap start writes over it. -/
theorem not_defectsWobbleAndGap : ¬ Obligations.DefectsWobbleAndGap := by
  unfold Obligations.DefectsWobbleAndGap
  intro h
  obtain ⟨-, -, -, -, -, -, -, -, -, -, -, -, -, -, hgap, -⟩ := h strayGap .L
  obtain ⟨t, ht, -, -, hrev, -⟩ := hgap [] (some 0) (.inl rfl)
  obtain ⟨u, hu, hone⟩ := jumpGapStart_stray gapAtRest_strayGap rfl rfl rfl [] (some 0)
  obtain rfl : t = u := Host.Outcome.next.inj (ht.symm.trans hu)
  have hzero : fget (CHC.page 0) CHC.N_REV t = 0 := hrev 0 rfl
  omega

end Sys2Proof.Machine
end

section
/-!
PROOFS. What writes of registers leave alone: fields at other places of a page, other pages, and the interrupt bits that stand.
-/
namespace Sys2Proof.Machine

variable {s t u : State} {p q v b c : Nat} {f g : Fld} {ps qs : List Nat}

/-! ### Places within a page -/

/-- The bit of its page at which a field lies. -/
def Fld.place (f : Fld) : Nat := 32 * f.off + f.lo

/-- A field lies within its page and its register. -/
abbrev Fld.inPage (f : Fld) : Prop := f.off < 4096 ∧ f.lo < 32

/-- A write leaves fields at other places alone, on every page. -/
theorem fget_fset_place (hg : g.inPage) (hf : f.inPage) (hne : g.place ≠ f.place) : fget q g (fset p f v s) = fget q g s := by
  refine fget_fset_other s v ?_
  unfold Fld.place at hne
  unfold Fld.key
  omega

/-- A page's interrupt status is at a place of its own. -/
theorem fget_raise_place (hg : g.inPage) (hne : g.place ≠ hdrIntStatus.place) : fget q g (raise p b s) = fget q g s :=
  (fget_raise ..).trans (fget_fset_place hg (by decide) hne)

/-! ### Other pages -/

theorem otherPages.refl : otherPages ps s s := fun _ _ _ _ => rfl

theorem otherPages.trans (h : otherPages ps s t) (k : otherPages ps t u) : otherPages ps s u :=
  fun q hq g hg => (k q hq g hg).trans (h q hq g hg)

theorem otherPages.mono (h : otherPages ps s t) (hsub : ps ⊆ qs) : otherPages qs s t := fun q hq => h q fun hp => hq (hsub hp)

/-- Registers alone decide which pages read as before. -/
theorem otherPages.congr (h : otherPages ps s t) (hregs : u.regs = t.regs) (hprof : u.prof = t.prof) : otherPages ps s u :=
  fun q hq g hg => (fget_congr hregs hprof q g).trans (h q hq g hg)

theorem otherPages.fset (h : otherPages ps s t) (hp : p ∈ ps) (hf : f.inPage) : otherPages ps s (fset p f v t) :=
  fun q hq _ hg => (fget_fset_other t v (key_page_ne hg hf (ne_of_mem_of_not_mem hp hq).symm)).trans (h q hq _ hg)

theorem otherPages.raise (h : otherPages ps s t) (hp : p ∈ ps) : otherPages ps s (raise p b t) :=
  fun q hq g hg => (fget_raise ..).trans (h.fset hp (by decide) q hq g hg)

theorem otherPages.cntN {n : Nat} (h : otherPages ps s t) (hp : p ∈ ps) (hf : f.inPage) : otherPages ps s (cntN p f c n t) := by
  unfold Machine.cntN
  dsimp only
  split
  · exact h.fset hp hf
  · exact (h.fset hp hf).fset hp (by decide)

theorem otherPages.cnt (h : otherPages ps s t) (hp : p ∈ ps) (hf : f.inPage) : otherPages ps s (cnt p f c t) := h.cntN hp hf

theorem otherPages.raiseMc (h : otherPages ps s t) (hp : MC.page ∈ ps) : otherPages ps s (raiseMc b t) :=
  fun q hq g hg => (fget_intEdge ..).trans (h.fset hp (by decide) q hq g hg)

theorem otherPages.foldl {α : Type} {F : State → α → State} {l : List α} (h : otherPages ps s t)
    (hF : ∀ u, ∀ x ∈ l, otherPages ps u (F u x)) : otherPages ps s (l.foldl F t) := by
  induction l generalizing t with
  | nil => exact h
  | cons x l ih => exact ih (h.trans (hF t x (List.mem_cons_self ..))) fun u y hy => hF u y (List.mem_cons_of_mem _ hy)

/-! ### Interrupts, counters and events -/

theorem bit_setBit_same (v : Nat) (hb : b < 32) : bit (trunc 32 (setBit v b)) b = true := by
  simp only [bit, trunc, setBit, Nat.testBit_mod_two_pow, Nat.testBit_or, Nat.testBit_two_pow_self, hb, decide_true, Bool.or_true, Bool.and_self]

theorem bit_setBit_of_bit (hb : b < 32) (h : bit v b = true) : bit (trunc 32 (setBit v c)) b = true := by
  unfold bit at h
  simp only [bit, trunc, setBit, Nat.testBit_mod_two_pow, Nat.testBit_or, h, hb, decide_true, Bool.true_or, Bool.and_self]

/-- A bit raised is set. -/
theorem hasInt_raise (hb : b < 32) : hasInt p b (raise p b s) := by
  unfold hasInt
  rw [fget_raise, fget_fset_same]
  exact bit_setBit_same _ hb

/-- A bit that is set stays set whatever is raised. -/
theorem hasInt.raise (h : hasInt p b s) (hb : b < 32) : hasInt p b (raise q c s) := by
  unfold hasInt
  rw [fget_raise]
  by_cases hq : q = p
  · subst hq
    rw [fget_fset_same]
    exact bit_setBit_of_bit hb h
  · rwa [fget_fset_other _ _ (key_page_ne (by decide) (by decide) (Ne.symm hq))]

/-- Only what is written to INT_STATUS can clear an interrupt. -/
theorem hasInt_congr (h : fget p hdrIntStatus t = fget p hdrIntStatus s) : hasInt p b t ↔ hasInt p b s := by
  unfold hasInt
  rw [h]

/-- A write elsewhere in a page leaves every interrupt as it is. -/
theorem hasInt_fset (hf : f.inPage) (hne : hdrIntStatus.place ≠ f.place) : hasInt p b (Machine.fset q f v s) ↔ hasInt p b s :=
  hasInt_congr (fget_fset_place (by decide) hf hne)

theorem hasSticky_sticky (hb : b < 32) : hasSticky p b (sticky p b s) := by
  unfold hasSticky sticky
  rw [fget_fset_same]
  exact bit_setBit_same _ hb

theorem hasSticky_congr (h : fget p hdrSticky t = fget p hdrSticky s) : hasSticky p b t ↔ hasSticky p b s := by
  unfold hasSticky
  rw [h]

/-- A counter sets no sticky bit but its own, and clears none. -/
theorem hasSticky.cnt (h : hasSticky p b s) (hb : b < 32) (hf : f.inPage) (hne : hdrSticky.place ≠ f.place) :
    hasSticky p b (cnt p f c s) := by
  have hset : ∀ v, hasSticky p b (fset p f v s) := fun v => (hasSticky_congr (fget_fset_place (by decide) hf hne)).2 h
  unfold Machine.cnt Machine.cntN
  dsimp only
  split
  · exact hset _
  · unfold hasSticky sticky
    rw [fget_fset_same]
    exact bit_setBit_of_bit hb (hset _)

/-- A counter writes its own place and that of STICKY. -/
theorem fget_cnt_place (hg : g.inPage) (hf : f.inPage) (hne : g.place ≠ f.place) (hsticky : g.place ≠ hdrSticky.place) :
    fget q g (cnt p f c s) = fget q g s := by
  unfold cnt cntN
  dsimp only
  split
  · exact fget_fset_place hg hf hne
  · exact (fget_fset_place hg (by decide) hsticky).trans (fget_fset_place hg hf hne)

@[simp] theorem raise_evq (p b : Nat) (s : State) : (raise p b s).evq = s.evq :=
  (raise_kept (m := State.evq) (fun _ => rfl) (.refl s)).view

@[simp] theorem cnt_evq (p c : Nat) (f : Fld) (s : State) : (cnt p f c s).evq = s.evq :=
  (cnt_kept (m := State.evq) (fun _ => rfl) (.refl s)).view

@[simp] theorem raiseMc_evq (b : Nat) (s : State) : (raiseMc b s).evq = s.evq :=
  (raiseMc_kept (m := State.evq) (fun _ => rfl) (.refl s)).view

/-- An event queued stays in its place when others follow it. -/
theorem exists_later {x : Ev} {l l' : List Ev} (h : l ++ [x] <+: l') : ∃ later, l' = l ++ x :: later := by
  obtain ⟨later, rfl⟩ := h
  exact ⟨later, by simp⟩

theorem foldl_evq_prefix {α : Type} {F : State → α → State} {l : List α} (hF : ∀ t x, t.evq <+: (F t x).evq) (s : State) :
    s.evq <+: (l.foldl F s).evq := by
  induction l generalizing s with
  | nil => exact List.prefix_refl _
  | cons x l ih => exact (hF s x).trans (ih _)

end Sys2Proof.Machine
end

section
/-!
PROOFS. A head's trip (R104, R345) and its lost-feedback path (R175): the pages they write, the events they add, and what they leave set.
-/
namespace Sys2Proof.Machine

variable {s : State} {head : Head} {h cause src : Nat}

/-! ### The write stop -/

/-- The pages that show a head's recording and its end, but for the HTX page (R97, R241, R345). -/
def stopPages (h : Nat) : List Nat := LPW.page h :: ENC.page :: CHC.page h :: (List.range 10).map (CHN.page h)

theorem chn_mem_stopPages {k : Nat} (hk : k ∈ List.range 10) : CHN.page h k ∈ stopPages h := by
  simp only [stopPages, List.mem_cons]
  exact .inr (.inr (.inr (List.mem_map_of_mem hk)))

theorem otherPages_abandonOne (e : Emission) : otherPages (stopPages h) s (abandonOne h cause e s) := by
  have hlpw : LPW.page h ∈ stopPages h := by simp [stopPages]
  have henc : ENC.page ∈ stopPages h := by simp [stopPages]
  exact ((((otherPages.refl.raise hlpw).cnt hlpw (by decide)).raise henc).cnt henc (by decide)).fset henc (by decide)

/-- The state in which the clusters in emission are abandoned and no longer in emission (R345). -/
def emissionsEnded (h cause : Nat) (s : State) : State :=
  let r := s.rec' h
  let s := r.emitting.foldl (fun t e => abandonOne h cause e t) s
  setRec h { r with emitting := [], boosting := false, abandoned := if cause = 2 then [] else r.abandoned ++ r.emitting } s

theorem abruptStop_of_writing (hw : writing h s = true) :
    abruptStop h cause s = fset (LPW.page h) LPW.STATUS_BOOST_ACT 0 (showWriting h false (emissionsEnded h cause s)) := by
  unfold abruptStop
  dsimp only
  rw [if_pos hw]
  rfl

theorem abruptStop_of_not_writing (hw : writing h s = false) : abruptStop h cause s = s := by
  unfold abruptStop
  dsimp only
  rw [if_neg (by simp [hw])]

theorem otherPages_emissionsEnded : otherPages (stopPages h) s (emissionsEnded h cause s) :=
  otherPages.refl.foldl fun _ e _ => otherPages_abandonOne e

/-- What shows a recording's end beyond HTX. -/
theorem otherPages_showWriting {b : Bool} :
    otherPages (stopPages h) (fsetB (HTX.page h) HTX.STATUS_WRITE_EN b s) (showWriting h b s) := by
  have hlpw : LPW.page h ∈ stopPages h := by simp [stopPages]
  have henc : ENC.page ∈ stopPages h := by simp [stopPages]
  have hchc : CHC.page h ∈ stopPages h := by simp [stopPages]
  have hfld : Fld.inPage (if h = 0 then ENC.STATUS_WRITING_L else ENC.STATUS_WRITING_U) := by split <;> decide
  refine otherPages.foldl ?_ fun t k hk => otherPages.refl.fset (chn_mem_stopPages hk) (by decide)
  exact ((otherPages.refl.fset hlpw (by decide)).fset henc hfld).fset hchc (by decide)

/-- An abrupt stop writes WRITE_EN of HTX, and the pages that show the recording. -/
theorem fget_abruptStop {q : Nat} {g : Fld} (hg : g.inPage) (hq : q ∉ stopPages h)
    (hkey : g.key q ≠ HTX.STATUS_WRITE_EN.key (HTX.page h)) : fget q g (abruptStop h cause s) = fget q g s := by
  have hlpw : LPW.page h ∈ stopPages h := by simp [stopPages]
  cases hw : writing h s with
  | false => rw [abruptStop_of_not_writing hw]
  | true =>
    rw [abruptStop_of_writing hw, fget_fset_other _ _ (key_page_ne hg (by decide) (ne_of_mem_of_not_mem hlpw hq).symm),
      otherPages_showWriting q hq g hg]
    exact (fget_fset_other _ _ hkey).trans (otherPages_emissionsEnded q hq g hg)

theorem otherPages_killHead : otherPages (HTX.page h :: stopPages h) s (killHead h s) := by
  have hhtx : HTX.page h ∈ HTX.page h :: stopPages h := by simp
  have hlpw : LPW.page h ∈ HTX.page h :: stopPages h := by simp [stopPages]
  exact ((((otherPages.refl.fset hhtx (by decide)).fset hhtx (by decide)).fset hlpw (by decide)).raise hhtx).cnt hhtx (by decide)

/-- A trip writes HTX, and the pages that show the recording. -/
theorem otherPages_tripHead : otherPages (HTX.page h :: stopPages h) s (tripHead h s) := by
  refine otherPages.trans (fun q hq g hg => ?_) otherPages_killHead
  rw [List.mem_cons, not_or] at hq
  exact fget_abruptStop hg hq.2 (key_page_ne hg (by decide) hq.1)

/-- After a trip the HTX slots carry no WRITE_EN (R104). -/
theorem fget_writeEn_tripHead : fget (HTX.page h) HTX.STATUS_WRITE_EN (tripHead h s) = 0 := by
  show fget (HTX.page h) HTX.STATUS_WRITE_EN (cnt _ _ _ (raise _ _ (fset (LPW.page h) LPW.STATUS_KILL 1 (fset _ _ 0 _)))) = 0
  rw [fget_cnt_place (by decide) (by decide) (by decide) (by decide), fget_raise_place (by decide) (by decide),
    fget_fset_place (by decide) (by decide) (by decide), fget_fset_same]
  rfl

/-- A trip clears no interrupt of HTX. -/
theorem hasInt.tripHead {b : Nat} (hint : hasInt (HTX.page head.n) b s) (hb : b < 32) :
    hasInt (HTX.page head.n) b (tripHead head.n s) := by
  have hout : HTX.page head.n ∉ stopPages head.n := by cases head <;> decide
  have hstop : hasInt (HTX.page head.n) b (abruptStop head.n 1 s) :=
    (hasInt_congr (fget_abruptStop (by decide) hout (key_off_ne (by decide) (by decide) (by decide)))).2 hint
  refine (hasInt_congr (fget_cnt_place (by decide) (by decide) (by decide) (by decide))).2 (hasInt.raise ?_ hb)
  refine (hasInt_congr ?_).2 hstop
  rw [fget_fset_place (by decide) (by decide) (by decide), fget_fset_place (by decide) (by decide) (by decide),
    fget_fset_place (by decide) (by decide) (by decide)]

theorem abandonOne_evq_prefix (e : Emission) : s.evq <+: (abandonOne h cause e s).evq := by
  unfold abandonOne
  simp

theorem showWriting_evq (h : Nat) (b : Bool) (s : State) : (showWriting h b s).evq = s.evq :=
  (showWriting_kept (m := State.evq) (fun _ => rfl) (.refl s)).view

theorem killHead_evq (h : Nat) (s : State) : (killHead h s).evq = s.evq :=
  (killHead_kept (m := State.evq) (fun _ => rfl) (.refl s)).view

theorem abruptStop_evq_prefix : s.evq <+: (abruptStop h cause s).evq := by
  cases hw : writing h s with
  | false => rw [abruptStop_of_not_writing hw]
  | true =>
    have hend : s.evq <+: (emissionsEnded h cause s).evq := foldl_evq_prefix (fun _ e => abandonOne_evq_prefix e) s
    rw [abruptStop_of_writing hw, fset_evq, showWriting_evq]
    exact hend

theorem tripHead_evq_prefix : s.evq <+: (tripHead h s).evq := by
  unfold tripHead tripHeadAs
  rw [killHead_evq]
  exact abruptStop_evq_prefix

theorem tripIfWriting_evq_prefix : s.evq <+: (tripIfWriting h s).evq := by
  unfold tripIfWriting
  split
  · exact tripHead_evq_prefix
  · exact List.prefix_refl _

/-! ### The lost-feedback path -/

/-- The pages the lost-feedback path of a head writes (R175). -/
def lostPages (h : Nat) : List Nat :=
  [LOOP.page (4 * h), LOOP.page (4 * h + 1), LOOP.page (4 * h + 2), LOOP.page (4 - 4 * h), MC.page, CHC.page h, ACQ.page h]

theorem otherPages_loopLost {ps : List Nat} {e : Nat} (he : LOOP.page e ∈ ps) (hother : e % 4 = 0 → LOOP.page (4 - e) ∈ ps) :
    otherPages ps s (loopLost e s) := by
  have hstate : otherPages ps s (loopState e 5 s) := by
    unfold loopState
    dsimp only
    split
    next h0 => exact (otherPages.refl.fset he (by decide)).fset (hother h0) (by decide)
    next => exact otherPages.refl.fset he (by decide)
  exact (hstate.fset he (by decide)).cnt he (by decide)

theorem otherPages_posInvalid : otherPages (lostPages h) s (posInvalid h s) := by
  have hmc : MC.page ∈ lostPages h := by simp [lostPages]
  have hchc : CHC.page h ∈ lostPages h := by simp [lostPages]
  have hacq : ACQ.page h ∈ lostPages h := by simp [lostPages]
  have hpos : (posFld h).inPage := by unfold posFld; split <;> decide
  unfold posInvalid
  split
  · exact ((((otherPages.refl.fset hmc hpos).fset hchc (by decide)).fset hchc (by decide)).fset hacq (by decide)).raise hchc
  · exact otherPages.refl

/-- The lost-feedback path writes the pages of the loops and of the position. -/
theorem otherPages_lostFeedback : otherPages (lostPages h) s (lostFeedback h cause src s) := by
  have hmc : MC.page ∈ lostPages h := by simp [lostPages]
  have hfld : Fld.inPage (if h = 0 then MC.MC_STATUS_STATE_L else MC.MC_STATUS_STATE_U) := by split <;> decide
  have hloop : ∀ t, otherPages (lostPages h) t (loopLost (4 * h + 2) (loopLost (4 * h + 1) (loopLost (4 * h) t))) := fun t =>
    ((otherPages_loopLost (by simp [lostPages]) (by simp [lostPages])).trans
      (otherPages_loopLost (by simp [lostPages]) (by omega))).trans (otherPages_loopLost (by simp [lostPages]) (by omega))
  have hstate : ∀ t hd, otherPages (lostPages h) t (mcState h 9 (setHead h hd t)) := fun t hd =>
    (otherPages.refl.congr (u := setHead h hd t) rfl rfl).fset hmc hfld
  unfold lostFeedback
  exact ((((hloop s).trans (hstate _ _)).trans otherPages_posInvalid).raiseMc hmc).congr rfl rfl

/-- On the lost-feedback path the head's motion state is LOST (R175, R197). -/
theorem getMcState_lostFeedback : getMcState head.n (lostFeedback head.n cause src s) = 9 := by
  have hpos : ∀ t, getMcState head.n (posInvalid head.n t) = getMcState head.n t := by
    intro t
    unfold posInvalid
    split
    · cases head <;> simp (disch := decide) [getMcState, setPos, posFld, fget_raise, fget_fset_other, Head.n]
    · rfl
  have hmc : ∀ t, getMcState head.n (raiseMc (MC.mLOST_L + head.n) t) = getMcState head.n t := by
    intro t
    cases head <;> exact (fget_intEdge ..).trans (fget_fset_other _ _ (by decide))
  show getMcState head.n (raiseMc _ (posInvalid _ (mcState head.n 9 _))) = 9
  rw [hmc, hpos]
  cases head <;> exact fget_fset_same ..

theorem posInvalid_evq_prefix : s.evq <+: (posInvalid h s).evq := by
  unfold posInvalid
  split
  · simp [setPos]
  · exact List.prefix_refl _

theorem lostFeedback_evq_prefix : s.evq <+: (lostFeedback h cause src s).evq := by
  have hloop : ∀ e t, (loopLost e t).evq = t.evq := fun e t => (loopLost_kept (m := State.evq) (fun _ => rfl) (.refl t)).view
  have hmc : ∀ t, (mcState h 9 t).evq = t.evq := fun _ => rfl
  unfold lostFeedback
  refine List.IsPrefix.trans ?_ (List.prefix_append _ _)
  rw [raiseMc_evq]
  refine List.IsPrefix.trans ?_ posInvalid_evq_prefix
  simp [hloop, hmc]

theorem lostFeedbackTrip_evq_prefix : s.evq <+: (lostFeedbackTrip h cause src s).evq :=
  tripIfWriting_evq_prefix.trans lostFeedback_evq_prefix

/-- The lost-feedback path clears no interrupt of HTX, with its trip or without. -/
theorem hasInt.lostFeedbackTrip {b : Nat} (hint : hasInt (HTX.page head.n) b s) (hb : b < 32) :
    hasInt (HTX.page head.n) b (lostFeedbackTrip head.n cause src s) := by
  have htrip : hasInt (HTX.page head.n) b (tripIfWriting head.n s) := by
    unfold tripIfWriting
    split
    · exact hint.tripHead hb
    · exact hint
  exact (hasInt_congr (otherPages_lostFeedback _ (by cases head <;> decide) _ (by decide))).2 htrip

end Sys2Proof.Machine
end

section
/-!
PROOFS. Arrays of registers written entry by entry.
-/
namespace Sys2Proof.Machine

variable {s : State} {p q n i j : Nat} {f g : Fld} {F : Nat → Fld} {V : Nat → Nat}

/-- Entries of an array register lie apart. -/
theorem key_ix_ne (hstride : 0 < f.stride) (hij : i ≠ j) : (f.ix i).key p ≠ (f.ix j).key p := by
  have hmul : f.stride * i ≠ f.stride * j := fun e => hij (Nat.eq_of_mul_eq_mul_left hstride e)
  unfold Fld.key Fld.ix
  dsimp only
  omega

theorem fget_foldl_fset_other (hkey : ∀ i < n, g.key q ≠ (F i).key p) :
    fget q g ((List.range n).foldl (fun t i => fset p (F i) (V i) t) s) = fget q g s := by
  induction n with
  | zero => rfl
  | succ n ih =>
    rw [List.range_succ, List.foldl_append]
    exact (fget_fset_other _ _ (hkey n (Nat.lt_succ_self n))).trans (ih fun i hi => hkey i (Nat.lt_succ_of_lt hi))

/-- Each entry written reads as written, where the entries lie apart. -/
theorem fget_foldl_fset_same (hapart : ∀ i j, i ≠ j → (F i).key p ≠ (F j).key p) (hi : i < n) :
    fget p (F i) ((List.range n).foldl (fun t i => fset p (F i) (V i) t) s) = trunc (F i).width (V i) := by
  induction n with
  | zero => exact absurd hi (Nat.not_lt_zero i)
  | succ n ih =>
    rw [List.range_succ, List.foldl_append]
    rcases Nat.lt_succ_iff_lt_or_eq.1 hi with hlt | rfl
    · exact (fget_fset_other _ _ (hapart i n (Nat.ne_of_lt hlt))).trans (ih hlt)
    · exact fget_fset_same ..

theorem otherFields_foldl_fset : otherFields p ((List.range n).map F) s ((List.range n).foldl (fun t i => fset p (F i) (V i) t) s) := by
  intro q g hg
  refine fget_foldl_fset_other fun i hi e => hg ?_
  rw [e, List.map_map]
  exact List.mem_map_of_mem (List.mem_range.2 hi)

end Sys2Proof.Machine
end

section
/-!
PROOFS. Bring-up of a head's links (R93 to R95): what the operations that train a group show and what they leave alone.
-/
namespace Sys2Proof.Machine

variable {s : State} {head : Head} {h q v : Nat} {g : Fld}

/-! ### The records of links and lanes after other writes -/

@[simp] theorem fset_link (p : Nat) (f : Fld) (v k : Nat) (s : State) : (fset p f v s).link k = s.link k := rfl
@[simp] theorem fset_lane (p : Nat) (f : Fld) (v k : Nat) (s : State) : (fset p f v s).lane k = s.lane k := rfl
@[simp] theorem send_link (o : Out) (k : Nat) (s : State) : (send o s).link k = s.link k := rfl
@[simp] theorem emit_link (c src a b d k : Nat) (s : State) : (emit c src a b d s).link k = s.link k := rfl
@[simp] theorem emit_head (c src a b d k : Nat) (s : State) : (emit c src a b d s).head k = s.head k := rfl
@[simp] theorem raise_link (p b k : Nat) (s : State) : (raise p b s).link k = s.link k :=
  (raise_kept (m := fun u => u.link k) (fun _ => rfl) (.refl s)).view
@[simp] theorem groupState_out (h v : Nat) (s : State) : (groupState h v s).out = s.out := rfl
@[simp] theorem groupState_evq (h v : Nat) (s : State) : (groupState h v s).evq = s.evq := rfl
@[simp] theorem laneFresh_out (l : Nat) (s : State) : (laneFresh l s).out = s.out := rfl
@[simp] theorem laneFresh_evq (l : Nat) (s : State) : (laneFresh l s).evq = s.evq := rfl

/-! ### The state of a group and its training -/

theorem hsl_page_ne : HSL.page h 0 ≠ HSL.page h 1 := by simp [HSL.page]

theorem hsl_page_ne_htx {link : Nat} (hlink : link < 2) : HSL.page head.n link ≠ HTX.page head.n := by
  cases head <;> simp [HSL.page, HTX.page, Head.n] <;> omega

theorem fget_groupState_place (hg : g.inPage) (hne : g.place ≠ HTX.STATUS_STATE.place) : fget q g (groupState h v s) = fget q g s := by
  have hhsl : g.place ≠ HSL.STATUS_STATE.place := hne
  unfold groupState
  rw [fget_fset_place hg (by decide) hne, fget_fset_place hg (by decide) hhsl, fget_fset_place hg (by decide) hhsl]

theorem fget_htx_groupState : fget (HTX.page h) HTX.STATUS_STATE (groupState h v s) = trunc 3 v := fget_fset_same ..

theorem fget_hsl1_groupState : fget (HSL.page head.n 1) HSL.STATUS_STATE (groupState head.n v s) = trunc 3 v :=
  (fget_fset_other _ _ (key_page_ne (by decide) (by decide) (hsl_page_ne_htx (by decide)))).trans (fget_fset_same ..)

theorem fget_hsl0_groupState : fget (HSL.page head.n 0) HSL.STATUS_STATE (groupState head.n v s) = trunc 3 v :=
  ((fget_fset_other _ _ (key_page_ne (by decide) (by decide) (hsl_page_ne_htx (by decide)))).trans
    (fget_fset_other _ _ (key_page_ne (by decide) (by decide) hsl_page_ne))).trans (fget_fset_same ..)

/-- The places that an attempt at training writes on the pages of its group (R94). -/
def trainPlaces : List Nat :=
  [HTX.STATUS_STATE.place, HTX.STATUS_MSG_BUSY.place, HTX.MSG_CTRL_BUSY.place, HSL.TRAIN_CNT.place]

theorem fget_trainAttempt_place (hg : g.inPage) (hne : g.place ∉ trainPlaces) : fget q g (trainAttempt h s) = fget q g s := by
  simp only [trainPlaces, List.mem_cons, not_or] at hne
  obtain ⟨hstate, hmsg, hbusy, hcnt, -⟩ := hne
  unfold trainAttempt
  rw [fget_send, fget_fset_place hg (by decide) hcnt, fget_fset_place hg (by decide) hcnt, fget_fset_place hg (by decide) hbusy,
    fget_fset_place hg (by decide) hmsg, fget_setLink, fget_groupState_place hg hstate]
  rfl

theorem fget_state_trainAttempt : fget (HTX.page h) HTX.STATUS_STATE (trainAttempt h s) = 1 := by
  unfold trainAttempt
  rw [fget_send, fget_fset_place (by decide) (by decide) (by decide), fget_fset_place (by decide) (by decide) (by decide),
    fget_fset_place (by decide) (by decide) (by decide), fget_fset_place (by decide) (by decide) (by decide), fget_setLink,
    fget_htx_groupState]
  rfl

theorem link_trainAttempt : (trainAttempt h s).link h = { s.link h with attempts := (s.link h).attempts + 1, msgs := [] } := by
  simp [trainAttempt]

theorem out_trainAttempt : (trainAttempt h s).out = s.out ++ [.training h] := by
  simp [trainAttempt]

theorem evq_trainAttempt : (trainAttempt h s).evq = s.evq := by
  simp [trainAttempt]

theorem fget_startGroup_place (hg : g.inPage) (hne : g.place ∉ trainPlaces) : fget q g (startGroup h s) = fget q g s :=
  fget_trainAttempt_place hg hne

theorem fget_state_startGroup : fget (HTX.page h) HTX.STATUS_STATE (startGroup h s) = 1 := fget_state_trainAttempt

theorem link_startGroup : (startGroup h s).link h = { s.link h with attempts := 1, msgs := [] } := by
  unfold startGroup
  rw [link_trainAttempt, setLink_same]

theorem out_startGroup : (startGroup h s).out = s.out ++ [.training h] := out_trainAttempt

theorem evq_startGroup : (startGroup h s).evq = s.evq := evq_trainAttempt

theorem hasInt_startGroup {p b : Nat} : hasInt p b (startGroup h s) ↔ hasInt p b s :=
  hasInt_congr (fget_startGroup_place (by decide) (by decide))

/-- Each start of training counts on the first lane's page (R119). -/
theorem fget_trainCnt_startGroup :
    fget (HSL.page h 0) HSL.TRAIN_CNT (startGroup h s) = min 255 (fget (HSL.page h 0) HSL.TRAIN_CNT s + 1) := by
  unfold startGroup trainAttempt
  rw [fget_send, fget_fset_other _ _ (key_page_ne (by decide) (by decide) hsl_page_ne), fget_fset_same, fget_setLink]
  exact Nat.mod_eq_of_lt (show min 255 _ < 2 ^ 8 by omega)

/-! ### The enables -/

theorem fon_fsetB {p : Nat} {f : Fld} {b : Bool} (hw : 0 < f.width) : fon p f (fsetB p f b s) = b := by
  unfold fon
  rw [fget_fsetB_same _ _ _ _ hw]
  cases b <;> rfl

/-- A lane that is not enabled keeps its group from being enabled (R93). -/
theorem groupEnabled_setLinkEn_false {page : LinkPage} (hpage : page ≠ .acl) :
    groupEnabled h (setLinkEn h false s page) = false := by
  cases page with
  | hsl0 => simp [groupEnabled, setLinkEn, fon_fsetB (show 0 < HSL.CTRL_EN.width by decide)]
  | hsl1 => simp [groupEnabled, setLinkEn, fon_fsetB (show 0 < HSL.CTRL_EN.width by decide)]
  | htx => simp [groupEnabled, setLinkEn, fon_fsetB (show 0 < HTX.CTRL_EN.width by decide)]
  | acl => exact absurd rfl hpage

theorem setLinkEn_out {page : LinkPage} {en : Bool} : (setLinkEn h en s page).out = s.out := by cases page <;> rfl

end Sys2Proof.Machine
end

section
/-!
PROOFS. Degradation, enables and training of the links (R93, R94, R108, R118): each command of O15 that starts or ends them.
-/
namespace Sys2Proof.Machine

variable (s : State) (head : Head)

/-! ### Degradation (R106, R108) -/

/-- The lane shown degraded: its run of bad milliseconds goes up, and DEGRADED, the interrupt and event 0x3102 tell of it. -/
def degraded (h k corrected : Nat) (s : State) : State :=
  let p := HSL.page h k
  let l := hslLane h k
  s |> setLane l { s.lane l with degMs := (s.lane l).degMs + 1 } |> fset p HSL.STATUS_DEGRADED 1 |> raise p HSL.iDEGRADED
    |> emit 0x3102 (srcChan h) l corrected (fget p HSL.DEG_CFG_DEG_THR s)

variable {s head}

theorem execLaneDegraded_over {link : Fin 2} {corrected : Nat} (hthr : fget (HSL.page head.n link) HSL.DEG_CFG_DEG_THR s < corrected)
    (hms : fget (HSL.page head.n link) HSL.DEG_CFG_DEG_MS s ≤ (s.lane (hslLane head.n link)).degMs + 1)
    (hfresh : fon (HSL.page head.n link) HSL.STATUS_DEGRADED s = false) :
    ∃ t, exec (.laneDegraded head link corrected) s = .next t ∧
      (t = degraded head.n link corrected s ∨ t = startGroup head.n (degraded head.n link corrected s)) := by
  change ∃ t, execLaneDegraded head link corrected s = .next t ∧ _
  have hfresh' : ∀ l x, fon (HSL.page head.n link) HSL.STATUS_DEGRADED (setLane l x s) = false := fun _ _ => hfresh
  simp only [execLaneDegraded, fget_setLane, hfresh', hms, hthr, decide_true, Bool.not_false, Bool.and_self, if_true]
  split
  · exact ⟨_, rfl, .inr rfl⟩
  · exact ⟨_, rfl, .inl rfl⟩

theorem hslLane_mod {link : Fin 2} : hslLane head.n link % 2 ^ 32 = hslLane head.n link :=
  Nat.mod_eq_of_lt (by cases head <;> simp only [hslLane, Head.n] <;> omega)

theorem laneDegraded_over {link : Fin 2} {corrected : Nat} (hthr : fget (HSL.page head.n link) HSL.DEG_CFG_DEG_THR s < corrected)
    (hms : fget (HSL.page head.n link) HSL.DEG_CFG_DEG_MS s ≤ (s.lane (hslLane head.n link)).degMs + 1)
    (hfresh : fon (HSL.page head.n link) HSL.STATUS_DEGRADED s = false) :
    Completes (.laneDegraded head link corrected) s fun t =>
      t.evq = s.evq ++ [⟨0x3102, srcChan head.n, hslLane head.n link, corrected % 2 ^ 32, fget (HSL.page head.n link) HSL.DEG_CFG_DEG_THR s % 2 ^ 32, false⟩] ∧
      hasInt (HSL.page head.n link) HSL.iDEGRADED t ∧ sameBut [.regs, .evq, .out, .msixPend, .lanes, .links] s t := by
  obtain ⟨t, ht, hcases⟩ := execLaneDegraded_over hthr hms hfresh
  have hevq : (degraded head.n link corrected s).evq = s.evq ++
      [⟨0x3102, srcChan head.n, hslLane head.n link, corrected % 2 ^ 32, fget (HSL.page head.n link) HSL.DEG_CFG_DEG_THR s % 2 ^ 32, false⟩] := by
    unfold degraded
    simp only [emit_evq, raise_evq, fset_evq, setLane_evq, hslLane_mod]
  have hint : hasInt (HSL.page head.n link) HSL.iDEGRADED (degraded head.n link corrected s) := hasInt_raise (by decide)
  refine ⟨t, ht, ?_, ?_, sameBut_of (execLaneDegraded_kept (fun _ => rfl) (.refl s)) ht⟩
  · rcases hcases with rfl | rfl
    · exact hevq
    · exact evq_startGroup.trans hevq
  · rcases hcases with rfl | rfl
    · exact hint
    · exact hasInt_startGroup.2 hint

theorem laneDegraded_below {link : Fin 2} {corrected : Nat} (hthr : corrected ≤ fget (HSL.page head.n link) HSL.DEG_CFG_DEG_THR s) :
    Completes (.laneDegraded head link corrected) s fun t =>
      t.lane (hslLane head.n link) = { s.lane (hslLane head.n link) with degMs := 0 } ∧ fget (HSL.page head.n link) HSL.STATUS_DEGRADED t = 0 ∧
      sameBut [.regs, .lanes] s t ∧ otherFields (HSL.page head.n link) [HSL.STATUS_DEGRADED] s t := by
  refine ⟨fset (HSL.page head.n link) HSL.STATUS_DEGRADED 0
    (setLane (hslLane head.n link) { s.lane (hslLane head.n link) with degMs := 0 } s), ?_, setLane_same .., fget_fset_same .., rfl,
    otherFields_fset _ _ _ (setLane _ _ s)⟩
  change execLaneDegraded head link corrected s = _
  simp [execLaneDegraded, Nat.not_lt.2 hthr]

/-! ### Enables (R93) -/

theorem linkEnable_acl (en : Bool) : Completes (.linkEnable head .acl en) s fun t =>
    fget (ACL.page head.n) ACL.CTRL_EN t = b2n en ∧ fget (ACL.page head.n) ACL.STATUS_ACTIVE t = b2n en ∧ sameBut [.regs] s t ∧
    otherFields (ACL.page head.n) [ACL.CTRL_EN, ACL.STATUS_ACTIVE] s t := by
  refine ⟨setLinkEn head.n en s .acl, rfl, ?_, fget_fsetB_same _ _ _ _ (by decide), rfl, ?_⟩
  · exact (fget_fset_place (by decide) (by decide) (by decide)).trans (fget_fsetB_same _ _ _ _ (by decide))
  · exact (otherFields_fset _ ACL.CTRL_EN _ s).trans (otherFields_fset _ ACL.STATUS_ACTIVE _ _) (by simp) (by simp)

theorem linkEnable_same_group {page : LinkPage} {en : Bool} (hpage : page ≠ .acl)
    (hsame : groupEnabled head.n s = groupEnabled head.n (setLinkEn head.n en s page)) :
    Completes (.linkEnable head page en) s fun t => t = setLinkEn head.n en s page := by
  refine ⟨_, ?_, rfl⟩
  change execLinkEnable head page en s = _
  simp [execLinkEnable, hpage, ← hsame]

theorem linkEnable_starts {page : LinkPage} (hpage : page ≠ .acl) (hwas : groupEnabled head.n s = false)
    (hnow : groupEnabled head.n (setLinkEn head.n true s page) = true) :
    Completes (.linkEnable head page true) s fun t => fget (HTX.page head.n) HTX.STATUS_STATE t = 1 ∧ (t.link head.n).attempts = 1 ∧
      (t.link head.n).msgs = [] ∧ t.out = s.out ++ [.training head.n] ∧ fget (HSL.page head.n 0) HSL.TRAIN_CNT t = 1 ∧
      sameBut [.regs, .out, .lanes, .links] s t := by
  let u := setLinkEn head.n true s page
  let u' := fset (HSL.page head.n 1) HSL.TRAIN_CNT 0 (fset (HSL.page head.n 0) HSL.TRAIN_CNT 0 u)
  have hrun : exec (.linkEnable head page true) s = .next (startGroup head.n u') := by
    change execLinkEnable head page true s = _
    simp [execLinkEnable, hpage, hwas, hnow, u, u']
  have hcnt : fget (HSL.page head.n 0) HSL.TRAIN_CNT u' = 0 :=
    (fget_fset_other _ _ (key_page_ne (by decide) (by decide) hsl_page_ne)).trans (fget_fset_same ..)
  refine ⟨_, hrun, fget_state_startGroup, ?_, ?_, ?_, ?_, ?_⟩
  · rw [link_startGroup]
  · rw [link_startGroup]
  · exact out_startGroup.trans (congrArg (· ++ _) setLinkEn_out)
  · rw [fget_trainCnt_startGroup, hcnt]
    rfl
  · exact (startGroup_kept (m := fun u => [Part.regs, .out, .lanes, .links].foldr State.clear u) (fun _ => rfl)
      (fset_kept (fun _ => rfl) (fset_kept (fun _ => rfl) (setLinkEn_kept (fun _ => rfl) (.refl s))))).view

theorem linkEnable_stops {page : LinkPage} (hpage : page ≠ .acl) (hwas : groupEnabled head.n s = true) :
    Completes (.linkEnable head page false) s fun t =>
      fget (HTX.page head.n) HTX.STATUS_STATE t = 0 ∧ fget (HSL.page head.n 0) HSL.STATUS_STATE t = 0 ∧ fget (HSL.page head.n 1) HSL.STATUS_STATE t = 0 ∧
      sameBut [.regs, .evq, .out, .msixPend, .links, .recs, .loops, .heads] s t := by
  let u := setLinkEn head.n false s page
  let u' := if groupActive head.n u then lostFeedbackTrip head.n 2 (srcEng (4 * head.n)) u else u
  have hrun : exec (.linkEnable head page false) s = .next (groupState head.n 0 u') := by
    change execLinkEnable head page false s = _
    simp [execLinkEnable, hpage, hwas, groupEnabled_setLinkEn_false hpage, u, u']
  let m : State → State := fun u => [Part.regs, .evq, .out, .msixPend, .links, .recs, .loops, .heads].foldr State.clear u
  have hu : Kept m s u := setLinkEn_kept (fun _ => rfl) (.refl s)
  exact ⟨_, hrun, fget_htx_groupState, fget_hsl0_groupState, fget_hsl1_groupState,
    (groupState_kept (fun _ => rfl) (ite_kept (lostFeedbackTrip_kept (fun _ => rfl) hu) hu)).view⟩

theorem linkTrain_enabled {page : LinkPage} (hpage : page ≠ .acl) (hen : groupEnabled head.n s = true) :
    Completes (.linkTrain head page) s fun t =>
      fget (HTX.page head.n) HTX.STATUS_STATE t = 1 ∧ (t.link head.n).attempts = 1 ∧ t.out.getLast? = some (.training head.n) := by
  let u := if groupActive head.n s then lostFeedbackTrip head.n 2 (srcEng (4 * head.n)) s else s
  have hrun : exec (.linkTrain head page) s = .next (startGroup head.n u) := by
    change execLinkTrain head page s = _
    simp [execLinkTrain, hpage, hen, u]
  refine ⟨_, hrun, fget_state_startGroup, ?_, ?_⟩
  · rw [link_startGroup]
  · rw [out_startGroup, List.getLast?_append_of_ne_nil _ (by simp)]
    rfl

/-! ### Training frames and attempts that fail (R93, R94) -/

/-- A lane that has found a training frame (R93). -/
def frameLane (f : TrainingFrame) (x : LaneSt) : LaneSt :=
  { x with found := true, ready := x.ready || f.ready, last := x.last || f.last, window := some f.window }

/-- A ready frame's settings shown on its lane's page. -/
def showSettings (p : Nat) (f : TrainingFrame) (s : State) : State :=
  s |> fset p HSL.TX_FFE_CM2 (slice f.ffe.toNat 3 0) |> fset p HSL.TX_FFE_CM1 (slice f.ffe.toNat 7 4)
    |> fset p HSL.TX_FFE_C0 (slice f.ffe.toNat 11 8) |> fset p HSL.TX_FFE_CP1 (slice f.ffe.toNat 15 12)
    |> fset p HSL.RX_EQ_CTLE (slice f.eq.toNat 7 0) |> fset p HSL.RX_EQ_DFE1 (slice f.eq.toNat 15 8)
    |> fset p HSL.RX_EQ_EYE_H (slice f.eq.toNat 23 16) |> fset p HSL.RX_EQ_EYE_W (slice f.eq.toNat 31 24)

/-- A frame taken by a lane, before the group's state moves on. -/
def frameTaken (h k : Nat) (f : TrainingFrame) (s : State) : State :=
  let s := setLane (hslLane h k) (frameLane f (s.lane (hslLane h k))) s
  if f.ready then showSettings (HSL.page h k) f s else s

theorem frameTaken_lanes {h k : Nat} {f : TrainingFrame} :
    (frameTaken h k f s).lane (hslLane h k) = frameLane f (s.lane (hslLane h k)) := by
  unfold frameTaken
  dsimp only
  split
  · simp [showSettings]
  · exact setLane_same ..

theorem fget_c0_showSettings {p : Nat} {f : TrainingFrame} : fget p HSL.TX_FFE_C0 (showSettings p f s) = slice f.ffe.toNat 11 8 := by
  unfold showSettings
  rw [fget_fset_place (by decide) (by decide) (by decide), fget_fset_place (by decide) (by decide) (by decide),
    fget_fset_place (by decide) (by decide) (by decide), fget_fset_place (by decide) (by decide) (by decide),
    fget_fset_place (by decide) (by decide) (by decide), fget_fset_same]
  exact Nat.mod_mod _ _

/-- Beyond the frame taken, only the group's STATE changes (R94). -/
theorem execTrainingFrame_next {link : Fin 2} {f : TrainingFrame} (hcrc : f.crcOk = true)
    (hstate : fget (HTX.page head.n) HTX.STATUS_STATE s ∈ [1, 2]) :
    ∃ t, exec (.trainingFrame head link f) s = .next t ∧ t.lanes = (frameTaken head.n link f s).lanes ∧
      ∀ q g, g.inPage → g.place ≠ HTX.STATUS_STATE.place → fget q g t = fget q g (frameTaken head.n link f s) := by
  have hrun : ¬(!f.crcOk || !(decide (fget (HTX.page head.n) HTX.STATUS_STATE s = 1) ||
      decide (fget (HTX.page head.n) HTX.STATUS_STATE s = 2))) = true := by
    simpa [hcrc, or_iff_not_imp_left] using hstate
  have hmove : ∀ (c : Prop) [Decidable c] v u, (if c then groupState head.n v u else u).lanes = u.lanes ∧
      ∀ q g, g.inPage → g.place ≠ HTX.STATUS_STATE.place → fget q g (if c then groupState head.n v u else u) = fget q g u := by
    intro c _ v u
    split
    · exact ⟨rfl, fun _ _ hg hne => fget_groupState_place hg hne⟩
    · exact ⟨rfl, fun _ _ _ _ => rfl⟩
  change ∃ t, execTrainingFrame head link f s = .next t ∧ _
  unfold execTrainingFrame
  dsimp only
  rw [if_neg hrun]
  refine ⟨_, (apply_ite Host.Outcome.next _ _ _).symm, ?_⟩
  exact ⟨(hmove _ _ _).1.trans (hmove _ _ _).1, fun q g hg hne => ((hmove _ _ _).2 q g hg hne).trans ((hmove _ _ _).2 q g hg hne)⟩

theorem trainingFrame_taken {link : Fin 2} {f : TrainingFrame} (hcrc : f.crcOk = true)
    (hstate : fget (HTX.page head.n) HTX.STATUS_STATE s ∈ [1, 2]) :
    Completes (.trainingFrame head link f) s fun t => (t.lane (hslLane head.n link)).found = true ∧
      (t.lane (hslLane head.n link)).window = some f.window ∧
      (f.ready = true → (t.lane (hslLane head.n link)).ready = true ∧ fget (HSL.page head.n link) HSL.TX_FFE_C0 t = slice f.ffe.toNat 11 8) ∧
      sameBut [.regs, .lanes] s t := by
  obtain ⟨t, ht, hlanes, hregs⟩ := execTrainingFrame_next (link := link) hcrc hstate
  have hlane : t.lane (hslLane head.n link) = frameLane f (s.lane (hslLane head.n link)) := by
    rw [← frameTaken_lanes]
    unfold State.lane
    rw [hlanes]
  refine ⟨t, ht, ?_, ?_, fun hready => ⟨?_, ?_⟩, sameBut_of (execTrainingFrame_kept (fun _ => rfl) (.refl s)) ht⟩
  · rw [hlane, frameLane]
  · rw [hlane, frameLane]
  · simp [hlane, frameLane, hready]
  · rw [hregs _ _ (by decide) (by decide)]
    unfold frameTaken
    rw [if_pos hready]
    exact fget_c0_showSettings

/-- A failed attempt told on the group's pages and by event 0x3105 (R94, R106). -/
def attemptFailed (h cause : Nat) (s : State) : State :=
  s |> raise (HSL.page h 0) HSL.iTRAIN_FAIL |> raise (HSL.page h 1) HSL.iTRAIN_FAIL |> raise (HTX.page h) HTX.iTRAIN_FAIL
    |> fault (HSL.page h 0) cause |> fault (HSL.page h 1) cause |> fault (HTX.page h) cause
    |> emit 0x3105 (srcChan h) (hslLane h 0) cause (s.link h).attempts

theorem attemptFailed_link {h cause k : Nat} : (attemptFailed h cause s).link k = s.link k := by
  simp [attemptFailed, fault]

theorem attemptFailed_evq {h cause : Nat} : (attemptFailed h cause s).evq =
    s.evq ++ [⟨0x3105, srcChan h, hslLane h 0 % 2 ^ 32, cause % 2 ^ 32, (s.link h).attempts % 2 ^ 32, false⟩] := by
  simp [attemptFailed, fault]

theorem hasInt_attemptFailed {h cause : Nat} : hasInt (HTX.page h) HTX.iTRAIN_FAIL (attemptFailed h cause s) := by
  unfold attemptFailed fault
  refine (hasInt_congr (fget_emit ..)).2 ?_
  rw [hasInt_fset (by decide) (by decide), hasInt_fset (by decide) (by decide), hasInt_fset (by decide) (by decide)]
  exact hasInt_raise (by decide)

theorem fget_fault_attemptFailed {h cause : Nat} : fget (HTX.page h) hdrFault (attemptFailed h cause s) = cause % 2 ^ 8 := by
  unfold attemptFailed fault
  rw [fget_emit, fget_fset_same]
  rfl

/-- A timeout in a group that trains is a failed attempt; the third ends in FAULT, and others are followed by another (R94). -/
theorem execTrainingTimeout_training {cause : BitVec 8} (hstate : fget (HTX.page head.n) HTX.STATUS_STATE s ∉ [0, 5, 6]) :
    exec (.trainingTimeout head cause) s = .next (trainFailed head.n cause.toNat s) := by
  change execTrainingTimeout head cause s = _
  unfold execTrainingTimeout
  exact if_neg (by simpa [and_assoc] using hstate)

theorem trainFailed_again {h cause : Nat} (ha : (s.link h).attempts < 3) : trainFailed h cause s = trainAttempt h (attemptFailed h cause s) := by
  unfold trainFailed attemptFailed
  dsimp only
  rw [if_neg (Nat.not_le.2 ha)]

theorem trainFailed_last {h cause : Nat} (ha : 3 ≤ (s.link h).attempts) : trainFailed h cause s =
    emit 0x3106 (srcChan h) (hslLane h 0) 0x06 0 (setHead h { (attemptFailed h cause s).head h with out := true }
      (groupFault h 0x06 (attemptFailed h cause s))) := by
  unfold trainFailed attemptFailed
  dsimp only
  rw [if_pos ha]

theorem trainingTimeout_again {cause : BitVec 8} (hstate : fget (HTX.page head.n) HTX.STATUS_STATE s ∉ [0, 5, 6])
    (ha : (s.link head.n).attempts < 3) :
    Completes (.trainingTimeout head cause) s fun t => fget (HTX.page head.n) HTX.STATUS_STATE t = 1 ∧
      fget (HTX.page head.n) hdrFault t = cause.toNat ∧ hasInt (HTX.page head.n) HTX.iTRAIN_FAIL t ∧
      (t.link head.n).attempts = (s.link head.n).attempts + 1 ∧
      t.evq = s.evq ++ [⟨0x3105, srcChan head.n, hslLane head.n 0, cause.toNat, (s.link head.n).attempts, false⟩] := by
  refine ⟨_, (execTrainingTimeout_training hstate).trans (congrArg _ (trainFailed_again ha)), fget_state_trainAttempt, ?_, ?_, ?_, ?_⟩
  · rw [fget_trainAttempt_place (by decide) (by decide), fget_fault_attemptFailed]
    exact Nat.mod_eq_of_lt cause.isLt
  · exact (hasInt_congr (fget_trainAttempt_place (by decide) (by decide))).2 hasInt_attemptFailed
  · rw [link_trainAttempt, attemptFailed_link]
  · have hcause : cause.toNat % 2 ^ 32 = cause.toNat := Nat.mod_eq_of_lt (by have := cause.isLt; omega)
    have hlane : hslLane head.n 0 % 2 ^ 32 = hslLane head.n 0 := hslLane_mod (link := 0)
    rw [evq_trainAttempt, attemptFailed_evq, hcause, hlane, Nat.mod_eq_of_lt (by omega : (s.link head.n).attempts < 2 ^ 32)]

theorem trainingTimeout_last {cause : BitVec 8} (hstate : fget (HTX.page head.n) HTX.STATUS_STATE s ∉ [0, 5, 6])
    (ha : 3 ≤ (s.link head.n).attempts) :
    Completes (.trainingTimeout head cause) s fun t => fget (HTX.page head.n) HTX.STATUS_STATE t = 6 ∧ (t.head head.n).out = true ∧
      fget (HTX.page head.n) hdrFault t = 0x06 ∧ t.evq.getLast? = some ⟨0x3106, srcChan head.n, hslLane head.n 0, 0x06, 0, false⟩ := by
  refine ⟨_, (execTrainingTimeout_training hstate).trans (congrArg _ (trainFailed_last ha)), ?_, ?_, ?_, ?_⟩
  · rw [fget_emit, fget_setHead]
    unfold groupFault fault
    rw [fget_fset_place (by decide) (by decide) (by decide), fget_fset_place (by decide) (by decide) (by decide),
      fget_fset_place (by decide) (by decide) (by decide), fget_htx_groupState]
    rfl
  · rw [emit_head, setHead_same]
  · rw [fget_emit, fget_setHead]
    unfold groupFault fault
    rw [fget_fset_same]
    rfl
  · have hlane : hslLane head.n 0 % 2 ^ 32 = hslLane head.n 0 := hslLane_mod (link := 0)
    rw [emit_evq, List.getLast?_append_of_ne_nil _ (by simp), hlane]
    rfl

end Sys2Proof.Machine
end

section
/-!
PROOFS. Control messages of a head (R101 to R103): sent from the register, answered, sent again, and failed.
-/
namespace Sys2Proof.Machine

variable {s t u : State} {head : Head} {h q p b : Nat} {g : Fld}

/-! ### A message sent (R101, R102) -/

/-- What SET_POWER's clamp leaves of the arguments and the state (R102); other types are sent as they are. -/
def clamped (h type args : Nat) (s : State) : Nat × State := if type = 3 then clampPower h args s else (args, s)

theorem clamped_of_ne {type args : Nat} (htype : type ≠ 3) : clamped h type args s = (args, s) := if_neg htype

/-- The clamp counts in CLAMP_CNT and STICKY alone. -/
theorem clamped_kept {type args : Nat} {α : Type} {m : State → α} (hm : ∀ u, m u = m { u with regs := [] }) :
    Kept m s (clamped h type args s).2 := by
  unfold clamped
  split
  · exact clampPower_kept hm (.refl s)
  · exact .refl s

theorem fget_clamped_place {type args : Nat} (hg : g.inPage) (hcnt : g.place ≠ HTX.CLAMP_CNT.place) (hsticky : g.place ≠ hdrSticky.place) :
    fget q g (clamped h type args s).2 = fget q g s := by
  unfold clamped
  split
  · unfold clampPower
    dsimp only
    split
    · exact (fget_fset_place hg (by decide) hsticky).trans (fget_cnt_place hg (by decide) hcnt hsticky)
    · rfl
  · rfl

theorem clamped_link {type args k : Nat} : (clamped h type args s).2.link k = s.link k :=
  (clamped_kept (m := fun u => u.link k) fun _ => rfl).view

theorem sendMsg_own {type args : Nat} : sendMsg h type args true s =
    send (.htxMsg h type (s.link h).tag (clamped h type args s).1) (fset (HTX.page h) HTX.MSG_CTRL_TAG (s.link h).tag
      (setLink h { s.link h with msgs := (s.link h).msgs ++ [⟨type, (clamped h type args s).1, (s.link h).tag, 1, true⟩],
                                 tag := ((s.link h).tag + 1) % 256 } (clamped h type args s).2)) := by
  rw [← clamped_link (s := s) (h := h) (type := type) (args := args)]
  rfl

/-- HTX_MSG_GO accepted: BUSY on both registers, and the message sent (R103). -/
theorem execHtxMsgGo_accepted (hbusy : fon (HTX.page head.n) HTX.MSG_CTRL_BUSY s = false)
    (habs : emitterAbsent head.n (fget (HTX.page head.n) HTX.MSG_CTRL_TYPE s) (msgArgs head.n s) s = false) :
    exec (.htxMsgGo head) s = .next (sendMsg head.n (fget (HTX.page head.n) HTX.MSG_CTRL_TYPE s) (msgArgs head.n s) true
      (fset (HTX.page head.n) HTX.STATUS_MSG_BUSY 1 (fset (HTX.page head.n) HTX.MSG_CTRL_BUSY 1 s))) := by
  change execHtxMsgGo head s = _
  unfold execHtxMsgGo
  dsimp only
  rw [if_neg (by simp [hbusy, habs])]

theorem htxMsgGo_accepted (hbusy : fon (HTX.page head.n) HTX.MSG_CTRL_BUSY s = false)
    (habs : emitterAbsent head.n (fget (HTX.page head.n) HTX.MSG_CTRL_TYPE s) (msgArgs head.n s) s = false) :
    Completes (.htxMsgGo head) s fun t => fget (HTX.page head.n) HTX.MSG_CTRL_BUSY t = 1 ∧ fget (HTX.page head.n) HTX.STATUS_MSG_BUSY t = 1 ∧
      (∃ args, (t.link head.n).msgs = (s.link head.n).msgs ++ [⟨fget (HTX.page head.n) HTX.MSG_CTRL_TYPE s, args, (s.link head.n).tag, 1, true⟩] ∧
        t.out = s.out ++ [.htxMsg head.n (fget (HTX.page head.n) HTX.MSG_CTRL_TYPE s) (s.link head.n).tag args] ∧
        (fget (HTX.page head.n) HTX.MSG_CTRL_TYPE s ≠ 3 → args = msgArgs head.n s)) ∧
      fget (HTX.page head.n) HTX.MSG_CTRL_TAG t = (s.link head.n).tag % 2 ^ HTX.MSG_CTRL_TAG.width ∧ sameBut [.regs, .out, .links] s t := by
  let u := fset (HTX.page head.n) HTX.STATUS_MSG_BUSY 1 (fset (HTX.page head.n) HTX.MSG_CTRL_BUSY 1 s)
  let type := fget (HTX.page head.n) HTX.MSG_CTRL_TYPE s
  let x := clamped head.n type (msgArgs head.n s) u
  have hrun := execHtxMsgGo_accepted hbusy habs
  refine ⟨_, hrun, ?_, ?_, ⟨x.1, ?_, ?_, fun htype => ?_⟩, ?_, sameBut_of (execHtxMsgGo_kept (fun _ => rfl) (.refl s)) hrun⟩
  · rw [sendMsg_own, fget_send, fget_fset_place (by decide) (by decide) (by decide), fget_setLink,
      fget_clamped_place (by decide) (by decide) (by decide), fget_fset_place (by decide) (by decide) (by decide), fget_fset_same]
    rfl
  · rw [sendMsg_own, fget_send, fget_fset_place (by decide) (by decide) (by decide), fget_setLink,
      fget_clamped_place (by decide) (by decide) (by decide), fget_fset_same]
    rfl
  · rw [sendMsg_own, send_link, fset_link, setLink_same]
    rfl
  · have hout : x.2.out = s.out := (clamped_kept (m := State.out) fun _ => rfl).view
    rw [sendMsg_own, send_out, fset_out, setLink_out, hout]
    rfl
  · exact congrArg Prod.fst (clamped_of_ne htype)
  · rw [sendMsg_own, fget_send, fget_fset_same]
    rfl

/-! ### An answer (R101, R103) -/

theorem answered_other {m : Msg} {result body : Nat} (htype : m.type ∉ [3, 4, 5]) : answered h result m body s = s := by
  simp only [List.mem_cons, List.not_mem_nil, or_false, not_or] at htype
  obtain ⟨h3, h4, h5⟩ := htype
  simp [answered, h3, h4, h5]

/-- A message of the register ended: its response, result and idle state, and MSG_DONE (R103, R120). -/
def ownAnswered (h body result : Nat) (s : State) : State :=
  s |> setResp h body |> ownDone h result |> raise (HTX.page h) HTX.iMSG_DONE

/-- A register field apart from INT_STATUS after a message of the register has ended. -/
theorem fget_ownAnswered {body result : Nat} (hg : g.inPage) (hne : g.place ≠ hdrIntStatus.place) :
    fget q g (ownAnswered h body result s) = fget q g (ownDone h result (setResp h body s)) := fget_raise_place hg hne

theorem fget_resp_ownAnswered {body result i : Nat} (hi : i < 8) :
    fget (HTX.page h) (HTX.MSG_RESP.ix i) (ownAnswered h body result s) = body / 2 ^ (32 * i) % 2 ^ 32 := by
  have hplace : (HTX.MSG_RESP.ix i).place = 0xD80 + 128 * i := by
    simp only [Fld.place, Fld.ix, HTX.MSG_RESP, regs]
    omega
  have hin : (HTX.MSG_RESP.ix i).inPage := by
    simp only [Fld.inPage, Fld.ix, HTX.MSG_RESP, regs]
    omega
  have hkeep : ∀ {p v : Nat} {f : Fld} {t : State}, f.inPage → f.place < 0xD80 →
      fget (HTX.page h) (HTX.MSG_RESP.ix i) (fset p f v t) = fget (HTX.page h) (HTX.MSG_RESP.ix i) t :=
    fun hf hlt => fget_fset_place hin hf (by omega)
  rw [fget_ownAnswered hin (by have : hdrIntStatus.place = 0x200 := rfl; omega)]
  unfold ownDone
  rw [hkeep (by decide) (by decide), hkeep (by decide) (by decide), hkeep (by decide) (by decide)]
  refine (fget_foldl_fset_same (V := fun i => body / 2 ^ (32 * i) % 2 ^ 32) (fun i j hij => key_ix_ne (by decide) hij) hi).trans ?_
  exact Nat.mod_mod _ _

theorem fget_ownDone (result : Nat) : fget (HTX.page h) HTX.MSG_CTRL_BUSY (ownDone h result s) = 0 ∧
    fget (HTX.page h) HTX.STATUS_MSG_BUSY (ownDone h result s) = 0 ∧
    fget (HTX.page h) HTX.MSG_CTRL_RESULT (ownDone h result s) = result % 2 ^ 2 := by
  unfold ownDone
  refine ⟨?_, fget_fset_same .., ?_⟩
  · rw [fget_fset_place (by decide) (by decide) (by decide), fget_fset_same]
    rfl
  · rw [fget_fset_place (by decide) (by decide) (by decide), fget_fset_place (by decide) (by decide) (by decide), fget_fset_same]
    rfl

theorem ownAnswered_link {body result k : Nat} : (ownAnswered h body result s).link k = s.link k :=
  (raise_kept (m := fun u => u.link k) (fun _ => rfl) (ownDone_kept (fun _ => rfl) (setResp_kept (fun _ => rfl) (.refl s)))).view

/-- The state once a message's answer is used: it is no longer outstanding, and a bad argument shows in FAULT_CODE. -/
def answerUsed (h result : Nat) (m : Msg) (body : Nat) (s : State) : State :=
  let t := answered h result m body (setLink h { s.link h with msgs := (s.link h).msgs.erase m } s)
  if result = 1 then fault (HTX.page h) 0x10 t else t

theorem answerUsed_msgs {m : Msg} {result body : Nat} (htype : m.type ∉ [3, 4, 5]) :
    ((answerUsed h result m body s).link h).msgs = (s.link h).msgs.erase m := by
  unfold answerUsed
  rw [answered_other htype]
  dsimp only
  split
  · rw [fault, fset_link, setLink_same]
  · rw [setLink_same]

/-- An answer other than busy, or to the register's own message, is used. -/
theorem execControlResponse_used {type tag : BitVec 8} {body : BitVec 240} {m : Msg}
    (hm : (s.link head.n).msgs.find? (fun m => m.tag = tag.toNat && m.type + 0x80 = type.toNat) = some m)
    (huse : m.own = true ∨ slice body.toNat 239 232 < 2) :
    exec (.controlResponse head type tag body) s = .next (if m.own then
      ownAnswered head.n body.toNat (min 2 (slice body.toNat 239 232)) (answerUsed head.n (min 2 (slice body.toNat 239 232)) m body.toNat s)
      else answerUsed head.n (min 2 (slice body.toNat 239 232)) m body.toNat s) := by
  change execControlResponse head type tag body s = _
  unfold execControlResponse
  dsimp only
  rw [hm]
  dsimp only
  rw [if_neg]
  · rfl
  · rcases huse with hown | hlt
    · simp [hown]
    · simp only [Bool.and_eq_true, decide_eq_true_eq, not_and]
      omega

theorem execControlResponse_busy {type tag : BitVec 8} {body : BitVec 240} {m : Msg}
    (hm : (s.link head.n).msgs.find? (fun m => m.tag = tag.toNat && m.type + 0x80 = type.toNat) = some m)
    (hown : m.own = false) (hbusy : 2 ≤ slice body.toNat 239 232) : exec (.controlResponse head type tag body) s = .next s := by
  change execControlResponse head type tag body s = _
  unfold execControlResponse
  dsimp only
  rw [hm]
  dsimp only
  rw [if_pos (by simp [hown, hbusy])]

theorem controlResponse_found {type tag : BitVec 8} {body : BitVec 240} {m : Msg}
    (hm : (s.link head.n).msgs.find? (fun m => m.tag = tag.toNat && m.type + 0x80 = type.toNat) = some m) :
    Completes (.controlResponse head type tag body) s fun t =>
      (m.own = true → fget (HTX.page head.n) HTX.MSG_CTRL_BUSY t = 0 ∧ fget (HTX.page head.n) HTX.STATUS_MSG_BUSY t = 0 ∧
        fget (HTX.page head.n) HTX.MSG_CTRL_RESULT t = min 2 (slice body.toNat 239 232) ∧ hasInt (HTX.page head.n) HTX.iMSG_DONE t ∧
        ∀ i < 8, fget (HTX.page head.n) (HTX.MSG_RESP.ix i) t = body.toNat / 2 ^ (32 * i) % 2 ^ 32) ∧
      (m.type ∉ [3, 4, 5] → (m.own = true ∨ slice body.toNat 239 232 < 2) → (t.link head.n).msgs = (s.link head.n).msgs.erase m) ∧
      sameBut [.regs, .evq, .out, .msixPend, .links, .recs, .heads] s t := by
  have hsame : ∀ {t}, exec (.controlResponse head type tag body) s = .next t →
      sameBut [.regs, .evq, .out, .msixPend, .links, .recs, .heads] s t :=
    fun ht => sameBut_of (execControlResponse_kept (fun _ => rfl) (.refl s)) ht
  by_cases huse : m.own = true ∨ slice body.toNat 239 232 < 2
  · have hrun := execControlResponse_used hm huse
    refine ⟨_, hrun, fun hown => ?_, fun htype _ => ?_, hsame hrun⟩
    · obtain ⟨hb, hmb, hres⟩ := fget_ownDone (h := head.n) (s := setResp head.n body.toNat
        (answerUsed head.n (min 2 (slice body.toNat 239 232)) m body.toNat s)) (min 2 (slice body.toNat 239 232))
      rw [if_pos hown, fget_ownAnswered (by decide) (by decide), fget_ownAnswered (by decide) (by decide),
        fget_ownAnswered (by decide) (by decide), hb, hmb, hres]
      exact ⟨rfl, rfl, Nat.mod_eq_of_lt (by omega), hasInt_raise (by decide), fun i hi => fget_resp_ownAnswered hi⟩
    · split
      · rw [ownAnswered_link, answerUsed_msgs htype]
      · exact answerUsed_msgs htype
  · rw [not_or, Bool.not_eq_true, Nat.not_lt] at huse
    have hrun := execControlResponse_busy hm huse.1 huse.2
    exact ⟨s, hrun, fun hown => absurd hown (by simp [huse.1]), fun _ h => absurd h (by simp [huse.1, Nat.not_lt.2 huse.2]), hsame hrun⟩

/-! ### A timeout (R101) -/

/-- The message as sent once more. -/
def Msg.again (m : Msg) : Msg := { m with sends := m.sends + 1 }

theorem controlMessageTimeout_again {tag : BitVec 8} {m : Msg} (hm : (s.link head.n).msgs.find? (fun m => m.tag = tag.toNat) = some m)
    (hsends : m.sends < 3) :
    Completes (.controlMessageTimeout head tag) s fun t => t.out = s.out ++ [.htxMsg head.n m.type m.tag m.args] ∧
      { m with sends := m.sends + 1 } ∈ (t.link head.n).msgs ∧ sameBut [.out, .links] s t := by
  let k := s.link head.n
  refine ⟨send (.htxMsg head.n m.type m.tag m.args)
    (setLink head.n { k with msgs := k.msgs.map (fun x => if x = m then m.again else x) } s), ?_, rfl, ?_, rfl⟩
  · change execControlMessageTimeout head tag s = _
    unfold execControlMessageTimeout
    dsimp only
    rw [hm]
    exact if_pos hsends
  · rw [send_link, setLink_same]
    exact List.mem_map.2 ⟨m, List.mem_of_find?_eq_some hm, if_pos rfl⟩

/-- What has been told stays told: events queued keep their place, and an interrupt of page `p` that is set stays set. -/
structure StaysTold (p b : Nat) (s t : State) : Prop where
  evq : s.evq <+: t.evq
  int : hasInt p b s → hasInt p b t

theorem StaysTold.refl : StaysTold p b s s := ⟨List.prefix_refl _, id⟩

theorem StaysTold.trans (h : StaysTold p b s t) (k : StaysTold p b t u) : StaysTold p b s u := ⟨h.evq.trans k.evq, k.int ∘ h.int⟩

theorem StaysTold.ite {c : Prop} [Decidable c] (h : c → StaysTold p b s t) : StaysTold p b s (if c then t else s) := by
  split
  next hc => exact h hc
  next => exact .refl

theorem staysTold_ownDone {result : Nat} : StaysTold p b s (ownDone h result s) := by
  refine ⟨List.prefix_refl _, fun hint => ?_⟩
  unfold ownDone
  rwa [hasInt_fset (by decide) (by decide), hasInt_fset (by decide) (by decide), hasInt_fset (by decide) (by decide)]

theorem staysTold_powerRefused {args : Nat} (hb : b < 32) : StaysTold p b s (powerRefused h args s) := by
  refine ⟨?_, fun hint => ?_⟩
  · simp [powerRefused, fault]
  · unfold powerRefused fault
    refine (hasInt_congr ((fget_emit ..).trans (fget_setRec ..))).2 ?_
    exact (hasInt_fset (by decide) (by decide)).2 (hint.raise hb)

theorem staysTold_lostFeedbackTrip {cause src : Nat} (hb : b < 32) :
    StaysTold (HTX.page head.n) b s (lostFeedbackTrip head.n cause src s) :=
  ⟨lostFeedbackTrip_evq_prefix, fun hint => hint.lostFeedbackTrip hb⟩

/-- The failure of a message told, and the message dropped (R101). -/
def messageFailed (h : Nat) (m : Msg) (s : State) : State :=
  s |> setLink h { s.link h with msgs := (s.link h).msgs.erase m } |> raise (HTX.page h) HTX.iMSG_FAIL |> fault (HTX.page h) 0x11
    |> emit 0x3108 (srcChan h) (4 + h) m.type m.tag

theorem hasInt_messageFailed {m : Msg} : hasInt (HTX.page h) HTX.iMSG_FAIL (messageFailed h m s) := by
  unfold messageFailed fault
  exact (hasInt_congr (fget_emit ..)).2 ((hasInt_fset (by decide) (by decide)).2 (hasInt_raise (by decide)))

theorem messageFailed_evq {m : Msg} : (messageFailed h m s).evq =
    s.evq ++ [⟨0x3108, srcChan h, (4 + h) % 2 ^ 32, m.type % 2 ^ 32, m.tag % 2 ^ 32, false⟩] := by
  simp [messageFailed, fault]

/-- The third timeout: the failure told, what hangs on the message ended, and the group's training started (R101). -/
theorem execControlMessageTimeout_third {tag : BitVec 8} {m : Msg}
    (hm : (s.link head.n).msgs.find? (fun m => m.tag = tag.toNat) = some m) (hsends : 3 ≤ m.sends) :
    ∃ t, exec (.controlMessageTimeout head tag) s = .next (startGroup head.n t) ∧
      StaysTold (HTX.page head.n) HTX.iMSG_FAIL (messageFailed head.n m s) t := by
  change ∃ t, execControlMessageTimeout head tag s = _ ∧ _
  unfold execControlMessageTimeout
  dsimp only
  rw [hm]
  dsimp only
  rw [if_neg (Nat.not_lt.2 hsends)]
  refine ⟨_, rfl, ?_⟩
  exact ((StaysTold.ite fun _ => staysTold_ownDone).trans (StaysTold.ite fun _ => staysTold_powerRefused (by decide))).trans
    (StaysTold.ite fun _ => staysTold_lostFeedbackTrip (by decide))

theorem controlMessageTimeout_third {tag : BitVec 8} {m : Msg}
    (hm : (s.link head.n).msgs.find? (fun m => m.tag = tag.toNat) = some m) (hsends : 3 ≤ m.sends) :
    Completes (.controlMessageTimeout head tag) s fun t => fget (HTX.page head.n) HTX.STATUS_STATE t = 1 ∧
      hasInt (HTX.page head.n) HTX.iMSG_FAIL t ∧ (t.link head.n).msgs = [] ∧ t.out.getLast? = some (.training head.n) ∧
      ∃ later, t.evq = s.evq ++ ⟨0x3108, srcChan head.n, 4 + head.n, m.type % 2 ^ 32, m.tag % 2 ^ 32, false⟩ :: later := by
  obtain ⟨t, ht, htold⟩ := execControlMessageTimeout_third hm hsends
  have hhead : (4 + head.n) % 2 ^ 32 = 4 + head.n := by cases head <;> rfl
  refine ⟨_, ht, fget_state_startGroup, hasInt_startGroup.2 (htold.int hasInt_messageFailed), ?_, ?_, ?_⟩
  · rw [link_startGroup]
  · rw [out_startGroup, List.getLast?_append_of_ne_nil _ (by simp)]
    rfl
  · have hevq := htold.evq
    rw [messageFailed_evq, hhead] at hevq
    rw [evq_startGroup]
    exact exists_later hevq

end Sys2Proof.Machine
end

section
/-!
PROOFS. An underrun (R100) and the coil drivers' fault (R115).
-/
namespace Sys2Proof.Machine

variable {s : State} {head : Head} {h : Nat}

/-! ### An underrun -/

theorem emitting_abruptStop {cause : Nat} :
    ((abruptStop h cause s).rec' h).emitting = if writing h s then [] else (s.rec' h).emitting := by
  cases hw : writing h s with
  | false => rw [abruptStop_of_not_writing hw, if_neg (by simp)]
  | true =>
    have hshow : ∀ t, (fset (LPW.page h) LPW.STATUS_BOOST_ACT 0 (showWriting h false t)).rec' h = t.rec' h := fun t =>
      (fset_kept (m := fun u => u.rec' h) (fun _ => rfl) (showWriting_kept (fun _ => rfl) (.refl t))).view
    rw [abruptStop_of_writing hw, if_pos rfl, hshow, emissionsEnded, setRec_same]

/-- What an underrun shows once the recording has stopped. -/
def underrunShown (h : Nat) (s : State) : State :=
  s |> fset (HTX.page h) HTX.STATUS_WRITE_EN 0 |> raise (HTX.page h) HTX.iUNDERRUN |> sticky (HTX.page h) HTX.kUNDERRUN
    |> cnt (HTX.page h) HTX.UNDERRUN_CNT HTX.kCNT_SAT

theorem fget_writeEn_underrunShown : fget (HTX.page h) HTX.STATUS_WRITE_EN (underrunShown h s) = 0 := by
  unfold underrunShown sticky
  rw [fget_cnt_place (by decide) (by decide) (by decide) (by decide), fget_fset_place (by decide) (by decide) (by decide),
    fget_raise_place (by decide) (by decide), fget_fset_same]
  rfl

theorem hasInt_underrunShown : hasInt (HTX.page h) HTX.iUNDERRUN (underrunShown h s) := by
  unfold underrunShown sticky
  refine (hasInt_congr (fget_cnt_place (by decide) (by decide) (by decide) (by decide))).2 ?_
  exact (hasInt_fset (by decide) (by decide)).2 (hasInt_raise (by decide))

theorem hasSticky_underrunShown : hasSticky (HTX.page h) HTX.kUNDERRUN (underrunShown h s) :=
  (hasSticky_sticky (by decide)).cnt (by decide) (by decide) (by decide)

theorem underrun_stops : Completes (.underrun head) s fun t => fget (HTX.page head.n) HTX.STATUS_WRITE_EN t = 0 ∧
    hasInt (HTX.page head.n) HTX.iUNDERRUN t ∧ hasSticky (HTX.page head.n) HTX.kUNDERRUN t ∧ hasInt (LPW.page head.n) LPW.iUNDERRUN t ∧
    (t.rec' head.n).emitting = (if writing head.n s then [] else (s.rec' head.n).emitting) ∧
    sameBut [.regs, .evq, .out, .msixPend, .recs] s t := by
  have hrun : exec (.underrun head) s = .next (raise (LPW.page head.n) LPW.iUNDERRUN (underrunShown head.n (abruptStop head.n 3 s))) := rfl
  refine ⟨_, hrun, ?_, hasInt_underrunShown.raise (by decide), ?_, hasInt_raise (by decide), ?_,
    sameBut_of (execUnderrun_kept (fun _ => rfl) (.refl s)) hrun⟩
  · rw [fget_raise_place (by decide) (by decide), fget_writeEn_underrunShown]
  · exact (hasSticky_congr (fget_raise_place (by decide) (by decide))).2 hasSticky_underrunShown
  · rw [← emitting_abruptStop (cause := 3)]
    exact congrArg RecSt.emitting (raise_kept (m := fun u => u.rec' head.n) (fun _ => rfl) (cnt_kept (fun _ => rfl)
      (sticky_kept (fun _ => rfl) (raise_kept (fun _ => rfl) (fset_kept (fun _ => rfl) (.refl (abruptStop head.n 3 s))))))).view

/-! ### The coil drivers' fault (R115) -/

/-- The coils made safe and the fault told, before the head's trip (R115). -/
def coilsFaulted (h : Nat) (s : State) : State :=
  let p := ACL.page h
  s |> coilsSafe h |> fset p ACL.STATUS_FLT 1 |> setLink h { s.link h with fltSafe := true, fltPin := true }
    |> raise p ACL.iDRV_FAULT |> fault p 0x01
    |> emit 0x2300 srcServo (6 + h) (fget p ACL.COIL_EN_EN s) (s.link h).tick

theorem fget_safe_coilsSafe : fget (ACL.page h) ACL.STATUS_SAFE (coilsSafe h s) = 1 := by
  unfold coilsSafe coilSafe
  simp (disch := decide) only [List.range_succ, List.range_zero, List.nil_append, List.cons_append, List.foldl_cons, List.foldl_nil,
    fget_fset_place, fget_fset_same]
  rfl

theorem coilsSafe_evq : (coilsSafe h s).evq = s.evq := (coilsSafe_kept (m := State.evq) (fun _ => rfl) (.refl s)).view

theorem fget_coilsFaulted : fget (ACL.page h) ACL.STATUS_FLT (coilsFaulted h s) = 1 ∧ fget (ACL.page h) ACL.STATUS_SAFE (coilsFaulted h s) = 1 ∧
    fget (ACL.page h) hdrFault (coilsFaulted h s) = 0x01 := by
  unfold coilsFaulted fault
  dsimp only
  refine ⟨?_, ?_, (fget_emit ..).trans (fget_fset_same ..)⟩
  · rw [fget_emit, fget_fset_place (by decide) (by decide) (by decide), fget_raise_place (by decide) (by decide), fget_setLink,
      fget_fset_same]
    rfl
  · rw [fget_emit, fget_fset_place (by decide) (by decide) (by decide), fget_raise_place (by decide) (by decide), fget_setLink,
      fget_fset_place (by decide) (by decide) (by decide), fget_safe_coilsSafe]

theorem hasInt_coilsFaulted : hasInt (ACL.page h) ACL.iDRV_FAULT (coilsFaulted h s) := by
  unfold coilsFaulted fault
  exact (hasInt_congr (fget_emit ..)).2 ((hasInt_fset (by decide) (by decide)).2 (hasInt_raise (by decide)))

theorem coilsFaulted_link : (coilsFaulted h s).link h = { s.link h with fltSafe := true, fltPin := true } := by
  simp [coilsFaulted, fault]

theorem coilsFaulted_evq : (coilsFaulted h s).evq =
    s.evq ++ [⟨0x2300, srcServo, (6 + h) % 2 ^ 32, fget (ACL.page h) ACL.COIL_EN_EN s % 2 ^ 32, (s.link h).tick % 2 ^ 32, false⟩] := by
  simp [coilsFaulted, fault, coilsSafe_evq]

theorem execCoilDriverFault_eq : exec (.coilDriverFault head) s =
    .next (lostFeedback head.n 4 (srcEng (4 * head.n)) (tripHead head.n (coilsFaulted head.n s))) := rfl

theorem link_tripHead : (tripHead h s).link h = { s.link h with killSlots := true } := by
  have hstop : (abruptStop h 1 s).link h = s.link h := (abruptStop_kept (m := fun u => u.link h) (fun _ => rfl) (.refl s)).view
  unfold tripHead tripHeadAs killHead
  rw [setLink_same, hstop]

/-- The trip and the lost-feedback path of a head write no page of its actuator link. -/
theorem fget_acl_lost {cause src : Nat} {g : Fld} (hg : g.inPage) :
    fget (ACL.page head.n) g (lostFeedback head.n cause src (tripHead head.n s)) = fget (ACL.page head.n) g s :=
  (otherPages_lostFeedback _ (by cases head <;> decide) g hg).trans (otherPages_tripHead _ (by cases head <;> decide) g hg)

theorem coilDriverFault_safe : Completes (.coilDriverFault head) s fun t => fget (ACL.page head.n) ACL.STATUS_FLT t = 1 ∧
    fget (ACL.page head.n) ACL.STATUS_SAFE t = 1 ∧
    (t.link head.n).fltSafe = true ∧ (t.link head.n).fltPin = true ∧ hasInt (ACL.page head.n) ACL.iDRV_FAULT t ∧
    fget (ACL.page head.n) hdrFault t = 0x01 ∧ fget (HTX.page head.n) HTX.STATUS_WRITE_EN t = 0 ∧ getMcState head.n t = 9 ∧
    (∃ later, t.evq = s.evq ++ ⟨0x2300, srcServo, 6 + head.n, fget (ACL.page head.n) ACL.COIL_EN_EN s % 2 ^ 32, (s.link head.n).tick % 2 ^ 32, false⟩ ::
      later) ∧ sameBut [.regs, .evq, .out, .msixPend, .links, .recs, .loops, .heads] s t := by
  have hrun := execCoilDriverFault_eq (s := s) (head := head)
  have hlink : ∀ t, (lostFeedback head.n 4 (srcEng (4 * head.n)) t).link head.n = t.link head.n := fun t =>
    (lostFeedback_kept (m := fun u => u.link head.n) (fun _ => rfl) (.refl t)).view
  obtain ⟨hflt, hsafe, hcode⟩ := fget_coilsFaulted (s := s) (h := head.n)
  refine ⟨_, hrun, ?_, ?_, ?_, ?_, (hasInt_congr (fget_acl_lost (by decide))).2 hasInt_coilsFaulted, ?_, ?_, getMcState_lostFeedback, ?_,
    sameBut_of (execCoilDriverFault_kept (fun _ => rfl) (.refl s)) hrun⟩
  · rw [fget_acl_lost (by decide), hflt]
  · rw [fget_acl_lost (by decide), hsafe]
  · rw [hlink, link_tripHead, coilsFaulted_link]
  · rw [hlink, link_tripHead, coilsFaulted_link]
  · rw [fget_acl_lost (by decide), hcode]
  · rw [otherPages_lostFeedback _ (by cases head <;> decide) _ (by decide), fget_writeEn_tripHead]
  · have hsix : (6 + head.n) % 2 ^ 32 = 6 + head.n := by cases head <;> rfl
    refine exists_later ?_
    rw [← hsix, ← coilsFaulted_evq]
    exact tripHead_evq_prefix.trans lostFeedback_evq_prefix

/-! ### The pin released (R115) -/

/-- The fault gone from the pin; the head stays safe until it is restarted. -/
def pinReleased (h : Nat) (restart : Bool) (s : State) : State :=
  s |> setLink h { s.link h with fltPin := false, fltSafe := !restart } |> fset (ACL.page h) ACL.STATUS_FLT 0

/-- SAFE ended on every coil of a head. -/
def safeEnded (h : Nat) (s : State) : State :=
  (List.range 5).foldl (fun t c => fset (ACL.page h) (ACL.CMD_SAFE.ix c) 0 t) (fset (ACL.page h) ACL.STATUS_SAFE 0 s)

theorem execFltNRelease_eq (restart : Bool) : exec (.fltNRelease head restart) s =
    .next (if restart then safeEnded head.n (pinReleased head.n restart s) else pinReleased head.n restart s) := rfl

theorem place_cmdSafe_ix {c : Nat} (hc : c < 5) : 0x890 < (ACL.CMD_SAFE.ix c).place ∧ (ACL.CMD_SAFE.ix c).inPage := by
  simp only [Fld.place, Fld.inPage, Fld.ix, ACL.CMD_SAFE, regs]
  omega

/-- Ending SAFE writes no register before the coils' own. -/
theorem fget_safeEnded_before {g : Fld} (hg : g.inPage) (hlt : g.place ≤ 0x890) :
    fget (ACL.page h) g (safeEnded h s) = fget (ACL.page h) g (fset (ACL.page h) ACL.STATUS_SAFE 0 s) := by
  refine fget_foldl_fset_other (V := fun _ => 0) fun c hc => ?_
  have hplace := (place_cmdSafe_ix hc).1
  obtain ⟨-, hlo⟩ := hg
  unfold Fld.place at hplace hlt
  unfold Fld.key
  omega

theorem fget_cmdSafe_safeEnded {c : Nat} (hc : c < 5) : fget (ACL.page h) (ACL.CMD_SAFE.ix c) (safeEnded h s) = 0 :=
  fget_foldl_fset_same (V := fun _ => 0) (fun _ _ hij => key_ix_ne (by decide) hij) hc

theorem link_safeEnded {k : Nat} : (safeEnded h s).link k = s.link k :=
  (foldl_kept (P := fun t => Kept (fun u => u.link k) s t) (fun _ _ ht => fset_kept (fun _ => rfl) ht) (fset_kept (fun _ => rfl) (.refl s))).view

theorem otherFields_pinReleased {restart : Bool} : otherFields (ACL.page h) [ACL.STATUS_FLT] s (pinReleased h restart s) :=
  otherFields_fset _ _ _ (setLink h _ s)

theorem otherFields_safeEnded :
    otherFields (ACL.page h) (ACL.STATUS_SAFE :: (List.range 5).map ACL.CMD_SAFE.ix) s (safeEnded h s) :=
  (otherFields_fset _ ACL.STATUS_SAFE _ s).trans (otherFields_foldl_fset (F := ACL.CMD_SAFE.ix) (V := fun _ => 0)) (by simp)
    (fun _ hf => List.mem_cons_of_mem _ hf)

theorem fltNRelease_released (restart : Bool) : Completes (.fltNRelease head restart) s fun t =>
    t.link head.n = { s.link head.n with fltPin := false, fltSafe := !restart } ∧ fget (ACL.page head.n) ACL.STATUS_FLT t = 0 ∧
    (restart = true → fget (ACL.page head.n) ACL.STATUS_SAFE t = 0 ∧ ∀ c < 5, fget (ACL.page head.n) (ACL.CMD_SAFE.ix c) t = 0) ∧
    sameBut [.regs, .links] s t ∧
    otherFields (ACL.page head.n) ([ACL.STATUS_FLT, ACL.STATUS_SAFE] ++ (List.range 5).map ACL.CMD_SAFE.ix) s t := by
  have hrun := execFltNRelease_eq (s := s) (head := head) restart
  have hsame := sameBut_of (execFltNRelease_kept (m := fun u => [Part.regs, .links].foldr State.clear u) (fun _ => rfl) (.refl s)) hrun
  have hlink : (pinReleased head.n restart s).link head.n = { s.link head.n with fltPin := false, fltSafe := !restart } := setLink_same ..
  have hflt : fget (ACL.page head.n) ACL.STATUS_FLT (pinReleased head.n restart s) = 0 := fget_fset_same ..
  refine ⟨_, hrun, ?_, ?_, fun hr => ?_, hsame, ?_⟩
  · split
    · rw [link_safeEnded, hlink]
    · exact hlink
  · split
    · rw [fget_safeEnded_before (by decide) (by decide), fget_fset_place (by decide) (by decide) (by decide), hflt]
    · exact hflt
  · rw [if_pos hr]
    refine ⟨?_, fun c hc => fget_cmdSafe_safeEnded hc⟩
    rw [fget_safeEnded_before (by decide) (by decide), fget_fset_same]
    rfl
  · split
    · exact otherFields_pinReleased.trans otherFields_safeEnded (by simp) (fun _ hf => List.mem_cons_of_mem _ hf)
    · exact otherFields_pinReleased.trans (otherFields.refl _ [] _) (by simp) (by simp)

/-- Settles O15: each command of the links, in the order of the statement. -/
theorem linksTrainAndTalk : Obligations.LinksTrainAndTalk := by
  unfold Obligations.LinksTrainAndTalk
  intro s head
  exact ⟨fun _ _ => laneDegraded_over, fun _ _ => laneDegraded_below, linkEnable_acl, fun _ _ => linkEnable_same_group,
    fun _ => linkEnable_starts, fun _ => linkEnable_stops, fun _ => linkTrain_enabled, fun _ _ => trainingFrame_taken,
    fun _ => trainingTimeout_again, fun _ => trainingTimeout_last, fun _ _ _ _ => controlResponse_found,
    fun _ _ => controlMessageTimeout_again, fun _ _ => controlMessageTimeout_third, htxMsgGo_accepted, underrun_stops,
    coilDriverFault_safe, fltNRelease_released⟩

end Sys2Proof.Machine
end

section
/-!
PROOFS. The registers of a control engine, and the slots of a two-level word (R122, R133 to R135).
-/
namespace Sys2Proof.Machine

variable {s t u : State} {e : Nat} {r : Regs} {g : EngSt}

/-! ### Registers -/

@[simp] theorem Regs.get_put_same (r : Regs) (i : Nat) (v : BitVec 32) : (r.put i v).get i = v := Store.get_put_same _ _ _ _

theorem Regs.get_put_other (r : Regs) {i j : Nat} (v : BitVec 32) (h : j ≠ i) : (r.put i v).get j = r.get j :=
  Store.get_put_other _ _ _ _ _ _ h

@[simp] theorem Regs.get_putAc (r : Regs) (i j : Nat) (v : BitVec 72) : (r.putAc i v).get j = r.get j := by
  unfold Regs.putAc
  split <;> rfl

@[simp] theorem Regs.flags_putAc (r : Regs) (i : Nat) (v : BitVec 72) : (r.putAc i v).flags = r.flags := by
  unfold Regs.putAc
  split <;> rfl

@[simp] theorem Regs.ac_putAc_same (r : Regs) (i : Nat) (v : BitVec 72) : (r.putAc i v).ac i = v := by
  unfold Regs.putAc Regs.ac
  by_cases h : i = 0 <;> simp [h]

/-! ### What the slots leave of the registers (R135) -/

/-- The data register a slot writes, written. -/
def SlotOut.write (o : SlotOut) (r : Regs) : Regs :=
  match o.reg with
  | some (d, v) => r.put d v
  | none => r

theorem SlotOut.get_write_same {o : SlotOut} {d : Nat} {v : BitVec 32} (h : o.reg = some (d, v)) : (o.write r).get d = v := by
  unfold SlotOut.write
  rw [h]
  exact Regs.get_put_same r d v

theorem SlotOut.get_write_other {o : SlotOut} {d : Nat} (h : ∀ v, o.reg ≠ some (d, v)) : (o.write r).get d = r.get d := by
  unfold SlotOut.write
  split
  next d' v hreg =>
    exact Regs.get_put_other r v fun e => h v (e ▸ hreg)
  next => rfl

/-- The data registers and flags that slots 0 to 2 leave: a later slot writes over an earlier one. -/
def slotRegs (r : Regs) (x0 x1 x2 : Slot) : Regs :=
  { (mulSlot r x2).write ((aluSlot r x1).write ((aluSlot r x0).write r)) with
    flags := nanoFlags r.flags (aluSlot r x0) (aluSlot r x1) (mulSlot r x2) }

/-- The registers that slots 0 to 2 leave, with the accumulator of slot 2. -/
def nanoRegs (r : Regs) (x0 x1 x2 : Slot) : Regs :=
  (mulAc r x2).elim (slotRegs r x0 x1 x2) fun v => (slotRegs r x0 x1 x2).putAc (x2.k % 2) (sat72 v).1

section
variable {x0 x1 x2 : Slot} {d : Nat} {v : BitVec 32}

theorem nanoRegs_flags : (nanoRegs r x0 x1 x2).flags = nanoFlags r.flags (aluSlot r x0) (aluSlot r x1) (mulSlot r x2) := by
  unfold nanoRegs
  cases mulAc r x2 with
  | none => rfl
  | some v => exact Regs.flags_putAc ..

theorem nanoRegs_get : (nanoRegs r x0 x1 x2).get d = ((mulSlot r x2).write ((aluSlot r x1).write ((aluSlot r x0).write r))).get d := by
  unfold nanoRegs
  cases mulAc r x2 with
  | none => rfl
  | some v => exact Regs.get_putAc ..

theorem nanoRegs_ac {a : Int} (h : mulAc r x2 = some a) : (nanoRegs r x0 x1 x2).ac (x2.k % 2) = (sat72 a).1 := by
  unfold nanoRegs
  rw [h]
  exact Regs.ac_putAc_same ..

/-- Slot 2 has the last word on a data register, then slot 1, then slot 0 (R135). -/
theorem nanoRegs_get_slot2 (h2 : (mulSlot r x2).reg = some (d, v)) : (nanoRegs r x0 x1 x2).get d = v :=
  nanoRegs_get.trans (SlotOut.get_write_same h2)

theorem nanoRegs_get_slot1 (h1 : (aluSlot r x1).reg = some (d, v)) (h2 : ∀ u, (mulSlot r x2).reg ≠ some (d, u)) :
    (nanoRegs r x0 x1 x2).get d = v :=
  nanoRegs_get.trans ((SlotOut.get_write_other h2).trans (SlotOut.get_write_same h1))

theorem nanoRegs_get_slot0 (h0 : (aluSlot r x0).reg = some (d, v)) (h1 : ∀ u, (aluSlot r x1).reg ≠ some (d, u))
    (h2 : ∀ u, (mulSlot r x2).reg ≠ some (d, u)) : (nanoRegs r x0 x1 x2).get d = v :=
  nanoRegs_get.trans ((SlotOut.get_write_other h2).trans ((SlotOut.get_write_other h1).trans (SlotOut.get_write_same h0)))

end

/-! ### A word that runs to its end (R127, R128) -/

/-- The record of engine `e` is `g`; nothing else has changed but sticky bits of its page. -/
structure EngineIs (e : Nat) (g : EngSt) (s t : State) : Prop where
  eng : t.eng e = g
  others : ∀ f, f ≠ e → t.eng f = s.eng f
  same : sameBut [.regs, .engs] s t
  fields : otherFields (ENG.page e) [hdrSticky] s t

theorem EngineIs.refl (e : Nat) (s : State) : EngineIs e (s.eng e) s s := ⟨rfl, fun _ _ => rfl, rfl, otherFields.refl _ _ _⟩

theorem EngineIs.sticky (h : EngineIs e g s t) (b : Nat) : EngineIs e g s (sticky (ENG.page e) b t) :=
  ⟨h.eng, h.others, h.same, h.fields.trans (otherFields_fset _ _ _ t) (fun _ hf => hf) (fun _ hf => hf)⟩

theorem EngineIs.satFlag (h : EngineIs e g s t) (b : Nat) (sat : Bool) : EngineIs e g s (satFlag e b sat t) := by
  unfold Machine.satFlag
  split
  · exact h.sticky b
  · exact h

theorem EngineIs.satFlags {α : Type} (h : EngineIs e g s t) (b : Nat) (sat : α → Bool) (os : List α) :
    EngineIs e g s (os.foldl (fun u o => Machine.satFlag e b (sat o) u) t) := by
  induction os generalizing t with
  | nil => exact h
  | cons o os ih => exact ih (h.satFlag b (sat o))

theorem EngineIs.setRegs (h : EngineIs e g s t) (r : Regs) : EngineIs e { g with r := r } s (setRegs e r t) := by
  refine ⟨?_, fun f hf => (setEng_other t _ hf).trans (h.others f hf), h.same, h.fields⟩
  rw [Machine.setRegs, setEng_same, h.eng]

theorem EngineIs.fget {q : Nat} {f : Fld} (h : EngineIs e g s t) (hkey : f.key q ≠ hdrSticky.key (ENG.page e)) :
    fget q f t = fget q f s := h.fields q f (by simpa using hkey)

theorem EngineIs.pcOf (h : EngineIs e g s t) : pcOf e t = pcOf e s := h.fget (key_off_ne (by decide) (by decide) (by decide))

theorem EngineIs.inCust (h : EngineIs e g s t) : inCust e t = inCust e s := by
  unfold Machine.inCust fon
  rw [h.fget (key_off_ne (by decide) (by decide) (by decide))]

theorem advance_of_not_cust (hcust : inCust e s = false) : advance e s = .ok (fset (ENG.page e) ENG.PC ((pcOf e s + 1) % 2 ^ 13) s) := by
  unfold advance goto
  dsimp only
  rw [if_neg (by simp [hcust])]
  rfl

/-- A word that has left the record `g` and takes PC + 1 is done once its cycles are spent. -/
theorem EngineIs.wordDone {cycles : Nat} {reads late : List Nat} (h : EngineIs e g s t) (hlate : g.late = (s.eng e).late) :
    wordDone e ((Machine.pcOf e s + 1) % 2 ^ 13) (spentBy cycles reads late (s.eng e) g) s
      (spend e cycles reads late (fset (ENG.page e) ENG.PC ((Machine.pcOf e t + 1) % 2 ^ 13) t)) := by
  refine ⟨?_, ?_, fun f hf => (setEng_other _ _ hf).trans (h.others f hf), h.same, ?_⟩
  · have heng : (fset (ENG.page e) ENG.PC ((Machine.pcOf e t + 1) % 2 ^ 13) t).eng e = g := h.eng
    unfold spend spentBy
    rw [setEng_same, heng, hlate]
  · rw [← h.pcOf]
    exact (fget_fset_same ..).trans (Nat.mod_mod _ _)
  · exact h.fields.trans (otherFields_fset _ ENG.PC _ t) (by simp) (by simp)

theorem runWord_ok {cycles : Nat} {reads late : List Nat} {body : State → Except Trap State} (hexec : executing e s = true)
    (hbody : body s = .ok t) : runWord e cycles reads late body s = spend e cycles reads late t := by
  unfold runWord
  rw [if_pos hexec, hbody]

theorem runWord_error {cycles : Nat} {reads late : List Nat} {body : State → Except Trap State} {x : Trap} (hexec : executing e s = true)
    (hbody : body s = .error x) : runWord e cycles reads late body s = takeTrap e x s := by
  unfold runWord
  rw [if_pos hexec, hbody]

/-! ### A two-level word (R133 to R135) -/

section
variable {w : Nat} {x0 x1 x2 x3 : Slot}

/-- A memory slot of no operation has no effect. -/
theorem memSlot_none {imm : Nat} {bad : Bool} {got : Option (BitVec 32)} (hop : x3.op = 0) : memSlot e x3 imm bad got s = .ok ({}, s) := by
  simp [memSlot, hop]

/-- What slot 2 leaves in its accumulator, written (R135). -/
def acDone (e : Nat) (r : Regs) (x2 : Slot) (t : State) : State :=
  match mulAc r x2 with
  | some v => acWord e (x2.k % 2) v t
  | none => t

/-- The state that the slots of a word without a memory operation leave, before its sequencer acts. -/
def slotsDone (e : Nat) (x0 x1 x2 : Slot) (s : State) : State :=
  let r := (s.eng e).r
  let t := acDone e r x2 (setRegs e (slotRegs r x0 x1 x2) s)
  let t := if conflict [aluSlot r x0, aluSlot r x1, mulSlot r x2, {}] then sticky (ENG.page e) ENG.kWCONFLICT t else t
  [aluSlot r x0, aluSlot r x1, mulSlot r x2].foldl (fun u o => satFlag e ENG.kSAT ((o.flags.map Prod.snd).getD false) u) t

theorem nanoWord_advance {bad : Bool} {got : Option (BitVec 32)}
    (hslots : nanoSlots w (s.nstore.get (1024 * nanoStore e + slice w 31 22) 0) = some (x0, x1, x2, x3)) (hop : x3.op = 0)
    (hzero : slice (s.nstore.get (1024 * nanoStore e + slice w 31 22) 0) 8 0 = 0)
    (hnext : slice (s.nstore.get (1024 * nanoStore e + slice w 31 22) 0) 15 13 = 0) (hshift : ¬(x2.op = 0x13 ∧ 9 < slice x2.k 4 1)) :
    nanoWord e w bad got s = advance e (slotsDone e x0 x1 x2 s) := by
  unfold nanoWord
  dsimp only
  rw [hslots]
  dsimp only
  rw [if_neg (by simp [hzero, hnext]; simpa using hshift), memSlot_none hop, hnext]
  rfl

theorem engineIs_acDone : EngineIs e { s.eng e with r := nanoRegs (s.eng e).r x0 x1 x2 } s
    (acDone e (s.eng e).r x2 (setRegs e (slotRegs (s.eng e).r x0 x1 x2) s)) := by
  have hregs := (EngineIs.refl e s).setRegs (slotRegs (s.eng e).r x0 x1 x2)
  unfold nanoRegs acDone
  cases mulAc (s.eng e).r x2 with
  | none => exact hregs
  | some v =>
    have h := (hregs.setRegs (((setRegs e (slotRegs (s.eng e).r x0 x1 x2) s).eng e).r.putAc (x2.k % 2) (sat72 v).1)).satFlag
      ENG.kACC_SAT (sat72 v).2
    rw [hregs.eng] at h
    unfold acWord
    rw [hregs.eng]
    exact h

theorem engineIs_slotsDone : EngineIs e { s.eng e with r := nanoRegs (s.eng e).r x0 x1 x2 } s (slotsDone e x0 x1 x2 s) := by
  have hconflict : ∀ {c : Bool} {u : State}, EngineIs e { s.eng e with r := nanoRegs (s.eng e).r x0 x1 x2 } s u →
      EngineIs e { s.eng e with r := nanoRegs (s.eng e).r x0 x1 x2 } s (if c then sticky (ENG.page e) ENG.kWCONFLICT u else u) :=
    fun hu => ite_kept (hu.sticky _) hu
  exact (hconflict engineIs_acDone).satFlags ENG.kSAT (fun o : SlotOut => (o.flags.map Prod.snd).getD false) _

theorem nanoAccess_none (hslots : nanoSlots w (s.nstore.get (1024 * nanoStore e + slice w 31 22) 0) = some (x0, x1, x2, x3))
    (hop : x3.op = 0) : nanoAccess e w s = none := by
  unfold nanoAccess
  dsimp only
  rw [hslots]
  simp [hop]

/-- A two-level word without a register access runs as a word of one cycle. -/
theorem runNano_runWord {bad : Bool} (hfmt : fon (ENG.page e) ENG.STATUS_UFMT s = true) (hexec : executing e s = true)
    (haccess : nanoAccess e w s = none) :
    runNano e w bad s = runWord e 1 (nanoReads e w s).1 (nanoReads e w s).2 (nanoWord e w bad none) s := by
  unfold runNano
  rw [if_pos (by simp [hfmt, hexec]), haccess]

/-- A two-level word whose slots make no memory access, and whose sequencer takes the next word, is done in one cycle. -/
theorem nanoWord_done {bad : Bool} (hexec : executing e s = true) (hfmt : fon (ENG.page e) ENG.STATUS_UFMT s = true) (hcust : inCust e s = false)
    (hslots : nanoSlots w (s.nstore.get (1024 * nanoStore e + slice w 31 22) 0) = some (x0, x1, x2, x3)) (hop : x3.op = 0)
    (hzero : slice (s.nstore.get (1024 * nanoStore e + slice w 31 22) 0) 8 0 = 0)
    (hnext : slice (s.nstore.get (1024 * nanoStore e + slice w 31 22) 0) 15 13 = 0) (hshift : ¬(x2.op = 0x13 ∧ 9 < slice x2.k 4 1)) :
    wordDone e ((pcOf e s + 1) % 2 ^ 13) (spentBy 1 (nanoReads e w s).1 (nanoReads e w s).2 (s.eng e)
      { s.eng e with r := nanoRegs (s.eng e).r x0 x1 x2 }) s (runNano e w bad s) := by
  have hend := engineIs_slotsDone (e := e) (x0 := x0) (x1 := x1) (x2 := x2) (s := s)
  rw [runNano_runWord hfmt hexec (nanoAccess_none hslots hop), runWord_ok hexec ((nanoWord_advance hslots hop hzero hnext hshift).trans
    (advance_of_not_cust (hend.inCust.trans hcust)))]
  exact hend.wordDone rfl

end

theorem nanoWord_slots (e : Fin 20) (w : BitVec 32) (n : Nat) (x0 x1 x2 x3 : Slot) (hexec : executing e s = true)
    (hfmt : fon (ENG.page e) ENG.STATUS_UFMT s = true) (hcust : inCust e s = false)
    (hn : n = s.nstore.get (1024 * nanoStore e + slice w.toNat 31 22) 0) (hslots : nanoSlots w.toNat n = some (x0, x1, x2, x3))
    (hop : x3.op = 0) (hzero : slice n 8 0 = 0) (hnext : slice n 15 13 = 0) (hshift : ¬(x2.op = 0x13 ∧ 9 < slice x2.k 4 1)) :
    Completes (.nanoWord e w false) s fun t => pcOf e t = (pcOf e s + 1) % 2 ^ 13 ∧
      (t.eng e).r.flags = nanoFlags (s.eng e).r.flags (aluSlot (s.eng e).r x0) (aluSlot (s.eng e).r x1) (mulSlot (s.eng e).r x2) ∧
      (∀ d v, (mulSlot (s.eng e).r x2).reg = some (d, v) → (t.eng e).r.get d = v) ∧
      (∀ d v, (aluSlot (s.eng e).r x1).reg = some (d, v) → (∀ u, (mulSlot (s.eng e).r x2).reg ≠ some (d, u)) → (t.eng e).r.get d = v) ∧
      (∀ d v, (aluSlot (s.eng e).r x0).reg = some (d, v) → (∀ u, (aluSlot (s.eng e).r x1).reg ≠ some (d, u)) →
        (∀ u, (mulSlot (s.eng e).r x2).reg ≠ some (d, u)) → (t.eng e).r.get d = v) ∧
      (∀ v, mulAc (s.eng e).r x2 = some v → (t.eng e).r.ac (x2.k % 2) = (sat72 v).1) ∧ (∀ f, f ≠ e.val → t.eng f = s.eng f) ∧
      sameBut [.regs, .engs] s t ∧ otherFields (ENG.page e) [ENG.PC, hdrSticky] s t := by
  subst hn
  obtain ⟨heng, hpc, hothers, hsame, hfields⟩ := nanoWord_done (bad := false) hexec hfmt hcust hslots hop hzero hnext hshift
  have hr : ((runNano e w.toNat false s).eng e).r = nanoRegs (s.eng e).r x0 x1 x2 := congrArg EngSt.r heng
  refine ⟨_, rfl, hpc, ?_, ?_, ?_, ?_, ?_, hothers, hsame, hfields⟩
  · rw [hr, nanoRegs_flags]
  · exact fun d v h2 => hr ▸ nanoRegs_get_slot2 h2
  · exact fun d v h1 h2 => hr ▸ nanoRegs_get_slot1 h1 h2
  · exact fun d v h0 h1 h2 => hr ▸ nanoRegs_get_slot0 h0 h1 h2
  · exact fun v hv => hr ▸ nanoRegs_ac hv

end Sys2Proof.Machine
end

section
/-!
PROOFS. A trap of vendor code (R145, R146), and writes to the stores through the window (R137 to R139).
-/
namespace Sys2Proof.Machine

variable {s : State} {e cause arg : Nat}

/-! ### The frame in data memory -/

theorem dmGet_dmPut_same {a v : Nat} : dmGet e a (dmPut e a v s) = v % 2 ^ 32 := Store.get_put_same _ _ _ _

theorem dmGet_dmPut_other {a b v : Nat} (hne : b % 4096 ≠ a % 4096) : dmGet e b (dmPut e a v s) = dmGet e b s :=
  Store.get_put_other _ _ _ _ _ _ (by omega)

/-- Words stored one after another read as stored. -/
theorem dmGet_foldl_dmPut {a n i : Nat} {V : Nat → Nat} (hn : a + n ≤ 4096) (hi : i < n) :
    dmGet e (a + i) ((List.range n).foldl (fun t i => dmPut e (a + i) (V i) t) s) = V i % 2 ^ 32 := by
  induction n with
  | zero => exact absurd hi (Nat.not_lt_zero i)
  | succ n ih =>
    rw [List.range_succ, List.foldl_append]
    rcases Nat.lt_succ_iff_lt_or_eq.1 hi with hlt | rfl
    · exact (dmGet_dmPut_other (by omega)).trans (ih (by omega) hlt)
    · exact dmGet_dmPut_same

/-! ### A trap taken -/

/-- The frame latched, the trap counted and its cause shown, and what the word had under way dropped (R145, R146). -/
def trapLatched (e cause arg : Nat) (s : State) : State :=
  s |> latchFrame e (frameWords e cause arg s) |> cnt (ENG.page e) ENG.TRAP_CNT ENG.kCNT_SAT |> fault (ENG.page e) cause
    |> (fun t => setEng e { t.eng e with rg := none, late := [] } t)

/-- The frame stored in data memory (R146). -/
def trapStored (e cause arg : Nat) (s : State) : State :=
  (List.range 32).foldl (fun t i => dmPut e (0xDE0 + i) ((frameWords e cause arg s).getD i 0) t) (trapLatched e cause arg s)

/-- The handler entered, and the trap told (R145). -/
def trapEntered (e cause arg : Nat) (s : State) : State :=
  trapStored e cause arg s |> setEngState e 3 |> fset (ENG.page e) ENG.PC 8 |> raise (ENG.page e) ENG.iTRAP
    |> emitEng e 0 ((frameWords e cause arg s).getD 0 0) arg

/-- A register of the engine's page apart from those of the frame, TRAP_CNT, STICKY and FAULT_CODE stands while the trap is latched. -/
theorem fget_trapLatched {g : Fld} (hg : g.inPage) (hlow : g.place < 0x1000) (hcnt : g.place ≠ ENG.TRAP_CNT.place)
    (hsticky : g.place ≠ hdrSticky.place) (hfault : g.place ≠ hdrFault.place) :
    fget (ENG.page e) g (trapLatched e cause arg s) = fget (ENG.page e) g s := by
  unfold trapLatched fault latchFrame
  rw [fget_setEng, fget_fset_place hg (by decide) hfault, fget_cnt_place hg (by decide) hcnt hsticky]
  refine fget_foldl_fset_other (F := ENG.FRAME.ix) (V := fun i => (frameWords e cause arg s).getD i 0) fun i _ => ?_
  have hframe : (ENG.FRAME.ix i).off = 0x80 + 4 * i ∧ (ENG.FRAME.ix i).lo = 0 := ⟨rfl, rfl⟩
  unfold Fld.place at hlow
  unfold Fld.key
  omega

theorem fget_fault_trapLatched : fget (ENG.page e) hdrFault (trapLatched e cause arg s) = cause % 2 ^ 8 := by
  unfold trapLatched fault
  rw [fget_setEng, fget_fset_same]
  rfl

/-- The latched frame lies within the engine's page, after the registers of the engine itself. -/
theorem frame_place {i : Nat} (hi : i < 32) : (ENG.FRAME.ix i).inPage ∧ ∀ {f : Fld}, f.place < 0x1000 → (ENG.FRAME.ix i).place ≠ f.place := by
  have hplace : (ENG.FRAME.ix i).place = 0x1000 + 128 * i := by
    simp only [Fld.place, Fld.ix, ENG.FRAME, regs]
    omega
  refine ⟨?_, by omega⟩
  simp only [Fld.inPage, Fld.ix, ENG.FRAME, regs]
  omega

theorem fget_frame_trapLatched {i : Nat} (hi : i < 32) :
    fget (ENG.page e) (ENG.FRAME.ix i) (trapLatched e cause arg s) = (frameWords e cause arg s).getD i 0 % 2 ^ 32 := by
  obtain ⟨hin, hne⟩ := frame_place hi
  unfold trapLatched fault latchFrame
  rw [fget_setEng, fget_fset_place hin (by decide) (hne (by decide)), fget_cnt_place hin (by decide) (hne (by decide)) (hne (by decide))]
  exact fget_foldl_fset_same (V := fun i => (frameWords e cause arg s).getD i 0) (fun _ _ hij => key_ix_ne (by decide) hij) hi

theorem fget_trapStored {q : Nat} {g : Fld} : fget q g (trapStored e cause arg s) = fget q g (trapLatched e cause arg s) :=
  foldl_kept (P := fun t => fget q g t = fget q g (trapLatched e cause arg s)) (fun _ _ ht => (fget_dmPut ..).trans ht) rfl

/-- Entering the handler writes STATE, PC and INT_STATUS. -/
theorem fget_trapEntered {q : Nat} {g : Fld} (hg : g.inPage) (hstate : g.place ≠ ENG.STATUS_STATE.place) (hpc : g.place ≠ ENG.PC.place)
    (hint : g.place ≠ hdrIntStatus.place) : fget q g (trapEntered e cause arg s) = fget q g (trapLatched e cause arg s) := by
  unfold trapEntered emitEng setEngState
  rw [fget_emit, fget_raise_place hg hint, fget_fset_place hg (by decide) hpc, fget_fset_place hg (by decide) hstate, fget_trapStored]

theorem vendorTrap_enters (hstate : engState e s ≠ 3) : vendorTrap e cause arg s = trapEntered e cause arg s := by
  have hstate' : engState e (trapLatched e cause arg s) ≠ 3 := by
    unfold engState
    rwa [fget_trapLatched (by decide) (by decide) (by decide) (by decide) (by decide)]
  unfold trapLatched at hstate'
  unfold vendorTrap trapEntered trapStored trapLatched
  dsimp only
  rw [if_neg hstate']

theorem dmem_trapEntered : (trapEntered e cause arg s).dmem = (trapStored e cause arg s).dmem :=
  (raise_kept (m := State.dmem) (fun _ => rfl) (.refl (fset (ENG.page e) ENG.PC 8 (setEngState e 3 (trapStored e cause arg s))))).view

theorem trapLatched_kept {α : Type} {m : State → α} (hm : ∀ u, m u = m { u with regs := [], engs := [] }) :
    Kept m s (trapLatched e cause arg s) :=
  setEng_kept (sub hm) (fault_kept (sub hm) (cnt_kept (sub hm) (latchFrame_kept (sub hm) (.refl s))))

theorem trapStored_kept {α : Type} {m : State → α} (hm : ∀ u, m u = m { u with regs := [], engs := [], dmem := [] }) :
    Kept m s (trapStored e cause arg s) :=
  foldl_kept (P := fun t => Kept m s t) (fun _ _ ht => dmPut_kept (sub hm) ht) (trapLatched_kept (sub hm))

theorem trapEntered_kept {α : Type} {m : State → α}
    (hm : ∀ u, m u = m { u with regs := [], evq := [], out := [], msixPend := 0, engs := [], dmem := [] }) :
    Kept m s (trapEntered e cause arg s) :=
  emitEng_kept (sub hm) (raise_kept (sub hm) (fset_kept (sub hm) (setEngState_kept (sub hm) (trapStored_kept (sub hm)))))

theorem trapEntered_evq : (trapEntered e cause arg s).evq =
    s.evq ++ [⟨engEvent e 0, srcEng e, srcEng e % 2 ^ 32, (frameWords e cause arg s).getD 0 0 % 2 ^ 32, arg % 2 ^ 32, false⟩] := by
  have hevq : (trapStored e cause arg s).evq = s.evq := (trapStored_kept (m := State.evq) fun _ => rfl).view
  unfold trapEntered emitEng setEngState
  rw [emit_evq, raise_evq, fset_evq, fset_evq, hevq]

theorem trapTaken_trapEntered (hcause : cause < 256) : trapTaken e cause arg s (trapEntered e cause arg s) := by
  refine ⟨?_, ?_, ?_, ?_, fun i hi => ⟨?_, ?_⟩, trapEntered_evq,
    (trapEntered_kept (m := fun u => [Part.regs, .evq, .out, .msixPend, .engs, .dmem].foldr State.clear u) fun _ => rfl).view⟩
  · unfold engState trapEntered emitEng setEngState
    rw [fget_emit, fget_raise_place (by decide) (by decide), fget_fset_place (by decide) (by decide) (by decide), fget_fset_same]
    rfl
  · unfold pcOf trapEntered emitEng
    rw [fget_emit, fget_raise_place (by decide) (by decide), fget_fset_same]
    rfl
  · rw [fget_trapEntered (by decide) (by decide) (by decide) (by decide), fget_fault_trapLatched]
    exact Nat.mod_eq_of_lt hcause
  · exact (hasInt_congr (fget_emit ..)).2 (hasInt_raise (by decide))
  · unfold dmGet
    rw [dmem_trapEntered]
    exact dmGet_foldl_dmPut (by omega) hi
  · obtain ⟨hin, hne⟩ := frame_place hi
    rw [fget_trapEntered hin (hne (by decide)) (hne (by decide)) (hne (by decide)), fget_frame_trapLatched hi]

theorem takeTrap_vendor {x : Trap} (hcust : inCust e s = false) : takeTrap e x s = vendorTrap e x.1 x.2 s := by
  unfold takeTrap
  rw [if_neg (by simp [hcust])]

/-- A two-level word whose selectors or opcodes break R134 traps with cause 0x05. -/
theorem nanoWord_traps (e : Fin 20) (w : BitVec 32) (n : Nat) (hstate : engState e s = 1) (hrg : (s.eng e).rg = none)
    (hfmt : fon (ENG.page e) ENG.STATUS_UFMT s = true) (hcust : inCust e s = false)
    (hn : n = s.nstore.get (1024 * nanoStore e + slice w.toNat 31 22) 0) (hslots : nanoSlots w.toNat n = none) :
    Completes (.nanoWord e w false) s (trapTaken e 0x05 0 s) := by
  subst hn
  have hexec : executing e s = true := by simp [executing, hstate, hrg]
  have haccess : nanoAccess e w.toNat s = none := by
    unfold nanoAccess
    dsimp only
    rw [hslots]
  have hword : nanoWord e w.toNat false none s = .error (0x05, 0) := by
    unfold nanoWord
    dsimp only
    rw [hslots]
  have hrun : runNano e w.toNat false s = trapEntered e 0x05 0 s := by
    rw [runNano_runWord hfmt hexec haccess, runWord_error hexec hword, takeTrap_vendor hcust, vendorTrap_enters (by omega)]
  exact ⟨_, congrArg Host.Outcome.next hrun, trapTaken_trapEntered (by decide)⟩

/-! ### The stores' windows -/

/-- An address of an engine's micro-store window names its word (R137). -/
theorem storeWrite_micro {loader : Bool} {req addr v e a : Nat} (he : e < 20) (ha : a < 8192) (haddr : addr = 0x100000 + 0x8000 * e + 4 * a) :
    storeWrite loader req addr v s = microWrite loader req addr e a v s := by
  have hengine : (addr - 0x100000) / 0x8000 = e := by omega
  have hword : (addr - 0x100000) % 0x8000 / 4 = a := by omega
  unfold storeWrite
  rw [if_pos (by simp; omega), hengine, hword]

theorem storeWindowWrite_loads (req : Nat) (addr : BitVec 24) (v : BitVec 32) (e : Fin 20) (a : Nat)
    (haddr : addr.toNat = 0x100000 + 0x8000 * e.val + 4 * a) (ha : a < 8192) (hlock : fon (ENG.page e) ENG.STATUS_LOCKED s = false) :
    Completes (.storeWindowWrite true req addr v) s fun t =>
      t.ustore.get (8192 * e.val + a) 0 = v.toNat ∧ (∀ k, k ≠ 8192 * e.val + a → t.ustore.get k 0 = s.ustore.get k 0) ∧ sameBut [.ustore] s t := by
  have hrun : storeWrite true req addr.toNat v.toNat s = putMicro e a v.toNat s := by
    rw [storeWrite_micro e.isLt ha haddr]
    unfold microWrite
    rw [if_neg (by simp [hlock]), if_pos rfl]
  refine ⟨_, congrArg Host.Outcome.next hrun, ?_, fun k hk => Store.get_put_other _ _ _ _ _ _ hk, rfl⟩
  exact (Store.get_put_same _ _ _ _).trans (Nat.mod_eq_of_lt v.isLt)

theorem storeWindowWrite_locked (loader : Bool) (req : Nat) (addr : BitVec 24) (v : BitVec 32) (e : Fin 20) (a : Nat)
    (haddr : addr.toNat = 0x100000 + 0x8000 * e.val + 4 * a) (ha : a < 0x1C00) (hlock : fon (ENG.page e) ENG.STATUS_LOCKED s = true) :
    Completes (.storeWindowWrite loader req addr v) s fun t =>
      hasSticky (ENG.page e) ENG.kLOCK_WR t ∧ hasInt (ENG.page e) ENG.iLOCK_WR t ∧
      t.evq = s.evq ++ [⟨engEvent e 5, srcEng e, srcEng e, addr.toNat, req % 2 ^ 32, false⟩] ∧ sameBut [.regs, .evq, .out, .msixPend] s t := by
  have hrun : storeWrite loader req addr.toNat v.toNat s = lockReject addr.toNat req s e := by
    rw [storeWrite_micro e.isLt (by omega) haddr]
    unfold microWrite
    rw [if_pos hlock, if_neg (by omega)]
  have hsrc : srcEng e % 2 ^ 32 = srcEng e := Nat.mod_eq_of_lt (by unfold srcEng; omega)
  have haddr32 : addr.toNat % 2 ^ 32 = addr.toNat := Nat.mod_eq_of_lt (by have := addr.isLt; omega)
  refine ⟨_, congrArg Host.Outcome.next hrun, ?_, ?_, ?_,
    (lockReject_kept (m := fun u => [Part.regs, .evq, .out, .msixPend].foldr State.clear u) (fun _ => rfl) (.refl s)).view⟩
  · exact (hasSticky_congr ((fget_emit ..).trans (fget_raise_place (by decide) (by decide)))).2 (hasSticky_sticky (by decide))
  · exact (hasInt_congr (fget_emit ..)).2 (hasInt_raise (by decide))
  · unfold lockReject emitEng
    rw [emit_evq, raise_evq, hsrc, haddr32]
    rfl

end Sys2Proof.Machine
end

section
/-!
PROOFS. A sled's part of the servo tick (R223 to R227, R229): the pages it writes, and what it leaves of the heads.
-/
namespace Sys2Proof.Machine

variable {s t : State} {h la c p v b : Nat} {f : Fld} {ps : List Nat}

/-! ### Pages under the ways an operation is put together -/

theorem otherPages.fsetI {x : Int} (k : otherPages ps s t) (hp : p ∈ ps) (hf : f.inPage) : otherPages ps s (fsetI p f x t) := k.fset hp hf

theorem otherPages.fsetB {x : Bool} (k : otherPages ps s t) (hp : p ∈ ps) (hf : f.inPage) : otherPages ps s (fsetB p f x t) := k.fset hp hf

theorem otherPages.fault (k : otherPages ps s t) (hp : p ∈ ps) : otherPages ps s (fault p v t) := k.fset hp (by decide)

theorem otherPages.sticky (k : otherPages ps s t) (hp : p ∈ ps) : otherPages ps s (sticky p b t) := k.fset hp (by decide)

theorem otherPages.emit {code src p0 p1 p2 : Nat} (k : otherPages ps s t) : otherPages ps s (emit code src p0 p1 p2 t) := k.congr rfl rfl

theorem otherPages.send {o : Out} (k : otherPages ps s t) : otherPages ps s (send o t) := k.congr rfl rfl

theorem otherPages.setSled {d : SledSt} (k : otherPages ps s t) : otherPages ps s (setSled h d t) := k.congr rfl rfl

theorem otherPages.setPg {g : PgSt} (k : otherPages ps s t) : otherPages ps s (setPg c g t) := k.congr rfl rfl

theorem otherPages.setHead {d : HeadSt} (k : otherPages ps s t) : otherPages ps s (setHead h d t) := k.congr rfl rfl

/-! ### The pages a sled's tick writes -/

/-- A sled's own page, and those of its profile channel and of the heads' motion. -/
def sledPages (h : Nat) : List Nat := [SLD.page h, MOT.page, MC.page]

theorem sld_mem_sledPages : SLD.page h ∈ sledPages h := by simp [sledPages]

theorem mot_mem_sledPages : MOT.page ∈ sledPages h := by simp [sledPages]

theorem mc_mem_sledPages : MC.page ∈ sledPages h := by simp [sledPages]

theorem otherPages.sledSt (k : otherPages (sledPages h) s t) : otherPages (sledPages h) s (sledSt h v t) := k.fset sld_mem_sledPages (by decide)

theorem otherPages.sledMove {x : Int} (k : otherPages (sledPages h) s t) : otherPages (sledPages h) s (sledMove h x t) := by
  unfold Machine.sledMove
  split
  · exact k
  · exact (k.fsetI sld_mem_sledPages (by decide)).send

theorem otherPages.rebase {x : Rat} (k : otherPages (sledPages h) s t) : otherPages (sledPages h) s (rebase h x t) :=
  (k.fsetI sld_mem_sledPages (by decide)).setSled

theorem otherPages.sledCurrent {i : Nat} (k : otherPages (sledPages h) s t) : otherPages (sledPages h) s (sledCurrent h i t) :=
  (k.fset sld_mem_sledPages (by decide)).fsetB sld_mem_sledPages (by decide)

theorem otherPages.homeStep {k : HomeStep} {goal : Option Rat} (hk : otherPages ps s t) : otherPages ps s (homeStep h k goal t) := hk.setSled

/-- A channel's state lies within the profile generator's page. -/
theorem pgState_inPage (hc : c < 4) : (MOT.PG_STATE_STATE.ix c).inPage := by
  simp only [Fld.inPage, Fld.ix, MOT.PG_STATE_STATE, regs]
  omega

theorem otherPages.pgStop (hc : c < 4) (k : otherPages (sledPages h) s t) : otherPages (sledPages h) s (pgStop c t) := by
  unfold Machine.pgStop
  split
  · exact (k.setPg.fset mot_mem_sledPages (pgState_inPage hc)).fset mot_mem_sledPages (by decide)
  · exact k

theorem otherPages.hardStop (hh : h < 2) (k : otherPages (sledPages h) s t) : otherPages (sledPages h) s (hardStop h t) := by
  have hch : sledCh h < 4 := by unfold sledCh; omega
  have hheld : ∀ {d i}, otherPages (sledPages h) s (Machine.sledCurrent h i (Machine.setSled h d t)) := k.setSled.sledCurrent
  have hhomed : ∀ {c : Prop} [Decidable c] {d i}, otherPages (sledPages h) s
      ((if c then Machine.fset (SLD.page h) SLD.STATUS_HOMED 0 else id) (Machine.sledCurrent h i (Machine.setSled h d t))) :=
    ite_app_kept (hheld.fset sld_mem_sledPages (by decide)) hheld
  unfold Machine.hardStop
  exact ite_app_kept hhomed (hhomed.pgStop hch)

theorem otherPages.headCnt (hf : f.inPage) (k : otherPages (sledPages h) s t) : otherPages (sledPages h) s (headCnt f h t) := by
  unfold Machine.headCnt
  exact ite_kept (k.fset mc_mem_sledPages hf) (k.sticky mc_mem_sledPages)

theorem otherPages.onTrack (k : otherPages (sledPages h) s t) : otherPages (sledPages h) s (onTrack h t) :=
  k.fset mc_mem_sledPages (by split <;> decide)

theorem otherPages.seekFail (k : otherPages (sledPages h) s t) : otherPages (sledPages h) s (seekFail h t) := by
  unfold Machine.seekFail
  split
  · exact k
  · exact (((k.setHead.headCnt (by decide)).raiseMc mc_mem_sledPages).emit).onTrack

/-- A sled stalled: stopped, shown and told (R226). -/
def sledStalled (h la : Nat) (s : State) : State :=
  s |> hardStop h |> sledSt h 5 |> fset (SLD.page h) SLD.STATUS_HOMED 0 |> fault (SLD.page h) 6
    |> raise (SLD.page h) SLD.iSTALL |> cnt (SLD.page h) SLD.STALL_CNT SLD.kCNT_SAT
    |> emit 0x2202 (srcEng (9 + h)) h la (fget (SLD.page h) SLD.LOAD_I_ACT s)

/-- A stall does nothing on a stalled sled; on another one it also fails a seek under way. -/
theorem stall_cases : stall h la s = s ∨ stall h la s = sledStalled h la s ∨ stall h la s = seekFail h (sledStalled h la s) := by
  unfold stall
  split
  · exact .inl rfl
  · exact ite_kept (P := fun t => t = s ∨ t = sledStalled h la s ∨ t = seekFail h (sledStalled h la s)) (.inr (.inr rfl)) (.inr (.inl rfl))

theorem otherPages.stall (hh : h < 2) (k : otherPages (sledPages h) s t) : otherPages (sledPages h) s (stall h la t) := by
  have hstalled : otherPages (sledPages h) s (sledStalled h la t) :=
    (((((k.hardStop hh).sledSt.fset sld_mem_sledPages (by decide)).fault sld_mem_sledPages).raise sld_mem_sledPages).cnt sld_mem_sledPages
      (by decide)).emit
  rcases stall_cases (h := h) (la := la) (s := t) with e | e | e <;> rw [e]
  · exact k
  · exact hstalled
  · exact hstalled.seekFail

theorem otherPages.sledLoad (hh : h < 2) (k : otherPages (sledPages h) s t) : otherPages (sledPages h) s (sledLoad h la t) := by
  unfold Machine.sledLoad
  extract_lets p d moving lv run i rest hi lo age i' st u
  have hload : otherPages (sledPages h) s u :=
    ((k.setSled.fset sld_mem_sledPages (by decide)).fsetB sld_mem_sledPages (by decide)).sledCurrent
  exact ite_kept (hload.stall hh) hload

theorem otherPages.softClamp {x : Rat} (k : otherPages (sledPages h) s t) : otherPages (sledPages h) s (softClamp h x t).2 :=
  (ite_kept (P := otherPages (sledPages h) s) ((k.sticky sld_mem_sledPages).raise sld_mem_sledPages).emit k).setSled

theorem otherPages.homingFail {cause : Nat} (k : otherPages (sledPages h) s t) : otherPages (sledPages h) s (homingFail h cause t) :=
  ((k.setSled.sledSt.fault sld_mem_sledPages).raise sld_mem_sledPages).emit

theorem otherPages.homeRebase (k : otherPages (sledPages h) s t) : otherPages (sledPages h) s (homeRebase h t) :=
  ((((k.rebase.sledMove.fset sld_mem_sledPages (by decide)).raise sld_mem_sledPages).cnt sld_mem_sledPages (by decide)).emit).homeStep

theorem otherPages.homeTick (k : otherPages (sledPages h) s t) : otherPages (sledPages h) s (homeTick h t) := by
  unfold Machine.homeTick
  extract_lets p d v1 v2
  split
  extract_lets v x u gone done back
  have hmoved : otherPages (sledPages h) s u := k.setSled.sledMove
  split
  case h_1 => exact ite_kept hmoved.homeStep (ite_kept hmoved.homingFail hmoved)
  case h_2 => exact ite_kept hmoved.homingFail hmoved
  case h_3 => exact ite_kept (ite_kept hmoved.homingFail hmoved.setSled.homeStep) hmoved
  case h_4 => exact ite_kept hmoved.homingFail hmoved
  case h_5 => exact ite_kept (ite_kept hmoved.homeRebase hmoved) (ite_kept hmoved.rebase.homeStep.sledSt hmoved)
  case h_6 => exact hmoved

theorem otherPages_sledTick (hh : h < 2) : otherPages (sledPages h) s (sledTick h la s) := by
  have k : otherPages (sledPages h) s s := .refl
  unfold sledTick
  refine ite_kept k (ite_kept (k.homeTick.sledLoad hh) (ite_kept (k.sledLoad hh) ?_))
  exact k.softClamp.sledMove.setSled.sledSt.sledLoad hh

/-! ### What a sled's tick leaves of the heads -/

/-- What the tick presents of H on a head, and what is gathered for the next one, stand (R159). -/
def sameSeen (s t : State) : Prop := ∀ j, (t.head j).hAcc = (s.head j).hAcc ∧ (t.head j).hSeen = (s.head j).hSeen

theorem sameSeen.of_heads (hheads : t.heads = s.heads) : sameSeen s t := fun j => by
  unfold State.head
  rw [hheads]
  exact ⟨rfl, rfl⟩

theorem sameSeen.trans {u : State} (k : sameSeen s t) (l : sameSeen t u) : sameSeen s u :=
  fun j => ⟨(l j).1.trans (k j).1, (l j).2.trans (k j).2⟩

theorem sameSeen_setHead {d : HeadSt} (hacc : d.hAcc = (s.head h).hAcc) (hseen : d.hSeen = (s.head h).hSeen) : sameSeen s (setHead h d s) := by
  intro j
  by_cases hj : j = h
  · rw [hj, setHead_same]
    exact ⟨hacc, hseen⟩
  · rw [setHead_other _ _ hj]
    exact ⟨rfl, rfl⟩

/-- A failed seek ends the seek and the alignment of its head alone (R183). -/
theorem sameSeen_seekFail : sameSeen s (seekFail h s) := by
  unfold seekFail
  split
  · exact .of_heads rfl
  · refine (sameSeen_setHead (d := { s.head h with seek := none, align := none }) rfl rfl).trans (.of_heads ?_)
    exact (onTrack_kept (m := State.heads) (fun _ => rfl) (emit_kept (fun _ => rfl) (raiseMc_kept (fun _ => rfl) (headCnt_kept (fun _ => rfl) (.refl _))))).view

theorem sameSeen_stall : sameSeen s (stall h la s) := by
  have hstalled : (sledStalled h la s).heads = s.heads :=
    (emit_kept (m := State.heads) (fun _ => rfl) (cnt_kept (fun _ => rfl) (raise_kept (fun _ => rfl) (fault_kept (fun _ => rfl)
      (fset_kept (fun _ => rfl) (sledSt_kept (fun _ => rfl) (hardStop_kept (fun _ => rfl) (.refl s)))))))).view
  rcases stall_cases (h := h) (la := la) (s := s) with e | e | e <;> rw [e]
  · exact .of_heads rfl
  · exact .of_heads hstalled
  · exact (sameSeen.of_heads hstalled).trans sameSeen_seekFail

theorem sameSeen_sledLoad : sameSeen s (sledLoad h la s) := by
  unfold sledLoad
  extract_lets p d moving lv run i rest hi lo age i' st u
  have hload : sameSeen s u := .of_heads rfl
  exact ite_kept (hload.trans sameSeen_stall) hload

theorem sameSeen_sledTick : sameSeen s (sledTick h la s) := by
  have hload : ∀ t, t.heads = s.heads → sameSeen s (sledLoad h la t) := fun t ht => (sameSeen.of_heads ht).trans sameSeen_sledLoad
  unfold sledTick
  refine ite_kept (.of_heads rfl) (ite_kept (hload _ ?_) (ite_kept (hload _ rfl) (hload _ ?_)))
  · exact (homeTick_kept (m := State.heads) (fun _ => rfl) (.refl s)).view
  · exact (sledSt_kept (m := State.heads) (fun _ => rfl) (setSled_kept (fun _ => rfl) (sledMove_kept (fun _ => rfl) (softClamp_kept (fun _ => rfl) (.refl s))))).view

end Sys2Proof.Machine
end

section
/-!
PROOFS. The servo tick (R83): the lanes cross, the actuator links take a tick, and H is presented (R112, R159, R206, R223).
-/
namespace Sys2Proof.Machine

variable {s t : State} {h j k l n la : Nat} {x : LaneSt}

/-! ### Views of a fold over indices -/

theorem foldl_range_same {α β : Type} {F : α → Nat → α} {m : α → β} {a : α} (hF : ∀ t, ∀ i < n, m (F t i) = m t) :
    m ((List.range n).foldl F a) = m a := by
  induction n with
  | zero => rfl
  | succ n ih =>
    rw [List.range_succ, List.foldl_append]
    exact (hF _ n (Nat.lt_succ_self n)).trans (ih fun t i hi => hF t i (Nat.lt_succ_of_lt hi))

/-- A view that one index alone writes, from what the indices before it leave alone. -/
theorem foldl_range_view {α β γ : Type} {F : α → Nat → α} {m : α → β} {m' : α → γ} {G : β → γ} {a : α} (hl : l < n)
    (hbefore : ∀ t, ∀ i < l, m (F t i) = m t) (hat : ∀ t, m' (F t l) = G (m t)) (hafter : ∀ t i, l < i → i < n → m' (F t i) = m' t) :
    m' ((List.range n).foldl F a) = G (m a) := by
  induction n with
  | zero => exact absurd hl (Nat.not_lt_zero l)
  | succ n ih =>
    rw [List.range_succ, List.foldl_append]
    rcases Nat.lt_succ_iff_lt_or_eq.1 hl with hlt | rfl
    · exact (hafter _ n hlt (Nat.lt_succ_self n)).trans (ih hlt fun t i hi hn => hafter t i hi (Nat.lt_succ_of_lt hn))
    · exact (hat _).trans (congrArg G (foldl_range_same hbefore))

/-! ### A lane's tick (R83, R106, R107) -/

/-- A lane's record as its tick leaves it, by its record before and its being stale. -/
def tickedLane (x : LaneSt) (stale : Bool) : LaneSt :=
  { x with
    sums := [], valid := 0
    crossing := (if decide (2 ≤ x.crossing.length) then x.crossing.drop 1 else x.crossing) ++ [laneTickVal x stale]
    badTicks := if decide (x.valid < 63) then x.badTicks + 1 else 0 }

/-- What a lane's tick shows of a tick value without room, of an invalid tick, and of the servo lost. -/
def tickShown (h k : Nat) (x : LaneSt) (s : State) : State :=
  let p := HSL.page h k
  let bad := decide (x.valid < 63)
  let s := if decide (2 ≤ x.crossing.length) then sticky p HSL.kSERVO_OVERRUN s else s
  let s := fsetB p HSL.STATUS_TICK_INVALID bad s
  if bad then
    let s := fset p HSL.SERVO_CNT_INVALID_TICKS (min 65535 (fget p HSL.SERVO_CNT_INVALID_TICKS s + 1)) s
    if x.badTicks + 1 = 2 then
      let w := writing h s
      s |> fset p HSL.STATUS_SLOST 1 |> raise p HSL.iSLOST |> emit 0x3103 (srcChan h) (hslLane h k) 2 (b2n w)
        |> (fun t => if w then t |> tripHead h |> emit 0x3107 (srcChan h) (hslLane h k) 3 0 else t)
    else s
  else fset p HSL.STATUS_SLOST 0 s

theorem laneTick_eq : laneTick h k s = tickShown h k (s.lane (hslLane h k))
    (setLane (hslLane h k) (tickedLane (s.lane (hslLane h k)) (fon (HSL.page h k) HSL.STATUS_STALE s)) s) := rfl

/-- The pages a lane's tick writes: the lane's own, and those of a trip of its head. -/
def lanePages (h k : Nat) : List Nat := HSL.page h k :: HTX.page h :: stopPages h

/-- A lane's tick shows what it shows on its own page, in events, and by a trip of its head. -/
theorem tickShown_closed {P : State → Prop} (hfset : ∀ f : Fld, f.inPage → ∀ v t, P t → P (fset (HSL.page h k) f v t))
    (hraise : ∀ b t, P t → P (raise (HSL.page h k) b t)) (hemit : ∀ c src a b d t, P t → P (emit c src a b d t))
    (htrip : ∀ t, P t → P (tripHead h t)) (hs : P s) : P (tickShown h k x s) := by
  have hfull : P (if decide (2 ≤ x.crossing.length) then sticky (HSL.page h k) HSL.kSERVO_OVERRUN s else s) :=
    ite_kept (hfset hdrSticky (by decide) _ _ hs) hs
  unfold tickShown
  extract_lets p bad s1 s2 s3 w
  have hshown : P s2 := hfset HSL.STATUS_TICK_INVALID (by decide) _ _ hfull
  refine ite_kept ?_ (hfset HSL.STATUS_SLOST (by decide) _ _ hshown)
  have hcounted : P s3 := hfset HSL.SERVO_CNT_INVALID_TICKS (by decide) _ _ hshown
  refine ite_kept ?_ hcounted
  have hlost : ∀ {a b c d e}, P (emit a b c d e (raise p HSL.iSLOST (fset p HSL.STATUS_SLOST 1 s3))) :=
    hemit _ _ _ _ _ _ (hraise _ _ (hfset HSL.STATUS_SLOST (by decide) _ _ hcounted))
  exact ite_kept (P := P) (hemit _ _ _ _ _ _ (htrip _ hlost)) hlost

theorem otherPages_laneTick : otherPages (lanePages h k) s (laneTick h k s) := by
  have hown : HSL.page h k ∈ lanePages h k := List.mem_cons_self ..
  rw [laneTick_eq]
  refine tickShown_closed (fun f hf v t ht => ht.fset hown hf) (fun b t ht => ht.raise hown) (fun _ _ _ _ _ _ ht => ht.emit)
    (fun t ht => ht.trans (otherPages_tripHead.mono (List.subset_cons_self ..))) (otherPages.refl.congr rfl rfl)

theorem lanes_laneTick : (laneTick h k s).lanes =
    (setLane (hslLane h k) (tickedLane (s.lane (hslLane h k)) (fon (HSL.page h k) HSL.STATUS_STALE s)) s).lanes := by
  rw [laneTick_eq]
  exact tickShown_closed (P := fun t => t.lanes = _) (fun _ _ _ _ ht => ht)
    (fun _ _ ht => (raise_kept (m := State.lanes) (fun _ => rfl) (.refl _)).view.trans ht) (fun _ _ _ _ _ _ ht => ht)
    (fun _ ht => (tripHead_kept (m := State.lanes) (fun _ => rfl) (.refl _)).view.trans ht) rfl

theorem lane_laneTick_same : (laneTick h k s).lane (hslLane h k) =
    tickedLane (s.lane (hslLane h k)) (fon (HSL.page h k) HSL.STATUS_STALE s) :=
  (congrArg (fun m => m.get (hslLane h k) {}) lanes_laneTick).trans (setLane_same ..)

theorem lane_laneTick_other (hl : l ≠ hslLane h k) : (laneTick h k s).lane l = s.lane l :=
  (congrArg (fun m => m.get l {}) lanes_laneTick).trans (setLane_other _ _ hl)

theorem hslLane_index (l : Nat) : hslLane (l / 2) (l % 2) = l := by
  unfold hslLane
  omega

/-! ### The head's actuator link over the ticks of the lanes -/

/-- The tick number and the coil commands of a head's actuator link. -/
def coilTick (h : Nat) (s : State) := ((s.link h).tick, (s.link h).coilCmd)

theorem coilTick_eq_iff {m : Store (Nat × Bool)} : coilTick h s = (n, m) ↔ (s.link h).tick = n ∧ (s.link h).coilCmd = m := Prod.ext_iff

theorem coilTick_congr (hlinks : t.links = s.links) : coilTick h t = coilTick h s := by
  unfold coilTick State.link
  rw [hlinks]

theorem tick_of_coilTick (e : coilTick h t = coilTick h s) : (t.link h).tick = (s.link h).tick := congrArg Prod.fst e

/-- A trip of a head leaves the ticks of the actuator links. -/
theorem coilTick_tripHead : coilTick j (tripHead h s) = coilTick j s := by
  have hstop : (abruptStop h 1 s).links = s.links := (abruptStop_kept (m := State.links) (fun _ => rfl) (.refl s)).view
  by_cases hj : j = h
  · rw [hj, coilTick, link_tripHead]
    rfl
  · refine Eq.trans ?_ (coilTick_congr hstop)
    unfold tripHead tripHeadAs killHead coilTick
    rw [setLink_other _ _ hj]
    exact coilTick_congr (cnt_kept (m := State.links) (fun _ => rfl) (raise_kept (fun _ => rfl) (.refl _))).view

theorem coilTick_laneTick : coilTick j (laneTick h k s) = coilTick j s := by
  rw [laneTick_eq]
  exact tickShown_closed (P := fun t => coilTick j t = coilTick j s) (fun _ _ _ _ ht => ht)
    (fun _ _ ht => (coilTick_congr (raise_kept (m := State.links) (fun _ => rfl) (.refl _)).view).trans ht) (fun _ _ _ _ _ _ ht => ht)
    (fun _ ht => coilTick_tripHead.trans ht) rfl

/-! ### The lanes cross -/

/-- A lane's record once the servo island has taken its oldest waiting tick value. -/
def takenLane (x : LaneSt) : LaneSt :=
  match x.crossing with
  | [] => x
  | v :: vs => { x with crossing := vs, cur := v }

theorem takeTick_lane_same : (takeTick l s).lane l = takenLane (s.lane l) := by
  cases hc : (s.lane l).crossing with
  | nil => simp [takeTick, takenLane, hc]
  | cons v vs => simp [takeTick, takenLane, hc]

theorem takeTick_lane_other (hj : j ≠ l) : (takeTick l s).lane j = s.lane j := by
  unfold takeTick
  dsimp only
  split
  · rfl
  · exact setLane_other _ _ hj

theorem takenLane_sums : (takenLane x).sums = x.sums := by
  unfold takenLane
  split <;> rfl

theorem takenLane_valid : (takenLane x).valid = x.valid := by
  unfold takenLane
  split <;> rfl

/-- A lane without a waiting tick value hands this tick's value over (R83). -/
theorem takenLane_tickedLane {stale : Bool} (hempty : x.crossing = []) :
    (takenLane (tickedLane x stale)).crossing = [] ∧ (takenLane (tickedLane x stale)).cur = laneTickVal x stale := by
  have hone : (tickedLane x stale).crossing = [laneTickVal x stale] := by simp [tickedLane, hempty]
  unfold takenLane
  rw [hone]
  exact ⟨rfl, rfl⟩

/-- The lanes have ticked. -/
def lanesTicked (s : State) : State := (List.range 4).foldl (fun t l => laneTick (l / 2) (l % 2) t) s

/-- The servo island has taken the lanes' tick values. -/
def lanesCrossed (s : State) : State := (List.range 4).foldl (fun t l => takeTick l t) (lanesTicked s)

theorem lane_lanesCrossed (hl : l < 4) : (lanesCrossed s).lane l =
    takenLane (tickedLane (s.lane l) (fon (HSL.page (l / 2) (l % 2)) HSL.STATUS_STALE s)) := by
  have htaken : (lanesCrossed s).lane l = takenLane ((lanesTicked s).lane l) :=
    foldl_range_view (m := fun t : State => t.lane l) (m' := fun t : State => t.lane l) hl (fun _ _ hi => takeTick_lane_other (by omega))
      (fun _ => takeTick_lane_same) (fun _ _ hi _ => takeTick_lane_other (by omega))
  have hpages : ∀ l < 4, ∀ i < 4, i ≠ l → HSL.page (l / 2) (l % 2) ∉ lanePages (i / 2) (i % 2) := by decide
  have hticked : (lanesTicked s).lane l = tickedLane (s.lane l) (fon (HSL.page (l / 2) (l % 2)) HSL.STATUS_STALE s) := by
    refine foldl_range_view (m := fun t : State => (t.lane l, fget (HSL.page (l / 2) (l % 2)) HSL.STATUS_STALE t))
      (m' := fun t : State => t.lane l) (G := fun m => tickedLane m.1 (m.2 != 0)) hl (fun t i hi => ?_) (fun t => ?_) (fun t i hi _ => ?_)
    · refine Prod.ext (lane_laneTick_other ?_) (otherPages_laneTick _ (hpages l hl i (by omega) (by omega)) _ (by decide))
      rw [hslLane_index]
      omega
    · have h := lane_laneTick_same (s := t) (h := l / 2) (k := l % 2)
      rw [hslLane_index] at h
      exact h
    · refine lane_laneTick_other ?_
      rw [hslLane_index]
      omega
  rw [htaken, hticked]

theorem fget_lanesCrossed {q : Nat} {g : Fld} (hg : g.inPage) (hq : ∀ i < 4, q ∉ lanePages (i / 2) (i % 2)) :
    fget q g (lanesCrossed s) = fget q g s :=
  Eq.trans (foldl_range_same (m := fun t => fget q g t) fun t _ _ => fget_congr
      (takeTick_kept (m := State.regs) (fun _ => rfl) (.refl t)).view (takeTick_kept (m := State.prof) (fun _ => rfl) (.refl t)).view q g)
    (foldl_range_same (m := fun t => fget q g t) fun _ i hi => otherPages_laneTick q (hq i hi) g hg)

theorem coilTick_lanesCrossed : coilTick h (lanesCrossed s) = coilTick h s :=
  Eq.trans (foldl_range_same (m := coilTick h) fun t _ _ => coilTick_congr (takeTick_kept (m := State.links) (fun _ => rfl) (.refl t)).view)
    (foldl_range_same (m := coilTick h) fun _ _ _ => coilTick_laneTick)

theorem heads_lanesCrossed : (lanesCrossed s).heads = s.heads :=
  Eq.trans (foldl_range_same (m := State.heads) fun t _ _ => (takeTick_kept (m := State.heads) (fun _ => rfl) (.refl t)).view)
    (foldl_range_same (m := State.heads) fun t _ _ => (laneTick_kept (m := State.heads) (fun _ => rfl) (.refl t)).view)

end Sys2Proof.Machine
end

section
/-!
PROOFS. The servo tick assembled from its parts (R83, R112, R159), and the statement of the two-level word, the stores' window and the tick.
-/
namespace Sys2Proof.Machine

variable {s t : State} {h j l : Nat} {laL laU : Nat} {latL latU : BitVec 9}

/-! ### H at a head's tick (R159) -/

/-- What the tick presents of H on a head, and what is gathered for the next one. -/
def seen (h : Nat) (s : State) : Bool × Bool := ((s.head h).hAcc, (s.head h).hSeen)

theorem seen_eq_iff {a b : Bool} : seen h s = (a, b) ↔ (s.head h).hAcc = a ∧ (s.head h).hSeen = b := Prod.ext_iff

theorem hAcc_of_seen (e : seen h t = seen h s) : (t.head h).hAcc = (s.head h).hAcc := congrArg Prod.fst e

theorem seen_of_sameSeen (k : sameSeen s t) : seen h t = seen h s := Prod.ext (k h).1 (k h).2

theorem seen_congr (hheads : t.heads = s.heads) : seen h t = seen h s := by
  unfold seen State.head
  rw [hheads]

theorem servoH_headTick : servoH j (headTick h s) = servoH j s := by
  have hfget : fget (ENG.page (4 * j)) ENG.STATUS_H (headTick h s) = fget (ENG.page (4 * j)) ENG.STATUS_H s := fget_congr rfl rfl _ _
  unfold servoH fon
  rw [hfget]

theorem seen_headTick_same : seen h (headTick h s) = (false, (s.head h).hAcc || servoH h s) := by
  unfold seen headTick
  dsimp only
  rw [setHead_same]

theorem seen_headTick_other (hj : j ≠ h) : seen j (headTick h s) = seen j s := by
  unfold seen headTick
  dsimp only
  rw [setHead_other _ _ hj]

theorem seen_headTicks (hh : h < 2) : seen h (headTick 1 (headTick 0 s)) = (false, (s.head h).hAcc || servoH h s) := by
  rcases Nat.lt_succ_iff_lt_or_eq.1 hh with hlt | rfl
  · obtain rfl : h = 0 := by omega
    rw [seen_headTick_other (by decide), seen_headTick_same]
  · rw [seen_headTick_same, hAcc_of_seen (seen_headTick_other (by decide)), servoH_headTick]

/-! ### The subframes of a head's tick (R112) -/

/-- With its actuator link enabled, a head's tick takes the next tick number and drops the coil commands. -/
theorem coilTick_aclTick_same (hen : fon (ACL.page h) ACL.CTRL_EN s = true) :
    coilTick h (aclTick h s) = (((s.link h).tick + 1) % 16, []) := by
  have hsub : ((List.range 5).foldl (subframe h) s).links = s.links :=
    foldl_range_same (m := State.links) fun t _ _ => (subframe_kept (m := State.links) (fun _ => rfl) (.refl t)).view
  have hlink : ((List.range 5).foldl (subframe h) s).link h = s.link h := congrArg (fun m => m.get h {}) hsub
  unfold aclTick coilTick
  dsimp only
  rw [if_pos hen, fset_link, setLink_same, hlink]

theorem coilTick_aclTick_other (hj : j ≠ h) : coilTick j (aclTick h s) = coilTick j s := by
  have hsub : ((List.range 5).foldl (subframe h) s).links = s.links :=
    foldl_range_same (m := State.links) fun t _ _ => (subframe_kept (m := State.links) (fun _ => rfl) (.refl t)).view
  unfold aclTick
  dsimp only
  split
  · refine Eq.trans ?_ (coilTick_congr hsub)
    unfold coilTick
    rw [fset_link, setLink_other _ _ hj]
  · rfl

theorem otherPages_aclTick : otherPages [ACL.page h] s (aclTick h s) := by
  have hpage : ACL.page h ∈ [ACL.page h] := List.mem_singleton_self _
  have hsub : ∀ u c, otherPages [ACL.page h] u (subframe h u c) := by
    intro u c
    unfold subframe
    exact ite_kept .refl (otherPages.refl.cnt hpage (by decide)).send
  unfold aclTick
  refine ite_kept ?_ .refl
  exact ((otherPages.refl.foldl fun u c _ => hsub u c).congr rfl rfl).fset hpage (by decide)

theorem coilTick_aclTicks (hh : h < 2) (hen : fon (ACL.page h) ACL.CTRL_EN s = true) :
    coilTick h (aclTick 1 (aclTick 0 s)) = (((s.link h).tick + 1) % 16, []) := by
  rcases Nat.lt_succ_iff_lt_or_eq.1 hh with hlt | rfl
  · obtain rfl : h = 0 := by omega
    rw [coilTick_aclTick_other (by decide), coilTick_aclTick_same hen]
  · have hen1 : fon (ACL.page 1) ACL.CTRL_EN (aclTick 0 s) = true := by
      unfold fon at hen ⊢
      rwa [otherPages_aclTick _ (by decide) _ (by decide)]
    rw [coilTick_aclTick_same hen1, tick_of_coilTick (coilTick_aclTick_other (by decide))]

/-! ### The parts of the tick between the heads and the coils -/

theorem otherPages_clvTick : otherPages [SPN.page] s (clvTick s) := by
  have hpage : SPN.page ∈ [SPN.page] := List.mem_singleton_self _
  have hwant : ∀ rpm, otherPages [SPN.page] s (wantSpeed rpm s) := by
    intro rpm
    have hclamp : otherPages [SPN.page] s (setSpin _ (if 7200 < rpm then sticky SPN.page SPN.kTGT_CLAMP s else s)) :=
      (ite_kept (P := otherPages [SPN.page] s) (otherPages.refl.sticky hpage) .refl).congr rfl rfl
    unfold wantSpeed newTarget
    exact ite_kept hclamp ((hclamp.fset hpage (by decide)).fsetB hpage (by decide))
  unfold clvTick
  exact ite_kept (hwant _) .refl

theorem otherPages_legacyStep : otherPages [CHN.page 0 0] s (legacyStep s) := by
  unfold legacyStep
  refine ite_kept ?_ .refl
  exact (otherPages.refl.congr rfl rfl).fset (List.mem_singleton_self _) (by decide)

/-- The tick up to the coils: the lanes cross, H is presented, the spindle, the legacy step and the sleds follow. -/
def servoMoved (laL laU : Nat) (s : State) : State :=
  lanesCrossed s |> headTick 0 |> headTick 1 |> clvTick |> legacyStep |> sledTick 0 laL |> sledTick 1 laU

/-- The end of the tick: the greatest latencies, and the plausibility monitors. -/
def servoWatched (latL latU : BitVec 9) (s : State) : State :=
  (List.range 11).foldl plausTick (s |> fmax (ACL.page 0) ACL.LAT_MAX latL.toNat |> fmax (ACL.page 1) ACL.LAT_MAX latU.toNat)

/-- The whole tick. -/
def servoTicked (laL laU : Nat) (latL latU : BitVec 9) (s : State) : State :=
  servoMoved laL laU s |> aclTick 0 |> aclTick 1 |> servoWatched latL latU

theorem exec_servoTick : exec (.servoTick laL laU latL latU) s = .next (servoTicked laL laU latL latU s) := rfl

theorem servoMoved_kept {α : Type} {m : State → α}
    (hm : ∀ u, m u = m { u with regs := [], evq := [], out := [], msixPend := 0, pgs := [], heads := [], spin := {}, sleds := [], chans := [], commons := [] }) :
    Kept m (lanesCrossed s) (servoMoved laL laU s) :=
  sledTick_kept (sub hm) (sledTick_kept (sub hm) (legacyStep_kept (sub hm) (clvTick_kept (sub hm)
    (headTick_kept (sub hm) (headTick_kept (sub hm) (.refl _))))))

theorem servoWatched_kept {α : Type} {m : State → α} (hm : ∀ u, m u = m { u with regs := [], evq := [], out := [], msixPend := 0, engs := [] }) :
    Kept m s (servoWatched latL latU s) :=
  foldl_kept (P := Kept m s) (fun _ _ ht => plausTick_kept (sub hm) ht) (fmax_kept (sub hm) (fmax_kept (sub hm) (.refl s)))

theorem servoTicked_kept {α : Type} {m : State → α}
    (hm : ∀ u, m u = m { u with regs := [], evq := [], out := [], msixPend := 0, engs := [], links := [] }) :
    Kept m (servoMoved laL laU s) (servoTicked laL laU latL latU s) :=
  (aclTick_kept (sub hm) (aclTick_kept (sub hm) (.refl _))).trans (servoWatched_kept (sub hm))

/-! ### What the tick leaves -/

theorem lane_servoTicked : (servoTicked laL laU latL latU s).lane l = (lanesCrossed s).lane l := by
  have hlanes : (servoTicked laL laU latL latU s).lanes = (lanesCrossed s).lanes :=
    (servoTicked_kept (m := State.lanes) fun _ => rfl).view.trans (servoMoved_kept (m := State.lanes) fun _ => rfl).view
  unfold State.lane
  rw [hlanes]

/-- A field of the actuator link's page stands until the coils' tick. -/
theorem fget_acl_servoMoved {g : Fld} (hh : h < 2) (hg : g.inPage) : fget (ACL.page h) g (servoMoved laL laU s) = fget (ACL.page h) g s := by
  have hpages : ∀ h < 2, (∀ i < 4, ACL.page h ∉ lanePages (i / 2) (i % 2)) ∧ ACL.page h ∉ [SPN.page] ∧ ACL.page h ∉ [CHN.page 0 0] ∧
      ACL.page h ∉ sledPages 0 ∧ ACL.page h ∉ sledPages 1 := by decide
  obtain ⟨hlane, hspn, hchn, hsled0, hsled1⟩ := hpages h hh
  have hheads : ∀ i t, fget (ACL.page h) g (headTick i t) = fget (ACL.page h) g t := fun i t => fget_congr rfl rfl _ g
  unfold servoMoved
  rw [otherPages_sledTick (by decide) _ hsled1 g hg, otherPages_sledTick (by decide) _ hsled0 g hg, otherPages_legacyStep _ hchn g hg,
    otherPages_clvTick _ hspn g hg, hheads, hheads, fget_lanesCrossed hg hlane]

/-- An enabled actuator link takes the next tick number once, and its coil commands are gone (R112). -/
theorem coilTick_servoTicked (hh : h < 2) (hen : fon (ACL.page h) ACL.CTRL_EN s = true) :
    coilTick h (servoTicked laL laU latL latU s) = (((s.link h).tick + 1) % 16, []) := by
  have hmoved : coilTick h (servoMoved laL laU s) = coilTick h s :=
    (coilTick_congr (servoMoved_kept (m := State.links) fun _ => rfl).view).trans coilTick_lanesCrossed
  have hen' : fon (ACL.page h) ACL.CTRL_EN (servoMoved laL laU s) = true := by
    unfold fon at hen ⊢
    rwa [fget_acl_servoMoved hh (by decide)]
  unfold servoTicked
  rw [coilTick_congr (servoWatched_kept (m := State.links) fun _ => rfl).view, coilTick_aclTicks hh hen', tick_of_coilTick hmoved]

/-- H as a head's tick presents it holds where H stood since the last tick, or stands now (R159). -/
theorem seen_servoTicked (hh : h < 2) :
    seen h (servoTicked laL laU latL latU s) = (false, (s.head h).hAcc || servoH h s) := by
  have hservo : servoH h (lanesCrossed s) = servoH h s := by
    have hpages : ∀ h < 2, ∀ i < 4, ENG.page (4 * h) ∉ lanePages (i / 2) (i % 2) := by decide
    unfold servoH fon
    rw [fget_lanesCrossed (by decide) (hpages h hh)]
  have hhead : (lanesCrossed s).head h = s.head h := by
    unfold State.head
    rw [heads_lanesCrossed]
  have hticked : seen h (headTick 1 (headTick 0 (lanesCrossed s))) = (false, (s.head h).hAcc || servoH h s) := by
    rw [seen_headTicks hh, hhead, hservo]
  have hsled : ∀ i la t, seen h (sledTick i la t) = seen h t := fun _ _ _ => seen_of_sameSeen sameSeen_sledTick
  have hmoved : seen h (servoMoved laL laU s) = seen h (headTick 1 (headTick 0 (lanesCrossed s))) := by
    unfold servoMoved
    rw [hsled, hsled]
    exact seen_congr (legacyStep_kept (m := State.heads) (fun _ => rfl) (clvTick_kept (fun _ => rfl) (.refl _))).view
  exact ((seen_congr (servoTicked_kept (m := State.heads) fun _ => rfl).view).trans hmoved).trans hticked

theorem servoTick_ticks : Completes (.servoTick laL laU latL latU) s fun t =>
    (∀ l < 4, (t.lane l).sums = [] ∧ (t.lane l).valid = 0 ∧ ((s.lane l).crossing = [] → (t.lane l).crossing = [] ∧
      (t.lane l).cur = laneTickVal (s.lane l) (fon (HSL.page (l / 2) (l % 2)) HSL.STATUS_STALE s))) ∧
    (∀ h < 2, fon (ACL.page h) ACL.CTRL_EN s = true → (t.link h).tick = ((s.link h).tick + 1) % 16 ∧ (t.link h).coilCmd = []) ∧
    (∀ h < 2, (t.head h).hAcc = false ∧ (t.head h).hSeen = ((s.head h).hAcc || servoH h s)) ∧
    sameBut [.regs, .evq, .out, .msixPend, .lanes, .links, .recs, .engs, .pgs, .heads, .spin, .sleds, .chans, .commons] s t := by
  refine ⟨_, exec_servoTick, fun l hl => ?_, fun h hh hen => ?_, fun h hh => ?_, sameBut_of (execServoTick_kept (fun _ => rfl) (.refl s)) exec_servoTick⟩
  · rw [lane_servoTicked, lane_lanesCrossed hl]
    exact ⟨takenLane_sums, takenLane_valid, takenLane_tickedLane⟩
  · exact coilTick_eq_iff.1 (coilTick_servoTicked hh hen)
  · exact seen_eq_iff.1 (seen_servoTicked hh)

/-- Settles O20: a two-level word runs its slots and its sequencer, or traps; the window writes one word or tells a locked store; and the servo tick is the
sequence of its parts, each of which leaves the others' records. -/
theorem twoLevelWordAndTick : Obligations.TwoLevelWordAndTick := fun _ =>
  ⟨nanoWord_slots, nanoWord_traps, storeWindowWrite_loads, storeWindowWrite_locked, fun _ _ _ _ => servoTick_ticks⟩

end Sys2Proof.Machine
end

section
/-!
PROOFS. The vertical words of a control engine (R127, R128): the next PC, the cycles spent, and a word's trap.
-/
namespace Sys2Proof.Machine

variable {s t : State} {e cycles a b d : Nat} {reads late : List Nat} {g : EngSt} {r : Regs} {body : State → Except Trap State} {i : Instr}

/-- What a chain of operations keeps is the frame of a command. -/
theorem sameBut_of_kept {ps : List Part} (h : Kept (fun u => ps.foldr State.clear u) s t) : sameBut ps s t := h.view

theorem fon_congr {p : Nat} {f : Fld} (h : fget p f t = fget p f s) : fon p f t = fon p f s := congrArg (· != 0) h

/-! ### The records of engines after other writes -/

@[simp] theorem fset_eng (p : Nat) (f : Fld) (v k : Nat) (s : State) : (fset p f v s).eng k = s.eng k := rfl
@[simp] theorem emit_eng (c src a b d k : Nat) (s : State) : (emit c src a b d s).eng k = s.eng k := rfl
@[simp] theorem raise_eng (p b k : Nat) (s : State) : (raise p b s).eng k = s.eng k :=
  (raise_kept (m := fun u => u.eng k) (fun _ => rfl) (.refl s)).view
@[simp] theorem cnt_eng (p c k : Nat) (f : Fld) (s : State) : (cnt p f c s).eng k = s.eng k :=
  (cnt_kept (m := fun u => u.eng k) (fun _ => rfl) (.refl s)).view

theorem setRegs_eng (e : Nat) (r : Regs) (s : State) : (setRegs e r s).eng e = { s.eng e with r := r } := setEng_same ..

theorem spend_eng : (spend e cycles reads late t).eng e = spentBy cycles reads late (t.eng e) (t.eng e) := setEng_same ..

theorem spend_eng_other {k : Nat} (hk : k ≠ e) : (spend e cycles reads late t).eng k = t.eng k := setEng_other _ _ hk

@[simp] theorem fget_spend (q : Nat) (f : Fld) : fget q f (spend e cycles reads late t) = fget q f t := rfl

theorem otherFields.spend {p : Nat} {fs : List Fld} (h : otherFields p fs s t) : otherFields p fs s (Machine.spend e cycles reads late t) := h

theorem engState_spend : engState e (spend e cycles reads late t) = engState e t := rfl

theorem pcOf_spend : pcOf e (spend e cycles reads late t) = pcOf e t := rfl

theorem inCust_spend : inCust e (spend e cycles reads late t) = inCust e t := rfl

/-! ### The next PC -/

theorem goto_ok (hto : inCust e s = false ∨ 0x1C00 ≤ a % 2 ^ 13) : goto e a s = .ok (fset (ENG.page e) ENG.PC (a % 2 ^ 13) s) := by
  unfold goto
  dsimp only
  rw [if_neg]
  rcases hto with hcust | hto
  · simp [hcust]
  · simpa using fun _ => hto

theorem pcOf_fset : pcOf e (fset (ENG.page e) ENG.PC a s) = a % 2 ^ 13 := fget_fset_same ..

theorem pcOf_fset_next : pcOf e (fset (ENG.page e) ENG.PC ((a + 1) % 2 ^ 13) s) = (a + 1) % 2 ^ 13 := pcOf_fset.trans (Nat.mod_mod _ _)

/-- The word after this one may run, whatever the word has done to anything but its PC and the mark of customer code. -/
theorem wordRuns.advance_ok (hruns : wordRuns e s) (hpc : pcOf e t = pcOf e s) (hcust : inCust e t = inCust e s) :
    advance e t = .ok (fset (ENG.page e) ENG.PC ((pcOf e s + 1) % 2 ^ 13) t) := by
  obtain ⟨-, -, hto⟩ := hruns
  have hnext : fget (ENG.page e) ENG.PC t + 1 = pcOf e s + 1 := congrArg (· + 1) hpc
  unfold advance
  rw [hnext]
  exact goto_ok (hcust ▸ hto)

/-! ### Words that run, and words that trap -/

theorem vertical_ok (hexec : executing e s = true) (hfmt : fon (ENG.page e) ENG.STATUS_UFMT s = false) (hbody : body s = .ok t) :
    vertical e cycles reads late body s = .next (spend e cycles reads late t) := by
  unfold vertical
  rw [if_neg (by simp [hfmt]), runWord_ok hexec hbody]

/-- A word that ends with PC + 1 goes on to it. -/
theorem vertical_advance (hruns : wordRuns e s) (hpc : pcOf e t = pcOf e s) (hcust : inCust e t = inCust e s) (hbody : body s = advance e t) :
    vertical e cycles reads late body s = .next (spend e cycles reads late (fset (ENG.page e) ENG.PC ((pcOf e s + 1) % 2 ^ 13) t)) := by
  have hgo : body s = .ok (fset (ENG.page e) ENG.PC ((pcOf e s + 1) % 2 ^ 13) t) := hbody.trans (hruns.advance_ok hpc hcust)
  obtain ⟨hexec, hfmt, -⟩ := hruns
  exact vertical_ok hexec hfmt hgo

/-- A word that fails in vendor code that is not handling a trap is trapped (R145). -/
theorem completes_trapTaken {cause arg : Nat} (hexec : executing e s = true) (hfmt : fon (ENG.page e) ENG.STATUS_UFMT s = false)
    (hcust : inCust e s = false) (hstate : engState e s = 1) (hcause : cause < 256)
    (hword : exec i s = vertical e cycles reads late body s) (hbody : body s = .error (cause, arg)) : Completes i s (trapTaken e cause arg s) := by
  refine ⟨_, hword.trans ?_, trapTaken_trapEntered hcause⟩
  unfold vertical
  rw [if_neg (by simp [hfmt]), runWord_error hexec hbody, takeTrap_vendor hcust, vendorTrap_enters (by omega)]

/-- A word that has left the record `g` is done once it has taken its next PC and spent its cycles. -/
theorem EngineIs.wordDone_goto {pc : Nat} (h : EngineIs e g s t) (hlate : g.late = (s.eng e).late) (hpc : pc < 2 ^ 13) :
    Machine.wordDone e pc (spentBy cycles reads late (s.eng e) g) s (spend e cycles reads late (fset (ENG.page e) ENG.PC pc t)) := by
  refine ⟨?_, pcOf_fset.trans (Nat.mod_eq_of_lt hpc), fun f hf => (spend_eng_other hf).trans (h.others f hf), h.same, ?_⟩
  · rw [spend_eng, fset_eng, h.eng]
    unfold spentBy
    rw [hlate]
  · exact h.fields.trans (otherFields_fset _ ENG.PC _ t) (by simp) (by simp)

theorem EngineIs.completes_goto (h : EngineIs e g s t) (hlate : g.late = (s.eng e).late) (hexec : executing e s = true)
    (hfmt : fon (ENG.page e) ENG.STATUS_UFMT s = false) (hto : Machine.inCust e s = false ∨ 0x1C00 ≤ a) (ha : a < 2 ^ 13)
    (hword : exec i s = vertical e cycles reads late body s) (hbody : body s = goto e a t) :
    Completes i s (Machine.wordDone e a (spentBy cycles reads late (s.eng e) g) s) := by
  have hmod : a % 2 ^ 13 = a := Nat.mod_eq_of_lt ha
  have hgoto : goto e a t = .ok (fset (ENG.page e) ENG.PC a t) := by
    rw [goto_ok (by rwa [h.inCust, hmod]), hmod]
  exact ⟨_, hword.trans (vertical_ok hexec hfmt (hbody.trans hgoto)), h.wordDone_goto hlate ha⟩

/-- A word that has left the record `g` and goes on to PC + 1 is done; the sticky bits it has set stand. -/
theorem EngineIs.completes (h : EngineIs e g s t) (hlate : g.late = (s.eng e).late) (hruns : wordRuns e s)
    (hword : exec i s = vertical e cycles reads late body s) (hbody : body s = advance e t) :
    Completes i s fun u => Machine.wordDone e ((Machine.pcOf e s + 1) % 2 ^ 13) (spentBy cycles reads late (s.eng e) g) s u ∧
      ∀ k, hasSticky (ENG.page e) k t → hasSticky (ENG.page e) k u := by
  refine ⟨_, hword.trans (vertical_advance hruns h.pcOf h.inCust hbody), h.wordDone_goto hlate (Nat.mod_lt _ (by decide)), fun k hk => ?_⟩
  exact (hasSticky_congr ((fget_spend ..).trans (fget_fset_place (by decide) (by decide) (by decide)))).2 hk

theorem Completes.imp {P Q : State → Prop} (h : Completes i s P) (hPQ : ∀ t, P t → Q t) : Completes i s Q := by
  obtain ⟨t, ht, hP⟩ := h
  exact ⟨t, ht, hPQ t hP⟩

/-- A word that leaves the registers `r` and sets no flag. -/
theorem EngineIs.completes_regsDone (h : EngineIs e { s.eng e with r := r } s t) (hruns : wordRuns e s)
    (hword : exec i s = vertical e 1 reads [] body s) (hbody : body s = advance e t) : Completes i s (regsDone e r reads s) :=
  (h.completes rfl hruns hword hbody).imp fun _ hu => hu.1

theorem engineIs_setRegs (e : Nat) (r : Regs) (s : State) : EngineIs e { s.eng e with r := r } s (setRegs e r s) := (EngineIs.refl e s).setRegs r

theorem hasSticky_satFlag {sat : Bool} (hb : b < 32) (hsat : sat = true) : hasSticky (ENG.page e) b (satFlag e b sat s) := by
  unfold satFlag
  rw [if_pos hsat]
  exact hasSticky_sticky hb

/-- A word that writes an accumulator (R124). -/
theorem completes_accDone {n : Nat} {v : Int} (hruns : wordRuns e s) (hword : exec i s = vertical e 1 reads late body s)
    (hbody : body s = advance e (acWord e n v s)) : Completes i s (accDone e n v reads late s) :=
  (((engineIs_setRegs e ((s.eng e).r.putAc n (sat72 v).1) s).satFlag ENG.kACC_SAT (sat72 v).2).completes rfl hruns hword hbody).imp fun _ hu =>
    ⟨hu.1, fun hsat => hu.2 _ (hasSticky_satFlag (by decide) hsat)⟩

/-- A word that writes a data register and the flags by it (R124, R125). -/
theorem completes_aluDone {x : BitVec 32 × Bool} (hruns : wordRuns e s) (hword : exec i s = vertical e 1 reads late body s)
    (hbody : body s = advance e (satFlag e ENG.kSAT x.2
      (setRegs e { (s.eng e).r.put d x.1 with flags := flagsOf (s.eng e).r.flags x.1 x.2 } s))) :
    Completes i s (aluDone e d x reads late s) :=
  (((engineIs_setRegs e { (s.eng e).r.put d x.1 with flags := flagsOf (s.eng e).r.flags x.1 x.2 } s).satFlag ENG.kSAT x.2).completes
    rfl hruns hword hbody).imp fun _ hu =>
    ⟨hu.1, fun hsat => hu.2 _ (hasSticky_satFlag (by decide) hsat)⟩

end Sys2Proof.Machine
end

section
/-!
PROOFS. What a port of a control engine changes (R123, R132, R280): the registers it leaves alone, and the engine's record.
-/
namespace Sys2Proof.Machine

variable {s t u : State} {b c e h p pg off v : Nat} {f g : Fld} {x : BitVec 32}

/-! ### Registers of the pages before a page -/

/-- Every register of the pages before page `b` reads as before. -/
def sameBelow (b : Nat) (s t : State) : Prop := ∀ q (g : Fld), g.key q < b * 4096 * 32 → fget q g t = fget q g s

theorem le_key (hp : b ≤ p) : b * 4096 * 32 ≤ f.key p := by
  unfold Fld.key
  omega

theorem sameBelow.refl : sameBelow b s s := fun _ _ _ => rfl

theorem sameBelow.congr (h : sameBelow b s t) (hregs : u.regs = t.regs) (hprof : u.prof = t.prof) : sameBelow b s u :=
  fun q g hg => (fget_congr hregs hprof q g).trans (h q g hg)

theorem sameBelow.fset (h : sameBelow b s t) (hp : b ≤ p) : sameBelow b s (Machine.fset p f v t) :=
  fun q g hg => (fget_fset_other t v (Nat.ne_of_lt (hg.trans_le (le_key hp)))).trans (h q g hg)

theorem sameBelow.fclr (h : sameBelow b s t) (hp : b ≤ p) : sameBelow b s (Machine.fclr p f t) :=
  fun q g hg => (fget_fclr_other t (Nat.ne_of_lt (hg.trans_le (le_key hp)))).trans (h q g hg)

theorem sameBelow.fclrs {fs : List Fld} (h : sameBelow b s t) (hp : b ≤ p) : sameBelow b s (Machine.fclrs p fs t) :=
  foldl_kept (fun _ _ ht => ht.fclr hp) h

theorem sameBelow.routeMsix (h : sameBelow b s t) : sameBelow b s (Machine.routeMsix p t) := by
  unfold Machine.routeMsix
  exact ite_kept (fun q g hg => (fget_sendVector ..).trans (h q g hg)) h

/-! ### The channel pages a channel engine addresses (R280) -/

theorem sameBelow_readClears (hp : b ≤ pg) : sameBelow b s (readClears pg off s) :=
  foldl_kept (fun _ _ ht => ite_kept (ht.fclr hp) ht) .refl

theorem sameBelow.writeField (h : sameBelow b s t) (hp : b ≤ pg) : sameBelow b s (Machine.writeField pg v t f) := by
  unfold Machine.writeField
  dsimp only
  split
  · exact h.fset hp
  · exact h.fset hp
  · exact h.fset hp
  · exact h

theorem sameBelow_regWrite (hp : b ≤ pg) : sameBelow b s (regWrite pg off v s) := by
  have hfields : sameBelow b s ((regFields pg off).foldl (writeField pg v) s) := foldl_kept (fun _ _ ht => ht.writeField hp) .refl
  have hset : sameBelow b s ((regFields pg 0x010).foldl (fun t f => fset pg f (fget pg f t ||| trunc f.width (v / 2 ^ f.lo)) t) s) :=
    foldl_kept (fun _ _ ht => ht.fset hp) .refl
  unfold regWrite
  dsimp only
  exact ite_kept (fun q g hg => (fget_intEdge ..).trans (hset q g hg)) (ite_kept (ite_kept hfields.routeMsix hfields) hfields)

theorem sameBelow_modeWrite : sameBelow 0x70 s (modeWrite h v s) := by
  have hchc : 0x70 ≤ CHC.page h := by unfold CHC.page; omega
  have hchn : 0x70 ≤ CHN.page 0 0 := by decide
  have hshown : ∀ m k, sameBelow 0x70 s (s |> fset (CHC.page h) CHC.MODE_CFG_MODE m |> fset (CHC.page h) CHC.STATUS_MODE k) := fun _ _ =>
    (sameBelow.refl.fset hchc).fset hchc
  have htarget : ∀ ns u, sameBelow 0x70 s u → sameBelow 0x70 s (setTarget 0 0 ns u) := by
    intro ns u hu
    unfold setTarget
    have hchans : ∀ cs, sameBelow 0x70 s { u with chans := cs } := fun _ => hu.congr rfl rfl
    exact ((((((hchans _).fset hchn).fset hchn).fset hchn).fset hchn).fset hchn).fset hchn
  unfold modeWrite
  dsimp only
  exact ite_kept (P := sameBelow 0x70 s) (sameBelow.refl.fset hchc)
    (ite_kept (P := sameBelow 0x70 s) (htarget _ _ (hshown _ _)) (hshown _ _))

/-- A write to a channel page acts on channel pages alone. -/
theorem sameBelow_chanWrite (hpg : 0x70 ≤ pg) : sameBelow 0x70 s (chanWrite pg off v s) := by
  have hwrite : sameBelow 0x70 s (regWrite pg off v s) := sameBelow_regWrite hpg
  have hpending : ∀ {c : Prop} [Decidable c], sameBelow 0x70 s ((if c then targetWritten pg off else id) (regWrite pg off v s)) :=
    ite_app_kept (ite_kept (hwrite.fset hpg) hwrite) hwrite
  have htaps : ∀ n k u, sameBelow 0x70 s u → sameBelow 0x70 s (resetTaps n k u) := by
    have hchn : ∀ n k, 0x70 ≤ CHN.page n k := by unfold CHN.page; omega
    exact fun n k u hu => foldl_kept (fun _ _ ht => (ht.fclr (hchn n k)).fclr (hchn n k)) hu
  unfold chanWrite
  dsimp only
  refine ite_kept (ite_kept sameBelow_modeWrite (ite_kept (hwrite.fclrs hpg) hwrite)) (ite_kept (htaps _ _ _ ?_) ?_)
  · exact ite_kept (hpending.fclrs hpg) hpending
  · exact ite_kept (hpending.fclrs hpg) hpending

/-- The local register of a channel engine lies in a channel page. -/
theorem le_localReg (hreg : localReg e s = some (pg, off)) : 0x70 ≤ pg := by
  simp only [localReg] at hreg
  split at hreg
  · simp only [Option.some.injEq, Prod.mk.injEq] at hreg
    obtain ⟨rfl, -⟩ := hreg
    split <;> omega
  · exact absurd hreg (by simp)

/-! ### Input ports -/

theorem portRead_of_no_local (hport : e < 12 ∨ p ≠ 0x30) : portRead e p s = s := by
  unfold portRead
  rw [if_neg]
  simp only [Bool.and_eq_true, decide_eq_true_eq]
  omega

/-- A read of an input port clears fields of channel pages alone (R280). -/
theorem sameBelow_portRead : sameBelow 0x70 s (portRead e p s) := by
  unfold portRead
  refine ite_kept ?_ .refl
  split
  next pg off hreg => exact sameBelow_readClears (le_localReg hreg)
  next => exact .refl

/-- An engine's page comes before the channel pages. -/
theorem sameBelow.fget_eng (hs : sameBelow 0x70 s t) (he : e < 20) (hg : g.inPage) : fget (ENG.page e) g t = fget (ENG.page e) g s := by
  refine hs _ g ?_
  unfold Fld.key ENG.page
  omega

/-! ### Output ports -/

theorem portCoil_eq_none (hport : p < 0x80 ∨ 0x87 < p) : portCoil e p = none := by
  unfold portCoil
  rw [if_neg]
  simp only [Bool.and_eq_true, decide_eq_true_eq]
  omega

theorem portCoil_eq_some (he : e < 8) (h80 : 0x80 ≤ p) (h87 : p ≤ 0x87) : portCoil e p = some (p - 0x80) := by
  unfold portCoil
  rw [if_pos]
  simp [he, h80, h87]

theorem lt_of_portCoil (hcoil : portCoil e p = some c) : e < 8 ∧ c < 8 := by
  unfold portCoil at hcoil
  split at hcoil
  next hp =>
    simp only [Bool.and_eq_true, decide_eq_true_eq] at hp
    simp only [Option.some.injEq] at hcoil
    omega
  next => exact absurd hcoil (by simp)

theorem outEffect_of_no_port (hport : p < 0x80 ∨ 0xDF < p) : outEffect e p x s = s := by
  have hassigned : ¬(decide (0x80 ≤ p) && decide (p ≤ 0xDF)) = true := by
    simp only [Bool.and_eq_true, decide_eq_true_eq]
    omega
  have hlocal : ¬(decide (12 ≤ e) && decide (p = 0x81)) = true := by
    simp only [Bool.and_eq_true, decide_eq_true_eq]
    omega
  unfold outEffect
  rw [portCoil_eq_none (by omega)]
  dsimp only
  rw [if_neg hassigned, if_neg hlocal]

/-- A coil command writes the actuator link's page (R112, R113). -/
theorem otherPages_coilCommand {w : Int} {hold safe : Bool} (hc : c < 5) : otherPages [ACL.page h] s (coilCommand h c w hold safe s) := by
  have hpage : ACL.page h ∈ [ACL.page h] := List.mem_singleton_self _
  have hfields : ∀ c < 5, (ACL.CMD_VALUE.ix c).inPage ∧ (ACL.CMD_HOLD.ix c).inPage ∧ (ACL.CMD_SAFE.ix c).inPage := by decide
  obtain ⟨hvalue, hhold, hsafe⟩ := hfields c hc
  have hclamp : ∀ (k : Prop) [Decidable k] (n : Int), otherPages [ACL.page h] s (if k then s |> cnt (ACL.page h) ACL.CLAMP_CNT ACL.kCLAMP_SAT
      |> raise (ACL.page h) ACL.iCLAMP |> emit 0x2301 srcServo (6 + h) c (ofSigned 16 n) else s) := fun k _ n =>
    ite_kept (P := otherPages [ACL.page h] s) (((otherPages.refl.cnt hpage (by decide)).raise hpage).congr rfl rfl) .refl
  have hlink : ∀ x t, otherPages [ACL.page h] s t → otherPages [ACL.page h] s (setLink h x t) := fun _ _ ht => ht.congr rfl rfl
  unfold coilCommand
  dsimp only
  exact hlink _ _ (((otherPages.fset (ite_kept (otherPages.raise (hclamp _ _) hpage) (hclamp _ _)) hpage hvalue).fset hpage hhold).fset hpage hsafe)

theorem engPage_ne_acl (he : e < 20) (n : Nat) (hn : n < 8) : ENG.page e ∉ [ACL.page n] := by
  simp only [List.mem_singleton, ENG.page, ACL.page]
  omega

/-- An output port leaves the engine's page alone. -/
theorem fget_outEffect (he : e < 20) (hg : g.inPage) : fget (ENG.page e) g (outEffect e p x s) = fget (ENG.page e) g s := by
  have hacl : ENG.page e ∉ [ACL.page (headOf e)] := engPage_ne_acl he _ (by unfold headOf; omega)
  unfold outEffect
  split
  next c hcoil =>
    have hfields : ∀ c < 8, (ACL.CMD_HOLD.ix c).inPage := by decide
    refine ite_kept (P := fun t => fget (ENG.page e) g t = fget (ENG.page e) g s) ?_ ?_
    · exact otherPages.refl.fset (List.mem_singleton_self _) (hfields c (lt_of_portCoil hcoil).2) _ hacl g hg
    · split
      next hc => exact otherPages_coilCommand hc _ hacl g hg
      next => rfl
  next =>
    have hport : ∀ {c : Prop} [Decidable c], sameBelow 0x70 s (if c then setPort e p x s else s) := ite_kept (sameBelow.refl.congr rfl rfl) .refl
    refine sameBelow.fget_eng ?_ he hg
    dsimp only
    refine ite_kept ?_ hport
    split
    next pg off hreg =>
      exact fun q k hk => (sameBelow_chanWrite (le_localReg hreg) q k hk).trans (hport q k hk)
    next => exact hport

/-- The record of an engine that has written `x` to its port `p`. -/
def EngSt.portWritten (g : EngSt) (p : Nat) (x : BitVec 32) : EngSt := { g with ports := g.ports.put p x 0 }

/-- A port that is assigned keeps the value written, unless it commands a coil under H (R123, R132). -/
theorem outEffect_eng (h80 : 0x80 ≤ p) (hDF : p ≤ 0xDF) (hhold : 8 ≤ e ∨ flagH e s = false) :
    (outEffect e p x s).eng e = (s.eng e).portWritten p x := by
  have hport : (setPort e p x s).eng e = (s.eng e).portWritten p x := setEng_same ..
  unfold outEffect
  split
  next c hcoil =>
    have hH : flagH e s = false := hhold.resolve_left (Nat.not_le.2 (lt_of_portCoil hcoil).1)
    dsimp only
    rw [if_neg (by simp [hH])]
    refine ite_app_kept (P := fun t : State => t.eng e = (s.eng e).portWritten p x) ?_ hport
    exact (coilCommand_kept (m := fun u => u.eng e) (fun _ => rfl) (.refl _)).view.trans hport
  next =>
    have hassigned : (decide (0x80 ≤ p) && decide (p ≤ 0xDF)) = true := by simp [h80, hDF]
    dsimp only
    rw [if_pos hassigned]
    refine ite_kept (P := fun t : State => t.eng e = (s.eng e).portWritten p x) ?_ hport
    split
    · exact (chanWrite_kept (m := fun u => u.eng e) (fun _ => rfl) (.refl _)).view.trans hport
    · exact hport

/-- OUT to a coil's port under H is held (R132). -/
theorem outEffect_held (he : e < 8) (h80 : 0x80 ≤ p) (h84 : p ≤ 0x84) (hH : flagH e s = true) :
    outEffect e p x s = fset (ACL.page (headOf e)) (ACL.CMD_HOLD.ix (p - 0x80)) 1 s := by
  unfold outEffect
  rw [portCoil_eq_some he h80 (by omega)]
  dsimp only
  rw [if_pos hH]

end Sys2Proof.Machine
end

section
/-!
PROOFS. Accumulator, constant, data memory, address register and port words (R123, R124, R128, R132).
-/
namespace Sys2Proof.Machine

variable {s t : State} {e : Fin 20} {w : BitVec 26}

theorem nop_done (hruns : wordRuns e s) (hzero : fld w 13 0 = 0) : Completes (.nop e w) s (regsDone e (s.eng e).r [] s) :=
  (EngineIs.refl e s).completes_regsDone hruns rfl (if_pos hzero)

/-! ### Accumulators -/

theorem mac_done (hruns : wordRuns e s) (hfmt : fmtM true true w = true) :
    Completes (.mac e w) s (accDone e (fld w 25 25) (((s.eng e).r.ac (fld w 25 25)).toInt +
      ((s.eng e).r.get (fld w 21 18)).toInt * ((s.eng e).r.get (fld w 17 14)).toInt) ((16 + fld w 25 25) :: readsAB w) [16 + fld w 25 25] s) := by
  have h := completes_accDone (i := .mac e w) hruns rfl (if_pos hfmt)
  rwa [one_mul] at h

theorem msu_done (hruns : wordRuns e s) (hfmt : fmtM true true w = true) :
    Completes (.msu e w) s (accDone e (fld w 25 25) (((s.eng e).r.ac (fld w 25 25)).toInt -
      ((s.eng e).r.get (fld w 21 18)).toInt * ((s.eng e).r.get (fld w 17 14)).toInt) ((16 + fld w 25 25) :: readsAB w) [16 + fld w 25 25] s) := by
  have h := completes_accDone (i := .msu e w) hruns rfl (if_pos hfmt)
  rwa [neg_one_mul, ← sub_eq_add_neg] at h

theorem clra_done (hruns : wordRuns e s) (hfmt : fmtM false false w = true) : Completes (.clra e w) s (accDone e (fld w 25 25) 0 [] [] s) :=
  completes_accDone hruns rfl (if_pos hfmt)

theorem lda_done (hruns : wordRuns e s) (hfmt : fmtM true false w = true) :
    Completes (.lda e w) s (accDone e (fld w 25 25) (((s.eng e).r.get (fld w 21 18)).toInt * 2 ^ 31) [fld w 21 18] [] s) :=
  completes_accDone hruns rfl (if_pos hfmt)

theorem mva_done (hruns : wordRuns e s) (hzero : fld w 16 0 = 0) (hshift : fld w 20 17 ≤ 9) :
    Completes (.mva e w) s (aluDone e (fld w 25 22)
      (sat31 (shiftRound (((s.eng e).r.ac (fld w 21 21)).toInt * 2 ^ fld w 20 17) 31)) [16 + fld w 21 21] [fld w 25 22] s) :=
  completes_aluDone hruns rfl (if_pos (by simp [hzero, hshift]))

/-! ### Constants and address registers -/

theorem ldh_done (hruns : wordRuns e s) (hzero : fld w 21 16 = 0) :
    Completes (.ldh e w) s (regsDone e ((s.eng e).r.put (fld w 25 22) (BitVec.ofNat 32 (fld w 15 0 * 2 ^ 16))) [] s) :=
  (engineIs_setRegs e _ s).completes_regsDone hruns rfl (if_pos hzero)

theorem ldl_done (hruns : wordRuns e s) (hzero : fld w 21 16 = 0) :
    Completes (.ldl e w) s (regsDone e ((s.eng e).r.put (fld w 25 22)
      (BitVec.ofNat 32 (((s.eng e).r.get (fld w 25 22)).toNat / 2 ^ 16 * 2 ^ 16 + fld w 15 0))) [fld w 25 22] s) :=
  (engineIs_setRegs e _ s).completes_regsDone hruns rfl (if_pos hzero)

theorem setx_done (hruns : wordRuns e s) (hzero : fld w 23 12 = 0) :
    Completes (.setx e w) s (regsDone e ((s.eng e).r.putX (fld w 25 24) (BitVec.ofNat 12 (fld w 11 0))) [] s) := by
  have hparts : (decide (fld w 23 22 = 0) && decide (fld w 21 18 = 0) && decide (fld w 17 12 = 0)) = true := by
    simp only [Bool.and_eq_true, decide_eq_true_eq]
    unfold fld slice at hzero ⊢
    omega
  exact (engineIs_setRegs e _ s).completes_regsDone hruns rfl (if_pos hparts)

theorem movx_done (hruns : wordRuns e s) (hhigh : fld w 23 22 = 0) (hlow : fld w 17 0 = 0) :
    Completes (.movx e w) s (regsDone e ((s.eng e).r.putX (fld w 25 24) (((s.eng e).r.get (fld w 21 18)).setWidth 12)) [fld w 21 18] s) :=
  (engineIs_setRegs e _ s).completes_regsDone hruns rfl (if_pos (by simp [hhigh, hlow]))

/-! ### Data memory -/

section
variable {q x m off a : Nat} {bad : Bool} {v : BitVec 32}

theorem loadWord_ok (ha : a = (((s.eng e).r.getX x).toNat + off) % 4096) (hdm : custDm e a s = false) : loadWord e q x m off false s =
    .ok (setRegs e (((s.eng e).r.putX x (modX ((s.eng e).r.getX x) m)).put q (BitVec.ofNat 32 (dmGet e a s))) s) := by
  subst ha
  exact (if_neg (by simp [hdm])).trans (if_neg Bool.false_ne_true)

/-- A word of data memory that cannot be read is cause 0x02 (R145). -/
theorem loadWord_bad (ha : a = (((s.eng e).r.getX x).toNat + off) % 4096) (hdm : custDm e a s = false) :
    loadWord e q x m off true s = .error (0x02, a) := by
  subst ha
  exact (if_neg (by simp [hdm])).trans (if_pos rfl)

/-- A data memory word stored, and the address register moved on. -/
def stored (e x m a : Nat) (v : BitVec 32) (s : State) : State :=
  setRegs e ((s.eng e).r.putX x (modX ((s.eng e).r.getX x) m)) (dmPut e a v.toNat s)

theorem storeWord_ok (ha : a = (((s.eng e).r.getX x).toNat + off) % 4096) (hdm : custDm e a s = false) :
    storeWord e x m off v s = .ok (stored e x m a v s) := by
  subst ha
  exact if_neg (by simp [hdm])

theorem fget_stored (p : Nat) (f : Fld) : fget p f (stored e x m a v s) = fget p f s := fget_congr rfl rfl p f

theorem stored_eng : (stored e x m a v s).eng e = { s.eng e with r := (s.eng e).r.putX x (modX ((s.eng e).r.getX x) m) } := setRegs_eng ..

theorem dmGet_stored : dmGet e a (stored e x m a v s) = v.toNat := dmGet_dmPut_same.trans (Nat.mod_eq_of_lt v.isLt)

theorem load_done (hruns : wordRuns e s) (hfmt : fmtD w = some (q, x, m, off)) (ha : a = (((s.eng e).r.getX x).toNat + off) % 4096)
    (hdm : custDm e a s = false) : Completes (.load e w false) s
      (regsDone e (((s.eng e).r.putX x (modX ((s.eng e).r.getX x) m)).put q (BitVec.ofNat 32 (dmGet e a s))) [] s) := by
  refine (engineIs_setRegs e _ s).completes_regsDone hruns rfl ?_
  simp only [hfmt, loadWord_ok ha hdm]
  rfl

theorem load_traps (hruns : wordRuns e s) (hfmt : fmtD w = some (q, x, m, off)) (ha : a = (((s.eng e).r.getX x).toNat + off) % 4096)
    (hdm : custDm e a s = false) (hcust : inCust e s = false) (hstate : engState e s = 1) :
    Completes (.load e w true) s (trapTaken e 0x02 a s) := by
  obtain ⟨hexec, hrunsFmt, -⟩ := hruns
  refine completes_trapTaken hexec hrunsFmt hcust hstate (by decide) rfl ?_
  simp only [hfmt, loadWord_bad ha hdm]
  rfl

theorem exec_store (hruns : wordRuns e s) (hfmt : fmtD w = some (q, x, m, off)) (ha : a = (((s.eng e).r.getX x).toNat + off) % 4096)
    (hdm : custDm e a s = false) : exec (.store e w) s = .next (spend e 1 [fld w 25 22] [] (fset (ENG.page e) ENG.PC
      ((pcOf e s + 1) % 2 ^ 13) (stored e x m a ((s.eng e).r.get q) s))) := by
  refine vertical_advance hruns (fget_stored ..) (fon_congr (fget_stored ..)) ?_
  simp only [hfmt, storeWord_ok ha hdm]
  rfl

theorem store_done (hruns : wordRuns e s) (hfmt : fmtD w = some (q, x, m, off)) (ha : a = (((s.eng e).r.getX x).toNat + off) % 4096)
    (hdm : custDm e a s = false) : Completes (.store e w) s fun t => dmGet e a t = ((s.eng e).r.get q).toNat ∧
      (∀ k, k ≠ 4096 * e.val + a → t.dmem.get k 0 = s.dmem.get k 0) ∧ pcOf e t = (pcOf e s + 1) % 2 ^ 13 ∧
      t.eng e = spentBy 1 [fld w 25 22] [] (s.eng e) { s.eng e with r := (s.eng e).r.putX x (modX ((s.eng e).r.getX x) m) } ∧
      sameBut [.regs, .engs, .dmem] s t ∧ otherFields (ENG.page e) [ENG.PC] s t := by
  have hbound : a % 4096 = a := Nat.mod_eq_of_lt (ha ▸ Nat.mod_lt _ (by decide))
  refine ⟨_, exec_store hruns hfmt ha hdm, ?_, fun k hk => ?_, pcOf_fset_next, ?_, ?_, otherFields.spend fun p f hf => ?_⟩
  · exact dmGet_stored (x := x) (m := m)
  · exact Store.get_put_other _ _ _ _ _ _ (by rwa [hbound])
  · rw [spend_eng, fset_eng, stored_eng]
    rfl
  · exact sameBut_of_kept (spend_kept (fun _ => rfl) (fset_kept (fun _ => rfl) (setRegs_kept (fun _ => rfl) (dmPut_kept (fun _ => rfl) (.refl s)))))
  · exact (otherFields_fset _ ENG.PC _ (stored e x m a _ s) p f hf).trans (fget_stored ..)

end

/-! ### Ports -/

theorem inPort_done (hruns : wordRuns e s) (hzero : fld w 13 0 = 0) (hport : e.val < 12 ∨ fld w 21 14 ≠ 0x30) :
    Completes (.inPort e w) s (regsDone e ((s.eng e).r.put (fld w 25 22) (portIn e (fld w 21 14) s)) [] s) := by
  refine (engineIs_setRegs e _ s).completes_regsDone hruns rfl ((if_pos hzero).trans ?_)
  unfold inWord
  rw [portRead_of_no_local hport]

/-- A read of the local register's port clears what the register window's read clears (R280). -/
theorem inPort_local_done (hruns : wordRuns e s) (hzero : fld w 13 0 = 0) (hport : fld w 21 14 = 0x30) :
    Completes (.inPort e w) s fun t =>
      (t.eng e).r = (s.eng e).r.put (fld w 25 22) (portIn e 0x30 s) ∧ sameBut [.regs, .engs] s t := by
  have hread : ∀ {g : Fld}, g.inPage → fget (ENG.page e) g (inWord e (fld w 25 22) (fld w 21 14) s) = fget (ENG.page e) g s := fun hg =>
    sameBelow_portRead.fget_eng e.isLt hg
  have heng : ∀ k, (portRead e 0x30 s).eng k = s.eng k := fun k => (portRead_kept (m := fun u => u.eng k) (fun _ => rfl) (.refl s)).view
  refine ⟨_, vertical_advance hruns (hread (by decide)) (fon_congr (hread (by decide))) (if_pos hzero), ?_, ?_⟩
  · rw [spend_eng, fset_eng, hport]
    unfold inWord
    rw [setRegs_eng, heng]
    rfl
  · exact sameBut_of_kept (spend_kept (fun _ => rfl) (fset_kept (fun _ => rfl) (inWord_kept (fun _ => rfl) (.refl s))))

/-- OUT, where customer code may make it, has the port's effect (R143). -/
theorem outWord_ok {p : Nat} {x : BitVec 32} (hcust : custPort e p s = false) : outWord e p x s = .ok (outEffect e p x s) := by
  unfold outWord
  rw [if_neg (by simp [hcust])]

theorem custPort_of_no_port {p : Nat} (hport : p < 0x80 ∨ 0xDF < p) : custPort e p s = false := by
  unfold custPort
  have hassigned : (decide (0x80 ≤ p) && decide (p ≤ 0xDF)) = false := by
    simp only [Bool.and_eq_false_iff, decide_eq_false_iff_not]
    omega
  rw [hassigned, Bool.and_false, Bool.false_and]

theorem outPort_unassigned_done (hruns : wordRuns e s) (hzero : fld w 13 0 = 0) (hport : fld w 21 14 < 0x80 ∨ 0xDF < fld w 21 14) :
    Completes (.outPort e w) s (regsDone e (s.eng e).r [fld w 25 22] s) := by
  refine (EngineIs.refl e s).completes_regsDone hruns rfl ((if_pos hzero).trans ?_)
  rw [outWord_ok (custPort_of_no_port hport), outEffect_of_no_port hport]
  rfl

/-- OUT to an assigned port goes on to PC + 1 with the port's effect. -/
theorem exec_outPort (hruns : wordRuns e s) (hzero : fld w 13 0 = 0) (hcust : custPort e (fld w 21 14) s = false) :
    exec (.outPort e w) s = .next (spend e 1 [fld w 25 22] [] (fset (ENG.page e) ENG.PC ((pcOf e s + 1) % 2 ^ 13)
      (outEffect e (fld w 21 14) ((s.eng e).r.get (fld w 25 22)) s))) := by
  refine vertical_advance hruns (fget_outEffect e.isLt (by decide)) (fon_congr (fget_outEffect e.isLt (by decide)))
    ((if_pos hzero).trans ?_)
  rw [outWord_ok hcust]
  rfl

theorem outPort_written (hruns : wordRuns e s) (hzero : fld w 13 0 = 0) (h80 : 0x80 ≤ fld w 21 14) (hDF : fld w 21 14 ≤ 0xDF)
    (hcust : custPort e (fld w 21 14) s = false) (hhold : 8 ≤ e.val ∨ flagH e s = false) : Completes (.outPort e w) s fun t =>
      portOut e (fld w 21 14) t = (s.eng e).r.get (fld w 25 22) ∧ (t.eng e).r = (s.eng e).r ∧
      sameBut [.regs, .evq, .out, .msixPend, .links, .engs, .chans] s t := by
  refine ⟨_, exec_outPort hruns hzero hcust, ?_, ?_, ?_⟩
  · unfold portOut
    rw [spend_eng, fset_eng, outEffect_eng h80 hDF hhold]
    exact Store.get_put_same _ _ _ _
  · rw [spend_eng, fset_eng, outEffect_eng h80 hDF hhold]
    rfl
  · exact sameBut_of_kept (spend_kept (fun _ => rfl) (fset_kept (fun _ => rfl) (outEffect_kept (fun _ => rfl) (.refl s))))

/-- Under H, OUT to a coil's port holds the coil and keeps the value written before (R132). -/
theorem outPort_held (hruns : wordRuns e s) (hzero : fld w 13 0 = 0) (h80 : 0x80 ≤ fld w 21 14) (h84 : fld w 21 14 ≤ 0x84)
    (hcust : custPort e (fld w 21 14) s = false) (he : e.val < 8) (hH : flagH e s = true) : Completes (.outPort e w) s fun t =>
      fget (ACL.page (headOf e)) (ACL.CMD_HOLD.ix (fld w 21 14 - 0x80)) t = 1 ∧
      portOut e (fld w 21 14) t = portOut e (fld w 21 14) s ∧ sameBut [.regs, .engs] s t := by
  have hin : ∀ c < 5, (ACL.CMD_HOLD.ix c).inPage := by decide
  have hpage : ACL.page (headOf e) ≠ ENG.page e := by
    unfold ACL.page ENG.page headOf
    omega
  refine ⟨_, exec_outPort hruns hzero hcust, ?_, ?_, ?_⟩
  · rw [outEffect_held he h80 h84 hH, fget_spend, fget_fset_other _ _ (key_page_ne (hin _ (by omega)) (by decide) hpage), fget_fset_same]
    rfl
  · unfold portOut
    rw [spend_eng, outEffect_held he h80 h84 hH]
    rfl
  · rw [outEffect_held he h80 h84 hH]
    exact sameBut_of_kept (spend_kept (fun _ => rfl) (fset_kept (fun _ => rfl) (fset_kept (fun _ => rfl) (.refl s))))

/-- Settles O17: each word by what it leaves of the engine's record, in the order of the statement. -/
theorem engineMoves : Obligations.EngineMoves := by
  intro s e w hruns
  refine ⟨nop_done hruns, fun hfmt => ⟨mac_done hruns hfmt, msu_done hruns hfmt⟩, clra_done hruns, lda_done hruns, mva_done hruns,
    fun hzero => ⟨ldh_done hruns hzero, ldl_done hruns hzero⟩, fun q x m off a hfmt ha hdm => ?_, setx_done hruns, movx_done hruns,
    inPort_done hruns, fun hzero _ hport => inPort_local_done hruns hzero hport, outPort_unassigned_done hruns, outPort_written hruns,
    outPort_held hruns⟩
  exact ⟨load_done hruns hfmt ha hdm, load_traps hruns hfmt ha hdm, store_done hruns hfmt ha hdm⟩

end Sys2Proof.Machine
end

section
/-!
PROOFS. The return stack, the words that move the PC, and the conditions they test (R128, R129).
-/
namespace Sys2Proof.Machine

variable {s t : State} {e a n : Nat} {g : EngSt} {r : Regs} {c : Cust}

/-! ### The return stack -/

/-- The registers with an address pushed onto the return stack. -/
def Regs.pushed (r : Regs) (a : Nat) : Regs := { r with stack := Store.put r.stack r.sp (BitVec.ofNat 13 a) 0, sp := r.sp + 1 }

/-- The registers with the top of the return stack popped. -/
def Regs.popped (r : Regs) : Regs := { r with sp := r.sp - 1 }

/-- The address on top of the return stack. -/
def Regs.top (r : Regs) : BitVec 13 := Store.get r.stack (r.sp - 1) 0

theorem push_ok (hsp : (s.eng e).r.sp < 8) : push e a s = .ok (setRegs e ((s.eng e).r.pushed a) s) := if_pos hsp

theorem pop_ok (hsp : 0 < (s.eng e).r.sp) : pop e s = .ok ((s.eng e).r.top.toNat, setRegs e (s.eng e).r.popped s) := if_neg (by omega)

theorem callTo_vendor (hcust : (s.eng e).cust = none) (hsp : (s.eng e).r.sp < 8) :
    callTo e a s = goto e a (setRegs e ((s.eng e).r.pushed ((pcOf e s + 1) % 2 ^ 13)) s) := by
  unfold callTo
  rw [hcust]
  dsimp only
  rw [push_ok hsp]
  rfl

/-- The record of an engine after a CALL within the customer region. -/
def EngSt.nested (g : EngSt) (c : Cust) (a : Nat) : EngSt := { g with r := g.r.pushed a, cust := some { c with depth := c.depth + 1 } }

/-- A CALL within the customer region counts its depth (R143). -/
theorem callTo_customer (hcust : (s.eng e).cust = some c) (hdepth : c.depth < 3) (hsp : (s.eng e).r.sp < 8) :
    ∃ t, callTo e a s = goto e a t ∧ EngineIs e ((s.eng e).nested c ((pcOf e s + 1) % 2 ^ 13)) s t := by
  have hpushed := engineIs_setRegs e ((s.eng e).r.pushed ((pcOf e s + 1) % 2 ^ 13)) s
  refine ⟨setEng e ((s.eng e).nested c ((pcOf e s + 1) % 2 ^ 13)) (setRegs e ((s.eng e).r.pushed ((pcOf e s + 1) % 2 ^ 13)) s), ?_,
    setEng_same .., fun f hf => (setEng_other _ _ hf).trans (hpushed.others f hf), hpushed.same, hpushed.fields⟩
  unfold callTo
  rw [hcust]
  dsimp only
  rw [if_neg (by omega), push_ok hsp]
  show goto e a (setEng e { (setRegs e _ s).eng e with cust := _ } _) = _
  rw [setRegs_eng]
  rfl

theorem ret_vendor (hcust : (s.eng e).cust = none) (hsp : 0 < (s.eng e).r.sp) :
    ret e s = goto e (s.eng e).r.top.toNat (setRegs e (s.eng e).r.popped s) := by
  unfold ret
  rw [hcust]
  dsimp only
  rw [pop_ok hsp]
  rfl

/-! ### BR and CALL -/

section
variable {e : Fin 20} {w : BitVec 26} {i : Instr} {taken : State → Except Trap State}

theorem fld_target_lt (w : BitVec 26) : fld w 12 0 < 2 ^ 13 := Nat.mod_lt _ (by decide)

/-- The body of BR and CALL: illegal, or taken where the condition holds (R129). -/
def conditional (e : Nat) (w : BitVec 26) (taken : State → Except Trap State) (s : State) : Except Trap State :=
  if fld w 21 13 ≠ 0 || fld w 25 22 = 15 then illegal
  else if cond e (fld w 25 22) s then taken s else advance e s

theorem exec_branch : exec (.branch e w) s = vertical e (branchCycles e w s) [] [] (conditional e w (goto e (fld w 12 0))) s := rfl

theorem exec_call : exec (.call e w) s = vertical e (branchCycles e w s) [] [] (conditional e w (callTo e (fld w 12 0))) s := rfl

theorem conditional_of_legal (hzero : fld w 21 13 = 0) (hcode : fld w 25 22 ≠ 15) :
    conditional e w taken s = if cond e (fld w 25 22) s then taken s else advance e s := if_neg (by simp [hzero, hcode])

/-- Code 15 of the condition field is no condition (R129). -/
theorem conditional_illegal (hcode : fld w 25 22 = 15) : conditional e w taken s = .error (0x01, 0) := if_pos (by simp [hcode])

/-- A BR or CALL whose condition holds takes two cycles and goes to its target, from the record `g` it has left. -/
theorem completes_taken (hexec : executing e s = true) (hfmt : fon (ENG.page e) ENG.STATUS_UFMT s = false) (hzero : fld w 21 13 = 0)
    (hcode : fld w 25 22 ≠ 15) (hcond : cond e (fld w 25 22) s = true) (hto : inCust e s = false ∨ 0x1C00 ≤ fld w 12 0)
    (hword : exec i s = vertical e (branchCycles e w s) [] [] (conditional e w taken) s)
    (htaken : taken s = goto e (fld w 12 0) t) (hrec : EngineIs e g s t) (hlate : g.late = (s.eng e).late) :
    Completes i s (wordDone e (fld w 12 0) (spentBy 2 [] [] (s.eng e) g) s) := by
  have hcycles : branchCycles e w s = 2 := if_pos hcond
  rw [hcycles] at hword
  exact hrec.completes_goto hlate hexec hfmt hto (fld_target_lt w) hword
    (((conditional_of_legal hzero hcode).trans (if_pos hcond)).trans htaken)

/-- A BR or CALL whose condition does not hold takes one cycle and changes nothing. -/
theorem completes_not_taken (hruns : wordRuns e s) (hzero : fld w 21 13 = 0) (hcode : fld w 25 22 ≠ 15)
    (hcond : cond e (fld w 25 22) s = false) (hword : exec i s = vertical e (branchCycles e w s) [] [] (conditional e w taken) s) :
    Completes i s (regsDone e (s.eng e).r [] s) := by
  have hcycles : branchCycles e w s = 1 := if_neg (by simp [hcond])
  rw [hcycles] at hword
  exact (EngineIs.refl e s).completes_regsDone hruns hword ((conditional_of_legal hzero hcode).trans (if_neg (by simp [hcond])))

theorem branch_taken (hexec : executing e s = true) (hfmt : fon (ENG.page e) ENG.STATUS_UFMT s = false) (hzero : fld w 21 13 = 0)
    (hcode : fld w 25 22 ≠ 15) (hcond : cond e (fld w 25 22) s = true) (hto : inCust e s = false ∨ 0x1C00 ≤ fld w 12 0) :
    Completes (.branch e w) s (wordDone e (fld w 12 0) (spentBy 2 [] [] (s.eng e) (s.eng e)) s) :=
  completes_taken hexec hfmt hzero hcode hcond hto exec_branch rfl (EngineIs.refl e s) rfl

theorem call_taken (hexec : executing e s = true) (hfmt : fon (ENG.page e) ENG.STATUS_UFMT s = false) (hzero : fld w 21 13 = 0)
    (hcode : fld w 25 22 ≠ 15) (hcond : cond e (fld w 25 22) s = true) (hto : inCust e s = false ∨ 0x1C00 ≤ fld w 12 0)
    (hcust : (s.eng e).cust = none) (hsp : (s.eng e).r.sp < 8) :
    Completes (.call e w) s (wordDone e (fld w 12 0) (spentBy 2 [] [] (s.eng e)
      { s.eng e with r := (s.eng e).r.pushed ((pcOf e s + 1) % 2 ^ 13) }) s) :=
  completes_taken hexec hfmt hzero hcode hcond hto exec_call (callTo_vendor hcust hsp) (engineIs_setRegs ..) rfl

theorem call_nested (hexec : executing e s = true) (hfmt : fon (ENG.page e) ENG.STATUS_UFMT s = false) (hzero : fld w 21 13 = 0)
    (hcode : fld w 25 22 ≠ 15) (hcond : cond e (fld w 25 22) s = true) (hto : inCust e s = false ∨ 0x1C00 ≤ fld w 12 0)
    (hcust : (s.eng e).cust = some c) (hdepth : c.depth < 3) (hsp : (s.eng e).r.sp < 8) :
    Completes (.call e w) s fun t => pcOf e t = fld w 12 0 ∧
      (t.eng e).cust = some { c with depth := c.depth + 1 } ∧ (t.eng e).r.sp = (s.eng e).r.sp + 1 ∧ sameBut [.regs, .engs] s t := by
  obtain ⟨t, htaken, hrec⟩ := callTo_customer (a := fld w 12 0) hcust hdepth hsp
  refine (completes_taken hexec hfmt hzero hcode hcond hto exec_call htaken hrec rfl).imp fun u hu => ?_
  obtain ⟨heng, hpc, -, hsame, -⟩ := hu
  exact ⟨hpc, by rw [heng]; rfl, by rw [heng]; rfl, hsame⟩

/-! ### RET and JI -/

theorem ret_done (hexec : executing e s = true) (hfmt : fon (ENG.page e) ENG.STATUS_UFMT s = false) (hzero : fld w 25 0 = 0)
    (hnone : (s.eng e).cust = none) (hcust : inCust e s = false) (hsp : 0 < (s.eng e).r.sp) :
    Completes (.ret e w) s (wordDone e (s.eng e).r.top.toNat (spentBy 2 [] [] (s.eng e) { s.eng e with r := (s.eng e).r.popped }) s) :=
  (engineIs_setRegs e (s.eng e).r.popped s).completes_goto rfl hexec hfmt (.inl hcust) (BitVec.isLt _) rfl ((if_pos hzero).trans (ret_vendor hnone hsp))

theorem ji_done (hexec : executing e s = true) (hfmt : fon (ENG.page e) ENG.STATUS_UFMT s = false) (hword : fmtA false true false w = true)
    (hto : inCust e s = false ∨ 0x1C00 ≤ slice ((s.eng e).r.get (fld w 21 18)).toNat 12 0) :
    Completes (.ji e w) s (wordDone e (slice ((s.eng e).r.get (fld w 21 18)).toNat 12 0)
      (spentBy 2 [fld w 21 18] [] (s.eng e) (s.eng e)) s) :=
  (EngineIs.refl e s).completes_goto rfl hexec hfmt hto (Nat.mod_lt _ (by decide)) rfl (if_pos hword)

/-! ### What each code selects -/

theorem conditions_eq (f : Flags) (h pf : Bool) :
    [true, f.z, !f.z, f.n, !f.n, !f.n && !f.z, f.n || f.z, h, !h, f.c, !f.c, f.v, !f.v, pf, !pf] =
      (List.range 15).map (fun c => condHolds c f h pf) := rfl

/-- A word that is done has changed nothing but its engine's record, PC and sticky bits. -/
theorem wordDone.frame {pc : Nat} (h : wordDone e pc g s t) : pcOf e t = pc ∧ (∀ f, f ≠ e → t.eng f = s.eng f) ∧
    sameBut [.regs, .engs] s t ∧ otherFields (ENG.page e) [ENG.PC, hdrSticky] s t := by
  obtain ⟨-, hpc, hothers, hsame, hfields⟩ := h
  exact ⟨hpc, fun f hf => hothers f (Fin.val_ne_of_ne hf), hsame, hfields⟩

/-- Settles O45: the field's code picks the condition out of the list, and BR and CALL of vendor code go by it; code 15 is illegal. -/
theorem branchConditions : Obligations.BranchConditions := by
  intro s e w f h pf holds hexec hstate hcust hfmt hzero hnone hsp hf hh hpf hholds
  subst hf hh hpf hholds
  have hvendor : wordRuns e s := ⟨hexec, hfmt, .inl hcust⟩
  refine ⟨fun k hk => ?_, fun hcode => ?_⟩
  · rw [conditions_eq, List.getElem?_map] at hk
    obtain ⟨c, hc, hcond⟩ := Option.map_eq_some_iff.1 hk
    obtain ⟨hlt, rfl⟩ := List.getElem?_eq_some_iff.1 hc
    rw [List.getElem_range] at hcond
    have hcode : fld w 25 22 ≠ 15 := fun h15 => by rw [List.length_range] at hlt; omega
    cases k with
    | true =>
      exact List.forall_mem_cons.2 ⟨(branch_taken hexec hfmt hzero hcode hcond (.inl hcust)).imp fun _ hu => hu.frame,
        List.forall_mem_singleton.2 ((call_taken hexec hfmt hzero hcode hcond (.inl hcust) hnone hsp).imp fun _ hu => hu.frame)⟩
    | false =>
      exact List.forall_mem_cons.2 ⟨(completes_not_taken hvendor hzero hcode hcond exec_branch).imp fun _ hu => wordDone.frame hu,
        List.forall_mem_singleton.2 ((completes_not_taken hvendor hzero hcode hcond exec_call).imp fun _ hu => wordDone.frame hu)⟩
  · exact List.forall_mem_cons.2 ⟨completes_trapTaken hexec hfmt hcust hstate (by decide) exec_branch (conditional_illegal hcode),
      List.forall_mem_singleton.2 (completes_trapTaken hexec hfmt hcust hstate (by decide) exec_call (conditional_illegal hcode))⟩

end

end Sys2Proof.Machine
end

section
/-!
PROOFS. Waits, hooks, traps, RESUME and register access words (R128, R130, R142 to R147).
-/
namespace Sys2Proof.Machine

variable {s t u : State} {e a h mask seen v p q cycles : Nat} {reads late : List Nat} {f g : Fld} {ps : List Part}

/-! ### Keeping a maximum, and waking -/

theorem fget_fmax_place (hg : g.inPage) (hf : f.inPage) (hne : g.place ≠ f.place) : fget q g (fmax p f v s) = fget q g s := by
  unfold fmax
  dsimp only
  exact ite_kept (P := fun t => fget q g t = fget q g s) (fget_fset_place hg hf hne) rfl

theorem otherFields_fmax : otherFields p [f] s (fmax p f v s) := by
  unfold fmax
  dsimp only
  exact ite_kept (otherFields_fset p f _ s) (otherFields.refl _ _ _)

theorem engState_fset_pc : engState e (fset (ENG.page e) ENG.PC v s) = engState e s := fget_fset_place (by decide) (by decide) (by decide)

theorem engState_setEngState (hv : v < 8) : engState e (setEngState e v s) = v := (fget_fset_same ..).trans (Nat.mod_eq_of_lt hv)

/-- STATE is at a place of its own. -/
theorem fget_setEngState_place (hg : g.inPage) (hne : g.place ≠ ENG.STATUS_STATE.place) : fget q g (setEngState e v s) = fget q g s :=
  fget_fset_place hg (by decide) hne

theorem engState_wake : engState e (wake e seen s) = 1 := engState_fset_pc.trans (engState_setEngState (by decide))

theorem pcOf_wake : pcOf e (wake e seen s) = (pcOf e s + 1) % 2 ^ 13 := pcOf_fset_next

theorem wake_eng : (wake e seen s).eng e = { s.eng e with woke := seen } := setEng_same ..

theorem otherFields_wake : otherFields (ENG.page e) [ENG.PC, ENG.STATUS_STATE] s (wake e seen s) :=
  (otherFields_fset _ ENG.STATUS_STATE 1 (setEng e { s.eng e with woke := seen } s)).trans (otherFields_fset _ ENG.PC _ _) (by simp) (by simp)

/-! ### WAIT (R130) -/

/-- An engine whose WAIT names `mask`: CYC_MAX is taken, and the kept events that the mask names are seen. -/
def waitBegun (e mask : Nat) (s : State) : State :=
  setEng e { s.eng e with mask := mask, woke := (s.eng e).events &&& mask, events := (s.eng e).events ^^^ ((s.eng e).events &&& mask), cyc := 0 }
    (fmax (ENG.page e) ENG.CYC_MAX (s.eng e).cyc s)

theorem waitFor_none (hcust : inCust e s = false) (hnone : (s.eng e).events &&& mask = 0) :
    waitFor e mask s = .ok (setEngState e 2 (waitBegun e mask s)) := by
  unfold waitFor
  dsimp only
  rw [if_neg (by simp [hcust]), if_neg (by simpa using hnone)]
  rfl

theorem waitFor_some (hcust : inCust e s = false) (hsome : (s.eng e).events &&& mask ≠ 0) :
    waitFor e mask s = .ok (wake e ((s.eng e).events &&& mask) (waitBegun e mask s)) := by
  unfold waitFor
  dsimp only
  rw [if_neg (by simp [hcust]), if_pos hsome]
  rfl

theorem pcOf_waitBegun : pcOf e (waitBegun e mask s) = pcOf e s := fget_fmax_place (by decide) (by decide) (by decide)

theorem otherFields_waitBegun : otherFields (ENG.page e) [ENG.CYC_MAX] s (waitBegun e mask s) :=
  fun q f hf => (fget_setEng ..).trans (otherFields_fmax q f hf)

theorem waitBegun_kept {α : Type} {m : State → α} (hm : ∀ u, m u = m { u with regs := [], engs := [] }) : Kept m s (waitBegun e mask s) :=
  setEng_kept (sub hm) (fmax_kept (sub hm) (.refl s))

/-! ### Customer code entered and left (R142, R143) -/

/-- The customer routine of hook `h` entered, to return to PC + 1. -/
def hookEntered (e h : Nat) (s : State) : State :=
  let ra := (pcOf e s + 1) % 2 ^ 13
  let t := setRegs e ((s.eng e).r.pushed ra) s
  let r := (t.eng e).r
  t |> setEng e { t.eng e with r := { r with flags := { r.flags with c := false } }, cust := some ⟨(s.eng e).r, BitVec.ofNat 13 ra, h, 0⟩ }
    |> fset (ENG.page e) ENG.STATUS_CUST_ACTIVE 1 |> fset (ENG.page e) ENG.PC (0x1C00 + h)
    |> fset (ENG.page e) ENG.CUST_STATUS_LAST_HOOK h |> cnt (ENG.page e) ENG.CUST_STATUS_ENTRIES ENG.kCNT_SAT

theorem hookEntered_eng : (hookEntered e h s).eng e =
    { s.eng e with
      r := { (s.eng e).r.pushed ((pcOf e s + 1) % 2 ^ 13) with flags := { (s.eng e).r.flags with c := false } }
      cust := some ⟨(s.eng e).r, BitVec.ofNat 13 ((pcOf e s + 1) % 2 ^ 13), h, 0⟩ } := by
  unfold hookEntered
  simp only [cnt_eng, fset_eng, setEng_same, setRegs_eng]
  rfl

theorem fget_hookEntered_place (hg : g.inPage) (hne : g.place ∉ [ENG.STATUS_CUST_ACTIVE.place, ENG.PC.place, ENG.CUST_STATUS_LAST_HOOK.place,
    ENG.CUST_STATUS_ENTRIES.place, hdrSticky.place]) : fget q g (hookEntered e h s) = fget q g s := by
  simp only [List.mem_cons, not_or] at hne
  obtain ⟨hactive, hpc, hlast, hentries, hsticky, -⟩ := hne
  unfold hookEntered
  rw [fget_cnt_place hg (by decide) hentries hsticky, fget_fset_place hg (by decide) hlast, fget_fset_place hg (by decide) hpc,
    fget_fset_place hg (by decide) hactive]
  rfl

theorem hook_enters (hcust : inCust e s = false) (harmed : fon (ENG.page e) ENG.STATUS_ARMED s = true)
    (hen : bit (fget (ENG.page e) ENG.CUST_HOOKS_EN s) h = true) (hbudget : fget (ENG.page e) ENG.CUST_CTRL_BUDGET s ≠ 0)
    (hsp : (s.eng e).r.sp < 8) : hook e h s = .ok (hookEntered e h s) := by
  have hstands : fget (ENG.page e) ENG.CUST_CTRL_BUDGET (hookEntered e h s) ≠ 0 := by
    rwa [fget_hookEntered_place (by decide) (by decide)]
  have hbody : hook e h s = .ok (if fget (ENG.page e) ENG.CUST_CTRL_BUDGET (hookEntered e h s) = 0
      then custFail e 0x21 0 (hookEntered e h s) else hookEntered e h s) := by
    unfold hook
    dsimp only
    rw [if_neg (by simp [hcust]), if_pos (by simp [harmed, hen]), push_ok hsp]
    rfl
  rw [hbody, if_neg hstands]

theorem pcOf_hookEntered (hh : h < 16) : pcOf e (hookEntered e h s) = 0x1C00 + h := by
  unfold hookEntered pcOf
  rw [fget_cnt_place (by decide) (by decide) (by decide) (by decide), fget_fset_place (by decide) (by decide) (by decide), fget_fset_same]
  exact Nat.mod_eq_of_lt (show 0x1C00 + h < 2 ^ 13 by omega)

theorem inCust_hookEntered : inCust e (hookEntered e h s) = true := by
  unfold hookEntered inCust fon
  rw [fget_cnt_place (by decide) (by decide) (by decide) (by decide), fget_fset_place (by decide) (by decide) (by decide),
    fget_fset_place (by decide) (by decide) (by decide), fget_fset_same]
  rfl

theorem hookEntered_kept {α : Type} {m : State → α} (hm : ∀ u, m u = m { u with regs := [], engs := [] }) : Kept m s (hookEntered e h s) :=
  cnt_kept (sub hm) (fset_kept (sub hm) (fset_kept (sub hm) (fset_kept (sub hm) (setEng_kept (sub hm) (setRegs_kept (sub hm) (.refl s))))))

/-- HOOK where no customer code is armed goes on with C clear. -/
theorem hook_skips (hcust : inCust e s = false) (harmed : fon (ENG.page e) ENG.STATUS_ARMED s = false) :
    hook e h s = advance e (setRegs e { (s.eng e).r with flags := { (s.eng e).r.flags with c := false } } s) := by
  unfold hook
  dsimp only
  rw [if_neg (by simp [hcust]), if_neg (by simp [harmed])]

/-- Customer code left by RETC. -/
def hookLeft (e : Nat) (c : Cust) (s : State) : State :=
  setEng e { s.eng e with r := restored c (s.eng e).r, cust := none } s
    |> fset (ENG.page e) ENG.STATUS_CUST_ACTIVE 0 |> fset (ENG.page e) ENG.PC c.ret.toNat

theorem retc_leaves {c : Cust} (hc : (s.eng e).cust = some c) : retc e s = .ok (hookLeft e c s) := by
  unfold retc
  rw [hc]
  rfl

theorem hookLeft_eng {c : Cust} : (hookLeft e c s).eng e = { s.eng e with r := restored c (s.eng e).r, cust := none } := setEng_same ..

theorem pcOf_hookLeft {c : Cust} : pcOf e (hookLeft e c s) = c.ret.toNat := pcOf_fset.trans (Nat.mod_eq_of_lt c.ret.isLt)

theorem otherFields_hookLeft {c : Cust} : otherFields (ENG.page e) [ENG.PC, ENG.STATUS_CUST_ACTIVE] s (hookLeft e c s) :=
  (otherFields_fset _ ENG.STATUS_CUST_ACTIVE 0 (setEng _ _ s)).trans (otherFields_fset _ ENG.PC _ _) (by simp) (by simp)

theorem hookLeft_kept {α : Type} {m : State → α} (hm : ∀ u, m u = m { u with regs := [], engs := [] }) {c : Cust} : Kept m s (hookLeft e c s) :=
  fset_kept (sub hm) (fset_kept (sub hm) (setEng_kept (sub hm) (.refl s)))

theorem inCust_hookLeft {c : Cust} : inCust e (hookLeft e c s) = false := by
  unfold hookLeft inCust fon
  rw [fget_fset_place (by decide) (by decide) (by decide), fget_fset_same]
  rfl

/-! ### RESUME (R147) -/

/-- The frame in data memory taken back, RUNNING at `pc`. -/
def frameResumed (e pc : Nat) (s : State) : State :=
  setRegs e (frameRegs e s) s |> setEngState e 1 |> fset (ENG.page e) ENG.PC (pc % 2 ^ 13)

theorem resume_vendor {skip : Bool} (hcust : inCust e s = false) : resume e skip s =
    .ok (frameResumed e (slice (dmGet e 0xDE0 s) 12 0 + if skip then 1 else 0) s) := by
  unfold resume
  rw [if_neg (by simp [hcust])]
  cases skip <;> rfl

theorem engState_frameResumed : engState e (frameResumed e a s) = 1 := engState_fset_pc.trans (engState_setEngState (by decide))

theorem otherFields_frameResumed : otherFields (ENG.page e) [ENG.PC, ENG.STATUS_STATE] s (frameResumed e a s) :=
  (otherFields_fset _ ENG.STATUS_STATE 1 (setRegs _ _ s)).trans (otherFields_fset _ ENG.PC _ _) (by simp) (by simp)

theorem frameResumed_eng : (frameResumed e a s).eng e = { s.eng e with r := frameRegs e s } := setRegs_eng ..

theorem pcOf_frameResumed : pcOf e (frameResumed e a s) = a % 2 ^ 13 := pcOf_fset.trans (Nat.mod_mod _ _)

/-! ### The words -/

section
variable {e : Fin 20} {w : BitVec 26}

theorem wait_waits (hexec : executing e s = true) (hfmt : fon (ENG.page e) ENG.STATUS_UFMT s = false) (hzero : fld w 25 16 = 0)
    (hcust : inCust e s = false) (hnone : (s.eng e).events &&& fld w 5 0 = 0) : Completes (.wait e w) s fun t => engState e t = 2 ∧
      (t.eng e).mask = fld w 5 0 ∧ (t.eng e).events = (s.eng e).events ∧ pcOf e t = pcOf e s ∧ sameBut [.regs, .engs] s t ∧
      otherFields (ENG.page e) [ENG.STATUS_STATE, ENG.CYC_MAX] s t := by
  have heng : (setEngState e 2 (waitBegun e (fld w 5 0) s)).eng e = (waitBegun e (fld w 5 0) s).eng e := rfl
  refine ⟨_, vertical_ok hexec hfmt ((if_pos hzero).trans (waitFor_none hcust hnone)),
    engState_spend.trans (engState_setEngState (v := 2) (by decide)), ?_, ?_, ?_, ?_, ?_⟩
  · rw [spend_eng, heng, waitBegun, setEng_same]
    rfl
  · rw [spend_eng, heng, waitBegun, setEng_same, hnone]
    exact Nat.xor_zero _
  · exact (pcOf_spend.trans (fget_setEngState_place (by decide) (by decide))).trans pcOf_waitBegun
  · exact sameBut_of_kept (spend_kept (fun _ => rfl) (setEngState_kept (fun _ => rfl) (waitBegun_kept (fun _ => rfl))))
  · exact (otherFields_waitBegun.trans (otherFields_fset _ ENG.STATUS_STATE 2 _) (by simp) (by simp)).spend

theorem wait_wakes (hexec : executing e s = true) (hfmt : fon (ENG.page e) ENG.STATUS_UFMT s = false) (hzero : fld w 25 16 = 0)
    (hcust : inCust e s = false) (hsome : (s.eng e).events &&& fld w 5 0 ≠ 0) : Completes (.wait e w) s fun t => engState e t = 1 ∧
      (t.eng e).woke = (s.eng e).events &&& fld w 5 0 ∧ pcOf e t = (pcOf e s + 1) % 2 ^ 13 ∧ sameBut [.regs, .engs] s t := by
  refine ⟨_, vertical_ok hexec hfmt ((if_pos hzero).trans (waitFor_some hcust hsome)), engState_spend.trans engState_wake, ?_, ?_, ?_⟩
  · rw [spend_eng, wake_eng]
    rfl
  · rw [pcOf_spend, pcOf_wake, pcOf_waitBegun]
  · exact sameBut_of_kept (spend_kept (fun _ => rfl) (wake_kept (fun _ => rfl) (waitBegun_kept (fun _ => rfl))))

theorem hook_entered (hexec : executing e s = true) (hfmt : fon (ENG.page e) ENG.STATUS_UFMT s = false) (hzero : fld w 25 16 = 0)
    (hcust : inCust e s = false) (harmed : fon (ENG.page e) ENG.STATUS_ARMED s = true)
    (hen : bit (fget (ENG.page e) ENG.CUST_HOOKS_EN s) (fld w 3 0) = true) (hbudget : fget (ENG.page e) ENG.CUST_CTRL_BUDGET s ≠ 0)
    (hsp : (s.eng e).r.sp < 8) : Completes (.hook e w) s fun t =>
      pcOf e t = 0x1C00 + fld w 3 0 ∧ inCust e t = true ∧ (t.eng e).r.flags.c = false ∧ (t.eng e).r.sp = (s.eng e).r.sp + 1 ∧
      (t.eng e).cust = some ⟨(s.eng e).r, BitVec.ofNat 13 ((pcOf e s + 1) % 2 ^ 13), fld w 3 0, 0⟩ ∧ sameBut [.regs, .engs] s t := by
  refine ⟨_, vertical_ok hexec hfmt ((if_pos hzero).trans (hook_enters hcust harmed hen hbudget hsp)),
    pcOf_spend.trans (pcOf_hookEntered (Nat.mod_lt _ (by decide))), inCust_spend.trans inCust_hookEntered, ?_, ?_, ?_, ?_⟩
  · rw [spend_eng, hookEntered_eng]
    rfl
  · rw [spend_eng, hookEntered_eng]
    rfl
  · rw [spend_eng, hookEntered_eng]
    rfl
  · exact sameBut_of_kept (spend_kept (fun _ => rfl) (hookEntered_kept (fun _ => rfl)))

theorem hook_skipped (hexec : executing e s = true) (hfmt : fon (ENG.page e) ENG.STATUS_UFMT s = false) (hzero : fld w 25 16 = 0)
    (hcust : inCust e s = false) (harmed : fon (ENG.page e) ENG.STATUS_ARMED s = false) : Completes (.hook e w) s
    (regsDone e { (s.eng e).r with flags := { (s.eng e).r.flags with c := false } } [] s) :=
  (engineIs_setRegs e _ s).completes_regsDone ⟨hexec, hfmt, .inl hcust⟩ rfl ((if_pos hzero).trans (hook_skips hcust harmed))

theorem retc_left (hexec : executing e s = true) (hfmt : fon (ENG.page e) ENG.STATUS_UFMT s = false) (c : Cust) (hzero : fld w 25 0 = 0)
    (hc : (s.eng e).cust = some c) : Completes (.retc e w) s fun t => pcOf e t = c.ret.toNat ∧ inCust e t = false ∧
      (t.eng e).cust = none ∧ (t.eng e).r = restored c (s.eng e).r ∧ sameBut [.regs, .engs] s t ∧
      otherFields (ENG.page e) [ENG.PC, ENG.STATUS_CUST_ACTIVE] s t := by
  refine ⟨_, vertical_ok hexec hfmt ((if_pos hzero).trans (retc_leaves hc)), pcOf_spend.trans pcOf_hookLeft, inCust_spend.trans inCust_hookLeft,
    ?_, ?_, ?_, ?_⟩
  · rw [spend_eng, hookLeft_eng]
    rfl
  · rw [spend_eng, hookLeft_eng]
    rfl
  · exact sameBut_of_kept (spend_kept (fun _ => rfl) (hookLeft_kept fun _ => rfl))
  · exact otherFields_hookLeft.spend

/-- The cycles a word spends are not among what a trap shows. -/
theorem trapTaken.spend {cause arg : Nat} (ht : trapTaken e cause arg s t) : trapTaken e cause arg s (spend e cycles reads late t) := ht

theorem trap_taken (hexec : executing e s = true) (hfmt : fon (ENG.page e) ENG.STATUS_UFMT s = false) (hzero : fld w 25 16 = 0)
    (harg : 0x80 ≤ fld w 7 0) (hcust : inCust e s = false) (hstate : engState e s = 1) :
    Completes (.trap e w) s (trapTaken e (fld w 7 0) 0 s) := by
  have hword : trapWord e (fld w 7 0) s = trapEntered e (fld w 7 0) 0 s := by
    unfold trapWord
    rw [if_neg (by omega), if_neg (by simp [hcust]), takeTrap_vendor hcust, vendorTrap_enters (by omega)]
  refine ⟨_, vertical_ok hexec hfmt ((if_pos hzero).trans (congrArg Except.ok hword)), ?_⟩
  exact (trapTaken_trapEntered (Nat.mod_lt _ (by decide))).spend

theorem resume_done (hexec : executing e s = true) (hfmt : fon (ENG.page e) ENG.STATUS_UFMT s = false) (hzero : fld w 25 16 = 0)
    (hcust : inCust e s = false) : Completes (.resume e w) s fun t => engState e t = 1 ∧ (t.eng e).r = frameRegs e s ∧
      pcOf e t = ((slice (dmGet e 0xDE0 s) 12 0) + (if fld w 0 0 = 1 then 1 else 0)) % 2 ^ 13 ∧ sameBut [.regs, .engs] s t ∧
      otherFields (ENG.page e) [ENG.PC, ENG.STATUS_STATE] s t := by
  refine ⟨_, vertical_ok hexec hfmt ((if_pos hzero).trans (resume_vendor hcust)), engState_spend.trans engState_frameResumed, ?_, ?_, ?_, ?_⟩
  · rw [spend_eng, frameResumed_eng]
    rfl
  · rw [pcOf_spend, pcOf_frameResumed]
    simp only [decide_eq_true_eq]
  · exact sameBut_of_kept (spend_kept (fun _ => rfl)
      (fset_kept (fun _ => rfl) (setEngState_kept (fun _ => rfl) (setRegs_kept (fun _ => rfl) (.refl s)))))
  · exact otherFields_frameResumed.spend

theorem rgl_issued (hexec : executing e s = true) (hfmt : fon (ENG.page e) ENG.STATUS_UFMT s = false) (hword : fmtA true true false w = true) :
    Completes (.rgl e w) s fun t => sameBut [.engs] s t ∧ t.eng e = spentBy 0 [fld w 21 18] [] (s.eng e)
      { s.eng e with rg := some ⟨slice ((s.eng e).r.get (fld w 21 18)).toNat 23 0, none, fld w 25 22, none⟩ } := by
  refine ⟨_, vertical_ok hexec hfmt (if_pos hword), sameBut_of_kept (spend_kept (fun _ => rfl) (issueRg_kept (fun _ => rfl) (.refl s))), ?_⟩
  rw [spend_eng, issueRg, setEng_same]
  rfl

theorem rgs_issued (hexec : executing e s = true) (hfmt : fon (ENG.page e) ENG.STATUS_UFMT s = false) (hword : fmtA false true true w = true) :
    Completes (.rgs e w) s fun t => sameBut [.engs] s t ∧ t.eng e = spentBy 0 (readsAB w) [] (s.eng e)
      { s.eng e with rg := some ⟨slice ((s.eng e).r.get (fld w 21 18)).toNat 23 0, some ((s.eng e).r.get (fld w 17 14)), 0, none⟩ } := by
  refine ⟨_, vertical_ok hexec hfmt (if_pos hword), sameBut_of_kept (spend_kept (fun _ => rfl) (issueRg_kept (fun _ => rfl) (.refl s))), ?_⟩
  rw [spend_eng, issueRg, setEng_same]
  rfl

/-- Settles O18: each word by the rule of its effect, in the order of the statement. -/
theorem engineControlFlow : Obligations.EngineControlFlow := by
  intro s e w hexec hfmt
  refine ⟨fun hzero hcode hcond hto => ⟨branch_taken hexec hfmt hzero hcode hcond hto, fun hnone hsp => ?_, fun c hc hdepth hsp => ?_⟩,
    fun hzero hcode hcond hruns => ⟨completes_not_taken hruns hzero hcode hcond exec_branch, completes_not_taken hruns hzero hcode hcond exec_call⟩,
    ret_done hexec hfmt, ji_done hexec hfmt, wait_waits hexec hfmt, wait_wakes hexec hfmt, hook_entered hexec hfmt, hook_skipped hexec hfmt,
    retc_left hexec hfmt, trap_taken hexec hfmt, resume_done hexec hfmt, rgl_issued hexec hfmt, rgs_issued hexec hfmt,
    fun hillegal hcust hstate => ?_⟩
  · exact call_taken hexec hfmt hzero hcode hcond hto hnone hsp
  · exact call_nested hexec hfmt hzero hcode hcond hto hc hdepth hsp
  · exact ⟨completes_trapTaken hexec hfmt hcust hstate (by decide) rfl (if_neg hillegal),
      completes_trapTaken hexec hfmt hcust hstate (by decide) rfl (if_neg hillegal)⟩

end

end Sys2Proof.Machine
end

section
/-!
PROOFS. What a tick, a halt and a failure of customer code leave of an engine and its page (R131, R143, R148, R157).
-/
namespace Sys2Proof.Machine

variable {s t u : State} {e h k v p q cause arg : Nat} {g : Fld}

/-! ### A failure of customer code (R143) -/

theorem latchFrame_eng {ws : List Nat} :
    (latchFrame e ws s).eng e = { s.eng e with frameSeq := ((s.eng e).frameSeq + 1) % 2 ^ 16 } :=
  foldl_kept (P := fun t : State => t.eng e = { s.eng e with frameSeq := ((s.eng e).frameSeq + 1) % 2 ^ 16 }) (fun _ _ ht => ht) (setEng_same ..)

/-- Customer code left after a failure: what entry saved is restored with C set, and its region is disarmed. -/
def custLeft (e cause : Nat) (c : Cust) (s : State) : State :=
  let p := ENG.page e
  let r := restored c (s.eng e).r
  s |> setEng e { s.eng e with r := { r with flags := { r.flags with c := true } }, cust := none, rg := none, arming := false, late := [] }
    |> fset p ENG.PC c.ret.toNat |> fset p ENG.STATUS_CUST_ACTIVE 0 |> fset p ENG.CUST_CTRL_ARM 0
    |> fset p ENG.STATUS_ARMED 0 |> fset p ENG.CUST_STATUS_LAST_FAIL cause |> fault p cause
    |> raise p ENG.iCUST_FAIL |> emitEng e 2 cause c.hook

theorem custFail_of_cust {c : Cust} (hc : (s.eng e).cust = some c) :
    custFail e cause arg s = custLeft e cause c (latchFrame e (frameWords e cause arg s) s) := by
  have hlatched : ((latchFrame e (frameWords e cause arg s) s).eng e).cust = some c := by rw [latchFrame_eng, hc]
  unfold custFail custLeft
  simp only [hlatched, Option.getD_some]

section
variable {c : Cust}

theorem custLeft_eng : ((custLeft e cause c s).eng e).cust = none ∧ ((custLeft e cause c s).eng e).r.flags.c = true ∧
    ((custLeft e cause c s).eng e).r.sp = c.saved.sp := by
  unfold custLeft emitEng fault
  simp only [emit_eng, raise_eng, fset_eng, setEng_same, true_and]
  rfl

theorem fget_custLeft : pcOf e (custLeft e cause c s) = c.ret.toNat ∧ inCust e (custLeft e cause c s) = false ∧
    fget (ENG.page e) ENG.STATUS_ARMED (custLeft e cause c s) = 0 ∧
    fget (ENG.page e) ENG.CUST_STATUS_LAST_FAIL (custLeft e cause c s) = cause % 2 ^ 8 ∧
    fget (ENG.page e) hdrFault (custLeft e cause c s) = cause % 2 ^ 8 := by
  unfold pcOf inCust fon custLeft emitEng fault
  simp (disch := decide) only [fget_emit, fget_raise_place, fget_fset_place, fget_fset_same]
  exact ⟨Nat.mod_eq_of_lt c.ret.isLt, rfl, rfl, rfl, rfl⟩

theorem hasInt_custLeft : hasInt (ENG.page e) ENG.iCUST_FAIL (custLeft e cause c s) :=
  (hasInt_congr (fget_emit ..)).2 (hasInt_raise (by decide))

theorem custLeft_evq : (custLeft e cause c s).evq =
    s.evq ++ [⟨engEvent e 2, srcEng e, srcEng e % 2 ^ 32, cause % 2 ^ 32, c.hook % 2 ^ 32, false⟩] := by
  unfold custLeft emitEng fault
  simp only [emit_evq, raise_evq, fset_evq, setEng_evq]

end

/-! ### A tick overrun (R131) -/

theorem otherPages_pmcAdvance {n : Nat} (hn : n < 64) : otherPages [PMC.page] s (pmcAdvance n k s) := by
  have hpage : PMC.page ∈ [PMC.page] := List.mem_singleton_self _
  have hval : ∀ n < 65, (PMC.VAL.ix n).inPage := by decide
  have hovf : ∀ t, otherPages [PMC.page] s t → otherPages [PMC.page] s (pmcOvf n t) := by
    intro t ht
    have hfld : (if n < 32 then PMC.OVF_LO else PMC.OVF_HI).inPage := by split <;> decide
    exact (ht.fset hpage hfld).raise hpage
  have hone : ∀ y, otherPages [PMC.page] s (fset PMC.page (PMC.VAL.ix n) y s) := fun _ => otherPages.refl.fset hpage (hval n (by omega))
  have hpair : ∀ y z, otherPages [PMC.page] s (s |> fset PMC.page (PMC.VAL.ix n) y |> fset PMC.page (PMC.VAL.ix (n + 1)) z) :=
    fun y _ => (hone y).fset hpage (hval (n + 1) (by omega))
  unfold pmcAdvance
  dsimp only
  exact ite_kept (ite_kept (hpair _ _) (hovf _ (hpair _ _))) (ite_kept (hone _) (hovf _ (hone _)))

/-- The performance counters show on their own page (R587). -/
theorem otherPages_pmc {sel inst : Nat} : otherPages [PMC.page] s (pmc sel inst k s) := by
  unfold pmc
  refine ite_kept .refl (otherPages.refl.foldl fun u n hn => ?_)
  exact ite_kept (otherPages_pmcAdvance (List.mem_range.1 hn)) .refl

theorem fget_eng_pmc {sel inst : Nat} (hg : g.inPage) : fget (ENG.page e) g (pmc sel inst k s) = fget (ENG.page e) g s :=
  otherPages_pmc _ (by simp only [List.mem_singleton, ENG.page, PMC.page]; omega) g hg

theorem hasInt_tickOverrun : hasInt (ENG.page e) ENG.iTICK_OVR (tickOverrun e s) :=
  (hasInt_congr ((fget_emit ..).trans (fget_eng_pmc (by decide)))).2 (hasInt_raise (by decide))

theorem hasSticky_tickOverrun : hasSticky (ENG.page e) ENG.kTICK_OVR (tickOverrun e s) :=
  (hasSticky_congr (((fget_emit ..).trans (fget_eng_pmc (by decide))).trans (fget_raise_place (by decide) (by decide)))).2
    (hasSticky_sticky (by decide))

theorem tickOverrun_eng : (tickOverrun e s).eng e = { s.eng e with events := setBit (s.eng e).events 0 } := by
  have hpmc : ∀ t, (pmc 0x13 (8 + e) 1 t).eng e = t.eng e := fun t => (pmc_kept (m := fun u => u.eng e) (fun _ => rfl) (.refl t)).view
  unfold tickOverrun emitEng sticky
  simp only [emit_eng, hpmc, raise_eng, fset_eng, cnt_eng, setEng_same]

theorem tickOverrun_evq_length : (tickOverrun e s).evq.length = s.evq.length + 1 := by
  have hpmc : ∀ t, (pmc 0x13 (8 + e) 1 t).evq = t.evq := fun t => (pmc_kept (m := State.evq) (fun _ => rfl) (.refl t)).view
  unfold tickOverrun emitEng sticky
  simp only [emit_evq, hpmc, raise_evq, fset_evq, cnt_evq, setEng_evq, List.length_append, List.length_singleton]

/-! ### A halt (R148, R157) -/

/-- The pages that an engine's stop can write: the actuator links, and those of a trip. -/
def haltPages : List Nat := [ACL.page 0, ACL.page 1] ++ (HTX.page 0 :: stopPages 0) ++ (HTX.page 1 :: stopPages 1)

theorem tripPages_subset (hh : h < 2) : HTX.page h :: stopPages h ⊆ haltPages := by
  have hpages : ∀ h < 2, HTX.page h :: stopPages h ⊆ haltPages := by decide
  exact hpages h hh

/-- What follows a stop of an engine writes none of the engines' pages. -/
theorem otherPages_engStopped (he : e < 20) : otherPages haltPages s (engStopped e s) := by
  have hcoil : ∀ e < 20, ∀ c ∈ engCoils e, c < 5 := by decide
  have hfields : ∀ c < 5, (ACL.CMD_SAFE.ix c).inPage ∧ (ACL.CMD_VALUE.ix c).inPage := by decide
  have htrip : ∀ {h t}, h < 2 → otherPages haltPages s t → otherPages haltPages s (tripHead h t) := fun hh ht =>
    ht.trans (otherPages_tripHead.mono (tripPages_subset hh))
  unfold engStopped
  dsimp only
  split
  next he8 =>
    have hacl : ACL.page (headOf e) ∈ haltPages := by
      have hpages : ∀ h < 2, ACL.page h ∈ haltPages := by decide
      exact hpages _ (by unfold headOf; omega)
    have hsafe : otherPages haltPages s ((engCoils e).foldl (fun t c => coilSafe (headOf e) c t) s) :=
      otherPages.refl.foldl fun u c hc =>
        (otherPages.refl.fset hacl (hfields c (hcoil e he c hc)).1).fset hacl (hfields c (hcoil e he c hc)).2
    exact ite_kept (htrip (by unfold headOf; omega) hsafe) hsafe
  next =>
    split
    next hsled =>
      simp only [Bool.or_eq_true, decide_eq_true_eq] at hsled
      exact ite_kept (htrip (by omega) .refl) .refl
    next => exact .refl

theorem engPage_not_mem_haltPages (he : e < 20) : ENG.page e ∉ haltPages := by
  have hpages : ∀ e < 20, ENG.page e ∉ haltPages := by decide
  exact hpages e he

theorem fget_engStopped (he : e < 20) (hg : g.inPage) : fget (ENG.page e) g (engStopped e s) = fget (ENG.page e) g s :=
  otherPages_engStopped he _ (engPage_not_mem_haltPages he) g hg

/-- The engine HALTED, with the state it was halted in. -/
def haltShown (e : Nat) (s : State) : State :=
  s |> setEng e { s.eng e with before := engState e s } |> setEngState e 4 |> raise (ENG.page e) ENG.iHALTED

theorem haltNow_live (hlive : engLive e s = true) : haltNow e s = engStopped e (haltShown e s) := by
  unfold haltNow
  exact if_pos hlive

theorem haltShown_eng : (haltShown e s).eng e = { s.eng e with before := engState e s } :=
  (raise_eng ..).trans (setEng_same ..)

theorem engState_haltShown : engState e (haltShown e s) = 4 :=
  (fget_raise_place (by decide) (by decide)).trans (engState_setEngState (by decide))

theorem fget_haltShown_place (hg : g.inPage) (hstate : g.place ≠ ENG.STATUS_STATE.place) (hint : g.place ≠ hdrIntStatus.place) :
    fget q g (haltShown e s) = fget q g s :=
  (fget_raise_place hg hint).trans (fget_setEngState_place hg hstate)

/-! ### A release (R148) -/

/-- SE8's restart of the spindle writes the spindle's page, and the current references (R221). -/
theorem fget_se8Runs (hg : g.inPage) (hq : q ≠ SPN.page) (hiq : g.place ≠ SPS.IQ_REF.place) (hid : g.place ≠ SPS.ID_REF.place) :
    fget q g (se8Runs s) = fget q g s := by
  have hpage : SPN.page ∈ [SPN.page] := List.mem_singleton_self _
  have hgates : ∀ t, fget q g (gatesOff t) = fget q g t := fun t =>
    ((fget_fset_place hg (by decide) hid).trans (fget_fset_place hg (by decide) hiq)).trans (fget_congr rfl rfl q g)
  have hunlock : ∀ t, otherPages [SPN.page] t (unlockSpin t) := fun t =>
    (((otherPages.refl.fset hpage (by decide)).fset hpage (by decide)).fset hpage (by decide)).fset hpage (by decide)
  have hcount : ∀ t, otherPages [SPN.page] t (cnt SPN.page SPN.START_CNT SPN.kCNT_SAT (spinState 1 (unlockSpin t))) := fun t =>
    ((hunlock t).fset hpage (by decide)).cnt hpage (by decide)
  have hstart : ∀ t, fget q g (startSpin t) = fget q g t := by
    intro t
    unfold startSpin
    refine ite_kept (P := fun u => fget q g u = fget q g t) ?_ rfl
    exact (fget_setSpin ..).trans ((hcount _ q (by simpa using hq) g hg).trans (hgates t))
  unfold se8Runs
  exact ite_kept (P := fun u => fget q g u = fget q g s) (ite_kept (P := fun u => fget q g u = fget q g s) (hstart _) rfl) rfl

/-- What follows an engine's release leaves its own state and its control register (R115, R148, R221). -/
theorem fget_engRuns (he : e < 20) (hg : g.inPage) (hiq : g.place ≠ SPS.IQ_REF.place) (hid : g.place ≠ SPS.ID_REF.place) :
    fget (ENG.page e) g (engRuns e s) = fget (ENG.page e) g s := by
  have hspn : ENG.page e ≠ SPN.page := by unfold ENG.page SPN.page; omega
  have hcoil : ∀ e < 20, ∀ c ∈ engCoils e, (ACL.CMD_SAFE.ix c).inPage := by decide
  have hcoils : otherPages [ACL.page (headOf e)] s ((engCoils e).foldl (fun t c => fset (ACL.page (headOf e)) (ACL.CMD_SAFE.ix c) 0 t) s) :=
    otherPages.refl.foldl fun u c hc => otherPages.refl.fset (List.mem_singleton_self _) (hcoil e he c hc)
  unfold engRuns
  refine ite_kept (P := fun u => fget (ENG.page e) g u = fget (ENG.page e) g s) (fget_se8Runs hg hspn hiq hid) ?_
  exact ite_kept (P := fun u => fget (ENG.page e) g u = fget (ENG.page e) g s)
    (hcoils _ (engPage_ne_acl he _ (by unfold headOf; omega)) g hg) rfl

/-! ### Events that arrive (R130) -/

theorem bit_and_ne_zero {mask b : Nat} (hbit : bit mask b = true) : mask &&& 2 ^ b ≠ 0 := by
  intro hzero
  have htest : (mask &&& 2 ^ b).testBit b = true := by
    rw [Nat.testBit_and, Nat.testBit_two_pow_self, Bool.and_true]
    exact hbit
  rw [hzero, Nat.zero_testBit] at htest
  exact Bool.false_ne_true htest

/-- An event other than the tick that a waiting engine's mask names wakes it. -/
theorem engEvents_wakes {ev : Nat} (hstate : engState e s = 2) (hmask : (s.eng e).mask &&& ev ≠ 0) (htick : bit ev 0 = false) :
    ∃ kept, engEvents e ev s = wake e ((s.eng e).woke ||| ev) (setEng e { s.eng e with cyc := 0, events := kept } s) := by
  refine ⟨(s.eng e).events ||| (ev ^^^ (ev &&& (s.eng e).mask)), ?_⟩
  unfold engEvents
  simp only [htick, hstate, Bool.false_eq_true, if_false]
  exact if_pos hmask

/-- An engine that does not wait keeps an event other than the tick. -/
theorem engEvents_kept_for_wait {ev : Nat} (hstate : engState e s ∈ [1, 3, 4]) (htick : bit ev 0 = false) :
    engEvents e ev s = setEng e { s.eng e with events := (s.eng e).events ||| ev } s := by
  simp only [List.mem_cons, List.not_mem_nil, or_false] at hstate
  have hlive : ¬(decide (engState e s = 0) || decide (engState e s = 5)) = true := by
    simp only [Bool.or_eq_true, decide_eq_true_eq]
    omega
  unfold engEvents
  rw [if_neg hlive]
  simp only [htick, Bool.false_eq_true, if_false, Bool.false_and]
  exact if_neg (by omega)

/-- What an engine woken by an event shows. -/
theorem woken {ev kept : Nat} (hw : t = wake e ((s.eng e).woke ||| ev) (setEng e { s.eng e with cyc := 0, events := kept } s)) :
    engState e t = 1 ∧ pcOf e t = (pcOf e s + 1) % 2 ^ 13 ∧ (t.eng e).woke = (s.eng e).woke ||| ev ∧ (t.eng e).cyc = 0 ∧
    sameBut [.regs, .engs] s t ∧ otherFields (ENG.page e) [ENG.PC, ENG.STATUS_STATE] s t := by
  subst hw
  refine ⟨engState_wake, pcOf_wake, ?_, ?_, ?_, fun q f hf => (otherFields_wake q f hf).trans (fget_setEng ..)⟩
  · rw [wake_eng]
  · rw [wake_eng, setEng_same]
  · exact sameBut_of_kept (wake_kept (fun _ => rfl) (setEng_kept (fun _ => rfl) (.refl s)))

end Sys2Proof.Machine
end

section
/-!
PROOFS. The commands that act on a control engine from outside its program (R130, R131, R139 to R144, R154, R157, R158).
-/
namespace Sys2Proof.Machine

variable {s t : State} {e : Fin 20}

/-! ### Customer code out of budget, and ticks that find no WAIT -/

theorem customerBudgetExhausted_fails (c : Cust) (hcust : inCust e s = true) (hc : (s.eng e).cust = some c) :
    Completes (.customerBudgetExhausted e) s fun t => inCust e t = false ∧
    pcOf e t = c.ret.toNat ∧ fget (ENG.page e) hdrFault t = 0x21 ∧ fget (ENG.page e) ENG.CUST_STATUS_LAST_FAIL t = 0x21 ∧
    fget (ENG.page e) ENG.STATUS_ARMED t = 0 ∧ (t.eng e).cust = none ∧ (t.eng e).r.flags.c = true ∧ (t.eng e).r.sp = c.saved.sp ∧
    hasInt (ENG.page e) ENG.iCUST_FAIL t ∧ t.evq = s.evq ++ [⟨engEvent e 2, srcEng e, srcEng e, 0x21, c.hook % 2 ^ 32, false⟩] ∧
    sameBut [.regs, .evq, .out, .msixPend, .engs] s t := by
  have hrun : exec (.customerBudgetExhausted e) s = .next (custFail e 0x21 0 s) := congrArg Host.Outcome.next (if_pos hcust)
  have hsame : sameBut [.regs, .evq, .out, .msixPend, .engs] s (custFail e 0x21 0 s) :=
    sameBut_of_kept (custFail_kept (fun _ => rfl) (.refl s))
  have hframe : (latchFrame e (frameWords e 0x21 0 s) s).evq = s.evq := (latchFrame_kept (m := State.evq) (fun _ => rfl) (.refl s)).view
  have hsrc : srcEng e % 2 ^ 32 = srcEng e := Nat.mod_eq_of_lt (by unfold srcEng; omega)
  rw [custFail_of_cust hc] at hrun hsame
  obtain ⟨hpc, hleft, harmed, hlast, hfault⟩ := fget_custLeft (e := e) (cause := 0x21) (c := c) (s := latchFrame e (frameWords e 0x21 0 s) s)
  obtain ⟨hnone, hflag, hsp⟩ := custLeft_eng (e := e) (cause := 0x21) (c := c) (s := latchFrame e (frameWords e 0x21 0 s) s)
  refine ⟨_, hrun, hleft, hpc, hfault, hlast, harmed, hnone, hflag, hsp, hasInt_custLeft, ?_, hsame⟩
  rw [custLeft_evq, hframe, hsrc]
  rfl

theorem tickOverrun_told (hlive : engLive e s = true) : Completes (.tickOverrun e) s fun t =>
    hasSticky (ENG.page e) ENG.kTICK_OVR t ∧ hasInt (ENG.page e) ENG.iTICK_OVR t ∧
    t.eng e = { s.eng e with events := setBit (s.eng e).events 0 } ∧ t.evq.length = s.evq.length + 1 ∧
    sameBut [.regs, .evq, .out, .msixPend, .engs] s t := by
  refine ⟨_, congrArg Host.Outcome.next (if_pos hlive), hasSticky_tickOverrun, hasInt_tickOverrun, ?_, ?_, ?_⟩
  · rw [tickOverrun_eng, cnt_eng]
  · rw [tickOverrun_evq_length, cnt_evq]
  · exact sameBut_of_kept (tickOverrun_kept (fun _ => rfl) (cnt_kept (fun _ => rfl) (.refl s)))

/-! ### Halt, release and single step (R148, R157) -/

theorem engineHalt_halts (hrg : (s.eng e).rg = none) (hlive : engLive e s = true) : Completes (.engineHalt e true) s fun t => engState e t = 4 ∧
    (t.eng e) = { s.eng e with before := engState e s } ∧ hasInt (ENG.page e) ENG.iHALTED t ∧ fget (ENG.page e) ENG.CTRL_HALT t = 1 ∧
    sameBut [.regs, .evq, .out, .msixPend, .links, .recs, .engs] s t := by
  let u := fsetB (ENG.page e) ENG.CTRL_HALT true s
  have hstate : engState e u = engState e s := fget_fset_place (by decide) (by decide) (by decide)
  have hliveU : engLive e u = true := by
    unfold engLive at hlive ⊢
    rwa [hstate]
  have hidle : (u.eng e).rg.isNone = true := Option.isNone_iff_eq_none.2 hrg
  have hrun : exec (.engineHalt e true) s = .next (haltNow e u) := congrArg Host.Outcome.next (if_pos hidle)
  have hsame : sameBut [.regs, .evq, .out, .msixPend, .links, .recs, .engs] s (haltNow e u) :=
    sameBut_of_kept (haltNow_kept (fun _ => rfl) (fsetB_kept (fun _ => rfl) (.refl s)))
  rw [haltNow_live hliveU] at hrun hsame
  refine ⟨_, hrun, ?_, ?_, ?_, ?_, hsame⟩
  · exact (fget_engStopped e.isLt (by decide)).trans engState_haltShown
  · refine (engStopped_kept (m := fun u => u.eng e) (fun _ => rfl) (.refl _)).view.trans ?_
    rw [haltShown_eng, hstate]
    rfl
  · exact (hasInt_congr (fget_engStopped e.isLt (by decide))).2 (hasInt_raise (by decide))
  · rw [fget_engStopped e.isLt (by decide), fget_haltShown_place (by decide) (by decide) (by decide)]
    exact fget_fsetB_same _ _ _ _ (by decide)

/-- A halt asked for while a register access is out waits for it (R157). -/
theorem engineHalt_waits (hrg : (s.eng e).rg ≠ none) : Completes (.engineHalt e true) s fun t => fget (ENG.page e) ENG.CTRL_HALT t = 1 ∧
    sameBut [.regs] s t ∧ otherFields (ENG.page e) [ENG.CTRL_HALT] s t := by
  have hbusy : ¬((fsetB (ENG.page e) ENG.CTRL_HALT true s).eng e).rg.isNone = true := fun h => hrg (Option.isNone_iff_eq_none.1 h)
  exact ⟨_, congrArg Host.Outcome.next (if_neg hbusy), fget_fsetB_same _ _ _ _ (by decide), rfl, otherFields_fset _ _ _ s⟩

theorem engineHalt_releases (hstate : engState e s = 4) (hbefore : (s.eng e).before < 8) (hwait : (s.eng e).before ≠ 2) :
    Completes (.engineHalt e false) s fun t => engState e t = (s.eng e).before ∧
    fget (ENG.page e) ENG.CTRL_HALT t = 0 ∧ sameBut [.regs, .evq, .out, .msixPend, .links, .recs, .engs, .spin] s t := by
  let u := fsetB (ENG.page e) ENG.CTRL_HALT false s
  have hhalted : engState e u = 4 := (fget_fset_place (by decide) (by decide) (by decide)).trans hstate
  have hrun : exec (.engineHalt e false) s = .next (engRuns e (setEngState e (s.eng e).before u)) := by
    change execEngineHalt e false s = _
    unfold execEngineHalt
    dsimp only
    rw [if_neg Bool.false_ne_true, if_pos hhalted]
    refine congrArg Host.Outcome.next (if_neg ?_)
    simp only [Bool.and_eq_true, decide_eq_true_eq]
    exact fun h => hwait h.1
  refine ⟨_, hrun, ?_, ?_, sameBut_of (execEngineHalt_kept (a0 := e) (a1 := false) (fun _ => rfl) (.refl s)) hrun⟩
  · exact (fget_engRuns e.isLt (by decide) (by decide) (by decide)).trans (engState_setEngState hbefore)
  · rw [fget_engRuns e.isLt (by decide) (by decide) (by decide), fget_setEngState_place (by decide) (by decide)]
    exact fget_fsetB_same _ _ _ _ (by decide)

/-- What a single step leaves: the engine halted again in the state its word has left, or FAULTED. -/
def stepped (e : Nat) (s : State) : State :=
  if engState e s = 5 then s else setEngState e 4 (setEng e { s.eng e with before := engState e s } s)

theorem exec_engineStep (hstate : engState e s = 4) (hbefore : (s.eng e).before = 1 ∨ (s.eng e).before = 3) (hrg : (s.eng e).rg = none) :
    exec (.engineStep e) s = .next (stepped e (runFetched e (setEngState e (s.eng e).before s))) :=
  if_pos (by simp [hstate, hbefore, hrg])

theorem engState_stepped {u : State} : engState e (stepped e u) = 4 ∨ engState e (stepped e u) = 5 := by
  unfold stepped
  split
  next h => exact .inr h
  next => exact .inl (engState_setEngState (by decide))

theorem engineStep_halts (hstate : engState e s = 4) (hbefore : (s.eng e).before = 1 ∨ (s.eng e).before = 3) (hrg : (s.eng e).rg = none) :
    Completes (.engineStep e) s fun t => engState e t = 4 ∨ engState e t = 5 :=
  ⟨_, exec_engineStep hstate hbefore hrg, engState_stepped⟩

/-- A word of all zeros is NOP (R128). -/
theorem runFetched_nop (hruns : wordRuns e s) (hword : fetchWord e s = 0) :
    runFetched e s = spend e 1 [] [] (fset (ENG.page e) ENG.PC ((pcOf e s + 1) % 2 ^ 13) s) := by
  have hnop : execNop e 0 s = .next (spend e 1 [] [] (fset (ENG.page e) ENG.PC ((pcOf e s + 1) % 2 ^ 13) s)) :=
    vertical_advance hruns rfl rfl (if_pos rfl)
  obtain ⟨-, hfmt, -⟩ := hruns
  unfold runFetched
  dsimp only
  rw [hword, if_neg (by simp [hfmt])]
  show resState (execNop e 0 s) s = _
  rw [hnop]
  rfl

theorem stepped_of_running {u : State} (hrunning : engState e u = 1) :
    stepped e u = setEngState e 4 (setEng e { u.eng e with before := 1 } u) := by
  unfold stepped
  rw [hrunning]
  exact if_neg (by decide)

/-- An engine of vendor code that is made to run has a word to run. -/
theorem wordRuns_setEngState (hrg : (s.eng e).rg = none) (hfmt : fon (ENG.page e) ENG.STATUS_UFMT s = false) (hcust : inCust e s = false) :
    wordRuns e (setEngState e 1 s) := by
  have hexec : executing e (setEngState e 1 s) = true := by
    unfold executing
    rw [engState_setEngState (by decide), show ((setEngState e 1 s).eng e).rg = none from hrg]
    rfl
  exact ⟨hexec, (fon_congr (fget_setEngState_place (by decide) (by decide))).trans hfmt,
    .inl ((fon_congr (fget_setEngState_place (by decide) (by decide))).trans hcust)⟩

theorem engineStep_nop (hstate : engState e s = 4) (hbefore : (s.eng e).before = 1) (hrg : (s.eng e).rg = none)
    (hfmt : fon (ENG.page e) ENG.STATUS_UFMT s = false) (hcust : inCust e s = false) (hword : fetchWord e s = 0) :
    Completes (.engineStep e) s fun t => engState e t = 4 ∧ pcOf e t = (pcOf e s + 1) % 2 ^ 13 ∧
      (t.eng e).r = (s.eng e).r ∧ (t.eng e).before = 1 ∧ sameBut [.regs, .engs] s t := by
  have hpc : pcOf e (setEngState e 1 s) = pcOf e s := fget_setEngState_place (by decide) (by decide)
  have hfetch : fetchWord e (setEngState e 1 s) = 0 := by
    unfold fetchWord at hword ⊢
    rwa [hpc]
  let v := spend e 1 [] [] (fset (ENG.page e) ENG.PC ((pcOf e s + 1) % 2 ^ 13) (setEngState e 1 s))
  have hv : engState e v = 1 := (engState_spend.trans engState_fset_pc).trans (engState_setEngState (by decide))
  have hrun := exec_engineStep hstate (.inl hbefore) hrg
  rw [hbefore, runFetched_nop (wordRuns_setEngState hrg hfmt hcust) hfetch, hpc, stepped_of_running hv] at hrun
  have heng : (setEngState e 4 (setEng e { v.eng e with before := 1 } v)).eng e = { v.eng e with before := 1 } := setEng_same ..
  refine ⟨_, hrun, engState_setEngState (by decide), ?_, ?_, ?_, ?_⟩
  · exact (fget_setEngState_place (by decide) (by decide)).trans pcOf_fset_next
  · rw [heng, show v.eng e = _ from spend_eng]
    rfl
  · rw [heng]
  · exact sameBut_of_kept (setEngState_kept (fun _ => rfl) (setEng_kept (fun _ => rfl)
      (spend_kept (fun _ => rfl) (fset_kept (fun _ => rfl) (setEngState_kept (fun _ => rfl) (.refl s))))))

/-! ### Events (R130) -/

theorem doorbell_wakes (hstate : engState e s = 2) (hmask : bit (s.eng e).mask 4 = true) : Completes (.doorbell e) s fun t =>
    engState e t = 1 ∧ pcOf e t = (pcOf e s + 1) % 2 ^ 13 ∧
    (t.eng e).woke = (s.eng e).woke ||| 0x10 ∧ sameBut [.regs, .engs] s t ∧ otherFields (ENG.page e) [ENG.PC, ENG.STATUS_STATE] s t := by
  obtain ⟨kept, hkept⟩ := engEvents_wakes hstate (bit_and_ne_zero hmask) (by decide)
  obtain ⟨hrunning, hpc, hwoke, -, hsame, hfields⟩ := woken hkept
  exact ⟨_, rfl, hrunning, hpc, hwoke, hsame, hfields⟩

theorem doorbell_kept (hstate : engState e s ∈ [1, 3, 4]) : Completes (.doorbell e) s fun t =>
    t.eng e = { s.eng e with events := (s.eng e).events ||| 0x10 } ∧ sameBut [.engs] s t :=
  ⟨_, congrArg Host.Outcome.next (engEvents_kept_for_wait hstate (by decide)), setEng_same .., rfl⟩

theorem engineWake_wakes (ev : BitVec 6) (hstate : engState e s = 2) (hmask : (s.eng e).mask &&& ev.toNat ≠ 0) (htick : ev.getLsbD 0 = false) :
    Completes (.engineWake e ev) s fun t =>
    engState e t = 1 ∧ pcOf e t = (pcOf e s + 1) % 2 ^ 13 ∧ (t.eng e).woke = (s.eng e).woke ||| ev.toNat ∧ (t.eng e).cyc = 0 ∧
    sameBut [.regs, .engs] s t ∧ otherFields (ENG.page e) [ENG.PC, ENG.STATUS_STATE] s t := by
  obtain ⟨kept, hkept⟩ := engEvents_wakes hstate hmask htick
  have hrun : exec (.engineWake e ev) s = .next (engEvents e ev.toNat s) := by
    refine congrArg Host.Outcome.next (if_neg ?_)
    rw [htick, Bool.and_false]
    exact Bool.false_ne_true
  exact ⟨_, hrun, woken hkept⟩

/-! ### Counters and data memory (R157, R158) -/

theorem otherFields_fclr (p : Nat) (f : Fld) (s : State) : otherFields p [f] s (fclr p f s) :=
  fun _ _ h => fget_fclr_other s (by simpa using h)

theorem fget_fclr_place {p q : Nat} {f g : Fld} (hg : g.inPage) (hf : f.inPage) (hne : g.place ≠ f.place) :
    fget q g (fclr p f s) = fget q g s := by
  refine fget_fclr_other s ?_
  unfold Fld.place at hne
  unfold Fld.key
  omega

theorem cntClr_clears : Completes (.cntClr e) s fun t =>
    fget (ENG.page e) ENG.TICK_CNT t = 0 ∧ fget (ENG.page e) ENG.OVR_CNT t = 0 ∧ fget (ENG.page e) ENG.TRAP_CNT t = 0 ∧
    sameBut [.regs] s t ∧ otherFields (ENG.page e) [ENG.TICK_CNT, ENG.OVR_CNT, ENG.TRAP_CNT] s t := by
  refine ⟨_, rfl, ?_, ?_, ?_, rfl, ?_⟩
  · exact ((fget_fclr_place (by decide) (by decide) (by decide)).trans (fget_fclr_place (by decide) (by decide) (by decide))).trans
      ((fget_fclr_same ..).trans (Fld.reset_of_val _ _ rfl (by decide)))
  · exact (fget_fclr_place (by decide) (by decide) (by decide)).trans ((fget_fclr_same ..).trans (Fld.reset_of_val _ _ rfl (by decide)))
  · exact (fget_fclr_same ..).trans (Fld.reset_of_val _ _ rfl (by decide))
  · exact (((otherFields_fclr _ ENG.TICK_CNT s).trans (otherFields_fclr _ ENG.OVR_CNT _) (hs := [ENG.TICK_CNT, ENG.OVR_CNT]) (by simp) (by simp)).trans
      (otherFields_fclr _ ENG.TRAP_CNT _) (by simp) (by simp))

/-- DM_ADDR after an access at `a`, by AUTO_INC (R157). -/
def addrMoved (e a : Nat) (s : State) : State :=
  if fon (ENG.page e) ENG.DM_ADDR_AUTO_INC s then fset (ENG.page e) ENG.DM_ADDR_ADDR (a + 1) s else s

theorem otherFields_addrMoved {e a : Nat} : otherFields (ENG.page e) [ENG.DM_ADDR_ADDR] s (addrMoved e a s) := by
  unfold addrMoved
  exact ite_kept (otherFields_fset _ _ _ s) (otherFields.refl _ _ _)

theorem addrMoved_kept {α : Type} {m : State → α} (hm : ∀ u, m u = m { u with regs := [] }) {e a : Nat} (h : Kept m s t) :
    Kept m s (addrMoved e a t) := by
  unfold addrMoved
  exact ite_kept (fset_kept (sub hm) h) h

theorem dmDataAccess_reads (req a : Nat) (ha : a = fget (ENG.page e) ENG.DM_ADDR_ADDR s) : Completes (.dmDataAccess e req none) s fun t =>
    t.out = s.out ++ [.readData req (dmGet e a s)] ∧
    fget (ENG.page e) ENG.DM_ADDR_ADDR t = (if fon (ENG.page e) ENG.DM_ADDR_AUTO_INC s then (a + 1) % 2 ^ 12 else a) ∧
    sameBut [.regs, .out] s t ∧ otherFields (ENG.page e) [ENG.DM_ADDR_ADDR] s t := by
  subst ha
  let u := send (.readData req (dmGet e (fget (ENG.page e) ENG.DM_ADDR_ADDR s) s)) s
  have hrun : exec (.dmDataAccess e req none) s = .next (addrMoved e (fget (ENG.page e) ENG.DM_ADDR_ADDR s) u) := rfl
  refine ⟨_, hrun, (addrMoved_kept (m := State.out) (fun _ => rfl) (.refl u)).view, ?_, ?_, fun q f hf => otherFields_addrMoved q f hf⟩
  · have hauto : fon (ENG.page e) ENG.DM_ADDR_AUTO_INC u = fon (ENG.page e) ENG.DM_ADDR_AUTO_INC s := rfl
    unfold addrMoved
    rw [hauto]
    split
    · exact fget_fset_same ..
    · rfl
  · exact sameBut_of_kept (addrMoved_kept (fun _ => rfl) (send_kept (fun _ => rfl) (.refl s)))

theorem dmDataAccess_writes (req : Nat) (v : BitVec 32) (a : Nat) (ha : a = fget (ENG.page e) ENG.DM_ADDR_ADDR s) :
    Completes (.dmDataAccess e req (some v)) s fun t => dmGet e a t = v.toNat ∧
    (∀ k, k ≠ 4096 * e.val + a % 4096 → t.dmem.get k 0 = s.dmem.get k 0) ∧ sameBut [.regs, .dmem] s t ∧
    otherFields (ENG.page e) [ENG.DM_ADDR_ADDR] s t := by
  subst ha
  let u := dmPut e (fget (ENG.page e) ENG.DM_ADDR_ADDR s) v.toNat s
  have hrun : exec (.dmDataAccess e req (some v)) s = .next (addrMoved e (fget (ENG.page e) ENG.DM_ADDR_ADDR s) u) := rfl
  have hdmem : (addrMoved e (fget (ENG.page e) ENG.DM_ADDR_ADDR s) u).dmem = u.dmem := (addrMoved_kept (m := State.dmem) (fun _ => rfl) (.refl u)).view
  refine ⟨_, hrun, ?_, fun k hk => ?_, ?_, fun q f hf => (otherFields_addrMoved q f hf).trans (fget_dmPut ..)⟩
  · unfold dmGet
    rw [hdmem]
    exact dmGet_dmPut_same.trans (Nat.mod_eq_of_lt v.isLt)
  · rw [hdmem]
    exact Store.get_put_other _ _ _ _ _ _ hk
  · exact sameBut_of_kept (addrMoved_kept (fun _ => rfl) (dmPut_kept (fun _ => rfl) (.refl s)))

/-! ### The customer region (R139 to R141) -/

theorem customerRegionWrite_stores (word : Fin 1024) (v : BitVec 32) (hlock : fon (ENG.page e) ENG.STATUS_LOCKED s = true)
    (harm : fon (ENG.page e) ENG.CUST_CTRL_ARM s = false) (hcust : inCust e s = false) :
    Completes (.customerRegionWrite e word v) s fun t => t.ustore.get (8192 * e.val + 0x1C00 + word.val) 0 = v.toNat ∧
      (∀ k, k ≠ 8192 * e.val + 0x1C00 + word.val → t.ustore.get k 0 = s.ustore.get k 0) ∧ sameBut [.ustore] s t := by
  have hrun : exec (.customerRegionWrite e word v) s = .next (putMicro e (0x1C00 + word) v.toNat s) :=
    congrArg Host.Outcome.next ((if_pos hlock).trans (if_neg (by simp [harm, hcust])))
  rw [Nat.add_assoc]
  refine ⟨_, hrun, ?_, fun k hk => Store.get_put_other _ _ _ _ _ _ hk, rfl⟩
  exact (Store.get_put_same _ _ _ _).trans (Nat.mod_eq_of_lt v.isLt)

theorem customerRegionWrite_refused (word : Fin 1024) (v : BitVec 32) (hlock : fon (ENG.page e) ENG.STATUS_LOCKED s = true)
    (hbusy : fon (ENG.page e) ENG.CUST_CTRL_ARM s = true ∨ inCust e s = true) :
    Completes (.customerRegionWrite e word v) s fun t => hasSticky (ENG.page e) ENG.kCUST_WR t ∧
      hasInt (ENG.page e) ENG.iCUST_WR t ∧ sameBut [.regs, .out, .msixPend] s t := by
  have hrun : exec (.customerRegionWrite e word v) s = .next (raise (ENG.page e) ENG.iCUST_WR (sticky (ENG.page e) ENG.kCUST_WR s)) :=
    congrArg Host.Outcome.next ((if_pos hlock).trans (if_pos (by simpa using hbusy)))
  refine ⟨_, hrun, ?_, hasInt_raise (by decide), ?_⟩
  · exact (hasSticky_congr (fget_raise_place (by decide) (by decide))).2 (hasSticky_sticky (by decide))
  · exact sameBut_of_kept (raise_kept (fun _ => rfl) (sticky_kept (fun _ => rfl) (.refl s)))

theorem custArm_arms (harm : fon (ENG.page e) ENG.CUST_CTRL_ARM s = false) : Completes (.custArm e true) s fun t =>
    fget (ENG.page e) ENG.CUST_CTRL_ARM t = 1 ∧
    t.eng e = { s.eng e with arming := true } ∧ sameBut [.regs, .engs] s t ∧ otherFields (ENG.page e) [ENG.CUST_CTRL_ARM] s t := by
  let u := fsetB (ENG.page e) ENG.CUST_CTRL_ARM true s
  have hrun : exec (.custArm e true) s = .next (setEng e { u.eng e with arming := true } u) := by
    refine congrArg Host.Outcome.next ?_
    unfold custArm
    dsimp only
    rw [if_pos rfl, if_neg (by simp [harm])]
  have hfields : otherFields (ENG.page e) [ENG.CUST_CTRL_ARM] s u := otherFields_fset _ _ _ s
  refine ⟨_, hrun, ?_, setEng_same .., ?_, fun q f hf => (fget_setEng ..).trans (hfields q f hf)⟩
  · exact (fget_setEng ..).trans (fget_fsetB_same _ _ _ _ (by decide))
  · exact sameBut_of_kept (setEng_kept (fun _ => rfl) (fsetB_kept (fun _ => rfl) (.refl s)))

theorem custArm_disarms : Completes (.custArm e false) s fun t =>
    fget (ENG.page e) ENG.CUST_CTRL_ARM t = 0 ∧ fget (ENG.page e) ENG.STATUS_ARMED t = 0 ∧
    t.eng e = { s.eng e with arming := false } ∧ sameBut [.regs, .engs] s t ∧
    otherFields (ENG.page e) [ENG.CUST_CTRL_ARM, ENG.STATUS_ARMED] s t := by
  let u := fsetB (ENG.page e) ENG.CUST_CTRL_ARM false s
  have hrun : exec (.custArm e false) s = .next (fset (ENG.page e) ENG.STATUS_ARMED 0 (setEng e { u.eng e with arming := false } u)) := rfl
  refine ⟨_, hrun, ?_, fget_fset_same .., (fset_eng ..).trans (setEng_same ..), ?_, ?_⟩
  · exact ((fget_fset_place (by decide) (by decide) (by decide)).trans (fget_setEng ..)).trans (fget_fsetB_same _ _ _ _ (by decide))
  · exact sameBut_of_kept (fset_kept (fun _ => rfl) (setEng_kept (fun _ => rfl) (fsetB_kept (fun _ => rfl) (.refl s))))
  · have harm : otherFields (ENG.page e) [ENG.CUST_CTRL_ARM] s (setEng e { u.eng e with arming := false } u) := fun q f hf =>
      (fget_setEng ..).trans (otherFields_fset _ ENG.CUST_CTRL_ARM _ s q f hf)
    exact harm.trans (otherFields_fset _ ENG.STATUS_ARMED _ _) (by simp) (by simp)

/-- The customer region armed, with the CRC of its words shown (R141). -/
def regionArmed (e crc : Nat) (s : State) : State :=
  s |> setEng e { s.eng e with arming := false } |> fset (ENG.page e) ENG.CUST_CRC crc |> fset (ENG.page e) ENG.STATUS_ARMED 1

section
variable {e crc : Nat}

theorem fget_armed_regionArmed : fget (ENG.page e) ENG.STATUS_ARMED (regionArmed e crc s) = 1 := fget_fset_same ..

theorem fget_crc_regionArmed : fget (ENG.page e) ENG.CUST_CRC (regionArmed e crc s) = crc % 2 ^ 32 :=
  (fget_fset_place (by decide) (by decide) (by decide)).trans (fget_fset_same ..)

theorem regionArmed_eng : (regionArmed e crc s).eng e = { s.eng e with arming := false } := setEng_same ..

theorem otherFields_regionArmed : otherFields (ENG.page e) [ENG.CUST_CRC, ENG.STATUS_ARMED] s (regionArmed e crc s) :=
  (otherFields_fset _ ENG.CUST_CRC _ (setEng _ _ s)).trans (otherFields_fset _ ENG.STATUS_ARMED _ _) (by simp) (by simp)

theorem regionArmed_kept {α : Type} {m : State → α} (hm : ∀ u, m u = m { u with regs := [], engs := [] }) : Kept m s (regionArmed e crc s) :=
  fset_kept (sub hm) (fset_kept (sub hm) (setEng_kept (sub hm) (.refl s)))

end

/-- The region's arming told by its event, and measured. -/
def armingTold (e crc hooks : Nat) (hash : List Nat) (s : State) : State :=
  measure 0x06 (srcEng e) hash (emitEng e 6 crc hooks (regionArmed e crc s))

/-- What arming tells and measures leaves the registers and the engine as the region's arming has left them. -/
theorem armingTold_shows {e crc hooks : Nat} {hash : List Nat} : fget (ENG.page e) ENG.STATUS_ARMED (armingTold e crc hooks hash s) = 1 ∧
    fget (ENG.page e) ENG.CUST_CRC (armingTold e crc hooks hash s) = crc % 2 ^ 32 ∧
    (armingTold e crc hooks hash s).eng e = { s.eng e with arming := false } ∧
    sameBut [.regs, .evq, .engs, .vault] s (armingTold e crc hooks hash s) ∧
    otherFields (ENG.page e) [ENG.CUST_CRC, ENG.STATUS_ARMED] s (armingTold e crc hooks hash s) := by
  have hfget : ∀ q f, fget q f (armingTold e crc hooks hash s) = fget q f (regionArmed e crc s) := fun q f =>
    ((measure_kept (m := fun u => fget q f u) (fun _ => rfl) (.refl _)).view).trans (fget_emit ..)
  have heng : (armingTold e crc hooks hash s).eng e = (regionArmed e crc s).eng e :=
    (measure_kept (m := fun u => u.eng e) (fun _ => rfl) (.refl _)).view
  refine ⟨(hfget ..).trans fget_armed_regionArmed, (hfget ..).trans fget_crc_regionArmed, heng.trans regionArmed_eng, ?_,
    fun q f hf => (hfget q f).trans (otherFields_regionArmed q f hf)⟩
  exact sameBut_of_kept (measure_kept (fun _ => rfl) (emitEng_kept (fun _ => rfl) (regionArmed_kept fun _ => rfl)))

theorem exec_custArmed (harming : (s.eng e).arming = true) : exec (.custArmed e) s =
    .next (armingTold e (crc32c (custBytes e s)) (fget (ENG.page e) ENG.CUST_HOOKS_EN s) (sha3 (custBytes e s)) s) := by
  change execCustArmed e s = _
  unfold execCustArmed armingTold regionArmed
  dsimp only
  rw [if_pos harming]

theorem custArmed_arms (harming : (s.eng e).arming = true) : Completes (.custArmed e) s fun t => fget (ENG.page e) ENG.STATUS_ARMED t = 1 ∧
    fget (ENG.page e) ENG.CUST_CRC t = crc32c (custBytes e s) % 2 ^ 32 ∧ t.eng e = { s.eng e with arming := false } ∧
    sameBut [.regs, .evq, .engs, .vault] s t ∧ otherFields (ENG.page e) [ENG.CUST_CRC, ENG.STATUS_ARMED] s t :=
  ⟨_, exec_custArmed harming, armingTold_shows⟩

/-! ### The plausibility monitor (R154) -/

theorem plausRearm_reseeds : Completes (.plausRearm e) s fun t => fget (ENG.page e) ENG.STATUS_PF t = 0 ∧
    t.eng e = { s.eng e with seeded := false, exceed := 0 } ∧
    sameBut [.regs, .engs] s t ∧ otherFields (ENG.page e) [ENG.STATUS_PF] s t := by
  refine ⟨rearm e s, rfl, (fget_setEng ..).trans (fget_fset_same ..), setEng_same .., ?_,
    fun q f hf => (fget_setEng ..).trans (otherFields_fset _ ENG.STATUS_PF _ s q f hf)⟩
  exact sameBut_of_kept (rearm_kept (fun _ => rfl) (.refl s))

/-- Settles O19: each command by the rule of what it does to the engine, in the order of the statement. -/
theorem enginesFromOutside : Obligations.EnginesFromOutside := fun _ _ =>
  ⟨customerBudgetExhausted_fails, tickOverrun_told, engineHalt_halts, engineHalt_waits, engineHalt_releases, engineStep_nop, engineStep_halts,
    doorbell_wakes, doorbell_kept, engineWake_wakes, cntClr_clears, dmDataAccess_reads, dmDataAccess_writes, customerRegionWrite_stores,
    customerRegionWrite_refused, custArm_arms, custArm_disarms, custArmed_arms, plausRearm_reseeds⟩

end Sys2Proof.Machine
end

section
/-!
PROOFS. A focus sweep and its velocity (R165, R189). A state holds a register field as a number that need not fit the field, where what a
command writes does (R605): of SWEEP_VEL at 2^64 the two halves of the lens channel's velocity limit take nothing, so the clause that the
lens moves wherever SWEEP_VEL is not 0 fails in such a state.
-/
namespace Sys2Proof.Machine

variable {s : State} {q e h c v : Nat} {g : Fld} {head : Head}

/-! ### What a capture's start leaves of the registers -/

@[simp] theorem fget_setPort {x : BitVec 32} : fget q g (setPort e c x s) = fget q g s := rfl

@[simp] theorem fget_showLoop : fget q g (showLoop e s) = fget q g s := rfl

theorem fget_loopState (hstate : g.key q ≠ LOOP.LOOP_STATUS_STATE.key (LOOP.page e))
    (hxff : g.key q ≠ LOOP.LOOP_STATUS_XFF_VALID.key (LOOP.page (4 - e))) : fget q g (loopState e v s) = fget q g s := by
  unfold loopState
  dsimp only
  split
  · exact (fget_fset_other _ _ hxff).trans (fget_fset_other _ _ hstate)
  · exact fget_fset_other _ _ hstate

theorem fget_mcState (hL : g.key q ≠ MC.MC_STATUS_STATE_L.key MC.page) (hU : g.key q ≠ MC.MC_STATUS_STATE_U.key MC.page) :
    fget q g (mcState h v s) = fget q g s := by
  unfold mcState
  split
  · exact fget_fset_other _ _ hL
  · exact fget_fset_other _ _ hU

/-- A loop's coil command writes OUT_LAST and the actuator link's page. -/
theorem fget_loopOut {u : Int} (hg : g.inPage) (hq : q ≠ ACL.page (headOf e)) (hkey : g.key q ≠ LOOP.OUT_LAST.key (LOOP.page e)) :
    fget q g (loopOut e u s) = fget q g s := by
  have hcoil : loopCoil e < 5 := by unfold loopCoil; omega
  unfold loopOut
  dsimp only
  rw [otherPages_coilCommand hcoil q (by simpa using hq) g hg, fget_setPort]
  exact fget_fset_other _ _ hkey

/-- Focus capture started but for its sweep (R165 step 1). -/
def focusStarted (h : Nat) (s : State) : State :=
  let e := 4 * h
  s |> setLoop e { s.loop e with ramp := none, last := 0, since := 0, settleRun := 0, lossRun := 0 }
    |> loopState e 1 |> fset (LOOP.page e) LOOP.LOOP_STATUS_SETTLED 0 |> fset (FOC.page h) FOC.LAYERS_SEEN 0
    |> loopOut e (fgetI (FOC.page h) FOC.RETRACT_POS s * 2 ^ 16) |> setHead h { s.head h with recapture := false } |> mcState h 1

theorem startFocus_eq : startFocus h s = showLoop (4 * h) (sweep h (focusStarted h s)) := rfl

/-- The registers that a capture's start writes outside the actuator link's page. -/
def focusKeys (h : Nat) : List Nat :=
  [LOOP.LOOP_STATUS_STATE.key (LOOP.page (4 * h)), LOOP.LOOP_STATUS_XFF_VALID.key (LOOP.page (4 - 4 * h)),
    LOOP.LOOP_STATUS_SETTLED.key (LOOP.page (4 * h)), FOC.LAYERS_SEEN.key (FOC.page h), LOOP.OUT_LAST.key (LOOP.page (4 * h)),
    MC.MC_STATUS_STATE_L.key MC.page, MC.MC_STATUS_STATE_U.key MC.page]

theorem fget_focusStarted (hg : g.inPage) (hacl : q ≠ ACL.page h) (hkey : g.key q ∉ focusKeys h) :
    fget q g (focusStarted h s) = fget q g s := by
  have hhead : headOf (4 * h) = h := by unfold headOf; omega
  simp only [focusKeys, List.mem_cons, List.not_mem_nil, or_false, not_or] at hkey
  obtain ⟨hstate, hxff, hsettled, hlayers, hout, hL, hU⟩ := hkey
  unfold focusStarted
  dsimp only
  rw [fget_mcState hL hU, fget_setHead, fget_loopOut hg (by rwa [hhead]) hout, fget_fset_other _ _ hlayers, fget_fset_other _ _ hsettled,
    fget_loopState hstate hxff, fget_setLoop]

/-! ### A move without a velocity -/

theorem pgMoving_of_rest (hrest : pgState c s = 0) : pgMoving c s = false := by
  unfold pgMoving
  rw [hrest]
  rfl

/-- A velocity limit of 0 discards a GO in limit mode (R149). -/
theorem pgGo_discarded (hrest : pgState c s = 0) (hmode : fget MOT.page (MOT.PG_CTRL_MODE.ix c) s = 0) (hv : (pgPageLimits c s).1 = 0) :
    pgGo c s = sticky MOT.page (MOT.kZERO_LIM + c) s := by
  unfold pgGo
  simp [pgMoving_of_rest hrest, fon, hmode, hv]

/-- A lens at rest with a velocity limit of 0 stays at rest whatever its target. -/
theorem pgState_moveTo_discarded {x : Rat} (hrest : pgState (lensCh head.n) s = 0) (hv : (pgPageLimits (lensCh head.n) s).1 = 0) :
    pgState (lensCh head.n) (moveTo (lensCh head.n) x s) = 0 := by
  have hmode : pgState (lensCh head.n) (fset MOT.page (MOT.PG_CTRL_MODE.ix (lensCh head.n)) 0 s) = 0 := by
    rw [← hrest]
    cases head <;> exact fget_fset_other _ _ (by decide)
  unfold moveTo pgSetTarget
  rw [pgMoving_of_rest hmode, if_neg Bool.false_ne_true, pgGo_discarded]
  · rw [← hmode]
    cases head <;> simp (disch := decide) only [pgState, sticky, fget_fset_other]
  · rw [← hmode]
    cases head <;> simp (disch := decide) only [pgState, fget_fset_other]
  · cases head <;> simp (disch := decide) only [fget_fset_other, fget_fset_same] <;> rfl
  · rw [← hv]
    cases head <;> simp (disch := decide) only [pgPageLimits, fget64, fget_fset_other]

/-- A sweep at a multiple of 2^64 leaves a lens at rest. -/
theorem pgState_sweep_discarded (hrest : pgState (lensCh head.n) s = 0) (hvel : fget (FOC.page head.n) FOC.SWEEP_VEL s % 2 ^ 64 = 0) :
    pgState (lensCh head.n) (sweep head.n s) = 0 := by
  refine pgState_moveTo_discarded ?_ ?_
  · rw [← hrest]
    cases head <;> simp (disch := decide) only [pgState, fset64, resetLimits, fclrs, List.foldl, fget_fset_other, fget_fclr_other]
  · have hhalves : ∀ {w : Nat}, w % 2 ^ 64 = 0 → trunc 32 (w % 2 ^ 32) + 2 ^ 32 * trunc 32 (w / 2 ^ 32) = 0 := fun hw => by
      simp only [trunc]
      omega
    rw [← hhalves hvel]
    cases head <;> simp (disch := decide) only [pgPageLimits, fget64, fset64, fget_fset_other, fget_fset_same] <;> rfl

/-- Focus capture asked for: the first sweep, and the capture's start (R165). -/
def focusAsked (h : Nat) (s : State) : State := startFocus h (setHead h { s.head h with sweeps := 1 } s)

theorem exec_focusAcquire (hen : fon (LOOP.page (4 * head.n)) LOOP.LOOP_CTRL_EN s = true) :
    exec (.focusAcquire head) s = .next (focusAsked head.n s) := by
  change execFocusAcquire head s = _
  unfold execFocusAcquire
  exact if_pos hen

/-- Focus acquisition leaves a lens at rest where SWEEP_VEL is a multiple of 2^64. -/
theorem pgMoving_focusAsked (hrest : pgState (lensCh head.n) s = 0) (hvel : fget (FOC.page head.n) FOC.SWEEP_VEL s % 2 ^ 64 = 0) :
    pgMoving (lensCh head.n) (focusAsked head.n s) = false := by
  unfold focusAsked
  rw [startFocus_eq]
  refine pgMoving_of_rest ?_
  rw [pgState, fget_showLoop, ← pgState]
  refine pgState_sweep_discarded ?_ ?_
  · rw [← hrest]
    cases head <;> exact fget_focusStarted (by decide) (by decide) (by decide)
  · rw [← hvel]
    cases head <;> exact congrArg (· % 2 ^ 64) (fget_focusStarted (by decide) (by decide) (by decide))

/-- Head L's focus loop enabled, its lens at rest, and SWEEP_VEL at 2^64. -/
def overwideSweep : State := { regs := [(LOOP.LOOP_CTRL_EN.key (LOOP.page 0), 1), (FOC.SWEEP_VEL.key (FOC.page 0), 2 ^ 64)] }

/-- Refutes O22: in a state that holds 2^64 for SWEEP_VEL, which is not 0, focus acquisition leaves the lens at rest. -/
theorem not_focusTrackingAndMotion : ¬ Obligations.FocusTrackingAndMotion := by
  intro h
  have hrest : pgState (lensCh 0) overwideSweep = 0 := by decide
  have hvel : fget (FOC.page 0) FOC.SWEEP_VEL overwideSweep = 2 ^ 64 := by decide
  have hen : fon (LOOP.page 0) LOOP.LOOP_CTRL_EN overwideSweep = true := by decide
  obtain ⟨-, hacquire, -⟩ := h overwideSweep .L
  obtain ⟨t, ht, -, -, -, -, -, -, hmoves, -⟩ := hacquire hen
  obtain rfl : focusAsked 0 overwideSweep = t := Host.Outcome.next.inj ((exec_focusAcquire (head := .L) hen).symm.trans ht)
  have hstays : pgMoving (lensCh 0) (focusAsked 0 overwideSweep) = false := pgMoving_focusAsked (head := .L) hrest (hvel ▸ Nat.mod_self _)
  exact Bool.false_ne_true (hstays.symm.trans (hmoves hrest (ne_of_eq_of_ne hvel (Nat.two_pow_pos 64).ne')))

end Sys2Proof.Machine
end

section
/-!
PROOFS. What the shared operations of a beam channel write: timing and frame lock, taps, marks, and the spindle's target.
-/
namespace Sys2Proof.Machine

variable {s t : State} {p q h b c k v : Nat} {f g : Fld} {fs : List Fld} {head : Head} {beam : Fin 8}

/-! ### Registers and records -/

theorem fget_fset_lt (hv : v < 2 ^ f.width) : fget p f (fset p f v s) = v := (fget_fset_same ..).trans (Nat.mod_eq_of_lt hv)

theorem fget_eq_zero_of_fon (h : fon p f s = false) : fget p f s = 0 := by simpa [fon] using h

theorem otherFields.fset (k : otherFields p fs s t) (hf : f ∈ fs) : otherFields p fs s (Machine.fset p f v t) :=
  k.trans (otherFields_fset p f v t) (fun _ h => h) (by simpa using hf)

theorem fon_fset_place {d : Nat} (hg : g.inPage) (hf : f.inPage) (hne : g.place ≠ f.place) : fon q g (fset p f d s) = fon q g s :=
  fon_congr (fget_fset_place hg hf hne)

@[simp] theorem setChan_same {x : ChanSt} : (setChan h b x s).chan h b = x := Store.get_put_same _ _ _ _

@[simp] theorem fset_chan {i j : Nat} : (fset p f v s).chan i j = s.chan i j := rfl

@[simp] theorem emit_chan {code src a d i j : Nat} {x : Nat} : (emit code src a d x s).chan i j = s.chan i j := rfl

@[simp] theorem raise_chan {i j : Nat} : (raise p k s).chan i j = s.chan i j := (raise_kept (m := fun u => u.chan i j) (fun _ => rfl) (.refl s)).view

@[simp] theorem cnt_chan {i j : Nat} : (cnt p f k s).chan i j = s.chan i j := (cnt_kept (m := fun u => u.chan i j) (fun _ => rfl) (.refl s)).view

theorem chn_page_ne_chc : CHN.page head.n beam ≠ CHC.page head.n := by
  have := beam.isLt
  unfold CHN.page CHC.page
  omega

theorem beamId_mod : beamId head.n beam % 2 ^ 32 = beamId head.n beam := by
  have := beam.isLt
  unfold beamId
  cases head <;> simp only [Head.n] <;> omega

/-- What a counter, an interrupt or a write at another place does to an interrupt that stands: nothing. -/
theorem hasInt.fset {d : Nat} (hi : hasInt p k s) (hf : f.inPage) (hne : hdrIntStatus.place ≠ f.place) : hasInt p k (Machine.fset q f d s) :=
  (hasInt_fset hf hne).2 hi

theorem hasInt.cnt {d : Nat} (hi : hasInt p k s) (hf : f.inPage) (hne : hdrIntStatus.place ≠ f.place) : hasInt p k (Machine.cnt q f d s) :=
  (hasInt_congr (fget_cnt_place (by decide) hf hne (by decide))).2 hi

/-! ### Frame lock (R260, R262, R285) -/

/-- Frame lock shown lies at one place of the beam's page, and of the common page for D0. -/
theorem fget_showFlock_place {on : Bool} (hg : g.inPage) (hne : g.place ≠ CHN.STATUS_FLOCK.place) : fget q g (showFlock h b on s) = fget q g s := by
  unfold showFlock
  dsimp only
  split
  · exact (fget_fset_place hg (by decide) hne).trans (fget_fset_place hg (by decide) hne)
  · exact fget_fset_place hg (by decide) hne

theorem fget_flock_showFlock {on : Bool} : fget (CHN.page head.n beam) CHN.STATUS_FLOCK (showFlock head.n beam on s) = b2n on := by
  unfold showFlock
  dsimp only
  split
  · exact (fget_fset_other _ _ (key_page_ne (by decide) (by decide) chn_page_ne_chc)).trans (fget_fsetB_same _ _ _ _ (by decide))
  · exact fget_fsetB_same _ _ _ _ (by decide)

theorem fget_d0_showFlock {on : Bool} : fget (CHC.page h) CHC.STATUS_FLOCK_D0 (showFlock h 0 on s) = b2n on := fget_fsetB_same _ _ _ _ (by decide)

@[simp] theorem showFlock_evq {on : Bool} : (showFlock h b on s).evq = s.evq := (showFlock_kept (m := State.evq) (fun _ => rfl) (.refl s)).view

/-- Frame lock no longer shown, and told by its interrupts, before its counter, the beam's record and its event. -/
def flockDropped (h b cause : Nat) (s : State) : State :=
  s |> showFlock h b false |> fset (CHN.page h b) CHN.STATUS_PROV 0 |> raise (CHN.page h b) CHN.iFLOCK_LOST
    |> (if cause = 2 then raise (CHN.page h b) CHN.iID_LOST else id)

theorem flockLost_locked (hf : fon (CHN.page h b) CHN.STATUS_FLOCK s = true) : flockLost h b c s =
    emit 0x3002 (srcChan h) (beamId h b) c (fget (CHC.page h) CHC.CSLOT s)
      (setChan h b { s.chan h b with prov := none, idRun := 0, acqRevs := 0 }
        (cnt (CHN.page h b) CHN.FLOCK_LOSS CHN.kCNT_SAT (flockDropped h b c s))) := if_pos hf

theorem flockLost_unlocked (hf : fon (CHN.page h b) CHN.STATUS_FLOCK s = false) : flockLost h b c s = s := if_neg (by simp [hf])

/-- The places that the loss of frame lock writes. -/
def flockPlaces : List Nat :=
  [CHN.STATUS_FLOCK, CHN.STATUS_PROV, hdrIntStatus, CHN.FLOCK_LOSS, hdrSticky].map Fld.place

theorem fget_flockDropped_place (hg : g.inPage) (hlock : g.place ≠ CHN.STATUS_FLOCK.place) (hprov : g.place ≠ CHN.STATUS_PROV.place)
    (hint : g.place ≠ hdrIntStatus.place) : fget q g (flockDropped h b c s) = fget q g s := by
  have hraised : ∀ {u}, fget q g ((if c = 2 then raise (CHN.page h b) CHN.iID_LOST else id) u) = fget q g u := fun {u} =>
    ite_app_kept (P := fun t => fget q g t = fget q g u) (fget_raise_place hg hint) rfl
  unfold flockDropped
  rw [hraised, fget_raise_place hg hint, fget_fset_place hg (by decide) hprov, fget_showFlock_place hg hlock]

theorem hasInt_flockDropped : hasInt (CHN.page h b) CHN.iFLOCK_LOST (flockDropped h b c s) :=
  ite_app_kept (P := hasInt (CHN.page h b) CHN.iFLOCK_LOST) ((hasInt_raise (by decide)).raise (by decide)) (hasInt_raise (by decide))

theorem hasInt.flockDropped (hi : hasInt p k s) (hk : k < 32) : hasInt p k (flockDropped h b c s) := by
  have hshown : hasInt p k (showFlock h b false s) := (hasInt_congr (fget_showFlock_place (by decide) (by decide))).2 hi
  have hraised := (hshown.fset (q := CHN.page h b) (f := CHN.STATUS_PROV) (d := 0) (by decide) (by decide)).raise (q := CHN.page h b)
    (c := CHN.iFLOCK_LOST) hk
  exact ite_app_kept (P := hasInt p k) (hraised.raise hk) hraised

@[simp] theorem flockDropped_evq : (flockDropped h b c s).evq = s.evq := by
  unfold flockDropped
  split <;> simp

theorem fget_flockLost_place (hg : g.inPage) (hne : g.place ∉ flockPlaces) : fget q g (flockLost h b c s) = fget q g s := by
  simp only [flockPlaces, List.map_cons, List.map_nil, List.mem_cons, List.not_mem_nil, or_false, not_or] at hne
  obtain ⟨hlock, hprov, hint, hloss, hsticky⟩ := hne
  cases hf : fon (CHN.page h b) CHN.STATUS_FLOCK s with
  | false => rw [flockLost_unlocked hf]
  | true => rw [flockLost_locked hf, fget_emit, fget_setChan, fget_cnt_place hg (by decide) hloss hsticky, fget_flockDropped_place hg hlock hprov hint]

theorem fget_flock_flockLost : fget (CHN.page head.n beam) CHN.STATUS_FLOCK (flockLost head.n beam c s) = 0 := by
  have hdropped : fget (CHN.page head.n beam) CHN.STATUS_FLOCK (flockDropped head.n beam c s) = 0 := by
    have hshown : ∀ u, fget (CHN.page head.n beam) CHN.STATUS_FLOCK u = 0 → fget (CHN.page head.n beam) CHN.STATUS_FLOCK
        ((if c = 2 then raise (CHN.page head.n beam) CHN.iID_LOST else id) u) = 0 := fun u hu =>
      ite_app_kept (P := fun t => fget (CHN.page head.n beam) CHN.STATUS_FLOCK t = 0) ((fget_raise_place (by decide) (by decide)).trans hu) hu
    unfold flockDropped
    refine hshown _ ?_
    rw [fget_raise_place (by decide) (by decide), fget_fset_place (by decide) (by decide) (by decide), fget_flock_showFlock]
    rfl
  cases hf : fon (CHN.page head.n beam) CHN.STATUS_FLOCK s with
  | false => rw [flockLost_unlocked hf, fget_eq_zero_of_fon hf]
  | true => rw [flockLost_locked hf, fget_emit, fget_setChan, fget_cnt_place (by decide) (by decide) (by decide) (by decide), hdropped]

theorem hasInt.flockLost (hi : hasInt p k s) (hk : k < 32) : hasInt p k (flockLost h b c s) := by
  cases hf : fon (CHN.page h b) CHN.STATUS_FLOCK s with
  | false => rwa [flockLost_unlocked hf]
  | true =>
    rw [flockLost_locked hf, hasInt, fget_emit, fget_setChan, ← hasInt]
    exact (hi.flockDropped hk).cnt (by decide) (by decide)

theorem flockLost_evq (hf : fon (CHN.page h b) CHN.STATUS_FLOCK s = true) : (flockLost h b c s).evq =
    s.evq ++ [⟨0x3002, srcChan h, beamId h b % 2 ^ 32, c % 2 ^ 32, fget (CHC.page h) CHC.CSLOT s % 2 ^ 32, false⟩] := by
  rw [flockLost_locked hf]
  show (setChan _ _ _ (cnt _ _ _ (flockDropped h b c s))).evq ++ _ = _
  rw [setChan_evq, cnt_evq, flockDropped_evq]

theorem flockLost_evq_prefix : s.evq <+: (flockLost h b c s).evq := by
  cases hf : fon (CHN.page h b) CHN.STATUS_FLOCK s with
  | false => rw [flockLost_unlocked hf]
  | true => exact ⟨_, (flockLost_evq hf).symm⟩

theorem prov_flockLost (hprov : (s.chan h b).prov = none) : ((flockLost h b c s).chan h b).prov = none := by
  cases hf : fon (CHN.page h b) CHN.STATUS_FLOCK s with
  | false => rwa [flockLost_unlocked hf]
  | true => rw [flockLost_locked hf, emit_chan, setChan_same]

/-! ### Acquisition (R245, R247) -/

theorem fget_acquire_place (hg : g.inPage) (hne : g.place ≠ CHN.TR_STEP.place) : fget q g (acquire h b s) = fget q g s := by
  unfold acquire
  dsimp only
  split
  · unfold loadStep showStep
    dsimp only
    rw [fget_fset_place hg (by decide) hne, fget_setChan, fget_setChan]
  · exact fget_setChan ..

@[simp] theorem acquire_evq : (acquire h b s).evq = s.evq := (acquire_kept (m := State.evq) (fun _ => rfl) (.refl s)).view

/-! ### The identifier of a mark (R262) -/

/-- What a check of a mark's identifier keeps. -/
theorem checkIdent_closed {P : State → Prop} {secondary : Bool} {ident : Nat} (hid : ∀ n u, P u → P (fset (CHN.page h b) CHN.STATUS_FRAME_ID n u))
    (hrun : ∀ n u, P u → P (setChan h b { u.chan h b with idRun := n } u)) (hmiss : ∀ u, P u → P (cnt (CHN.page h b) CHN.ID_MISS CHN.kCNT_SAT u))
    (hlost : ∀ u, P u → P (flockLost h b 2 u)) (hmap : ∀ n u, P u → P (fset (ACQ.page h) ACQ.MAP_STATE_VALID n u)) (hs : P s) :
    P (checkIdent h b secondary ident s) := by
  have hshown : P (if secondary then fset (CHN.page h b) CHN.STATUS_FRAME_ID (fget (CHN.page h b) CHN.STATUS_FRAME_ID s / 4 * 4 + ident) s
      else fset (CHN.page h b) CHN.STATUS_FRAME_ID (4 * ident + fget (CHN.page h b) CHN.STATUS_FRAME_ID s % 4) s) := ite_kept (hid _ _ hs) (hid _ _ hs)
  unfold checkIdent
  dsimp only
  refine ite_kept ?_ (hmap _ _ (hlost _ ?_)) <;> exact ite_kept (hrun _ _ hshown) (hmiss _ (hrun _ _ hshown))

/-- A mark whose identifier agrees with the map ends the run of those that disagree. -/
theorem checkIdent_agrees {secondary : Bool} {ident : Nat} (hident : ident = identOf secondary (mapFrame h s)) :
    ∃ n, checkIdent h b secondary ident s = setChan h b { s.chan h b with idRun := 0 } (fset (CHN.page h b) CHN.STATUS_FRAME_ID n s) := by
  unfold checkIdent
  simp only [hident, if_true, Nat.zero_lt_succ]
  cases secondary with
  | false => exact ⟨_, rfl⟩
  | true => exact ⟨_, rfl⟩

/-! ### Marks (R259, R261) -/

/-- A mark found, and the misses before it forgotten. -/
def markSeen (h b : Nat) (s : State) : State :=
  s |> fset (CHC.page h) CHC.STATUS_IN_GAP 0 |> setChan h b { s.chan h b with marked := true }
    |> cnt (CHN.page h b) CHN.SYNC_FOUND CHN.kCNT_SAT |> fset (CHN.page h b) CHN.STATUS_FLY_RUN 0

/-- The bits slipped by a displaced mark that is found again (R261), before the event that tells of it. -/
def slipped (h b : Nat) (d : Int) (s : State) : State :=
  let c := s.chan h b
  s |> setChan h b { c with prov := none, eraseHalf := true,
                            outs := if 0 < d then c.outs.drop d.toNat else List.replicate (-d).toNat ⟨false, 0, true⟩ ++ c.outs }
    |> fset (CHN.page h b) CHN.STATUS_PROV 0 |> cnt (CHN.page h b) CHN.SLIPS CHN.kCNT_SAT |> raise (CHN.page h b) CHN.iSLIP

theorem markFound_again {d : Int} (hd : d ≠ 0) (hprov : (s.chan h b).prov = some d) : markFound h b d s =
    emit 0x3003 (srcChan h) (beamId h b) (ofSigned 32 d) (mapFrame h s) (slipped h b d s) := by
  unfold markFound slipped
  simp only [hprov, hd, if_false, if_true]

theorem markFound_at (hprov : (s.chan h b).prov = none) : markFound h b 0 s = s := by
  unfold markFound
  simp only [hprov, if_true]

theorem exec_syncMark_found {secondary sheltered : Bool} {cands : List SyncCand} {c : SyncCand}
    (hlock : fon (CHN.page head.n beam) CHN.STATUS_FLOCK s = true) (hrec : recording head.n s = false)
    (hmark : bestMark (fget (CHN.page head.n beam) CHN.SYNC_CFG_SYNC_ERR s) (syncWin head.n beam s) cands = some c) :
    exec (.syncMark head beam secondary cands sheltered) s =
      .next (checkIdent head.n beam secondary c.ident (markFound head.n beam c.offset (markSeen head.n beam s))) := by
  have hon : fon (CHN.page head.n beam) CHN.STATUS_FLOCK (fset (CHC.page head.n) CHC.STATUS_IN_GAP 0 s) = true :=
    (fon_fset_place (by decide) (by decide) (by decide)).trans hlock
  have hidle : recording head.n (fset (CHC.page head.n) CHC.STATUS_IN_GAP 0 s) = false := (fon_fset_place (by decide) (by decide) (by decide)).trans hrec
  change execSyncMark head beam secondary cands sheltered s = _
  unfold execSyncMark
  dsimp only
  rw [hmark, hon, hidle]
  rfl

end Sys2Proof.Machine
end

section
/-!
PROOFS. The spindle's target (R206), timing lock and acquisition (R247, R263), gain steps (R244) and the equaliser's reset (R251).
-/
namespace Sys2Proof.Machine

variable (s : State) (head : Head) (beam : Fin 8)

/-! ### The spindle's target (R206) -/

/-- TARGET as written. -/
def targetShown (rpm : BitVec 13) (clv : Bool) (s : State) : State :=
  s |> fset SPN.page SPN.TARGET_RPM rpm.toNat |> fsetB SPN.page SPN.TARGET_SPD_MODE clv

theorem legacyFs_of_not_legacy {s : State} (hleg : fon FMT.page FMT.STATUS_LEGACY s = false) : legacyFs s = s := by
  unfold legacyFs
  simp [hleg]

theorem fget_newTarget {s : State} {q : Nat} {g : Fld} (hrpm : g.key q ≠ SPN.SPEED_EFF_RPM.key SPN.page)
    (hceil : g.key q ≠ SPN.SPEED_EFF_CEIL_ACT.key SPN.page) : fget q g (newTarget s) = fget q g s := by
  unfold newTarget
  split
  · rfl
  · exact (fget_fset_other _ _ hceil).trans (fget_fset_other _ _ hrpm)

/-- A wanted speed kept, clamped to 7,200 rpm, before SPEED_EFF follows it. -/
def speedWanted (rpm : Nat) (s : State) : State :=
  setSpin { s.spin with wanted := min rpm 7200 } (if 7200 < rpm then sticky SPN.page SPN.kTGT_CLAMP s else s)

theorem wantSpeed_eq {s : State} {rpm : Nat} : wantSpeed rpm s = newTarget (speedWanted rpm s) := by
  unfold wantSpeed speedWanted
  dsimp only
  split <;> rfl

theorem fget_speedWanted {s : State} {rpm q : Nat} {g : Fld} (hsticky : g.key q ≠ hdrSticky.key SPN.page) :
    fget q g (speedWanted rpm s) = fget q g s := by
  unfold speedWanted
  rw [fget_setSpin]
  exact ite_kept (P := fun t => fget q g t = fget q g s) (fget_fset_other _ _ hsticky) rfl

theorem fget_wantSpeed {s : State} {rpm q : Nat} {g : Fld} (hrpm : g.key q ≠ SPN.SPEED_EFF_RPM.key SPN.page)
    (hceil : g.key q ≠ SPN.SPEED_EFF_CEIL_ACT.key SPN.page) (hsticky : g.key q ≠ hdrSticky.key SPN.page) :
    fget q g (wantSpeed rpm s) = fget q g s := by
  rw [wantSpeed_eq, fget_newTarget hrpm hceil, fget_speedWanted hsticky]

theorem spin_wantSpeed {s : State} {rpm : Nat} : (wantSpeed rpm s).spin = { s.spin with wanted := min rpm 7200 } := by
  rw [wantSpeed_eq]
  exact (newTarget_kept (m := State.spin) (fun _ => rfl) (.refl _)).view

theorem hasSticky_wantSpeed {s : State} {rpm : Nat} (hrpm : 7200 < rpm) : hasSticky SPN.page SPN.kTGT_CLAMP (wantSpeed rpm s) := by
  rw [wantSpeed_eq]
  refine (hasSticky_congr (fget_newTarget (by decide) (by decide))).2 ?_
  unfold speedWanted
  rw [if_pos hrpm]
  exact hasSticky_sticky (by decide)

/-- With no head writing and neither a ceiling nor a write to come, SPEED_EFF is the wanted speed (R211, R212). -/
theorem speedEff_wantSpeed {s : State} {rpm : Nat} (hL : recording 0 s = false) (hU : recording 1 s = false) (hceil : s.spin.ceiling = none)
    (hnext : s.spin.writeNext = false) : fget SPN.page SPN.SPEED_EFF_RPM (wantSpeed rpm s) = min rpm 7200 := by
  have hrec : ∀ {h}, h < 2 → recording h (speedWanted rpm s) = recording h s := fun {h} hh => fon_congr <| fget_speedWanted <| by
    unfold LPW.page Fld.key
    simp only [LPW.STATUS_WRITING, hdrSticky, SPN.page, reg]
    omega
  have hidle : anyWriting (speedWanted rpm s) = false := by
    unfold anyWriting
    rw [hrec (by decide), hrec (by decide), hL, hU]
    rfl
  have heff : (effTarget (speedWanted rpm s)).1 = min rpm 7200 := by
    unfold effTarget speedWanted
    simp [setSpin, hceil, hnext]
  rw [wantSpeed_eq, newTarget, if_neg (by simp [hidle]), fsetB, fget_fset_other _ _ (by decide), heff]
  exact fget_fset_lt (Nat.lt_of_le_of_lt (Nat.min_le_right ..) (by decide))

theorem targetWrite_wants (rpm : BitVec 13) (hleg : fon FMT.page FMT.STATUS_LEGACY s = false) : Completes (.targetWrite rpm false) s fun t =>
    fget SPN.page SPN.TARGET_RPM t = rpm.toNat ∧
    fget SPN.page SPN.TARGET_SPD_MODE t = 0 ∧ t.spin = { s.spin with wanted := min rpm.toNat 7200 } ∧ (7200 < rpm.toNat → hasSticky SPN.page SPN.kTGT_CLAMP t) ∧
    (recording 0 s = false → recording 1 s = false → s.spin.ceiling = none → s.spin.writeNext = false →
      fget SPN.page SPN.SPEED_EFF_RPM t = min rpm.toNat 7200) ∧ sameBut [.regs, .spin] s t ∧
    otherFields SPN.page [SPN.TARGET_RPM, SPN.TARGET_SPD_MODE, hdrSticky, SPN.SPEED_EFF_RPM, SPN.SPEED_EFF_CEIL_ACT] s t := by
  have hshown : ∀ {q g}, g.key q ≠ SPN.TARGET_RPM.key SPN.page → g.key q ≠ SPN.TARGET_SPD_MODE.key SPN.page →
      fget q g (targetShown rpm false s) = fget q g s := fun hr hm => (fget_fset_other _ _ hm).trans (fget_fset_other _ _ hr)
  have hexec : exec (.targetWrite rpm false) s = .next (wantSpeed rpm.toNat (targetShown rpm false s)) :=
    congrArg Host.Outcome.next (legacyFs_of_not_legacy ((fon_congr ((fget_wantSpeed (by decide) (by decide) (by decide)).trans
      (hshown (by decide) (by decide)))).trans hleg))
  have hrec : ∀ {h}, h < 2 → recording h (targetShown rpm false s) = recording h s := fun {h} hh => fon_congr <| by
    refine hshown ?_ ?_ <;>
    · unfold LPW.page Fld.key
      simp only [LPW.STATUS_WRITING, SPN.TARGET_RPM, SPN.TARGET_SPD_MODE, SPN.page, reg]
      omega
  refine ⟨_, hexec, ?_, ?_, spin_wantSpeed, hasSticky_wantSpeed, fun hL hU hceil hnext => ?_, ?_, fun q g hg => ?_⟩
  · rw [fget_wantSpeed (by decide) (by decide) (by decide), targetShown, fsetB, fget_fset_other _ _ (by decide), fget_fset_lt rpm.isLt]
  · rw [fget_wantSpeed (by decide) (by decide) (by decide), targetShown, fget_fsetB_same _ _ _ _ (by decide)]
    rfl
  · exact speedEff_wantSpeed (s := targetShown rpm false s) ((hrec (by decide)).trans hL) ((hrec (by decide)).trans hU) hceil hnext
  · exact sameBut_of_kept (wantSpeed_kept (fun _ => rfl) (fset_kept (fun _ => rfl) (fset_kept (fun _ => rfl) (.refl s))))
  · simp only [List.map_cons, List.map_nil, List.mem_cons, List.not_mem_nil, or_false, not_or] at hg
    obtain ⟨hr, hm, hs, he, hc⟩ := hg
    exact (fget_wantSpeed he hc hs).trans (hshown hr hm)

theorem targetWrite_mode (rpm : BitVec 13) (hleg : fon FMT.page FMT.STATUS_LEGACY s = false) : Completes (.targetWrite rpm true) s fun t =>
    fget SPN.page SPN.TARGET_RPM t = rpm.toNat ∧
    fget SPN.page SPN.TARGET_SPD_MODE t = 1 ∧ sameBut [.regs] s t ∧ otherFields SPN.page [SPN.TARGET_RPM, SPN.TARGET_SPD_MODE] s t := by
  have hexec : exec (.targetWrite rpm true) s = .next (targetShown rpm true s) :=
    congrArg Host.Outcome.next (legacyFs_of_not_legacy ((fon_congr ((fget_fset_other _ _ (by decide)).trans
      (fget_fset_other _ _ (by decide)))).trans hleg))
  refine ⟨_, hexec, ?_, fget_fsetB_same _ _ _ _ (by decide), ?_, ?_⟩
  · rw [targetShown, fsetB, fget_fset_other _ _ (by decide), fget_fset_lt rpm.isLt]
  · exact sameBut_of_kept (fset_kept (fun _ => rfl) (fset_kept (fun _ => rfl) (.refl s)))
  · exact ((otherFields.refl _ _ _).fset (by simp)).fset (by simp)

/-! ### Timing windows (R247) -/

/-- A window's timing error shown. -/
def tedShown (h b : Nat) (rms : BitVec 16) (s : State) : State := fset (CHN.page h b) CHN.TED_RMS rms.toNat s

theorem fon_tedShown {s : State} {h b q : Nat} {rms : BitVec 16} {g : Fld} (hg : g.inPage) (hne : g.place ≠ CHN.TED_RMS.place) :
    fon q g (tedShown h b rms s) = fon q g s := fon_fset_place hg (by decide) hne

theorem fget_tedShown_place {s : State} {h b q : Nat} {rms : BitVec 16} {g : Fld} (hg : g.inPage) (hne : g.place ≠ CHN.TED_RMS.place) :
    fget q g (tedShown h b rms s) = fget q g s := fget_fset_place hg (by decide) hne

theorem fget_rms_tedShown {s : State} {h b : Nat} {rms : BitVec 16} : fget (CHN.page h b) CHN.TED_RMS (tedShown h b rms s) = rms.toNat :=
  fget_fset_lt rms.isLt

theorem recording_tedShown {s : State} {h b j : Nat} {rms : BitVec 16} : recording j (tedShown h b rms s) = recording j s :=
  fon_tedShown (by decide) (by decide)

theorem beamHolds_tedShown {s : State} {h b : Nat} {rms : BitVec 16} : beamHolds h b (tedShown h b rms s) = beamHolds h b s := by
  unfold beamHolds headH
  rw [fon_tedShown (by decide) (by decide), fon_tedShown (by decide) (by decide), fon_tedShown (by decide) (by decide), recording_tedShown]

/-- Whether a window is for a beam that is not read does not turn on the error shown. -/
theorem tedShown_unread {s : State} {h b : Nat} {rms : BitVec 16} :
    (!fon (CHN.page h b) CHN.CTRL_EN (tedShown h b rms s) || recording h (tedShown h b rms s)) = (!fon (CHN.page h b) CHN.CTRL_EN s || recording h s) := by
  rw [fon_tedShown (by decide) (by decide), recording_tedShown]

theorem otherFields_tedShown {s : State} {h b : Nat} {rms : BitVec 16} : otherFields (CHN.page h b) [CHN.TED_RMS] s (tedShown h b rms s) :=
  otherFields_fset _ _ _ _

/-- One more good window. -/
def ChanSt.goodWindow (c : ChanSt) : ChanSt := { c with goodWin := c.goodWin + 1, badWin := 0 }

/-- One more bad window. -/
def ChanSt.badWindow (c : ChanSt) : ChanSt := { c with badWin := c.badWin + 1 }

/-- A good window counted for a beam without timing lock. -/
def goodCounted (h b : Nat) (rms : BitVec 16) (s : State) : State := setChan h b (s.chan h b).goodWindow (tedShown h b rms s)

theorem exec_tedWindow_good {rms : BitVec 16} {slot : Nat} (hen : fon (CHN.page head.n beam) CHN.CTRL_EN s = true) (hrec : recording head.n s = false)
    (hlock : fon (CHN.page head.n beam) CHN.STATUS_TLOCK s = false) (hrms : rms.toNat < fget (CHN.page head.n beam) CHN.LOCK_CFG_LOCK_THR s) :
    exec (.tedWindow head beam rms slot) s = .next (if (s.chan head.n beam).goodWin + 1 < 4 then goodCounted head.n beam rms s
      else setChan head.n beam { (s.chan head.n beam).goodWindow with acqRevs := 0 }
        (fset (CHN.page head.n beam) CHN.STATUS_TLOCK 1 (goodCounted head.n beam rms s))) := by
  change execTedWindow head beam rms slot s = _
  unfold execTedWindow goodCounted
  dsimp only
  rw [← tedShown, tedShown_unread, hen, hrec, if_neg (by decide), fon_tedShown (by decide) (by decide), hlock, if_neg Bool.false_ne_true,
    fget_tedShown_place (by decide) (by decide), if_pos hrms, setChan_same]
  rfl

theorem tedWindow_locks (rms : BitVec 16) (slot : Nat) (hen : fon (CHN.page head.n beam) CHN.CTRL_EN s = true) (hrec : recording head.n s = false)
    (hlock : fon (CHN.page head.n beam) CHN.STATUS_TLOCK s = false) (hrms : rms.toNat < fget (CHN.page head.n beam) CHN.LOCK_CFG_LOCK_THR s) :
    Completes (.tedWindow head beam rms slot) s fun t =>
      fget (CHN.page head.n beam) CHN.TED_RMS t = rms.toNat ∧ (t.chan head.n beam).goodWin = (s.chan head.n beam).goodWin + 1 ∧
      fget (CHN.page head.n beam) CHN.STATUS_TLOCK t = (if 3 ≤ (s.chan head.n beam).goodWin then 1 else 0) ∧ sameBut [.regs, .chans] s t ∧
      otherFields (CHN.page head.n beam) [CHN.TED_RMS, CHN.STATUS_TLOCK] s t := by
  have hcounted : ∀ {α : Type} {m : State → α}, (∀ u, m u = m { u with regs := [], chans := [] }) → Kept m s (goodCounted head.n beam rms s) :=
    fun hm => setChan_kept (sub hm) (fset_kept (sub hm) (.refl s))
  have hother : otherFields (CHN.page head.n beam) [CHN.TED_RMS, CHN.STATUS_TLOCK] s (goodCounted head.n beam rms s) :=
    otherFields_tedShown.trans (.refl (CHN.page head.n beam) [] _) (by simp) (by simp)
  refine ⟨_, exec_tedWindow_good s head beam hen hrec hlock hrms, ?_⟩
  split
  next hfew =>
    refine ⟨fget_rms_tedShown, congrArg ChanSt.goodWin setChan_same, ?_, sameBut_of_kept (hcounted fun _ => rfl), hother⟩
    rw [if_neg (by omega), goodCounted, fget_setChan, fget_tedShown_place (by decide) (by decide), fget_eq_zero_of_fon hlock]
  next hmany =>
    refine ⟨?_, congrArg ChanSt.goodWin setChan_same, ?_, ?_, fun q g hg => ?_⟩
    · rw [fget_setChan, fget_fset_place (by decide) (by decide) (by decide), goodCounted, fget_setChan, fget_rms_tedShown]
    · rw [if_pos (by omega), fget_setChan, fget_fset_lt (by decide)]
    · exact sameBut_of_kept (setChan_kept (fun _ => rfl) (fset_kept (fun _ => rfl) (hcounted fun _ => rfl)))
    · rw [fget_setChan]
      exact hother.fset (by simp) q g hg

/-- Timing lock lost, and told, before frame lock and acquisition follow. -/
def timingLost (h b : Nat) (rms : BitVec 16) (slot : Nat) (s : State) : State :=
  let p := CHN.page h b
  s |> fset p CHN.STATUS_TLOCK 0 |> fset p CHN.STATUS_ADAPTING 0 |> raise p CHN.iTLOCK_LOST
    |> cnt p CHN.TLOCK_LOSS CHN.kCNT_SAT |> emit 0x3001 (srcChan h) (beamId h b) rms.toNat slot

theorem fget_timingLost {s : State} {h b slot : Nat} {rms : BitVec 16} {g : Fld} (hg : g.inPage) (hint : g.place ≠ hdrIntStatus.place)
    (hcnt : g.place ≠ CHN.TLOCK_LOSS.place) (hsticky : g.place ≠ hdrSticky.place) {q : Nat} : fget q g (timingLost h b rms slot s) =
      fget q g (fset (CHN.page h b) CHN.STATUS_ADAPTING 0 (fset (CHN.page h b) CHN.STATUS_TLOCK 0 s)) := by
  unfold timingLost
  dsimp only
  rw [fget_emit, fget_cnt_place hg (by decide) hcnt hsticky, fget_raise_place hg hint]

theorem hasInt_timingLost {s : State} {h b slot : Nat} {rms : BitVec 16} : hasInt (CHN.page h b) CHN.iTLOCK_LOST (timingLost h b rms slot s) := by
  unfold timingLost
  dsimp only
  rw [hasInt, fget_emit, ← hasInt]
  exact (hasInt_raise (by decide)).cnt (by decide) (by decide)

theorem timingLost_evq {s : State} {h b slot : Nat} {rms : BitVec 16} : (timingLost h b rms slot s).evq =
    s.evq ++ [⟨0x3001, srcChan h, beamId h b % 2 ^ 32, rms.toNat % 2 ^ 32, slot % 2 ^ 32, false⟩] := by
  unfold timingLost
  dsimp only
  rw [emit_evq, cnt_evq, raise_evq]
  rfl

theorem tedWindow_unlocks (rms : BitVec 16) (slot : Nat) (hen : fon (CHN.page head.n beam) CHN.CTRL_EN s = true) (hrec : recording head.n s = false)
    (hlock : fon (CHN.page head.n beam) CHN.STATUS_TLOCK s = true) (hholds : beamHolds head.n beam s = false) (hbad : 1 ≤ (s.chan head.n beam).badWin)
    (hrms : fget (CHN.page head.n beam) CHN.LOCK_CFG_UNLOCK_THR s < rms.toNat) :
    Completes (.tedWindow head beam rms slot) s fun t => fget (CHN.page head.n beam) CHN.STATUS_TLOCK t = 0 ∧ fget (CHN.page head.n beam) CHN.STATUS_FLOCK t = 0 ∧
      fget (CHN.page head.n beam) CHN.STATUS_ADAPTING t = 0 ∧ hasInt (CHN.page head.n beam) CHN.iTLOCK_LOST t ∧
      (∃ later, t.evq = s.evq ++ ⟨0x3001, srcChan head.n, beamId head.n beam, rms.toNat, slot % 2 ^ 32, false⟩ :: later) ∧
      sameBut [.regs, .evq, .out, .msixPend, .chans] s t := by
  let u := setChan head.n beam (s.chan head.n beam).badWindow (tedShown head.n beam rms s)
  have hexec : exec (.tedWindow head beam rms slot) s =
      .next (acquire head.n beam (flockLost head.n beam 3 (timingLost head.n beam rms slot u))) := by
    have htwice : ¬(s.chan head.n beam).badWin + 1 < 2 := by omega
    change execTedWindow head beam rms slot s = _
    unfold execTedWindow
    dsimp only
    rw [← tedShown, tedShown_unread, hen, hrec, if_neg (by decide), fon_tedShown (by decide) (by decide), hlock, if_pos rfl, beamHolds_tedShown, hholds,
      if_neg Bool.false_ne_true, fget_tedShown_place (by decide) (by decide), if_pos hrms, if_neg htwice]
    rfl
  refine ⟨_, hexec, ?_, ?_, ?_, ?_, exists_later ?_, sameBut_of (execTedWindow_kept (fun _ => rfl) (.refl s)) hexec⟩
  · rw [fget_acquire_place (by decide) (by decide), fget_flockLost_place (by decide) (by decide),
      fget_timingLost (by decide) (by decide) (by decide) (by decide), fget_fset_place (by decide) (by decide) (by decide), fget_fset_lt (by decide)]
  · rw [fget_acquire_place (by decide) (by decide), fget_flock_flockLost]
  · rw [fget_acquire_place (by decide) (by decide), fget_flockLost_place (by decide) (by decide),
      fget_timingLost (by decide) (by decide) (by decide) (by decide), fget_fset_lt (by decide)]
  · rw [hasInt, fget_acquire_place (by decide) (by decide), ← hasInt]
    exact hasInt_timingLost.flockLost (by decide)
  · have hrmsMod : rms.toNat % 2 ^ 32 = rms.toNat := Nat.mod_eq_of_lt (Nat.lt_trans rms.isLt (by decide))
    rw [acquire_evq]
    have htold : (timingLost head.n beam rms slot u).evq = s.evq ++ [⟨0x3001, srcChan head.n, beamId head.n beam, rms.toNat, slot % 2 ^ 32, false⟩] := by
      rw [timingLost_evq, beamId_mod, hrmsMod]
      rfl
    exact htold ▸ flockLost_evq_prefix

theorem tedWindow_idle (rms : BitVec 16) (slot : Nat) (hidle : fon (CHN.page head.n beam) CHN.CTRL_EN s = false ∨ recording head.n s = true ∨
      (fon (CHN.page head.n beam) CHN.STATUS_TLOCK s = true ∧ beamHolds head.n beam s = true)) : Completes (.tedWindow head beam rms slot) s fun t =>
    fget (CHN.page head.n beam) CHN.TED_RMS t = rms.toNat ∧ sameBut [.regs] s t ∧ otherFields (CHN.page head.n beam) [CHN.TED_RMS] s t := by
  refine ⟨tedShown head.n beam rms s, ?_, fget_rms_tedShown, sameBut_of_kept (fset_kept (fun _ => rfl) (.refl s)), otherFields_tedShown⟩
  change execTedWindow head beam rms slot s = _
  unfold execTedWindow
  dsimp only
  rw [← tedShown, tedShown_unread]
  cases hread : !fon (CHN.page head.n beam) CHN.CTRL_EN s || recording head.n s with
  | true => rfl
  | false =>
    obtain ⟨hen, hrec⟩ : fon (CHN.page head.n beam) CHN.CTRL_EN s = true ∧ recording head.n s = false := by simpa using hread
    obtain ⟨hlock, hholds⟩ := (hidle.resolve_left (by simp [hen])).resolve_left (by simp [hrec])
    rw [if_neg Bool.false_ne_true, fon_tedShown (by decide) (by decide), hlock, if_pos rfl, beamHolds_tedShown, hholds, if_pos rfl]

/-! ### Acquisition failed, gain steps and the equaliser's reset (R244, R247, R251, R263) -/

theorem acquisitionFailed_told (frame : Bool) : Completes (.acquisitionFailed head beam frame) s fun t =>
    fget (CHN.page head.n beam) hdrFault t = (if frame then 2 else 1) ∧
    t.evq = s.evq ++ [⟨0x3007, srcChan head.n, beamId head.n beam, if frame then 2 else 1, fget (ACQ.page head.n) ACQ.ACQ_CFG_ACQ_REVS s % 2 ^ 32, false⟩] ∧
    sameBut [.regs, .evq] s t := by
  refine ⟨_, rfl, ?_, ?_, sameBut_of (execAcquisitionFailed_kept (a0 := head) (a1 := beam) (a2 := frame) (fun _ => rfl) (.refl s)) rfl⟩
  · rw [fget_emit, fget_cnt_place (by decide) (by decide) (by decide) (by decide)]
    cases frame <;> exact fget_fset_lt (by decide)
  · rw [emit_evq, cnt_evq, beamId_mod]
    cases frame <;> rfl

theorem gainStep_steps (hstepped : (s.chan head.n beam).stepped = false) (hlock : fon (CHN.page head.n beam) CHN.STATUS_TLOCK s = true) :
    Completes (.gainStep head beam) s fun t =>
    t.out = s.out ++ [.htxMsg head.n 2 (s.link head.n).tag (beam.val * 2 ^ 236 + (quarterDb (s.chan head.n beam).gain % 256).toNat * 2 ^ 228)] ∧
    (t.chan head.n beam).gainStep = some (quarterDb (s.chan head.n beam).gain) ∧ (t.chan head.n beam).stepped = true ∧
    sameBut [.regs, .out, .links, .chans] s t := by
  have hexec : exec (.gainStep head beam) s = .next (s
      |> sendMsg head.n 2 (beam.val * 2 ^ 236 + (quarterDb (s.chan head.n beam).gain % 256).toNat * 2 ^ 228) false
      |> setChan head.n beam { s.chan head.n beam with stepped := true, gainStep := some (quarterDb (s.chan head.n beam).gain) }
      |> cnt (CLE.page head.n) CLE.GAIN_STEPS ENG.kCNT_SAT) := by
    change execGainStep head beam s = _
    unfold execGainStep
    dsimp only
    rw [hstepped, hlock]
    rfl
  refine ⟨_, hexec, ?_, ?_, ?_, sameBut_of (execGainStep_kept (fun _ => rfl) (.refl s)) hexec⟩
  · exact (cnt_kept (m := State.out) (fun _ => rfl) (.refl _)).view
  · rw [cnt_chan, setChan_same]
  · rw [cnt_chan, setChan_same]

theorem gainStep_none (h : (s.chan head.n beam).stepped = true ∨ fon (CHN.page head.n beam) CHN.STATUS_TLOCK s = false) :
    Completes (.gainStep head beam) s fun t => t = s := by
  refine ⟨s, ?_, rfl⟩
  change execGainStep head beam s = _
  unfold execGainStep
  dsimp only
  rw [if_pos (by simpa using h)]

/-- Two taps of one index share a register and no bit. -/
theorem tap_key_ne {p i j : Nat} : (CHN.EQ_TAP_EVEN.ix i).key p ≠ (CHN.EQ_TAP_ODD.ix j).key p := by
  simp only [Fld.key, Fld.ix, CHN.EQ_TAP_EVEN, CHN.EQ_TAP_ODD, regs]
  omega

/-- The taps of the first `n` indices at their reset values. -/
def tapsReset (h b n : Nat) (s : State) : State :=
  (List.range n).foldl (fun t i => t |> fclr (CHN.page h b) (CHN.EQ_TAP_EVEN.ix i) |> fclr (CHN.page h b) (CHN.EQ_TAP_ODD.ix i)) s

theorem tapsReset_succ {h b n : Nat} {s : State} : tapsReset h b (n + 1) s =
    fclr (CHN.page h b) (CHN.EQ_TAP_ODD.ix n) (fclr (CHN.page h b) (CHN.EQ_TAP_EVEN.ix n) (tapsReset h b n s)) := by
  unfold tapsReset
  rw [List.range_succ, List.foldl_append]
  rfl

theorem tapsReset_prof {h b n : Nat} {s : State} : (tapsReset h b n s).prof = s.prof := foldl_range_same (m := State.prof) fun _ _ _ => rfl

theorem fget_tapsReset {h b n i : Nat} {s : State} (hi : i < n) :
    fget (CHN.page h b) (CHN.EQ_TAP_EVEN.ix i) (tapsReset h b n s) = (CHN.EQ_TAP_EVEN.ix i).reset (CHN.page h b) s.prof ∧
      fget (CHN.page h b) (CHN.EQ_TAP_ODD.ix i) (tapsReset h b n s) = (CHN.EQ_TAP_ODD.ix i).reset (CHN.page h b) s.prof := by
  induction n with
  | zero => exact absurd hi (Nat.not_lt_zero i)
  | succ n ih =>
    rw [tapsReset_succ, fget_fclr_other _ tap_key_ne]
    rcases Nat.lt_succ_iff_lt_or_eq.1 hi with hlt | rfl
    · rw [fget_fclr_other _ (key_ix_ne (by decide) (Nat.ne_of_lt hlt)), fget_fclr_other _ (key_ix_ne (by decide) (Nat.ne_of_lt hlt)),
        fget_fclr_other _ tap_key_ne.symm]
      exact ih hlt
    · rw [fget_fclr_same, fget_fclr_same, fclr_prof, tapsReset_prof]
      exact ⟨rfl, rfl⟩

theorem otherFields_tapsReset {h b n m : Nat} {s : State} (hn : n ≤ m) :
    otherFields (CHN.page h b) ((List.range m).map CHN.EQ_TAP_EVEN.ix ++ (List.range m).map CHN.EQ_TAP_ODD.ix) s (tapsReset h b n s) := by
  induction n with
  | zero => exact .refl _ _ _
  | succ n ih =>
    have hmem : n ∈ List.range m := List.mem_range.2 hn
    rw [tapsReset_succ]
    refine ((ih (Nat.le_of_succ_le hn)).trans (otherFields_fclr _ _ _) (fun _ hf => hf) ?_).trans (otherFields_fclr _ _ _) (fun _ hf => hf) ?_
    · exact List.forall_mem_singleton.2 (List.mem_append_left _ (List.mem_map_of_mem hmem))
    · exact List.forall_mem_singleton.2 (List.mem_append_right _ (List.mem_map_of_mem hmem))

theorem eqReset_resets : Completes (.eqReset head beam) s fun t =>
    (∀ i < 16, fget (CHN.page head.n beam) (CHN.EQ_TAP_EVEN.ix i) t = (CHN.EQ_TAP_EVEN.ix i).reset (CHN.page head.n beam) s.prof ∧
    fget (CHN.page head.n beam) (CHN.EQ_TAP_ODD.ix i) t = (CHN.EQ_TAP_ODD.ix i).reset (CHN.page head.n beam) s.prof) ∧ sameBut [.regs] s t ∧
    otherFields (CHN.page head.n beam) ((List.range 16).map CHN.EQ_TAP_EVEN.ix ++ (List.range 16).map CHN.EQ_TAP_ODD.ix) s t :=
  ⟨tapsReset head.n beam 16 s, rfl, fun _ => fget_tapsReset, sameBut_of_kept (resetTaps_kept (fun _ => rfl) (.refl s)), otherFields_tapsReset (le_refl _)⟩

end Sys2Proof.Machine
end

section
/-!
PROOFS. Sync marks and frame lock (R259 to R263), frames and blank slots (R255, R256, R264), and quality windows (R273).
-/
namespace Sys2Proof.Machine

variable (s : State) (head : Head) (beam : Fin 8)

/-! ### Sync marks (R259 to R262) -/

theorem syncMark_unlocked (secondary : Bool) (cands : List SyncCand) (sheltered : Bool)
    (h : fon (CHN.page head.n beam) CHN.STATUS_FLOCK s = false ∨ recording head.n s = true) :
    Completes (.syncMark head beam secondary cands sheltered) s fun t => fget (CHC.page head.n) CHC.STATUS_IN_GAP t = 0 ∧ sameBut [.regs] s t ∧
      otherFields (CHC.page head.n) [CHC.STATUS_IN_GAP] s t := by
  refine ⟨fset (CHC.page head.n) CHC.STATUS_IN_GAP 0 s, ?_, fget_fset_lt (by decide), sameBut_of_kept (fset_kept (fun _ => rfl) (.refl s)),
    otherFields_fset _ _ _ _⟩
  change execSyncMark head beam secondary cands sheltered s = _
  unfold execSyncMark
  dsimp only
  refine if_pos ?_
  rw [fon_fset_place (by decide) (by decide) (by decide), recording, fon_fset_place (by decide) (by decide) (by decide), ← recording]
  simpa using h

theorem chan_markSeen {s : State} {h b : Nat} : (markSeen h b s).chan h b = { s.chan h b with marked := true } := by
  unfold markSeen
  simp only [fset_chan, cnt_chan, setChan_same]

theorem mapFrame_markSeen {s : State} {h b : Nat} : mapFrame h (markSeen h b s) = mapFrame h s := by
  unfold mapFrame markSeen
  rw [fget_fset_place (by decide) (by decide) (by decide), fget_cnt_place (by decide) (by decide) (by decide) (by decide), fget_setChan,
    fget_fset_place (by decide) (by decide) (by decide)]

@[simp] theorem markSeen_evq {s : State} {h b : Nat} : (markSeen h b s).evq = s.evq := by
  unfold markSeen
  simp

theorem fget_found_markSeen {s : State} {h b : Nat} (hroom : fget (CHN.page h b) CHN.SYNC_FOUND s < 2 ^ 32 - 1) :
    fget (CHN.page h b) CHN.SYNC_FOUND (markSeen h b s) = fget (CHN.page h b) CHN.SYNC_FOUND s + 1 := by
  have hgap : fget (CHN.page h b) CHN.SYNC_FOUND (setChan h b { s.chan h b with marked := true } (fset (CHC.page h) CHC.STATUS_IN_GAP 0 s)) =
      fget (CHN.page h b) CHN.SYNC_FOUND s := (fget_setChan ..).trans (fget_fset_place (by decide) (by decide) (by decide))
  unfold markSeen
  rw [fget_fset_place (by decide) (by decide) (by decide), cnt, fget_cntN_below, hgap]
  rw [hgap]
  exact Nat.lt_of_lt_of_le (Nat.succ_lt_succ hroom) (by decide)

theorem fget_gap_markSeen {s : State} {h b : Nat} : fget (CHC.page h) CHC.STATUS_IN_GAP (markSeen h b s) = 0 := by
  unfold markSeen
  rw [fget_fset_place (by decide) (by decide) (by decide), fget_cnt_place (by decide) (by decide) (by decide) (by decide), fget_setChan,
    fget_fset_lt (by decide)]

theorem syncMark_found (secondary : Bool) (cands : List SyncCand) (sheltered : Bool) (c : SyncCand)
    (hlock : fon (CHN.page head.n beam) CHN.STATUS_FLOCK s = true) (hrec : recording head.n s = false)
    (hmark : bestMark (fget (CHN.page head.n beam) CHN.SYNC_CFG_SYNC_ERR s) (syncWin head.n beam s) cands = some c) (hoff : c.offset = 0)
    (hprov : (s.chan head.n beam).prov = none) (hident : c.ident.val = identOf secondary (mapFrame head.n s)) :
    Completes (.syncMark head beam secondary cands sheltered) s fun t =>
      fget (CHN.page head.n beam) CHN.STATUS_FLY_RUN t = 0 ∧ (t.chan head.n beam).marked = true ∧ (t.chan head.n beam).idRun = 0 ∧
      (fget (CHN.page head.n beam) CHN.SYNC_FOUND s < 2 ^ 32 - 1 → fget (CHN.page head.n beam) CHN.SYNC_FOUND t = fget (CHN.page head.n beam) CHN.SYNC_FOUND s + 1) ∧
      fget (CHC.page head.n) CHC.STATUS_IN_GAP t = 0 ∧ sameBut [.regs, .evq, .out, .msixPend, .chans] s t := by
  have hat : markFound head.n beam c.offset (markSeen head.n beam s) = markSeen head.n beam s := by
    rw [hoff]
    exact markFound_at ((congrArg ChanSt.prov chan_markSeen).trans hprov)
  obtain ⟨n, hagrees⟩ := checkIdent_agrees (b := beam) (s := markSeen head.n beam s) (hident.trans (congrArg _ mapFrame_markSeen.symm))
  have hexec := exec_syncMark_found (secondary := secondary) (sheltered := sheltered) hlock hrec hmark
  rw [hat, hagrees] at hexec
  refine ⟨_, hexec, ?_, ?_, ?_, fun hroom => ?_, ?_, sameBut_of (execSyncMark_kept (fun _ => rfl) (.refl s)) hexec⟩
  · rw [fget_setChan, fget_fset_place (by decide) (by decide) (by decide), markSeen, fget_fset_lt (by decide)]
  · rw [setChan_same, chan_markSeen]
  · rw [setChan_same]
  · rw [fget_setChan, fget_fset_place (by decide) (by decide) (by decide), fget_found_markSeen hroom]
  · rw [fget_setChan, fget_fset_place (by decide) (by decide) (by decide), fget_gap_markSeen]

theorem hasInt_slipped {s : State} {h b : Nat} {d : Int} : hasInt (CHN.page h b) CHN.iSLIP (slipped h b d s) := hasInt_raise (by decide)

theorem prov_slipped {s : State} {h b : Nat} {d : Int} : ((slipped h b d s).chan h b).prov = none := by
  unfold slipped
  simp only [raise_chan, cnt_chan, fset_chan, setChan_same]

theorem fget_prov_slipped {s : State} {h b : Nat} {d : Int} : fget (CHN.page h b) CHN.STATUS_PROV (slipped h b d s) = 0 := by
  unfold slipped
  dsimp only
  rw [fget_raise_place (by decide) (by decide), fget_cnt_place (by decide) (by decide) (by decide) (by decide), fget_fset_lt (by decide)]

@[simp] theorem slipped_evq {s : State} {h b : Nat} {d : Int} : (slipped h b d s).evq = s.evq := by
  unfold slipped
  simp

/-- No provisional mark is left by a loss of frame lock where none stood. -/
theorem fget_prov_flockLost {s : State} {h b c : Nat} (hprov : fget (CHN.page h b) CHN.STATUS_PROV s = 0) :
    fget (CHN.page h b) CHN.STATUS_PROV (flockLost h b c s) = 0 := by
  have hdropped : fget (CHN.page h b) CHN.STATUS_PROV (flockDropped h b c s) = 0 :=
    ite_app_kept (P := fun u => fget (CHN.page h b) CHN.STATUS_PROV u = 0)
      (by rw [fget_raise_place (by decide) (by decide), fget_raise_place (by decide) (by decide), fget_fset_lt (by decide)])
      (by rw [id, fget_raise_place (by decide) (by decide), fget_fset_lt (by decide)])
  cases hf : fon (CHN.page h b) CHN.STATUS_FLOCK s with
  | false => rwa [flockLost_unlocked hf]
  | true => rw [flockLost_locked hf, fget_emit, fget_setChan, fget_cnt_place (by decide) (by decide) (by decide) (by decide), hdropped]

/-- What stands of a slip once the mark's identifier is checked. -/
structure SlipStands (h b : Nat) (evq : List Ev) (t : State) : Prop where
  prov : (t.chan h b).prov = none
  shown : fget (CHN.page h b) CHN.STATUS_PROV t = 0
  int : hasInt (CHN.page h b) CHN.iSLIP t
  evq : evq <+: t.evq

theorem SlipStands.checkIdent {s : State} {h b ident : Nat} {secondary : Bool} {evq : List Ev} (hs : SlipStands h b evq s) :
    SlipStands h b evq (checkIdent h b secondary ident s) := by
  refine checkIdent_closed (P := SlipStands h b evq) (fun n u hu => ?_) (fun n u hu => ?_) (fun u hu => ?_) (fun u hu => ?_) (fun n u hu => ?_) hs
  · exact ⟨hu.prov, (fget_fset_place (by decide) (by decide) (by decide)).trans hu.shown, hu.int.fset (by decide) (by decide), hu.evq⟩
  · exact ⟨(congrArg ChanSt.prov setChan_same).trans hu.prov, (fget_setChan ..).trans hu.shown, (hasInt_congr (fget_setChan ..)).2 hu.int, hu.evq⟩
  · exact ⟨(congrArg ChanSt.prov cnt_chan).trans hu.prov, (fget_cnt_place (by decide) (by decide) (by decide) (by decide)).trans hu.shown,
      hu.int.cnt (by decide) (by decide), (cnt_evq ..).symm ▸ hu.evq⟩
  · exact ⟨prov_flockLost hu.prov, fget_prov_flockLost hu.shown, hu.int.flockLost (by decide), hu.evq.trans flockLost_evq_prefix⟩
  · exact ⟨hu.prov, (fget_fset_place (by decide) (by decide) (by decide)).trans hu.shown, hu.int.fset (by decide) (by decide), hu.evq⟩

theorem ofSigned_lt (w : Nat) (x : Int) : ofSigned w x < 2 ^ w := by
  have hpow : (0 : Int) < 2 ^ w := by positivity
  have hlt : x % 2 ^ w < 2 ^ w := Int.emod_lt_of_pos x hpow
  exact (Int.toNat_lt (Int.emod_nonneg x hpow.ne')).2 (by exact_mod_cast hlt)

theorem syncMark_slips (secondary : Bool) (cands : List SyncCand) (sheltered : Bool) (c : SyncCand)
    (hlock : fon (CHN.page head.n beam) CHN.STATUS_FLOCK s = true) (hrec : recording head.n s = false)
    (hmark : bestMark (fget (CHN.page head.n beam) CHN.SYNC_CFG_SYNC_ERR s) (syncWin head.n beam s) cands = some c) (hoff : c.offset ≠ 0)
    (hprov : (s.chan head.n beam).prov = some c.offset) : Completes (.syncMark head beam secondary cands sheltered) s fun t =>
      (t.chan head.n beam).prov = none ∧ fget (CHN.page head.n beam) CHN.STATUS_PROV t = 0 ∧ hasInt (CHN.page head.n beam) CHN.iSLIP t ∧
      ∃ later, t.evq = s.evq ++ ⟨0x3003, srcChan head.n, beamId head.n beam, ofSigned 32 c.offset, mapFrame head.n s % 2 ^ 32, false⟩ :: later := by
  have hexec := exec_syncMark_found (secondary := secondary) (sheltered := sheltered) hlock hrec hmark
  rw [markFound_again hoff ((congrArg ChanSt.prov chan_markSeen).trans hprov)] at hexec
  have hslip : SlipStands head.n beam
      (s.evq ++ [⟨0x3003, srcChan head.n, beamId head.n beam, ofSigned 32 c.offset, mapFrame head.n s % 2 ^ 32, false⟩])
      (emit 0x3003 (srcChan head.n) (beamId head.n beam) (ofSigned 32 c.offset) (mapFrame head.n (markSeen head.n beam s))
        (slipped head.n beam c.offset (markSeen head.n beam s))) := by
    refine ⟨prov_slipped, (fget_emit ..).trans fget_prov_slipped, (hasInt_congr (fget_emit ..)).2 hasInt_slipped, ?_⟩
    rw [emit_evq, slipped_evq, markSeen_evq, beamId_mod, Nat.mod_eq_of_lt (ofSigned_lt ..), mapFrame_markSeen]
  exact ⟨_, hexec, hslip.checkIdent.prov, hslip.checkIdent.shown, hslip.checkIdent.int, exists_later hslip.checkIdent.evq⟩

/-- A mark missed, before the run of misses is judged. -/
def markMissed (h b : Nat) (s : State) : State :=
  let u := fset (CHC.page h) CHC.STATUS_IN_GAP 0 s
  u |> cnt (CHN.page h b) CHN.SYNC_MISSED CHN.kCNT_SAT |> fset (CHN.page h b) CHN.STATUS_FLY_RUN (min 15 (fget (CHN.page h b) CHN.STATUS_FLY_RUN s + 1))

theorem fget_markMissed_place {s : State} {h b q : Nat} {g : Fld} (hg : g.inPage) (hgap : g.place ≠ CHC.STATUS_IN_GAP.place)
    (hmissed : g.place ≠ CHN.SYNC_MISSED.place) (hsticky : g.place ≠ hdrSticky.place) (hrun : g.place ≠ CHN.STATUS_FLY_RUN.place) :
    fget q g (markMissed h b s) = fget q g s := by
  unfold markMissed
  dsimp only
  rw [fget_fset_place hg (by decide) hrun, fget_cnt_place hg (by decide) hmissed hsticky, fget_fset_place hg (by decide) hgap]

@[simp] theorem markMissed_evq {s : State} {h b : Nat} : (markMissed h b s).evq = s.evq := by
  unfold markMissed
  simp

theorem hasInt_flock_flockLost {s : State} {h b c : Nat} (hf : fon (CHN.page h b) CHN.STATUS_FLOCK s = true) :
    hasInt (CHN.page h b) CHN.iFLOCK_LOST (flockLost h b c s) := by
  rw [flockLost_locked hf, hasInt, fget_emit, fget_setChan, ← hasInt]
  exact hasInt_flockDropped.cnt (by decide) (by decide)

theorem syncMark_missed (secondary : Bool) (cands : List SyncCand) (hlock : fon (CHN.page head.n beam) CHN.STATUS_FLOCK s = true)
    (hrec : recording head.n s = false) (hmark : bestMark (fget (CHN.page head.n beam) CHN.SYNC_CFG_SYNC_ERR s) (syncWin head.n beam s) cands = none)
    (hrun : nz (fget (CHN.page head.n beam) CHN.SYNC_CFG_FLY_MAX s) ≤ fget (CHN.page head.n beam) CHN.STATUS_FLY_RUN s + 1) :
    Completes (.syncMark head beam secondary cands false) s fun t => fget (CHN.page head.n beam) CHN.STATUS_FLOCK t = 0 ∧
      hasInt (CHN.page head.n beam) CHN.iFLOCK_LOST t ∧
      t.evq = s.evq ++ [⟨0x3002, srcChan head.n, beamId head.n beam, 1, fget (CHC.page head.n) CHC.CSLOT s % 2 ^ 32, false⟩] := by
  have hlocked : fon (CHN.page head.n beam) CHN.STATUS_FLOCK (markMissed head.n beam s) = true :=
    (fon_congr (fget_markMissed_place (by decide) (by decide) (by decide) (by decide) (by decide))).trans hlock
  have hexec : exec (.syncMark head beam secondary cands false) s = .next (flockLost head.n beam 1 (markMissed head.n beam s)) := by
    have hon : fon (CHN.page head.n beam) CHN.STATUS_FLOCK (fset (CHC.page head.n) CHC.STATUS_IN_GAP 0 s) = true :=
      (fon_fset_place (by decide) (by decide) (by decide)).trans hlock
    have hidle : recording head.n (fset (CHC.page head.n) CHC.STATUS_IN_GAP 0 s) = false := (fon_fset_place (by decide) (by decide) (by decide)).trans hrec
    have hread : fget (CHN.page head.n beam) CHN.STATUS_FLY_RUN (fset (CHC.page head.n) CHC.STATUS_IN_GAP 0 s) =
        fget (CHN.page head.n beam) CHN.STATUS_FLY_RUN s := fget_fset_place (by decide) (by decide) (by decide)
    have hmax : fget (CHN.page head.n beam) CHN.SYNC_CFG_FLY_MAX (markMissed head.n beam s) = fget (CHN.page head.n beam) CHN.SYNC_CFG_FLY_MAX s :=
      fget_markMissed_place (by decide) (by decide) (by decide) (by decide) (by decide)
    change execSyncMark head beam secondary cands false s = _
    unfold execSyncMark
    dsimp only
    rw [hmark, hon, hidle, hread, if_neg (by decide), if_neg Bool.false_ne_true]
    rw [← hmax] at hrun
    rw [← if_pos (c := nz _ ≤ _) hrun (t := flockLost head.n beam 1 (markMissed head.n beam s)) (e := markMissed head.n beam s)]
    rfl
  refine ⟨_, hexec, fget_flock_flockLost, hasInt_flock_flockLost hlocked, ?_⟩
  rw [flockLost_evq hlocked, markMissed_evq, beamId_mod, fget_markMissed_place (by decide) (by decide) (by decide) (by decide) (by decide),
    Nat.mod_eq_of_lt (by decide : 1 < 2 ^ 32)]

/-! ### Frame lock gained (R263) -/

theorem flockGained_locks (htlock : fon (CHN.page head.n beam) CHN.STATUS_TLOCK s = true) (hflock : fon (CHN.page head.n beam) CHN.STATUS_FLOCK s = false) :
    Completes (.flockGained head beam) s fun t =>
    fget (CHN.page head.n beam) CHN.STATUS_FLOCK t = 1 ∧ fget (CHN.page head.n beam) CHN.STATUS_FLY_RUN t = 0 ∧ hasInt (CHN.page head.n beam) CHN.iFLOCK_GAINED t ∧
    (beam = 0 → fget (CHC.page head.n) CHC.STATUS_FLOCK_D0 t = 1) ∧ (t.chan head.n beam).prov = none ∧ sameBut [.regs, .out, .msixPend, .chans] s t := by
  have hexec : exec (.flockGained head beam) s = .next (s |> showFlock head.n beam true |> raise (CHN.page head.n beam) CHN.iFLOCK_GAINED
      |> fset (CHN.page head.n beam) CHN.STATUS_FLY_RUN 0 |> setChan head.n beam { s.chan head.n beam with prov := none, idRun := 0, marked := true }) := by
    change execFlockGained head beam s = _
    unfold execFlockGained
    dsimp only
    rw [htlock, hflock]
    rfl
  refine ⟨_, hexec, ?_, ?_, ?_, ?_, congrArg ChanSt.prov setChan_same, sameBut_of (execFlockGained_kept (fun _ => rfl) (.refl s)) hexec⟩
  · rw [fget_setChan, fget_fset_place (by decide) (by decide) (by decide), fget_raise_place (by decide) (by decide), fget_flock_showFlock]
    rfl
  · rw [fget_setChan, fget_fset_lt (by decide)]
  · rw [hasInt, fget_setChan, ← hasInt]
    exact (hasInt_raise (by decide)).fset (by decide) (by decide)
  · rintro rfl
    rw [fget_setChan, fget_fset_place (by decide) (by decide) (by decide), fget_raise_place (by decide) (by decide)]
    exact fget_d0_showFlock

/-! ### Frames (R255, R256) -/

theorem length_flatten_pairs {α : Type} (xs : List α) : ((xs.map fun x => [x, x]).flatten).length = 2 * xs.length := by
  induction xs with
  | nil => rfl
  | cons x xs ih =>
    rw [List.map_cons, List.flatten_cons, List.length_append, ih, List.length_cons]
    exact (Nat.add_comm ..)

theorem mem_flatten_pairs {α : Type} {x : α} {xs : List α} (h : x ∈ (xs.map fun y => [y, y]).flatten) : x ∈ xs := by
  obtain ⟨l, hl, hx⟩ := List.mem_flatten.1 h
  obtain ⟨y, hy, rfl⟩ := List.mem_map.1 hl
  obtain rfl : x = y := by simpa using hx
  exact hy

theorem frameDelivery_delivers (rf : List (List Int)) (s' : State) (hs' : s' = rfSamples head.n rf s) (hen : fon (CHN.page head.n beam) CHN.CTRL_EN s' = true)
    (hrec : recording head.n s' = false) (hmode : fget (CHC.page head.n) CHC.STATUS_MODE s' = 0) :
    Completes (.frameDelivery head beam rf) s fun t => (t.chan head.n beam).outs = (s'.chan head.n beam).outs.drop 1680 ∧
      ((s.head head.n).discard = true → t.frames = s.frames) ∧
      ((s.head head.n).discard = false → ∃ fr, t.frames = s.frames ++ [fr] ∧ fr.psa = beamPsa head.n beam s' ∧ fr.frame = mapFrame head.n s' ∧ fr.llrs.length = 1536 ∧
        fr.flags.length = 192 ∧ (fon (CHN.page head.n beam) CHN.STATUS_FLOCK s' = false → (∀ l ∈ fr.llrs, l = 0) ∧ ∀ f ∈ fr.flags, f = true)) ∧
      sameBut [.regs, .chans, .commons, .frames] s t := by
  change ∃ t, execFrameDelivery head beam rf s = .next t ∧ _
  unfold execFrameDelivery
  extract_lets h p u c bs v lock ws flags zero llrs sat low fr w
  have hu : u = s' := hs'.symm
  have hchan : (v.chan h beam).outs = (s'.chan h beam).outs.drop 1680 :=
    (congrArg ChanSt.outs setChan_same).trans (congrArg (fun x => (x.chan h beam).outs.drop 1680) hu)
  have hv : ∀ {α : Type} {m : State → α}, (∀ x, m x = m { x with regs := [], chans := [] }) → Kept m s v := fun hm =>
    setChan_kept (sub hm) (rfSamples_kept (sub hm) (.refl s))
  have hunlocked : fon p CHN.STATUS_FLOCK s' = false → lock = false := fun hf => by
    have hshown : fon p CHN.STATUS_FLOCK v = false := (congrArg (fon p CHN.STATUS_FLOCK) hu).trans hf
    simp only [lock, hshown, Bool.false_and]
  have hshown : ∀ q g, fget q g v = fget q g s' := fun q g => (fget_setChan ..).trans (congrArg (fget q g) hu)
  have hpsa : fr.psa = beamPsa h beam s' := by simp only [fr, beamPsa, hshown]
  have hframe : fr.frame = mapFrame h s' := by simp only [fr, mapFrame, hshown]
  clear_value v lock
  have hcount : flags.length = 96 := (List.length_map _).trans List.length_range
  have herased : lock = false → ∀ f ∈ flags, f = true := fun hl => by simp [flags, hl]
  clear_value flags
  have hllrs : llrs.length = 1536 := (List.length_map _).trans List.length_range
  have hzero : lock = false → ∀ l ∈ llrs, l = 0 := fun hl l hmem => by
    obtain ⟨i, -, rfl⟩ := List.mem_map.1 hmem
    exact if_pos (by rw [hl, Bool.not_false, Bool.true_or])
  clear_value llrs
  have hw : ∀ {α : Type} {m : State → α}, (∀ x, m x = m { x with regs := [] }) → Kept m v w := fun {_ m} hm => by
    have hcounted : Kept m v (cntN p CHN.LOW_LLR_CNT CHN.kCNT_SAT low (cntN p CHN.ERAS_BYTES CHN.kCNT_SAT (2 * (flags.filter id).length) v)) :=
      cntN_kept (sub hm) (cntN_kept (sub hm) (.refl v))
    exact ite_app_kept (P := fun x => Kept m v x) (sticky_kept (sub hm) hcounted) hcounted
  clear_value w
  have hframes : w.frames = s.frames := ((hv fun _ => rfl).trans (hw fun _ => rfl)).view
  have hdiscard : (w.head h).discard = (s.head h).discard := ((hv (m := fun x => (x.head h).discard) fun _ => rfl).trans (hw fun _ => rfl)).view
  have hdone : ∀ {α : Type} {m : State → α}, (∀ x, m x = m { x with regs := [], chans := [], frames := [] }) →
      Kept m s { w with frames := if (w.head h).discard then w.frames else w.frames ++ [fr] } := fun hm =>
    Kept.with hm ((hv (sub hm)).trans (hw (sub hm)))
  rw [if_neg (by simp [hu, h, p, hen, hrec, hmode])]
  refine ⟨_, rfl, ((hw (m := fun x => (x.chan h beam).outs) fun _ => rfl).view).trans hchan, fun hd => ?_,
    fun hd => ⟨fr, ?_, hpsa, hframe, hllrs, ?_, fun hlock => ⟨hzero (hunlocked hlock), ?_⟩⟩, ?_⟩
  · exact (if_pos (hdiscard.trans hd)).trans hframes
  · exact (if_neg (by rw [hdiscard, hd]; exact Bool.false_ne_true)).trans (congrArg (· ++ [fr]) hframes)
  · exact (length_flatten_pairs flags).trans (congrArg (2 * ·) hcount)
  · exact fun f hmem => herased (hunlocked hlock) f (mem_flatten_pairs hmem)
  · exact sameBut_of_kept (hdone fun _ => rfl)

end Sys2Proof.Machine
end

section
/-!
PROOFS. Blank slots (R264, R268) and quality windows (R252, R273); the obligation on the beam channels.
-/
namespace Sys2Proof.Machine

variable (s : State) (head : Head) (beam : Fin 8)

/-! ### Frame slots (R264, R285) -/

/-- The places that the common page's position of D0 is shown at. -/
def slotPlaces : List Nat := [CHC.GROUP, CHC.FSLOT, CHC.CSLOT, CHC.CFRAME].map Fld.place

theorem fget_showSlot_place {s : State} {h k q : Nat} {g : Fld} (hg : g.inPage) (hne : g.place ∉ slotPlaces) : fget q g (showSlot h k s) = fget q g s := by
  simp only [slotPlaces, List.map_cons, List.map_nil, List.mem_cons, List.not_mem_nil, or_false, not_or] at hne
  obtain ⟨hgroup, hfslot, hcslot, hcframe⟩ := hne
  have hslot : fget q g (fset (CHC.page h) CHC.FSLOT k (fset (CHC.page h) CHC.GROUP (posGroup h s) s)) = fget q g s :=
    (fget_fset_place hg (by decide) hfslot).trans (fget_fset_place hg (by decide) hgroup)
  unfold showSlot
  dsimp only
  split
  · split
    · rw [fget_fset_place hg (by decide) hcframe, fget_fset_place hg (by decide) hcslot, hslot]
    · rw [fget_fset_place hg (by decide) hcframe, hslot]
  · exact hslot

theorem fget_fslot_showSlot {s : State} {h k : Nat} : fget (CHC.page h) CHC.FSLOT (showSlot h k s) = k % 2 ^ 13 := by
  have hslot : fget (CHC.page h) CHC.FSLOT (fset (CHC.page h) CHC.FSLOT k (fset (CHC.page h) CHC.GROUP (posGroup h s) s)) = k % 2 ^ 13 :=
    fget_fset_same ..
  unfold showSlot
  dsimp only
  split
  · split
    · rw [fget_fset_place (by decide) (by decide) (by decide), fget_fset_place (by decide) (by decide) (by decide), hslot]
    · rw [fget_fset_place (by decide) (by decide) (by decide), hslot]
  · exact hslot

@[simp] theorem showSlot_chan {s : State} {h k i j : Nat} : (showSlot h k s).chan i j = s.chan i j :=
  (showSlot_kept (m := fun u => u.chan i j) (fun _ => rfl) (.refl s)).view

theorem fget_slotDone {s : State} {h b q : Nat} {g : Fld} : fget q g (slotDone h b s) = fget q g s :=
  (slotDone_kept (m := fun u => fget q g u) (fun _ => rfl) (.refl s)).view

theorem marked_slotDone {s : State} {h b : Nat} : ((slotDone h b s).chan h b).marked = (s.chan h b).marked := by
  unfold slotDone
  extract_lets c u
  have hmarked : (u.chan h b).marked = (s.chan h b).marked := by
    unfold u
    rw [setChan_same]
  clear_value u
  split <;> exact hmarked

theorem fget_ite_cnt_place {P : Prop} [Decidable P] {s : State} {p q k : Nat} {f g : Fld} (hg : g.inPage) (hf : f.inPage) (hne : g.place ≠ f.place)
    (hsticky : g.place ≠ hdrSticky.place) : fget q g ((if P then cnt p f k else id) s) = fget q g s :=
  ite_app_kept (P := fun u => fget q g u = fget q g s) (fget_cnt_place hg hf hne hsticky) rfl

theorem fget_ite_fset_place {P : Prop} [Decidable P] {s : State} {p q v : Nat} {f g : Fld} (hg : g.inPage) (hf : f.inPage) (hne : g.place ≠ f.place) :
    fget q g ((if P then fset p f v else id) s) = fget q g s :=
  ite_app_kept (P := fun u => fget q g u = fget q g s) (fget_fset_place hg hf hne) rfl

theorem fget_fsetB_place {s : State} {p q : Nat} {on : Bool} {f g : Fld} (hg : g.inPage) (hf : f.inPage) (hne : g.place ≠ f.place) :
    fget q g (fsetB p f on s) = fget q g s := fget_fset_place hg hf hne

theorem frameSlotEnd_shows (level env ref : Nat) (hrec : recording head.n s = false) : Completes (.frameSlotEnd head beam level env ref) s fun t =>
    fget (CHN.page head.n beam) CHN.STATUS_BLANK t = b2n (!(s.chan head.n beam).marked && decide (level < fget (CHN.page head.n beam) CHN.DEF_CFG2_BLANK_THR s)) ∧
    fget (CHN.page head.n beam) CHN.ENV_ENV_NOW t = env % 2 ^ 16 ∧ (t.chan head.n beam).marked = false ∧
    (beam = 0 → fget (CHC.page head.n) CHC.STATUS_IN_GAP t = 0 ∧ fget (CHC.page head.n) CHC.FSLOT t = (fget (CHC.page head.n) CHC.FSLOT s + 1) % 2 ^ 13) ∧
    sameBut [.regs, .chans, .frames, .blanks] s t := by
  change ∃ t, execFrameSlotEnd head beam level env ref s = .next t ∧ _
  unfold execFrameSlotEnd
  extract_lets h p c blank good age f data u v
  have hblank : fget p CHN.STATUS_BLANK u = b2n blank := by
    unfold u
    rw [fget_setChan, fget_fsetB_place (by decide) (by decide) (by decide), fget_ite_fset_place (by decide) (by decide) (by decide),
      fget_fset_place (by decide) (by decide) (by decide), fget_ite_cnt_place (by decide) (by decide) (by decide) (by decide)]
    exact fget_fsetB_same _ _ _ _ (by decide)
  have henv : fget p CHN.ENV_ENV_NOW u = env % 2 ^ 16 := by
    unfold u
    rw [fget_setChan, fget_fsetB_place (by decide) (by decide) (by decide), fget_ite_fset_place (by decide) (by decide) (by decide), fget_fset_same]
    rfl
  have hfslot : fget (CHC.page h) CHC.FSLOT u = fget (CHC.page h) CHC.FSLOT s := by
    unfold u
    rw [fget_setChan, fget_fsetB_place (by decide) (by decide) (by decide), fget_ite_fset_place (by decide) (by decide) (by decide),
      fget_fset_place (by decide) (by decide) (by decide), fget_ite_cnt_place (by decide) (by decide) (by decide) (by decide),
      fget_fsetB_place (by decide) (by decide) (by decide)]
  have hmarked : (u.chan h beam).marked = false := congrArg ChanSt.marked setChan_same
  have hu : ∀ {α : Type} {m : State → α}, (∀ x, m x = m { x with regs := [], chans := [] }) → Kept m s u := fun {_ m} hm => by
    have hshown : Kept m s (fsetB p CHN.STATUS_BLANK blank s) := fsetB_kept (sub hm) (.refl s)
    have hcounted : Kept m s ((if blank then cnt p CHN.BLANK_SLOTS CHN.kCNT_SAT else id) (fsetB p CHN.STATUS_BLANK blank s)) :=
      ite_app_kept (P := fun x => Kept m s x) (cnt_kept (sub hm) hshown) hshown
    have hnow : Kept m s (fset p CHN.ENV_ENV_NOW env _) := fset_kept (sub hm) hcounted
    exact setChan_kept (sub hm) (fsetB_kept (sub hm) (ite_app_kept (P := fun x => Kept m s x) (fset_kept (sub hm) hnow) hnow))
  clear_value u
  have hv : ∀ q g, fget q g v = fget q g u := fun q g => ite_kept (P := fun x => fget q g x = fget q g u) fget_slotDone rfl
  have hvmarked : (v.chan h beam).marked = false := ite_kept (P := fun x : State => (x.chan h beam).marked = false) (marked_slotDone.trans hmarked) hmarked
  have hvkept : ∀ {α : Type} {m : State → α}, (∀ x, m x = m { x with regs := [], chans := [], frames := [], blanks := [] }) → Kept m s v := fun {_ m} hm =>
    ite_kept (P := fun x => Kept m s x) (slotDone_kept (sub hm) (hu (sub hm))) (hu (sub hm))
  clear_value v
  rw [if_neg (by simp [h, hrec])]
  refine ⟨_, rfl, ?_⟩
  split
  next hd0 =>
    refine ⟨?_, ?_, ?_, fun _ => ⟨?_, ?_⟩, sameBut_of_kept (showSlot_kept (fun _ => rfl) (fset_kept (fun _ => rfl) (hvkept fun _ => rfl)))⟩
    · rw [fget_showSlot_place (by decide) (by decide), fget_fset_place (by decide) (by decide) (by decide), hv]
      exact hblank
    · rw [fget_showSlot_place (by decide) (by decide), fget_fset_place (by decide) (by decide) (by decide), hv]
      exact henv
    · rw [showSlot_chan, fset_chan]
      exact hvmarked
    · rw [fget_showSlot_place (by decide) (by decide), fget_fset_lt (by decide)]
    · rw [fget_fslot_showSlot, hv, hfslot]
  next hother => exact ⟨(hv ..).trans hblank, (hv ..).trans henv, hvmarked, fun hd0 => absurd hd0 hother, sameBut_of_kept (hvkept fun _ => rfl)⟩

/-! ### Quality windows (R252, R273) -/

/-- No tap lies at a field below or above the tap registers. -/
theorem tap_place_ne {g : Fld} {i : Nat} (htap : g.place < 0x1000 ∨ 0x1800 ≤ g.place) (hi : i < 16) :
    (CHN.EQ_TAP_EVEN.ix i).inPage ∧ (CHN.EQ_TAP_ODD.ix i).inPage ∧ g.place ≠ (CHN.EQ_TAP_EVEN.ix i).place ∧ g.place ≠ (CHN.EQ_TAP_ODD.ix i).place := by
  simp only [Fld.inPage, Fld.place, Fld.ix, CHN.EQ_TAP_EVEN, CHN.EQ_TAP_ODD, regs] at htap ⊢
  omega

theorem fget_tapsReset_place {s : State} {h b n q : Nat} {g : Fld} (hn : n ≤ 16) (hg : g.inPage) (htap : g.place < 0x1000 ∨ 0x1800 ≤ g.place) :
    fget q g (tapsReset h b n s) = fget q g s :=
  foldl_range_same (m := fun u => fget q g u) fun u i hi => by
    obtain ⟨heven, hodd, hneEven, hneOdd⟩ := tap_place_ne htap (Nat.lt_of_lt_of_le hi hn)
    exact (fget_fclr_place hg hodd hneOdd).trans (fget_fclr_place hg heven hneEven)

/-- A stored set, or the reset values, loaded into a beam's taps writes the taps alone. -/
theorem fget_loadSet_place {s : State} {h b layer q : Nat} {g : Fld} (hg : g.inPage) (htap : g.place < 0x1000 ∨ 0x1800 ≤ g.place) :
    fget q g (loadSet h b layer s) = fget q g s := by
  unfold loadSet
  split
  · refine foldl_range_same (m := fun u => fget q g u) fun u i hi => ?_
    obtain ⟨heven, hodd, hneEven, hneOdd⟩ := tap_place_ne htap (Nat.lt_trans hi (by decide))
    exact (fget_fset_place hg hodd hneOdd).trans (fget_fset_place hg heven hneEven)
  · exact fget_tapsReset_place (le_refl 16) hg htap

theorem fget_supervise_place {s : State} {h b mse last cqi q : Nat} {g : Fld} (hg : g.inPage) (htap : g.place < 0x1000 ∨ 0x1800 ≤ g.place)
    (hint : g.place ≠ hdrIntStatus.place) (hcnt : g.place ≠ EQS.EQ_RESTORES.place) (hsticky : g.place ≠ hdrSticky.place) :
    fget q g (supervise h b mse last cqi s) = fget q g s := by
  unfold supervise
  dsimp only
  split
  · rw [fget_emit, fget_cnt_place hg (by decide) hcnt hsticky, fget_raise_place hg hint, fget_loadSet_place hg htap]
  · rfl

theorem hasInt.supervise {s : State} {h b mse last cqi p k : Nat} (hi : hasInt p k s) (hk : k < 32) : hasInt p k (supervise h b mse last cqi s) := by
  unfold Machine.supervise
  dsimp only
  split
  · rw [hasInt, fget_emit, ← hasInt]
    exact (((hasInt_congr (fget_loadSet_place (by decide) (by decide))).2 hi).raise hk).cnt (by decide) (by decide)
  · exact hi

theorem supervise_evq_prefix {s : State} {h b mse last cqi : Nat} : s.evq <+: (supervise h b mse last cqi s).evq := by
  unfold supervise
  dsimp only
  split
  · rw [emit_evq, cnt_evq, raise_evq, (loadSet_kept (m := State.evq) (fun _ => rfl) (.refl s)).view]
    exact List.prefix_append ..
  · exact List.prefix_refl _

@[simp] theorem supervise_chan {s : State} {h b mse last cqi i j : Nat} : (supervise h b mse last cqi s).chan i j = s.chan i j :=
  (supervise_kept (m := fun u => u.chan i j) (fun _ => rfl) (.refl s)).view

theorem cqiOf_le (pt mse : Nat) : cqiOf pt mse ≤ 4000 := by
  unfold cqiOf
  dsimp only
  exact (List.length_filter_le ..).trans_eq List.length_range

theorem fget_fmin_place {s : State} {p q v : Nat} {f g : Fld} (hg : g.inPage) (hf : f.inPage) (hne : g.place ≠ f.place) :
    fget q g (fmin p f v s) = fget q g s := ite_kept (P := fun u => fget q g u = fget q g s) (fget_fset_place hg hf hne) rfl

theorem fget_fmin_same {s : State} {p v : Nat} {f : Fld} (hv : v < 2 ^ f.width) : fget p f (fmin p f v s) = min (fget p f s) v := by
  unfold fmin
  split
  next hless => rw [fget_fset_lt hv, Nat.min_eq_right (Nat.le_of_lt hless)]
  next hmore => rw [Nat.min_eq_left (Nat.le_of_not_lt hmore)]

theorem cqiWindow_shows (mse : BitVec 32) : Completes (.cqiWindow head beam mse) s fun t => fget (CHN.page head.n beam) CHN.MSE t = mse.toNat ∧
    fget (CHN.page head.n beam) CHN.CQI t = cqiOf (targetPower (s.chan head.n beam)) mse.toNat ∧
    fget (CHN.page head.n beam) CHN.CQI_MIN t = min (fget (CHN.page head.n beam) CHN.CQI_MIN s) (cqiOf (targetPower (s.chan head.n beam)) mse.toNat) ∧
    (t.chan head.n beam).lastMse = mse.toNat ∧
    (cqiOf (targetPower (s.chan head.n beam)) mse.toNat < fget (CHN.page head.n beam) CHN.CQI_CFG_CQI_FLOOR s → (s.chan head.n beam).lowCqi = false →
      hasInt (CHN.page head.n beam) CHN.iCQI_LOW t ∧ ∃ later, t.evq = s.evq ++ ⟨0x3006, srcChan head.n, beamId head.n beam,
        cqiOf (targetPower (s.chan head.n beam)) mse.toNat, fget (CHN.page head.n beam) CHN.CQI_CFG_CQI_FLOOR s % 2 ^ 32, false⟩ :: later) ∧
    sameBut [.regs, .evq, .out, .msixPend, .chans] s t := by
  have hcqi : cqiOf (targetPower (s.chan head.n beam)) mse.toNat < 2 ^ 12 := Nat.lt_of_le_of_lt (cqiOf_le ..) (by decide)
  change ∃ t, execCqiWindow head beam mse s = .next t ∧ _
  unfold execCqiWindow
  extract_lets h p c q floor' low u v
  have hmse : fget p CHN.MSE u = mse.toNat := by
    unfold u
    rw [fget_setChan, fget_fmin_place (by decide) (by decide) (by decide), fget_fset_place (by decide) (by decide) (by decide), fget_fset_lt mse.isLt]
  have hq : fget p CHN.CQI u = q := by
    unfold u
    rw [fget_setChan, fget_fmin_place (by decide) (by decide) (by decide), fget_fset_lt hcqi]
  have hmin : fget p CHN.CQI_MIN u = min (fget p CHN.CQI_MIN s) q := by
    unfold u
    rw [fget_setChan, fget_fmin_same hcqi, fget_fset_place (by decide) (by decide) (by decide), fget_fset_place (by decide) (by decide) (by decide)]
  have hlast : (u.chan h beam).lastMse = mse.toNat := congrArg ChanSt.lastMse setChan_same
  have hu : ∀ {α : Type} {m : State → α}, (∀ x, m x = m { x with regs := [], chans := [] }) → Kept m s u := fun hm =>
    setChan_kept (sub hm) (fmin_kept (sub hm) (fset_kept (sub hm) (fset_kept (sub hm) (.refl s))))
  clear_value u
  have hv : ∀ g : Fld, g.place ≠ hdrIntStatus.place → g.inPage → fget p g v = fget p g u := fun g hne hg =>
    ite_kept (P := fun x => fget p g x = fget p g u) ((fget_emit ..).trans (fget_raise_place hg hne)) rfl
  have hvlast : (v.chan h beam).lastMse = mse.toNat :=
    ite_kept (P := fun x : State => (x.chan h beam).lastMse = mse.toNat) ((congrArg ChanSt.lastMse raise_chan).trans hlast) hlast
  have hvlow : q < floor' → c.lowCqi = false → hasInt p CHN.iCQI_LOW v ∧
      v.evq = s.evq ++ [⟨0x3006, srcChan h, beamId h beam, q, floor' % 2 ^ 32, false⟩] := fun hless hfirst => by
    have hlow : low = true := by simp [low, hless, hfirst]
    unfold v
    rw [if_pos hlow]
    refine ⟨(hasInt_congr (fget_emit ..)).2 (hasInt_raise (by decide)), ?_⟩
    rw [emit_evq, raise_evq, beamId_mod, Nat.mod_eq_of_lt (Nat.lt_trans hcqi (by decide)), (hu (m := State.evq) fun _ => rfl).view]
  have hvkept : ∀ {α : Type} {m : State → α}, (∀ x, m x = m { x with regs := [], evq := [], out := [], msixPend := 0, chans := [] }) → Kept m s v :=
    fun {_ m} hm => ite_kept (P := fun x => Kept m s x) (emit_kept (sub hm) (raise_kept (sub hm) (hu (sub hm)))) (hu (sub hm))
  clear_value v
  refine ⟨_, rfl, ?_, ?_, ?_, ?_, fun hless hfirst => ?_, sameBut_of_kept (supervise_kept (fun _ => rfl) (hvkept fun _ => rfl))⟩
  · rw [fget_supervise_place (by decide) (by decide) (by decide) (by decide) (by decide)]
    exact (hv _ (by decide) (by decide)).trans hmse
  · rw [fget_supervise_place (by decide) (by decide) (by decide) (by decide) (by decide)]
    exact (hv _ (by decide) (by decide)).trans hq
  · rw [fget_supervise_place (by decide) (by decide) (by decide) (by decide) (by decide)]
    exact (hv _ (by decide) (by decide)).trans hmin
  · rw [supervise_chan]
    exact hvlast
  · obtain ⟨hint, hevq⟩ := hvlow hless hfirst
    exact ⟨hint.supervise (by decide), exists_later (hevq ▸ supervise_evq_prefix)⟩

/-- Settles O27: each command by the rule of what it does to the channel, in the order of the statement. -/
theorem beamChannels : Obligations.BeamChannels := fun s head beam =>
  ⟨targetWrite_wants s, targetWrite_mode s, tedWindow_locks s head beam, tedWindow_unlocks s head beam, tedWindow_idle s head beam,
    acquisitionFailed_told s head beam, gainStep_steps s head beam, gainStep_none s head beam, eqReset_resets s head beam,
    syncMark_unlocked s head beam, syncMark_found s head beam, syncMark_slips s head beam, syncMark_missed s head beam,
    flockGained_locks s head beam, frameDelivery_delivers s head beam, frameSlotEnd_shows s head beam, cqiWindow_shows s head beam⟩

end Sys2Proof.Machine
end

section
/-!
PROOFS. SPINCMD below its stop speed (R211) and the start of homing (R225, R229). A state holds a register field as a number that need not
fit the field, where what a command writes does (R605). STATUS.SPINCMD_STOP, where it stands, is left as it is, and LOAD.I_ACT takes
CUR_CFG.I_RUN cut to twelve bits: the clauses that say the one reads 1 and the other reads as I_RUN fail where the state holds 2 for
SPINCMD_STOP and 2^12 for I_RUN.
-/
namespace Sys2Proof.Machine

variable {s : State} {q cmd : Nat} {g : Fld}

/-! ### A stop request that stands (R211) -/

/-- A new ceiling writes INT_STATUS and SPEED_EFF. -/
theorem fget_newCeiling (hg : g.inPage) (hint : g.place ≠ hdrIntStatus.place) (hrpm : g.key q ≠ SPN.SPEED_EFF_RPM.key SPN.page)
    (hceil : g.key q ≠ SPN.SPEED_EFF_CEIL_ACT.key SPN.page) : fget q g (newCeiling cmd s) = fget q g s := by
  have htaken : ∀ {v p1 p2}, fget q g (newTarget (emit 0x2108 srcSpin 0 p1 p2 (raise SPN.page SPN.iSPINCMD_CHG (setSpin v s)))) = fget q g s := by
    intros
    rw [fget_newTarget hrpm hceil, fget_emit, fget_raise_place hg hint, fget_setSpin]
  exact ite_kept (P := fun t => fget q g t = fget q g s) htaken rfl

/-- A command below the stop speed leaves a stop request that stands as it is. -/
theorem spincmdStop_of_stopped (hlow : cmd < fget SPN.page SPN.SPINCMD_CFG_STOP_RPM s) (hstop : fon SPN.page SPN.STATUS_SPINCMD_STOP s = true) :
    spincmdStop cmd s = s := by
  unfold spincmdStop
  dsimp only
  rw [if_pos hlow, if_pos hstop]

/-- The speed commanded shown and its ceiling taken, before the stop request of R211. -/
def spincmdShown (raw : BitVec 16) (s : State) : State :=
  s |> fset SPN.page SPN.SPINCMD_VAL_RAW raw.toNat |> fset SPN.page SPN.SPINCMD_VAL_CMD_RPM (spincmdRpm raw.toNat s)
    |> newCeiling (spincmdRpm raw.toNat s)

theorem exec_spincmdChange {raw : BitVec 16} (hen : fon SPN.page SPN.SPINCMD_CFG_EN s = true) :
    exec (.spincmdChange raw) s = .next (spincmdStop (spincmdRpm raw.toNat s) (spincmdShown raw s)) := by
  change execSpincmdChange raw s = _
  simp [execSpincmdChange, hen, spincmdShown]

/-- What SPINCMD shows and its ceiling write SPINCMD_VAL, INT_STATUS and SPEED_EFF. -/
theorem fget_spincmdShown {raw : BitVec 16} (hg : g.inPage) (hraw : g.place ≠ SPN.SPINCMD_VAL_RAW.place)
    (hcmd : g.place ≠ SPN.SPINCMD_VAL_CMD_RPM.place) (hint : g.place ≠ hdrIntStatus.place) (hrpm : g.key q ≠ SPN.SPEED_EFF_RPM.key SPN.page)
    (hceil : g.key q ≠ SPN.SPEED_EFF_CEIL_ACT.key SPN.page) : fget q g (spincmdShown raw s) = fget q g s := by
  unfold spincmdShown
  rw [fget_newCeiling hg hint hrpm hceil, fget_fset_place hg (by decide) hcmd, fget_fset_place hg (by decide) hraw]

theorem fget_stop_spincmdShown {raw : BitVec 16} :
    fget SPN.page SPN.STATUS_SPINCMD_STOP (spincmdShown raw s) = fget SPN.page SPN.STATUS_SPINCMD_STOP s :=
  fget_spincmdShown (by decide) (by decide) (by decide) (by decide) (by decide) (by decide)

/-- Where a stop request stands, a change of SPINCMD below the stop speed does no more than show the speed and take the ceiling. -/
theorem exec_spincmdChange_of_stopped {raw : BitVec 16} (hen : fon SPN.page SPN.SPINCMD_CFG_EN s = true)
    (hlow : spincmdRpm raw.toNat s < fget SPN.page SPN.SPINCMD_CFG_STOP_RPM s) (hstop : fon SPN.page SPN.STATUS_SPINCMD_STOP s = true) :
    exec (.spincmdChange raw) s = .next (spincmdShown raw s) := by
  have hlim : fget SPN.page SPN.SPINCMD_CFG_STOP_RPM (spincmdShown raw s) = fget SPN.page SPN.SPINCMD_CFG_STOP_RPM s :=
    fget_spincmdShown (by decide) (by decide) (by decide) (by decide) (by decide) (by decide)
  have hstays : fon SPN.page SPN.STATUS_SPINCMD_STOP (spincmdShown raw s) = true := (fon_congr fget_stop_spincmdShown).trans hstop
  rw [exec_spincmdChange hen, spincmdStop_of_stopped (hlim ▸ hlow) hstays]

/-- SPINCMD enabled, with the stop request standing as the number 2. -/
def overwideStop : State :=
  { regs := [(SPN.STATUS_SPINCMD_STOP.key SPN.page, 2), (SPN.SPINCMD_CFG_EN.key SPN.page, 1)] }

/-- Refutes O25: in a state that holds 2 for STATUS.SPINCMD_STOP, a SPINCMD of 0 rpm leaves it 2, where the clause of the stop request says
that it reads 1. -/
theorem not_spindle : ¬ Obligations.Spindle := by
  intro h
  have hen : fon SPN.page SPN.SPINCMD_CFG_EN overwideStop = true := by decide
  have hstop : fget SPN.page SPN.STATUS_SPINCMD_STOP overwideStop = 2 := by decide
  have hlow : spincmdRpm (0 : BitVec 16).toNat overwideStop < fget SPN.page SPN.SPINCMD_CFG_STOP_RPM overwideStop := by decide
  obtain ⟨-, -, -, -, -, -, -, -, -, -, -, -, -, -, -, -, -, -, -, -, -, -, -, -, -, -, -, hchange, -⟩ := h overwideStop
  obtain ⟨t, ht, -, -, -, hstopped, -⟩ := hchange 0 hen
  have hrun := exec_spincmdChange_of_stopped hen hlow (by simp [fon, hstop])
  obtain rfl : spincmdShown 0 overwideStop = t := Host.Outcome.next.inj (hrun.symm.trans ht)
  obtain ⟨hone, -⟩ := hstopped hlow
  have htwo : fget SPN.page SPN.STATUS_SPINCMD_STOP (spincmdShown 0 overwideStop) = 2 := fget_stop_spincmdShown.trans hstop
  omega

/-! ### The current of a homing (R225, R229) -/

/-- Homing runs at I_RUN, as far as it fits LOAD.I_ACT. -/
theorem fget_current_homeStart {h : Nat} (hen : fon (SLD.page h) SLD.CTRL_EN s = true) (hwarn : fon PWR.page PWR.STATUS_VMOT_WARN s = false) :
    fget (SLD.page h) SLD.LOAD_I_ACT (homeStart h s) = trunc SLD.LOAD_I_ACT.width (fget (SLD.page h) SLD.CUR_CFG_I_RUN s) := by
  unfold homeStart homeStep sledCurrent
  simp only [hen, hwarn, Bool.not_true, Bool.false_eq_true, if_false]
  rw [fget_setSled, fget_fsetB_place (by decide) (by decide) (by decide), fget_fset_same]

/-- Head L's sled enabled, and CUR_CFG.I_RUN at 2^12. -/
def overwideRun : State := { regs := [(SLD.CTRL_EN.key (SLD.page 0), 1), (SLD.CUR_CFG_I_RUN.key (SLD.page 0), 2 ^ 12)] }

/-- Refutes O26: in a state that holds 2^12 for CUR_CFG.I_RUN, homing leaves 0 in LOAD.I_ACT, where its clause says that it reads as I_RUN. -/
theorem not_sleds : ¬ Obligations.Sleds := by
  intro h
  have hen : fon (SLD.page 0) SLD.CTRL_EN overwideRun = true := by decide
  have hwarn : fon PWR.page PWR.STATUS_VMOT_WARN overwideRun = false := by decide
  have hrun : fget (SLD.page 0) SLD.CUR_CFG_I_RUN overwideRun = 2 ^ 12 := by decide
  obtain ⟨-, -, -, -, -, -, -, -, -, -, -, hhome, -⟩ := h overwideRun .L
  obtain ⟨t, ht, -, -, -, -, -, hcurrent, -⟩ := hhome hen hwarn
  obtain rfl : homeStart 0 overwideRun = t := Host.Outcome.next.inj ht
  have hcut : fget (SLD.page 0) SLD.LOAD_I_ACT (homeStart 0 overwideRun) = 0 :=
    (fget_current_homeStart hen hwarn).trans (congrArg (trunc _) hrun)
  exact absurd (hcut.symm.trans (hcurrent.trans hrun)) (by decide)

end Sys2Proof.Machine
end

section
/-!
PROOFS. SQUALL_ABANDON (R310) at a full counter: SQ_ABANDONED is a field of sixteen bits, and a counter saturates (R318), where
the clause of the abandonment says that it counts on below 2^32 - 1.
-/
namespace Sys2Proof.Machine

variable {s : State} {p c : Nat} {f : Fld}

/-- A counter at its largest value stays there. -/
theorem fget_cnt_full (hg : f.inPage) (hplace : f.place ≠ hdrSticky.place) (hfull : fget p f s = 2 ^ f.width - 1) : fget p f (cnt p f c s) = 2 ^ f.width - 1 := by
  have hpos : 0 < 2 ^ f.width := Nat.two_pow_pos _
  unfold cnt cntN
  dsimp only
  rw [if_neg (by omega)]
  exact (fget_fset_place hg (by decide) hplace).trans (fget_fset_lt (by omega))

/-- A cluster that leaves SQUALL changes no counter. -/
theorem fget_abandoned_sqRelease {psa : Nat} : fget DEC.page DEC.SQ_ABANDONED (sqRelease psa s) = fget DEC.page DEC.SQ_ABANDONED s := by
  unfold sqRelease showSq
  rw [fget_fset_place (by decide) (by decide) (by decide), fget_fset_place (by decide) (by decide) (by decide),
    fget_fsetB_place (by decide) (by decide) (by decide), fget_setDec]

theorem exec_squallAbandon_held {psa : BitVec 32} {x : HeldCl} (hheld : s.dec.held.find (psaCluster psa.toNat) = some x) : exec (.squallAbandon psa) s =
    .next (s |> sqRelease (psaCluster psa.toNat) |> cnt DEC.page DEC.SQ_ABANDONED DEC.kCNT_SAT |> emit 0x400D srcDecode (psaCluster psa.toNat) x.rung x.reads) := by
  change execSquallAbandon psa s = _
  unfold execSquallAbandon
  simp only [hheld]

/-- SQUALL holds the cluster at PSA 0, and SQ_ABANDONED is at its largest value. -/
def abandonsCounted : State := { regs := [(DEC.SQ_ABANDONED.key DEC.page, 65535)], dec := { held := [(0, {})] } }

/-- Refutes O29: with SQ_ABANDONED at 65,535, the most its sixteen bits hold, the abandonment of a held cluster leaves it there, where the clause
says that it is one more. -/
theorem not_decodingAndSquall : ¬ Obligations.DecodingAndSquall := by
  intro h
  have hheld : abandonsCounted.dec.held.find (psaCluster (0 : BitVec 32).toNat) = some {} := by decide
  have hfull : fget DEC.page DEC.SQ_ABANDONED abandonsCounted = 65535 := by decide
  obtain ⟨-, -, -, -, -, -, -, -, -, -, -, -, -, -, habandon, -⟩ := h abandonsCounted
  obtain ⟨t, ht, -, -, hcounts, -⟩ := habandon 0 {} hheld
  have hmore : fget DEC.page DEC.SQ_ABANDONED t = 65536 := by rw [hcounts (by omega), hfull]
  have hstays : fget DEC.page DEC.SQ_ABANDONED t = 65535 := by
    rw [← Host.Outcome.next.inj ((exec_squallAbandon_held hheld).symm.trans ht), fget_emit]
    exact fget_cnt_full (by decide) (by decide) (fget_abandoned_sqRelease.trans hfull)
  omega

end Sys2Proof.Machine
end

section
/-!
PROOFS. The command layer's operations: what they leave of the commands and requests, and the pages that counting, transfers and the ends of
clusters write.
-/
namespace Sys2Proof.Machine

variable {s t u : State} {p b n k v home : Nat} {f g : Fld} {r : ClReq} {ps : List Nat}

/-! ### Commands and requests -/

@[simp] theorem modCmd_reqs (n : Nat) (f : Cmd → Cmd) (s : State) : (modCmd n f s).cl.reqs = s.cl.reqs := by
  unfold modCmd
  split <;> rfl

@[simp] theorem modCmd_time (n : Nat) (f : Cmd → Cmd) (s : State) : (modCmd n f s).time = s.time :=
  (modCmd_kept (m := State.time) (fun _ => rfl) (.refl s)).view

theorem find_modCmd_same {f : Cmd → Cmd} : (modCmd n f s).cl.cmds.find n = (s.cl.cmds.find n).map f := by
  unfold modCmd
  split
  next c hc =>
    rw [hc]
    exact Store.find_insert_same ..
  next hnone =>
    rw [hnone]
    rfl

theorem find_modCmd_other {f : Cmd → Cmd} (hne : k ≠ n) : (modCmd n f s).cl.cmds.find k = s.cl.cmds.find k := by
  unfold modCmd
  split
  · exact Store.find_insert_other _ _ _ _ hne
  · rfl

/-- What a change of a command leaves of it, it leaves of every command. -/
theorem find_modCmd_map {β : Type} {f : Cmd → Cmd} {m : Cmd → β} (hm : ∀ c, m (f c) = m c) :
    ((modCmd n f s).cl.cmds.find k).map m = (s.cl.cmds.find k).map m := by
  by_cases hk : k = n
  · rw [hk, find_modCmd_same, Option.map_map, show m ∘ f = m from funext hm]
  · rw [find_modCmd_other hk]

@[simp] theorem showPool_cl (s : State) : (showPool s).cl = s.cl := (showPool_kept (m := State.cl) (fun _ => rfl) (.refl s)).view

theorem appendReq_reqs : (appendReq r s).cl.reqs = s.cl.reqs.erase r ++ [{ r with queued := some s.time }] := by
  unfold appendReq
  rw [showPool_cl, modCmd_reqs]
  rfl

/-- A request that reaches its ring leaves of the commands all but the time of it and the phase. -/
theorem find_appendReq_map {β : Type} {m : Cmd → β} (hm : ∀ c a d, m { c with tRing := a, phase := d } = m c) :
    ((appendReq r s).cl.cmds.find k).map m = (s.cl.cmds.find k).map m := by
  unfold appendReq
  rw [showPool_cl, find_modCmd_map fun c => hm c _ _]
  rfl

/-! ### Counting (R587) -/

theorem otherPages.fset64 (h : otherPages ps s t) (hp : p ∈ ps) (hf : f.inPage) (hg : g.inPage) : otherPages ps s (Machine.fset64 p f g v t) :=
  (h.fset hp hf).fset hp hg

theorem otherPages.cnt64 (h : otherPages ps s t) (hp : p ∈ ps) (hf : f.inPage) (hg : g.inPage) : otherPages ps s (Machine.cnt64 p f g b n t) := by
  unfold Machine.cnt64
  dsimp only
  split
  · exact h.fset64 hp hf hg
  · exact (h.fset64 hp hf hg).sticky hp

theorem otherPages.fmax (h : otherPages ps s t) (hp : p ∈ ps) (hf : f.inPage) : otherPages ps s (Machine.fmax p f v t) :=
  ite_kept (P := fun x => otherPages ps s x) (h.fset hp hf) h

theorem val_ix_inPage (hn : n < 64) : (PMC.VAL.ix n).inPage := by
  simp only [Fld.inPage, Fld.ix, PMC.VAL, regs]
  omega

theorem otherPages.pmcOvf (h : otherPages ps s t) (hp : PMC.page ∈ ps) : otherPages ps s (Machine.pmcOvf n t) := by
  refine (h.fset hp ?_).raise hp
  split <;> decide

theorem otherPages.pmcAdvance (h : otherPages ps s t) (hp : PMC.page ∈ ps) (hn : n < 64) : otherPages ps s (Machine.pmcAdvance n k t) := by
  unfold Machine.pmcAdvance
  extract_lets w sat val
  split
  next hpair =>
    have heven : n % 2 = 0 := (by simpa using hpair : w = 2 ∧ n % 2 = 0).2
    have hset : ∀ a d, otherPages ps s (Machine.fset PMC.page (PMC.VAL.ix (n + 1)) a (Machine.fset PMC.page (PMC.VAL.ix n) d t)) :=
      fun _ _ => (h.fset hp (val_ix_inPage hn)).fset hp (val_ix_inPage (by omega))
    exact ite_kept (P := fun x => otherPages ps s x) (hset _ _) ((hset _ _).pmcOvf hp)
  · have hset : ∀ d, otherPages ps s (Machine.fset PMC.page (PMC.VAL.ix n) d t) := fun _ => h.fset hp (val_ix_inPage hn)
    exact ite_kept (P := fun x => otherPages ps s x) (hset _) ((hset _).pmcOvf hp)

theorem otherPages.pmc (h : otherPages ps s t) (hp : PMC.page ∈ ps) : otherPages ps s (Machine.pmc n k v t) := by
  unfold Machine.pmc
  split
  · exact h
  · refine h.foldl fun x i hi => ?_
    exact ite_kept (P := fun y => otherPages ps x y) (otherPages.refl.pmcAdvance hp (List.mem_range.mp hi)) .refl

/-! ### Transfers (R416, R427) -/

/-- The pages that the end of a cluster writes: the pool's depth, the counters of traffic, and the line cache's dirty lines. -/
def endPages : List Nat := [ZRG.page, PMC.page, USB.page, SATA.page, LCH.page]

theorem otherPages.ite_id {P : Prop} [Decidable P] {F : State → State} (h : otherPages ps s t) (hF : ∀ x, otherPages ps s x → otherPages ps s (F x)) :
    otherPages ps s ((if P then F else id) t) := ite_app_kept (P := fun x => otherPages ps s x) (hF t h) h

theorem otherPages.modCmd {m : Cmd → Cmd} (h : otherPages ps s t) : otherPages ps s (Machine.modCmd n m t) := fun q hq g hg =>
  ((modCmd_kept (m := fun x => fget q g x) (fun _ => rfl) (.refl t)).view).trans (h q hq g hg)

theorem otherPages.setCl {x : CmdSt} (h : otherPages ps s t) : otherPages ps s (Machine.setCl x t) := h.congr rfl rfl

theorem otherPages.setMem {x : MemSt} (h : otherPages ps s t) : otherPages ps s (Machine.setMem x t) := h.congr rfl rfl

theorem otherPages.putLine {c : CLine} (h : otherPages endPages s t) : otherPages endPages s (Machine.putLine k c t) :=
  (h.setMem.fset (by decide) (by decide)).fsetB (by decide) (by decide)

theorem otherPages.bufPuts {bs : List Nat} (h : otherPages endPages s t) : otherPages endPages s (Machine.bufPuts k bs t) := by
  induction bs generalizing k t with
  | nil => exact h
  | cons x xs ih =>
    refine ih ?_
    unfold bufPut
    split
    · exact h.putLine
    · exact h.setMem

theorem otherPages.bufWrite {bs : List Nat} (h : otherPages endPages s t) (hu : Machine.bufWrite k bs t = some u) : otherPages endPages s u := by
  unfold Machine.bufWrite at hu
  split at hu
  · cases hu
    exact h
  · split at hu
    · cases hu
    · cases hu
      refine h.bufPuts.foldl fun x l _ => ?_
      split
      · exact otherPages.refl.putLine
      · exact otherPages.refl.setMem

theorem otherPages.writePieces {req : Nat} {xs : List (Nat × List Nat)} (h : otherPages endPages s t) (hu : Machine.writePieces req xs t = some u) :
    otherPages endPages s u := by
  induction xs generalizing t with
  | nil =>
    cases hu
    exact h
  | cons x xs ih =>
    unfold Machine.writePieces at hu
    split at hu
    · exact ih h.send hu
    · obtain ⟨w, hw, hrest⟩ := Option.bind_eq_some_iff.mp hu
      exact ih (h.bufWrite hw) hrest

theorem otherPages.portBytes {port id : Nat} {bs : List Nat} (h : otherPages endPages s t) : otherPages endPages s (Machine.portBytes port id bs t) := by
  unfold Machine.portBytes portMoved toHost fromHost
  split
  · exact h.send.cnt64 (by decide) (by decide) (by decide)
  · exact ite_kept (P := fun x => otherPages endPages s x) (h.send.cnt64 (by decide) (by decide) (by decide)) (h.send.cnt64 (by decide) (by decide) (by decide))

theorem otherPages.transfer (h : otherPages endPages s t) : otherPages endPages s (Machine.transfer n k t) := by
  have hmoved : ∀ {x}, otherPages endPages s x → otherPages endPages s (markMoved n k x) := fun hx => hx.modCmd
  unfold Machine.transfer
  split
  · exact h
  split
  · exact h
  split
  · exact h
  split
  · exact hmoved h
  split
  · exact hmoved h
  split
  · split
    · exact hmoved h.portBytes
    · exact h
  split
  · exact h
  split
  · exact h
  split
  · exact hmoved h.modCmd
  next hu =>
    refine otherPages.ite_id (otherPages.ite_id (hmoved (h.writePieces hu)) fun _ hx => hx.pmc (by decide)) fun _ hx => ?_
    exact hx.cnt64 (by decide) (by decide) (by decide)

theorem otherPages.transferAll (h : otherPages endPages s t) : otherPages endPages s (Machine.transferAll n t) := by
  unfold Machine.transferAll
  split
  · exact h
  · exact h.foldl fun _ _ _ => otherPages.refl.transfer

/-! ### Ends of clusters (R309, R346) -/

theorem otherPages.showPool (h : otherPages endPages s t) : otherPages endPages s (Machine.showPool t) :=
  (h.fset (by decide) (by decide)).fmax (by decide) (by decide)

theorem otherPages.takeEnd {e : ClusterEnd} (h : otherPages endPages s t) : otherPages endPages s (Machine.takeEnd e t r) :=
  h.setCl.showPool.modCmd.transferAll

theorem otherPages.deliver {e : ClusterEnd} (h : otherPages endPages s t) : otherPages endPages s (Machine.deliver home e t) := by
  have hall : ∀ rs : List ClReq, otherPages endPages s (rs.foldl (Machine.takeEnd e) t) := fun rs => h.foldl fun _ _ _ => otherPages.refl.takeEnd
  unfold Machine.deliver
  extract_lets rs
  split
  · exact hall _
  · exact hall _
  · exact hall _
  · exact hall _
  · split
    · exact h
    · exact ite_kept (P := fun x => otherPages endPages s x) h.setCl h.takeEnd
  · split
    · exact h
    · exact h.takeEnd
  · exact hall _

theorem otherPages_endCluster {e : ClusterEnd} : otherPages endPages s (endCluster n e s) :=
  ite_kept (P := fun x => otherPages endPages s x) (otherPages.refl.congr rfl rfl) (otherPages.deliver (otherPages.refl.congr rfl rfl))

/-- The end of a cluster is kept under the home that the Defect Lists give it. -/
theorem endCluster_ends {e : ClusterEnd} : (endCluster n e s).ends.find (homeOf (psaCluster n) s) = some e := by
  have hkept : (endCluster n e s).ends = s.ends.insert (homeOf (psaCluster n) s) e :=
    ite_kept (P := fun x : State => x.ends = _) rfl (deliver_kept (m := State.ends) (fun _ => rfl) (.refl _)).view
  rw [hkept]
  exact Store.find_insert_same ..

end Sys2Proof.Machine
end

section
/-!
PROOFS. Commands expanded into requests (R428, R433), and write data (R316, R410, R428).
-/
namespace Sys2Proof.Machine

variable (s : State)

/-! ### Expansion (R428) -/

theorem commandExpansion_none (hnone : nextExpand s = none) : Completes .commandExpansion s fun t => t = s := by
  change ∃ t, execCommandExpansion s = .next t ∧ _
  simp [execCommandExpansion, hnone]

theorem commandExpansion_waits (tag : Nat) (c : Cmd) (hnext : nextExpand s = some (tag, c)) (hwait : c.placed = false ∨ inOrder tag c s = false) :
    Completes .commandExpansion s fun t => t = s := by
  have hwaits : (!c.placed || !inOrder tag c s) = true := by rcases hwait with h | h <;> simp [h]
  change ∃ t, execCommandExpansion s = .next t ∧ _
  simp [execCommandExpansion, hnext, hwaits]

/-- A command of its turn has the requests of its clusters that are left made. -/
theorem exec_commandExpansion {s : State} {tag : Nat} {c : Cmd} (hnext : nextExpand s = some (tag, c)) (hplaced : c.placed = true) (horder : inOrder tag c s = true) :
    exec .commandExpansion s = .next (makeReqs tag ((List.range (clustersIn c.first c.sectors - c.expanded)).map (fun i => c.first / 32 + c.expanded + i)) s) := by
  change execCommandExpansion s = _
  simp [execCommandExpansion, hnext, hplaced, horder]

/-- A command with one more of its clusters made into a request. -/
def Cmd.counted (c : Cmd) : Cmd := { c with expanded := c.expanded + 1, made := c.made + 1 }

/-- The request made of a cluster of a command on a DLA disc. -/
def clusterReq (tag k : Nat) (c : Cmd) (s : State) : ClReq :=
  { tag := tag, cluster := k, home := homeAt k s, ring := some (ringOf (placeOf (homeAt k s) s)), write := c.op == 2,
    mask := partMask (c.part k), sectors := if decide (c.recd ≠ []) then recordPart' c k else [] }

/-- The command counts the cluster, and the pool has its request. -/
def clusterPooled (tag k : Nat) (c : Cmd) (s : State) : State :=
  setCl { (modCmd tag Cmd.counted s).cl with reqs := (modCmd tag Cmd.counted s).cl.reqs ++ [clusterReq tag k c s] } (modCmd tag Cmd.counted s)

/-- A request of a command that is no write, or of a write whose data are there, reaches its ring at once. -/
theorem makeReq_eq {s : State} {tag k : Nat} {c : Cmd} (hcmd : s.cl.cmds.find tag = some c) (hleg : legacyDisc s = false)
    (hserves : inService (psaSide (placeOf (homeAt k s) s)) s = true) :
    makeReq tag k s = appendReq (clusterReq tag k c s) (clusterPooled tag k c s) ∨ c.op = 2 ∧ makeReq tag k s = showPool (clusterPooled tag k c s) := by
  unfold makeReq
  split
  next hnone => cases hcmd.symm.trans hnone
  next c' hc' =>
    obtain rfl : c = c' := Option.some.inj (hcmd.symm.trans hc')
    extract_lets home place side u whole r x w
    have hkept : ∀ {α : Type} {m : State → α}, (∀ x, m x = m { x with cl := {} }) → m u = m s := fun hm => (modCmd_kept hm (.refl s)).view
    have hside : side = psaSide place := if_neg (by simp [hleg])
    rw [if_neg (by simp [hside, hkept (m := inService _) fun _ => rfl, home, place, hserves])]
    have hr : r = clusterReq tag k c s := by
      simp [r, whole, clusterReq, hkept (m := legacyDisc) fun _ => rfl, hleg, home, place]
    have hw : w = clusterPooled tag k c s := by
      unfold w clusterPooled
      rw [hr]
      rfl
    rw [hr, hw]
    split
    · exact .inl rfl
    next hop => exact .inr ⟨by_contra fun hne => hop (by simp [hne]), rfl⟩

theorem clusterPooled_kept {s : State} {tag k : Nat} {c : Cmd} {α : Type} {m : State → α} (hm : ∀ u, m u = m { u with cl := {} }) :
    Kept m s (clusterPooled tag k c s) := setCl_kept hm (modCmd_kept hm (.refl s))

theorem find_clusterPooled {s : State} {tag k : Nat} {c : Cmd} (hcmd : s.cl.cmds.find tag = some c) :
    (clusterPooled tag k c s).cl.cmds.find tag = some c.counted :=
  find_modCmd_same.trans (congrArg (Option.map Cmd.counted) hcmd)

theorem clusterPooled_reqs {s : State} {tag k : Nat} {c : Cmd} : (clusterPooled tag k c s).cl.reqs = s.cl.reqs ++ [clusterReq tag k c s] := by
  unfold clusterPooled
  rw [setCl_cl, modCmd_reqs]

theorem commandExpansion_last (tag : Nat) (c : Cmd) (hnext : nextExpand s = some (tag, c)) (hplaced : c.placed = true) (horder : inOrder tag c s = true)
    (hcmd : s.cl.cmds.find tag = some c) (hlast : c.expanded + 1 = clustersIn c.first c.sectors) (hroom : s.cl.reqs.length < poolSize)
    (hleg : legacyDisc s = false) (hserves : inService (psaSide (placeOf (homeAt (c.first / 32 + c.expanded) s) s)) s = true) :
    Completes .commandExpansion s fun t => (t.cl.cmds.find tag).map Cmd.expanded = some (c.expanded + 1) ∧
      (∃ r, r ∈ t.cl.reqs ∧ r.tag = tag ∧ r.cluster = c.first / 32 + c.expanded ∧ r.home = homeAt (c.first / 32 + c.expanded) s ∧ r.write = (c.op == 2) ∧
        r.ring = some (ringOf (placeOf r.home s)) ∧ (c.op ≠ 2 → r.queued = some s.time)) ∧ sameBut [.regs, .cl] s t := by
  have hone : makeReqs tag ((List.range (clustersIn c.first c.sectors - c.expanded)).map (fun i => c.first / 32 + c.expanded + i)) s =
      makeReq tag (c.first / 32 + c.expanded) s := by
    rw [← hlast, Nat.add_sub_cancel_left]
    exact if_pos hroom
  refine ⟨_, exec_commandExpansion hnext hplaced horder, ?_⟩
  rw [hone]
  have hfind := find_clusterPooled (k := c.first / 32 + c.expanded) hcmd
  obtain happend | ⟨hwrite, hpool⟩ := makeReq_eq hcmd hleg hserves
  · rw [happend]
    refine ⟨(find_appendReq_map (m := Cmd.expanded) fun _ _ _ => rfl).trans (by rw [hfind]; rfl), ?_, sameBut_of_kept (appendReq_kept (fun _ => rfl) (clusterPooled_kept fun _ => rfl))⟩
    rw [appendReq_reqs]
    exact ⟨_, List.mem_append_right _ (List.mem_singleton_self _), rfl, rfl, rfl, rfl, rfl,
      fun _ => congrArg some (clusterPooled_kept (m := State.time) fun _ => rfl).view⟩
  · rw [hpool]
    refine ⟨by rw [showPool_cl, hfind]; rfl, ?_, sameBut_of_kept (showPool_kept (fun _ => rfl) (clusterPooled_kept fun _ => rfl))⟩
    rw [showPool_cl, clusterPooled_reqs]
    exact ⟨_, List.mem_append_right _ (List.mem_singleton_self _), rfl, rfl, rfl, rfl, rfl, fun hne => absurd hwrite hne⟩

theorem commandExpansion_poolEmpty (tag : Nat) (c : Cmd) (hnext : nextExpand s = some (tag, c)) (hplaced : c.placed = true) (horder : inOrder tag c s = true)
    (hleft : c.expanded < clustersIn c.first c.sectors) (hfull : poolSize ≤ s.cl.reqs.length) :
    Completes .commandExpansion s fun t => hasInt ZRG.page ZRG.iPOOL_EMPTY t ∧ t.cl = s.cl ∧ sameBut [.regs, .out, .msixPend] s t ∧
      otherFields ZRG.page [hdrIntStatus] s t := by
  have hmade : makeReqs tag ((List.range (clustersIn c.first c.sectors - c.expanded)).map (fun i => c.first / 32 + c.expanded + i)) s =
      raise ZRG.page ZRG.iPOOL_EMPTY s := by
    obtain ⟨n, hn⟩ : ∃ n, clustersIn c.first c.sectors - c.expanded = n + 1 := ⟨_, (Nat.succ_pred_eq_of_pos (by omega)).symm⟩
    rw [hn, List.range_succ_eq_map, List.map_cons, makeReqs, if_neg (by omega)]
  refine ⟨_, exec_commandExpansion hnext hplaced horder, ?_⟩
  rw [hmade]
  exact ⟨hasInt_raise (by decide), (raise_kept (m := State.cl) (fun _ => rfl) (.refl s)).view, sameBut_of_kept (raise_kept (fun _ => rfl) (.refl s)),
    fun q g hg => (fget_raise ..).trans (otherFields_fset _ _ _ _ q g hg)⟩

/-! ### Write data (R410, R428) -/

theorem writeDataArrived_unknown (tag : BitVec 12) (cluster : Nat) (data recs : List (BitVec 8)) (hnone : s.cl.cmds.find tag.toNat = none) :
    Completes (.writeDataArrived tag cluster data recs) s fun t => t = s := by
  change ∃ t, execWriteDataArrived tag cluster data recs s = .next t ∧ _
  simp [execWriteDataArrived, hnone]

/-- A write's request with the cluster's sectors out of the data. -/
def filledReq (c : Cmd) (k : Nat) (bs : List Nat) (r : ClReq) : ClReq :=
  { r with sectors := (List.range 32).map (fun i => if (c.part k).contains i then (bs.drop (2048 * (i - (c.part k).headD 0))).take 2048 else []) }

/-- The data are taken, and the request that waits for them holds its sectors. -/
def dataTaken (tag k : Nat) (c : Cmd) (bs : List Nat) (r : ClReq) (s : State) : State :=
  setCl { (tookData tag k c bs s).cl with reqs := (tookData tag k c bs s).cl.reqs.map (fun x => if x = r then filledReq c k bs r else x) } (tookData tag k c bs s)

theorem dataTaken_kept {s : State} {tag k : Nat} {c : Cmd} {bs : List Nat} {r : ClReq} {α : Type} {m : State → α}
    (hm : ∀ u, m u = m { u with regs := [], out := [], msixPend := 0, cl := {} }) : Kept m s (dataTaken tag k c bs r s) :=
  setCl_kept (sub hm) (tookData_kept (sub hm) (.refl s))

/-- Data from the host over PCIe change the command alone in the command layer. -/
theorem tookData_cl {s : State} {tag k : Nat} {c : Cmd} {bs : List Nat} (hhost : c.req = 0) (hjob : c.job = none) :
    (tookData tag k c bs s).cl = (modCmd tag (fun c => { c with raw := c.raw.insert k bs }) s).cl := by
  unfold tookData
  simp only [hjob, hhost, if_true]
  exact (fromHost_kept (m := State.cl) (fun _ => rfl) (pmc_kept (fun _ => rfl) (.refl _))).view

theorem find_raw_dataTaken {s : State} {tag k : Nat} {c : Cmd} {bs : List Nat} {r : ClReq} (hcmd : s.cl.cmds.find tag = some c) (hhost : c.req = 0)
    (hjob : c.job = none) : ((dataTaken tag k c bs r s).cl.cmds.find tag).map Cmd.raw = some (c.raw.insert k bs) := by
  unfold dataTaken
  rw [setCl_cl, tookData_cl hhost hjob, find_modCmd_same, hcmd]
  rfl

/-- Data of the whole of a cluster's part for the host take its request to its ring. -/
theorem clusterArrived_eq {s : State} {tag k : Nat} {c : Cmd} {bs : List Nat} {r : ClReq} (hhost : c.req = 0) (hsegs : bit c.flags 0 = false)
    (hcheck : bit c.flags 1 = false) (hreq : s.cl.reqs.find? (fun r => r.tag == tag && r.cluster == k && r.write && r.queued.isNone) = some r)
    (hpart : c.part k ≠ []) (hlen : bs.length = 2048 * (c.part k).length) (hraw : c.raw.find k = none) :
    clusterArrived tag k c bs s = appendReq (filledReq c k bs r) (dataTaken tag k c bs r s) := by
  have hbytes : ∀ off n, writeBytes c off n bs s = some bs := fun _ _ => if_pos hhost
  have hpieces : ∀ off, pieces c off bs = some [(c.host + off, bs)] := fun _ => if_neg (by simp [hsegs])
  unfold clusterArrived
  simp only [hreq, hbytes, hpieces]
  rw [if_neg (by simp [hpart, hlen, hraw]), if_neg (by simp [hcheck])]
  rfl

theorem writeDataArrived_queues (tag : BitVec 12) (cluster : Nat) (data recs : List (BitVec 8)) (c : Cmd) (r : ClReq)
    (hcmd : s.cl.cmds.find tag.toNat = some c) (hop : c.op = 2) (hended : c.ended = false) (hphase : c.phase ≠ 2) (hwait : c.waitDisc = false)
    (hctx : s.cl.ctxWait.contains tag.toNat = false) (hhost : c.req = 0) (hdma : mayDma s = true) (hplaced : c.placed = true) (hjob : c.job = none)
    (hsegs : bit c.flags 0 = false) (hcheck : bit c.flags 1 = false)
    (hreq : s.cl.reqs.find? (fun r => r.tag == tag.toNat && r.cluster == cluster && r.write && r.queued.isNone) = some r) (hpart : c.part cluster ≠ [])
    (hlen : data.length = 2048 * (c.part cluster).length) (hraw : c.raw.find cluster = none) :
    Completes (.writeDataArrived tag cluster data recs) s fun t =>
      (t.cl.cmds.find tag.toNat).bind (fun c => c.raw.find cluster) = some (data.map BitVec.toNat) ∧
      (∃ q, q ∈ t.cl.reqs ∧ q.tag = r.tag ∧ q.cluster = r.cluster ∧ q.queued = some s.time ∧ q.sectors.length = 32) ∧
      sameBut [.regs, .out, .msixPend, .cl] s t := by
  have hrun : exec (.writeDataArrived tag cluster data recs) s = .next (clusterArrived tag.toNat cluster c (data.map BitVec.toNat) s) := by
    change execWriteDataArrived tag cluster data recs s = _
    have hready : tag.toNat ∉ s.cl.ctxWait := by simpa using hctx
    unfold execWriteDataArrived
    simp only [hcmd]
    rw [if_neg (by simp [hop, hended, hphase, hwait, hready, hhost, hdma]), if_pos hplaced]
  refine ⟨_, hrun, ?_⟩
  rw [clusterArrived_eq hhost hsegs hcheck hreq hpart (by simpa using hlen) hraw]
  refine ⟨?_, ?_, sameBut_of_kept (appendReq_kept (fun _ => rfl) (dataTaken_kept fun _ => rfl))⟩
  · obtain ⟨d, hd, hdraw⟩ := Option.map_eq_some_iff.mp
      ((find_appendReq_map (r := filledReq c cluster (data.map BitVec.toNat) r) fun _ _ _ => rfl).trans (find_raw_dataTaken hcmd hhost hjob))
    rw [hd, Option.bind_some, hdraw, Store.find_insert_same]
  · rw [appendReq_reqs]
    exact ⟨_, List.mem_append_right _ (List.mem_singleton_self _), rfl, rfl, congrArg some (dataTaken_kept (m := State.time) fun _ => rfl).view,
      (List.length_map _).trans List.length_range⟩

/-! ### The transfer check (R316) -/

theorem xferCheckCompare_idle (tag : BitVec 12) (c : Cmd) (hcmd : s.cl.cmds.find tag.toNat = some c)
    (hidle : crossed c = none ∨ c.op ≠ 2 ∨ bit c.flags 1 = false ∨ c.checked = true ∨ c.phase = 2) :
    Completes (.xferCheckCompare tag) s fun t => t = s := by
  change ∃ t, execXferCheckCompare tag s = .next t ∧ _
  unfold execXferCheckCompare
  simp only [hcmd]
  split
  · exact ⟨_, rfl, rfl⟩
  next bs hbs =>
    have hno : c.op ≠ 2 ∨ bit c.flags 1 = false ∨ c.checked = true ∨ c.phase = 2 := hidle.resolve_left (by simp [hbs])
    rw [if_pos (by simpa [or_assoc] using hno)]
    exact ⟨_, rfl, rfl⟩

/-- A request of a command that holds its data and awaits the transfer check. -/
def awaitsCheck (tag : Nat) (r : ClReq) : Bool := r.tag == tag && r.queued.isNone && decide (r.sectors ≠ [])

theorem filter_awaitsCheck_appendReq {s : State} {tag : Nat} {r : ClReq} {rs : List ClReq} (hall : s.cl.reqs.filter (awaitsCheck tag) = r :: rs) :
    (appendReq r s).cl.reqs.filter (awaitsCheck tag) = rs := by
  have hqueued : awaitsCheck tag { r with queued := some s.time } = false := by simp [awaitsCheck]
  rw [appendReq_reqs, List.filter_append, List.filter_singleton, hqueued, cond_false, List.append_nil, ← List.erase_filter, hall, List.erase_cons_head]

/-- With all that await the check queued, none awaits it. -/
theorem filter_awaitsCheck_foldl {s : State} {tag : Nat} {rs : List ClReq} (hall : s.cl.reqs.filter (awaitsCheck tag) = rs) :
    (rs.foldl (fun u r => appendReq r u) s).cl.reqs.filter (awaitsCheck tag) = [] := by
  induction rs generalizing s with
  | nil => exact hall
  | cons r rs ih => exact ih (filter_awaitsCheck_appendReq hall)

/-- A command whose transfer check has passed. -/
def Cmd.passed (c : Cmd) : Cmd := { c with checked := true }

theorem xferCheckCompare_passes (tag : BitVec 12) (c : Cmd) (bs : List Nat) (hcmd : s.cl.cmds.find tag.toNat = some c) (hbs : crossed c = some bs)
    (hop : c.op = 2) (hcheck : bit c.flags 1 = true) (hfirst : c.checked = false) (hphase : c.phase ≠ 2) (heq : crc64 bs = c.xchk) :
    Completes (.xferCheckCompare tag) s fun t => (t.cl.cmds.find tag.toNat).map Cmd.checked = some true ∧
      (∀ r ∈ t.cl.reqs, r.tag = tag.toNat → r.sectors ≠ [] → r.queued.isSome = true) ∧ sameBut [.regs, .cl] s t := by
  have hrun : exec (.xferCheckCompare tag) s = .next ((s.cl.reqs.filter (awaitsCheck tag.toNat)).foldl (fun u r => appendReq r u)
      (modCmd tag.toNat Cmd.passed s)) := by
    change execXferCheckCompare tag s = _
    unfold execXferCheckCompare
    simp only [hcmd, hbs]
    rw [if_neg (by simp [hop, hcheck, hfirst, hphase]), if_pos heq, modCmd_reqs]
    rfl
  refine ⟨_, hrun, ?_, fun r hr htag hsectors => ?_, sameBut_of_kept (foldl_kept (P := fun u => Kept _ s u) (fun _ _ hu => appendReq_kept (fun _ => rfl) hu)
    (modCmd_kept (fun _ => rfl) (.refl s)))⟩
  · refine foldl_kept (P := fun u : State => (u.cl.cmds.find tag.toNat).map Cmd.checked = some true) (fun _ _ hu => (find_appendReq_map fun _ _ _ => rfl).trans hu) ?_
    rw [find_modCmd_same, hcmd]
    rfl
  · have hnone := List.filter_eq_nil_iff.mp (filter_awaitsCheck_foldl (congrArg _ (modCmd_reqs tag.toNat Cmd.passed s))) r hr
    rw [Option.isSome_iff_ne_none]
    exact fun hqueued => hnone (by simp [awaitsCheck, htag, hqueued, hsectors])

/-! ### A transfer check that fails (R316, R440) -/

/-- The pages that the stopping of a command's requests writes. -/
def stopReqPages : List Nat := DEC.page :: endPages

theorem otherPages.setDec {s t : State} {ps : List Nat} {x : DecSt} (h : otherPages ps s t) : otherPages ps s (Machine.setDec x t) := h.congr rfl rfl

theorem otherPages.sqRelease {s t : State} {ps : List Nat} {psa : Nat} (h : otherPages ps s t) (hp : DEC.page ∈ ps) : otherPages ps s (Machine.sqRelease psa t) :=
  ((h.setDec.fsetB hp (by decide)).fset hp (by decide)).fset hp (by decide)

theorem otherPages_stopReq {s : State} {r : ClReq} : otherPages stopReqPages s (stopReq s r) := by
  have hleft : otherPages stopReqPages s (showPool (setCl { s.cl with reqs := s.cl.reqs.erase r } s)) :=
    otherPages.refl.setCl.showPool.mono (List.subset_cons_self ..)
  unfold stopReq
  split
  · exact otherPages.refl.takeEnd.mono (List.subset_cons_self ..)
  split
  · exact .refl
  unfold dropReq
  extract_lets x u p
  split
  · exact hleft
  split
  · exact hleft.congr rfl rfl
  split
  · exact ((hleft.sqRelease (by decide)).cnt (by decide) (by decide)).emit
  · exact hleft

theorem otherPages_stopCmd {s : State} {tag code : Nat} {c : Cmd} (hcmd : s.cl.cmds.find tag = some c) (hop : c.op = 2) :
    otherPages stopReqPages s (stopCmd tag code s) := by
  have hclustered : c.clustered = true := by simp [Cmd.clustered, hop]
  unfold stopCmd
  simp only [hcmd, hclustered, if_true]
  split
  · exact .refl
  · exact otherPages.refl.modCmd.setCl.foldl fun _ _ _ => otherPages_stopReq

theorem xferCheckCompare_fails (tag : BitVec 12) (c : Cmd) (bs : List Nat) (hcmd : s.cl.cmds.find tag.toNat = some c) (hbs : crossed c = some bs)
    (hop : c.op = 2) (hcheck : bit c.flags 1 = true) (hfirst : c.checked = false) (hphase : c.phase ≠ 2) (hne : crc64 bs ≠ c.xchk) :
    Completes (.xferCheckCompare tag) s fun t => hasInt CRC.page CRC.iXFER_MISMATCH t ∧
      (fget CRC.page CRC.XFER_MISMATCH_CNT s < 65535 → fget CRC.page CRC.XFER_MISMATCH_CNT t = fget CRC.page CRC.XFER_MISMATCH_CNT s + 1) ∧
      t.evq.getLast? = some ⟨0x400B, srcDecode, tag.toNat, crc64 bs % 2 ^ 32, c.xchk % 2 ^ 32, false⟩ := by
  have hrun : exec (.xferCheckCompare tag) s = .next (emit 0x400B srcDecode tag.toNat (crc64 bs) c.xchk
      (raise CRC.page CRC.iXFER_MISMATCH (cnt CRC.page CRC.XFER_MISMATCH_CNT CRC.kCNT_SAT (stopCmd tag.toNat 0x60 s)))) := by
    change execXferCheckCompare tag s = _
    unfold execXferCheckCompare
    simp only [hcmd, hbs]
    rw [if_neg (by simp [hop, hcheck, hfirst, hphase]), if_neg hne]
  refine ⟨_, hrun, (hasInt_congr (fget_emit ..)).2 (hasInt_raise (by decide)), fun hroom => ?_, ?_⟩
  · have hstopped : fget CRC.page CRC.XFER_MISMATCH_CNT (stopCmd tag.toNat 0x60 s) = fget CRC.page CRC.XFER_MISMATCH_CNT s :=
      otherPages_stopCmd hcmd hop _ (by decide) _ (by decide)
    rw [fget_emit, fget_raise_place (by decide) (by decide), cnt, fget_cntN_below _ _ _ _ _ (by rw [hstopped]; exact Nat.lt_trans (Nat.succ_lt_succ hroom) (by decide)), hstopped]
  · have htag : tag.toNat % 2 ^ 32 = tag.toNat := Nat.mod_eq_of_lt (Nat.lt_trans tag.isLt (by decide))
    rw [emit_evq, List.getLast?_concat, htag]

end Sys2Proof.Machine
end

section
/-!
PROOFS. The choice of bands (R429, R430, R432), read revolutions (R431) and a head out of service (R433); the obligation on the scheduler.
-/
namespace Sys2Proof.Machine

variable (s : State) (head : Head)

/-! ### The choice of a band (R429, R430) -/

theorem ringFld_inPage {h : Nat} : (ringFld h).inPage := by
  unfold ringFld
  split <;> decide

/-- A field of the rings' page is not a field of the spindle's. -/
theorem zrg_key_ne_spn {f g : Fld} (hf : f.inPage) (hg : g.inPage) : f.key ZRG.page ≠ g.key SPN.page := key_page_ne hf hg (by decide)

theorem fget_zrg_newTarget {s : State} {g : Fld} (hg : g.inPage) : fget ZRG.page g (newTarget s) = fget ZRG.page g s :=
  fget_newTarget (zrg_key_ne_spn hg (by decide)) (zrg_key_ne_spn hg (by decide))

theorem fget_ring_goRing {s : State} {h cur n : Nat} : fget ZRG.page (ringFld h) (goRing h cur n s) = n % 2 ^ (ringFld h).width := by
  have hcounted : ∀ {P : Prop} [Decidable P] {u : State}, fget ZRG.page (ringFld h)
      ((if P then cnt ZRG.page (if h = 0 then ZRG.SWEEPS_L else ZRG.SWEEPS_U) ZRG.kCNT_SAT else id) u) = fget ZRG.page (ringFld h) u := by
    intro P _ u
    unfold ringFld
    split
    · exact fget_ite_cnt_place (by decide) (by decide) (by decide) (by decide)
    · exact fget_ite_cnt_place (by decide) (by decide) (by decide) (by decide)
  unfold goRing
  rw [fget_zrg_newTarget ringFld_inPage, fget_setSpin, hcounted, fget_fset_same]
  rfl

/-- A head that goes to a ring writes its ring's register and its count of sweeps. -/
theorem fget_zrg_goRing {s : State} {h cur n : Nat} {g : Fld} (hg : g.inPage) (hL : g.place ≠ ZRG.RING_L.place) (hU : g.place ≠ ZRG.RING_U.place)
    (hcntL : g.place ≠ ZRG.SWEEPS_L.place) (hcntU : g.place ≠ ZRG.SWEEPS_U.place) (hsticky : g.place ≠ hdrSticky.place) :
    fget ZRG.page g (goRing h cur n s) = fget ZRG.page g s := by
  have hring : g.place ≠ (ringFld h).place := by
    unfold ringFld
    split
    · exact hL
    · exact hU
  have hsweeps : (if h = 0 then ZRG.SWEEPS_L else ZRG.SWEEPS_U).inPage ∧ g.place ≠ (if h = 0 then ZRG.SWEEPS_L else ZRG.SWEEPS_U).place := by
    split
    · exact ⟨by decide, hcntL⟩
    · exact ⟨by decide, hcntU⟩
  unfold goRing
  rw [fget_zrg_newTarget hg, fget_setSpin, fget_ite_cnt_place hg hsweeps.1 hsweeps.2 hsticky, fget_fset_place hg ringFld_inPage hring]

theorem writeNext_goRing {s : State} {h cur n : Nat} :
    (goRing h cur n s).spin.writeNext = (sideReqs h s).any (fun r => r.ring == some n && r.write) := by
  unfold goRing
  exact congrArg SpinSt.writeNext (newTarget_kept (m := State.spin) (fun _ => rfl) (.refl _)).view

theorem bandChoice_waits (hwait : mustWait head.n s = true) : Completes (.bandChoice head) s fun t => t = s := by
  change ∃ t, execBandChoice head s = .next t ∧ _
  simp [execBandChoice, hwait]

/-- The policy in force shown. -/
def policyShown (pol : Nat) (s : State) : State := fset ZRG.page ZRG.STATUS_POLICY_ACT pol s

theorem exec_bandChoice {s : State} {head : Head} {r : ClReq} {n pol : Nat} (hwait : mustWait head.n s = false)
    (hhead : (sideReqs head.n s).head? = some r) (hring : r.ring = some n) (hpol : fget ZRG.page ZRG.POLICY s = pol) (hset : pol ≠ 3) :
    exec (.bandChoice head) s =
      if pol = 2 then .next (goRing head.n n n (policyShown pol s))
      else if pol = 1 ∧ r.queued.getD 0 + 25000 * fget ZRG.page ZRG.AGE_MS s < s.time then
        .next (raise ZRG.page ZRG.iAGE_FORCED (cnt ZRG.page ZRG.AGE_FORCES ZRG.kCNT_SAT (goRing head.n n n (policyShown pol s))))
      else (sweepNext (head.n * 131072 + fget ZRG.page (ringFld head.n) s % 131072) ((sideReqs head.n s).filterMap (fun r => r.ring))).elim
        (.next (policyShown pol s)) fun m => .next (goRing head.n (head.n * 131072 + fget ZRG.page (ringFld head.n) s % 131072) m (policyShown pol s)) := by
  have hage : fget ZRG.page ZRG.AGE_MS (policyShown pol s) = fget ZRG.page ZRG.AGE_MS s := fget_fset_place (by decide) (by decide) (by decide)
  have hcur : fget ZRG.page (ringFld head.n) (policyShown pol s) = fget ZRG.page (ringFld head.n) s := by
    refine fget_fset_place ringFld_inPage (by decide) ?_
    unfold ringFld
    split <;> decide
  change execBandChoice head s = _
  unfold execBandChoice
  extract_lets h v pol' u rs cur byAge
  have hpol' : pol' = pol := (if_neg (by rw [show v = pol from hpol]; exact hset)).trans hpol
  have hu : u = policyShown pol s := congrArg (fun x => policyShown x s) hpol'
  have hrs : rs = sideReqs head.n s := rfl
  have hby : byAge = (pol == 1 && decide (r.queued.getD 0 + 25000 * fget ZRG.page ZRG.AGE_MS s < s.time)) := by
    simp only [byAge, hrs, hhead, hpol', hu, hage]
    rfl
  have hcur' : cur = head.n * 131072 + fget ZRG.page (ringFld head.n) s % 131072 := by
    unfold cur
    rw [hu, hcur]
  clear_value byAge cur u pol' rs
  subst hpol' hu hrs hby hcur'
  rw [if_neg (by simp [h, hwait])]
  simp only [hhead, hring, Bool.and_eq_true, beq_iff_eq, decide_eq_true_eq, h]
  cases sweepNext (head.n * 131072 + fget ZRG.page (ringFld head.n) s % 131072) ((sideReqs head.n s).filterMap (fun r => r.ring)) <;> rfl

theorem bandChoice_inOrder (r : ClReq) (n : Nat) (hwait : mustWait head.n s = false) (hhead : (sideReqs head.n s).head? = some r) (hring : r.ring = some n)
    (hpol : fget ZRG.page ZRG.POLICY s = 2) : Completes (.bandChoice head) s fun t => fget ZRG.page (ringFld head.n) t = n % 2 ^ (ringFld head.n).width ∧
      fget ZRG.page ZRG.STATUS_POLICY_ACT t = 2 ∧ t.spin.writeNext = (sideReqs head.n s).any (fun r => r.ring == some n && r.write) ∧ sameBut [.regs, .spin] s t := by
  refine ⟨_, (exec_bandChoice hwait hhead hring hpol (by decide)).trans (if_pos rfl), fget_ring_goRing, ?_, writeNext_goRing, ?_⟩
  · rw [fget_zrg_goRing (by decide) (by decide) (by decide) (by decide) (by decide) (by decide)]
    exact fget_fset_lt (by decide)
  · exact sameBut_of_kept (goRing_kept (fun _ => rfl) (fset_kept (fun _ => rfl) (.refl s)))

theorem bandChoice_sweeps (r : ClReq) (n m : Nat) (hwait : mustWait head.n s = false) (hhead : (sideReqs head.n s).head? = some r) (hring : r.ring = some n)
    (hpol : fget ZRG.page ZRG.POLICY s = 0)
    (hsweep : sweepNext (head.n * 131072 + fget ZRG.page (ringFld head.n) s % 131072) ((sideReqs head.n s).filterMap (fun r => r.ring)) = some m) :
    Completes (.bandChoice head) s fun t => fget ZRG.page (ringFld head.n) t = m % 2 ^ (ringFld head.n).width ∧
      t.spin.writeNext = (sideReqs head.n s).any (fun r => r.ring == some m && r.write) ∧ sameBut [.regs, .spin] s t := by
  have hrun := exec_bandChoice hwait hhead hring hpol (by decide)
  rw [if_neg (by decide), if_neg (by simp), hsweep] at hrun
  exact ⟨_, hrun, fget_ring_goRing, writeNext_goRing, sameBut_of_kept (goRing_kept (fun _ => rfl) (fset_kept (fun _ => rfl) (.refl s)))⟩

theorem bandChoice_byAge (r : ClReq) (n : Nat) (hwait : mustWait head.n s = false) (hhead : (sideReqs head.n s).head? = some r) (hring : r.ring = some n)
    (hpol : fget ZRG.page ZRG.POLICY s = 1) (hold : r.queued.getD 0 + 25000 * fget ZRG.page ZRG.AGE_MS s < s.time) :
    Completes (.bandChoice head) s fun t => fget ZRG.page (ringFld head.n) t = n % 2 ^ (ringFld head.n).width ∧ hasInt ZRG.page ZRG.iAGE_FORCED t ∧
      (fget ZRG.page ZRG.AGE_FORCES s < 65535 → fget ZRG.page ZRG.AGE_FORCES t = fget ZRG.page ZRG.AGE_FORCES s + 1) := by
  have hrun := exec_bandChoice hwait hhead hring hpol (by decide)
  rw [if_neg (by decide), if_pos ⟨rfl, hold⟩] at hrun
  have hforces : fget ZRG.page ZRG.AGE_FORCES (goRing head.n n n (policyShown 1 s)) = fget ZRG.page ZRG.AGE_FORCES s := by
    rw [fget_zrg_goRing (by decide) (by decide) (by decide) (by decide) (by decide) (by decide)]
    exact fget_fset_place (by decide) (by decide) (by decide)
  have hring' : (ringFld head.n).place ≠ hdrIntStatus.place ∧ (ringFld head.n).place ≠ ZRG.AGE_FORCES.place ∧ (ringFld head.n).place ≠ hdrSticky.place := by
    unfold ringFld
    split <;> decide
  obtain ⟨hint, hcnt, hsticky⟩ := hring'
  refine ⟨_, hrun, ?_, hasInt_raise (by decide), fun hroom => ?_⟩
  · rw [fget_raise_place ringFld_inPage hint, fget_cnt_place ringFld_inPage (by decide) hcnt hsticky, fget_ring_goRing]
  · have hfits : fget ZRG.page ZRG.AGE_FORCES (goRing head.n n n (policyShown 1 s)) + 1 < 2 ^ ZRG.AGE_FORCES.width := by
      rw [hforces]
      exact Nat.lt_trans (Nat.succ_lt_succ hroom) (by decide)
    rw [fget_raise_place (by decide) (by decide), cnt, fget_cntN_below _ _ _ _ _ hfits, hforces]

/-! ### Read revolutions (R431) -/

theorem readRevolutionStart_idle (psas : List (BitVec 32)) (hidle : recording head.n s = true ∨ mustWait head.n s = true ∨ psas = []) :
    Completes (.readRevolutionStart head psas) s fun t => t = s := by
  change ∃ t, execReadRevolutionStart head psas s = .next t ∧ _
  unfold execReadRevolutionStart
  extract_lets h ps homes wanted
  rw [if_pos]
  · exact ⟨_, rfl, rfl⟩
  · rcases hidle with hrec | hwait | hnone
    · simp [h, hrec]
    · simp [h, hwait]
    · simp [ps, hnone]

/-- The clusters named and not yet in a staging buffer. -/
def unbuffered (ps : List Nat) (s : State) : List Nat := ps.filter (fun p => !s.mem.bufs.any (fun kv => kv.2.1 == p))

theorem exec_readRevolutionStart {s : State} {head : Head} {psas : List (BitVec 32)} {ps : List Nat} (hps : ps = (psas.map (fun p => psaCluster p.toNat)).eraseDups)
    (hsome : ps ≠ []) (hrec : recording head.n s = false) (hwait : mustWait head.n s = false)
    (hwanted : ∀ p ∈ ps, psaSide p = head.n ∧ s.cl.reqs.any (fun r => r.home == homeOf p s && readable r s) = true) :
    exec (.readRevolutionStart head psas) s = (reserveAll head.n (unbuffered ps s) s).elim
      (.next (holdRev head.n (ps.map (fun p => homeOf p s)) s)) fun u => .next (u |> fset ZRG.page (holdingFld head.n) 0 |> fset MC.page (followFld head.n) 1) := by
  subst hps
  have hhomes : ((((psas.map (fun p => psaCluster p.toNat)).eraseDups).map (fun p => homeOf p s)).all fun a => s.cl.reqs.any (fun r => r.home == a && readable r s)) = true := by
    rw [List.all_map, List.all_eq_true]
    exact fun p hp => (hwanted p hp).2
  have hside : ((psas.map (fun p => psaCluster p.toNat)).eraseDups).any (fun p => psaSide p != head.n) = false :=
    List.any_eq_false.mpr fun p hp => by simp [(hwanted p hp).1]
  change execReadRevolutionStart head psas s = _
  unfold execReadRevolutionStart
  extract_lets h ps homes wanted
  rw [if_neg (by simp only [wanted, homes, hhomes, ps, hside, h, hrec, hwait, hsome]; decide)]
  split
  next hnone =>
    rw [show reserveAll head.n (unbuffered _ s) s = none from hnone]
    rfl
  next u hu =>
    rw [show reserveAll head.n (unbuffered _ s) s = some u from hu]
    rfl

theorem holdingFld_inPage {h : Nat} : (holdingFld h).inPage := by
  unfold holdingFld
  split <;> decide

theorem followFld_inPage {h : Nat} : (followFld h).inPage := by
  unfold followFld
  split <;> decide

/-- A head shows that it waits a revolution, and follows no further. -/
def holdShown (h : Nat) (s : State) : State :=
  s |> fset ZRG.page (holdingFld h) 1 |> cnt ZRG.page ZRG.HOLD_REVS ZRG.kCNT_SAT |> pmc 0x0C h 1 |> fset MC.page (followFld h) 0

theorem fget_holdRev {s : State} {h q : Nat} {homes : List Nat} {g : Fld} : fget q g (holdRev h homes s) = fget q g (holdShown h s) :=
  foldl_kept (P := fun u => fget q g u = fget q g (holdShown h s)) (fun _ _ hu => (modCmd_kept (m := fun x => fget q g x) (fun _ => rfl) (.refl _)).view.trans hu) rfl

theorem fget_holding_holdRev {s : State} {h : Nat} {homes : List Nat} : fget ZRG.page (holdingFld h) (holdRev h homes s) = 1 := by
  have hplaces : 1 < 2 ^ (holdingFld h).width ∧ (holdingFld h).place ≠ ZRG.HOLD_REVS.place ∧ (holdingFld h).place ≠ hdrSticky.place := by
    unfold holdingFld
    split <;> decide
  obtain ⟨hfits, hcnt, hsticky⟩ := hplaces
  have hpmc : ∀ u, fget ZRG.page (holdingFld h) (pmc 0x0C h 1 u) = fget ZRG.page (holdingFld h) u := fun u =>
    (otherPages.refl (ps := [PMC.page])).pmc (by decide) _ (by decide) _ holdingFld_inPage
  rw [fget_holdRev, holdShown, fget_fset_other _ _ (key_page_ne holdingFld_inPage followFld_inPage (by decide)), hpmc,
    fget_cnt_place holdingFld_inPage (by decide) hcnt hsticky, fget_fset_lt hfits]

theorem fget_follow_holdRev {s : State} {h : Nat} {homes : List Nat} : fget MC.page (followFld h) (holdRev h homes s) = 0 := by
  rw [fget_holdRev, holdShown, fget_fset_same]
  exact Nat.zero_mod _

theorem readRevolutionStart_starts (psas : List (BitVec 32)) (ps : List Nat) (hps : ps = (psas.map (fun p => psaCluster p.toNat)).eraseDups) (hsome : ps ≠ [])
    (hrec : recording head.n s = false) (hwait : mustWait head.n s = false)
    (hwanted : ∀ p ∈ ps, psaSide p = head.n ∧ s.cl.reqs.any (fun r => r.home == homeOf p s && readable r s) = true) :
    (∀ u, reserveAll head.n (ps.filter (fun p => !s.mem.bufs.any (fun kv => kv.2.1 == p))) s = some u → Completes (.readRevolutionStart head psas) s fun t =>
      fget ZRG.page (holdingFld head.n) t = 0 ∧ fget MC.page (followFld head.n) t = 1 ∧ t.mem = u.mem) ∧
    (reserveAll head.n (ps.filter (fun p => !s.mem.bufs.any (fun kv => kv.2.1 == p))) s = none → Completes (.readRevolutionStart head psas) s fun t =>
      fget ZRG.page (holdingFld head.n) t = 1 ∧ fget MC.page (followFld head.n) t = 0 ∧ t.mem = s.mem) := by
  have hrun := exec_readRevolutionStart hps hsome hrec hwait hwanted
  refine ⟨fun u hu => ?_, fun hnone => ?_⟩
  · rw [unbuffered, hu] at hrun
    refine ⟨_, hrun, ?_, fget_fset_lt ?_, rfl⟩
    · rw [fget_fset_other _ _ (key_page_ne holdingFld_inPage followFld_inPage (by decide)), fget_fset_same]
      exact Nat.zero_mod _
    · unfold followFld
      split <;> decide
  · rw [unbuffered, hnone] at hrun
    exact ⟨_, hrun, fget_holding_holdRev, fget_follow_holdRev, (holdRev_kept (m := State.mem) (fun _ => rfl) (.refl s)).view⟩

/-! ### A head out of service (R433) -/

/-- A request of a head out of service leaves the pool, and its cluster has ended. -/
def oosTaken (u : State) (r : ClReq) : State := oosEnd r.tag r.cluster r.write (setCl { u.cl with reqs := u.cl.reqs.erase r } u)

theorem oosTaken_reqs {u : State} {r : ClReq} : (oosTaken u r).cl.reqs = u.cl.reqs.erase r := modCmd_reqs ..

/-- With all that lie on a head's side taken, none lies there. -/
theorem filter_oosTaken_foldl {s : State} {side : ClReq → Bool} {rs : List ClReq} (hall : s.cl.reqs.filter side = rs) :
    (rs.foldl oosTaken s).cl.reqs.filter side = [] := by
  induction rs generalizing s with
  | nil => exact hall
  | cons r rs ih => exact ih (by rw [oosTaken_reqs, ← List.erase_filter, hall, List.erase_cons_head])

/-- The requests on a head's side. -/
def onSide (h : Nat) (s : State) (r : ClReq) : Bool := psaSide (placeOf r.home s) == h

/-- A head is out of service, and its requests have ended. -/
def headOut (h : Nat) (s : State) : State :=
  (s.cl.reqs.filter (onSide h s)).foldl oosTaken s |> (fun u => setHead h { u.head h with out := true, oosTold := true } u) |> showPool

theorem headOut_kept {s : State} {h : Nat} {α : Type} {m : State → α} (hm : ∀ u, m u = m { u with regs := [], heads := [], cl := {} }) : Kept m s (headOut h s) :=
  have htaken := foldl_kept (P := fun u => Kept m s u) (f := oosTaken) (l := s.cl.reqs.filter (onSide h s))
    (fun _ _ hu => oosEnd_kept (sub hm) (setCl_kept (sub hm) hu)) (.refl s)
  showPool_kept (sub hm) (setHead_kept (sub hm) htaken)

theorem out_headOut {s : State} {h : Nat} : ((headOut h s).head h).out = true := by
  unfold headOut
  rw [(showPool_kept (m := fun u => u.head h) (fun _ => rfl) (.refl _)).view, setHead_same]

theorem headOut_reqs {s : State} {h : Nat} {r : ClReq} (hr : r ∈ (headOut h s).cl.reqs) : psaSide (placeOf r.home s) ≠ h := by
  unfold headOut at hr
  rw [showPool_cl, setHead_cl] at hr
  simpa [onSide] using List.filter_eq_nil_iff.mp (filter_oosTaken_foldl rfl) r hr

theorem exec_headOutOfService {s : State} {head : Head} (hleg : legacyDisc s = false) (htold : (s.head head.n).oosTold = false) :
    exec (.headOutOfService head) s = .next (emit 0x500A srcHost 0xFF head.n (s.cl.reqs.filter (onSide head.n s)).length (headOut head.n s)) := by
  change execHeadOutOfService head s = _
  unfold execHeadOutOfService
  simp only [hleg, htold, Bool.false_and, Bool.false_eq_true, if_false]
  rfl

theorem headOutOfService_told (hleg : legacyDisc s = false) (htold : (s.head head.n).oosTold = false) :
    Completes (.headOutOfService head) s fun t => (t.head head.n).out = true ∧
      (∀ r ∈ t.cl.reqs, psaSide (placeOf r.home s) ≠ head.n) ∧
      t.evq = s.evq ++ [⟨0x500A, srcHost, 0xFF, head.n, (s.cl.reqs.filter (fun r => psaSide (placeOf r.home s) == head.n)).length % 2 ^ 32, false⟩] ∧
      sameBut [.regs, .evq, .heads, .cl] s t := by
  have hhead : head.n % 2 ^ 32 = head.n := by cases head <;> rfl
  refine ⟨_, exec_headOutOfService hleg htold, out_headOut, fun _ => headOut_reqs, ?_, sameBut_of_kept (emit_kept (fun _ => rfl) (headOut_kept fun _ => rfl))⟩
  rw [emit_evq, hhead, (headOut_kept (m := State.evq) fun _ => rfl).view]
  rfl

/-- Settles O33: each command by the rule of what it does to the command layer's requests, in the order of the statement. -/
theorem schedulerAndRequests : Obligations.SchedulerAndRequests := fun s =>
  ⟨commandExpansion_none s, commandExpansion_waits s, commandExpansion_last s, commandExpansion_poolEmpty s, writeDataArrived_unknown s,
    writeDataArrived_queues s, xferCheckCompare_idle s, xferCheckCompare_passes s,
    fun tag c bs hcmd hbs hop hcheck hfirst hphase _ => xferCheckCompare_fails s tag c bs hcmd hbs hop hcheck hfirst hphase,
    bandChoice_waits s, bandChoice_inOrder s, bandChoice_sweeps s, bandChoice_byAge s, readRevolutionStart_idle s, readRevolutionStart_starts s,
    headOutOfService_told s⟩

end Sys2Proof.Machine
end

section
/-!
PROOFS. Clusters encoded (R324, R348) and what recordings in the Disc Control Zone leave of the journal and of the clusters recorded (R63 to R69, R351).
-/
namespace Sys2Proof.Machine

variable {s t u : State} {p q b n v : Nat} {f g lo hi : Fld}

/-- Sector 0 of a cluster is sector 0 of its own cluster. -/
theorem psaCluster_psaCluster (n : Nat) : psaCluster (psaCluster n) = psaCluster n := by
  unfold psaCluster
  rw [Nat.mul_div_cancel _ (by decide)]

/-! ### Pairs of registers (R609) -/

/-- A pair written reads as the number written. -/
theorem fget64_fset64 (hlo : lo.inPage) (hhi : hi.inPage) (hne : lo.place ≠ hi.place) (hwlo : lo.width = 32) (hwhi : hi.width = 32) (hv : v < 2 ^ 64) :
    fget64 p lo hi (fset64 p lo hi v s) = v := by
  unfold fget64 fset64
  rw [fget_fset_place hlo hhi hne, fget_fset_lt (by rw [hwlo]; omega), fget_fset_lt (by rw [hwhi]; omega)]
  omega

theorem fget_fset64_place (hg : g.inPage) (hlo : lo.inPage) (hhi : hi.inPage) (hnelo : g.place ≠ lo.place) (hnehi : g.place ≠ hi.place) :
    fget q g (fset64 p lo hi v s) = fget q g s := (fget_fset_place hg hhi hnehi).trans (fget_fset_place hg hlo hnelo)

/-- A pair that counts writes its two places and that of STICKY. -/
theorem fget_cnt64_place (hg : g.inPage) (hlo : lo.inPage) (hhi : hi.inPage) (hnelo : g.place ≠ lo.place) (hnehi : g.place ≠ hi.place)
    (hsticky : g.place ≠ hdrSticky.place) : fget q g (cnt64 p lo hi b n s) = fget q g s := by
  unfold cnt64
  dsimp only
  split
  · exact fget_fset64_place hg hlo hhi hnelo hnehi
  · exact (fget_fset_place hg (by decide) hsticky).trans (fget_fset64_place hg hlo hhi hnelo hnehi)

/-! ### The write sequence number (R348) -/

theorem wseq_congr (hlo : fget ENC.page ENC.WSEQ_LO t = fget ENC.page ENC.WSEQ_LO s) (hhi : fget ENC.page ENC.WSEQ_HI t = fget ENC.page ENC.WSEQ_HI s) :
    wseq t = wseq s := by
  unfold wseq fget64
  rw [hlo, hhi]

theorem wseq_setWseq (hv : v < 2 ^ 64) : wseq (setWseq v s) = v :=
  fget64_fset64 (by decide) (by decide) (by decide) (by decide) (by decide) hv

theorem wseq_cnt (hf : f.inPage) (hlo : ENC.WSEQ_LO.place ≠ f.place) (hhi : ENC.WSEQ_HI.place ≠ f.place) : wseq (cnt p f b s) = wseq s :=
  wseq_congr (fget_cnt_place (by decide) hf hlo (by decide)) (fget_cnt_place (by decide) hf hhi (by decide))

/-- Counters outside the encoder's pair leave it as it is. -/
theorem wseq_cnt64 (hlo : lo.inPage) (hhi : hi.inPage) (hl : ENC.WSEQ_LO.place ∉ [lo.place, hi.place]) (hh : ENC.WSEQ_HI.place ∉ [lo.place, hi.place]) :
    wseq (cnt64 p lo hi b n s) = wseq s := by
  simp only [List.mem_cons, List.not_mem_nil, or_false, not_or] at hl hh
  exact wseq_congr (fget_cnt64_place (by decide) hlo hhi hl.1 hl.2 (by decide)) (fget_cnt64_place (by decide) hlo hhi hh.1 hh.2 (by decide))

theorem wseq_otherPages {ps : List Nat} (h : otherPages ps s t) (hp : ENC.page ∉ ps) : wseq t = wseq s :=
  wseq_congr (h _ hp _ (by decide)) (h _ hp _ (by decide))

/-! ### A cluster encoded (R56 to R59, R324) -/

theorem length_clusterFrames (sectors : List (List Nat)) (trailer : List Nat) : (clusterFrames sectors trailer).length = 480 := by
  unfold clusterFrames
  simp [List.length_flatten, Function.comp_def]

variable {psa home stream mask : Nat} {lba : Option Nat} {comp : Bool} {ps : List (List Nat)}

theorem wseq_encodeCluster (hw : wseq s + 1 < 2 ^ 48) : wseq (encodeCluster psa home stream lba comp mask ps s).2 = wseq s + 1 := by
  unfold encodeCluster
  dsimp only
  have hcounted : ∀ {P : Prop} [Decidable P] {k : Nat} {x : State}, wseq ((if P then cnt64 XTS.page XTS.ENC_SECT_LO XTS.ENC_SECT_HI XTS.kCNT_SAT k else id) x) = wseq x :=
    fun {_ _ _ x} => ite_app_kept (P := fun y => wseq y = wseq x) (wseq_cnt64 (by decide) (by decide) (by decide) (by decide)) rfl
  rw [hcounted, wseq_cnt64 (by decide) (by decide) (by decide) (by decide), wseq_cnt64 (by decide) (by decide) (by decide) (by decide),
    wseq_setWseq (Nat.lt_trans hw (by decide))]

/-! ### CLUSTER_ENCODE (R324, R348, R515) -/

theorem hasInt_keyMissing : hasInt XTS.page XTS.iKEY_MISSING (keyMissing s) :=
  (hasInt_congr ((fget_cnt_place (by decide) (by decide) (by decide) (by decide)).trans (fget_fset_place (by decide) (by decide) (by decide)))).2
    (hasInt_raise (by decide))

theorem otherPages_keyMissing : otherPages [XTS.page] s (keyMissing s) :=
  ((otherPages.refl.raise (by decide)).fault (by decide)).cnt (by decide) (by decide)

theorem clusterEncode_off (s : State) (c : ClusterIn) (hoff : fon ENC.page ENC.CTRL_EN s = false) : Completes (.clusterEncode c) s fun t => t = s := by
  change ∃ t, execClusterEncode c s = .next t ∧ _
  simp [execClusterEncode, hoff]

theorem clusterEncode_keyMissing (s : State) (c : ClusterIn) (hen : fon ENC.page ENC.CTRL_EN s = true) (hkey : keyReady s = false) :
    Completes (.clusterEncode c) s fun t => hasInt XTS.page XTS.iKEY_MISSING t ∧ t.encoded = s.encoded ∧
      t.ends.find (homeOf (psaCluster c.psa) s) = some { kind := .keyRequired, mask := 0 } ∧ fget64 ENC.page ENC.WSEQ_LO ENC.WSEQ_HI t = wseq s := by
  have hrun : exec (.clusterEncode c) s = .next (endCluster (psaCluster c.psa) { kind := .keyRequired, mask := 0 } (keyMissing s)) := by
    change execClusterEncode c s = _
    simp [execClusterEncode, hen, hkey]
  have hhome : homeOf (psaCluster (psaCluster c.psa)) (keyMissing s) = homeOf (psaCluster c.psa) s := by
    rw [psaCluster_psaCluster]
    exact (keyMissing_kept (m := homeOf (psaCluster c.psa)) (fun _ => rfl) (.refl s)).view
  refine ⟨_, hrun, ?_, ?_, hhome ▸ endCluster_ends, ?_⟩
  · exact (hasInt_congr (otherPages_endCluster _ (by decide) _ (by decide))).2 hasInt_keyMissing
  · exact (endCluster_kept (m := State.encoded) (fun _ => rfl) (keyMissing_kept (fun _ => rfl) (.refl s))).view
  · exact (wseq_otherPages otherPages_endCluster (by decide)).trans (wseq_otherPages otherPages_keyMissing (by decide))

theorem clusterEncode_encodes (s : State) (c : ClusterIn) (home : Nat) (hen : fon ENC.page ENC.CTRL_EN s = true) (hkey : keyReady s = true)
    (hckpt : needsCheckpoint c.lba s = false) (hid : unidentified s = false)
    (hhome : home = (match c.lba with | some a => psaCluster (lbaToPsa a) | none => homeOf (psaCluster c.psa) s)) (hfree : writeFor home s = none)
    (hw : wseq s + 1 < 2 ^ 48) :
    Completes (.clusterEncode c) s fun t => wseq t = wseq s + 1 ∧ (∃ e, t.encoded = s.encoded ++ [e] ∧ e.psa = psaCluster c.psa ∧ e.home = home ∧ e.wseq = wseq s ∧
      e.mask = c.mask ∧ e.frames.length = 480 ∧ e.sectors = fillZeros c.mask c.sectors) ∧ sameBut [.regs, .encoded] s t := by
  have hrun : exec (.clusterEncode c) s = .next { (encodeCluster (psaCluster c.psa) home c.stream c.lba c.compressed c.mask c.sectors s).2 with
      encoded := (encodeCluster (psaCluster c.psa) home c.stream c.lba c.compressed c.mask c.sectors s).2.encoded ++
        [(encodeCluster (psaCluster c.psa) home c.stream c.lba c.compressed c.mask c.sectors s).1] } := by
    change execClusterEncode c s = _
    unfold execClusterEncode
    dsimp only
    rw [if_neg (by simp [hen]), if_neg (by simp [hkey]), if_neg (by simp [hckpt, hid])]
    subst hhome
    split
    · rfl
    next r hr => cases hfree.symm.trans hr
  have hkept : ∀ {α : Type} {m : State → α}, (∀ u, m u = m { u with regs := [] }) →
      m (encodeCluster (psaCluster c.psa) home c.stream c.lba c.compressed c.mask c.sectors s).2 = m s := fun hm => (encodeCluster_kept hm (.refl s)).view
  refine ⟨_, hrun, wseq_encodeCluster hw, ⟨_, congrArg (· ++ _) (hkept (m := State.encoded) fun _ => rfl), rfl, rfl, rfl, rfl, length_clusterFrames _ _, rfl⟩, ?_⟩
  exact hkept (m := fun u => [Part.regs, Part.encoded].foldr State.clear u) fun _ => rfl

end Sys2Proof.Machine
end

section
/-!
PROOFS. What recordings in the Disc Control Zone leave of the journal and of the clusters recorded (R63 to R69, R351), and the counters of a replacement (R357).
-/
namespace Sys2Proof.Machine

variable {s t u : State}

theorem isSome_find_insert {α : Type} {m : Store α} {j k : Nat} {v : α} (h : (m.find j).isSome = true) : ((m.insert k v).find j).isSome = true := by
  by_cases hjk : j = k
  · subst hjk
    simp
  · rwa [Store.find_insert_other _ _ _ _ hjk]

/-! ### Blocks recorded in the Disc Control Zone -/

/-- The journal has grown by `n` entries, and every cluster recorded stays recorded. -/
structure Journalled (n : Nat) (s t : State) : Prop where
  intents : t.disc.intents.length = s.disc.intents.length + n
  written : ∀ p, (s.disc.written.find p).isSome = true → (t.disc.written.find p).isSome = true

variable {m n : Nat}

theorem Journalled.trans (h : Journalled m s t) (k : Journalled n t u) : Journalled (m + n) s u :=
  ⟨by rw [k.intents, h.intents, Nat.add_assoc], fun p hp => k.written p (h.written p hp)⟩

theorem Journalled.of_disc (h : t.disc = s.disc) : Journalled 0 s t := ⟨by rw [h, Nat.add_zero], fun p hp => by rwa [h]⟩

variable {side home type layer gen part parts : Nat} {payload : List Nat} {forSeal : Bool}

theorem recordPart_journalled (h : recordPart side home type layer gen part parts payload forSeal s = some t) : Journalled 0 s t := by
  unfold recordPart at h
  obtain ⟨l, -, rfl⟩ := Option.map_eq_some_iff.1 h
  have hdisc : ∀ {x : State} {o : Out} {w : Nat}, (showFree side (cnt ENC.page ENC.DCZ_BLOCKS ENC.kCNT_SAT (setWseq w (send o x)))).disc = x.disc := fun {x _ _} =>
    (showFree_kept (m := State.disc) (fun _ => rfl) (cnt_kept (fun _ => rfl) (setWseq_kept (fun _ => rfl) (send_kept (fun _ => rfl) (.refl x))))).view
  constructor
  · rw [hdisc]
    rfl
  · intro p hp
    rw [hdisc]
    exact isSome_find_insert hp

theorem recordParts_journalled {es : List (Nat × Nat)} (h : recordParts side layer gen parts forSeal n es s = some t) : Journalled 0 s t := by
  induction n generalizing es s with
  | zero => cases h; exact .of_disc rfl
  | succ n ih =>
    obtain ⟨u, hpart, hrest⟩ := Option.bind_eq_some_iff.1 h
    exact (recordPart_journalled hpart).trans (ih hrest)

theorem recordDefects_journalled (h : recordDefects side layer forSeal s = some t) : Journalled 0 s t := by
  unfold recordDefects at h
  obtain ⟨u, hparts, rfl⟩ := Option.map_eq_some_iff.1 h
  obtain ⟨hintents, hwritten⟩ := recordParts_journalled hparts
  exact ⟨hintents, hwritten⟩

theorem recordIntent_journalled {i : Intent} (h : recordIntent i forSeal s = some t) : Journalled 1 s t := by
  unfold recordIntent recordBlock at h
  obtain ⟨u, hpart, rfl⟩ := Option.map_eq_some_iff.1 h
  obtain ⟨hintents, hwritten⟩ := recordPart_journalled hpart
  constructor
  · change (u.disc.intents ++ [_]).length = _
    rw [List.length_append, hintents]
    rfl
  · exact hwritten

theorem recordOn_journalled {mk : Nat → Intent} {sides : List Nat} (h : recordOn mk forSeal sides s = some t) : Journalled sides.length s t := by
  induction sides generalizing s with
  | nil => cases h; exact .of_disc rfl
  | cons d ds ih =>
    obtain ⟨u, hfirst, hrest⟩ := Option.bind_eq_some_iff.1 h
    rw [List.length_cons, Nat.add_comm]
    exact (recordIntent_journalled hfirst).trans (ih hrest)

/-! ### A replacement (R351) -/

variable {repl tries : Nat} {c : Encoded}

theorem recordReplacement_recorded : Journalled 0 s (recordReplacement home repl c s) ∧
    ((recordReplacement home repl c s).disc.written.find repl).isSome = true := by
  have hdisc : (encodeCluster repl home c.stream c.lba c.comp c.mask c.sectors s).2.disc = s.disc := (encodeCluster_kept (m := State.disc) (fun _ => rfl) (.refl s)).view
  have hrecorded : (recordReplacement home repl c s).disc =
      { s.disc with written := s.disc.written.insert repl (wseq s), named := s.disc.named ++ [repl] } := by
    rw [← hdisc]
    rfl
  refine ⟨⟨by rw [hrecorded, Nat.add_zero], fun p hp => ?_⟩, ?_⟩
  · rw [hrecorded]
    exact isSome_find_insert hp
  · rw [hrecorded]
    simp

/-- A replacement made is in the lowest free spare slot, recorded there, under two entries of the journal. -/
theorem replace_done (h : replace home tries c true s = (.done repl, u)) :
    nextSpare home s = some repl ∧ Journalled 2 s u ∧ (u.disc.written.find repl).isSome = true := by
  unfold replace at h
  dsimp only at h
  split at h
  · cases h
  next r hspare =>
    split at h
    · cases h
    next t hintent =>
      rw [if_neg (by decide)] at h
      split at h
      · cases h
      next v hdone =>
        cases h
        obtain ⟨d, hdefects, hsecond⟩ := Option.bind_eq_some_iff.1 hdone
        obtain ⟨hkept, hwritten⟩ := recordReplacement_recorded (s := t) (home := home) (repl := repl) (c := c)
        have hlisted := (recordDefects_journalled hdefects).trans (recordIntent_journalled hsecond)
        have hrest : Journalled 1 (recordReplacement home repl c t) u := ⟨hlisted.intents, hlisted.written⟩
        exact ⟨hspare, ((recordIntent_journalled hintent).trans hkept).trans hrest, hrest.written _ hwritten⟩

theorem replace_none {verified : Bool} (h : nextSpare home s = none) : replace home tries c verified s = (.stuck 3, s) := by
  unfold replace
  dsimp only
  split
  · rfl
  next r hr => cases h.symm.trans hr

theorem psaSide_mod_word (p : Nat) : psaSide p % 2 ^ 32 = psaSide p := by
  unfold psaSide slice
  omega

theorem replMade_evq : (replMade home repl s).evq =
    s.evq ++ [⟨0x4103, srcChan (psaSide home), psaSide home, home % 2 ^ 32, repl % 2 ^ 32, false⟩] := by
  unfold replMade
  rw [emit_evq, cnt_evq, psaSide_mod_word]

variable {reason : Nat}

theorem replImpossible_evq : (replImpossible home reason s).evq =
    s.evq ++ [⟨0x4104, srcChan (psaSide home), psaSide home, home % 2 ^ 32, reason % 2 ^ 32, false⟩] := by
  unfold replImpossible fault
  rw [emit_evq, raise_evq, fset_evq, psaSide_mod_word]

theorem hasInt_replImpossible : hasInt ENC.page ENC.iREPL_FAIL (replImpossible home reason s) := hasInt_raise (by decide)

/-- Any reason but the lack of a slot of the Disc Control Zone is FAULT_CODE 1 (R346). -/
theorem fget_fault_replImpossible (h : reason ≠ 4) : fget ENC.page hdrFault (replImpossible home reason s) = 1 := by
  have hraise : fget ENC.page hdrFault (replImpossible home reason s) = fget ENC.page hdrFault (fault ENC.page (if reason = 4 then 0x02 else 0x01) s) :=
    fget_raise_place (by decide) (by decide)
  rw [hraise, if_neg h]
  exact fget_fset_same ..

end Sys2Proof.Machine
end

section
/-!
PROOFS. Relocations (R311, R351) and abandoned clusters recorded again (R346).
-/
namespace Sys2Proof.Machine

/-! ### RELOCATION (R311, R351) -/

theorem relocation_noneQueued (s : State) (side : Fin 2) (verified : Bool) (hnone : s.disc.relocs.find? (fun r => psaSide r.home == side.val) = none) :
    Completes (.relocation side verified) s fun t => t = s := by
  change ∃ t, execRelocation side verified s = .next t ∧ _
  simp [execRelocation, hnone]

theorem relocation_keyMissing (s : State) (side : Fin 2) (verified : Bool) (r : Reloc)
    (hreloc : s.disc.relocs.find? (fun r => psaSide r.home == side.val) = some r) (hkey : keyReady s = false) :
    Completes (.relocation side verified) s fun t => t = s := by
  change ∃ t, execRelocation side verified s = .next t ∧ _
  simp [execRelocation, hreloc, hkey]

theorem relocation_done (s : State) (side : Fin 2) (r : Reloc) (repl : Nat) (u : State)
    (hreloc : s.disc.relocs.find? (fun r => psaSide r.home == side.val) = some r) (hkey : keyReady s = true) (hserved : inService side s = true)
    (hrepl : replace r.home r.tries (relocContent r s) true s = (.done repl, u)) :
    Completes (.relocation side true) s fun t => t.disc.relocs = u.disc.relocs.erase r ∧
      nextSpare r.home s = some repl ∧ t.disc.intents.length = s.disc.intents.length + 2 ∧ (t.disc.written.find repl).isSome = true ∧
      t.evq.getLast? = some ⟨0x4103, srcChan (psaSide r.home), psaSide r.home, r.home % 2 ^ 32, repl % 2 ^ 32, false⟩ := by
  have hrun : exec (.relocation side true) s = .next (replMade r.home repl (setDisc { u.disc with relocs := u.disc.relocs.erase r } u)) := by
    change execRelocation side true s = _
    simp [execRelocation, hreloc, hkey, hserved, hrepl]
  have hdisc : (replMade r.home repl (setDisc { u.disc with relocs := u.disc.relocs.erase r } u)).disc = { u.disc with relocs := u.disc.relocs.erase r } :=
    (replMade_kept (m := State.disc) (fun _ => rfl) (.refl _)).view
  obtain ⟨hspare, ⟨hintents, -⟩, hwritten⟩ := replace_done hrepl
  refine ⟨_, hrun, ?_, hspare, ?_, ?_, ?_⟩
  · rw [hdisc]
  · rw [hdisc]
    exact hintents
  · rw [hdisc]
    exact hwritten
  · rw [replMade_evq, List.getLast?_concat]

theorem relocation_noSpare (s : State) (side : Fin 2) (verified : Bool) (r : Reloc)
    (hreloc : s.disc.relocs.find? (fun r => psaSide r.home == side.val) = some r) (hkey : keyReady s = true) (hserved : inService side s = true)
    (hspare : nextSpare r.home s = none) (hverify : r.verify = false) :
    Completes (.relocation side verified) s fun t => t.disc.relocs = s.disc.relocs.erase r ∧
      hasInt ENC.page ENC.iREPL_FAIL t ∧ fget ENC.page hdrFault t = 1 ∧
      t.evq = s.evq ++ [⟨0x4104, srcChan (psaSide r.home), psaSide r.home, r.home % 2 ^ 32, 3, false⟩] ∧ sameBut [.regs, .evq, .out, .msixPend, .disc] s t := by
  have hrun : exec (.relocation side verified) s = .next (replImpossible r.home 3 (setDisc { s.disc with relocs := s.disc.relocs.erase r } s)) := by
    change execRelocation side verified s = _
    simp [execRelocation, hreloc, hkey, hserved, replace_none hspare, hverify]
  refine ⟨_, hrun, ?_, hasInt_replImpossible, fget_fault_replImpossible (by decide), replImpossible_evq, ?_⟩
  · exact congrArg DiscSt.relocs (replImpossible_kept (m := State.disc) (fun _ => rfl) (.refl _)).view
  · exact sameBut_of_kept (replImpossible_kept (fun _ => rfl) (setDisc_kept (fun _ => rfl) (.refl s)))

/-! ### ABANDONED_RE_RECORDING (R346) -/

/-- A head's record without one of its abandoned clusters. -/
def abandonedTaken (h : Nat) (e : Emission) (t : State) : State := setRec h { t.rec' h with abandoned := (t.rec' h).abandoned.erase e } t

/-- A cluster's sectors taken out of staging. -/
def stagingLeft (e : Emission) (t : State) : State := { t with encoded := t.encoded.filter (fun x => x.psa != e.psa) }

theorem abandonedTaken_kept {α : Type} {m : State → α} (hm : ∀ u, m u = m { u with recs := [] }) {s0 s : State} {h : Nat} {e : Emission} (hk : Kept m s0 s) :
    Kept m s0 (abandonedTaken h e s) := setRec_kept (sub hm) hk

theorem stagingLeft_kept {α : Type} {m : State → α} (hm : ∀ u, m u = m { u with encoded := [] }) {s0 s : State} {e : Emission} (hk : Kept m s0 s) :
    Kept m s0 (stagingLeft e s) := Kept.with hm hk

theorem rec_eq_of_recs {s t : State} (h : t.recs = s.recs) (k : Nat) : t.rec' k = s.rec' k := by
  unfold State.rec'
  rw [h]

/-- Where a cluster has its home is read from the Defect Lists alone (R62). -/
theorem homeOf_congr {s t : State} (hdefects : t.disc.defects = s.disc.defects) (hpending : t.disc.pending = s.disc.pending) (p : Nat) :
    homeOf p t = homeOf p s := by
  unfold homeOf
  rw [hdefects, hpending]

theorem homeOf_highWater (p n : Nat) (s : State) : homeOf p (highWater n s) = homeOf p s := by
  unfold highWater
  dsimp only
  split
  · exact homeOf_congr rfl rfl p
  · rfl

theorem abandoned_noneUser (s : State) (head : Head) (verified : Bool) (hnone : (s.rec' head.n).abandoned.find? (fun e => !e.dcz) = none) :
    Completes (.abandonedReRecording head verified) s fun t => t = s := by
  change ∃ t, execAbandonedReRecording head verified s = .next t ∧ _
  simp [execAbandonedReRecording, hnone]

theorem abandoned_sealed (s : State) (head : Head) (verified : Bool) (e : Emission) (c : Encoded)
    (hfind : (s.rec' head.n).abandoned.find? (fun e => !e.dcz) = some e) (hstaged : s.encoded.find? (fun c => c.psa == e.psa) = some c)
    (hsealed : sealState (psaSide e.home) s ≠ 0) : Completes (.abandonedReRecording head verified) s fun t =>
      (t.rec' head.n).abandoned = (s.rec' head.n).abandoned.erase e ∧
      t.encoded = s.encoded.filter (fun c => c.psa != e.psa) ∧ t.ends.find (homeOf (psaCluster e.home) s) = some (faultEnd 0x4104 2) ∧
      ∃ later, t.evq = s.evq ++ ⟨0x4104, srcChan (psaSide e.home), psaSide e.home, e.home % 2 ^ 32, 2, false⟩ :: later := by
  let v := replImpossible e.home 2 (abandonedTaken head.n e s)
  have hv : ∀ {α : Type} {m : State → α}, (∀ u, m u = m { u with regs := [], evq := [], out := [], msixPend := 0, recs := [] }) → m v = m s :=
    fun hm => (replImpossible_kept (sub hm) (abandonedTaken_kept (sub hm) (.refl s))).view
  have hrun : exec (.abandonedReRecording head verified) s = .next (endCluster e.home (faultEnd 0x4104 2) (stagingLeft e v)) := by
    change execAbandonedReRecording head verified s = _
    simp [execAbandonedReRecording, hfind, hstaged, hsealed, abandonedFault, stagingLeft, v, abandonedTaken]
  have hhome : homeOf (psaCluster e.home) (stagingLeft e v) = homeOf (psaCluster e.home) s := hv (m := homeOf (psaCluster e.home)) fun _ => rfl
  refine ⟨_, hrun, ?_, ?_, hhome ▸ endCluster_ends, [], ?_⟩
  · have hrecs : (endCluster e.home (faultEnd 0x4104 2) (stagingLeft e v)).recs = (abandonedTaken head.n e s).recs :=
      (endCluster_kept (m := State.recs) (fun _ => rfl) (stagingLeft_kept (fun _ => rfl) (replImpossible_kept (fun _ => rfl) (.refl _)))).view
    rw [rec_eq_of_recs hrecs, abandonedTaken, setRec_same]
  · have hstaging : (endCluster e.home (faultEnd 0x4104 2) (stagingLeft e v)).encoded = (stagingLeft e v).encoded :=
      (endCluster_kept (m := State.encoded) (fun _ => rfl) (.refl _)).view
    rw [hstaging, stagingLeft, hv (m := State.encoded) fun _ => rfl]
  · have hevq : (endCluster e.home (faultEnd 0x4104 2) (stagingLeft e v)).evq = v.evq :=
      (endCluster_kept (m := State.evq) (fun _ => rfl) (stagingLeft_kept (fun _ => rfl) (.refl _))).view
    rw [hevq]
    exact replImpossible_evq

theorem abandoned_done (s : State) (head : Head) (e : Emission) (c : Encoded) (repl : Nat) (u : State)
    (hfind : (s.rec' head.n).abandoned.find? (fun e => !e.dcz) = some e) (hstaged : s.encoded.find? (fun c => c.psa == e.psa) = some c)
    (hopen : sealState (psaSide e.home) s = 0) (hleft : dczLeft (psaSide e.home) s = true) (hkey : keyReady s = true)
    (hrepl : replace e.home e.tries c true s = (.done repl, u)) : Completes (.abandonedReRecording head true) s fun t =>
      (t.rec' head.n).abandoned = (u.rec' head.n).abandoned.erase e ∧
      t.encoded = u.encoded.filter (fun x => x.psa != e.psa) ∧ t.ends.find (homeOf (psaCluster e.home) u) = some { kind := .written, verified := true } ∧
      ∃ later, t.evq = u.evq ++ ⟨0x4103, srcChan (psaSide e.home), psaSide e.home, e.home % 2 ^ 32, repl % 2 ^ 32, false⟩ :: later := by
  obtain ⟨hspare, -, -⟩ := replace_done hrepl
  let v := highWater e.home (replMade e.home repl (abandonedTaken head.n e (stagingLeft e u)))
  have hrun : exec (.abandonedReRecording head true) s = .next (endCluster e.home { kind := .written, verified := true } v) := by
    change execAbandonedReRecording head true s = _
    simp [execAbandonedReRecording, hfind, hstaged, hopen, hspare, hleft, hkey, hrepl, v, abandonedTaken, stagingLeft]
  have hhome : homeOf (psaCluster e.home) v = homeOf (psaCluster e.home) u :=
    (homeOf_highWater _ _ _).trans
      (replMade_kept (m := homeOf (psaCluster e.home)) (fun _ => rfl) (abandonedTaken_kept (fun _ => rfl) (stagingLeft_kept (fun _ => rfl) (.refl u)))).view
  have hv : ∀ {α : Type} {m : State → α}, (∀ u, m u = m { u with regs := [], out := [], msixPend := 0, ends := [], mem := {}, cl := {}, disc := {} }) →
      m (endCluster e.home { kind := .written, verified := true } v) = m (replMade e.home repl (abandonedTaken head.n e (stagingLeft e u))) :=
    fun hm => (endCluster_kept (sub hm) (highWater_kept (sub hm) (.refl _))).view
  refine ⟨_, hrun, ?_, ?_, hhome ▸ endCluster_ends, [], ?_⟩
  · have hrecs : (endCluster e.home { kind := .written, verified := true } v).recs = (abandonedTaken head.n e (stagingLeft e u)).recs :=
      (hv (m := State.recs) fun _ => rfl).trans (replMade_kept (m := State.recs) (fun _ => rfl) (.refl _)).view
    rw [rec_eq_of_recs hrecs, abandonedTaken, setRec_same]
    rfl
  · exact (hv (m := State.encoded) fun _ => rfl).trans
      (replMade_kept (m := State.encoded) (fun _ => rfl) (abandonedTaken_kept (fun _ => rfl) (.refl _))).view
  · exact (hv (m := State.evq) fun _ => rfl).trans replMade_evq

end Sys2Proof.Machine
end

section
/-!
PROOFS. Blocks of the Disc Control Zone recorded again (R646), frontier checkpoints (R348) and verify passes (R301, R356).
-/
namespace Sys2Proof.Machine

/-! ### DCZ_BLOCK_RE_RECORDING (R646) -/

theorem dczBlock_noneCutOff (s : State) (head : Head) (hnone : (s.rec' head.n).abandoned.find? (fun e => e.dcz) = none) :
    Completes (.dczBlockReRecording head) s fun t => t = s := by
  change ∃ t, execDczBlockReRecording head s = .next t ∧ _
  simp [execDczBlockReRecording, hnone]

theorem wseq_showFree (side : Nat) (s : State) : wseq (showFree side s) = wseq s := by
  have hfree : ∀ {f : Fld} {v : Nat} {x : State}, f.inPage → otherPages [FMT.page] x (fset FMT.page f v x) := fun hf => otherPages.refl.fset (by decide) hf
  unfold showFree
  dsimp only
  rw [wseq_otherPages (hfree (ite_kept (P := Fld.inPage) (by decide) (by decide))) (by decide),
    wseq_otherPages (hfree (ite_kept (P := Fld.inPage) (by decide) (by decide))) (by decide)]

/-- The disc after a block cut off has been recorded again in the next blank slot of layer `l`. -/
def blockMoved (e : Emission) (b : DczBlock) (l : Nat) (s : State) : DiscSt :=
  { s.disc with
    blocks := s.disc.blocks.filter (fun x => x.psa != e.psa) ++ [{ b with psa := dczPsa b.side l s }]
    written := s.disc.written.insert (dczPsa b.side l s) (wseq s)
    dczUsed := s.disc.dczUsed.insert (8 * b.side + l) (s.disc.dczUsed.get (8 * b.side + l) 0 + 1) }

theorem dczBlock_recordedAgain (s : State) (head : Head) (e : Emission) (b : DczBlock) (l : Nat)
    (hfind : (s.rec' head.n).abandoned.find? (fun e => e.dcz) = some e) (hblock : s.disc.blocks.find? (fun b => b.psa == e.psa) = some b)
    (hlayer : dczLayer b.side (if b.type = 4 then 0 else b.layer) (decide (sealState b.side s = 1)) s = some l) (hw : wseq s + 1 < 2 ^ 48) :
    Completes (.dczBlockReRecording head) s fun t => (t.rec' head.n).abandoned = (s.rec' head.n).abandoned.erase e ∧
      t.disc.blocks = s.disc.blocks.filter (fun x => x.psa != e.psa) ++ [{ b with psa := dczPsa b.side l s }] ∧ wseq t = wseq s + 1 ∧
      t.out = s.out ++ [.recorded (dczPsa b.side l s) (dczFrames { b with psa := dczPsa b.side l s } (wseq s) s.disc.id)] ∧
      sameBut [.regs, .out, .disc, .recs] s t := by
  let sent := send (.recorded (dczPsa b.side l s) (dczFrames { b with psa := dczPsa b.side l s } (wseq s) s.disc.id))
    (setDisc (blockMoved e b l s) (abandonedTaken head.n e s))
  have hrun : exec (.dczBlockReRecording head) s = .next (showFree b.side (cnt ENC.page ENC.DCZ_BLOCKS ENC.kCNT_SAT (setWseq (wseq s + 1) sent))) := by
    change execDczBlockReRecording head s = _
    unfold execDczBlockReRecording
    dsimp only
    split
    next hnone => cases hfind.symm.trans hnone
    next e' hfind' =>
      obtain rfl : e = e' := Option.some.inj (hfind.symm.trans hfind')
      split
      next hnone => cases hblock.symm.trans hnone
      next b' hblock' =>
        obtain rfl : b = b' := Option.some.inj (hblock.symm.trans hblock')
        split
        next l' hlayer' =>
          obtain rfl : l = l' := Option.some.inj (hlayer.symm.trans hlayer')
          rfl
        next hnone => cases hlayer.symm.trans hnone
  have hsent : ∀ {α : Type} {m : State → α}, (∀ u, m u = m { u with regs := [] }) →
      m (showFree b.side (cnt ENC.page ENC.DCZ_BLOCKS ENC.kCNT_SAT (setWseq (wseq s + 1) sent))) = m sent :=
    fun hm => (showFree_kept hm (cnt_kept hm (setWseq_kept hm (.refl _)))).view
  refine ⟨_, hrun, ?_, ?_, ?_, hsent (m := State.out) fun _ => rfl, ?_⟩
  · have hrecs : sent.rec' head.n = (abandonedTaken head.n e s).rec' head.n := rfl
    rw [rec_eq_of_recs (hsent (m := State.recs) fun _ => rfl), hrecs, abandonedTaken, setRec_same]
  · exact congrArg DiscSt.blocks (hsent (m := State.disc) fun _ => rfl)
  · rw [wseq_showFree, wseq_cnt (by decide) (by decide) (by decide), wseq_setWseq (Nat.lt_trans hw (by decide))]
  · exact sameBut_of_kept (showFree_kept (fun _ => rfl) (cnt_kept (fun _ => rfl) (setWseq_kept (fun _ => rfl) (send_kept (fun _ => rfl)
      (setDisc_kept (fun _ => rfl) (abandonedTaken_kept (fun _ => rfl) (.refl s)))))))

/-! ### FRONTIER_CHECKPOINT (R348) -/

theorem checkpoint_notDue (s : State) (cluster : Nat) (hidle : needsCheckpoint (some (32 * cluster)) s = false ∨ ckptSides s = []) :
    Completes (.frontierCheckpoint cluster) s fun t => t = s := by
  change ∃ t, execFrontierCheckpoint cluster s = .next t ∧ _
  rcases hidle with hneed | hsides
  · simp [execFrontierCheckpoint, hneed]
  · simp [execFrontierCheckpoint, hsides]

theorem checkpoint_noSlot (s : State) (cluster : Nat) (hneed : needsCheckpoint (some (32 * cluster)) s = true) (hsides : ckptSides s ≠ [])
    (hnone : checkpoint (ckptSides s) cluster s = none) :
    Completes (.frontierCheckpoint cluster) s fun t => t.ends.find (homeOf (psaCluster (lbaToPsa (32 * cluster))) s) = some (faultEnd 0 0x02) := by
  have hrun : exec (.frontierCheckpoint cluster) s = .next (endCluster (lbaToPsa (32 * cluster)) (faultEnd 0 0x02) s) := by
    change execFrontierCheckpoint cluster s = _
    simp [execFrontierCheckpoint, hneed, hsides, hnone]
  exact ⟨_, hrun, endCluster_ends⟩

/-- The marks of a checkpoint: its events, the frontier and the sequence limit, the interrupt and the count. -/
def checkpointShown (sides : List Nat) (fr lim : Nat) (t : State) : State :=
  (sides.foldl (fun u d => emit 0x4109 (srcChan d) d fr lim u) t)
    |> fset ENC.page ENC.CKPT_FRONTIER fr |> fset64 ENC.page ENC.WSEQ_LIM_LO ENC.WSEQ_LIM_HI lim
    |> raise ENC.page ENC.iCKPT |> cnt ENC.page ENC.CKPT_CNT ENC.kCNT_SAT

section
variable {sides : List Nat} {fr lim : Nat} {t : State}

theorem hasInt_checkpointShown : hasInt ENC.page ENC.iCKPT (checkpointShown sides fr lim t) := (hasInt_raise (by decide)).cnt (by decide) (by decide)

theorem fget_frontier_checkpointShown : fget ENC.page ENC.CKPT_FRONTIER (checkpointShown sides fr lim t) = fr % 2 ^ ENC.CKPT_FRONTIER.width := by
  unfold checkpointShown
  rw [fget_cnt_place (by decide) (by decide) (by decide) (by decide), fget_raise_place (by decide) (by decide),
    fget_fset64_place (by decide) (by decide) (by decide) (by decide) (by decide)]
  exact fget_fset_same ..

theorem checkpointShown_disc : (checkpointShown sides fr lim t).disc = t.disc := by
  have hevents : Kept State.disc t (sides.foldl (fun u d => emit 0x4109 (srcChan d) d fr lim u) t) :=
    foldl_kept (fun _ _ hk => emit_kept (fun _ => rfl) hk) (.refl t)
  exact (cnt_kept (fun _ => rfl) (raise_kept (fun _ => rfl) (fset64_kept (fun _ => rfl) (fset_kept (fun _ => rfl) hevents)))).view

end

theorem checkpoint_advances (s : State) (cluster : Nat) (u : State) (hneed : needsCheckpoint (some (32 * cluster)) s = true) (hsides : ckptSides s ≠ [])
    (hsome : checkpoint (ckptSides s) cluster s = some u) :
    Completes (.frontierCheckpoint cluster) s fun t => t = u ∧ hasInt ENC.page ENC.iCKPT t ∧
      fget ENC.page ENC.CKPT_FRONTIER t = roundUp (max (fget ENC.page ENC.FRONTIER s) (cluster + 1)) (ckptStep s) % 2 ^ ENC.CKPT_FRONTIER.width ∧
      t.disc.intents.length = s.disc.intents.length + (ckptSides s).length := by
  have hrun : exec (.frontierCheckpoint cluster) s = .next u := by
    change execFrontierCheckpoint cluster s = _
    simp [execFrontierCheckpoint, hneed, hsides, hsome]
  obtain ⟨t, hentries, hshown⟩ := Option.map_eq_some_iff.1 hsome
  have hu : u = checkpointShown (ckptSides s) (roundUp (max (fget ENC.page ENC.FRONTIER s) (cluster + 1)) (ckptStep s))
      (wseq s + (ckptSides s).length + 2 * ckptStep s) t := hshown.symm
  refine ⟨u, hrun, rfl, ?_, ?_, ?_⟩
  · rw [hu]
    exact hasInt_checkpointShown
  · rw [hu, fget_frontier_checkpointShown]
  · rw [hu, checkpointShown_disc]
    exact (recordOn_journalled hentries).intents

/-! ### VERIFY_PASS (R301, R356) -/

/-- The interrupt and the count of a failed verification. -/
def verifyShown (s : State) : State := s |> raise ENC.page ENC.iVFY_FAIL |> cnt ENC.page ENC.VFY_FAIL_CNT ENC.kCNT_SAT

/-- The end of a cluster whose verification failed, with its event. -/
def verifyEnded (psa n : Nat) (e : ClusterEnd) (t : State) : State := emit 0x410D (srcChan (psaSide psa)) (psaSide psa) psa n (endCluster psa e t)

section
variable {s t : State} {psa n : Nat} {e : ClusterEnd}

theorem hasInt_verifyShown : hasInt ENC.page ENC.iVFY_FAIL (verifyShown s) := (hasInt_raise (by decide)).cnt (by decide) (by decide)

theorem verifyShown_disc : (verifyShown s).disc = s.disc := (cnt_kept (m := State.disc) (fun _ => rfl) (raise_kept (fun _ => rfl) (.refl s))).view

theorem fget_verifyShown {q : Nat} {g : Fld} (hq : q ≠ ENC.page) (hg : g.inPage) : fget q g (verifyShown s) = fget q g s :=
  (otherPages.refl.raise (p := ENC.page) (ps := [ENC.page]) (by decide)).cnt (by decide) (by decide) q (by simpa using hq) g hg

theorem sealState_verifyShown (side : Nat) : sealState side (verifyShown s) = sealState side s := by
  unfold sealState verifyShown
  split
  · rw [fget_cnt_place (by decide) (by decide) (by decide) (by decide), fget_raise_place (by decide) (by decide)]
  · rw [fget_cnt_place (by decide) (by decide) (by decide) (by decide), fget_raise_place (by decide) (by decide)]

theorem relocReason_verifyShown (home : Nat) : relocReason home (verifyShown s) = relocReason home s := by
  unfold relocReason sealedFor
  dsimp only
  rw [sealState_verifyShown, verifyShown_disc]
  have hspare : nextSpare home (verifyShown s) = nextSpare home s :=
    (cnt_kept (m := nextSpare home) (fun _ => rfl) (raise_kept (fun _ => rfl) (.refl s))).view
  have hleft : dczLeft (psaSide home) (verifyShown s) = dczLeft (psaSide home) s :=
    (cnt_kept (m := dczLeft (psaSide home)) (fun _ => rfl) (raise_kept (fun _ => rfl) (.refl s))).view
  rw [hspare, hleft]

theorem verifyEnded_hasInt (h : hasInt ENC.page ENC.iVFY_FAIL t) : hasInt ENC.page ENC.iVFY_FAIL (verifyEnded psa n e t) :=
  (hasInt_congr (otherPages_endCluster _ (by decide) _ (by decide))).2 h

theorem verifyEnded_disc : (verifyEnded psa n e t).disc = t.disc := (endCluster_kept (m := State.disc) (fun _ => rfl) (.refl t)).view

theorem verifyEnded_ends : (verifyEnded psa n e t).ends.find (homeOf (psaCluster psa) t) = some e := endCluster_ends

theorem verifyEnded_evq : (verifyEnded psa n e t).evq.getLast? = some ⟨0x410D, srcChan (psaSide psa), psaSide psa, psa % 2 ^ 32, n % 2 ^ 32, false⟩ := by
  unfold verifyEnded
  rw [emit_evq, List.getLast?_concat, psaSide_mod_word]

/-! The relocation that a failed verification asks for (R311, R356). -/

variable {sectors : List (List Nat)} {verify : Bool}

/-- What a relocation queued or refused shows is on the decoder's page. -/
theorem otherPages_queueReloc : otherPages [DEC.page] s (queueReloc psa sectors verify s).1 := by
  unfold queueReloc
  extract_lets home reason
  clear_value reason
  split
  · refine otherPages.emit ?_
    refine otherPages.raise ?_ (by decide)
    refine otherPages.cnt ?_ (by decide) (by decide)
    exact otherPages.refl.congr rfl rfl
  · refine otherPages.emit ?_
    exact otherPages.refl.cnt (by decide) (by decide)

theorem queueReloc_off (hoff : fon DEC.page DEC.SQ_CFG_RELOC_EN s = false) :
    (queueReloc psa sectors verify s).2 = false ∧ (queueReloc psa sectors verify s).1.disc = s.disc := by
  unfold queueReloc
  simp only [hoff, Bool.not_false, if_true, Nat.one_ne_zero, if_false, true_and]
  exact (cnt_kept (m := State.disc) (fun _ => rfl) (.refl s)).view

theorem queueReloc_queued (hon : fon DEC.page DEC.SQ_CFG_RELOC_EN s = true) (hreason : relocReason (homeOf psa s) s = 0) :
    (queueReloc psa sectors verify s).2 = true ∧ (queueReloc psa sectors verify s).1.disc =
      { s.disc with relocs := s.disc.relocs ++ [{ home := homeOf psa s, src := psa, sectors := sectors, verify := verify }] } := by
  unfold queueReloc
  simp only [hon, hreason, Bool.not_true, Bool.false_eq_true, if_true, if_false, true_and]
  exact (raise_kept (m := State.disc) (fun _ => rfl) (cnt_kept (fun _ => rfl) (.refl _))).view

theorem verifyFailed_unreadable : verifyFailed psa false s = verifyEnded psa 2 (faultEnd 0x410D 2) (verifyShown s) := rfl

/-- A cluster that was read is relocated where it can be. -/
theorem verifyFailed_readable : verifyFailed psa true s =
    if (queueReloc psa (readPayloads psa (verifyShown s)) true (verifyShown s)).2 = true
    then verifyEnded psa 1 { kind := .written, verified := true } (queueReloc psa (readPayloads psa (verifyShown s)) true (verifyShown s)).1
    else verifyEnded psa 3 (faultEnd 0x410D 3) (queueReloc psa (readPayloads psa (verifyShown s)) true (verifyShown s)).1 := by
  unfold verifyFailed
  dsimp only
  rw [if_pos rfl]
  split
  next t hq =>
    have hq' : queueReloc psa (readPayloads psa (verifyShown s)) true (verifyShown s) = (t, true) := hq
    rw [hq', if_pos rfl]
    rfl
  next t hq =>
    have hq' : queueReloc psa (readPayloads psa (verifyShown s)) true (verifyShown s) = (t, false) := hq
    rw [hq', if_neg Bool.false_ne_true]
    rfl

end

theorem verifyPass_good (s : State) (v : VerifyIn) (houtcome : v.outcome = 0) (hcw : v.cwFail ≤ fget DEC.page DEC.VFY_CFG_VFY_CW_FAIL s)
    (hrs : v.rs ≤ fget DEC.page DEC.VFY_CFG_VFY_RS s) : Completes (.verifyPass v) s fun t =>
      t.ends.find (homeOf (psaCluster v.psa) s) = some { kind := .written, verified := true } ∧ t.disc = s.disc := by
  have hrun : exec (.verifyPass v) s = .next (endCluster (psaCluster v.psa) { kind := .written, verified := true } s) := by
    change execVerifyPass v s = _
    simp [execVerifyPass, houtcome, hcw, hrs]
  refine ⟨_, hrun, ?_, (endCluster_kept (m := State.disc) (fun _ => rfl) (.refl s)).view⟩
  have hends := endCluster_ends (n := psaCluster v.psa) (e := { kind := .written, verified := true }) (s := s)
  rwa [psaCluster_psaCluster] at hends

theorem verifyPass_notRecovered (s : State) (v : VerifyIn) (houtcome : v.outcome = 1) (hlost : v.recovered = false) :
    Completes (.verifyPass v) s fun t => hasInt ENC.page ENC.iVFY_FAIL t ∧
      t.ends.find (homeOf (psaCluster v.psa) s) = some (faultEnd 0x410D 2) ∧ t.disc = s.disc ∧
      t.evq.getLast? = some ⟨0x410D, srcChan (psaSide (psaCluster v.psa)), psaSide (psaCluster v.psa), psaCluster v.psa % 2 ^ 32, 2, false⟩ := by
  have hrun : exec (.verifyPass v) s = .next (verifyEnded (psaCluster v.psa) 2 (faultEnd 0x410D 2) (verifyShown s)) := by
    change execVerifyPass v s = _
    simp [execVerifyPass, houtcome, hlost, verifyFailed_unreadable]
  have hends := verifyEnded_ends (psa := psaCluster v.psa) (n := 2) (e := faultEnd 0x410D 2) (t := verifyShown s)
  rw [psaCluster_psaCluster, homeOf_congr (congrArg DiscSt.defects verifyShown_disc) (congrArg DiscSt.pending verifyShown_disc)] at hends
  exact ⟨_, hrun, verifyEnded_hasInt hasInt_verifyShown, hends, verifyEnded_disc.trans verifyShown_disc, verifyEnded_evq⟩

/-- What a failed verification of a cluster that was read leaves behind, whether its relocation was queued or refused. -/
theorem verifyEnded_queueReloc {s : State} {p n : Nat} {e : ClusterEnd} {sectors : List (List Nat)}
    (hdefects : (queueReloc (psaCluster p) sectors true (verifyShown s)).1.disc.defects = s.disc.defects)
    (hpending : (queueReloc (psaCluster p) sectors true (verifyShown s)).1.disc.pending = s.disc.pending) :
    hasInt ENC.page ENC.iVFY_FAIL (verifyEnded (psaCluster p) n e (queueReloc (psaCluster p) sectors true (verifyShown s)).1) ∧
      (verifyEnded (psaCluster p) n e (queueReloc (psaCluster p) sectors true (verifyShown s)).1).ends.find (homeOf (psaCluster p) s) = some e := by
  have hends := verifyEnded_ends (psa := psaCluster p) (n := n) (e := e) (t := (queueReloc (psaCluster p) sectors true (verifyShown s)).1)
  rw [psaCluster_psaCluster, homeOf_congr hdefects hpending] at hends
  exact ⟨verifyEnded_hasInt ((hasInt_congr (otherPages_queueReloc _ (by decide) _ (by decide))).2 hasInt_verifyShown), hends⟩

theorem verifyPass_refused (s : State) (v : VerifyIn) (houtcome : v.outcome = 0) (hcw : fget DEC.page DEC.VFY_CFG_VFY_CW_FAIL s < v.cwFail)
    (hoff : fon DEC.page DEC.SQ_CFG_RELOC_EN s = false) :
    Completes (.verifyPass v) s fun t => hasInt ENC.page ENC.iVFY_FAIL t ∧ t.disc.relocs = s.disc.relocs ∧
      t.ends.find (homeOf (psaCluster v.psa) s) = some (faultEnd 0x410D 3) ∧
      t.evq.getLast? = some ⟨0x410D, srcChan (psaSide (psaCluster v.psa)), psaSide (psaCluster v.psa), psaCluster v.psa % 2 ^ 32, 3, false⟩ := by
  have hoff' : fon DEC.page DEC.SQ_CFG_RELOC_EN (verifyShown s) = false := (fon_congr (fget_verifyShown (by decide) (by decide))).trans hoff
  obtain ⟨hrefused, hdisc⟩ := queueReloc_off (psa := psaCluster v.psa) (sectors := readPayloads (psaCluster v.psa) (verifyShown s)) (verify := true) hoff'
  rw [verifyShown_disc] at hdisc
  have hrun : exec (.verifyPass v) s = .next (verifyEnded (psaCluster v.psa) 3 (faultEnd 0x410D 3)
      (queueReloc (psaCluster v.psa) (readPayloads (psaCluster v.psa) (verifyShown s)) true (verifyShown s)).1) := by
    change execVerifyPass v s = _
    simp [execVerifyPass, houtcome, Nat.not_le.2 hcw, verifyFailed_readable, hrefused]
  obtain ⟨hint, hends⟩ := verifyEnded_queueReloc (s := s) (p := v.psa) (n := 3) (e := faultEnd 0x410D 3)
    (sectors := readPayloads (psaCluster v.psa) (verifyShown s)) (by rw [hdisc]) (by rw [hdisc])
  exact ⟨_, hrun, hint, by rw [verifyEnded_disc, hdisc], hends, verifyEnded_evq⟩

theorem verifyPass_relocated (s : State) (v : VerifyIn) (houtcome : v.outcome = 0) (hrs : fget DEC.page DEC.VFY_CFG_VFY_RS s < v.rs)
    (hon : fon DEC.page DEC.SQ_CFG_RELOC_EN s = true) (hreason : relocReason (homeOf (psaCluster v.psa) s) s = 0) :
    Completes (.verifyPass v) s fun t => hasInt ENC.page ENC.iVFY_FAIL t ∧
      t.disc.relocs.length = s.disc.relocs.length + 1 ∧ t.ends.find (homeOf (psaCluster v.psa) s) = some { kind := .written, verified := true } ∧
      t.evq.getLast? = some ⟨0x410D, srcChan (psaSide (psaCluster v.psa)), psaSide (psaCluster v.psa), psaCluster v.psa % 2 ^ 32, 1, false⟩ := by
  have hon' : fon DEC.page DEC.SQ_CFG_RELOC_EN (verifyShown s) = true := (fon_congr (fget_verifyShown (by decide) (by decide))).trans hon
  have hreason' : relocReason (homeOf (psaCluster v.psa) (verifyShown s)) (verifyShown s) = 0 := by
    rw [relocReason_verifyShown, homeOf_congr (congrArg DiscSt.defects verifyShown_disc) (congrArg DiscSt.pending verifyShown_disc), hreason]
  obtain ⟨hqueued, hdisc⟩ := queueReloc_queued (sectors := readPayloads (psaCluster v.psa) (verifyShown s)) (verify := true) hon' hreason'
  rw [verifyShown_disc] at hdisc
  have hrun : exec (.verifyPass v) s = .next (verifyEnded (psaCluster v.psa) 1 { kind := .written, verified := true }
      (queueReloc (psaCluster v.psa) (readPayloads (psaCluster v.psa) (verifyShown s)) true (verifyShown s)).1) := by
    change execVerifyPass v s = _
    simp [execVerifyPass, houtcome, Nat.not_le.2 hrs, verifyFailed_readable, hqueued]
  obtain ⟨hint, hends⟩ := verifyEnded_queueReloc (s := s) (p := v.psa) (n := 1) (e := { kind := .written, verified := true })
    (sectors := readPayloads (psaCluster v.psa) (verifyShown s)) (by rw [hdisc]) (by rw [hdisc])
  exact ⟨_, hrun, hint, by rw [verifyEnded_disc, hdisc, List.length_append]; rfl, hends, verifyEnded_evq⟩

/-- Settles O30: clause by clause, each from what its exec function runs. -/
theorem journalAndEncoder : Obligations.JournalAndEncoder := fun s =>
  ⟨clusterEncode_off s, clusterEncode_keyMissing s, clusterEncode_encodes s, relocation_noneQueued s, relocation_keyMissing s, relocation_done s,
    relocation_noSpare s, abandoned_noneUser s, abandoned_sealed s, abandoned_done s, dczBlock_noneCutOff s, dczBlock_recordedAgain s,
    checkpoint_notDue s, checkpoint_noSlot s, checkpoint_advances s, verifyPass_good s, verifyPass_notRecovered s, verifyPass_refused s,
    verifyPass_relocated s⟩

end Sys2Proof.Machine
end

section
/-!
PROOFS. What the commands that begin once a disc is mounted leave of the mount (R347, R350, R352, R434), and what the way to the unloaded safe
state leaves (R473).
-/
namespace Sys2Proof.Machine

variable {s t u : State} {p b n k v code lba first num : Nat} {f : Fld} {c : Cmd}

/-! ### Commands that begin -/

/-- Of the registers only those of the encoder and the streams are written, events only follow, and the disc and the device stay what they are. -/
structure Began (s t : State) : Prop where
  pages : otherPages [ENC.page, STM.page] s t
  evq : s.evq <+: t.evq
  variant : t.disc.variant = s.disc.variant
  dev : t.dev = s.dev

theorem Began.refl : Began s s := ⟨.refl, List.prefix_refl _, rfl, rfl⟩

theorem Began.trans (h : Began s t) (k : Began t u) : Began s u :=
  ⟨h.pages.trans k.pages, h.evq.trans k.evq, k.variant.trans h.variant, k.dev.trans h.dev⟩

theorem Began.fset (h : Began s t) (hp : p ∈ [ENC.page, STM.page]) (hf : f.inPage) : Began s (Machine.fset p f v t) :=
  ⟨h.pages.fset hp hf, h.evq, h.variant, h.dev⟩

theorem Began.raise (h : Began s t) (hp : p ∈ [ENC.page, STM.page]) : Began s (Machine.raise p b t) :=
  ⟨h.pages.raise hp, by rw [raise_evq]; exact h.evq, ((raise_kept (m := fun x => x.disc.variant) (fun _ => rfl) (.refl t)).view).trans h.variant,
    ((raise_kept (m := State.dev) (fun _ => rfl) (.refl t)).view).trans h.dev⟩

theorem Began.cnt (h : Began s t) (hp : p ∈ [ENC.page, STM.page]) (hf : f.inPage) : Began s (Machine.cnt p f b t) :=
  ⟨h.pages.cnt hp hf, by rw [cnt_evq]; exact h.evq, ((cnt_kept (m := fun x => x.disc.variant) (fun _ => rfl) (.refl t)).view).trans h.variant,
    ((cnt_kept (m := State.dev) (fun _ => rfl) (.refl t)).view).trans h.dev⟩

theorem Began.emit {src a d x : Nat} (h : Began s t) : Began s (Machine.emit code src a d x t) :=
  ⟨h.pages.emit, h.evq.trans (List.prefix_append _ _), h.variant, h.dev⟩

theorem Began.setCl {x : CmdSt} (h : Began s t) : Began s (Machine.setCl x t) := ⟨h.pages.setCl, h.evq, h.variant, h.dev⟩

theorem Began.setDisc {d : DiscSt} (h : Began s t) (hd : d.variant = t.disc.variant) : Began s (Machine.setDisc d t) :=
  ⟨h.pages.congr rfl rfl, h.evq, hd.trans h.variant, h.dev⟩

theorem Began.modCmd {m : Cmd → Cmd} (h : Began s t) : Began s (Machine.modCmd n m t) := by
  unfold Machine.modCmd
  split
  · exact h.setCl
  · exact h

theorem Began.endNow (h : Began s t) : Began s (Machine.endNow n code t) := h.modCmd

theorem Began.placeAt (h : Began s t) : Began s (Machine.placeAt n first num t) := h.modCmd

theorem Began.violation (h : Began s t) : Began s (Machine.violation n lba t) :=
  (((h.raise (by decide)).cnt (by decide) (by decide)).emit).endNow

theorem Began.showStreams (h : Began s t) : Began s (Machine.showStreams t) := (h.fset (by decide) (by decide)).fset (by decide) (by decide)

theorem Began.needContext (h : Began s t) : Began s (Machine.needContext n k num t) := by
  unfold Machine.needContext
  split
  · exact h
  split
  · exact h.setCl
  split
  · exact h.setCl.showStreams
  · exact ite_kept (P := fun x => Began s x) ((h.setCl.cnt (by decide) (by decide)).raise (by decide)) h.setCl

theorem Began.acceptSeal (h : Began s t) : Began s (Machine.acceptSeal n c t) := by
  unfold Machine.acceptSeal
  dsimp only
  split
  · exact h.endNow
  split
  · exact h.endNow
  · refine foldl_kept (P := fun x => Began s x) (fun x d hx => ?_) h.modCmd
    refine ite_kept (P := fun y => Began s y) hx.modCmd (ite_kept (P := fun y => Began s y) hx.modCmd (Began.modCmd (hx.setDisc ?_)))
    rfl

theorem Began.openStream (h : Began s t) : Began s (Machine.openStream n c t) := by
  unfold Machine.openStream
  dsimp only
  split
  · exact h.violation
  · exact (((h.fset (by decide) (by decide)).setCl).modCmd).showStreams.needContext

theorem Began.placeStream {x : Strm} (h : Began s t) : Began s (Machine.placeStream n c x t) := by
  unfold Machine.placeStream
  extract_lets y z
  have hy : Began s y := h.needContext
  clear_value y z
  split
  · exact ite_kept (P := fun x => Began s x) hy.modCmd hy.violation
  · exact ite_kept (P := fun x => Began s x) (hy.setCl.placeAt).modCmd hy.violation

theorem Began.placeLegacy (h : Began s t) : Began s (Machine.placeLegacy n c t) := by
  unfold Machine.placeLegacy
  dsimp only
  split
  · exact h.violation
  split
  · refine Began.placeAt (h.setDisc ?_)
    rfl
  split
  · exact h.placeAt
  · refine ite_kept (P := fun x => Began s x) (Began.placeAt (h.setDisc ?_)) h.violation
    rfl

theorem Began.placeWrite (h : Began s t) : Began s (Machine.placeWrite n c t) := by
  unfold Machine.placeWrite
  split
  · exact h.placeLegacy
  extract_lets strm first sides
  clear_value sides first strm
  split
  · exact h.endNow
  split
  · exact h.violation
  split
  · exact h.placeStream
  split
  · exact h.violation
  · exact ite_kept (P := fun x => Began s x) h.violation (h.fset (by decide) (by decide)).placeAt

/-- A command that begins writes the pages of the encoder and the streams alone. -/
theorem Began.withDisc (h : Began s t) : Began s (Machine.withDisc n t) := by
  unfold Machine.withDisc
  split
  · exact h
  split
  · exact h.acceptSeal
  split
  · exact h.modCmd.endNow
  split
  · exact h.openStream
  split
  · exact h.placeWrite
  · exact ite_kept (P := fun x => Began s x) h.placeAt.needContext h.placeAt

/-- A command that waited for the mount goes on: a MOUNT completes, and one that needs the disc begins. -/
def goesOn (t : State) (x : Nat) : State :=
  match t.cl.cmds.find x with
  | some c => if c.op = 10 then endNow x 0x00 t else if c.waitDisc then withDisc x t else t
  | none => t

theorem began_goesOn (x : Nat) : Began s (goesOn s x) := by
  unfold goesOn
  split
  · exact ite_kept (P := fun x => Began s x) Began.refl.endNow (ite_kept (P := fun x => Began s x) Began.refl.withDisc .refl)
  · exact .refl

theorem began_goOn (xs : List Nat) : Began s (xs.foldl goesOn s) := by
  induction xs generalizing s with
  | nil => exact .refl
  | cons x xs ih => exact (began_goesOn x).trans ih

theorem goesOn_mount (hc : s.cl.cmds.find n = some c) (hop : c.op = 10) : goesOn s n = endNow n 0x00 s := by
  unfold goesOn
  simp only [hc, hop, if_true]

/-- A VERIFY within the disc is placed where it asks. -/
theorem goesOn_verify (hc : s.cl.cmds.find n = some c) (hop : c.op = 3) (hwaits : c.waitDisc = true) (hend : c.lba + c.count - 1 ≤ fget FMT.page FMT.LAST_LBA s) :
    goesOn s n = placeAt n c.lba c.count s := by
  have hin : pastEnd c s = false := by simp [pastEnd, hop, Nat.not_lt.2 hend]
  have hinfl : c.inflates = false := by simp [Cmd.inflates, hop]
  unfold goesOn withDisc
  simp [hc, hop, hwaits, hin, hinfl]

theorem find_endNow_same (hc : s.cl.cmds.find n = some c) :
    (endNow n code s).cl.cmds.find n = some { c with ended := true, outcomes := c.outcomes ++ [code] } := by
  unfold endNow
  rw [find_modCmd_same, hc]
  rfl

/-! ### The way to the safe state -/

/-- The pages that the loops, the sleds and the spindle show. -/
def safePages : List Nat := [SPN.page, SPS.page, MC.page, SLD.page 0, SLD.page 1, LOOP.page 0, LOOP.page 1, LOOP.page 2, LOOP.page 4, LOOP.page 5, LOOP.page 6]

theorem otherPages.parkLoop {h : Nat} (hs : otherPages safePages s t) (hh : h < 2) (hk : k < 3) : otherPages safePages s (Machine.parkLoop h k t) := by
  have hloop : ∀ h < 2, ∀ k < 3, LOOP.page (4 * h + k) ∈ safePages := by decide
  have hxff : ∀ h < 2, ∀ k < 3, (4 * h + k) % 4 = 0 → LOOP.page (4 - (4 * h + k)) ∈ safePages := by decide
  have hfld : Fld.inPage (if h = 0 then MC.MC_STATUS_STATE_L else MC.MC_STATUS_STATE_U) := by split <;> decide
  have hstate : otherPages safePages s (loopState (4 * h + k) 6 t) := by
    unfold loopState
    dsimp only
    split
    next h0 => exact (hs.fset (hloop h hh k hk) (by decide)).fsetB (hxff h hh k hk h0) (by decide)
    next => exact hs.fset (hloop h hh k hk) (by decide)
  have hsettled : otherPages safePages s (Machine.fset (LOOP.page (4 * h + k)) LOOP.LOOP_STATUS_SETTLED 0 (loopState (4 * h + k) 6 t)) :=
    hstate.fset (hloop h hh k hk) (by decide)
  have hshown : otherPages safePages s (showLoop (4 * h + k) (Machine.fset (LOOP.page (4 * h + k)) LOOP.LOOP_STATUS_SETTLED 0 (loopState (4 * h + k) 6 t))) :=
    hsettled.congr rfl rfl
  unfold Machine.parkLoop
  dsimp only
  split
  · exact otherPages.fset (t := retract h _) (hshown.congr rfl rfl) (by decide) hfld
  · exact hshown.congr rfl rfl

theorem otherPages.parkHead {h : Nat} (hs : otherPages safePages s t) (hh : h < 2) : otherPages safePages s (Machine.parkHead h t) := by
  have hsled : ∀ h < 2, SLD.page h ∈ safePages := by decide
  have hparked : otherPages safePages s (Machine.fset (SLD.page h) SLD.CTRL_FOLLOW 0 (Machine.parkLoop h 0 (Machine.parkLoop h 2 (Machine.parkLoop h 1 t)))) :=
    (((hs.parkLoop hh (by decide)).parkLoop hh (by decide)).parkLoop hh (by decide)).fset (hsled h hh) (by decide)
  have hheld : otherPages safePages s (Machine.sledSt h 1 (Machine.fset (SLD.page h) SLD.CTRL_FOLLOW 0 (Machine.parkLoop h 0 (Machine.parkLoop h 2 (Machine.parkLoop h 1 t))))) :=
    hparked.fset (hsled h hh) (by decide)
  exact ite_app_kept (P := fun x => otherPages safePages s x) hheld hparked

theorem otherPages.unlockSpin (hs : otherPages safePages s t) : otherPages safePages s (Machine.unlockSpin t) :=
  (((hs.fset (by decide) (by decide)).fset (by decide) (by decide)).fset (by decide) (by decide)).fset (by decide) (by decide)

theorem otherPages.gatesOff (hs : otherPages safePages s t) : otherPages safePages s (Machine.gatesOff t) :=
  (otherPages.fset (hs.congr rfl rfl) (by decide) (by decide)).fset (by decide) (by decide)

theorem otherPages.stopSpin (hs : otherPages safePages s t) : otherPages safePages s (Machine.stopSpin t) := by
  unfold Machine.stopSpin
  dsimp only
  split
  · exact hs
  · have hslow : otherPages safePages s (Machine.fset SPN.page SPN.STATUS_SPEED_OK 0 (angleValid false t)) :=
      ((hs.fsetB (by decide) (by decide)).fsetB (by decide) (by decide)).fset (by decide) (by decide)
    have hbegun : ∀ x, otherPages safePages s (setSpin x (Machine.fset SPN.page SPN.STATUS_SPEED_OK 0 (angleValid false t))) := fun _ => hslow.congr rfl rfl
    split
    · exact (hbegun _).fset (by decide) (by decide)
    · exact (hbegun _).gatesOff.unlockSpin.fset (by decide) (by decide)

theorem otherPages_towardsSafe : otherPages safePages s (towardsSafe s) :=
  ((otherPages.refl.parkHead (by decide)).parkHead (by decide)).stopSpin

end Sys2Proof.Machine
end

section
/-!
PROOFS. The end of a mount, and a mount that fails (R569, R570, R575): what each shows, and what becomes of the commands that waited.
-/
namespace Sys2Proof.Machine

variable {s t u : State} {n v flags cause step : Nat} {g : Fld} {c : Cmd}

/-! ### The end of a mount -/

theorem otherPages_mediaEvent : otherPages [SATA.page] s (mediaEvent n s) := by
  unfold mediaEvent
  dsimp only
  split
  · exact otherPages.raise (otherPages.refl.congr rfl rfl) (by decide)
  · exact otherPages.refl.congr rfl rfl

/-- The marks of a mount that ends: the state, its time and count, the interrupt, event 0x0010 and the media event. -/
def mountShown (v flags : Nat) (s : State) : State :=
  s |> fset FMT.page FMT.STATUS_STATE 2 |> fset FMT.page FMT.MOUNT_MS (min 65535 ((s.time - s.dev.mountAt.getD s.time) / 25000))
    |> cnt FMT.page FMT.MOUNT_CNT FMT.kCNT_SAT |> setDev { s.dev with mountAt := none } |> raise FMT.page FMT.iMOUNTED
    |> emit 0x0010 srcAon 0 v flags |> mediaEvent 2

theorem otherPages_mountShown : otherPages [FMT.page, SATA.page] s (mountShown v flags s) := by
  have hshown : otherPages [FMT.page, SATA.page] s (fset FMT.page FMT.MOUNT_MS (min 65535 ((s.time - s.dev.mountAt.getD s.time) / 25000))
      (fset FMT.page FMT.STATUS_STATE 2 s)) := (otherPages.refl.fset (by decide) (by decide)).fset (by decide) (by decide)
  have hraised : otherPages [FMT.page, SATA.page] s (raise FMT.page FMT.iMOUNTED (setDev { s.dev with mountAt := none } (cnt FMT.page FMT.MOUNT_CNT FMT.kCNT_SAT
      (fset FMT.page FMT.MOUNT_MS (min 65535 ((s.time - s.dev.mountAt.getD s.time) / 25000)) (fset FMT.page FMT.STATUS_STATE 2 s))))) :=
    otherPages.raise ((hshown.cnt (by decide) (by decide)).congr rfl rfl) (by decide)
  exact hraised.emit.trans (otherPages_mediaEvent.mono (by simp))

theorem mountShown_kept {α : Type} {m : State → α} (hm : ∀ u, m u = m { u with regs := [], evq := [], out := [], msixPend := 0, port := {}, dev := {} }) :
    Kept m s (mountShown v flags s) :=
  mediaEvent_kept (sub hm) (emit_kept (sub hm) (raise_kept (sub hm) (setDev_kept (sub hm) (cnt_kept (sub hm) (fset_kept (sub hm) (fset_kept (sub hm) (.refl s)))))))

/-- In an active mode, a mount that ends is shown and the commands that waited go on. -/
theorem mounted_active (htrans : s.pwr.trans = none) (hmode : modeNow s ≠ 3) : mounted v flags s = s.cl.order.foldl goesOn (mountShown v flags s) := by
  have hpwr : (mountShown v flags s).pwr.trans = none := by
    rw [(mountShown_kept (m := State.pwr) fun _ => rfl).view, htrans]
  have hmode' : modeNow (mountShown v flags s) ≠ 3 := by
    unfold modeNow at *
    rwa [otherPages_mountShown _ (by decide) _ (by decide)]
  have horder : (mountShown v flags s).cl.order = s.cl.order := congrArg CmdSt.order (mountShown_kept (m := State.cl) fun _ => rfl).view
  have hstays : (if (mountShown v flags s).pwr.trans.isSome || modeNow (mountShown v flags s) = 3 then modeReached (min 2 (activeMode s)) (mountShown v flags s)
      else mountShown v flags s) = mountShown v flags s := if_neg (by simp [hpwr, hmode'])
  calc mounted v flags s = (if (mountShown v flags s).pwr.trans.isSome || modeNow (mountShown v flags s) = 3 then modeReached (min 2 (activeMode s)) (mountShown v flags s)
        else mountShown v flags s).cl.order.foldl goesOn (if (mountShown v flags s).pwr.trans.isSome || modeNow (mountShown v flags s) = 3
          then modeReached (min 2 (activeMode s)) (mountShown v flags s) else mountShown v flags s) := rfl
    _ = _ := by rw [hstays, horder]

/-- The places of the FMT page that the end of a mount writes. -/
def mountPlaces : List Nat := [FMT.STATUS_STATE, FMT.MOUNT_MS, FMT.MOUNT_CNT, hdrSticky, hdrIntStatus].map Fld.place

theorem fget_mountShown_place (hg : g.inPage) (hne : g.place ∉ mountPlaces) : fget FMT.page g (mountShown v flags s) = fget FMT.page g s := by
  simp only [mountPlaces, List.map_cons, List.map_nil, List.mem_cons, List.not_mem_nil, or_false, not_or] at hne
  obtain ⟨hstate, hms, hcnt, hsticky, hint⟩ := hne
  unfold mountShown
  rw [otherPages_mediaEvent _ (by decide) _ hg, fget_emit, fget_raise_place hg hint]
  exact (fget_cnt_place hg (by decide) hcnt hsticky).trans ((fget_fset_place hg (by decide) hms).trans (fget_fset_place hg (by decide) hstate))

theorem fget_state_mountShown : fget FMT.page FMT.STATUS_STATE (mountShown v flags s) = 2 := by
  unfold mountShown
  rw [otherPages_mediaEvent _ (by decide) _ (by decide), fget_emit, fget_raise_place (by decide) (by decide)]
  exact (fget_cnt_place (by decide) (by decide) (by decide) (by decide)).trans ((fget_fset_place (by decide) (by decide) (by decide)).trans (fget_fset_same ..))

theorem hasInt_mountShown : hasInt FMT.page FMT.iMOUNTED (mountShown v flags s) :=
  (hasInt_congr (otherPages_mediaEvent _ (by decide) _ (by decide))).2 ((hasInt_congr (fget_emit ..)).2 (hasInt_raise (by decide)))

theorem mountShown_evq : (mountShown v flags s).evq = s.evq ++ [⟨0x0010, srcAon, 0, v % 2 ^ 32, flags % 2 ^ 32, false⟩] := by
  unfold mountShown
  rw [(mediaEvent_kept (m := State.evq) (fun _ => rfl) (.refl _)).view, emit_evq, raise_evq]
  change (cnt _ _ _ _).evq ++ _ = _
  rw [cnt_evq]
  rfl

theorem mountShown_dev : (mountShown v flags s).dev = { s.dev with mountAt := none } := by
  unfold mountShown
  rw [(mediaEvent_kept (m := State.dev) (fun _ => rfl) (emit_kept (fun _ => rfl) (raise_kept (fun _ => rfl) (.refl _)))).view]
  rfl

/-- What the end of a mount leaves, whatever the commands that go on do. -/
structure MountEnds (v flags : Nat) (s t : State) : Prop where
  state : fget FMT.page FMT.STATUS_STATE t = 2
  int : hasInt FMT.page FMT.iMOUNTED t
  fmt : ∀ g : Fld, g.inPage → g.place ∉ mountPlaces → fget FMT.page g t = fget FMT.page g s
  evq : ∃ later, t.evq = s.evq ++ ⟨0x0010, srcAon, 0, v % 2 ^ 32, flags % 2 ^ 32, false⟩ :: later
  variant : t.disc.variant = s.disc.variant
  mountAt : t.dev.mountAt = none

theorem mountEnds_mounted (htrans : s.pwr.trans = none) (hmode : modeNow s ≠ 3) : MountEnds v flags s (mounted v flags s) := by
  rw [mounted_active htrans hmode]
  obtain ⟨hpages, hevq, hvariant, hdev⟩ := began_goOn (s := mountShown v flags s) s.cl.order
  have hfmt : ∀ g : Fld, g.inPage → fget FMT.page g (s.cl.order.foldl goesOn (mountShown v flags s)) = fget FMT.page g (mountShown v flags s) :=
    fun g hg => hpages _ (by decide) g hg
  exact {
    state := (hfmt _ (by decide)).trans fget_state_mountShown
    int := (hasInt_congr (hfmt _ (by decide))).2 hasInt_mountShown
    fmt := fun g hg hne => (hfmt g hg).trans (fget_mountShown_place hg hne)
    evq := exists_later (mountShown_evq ▸ hevq)
    variant := hvariant.trans (mountShown_kept (m := fun u => u.disc.variant) fun _ => rfl).view
    mountAt := by rw [hdev, mountShown_dev] }

/-- With no command outstanding, the pages but FMT and SATA are as the mount left them. -/
theorem fget_mounted_idle {q : Nat} (htrans : s.pwr.trans = none) (hmode : modeNow s ≠ 3) (hidle : s.cl.order = []) (hq : q ∉ [FMT.page, SATA.page]) (hg : g.inPage) :
    fget q g (mounted v flags s) = fget q g s := by
  rw [mounted_active htrans hmode, hidle]
  exact otherPages_mountShown q hq g hg

/-- A MOUNT that waited alone completes GOOD (R570). -/
theorem find_mounted_mount (htrans : s.pwr.trans = none) (hmode : modeNow s ≠ 3) (horder : s.cl.order = [n]) (hc : s.cl.cmds.find n = some c) (hop : c.op = 10) :
    (mounted v flags s).cl.cmds.find n = some { c with ended := true, outcomes := c.outcomes ++ [0] } := by
  have hcl : (mountShown v flags s).cl = s.cl := (mountShown_kept (m := State.cl) fun _ => rfl).view
  rw [mounted_active htrans hmode, horder]
  change (goesOn (mountShown v flags s) n).cl.cmds.find n = _
  rw [goesOn_mount (by rw [hcl, hc]) hop, find_endNow_same (by rw [hcl, hc])]

/-- A VERIFY that waited alone is placed, where its range lies within the disc. -/
theorem find_mounted_verify (htrans : s.pwr.trans = none) (hmode : modeNow s ≠ 3) (horder : s.cl.order = [n]) (hc : s.cl.cmds.find n = some c) (hop : c.op = 3)
    (hwaits : c.waitDisc = true) (hend : c.lba + c.count - 1 ≤ fget FMT.page FMT.LAST_LBA s) :
    (mounted v flags s).cl.cmds.find n = some { c with first := c.lba, sectors := c.count, placed := true, waitDisc := false } := by
  have hcl : (mountShown v flags s).cl = s.cl := (mountShown_kept (m := State.cl) fun _ => rfl).view
  rw [mounted_active htrans hmode, horder]
  change (goesOn (mountShown v flags s) n).cl.cmds.find n = _
  rw [goesOn_verify (by rw [hcl, hc]) hop hwaits (by rwa [fget_mountShown_place (by decide) (by decide)])]
  unfold placeAt
  rw [find_modCmd_same, hcl, hc]
  rfl

/-! ### A mount that fails (R569) -/

/-- The marks of a mount that fails, before the commands that waited end. -/
def failShown (cause step : Nat) (s : State) : State :=
  s |> fset FMT.page FMT.STATUS_STATE 3 |> fault FMT.page cause |> fset FMT.page FMT.MOUNT_FAIL_CAUSE cause |> fset FMT.page FMT.MOUNT_FAIL_STEP step
    |> raise FMT.page FMT.iMOUNT_FAIL |> emit 0x0014 srcAon 0 cause step
    |> (if fon LIB.page LIB.STATUS_DISC_PRES s then mediaEvent 4 else id) |> (fun t => setDev { t.dev with noAuto := true, mountAt := none } t)

theorem mountFail_eq : mountFail cause step s = towardsSafe (endWaiting 0x50 (failShown cause step s)) := rfl

theorem fget_failShown (hg : g.inPage) : fget FMT.page g (failShown cause step s) = fget FMT.page g (raise FMT.page FMT.iMOUNT_FAIL
    (fset FMT.page FMT.MOUNT_FAIL_STEP step (fset FMT.page FMT.MOUNT_FAIL_CAUSE cause (fault FMT.page cause (fset FMT.page FMT.STATUS_STATE 3 s))))) :=
  ite_app_kept (P := fun u => fget FMT.page g u = _) ((otherPages_mediaEvent _ (by decide) _ hg).trans (fget_emit ..)) (fget_emit ..)

theorem failShown_kept {α : Type} {m : State → α} (hm : ∀ u, m u = m { u with regs := [], evq := [], out := [], msixPend := 0, port := {}, dev := {} }) :
    Kept m s (failShown cause step s) := by
  have hemitted : Kept m s (emit 0x0014 srcAon 0 cause step (raise FMT.page FMT.iMOUNT_FAIL (fset FMT.page FMT.MOUNT_FAIL_STEP step
      (fset FMT.page FMT.MOUNT_FAIL_CAUSE cause (fault FMT.page cause (fset FMT.page FMT.STATUS_STATE 3 s)))))) :=
    emit_kept (sub hm) (raise_kept (sub hm) (fset_kept (sub hm) (fset_kept (sub hm) (fault_kept (sub hm) (fset_kept (sub hm) (.refl s))))))
  exact setDev_kept (sub hm) (ite_app_kept (P := fun u => Kept m s u) (mediaEvent_kept (sub hm) hemitted) hemitted)

theorem failShown_evq : (failShown cause step s).evq = s.evq ++ [⟨0x0014, srcAon, 0, cause % 2 ^ 32, step % 2 ^ 32, false⟩] := by
  have hemitted : ∀ u, u.evq = s.evq → (emit 0x0014 srcAon 0 cause step u).evq = s.evq ++ [⟨0x0014, srcAon, 0, cause % 2 ^ 32, step % 2 ^ 32, false⟩] := fun u hu => by
    rw [emit_evq, hu]
    rfl
  refine ite_app_kept (P := fun u : State => u.evq = _) ?_ (hemitted _ (raise_evq ..))
  rw [(mediaEvent_kept (m := State.evq) (fun _ => rfl) (.refl _)).view]
  exact hemitted _ (raise_evq ..)

/-- What a mount that fails leaves. -/
structure MountFails (cause step : Nat) (s t : State) : Prop where
  state : fget FMT.page FMT.STATUS_STATE t = 3
  code : fget FMT.page hdrFault t = cause
  shownCause : fget FMT.page FMT.MOUNT_FAIL_CAUSE t = cause
  shownStep : fget FMT.page FMT.MOUNT_FAIL_STEP t = step
  int : hasInt FMT.page FMT.iMOUNT_FAIL t
  evq : ∃ later, t.evq = s.evq ++ ⟨0x0014, srcAon, 0, cause, step, false⟩ :: later
  dev : t.dev = { s.dev with noAuto := true, mountAt := none }

theorem mountFails_mountFail (hcause : cause < 16) (hstep : step < 16) : MountFails cause step s (mountFail cause step s) := by
  have hfmt : ∀ g : Fld, g.inPage → fget FMT.page g (mountFail cause step s) = fget FMT.page g (failShown cause step s) := fun g hg =>
    (otherPages_towardsSafe _ (by decide) _ hg).trans (endWaiting_kept (m := fun u => fget FMT.page g u) (fun _ => rfl) (.refl _)).view
  have hdev : (failShown cause step s).dev = { s.dev with noAuto := true, mountAt := none } := by
    have hkept : ∀ u : State, u.dev = s.dev → { u.dev with noAuto := true, mountAt := none } = { s.dev with noAuto := true, mountAt := none } := fun u hu => by rw [hu]
    have hraised : ∀ u, u.dev = s.dev → (emit 0x0014 srcAon 0 cause step (raise FMT.page FMT.iMOUNT_FAIL u)).dev = s.dev := fun u hu =>
      ((emit_kept (m := State.dev) (fun _ => rfl) (raise_kept (fun _ => rfl) (.refl u))).view).trans hu
    refine hkept _ (ite_app_kept (P := fun u : State => u.dev = s.dev) ?_ (hraised _ rfl))
    exact ((mediaEvent_kept (m := State.dev) (fun _ => rfl) (.refl _)).view).trans (hraised _ rfl)
  have hrest : ∀ {α : Type} {m : State → α}, (∀ u, m u = m { u with regs := [], engs := [], loops := [], spin := {}, cl := {} }) →
      m (mountFail cause step s) = m (failShown cause step s) := fun hm => (towardsSafe_kept (sub hm) (endWaiting_kept (sub hm) (.refl _))).view
  refine ⟨?_, ?_, ?_, ?_, ?_, ⟨[], ?_⟩, (hrest (m := State.dev) fun _ => rfl).trans hdev⟩
  · rw [hfmt _ (by decide), fget_failShown (by decide), fget_raise_place (by decide) (by decide)]
    unfold fault
    rw [fget_fset_place (by decide) (by decide) (by decide), fget_fset_place (by decide) (by decide) (by decide), fget_fset_place (by decide) (by decide) (by decide),
      fget_fset_lt (by decide)]
  · rw [hfmt _ (by decide), fget_failShown (by decide), fget_raise_place (by decide) (by decide)]
    unfold fault
    rw [fget_fset_place (by decide) (by decide) (by decide), fget_fset_place (by decide) (by decide) (by decide), fget_fset_lt (Nat.lt_trans hcause (by decide))]
  · rw [hfmt _ (by decide), fget_failShown (by decide), fget_raise_place (by decide) (by decide), fget_fset_place (by decide) (by decide) (by decide), fget_fset_lt hcause]
  · rw [hfmt _ (by decide), fget_failShown (by decide), fget_raise_place (by decide) (by decide), fget_fset_lt hstep]
  · exact (hasInt_congr ((hfmt _ (by decide)).trans (fget_failShown (by decide)))).2 (hasInt_raise (by decide))
  · rw [hrest (m := State.evq) fun _ => rfl, failShown_evq, Nat.mod_eq_of_lt (Nat.lt_trans hcause (by decide)), Nat.mod_eq_of_lt (Nat.lt_trans hstep (by decide))]

/-- A command that waited alone for the mount, or for the disc, completes MEDIUM_ABSENT. -/
theorem find_mountFail (horder : s.cl.order = [n]) (hc : s.cl.cmds.find n = some c) (hwaits : c.op = 10 ∨ c.waitDisc = true) :
    (mountFail cause step s).cl.cmds.find n = some { c with waitDisc := false, placed := true, ended := true, outcomes := c.outcomes ++ [0x50] } := by
  have hcl : (failShown cause step s).cl = s.cl := (failShown_kept (m := State.cl) fun _ => rfl).view
  have hended : endWaiting 0x50 (failShown cause step s) = endNow n 0x50 (modCmd n (fun c => { c with waitDisc := false, placed := true }) (failShown cause step s)) := by
    unfold endWaiting
    rw [hcl, horder]
    simp [hcl, hc, or_comm.mp hwaits]
  rw [mountFail_eq, (towardsSafe_kept (m := State.cl) (fun _ => rfl) (.refl _)).view, hended]
  refine find_endNow_same (c := { c with waitDisc := false, placed := true }) ?_
  rw [find_modCmd_same, hcl, hc]
  rfl

end Sys2Proof.Machine
end

section
/-!
PROOFS. A blank DLA disc, a DLA disc that cannot be mounted, and a legacy disc (R347, R569 to R571, R575, R350).
-/
namespace Sys2Proof.Machine

variable {s t : State} {p q v k w side n x : Nat} {g : Fld} {c : Cmd} {runs : List Nat} {vs : List Bool}

/-! ### What a blank DLA disc shows -/

/-- What the FMT page and the frontier show of a DLA disc. -/
structure DlaShown (v k : Nat) (blank : Bool) (t : State) : Prop where
  variant : fget FMT.page FMT.MEDIA_VARIANT t = v
  profile : fget FMT.page FMT.MEDIA_PROFILE t = 0xFF10
  layers : fget FMT.page FMT.MEDIA_LAYERS t = variantLayers v
  last : fget FMT.page FMT.LAST_LBA t = variantSectors v - 1
  blank : fget FMT.page FMT.STATUS_BLANK t = b2n blank
  unclean : fget FMT.page FMT.STATUS_UNCLEAN t = 0
  legacy : fget FMT.page FMT.STATUS_LEGACY t = 0
  frontier : fget ENC.page ENC.FRONTIER t = k
  valid : fget ENC.page ENC.STATUS_FRONTIER_VALID t = 1

/-- What is shown of a DLA disc before the generations of its Defect Lists. -/
def dlaMarks (v k w : Nat) (blank : Bool) (s : State) : State :=
  s |> fset FMT.page FMT.MEDIA_VARIANT v |> fset FMT.page FMT.MEDIA_PROFILE 0xFF10 |> fset FMT.page FMT.MEDIA_LAYERS (variantLayers v)
    |> fset64 FMT.page FMT.DISC_ID_LO FMT.DISC_ID_HI s.disc.id |> fset FMT.page FMT.LAST_LBA (variantSectors v - 1)
    |> fsetB FMT.page FMT.STATUS_UNCLEAN false |> fsetB FMT.page FMT.STATUS_BLANK blank |> fset FMT.page FMT.STATUS_LEGACY 0
    |> fset FMT.page FMT.STATUS_READ_ONLY 0 |> fset FMT.page FMT.INTENTS_DONE 0 |> fset FMT.page FMT.INTENTS_ABANDONED 0 |> fset FMT.page FMT.INTENTS_LEFT 0
    |> fset ENC.page ENC.FRONTIER k |> fset ENC.page ENC.CKPT_FRONTIER k |> fset ENC.page ENC.STATUS_FRONTIER_VALID 1
    |> setWseq w |> fset64 ENC.page ENC.WSEQ_LIM_LO ENC.WSEQ_LIM_HI w |> showFree 0 |> showFree 1

theorem showDla_clean {blank : Bool} : showDla v k w true blank s =
    (List.range 16).foldl (fun t x => fset FMT.page (FMT.DLGEN.ix x) (governing (x / 8) (x % 8) t.disc.blocks).1 t) (dlaMarks v k w blank s) := rfl

/-- The generations of the Defect Lists alone are written after the rest. -/
theorem fget_showDla_clean {blank : Bool} (hg : ∀ i < 16, g.key q ≠ (FMT.DLGEN.ix i).key FMT.page) :
    fget q g (showDla v k w true blank s) = fget q g (dlaMarks v k w blank s) := by
  rw [showDla_clean]
  exact foldl_range_same (m := fget q g) fun t i hi => fget_fset_other t _ (hg i hi)

/-- A view that no field moves is left as it is by what is shown of a disc that was stopped cleanly. -/
theorem showDla_clean_view {α : Type} {m : State → α} {blank : Bool} (hm : ∀ p f v u, m (fset p f v u) = m u) : m (showDla v k w true blank s) = m s := by
  rw [showDla_clean]
  refine (foldl_range_same (m := m) fun t i _ => hm _ _ _ t).trans ?_
  simp only [dlaMarks, showFree, setWseq, fset64, fsetB, hm]

theorem otherPages_showFree : otherPages [FMT.page] s (showFree side s) :=
  (otherPages.refl.fset (by decide) (by split <;> decide)).fset (by decide) (by split <;> decide)

theorem otherPages_showDla {blank : Bool} : otherPages [FMT.page, ENC.page] s (showDla v k w true blank s) := by
  have hgens : ∀ i < 16, Fld.inPage (FMT.DLGEN.ix i) := by decide
  have hmarks : otherPages [FMT.page, ENC.page] s (dlaMarks v k w blank s) := by
    refine otherPages.trans ?_ ((otherPages_showFree.trans otherPages_showFree).mono (by simp))
    refine otherPages.fset64 (otherPages.fset64 ?_ (by decide) (by decide) (by decide)) (by decide) (by decide) (by decide)
    repeat refine otherPages.fset ?_ (by decide) (by decide)
    exact .refl
  rw [showDla_clean]
  exact hmarks.foldl fun u i hi => otherPages.refl.fset (by decide) (hgens i (List.mem_range.1 hi))

/-- A disc of a variant that can be mounted is shown, where its stop was clean (R347, R571). -/
theorem dlaShown_showDla {blank : Bool} (hv : v = 0x08 ∨ v = 0x16) (hk : k < 2 ^ 32) : DlaShown v k blank (showDla v k w true blank s) := by
  have hcode : v < 2 ^ 8 := by omega
  have hlayers : variantLayers v < 2 ^ 4 := by rcases hv with rfl | rfl <;> decide
  have hsectors : variantSectors v - 1 < 2 ^ 32 := by rcases hv with rfl | rfl <;> decide
  constructor
  all_goals
    refine (fget_showDla_clean ?_).trans ?_
    · decide
    simp (disch := decide) only [dlaMarks, showFree, setWseq, fset64, fsetB, fget_fset_other]
  case variant => exact fget_fset_lt hcode
  case profile => exact fget_fset_lt (by decide)
  case layers => exact fget_fset_lt hlayers
  case last => exact fget_fset_lt hsectors
  case blank => exact fget_fsetB_same _ _ _ _ (by decide)
  case unclean => exact fget_fset_same ..
  case legacy => exact fget_fset_same ..
  case frontier => exact fget_fset_lt hk
  case valid => exact fget_fset_same ..

/-! ### The copies, the runs and the key of a disc without a descriptor -/

theorem otherPages_showCopies : otherPages [FMT.page] s (showCopies side s) := by
  have hfld : Fld.inPage (if side = 0 then FMT.SEAL_COPIES_0 else FMT.SEAL_COPIES_1) := by split <;> decide
  exact ite_kept (P := fun u => otherPages [FMT.page] s u) .refl ((otherPages.refl.fset (by decide) hfld).raise (by decide))

theorem fget_showCopies_place (hg : g.inPage) (hne0 : g.place ≠ FMT.SEAL_COPIES_0.place) (hne1 : g.place ≠ FMT.SEAL_COPIES_1.place)
    (hint : g.place ≠ hdrIntStatus.place) : fget q g (showCopies side s) = fget q g s := by
  have hfld : Fld.inPage (if side = 0 then FMT.SEAL_COPIES_0 else FMT.SEAL_COPIES_1) := by split <;> decide
  have hne : g.place ≠ (if side = 0 then FMT.SEAL_COPIES_0 else FMT.SEAL_COPIES_1).place := by split <;> assumption
  exact ite_kept (P := fun u => fget q g u = fget q g s) rfl ((fget_raise_place hg hint).trans (fget_fset_place hg hfld hne))

theorem otherPages_showRuns : otherPages [CAL.page] s (showRuns runs s) := by
  have hruns : ∀ i < 16, Fld.inPage ((if i % 2 = 0 then CAL.NEXT_RUN_EVEN else CAL.NEXT_RUN_ODD).ix (i / 2)) := by decide
  exact otherPages.refl.foldl fun u i hi => otherPages.refl.fset (by decide) (hruns i (List.mem_range.1 hi))

/-- The descriptor and its wrap key identifier are shown on the FMT page. -/
theorem otherPages_showDescr : otherPages [FMT.page] s (showDescr s) := by
  have hids : ∀ k < 4, Fld.inPage (FMT.WRAP_ID.ix k) := by decide
  exact (otherPages.refl.fset (by decide) (by decide)).foldl fun u k hk => otherPages.refl.fset (by decide) (hids k (List.mem_range.1 hk))

theorem fget_showDescr_place (hg : g.inPage) (hdesc : g.place ≠ FMT.ENC_DESC.place) (hids : ∀ k < 4, g.place ≠ (FMT.WRAP_ID.ix k).place) :
    fget q g (showDescr s) = fget q g s := by
  have hin : ∀ k < 4, Fld.inPage (FMT.WRAP_ID.ix k) := by decide
  exact (foldl_range_same (m := fget q g) fun t k hk => fget_fset_place hg (hin k hk) (hids k hk)).trans (fget_fset_place hg (by decide) hdesc)

theorem otherPages_enforce {on : Bool} : otherPages [XTS.page] s (enforce on s) :=
  ((otherPages.refl.fsetB (by decide) (by decide)).fsetB (by decide) (by decide)).fsetB (by decide) (by decide)

/-- The mount of a disc without a descriptor: nothing decides its key. -/
def keyless (s : State) : State :=
  s |> setVault { s.vault with descr := none, prepare := none } |> setDisc { s.disc with enc := none } |> showDescr |> enforce s.disc.userWritten

theorem mountKey_nil : mountKey [] s = keyless s := by
  have hdisc : (showDescr (setDisc { s.disc with enc := none } (setVault { s.vault with descr := none, prepare := none } s))).disc
      = { s.disc with enc := none } := (showDescr_kept (m := State.disc) (fun _ => rfl) (.refl _)).view
  unfold keyless
  change enforce (showDescr (setDisc { s.disc with enc := none } (setVault { s.vault with descr := none, prepare := none } s))).disc.userWritten _ = enforce _ _
  rw [hdisc]
  rfl

theorem keyless_kept {α : Type} {m : State → α} (hm : ∀ u, m u = m { u with regs := [], disc := {}, vault := {} }) : Kept m s (keyless s) :=
  enforce_kept (sub hm) (showDescr_kept (sub hm) (setDisc_kept (sub hm) (setVault_kept (sub hm) (.refl s))))

theorem keyless_disc : (keyless s).disc = { s.disc with enc := none } :=
  (enforce_kept (m := State.disc) (fun _ => rfl) (showDescr_kept (fun _ => rfl) (.refl _))).view

theorem otherPages_keyless : otherPages [FMT.page, XTS.page] s (keyless s) := by
  have hshown : otherPages [FMT.page, XTS.page] s (showDescr (setDisc { s.disc with enc := none } (setVault { s.vault with descr := none, prepare := none } s))) :=
    (otherPages.refl.congr rfl rfl).trans (otherPages_showDescr.mono (by simp))
  exact hshown.trans (otherPages_enforce.mono (by simp))

theorem fget_keyless_fmt (hg : g.inPage) (hdesc : g.place ≠ FMT.ENC_DESC.place) (hids : ∀ k < 4, g.place ≠ (FMT.WRAP_ID.ix k).place) :
    fget FMT.page g (keyless s) = fget FMT.page g s :=
  (otherPages_enforce _ (by decide) _ hg).trans (fget_showDescr_place hg hdesc hids)

/-- A side whose disc holds no journal entry and no copy is open, and stays so. -/
theorem resolveSeal_open (hintents : s.disc.intents = []) (hcopies : s.disc.sealCopies = 0) : resolveSeal side vs s = showCopies side s := by
  have hdisc : (showCopies side s).disc = s.disc := (showCopies_kept (m := State.disc) (fun _ => rfl) (.refl s)).view
  have hnone : sealCopies side s = 0 := by simp [sealCopies, hcopies, bit]
  have hdone : sealDone side (showCopies side s) = false := by simp [sealDone, hdisc, hintents]
  unfold resolveSeal
  simp [hdone, hintents, hnone]

/-! ### A blank DLA disc mounted -/

/-- What a mount finds and shows of a blank disc of a variant. -/
def blankFound (v : Nat) (runs : List Nat) (s : State) : State :=
  s |> setDisc (discFound v 0 [] [] 0) |> showDla v 0 0 true true |> showRuns runs |> keyless

/-- The journal entries left open and the seals resolved. -/
def resolveAll (relocs : List (Fin 3)) (seals : List (List Bool)) (s : State) : State :=
  let t := ((openRelocs s).zip (relocs ++ List.replicate 4096 2)).foldl (fun t x => resolveReloc x.1 x.2.val t) s
  t |> resolveSeal 0 (seals.getD 0 []) |> resolveSeal 1 (seals.getD 1 [])

/-- A blank disc found, and its copies shown. -/
def blankShown (v : Nat) (runs : List Nat) (s : State) : State := blankFound v runs s |> showCopies 0 |> showCopies 1

/-- Nothing is left to resolve on a disc without a journal entry and without a copy. -/
theorem resolveAll_open {relocs : List (Fin 3)} {seals : List (List Bool)} (hintents : s.disc.intents = []) (hcopies : s.disc.sealCopies = 0) :
    resolveAll relocs seals s = showCopies 1 (showCopies 0 s) := by
  have hdisc : (showCopies 0 s).disc = s.disc := (showCopies_kept (m := State.disc) (fun _ => rfl) (.refl s)).view
  have hnone : openRelocs s = [] := by simp [openRelocs, hintents]
  unfold resolveAll
  rw [hnone]
  dsimp only [List.zip_nil_left, List.foldl_nil]
  rw [resolveSeal_open hintents hcopies, resolveSeal_open (hdisc ▸ hintents) (hdisc ▸ hcopies)]

theorem otherPages_blankShown : otherPages [FMT.page, ENC.page, CAL.page, XTS.page] s (blankShown v runs s) := by
  have hset : otherPages [FMT.page, ENC.page, CAL.page, XTS.page] s (setDisc (discFound v 0 [] [] 0) s) := otherPages.refl.congr rfl rfl
  have hfound : otherPages [FMT.page, ENC.page, CAL.page, XTS.page] s (blankFound v runs s) :=
    ((hset.trans (otherPages_showDla.mono (by simp))).trans (otherPages_showRuns.mono (by simp))).trans (otherPages_keyless.mono (by simp))
  exact (hfound.trans (otherPages_showCopies.mono (by simp))).trans (otherPages_showCopies.mono (by simp))

theorem blankFound_disc : (blankFound v runs s).disc = { discFound v 0 [] [] 0 with enc := none } := by
  have hshown : (showRuns runs (showDla v 0 0 true true (setDisc (discFound v 0 [] [] 0) s))).disc = discFound v 0 [] [] 0 :=
    (showRuns_kept (m := State.disc) (fun _ => rfl) (.refl _)).view.trans (showDla_clean_view (m := State.disc) fun _ _ _ _ => rfl)
  exact keyless_disc.trans (by rw [hshown])

theorem blankShown_kept {α : Type} {m : State → α} (hm : ∀ u, m u = m { u with regs := [], evq := [], out := [], msixPend := 0, disc := {}, vault := {} }) :
    Kept m s (blankShown v runs s) :=
  showCopies_kept (sub hm) (showCopies_kept (sub hm) ((showRuns_kept (sub hm) (showDla_kept (sub hm) (setDisc_kept (sub hm) (.refl s)))).trans (keyless_kept (sub hm))))

theorem blankShown_disc : (blankShown v runs s).disc = { discFound v 0 [] [] 0 with enc := none } :=
  (showCopies_kept (m := State.disc) (fun _ => rfl) (showCopies_kept (fun _ => rfl) (.refl _))).view.trans blankFound_disc

theorem blankShown_evq : (blankShown v runs s).evq = s.evq := by
  unfold blankShown blankFound
  rw [(showCopies_kept (m := State.evq) (fun _ => rfl) (showCopies_kept (fun _ => rfl) (keyless_kept fun _ => rfl))).view,
    (showRuns_kept (m := State.evq) (fun _ => rfl) (.refl _)).view, showDla_clean_view (m := State.evq) fun _ _ _ _ => rfl]
  rfl

/-- Past what a blank disc shows first, its FMT page gains the next runs' copies and the absent key. -/
theorem fget_blankShown (hg : g.inPage) (hne : g.place ∉ FMT.SEAL_COPIES_0.place :: FMT.SEAL_COPIES_1.place :: hdrIntStatus.place :: FMT.ENC_DESC.place ::
    (List.range 4).map fun k => (FMT.WRAP_ID.ix k).place) :
    fget FMT.page g (blankShown v runs s) = fget FMT.page g (showDla v 0 0 true true (setDisc (discFound v 0 [] [] 0) s)) := by
  simp only [List.mem_cons, List.mem_map, List.mem_range, not_or, not_exists, not_and] at hne
  obtain ⟨hcopies0, hcopies1, hint, hdesc, hids⟩ := hne
  unfold blankShown
  rw [fget_showCopies_place hg hcopies0 hcopies1 hint, fget_showCopies_place hg hcopies0 hcopies1 hint]
  unfold blankFound
  rw [fget_keyless_fmt hg hdesc fun k hk e => hids k hk e.symm]
  exact otherPages_showRuns _ (by decide) _ hg

/-- The marks of a blank disc once its key, its copies and its runs are shown. -/
theorem dlaShown_blankShown (hv : v = 0x08 ∨ v = 0x16) : DlaShown v 0 true (blankShown v runs s) := by
  obtain ⟨hvariant, hprofile, hlayers, hlast, hblank, hunclean, hlegacy, hfrontier, hvalid⟩ :=
    dlaShown_showDla (s := setDisc (discFound v 0 [] [] 0) s) (blank := true) (k := 0) (w := 0) hv (by decide)
  have henc : ∀ g : Fld, g.inPage → fget ENC.page g (blankShown v runs s) = fget ENC.page g (showDla v 0 0 true true (setDisc (discFound v 0 [] [] 0) s)) := fun g hg =>
    (otherPages_showCopies _ (by decide) _ hg).trans ((otherPages_showCopies _ (by decide) _ hg).trans
      ((otherPages_keyless _ (by decide) _ hg).trans (otherPages_showRuns _ (by decide) _ hg)))
  exact ⟨(fget_blankShown (by decide) (by decide)).trans hvariant, (fget_blankShown (by decide) (by decide)).trans hprofile,
    (fget_blankShown (by decide) (by decide)).trans hlayers, (fget_blankShown (by decide) (by decide)).trans hlast,
    (fget_blankShown (by decide) (by decide)).trans hblank, (fget_blankShown (by decide) (by decide)).trans hunclean,
    (fget_blankShown (by decide) (by decide)).trans hlegacy, (henc _ (by decide)).trans hfrontier, (henc _ (by decide)).trans hvalid⟩

/-- What ENC.STATUS shows of the seals stands, since a blank disc holds none. -/
theorem sealState_blankShown : sealState side (blankShown v runs s) = sealState side s := by
  have hseal : ∀ g ∈ [ENC.STATUS_SEAL_0, ENC.STATUS_SEAL_1], fget ENC.page g (blankShown v runs s) = fget ENC.page g s := by
    intro g hg
    have hin : g.inPage := (show ∀ x ∈ [ENC.STATUS_SEAL_0, ENC.STATUS_SEAL_1], Fld.inPage x by decide) g hg
    refine (otherPages_showCopies _ (by decide) _ hin).trans ((otherPages_showCopies _ (by decide) _ hin).trans
      ((otherPages_keyless _ (by decide) _ hin).trans ((otherPages_showRuns _ (by decide) _ hin).trans ?_)))
    refine (fget_showDla_clean ((show ∀ x ∈ [ENC.STATUS_SEAL_0, ENC.STATUS_SEAL_1], ∀ i < 16, x.key ENC.page ≠ (FMT.DLGEN.ix i).key FMT.page by decide) g hg)).trans ?_
    simp only [List.mem_cons, List.not_mem_nil, or_false] at hg
    rcases hg with rfl | rfl <;> simp (disch := decide) only [dlaMarks, showFree, setWseq, fset64, fsetB, fget_fset_other] <;> rfl
  exact hseal _ (by split <;> simp)

/-- The mount of a DLA disc whose blocks are known. -/
def mountFound (v id : Nat) (bs : List MountBlock) (ds : List DczBlock) (blank : Bool) (found : Nat × Nat × Bool) (runs : List Nat) (relocs : List (Fin 3))
    (seals : List (List Bool)) (s : State) : State :=
  let t := resolveAll relocs seals (mountKey ds (showRuns runs (showDla v found.1 found.2.1 found.2.2 blank (setDisc (discFound v id bs ds found.1) s))))
  mounted v (b2n (!found.2.2) + 2 * b2n blank + 4 * sealState 0 t + 16 * sealState 1 t) t

/-- The Disc Identity of a side was read, and none of its copies is valid. -/
def identityLost (bs : List MountBlock) : Bool :=
  [0, 1].any fun d => bs.any (fun b => psaSide b.psa.toNat == d && ofBe (((b.bytes.map BitVec.toNat).drop 4).take 2) = 1) &&
    !(parsed bs).any (fun kv => kv.2.type == 1 && kv.2.side == d)

/-- The valid blocks that carry the Disc ID. -/
def ownBlocks (bs : List MountBlock) : List DczBlock :=
  if (mountId (parsed bs)).isSome then ((parsed bs).map Prod.snd).filter (fun b => blockId b == (mountId (parsed bs)).getD 0) else []

theorem mountDla_eq {bs : List MountBlock} {relocs : List (Fin 3)} {seals : List (List Bool)} : mountDla v bs runs relocs seals s =
    if variantLayers v = 0 then mountFail 3 2 s else if identityLost bs then mountFail 4 3 s
    else mountFound v ((mountId (parsed bs)).getD 0) bs (ownBlocks bs) (mountId (parsed bs)).isNone
      (foundFrontier (((ownBlocks bs).filter (fun b => b.type == 4)).flatMap blockIntents) bs (mountId (parsed bs)).isNone) runs relocs seals s := rfl

/-- A blank disc of a variant that can be mounted is shown, and its mount ends. -/
theorem mountDla_blank {relocs : List (Fin 3)} {seals : List (List Bool)} (hv : variantLayers v ≠ 0) (hopen0 : sealState 0 s = 0) (hopen1 : sealState 1 s = 0) :
    mountDla v [] runs relocs seals s = mounted v 2 (blankShown v runs s) := by
  have hresolved : resolveAll relocs seals (blankFound v runs s) = blankShown v runs s :=
    resolveAll_open (by rw [blankFound_disc]; rfl) (by rw [blankFound_disc]; rfl)
  have hno : parsed [] = [] := rfl
  have hlost : identityLost [] = false := rfl
  have hown : ownBlocks [] = [] := rfl
  have hid : mountId (parsed []) = none := rfl
  have hfrontier : foundFrontier [] [] true = (0, 0, true) := rfl
  rw [mountDla_eq, if_neg hv, if_neg (by simp [hlost]), hown, hid, Option.isNone_none, Option.getD_none, List.filter_nil, List.flatMap_nil, hfrontier]
  unfold mountFound
  rw [mountKey_nil]
  change mounted v (b2n (!true) + 2 * b2n true + 4 * sealState 0 (resolveAll relocs seals (blankFound v runs s))
    + 16 * sealState 1 (resolveAll relocs seals (blankFound v runs s))) (resolveAll relocs seals (blankFound v runs s)) = _
  rw [hresolved, sealState_blankShown, sealState_blankShown, hopen0, hopen1]
  rfl

/-! ### A DLA disc that cannot be mounted (R569) -/

/-- A variant that the device does not know fails at step 2. -/
theorem mountDla_unknown {bs : List MountBlock} {relocs : List (Fin 3)} {seals : List (List Bool)} (hv : variantLayers v = 0) :
    mountDla v bs runs relocs seals s = mountFail 3 2 s := if_pos hv

theorem psaSide_lt (a : Nat) : psaSide a = 0 ∨ psaSide a = 1 := by
  have : psaSide a < 2 := Nat.mod_lt _ (by decide)
  omega

/-- A side whose one Disc Identity does not read fails at step 3. -/
theorem mountDla_unread {b : MountBlock} {relocs : List (Fin 3)} {seals : List (List Bool)} (hv : variantLayers v ≠ 0) (hbad : b.ok = false)
    (hidentity : ofBe (((b.bytes.map BitVec.toNat).drop 4).take 2) = 1) : mountDla v [b] runs relocs seals s = mountFail 4 3 s := by
  have hparsed : parsed [b] = [] := by simp [parsed, parseBlock, hbad]
  have hlost : identityLost [b] = true := by
    unfold identityLost
    rw [hparsed]
    rcases psaSide_lt b.psa.toNat with hside | hside <;> simp [hside, hidentity]
  rw [mountDla_eq, if_neg hv, if_pos hlost]

/-! ### A legacy disc (R350) -/

/-- The FMT page of a legacy disc. -/
def legacyMarks (profile layers last : Nat) (blank readOnly : Bool) (s : State) : State :=
  s |> fset FMT.page FMT.MEDIA_VARIANT 0 |> fset FMT.page FMT.MEDIA_PROFILE profile |> fset FMT.page FMT.MEDIA_LAYERS layers
    |> fset FMT.page FMT.LAST_LBA last |> fset FMT.page FMT.STATUS_LEGACY 1 |> fsetB FMT.page FMT.STATUS_READ_ONLY (readOnly || !([0x0041, 0x0043].contains profile))
    |> fsetB FMT.page FMT.STATUS_BLANK blank |> fset FMT.page FMT.STATUS_UNCLEAN 0

/-- What a mount finds and shows of a legacy disc. -/
def legacyShown (profile layers last : Nat) (blank readOnly : Bool) (nwa : Option Nat) (s : State) : State :=
  s |> setDisc { nwa := nwa } |> legacyMarks profile layers last blank readOnly |> setVault { s.vault with descr := none, prepare := none } |> enforce false

theorem mountLegacy_known {profile layers last i : Nat} {blank readOnly : Bool} {nwa : Option Nat} (hi : legacyProfiles.idxOf? profile = some i) :
    mountLegacy profile layers last blank readOnly nwa s = mounted (0x80 + i) (2 * b2n blank) (legacyShown profile layers last blank readOnly nwa s) := by
  have hfound : i < legacyProfiles.length ∧ legacyProfiles.findIdx (· == profile) = i := List.findIdx?_eq_some_iff_findIdx_eq.1 hi
  have hknown : legacyProfiles.contains profile = true := by
    rw [List.contains_eq_any_beq, List.any_eq_true]
    have hlt : legacyProfiles.findIdx (· == profile) < legacyProfiles.length := hfound.2 ▸ hfound.1
    exact ⟨_, List.getElem_mem hlt, by rw [BEq.comm]; exact List.findIdx_getElem (w := hlt)⟩
  unfold mountLegacy
  rw [hknown, hfound.2]
  rfl

end Sys2Proof.Machine
end

section
/-!
PROOFS. The obligation about mounts, clause by clause (R347, R350, R569 to R571, R575, R576).
-/
namespace Sys2Proof.Machine

variable {s t : State} {x : Nat} {d : Cmd}

/-! ### A mount that fails (R569) -/

theorem mountFail_shows {c : Fin 5} {st : Fin 9} (hstate : fget FMT.page FMT.STATUS_STATE s = 1) (hcause : c.val ≠ 0) :
    Completes (.mountFail c st) s fun t => fget FMT.page FMT.STATUS_STATE t = 3 ∧
      fget FMT.page hdrFault t = c ∧ fget FMT.page FMT.MOUNT_FAIL_CAUSE t = c ∧ fget FMT.page FMT.MOUNT_FAIL_STEP t = st ∧ hasInt FMT.page FMT.iMOUNT_FAIL t ∧
      t.dev.mountAt = none ∧ t.dev.noAuto = true ∧ (∃ later, t.evq = s.evq ++ ⟨0x0014, srcAon, 0, c, st, false⟩ :: later) ∧
      (∀ x d, s.cl.order = [x] → s.cl.cmds.find x = some d → d.op = 10 ∨ d.waitDisc = true →
        ∃ e, t.cl.cmds.find x = some e ∧ e.ended = true ∧ e.outcomes = d.outcomes ++ [0x50]) := by
  obtain ⟨hfailed, hcode, hshownCause, hshownStep, hint, hevq, hdev⟩ :=
    mountFails_mountFail (s := s) (cause := c) (step := st) (Nat.lt_trans c.isLt (by decide)) (Nat.lt_trans st.isLt (by decide))
  refine ⟨mountFail c st s, congrArg Host.Outcome.next (if_pos (by simp [hstate, hcause])), hfailed, hcode, hshownCause, hshownStep, hint, ?_, ?_, hevq, ?_⟩
  · rw [hdev]
  · rw [hdev]
  · exact fun x d horder hfind hwaits => ⟨_, find_mountFail horder hfind hwaits, rfl, rfl⟩

theorem mountFail_idle {c : Fin 5} {st : Fin 9} (hstate : fget FMT.page FMT.STATUS_STATE s ≠ 1) : Completes (.mountFail c st) s fun t => t = s :=
  ⟨s, congrArg Host.Outcome.next (if_neg (by simp [hstate])), rfl⟩

theorem dlaMount_idle {m : MountIn} (hstate : fget FMT.page FMT.STATUS_STATE s ≠ 1) : Completes (.dlaMount m) s fun t => t = s :=
  ⟨s, congrArg Host.Outcome.next (if_pos hstate), rfl⟩

section
variable {v : BitVec 8} {runs : List (BitVec 9)} {relocs : List (Fin 3)} {seals : List (List Bool)}

/-! ### A DLA disc -/

theorem exec_dlaMount {bs : List MountBlock} (hstate : fget FMT.page FMT.STATUS_STATE s = 1) :
    exec (.dlaMount (.dla v bs runs relocs seals)) s = .next (mountDla v.toNat bs (runs.map BitVec.toNat) relocs seals s) :=
  congrArg Host.Outcome.next (if_neg (not_not.2 hstate))

theorem variantLayers_known (hv : v = 0x08 ∨ v = 0x16) : variantLayers v.toNat = (if v = 0x16 then 8 else 4) := by
  rcases hv with rfl | rfl <;> rfl

theorem variantSectors_known (hv : v = 0x08 ∨ v = 0x16) : variantSectors v.toNat = (if v = 0x16 then 781250560 else 390625280) := by
  rcases hv with rfl | rfl <;> rfl

theorem variantLayers_unknown (h8 : v ≠ 0x08) (h16 : v ≠ 0x16) : variantLayers v.toNat = 0 := by
  have hcode : ∀ b : BitVec 8, v ≠ b → v.toNat ≠ b.toNat := fun b hb e => hb (BitVec.eq_of_toNat_eq e)
  exact (if_neg (hcode _ h16)).trans (if_neg (hcode _ h8))

/-- A blank DLA disc mounts with its geometry and no descriptor (R347, R571), and what waited for it goes on (R570, R576). -/
theorem dlaMount_blank (hstate : fget FMT.page FMT.STATUS_STATE s = 1) (hopen0 : sealState 0 s = 0) (hopen1 : sealState 1 s = 0) (htrans : s.pwr.trans = none)
    (hmode : modeNow s ≠ 3) (hv : v = 0x08 ∨ v = 0x16) :
    Completes (.dlaMount (.dla v [] runs relocs seals)) s fun t => fget FMT.page FMT.STATUS_STATE t = 2 ∧ fget FMT.page FMT.MEDIA_VARIANT t = v.toNat ∧
      fget FMT.page FMT.MEDIA_PROFILE t = 0xFF10 ∧ fget FMT.page FMT.MEDIA_LAYERS t = (if v = 0x16 then 8 else 4) ∧
      fget FMT.page FMT.LAST_LBA t = (if v = 0x16 then 781250560 else 390625280) - 1 ∧
      fget FMT.page FMT.STATUS_BLANK t = 1 ∧ fget FMT.page FMT.STATUS_UNCLEAN t = 0 ∧ fget FMT.page FMT.STATUS_LEGACY t = 0 ∧ hasInt FMT.page FMT.iMOUNTED t ∧
      (s.cl.order = [] → fget ENC.page ENC.FRONTIER t = 0 ∧ fget ENC.page ENC.STATUS_FRONTIER_VALID t = 1) ∧ t.disc.variant = v.toNat ∧ t.dev.mountAt = none ∧
      (∃ later, t.evq = s.evq ++ ⟨0x0010, srcAon, 0, v.toNat, 2, false⟩ :: later) ∧
      (∀ x d, s.cl.order = [x] → s.cl.cmds.find x = some d →
        (d.op = 10 → ∃ e, t.cl.cmds.find x = some e ∧ e.ended = true ∧ e.outcomes = d.outcomes ++ [0]) ∧
        (d.op = 3 → d.waitDisc = true → 1 ≤ d.count → d.lba + d.count ≤ 390625280 →
          ∃ e, t.cl.cmds.find x = some e ∧ e.waitDisc = false ∧ e.first = d.lba ∧ e.sectors = d.count ∧ e.placed = true)) := by
  have hcode : v.toNat = 0x08 ∨ v.toNat = 0x16 := hv.imp (congrArg BitVec.toNat) (congrArg BitVec.toNat)
  have hlayers : variantLayers v.toNat ≠ 0 := by rw [variantLayers_known hv]; split <;> decide
  have hlast : 390625280 - 1 ≤ variantSectors v.toNat - 1 := by rw [variantSectors_known hv]; split <;> decide
  have hshown := dlaShown_blankShown (s := s) (runs := runs.map BitVec.toNat) hcode
  have hcl : (blankShown v.toNat (runs.map BitVec.toNat) s).cl = s.cl := (blankShown_kept (m := State.cl) fun _ => rfl).view
  have hpwr : (blankShown v.toNat (runs.map BitVec.toNat) s).pwr.trans = none := by
    rw [(blankShown_kept (m := State.pwr) fun _ => rfl).view, htrans]
  have hmode' : modeNow (blankShown v.toNat (runs.map BitVec.toNat) s) ≠ 3 := by
    unfold modeNow at *
    rwa [otherPages_blankShown _ (by decide) _ (by decide)]
  obtain ⟨hmounted, hint, hfmt, hevq, hvariant, hmountAt⟩ := mountEnds_mounted (v := v.toNat) (flags := 2) hpwr hmode'
  have hevent : v.toNat % 2 ^ 32 = v.toNat := Nat.mod_eq_of_lt (Nat.lt_trans v.isLt (by decide))
  refine ⟨_, (exec_dlaMount hstate).trans (by rw [mountDla_blank hlayers hopen0 hopen1]), hmounted, ?_, ?_, ?_, ?_, ?_, ?_, ?_, hint, ?_, ?_, hmountAt, ?_, ?_⟩
  · rw [hfmt _ (by decide) (by decide), hshown.variant]
  · rw [hfmt _ (by decide) (by decide), hshown.profile]
  · rw [hfmt _ (by decide) (by decide), hshown.layers, variantLayers_known hv]
  · rw [hfmt _ (by decide) (by decide), hshown.last, variantSectors_known hv]
  · rw [hfmt _ (by decide) (by decide), hshown.blank]
    rfl
  · rw [hfmt _ (by decide) (by decide), hshown.unclean]
  · rw [hfmt _ (by decide) (by decide), hshown.legacy]
  · intro hidle
    have henc : ∀ g : Fld, g.inPage → fget ENC.page g (mounted v.toNat 2 (blankShown v.toNat (runs.map BitVec.toNat) s))
        = fget ENC.page g (blankShown v.toNat (runs.map BitVec.toNat) s) := fun g hg => fget_mounted_idle hpwr hmode' (by rw [hcl, hidle]) (by decide) hg
    exact ⟨(henc _ (by decide)).trans hshown.frontier, (henc _ (by decide)).trans hshown.valid⟩
  · rw [hvariant, blankShown_disc]
    rfl
  · obtain ⟨later, hlater⟩ := hevq
    exact ⟨later, hlater.trans (by rw [blankShown_evq, hevent]; rfl)⟩
  · intro x d horder hfind
    refine ⟨fun hop => ⟨_, find_mounted_mount hpwr hmode' (by rw [hcl, horder]) (by rw [hcl, hfind]) hop, rfl, rfl⟩, fun hop hwaits hcount hend => ?_⟩
    refine ⟨_, find_mounted_verify hpwr hmode' (by rw [hcl, horder]) (by rw [hcl, hfind]) hop hwaits ?_, rfl, rfl, rfl, rfl⟩
    rw [hshown.last]
    omega

theorem dlaMount_unknown (hstate : fget FMT.page FMT.STATUS_STATE s = 1) (h8 : v ≠ 0x08) (h16 : v ≠ 0x16) :
    Completes (.dlaMount (.dla v [] runs relocs seals)) s fun t => fget FMT.page FMT.STATUS_STATE t = 3 ∧ fget FMT.page FMT.MOUNT_FAIL_CAUSE t = 3 ∧
      fget FMT.page FMT.MOUNT_FAIL_STEP t = 2 ∧ hasInt FMT.page FMT.iMOUNT_FAIL t := by
  have hfails : MountFails 3 2 s (mountFail 3 2 s) := mountFails_mountFail (by decide) (by decide)
  exact ⟨_, (exec_dlaMount hstate).trans (by rw [mountDla_unknown (variantLayers_unknown h8 h16)]), hfails.state, hfails.shownCause, hfails.shownStep, hfails.int⟩

theorem dlaMount_unread {b : MountBlock} (hstate : fget FMT.page FMT.STATUS_STATE s = 1) (hbad : b.ok = false)
    (hidentity : ofBe (((b.bytes.map BitVec.toNat).drop 4).take 2) = 1) (hv : v = 0x08 ∨ v = 0x16) :
    Completes (.dlaMount (.dla v [b] runs relocs seals)) s fun t =>
      fget FMT.page FMT.STATUS_STATE t = 3 ∧ fget FMT.page FMT.MOUNT_FAIL_CAUSE t = 4 ∧ fget FMT.page FMT.MOUNT_FAIL_STEP t = 3 := by
  have hlayers : variantLayers v.toNat ≠ 0 := by rw [variantLayers_known hv]; split <;> decide
  have hfails : MountFails 4 3 s (mountFail 4 3 s) := mountFails_mountFail (by decide) (by decide)
  exact ⟨_, (exec_dlaMount hstate).trans (by rw [mountDla_unread hlayers hbad hidentity]), hfails.state, hfails.shownCause, hfails.shownStep⟩

end

/-! ### A legacy disc (R350) -/

section
variable {profile layers last : Nat} {blank readOnly : Bool} {nwa : Option Nat}

theorem legacyMarks_kept {α : Type} {m : State → α} (hm : ∀ u, m u = m { u with regs := [] }) : Kept m s (legacyMarks profile layers last blank readOnly s) := by
  unfold legacyMarks fsetB
  repeat refine fset_kept (sub hm) ?_
  exact .refl s

theorem legacyShown_kept {α : Type} {m : State → α} (hm : ∀ u, m u = m { u with regs := [], disc := {}, vault := {} }) :
    Kept m s (legacyShown profile layers last blank readOnly nwa s) :=
  enforce_kept (sub hm) (setVault_kept (sub hm) ((setDisc_kept (sub hm) (.refl s)).trans (legacyMarks_kept (sub hm))))

theorem otherPages_legacyMarks : otherPages [FMT.page] s (legacyMarks profile layers last blank readOnly s) := by
  unfold legacyMarks fsetB
  repeat refine otherPages.fset ?_ (by decide) (by decide)
  exact .refl

theorem fget_legacyShown {q : Nat} {g : Fld} (hq : q ≠ XTS.page) (hg : g.inPage) :
    fget q g (legacyShown profile layers last blank readOnly nwa s) = fget q g (legacyMarks profile layers last blank readOnly (setDisc { nwa := nwa } s)) :=
  otherPages_enforce q (by simpa using hq) g hg

/-- A legacy disc mounts with what its standard gave. -/
theorem dlaMount_legacy {pr : BitVec 16} {l : BitVec 4} {last : BitVec 32} {ro : Bool} {i : Nat} (hstate : fget FMT.page FMT.STATUS_STATE s = 1)
    (htrans : s.pwr.trans = none) (hmode : modeNow s ≠ 3) (hi : legacyProfiles.idxOf? pr.toNat = some i) :
    Completes (.dlaMount (.legacy pr l last blank ro nwa)) s fun t =>
      fget FMT.page FMT.STATUS_STATE t = 2 ∧ fget FMT.page FMT.STATUS_LEGACY t = 1 ∧ fget FMT.page FMT.MEDIA_PROFILE t = pr.toNat ∧
      fget FMT.page FMT.LAST_LBA t = last.toNat ∧ fget FMT.page FMT.STATUS_BLANK t = b2n blank ∧
      (ro = true ∨ (pr ≠ 0x0041 ∧ pr ≠ 0x0043) → fget FMT.page FMT.STATUS_READ_ONLY t = 1) ∧ hasInt FMT.page FMT.iMOUNTED t ∧
      (∃ later, t.evq = s.evq ++ ⟨0x0010, srcAon, 0, 0x80 + i, 2 * b2n blank, false⟩ :: later) := by
  have hpwr : (legacyShown pr.toNat l.toNat last.toNat blank ro nwa s).pwr.trans = none := by
    rw [(legacyShown_kept (m := State.pwr) fun _ => rfl).view, htrans]
  have hmode' : modeNow (legacyShown pr.toNat l.toNat last.toNat blank ro nwa s) ≠ 3 := by
    unfold modeNow at *
    rwa [fget_legacyShown (by decide) (by decide), otherPages_legacyMarks _ (by decide) _ (by decide)]
  obtain ⟨hmounted, hint, hfmt, ⟨later, hevq⟩, _, _⟩ := mountEnds_mounted (v := 0x80 + i) (flags := 2 * b2n blank) hpwr hmode'
  have hindex : (0x80 + i) % 2 ^ 32 = 0x80 + i := by
    have hlt : i < 10 := (List.findIdx?_eq_some_iff_findIdx_eq.1 hi).1
    exact Nat.mod_eq_of_lt (by omega)
  have hflags : 2 * b2n blank % 2 ^ 32 = 2 * b2n blank := by cases blank <;> rfl
  refine ⟨mounted (0x80 + i) (2 * b2n blank) (legacyShown pr.toNat l.toNat last.toNat blank ro nwa s),
    (congrArg Host.Outcome.next (if_neg (not_not.2 hstate))).trans (congrArg Host.Outcome.next (mountLegacy_known hi)), hmounted, ?_, ?_, ?_, ?_, ?_, hint, later, ?_⟩
  · rw [hfmt _ (by decide) (by decide), fget_legacyShown (by decide) (by decide)]
    simp (disch := decide) only [legacyMarks, fsetB, fget_fset_place, fget_fset_same]
    rfl
  · rw [hfmt _ (by decide) (by decide), fget_legacyShown (by decide) (by decide)]
    simp (disch := decide) only [legacyMarks, fsetB, fget_fset_place]
    exact fget_fset_lt pr.isLt
  · rw [hfmt _ (by decide) (by decide), fget_legacyShown (by decide) (by decide)]
    simp (disch := decide) only [legacyMarks, fsetB, fget_fset_place]
    exact fget_fset_lt last.isLt
  · rw [hfmt _ (by decide) (by decide), fget_legacyShown (by decide) (by decide)]
    unfold legacyMarks
    rw [fget_fset_place (by decide) (by decide) (by decide)]
    exact fget_fsetB_same _ _ _ _ (by decide)
  · intro hreadOnly
    have hon : (ro || !([0x0041, 0x0043].contains pr.toNat)) = true := by
      rcases hreadOnly with rfl | ⟨h41, h43⟩
      · rfl
      · have hcode : ∀ b : BitVec 16, pr ≠ b → pr.toNat ≠ b.toNat := fun b hb e => hb (BitVec.eq_of_toNat_eq e)
        simpa using Or.inr ⟨hcode _ h41, hcode _ h43⟩
    rw [hfmt _ (by decide) (by decide), fget_legacyShown (by decide) (by decide)]
    unfold legacyMarks
    rw [fget_fset_place (by decide) (by decide) (by decide), fget_fsetB_place (by decide) (by decide) (by decide), fget_fsetB_same _ _ _ _ (by decide), hon]
    rfl
  · rw [hevq, hindex, hflags, (legacyShown_kept (m := State.evq) fun _ => rfl).view]

end

/-- Settles O39: clause by clause, a mount that fails, one that finds a blank DLA disc, and one that finds a legacy disc. -/
theorem mounting : Obligations.Mounting := by
  unfold Obligations.Mounting
  intro s
  refine ⟨fun c st hstate hcause => mountFail_shows hstate hcause, fun c st hstate => mountFail_idle hstate, fun m hstate => dlaMount_idle hstate,
    fun v runs relocs seals hstate hopen0 hopen1 htrans hmode => ⟨fun hv => ?_, fun h8 h16 => dlaMount_unknown hstate h8 h16,
      fun b hbad hidentity hv => dlaMount_unread hstate hbad hidentity hv, fun pr l last blank ro nwa i hi => dlaMount_legacy hstate htrans hmode hi⟩⟩
  exact dlaMount_blank hstate hopen0 hopen1 htrans hmode hv

end Sys2Proof.Machine
end

section
/-!
PROOFS. What a recording in the Disc Control Zone leaves of the disc (R63 to R69), and the first recording on a disc (R349, R511, R575).
-/
namespace Sys2Proof.Machine

variable {s t u : State} {side home type layer gen part parts n d k v : Nat} {payload : List Nat} {forSeal : Bool}

theorem bit_clrBit_same (v b : Nat) : bit (clrBit v b) b = false := by
  unfold bit clrBit
  split
  next hset =>
    have hodd : v / 2 ^ b % 2 = 1 := by simpa [Nat.testBit_eq_decide_div_mod_eq] using hset
    have hdiv : (v - 2 ^ b) / 2 ^ b = v / 2 ^ b - 1 := by simpa using Nat.sub_mul_div v (2 ^ b) 1
    rw [Nat.testBit_eq_decide_div_mod_eq, hdiv]
    exact decide_eq_false (by omega)
  next hclear => simpa using hclear

theorem bit_setBit (v b c : Nat) : bit (setBit v c) b = (bit v b || decide (c = b)) := by
  unfold bit setBit
  rw [Nat.testBit_or, Nat.testBit_two_pow]

/-! ### A block recorded -/

/-- The disc once a block is recorded in the next blank slot of a layer of a side, under a write sequence number. -/
def DiscSt.withBlock (side l w : Nat) (b : DczBlock) (d : DiscSt) : DiscSt :=
  { d with blocks := d.blocks ++ [b], dczSeq := d.dczSeq + 1, written := d.written.insert b.psa w,
           dczUsed := d.dczUsed.insert (8 * side + l) (d.dczUsed.get (8 * side + l) 0 + 1) }

theorem recordPart_disc (h : recordPart side home type layer gen part parts payload forSeal s = some t) :
    ∃ l b, dczLayer side home forSeal s = some l ∧ t.disc = s.disc.withBlock side l (wseq s) b := by
  unfold recordPart at h
  obtain ⟨l, hlayer, rfl⟩ := Option.map_eq_some_iff.1 h
  refine ⟨l, ⟨type, side, layer, gen, s.disc.dczSeq, dczPsa side l s, dczBytes s.disc.id type s.disc.dczSeq side layer gen part parts payload⟩, hlayer, ?_⟩
  dsimp only
  rw [(showFree_kept (m := State.disc) (fun _ => rfl) (cnt_kept (fun _ => rfl) (setWseq_kept (fun _ => rfl) (send_kept (fun _ => rfl) (.refl _))))).view]
  rfl

/-- The blocks recorded have grown; the marks of the disc, its seals and its descriptor are as they were. -/
structure BlocksGrow (s t : State) : Prop where
  blocks : s.disc.blocks <+: t.disc.blocks
  variant : t.disc.variant = s.disc.variant
  enc : t.disc.enc = s.disc.enc
  identities : t.disc.identities = s.disc.identities
  sealCopies : t.disc.sealCopies = s.disc.sealCopies

theorem BlocksGrow.refl : BlocksGrow s s := ⟨List.prefix_refl _, rfl, rfl, rfl, rfl⟩

theorem BlocksGrow.of_disc (h : t.disc = s.disc) : BlocksGrow s t := ⟨by rw [h], by rw [h], by rw [h], by rw [h], by rw [h]⟩

theorem BlocksGrow.trans (h : BlocksGrow s t) (k : BlocksGrow t u) : BlocksGrow s u :=
  ⟨h.blocks.trans k.blocks, k.variant.trans h.variant, k.enc.trans h.enc, k.identities.trans h.identities, k.sealCopies.trans h.sealCopies⟩

theorem recordPart_grows (h : recordPart side home type layer gen part parts payload forSeal s = some t) : BlocksGrow s t := by
  obtain ⟨l, b, -, hdisc⟩ := recordPart_disc h
  constructor <;> rw [hdisc]
  · exact List.prefix_append _ _
  all_goals rfl

theorem recordBlock_grows (h : recordBlock side home type layer gen payload forSeal s = some t) : BlocksGrow s t := recordPart_grows h

theorem recordIntent_grows {i : Intent} (h : recordIntent i forSeal s = some t) : BlocksGrow s t := by
  unfold recordIntent at h
  obtain ⟨u, hblock, rfl⟩ := Option.map_eq_some_iff.1 h
  obtain ⟨hblocks, hvariant, henc, hidentities, hcopies⟩ := recordBlock_grows hblock
  exact ⟨hblocks, hvariant, henc, hidentities, hcopies⟩

theorem recordOn_grows {mk : Nat → Intent} {sides : List Nat} (h : recordOn mk forSeal sides s = some t) : BlocksGrow s t := by
  induction sides generalizing s with
  | nil => cases h; exact .refl
  | cons d ds ih =>
    obtain ⟨u, hintent, hrest⟩ := Option.bind_eq_some_iff.1 h
    exact (recordIntent_grows hintent).trans (ih hrest)

theorem checkpoint_grows {sides : List Nat} {cluster : Nat} (h : checkpoint sides cluster s = some t) : BlocksGrow s t := by
  obtain ⟨u, hentries, hshown⟩ := Option.map_eq_some_iff.1 h
  have hdisc : t.disc = u.disc := (congrArg State.disc hshown).symm.trans checkpointShown_disc
  exact (recordOn_grows hentries).trans (.of_disc hdisc)

/-! ### Events of a checkpoint -/

theorem checkpointShown_evq {sides : List Nat} {fr lim : Nat} : t.evq <+: (checkpointShown sides fr lim t).evq := by
  have hevents : t.evq <+: (sides.foldl (fun u d => emit 0x4109 (srcChan d) d fr lim u) t).evq := foldl_evq_prefix (fun _ _ => List.prefix_append _ _) t
  unfold checkpointShown
  rw [cnt_evq, raise_evq]
  exact hevents

theorem checkpoint_evq {sides : List Nat} {cluster : Nat} (h : checkpoint sides cluster s = some t) : s.evq <+: t.evq := by
  obtain ⟨u, hentries, rfl⟩ := Option.map_eq_some_iff.1 h
  rw [← (recordOn_kept (m := State.evq) (fun _ => rfl) (.refl s) u hentries).view]
  exact checkpointShown_evq

/-! ### The Disc Identity and the descriptor of a side (R349, R575) -/

theorem variantLayers_le (v : Nat) : variantLayers v ≤ 8 := by
  unfold variantLayers
  split
  · decide
  · split <;> decide

/-- The layers whose DCZ is asked in turn are the disc's. -/
theorem askedLayers_lt (hk : k ∈ (List.range (discLayers s)).map fun i => (home + i) % discLayers s) : k < 8 := by
  obtain ⟨i, hi, rfl⟩ := List.mem_map.1 hk
  have hpos : 0 < discLayers s := Nat.lt_of_le_of_lt (Nat.zero_le i) (List.mem_range.1 hi)
  exact Nat.lt_of_lt_of_le (Nat.mod_lt _ hpos) (variantLayers_le _)

theorem dczLayer_lt (h : dczLayer side home forSeal s = some k) : k < 8 := askedLayers_lt (List.mem_of_find?_eq_some h)

/-- The slots left on a side are told by the variant and by what the side itself has used. -/
theorem dczLeft_congr (hvariant : t.disc.variant = s.disc.variant) (hused : ∀ l < 8, t.disc.dczUsed.get (8 * d + l) 0 = s.disc.dczUsed.get (8 * d + l) 0) :
    dczLeft d t = dczLeft d s := by
  have hlayers : discLayers t = discLayers s := by unfold discLayers; rw [hvariant]
  unfold dczLeft dczLayer
  rw [hlayers]
  refine congrArg Option.isSome (List.find?_congr fun l hl => ?_)
  unfold dczReserve dczBlank
  rw [hvariant, hused l (askedLayers_lt hl)]

theorem recordIdentity_none (h : recordBlock side 0 1 0 1 payload false s = none) : dczLeft side s = false := by
  unfold recordBlock recordPart at h
  unfold dczLeft
  rw [Option.map_eq_none_iff.1 h]
  rfl

/-- The payload of a side's Disc Identity: that of the other side's, where there is one. -/
def identityOf (s : State) : List Nat :=
  match s.disc.blocks.find? (fun b => b.type == 1) with
  | some b => (b.payload.drop 64).take 24
  | none => identityPayload s

theorem recordIdentity_of_bit (h : bit s.disc.identities side = true) : recordIdentity side s = s := if_pos h

theorem recordIdentity_of_clear (h : bit s.disc.identities side = false) : recordIdentity side s =
    (recordBlock side 0 1 0 1 (identityOf s) false s).elim s fun t => setDisc { t.disc with identities := setBit t.disc.identities side } t :=
  (if_neg (by simp [h])).trans rfl

/-- What the Disc Identity of one side leaves: the blocks grow, the identity stands where a slot was left, and the other sides are not touched. -/
structure IdentityRecorded (side : Nat) (s t : State) : Prop where
  blocks : s.disc.blocks <+: t.disc.blocks
  variant : t.disc.variant = s.disc.variant
  enc : t.disc.enc = s.disc.enc
  own : dczLeft side s = true → bit t.disc.identities side = true
  kept : ∀ d, bit s.disc.identities d = true → bit t.disc.identities d = true
  left : ∀ d, d ≠ side → dczLeft d t = dczLeft d s

theorem identityRecorded_recordIdentity : IdentityRecorded side s (recordIdentity side s) := by
  cases hbit : bit s.disc.identities side with
  | true =>
    rw [recordIdentity_of_bit hbit]
    exact ⟨List.prefix_refl _, rfl, rfl, fun _ => hbit, fun _ h => h, fun _ _ => rfl⟩
  | false =>
    rw [recordIdentity_of_clear hbit]
    cases hblock : recordBlock side 0 1 0 1 (identityOf s) false s with
    | none =>
      have hfull := recordIdentity_none hblock
      exact ⟨List.prefix_refl _, rfl, rfl, fun hleft => absurd hleft (by simp [hfull]), fun _ h => h, fun _ _ => rfl⟩
    | some t =>
      obtain ⟨hblocks, hvariant, henc, hidentities, -⟩ := recordBlock_grows hblock
      refine ⟨hblocks, hvariant, henc, fun _ => ?_, fun d hd => ?_, fun d hd => dczLeft_congr hvariant fun l hl => ?_⟩
      · change bit (setBit t.disc.identities side) side = true
        simp [bit_setBit]
      · change bit (setBit t.disc.identities side) d = true
        simp [bit_setBit, hidentities, hd]
      · obtain ⟨k, b, hlayer, hdisc⟩ := recordPart_disc hblock
        have hk : k < 8 := dczLayer_lt hlayer
        change t.disc.dczUsed.get _ 0 = _
        rw [hdisc]
        exact congrArg (Option.getD · 0) (Store.find_insert_other _ _ _ _ (by omega))

theorem recordDescr_grows : BlocksGrow s (recordDescr side s) := by
  unfold recordDescr
  split
  · exact .refl
  next d _ =>
    refine foldl_kept (P := fun x => BlocksGrow s x) (fun t l ht => ?_) .refl
    refine ite_kept (P := fun x => BlocksGrow s x) ht ?_
    cases hblock : recordBlock side l 2 l 1 (descrPayload d) false t with
    | none => exact ht
    | some u =>
      obtain ⟨hblocks, hvariant, henc, hidentities, hcopies⟩ := ht.trans (recordBlock_grows hblock)
      exact ⟨hblocks, hvariant, henc, hidentities, hcopies⟩

/-! ### FIRST_RECORDING -/

/-- A Disc ID drawn for a disc that has neither one nor a Disc Identity. -/
def discNamed (s : State) : State :=
  if s.disc.identities = 0 && s.disc.id = 0 then
    withFree (fun i t => t |> setDisc { t.disc with id := i % 2 ^ 64 } |> fset64 FMT.page FMT.DISC_ID_LO FMT.DISC_ID_HI (i % 2 ^ 64)) s
  else s

/-- The Disc Identities and the descriptor on the sides named. -/
def sidesRecorded (sides : List Nat) (s : State) : State := sides.foldl (fun t d => recordDescr d t) (sides.foldl (fun t d => recordIdentity d t) s)

/-- The sides with a head in service. -/
def servedSides (s : State) : List Nat := [0, 1].filter fun d => inService d s

theorem firstRecords_eq : firstRecords s = fset FMT.page FMT.STATUS_BLANK 0 (if s.disc.identities = 0 then
      (checkpoint ((servedSides s).filter fun d => !bit s.disc.identities d) 0 (sidesRecorded (servedSides s) (discNamed s))).getD
        (sidesRecorded (servedSides s) (discNamed s))
    else sidesRecorded (servedSides s) (discNamed s)) := by
  unfold firstRecords
  rfl

/-- A draw of the Disc ID leaves what the recordings go by. -/
structure SameMarks (s t : State) : Prop where
  blocks : t.disc.blocks = s.disc.blocks
  variant : t.disc.variant = s.disc.variant
  enc : t.disc.enc = s.disc.enc
  used : t.disc.dczUsed = s.disc.dczUsed
  evq : t.evq = s.evq

theorem sameMarks_discNamed : SameMarks s (discNamed s) := by
  unfold discNamed
  split
  · exact ⟨rfl, rfl, rfl, rfl, rfl⟩
  · exact ⟨rfl, rfl, rfl, rfl, rfl⟩

/-- What the Disc Identities of several sides leave. -/
theorem identities_recorded (sides : List Nat) (hnodup : sides.Nodup) :
    s.disc.blocks <+: (sides.foldl (fun t d => recordIdentity d t) s).disc.blocks ∧ (sides.foldl (fun t d => recordIdentity d t) s).disc.enc = s.disc.enc ∧
      (∀ d, bit s.disc.identities d = true → bit (sides.foldl (fun t d => recordIdentity d t) s).disc.identities d = true) ∧
      ∀ d ∈ sides, dczLeft d s = true → bit (sides.foldl (fun t d => recordIdentity d t) s).disc.identities d = true := by
  induction sides generalizing s with
  | nil => exact ⟨List.prefix_refl _, rfl, fun _ h => h, fun _ h => absurd h (List.not_mem_nil)⟩
  | cons side sides ih =>
    obtain ⟨hnotin, hrest⟩ := List.nodup_cons.1 hnodup
    have hfirst : IdentityRecorded side s (recordIdentity side s) := identityRecorded_recordIdentity
    obtain ⟨hblocks, henc, hkept, hown⟩ := ih (s := recordIdentity side s) hrest
    refine ⟨hfirst.blocks.trans hblocks, henc.trans hfirst.enc, fun d hd => hkept d (hfirst.kept d hd), fun d hd hleft => ?_⟩
    rcases List.mem_cons.1 hd with rfl | hlater
    · exact hkept d (hfirst.own hleft)
    · exact hown d hlater ((hfirst.left d fun e => hnotin (e ▸ hlater)).trans hleft)

theorem servedSides_nodup : (servedSides s).Nodup := List.Nodup.filter _ (by decide)

/-- What recordings on the sides in service leave: blocks that follow, and a Disc Identity wherever a slot was left for it. -/
structure SidesRecorded (s t : State) : Prop where
  blocks : s.disc.blocks <+: t.disc.blocks
  enc : t.disc.enc = s.disc.enc
  identities : ∀ d ∈ servedSides s, dczLeft d s = true → bit t.disc.identities d = true
  evq : s.evq <+: t.evq

theorem SidesRecorded.grow (h : SidesRecorded s t) (k : BlocksGrow t u) (hevq : t.evq <+: u.evq) : SidesRecorded s u :=
  ⟨h.blocks.trans k.blocks, k.enc.trans h.enc, fun d hd hleft => by rw [k.identities]; exact h.identities d hd hleft, h.evq.trans hevq⟩

theorem sidesRecorded_served : SidesRecorded s (sidesRecorded (servedSides s) (discNamed s)) := by
  obtain ⟨hblocks, hvariant, henc, hused, hevq⟩ := sameMarks_discNamed (s := s)
  obtain ⟨hgrown, hsame, -, hidentities⟩ := identities_recorded (s := discNamed s) (servedSides s) servedSides_nodup
  have hleft : ∀ d, dczLeft d (discNamed s) = dczLeft d s := fun d => dczLeft_congr hvariant fun l _ => by rw [hused]
  have hidentified : SidesRecorded s ((servedSides s).foldl (fun t d => recordIdentity d t) (discNamed s)) :=
    ⟨hblocks ▸ hgrown, hsame.trans henc, fun d hd hfree => hidentities d hd ((hleft d).trans hfree), by
      rw [(foldl_kept (P := fun x => Kept State.evq (discNamed s) x) (fun _ _ hk => recordIdentity_kept (fun _ => rfl) hk) (.refl _)).view, hevq]⟩
  refine hidentified.grow (foldl_kept (P := fun x => BlocksGrow _ x) (fun _ _ hk => hk.trans recordDescr_grows) .refl) ?_
  rw [sidesRecorded, (foldl_kept (P := fun x => Kept State.evq _ x) (fun _ _ hk => recordDescr_kept (fun _ => rfl) hk) (.refl _)).view]

theorem firstRecords_recorded : SidesRecorded s (firstRecords s) := by
  have hblank : ∀ t, SidesRecorded s t → SidesRecorded s (fset FMT.page FMT.STATUS_BLANK 0 t) := fun t ht => ht.grow (.of_disc rfl) (List.prefix_refl _)
  rw [firstRecords_eq]
  refine hblank _ (ite_kept (P := fun x => SidesRecorded s x) ?_ sidesRecorded_served)
  cases hcheck : checkpoint ((servedSides s).filter fun d => !bit s.disc.identities d) 0 (sidesRecorded (servedSides s) (discNamed s)) with
  | none => exact sidesRecorded_served
  | some t => exact sidesRecorded_served.grow (checkpoint_grows hcheck) (checkpoint_evq hcheck)

theorem fget_blank_firstRecords : fget FMT.page FMT.STATUS_BLANK (firstRecords s) = 0 := by
  rw [firstRecords_eq]
  exact fget_fset_same ..

theorem firstRecords_vault : (firstRecords s).vault = s.vault := (firstRecords_kept (m := State.vault) (fun _ => rfl) (.refl s)).view

/-! ### Writes denied (R511) -/

theorem stopSeal_blocks {tag : Nat} {c : Cmd} : (stopSeal tag c s).disc.blocks = s.disc.blocks := by
  unfold stopSeal
  exact (modCmd_kept (m := fun x => x.disc.blocks) (fun _ => rfl) (.refl _)).view

/-- A command stopped leaves the blocks: of the disc a stopped SEAL clears a waiting side alone. -/
theorem stopCmd_blocks {tag code : Nat} : (stopCmd tag code s).disc.blocks = s.disc.blocks := by
  unfold stopCmd
  split
  · rfl
  split
  · rfl
  extract_lets _ _ stopped offloaded _ left
  have hstopped : Kept (fun x : State => x.disc.blocks) s stopped := setCl_kept (fun _ => rfl) (modCmd_kept (fun _ => rfl) (.refl s))
  have hoffloaded : Kept (fun x : State => x.disc.blocks) s offloaded := by
    unfold offloaded
    split
    · split
      · exact jobAbort_kept (fun _ => rfl) hstopped
      · exact hstopped
    · exact hstopped
  have hleft : Kept (fun x : State => x.disc.blocks) s left :=
    ite_kept (P := fun x => Kept (fun x : State => x.disc.blocks) s x) (fset_kept (fun _ => rfl) (setCl_kept (fun _ => rfl) hoffloaded)) hoffloaded
  clear_value stopped left
  split
  · exact (foldl_kept (P := fun x => Kept (fun x : State => x.disc.blocks) s x) (fun _ _ hk => stopReq_kept (fun _ => rfl) hk) hstopped).view
  split
  · exact stopSeal_blocks.trans hstopped.view
  split
  · exact (endTest_kept (fun _ => rfl) hstopped).view
  · exact (modCmd_kept (m := fun x : State => x.disc.blocks) (fun _ => rfl) hleft).view

theorem denyWrites_blocks : (denyWrites s).disc.blocks = s.disc.blocks :=
  foldl_kept (P := fun x : State => x.disc.blocks = s.disc.blocks) (fun _ _ hk => ite_kept (P := fun x : State => x.disc.blocks = s.disc.blocks) (stopCmd_blocks.trans hk) hk) rfl

/-! ### The clauses -/

/-- The disc wants its first recording. -/
theorem exec_firstRecording (hstate : fget FMT.page FMT.STATUS_STATE s = 2) (hlegacy : legacyDisc s = false) (hlacks : unidentified s = true) :
    exec .firstRecording s = .next (if s.vault.descr.isSome then firstRecords s else if s.disc.userWritten then s
      else match decideDescr s with
        | some t => firstRecords t
        | none => denyWrites s) :=
  congrArg Host.Outcome.next (if_neg (by simp [hstate, hlegacy, hlacks]))

theorem firstRecording_idle (hidle : fget FMT.page FMT.STATUS_STATE s ≠ 2 ∨ legacyDisc s = true ∨ unidentified s = false) :
    Completes .firstRecording s fun t => t = s :=
  ⟨s, congrArg Host.Outcome.next (if_pos (by simpa [or_assoc] using hidle)), rfl⟩

theorem firstRecording_withoutDescr (hstate : fget FMT.page FMT.STATUS_STATE s = 2) (hlegacy : legacyDisc s = false) (hlacks : unidentified s = true)
    (hdescr : s.vault.descr = none) (hwritten : s.disc.userWritten = true) : Completes .firstRecording s fun t => t = s :=
  ⟨s, (exec_firstRecording hstate hlegacy hlacks).trans (by simp [hdescr, hwritten]), rfl⟩

theorem firstRecording_completes (hstate : fget FMT.page FMT.STATUS_STATE s = 2) (hlegacy : legacyDisc s = false) (hlacks : unidentified s = true)
    (hdescr : s.vault.descr.isSome = true) : Completes .firstRecording s fun t =>
      fget FMT.page FMT.STATUS_BLANK t = 0 ∧ t.vault = s.vault ∧ (∃ bs, t.disc.blocks = s.disc.blocks ++ bs) ∧
      (∀ d < 2, inService d s = true → dczLeft d s = true → bit t.disc.identities d = true) := by
  obtain ⟨⟨bs, hblocks⟩, -, hidentities, -⟩ := firstRecords_recorded (s := s)
  refine ⟨firstRecords s, (exec_firstRecording hstate hlegacy hlacks).trans (by rw [if_pos hdescr]), fget_blank_firstRecords, firstRecords_vault, ⟨bs, hblocks.symm⟩, ?_⟩
  intro d hd hserved hleft
  refine hidentities d (List.mem_filter.2 ⟨?_, hserved⟩) hleft
  have : d = 0 ∨ d = 1 := by omega
  simpa using this

/-- The descriptor of a plaintext disc. -/
def plainDescr (s : State) : Descr := ⟨0, List.replicate 16 0, List.replicate 72 0, if ownerState s = 0 then List.replicate 64 0 else ownerHash s, 0⟩

theorem decideDescr_plain (hplain : newDiscState s = 0) : decideDescr s = some (adoptDescr (plainDescr s) s) := if_pos hplain

/-- Under a plaintext descriptor nothing is enforced (R514). -/
theorem keyDecision_plain {d : Descr} (hdescr : s.vault.descr = some d) (hplain : d.state = 0) : keyDecision s = enforce false s := by
  unfold keyDecision
  split
  next hnone => cases hdescr.symm.trans hnone
  next d' hd' =>
    obtain rfl : d = d' := Option.some.inj (hdescr.symm.trans hd')
    exact if_pos hplain

/-- A plaintext descriptor adopted: it governs, event 0x600A alone is recorded, and nothing is enforced. -/
theorem adoptDescr_plain : (adoptDescr (plainDescr s) s).vault.descr = some (plainDescr s) ∧ (adoptDescr (plainDescr s) s).disc.enc = some 0 ∧
    (adoptDescr (plainDescr s) s).evq = s.evq ++ [⟨0x600A, srcVault, 0xFF, 0, 0, false⟩] := by
  let shown := emit 0x600A srcVault 0xFF 0 (ofLe ((plainDescr s).wrapId.take 4)) (showDescr (setDisc { s.disc with enc := some 0 }
    (setVault { s.vault with descr := some (plainDescr s) } s)))
  have hgoverns : shown.vault.descr = some (plainDescr s) :=
    congrArg VaultSt.descr (emit_kept (m := State.vault) (fun _ => rfl) (showDescr_kept (fun _ => rfl) (.refl _))).view
  have hdecided : adoptDescr (plainDescr s) s = enforce false shown := keyDecision_plain hgoverns rfl
  have hkept : ∀ {α : Type} {m : State → α}, (∀ u, m u = m { u with regs := [] }) → m (enforce false shown) = m shown := fun hm => (enforce_kept hm (.refl _)).view
  rw [hdecided]
  refine ⟨(congrArg VaultSt.descr (hkept (m := State.vault) fun _ => rfl)).trans hgoverns, ?_, ?_⟩
  · rw [hkept (m := State.disc) fun _ => rfl]
    exact congrArg DiscSt.enc (emit_kept (m := State.disc) (fun _ => rfl) (showDescr_kept (fun _ => rfl) (.refl _))).view
  · rw [hkept (m := State.evq) fun _ => rfl, emit_evq, (showDescr_kept (m := State.evq) (fun _ => rfl) (.refl _)).view]
    rfl

theorem firstRecording_plain (hstate : fget FMT.page FMT.STATUS_STATE s = 2) (hlegacy : legacyDisc s = false) (hlacks : unidentified s = true)
    (hdescr : s.vault.descr = none) (hwritten : s.disc.userWritten = false) (hplain : newDiscState s = 0) : Completes .firstRecording s fun t =>
      fget FMT.page FMT.STATUS_BLANK t = 0 ∧ t.vault.descr.map Descr.state = some 0 ∧ t.disc.enc = some 0 ∧
      ∃ e later, t.evq = s.evq ++ e :: later ∧ e.code = 0x600A ∧ e.p1 = 0 := by
  obtain ⟨hgoverns, henc, hevent⟩ := adoptDescr_plain (s := s)
  obtain ⟨-, hsame, -, hevq⟩ := firstRecords_recorded (s := adoptDescr (plainDescr s) s)
  obtain ⟨later, hlater⟩ := exists_later (hevent ▸ hevq)
  refine ⟨firstRecords (adoptDescr (plainDescr s) s), (exec_firstRecording hstate hlegacy hlacks).trans (by simp [hdescr, hwritten, decideDescr_plain hplain]),
    fget_blank_firstRecords, ?_, hsame.trans henc, _, later, hlater, rfl, rfl⟩
  rw [firstRecords_vault, hgoverns]
  rfl

theorem firstRecording_denied (hstate : fget FMT.page FMT.STATUS_STATE s = 2) (hlegacy : legacyDisc s = false) (hlacks : unidentified s = true)
    (hdescr : s.vault.descr = none) (hwritten : s.disc.userWritten = false) (hsecret : newDiscState s = 1)
    (hwrap : s.vault.wraps.find? (fun w => w.1 = newDiscWrap s) = none) :
    Completes .firstRecording s fun t => t.disc.blocks = s.disc.blocks ∧ t.vault = s.vault := by
  have hnone : decideDescr s = none := by
    unfold decideDescr
    simp only [hsecret, hwrap]
    rfl
  exact ⟨denyWrites s, (exec_firstRecording hstate hlegacy hlacks).trans (by simp [hdescr, hwritten, hnone]), denyWrites_blocks,
    (denyWrites_kept (m := State.vault) (fun _ => rfl) (.refl s)).view⟩

end Sys2Proof.Machine
end

section
/-!
PROOFS. A side sealed (R68, R69, R352 to R355, R359).
-/
namespace Sys2Proof.Machine

variable {s t u : State} {side tag code steps k v : Nat} {c : Cmd} {forSeal : Bool} {vs : List Bool}

/-! ### A side ends -/

theorem sideEnds_disc : (sideEnds tag side code s).disc = { s.disc with sealWait := clrBit s.disc.sealWait side } :=
  (modCmd_kept (m := State.disc) (fun _ => rfl) (showCopies_kept (fun _ => rfl) (.refl _))).view

theorem otherPages_sideEnds : otherPages [FMT.page] s (sideEnds tag side code s) := by
  have hset : otherPages [FMT.page] s (setDisc { s.disc with sealWait := clrBit s.disc.sealWait side } s) := otherPages.refl.congr rfl rfl
  exact otherPages.modCmd (hset.trans otherPages_showCopies)

theorem sealState_otherPages (h : otherPages [FMT.page] s t) : sealState side t = sealState side s := h _ (by decide) _ (by split <;> decide)

theorem sealState_sideEnds : sealState side (sideEnds tag k code s) = sealState side s := sealState_otherPages otherPages_sideEnds

theorem sealWait_sideEnds : bit (sideEnds tag side code s).disc.sealWait side = false := by
  rw [sideEnds_disc]
  exact bit_clrBit_same _ _

theorem find_sideEnds (hfind : s.cl.cmds.find tag = some c) : (sideEnds tag side code s).cl.cmds.find tag =
    some { c with sides := c.sides.insert side (2, sealCopies side s), aux := c.aux + sealCopies side s * 16 ^ side,
                  outcomes := if code = 0 then c.outcomes else c.outcomes ++ [code] } := by
  have hcl : (showCopies side (setDisc { s.disc with sealWait := clrBit s.disc.sealWait side } s)).cl = s.cl :=
    (showCopies_kept (m := State.cl) (fun _ => rfl) (.refl _)).view
  unfold sideEnds
  dsimp only
  rw [find_modCmd_same, hcl, hfind]
  rfl

/-! ### SEAL_x (R359) -/

theorem sealState_setSeal (hv : v < 4) : sealState side (setSeal side v s) = v := by
  have hset : ∀ f g : Fld, f.inPage → g.inPage → f.place ≠ g.place → f.place ≠ hdrIntStatus.place → 2 ≤ f.width →
      ∀ old, fget ENC.page f (if old = v then fset FMT.page g v (fset ENC.page f v s) else raise FMT.page FMT.iSEAL_CHANGE (fset FMT.page g v (fset ENC.page f v s))) = v := by
    intro f g hf hg hne hint hw old
    have hvalue : fget ENC.page f (fset FMT.page g v (fset ENC.page f v s)) = v :=
      (fget_fset_place hf hg hne).trans (fget_fset_lt (Nat.lt_of_lt_of_le hv (Nat.pow_le_pow_right (n := 2) (by decide) hw)))
    exact ite_kept (P := fun u => fget ENC.page f u = v) hvalue ((fget_raise_place hf hint).trans hvalue)
  unfold sealState setSeal
  dsimp only
  split
  · exact hset ENC.STATUS_SEAL_0 FMT.SEAL_SEAL_0 (by decide) (by decide) (by decide) (by decide) (by decide) _
  · exact hset ENC.STATUS_SEAL_1 FMT.SEAL_SEAL_1 (by decide) (by decide) (by decide) (by decide) (by decide) _

/-- What SEAL_x, the event and the end of the side leave of a side once its last step is taken. -/
structure SideShown (side v : Nat) (s t : State) : Prop where
  state : sealState side t = v
  wait : bit t.disc.sealWait side = false
  copies : t.disc.sealCopies = s.disc.sealCopies
  intents : t.disc.intents = s.disc.intents
  evq : s.evq <+: t.evq

theorem sideShown_sideEnds (hstate : sealState side t = v) (hdisc : t.disc = s.disc) (hevq : s.evq <+: t.evq) : SideShown side v s (sideEnds tag side code t) := by
  refine ⟨sealState_sideEnds.trans hstate, sealWait_sideEnds, ?_, ?_, ?_⟩
  · rw [sideEnds_disc, hdisc]
  · rw [sideEnds_disc, hdisc]
  · rw [(sideEnds_kept (m := State.evq) (fun _ => rfl) (.refl t)).view]
    exact hevq

theorem setSeal_disc : (setSeal side v s).disc = s.disc := (setSeal_kept (m := State.disc) (fun _ => rfl) (.refl s)).view

theorem setSeal_evq : (setSeal side v s).evq = s.evq := (setSeal_kept (m := State.evq) (fun _ => rfl) (.refl s)).view

/-- A side left mid-seal. -/
theorem sideShown_incomplete : SideShown side 3 s (sideEnds tag side code (setSeal side 3 s)) :=
  sideShown_sideEnds (sealState_setSeal (by decide)) setSeal_disc (by rw [setSeal_evq])

/-- The marks of a side sealed: SEAL_x, the interrupt and event 0x410C. -/
def sealedShown (side : Nat) (s : State) : State :=
  s |> setSeal side 2 |> raise ENC.page ENC.iSEAL_DONE |> emit 0x410C (srcChan side) side (sealCopies side s) (s.disc.dczSeq - 1)

theorem sideShown_sealed : SideShown side 2 s (sideEnds tag side 0 (sealedShown side s)) := by
  refine sideShown_sideEnds ?_ ((raise_kept (m := State.disc) (fun _ => rfl) (.refl _)).view.trans setSeal_disc) ?_
  · have hplace : ∀ f : Fld, f.inPage → f.place ≠ hdrIntStatus.place → fget ENC.page f (sealedShown side s) = fget ENC.page f (setSeal side 2 s) :=
      fun f hf hint => (fget_emit ..).trans (fget_raise_place hf hint)
    refine (hplace _ ?_ ?_).trans (sealState_setSeal (by decide))
    · split <;> decide
    · split <;> decide
  · unfold sealedShown
    rw [emit_evq, raise_evq, setSeal_evq]
    exact List.prefix_append _ _

theorem hasInt_sealed : hasInt ENC.page ENC.iSEAL_DONE (sideEnds tag side 0 (sealedShown side s)) :=
  (hasInt_congr (otherPages_sideEnds _ (by decide) _ (by decide))).2 ((hasInt_congr (fget_emit ..)).2 (hasInt_raise (by decide)))

/-! ### Copies and the done entry (R353) -/

/-- The entry recorded is the one named, but for its sequence number. -/
theorem recordIntent_entry {i : Intent} (h : recordIntent i forSeal s = some t) : ∃ seq, t.disc.intents = s.disc.intents ++ [{ i with seq := seq }] := by
  unfold recordIntent at h
  obtain ⟨u, hblock, rfl⟩ := Option.map_eq_some_iff.1 h
  obtain ⟨l, b, -, hdisc⟩ := recordPart_disc hblock
  have hintents : u.disc.intents = s.disc.intents := by rw [hdisc]; rfl
  have hentry : ∀ x, (∃ seq, x = { i with seq := seq }) → ∃ seq, u.disc.intents ++ [x] = s.disc.intents ++ [{ i with seq := seq }] := by
    rintro _ ⟨seq, rfl⟩
    exact ⟨seq, by rw [hintents]⟩
  exact hentry _ (ite_kept (P := fun x => ∃ seq, x = { i with seq := seq }) ⟨_, rfl⟩ ⟨_, rfl⟩)

theorem sealDone_recordIntent (h : recordIntent ⟨1, 2, side, 0xFF, 0, 0, 0, 0⟩ forSeal s = some t) : sealDone side t = true := by
  obtain ⟨seq, hintents⟩ := recordIntent_entry h
  simp [sealDone, hintents]

theorem sealCopies_congr (h : t.disc.sealCopies = s.disc.sealCopies) : sealCopies side t = sealCopies side s := by
  unfold sealCopies
  rw [h]

theorem sealDone_congr (h : t.disc.intents = s.disc.intents) : sealDone side t = sealDone side s := by
  unfold sealDone
  rw [h]

/-- What the last steps of a seal leave: the side sealed with its copies and its done entry, or mid-seal (R353, R354). -/
structure SealFinished (side steps : Nat) (s t : State) : Prop where
  state : sealState side t = 2 ∨ sealState side t = 3
  short : steps < 6 → sealState side t = 3
  sealed : sealState side t = 2 → 0 < sealCopies side t ∧ sealDone side t = true ∧ hasInt ENC.page ENC.iSEAL_DONE t
  evq : s.evq <+: t.evq
  wait : bit t.disc.sealWait side = false

theorem SideShown.incomplete (h : SideShown side 3 s t) : SealFinished side steps s t :=
  ⟨.inr h.state, fun _ => h.state, fun h2 => absurd (h2.symm.trans h.state) (by decide), h.evq, h.wait⟩

theorem sealFinished_sealFinish : SealFinished side steps s (sealFinish tag side steps vs s) := by
  unfold sealFinish
  extract_lets p run
  have hevents : run.evq = s.evq := (sealLayersRun_kept (m := State.evq) (fun _ => rfl) (.refl s)).view
  have hshort : SealFinished side steps s (sideEnds tag side 0x51 (setSeal side 3 run)) := by
    have h : SealFinished side steps run (sideEnds tag side 0x51 (setSeal side 3 run)) := sideShown_incomplete.incomplete
    exact ⟨h.state, h.short, h.sealed, hevents ▸ h.evq, h.wait⟩
  clear_value run
  split
  · exact hshort
  next hlong =>
    have hcopies : 6 ≤ steps ∧ 0 < sealCopies side run := by simpa [Nat.pos_iff_ne_zero] using hlong
    split
    · exact hshort
    next u hdone =>
      have hentry : sealDone side u = true ∧ u.disc.sealCopies = run.disc.sealCopies ∧ u.evq = run.evq := by
        cases hbefore : sealDone side run with
        | true =>
          rw [if_pos hbefore] at hdone
          cases hdone
          exact ⟨hbefore, rfl, rfl⟩
        | false =>
          rw [if_neg (by simp [hbefore])] at hdone
          exact ⟨sealDone_recordIntent hdone, (recordIntent_grows hdone).sealCopies, (recordIntent_kept (m := State.evq) (fun _ => rfl) (.refl run) u hdone).view⟩
      obtain ⟨hdoneU, hcopiesU, hevqU⟩ := hentry
      have hshown : SideShown side 2 u (sideEnds tag side 0 (sealedShown side u)) := sideShown_sealed
      have hsealed : SealFinished side steps s (sideEnds tag side 0 (sealedShown side u)) :=
        ⟨.inl hshown.state, fun h => absurd h (Nat.not_lt.2 hcopies.1), fun _ => ⟨by rw [sealCopies_congr hshown.copies, sealCopies_congr hcopiesU]; exact hcopies.2,
          by rw [sealDone_congr hshown.intents, hdoneU], hasInt_sealed⟩, by rw [← hevents, ← hevqU]; exact hshown.evq, hshown.wait⟩
      exact hsealed

/-! ### SEAL_RUN (R353) -/

/-- The SEAL that a side belongs to is a command that names the side at its stage. -/
theorem sealOf_some (h : sealOf side s = some (tag, k)) : ∃ c, s.cl.cmds.find tag = some c := by
  obtain ⟨x, -, hx⟩ := List.exists_of_findSome?_eq_some h
  split at hx
  next c hfind =>
    split at hx
    · split at hx
      · split at hx
        · cases hx
          exact ⟨c, hfind⟩
        · cases hx
      · cases hx
    · cases hx
  · cases hx

theorem recordDefects_evq {layer : Nat} (h : recordDefects side layer forSeal s = some t) : s.evq <+: t.evq := by
  obtain ⟨u, hparts, rfl⟩ := Option.map_eq_some_iff.1 h
  rw [← (recordParts_kept (m := State.evq) (fun _ => rfl) (.refl s) u hparts).view]
  exact List.prefix_append _ _

/-- The flush before a seal adds the events of the Defect Lists alone (R69). -/
theorem sealFlush_evq : s.evq <+: (sealFlush side s).evq := by
  unfold sealFlush
  extract_lets ls flushed
  have hflushed : s.evq <+: flushed.evq := by
    refine foldl_evq_prefix (fun t l => ?_) s
    cases hdefects : recordDefects side l true t with
    | none => exact List.prefix_refl _
    | some u => exact recordDefects_evq hdefects
  rwa [(KeptO.getD (recordIntent_kept (m := State.evq) (fun _ => rfl) (.refl flushed)) (.refl flushed)).view]

variable {d : Fin 2} {copies : List Bool} {n : Fin 7}

theorem sealRun_idle (hnone : sealOf d s = none) : Completes (.sealRun d copies n) s fun t => t = s := by
  change ∃ t, execSealRun d copies n s = .next t ∧ _
  simp [execSealRun, hnone]

theorem sealRun_outOfService (hof : sealOf d s = some (tag, k)) (hk : k = 0) (hout : inService d s = false) : Completes (.sealRun d copies n) s fun t =>
    sealState d t = sealState d s ∧ bit t.disc.sealWait d = false ∧
      ((t.cl.cmds.find tag).map (fun c => (c.headOos, (c.sides.find d).map Prod.fst))) = some (true, some 2) := by
  subst hk
  obtain ⟨c, hfind⟩ := sealOf_some hof
  have hrun : exec (.sealRun d copies n) s = .next (sideEnds tag d 0x11 (modCmd tag (fun c => { c with headOos := true }) s)) := by
    change execSealRun d copies n s = _
    simp [execSealRun, hof, hout]
  have hmarked : (modCmd tag (fun c => { c with headOos := true }) s).cl.cmds.find tag = some { c with headOos := true } := by
    rw [find_modCmd_same, hfind]
    rfl
  refine ⟨_, hrun, sealState_sideEnds.trans (sealState_otherPages otherPages.refl.modCmd), sealWait_sideEnds, ?_⟩
  rw [find_sideEnds hmarked]
  simp

theorem sealRun_notReady (hof : sealOf d s = some (tag, 0)) (hserved : inService d s = true) (hidle : n = 0 ∨ sealReady tag d s = false) :
    Completes (.sealRun d copies n) s fun t => t = s := by
  change ∃ t, execSealRun d copies n s = .next t ∧ _
  rcases hidle with rfl | hready
  · simp [execSealRun, hof, hserved]
  · simp [execSealRun, hof, hserved, hready]

theorem sealRun_noSlot (hof : sealOf d s = some (tag, 0)) (hserved : inService d s = true) (hn : n ≠ 0) (hready : sealReady tag d s = true)
    (hnone : recordIntent ⟨1, 1, d, 0xFF, 0, 0, 0, 0⟩ true s = none) : Completes (.sealRun d copies n) s fun t =>
      fget ENC.page hdrFault t = 0x02 ∧ sealState d t = sealState d s ∧ bit t.disc.sealWait d = false ∧ t.disc.intents = s.disc.intents := by
  have hrun : exec (.sealRun d copies n) s = .next (sideEnds tag d 0x11 (fault ENC.page 0x02 s)) := by
    change execSealRun d copies n s = _
    simp [execSealRun, hof, hserved, hready, hnone, Fin.val_eq_zero_iff, hn]
  refine ⟨_, hrun, (otherPages_sideEnds _ (by decide) _ (by decide)).trans (fget_fset_lt (by decide)), sealState_sideEnds.trans ?_, sealWait_sideEnds, ?_⟩
  · unfold sealState fault
    exact fget_fset_place (by split <;> decide) (by decide) (by split <;> decide)
  · rw [sideEnds_disc]
    rfl

/-- A seal begun: SEAL_x, event 0x410B and the stage of its side. -/
def sealBegun (tag side : Nat) (s : State) : State :=
  s |> setSeal side 1 |> emit 0x410B (srcChan side) side (s.disc.dczSeq - 1) 0 |> modCmd tag (fun c => { c with sides := c.sides.insert side (1, 0) })

theorem sealRun_completes (hof : sealOf d s = some (tag, 0)) (hserved : inService d s = true) (hn : n ≠ 0) (hready : sealReady tag d s = true)
    (hsome : recordIntent ⟨1, 1, d, 0xFF, 0, 0, 0, 0⟩ true s = some u) : Completes (.sealRun d copies n) s fun t =>
      (sealState d t = 2 ∨ sealState d t = 3) ∧ (n.val < 6 → sealState d t = 3) ∧
      (sealState d t = 2 → 0 < sealCopies d t ∧ sealDone d t = true ∧ hasInt ENC.page ENC.iSEAL_DONE t) ∧
      (∃ e later, t.evq = u.evq ++ e :: later ∧ e.code = 0x410B ∧ e.p0 = d.val) ∧ bit t.disc.sealWait d = false := by
  have hrun : exec (.sealRun d copies n) s = .next (sealFinish tag d n copies (if 2 ≤ n.val then sealFlush d (sealBegun tag d u) else sealBegun tag d u)) := by
    change execSealRun d copies n s = _
    simp [execSealRun, hof, hserved, hready, hsome, Fin.val_eq_zero_iff, hn, sealBegun]
  have hbegun : (sealBegun tag d u).evq = u.evq ++ [⟨0x410B, srcChan d, d, (u.disc.dczSeq - 1) % 2 ^ 32, 0, false⟩] := by
    unfold sealBegun
    rw [(modCmd_kept (m := State.evq) (fun _ => rfl) (.refl _)).view, emit_evq, setSeal_evq, Nat.mod_eq_of_lt (Nat.lt_trans d.isLt (by decide))]
    rfl
  obtain ⟨hstate, hshort, hsealed, hevq, hwait⟩ := sealFinished_sealFinish (tag := tag) (side := d) (steps := n) (vs := copies)
    (s := if 2 ≤ n.val then sealFlush d (sealBegun tag d u) else sealBegun tag d u)
  have hflushed : (sealBegun tag d u).evq <+: (if 2 ≤ n.val then sealFlush d (sealBegun tag d u) else sealBegun tag d u).evq :=
    ite_kept (P := fun x : State => (sealBegun tag d u).evq <+: x.evq) sealFlush_evq (List.prefix_refl _)
  obtain ⟨later, hlater⟩ := exists_later (hbegun ▸ hflushed.trans hevq)
  exact ⟨_, hrun, hstate, hshort, hsealed, ⟨_, later, hlater, rfl, rfl⟩, hwait⟩

end Sys2Proof.Machine
end

section
/-!
PROOFS. A stream context spilled and loaded (R436), and the obligation about first recordings, seals and contexts.
-/
namespace Sys2Proof.Machine

variable {s t u : State} {tag : BitVec 12} {fail : Bool} {ws : List Nat} {c : Cmd} {x y : Strm} {k j : Nat}

theorem streamSpill_idle (hwait : s.cl.ctxWait.head? ≠ some tag.toNat) : Completes (.streamSpill tag fail) s fun t => t = s := by
  change ∃ t, execStreamSpill tag fail s = .next t ∧ _
  unfold execStreamSpill
  dsimp only
  split
  next w _ _ hctx _ =>
    have hother : w ≠ tag.toNat := fun e => hwait (by rw [hctx, e]; rfl)
    exact ⟨s, if_pos hother, rfl⟩
  · exact ⟨s, rfl, rfl⟩

/-- The stream of the command that waits first gets the slot that is free. -/
def contextFilled (ws : List Nat) (i : Nat) (x : Strm) (s : State) : State :=
  s |> setCl { s.cl with ctxWait := ws, strms := s.cl.strms.insert i x } |> cnt STM.page STM.FILLS STM.kCNT_SAT |> showStreams

theorem contextFilled_cl {i : Nat} : (contextFilled ws i x s).cl = { s.cl with ctxWait := ws, strms := s.cl.strms.insert i x } :=
  (showStreams_kept (m := State.cl) (fun _ => rfl) (cnt_kept (fun _ => rfl) (.refl _))).view

/-- STREAM_SPILL for a command that waits first, with a stream of its own. -/
theorem exec_streamSpill (hctx : s.cl.ctxWait = tag.toNat :: ws) (hcmd : s.cl.cmds.find tag.toNat = some c) (hop : c.op ≠ 5)
    (hstrm : s.cl.strms.find c.stream = some x) : exec (.streamSpill tag fail) s = match freeSlot s, spillVictim s with
      | some k, _ => .next (contextFilled ws c.stream { x with slot := some k, used := c.n } s)
      | none, none => .next s
      | none, some (j, y) => if fail then .next (fault STM.page 0x01 s) else .next (s |> setCl { s.cl with ctxWait := ws } |> setStrm j { y with slot := none }
          |> setStrm c.stream { x with slot := y.slot, used := c.n } |> cnt STM.page STM.SPILLS STM.kCNT_SAT
          |> cnt STM.page STM.FILLS STM.kCNT_SAT |> raise STM.page STM.iSPILL |> showStreams |> emit 0x5005 srcHost c.req j c.stream) := by
  change execStreamSpill tag fail s = _
  unfold execStreamSpill
  simp only [hctx, hcmd, hstrm, hop, if_false, ne_eq, not_true_eq_false]
  rfl

theorem streamSpill_free (hctx : s.cl.ctxWait = tag.toNat :: ws) (hcmd : s.cl.cmds.find tag.toNat = some c) (hop : c.op ≠ 5)
    (hstrm : s.cl.strms.find c.stream = some x) (hfree : freeSlot s = some k) : Completes (.streamSpill tag fail) s fun t =>
      t.cl.ctxWait = ws ∧ t.cl.strms.find c.stream = some { x with slot := some k, used := c.n } ∧ sameBut [.regs, .cl] s t := by
  refine ⟨contextFilled ws c.stream { x with slot := some k, used := c.n } s, (exec_streamSpill hctx hcmd hop hstrm).trans (by simp only [hfree]), ?_, ?_, ?_⟩
  · rw [contextFilled_cl]
  · rw [contextFilled_cl]
    exact Store.find_insert_same ..
  · exact sameBut_of_kept (showStreams_kept (fun _ => rfl) (cnt_kept (fun _ => rfl) (setCl_kept (fun _ => rfl) (.refl s))))

/-- The context of a victim spilled and the one that waited loaded in its slot: the counters, the interrupt and event 0x5005. -/
def contextSpilled (ws : List Nat) (req i j : Nat) (x y : Strm) (s : State) : State :=
  s |> setCl { s.cl with ctxWait := ws, strms := (s.cl.strms.insert j y).insert i x } |> cnt STM.page STM.SPILLS STM.kCNT_SAT
    |> cnt STM.page STM.FILLS STM.kCNT_SAT |> raise STM.page STM.iSPILL |> showStreams |> emit 0x5005 srcHost req j i

theorem contextSpilled_kept {α : Type} {m : State → α} (hm : ∀ u, m u = m { u with regs := [], evq := [], out := [], msixPend := 0, cl := {} }) {req i : Nat} :
    Kept m s (contextSpilled ws req i j x y s) :=
  emit_kept (sub hm) (showStreams_kept (sub hm) (raise_kept (sub hm) (cnt_kept (sub hm) (cnt_kept (sub hm) (setCl_kept (sub hm) (.refl s))))))

theorem contextSpilled_cl {req i : Nat} : (contextSpilled ws req i j x y s).cl = { s.cl with ctxWait := ws, strms := (s.cl.strms.insert j y).insert i x } :=
  (emit_kept (m := State.cl) (fun _ => rfl) (showStreams_kept (fun _ => rfl) (raise_kept (fun _ => rfl) (cnt_kept (fun _ => rfl)
    (cnt_kept (fun _ => rfl) (.refl _)))))).view

theorem hasInt_contextSpilled {req i : Nat} : hasInt STM.page STM.iSPILL (contextSpilled ws req i j x y s) :=
  (hasInt_congr (fget_emit ..)).2 ((hasInt_fset (by decide) (by decide)).2 ((hasInt_fset (by decide) (by decide)).2 (hasInt_raise (by decide))))

theorem contextSpilled_evq {req i : Nat} : (contextSpilled ws req i j x y s).evq = s.evq ++ [⟨0x5005, srcHost, req % 2 ^ 32, j % 2 ^ 32, i % 2 ^ 32, false⟩] := by
  unfold contextSpilled
  rw [emit_evq, (showStreams_kept (m := State.evq) (fun _ => rfl) (.refl _)).view, raise_evq, cnt_evq, cnt_evq]
  rfl

theorem streamSpill_victim (hctx : s.cl.ctxWait = tag.toNat :: ws) (hcmd : s.cl.cmds.find tag.toNat = some c) (hop : c.op ≠ 5)
    (hstrm : s.cl.strms.find c.stream = some x) (hfull : freeSlot s = none) (hvictim : spillVictim s = some (j, y)) (hj : j ≠ c.stream) :
    Completes (.streamSpill tag false) s fun t => t.cl.ctxWait = ws ∧
      t.cl.strms.find c.stream = some { x with slot := y.slot, used := c.n } ∧ (t.cl.strms.find j).map Strm.slot = some none ∧ hasInt STM.page STM.iSPILL t ∧
      t.evq = s.evq ++ [⟨0x5005, srcHost, c.req % 2 ^ 32, j % 2 ^ 32, c.stream % 2 ^ 32, false⟩] ∧ sameBut [.regs, .evq, .out, .msixPend, .cl] s t := by
  have hrun : exec (.streamSpill tag false) s = .next (contextSpilled ws c.req c.stream j { x with slot := y.slot, used := c.n } { y with slot := none } s) := by
    refine (exec_streamSpill hctx hcmd hop hstrm).trans ?_
    simp only [hfull, hvictim]
    rfl
  refine ⟨_, hrun, ?_, ?_, ?_, hasInt_contextSpilled, contextSpilled_evq, sameBut_of_kept (contextSpilled_kept fun _ => rfl)⟩
  · rw [contextSpilled_cl]
  · rw [contextSpilled_cl]
    exact Store.find_insert_same ..
  · rw [contextSpilled_cl]
    change (Store.find ((s.cl.strms.insert j { y with slot := none }).insert c.stream _) j).map Strm.slot = _
    rw [Store.find_insert_other _ _ _ _ hj, Store.find_insert_same]
    rfl

theorem streamSpill_fails (hctx : s.cl.ctxWait = tag.toNat :: ws) (hcmd : s.cl.cmds.find tag.toNat = some c) (hop : c.op ≠ 5)
    (hstrm : s.cl.strms.find c.stream = some x) (hfull : freeSlot s = none) (hvictim : spillVictim s = some (j, y)) : Completes (.streamSpill tag true) s fun t =>
      fget STM.page hdrFault t = 0x01 ∧ sameBut [.regs] s t ∧ otherFields STM.page [hdrFault] s t := by
  have hrun : exec (.streamSpill tag true) s = .next (fault STM.page 0x01 s) := by
    refine (exec_streamSpill hctx hcmd hop hstrm).trans ?_
    simp only [hfull, hvictim, if_true]
  exact ⟨_, hrun, fget_fset_lt (by decide), rfl, otherFields_fset _ _ _ _⟩

/-- Settles O32: clause by clause, the first recording on a disc, a side sealed, and a stream context spilled and loaded. -/
theorem firstRecordingAndSeal : Obligations.FirstRecordingAndSeal := by
  unfold Obligations.FirstRecordingAndSeal
  intro s
  refine ⟨firstRecording_idle, firstRecording_withoutDescr, firstRecording_completes, firstRecording_plain, firstRecording_denied, fun d copies n h => sealRun_idle h,
    fun d copies n tag k hof hk hout => sealRun_outOfService hof hk hout, fun d copies n tag hof hserved hidle => sealRun_notReady hof hserved hidle,
    fun d copies n tag hof hserved hn hready hnone => sealRun_noSlot hof hserved hn hready hnone,
    fun d copies n tag u hof hserved hn hready hsome => sealRun_completes hof hserved hn hready hsome,
    fun tag fail hwait => streamSpill_idle hwait, fun tag fail ws c x k hctx hcmd hop hstrm hfree => streamSpill_free hctx hcmd hop hstrm hfree,
    fun tag ws c x j y hctx hcmd hop hstrm hfull hvictim hj => streamSpill_victim hctx hcmd hop hstrm hfull hvictim hj,
    fun tag ws c x j y hctx hcmd hop hstrm hfull hvictim => streamSpill_fails hctx hcmd hop hstrm hfull hvictim⟩

end Sys2Proof.Machine
end

section
/-!
PROOFS. A recording armed and relinked (R342, R344), the read boost and the enable of LPW (R334, R337).
-/
namespace Sys2Proof.Machine

variable {s t u : State} {head : Head} {p q v n : Nat} {f g : Fld} {b : Bool} {em : List Emission} {window offset seq : Nat}

/-! ### What shows a recording -/

/-- The fields that show whether a head records. -/
def writingKeys (h : Nat) : List Nat :=
  HTX.STATUS_WRITE_EN.key (HTX.page h) :: LPW.STATUS_WRITING.key (LPW.page h) :: ENC.STATUS_WRITING_L.key ENC.page :: ENC.STATUS_WRITING_U.key ENC.page ::
    CHC.STATUS_WRITING.key (CHC.page h) :: (List.range 10).map fun k => CHN.STATUS_WRITING.key (CHN.page h k)

/-- What shows a recording, but for the channels. -/
def writingMarks (h : Nat) (b : Bool) (s : State) : State :=
  s |> fsetB (HTX.page h) HTX.STATUS_WRITE_EN b |> fsetB (LPW.page h) LPW.STATUS_WRITING b
    |> fsetB ENC.page (if h = 0 then ENC.STATUS_WRITING_L else ENC.STATUS_WRITING_U) b |> fsetB (CHC.page h) CHC.STATUS_WRITING b

theorem fget_showWriting {h : Nat} (hchn : ∀ k < 10, g.key q ≠ CHN.STATUS_WRITING.key (CHN.page h k)) :
    fget q g (showWriting h b s) = fget q g (writingMarks h b s) :=
  foldl_range_same (m := fget q g) (F := fun t k => fsetB (CHN.page h k) CHN.STATUS_WRITING b t) fun t k hk => fget_fset_other t (b2n b) (hchn k hk)

theorem fget_showWriting_other {h : Nat} (hne : g.key q ∉ writingKeys h) : fget q g (showWriting h b s) = fget q g s := by
  simp only [writingKeys, List.mem_cons, List.mem_map, List.mem_range, not_or, not_exists, not_and] at hne
  obtain ⟨hhtx, hlpw, hencl, hencu, hchc, hchn⟩ := hne
  have henc : g.key q ≠ (if h = 0 then ENC.STATUS_WRITING_L else ENC.STATUS_WRITING_U).key ENC.page := by
    split
    · exact hencl
    · exact hencu
  rw [fget_showWriting fun k hk e => hchn k hk e.symm]
  unfold writingMarks fsetB
  rw [fget_fset_other _ _ hchc, fget_fset_other _ _ henc, fget_fset_other _ _ hlpw, fget_fset_other _ _ hhtx]

theorem recording_showWriting : recording head.n (showWriting head.n b s) = b := by
  have hchn : ∀ k < 10, LPW.STATUS_WRITING.key (LPW.page head.n) ≠ CHN.STATUS_WRITING.key (CHN.page head.n k) := by cases head <;> decide
  have henc : LPW.STATUS_WRITING.key (LPW.page head.n) ≠ (if head.n = 0 then ENC.STATUS_WRITING_L else ENC.STATUS_WRITING_U).key ENC.page := by cases head <;> decide
  have hchc : LPW.STATUS_WRITING.key (LPW.page head.n) ≠ CHC.STATUS_WRITING.key (CHC.page head.n) := by cases head <;> decide
  refine (fon_congr (fget_showWriting hchn)).trans ((fon_congr ?_).trans (fon_fsetB (s := fsetB (HTX.page head.n) HTX.STATUS_WRITE_EN b s) (by decide)))
  exact (fget_fset_other _ _ hchc).trans (fget_fset_other _ _ henc)

theorem writing_showWriting : writing head.n (showWriting head.n b s) = b := by
  have hpage : HTX.page head.n ∉ stopPages head.n := by cases head <;> decide
  unfold writing
  rw [fon_congr (otherPages_showWriting (HTX.page head.n) hpage HTX.STATUS_WRITE_EN (by decide)), fon_fsetB (by decide)]

/-! ### H falls (R269, R271) -/

theorem headH_dropH : headH head.n (dropH head.n s) = false := by
  have heng : ∀ k < 3, CHC.STATUS_H.key (CHC.page head.n) ≠ ENG.STATUS_H.key (ENG.page (4 * head.n + k)) := by cases head <;> decide
  have hchn : ∀ k < 10, CHC.STATUS_H.key (CHC.page head.n) ≠ CHN.STATUS_HOLDING.key (CHN.page head.n k) := by cases head <;> decide
  have hengines : ∀ u, fget (CHC.page head.n) CHC.STATUS_H (enginesH head.n false u) = fget (CHC.page head.n) CHC.STATUS_H u := fun u =>
    foldl_range_same (m := fget (CHC.page head.n) CHC.STATUS_H) fun t k hk => fget_fset_other t _ (heng k hk)
  have hholding : ∀ u, fget (CHC.page head.n) CHC.STATUS_H (showHolding head.n u) = fget (CHC.page head.n) CHC.STATUS_H u := fun u =>
    foldl_range_same (m := fget (CHC.page head.n) CHC.STATUS_H) fun t k hk => fget_fset_other t _ (hchn k hk)
  have hpost : ∀ u, fget (CHC.page head.n) CHC.STATUS_H
      ((List.range 8).foldl (fun t b => setChan head.n b { t.chan head.n b with post := postBits head.n b t } t) u) = fget (CHC.page head.n) CHC.STATUS_H u := fun u =>
    foldl_range_same (m := fget (CHC.page head.n) CHC.STATUS_H) fun _ _ _ => rfl
  unfold headH fon dropH
  rw [hholding, hpost, hengines, fget_fset_same]
  rfl

theorem headH_endDefects : headH head.n (endDefects head.n s) = false := by
  unfold endDefects
  extract_lets _ x
  clear_value x
  cases hH : headH head.n x with
  | true =>
    rw [if_pos rfl]
    exact (fon_congr (fget_raise_place (by decide) (by decide))).trans headH_dropH
  | false => rwa [if_neg (by simp)]

/-! ### Recording begins (R342) -/

theorem sendMsg_eight {h args : Nat} : sendMsg h 8 args false s = send (.htxMsg h 8 (s.link h).tag args)
    (setLink h { s.link h with msgs := (s.link h).msgs ++ [⟨8, args, (s.link h).tag, 1, false⟩], tag := ((s.link h).tag + 1) % 256 } s) := rfl

/-- A head prepared for its recording: a defect in force has ended, the arming is held, and the write stop's KILL has ended. -/
def armPrepared (h window offset seq : Nat) (s : State) : State :=
  s |> endDefects h |> setLink h { s.link h with arm := some (window, offset, seq), killSlots := false }
    |> fset (HTX.page h) HTX.STATUS_KILL 0 |> fset (LPW.page h) LPW.STATUS_KILL 0 |> fset (LPW.page h) LPW.STATUS_BOOST_ACT 0

/-- WRITE_ARM's argument (R100). -/
def armArgs (window offset seq : Nat) : Nat := window % 256 * 2 ^ 232 + offset % 2048 * 2 ^ 221 + seq % 256 * 2 ^ 212

/-- The record of a recording that begins. -/
def RecSt.begun (em : List Emission) (r : RecSt) : RecSt :=
  { r with emitting := em, recorded := true, boosting := false, suspended := none, suspRevs := 0 }

theorem armed_eq {h : Nat} : arm h em window offset seq s = showWriting h true (setRec h
    (((sendMsg h 8 (armArgs window offset seq) false (armPrepared h window offset seq s)).rec' h).begun em)
    (sendMsg h 8 (armArgs window offset seq) false (armPrepared h window offset seq s))) := rfl

theorem armPrepared_link {h : Nat} : (armPrepared h window offset seq s).link h = { s.link h with arm := some (window, offset, seq), killSlots := false } := by
  unfold armPrepared
  simp

/-- WRITE_ARM leaves the arming held. -/
theorem link_sendMsg_eight {h args : Nat} : ((sendMsg h 8 args false s).link h).arm = (s.link h).arm := by
  rw [sendMsg_eight]
  simp

/-- What a recording that begins leaves. -/
structure Armed (head : Head) (em : List Emission) (window offset seq : Nat) (s t : State) : Prop where
  emitting : (t.rec' head.n).emitting = em
  suspended : (t.rec' head.n).suspended = none
  held : (t.link head.n).arm = some (window, offset, seq)
  recording : recording head.n t = true
  writing : writing head.n t = true
  clear : headH head.n t = false
  out : t.out.getLast? = some (.htxMsg head.n 8 (s.link head.n).tag (window % 256 * 2 ^ 232 + offset % 2048 * 2 ^ 221 + seq % 256 * 2 ^ 212))
  frame : sameBut [.regs, .out, .msixPend, .links, .recs, .chans, .commons] s t

theorem armed_arm : Armed head em window offset seq s (arm head.n em window offset seq s) := by
  have hshown : ∀ {α : Type} {m : State → α}, (∀ u, m u = m { u with regs := [] }) → ∀ x, m (showWriting head.n true x) = m x := fun hm x => (showWriting_kept hm (.refl x)).view
  have hrecs : (arm head.n em window offset seq s).rec' head.n =
      ((sendMsg head.n 8 (armArgs window offset seq) false (armPrepared head.n window offset seq s)).rec' head.n).begun em := by
    rw [armed_eq, rec_eq_of_recs (hshown (m := State.recs) (fun _ => rfl) _), setRec_same]
  have hlinks : (arm head.n em window offset seq s).links = (sendMsg head.n 8 (armArgs window offset seq) false (armPrepared head.n window offset seq s)).links := by
    rw [armed_eq, hshown (m := State.links) (fun _ => rfl)]
    rfl
  have hH : CHC.STATUS_H.key (CHC.page head.n) ∉ writingKeys head.n := by cases head <;> decide
  refine ⟨by rw [hrecs]; rfl, by rw [hrecs]; rfl, ?_, recording_showWriting, writing_showWriting, ?_, ?_, sameBut_of_kept (arm_kept (fun _ => rfl) (.refl s))⟩
  · rw [State.link, hlinks]
    exact link_sendMsg_eight.trans (by rw [armPrepared_link])
  · rw [armed_eq]
    refine (fon_congr (fget_showWriting_other hH)).trans ((fon_congr ?_).trans (headH_endDefects (s := s)))
    have hhtx : CHC.STATUS_H.key (CHC.page head.n) ≠ HTX.STATUS_KILL.key (HTX.page head.n) := by cases head <;> decide
    have hlpw : CHC.STATUS_H.key (CHC.page head.n) ≠ LPW.STATUS_KILL.key (LPW.page head.n) := by cases head <;> decide
    have hact : CHC.STATUS_H.key (CHC.page head.n) ≠ LPW.STATUS_BOOST_ACT.key (LPW.page head.n) := by cases head <;> decide
    rw [sendMsg_eight]
    simp only [armPrepared, fget_setRec, fget_send, fget_setLink]
    rw [fget_fset_other _ _ hact, fget_fset_other _ _ hlpw, fget_fset_other _ _ hhtx, fget_setLink]
  · rw [armed_eq, hshown (m := State.out) (fun _ => rfl)]
    rw [sendMsg_eight, setRec_out, send_out, setLink_out, List.getLast?_concat, armPrepared_link]
    rfl

/-! ### RECORDING_ARM (R342) -/

variable {psas : List Nat} {e : Emission} {es : List Emission}

theorem recordingArm_nothing (hdla : legacyDisc s = false) (hnone : (psas.map psaCluster).filterMap (fun p => emissionAt p s) = []) :
    Completes (.recordingArm head psas window offset seq) s fun t => t = s := by
  refine ⟨s, ?_, rfl⟩
  change execRecordingArm head psas window offset seq s = _
  unfold execRecordingArm
  simp only [hdla, Bool.false_eq_true, if_false, hnone]

/-- RECORDING_ARM for clusters of one slot of the head's side, while the head does not record. -/
theorem exec_recordingArm (hdla : legacyDisc s = false) (hsome : (psas.map psaCluster).filterMap (fun p => emissionAt p s) = e :: es) (hside : psaSide e.psa = head.n)
    (hone : ∀ x ∈ es, psaSide x.psa = head.n ∧ psaLayer x.psa = psaLayer e.psa ∧ psaSlot x.psa = psaSlot e.psa) (hrec : recording head.n s = false)
    (hsusp : fon (LPW.page head.n) LPW.STATUS_SUSPENDED s = false) : exec (.recordingArm head psas window offset seq) s = .next (
      if capsWrite head.n s = false then fault (LPW.page head.n) 0x01 s
      else if stratValid head.n (stratTable head.n s) s = false then fault (LPW.page head.n) 0x03 s
      else if armReady head.n (psaLayer e.psa) (slotGroupAt (psaLayer e.psa) (psaSlot e.psa) 0) s then arm head.n (e :: es) window offset seq s else s) := by
  have hall : (es.all (fun x => psaSide x.psa == head.n && psaLayer x.psa == psaLayer e.psa && psaSlot x.psa == psaSlot e.psa) && psaSide e.psa == head.n) = true := by
    simpa [hside, and_assoc] using hone
  change execRecordingArm head psas window offset seq s = _
  unfold execRecordingArm
  simp only [hdla, Bool.false_eq_true, if_false, hsome, hall, hrec, hsusp, Bool.not_true, Bool.or_self]
  cases capsWrite head.n s with
  | false => rfl
  | true => cases stratValid head.n (stratTable head.n s) s with
    | false => rfl
    | true => cases armReady head.n (psaLayer e.psa) (slotGroupAt (psaLayer e.psa) (psaSlot e.psa) 0) s <;> rfl

/-- A front end that can record is among the arming conditions. -/
theorem capsWrite_of_armReady {layer : Nat} (h : armReady head.n layer n s = true) : capsWrite head.n s = true := by
  simp only [armReady, Bool.and_eq_true] at h
  obtain ⟨⟨⟨-, hcaps⟩, -⟩, -⟩ := h
  exact hcaps

theorem recordingArm_clauses (hdla : legacyDisc s = false) (hsome : (psas.map psaCluster).filterMap (fun p => emissionAt p s) = e :: es) (hside : psaSide e.psa = head.n)
    (hone : ∀ x ∈ es, psaSide x.psa = head.n ∧ psaLayer x.psa = psaLayer e.psa ∧ psaSlot x.psa = psaSlot e.psa) (hrec : recording head.n s = false)
    (hsusp : fon (LPW.page head.n) LPW.STATUS_SUSPENDED s = false) :
    (capsWrite head.n s = false → Completes (.recordingArm head psas window offset seq) s fun t => fget (LPW.page head.n) hdrFault t = 0x01 ∧ sameBut [.regs] s t ∧
      otherFields (LPW.page head.n) [hdrFault] s t) ∧
    (capsWrite head.n s = true → stratValid head.n (stratTable head.n s) s = false → Completes (.recordingArm head psas window offset seq) s fun t =>
      fget (LPW.page head.n) hdrFault t = 0x03 ∧ sameBut [.regs] s t ∧ otherFields (LPW.page head.n) [hdrFault] s t) ∧
    (capsWrite head.n s = true → stratValid head.n (stratTable head.n s) s = true →
      armReady head.n (psaLayer e.psa) (slotGroupAt (psaLayer e.psa) (psaSlot e.psa) 0) s = false →
      Completes (.recordingArm head psas window offset seq) s fun t => t = s) ∧
    (stratValid head.n (stratTable head.n s) s = true → armReady head.n (psaLayer e.psa) (slotGroupAt (psaLayer e.psa) (psaSlot e.psa) 0) s = true →
      Completes (.recordingArm head psas window offset seq) s fun t => (t.rec' head.n).emitting = e :: es ∧ (t.rec' head.n).suspended = none ∧
        (t.link head.n).arm = some (window, offset, seq) ∧ recording head.n t = true ∧ writing head.n t = true ∧ headH head.n t = false ∧
        t.out.getLast? = some (.htxMsg head.n 8 (s.link head.n).tag (window % 256 * 2 ^ 232 + offset % 2048 * 2 ^ 221 + seq % 256 * 2 ^ 212)) ∧
        sameBut [.regs, .out, .msixPend, .links, .recs, .chans, .commons] s t) := by
  have hrun := exec_recordingArm (window := window) (offset := offset) (seq := seq) hdla hsome hside hone hrec hsusp
  refine ⟨fun hcaps => ⟨fault (LPW.page head.n) 0x01 s, ?_, fget_fset_lt (by decide), rfl, otherFields_fset _ _ _ _⟩,
    fun hcaps htable => ⟨fault (LPW.page head.n) 0x03 s, ?_, fget_fset_lt (by decide), rfl, otherFields_fset _ _ _ _⟩,
    fun hcaps htable hready => ⟨s, ?_, rfl⟩, fun htable hready => ⟨arm head.n (e :: es) window offset seq s, ?_, ?_⟩⟩
  · simp [hrun, hcaps]
  · simp [hrun, hcaps, htable]
  · simp [hrun, hcaps, htable, hready]
  · simp [hrun, capsWrite_of_armReady hready, htable, hready]
  · have h : Armed head (e :: es) window offset seq s (arm head.n (e :: es) window offset seq s) := armed_arm
    exact ⟨h.emitting, h.suspended, h.held, h.recording, h.writing, h.clear, h.out, h.frame⟩

/-! ### RELINK (R344) -/

variable {ahead cause : Nat}

theorem relink_idle (hnone : (s.rec' head.n).suspended = none) : Completes (.relink head ahead window offset seq) s fun t => t = s := by
  refine ⟨s, ?_, rfl⟩
  change execRelink head ahead window offset seq s = _
  unfold execRelink
  simp only [hnone]

/-- The marks of a recording that goes on: SUSPENDED ends, with the interrupt, the count and event 0x4101. -/
def relinked (h slot revs : Nat) (s : State) : State :=
  s |> fset (LPW.page h) LPW.STATUS_SUSPENDED 0 |> fset ENC.page (if h = 0 then ENC.STATUS_SUSP_L else ENC.STATUS_SUSP_U) 0
    |> raise (LPW.page h) LPW.iRELINKED |> cnt (LPW.page h) LPW.RELINK_CNT LPW.kCNT_SAT |> emit 0x4101 (srcChan h) h slot revs

theorem relinked_kept {α : Type} {m : State → α} {h slot revs : Nat} (hm : ∀ u, m u = m { u with regs := [], evq := [], out := [], msixPend := 0 }) (hk : Kept m s t) :
    Kept m s (relinked h slot revs t) :=
  emit_kept (sub hm) (cnt_kept (sub hm) (raise_kept (sub hm) (fset_kept (sub hm) (fset_kept (sub hm) hk))))

/-- The fields that a relinked recording leaves alone. -/
theorem fget_relinked {slot revs : Nat} (hg : g.inPage) (hsusp : g.key q ≠ LPW.STATUS_SUSPENDED.key (LPW.page head.n))
    (henc : g.key q ≠ (if head.n = 0 then ENC.STATUS_SUSP_L else ENC.STATUS_SUSP_U).key ENC.page) (hint : g.place ≠ hdrIntStatus.place)
    (hcnt : g.place ≠ LPW.RELINK_CNT.place) (hsticky : g.place ≠ hdrSticky.place) : fget q g (relinked head.n slot revs s) = fget q g s := by
  unfold relinked
  rw [fget_emit, fget_cnt_place hg (by decide) hcnt hsticky, fget_raise_place hg hint, fget_fset_other _ _ henc, fget_fset_other _ _ hsusp]

theorem relinked_evq {h slot revs : Nat} : (relinked h slot revs s).evq = s.evq ++ [⟨0x4101, srcChan h, h % 2 ^ 32, slot % 2 ^ 32, revs % 2 ^ 32, false⟩] := by
  unfold relinked
  rw [emit_evq, cnt_evq, raise_evq]
  rfl

/-- A recording that is relinked is no longer suspended, and records as before. -/
theorem relinked_shows {slot revs : Nat} : recording head.n (relinked head.n slot revs s) = recording head.n s ∧
    writing head.n (relinked head.n slot revs s) = writing head.n s ∧ fget (LPW.page head.n) LPW.STATUS_SUSPENDED (relinked head.n slot revs s) = 0 ∧
    hasInt (LPW.page head.n) LPW.iRELINKED (relinked head.n slot revs s) := by
  have hencW : LPW.STATUS_WRITING.key (LPW.page head.n) ≠ (if head.n = 0 then ENC.STATUS_SUSP_L else ENC.STATUS_SUSP_U).key ENC.page := by cases head <;> decide
  have hencH : HTX.STATUS_WRITE_EN.key (HTX.page head.n) ≠ (if head.n = 0 then ENC.STATUS_SUSP_L else ENC.STATUS_SUSP_U).key ENC.page := by cases head <;> decide
  have hencS : LPW.STATUS_SUSPENDED.key (LPW.page head.n) ≠ (if head.n = 0 then ENC.STATUS_SUSP_L else ENC.STATUS_SUSP_U).key ENC.page := by cases head <;> decide
  have hhtx : HTX.STATUS_WRITE_EN.key (HTX.page head.n) ≠ LPW.STATUS_SUSPENDED.key (LPW.page head.n) := by cases head <;> decide
  have hlpw : LPW.STATUS_WRITING.key (LPW.page head.n) ≠ LPW.STATUS_SUSPENDED.key (LPW.page head.n) := by cases head <;> decide
  refine ⟨fon_congr (fget_relinked (by decide) hlpw hencW (by decide) (by decide) (by decide)),
    fon_congr (fget_relinked (by decide) hhtx hencH (by decide) (by decide) (by decide)), ?_,
    (hasInt_congr (fget_emit ..)).2 ((hasInt_raise (by decide)).cnt (by decide) (by decide))⟩
  unfold relinked
  rw [fget_emit, fget_cnt_place (by decide) (by decide) (by decide) (by decide), fget_raise_place (by decide) (by decide), fget_fset_other _ _ hencS, fget_fset_same]
  rfl

theorem relink_continues {cause : Nat} (hsusp : (s.rec' head.n).suspended = some cause) (hem : (s.rec' head.n).emitting = e :: es)
    (hcleared : causeCleared head.n cause (fget (ACQ.page head.n) ACQ.MAP_STATE_LAYER s) s = true) (hahead : nz (fget ENC.page ENC.SUSP_CFG_RESUME_CL s) ≤ ahead)
    (hready : armReady head.n (psaLayer e.psa) (slotGroupAt (psaLayer e.psa) (psaSlot e.psa) e.frames) s = true) :
    Completes (.relink head ahead window offset seq) s fun t =>
      (t.rec' head.n).emitting = e :: es ∧ (t.rec' head.n).suspended = none ∧ recording head.n t = true ∧ writing head.n t = true ∧
      fget (LPW.page head.n) LPW.STATUS_SUSPENDED t = 0 ∧ hasInt (LPW.page head.n) LPW.iRELINKED t ∧
      t.evq = s.evq ++ [⟨0x4101, srcChan head.n, head.n, psaSlot e.psa % 2 ^ 32, (s.rec' head.n).suspRevs % 2 ^ 32, false⟩] ∧
      sameBut [.regs, .evq, .out, .msixPend, .links, .recs, .chans, .commons] s t := by
  have hrun : exec (.relink head ahead window offset seq) s = .next (relinked head.n (psaSlot e.psa) (s.rec' head.n).suspRevs (arm head.n (e :: es) window offset seq s)) := by
    change execRelink head ahead window offset seq s = _
    unfold execRelink
    simp only [hsusp, hem, reduceCtorEq, if_false, hcleared, hready, decide_eq_true hahead, Bool.and_self, if_true]
    rfl
  have h : Armed head (e :: es) window offset seq s (arm head.n (e :: es) window offset seq s) := armed_arm
  have hrecs : ∀ x, (relinked head.n (psaSlot e.psa) (s.rec' head.n).suspRevs x).rec' head.n = x.rec' head.n := fun x =>
    rec_eq_of_recs (relinked_kept (m := State.recs) (fun _ => rfl) (.refl x)).view _
  obtain ⟨hrecording, hwriting, hshown, hint⟩ :=
    relinked_shows (head := head) (slot := psaSlot e.psa) (revs := (s.rec' head.n).suspRevs) (s := arm head.n (e :: es) window offset seq s)
  refine ⟨_, hrun, by rw [hrecs, h.emitting], by rw [hrecs, h.suspended], hrecording.trans h.recording, hwriting.trans h.writing, hshown, hint, ?_,
    sameBut_of_kept (relinked_kept (fun _ => rfl) (arm_kept (fun _ => rfl) (.refl s)))⟩
  rw [relinked_evq, (arm_kept (m := State.evq) (fun _ => rfl) (.refl s)).view, Nat.mod_eq_of_lt (show head.n < 2 ^ 32 by cases head <;> decide)]

/-! ### BOOST and LPW_ENABLE (R334, R337) -/

theorem boost_shows (on : Bool) : Completes (.boost head on) s fun t => fget (LPW.page head.n) LPW.CTRL_BOOST t = b2n on ∧ sameBut [.regs] s t ∧
    otherFields (LPW.page head.n) [LPW.CTRL_BOOST] s t :=
  ⟨fsetB (LPW.page head.n) LPW.CTRL_BOOST on s, rfl, fget_fsetB_same _ _ _ _ (by decide), rfl, otherFields_fset _ _ _ _⟩

theorem lpwEnable_shows (en : Bool) : Completes (.lpwEnable head en) s fun t => fget (LPW.page head.n) LPW.CTRL_EN t = b2n en ∧
    (t.rec' head.n).blocked = ((s.rec' head.n).blocked && !(en && !fon (LPW.page head.n) LPW.CTRL_EN s)) ∧ sameBut [.regs, .recs] s t ∧
    otherFields (LPW.page head.n) [LPW.CTRL_EN] s t := by
  have hset : otherFields (LPW.page head.n) [LPW.CTRL_EN] s (fsetB (LPW.page head.n) LPW.CTRL_EN en s) := otherFields_fset _ _ _ _
  cases hup : en && !fon (LPW.page head.n) LPW.CTRL_EN s with
  | false =>
    have hrun : exec (.lpwEnable head en) s = .next (fsetB (LPW.page head.n) LPW.CTRL_EN en s) := by
      change execLpwEnable head en s = _
      simp [execLpwEnable, hup]
    exact ⟨_, hrun, fget_fsetB_same _ _ _ _ (by decide), by rw [Bool.not_false, Bool.and_true]; rfl, rfl, hset⟩
  | true =>
    have hrun : exec (.lpwEnable head en) s = .next (setRec head.n { s.rec' head.n with blocked := false } (fsetB (LPW.page head.n) LPW.CTRL_EN en s)) := by
      change execLpwEnable head en s = _
      simp [execLpwEnable, hup]
    exact ⟨_, hrun, fget_fsetB_same _ _ _ _ (by decide), by rw [setRec_same]; simp, rfl, hset⟩

end Sys2Proof.Machine
end

section
/-!
PROOFS. A recording suspended (R343).
-/
namespace Sys2Proof.Machine

variable {s t u : State} {head : Head} {n cslot : Nat} {g : Fld} {cause : Fin 7}

/-! ### Frame slots emitted on the way to a boundary -/

/-- The fields that show whether a head records, and whether it is suspended. -/
def runMarks (head : Head) : List (Nat × Fld) :=
  [(LPW.page head.n, LPW.STATUS_WRITING), (LPW.page head.n, LPW.STATUS_SUSPENDED), (HTX.page head.n, HTX.STATUS_WRITE_EN)]

/-- The places that a frame slot emitted on a beam counts at. -/
def emitPlaces : List Nat :=
  [LPW.FRAMES_LO, LPW.FRAMES_HI, HTX.WR_SYM_CNT_LO, HTX.WR_SYM_CNT_HI, LPW.EDGE_MERGE_CNT, hdrSticky, CHC.GROUP, CHC.FSLOT, CHC.CSLOT, CHC.CFRAME].map Fld.place

theorem runMarks_apart {m : Nat × Fld} (hm : m ∈ runMarks head) : m.2.inPage ∧ m.1 ∉ PMC.page :: endPages ∧ m.2.place ∉ emitPlaces := by
  have h : ∀ head : Head, ∀ m ∈ runMarks head, m.2.inPage ∧ m.1 ∉ PMC.page :: endPages ∧ m.2.place ∉ emitPlaces := by
    intro head
    cases head <;> decide
  exact h head m hm

/-- What shows the recording is as it was. -/
def RunKept (head : Head) (s t : State) : Prop := ∀ m ∈ runMarks head, fget m.1 m.2 t = fget m.1 m.2 s

theorem RunKept.refl : RunKept head s s := fun _ _ => rfl

theorem RunKept.trans (h : RunKept head s t) (k : RunKept head t u) : RunKept head s u := fun m hm => (k m hm).trans (h m hm)

theorem RunKept.of_otherPages {ps : List Nat} (h : otherPages ps s t) (hps : ps ⊆ PMC.page :: endPages) : RunKept head s t := fun m hm =>
  h m.1 (fun hin => (runMarks_apart hm).2.1 (hps hin)) m.2 (runMarks_apart hm).1

theorem RunKept.of_places (h : ∀ g : Fld, g.inPage → g.place ∉ emitPlaces → ∀ q, fget q g t = fget q g s) : RunKept head s t := fun m hm =>
  h m.2 (runMarks_apart hm).1 (runMarks_apart hm).2.2 m.1

theorem fget_emitBeam {h q : Nat} {e : Emission} (hg : g.inPage) (hne : g.place ∉ emitPlaces) : fget q g (emitBeam h s e) = fget q g s := by
  simp only [emitPlaces, List.map_cons, List.map_nil, List.mem_cons, List.not_mem_nil, or_false, not_or] at hne
  obtain ⟨hflo, hfhi, hwlo, hwhi, hmerge, hsticky, -⟩ := hne
  have hcounted : ∀ (o : Out) (k : Nat), fget q g (cnt64 (HTX.page h) HTX.WR_SYM_CNT_LO HTX.WR_SYM_CNT_HI HTX.kCNT_SAT k
      (cnt64 (LPW.page h) LPW.FRAMES_LO LPW.FRAMES_HI LPW.kCNT_SAT 1 (send o s))) = fget q g s := fun o k => by
    rw [fget_cnt64_place hg (by decide) (by decide) hwlo hwhi hsticky, fget_cnt64_place hg (by decide) (by decide) hflo hfhi hsticky, fget_send]
  have hmerged : ∀ (k : Nat) (u : State), fget q g (cntN (LPW.page h) LPW.EDGE_MERGE_CNT LPW.kCNT_SAT k u) = fget q g u := fun k u => by
    unfold cntN
    dsimp only
    exact ite_kept (P := fun x => fget q g x = fget q g u) (fget_fset_place hg (by decide) hmerge)
      ((fget_fset_place hg (by decide) hsticky).trans (fget_fset_place hg (by decide) hmerge))
  unfold emitBeam
  extract_lets ss m counted
  have hend : fget q g counted = fget q g s := hcounted _ _
  clear_value counted
  exact ite_kept (P := fun x => fget q g x = fget q g s) hend ((fget_fset_place hg (by decide) hsticky).trans ((hmerged m counted).trans hend))

theorem runKept_clusterRecorded {e : Emission} : RunKept head s (clusterRecorded s e) := by
  unfold clusterRecorded
  split
  · exact .refl
  · have hraised : ∀ u : State, RunKept head u (highWater e.psa u) := fun u => by
      unfold highWater
      exact ite_kept (P := fun x => RunKept head u x) (fun _ _ => rfl) .refl
    have hended : ∀ u : State, RunKept head s u → RunKept head s (endCluster e.psa { kind := .written } (highWater e.psa u)) := fun u hu =>
      (hu.trans (hraised u)).trans (.of_otherPages otherPages_endCluster (List.subset_cons_self ..))
    exact hended _ fun _ _ => rfl

/-- The slots up to a boundary go on with the recording as it is, or end it. -/
structure SlotsGo (head : Head) (s t : State) : Prop where
  suspended : fget (LPW.page head.n) LPW.STATUS_SUSPENDED t = fget (LPW.page head.n) LPW.STATUS_SUSPENDED s
  goes : (recording head.n t = recording head.n s ∧ writing head.n t = writing head.n s) ∨ (recording head.n t = false ∧ writing head.n t = false)

theorem RunKept.slotsGo (h : RunKept head s t) : SlotsGo head s t :=
  ⟨h (LPW.page head.n, LPW.STATUS_SUSPENDED) (.tail _ (.head _)), .inl ⟨fon_congr (h (LPW.page head.n, LPW.STATUS_WRITING) (.head _)),
    fon_congr (h (HTX.page head.n, HTX.STATUS_WRITE_EN) (.tail _ (.tail _ (.head _))))⟩⟩

theorem SlotsGo.trans (h : SlotsGo head s t) (k : SlotsGo head t u) : SlotsGo head s u := by
  refine ⟨k.suspended.trans h.suspended, ?_⟩
  rcases k.goes with ⟨hrec, hwr⟩ | hended
  · rw [hrec, hwr]
    exact h.goes
  · exact .inr hended

theorem slotsGo_endRecording : SlotsGo head s (endRecording head.n s) := by
  have hsusp : LPW.STATUS_SUSPENDED.key (LPW.page head.n) ∉ writingKeys head.n := by cases head <;> decide
  unfold endRecording
  exact ⟨(fget_setRec ..).trans (fget_showWriting_other hsusp), .inr ⟨(fon_congr (fget_setRec ..)).trans recording_showWriting,
    (fon_congr (fget_setRec ..)).trans writing_showWriting⟩⟩

theorem slotsGo_slotEmitted : SlotsGo head s (slotEmitted head.n s) := by
  unfold slotEmitted
  extract_lets r layer slot emitted em ended left recorded nxt _ x y
  have hemitted : RunKept head s emitted := by
    have hbegun : RunKept head s (if r.emitting = [] then s else pmc 0x11 head.n 1 s) :=
      ite_kept (P := fun x => RunKept head s x) .refl (.of_otherPages otherPages_pmc (by simp))
    exact foldl_kept (P := fun x => RunKept head s x) (fun t e ht => ht.trans (.of_places fun g hg hne q => fget_emitBeam hg hne)) hbegun
  have hrecorded : RunKept head s recorded := foldl_kept (P := fun x => RunKept head s x) (fun t e ht => ht.trans runKept_clusterRecorded) hemitted
  have hx : SlotsGo head s x := RunKept.slotsGo fun m hm => hrecorded m hm
  have hy : SlotsGo head s y := ite_kept (P := fun x => SlotsGo head s x) (hx.trans slotsGo_endRecording) hx
  clear_value y
  refine hy.trans (RunKept.slotsGo (.of_places fun g hg hne q => fget_showSlot_place hg fun hin => hne ?_))
  have hsub : slotPlaces ⊆ emitPlaces := by decide
  exact hsub hin

theorem slotsGo_slotsEmitted : SlotsGo head s (slotsEmitted head.n n s) := by
  induction n generalizing s with
  | zero => exact RunKept.refl.slotsGo
  | succ n ih => exact slotsGo_slotEmitted.trans ih

/-! ### A suspension (R343) -/

/-- The marks of a clean suspension. -/
def suspendShown (h cause cslot : Nat) (s : State) : State :=
  s |> showWriting h false |> fset (LPW.page h) LPW.STATUS_SUSPENDED 1 |> fset ENC.page (if h = 0 then ENC.STATUS_SUSP_L else ENC.STATUS_SUSP_U) 1
    |> raise (LPW.page h) LPW.iSUSPENDED |> cnt (LPW.page h) LPW.SUSP_CNT LPW.kCNT_SAT |> raise ENC.page ENC.iSUSPENDED
    |> setRec h { s.rec' h with suspended := some cause, suspRevs := 0 } |> emit 0x4100 (srcChan h) h cause cslot

theorem suspend_of_writing {c : Nat} (hwr : writing head.n s = true) (hsusp : fon (LPW.page head.n) LPW.STATUS_SUSPENDED s = false)
    (hrec : recording head.n s = true) : suspend head.n c cslot s = suspendShown head.n c cslot s := by
  exact if_pos (by rw [hwr, hsusp]; exact hrec)

/-- What a clean suspension leaves. -/
structure Suspended (head : Head) (cause cslot : Nat) (s t : State) : Prop where
  recording : recording head.n t = false
  writing : writing head.n t = false
  held : (t.rec' head.n).suspended = some cause
  emitting : (t.rec' head.n).emitting = (s.rec' head.n).emitting
  shown : fget (LPW.page head.n) LPW.STATUS_SUSPENDED t = 1
  int : hasInt (LPW.page head.n) LPW.iSUSPENDED t
  evq : t.evq = s.evq ++ [⟨0x4100, srcChan head.n, head.n, cause % 2 ^ 32, cslot % 2 ^ 32, false⟩]
  frame : sameBut [.regs, .evq, .out, .msixPend, .recs] s t

theorem suspendShown_kept {α : Type} {m : State → α} {h c : Nat} (hm : ∀ u, m u = m { u with regs := [], evq := [], out := [], msixPend := 0, recs := [] }) :
    Kept m s (suspendShown h c cslot s) :=
  emit_kept (sub hm) (setRec_kept (sub hm) (raise_kept (sub hm) (cnt_kept (sub hm) (raise_kept (sub hm) (fset_kept (sub hm) (fset_kept (sub hm)
    (showWriting_kept (sub hm) (.refl s))))))))

/-- Past the recording's own marks, a suspension writes its flags, an interrupt on two pages and a count. -/
theorem fget_suspendShown {c q : Nat} (hg : g.inPage) (hsusp : g.key q ≠ LPW.STATUS_SUSPENDED.key (LPW.page head.n))
    (henc : g.key q ≠ (if head.n = 0 then ENC.STATUS_SUSP_L else ENC.STATUS_SUSP_U).key ENC.page) (hint : g.place ≠ hdrIntStatus.place)
    (hcnt : g.place ≠ LPW.SUSP_CNT.place) (hsticky : g.place ≠ hdrSticky.place) :
    fget q g (suspendShown head.n c cslot s) = fget q g (showWriting head.n false s) := by
  unfold suspendShown
  rw [fget_emit, fget_setRec, fget_raise_place hg hint, fget_cnt_place hg (by decide) hcnt hsticky, fget_raise_place hg hint, fget_fset_other _ _ henc,
    fget_fset_other _ _ hsusp]

theorem suspendShown_evq {h c : Nat} : (suspendShown h c cslot s).evq = s.evq ++ [⟨0x4100, srcChan h, h % 2 ^ 32, c % 2 ^ 32, cslot % 2 ^ 32, false⟩] := by
  unfold suspendShown
  rw [emit_evq, setRec_evq, raise_evq, cnt_evq, raise_evq]
  change (showWriting h false s).evq ++ _ = _
  rw [showWriting_evq]

theorem suspended_suspendShown {c : Nat} : Suspended head c cslot s (suspendShown head.n c cslot s) := by
  have hencW : LPW.STATUS_WRITING.key (LPW.page head.n) ≠ (if head.n = 0 then ENC.STATUS_SUSP_L else ENC.STATUS_SUSP_U).key ENC.page := by cases head <;> decide
  have hencH : HTX.STATUS_WRITE_EN.key (HTX.page head.n) ≠ (if head.n = 0 then ENC.STATUS_SUSP_L else ENC.STATUS_SUSP_U).key ENC.page := by cases head <;> decide
  have hencS : LPW.STATUS_SUSPENDED.key (LPW.page head.n) ≠ (if head.n = 0 then ENC.STATUS_SUSP_L else ENC.STATUS_SUSP_U).key ENC.page := by cases head <;> decide
  have hhtx : HTX.STATUS_WRITE_EN.key (HTX.page head.n) ≠ LPW.STATUS_SUSPENDED.key (LPW.page head.n) := by cases head <;> decide
  have hlpw : LPW.STATUS_WRITING.key (LPW.page head.n) ≠ LPW.STATUS_SUSPENDED.key (LPW.page head.n) := by cases head <;> decide
  have hrecs : (suspendShown head.n c cslot s).rec' head.n = { s.rec' head.n with suspended := some c, suspRevs := 0 } := by
    unfold suspendShown
    exact (rec_eq_of_recs rfl _).trans (setRec_same ..)
  refine ⟨?_, ?_, by rw [hrecs], by rw [hrecs], ?_, ?_, ?_, sameBut_of_kept (suspendShown_kept fun _ => rfl)⟩
  · exact (fon_congr (fget_suspendShown (by decide) hlpw hencW (by decide) (by decide) (by decide))).trans recording_showWriting
  · exact (fon_congr (fget_suspendShown (by decide) hhtx hencH (by decide) (by decide) (by decide))).trans writing_showWriting
  · unfold suspendShown
    rw [fget_emit, fget_setRec, fget_raise_place (by decide) (by decide), fget_cnt_place (by decide) (by decide) (by decide) (by decide),
      fget_raise_place (by decide) (by decide), fget_fset_other _ _ hencS, fget_fset_lt (by decide)]
  · unfold suspendShown
    exact (hasInt_congr (fget_emit ..)).2 ((hasInt_congr (fget_setRec ..)).2 (((hasInt_raise (by decide)).cnt (by decide) (by decide)).raise (by decide)))
  · rw [suspendShown_evq, Nat.mod_eq_of_lt (show head.n < 2 ^ 32 by cases head <;> decide)]

/-! ### RECORDING_SUSPEND -/

theorem recordingSuspend_idle (hidle : cause = 0 ∨ recording head.n s = false) : Completes (.recordingSuspend head cause) s fun t => t = s := by
  refine ⟨s, ?_, rfl⟩
  change execRecordingSuspend head cause s = _
  rcases hidle with rfl | hrec
  · rfl
  · simp [execRecordingSuspend, requestSuspend, hrec]

theorem recordingSuspend_atGap (hrec : recording head.n s = true) (hwr : writing head.n s = true) (hsusp : fon (LPW.page head.n) LPW.STATUS_SUSPENDED s = false) :
    Completes (.recordingSuspend head 5) s fun t =>
      recording head.n t = false ∧ writing head.n t = false ∧ (t.rec' head.n).suspended = some 5 ∧ (t.rec' head.n).emitting = (s.rec' head.n).emitting ∧
      fget (LPW.page head.n) LPW.STATUS_SUSPENDED t = 1 ∧ hasInt (LPW.page head.n) LPW.iSUSPENDED t ∧
      t.evq = s.evq ++ [⟨0x4100, srcChan head.n, head.n, 5, fget (CHC.page head.n) CHC.CSLOT s % 2 ^ 32, false⟩] ∧ sameBut [.regs, .evq, .out, .msixPend, .recs] s t := by
  have hrun : exec (.recordingSuspend head 5) s = .next (suspendShown head.n 5 (fget (CHC.page head.n) CHC.CSLOT s) s) := by
    change execRecordingSuspend head 5 s = _
    rw [← suspend_of_writing hwr hsusp hrec]
    simp [execRecordingSuspend, requestSuspend, hrec]
  obtain ⟨hrecording, hwriting, hheld, hemitting, hshown, hint, hevq, hframe⟩ :=
    suspended_suspendShown (head := head) (c := 5) (cslot := fget (CHC.page head.n) CHC.CSLOT s) (s := s)
  exact ⟨_, hrun, hrecording, hwriting, hheld, hemitting, hshown, hint, hevq, hframe⟩

/-- A suspension asked for in a recording ends it at the boundary at the latest. -/
theorem requestSuspend_ends {c : Nat} (hrec : recording head.n s = true) (hwr : writing head.n s = true) (hsusp : fon (LPW.page head.n) LPW.STATUS_SUSPENDED s = false) :
    recording head.n (requestSuspend head.n c s) = false ∧ writing head.n (requestSuspend head.n c s) = false := by
  have hsuspends : ∀ (cslot : Nat) (u : State), recording head.n u = true → writing head.n u = true → fon (LPW.page head.n) LPW.STATUS_SUSPENDED u = false →
      recording head.n (suspend head.n c cslot u) = false ∧ writing head.n (suspend head.n c cslot u) = false := by
    intro cslot u hrecU hwrU hsuspU
    rw [suspend_of_writing hwrU hsuspU hrecU]
    exact ⟨suspended_suspendShown.recording, suspended_suspendShown.writing⟩
  unfold requestSuspend
  extract_lets f slot u
  have hgo : SlotsGo head s u := slotsGo_slotsEmitted
  clear_value u
  rw [if_neg (by simp [hrec])]
  split
  · exact hsuspends slot s hrec hwr hsusp
  split
  next hrecU =>
    rcases hgo.goes with ⟨-, hwrU⟩ | ⟨hended, -⟩
    · exact hsuspends slot u hrecU (hwrU.trans hwr) ((fon_congr hgo.suspended).trans hsusp)
    · exact absurd (hrecU.symm.trans hended) (by decide)
  next hendedU =>
    rcases hgo.goes with ⟨hrecU, -⟩ | hended
    · exact absurd (hrecU.trans hrec) hendedU
    · exact hended

theorem recordingSuspend_ends (hcause : cause ≠ 0) (hrec : recording head.n s = true) (hwr : writing head.n s = true)
    (hsusp : fon (LPW.page head.n) LPW.STATUS_SUSPENDED s = false) :
    Completes (.recordingSuspend head cause) s fun t => recording head.n t = false ∧ writing head.n t = false :=
  ⟨requestSuspend head.n cause s, congrArg Host.Outcome.next (if_neg (by simpa [Fin.val_eq_zero_iff] using hcause)), requestSuspend_ends hrec hwr hsusp⟩

end Sys2Proof.Machine
end

section
/-!
PROOFS. Optimum power calibrations that fail (R340, R341).
-/
namespace Sys2Proof.Machine

variable {s t u : State} {head : Head} {p q v k n b layer cause : Nat} {g : Fld} {r : OpcIn}

theorem bit_trunc_setBit {w : Nat} (hb : b < w) : bit (trunc w (setBit v b)) b = true := by
  simp only [bit, trunc, setBit, Nat.testBit_mod_two_pow, Nat.testBit_or, Nat.testBit_two_pow_self, hb, decide_true, Bool.or_true, Bool.and_self]

theorem bit_trunc_clrBit {w : Nat} : bit (trunc w (clrBit v b)) b = false := by
  have h : (clrBit v b).testBit b = false := bit_clrBit_same v b
  simp only [bit, trunc, Nat.testBit_mod_two_pow, h, Bool.and_false]

/-- STATE_x of the CAL page. -/
def opcStateFld (h : Nat) : Fld := if h = 0 then CAL.STATUS_STATE_L else CAL.STATUS_STATE_U

theorem opcStateFld_apart : (opcStateFld head.n).inPage ∧ (opcStateFld head.n).width = 2 ∧
    (opcStateFld head.n).place ∉ [hdrIntStatus, hdrFault, hdrSticky, CAL.OPC_FAIL_CNT, CAL.OPC_CNT, CAL.OPC_VALID_L, CAL.OPC_VALID_U].map Fld.place := by
  cases head <;> decide

theorem opcFld_apart : (opcFld head.n).inPage ∧ (opcFld head.n).width = 8 ∧
    (opcFld head.n).place ∉ [hdrIntStatus, hdrFault, hdrSticky, CAL.OPC_FAIL_CNT, CAL.OPC_CNT, CAL.STATUS_STATE_L, CAL.STATUS_STATE_U].map Fld.place := by
  cases head <;> decide

/-! ### A run that fails (R341) -/

/-- The marks of a failed run. -/
def opcFailShown (h layer cause : Nat) (s : State) : State :=
  s |> opcState h 3 |> raise CAL.page (if h = 0 then CAL.iOPC_FAIL_L else CAL.iOPC_FAIL_U) |> fault CAL.page cause
    |> cnt CAL.page CAL.OPC_FAIL_CNT CAL.kCNT_SAT |> emit 0x4106 (srcChan h) h layer cause

theorem opcFail_of_ne (hcause : cause ≠ 3) : opcFail head.n layer cause s = opcFailShown head.n layer cause s := if_pos hcause

theorem opcFailShown_kept {α : Type} {m : State → α} {h : Nat} (hm : ∀ u, m u = m { u with regs := [], evq := [], out := [], msixPend := 0 }) :
    Kept m s (opcFailShown h layer cause s) :=
  emit_kept (sub hm) (cnt_kept (sub hm) (fault_kept (sub hm) (raise_kept (sub hm) (opcState_kept (sub hm) (.refl s)))))

/-- What a failed run shows. -/
structure OpcFailed (head : Head) (layer cause : Nat) (s t : State) : Prop where
  state : fget CAL.page (opcStateFld head.n) t = 3
  fault : fget CAL.page hdrFault t = cause
  int : hasInt CAL.page (if head.n = 0 then CAL.iOPC_FAIL_L else CAL.iOPC_FAIL_U) t
  evq : t.evq = s.evq ++ [⟨0x4106, srcChan head.n, head.n, layer % 2 ^ 32, cause % 2 ^ 32, false⟩]

theorem opcFailed_opcFailShown (hcause : cause < 2 ^ 8) : OpcFailed head layer cause s (opcFailShown head.n layer cause s) := by
  obtain ⟨hin, hwidth, hapart⟩ := opcStateFld_apart (head := head)
  simp only [List.map_cons, List.map_nil, List.mem_cons, List.not_mem_nil, or_false, not_or] at hapart
  obtain ⟨hint, hfault, hsticky, hfail, -⟩ := hapart
  refine ⟨?_, ?_, ?_, ?_⟩
  · refine (fget_emit ..).trans ((fget_cnt_place hin (by decide) hfail hsticky).trans ((fget_fset_place hin (by decide) hfault).trans
      ((fget_raise_place hin hint).trans (fget_fset_lt ?_))))
    rw [hwidth]
    decide
  · exact (fget_emit ..).trans ((fget_cnt_place (by decide) (by decide) (by decide) (by decide)).trans (fget_fset_lt hcause))
  · refine (hasInt_congr (fget_emit ..)).2 (hasInt.cnt ((hasInt_fset (by decide) (by decide)).2 (hasInt_raise ?_)) (by decide) (by decide))
    cases head <;> decide
  · unfold opcFailShown
    rw [emit_evq, cnt_evq]
    change (raise _ _ _).evq ++ _ = _
    rw [raise_evq, Nat.mod_eq_of_lt (show head.n < 2 ^ 32 by cases head <;> decide)]
    rfl

theorem opcFail_full : opcFail head.n layer 3 s =
    if ((opcFailShown head.n layer 3 s).opcs.get (8 * head.n + layer) {}).installed
    then fset CAL.page (opcFld head.n) (setBit (fget CAL.page (opcFld head.n) (opcFailShown head.n layer 3 s)) layer) (opcFailShown head.n layer 3 s)
    else failLayer head.n layer (opcFailShown head.n layer 3 s) := rfl

theorem otherPages_failLayer {h : Nat} : otherPages endPages s (failLayer h layer s) := by
  have hleft : ∀ es : List Encoded, otherPages endPages s { s with encoded := es } := fun _ => otherPages.refl.congr rfl rfl
  exact otherPages.foldl (hleft _) fun u c _ => otherPages_endCluster

/-- A run that fails for want of room shows it, and keeps a result that is installed. -/
theorem opcFailed_full (hlayer : layer < 8) : OpcFailed head layer 3 s (opcFail head.n layer 3 s) ∧
    ((s.opcs.get (8 * head.n + layer) {}).installed = true → bit (fget CAL.page (opcFld head.n) (opcFail head.n layer 3 s)) layer = true) := by
  obtain ⟨hstate, hfault, hint, hevq⟩ := opcFailed_opcFailShown (head := head) (layer := layer) (cause := 3) (s := s) (by decide)
  have hopcs : (opcFailShown head.n layer 3 s).opcs = s.opcs := (opcFailShown_kept (m := State.opcs) fun _ => rfl).view
  obtain ⟨hin, hwidth, hapart⟩ := opcFld_apart (head := head)
  obtain ⟨hinS, -, hapartS⟩ := opcStateFld_apart (head := head)
  simp only [List.map_cons, List.map_nil, List.mem_cons, List.not_mem_nil, or_false, not_or] at hapart
  obtain ⟨hneInt, hneFault, -⟩ := hapart
  have hneS : (opcStateFld head.n).place ≠ (opcFld head.n).place := by cases head <;> decide
  rw [opcFail_full, hopcs]
  cases hinstalled : (s.opcs.get (8 * head.n + layer) {}).installed with
  | true =>
    rw [if_pos rfl]
    refine ⟨⟨(fget_fset_place hinS hin hneS).trans hstate, (fget_fset_place (by decide) hin (Ne.symm hneFault)).trans hfault,
      (hasInt_fset hin (Ne.symm hneInt)).2 hint, hevq⟩, fun _ => ?_⟩
    rw [fget_fset_same]
    exact bit_trunc_setBit (hwidth ▸ hlayer)
  | false =>
    rw [if_neg (by simp)]
    have hcal : ∀ g : Fld, g.inPage → fget CAL.page g (failLayer head.n layer (opcFailShown head.n layer 3 s)) = fget CAL.page g (opcFailShown head.n layer 3 s) :=
      fun g hg => otherPages_failLayer _ (by decide) g hg
    exact ⟨⟨(hcal _ hinS).trans hstate, (hcal _ (by decide)).trans hfault, (hasInt_congr (hcal _ (by decide))).2 hint,
      ((failLayer_kept (m := State.evq) (fun _ => rfl) (.refl _)).view).trans hevq⟩, fun h => absurd h (by simp)⟩

theorem opcRun_notFollowing (hhead : r.head = head) (hno : getMcState head.n s ≠ 3 ∨ getLoop (4 * head.n) s ≠ 2 ∨ getLoop (4 * head.n + 1) s ≠ 2) :
    Completes (.opcRun r) s fun t =>
      fget CAL.page (if head.n = 0 then CAL.STATUS_STATE_L else CAL.STATUS_STATE_U) t = 3 ∧ fget CAL.page hdrFault t = 1 ∧
      hasInt CAL.page (if head.n = 0 then CAL.iOPC_FAIL_L else CAL.iOPC_FAIL_U) t ∧
      t.evq = s.evq ++ [⟨0x4106, srcChan head.n, head.n, r.layer % 8, 1, false⟩] ∧ sameBut [.regs, .evq, .out, .msixPend] s t := by
  subst hhead
  have hrun : exec (.opcRun r) s = .next (opcFail r.head.n (r.layer % 8) 1 s) := if_pos (by simpa [or_assoc] using hno)
  rw [opcFail_of_ne (by decide)] at hrun
  obtain ⟨hstate, hfault, hint, hevq⟩ := opcFailed_opcFailShown (head := r.head) (layer := r.layer % 8) (cause := 1) (s := s) (by decide)
  refine ⟨_, hrun, hstate, hfault, hint, ?_, sameBut_of_kept (opcFailShown_kept fun _ => rfl)⟩
  rw [hevq, Nat.mod_eq_of_lt (Nat.lt_trans (Nat.mod_lt _ (by decide)) (show 8 < 2 ^ 32 by decide))]
  rfl

theorem opcRun_full (hhead : r.head = head) (hmc : getMcState head.n s = 3) (hfocus : getLoop (4 * head.n) s = 2) (htrack : getLoop (4 * head.n + 1) s = 2)
    (hfull : 256 ≤ fget CAL.page (nextRunFld head.n (r.layer % 8)) s) : Completes (.opcRun r) s fun t =>
      fget CAL.page (if head.n = 0 then CAL.STATUS_STATE_L else CAL.STATUS_STATE_U) t = 3 ∧ fget CAL.page hdrFault t = 3 ∧
      ((s.opcs.get (8 * head.n + r.layer % 8) {}).installed = true → bit (fget CAL.page (opcFld head.n) t) (r.layer % 8) = true) ∧
      ∃ later, t.evq = s.evq ++ ⟨0x4106, srcChan head.n, head.n, r.layer % 8, 3, false⟩ :: later := by
  subst hhead
  have hrun : exec (.opcRun r) s = .next (opcFail r.head.n (r.layer % 8) 3 s) := (if_neg (by simp [hmc, hfocus, htrack])).trans (if_pos hfull)
  have hlayer : r.layer % 8 < 8 := Nat.mod_lt _ (by decide)
  obtain ⟨⟨hstate, hfault, -, hevq⟩, hkeeps⟩ := opcFailed_full (head := r.head) (s := s) hlayer
  refine ⟨_, hrun, hstate, hfault, hkeeps, [], ?_⟩
  rw [hevq, Nat.mod_eq_of_lt (Nat.lt_trans hlayer (show 8 < 2 ^ 32 by decide))]
  rfl

end Sys2Proof.Machine
end

section
/-!
PROOFS. A calibration that succeeds, a result invalidated (R338 to R340, R361), and the obligation about recordings and calibrations.
-/
namespace Sys2Proof.Machine

variable {s t u : State} {head : Head} {p q v k n b layer : Nat} {g : Fld} {r : OpcIn} {pws : List Nat} {xs : List (Nat × Rat)} {betas : List (List Int)}

/-! ### The parts of a run -/

/-- β of every step of every beam, as measured. -/
def measuredBetas (r : OpcIn) : List (List Rat) := (List.range 8).map fun b => (List.range 16).map fun i => betaOf ((r.blocks.getD b []).getD i [])

/-- A run recorded and its β shown. -/
def opcMeasured (h layer : Nat) (betas : List (List Int)) (s : State) : State := showBetas { opcRecord h layer s with betas := betas }

/-- The β that a layer's power is set for. -/
def opcTarget (layer : Nat) (s : State) : Rat := (fgetI CAL.page (CAL.BETA_TGT.ix layer) s : Rat) / 32768

/-- The power and the step of each beam shown. -/
def opcResults (pws : List Nat) (xs : List (Nat × Rat)) (s : State) : State :=
  (List.range 8).foldl (fun t b => t |> fset CAL.page (CAL.RES.ix b) (pws.getD b 0) |> fset CAL.page (CAL.RES_STEP.ix b) (xs.getD b (0, 0)).1) s

/-- The marks of a run that ends well. -/
def opcDone (h layer p : Nat) (s : State) : State :=
  s |> opcState h 2 |> raise CAL.page (if h = 0 then CAL.iOPC_DONE_L else CAL.iOPC_DONE_U) |> cnt CAL.page CAL.OPC_CNT CAL.kCNT_SAT
    |> emit 0x4105 (srcChan h) h layer p

/-- A scale that ZSCALE does not give is free. -/
def opcDrawn (h layer : Nat) (s : State) : State := if fget (LPW.page h) (LPW.ZSCALE.ix (4 * layer)) s = 0 then { s with free := s.free + 1 } else s

/-- The end of a run whose β reach the target: the powers found, shown, installed where asked, and the run done (R340). -/
def opcConcluded (h layer : Nat) (install : Bool) (bs : List (List Rat)) (tgt : Rat) (s : State) : State :=
  let zs := fget (LPW.page h) (LPW.ZSCALE.ix (4 * layer)) s
  let z : Rat := if zs = 0 then Config.freeNat s.free else (zs : Rat) / 16384
  let s := opcDrawn h layer s
  let xs := bs.map (fun b => (crossing tgt (fget CAL.page CAL.OPC_CFG_P_START s) (fget CAL.page CAL.OPC_CFG_P_STEP s) b).getD (0, 0))
  let pws := xs.map (fun x => roundNat (x.2 / z))
  let s := opcResults pws xs s
  opcDone h layer (roundNat ((xs.map (fun x => x.2 / z)).foldl (· + ·) 0 / 8)) (if install then opcInstall h layer pws s else s)

theorem exec_opcRun (hhead : r.head = head) (hmc : getMcState head.n s = 3) (hfocus : getLoop (4 * head.n) s = 2) (htrack : getLoop (4 * head.n + 1) s = 2)
    (hroom : fget CAL.page (nextRunFld head.n (r.layer % 8)) s < 256) (hrec : recording head.n s = false) (hlost : r.lostTrack = false)
    (hdisturbed : r.disturbed = false) (hrevs : r.badRevs < 3)
    (hreach : ∀ x ∈ measuredBetas r, ¬(opcTarget (r.layer % 8) (opcMeasured head.n (r.layer % 8) ((measuredBetas r).map fun x => x.map betaQ) s) ≤ x.getD 0 0) ∧
      ¬x.getD 15 0 < opcTarget (r.layer % 8) (opcMeasured head.n (r.layer % 8) ((measuredBetas r).map fun x => x.map betaQ) s)) :
    exec (.opcRun r) s = .next (opcConcluded head.n (r.layer % 8) r.install (measuredBetas r)
      (opcTarget (r.layer % 8) (opcMeasured head.n (r.layer % 8) ((measuredBetas r).map fun x => x.map betaQ) s))
      (opcMeasured head.n (r.layer % 8) ((measuredBetas r).map fun x => x.map betaQ) s)) := by
  subst hhead
  have hany : ((measuredBetas r).any fun x => decide (opcTarget (r.layer % 8) (opcMeasured r.head.n (r.layer % 8) ((measuredBetas r).map fun x => x.map betaQ) s) ≤ x.getD 0 0) ||
      decide (x.getD 15 0 < opcTarget (r.layer % 8) (opcMeasured r.head.n (r.layer % 8) ((measuredBetas r).map fun x => x.map betaQ) s))) = false := by
    rw [List.any_eq_false]
    intro x hx
    obtain ⟨hlow, hhigh⟩ := hreach x hx
    rw [decide_eq_false hlow, decide_eq_false hhigh]
    decide
  refine (if_neg (by simp [hmc, hfocus, htrack])).trans ((if_neg (Nat.not_le.2 hroom)).trans ((if_neg (by simp [hrec])).trans ?_))
  refine (if_neg (by simp [hlost])).trans ((if_neg (by simp [hdisturbed])).trans ((if_neg (Nat.not_le.2 hrevs)).trans ((if_neg ?_).trans ?_)))
  · exact Bool.not_eq_true _ ▸ hany
  · rfl

/-! ### What the parts of a run leave -/

theorem nextRunFld_apart (hlayer : layer < 8) : (nextRunFld head.n layer).inPage ∧ (nextRunFld head.n layer).width = 9 ∧
    (∀ i < 16, (nextRunFld head.n layer).place ≠ (CAL.BETA_STEP.ix i).place) ∧
    (∀ i < 8, (nextRunFld head.n layer).place ≠ (CAL.RES.ix i).place ∧ (nextRunFld head.n layer).place ≠ (CAL.RES_STEP.ix i).place ∧
      (CAL.BETA_TGT.ix i).place ≠ (nextRunFld head.n layer).place) ∧
    (nextRunFld head.n layer).place ∉ [hdrIntStatus, hdrSticky, CAL.OPC_CNT, CAL.OPC_VALID_L, CAL.OPC_VALID_U, CAL.STATUS_STATE_L, CAL.STATUS_STATE_U].map Fld.place := by
  have h : ∀ head : Head, ∀ layer < 8, (nextRunFld head.n layer).inPage ∧ (nextRunFld head.n layer).width = 9 ∧
      (∀ i < 16, (nextRunFld head.n layer).place ≠ (CAL.BETA_STEP.ix i).place) ∧
      (∀ i < 8, (nextRunFld head.n layer).place ≠ (CAL.RES.ix i).place ∧ (nextRunFld head.n layer).place ≠ (CAL.RES_STEP.ix i).place ∧
        (CAL.BETA_TGT.ix i).place ≠ (nextRunFld head.n layer).place) ∧
      (nextRunFld head.n layer).place ∉ [hdrIntStatus, hdrSticky, CAL.OPC_CNT, CAL.OPC_VALID_L, CAL.OPC_VALID_U, CAL.STATUS_STATE_L, CAL.STATUS_STATE_U].map Fld.place := by
    intro head
    cases head <;> decide
  exact h head layer hlayer

/-- The symbols of a run sent on the beams. -/
def runSent (h layer : Nat) (s : State) : State :=
  (List.range 8).foldl (fun t b => t |> send (.symbols h b (runSymbols h layer (pczGroup (pczSlice s.disc.variant layer) (fget CAL.page (nextRunFld h layer) s)) t))
    |> cnt64 (HTX.page h) HTX.WR_SYM_CNT_LO HTX.WR_SYM_CNT_HI HTX.kCNT_SAT
      (runSymbols h layer (pczGroup (pczSlice s.disc.variant layer) (fget CAL.page (nextRunFld h layer) s)) t).length) s

theorem otherPages_runSent {h : Nat} : otherPages [HTX.page h] s (runSent h layer s) :=
  otherPages.refl.foldl fun _ _ _ => otherPages.cnt64 (otherPages.refl.congr rfl rfl) (by simp) (by decide) (by decide)

theorem opcRecord_eq {h : Nat} : opcRecord h layer s = if 256 < fget CAL.page (nextRunFld h layer) s + 17
    then emit 0x4107 (srcChan h) h layer (255 - fget CAL.page (nextRunFld h layer) s)
      (raise CAL.page CAL.iPCZ_LOW (fset CAL.page (nextRunFld h layer) (fget CAL.page (nextRunFld h layer) s + 1) (runSent h layer s)))
    else fset CAL.page (nextRunFld h layer) (fget CAL.page (nextRunFld h layer) s + 1) (runSent h layer s) := rfl

/-- A run recorded writes NEXT_RUN, and elsewhere in the CAL page an interrupt at most. -/
theorem fget_opcRecord (hint : g.place ≠ hdrIntStatus.place) (hg : g.inPage) : fget CAL.page g (opcRecord head.n layer s) =
    fget CAL.page g (fset CAL.page (nextRunFld head.n layer) (fget CAL.page (nextRunFld head.n layer) s + 1) (runSent head.n layer s)) := by
  rw [opcRecord_eq]
  exact ite_kept (P := fun x => fget CAL.page g x = _) ((fget_emit ..).trans (fget_raise_place hg hint)) rfl

theorem fget_nextRun_opcRecord (hlayer : layer < 8) (hroom : fget CAL.page (nextRunFld head.n layer) s < 256) :
    fget CAL.page (nextRunFld head.n layer) (opcRecord head.n layer s) = fget CAL.page (nextRunFld head.n layer) s + 1 := by
  obtain ⟨hin, hwidth, -, -, hapart⟩ := nextRunFld_apart (head := head) hlayer
  simp only [List.map_cons, List.map_nil, List.mem_cons, List.not_mem_nil, or_false, not_or] at hapart
  obtain ⟨hint, -⟩ := hapart
  refine (fget_opcRecord hint hin).trans (fget_fset_lt ?_)
  rw [hwidth]
  exact Nat.lt_of_le_of_lt hroom (by decide)

theorem fget_showBetas (hg : g.inPage) (hne : ∀ i < 16, g.place ≠ (CAL.BETA_STEP.ix i).place) : fget q g (showBetas s) = fget q g s := by
  have hin : ∀ i < 16, Fld.inPage (CAL.BETA_STEP.ix i) := by decide
  exact foldl_range_same (m := fget q g) fun t i hi => fget_fset_place hg (hin i hi) (hne i hi)

theorem fget_withBetas : fget q g { s with betas := betas } = fget q g s := rfl

theorem fget_opcMeasured {h : Nat} (hg : g.inPage) (hne : ∀ i < 16, g.place ≠ (CAL.BETA_STEP.ix i).place) :
    fget q g (opcMeasured h layer betas s) = fget q g (opcRecord h layer s) := (fget_showBetas hg hne).trans fget_withBetas

theorem fget_opcResults (hg : g.inPage) (hne : ∀ i < 8, g.place ≠ (CAL.RES.ix i).place ∧ g.place ≠ (CAL.RES_STEP.ix i).place) :
    fget q g (opcResults pws xs s) = fget q g s := by
  have hin : ∀ i < 8, Fld.inPage (CAL.RES.ix i) ∧ Fld.inPage (CAL.RES_STEP.ix i) := by decide
  exact foldl_range_same (m := fget q g) fun t i hi => (fget_fset_place hg (hin i hi).2 (hne i hi).2).trans (fget_fset_place hg (hin i hi).1 (hne i hi).1)

/-- The target is not among what a run writes. -/
theorem opcTarget_opcMeasured (hlayer : layer < 8) : opcTarget layer (opcMeasured head.n layer betas s) = opcTarget layer s := by
  obtain ⟨hin, -, -, hne, -⟩ := nextRunFld_apart (head := head) hlayer
  have htgt : ∀ i < 8, (CAL.BETA_TGT.ix i).inPage ∧ (CAL.BETA_TGT.ix i).place ≠ hdrIntStatus.place ∧
      ∀ j < 16, (CAL.BETA_TGT.ix i).place ≠ (CAL.BETA_STEP.ix j).place := by decide
  obtain ⟨hinT, hintT, hbetas⟩ := htgt layer hlayer
  have hrecord : fget CAL.page (CAL.BETA_TGT.ix layer) (opcRecord head.n layer s) = fget CAL.page (CAL.BETA_TGT.ix layer) s :=
    (fget_opcRecord hintT hinT).trans ((fget_fset_place hinT hin (hne layer hlayer).2.2).trans
      (otherPages_runSent CAL.page (by cases head <;> decide) _ hinT))
  have hsame : fget CAL.page (CAL.BETA_TGT.ix layer) (opcMeasured head.n layer betas s) = fget CAL.page (CAL.BETA_TGT.ix layer) s :=
    (fget_opcMeasured hinT hbetas).trans hrecord
  unfold opcTarget fgetI
  rw [hsame]

/-- The write powers of a layer in LPW, with the running corrections at rest. -/
def powersSet (h layer : Nat) (pws : List Nat) (s : State) : State :=
  (List.range 8).foldl (fun t b => t |> fset (LPW.page h) ((if b % 2 = 0 then LPW.PW_EVEN else LPW.PW_ODD).ix (4 * layer + b / 2)) (pws.getD b 0)
    |> fset (LPW.page h) (LPW.RPC_CORR.ix b) 0x4000) s

theorem opcInstall_eq {h : Nat} : opcInstall h layer pws s = fset CAL.page (opcFld h) (setBit (fget CAL.page (opcFld h) (powersSet h layer pws s)) layer)
    { powersSet h layer pws s with opcs := (powersSet h layer pws s).opcs.insert (8 * h + layer) ⟨((powersSet h layer pws s).link h).feTemp, true⟩ } := rfl

theorem otherPages_powersSet (hlayer : layer < 8) : otherPages [LPW.page head.n] s (powersSet head.n layer pws s) := by
  have hin : ∀ layer < 8, ∀ b < 8, Fld.inPage ((if b % 2 = 0 then LPW.PW_EVEN else LPW.PW_ODD).ix (4 * layer + b / 2)) ∧ Fld.inPage (LPW.RPC_CORR.ix b) := by decide
  exact otherPages.refl.foldl fun u b hb => (otherPages.refl.fset (by simp) (hin layer hlayer b (List.mem_range.1 hb)).1).fset (by simp)
    (hin layer hlayer b (List.mem_range.1 hb)).2

theorem powersSet_link {h : Nat} : (powersSet h layer pws s).link h = s.link h :=
  (foldl_kept (P := fun t => Kept (fun u => u.link h) s t) (fun _ _ hk => fset_kept (fun _ => rfl) (fset_kept (fun _ => rfl) hk)) (.refl s)).view

theorem fget_withOpcs {os : Store OpcSt} : fget q g { s with opcs := os } = fget q g s := rfl

theorem fget_opcInstall (hlayer : layer < 8) (hg : g.inPage) (hne : g.place ≠ (opcFld head.n).place) :
    fget CAL.page g (opcInstall head.n layer pws s) = fget CAL.page g s := by
  obtain ⟨hin, -, -⟩ := opcFld_apart (head := head)
  rw [opcInstall_eq, fget_fset_place hg hin hne, fget_withOpcs]
  exact (otherPages_powersSet hlayer CAL.page (by cases head <;> decide) g hg)

/-- A result installed is valid, and carries the temperature of the front end (R336, R338). -/
theorem opcInstall_shows (hlayer : layer < 8) : bit (fget CAL.page (opcFld head.n) (opcInstall head.n layer pws s)) layer = true ∧
    (opcInstall head.n layer pws s).opcs.get (8 * head.n + layer) {} = ⟨(s.link head.n).feTemp, true⟩ := by
  obtain ⟨-, hwidth, -⟩ := opcFld_apart (head := head)
  constructor
  · rw [opcInstall_eq, fget_fset_same]
    exact bit_trunc_setBit (hwidth ▸ hlayer)
  · rw [opcInstall_eq, ← powersSet_link (layer := layer) (pws := pws) (s := s)]
    exact congrArg (fun o : Option OpcSt => o.getD {}) (Store.find_insert_same ..)

theorem opcDone_kept {α : Type} {m : State → α} {h : Nat} (hm : ∀ u, m u = m { u with regs := [], evq := [], out := [], msixPend := 0 }) :
    Kept m s (opcDone h layer p s) :=
  emit_kept (sub hm) (cnt_kept (sub hm) (raise_kept (sub hm) (opcState_kept (sub hm) (.refl s))))

theorem fget_opcDone (hg : g.inPage) (hstate : g.place ≠ (opcStateFld head.n).place) (hint : g.place ≠ hdrIntStatus.place) (hcnt : g.place ≠ CAL.OPC_CNT.place)
    (hsticky : g.place ≠ hdrSticky.place) : fget CAL.page g (opcDone head.n layer p s) = fget CAL.page g s :=
  (fget_emit ..).trans ((fget_cnt_place hg (by decide) hcnt hsticky).trans ((fget_raise_place hg hint).trans (fget_fset_place hg opcStateFld_apart.1 hstate)))

/-- What a run that ends well shows. -/
theorem opcDone_shows : fget CAL.page (opcStateFld head.n) (opcDone head.n layer p s) = 2 ∧
    hasInt CAL.page (if head.n = 0 then CAL.iOPC_DONE_L else CAL.iOPC_DONE_U) (opcDone head.n layer p s) ∧
    (opcDone head.n layer p s).evq.getLast? = some ⟨0x4105, srcChan head.n, head.n, layer % 2 ^ 32, p % 2 ^ 32, false⟩ := by
  obtain ⟨hin, hwidth, hapart⟩ := opcStateFld_apart (head := head)
  simp only [List.map_cons, List.map_nil, List.mem_cons, List.not_mem_nil, or_false, not_or] at hapart
  obtain ⟨hint, -, hsticky, -, hcnt, -⟩ := hapart
  refine ⟨?_, ?_, ?_⟩
  · refine (fget_emit ..).trans ((fget_cnt_place hin (by decide) hcnt hsticky).trans ((fget_raise_place hin hint).trans (fget_fset_lt ?_)))
    rw [hwidth]
    decide
  · refine (hasInt_congr (fget_emit ..)).2 (hasInt.cnt (hasInt_raise ?_) (by decide) (by decide))
    cases head <;> decide
  · unfold opcDone
    rw [emit_evq, List.getLast?_concat, Nat.mod_eq_of_lt (show head.n < 2 ^ 32 by cases head <;> decide)]

/-! ### OPC_RUN that succeeds (R340) -/

/-- The state that a run's end is shown in: its results, installed where asked. -/
def opcEnded (h layer : Nat) (install : Bool) (pws : List Nat) (xs : List (Nat × Rat)) (s : State) : State :=
  if install then opcInstall h layer pws (opcResults pws xs (opcDrawn h layer s)) else opcResults pws xs (opcDrawn h layer s)

theorem opcConcluded_eq {h : Nat} {install : Bool} {bs : List (List Rat)} {tgt : Rat} :
    ∃ pws xs p, opcConcluded h layer install bs tgt s = opcDone h layer p (opcEnded h layer install pws xs s) := ⟨_, _, _, rfl⟩

theorem opcDrawn_kept {α : Type} {m : State → α} {h : Nat} (hm : ∀ u, m u = m { u with free := 0 }) : m (opcDrawn h layer s) = m s :=
  ite_kept (P := fun x => m x = m s) ((hm _).trans (hm s).symm) rfl

theorem opcResults_kept {α : Type} {m : State → α} (hm : ∀ u, m u = m { u with regs := [] }) : Kept m s (opcResults pws xs s) :=
  foldl_kept (P := fun x => Kept m s x) (fun _ _ hk => fset_kept (sub hm) (fset_kept (sub hm) hk)) (.refl s)

theorem opcEnded_view {α : Type} {m : State → α} {h : Nat} {install : Bool} (hm : ∀ u, m u = m { u with free := 0, regs := [], opcs := [] }) :
    m (opcEnded h layer install pws xs s) = m s := by
  have hshown : m (opcResults pws xs (opcDrawn h layer s)) = m s :=
    (opcResults_kept (sub hm)).view.trans (opcDrawn_kept (sub hm))
  exact ite_kept (P := fun x => m x = m s) ((opcInstall_kept (sub hm) (.refl _)).view.trans hshown) hshown

/-- Past its results and its validity, the end of a run leaves the CAL page. -/
theorem fget_opcEnded {install : Bool} (hlayer : layer < 8) (hg : g.inPage) (hres : ∀ i < 8, g.place ≠ (CAL.RES.ix i).place ∧ g.place ≠ (CAL.RES_STEP.ix i).place)
    (hvalid : g.place ≠ (opcFld head.n).place) : fget CAL.page g (opcEnded head.n layer install pws xs s) = fget CAL.page g s := by
  have hshown : fget CAL.page g (opcResults pws xs (opcDrawn head.n layer s)) = fget CAL.page g s :=
    (fget_opcResults hg hres).trans (opcDrawn_kept (m := fget CAL.page g) fun _ => rfl)
  exact ite_kept (P := fun x => fget CAL.page g x = fget CAL.page g s) ((fget_opcInstall hlayer hg hvalid).trans hshown) hshown

/-- A result that is asked for is installed. -/
theorem opcEnded_installs (hlayer : layer < 8) : bit (fget CAL.page (opcFld head.n) (opcEnded head.n layer true pws xs s)) layer = true ∧
    (opcEnded head.n layer true pws xs s).opcs.get (8 * head.n + layer) {} = ⟨(s.link head.n).feTemp, true⟩ := by
  obtain ⟨hvalid, hresult⟩ := opcInstall_shows (head := head) (pws := pws) (s := opcResults pws xs (opcDrawn head.n layer s)) hlayer
  have hlink : (opcResults pws xs (opcDrawn head.n layer s)).link head.n = s.link head.n :=
    (opcResults_kept (m := fun u => u.link head.n) fun _ => rfl).view.trans (opcDrawn_kept (m := fun u => u.link head.n) fun _ => rfl)
  exact ⟨hvalid, hlink ▸ hresult⟩

theorem opcMeasured_view {α : Type} {m : State → α} {h : Nat} (hm : ∀ u, m u = m { u with regs := [], evq := [], out := [], msixPend := 0, betas := [] }) :
    m (opcMeasured h layer betas s) = m s := by
  have hrecord : m (opcRecord h layer s) = m s := (opcRecord_kept (sub hm) (.refl s)).view
  have hbetas : m { opcRecord h layer s with betas := betas } = m (opcRecord h layer s) := (hm _).trans (hm (opcRecord h layer s)).symm
  exact (showBetas_kept (sub hm) (.refl _)).view.trans (hbetas.trans hrecord)

/-- The parts of the state that a run leaves alone. -/
def opcFrame (s : State) : State := [Part.free, .regs, .evq, .out, .msixPend, .opcs, .betas].foldr State.clear s

theorem sameBut_opcDone {h : Nat} {install : Bool} : sameBut [.free, .regs, .evq, .out, .msixPend, .opcs, .betas] s
    (opcDone h layer p (opcEnded h layer install pws xs (opcMeasured h layer betas s))) := by
  change opcFrame _ = opcFrame s
  rw [(opcDone_kept (m := opcFrame) fun _ => rfl).view, opcEnded_view (m := opcFrame) fun _ => rfl, opcMeasured_view (m := opcFrame) fun _ => rfl]

theorem getD_map_range {α : Type} {F : Nat → α} {d : α} (hk : k < n) : ((List.range n).map F).getD k d = F k := by
  rw [List.getD_eq_getElem?_getD, List.getElem?_map, List.getElem?_range hk]
  rfl

theorem opcRun_succeeds {tgt : Rat} (hhead : r.head = head) (hmc : getMcState head.n s = 3) (hfocus : getLoop (4 * head.n) s = 2)
    (htrack : getLoop (4 * head.n + 1) s = 2) (hroom : fget CAL.page (nextRunFld head.n (r.layer % 8)) s < 256) (hrec : recording head.n s = false)
    (hlost : r.lostTrack = false) (hdisturbed : r.disturbed = false) (hrevs : r.badRevs < 3)
    (htgt : tgt = (fgetI CAL.page (CAL.BETA_TGT.ix (r.layer % 8)) s : Rat) / 32768)
    (hreach : ∀ b < 8, betaOf ((r.blocks.getD b []).getD 0 []) < tgt ∧ tgt ≤ betaOf ((r.blocks.getD b []).getD 15 [])) : Completes (.opcRun r) s fun t =>
      fget CAL.page (if head.n = 0 then CAL.STATUS_STATE_L else CAL.STATUS_STATE_U) t = 2 ∧
      fget CAL.page (nextRunFld head.n (r.layer % 8)) t = fget CAL.page (nextRunFld head.n (r.layer % 8)) s + 1 ∧
      (r.install = true → bit (fget CAL.page (opcFld head.n) t) (r.layer % 8) = true ∧
        (t.opcs.get (8 * head.n + r.layer % 8) {}) = ⟨(s.link head.n).feTemp, true⟩) ∧
      hasInt CAL.page (if head.n = 0 then CAL.iOPC_DONE_L else CAL.iOPC_DONE_U) t ∧
      (∃ e, t.evq.getLast? = some e ∧ e.code = 0x4105 ∧ e.src = srcChan head.n ∧ e.p0 = head.n ∧ e.p1 = r.layer % 8) ∧
      sameBut [.free, .regs, .evq, .out, .msixPend, .opcs, .betas] s t := by
  have hlayer : r.layer % 8 < 8 := Nat.mod_lt _ (by decide)
  have hsame : opcTarget (r.layer % 8) (opcMeasured head.n (r.layer % 8) ((measuredBetas r).map fun x => x.map betaQ) s) = tgt :=
    (opcTarget_opcMeasured hlayer).trans htgt.symm
  have hbetas : ∀ x ∈ measuredBetas r, ¬tgt ≤ x.getD 0 0 ∧ ¬x.getD 15 0 < tgt := by
    intro x hx
    obtain ⟨b, hb, rfl⟩ := List.mem_map.1 hx
    rw [getD_map_range (by decide), getD_map_range (by decide), not_le, not_lt]
    exact hreach b (List.mem_range.1 hb)
  have hrun := exec_opcRun hhead hmc hfocus htrack hroom hrec hlost hdisturbed hrevs (by rw [hsame]; exact hbetas)
  obtain ⟨pws, xs, p, hend⟩ := opcConcluded_eq (h := head.n) (layer := r.layer % 8) (install := r.install) (bs := measuredBetas r)
    (tgt := opcTarget (r.layer % 8) (opcMeasured head.n (r.layer % 8) ((measuredBetas r).map fun x => x.map betaQ) s))
    (s := opcMeasured head.n (r.layer % 8) ((measuredBetas r).map fun x => x.map betaQ) s)
  rw [hend] at hrun
  clear hend
  obtain ⟨hstate, hint, hevent⟩ := opcDone_shows (head := head) (layer := r.layer % 8) (p := p)
    (s := opcEnded head.n (r.layer % 8) r.install pws xs (opcMeasured head.n (r.layer % 8) ((measuredBetas r).map fun x => x.map betaQ) s))
  refine ⟨_, hrun, hstate, ?_, ?_, hint, ⟨_, hevent, rfl, rfl, rfl, Nat.mod_eq_of_lt (Nat.lt_trans hlayer (by decide))⟩, ?_⟩
  · obtain ⟨hin, -, hbeta, hres, hapart⟩ := nextRunFld_apart (head := head) hlayer
    simp only [List.map_cons, List.map_nil, List.mem_cons, List.not_mem_nil, or_false, not_or] at hapart
    obtain ⟨hneInt, hneSticky, hneCnt, hvalidL, hvalidU, hstateL, hstateU⟩ := hapart
    have hneState : (nextRunFld head.n (r.layer % 8)).place ≠ (opcStateFld head.n).place :=
      ite_kept (P := fun f : Fld => (nextRunFld head.n (r.layer % 8)).place ≠ f.place) hstateL hstateU
    have hneValid : (nextRunFld head.n (r.layer % 8)).place ≠ (opcFld head.n).place :=
      ite_kept (P := fun f : Fld => (nextRunFld head.n (r.layer % 8)).place ≠ f.place) hvalidL hvalidU
    rw [fget_opcDone hin hneState hneInt hneCnt hneSticky, fget_opcEnded hlayer hin (fun i hi => ⟨(hres i hi).1, (hres i hi).2.1⟩) hneValid]
    rw [fget_opcMeasured hin hbeta, fget_nextRun_opcRecord hlayer hroom]
  · intro hinstall
    obtain ⟨hin, -, hapart⟩ := opcFld_apart (head := head)
    simp only [List.map_cons, List.map_nil, List.mem_cons, List.not_mem_nil, or_false, not_or] at hapart
    obtain ⟨hneInt, -, hneSticky, -, hneCnt, hstateL, hstateU⟩ := hapart
    have hneState : (opcFld head.n).place ≠ (opcStateFld head.n).place := ite_kept (P := fun f : Fld => (opcFld head.n).place ≠ f.place) hstateL hstateU
    obtain ⟨hvalid, hresult⟩ := opcEnded_installs (head := head) (pws := pws) (xs := xs)
      (s := opcMeasured head.n (r.layer % 8) ((measuredBetas r).map fun x => x.map betaQ) s) hlayer
    rw [hinstall, fget_opcDone hin hneState hneInt hneCnt hneSticky, (opcDone_kept (m := State.opcs) fun _ => rfl).view]
    exact ⟨hvalid, hresult.trans (by rw [opcMeasured_view (m := fun u => u.link head.n) fun _ => rfl])⟩
  · exact sameBut_opcDone

/-! ### OPC_INVALIDATE (R338) -/

variable {why : OpcEnd} {l : Fin 8}

/-- A result's validity taken back. -/
def opcCleared (h layer : Nat) (s : State) : State := fset CAL.page (opcFld h) (clrBit (fget CAL.page (opcFld h) s) layer) s

theorem opcInvalidate_clears
    (hwhy : ¬(why = .temperature ∧ ((s.link head.n).feTemp - (s.opcs.get (8 * head.n + l) {}).temp).natAbs ≤ 8 * fget CAL.page CAL.OPC_TRIG_OPC_DT s)) :
    Completes (.opcInvalidate head l why) s fun t => (recording head.n s = false ∨ fget (LPW.page head.n) LPW.STATUS_LAYER s ≠ l →
      bit (fget CAL.page (opcFld head.n) t) l = false ∧ sameBut [.regs] s t ∧ otherFields CAL.page [opcFld head.n] s t) := by
  have hrun : exec (.opcInvalidate head l why) s = .next (if recording head.n (opcCleared head.n l s) && fget (LPW.page head.n) LPW.STATUS_LAYER (opcCleared head.n l s) = l
      then requestSuspend head.n 6 (opcCleared head.n l s) else opcCleared head.n l s) := if_neg (by simpa using hwhy)
  refine ⟨_, hrun, fun hquiet => ?_⟩
  have hrec : recording head.n (opcCleared head.n l s) = recording head.n s :=
    fon_congr (fget_fset_other _ _ (by cases head <;> decide))
  have hlayer : fget (LPW.page head.n) LPW.STATUS_LAYER (opcCleared head.n l s) = fget (LPW.page head.n) LPW.STATUS_LAYER s :=
    fget_fset_other _ _ (by cases head <;> decide)
  rw [hrec, hlayer, if_neg (by rcases hquiet with h | h <;> simp [h])]
  exact ⟨(congrArg (bit · l) (fget_fset_same ..)).trans bit_trunc_clrBit, rfl, otherFields_fset _ _ _ _⟩

theorem opcInvalidate_warm (hwarm : ((s.link head.n).feTemp - (s.opcs.get (8 * head.n + l) {}).temp).natAbs ≤ 8 * fget CAL.page CAL.OPC_TRIG_OPC_DT s) :
    Completes (.opcInvalidate head l .temperature) s fun t => t = s := ⟨s, if_pos (by simpa using hwarm), rfl⟩

/-- Settles O31: clause by clause, a recording armed, relinked and suspended, and the write power calibrated. -/
theorem recordingAndCalibration : Obligations.RecordingAndCalibration := by
  unfold Obligations.RecordingAndCalibration
  intro s head
  refine ⟨fun psas window offset seq hdla hnone => recordingArm_nothing hdla hnone,
    fun psas window offset seq e es hdla hsome hside hone hrec hsusp => recordingArm_clauses hdla hsome hside hone hrec hsusp,
    fun ahead window offset seq hnone => relink_idle hnone,
    fun ahead window offset seq cause e es hsusp hem hcleared hahead hready => relink_continues hsusp hem hcleared hahead hready,
    boost_shows, lpwEnable_shows, fun cause hidle => recordingSuspend_idle hidle, recordingSuspend_atGap,
    fun cause hcause hrec hwr hsusp => recordingSuspend_ends hcause hrec hwr hsusp, fun r hhead hno => opcRun_notFollowing hhead hno,
    fun r hhead hmc hfocus htrack hfull => opcRun_full hhead hmc hfocus htrack hfull, ?_, fun l why hwhy => opcInvalidate_clears hwhy,
    fun l hwarm => opcInvalidate_warm hwarm⟩
  intro r tgt hhead hmc hfocus htrack hroom hrec hlost hdisturbed hrevs htgt hreach
  exact opcRun_succeeds hhead hmc hfocus htrack hroom hrec hlost hdisturbed hrevs htgt hreach

end Sys2Proof.Machine
end

section
/-!
PROOFS. What the operations on registers, counters, interrupts and messages leave of the memory island's record, and which fields of a page
and which interrupts they leave standing.
-/
namespace Sys2Proof.Machine

variable {s t u : State} {p q b c n v : Nat} {f g lo hi : Fld} {fs : List Fld} {ps : List Nat}

/-! ### The memory island's record -/

@[simp] theorem fsetB_mem {on : Bool} : (fsetB p f on s).mem = s.mem := rfl

@[simp] theorem sticky_mem : (sticky p b s).mem = s.mem := rfl

@[simp] theorem fault_mem : (fault p c s).mem = s.mem := rfl

@[simp] theorem cnt_mem : (cnt p f c s).mem = s.mem := (cnt_kept (m := State.mem) (fun _ => rfl) (.refl s)).view

@[simp] theorem cnt64_mem : (cnt64 p lo hi c n s).mem = s.mem := (cnt64_kept (m := State.mem) (fun _ => rfl) (.refl s)).view

@[simp] theorem raise_mem : (raise p b s).mem = s.mem := (raise_kept (m := State.mem) (fun _ => rfl) (.refl s)).view

@[simp] theorem pmc_mem : (pmc p q n s).mem = s.mem := (pmc_kept (m := State.mem) (fun _ => rfl) (.refl s)).view

/-! ### Fields of a page -/

/-- Registers alone decide which fields read as before. -/
theorem otherFields.congr (h : otherFields p fs s t) (hregs : u.regs = t.regs) (hprof : u.prof = t.prof) : otherFields p fs s u :=
  fun q g hg => (fget_congr hregs hprof q g).trans (h q g hg)

theorem otherFields.cnt (h : otherFields p fs s t) (hf : f ∈ fs) (hsticky : hdrSticky ∈ fs) : otherFields p fs s (Machine.cnt p f c t) :=
  ite_kept (P := fun x => otherFields p fs s x) (h.fset hf) ((h.fset hf).fset hsticky)

theorem otherFields.raise (h : otherFields p fs s t) (hint : hdrIntStatus ∈ fs) : otherFields p fs s (Machine.raise p b t) :=
  fun q g hg => (fget_raise ..).trans (h.fset hint q g hg)

theorem otherFields_sticky : otherFields p [hdrSticky] s (sticky p b s) := otherFields_fset _ _ _ _

/-! ### Interrupts that stand -/

theorem hasInt.of_otherPages (hi : hasInt p b s) (h : otherPages ps s t) (hp : p ∉ ps) : hasInt p b t :=
  (hasInt_congr (h p hp _ (by decide))).2 hi

theorem hasInt.sticky (hi : hasInt p b s) : hasInt p b (Machine.sticky q c s) := hi.fset (by decide) (by decide)

/-- A counter of 32 bits that has room counts one more. -/
theorem fget_cnt_succ (hwidth : f.width = 32) (hroom : fget p f s < 2 ^ 32 - 1) : fget p f (cnt p f c s) = fget p f s + 1 :=
  fget_cntN_below _ _ _ _ _ (by rw [hwidth]; omega)

end Sys2Proof.Machine
end

section
/-!
PROOFS. The check field of a staging byte (R377) is linear in the byte, so what a read decides (R378) depends on the bits flipped alone; and what
a read leaves of the array (R379, R380).
-/
namespace Sys2Proof.Machine

variable {s t : State} {a c d e x y v w who i n : Nat} {l : List Nat}

/-! ### The check field (R377, R378) -/

theorem bne_bne_swap : ∀ x y z w : Bool, ((x != y) != (z != w)) = ((x != z) != (y != w)) := by decide

/-- The sum of chosen bits goes on from the sum so far. -/
theorem foldl_xorBits {bs : List Nat} {k m : Bool} : bs.foldl (fun a b => a != bit (v ^^^ w) b) (k != m) =
    (bs.foldl (fun a b => a != bit v b) k != bs.foldl (fun a b => a != bit w b) m) := by
  induction bs generalizing k m with
  | nil => rfl
  | cons b bs ih =>
    have hbit : ((k != m) != bit (v ^^^ w) b) = ((k != bit v b) != (m != bit w b)) := by
      unfold bit
      rw [Nat.testBit_xor, ← Bool.bne_eq_xor, bne_bne_swap]
    simp only [List.foldl_cons, hbit, ih]

theorem xorBits_xor (v w : Nat) (bs : List Nat) : xorBits (v ^^^ w) bs = (xorBits v bs != xorBits w bs) := foldl_xorBits (k := false) (m := false)

/-- The parity bit p of the check field. -/
def checkParity (d : Nat) : Bool :=
  xorBits d [ 0, 1, 2, 3, 4, 5, 6, 7 ] != (xorBits d [ 0, 1, 3, 4, 6 ] != (xorBits d [ 0, 2, 3, 5, 6 ] != (xorBits d [ 1, 2, 3, 7 ] != xorBits d [ 4, 5, 6, 7 ])))

/-- The check field's bits, from the least significant on. -/
theorem checkOf_eq_bits (d : Nat) : checkOf d = Nat.bit (xorBits d [ 0, 1, 3, 4, 6 ]) (Nat.bit (xorBits d [ 0, 2, 3, 5, 6 ])
    (Nat.bit (xorBits d [ 1, 2, 3, 7 ]) (Nat.bit (xorBits d [ 4, 5, 6, 7 ]) (Nat.bit (checkParity d) 0)))) := by
  have hb2n : ∀ b : Bool, b2n b = b.toNat := by decide
  simp only [checkOf, hb2n, Nat.bit_val, checkParity]
  omega

theorem checkParity_xor (d e : Nat) : checkParity (d ^^^ e) = (checkParity d != checkParity e) := by
  simp only [checkParity, xorBits_xor]
  rw [bne_bne_swap (xorBits d [ 1, 2, 3, 7 ]), bne_bne_swap (xorBits d [ 0, 2, 3, 5, 6 ]), bne_bne_swap (xorBits d [ 0, 1, 3, 4, 6 ]), bne_bne_swap (xorBits d _)]

/-- The check field of a sum is the sum of the check fields. -/
theorem checkOf_xor (d e : Nat) : checkOf (d ^^^ e) = checkOf d ^^^ checkOf e := by
  simp only [checkOf_eq_bits, xorBits_xor, checkParity_xor, Nat.xor_bit, Nat.xor_self]

theorem checkOf_lt (d : Nat) : checkOf d < 32 := by
  change checkOf d < 2 ^ 5
  rw [checkOf_eq_bits]
  simp only [Nat.bit_lt_two_pow_succ_iff]
  decide

/-- A byte and its own check field have even parity together. -/
theorem xorBits_checkOf (d : Nat) : xorBits (checkOf d) [ 0, 1, 2, 3, 4 ] = xorBits d [ 0, 1, 2, 3, 4, 5, 6, 7 ] := by
  rw [checkOf_eq_bits]
  have hbits : ∀ (c0 c1 c2 c3 p : Bool), xorBits (Nat.bit c0 (Nat.bit c1 (Nat.bit c2 (Nat.bit c3 (Nat.bit p 0))))) [ 0, 1, 2, 3, 4 ] =
      (p != (c0 != (c1 != (c2 != c3)))) := by decide
  rw [hbits, checkParity]
  simp

/-- What a read decides as what is flipped in a byte, added to the byte. -/
def SbEnd.onto (d : Nat) : SbEnd → SbEnd
  | .good => .good
  | .corrected v y => .corrected (d ^^^ v) y
  | .bad => .bad

/-- A read of a byte with bits flipped decides as it would of the bits flipped in a zero byte. -/
theorem sbDecide_flipped (d e c : Nat) : sbDecide (d ^^^ e) (checkOf d ^^^ c) = (sbDecide e c).onto d := by
  have hsynd : checkOf (d ^^^ e) ^^^ (checkOf d ^^^ c) = checkOf e ^^^ c := by
    rw [checkOf_xor, Nat.xor_comm (checkOf d) (checkOf e), Nat.xor_assoc, ← Nat.xor_assoc (checkOf d), Nat.xor_self, Nat.zero_xor]
  have hparity : (xorBits (d ^^^ e) [ 0, 1, 2, 3, 4, 5, 6, 7 ] != xorBits (checkOf d ^^^ c) [ 0, 1, 2, 3, 4 ]) =
      (xorBits e [ 0, 1, 2, 3, 4, 5, 6, 7 ] != xorBits c [ 0, 1, 2, 3, 4 ]) := by
    rw [xorBits_xor, xorBits_xor, xorBits_checkOf]
    generalize xorBits d _ = x, xorBits e _ = y, xorBits c _ = z
    revert x y z
    decide
  unfold sbDecide
  rw [hsynd, hparity]
  dsimp only
  split_ifs <;> simp only [SbEnd.onto, Nat.xor_assoc]

/-- A byte with its own check field is good. -/
theorem sbDecide_checkOf (d : Nat) : sbDecide d (checkOf d) = .good := by
  have hflipped := sbDecide_flipped d 0 0
  rwa [Nat.xor_zero, Nat.xor_zero, show sbDecide 0 0 = .good by decide] at hflipped

/-- The syndrome of a single bit: its Hamming position, or 0 for the parity bit. -/
def bitSyndrome (k : Fin 13) : Nat := (hamPos ++ [ 1, 2, 4, 8, 0 ]).getD k 0

/-- One bit flipped, in the byte or in its check field, is corrected to the byte (R378). -/
theorem sbDecide_one (d : Nat) (k : Fin 13) :
    sbDecide (d ^^^ 2 ^ k.val % 256) (checkOf d ^^^ 2 ^ k.val / 256) = .corrected d (bitSyndrome k) := by
  have hzero : ∀ k : Fin 13, sbDecide (2 ^ k.val % 256) (2 ^ k.val / 256) = .corrected 0 (bitSyndrome k) := by decide
  rw [sbDecide_flipped, hzero, SbEnd.onto, Nat.xor_zero]

/-! ### The array (R379) -/

theorem sbGet_congr (hdata : t.mem.sdata = s.mem.sdata) (herr : t.mem.serr = s.mem.serr) : sbGet a t = sbGet a s := by
  unfold sbGet
  rw [hdata, herr]

/-- A byte and its check field read as they were stored. -/
@[simp] theorem sbGet_sbPut_same : sbGet a (sbPut a d c s) = (d % 256, c % 32) := by
  unfold sbGet sbPut
  simp only [setMem_mem, Store.get_put_same, ← Nat.xor_assoc, Nat.xor_self, Nat.zero_xor]

theorem sbGet_sbPut_other (hne : x ≠ a) : sbGet x (sbPut a d c s) = sbGet x s := by
  unfold sbGet sbPut
  simp only [setMem_mem, Store.get_put_other _ _ _ _ _ _ hne]

/-- A byte whose check field is right reads with it. -/
theorem sbGet_of_serr_zero (herr : s.mem.serr.get a 0 = 0) : sbGet a s = (s.mem.sdata.get a 0, checkOf (s.mem.sdata.get a 0)) := by
  unfold sbGet
  simp only [herr, Nat.xor_zero]

theorem sbFlip_eq (a e : Nat) (s : State) : sbFlip a e s = sbPut a ((sbGet a s).1 ^^^ e % 256) ((sbGet a s).2 ^^^ e / 256) s := rfl

/-! ### A byte read (R378 to R380) -/

/-- What a read decides of a byte of the array. -/
def sbFinds (a : Nat) (s : State) : SbEnd := sbDecide (sbGet a s).1 (sbGet a s).2

theorem sbFinds_congr (h : sbGet a t = sbGet a s) : sbFinds a t = sbFinds a s := by
  unfold sbFinds
  rw [h]

theorem sbBad_iff : sbBad a s = true ↔ sbFinds a s = .bad := beq_iff_eq

/-- A byte that cannot be corrected is reported. -/
def sbReported (who a : Nat) (s : State) : State :=
  s |> cnt SBF.page SBF.UNCORR_CNT SBF.kCNT_SAT |> fset SBF.page SBF.LAST_ERR_ADDR a |> raise SBF.page SBF.iUNCORR
    |> fault SBF.page 0x01 |> emit 0x7011 srcMem a (a / 65536) who

theorem sbRead_of_good (h : sbFinds a s = .good) : sbRead who a s = s := by
  unfold sbFinds at h
  unfold sbRead
  simp only [h]

theorem sbRead_of_corrected (h : sbFinds a s = .corrected v y) : sbRead who a s = sbCorr a y (sbPut a v (checkOf v) s) := by
  unfold sbFinds at h
  unfold sbRead
  simp only [h]

theorem sbRead_of_bad (h : sbFinds a s = .bad) : sbRead who a s = sbReported who a s := by
  unfold sbFinds at h
  unfold sbRead
  simp only [h]
  rfl

/-- A correction counted leaves the array alone. -/
theorem sbGet_sbCorr : sbGet x (sbCorr a y s) = sbGet x s := by
  unfold sbCorr
  extract_lets xs due m u
  have hu : sbGet x u = sbGet x s := sbGet_congr rfl rfl
  exact ite_kept (P := fun z => sbGet x z = sbGet x s) hu hu

theorem sbGet_sbReported : sbGet x (sbReported who a s) = sbGet x s := by
  unfold sbReported
  exact sbGet_congr (by simp) (by simp)

/-- A read changes no byte but its own. -/
theorem sbGet_sbRead_other (hne : x ≠ a) : sbGet x (sbRead who a s) = sbGet x s := by
  cases h : sbFinds a s with
  | good => rw [sbRead_of_good h]
  | corrected v y => rw [sbRead_of_corrected h, sbGet_sbCorr, sbGet_sbPut_other hne]
  | bad => rw [sbRead_of_bad h, sbGet_sbReported]

/-- A byte that cannot be corrected stays so, whatever is read. -/
theorem sbFinds_sbRead_of_bad (hbad : sbFinds x s = .bad) : sbFinds x (sbRead who a s) = .bad := by
  by_cases hx : x = a
  · subst hx
    rw [sbRead_of_bad hbad, sbFinds_congr sbGet_sbReported, hbad]
  · rw [sbFinds_congr (sbGet_sbRead_other hx), hbad]

/-! ### Bytes read in turn -/

theorem foldl_sbRead_of_good (hgood : ∀ i ∈ l, sbFinds (w + i) s = .good) : l.foldl (fun t i => sbRead who (w + i) t) s = s := by
  induction l with
  | nil => rfl
  | cons i l ih =>
    rw [List.foldl_cons, sbRead_of_good (hgood i (List.mem_cons_self ..))]
    exact ih fun j hj => hgood j (List.mem_cons_of_mem _ hj)

/-- Where one byte of those read is corrected and the others are good, that correction is all. -/
theorem foldl_sbRead_of_one (hnodup : l.Nodup) (hi : i ∈ l) (hgood : ∀ j ∈ l, j ≠ i → sbFinds (w + j) s = .good) (hone : sbFinds (w + i) s = .corrected v y) :
    l.foldl (fun t j => sbRead who (w + j) t) s = sbCorr (w + i) y (sbPut (w + i) v (checkOf v) s) := by
  obtain ⟨l, k, rfl⟩ := List.append_of_mem hi
  obtain ⟨-, hk, hdisjoint⟩ := List.nodup_append.1 hnodup
  have hbefore : l.foldl (fun t j => sbRead who (w + j) t) s = s :=
    foldl_sbRead_of_good fun j hj => hgood j (List.mem_append_left _ hj) (hdisjoint j hj i (List.mem_cons_self ..))
  rw [List.foldl_append, hbefore, List.foldl_cons, sbRead_of_corrected hone]
  refine foldl_sbRead_of_good fun j hj => ?_
  have hne : j ≠ i := fun h => (List.nodup_cons.1 hk).1 (h ▸ hj)
  rw [sbFinds_congr (sbGet_sbCorr.trans (sbGet_sbPut_other (by omega)))]
  exact hgood j (List.mem_append_right _ (List.mem_cons_of_mem _ hj)) hne

/-! ### What a read shows on the page (R379, R380) -/

/-- A correction shows CORR, and counts. -/
theorem sbCorr_shows : hasInt SBF.page SBF.iCORR (sbCorr a y s) ∧
    (fget SBF.page SBF.CORR_CNT s < 2 ^ 32 - 1 → fget SBF.page SBF.CORR_CNT (sbCorr a y s) = fget SBF.page SBF.CORR_CNT s + 1) := by
  unfold sbCorr
  extract_lets xs due m u
  have hint : hasInt SBF.page SBF.iCORR u := hasInt_raise (by decide)
  have hcnt : fget SBF.page SBF.CORR_CNT s < 2 ^ 32 - 1 → fget SBF.page SBF.CORR_CNT u = fget SBF.page SBF.CORR_CNT s + 1 := fun hroom =>
    (fget_raise_place (by decide) (by decide)).trans (fget_cnt_succ rfl hroom)
  exact ite_kept (P := fun z => hasInt SBF.page SBF.iCORR z ∧ (fget SBF.page SBF.CORR_CNT s < 2 ^ 32 - 1 →
    fget SBF.page SBF.CORR_CNT z = fget SBF.page SBF.CORR_CNT s + 1)) ⟨hint, hcnt⟩ ⟨hint, hcnt⟩

/-- A byte delivered with an error has been reported (R380). -/
def lossShown (s : State) : Prop := hasInt SBF.page SBF.iUNCORR s ∧ fget SBF.page hdrFault s = 0x01

theorem lossShown_sbReported : lossShown (sbReported who a s) := by
  have hraised : ∀ u, lossShown (fault SBF.page 0x01 (raise SBF.page SBF.iUNCORR u)) := fun u =>
    ⟨(hasInt_raise (by decide)).fset (by decide) (by decide), fget_fset_lt (by decide)⟩
  exact hraised _

theorem lossShown.sbCorr (h : lossShown s) : lossShown (sbCorr a y s) := by
  obtain ⟨hint, hfault⟩ := h
  unfold Machine.sbCorr
  extract_lets xs due m u
  have hu : lossShown u := ⟨(hint.cnt (by decide) (by decide)).raise (by decide),
    (fget_raise_place (by decide) (by decide)).trans ((fget_cnt_place (by decide) (by decide) (by decide) (by decide)).trans hfault)⟩
  exact ite_kept (P := lossShown) hu hu

theorem lossShown.sbRead (h : lossShown s) : lossShown (sbRead who a s) := by
  cases hfinds : sbFinds a s with
  | good => rwa [sbRead_of_good hfinds]
  | corrected v y =>
    rw [sbRead_of_corrected hfinds]
    exact lossShown.sbCorr h
  | bad =>
    rw [sbRead_of_bad hfinds]
    exact lossShown_sbReported

/-- Where a byte among those read cannot be corrected, it is reported. -/
theorem lossShown_foldl_sbRead (ha : a ∈ l) (hbad : sbFinds a s = .bad) : lossShown (l.foldl (fun t a => sbRead who a t) s) := by
  induction l generalizing s with
  | nil => cases ha
  | cons x l ih =>
    rw [List.foldl_cons]
    rcases List.mem_cons.1 ha with rfl | hlater
    · rw [sbRead_of_bad hbad]
      exact List.foldlRecOn (motive := lossShown) _ _ lossShown_sbReported fun t ht x _ => ht.sbRead
    · exact ih hlater (sbFinds_sbRead_of_bad hbad)

end Sys2Proof.Machine
end

section
/-!
PROOFS. Staging buffers reserved, waiting and released (R376, R431), and what becomes of a cluster whose staged data are lost (R299, R380).
-/
namespace Sys2Proof.Machine

variable {s t u : State} {p q b c n v x y a h psa cause k : Nat} {f g lo hi : Fld} {write : Bool} {j : Judged} {d : HeldCl}

/-! ### Free buffers shown (R376, R392) -/

/-- The fields that show how many buffers are free. -/
def bufFields : List Fld := [ SBF.STATUS_BUFS_FREE, SBF.BUFS_MIN ]

theorem otherFields_showBufs : otherFields SBF.page bufFields s (showBufs s) := by
  have hfree : otherFields SBF.page bufFields s (fset SBF.page SBF.STATUS_BUFS_FREE (512 - s.mem.bufs.length) s) :=
    (otherFields.refl _ _ s).fset (by decide)
  exact ite_kept (P := fun z => otherFields SBF.page bufFields s z) (hfree.fset (by decide)) hfree

@[simp] theorem showBufs_mem : (showBufs s).mem = s.mem := (showBufs_kept (m := State.mem) (fun _ => rfl) (.refl s)).view

theorem fget_free_showBufs : fget SBF.page SBF.STATUS_BUFS_FREE (showBufs s) = (512 - s.mem.bufs.length) % 2 ^ SBF.STATUS_BUFS_FREE.width :=
  (fget_fmin_place (by decide) (by decide) (by decide)).trans (fget_fset_same ..)

theorem otherFields_reserveBuf : otherFields SBF.page bufFields s (reserveBuf psa h write s) :=
  fun q g hg => otherFields_showBufs q g hg

theorem otherFields_grantBufs : otherFields SBF.page bufFields s (grantBufs n s) := by
  induction n generalizing s with
  | zero => exact .refl _ _ s
  | succ n ih =>
    unfold grantBufs
    split
    · exact .refl _ _ s
    · exact fun q g hg => (ih q g hg).trans (otherFields_reserveBuf q g hg)

theorem otherFields_freeBuf : otherFields SBF.page bufFields s (freeBuf n s) :=
  fun q g hg => (otherFields_grantBufs q g hg).trans (otherFields_showBufs q g hg)

/-- With no reservation waiting, a buffer is freed and shown. -/
theorem freeBuf_of_no_waits (hwaits : s.mem.bufWaits = []) : freeBuf n s = showBufs (setMem { s.mem with bufs := s.mem.bufs.erase n } s) := by
  unfold freeBuf
  simp only [showBufs_mem, setMem_mem, hwaits, List.length_nil, grantBufs]

theorem lossShown.freeBuf (hshown : lossShown s) : lossShown (freeBuf n s) := by
  obtain ⟨hint, hfault⟩ := hshown
  exact ⟨(hasInt_congr (otherFields_freeBuf _ _ (by decide))).2 hint, (otherFields_freeBuf _ _ (by decide)).trans hfault⟩

/-! ### A lost cluster that SQUALL takes, or that ends (R299, R302 to R309) -/

/-- The pages that the way of a cluster into SQUALL, or its end, writes. -/
def failPages : List Nat := DEC.page :: XTS.page :: endPages

/-- Only those pages are written, and no interrupt of the decode island goes away. -/
structure FailsOn (s t : State) : Prop where
  pages : otherPages failPages s t
  ints : ∀ b < 32, hasInt DEC.page b s → hasInt DEC.page b t

theorem FailsOn.refl : FailsOn s s := ⟨.refl, fun _ _ => id⟩

theorem FailsOn.congr (h : FailsOn s t) (hregs : u.regs = t.regs) (hprof : u.prof = t.prof) : FailsOn s u :=
  ⟨h.pages.congr hregs hprof, fun b hb hs => (hasInt_congr (fget_congr hregs hprof ..)).2 (h.ints b hb hs)⟩

theorem FailsOn.setDec {x : DecSt} (h : FailsOn s t) : FailsOn s (Machine.setDec x t) := h.congr rfl rfl

theorem FailsOn.emit {code src p0 p1 p2 : Nat} (h : FailsOn s t) : FailsOn s (Machine.emit code src p0 p1 p2 t) := h.congr rfl rfl

theorem FailsOn.fset (h : FailsOn s t) (hp : p ∈ failPages) (hf : f.inPage) (hne : hdrIntStatus.place ≠ f.place) : FailsOn s (Machine.fset p f v t) :=
  ⟨h.pages.fset hp hf, fun b hb hs => (h.ints b hb hs).fset hf hne⟩

theorem FailsOn.raise (h : FailsOn s t) (hp : p ∈ failPages) : FailsOn s (Machine.raise p c t) :=
  ⟨h.pages.raise hp, fun b hb hs => (h.ints b hb hs).raise hb⟩

theorem FailsOn.cnt (h : FailsOn s t) (hp : p ∈ failPages) (hf : f.inPage) (hne : hdrIntStatus.place ≠ f.place) : FailsOn s (Machine.cnt p f c t) :=
  ⟨h.pages.cnt hp hf, fun b hb hs => (h.ints b hb hs).cnt hf hne⟩

theorem FailsOn.fmax (h : FailsOn s t) (hp : p ∈ failPages) (hf : f.inPage) (hne : hdrIntStatus.place ≠ f.place) : FailsOn s (Machine.fmax p f v t) :=
  ite_kept (P := fun z => FailsOn s z) (h.fset hp hf hne) h

theorem FailsOn.of_otherPages {ps : List Nat} (h : FailsOn s t) (hu : otherPages ps t u) (hdec : DEC.page ∉ ps) (hsub : ps ⊆ failPages) : FailsOn s u :=
  ⟨h.pages.trans (hu.mono hsub), fun b hb hs => (h.ints b hb hs).of_otherPages hu hdec⟩

theorem FailsOn.endRead {kind : ClKind} (h : FailsOn s t) : FailsOn s (Machine.endRead kind psa j d cause t) := by
  have hended : ∀ u e, FailsOn s u → FailsOn s (endCluster psa e u) := fun u e hu =>
    hu.of_otherPages otherPages_endCluster (by decide) (fun q hq => List.mem_cons_of_mem _ (List.mem_cons_of_mem _ hq))
  have hdeciphered : FailsOn s (cnt64 XTS.page XTS.DEC_SECT_LO XTS.DEC_SECT_HI XTS.kCNT_SAT j.good.length t) :=
    h.of_otherPages (ps := [ XTS.page ]) (otherPages.refl.cnt64 (by decide) (by decide) (by decide)) (by decide) (by decide)
  have hkeyless : FailsOn s (keyMissing t) := h.of_otherPages otherPages_keyMissing (by decide) (by decide)
  unfold Machine.endRead
  exact hended _ _ (ite_kept (P := fun z => FailsOn s z) h (ite_kept (P := fun z => FailsOn s z) hdeciphered hkeyless))

theorem FailsOn.unrecovered (h : FailsOn s t) : FailsOn s (Machine.unrecovered psa cause j d t) :=
  ((h.cnt (by decide) (by decide) (by decide)).raise (by decide)).endRead.emit

theorem FailsOn.showSq (h : FailsOn s t) : FailsOn s (Machine.showSq t) :=
  (h.fset (by decide) (by decide) (by decide)).fset (by decide) (by decide) (by decide)

theorem FailsOn.sqRelease (h : FailsOn s t) : FailsOn s (Machine.sqRelease psa t) :=
  (h.setDec.fset (by decide) (by decide) (by decide)).showSq

theorem FailsOn.climb (h : FailsOn s t) : FailsOn s (Machine.climb psa d j t) := by
  have hended : ∀ c, FailsOn s (t |> Machine.fmax DEC.page DEC.SQ_TIME_MAX ((t.time - d.start) / 25000) |> Machine.sqRelease psa |> Machine.unrecovered psa c j d) :=
    fun c => (h.fmax (by decide) (by decide) (by decide)).sqRelease.unrecovered
  unfold Machine.climb
  extract_lets cal ended before called side
  split
  · exact hended 2
  split
  · exact ite_kept (P := fun z => FailsOn s z) h.setDec.emit (hended 1)
  next g _ =>
    extract_lets stepped
    have hcalled : FailsOn s called := ite_kept (P := fun z => FailsOn s z) h.emit h
    have hstepped : FailsOn s stepped := ite_kept (P := fun z => FailsOn s z) hcalled hcalled.emit
    exact ite_kept (P := fun z => FailsOn s z) (hstepped.setDec.fset (by decide) (by decide) (by decide)) hstepped.setDec

theorem FailsOn.squallEnter (h : FailsOn s t) : FailsOn s (Machine.squallEnter psa d j t) := by
  unfold Machine.squallEnter
  extract_lets p entered
  split
  · exact (h.setDec.cnt (by decide) (by decide) (by decide)).showSq.climb
  split
  · exact (h.setDec.raise (by decide)).showSq
  · exact (h.fset (by decide) (by decide) (by decide)).emit.unrecovered

/-- A read cluster lost in staging is Failed. -/
theorem stagedReadLost_fails : otherPages failPages s (stagedReadLost psa s) ∧ hasInt DEC.page DEC.iCL_FAIL (stagedReadLost psa s) := by
  unfold stagedReadLost
  extract_lets d j t
  have hleft : FailsOn s { s with ends := s.ends.erase (homeOf psa s) } := FailsOn.refl.congr rfl rfl
  have hfailed : FailsOn s t := ((hleft.cnt (by decide) (by decide) (by decide)).raise (by decide)).emit
  have hint : hasInt DEC.page DEC.iCL_FAIL t := hasInt_raise (by decide)
  have hon : FailsOn t (if fon DEC.page DEC.CTRL_SQ_EN t then squallEnter psa d j t else unrecovered psa 5 j d t) :=
    ite_kept (P := fun z => FailsOn t z) FailsOn.refl.squallEnter FailsOn.refl.unrecovered
  exact ⟨hfailed.pages.trans hon.pages, hon.ints _ (by decide) hint⟩

/-! ### A lost write cluster (R380) -/

/-- A write cluster whose staged data are lost ends WRITE_FAULT, and is not recorded. -/
theorem stagedWriteLost_faults : otherPages endPages s (stagedWriteLost psa s) ∧
    (stagedWriteLost psa s).ends.find (homeOf (psaCluster psa) s) = some { kind := .writeFault, mask := 0, cause := 0x7011, detail := 0x01 } ∧
    (stagedWriteLost psa s).encoded = s.encoded.filter (fun c => c.psa != psa) := by
  have hleft : otherPages endPages s { s with encoded := s.encoded.filter (fun c => c.psa != psa) } := otherPages.refl.congr rfl rfl
  have hhome : homeOf (psaCluster psa) { s with encoded := s.encoded.filter (fun c => c.psa != psa) } = homeOf (psaCluster psa) s := homeOf_congr rfl rfl _
  exact ⟨hleft.trans otherPages_endCluster, hhome ▸ endCluster_ends, (endCluster_kept (m := State.encoded) (fun _ => rfl) (.refl _)).view⟩

end Sys2Proof.Machine
end

section
/-!
PROOFS. The commands that reserve and release staging buffers (R376, R380, R431).
-/
namespace Sys2Proof.Machine

variable {s t : State} {p a n : Nat} {psa : BitVec 32} {write : Bool} {errs : List (Nat × BitVec 13)}

/-! ### Reservations (R376, R431) -/

theorem stagingReserve_reserves (hp : p = psaCluster psa.toNat) (hmay : mayReserve (psaSide p) s = true) (hwaits : s.mem.bufWaits = []) :
    Completes (.stagingReserve psa write) s fun t => (∃ n, t.mem.bufs = s.mem.bufs.insert n (p, psaSide p, write)) ∧ t.mem.bufWaits = [] ∧
      t.mem.lastHead = psaSide p ∧ fget SBF.page SBF.STATUS_BUFS_FREE t = (512 - t.mem.bufs.length) % 2 ^ SBF.STATUS_BUFS_FREE.width ∧
      sameBut [.regs, .mem] s t := by
  subst hp
  have hrun : exec (.stagingReserve psa write) s = .next (reserveBuf (psaCluster psa.toNat) (psaSide (psaCluster psa.toNat)) write s) :=
    if_pos (by simp [hmay, hwaits])
  refine ⟨_, hrun, ⟨_, congrArg MemSt.bufs showBufs_mem⟩, ?_, congrArg MemSt.lastHead showBufs_mem, ?_, sameBut_of_kept (reserveBuf_kept (fun _ => rfl) (.refl s))⟩
  · exact (congrArg MemSt.bufWaits showBufs_mem).trans hwaits
  · unfold reserveBuf
    rw [showBufs_mem]
    exact fget_free_showBufs

theorem stagingReserve_waits (hp : p = psaCluster psa.toNat) (hmay : mayReserve (psaSide p) s = false) :
    Completes (.stagingReserve psa write) s fun t => t.mem = { s.mem with bufWaits := s.mem.bufWaits ++ [(p, psaSide p, write)] } ∧ sameBut [.mem] s t := by
  subst hp
  exact ⟨_, if_neg (by simp [hmay]), rfl, rfl⟩

/-! ### Releases (R376, R380) -/

/-- The array as a release finds it: the bits named are flipped. -/
def releaseFlips (n : Nat) (errs : List (Nat × BitVec 13)) (s : State) : State := errs.foldl (fun t e => sbFlip (65536 * n + e.1 % 65536) e.2.toNat t) s

/-- The bytes of a buffer whose check fields are not right. -/
def suspects (n : Nat) (s : State) : List Nat := s.mem.serr.keys.filter (fun a => decide (a / 65536 = n))

/-- A buffer read out and freed. -/
def bufReadOut (n : Nat) (s : State) : State := freeBuf n ((suspects n s).foldl (fun t a => sbRead 0 a t) s)

theorem stagingRelease_free (hnone : bufOf (psaCluster psa.toNat) s = none) : Completes (.stagingRelease psa errs) s fun t => t = s := by
  refine ⟨s, ?_, rfl⟩
  change execStagingRelease psa errs s = _
  unfold execStagingRelease
  simp only [hnone]

theorem exec_stagingRelease_lost (hbuf : bufOf (psaCluster psa.toNat) s = some (n, write)) (ha : a ∈ suspects n (releaseFlips n errs s))
    (hbad : sbBad a (releaseFlips n errs s) = true) : exec (.stagingRelease psa errs) s = .next
      (if write then stagedWriteLost (psaCluster psa.toNat) (bufReadOut n (releaseFlips n errs s))
        else stagedReadLost (psaCluster psa.toNat) (bufReadOut n (releaseFlips n errs s))) := by
  have hlost : ((releaseFlips n errs s).mem.serr.keys.filter (fun a => decide (a / 65536 = n))).any (fun a => sbBad a (releaseFlips n errs s)) = true :=
    List.any_eq_true.2 ⟨a, ha, hbad⟩
  change execStagingRelease psa errs s = _
  unfold execStagingRelease
  simp only [hbuf]
  exact congrArg _ (if_pos hlost)

theorem exec_stagingRelease_written (hbuf : bufOf (psaCluster psa.toNat) s = some (n, true)) (hclean : suspects n s = []) :
    exec (.stagingRelease psa []) s = .next (freeBuf n s) := by
  unfold suspects at hclean
  change execStagingRelease psa [] s = _
  unfold execStagingRelease
  simp only [hbuf, List.foldl_nil, hclean, List.any_nil, Bool.false_eq_true, if_false, if_true]

theorem stagingRelease_frees (hbuf : bufOf (psaCluster psa.toNat) s = some (n, true)) (hwaits : s.mem.bufWaits = []) (hclean : ∀ a ∈ s.mem.serr.keys, a / 65536 ≠ n) :
    Completes (.stagingRelease psa []) s fun t => t.mem.bufs = s.mem.bufs.erase n ∧
      fget SBF.page SBF.STATUS_BUFS_FREE t = (512 - t.mem.bufs.length) % 2 ^ SBF.STATUS_BUFS_FREE.width ∧ sameBut [.regs, .mem] s t := by
  have hnone : suspects n s = [] := List.filter_eq_nil_iff.2 fun a ha => by simpa using hclean a ha
  refine ⟨_, exec_stagingRelease_written hbuf hnone, ?_, ?_, sameBut_of_kept (freeBuf_kept (fun _ => rfl) (.refl s))⟩
  · rw [freeBuf_of_no_waits hwaits, showBufs_mem, setMem_mem]
  · rw [freeBuf_of_no_waits hwaits, showBufs_mem]
    exact fget_free_showBufs

theorem lossShown_bufReadOut (ha : a ∈ suspects n s) (hbad : sbBad a s = true) : lossShown (bufReadOut n s) :=
  (lossShown_foldl_sbRead ha (sbBad_iff.1 hbad)).freeBuf

theorem lossShown.of_otherPages {ps : List Nat} (h : lossShown s) (ht : otherPages ps s t) (hp : SBF.page ∉ ps) : lossShown t := by
  obtain ⟨hint, hfault⟩ := h
  exact ⟨hint.of_otherPages ht hp, (ht _ hp _ (by decide)).trans hfault⟩

/-- A buffer read out changes no more than the array, the buffers, and what is shown of them. -/
theorem bufReadOut_view {α : Type} {m : State → α} (hm : ∀ u, m u = m { u with regs := [], evq := [], out := [], msixPend := 0, mem := {} }) :
    m (bufReadOut n (releaseFlips n errs s)) = m s :=
  have hflips := foldl_kept (P := fun u => Kept m s u) (l := errs) (fun _ _ hu => sbFlip_kept (sub hm) hu) (.refl s)
  (freeBuf_kept (sub hm) (foldl_kept (P := fun u => Kept m s u) (fun _ _ hu => sbRead_kept (sub hm) hu) hflips)).view

theorem stagingRelease_lost (hbuf : bufOf (psaCluster psa.toNat) s = some (n, write))
    (hflips : t = errs.foldl (fun t e => sbFlip (65536 * n + e.1 % 65536) e.2.toNat t) s) (hkey : a ∈ t.mem.serr.keys) (hin : a / 65536 = n) (hbad : sbBad a t = true) :
    Completes (.stagingRelease psa errs) s fun t => hasInt SBF.page SBF.iUNCORR t ∧ fget SBF.page hdrFault t = 0x01 ∧
      (write = true → t.ends.find (homeOf (psaCluster psa.toNat) s) = some { kind := .writeFault, mask := 0, cause := 0x7011, detail := 0x01 } ∧
        t.encoded = s.encoded.filter (fun c => c.psa != psaCluster psa.toNat)) ∧
      (write = false → hasInt DEC.page DEC.iCL_FAIL t) := by
  subst hflips
  have ha : a ∈ suspects n (releaseFlips n errs s) := List.mem_filter.2 ⟨hkey, decide_eq_true hin⟩
  have hshown : lossShown (bufReadOut n (releaseFlips n errs s)) := lossShown_bufReadOut ha hbad
  have hrun := exec_stagingRelease_lost hbuf ha hbad
  cases write with
  | false =>
    rw [if_neg Bool.false_ne_true] at hrun
    obtain ⟨hpages, hfail⟩ := stagedReadLost_fails (psa := psaCluster psa.toNat) (s := bufReadOut n (releaseFlips n errs s))
    obtain ⟨hint, hfault⟩ := hshown.of_otherPages hpages (by decide)
    exact ⟨_, hrun, hint, hfault, nofun, fun _ => hfail⟩
  | true =>
    rw [if_pos rfl] at hrun
    obtain ⟨hpages, hends, hencoded⟩ := stagedWriteLost_faults (psa := psaCluster psa.toNat) (s := bufReadOut n (releaseFlips n errs s))
    obtain ⟨hint, hfault⟩ := hshown.of_otherPages hpages (by decide)
    have hhome : homeOf (psaCluster psa.toNat) (bufReadOut n (releaseFlips n errs s)) = homeOf (psaCluster psa.toNat) s :=
      homeOf_congr (bufReadOut_view (m := fun u => u.disc.defects) fun _ => rfl) (bufReadOut_view (m := fun u => u.disc.pending) fun _ => rfl) _
    rw [psaCluster_psaCluster, hhome] at hends
    exact ⟨_, hrun, hint, hfault, fun _ => ⟨hends, hencoded.trans (by rw [bufReadOut_view (m := State.encoded) fun _ => rfl])⟩, nofun⟩

end Sys2Proof.Machine
end

section
/-!
PROOFS. The scrubber (R381, R382) and the test access of the staging memory (R383), and the obligation on the staging memory.
-/
namespace Sys2Proof.Machine

variable {s t u : State} {a d k m n v w x : Nat} {en : Bool}

/-! ### The scrubber (R381, R382) -/

/-- The position goes on from word `w`, and a pass that ends is counted. -/
def scrubbed (w : Nat) (s : State) : State :=
  s |> fset SBF.page SBF.SCRUB_POS ((w + 1) % 1048576) |> (if (w + 1) % 1048576 = 0 then cnt SBF.page SBF.SCRUB_PASSES SBF.kCNT_SAT else id)

theorem scrubbed_shows : fget SBF.page SBF.SCRUB_POS (scrubbed w s) = (w + 1) % 1048576 ∧
    otherFields SBF.page [ SBF.SCRUB_POS, SBF.SCRUB_PASSES, hdrSticky ] s (scrubbed w s) ∧ (scrubbed w s).mem = s.mem := by
  have hpos : fget SBF.page SBF.SCRUB_POS (fset SBF.page SBF.SCRUB_POS ((w + 1) % 1048576) s) = (w + 1) % 1048576 := fget_fset_lt (Nat.mod_lt _ (by decide))
  have hothers : otherFields SBF.page [ SBF.SCRUB_POS, SBF.SCRUB_PASSES, hdrSticky ] s (fset SBF.page SBF.SCRUB_POS ((w + 1) % 1048576) s) :=
    (otherFields.refl _ _ s).fset (by decide)
  unfold scrubbed
  split
  · exact ⟨(fget_cnt_place (by decide) (by decide) (by decide) (by decide)).trans hpos, hothers.cnt (by decide) (by decide), cnt_mem⟩
  · exact ⟨hpos, hothers, rfl⟩

theorem scrub_off (hoff : fon SBF.page SBF.CTRL_SCRUB_EN s = false) (errs : List (Fin 32 × BitVec 13)) : Completes (.scrub errs) s fun t => t = s :=
  ⟨s, if_pos (by simp [hoff]), rfl⟩

/-- The scrubber reads the bytes of its word in turn. -/
def scrubRead (w : Nat) (s : State) : State := (List.range 32).foldl (fun t i => sbRead 1 (32 * w + i) t) s

theorem exec_scrub {errs : List (Fin 32 × BitVec 13)} (hon : fon SBF.page SBF.CTRL_SCRUB_EN s = true) (hw : w = fget SBF.page SBF.SCRUB_POS s) :
    exec (.scrub errs) s = .next (scrubbed w (scrubRead w (errs.foldl (fun t e => sbFlip (32 * w + e.1) e.2.toNat t) s))) := by
  subst hw
  exact if_neg (by simp [hon])

/-- The bytes of a word hold right check fields. -/
def wordClean (w : Nat) (s : State) : Prop := ∀ i < 32, s.mem.serr.get (32 * w + i) 0 = 0 ∧ s.mem.sdata.get (32 * w + i) 0 < 256

theorem wordClean.finds {i : Nat} (h : wordClean w s) (hi : i < 32) : sbFinds (32 * w + i) s = .good := by
  unfold sbFinds
  rw [sbGet_of_serr_zero (h i hi).1]
  exact sbDecide_checkOf _

theorem scrub_passes (hon : fon SBF.page SBF.CTRL_SCRUB_EN s = true) (hw : w = fget SBF.page SBF.SCRUB_POS s) (hclean : wordClean w s) :
    Completes (.scrub []) s fun t => fget SBF.page SBF.SCRUB_POS t = (w + 1) % 1048576 ∧ sameBut [.regs] s t ∧
      otherFields SBF.page [ SBF.SCRUB_POS, SBF.SCRUB_PASSES, hdrSticky ] s t := by
  have hread : scrubRead w s = s := foldl_sbRead_of_good fun i hi => hclean.finds (List.mem_range.1 hi)
  obtain ⟨hpos, hothers, -⟩ := scrubbed_shows (w := w) (s := s)
  have hsame : sameBut [.regs] s (scrubbed w s) := sameBut_of_kept (ite_app_kept (P := fun z => Kept _ s z) (cnt_kept (fun _ => rfl) (fset_kept (fun _ => rfl) (.refl s)))
    (fset_kept (fun _ => rfl) (.refl s)))
  exact ⟨_, (exec_scrub hon hw).trans (by rw [List.foldl_nil, hread]), hpos, hsame, hothers⟩

/-- A byte with one bit flipped is found as the byte it was. -/
theorem sbFinds_sbFlip_one (k : Fin 13) (herr : s.mem.serr.get a 0 = 0) (hbyte : s.mem.sdata.get a 0 < 256) :
    sbFinds a (sbFlip a (2 ^ k.val) s) = .corrected (s.mem.sdata.get a 0) (bitSyndrome k) := by
  have hcheck : ∀ k : Fin 13, 2 ^ k.val / 256 < 2 ^ 5 := by decide
  unfold sbFinds
  rw [sbFlip_eq, sbGet_sbPut_same, sbGet_of_serr_zero herr, Nat.mod_eq_of_lt (Nat.xor_lt_two_pow (n := 8) hbyte (Nat.mod_lt _ (by decide))),
    Nat.mod_eq_of_lt (Nat.xor_lt_two_pow (n := 5) (checkOf_lt _) (hcheck k)), sbDecide_one]

theorem scrub_corrects (hon : fon SBF.page SBF.CTRL_SCRUB_EN s = true) (hw : w = fget SBF.page SBF.SCRUB_POS s) (hclean : wordClean w s) (i : Fin 32) (k : Fin 13) :
    Completes (.scrub [(i, BitVec.ofNat 13 (2 ^ k.val))]) s fun t => sbGet (32 * w + i) t = sbGet (32 * w + i) s ∧
      fget SBF.page SBF.SCRUB_POS t = (w + 1) % 1048576 ∧ hasInt SBF.page SBF.iCORR t ∧
      (fget SBF.page SBF.CORR_CNT s < 2 ^ 32 - 1 → fget SBF.page SBF.CORR_CNT t = fget SBF.page SBF.CORR_CNT s + 1) := by
  obtain ⟨herr, hbyte⟩ := hclean i i.isLt
  have hbit : (BitVec.ofNat 13 (2 ^ k.val)).toNat = 2 ^ k.val := Nat.mod_eq_of_lt (Nat.pow_lt_pow_right (by decide) k.isLt)
  have hothers : ∀ j ∈ List.range 32, j ≠ i.val → sbFinds (32 * w + j) (sbFlip (32 * w + i) (2 ^ k.val) s) = .good := fun j hj hne => by
    rw [sbFlip_eq, sbFinds_congr (sbGet_sbPut_other (by omega))]
    exact hclean.finds (List.mem_range.1 hj)
  have hread := foldl_sbRead_of_one (who := 1) List.nodup_range (List.mem_range.2 i.isLt) hothers (sbFinds_sbFlip_one k herr hbyte)
  have hrun := exec_scrub (errs := [(i, BitVec.ofNat 13 (2 ^ k.val))]) hon hw
  rw [List.foldl_cons, List.foldl_nil, hbit, scrubRead, hread] at hrun
  obtain ⟨hpos, hfields, hmem⟩ := scrubbed_shows (w := w) (s := sbCorr (32 * w + i) (bitSyndrome k) (sbPut (32 * w + i) (s.mem.sdata.get (32 * w + i) 0)
    (checkOf (s.mem.sdata.get (32 * w + i) 0)) (sbFlip (32 * w + i) (2 ^ k.val) s)))
  obtain ⟨hint, hcnt⟩ := sbCorr_shows (a := 32 * w + i) (y := bitSyndrome k) (s := sbPut (32 * w + i) (s.mem.sdata.get (32 * w + i) 0)
    (checkOf (s.mem.sdata.get (32 * w + i) 0)) (sbFlip (32 * w + i) (2 ^ k.val) s))
  refine ⟨_, hrun, ?_, hpos, (hasInt_congr (hfields _ _ (by decide))).2 hint, fun hroom => (hfields _ _ (by decide)).trans (hcnt hroom)⟩
  rw [sbGet_congr (congrArg MemSt.sdata hmem) (congrArg MemSt.serr hmem), sbGet_sbCorr, sbGet_sbPut_same, sbGet_of_serr_zero herr,
    Nat.mod_eq_of_lt hbyte, Nat.mod_eq_of_lt (checkOf_lt _)]

/-! ### The test access on and off (R383) -/

theorem sbfTestEn_rejected (hused : s.mem.bufs ≠ []) : Completes (.sbfTestEn true) s fun t => hasSticky SBF.page SBF.kTEST_REJ t ∧ sameBut [.regs] s t ∧
    otherFields SBF.page [hdrSticky] s t :=
  ⟨sticky SBF.page SBF.kTEST_REJ s, if_pos (by simp [hused]), hasSticky_sticky (by decide), rfl, otherFields_sticky⟩

theorem sbfTestEn_shows (hfree : en = true → s.mem.bufs = []) (hwaits : s.mem.bufWaits = []) : Completes (.sbfTestEn en) s fun t =>
    fget SBF.page SBF.CTRL_TEST_EN t = b2n en ∧ fget SBF.page SBF.STATUS_TEST_ACT t = b2n en ∧ sameBut [.regs] s t ∧
    otherFields SBF.page [SBF.CTRL_TEST_EN, SBF.STATUS_TEST_ACT] s t := by
  have hgrant : grantBufs (fsetB SBF.page SBF.STATUS_TEST_ACT en (fsetB SBF.page SBF.CTRL_TEST_EN en s)).mem.bufWaits.length
      (fsetB SBF.page SBF.STATUS_TEST_ACT en (fsetB SBF.page SBF.CTRL_TEST_EN en s)) =
      fsetB SBF.page SBF.STATUS_TEST_ACT en (fsetB SBF.page SBF.CTRL_TEST_EN en s) := by
    rw [fsetB_mem, fsetB_mem, hwaits]
    rfl
  have hrun : exec (.sbfTestEn en) s = .next (fsetB SBF.page SBF.STATUS_TEST_ACT en (fsetB SBF.page SBF.CTRL_TEST_EN en s)) := by
    change execSbfTestEn en s = _
    unfold execSbfTestEn
    rw [if_neg (by simpa using hfree)]
    simp only [hgrant, ite_self]
  exact ⟨_, hrun, (fget_fsetB_place (by decide) (by decide) (by decide)).trans (fget_fsetB_same _ _ _ _ (by decide)), fget_fsetB_same _ _ _ _ (by decide), rfl,
    ((otherFields.refl _ _ s).fset (by decide)).fset (by decide)⟩

theorem testOp_off {f : Nat → State → State} (hoff : fon SBF.page SBF.CTRL_TEST_EN s = false) : testOp n f s = s := if_neg (by simp [hoff])

theorem testAccess_off (c : Instr) (hc : c ∈ [Instr.testWriteData, .testWriteCheck, .testWriteBoth, .testRawRead]) (hoff : fon SBF.page SBF.CTRL_TEST_EN s = false) :
    Completes c s fun t => t = s := by
  simp only [List.mem_cons, List.not_mem_nil, or_false] at hc
  rcases hc with rfl | rfl | rfl | rfl <;> exact ⟨s, congrArg _ (testOp_off hoff), rfl⟩

/-! ### Writes of the test access (R383) -/

/-- Two folds agree that agree wherever what both keep holds. -/
theorem foldl_congr_of_kept {α β : Type} {P : α → Prop} {F G : α → β → α} {l : List β} {a : α} (ha : P a) (heq : ∀ t x, P t → F t x = G t x)
    (hG : ∀ t x, P t → P (G t x)) : l.foldl F a = l.foldl G a := by
  induction l generalizing a with
  | nil => rfl
  | cons x l ih =>
    rw [List.foldl_cons, List.foldl_cons, heq a x ha]
    exact ih (hG a x ha)

/-- The four bytes from `w` on written, each from the byte and check field it holds. -/
def testWrites (w : Nat) (D C : Nat → Nat × Nat → Nat) (s : State) : State :=
  (List.range 4).foldl (fun t k => sbPut (w + k) (D k (sbGet (w + k) t)) (C k (sbGet (w + k) t)) t) s

theorem sbGet_testWrites {D C : Nat → Nat × Nat → Nat} (hk : k < 4) :
    sbGet (w + k) (testWrites w D C s) = (D k (sbGet (w + k) s) % 256, C k (sbGet (w + k) s) % 32) :=
  foldl_range_view (m := sbGet (w + k)) (m' := sbGet (w + k)) (G := fun x => (D k x % 256, C k x % 32)) hk (fun _ _ _ => sbGet_sbPut_other (by omega))
    (fun _ => sbGet_sbPut_same) fun _ _ _ _ => sbGet_sbPut_other (by omega)

/-- The registers that a test operation takes its address, data and check fields from. -/
def testRegs (s : State) : Nat × Nat × Nat := (fget SBF.page SBF.TEST_ADDR s, fget SBF.page SBF.TEST_DATA s, fget SBF.page SBF.TEST_CHECK s)

theorem testByte_congr (h : testRegs t = testRegs s) : testByte k t = testByte k s := congrArg (fun r : Nat × Nat × Nat => 4 * r.1 + k) h

theorem testData_congr (h : testRegs t = testRegs s) : testData k t = testData k s := congrArg (fun r : Nat × Nat × Nat => r.2.1 / 2 ^ (8 * k) % 256) h

theorem testCheck_congr (h : testRegs t = testRegs s) : testCheck k t = testCheck k s := congrArg (fun r : Nat × Nat × Nat => r.2.2 / 2 ^ (5 * k) % 32) h

theorem testRegs_op : testRegs (fset SBF.page SBF.TEST_CTRL_OP n s) = testRegs s := by
  unfold testRegs
  rw [fget_fset_place (by decide) (by decide) (by decide), fget_fset_place (by decide) (by decide) (by decide), fget_fset_place (by decide) (by decide) (by decide)]

theorem testOp_on {f : Nat → State → State} (hon : fon SBF.page SBF.CTRL_TEST_EN s = true) :
    testOp n f s = raise SBF.page SBF.iTEST_DONE ((List.range 4).foldl (fun t k => f k t) (fset SBF.page SBF.TEST_CTRL_OP n s)) := if_pos hon

theorem sbGet_raise {p b : Nat} : sbGet a (raise p b s) = sbGet a s := by
  unfold sbGet
  rw [raise_mem]

/-- A test write stores its four bytes and check fields, by what it makes of the registers and of the bytes held, and shows TEST_DONE. -/
theorem testOp_writes {f : Nat → State → State} {D C : Nat → Nat × Nat → Nat} (hon : fon SBF.page SBF.CTRL_TEST_EN s = true)
    (hw : w = 4 * fget SBF.page SBF.TEST_ADDR s)
    (hf : ∀ t k, testRegs t = testRegs s → f k t = sbPut (testByte k s) (D k (sbGet (testByte k s) t)) (C k (sbGet (testByte k s) t)) t) :
    hasInt SBF.page SBF.iTEST_DONE (testOp n f s) ∧ ∀ k < 4, sbGet (w + k) (testOp n f s) = (D k (sbGet (w + k) s) % 256, C k (sbGet (w + k) s) % 32) := by
  subst hw
  have hfold : (List.range 4).foldl (fun t k => f k t) (fset SBF.page SBF.TEST_CTRL_OP n s) =
      testWrites (4 * fget SBF.page SBF.TEST_ADDR s) D C (fset SBF.page SBF.TEST_CTRL_OP n s) :=
    foldl_congr_of_kept (P := fun t => testRegs t = testRegs s) testRegs_op hf fun _ _ h => h
  rw [testOp_on hon, hfold]
  exact ⟨hasInt_raise (by decide), fun k hk => sbGet_raise.trans (sbGet_testWrites (s := fset SBF.page SBF.TEST_CTRL_OP n s) hk)⟩

theorem testWriteData_writes (hon : fon SBF.page SBF.CTRL_TEST_EN s = true) (hw : w = 4 * fget SBF.page SBF.TEST_ADDR s) : Completes .testWriteData s fun t =>
    hasInt SBF.page SBF.iTEST_DONE t ∧ sameBut [.regs, .out, .msixPend, .mem] s t ∧ ∀ k < 4, sbGet (w + k) t = (testData k s, (sbGet (w + k) s).2 % 32) := by
  obtain ⟨hint, hbytes⟩ := testOp_writes (n := 1) (f := fun k t => sbPut (testByte k t) (testData k t) (sbGet (testByte k t) t).2 t)
    (D := fun k _ => testData k s) (C := fun _ x => x.2) hon hw fun t k h => by
    rw [testByte_congr h, testData_congr h]
  exact ⟨_, rfl, hint, sameBut_of (execTestWriteData_kept (fun _ => rfl) (.refl s)) rfl, fun k hk => (hbytes k hk).trans (by rw [testData, Nat.mod_mod])⟩

theorem testWriteCheck_writes (hon : fon SBF.page SBF.CTRL_TEST_EN s = true) (hw : w = 4 * fget SBF.page SBF.TEST_ADDR s) : Completes .testWriteCheck s fun t =>
    hasInt SBF.page SBF.iTEST_DONE t ∧ sameBut [.regs, .out, .msixPend, .mem] s t ∧ ∀ k < 4, sbGet (w + k) t = ((sbGet (w + k) s).1 % 256, testCheck k s) := by
  obtain ⟨hint, hbytes⟩ := testOp_writes (n := 2) (f := fun k t => sbPut (testByte k t) (sbGet (testByte k t) t).1 (testCheck k t) t)
    (D := fun _ x => x.1) (C := fun k _ => testCheck k s) hon hw fun t k h => by
    rw [testByte_congr h, testCheck_congr h]
  exact ⟨_, rfl, hint, sameBut_of (execTestWriteCheck_kept (fun _ => rfl) (.refl s)) rfl, fun k hk => (hbytes k hk).trans (by rw [testCheck, Nat.mod_mod])⟩

theorem testWriteBoth_writes (hon : fon SBF.page SBF.CTRL_TEST_EN s = true) (hw : w = 4 * fget SBF.page SBF.TEST_ADDR s) : Completes .testWriteBoth s fun t =>
    hasInt SBF.page SBF.iTEST_DONE t ∧ sameBut [.regs, .out, .msixPend, .mem] s t ∧ ∀ k < 4, sbGet (w + k) t = (testData k s, testCheck k s) := by
  obtain ⟨hint, hbytes⟩ := testOp_writes (n := 3) (f := fun k t => sbPut (testByte k t) (testData k t) (testCheck k t) t)
    (D := fun k _ => testData k s) (C := fun k _ => testCheck k s) hon hw fun t k h => by
    rw [testByte_congr h, testData_congr h, testCheck_congr h]
  exact ⟨_, rfl, hint, sameBut_of (execTestWriteBoth_kept (fun _ => rfl) (.refl s)) rfl,
    fun k hk => (hbytes k hk).trans (by rw [testData, testCheck, Nat.mod_mod, Nat.mod_mod])⟩

/-! ### The raw read of the test access (R383) -/

/-- A digit at place `b`, of `c` values, replaced. -/
def putDigit (b c d v : Nat) : Nat := v - v / b % c * b + d * b

theorem digit_putDigit {b c : Nat} (hb : 0 < b) : putDigit b c d v / b % c = d % c := by
  have hle : v / b % c ≤ v / b := Nat.mod_le _ _
  have hsplit : putDigit b c d v = v % b + b * (v / b - v / b % c + d) := by
    have hv : v = v % b + b * (v / b) := (Nat.mod_add_div v b).symm
    have hmul : v / b % c * b ≤ b * (v / b) := by
      rw [Nat.mul_comm]
      exact Nat.mul_le_mul_left b hle
    unfold putDigit
    rw [Nat.mul_add, Nat.mul_sub, Nat.mul_comm b (v / b % c), Nat.mul_comm b d]
    omega
  have hrest : v / b - v / b % c = c * (v / b / c) := by
    have := Nat.mod_add_div (v / b) c
    omega
  rw [hsplit, Nat.add_mul_div_left _ _ hb, Nat.div_eq_of_lt (Nat.mod_lt _ hb), Nat.zero_add, hrest, Nat.mul_add_mod]

/-- The digits below the one replaced stand. -/
theorem mod_putDigit {b c e : Nat} (hdvd : e ∣ b) : putDigit b c d v % e = v % e := by
  obtain ⟨m, rfl⟩ := hdvd
  have hle : v / (e * m) % c * (e * m) ≤ v := (Nat.mul_le_mul_right _ (Nat.mod_le _ _)).trans (Nat.div_mul_le_self v _)
  unfold putDigit
  generalize v / (e * m) % c = r at hle ⊢
  obtain ⟨u, rfl⟩ := Nat.exists_eq_add_of_le hle
  rw [Nat.add_sub_cancel_left, Nat.mul_left_comm d, Nat.mul_left_comm r, Nat.add_mul_mod_self_left, Nat.mul_add_mod]

/-- Four digits of `w` bits are read alike from a register that just holds them. -/
theorem digit_trunc (hk : k < 4) : v % 2 ^ (w * 4) / 2 ^ (w * k) % 2 ^ w = v / 2 ^ (w * k) % 2 ^ w := by
  have hdvd : 2 ^ (w * k) * 2 ^ w ∣ 2 ^ (w * 4) := by
    rw [← Nat.pow_add, ← Nat.mul_succ]
    exact Nat.pow_dvd_pow 2 (Nat.mul_le_mul_left w hk)
  rw [← Nat.mod_mul_right_div_self, Nat.mod_mod_of_dvd _ hdvd, Nat.mod_mul_right_div_self]

/-- A digit of four, replaced in its register, reads as its new value. -/
theorem digit_same (hk : k < 4) : trunc (w * 4) (putDigit (2 ^ (w * k)) (2 ^ w) d v) / 2 ^ (w * k) % 2 ^ w = d % 2 ^ w :=
  (digit_trunc hk).trans (digit_putDigit (Nat.two_pow_pos _))

/-- A digit of four stands when a higher one is replaced. -/
theorem digit_below (hk : k < m) (hm : m < 4) : trunc (w * 4) (putDigit (2 ^ (w * m)) (2 ^ w) d v) / 2 ^ (w * k) % 2 ^ w = v / 2 ^ (w * k) % 2 ^ w := by
  have hdvd : 2 ^ (w * k) * 2 ^ w ∣ 2 ^ (w * m) := by
    rw [← Nat.pow_add, ← Nat.mul_succ]
    exact Nat.pow_dvd_pow 2 (Nat.mul_le_mul_left w hk)
  refine (digit_trunc (Nat.lt_trans hk hm)).trans ?_
  rw [← Nat.mod_mul_right_div_self, mod_putDigit hdvd, Nat.mod_mul_right_div_self]

/-- Byte `k` of the test word shown, with its check field. -/
def rawShown (k : Nat) (s : State) : State :=
  s |> fset SBF.page SBF.TEST_DATA (putDigit (2 ^ (8 * k)) (2 ^ 8) (sbGet (testByte k s) s).1 (fget SBF.page SBF.TEST_DATA s))
    |> fset SBF.page SBF.TEST_CHECK (putDigit (2 ^ (5 * k)) (2 ^ 5) (sbGet (testByte k s) s).2 (fget SBF.page SBF.TEST_CHECK s))

theorem exec_testRawRead : exec .testRawRead s = .next (testOp 4 rawShown s) := rfl

theorem testByte_rawShown : testByte m (rawShown k s) = testByte m s := by
  unfold testByte rawShown
  rw [fget_fset_place (by decide) (by decide) (by decide), fget_fset_place (by decide) (by decide) (by decide)]

theorem fget_data_rawShown : fget SBF.page SBF.TEST_DATA (rawShown k s) =
    trunc (8 * 4) (putDigit (2 ^ (8 * k)) (2 ^ 8) (sbGet (testByte k s) s).1 (fget SBF.page SBF.TEST_DATA s)) :=
  (fget_fset_place (by decide) (by decide) (by decide)).trans (fget_fset_same ..)

theorem fget_check_rawShown : fget SBF.page SBF.TEST_CHECK (rawShown k s) =
    trunc (5 * 4) (putDigit (2 ^ (5 * k)) (2 ^ 5) (sbGet (testByte k s) s).2 (fget SBF.page SBF.TEST_CHECK s)) :=
  fget_fset_same ..

/-- The bytes shown in turn are those of the test word. -/
theorem testData_foldl_rawShown (hk : k < 4) : testData k ((List.range 4).foldl (fun t k => rawShown k t) s) = (sbGet (testByte k s) s).1 % 256 := by
  refine foldl_range_view (m := fun t => sbGet (testByte k t) t) (m' := testData k) (G := fun x => x.1 % 256) hk (fun t i _ => ?_) (fun t => ?_) fun t i hi hn => ?_
  · exact congrArg (sbGet · (rawShown i t)) testByte_rawShown
  · unfold testData
    rw [fget_data_rawShown]
    exact digit_same (w := 8) hk
  · unfold testData
    rw [fget_data_rawShown]
    exact digit_below (w := 8) hi hn

theorem testCheck_foldl_rawShown (hk : k < 4) : testCheck k ((List.range 4).foldl (fun t k => rawShown k t) s) = (sbGet (testByte k s) s).2 % 32 := by
  refine foldl_range_view (m := fun t => sbGet (testByte k t) t) (m' := testCheck k) (G := fun x => x.2 % 32) hk (fun t i _ => ?_) (fun t => ?_) fun t i hi hn => ?_
  · exact congrArg (sbGet · (rawShown i t)) testByte_rawShown
  · unfold testCheck
    rw [fget_check_rawShown]
    exact digit_same (w := 5) hk
  · unfold testCheck
    rw [fget_check_rawShown]
    exact digit_below (w := 5) hi hn

theorem testRawRead_shows (hon : fon SBF.page SBF.CTRL_TEST_EN s = true) (hw : w = 4 * fget SBF.page SBF.TEST_ADDR s)
    (hfits : ∀ k < 4, (sbGet (w + k) s).1 < 256 ∧ (sbGet (w + k) s).2 < 32) : Completes .testRawRead s fun t => hasInt SBF.page SBF.iTEST_DONE t ∧
      (∀ k < 4, testData k t = (sbGet (w + k) s).1 ∧ testCheck k t = (sbGet (w + k) s).2) ∧ sameBut [.regs, .out, .msixPend] s t := by
  subst hw
  have hraised : ∀ u, testRegs (raise SBF.page SBF.iTEST_DONE u) = testRegs u := fun u => by
    unfold testRegs
    rw [fget_raise_place (by decide) (by decide), fget_raise_place (by decide) (by decide), fget_raise_place (by decide) (by decide)]
  have hbyte : ∀ k, testByte k (fset SBF.page SBF.TEST_CTRL_OP 4 s) = testByte k s := fun k => testByte_congr testRegs_op
  refine ⟨_, exec_testRawRead, ?_, fun k hk => ?_, sameBut_of (execTestRawRead_kept (fun _ => rfl) (.refl s)) rfl⟩
  · rw [testOp_on hon]
    exact hasInt_raise (by decide)
  · obtain ⟨hdata, hcheck⟩ := hfits k hk
    rw [testOp_on hon, testData_congr (hraised _), testCheck_congr (hraised _), testData_foldl_rawShown hk, testCheck_foldl_rawShown hk, hbyte]
    exact ⟨Nat.mod_eq_of_lt hdata, Nat.mod_eq_of_lt hcheck⟩

/-- Settles O35: clause by clause, the buffers, the scrubber and the test access. -/
theorem stagingMemory : Obligations.StagingMemory := by
  unfold Obligations.StagingMemory
  intro s
  refine ⟨fun psa write p => stagingReserve_reserves, fun psa write p => stagingReserve_waits, fun psa errs => stagingRelease_free,
    fun psa n => stagingRelease_frees, fun psa errs n write t a => stagingRelease_lost, scrub_off, ?_, sbfTestEn_rejected, fun en => sbfTestEn_shows,
    testAccess_off, ?_⟩
  · exact fun w hon hw _ hclean => ⟨scrub_passes hon hw hclean, scrub_corrects hon hw hclean⟩
  · exact fun w hon hw => ⟨testWriteData_writes hon hw, testWriteCheck_writes hon hw, testWriteBoth_writes hon hw, testRawRead_shows hon hw⟩

end Sys2Proof.Machine
end

section
/-!
PROOFS. The rules of the line cache and the DRAM behind it: bytes stored and read back, the requests that wait, a request that hits or misses, and
reads with errors (R364 to R369, R374, R385, R387).
-/
namespace Sys2Proof.Machine

variable {s t u : State} {k v line data a w n cls q : Nat} {poison : Bool} {c : CLine} {r : CacheReq} {bs : List Nat} {g : Fld}
  {errs : List (Fin 8 × ChunkErr)}

/-! ### Bytes (R8, R385) -/

theorem length_leBytes (n v : Nat) : (leBytes n v).length = n := by
  induction n generalizing v with
  | zero => rfl
  | succ n ih => rw [leBytes, List.length_cons, ih]

theorem leBytes_lt {x : Nat} (hx : x ∈ leBytes n v) : x < 256 := by
  induction n generalizing v with
  | zero => cases hx
  | succ n ih =>
    rcases List.mem_cons.1 hx with rfl | hx
    · exact Nat.mod_lt _ (by decide)
    · exact ih hx

/-- Storing goes on byte by byte. -/
theorem dramPut_cons {x : Nat} {m : Store Nat} : dramPut a (x :: bs) m = dramPut (a + 1) bs (m.put a (x % 256) 0) := rfl

theorem get_dramPut_before {i : Nat} {m : Store Nat} (hi : i < a) : (dramPut a bs m).get i 0 = m.get i 0 := by
  induction bs generalizing a m with
  | nil => rfl
  | cons x bs ih => rw [dramPut_cons, ih (Nat.lt_succ_of_lt hi), Store.get_put_other _ _ _ _ _ _ (Nat.ne_of_lt hi)]

/-- Bytes stored read back. -/
theorem map_get_dramPut {m : Store Nat} (hbytes : ∀ x ∈ bs, x < 256) : (List.range bs.length).map (fun i => (dramPut a bs m).get (a + i) 0) = bs := by
  induction bs generalizing a m with
  | nil => rfl
  | cons x bs ih =>
    have hfirst : (dramPut a (x :: bs) m).get (a + 0) 0 = x := by
      rw [dramPut_cons, show a + 0 = a from rfl, get_dramPut_before (Nat.lt_succ_self a), Store.get_put_same, Nat.mod_eq_of_lt (hbytes x (List.mem_cons_self ..))]
    have hrest := ih (a := a + 1) (m := m.put a (x % 256) 0) fun y hy => hbytes y (List.mem_cons_of_mem _ hy)
    rw [List.length_cons, List.range_succ_eq_map, List.map_cons, hfirst, List.map_map, dramPut_cons]
    exact congrArg _ ((List.map_congr_left fun i _ => by rw [Function.comp, Nat.succ_eq_add_one, Nat.add_right_comm, Nat.add_assoc]).trans hrest)

/-! ### DRAM lines (R385, R387, R388) -/

theorem dramWrite_mem : (dramWrite line data poison s).mem = { s.mem with
    dram := dramPut (256 * line) (leBytes 256 data) s.mem.dram
    poison := if poison then s.mem.poison.insert line true else s.mem.poison.erase line } := by
  unfold dramWrite
  cases poison <;> simp

theorem otherPages_dramWrite : otherPages [ DRM.page, PMC.page ] s (dramWrite line data poison s) := by
  have hcounted : ∀ m, otherPages [ DRM.page, PMC.page ] s (s |> setMem m |> cnt64 DRM.page DRM.WR_LINES_LO DRM.WR_LINES_HI DRM.kCNT_SAT 1 |> pmc 0x10 (dramChan line) 1) :=
    fun m => ((otherPages.refl.setMem.cnt64 (by decide) (by decide) (by decide)).pmc (by decide))
  unfold dramWrite
  exact (hcounted _).ite_id fun _ hx => hx.cnt (by decide) (by decide)

/-- A line written reads back. -/
theorem dramBytes_dramWrite : dramBytes (256 * line) 256 (dramWrite line data poison s) = leBytes 256 data := by
  have hbytes := map_get_dramPut (a := 256 * line) (m := s.mem.dram) (bs := leBytes 256 data) fun _ => leBytes_lt
  rw [length_leBytes] at hbytes
  unfold dramBytes
  rw [dramWrite_mem]
  exact hbytes

/-- A line counted as read. -/
def dramCounted (line : Nat) (s : State) : State := s |> cnt64 DRM.page DRM.RD_LINES_LO DRM.RD_LINES_HI DRM.kCNT_SAT 1 |> pmc 0x0F (dramChan line) 1

@[simp] theorem dramCounted_mem : (dramCounted line s).mem = s.mem := by
  unfold dramCounted
  rw [pmc_mem, cnt64_mem]

/-- A line that DRAM does not hold poisoned, read without an error. -/
theorem dramRead_clean (hpoison : s.mem.poison.find line = none) : dramRead cls line [] s = (ofLe (dramBytes (256 * line) 256 s), false, dramCounted line s) := by
  have hcounted : (dramCounted line s).mem.poison.find line = none := by rw [dramCounted_mem, hpoison]
  unfold dramRead
  exact if_neg (by rw [show (pmc 0x0F (dramChan line) 1 (cnt64 DRM.page DRM.RD_LINES_LO DRM.RD_LINES_HI DRM.kCNT_SAT 1 s)).mem.poison.find line = none from hcounted]; decide)

/-- The lines the cache holds and the requests that wait. -/
def cacheView (s : State) : Store CLine × List CacheReq := (s.mem.lines, s.mem.waits)

theorem cacheView_congr (h : t.mem = s.mem) : cacheView t = cacheView s := by
  unfold cacheView
  rw [h]

theorem cacheView_dramCorr {addr synd : Nat} : cacheView (dramCorr addr synd s) = cacheView s := by
  unfold dramCorr
  extract_lets xs due m u
  exact ite_kept (P := fun z => cacheView z = cacheView s) rfl rfl

/-- An error found in a chunk leaves the cache alone. -/
theorem cacheView_chunkErr {e : Fin 8 × ChunkErr} : cacheView (chunkErr line s e) = cacheView s := by
  unfold chunkErr
  extract_lets a p u
  split
  · exact cacheView_dramCorr
  · exact cacheView_dramCorr
  all_goals exact cacheView_congr (by simp [u])

/-- A read with an error that cannot be corrected delivers the line as poisoned, and leaves the cache alone. -/
theorem dramRead_bad (hbad : errs.any (fun e => chunkBad e.2) = true) : ∃ x u, dramRead cls line errs s = (x, true, u) ∧ cacheView u = cacheView s := by
  have hcounted : cacheView (dramCounted line s) = cacheView s := cacheView_congr dramCounted_mem
  have hfold : cacheView (errs.foldl (chunkErr line) (dramCounted line s)) = cacheView s :=
    foldl_kept (P := fun z => cacheView z = cacheView s) (fun _ _ hz => cacheView_chunkErr.trans hz) hcounted
  unfold dramRead
  extract_lets x counted found uncorrectable left
  split
  · exact ⟨_, _, rfl, (cacheView_congr (s := counted) (by simp)).trans hcounted⟩
  · have hleft : left = found := if_neg (by simp [uncorrectable, hbad])
    exact ⟨x, found, by rw [hleft, show uncorrectable = true from hbad], hfold⟩

/-! ### Lines of the cache (R362, R365) -/

/-- The fields that count the lines held. -/
def dirtyFields : List Fld := [ LCH.DIRTY_LINES, LCH.STATUS_EVICTING ]

theorem otherFields_showDirty : otherFields LCH.page dirtyFields s (showDirty s) :=
  ((otherFields.refl _ _ s).fset (by decide)).fset (by decide)

@[simp] theorem putLine_mem : (putLine k c s).mem = { s.mem with lines := s.mem.lines.insert k c } := rfl

@[simp] theorem dropLine_mem : (dropLine k s).mem = { s.mem with lines := s.mem.lines.erase k } := rfl

theorem dramBytes_putLine : dramBytes a n (putLine k c s) = dramBytes a n s := rfl

theorem dramBytes_dropLine : dramBytes a n (dropLine k s) = dramBytes a n s := rfl

@[simp] theorem waitReq_mem : (waitReq r s).mem = { s.mem with waits := s.mem.waits ++ [ r ] } := rfl

theorem fget_putLine (hg : g.inPage) (hne : g.place ∉ dirtyFields.map Fld.place) : fget q g (putLine k c s) = fget q g s := by
  simp only [dirtyFields, List.map_cons, List.map_nil, List.mem_cons, List.not_mem_nil, or_false, not_or] at hne
  obtain ⟨hdirty, hevict⟩ := hne
  exact (fget_fsetB_place hg (by decide) hevict).trans (fget_fset_place hg (by decide) hdirty)

theorem fget_dropLine (hg : g.inPage) (hne : g.place ∉ dirtyFields.map Fld.place) : fget q g (dropLine k s) = fget q g s := by
  simp only [dirtyFields, List.map_cons, List.map_nil, List.mem_cons, List.not_mem_nil, or_false, not_or] at hne
  obtain ⟨hdirty, hevict⟩ := hne
  exact (fget_fsetB_place hg (by decide) hevict).trans (fget_fset_place hg (by decide) hdirty)

theorem wayOf_congr (h : t.mem.lines = s.mem.lines) : wayOf line t = wayOf line s := by
  unfold wayOf
  rw [h]

/-- The way found for a line is listed. -/
theorem find_of_wayOf (h : wayOf line s = some (k, c)) : s.mem.lines.find k = some c := by
  obtain ⟨w, -, hw⟩ := List.exists_of_findSome?_eq_some h
  split at hw
  next x hx =>
    split at hw
    · cases hw
      exact hx
    · cases hw
  · cases hw

/-! ### Requests that wait (R367 to R369) -/

theorem setMem_of_no_waits (hwaits : s.mem.waits = []) : setMem { s.mem with waits := [] } s = s := by
  rw [← hwaits]
  rfl

theorem takeWaits_of_no_waits (hwaits : s.mem.waits = []) : takeWaits line s = ([], s) := by
  unfold takeWaits
  simp only [hwaits, List.filter_nil, setMem_of_no_waits hwaits]

theorem retry_of_no_waits (hwaits : s.mem.waits = []) : retry line s = s := by
  unfold retry
  rw [takeWaits_of_no_waits hwaits]
  rfl

theorem retrySet_of_no_waits (hwaits : s.mem.waits = []) : retrySet k s = s := by
  unfold retrySet
  rw [hwaits]
  rfl

/-- The only request that waits is taken for its line. -/
theorem takeWaits_of_one (hwaits : s.mem.waits = [ r ]) (hline : lineOf r.addr = line) : takeWaits line s = ([ r ], setMem { s.mem with waits := [] } s) := by
  unfold takeWaits
  simp [hwaits, hline]

/-! ### A request performed (R364 to R369, R374) -/

/-- What a read returns of a line's data. -/
def lineBytes (r : CacheReq) (x : Nat) : List Nat := ((leBytes 256 x).drop (r.addr % 256)).take r.len

theorem serve_read (hdata : r.data = none) (hpoison : c.poison = false) :
    serve k c r s = send (.cacheData r.cls r.addr (some (lineBytes r c.data))) (touch k s) := by
  unfold serve
  simp only [hdata, hpoison, Bool.false_eq_true, if_false]
  rfl

theorem serve_poisoned (hdata : r.data = none) (hpoison : c.poison = true) : serve k c r s = poisonHit r (touch k s) := by
  unfold serve
  simp only [hdata, hpoison, if_true]

theorem serve_write (hdata : r.data = some bs) : serve k c r s =
    touch k (putLine k { c with dirty := true, poison := c.poison && !r.whole, data := mergeBytes c.data (r.addr % 256) bs } s) := by
  unfold serve
  simp only [hdata]

@[simp] theorem fget_touch : fget q g (touch k s) = fget q g s := rfl

@[simp] theorem touch_lines : (touch k s).mem.lines = s.mem.lines := rfl

@[simp] theorem touch_waits : (touch k s).mem.waits = s.mem.waits := rfl

@[simp] theorem touch_dram : (touch k s).mem.dram = s.mem.dram := rfl

theorem poisonHit_mem : (poisonHit r s).mem = s.mem := (poisonHit_kept (m := State.mem) (fun _ => rfl) (.refl s)).view

theorem poisonHit_out : (poisonHit r s).out.getLast? = some (.cacheData r.cls r.addr none) := by
  unfold poisonHit
  rw [send_out, List.getLast?_concat]

theorem hasInt_poisonHit : hasInt LCH.page LCH.iPOISON_HIT (poisonHit r s) := by
  have hraised : ∀ u, hasInt LCH.page LCH.iPOISON_HIT (send (.cacheData r.cls r.addr none) (raise LCH.page LCH.iPOISON_HIT u)) := fun u => hasInt_raise (by decide)
  exact hraised _

/-- A hit counted. -/
def hitCounted (cls : Nat) (s : State) : State := s |> cnt LCH.page (LCH.HIT_CNT.ix cls) LCH.kCNT_SAT |> pmc 0x0D cls 1

@[simp] theorem hitCounted_mem : (hitCounted cls s).mem = s.mem := by
  unfold hitCounted
  rw [pmc_mem, cnt_mem]

theorem present_hit (hway : wayOf (lineOf r.addr) s = some (k, c)) (hevict : c.evicting = false) (hfill : c.filling = false)
    (hwaits : lineWaits (lineOf r.addr) s = false) : present r s = serve k c r (hitCounted r.cls s) := by
  unfold present
  simp only [hway, hevict, hfill, hwaits, Bool.or_self, Bool.false_eq_true, if_false]
  rfl

theorem present_evicting (hway : wayOf (lineOf r.addr) s = some (k, c)) (hevict : c.evicting = true) :
    present r s = waitReq r (cnt LCH.page LCH.EVICT_WAIT_CNT LCH.kCNT_SAT s) := by
  unfold present
  simp only [hway, hevict, if_true]

/-- A miss counted. -/
def missCounted (cls : Nat) (s : State) : State := s |> cnt LCH.page (LCH.MISS_CNT.ix cls) LCH.kCNT_SAT |> pmc 0x0E cls 1

@[simp] theorem missCounted_mem : (missCounted cls s).mem = s.mem := by
  unfold missCounted
  rw [pmc_mem, cnt_mem]

/-- A miss that finds an invalid way takes it. -/
theorem present_miss_empty (hway : wayOf (lineOf r.addr) s = none) (hwaits : lineWaits (lineOf r.addr) s = false) (hpick : pickWay r.cls (lineOf r.addr) s = some w)
    (hempty : s.mem.lines.find (16 * setOf (lineOf r.addr) + w) = none) : present r s = allot (16 * setOf (lineOf r.addr) + w) r (missCounted r.cls s) := by
  have hcounted : (missCounted r.cls s).mem.lines.find (16 * setOf (lineOf r.addr) + w) = none := by rw [missCounted_mem, hempty]
  unfold missCounted at hcounted
  unfold present
  simp only [hway, hwaits, Bool.false_eq_true, if_false, miss, hpick, hcounted]
  rfl

theorem allot_filling (hwhole : r.whole = false) : allot k r s = waitReq r (putLine k { tag := tagOf (lineOf r.addr), filling := true } s) := by
  unfold allot
  simp only [hwhole, Bool.false_eq_true, if_false]

end Sys2Proof.Machine
end

section
/-!
PROOFS. The requests at the line cache, and evictions and fills completed (R364 to R369, R374, R385, R387).
-/
namespace Sys2Proof.Machine

variable {s t : State} {k w len tag : Nat} {cls : Fin 7} {addr : BitVec 34} {data : Option (List (BitVec 8))} {bs : List (BitVec 8)} {c : CLine} {q : CacheReq}
  {set : Fin 4096} {way : Fin 16} {errs : List (Fin 8 × ChunkErr)}

/-! ### Requests (R362 to R369, R374) -/

/-- The request that a CACHE_REQUEST brings. -/
def requestOf (cls : Fin 7) (addr : BitVec 34) (len : Nat) (data : Option (List (BitVec 8))) : CacheReq :=
  ⟨cls, addr.toNat, min len (256 - addr.toNat % 256), data.map (fun bs => (bs.map BitVec.toNat).take (256 - addr.toNat % 256))⟩

theorem cacheRequest_beyond (cls : Fin 7) (addr : BitVec 34) (len : Nat) (data : Option (List (BitVec 8))) (par : Option CachePar) (hbeyond : usable s ≤ addr.toNat) :
    Completes (.cacheRequest cls addr len data par) s fun t => t.out = s.out ++ [.cacheData cls addr.toNat none] ∧ sameBut [.out] s t :=
  ⟨_, if_pos hbeyond, rfl, rfl⟩

theorem exec_cacheRequest (hwithin : addr.toNat < usable s) : exec (.cacheRequest cls addr len data none) s = .next (present (requestOf cls addr len data) s) :=
  if_neg (Nat.not_le.2 hwithin)

theorem hitCnt_inPage (cls : Fin 7) : (LCH.HIT_CNT.ix cls).inPage := by
  revert cls
  decide

theorem hitCounted_counts (hroom : fget LCH.page (LCH.HIT_CNT.ix cls) s < 2 ^ 32 - 1) :
    fget LCH.page (LCH.HIT_CNT.ix cls) (hitCounted cls s) = fget LCH.page (LCH.HIT_CNT.ix cls) s + 1 :=
  ((otherPages.refl (ps := [ PMC.page ])).pmc (by decide) _ (by decide) _ (hitCnt_inPage cls)).trans (fget_cnt_succ rfl hroom)

theorem cacheRequest_reads (hwithin : addr.toNat < usable s) (hway : wayOf (lineOf addr.toNat) s = some (k, c)) (hevict : c.evicting = false) (hfill : c.filling = false)
    (hpoison : c.poison = false) (hwaits : lineWaits (lineOf addr.toNat) s = false) : Completes (.cacheRequest cls addr len none none) s fun t =>
      t.out.getLast? = some (.cacheData cls addr.toNat
        (some (((leBytes 256 c.data).drop (addr.toNat % 256)).take (min len (256 - addr.toNat % 256))))) ∧ t.mem.lines = s.mem.lines ∧
      (fget LCH.page (LCH.HIT_CNT.ix cls) s < 2 ^ 32 - 1 → fget LCH.page (LCH.HIT_CNT.ix cls) t = fget LCH.page (LCH.HIT_CNT.ix cls) s + 1) ∧
      sameBut [.regs, .out, .msixPend, .mem] s t := by
  have hserved : present (requestOf cls addr len none) s = send (.cacheData cls addr.toNat (some (lineBytes (requestOf cls addr len none) c.data)))
      (touch k (hitCounted cls s)) := (present_hit (r := requestOf cls addr len none) hway hevict hfill hwaits).trans (serve_read rfl hpoison)
  refine ⟨_, (exec_cacheRequest hwithin).trans (congrArg _ hserved), ?_, ?_, fun hroom => ?_, ?_⟩
  · rw [send_out, List.getLast?_concat]
    rfl
  · rw [send_mem, touch_lines, hitCounted_mem]
  · rw [fget_send, fget_touch, hitCounted_counts hroom]
  · exact sameBut_of_kept (send_kept (fun _ => rfl) (touch_kept (fun _ => rfl) (pmc_kept (fun _ => rfl) (cnt_kept (fun _ => rfl) (.refl s)))))

theorem cacheRequest_readsPoison (hwithin : addr.toNat < usable s) (hway : wayOf (lineOf addr.toNat) s = some (k, c)) (hevict : c.evicting = false)
    (hfill : c.filling = false) (hpoison : c.poison = true) (hwaits : lineWaits (lineOf addr.toNat) s = false) :
    Completes (.cacheRequest cls addr len none none) s fun t => t.out.getLast? = some (.cacheData cls addr.toNat none) ∧
      hasInt LCH.page LCH.iPOISON_HIT t ∧ t.mem.lines = s.mem.lines := by
  have hserved : present (requestOf cls addr len none) s = _ := (present_hit (r := requestOf cls addr len none) hway hevict hfill hwaits).trans (serve_poisoned rfl hpoison)
  refine ⟨_, (exec_cacheRequest hwithin).trans (congrArg _ hserved), poisonHit_out, hasInt_poisonHit, ?_⟩
  rw [poisonHit_mem, touch_lines, hitCounted_mem]

theorem cacheRequest_writes (hwithin : addr.toNat < usable s) (hway : wayOf (lineOf addr.toNat) s = some (k, c)) (hevict : c.evicting = false)
    (hfill : c.filling = false) (hwaits : lineWaits (lineOf addr.toNat) s = false) : Completes (.cacheRequest cls addr len (some bs) none) s fun t =>
      ∃ d, t.mem.lines.find k = some d ∧ d.dirty = true ∧ d.tag = c.tag ∧
        d.data = mergeBytes c.data (addr.toNat % 256) ((bs.map BitVec.toNat).take (256 - addr.toNat % 256)) ∧
        (addr.toNat % 256 = 0 → 256 ≤ bs.length → d.poison = false) := by
  have hserved : present (requestOf cls addr len (some bs)) s = _ := (present_hit (r := requestOf cls addr len (some bs)) hway hevict hfill hwaits).trans (serve_write rfl)
  refine ⟨_, (exec_cacheRequest hwithin).trans (congrArg _ hserved), { c with dirty := true, poison := c.poison && !(requestOf cls addr len (some bs)).whole, data := mergeBytes c.data (addr.toNat % 256) ((bs.map BitVec.toNat).take (256 - addr.toNat % 256)) }, ?_, rfl, rfl, rfl, fun hstart hlong => ?_⟩
  · rw [touch_lines, putLine_mem]
    exact Store.find_insert_same ..
  · have hwhole : (requestOf cls addr len (some bs)).whole = true := by simp [requestOf, CacheReq.whole, hstart, hlong]
    simp [hwhole]

theorem cacheRequest_misses (hwithin : addr.toNat < usable s) (hway : wayOf (lineOf addr.toNat) s = none) (hwaits : lineWaits (lineOf addr.toNat) s = false)
    (hpick : pickWay cls (lineOf addr.toNat) s = some w) (hempty : s.mem.lines.find (16 * setOf (lineOf addr.toNat) + w) = none) :
    Completes (.cacheRequest cls addr len none none) s fun t =>
      t.mem.lines.find (16 * setOf (lineOf addr.toNat) + w) = some { tag := tagOf (lineOf addr.toNat), filling := true } ∧
      t.mem.waits = s.mem.waits ++ [⟨cls, addr.toNat, min len (256 - addr.toNat % 256), none⟩] ∧ sameBut [.regs, .out, .msixPend, .mem] s t := by
  have hallotted : present (requestOf cls addr len none) s = waitReq (requestOf cls addr len none)
      (putLine (16 * setOf (lineOf addr.toNat) + w) { tag := tagOf (lineOf addr.toNat), filling := true } (missCounted cls s)) :=
    (present_miss_empty (r := requestOf cls addr len none) hway hwaits hpick hempty).trans (allot_filling rfl)
  refine ⟨_, (exec_cacheRequest hwithin).trans (congrArg _ hallotted), ?_, ?_, ?_⟩
  · rw [waitReq_mem, putLine_mem]
    exact Store.find_insert_same ..
  · rw [waitReq_mem, putLine_mem, missCounted_mem]
    rfl
  · exact sameBut_of_kept (setMem_kept (fun _ => rfl) (putLine_kept (fun _ => rfl) (pmc_kept (fun _ => rfl) (cnt_kept (fun _ => rfl) (.refl s)))))

theorem cacheRequest_meetsEviction (hwithin : addr.toNat < usable s) (hway : wayOf (lineOf addr.toNat) s = some (k, c)) (hevict : c.evicting = true) :
    Completes (.cacheRequest cls addr len data none) s fun t => t.mem.waits.length = s.mem.waits.length + 1 ∧ t.mem.lines = s.mem.lines ∧ sameBut [.regs, .mem] s t := by
  have hwaiting : present (requestOf cls addr len data) s = _ := present_evicting (r := requestOf cls addr len data) hway hevict
  refine ⟨_, (exec_cacheRequest hwithin).trans (congrArg _ hwaiting), ?_, ?_, sameBut_of_kept (setMem_kept (fun _ => rfl) (cnt_kept (fun _ => rfl) (.refl s)))⟩
  · rw [waitReq_mem, cnt_mem, List.length_append]
    rfl
  · rw [waitReq_mem, cnt_mem]

/-! ### Evictions (R367 to R369, R385) -/

theorem evictionComplete_idle (hidle : ∀ c, s.mem.lines.find (16 * set.val + way.val) = some c → c.evicting = false) : Completes (.evictionComplete set way) s fun t => t = s := by
  refine ⟨s, ?_, rfl⟩
  change execEvictionComplete set way s = _
  unfold execEvictionComplete
  cases hfind : s.mem.lines.find (16 * set.val + way.val) with
  | none => rfl
  | some c => simp [hidle c hfind]

/-- With no request waiting, an eviction writes the line and gives its way to the line that fills it. -/
theorem evictionDone_of_no_waits (hnext : c.next = some (tag, false)) (hwaits : s.mem.waits = []) :
    evictionDone k c s = putLine k { tag := tag, filling := true } (dropLine k (dramWrite (lineAt k c) c.data c.poison s)) := by
  have hnone : (putLine k { tag := tag, filling := true } (dropLine k (dramWrite (lineAt k c) c.data c.poison s))).mem.waits = [] := by
    rw [putLine_mem, dropLine_mem, dramWrite_mem]
    exact hwaits
  unfold evictionDone
  simp only [hnext, Bool.false_eq_true, if_false]
  rw [retry_of_no_waits hnone, retrySet_of_no_waits hnone]

theorem evictionComplete_writes (hfind : s.mem.lines.find (16 * set.val + way.val) = some c) (hevict : c.evicting = true) (hnext : c.next = some (tag, false))
    (hwaits : s.mem.waits = []) : Completes (.evictionComplete set way) s fun t =>
      t.mem.lines.find (16 * set.val + way.val) = some { tag := tag, filling := true } ∧
      dramBytes (256 * lineAt (16 * set.val + way.val) c) 256 t = leBytes 256 c.data ∧
      (t.mem.poison.find (lineAt (16 * set.val + way.val) c)).isSome = c.poison ∧ sameBut [.regs, .out, .msixPend, .mem] s t := by
  have hrun : exec (.evictionComplete set way) s = .next (evictionDone (16 * set.val + way.val) c s) := by
    change execEvictionComplete set way s = _
    unfold execEvictionComplete
    simp only [hfind, hevict, if_true]
  rw [evictionDone_of_no_waits hnext hwaits] at hrun
  refine ⟨_, hrun, ?_, ?_, ?_, ?_⟩
  · rw [putLine_mem]
    exact Store.find_insert_same ..
  · rw [dramBytes_putLine, dramBytes_dropLine, dramBytes_dramWrite]
  · rw [putLine_mem, dropLine_mem, dramWrite_mem]
    cases c.poison with
    | true => exact congrArg Option.isSome (Store.find_insert_same ..)
    | false => exact congrArg Option.isSome (Store.find_erase_same ..)
  · exact sameBut_of_kept (putLine_kept (fun _ => rfl) (dropLine_kept (fun _ => rfl) (dramWrite_kept (fun _ => rfl) (.refl s))))

/-! ### Fills (R367, R369, R387) -/

theorem fillComplete_idle (errs : List (Fin 8 × ChunkErr)) (hidle : ∀ c, s.mem.lines.find (16 * set.val + way.val) = some c → c.filling = false) :
    Completes (.fillComplete set way errs) s fun t => t = s := by
  refine ⟨s, ?_, rfl⟩
  change execFillComplete set way errs s = _
  unfold execFillComplete
  cases hfind : s.mem.lines.find (16 * set.val + way.val) with
  | none => rfl
  | some c => simp [hidle c hfind]

theorem exec_fillComplete (hfind : s.mem.lines.find (16 * set.val + way.val) = some c) (hfill : c.filling = true) :
    exec (.fillComplete set way errs) s = .next (fillDone (16 * set.val + way.val) c errs s) := by
  change execFillComplete set way errs s = _
  unfold execFillComplete
  simp only [hfind, hfill, if_true]

/-- The line that a fill puts into its way. -/
def filled (c : CLine) (x : Nat) (bad : Bool) : CLine := { tag := c.tag, poison := bad, data := x }

/-- A fill serves the only request that waits, of a read, from the line that DRAM gives. -/
theorem fillDone_of_one {x : Nat} {bad : Bool} {u : State} (hwaits : s.mem.waits = [ q ]) (hline : lineOf q.addr = lineAt k c) (hdata : q.data = none)
    (hread : dramRead q.cls (lineAt k c) errs (setMem { s.mem with waits := [] } s) = (x, bad, u)) (hleft : u.mem.waits = []) :
    fillDone k c errs s = serve k (filled c x bad) q (putLine k (filled c x bad) u) := by
  have hnone : (serve k (filled c x bad) q (putLine k (filled c x bad) u)).mem.waits = [] := by
    cases bad with
    | false =>
      rw [serve_read hdata rfl]
      exact hleft
    | true =>
      rw [serve_poisoned hdata rfl, poisonHit_mem]
      exact hleft
  unfold fillDone
  simp only [takeWaits_of_one hwaits hline, List.head?_cons, Option.map_some, Option.getD_some, hread]
  exact retrySet_of_no_waits hnone

theorem fillComplete_serves (hfind : s.mem.lines.find (16 * set.val + way.val) = some c) (hfill : c.filling = true) (hwaits : s.mem.waits = [q]) (hdata : q.data = none)
    (hline : lineOf q.addr = lineAt (16 * set.val + way.val) c) (hpoison : s.mem.poison.find (lineAt (16 * set.val + way.val) c) = none) :
    Completes (.fillComplete set way []) s fun t =>
      t.mem.lines.find (16 * set.val + way.val) = some { tag := c.tag, data := ofLe (dramBytes (256 * lineAt (16 * set.val + way.val) c) 256 s) } ∧ t.mem.waits = [] ∧
      t.mem.dram = s.mem.dram ∧ t.out.getLast? = some (.cacheData q.cls q.addr (some (((leBytes 256 (ofLe (dramBytes (256 * lineAt (16 * set.val + way.val) c) 256 s))).drop
        (q.addr % 256)).take q.len))) := by
  have hread : dramRead q.cls (lineAt (16 * set.val + way.val) c) [] (setMem { s.mem with waits := [] } s) = _ := dramRead_clean hpoison
  have hrun := exec_fillComplete (errs := []) hfind hfill
  rw [fillDone_of_one hwaits hline hdata hread (congrArg MemSt.waits dramCounted_mem), serve_read hdata rfl] at hrun
  refine ⟨_, hrun, ?_, ?_, ?_, ?_⟩
  · rw [send_mem, touch_lines, putLine_mem]
    exact Store.find_insert_same ..
  · rw [send_mem, touch_waits, putLine_mem, dramCounted_mem]
    rfl
  · rw [send_mem, touch_dram, putLine_mem, dramCounted_mem]
    rfl
  · rw [send_out, List.getLast?_concat]
    rfl

theorem fillComplete_poisons (hfind : s.mem.lines.find (16 * set.val + way.val) = some c) (hfill : c.filling = true) (hwaits : s.mem.waits = [q]) (hdata : q.data = none)
    (hline : lineOf q.addr = lineAt (16 * set.val + way.val) c) (hbad : errs.any (fun e => chunkBad e.2) = true) : Completes (.fillComplete set way errs) s fun t =>
      (t.mem.lines.find (16 * set.val + way.val)).map CLine.poison = some true ∧ t.out.getLast? = some (.cacheData q.cls q.addr none) ∧
      hasInt LCH.page LCH.iPOISON_HIT t := by
  obtain ⟨x, u, hread, hview⟩ := dramRead_bad (cls := q.cls) (line := lineAt (16 * set.val + way.val) c) (s := setMem { s.mem with waits := [] } s) hbad
  have hrun := exec_fillComplete (errs := errs) hfind hfill
  rw [fillDone_of_one hwaits hline hdata hread (congrArg Prod.snd hview), serve_poisoned hdata rfl] at hrun
  refine ⟨_, hrun, ?_, poisonHit_out, hasInt_poisonHit⟩
  rw [poisonHit_mem, touch_lines, putLine_mem]
  exact congrArg (Option.map CLine.poison) (Store.find_insert_same ..)

end Sys2Proof.Machine
end

section
/-!
PROOFS. Maintenance of the line cache (R370 to R372), and the obligation on the line cache.
-/
namespace Sys2Proof.Machine

variable {s t : State} {op : MaintOp} {k j a q n : Nat} {c d : CLine} {g : Fld} {par : List (Nat × CachePar)} {l : List Nat}

/-! ### One line (R370, R372) -/

/-- No line is under eviction or filling. -/
def quiet (s : State) : Prop := ∀ k c, s.mem.lines.find k = some c → c.evicting = false ∧ c.filling = false

theorem settle_of_quiet (h : quiet s) : settle s k = s := by
  unfold settle
  cases hfind : s.mem.lines.find k with
  | none => rfl
  | some c =>
    obtain ⟨hevict, hfill⟩ := h k c hfind
    simp [hevict, hfill]

/-- What an operation does to a valid line whose parity is right. -/
def maintOn (op : MaintOp) (k : Nat) (c : CLine) (s : State) : State :=
  if skips op k s then (if op = .flush then cleanLine k c s else s) |> fset LCH.page LCH.LOCK_SKIPPED (fget LCH.page LCH.LOCK_SKIPPED s + 1)
  else match op with
    | .clean => cleanLine k c s
    | .flush => s |> cleanLine k c |> dropLine k
    | .invalidate => s |> (if c.dirty then cnt LCH.page LCH.DISCARD_CNT LCH.kCNT_SAT else id) |> dropLine k

theorem maintLine_absent (h : quiet s) (hfind : s.mem.lines.find k = none) : maintLine op [] s k = s := by
  unfold maintLine
  simp only [settle_of_quiet h, hfind]

theorem maintLine_valid (h : quiet s) (hfind : s.mem.lines.find k = some c) : maintLine op [] s k = maintOn op k c s := by
  unfold maintLine
  simp only [settle_of_quiet h, hfind, List.find?_nil]
  rfl

theorem cleanLine_lines : (cleanLine k c s).mem.lines = if c.dirty then s.mem.lines.insert k { c with dirty := false } else s.mem.lines := by
  unfold cleanLine
  split
  · rw [putLine_mem, dramWrite_mem]
  · rfl

theorem find_cleanLine_other (hne : j ≠ k) : (cleanLine k c s).mem.lines.find j = s.mem.lines.find j := by
  rw [cleanLine_lines]
  exact ite_kept (P := fun m : Store CLine => m.find j = s.mem.lines.find j) (Store.find_insert_other _ _ _ _ hne) rfl

/-- A line cleaned is held as it was, but not dirty. -/
theorem find_cleanLine_same (hfind : s.mem.lines.find k = some c) : (cleanLine k c s).mem.lines.find k = some { c with dirty := false } := by
  rw [cleanLine_lines]
  cases hdirty : c.dirty with
  | false => rw [if_neg Bool.false_ne_true, hfind, ← hdirty]
  | true => exact Store.find_insert_same ..

/-- Clearing the count of discarded lines changes no line. -/
theorem discarded_mem : ((if c.dirty then cnt LCH.page LCH.DISCARD_CNT LCH.kCNT_SAT else id) s).mem = s.mem :=
  ite_app_kept (P := fun z : State => z.mem = s.mem) cnt_mem rfl

/-- An operation on a line leaves the others alone. -/
theorem find_maintOn_other (hne : j ≠ k) : (maintOn op k c s).mem.lines.find j = s.mem.lines.find j := by
  have hcleaned : (cleanLine k c s).mem.lines.find j = s.mem.lines.find j := find_cleanLine_other hne
  unfold maintOn
  split
  · exact ite_kept (P := fun z : State => z.mem.lines.find j = s.mem.lines.find j) hcleaned rfl
  · cases op with
    | clean => exact hcleaned
    | flush => exact (Store.find_erase_other _ _ _ hne).trans hcleaned
    | invalidate =>
      dsimp only
      rw [dropLine_mem, discarded_mem]
      exact Store.find_erase_other _ _ _ hne

/-- An operation leaves of a line nothing, or the line, cleaned or as it was. -/
theorem find_maintOn_same (hfind : s.mem.lines.find k = some c) (hleft : (maintOn op k c s).mem.lines.find k = some d) : d = c ∨ d = { c with dirty := false } := by
  have hcleaned : ∀ z : State, (cleanLine k c s).mem.lines = z.mem.lines → z.mem.lines.find k = some d → d = { c with dirty := false } := fun z hz hd => by
    rw [← hz, find_cleanLine_same hfind] at hd
    exact (Option.some.inj hd).symm
  have hdropped : ∀ z, (dropLine k z).mem.lines.find k ≠ some d := fun z => by
    rw [dropLine_mem, Store.find_erase_same]
    exact nofun
  unfold maintOn at hleft
  split at hleft
  · split at hleft
    · exact .inr (hcleaned _ rfl hleft)
    · exact .inl (Option.some.inj (hfind.symm.trans hleft)).symm
  · cases op with
    | clean => exact .inr (hcleaned _ rfl hleft)
    | flush => exact absurd hleft (hdropped _)
    | invalidate => exact absurd hleft (hdropped _)

theorem find_maintOn_clean (hfind : s.mem.lines.find k = some c) : (maintOn .clean k c s).mem.lines.find k = some { c with dirty := false } :=
  find_cleanLine_same hfind

/-- INVALIDATE and FLUSH drop a line whose way is not locked. -/
theorem find_maintOn_unlocked (hop : op ≠ .clean) (hlock : locked (k % 16) s = false) : (maintOn op k c s).mem.lines.find k = none := by
  have hdropped : ∀ z, (dropLine k z).mem.lines.find k = none := fun z => Store.find_erase_same ..
  unfold maintOn
  rw [if_neg (by simp [skips, hlock])]
  cases op with
  | clean => exact absurd rfl hop
  | flush => exact hdropped _
  | invalidate => exact hdropped _

/-! ### The lines in turn -/

theorem find_maintLine_other (h : quiet s) (hne : j ≠ k) : (maintLine op [] s k).mem.lines.find j = s.mem.lines.find j := by
  cases hfind : s.mem.lines.find k with
  | none => rw [maintLine_absent h hfind]
  | some c => rw [maintLine_valid h hfind, find_maintOn_other hne]

/-- What an operation leaves under a key was held there, and is cleaned at most. -/
theorem find_maintLine (h : quiet s) (hleft : (maintLine op [] s k).mem.lines.find j = some d) :
    ∃ c, s.mem.lines.find j = some c ∧ (d = c ∨ d = { c with dirty := false }) := by
  by_cases hne : j = k
  · subst hne
    cases hfind : s.mem.lines.find j with
    | none =>
      rw [maintLine_absent h hfind, hfind] at hleft
      cases hleft
    | some c =>
      rw [maintLine_valid h hfind] at hleft
      exact ⟨c, rfl, find_maintOn_same hfind hleft⟩
  · exact ⟨d, (find_maintLine_other h hne).symm.trans hleft, .inl rfl⟩

theorem quiet.maintLine (h : quiet s) : quiet (maintLine op [] s k) := by
  intro j d hd
  obtain ⟨c, hc, rfl | rfl⟩ := find_maintLine h hd
  · exact h j d hc
  · exact h j c hc

/-- The places of LCH that an operation on a line writes. -/
def maintPlaces : List Nat := [ LCH.DIRTY_LINES, LCH.STATUS_EVICTING, LCH.LOCK_SKIPPED, LCH.DISCARD_CNT, hdrSticky ].map Fld.place

theorem fget_maintOn (hg : g.inPage) (hne : g.place ∉ maintPlaces) : fget LCH.page g (maintOn op k c s) = fget LCH.page g s := by
  have hshown : g.place ∉ dirtyFields.map Fld.place := fun h => hne (List.mem_append_left _ h)
  simp only [maintPlaces, List.map_cons, List.map_nil, List.mem_cons, List.not_mem_nil, or_false, not_or] at hne
  obtain ⟨-, -, hskipped, hdiscard, hsticky⟩ := hne
  have hcleaned : fget LCH.page g (cleanLine k c s) = fget LCH.page g s :=
    ite_kept (P := fun z => fget LCH.page g z = fget LCH.page g s) ((fget_putLine hg hshown).trans (otherPages_dramWrite _ (by decide) _ hg)) rfl
  unfold maintOn
  split
  · exact (fget_fset_place hg (by decide) hskipped).trans (ite_kept (P := fun z => fget LCH.page g z = fget LCH.page g s) hcleaned rfl)
  · cases op with
    | clean => exact hcleaned
    | flush => exact (fget_dropLine hg hshown).trans hcleaned
    | invalidate => exact (fget_dropLine hg hshown).trans (ite_app_kept (P := fun z => fget LCH.page g z = fget LCH.page g s) (fget_cnt_place hg (by decide) hdiscard hsticky) rfl)

theorem fget_maintLine (h : quiet s) (hg : g.inPage) (hne : g.place ∉ maintPlaces) : fget LCH.page g (maintLine op [] s k) = fget LCH.page g s := by
  cases hfind : s.mem.lines.find k with
  | none => rw [maintLine_absent h hfind]
  | some c => rw [maintLine_valid h hfind, fget_maintOn hg hne]

theorem locked_maintLine {w : Nat} (h : quiet s) : locked w (maintLine op [] s k) = locked w s :=
  congrArg (bit · w) (fget_maintLine h (by decide) (by decide))

/-- An operation on lines without evictions and fills keeps what its work on each line keeps. -/
theorem foldl_maintLine_kept {P : State → Prop} (h : quiet s) (hP : ∀ t k, quiet t → P t → P (maintLine op [] t k)) (hs : P s) : P (l.foldl (maintLine op []) s) := by
  have hboth : quiet (l.foldl (maintLine op []) s) ∧ P (l.foldl (maintLine op []) s) :=
    foldl_kept (P := fun z => quiet z ∧ P z) (fun t k ht => ⟨ht.1.maintLine, hP t k ht.1 ht.2⟩) ⟨h, hs⟩
  exact hboth.2

/-- What the work on a line's key leaves of it, and no later work undoes, holds in the end of every key worked on. -/
theorem foldl_maintLine_each {Q : Nat → State → Prop} (h : quiet s) (hdone : ∀ t k, quiet t → Q k (maintLine op [] t k))
    (hstays : ∀ t k j, quiet t → Q j t → Q j (maintLine op [] t k)) (hk : k ∈ l) : Q k (l.foldl (maintLine op []) s) := by
  induction l generalizing s with
  | nil => cases hk
  | cons x l ih =>
    rw [List.foldl_cons]
    rcases List.mem_cons.1 hk with rfl | hlater
    · exact foldl_maintLine_kept h.maintLine (fun t j ht hq => hstays t j k ht hq) (hdone s k h)
    · exact ih h.maintLine hlater

/-! ### The operations on the range (R370 to R372) -/

/-- The number by which MAINT_CMD shows an operation (R370). -/
def MaintOp.code : MaintOp → Nat
  | .clean => 1
  | .invalidate => 2
  | .flush => 3

/-- An operation begins: busy, with nothing skipped or done, and the lines of its range to examine. -/
def maintBegun (op : MaintOp) (s : State) : State :=
  let u := s |> maintBusy true |> fset LCH.page LCH.LOCK_SKIPPED 0 |> fset LCH.page LCH.MAINT_STATUS_LINES_DONE 0 |> fset LCH.page LCH.MAINT_CMD_OP op.code
  setMem { u.mem with maint := maintLines u } u

@[simp] theorem maintBegun_lines : (maintBegun op s).mem.lines = s.mem.lines := rfl

@[simp] theorem maintBegun_dram : (maintBegun op s).mem.dram = s.mem.dram := rfl

theorem quiet.maintBegun (h : quiet s) : quiet (maintBegun op s) := by
  intro k c hc
  rw [maintBegun_lines] at hc
  exact h k c hc

theorem maintRun_idle (hidle : fon LCH.page LCH.STATUS_MAINT_BUSY s = false) : maintRun op par s = (covered (maintBegun op s)).foldl (maintLine op par) (maintBegun op s) := by
  unfold maintRun
  rw [if_neg (by simp [hidle])]
  cases op <;> rfl

theorem maintRun_busy (hbusy : fon LCH.page LCH.STATUS_MAINT_BUSY s = true) : maintRun op par s = sticky LCH.page LCH.kMAINT_REJ s := if_pos hbusy

/-- The places of LCH that the beginning of an operation writes. -/
def begunPlaces : List Nat := [ LCH.STATUS_MAINT_BUSY, LCH.MAINT_STATUS_BUSY, LCH.LOCK_SKIPPED, LCH.MAINT_STATUS_LINES_DONE, LCH.MAINT_CMD_OP ].map Fld.place

theorem fget_maintBusy {b : Bool} (hg : g.inPage) (hne : g.place ∉ begunPlaces) : fget q g (maintBusy b s) = fget q g s := by
  simp only [begunPlaces, List.map_cons, List.map_nil, List.mem_cons, List.not_mem_nil, or_false, not_or] at hne
  exact (fget_fsetB_place hg (by decide) hne.2.1).trans (fget_fsetB_place hg (by decide) hne.1)

theorem fget_maintBegun (hg : g.inPage) (hne : g.place ∉ begunPlaces) : fget q g (maintBegun op s) = fget q g s := by
  have hbusy : fget q g (maintBusy true s) = fget q g s := fget_maintBusy hg hne
  simp only [begunPlaces, List.map_cons, List.map_nil, List.mem_cons, List.not_mem_nil, or_false, not_or] at hne
  obtain ⟨-, -, hskipped, hdone, hop⟩ := hne
  unfold maintBegun
  rw [fget_setMem, fget_fset_place hg (by decide) hop, fget_fset_place hg (by decide) hdone, fget_fset_place hg (by decide) hskipped, hbusy]

theorem fget_busy_maintBusy {b : Bool} : fget LCH.page LCH.STATUS_MAINT_BUSY (maintBusy b s) = b2n b :=
  (fget_fsetB_place (by decide) (by decide) (by decide)).trans (fget_fsetB_same _ _ _ _ (by decide))

theorem maintBegun_shows : fget LCH.page LCH.STATUS_MAINT_BUSY (maintBegun op s) = 1 ∧ fget LCH.page LCH.MAINT_CMD_OP (maintBegun op s) = op.code := by
  have hcode : op.code < 2 ^ LCH.MAINT_CMD_OP.width := by cases op <;> decide
  unfold maintBegun
  refine ⟨?_, (fget_setMem ..).trans (fget_fset_lt hcode)⟩
  rw [fget_setMem, fget_fset_place (by decide) (by decide) (by decide), fget_fset_place (by decide) (by decide) (by decide),
    fget_fset_place (by decide) (by decide) (by decide), fget_busy_maintBusy]
  rfl

/-- The beginning of an operation changes neither the lines nor the range. -/
theorem covered_maintBegun : covered (maintBegun op s) = covered s := by
  have hrange : maintRange (maintBegun op s) = maintRange s := by
    unfold maintRange
    rw [fget_maintBegun (by decide) (by decide), fget_maintBegun (by decide) (by decide), fget_maintBegun (by decide) (by decide)]
  have hall : fon LCH.page LCH.MAINT_CMD_ALL (maintBegun op s) = fon LCH.page LCH.MAINT_CMD_ALL s := fon_congr (fget_maintBegun (by decide) (by decide))
  unfold covered
  rw [hrange, hall]
  rfl

theorem locked_maintBegun {w : Nat} : locked w (maintBegun op s) = locked w s := congrArg (bit · w) (fget_maintBegun (by decide) (by decide))

/-- An operation on a range without evictions and fills, as it ends: the state it leaves shows it busy, by its number. -/
theorem maintRun_shows (hidle : fon LCH.page LCH.STATUS_MAINT_BUSY s = false) (hquiet : quiet s) :
    fget LCH.page LCH.STATUS_MAINT_BUSY (maintRun op [] s) = 1 ∧ fget LCH.page LCH.MAINT_CMD_OP (maintRun op [] s) = op.code := by
  have hkept : ∀ g : Fld, g.inPage → g.place ∉ maintPlaces → fget LCH.page g (maintRun op [] s) = fget LCH.page g (maintBegun op s) := fun g hg hne => by
    rw [maintRun_idle hidle]
    exact foldl_maintLine_kept (P := fun z => fget LCH.page g z = fget LCH.page g (maintBegun op s)) hquiet.maintBegun (fun _ _ ht hz => (fget_maintLine ht hg hne).trans hz) rfl
  obtain ⟨hbusy, hop⟩ := maintBegun_shows (op := op) (s := s)
  exact ⟨(hkept _ (by decide) (by decide)).trans hbusy, (hkept _ (by decide) (by decide)).trans hop⟩

theorem maintRun_cleans (hidle : fon LCH.page LCH.STATUS_MAINT_BUSY s = false) (hquiet : quiet s) (hk : k ∈ covered s)
    (hleft : (maintRun .clean [] s).mem.lines.find k = some d) : d.dirty = false := by
  rw [maintRun_idle hidle, covered_maintBegun] at hleft
  refine foldl_maintLine_each (Q := fun k t => ∀ d, t.mem.lines.find k = some d → d.dirty = false) (s := maintBegun .clean s) hquiet.maintBegun (fun t k ht d hd => ?_)
    (fun t k j ht hclean d hd => ?_) hk d hleft
  · cases hfind : t.mem.lines.find k with
    | none =>
      rw [maintLine_absent ht hfind, hfind] at hd
      cases hd
    | some c =>
      rw [maintLine_valid ht hfind, find_maintOn_clean hfind] at hd
      exact Option.some.inj hd ▸ rfl
  · obtain ⟨c, hc, rfl | rfl⟩ := find_maintLine ht hd
    · exact hclean d hc
    · rfl

theorem maintRun_drops (hop : op ≠ .clean) (hidle : fon LCH.page LCH.STATUS_MAINT_BUSY s = false) (hquiet : quiet s) (hk : k ∈ covered s)
    (hlock : locked (k % 16) s = false) : (maintRun op [] s).mem.lines.find k = none := by
  rw [maintRun_idle hidle, covered_maintBegun]
  have hend : locked (k % 16) ((covered s).foldl (maintLine op []) (maintBegun op s)) = false :=
    foldl_maintLine_kept (P := fun z => locked (k % 16) z = false) hquiet.maintBegun (fun _ _ ht hz => (locked_maintLine ht).trans hz) (locked_maintBegun.trans hlock)
  refine foldl_maintLine_each (Q := fun k t => locked (k % 16) t = false → t.mem.lines.find k = none) (s := maintBegun op s) hquiet.maintBegun (fun t k ht hunlocked => ?_)
    (fun t k j ht hnone hunlocked => ?_) hk hend
  · rw [locked_maintLine ht] at hunlocked
    cases hfind : t.mem.lines.find k with
    | none => rw [maintLine_absent ht hfind, hfind]
    | some c => rw [maintLine_valid ht hfind, find_maintOn_unlocked hop hunlocked]
  · rw [locked_maintLine ht] at hunlocked
    refine Option.eq_none_iff_forall_ne_some.2 fun d hd => ?_
    obtain ⟨c, hc, -⟩ := find_maintLine ht hd
    rw [hnone hunlocked] at hc
    cases hc

/-- INVALIDATE discards: it writes nothing to DRAM (R370). -/
theorem maintRun_invalidate_dram (hidle : fon LCH.page LCH.STATUS_MAINT_BUSY s = false) (hquiet : quiet s) : (maintRun .invalidate [] s).mem.dram = s.mem.dram := by
  have hline : ∀ (k : Nat) (c : CLine) (t : State), (maintOn .invalidate k c t).mem.dram = t.mem.dram := fun k c t =>
    ite_kept (P := fun z : State => z.mem.dram = t.mem.dram) rfl (by rw [dropLine_mem, discarded_mem])
  rw [maintRun_idle hidle]
  refine foldl_maintLine_kept (P := fun z => z.mem.dram = s.mem.dram) hquiet.maintBegun (fun t k ht hz => ?_) maintBegun_dram
  cases hfind : t.mem.lines.find k with
  | none => rwa [maintLine_absent ht hfind]
  | some c => rw [maintLine_valid ht hfind, hline, hz]

/-! ### The commands (R370 to R372) -/

theorem sticky_maintRej : hasSticky LCH.page LCH.kMAINT_REJ (sticky LCH.page LCH.kMAINT_REJ s) := hasSticky_sticky (by decide)

theorem zero_rejected (par : List (Nat × CachePar)) (hrej : (fon LCH.page LCH.STATUS_MAINT_BUSY s || fon LCH.page LCH.MAINT_CMD_ALL s) = true) :
    exec (.zero par) s = .next (sticky LCH.page LCH.kMAINT_REJ s) := if_pos hrej

theorem maintenance_busy (i : Instr) (par : List (Nat × CachePar)) (hi : i ∈ [Instr.clean par, .invalidate par, .flush par, .zero par])
    (hbusy : fon LCH.page LCH.STATUS_MAINT_BUSY s = true) : Completes i s fun t => hasSticky LCH.page LCH.kMAINT_REJ t ∧ sameBut [.regs] s t ∧
      otherFields LCH.page [hdrSticky] s t := by
  have hrun : exec i s = .next (sticky LCH.page LCH.kMAINT_REJ s) := by
    simp only [List.mem_cons, List.not_mem_nil, or_false] at hi
    rcases hi with rfl | rfl | rfl | rfl
    · exact congrArg _ (maintRun_busy hbusy)
    · exact congrArg _ (maintRun_busy hbusy)
    · exact congrArg _ (maintRun_busy hbusy)
    · exact zero_rejected par (by rw [hbusy, Bool.true_or])
  exact ⟨_, hrun, sticky_maintRej, rfl, otherFields_sticky⟩

theorem zero_all (par : List (Nat × CachePar)) (hall : fon LCH.page LCH.MAINT_CMD_ALL s = true) : Completes (.zero par) s fun t =>
    hasSticky LCH.page LCH.kMAINT_REJ t ∧ sameBut [.regs] s t :=
  ⟨_, zero_rejected par (by rw [hall, Bool.or_true]), sticky_maintRej, rfl⟩

theorem maintenance_runs (hidle : fon LCH.page LCH.STATUS_MAINT_BUSY s = false) (hquiet : quiet s) :
    (Completes (.clean []) s fun t => fget LCH.page LCH.STATUS_MAINT_BUSY t = 1 ∧ fget LCH.page LCH.MAINT_CMD_OP t = 1 ∧
      ∀ k ∈ covered s, ∀ c, t.mem.lines.find k = some c → c.dirty = false) ∧
    (Completes (.invalidate []) s fun t => fget LCH.page LCH.STATUS_MAINT_BUSY t = 1 ∧ fget LCH.page LCH.MAINT_CMD_OP t = 2 ∧ t.mem.dram = s.mem.dram ∧
      ∀ k ∈ covered s, locked (k % 16) s = false → t.mem.lines.find k = none) ∧
    (Completes (.flush []) s fun t => fget LCH.page LCH.STATUS_MAINT_BUSY t = 1 ∧ fget LCH.page LCH.MAINT_CMD_OP t = 3 ∧
      ∀ k ∈ covered s, locked (k % 16) s = false → t.mem.lines.find k = none) := by
  refine ⟨⟨_, rfl, ?_⟩, ⟨_, rfl, ?_⟩, ⟨_, rfl, ?_⟩⟩
  · obtain ⟨hbusy, hop⟩ := maintRun_shows (op := .clean) hidle hquiet
    exact ⟨hbusy, hop, fun k hk c hc => maintRun_cleans hidle hquiet hk hc⟩
  · obtain ⟨hbusy, hop⟩ := maintRun_shows (op := .invalidate) hidle hquiet
    exact ⟨hbusy, hop, maintRun_invalidate_dram hidle hquiet, fun k hk hlock => maintRun_drops nofun hidle hquiet hk hlock⟩
  · obtain ⟨hbusy, hop⟩ := maintRun_shows (op := .flush) hidle hquiet
    exact ⟨hbusy, hop, fun k hk hlock => maintRun_drops nofun hidle hquiet hk hlock⟩

/-- A line held, and neither evicted nor filling, is zeroed in its way (R370). -/
theorem zeroLine_held (hway : wayOf a s = some (k, c)) (hevict : c.evicting = false) (hfill : c.filling = false) :
    zeroLine [] a s = touch k (putLine k { c with dirty := true, poison := false, data := 0 } s) := by
  have hsettle : settle s k = s := by
    unfold settle
    simp [find_of_wayOf hway, hevict, hfill]
  unfold zeroLine
  simp only [hway, hsettle, List.find?_nil]

/-- A ZERO begins on `n` lines. -/
def zeroBegun (n : Nat) (s : State) : State :=
  s |> maintBusy true |> fset LCH.page LCH.LOCK_SKIPPED 0 |> fset LCH.page LCH.MAINT_STATUS_LINES_DONE 0 |> fset LCH.page LCH.MAINT_CMD_OP 4
    |> setMem { (maintBusy true s).mem with maint := n }

theorem exec_zero_one (hidle : fon LCH.page LCH.STATUS_MAINT_BUSY s = false) (hall : fon LCH.page LCH.MAINT_CMD_ALL s = false) (hrange : maintRange s = (a, 1))
    (hin : a < usable s / 256) : exec (.zero []) s = .next (zeroLine [] a (zeroBegun 1 s)) := by
  have hone : min 1 (usable s / 256 - a) = 1 := by omega
  change execZero [] s = _
  unfold execZero
  rw [if_neg (by simp [hidle, hall]), hrange]
  simp only [hone]
  rfl

theorem fget_busy_zeroBegun : fget LCH.page LCH.STATUS_MAINT_BUSY (zeroBegun n s) = 1 := by
  unfold zeroBegun
  rw [fget_setMem, fget_fset_place (by decide) (by decide) (by decide), fget_fset_place (by decide) (by decide) (by decide),
    fget_fset_place (by decide) (by decide) (by decide), fget_busy_maintBusy]
  rfl

theorem wayOf_zeroBegun : wayOf a (zeroBegun n s) = wayOf a s := wayOf_congr rfl

theorem zero_zeroes (a k : Nat) (c : CLine) (hidle : fon LCH.page LCH.STATUS_MAINT_BUSY s = false) (hall : fon LCH.page LCH.MAINT_CMD_ALL s = false)
    (hrange : maintRange s = (a, 1)) (hin : a < usable s / 256) (hway : wayOf a s = some (k, c)) (hevict : c.evicting = false) (hfill : c.filling = false) :
    Completes (.zero []) s fun t => fget LCH.page LCH.STATUS_MAINT_BUSY t = 1 ∧ t.mem.lines.find k = some { c with dirty := true, poison := false, data := 0 } := by
  have hheld : wayOf a (zeroBegun 1 s) = some (k, c) := wayOf_zeroBegun.trans hway
  refine ⟨_, (exec_zero_one hidle hall hrange hin).trans (congrArg _ (zeroLine_held hheld hevict hfill)), ?_, ?_⟩
  · rw [fget_touch, fget_putLine (by decide) (by decide), fget_busy_zeroBegun]
  · rw [touch_lines, putLine_mem]
    exact Store.find_insert_same ..

/-! ### MAINT_DONE (R371, R372) -/

/-- An operation ended: its lines are shown, and the interrupt is raised. -/
def maintEnded (s : State) : State := s |> maintBusy false |> fset LCH.page LCH.MAINT_STATUS_LINES_DONE s.mem.maint |> raise LCH.page LCH.iMAINT_DONE

theorem maintEnded_shows : fget LCH.page LCH.STATUS_MAINT_BUSY (maintEnded s) = 0 ∧ hasInt LCH.page LCH.iMAINT_DONE (maintEnded s) ∧
    fget LCH.page LCH.MAINT_STATUS_LINES_DONE (maintEnded s) = s.mem.maint % 2 ^ LCH.MAINT_STATUS_LINES_DONE.width ∧ (maintEnded s).evq = s.evq := by
  unfold maintEnded
  refine ⟨?_, hasInt_raise (by decide), ?_, raise_evq ..⟩
  · rw [fget_raise_place (by decide) (by decide), fget_fset_place (by decide) (by decide) (by decide), fget_busy_maintBusy]
    rfl
  · rw [fget_raise_place (by decide) (by decide), fget_fset_same]
    rfl

/-- Lines skipped because their ways are locked, reported. -/
def skipReported (n : Nat) (s : State) : State := s |> raise LCH.page LCH.iLOCK_SKIP
  |> emit 0x7002 srcMem (fget LCH.page LCH.MAINT_ADDR_LO s / 256 * 256) n (fget LCH.page LCH.MAINT_CMD_OP s)

theorem exec_maintDone (hbusy : fon LCH.page LCH.STATUS_MAINT_BUSY s = true) : exec .maintDone s =
    .next ((if fget LCH.page LCH.LOCK_SKIPPED s = 0 then id else skipReported (fget LCH.page LCH.LOCK_SKIPPED s)) (maintEnded s)) := by
  change execMaintDone s = _
  unfold execMaintDone
  simp only [hbusy, if_true]
  rfl

theorem maintDone_ends (hbusy : fon LCH.page LCH.STATUS_MAINT_BUSY s = true) : Completes .maintDone s fun t => fget LCH.page LCH.STATUS_MAINT_BUSY t = 0 ∧
    hasInt LCH.page LCH.iMAINT_DONE t ∧ fget LCH.page LCH.MAINT_STATUS_LINES_DONE t = s.mem.maint % 2 ^ LCH.MAINT_STATUS_LINES_DONE.width ∧
    (fget LCH.page LCH.LOCK_SKIPPED s ≠ 0 → hasInt LCH.page LCH.iLOCK_SKIP t ∧ t.evq.length = s.evq.length + 1) ∧
    (fget LCH.page LCH.LOCK_SKIPPED s = 0 → t.evq = s.evq) ∧ sameBut [.regs, .evq, .out, .msixPend] s t := by
  have hsame := sameBut_of (execMaintDone_kept (m := fun u => [Part.regs, .evq, .out, .msixPend].foldr State.clear u) (fun _ => rfl) (.refl s)) (exec_maintDone hbusy)
  obtain ⟨hended, hint, hlines, hevq⟩ := maintEnded_shows (s := s)
  refine ⟨_, exec_maintDone hbusy, ?_⟩
  by_cases hskipped : fget LCH.page LCH.LOCK_SKIPPED s = 0
  · rw [if_pos hskipped] at hsame ⊢
    exact ⟨hended, hint, hlines, fun hne => absurd hskipped hne, fun _ => hevq, hsame⟩
  · rw [if_neg hskipped] at hsame ⊢
    have hkept : ∀ g : Fld, g.inPage → g.place ≠ hdrIntStatus.place → fget LCH.page g (skipReported (fget LCH.page LCH.LOCK_SKIPPED s) (maintEnded s)) =
        fget LCH.page g (maintEnded s) := fun g hg hne => fget_raise_place hg hne
    have hraised : hasInt LCH.page LCH.iLOCK_SKIP (raise LCH.page LCH.iLOCK_SKIP (maintEnded s)) := hasInt_raise (by decide)
    have hstands : hasInt LCH.page LCH.iMAINT_DONE (raise LCH.page LCH.iLOCK_SKIP (maintEnded s)) := hint.raise (by decide)
    refine ⟨(hkept _ (by decide) (by decide)).trans hended, hstands, (hkept _ (by decide) (by decide)).trans hlines, fun _ => ⟨hraised, ?_⟩,
      fun hzero => absurd hzero hskipped, hsame⟩
    unfold skipReported
    rw [emit_evq, raise_evq, hevq, List.length_append]
    rfl

theorem maintDone_idle (hidle : fon LCH.page LCH.STATUS_MAINT_BUSY s = false) : Completes .maintDone s fun t => t = s :=
  ⟨s, congrArg _ (if_neg (by simp [hidle])), rfl⟩

/-- Settles O34: clause by clause, the requests, evictions, fills and maintenance of the line cache. -/
theorem lineCache : Obligations.LineCache := by
  unfold Obligations.LineCache
  intro s
  refine ⟨cacheRequest_beyond, fun cls addr len k c => cacheRequest_reads, fun cls addr len k c => cacheRequest_readsPoison,
    fun cls addr len bs k c => cacheRequest_writes, fun cls addr len w => cacheRequest_misses, fun cls addr len data k c => cacheRequest_meetsEviction,
    fun set way => evictionComplete_idle, fun set way c tag => evictionComplete_writes, fun set way => fillComplete_idle,
    fun set way c q => fillComplete_serves, fun set way c q errs => fillComplete_poisons, maintenance_busy, maintenance_runs, zero_all, zero_zeroes,
    maintDone_ends, maintDone_idle⟩

end Sys2Proof.Machine
end
